-- ==== Sys2Proof/Word.lean ====
section
/-! DEFINITION. The word types of the block: bytes, 32-bit registers, 24-bit addresses, 64-bit wheel entries (R3, R66, R92, R320). -/

namespace Sys2Proof

/-- One byte of a frame, a record, an image or the cellar store. -/
abbrev Byte := BitVec 8

/-- One register (00_scope.md: registers are 32 bits wide). -/
abbrev Word := BitVec 32

/-- A 24-bit byte address of the host ports' address space (R92). -/
abbrev Addr := BitVec 24

/-- One wheel entry (R320). -/
abbrev Entry := BitVec 64

end Sys2Proof
end

