-- ==== Sys2Proof/Syntax.lean ====
section
/-! DEFINITION. The commands of the block: one constructor of `Instr` for each row of spec/opcode_table.json, with the
row's operands. A row that happens in the field or inside the device carries as operands what is observed there
(a level, a measured value, a received frame): log entry 2. -/

namespace Sys2Proof

/-- The two host ports (R65). -/
inductive PortId where
  | hp0 | hp1
  deriving DecidableEq, Repr

/-- The two Rings (R12). -/
inductive RingId where
  | a | b
  deriving DecidableEq, Repr

/-- The four masters that take tickets (R63). -/
inductive Master where
  | hp0 | hp1 | trapeze | service
  deriving DecidableEq, Repr

/-- Where an event or a change comes from (R371). -/
inductive Origin where
  | internal | hp0 | hp1 | trapeze | service | fabric | loader | replay
  deriving DecidableEq, Repr

/-- A channel number (R12). -/
abbrev Ch := Fin 16

/-- A wheel number (R12). -/
abbrev WheelId := Fin 64

/-- What a host frame carries beside its operation, address and payload (R66, R69 to R71). `grant` is the ticket the
device takes where several are free (the spec names none: log entry 14); `whole` says that the frame holds the bytes
its LEN asks for; `crcGood` that its CRC matches; `mode3` the level of SCK at the CS_N fall. -/
structure Env where
  port : PortId
  ticket : Byte
  len : Byte
  seq : BitVec 16
  crcGood : Bool
  whole : Bool
  mode3 : Bool
  grant : Fin 64
  deriving DecidableEq, Repr

/-- An edge seen on a counting path: on path A or B, its electrical direction, the electrical level of the other path, and the µs
for which the new level has held; `both` is a sample in which both change. -/
structure CountObs where
  onB : Bool
  rising : Bool
  other : Bool
  both : Bool
  held : Nat
  deriving DecidableEq, Repr

/-- What the Ring measures at a step start tick (R206, R222): the rails T1 to T4 and the sense pad of each Ring channel, in mV. -/
structure TickObs where
  rails : List Nat
  pads : List Nat
  deriving DecidableEq, Repr

/-- The outcome of a presence-loop test (R257): closed with its loop resistance in Ω, open, or a short. -/
inductive PlugObs where
  | closed (r : Nat)
  | opened
  | shortGnd
  | shortVf
  deriving DecidableEq, Repr

/-- A diagnostic that clears when its condition has been absent for its time (R511, R512): a member of a channel, or
source `r` of a Ring. -/
inductive DiagRef where
  | member (n : Fin 16) (m : Fin 32)
  | ring (x : RingId) (r : Fin 20)
  deriving DecidableEq, Repr

/-- What an ACK frame of Trapeze answers (R423, R444): a MIRROR frame by its count with the response code, or a complete
epoch by its number. The spec gives the frame no byte layout. -/
inductive AckOf where
  | mirror (seq : BitVec 16) (status : Byte)
  | epoch (number : Word)
  deriving DecidableEq, Repr

/-- The steps of a planned swap on Trapeze (R446). -/
inductive SwapMsg where
  | req
  | go (epoch : Word)
  | done
  deriving DecidableEq, Repr

/-- The input parameter registers of a channel (R169). -/
inductive InputReg where
  | cfg | time | vth | chat | cntcfg
  deriving DecidableEq, Repr

/-- The threshold registers of a chain (R306). -/
inductive ThreshReg where
  | hi | lo | cfg
  deriving DecidableEq, Repr

/-- What the scrub finds in a unit (R460). -/
inductive ScrubObs where
  | clean | corrected | uncorrectable
  deriving DecidableEq, Repr

/-- A unit of the refresh pass (R461): a page read at the tightened margin, weak or not, or a step of the CRC of an image
slot on CU3. -/
inductive RefreshObs where
  | page (weak : Bool)
  | crcStart (slot : Bool)
  | crcEnd (slot : Bool)
  | passEnd
  deriving DecidableEq, Repr

/-- How a relocation goes (R458): the copy is made and the old sector erased, a program on the pool sector fails, or the erase of the old
sector fails. -/
inductive RelocObs where
  | done | programFails | eraseFails
  deriving DecidableEq, Repr

/-- What a telemetry update measures (R465): the host die's temperature in 1/16 °C, the Rings' in °C, VH and VIO in mV, and
the energy in mJ that each channel delivered in the second. -/
structure TlmObs where
  host : BitVec 16
  ringA : Byte
  ringB : Byte
  vh : BitVec 16
  vio : BitVec 16
  energy : List Nat
  deriving DecidableEq, Repr

/-- The source of a wake (R471): CS_N activity on a port with the mode that SCK's level gives its frame, an accepted change of a wake channel, or a rising SYNC edge. -/
inductive WakeObs where
  | csn (p : PortId) (mode3 : Bool)
  | channel (n : Ch)
  | sync
  deriving DecidableEq, Repr

/-- The commands of the block, one for each row of spec/opcode_table.json and in its order. A host row carries its frame:
what the frame holds (`Env`), and the address or index and the payload word that the row leaves open. -/
inductive Instr where
  /-- POWER_UP_START -/
  | powerUpStart (tmode : Bool)
  /-- HOST_START_VH_OK -/
  | hostStartVhOk
  /-- HOST_PORTS_ANSWER -/
  | hostPortsAnswer
  /-- START_ACTIVATION -/
  | startActivation
  /-- RESET_N -/
  | resetN
  /-- VH_PF_FALL -/
  | vhPfFall
  /-- POWER_FAIL_COMMIT_DONE -/
  | powerFailCommitDone (tmode vhPor : Bool)
  /-- VH_DIP_RECOVERY -/
  | vhDipRecovery
  /-- VH_BOR -/
  | vhBor
  /-- VIO_LOST -/
  | vioLost
  /-- VIO_RETURN -/
  | vioReturn
  /-- VF_UVLO_RISE -/
  | vfUvloRise (x : RingId)
  /-- RING_START_DONE -/
  | ringStartDone (x : RingId)
  /-- LINK_UP -/
  | linkUp (x : RingId)
  /-- RING_RESET_COMMAND -/
  | ringResetCommand (x : RingId)
  /-- RING_CONFIG_CONFIRM -/
  | ringConfigConfirm (x : RingId) (good : Bool)
  /-- VF_UVLO_FALL -/
  | vfUvloFall (x : RingId)
  /-- RING_POR -/
  | ringPor (x : RingId)
  /-- HOST_HEARTBEAT_SEND -/
  | hostHeartbeatSend
  /-- HOST_HEARTBEAT_RECEIVE -/
  | hostHeartbeatReceive (x : RingId) (good : Bool)
  /-- RING_HEARTBEAT_SEND -/
  | ringHeartbeatSend (x : RingId)
  /-- RING_HEARTBEAT_RECEIVE -/
  | ringHeartbeatReceive (x : RingId) (good : Bool)
  /-- LINK_LOST -/
  | linkLost (x : RingId)
  /-- LINK_TIMEOUT -/
  | linkTimeout (x : RingId)
  /-- LINK_COMMAND_FRAME -/
  | linkCommandFrame (x : RingId) (good : Bool)
  /-- LINK_CMD_RETRY -/
  | linkCmdRetry (x : RingId)
  /-- SAFE_PATH_FRAME -/
  | safePathFrame (x : RingId) (good : Bool)
  /-- HOLDOVER -/
  | holdover (x : RingId)
  /-- RING_FAULT_REPORT -/
  | ringFaultReport (x : RingId) (good : Bool)
  /-- ACCEPTED_CHANGE_ARRIVAL -/
  | acceptedChangeArrival (x : RingId) (good : Bool)
  /-- NOP -/
  | nop (e : Env) (a : Addr) (w : Word)
  /-- HELLO -/
  | hello (e : Env) (a : Addr) (w : Word)
  /-- READ -/
  | read (e : Env) (a : Addr) (w : Word)
  /-- WRITE -/
  | write (e : Env) (a : Addr) (w : Word) (obs : Option Int)
  /-- STATUS_CLEAR -/
  | statusClear (e : Env) (a : Addr) (w : Word)
  /-- POP -/
  | pop (e : Env) (a : Addr) (w : Word) (bad : Bool)
  /-- POP_BATCH -/
  | popBatch (e : Env) (a : Addr) (w : Word) (bad : BitVec 64)
  /-- FETCH -/
  | fetch (e : Env) (a : Addr) (w : Word) (whole : Bool)
  /-- RELEASE -/
  | release (e : Env) (a : Addr) (w : Word)
  /-- UNKNOWN_OP -/
  | unknownOp (e : Env) (op : Byte) (a : Addr) (w : Word)
  /-- RESPONSE_READY -/
  | responseReady (p : PortId)
  /-- RESPONSE_RETIRE -/
  | responseRetire (t : Fin 64)
  /-- PORT_REVERT -/
  | portRevert (p : PortId) (mode3 : Bool)
  /-- TIME_MARK -/
  | timeMark (e : Env) (w : Word)
  /-- CALTAG_STAGE -/
  | caltagStage (e : Env) (w : Word)
  /-- CALTAG_COMMIT -/
  | caltagCommit (e : Env) (w : Word)
  /-- IMG_OPEN -/
  | imgOpen (e : Env) (w : Word)
  /-- SLOT_ERASE_DONE -/
  | slotEraseDone (fails : Bool)
  /-- IMG_WDATA -/
  | imgWdata (e : Env) (w : Word) (fails : Bool)
  /-- IMG_CLOSE -/
  | imgClose (e : Env) (w : Word)
  /-- VERIFY_DONE -/
  | verifyDone
  /-- IMG_ABORT -/
  | imgAbort (e : Env) (w : Word)
  /-- ACTIVATE -/
  | activate (e : Env) (w : Word)
  /-- STAGING_ACK -/
  | stagingAck (x : RingId) (good : Bool)
  /-- ACTIVATION_BOUNDARY -/
  | activationBoundary
  /-- CLAIM_QUERY -/
  | claimQuery (e : Env) (w : Word)
  /-- FABRIC_STEP_TICK -/
  | fabricStepTick
  /-- EVALUATION_COMPLETE -/
  | evaluationComplete (tenNs : BitVec 16)
  /-- FAB_HSIG_WRITE -/
  | fabHsigWrite (e : Env) (i : Fin 4) (w : Word)
  /-- FAB_HSIGSET -/
  | fabHsigset (e : Env) (i : Fin 4) (w : Word)
  /-- FAB_HSIGCLR -/
  | fabHsigclr (e : Env) (i : Fin 4) (w : Word)
  /-- FAB_HSIGPLS -/
  | fabHsigpls (e : Env) (i : Fin 4) (w : Word)
  /-- FAB_SEL -/
  | fabSel (e : Env) (w : Word)
  /-- FAB_WIN -/
  | fabWin (e : Env) (i : Fin 4) (w : Word)
  /-- FAB_APPLY -/
  | fabApply (e : Env) (w : Word)
  /-- FAB_STEPCFG -/
  | fabStepcfg (e : Env) (w : Word)
  /-- FUNCTION_CHANGE -/
  | functionChange (e : Env) (n : Ch) (w : Word)
  /-- MODE_PARAM_WRITE -/
  | modeParamWrite (e : Env) (n : Ch) (w : Word)
  /-- INPUT_PARAM_WRITE -/
  | inputParamWrite (e : Env) (n : Ch) (r : InputReg) (w : Word)
  /-- DEBOUNCE_EXPIRY -/
  | debounceExpiry (n : Ch) (partner seen : Bool) (pad : Int) (lead : Nat)
  /-- COUPLING_HOLD_EXPIRY -/
  | couplingHoldExpiry (n : Ch)
  /-- CHATTER_BLOCK_END -/
  | chatterBlockEnd (n : Ch)
  /-- WETTING_PULSE_START -/
  | wettingPulseStart (n : Ch)
  /-- WETTING_PULSE_END -/
  | wettingPulseEnd (n : Ch) (pad : Int)
  /-- WET_REPEAT -/
  | wetRepeat (n : Ch)
  /-- COUNT_EDGE -/
  | countEdge (n : Ch) (o : CountObs)
  /-- COUNT_DELIVERY -/
  | countDelivery (n : Ch) (good : Bool)
  /-- DI_COUNT_WRITE -/
  | diCountWrite (e : Env) (n : Ch) (w : Word)
  /-- OPEN_WIRE -/
  | openWire (n : Ch)
  /-- REVERSED -/
  | reversed (n : Ch)
  /-- OVERRANGE -/
  | overrange (n : Ch)
  /-- DIAGNOSTIC_CLEAR -/
  | diagnosticClear (d : DiagRef)
  /-- DO_CMD_WRITE -/
  | doCmdWrite (e : Env) (n : Ch) (w : Word)
  /-- DO_DUTY_WRITE -/
  | doDutyWrite (e : Env) (n : Ch) (w : Word)
  /-- PWM_PERIOD_START -/
  | pwmPeriodStart (n : Ch)
  /-- INRUSH_END -/
  | inrushEnd (n : Ch) (limiting : Bool)
  /-- OVERCURRENT -/
  | overcurrent (n : Ch)
  /-- SHORT_GND -/
  | shortGnd (n : Ch)
  /-- OFF_BLANK_END -/
  | offBlankEnd (n : Ch)
  /-- SHORT_VF -/
  | shortVf (n : Ch) (reverse : Bool)
  /-- OPEN_LOAD_ON -/
  | openLoadOn (n : Ch)
  /-- OPEN_LOAD_OFF -/
  | openLoadOff (n : Ch)
  /-- CH_THERMAL -/
  | chThermal (n : Ch)
  /-- THERMAL_RETRY -/
  | thermalRetry (n : Ch)
  /-- TEMP_WARN -/
  | tempWarn (x : RingId) (hot : Bool)
  /-- RING_THERMAL -/
  | ringThermal (x : RingId)
  /-- GANG_IMBALANCE -/
  | gangImbalance (n : Ch)
  /-- VF_LOW -/
  | vfLow (x : RingId)
  /-- VF_LOW_CLEAR -/
  | vfLowClear (x : RingId)
  /-- RING_OVERLOAD -/
  | ringOverload (x : RingId) (high : Bool)
  /-- RING_OVERLOAD_LATCH -/
  | ringOverloadLatch (x : RingId)
  /-- RING_STEP_TICK -/
  | ringStepTick (x : RingId) (o : TickObs)
  /-- SHED_EN_OFF -/
  | shedEnOff (e : Env) (x : RingId) (w : Word)
  /-- TAP_MOVE_UP -/
  | tapMoveUp (n : Ch) (o : TickObs)
  /-- TAP_OVERLOAD -/
  | tapOverload (x : RingId) (rail : Fin 3) (o : TickObs)
  /-- TAPS_REGULATED -/
  | tapsRegulated (x : RingId) (rails : BitVec 3)
  /-- T3_AVAILABILITY -/
  | t3Availability (x : RingId) (up : Bool) (o : TickObs)
  /-- AN_SET_WRITE -/
  | anSetWrite (e : Env) (n : Ch) (w : Word)
  /-- AN_CMD_WRITE -/
  | anCmdWrite (e : Env) (n : Ch) (w : Word)
  /-- OPEN_LOOP -/
  | openLoop (n : Ch)
  /-- LOAD_SHORT -/
  | loadShort (n : Ch)
  /-- SUPPLY_LIMIT -/
  | supplyLimit (n : Ch)
  /-- AO_OVERLOAD -/
  | aoOverload (n : Ch)
  /-- AO_OPEN -/
  | aoOpen (n : Ch)
  /-- NE43_DIAG -/
  | ne43Diag (n : Ch)
  /-- CAP_ZERO -/
  | capZero (e : Env) (n : Ch) (w : Word)
  /-- CAP_SPAN -/
  | capSpan (e : Env) (n : Ch) (w : Word)
  /-- ZS_CLEAR -/
  | zsClear (e : Env) (n : Ch) (w : Word)
  /-- TRIM_WRITE -/
  | trimWrite (e : Env) (n : Ch) (gain : Bool) (w : Word)
  /-- CALIBRATION_PERSIST -/
  | calibrationPersist (n : Ch)
  /-- SVC_ARM -/
  | svcArm (e : Env) (w : Word)
  /-- ARM_TIMEOUT -/
  | armTimeout
  /-- BUTTON_PRESS -/
  | buttonPress (span : Bool)
  /-- BUTTON_RELEASE -/
  | buttonRelease (span : Bool)
  /-- BUTTON_CAPTURE -/
  | buttonCapture (span : Bool)
  /-- LED_BLINK -/
  | ledBlink
  /-- FSK_TX -/
  | fskTx (e : Env) (x : RingId) (w : Word)
  /-- FSK_QUIET_END -/
  | fskQuietEnd (x : RingId)
  /-- FSK_TX_END -/
  | fskTxEnd (x : RingId)
  /-- CARRIER_DETECT -/
  | carrierDetect (x : RingId)
  /-- CARRIER_RELEASE -/
  | carrierRelease (x : RingId)
  /-- FSK_CHAR_RECEIVED -/
  | fskCharReceived (x : RingId) (d : Byte) (parity framing : Bool)
  /-- FSK_RX_READ -/
  | fskRxRead (e : Env) (x : RingId) (w : Word)
  /-- RESP_TIMEOUT -/
  | respTimeout (x : RingId)
  /-- TOUCH_SCAN -/
  | touchScan (n : Ch) (c : Nat) (failed : Bool)
  /-- RESEED -/
  | reseed (e : Env) (n : Ch) (w : Word)
  /-- PLUG_TEST -/
  | plugTest (n : Ch) (o : PlugObs)
  /-- CONVERSION_RESULT -/
  | conversionResult (x : RingId) (i : Fin 64) (code : BitVec 12) (lost full : Bool)
  /-- ROTATION_EVENT -/
  | rotationEvent (x : RingId)
  /-- SLICE_HANDOVER -/
  | sliceHandover (x : RingId)
  /-- SLICE_CALIBRATION_DONE -/
  | sliceCalibrationDone (x : RingId) (k : Fin 5) (pass : Bool) (cal : Word)
  /-- ADC_LATE -/
  | adcLate (x : RingId) (i : Fin 64)
  /-- ADC_FRAME_BOUNDARY -/
  | adcFrameBoundary
  /-- REF_SETTLED -/
  | refSettled (x : RingId)
  /-- REF_FAULT -/
  | refFault (x : RingId) (off : Bool)
  /-- ADC_ENTRY_WRITE -/
  | adcEntryWrite (e : Env) (x : RingId) (i : Fin 64) (w : Word)
  /-- ADC_REFCFG_WRITE -/
  | adcRefcfgWrite (e : Env) (x : RingId) (w : Word)
  /-- ADC_ROTCFG_WRITE -/
  | adcRotcfgWrite (e : Env) (x : RingId) (w : Word)
  /-- FILT_CHN_CFG_WRITE -/
  | filtChnCfgWrite (e : Env) (n : Ch) (w : Word)
  /-- FILT_CFG_WRITE -/
  | filtCfgWrite (e : Env) (w : Word)
  /-- THRESHOLD_WRITE -/
  | thresholdWrite (e : Env) (n : Ch) (r : ThreshReg) (w : Word)
  /-- FILT_SYNC_GO -/
  | filtSyncGo (e : Env) (w : Word)
  /-- FILT_SYNC_ARM -/
  | filtSyncArm (e : Env) (w : Word)
  /-- SYNC_EDGE -/
  | syncEdge
  /-- WHEEL_FLUSH -/
  | wheelFlush (e : Env) (k : WheelId) (w : Word)
  /-- WHEEL_PROD_WRITE -/
  | wheelProdWrite (e : Env) (k : WheelId) (w : Word)
  /-- WHEEL_AGE -/
  | wheelAge (k : WheelId)
  /-- FAULT_RAISE -/
  | faultRaise (h : Fin 31)
  /-- FAULT_CLEAR -/
  | faultClear (h : Fin 31)
  /-- FLT_RELEASE -/
  | fltRelease (e : Env) (w : Word)
  /-- RELEASE_ACK -/
  | releaseAck (p : PortId) (x : RingId) (good : Bool)
  /-- WD_KICK -/
  | wdKick (e : Env) (w : Word)
  /-- WD_EXPIRY -/
  | wdExpiry
  /-- REARM -/
  | rearm (e : Env) (w : Word)
  /-- FLT_WD_CFG_WRITE -/
  | fltWdCfgWrite (e : Env) (w : Word)
  /-- COLLECTOR_MISMATCH -/
  | collectorMismatch (index : BitVec 16)
  /-- SAFE_PATH_CHECK -/
  | safePathCheck (x : RingId)
  /-- INJ_RAISE -/
  | injRaise (e : Env) (w : Word)
  /-- INJ_CLEAR -/
  | injClear (e : Env) (w : Word)
  /-- INJ_PULSE -/
  | injPulse (e : Env) (w : Word)
  /-- INJ_PULSE_END -/
  | injPulseEnd (k : Fin 256) (m : Byte)
  /-- FLT_INJCFG_WRITE -/
  | fltInjcfgWrite (e : Env) (w : Word)
  /-- FLT_REACT_WRITE -/
  | fltReactWrite (e : Env) (k : Fin 256) (w : Word)
  /-- FLT_CHSAFE_WRITE -/
  | fltChsafeWrite (e : Env) (n : Ch) (w : Word)
  /-- EVENT_REPORT -/
  | eventReport (code : BitVec 16) (o : Origin) (p1 p2 : Word)
  /-- RECORD_WRITTEN -/
  | recordWritten
  /-- TAIL_CACHE_COMMIT -/
  | tailCacheCommit
  /-- PERIODIC_COMMIT -/
  | periodicCommit
  /-- REC_CLEAR -/
  | recClear (e : Env) (w : Word)
  /-- JNL_CLEAR -/
  | jnlClear (e : Env) (w : Word)
  /-- CURSOR_WRITE -/
  | cursorWrite (e : Env) (journal : Bool) (w : Word) (bad : Bool)
  /-- REPLAY_TRIGGER -/
  | replayTrigger (e : Env) (w : Word)
  /-- REPLAY_ERASE -/
  | replayErase (e : Env) (w : Word)
  /-- REPLAY_ERASE_DONE -/
  | replayEraseDone
  /-- REPLAY_MODE_WRITE -/
  | replayModeWrite (e : Env) (w : Word)
  /-- RERUN -/
  | rerun (e : Env) (w : Word)
  /-- RERUN_FRAME -/
  | rerunFrame
  /-- ABORT_RERUN -/
  | abortRerun (e : Env) (w : Word)
  /-- SEAL -/
  | seal (e : Env) (w : Word)
  /-- RPL_XDATA -/
  | rplXdata (e : Env) (store : Bool) (w : Word)
  /-- CHK_START -/
  | chkStart (e : Env) (u : Fin 4) (w : Word)
  /-- CHK_SCAN -/
  | chkScan (e : Env) (u : Fin 4) (w : Word)
  /-- CHK_ABORT -/
  | chkAbort (e : Env) (u : Fin 4) (w : Word)
  /-- CHK_DATA -/
  | chkData (e : Env) (u : Fin 4) (w : Word)
  /-- CHK_RUN_WRITE -/
  | chkRunWrite (e : Env) (u : Fin 4) (w : Word)
  /-- SCAN_UNIT_DONE -/
  | scanUnitDone (u : Fin 4) (bad : Bool)
  /-- TZ_HEARTBEAT_SEND -/
  | tzHeartbeatSend
  /-- HEARTBEAT -/
  | heartbeat (b : List Byte)
  /-- QUAL_SEND -/
  | qualSend
  /-- QUAL -/
  | qual (b : List Byte)
  /-- MIRROR -/
  | mirror (b : List Byte)
  /-- MIRROR_RESEND -/
  | mirrorResend
  /-- ACK -/
  | ack (a : AckOf) (needFull : Bool)
  /-- EPOCH -/
  | epoch (b : List Byte)
  /-- SWAP_REQ -/
  | swapReq
  /-- SWAP_GO -/
  | swapGo (number : Word) (idle : Bool)
  /-- SWAP_DONE -/
  | swapDone
  /-- SWAP_DONE_TIMEOUT -/
  | swapDoneTimeout (idle : Bool)
  /-- PAIR_SWAP -/
  | pairSwap (e : Env) (w : Word)
  /-- PAIR_RELEASE -/
  | pairRelease (e : Env) (w : Word)
  /-- REQUALIFY -/
  | requalify (e : Env) (w : Word)
  /-- TIGHTROPE_TOGGLE -/
  | tightropeToggle
  /-- TL_QUAL_CHANGE -/
  | tlQualChange (up idle : Bool)
  /-- SOURCE_COLLAPSE -/
  | sourceCollapse
  /-- TIGHTROPE_HB_LOST -/
  | tightropeHbLost (port : BitVec 2)
  /-- TRAPEZE_LOST -/
  | trapezeLost
  /-- STALE_LINK_FAIL -/
  | staleLinkFail
  /-- MIRROR_GAP -/
  | mirrorGap
  /-- LISTEN_TIME_EXPIRY -/
  | listenTimeExpiry (idle : Bool)
  /-- TAKEOVER_DELAY_EXPIRY -/
  | takeoverDelayExpiry (idle : Bool)
  /-- CLAIM_TIMEOUT -/
  | claimTimeout (port : BitVec 2)
  /-- BACKOFF_EXPIRY -/
  | backoffExpiry (idle : Bool)
  /-- DRIVE_GATE_TIMEOUT -/
  | driveGateTimeout (x : RingId)
  /-- SCRUB_UNIT -/
  | scrubUnit (o : ScrubObs)
  /-- REFRESH_UNIT -/
  | refreshUnit (o : RefreshObs)
  /-- SECTOR_RELOCATION -/
  | sectorRelocation (l : Fin 216) (o : RelocObs)
  /-- WEAR_EXCHANGE -/
  | wearExchange (l : Fin 216)
  /-- TRIM_REFERENCE -/
  | trimReference
  /-- CH_TRIM -/
  | chTrim (n : Ch)
  /-- TLM_UPDATE -/
  | tlmUpdate (o : TlmObs)
  /-- SYNC_OUTPUT_PULSE -/
  | syncOutputPulse
  /-- SYNC_LOST -/
  | syncLost
  /-- RUN_REQUEST -/
  | runRequest (e : Env) (w : Word)
  /-- QUIET_REQUEST -/
  | quietRequest (e : Env) (w : Word)
  /-- CELLAR_REQUEST -/
  | cellarRequest (e : Env) (w : Word)
  /-- RETENTION_BEGIN -/
  | retentionBegin
  /-- CELLAR_TICK_MARK -/
  | cellarTickMark
  /-- INTERNAL_WAKE -/
  | internalWake
  /-- INTERNAL_WAKE_END -/
  | internalWakeEnd
  /-- WAKE -/
  | wake (o : WakeObs)
  /-- RUN_RETURN -/
  | runReturn
  /-- RESET_N_RELEASE -/
  | resetNRelease (tmode vhPor : Bool)
  /-- IMAGE_EXPANDED -/
  | imageExpanded
  /-- TIGHTROPE_HB_RETURN -/
  | tightropeHbReturn
  /-- TRAPEZE_FRAME_DISCARD -/
  | trapezeFrameDiscard
  /-- EPOCH_SEND_DONE -/
  | epochSendDone
  /-- SWAP_DUE -/
  | swapDue
  /-- BG_BEHIND -/
  | bgBehind (t : Fin 8)
  /-- HOST_MARK_EXPIRY -/
  | hostMarkExpiry
  deriving DecidableEq, Repr

end Sys2Proof
end

