-- ==== Sys2Proof/Config.lean ====
section
/-! DEFINITION. The free values: constants without a body, one for each kind of value that the spec leaves open (log entry 6). Nothing in Lean can evaluate one, so a claim about a free value holds for every value of it. -/

namespace Sys2Proof.Config

/-- The `k`-th free 32-bit value of a run: a measured quantity or an unstated result (R8, log entry 6). -/
opaque freeWord : Nat → BitVec 32

/-- The unique identifier of the part, fixed at manufacture (R92, log entry 5). -/
opaque uid : BitVec 64

/-- A byte of the cellar store or of configuration SRAM whose layout the spec does not give (R380, R457, R412, log entry 6). -/
opaque hiddenByte : Nat → BitVec 8

/-- A byte of the wheel memory at a place that stores no entry, by what the wheels hold and the place (R329, R412, log entry 6). -/
opaque wheelByte : List Nat → Nat → BitVec 8

/-- An output of a chain whose inputs are not constant: the half-band and notch coefficients are not in the spec (R291,
R292, log entry 12). -/
opaque filtered : Nat → BitVec 32

end Sys2Proof.Config
end

