-- ==== Sys2Proof/Machine/State.lean ====
section
/-! DEFINITION. The state of the block as plain data: every register, FIFO, buffer, counter, mode and pin that the
spec gives the part, and the queue of commands that wait. -/

namespace Sys2Proof.Machine

/-- Reasons for a fault of the interface. No meaning of this block answers with one: the spec gives every condition a
status code, a fault source or an event record. `memoryAbsent` stands for an access to an address that does not exist;
the part answers such an access BAD_ADDR (R76), so nothing raises it (safe). -/
inductive Fault where
  | memoryAbsent
  deriving DecidableEq, Repr

/-- Reasons for a refusal of the interface. `notModelled` names a row of the table whose meaning is not written yet;
Dispatch.lean alone answers with it (safe: a run stops there). -/
inductive Refusal where
  | notModelled (mnemonic : String)
  deriving DecidableEq, Repr

/-! ## Time, tickets and host ports (03) -/

/-- The state of one of the 64 tickets (R80). `drop` marks a ticket that RELEASE met while it executed (R74). -/
inductive TicketState where
  | free
  | exec (m : Master) (drop : Bool)
  | ready (m : Master) (since : Nat) (order : Nat)
  deriving DecidableEq, Repr

/-- A response of the device (R72). The CRC is a function of the rest. -/
structure Response where
  rstat : Byte
  ticket : Byte
  seq : BitVec 16
  op : Byte
  info : Word
  data : List Word
  deriving DecidableEq, Repr

/-- One ticket with the response it carries while READY. -/
structure Ticket where
  st : TicketState
  resp : Option Response
  deriving DecidableEq, Repr

/-- A request that holds a ticket and waits for, or is in, execution (R78). `canned` is the outcome of a request
that performs nothing: a cached response, or DUP_CONFLICT (R84). `early` marks a frame answered without execution. -/
structure Request where
  ticket : Fin 64
  op : Byte
  addr : Addr
  len : Byte
  seq : BitVec 16
  payload : Word
  fallTick : Word
  obs : Option Int
  canned : Option Response
  deriving DecidableEq, Repr

/-- One entry of a port's sequence window (R84): the header and CRC of the request, its ticket, and its response
once made. -/
structure WinEntry where
  seq : BitVec 16
  op : Byte
  addr : Addr
  len : Byte
  crc : BitVec 16
  ticket : Fin 64
  held : Bool
  resp : Option Response
  deriving DecidableEq, Repr

/-- What the device sends beside a FETCH or a status (R69, R73). -/
structure PortOut where
  status : List Byte
  fetched : Option Response
  deriving DecidableEq, Repr

/-- One host port (R65). `helloPend` are the answered HELLOs by their SEQ that wait for delivery, `helloDone` the one that takes effect at
the next CS_N fall (R90). -/
structure Port where
  rev : Nat
  quad : Bool
  helloPend : List (BitVec 16 × Nat × Bool)
  helloDone : Option (Nat × Bool)
  cfg : Word
  irqEn : Byte
  sticky : Byte
  cntBusy : BitVec 16
  cntDisc : BitVec 16
  dupConf : BitVec 16
  dupAns : BitVec 16
  retired : BitVec 16
  seqValid : Bool
  seqLast : BitVec 16
  spiMode : Bool
  lastTicket : Byte
  lastSeq : Byte
  window : List WinEntry
  waiting : List Request
  executing : Option (Request × Response)
  out : PortOut
  deriving DecidableEq, Repr

/-- One shadow of a wide value (R86, R87): the master, the address of the HI word, and the half it holds. -/
structure Shadow where
  m : Master
  hi : Addr
  value : Word
  staged : Bool
  deriving DecidableEq, Repr

/-- Phases of the host die (R47 to R51): no supply, held by TMODE, starting (before and after step 2), running,
performing the reset commit, and held in reset with the commit ended. -/
inductive HostPhase where
  | off | tmode | starting | checked | run | resetCommit | resetHeld
  deriving DecidableEq, Repr

/-- Time registers and the host domain (R47, R50, R51, R93). `vhLow` says that VH is below VH_PF, since `dipAt`; `resetLow`
that RESET_N is low; `resetStart` that RESET_N started the host die; `beatAt` is the clock from which the next host heartbeats are
due (R26). `markAt` is the clock of the latest mark, and `refMark` the tick, host count and clock of the latest mark that may
trim. -/
structure TimeState where
  startClock : Nat
  vhLow : Bool
  dipAt : Nat
  resetLow : Bool
  resetStart : Bool
  beatAt : Nat
  caltag : BitVec 64
  calat : BitVec 48
  markTick : Word
  markHost : Word
  markAt : Option Nat
  refMark : Option (Word × Word × Nat)
  markEarly : Bool
  locked : Bool
  source : BitVec 2
  deriving DecidableEq, Repr

/-! ## Records (14) -/

/-- One record of either store (R367). FORMAT is 1 and the CRC is a function of the rest (`Record.bytes`). -/
structure Record where
  code : BitVec 16
  origin : Byte
  flags : Byte
  seq : Word
  opt : BitVec 48
  pwrcyc : BitVec 24
  rep : BitVec 16
  p1 : Word
  p2 : Word
  span : BitVec 16
  deriving DecidableEq, Repr

/-- An event in the staging buffer (R375). `mark` names the place of a capture header that takes the sequence number of the record
(R396). -/
structure Staged where
  code : BitVec 16
  origin : Byte
  flags : Byte
  p1 : Word
  p2 : Word
  opt : BitVec 48
  rep : BitVec 16
  last : BitVec 48
  mark : Option Nat
  deriving DecidableEq, Repr

/-- One master's record or journal window (R380). -/
structure Cursor where
  index : BitVec 13
  valid : Bool
  crcOk : Bool
  tail : Bool
  gen : BitVec 16
  words : List Word
  deriving DecidableEq, Repr

/-- The recorder and the journal (R365 to R389). `pfCommit` holds, while the power-fail commit runs, how many of the events staged
at its start are still to be programmed. -/
structure Recorder where
  events : List Record
  staged : List Staged
  journal : List Record
  seqNext : Word
  seqCommitted : Word
  optBase : BitVec 48
  optCommitted : BitVec 48
  pwrcyc : BitVec 24
  tailDirty : Bool
  tailDue : Nat
  tailRep : BitVec 16
  tailSpan : BitVec 16
  dirtyMark : Bool
  completion : Bool
  pfComplete : Bool
  tailLost : Bool
  estimated : Bool
  tailGen : BitVec 16
  lostFull : BitVec 16
  lostStaging : BitVec 16
  overflow : Nat
  jnlRefused : BitVec 16
  commitAt : Nat
  pfCommit : Option Nat
  swCommitted : Vector Word 16
  recCur : Vector Cursor 4
  jnlCur : Vector Cursor 4
  deriving DecidableEq, Repr

/-! ## Wheels (12) -/

/-- Epoch and estimated states that a MARK carries (R322, R323). -/
structure MarkCtx where
  epoch : Word
  estA : Bool
  estB : Bool
  deriving DecidableEq, Repr

/-- One wheel (R315 to R334). `q` holds the stored entries, oldest first, each with the clock at which it was stored. -/
structure Wheel where
  sizeLog2 : Nat
  overwrite : Bool
  consumer : Bool
  prod : Word
  base : Nat
  level : BitVec 16
  age : Byte
  lossEn : Bool
  q : List (Entry × Nat)
  head : Nat
  lastMark : Option MarkCtx
  gapNext : Bool
  gapPending : Bool
  headCtx : MarkCtx
  lost : Word
  evtLoss : Bool
  evtEcc : Bool
  deriving DecidableEq, Repr

/-! ## Fault collector (13) -/

/-- One live cause of a slot (R336, R357, R360): its member, whether it is injected, the tick of its raising, the class and reaction settled
then, and whether dry run suppressed its reaction (R362). -/
structure LiveCause where
  member : Byte
  inj : Bool
  since : Nat
  cls : BitVec 2
  react : BitVec 3
  dry : Bool
  deriving DecidableEq, Repr

/-- One source slot of the collector (R336 to R358). `real` and `inj` hold a bit for each member code (bit 0 for a
slot of one member), `cls`, `react` and `member` are those of the latest raising, and `setOn` names the channels on which its raisings set
REACTION. -/
structure FaultSlot where
  real : BitVec 32
  inj : BitVec 32
  sticky : Bool
  injSticky : Bool
  seen : Bool
  raises : Byte
  cls : BitVec 2
  react : BitVec 3
  member : Byte
  liveAt : List LiveCause
  setOn : BitVec 16
  deriving DecidableEq, Repr

/-- A release in progress (R347, R348): who asked, the word, what the Rings cleared and refused, whether a Ring had
no link, the Rings still to acknowledge, and those of them that have acted. -/
structure Release where
  port : PortId
  origin : Origin
  word : Word
  cleared : BitVec 16
  refused : BitVec 16
  noLink : Bool
  await : List RingId
  acted : List RingId
  deriving DecidableEq, Repr

/-- What settled faults before an activation boundary (R122): the tick of the boundary, the reaction table, the functions of the
channels, and whether the unit was paired. -/
structure PastTable where
  before : Nat
  tbl : Vector Byte 256
  explicit : Vector Bool 256
  func : List Nat
  paired : Bool
  deriving DecidableEq, Repr

/-- The collector beside its slots (R353 to R364). `tbl` holds the writable bits of FLT_REACTk, `past` the tables before the
activations since the start, oldest first, and `autos` the channels whose REACTION an AUTO source will release once their Ring has
taken it (R350). -/
structure Collector where
  slots : Vector FaultSlot 256
  tbl : Vector Byte 256
  explicit : Vector Bool 256
  past : List PastTable
  irqHp0 : BitVec 2
  irqHp1 : BitVec 2
  injEn : Bool
  dryrun : Bool
  injDur : BitVec 20
  pulses : List (Fin 256 × Byte × Nat)
  autos : BitVec 16
  relCleared : BitVec 16
  relRefused : BitVec 16
  releases : List Release
  railFault : Bool
  railWord : BitVec 16
  wdEn : Bool
  wdWindow : BitVec 14
  wdStart : Nat
  wdToken : Byte
  wdBad : BitVec 3
  wdExpired : Bool
  safe : Vector (BitVec 3) 16
  mirror : Vector (BitVec 16) 16
  mirrorSet : BitVec 16
  deriving DecidableEq, Repr

/-! ## Channels (06 to 09)

A channel's configuration registers are held as the words of their maps; Operands.lean names the fields. The host
die keeps one copy (the register map), the Ring another (what its logic works by, R13). -/

/-- The configuration words of one channel, by register. -/
structure ChanCfg where
  mode : Word
  diCfg : Word
  diTime : Word
  diVth : Word
  diChat : Word
  diCntcfg : Word
  doCfg : Word
  doPwm : Word
  doDuty : Word
  anCfg : Word
  zref : Word
  sref : Word
  tchCfg : Word
  tchTh : Word
  plgCfg : Word
  plgWin : Word
  deriving DecidableEq, Repr

/-- The setpoints of a channel (R188, R219): host commands and setpoint, and what a bound destination drives. -/
structure ChanCmd where
  doCmd : Word
  anCmd : Word
  anSet : Word
  drive : Option Bool
  alt : Option Bool
  deriving DecidableEq, Repr

/-- The input path of a channel on its Ring (R163 to R176). `pad` is what the latest sample measured, in mV, or in µA of a DI_TRAIN
channel; `deb` is the debounced level once a first run has ended, `runFirst` the clock of that run's first sample, and `runFrom` the
clock since which samples may form a run. `lastWet` and `wetEnd` are the clocks at which the latest wetting pulse began and ended. -/
structure InputPath where
  raw : Bool
  pad : Int
  runFrom : Nat
  deb : Option Bool
  runFirst : Nat
  holdStart : Option Nat
  state : Bool
  valid : Bool
  bState : Bool
  lastAcc : Word
  chatStart : Nat
  chatCount : Nat
  wetStart : Option Nat
  lastWet : Option Nat
  wetEnd : Nat
  count : Word
  countTick : Nat
  countDirty : Bool
  countSent : Option Nat
  deriving DecidableEq, Repr

/-- What an output stage drives (R188, R219). -/
inductive Drive where
  | off | on | pwm | pulldown
  deriving DecidableEq, Repr

/-- The output stage of a channel on its Ring (R188 to R203). `ran` says that the stage has driven since
PEAK was last read (R215). -/
structure Stage where
  on : Bool
  drive : Drive
  inrushStart : Option Nat
  blankStart : Option Nat
  duty : Word
  period : Word
  pwmAlt : Bool
  pwmStart : Nat
  extDriven : Bool
  shed : Bool
  trips : List Nat
  keepLatch : Bool
  tap : BitVec 2
  downCount : Nat
  swcnt : Word
  ran : Bool
  deriving DecidableEq, Repr

/-- The calibration of a channel as the cellar store keeps it (R234): ZCAP, SCAP, ZS_FUNC, TRIM_OFS, TRIM_GAIN, TRIM_FUNC. -/
structure CalCopy where
  zcap : Word
  scap : Word
  zsFunc : BitVec 4
  trimOfs : Word
  trimGain : Word
  trimFunc : BitVec 4
  deriving DecidableEq, Repr

/-- The analog part of a channel (R219 to R234). `target` is the loop target L and `targetAt` the clock of its last change; `lowOutAt` and
`highOutAt` are the clocks since which the current has been outside FAIL_LOW and FAIL_HIGH (R227); `reads` are the readings of the last
100 ms with their clocks, newest first, and `rb` the 1 ms average of the readbacks (R223, R230); `persist` are the calibrations that the
cellar store will hold, each with the clock at which it took effect (R234). The fields from `zcap` on are the host die's, and `rcal` is the
calibration that the Ring works by (R13). -/
structure Analog where
  target : Word
  targetAt : Nat
  compLow : Nat
  compOk : Nat
  region : BitVec 3
  regionAt : Nat
  lowOutAt : Nat
  highOutAt : Nat
  reads : List (Nat × Int)
  rb : Int
  meas : Word
  measFlags : BitVec 4
  zcap : Word
  scap : Word
  zsFunc : BitVec 4
  trimOfs : Word
  trimGain : Word
  trimFunc : BitVec 4
  persist : List (Nat × CalCopy)
  stored : CalCopy
  rcal : CalCopy
  deriving DecidableEq, Repr

/-- The touch measurement of a channel (R252 to R256). `base8` is the baseline in 1/256 fF, and `onAt` and `offAt` the clocks of the first
scans of the runs that may change TOUCHED. -/
structure Touch where
  c : Word
  base8 : Nat
  seeded : Bool
  seedCount : Nat
  seedSum : Nat
  touched : Bool
  onRun : Nat
  offRun : Nat
  onAt : Nat
  offAt : Nat
  negRun : Nat
  held : Nat
  openRun : Nat
  shortRun : Nat
  scan : Nat
  deriving DecidableEq, Repr

/-- The presence loop of a PLUG channel (R257 to R261). `runs` holds the latest test's class and its kind with the lengths of their
runs, `sinkOff` that the latest test found a pad above 6.0 V, and `awayAt` the clock since which the loop is away. -/
structure Plug where
  state : BitVec 3
  r : BitVec 16
  runs : List (BitVec 3 × Nat)
  since : Nat
  sinkOff : Bool
  awayAt : Option Nat
  stableAt : Nat
  fromState : BitVec 3
  bounce : BitVec 16
  unplugs : BitVec 16
  deriving DecidableEq, Repr

/-- One channel. `cfg` is the host die's register map, `rng` the Ring's copy; `live` has a bit for each live member
(R340) on the Ring, and `tripKept` says that SHORT_GND of an AI_RATIO channel is the trip of the output that it was (R211); the sticky masks
use the same bits, one for each diagnostic register; `guardWait` are the members detected on a
guarded channel with the guard tests that each still waits for (R261). The fields from `hostState` on are what the
host die has received: the state and its events, the count and whether one was delivered, and the state of a presence loop; `hostFunc` is
the function in force by which it works, which a write of CHn_MODE changes at its start tick (R183). -/
structure Chan where
  cfg : ChanCfg
  rng : ChanCfg
  cmd : ChanCmd
  rcmd : ChanCmd
  change : Option Word
  holdPad : Option (Nat × BitVec 3)
  modeParams : Option Word
  live : BitVec 32
  tripKept : Bool
  diSticky : BitVec 32
  doSticky : BitVec 32
  anSticky : BitVec 32
  tchSticky : BitVec 32
  plgSticky : BitVec 32
  guardWait : List (Nat × Nat)
  causes : BitVec 16
  latch : Bool
  rsafe : BitVec 3
  releaseDue : Option Nat
  inp : InputPath
  stage : Stage
  an : Analog
  tch : Touch
  plg : Plug
  errChatter : BitVec 16
  errQuad : BitVec 16
  errTrips : BitVec 16
  errRetries : Byte
  hostState : Bool
  hostRise : Bool
  hostFall : Bool
  hostCount : Word
  hostValid : Bool
  hostPlug : BitVec 3
  hostFunc : BitVec 4
  deriving DecidableEq, Repr

/-! ## Rings and links (01, 02, 07) -/

/-- A report of a Ring to the collector (R352): slot, member, raise or clear, detail, the tick and clock of the
detection, and whether the link was declared lost since. -/
structure Report where
  slot : Fin 256
  member : Byte
  raise : Bool
  detail : Word
  tick : Nat
  clock : Nat
  late : Bool
  deriving DecidableEq, Repr

/-- What a Ring tells the host die beside its reports and results (R16), with the tick at which it arose: an accepted change or
a change of STATE (R133, R166, R210, R254), the latches of the Ring's channels with their causes (R345, R364), the state of a
presence loop (R258), a character that the modem received (R238), the restart of a channel's processing (R29, R167), whether the tap
supply regulates (R58), the result of a touch scan (R254), and a change of TL_QUAL with whether the Tightrope line is idle (R428, R435). -/
inductive UpMsg where
  | change (ch : Fin 16) (state initial : Bool) (tick : Nat) (value : Word)
  | latches (causes : List (BitVec 16)) (set : List Bool) (tick : Nat)
  | plug (ch : Fin 16) (state : BitVec 3) (tick : Nat)
  | fsk (word : Word) (tick : Nat)
  | restarted (ch : Fin 16) (tick : Nat)
  | taps (ok : Bool) (tick : Nat)
  | scan (ch : Fin 16) (value : Word) (tick : Nat)
  | qual (up idle : Bool) (tick : Nat)
  deriving DecidableEq, Repr

/-- The tick at which a message arose. -/
def UpMsg.tick : UpMsg → Nat
  | .change _ _ _ t _ => t
  | .latches _ _ t => t
  | .plug _ _ t => t
  | .fsk _ t => t
  | .restarted _ t => t
  | .taps _ t => t
  | .scan _ _ t => t
  | .qual _ _ t => t

/-- The power mode in force (R466). -/
inductive PowerMode where
  | run | quiet | cellar
  deriving DecidableEq, Repr

/-- The role that a Ring works by in a pair (R13): the channels behave as a standby's (R433), MAY_DRIVE (R199), the input currents of
DI_SINK and DI_COUNT are on (R181), and their samples are discarded (R182). -/
structure RoleWork where
  standby : Bool
  may : Bool
  sink : Bool
  discard : Bool
  deriving DecidableEq, Repr

/-- A command or configuration frame from the host die to a Ring (R13, R18). `mode` is a word of CHn_MODE that takes effect, as a
function change or not (R183, R508); `cal` the calibration of an analog channel (R229, R233); `power` the mode in force, whether the safe states are held without a latch, and whether the
channels restart, with `stop` that inputs hold too (R400, R468, R469, R472). `adcRot` carries the tick of its write (R284). `role` is the role that the Ring works by, and at a change of the driving unit says whether it is a planned swap and which guards start
PRESENT (R182, R199, R265); `source` turns the Tightrope
source on or off (R435); `gate` is the GATE = 1 that follows the commands of a takeover (R437). -/
inductive RingCmd where
  | reset
  | configure
  | chanCfg (n : Fin 16) (c : ChanCfg)
  | setpoint (n : Fin 16) (c : ChanCmd)
  | drive (n : Fin 16) (drive alt : Option Bool)
  | count (n : Fin 16) (v : Word)
  | swcnt (n : Fin 16) (v : Word)
  | safeCode (n : Fin 16) (code : BitVec 3)
  | release (causes : List (Fin 16 × BitVec 16)) (by_ : Option PortId)
  | ringCfg (pwr load : Word)
  | stepGrid (stepN : Nat)
  | stageImage
  | mode (n : Fin 16) (w : Word) (change : Bool)
  | cal (n : Fin 16) (c : CalCopy)
  | power (m : PowerMode) (hold stop restart : Bool)
  | adcEntry (i : Fin 64) (w : Word)
  | adcRef (w : Word)
  | adcRot (period : Byte) (at_ : Nat)
  | reseed (n : Fin 16)
  | fskCfg (w : Word) (ch : BitVec 5)
  | fskTx (last : Bool) (d : Byte)
  | role (w : RoleWork) (swap : Bool) (present : BitVec 16)
  | source (on : Bool)
  | gate
  deriving DecidableEq, Repr

/-- What a host heartbeat carries beside its tick mark: GATE (R428) and the toggle command of the Tightrope source (R427). -/
structure Beat where
  gate : Bool
  toggle : Bool
  deriving DecidableEq, Repr

/-- States of an FSK modem's transmitter (R237). -/
inductive FskTx where
  | idle | waiting | sending
  deriving DecidableEq, Repr

/-- The FSK modem of a Ring (R236 to R248). TX entries are END and DATA; RX entries are the word of RINGx_FSK_RX. Of the message that
is sent, `sent` are the characters begun, `ended` says that the last of them carries END, and `ranDry` that the FIFO was empty after it. -/
structure Fsk where
  rt : Byte
  txQuiet : BitVec 6
  en : Bool
  ch : BitVec 5
  tx : List (Bool × Byte)
  rx : List Word
  state : FskTx
  sentAt : Nat
  sent : Nat
  ended : Bool
  ranDry : Bool
  cd : Bool
  quietFrom : Nat
  respFrom : Option Nat
  som : Bool
  lastStop : Nat
  evt : BitVec 7
  errors : BitVec 16
  chars : BitVec 16
  deriving DecidableEq, Repr

/-- One Ring with both ends of its link (R13 to R19, R52 to R58, R196 to R207). `everUp` says that the link has come up since
the host die started, `ringLost` that the Ring's end has no link, `taken` that a configuration has arrived and is not confirmed
yet, `redo` that the Ring missed an activation (R124), and `downAt` the clock of the latest LINK_LOST. `hostConf`, `hostVf` and
`hostTaps` are what the Ring has reported for RINGx_DOMAIN (R58), and `shown` the status words, sticky bits and counts that the host die last received
before the link was lost. `beat` is a host heartbeat under way, `ringBeat` a Ring heartbeat under way, `beatAt` the clock from which the Ring's next
heartbeat is due, `realigned` that tick marks arrive again, and `gateAt` on a paired unit the clock of the latest GATE = 1, with `gateIn`
the latest GATE. `estTurns` are the ticks at which the Ring's time stamps became estimated and ceased to be so, in turn (R25). `rrole` is the role that the Ring works by, `discardAt` the clock since which it discards samples (R182), and `qual` the
state of TL_QUAL as Ring A measures it (R427). `rmode`, `rhold` and `rstop` are the
power mode, the hold of the safe states and the hold of the inputs that the Ring works by; `lostAt` is the clock at which the host die last
learned of dropped reports (R341); `fskcfg` and `fskch` the host die's RINGx_FSK_CFG. `railHold` are the
rails that TAP_OVERLOAD holds back, each with the clock from which it regulates again (R207). `vf`, `vfMin`, `temp` and `tapv` are what the
Ring monitor has reported (R216, R275), none before its first report. -/
structure Ring where
  logic : Bool
  vfOk : Bool
  offered : Bool
  link : Bool
  everUp : Bool
  ringLost : Bool
  configured : Bool
  passedPor : Bool
  restarted : Bool
  porSticky : Bool
  uvloSticky : Bool
  linkDrops : Byte
  holdover : Bool
  estTurns : List Nat
  linkTimeout : Nat
  lastHostBeat : Nat
  lastRingBeat : Nat
  downAt : Nat
  beatAt : Nat
  taken : Bool
  redo : Bool
  hostConf : Bool
  hostVf : Bool
  hostTaps : Bool
  shown : List Word
  beat : Option Beat
  ringBeat : Bool
  realigned : Bool
  reports : List Report
  dropped : Nat
  upq : List UpMsg
  cmdq : List (RingCmd × Nat)
  safeq : List (BitVec 16)
  discards : List Nat
  lostAt : Option Nat
  hostRx : BitVec 16
  ringRx : BitVec 16
  pwrcfg : Word
  loadcfg : Word
  rPwrcfg : Word
  rLoadcfg : Word
  stepN : Nat
  sticky : BitVec 6
  vfLow : Bool
  overload : Bool
  overloadAt : Nat
  tapOverload : Bool
  tempWarn : Bool
  thermal : Bool
  shedStack : List (Fin 16)
  cleanTicks : Nat
  rails : BitVec 3
  railHold : List (Fin 3 × Option Nat)
  t3 : Bool
  gateAt : Option Nat
  gateIn : Bool
  driveGate : Bool
  rrole : RoleWork
  discardAt : Nat
  qual : Bool
  staged : Bool
  rmode : PowerMode
  rhold : Bool
  rstop : Bool
  fskcfg : Word
  fskch : BitVec 5
  fsk : Fsk
  vf : Option (BitVec 16)
  vfMin : Option (BitVec 16)
  temp : Option (BitVec 16)
  tapv : Vector (Option (BitVec 10)) 3
  deriving DecidableEq, Repr

/-- The service port (R63, R231, R232, R247). -/
structure Svc where
  timeout : Byte
  en : Bool
  ch : Fin 16
  armEnd : Nat
  last : BitVec 4
  zeroHeld : Bool
  spanHeld : Bool
  zeroAt : Option Nat
  spanAt : Option Nat
  blocked : Bool
  spoiled : Bool
  blinks : Nat
  blinkOn : Bool
  blinkAt : Nat
  ledHost : Bool
  refused : BitVec 16
  captured : BitVec 16
  lastRefusal : Vector (BitVec 4) 16
  deriving DecidableEq, Repr


/-! ## The image, the loader and the claims (04) -/

/-- IMG_STATUS.STATE (R129). -/
inductive LoadState where
  | idle | erasing | receiving | verifying | activating
  deriving DecidableEq, Repr

/-- Slot states (R95). -/
inductive SlotState where
  | empty | receiving | unchecked | verified | invalid | active
  deriving DecidableEq, Repr

/-- One image slot: its state, and a bit for each word written in the session (R112). The bytes lie in the cellar
store. -/
structure Slot where
  st : SlotState
  written : BitVec 32768
  deriving DecidableEq, Repr

/-- One claim (R105, R108): kind, Ring, index, holder class and index, AMOUNT; `image` marks a claim of the image, which
a write never frees where no section used it (`reserved`, R128). -/
structure Claim where
  kind : Nat
  ring : Nat
  index : Nat
  hclass : Nat
  hindex : Nat
  amount : Nat
  reserved : Bool
  deriving DecidableEq, Repr

/-- One round entry of an ADCSEQ block (R287). -/
structure AdcBlock where
  ring : Nat
  refSel : Nat
  extWait : Nat
  extMv : Nat
  rotPeriod : Nat
  entries : List (Nat × Nat × Nat)
  deriving DecidableEq, Repr

/-- The tables of a FABRIC section as records (R151, R152). -/
structure FabImage where
  stepN : Nat
  acts : List (List Byte)
  timers : List (List Byte)
  counters : List (List Byte)
  comparators : List (List Byte)
  bindings : List (Nat × Nat)
  deriving DecidableEq, Repr

/-- An image as the loader expands it (R97 to R104, R108). Each section of one record size is the list of its
records. -/
structure Image where
  crc : Word
  length : Word
  version : Word
  fallbackOk : Bool
  chan : List (List Byte)
  ring : List (List Byte)
  adcseq : List AdcBlock
  filt : List (List Byte)
  fabric : Option FabImage
  wheel : List (List Byte)
  fault : List (List Byte)
  safe : List (List Byte)
  replay : Option (List Byte)
  pair : Option (List Byte)
  bg : Option (List Byte)
  wake : Option (List Byte)
  claims : List (Word × Nat)
  deriving DecidableEq, Repr

/-- The loader and the running copy's identity (R94 to R129). `record` holds the two copies of the active-slot record,
each with its sequence number, or none where a copy is not valid (R96). `erased` holds the bytes of a slot under erase as they were before it
(R489), and `configGen` counts the changes of configuration SRAM. -/
structure ImgState where
  load : LoadState
  actPending : Bool
  borrowed : Bool
  fallback : Bool
  noImage : Bool
  diverged : Bool
  divcnt : BitVec 16
  active : Bool
  record : Vector (Option (Bool × Nat)) 2
  slots : Vector Slot 2
  ldOp : BitVec 4
  ldCode : Byte
  waddr : BitVec 18
  errloc : Word
  claimErrA : Word
  claimErrB : Word
  claimErrRec : Word
  actStep : BitVec 64
  claimq : BitVec 16
  target : Bool
  origin : Origin
  starting : Bool
  shadow : Option Image
  await : List RingId
  running : Option Image
  claims : List Claim
  paired : Bool
  pairId : Bool
  erased : List Host.Cell
  configGen : Nat
  deriving DecidableEq, Repr

/-! ## The fabric (05) -/

/-- An act (R135): truth table, selectors, LATCH and INIT. -/
structure Act where
  tt : BitVec 16
  a : BitVec 16
  b : BitVec 16
  c : BitVec 16
  d : BitVec 16
  latch : Bool
  init : Bool
  deriving DecidableEq, Repr

/-- A timer with its live state (R137, R138): `fin` is END. -/
structure Timer where
  mode : BitVec 2
  unit : BitVec 2
  preset : BitVec 16
  e : Nat
  q : Bool
  runPrev : Bool
  running : Bool
  fin : Bool
  deriving DecidableEq, Repr

/-- A counter with its live state (R139): `prev` holds UP, DOWN, RESET and LOAD of the previous step. -/
structure Counter where
  edge : Bool
  wrapping : Bool
  limit : Word
  load : Word
  v : Word
  prev : BitVec 4
  wrap : Bool
  deriving DecidableEq, Repr

/-- A comparator with its committed output (R140). -/
structure Comparator where
  aKind : Byte
  aIndex : Byte
  op : Byte
  bIndex : Byte
  b : Word
  hyst : Word
  out : Bool
  used : Bool
  deriving DecidableEq, Repr

/-- A comparator source in a snapshot: kind, index, the value, whether it was ever delivered, and SETTLE (R140). -/
structure SourceVal where
  kind : Nat
  index : Nat
  value : Word
  delivered : Bool
  settle : Bool
  deriving DecidableEq, Repr

/-- The snapshot of a step (R131). -/
structure Snapshot where
  chan : BitVec 256
  thresh : BitVec 64
  hsig : BitVec 128
  device : BitVec 9
  values : List SourceVal
  deriving DecidableEq, Repr

/-- What takes effect at the next step start tick (R154): a record of an element, or a counter's live value at the next
commit. -/
inductive FabPend where
  | record (type : Nat) (index : Nat) (words : List Word)
  | value (index : Nat) (v : Word)
  deriving DecidableEq, Repr

/-- The fabric (R130 to R156, R505). An element beyond the length of its list has its Reset record. `carryDue` says that the events of
`carry` belong to the next snapshot, because the step that held them overran (R149). -/
structure FabState where
  stepN : Nat
  stepPend : Option Nat
  stepNo : Nat
  stepStart : Nat
  running : Bool
  stopped : Bool
  consec : BitVec 2
  overrunLast : Bool
  evalLast : BitVec 16
  evalNow : BitVec 16
  evalMax : BitVec 16
  evalDone : Bool
  ovr : BitVec 16
  applied : Word
  first : Bool
  hsig : BitVec 128
  pulses : BitVec 128
  carry : Snapshot
  carryDue : Bool
  snap : Snapshot
  flags : BitVec 64
  flagChg : BitVec 64
  actOut : BitVec 512
  latched : BitVec 512
  selType : BitVec 3
  selIndex : BitVec 9
  staged : Vector (Option Word) 4
  acts : List Act
  timers : List Timer
  counters : List Counter
  comparators : List Comparator
  bindings : List (Nat × Nat)
  pend : List FabPend
  valuePend : List (Nat × Word)
  outChan : BitVec 48
  outDev : BitVec 4
  setpoints : List (Addr × Origin × Word)
  deriving DecidableEq, Repr

/-! ## The ADC subsystem and the filter chains (10, 11) -/

/-- Roles of a slice (R288). -/
inductive SliceRole where
  | working | spare | calibrating | out
  deriving DecidableEq, Repr

/-- One ADC slice (R269, R279 to R282): `retried` during a second calibration run, `waiting` while its calibration
waits for SETTLED, `calAt` the clock at which its calibration began, and the clocks of its late results. -/
structure Slice where
  role : SliceRole
  failed : Bool
  calValid : Bool
  retried : Bool
  waiting : Bool
  cal : Word
  calAt : Nat
  late : List Nat
  deriving DecidableEq, Repr

/-- The ADC of one Ring (R269 to R288). `entPend`, `refPend` and `rotPend` are what the host die has written and the Ring has not taken
up; `entCome` and `refCome` what of it has reached the Ring and waits for a frame boundary. `place` holds position and first offset of each placed entry; `calNext` the
entries whose next result carries CAL, `ovrNext` the positions whose next result carries OVR. `settleAt` is the clock at
which SETTLED returns to 1; `refOffAt` and `refInAt` are the clocks since which every reference check has been off by more than the limit
and within half of it; `monItem` is the next item of the Ring monitor's rotating list (R275), and `calStore` holds the coefficients in the
calibration region (R279). `rotNext` the tick of the next rotation event, and `handDue` that an event's handover has
not been made. -/
structure Adc where
  refcfg : Word
  rotcfg : Byte
  refPend : Option Word
  refCome : Option Word
  rotPend : Option Byte
  entries : Vector Word 64
  entPend : List (Fin 64 × Word)
  entCome : List (Fin 64 × Word)
  place : Vector (Option (Fin 4 × Fin 64)) 64
  settled : Bool
  refFault : Bool
  intRefFault : Bool
  extMeas : BitVec 16
  refOffAt : Option Nat
  refInAt : Option Nat
  monItem : Nat
  calStore : Vector Word 5
  settleAt : Option Nat
  rotNext : Nat
  events : BitVec 16
  handDue : Bool
  postponed : Bool
  postponedAt : Nat
  nextPos : Fin 4
  pos : Vector (Option (Fin 5)) 4
  slices : Vector Slice 5
  calNext : List (Fin 64)
  ovrNext : List (Fin 4)
  sticky : BitVec 5
  errLate : BitVec 16
  errRetry : BitVec 16
  deriving DecidableEq, Repr

/-- The filter chain of a channel (R289 to R306). `count` numbers the conversions since the origin; `hist` is the input
value and the length of its run since the restart while the input has been constant; `inFlags` are SETTLE, CAL and OVR
of the inputs of the next output. -/
structure Chain where
  cfg : Word
  thhi : Word
  thlo : Word
  thcfg : Word
  cfgPend : Option Word
  restart : Bool
  running : Bool
  origin : Nat
  count : Nat
  lastIn : Int
  hist : Int × Nat
  inFlags : BitVec 3
  settleLeft : Nat
  hi : Bool
  lo : Bool
  hiRun : Nat
  loRun : Nat
  judged : Nat
  hiEvt : Bool
  loEvt : Bool
  value : Word
  delivered : Bool
  valueSettle : Bool
  thval : Word
  deriving DecidableEq, Repr

/-- The FILT block beside its chains (R301, R302, R309, R311, R314). `origin` is F of the latest sync, which FILT_SYNCTICK
shows; `syncDue` are the syncs that wait for the next frame boundary, true for an edge under SYNC_SRC = 2. -/
structure Filt where
  cfg : Word
  cfgPend : Option Word
  armed : Bool
  origin : Nat
  syncDue : List (Bool × Origin)
  diag : BitVec 3
  errA : BitVec 16
  errB : BitVec 16
  chains : Vector Chain 16
  deriving DecidableEq, Repr

/-! ## Capture and replay (15) -/

/-- A frame in the pre-trigger ring (R390): its step with start tick and period, its KEY mark and its bytes. -/
structure Frame where
  step : Nat
  start : Nat
  stepN : Nat
  key : Bool
  bytes : List Byte
  deriving DecidableEq, Repr

/-- The header of a capture (R396), in the fields that change while it runs. -/
structure Capture where
  capno : Nat
  at_ : Nat
  endFlags : Byte
  crc : Word
  firstTick : Nat
  firstStep : Nat
  trigStep : Nat
  trigSrc : Nat
  trigK : Nat
  pre : Nat
  post : Nat
  extra : BitVec 16
  dropped : BitVec 16
  length : Nat
  trigSeq : Word
  stepN : Nat
  rawCh : BitVec 16
  frames : Nat
  deriving DecidableEq, Repr

/-- A re-run in progress (R401): capture, place of the next frame, frames left before the capture's end, the tables of
state it works on, and the re-run values of the previous frame. -/
structure Rerun where
  capno : Nat
  due : Nat
  at_ : Nat
  left : Nat
  stopAtDiv : Bool
  firstTick : Nat
  firstStep : Nat
  fab : FabState
  prev : Option (BitVec 48 × BitVec 4 × BitVec 64)
  deriving DecidableEq, Repr

/-- The replay block (R390 to R407). `on` is REPLAY mode in force, `leaving` the step after it, `want` a requested
mode; `appliedNow` says that an apply or a new step period took effect at the present step; the captures from offset `availFrom` on are
available for a re-run (R404). `erased` holds the bytes of the store under erase as they were before it (R489). -/
structure Replay where
  on : Bool
  leaving : Bool
  want : Option Bool
  modeReg : Bool
  cfg : Word
  capcfg : Word
  ring : List Frame
  lastValues : List SourceVal
  keyDue : Bool
  appliedNow : Bool
  trigPrev : Bool
  capture : Option Capture
  used : Nat
  captures : Nat
  nextNo : Nat
  availFrom : Nat
  full : Bool
  missed : BitVec 16
  extra : BitVec 16
  erasing : Bool
  loading : Bool
  xofs : BitVec 18
  rerun : Option Rerun
  runCap : Byte
  result : BitVec 2
  divStep : BitVec 64
  divDest : BitVec 16
  divCount : BitVec 16
  raw : List (Fin 16 × Word)
  erased : List Host.Cell
  deriving DecidableEq, Repr

/-! ## Check units (16) -/

/-- STATE of a check unit (R420). -/
inductive ChkState where
  | idle | scanning | suspended
  deriving DecidableEq, Repr

/-- One check unit (R408 to R420). -/
structure Chk where
  cfg : Word
  poly : Word
  init : Word
  xorout : Word
  run : Word
  space : BitVec 3
  addr : BitVec 21
  len : BitVec 21
  st : ChkState
  done : Bool
  aborted : Bool
  uncorr : Bool
  carousel : Bool
  pos : BitVec 21
  errcnt : BitVec 16
  deriving DecidableEq, Repr

/-! ## Pairs (17) -/

/-- Roles (R433). -/
inductive Role where
  | unpaired | starting | standby | unqualified | claiming | backoff | active | swapping
  deriving DecidableEq, Repr

/-- A mirrored change (R444): address, word, CAPTURE, the FAB_WIN words of an APPLY, and MIRROR_SEQ after it. -/
structure Mirror where
  addr : Addr
  word : Word
  capture : Bool
  apply : Option (List Word)
  seq : BitVec 16
  deriving DecidableEq, Repr

/-- A frame for the Trapeze port (R423): its payload, or what an ACK or SWAP frame says, whose layout the spec does not give (log entry
72). -/
inductive TzFrame where
  | bytes (type : Byte) (payload : List Byte)
  | ack (a : AckOf) (needFull : Bool)
  | swap (m : SwapMsg)
  deriving DecidableEq, Repr

/-- A MIRROR frame in flight (R423): its transmissions, and the clock of the latest one. -/
structure Flight where
  m : Mirror
  sends : Nat
  at_ : Nat
  deriving DecidableEq, Repr

/-- An epoch (R440): number, step, MIRROR_SEQ and its 1 136-byte payload. -/
structure Epoch where
  number : Word
  step : Word
  mirror : BitVec 16
  payload : List Byte
  deriving DecidableEq, Repr

/-- A planned swap (R446): its latest epoch, the epochs taken, and GO with its clock. -/
structure Swap where
  epoch : Word
  attempts : Nat
  go : Bool
  goAt : Nat
  deriving DecidableEq, Repr

/-- The Ringmaster (R421 to R454). `cfg` holds PAIR_CFG but for PAIR_ID and PAIRED; `standby` that the channels behave as a
standby's; `segs` the segments of the arriving epoch (number, index, bytes), and `discarding` that it was given up; `claimReason` why the
unit claims, by the reason codes of R452; `resume` what the fabric takes at the next start tick after a takeover. `hbLost` says that a unit which does not source has lost the Tightrope heartbeat
(R430), `hbStayed` that it has been present since the loss of Trapeze (R432), `toldRole` is the role last sent to the Rings, `togglePend` says that a toggle waits for the next heartbeat to Ring A (R427), `issued` the clock of the latest toggle issued, and
`mirBusy` that the partner's change was answered BUSY and comes again (R444). `tx` are the frames that wait for the port in order of precedence, `txAt` the time at which
the port is free in units of 40 ns, `fseq` the next FSEQ, and `line` the frame that the port began last. The `sent` fields are the latest
payload handed to the port of each frame type. -/
structure Pair where
  cfg : Word
  role : Role
  mayDrive : Bool
  standby : Bool
  uq : BitVec 10
  stale : Bool
  tlHb : Bool
  tlQual : Bool
  tzUp : Bool
  lastFrame : Nat
  lastBeat : Nat
  beatAt : Nat
  qualAt : Nat
  tzLostAt : Option Nat
  partnerRole : BitVec 4
  partnerId : Bool
  partnerFlags : Byte
  partnerUq : BitVec 10
  peerCrc : Word
  peerVer : Word
  peerLen : Word
  peerMax : BitVec 4
  peerMin : BitVec 4
  peerFlags : Byte
  peerSeen : Bool
  mirOwn : BitVec 16
  mirPeer : BitVec 16
  mirLast : BitVec 16
  mirCode : Byte
  mirQueue : List Mirror
  flight : Option Flight
  gapFrom : Option Nat
  gapOpen : Bool
  epochNum : Word
  sending : Option Epoch
  lastSent : Option Epoch
  stepsPer : Byte
  lastEpochStep : Nat
  needFullPeer : Bool
  needFull : Bool
  held : Option Epoch
  heldAt : Nat
  segs : List (Nat × Nat × List Byte)
  discarding : Bool
  discarded : BitVec 16
  hbLost : Bool
  hbStayed : Bool
  toldRole : RoleWork
  sourceOn : Bool
  togglePend : Bool
  issued : Nat
  mirBusy : Bool
  tx : List TzFrame
  txAt : Nat
  fseq : Byte
  line : Option (Byte × TzFrame)
  toggles : Nat
  toggleAt : Nat
  listenFrom : Nat
  claimFrom : Nat
  backoffFrom : Nat
  bothLostFrom : Option Nat
  tlLostFrom : Option Nat
  claimReason : BitVec 4
  claimFails : Nat
  swap : Option Swap
  resume : Option (Option Epoch)
  minutes : Word
  minutesKept : Word
  idleFrom : Nat
  takeovers : Byte
  swaps : Byte
  releases : Byte
  claimFail : Byte
  tzCrc : BitVec 16
  missed : BitVec 16
  badTimes : List Nat
  evt : BitVec 6
  evten : BitVec 6
  sentHeartbeat : List Byte
  sentQual : List Byte
  sentMirror : List Byte
  sentEpoch : List Byte
  sentAck : Option (AckOf × Bool)
  sentSwap : Option SwapMsg
  deriving DecidableEq, Repr

/-! ## Background work and power modes (18) -/

/-- The physical sectors of the cellar store (R458): erase counts of the sector mapped at each logical sector, of the
good sectors of the pool, and the number retired. `logAt` counts the bytes appended to the log of the counter commits (R459, R489). -/
structure Wear where
  mapped : Vector Nat 216
  pool : List Nat
  retired : Byte
  logAt : Nat
  deriving DecidableEq, Repr

/-- Telemetry that counts from manufacture (R465): peaks of the host die, Ring A and Ring B; time above 125 °C; the sum and number
of host die temperatures; minutes and seconds on each tap; energies. -/
structure Lifetime where
  peak : Vector Byte 3
  hotMinutes : Word
  hotSeconds : Nat
  tempSum : Int
  tempCount : Nat
  taps : Vector Word 8
  tapSeconds : Vector Nat 8
  energy : Vector (BitVec 48) 16
  deriving DecidableEq, Repr

/-- The Carousel, the SYNC pin and the telemetry (R455 to R465, R475). `refDue` holds the references that wait for the trim, each with the clock at which it came:
SYNC or mark, the ticks measured and the µs that they stand for. `syncFrom` is the clock of the configuration of the SYNC mode (R463),
`scrubDue` says that the full pass of an internal wake is not complete (R470), and `lifeKept` is the lifetime telemetry of the latest
periodic commit. `refreshPos` is the page that the refresh pass reads next, and `refreshCrc` names the slots whose CRC it has compared
(R461); `trimFrom`, `trimTo` and `trimAt` are the timebase trim in ppb, that towards which it slews, and the clock from which it does
(R463); `chTrims` are the trims of each channel's own source and of its dedicated safe source in ppm of their ranges (R464); `calibGen` counts
the changes of the calibration region. -/
structure Bg where
  cfg : Word
  synccfg : Word
  bad : BitVec 16
  edgeAt : Option Nat
  syncFrom : Nat
  refOk : Bool
  behind : BitVec 8
  diag : BitVec 8
  refDue : List (Bool × Nat × Nat × Nat)
  scrubPos : Nat
  scrubFrom : Nat
  scrubDue : Bool
  scrubPasses : BitVec 16
  uncorr : Byte
  corrected : Byte
  refreshFrom : BitVec 48
  refreshPasses : BitVec 16
  relocated : BitVec 12
  refreshPos : Nat
  refreshCrc : BitVec 2
  slotFail : BitVec 2
  wear : Wear
  calibGen : Nat
  syncOut : Option Nat
  goodRefs : Nat
  trimFrom : Int
  trimTo : Int
  trimAt : Nat
  chTrims : Vector (Int × Int) 16
  chTrimAt : Vector (Option Nat) 16
  hotAt : Option Nat
  hostTemp : Word
  supply : Word
  vhMin : BitVec 16
  update : Word
  life : Lifetime
  lifeKept : Lifetime
  deriving DecidableEq, Repr

/-- The power modes (R466 to R472, R475). `leaving` is the step from B' to B' + 1 after QUIET; `wakePend` a wake that
arrived during entry; `waking` that the host die runs again and the return waits for its tick; `wakeB` that Ring B restarts
for it, and `holdB` that Ring B, configured then, holds its safe states to the next step end tick (R472); `wantFrom` the tick at which the
requested mode was accepted (R467). -/
structure Power where
  mode : PowerMode
  req : PowerMode
  want : Option PowerMode
  leaving : Bool
  retention : Bool
  internal : Bool
  waking : Bool
  wakeB : Bool
  holdB : Bool
  wantFrom : Nat
  wakePend : Option (Nat × Nat)
  cause : BitVec 4
  wakeCh : BitVec 5
  wakecfg : Word
  wakes : BitVec 16
  cellars : BitVec 16
  seconds : Word
  cellarFrom : Nat
  internalFrom : Nat
  deriving DecidableEq, Repr

/-! ## The block -/

/-- The whole block. `cells` are the bytes of the image slots and the replay store that differ from 0xFF, by their
offset in the cellar store; `storeGen` counts the changes of the record region, whose layout the spec does not give, and `chkTurn` is the check unit
whose turn at the scan engine comes next (R413); `clock` counts the microseconds that the model lets pass (log entry 1); `pending` are the
commands that wait. -/
structure State where
  vio : Bool
  clock : Nat
  phase : HostPhase
  time : TimeState
  tickets : Vector Ticket 64
  readyCount : Nat
  ports : Vector Port 2
  shadows : List Shadow
  recd : Recorder
  wheels : Vector Wheel 64
  flt : Collector
  chans : Vector Chan 16
  rings : Vector Ring 2
  svc : Svc
  img : ImgState
  cells : List Host.Cell
  storeGen : Nat
  fab : FabState
  adcs : Vector Adc 2
  filt : Filt
  rpl : Replay
  chks : Vector Chk 4
  chkTurn : Fin 4
  pair : Pair
  bg : Bg
  pwr : Power
  freeCtr : Nat
  pending : List Instr
  deriving DecidableEq, Repr

/-! ## Reset

Every field at the value that the spec gives for reset, for a part delivered from manufacture whose supplies are off. A field
for which the spec gives none takes the value of log entry 3. -/

def Port.reset : Port :=
  { rev := 1, quad := false, helloPend := [], helloDone := none, cfg := 100#32, irqEn := 1#8, sticky := 0x80#8, cntBusy := 0#16
    cntDisc := 0#16, dupConf := 0#16, dupAns := 0#16, retired := 0#16, seqValid := false, seqLast := 0#16, spiMode := false
    lastTicket := 0xFF#8, lastSeq := 0#8, window := [], waiting := [], executing := none, out := { status := [], fetched := none } }

def TimeState.reset : TimeState :=
  { startClock := 0, vhLow := false, dipAt := 0, resetLow := false, resetStart := false, beatAt := 0, caltag := 0#64, calat := 0#48
    markTick := 0#32, markHost := 0#32, markAt := none, refMark := none, markEarly := false, locked := false, source := 0#2 }

def Cursor.reset : Cursor := { index := 0#13, valid := false, crcOk := false, tail := false, gen := 0#16, words := [] }

/-- The recorder of a part from manufacture: both stores empty, and the completion mark written (R384). -/
def Recorder.reset : Recorder :=
  { events := [], staged := [], journal := [], seqNext := 0#32, seqCommitted := 0#32, optBase := 0#48, optCommitted := 0#48
    pwrcyc := 0#24, tailDirty := false, tailDue := 0, tailRep := 0#16, tailSpan := 0#16, dirtyMark := false, completion := true
    pfComplete := true, tailLost := false, estimated := false, tailGen := 0#16, lostFull := 0#16, lostStaging := 0#16
    overflow := 0, jnlRefused := 0#16, commitAt := 0, pfCommit := none, swCommitted := Vector.replicate 16 0#32
    recCur := Vector.replicate 4 Cursor.reset, jnlCur := Vector.replicate 4 Cursor.reset }

def MarkCtx.reset : MarkCtx := { epoch := 0#32, estA := false, estB := false }

def Wheel.reset : Wheel :=
  { sizeLog2 := 0, overwrite := false, consumer := false, prod := 0#32, base := 0, level := 0#16, age := 0#8, lossEn := false
    q := [], head := 0, lastMark := none, gapNext := false, gapPending := false, headCtx := MarkCtx.reset, lost := 0#32
    evtLoss := false, evtEcc := false }

def FaultSlot.reset : FaultSlot :=
  { real := 0#32, inj := 0#32, sticky := false, injSticky := false, seen := false, raises := 0#8, cls := 0#2, react := 0#3
    member := 0#8, liveAt := [], setOn := 0#16 }

/-- The default class and reaction of a Ring source, as FLT_REACTk shows them (R341, R343). -/
def resetRingReact (r : Nat) : Byte :=
  match r with
  | 0 | 1 | 2 | 10 | 18 => 0x21#8
  | 3 | 6 | 9 | 11 | 17 => 0x00#8
  | 19 => 0x32#8
  | _ => 0x01#8

/-- The default class and reaction of a host-die source (R342, R343). -/
def resetHostReact (h : Nat) : Byte :=
  match h with
  | 0 | 2 | 3 | 6 | 16 => 0x32#8
  | 4 => 0x31#8
  | 5 | 7 | 9 | 14 | 15 | 17 | 19 | 23 | 24 | 25 | 26 | 27 | 29 | 30 => 0x00#8
  | _ => 0x01#8

/-- FLT_REACTk at reset: the default of the catalogue (R339, R341 to R343). -/
def resetReact (k : Nat) : Byte :=
  if k < 128 then (if k % 8 < 4 then 0x71#8 else if k % 8 < 7 then 0x70#8 else 0x11#8)
  else if k < 148 then resetRingReact (k - 128)
  else if k < 168 then resetRingReact (k - 148)
  else if k < 199 then resetHostReact (k - 168)
  else 0x00#8

def Collector.reset : Collector :=
  { slots := Vector.replicate 256 FaultSlot.reset, tbl := Vector.ofFn (fun (k : Fin 256) => resetReact k.1)
    explicit := Vector.replicate 256 false, past := [], irqHp0 := 1#2, irqHp1 := 1#2, injEn := false, dryrun := false, injDur := 1000#20
    pulses := [], autos := 0#16, relCleared := 0#16, relRefused := 0#16, releases := [], railFault := false, railWord := 0#16, wdEn := false
    wdWindow := 1000#14, wdStart := 0, wdToken := 0#8, wdBad := 0#3, wdExpired := false, safe := Vector.replicate 16 0#3
    mirror := Vector.replicate 16 0#16, mirrorSet := 0#16 }

/-- The registers of a channel at Reset (R185, R215, R246, R268). -/
def ChanCfg.reset : ChanCfg :=
  { mode := 0x1F00#32, diCfg := 0x0A000500#32, diTime := 0x00640064#32, diVth := 0x0014001E#32, diChat := 0x0A05#32
    diCntcfg := 0x0110#32, doCfg := 0x940A1596#32, doPwm := 5000#32, doDuty := 0#32, anCfg := 0x878A0A00#32
    zref := 4000000#32, sref := 20000000#32, tchCfg := 0x1EC33000#32, tchTh := 0x00190028#32, plgCfg := 0x05280000#32
    plgWin := 0x01C20000#32 }

def ChanCmd.reset : ChanCmd := { doCmd := 0#32, anCmd := 0#32, anSet := 0#32, drive := none, alt := none }

def InputPath.reset : InputPath :=
  { raw := false, pad := 0, runFrom := 0, deb := none, runFirst := 0, holdStart := none, state := false, valid := false
    bState := false, lastAcc := 0#32, chatStart := 0, chatCount := 0, wetStart := none, lastWet := none, wetEnd := 0, count := 0#32
    countTick := 0, countDirty := false, countSent := none }

def Stage.reset : Stage :=
  { on := false, drive := .off, inrushStart := none, blankStart := none, duty := 0#32, period := 5000#32, pwmAlt := false
    pwmStart := 0, extDriven := false, shed := false, trips := [], keepLatch := false, tap := 3#2, downCount := 0, swcnt := 0#32, ran := false }

/-- The analog part of a part from manufacture: the identity map, and no trim (R230, R233). -/
def Analog.reset : Analog :=
  { target := 0#32, targetAt := 0, compLow := 0, compOk := 0, region := 0#3, regionAt := 0, lowOutAt := 0, highOutAt := 0, reads := [], rb := 0, meas := 0#32, measFlags := 0#4
    zcap := 4000000#32, scap := 20000000#32, zsFunc := 0#4, trimOfs := 0#32, trimGain := 0#32, trimFunc := 0#4, persist := []
    stored := ⟨4000000#32, 20000000#32, 0#4, 0#32, 0#32, 0#4⟩, rcal := ⟨4000000#32, 20000000#32, 0#4, 0#32, 0#32, 0#4⟩ }

def Touch.reset : Touch :=
  { c := 0#32, base8 := 0, seeded := false, seedCount := 0, seedSum := 0, touched := false, onRun := 0, offRun := 0, onAt := 0, offAt := 0
    negRun := 0, held := 0, openRun := 0, shortRun := 0, scan := 0 }

def Plug.reset : Plug :=
  { state := 0#3, r := 0xFFFF#16, runs := [], since := 0, sinkOff := false, awayAt := none, stableAt := 0, fromState := 0#3, bounce := 0#16
    unplugs := 0#16 }

def Chan.reset : Chan :=
  { cfg := ChanCfg.reset, rng := ChanCfg.reset, cmd := ChanCmd.reset, rcmd := ChanCmd.reset, change := none, holdPad := none
    modeParams := none, live := 0#32, tripKept := false, diSticky := 0#32, doSticky := 0#32, anSticky := 0#32, tchSticky := 0#32, plgSticky := 0#32
    guardWait := [], causes := 0#16, latch := false, rsafe := 0#3, releaseDue := none, inp := InputPath.reset, stage := Stage.reset
    an := Analog.reset, tch := Touch.reset, plg := Plug.reset, errChatter := 0#16, errQuad := 0#16, errTrips := 0#16
    errRetries := 0#8, hostState := false, hostRise := false, hostFall := false, hostCount := 0#32
    hostValid := false, hostPlug := 0#3, hostFunc := 0#4 }

def Fsk.reset : Fsk :=
  { rt := 30#8, txQuiet := 2#6, en := false, ch := 31#5, tx := [], rx := [], state := .idle, sentAt := 0, sent := 0, ended := false, ranDry := false
    cd := false, quietFrom := 0, respFrom := none, som := false, lastStop := 0, evt := 0#7, errors := 0#16, chars := 0#16 }

/-- A Ring without its supply. -/
def Ring.reset : Ring :=
  { logic := false, vfOk := false, offered := false, link := false, everUp := false, ringLost := true, configured := false
    passedPor := true, restarted := false, porSticky := true, uvloSticky := false, linkDrops := 0#8, holdover := false, estTurns := []
    linkTimeout := 1000, lastHostBeat := 0, lastRingBeat := 0, downAt := 0, beatAt := 0, taken := false, redo := false, hostConf := false
    hostVf := false, hostTaps := false, shown := [], beat := none
    ringBeat := false, realigned := false, reports := [], dropped := 0, upq := [], cmdq := [], safeq := [], discards := [], lostAt := none
    hostRx := 0#16, ringRx := 0#16, pwrcfg := 0x008C0418#32, loadcfg := 0xF00A0AB4#32, rPwrcfg := 0x008C0418#32
    rLoadcfg := 0xF00A0AB4#32, stepN := 100, sticky := 0#6, vfLow := false, overload := false, overloadAt := 0, tapOverload := false
    tempWarn := false, thermal := false, shedStack := [], cleanTicks := 0, rails := 0#3, railHold := [], t3 := false
    gateAt := none, gateIn := true, driveGate := true, rrole := ⟨false, true, true, false⟩, discardAt := 0, qual := false, staged := false, rmode := .run, rhold := false, rstop := false, fskcfg := 0x1E000200#32
    fskch := 31#5, fsk := Fsk.reset, vf := none, vfMin := none, temp := none, tapv := Vector.replicate 3 none }

def Svc.reset : Svc :=
  { timeout := 10#8, en := false, ch := 0, armEnd := 0, last := 0#4, zeroHeld := false, spanHeld := false, zeroAt := none
    spanAt := none, blocked := false, spoiled := false, blinks := 0, blinkOn := false, blinkAt := 0, ledHost := false
    refused := 0#16, captured := 0#16, lastRefusal := Vector.replicate 16 0#4 }

def Slot.reset : Slot := { st := .empty, written := 0#32768 }

/-- The loader of a part from manufacture: no active-slot record, and both slots empty (log entry 18). -/
def ImgState.reset : ImgState :=
  { load := .idle, actPending := false, borrowed := false, fallback := false, noImage := false, diverged := false, divcnt := 0#16
    active := false, record := Vector.replicate 2 none, slots := Vector.replicate 2 Slot.reset, ldOp := 0#4, ldCode := 1#8
    waddr := 0#18, errloc := 0#32, claimErrA := 0#32, claimErrB := 0#32, claimErrRec := 0#32, actStep := 0#64, claimq := 0#16
    target := false, origin := .internal, starting := false, shadow := none, await := [], running := none, claims := []
    paired := false, pairId := false, erased := [], configGen := 0 }

def Snapshot.reset : Snapshot := { chan := 0#256, thresh := 0#64, hsig := 0#128, device := 0#9, values := [] }

def FabState.reset : FabState :=
  { stepN := 100, stepPend := none, stepNo := 0, stepStart := 0, running := false, stopped := false, consec := 0#2
    overrunLast := false, evalLast := 0#16, evalNow := 0#16, evalMax := 0#16, evalDone := false, ovr := 0#16, applied := 0#32, first := false
    hsig := 0#128, pulses := 0#128, carry := Snapshot.reset, carryDue := false, snap := Snapshot.reset, flags := 0#64, flagChg := 0#64
    actOut := 0#512, latched := 0#512, selType := 0#3, selIndex := 0#9, staged := Vector.replicate 4 none, acts := []
    timers := [], counters := [], comparators := [], bindings := [], pend := [], valuePend := [], outChan := 0#48
    outDev := 0#4, setpoints := [] }

def Slice.reset (role : SliceRole) : Slice :=
  { role := role, failed := false, calValid := true, retried := false, waiting := false, cal := 0#32, calAt := 0, late := [] }

/-- The default round (R274): entry 63 is the Ring monitor, placed at position P0 and offset 0. -/
def Adc.reset : Adc :=
  { refcfg := 0x09C40A00#32, rotcfg := 10#8, refPend := none, refCome := none, rotPend := none
    entries := Vector.ofFn (fun (i : Fin 64) => if i.1 = 63 then 0x00010280#32 else 0x00010300#32), entPend := [], entCome := []
    place := Vector.ofFn (fun (i : Fin 64) => if i.1 = 63 then some (0, 0) else none), settled := false, refFault := false
    intRefFault := false, extMeas := 0#16, refOffAt := none, refInAt := none, monItem := 0
    calStore := Vector.replicate 5 0#32, settleAt := none, rotNext := 0, events := 0#16, handDue := false, postponed := false, postponedAt := 0
    nextPos := 0, pos := Vector.ofFn (fun (p : Fin 4) => some ⟨p.1, by omega⟩)
    slices := Vector.ofFn (fun (k : Fin 5) => Slice.reset (if k.1 = 4 then .spare else .working)), calNext := [], ovrNext := []
    sticky := 0#5, errLate := 0#16, errRetry := 0#16 }

def Chain.reset : Chain :=
  { cfg := 0#32, thhi := 0#32, thlo := 0#32, thcfg := 0#32, cfgPend := none, restart := false, running := false, origin := 0
    count := 0, lastIn := 0, hist := (0, 0), inFlags := 0#3, settleLeft := 0, hi := false, lo := false, hiRun := 0, loRun := 0
    judged := 0, hiEvt := false, loEvt := false, value := 0#32, delivered := false, valueSettle := false, thval := 0#32 }

def Filt.reset : Filt :=
  { cfg := 0#32, cfgPend := none, armed := false, origin := 0, syncDue := [], diag := 0#3, errA := 0#16, errB := 0#16
    chains := Vector.replicate 16 Chain.reset }

/-- Capture at reset; the store of a part from manufacture is erased, so its captures are available (R398). -/
def Replay.reset : Replay :=
  { on := false, leaving := false, want := none, modeReg := false, cfg := 0#32, capcfg := 0x1F1F0001#32, ring := []
    lastValues := [], keyDue := true, appliedNow := false, trigPrev := false, capture := none, used := 0, captures := 0
    nextNo := 1, availFrom := 0, full := false, missed := 0#16, extra := 0#16, erasing := false, loading := false
    xofs := 0#18, rerun := none, runCap := 0#8, result := 0#2, divStep := 0#64, divDest := 0#16, divCount := 0#16, raw := [], erased := [] }

def Chk.reset : Chk :=
  { cfg := 0x00020020#32, poly := 0x04C11DB7#32, init := 0xFFFFFFFF#32, xorout := 0xFFFFFFFF#32, run := 0xFFFFFFFF#32
    space := 0#3, addr := 0#21, len := 0#21, st := .idle, done := false, aborted := false, uncorr := false, carousel := false
    pos := 0#21, errcnt := 0#16 }

/-- PAIR_CFG without a record (R454). -/
def pairCfgReset : Word := 0x0A060500#32

def Pair.reset : Pair :=
  { cfg := pairCfgReset, role := .unpaired, mayDrive := true, standby := false, uq := 0#10, stale := false, tlHb := false
    tlQual := false, tzUp := false, lastFrame := 0, lastBeat := 0, beatAt := 0, qualAt := 0, tzLostAt := none, partnerRole := 15#4, partnerId := false
    partnerFlags := 0#8, partnerUq := 0#10, peerCrc := 0#32, peerVer := 0#32, peerLen := 0#32, peerMax := 0#4, peerMin := 0#4
    peerFlags := 0#8, peerSeen := false, mirOwn := 0#16, mirPeer := 0#16, mirLast := 0#16, mirCode := 0#8, mirQueue := [], flight := none
    gapFrom := none, gapOpen := false, epochNum := 0#32, sending := none, lastSent := none, stepsPer := 0#8, lastEpochStep := 0
    needFullPeer := false, needFull := false, held := none, heldAt := 0, segs := [], discarding := false, discarded := 0#16
    hbLost := false, hbStayed := false, toldRole := ⟨false, true, true, false⟩, sourceOn := false, togglePend := false, issued := 0, mirBusy := false, tx := [], txAt := 0, fseq := 0#8, line := none
    toggles := 0, toggleAt := 0, listenFrom := 0, claimFrom := 0, backoffFrom := 0, bothLostFrom := none
    tlLostFrom := none, claimReason := 0#4, claimFails := 0, swap := none, resume := none, minutes := 0#32, minutesKept := 0#32, idleFrom := 0
    takeovers := 0#8, swaps := 0#8, releases := 0#8, claimFail := 0#8, tzCrc := 0#16, missed := 0#16, badTimes := []
    evt := 0#6, evten := 1#6, sentHeartbeat := [], sentQual := [], sentMirror := [], sentEpoch := [], sentAck := none
    sentSwap := none }

/-- Lifetime telemetry at manufacture: nothing measured (log entry 3). -/
def Lifetime.reset : Lifetime :=
  { peak := Vector.replicate 3 0x80#8, hotMinutes := 0#32, hotSeconds := 0, tempSum := 0, tempCount := 0
    taps := Vector.replicate 8 0#32, tapSeconds := Vector.replicate 8 0, energy := Vector.replicate 16 0#48 }

/-- The Carousel of a part from manufacture: no sector has been erased or retired (R458). -/
def Bg.reset : Bg :=
  { cfg := 0x0001360A#32, synccfg := 0#32, bad := 0#16, edgeAt := none, syncFrom := 0, refOk := false, behind := 0#8, diag := 0#8, refDue := []
    scrubPos := 0, scrubFrom := 0, scrubDue := false, scrubPasses := 0#16, uncorr := 0#8, corrected := 0#8, refreshFrom := 0#48
    refreshPasses := 0#16, relocated := 0#12, refreshPos := 0, refreshCrc := 0#2, slotFail := 0#2
    wear := { mapped := Vector.replicate 216 0, pool := List.replicate 40 0, retired := 0#8, logAt := 0 }, calibGen := 0, syncOut := none, goodRefs := 0
    trimFrom := 0, trimTo := 0, trimAt := 0, chTrims := Vector.replicate 16 (0, 0), chTrimAt := Vector.replicate 16 none, hotAt := none, hostTemp := 0#32, supply := 0#32, vhMin := 0xFFFF#16, update := 0#32
    life := Lifetime.reset, lifeKept := Lifetime.reset }

def Power.reset : Power :=
  { mode := .run, req := .run, want := none, leaving := false, retention := false, internal := false, waking := false
    wakeB := false, holdB := false, wantFrom := 0, wakePend := none, cause := 0#4, wakeCh := 31#5, wakecfg := 0#32, wakes := 0#16, cellars := 0#16
    seconds := 0#32, cellarFrom := 0, internalFrom := 0 }

/-- The part as it leaves manufacture, its supplies off: every register at its Reset value, and nothing in the cellar store. The
host die starts by POWER_UP_START, HOST_START_VH_OK and HOST_PORTS_ANSWER (R47; log entry 22). -/
def State.reset : State :=
  { vio := true, clock := 0, phase := .off, time := TimeState.reset, tickets := Vector.replicate 64 { st := .free, resp := none }
    readyCount := 0, ports := Vector.replicate 2 Port.reset, shadows := [], recd := Recorder.reset
    wheels := Vector.replicate 64 Wheel.reset, flt := Collector.reset, chans := Vector.replicate 16 Chan.reset
    rings := Vector.replicate 2 Ring.reset, svc := Svc.reset, img := ImgState.reset, cells := [], storeGen := 0, fab := FabState.reset
    adcs := Vector.replicate 2 Adc.reset, filt := Filt.reset, rpl := Replay.reset, chks := Vector.replicate 4 Chk.reset, chkTurn := 0
    pair := Pair.reset, bg := Bg.reset, pwr := Power.reset, freeCtr := 0, pending := [] }

end Sys2Proof.Machine
end

