-- ==== Sys2Proof/Machine/Ops.lean ====
section
/-! DEFINITION. The plain operations that every meaning is built from: bit fields, saturating counts, tables indexed
by channel, Ring, wheel or slot, the tick count, and the free values. -/

namespace Sys2Proof.Machine

/-! ## Bit fields, counts and byte order -/

/-- Bits `lo + len - 1 : lo` of a register as a number. -/
def fld (w : Word) (lo len : Nat) : Nat := w.toNat / 2 ^ lo % 2 ^ len

/-- Bit `i` of a register. -/
def bit (w : Word) (i : Nat) : Bool := w.getLsbD i

/-- `w` with `v` in bits `lo + len - 1 : lo`. -/
def setFld (w : Word) (lo len v : Nat) : Word :=
  BitVec.ofNat 32 (w.toNat / 2 ^ (lo + len) * 2 ^ (lo + len) + v % 2 ^ len * 2 ^ lo + w.toNat % 2 ^ lo)

/-- A one-bit number. -/
def b2n (b : Bool) : Nat := if b then 1 else 0

/-- The word whose bit `i` is `b` and whose other bits are 0. -/
def bitAt (b : Bool) (i : Nat) : Nat := if b then 2 ^ i else 0

/-- A word from a number below 2³² (a sum of placed fields). -/
def word (n : Nat) : Word := BitVec.ofNat 32 n

/-- A counter that saturates at all ones (R92, R389). -/
def satInc {k : Nat} (x : BitVec k) : BitVec k := if x = BitVec.allOnes k then x else x + 1#k

/-- A counter that adds `n` and saturates at all ones. -/
def satAdd {k : Nat} (x : BitVec k) (n : Nat) : BitVec k :=
  if x.toNat + n < 2 ^ k then BitVec.ofNat k (x.toNat + n) else BitVec.allOnes k

/-- The number saturated to `k` bits. -/
def satTo (k n : Nat) : BitVec k := if n < 2 ^ k then BitVec.ofNat k n else BitVec.allOnes k

/-- The bytes of a word, least significant first (R3). -/
def leBytes (w : Word) : List Byte :=
  [w.extractLsb' 0 8, w.extractLsb' 8 8, w.extractLsb' 16 8, w.extractLsb' 24 8]

/-- The bytes of a number in `n` little-endian bytes (R3). -/
def leBytesN : Nat → Nat → List Byte
  | 0, _ => []
  | n + 1, v => BitVec.ofNat 8 v :: leBytesN n (v / 256)

/-- The number that a little-endian list of bytes spells (R3). -/
def leNat : List Byte → Nat
  | [] => 0
  | b :: bs => b.toNat + 256 * leNat bs

/-- The bytes of a number in `n` bytes, most significant first (R66). -/
def beBytesN (n v : Nat) : List Byte := (leBytesN n v).reverse

/-- One bit step of a most-significant-first CRC. -/
def crcStep {k : Nat} (poly : BitVec k) (r : BitVec k) : BitVec k :=
  if r.msb then (r <<< 1) ^^^ poly else r <<< 1

/-- One byte into a 16-bit CRC (R70). -/
def crc16Byte (r : BitVec 16) (b : Byte) : BitVec 16 :=
  let s := crcStep (0x1021#16)
  s (s (s (s (s (s (s (s (r ^^^ (b.zeroExtend 16 <<< 8)))))))))

/-- CRC-16 with polynomial 0x1021 and initial value 0xFFFF, without reflection or final inversion (R70). -/
def crc16 (bs : List Byte) : BitVec 16 := bs.foldl crc16Byte 0xFFFF#16

/-- One byte, least significant bit first, into the reflected CRC-32 of R98. -/
def crc32Byte (r : Word) (b : Byte) : Word :=
  let s := fun (x : Word) => if x.getLsbD 0 then (x >>> 1) ^^^ 0xEDB88320#32 else x >>> 1
  s (s (s (s (s (s (s (s (r ^^^ b.zeroExtend 32))))))))

/-- The CRC-32 of R98: polynomial 0x04C1_1DB7 reflected, initial value and final inversion 0xFFFF_FFFF. -/
def crc32 (bs : List Byte) : Word := ~~~ (bs.foldl crc32Byte 0xFFFFFFFF#32)

/-- Rounding of a quotient to the nearest integer, halves away from zero (R220, R229). -/
def divNearest (a b : Int) : Int :=
  let q := (2 * a.natAbs + b.natAbs) / (2 * b.natAbs)
  if (a < 0) = (b < 0) then (q : Int) else - (q : Int)

/-! ## Tables -/

/-- Entry `i` of a table replaced by its image under `f`. -/
def tmod {α : Type} {n : Nat} (v : Vector α n) (i : Fin n) (f : α → α) : Vector α n := v.set i.1 (f v[i.1]) i.2

/-- The place of a Ring in its tables. -/
def rix : RingId → Fin 2
  | .a => 0
  | .b => 1

/-- The place of a host port in its tables. -/
def pix : PortId → Fin 2
  | .hp0 => 0
  | .hp1 => 1

/-- The place of a master in its tables. -/
def mix : Master → Fin 4
  | .hp0 => 0
  | .hp1 => 1
  | .trapeze => 2
  | .service => 3

/-- The master behind a host port. -/
def portMaster : PortId → Master
  | .hp0 => .hp0
  | .hp1 => .hp1

/-- Origin codes of R371. -/
def originCode : Origin → Nat
  | .internal => 0
  | .hp0 => 1
  | .hp1 => 2
  | .trapeze => 3
  | .service => 4
  | .fabric => 5
  | .loader => 6
  | .replay => 7

/-- The origin of a port's requests (R371). -/
def portOrigin : PortId → Origin
  | .hp0 => .hp0
  | .hp1 => .hp1

/-- The master whose shadows and cursors an origin uses (R86, R380); the service port reads no register (R63). -/
def originMaster : Origin → Master
  | .hp0 => .hp0
  | .hp1 => .hp1
  | .trapeze => .trapeze
  | _ => .service

/-- The Ring that carries a channel (R12). -/
def ringOf (n : Fin 16) : RingId := if n.1 < 8 then .a else .b

/-- The channels of a Ring as a mask over CH0 to CH15. -/
def ringMask : RingId → BitVec 16
  | .a => 0x00FF#16
  | .b => 0xFF00#16

/-- The neighbour with which a channel may count or gang: n XOR 1 (R173, R198). -/
def mate (n : Fin 16) : Fin 16 :=
  if h : n.1 % 2 = 0 then ⟨n.1 + 1, by omega⟩ else ⟨n.1 - 1, by omega⟩

/-- All channels in ascending order. -/
def allCh : List (Fin 16) := List.finRange 16

/-- The channels of a Ring in ascending order. -/
def ringChs (x : RingId) : List (Fin 16) := allCh.filter (fun n => ringOf n = x)

/-- A number as an index below `n`. -/
def toIdx (n v : Nat) [NeZero n] : Fin n := Fin.ofNat n v

def State.ring (s : State) (x : RingId) : Ring := s.rings[(rix x).1]

def State.modRing (s : State) (x : RingId) (f : Ring → Ring) : State := { s with rings := tmod s.rings (rix x) f }

def State.chan (s : State) (n : Fin 16) : Chan := s.chans[n.1]

def State.modChan (s : State) (n : Fin 16) (f : Chan → Chan) : State := { s with chans := tmod s.chans n f }

def State.port (s : State) (p : PortId) : Port := s.ports[(pix p).1]

def State.modPort (s : State) (p : PortId) (f : Port → Port) : State := { s with ports := tmod s.ports (pix p) f }

def State.wheel (s : State) (w : Fin 64) : Wheel := s.wheels[w.1]

def State.modWheel (s : State) (w : Fin 64) (f : Wheel → Wheel) : State := { s with wheels := tmod s.wheels w f }

def State.slot (s : State) (k : Fin 256) : FaultSlot := s.flt.slots[k.1]

def State.modSlot (s : State) (k : Fin 256) (f : FaultSlot → FaultSlot) : State :=
  { s with flt := { s.flt with slots := tmod s.flt.slots k f } }

def State.chain (s : State) (n : Fin 16) : Chain := s.filt.chains[n.1]

def State.modChain (s : State) (n : Fin 16) (f : Chain → Chain) : State :=
  { s with filt := { s.filt with chains := tmod s.filt.chains n f } }

def State.adc (s : State) (x : RingId) : Adc := s.adcs[(rix x).1]

def State.modAdc (s : State) (x : RingId) (f : Adc → Adc) : State := { s with adcs := tmod s.adcs (rix x) f }

/-- The chain of a channel restarts at the first frame boundary at or after a cause of R296. -/
def State.restartChain (s : State) (n : Fin 16) : State := s.modChain n (fun h => { h with restart := true })

/-- Every chain of a Ring restarts (R296). -/
def State.restartChains (s : State) (x : RingId) : State := (ringChs x).foldl State.restartChain s

/-! ## Time (R23, R383) -/

/-- The 64-bit tick count: device microseconds since the host die last started (R47). -/
def State.tick (s : State) : Nat := s.clock - s.time.startClock

/-- The low word of the tick count. -/
def State.tickLo (s : State) : Word := word s.tick

/-- The operating time in units of 2⁻²⁰ h: the base of this start and the microseconds since (R383, R384). -/
def State.opt (s : State) : BitVec 48 :=
  BitVec.ofNat 48 (s.recd.optBase.toNat + s.tick * 1048576 / 3600000000)

/-! ## Free values (log entry 6) -/

/-- One free word, and the state with the next one due. -/
def State.free (s : State) : Word × State := (Config.freeWord s.freeCtr, { s with freeCtr := s.freeCtr + 1 })

/-- A fold over channels (or slots, or wheels) that threads the state. -/
def forEach {α : Type} (xs : List α) (f : α → State → State) (s : State) : State :=
  xs.foldl (fun t x => f x t) s

/-- `f s` where `c` holds, `s` where it does not: an event whose condition fails changes nothing (log entry 2). -/
def whenDo (c : Bool) (f : State → State) (s : State) : State := if c then f s else s

/-- The outcome of every meaning of this block: the next state. -/
abbrev ok (s : State) : Host.Outcome State Fault Refusal := .next s

end Sys2Proof.Machine
end

