-- ==== Sys2Proof/Machine/AddressMap.lean ====
section
/-! DEFINITION. The address map (R92): every register of every block by name, its address, and the decoder from an
address of the host ports to what it names. -/

namespace Sys2Proof.Machine

/-- Registers of Ident (R92). -/
inductive IdentReg where
  | device | revs | uidLo | uidHi | whoami
  deriving DecidableEq, Repr

/-- Offset of each register within its block (R92). -/
def IdentReg.off : IdentReg → Nat
  | .device => 0x000
  | .revs => 0x004
  | .uidLo => 0x008
  | .uidHi => 0x00C
  | .whoami => 0x010

/-- The registers of the block. -/
def IdentReg.all : List IdentReg :=
  [.device, .revs, .uidLo, .uidHi, .whoami]

/-- The register of the block at an offset, if one is mapped there. -/
def IdentReg.ofOff (o : Nat) : Option IdentReg := IdentReg.all.find? (fun r => r.off == o)

/-- Registers of Port (R92). -/
inductive PortReg where
  | cfg | irqEn | irqCause | stat | cnt | dupcnt | retcnt | seq
  deriving DecidableEq, Repr

/-- Offset of each register within its block (R92). -/
def PortReg.off : PortReg → Nat
  | .cfg => 0x000
  | .irqEn => 0x004
  | .irqCause => 0x008
  | .stat => 0x00C
  | .cnt => 0x010
  | .dupcnt => 0x014
  | .retcnt => 0x018
  | .seq => 0x01C

/-- The registers of the block. -/
def PortReg.all : List PortReg :=
  [.cfg, .irqEn, .irqCause, .stat, .cnt, .dupcnt, .retcnt, .seq]

/-- The register of the block at an offset, if one is mapped there. -/
def PortReg.ofOff (o : Nat) : Option PortReg := PortReg.all.find? (fun r => r.off == o)

/-- Registers of Time (R93). -/
inductive TimeReg where
  | tickLo | tickHi | optLo | optHi | pwrcyc | caltagLo | caltagHi | calatLo | calatHi | mark | markTick | trim
  deriving DecidableEq, Repr

/-- Offset of each register within its block (R93). -/
def TimeReg.off : TimeReg → Nat
  | .tickLo => 0x000
  | .tickHi => 0x004
  | .optLo => 0x008
  | .optHi => 0x00C
  | .pwrcyc => 0x010
  | .caltagLo => 0x014
  | .caltagHi => 0x018
  | .calatLo => 0x01C
  | .calatHi => 0x020
  | .mark => 0x024
  | .markTick => 0x028
  | .trim => 0x02C

/-- The registers of the block. -/
def TimeReg.all : List TimeReg :=
  [.tickLo, .tickHi, .optLo, .optHi, .pwrcyc, .caltagLo, .caltagHi, .calatLo, .calatHi, .mark, .markTick, .trim]

/-- The register of the block at an offset, if one is mapped there. -/
def TimeReg.ofOff (o : Nat) : Option TimeReg := TimeReg.all.find? (fun r => r.off == o)

/-- Registers of Img (R129). -/
inductive ImgReg where
  | ctrl | status | ldstat | waddr | wdata | errloc | claimerrA | claimerrB | claimerrRec | divcnt | actstepLo
  | actstepHi | claimq | claimqHolder | slot0State | slot0Crc | slot0Ver | slot0Len | slot1State | slot1Crc
  | slot1Ver | slot1Len
  deriving DecidableEq, Repr

/-- Offset of each register within its block (R129). -/
def ImgReg.off : ImgReg → Nat
  | .ctrl => 0x000
  | .status => 0x004
  | .ldstat => 0x008
  | .waddr => 0x00C
  | .wdata => 0x010
  | .errloc => 0x014
  | .claimerrA => 0x018
  | .claimerrB => 0x01C
  | .claimerrRec => 0x020
  | .divcnt => 0x024
  | .actstepLo => 0x028
  | .actstepHi => 0x02C
  | .claimq => 0x030
  | .claimqHolder => 0x034
  | .slot0State => 0x040
  | .slot0Crc => 0x044
  | .slot0Ver => 0x048
  | .slot0Len => 0x04C
  | .slot1State => 0x050
  | .slot1Crc => 0x054
  | .slot1Ver => 0x058
  | .slot1Len => 0x05C

/-- The registers of the block. -/
def ImgReg.all : List ImgReg :=
  [.ctrl, .status, .ldstat, .waddr, .wdata, .errloc, .claimerrA, .claimerrB, .claimerrRec, .divcnt, .actstepLo,
  .actstepHi, .claimq, .claimqHolder, .slot0State, .slot0Crc, .slot0Ver, .slot0Len, .slot1State, .slot1Crc,
  .slot1Ver, .slot1Len]

/-- The register of the block at an offset, if one is mapped there. -/
def ImgReg.ofOff (o : Nat) : Option ImgReg := ImgReg.all.find? (fun r => r.off == o)

/-- Registers of Fab (R156). -/
inductive FabReg where
  | status | stepcfg | stepLo | stepHi | eval | ovr | applied | hsig0 | hsig1 | hsig2 | hsig3 | hsigset0 | hsigset1
  | hsigset2 | hsigset3 | hsigclr0 | hsigclr1 | hsigclr2 | hsigclr3 | hsigpls0 | hsigpls1 | hsigpls2 | hsigpls3
  | flagLo | flagHi | flagchgLo | flagchgHi | actout0 | actout1 | actout2 | actout3 | actout4 | actout5 | actout6
  | actout7 | actout8 | actout9 | actout10 | actout11 | actout12 | actout13 | actout14 | actout15 | sel | apply
  | win0 | win1 | win2 | win3
  deriving DecidableEq, Repr

/-- Offset of each register within its block (R156). -/
def FabReg.off : FabReg → Nat
  | .status => 0x000
  | .stepcfg => 0x004
  | .stepLo => 0x008
  | .stepHi => 0x00C
  | .eval => 0x010
  | .ovr => 0x014
  | .applied => 0x018
  | .hsig0 => 0x020
  | .hsig1 => 0x024
  | .hsig2 => 0x028
  | .hsig3 => 0x02C
  | .hsigset0 => 0x030
  | .hsigset1 => 0x034
  | .hsigset2 => 0x038
  | .hsigset3 => 0x03C
  | .hsigclr0 => 0x040
  | .hsigclr1 => 0x044
  | .hsigclr2 => 0x048
  | .hsigclr3 => 0x04C
  | .hsigpls0 => 0x050
  | .hsigpls1 => 0x054
  | .hsigpls2 => 0x058
  | .hsigpls3 => 0x05C
  | .flagLo => 0x060
  | .flagHi => 0x064
  | .flagchgLo => 0x068
  | .flagchgHi => 0x06C
  | .actout0 => 0x080
  | .actout1 => 0x084
  | .actout2 => 0x088
  | .actout3 => 0x08C
  | .actout4 => 0x090
  | .actout5 => 0x094
  | .actout6 => 0x098
  | .actout7 => 0x09C
  | .actout8 => 0x0A0
  | .actout9 => 0x0A4
  | .actout10 => 0x0A8
  | .actout11 => 0x0AC
  | .actout12 => 0x0B0
  | .actout13 => 0x0B4
  | .actout14 => 0x0B8
  | .actout15 => 0x0BC
  | .sel => 0x100
  | .apply => 0x104
  | .win0 => 0x110
  | .win1 => 0x114
  | .win2 => 0x118
  | .win3 => 0x11C

/-- The registers of the block. -/
def FabReg.all : List FabReg :=
  [.status, .stepcfg, .stepLo, .stepHi, .eval, .ovr, .applied, .hsig0, .hsig1, .hsig2, .hsig3, .hsigset0, .hsigset1,
  .hsigset2, .hsigset3, .hsigclr0, .hsigclr1, .hsigclr2, .hsigclr3, .hsigpls0, .hsigpls1, .hsigpls2, .hsigpls3,
  .flagLo, .flagHi, .flagchgLo, .flagchgHi, .actout0, .actout1, .actout2, .actout3, .actout4, .actout5, .actout6,
  .actout7, .actout8, .actout9, .actout10, .actout11, .actout12, .actout13, .actout14, .actout15, .sel, .apply,
  .win0, .win1, .win2, .win3]

/-- The register of the block at an offset, if one is mapped there. -/
def FabReg.ofOff (o : Nat) : Option FabReg := FabReg.all.find? (fun r => r.off == o)

/-- Registers of Ch (R185, R215, R246, R268). -/
inductive ChReg where
  | mode | diCfg | diTime | diVth | diChat | diCntcfg | diCount | diStat | diDiag | diErrcnt | diLastacc | doCfg
  | doCmd | doPwm | doDuty | doStat | doDiag | doMeas | doSwcnt | doErrcnt | anCfg | anCmd | anSet | anMeas | anStat
  | anDiag | anZref | anSref | anZcap | anScap | anZscmd | anTrimOfs | anTrimGain | anCalinfo | tchCfg | tchTh
  | tchC | tchBase | tchCmd | tchStat | tchDiag | plgCfg | plgWin | plgStat | plgDiag | plgCnt
  deriving DecidableEq, Repr

/-- Offset of each register within its block (R185, R215, R246, R268). -/
def ChReg.off : ChReg → Nat
  | .mode => 0x000
  | .diCfg => 0x040
  | .diTime => 0x044
  | .diVth => 0x048
  | .diChat => 0x04C
  | .diCntcfg => 0x050
  | .diCount => 0x054
  | .diStat => 0x058
  | .diDiag => 0x05C
  | .diErrcnt => 0x060
  | .diLastacc => 0x064
  | .doCfg => 0x080
  | .doCmd => 0x084
  | .doPwm => 0x088
  | .doDuty => 0x08C
  | .doStat => 0x090
  | .doDiag => 0x094
  | .doMeas => 0x098
  | .doSwcnt => 0x09C
  | .doErrcnt => 0x0A0
  | .anCfg => 0x0C0
  | .anCmd => 0x0C4
  | .anSet => 0x0C8
  | .anMeas => 0x0CC
  | .anStat => 0x0D0
  | .anDiag => 0x0D4
  | .anZref => 0x0D8
  | .anSref => 0x0DC
  | .anZcap => 0x0E0
  | .anScap => 0x0E4
  | .anZscmd => 0x0E8
  | .anTrimOfs => 0x0EC
  | .anTrimGain => 0x0F0
  | .anCalinfo => 0x0F4
  | .tchCfg => 0x100
  | .tchTh => 0x104
  | .tchC => 0x108
  | .tchBase => 0x10C
  | .tchCmd => 0x110
  | .tchStat => 0x114
  | .tchDiag => 0x118
  | .plgCfg => 0x120
  | .plgWin => 0x124
  | .plgStat => 0x128
  | .plgDiag => 0x12C
  | .plgCnt => 0x130

/-- The registers of the block. -/
def ChReg.all : List ChReg :=
  [.mode, .diCfg, .diTime, .diVth, .diChat, .diCntcfg, .diCount, .diStat, .diDiag, .diErrcnt, .diLastacc, .doCfg,
  .doCmd, .doPwm, .doDuty, .doStat, .doDiag, .doMeas, .doSwcnt, .doErrcnt, .anCfg, .anCmd, .anSet, .anMeas, .anStat,
  .anDiag, .anZref, .anSref, .anZcap, .anScap, .anZscmd, .anTrimOfs, .anTrimGain, .anCalinfo, .tchCfg, .tchTh,
  .tchC, .tchBase, .tchCmd, .tchStat, .tchDiag, .plgCfg, .plgWin, .plgStat, .plgDiag, .plgCnt]

/-- The register of the block at an offset, if one is mapped there. -/
def ChReg.ofOff (o : Nat) : Option ChReg := ChReg.all.find? (fun r => r.off == o)

/-- Registers of Ring (R58, R216, R248). -/
inductive RingReg where
  | domain | pwrcfg | loadcfg | tapv | tapsel | vf | mon | stat | diag | linkerr | fskCfg | fskStat | fskEvt | fskTx
  | fskRx | fskCnt
  deriving DecidableEq, Repr

/-- Offset of each register within its block (R58, R216, R248). -/
def RingReg.off : RingReg → Nat
  | .domain => 0x000
  | .pwrcfg => 0x004
  | .loadcfg => 0x008
  | .tapv => 0x00C
  | .tapsel => 0x010
  | .vf => 0x014
  | .mon => 0x018
  | .stat => 0x01C
  | .diag => 0x020
  | .linkerr => 0x024
  | .fskCfg => 0x100
  | .fskStat => 0x104
  | .fskEvt => 0x108
  | .fskTx => 0x10C
  | .fskRx => 0x110
  | .fskCnt => 0x114

/-- The registers of the block. -/
def RingReg.all : List RingReg :=
  [.domain, .pwrcfg, .loadcfg, .tapv, .tapsel, .vf, .mon, .stat, .diag, .linkerr, .fskCfg, .fskStat, .fskEvt,
  .fskTx, .fskRx, .fskCnt]

/-- The register of the block at an offset, if one is mapped there. -/
def RingReg.ofOff (o : Nat) : Option RingReg := RingReg.all.find? (fun r => r.off == o)

/-- Registers of Adc (R288). -/
inductive AdcReg where
  | refcfg | refstat | rotcfg | rotstat | slicepos | slicestat | load | diag | errcnt | cal0 | cal1 | cal2 | cal3
  | cal4
  deriving DecidableEq, Repr

/-- Offset of each register within its block (R288). -/
def AdcReg.off : AdcReg → Nat
  | .refcfg => 0x000
  | .refstat => 0x004
  | .rotcfg => 0x008
  | .rotstat => 0x00C
  | .slicepos => 0x010
  | .slicestat => 0x014
  | .load => 0x018
  | .diag => 0x01C
  | .errcnt => 0x020
  | .cal0 => 0x040
  | .cal1 => 0x044
  | .cal2 => 0x048
  | .cal3 => 0x04C
  | .cal4 => 0x050

/-- The registers of the block. -/
def AdcReg.all : List AdcReg :=
  [.refcfg, .refstat, .rotcfg, .rotstat, .slicepos, .slicestat, .load, .diag, .errcnt, .cal0, .cal1, .cal2, .cal3,
  .cal4]

/-- The register of the block at an offset, if one is mapped there. -/
def AdcReg.ofOff (o : Nat) : Option AdcReg := AdcReg.all.find? (fun r => r.off == o)

/-- Registers of Filt (R314). -/
inductive FiltReg where
  | cfg | sync | syncstat | synctick | loadA | loadB | diag | errcnt
  deriving DecidableEq, Repr

/-- Offset of each register within its block (R314). -/
def FiltReg.off : FiltReg → Nat
  | .cfg => 0x000
  | .sync => 0x004
  | .syncstat => 0x008
  | .synctick => 0x00C
  | .loadA => 0x010
  | .loadB => 0x014
  | .diag => 0x018
  | .errcnt => 0x01C

/-- The registers of the block. -/
def FiltReg.all : List FiltReg :=
  [.cfg, .sync, .syncstat, .synctick, .loadA, .loadB, .diag, .errcnt]

/-- The register of the block at an offset, if one is mapped there. -/
def FiltReg.ofOff (o : Nat) : Option FiltReg := FiltReg.all.find? (fun r => r.off == o)

/-- Registers of FiltCh (R314). -/
inductive FiltChReg where
  | cfg | thhi | thlo | thcfg | stat | skew | gdly | period | load | thval
  deriving DecidableEq, Repr

/-- Offset of each register within its block (R314). -/
def FiltChReg.off : FiltChReg → Nat
  | .cfg => 0x000
  | .thhi => 0x004
  | .thlo => 0x008
  | .thcfg => 0x00C
  | .stat => 0x010
  | .skew => 0x014
  | .gdly => 0x018
  | .period => 0x01C
  | .load => 0x020
  | .thval => 0x024

/-- The registers of the block. -/
def FiltChReg.all : List FiltChReg :=
  [.cfg, .thhi, .thlo, .thcfg, .stat, .skew, .gdly, .period, .load, .thval]

/-- The register of the block at an offset, if one is mapped there. -/
def FiltChReg.ofOff (o : Nat) : Option FiltChReg := FiltChReg.all.find? (fun r => r.off == o)

/-- Registers of Whl (R334). -/
inductive WhlReg where
  | cfg | prod | irqcfg | stat | evt | lost | base | cmd | head | pendLo | pendHi
  deriving DecidableEq, Repr

/-- Offset of each register within its block (R334). -/
def WhlReg.off : WhlReg → Nat
  | .cfg => 0x000
  | .prod => 0x004
  | .irqcfg => 0x008
  | .stat => 0x00C
  | .evt => 0x010
  | .lost => 0x014
  | .base => 0x018
  | .cmd => 0x01C
  | .head => 0x020
  | .pendLo => 0x030
  | .pendHi => 0x034

/-- The registers of the block. -/
def WhlReg.all : List WhlReg :=
  [.cfg, .prod, .irqcfg, .stat, .evt, .lost, .base, .cmd, .head, .pendLo, .pendHi]

/-- The register of the block at an offset, if one is mapped there. -/
def WhlReg.ofOff (o : Nat) : Option WhlReg := WhlReg.all.find? (fun r => r.off == o)

/-- Registers of Flt (R364). -/
inductive FltReg where
  | status | irqcfg | injcfg | inj | injdur | release | relstat | wdCfg | wdKick | wdStat | wdCmd | railchk | live0
  | live1 | live2 | live3 | live4 | live5 | live6 | live7 | sticky0 | sticky1 | sticky2 | sticky3 | sticky4
  | sticky5 | sticky6 | sticky7 | injlive0 | injlive1 | injlive2 | injlive3 | injlive4 | injlive5 | injlive6
  | injlive7 | injsticky0 | injsticky1 | injsticky2 | injsticky3 | injsticky4 | injsticky5 | injsticky6 | injsticky7
  deriving DecidableEq, Repr

/-- Offset of each register within its block (R364). -/
def FltReg.off : FltReg → Nat
  | .status => 0x000
  | .irqcfg => 0x004
  | .injcfg => 0x008
  | .inj => 0x00C
  | .injdur => 0x010
  | .release => 0x014
  | .relstat => 0x018
  | .wdCfg => 0x01C
  | .wdKick => 0x020
  | .wdStat => 0x024
  | .wdCmd => 0x028
  | .railchk => 0x02C
  | .live0 => 0x040
  | .live1 => 0x044
  | .live2 => 0x048
  | .live3 => 0x04C
  | .live4 => 0x050
  | .live5 => 0x054
  | .live6 => 0x058
  | .live7 => 0x05C
  | .sticky0 => 0x060
  | .sticky1 => 0x064
  | .sticky2 => 0x068
  | .sticky3 => 0x06C
  | .sticky4 => 0x070
  | .sticky5 => 0x074
  | .sticky6 => 0x078
  | .sticky7 => 0x07C
  | .injlive0 => 0x080
  | .injlive1 => 0x084
  | .injlive2 => 0x088
  | .injlive3 => 0x08C
  | .injlive4 => 0x090
  | .injlive5 => 0x094
  | .injlive6 => 0x098
  | .injlive7 => 0x09C
  | .injsticky0 => 0x0A0
  | .injsticky1 => 0x0A4
  | .injsticky2 => 0x0A8
  | .injsticky3 => 0x0AC
  | .injsticky4 => 0x0B0
  | .injsticky5 => 0x0B4
  | .injsticky6 => 0x0B8
  | .injsticky7 => 0x0BC

/-- The registers of the block. -/
def FltReg.all : List FltReg :=
  [.status, .irqcfg, .injcfg, .inj, .injdur, .release, .relstat, .wdCfg, .wdKick, .wdStat, .wdCmd, .railchk, .live0,
  .live1, .live2, .live3, .live4, .live5, .live6, .live7, .sticky0, .sticky1, .sticky2, .sticky3, .sticky4,
  .sticky5, .sticky6, .sticky7, .injlive0, .injlive1, .injlive2, .injlive3, .injlive4, .injlive5, .injlive6,
  .injlive7, .injsticky0, .injsticky1, .injsticky2, .injsticky3, .injsticky4, .injsticky5, .injsticky6, .injsticky7]

/-- The register of the block at an offset, if one is mapped there. -/
def FltReg.ofOff (o : Nat) : Option FltReg := FltReg.all.find? (fun r => r.off == o)

/-- Registers of Rec (R389). -/
inductive RecReg where
  | stat | cursor | tailgen | firstseq | lastseq | lost | clear | window0 | window1 | window2 | window3 | window4
  | window5 | window6 | window7 | jstat | jcursor | jfirstseq | jlastseq | jrefused | jclear | jwindow0 | jwindow1
  | jwindow2 | jwindow3 | jwindow4 | jwindow5 | jwindow6 | jwindow7 | seqnext | pfstat
  deriving DecidableEq, Repr

/-- Offset of each register within its block (R389). -/
def RecReg.off : RecReg → Nat
  | .stat => 0x000
  | .cursor => 0x004
  | .tailgen => 0x00C
  | .firstseq => 0x010
  | .lastseq => 0x014
  | .lost => 0x018
  | .clear => 0x01C
  | .window0 => 0x020
  | .window1 => 0x024
  | .window2 => 0x028
  | .window3 => 0x02C
  | .window4 => 0x030
  | .window5 => 0x034
  | .window6 => 0x038
  | .window7 => 0x03C
  | .jstat => 0x100
  | .jcursor => 0x104
  | .jfirstseq => 0x110
  | .jlastseq => 0x114
  | .jrefused => 0x118
  | .jclear => 0x11C
  | .jwindow0 => 0x120
  | .jwindow1 => 0x124
  | .jwindow2 => 0x128
  | .jwindow3 => 0x12C
  | .jwindow4 => 0x130
  | .jwindow5 => 0x134
  | .jwindow6 => 0x138
  | .jwindow7 => 0x13C
  | .seqnext => 0x200
  | .pfstat => 0x204

/-- The registers of the block. -/
def RecReg.all : List RecReg :=
  [.stat, .cursor, .tailgen, .firstseq, .lastseq, .lost, .clear, .window0, .window1, .window2, .window3, .window4,
  .window5, .window6, .window7, .jstat, .jcursor, .jfirstseq, .jlastseq, .jrefused, .jclear, .jwindow0, .jwindow1,
  .jwindow2, .jwindow3, .jwindow4, .jwindow5, .jwindow6, .jwindow7, .seqnext, .pfstat]

/-- The register of the block at an offset, if one is mapped there. -/
def RecReg.ofOff (o : Nat) : Option RecReg := RecReg.all.find? (fun r => r.off == o)

/-- Registers of Rpl (R407). -/
inductive RplReg where
  | cfg | capcfg | stat | missed | ring | cmd | mode | xofs | xdata | runstat | divstepLo | divstepHi | divdest
  deriving DecidableEq, Repr

/-- Offset of each register within its block (R407). -/
def RplReg.off : RplReg → Nat
  | .cfg => 0x000
  | .capcfg => 0x004
  | .stat => 0x008
  | .missed => 0x00C
  | .ring => 0x010
  | .cmd => 0x014
  | .mode => 0x018
  | .xofs => 0x01C
  | .xdata => 0x020
  | .runstat => 0x024
  | .divstepLo => 0x028
  | .divstepHi => 0x02C
  | .divdest => 0x030

/-- The registers of the block. -/
def RplReg.all : List RplReg :=
  [.cfg, .capcfg, .stat, .missed, .ring, .cmd, .mode, .xofs, .xdata, .runstat, .divstepLo, .divstepHi, .divdest]

/-- The register of the block at an offset, if one is mapped there. -/
def RplReg.ofOff (o : Nat) : Option RplReg := RplReg.all.find? (fun r => r.off == o)

/-- Registers of Chk (R420). -/
inductive ChkReg where
  | cfg | poly | init | xorout | run | data | result | scanspace | scanaddr | scanlen | cmd | stat | scanpos
  | errcnt
  deriving DecidableEq, Repr

/-- Offset of each register within its block (R420). -/
def ChkReg.off : ChkReg → Nat
  | .cfg => 0x000
  | .poly => 0x004
  | .init => 0x008
  | .xorout => 0x00C
  | .run => 0x010
  | .data => 0x014
  | .result => 0x018
  | .scanspace => 0x01C
  | .scanaddr => 0x020
  | .scanlen => 0x024
  | .cmd => 0x028
  | .stat => 0x02C
  | .scanpos => 0x030
  | .errcnt => 0x034

/-- The registers of the block. -/
def ChkReg.all : List ChkReg :=
  [.cfg, .poly, .init, .xorout, .run, .data, .result, .scanspace, .scanaddr, .scanlen, .cmd, .stat, .scanpos,
  .errcnt]

/-- The register of the block at an offset, if one is mapped there. -/
def ChkReg.ofOff (o : Nat) : Option ChkReg := ChkReg.all.find? (fun r => r.off == o)

/-- Registers of Pair (R454). -/
inductive PairReg where
  | cfg | status | cmd | evt | evten | peerCrc | peerVer | peerLen | link | mirseq | epoch | epochstat | idle | cnt
  | tzerr | tl
  deriving DecidableEq, Repr

/-- Offset of each register within its block (R454). -/
def PairReg.off : PairReg → Nat
  | .cfg => 0x000
  | .status => 0x004
  | .cmd => 0x008
  | .evt => 0x00C
  | .evten => 0x010
  | .peerCrc => 0x014
  | .peerVer => 0x018
  | .peerLen => 0x01C
  | .link => 0x020
  | .mirseq => 0x024
  | .epoch => 0x028
  | .epochstat => 0x02C
  | .idle => 0x030
  | .cnt => 0x034
  | .tzerr => 0x038
  | .tl => 0x03C

/-- The registers of the block. -/
def PairReg.all : List PairReg :=
  [.cfg, .status, .cmd, .evt, .evten, .peerCrc, .peerVer, .peerLen, .link, .mirseq, .epoch, .epochstat, .idle, .cnt,
  .tzerr, .tl]

/-- The register of the block at an offset, if one is mapped there. -/
def PairReg.ofOff (o : Nat) : Option PairReg := PairReg.all.find? (fun r => r.off == o)

/-- Registers of Bg (R475). -/
inductive BgReg where
  | cfg | synccfg | syncstat | stat | diag | scrub | refresh | wear | tlmTemp | tlmPeak | tlmHot | tlmTavg
  | tlmSupply | tlmVhmin | tlmUpdate | tlmTapA1 | tlmTapA2 | tlmTapA3 | tlmTapA4 | tlmTapB1 | tlmTapB2 | tlmTapB3
  | tlmTapB4 | pwrCtrl | pwrStat | pwrWakecfg | pwrCnt | pwrCellar
  deriving DecidableEq, Repr

/-- Offset of each register within its block (R475). -/
def BgReg.off : BgReg → Nat
  | .cfg => 0x000
  | .synccfg => 0x004
  | .syncstat => 0x008
  | .stat => 0x00C
  | .diag => 0x010
  | .scrub => 0x014
  | .refresh => 0x018
  | .wear => 0x01C
  | .tlmTemp => 0x1000
  | .tlmPeak => 0x1004
  | .tlmHot => 0x1008
  | .tlmTavg => 0x100C
  | .tlmSupply => 0x1010
  | .tlmVhmin => 0x1014
  | .tlmUpdate => 0x1018
  | .tlmTapA1 => 0x1040
  | .tlmTapA2 => 0x1044
  | .tlmTapA3 => 0x1048
  | .tlmTapA4 => 0x104C
  | .tlmTapB1 => 0x1050
  | .tlmTapB2 => 0x1054
  | .tlmTapB3 => 0x1058
  | .tlmTapB4 => 0x105C
  | .pwrCtrl => 0x2000
  | .pwrStat => 0x2004
  | .pwrWakecfg => 0x2008
  | .pwrCnt => 0x200C
  | .pwrCellar => 0x2010

/-- The registers of the block. -/
def BgReg.all : List BgReg :=
  [.cfg, .synccfg, .syncstat, .stat, .diag, .scrub, .refresh, .wear, .tlmTemp, .tlmPeak, .tlmHot, .tlmTavg,
  .tlmSupply, .tlmVhmin, .tlmUpdate, .tlmTapA1, .tlmTapA2, .tlmTapA3, .tlmTapA4, .tlmTapB1, .tlmTapB2, .tlmTapB3,
  .tlmTapB4, .pwrCtrl, .pwrStat, .pwrWakecfg, .pwrCnt, .pwrCellar]

/-- The register of the block at an offset, if one is mapped there. -/
def BgReg.ofOff (o : Nat) : Option BgReg := BgReg.all.find? (fun r => r.off == o)

/-- Registers of Svc (R247). -/
inductive SvcReg where
  | arm | stat | ledctl | cnt
  deriving DecidableEq, Repr

/-- Offset of each register within its block (R247). -/
def SvcReg.off : SvcReg → Nat
  | .arm => 0x000
  | .stat => 0x004
  | .ledctl => 0x008
  | .cnt => 0x00C

/-- The registers of the block. -/
def SvcReg.all : List SvcReg :=
  [.arm, .stat, .ledctl, .cnt]

/-- The register of the block at an offset, if one is mapped there. -/
def SvcReg.ofOff (o : Nat) : Option SvcReg := SvcReg.all.find? (fun r => r.off == o)

/-- Every register of the part (R92). -/
inductive Reg where
  | ident (r : IdentReg)
  | port (p : PortId) (r : PortReg)
  | tktStat
  | tktHeld
  | time (r : TimeReg)
  | img (r : ImgReg)
  | fab (r : FabReg)
  | ch (n : Fin 16) (r : ChReg)
  | ring (x : RingId) (r : RingReg)
  | adc (x : RingId) (r : AdcReg)
  | adcEntry (x : RingId) (i : Fin 64)
  | adcEntryOfs (x : RingId) (i : Fin 64)
  | filt (r : FiltReg)
  | filtCh (n : Fin 16) (r : FiltChReg)
  | whl (w : Fin 64) (r : WhlReg)
  | flt (r : FltReg)
  | fltChsafe (n : Fin 16)
  | fltSrc (k : Fin 256)
  | fltReact (k : Fin 256)
  | recd (r : RecReg)
  | rpl (r : RplReg)
  | chk (u : Fin 4) (r : ChkReg)
  | pair (r : PairReg)
  | bg (r : BgReg)
  | energyLo (n : Fin 16)
  | energyHi (n : Fin 16)
  | svc (r : SvcReg)
  deriving DecidableEq, Repr

/-- 0 for Ring A and HP0, 1 for Ring B and HP1. -/
def ringIx : RingId → Nat
  | .a => 0
  | .b => 1

def portIx : PortId → Nat
  | .hp0 => 0
  | .hp1 => 1

/-- The byte address of a register (R92 and the map of its block). -/
def Reg.addrNat : Reg → Nat
  | .ident r => r.off
  | .port p r => 0x1000 + 0x100 * portIx p + r.off
  | .tktStat => 0x1200
  | .tktHeld => 0x1204
  | .img r => 0x2000 + r.off
  | .fab r => 0x4000 + r.off
  | .time r => 0x6000 + r.off
  | .ch n r => 0x10000 + 0x400 * n.1 + r.off
  | .ring x r => 0x18000 + 0x1000 * ringIx x + r.off
  | .adc x r => 0x20000 + 0x1000 * ringIx x + r.off
  | .adcEntry x i => 0x20100 + 0x1000 * ringIx x + 4 * i.1
  | .adcEntryOfs x i => 0x20200 + 0x1000 * ringIx x + 4 * i.1
  | .filt r => 0x24000 + r.off
  | .filtCh n r => 0x24100 + 0x40 * n.1 + r.off
  | .whl w r => 0x30000 + 0x40 * w.1 + r.off
  | .flt r => 0x40000 + r.off
  | .fltChsafe n => 0x400C0 + 4 * n.1
  | .fltSrc k => 0x40400 + 4 * k.1
  | .fltReact k => 0x40800 + 4 * k.1
  | .recd r => 0x50000 + r.off
  | .rpl r => 0x58000 + r.off
  | .chk u r => 0x60000 + 0x40 * u.1 + r.off
  | .pair r => 0x70000 + r.off
  | .bg r => 0x80000 + r.off
  | .energyLo n => 0x81100 + 8 * n.1
  | .energyHi n => 0x81104 + 8 * n.1
  | .svc r => 0xA0000 + r.off

/-- The address of a register on a host port. -/
def Reg.addr (r : Reg) : Addr := BitVec.ofNat 24 r.addrNat

/-- 0 is Ring A, 1 is Ring B. -/
def ringAt (v : Nat) : RingId := if v = 0 then .a else .b

def portAt (v : Nat) : PortId := if v = 0 then .hp0 else .hp1

/-- Addresses below 0x01_0000. -/
def decodeLow (a : Nat) : Option Reg :=
  if a < 0x1000 then (IdentReg.ofOff a).map .ident
  else if a < 0x1200 then (PortReg.ofOff (a % 0x100)).map (.port (portAt ((a - 0x1000) / 0x100)))
  else if a = 0x1200 then some .tktStat
  else if a = 0x1204 then some .tktHeld
  else if a < 0x2000 then none
  else if a < 0x4000 then (ImgReg.ofOff (a - 0x2000)).map .img
  else if a < 0x6000 then (FabReg.ofOff (a - 0x4000)).map .fab
  else if a < 0x7000 then (TimeReg.ofOff (a - 0x6000)).map .time
  else none

/-- Addresses of an ADC block, by offset. -/
def decodeAdc (x : RingId) (o : Nat) : Option Reg :=
  if 0x100 ≤ o ∧ o < 0x200 then (if o % 4 = 0 then some (.adcEntry x (toIdx 64 ((o - 0x100) / 4))) else none)
  else if 0x200 ≤ o ∧ o < 0x300 then (if o % 4 = 0 then some (.adcEntryOfs x (toIdx 64 ((o - 0x200) / 4))) else none)
  else (AdcReg.ofOff o).map (.adc x)

/-- Addresses of the FILT block, by offset. -/
def decodeFilt (o : Nat) : Option Reg :=
  if o < 0x100 then (FiltReg.ofOff o).map .filt
  else if o < 0x500 then (FiltChReg.ofOff (o % 0x40)).map (.filtCh (toIdx 16 ((o - 0x100) / 0x40)))
  else none

/-- Addresses of the FLT block, by offset. -/
def decodeFlt (o : Nat) : Option Reg :=
  if 0x0C0 ≤ o ∧ o < 0x100 then (if o % 4 = 0 then some (.fltChsafe (toIdx 16 ((o - 0x0C0) / 4))) else none)
  else if 0x400 ≤ o ∧ o < 0x800 then (if o % 4 = 0 then some (.fltSrc (toIdx 256 ((o - 0x400) / 4))) else none)
  else if 0x800 ≤ o ∧ o < 0xC00 then (if o % 4 = 0 then some (.fltReact (toIdx 256 ((o - 0x800) / 4))) else none)
  else (FltReg.ofOff o).map .flt

/-- Addresses of the BG, TLM and PWR block, by offset. -/
def decodeBg (o : Nat) : Option Reg :=
  if 0x1100 ≤ o ∧ o < 0x1180 then
    (if o % 8 = 0 then some (.energyLo (toIdx 16 ((o - 0x1100) / 8)))
     else if o % 8 = 4 then some (.energyHi (toIdx 16 ((o - 0x1100) / 8))) else none)
  else (BgReg.ofOff o).map .bg

/-- Addresses from 0x01_0000 to 0x0F_FFFF. -/
def decodeHigh (a : Nat) : Option Reg :=
  if a < 0x14000 then (ChReg.ofOff (a % 0x400)).map (.ch (toIdx 16 ((a - 0x10000) / 0x400)))
  else if a < 0x18000 then none
  else if a < 0x1A000 then (RingReg.ofOff (a % 0x1000)).map (.ring (ringAt ((a - 0x18000) / 0x1000)))
  else if a < 0x20000 then none
  else if a < 0x22000 then decodeAdc (ringAt ((a - 0x20000) / 0x1000)) (a % 0x1000)
  else if a < 0x24000 then none
  else if a < 0x28000 then decodeFilt (a - 0x24000)
  else if a < 0x30000 then none
  else if a < 0x31000 then (WhlReg.ofOff (a % 0x40)).map (.whl (toIdx 64 ((a - 0x30000) / 0x40)))
  else if a < 0x40000 then none
  else if a < 0x50000 then decodeFlt (a - 0x40000)
  else if a < 0x58000 then (RecReg.ofOff (a - 0x50000)).map .recd
  else if a < 0x60000 then (RplReg.ofOff (a - 0x58000)).map .rpl
  else if a < 0x60100 then (ChkReg.ofOff (a % 0x40)).map (.chk (toIdx 4 ((a - 0x60000) / 0x40)))
  else if a < 0x70000 then none
  else if a < 0x71000 then (PairReg.ofOff (a - 0x70000)).map .pair
  else if a < 0x80000 then none
  else if a < 0x90000 then decodeBg (a - 0x80000)
  else if a < 0xA0000 then none
  else if a < 0xA1000 then (SvcReg.ofOff (a - 0xA0000)).map .svc
  else none

/-- The register at a byte address, if the maps name one. -/
def decodeReg (a : Nat) : Option Reg := if a < 0x10000 then decodeLow a else decodeHigh a

/-- What an address of the host ports names (R76, R92): a register, a word of the cellar-store read window by its byte
offset, a word of the wheel memory window by its byte offset, the first word of a pop window, or nothing. -/
inductive Target where
  | reg (r : Reg)
  | cellar (o : Nat)
  | wheelMem (o : Nat)
  | popWindow (w : Fin 64)
  | none
  deriving DecidableEq, Repr

/-- The decoder of R76: total on every address. -/
def decodeAddr (addr : Addr) : Target :=
  let a := addr.toNat
  if a % 4 ≠ 0 then .none
  else if 0x100000 ≤ a ∧ a < 0x200000 then .cellar (a - 0x100000)
  else if 0x200000 ≤ a ∧ a < 0x240000 then .wheelMem (a - 0x200000)
  else if 0x38000 ≤ a ∧ a < 0x38400 then
    (if a % 0x10 = 0 then .popWindow (toIdx 64 ((a - 0x38000) / 0x10)) else .none)
  else match decodeReg a with
    | some r => .reg r
    | none => .none

end Sys2Proof.Machine
end

