-- ==== Sys2Proof/Machine/Cells.lean ====
section
/-! DEFINITION. The bytes of the cellar store whose layout the spec gives: the two image slots and the replay store
(R94, R396, R457), as a list of cells in one canonical form. -/

namespace Sys2Proof.Machine

/-- The cellar store's listed bytes: addresses strictly rising, and no byte equal to what an erased byte reads as. -/
abbrev Memory := List Host.Cell

/-- What an unlisted byte reads as: an erased or never written byte (R112, R412; log entry 4). -/
def erasedByte : Byte := 0xFF#8

/-- The byte at an offset. -/
def Memory.read : Memory → Nat → Byte
  | [], _ => erasedByte
  | (b, v) :: r, a => if a = b then v else if a < b then erasedByte else Memory.read r a

/-- A byte other than the erased one takes its place. -/
def Memory.insert : Memory → Nat → Byte → Memory
  | [], a, v => [(a, v)]
  | (b, w) :: r, a, v => if a < b then (a, v) :: (b, w) :: r else if a = b then (a, v) :: r else (b, w) :: Memory.insert r a v

/-- The entry at an offset goes. -/
def Memory.remove : Memory → Nat → Memory
  | [], _ => []
  | (b, w) :: r, a => if a = b then r else if a < b then (b, w) :: r else (b, w) :: Memory.remove r a

/-- A byte is programmed. -/
def Memory.write (m : Memory) (a : Nat) (v : Byte) : Memory := if v = erasedByte then m.remove a else m.insert a v

/-- Consecutive bytes are programmed from an offset on. -/
def Memory.writeAll : Memory → Nat → List Byte → Memory
  | m, _, [] => m
  | m, a, v :: vs => Memory.writeAll (m.write a v) (a + 1) vs

/-- The bytes from `lo` up to, not including, `hi` are erased. -/
def Memory.erase (m : Memory) (lo hi : Nat) : Memory := m.filter (fun c => !(decide (lo ≤ c.1) && decide (c.1 < hi)))

/-- `n` bytes from an offset, over cells that all lie at or above it. -/
def Memory.walk : Nat → Nat → Memory → List Byte
  | 0, _, _ => []
  | n + 1, _, [] => List.replicate (n + 1) erasedByte
  | n + 1, a, (b, v) :: r => if a = b then v :: Memory.walk n (a + 1) r else erasedByte :: Memory.walk n (a + 1) ((b, v) :: r)

/-- `n` bytes from an offset. -/
def Memory.range (m : Memory) (lo n : Nat) : List Byte := Memory.walk n lo (m.dropWhile (fun c => decide (c.1 < lo)))

/-- Every listed address is above `lo`, the addresses rise strictly, and no byte is the erased one. -/
def Memory.wfFrom : Nat → Memory → Bool
  | _, [] => true
  | lo, (b, v) :: r => decide (lo ≤ b) && !decide (v = erasedByte) && Memory.wfFrom (b + 1) r

/-- The canonical form. -/
def Memory.wf (m : Memory) : Bool := Memory.wfFrom 0 m

/-- Offsets of the regions (R457). -/
def slotBase (n : Bool) : Nat := if n then 0x20000 else 0x00000
def recordBase : Nat := 0x40000
def replayBase : Nat := 0x80000
def calibBase : Nat := 0xC0000
def spareBase : Nat := 0xD8000

/-- The layout of the bytes at an offset is given: an image slot, the replay store or the wear spare (R457). -/
def shownByte (o : Nat) : Bool := o < recordBase || (replayBase ≤ o && o < calibBase) || spareBase ≤ o

/-- The changes that the region of an offset has seen: the record store, the calibration region with the mark of a dirty tail cache (R379),
and behind the cellar store the configuration SRAM. -/
def State.regionGen (s : State) (o : Nat) : Nat :=
  if o < replayBase then s.storeGen else if o < 0x100000 then 2 * s.bg.calibGen + b2n s.recd.dirtyMark else s.img.configGen

/-- A byte without a layout in the spec, by its place: a free value that stands until its region changes (log entry 6). -/
def State.hiddenAt (s : State) (o : Nat) : Byte := Config.hiddenByte (s.regionGen o * 0x400000 + o)

/-- The record store, the calibration region or configuration SRAM changes (log entry 6). -/
def State.storeChanged (s : State) : State := { s with storeGen := s.storeGen + 1 }
def State.calibChanged (s : State) : State := { s with bg := { s.bg with calibGen := s.bg.calibGen + 1 } }
def State.configChanged (s : State) : State := { s with img := { s.img with configGen := s.img.configGen + 1 } }

/-! ## An erase that is cut off (R489) -/

/-- Cells are programmed one by one. -/
def Memory.restore (m old : Memory) : Memory := old.foldl (fun m c => m.write c.1 c.2) m

/-- The cells of a range. -/
def Memory.cellsOf (m : Memory) (lo hi : Nat) : Memory := m.filter (fun c => decide (lo ≤ c.1) && decide (c.1 < hi))

/-- A region whose erase stops in its sector `k`: the sectors before it are erased, those after it are as they were in `old`, and it is as it
was or unreadable, its bytes then `bad` (R489). -/
def Memory.cutErase (m old : Memory) (base k : Nat) (bad : Option (List Byte)) : Memory :=
  let at_ := base + 0x1000 * k
  match bad with
  | none => m.restore (old.filter (fun c => decide (at_ ≤ c.1)))
  | some bs => (m.restore (old.filter (fun c => decide (at_ + 0x1000 ≤ c.1)))).writeAll at_ bs

/-- A loss of power ends an erase of `n` sectors (R489): a free value says in which of them, and whether that one is unreadable; the
unreadable sector's bytes are free. -/
def State.cutErase (s : State) (base n : Nat) (old : Memory) : State :=
  let (w, t) := s.free
  let k := fld w 1 31 % (n + 1)
  let bad := (List.range 0x1000).map (fun i => Config.hiddenByte (s.freeCtr * 0x400000 + 0x380000 + i))
  { t with cells := if k = n then t.cells else Memory.cutErase t.cells old base k (if bit w 0 then some bad else none) }

/-- The byte that the cellar-store read window shows at an offset (R457). The record store and the calibration region
have no layout in the spec (R380, R458): their bytes are free values (log entry 6). -/
def State.cellarByte (s : State) (o : Nat) : Byte :=
  if spareBase ≤ o then erasedByte
  else if shownByte o then Memory.read s.cells o
  else s.hiddenAt o

end Sys2Proof.Machine
end

