-- ==== Sys2Proof/Machine/Tickets.lean ====
section
/-! DEFINITION. The 64 tickets and the masters that take them (R63, R80, R81). -/

namespace Sys2Proof.Machine

/-- The master that holds a ticket (R80). -/
def Ticket.holder (t : Ticket) : Option Master :=
  match t.st with
  | .free => none
  | .exec m _ => some m
  | .ready m _ _ => some m

/-- The ticket is ready for a master. -/
def Ticket.readyFor (t : Ticket) (m : Master) : Bool :=
  match t.st with
  | .ready n _ _ => n = m
  | _ => false

/-- Tickets that a master holds (R80, R81). -/
def State.held (s : State) (m : Master) : Nat := (s.tickets.toList.filter (fun t => t.holder = some m)).length

/-- Free tickets. -/
def State.freeTickets (s : State) : Nat := (s.tickets.toList.filter (fun t => t.holder = none)).length

/-- What is owed to the other masters: two minus their holding each, nothing where that is negative (R81). -/
def State.owed (s : State) (m : Master) : Nat :=
  ([Master.hp0, Master.hp1, Master.trapeze, Master.service].filter (· ≠ m)).foldl (fun n o => n + (2 - s.held o)) 0

/-- A master may take a free ticket (R81). -/
def State.mayTake (s : State) (m : Master) : Bool :=
  0 < s.freeTickets && (decide (s.held m < 2) || decide (s.owed m < s.freeTickets))

/-- The ticket taken where several are free: the one that the frame's environment names, else the next free one (log entry 14). -/
def State.pickTicket (s : State) (want : Fin 64) : Fin 64 :=
  ((List.range 64).map (fun i => want + toIdx 64 i)).find? (fun t => (s.tickets[t.1]).holder = none) |>.getD want

def State.modTicket (s : State) (t : Fin 64) (f : Ticket → Ticket) : State := { s with tickets := tmod s.tickets t f }

/-- A ticket enters EXEC (R80). -/
def State.takeTicket (s : State) (m : Master) (t : Fin 64) : State := s.modTicket t (fun _ => { st := .exec m false, resp := none })

/-- A ticket becomes free, and the window entry it served no longer holds it (R80, R84). -/
def State.freeTicket (s : State) (t : Fin 64) : State :=
  { s.modTicket t (fun _ => { st := .free, resp := none }) with
    ports := s.ports.map (fun p => { p with window := p.window.map (fun e => if e.ticket = t then { e with held := false } else e) }) }

/-- A response becomes ready on its ticket (R80). -/
def State.readyTicket (s : State) (m : Master) (t : Fin 64) (r : Response) : State :=
  { s.modTicket t (fun _ => { st := .ready m s.clock s.readyCount, resp := some r }) with readyCount := s.readyCount + 1 }

/-- A request of the service port or of Trapeze holds a ticket while it is performed, and frees it then (R63, R444). -/
def State.onTicket (s : State) (m : Master) (f : State → State) : State :=
  let t := s.pickTicket 0
  (f (s.takeTicket m t)).freeTicket t

end Sys2Proof.Machine
end

