-- ==== Sys2Proof/Machine/Operands.lean ====
section
/-! DEFINITION. The fields of the registers that hold configuration, by the names of the register maps (R185, R215,
R216, R246, R248, R268), and the function codes of R157. -/

namespace Sys2Proof.Machine

/-! ## CHn_MODE (R185) and the function codes (R157) -/

def ChanCfg.func (c : ChanCfg) : Nat := fld c.mode 0 4
def ChanCfg.partner (c : ChanCfg) : Nat := fld c.mode 8 5
def ChanCfg.pluggable (c : ChanCfg) : Bool := bit c.mode 16
def ChanCfg.ganged (c : ChanCfg) : Bool := bit c.mode 17
def ChanCfg.wetting (c : ChanCfg) : Bool := bit c.mode 18
def ChanCfg.couplingHold (c : ChanCfg) : Bool := bit c.mode 19
def ChanCfg.shedFlag (c : ChanCfg) : Bool := bit c.mode 20
def ChanCfg.shedPrio (c : ChanCfg) : Nat := fld c.mode 24 4

/-- DI_SINK, DI_TRAIN or DI_COUNT. -/
def isDi (f : Nat) : Bool := 1 ≤ f && f ≤ 3
/-- DO_HS, DO_PP or DO_PWM. -/
def isDo (f : Nat) : Bool := 4 ≤ f && f ≤ 6
/-- AO_I or AO_V. -/
def isAo (f : Nat) : Bool := f = 7 || f = 8
/-- AI_V, AI_I, AI_I_PWR or AI_RATIO. -/
def isAi (f : Nat) : Bool := 9 ≤ f && f ≤ 12
/-- An analog function. -/
def isAn (f : Nat) : Bool := 7 ≤ f && f ≤ 12
/-- An output function: one that takes commands (R14). -/
def isOut (f : Nat) : Bool := 4 ≤ f && f ≤ 8
/-- A function whose channel has an output stage with its own temperature sensor (R196). -/
def hasStage (f : Nat) : Bool := isOut f || f = 11

/-! ## Input fields -/

def ChanCfg.wetI (c : ChanCfg) : Nat := fld c.diCfg 24 6
def ChanCfg.wetRepeat (c : ChanCfg) : Bool := bit c.diCfg 18
def ChanCfg.diLineMon (c : ChanCfg) : Bool := bit c.diCfg 17
def ChanCfg.invert (c : ChanCfg) : Bool := bit c.diCfg 16
def ChanCfg.iSink (c : ChanCfg) : Nat := fld c.diCfg 8 5
def ChanCfg.diType (c : ChanCfg) : Nat := fld c.diCfg 0 2
def ChanCfg.hold (c : ChanCfg) : Nat := fld c.diTime 16 9
def ChanCfg.debounce (c : ChanCfg) : Nat := fld c.diTime 0 14
def ChanCfg.vOff (c : ChanCfg) : Nat := fld c.diVth 16 10
def ChanCfg.vOn (c : ChanCfg) : Nat := fld c.diVth 0 10
def ChanCfg.chatWin (c : ChanCfg) : Nat := fld c.diChat 8 8
def ChanCfg.chatLimit (c : ChanCfg) : Nat := fld c.diChat 0 8
def ChanCfg.minPulse (c : ChanCfg) : Nat := fld c.diCntcfg 8 8
def ChanCfg.edge (c : ChanCfg) : Nat := fld c.diCntcfg 4 2
def ChanCfg.cntMode (c : ChanCfg) : Nat := fld c.diCntcfg 0 3

/-! ## Output fields -/

def ChanCfg.doRetry (c : ChanCfg) : Bool := bit c.doCfg 31
def ChanCfg.offBlank (c : ChanCfg) : Nat := fld c.doCfg 24 7
def ChanCfg.iOl (c : ChanCfg) : Nat := fld c.doCfg 16 8
def ChanCfg.olOff (c : ChanCfg) : Bool := bit c.doCfg 15
def ChanCfg.olOn (c : ChanCfg) : Bool := bit c.doCfg 14
def ChanCfg.slew (c : ChanCfg) : Nat := fld c.doCfg 12 2
def ChanCfg.inrush (c : ChanCfg) : Nat := fld c.doCfg 8 4
def ChanCfg.iLim (c : ChanCfg) : Nat := fld c.doCfg 0 8
def ChanCfg.period (c : ChanCfg) : Nat := fld c.doPwm 0 17

/-! ## Analog fields -/

def ChanCfg.anRetry (c : ChanCfg) : Bool := bit c.anCfg 31
def ChanCfg.vLoop (c : ChanCfg) : Nat := fld c.anCfg 20 9
def ChanCfg.exc (c : ChanCfg) : Nat := fld c.anCfg 16 4
def ChanCfg.ne43Time (c : ChanCfg) : Nat := fld c.anCfg 8 8
def ChanCfg.fsk (c : ChanCfg) : Bool := bit c.anCfg 5
def ChanCfg.multidrop (c : ChanCfg) : Bool := bit c.anCfg 4
def ChanCfg.anLineMon (c : ChanCfg) : Bool := bit c.anCfg 3
def ChanCfg.ne43 (c : ChanCfg) : Bool := bit c.anCfg 2
def ChanCfg.range (c : ChanCfg) : Nat := fld c.anCfg 0 2

/-- TH_RETRY of the function in force (R196). -/
def ChanCfg.thRetry (c : ChanCfg) : Bool := if isDo c.func then c.doRetry else c.anRetry

/-! ## Touch and plug fields -/

def ChanCfg.maxHold (c : ChanCfg) : Nat := fld c.tchCfg 24 8
def ChanCfg.drift (c : ChanCfg) : Nat := fld c.tchCfg 20 4
def ChanCfg.touchN (c : ChanCfg) : Nat := fld c.tchCfg 16 4
def ChanCfg.releaseN (c : ChanCfg) : Nat := fld c.tchCfg 12 4
def ChanCfg.shield (c : ChanCfg) : Bool := bit c.tchCfg 0
def ChanCfg.thOff (c : ChanCfg) : Nat := fld c.tchTh 16 12
def ChanCfg.thOn (c : ChanCfg) : Nat := fld c.tchTh 0 12
def ChanCfg.replugStable (c : ChanCfg) : Nat := fld c.plgCfg 24 8
def ChanCfg.unplugN (c : ChanCfg) : Nat := fld c.plgCfg 20 4
def ChanCfg.plgRearm (c : ChanCfg) : Bool := bit c.plgCfg 19
def ChanCfg.guard (c : ChanCfg) : Nat := fld c.plgCfg 8 8
def ChanCfg.loopMax (c : ChanCfg) : Nat := fld c.plgWin 16 9
def ChanCfg.loopMin (c : ChanCfg) : Nat := fld c.plgWin 0 9

/-! ## Setpoints (R188, R219) -/

def ChanCmd.hostOn (c : ChanCmd) : Bool := bit c.doCmd 0
def ChanCmd.hostAlt (c : ChanCmd) : Bool := bit c.doCmd 1
def ChanCmd.anOn (c : ChanCmd) : Bool := bit c.anCmd 0

/-- The command in force on an output: the bound DRIVE, or the host's command while DRIVE is unbound (R188, R219). -/
def ChanCmd.commanded (c : ChanCmd) (func : Nat) : Bool :=
  match c.drive with
  | some b => b
  | none => if isAo func then c.anOn else c.hostOn

/-- ALT in force (R188). -/
def ChanCmd.altOn (c : ChanCmd) : Bool :=
  match c.alt with
  | some b => b
  | none => c.hostAlt

/-! ## Ring fields (R216) -/

def Ring.vfLowLevel (r : Ring) : Nat := fld r.rLoadcfg 0 9
def Ring.vfHyst (r : Ring) : Nat := fld r.rLoadcfg 9 6
def Ring.shedEn (r : Ring) : Bool := bit r.rLoadcfg 15
def Ring.restoreSteps (r : Ring) : Nat := fld r.rLoadcfg 16 8
def Ring.iMax (r : Ring) : Nat := fld r.rLoadcfg 24 8
def Ring.tapEn (r : Ring) : Nat := fld r.rPwrcfg 0 3
/-- The tap supply regulates: every enabled rail does (R58, R204). -/
def Ring.tapsOk (r : Ring) : Bool :=
  r.tapEn ≠ 0 && ([0, 1, 2].all (fun t => !r.tapEn.testBit t || r.rails.getLsbD t))

/-- The rails outside `keep` stop regulating: one that is held back must regulate for 100 ms anew (R207). -/
def Ring.keepRails (r : Ring) (keep : BitVec 3) : Ring :=
  { r with rails := r.rails &&& keep
           railHold := r.railHold.map (fun h => if keep.getLsbD h.1.1 then h else (h.1, none)) }

def Ring.tapHyst (r : Ring) : Nat := fld r.rPwrcfg 3 5
def Ring.downSteps (r : Ring) : Nat := fld r.rPwrcfg 8 8
def Ring.tempWarnAt (r : Ring) : Nat := fld r.rPwrcfg 16 8

/-- The other channel of a counting or ganged pair that the record of channel `n` takes (R173, R198). -/
def pairMate (n : Fin 16) (c : ChanCfg) : Option (Fin 16) := if c.partner = (mate n).1 then some (mate n) else none

/-- The partner that channel `n` gangs with (R198). -/
def gangMate (n : Fin 16) (c : ChanCfg) : Option (Fin 16) := if c.ganged && isDo c.func then pairMate n c else none

/-- The other channel of a ganged pair, from either side: the two latches are one (R198, R345). -/
def gangOther (cfg : Fin 16 → ChanCfg) (n : Fin 16) : Option (Fin 16) :=
  match gangMate n (cfg n) with
  | some m => some m
  | none => gangMate (mate n) (cfg (mate n)) |>.bind (fun k => if k = n then some (mate n) else none)

/-- The channel whose command, settings and safe state a stage takes: a gang partner has no function of its own, and takes those of the
channel that gangs with it (R198). -/
def State.lead (s : State) (n : Fin 16) : Fin 16 :=
  if (s.chan n).rng.func = 0 && gangMate (mate n) (s.chan (mate n)).rng = some n then mate n else n

/-- The other channel of a ganged pair on the Ring (R198). -/
def State.gangPair (s : State) (n : Fin 16) : Option (Fin 16) := gangOther (fun k => (s.chan k).rng) n

/-- The function in force on a channel, as the host die works by it (R183). -/
def Chan.func (c : Chan) : Nat := c.hostFunc.toNat

end Sys2Proof.Machine
end

