-- ==== Sys2Proof/Machine/Records.lean ====
section
/-! DEFINITION. The event recorder and the change journal as operations (14_recorder_journal.md). -/

namespace Sys2Proof.Machine

/-- The bytes 0 to 29 of a record (R367). -/
def Record.body (r : Record) : List Byte :=
  leBytesN 2 r.code.toNat ++ [r.origin, r.flags] ++ leBytes r.seq ++ leBytesN 6 r.opt.toNat ++ leBytesN 3 r.pwrcyc.toNat
    ++ [1#8] ++ leBytesN 2 r.rep.toNat ++ leBytes r.p1 ++ leBytes r.p2 ++ leBytesN 2 r.span.toNat

/-- The 32 bytes of a record with its CRC (R367). -/
def Record.bytes (r : Record) : List Byte := r.body ++ leBytesN 2 (crc16 r.body).toNat

/-- The eight words in which a window shows 32 stored bytes (R380). -/
def windowWords (bs : List Byte) : List Word := (List.range 8).map (fun i => word (leNat ((bs.drop (4 * i)).take 4)))

/-- The code word of a record: class, group and code (R367, R369). -/
def recCode (cls group code : Nat) : BitVec 16 := BitVec.ofNat 16 (cls * 16384 + group * 256 + code)

/-- The PAIR_ID flag: set by PAIR_ID of the active image where PAIRED is 1 (R368). -/
def State.pairFlag (s : State) : Nat := if s.img.paired && s.img.pairId then 16 else 0

/-- SPAN: the operating time since the first occurrence, saturating (R376). -/
def spanOf (opt last : BitVec 48) : BitVec 16 := satTo 16 (last.toNat - opt.toNat)

/-- Two occurrences are equal (R376). -/
def Staged.same (a b : Staged) : Bool :=
  a.code = b.code && a.origin = b.origin && a.flags = b.flags && a.p1 = b.p1 && a.p2 = b.p2

/-- An occurrence equal to a stored record (R376). -/
def Record.same (r : Record) (e : Staged) : Bool :=
  r.code = e.code && r.origin = e.origin && r.flags = e.flags && r.p1 = e.p1 && r.p2 = e.p2

/-- A merge into the tail record: REPEAT, SPAN, the tail cache and its mark, TAILGEN (R376, R379, R380). -/
def mergeTail (e : Staged) (clock : Nat) (r : Recorder) : Recorder :=
  match r.events.getLast? with
  | none => r
  | some t =>
    { r with
      events := r.events.dropLast ++ [{ t with rep := satAdd t.rep (1 + e.rep.toNat), span := spanOf t.opt e.last }]
      tailDirty := true
      dirtyMark := true
      tailDue := if r.tailDirty then r.tailDue else clock + 1000000
      tailGen := r.tailGen + 1#16 }

/-- An arriving occurrence: it merges into the newest staged entry, else (nothing staged) into the tail, else it is
staged; with 16 staged it is lost, and with 6 144 records held it is dropped (R375 to R378). -/
def arriveEvent (e : Staged) (clock : Nat) (r : Recorder) : Recorder :=
  match r.staged.getLast? with
  | some n =>
    if n.same e && n.rep ≠ BitVec.allOnes 16 then
      { r with staged := r.staged.dropLast ++ [{ n with rep := satInc n.rep, last := e.last }] }
    else if r.staged.length < 16 then { r with staged := r.staged ++ [e] }
    else { r with lostStaging := satInc r.lostStaging, overflow := r.overflow + 1 }
  | none =>
    match r.events.getLast? with
    | some t =>
      if t.same e && t.rep ≠ BitVec.allOnes 16 then mergeTail e clock r
      else if 6144 ≤ r.events.length then { r with lostFull := satInc r.lostFull }
      else { r with staged := [e] }
    | none => { r with staged := [e] }

/-- An occurrence of an event, as the recorder sees it now. -/
def State.occurrence (s : State) (code : BitVec 16) (origin : Origin) (flags : Nat) (p1 p2 : Word) : Staged :=
  { code := code, origin := BitVec.ofNat 8 (originCode origin), flags := BitVec.ofNat 8 (flags + s.pairFlag)
    p1 := p1, p2 := p2, opt := s.opt, rep := 0#16, last := s.opt, mark := none }

/-- An event reaches the recorder (R375). -/
def State.report (s : State) (code : BitVec 16) (origin : Origin) (flags : Nat) (p1 p2 : Word) : State :=
  { s with recd := arriveEvent (s.occurrence code origin flags p1 p2) s.clock s.recd }

/-- An event of class 3, by group and code (R369). -/
def State.event (s : State) (group code : Nat) (origin : Origin) (p1 p2 : Word) : State :=
  s.report (recCode 3 group code) origin 0 p1 p2

/-- The record that a staged occurrence becomes when it is programmed (R365, R366). -/
def Staged.record (e : Staged) (seq : Word) (cyc : BitVec 24) : Record :=
  { code := e.code, origin := e.origin, flags := e.flags, seq := seq, opt := e.opt, pwrcyc := cyc, rep := e.rep
    p1 := e.p1, p2 := e.p2, span := if e.rep = 0#16 then 0#16 else spanOf e.opt e.last }

/-- The oldest staged event is programmed and becomes the tail; an old tail with uncommitted merges is committed with it, and the
operating-time base too (R365, R376, R379, R386). With 6 144 records held it is dropped instead (R378). -/
def programEvent (r : Recorder) (opt : BitVec 48) : Recorder :=
  match r.staged with
  | [] => r
  | e :: rest =>
    if 6144 ≤ r.events.length then
      { r with staged := rest, lostFull := satInc r.lostFull, pfCommit := r.pfCommit.map (· - 1) }
    else
      { r with
        staged := rest
        pfCommit := r.pfCommit.map (· - 1)
        events := r.events ++ [e.record r.seqNext r.pwrcyc]
        seqNext := r.seqNext + 1#32
        optCommitted := if r.tailDirty then opt else r.optCommitted
        seqCommitted := if r.tailDirty then r.seqNext + 1#32 else r.seqCommitted
        tailDirty := false
        dirtyMark := false
        tailRep := e.rep
        tailSpan := if e.rep = 0#16 then 0#16 else spanOf e.opt e.last
        tailGen := r.tailGen + 1#16 }

/-- The journal is full (R373). -/
def Recorder.jnlFull (r : Recorder) : Bool := 2048 ≤ r.journal.length

/-- A change's record, class 3 and group 0x20 (R370, R374). -/
def State.journalRecord (s : State) (code : Nat) (origin : Origin) (p1 p2 : Word) : Record :=
  { code := recCode 3 0x20 code, origin := BitVec.ofNat 8 (originCode origin), flags := BitVec.ofNat 8 s.pairFlag
    seq := s.recd.seqNext, opt := s.opt, pwrcyc := s.recd.pwrcyc, rep := 0#16, p1 := p1, p2 := p2, span := 0#16 }

/-- A change's record is written: it takes the next sequence number (R366, R374). -/
def State.appendJournal (s : State) (code : Nat) (origin : Origin) (p1 p2 : Word) : State :=
  { s with recd := { s.recd with journal := s.recd.journal ++ [s.journalRecord code origin p1 p2]
                                 seqNext := s.recd.seqNext + 1#32 }
           storeGen := s.storeGen + 1 }

/-- The tail cache is committed, and with it the operating-time base (R379, R386). -/
def State.commitTail (s : State) : State :=
  { s with
    recd :=
    { s.recd with
      tailDirty := false
      dirtyMark := false
      tailRep := (s.recd.events.getLast?.map (·.rep)).getD 0#16
      tailSpan := (s.recd.events.getLast?.map (·.span)).getD 0#16
      optCommitted := s.opt
      seqCommitted := s.recd.seqNext } }

end Sys2Proof.Machine
end

