-- ==== Sys2Proof/Machine/Wheels.lean ====
section
/-! DEFINITION. Wheels as operations: entries, MARKs, storing, losing and popping (12_wheels.md). -/

namespace Sys2Proof.Machine

/-- A wheel entry from its fields (R320); `stamp` is a tick count of which bits 19:0 are kept. -/
def mkEntry (source kind flags stamp : Nat) (value : Word) : Entry :=
  BitVec.ofNat 64 (source % 32 * 2 ^ 59 + kind % 8 * 2 ^ 56 + flags % 16 * 2 ^ 52 + stamp % 2 ^ 20 * 2 ^ 32
    + value.toNat)

/-- KIND of an entry (R320). -/
def entryKind (e : Entry) : Nat := e.toNat / 2 ^ 56 % 8

/-- The MARK that carries a context (R323). -/
def markEntry (c : MarkCtx) (gap : Bool) : Entry :=
  mkEntry 16 7 (b2n c.estA * 8 + b2n c.estB * 4 + b2n gap) 0 c.epoch

/-- The context that a MARK entry carries. -/
def markCtx (e : Entry) : MarkCtx :=
  { epoch := e.extractLsb' 0 32, estA := e.getLsbD 55, estB := e.getLsbD 54 }

/-- A Ring's time stamp of a tick is estimated (R25). -/
def Ring.estAt (r : Ring) (tick : Nat) : Bool := (r.estTurns.filter (fun t => decide (t ≤ tick))).length % 2 = 1

/-- The estimated state of a Ring beside an entry (R322, R323): that of the stamp where the entry is the Ring's, else the present one. -/
def State.estFor (s : State) (x : RingId) (own : Bool) (tick : Nat) : Bool := if own then (s.ring x).estAt tick else (s.ring x).holdover

/-- SOURCE of an entry (R320). -/
def entrySource (e : Entry) : Nat := e.toNat / 2 ^ 59

/-- The Ring by whose follower an entry is stamped: that of its channel, or of its Ring source (R24, R321). -/
def stampedBy (e : Entry) (x : RingId) : Bool :=
  match x with
  | .a => decide (entrySource e < 8) || entrySource e = 17
  | .b => (decide (8 ≤ entrySource e) && decide (entrySource e < 16)) || entrySource e = 18

/-- The epoch of an entry's instant with both Rings' estimated states (R322). -/
def State.markFor (s : State) (tick : Nat) (e : Entry) : MarkCtx :=
  { epoch := word (tick / 2 ^ 20), estA := s.estFor .a (stampedBy e .a) tick, estB := s.estFor .b (stampedBy e .b) tick }

/-- A wheel without a WHEEL record is unallocated (R315). -/
def Wheel.allocated (w : Wheel) : Bool := w.sizeLog2 ≠ 0

/-- The number of entries a wheel holds (R315). -/
def Wheel.size (w : Wheel) : Nat := 2 ^ w.sizeLog2

/-- The oldest entry leaves the queue: HEAD advances, and a MARK that leaves becomes the head context (R325, R327). -/
def Wheel.dropOldest (w : Wheel) : Wheel :=
  match w.q with
  | [] => w
  | (e, _) :: rest =>
    { w with q := rest, head := (w.head + 1) % w.size, headCtx := if entryKind e = 7 then markCtx e else w.headCtx }

/-- Under OVERWRITE the oldest entries are removed, one at a time, until `need` places are free (R325). -/
def Wheel.makeRoom (need : Nat) : Nat → Wheel → Wheel
  | 0, w => w
  | fuel + 1, w =>
    if w.q.length + need ≤ w.size then w
    else Wheel.makeRoom need fuel { w.dropOldest with lost := satInc w.lost, evtLoss := true, gapPending := true }

/-- The entry must be preceded by a MARK (R322, R324, R326). -/
def Wheel.needMark (w : Wheel) (c : MarkCtx) : Bool := w.gapNext || w.lastMark ≠ some c

/-- The entries that storing one entry puts into the queue (R322, R323). -/
def Wheel.incoming (w : Wheel) (c : MarkCtx) (e : Entry) : List Entry :=
  if w.needMark c then [markEntry c w.gapNext, e] else [e]

/-- An entry is stored, or lost by the wheel's policy (R322 to R325). -/
def Wheel.store (w : Wheel) (c : MarkCtx) (e : Entry) (clock : Nat) : Wheel :=
  let inc := w.incoming c e
  if w.q.length + inc.length ≤ w.size || w.overwrite then
    let w' := Wheel.makeRoom inc.length w.q.length w
    { w' with q := w'.q ++ inc.map (fun x => (x, clock)), lastMark := some c, gapNext := false }
  else { w with lost := satInc w.lost, evtLoss := true, lastMark := none, gapNext := true }

/-- A wheel of class CHANNEL names a kind of a channel (R318, R319). -/
def Wheel.names (w : Wheel) (kind : Nat) (n : Fin 16) : Bool :=
  w.allocated && fld w.prod 28 4 = 1 && bit w.prod (16 + kind) && bit w.prod n.1

/-- A wheel takes the FAULT entries of a source: of a channel, of a Ring, or of the host die (R318, R319). -/
def Wheel.namesFault (w : Wheel) (k : Fin 256) : Bool :=
  w.allocated && fld w.prod 28 4 = 1 && bit w.prod 22 &&
    (if k.1 < 128 then bit w.prod (k.1 / 8) else if k.1 < 148 then bit w.prod 25 else if k.1 < 168 then bit w.prod 26
     else bit w.prod 27)

/-- An entry is stored in every wheel that names it (R319); the loss of an entry is judged by the caller (R332). -/
def State.storeWhere (s : State) (sel : Wheel → Bool) (tick : Nat) (e : Entry) : State :=
  { s with wheels := s.wheels.map (fun w => if sel w then w.store (s.markFor tick e) e s.clock else w) }

/-- LOSS is set on some wheel (R332). -/
def State.anyLoss (s : State) : Bool := s.wheels.any (·.evtLoss)

/-- FLUSH and the emptying at an activation: nothing is counted lost, and the next entry follows a MARK with GAP
(R326). -/
def Wheel.flush (w : Wheel) : Wheel :=
  { w with q := [], head := (w.head + w.q.length) % w.size, lastMark := none, gapNext := true, gapPending := false }

/-- One pop (R325, R328): the oldest entry; with GAP_PENDING the oldest MARK with GAP, or a MARK of the head context
that occupies no place. -/
def Wheel.pop (w : Wheel) : Option (Entry × Wheel) :=
  match w.q with
  | [] => none
  | (e, _) :: _ =>
    if w.gapPending then
      if entryKind e = 7 then some (e ||| (1#64 <<< 52), { w.dropOldest with gapPending := false })
      else some (markEntry w.headCtx true, { w with gapPending := false })
    else some (e, w.dropOldest)

/-- The next pop removes an entry: not where GAP_PENDING answers with a MARK that occupies no place (R325). -/
def Wheel.popsEntry (w : Wheel) : Bool := w.q.head?.any (fun e => !w.gapPending || entryKind e.1 = 7)

/-- A pop whose entry has an uncorrectable error: the entry is discarded, and a MARK with GAP dates what follows
(R327). A pop that removes no entry meets none (R325). -/
def Wheel.popEcc (w : Wheel) : Option (Entry × Wheel) :=
  if !w.popsEntry then w.pop
  else
    some (markEntry w.headCtx true, { w.dropOldest with headCtx := w.headCtx, lost := satInc w.lost, evtEcc := true, gapPending := false })

/-- LEVEL is live (R330). -/
def Wheel.levelLive (w : Wheel) : Bool := w.level ≠ 0#16 && decide (w.level.toNat ≤ w.q.length)

/-- AGE is live: the oldest entry has been stored for AGE ms (R330). -/
def Wheel.ageLive (w : Wheel) (clock : Nat) : Bool :=
  w.age ≠ 0#8 && (match w.q with
    | [] => false
    | (_, at_) :: _ => decide (at_ + w.age.toNat * 1000 ≤ clock))

/-- The wheel is pending (R330). -/
def Wheel.pendingIrq (w : Wheel) (clock : Nat) : Bool :=
  w.levelLive || w.ageLive clock || (w.lossEn && w.evtLoss)

end Sys2Proof.Machine
end

