-- ==== Sys2Proof/Machine/Hooks.lean ====
section
/-! DEFINITION. What a fault's reaction starts outside the collector: giving up the active role (R434, R438) and a
capture (R393 to R398, R403). -/

namespace Sys2Proof.Machine

/-! ## Roles (R433, R434, R452) -/

/-- Role codes (R433). -/
def roleCode : Role → Nat
  | .unpaired => 0
  | .starting => 1
  | .standby => 2
  | .unqualified => 3
  | .claiming => 4
  | .backoff => 5
  | .active => 6
  | .swapping => 7

def State.modPair (s : State) (f : Pair → Pair) : State := { s with pair := f s.pair }

/-- The unit drives: ACTIVE, or SWAPPING before GO (R428, R433). -/
def Pair.driving (p : Pair) : Bool :=
  p.role = .active || (p.role = .swapping && (match p.swap with
    | some w => !w.go
    | none => true))

/-- ACTIVE or SWAPPING. -/
def Pair.leads (p : Pair) : Bool := p.role = .active || p.role = .swapping

/-- MAY_DRIVE and the standby's behaviour follow the role (R428, R433). -/
def Pair.refresh (p : Pair) : Pair :=
  { p with
    mayDrive := p.role = .unpaired || (p.role = .active && p.tlQual)
    standby := !(p.role = .unpaired) && !p.driving }

/-- PAIR_IDLE counts: a paired unit is not ACTIVE (R449). -/
def Pair.idles (p : Pair) : Bool := !(p.role = .unpaired || p.role = .active)

/-- Minutes without the active role up to a clock (R449). -/
def Pair.idleMinutes (p : Pair) (clock : Nat) : Nat := p.minutes.toNat + (if p.idles then (clock - p.idleFrom) / 60000000 else 0)

/-- PAIR_IDLE is committed with the operating time (R449). -/
def State.keepIdle (s : State) : State := s.modPair (fun p => { p with minutesKept := satTo 32 (p.idleMinutes s.clock) })

/-- A role is taken (R432, R433, R439, R449): STALE is set on entering STARTING and on ceasing to lead, and no epoch is held from
then on; PAIR_IDLE returns to 0 and epoch numbers restart in ACTIVE, and a started minute goes on in any other role. -/
def Pair.takeRole (p : Pair) (role : Role) (clock : Nat) : Pair :=
  let leads : Bool := decide (role = Role.active) || decide (role = Role.swapping)
  let fresh : Bool := decide (role = Role.starting) || (p.leads && !leads && decide (role ≠ Role.unpaired))
  let stale : Bool := if leads || decide (role = Role.unpaired) then false else p.stale || fresh
  ({ p with
    role := role
    stale := stale
    held := if fresh then none else p.held
    minutes := if role = Role.active then 0#32 else satTo 32 (p.idleMinutes clock)
    idleFrom := if p.idles then clock - (clock - p.idleFrom) % 60000000 else clock
    epochNum := if role = Role.active then 0#32 else p.epochNum
    tlLostFrom := if role = Role.active ∨ role = Role.claiming ∨ role = Role.backoff then
        (if p.tlQual then none else some (p.tlLostFrom.getD clock)) else none
    evt := p.evt ||| (if p.role ≠ role then 1#6 else 0#6) ||| (if p.stale ≠ stale then 2#6 else 0#6) }).refresh

/-- A wetting pulse ends, and the hold in progress resumes where it stood (R172). -/
def InputPath.endPulse (i : InputPath) (clock : Nat) : InputPath :=
  match i.wetStart with
  | none => i
  | some t => { i with wetStart := none, wetEnd := clock, holdStart := i.holdStart.map (· + (clock - t)) }

/-- A presence loop starts from UNKNOWN (R258); one that was PRESENT is away from now on (R259). -/
def Plug.restart (p : Plug) (clock : Nat) : Plug :=
  { p with state := 0#3, runs := [], r := 0xFFFF#16, since := clock, sinkOff := false
           awayAt := if p.state = 1#3 then some clock else p.awayAt }

/-- A frame for a Ring joins its link's queue; while the link is down it is not sent, because the Ring takes its whole
configuration when the link comes up (R47, R55). -/
def State.sendRing (s : State) (x : RingId) (c : RingCmd) : State :=
  if (s.ring x).link then s.modRing x (fun r => { r with cmdq := r.cmdq ++ [(c, 0)] }) else s

/-- The input currents of DI_SINK and DI_COUNT are on: not on a standby, but for the overlap of a planned swap, in which both units sink:
the old one from GO to DONE, the new one from GO (R181, R446). -/
def Pair.sinks (p : Pair) : Bool :=
  !p.standby || p.swap.any (fun w => w.go) || (p.role = .claiming && p.claimReason = 2#4)

/-- The role that the Rings are to work by (R181, R182, R199, R433). -/
def Pair.work (p : Pair) : RoleWork := ⟨p.standby, p.mayDrive, p.sinks, p.standby && p.tzLostAt.isSome⟩

/-- The role goes to both Rings where it is not the one last sent (R13). -/
def State.tellRole (s : State) (swap : Bool := false) (present : BitVec 16 := 0#16) : State :=
  if s.pair.toldRole = s.pair.work then s
  else
    [RingId.a, RingId.b].foldl (fun t x => t.sendRing x (.role s.pair.work swap present))
      (s.modPair (fun p => { p with toldRole := p.work }))

/-- A change of role with its ROLE_CHANGE event (R434, R452). The Rings are told at once, but for the active role, whose commands go with
it (R437). -/
def State.setRole (s : State) (role : Role) (reason : Nat) (p2 : Word := 0#32) : State :=
  if s.pair.role = role then s
  else
    let s1 := s.modPair (fun p => p.takeRole role s.clock)
    (if role = .active then s1 else s1.tellRole).event 0x14 1 .internal
      (word (roleCode s.pair.role + roleCode role * 16 + reason * 256)) p2

/-! ## The Trapeze port (R423, R450) -/

/-- The unit is paired and runs its Ringmaster. -/
def State.pairOn (s : State) : Bool := s.img.paired && s.pair.role ≠ .unpaired

/-- The Ringmaster works: it stops with the host die at RESET_N, and the Tightrope source stays off from then on (R50, R57). -/
def State.roleOn (s : State) : Bool := s.pairOn && s.phase = .run

/-- Trapeze works: not in CELLAR mode (R450, R469), nor while the host die starts or resets (R50). -/
def State.tzOn (s : State) : Bool := s.roleOn && s.pwr.mode ≠ .cellar

/-- The precedence of a frame (R423). -/
def TzFrame.precedence : TzFrame → Nat
  | .swap _ => 1
  | .bytes t _ => if t = 1#8 then 2 else if t = 4#8 then 5 else 3
  | .ack _ _ => 4

/-- LEN of a frame (R423). -/
def TzFrame.len : TzFrame → Nat
  | .bytes _ b => b.length
  | _ => 8

/-- A frame after its comma, with FSEQ, LEN and CRC (R70, R423). -/
def tzBytes (type fseq : Byte) (payload : List Byte) : List Byte :=
  let body := [type, fseq] ++ leBytesN 2 payload.length ++ payload
  body ++ leBytesN 2 (crc16 body).toNat

/-- A frame waits behind those of its precedence and before those of a higher number (R423). -/
def Pair.enqueue (p : Pair) (f : TzFrame) : Pair :=
  { p with tx := p.tx.takeWhile (fun g => decide (g.precedence ≤ f.precedence)) ++ f :: p.tx.dropWhile (fun g => decide (g.precedence ≤ f.precedence)) }

/-- A frame is handed to the port, where Trapeze works. -/
def State.post (s : State) (f : TzFrame) : State := if s.tzOn then s.modPair (fun p => p.enqueue f) else s

/-- The port within one µs: once it is free, the first waiting frame begins, and takes 80 ns a byte with its comma, TYPE, FSEQ, LEN and
CRC (R423, R440). -/
def Pair.transmit (p : Pair) (clock : Nat) : Pair :=
  match p.tx with
  | [] => p
  | f :: rest =>
    if p.txAt < 25 * (clock + 1) then
      { p with tx := rest, line := some (p.fseq, f), fseq := p.fseq + 1#8, txAt := max p.txAt (25 * clock) + 2 * (f.len + 7) }
    else p

/-- A frame of an epoch. -/
def TzFrame.isEpoch : TzFrame → Bool
  | .bytes t _ => t = 4#8
  | _ => false

/-- No segment of an epoch waits, and the port has sent the last one. -/
def Pair.segmentsGone (p : Pair) (clock : Nat) : Bool :=
  !p.tx.any TzFrame.isEpoch && (!p.line.any (fun l => l.2.isEpoch) || decide (p.txAt ≤ 25 * clock))

/-- One device microsecond passes without a command (log entry 1). -/
def State.microsecond (s : State) : State :=
  let t : State := { s with clock := s.clock + 1 }
  if s.tzOn then t.modPair (fun p => p.transmit s.clock) else t

/-- The identity of the running image (R425): CRC, LENGTH and USER_VERSION; 0 without one. -/
def State.identity (s : State) : Word × Word × Word :=
  match s.img.running with
  | some i => (i.crc, i.length, i.version)
  | none => (0#32, 0#32, 0#32)

/-- The highest and lowest Trapeze revision of the part (IDENT_REVS, R92). -/
def tzMax : Nat := 2
def tzMin : Nat := 1

/-- The revision in use, 0 for none (R425). -/
def Pair.rev (p : Pair) : Nat :=
  let top := min tzMax p.peerMax.toNat
  if !p.peerSeen || decide (top < max tzMin p.peerMin.toNat) then 0 else top

/-- The unit that is not active has waited SWAP_AGE hours (R449). -/
def State.swapDueOwn (s : State) : Bool :=
  s.img.paired && s.pair.role ≠ .active && decide (fld s.pair.cfg 14 10 * 60 ≤ s.pair.idleMinutes s.clock)

/-- The payload of a HEARTBEAT (R424). -/
def State.heartbeatBytes (s : State) : List Byte :=
  let p := s.pair
  let epoch := if p.leads then (p.lastSent.map (·.number)).getD 0#32 else (p.held.map (·.number)).getD 0#32
  let flags := b2n (decide (p.uq = 0#10)) + 2 * b2n p.stale + 4 * b2n s.swapDueOwn + 8 * b2n p.mayDrive + 16 * b2n p.tlHb
  leBytesN 1 (roleCode p.role) ++ leBytesN 1 (b2n s.img.pairId) ++ leBytesN 1 flags ++ leBytesN 1 p.rev ++ leBytes epoch
    ++ leBytesN 2 p.mirOwn.toNat ++ leBytesN 2 p.uq.toNat ++ leBytesN 4 s.fab.stepNo

/-- The payload of a QUAL frame (R425). -/
def State.qualBytes (s : State) : List Byte :=
  let i := s.identity
  leBytes i.1 ++ leBytes i.2.1 ++ leBytes i.2.2 ++ leBytesN 1 tzMin ++ leBytesN 1 tzMax ++ leBytesN 1 (b2n s.img.pairId)
    ++ leBytesN 1 (b2n s.img.paired + 2 * b2n s.img.noImage) ++ leBytesN 8 Config.uid.toNat ++ leBytesN 8 0

/-- A HEARTBEAT goes to the port (R424). -/
def State.sendHeartbeat (s : State) : State :=
  (s.modPair (fun p => { p with sentHeartbeat := s.heartbeatBytes })).post (.bytes 1#8 s.heartbeatBytes)

/-- A QUAL frame goes to the port (R425). -/
def State.sendQual (s : State) : State := (s.modPair (fun p => { p with sentQual := s.qualBytes })).post (.bytes 2#8 s.qualBytes)

/-- HEARTBEAT and QUAL go out with the present values (R423, R431), where Trapeze works (R450). -/
def State.sendState (s : State) : State := if s.tzOn then s.sendHeartbeat.sendQual else s

/-- A SWAP frame goes to the port (R446). -/
def State.sendSwap (s : State) (m : SwapMsg) : State := (s.modPair (fun p => { p with sentSwap := some m })).post (.swap m)

/-- UQ_CAUSE takes new values, with QUAL_CHANGED and its QUAL_CHANGE event; STANDBY and UNQUALIFIED follow it (R431, R434,
R452, R454). A unit that is not paired records nothing (log entry 21). -/
def State.setUq (s : State) (uq : BitVec 10) (reason : Nat := 7) : State :=
  if s.pair.uq = uq then s
  else if s.pair.role = .unpaired then s.modPair (fun p => { p with uq := uq, evt := p.evt ||| 2#6 })
  else
    let s1 := (s.modPair (fun p => { p with uq := uq, evt := p.evt ||| 2#6 })).event 0x14 2 .internal (word uq.toNat) s.pair.peerCrc
    let s2 :=
      if s1.pair.role = .standby && uq ≠ 0#10 then s1.setRole .unqualified reason
      else if s1.pair.role = .unqualified && uq = 0#10 then s1.setRole .standby reason
      else s1
    s2.sendState

/-- A planned swap ends (R448, R452). -/
def State.endSwap (s : State) (done : Bool) (code : Nat) : State :=
  match s.pair.swap with
  | none => s
  | some w =>
    (s.modPair (fun p => { p with swap := none, evt := p.evt ||| (if done then 0x10#6 else 0x20#6) })).event 0x14 4 .internal
      (word (b2n done + code * 256)) w.epoch

/-- Ring A turns the Tightrope source on or off on command (R427, R435). -/
def State.sendSource (s : State) (on : Bool) : State := s.sendRing .a (.source on)

/-- The active role is given up (R434, R438): the source goes off, and a cause keeps the unit from taking over. A swap fails before GO; after
it, the swap still completes with DONE (R448, R453). -/
def State.giveUp (s : State) (reason cause : Nat) : State :=
  let s1 := if s.pair.role = .swapping && s.pair.driving then s.endSwap false 4 else s
  let s2 := s1.setUq (s1.pair.uq ||| (1#10 <<< cause))
  let s3 := (s2.modPair (fun p => { p with sending := none, togglePend := false, releases := satInc p.releases })).sendSource false
  (s3.setRole .unqualified reason).sendState

/-- The roles that a release ends (R434). -/
def Pair.holdsRole (p : Pair) : Bool := p.role = .claiming || p.role = .backoff || p.role = .active || p.role = .swapping

/-- ROLE_RELEASE (R337, R438). -/
def State.roleRelease (s : State) : State := if s.pair.holdsRole then s.giveUp 3 5 else s

/-- MIRROR frames may be sent (R425, R444): Trapeze is up, with no IMAGE and no TZ_REV cause. -/
def Pair.mirrorOpen (p : Pair) : Bool := p.tzUp && decide (p.uq &&& 3#10 = 0#10)

/-- The payload of a MIRROR frame (R444). -/
def State.mirrorBytes (s : State) (m : Mirror) : List Byte :=
  leBytesN 3 m.addr.toNat ++ leBytesN 1 (b2n m.capture + 2 * b2n m.apply.isSome) ++ leBytes m.word ++ leBytesN 2 m.seq.toNat
    ++ leBytes s.identity.1 ++ leBytesN 2 0 ++ (match m.apply with
      | some ws => ws.flatMap leBytes
      | none => [])

/-- The next mirrored change goes out where none is in flight (R423, R444). -/
def State.nextFlight (s : State) : State :=
  match s.pair.flight, s.pair.mirQueue with
  | none, m :: rest =>
    if s.tzOn && s.pair.mirrorOpen then
      (s.modPair (fun p => { p with flight := some ⟨m, 1, s.clock⟩, mirQueue := rest, sentMirror := s.mirrorBytes m })).post
        (.bytes 3#8 (s.mirrorBytes m))
    else s
  | _, _ => s

/-- A change of the mirrored set took effect (R444, R445): on the unit that drives it is counted and queued for the partner,
at most 32; on a unit that is not ACTIVE or SWAPPING a direct write sets DIRECT_WRITE. -/
def State.mirrorOut (s : State) (origin : Origin) (addr : Addr) (w : Word) (capture : Bool) (win : Option (List Word)) : State :=
  let p := s.pair
  if p.role = .unpaired then s
  else if p.driving then
    let seq := p.mirOwn + 1#16
    let send := p.mirrorOpen && decide (p.mirQueue.length < 32)
    (s.modPair (fun p =>
      { p with mirOwn := seq, mirQueue := if send then p.mirQueue ++ [⟨addr, w, capture, win, seq⟩] else p.mirQueue })).nextFlight
  else if p.role = .swapping || origin = .trapeze then s
  else s.setUq (p.uq ||| 8#10)

/-! ## The replay store (R396 to R398) -/

/-- Size of the replay store in bytes. -/
def storeSize : Nat := 262144

/-- The 64 bytes of a capture header (R396). -/
def Capture.header (c : Capture) (closed : Bool) : List Byte :=
  let body := leBytesN 2 c.capno ++ [BitVec.ofNat 8 (b2n closed), c.endFlags] ++ leBytes c.crc ++ leBytesN 8 c.firstTick
    ++ leBytesN 8 c.firstStep ++ leBytesN 4 c.trigStep ++ leBytesN 1 c.trigSrc ++ leBytesN 1 c.trigK ++ leBytesN 2 0
    ++ leBytesN 2 c.pre ++ leBytesN 2 c.post ++ leBytesN 2 c.extra.toNat ++ leBytesN 2 c.dropped.toNat
    ++ leBytesN 4 c.length ++ leBytes c.trigSeq ++ leBytesN 2 c.stepN ++ leBytesN 2 c.rawCh.toNat ++ leBytesN 10 0
  body ++ leBytesN 2 (crc16 body).toNat

def State.modRpl (s : State) (f : Replay → Replay) : State := { s with rpl := f s.rpl }

/-- The header of the capture in progress is written (R396, R398). -/
def State.writeHeader (s : State) (c : Capture) (closed : Bool) : State :=
  { s with cells := Memory.writeAll s.cells (replayBase + c.at_) (c.header closed) }

def Replay.armed (r : Replay) : Bool := bit r.cfg 0
def Replay.autoRearm (r : Replay) : Bool := bit r.cfg 1
def Replay.preSteps (r : Replay) : Nat := fld r.cfg 8 12
def Replay.postSteps (r : Replay) : Nat := fld r.capcfg 0 16

/-- The capture in progress ends (R395, R396): its header is rewritten as closed, and without AUTO_REARM capture is no
longer armed (R406). -/
def State.endCapture (s : State) (flags : Byte) : State :=
  match s.rpl.capture with
  | none => s
  | some c0 =>
    let c := { c0 with endFlags := c0.endFlags ||| flags }
    let s1 := (s.writeHeader c true).modRpl (fun r =>
      { r with capture := none, captures := r.captures + 1, ring := if r.autoRearm then r.ring else []
               cfg := if r.autoRearm then r.cfg else r.cfg &&& ~~~ 1#32 })
    s1.event 0x13 2 .internal (word (c.capno + c.endFlags.toNat * 65536)) (word c.frames)

/-- A frame of the capture is programmed into the store, or the store is out of room and the capture ends with TRUNCATED
(R396, R398). A capture begins with a KEY frame (R395). -/
def State.storeFrame (s : State) (f : Frame) : State :=
  match s.rpl.capture with
  | none => s
  | some c =>
    if c.frames = 0 && !f.key then s
    else if storeSize < s.rpl.used + f.bytes.length then (s.modRpl (fun r => { r with full := true })).endCapture 0x01#8
    else
      let c1 := { c with
        firstTick := if c.frames = 0 then f.start else c.firstTick
        firstStep := if c.frames = 0 then f.step else c.firstStep
        stepN := if c.frames = 0 then f.stepN else c.stepN
        frames := c.frames + 1
        length := c.length + f.bytes.length
        pre := c.trigStep - (if c.frames = 0 then f.step else c.firstStep)
        post := f.step - c.trigStep
        endFlags := c.endFlags ||| BitVec.ofNat 8 (16 * b2n s.img.diverged) }
      { s with cells := Memory.writeAll s.cells (replayBase + s.rpl.used) f.bytes
               rpl := { s.rpl with capture := some c1, used := s.rpl.used + f.bytes.length } }

/-- The frames of the ring that a capture takes: from the newest KEY frame at or before PRE steps before the trigger, else
from the oldest KEY frame (R395). -/
def captureFrames (ring : List Frame) (from_ : Nat) : List Frame :=
  match (ring.filter (fun f => f.key && decide (f.step ≤ from_))).getLast? with
  | some k => ring.dropWhile (fun f => decide (f.step < k.step))
  | none => ring.dropWhile (fun f => !f.key)

/-- A capture begins, or the trigger is missed for want of room (R395, R396). -/
def State.startCapture (s : State) (src k : Nat) (seq : Word) (origin : Origin) (step : Nat) : State :=
  let r := s.rpl
  let fs := captureFrames r.ring (step - r.preSteps)
  let p1 := word (r.nextNo % 65536 + src * 65536 + k % 256 * 16777216)
  if storeSize < r.used + 64 + (fs.map (·.bytes.length)).sum then
    (s.modRpl (fun r => { r with missed := satInc r.missed, full := true })).event 0x13 3 origin (word src) (word step)
  else
    let c0 : Capture :=
      { capno := r.nextNo, at_ := r.used, endFlags := BitVec.ofNat 8 (8 * b2n (decide (fld r.capcfg 16 5 < 16)) + 16 * b2n s.img.diverged)
        crc := (s.img.running.map (·.crc)).getD 0#32, firstTick := 0, firstStep := 0, trigStep := step, trigSrc := src
        trigK := k % 256, pre := 0, post := 0, extra := 0#16, dropped := 0#16, length := 64, trigSeq := seq
        stepN := s.fab.stepN
        rawCh := BitVec.ofNat 16 ((if fld r.capcfg 16 5 < 16 then fld r.capcfg 16 5 else 255)
          + 256 * (if fld r.capcfg 24 5 < 16 then fld r.capcfg 24 5 else 255))
        frames := 0 }
    let c := match fs with
      | [] => c0
      | f :: _ => { c0 with firstTick := f.start, firstStep := f.step, stepN := f.stepN, pre := step - f.step }
    let s1 := ((s.writeHeader c false).modRpl (fun r => { r with capture := some c, nextNo := r.nextNo + 1, used := r.used + 64 })).event
      0x13 1 origin p1 (word step)
    fs.foldl State.storeFrame s1

/-- A trigger (R394, R396, R405): it starts a capture on an armed device; during a capture it is an extra trigger; in
REPLAY mode, and once its entry has been accepted, it is missed. -/
def State.trigger (s : State) (src k : Nat) (seq : Word) (origin : Origin) (step : Nat) : State :=
  match s.rpl.capture with
  | some c => s.modRpl (fun r => { r with extra := satInc r.extra, capture := some { c with extra := satInc c.extra } })
  | none =>
    if s.rpl.on || s.rpl.want = some true then (s.modRpl (fun r => { r with missed := satInc r.missed })).event 0x13 3 origin (word src) (word step)
    else if s.rpl.armed then s.startCapture src k seq origin step
    else s

/-- The place in staging of a fault record that has just been filed (R375). -/
def Recorder.placeOf (r : Recorder) (e : Staged) : Option Nat :=
  ((r.staged.zipIdx.filter (fun p => p.1.same e)).getLast?).map (·.2)

/-- The sequence number of a fault record that merged into the tail; 0 for one that is staged, whose number comes with its programming,
and for one that was lost (R376, R396). -/
def Recorder.tailSeq (r : Recorder) (e : Staged) : Word :=
  match r.placeOf e, r.events.getLast? with
  | none, some t => if t.same e then t.seq else 0#32
  | _, _ => 0#32

/-- A capture that a fault triggered takes the sequence number of the record once that is programmed (R366, R396). -/
def State.markRecord (s : State) (e : Staged) (at_ : Nat) : State :=
  match s.recd.placeOf e with
  | some i => { s with recd := { s.recd with staged := s.recd.staged.modify i (fun x => { x with mark := some at_ }) } }
  | none => s

/-- A fault raising triggers a capture where its settled class is in CLASSES, an injected one where INJ is 1 (R394). `e` is its record. -/
def State.faultTrigger (s : State) (k cls : Nat) (inj : Bool) (e : Staged) : State :=
  if bit s.rpl.cfg (4 + cls) && (!inj || bit s.rpl.cfg 2) then
    let t := s.trigger 1 k (s.recd.tailSeq e) .internal s.fab.stepNo
    if t.rpl.nextNo = s.rpl.nextNo then t else t.markRecord e s.rpl.used
  else s

/-- A record's number reaches the header of its capture (R396). -/
def State.numberCapture (s : State) (at_ : Nat) (seq : Word) : State :=
  let old := fun (t : State) =>
    let h := Memory.range t.cells (replayBase + at_) 64
    let body := h.take 44 ++ leBytes seq ++ (h.drop 48).take 14
    ({ t with cells := Memory.writeAll t.cells (replayBase + at_) (body ++ leBytesN 2 (crc16 body).toNat) } : State)
  match s.rpl.capture with
  | some c =>
    if c.at_ = at_ then (s.writeHeader { c with trigSeq := seq } false).modRpl (fun r => { r with capture := some { c with trigSeq := seq } })
    else old s
  | none => old s

end Sys2Proof.Machine
end

