-- ==== Sys2Proof/Machine/Faults.lean ====
section
/-! DEFINITION. The fault collector as operations: the source catalogue, raising, clearing, reactions, AUTO release,
and the journal-or-refuse rule with its source JOURNAL_FULL (13_faults.md, R372 to R374). -/

namespace Sys2Proof.Machine

/-! ## The source catalogue (R338 to R342) -/

/-- Device minimum, default class and default reaction of a slot, and whether it is fixed fatal. -/
structure SlotRow where
  minCls : Nat
  cls : Nat
  react : Nat
  fixed : Bool
  deriving DecidableEq, Repr

/-- The channel slots (R339), s = 0 to 7; reaction 7 is MEMBER. -/
def channelRow (s : Nat) : SlotRow :=
  match s with
  | 0 | 1 | 2 | 3 => ⟨1, 1, 7, false⟩
  | 4 | 5 | 6 => ⟨0, 0, 7, false⟩
  | _ => ⟨0, 1, 1, false⟩

/-- The Ring slots (R341), r = 0 to 19. -/
def ringRow (r : Nat) : SlotRow :=
  match r with
  | 0 | 1 | 2 | 10 => ⟨1, 1, 2, false⟩
  | 3 | 6 | 9 | 11 | 17 => ⟨0, 0, 0, false⟩
  | 18 => ⟨0, 1, 2, false⟩
  | 19 => ⟨2, 2, 3, true⟩
  | _ => ⟨1, 1, 0, false⟩

/-- The host-die slots (R342), h = 0 to 30. -/
def hostRow (h : Nat) : SlotRow :=
  match h with
  | 0 => ⟨1, 2, 3, false⟩
  | 2 | 3 | 6 | 16 => ⟨2, 2, 3, true⟩
  | 4 => ⟨0, 1, 3, false⟩
  | 5 | 7 | 9 | 14 | 15 | 17 | 19 | 23 | 24 | 25 | 26 | 27 | 29 | 30 => ⟨0, 0, 0, false⟩
  | _ => ⟨1, 1, 0, false⟩

/-- Slots 0 to 198 are used (R338). -/
def slotUsed (k : Nat) : Bool := k < 199

/-- The catalogue row of a slot; an unused slot has none, and reads 0 (R364). -/
def slotRow (k : Nat) : SlotRow :=
  if k < 128 then channelRow (k % 8) else if k < 148 then ringRow (k - 128) else if k < 168 then ringRow (k - 148)
  else if k < 199 then hostRow (k - 168) else ⟨0, 0, 0, false⟩

/-- Slot s of channel n (R338). -/
def chSlot (n : Fin 16) (s : Fin 8) : Fin 256 := ⟨8 * n.1 + s.1, by omega⟩

/-- Source r of a Ring (R338). -/
def ringSlot (x : RingId) (r : Fin 20) : Fin 256 :=
  match x with
  | .a => ⟨128 + r.1, by omega⟩
  | .b => ⟨148 + r.1, by omega⟩

/-- Source h of the host die (R338). -/
def hostSlot (h : Fin 31) : Fin 256 := ⟨168 + h.1, by omega⟩

/-- The slot s of a channel that gathers a member (R339): member 2 lies in OVERLOAD on an output function and in
SIGNAL on AI_RATIO. -/
def memberSlot (func m : Nat) : Fin 8 :=
  if m = 2 ∧ func = 12 then 3
  else if m ≤ 3 then 0 else if m = 4 then 1 else if m ≤ 11 then 2 else if m ≤ 24 then 3 else if m ≤ 28 then 4
  else if m = 29 then 5 else if m = 30 then 6 else 7

/-- The members of a channel slot (R339): member 2 lies in OVERLOAD on an output function, and in SIGNAL on AI_RATIO. -/
def memberOf (func s m : Nat) : Bool :=
  match s with
  | 0 => m = 1 || m = 3 || (m = 2 && isOut func)
  | 1 => m = 4
  | 2 => 5 ≤ m && m ≤ 11
  | 3 => (m = 2 && func = 12) || (12 ≤ m && m ≤ 24)
  | 4 => 25 ≤ m && m ≤ 28
  | 5 => m = 29
  | 6 => m = 30
  | 7 => m = 31
  | _ => false

/-- A member that a slot may carry: one of a channel slot's under the channel's function, or 0 of a slot with one member (R340, R360). -/
def slotHasMember (func k m : Nat) : Bool := if k < 128 then memberOf func (k % 8) m else m = 0

/-- Instant sources: members 14, 26 and 28, and the slots marked instant (R337, R339, R341, R342). -/
def instantSource (k m : Nat) : Bool :=
  if k < 128 then m = 14 || m = 26 || m = 28
  else if k < 168 then (k - 128) % 20 = 2 || (k - 128) % 20 = 11 || (k - 128) % 20 = 16
  else k = 169 || k = 173 || k = 176 || k = 177 || k = 178 || k = 182 || k = 185 || k = 191 || k = 194

/-- The default reaction of a member by its chapter (R177, R211, R242, R263): CH_SAFE for the trips of an output
stage, otherwise NOTE. -/
def memberReaction (func m : Nat) : Nat :=
  if m = 1 ∨ m = 3 ∨ (m = 2 ∧ isOut func) ∨ (m = 4 ∧ hasStage func) then 1 else 0

/-- The channel of a channel slot. -/
def slotChannel (k : Fin 256) : Option (Fin 16) := if h : k.1 < 128 then some ⟨k.1 / 8, by omega⟩ else none

/-- The Ring of a Ring source. -/
def slotRing (k : Fin 256) : Option RingId :=
  if 128 ≤ k.1 ∧ k.1 < 148 then some .a else if 148 ≤ k.1 ∧ k.1 < 168 then some .b else none

/-- The channels on which a settled reaction sets REACTION (R337); a gang partner shares its channel's (R345). -/
def State.reactionMask (s : State) (k : Fin 256) (react : Nat) : BitVec 16 :=
  if react = 0 then 0#16
  else if react = 1 then
    match slotChannel k with
    | none => 0#16
    | some n =>
      (1#16 <<< n.1) ||| (match gangOther (fun k => (s.chan k).cfg) n with
        | some m => 1#16 <<< m.1
        | none => 0#16)
  else if react = 2 then
    match slotRing k with
    | some x => ringMask x
    | none => (match slotChannel k with
      | some n => ringMask (ringOf n)
      | none => 0xFFFF#16)
  else 0xFFFF#16

/-! ## Settling and reacting (R336, R337) -/

/-- The table in force. -/
def State.tableNow (s : State) : PastTable :=
  { before := 0, tbl := s.flt.tbl, explicit := s.flt.explicit, func := s.chans.toList.map (fun c => c.cfg.func), paired := s.img.paired }

/-- The table that settles a fault detected at a tick: that of the image before the first activation boundary after it, else the one in
force (R122). -/
def State.tableAt (s : State) (tick : Nat) : PastTable := (s.flt.past.find? (fun p => decide (tick < p.before))).getD s.tableNow

/-- Class and reaction of a raising by a table (R336). `tbl` has CLASS in [1:0], AUTO in [2] and REACTION in [6:4]. -/
def PastTable.settle (p : PastTable) (k : Fin 256) (m : Nat) : Nat × Nat :=
  let t := p.tbl[k.1]
  let row := slotRow k.1
  let cls := max (t.toNat % 4) row.minCls
  let func := match slotChannel k with
    | some n => p.func.getD n.1 0
    | none => 0
  let own := t.toNat / 16 % 8
  let r := if own = 7 then (if row.react = 7 then memberReaction func m else row.react) else own
  let forced := cls = 2 ∧ r < 3
  let r' := if forced then 3 else r
  let fromDefault := own = 7 ∨ ¬ p.explicit[k.1] ∨ forced
  (cls, if r' = 3 ∧ p.paired ∧ fromDefault then 4 else r')

/-- Class and reaction of a raising that was detected at a tick (R122, R336). -/
def State.settle (s : State) (k : Fin 256) (m : Nat) (tick : Nat) : Nat × Nat := (s.tableAt tick).settle k m

/-- Safe-path priority frames that set REACTION on the channels of a mask (R17, R337). Frames for a Ring whose link
is down wait and go first when it comes up. -/
def State.sendSafe (s : State) (mask : BitVec 16) : State :=
  forEach [RingId.a, RingId.b]
    (fun x t => if mask &&& ringMask x = 0#16 then t
      else t.modRing x (fun r => { r with safeq := r.safeq ++ [mask &&& ringMask x] })) s

/-- A settled reaction acts (R337): frames to the Rings, and the Ringmaster's release for ROLE_RELEASE. -/
def State.react (s : State) (k : Fin 256) (react : Nat) : State :=
  let t := s.sendSafe (s.reactionMask k react)
  if react = 4 then t.roleRelease else t

/-- Slot, member and injection of a live cause are set (R356, R360). -/
def FaultSlot.isLive (f : FaultSlot) : Bool := f.real ≠ 0#32 || f.inj ≠ 0#32

/-- Parameter 1 of a fault record (R358). -/
def faultP1 (m react : Nat) (raised late : Bool) : Word := word (m % 256 + react % 8 * 256 + b2n raised * 65536 + b2n late * 131072)

/-- Record group of a slot (R358). -/
def slotGroup (k : Nat) : Nat := if k < 128 then 1 else if k < 148 then 2 else if k < 168 then 3 else 4

/-- SOURCE of a slot's wheel entries (R321). -/
def slotSource (k : Nat) : Nat := if k < 128 then k / 8 else if k < 148 then 17 else if k < 168 then 18 else 19

/-- A FAULT wheel entry, with the tick of the detection or clearing (R319, R321). -/
def State.faultEntry (s : State) (k : Fin 256) (cls : Nat) (raised inj : Bool) (tick : Nat) : State :=
  s.storeWhere (fun w => w.namesFault k) tick
    (mkEntry (slotSource k.1) 6 0 tick (word (k.1 + cls * 256 + b2n raised * 1024 + b2n inj * 2048)))

/-- A fault record: its flags are TRANSIENT and INJECTED (R358, R368). -/
def State.faultRecord (s : State) (k : Fin 256) (cls : Nat) (transient inj : Bool) (p1 p2 : Word) : State :=
  s.report (recCode cls (slotGroup k.1) k.1) .internal (b2n transient + 2 * b2n inj) p1 p2

/-- What a raising is (R336 to R340): slot, member, injected or real, its second parameter and LATE. -/
structure Raising where
  k : Fin 256
  m : Nat
  inj : Bool
  p2 : Word
  late : Bool
  deriving DecidableEq, Repr

/-- The live cause of a member, real or injected. -/
def FaultSlot.cause (f : FaultSlot) (m : Nat) (inj : Bool) : Option LiveCause :=
  f.liveAt.find? (fun c => c.member = BitVec.ofNat 8 m && c.inj = inj)

/-- The reaction of a raising acts unless an injected cause is in dry run, or the other latch of the same member is
live and has reacted (R360 to R362). -/
def State.reacts (s : State) (r : Raising) : Bool :=
  !(r.inj && s.flt.dryrun) && !((s.slot r.k).cause r.m (!r.inj)).any (fun c => !c.dry)

/-- The status of a raising that was detected at a tick: live and sticky bits, settled class and reaction, SEEN cleared, RAISES counted (R356,
R357, R364). An instant source sets no live bit (R337). -/
def State.noteRaise (s : State) (r : Raising) (cls react tick : Nat) : State :=
  let instant := instantSource r.k.1 r.m
  let mask := if s.reacts r then s.reactionMask r.k react else 0#16
  let c : LiveCause :=
    { member := BitVec.ofNat 8 r.m, inj := r.inj, since := tick, cls := BitVec.ofNat 2 cls, react := BitVec.ofNat 3 react
      dry := r.inj && s.flt.dryrun }
  s.modSlot r.k (fun f =>
    { f with
      real := if r.inj || instant then f.real else f.real ||| (1#32 <<< (r.m % 32))
      inj := if !r.inj || instant then f.inj else f.inj ||| (1#32 <<< (r.m % 32))
      sticky := f.sticky || !r.inj
      injSticky := f.injSticky || r.inj
      seen := false
      raises := satInc f.raises
      cls := BitVec.ofNat 2 cls
      react := BitVec.ofNat 3 react
      member := BitVec.ofNat 8 r.m
      liveAt := if instant || (f.cause r.m r.inj).isSome then f.liveAt else f.liveAt ++ [c]
      setOn := f.setOn ||| mask })

/-- The record of a raising (R358). -/
def State.raisedRecord (s : State) (r : Raising) (cls react : Nat) : Staged :=
  s.occurrence (recCode cls (slotGroup r.k.1) r.k.1) .internal (2 * b2n r.inj) (faultP1 r.m react true r.late) r.p2

/-- One raising, detected at a tick, without its effect on WHEEL_LOSS: status, record, reaction, wheel entry, replay trigger. The record is
the first of what the raising files (R377, R378). -/
def State.raiseCore (s : State) (r : Raising) (tick : Nat) : State :=
  let (cls, react) := s.settle r.k r.m tick
  let s1 := s.noteRaise r cls react tick
  let s2 := s1.faultRecord r.k cls false r.inj (faultP1 r.m react true r.late) r.p2
  let s3 := if s.reacts r then s2.react r.k react else s2
  (s3.faultEntry r.k cls true r.inj tick).faultTrigger r.k.1 cls r.inj (s1.raisedRecord r cls react)

/-- WHEEL_LOSS (slot 175) is raised when LOSS becomes set while it was clear on every wheel (R332). -/
def State.checkLoss (before s : State) : State :=
  if !before.anyLoss && s.anyLoss then s.raiseCore ⟨hostSlot 7, 0, false, 0#32, false⟩ s.tick else s

/-- The source holds REACTION on a channel (R347, R350): its raisings set it there, and it is live outside dry run. -/
def FaultSlot.holds (f : FaultSlot) (n : Fin 16) : Bool := f.setOn.getLsbD n.1 && f.liveAt.any (fun c => !c.dry)

/-- Some source holds REACTION on a channel (R347). -/
def State.reactionHeld (s : State) (n : Fin 16) : Bool := s.flt.slots.any (fun f => f.holds n)

/-- REACTION of an AUTO source is released on a channel that no other source holds (R350): a frame to its Ring, as for a release by a
master, or once the mirror shows REACTION where the safe-path frame has yet to act. -/
def State.autoReleaseOn (s : State) (n : Fin 16) : State :=
  if s.reactionHeld n then s
  else if !(s.flt.mirror[n.1]).getLsbD 0 then { s with flt := { s.flt with autos := s.flt.autos ||| (1#16 <<< n.1) } }
  else s.sendRing (ringOf n) (.release [(n, 1#16)] none)

/-- AUTO release of a source whose last live cause has cleared (R350). -/
def State.autoRelease (s : State) (k : Fin 256) (mask : BitVec 16) : State :=
  if (s.flt.tbl[k.1]).getLsbD 2 then forEach (allCh.filter (fun n => mask.getLsbD n.1)) (fun n t => t.autoReleaseOn n) s
  else s

/-- A raising of a source that was detected at a tick (R336, R337), with an instant source's AUTO release at once (R350). -/
def State.raiseAt (s : State) (r : Raising) (tick : Nat) : State :=
  let s1 := State.checkLoss s (s.raiseCore r tick)
  if instantSource r.k.1 r.m && !(s1.slot r.k).isLive then
    let mask := (s1.slot r.k).setOn
    (s1.modSlot r.k (fun f => { f with setOn := 0#16 })).autoRelease r.k mask
  else s1

/-- A raising that is detected now. -/
def State.raise (s : State) (r : Raising) : State := s.raiseAt r s.tick

/-- A real raising of a source with one member and no detail. -/
def State.raiseHost (s : State) (h : Fin 31) : State := s.raise ⟨hostSlot h, 0, false, 0#32, false⟩

/-- A real raising of a live source that has one member: raised only where it is not live yet. -/
def State.raiseLive (s : State) (k : Fin 256) (p2 : Word := 0#32) : State :=
  if (s.slot k).real.getLsbD 0 then s else s.raise ⟨k, 0, false, p2, false⟩

/-- A live cause cleared at a tick (R357, R358), by a LATE report where `late` says so (R352): its latch, the cleared record where SEEN is 0 or the class
settled at its raising is contained or fatal, the wheel entry, and AUTO release when no cause is left. A cause that is not live is left as
it stands. -/
def State.clearCauseAt (s : State) (k : Fin 256) (m : Nat) (inj : Bool) (tick : Nat) (late : Bool := false) : State :=
  let f := s.slot k
  if !((if inj then f.inj else f.real).getLsbD (m % 32)) then s
  else
    let c : LiveCause := (f.cause m inj).getD ⟨BitVec.ofNat 8 m, inj, tick, f.cls, f.react, false⟩
    let keep : BitVec 32 := ~~~ (1#32 <<< (m % 32))
    let s1 := s.modSlot k (fun f =>
      { f with
        real := if inj then f.real else f.real &&& keep
        inj := if inj then f.inj &&& keep else f.inj
        liveAt := f.liveAt.filter (fun e => !(e.member = BitVec.ofNat 8 m && e.inj = inj)) })
    let s2 := s1.faultEntry k c.cls.toNat false inj tick
    let s3 :=
      if !f.seen || c.cls ≠ 0#2 then
        s2.faultRecord k c.cls.toNat (!f.seen) inj (faultP1 m c.react.toNat false late) (satTo 32 (tick - c.since))
      else s2
    let s4 := State.checkLoss s s3
    if (s4.slot k).isLive then s4
    else (s4.modSlot k (fun f => { f with setOn := 0#16 })).autoRelease k f.setOn

/-- A live cause clears now. -/
def State.clearCause (s : State) (k : Fin 256) (m : Nat) (inj : Bool) : State := s.clearCauseAt k m inj s.tick

/-- A single-member real source clears. -/
def State.clearLive (s : State) (k : Fin 256) : State := s.clearCause k 0 false

/-- A source follows a condition of one member: raised when it becomes live, cleared when it ends. -/
def State.follow (s : State) (k : Fin 256) (live : Bool) : State := if live then s.raiseLive k else s.clearLive k

/-- WHEEL_LOSS clears when LOSS is clear on every wheel (R332). -/
def State.settleLoss (s : State) : State := if s.anyLoss then s else s.clearLive (hostSlot 7)

/-! ## Tasks of the Carousel that fall behind (R455, R456) -/

/-- A task is behind: its live bit and sticky copy, and BG_BEHIND (R456). -/
def State.fallBehind (s : State) (t : Fin 8) : State :=
  ({ s with bg := { s.bg with behind := s.bg.behind ||| (1#8 <<< t.1), diag := s.bg.diag ||| (1#8 <<< t.1) } }).raiseLive (hostSlot 19)

/-- A task's work is done, and it is no longer behind (R455, R456). -/
def State.caughtUp (s : State) (t : Fin 8) : State :=
  let s1 : State := { s with bg := { s.bg with behind := s.bg.behind &&& ~~~ (1#8 <<< t.1) } }
  if s1.bg.behind = 0#8 then s1.clearLive (hostSlot 19) else s1

/-! ## Wear of the cellar store (R458, R459) -/

/-- A mapped sector is erased once more. Its 100 000th erase retires it, and a sector of the pool takes its place (R458). -/
def Wear.eraseAt (w : Wear) (l : Fin 216) : Wear :=
  let more := { w with mapped := w.mapped.set l.1 (w.mapped[l.1] + 1) }
  if w.mapped[l.1] + 1 < 100000 then more
  else match w.pool with
    | [] => more
    | p :: rest => { w with mapped := w.mapped.set l.1 p, pool := rest, retired := satInc w.retired }

/-- An erase or a program on a mapped sector fails: it is retired, and a sector of the pool takes its place (R458). -/
def Wear.failAt (w : Wear) (l : Fin 216) : Wear :=
  match w.pool with
  | [] => { w with retired := satInc w.retired }
  | p :: rest => { w with mapped := w.mapped.set l.1 p, pool := rest, retired := satInc w.retired }

/-- Consecutive logical sectors are erased once each. -/
def Wear.eraseFrom (w : Wear) (lo n : Nat) : Wear :=
  ((List.finRange 216).filter (fun l => decide (lo ≤ l.1) && decide (l.1 < lo + n))).foldl Wear.eraseAt w

/-- CELLAR_WEAR is live while fewer than 8 good sectors remain in the pool (R458). -/
def State.judgeWear (s : State) : State := s.follow (hostSlot 11) (decide (s.bg.wear.pool.length < 8))

/-- The map changes, and the pool is judged where it has. -/
def State.setWear (s : State) (w : Wear) : State :=
  let s1 : State := { s with bg := { s.bg with wear := w } }
  if w.pool.length = s.bg.wear.pool.length then s1 else s1.judgeWear

/-- Consecutive logical sectors are erased (R457, R458). -/
def State.eraseSectors (s : State) (lo n : Nat) : State := s.setWear (s.bg.wear.eraseFrom lo n)

/-- The sectors of the calibration region that hold the log of the counter commits (DESIGN CHOICE: the spec does not say which; log entry
23). -/
def logSector (at_ : Nat) : Nat := 200 + at_ / 4096 % 16

/-- A commit appends `n` bytes to the counter log, whose sectors are erased in rotation: the next one as the log reaches it (R459, R489). -/
def State.appendLog (s : State) (n : Nat) : State :=
  let a := s.bg.wear.logAt
  let s1 := (s.setWear { s.bg.wear with logAt := a + n }).calibChanged
  if a / 4096 = (a + n) / 4096 then s1 else s1.eraseSectors (logSector (a + n)) 1

/-- The sectors freed by a clear of a store from sector `lo` on, whose records of 32 bytes are `n`, are erased (R382, R459). -/
def State.eraseRecords (s : State) (lo n : Nat) : State := (s.eraseSectors lo ((n + 127) / 128)).storeChanged

/-! ## Results to the wheels (R319) -/

/-- A result of a kind from a channel reaches every wheel that names it (R319), with the loss of an entry judged. -/
def State.toWheels (s : State) (n : Fin 16) (kind flags tick : Nat) (value : Word) : State :=
  State.checkLoss s (s.storeWhere (fun w => w.names kind n) tick (mkEntry n.1 kind flags tick value))

/-! ## Changes (R372 to R374) -/

/-- A refusal for the full journal is counted (R373). -/
def State.refuseFull (s : State) : State := { s with recd := { s.recd with jnlRefused := satInc s.recd.jnlRefused } }

/-- The journal record of a change, and JOURNAL_FULL live once the journal is full (R373, R374). -/
def State.journal (s : State) (code : Nat) (origin : Origin) (p1 p2 : Word) : State :=
  let s1 := s.appendJournal code origin p1 p2
  if s1.recd.jnlFull then s1.raiseLive (hostSlot 12) else s1

/-! ## The recorder's own sources (R377, R378) -/

/-- The staged event at a place moves to the front: a record that takes the next place (R378). -/
def stageFirst (i : Nat) (r : Recorder) : Recorder :=
  match r.staged[i]? with
  | none => r
  | some e => { r with staged := e :: r.staged.eraseIdx i }

/-- The oldest staged event is programmed (R365): an old tail with uncommitted merges commits the operating-time base with it (R379, R386,
R449), and the capture that its fault triggered takes its number (R396). -/
def State.programOldest (s : State) : State :=
  let r := programEvent s.recd s.opt
  let written := decide (s.recd.events.length < r.events.length)
  let s1 : State := { s with recd := r, storeGen := s.storeGen + 1 }
  let s2 := if written && s.recd.tailDirty then s1.keepIdle.appendLog 64 else s1
  match written, s.recd.staged.head?.bind (·.mark) with
  | true, some at_ => s2.numberCapture at_ s.recd.seqNext
  | _, _ => s2

/-- A record finishes programming (R365). RECORDS_FULL is raised at 6 143 records and its record comes next (R378); a
pending RECORD_OVERFLOW is raised as soon as a place is free (R377). -/
def State.recordWritten (s : State) : State :=
  let s1 := s.programOldest
  let s2 : State :=
    if s1.recd.events.length = 6143 ∧ s.recd.events.length = 6142 then
      let t := s1.raiseLive (hostSlot 13)
      { t with recd := stageFirst s1.recd.staged.length t.recd }
    else s1
  if s2.recd.overflow ≠ 0 ∧ s2.recd.staged.length < 16 then
    let lost := word s2.recd.overflow
    ({ s2 with recd := { s2.recd with overflow := 0 } }).raise ⟨hostSlot 14, 0, false, lost, false⟩
  else s2

/-! ## Reports from a Ring (R352) -/

/-- A frame of a Ring fails its CRC at the host die, which counts it (R18); more than 64 in 1 s, counted over both ends, raise LINK_ERRS
(R341; log entry 107). -/
def State.linkDiscard (s : State) (x : RingId) : State :=
  let s1 := s.modRing x (fun r =>
    { r with hostRx := satInc r.hostRx, discards := (r.discards.filter (fun t => decide (s.clock < t + 1000000))) ++ [s.clock] })
  if 64 < (s1.ring x).discards.length then s1.raiseLive (ringSlot x 3) else s1

/-- A frame to a Ring fails its CRC: the Ring counts it, and the frame is sent again (R18); more than 64 in 1 s raise LINK_ERRS
(R341). -/
def State.ringDiscard (s : State) (x : RingId) : State :=
  let s1 := s.modRing x (fun r =>
    { r with ringRx := satInc r.ringRx, discards := (r.discards.filter (fun t => decide (s.clock < t + 1000000))) ++ [s.clock] })
  if 64 < (s1.ring x).discards.length then s1.raiseLive (ringSlot x 3) else s1

/-- LINK_ERRS by the reports that a Ring dropped, with their number (R352): raised for each such number, also while it is live. -/
def State.lostReports (s : State) (x : RingId) (n : Nat) : State :=
  (s.modRing x (fun r => { r with lostAt := some s.clock })).raise ⟨ringSlot x 3, 0, false, word n, false⟩

/-- A Ring files a report; it holds at most 32, and drops further ones (R352). -/
def State.ringReport (s : State) (x : RingId) (k : Fin 256) (m : Nat) (raise : Bool) (detail : Word) : State :=
  s.modRing x (fun r =>
    if r.reports.length < 32 then
      { r with reports := r.reports ++ [⟨k, BitVec.ofNat 8 m, raise, detail, s.tick, s.clock, !r.link || r.ringLost⟩] }
    else { r with dropped := r.dropped + 1 })

/-- A diagnostic of a channel becomes live on its Ring: the sticky bits of the function's registers and a raise report
(R179, R211, R242, R263). A diagnostic already live is not reported again; an instant one is never live. -/
def State.diagRaise (s : State) (n : Fin 16) (m : Nat) (detail : Word := 0#32) : State :=
  let func := (s.chan n).rng.func
  if (s.chan n).live.getLsbD (m % 32) then s
  else
    let b : BitVec 32 := 1#32 <<< (m % 32)
    let s1 := s.modChan n (fun c =>
      { c with
        live := if m = 14 ∨ m = 26 ∨ m = 28 then c.live else c.live ||| b
        diSticky := if isDi func then c.diSticky ||| b else c.diSticky
        doSticky := if isDo func then c.doSticky ||| b else c.doSticky
        anSticky := if isAn func then c.anSticky ||| b else c.anSticky
        tchSticky := if func = 13 then c.tchSticky ||| b else c.tchSticky
        plgSticky := if func = 14 || m = 29 then c.plgSticky ||| b else c.plgSticky })
    s1.ringReport (ringOf n) (chSlot n (memberSlot func m)) m true detail

/-- The slot that gathers a live member of a channel: a trip that an output left to AI_RATIO stays in OVERLOAD (R211, R339). -/
def Chan.liveSlot (c : Chan) (m : Nat) : Fin 8 := if m = 2 && c.tripKept then 0 else memberSlot c.rng.func m

/-- A live diagnostic of a channel ends on its Ring, with its clear report (R512, R511). -/
def State.diagClear (s : State) (n : Fin 16) (m : Nat) : State :=
  if (s.chan n).live.getLsbD (m % 32) then
    (s.modChan n (fun c => { c with live := c.live &&& ~~~ (1#32 <<< (m % 32)) })).ringReport (ringOf n)
      (chSlot n ((s.chan n).liveSlot m)) m false 0#32
  else s

/-- A diagnostic follows its condition. -/
def State.diagFollow (s : State) (n : Fin 16) (m : Nat) (live : Bool) : State :=
  if live then s.diagRaise n m else s.diagClear n m

/-- Every live diagnostic of a list ends (R509). -/
def State.diagClearAll (s : State) (n : Fin 16) (ms : List Nat) : State := forEach ms (fun m t => t.diagClear n m) s

end Sys2Proof.Machine
end

