-- ==== Sys2Proof/Machine/Latch.lean ====
section
/-! DEFINITION. What each field pad does (R14, R15, R503), the safe-state latches of the Rings (R345), and the output
stage that follows them (R188, R209, R210). -/

namespace Sys2Proof.Machine

/-! ## The pad (R503) -/

/-- What the output stage of a channel does: off, the high side on, the low side on (DO_PP), PWM, a loop current or a
voltage at the setpoint or at 0, a dedicated safe current by its SAFE code (R225), or 0 V. -/
inductive Pad where
  | off
  | high
  | low
  | pwm
  | analog (on : Bool)
  | safeLoop (code : Nat)
  | zeroV
  deriving DecidableEq, Repr

/-- SAFE codes that a function allows (R104): 0 for every function, 1 to 3 for AO_I, 4 for AO_V. -/
def safeAllowed (func code : Nat) : Bool := code = 0 || (func = 7 && 1 ≤ code && code ≤ 3) || (func = 8 && code = 4)

/-- What a safe code forces (R188, R225); a code that the function does not allow forces OFF (R503). -/
def safePad (func code : Nat) : Pad :=
  if !safeAllowed func code || code = 0 then .off else if func = 7 then .safeLoop code else .zeroV

/-- What a command makes the stage of an output function do (R188, R219). -/
def commandPad (func : Nat) (c : ChanCmd) : Pad :=
  let on := c.commanded func
  if func = 4 then (if on then .high else .off)
  else if func = 5 then (if on then .high else .low)
  else if func = 6 then (if on then .pwm else .off)
  else if isAo func then .analog on
  else .off

/-- A condition holds the channel's output OFF or its stage off: its Ring has no logic, is not configured or restarting
(R53, R55), VF is below VF_UVLO (R54), the drive gate is closed (R428), the channel is shed (R202), or CELLAR mode
(R469). -/
def State.offHeld (s : State) (n : Fin 16) : Bool :=
  let r := s.ring (ringOf n)
  !r.logic || !r.vfOk || !r.configured || !r.driveGate || (s.chan n).stage.shed || r.rmode = .cellar

/-- The pad takes the first that applies of R503: an OFF condition, a set latch, a held safe state, the command. A gang partner's pad
takes what its pair's channel has (R198). -/
def State.pad (s : State) (k : Fin 16) : Pad :=
  let n := s.lead k
  let c := s.chan n
  let func := c.rng.func
  if s.offHeld n then .off
  else if c.latch then safePad func c.rsafe.toNat
  else match c.holdPad with
    | some (f, code) => safePad f code.toNat
    | none => if (s.ring (ringOf n)).rhold then safePad func c.rsafe.toNat else commandPad func c.rcmd

/-- The stage is on: STATE of a digital output (R188) and of an analog output (R228). -/
def Pad.isOn : Pad → Bool
  | .high => true
  | .pwm => true
  | .analog on => on
  | _ => false

def Pad.drive : Pad → Drive
  | .high => .on
  | .pwm => .pwm
  | .low => .pulldown
  | .analog true => .on
  | _ => .off

/-! ## Messages to the host die -/

/-- A message starts across the link of a Ring (R16). -/
def State.sendUp (s : State) (x : RingId) (m : UpMsg) : State := s.modRing x (fun r => { r with upq := r.upq ++ [m] })

/-- An accepted change, or a change of STATE, starts across the link (R166, R210, R254). -/
def State.sendChange (s : State) (n : Fin 16) (state initial : Bool) (value : Word) : State :=
  s.sendUp (ringOf n) (.change n state initial s.tick value)

/-- The causes and latches of a Ring's channels, in the order of `ringChs`. -/
def State.latchesOf (s : State) (x : RingId) : List (BitVec 16) × List Bool :=
  ((ringChs x).map (fun n => (s.chan n).causes), (ringChs x).map (fun n => (s.chan n).latch))

/-- The mirror of one channel on the host die takes causes and a latch (R347, R364). -/
def Collector.mirrorAs (f : Collector) (n : Fin 16) (causes : BitVec 16) (set : Bool) : Collector :=
  { f with mirror := f.mirror.set n.1 causes
           mirrorSet := if set then f.mirrorSet ||| (1#16 <<< n.1) else f.mirrorSet &&& ~~~ (1#16 <<< n.1) }

/-- The mirrors of a Ring's channels on the host die take what a message tells (R29, R364). -/
def State.setMirror (s : State) (x : RingId) (causes : List (BitVec 16)) (set : List Bool) : State :=
  { s with flt := ((ringChs x).zip (causes.zip set)).foldl (fun f p => f.mirrorAs p.1 p.2.1 p.2.2) s.flt }

/-- The mirror of a channel follows its latch at once: both dies know the tick at which a release acts (R349). -/
def State.mirrorNow (s : State) (n : Fin 16) : State := { s with flt := s.flt.mirrorAs n (s.chan n).causes (s.chan n).latch }

/-- What the mirrors of a Ring's channels will show once the messages under way have arrived. -/
def State.toldLatches (s : State) (x : RingId) : List (BitVec 16) × List Bool :=
  ((s.ring x).upq.reverse.findSome? (fun m => match m with
    | .latches cs set _ => some (cs, set)
    | _ => none)).getD
    ((ringChs x).map (fun n => s.flt.mirror[n.1]), (ringChs x).map (fun n => s.flt.mirrorSet.getLsbD n.1))

/-- A Ring tells the host die its latches and their causes where they have changed, while the link is up (R347, R364). -/
def State.tellLatches (s : State) (x : RingId) : State :=
  if (s.ring x).link && s.latchesOf x ≠ s.toldLatches x then
    s.sendUp x (.latches (s.latchesOf x).1 (s.latchesOf x).2 s.tick)
  else s

/-! ## The output stage -/

/-- The stage turns on: inrush window and PWM run start, and a switching count under any output function (R190, R191,
R209). -/
def Stage.turnOn (g : Stage) (c : ChanCfg) (cmd : ChanCmd) (clock : Nat) : Stage :=
  { g with
    on := true
    inrushStart := if c.inrush = 0 then none else some clock
    blankStart := none
    duty := c.doDuty
    period := word c.period
    pwmAlt := cmd.altOn
    pwmStart := clock
    ran := true
    extDriven := false
    swcnt := if isOut c.func then g.swcnt + 1#32 else g.swcnt }

/-- The stage turns off: OFF_BLANK starts (R194). -/
def Stage.turnOff (g : Stage) (clock : Nat) : Stage :=
  { g with on := false, inrushStart := none, blankStart := some clock }

/-- OFF_BLANK runs on an output that is off: its function began, or MAY_DRIVE became 1 (R194, R199). -/
def Chan.startBlank (c : Chan) (clock : Nat) : Chan :=
  if isDo c.rng.func && !c.stage.on then { c with stage := { c.stage with blankStart := some clock } } else c

/-! ## The loop target (R220, R229, R233) -/

/-- The calibration of a channel by its registers (R234). -/
def Analog.copy (a : Analog) : CalCopy := ⟨a.zcap, a.scap, a.zsFunc, a.trimOfs, a.trimGain, a.trimFunc⟩

/-- The zero-and-span map applies: ZS_FUNC equals the function (R229). -/
def CalCopy.zsActive (a : CalCopy) (func : Nat) : Bool := a.zsFunc.toNat = func && (func = 7 || func = 10)

/-- Channel value to loop value of an AO_I channel, rounded to the nearest nA (R229). -/
def mapOut (cfg : ChanCfg) (a : CalCopy) (c : Int) : Int :=
  if a.zsActive 7 then
    a.zcap.toInt + divNearest ((c - cfg.zref.toInt) * (a.scap.toInt - a.zcap.toInt)) (cfg.sref.toInt - cfg.zref.toInt)
  else c

/-- Loop value to channel value of an AI_I channel, rounded to the nearest nA (R229). -/
def mapIn (cfg : ChanCfg) (a : CalCopy) (l : Int) : Int :=
  if a.zsActive 10 then
    cfg.zref.toInt + divNearest ((l - a.zcap.toInt) * (cfg.sref.toInt - cfg.zref.toInt)) (a.scap.toInt - a.zcap.toInt)
  else l

/-- The NE 43 clamp of R220. -/
def clampNe43 (l : Int) : Int := max 3800000 (min 20500000 l)

/-- The loop or voltage target of an output after steps 1 and 2 of R220: 0 under command 0, the setpoint of AO_V, the
mapped and clamped setpoint of AO_I. -/
def Chan.loopTarget (c : Chan) : Int :=
  let cfg := c.rng
  if !c.rcmd.commanded cfg.func then 0
  else if cfg.func = 7 then
    (if cfg.ne43 then clampNe43 (mapOut cfg c.an.rcal c.rcmd.anSet.toInt) else mapOut cfg c.an.rcal c.rcmd.anSet.toInt)
  else c.rcmd.anSet.toInt

/-- CLAMPED: the clamp acts on a channel commanded 1 (R220). -/
def Chan.clamped (c : Chan) : Bool :=
  c.rng.func = 7 && c.rng.ne43 && c.rcmd.commanded 7
    && mapOut c.rng c.an.rcal c.rcmd.anSet.toInt ≠ clampNe43 (mapOut c.rng c.an.rcal c.rcmd.anSet.toInt)

/-- The value that goes to factory calibration: the target corrected by the two-point trim where TRIM_FUNC is the
function (R233). -/
def Chan.trimmed (c : Chan) : Int :=
  let m := c.loopTarget
  if c.an.rcal.trimFunc.toNat = c.rng.func then
    divNearest (m * (1000000 + c.an.rcal.trimGain.toInt)) 1000000 + c.an.rcal.trimOfs.toInt
  else m

/-- The target L of a channel is formed anew at every change of its setpoint, command, settings or calibration; the clock of its last
change is kept for R224. -/
def Chan.retarget (c : Chan) (clock : Nat) : Chan :=
  if isAo c.rng.func && BitVec.ofInt 32 c.loopTarget ≠ c.an.target then
    { c with an := { c.an with target := BitVec.ofInt 32 c.loopTarget, targetAt := clock } }
  else c

/-- The target of a channel is formed anew. -/
def State.refreshTarget (s : State) (n : Fin 16) : State := s.modChan n (fun c => c.retarget s.clock)

/-! ## The stage follows its pad -/

/-- The partner's stage takes what the pair's own stage does, in the same handshake; its switching count stands still, and it is shed with
its pair, never by itself (R198, R209). A
channel without a function that no pair takes any longer has its stage off. -/
def State.followGang (s : State) (n : Fin 16) : State :=
  let m := mate n
  if gangMate n (s.chan n).rng = some m && (s.chan m).rng.func = 0 then
    s.modChan m (fun c => { c with stage := { (s.chan n).stage with
      swcnt := c.stage.swcnt, shed := false, ran := c.stage.ran || (s.chan n).stage.on } })
  else if (s.chan m).rng.func = 0 && (s.chan m).stage.drive ≠ .off then
    s.modChan m (fun c => { c with stage := { c.stage with on := false, drive := .off } })
  else s

/-- The stage follows its pad (R503). A change of STATE under a digital output function makes an EDGE entry with its
cause (R210): 0 command, 1 shed, 2 restore, 3 latch set, 4 latch release, 5 thermal retry, 6 function change. The table gives no code for a
restart or configuration of the Ring, the recovery of VF, the drive gate and the hold of a power mode or of REPLAY: the model gives 0 (DESIGN
CHOICE, log entry 130). -/
def State.stageFollows (s : State) (n : Fin 16) (cause : Nat) : State :=
  let c := s.chan n
  let p := s.pad n
  let s1 := s.modChan n (fun c =>
    { c with stage := { (if p.isOn && !c.stage.on then c.stage.turnOn c.rng c.rcmd s.clock
                          else if !p.isOn && c.stage.on then c.stage.turnOff s.clock else c.stage) with drive := p.drive } })
  if p.isOn = c.stage.on || !isOut c.rng.func then s1
  else s1.sendChange n p.isOn false (word (cause * 16 + b2n p.isOn))

/-- A channel's target and stage follow its settings, its command and its pad, and its gang partner's stage follows with it (R198, R220,
R503); asked of the partner, the pair follows. -/
def State.refreshStage (s : State) (k : Fin 16) (cause : Nat) : State :=
  let n := s.lead k
  ((s.refreshTarget n).stageFollows n cause).followGang n

/-- Every stage of a Ring follows its pad. -/
def State.refreshRing (s : State) (x : RingId) (cause : Nat) : State :=
  forEach (ringChs x) (fun n t => t.refreshStage n cause) s

/-- Every stage follows its pad. -/
def State.refreshAll (s : State) (cause : Nat) : State := forEach allCh (fun n t => t.refreshStage n cause) s

/-! ## Restarts -/

/-- An input path with no accepted state (R167). The count is kept; the chatter blocks start anew at every restart (DESIGN CHOICE, log
entry 115). -/
def InputPath.restart (i : InputPath) (clock : Nat) : InputPath :=
  { i with pad := 0, runFrom := clock, deb := none, runFirst := 0, holdStart := none, state := false, valid := false
           bState := false, chatStart := clock, chatCount := 0, wetStart := none }

/-- The region of the loop current changes: the clocks of entering a region and of leaving FAIL_LOW and FAIL_HIGH are kept (R227). -/
def Analog.enter (a : Analog) (region : BitVec 3) (clock : Nat) : Analog :=
  { a with region := region, regionAt := clock
           lowOutAt := if a.region = 3#3 then clock else a.lowOutAt
           highOutAt := if a.region = 4#3 then clock else a.highOutAt }

/-- Processing restarts as after configuration (R54, R167): input path, touch and plug runs, and the NE 43 classification (R227). -/
def Chan.restartInput (c : Chan) (clock : Nat) : Chan :=
  { c with
    inp := c.inp.restart clock
    an := { c.an with reads := [] }.enter 0#3 clock
    guardWait := []
    tch := { c.tch with seeded := false, seedCount := 0, seedSum := 0, touched := false, onRun := 0, offRun := 0
                        negRun := 0, held := 0, openRun := 0, shortRun := 0 } }

/-- The state of a channel that the host die will hold once the messages under way have arrived. -/
def State.toldState (s : State) (n : Fin 16) : Bool :=
  ((s.ring (ringOf n)).upq.reverse.findSome? (fun m => match m with
    | .change k st _ _ _ => if k = n then some st else none
    | .restarted k _ => if k = n then some false else none
    | _ => none)).getD (s.chan n).hostState

/-- A Ring tells that a channel has no accepted state any longer (R29, R167, R180). -/
def State.tellRestart (s : State) (n : Fin 16) : State :=
  if s.toldState n && (isDi (s.chan n).rng.func || (s.chan n).rng.func = 13) then s.sendUp (ringOf n) (.restarted n s.tick) else s

/-- Processing of a channel restarts on its Ring, which tells the host die so (R29, R54, R167, R180). -/
def State.restartInput (s : State) (n : Fin 16) : State := (s.modChan n (fun c => c.restartInput s.clock)).tellRestart n

/-- Whether the tap supply regulates, as the host die will hold it once the messages under way have arrived. -/
def Ring.toldTaps (r : Ring) : Bool :=
  (r.upq.reverse.findSome? (fun m => match m with
    | .taps b _ => some b
    | _ => none)).getD r.hostTaps

/-- A Ring tells whether its tap supply regulates where that has changed, while the link is up (R58). -/
def State.tellTaps (s : State) (x : RingId) : State :=
  let r := s.ring x
  if r.link && r.tapsOk ≠ r.toldTaps then s.sendUp x (.taps r.tapsOk s.tick) else s

/-- The message of a modem is aborted by the latch of its channel (R240); one that was being sent ends there (R237). -/
def Fsk.abort (k : Fsk) (clock : Nat) : Fsk :=
  if k.state = .idle then { k with tx := [] }
  else { k with tx := [], state := .idle, evt := k.evt ||| 0x40#7, quietFrom := if k.state = .sending then clock else k.quietFrom }

/-- The modem of a Ring sends, or waits to send, a message on channel `n`, or may: EN does not end a message in progress (R240). -/
def Ring.fskHas (r : Ring) (n : Fin 16) : Bool := r.fsk.ch.toNat = n.1 && (r.fsk.en || r.fsk.state ≠ .idle)

/-- The modem of a Ring serves channel `n` (R236). -/
def Ring.fskOn (r : Ring) (n : Fin 16) : Bool := r.fsk.en && r.fsk.ch.toNat = n.1

/-- The latch of the channel that holds the modem is set (R240). -/
def State.fskLatched (s : State) (x : RingId) : Bool := allCh.any (fun n => (s.ring x).fskOn n && (s.chan n).latch)

/-- A message starts, and waits for the quiet time, where the modem is idle, the TX FIFO holds a character and the latch of its channel
is clear (R237, R239, R240). -/
def State.fskStart (s : State) (x : RingId) : State :=
  let k := (s.ring x).fsk
  if k.state = .idle && k.en && k.tx ≠ [] && !s.fskLatched x then s.modRing x (fun r => { r with fsk := { r.fsk with state := .waiting } })
  else s

/-! ## Latches (R345) -/

/-- The diagnostics of an input that need its sink, clamp or samples (R509). -/
def sampleDiags : List Nat := [5, 13, 25]

/-- The effects of a latch that sets on one channel: its input stops and its sample diagnostics end, a touch channel stops as an input
does (R180, R260, R509), its modem's message is aborted (R240), and its stage takes the safe state. -/
def State.latchSet (s : State) (n : Fin 16) (causes : BitVec 16) : State :=
  let was := (s.chan n).latch
  let s1 := s.modChan n (fun c => { c with causes := c.causes ||| causes, latch := true, releaseDue := none })
  let s2 :=
    if was then s1
    else
      let func := (s.chan n).rng.func
      let t := if isDi func then (s1.diagClearAll n sampleDiags).restartInput n else if func = 13 then s1.restartInput n else s1
      if (t.ring (ringOf n)).fskHas n then t.modRing (ringOf n) (fun r => { r with fsk := r.fsk.abort s.clock }) else t
  s2.refreshStage n 3

/-- Causes are set on a channel and on its gang partner, which always holds the same (R345). -/
def State.setCause (s : State) (n : Fin 16) (causes : BitVec 16) : State :=
  let s1 := s.latchSet n causes
  let s2 := match s.gangPair n with
    | some m => s1.latchSet m causes
    | none => s1
  s2.tellLatches (ringOf n)

/-- Causes are set on every channel of a Ring. -/
def State.setCauseRing (s : State) (x : RingId) (causes : BitVec 16) : State :=
  (forEach (ringChs x) (fun n t => t.latchSet n causes) s).tellLatches x

/-- A pair that begins to gang holds the causes of both channels (R198, R345). -/
def State.joinGang (s : State) (n : Fin 16) : State :=
  match s.gangPair n with
  | some m => if (s.chan n).causes = (s.chan m).causes then s else s.setCause n ((s.chan n).causes ||| (s.chan m).causes)
  | none => s

/-- Causes are cleared on the Ring; a latch left without causes releases later (R349). -/
def State.dropCauses (s : State) (n : Fin 16) (causes : BitVec 16) : State :=
  let f := fun (c : Chan) => { c with causes := c.causes &&& ~~~ causes }
  let s1 := s.modChan n f
  let s2 := match s.gangPair n with
    | some m => s1.modChan m f
    | none => s1
  s2.tellLatches (ringOf n)

/-! ## Guards (R258, R260, R262, R265) -/

/-- The PLUG channel that guards a channel (R260). -/
def State.guardOf (s : State) (n : Fin 16) : Option (Fin 16) :=
  (ringChs (ringOf n)).find? (fun g => (s.chan g).rng.func = 14 && (s.chan g).rng.guard.testBit (n.1 % 8))

/-- Channels that a PLUG channel guards (R260). -/
def State.guardees (s : State) (n : Fin 16) : List (Fin 16) :=
  (ringChs (ringOf n)).filter (fun m => (s.chan n).rng.guard.testBit (m.1 % 8))

/-- The cause GUARD holds on a guarded channel while its guard is not PRESENT (R260), but for a standby's guard, which is not measured
(R265), and on a PLUGGABLE channel that is no PLUG while no guard names it (R262). -/
def State.guardHolds (s : State) (n : Fin 16) : Bool :=
  match s.guardOf n with
  | some g => !(s.ring (ringOf n)).rrole.standby && (s.chan g).plg.state ≠ 1#3
  | none => (s.chan n).rng.pluggable && (s.chan n).rng.func ≠ 14

/-- GUARD is set where it must hold (R260). -/
def State.applyGuard (s : State) (n : Fin 16) : State :=
  if s.guardHolds n && !(s.chan n).causes.getLsbD 8 then s.setCause n 0x100#16 else s

/-- GUARD on every channel of a Ring. -/
def State.applyGuards (s : State) (x : RingId) : State := forEach (ringChs x) (fun n t => t.applyGuard n) s

/-- What the host die will hold of a presence loop once the messages under way have arrived. -/
def State.toldPlug (s : State) (n : Fin 16) : BitVec 3 :=
  ((s.ring (ringOf n)).upq.reverse.findSome? (fun m => match m with
    | .plug k st _ => if k = n then some st else none
    | _ => none)).getD (s.chan n).hostPlug

/-- A Ring tells the host die the state of a presence loop where it has changed, while the link is up (R29, R258). -/
def State.tellPlug (s : State) (n : Fin 16) : State :=
  if (s.ring (ringOf n)).link && (s.chan n).rng.func = 14 && (s.chan n).plg.state ≠ s.toldPlug n then
    s.sendUp (ringOf n) (.plug n (s.chan n).plg.state s.tick)
  else s

/-- Every presence loop of a Ring tells its state. -/
def State.tellPlugs (s : State) (x : RingId) : State := forEach (ringChs x) (fun n t => t.tellPlug n) s

/-- Detections that wait for a guard's tests are discarded as it leaves PRESENT (R261). -/
def State.dropWaits (s : State) (g : Fin 16) : State :=
  forEach (s.guardees g) (fun m t => t.modChan m (fun c => { c with guardWait := [] })) s

/-- A test found the guard PRESENT: each detection that waits on a channel counts it, and the last one makes it live (R261). -/
def State.countWaits (s : State) (n : Fin 16) : State :=
  let due := (s.chan n).guardWait.filter (fun w => w.2 ≤ 1)
  let s1 := s.modChan n (fun c =>
    { c with guardWait := (c.guardWait.filter (fun w => 1 < w.2)).map (fun w => (w.1, w.2 - 1)) })
  forEach due (fun w t => t.diagRaise n w.1) s1

/-- OPEN_WIRE, OPEN_LOAD_ON, OPEN_LOAD_OFF, GANG_IMBALANCE or ELECTRODE_OPEN has met its detection time: it becomes live, or on a
guarded channel waits for UNPLUG_N + 1 further tests of a guard that is PRESENT (R261). -/
def State.guardedDetect (s : State) (n : Fin 16) (m : Nat) : State :=
  match s.guardOf n with
  | none => s.diagRaise n m
  | some g =>
    if (s.chan g).plg.state ≠ 1#3 || (s.chan n).live.getLsbD (m % 32) || (s.chan n).guardWait.any (fun w => w.1 = m) then s
    else s.modChan n (fun c => { c with guardWait := c.guardWait ++ [(m, (s.chan g).rng.unplugN + 1)] })

/-- A guard starts from UNKNOWN (R258), what was live of its loop ends with the state (R263), and the channels that it guards are
held (R260). -/
def State.resetGuard (s : State) (n : Fin 16) : State :=
  let s1 := ((s.modChan n (fun c => { c with plg := c.plg.restart s.clock })).diagClearAll n [11, 21, 22, 23, 29]).dropWaits n
  (forEach (s1.guardees n) (fun m t => t.applyGuard m) s1).tellPlug n

/-- The guards of a Ring start from UNKNOWN (R258). -/
def State.resetGuards (s : State) (x : RingId) : State :=
  (forEach ((ringChs x).filter (fun n => (s.chan n).rng.func = 14)) (fun n t => t.resetGuard n) s).applyGuards x

/-- SHORT_GND and OVERCURRENT stay live from the trip until the latch is released (R211). -/
def tripDiags : List Nat := [2, 3]

/-- A latch with no cause left releases: the channel follows its command, an input restarts (R167, R180, R349), an analog
input's filter history is zero-filled (R242) and its loop current is classified afresh (R227), and a guard starts from UNKNOWN (R258). -/
def State.unlatch (s : State) (n : Fin 16) (cause : Nat) : State :=
  let c := s.chan n
  if !c.latch || c.causes ≠ 0#16 then s
  else
    let s1 := s.modChan n (fun c => { c with latch := false, releaseDue := none })
    let s2 := (s1.diagClearAll n (if c.rng.func = 12 && !c.tripKept then [3] else tripDiags)).modChan n (fun c => { c with tripKept := false })
    let s3 := if isDi c.rng.func || c.rng.func = 13 then s2.restartInput n else s2
    let s4 := if isAi c.rng.func then (s3.modChan n (fun c => { c with an := c.an.enter 0#3 s.clock })).restartChain n else if c.rng.func = 14 then s3.resetGuard n else s3
    ((s4.refreshStage n cause).fskStart (ringOf n)).tellLatches (ringOf n)

/-- A latch that a Ring clears by itself acts at once (R349): the causes go, and a latch left without any releases. -/
def State.clearAtOnce (s : State) (n : Fin 16) (causes : BitVec 16) (cause : Nat) : State :=
  let s1 := s.dropCauses n causes
  let s2 := s1.unlatch n cause
  match s.gangPair n with
  | some m => s2.unlatch m cause
  | none => s2

/-- The Ring clears GUARD by itself (R260, R349), recorded as an event. -/
def State.rearmGuard (s : State) (n : Fin 16) : State :=
  if (s.chan n).causes.getLsbD 8 then (s.clearAtOnce n 0x100#16 4).event 0x12 8 .internal (word n.1) 0x100#32 else s

/-- A guard that is PRESENT takes channels that its earlier GUARD did not name: the cause GUARD that held them for want of a guard
ends (R262). -/
def State.freeNamed (s : State) (g : Fin 16) (before : Nat) : State :=
  if (s.chan g).rng.func = 14 && (s.chan g).plg.state = 1#3 then
    forEach ((s.guardees g).filter (fun m => !before.testBit (m.1 % 8))) (fun m t => t.rearmGuard m) s
  else s

end Sys2Proof.Machine
end

