-- ==== Sys2Proof/Machine/Reply.lean ====
section
/-! DEFINITION. Outcomes of requests: status codes (R75), refusals, and the rule that a change takes effect only after
its journal record (R77, R373). -/

namespace Sys2Proof.Machine

/-- Status codes of a response (R75). BUSY is never one of them. -/
inductive Status where
  | ok | none | empty | dupConflict | badOp | badLen | badAddr | refused | held | journalFull | expired | notNow | badFrame
  deriving DecidableEq, Repr

/-- The code of each status (R75). -/
def Status.code : Status → Byte
  | .ok => 0x00
  | .none => 0x01
  | .empty => 0x02
  | .dupConflict => 0x03
  | .badOp => 0x04
  | .badLen => 0x05
  | .badAddr => 0x06
  | .refused => 0x07
  | .held => 0x08
  | .journalFull => 0x09
  | .expired => 0x0A
  | .notNow => 0x0B
  | .badFrame => 0x0C

/-- What performing a request answers: status, INFO and payload words (R72, R75). -/
structure Reply where
  status : Status
  info : Word
  data : List Word
  deriving DecidableEq, Repr

def Reply.done : Reply := ⟨.ok, 0#32, []⟩
def Reply.value (w : Word) : Reply := ⟨.ok, 0#32, [w]⟩
/-- REFUSED with the lowest bit number of the refused field (R75). -/
def Reply.refused (bit : Nat) : Reply := ⟨.refused, word bit, []⟩
def Reply.notNow (info : Word) : Reply := ⟨.notNow, info, []⟩
/-- HELD with the claim code of the holder (R75). -/
def Reply.held (code : Word) : Reply := ⟨.held, code, []⟩
def Reply.badAddr (a : Addr) : Reply := ⟨.badAddr, a.zeroExtend 32, []⟩

/-- A change that passed its checks (R77, R373): with the journal full it is refused and counted; otherwise its record
is written first, then it takes effect, and the reply carries the sequence number of the record. -/
def State.change (s : State) (origin : Origin) (code : Nat) (p1 p2 : Word) (eff : State → State) : State × Reply :=
  if s.recd.jnlFull then (s.refuseFull, ⟨.journalFull, 0#32, []⟩)
  else (eff (s.journal code origin p1 p2), ⟨.ok, s.recd.seqNext, []⟩)

/-- A change by a WRITE of a register (R370 code 0x01). -/
def State.changeWrite (s : State) (origin : Origin) (r : Reg) (w : Word) (eff : State → State) : State × Reply :=
  s.change origin 1 (word r.addrNat) w eff

/-- A refusal, if one of the checks fails: the first of them in the order given. -/
def firstRefusal : List (Option Reply) → Option Reply
  | [] => none
  | some r :: _ => some r
  | none :: rest => firstRefusal rest

/-- A check that refuses with `r` where `bad` holds. -/
def check (bad : Bool) (r : Reply) : Option Reply := if bad then some r else none

/-- A write whose refusals are checked first, and which then acts. -/
def guarded (s : State) (checks : List (Option Reply)) (act : State × Reply) : State × Reply :=
  match firstRefusal checks with
  | some r => (s, r)
  | none => act

/-- A status clear: bits cleared are recorded as a STATUS_CLEAR event with the address (R369); a W1C write that names
no set bit clears nothing and makes no event. -/
def State.statusClear (s : State) (origin : Origin) (r : Reg) (cleared : Word) (eff : State → State) : State × Reply :=
  if cleared = 0#32 then (s, .done) else ((eff s).event 0x11 1 origin (word r.addrNat) cleared, .done)

/-- A frame of the lowest precedence can reach the Ring: no safe-path frame and no heartbeat is on its way (R17), and neither end
has lost the link. -/
def Ring.downOpen (r : Ring) : Bool := r.logic && r.link && !r.ringLost && r.safeq = [] && r.beat.isNone

/-- A frame of the lowest precedence can reach the host die: neither end has lost the link, and no heartbeat is on
its way (R17). -/
def Ring.upOpen (r : Ring) : Bool := r.link && !r.ringLost && !r.ringBeat

/-- The count of a channel that waits to be delivered was stamped no later than a tick: an entry of that tick comes after the COUNT entry
(R319). -/
def Chan.countFirst (c : Chan) (tick : Nat) : Bool := c.inp.countDirty && decide (c.inp.countTick ≤ tick)

/-- No report and no message of a Ring that arose before a tick waits (R17). -/
def Ring.noneBefore (r : Ring) (tick : Nat) : Bool :=
  !r.reports.head?.any (fun e => decide (e.tick < tick)) && !r.upq.head?.any (fun m => decide (m.tick < tick))

/-- A message makes a wheel entry of a channel (R166, R210, R238, R254). -/
def UpMsg.entryOf (m : UpMsg) (modem : Nat) (n : Fin 16) : Bool :=
  match m with
  | .change k _ _ _ _ => k = n
  | .scan k _ _ => k = n
  | .fsk _ _ => modem = n.1
  | _ => false

/-- A report or message of a channel waits whose entry goes before that of a conversion made now (R319; log entry 129). -/
def State.entryWaits (s : State) (n : Fin 16) : Bool :=
  let r := s.ring (ringOf n)
  r.reports.any (fun e => slotChannel e.slot = some n) || r.upq.any (fun m => m.entryOf r.fskch.toNat n)

/-- A frame of the lowest precedence that arises now is the first to reach the host die: no report and no message waits (R17). -/
def Ring.upClear (r : Ring) : Bool := r.upOpen && r.reports = [] && r.upq = []

/-- QUIET or REPLAY mode, and the step that follows it, hold the safe states without a latch (R400, R468). -/
def State.safeHold (s : State) : Bool := s.pwr.mode = .quiet || s.pwr.leaving || s.rpl.on || s.rpl.leaving

/-- REPLAY mode, and the step that follows it, stop the inputs (R400). -/
def State.inputHold (s : State) : Bool := s.rpl.on || s.rpl.leaving

/-- The safe states of a Ring's channels are held. Ring B's are, at a wake, to the first step end tick after its CONFIGURED (R472; DESIGN
CHOICE: between CONFIGURED and that tick the spec gives no state; log entry 141). -/
def State.ringHold (s : State) (x : RingId) : Bool := s.safeHold || (decide (x = .b) && (s.pwr.wakeB || s.pwr.holdB))

/-- The power mode of a Ring: QUIET holds to B' + 1, from which the inputs return to their 10 µs sampling (R468). -/
def State.modeToRings (s : State) : PowerMode := if s.pwr.leaving then .quiet else s.pwr.mode

/-- The power mode and the holds of the safe states and of the inputs go to a Ring (R13, R400, R468, R469). -/
def State.sendPowerTo (s : State) (restart : Bool) (x : RingId) : State :=
  s.sendRing x (.power s.modeToRings (s.ringHold x) s.inputHold restart)

/-- The same to both Rings. -/
def State.sendPower (s : State) (restart : Bool) : State := (s.sendPowerTo restart .a).sendPowerTo restart .b

/-- A Ring has staged the configuration of an activation, and will apply it at A (R120, R124). -/
def Ring.stagedUp (r : Ring) : Bool := r.link && r.staged && r.configured

/-- The host die holds what the Ring sends as it stands: the link is up at both ends. -/
def Ring.fresh (r : Ring) : Bool := r.link && !r.ringLost

/-- While the link is lost, bits of a word that the host die holds go from it: a clearing read, or a write of 1s (R4, R5). -/
def State.dropShown (s : State) (x : RingId) (i : Nat) (bits : Word) : State :=
  if (s.ring x).fresh then s
  else s.modRing x (fun r => { r with shown := r.shown.set i (r.shown.getD i 0#32 &&& ~~~ bits) })

/-- A channel's configuration is sent to its Ring. -/
def State.sendCfg (s : State) (n : Fin 16) : State := s.sendRing (ringOf n) (.chanCfg n (s.chan n).cfg)

/-- A channel's setpoints are sent to its Ring (R188, R219). -/
def State.sendSetpoint (s : State) (n : Fin 16) : State := s.sendRing (ringOf n) (.setpoint n (s.chan n).cmd)

/-- The committed destinations of a channel go to its Ring (R13, R188). -/
def State.sendDrive (s : State) (n : Fin 16) : State :=
  s.sendRing (ringOf n) (.drive n (s.chan n).cmd.drive (s.chan n).cmd.alt)

/-- A status word of a Ring as the host die holds it: while the link is lost, what it last received; its Reset until the Ring has reported
since the host die started (R7, R47). -/
def State.heldWord (s : State) (x : RingId) (i : Nat) (reset live : Word) : Word :=
  let r := s.ring x
  if r.fresh then live else r.shown.getD i reset

end Sys2Proof.Machine
end

