-- ==== Sys2Proof/Machine/Inputs.lean ====
section
/-! DEFINITION. Digital inputs: debounce, coupling hold, chatter, wetting, counting and their diagnostics
(06_digital_inputs.md). -/

namespace Sys2Proof.Machine

/-- The Ring of a channel runs its field logic: logic up, VF above VF_UVLO, configuration confirmed (R53, R54). -/
def State.ringRuns (s : State) (n : Fin 16) : Bool :=
  let r := s.ring (ringOf n)
  r.logic && r.vfOk && r.configured

/-- A wake channel of CELLAR mode (R469, R471). -/
def State.wakeChan (s : State) (n : Fin 16) : Bool := decide (n.1 < 8) && bit s.pwr.wakecfg n.1

/-- CELLAR mode leaves a channel running: its Ring is not in that mode, or it is a wake channel (R469). -/
def State.awake (s : State) (n : Fin 16) : Bool := (s.ring (ringOf n)).rmode ≠ .cellar || s.wakeChan n

/-- The paths of an input channel run: its Ring runs, its latch is clear (R180), no function change holds it, and CELLAR mode
leaves it running (R469); REPLAY mode stops them (R400). -/
def State.pathRuns (s : State) (n : Fin 16) : Bool :=
  let c := s.chan n
  s.ringRuns n && isDi c.rng.func && !c.latch && c.holdPad = none && s.awake n && !(s.ring (ringOf n)).rstop

/-- The samples of an input channel count: its paths run, and it is no standby that discards them (R182, not DI_TRAIN). -/
def State.samples (s : State) (n : Fin 16) : Bool :=
  s.pathRuns n && !((s.ring (ringOf n)).rrole.discard && (s.chan n).rng.func ≠ 2)

/-- A wetting pulse runs: its samples are discarded (R172). -/
def InputPath.inPulse (i : InputPath) : Bool := i.wetStart.isSome

/-! ## Thresholds and samples (R159 to R163, R177) -/

/-- The rising threshold of a channel at its lowest and highest, in mV, or in µA for DI_TRAIN (R160, R161). -/
def ChanCfg.vOnRange (c : ChanCfg) : Int × Int :=
  if c.func = 2 then (1100, 1200)
  else match c.diType with
    | 0 => (12000, 14000)
    | 3 => (c.vOn * 95 - 200, c.vOn * 105 + 200)
    | _ => (8000, 10000)

/-- The falling threshold of a channel at its lowest, in mV, or in µA for DI_TRAIN (R160, R161). -/
def ChanCfg.vOffMin (c : ChanCfg) : Int :=
  if c.func = 2 then 660
  else match c.diType with
    | 0 => 9000
    | 3 => c.vOff * 95 - 200
    | _ => 6000

/-- The electrical level of a sample: 0 under a live REVERSED and 1 under a live OVERRANGE (R177), 1 at and above the highest rising
threshold, 0 at and below the lowest falling one, and between them what the comparator is seen to read (R160, R161; log entry 92). -/
def Chan.electrical (c : Chan) (pad : Int) (seen : Bool) : Bool :=
  if c.live.getLsbD 12 then false
  else if c.rng.func = 2 && c.live.getLsbD 13 then true
  else if c.rng.vOnRange.2 ≤ pad then true
  else if pad ≤ c.rng.vOffMin then false
  else seen

/-- The level that every later stage sees: inverted at the sample with INVERT (R163). -/
def ChanCfg.inverted (c : ChanCfg) (level : Bool) : Bool := level != c.invert

/-- A time rounded up to whole samples: in QUIET mode, and on a wake channel in CELLAR mode, the sample period is 10 ms (R466, R509). -/
def State.sampleSpan (s : State) (n : Fin 16) (us : Nat) : Nat :=
  if (s.ring (ringOf n)).rmode ≠ .run then (us + 9999) / 10000 * 10000 else us

/-- The part of the latest wetting pulse that lies after a clock: a run does not advance in it (R172). -/
def InputPath.pulsedSince (i : InputPath) (clock : Nat) : Nat :=
  match i.lastWet with
  | none => 0
  | some t => i.wetEnd - max t clock

/-- The sink, or the forward path of the clamp, is on (R158, R159, R177, R180, R181). -/
def State.sinkOn (s : State) (n : Fin 16) : Bool :=
  let c := s.chan n
  s.pathRuns n && !c.live.getLsbD 4 && !c.live.getLsbD 12 && (c.rng.func = 2 || (s.ring (ringOf n)).rrole.sink)

/-- SINKING: the sink or clamp draws current, as the latest sample found it or in a wetting pulse (R159, R506, R185). -/
def State.sinking (s : State) (n : Fin 16) : Bool :=
  s.sinkOn n && ((s.chan n).inp.inPulse || decide (0 < (s.chan n).inp.pad))

/-! ## Chatter (R165, R168) -/

/-- One chatter event: the error counter, the block's count, and CHATTER at the limit (R168). -/
def State.chatterEvent (s : State) (n : Fin 16) : State :=
  let count := (s.chan n).inp.chatCount + 1
  let s1 := s.modChan n (fun c => { c with errChatter := satInc c.errChatter, inp := { c.inp with chatCount := count } })
  if count = (s.chan n).rng.chatLimit then s1.diagRaise n 25 else s1

/-- A block of CHAT_WIN ends: CHATTER clears if it had fewer than CHAT_LIMIT events (R168). -/
def execChatterBlockEnd (n : Fin 16) (s : State) : Host.Outcome State Fault Refusal :=
  let i := (s.chan n).inp
  let len := (s.chan n).rng.chatWin * 100000
  ok <| whenDo (s.pathRuns n && decide (i.chatStart + len ≤ s.clock))
    (fun s =>
      let s1 := if i.chatCount < (s.chan n).rng.chatLimit then s.diagClear n 25 else s
      s1.modChan n (fun c => { c with inp := { c.inp with chatStart := i.chatStart + len, chatCount := 0 } })) s

/-! ## Acceptance (R164 to R167) -/

/-- The value word of an EDGE entry of an input (R166): LEAD, HELD, INITIAL and STATE. -/
def edgeValue (lead : Nat) (held initial state : Bool) : Word :=
  word (min lead 0xFFFFF * 256 + b2n held * 4 + b2n initial * 2 + b2n state)

/-- A change is accepted: STATE, VALID and LASTACC, the message to the host die, and a chatter event for a change
without coupling hold that is not the first acceptance (R165 to R167). -/
def State.acceptInput (s : State) (n : Fin 16) (level held : Bool) : State :=
  let i := (s.chan n).inp
  let initial := !i.valid
  let s1 := s.modChan n (fun c =>
    { c with inp := { c.inp with state := level, valid := true, lastAcc := s.tickLo, holdStart := none } })
  let s2 := s1.sendChange n level initial (edgeValue (s.clock - i.runFirst) held initial level)
  if initial || held then s2 else s2.chatterEvent n

/-- A new debounced level (R165, R167): back at the accepted state it discards a pending change, which is one chatter
event; otherwise it starts a full hold, or without coupling hold it is accepted at once. -/
def State.debounced (s : State) (n : Fin 16) (level : Bool) : State :=
  let i := (s.chan n).inp
  if i.valid && level = i.state then
    let s1 := s.modChan n (fun c => { c with inp := { c.inp with holdStart := none } })
    if i.holdStart.isSome then s1.chatterEvent n else s1
  else if (s.chan n).rng.couplingHold then
    s.modChan n (fun c => { c with inp := { c.inp with holdStart := some s.clock } })
  else s.acceptInput n level false

/-- The pad is sampled, and its level has stood for `lead` µs: RAW takes it, and once its run has lasted DEBOUNCE × 10 µs, without the
time of a wetting pulse, the debounced level takes its value (R164, R172, R185). `partner` names the state path of a counting pair's
partner, which shows in B_STATE (R173), debounced and without a hold (DESIGN CHOICE, log entry 121). -/
def execDebounceExpiry (n : Fin 16) (partner seen : Bool) (pad : Int) (lead : Nat) (s : State) :
    Host.Outcome State Fault Refusal :=
  let c := s.chan n
  let level := c.rng.inverted (c.electrical pad seen)
  let run := min lead (s.clock - c.inp.runFrom)
  let long := decide (s.sampleSpan n (c.rng.debounce * 10) + c.inp.pulsedSince (s.clock - run) ≤ run)
  ok <| whenDo (s.samples n && !c.inp.inPulse)
    (fun s =>
      if partner then
        (if long && c.rng.func = 3 && (pairMate n c.rng).isSome then
          s.modChan n (fun c => { c with inp := { c.inp with bState := level } }) else s)
      else
        let s1 := s.modChan n (fun c => { c with inp := { c.inp with raw := level, pad := pad } })
        if !long || c.inp.deb = some level then s1
        else (s1.modChan n (fun c => { c with inp := { c.inp with deb := some level, runFirst := s.clock - run } })).debounced n level) s

/-- The debounced level has held for HOLD ms, and the change is accepted (R165); without COUPLING_HOLD it is accepted at once
(R508). -/
def execCouplingHoldExpiry (n : Fin 16) (s : State) : Host.Outcome State Fault Refusal :=
  let c := s.chan n
  match c.inp.holdStart, c.inp.deb with
  | some h, some level =>
    ok <| whenDo (s.samples n && !c.inp.inPulse
        && (!c.rng.couplingHold || decide (h + s.sampleSpan n (c.rng.hold * 1000) ≤ s.clock)))
      (fun s => s.acceptInput n level c.rng.couplingHold) s
  | _, _ => ok s

/-! ## Wetting (R171, R172) -/

/-- A channel wets: DI_SINK with WETTING, sampling, not hot, and not on a standby (R171, R177, R181). -/
def State.wets (s : State) (n : Fin 16) : Bool :=
  let c := s.chan n
  s.samples n && s.sinkOn n && c.rng.func = 1 && c.rng.wetting && !c.inp.inPulse && !(s.ring (ringOf n)).rrole.standby
    && (s.ring (ringOf n)).rmode ≠ .cellar

def State.startPulse (s : State) (n : Fin 16) : State :=
  s.modChan n (fun c => { c with inp := { c.inp with wetStart := some s.clock, lastWet := some s.clock } })

/-- A rising electrical level starts a pulse, unless one started less than 20 ms earlier (R171). -/
def execWettingPulseStart (n : Fin 16) (s : State) : Host.Outcome State Fault Refusal :=
  let recent := match (s.chan n).inp.lastWet with
    | some t => decide (s.clock < t + 20000)
    | none => false
  ok <| whenDo (s.wets n && !recent) (fun s => s.startPulse n) s

/-- With WET_REPEAT, a contact that stays closed is wetted again 10 s after the last pulse (R171). -/
def execWetRepeat (n : Fin 16) (s : State) : Host.Outcome State Fault Refusal :=
  let due := match (s.chan n).inp.lastWet with
    | some t => decide (t + 10000000 ≤ s.clock)
    | none => false
  ok <| whenDo (s.wets n && (s.chan n).rng.wetRepeat && due) (fun s => s.startPulse n) s

/-- A pulse ends after 2 ms: a hold in progress resumes where it stood, and a pad that was below V_ON minimum at the last sample is
CONTACT_HIGH_R (R172). -/
def execWettingPulseEnd (n : Fin 16) (pad : Int) (s : State) : Host.Outcome State Fault Refusal :=
  match (s.chan n).inp.wetStart with
  | none => ok s
  | some t =>
    ok <| whenDo (decide (t + 2000 ≤ s.clock))
      (fun s =>
        let s1 := s.modChan n (fun c => { c with inp := c.inp.endPulse s.clock })
        if pad < (s.chan n).rng.vOnRange.1 then s1.diagRaise n 26 else s1) s

/-! ## Counting (R173 to R176) -/

/-- What an edge adds to the count (R174): 0, 1 or −1. A leads B where A rises while B is 0, B rises while A is 1, A falls while
B is 1 and B falls while A is 0. -/
def countStep (mode edge : Nat) (o : CountObs) : Int :=
  let selected := (o.rising && (edge = 1 || edge = 3)) || (!o.rising && (edge = 2 || edge = 3))
  match mode with
  | 0 => if !o.onB && selected then 1 else 0
  | 1 => if !o.onB && selected then (if o.other then -1 else 1) else 0
  | 2 => if o.both || o.onB || !o.rising then 0 else if o.other then -1 else 1
  | 3 => if o.both || o.onB then 0 else if o.other = o.rising then -1 else 1
  | 4 => if o.both then 0 else if o.onB then (if o.other = o.rising then 1 else -1) else if o.other = o.rising then -1 else 1
  | _ => 0

/-- The edge as the counting paths see it after INVERT (R163). -/
def invertedEdge (o : CountObs) (invert : Bool) : CountObs :=
  { o with rising := o.rising != invert, other := o.other != invert }

/-- A counting-path edge held for MIN_PULSE counts by MODE; both paths changing in a quadrature mode is QUAD_ERR
(R173, R174, R177). Under a live REVERSED the samples read 0 (R177); counting stops in QUIET (R509); a standby counts throughout
(R182). -/
def execCountEdge (n : Fin 16) (seen : CountObs) (s : State) : Host.Outcome State Fault Refusal :=
  let c := s.chan n
  let o := invertedEdge seen c.rng.invert
  ok <| whenDo (s.pathRuns n && c.rng.func = 3 && (s.ring (ringOf n)).rmode = .run && !c.live.getLsbD 12
      && decide (c.rng.minPulse ≤ o.held))
    (fun s =>
      if o.both && 2 ≤ c.rng.cntMode then
        (s.modChan n (fun c => { c with errQuad := satInc c.errQuad })).diagRaise n 14
      else
        let d := countStep c.rng.cntMode c.rng.edge o
        if d = 0 then s
        else s.modChan n (fun c => { c with inp := { c.inp with
          count := c.inp.count + BitVec.ofInt 32 d, countTick := s.tick, countDirty := true } })) s

/-- A changed count reaches the host die, at most every 100 µs and behind the older reports and messages of its Ring (R17, R319), and makes its COUNT entries (R176); a frame that fails its CRC is
discarded, and the count goes again (R18). -/
def execCountDelivery (n : Fin 16) (good : Bool) (s : State) : Host.Outcome State Fault Refusal :=
  let i := (s.chan n).inp
  let due := match i.countSent with
    | some t => decide (t + 100 ≤ s.clock)
    | none => true
  ok <| whenDo (s.phase = .run && i.countDirty && due && (s.ring (ringOf n)).upOpen && (s.ring (ringOf n)).noneBefore i.countTick)
    (fun s => if !good then s.linkDiscard (ringOf n) else
      (s.modChan n (fun c => { c with hostCount := i.count, hostValid := true
                                      inp := { c.inp with countDirty := false, countSent := some s.clock } })).toWheels
        n 5 0 i.countTick i.count) s

/-! ## Diagnostics (R177 to R179, R242, R512) -/

/-- OPEN_WIRE is judged on a channel: DI_SINK and DI_COUNT with LINE_MON while sampling, so not on a standby that discards its samples (DESIGN
CHOICE, log entry 131), and the analog inputs of R242. -/
def State.judgesOpenWire (s : State) (n : Fin 16) : Bool :=
  let c := s.chan n
  let f := c.rng.func
  ((f = 1 || f = 3) && c.rng.diLineMon && s.samples n)
    || (s.ringRuns n && !c.latch && (((f = 9 || f = 10 || f = 11) && c.rng.anLineMon) || f = 12))

/-- The pad stays below V_OW for 20 ms, or an analog input reads open for its time: OPEN_WIRE (R177, R242). -/
def execOpenWire (n : Fin 16) (s : State) : Host.Outcome State Fault Refusal :=
  ok <| whenDo (s.judgesOpenWire n) (fun s => s.guardedDetect n 5) s

/-- A reversed pad or current lasts 1 ms: REVERSED, judged under a set latch as well (R177, R506, R509). -/
def execReversed (n : Fin 16) (s : State) : Host.Outcome State Fault Refusal :=
  ok <| whenDo (s.ringRuns n && isDi (s.chan n).rng.func) (fun s => s.diagRaise n 12) s

/-- A train-line current above 3.4 mA, or an analog input beyond its range, for 1 ms: OVERRANGE (R177, R242). -/
def execOverrange (n : Fin 16) (s : State) : Host.Outcome State Fault Refusal :=
  let f := (s.chan n).rng.func
  ok <| whenDo ((f = 2 && s.samples n) || (isAi f && s.ringRuns n && !(s.chan n).latch)) (fun s => s.diagRaise n 13) s

/-! ## Configuration that reaches the Ring (R169) -/

/-- A new configuration of a channel takes effect on its Ring: a changed INVERT discards a run and a hold in progress, and leaves the
debounced level and STATE (R169); without NE43 no loop current is classified (R227); the rest applies from the next sample, period or tick. -/
def State.applyCfg (s : State) (n : Fin 16) (cfg : ChanCfg) : State :=
  let flip := isDi (s.chan n).rng.func && cfg.invert ≠ (s.chan n).rng.invert
  (s.modChan n (fun c =>
    { c with rng := { cfg with mode := c.rng.mode }
             an := if c.rng.ne43 && !cfg.ne43 then c.an.enter 0#3 s.clock else c.an
             inp := if flip then { c.inp with runFrom := s.clock, holdStart := none } else c.inp })).refreshStage n 0

/-! ## Function changes (R121, R183, R508) -/

/-- A channel that takes DI_COUNT starts from 0 on its Ring (R176), at a function change that leaves FUNC as well (DESIGN CHOICE, log entry
122). -/
def Chan.startCount (c : Chan) : Chan :=
  if c.rng.func = 3 then { c with inp := { c.inp with count := 0#32, countDirty := false, countSent := none } } else c

/-- What the host die holds of a channel whose function changes: no count and no value has been delivered under the new one yet (R140, R176,
R246), and STATE of an analog input ends with its FALL (R133, R183, R228). -/
def Chan.freshHost (c : Chan) : Chan :=
  let ends : Bool := c.hostState && isAi c.func
  { c with hostCount := 0#32, hostValid := false, hostFunc := BitVec.ofNat 4 c.cfg.func, hostState := c.hostState && !ends
           hostFall := c.hostFall || ends, an := { c.an with measFlags := 0#4 } }

/-- A channel whose Ring is configured anew on the host die: a write of CHn_MODE that waits goes with the configuration. -/
def Chan.configHost (c : Chan) : Chan :=
  { (if c.change.isSome then c.freshHost else c) with change := none, modeParams := none }

/-- A channel at an activation on the host die. -/
def Chan.onHost (c : Chan) (keeps : Bool) : Chan := if keeps then { c with hostFunc := BitVec.ofNat 4 c.cfg.func } else c.freshHost

/-- The old function's safe state holds from B to B + 1, an input's or OFF's being OFF, without a latch (R121, R183); its live
diagnostics end, but for the trips of a latch that is still set (R211), and the Ring takes the new registers; a pair that gangs from now on shares its causes (R345). -/
def State.beginHold (s : State) (n : Fin 16) (cfg : ChanCfg) (cmd : ChanCmd) (safe : BitVec 3) : State :=
  let f := (s.chan n).rng.func
  let kept := fun (m : Nat) => (s.chan n).latch && tripDiags.contains m && !(m = 2 && f = 12 && !(s.chan n).tripKept)
  let s1 := s.diagClearAll n ((List.range 30).filter (fun m => !kept m))
  let s2 := (s1.modChan n (fun c => { c with holdPad := some (if isOut f then f else 0, c.rsafe) })).refreshStage n 6
  let s3 := (s2.restartInput n).modChan n (fun c =>
    ({ c with rng := cfg, rcmd := cmd, rsafe := safe, tripKept := cfg.func = 12 && c.live.getLsbD 2 }).startCount)
  (s3.joinGang n).refreshStage n 6

/-- A hold in progress whose COUPLING_HOLD was cleared ends: the accepted state follows the debounced level (R165, R508). -/
def State.endClearedHold (s : State) (n : Fin 16) : State :=
  let c := s.chan n
  match c.inp.holdStart, c.inp.deb with
  | some _, some level => if s.samples n && !c.inp.inPulse && !c.rng.couplingHold then s.acceptInput n level false else s
  | _, _ => s

/-- A word of CHn_MODE reaches its Ring: as a function change with its safe-state step (R183), or without it (R508). -/
def State.ringMode (s : State) (n : Fin 16) (w : Word) (change : Bool) : State :=
  let c := s.chan n
  if change then s.beginHold n { c.rng with mode := w } c.rcmd c.rsafe
  else (((s.modChan n (fun c => { c with rng := { c.rng with mode := w } })).applyGuard n).endClearedHold n).refreshStage n 0

end Sys2Proof.Machine
end

