-- ==== Sys2Proof/Machine/Outputs.lean ====
section
/-! DEFINITION. Digital outputs, the tap supply, load shedding and the thermal limits of the Rings
(07_digital_outputs.md). -/

namespace Sys2Proof.Machine

/-! ## PWM, inrush and trips (R190, R191, R194)

What is detected on the stage of a gang partner acts as if on the channel that gangs with it: the pair counts as one output (R198). -/

/-- A PWM period begins: the duty, period and ALT that reached the Ring are taken up (R190), on both stages of a pair (R198). -/
def execPwmPeriodStart (n : Fin 16) (s : State) : Host.Outcome State Fault Refusal :=
  let k := s.lead n
  let g := (s.chan k).stage
  ok <| whenDo (g.on && g.drive = .pwm && decide (g.pwmStart + g.period.toNat ≤ s.clock))
    (fun s => (s.modChan k (fun c => { c with stage := { c.stage with
      duty := c.rng.doDuty, period := word c.rng.period, pwmAlt := c.rcmd.altOn, pwmStart := g.pwmStart + g.period.toNat } })).followGang k) s

/-- The duty that the PWM runs at (R188). -/
def Stage.dutyNow (g : Stage) : BitVec 16 := if g.pwmAlt then g.duty.extractLsb' 16 16 else g.duty.extractLsb' 0 16

/-- The on-time of a period in units of 1/65 535 µs: DUTY × PERIOD (R190). -/
def Stage.onTime (g : Stage) : Nat := g.dutyNow.toNat * g.period.toNat

/-- A trip of R191 or R194: the latch with cause OVERLOAD, the diagnostic, and the trip count (R28, R211). -/
def State.trip (s : State) (n : Fin 16) (m : Nat) : State :=
  ((s.modChan n (fun c => { c with errTrips := satInc c.errTrips })).setCause n 2#16).diagRaise n m

/-- The inrush window is running (R191). -/
def Chan.inInrush (c : Chan) : Bool := c.stage.inrushStart.isSome

/-- The inrush window ends; a stage in limit at its last instant trips OVERCURRENT (R191). -/
def execInrushEnd (n : Fin 16) (limiting : Bool) (s : State) : Host.Outcome State Fault Refusal :=
  let k := s.lead n
  let c := s.chan k
  match c.stage.inrushStart with
  | none => ok s
  | some t =>
    ok <| whenDo (decide (t + c.rng.inrush * 1000 ≤ s.clock))
      (fun s =>
        let s1 := (s.modChan k (fun c => { c with stage := { c.stage with inrushStart := none } })).followGang k
        if limiting && c.stage.on then s1.trip k 3 else s1) s

/-- In limit at I_LIM for 1 ms after the inrush window: OVERCURRENT (R191); DO_PP limits on either side (R194). -/
def execOvercurrent (n : Fin 16) (s : State) : Host.Outcome State Fault Refusal :=
  let k := s.lead n
  let c := s.chan k
  ok <| whenDo (isDo c.rng.func && !c.inInrush && (c.stage.on || c.stage.drive = .pulldown)) (fun s => s.trip k 3) s

/-- A high side in limit with its pad below 2.0 V for 1 ms (R191); on AI_RATIO a force pad below 50 mV (R242). -/
def execShortGnd (n : Fin 16) (s : State) : Host.Outcome State Fault Refusal :=
  let k := s.lead n
  let c := s.chan k
  ok <| if c.rng.func = 12 then whenDo (s.ringRuns k && !c.latch) (fun s => s.diagRaise k 2) s
    else whenDo (isDo c.rng.func && c.stage.on) (fun s => s.trip k 2) s

/-- OFF_BLANK has run out, and the off-state checks start (R194, R195, R199). -/
def execOffBlankEnd (n : Fin 16) (s : State) : Host.Outcome State Fault Refusal :=
  let k := s.lead n
  let c := s.chan k
  match c.stage.blankStart with
  | none => ok s
  | some t =>
    ok <| whenDo (decide (t + c.rng.offBlank * 1000 ≤ s.clock))
      (fun s => (s.modChan k (fun c => { c with stage := { c.stage with blankStart := none } })).followGang k) s

/-- SHORT_VF by reverse current (any time while off, or with only the high side on), or by pad voltage while off after
OFF_BLANK (R194). While MAY_DRIVE is 0 the pad-voltage check shows EXT_DRIVEN instead, which is no fault (R199). -/
def execShortVf (n : Fin 16) (reverse : Bool) (s : State) : Host.Outcome State Fault Refusal :=
  let k := s.lead n
  let c := s.chan k
  ok <| whenDo (isDo c.rng.func && (s.ring (ringOf k)).logic && c.stage.drive ≠ .pulldown)
    (fun s =>
      if reverse then s.trip k 1
      else if c.stage.on || c.stage.blankStart.isSome then s
      else if (s.ring (ringOf k)).rrole.may then s.trip k 1
      else (s.modChan k (fun c => { c with stage := { c.stage with extDriven := true } })).followGang k) s

/-- An on stage below I_OL for 10 ms: OPEN_LOAD_ON (R195). -/
def execOpenLoadOn (n : Fin 16) (s : State) : Host.Outcome State Fault Refusal :=
  let k := s.lead n
  let c := s.chan k
  ok <| whenDo ((c.rng.func = 4 || c.rng.func = 5) && c.rng.olOn && c.stage.on)
    (fun s => s.guardedDetect k 6) s

/-- An off pad above 2.0 V for 20 ms after OFF_BLANK: OPEN_LOAD_OFF (R195), with its source off while MAY_DRIVE is 0
(R199). -/
def execOpenLoadOff (n : Fin 16) (s : State) : Host.Outcome State Fault Refusal :=
  let k := s.lead n
  let c := s.chan k
  ok <| whenDo ((c.rng.func = 4 || c.rng.func = 6) && c.rng.olOff && !c.stage.on && c.stage.blankStart = none
      && (s.ring (ringOf k)).rrole.may) (fun s => s.guardedDetect k 7) s

/-! ## Thermal limits (R196, R197) -/

/-- A channel switch at 170 °C: an output stage trips with cause CH_THERMAL, and the ninth trip within 60 s, or any
trip without TH_RETRY, keeps the latch (R196); an input turns its sink off (R177). -/
def execChThermal (n : Fin 16) (s : State) : Host.Outcome State Fault Refusal :=
  let k := s.lead n
  let c := s.chan k
  let recent := c.stage.trips.filter (fun t => decide (s.clock < t + 60000000))
  ok <| whenDo ((s.ring (ringOf k)).logic && (hasStage c.rng.func || isDi c.rng.func))
    (fun s =>
      if hasStage c.rng.func then
        ((s.modChan k (fun c => { c with stage := { c.stage with
            trips := recent ++ [s.clock], keepLatch := !c.rng.thRetry || decide (8 ≤ recent.length) } })).setCause k 4#16).diagRaise k 4
      else
        (s.modChan k (fun c => { c with inp := c.inp.endPulse s.clock })).diagRaise k 4) s

/-- With TH_RETRY, a switch below 150 °C has its thermal latch cleared at once, recorded as an event (R196, R349). -/
def execThermalRetry (n : Fin 16) (s : State) : Host.Outcome State Fault Refusal :=
  let k := s.lead n
  let c := s.chan k
  ok <| whenDo (hasStage c.rng.func && c.rng.thRetry && c.causes.getLsbD 2 && !c.stage.keepLatch)
    (fun s =>
      let s1 := (s.diagClear k 4).modChan k (fun c => { c with errRetries := satInc c.errRetries })
      (s1.clearAtOnce k 4#16 5).event 0x12 8 .internal (word k.1) 4#32) s

/-- A live bit of RINGx_STAT with its sticky copy and its report (R197, R200, R201, R207, R211): `b` is its place in
RINGx_DIAG and `r` its source. -/
def State.ringDiag (s : State) (x : RingId) (b : Nat) (r : Fin 20) (was live : Bool) (f : Ring → Ring) : State :=
  if was = live then s
  else
    (s.modRing x (fun g => let g' := f g; if live then { g' with sticky := g'.sticky ||| (1#6 <<< b) } else g')).ringReport
      x (ringSlot x r) 0 live 0#32

/-- The Ring die reaches TEMP_WARN, or cools 5 °C below it (R197). -/
def execTempWarn (x : RingId) (hot : Bool) (s : State) : Host.Outcome State Fault Refusal :=
  ok <| whenDo (s.ring x).logic (fun s => s.ringDiag x 4 9 (s.ring x).tempWarn hot (fun g => { g with tempWarn := hot })) s

/-- The Ring die reaches 175 °C: every latch of the Ring is set with cause RING_THERMAL (R197). -/
def execRingThermal (x : RingId) (s : State) : Host.Outcome State Fault Refusal :=
  ok <| whenDo (s.ring x).logic
    (fun s => (s.setCauseRing x 8#16).ringDiag x 5 10 (s.ring x).thermal true (fun g => { g with thermal := true })) s

/-- Ganged currents differ by more than 30 % for 10 ms (R198). -/
def execGangImbalance (n : Fin 16) (s : State) : Host.Outcome State Fault Refusal :=
  let k := s.lead n
  ok <| whenDo ((gangMate k (s.chan k).rng).isSome && (s.chan k).stage.on) (fun s => s.guardedDetect k 24) s

/-! ## Field supply and load (R200, R201) -/

def execVfLow (x : RingId) (s : State) : Host.Outcome State Fault Refusal :=
  ok <| whenDo (s.ring x).logic
    (fun s => s.ringDiag x 0 6 (s.ring x).vfLow true (fun g => { g with vfLow := true })) s

def execVfLowClear (x : RingId) (s : State) : Host.Outcome State Fault Refusal :=
  ok <| s.ringDiag x 0 6 (s.ring x).vfLow false (fun g => { g with vfLow := false })

/-- ILOAD passes I_MAX, or falls back below it (R201). -/
def execRingOverload (x : RingId) (high : Bool) (s : State) : Host.Outcome State Fault Refusal :=
  ok <| whenDo (s.ring x).logic
    (fun s => s.ringDiag x 2 7 (s.ring x).overload high (fun g => { g with overload := high, overloadAt := s.clock })) s

/-- RING_OVERLOAD has lasted 1 s: every latch of the Ring is set with cause RING_OVERLOAD (R201). -/
def execRingOverloadLatch (x : RingId) (s : State) : Host.Outcome State Fault Refusal :=
  let r := s.ring x
  ok <| whenDo (r.overload && decide (r.overloadAt + 1000000 ≤ s.clock)) (fun s => s.setCauseRing x 16#16) s

/-! ## Shedding (R202, R203, R510) -/

/-- The channel that R202 sheds next: its stage on, SHED set, highest SHED_PRIO, and among equals the highest number. -/
def State.shedChoice (s : State) (x : RingId) : Option (Fin 16) :=
  (ringChs x).foldl
    (fun best n =>
      let c := s.chan n
      if c.stage.on && c.rng.shedFlag && isDo c.rng.func then
        match best with
        | none => some n
        | some b => if (s.chan b).rng.shedPrio ≤ c.rng.shedPrio then some n else some b
      else best) none

/-- A channel is shed: its stage goes off, member SHED is raised, and the event is recorded (R202, R203). -/
def State.shed (s : State) (n : Fin 16) : State :=
  let x := ringOf n
  let s1 := (s.modChan n (fun c => { c with stage := { c.stage with shed := true } })).refreshStage n 1
  ((s1.modRing x (fun r => { r with shedStack := n :: r.shedStack })).diagRaise n 30).event
    0x12 7 .internal (word n.1) 0#32

/-- The channel shed last is restored and follows its pending command (R203). -/
def State.restore (s : State) (x : RingId) : State :=
  match (s.ring x).shedStack with
  | [] => s
  | n :: rest =>
    let s1 := (s.modRing x (fun r => { r with shedStack := rest })).modChan n
      (fun c => { c with stage := { c.stage with shed := false } })
    ((s1.refreshStage n 2).diagClear n 30).event 0x12 7 .internal (word n.1) 1#32

/-- Shedding and restoring at one step start tick (R202, R203, R510). -/
def State.shedTick (s : State) (x : RingId) : State :=
  let r := s.ring x
  let live := r.vfLow || r.overload
  if !r.shedEn then (s.modRing x (fun r => { r with cleanTicks := 0 })).restore x
  else if live then
    let s1 := s.modRing x (fun r => { r with cleanTicks := 0 })
    match s1.shedChoice x with
    | some n => s1.shed n
    | none => s1
  else
    let s1 := s.modRing x (fun r => { r with cleanTicks := r.cleanTicks + 1 })
    if r.restoreSteps ≤ r.cleanTicks + 1 then s1.restore x else s1

/-- A command that would turn a shed-enabled channel on while SHEDDING is 1 sheds it instead (R202). -/
def State.applyCommand (s : State) (n : Fin 16) (f : Chan → Chan) : State :=
  let r := s.ring (ringOf n)
  let s1 := s.modChan n f
  if r.shedEn && r.shedStack ≠ [] && (s.chan n).rng.shedFlag && isDo (s.chan n).rng.func && !(s.chan n).stage.on
      && !(s.chan n).stage.shed && (s1.pad n).isOn then s1.shed n
  else s1.refreshStage n 0

/-! ## Taps (R204 to R207, R222) -/

/-- The functions fed from the taps (R205). -/
def tapped (func : Nat) : Bool := isAo func || func = 11

/-- A rail is on: the tap supply runs, and TAP_EN enables the rail (R204, R205). -/
def Ring.railOn (r : Ring) (t : Nat) : Bool := r.logic && r.vfOk && r.rmode ≠ .cellar && r.tapEn.testBit t

/-- A rail that TAP_OVERLOAD holds back until it has regulated for 100 ms (R207). -/
def Ring.heldBack (r : Ring) (t clock : Nat) : Bool :=
  r.railHold.any (fun h => h.1.1 = t && (match h.2 with
    | some since => decide (clock < since + 100000)
    | none => true))

/-- A rail counts as usable: T4 always, T1 to T3 while enabled, regulating, available and not held back (R206, R207). -/
def Ring.usable (r : Ring) (clock t : Nat) : Bool :=
  t = 3 || (r.tapEn.testBit t && r.rails.getLsbD t && (t ≠ 2 || r.t3) && !r.heldBack t clock)

/-- A voltage in mV is at least NEED; a NEED that no rail meets is none (R222). -/
def meets (need : Option Nat) (mv : Nat) : Bool :=
  match need with
  | some v => decide (v ≤ mv)
  | none => false

/-- The lowest usable rail at or above NEED, else T4 (R206). -/
def Ring.lowestRail (r : Ring) (clock : Nat) (rails : List Nat) (need : Option Nat) : Nat :=
  (([0, 1, 2].filter (fun t => r.usable clock t && meets need (rails.getD t 0))).head?).getD 3

/-- A quotient rounded up. -/
def divUp (a b : Nat) : Nat := (a + b - 1) / b

/-- NEED = V_STAGE + HR of a tapped channel in mV, rounded up (R206, R222; log entry 109). AO_I: the pad voltage scaled from the measured current to the
target, and no rail meets it below 0.5 mA. AO_V: the target. AI_I_PWR: V_LOOP and the drop across the sense resistor. -/
def Chan.need (c : Chan) (padMv : Nat) : Option Nat :=
  if c.rng.func = 7 then
    (if c.an.rb < 500000 then none else some (divUp (padMv * c.an.target.toInt.toNat) c.an.rb.toNat + 1500))
  else if c.rng.func = 8 then some (divUp c.an.target.toInt.toNat 1000 + 2000)
  else some (c.rng.vLoop * 100 + divUp (c.an.rb.toNat * (if c.rng.multidrop then 10 else 100)) 1000000 + 1500)

/-- A tapped channel takes a rail. -/
def State.setTap (s : State) (n : Fin 16) (t : Nat) : State :=
  s.modChan n (fun c => { c with stage := { c.stage with tap := BitVec.ofNat 2 t, downCount := 0 } })

/-- The choice of one tapped channel at a tick (R206). -/
def State.chooseTap (s : State) (n : Fin 16) (o : TickObs) : State :=
  let r := s.ring (ringOf n)
  let g := (s.chan n).stage
  let need := (s.chan n).need (o.pads.getD (n.1 % 8) 0)
  if !meets need (o.rails.getD g.tap.toNat 0) || !r.usable s.clock g.tap.toNat then s.setTap n (r.lowestRail s.clock o.rails need)
  else
    let lower := r.lowestRail s.clock o.rails (need.map (· + r.tapHyst * 100))
    if lower < g.tap.toNat then
      if r.downSteps ≤ g.downCount + 1 then s.setTap n lower
      else s.modChan n (fun c => { c with stage := { c.stage with downCount := g.downCount + 1 } })
    else s.modChan n (fun c => { c with stage := { c.stage with downCount := 0 } })

/-- Every tapped channel of a Ring chooses its tap (R206). -/
def State.tapTick (s : State) (x : RingId) (o : TickObs) : State :=
  forEach ((ringChs x).filter (fun n => tapped (s.chan n).rng.func)) (fun n t => t.chooseTap n o) s

/-- The first branch of R206 for one channel, at once: the lowest usable rail that meets NEED, and from a rail that is still usable never
downwards. -/
def State.moveUp (s : State) (n : Fin 16) (o : TickObs) : State :=
  let r := s.ring (ringOf n)
  let c := s.chan n
  let t := r.lowestRail s.clock o.rails (c.need (o.pads.getD (n.1 % 8) 0))
  s.setTap n (if r.usable s.clock c.stage.tap.toNat then max c.stage.tap.toNat t else t)

/-- A stage drop below HR/2 for 20 µs between ticks moves the channel up (R206). -/
def execTapMoveUp (n : Fin 16) (o : TickObs) (s : State) : Host.Outcome State Fault Refusal :=
  ok <| whenDo (tapped (s.chan n).rng.func && s.ringRuns n) (fun s => s.moveUp n o) s

/-- The channels of a Ring that run from a rail move up at once (R206, R207). -/
def State.leaveRail (s : State) (x : RingId) (rail : Nat) (o : TickObs) : State :=
  forEach ((ringChs x).filter (fun n => tapped (s.chan n).rng.func && (s.chan n).stage.tap.toNat = rail)) (fun n t => t.moveUp n o) s

/-- A rail below 90 % of its target for 1 ms: TAP_OVERLOAD, its channels move up, and it is held back until it has
regulated for 100 ms (R207). -/
def execTapOverload (x : RingId) (rail : Fin 3) (o : TickObs) (s : State) : Host.Outcome State Fault Refusal :=
  ok <| whenDo ((s.ring x).railOn rail.1)
    (fun s =>
      let s1 := (s.ringDiag x 3 8 (s.ring x).tapOverload true (fun g => { g with tapOverload := true })).modRing x
        (fun r => { r.keepRails (~~~ (1#3 <<< rail.1)) with railHold := (rail, none) :: r.railHold.filter (fun h => h.1 ≠ rail) })
      (s1.leaveRail x rail.1 o).tellTaps x) s

/-- The rails named regulate: TAPS_OK becomes 1, and the 100 ms of a rail held back by R207 start (R204, R207). A rail that is off, and T3
while VF is too low for it, does not regulate. -/
def execTapsRegulated (x : RingId) (rails : BitVec 3) (s : State) : Host.Outcome State Fault Refusal :=
  let r := s.ring x
  let now : BitVec 3 := rails &&& BitVec.ofNat 3 r.tapEn &&& (if r.t3 then 7#3 else 3#3)
  ok <| whenDo (r.railOn 0 || r.railOn 1 || r.railOn 2)
    (fun s => (s.modRing x (fun r =>
      { r with
        rails := r.rails ||| now
        railHold := r.railHold.map (fun h => if now.getLsbD h.1.1 && h.2.isNone then (h.1, some s.clock) else h) })).tellTaps x) s

/-- VF crosses 20.5 V rising or 20.0 V falling: T3 becomes available, or it no longer regulates and its channels move up at once (R204,
R206). -/
def execT3Availability (x : RingId) (up : Bool) (o : TickObs) (s : State) : Host.Outcome State Fault Refusal :=
  ok <| whenDo (s.ring x).logic
    (fun s =>
      let s1 := s.modRing x (fun r => { (if up then r else r.keepRails 3#3) with t3 := up })
      if up then s1 else (s1.leaveRail x 2 o).tellTaps x) s

end Sys2Proof.Machine
end

