-- ==== Sys2Proof/Machine/Analog.lean ====
section
/-! DEFINITION. Analog channels: the judgement of loops, diagnostics, captures and the service buttons
(08_analog_loops.md, R217 to R235). -/

namespace Sys2Proof.Machine

/-! ## Diagnostics (R224, R227, R242) -/

/-- The modem of the channel's Ring transmits on the channel (R224, R236). -/
def State.fskSending (s : State) (n : Fin 16) : Bool :=
  (s.ring (ringOf n)).fskOn n && (s.ring (ringOf n)).fsk.state = .sending

/-- COMPLIANCE is judged on the channel (R224). -/
def State.judgesCompliance (s : State) (n : Fin 16) : Bool :=
  let c := s.chan n
  c.rng.func = 7 && s.ringRuns n && c.rcmd.commanded 7 && !c.latch && c.stage.tap = 3#2 && !s.fskSending n
    && decide (c.an.targetAt + 1000 ≤ s.clock)

/-- MEAS, as the Ring averages it, differs from L by more than 24 000 nA (R223, R224). -/
def Analog.offTarget (a : Analog) : Bool := decide (24000 < (a.rb - a.target.toInt).natAbs)

/-- One judged tick of COMPLIANCE: two in a row beyond the limit set it, two within clear it, unless OPEN_LOOP keeps it
live (R224). -/
def State.judgeCompliance (s : State) (n : Fin 16) : State :=
  if !s.judgesCompliance n then s
  else
    let a := (s.chan n).an
    let off := a.offTarget
    let s1 := s.modChan n (fun c => { c with an := { c.an with
      compLow := if off then a.compLow + 1 else 0, compOk := if off then 0 else a.compOk + 1 } })
    if off && 2 ≤ a.compLow + 1 then s1.diagRaise n 15
    else if !off && 2 ≤ a.compOk + 1 && !(s.chan n).live.getLsbD 8 then s1.diagClear n 15 else s1

/-- At a step start tick the Ring sheds or restores, chooses taps and judges compliance (R202, R203, R206, R224). Below VF_UVLO it goes on
counting the clean ticks of R203; taps and compliance rest there (R54). -/
def execRingStepTick (x : RingId) (o : TickObs) (s : State) : Host.Outcome State Fault Refusal :=
  ok <| whenDo ((s.ring x).logic && (s.ring x).configured)
    (fun s =>
      let t := s.shedTick x
      if (s.ring x).vfOk then forEach (ringChs x) (fun n t => t.judgeCompliance n) (t.tapTick x o) else t) s

/-- L at least 1 mA and MEAS below 0.2 mA for 10 ms of judged time: OPEN_LOOP, with COMPLIANCE (R224). -/
def execOpenLoop (n : Fin 16) (s : State) : Host.Outcome State Fault Refusal :=
  ok <| whenDo (s.judgesCompliance n && decide (1000000 ≤ (s.chan n).an.target.toInt) && decide ((s.chan n).an.rb < 200000))
    (fun s => (s.diagRaise n 8).diagRaise n 15) s

/-- A condition of an analog function on a running Ring with its latch clear. -/
def State.analogRuns (s : State) (n : Fin 16) (func : Nat) : Bool :=
  (s.chan n).rng.func = func && s.ringRuns n && !(s.chan n).latch

/-- The sense pad stays below 0.1 V with MEAS at or above 3.5 mA: LOAD_SHORT (R242). -/
def execLoadShort (n : Fin 16) (s : State) : Host.Outcome State Fault Refusal :=
  ok <| whenDo (s.analogRuns n 7 && decide (3500000 ≤ (s.chan n).an.rb)) (fun s => s.diagRaise n 27) s

def execSupplyLimit (n : Fin 16) (s : State) : Host.Outcome State Fault Refusal :=
  ok <| whenDo (s.analogRuns n 11) (fun s => s.diagRaise n 16) s

def execAoOverload (n : Fin 16) (s : State) : Host.Outcome State Fault Refusal :=
  ok <| whenDo (s.analogRuns n 8) (fun s => s.diagRaise n 17) s

/-- AO_OPEN is judged with LINE_MON and a target of at least 1 V (R242). -/
def execAoOpen (n : Fin 16) (s : State) : Host.Outcome State Fault Refusal :=
  ok <| whenDo (s.analogRuns n 8 && (s.chan n).rng.anLineMon && decide (1000000 ≤ (s.chan n).an.target.toInt.natAbs))
    (fun s => s.diagRaise n 9) s

/-- NE 43 regions of a loop current in nA (R227). -/
def ne43Region (l : Int) : BitVec 3 :=
  if l ≤ 3600000 then 3#3 else if l < 3800000 then 1#3 else if l ≤ 20500000 then 0#3 else if l < 21000000 then 2#3 else 4#3

/-- The loop current is classified (R227). -/
def State.classify (s : State) (n : Fin 16) (l : Int) : State :=
  let c := s.chan n
  if (c.rng.func = 10 || c.rng.func = 11) && c.rng.ne43 && ne43Region l ≠ c.an.region then
    s.modChan n (fun c => { c with an := c.an.enter (ne43Region l) s.clock })
  else s

/-- The current has held in FAIL_LOW or FAIL_HIGH for NE43_TIME (R227). -/
def execNe43Diag (n : Fin 16) (s : State) : Host.Outcome State Fault Refusal :=
  let c := s.chan n
  ok <| whenDo ((c.rng.func = 10 || c.rng.func = 11) && c.rng.ne43 && s.ringRuns n && !c.latch
      && decide (c.an.regionAt + c.rng.ne43Time * 100000 ≤ s.clock))
    (fun s => if c.an.region = 3#3 then s.diagRaise n 18 else if c.an.region = 4#3 then s.diagRaise n 19 else s) s

/-- Members that end when their condition has been absent for their time, by R177, R211, R242, R511 and R512: not
those that end by a rule of their own (CHATTER, COMPLIANCE, SHED, the electrode and loop diagnostics, UNPLUGGED, SAFE_REQ, and SHORT_GND and OVERCURRENT
of an output, which end with the latch). -/
def clearsByAbsence (func m : Nat) : Bool :=
  match m with
  | 2 => func = 12
  | 3 | 10 | 11 | 15 | 20 | 21 | 22 | 23 | 25 | 29 | 30 | 31 => false
  | _ => true

/-- A diagnostic clears once its condition has been absent for its time (R511, R512); of a Ring's sources TAP_OVERLOAD,
RING_THERMAL and LINK_ERRS. The pad voltage that SHORT_VF judges is EXT_DRIVEN's too (R199). OPEN_LOOP clears while MEAS
is at least 0.2 mA or L below 1 mA, and keeps its state while the channel is not judged (R511); LINK_ERRS clears after 1 s with neither more
than 64 discards nor lost reports (R341), and an NE 43 diagnostic clears once the current has been in other regions for NE43_TIME (R227). -/
def execDiagnosticClear (d : DiagRef) (s : State) : Host.Outcome State Fault Refusal :=
  match d with
  | .member n m =>
    ok <| whenDo (clearsByAbsence (s.chan n).rng.func m.1 && !(m.1 = 2 && (s.chan n).tripKept))
      (fun s =>
        let a := (s.chan n).an
        let out := if m.1 = 18 then a.lowOutAt else a.highOutAt
        if m.1 = 18 ∨ m.1 = 19 then
          whenDo (decide (out + (s.chan n).rng.ne43Time * 100000 ≤ s.clock) && a.region ≠ (if m.1 = 18 then 3#3 else 4#3))
            (fun s => s.diagClear n m.1) s
        else if m.1 = 8 then
          whenDo (s.judgesCompliance n && (decide (200000 ≤ a.rb) || decide (a.target.toInt < 1000000))) (fun s => s.diagClear n 8) s
        else if m.1 = 1 then (s.modChan n (fun c => { c with stage := { c.stage with extDriven := false } })).diagClear n 1
        else s.diagClear n m.1) s
  | .ring x r =>
    if r.1 = 8 then ok (s.ringDiag x 3 8 (s.ring x).tapOverload false (fun g => { g with tapOverload := false }))
    else if r.1 = 10 then ok (s.ringDiag x 5 10 (s.ring x).thermal false (fun g => { g with thermal := false }))
    else if r.1 = 3 then
      let late := (s.ring x).discards.filter (fun t => decide (s.clock < t + 1000000))
      ok <| whenDo (decide (late.length ≤ 64) && !(s.ring x).lostAt.any (fun t => decide (s.clock < t + 1000000)))
        (fun s => (s.modRing x (fun g => { g with discards := late, lostAt := none })).clearLive (ringSlot x 3)) s
    else ok s

/-! ## Readings (R223, R230) -/

/-- The average of the readings not older than a time in µs, rounded to the nearest unit; none without a reading. -/
def Analog.average (a : Analog) (clock us : Nat) : Option Int :=
  let xs := (a.reads.filter (fun r => decide (clock < r.1 + us))).map (·.2)
  if xs = [] then none else some (divNearest xs.sum xs.length)

/-- A reading is taken; those of the last 100 ms are kept. -/
def Analog.read (a : Analog) (clock : Nat) (v : Int) : Analog :=
  { a with reads := (clock, v) :: a.reads.filter (fun r => decide (clock < r.1 + 100000)) }

/-- A readback of an output or of a loop supply on its Ring (R223): the 1 ms average. A supply's average is kept beside MEAS, which is the
input's value there (R226; log entry 98). -/
def Chan.readBack (c : Chan) (clock : Nat) (v : Int) : Chan :=
  let a := c.an.read clock v
  { c with an := { a with rb := (a.average clock 1000).getD v } }

/-- The average reaches the host die, where an output's MEAS holds it (R16, R223). -/
def Chan.takeBack (c : Chan) : Chan :=
  if isAo c.func then { c with an := { c.an with meas := BitVec.ofInt 32 c.an.rb } } else c

/-- The present loop value of a channel: the 100 ms average of its readings (R230); without a reading the spec states none, and it is a
free value (log entry 6). -/
def State.loopValue (s : State) (n : Fin 16) : Int × State :=
  match (s.chan n).an.average s.clock 100000 with
  | some v => (v, s)
  | none => (s.free.1.toInt, s.free.2)

/-! ## Captures and trim (R230, R233, R234) -/

/-- The calibration of a channel changed: it reaches the cellar store 20 ms to 60 ms later (R234), and goes to the Ring, whose target
follows (R13, R229, R233). -/
def State.calChanged (s : State) (n : Fin 16) (f : Analog → Analog) : State :=
  (s.modChan n (fun c => { c with an := { f c.an with persist := c.an.persist ++ [(s.clock, (f c.an).copy)] } })).sendRing (ringOf n)
    (.cal n (f (s.chan n).an).copy)

/-- ZCAP and SCAP before a capture or a direct write: at their references where ZS_FUNC differs from FUNC (R230). -/
def Analog.capBase (a : Analog) (cfg : ChanCfg) : Analog :=
  if a.zsFunc.toNat = cfg.func then a else { a with zcap := cfg.zref, scap := cfg.sref, zsFunc := BitVec.ofNat 4 cfg.func }

/-- The pair of captured values is refused by code 8 of R230. -/
def capRefused (cfg : ChanCfg) (z sp : Int) : Bool :=
  2 * (sp - z) < cfg.sref.toInt - cfg.zref.toInt || z < 0 || 24000000 < z || sp < 0 || 24000000 < sp

/-- Live diagnostics of an analog channel (R242). -/
def anMembers : List Nat := [15, 8, 27, 16, 17, 9, 5, 13, 18, 19, 2, 4]

/-- The live diagnostics that the CHAN signal FAULT gathers, by function (R134, R179, R211, R242, R263). -/
def faultMembers (func : Nat) : List Nat :=
  if isDi func then [4, 5, 12, 13]
  else if isDo func then [1, 2, 3, 4, 6, 7, 24]
  else if isAn func then [2, 4, 5, 8, 9, 13, 16, 17, 18, 19, 27]
  else if func = 13 then [10, 20]
  else if func = 14 then [11, 21, 22, 23]
  else []

/-- A diagnostic of a channel is live as its Ring's reports have told the host die (R29). -/
def State.reported (s : State) (n : Fin 16) (m : Nat) : Bool :=
  (s.slot (chSlot n (memberSlot (s.chan n).func m))).real.getLsbD (m % 32)

/-! ## STATE of an analog input (R228) -/

/-- The latest value carries no SETTLE and no diagnostic other than COMPLIANCE is live, as both have reached the host die (R29); bit 0 of
the value's flags says that there is one. -/
def State.aiState (s : State) (n : Fin 16) : Bool :=
  let c := s.chan n
  c.an.measFlags.getLsbD 0 && !c.an.measFlags.getLsbD 3 && !((faultMembers c.func).any (fun m => s.reported n m))
    && !(s.pair.standby && (c.func = 11 || c.func = 12))

/-- A change of STATE of an analog input sets its event signals (R133, R228). -/
def State.noteAi (s : State) (n : Fin 16) : State :=
  let st := s.aiState n
  if isAi (s.chan n).func && (s.chan n).hostState ≠ st then
    s.modChan n (fun c => { c with hostState := st, hostRise := c.hostRise || st, hostFall := c.hostFall || !st })
  else s

/-- The channel is not valid for a capture (code 6 of R230), as its Ring's reports, latches and values have told the host die (R29). -/
def State.captureInvalid (s : State) (n : Fin 16) : Bool :=
  let c := s.chan n
  anMembers.any (s.reported n) || s.flt.mirrorSet.getLsbD n.1 || (isAi c.func && c.an.measFlags.getLsbD 3) || (c.func = 7 && !c.cmd.commanded 7)

/-- The refusal code of a capture, 0 if it may be taken (R230, codes 5 to 9). `v` is the 100 ms loop average. -/
def State.captureCode (s : State) (n : Fin 16) (span : Bool) (v : Int) : Nat :=
  let c := s.chan n
  let b := c.an.capBase c.cfg
  if !((c.cfg.func = 7 || c.cfg.func = 10) && !(c.cfg.func = 10 && c.cfg.multidrop)) then 5
  else if s.captureInvalid n then 6
  else if s.fskSending n then 7
  else if (if span then capRefused c.cfg b.zcap.toInt v else capRefused c.cfg v b.scap.toInt) || v < 0 || 24000000 < v then 8
  else if s.recd.jnlFull then 9
  else 0

/-- The capture takes effect: the captured point, and ZS_FUNC (R230). -/
def State.captureValue (s : State) (n : Fin 16) (span : Bool) (v : Int) : State :=
  s.calChanged n (fun a =>
    let b := a.capBase (s.chan n).cfg
    if span then { b with scap := BitVec.ofInt 32 v } else { b with zcap := BitVec.ofInt 32 v })

/-- A capture takes effect and is mirrored with its value (R230, R443, R444). -/
def State.capture (s : State) (origin : Origin) (n : Fin 16) (span : Bool) (v : Int) : State :=
  (s.captureValue n span v).mirrorOut origin (Reg.ch n (if span then .anScap else .anZcap)).addr (BitVec.ofInt 32 v) true none

/-- A capture as a change (R370 code 0x06), with its refusals as a command capture answers them; the code of a refusal
is kept in LAST_REFUSAL (R230, R246). -/
def State.commandCapture (s : State) (origin : Origin) (n : Fin 16) (span : Bool) (v : Int) : State × Reply :=
  let code := s.captureCode n span v
  if code = 0 then
    s.change origin 6 (word (n.1 + b2n span * 256)) (BitVec.ofInt 32 v) (fun t => t.capture origin n span v)
  else
    let s1 := { s with svc := { s.svc with lastRefusal := s.svc.lastRefusal.set n.1 (BitVec.ofNat 4 code) } }
    if code = 9 then (s1.refuseFull, ⟨.journalFull, 0#32, []⟩) else (s1, .refused (b2n span))

/-- CLEAR: ZCAP = ZREF, SCAP = SREF, ZS_FUNC = 0 (R230). -/
def State.zsClear (s : State) (n : Fin 16) : State :=
  s.calChanged n (fun a => { a with zcap := (s.chan n).cfg.zref, scap := (s.chan n).cfg.sref, zsFunc := 0#4 })

/-- A trim write: the field, TRIM_FUNC, and the other field 0 where TRIM_FUNC differed (R233). -/
def State.trimWrite (s : State) (n : Fin 16) (gain : Bool) (v : Word) : State :=
  let func := (s.chan n).cfg.func
  s.calChanged n (fun a =>
    let b := if a.trimFunc.toNat = func then a else { a with trimOfs := 0#32, trimGain := 0#32, trimFunc := BitVec.ofNat 4 func }
    if gain then { b with trimGain := v } else { b with trimOfs := v })

/-- Each capture or trim reaches the calibration region 20 ms to 60 ms after it took effect (R234): the copy then holds every write that
is at least 20 ms old. -/
def execCalibrationPersist (n : Fin 16) (s : State) : Host.Outcome State Fault Refusal :=
  match ((s.chan n).an.persist.filter (fun p => decide (p.1 + 20000 ≤ s.clock))).getLast? with
  | none => ok s
  | some p =>
    ok (s.modChan n (fun c => { c with an := { c.an with
      persist := c.an.persist.filter (fun q => decide (s.clock < q.1 + 20000)), stored := p.2 } })).calibChanged

/-! ## The service port (R231, R232) -/

/-- Arming of a channel ends, recorded as an event (R232). -/
def State.disarm (s : State) (origin : Origin := .internal) : State :=
  if s.svc.en then
    ({ s with svc := { s.svc with en := false, spoiled := s.svc.spoiled || s.svc.zeroAt.isSome || s.svc.spanAt.isSome } }).event
      0x12 4 origin (word s.svc.ch.1) 0#32
  else s

/-- Arming ends when TIMEOUT expires (R232). -/
def execArmTimeout (s : State) : Host.Outcome State Fault Refusal :=
  ok <| whenDo (s.svc.en && decide (s.svc.armEnd ≤ s.clock)) (fun s => s.disarm) s

/-- A result of a button: LAST, and the LED's blinks: one for a capture, three for a refusal (R231). -/
def Svc.result (v : Svc) (code clock : Nat) : Svc :=
  { v with last := BitVec.ofNat 4 code, blinks := if code = 1 ∨ code = 2 then 1 else 3, blinkOn := true, blinkAt := clock }

/-- The host pads answer: VIO is present and the host die runs (R45). -/
def State.vioOk (s : State) : Bool := s.vio && s.phase = .run

/-- A press ends its debounce: timing starts, or a press of the other button during timing ends both with result 4, a refusal that
SVC_CNT counts (R230, R231, R247). -/
def execButtonPress (span : Bool) (s : State) : Host.Outcome State Fault Refusal :=
  let v := s.svc
  let timing := v.zeroAt.isSome || v.spanAt.isSome
  let held : Svc := if span then { v with spanHeld := true } else { v with zeroHeld := true }
  ok <| whenDo (s.vioOk && !(if span then v.spanHeld else v.zeroHeld))
    (fun s =>
      if timing then
        { s with svc := { (({ held with zeroAt := none, spanAt := none, blocked := true, spoiled := false } : Svc).result 4 s.clock) with
                          refused := satInc v.refused } }
      else if v.blocked then { s with svc := held }
      else { s with svc := if span then { held with spanAt := some s.clock, spoiled := false }
                           else { held with zeroAt := some s.clock, spoiled := false } }) s

/-- A release before 3.000 s ends the timing without a result; once both are released a press may time again (R231). -/
def execButtonRelease (span : Bool) (s : State) : Host.Outcome State Fault Refusal :=
  let v := s.svc
  let v1 : Svc := if span then { v with spanHeld := false, spanAt := none } else { v with zeroHeld := false, zeroAt := none }
  ok <| whenDo s.vioOk (fun s => { s with svc := { v1 with blocked := v1.blocked && (v1.zeroHeld || v1.spanHeld) } }) s

/-- The state of the LED's resting level: on while armed, else SVC_LEDCTL.HOST (R231). -/
def Svc.rest (v : Svc) : Bool := v.en || v.ledHost

/-- The LED: its resting state, inverted during a blink (R231). -/
def Svc.led (v : Svc) : Bool := if v.blinks ≠ 0 && v.blinkOn then !v.rest else v.rest

/-- SVC_LED sinks: off in reset and while the host die starts (R57), and high impedance without VIO (R45). -/
def State.led (s : State) : Bool := s.vioOk && s.svc.led

/-- A 200 ms blink interval ends (R231). -/
def execLedBlink (s : State) : Host.Outcome State Fault Refusal :=
  let v := s.svc
  ok <| whenDo (v.blinks ≠ 0 && decide (v.blinkAt + 200000 ≤ s.clock))
    (fun s =>
      if v.blinkOn then { s with svc := { v with blinkOn := false, blinkAt := s.clock, blinks := v.blinks - 1 } }
      else { s with svc := { v with blinkOn := true, blinkAt := s.clock } }) s

end Sys2Proof.Machine
end

