-- ==== Sys2Proof/Machine/FskModem.lean ====
section
/-! DEFINITION. The FSK modem of each Ring (08_analog_loops.md, R236 to R240, R248). -/

namespace Sys2Proof.Machine

/-- `n` character times of 11 bits at 1200 bit/s, in µs rounded down (R236). -/
def charTimes (n : Nat) : Nat := n * 11000000 / 1200

/-- The characters of a message up to and including its END character, in the FIFO's order (R237). -/
def messageChars : List (Bool × Byte) → Nat
  | [] => 0
  | (true, _) :: _ => 1
  | (false, _) :: rest => 1 + messageChars rest

/-- How many characters a message has begun to send by a clock: 2 bit times of mark lead it (R237). -/
def charsBegun (sentAt clock : Nat) : Nat :=
  let us := clock - sentAt
  if us * 1200 < 2000000 then 0 else 1 + (us * 1200 - 2000000) / 11000000

/-- The characters that the transmitter has taken from the FIFO by now leave it; a message takes none after its END character, nor
once the FIFO was empty at the stop bit of a character, which is an underrun (R237). -/
def Fsk.drain (k : Fsk) (clock : Nat) : Fsk :=
  if k.state = .sending && !k.ended && !k.ranDry then
    let due := charsBegun k.sentAt clock - k.sent
    let take := min due (messageChars k.tx)
    let ended := (k.tx.take take).any (·.1)
    { k with tx := k.tx.drop take, sent := k.sent + take, ended := ended, ranDry := !ended && decide (take < due) }
  else k

/-- The carrier has been absent for TX_QUIET character times (R237). -/
def Fsk.quietOver (k : Fsk) (clock : Nat) : Bool := !k.cd && decide (k.quietFrom + charTimes k.txQuiet.toNat ≤ clock)

/-- A transmitting modem aborts (R240, R468). -/
def State.abortFsk (s : State) (x : RingId) : State :=
  if (s.ring x).fsk.state = .idle then s else s.modRing x (fun r => { r with fsk := r.fsk.abort s.clock })

/-- The modem takes RINGx_FSK_CFG and the channel that it serves (R236, R248). -/
def Fsk.take (k : Fsk) (w : Word) (ch : BitVec 5) : Fsk :=
  { k with rt := BitVec.ofNat 8 (fld w 24 8), txQuiet := BitVec.ofNat 6 (fld w 8 6), en := bit w 5, ch := ch }

/-- The characters that have been written and not been taken by the transmitter: those in the FIFO, and those under way to it. -/
def State.fskLevel (s : State) (x : RingId) : Nat :=
  ((s.ring x).fsk.drain s.clock).tx.length + ((s.ring x).cmdq.filter (fun c => match c.1 with
    | .fskTx _ _ => true
    | _ => false)).length

/-- A character is queued, and a message starts where the modem is idle (R237). -/
def State.fskQueue (s : State) (x : RingId) (e : Bool) (d : Byte) : State :=
  let k := (s.ring x).fsk.drain s.clock
  (s.modRing x (fun r => { r with fsk := { k with tx := k.tx ++ [(e, d)] } })).fskStart x

/-- RINGx_FSK_CFG and the served channel reach the Ring: a message of another channel is aborted (R240), and characters that wait for
EN start their message (R237). Clearing EN lets a message that waits or is being sent go on (DESIGN CHOICE, log entry 132). -/
def State.takeFskCfg (s : State) (x : RingId) (w : Word) (ch : BitVec 5) : State :=
  let s1 := if (s.ring x).fsk.ch = ch then s else s.abortFsk x
  (s1.modRing x (fun r => { r with fsk := r.fsk.take w ch })).fskStart x

/-- The quiet time ends and the modem turns its carrier on (R237). -/
def execFskQuietEnd (x : RingId) (s : State) : Host.Outcome State Fault Refusal :=
  let k := (s.ring x).fsk
  ok <| whenDo (k.state = .waiting && k.tx ≠ [] && k.quietOver s.clock && (s.ring x).logic && !s.fskLatched x)
    (fun s => s.modRing x (fun r => { r with fsk := { k with
      state := .sending, sentAt := s.clock, sent := 0, ended := false, ranDry := false } })) s

/-- A message ends after the stop bit of its END character, or of its last character in an underrun, and one bit of
mark: the carrier goes off, TX_DONE or TX_UNDERRUN is set, and after END the response timer starts (R237, R239). -/
def execFskTxEnd (x : RingId) (s : State) : Host.Outcome State Fault Refusal :=
  let k := (s.ring x).fsk.drain s.clock
  let past := decide (2000000 + k.sent * 11000000 + 1000000 ≤ (s.clock - k.sentAt) * 1200)
  ok <| whenDo (k.state = .sending && 0 < k.sent && (k.ended || k.ranDry) && past)
    (fun s => s.modRing x (fun r => { r with fsk := { k with
      state := if k.tx = [] then .idle else .waiting, ranDry := false
      quietFrom := s.clock
      respFrom := if k.ended then some s.clock else k.respFrom
      evt := k.evt ||| (if k.ended then 0x01#7 else 0x20#7) } })) s

/-- The modem's channel can receive: its Ring runs, it is not sending, and no latch with safe state OFF makes its
front-end high impedance (R237, R240). -/
def State.fskReceives (s : State) (x : RingId) : Bool :=
  let k := (s.ring x).fsk
  (s.ring x).logic && (s.ring x).vfOk && k.en && k.state ≠ .sending
    && !allCh.any (fun n => (s.ring x).fskOn n && (s.chan n).latch && safePad (s.chan n).rng.func (s.chan n).rsafe.toNat = .off)

/-- Carrier detect asserts: RX_START, the next character is the first, and a response timer stops (R238, R239). -/
def execCarrierDetect (x : RingId) (s : State) : Host.Outcome State Fault Refusal :=
  ok <| whenDo (s.fskReceives x && !(s.ring x).fsk.cd)
    (fun s => s.modRing x (fun r => { r with fsk := { r.fsk with
      cd := true, som := true, respFrom := none, evt := r.fsk.evt ||| 0x02#7 } })) s

/-- Carrier detect releases, and the quiet time counts from here (R237, R238). -/
def execCarrierRelease (x : RingId) (s : State) : Host.Outcome State Fault Refusal :=
  ok <| whenDo (s.ring x).fsk.cd
    (fun s => s.modRing x (fun r => { r with fsk := { r.fsk with cd := false, quietFrom := s.clock } })) s

/-- The word of a received character (R238, R248): VALID, GAP, SOM, FRAMING, PARITY and DATA. -/
def fskWord (gap som framing parity : Bool) (d : Byte) : Word :=
  word (32768 + b2n gap * 2048 + b2n som * 1024 + b2n framing * 512 + b2n parity * 256 + d.toNat)

/-- A received character is stamped with the tick of its stop-bit centre and starts across the link (R16, R238). GAP: its start bit,
10 bit times before its stop-bit centre, follows the previous stop bit by more than a character; a first one without a stop bit before
it has it too (log entry 111). -/
def execFskCharReceived (x : RingId) (d : Byte) (parity framing : Bool) (s : State) :
    Host.Outcome State Fault Refusal :=
  let k := (s.ring x).fsk
  let gap := decide (k.lastStop + charTimes 2 < s.clock)
  let w := fskWord gap k.som framing parity d
  ok <| whenDo (s.fskReceives x && k.cd)
    (fun s =>
      (s.modRing x (fun r => { r with fsk := { r.fsk with som := false, lastStop := s.clock } })).sendUp x (.fsk w s.tick)) s

/-- A received character reaches the host die (R238): counted, placed in the RX FIFO or lost with RX_OVF, and entered in the wheels. -/
def State.takeFsk (s : State) (x : RingId) (w : Word) (tick : Nat) : State :=
  let k := (s.ring x).fsk
  let bad := bit w 8 || bit w 9
  let s1 := s.modRing x (fun r => { r with fsk := { r.fsk with
    rx := if k.rx.length < 64 then k.rx ++ [w] else k.rx
    chars := satInc k.chars
    errors := if bad then satInc k.errors else k.errors
    evt := k.evt ||| (if k.rx.length < 64 then 0#7 else 0x10#7) ||| (if bad then 0x08#7 else 0#7) } })
  forEach (allCh.filter (fun n => (s.ring x).fskch.toNat = n.1)) (fun n t => t.toWheels n 4 0 tick (w &&& 0xFFF#32)) s1

/-- No carrier within RT character times after a message: RESP_TIMEOUT (R239). -/
def execRespTimeout (x : RingId) (s : State) : Host.Outcome State Fault Refusal :=
  match (s.ring x).fsk.respFrom with
  | none => ok s
  | some t =>
    ok <| whenDo (decide (t + charTimes (s.ring x).fsk.rt.toNat ≤ s.clock))
      (fun s => s.modRing x (fun r => { r with fsk := { r.fsk with respFrom := none, evt := r.fsk.evt ||| 0x04#7 } })) s

end Sys2Proof.Machine
end

