-- ==== Sys2Proof/Machine/Rounds.lean ====
section
/-! DEFINITION. The round of a Ring and its placement (R271 to R273), and the arithmetic of a filter chain: stages,
settling count, group delay and load (R291 to R296, R307). -/

namespace Sys2Proof.Machine

/-! ## Round entries (R272, R288) -/

/-- Fields of ADCx_ENTRYi. -/
def entCh (w : Word) : Nat := fld w 0 8
def entKind (w : Word) : Nat := fld w 8 2
def entRate (w : Word) : Nat := fld w 16 3

/-- ADCx_ENTRYi from its fields. -/
def mkEntryWord (ch kind rate : Nat) : Word := word (ch % 256 + kind % 4 * 256 + rate % 8 * 65536)

/-- The default entry: NONE (R274). -/
def noneEntry : Word := 0x00010300#32
/-- The Ring-monitor entry (R274). -/
def monEntry : Word := 0x00010280#32

/-- The default round: entry 63 is MON, every other entry NONE (R274). -/
def defaultRound : Vector Word 64 := (Vector.replicate 64 noneEntry).set 63 monEntry

/-- Q in µs for a base-rate code (R271). -/
def rateQ (r : Nat) : Nat := 2 ^ (r + 1)

/-- Slots in a frame of 64 µs for a base-rate code (R271). -/
def rateSlots (r : Nat) : Nat := 64 / rateQ r

/-- The entry names a channel: kinds CONV and CONV_RAW (R272). -/
def isConv (w : Word) : Bool := entKind w = 0 || entKind w = 1

/-! ## Placement (R273) -/

/-- Slot (o, p) of the frame as a bit. -/
def slotBit (o p : Nat) : BitVec 256 := 1#256 <<< (4 * o + p)

/-- The slots of an entry of period `q` at first offset `o` and position `p`. -/
def slotMask (q o p : Nat) : BitVec 256 :=
  (List.range (64 / q)).foldl (fun m k => m ||| slotBit (o + k * q) p) 0#256

/-- The search of R273 among the slots left free, over the positions in service. -/
def findSlots (q : Nat) (used : BitVec 256) (inService : Fin 4 → Bool) : Option (Fin 4 × Fin 64) :=
  (((List.finRange 64).filter (fun o => decide (o.1 < q))).flatMap (fun o => (List.finRange 4).map (fun p => (p, o)))).find?
    (fun po => inService po.1 && (slotMask q po.2.1 po.1.1 &&& used = 0#256))

/-- The slots of a placed entry. -/
def placedMask (w : Word) (p : Option (Fin 4 × Fin 64)) : BitVec 256 :=
  match p with
  | none => 0#256
  | some (pos, o) => slotMask (rateQ (entRate w)) o.1 pos.1

/-- The order of placement: the MON entry, then by base-rate code, then by entry number. -/
def placeOrder (es : Vector Word 64) : List (Fin 64) :=
  let all := List.finRange 64
  all.filter (fun i => entKind es[i.1] = 2) ++
    ((List.range 6).flatMap (fun r => all.filter (fun i => isConv es[i.1] && entRate es[i.1] = r)))

/-- The placement of a whole round (R273); entries that do not fit have none (R282). -/
def placeRound (es : Vector Word 64) (inService : Fin 4 → Bool) : Vector (Option (Fin 4 × Fin 64)) 64 :=
  ((placeOrder es).foldl
    (fun (acc : BitVec 256 × Vector (Option (Fin 4 × Fin 64)) 64) i =>
      match findSlots (rateQ (entRate es[i.1])) acc.1 inService with
      | none => acc
      | some po => (acc.1 ||| placedMask es[i.1] (some po), acc.2.set i.1 (some po)))
    (0#256, Vector.replicate 64 none)).2

/-- The slots taken by every entry but one. -/
def usedMask (es : Vector Word 64) (place : Vector (Option (Fin 4 × Fin 64)) 64) (but : Fin 64) : BitVec 256 :=
  (List.finRange 64).foldl (fun m i => if i = but then m else m ||| placedMask es[i.1] place[i.1]) 0#256

/-- Slots taken in a frame: ADCx_LOAD.USED (R288). -/
def usedSlots (es : Vector Word 64) (place : Vector (Option (Fin 4 × Fin 64)) 64) : Nat :=
  (List.finRange 64).foldl (fun n i => if place[i.1].isSome then n + rateSlots (entRate es[i.1]) else n) 0

/-- Hold offset within the frame in ns (R273). -/
def holdNs (po : Fin 4 × Fin 64) : Nat := po.2.1 * 1000 + 250 * (po.1.1 + 1)

/-- The entry of a channel: the first of kind CONV or CONV_RAW that names it. -/
def entryOf (es : Vector Word 64) (n : Nat) : Option (Fin 64) :=
  (List.finRange 64).find? (fun i => isConv es[i.1] && entCh es[i.1] = n)

/-- Entries of kind CONV_RAW in a round (R283). -/
def rawCount (es : Vector Word 64) : Nat := (es.toList.filter (fun w => entKind w = 1)).length

/-! ## Filter chains -/

/-- Taps of the stages 1 to k - 2, of stage k - 1 and of stage k (R291, R293). -/
def profileTaps (p : Nat) : Nat × Nat × Nat :=
  match p with
  | 0 => (7, 7, 7)
  | 1 => (7, 7, 31)
  | 3 => (19, 43, 59)
  | 4 => (31, 31, 31)
  | 5 => (7, 7, 11)
  | _ => (11, 31, 43)

/-- The taps of each stage, first stage first (R293). -/
def chainTaps (p k : Nat) : List Nat :=
  let (a, b, c) := profileTaps p
  match k with
  | 0 => []
  | 1 => [c]
  | k + 2 => List.replicate k a ++ [b, c]

/-- FP6 and FP7 have a notch (R293); it runs at 976.5625 S/s or 488.28125 S/s (R292, R294). -/
def notchTaps (p k r : Nat) : Nat :=
  if p < 6 then 0
  else if k + r = 9 then (if p = 6 then 41 else 117)
  else if k + r = 10 then (if p = 6 then 21 else 59)
  else 0

/-- The rate of a notch profile is allowed (R294). -/
def notchAllowed (p k r : Nat) : Bool := p < 6 || k + r = 9 || k + r = 10

/-- A sum over the stages i = 1 to k of `f N_i` times 2^(i-1). -/
def stageSum (f : Nat → Nat) : Nat → List Nat → Nat
  | _, [] => 0
  | w, n :: ns => f n * w + stageSum f (2 * w) ns

/-- N_settle (R296). -/
def nSettle (p k r : Nat) : Nat :=
  (stageSum (fun n => n - 1) 1 (chainTaps p k) + 2 ^ k - 1) / 2 ^ k + 1 + notchTaps p k r

/-- T_out in ns (R289). -/
def outNs (k r : Nat) : Nat := 2 ^ k * rateQ r * 1000

/-- Group delay in ns (R295). -/
def delayNs (p k r : Nat) : Nat :=
  stageSum (fun n => (n - 1) / 2) 1 (chainTaps p k) * rateQ r * 1000 + (notchTaps p k r - 1) / 2 * outNs k r

/-- Load times 2^k in coefficient operations per second: the stages' terms (R307). -/
def loadStages (fb : Nat) : Nat → List Nat → Nat
  | _, [] => 0
  | w, n :: ns => (n + 3) / 2 * fb * (w / 2) + loadStages fb (w / 2) ns

/-- The chain's share in units of 10 000 operations per second (R307). -/
def chainShare (p k r : Nat) : Nat :=
  let fb := 500000 / 2 ^ r
  let load := 2 * fb * 2 ^ k + loadStages fb (2 ^ k) (chainTaps p k) + (notchTaps p k r + 2) * fb
  (load + 10000 * 2 ^ k - 1) / (10000 * 2 ^ k)

end Sys2Proof.Machine
end

