-- ==== Sys2Proof/Machine/Image.lean ====
section
/-! DEFINITION. The Ulcel image: its header and sections as bytes (R97 to R104), the expanded image, and the registers
that each record gives (the Image columns of the register maps). -/

namespace Sys2Proof.Machine

/-! ## Little-endian fields (R3) -/

def u8 (b : List Byte) (i : Nat) : Nat := (b.getD i 0#8).toNat
def u16 (b : List Byte) (i : Nat) : Nat := leNat ((b.drop i).take 2)
def u32 (b : List Byte) (i : Nat) : Nat := leNat ((b.drop i).take 4)
def i32 (b : List Byte) (i : Nat) : Int := (BitVec.ofNat 32 (u32 b i)).toInt

/-- `n` bytes from an offset. -/
def slice (b : List Byte) (o n : Nat) : List Byte := (b.drop o).take n

/-- The first `n` records of a size. -/
def recordsOf (size : Nat) : Nat → List Byte → List (List Byte)
  | 0, _ => []
  | n + 1, b => b.take size :: recordsOf size n (b.drop size)

/-! ## The section table (R99, R100) -/

/-- One entry of the section table, with its own byte offset. -/
structure Sect where
  id : Nat
  sver : Nat
  off : Nat
  len : Nat
  at_ : Nat
  deriving DecidableEq, Repr

def sectTable (b : List Byte) : List Sect :=
  (List.range (u16 b 16)).map (fun i =>
    let o := u32 b 20 + 12 * i
    ⟨u16 b o, u16 b (o + 2), u32 b (o + 4), u32 b (o + 8), o⟩)

/-- Record size of the sections of one record size (R100). -/
def sectSize (id : Nat) : Option Nat :=
  match id with
  | 1 => some 32
  | 2 => some 16
  | 4 => some 16
  | 6 => some 8
  | 7 => some 4
  | 8 => some 4
  | 9 => some 16
  | 10 => some 16
  | 11 => some 16
  | 12 => some 8
  | _ => none

/-- The section of an ID: the one that holds bytes, else an empty one (R99). -/
def findSect (b : List Byte) (id : Nat) : Option Sect :=
  ((sectTable b).find? (fun t => t.id = id && t.len ≠ 0)).or ((sectTable b).find? (fun t => t.id = id))

/-- The records of a section of one record size; none where it is absent. -/
def sectRecords (b : List Byte) (id : Nat) : List (List Byte) :=
  match findSect b id, sectSize id with
  | some t, some n => recordsOf n (t.len / n) (b.drop t.off)
  | _, _ => []

/-! ## ADCSEQ and FABRIC (R100, R151, R287) -/

/-- The blocks of an ADCSEQ section: one per Ring, and one more where the section goes on, which check 7 refuses by its offset (R504). -/
def adcBlocks : Nat → List Byte → List AdcBlock
  | 0, _ => []
  | _, [] => []
  | fuel + 1, b =>
    let n := u8 b 1
    { ring := u8 b 0, refSel := u8 b 2, extWait := u8 b 3, extMv := u16 b 4, rotPeriod := u8 b 6
      entries := (List.range n).map (fun i => (u8 b (8 + 4 * i), u8 b (9 + 4 * i), u8 b (10 + 4 * i))) }
      :: adcBlocks fuel (b.drop (8 + 4 * n))

/-- The parts of a FABRIC section (R100, R151). -/
def fabImage (b : List Byte) : FabImage :=
  let acts := u16 b 2
  let at_ := b.drop (u32 b 8)
  let tm := at_.drop (12 * acts)
  let ct := tm.drop (4 * u8 b 4)
  let cm := ct.drop (12 * u8 b 5)
  let bt := b.drop (u32 b 12)
  { stepN := u16 b 0
    acts := recordsOf 12 acts at_
    timers := recordsOf 4 (u8 b 4) tm
    counters := recordsOf 12 (u8 b 5) ct
    comparators := recordsOf 12 (u8 b 6) cm
    bindings := (List.range (u16 bt 0)).map (fun i => (u16 bt (4 + 4 * i), u16 bt (6 + 4 * i))) }

/-- The claim records (R108). -/
def claimRecords (b : List Byte) : List (List Byte) := recordsOf 8 (u16 b 28) (b.drop (u32 b 24))

/-- The image that a slot holds, expanded (R120 step 2). -/
def parseImage (b : List Byte) : Image :=
  { crc := word (u32 b 60), length := word (u32 b 12), version := word (u32 b 8)
    fallbackOk := u16 b 18 % 2 = 1
    chan := sectRecords b 1, ring := sectRecords b 2
    adcseq := (match findSect b 3 with
      | some t => adcBlocks 3 (slice b t.off t.len)
      | none => [])
    filt := sectRecords b 4
    fabric := (findSect b 5).bind (fun t => if t.len = 0 then none else some (fabImage (slice b t.off t.len)))
    wheel := sectRecords b 6, fault := sectRecords b 7, safe := sectRecords b 8
    replay := (sectRecords b 9).head?, pair := (sectRecords b 10).head?, bg := (sectRecords b 11).head?
    wake := (sectRecords b 12).head?
    claims := (claimRecords b).map (fun r => (word (u32 r 0), u16 r 4)) }

/-- The bytes of the image in a slot, up to its LENGTH (R97). -/
def State.slotBytes (s : State) (n : Bool) : List Byte :=
  let head := Memory.range s.cells (slotBase n) 64
  let len := u32 head 12
  if 64 ≤ len ∧ len ≤ 131072 then Memory.range s.cells (slotBase n) len else head

/-! ## CHAN records as registers (R101, R157, R184, R213, R245, R267) -/

/-- The record of a channel. -/
def Image.chanRec (i : Image) (n : Nat) : Option (List Byte) := i.chan.find? (fun r => u8 r 0 = n)

/-- FUNC of a channel's record; OFF without one (R101). -/
def Image.func (i : Image) (n : Nat) : Nat :=
  match i.chanRec n with
  | some r => u8 r 1
  | none => 0

/-- CHn_MODE from a record (R185): PARTNER 0xFF reads as 31. -/
def recMode (r : List Byte) : Word :=
  word (u8 r 1 % 16 + (if u8 r 4 = 255 then 31 else u8 r 4 % 32) * 256 + u8 r 2 * 65536 + u8 r 3 % 16 * 16777216)

/-- The input registers from a record of an input function (R184). -/
def recInput (r : List Byte) (c : ChanCfg) : ChanCfg :=
  let o := u8 r 15
  { c with
    diCfg := word (u8 r 8 % 4 + u8 r 9 % 32 * 256 + o % 2 * 65536 + o / 2 % 2 * 131072
      + o / 4 % 2 * 262144 + u8 r 14 % 64 * 16777216)
    diTime := word (u16 r 10 + u16 r 12 * 65536)
    diVth := word (u16 r 20 % 1024 + u16 r 22 % 1024 * 65536)
    diChat := word (u8 r 16 + u8 r 17 * 256)
    diCntcfg := word (u8 r 18 + u8 r 19 * 256) }

/-- The output registers from a record of a DO function (R213). -/
def recOutput (r : List Byte) (c : ChanCfg) : ChanCfg :=
  let o := u8 r 11
  { c with
    doCfg := word (u8 r 8 + u8 r 9 % 16 * 256 + u8 r 10 % 4 * 4096 + o % 2 * 16384 + o / 2 % 2 * 32768
      + u8 r 12 * 65536 + u8 r 13 % 128 * 16777216 + o / 4 % 2 * 2147483648)
    doPwm := word (u32 r 16 % 131072)
    doDuty := word (u16 r 20 + u16 r 22 * 65536) }

/-- The analog registers from a record of an analog function (R245). -/
def recAnalog (r : List Byte) (c : ChanCfg) : ChanCfg :=
  let o := u8 r 9
  { c with
    anCfg := word (u8 r 8 % 4 + o % 2 * 4 + o / 2 % 2 * 8 + o / 4 % 2 * 16 + o / 8 % 2 * 32 + u8 r 10 * 256 + u8 r 11 % 16 * 65536
      + u16 r 16 % 512 * 1048576 + o / 16 % 2 * 2147483648)
    zref := word (u32 r 20)
    sref := word (u32 r 24) }

/-- The touch registers from a record (R267). -/
def recTouch (r : List Byte) (c : ChanCfg) : ChanCfg :=
  { c with
    tchTh := word (u16 r 8 + u16 r 10 * 65536)
    tchCfg := word (u8 r 16 % 2 + u8 r 13 % 16 * 4096 + u8 r 12 % 16 * 65536 + u8 r 14 % 16 * 1048576 + u8 r 15 * 16777216) }

/-- The plug registers from a record (R267). -/
def recPlug (r : List Byte) (c : ChanCfg) : ChanCfg :=
  { c with
    plgCfg := word (u8 r 8 * 256 + u8 r 11 % 2 * 524288 + u8 r 9 % 16 * 1048576 + u8 r 10 * 16777216)
    plgWin := word (u16 r 12 + u16 r 14 * 65536) }

/-- The configuration registers of a channel as an image gives them; those of another group, for which the record has no bytes, take
Reset (R7; log entry 15). -/
def Image.chanCfg (i : Image) (n : Nat) : ChanCfg :=
  match i.chanRec n with
  | none => ChanCfg.reset
  | some r =>
    let c := { ChanCfg.reset with mode := recMode r }
    let f := u8 r 1
    if isDi f then recInput r c
    else if isDo f then recOutput r c
    else if isAn f then recAnalog r c
    else if f = 13 then recTouch r c
    else if f = 14 then recPlug r c
    else c

/-- The setpoints of a channel as an image gives them (R213, R245). DRIVE and ALT are bound by the fabric's table. -/
def Image.chanCmd (i : Image) (n : Nat) : ChanCmd :=
  match i.chanRec n with
  | none => ChanCmd.reset
  | some r =>
    if isDo (u8 r 1) then { ChanCmd.reset with doCmd := word (u8 r 24 % 4) }
    else if isAo (u8 r 1) then { ChanCmd.reset with anCmd := word (u8 r 18 % 2), anSet := word (u32 r 12) }
    else ChanCmd.reset

/-- SAFE of a channel (R104). -/
def Image.safeCode (i : Image) (n : Nat) : BitVec 3 :=
  match i.safe.find? (fun r => u8 r 0 = n) with
  | some r => BitVec.ofNat 3 (u8 r 1)
  | none => 0#3

/-! ## RING records (R102, R214, R216) -/

def Image.ringRec (i : Image) (x : Nat) : List Byte := (i.ring.find? (fun r => u8 r 0 = x)).getD []

def Image.powered (i : Image) (x : Nat) : Bool := u8 (i.ringRec x) 1 % 2 = 1

def Image.pwrcfg (i : Image) (x : Nat) : Word :=
  let r := i.ringRec x
  word (u8 r 6 % 8 + u8 r 7 % 32 * 8 + u8 r 8 * 256 + u8 r 9 * 65536 + u8 r 6 / 8 % 2 * 16777216)

def Image.loadcfg (i : Image) (x : Nat) : Word :=
  let r := i.ringRec x
  word (u16 r 2 % 512 + u8 r 10 % 64 * 512 + u8 r 1 / 2 % 2 * 32768 + u8 r 11 * 65536 + u8 r 12 * 16777216)

/-- LINK_TIMEOUT in µs (R102). -/
def Image.linkTimeout (i : Image) (x : Nat) : Nat := u16 (i.ringRec x) 4 * 10

/-! ## Rounds (R274, R287) -/

def Image.adcBlock (i : Image) (x : Nat) : Option AdcBlock := i.adcseq.find? (fun b => b.ring = x)

/-- The round of a Ring: the entries of its block, NONE beyond them; the default round without a block. -/
def Image.round (i : Image) (x : Nat) : Vector Word 64 :=
  match i.adcBlock x with
  | none => defaultRound
  | some b =>
    Vector.ofFn (fun (k : Fin 64) =>
      match b.entries[k.1]? with
      | some (ch, kind, rate) => mkEntryWord ch kind rate
      | none => noneEntry)

def Image.refcfg (i : Image) (x : Nat) : Word :=
  match i.adcBlock x with
  | none => 0x09C40A00#32
  | some b => word (b.refSel % 4 + b.extWait * 256 + b.extMv % 4096 * 65536)

def Image.rotPeriod (i : Image) (x : Nat) : Byte :=
  match i.adcBlock x with
  | none => 10
  | some b => BitVec.ofNat 8 b.rotPeriod

/-! ## FILT records (R313, R314) -/

def Image.filtRec (i : Image) (n : Nat) : Option (List Byte) := i.filt.find? (fun r => u8 r 0 = n)

/-- FILT_CHn_CFG from a record: EN, the enables, K and PROFILE. -/
def filtCfgOf (r : List Byte) : Word :=
  word (u8 r 1 % 8 + u8 r 2 % 16 * 256 + u8 r 3 / 2 % 2 * 65536 + u8 r 3 / 4 % 2 * 131072 + 2147483648)

/-- ALIGN of a Ring: that of its records, SKEW without one (R313). -/
def Image.align (i : Image) (x : Nat) : Bool := i.filt.any (fun r => u8 r 0 / 8 = x && u8 r 3 % 2 = 1)

end Sys2Proof.Machine
end

