-- ==== Sys2Proof/Machine/Verify.lean ====
section
/-! DEFINITION. Verification of an image: the twelve checks of R116 with the rules each section's chapter gives, the
order of R504, and where a failure lies (R117). -/

namespace Sys2Proof.Machine

/-- The outcome of a verification: the code of R119, and what R117 records. A part that the failure does not name is
none, and its register keeps its value (log entry 16). -/
structure Verdict where
  code : Nat
  errloc : Option Word
  claimErr : Option (Word × Word × Word)
  deriving DecidableEq, Repr

def Verdict.pass : Verdict := ⟨0, none, none⟩
def Verdict.plain (code : Nat) : Verdict := ⟨code, none, none⟩

/-- IMG_ERRLOC: section and offset (R129). -/
def errlocWord (sect off : Nat) : Word := word (off % 131072 + sect % 256 * 16777216)

def Verdict.at_ (code sect off : Nat) : Verdict := ⟨code, some (errlocWord sect off), none⟩

/-! ## Checks 1 to 6 -/

/-- The image CRC over bytes 0 to 59 and 64 to LENGTH - 1 (R97, R98). -/
def imageCrc (b : List Byte) (len : Nat) : Word := crc32 (b.take 60 ++ (b.take len).drop 64)

/-- Checks 1 to 4 (R116). `written` is the session's mask where the slot is a session's. Reserved bytes of the header and FLAGS[15:1] take
any value (DESIGN CHOICE: R97 calls them 0 and no check of R116 names them; log entry 101). -/
def checkHeader (b : List Byte) (written : Option (BitVec 32768)) : Nat :=
  let len := u32 b 12
  if u32 b 0 ≠ 0x4C434C55 then 0x10
  else if u16 b 4 ≠ 1 ∧ u16 b 4 ≠ 2 then 0x11
  else if u16 b 6 ≠ 0x1624 then 0x12
  else if len % 4 ≠ 0 ∨ len < 256 ∨ 131072 < len then 0x13
  else match written with
    | none => 0
    | some m => if (List.range (len / 4)).all (fun i => m.getLsbD i) then 0 else 0x13

/-- Two byte ranges share no byte (R99). -/
def apart (o1 l1 o2 l2 : Nat) : Bool := l1 = 0 || l2 = 0 || o1 + l1 ≤ o2 || o2 + l2 ≤ o1

/-- Bytes `lo` to `lo + n - 1` of a record are 0. -/
def zeros (r : List Byte) (lo n : Nat) : Bool := (slice r lo n).all (· = 0#8)

/-- An entry of the section table obeys R99 and R100 on its own and against the entries before it. Of R99 only the rule of OFFSET
applies to an empty section; a format 1 image holds no REPLAY, BG or WAKE section, empty or not (R100). -/
def sectOk (b : List Byte) (before : List Sect) (t : Sect) : Bool :=
  let len := u32 b 12
  t.off % 4 = 0 && !(u16 b 4 = 1 && (t.id = 9 || t.id = 11 || t.id = 12)) && (t.len = 0 ||
    (decide (1 ≤ t.id ∧ t.id ≤ 12) && t.sver = 1
      && t.len % (sectSize t.id).getD 4 = 0
      && before.all (fun u => u.len = 0 || (u.id ≠ t.id && apart u.off u.len t.off t.len))
      && decide (t.off + t.len ≤ len) && apart 0 64 t.off t.len
      && apart (u32 b 20) (12 * u16 b 16) t.off t.len && apart (u32 b 24) (8 * u16 b 28) t.off t.len))

/-- The entries of the table that fail, each judged against those before it. -/
def sectBad (b : List Byte) : List Sect → List Sect → Option Sect
  | _, [] => none
  | before, t :: ts => if sectOk b before t then sectBad b (before ++ [t]) ts else some t

/-- The counts of R97 and the place of the two tables (R99; log entry 16). -/
def headerFieldBad (b : List Byte) : Option Nat :=
  let len := u32 b 12
  let n := u16 b 16
  if n < 1 ∨ 12 < n then some 16
  else if len < u32 b 20 + 12 * n ∨ !apart 0 64 (u32 b 20) (12 * n) then some 20
  else if 1024 < u16 b 28 then some 28
  else if u16 b 28 ≠ 0 ∧ (len < u32 b 24 + 8 * u16 b 28 ∨ !apart 0 64 (u32 b 24) (8 * u16 b 28)
      ∨ !apart (u32 b 20) (12 * n) (u32 b 24) (8 * u16 b 28)) then some 24
  else none

/-- Check 6 (R99, R100). A missing required section reports its ID with the offset of the section table. -/
def checkTable (b : List Byte) : Verdict :=
  match headerFieldBad b with
  | some o => .at_ 0x15 0 o
  | none =>
    match sectBad b [] (sectTable b) with
    | some t => .at_ 0x15 t.id t.at_
    | none =>
      match [1, 2, 8].find? (fun id => (findSect b id).isNone) with
      | some id => .at_ 0x15 id (u32 b 20)
      | none => .pass

/-! ## Check 7: records (R101 to R104 and the chapters' parameter tables) -/

/-- A failure of check 7: section, offset of the record, or of the section for a rule that no single record breaks. -/
structure Bad where
  sect : Nat
  off : Nat
  whole : Bool
  deriving DecidableEq, Repr

/-- The records of a section with their byte offsets in the image. -/
def placedRecords (b : List Byte) (id : Nat) : List (Nat × List Byte) :=
  match findSect b id, sectSize id with
  | some t, some n => (recordsOf n (t.len / n) (b.drop t.off)).zipIdx.map (fun p => (t.off + n * p.2, p.1))
  | _, _ => []

/-- Every record judged against the records before it. -/
def judge (id : Nat) (ok : List (List Byte) → List Byte → Bool) : List (List Byte) → List (Nat × List Byte) → List Bad
  | _, [] => []
  | before, (o, r) :: rest => (if ok before r then [] else [⟨id, o, false⟩]) ++ judge id ok (before ++ [r]) rest

def within (lo v hi : Nat) : Bool := decide (lo ≤ v) && decide (v ≤ hi)

/-- The value lies in its range where `c` holds, and is 0 otherwise. -/
def rangeIf (c : Bool) (lo v hi : Nat) : Bool := if c then within lo v hi else v = 0

/-- Shortest PERIOD of each SLEW in µs (R189). -/
def slewMin (slew : Nat) : Nat := if slew = 0 then 40 else if slew = 1 then 250 else 1000

/-- R184. -/
def inputRecOk (r : List Byte) : Bool :=
  let f := u8 r 1
  let train := f = 2
  let cnt := f = 3
  let wet := u8 r 2 / 4 % 2 = 1
  (if train then u8 r 8 = 0 && u8 r 9 = 0 && u8 r 15 / 2 % 2 = 0 else within 0 (u8 r 8) 3 && within 1 (u8 r 9) 30)
    && within 0 (u16 r 10) 10000 && within 10 (u16 r 12) 500 && rangeIf wet 10 (u8 r 14) 50 && u8 r 15 < 8
    && within 1 (u8 r 16) 255 && within 1 (u8 r 17) 255
    && (if cnt then within 0 (u8 r 18 % 8) 4 && within 1 (u8 r 18 / 16) 3 && u8 r 18 / 8 % 2 = 0 else u8 r 18 = 0)
    && rangeIf cnt 1 (u8 r 19) 255
    && (if u8 r 8 = 3 then within 30 (u16 r 20) 300 && within 20 (u16 r 22 + 10) (u16 r 20) && within 20 (u16 r 22) 300
        else u16 r 20 = 0 && u16 r 22 = 0)
    && zeros r 24 8

/-- R213. -/
def outputRecOk (r : List Byte) : Bool :=
  let f := u8 r 1
  let pwm := f = 6
  within 25 (u8 r 8) (if f = 5 then 100 else 250) && within 0 (u8 r 9) 10 && within 0 (u8 r 10) 2
    && u8 r 11 < 8 && !(u8 r 11 % 2 = 1 && pwm) && !(u8 r 11 / 2 % 2 = 1 && f = 5)
    && rangeIf (u8 r 11 % 2 = 1) 5 (u8 r 12) 100 && within 1 (u8 r 13) 127 && zeros r 14 2
    && rangeIf pwm (slewMin (u8 r 10)) (u32 r 16) 100000
    && u8 r 24 < (if pwm then 4 else 2) && zeros r 25 7

/-- A claim code (R105). -/
def claimCode (kind ring index hclass hindex : Nat) : Word :=
  word (kind * 134217728 + ring * 67108864 + index * 65536 + hclass * 256 + hindex)

/-- R245 with R219 and R221: bipolar AO_V needs T2 enabled, and claimed by the Ring's tap supply. -/
def analogRecOk (i : Image) (r : List Byte) : Bool :=
  let f := u8 r 1
  let o := u8 r 9
  let zs := f = 7 || f = 10
  let fskOk := f = 7 || f = 10 || f = 11
  let set := i32 r 12
  let bip := f = 8 && u8 r 8 = 1
  within 0 (u8 r 8) (if f = 8 then 1 else if f = 9 then 3 else if f = 12 then 1 else 0)
    && o < 32 && (o % 2 = 0 || fskOk) && (o / 2 % 2 = 0 || within 8 f 11) && (o / 4 % 2 = 0 || f = 10 || f = 11)
    && (o / 8 % 2 = 0 || fskOk) && (o / 16 % 2 = 0 || f = 7 || f = 8 || f = 11) && !(o % 2 = 1 && o / 4 % 2 = 1)
    && rangeIf (o % 2 = 1) 1 (u8 r 10) 255 && rangeIf (f = 12) 1 (u8 r 11) 10
    && (if f = 7 then decide (0 ≤ set ∧ set ≤ 24000000)
        else if f = 8 then decide ((if bip then (-11000000 : Int) else 0) ≤ set ∧ set ≤ 11000000) else set = 0)
    && rangeIf (f = 11) 80 (u16 r 16) 240 && u8 r 18 < (if isAo f then 2 else 1) && u8 r 19 = 0
    && (if zs then decide (u32 r 20 + 1000000 ≤ u32 r 24 ∧ u32 r 24 ≤ 24000000) else u32 r 20 = 0 && u32 r 24 = 0)
    && zeros r 28 4
    && u8 r 2 / 8 * 8 = u8 r 2 && u8 r 2 / 16 % 2 = 0 && u8 r 4 = 255
    && (!bip || (u8 (i.ringRec (u8 r 0 / 8)) 6 / 2 % 2 = 1 && i.claims.any (fun c => c.1 = claimCode 8 (u8 r 0 / 8) 2 3 (u8 r 0 / 8))))

/-- R267 for TOUCH, with the lit partner of R256. -/
def touchRecOk (i : Image) (r : List Byte) : Bool :=
  within 5 (u16 r 8) 4095 && within 1 (u16 r 10) (u16 r 8 - 1) && within 1 (u8 r 12) 15 && within 1 (u8 r 13) 15
    && within 6 (u8 r 14) 15 && u8 r 16 < 2 && zeros r 17 15
    && (u8 r 4 = 255 || (match i.chanRec (u8 r 4) with
        | none => false
        | some p => isDo (u8 p 1) && (u8 p 1 ≠ 6 || decide (140 ≤ u32 p 16))))

/-- R267 and R262 for PLUG: no bit names the channel itself, a channel without PLUGGABLE or one that an earlier record
guards. -/
def plugRecOk (i : Image) (before : List (List Byte)) (r : List Byte) : Bool :=
  let n := u8 r 0
  let g := u8 r 8
  within 1 (u8 r 9) 15 && within 1 (u8 r 10) 255 && u8 r 11 < 2 && u16 r 12 ≤ 450 && within (u16 r 12) (u16 r 14) 450
    && zeros r 16 16 && (g = 0 || u8 r 2 % 2 = 1)
    && (List.range 8).all (fun k => g / 2 ^ k % 2 = 0 ||
      (n / 8 * 8 + k ≠ n && (match i.chanRec (n / 8 * 8 + k) with
        | none => false
        | some p => u8 p 2 % 2 = 1)
        && before.all (fun q => !(u8 q 1 = 14 && u8 q 0 / 8 = n / 8 && u8 q 8 / 2 ^ k % 2 = 1))))

/-- A PLUG record of the image guards the channel (R260). -/
def Image.guarded (i : Image) (n : Nat) : Bool :=
  i.chan.any (fun q => u8 q 1 = 14 && u8 q 0 / 8 = n / 8 && u8 q 8 / 2 ^ (n % 8) % 2 = 1)

/-- The record takes its partner's pads: a counting partner, or a ganged pair (R173, R198). -/
def takesPartner (r : List Byte) : Bool := u8 r 4 ≠ 255 && (u8 r 1 = 3 || (u8 r 2 / 2 % 2 = 1 && isDo (u8 r 1)))

/-- A CHAN record (R101) against the rules of its function's chapter. -/
def chanRecOk (i : Image) (before : List (List Byte)) (r : List Byte) : Bool :=
  let n := u8 r 0
  let f := u8 r 1
  let fl := u8 r 2
  let pt := u8 r 4
  n ≤ 15 && f ≤ 14 && fl < 32 && u8 r 3 ≤ 15 && zeros r 5 3
    && before.all (fun q => u8 q 0 ≠ n && !(takesPartner q && u8 q 4 = n) && !(takesPartner r && pt = u8 q 0))
    && (pt = 255 || pt = (n ^^^ 1))
    && (fl / 2 % 2 = 0 || (isDo f && pt ≠ 255)) && (fl / 4 % 2 = 0 || f = 1)
    && (f ≠ 3 || u8 r 18 % 8 = 0 || pt ≠ 255)
    && (f = 14 || fl % 2 = 0 || i.guarded n)
    && (if f = 0 then zeros r 8 24 else if isDi f then inputRecOk r else if isDo f then outputRecOk r
        else if isAn f then analogRecOk i r else if f = 13 then touchRecOk i r else plugRecOk i before r)

/-- R102, R103, R214. -/
def ringRecOk (before : List (List Byte)) (r : List Byte) : Bool :=
  u8 r 0 ≤ 1 && before.all (fun q => u8 q 0 ≠ u8 r 0) && u8 r 1 < 4 && within 80 (u16 r 2) 360 && within 10 (u16 r 4) 1000
    && u8 r 6 < 16 && within 1 (u8 r 7) 20 && within 1 (u8 r 8) 255 && within 100 (u8 r 9) 160 && within 2 (u8 r 10) 50
    && within 1 (u8 r 11) 255 && within 40 (u8 r 12) 240 && zeros r 13 3

/-- A producer word obeys R318. -/
def prodOk (p : Nat) : Bool :=
  let cls := p / 268435456
  if cls = 1 then p % 65536 ≠ 0 && p / 16777216 % 2 = 0 && p / 8388608 % 2 = 0
      && (p / 33554432 % 8 = 0 || p / 4194304 % 2 = 1)
  else if cls = 2 then p % 268435456 = 0
  else false

/-- A WHEEL record (R100, R318). -/
def wheelRecOk (before : List (List Byte)) (r : List Byte) : Bool :=
  u8 r 0 ≤ 63 && before.all (fun q => u8 q 0 ≠ u8 r 0) && within 4 (u8 r 1) 13 && u8 r 2 ≤ 1 && u8 r 3 ≤ 1 && prodOk (u32 r 4)

/-- The values of byte 2 of a FAULT record for a slot (R343). -/
def reactOk (k v : Nat) : Bool :=
  let row := slotRow k
  let cls := v % 4
  let re := v / 16
  slotUsed k && cls ≠ 3 && decide (row.minCls ≤ cls) && v / 8 % 2 = 0 && (re ≤ 4 || re = 7)
    && (!row.fixed || (cls = 2 && (re = 3 || re = 4))) && !(re = 1 && decide (128 ≤ k)) && !(re = 2 && decide (168 ≤ k))
    && !(v / 4 % 2 = 1 && cls = 2)

def faultRecOk (before : List (List Byte)) (r : List Byte) : Bool :=
  before.all (fun q => u16 q 0 ≠ u16 r 0) && reactOk (u16 r 0) (u8 r 2) && u8 r 3 = 0

/-- A SAFE record (R104). -/
def safeRecOk (i : Image) (before : List (List Byte)) (r : List Byte) : Bool :=
  u8 r 0 ≤ 15 && before.all (fun q => u8 q 0 ≠ u8 r 0) && safeAllowed (i.func (u8 r 0)) (u8 r 1) && zeros r 2 2

/-- The entry of a channel in the image's round, with its Ring (R272). -/
def Image.entry (i : Image) (n : Nat) : Option Word := (entryOf (i.round (n / 8)) n).map (fun k => (i.round (n / 8))[k.1])

/-- Base-rate code of a channel's entry. -/
def Image.rate (i : Image) (n : Nat) : Nat := ((i.entry n).map entRate).getD 0

/-- Hold offset of a channel's placed entry in ns (R273). -/
def Image.hold (i : Image) (n : Nat) : Option Nat :=
  let es := i.round (n / 8)
  match entryOf es n with
  | none => none
  | some k => ((placeRound es (fun _ => true))[k.1]).map holdNs

/-- The difference of two numbers. -/
def gap (a b : Nat) : Nat := (a - b) + (b - a)

/-- Two SYNC channels of equal output rate differ by more than 3 000 ns modulo Q (R302). -/
def Image.residBad (i : Image) (a b : List Byte) : Bool :=
  let na := u8 a 0
  let nb := u8 b 0
  u8 a 3 % 2 = 1 && u8 b 3 % 2 = 1 && i.rate na + u8 a 2 = i.rate nb + u8 b 2 &&
    (match i.hold na, i.hold nb with
     | some ha, some hb => decide (3000 < gap (ha % (rateQ (i.rate na) * 1000)) (hb % (rateQ (i.rate nb) * 1000)))
     | _, _ => false)

/-- A FILT record (R313, R294, R302). -/
def filtRecOk (i : Image) (before : List (List Byte)) (r : List Byte) : Bool :=
  let n := u8 r 0
  n ≤ 15 && u8 r 1 ≤ 7 && u8 r 2 ≤ 10 && u8 r 3 < 8 && before.all (fun q => u8 q 0 ≠ n) && isAi (i.func n)
    && (i.entry n).isSome && notchAllowed (u8 r 1) (u8 r 2) (i.rate n)
    && before.all (fun q => u8 q 0 / 8 ≠ n / 8 || u8 q 3 % 2 = u8 r 3 % 2)
    && before.all (fun q => !i.residBad q r)

/-- The REPLAY record (R406). -/
def replayRecOk (i : Image) (r : List Byte) : Bool :=
  let raw := fun k => u8 r k ≤ 15 && (i.entry (u8 r k)).isSome
  let rate := fun k => if u8 r k = 255 then 0 else 500000 / 2 ^ i.rate (u8 r k)
  u8 r 0 < 8 && u8 r 1 < 8 && u16 r 2 ≤ 4095 && 1 ≤ u16 r 4 && (u8 r 6 = 255 || raw 6)
    && (u8 r 7 = 255 || (raw 7 && u8 r 7 ≠ u8 r 6 && u8 r 6 ≠ 255)) && zeros r 8 8
    && decide (rate 6 + rate 7 ≤ 250000)
    && !(u8 r 0 % 2 = 1 && decide ((match i.fabric with | some f => f.stepN | none => 100) < 10))

/-- The PAIR record of a paired image (R100, R421). -/
def pairRecOk (r : List Byte) : Bool :=
  u8 r 1 % 2 = 0 || (u8 r 0 ≤ 1 && u8 r 1 < 4 && within 2 (u16 r 2) 100 && within 1 (u16 r 4) 1000 && u8 r 6 < 2
    && within 5 (u8 r 7) 50 && zeros r 8 8)

/-- The BG record (R474). -/
def bgRecOk (r : List Byte) : Bool :=
  within 2 (u8 r 0) 60 && within 4 (u8 r 1) 24 && within 1 (u8 r 2) (u8 r 1) && u8 r 3 < 2 && u8 r 4 ≤ 2 && zeros r 5 3
    && (if u8 r 4 = 0 then u32 r 8 = 0 else within 1000 (u32 r 8) 16777215) && zeros r 12 4

/-- The WAKE record (R471, R474). -/
def wakeRecOk (i : Image) (r : List Byte) : Bool :=
  let mode := (i.bg.map (fun b => u8 b 4)).getD 0
  u8 r 0 < 2 && !(u8 r 0 = 1 && mode = 2) && zeros r 3 5 &&
    (List.range 8).all (fun k =>
      let f := i.func k
      let plug := match i.chanRec k with
        | some c => u8 c 2 % 2 = 1
        | none => false
      (u8 r 1 / 2 ^ k % 2 = 0 || ((f = 1 || f = 2 || f = 13) && !plug))
        && (u8 r 2 / 2 ^ k % 2 = 0 || (u8 r 1 / 2 ^ k % 2 = 1 && f ≠ 13)))

/-! ## Check 7: ADCSEQ (R274, R287) -/

/-- The failures of one block's entries, judged in order against those before them; `prior` are the entries of the block before it, and
`o` is the offset of the entry. -/
def adcEntriesBad (i : Image) (b : List Byte) (ring : Nat) (prior : List (Nat × Nat × Nat)) : List (Nat × Nat × Nat) → Nat → List (Nat × Nat × Nat) → Nat → List Bad
  | _, _, [], _ => []
  | before, raws, (ch, kind, rate) :: rest, o =>
    let conv := kind = 0 || kind = 1
    let raws' := if kind = 1 then raws + 1 else raws
    let sync := fun (n : Nat) => (match i.filtRec n with | some f => u8 f 3 % 2 = 1 | none => false)
    let good := kind ≤ 3 && rate ≤ 5 && u8 b (o + 3) = 0 && (kind ≠ 3 || ch ≤ 15)
      && (kind ≠ 2 || (ch = 0x80 && rate = 1 && before.all (fun e => e.2.1 ≠ 2)))
      && (!conv || (ch ≤ 15 && ch / 8 = ring && isAi (i.func ch)
          && before.all (fun e => !((e.2.1 = 0 || e.2.1 = 1) && e.1 = ch))))
      && (kind ≠ 1 || raws' ≤ 4)
      && (!conv || !sync ch || (prior ++ before).all (fun e => !((e.2.1 = 0 || e.2.1 = 1) && e.2.2 = rate && sync e.1 &&
          (match i.hold e.1, i.hold ch with
           | some a, some b => decide (3000 < gap a b)
           | _, _ => false))))
    (if good then [] else [⟨3, o, false⟩]) ++ adcEntriesBad i b ring prior (before ++ [(ch, kind, rate)]) raws' rest (o + 4)

/-- The blocks of the section with their offsets, after those already judged, which stand in Ring order (R287); and the number of CONV_RAW
entries before each. -/
def adcBlocksBad (i : Image) (b : List Byte) (secOff secEnd : Nat) : List AdcBlock → Nat → List AdcBlock → Nat → List Bad
  | _, _, [], _ => []
  | done, raws, blk :: rest, o =>
    let headOk := blk.ring ≤ 1 && done.all (fun k => decide (k.ring < blk.ring)) && within 1 blk.entries.length 64 && blk.refSel ≤ 1
      && within 1 blk.extWait 255 && within 2000 blk.extMv 3000 && u8 b (o + 7) = 0
      && decide (o + 8 + 4 * blk.entries.length ≤ secEnd)
    let slots := blk.entries.foldl (fun a e => if e.2.1 = 3 then a else a + rateSlots e.2.2) 0
    let ai := (List.range 16).filter (fun n => n / 8 = blk.ring && isAi (i.func n))
    let missing := ai.any (fun n => blk.entries.all (fun e => !((e.2.1 = 0 || e.2.1 = 1) && e.1 = n)))
    (if headOk then [] else [⟨3, o, false⟩])
      ++ adcEntriesBad i b blk.ring (done.flatMap (·.entries)) [] raws blk.entries (o + 8)
      ++ (if decide (256 < slots) || blk.entries.all (fun e => e.2.1 ≠ 2) || missing then [⟨3, secOff, true⟩] else [])
      ++ adcBlocksBad i b secOff secEnd (done ++ [blk])
          (raws + (blk.entries.filter (fun e => e.2.1 = 1)).length) rest (o + 8 + 4 * blk.entries.length)

/-- Bytes that the blocks of the section take. -/
def adcBytes (bs : List AdcBlock) : Nat := bs.foldl (fun a k => a + 8 + 4 * k.entries.length) 0

/-- ADCSEQ as a whole. Without a block, a channel with an analog-input function has no entry: the failure lies at the
section, or at the first such CHAN record where there is no section (log entry 16). -/
def adcBad (i : Image) (b : List Byte) : List Bad :=
  let lacking := (List.range 16).filter (fun n => isAi (i.func n) && (i.adcBlock (n / 8)).isNone)
  match findSect b 3 with
  | none => ((placedRecords b 1).find? (fun p => lacking.contains (u8 p.2 0))).toList.map (fun p => ⟨1, p.1, false⟩)
  | some t =>
    adcBlocksBad i b t.off (t.off + t.len) [] 0 i.adcseq t.off
      ++ (if t.len ≠ adcBytes i.adcseq || !lacking.isEmpty then [⟨3, t.off, true⟩] else [])

/-! ## Check 7: FABRIC (R134, R136, R152, R153) -/

/-- The elements that a network may name: acts, timers, counters, comparators. -/
structure NetSize where
  acts : Nat
  timers : Nat
  counters : Nat
  cmps : Nat
  deriving DecidableEq, Repr

/-- What the rules of a network need of the rest: FUNC of each channel (none without a CHAN record), and the channels
with a filter chain. -/
structure NetCtx where
  func : List (Option Nat)
  filt : List Nat
  size : NetSize
  deriving DecidableEq, Repr

def NetCtx.funcOf (c : NetCtx) (n : Nat) : Option Nat := (c.func[n]?).getD none

/-- A signal code is valid and names an element that exists (R134, R153). -/
def signalOk (c : NetCtx) (s : Nat) : Bool :=
  let i := s % 4096
  match s / 4096 with
  | 0 => i ≤ 1
  | 1 => i < 256 && i % 16 ≤ 9 && (c.funcOf (i / 16)).isSome
  | 2 => i < 64
  | 3 => decide (i < c.size.acts)
  | 4 => i % 4 ≠ 3 && decide (i / 4 < c.size.timers)
  | 5 => i % 4 ≠ 3 && decide (i / 4 < c.size.counters)
  | 6 => decide (i < c.size.cmps)
  | 7 => i < 128
  | 8 => i ≤ 8
  | _ => false

/-- A destination code is valid, and DRIVE and ALT name an output that has them (R144, R153, R188, R219). A timer or counter beyond the
counts may be a destination: a binding uses it then (R130). -/
def destOk (c : NetCtx) (d : Nat) : Bool :=
  let i := d % 4096
  match d / 4096 with
  | 1 => i < 256 && (match c.funcOf (i / 16) with
      | none => false
      | some f => if i % 16 = 0 then isOut f else if i % 16 = 1 then f = 6 else i % 16 = 2)
  | 4 => i % 4 ≤ 1 && i < 256
  | 5 => i < 128
  | 8 => i ≤ 3
  | 9 => i < 64
  | _ => false

/-- A comparator source exists (R153). -/
def cmpSourceOk (c : NetCtx) (kind i : Nat) : Bool :=
  match kind with
  | 0 => c.filt.contains i
  | 1 => c.funcOf i = some 3
  | 2 => decide (i < c.size.counters) && i ≤ 31
  | _ => false

def actRecOk (c : NetCtx) (r : List Byte) : Bool :=
  [2, 4, 6, 8].all (fun o => signalOk c (u16 r o)) && u8 r 10 < 4 && u8 r 11 = 0

def timerRecOk (r : List Byte) : Bool := u8 r 0 < 16 && u8 r 1 = 0

def counterRecOk (r : List Byte) : Bool :=
  u8 r 0 < 4 && zeros r 1 3 && decide (1 ≤ u32 r 4) && decide (u32 r 8 ≤ u32 r 4)

/-- A comparator record (R140, R152, R153). DESIGN CHOICE, log entry 119: bit 2 of OP, which has no use, is 0 as a reserved bit is. -/
def cmpRecOk (c : NetCtx) (r : List Byte) : Bool :=
  let o := u8 r 2
  let src := o / 16 % 2 = 1
  u8 r 0 ≤ 2 && cmpSourceOk c (u8 r 0) (u8 r 1) && o % 4 ≤ 2 && o / 4 % 4 = 0 && o / 64 = 0
    && (if src then cmpSourceOk c (u8 r 0) (u8 r 3) else u8 r 3 = 0) && decide (u32 r 8 ≤ 0x7FFFFFFF)

def bindingOk (c : NetCtx) (before : List (Nat × Nat)) (d s : Nat) : Bool :=
  (d = 0 && s = 0) || (destOk c d && signalOk c s && before.all (fun p => p.1 ≠ d))

/-- The combinational acts that each combinational act reads (R136): by index, with TT's selectors. -/
def combReads (acts : List (List Byte)) : List (List Nat) :=
  let comb : Nat → Bool := fun k => (match acts[k]? with | some r => decide (u8 r 10 % 2 = 0) | none => false)
  acts.zipIdx.map (fun p =>
    if comb p.2 then
      ([2, 4, 6, 8].map (fun o => u16 p.1 o)).filterMap (fun s => if s / 4096 = 3 && comb (s % 4096) then some (s % 4096) else none)
    else [])

/-- One round of relaxation of the chain depths: 1 for an act that reads no combinational act. -/
def depthRound (reads : List (List Nat)) (d : List Nat) : List Nat :=
  reads.map (fun rs => 1 + rs.foldl (fun m k => max m (d.getD k 0)) 0)

/-- Chain depth of each act after `n` rounds; more than 64 after 65 rounds marks a loop or a chain that is too long. -/
def chainDepth (reads : List (List Nat)) : Nat → List Nat
  | 0 => reads.map (fun _ => 1)
  | n + 1 => depthRound reads (chainDepth reads n)

/-- The acts that each act reaches through combinational acts, after `n` rounds, as masks. -/
def reachRound (reads : List (List Nat)) : Nat → List Nat
  | 0 => reads.map (fun rs => rs.foldl (fun m k => m ||| 2 ^ k) 0)
  | n + 1 =>
    let prev := reachRound reads n
    reads.map (fun rs => rs.foldl (fun m k => m ||| 2 ^ k ||| prev.getD k 0) 0)

/-- The acts at which a failure of R136 is reported: the first act of a loop, and acts that begin a chain longer than 64
where no loop is read (R153). -/
def chainBad (acts : List (List Byte)) : List Nat :=
  let reads := combReads acts
  let depth := chainDepth reads 65
  let long := (List.range acts.length).filter (fun k => decide (64 < depth.getD k 0))
  if long.isEmpty then []
  else
    let reach := reachRound reads acts.length
    let inLoop := fun k => (reach.getD k 0).testBit k
    let loops := (List.range acts.length).filter inLoop
    loops ++ long.filter (fun k => loops.all (fun j => !(reach.getD k 0).testBit j))

/-- Header and tables of the section lie within it (R151, R153). -/
def fabHeaderOk (b : List Byte) (len : Nat) : Bool :=
  let f := slice b 0 16
  let acts := u16 f 2
  let tables := 12 * acts + 4 * u8 f 4 + 12 * u8 f 5 + 12 * u8 f 6
  let bo := u32 f 12
  16 ≤ len && within 2 (u16 f 0) 1000 && acts ≤ 512 && u8 f 4 ≤ 64 && u8 f 5 ≤ 32 && u8 f 6 ≤ 16 && u8 f 7 = 0
    && decide (u32 f 8 + tables ≤ len) && decide (bo + 4 ≤ len)

/-- The header of the binding table: COUNT, reserved bytes, and its end (R151, R153). -/
def bindHeaderOk (b : List Byte) (len : Nat) : Bool :=
  let bo := u32 b 12
  u16 b bo ≤ 512 && u16 b (bo + 2) = 0 && decide (bo + 4 + 4 * u16 b bo ≤ len)

/-- The network that an image's FABRIC section forms, for its rules. -/
def Image.netCtx (i : Image) (f : FabImage) : NetCtx :=
  { func := (List.range 16).map (fun n => (i.chanRec n).map (fun r => u8 r 1))
    filt := i.filt.map (fun r => u8 r 0)
    size := ⟨f.acts.length, f.timers.length, f.counters.length, f.comparators.length⟩ }

/-- The failing records of a table, each `size` bytes long from `o`. -/
def tableBad (size o : Nat) (rs : List (List Byte)) (ok : List Byte → Bool) : List Bad :=
  rs.zipIdx.filterMap (fun p => if ok p.1 then none else some ⟨5, o + size * p.2, false⟩)

/-- FABRIC (R153). -/
def fabricBad (i : Image) (b : List Byte) : List Bad :=
  match findSect b 5, i.fabric with
  | some t, some f =>
    let s := slice b t.off t.len
    if !fabHeaderOk s t.len then [⟨5, t.off, false⟩]
    else
      let c := i.netCtx f
      let ao := t.off + u32 s 8
      let to_ := ao + 12 * f.acts.length
      let co := to_ + 4 * f.timers.length
      let mo := co + 12 * f.counters.length
      let bo := t.off + u32 s 12 + 4
      tableBad 12 ao f.acts (actRecOk c) ++ (chainBad f.acts).map (fun k => ⟨5, ao + 12 * k, false⟩)
        ++ tableBad 4 to_ f.timers timerRecOk ++ tableBad 12 co f.counters counterRecOk
        ++ tableBad 12 mo f.comparators (cmpRecOk c)
        ++ (if !bindHeaderOk s t.len then [⟨5, bo - 4, false⟩] else []) ++ f.bindings.zipIdx.filterMap (fun p =>
            if bindingOk c ((f.bindings.take p.2).filter (fun q => !(q.1 = 0 && q.2 = 0))) p.1.1 p.1.2 then none
            else some ⟨5, bo + 4 * p.2, false⟩)
  | _, _ => []

/-! ## Check 7 in the order of R504 -/

/-- The record of a section of one record: each record by its rule, and none beside the first (R100). -/
def singleBads (id : Nat) (b : List Byte) (ok : List Byte → Bool) : List Bad :=
  judge id (fun before r => before.isEmpty && ok r) [] (placedRecords b id)

/-- The sections that lack a record which R100 requires: the two of RING, the one of REPLAY, PAIR, BG and WAKE (R504). -/
def fewBads (b : List Byte) : List Bad :=
  [(2, 2), (9, 1), (10, 1), (11, 1), (12, 1)].filterMap (fun p =>
    match findSect b p.1 with
    | some t => if (placedRecords b p.1).length < p.2 then some ⟨p.1, t.off, true⟩ else none
    | none => none)

/-- All failures of check 7. -/
def sectionBads (i : Image) (b : List Byte) : List Bad :=
  judge 1 (chanRecOk i) [] (placedRecords b 1) ++ judge 2 ringRecOk [] (placedRecords b 2) ++ adcBad i b
    ++ judge 4 (filtRecOk i) [] (placedRecords b 4) ++ fabricBad i b
    ++ judge 6 wheelRecOk [] (placedRecords b 6)
    ++ (match findSect b 6 with
        | some t => if 32768 < i.wheel.foldl (fun a r => a + 2 ^ u8 r 1) 0 then [⟨6, t.off, true⟩] else []
        | none => [])
    ++ judge 7 faultRecOk [] (placedRecords b 7) ++ judge 8 (safeRecOk i) [] (placedRecords b 8)
    ++ singleBads 9 b (replayRecOk i) ++ singleBads 10 b pairRecOk ++ singleBads 11 b bgRecOk
    ++ singleBads 12 b (wakeRecOk i) ++ fewBads b

/-- The failure with the least offset. -/
def leastBad : List Bad → Option Bad
  | [] => none
  | x :: xs =>
    match leastBad xs with
    | none => some x
    | some y => if y.off < x.off then some y else some x

/-- The first failure found: sections in table order; in one, its earliest failing record, then a rule that no single
record breaks (R504). -/
def firstBad (ts : List Sect) (bads : List Bad) : Option Bad :=
  match ts with
  | [] => leastBad bads
  | t :: rest =>
    match leastBad (bads.filter (fun x => x.sect = t.id && !x.whole)) with
    | some x => some x
    | none =>
      match bads.find? (fun x => x.sect = t.id && x.whole) with
      | some x => some x
      | none => firstBad rest bads

/-! ## Claims: checks 8 to 12 -/

/-- A claim record's code as a claim. -/
def claimOf (code : Word) (amount : Nat) : Claim :=
  { kind := fld code 27 5, ring := fld code 26 1, index := fld code 16 10, hclass := fld code 8 8, hindex := fld code 0 8
    amount := amount, reserved := false }

def Claim.code (c : Claim) : Word := claimCode c.kind c.ring c.index c.hclass c.hindex

/-- The loader's standing claim (R110). -/
def standingClaim : Word := 0x48030700#32

/-- A claim record obeys R105 to R108, and names no round entry of a Ring with the default round (R274). -/
def claimOk (i : Image) (r : List Byte) : Bool :=
  let c := claimOf (word (u32 r 0)) (u16 r 4)
  let holder := match c.hclass with
    | 1 => c.hindex ≤ 15
    | 3 | 4 => c.hindex ≤ 1
    | 2 | 5 | 6 | 8 => c.hindex = 0
    | _ => false
  let res := match c.kind with
    | 1 => if c.ring = 0 then within 65 c.index 161 else within 162 c.index 256
    | 2 => c.index ≤ 15 && c.ring = c.index / 8
    | 3 => c.index ≤ 63 && (i.adcBlock c.ring).isSome
    | 4 | 6 => c.index ≤ 63 && c.ring = 0
    | 5 => c.index ≤ 31 && c.ring = 0
    | 7 => c.index = 0
    | 8 => within 1 c.index 3
    | 9 => c.index ≤ 3 && c.ring = 0
    | _ => false
  u16 r 6 = 0 && holder && res && (c.kind = 2 || c.amount = 0)

/-- Check 9: the first record whose resource an earlier one or the standing claim names. -/
def conflict : List (Word × Nat) → Nat → List (Word × Nat) → Option (Word × Word × Nat × Nat)
  | _, _, [] => none
  | before, k, (c, a) :: rest =>
    if c.extractLsb' 16 16 = standingClaim.extractLsb' 16 16 then some (c, standingClaim, k, 0xFFFE)
    else match before.zipIdx.find? (fun p => p.1.1.extractLsb' 16 16 = c.extractLsb' 16 16) with
      | some p => some (p.1.1, c, p.2, k)
      | none => conflict (before ++ [(c, a)]) (k + 1) rest

/-- Check 10: the first record whose AMOUNT takes its Ring's sum above 16 000 units. -/
def overCapacity : Nat → Nat → Nat → List (Word × Nat) → Option (Word × Nat)
  | _, _, _, [] => none
  | sa, sb, k, (c, a) :: rest =>
    if fld c 27 5 = 2 then
      let sa' := if fld c 26 1 = 0 then sa + a else sa
      let sb' := if fld c 26 1 = 1 then sb + a else sb
      if 16000 < sa' ∨ 16000 < sb' then some (c, k) else overCapacity sa' sb' (k + 1) rest
    else overCapacity sa sb (k + 1) rest

/-- A resource that a record uses: the claim it needs, the AMOUNT, and where the record lies. -/
structure Use where
  code : Word
  amount : Nat
  sect : Nat
  off : Nat
  deriving DecidableEq, Repr

/-- Force and sense pads of a channel (R38). -/
def channelPads (n : Nat) : List Nat := if n < 8 then [65 + 2 * n, 66 + 2 * n] else [162 + 2 * (n - 8), 163 + 2 * (n - 8)]

/-- The claims of a channel's function by its record: pads, partner's pads, and the modem (R173, R198, R236). -/
def chanUses (r : List Byte) : List Word :=
  let n := u8 r 0
  let pads := fun m => (channelPads m).map (fun p => claimCode 1 (n / 8) p 1 n)
  if u8 r 1 = 0 then []
  else pads n ++ (if takesPartner r then pads (u8 r 4) else [])
    ++ (if isAn (u8 r 1) && u8 r 9 / 8 % 2 = 1 then [claimCode 7 (n / 8) 0 1 n] else [])

/-- The lowest channel of a mask. -/
def lowestBit (m : Nat) : Nat := ((List.range 16).find? (fun k => m / 2 ^ k % 2 = 1)).getD 0

/-- The claim that a wheel's producer word needs (R316). -/
def wheelClaim (w prod : Nat) : Word :=
  if prod / 268435456 = 2 then claimCode 6 0 w 6 0 else claimCode 6 0 w 1 (lowestBit (prod % 65536))

/-- The timers and counters that a code names. -/
def netElement (code : Nat) : Option (Nat × Nat) :=
  if code / 4096 = 4 then some (4, code % 4096 / 4) else if code / 4096 = 5 then some (5, code % 4096 / 4) else none

/-- What the sections of an image use (R109). -/
def imageUses (i : Image) (b : List Byte) : List Use :=
  (placedRecords b 1).flatMap (fun p => (chanUses p.2).map (fun c => ⟨c, 0, 1, p.1⟩))
    ++ (placedRecords b 2).flatMap (fun p => ([1, 2, 3].filter (fun t => u8 p.2 6 / 2 ^ (t - 1) % 2 = 1)).map (fun t =>
        ⟨claimCode 8 (u8 p.2 0) t 3 (u8 p.2 0), 0, 2, p.1⟩))
    ++ (match findSect b 3 with
        | none => []
        | some t =>
          (i.adcseq.foldl (fun (acc : Nat × List Use) blk =>
            (acc.1 + 8 + 4 * blk.entries.length,
             acc.2 ++ blk.entries.zipIdx.filterMap (fun e =>
              let o := acc.1 + 8 + 4 * e.2
              if e.1.2.1 = 2 then some ⟨claimCode 3 blk.ring e.2 4 blk.ring, 0, 3, o⟩
              else if e.1.2.1 ≤ 1 then some ⟨claimCode 3 blk.ring e.2 1 e.1.1, 0, 3, o⟩ else none))) (t.off, [])).2)
    ++ (placedRecords b 4).map (fun p =>
        ⟨claimCode 2 (u8 p.2 0 / 8) (u8 p.2 0) 1 (u8 p.2 0), chainShare (u8 p.2 1) (u8 p.2 2) (i.rate (u8 p.2 0)), 4, p.1⟩)
    ++ (match findSect b 5, i.fabric with
        | some t, some f => f.bindings.zipIdx.flatMap (fun p =>
            ([p.1.1, p.1.2].filterMap netElement).map (fun e =>
              ⟨claimCode e.1 0 e.2 2 0, 0, 5, t.off + u32 (b.drop t.off) 12 + 4 + 4 * p.2⟩))
        | _, _ => [])
    ++ (placedRecords b 6).map (fun p => ⟨wheelClaim (u8 p.2 0) (u32 p.2 4), 0, 6, p.1⟩)
    ++ (placedRecords b 10).flatMap (fun p => if u8 p.2 1 % 2 = 1 then
        [⟨0x086A0800#32, 0, 10, p.1⟩, ⟨0x086B0800#32, 0, 10, p.1⟩] else [])

/-- A producer of class CHANNEL names a channel of a Ring that is not powered (R116, R318). -/
def darkProducer (i : Image) (p : Nat) : Bool :=
  p / 268435456 = 1 && ((p % 256 ≠ 0 && !i.powered 0) || (p / 256 % 256 ≠ 0 && !i.powered 1))

/-- A signal or destination code names a channel of a Ring that is not powered: of class CHAN, or of class THRESH (R134, R144). -/
def darkCode (i : Image) (code : Nat) : Bool :=
  (code / 4096 = 1 && !i.powered (code % 4096 / 128)) || (code / 4096 = 2 && !i.powered (code % 4096 / 32))

/-- The FABRIC records that use a channel of a Ring that is not powered: acts and bindings by their codes, comparators by their sources
(R116, R117, R152). -/
def fabricDark (i : Image) (b : List Byte) : List Bad :=
  match findSect b 5, i.fabric with
  | some t, some f =>
    let s := slice b t.off t.len
    let ao := t.off + u32 s 8
    let mo := ao + 12 * f.acts.length + 4 * f.timers.length + 12 * f.counters.length
    let bo := t.off + u32 s 12 + 4
    let source := fun (kind n : Nat) => kind ≤ 1 && !i.powered (n / 8)
    tableBad 12 ao f.acts (fun r => [2, 4, 6, 8].all (fun o => !darkCode i (u16 r o)))
      ++ tableBad 12 mo f.comparators (fun r => !(source (u8 r 0) (u8 r 1) || (u8 r 2 / 16 % 2 = 1 && source (u8 r 0) (u8 r 3))))
      ++ f.bindings.zipIdx.filterMap (fun p => if darkCode i p.1.1 || darkCode i p.1.2 then some ⟨5, bo + 4 * p.2, false⟩ else none)
  | _, _ => []

/-- Checks 8 to 12 (R116). -/
def checkClaims (i : Image) (b : List Byte) : Verdict :=
  let co := u32 b 24
  match (claimRecords b).zipIdx.find? (fun p => !claimOk i p.1) with
  | some p => .at_ 0x17 0xFF (co + 8 * p.2)
  | none =>
    match conflict [] 0 i.claims with
    | some (a, c, ra, rb) => ⟨0x18, none, some (a, c, word (ra + rb * 65536))⟩
    | none =>
      match overCapacity 0 0 0 i.claims with
      | some (c, k) => ⟨0x19, none, some (c, 0#32, word (k + 0xFFFF * 65536))⟩
      | none =>
        let uses := imageUses i b
        let lacking := uses.filter (fun u => !i.claims.any (fun c => c.1 = u.code && decide (u.amount ≤ c.2)))
        match firstBad (sectTable b) (lacking.map (fun u => ⟨u.sect, u.off, false⟩)) with
        | some x => .at_ 0x1A x.sect x.off
        | none =>
          let dark := ((placedRecords b 1).filter (fun p => !i.powered (u8 p.2 0 / 8))).map (fun p => (⟨1, p.1, false⟩ : Bad))
            ++ ((placedRecords b 6).filter (fun p => darkProducer i (u32 p.2 4))).map (fun p => ⟨6, p.1, false⟩)
            ++ ((placedRecords b 7).filter (fun p => u16 p.2 0 < 128 && !i.powered (u16 p.2 0 / 64))).map (fun p => ⟨7, p.1, false⟩)
            ++ ((placedRecords b 8).filter (fun p => !i.powered (u8 p.2 0 / 8))).map (fun p => ⟨8, p.1, false⟩)
            ++ ((uses.filter (fun u => (fld u.code 27 5 = 1 || fld u.code 27 5 = 3 || fld u.code 27 5 = 8 || fld u.code 27 5 = 2)
                && !i.powered (fld u.code 26 1))).map (fun u => ⟨u.sect, u.off, false⟩))
            ++ ((placedRecords b 10).filter (fun p => u8 p.2 1 % 2 = 1 && !i.powered 0)).map (fun p => ⟨10, p.1, false⟩)
            ++ fabricDark i b
            ++ ((placedRecords b 9).filter (fun p => [6, 7].any (fun o => u8 p.2 o ≠ 0xFF && !i.powered (u8 p.2 o / 8)))).map (fun p =>
              ⟨9, p.1, false⟩)
            ++ ((placedRecords b 12).filter (fun p => u8 p.2 1 ≠ 0 && !i.powered 0)).map (fun p => ⟨12, p.1, false⟩)
          match firstBad (sectTable b) dark with
          | some x => .at_ 0x1B x.sect x.off
          | none => .pass

/-- Verification of the bytes of a slot (R116): the first check that fails. -/
def verify (b : List Byte) (written : Option (BitVec 32768)) : Verdict :=
  let h := checkHeader b written
  if h ≠ 0 then .plain h
  else if imageCrc b (u32 b 12) ≠ word (u32 b 60) then .plain 0x14
  else
    let t := checkTable b
    if t.code ≠ 0 then t
    else
      let i := parseImage b
      match firstBad (sectTable b) (sectionBads i b) with
      | some x => .at_ 0x16 x.sect x.off
      | none => checkClaims i b

/-! ## The claim table of a running image (R128) -/

/-- The claims of an image; `reserved` where no section uses one (R109). -/
def claimTable (i : Image) (b : List Byte) : List Claim :=
  let uses := imageUses i b
  i.claims.map (fun c => { claimOf c.1 c.2 with reserved := !uses.any (fun u => u.code = c.1) })

end Sys2Proof.Machine
end

