-- ==== Sys2Proof/Machine/Claims.lean ====
section
/-! DEFINITION. The claim table at run time (R105 to R110, R128), divergence (R127), and the checks that every write of
a configuration field shares (R75, R77, R124). -/

namespace Sys2Proof.Machine

/-! ## The claim table -/

/-- The loader's standing claim on CU3 (R110). -/
def loaderClaim : Claim := claimOf standingClaim 0

def Claim.names (c : Claim) (kind ring index : Nat) : Bool := c.kind = kind && c.ring = ring && c.index = index

def Claim.heldBy (c : Claim) (hclass hindex : Nat) : Bool := c.hclass = hclass && c.hindex = hindex

/-- The claim that holds a resource (R128). -/
def State.holder (s : State) (kind ring index : Nat) : Option Claim :=
  if loaderClaim.names kind ring index then some loaderClaim else s.img.claims.find? (fun c => c.names kind ring index)

/-- The resource is held by another holder: its claim code (R128). -/
def State.heldByOther (s : State) (kind ring index hclass hindex : Nat) : Option Word :=
  match s.holder kind ring index with
  | some c => if c.heldBy hclass hindex then none else some c.code
  | none => none

/-- The claim code of the holder of a resource, 0 where it is free (R129). -/
def State.holderCode (s : State) (kind ring index : Nat) : Word :=
  match s.holder kind ring index with
  | some c => c.code
  | none => 0#32

/-- A write gives a free resource to its user (R128). -/
def State.takeClaim (s : State) (kind ring index hclass hindex amount : Nat) : State :=
  match s.img.claims.find? (fun c => c.names kind ring index && c.heldBy hclass hindex) with
  | some _ => { s with img := { s.img with claims := s.img.claims.map (fun c =>
      if c.names kind ring index && c.heldBy hclass hindex && !c.reserved then { c with amount := amount } else c) } }
  | none => { s with img := { s.img with claims := s.img.claims ++ [⟨kind, ring, index, hclass, hindex, amount, false⟩] } }

/-- A write ends a use: the resource is freed, unless the image reserved it without a section that uses it (R128). -/
def State.freeClaim (s : State) (kind ring index hclass hindex : Nat) : State :=
  { s with img := { s.img with claims := s.img.claims.filter (fun c =>
      !(c.names kind ring index && c.heldBy hclass hindex && !c.reserved)) } }

/-! ## Checks (R6, R75) -/

/-- The lowest bit number among the refused fields (R75). -/
def lowest : List (Bool × Nat) → Option Nat
  | [] => none
  | (bad, b) :: rest =>
    match lowest rest with
    | none => if bad then some b else none
    | some m => if bad then some (min b m) else some m

/-- REFUSED with the lowest bit number of the fields that break their rules. -/
def refuseLow (fields : List (Bool × Nat)) : Option Reply := (lowest fields).map .refused

/-- HELD where a resource has another holder (R128). -/
def heldReply (h : Option Word) : Option Reply := h.map .held

/-- A value outside its range. -/
def outside (lo v hi : Nat) : Bool := !within lo v hi

/-! ## Configuration writes -/

/-- An "img" field was written (R127), which changes the running copy (R412). -/
def State.diverge (s : State) : State :=
  { s with img := { s.img with diverged := true, divcnt := satInc s.img.divcnt, configGen := s.img.configGen + 1 } }

/-- A write of a register with an "img" field: its refusals, HELD, NOT_NOW while an activation is pending (R124), then a
journaled change that diverges (R127). The order of the refusals is log entry 10. -/
def State.imgWrite (s : State) (origin : Origin) (r : Reg) (w : Word) (checks : List (Option Reply)) (eff : State → State) :
    State × Reply :=
  guarded s (checks ++ [check s.img.actPending (.notNow 0#32)]) (s.changeWrite origin r w (fun t => (eff t).diverge))

/-- A destination is bound (R145): a record that waits for its start tick binds nothing yet (R154). -/
def State.boundDest (s : State) (d : Nat) : Bool := s.fab.bindings.any (fun b => b.1 = d)

/-- DRIVE and ALT of a channel are bound (R144). -/
def State.driveBound (s : State) (n : Fin 16) : Bool := s.boundDest (4096 + 16 * n.1)
def State.altBound (s : State) (n : Fin 16) : Bool := s.boundDest (4096 + 16 * n.1 + 1)

/-- HELD by a binding (R145). -/
def boundCode : Word := 0x00000200#32

/-- A field takes an RC read: its value, and the state without it. -/
abbrev ReadResult := Word × State

end Sys2Proof.Machine
end

