-- ==== Sys2Proof/Machine/Network.lean ====
section
/-! DEFINITION. The fabric as a network: elements, signals, evaluation and commit (05_ulcel_fabric.md, R130 to R146). -/

namespace Sys2Proof.Machine

/-! ## Records (R152) -/

def Act.ofBytes (b : List Byte) : Act :=
  { tt := BitVec.ofNat 16 (u16 b 0), a := BitVec.ofNat 16 (u16 b 2), b := BitVec.ofNat 16 (u16 b 4)
    c := BitVec.ofNat 16 (u16 b 6), d := BitVec.ofNat 16 (u16 b 8)
    latch := u8 b 10 % 2 = 1, init := u8 b 10 / 2 % 2 = 1 }

def Act.bytes (a : Act) : List Byte :=
  leBytesN 2 a.tt.toNat ++ leBytesN 2 a.a.toNat ++ leBytesN 2 a.b.toNat ++ leBytesN 2 a.c.toNat ++ leBytesN 2 a.d.toNat
    ++ leBytesN 2 (b2n a.latch + 2 * b2n a.init)

/-- A timer from its record, with E, Q and RUN_prev at 0 (R137). -/
def Timer.ofBytes (b : List Byte) : Timer :=
  { mode := BitVec.ofNat 2 (u8 b 0), unit := BitVec.ofNat 2 (u8 b 0 / 4), preset := BitVec.ofNat 16 (u16 b 2)
    e := 0, q := false, runPrev := false, running := false, fin := false }

def Timer.bytes (t : Timer) : List Byte :=
  leBytesN 2 (t.mode.toNat + 4 * t.unit.toNat) ++ leBytesN 2 t.preset.toNat

/-- A counter from its record, with V = LV (R139), and inputs that were 0 in the step before (DESIGN CHOICE, log entry 117). -/
def Counter.ofBytes (b : List Byte) : Counter :=
  { edge := u8 b 0 % 2 = 1, wrapping := u8 b 0 / 2 % 2 = 1, limit := word (u32 b 4), load := word (u32 b 8)
    v := word (u32 b 8), prev := 0#4, wrap := false }

def Counter.bytes (c : Counter) : List Byte :=
  leBytesN 4 (b2n c.edge + 2 * b2n c.wrapping) ++ leBytes c.limit ++ leBytes c.load

def Comparator.ofBytes (b : List Byte) : Comparator :=
  { aKind := BitVec.ofNat 8 (u8 b 0), aIndex := BitVec.ofNat 8 (u8 b 1), op := BitVec.ofNat 8 (u8 b 2)
    bIndex := BitVec.ofNat 8 (u8 b 3), b := word (u32 b 4), hyst := word (u32 b 8), out := false, used := true }

def Comparator.bytes (c : Comparator) : List Byte := [c.aKind, c.aIndex, c.op, c.bIndex] ++ leBytes c.b ++ leBytes c.hyst

/-- The elements at Reset: every byte of their records is 0 (R130, R156). -/
def Act.reset : Act := Act.ofBytes []
def Timer.reset : Timer := Timer.ofBytes []
def Counter.reset : Counter := Counter.ofBytes []

/-- A comparator that no count, write or binding uses: its Reset record, taking no part in evaluation (R130). -/
def Comparator.reset : Comparator := { Comparator.ofBytes [] with used := false }

/-- Element `i` of a table whose further elements have their Reset records, replaced. -/
def setAt {α : Type} (reset : α) (i : Nat) (x : α) (xs : List α) : List α :=
  (xs ++ List.replicate (i + 1 - xs.length) reset).set i x

def FabState.act (f : FabState) (i : Nat) : Act := f.acts.getD i Act.reset
def FabState.timer (f : FabState) (i : Nat) : Timer := f.timers.getD i Timer.reset
def FabState.counter (f : FabState) (i : Nat) : Counter := f.counters.getD i Counter.reset
def FabState.comparator (f : FabState) (i : Nat) : Comparator := f.comparators.getD i Comparator.reset
def FabState.binding (f : FabState) (i : Nat) : Nat × Nat := f.bindings.getD i (0, 0)

/-! ## Signals (R132, R134) -/

/-- Q, RUNNING and END of a timer (R134, R138). -/
def Timer.signal (t : Timer) (sub : Nat) : Bool := if sub = 0 then t.q else if sub = 1 then t.running else sub = 2 && t.fin

/-- ZERO, AT_LIMIT and WRAP of a counter (R134, R139). -/
def Counter.signal (c : Counter) (sub : Nat) : Bool :=
  if sub = 0 then c.v = 0#32 else if sub = 1 then c.v = c.limit else sub = 2 && c.wrap

/-- The value of a signal code in a step, given the comparators' outputs and the combinational acts' values (R132). -/
def FabState.signal (f : FabState) (cmps vals : List Bool) (code : Nat) : Bool :=
  let i := code % 4096
  match code / 4096 with
  | 0 => i = 1
  | 1 => f.snap.chan.getLsbD i
  | 2 => f.snap.thresh.getLsbD i
  | 3 => if (f.act i).latch then f.latched.getLsbD i else vals.getD i false
  | 4 => (f.timer (i / 4)).signal (i % 4)
  | 5 => (f.counter (i / 4)).signal (i % 4)
  | 6 => cmps.getD i false
  | 7 => f.snap.hsig.getLsbD i
  | 8 => f.snap.device.getLsbD i
  | _ => false

/-! ## Comparators (R140) -/

/-- A comparator source: its value as an integer, whether it has delivered, and SETTLE. Counters are read from the
committed state, the other kinds from the snapshot (R131, R132). -/
def FabState.source (f : FabState) (kind index : Nat) : Int × Bool × Bool :=
  if kind = 2 then ((f.counter index).v.toNat, true, false)
  else match f.snap.values.find? (fun v => v.kind = kind && v.index = index) with
    | some v => (v.value.toInt, v.delivered, v.settle)
    | none => (0, false, false)

/-- The operators of R140. -/
def compareOp (op : Nat) (a b hyst : Int) (out : Bool) : Bool :=
  if op = 0 then (if b < a then true else if a ≤ b - hyst then false else out)
  else if op = 1 then (if a < b then true else if b + hyst ≤ a then false else out)
  else decide ((a - b).natAbs ≤ hyst)

/-- The output of a comparator in a step (R140); one that nothing uses takes no part in evaluation (R130). -/
def FabState.compare (f : FabState) (c : Comparator) : Bool :=
  let o := c.op.toNat
  let a := f.source c.aKind.toNat c.aIndex.toNat
  let b := if o / 16 % 2 = 1 then f.source c.aKind.toNat c.bIndex.toNat else (c.b.toInt, true, false)
  if !c.used || !a.2.1 || !b.2.1 then false
  else if o / 32 % 2 = 1 && (a.2.2 || b.2.2) then c.out
  else compareOp (o % 4) a.1 b.1 c.hyst.toNat c.out

/-! ## Evaluation (R131, R135, R136) -/

/-- The value of an act (R135). -/
def FabState.actValue (f : FabState) (cmps vals : List Bool) (a : Act) : Bool :=
  let g := fun (code : BitVec 16) => b2n (f.signal cmps vals code.toNat)
  a.tt.getLsbD (8 * g a.d + 4 * g a.c + 2 * g a.b + g a.a)

/-- One pass over the acts. -/
def FabState.pass (f : FabState) (cmps vals : List Bool) : List Bool := f.acts.map (f.actValue cmps vals)

/-- Passes until no value changes, at most `n`. -/
def FabState.settleNet (f : FabState) (cmps : List Bool) : Nat → List Bool → List Bool
  | 0, vals => vals
  | n + 1, vals =>
    let v := f.pass cmps vals
    if v = vals then v else f.settleNet cmps n v

/-- The settled network: comparators' outputs, and every act's value. A chain is at most 64 acts long (R136), so 65 passes
settle it. -/
def FabState.evaluate (f : FabState) : List Bool × List Bool :=
  let cmps := f.comparators.map f.compare
  (cmps, f.settleNet cmps 65 (f.acts.map (fun _ => false)))

/-! ## Commit -/

/-- The value bound to a destination (R144). -/
def FabState.bound (f : FabState) (net : List Bool × List Bool) (d : Nat) : Option Bool :=
  (f.bindings.find? (fun b => b.1 = d && d ≠ 0)).map (fun b => f.signal net.1 net.2 b.2)

/-- An unbound timer or counter input reads 0 (R144). -/
def FabState.input (f : FabState) (net : List Bool × List Bool) (d : Nat) : Bool := (f.bound net d).getD false

/-- The period of a timer in steps (R137). -/
def Timer.period (t : Timer) : Nat := t.preset.toNat * 10 ^ t.unit.toNat

/-- E and Q after a step (R137). -/
def Timer.next (t : Timer) (run rst : Bool) : Nat × Bool :=
  let p := t.period
  if rst then (0, false)
  else match t.mode.toNat with
    | 0 => if run then (min (t.e + 1) p, decide (p ≤ min (t.e + 1) p)) else (0, false)
    | 1 => if run then (0, true) else if t.q then (if p ≤ t.e + 1 then (0, false) else (t.e + 1, true)) else (t.e, false)
    | m =>
      let eq := if t.q then (if p ≤ t.e + 1 then (0, false) else (t.e + 1, true)) else (t.e, false)
      if run && !t.runPrev && (m = 3 || !t.q) then (0, true) else eq

/-- The commit of a timer (R137, R138). -/
def Timer.commit (t : Timer) (run rst : Bool) : Timer :=
  let eq := t.next run rst
  { t with
    e := eq.1
    q := eq.2
    runPrev := run
    running := if t.mode = 0#2 then run && !eq.2 else if t.mode = 1#2 then !run && eq.2 else eq.2
    fin := if t.mode = 0#2 then eq.2 && !t.q else t.q && !eq.2 }

/-- The commit of a counter (R139); `ins` are UP, DOWN, RESET and LOAD. -/
def Counter.commit (c : Counter) (ins : BitVec 4) : Counter :=
  let cnt := fun i => ins.getLsbD i && !(c.edge && c.prev.getLsbD i)
  let up := cnt 0
  let down := cnt 1
  let r : Word × Bool :=
    if ins.getLsbD 2 then (0#32, false)
    else if ins.getLsbD 3 then (c.load, false)
    else if up && !down then
      (if c.v = c.limit then (if c.wrapping then (0#32, true) else (c.v, false)) else (c.v + 1#32, false))
    else if down && !up then
      (if c.v = 0#32 then (if c.wrapping then (c.limit, true) else (c.v, false)) else (c.v - 1#32, false))
    else (c.v, false)
  { c with v := r.1, wrap := r.2, prev := ins }

/-- A bit vector from its bits. -/
def bitsOf (k : Nat) (f : Nat → Bool) : BitVec k := BitVec.ofNat k ((List.range k).foldl (fun m i => m + bitAt (f i) i) 0)

/-- A bit of a list of act values. -/
def valBits (vals : List Bool) : BitVec 512 := bitsOf 512 (fun i => vals.getD i false)

/-- The limit of a counter from this commit on: that of the last accepted record that waits, else its own (R139, R154). -/
def FabState.limitSoon (f : FabState) (i : Nat) : Word :=
  match f.pend.reverse.findSome? (fun p => match p with
    | .record 2 j ws => if j = i then some (ws.getD 1 0#32) else none
    | _ => none) with
  | some l => l
  | none => (f.counter i).limit

/-- A counter after a step: a written V, or the new L that a V stood above, replaces the step's result (R139). The WRAP flag is the
step's (DESIGN CHOICE: R139 does not say whether it stands beside a written V; log entry 96). -/
def FabState.written (f : FabState) (i : Nat) (c : Counter) : Counter :=
  let v := match f.valuePend.find? (fun v => v.1 = i) with
    | some v => v.2
    | none => c.v
  { c with v := if (f.limitSoon i).toNat < v.toNat then f.limitSoon i else v }

/-- The counters of a commit, with one whose first record still waits taken in where a V was written to it (R139, R154). -/
def FabState.commitCounters (f : FabState) (net : List Bool × List Bool) : List Counter :=
  let cs := f.counters.zipIdx.map (fun p =>
    f.written p.2 (p.1.commit (bitsOf 4 (fun i => f.input net (0x5000 + 4 * p.2 + i)))))
  f.valuePend.foldl (fun cs v => if f.counters.length ≤ v.1 then setAt Counter.reset v.1 (f.written v.1 Counter.reset) cs else cs) cs

/-- The commit of a step (R131): every destination, latched act, timer, counter, comparator and flag at once, and a
counter's written live value in place of the step's result (R139). FAB_EVAL.LAST is now this step's (R156). -/
def FabState.commit (f : FabState) : FabState :=
  let net := f.evaluate
  let flags : BitVec 64 := bitsOf 64 (fun i => f.input net (0x9000 + i))
  { f with
    latched := bitsOf 512 (fun i => if (f.act i).latch then net.2.getD i false else f.latched.getLsbD i)
    actOut := valBits net.2
    timers := f.timers.zipIdx.map (fun p =>
      p.1.commit (f.input net (0x4000 + 4 * p.2)) (f.input net (0x4001 + 4 * p.2)))
    counters := f.commitCounters net
    valuePend := []
    evalLast := f.evalNow
    comparators := f.comparators.map (fun c => { c with out := f.compare c })
    flags := flags
    flagChg := f.flagChg ||| (flags ^^^ f.flags)
    outChan := bitsOf 48 (fun i => f.input net (0x1000 + 16 * (i / 3) + i % 3))
    outDev := bitsOf 4 (fun i => f.input net (0x8000 + i)) }

/-! ## Applied records (R154) -/

/-- Bytes from the words of a record window. -/
def wordsBytes (ws : List Word) : List Byte := ws.flatMap leBytes

/-- The command that the last commit gave a channel's DRIVE (`sub` 0) or ALT (1), where it is bound (R144). -/
def FabState.drives (f : FabState) (n sub : Nat) : Option Bool :=
  if f.bindings.any (fun b => b.1 = 0x1000 + 16 * n + sub) then some (f.outChan.getLsbD (3 * n + sub)) else none

/-- A record takes the place of an element's. What a timer, a counter or a comparator holds (E, Q, RUN_prev, V and the output) runs on
under the new record, and an act made latched starts from INIT (DESIGN CHOICE: R154 does not say; log entry 39). -/
def FabState.setRecord (f : FabState) (type i : Nat) (ws : List Word) : FabState :=
  let b := wordsBytes ws
  match type with
  | 0 =>
    let a := Act.ofBytes b
    { f with
      acts := setAt Act.reset i a f.acts
      latched := if a.latch && !(f.act i).latch then
          (if a.init then f.latched ||| (1#512 <<< i) else f.latched &&& ~~~ (1#512 <<< i)) else f.latched }
  | 1 =>
    let t := Timer.ofBytes b
    { f with timers := setAt Timer.reset i { f.timer i with mode := t.mode, unit := t.unit, preset := t.preset } f.timers }
  | 2 =>
    let c := Counter.ofBytes b
    let new : Counter := { f.counter i with edge := c.edge, wrapping := c.wrapping, limit := c.limit, load := c.load }
    { f with counters := setAt Counter.reset i new f.counters }
  | 3 => { f with comparators := setAt Comparator.reset i { Comparator.ofBytes b with out := (f.comparator i).out } f.comparators }
  | _ => { f with bindings := setAt (0, 0) i (u16 b 0, u16 b 2) f.bindings }

/-- An element that a signal or a destination names takes part in evaluation from then on (R130, R154). -/
def FabState.use (f : FabState) (code : Nat) : FabState :=
  let i := code % 4096
  match code / 4096 with
  | 3 => { f with acts := setAt Act.reset i (f.act i) f.acts }
  | 4 => { f with timers := setAt Timer.reset (i / 4) (f.timer (i / 4)) f.timers }
  | 5 => { f with counters := setAt Counter.reset (i / 4) (f.counter (i / 4)) f.counters }
  | 6 => { f with comparators := setAt Comparator.reset i { f.comparator i with used := true } f.comparators }
  | _ => f

/-- The codes that the bindings of an image name: one that names an element beyond the header's counts uses it (R130). -/
def FabImage.codes (i : FabImage) : List Nat := i.bindings.flatMap (fun b => if b.1 = 0 then [] else [b.1, b.2])

/-- The codes that a record names. -/
def recordCodes (type : Nat) (ws : List Word) : List Nat :=
  let b := wordsBytes ws
  match type with
  | 0 => [u16 b 2, u16 b 4, u16 b 6, u16 b 8]
  | 3 => if u8 b 0 = 2 then [0x5000 + 4 * u8 b 1, 0x5000 + 4 * u8 b 3] else []
  | 4 => if u16 b 0 = 0 then [] else [u16 b 0, u16 b 2]
  | _ => []

/-- One pending record takes effect. -/
def FabState.applyPend (f : FabState) (p : FabPend) : FabState :=
  match p with
  | .record type i ws => (recordCodes type ws).foldl FabState.use (f.setRecord type i ws)
  | .value i v => { f with counters := setAt Counter.reset i { f.counter i with v := v } f.counters }

/-- Every pending record takes effect at a step start tick (R154). -/
def FabState.applyAll (f : FabState) : FabState := { (f.pend.foldl FabState.applyPend f) with pend := [] }

/-- An image without a FABRIC section: no elements, and the Reset step period. -/
def FabImage.empty : FabImage := { stepN := 100, acts := [], timers := [], counters := [], comparators := [], bindings := [] }

/-- The live values of every element return to those of the FABRIC section's records (R120, R400, R437): the elements themselves stay. -/
def FabState.reinit (f : FabState) (i : FabImage) : FabState :=
  { f with
    timers := f.timers.map (fun t => { t with e := 0, q := false, runPrev := false, running := false, fin := false })
    counters := f.counters.zipIdx.map (fun p =>
      { p.1 with v := ((i.counters.map Counter.ofBytes).getD p.2 Counter.reset).v, prev := 0#4, wrap := false })
    comparators := f.comparators.map (fun c => { c with out := false })
    latched := bitsOf 512 (fun k => (f.act k).latch && ((i.acts.map Act.ofBytes).getD k Act.reset).init)
    valuePend := [] }

/-- The network of an image at an activation (R120, R135, R137, R139): nothing of the old network carries over. Flags and
destinations keep what was committed last until the new network commits (R121), and CONSEC, OVERRUN_LAST and what an overrun carries over stand
(R7, R149, R156). Elements beyond the counts take part where a binding uses them (R130). Words staged in the record window are discarded
(DESIGN CHOICE: R154 names only FAB_SEL as discarding them; log entry 97). -/
def FabState.load (f : FabState) (i : FabImage) : FabState :=
  let acts := i.acts.map Act.ofBytes
  i.codes.foldl FabState.use { f with
    stepN := i.stepN
    stepPend := none
    acts := acts
    timers := i.timers.map Timer.ofBytes
    counters := i.counters.map Counter.ofBytes
    comparators := i.comparators.map Comparator.ofBytes
    bindings := i.bindings
    latched := bitsOf 512 (fun k => (acts.getD k Act.reset).latch && (acts.getD k Act.reset).init)
    pend := []
    valuePend := []
    staged := Vector.replicate 4 none
    evalLast := 0#16
    evalNow := 0#16
    evalMax := 0#16
    stopped := false
    running := true
    first := true }

end Sys2Proof.Machine
end

