-- ==== Sys2Proof/Machine/Fabric.lean ====
section
/-! DEFINITION. The snapshot of a step and the FAB registers (05_ulcel_fabric.md, R131 to R134, R141 to R143, R154 to
R156). -/

namespace Sys2Proof.Machine

def State.modFab (s : State) (f : FabState → FabState) : State := { s with fab := f s.fab }

/-- The step period in µs (R155). -/
def FabState.stepUs (f : FabState) : Nat := f.stepN * 10

/-! ## The snapshot (R131, R133, R134) -/

/-- The CHAN signal PRESENT (R254, R258, R260). A PLUG channel that no other guards shows its own loop, and a guarded TOUCH channel its guard
alone (DESIGN CHOICE, log entry 116). -/
def State.present (s : State) (n : Fin 16) : Bool :=
  let c := s.chan n
  match s.guardOf n with
  | some g => (s.chan g).hostPlug = 1#3
  | none =>
    if c.func = 14 then c.hostPlug = 1#3
    else c.func = 13 && !s.reported n 10 && !s.reported n 20

/-- An injected member of the slots s0 to s3 drives FAULT as the member does (R361). -/
def State.injected (s : State) (n : Fin 16) (func m : Nat) : Bool :=
  let k := memberSlot func m
  decide (k.1 < 4) && (s.slot (chSlot n k)).inj.getLsbD (m % 32)

/-- Sub-signal of a channel (R134). SAFE reads 1 while the Ring has not confirmed its configuration; without its link every other signal reads 0. Each
value is what has reached the host die: accepted states, reported diagnostics, the mirrored latch and the loop's state (R29). -/
def State.chanSignal (s : State) (n : Fin 16) (sub : Nat) : Bool :=
  let c := s.chan n
  let r := s.ring (ringOf n)
  let f := c.func
  if sub = 7 then !r.link || !r.hostConf || s.flt.mirrorSet.getLsbD n.1
  else if !r.link then false
  else match sub with
    | 0 => if f = 14 then c.hostPlug = 1#3 else c.hostState
    | 1 => c.hostRise
    | 2 => c.hostFall
    | 3 => s.reported n 25
    | 4 => s.present n
    | 5 => f = 13 && c.hostState
    | 6 => (faultMembers f).any (fun m => s.reported n m || s.injected n f m)
    | 8 => s.reported n 15
    | 9 => s.reported n 30
    | _ => false

/-- Sub-signal of a channel's thresholds (R134, R306). -/
def Chain.signal (h : Chain) (sub : Nat) : Bool :=
  match sub with
  | 0 => h.hi
  | 1 => h.lo
  | 2 => h.hiEvt
  | _ => h.loEvt

/-- DEVICE signals (R134). -/
def State.deviceSignals (s : State) : BitVec 9 :=
  bitsOf 9 (fun i =>
    match i with
    | 0 => s.fab.first
    | 1 => s.pair.mayDrive
    | 2 => (s.ring .a).link
    | 3 => (s.ring .b).link
    | 4 => (s.slot (ringSlot .a 6)).real.getLsbD 0
    | 5 => (s.slot (ringSlot .b 6)).real.getLsbD 0
    | 6 => s.svc.zeroHeld
    | 7 => s.svc.spanHeld
    | _ => s.fab.overrunLast)

/-- The latest values of the comparator sources (R131): the filtered values of running chains, and the counts of DI_COUNT
channels; the others have none, and a comparator on one reads 0 (DESIGN CHOICE, log entry 118). -/
def State.sourceValues (s : State) : List SourceVal :=
  allCh.flatMap (fun n =>
    let h := s.filt.chains[n.1]
    let c := s.chan n
    (if bit h.cfg 31 then [(⟨0, n.1, h.value, h.delivered, h.valueSettle⟩ : SourceVal)] else [])
      ++ (if c.func = 3 then [⟨1, n.1, c.hostCount, c.hostValid, false⟩] else []))

/-- A snapshot with the events of another held over (R149). -/
def Snapshot.carryInto (old new : Snapshot) : Snapshot :=
  { new with
    chan := new.chan ||| (old.chan &&& bitsOf 256 (fun i => i % 16 = 1 || i % 16 = 2))
    thresh := new.thresh ||| (old.thresh &&& bitsOf 64 (fun i => 2 ≤ i % 4)) }

/-- The snapshot at a start tick (R131). -/
def State.snapshot (s : State) : Snapshot :=
  { chan := bitsOf 256 (fun i => s.chanSignal (toIdx 16 (i / 16)) (i % 16))
    thresh := bitsOf 64 (fun i => (s.filt.chains[(toIdx 16 (i / 4)).1]).signal (i % 4))
    hsig := s.fab.hsig ||| s.fab.pulses
    device := s.deviceSignals
    values := s.sourceValues }

/-- Event signals are assigned to one snapshot only (R133). -/
def State.clearEvents (s : State) : State :=
  { s with
    chans := s.chans.map (fun c => { c with hostRise := false, hostFall := false })
    filt := { s.filt with chains := s.filt.chains.map (fun h => { h with hiEvt := false, loEvt := false }) }
    fab := { s.fab with pulses := 0#128 } }

/-- The snapshot of the step that begins is taken; after an overrun the events of the last snapshot are in it too, and
so are its host-signal pulses (R149). -/
def State.takeSnapshot (s0 : State) : State :=
  let s := allCh.foldl State.noteAi s0
  let carry := s.fab.carryDue
  let new := s.snapshot
  let snap := if carry then { s.fab.snap.carryInto new with hsig := new.hsig ||| (s.fab.carry.hsig) } else new
  let pulses := s.fab.pulses ||| (if carry then s.fab.carry.hsig else 0#128)
  s.clearEvents.modFab (fun f => { f with snap := snap, carry := { snap with hsig := pulses }, carryDue := false, evalDone := false })

/-! ## Host signals (R141, R142) -/

/-- The low word of the first step whose snapshot holds a host signal written now: the next one (R34, R75). -/
def State.nextStepLo (s : State) : Word := word (s.fab.stepNo + 1)

/-- Word `i` of the host signals. -/
def sigWord (v : BitVec 128) (i : Nat) : Word := v.extractLsb' (32 * i) 32

/-- A 128-bit vector with a word at place `i`. -/
def atWord (i : Nat) (w : Word) : BitVec 128 := w.zeroExtend 128 <<< (32 * i)

/-- A write of a host signal register: never a change, and answered with the first step that holds it (R75, R141). -/
def State.hsigWrite (s : State) (f : FabState → FabState) : State × Reply := (s.modFab f, ⟨.ok, s.nextStepLo, []⟩)

/-! ## Record windows (R154, R156) -/

/-- Number of elements of a type (R130). -/
def elementCount (type : Nat) : Nat :=
  match type with
  | 0 => 512
  | 1 => 64
  | 2 => 32
  | 3 => 16
  | _ => 512

/-- Words of a record that are staged (R152). -/
def recordWords (type : Nat) : Nat :=
  match type with
  | 1 | 4 => 1
  | _ => 3

/-- The running record of an element, in words. -/
def FabState.recordOf (f : FabState) (type i : Nat) : List Word :=
  let b := match type with
    | 0 => (f.act i).bytes
    | 1 => (f.timer i).bytes
    | 2 => (f.counter i).bytes
    | 3 => (f.comparator i).bytes
    | _ => leBytesN 2 (f.binding i).1 ++ leBytesN 2 (f.binding i).2
  (List.range 4).map (fun k => word (leNat ((b.drop (4 * k)).take 4)))

/-- What FAB_WINi reads: the running record, or the live value that the map gives a further word (R154, R156). -/
def FabState.window (f : FabState) (k : Nat) : Word :=
  let type := f.selType.toNat
  let i := f.selIndex.toNat
  if type = 1 ∧ k = 1 then word (f.timer i).e
  else if type = 1 ∧ k = 2 then word (b2n (f.timer i).q)
  else if type = 2 ∧ k = 3 then (f.counter i).v
  else if type = 3 ∧ k = 3 then word (b2n (f.comparator i).out)
  else (f.recordOf type i).getD k 0#32

/-- The record that FAB_APPLY applies: the staged words, and the running record's where nothing is staged. -/
def FabState.toApply (f : FabState) : List Word :=
  let run := f.recordOf f.selType.toNat f.selIndex.toNat
  (List.range 4).map (fun k => match f.staged.toList.getD k none with
    | some w => w
    | none => run.getD k 0#32)

/-- A counter's staged live value (R139, R156). -/
def FabState.liveValue (f : FabState) : Option Word := if f.selType = 2#3 then f.staged[3] else none

/-- The fabric with its pending records in effect: the elements in use by earlier applies (R154). -/
def FabState.soon (f : FabState) : FabState := f.applyAll

/-- A channel has a CHAN record: the active image gives it one, with any function (R101), or a function was given to it since. -/
def State.hasRecord (s : State) (n : Fin 16) : Bool :=
  (match s.img.running with
    | some i => (i.chanRec n.1).isSome
    | none => false) || (s.chan n).cfg.func ≠ 0

/-- A channel has a FILT record: the active image gives it one (R301), or its chain was enabled since. -/
def State.hasFilt (s : State) (n : Fin 16) : Bool :=
  (match s.img.running with
    | some i => (i.filtRec n.1).isSome
    | none => false) || bit (s.filt.chains[n.1]).cfg 31

/-- The network that a staged record is checked against (R153, R154). -/
def State.netNow (s : State) : NetCtx :=
  { func := allCh.map (fun n => if s.hasRecord n then some (s.chan n).cfg.func else none)
    filt := (List.range 16).filter (fun n => s.hasFilt (toIdx 16 n))
    size := ⟨512, 64, 32, 16⟩ }

/-- The staged record obeys R152 and R153 with the elements in use (R154). -/
def State.recordOk (s : State) (type i : Nat) (ws : List Word) : Bool :=
  let b := wordsBytes ws
  let f := s.fab.soon
  let c := s.netNow
  match type with
  | 0 => actRecOk c b && (chainBad ((setAt Act.reset i (Act.ofBytes b) f.acts).map Act.bytes)).isEmpty
  | 1 => timerRecOk b
  | 2 => counterRecOk b
  | 3 => cmpRecOk c b
  | _ => bindingOk c ((f.bindings.zipIdx.filter (fun p => p.2 ≠ i)).map (·.1)) (u16 b 0) (u16 b 2)

/-- The timers and counters that a record uses (R109, R128, R153): its own element for a timer or counter record, bound or not (DESIGN CHOICE,
log entry 120). -/
def recordUses (type i : Nat) (ws : List Word) : List (Nat × Nat) :=
  let b := wordsBytes ws
  match type with
  | 1 => [(4, i)]
  | 2 => [(5, i)]
  | 4 => [u16 b 0, u16 b 2].filterMap netElement
  | _ => []

/-- A timer or counter that no binding uses any longer is freed (R154). -/
def State.freeUnused (s : State) (e : Nat × Nat) : State :=
  if s.fab.bindings.any (fun b => netElement b.1 = some e || netElement b.2 = some e) then s
  else s.freeClaim e.1 0 e.2 2 0

/-- The timers and counters that the binding records now pending name, and those of the bindings they replace. -/
def FabState.rebound (f : FabState) : List (Nat × Nat) :=
  f.pend.flatMap (fun p => match p with
    | .record 4 i ws => [(f.binding i).1, (f.binding i).2, u16 (wordsBytes ws) 0, u16 (wordsBytes ws) 2].filterMap netElement
    | _ => [])

/-- The value that an accepted record of a counter stages for the next commit: the V written with it, or the new L where it lies below
the present V (R139). -/
def FabState.staging (f : FabState) (type i : Nat) (ws : List Word) (live : Option Word) : List (Nat × Word) :=
  match live with
  | some v => f.valuePend.filter (fun p => p.1 ≠ i) ++ [(i, v)]
  | none =>
    let l := ws.getD 1 0#32
    if type = 2 ∧ l.toNat < (f.counter i).v.toNat then f.valuePend.filter (fun p => p.1 ≠ i) ++ [(i, l)] else f.valuePend

/-- An accepted apply: claims, the pending record, the pending live value, and FAB_APPLIED (R154). The staged words stay staged until the
next FAB_SEL (DESIGN CHOICE: R154 names only FAB_SEL as discarding them; log entry 97). -/
def State.applyRecord (s : State) (type i : Nat) (ws : List Word) (live : Option Word) (changed : Bool) : State :=
  let s1 := (recordUses type i ws).foldl (fun t e => t.takeClaim e.1 0 e.2 2 0 0) s
  let s2 := s1.modFab (fun f =>
    { f with
      pend := if changed || live.isNone then f.pend ++ [.record type i ws] else f.pend
      valuePend := f.staging type i ws live
      applied := word (f.stepNo + 1) })
  if changed || live.isNone then s2.diverge else s2

/-- FAB_APPLY (R154): REFUSED, HELD, then the change (R370 code 0x03). -/
def State.fabApply (s : State) (origin : Origin) (w : Word) : State × Reply :=
  let f := s.fab
  let type := f.selType.toNat
  let i := f.selIndex.toNat
  let ws := f.toApply
  let live := f.liveValue
  let tooHigh := match live with
    | some v => decide ((ws.getD 1 0#32).toNat < v.toNat)
    | none => false
  let changed := (ws.take (recordWords type)) ≠ (f.recordOf type i).take (recordWords type)
  let held := ((recordUses type i ws).filterMap (fun e => s.heldByOther e.1 0 e.2 2 0)).head?
  if !bit w 0 then (s, .done)
  else guarded s [check (!s.recordOk type i ws || tooHigh) (.refused 0), heldReply held]
    (s.change origin 3 (word (type * 4096 + i)) (crc32 (wordsBytes ws)) (fun t => t.applyRecord type i ws live changed))

/-- FAB_STEPCFG (R155). -/
def State.fabStepcfg (s : State) (origin : Origin) (w : Word) : State × Reply :=
  s.imgWrite origin (.fab .stepcfg) w [refuseLow [(outside 2 (fld w 0 10) 1000, 0)]]
    (fun t => t.modFab (fun f => { f with stepPend := some (fld w 0 10) }))

/-- FAB_SEL (R154). -/
def State.fabSel (s : State) (w : Word) : State × Reply :=
  guarded s [refuseLow [(decide (4 < fld w 12 3), 12), (decide (elementCount (fld w 12 3) ≤ fld w 0 9), 0)]]
    (s.modFab (fun f => { f with selType := BitVec.ofNat 3 (fld w 12 3), selIndex := BitVec.ofNat 9 (fld w 0 9)
                                 staged := Vector.replicate 4 none }), .done)

/-- FAB_WINi stages a word (R154). -/
def State.fabWin (s : State) (k : Fin 4) (w : Word) : State × Reply :=
  (s.modFab (fun f => { f with staged := f.staged.set k.1 (some w) }), .done)

/-! ## Reads and writes (R156) -/

/-- Word `i` of a wide vector. -/
def wideWord {k : Nat} (v : BitVec k) (i : Nat) : Word := v.extractLsb' (32 * i) 32

/-- The place of a host-signal, ACTOUT or window register in its group. -/
def FabReg.ix (r : FabReg) (base : Nat) : Nat := (r.off - base) / 4

/-- A write of a FAB register. Registers without writable fields ignore it (R4). -/
def State.fabWrite (s : State) (origin : Origin) (r : FabReg) (w : Word) : State × Reply :=
  let o := r.off
  if r = .stepcfg then s.fabStepcfg origin w
  else if 0x20 ≤ o ∧ o < 0x30 then
    s.hsigWrite (fun f => { f with hsig := (f.hsig &&& ~~~ atWord (r.ix 0x20) 0xFFFFFFFF#32) ||| atWord (r.ix 0x20) w })
  else if 0x30 ≤ o ∧ o < 0x40 then s.hsigWrite (fun f => { f with hsig := f.hsig ||| atWord (r.ix 0x30) w })
  else if 0x40 ≤ o ∧ o < 0x50 then s.hsigWrite (fun f => { f with hsig := f.hsig &&& ~~~ atWord (r.ix 0x40) w })
  else if 0x50 ≤ o ∧ o < 0x60 then s.hsigWrite (fun f => { f with pulses := f.pulses ||| atWord (r.ix 0x50) w })
  else if r = .flagchgLo then
    s.statusClear origin (.fab r) (w &&& wideWord s.fab.flagChg 0)
      (fun t => t.modFab (fun f => { f with flagChg := f.flagChg &&& ~~~ (w.zeroExtend 64) }))
  else if r = .flagchgHi then
    s.statusClear origin (.fab r) (w &&& wideWord s.fab.flagChg 1)
      (fun t => t.modFab (fun f => { f with flagChg := f.flagChg &&& ~~~ (w.zeroExtend 64 <<< 32) }))
  else if r = .sel then s.fabSel w
  else if r = .apply then s.fabApply origin w
  else if 0x110 ≤ o then s.fabWin (toIdx 4 (r.ix 0x110)) w
  else (s, .done)

/-- A read of a FAB register; FAB_OVR clears (R4). -/
def State.fabRead (s : State) (r : FabReg) : ReadResult :=
  let f := s.fab
  let o := r.off
  if r = .status then
    (word (f.consec.toNat * 16 + b2n f.overrunLast * 4 + b2n f.stopped * 2 + b2n (f.running && !s.rpl.on)), s)
  else if r = .stepcfg then (word (f.stepPend.getD f.stepN), s)
  else if r = .stepLo then (word f.stepNo, s)
  else if r = .stepHi then (word (f.stepNo / 2 ^ 32), s)
  else if r = .eval then (word (f.evalMax.toNat * 65536 + f.evalLast.toNat), s)
  else if r = .ovr then (word f.ovr.toNat, s.modFab (fun f => { f with ovr := 0#16 }))
  else if r = .applied then (f.applied, s)
  else if 0x20 ≤ o ∧ o < 0x30 then (sigWord f.hsig (r.ix 0x20), s)
  else if r = .flagLo then (wideWord f.flags 0, s)
  else if r = .flagHi then (wideWord f.flags 1, s)
  else if r = .flagchgLo then (wideWord f.flagChg 0, s)
  else if r = .flagchgHi then (wideWord f.flagChg 1, s)
  else if 0x80 ≤ o ∧ o < 0xC0 then (wideWord f.actOut (r.ix 0x80), s)
  else if r = .sel then (word (f.selType.toNat * 4096 + f.selIndex.toNat), s)
  else if 0x110 ≤ o then (f.window (r.ix 0x110), s)
  else (0#32, s)

/-- The network signals completion (R148): its time is that of the step in progress until the step commits (R156). -/
def execEvaluationComplete (tenNs : BitVec 16) (s : State) : Host.Outcome State Fault Refusal :=
  ok <| whenDo (s.fab.running && !s.fab.evalDone)
    (fun s => s.modFab (fun f => { f with
      evalDone := true, evalNow := tenNs, evalMax := if f.evalMax.toNat < tenNs.toNat then tenNs else f.evalMax })) s

end Sys2Proof.Machine
end

