-- ==== Sys2Proof/Machine/ChanWrites.lean ====
section
/-! DEFINITION. Writes of the registers of a channel: function changes, parameters, setpoints, counts and calibration
(R169, R176, R183, R188, R212, R219, R230, R233, R244, R262, R266, R508). -/

namespace Sys2Proof.Machine

/-! ## Parameters that a function uses (R183, R189, R213, R244, R245) -/

/-- The fields of CHn_AN_CFG that a function uses and that break R245. -/
def anCfgBad (func : Nat) (c : ChanCfg) : List (Bool × Nat) :=
  [(func = 11 && outside 80 c.vLoop 240, 20), (func = 12 && outside 1 c.exc 10, 16),
   ((func = 7 || func = 10 || func = 11) && c.ne43 && c.ne43Time = 0, 8),
   ((func = 8 || func = 12) && decide (1 < c.range), 0),
   ((func = 10 || func = 11) && c.ne43 && c.multidrop, 2)]

/-- The range of CHn_AN_SET for a function (R219). R219 names outputs, analog inputs and OFF; under a digital, TOUCH or PLUG function the model
takes the range of OFF (DESIGN CHOICE, log entry 135). -/
def setRange (func range : Nat) : Int × Int :=
  if func = 7 then (0, 24000000)
  else if func = 8 then (if range = 1 then (-11000000, 11000000) else (0, 11000000))
  else (-11000000, 24000000)

def setOutside (func range : Nat) (v : Word) : Bool :=
  !(decide ((setRange func range).1 ≤ v.toInt) && decide (v.toInt ≤ (setRange func range).2))

/-- T2 is enabled on a channel's Ring: bipolar AO_V needs it (R221). -/
def State.t2On (s : State) (n : Fin 16) : Bool := bit (s.ring (ringOf n)).pwrcfg 1

/-- The tap supply of a channel's Ring holds T2 (R205, R221). -/
def State.t2Claimed (s : State) (n : Fin 16) : Bool :=
  match s.holder 8 (n.1 / 8) 2 with
  | some c => c.heldBy 3 (n.1 / 8)
  | none => false

/-- The input parameters that a function uses and that break R184. -/
def diParamsBad (c : ChanCfg) : Bool :=
  let f := c.func
  isDi f && ((f ≠ 2 && outside 1 c.iSink 30) || (f = 2 && c.diLineMon) || (f = 1 && c.wetting && outside 10 c.wetI 50)
    || (f ≠ 2 && c.diType = 3 && (outside 30 c.vOn 300 || outside 20 c.vOff (c.vOn - 10)))
    || outside 10 c.hold 500 || decide (10000 < c.debounce) || c.chatWin = 0 || c.chatLimit = 0
    || (f = 3 && (decide (4 < c.cntMode) || (c.cntMode ≠ 0 && c.partner = 31) || (decide (c.cntMode ≤ 1) && c.edge = 0) || c.minPulse = 0)))

/-- The touch and plug parameters that a function uses and that break R267. -/
def touchParamsBad (c : ChanCfg) : Bool :=
  (c.func = 13 && (decide (c.thOn < 5) || c.thOff = 0 || decide (c.thOn ≤ c.thOff) || c.touchN = 0 || c.releaseN = 0 || decide (c.drift < 6)))
    || (c.func = 14 && (c.unplugN = 0 || c.replugStable = 0 || decide (450 < c.loopMax) || decide (c.loopMax < c.loopMin)))

/-- A PLUG channel of the Ring other than `but` guards channel `n` (R260). -/
def State.guardedBy (s : State) (n : Fin 16) (but : Option (Fin 16)) : Bool :=
  (ringChs (ringOf n)).any (fun g => but ≠ some g && (s.chan g).cfg.func = 14 && (s.chan g).cfg.guard.testBit (n.1 % 8))

/-- A guard mask breaks R262 on channel `n`. -/
def State.guardBad (s : State) (n : Fin 16) (guard : Nat) : Bool :=
  (ringChs (ringOf n)).any (fun m => guard.testBit (m.1 % 8) &&
    (m = n || !(s.chan m).cfg.pluggable || s.guardedBy m (some n)))

/-- The registers' parameters break a rule of the new function: they are checked together at the FUNC write (R183, R212, R244). -/
def State.paramsBad (s : State) (n : Fin 16) (c : ChanCfg) : Bool :=
  let f := c.func
  diParamsBad c || touchParamsBad c
    || (f = 14 && (s.guardBad n c.guard || (c.guard ≠ 0 && !c.pluggable)))
    || (isDo f && outside 25 c.iLim (if f = 5 then 100 else 250))
    || (f = 6 && decide (c.period < slewMin c.slew))
    || (isAn f && ((lowest (anCfgBad f c)).isSome || (isAo f && setOutside f c.range (s.chan n).cmd.anSet)))
    || (f = 8 && c.range = 1 && !s.t2On n)

/-! ## Guards and lit partners (R256, R262, R266) -/

/-- Channel `n` may be the lit partner of a TOUCH channel with these registers (R256). -/
def litOk (c : ChanCfg) : Bool := isDo c.func && (c.func ≠ 6 || decide (140 ≤ c.period))

/-- The TOUCH neighbour that names the channel as its partner would lose a lawful partner (R266). -/
def State.breaksLit (s : State) (n : Fin 16) (c : ChanCfg) : Bool :=
  let m := (s.chan (mate n)).cfg
  m.func = 13 && m.partner = n.1 && !litOk c

/-! ## Claims of a function (R128, R173, R198, R236) -/

/-- Force and sense pads of a channel (R38). -/
def pads (n : Fin 16) : List Nat := channelPads n.1

/-- The function takes its partner's pads (R173, R198). -/
def ChanCfg.takesMate (c : ChanCfg) : Bool := c.partner ≠ 31 && (c.func = 3 || (c.ganged && isDo c.func))

/-- The function holds the Ring's modem (R236). -/
def ChanCfg.wantsModem (c : ChanCfg) : Bool := c.fsk && (c.func = 7 || c.func = 10 || c.func = 11)

/-- The pads that a function uses. -/
def ChanCfg.padsUsed (c : ChanCfg) (n : Fin 16) : List Nat :=
  if c.func = 0 then [] else pads n ++ (if c.takesMate then pads (mate n) else [])

/-- The first resource of a function that another holder has (R128). -/
def State.funcHeld (s : State) (n : Fin 16) (c : ChanCfg) : Option Word :=
  let x := n.1 / 8
  match ((c.padsUsed n).filterMap (fun p => s.heldByOther 1 x p 1 n.1)).head? with
  | some w => some w
  | none => if c.wantsModem then s.heldByOther 7 x 0 1 n.1 else none

/-- RINGx_FSK_CFG and the modem's channel go to the Ring (R13, R236). -/
def State.sendFsk (s : State) (x : RingId) : State := s.sendRing x (.fskCfg (s.ring x).fskcfg (s.ring x).fskch)

/-- The channel that holds the modem (R236, R248), 31 for none. -/
def State.modemChannel (s : State) (x : RingId) : BitVec 5 :=
  match s.holder 7 (ringIx x) 0 with
  | some c => if c.hclass = 1 then BitVec.ofNat 5 c.hindex else 31#5
  | none => 31#5

/-- The modem's channel follows its claim (R248). -/
def State.syncModem (s : State) (x : RingId) : State :=
  if s.modemChannel x = (s.ring x).fskch then s
  else (s.modRing x (fun r => { r with fskch := s.modemChannel x })).sendFsk x

/-- The claims of a channel follow its registers (R128). -/
def State.syncClaims (s : State) (n : Fin 16) (c : ChanCfg) : State :=
  let x := n.1 / 8
  let used := c.padsUsed n
  let s1 := (pads n ++ pads (mate n)).foldl
    (fun t p => if used.contains p then t.takeClaim 1 x p 1 n.1 0 else t.freeClaim 1 x p 1 n.1) s
  let s2 := if c.wantsModem then s1.takeClaim 7 x 0 1 n.1 0 else s1.freeClaim 7 x 0 1 n.1
  s2.syncModem (ringOf n)

/-! ## CHn_MODE (R183, R508) -/

/-- The refused fields of CHn_MODE (R183, R212, R244, R262, R266). -/
def State.modeBad (s : State) (n : Fin 16) (w : Word) : List (Bool × Nat) :=
  let old := (s.chan n).cfg
  let c := { old with mode := w }
  let f := c.func
  let changes := f ≠ old.func || c.partner ≠ old.partner || c.ganged ≠ old.ganged
  [(f = 15, 0), (changes && s.paramsBad n c, 0), (old.func = 14 && f ≠ 14 && old.guard ≠ 0, 0),
   (changes && s.breaksLit n c, 0),
   (c.partner ≠ 31 && c.partner ≠ (mate n).1, 8), (isAn f && c.partner ≠ 31, 8),
   (f = 13 && c.partner = (mate n).1 && !litOk (s.chan (mate n)).cfg, 8),
   (c.wetting && f ≠ 1, 16), (c.ganged && (!isDo f || c.partner ≠ (mate n).1), 16),
   (c.ganged && isDo f && c.partner = (mate n).1 && (s.chan (mate n)).cfg.func ≠ 0, 16),
   (isAn f && (c.shedFlag || c.ganged || c.pluggable || c.wetting), 16),
   (!c.pluggable && old.pluggable && s.guardedBy n none, 16),
   (!c.pluggable && f = 14 && old.guard ≠ 0, 16)]

/-- HELD by another function's pads or modem, by a binding that the new function cannot have, or for the rail T2 that bipolar AO_V needs
and the tap supply does not hold (R145, R183, R212, R244). -/
def State.modeHeld (s : State) (n : Fin 16) (w : Word) : Option Word :=
  let old := (s.chan n).cfg
  let c := { old with mode := w }
  let mine := ((pads n).filterMap (fun p => (s.holder 1 (n.1 / 8) p).bind (fun k =>
    if k.hclass = 1 && k.hindex ≠ n.1 then some k.code else none))).head?
  match mine with
  | some h => some h
  | none =>
    if (s.driveBound n && !isOut c.func) || (s.altBound n && c.func ≠ 6) then some boundCode
    else if c.func = 8 && c.range = 1 && !s.t2Claimed n then some (s.holderCode 8 (n.1 / 8) 2)
    else s.funcHeld n c

/-- Writable bits of CHn_MODE. -/
def modeMask : Word := 0x0F1F1F0F#32

/-- The registers with a mode word in force. -/
def ChanCfg.withMode (c : ChanCfg) (w : Word) : ChanCfg := { c with mode := w &&& modeMask }

/-- An accepted write of CHn_MODE: the register map, the claims, the end of arming (R232), and what waits for the next
start tick (R183, R508). -/
def State.modeEffect (s : State) (n : Fin 16) (w : Word) : State :=
  let old := (s.chan n).cfg
  let c := old.withMode w
  let changes := c.func ≠ old.func || c.partner ≠ old.partner || c.ganged ≠ old.ganged
  let s1 := s.modChan n (fun ch =>
    if changes then { ch with cfg := c, change := some c.mode } else { ch with cfg := c, modeParams := some c.mode })
  let s2 := if changes then s1.syncClaims n c else s1
  if s.svc.ch = n then s2.disarm else s2

/-- A write of CHn_MODE (R183). -/
def State.writeMode (s : State) (origin : Origin) (n : Fin 16) (w : Word) : State × Reply :=
  s.imgWrite origin (.ch n .mode) w [refuseLow (s.modeBad n w), heldReply (s.modeHeld n w)] (fun t => t.modeEffect n w)

/-! ## Parameter registers -/

/-- A configuration register of a channel, by its place in `ChanCfg`, with its writable bits. -/
def ChanCfg.setReg (c : ChanCfg) (r : ChReg) (w : Word) : ChanCfg :=
  match r with
  | .diCfg => { c with diCfg := w &&& 0x3F071F03#32 }
  | .diTime => { c with diTime := w &&& 0x01FF3FFF#32 }
  | .diVth => { c with diVth := w &&& 0x03FF03FF#32 }
  | .diChat => { c with diChat := w &&& 0x0000FFFF#32 }
  | .diCntcfg => { c with diCntcfg := w &&& 0x0000FF37#32 }
  | .doCfg => { c with doCfg := w }
  | .doPwm => { c with doPwm := w &&& 0x0001FFFF#32 }
  | .doDuty => { c with doDuty := w }
  | .anCfg => { c with anCfg := w &&& 0x9FFFFF3F#32 }
  | .anZref => { c with zref := w }
  | .anSref => { c with sref := w }
  | .tchCfg => { c with tchCfg := w &&& 0xFFFFF001#32 }
  | .tchTh => { c with tchTh := w &&& 0x0FFF0FFF#32 }
  | .plgCfg => { c with plgCfg := w &&& 0xFFF8FF00#32 }
  | .plgWin => { c with plgWin := w &&& 0x01FF01FF#32 }
  | _ => c

/-- The registers of a function group are written while FUNC is OFF or of the group (R185, R212, R244, R266). -/
def regOpen (r : ChReg) (func : Nat) : Bool :=
  let o := r.off
  func = 0 || (if o < 0x080 then isDi func else if o < 0x0C0 then isDo func else if o < 0x100 then isAn func
    else func = 13 || func = 14)

/-- The refused fields of a parameter write: `c` are the registers after it. A write of RANGE on a running AO_V does not check SET, which R244
names for a write of FUNC only (DESIGN CHOICE, log entry 136). -/
def State.paramBad (s : State) (n : Fin 16) (r : ChReg) (c : ChanCfg) : List (Bool × Nat) :=
  let f := c.func
  match r with
  | .diCfg => [(outside 10 c.wetI 50, 24), (f = 2 && c.diLineMon, 17), (outside 1 c.iSink 30, 8)]
  | .diTime => [(outside 10 c.hold 500, 16), (decide (10000 < c.debounce), 0)]
  | .diVth => [(outside 20 c.vOff 300 || decide (c.vOn < c.vOff + 10), 16), (outside 30 c.vOn 300, 0)]
  | .diChat => [(c.chatWin = 0, 8), (c.chatLimit = 0, 0)]
  | .diCntcfg => [(c.minPulse = 0, 8), (c.edge = 0, 4), (decide (4 < c.cntMode) || (f = 3 && c.cntMode ≠ 0 && c.partner = 31), 0)]
  | .doCfg => [(c.offBlank = 0, 24), (outside 5 c.iOl 100, 16),
      (c.slew = 3 || (f = 6 && decide (c.period < slewMin c.slew)), 12), (decide (10 < c.inrush), 8),
      (outside 25 c.iLim (if f = 5 then 100 else 250), 0)]
  | .doPwm => [(outside 40 c.period 100000 || decide (c.period < slewMin c.slew) || s.breaksLit n c, 0)]
  | .anCfg => anCfgBad f c ++ [(f = 8 && c.range = 1 && !(s.t2On n && s.t2Claimed n), 0)]
  | .anZref | .anSref => [(decide (c.zref.toInt < 0 ∨ c.sref.toInt < c.zref.toInt + 1000000 ∨ 24000000 < c.sref.toInt), 0)]
  | .tchCfg => [(decide (c.drift < 6), 20), (c.touchN = 0, 16), (c.releaseN = 0, 12)]
  | .tchTh => [(c.thOff = 0 || decide (c.thOn ≤ c.thOff), 16), (decide (c.thOn < 5), 0)]
  | .plgCfg => [(c.replugStable = 0, 24), (c.unplugN = 0, 20), (s.guardBad n c.guard || (f = 14 && c.guard ≠ 0 && !c.pluggable), 8)]
  | .plgWin => [(decide (450 < c.loopMax), 16), (decide (c.loopMax < c.loopMin), 0)]
  | _ => []

/-- EXC, MULTIDROP and RANGE of CHn_AN_CFG: a change of one zero-fills the filter history (R226, R296). -/
def gainMask : Word := 0x000F0013#32

/-- A write of a parameter register: a change that reaches the Ring (R169, R185, R215, R246, R268). -/
def State.writeParam (s : State) (origin : Origin) (n : Fin 16) (r : ChReg) (w : Word) : State × Reply :=
  let c := (s.chan n).cfg.setReg r w
  let held := if r = .anCfg && c.wantsModem then s.heldByOther 7 (n.1 / 8) 0 1 n.1 else none
  s.imgWrite origin (.ch n r) w
    [check (!regOpen r c.func) (.notNow 0#32), refuseLow (s.paramBad n r c), heldReply held]
    (fun t =>
      let t1 := ((t.modChan n (fun ch => { ch with cfg := c })).syncClaims n c).sendCfg n
      if (c.anCfg ^^^ (s.chan n).cfg.anCfg) &&& gainMask ≠ 0#32 then t1.restartChain n else t1)

/-! ## Setpoints (R127, R145, R188, R219) -/

/-- A setpoint write is held for the next capture frame (R390) and sent to the Ring. -/
def State.setpoint (s : State) (origin : Origin) (n : Fin 16) (r : ChReg) (w : Word) (f : Chan → Chan) : State :=
  ((s.modChan n f).modFab (fun b => { b with setpoints := b.setpoints ++ [((Reg.ch n r).addr, origin, w)] })).sendSetpoint n

/-- REPLAY mode refuses setpoints (R400). -/
def State.replayCheck (s : State) : Option Reply := check s.rpl.on (.notNow 0#32)

/-- CHn_DO_CMD (R188): HELD where it would change a field that the fabric drives (R145). -/
def State.writeDoCmd (s : State) (origin : Origin) (n : Fin 16) (w : Word) : State × Reply :=
  let c := s.chan n
  let f := c.cfg.func
  guarded s
    [check (!regOpen .doCmd f) (.notNow 0#32), refuseLow [(bit w 1 && (f = 4 || f = 5), 1)],
     check ((s.driveBound n && bit w 0 ≠ c.cmd.hostOn) || (s.altBound n && bit w 1 ≠ c.cmd.hostAlt)) (.held boundCode),
     s.replayCheck]
    (s.setpoint origin n .doCmd w (fun c => { c with cmd := { c.cmd with doCmd := w &&& 3#32 } }), .done)

/-- CHn_DO_DUTY (R190). -/
def State.writeDoDuty (s : State) (origin : Origin) (n : Fin 16) (w : Word) : State × Reply :=
  guarded s [check (!regOpen .doDuty (s.chan n).cfg.func) (.notNow 0#32), s.replayCheck]
    ((s.setpoint origin n .doDuty w (fun c => { c with cfg := { c.cfg with doDuty := w } })).sendCfg n, .done)

/-- CHn_AN_CMD (R219). -/
def State.writeAnCmd (s : State) (origin : Origin) (n : Fin 16) (w : Word) : State × Reply :=
  guarded s [check (s.driveBound n && bit w 0 ≠ (s.chan n).cmd.anOn) (.held boundCode), s.replayCheck]
    (s.setpoint origin n .anCmd w (fun c => { c with cmd := { c.cmd with anCmd := w &&& 1#32 } }), .done)

/-- CHn_AN_SET (R219). -/
def State.writeAnSet (s : State) (origin : Origin) (n : Fin 16) (w : Word) : State × Reply :=
  let c := (s.chan n).cfg
  guarded s [refuseLow [(setOutside c.func c.range w, 0)], s.replayCheck]
    (s.setpoint origin n .anSet w (fun c => { c with cmd := { c.cmd with anSet := w } }), .done)

/-! ## Counts (R176, R209) -/

/-- CHn_DI_COUNT and CHn_DO_SWCNT: changes that the Ring applies, at link-up where its link is down; the switching count is
kept with the channel. -/
def State.writeCount (s : State) (origin : Origin) (n : Fin 16) (r : ChReg) (w : Word) : State × Reply :=
  guarded s [check (!regOpen r (s.chan n).cfg.func) (.notNow 0#32)]
    (s.changeWrite origin (.ch n r) w (fun t =>
      t.modRing (ringOf n) (fun g => { g with cmdq := g.cmdq ++ [(if r = .diCount then .count n w else .swcnt n w, 0)] })))

/-! ## Zero, span and trim (R229, R230, R233) -/

/-- Zero and span apply to the channel (R229, R230). -/
def ChanCfg.zsAllowed (c : ChanCfg) : Bool := c.func = 7 || (c.func = 10 && !c.multidrop)

/-- A direct write of ZCAP or SCAP (R230, checked as code 8). -/
def State.writeCap (s : State) (origin : Origin) (n : Fin 16) (r : ChReg) (w : Word) : State × Reply :=
  let c := s.chan n
  let bad := if r = .anZcap then capRefused c.cfg w.toInt c.an.scap.toInt else capRefused c.cfg c.an.zcap.toInt w.toInt
  guarded s [refuseLow [(!c.cfg.zsAllowed || bad, 0)]]
    (s.changeWrite origin (.ch n r) w (fun t =>
      t.calChanged n (fun a => if r = .anZcap then { a with zcap := w } else { a with scap := w })))

/-- CHn_AN_ZSCMD (R230): one command at a time. -/
def State.writeZscmd (s : State) (origin : Origin) (n : Fin 16) (w : Word) : State × Reply :=
  let b := fld w 0 3
  if b = 0 then (s, .done)
  else if b = 4 then
    guarded s [check (!(s.chan n).cfg.zsAllowed) (.refused 2)]
      (s.changeWrite origin (.ch n .anZscmd) w (fun t => t.zsClear n))
  else if b = 1 ∨ b = 2 then
    let (v, t) := s.loopValue n
    t.commandCapture origin n (b = 2) v
  else (s, .refused 0)

/-- The range of a trim field (R233). -/
def trimBad (func : Nat) (gain : Bool) (v : Int) : Bool :=
  let m : Int := if gain then 50000 else if func = 7 then 500000 else 100000
  !isAo func || decide (m < v.natAbs)

/-- CHn_AN_TRIM_OFS and CHn_AN_TRIM_GAIN (R233). -/
def State.writeTrim (s : State) (origin : Origin) (n : Fin 16) (gain : Bool) (w : Word) : State × Reply :=
  guarded s [refuseLow [(trimBad (s.chan n).cfg.func gain w.toInt, 0)]]
    (s.changeWrite origin (.ch n (if gain then .anTrimGain else .anTrimOfs)) w (fun t => t.trimWrite n gain w))

/-! ## Status clears -/

/-- Members at the bit positions of a diagnostic register: the lowest position and the member of each bit from it up
(R179, R211, R242, R263). -/
def diagMembers (r : ChReg) : Nat × List Nat :=
  match r with
  | .diDiag => (7, [25, 5, 12, 13, 4, 26, 14])
  | .doDiag => (8, [1, 2, 3, 6, 7, 4, 24])
  | .anDiag => (8, [15, 8, 27, 16, 17, 9, 5, 13, 18, 19, 2, 4])
  | .tchDiag => (8, [10, 20, 28])
  | .plgDiag => (8, [11, 21, 22, 23, 29])
  | _ => (0, [])

/-- A diagnostic register's bits from a mask over members. -/
def diagWord (r : ChReg) (mask : BitVec 32) : Word :=
  word ((diagMembers r).2.zipIdx.foldl (fun a p => a + bitAt (mask.getLsbD p.1) ((diagMembers r).1 + p.2)) 0)

/-- The members that a word names. -/
def diagMask (r : ChReg) (w : Word) : BitVec 32 :=
  bitsOf 32 (fun m => (diagMembers r).2.zipIdx.any (fun p => p.1 = m && bit w ((diagMembers r).1 + p.2)))

/-- The sticky mask of a diagnostic register. -/
def Chan.sticky (c : Chan) (r : ChReg) : BitVec 32 :=
  match r with
  | .diDiag => c.diSticky
  | .doDiag => c.doSticky
  | .anDiag => c.anSticky
  | .tchDiag => c.tchSticky
  | _ => c.plgSticky

def Chan.clearSticky (c : Chan) (r : ChReg) (m : BitVec 32) : Chan :=
  match r with
  | .diDiag => { c with diSticky := c.diSticky &&& ~~~ m }
  | .doDiag => { c with doSticky := c.doSticky &&& ~~~ m }
  | .anDiag => { c with anSticky := c.anSticky &&& ~~~ m }
  | .tchDiag => { c with tchSticky := c.tchSticky &&& ~~~ m }
  | _ => { c with plgSticky := c.plgSticky &&& ~~~ m }

/-- The place of a word that a Ring keeps of a channel in `Ring.shown`. -/
def shownAt (n : Fin 16) (j : Nat) : Nat := 57 + 12 * (n.1 % 8) + j

/-- The place of a diagnostic register among the words of a channel. -/
def diagPlace (r : ChReg) : Nat :=
  match r with
  | .diDiag => 0
  | .doDiag => 1
  | .anDiag => 2
  | .tchDiag => 3
  | _ => 4

/-- A diagnostic register as the host die holds it (R7, R16). -/
def State.stickyWord (s : State) (n : Fin 16) (r : ChReg) : Word :=
  s.heldWord (ringOf n) (shownAt n (diagPlace r)) 0#32 (diagWord r ((s.chan n).sticky r))

/-- A W1C write of a diagnostic register (R5, R185, R215, R246, R268): it clears what the register shows (log entry 134). -/
def State.clearDiag (s : State) (origin : Origin) (n : Fin 16) (r : ChReg) (w : Word) : State × Reply :=
  let m := diagMask r (w &&& s.stickyWord n r)
  guarded s [check (r ≠ .anDiag && !regOpen r (s.chan n).cfg.func) (.notNow 0#32)] <|
    s.statusClear origin (.ch n r) (diagWord r m)
      (fun t => (t.dropShown (ringOf n) (shownAt n (diagPlace r)) (diagWord r m)).modChan n (fun c => c.clearSticky r m))

/-! ## RESEED (R254) -/

/-- Seeding of a touch baseline starts (R254). -/
def Touch.startSeed (t : Touch) : Touch :=
  { t with seeded := false, seedCount := 0, seedSum := 0, touched := false, onRun := 0, offRun := 0, negRun := 0, held := 0 }

/-- RESEED reaches the Ring (R254): B takes the latest C, seeding starts anew, and a set TOUCHED clears with FALL (R264), its entry with
LEAD 0 (DESIGN CHOICE, log entry 93). -/
def State.takeReseed (s : State) (n : Fin 16) : State :=
  if (s.chan n).rng.func = 13 then
    let s1 := s.modChan n (fun c => { c with tch := { c.tch.startSeed with base8 := c.tch.c.toNat * 256 } })
    if (s.chan n).tch.touched then s1.sendChange n false false 0#32 else s1
  else s

/-- CHn_TCH_CMD.RESEED (R254): not a change, recorded as an event, and sent to the Ring. -/
def State.writeTchCmd (s : State) (origin : Origin) (n : Fin 16) (w : Word) : State × Reply :=
  guarded s [check (!regOpen .tchCmd (s.chan n).cfg.func) (.notNow 0#32)]
    (if bit w 0 && (s.chan n).cfg.func = 13 then
      ((s.sendRing (ringOf n) (.reseed n)).event 0x12 5 origin (word n.1) 0#32, .done)
     else (s, .done))

/-- A write of a channel register. Registers without writable fields ignore it (R4); those of a closed group refuse it (R185, R212,
R266). -/
def State.chWrite (s : State) (origin : Origin) (n : Fin 16) (r : ChReg) (w : Word) : State × Reply :=
  match r with
  | .mode => s.writeMode origin n w
  | .diCfg | .diTime | .diVth | .diChat | .diCntcfg | .doCfg | .doPwm | .anCfg | .anZref | .anSref | .tchCfg | .tchTh
  | .plgCfg | .plgWin => s.writeParam origin n r w
  | .doCmd => s.writeDoCmd origin n w
  | .doDuty => s.writeDoDuty origin n w
  | .anCmd => s.writeAnCmd origin n w
  | .anSet => s.writeAnSet origin n w
  | .diCount | .doSwcnt => s.writeCount origin n r w
  | .anZcap | .anScap => s.writeCap origin n r w
  | .anZscmd => s.writeZscmd origin n w
  | .anTrimOfs => s.writeTrim origin n false w
  | .anTrimGain => s.writeTrim origin n true w
  | .diDiag | .doDiag | .anDiag | .tchDiag | .plgDiag => s.clearDiag origin n r w
  | .tchCmd => s.writeTchCmd origin n w
  | .diStat | .diErrcnt | .diLastacc | .doStat | .doMeas | .doErrcnt | .tchC | .tchBase | .tchStat | .plgStat | .plgCnt =>
    guarded s [check (!regOpen r (s.chan n).cfg.func) (.notNow 0#32)] (s, .done)
  | .anMeas | .anStat | .anCalinfo => (s, .done)

end Sys2Proof.Machine
end

