-- ==== Sys2Proof/Machine/ChanReads.lean ====
section
/-! DEFINITION. Reads of the registers of a channel, and the RINGA, RINGB and SVC blocks (R58, R185, R215, R216, R246 to
R248, R268). -/

namespace Sys2Proof.Machine

/-- A measured value: the next free word, of which `bits` bits are kept (R8, log entry 6). -/
def State.measured (s : State) (bits : Nat) : ReadResult := (word (s.free.1.toNat % 2 ^ bits), s.free.2)

/-! ## Status words of a channel -/

/-- Live diagnostics at the positions of a register, up to a bit. -/
def Chan.liveWord (c : Chan) (r : ChReg) (top : Nat) : Nat := (diagWord r c.live).toNat % 2 ^ (top + 1)

/-- CHn_DI_STAT (R180, R185). -/
def State.diStat (s : State) (n : Fin 16) : Word :=
  let c := s.chan n
  let i := c.inp
  if !isDi c.rng.func then 0#32
  else word (b2n i.bState * 4096 + c.liveWord .diDiag 11 + b2n (s.sinking n) * 64 + b2n i.inPulse * 32
    + b2n i.holdStart.isSome * 16 + b2n (i.deb.getD false) * 8 + b2n i.raw * 4 + b2n i.valid * 2 + b2n i.state)

/-- CHn_DO_STAT (R215). LIMITING is measured on the Ring, `lim` for a stage that drives on either side (R191, R194). -/
def State.doStat (s : State) (n : Fin 16) (lim : Bool) : Word :=
  let c := s.chan n
  let g := c.stage
  if !isDo c.rng.func then 0#32
  else word (c.liveWord .doDiag 14 + b2n (g.extDriven && !(s.ring (ringOf n)).rrole.may) * 32 + b2n g.blankStart.isSome * 16
    + b2n g.shed * 8 + b2n g.inrushStart.isSome * 4 + b2n ((g.on || g.drive = .pulldown) && lim) * 2 + b2n g.on)

/-- CHn_AN_STAT (R246). -/
def State.anStat (s : State) (n : Fin 16) : Word :=
  let c := s.chan n
  let f := c.rng.func
  let k := (s.ring (ringOf n)).fsk
  let on := (s.ring (ringOf n)).fskOn n
  if !isAn f then 0#32
  else word ((if c.rng.ne43 && (f = 10 || f = 11) then c.an.region.toNat else 0) * 1048576 + c.liveWord .anDiag 19
    + b2n (on && k.cd) * 64 + b2n (on && k.state = .sending) * 32 + b2n (c.an.trimFunc.toNat = f) * 16
    + b2n (c.an.zsFunc.toNat = f) * 8 + b2n c.clamped * 4 + b2n (isAi f && c.an.measFlags.getLsbD 3) * 2
    + b2n (if isAo f then c.stage.on else s.aiState n))

/-- CHn_TCH_STAT (R268). -/
def State.tchStat (s : State) (n : Fin 16) : Word :=
  let c := s.chan n
  if c.rng.func ≠ 13 then 0#32
  else word (b2n (c.live.getLsbD 20) * 512 + b2n (c.live.getLsbD 10) * 256 + b2n (!c.tch.seeded && s.ringRuns n && !c.latch) * 4
    + b2n c.tch.seeded * 2 + b2n c.tch.touched)

/-- CHn_PLG_STAT (R268). -/
def State.plgStat (s : State) (n : Fin 16) : Word :=
  let c := s.chan n
  if c.rng.func ≠ 14 then 0xFFFF0000#32
  else word (c.plg.r.toNat * 65536 + c.liveWord .plgDiag 11 + c.plg.state.toNat)

/-- CHn_DO_MEAS (R215): CURRENT is measured; PEAK is the highest average since the last read, 0 for a stage that has not driven since. -/
def State.doMeas (s : State) (n : Fin 16) : ReadResult :=
  let g := (s.chan n).stage
  let peak := if isDo (s.chan (s.lead n)).rng.func && (g.ran || (g.drive ≠ .off && (s.ring (ringOf n)).fresh)) then s.free.1.toNat / 65536 else 0
  (word (peak * 65536 + s.free.1.toNat % 65536),
    s.free.2.modChan n (fun c => { c with stage := { c.stage with ran := c.stage.drive ≠ .off } }))

/-- The live status words of one channel: DI, DO, AN, TCH and PLG. -/
def State.chanStats (s : State) (n : Fin 16) : List Word :=
  [s.diStat n, s.doStat n (bit s.free.1 n.1), s.anStat n, s.tchStat n, s.plgStat n]

/-- A status word of a channel as the host die holds it (R7): `j` is its place in `chanStats`. -/
def State.chanStat (s : State) (n : Fin 16) (j : Nat) (reset : Word := 0#32) : Word :=
  s.heldWord (ringOf n) (5 + 5 * (n.1 % 8) + j) reset ((s.chanStats n).getD j reset)

/-- The sticky bits, counts and values of one channel that its Ring keeps and sends (R16): the five diagnostic registers, DI_ERRCNT,
DI_LASTACC, DO_SWCNT, DO_ERRCNT, TCH_C, TCH_BASE and PLG_CNT. -/
def Chan.ringWords (c : Chan) : List Word :=
  [diagWord .diDiag c.diSticky, diagWord .doDiag c.doSticky, diagWord .anDiag c.anSticky, diagWord .tchDiag c.tchSticky, diagWord .plgDiag c.plgSticky,
   word (c.errQuad.toNat * 65536 + c.errChatter.toNat), c.inp.lastAcc, c.stage.swcnt, word (c.errRetries.toNat * 65536 + c.errTrips.toNat), c.tch.c,
   word ((c.tch.base8 + 128) / 256), word (c.plg.bounce.toNat * 65536 + c.plg.unplugs.toNat)]

/-- A word of `ringWords` as the host die holds it (R7, R16). -/
def State.ringWord (s : State) (n : Fin 16) (j : Nat) : Word :=
  s.heldWord (ringOf n) (shownAt n j) 0#32 ((s.chan n).ringWords.getD j 0#32)

/-- A clearing read takes what it shows from a count of two fields; what the Ring counted since the link was lost stays (R4, R16; log entry
134). -/
def lessShown {k : Nat} (x : BitVec k) (w : Word) (lo : Nat) : BitVec k := BitVec.ofNat k (x.toNat - fld w lo k)

/-- A clearing read of a word of `ringWords`. -/
def State.clearRead (s : State) (n : Fin 16) (j : Nat) (f : Word → Chan → Chan) : ReadResult :=
  (s.ringWord n j, (s.dropShown (ringOf n) (shownAt n j) (s.ringWord n j)).modChan n (f (s.ringWord n j)))

/-- A read of a channel register (R185, R215, R246, R268). -/
def State.chRead (s : State) (n : Fin 16) (r : ChReg) : ReadResult :=
  let c := s.chan n
  let k := c.cfg
  match r with
  | .mode => (k.mode, s)
  | .diCfg => (k.diCfg, s)
  | .diTime => (k.diTime, s)
  | .diVth => (k.diVth, s)
  | .diChat => (k.diChat, s)
  | .diCntcfg => (k.diCntcfg, s)
  | .diCount => (c.hostCount, s)
  | .diStat => (s.chanStat n 0, s)
  | .diErrcnt =>
    s.clearRead n 5 (fun w c => { c with errQuad := lessShown c.errQuad w 16, errChatter := lessShown c.errChatter w 0 })
  | .diLastacc => (s.ringWord n 6, s)
  | .doCfg => (k.doCfg, s)
  | .doCmd => (c.cmd.doCmd, s)
  | .doPwm => (k.doPwm, s)
  | .doDuty => (k.doDuty, s)
  | .doStat => (s.chanStat n 1, s.free.2)
  | .doMeas => s.doMeas n
  | .doSwcnt => (s.ringWord n 7, s)
  | .doErrcnt =>
    s.clearRead n 8 (fun w c => { c with errRetries := lessShown c.errRetries w 16, errTrips := lessShown c.errTrips w 0 })
  | .anCfg => (k.anCfg, s)
  | .anCmd => (c.cmd.anCmd, s)
  | .anSet => (c.cmd.anSet, s)
  | .anMeas => (if s.pair.standby && (c.func = 11 || c.func = 12) then 0#32 else c.an.meas, s)
  | .anStat => (s.chanStat n 2, s)
  | .diDiag | .doDiag | .anDiag | .tchDiag | .plgDiag => (s.stickyWord n r, s)
  | .anZref => (k.zref, s)
  | .anSref => (k.sref, s)
  | .anZcap => (c.an.zcap, s)
  | .anScap => (c.an.scap, s)
  | .anTrimOfs => (c.an.trimOfs, s)
  | .anTrimGain => (c.an.trimGain, s)
  | .anCalinfo => (word ((s.svc.lastRefusal[n.1]).toNat * 256 + c.an.trimFunc.toNat * 16 + c.an.zsFunc.toNat), s)
  | .tchCfg => (k.tchCfg, s)
  | .tchTh => (k.tchTh, s)
  | .tchC => (s.ringWord n 9, s)
  | .tchBase => (s.ringWord n 10, s)
  | .tchStat => (s.chanStat n 3, s)
  | .plgCfg => (k.plgCfg, s)
  | .plgWin => (k.plgWin, s)
  | .plgStat => (s.chanStat n 4 0xFFFF0000#32, s)
  | .plgCnt =>
    s.clearRead n 11 (fun w c => { c with plg := { c.plg with bounce := lessShown c.plg.bounce w 16, unplugs := lessShown c.plg.unplugs w 0 } })
  | .anZscmd | .tchCmd => (0#32, s)

/-! ## RINGx registers (R58, R216, R248) -/

/-- The power and load settings of a Ring go to it (R216). -/
def State.sendRingCfg (s : State) (x : RingId) : State :=
  let r := s.ring x
  s.sendRing x (.ringCfg r.pwrcfg r.loadcfg)

/-- A tap rail that the tap supply does not hold (R205, R216). -/
def State.tapHeld (s : State) (x : RingId) (tapEn : Nat) : Option Word :=
  let i := ringIx x
  ([1, 2, 3].filter (fun t => tapEn.testBit (t - 1) && !(match s.holder 8 i t with
    | some c => c.heldBy 3 i
    | none => false))).head?.map (fun t => s.holderCode 8 i t)

/-- The tap supply takes the rails that TAP_EN enables, and frees the others (R128, R205). -/
def State.syncTaps (s : State) (x : RingId) (w : Word) : State :=
  let i := ringIx x
  [1, 2, 3].foldl (fun t k => if bit w (k - 1) then t.takeClaim 8 i k 3 i 0 else t.freeClaim 8 i k 3 i) s

def State.writePwrcfg (s : State) (origin : Origin) (x : RingId) (w : Word) : State × Reply :=
  s.imgWrite origin (.ring x .pwrcfg) w
    [refuseLow [(outside 100 (fld w 16 8) 160, 16), (fld w 8 8 = 0, 8), (outside 1 (fld w 3 5) 20, 3)],
     heldReply (s.tapHeld x (fld w 0 3))]
    (fun t => ((t.modRing x (fun r => { r with pwrcfg := w &&& 0x01FFFFFF#32 })).syncTaps x w).sendRingCfg x)

def State.writeLoadcfg (s : State) (origin : Origin) (x : RingId) (w : Word) : State × Reply :=
  s.imgWrite origin (.ring x .loadcfg) w
    [refuseLow [(outside 40 (fld w 24 8) 240, 24), (fld w 16 8 = 0, 16), (outside 2 (fld w 9 6) 50, 9), (outside 80 (fld w 0 9) 360, 0)]]
    (fun t => (t.modRing x (fun r => { r with loadcfg := w })).sendRingCfg x)

/-- RINGx_FSK_CFG (R237, R239, R248). -/
def State.writeFskCfg (s : State) (origin : Origin) (x : RingId) (w : Word) : State × Reply :=
  s.imgWrite origin (.ring x .fskCfg) w [refuseLow [(fld w 24 8 = 0, 24)]]
    (fun t => (t.modRing x (fun r => { r with fskcfg := w &&& 0xFF003F20#32 })).sendFsk x)

/-- RINGx_FSK_TX (R237): refused NOT_NOW while the FIFO is full, with the characters on their way to it (log entry 111). -/
def State.writeFskTx (s : State) (x : RingId) (w : Word) : State × Reply :=
  guarded s [check (decide (64 ≤ s.fskLevel x)) (.notNow 0#32)] (s.sendRing x (.fskTx (bit w 8) (w.extractLsb' 0 8)), .done)

def State.ringWrite (s : State) (origin : Origin) (x : RingId) (r : RingReg) (w : Word) : State × Reply :=
  let g := s.ring x
  match r with
  | .domain =>
    s.statusClear origin (.ring x .domain) (word (b2n (bit w 3 && g.porSticky) * 8 + b2n (bit w 2 && g.uvloSticky) * 4))
      (fun t => t.modRing x (fun r => { r with porSticky := r.porSticky && !bit w 3, uvloSticky := r.uvloSticky && !bit w 2 }))
  | .pwrcfg => s.writePwrcfg origin x w
  | .loadcfg => s.writeLoadcfg origin x w
  | .diag =>
    let m := w &&& s.heldWord x 45 0#32 (g.sticky.zeroExtend 32)
    s.statusClear origin (.ring x .diag) m
      (fun t => (t.dropShown x 45 m).modRing x (fun r => { r with sticky := r.sticky &&& ~~~ (m.extractLsb' 0 6) }))
  | .fskCfg => s.writeFskCfg origin x w
  | .fskEvt =>
    let m := w &&& s.heldWord x 46 0#32 (g.fsk.evt.zeroExtend 32)
    s.statusClear origin (.ring x .fskEvt) m
      (fun t => (t.dropShown x 46 m).modRing x (fun r => { r with fsk := { r.fsk with evt := r.fsk.evt &&& ~~~ (m.extractLsb' 0 7) } }))
  | .fskTx => s.writeFskTx x w
  | .tapv | .tapsel | .vf | .mon | .stat | .linkerr | .fskStat | .fskRx | .fskCnt => (s, .done)

/-- RINGx_DOMAIN (R58), as the Ring's reports have told it. While LINK is 0, SAFE_ANY, TAPS_OK, CONFIGURED and VF_OK read 0. -/
def State.domainWord (s : State) (x : RingId) : Word :=
  let r := s.ring x
  let anySafe := (ringChs x).any (fun n => s.flt.mirrorSet.getLsbD n.1)
  word (r.linkDrops.toNat * 256 + b2n r.holdover * 128 + b2n (r.link && anySafe) * 64 + b2n (r.link && r.hostTaps) * 32
    + b2n (r.link && r.hostConf) * 16 + b2n r.porSticky * 8 + b2n r.uvloSticky * 4 + b2n (r.link && r.hostVf) * 2
    + b2n r.link)

/-- RINGx_STAT (R216). -/
def State.ringStat (s : State) (x : RingId) : Word :=
  let r := s.ring x
  let shed := (ringChs x).foldl (fun a n => a + bitAt (s.chan n).stage.shed (8 + n.1 % 8)) 0
  word ((r.rails.toNat) * 65536 + shed + b2n r.t3 * 64 + b2n r.thermal * 32 + b2n r.tempWarn * 16 + b2n r.tapOverload * 8
    + b2n r.overload * 4 + b2n (r.shedStack ≠ []) * 2 + b2n r.vfLow)

/-- RINGx_TAPSEL (R216): a channel that is not tapped shows 3. -/
def State.tapselWord (s : State) (x : RingId) : Word :=
  word ((ringChs x).foldl (fun a n =>
    a + (if tapped (s.chan n).rng.func then (s.chan n).stage.tap.toNat else 3) * 4 ^ (n.1 % 8)) 0)

/-- The oldest received character, VALID while there is one (R238, R248). -/
def State.fskRead (s : State) (x : RingId) : ReadResult :=
  match (s.ring x).fsk.rx with
  | [] => (0#32, s)
  | w :: rest => (w, s.modRing x (fun r => { r with fsk := { r.fsk with rx := rest } }))

/-- The fields of RINGx_FSK_STAT that the Ring's modem gives; RX_COUNT is the host die's FIFO (R248). -/
def State.fskStat (s : State) (x : RingId) : Word :=
  let k := (s.ring x).fsk.drain s.clock
  word ((64 - s.fskLevel x) * 256 + b2n (k.state = .waiting) * 8 + b2n k.respFrom.isSome * 4 + b2n (k.state = .sending) * 2 + b2n k.cd)

/-- A value that the Ring monitor reports, a free value before its first report (R8, R275). -/
def State.orMeasured {k : Nat} (s : State) (v : Option (BitVec k)) : Nat × State :=
  match v with
  | some b => (b.toNat, s)
  | none => (s.free.1.toNat % 2 ^ k, s.free.2)

/-- RINGx_TAPV: a rail that is off reads 0 (R216). -/
def State.tapvRead (s : State) (x : RingId) : ReadResult :=
  let r := s.ring x
  [0, 1, 2].foldl
    (fun (a : ReadResult) t =>
      if r.railOn t then
        let (v, u) := a.2.orMeasured (r.tapv.toList.getD t none)
        (a.1 + word (v * 1024 ^ t), u)
      else a) (0#32, s)

def State.ringRead (s : State) (x : RingId) (r : RingReg) : ReadResult :=
  let g := s.ring x
  match r with
  | .domain => (s.domainWord x, s.modRing x (fun r => { r with linkDrops := 0#8 }))
  | .pwrcfg => (g.pwrcfg, s)
  | .loadcfg => (g.loadcfg, s)
  | .tapv => s.tapvRead x
  | .tapsel => (s.heldWord x 1 0xFFFF#32 (s.tapselWord x), s)
  | .vf =>
    let (v, t) := s.orMeasured g.vf
    let m := (g.vfMin.map (·.toNat)).getD v
    (word (m * 65536 + v), t.modRing x (fun r => { r with vfMin := none }))
  | .mon =>
    let (v, t) := s.orMeasured g.temp
    (word (v * 65536 + t.free.1.toNat % 65536), t.free.2)
  | .stat => (s.heldWord x 0 0#32 (s.ringStat x), s)
  | .diag => (s.heldWord x 45 0#32 (g.sticky.zeroExtend 32), s)
  | .linkerr =>
    let w := s.heldWord x 48 0#32 (g.ringRx.zeroExtend 32)
    (word (g.hostRx.toNat * 65536) + w,
      (s.dropShown x 48 w).modRing x (fun r => { r with hostRx := 0#16, ringRx := lessShown r.ringRx w 0 }))
  | .fskCfg => (g.fskcfg ||| word g.fskch.toNat, s)
  | .fskStat => (s.heldWord x 47 0x4000#32 (s.fskStat x) + word (g.fsk.rx.length * 65536), s)
  | .fskEvt => (s.heldWord x 46 0#32 (g.fsk.evt.zeroExtend 32), s)
  | .fskTx => (0#32, s)
  | .fskRx => s.fskRead x
  | .fskCnt => (word (g.fsk.errors.toNat * 65536 + g.fsk.chars.toNat),
      s.modRing x (fun r => { r with fsk := { r.fsk with errors := 0#16, chars := 0#16 } }))

/-! ## SVC registers (R232, R247) -/

/-- SVC_ARM (R232): it arms a channel that takes captures, or disarms; each is an event and no change. -/
def State.writeArm (s : State) (origin : Origin) (w : Word) : State × Reply :=
  let n : Fin 16 := toIdx 16 (fld w 0 4)
  let t := fld w 16 8
  guarded s [refuseLow [(t = 0, 16), (bit w 8 && !(s.chan n).cfg.zsAllowed, 0)]]
    (if bit w 8 then
      (({ s with svc := { s.svc with timeout := BitVec.ofNat 8 t, en := true, ch := n, armEnd := s.clock + t * 60000000 } }).event
        0x12 4 origin (word (n.1 + 256)) 0#32, .done)
     else ({ s.disarm origin with svc := { (s.disarm origin).svc with timeout := BitVec.ofNat 8 t, ch := n } }, .done))

def State.svcWrite (s : State) (origin : Origin) (r : SvcReg) (w : Word) : State × Reply :=
  match r with
  | .arm => s.writeArm origin w
  | .ledctl => ({ s with svc := { s.svc with ledHost := bit w 0 } }, .done)
  | .stat | .cnt => (s, .done)

def State.svcRead (s : State) (r : SvcReg) : ReadResult :=
  let v := s.svc
  match r with
  | .arm => (word (v.timeout.toNat * 65536 + b2n v.en * 256 + v.ch.1), s)
  | .stat => (word ((if v.en then (v.armEnd - s.clock) / 1000000 else 0) * 65536 + v.last.toNat * 4096 + b2n (v.blinks ≠ 0) * 16
      + b2n v.spanHeld * 8 + b2n v.zeroHeld * 4 + b2n (v.zeroAt.isSome || v.spanAt.isSome) * 2 + b2n v.en), s)
  | .ledctl => (word (b2n v.ledHost), s)
  | .cnt => (word (v.refused.toNat * 65536 + v.captured.toNat), { s with svc := { s.svc with refused := 0#16, captured := 0#16 } })

/-- After 3.000 s of press the capture is attempted for the armed channel, with origin 4 and one ticket (R63, R230, R231).
The ticket is taken and freed within the capture. -/
def execButtonCapture (span : Bool) (s : State) : Host.Outcome State Fault Refusal :=
  let b := s.svc
  let at_ := if span then b.spanAt else b.zeroAt
  match at_ with
  | none => ok s
  | some t =>
    ok <| whenDo (s.vioOk && decide (t + 3000000 ≤ s.clock))
      (fun s => s.onTicket .service (fun s =>
        let (v, t) := s.loopValue b.ch
        let s0 := { t with svc := { t.svc with zeroAt := none, spanAt := none, spoiled := false } }
        let code := if b.spoiled then 10 else if !b.en then 3 else s.captureCode b.ch span v
        if code = 0 then
          let s1 := (s0.change .service 6 (word (b.ch.1 + b2n span * 256)) (BitVec.ofInt 32 v) (fun t => t.capture .service b.ch span v)).1
          { s1 with svc := { (s1.svc.result (if span then 2 else 1) s.clock) with captured := satInc s1.svc.captured } }
        else
          let s1 := if code = 9 then s0.refuseFull else s0
          { s1 with svc := { (s1.svc.result code s.clock) with refused := satInc s1.svc.refused } })) s

end Sys2Proof.Machine
end

