-- ==== Sys2Proof/Machine/TouchPlug.lean ====
section
/-! DEFINITION. Touch scans, presence-loop tests and guarded channels (09_touch_and_plug.md). -/

namespace Sys2Proof.Machine

/-- A TOUCH or PLUG channel measures: its Ring runs, its latch is clear, nothing holds it (R121, R400), and the unit is no standby
(R265). In CELLAR mode a wake channel goes on scanning (R469). -/
def State.senses (s : State) (n : Fin 16) (func : Nat) : Bool :=
  let c := s.chan n
  c.rng.func = func && s.ringRuns n && !c.latch && c.holdPad = none && !(s.ring (ringOf n)).rstop && !(s.ring (ringOf n)).rrole.standby
    && ((s.ring (ringOf n)).rmode ≠ .cellar || (func = 13 && s.wakeChan n))

/-! ## Touch (R252 to R254) -/

/-- The change of the baseline in 1/256 fF towards `c`: (C − B) / 2^DRIFT. The rounding of an inexact quotient is open: a
free bit chooses its direction (log entry 17). -/
def drifted (base8 c drift : Nat) (up : Bool) : Nat :=
  let diff : Int := (c * 256 : Int) - base8
  let q := diff / (2 ^ drift : Int)
  let exact := diff % (2 ^ drift : Int) = 0
  ((base8 : Int) + (if exact || !up then q else q + 1)).toNat

/-- One seeding scan: after 16 of them B is their mean (R254). -/
def Touch.seedScan (t : Touch) (c : Nat) : Touch :=
  if t.seedCount + 1 = 16 then
    { t with base8 := (t.seedSum + c) * 16, seeded := true, seedCount := 0, seedSum := 0 }
  else { t with seedCount := t.seedCount + 1, seedSum := t.seedSum + c }

/-- What a scan decides beside the measurement: a change of TOUCHED with its LEAD, TOUCH_STUCK, NEG_RESEED. -/
structure TouchStep where
  t : Touch
  change : Option (Bool × Nat)
  stuck : Bool
  neg : Bool
  deriving DecidableEq, Repr

/-- The judgement of R253 on a seeded channel without a live electrode diagnostic, at a clock. LEAD counts from the first scan of the
run that decides (R254), and is 0 where MAX_HOLD ends a touch (log entry 93). -/
def Touch.judge (t0 : Touch) (cfg : ChanCfg) (c : Nat) (up : Bool) (clock : Nat) : TouchStep :=
  let t : Touch :=
    if t0.touched then { t0 with offAt := if t0.offRun = 0 then clock else t0.offAt }
    else { t0 with onAt := if t0.onRun = 0 then clock else t0.onAt }
  let d : Int := (c * 256 : Int) - t.base8
  let on : Int := cfg.thOn * 2560
  let off : Int := cfg.thOff * 2560
  if !t.touched then
    let run := if on ≤ d then t.onRun + 1 else 0
    let neg := if d ≤ -on then t.negRun + 1 else 0
    if cfg.touchN ≤ run then
      ⟨{ t with onRun := run, negRun := neg, touched := true, held := 0 }, some (true, clock - t.onAt), false, false⟩
    else
      let base := if d < off then drifted t.base8 c cfg.drift up else t.base8
      if 100 ≤ neg then ⟨{ t with onRun := run, base8 := c * 256, negRun := 0 }, none, false, true⟩
      else ⟨{ t with onRun := run, base8 := base, negRun := neg }, none, false, false⟩
  else
    let run := if d < off then t.offRun + 1 else 0
    let held := t.held + 1
    if cfg.releaseN ≤ run then ⟨{ t with touched := false, offRun := 0, held := held }, some (false, clock - t.offAt), false, false⟩
    else if cfg.maxHold ≠ 0 && decide (1000 * cfg.maxHold ≤ held) then
      ⟨{ t with touched := false, base8 := c * 256, offRun := run, held := held }, some (false, 0), true, false⟩
    else ⟨{ t with offRun := run, held := held }, none, false, false⟩

/-- ELECTRODE_OPEN below 3.0 pF for 100 scans and ELECTRODE_SHORT above 200 pF for 10 scans; each clears after as many
scans without its condition (DESIGN CHOICE: the spec gives no time to clear; log entry 138), and then the channel seeds (R254, R263), by the scans after this one. On a guarded channel ELECTRODE_OPEN
waits for further tests of its guard (R261). -/
def State.judgeElectrode (s : State) (n : Fin 16) (c : Nat) (failed : Bool) : State × Bool :=
  let t := (s.chan n).tch
  let isOpen := decide (c < 3000) && !failed
  let isShort := failed || decide (200000 < c)
  let liveOpen := (s.chan n).live.getLsbD 10
  let liveShort := (s.chan n).live.getLsbD 20
  let openRun := if isOpen ≠ liveOpen then t.openRun + 1 else 0
  let shortRun := if isShort ≠ liveShort then t.shortRun + 1 else 0
  let flipOpen := decide (100 ≤ openRun)
  let flipShort := decide (10 ≤ shortRun)
  let s1 := s.modChan n (fun ch => { ch with tch := { ch.tch with
    openRun := if flipOpen then 0 else openRun, shortRun := if flipShort then 0 else shortRun } })
  let s2 := if !flipOpen then s1 else if liveOpen then s1.diagClear n 10 else s1.guardedDetect n 10
  let s3 := if flipShort then s2.diagFollow n 20 (!liveShort) else s2
  let ends := (flipOpen && liveOpen) || (flipShort && liveShort)
  (if ends then s3.modChan n (fun ch => { ch with tch := ch.tch.startSeed }) else s3, ends)

/-- A touch burst ends (R252 to R254): `c` is C in fF, `failed` an electrode that does not charge. Its value crosses the link while there is
one (R16, R329). -/
def execTouchScan (n : Fin 16) (c : Nat) (failed : Bool) (s : State) : Host.Outcome State Fault Refusal :=
  ok <| whenDo (s.senses n 13)
    (fun s =>
      let (s1, ends) := (s.modChan n (fun ch => { ch with tch := { ch.tch with c := word c, scan := ch.tch.scan + 1 } })).judgeElectrode n c failed
      let r := s.ring (ringOf n)
      let s2 := if r.link && !r.ringLost && r.rmode ≠ .cellar then s1.sendUp (ringOf n) (.scan n (word c) s.tick) else s1
      let ch := s2.chan n
      if ends then s2
      else if !ch.tch.seeded then s2.modChan n (fun ch => { ch with tch := ch.tch.seedScan c })
      else if ch.live.getLsbD 10 || ch.live.getLsbD 20 then
        let s3 := s2.modChan n (fun ch => { ch with tch := { ch.tch with touched := false } })
        if ch.tch.touched then s3.sendChange n false false (edgeValue 0 false false false) else s3
      else
        let st := ch.tch.judge ch.rng c (bit s2.free.1 0) s.clock
        let s3 := (s2.free.2).modChan n (fun ch => { ch with tch := st.t })
        let s4 := if st.stuck then s3.diagRaise n 28 else s3
        let s5 := if st.neg then s4.event 0x12 10 .internal (word n.1) 0#32 else s4
        match st.change with
        | some (on, lead) => s5.sendChange n on false (edgeValue lead false false on)
        | none => s5) s

/-- A RESEED command of the host (R254) is a write of CHn_TCH_CMD; seeding itself starts here after a release, a
configuration or a takeover. -/
def State.reseed (s : State) (n : Fin 16) : State := s.modChan n (fun c => { c with tch := c.tch.startSeed })

/-! ## Guards (R258 to R260, R262, R265) -/

/-- Test outcomes by class: 0 closed in range, 1 open, 2 closed out of range, 3 short (R257). -/
def plugClass (cfg : ChanCfg) (o : PlugObs) : Nat :=
  match o with
  | .closed r => if cfg.loopMin * 10 ≤ r ∧ r ≤ cfg.loopMax * 10 then 0 else 2
  | .opened => 1
  | .shortGnd | .shortVf => 3

/-- The next guard state (R258): `cnt` is the length of the run of tests of class `k`. With UNPLUG_N = 1 one short test in REPLUGGING takes
SHORTED, and counts no bounce (DESIGN CHOICE: it meets the rows of UNPLUGGED and SHORTED; log entry 140). -/
def plugNext (cfg : ChanCfg) (st k cnt : Nat) (stable : Bool) : Nat :=
  let n := cfg.unplugN
  if k = 3 && decide (n ≤ cnt) then 5
  else match st with
    | 0 => if n ≤ cnt then (if k = 0 then 1 else if k = 1 then 2 else if k = 2 then 4 else 0) else 0
    | 1 => if n ≤ cnt then (if k = 1 then 2 else if k = 2 then 4 else 1) else 1
    | 3 => if k ≠ 0 then 2 else if stable then 1 else 3
    | m => if k = 0 then 3 else m

/-- Kinds of test outcomes: the classes, with the two shorts apart. -/
def plugKind (cfg : ChanCfg) (o : PlugObs) : Nat := if o = .shortVf then 4 else plugClass cfg o

/-- The length of the run that a test continues or begins, at a place of `runs`. -/
def Plug.runLength (p : Plug) (place k : Nat) : Nat :=
  match p.runs[place]? with
  | some (j, m) => if j.toNat = k then m + 1 else 1
  | none => 1

/-- The diagnostics of a presence loop after a test (R259, R263): UNPLUGGED or LOOP_OPEN, by the PLUGGABLE of the move, from a move to
UNPLUGGED to the return to PRESENT, from whatever state the loop moved (DESIGN CHOICE: R259 classes the move from PRESENT; log entry 139);
WRONG_PLUG in the state WRONG, and in SHORTED the short of the kind that entered it or has lasted UNPLUG_N tests. -/
def State.plugDiag (s : State) (n : Fin 16) (old new kind cnt : Nat) : State :=
  let s1 := whenDo (new = 1) (fun t => t.diagClearAll n [11, 29]) s
  let s2 := whenDo (new = 2 && old ≠ 2 && !(s.chan n).live.getLsbD 11 && !(s.chan n).live.getLsbD 29) (fun t => t.diagRaise n (if (t.chan n).rng.pluggable then 29 else 11)) s1
  let s3 := s2.diagFollow n 21 (new = 4)
  if new ≠ 5 then s3.diagClearAll n [22, 23]
  else if (kind = 3 || kind = 4) && (old ≠ 5 || decide ((s.chan n).rng.unplugN ≤ cnt)) then
    (s3.diagFollow n 22 (kind = 3)).diagFollow n 23 (kind = 4)
  else s3

/-- Where a loop that was away returns to PRESENT, the event carries the ms away (R259). -/
def State.replugged (s : State) (n : Fin 16) (away : Option Nat) : State :=
  match away with
  | some t => s.event 0x12 9 .internal (word n.1) (satTo 32 ((s.clock - t) / 1000))
  | none => s

/-- The loop's bookkeeping at a test that moves its guard state from `old` to `new` (R257 to R259). A short to VF keeps test current
and sink off until a test finds both pads below 6.0 V. -/
def Plug.tested (p : Plug) (cfg : ChanCfg) (o : PlugObs) (new clock : Nat) : Plug :=
  let old := p.state.toNat
  let k := plugClass cfg o
  let kind := plugKind cfg o
  { p with
    state := BitVec.ofNat 3 new
    r := match o with
      | .closed v => satTo 16 v
      | _ => 0xFFFF#16
    runs := [(BitVec.ofNat 3 k, p.runLength 0 k), (BitVec.ofNat 3 kind, p.runLength 1 kind)]
    since := if old = new then p.since else clock
    sinkOff := o = .shortVf
    awayAt := if new = 1 then none
      else if old = 1 || (old = 0 && new ≠ 0 && p.awayAt.isNone) then some clock else p.awayAt
    stableAt := if new = 3 && old ≠ 3 then clock else p.stableAt
    fromState := if new = 3 && old ≠ 3 then p.state else p.fromState
    bounce := if old = 3 && new = 2 then satInc p.bounce else p.bounce
    unplugs := if old ≠ 2 && new = 2 then satInc p.unplugs else p.unplugs }

/-- A presence-loop test is judged (R257 to R261). -/
def execPlugTest (n : Fin 16) (o : PlugObs) (s : State) : Host.Outcome State Fault Refusal :=
  ok <| whenDo (s.senses n 14)
    (fun s =>
      let c := s.chan n
      let k := plugClass c.rng o
      let cnt := c.plg.runLength 0 k
      let old := c.plg.state.toNat
      let new := plugNext c.rng old k cnt (decide (c.plg.stableAt + c.rng.replugStable * 100000 ≤ s.clock))
      let s1 := s.modChan n (fun c => { c with plg := c.plg.tested c.rng o new s.clock })
      let s2 := s1.plugDiag n old new (plugKind c.rng o) (c.plg.runLength 1 (plugKind c.rng o))
      let rearm := old = 0 || (c.rng.plgRearm && c.plg.fromState = 2#3)
      let s3 :=
        if new = 1 then
          let t1 := if old = 1 then forEach (s2.guardees n) (fun m t => t.countWaits m) s2 else s2.replugged n c.plg.awayAt
          if old ≠ 1 && rearm then forEach (t1.guardees n) (fun m t => t.rearmGuard m) t1 else t1
        else
          let t1 := if old = 1 then s2.dropWaits n else s2
          forEach (t1.guardees n) (fun m t => t.applyGuard m) t1
      s3.tellPlug n) s

end Sys2Proof.Machine
end

