-- ==== Sys2Proof/Machine/Filter.lean ====
section
/-! DEFINITION. The Juggler: scaling, filter chains, settling, thresholds, syncs and the FILT registers
(11_filter_chain.md, R226, R289 to R314). -/

namespace Sys2Proof.Machine

/-! ## Fields (R314) -/

def Chain.en (h : Chain) : Bool := bit h.cfg 31
def Chain.loEn (h : Chain) : Bool := bit h.cfg 17
def Chain.hiEn (h : Chain) : Bool := bit h.cfg 16
def Chain.k (h : Chain) : Nat := fld h.cfg 8 4
def Chain.profile (h : Chain) : Nat := fld h.cfg 0 3
def Chain.dwell (h : Chain) : Nat := fld h.thcfg 24 8
def Chain.hyst (h : Chain) : Nat := fld h.thcfg 0 24

/-- Writable bits of FILT_CHn_CFG. -/
def chainMask : Word := 0x80030F07#32
/-- Bits of FILT_CHn_CFG that take effect at once: LO_EN and HI_EN (R306). -/
def enableMask : Word := 0x00030000#32

/-- ALIGN of a Ring: true for SYNC (R300). -/
def alignOf (cfg : Word) (x : RingId) : Bool := bit cfg (ringIx x)

/-- The SYNC mode of a channel's Ring. -/
def State.syncMode (s : State) (n : Fin 16) : Bool := alignOf s.filt.cfg (ringOf n)

/-! ## The round to come (R284) -/

/-- A position is served by a slice (R270, R282). -/
def Adc.inService (a : Adc) (p : Fin 4) : Bool := (a.pos[p.1]).isSome

/-- A written entry leaves its slots and is placed among those left free (R284). -/
def Adc.takeEntry (a : Adc) (i : Fin 64) (w : Word) : Adc :=
  let po := if isConv w then findSlots (rateQ (entRate w)) (usedMask a.entries a.place i) a.inService else none
  { a with entries := a.entries.set i.1 w, place := a.place.set i.1 po }

/-- The round once the pending entries take effect. -/
def Adc.soon (a : Adc) : Adc := a.entPend.foldl (fun b e => b.takeEntry e.1 e.2) a

/-- Both rounds once the pending entries take effect: the checks of a write are made on them. -/
def State.roundsSoon (s : State) : State := (s.modAdc .a Adc.soon).modAdc .b Adc.soon

/-! ## The entry of a channel (R272, R273) -/

/-- The entry of a channel in its Ring's round. -/
def State.entryIx (s : State) (n : Fin 16) : Option (Fin 64) := entryOf (s.adc (ringOf n)).entries n.1

/-- The base-rate code of a channel's entry; 0 without one. -/
def State.rateOf (s : State) (n : Fin 16) : Nat :=
  match s.entryIx n with
  | some i => entRate (s.adc (ringOf n)).entries[i.1]
  | none => 0

/-- The place of a channel's entry. -/
def State.placeOf (s : State) (n : Fin 16) : Option (Fin 4 × Fin 64) :=
  match s.entryIx n with
  | some i => (s.adc (ringOf n)).place[i.1]
  | none => none

/-- h: the hold offset modulo Q in ns (R299). -/
def State.holdMod (s : State) (n : Fin 16) : Nat :=
  match s.placeOf n with
  | some po => holdNs po % (rateQ (s.rateOf n) * 1000)
  | none => 0

/-! ## Residual skew (R302) -/

/-- Rate and h of the SYNC chains under an ALIGN word and a configuration of each chain. -/
def State.syncChains (s : State) (cfg : Word) (of : Fin 16 → Word) : List (Nat × Nat) :=
  (allCh.filter (fun n => alignOf cfg (ringOf n) && bit (of n) 31 && (s.placeOf n).isSome)).map
    (fun n => (fld (of n) 8 4 + s.rateOf n, s.holdMod n))

/-- The largest difference of h between two chains of equal output rate. -/
def residOf : List (Nat × Nat) → Nat
  | [] => 0
  | c :: cs => max ((cs.filter (fun d => d.1 = c.1)).foldl (fun m d => max m (gap c.2 d.2)) 0) (residOf cs)

/-- FILT_SYNCSTAT.RESID. -/
def State.resid (s : State) : Nat := residOf (s.syncChains s.filt.cfg (fun n => (s.chain n).cfg))

/-! ## Scaling (R226, R276) -/

/-- A value in engineering units as a register holds it: saturated at the signed 32-bit range (R290). -/
def satWord (v : Int) : Word := BitVec.ofInt 32 (max (-2147483648) (min 2147483647 v))

/-- The value of a code under a function before zero and span: µV, nA, mΩ, or 1 000 000 times the ratio. -/
def scaleAs (func : Nat) (cfg : ChanCfg) (code : Nat) : Int :=
  match func with
  | 9 => divNearest (((code : Int) - 2048) * (24000000 / 2 ^ cfg.range)) 4096
  | 12 =>
    if cfg.range = 1 then divNearest ((code : Int) * 1000000) 4096
    else divNearest ((code : Int) * 50000000) (4096 * (max 1 cfg.exc : Nat))
  | _ => divNearest ((code : Int) * (if cfg.multidrop then 70000000 else 24000000)) 4096

/-- The value of a code under a configuration. -/
def scaleCode (cfg : ChanCfg) (code : Nat) : Int := scaleAs cfg.func cfg code

/-- The value that enters the chain: zero and span on an AI_I channel that is no standby, and with MULTIDROP the total loop current
(R226, R241, R243). A function change
scales by the old function until B (R183). -/
def State.scaled (s : State) (n : Fin 16) (code : Nat) : Int :=
  let c := s.chan n
  let l := scaleAs c.func c.cfg code
  if c.func = 10 && !c.cfg.multidrop && !s.pair.standby then mapIn c.cfg c.an.copy l else l

/-! ## Values (R226) -/

/-- A value reaches CHn_AN_MEAS with its flags SETTLE (8), CAL (4) and OVR (2). -/
def State.setMeas (s : State) (n : Fin 16) (v : Word) (flags : Nat) : State :=
  (s.modChan n (fun c => { c with an := { c.an with meas := v, measFlags := BitVec.ofNat 4 (flags + 1) } })).noteAi n

/-! ## Thresholds (R304, R305) -/

/-- One side of R304: state, run and whether it changed. -/
def judgeSide (st : Bool) (run dwell : Nat) (up down : Bool) : Bool × Nat × Bool :=
  let r := if (if st then down else up) then run + 1 else 0
  if dwell < r then (!st, 0, true) else (st, r, false)

/-- The value word of a THRESH entry (R305). -/
def threshWord (h : Chain) (which state : Bool) : Word :=
  word (b2n (decide (h.judged ≤ h.dwell)) * 4 + b2n which * 2 + b2n state)

/-- The judgement of an output without SETTLE, with the value words of its events (R304, R305). -/
def Chain.judge (h : Chain) (v : Word) : Chain × List Word :=
  let x := v.toInt
  let hi := judgeSide h.hi h.hiRun h.dwell (decide (h.thhi.toInt ≤ x)) (decide (x < h.thhi.toInt - h.hyst))
  let lo := judgeSide h.lo h.loRun h.dwell (decide (x ≤ h.thlo.toInt)) (decide (h.thlo.toInt + h.hyst < x))
  let h1 := if h.hiEn then { h with hi := hi.1, hiRun := hi.2.1, hiEvt := h.hiEvt || (hi.2.2 && hi.1) } else h
  let h2 := if h.loEn then { h1 with lo := lo.1, loRun := lo.2.1, loEvt := h1.loEvt || (lo.2.2 && lo.1) } else h1
  let evts := (if h.hiEn && hi.2.2 then [threshWord h false hi.1] else []) ++ (if h.loEn && lo.2.2 then [threshWord h true lo.1] else [])
  ({ h2 with judged := h.judged + 1, thval := if evts = [] then h.thval else v }, evts)

/-! ## Outputs (R289, R290, R296 to R299) -/

/-- Input samples that one output depends on (R291, R292). -/
def chainSpan (p k r : Nat) : Nat :=
  stageSum (fun n => n - 1) 1 (chainTaps p k) + (notchTaps p k r - 1) * 2 ^ k + 1

/-- An output's value: the input where it has been constant over all the samples that the output depends on, since each
stage has a DC gain of exactly 1 (R290); any other is free (log entry 12). -/
def State.outputValue (s : State) (h : Chain) (rate : Nat) : Word × State :=
  if chainSpan h.profile h.k rate ≤ h.hist.2 then (satWord h.hist.1, s)
  else (Config.filtered s.freeCtr, { s with freeCtr := s.freeCtr + 1 })

/-- An output at the chain's newest conversion. -/
def State.chainOutput (s : State) (n : Fin 16) (rate : Nat) : State :=
  let h := s.chain n
  let (v, s1) := s.outputValue h rate
  let settle := h.inFlags.getLsbD 2 || h.settleLeft ≠ 0
  let left := if h.inFlags.getLsbD 2 then max (nSettle h.profile h.k rate) h.settleLeft - 1 else h.settleLeft - 1
  let flags := b2n settle * 8 + b2n (h.inFlags.getLsbD 1) * 4 + b2n (h.inFlags.getLsbD 0) * 2
  let h1 := { h with inFlags := 0#3, settleLeft := left, value := v, delivered := true, valueSettle := settle }
  let (h2, evts) := if settle then (h1, []) else h1.judge v
  let s2 := ((s1.modChain n (fun _ => h2)).toWheels n 1 flags s.tick v).setMeas n v flags
  evts.foldl (fun t e => t.toWheels n 3 (flags % 8) s.tick e) s2

/-- A conversion enters a running chain (R289, R297, R299): `none` is one lost on its way, replaced by the previous input
value with OVR. `fl` are SETTLE (4), CAL (2) and OVR (1). -/
def State.feedChain (s : State) (n : Fin 16) (rate : Nat) (v : Option Int) (fl : Nat) : State :=
  let h := s.chain n
  let u := v.getD h.lastIn
  let h1 : Chain :=
    { h with
      lastIn := u
      hist := if h.hist.1 = u then (u, h.hist.2 + 1) else (u, 1)
      inFlags := h.inFlags ||| BitVec.ofNat 3 (if v.isNone then 1 else fl)
      count := h.count + 1 }
  let s1 := s.modChain n (fun _ => h1)
  if h.count % 2 ^ h.k = 0 then s1.chainOutput n rate else s1

/-! ## Restarts (R296, R300) -/

/-- Samples of zero that fill a restarted history: more than any chain spans. -/
def zeroFill : Nat := 0x100000

/-- A chain restarts at a frame boundary: its histories are zero, its runs clear, its states stay. In SKEW mode the boundary
is the origin; in SYNC mode the origin is F, and a restart of its own adds one output with SETTLE. -/
def Chain.restartAt (h : Chain) (rate : Nat) (sync : Bool) (f boundary : Nat) : Chain :=
  let origin := if sync then f else boundary
  { h with
    restart := false, running := true, origin := origin
    count := (boundary - origin) / rateQ rate
    lastIn := 0, hist := (0, zeroFill), inFlags := 0#3
    settleLeft := nSettle h.profile h.k rate + b2n (sync && decide (f ≠ boundary))
    hiRun := 0, loRun := 0 }

/-- The chain of a channel can run: EN, a function in force that is an analog input (R183), a placed entry and a clear latch, its Ring configured, and RUN mode since its
B' + 1 (R309, R312, R468). -/
def State.chainRuns (s : State) (n : Fin 16) : Bool :=
  let r := s.ring (ringOf n)
  (s.chain n).en && isAi (s.chan n).func && (s.placeOf n).isSome && r.logic && r.vfOk && r.configured
    && !s.flt.mirrorSet.getLsbD n.1 && s.pwr.mode = .run && !s.pwr.leaving

/-- The chain of a channel produces outputs (R314). -/
def State.chainOut (s : State) (n : Fin 16) : Bool := (s.chain n).running && s.chainRuns n

/-- T_out in µs (R289). -/
def State.outUs (s : State) (n : Fin 16) : Nat := 2 ^ (s.chain n).k * rateQ (s.rateOf n)

/-- F lies on the grid of every running SYNC chain (R301). -/
def State.onGrid (s : State) (f : Nat) : Bool :=
  allCh.all (fun n => !(s.syncMode n && (s.chain n).running) || (f - (s.chain n).origin) % s.outUs n = 0)

/-- The syncs that are due act at a boundary as one (R301, R310): every SYNC chain restarts with origin F. An edge under
SYNC_SRC = 2 that lies on every grid changes nothing. -/
def State.syncNow (s : State) (f : Nat) : State :=
  let acting := s.filt.syncDue.filter (fun d => !d.1 || !s.onGrid f)
  let s1 := { s with filt := { s.filt with syncDue := [] } }
  match acting with
  | [] => s1
  | d :: _ =>
    let s2 : State := { s1 with filt := { s1.filt with origin := f } }
    let s3 := (allCh.filter (fun n => s.syncMode n)).foldl State.restartChain s2
    s3.event 0x12 6 d.2 0#32 (word f)

/-- The pending configuration of a chain takes effect (R309). -/
def Chain.takePend (h : Chain) : Chain :=
  match h.cfgPend with
  | some w => { h with cfg := (w &&& ~~~ enableMask) ||| (h.cfg &&& enableMask), cfgPend := none, restart := true }
  | none => h

/-- The pending FILT_CFG takes effect: a Ring whose ALIGN changes restarts its chains (R309). -/
def State.takeFiltCfg (s : State) : State :=
  match s.filt.cfgPend with
  | none => s
  | some w =>
    let old := s.filt.cfg
    let s1 : State := { s with filt := { s.filt with cfg := w, cfgPend := none } }
    [RingId.a, RingId.b].foldl (fun t x => if alignOf old x ≠ alignOf w x then t.restartChains x else t) s1

/-- Every chain at a frame boundary: it stops, starts or restarts. -/
def State.chainBoundary (s : State) (f : Nat) : State :=
  forEach allCh
    (fun n t =>
      if !t.chainRuns n then t.modChain n (fun h => { h with running := false })
      else if (t.chain n).restart || !(t.chain n).running then
        t.modChain n (fun h => h.restartAt (t.rateOf n) (t.syncMode n) t.filt.origin f)
      else t) s

/-- FILT_SYNC_RESID ends once RESID is at most 3 000 ns again (R302, R311). -/
def State.settleResid (s : State) : State := if 3000 < s.resid then s else s.clearLive (hostSlot 30)

/-- Every chain stops, as QUIET and CELLAR mode ask (R312). -/
def State.stopChains (s : State) : State :=
  { s with filt := { s.filt with chains := s.filt.chains.map (fun h => { h with running := false }) } }

/-- The filter's part of a frame boundary (R301, R309). -/
def State.filtBoundary (s : State) (f : Nat) : State :=
  let s1 := s.takeFiltCfg
  let s2 : State := { s1 with filt := { s1.filt with chains := s1.filt.chains.map Chain.takePend } }
  (s2.syncNow f).chainBoundary f

/-- A rising edge is captured at the SYNC pin while it is an input (R301). -/
def State.filtEdge (s : State) : State :=
  let f := s.filt
  let src := fld f.cfg 4 2
  if src = 1 && f.armed then { s with filt := { f with armed := false, syncDue := f.syncDue ++ [(false, .internal)] } }
  else if src = 2 then { s with filt := { f with syncDue := f.syncDue ++ [(true, .internal)] } }
  else s

/-! ## Writes (R306, R308, R309, R314) -/

/-- The AMOUNT of the Juggler claim of a channel (R308). -/
def State.shareClaim (s : State) (n : Fin 16) : Option Nat :=
  (s.img.claims.find? (fun c => c.names 2 (n.1 / 8) n.1 && c.heldBy 1 n.1)).map (·.amount)

/-- The share of a chain under a configuration word (R307). -/
def State.shareOf (s : State) (n : Fin 16) (w : Word) : Nat :=
  if bit w 31 then chainShare (fld w 0 3) (fld w 8 4) (s.rateOf n) else 0

/-- Every chain's configuration once the pending words take effect. -/
def State.chainSoon (s : State) (n : Fin 16) : Word := ((s.chain n).cfgPend).getD (s.chain n).cfg

/-- The configuration of chains with one of them replaced. -/
def State.chainWith (s : State) (n : Fin 16) (w : Word) (m : Fin 16) : Word := if m = n then w else s.chainSoon m

/-- FILT_CFG once its pending word takes effect. -/
def State.filtSoon (s : State) : Word := s.filt.cfgPend.getD s.filt.cfg

/-- The SYNC mode of a channel's Ring once a pending write of FILT_CFG has taken effect. -/
def State.syncSoon (s : State) (n : Fin 16) : Bool := alignOf s.filtSoon (ringOf n)

/-- The refused fields of FILT_CHn_CFG (R302, R308, R309). -/
def State.chainBad (s : State) (n : Fin 16) (w : Word) : List (Bool × Nat) :=
  let en := bit w 31
  let t := s.roundsSoon
  [(en && (!isAi (s.chan n).cfg.func || (t.entryIx n).isNone || (s.shareClaim n).isNone
      || decide (3000 < residOf (t.syncChains s.filtSoon (s.chainWith n w)))), 31),
   (decide (10 < fld w 8 4) || (en && decide ((s.shareClaim n).getD 0xFFFF < t.shareOf n w)), 8),
   ((t.entryIx n).isSome && !notchAllowed (fld w 0 3) (fld w 8 4) (t.rateOf n), 0)]

/-- The enables of a chain take effect at once: the runs clear, and a disabled threshold reads 0 (R306). -/
def Chain.setEnables (h : Chain) (w : Word) : Chain :=
  { h with
    cfg := (h.cfg &&& ~~~ enableMask) ||| (w &&& enableMask)
    hi := h.hi && bit w 16, lo := h.lo && bit w 17, hiRun := 0, loRun := 0 }

/-- A write of FILT_CHn_CFG (R306, R309). A chain that ends frees its share, unless the image only reserved it (R128). -/
def State.writeChainCfg (s : State) (origin : Origin) (n : Fin 16) (w : Word) : State × Reply :=
  s.imgWrite origin (.filtCh n .cfg) w [refuseLow (s.chainBad n w)]
    (fun t =>
      let t1 := t.modChain n (fun h => { h.setEnables w with cfgPend := some (w &&& chainMask) })
      if !bit w 31 && bit (s.chainSoon n) 31 then t1.freeClaim 2 (n.1 / 8) n.1 1 n.1 else t1)

/-- A write of a threshold register (R306): the runs clear, the states stay. -/
def State.writeThreshold (s : State) (origin : Origin) (n : Fin 16) (r : FiltChReg) (w : Word) : State × Reply :=
  s.imgWrite origin (.filtCh n r) w []
    (fun t => t.modChain n (fun h =>
      let h1 := { h with hiRun := 0, loRun := 0 }
      match r with
      | .thhi => { h1 with thhi := w }
      | .thlo => { h1 with thlo := w }
      | _ => { h1 with thcfg := w }))

/-- A write of a register of a chain. Registers without writable fields ignore it (R4). -/
def State.filtChWrite (s : State) (origin : Origin) (n : Fin 16) (r : FiltChReg) (w : Word) : State × Reply :=
  match r with
  | .cfg => s.writeChainCfg origin n w
  | .thhi => s.writeThreshold origin n .thhi w
  | .thlo => s.writeThreshold origin n .thlo w
  | .thcfg => s.writeThreshold origin n .thcfg w
  | .stat | .skew | .gdly | .period | .load | .thval => (s, .done)

/-- A write of FILT_CFG (R302, R309, R314). -/
def State.writeFiltCfg (s : State) (origin : Origin) (w : Word) : State × Reply :=
  s.imgWrite origin (.filt .cfg) w
    [refuseLow [(fld w 4 2 = 3, 4),
      (fld w 0 2 ≠ fld s.filtSoon 0 2 && decide (3000 < residOf (s.roundsSoon.syncChains w s.chainSoon)), 0)]]
    (fun t => { t with filt := { t.filt with cfgPend := some (w &&& 0x33#32) } })

/-- A write of FILT_SYNC: no change, each sync becomes an event (R301, R314). -/
def State.writeSync (s : State) (origin : Origin) (w : Word) : State × Reply :=
  ({ s with filt := { s.filt with
      armed := s.filt.armed || bit w 1
      syncDue := if bit w 0 then s.filt.syncDue ++ [(false, origin)] else s.filt.syncDue } }, .done)

/-- A write of a FILT register. -/
def State.filtWrite (s : State) (origin : Origin) (r : FiltReg) (w : Word) : State × Reply :=
  match r with
  | .cfg => s.writeFiltCfg origin w
  | .sync => s.writeSync origin w
  | .diag =>
    s.statusClear origin (.filt .diag) (w &&& s.filt.diag.zeroExtend 32)
      (fun t => { t with filt := { t.filt with diag := t.filt.diag &&& ~~~ (w.truncate 3) } })
  | .syncstat | .synctick | .loadA | .loadB | .errcnt => (s, .done)

/-! ## Reads (R314) -/

/-- FILT_LOADx: the claimed units of a Ring, and the shares of its running chains. -/
def State.filtLoad (s : State) (x : RingId) : Word :=
  let claimed := ((s.img.claims.filter (fun c => c.kind = 2 && c.ring = ringIx x)).map (·.amount)).sum
  let used := ((ringChs x).map (fun n => if s.chainOut n then s.shareOf n (s.chain n).cfg else 0)).sum
  word (claimed % 65536 * 65536 + used % 65536)

/-- FILT_CHn_STAT. -/
def Chain.stat (h : Chain) (runs : Bool) : Word :=
  word (h.settleLeft % 256 * 256 + b2n h.lo * 8 + b2n h.hi * 4 + b2n (h.delivered && h.valueSettle) * 2 + b2n runs)

/-- A read of a register of a chain. -/
def State.filtChRead (s : State) (n : Fin 16) (r : FiltChReg) : Word :=
  let h := s.chain n
  let rate := s.rateOf n
  match r with
  | .cfg => (h.cfgPend.getD h.cfg &&& ~~~ enableMask) ||| (h.cfg &&& enableMask)
  | .thhi => h.thhi
  | .thlo => h.thlo
  | .thcfg => h.thcfg
  | .stat => h.stat (s.chainOut n)
  | .skew => if s.chainOut n then word ((h.origin * 1000 + s.holdMod n) % outNs h.k rate) else 0#32
  | .gdly => if s.chainOut n then word (delayNs h.profile h.k rate) else 0#32
  | .period => if s.chainOut n then word (outNs h.k rate) else 0#32
  | .load => word ((s.shareClaim n).getD 0 % 65536 * 65536 + s.shareOf n h.cfg % 65536)
  | .thval => h.thval

/-- A read of a FILT register; FILT_ERRCNT clears (R4). -/
def State.filtRead (s : State) (r : FiltReg) : ReadResult :=
  let f := s.filt
  match r with
  | .cfg => (s.filtSoon, s)
  | .sync => (0#32, s)
  | .syncstat => (word (b2n (decide (3000 < s.resid)) * 131072 + b2n f.armed * 65536 + min s.resid 65535), s)
  | .synctick => (word f.origin, s)
  | .loadA => (s.filtLoad .a, s)
  | .loadB => (s.filtLoad .b, s)
  | .diag => (f.diag.zeroExtend 32, s)
  | .errcnt => (word (f.errB.toNat * 65536 + f.errA.toNat), { s with filt := { f with errA := 0#16, errB := 0#16 } })

end Sys2Proof.Machine
end

