-- ==== Sys2Proof/Machine/Adc.lean ====
section
/-! DEFINITION. The ADC subsystem of a Ring: the round at run time, conversions, references, the spare-slice rotation and
its failures, and the ADC registers (10_adc.md, R269 to R288). -/

namespace Sys2Proof.Machine

/-! ## Fields (R288) -/

def refSel (w : Word) : Nat := fld w 0 2
def extWait (w : Word) : Nat := fld w 8 8
def extMv (w : Word) : Nat := fld w 16 12

/-- The Ring converts: it has logic, VF and its configuration (R53, R54). -/
def Ring.converts (r : Ring) : Bool := r.logic && r.vfOk && r.configured

/-- The spare slice, if one waits (R279). -/
def Adc.spare (a : Adc) : Option (Fin 5) := (List.finRange 5).find? (fun s => (a.slices[s.1]).role = .spare)

/-- The slice that calibrates (R288). -/
def Adc.calibrating (a : Adc) : Option (Fin 5) := (List.finRange 5).find? (fun s => (a.slices[s.1]).role = .calibrating)

/-- A handover can be made: the spare's calibration is valid and SETTLED is 1 (R279). -/
def Adc.handoverReady (a : Adc) : Bool :=
  a.settled && (match a.spare with
    | some s => (a.slices[s.1]).calValid
    | none => false)

def Adc.modSlice (a : Adc) (s : Fin 5) (f : Slice → Slice) : Adc := { a with slices := tmod a.slices s f }

/-- The placed entries of a position. -/
def Adc.entriesAt (a : Adc) (p : Fin 4) : List (Fin 64) :=
  (List.finRange 64).filter (fun i => match a.place[i.1] with
    | some po => po.1 = p
    | none => false)

/-! ## The round (R272, R273, R284) -/

/-- The round is placed as a whole (R273). -/
def Adc.placeAll (a : Adc) : Adc := { a with place := placeRound a.entries a.inService }

/-- An analog input without a placed entry delivers no values: MEAS holds 0 and STATE reads 0 (R272, R282). -/
def State.dropUnplaced (s : State) (x : RingId) : State :=
  forEach (ringChs x)
    (fun n t =>
      if isAi (t.chan n).func && (t.placeOf n).isNone then
        (t.modChan n (fun c => { c with an := { c.an with meas := 0#32, measFlags := 0#4 } })).noteAi n
      else t) s

/-- The channels that two words of an entry name. -/
def entryChannels (x : RingId) (ws : List Word) : List (Fin 16) :=
  (ringChs x).filter (fun n => ws.any (fun w => isConv w && entCh w = n.1))

/-- The pending entries that have reached a Ring take effect; their channels' histories are zero-filled (R284). -/
def State.takeEntries (s : State) (x : RingId) : State :=
  let pend := (s.adc x).entCome
  let s1 := pend.foldl
    (fun t e => (entryChannels x [(t.adc x).entries[e.1.1], e.2]).foldl State.restartChain (t.modAdc x (fun a => a.takeEntry e.1 e.2))) s
  if pend = [] then s
  else (s1.modAdc x (fun a => { a with entPend := a.entPend.drop pend.length, entCome := [] })).dropUnplaced x

/-! ## References (R277, R278) -/

/-- The settling time of a reference in µs: EXT_WAIT ms, or 2.000 ms for the internal one (R277). -/
def settleUs (w : Word) : Nat := if refSel w = 1 then extWait w * 1000 else 2000

/-- SETTLED becomes 0 for the settling time of the reference selected, whose checks begin anew (R277, R278). -/
def Adc.settling (a : Adc) (clock : Nat) : Adc :=
  { a with settled := false, settleAt := some (clock + settleUs a.refcfg), refOffAt := none, refInAt := none }

/-- SETTLED becomes 0, and a calibration under way is abandoned until it returns to 1 (R277, R279). -/
def Adc.unsettle (a : Adc) (clock : Nat) : Adc :=
  { a.settling clock with
    slices := a.slices.map (fun s => if s.role = .calibrating then { s with waiting := true, calValid := false } else s) }

/-- Two words of ADCx_REFCFG select different references (R277). -/
def refChanges (old w : Word) : Bool := refSel old ≠ refSel w || extMv old ≠ extMv w

/-- A word of ADCx_REFCFG takes effect: a change of REF_SEL or EXT_MV is a reference change (R277, R284). A live REF_FAULT or INT_REF_FAULT of
the reference that is no longer selected stays live, and sets SETTLE, until that reference is selected and checked again (DESIGN CHOICE, log
entry 137). -/
def State.takeReference (s : State) (x : RingId) (w : Word) : State :=
  let old := (s.adc x).refcfg
  let s1 := s.modAdc x (fun a => { a with refcfg := w, refPend := a.refPend.filter (· ≠ w), refCome := none })
  if !refChanges old w then s1
  else (s1.modAdc x (fun a => a.unsettle s.clock)).restartChains x

/-- The reference settling time ends (R277): SETTLED returns to 1 and a waiting calibration runs in full. -/
def execRefSettled (x : RingId) (s : State) : Host.Outcome State Fault Refusal :=
  let due := match (s.adc x).settleAt with
    | some t => decide (t ≤ s.clock)
    | none => false
  ok <| whenDo due
    (fun s => s.modAdc x (fun a =>
      { a with
        settled := true, settleAt := none
        slices := a.slices.map (fun c =>
          if c.role = .calibrating && c.waiting then { c with waiting := false, retried := false, calAt := s.clock } else c) })) s

/-- A source of the ADC is raised on its Ring, with its sticky bit (R286, R288). -/
def State.adcRaise (s : State) (x : RingId) (b : Nat) (r : Fin 20) : State :=
  (s.modAdc x (fun a => { a with sticky := a.sticky ||| (1#5 <<< b) })).ringReport x (ringSlot x r) 0 true 0#32

/-- Reference checks off by more than the limit for 1 ms, or within half of it for 1 ms (R278): REF_FAULT with the external
reference, INT_REF_FAULT with the internal one. -/
def execRefFault (x : RingId) (off : Bool) (s : State) : Host.Outcome State Fault Refusal :=
  let a := s.adc x
  let ext := refSel a.refcfg = 1
  let live := if ext then a.refFault else a.intRefFault
  let lasts := match if off then a.refOffAt else a.refInAt with
    | some t => decide (t + 1000 ≤ s.clock)
    | none => false
  ok <| whenDo ((s.ring x).converts && live ≠ off && lasts)
    (fun s =>
      let s1 := s.modAdc x (fun a => if ext then { a with refFault := off } else { a with intRefFault := off })
      let r : Fin 20 := if ext then 14 else 15
      if off then s1.adcRaise x (if ext then 3 else 4) r else s1.ringReport x (ringSlot x r) 0 false 0#32) s

/-! ## Ring monitors (R223, R275, R278) -/

/-- The Ring-monitor slot j that falls at a tick (R275). -/
def monSlot (tick : Nat) : Nat := tick % 100 / 4

/-- A reference check in units of 0.1 mV (R278): REFx against EXT_MV with a limit of 1 %, or the internal reference against 2.500 V with
one of 0.5 %. The clocks run on while every check is off, or within half of the limit; `told` says that the result reaches the host die. -/
def Adc.refCheck (a : Adc) (v clock : Nat) (told : Bool) : Adc :=
  let ext := refSel a.refcfg = 1
  let goal := if ext then extMv a.refcfg * 10 else 25000
  let d := gap v goal
  let per := if ext then 100 else 200
  { a with
    extMeas := if !told then a.extMeas else if ext then BitVec.ofNat 16 v else 0#16
    refOffAt := if goal < d * per then some (a.refOffAt.getD clock) else none
    refInAt := if d * per * 2 ≤ goal then some (a.refInAt.getD clock) else none }

/-- An item of the rotating list (R275): die temperature, T1 to T3, TN, the reference check, and the test conversion, whose outcome is what
OPEN_WIRE and SLICE_CALIBRATION_DONE report. A rail that is off converts 0; what is reported is kept where it reaches the host die. -/
def State.monList (s : State) (x : RingId) (w : Word) (told : Bool) : State :=
  let i := (s.adc x).monItem
  let s1 := s.modAdc x (fun a => { a with monItem := (a.monItem + 1) % 7 })
  if i = 5 then s1.modAdc x (fun a => a.refCheck (w.toNat % 65536) s.clock told)
  else if !told then s1
  else if i = 0 then s1.modRing x (fun r => { r with temp := some (w.truncate 16) })
  else if i ≤ 3 then
    s1.modRing x (fun r => { r with tapv := tmod r.tapv (toIdx 3 (i - 1)) (fun _ => some (if r.railOn (i - 1) then w.truncate 10 else 0#10)) })
  else s1

/-- A Ring-monitor conversion (R223, R275): at j = 0 VF, which RINGx_VF reports; at j = 1 to 8 the readback of an analog output or of a loop
supply; elsewhere an item of the rotating list. What is measured is a free value (log entries 6 and 106). The Ring works by each result, and the
host die holds those that reach it (R16, R18). -/
def State.monitor (s : State) (x : RingId) (told : Bool) : State :=
  let j := monSlot s.tick
  let n : Fin 16 := toIdx 16 (8 * ringIx x + (j - 1))
  let (w, s1) := s.free
  if j = 0 then
    if !told then s1
    else s1.modRing x (fun r => { r with vf := some (w.truncate 16)
                                         vfMin := some (BitVec.ofNat 16 (min (((r.vfMin).map (·.toNat)).getD 65535) (w.toNat % 65536))) })
  else if j ≤ 8 && tapped (s.chan n).rng.func then
    s1.modChan n (fun c => if told then (c.readBack s.clock w.toInt).takeBack else c.readBack s.clock w.toInt)
  else s1.monList x w told

/-! ## Conversions (R272, R276, R280, R289) -/

/-- How a result reaches the Juggler: whole, lost on the link (R18), or dropped at a full input buffer (R311). -/
def State.convFlags (s : State) (x : RingId) (i : Fin 64) (ratio : Bool) : Nat :=
  let a := s.adc x
  let p := match a.place[i.1] with
    | some po => some po.1
    | none => none
  let late := match p with
    | some p => p ∈ a.ovrNext || (match a.pos[p.1] with
      | some k => (a.slices[k.1]).failed
      | none => false)
    | none => false
  b2n (!ratio && (!a.settled || a.refFault || a.intRefFault)) * 4 + b2n (decide (i ∈ a.calNext)) * 2 + b2n late

/-- The flags of an entry's conversion are used up. -/
def Adc.used (a : Adc) (i : Fin 64) : Adc :=
  { a with
    calNext := a.calNext.filter (· ≠ i)
    ovrNext := a.ovrNext.filter (fun p => match a.place[i.1] with
      | some po => po.1 ≠ p
      | none => true) }

/-- The conversions of the raw channels are kept for the step's frame while capture is armed (R390, R391); `fl` holds SETTLE,
CAL and OVR. -/
def State.keepRaw (s : State) (n : Fin 16) (code fl : Nat) : State :=
  if bit s.rpl.cfg 0 && (fld s.rpl.capcfg 16 5 = n.1 || fld s.rpl.capcfg 24 5 = n.1) then
    { s with rpl := { s.rpl with raw := s.rpl.raw ++ [(n, word (code + fl * 8192))] } }
  else s

/-- The 24-bit word in which a result crosses the link (R276): entry, code, CAL, SETTLE, OVR, position. `fl` holds SETTLE (4), CAL (2)
and OVR (1). -/
def resultWord (i : Fin 64) (code : BitVec 12) (fl : Nat) (p : Fin 4) : BitVec 24 :=
  BitVec.ofNat 24 (i.1 * 262144 + code.toNat * 64 + fl / 2 % 2 * 32 + fl / 4 % 2 * 16 + fl % 2 * 8 + p.1 * 2)

/-- Entry, code and flags of a result word. -/
def resultEntry (w : BitVec 24) : Fin 64 := toIdx 64 (w.toNat / 262144)
def resultCode (w : BitVec 24) : BitVec 12 := BitVec.ofNat 12 (w.toNat / 64)
def resultFlags (w : BitVec 24) : Nat := w.toNat / 16 % 2 * 4 + w.toNat / 32 % 2 * 2 + w.toNat / 8 % 2

/-- A conversion of a channel reaches the host die, or is found missing there (R272, R289, R297); those of an AI_I channel are its readings
before filtering (R230). -/
def State.arrive (s0 : State) (x : RingId) (i : Fin 64) (n : Fin 16) (code : Option (BitVec 12)) (fl : Nat) : State :=
  let s := match code with
    | some b =>
      if (s0.chan n).func = 10 then s0.modChan n (fun c => { c with an := c.an.read s0.clock (scaleAs 10 c.cfg b.toNat) }) else s0
    | none => s0
  let c := s.chan n
  let off := s.pair.standby && (c.func = 11 || c.func = 12)
  let k := fun (b : BitVec 12) => if off then 0 else b.toNat
  let s1 := match code with
    | some b =>
      let t := s.keepRaw n b.toNat fl
      if entKind (s.adc x).entries[i.1] = 1 then t.toWheels n 0 (fl * 2) s.tick (word b.toNat) else t
    | none => s
  if (s.chain n).en then
    (if (s.chain n).running && s.pwr.mode = .run then s1.feedChain n (s.rateOf n) (code.map (fun b => s.scaled n (k b))) fl else s1)
  else match code with
    | some b => s1.setMeas n (satWord (s.scaled n (k b))) (fl * 2)
    | none => s1

/-- FILT_OVERRUN: a conversion is dropped at the Juggler's full input buffer (R311). -/
def State.filtOverrun (s : State) (x : RingId) : State :=
  let s1 : State := { s with filt := { s.filt with
    diag := s.filt.diag ||| (if x = .a then 1#3 else 2#3)
    errA := if x = .a then satInc s.filt.errA else s.filt.errA
    errB := if x = .b then satInc s.filt.errB else s.filt.errB } }
  s1.raise ⟨ringSlot x 16, 0, false, 0#32, false⟩

/-- The sequencer runs at a tick: always in RUN mode, in QUIET mode one frame from each multiple of 10 000 µs, and never in CELLAR mode
(R285, R469). -/
def State.sequences (s : State) (x : RingId) : Bool :=
  match (s.ring x).rmode with
  | .run => true
  | .quiet => decide (s.tick % 10000 < 64)
  | .cellar => false

/-- The next result on a position carries OVR (R18, R281). -/
def Adc.markOvr (a : Adc) (p : Option (Fin 4)) : Adc :=
  match p with
  | some p => { a with ovrNext := if p ∈ a.ovrNext then a.ovrNext else a.ovrNext ++ [p] }
  | none => a

/-- The position of an entry. -/
def Adc.posOf (a : Adc) (i : Fin 64) : Option (Fin 4) := (a.place[i.1]).map (·.1)

/-- A conversion result of an entry (R276): `code` is the calibrated code, `lost` that its frame fails on the link, `full`
that the Juggler's input buffer is full. The result crosses in its word, behind a heartbeat that waits (R17) and behind older entries of its
channel (R319); one that is lost is counted, and has
OVR on its position's next (R18). The Ring judges its own results (R227, R278); those of an input that REPLAY mode holds OFF are discarded
(R400). -/
def execConversionResult (x : RingId) (i : Fin 64) (code : BitVec 12) (lost full : Bool) (s : State) :
    Host.Outcome State Fault Refusal :=
  let w := (s.adc x).entries[i.1]
  let placed := ((s.adc x).place[i.1]).isSome
  let up := (s.ring x).link && !(s.ring x).ringLost
  let waits := isConv w && s.entryWaits (toIdx 16 (entCh w))
  ok <| whenDo ((s.ring x).converts && placed && s.sequences x && !(up && ((s.ring x).ringBeat || waits)))
    (fun s =>
      let s1 := s.modAdc x (fun a => a.used i)
      let s2 := if up && lost then s1.linkDiscard x else s1
      let s3 := if up && !lost then s2 else s2.modAdc x (fun a => a.markOvr (a.posOf i))
      if entKind w = 2 then s3.monitor x (up && !lost)
      else
        let n : Fin 16 := toIdx 16 (entCh w)
        let c := s.chan n
        let fl := s.convFlags x i (c.func = 12 && c.cfg.range = 1)
        if !isAi c.func || c.latch || (s.ring x).rstop then s3
        else
          let s4 := s3.classify n (scaleCode c.rng code.toNat)
          let r := resultWord i code fl (((s.adc x).posOf i).getD 0)
          if !up || lost then s4.arrive x i n none fl
          else if full && (s.chain n).en then (s4.filtOverrun x).arrive x i n none fl
          else s4.arrive x (resultEntry r) n (some (resultCode r)) (resultFlags r)) s

/-! ## Slices (R279 to R282) -/

/-- The task of a Ring's rotation (R455). -/
def rotTask (x : RingId) : Fin 8 := if x = .a then 2 else 3

/-- A slice is marked FAILED and goes out of service (R282), and no handover waits any longer (R455). -/
def State.failSlice (s : State) (x : RingId) (k : Fin 5) : State :=
  (s.modAdc x (fun a => { a.modSlice k (fun c => { c with failed := true, role := .out, calValid := false }) with
    handDue := false, postponed := false })).adcRaise x 1 12 |>.caughtUp (rotTask x)

/-- A result that is not complete in time is discarded; the next on its position carries OVR, and the sixteenth within 1 s
fails the slice (R281). -/
def execAdcLate (x : RingId) (i : Fin 64) (s : State) : Host.Outcome State Fault Refusal :=
  let a := s.adc x
  let p := (a.place[i.1]).map (·.1)
  let k := p.bind (fun p => a.pos[p.1])
  match p, k with
  | some p, some k =>
    ok <| whenDo (s.ring x).converts
      (fun s =>
        let recent := ((a.slices[k.1]).late.filter (fun t => decide (s.clock < t + 1000000))) ++ [s.clock]
        let s1 := (s.modAdc x (fun a =>
          { a.modSlice k (fun c => { c with late := recent }) with
            errLate := satInc a.errLate, ovrNext := (a.markOvr (some p)).ovrNext })).adcRaise x 0 11
        let w := a.entries[i.1]
        let n : Fin 16 := toIdx 16 (entCh w)
        let s2 := if isConv w && isAi (s.chan n).func && !(s.chan n).latch && !(s.ring x).rstop then s1.arrive x i n none 0 else s1
        if 16 ≤ recent.length && !(a.slices[k.1]).failed then s2.failSlice x k else s2) s
  | _, _ => ok s

/-- The next rotation event is the first one of the grid after a tick (R279). -/
def Adc.nextEvent (a : Adc) (tick : Nat) : Adc :=
  let p := a.rotcfg.toNat * 1000000
  if tick < a.rotNext then a else { a with rotNext := a.rotNext + ((tick - a.rotNext) / p + 1) * p }

/-- A rotation event falls due (R279): a handover is due at the first frame boundary at which it can be made; one that is postponed
already stays so from when it was (R455). -/
def execRotationEvent (x : RingId) (s : State) : Host.Outcome State Fault Refusal :=
  let a := s.adc x
  ok <| whenDo ((s.ring x).converts && a.rotcfg ≠ 0#8 && (s.ring x).rmode = .run && decide (a.rotNext ≤ s.tick))
    (fun s => s.modAdc x (fun a =>
      let stopped := a.slices.any (·.failed)
      { a.nextEvent s.tick with
        handDue := !stopped
        postponed := !stopped && !a.handoverReady
        postponedAt := if a.postponed then a.postponedAt else s.tick })) s

/-- The spare takes over a position; the first conversion of each entry there carries CAL (R279, R280). -/
def Adc.takeOver (a : Adc) (p : Fin 4) (k : Fin 5) : Adc :=
  { (a.modSlice k (fun c => { c with role := .working })) with
    pos := a.pos.set p.1 (some k)
    calNext := a.calNext ++ (a.entriesAt p).filter (fun i => !(i ∈ a.calNext)) }

/-- A slice starts a calibration (R279). -/
def Adc.startCal (a : Adc) (k : Fin 5) (clock : Nat) : Adc :=
  a.modSlice k (fun c => { c with role := .calibrating, calValid := false, retried := false, waiting := !a.settled, calAt := clock })

/-- A tick at which a frame begins (R271). -/
def State.atFrame (s : State) : Bool := s.tick % 64 = 0

/-- At a frame boundary the spare takes over the next position, and the relieved slice calibrates (R279). -/
def execSliceHandover (x : RingId) (s : State) : Host.Outcome State Fault Refusal :=
  let a := s.adc x
  ok <| whenDo (s.atFrame && (s.ring x).converts && (s.ring x).rmode = .run && a.handDue)
    (fun s =>
      let s1 := s.modAdc x (fun a =>
        match a.handoverReady, a.spare, a.pos[a.nextPos.1] with
        | true, some k, some old =>
          { ((a.takeOver a.nextPos k).startCal old s.clock) with
            nextPos := a.nextPos + 1, events := a.events + 1#16, handDue := false, postponed := false }
        | _, _, _ => { a with postponed := true, postponedAt := if a.postponed then a.postponedAt else s.tick })
      if (s1.adc x).postponed then s1 else s1.caughtUp (rotTask x)) s

/-- A calibration runs a second time (R279). -/
def Adc.retryCal (a : Adc) (k : Fin 5) (clock : Nat) : Adc :=
  { (a.startCal k clock).modSlice k (fun c => { c with retried := true }) with errRetry := satInc a.errRetry }

/-- A slice's calibration of 12 ms and its checks end (R279): valid, with its coefficients in the calibration region, once more, or FAILED.
`cal` are the gain and offset found. A later check of the waiting spare that fails invalidates its calibration, which runs once more; one
that is found on a working slice marks it FAILED (R275, R282, R285; log entry 110). -/
def execSliceCalibrationDone (x : RingId) (k : Fin 5) (pass : Bool) (cal : Word) (s : State) : Host.Outcome State Fault Refusal :=
  let c := (s.adc x).slices[k.1]
  let due : Bool := c.role = .calibrating && !c.waiting && decide (c.calAt + 12010 ≤ s.clock)
  ok <| whenDo ((s.ring x).converts && (due || (!pass && (c.role = .spare || c.role = .working))))
    (fun s =>
      if pass then
        (s.modAdc x (fun a => { a.modSlice k (fun c => { c with role := .spare, calValid := true, cal := cal }) with
          calStore := tmod a.calStore k (fun _ => cal) })).calibChanged
      else if c.role = .working then s.failSlice x k
      else if c.role = .spare || !c.retried then s.modAdc x (fun a => a.retryCal k s.clock)
      else s.failSlice x k) s

/-- The positions of failed slices at a frame boundary (R282): the valid spare takes over, or the position is vacated. -/
def Adc.settleFailed (a : Adc) : Adc :=
  (List.finRange 4).foldl
    (fun b p => match b.pos[p.1] with
      | none => b
      | some k =>
        if !(b.slices[k.1]).failed then b
        else match b.spare with
          | some sp => if (b.slices[sp.1]).calValid then b.takeOver p sp else { b with pos := b.pos.set p.1 none }
          | none => { b with pos := b.pos.set p.1 none }) a

/-- FILT_SYNC_RESID follows RESID after a re-placement (R302, R311). -/
def State.judgeResid (s : State) : State :=
  if 3000 < s.resid then
    ({ s with filt := { s.filt with diag := s.filt.diag ||| 4#3 } }).raiseLive (hostSlot 30)
  else s.clearLive (hostSlot 30)

/-- Failed slices are settled; a lost position has the round placed again, and entries that move zero-fill their channels'
histories (R282). -/
def State.settlePositions (s : State) (x : RingId) : State :=
  let a := s.adc x
  let b := a.settleFailed
  let lost := (List.finRange 4).any (fun p => (a.pos[p.1]).isSome && (b.pos[p.1]).isNone)
  if !lost then s.modAdc x (fun _ => b)
  else
    let moved := (ringChs x).filter (fun n => match entryOf a.entries n.1 with
      | some i => a.place[i.1] ≠ b.placeAll.place[i.1]
      | none => false)
    (moved.foldl State.restartChain ((s.modAdc x (fun _ => b.placeAll)).adcRaise x 2 13)).dropUnplaced x |>.judgeResid

/-- A frame boundary of both Rings (R271, R282, R284, R296): pending entries and references take effect, lost positions are
settled, due syncs act and chains restart. -/
def execAdcFrameBoundary (s : State) : Host.Outcome State Fault Refusal :=
  ok <| whenDo s.atFrame
    (fun s =>
      let s1 := [RingId.a, RingId.b].foldl
        (fun t x =>
          let t1 := t.takeEntries x
          let t2 := match (t1.adc x).refCome with
            | some w => t1.takeReference x w
            | none => t1
          t2.settlePositions x) s
      (s1.filtBoundary s.tick).settleResid) s

/-! ## Configuration of the Ring (R53, R55, R273, R279, R284) -/

/-- Slices on positions as at configuration: the slices in service take P0 to P3 in ascending order with their coefficients from the
calibration region, and a fifth calibrates at once (R279). -/
def Adc.placeSlices (a : Adc) (clock : Nat) : Adc :=
  let good := (List.finRange 5).filter (fun k => !(a.slices[k.1]).failed)
  let b : Adc := { a with
    pos := Vector.ofFn (fun p => good[p.1]?)
    slices := Vector.ofFn (fun k =>
      let c := a.slices[k.1]
      if c.failed then c else { c with role := .working, calValid := true, retried := false, waiting := false, cal := a.calStore[k.1] })
    nextPos := 0, handDue := false, postponed := false }
  match good[4]? with
  | some k => (b.startCal k clock).modSlice k (fun c => { c with waiting := false })
  | none => b

/-- VF is back above VF_UVLO: the reference settles again (R54, R277). -/
def State.adcPower (s : State) (x : RingId) : State := s.modAdc x (fun a => a.unsettle s.clock)

/-- The Ring starts (R53): failed slices return to service, counts since Ring start begin anew, and SETTLED is 0, with the internal
reference for 2.000 ms, with the external one until EXT_WAIT after the configuration (R277, R282, R288). -/
def State.adcStart (s : State) (x : RingId) : State :=
  s.modAdc x (fun a =>
    { a.unsettle s.clock with
      slices := a.slices.map (fun c => { c with failed := false, late := [] })
      settleAt := if refSel a.refcfg = 1 then none else some (s.clock + 2000)
      events := 0#16, calNext := [], ovrNext := [] })

/-- The Ring's configuration takes effect at a start or restart (R273, R277, R279, R296). -/
def State.adcConfigure (s : State) (x : RingId) : State :=
  let s1 := s.modAdc x (fun a =>
    let b := (({ a with entries := a.soon.entries, entPend := [], entCome := [], refcfg := a.refPend.getD a.refcfg, refPend := none, refCome := none, rotcfg := a.rotPend.getD a.rotcfg, rotPend := none }).placeSlices s.clock).placeAll
    let c := { b with rotNext := s.tick + b.rotcfg.toNat * 1000000 }
    if refSel c.refcfg = 1 || refChanges a.refcfg c.refcfg then c.settling s.clock else c)
  ((s1.restartChains x).dropUnplaced x).caughtUp (rotTask x)

/-- The round, the reference and the rotation of an image at A (R120, R125, R277, R279): a Ring that staged them applies them; another has them
with its configuration, and they wait (R13, R124). -/
def State.adcActivate (s : State) (x : RingId) (es : Vector Word 64) (ref : Word) (rot : Byte) : State :=
  if !(s.ring x).stagedUp then
    s.modAdc x (fun a => { a with entPend := (List.finRange 64).map (fun i => (i, es[i.1])), entCome := [], refPend := some ref, refCome := none
                                  rotPend := some rot })
  else
  let s1 := s.modAdc x (fun a =>
    let b := ({ a with entries := es, entPend := [], entCome := [], refPend := none, refCome := none, rotPend := none }).placeAll
    if a.rotcfg = rot then b else { b with rotcfg := rot, rotNext := s.tick + rot.toNat * 1000000 })
  (s1.takeReference x ref).dropUnplaced x

/-! ## Registers (R284, R288) -/

/-- A channel's entry breaks the SYNC rule of R274: another SYNC channel of its base rate, on either Ring, holds more than 3 000 ns away. -/
def State.syncApart (s : State) (n : Fin 16) : Bool :=
  let sync := fun (m : Fin 16) => s.syncSoon m && bit (s.chainSoon m) 31
  sync n && allCh.any (fun m => m ≠ n && sync m && s.rateOf m = s.rateOf n && (match s.placeOf m, s.placeOf n with
    | some p, some q => decide (3000 < gap (holdNs p) (holdNs q))
    | _, _ => false))

/-- A write of an entry is refused (R271, R272, R284). -/
def State.entryBad (s : State) (x : RingId) (i : Fin 64) (w : Word) : List (Bool × Nat) :=
  let a := (s.adc x).soon
  let t := s.roundsSoon.modAdc x (fun _ => a.takeEntry i w)
  let old := a.entries[i.1]
  let other := fun (e : Word) (k : Fin 64) => k ≠ i && isConv e && entCh e = entCh w
  let raws := rawCount (s.adc .a).soon.entries + rawCount (s.adc .b).soon.entries - b2n (entKind old = 1)
  let inRing := entCh w / 8 = ringIx x
  let n : Fin 16 := toIdx 16 (entCh w)
  let conv := isConv w
  [(decide (5 < entRate w) || (conv && inRing && ((((t.adc x).place[i.1]).isNone)
      || t.syncApart n || (t.syncSoon n && bit (s.chainSoon n) 31 && decide (3000 < residOf (t.syncChains t.filtSoon t.chainSoon)))
      || (bit (s.chainSoon n) 31 && decide ((s.shareClaim n).getD 0xFFFF < t.shareOf n (s.chainSoon n))))), 16),
   (entKind w = 2 || entKind old = 2 || (entKind w = 1 && decide (4 ≤ raws)), 8),
   (conv && (!inRing || (List.finRange 64).any (fun k => other a.entries[k.1] k)), 0)]

/-- A write of ADCx_ENTRYi (R284): the claims of the entry follow (R128). -/
def State.writeEntry (s : State) (origin : Origin) (x : RingId) (i : Fin 64) (w : Word) : State × Reply :=
  let old := (s.adc x).soon.entries[i.1]
  let held := if isConv w then s.heldByOther 3 (ringIx x) i.1 1 (entCh w) else none
  s.imgWrite origin (.adcEntry x i) w [refuseLow (s.entryBad x i w), heldReply held]
    (fun t =>
      let t1 := if isConv old && (!isConv w || entCh old ≠ entCh w) then t.freeClaim 3 (ringIx x) i.1 1 (entCh old) else t
      let t2 := if isConv w then t1.takeClaim 3 (ringIx x) i.1 1 (entCh w) 0 else t1
      (t2.modAdc x (fun a => { a with entPend := a.entPend ++ [(i, w &&& 0x000703FF#32)] })).sendRing x (.adcEntry i (w &&& 0x000703FF#32)))

/-- A write of an ADC register. Registers without writable fields ignore it (R4). -/
def State.adcWrite (s : State) (origin : Origin) (x : RingId) (r : AdcReg) (w : Word) : State × Reply :=
  match r with
  | .refcfg =>
    s.imgWrite origin (.adc x .refcfg) w
      [refuseLow [(outside 2000 (extMv w) 3000, 16), (extWait w = 0, 8), (decide (1 < refSel w), 0)]]
      (fun t => (t.modAdc x (fun a => { a with refPend := some (w &&& 0x0FFFFF03#32) })).sendRing x (.adcRef (w &&& 0x0FFFFF03#32)))
  | .rotcfg =>
    s.imgWrite origin (.adc x .rotcfg) w []
      (fun t => (t.modAdc x (fun a => { a with rotPend := some (w.truncate 8) })).sendRing x (.adcRot (w.truncate 8) t.tick))
  | .diag =>
    let m := w &&& s.heldWord x 49 0#32 ((s.adc x).sticky.zeroExtend 32)
    s.statusClear origin (.adc x .diag) m
      (fun t => (t.dropShown x 49 m).modAdc x (fun a => { a with sticky := a.sticky &&& ~~~ (m.truncate 5) }))
  | .refstat | .rotstat | .slicepos | .slicestat | .load | .errcnt | .cal0 | .cal1 | .cal2 | .cal3 | .cal4 => (s, .done)

/-- A slice number, 7 for none (R288). -/
def sliceOr7 : Option (Fin 5) → Nat
  | some k => k.1
  | none => 7

/-- Role codes of ADCx_SLICESTAT. -/
def SliceRole.code : SliceRole → Nat
  | .working => 0
  | .spare => 1
  | .calibrating => 2
  | .out => 3

/-- ADCx_ROTSTAT. -/
def State.rotStat (s : State) (x : RingId) : Word :=
  let a := s.adc x
  word (a.events.toNat * 65536 + b2n a.postponed * 32768 + sliceOr7 a.calibrating * 4096 + sliceOr7 a.spare * 256
    + (if a.rotcfg = 0#8 then 0 else (a.rotNext - s.tick) / 1000000 % 256))

/-- A write of ROT_PERIOD at a tick reaches the Ring: the events fall on the grid of that tick (R284). -/
def State.takeRotation (s : State) (x : RingId) (p : Byte) (at_ : Nat) : State :=
  s.modAdc x (fun a => Adc.nextEvent { a with rotcfg := p, rotPend := a.rotPend.filter (· ≠ p), rotNext := at_ + p.toNat * 1000000 } s.tick)

/-- ADCx_REFSTAT. -/
def State.refStat (s : State) (x : RingId) : Word :=
  let a := s.adc x
  word ((if refSel a.refcfg = 1 then a.extMeas.toNat else 0) * 65536 + b2n a.intRefFault * 4 + b2n a.refFault * 2 + b2n a.settled)

/-- ADCx_SLICEPOS. -/
def State.slicePos (s : State) (x : RingId) : Word :=
  word ((List.finRange 4).foldl (fun m p => m + sliceOr7 (s.adc x).pos[p.1] * 16 ^ p.1) 0)

/-- ADCx_SLICESTAT. -/
def Adc.sliceStat (a : Adc) : Word :=
  word ((List.finRange 5).foldl (fun m k =>
    m + (b2n (a.slices[k.1]).failed * 8 + b2n (a.slices[k.1]).calValid * 4 + (a.slices[k.1]).role.code) * 16 ^ k.1) 0)

/-- ADCx_ERRCNT. -/
def Adc.errWord (a : Adc) : Word := word (a.errLate.toNat * 65536 + a.errRetry.toNat)

/-- The words of a Ring in the order of `shown` (R7, R16): RINGx_STAT, RINGx_TAPSEL, ADCx_REFSTAT, ADCx_SLICEPOS, ADCx_ROTSTAT; the status words
of each channel; from place 45 on RINGx_DIAG, RINGx_FSK_EVT, the modem's part of RINGx_FSK_STAT, RING_RX, ADCx_DIAG, ADCx_ERRCNT, ADCx_SLICESTAT and
ADCx_CALs; and from place 57 on what the Ring keeps of each channel. -/
def State.statusWords (s : State) (x : RingId) : List Word :=
  let g := s.ring x
  let a := s.adc x
  [s.ringStat x, s.tapselWord x, s.refStat x, s.slicePos x, s.rotStat x] ++ (ringChs x).flatMap (fun n => s.chanStats n)
    ++ [g.sticky.zeroExtend 32, g.fsk.evt.zeroExtend 32, s.fskStat x, g.ringRx.zeroExtend 32, a.sticky.zeroExtend 32, a.errWord, a.sliceStat]
    ++ a.slices.toList.map (·.cal) ++ (ringChs x).flatMap (fun n => (s.chan n).ringWords)

/-- The link is lost: the host die goes on showing what it received last (R7). -/
def State.freezeStatus (s : State) (x : RingId) : State :=
  s.free.2.modRing x (fun r => { r with shown := s.statusWords x })

/-- A read of an ADC register; ADCx_ERRCNT clears (R4). -/
def State.adcRead (s : State) (x : RingId) (r : AdcReg) : ReadResult :=
  let a := s.adc x
  match r with
  | .refcfg => (a.refPend.getD a.refcfg, s)
  | .refstat => (s.heldWord x 2 0#32 (s.refStat x), s)
  | .rotcfg => ((a.rotPend.getD a.rotcfg).zeroExtend 32, s)
  | .rotstat => (s.heldWord x 4 (s.rotStat x &&& 0x7FFF#32) (s.rotStat x), s)
  | .slicepos => (s.heldWord x 3 0x3210#32 (s.slicePos x), s)
  | .slicestat =>
    (s.heldWord x 51 a.sliceStat a.sliceStat, s)
  | .load => (word ((rawCount (s.adc .a).entries + rawCount (s.adc .b).entries) * 65536 + usedSlots a.entries a.place), s)
  | .diag => (s.heldWord x 49 0#32 (a.sticky.zeroExtend 32), s)
  | .errcnt =>
    let w := s.heldWord x 50 0#32 a.errWord
    (w, (s.dropShown x 50 w).modAdc x (fun a => { a with errLate := lessShown a.errLate w 16, errRetry := lessShown a.errRetry w 0 }))
  | .cal0 => (s.heldWord x 52 (a.slices[0]).cal (a.slices[0]).cal, s)
  | .cal1 => (s.heldWord x 53 (a.slices[1]).cal (a.slices[1]).cal, s)
  | .cal2 => (s.heldWord x 54 (a.slices[2]).cal (a.slices[2]).cal, s)
  | .cal3 => (s.heldWord x 55 (a.slices[3]).cal (a.slices[3]).cal, s)
  | .cal4 => (s.heldWord x 56 (a.slices[4]).cal (a.slices[4]).cal, s)

/-- ADCx_ENTRYi reads what was written last. -/
def State.entryRead (s : State) (x : RingId) (i : Fin 64) : Word :=
  match ((s.adc x).entPend.filter (fun e => e.1 = i)).getLast? with
  | some e => e.2
  | none => (s.adc x).entries[i.1]

/-- ADCx_ENTRYOFSi (R288). -/
def State.entryOfs (s : State) (x : RingId) (i : Fin 64) : Word :=
  match (s.adc x).place[i.1] with
  | some po => word (2147483648 + po.1.1 * 65536 + holdNs po)
  | none => 0#32

end Sys2Proof.Machine
end

