-- ==== Sys2Proof/Machine/WheelRegs.lean ====
section
/-! DEFINITION. Pops, the WHL registers and the wheel memory window (12_wheels.md, R315, R316, R326 to R334). -/

namespace Sys2Proof.Machine

/-! ## Pops (R327, R328) -/

/-- Up to `n` pops in one handshake, in pop order; bit k of `bad` says that the entry of pop number k has an uncorrectable error (R327,
R328). The answer has the entries, the number of entries discarded, and the wheel. -/
def Wheel.popBatch : Nat → Nat → Wheel → List Entry × Nat × Wheel
  | 0, _, w => ([], 0, w)
  | n + 1, bad, w =>
    match (if bad.testBit 0 then w.popEcc else w.pop) with
    | none => ([], 0, w)
    | some (e, w') =>
      let (es, k, w'') := Wheel.popBatch n (bad / 2) w'
      (e :: es, k + b2n (bad.testBit 0 && w.popsEntry), w'')

/-- The payload of a pop: word 0 carries bits 31:0 of an entry and word 1 bits 63:32 (R320). -/
def entryWords (e : Entry) : List Word := [e.extractLsb' 0 32, e.extractLsb' 32 32]

/-- POP and POP_BATCH of a wheel (R315, R328); WHEEL_ECC is raised for each entry that was discarded (R332). -/
def State.popWheel (s : State) (w : Fin 64) (n bad : Nat) : State × Reply :=
  let q := s.wheel w
  if !q.allocated then (s, .notNow 0#32)
  else
    let (es, k, q') := q.popBatch n bad
    if es = [] then (s, ⟨.empty, 0#32, []⟩)
    else ((List.range k).foldl (fun t _ => t.raiseHost 8) (s.modWheel w (fun _ => q')), ⟨.ok, 0#32, es.flatMap entryWords⟩)

/-! ## Registers (R315, R333, R334) -/

/-- WHLw_CFG as a word. -/
def Wheel.cfgWord (w : Wheel) : Word := word (b2n w.consumer * 256 + b2n w.overwrite * 16 + w.sizeLog2)

/-- The claim of a wheel (R316). -/
def State.wheelClaim (s : State) (w : Fin 64) : Option Claim := s.img.claims.find? (fun c => c.names 6 0 w.1)

/-- HELD by a producer word that no longer names the channel holding the claim, or that changes CLASS (R333). -/
def State.prodHeld (s : State) (w : Fin 64) (p : Word) : Option Word :=
  let old := (s.wheel w).prod
  match s.wheelClaim w with
  | some c =>
    if fld p 28 4 ≠ fld old 28 4 || (c.hclass = 1 && !bit p c.hindex) then some c.code else none
  | none => if fld p 28 4 ≠ fld old 28 4 then some 0#32 else none

/-- An unallocated wheel answers NOT_NOW, but for WHLw_IRQCFG (R315). -/
def State.wheelOpen (s : State) (w : Fin 64) : Option Reply := check (!(s.wheel w).allocated) (.notNow 0#32)

/-- A write of WHLw_IRQCFG: a change without an "img" field (R330, R333). -/
def State.writeIrqcfg (s : State) (origin : Origin) (w : Fin 64) (v : Word) : State × Reply :=
  let top := if (s.wheel w).allocated then (s.wheel w).size else 8192
  guarded s [refuseLow [(decide (top < fld v 16 16), 16)], check s.img.actPending (.notNow 0#32)]
    (s.changeWrite origin (.whl w .irqcfg) v (fun t => t.modWheel w (fun q =>
      { q with level := BitVec.ofNat 16 (fld v 16 16), age := BitVec.ofNat 8 (fld v 8 8), lossEn := bit v 0 })))

/-- WHLw_EVT as a word. -/
def Wheel.evtWord (w : Wheel) : Word := word (b2n w.evtEcc * 2 + b2n w.evtLoss)

/-- FLUSH: no change, recorded as an event (R326). -/
def State.flushWheel (s : State) (origin : Origin) (w : Fin 64) : State :=
  (s.modWheel w Wheel.flush).event 0x12 3 origin (word w.1) 0#32

/-- A write of WHLw_PROD (R318, R333): results are routed by it from then on. -/
def State.writeProd (s : State) (origin : Origin) (w : Fin 64) (v : Word) : State × Reply :=
  s.imgWrite origin (.whl w .prod) v [s.wheelOpen w, refuseLow [(!prodOk v.toNat, 0)], heldReply (s.prodHeld w v)]
    (fun t => t.modWheel w (fun q => { q with prod := v }))

/-- A write of a WHL register. -/
def State.whlWrite (s : State) (origin : Origin) (w : Fin 64) (r : WhlReg) (v : Word) : State × Reply :=
  match r with
  | .cfg =>
    s.imgWrite origin (.whl w .cfg) v [s.wheelOpen w]
      (fun t => t.modWheel w (fun q => { q with consumer := bit v 8, overwrite := bit v 4 }))
  | .prod => s.writeProd origin w v
  | .irqcfg => s.writeIrqcfg origin w v
  | .evt =>
    guarded s [s.wheelOpen w]
      (s.statusClear origin (.whl w .evt) (v &&& (s.wheel w).evtWord)
        (fun t => (t.modWheel w (fun q => { q with evtEcc := q.evtEcc && !bit v 1, evtLoss := q.evtLoss && !bit v 0 })).settleLoss))
  | .cmd => guarded s [s.wheelOpen w] (if bit v 0 then s.flushWheel origin w else s, .done)
  | .stat | .lost | .base | .head | .pendLo | .pendHi => guarded s [s.wheelOpen w] (s, .done)

/-- WHL_PEND (R330, R334). -/
def State.wheelPend (s : State) : BitVec 64 := bitsOf 64 (fun i => (s.wheel (toIdx 64 i)).pendingIrq s.clock)

/-- WHLw_STAT. -/
def Wheel.stat (w : Wheel) (clock : Nat) : Word :=
  word (b2n w.gapPending * 262144 + b2n (w.ageLive clock) * 131072 + b2n w.levelLive * 65536 + w.q.length)

/-- A read of a WHL register; WHLw_LOST clears (R4). -/
def State.whlRead (s : State) (w : Fin 64) (r : WhlReg) : ReadResult :=
  let q := s.wheel w
  match r with
  | .cfg => (q.cfgWord, s)
  | .prod => (q.prod, s)
  | .irqcfg => (word (q.level.toNat * 65536 + q.age.toNat * 256 + b2n q.lossEn), s)
  | .stat => (q.stat s.clock, s)
  | .evt => (q.evtWord, s)
  | .lost => (q.lost, s.modWheel w (fun q => { q with lost := 0#32 }))
  | .base => (word q.base, s)
  | .cmd => (0#32, s)
  | .head => (word q.head, s)
  | .pendLo => (wideWord s.wheelPend 0, s)
  | .pendHi => (wideWord s.wheelPend 1, s)

/-- The entry stored at a place of the wheel memory (R317, R329). -/
def Wheel.entryAt (w : Wheel) (place : Nat) : Option Entry :=
  if w.allocated && decide (w.base ≤ place) && decide (place < w.base + w.size) then
    (w.q[(place - w.base + w.size - w.head) % w.size]?).map (·.1)
  else none

/-- What the wheels hold, as numbers: where each stands, and its entries. -/
def State.wheelKey (s : State) : List Nat :=
  s.wheels.toList.flatMap (fun w => w.base :: w.head :: w.q.length :: w.q.map (fun e => e.1.toNat))

/-- A byte of the wheel memory window (R329, R412); a place that stores no entry has no contents in the spec: a free byte that stands until a
wheel changes (log entry 6). -/
def State.wheelByte (s : State) (o : Nat) : Byte :=
  match (s.wheels.toList.filterMap (fun w => w.entryAt (o / 8))).head? with
  | some e => e.extractLsb' (8 * (o % 8)) 8
  | none => Config.wheelByte s.wheelKey o

/-- A word of the wheel memory window (R329). -/
def State.wheelMemRead (s : State) (o : Nat) : Word := word (leNat ((List.range 4).map (fun i => s.wheelByte (o + i))))

/-- The oldest entry has been in a wheel for AGE ms (R330). AGE is live by the time at which the entry was stored, so the
state holds it already. -/
def execWheelAge (w : Fin 64) (s : State) : Host.Outcome State Fault Refusal :=
  ok <| whenDo ((s.wheel w).ageLive s.clock) (fun s => s) s

/-! ## Placing at an activation (R123, R315, R317) -/

/-- The records of a WHEEL section as (wheel, SIZE_LOG2, POLICY, CONSUMER, producer word), placed in descending size, among
equal sizes in ascending wheel number. -/
def wheelOrder (recs : List (List Byte)) : List (List Byte) :=
  (List.range 14).reverse.flatMap (fun k => (List.range 64).flatMap (fun w => recs.filter (fun r => u8 r 1 = k && u8 r 0 = w)))

/-- BASE of each record's wheel. -/
def wheelBases (recs : List (List Byte)) : List (Nat × Nat) :=
  ((wheelOrder recs).foldl (fun (acc : Nat × List (Nat × Nat)) r => (acc.1 + 2 ^ u8 r 1, acc.2 ++ [(u8 r 0, acc.1)])) (0, [])).2

/-- A wheel without a record. -/
def Wheel.none : Wheel :=
  { sizeLog2 := 0, overwrite := false, consumer := false, prod := 0#32, base := 0, level := 0#16, age := 0#8, lossEn := false
    q := [], head := 0, lastMark := Option.none, gapNext := false, gapPending := false
    headCtx := ⟨0#32, false, false⟩, lost := 0#32, evtLoss := false, evtEcc := false }

/-- A wheel newly allocated from its record: it holds nothing, and its first MARK carries GAP = 0 (R123). HEAD, which the image does not set,
stays (R7), within the new size (DESIGN CHOICE, log entry 103). -/
def Wheel.ofRecord (old : Wheel) (r : List Byte) (base : Nat) : Wheel :=
  { Wheel.none with
    sizeLog2 := u8 r 1, overwrite := u8 r 2 = 1, consumer := u8 r 3 = 1, prod := word (u32 r 4), base := base, head := old.head % 2 ^ u8 r 1
    level := old.level, age := old.age, lossEn := old.lossEn, lost := old.lost, evtLoss := old.evtLoss, evtEcc := old.evtEcc }

/-- A wheel at A (R123): kept where its record is identical in both images, else emptied with GAP where it was allocated
before, else newly allocated. Its next entry has a MARK before it (R322). The running configuration of a kept wheel returns to
its record (R127). -/
def Wheel.activate (old : Wheel) (oldRec newRec : Option (List Byte)) (base : Nat) : Wheel :=
  match newRec with
  | Option.none => { Wheel.none with head := old.head, level := old.level, age := old.age, lossEn := old.lossEn, lost := old.lost, evtLoss := old.evtLoss, evtEcc := old.evtEcc }
  | some r =>
    let fresh := old.ofRecord r base
    if !old.allocated then fresh
    else if oldRec = newRec then { fresh with q := old.q, head := old.head, gapNext := old.gapNext
                                              gapPending := old.gapPending, headCtx := old.headCtx }
    else { fresh with gapNext := true }

/-- Every wheel at A. -/
def State.activateWheels (s : State) (old new : List (List Byte)) : State :=
  let bases := wheelBases new
  let rec_ := fun (rs : List (List Byte)) (i : Nat) => rs.find? (fun r => u8 r 0 = i)
  { s with wheels := Vector.ofFn (fun (i : Fin 64) =>
      (s.wheels[i.1]).activate (rec_ old i.1) (rec_ new i.1) (((bases.find? (fun b => b.1 = i.1)).map (·.2)).getD 0)) }

end Sys2Proof.Machine
end

