-- ==== Sys2Proof/Machine/Collector.lean ====
section
/-! DEFINITION. Releases, the host watchdog, the collector's protection, injection and the FLT registers
(13_faults.md, R343 to R364). -/

namespace Sys2Proof.Machine

def State.modFlt (s : State) (f : Collector → Collector) : State := { s with flt := f s.flt }

/-! ## Rows of the collector (R336, R341, R342, R355) -/

/-- Sources that stay live until the next start (R342). -/
def untilStart (h : Nat) : Bool := h = 2 || h = 3 || h = 6 || h = 16

/-- The condition of a host-die source that the state itself holds (R342): the expired watchdog, the stopped fabric, the committed DEV_SAFE, a
wheel's loss, the pool of sectors, the full stores, the missing image, a task behind, the discarded Trapeze frames, the absent VIO and RESID.
The lock of the timebase, the pair and the lost SYNC have operations of their own, which raise and clear them. The others are detected. -/
def State.hostCondition (s : State) (h : Nat) : Option Bool :=
  match h with
  | 0 => some s.flt.wdExpired
  | 2 => some s.fab.stopped
  | 4 => some (s.fab.outDev.getLsbD 2)
  | 7 => some s.anyLoss
  | 11 => some (decide (s.bg.wear.pool.length < 8))
  | 12 => some s.recd.jnlFull
  | 13 => some (decide (6143 ≤ s.recd.events.length))
  | 18 => some s.img.noImage
  | 19 => some (decide (s.bg.behind ≠ 0#8))
  | 15 | 20 | 21 | 22 | 24 | 25 | 29 => some ((s.slot (toIdx 256 (168 + h))).real.getLsbD 0)
  | 27 => some (decide (64 < (s.pair.badTimes.filter (fun t => decide (s.clock < t + 1000000))).length))
  | 28 => some !s.vio
  | 30 => some (decide (3000 < s.resid))
  | _ => none

/-- A host-die source is detected (R336): an instant one is raised each time, another where it is not live.
COLLECTOR_MISMATCH has its own path. -/
def execFaultRaise (h : Fin 31) (s : State) : Host.Outcome State Fault Refusal :=
  ok <| whenDo (h.1 ≠ 3 && (s.hostCondition h.1).getD true) (fun s => if instantSource (hostSlot h).1 0 then s.raiseHost h else s.raiseLive (hostSlot h)) s

/-- The condition of a live host-die source ends (R357); some stay live until the next start (R342). -/
def execFaultClear (h : Fin 31) (s : State) : Host.Outcome State Fault Refusal :=
  ok <| whenDo (!untilStart h.1 && !(s.hostCondition h.1).getD false) (fun s => s.clearLive (hostSlot h)) s

/-- A word of the collector fails its complement check (R355): REACTION on every channel, the end of Tightrope modulation,
RAIL_FAULT and FLT_RAILCHK, and a record whose first parameter is the index of the word. The reaction table is not
consulted. -/
def execCollectorMismatch (index : BitVec 16) (s : State) : Host.Outcome State Fault Refusal :=
  let k := hostSlot 3
  ok <| whenDo (!(s.slot k).real.getLsbD 0)
    (fun s =>
      let c : LiveCause := ⟨0#8, false, s.tick, 2#2, 3#3, false⟩
      let s1 := s.modSlot k (fun f =>
        { f with real := 1#32, sticky := true, seen := false, raises := satInc f.raises, cls := 2#2, react := 3#3, member := 0#8
                 liveAt := [c], setOn := 0xFFFF#16 })
      let e := s1.occurrence (recCode 2 (slotGroup k.1) k.1) .internal 0 (index.zeroExtend 32) 0#32
      let s2 := s1.faultRecord k 2 false false (index.zeroExtend 32) 0#32
      let s3 := (s2.modFlt (fun c => { c with railFault := true, railWord := index })).sendSafe 0xFFFF#16
      let s4 := (s3.sendSource false).roleRelease
      (State.checkLoss s4 (s4.faultEntry k 2 true false s4.tick)).faultTrigger k.1 2 false e) s

/-- A Ring's check of its latches fails (R341): it sets every latch and reports SAFE_PATH_CHECK, which a live one does not raise again. -/
def execSafePathCheck (x : RingId) (s : State) : Host.Outcome State Fault Refusal :=
  ok <| whenDo (s.ring x).logic (fun s => (s.setCauseRing x 1#16).ringReport x (ringSlot x 19) 0 true 0#32) s

/-! ## Releases (R347, R348) -/

/-- The causes that the table of R345 defines. -/
def causeMask : BitVec 16 := 0x01FF#16

/-- The condition under which a named cause of a channel is refused (R347); a gang partner is judged as the channel that gangs with it (R345). -/
def State.causeRefused (s : State) (k : Fin 16) (b : Nat) : Bool :=
  let n := s.lead k
  let c := s.chan n
  let r := s.ring (ringOf n)
  match b with
  | 0 => s.reactionHeld k || (s.gangPair k).any s.reactionHeld
  | 1 => c.live.getLsbD 1
  | 2 => c.live.getLsbD 4
  | 3 => r.thermal
  | 4 => r.overload
  | 5 => !r.vfOk
  | 7 => !r.configured
  | 8 => s.guardHolds n
  | _ => false

/-- The named causes of a channel that its Ring refuses. -/
def State.refusedCauses (s : State) (n : Fin 16) (named : BitVec 16) : BitVec 16 :=
  named &&& bitsOf 16 (fun b => s.causeRefused n b)

/-- The channels in the scope of a release word (R347). -/
def releaseScope (w : Word) : List (Fin 16) :=
  match fld w 30 2 with
  | 0 => [toIdx 16 (fld w 16 5)]
  | 1 => ringChs (ringAt (fld w 16 5))
  | _ => allCh

/-- The causes that a release names on each channel of its scope on a Ring. -/
def askedCauses (w : Word) (x : RingId) : List (Fin 16 × BitVec 16) :=
  ((releaseScope w).filter (fun n => ringOf n = x)).map (fun n => (n, w.truncate 16))

/-- The named causes that the mirror shows set, by which the host die judges a Ring without its link (R347). -/
def State.namedCauses (s : State) (w : Word) (x : RingId) : List (Fin 16 × BitVec 16) :=
  (askedCauses w x).map (fun c => (c.1, s.flt.mirror[c.1.1] &&& c.2))

/-- The OR of the causes of a list. -/
def orCauses (cs : List (Fin 16 × BitVec 16)) : BitVec 16 := cs.foldl (fun m c => m ||| c.2) 0#16

def State.modRelease (s : State) (p : PortId) (f : Release → Release) : State :=
  s.modFlt (fun c => { c with releases := c.releases.map (fun r => if r.port = p then f r else r) })

def State.releaseOf (s : State) (p : PortId) : Option Release := s.flt.releases.find? (fun r => r.port = p)

/-- The reply of a release (R348). -/
def Release.reply (r : Release) : Reply :=
  if r.refused = 0#16 then .done else .notNow (Machine.word (b2n r.noLink * 65536 + r.refused.toNat))

/-- A release whose Rings have all acknowledged ends: FLT_RELSTAT, its event, and its reply (R347, R348, R369). -/
def State.endRelease (s : State) (r : Release) : State × Reply :=
  let s1 := s.modFlt (fun c => { c with
    relCleared := r.cleared, relRefused := r.refused, releases := c.releases.filter (fun q => q.port ≠ r.port) })
  (s1.event 0x12 1 r.origin r.word (word (r.refused.toNat * 65536 + r.cleared.toNat)), r.reply)

/-- The response of the request in execution takes the reply of its release (R348). -/
def State.patchResponse (s : State) (p : PortId) (rep : Reply) : State :=
  s.modPort p (fun o => { o with executing := o.executing.map (fun e =>
    (e.1, { e.2 with rstat := rep.status.code, info := rep.info })) })

/-- A release that waits for no Ring any more ends. -/
def State.settleRelease (s : State) (p : PortId) : State :=
  match s.releaseOf p with
  | some r => if r.await = [] then (let (s1, rep) := s.endRelease r; s1.patchResponse p rep) else s
  | none => s

/-- A release starts (R347, R348): on a Ring with its link, a frame names the causes; on one without, every named cause is
refused at once. -/
def State.startRelease (s : State) (port : PortId) (origin : Origin) (w : Word) : State × Reply :=
  let scope := [RingId.a, RingId.b].filter (fun x => (releaseScope w).any (fun n => ringOf n = x))
  let up := scope.filter (fun x => (s.ring x).link)
  let down := scope.filter (fun x => !(s.ring x).link)
  let r : Release :=
    { port := port, origin := origin, word := w, cleared := 0#16
      refused := down.foldl (fun m x => m ||| orCauses (s.namedCauses w x)) 0#16
      noLink := down ≠ [], await := up, acted := [] }
  let s1 := up.foldl (fun t x => t.sendRing x (.release (askedCauses w x) (some port))) s
  if up = [] then s1.endRelease r
  else (s1.modFlt (fun c => { c with releases := c.releases.filter (fun q => q.port ≠ port) ++ [r] }), .done)

/-- FLT_RELEASE (R347, R364): not a change. -/
def State.writeRelease (s : State) (port : PortId) (origin : Origin) (w : Word) : State × Reply :=
  let scope := fld w 30 2
  let index := fld w 16 5
  guarded s [refuseLow [(scope = 3, 30), ((scope = 0 && decide (15 < index)) || (scope = 1 && decide (1 < index)), 16),
      (w.truncate 16 &&& ~~~ causeMask ≠ 0#16, 0)]]
    (s.startRelease port origin w)

/-- A release frame acts on its Ring (R347): each named cause that is set there is cleared or refused. The collector's own release is recorded for
each channel whose REACTION it clears, of a ganged pair both (R345, R350). -/
def State.actRelease (s : State) (x : RingId) (causes : List (Fin 16 × BitVec 16)) (port : Option PortId) : State :=
  let set := causes.map (fun c => (c.1, c.2 &&& (s.chan c.1).causes))
  let refused := set.map (fun c => (c.1, s.refusedCauses c.1 c.2))
  let cleared := set.map (fun c => (c.1, c.2 &&& ~~~ (s.refusedCauses c.1 c.2)))
  let s1 := cleared.foldl (fun t c => if c.2 = 0#16 then t else t.dropCauses c.1 c.2) s
  match port with
  | some p => s1.modRelease p (fun r =>
      { r with cleared := r.cleared ||| orCauses cleared, refused := r.refused ||| orCauses refused, acted := r.acted ++ [x] })
  | none =>
    let freed := (ringChs x).filter (fun n => (s.chan n).causes.getLsbD 0 && !(s1.chan n).causes.getLsbD 0)
    freed.foldl (fun t n => (t.modChan n (fun ch =>
      if ch.latch && ch.causes = 0#16 then { ch with releaseDue := some (s.fab.stepNo + 1) } else ch)).event
        0x12 8 .internal (word n.1) 1#32) s1

/-- The acknowledgement of a Ring that acted reaches the host die in step s: its latches without causes release at the end
of step s + 1 (R348, R349), behind every older frame of the Ring (R17). One that fails its CRC is discarded and counted, and comes again (R18). -/
def execReleaseAck (p : PortId) (x : RingId) (good : Bool) (s : State) : Host.Outcome State Fault Refusal :=
  let due := match s.releaseOf p with
    | some r => decide (x ∈ r.await) && decide (x ∈ r.acted)
    | none => false
  ok <| whenDo (due && (s.ring x).upClear)
    (fun s => if !good then s.linkDiscard x else
      let s1 := (ringChs x).foldl (fun t n => t.modChan n (fun ch =>
        if ch.latch && ch.causes = 0#16 && ch.releaseDue = none then { ch with releaseDue := some (s.fab.stepNo + 1) } else ch)) s
      (s1.modRelease p (fun r => { r with await := r.await.filter (· ≠ x) })).settleRelease p) s

/-- A Ring whose link is lost is not waited for, and its named causes are refused (R347, R348). -/
def State.abandonReleases (s : State) (x : RingId) : State :=
  [PortId.hp0, PortId.hp1].foldl
    (fun t p => match t.releaseOf p with
      | some r =>
        if x ∈ r.await then
          (t.modRelease p (fun r => { r with
            await := r.await.filter (· ≠ x), noLink := true
            refused := r.refused ||| (if x ∈ r.acted then 0#16 else orCauses (t.namedCauses r.word x)) })).settleRelease p
        else t
      | none => t) s

/-! ## Host watchdog (R353, R354) -/

/-- FLT_WD_CFG: a change; EN = 1 starts a window at once (R353). -/
def State.writeWdCfg (s : State) (origin : Origin) (w : Word) : State × Reply :=
  guarded s [refuseLow [(outside 1 (fld w 0 14) 10000, 0)]]
    (s.changeWrite origin (.flt .wdCfg) w (fun t => t.modFlt (fun c =>
      { c with wdEn := bit w 31, wdWindow := BitVec.ofNat 14 (fld w 0 14), wdStart := s.clock })))

/-- A kick (R353): NOT_NOW disarmed, EXPIRED expired, REFUSED with a wrong token, else the window restarts. -/
def State.wdKick (s : State) (w : Word) : State × Reply :=
  let c := s.flt
  if !c.wdEn then (s, .notNow 0#32)
  else if c.wdExpired then (s, ⟨.expired, 0#32, []⟩)
  else if w.truncate 8 ≠ c.wdToken then (s.modFlt (fun c => { c with wdBad := satInc c.wdBad }), .refused 0)
  else (s.modFlt (fun c => { c with wdStart := s.clock, wdToken := c.wdToken + 1#8 }), .done)

/-- No kick was accepted for WINDOW ms (R353); in CELLAR mode the window is suspended. -/
def execWdExpiry (s : State) : Host.Outcome State Fault Refusal :=
  let c := s.flt
  ok <| whenDo (c.wdEn && !c.wdExpired && s.pwr.mode ≠ .cellar && decide (c.wdStart + c.wdWindow.toNat * 1000 ≤ s.clock))
    (fun s => (s.modFlt (fun c => { c with wdExpired := true })).raiseLive (hostSlot 0)) s

/-- REARM (R354): with EXPIRED at 0 it does nothing. -/
def State.wdRearm (s : State) (origin : Origin) (w : Word) : State × Reply :=
  if bit w 0 && s.flt.wdExpired then
    (((s.modFlt (fun c => { c with wdExpired := false, wdStart := s.clock })).clearLive (hostSlot 0)).event 0x12 2 origin 0#32 0#32, .done)
  else (s, .done)

/-- Whole ms left in the window (R364), which CELLAR mode suspends (R353). -/
def State.wdRemain (s : State) : Nat :=
  let c := s.flt
  let now := if s.pwr.mode = .cellar then max c.wdStart s.pwr.cellarFrom else s.clock
  if c.wdEn && !c.wdExpired then (c.wdStart + c.wdWindow.toNat * 1000 - now) / 1000 else 0

/-! ## Injection (R360 to R362) -/

/-- The members of a slot whose injected latch is live. -/
def FaultSlot.injected (f : FaultSlot) : List Nat := (List.range 32).filter (fun m => f.inj.getLsbD m)

/-- Some injected latch is live. -/
def State.injLive (s : State) : Bool := s.flt.slots.any (fun f => f.inj ≠ 0#32)

/-- The effect of an accepted FLT_INJ (R360). -/
def State.inject (s : State) (k : Fin 256) (m op : Nat) : State :=
  let keep := fun (p : Fin 256 × Byte × Nat) => !(p.1 = k && p.2.1 = BitVec.ofNat 8 m)
  let raised := if (s.slot k).inj.getLsbD (m % 32) then s else s.raise ⟨k, m, true, 0#32, false⟩
  match op with
  | 1 => raised
  | 2 => (s.modFlt (fun c => { c with pulses := c.pulses.filter keep })).clearCause k m true
  | _ => raised.modFlt (fun c =>
      { c with pulses := c.pulses.filter keep ++ [(k, BitVec.ofNat 8 m, s.clock + c.injDur.toNat)] })

/-- The function of a slot's channel; 0 for a slot of a Ring or of the host die. -/
def State.slotFunc (s : State) (k : Fin 256) : Nat :=
  match slotChannel k with
  | some n => (s.chan n).cfg.func
  | none => 0

/-- FLT_INJ (R360): a change with its own record (R370 code 0x0A). -/
def State.writeInj (s : State) (origin : Origin) (w : Word) : State × Reply :=
  let k : Fin 256 := toIdx 256 (fld w 0 8)
  let m := fld w 8 8
  let op := fld w 16 2
  guarded s [refuseLow [(op = 0, 16), (!slotHasMember (s.slotFunc k) k.1 m, 8), (!slotUsed k.1 || k.1 = 171, 0)], check (!s.flt.injEn) (.notNow 0#32)]
    (s.change origin 0x0A w 0#32 (fun t => t.inject k m op))

/-- A pulse ends FLT_INJDUR µs after it was raised (R360). -/
def execInjPulseEnd (k : Fin 256) (m : Byte) (s : State) : Host.Outcome State Fault Refusal :=
  ok <| whenDo (s.flt.pulses.any (fun p => p.1 = k && p.2.1 = m && decide (p.2.2 ≤ s.clock)))
    (fun s => (s.modFlt (fun c => { c with pulses := c.pulses.filter (fun p => !(p.1 = k && p.2.1 = m)) })).clearCause k m.toNat true) s

/-- Every injected latch clears, each with its INJ_CLEARED event (R361). -/
def State.clearInjected (s : State) (origin : Origin) : State :=
  forEach (List.finRange 256)
    (fun k t => forEach ((t.slot k).injected) (fun m u => (u.report (recCode 3 0x12 0xB) origin 2 (word k.1) (word m)).clearCause k m true) t)
    (s.modFlt (fun c => { c with pulses := [] }))

/-- FLT_INJCFG (R361, R362). -/
def State.writeInjcfg (s : State) (origin : Origin) (w : Word) : State × Reply :=
  guarded s [check (bit w 1 ≠ s.flt.dryrun && s.injLive) (.notNow 0#32)]
    (s.changeWrite origin (.flt .injcfg) w (fun t =>
      let t1 := t.modFlt (fun c => { c with injEn := bit w 0, dryrun := bit w 1 })
      if bit w 0 then t1 else t1.clearInjected origin))

/-! ## FLT_REACTk and FLT_CHSAFEn (R343, R344, R346) -/

/-- The refused fields of FLT_REACTk. -/
def reactBad (k : Nat) (w : Word) : List (Bool × Nat) :=
  let row := slotRow k
  let cls := fld w 0 2
  let re := fld w 4 3
  [(re = 5 || re = 6 || (row.fixed && re ≠ 3 && re ≠ 4) || (re = 1 && decide (128 ≤ k)) || (re = 2 && decide (168 ≤ k)), 4),
   (bit w 2 && cls = 2, 2),
   (!slotUsed k || cls = 3 || decide (cls < row.minCls) || (row.fixed && cls ≠ 2), 0)]

/-- FLT_REACTk (R344). -/
def State.writeReact (s : State) (origin : Origin) (k : Fin 256) (w : Word) : State × Reply :=
  s.imgWrite origin (.fltReact k) w [refuseLow (reactBad k.1 w)]
    (fun t => t.modFlt (fun c => { c with tbl := c.tbl.set k.1 (w.truncate 8 &&& 0x77#8), explicit := c.explicit.set k.1 true }))

/-- FLT_CHSAFEn.SAFE (R346): it reaches the Ring as a command. -/
def State.writeChsafe (s : State) (origin : Origin) (n : Fin 16) (w : Word) : State × Reply :=
  s.imgWrite origin (.fltChsafe n) w [refuseLow [(!safeAllowed (s.chan n).cfg.func (fld w 0 3), 0)]]
    (fun t => (t.modFlt (fun c => { c with safe := c.safe.set n.1 (w.truncate 3) })).sendRing (ringOf n) (.safeCode n (w.truncate 3)))

/-! ## Registers (R356, R357, R364) -/

/-- Place i of a register in FLT_LIVEi, FLT_STICKYi, FLT_INJLIVEi or FLT_INJSTICKYi. -/
def FltReg.ix (r : FltReg) : Nat := (r.off - 0x40) / 4 % 8

/-- 32 slots as a word. -/
def State.slotWord (s : State) (i : Nat) (f : FaultSlot → Bool) : Word :=
  word ((List.range 32).foldl (fun m b => m + bitAt (f (s.slot (toIdx 256 (32 * i + b)))) b) 0)

/-- A function of 32 slots, for those that a word names. -/
def State.modSlots (s : State) (i : Nat) (w : Word) (f : FaultSlot → FaultSlot) : State :=
  s.modFlt (fun c => { c with slots := Vector.ofFn (fun (k : Fin 256) =>
    if k.1 / 32 = i && bit w (k.1 % 32) then f c.slots[k.1] else c.slots[k.1]) })

/-- FLT_STATUS. -/
def State.fltStatus (s : State) : Word :=
  let live := fun (c : Nat) => s.flt.slots.any (fun f => f.liveAt.any (fun e => e.cls.toNat = c))
  word ((s.flt.slots.toList.filter FaultSlot.isLive).length % 256 * 65536 + b2n s.injLive * 16 + b2n s.flt.railFault * 8
    + b2n (live 2) * 4 + b2n (live 1) * 2 + b2n (live 0))

/-- A write of an FLT register, but for FLT_RELEASE, which a port's request answers later (R348). -/
def State.fltWrite (s : State) (port : PortId) (origin : Origin) (r : FltReg) (w : Word) : State × Reply :=
  let o := r.off
  if r = .irqcfg then (s.modFlt (fun c => { c with irqHp1 := BitVec.ofNat 2 (fld w 4 2), irqHp0 := BitVec.ofNat 2 (fld w 0 2) }), .done)
  else if r = .injcfg then s.writeInjcfg origin w
  else if r = .inj then s.writeInj origin w
  else if r = .injdur then
    guarded s [refuseLow [(outside 1 (fld w 0 20) 1000000, 0)]] (s.modFlt (fun c => { c with injDur := w.truncate 20 }), .done)
  else if r = .release then s.writeRelease port origin w
  else if r = .wdCfg then s.writeWdCfg origin w
  else if r = .wdKick then s.wdKick w
  else if r = .wdCmd then s.wdRearm origin w
  else if 0x60 ≤ o ∧ o < 0x80 then
    s.statusClear origin (.flt r) (w &&& s.slotWord r.ix (·.sticky)) (fun t => t.modSlots r.ix w (fun f => { f with sticky := false }))
  else if 0xA0 ≤ o then
    s.statusClear origin (.flt r) (w &&& s.slotWord r.ix (·.injSticky)) (fun t => t.modSlots r.ix w (fun f => { f with injSticky := false }))
  else (s, .done)

/-- A read of an FLT register: FLT_STICKYi sets SEEN (R357), FLT_WD_STAT.BAD clears. -/
def State.fltRead (s : State) (r : FltReg) : ReadResult :=
  let c := s.flt
  let o := r.off
  if r = .status then (s.fltStatus, s)
  else if r = .irqcfg then (word (c.irqHp1.toNat * 16 + c.irqHp0.toNat), s)
  else if r = .injcfg then (word (b2n c.dryrun * 2 + b2n c.injEn), s)
  else if r = .injdur then (c.injDur.zeroExtend 32, s)
  else if r = .relstat then (word (c.relRefused.toNat * 65536 + c.relCleared.toNat), s)
  else if r = .wdCfg then (word (b2n c.wdEn * 2147483648 + c.wdWindow.toNat), s)
  else if r = .wdStat then
    (word (s.wdRemain * 65536 + c.wdBad.toNat * 512 + b2n c.wdExpired * 256 + c.wdToken.toNat), s.modFlt (fun c => { c with wdBad := 0#3 }))
  else if r = .railchk then (c.railWord.zeroExtend 32, s)
  else if 0x40 ≤ o ∧ o < 0x60 then (s.slotWord r.ix (fun f => f.real ≠ 0#32), s)
  else if 0x60 ≤ o ∧ o < 0x80 then
    (s.slotWord r.ix (·.sticky), s.modSlots r.ix 0xFFFFFFFF#32 (fun f => if f.sticky then { f with seen := true } else f))
  else if 0x80 ≤ o ∧ o < 0xA0 then (s.slotWord r.ix (fun f => f.inj ≠ 0#32), s)
  else if 0xA0 ≤ o then (s.slotWord r.ix (·.injSticky), s)
  else (0#32, s)

/-- FLT_CHSAFEn. -/
def State.chsafeRead (s : State) (n : Fin 16) : Word :=
  word (b2n (s.flt.mirrorSet.getLsbD n.1) * 2147483648 + (s.flt.mirror[n.1]).toNat * 256 + (s.flt.safe[n.1]).toNat)

/-- FLT_SRCk: RAISES clears, and SEEN is set where the sticky bit is 1 (R357). -/
def State.srcRead (s : State) (k : Fin 256) : ReadResult :=
  let f := s.slot k
  (word (f.raises.toNat * 16777216 + b2n f.seen * 262144 + b2n (f.inj ≠ 0#32) * 131072 + b2n (f.real ≠ 0#32) * 65536
    + f.react.toNat * 4096 + f.cls.toNat * 256 + f.member.toNat),
   s.modSlot k (fun f => { f with raises := 0#8, seen := f.seen || f.sticky }))

/-- FLT_REACTk. -/
def State.reactRead (s : State) (k : Fin 256) : Word :=
  let row := slotRow k.1
  word (b2n (slotUsed k.1) * 2048 + b2n row.fixed * 1024 + row.minCls * 256 + (s.flt.tbl[k.1]).toNat)

/-- FLT_IRQ: the FAULT cause of a port (R359). -/
def State.faultIrq (s : State) (p : PortId) : Bool :=
  let min := if p = .hp0 then s.flt.irqHp0 else s.flt.irqHp1
  min ≠ 3#2 && s.flt.slots.any (fun f => (f.sticky || f.injSticky) && decide (min ≤ f.cls))

/-! ## The reaction table and the safe codes of an image (R104, R343) -/

/-- The table byte and the mark of a record. -/
def Image.reactByte (i : Image) (k : Nat) : Byte × Bool :=
  match i.fault.find? (fun r => u16 r 0 = k) with
  | some r => (BitVec.ofNat 8 (u8 r 2), true)
  | none => (BitVec.ofNat 8 ((slotRow k).cls + 16 * (slotRow k).react), false)

/-- The collector's table and safe codes at A; the old table goes on to settle the faults that were detected before A (R122). -/
def State.activateFaults (s : State) (i : Image) : State :=
  s.modFlt (fun c => { c with
    past := c.past ++ [{ before := s.fab.stepStart, tbl := c.tbl, explicit := c.explicit
                         func := s.chans.toList.map (fun c => c.cfg.func), paired := s.img.paired }]
    tbl := Vector.ofFn (fun (k : Fin 256) => (i.reactByte k.1).1)
    explicit := Vector.ofFn (fun (k : Fin 256) => (i.reactByte k.1).2)
    safe := Vector.ofFn (fun (n : Fin 16) => i.safeCode n.1) })

end Sys2Proof.Machine
end

