-- ==== Sys2Proof/Machine/RecRegs.lean ====
section
/-! DEFINITION. Commits, clears, cursors and the REC and JNL registers (14_recorder_journal.md, R365, R375, R379 to R389). -/

namespace Sys2Proof.Machine

def State.modRec (s : State) (f : Recorder → Recorder) : State := { s with recd := f s.recd }

/-! ## Records and commits (R365, R375, R379, R386) -/

/-- An event reaches the recorder (R375). -/
def execEventReport (code : BitVec 16) (origin : Origin) (p1 p2 : Word) (s : State) : Host.Outcome State Fault Refusal :=
  ok (s.report code origin 0 p1 p2)

/-- The oldest staged event finishes programming (R365). What arises during a power-fail commit is programmed after it (R387). -/
def execRecordWritten (s : State) : Host.Outcome State Fault Refusal :=
  ok <| whenDo (s.recd.staged ≠ [] && s.recd.pfCommit ≠ some 0) (fun s => s.recordWritten) s

/-- 1 s after the first uncommitted merge the tail cache is committed, and the base with it (R379, R386). -/
def execTailCacheCommit (s : State) : Host.Outcome State Fault Refusal :=
  ok <| whenDo (s.recd.tailDirty && decide (s.recd.tailDue ≤ s.clock)) (fun s => s.commitTail.keepIdle.appendLog 64) s

/-- The operating-time base and the switching counts are committed, with PAIR_IDLE: 1 KiB of the counter log (R209, R386, R449, R489). -/
def State.commitCounts (s : State) : State :=
  (s.keepIdle.modRec (fun r => { r with
    optCommitted := s.opt, seqCommitted := r.seqNext
    swCommitted := Vector.ofFn (fun (n : Fin 16) => (s.chan n).stage.swcnt) })).appendLog 1024

/-- A periodic commit, which keeps the lifetime telemetry too (R386, R465). -/
def State.periodicCommit (s : State) : State :=
  let t := s.commitCounts
  { t with bg := { t.bg with lifeKept := t.bg.life } }

/-- Every 60 s on a grid from start, but not in CELLAR mode, whose internal wakes commit (R386, R470). -/
def execPeriodicCommit (s : State) : Host.Outcome State Fault Refusal :=
  ok <| whenDo (s.phase = .run && s.pwr.mode ≠ .cellar && decide (s.recd.commitAt + 60000000 ≤ s.clock)) 
    (fun s => (s.periodicCommit).modRec (fun r => { r with commitAt := r.commitAt + (s.clock - r.commitAt) / 60000000 * 60000000 })) s

/-- The first `n` staged events are programmed, oldest first: the first part of the power-fail commit (R387). -/
def State.flushStaged : Nat → State → State
  | 0, s => s
  | n + 1, s => if s.recd.staged = [] then s else State.flushStaged n s.recordWritten

/-- The power-fail commit ends (R387): the events staged at its start, tail cache, base, switching counts and the completion
mark. -/
def State.powerCommit (s : State) : State :=
  ((State.flushStaged (s.recd.pfCommit.getD 0) s).commitTail.commitCounts).modRec
    (fun r => { r with pfCommit := none, completion := true })

/-! ## Clears (R382) -/

/-- SEQ of the oldest and of the newest record, 0 where there is none (R389). -/
def firstSeq (rs : List Record) : Word := (rs.head?.map (·.seq)).getD 0#32
def lastSeq (rs : List Record) : Word := (rs.getLast?.map (·.seq)).getD 0#32

/-- REC_CLEAR: its journal record first, and the event store is empty; RECORDS_FULL ends (R382). The old sectors' erases are counted with
it (log entry 23). -/
def State.recClear (s : State) (origin : Origin) (upto : Word) : State × Reply :=
  let es := s.recd.events
  guarded s [check (es = []) (.notNow 0#32), check (upto ≠ lastSeq es) (.refused 0)]
    (s.change origin 7 (firstSeq es) (lastSeq es)
      (fun t => ((t.modRec (fun r => { r with events := [], tailDirty := false, dirtyMark := false })).eraseRecords 64 es.length).clearLive (hostSlot 13)))

/-- JNL_CLEAR: accepted while the journal is full; its own record becomes the first entry; JOURNAL_FULL ends (R382). -/
def State.jnlClear (s : State) (origin : Origin) (upto : Word) : State × Reply :=
  let js := s.recd.journal
  guarded s [check (js = []) (.notNow 0#32), check (upto ≠ lastSeq js) (.refused 0)]
    ((((s.modRec (fun r => { r with journal := [] })).eraseRecords 112 js.length).appendJournal 8 origin (firstSeq js) (lastSeq js)).clearLive (hostSlot 12),
      ⟨.ok, s.recd.seqNext, []⟩)

/-! ## Cursors (R380) -/

/-- The window words of a record whose stored CRC does not match: its stored bytes are free values (log entry 6), but for a CRC that does not
match them. -/
def State.unmatched (s : State) : List Word :=
  let body := (List.range 30).map (fun i => Config.hiddenByte (s.freeCtr * 0x400000 + 0x3C0000 + i))
  let x : BitVec 16 := s.free.1.truncate 16
  windowWords (body ++ leBytesN 2 (crc16 body ^^^ (if x = 0#16 then 1#16 else x)).toNat)

/-- A write of REC_CURSOR or JNL_CURSOR snapshots one record for the writing master; `bad` are the words of one whose stored CRC does not
match. SNAPGEN is taken also where INDEX names no record (R380). -/
def cursorAt (rs : List Record) (index : BitVec 13) (events : Bool) (bad : Option (List Word)) (gen : BitVec 16) : Cursor :=
  let c : Cursor := { Cursor.reset with index := index, gen := if events then gen else 0#16 }
  match rs[index.toNat]? with
  | none => c
  | some r =>
    { c with valid := true, crcOk := bad.isNone, tail := events && decide (index.toNat + 1 = rs.length), words := bad.getD (windowWords r.bytes) }

def Cursor.word (c : Cursor) : Word :=
  Machine.word (c.gen.toNat * 65536 + b2n c.tail * 32768 + b2n c.crcOk * 16384 + b2n c.valid * 8192 + c.index.toNat)

/-- Word i of a window (R380). -/
def Cursor.window (c : Cursor) (i : Nat) : Word := c.words.getD i 0#32

/-- A cursor write, by origin (R380): `obs` is 1 where the record's stored CRC does not match. -/
def State.writeCursor (s : State) (origin : Origin) (journal : Bool) (w : Word) (obs : Option Int) : State :=
  let m := mix (originMaster origin)
  let index : BitVec 13 := w.truncate 13
  let bad := if obs = some 1 then some s.unmatched else none
  let t := if obs = some 1 then s.free.2 else s
  t.modRec (fun r =>
    if journal then { r with jnlCur := r.jnlCur.set m.1 (cursorAt r.journal index false bad r.tailGen) }
    else { r with recCur := r.recCur.set m.1 (cursorAt r.events index true bad r.tailGen) })

/-! ## Registers (R389) -/

/-- A write of a REC or JNL register. -/
def State.recWrite (s : State) (origin : Origin) (r : RecReg) (w : Word) (obs : Option Int) : State × Reply :=
  if r = .cursor then (s.writeCursor origin false w obs, .done)
  else if r = .jcursor then (s.writeCursor origin true w obs, .done)
  else if r = .clear then s.recClear origin w
  else if r = .jclear then s.jnlClear origin w
  else (s, .done)

/-- A read of a REC or JNL register by a master; REC_LOST and JNL_REFUSED clear (R4). -/
def State.recRead (s : State) (origin : Origin) (r : RecReg) : ReadResult :=
  let c := s.recd
  let m := mix (originMaster origin)
  let o := r.off
  if r = .stat then
    (word (c.staged.length * 65536 + b2n c.tailDirty * 16384 + b2n (decide (6144 ≤ c.events.length)) * 8192 + c.events.length), s)
  else if r = .cursor then ((c.recCur[m.1]).word, s)
  else if r = .tailgen then (c.tailGen.zeroExtend 32, s)
  else if r = .firstseq then (firstSeq c.events, s)
  else if r = .lastseq then (lastSeq c.events, s)
  else if r = .lost then
    (word (c.lostFull.toNat * 65536 + c.lostStaging.toNat), s.modRec (fun r => { r with lostFull := 0#16, lostStaging := 0#16 }))
  else if 0x20 ≤ o ∧ o < 0x40 then ((c.recCur[m.1]).window ((o - 0x20) / 4), s)
  else if r = .jstat then (word (b2n c.jnlFull * 4096 + c.journal.length), s)
  else if r = .jcursor then ((c.jnlCur[m.1]).word, s)
  else if r = .jfirstseq then (firstSeq c.journal, s)
  else if r = .jlastseq then (lastSeq c.journal, s)
  else if r = .jrefused then (c.jnlRefused.zeroExtend 32, s.modRec (fun r => { r with jnlRefused := 0#16 }))
  else if 0x120 ≤ o ∧ o < 0x140 then ((c.jnlCur[m.1]).window ((o - 0x120) / 4), s)
  else if r = .seqnext then (c.seqNext, s)
  else if r = .pfstat then (word (b2n c.estimated * 4 + b2n c.tailLost * 2 + b2n c.pfComplete), s)
  else (0#32, s)

/-! ## Start (R366, R379, R383, R384) -/

/-- a is later than b as serial numbers modulo 2³² (R366). -/
def serialLater (a b : Word) : Bool := let d := (a - b).toNat; decide (1 ≤ d) && decide (d < 2 ^ 31)

/-- The later of two sequence numbers. -/
def laterSeq (a b : Word) : Word := if serialLater a b then a else b

/-- The recorder at a start (R366, R379, R383, R384): the sequence and the operating time resume, a dirty mark makes the tail
take UNCOMMITTED with its committed REPEAT and SPAN, and the START record follows. `reset` says that RESET_N started it. -/
def Recorder.start (r : Recorder) (clock : Nat) : Recorder :=
  let newest := (r.events ++ r.journal).foldl (fun m e => laterSeq (e.seq + 1#32) m) r.seqCommitted
  let opt := (r.events ++ r.journal).foldl (fun m e => if m.toNat < e.opt.toNat then e.opt else m) r.optCommitted
  let events := match r.events.getLast? with
    | some t => if r.dirtyMark then r.events.dropLast ++ [{ t with flags := t.flags ||| 4#8, rep := r.tailRep, span := r.tailSpan }] else r.events
    | none => r.events
  { r with
    events := events, staged := [], seqNext := newest, seqCommitted := newest, optBase := opt, optCommitted := opt
    pwrcyc := satInc r.pwrcyc, tailDirty := false, dirtyMark := false, completion := false
    pfComplete := r.completion, tailLost := r.dirtyMark && r.events ≠ [], estimated := !r.completion
    tailGen := 0#16, lostFull := 0#16, lostStaging := 0#16, overflow := 0, jnlRefused := 0#16, commitAt := clock, pfCommit := none
    recCur := Vector.replicate 4 Cursor.reset, jnlCur := Vector.replicate 4 Cursor.reset }

end Sys2Proof.Machine
end

