-- ==== Sys2Proof/Machine/Loader.lean ====
section
/-! DEFINITION. The loader: sessions, verification, activation up to its boundary, the start-time load, and the IMG
registers (04_configuration_image.md, R94 to R96, R110 to R129, R505). -/

namespace Sys2Proof.Machine

def State.modImg (s : State) (f : ImgState → ImgState) : State := { s with img := f s.img }

/-- Place of a slot in its table. -/
def slotIx (n : Bool) : Fin 2 := if n then 1 else 0

def State.imgSlot (s : State) (n : Bool) : Slot := s.img.slots[(slotIx n).1]

def State.modImgSlot (s : State) (n : Bool) (f : Slot → Slot) : State :=
  s.modImg (fun i => { i with slots := tmod i.slots (slotIx n) f })

def State.setSlot (s : State) (n : Bool) (st : SlotState) : State := s.modImgSlot n (fun k => { k with st := st })

/-- Slot state codes (R95). -/
def SlotState.code : SlotState → Nat
  | .empty => 0
  | .receiving => 1
  | .unchecked => 2
  | .verified => 3
  | .invalid => 4
  | .active => 5

/-- IMG_STATUS.STATE codes (R129). -/
def LoadState.code : LoadState → Nat
  | .idle => 0
  | .erasing => 1
  | .receiving => 2
  | .verifying => 3
  | .activating => 4

/-! ## The active-slot record and the slots (R94, R96) -/

/-- The slot that the active-slot record names: that of the valid copy with the higher sequence number (R96). -/
def ImgState.recorded (i : ImgState) : Option Bool :=
  match i.record[0], i.record[1] with
  | none, none => none
  | some a, none => some a.1
  | none, some b => some b.1
  | some a, some b => some (if a.2 < b.2 then b.1 else a.1)

/-- One copy of the record is written: the one that does not hold the newer number (R96). -/
def ImgState.writeRecord (i : ImgState) (n : Bool) : ImgState :=
  match i.record[0], i.record[1] with
  | none, _ => { i with record := i.record.set 0 (some (n, (i.record[1].map (·.2 + 1)).getD 0)) }
  | some a, none => { i with record := i.record.set 1 (some (n, a.2 + 1)) }
  | some a, some b =>
    if a.2 < b.2 then { i with record := i.record.set 0 (some (n, b.2 + 1)) }
    else { i with record := i.record.set 1 (some (n, a.2 + 1)) }

/-- The inactive slot (R94); without any record it is slot 0 (log entry 18). -/
def ImgState.inactive (i : ImgState) : Bool := if i.recorded = none then false else !i.active

/-- Some byte of the slot is programmed. -/
def State.slotHolds (s : State) (n : Bool) : Bool :=
  s.cells.any (fun c => decide (slotBase n ≤ c.1) && decide (c.1 < slotBase n + 0x20000))

/-- A word of a slot's header; 0 where the slot is EMPTY (R129). -/
def State.headerWord (s : State) (n : Bool) (o : Nat) : Word :=
  if (s.imgSlot n).st = .empty then 0#32 else word (leNat (Memory.range s.cells (slotBase n + o) 4))

/-- The CRC of a slot's header. -/
def State.headerCrc (s : State) (n : Bool) : Word := s.headerWord n 60

/-! ## CU3 (R110) -/

def State.modChk (s : State) (u : Fin 4) (f : Chk → Chk) : State := { s with chks := tmod s.chks u f }

/-- The loader borrows CU3: a scan on it is suspended between scan units, one that has just started after its first unit (R419). -/
def State.borrowCu3 (s : State) : State :=
  (s.modChk 3 (fun c => { c with st := if c.st = .scanning && c.pos ≠ 0#21 then .suspended else c.st })).modImg
    (fun i => { i with borrowed := true })

/-- The loader ends its work: a suspended job resumes from its running value and position. -/
def State.returnCu3 (s : State) : State :=
  (s.modChk 3 (fun c => { c with st := if c.st = .suspended then .scanning else c.st })).modImg (fun i => { i with borrowed := false })

/-- An image operation completes (R114): STATE is IDLE again, with the code and its IMAGE_DONE event (R369). -/
def State.endOperation (s : State) (code : Nat) (crc : Word) : State :=
  let s1 := (s.returnCu3).modImg (fun i =>
    { i with load := .idle, ldCode := BitVec.ofNat 8 code, actPending := false, shadow := none, await := [], erased := [] })
  s1.event 0x10 4 s.img.origin (word (s.img.ldOp.toNat + code % 256 * 256)) crc

/-! ## Image operations (R111, R114) -/

/-- The operation is allowed in the present state (R114). -/
def State.opAllowed (s : State) (op : Nat) (n : Bool) : Bool :=
  let st := s.img.load
  match op with
  | 1 => st = .idle
  | 2 => st = .receiving
  | 4 => st = .erasing || st = .receiving || st = .verifying
  | _ =>
    let k := (s.imgSlot n).st
    st = .idle && (k = .active || (n = s.img.inactive && (k = .unchecked || k = .verified)))

/-- OPEN erases the inactive slot (R111). -/
def State.openSession (s : State) (origin : Origin) : State :=
  let n := s.img.inactive
  ({ s with cells := Memory.erase s.cells (slotBase n) (slotBase n + 0x20000) }.modImgSlot n
    (fun _ => { st := .receiving, written := 0#32768 })).modImg (fun i =>
      { i with erased := Memory.cellsOf s.cells (slotBase n) (slotBase n + 0x20000), load := .erasing, target := n, waddr := 0#18, ldOp := 1#4, ldCode := 1#8, origin := origin })

/-- CLOSE starts verification on CU3 (R111, R114). -/
def State.closeSession (s : State) (origin : Origin) : State :=
  (s.borrowCu3).modImg (fun i => { i with load := .verifying, ldOp := 2#4, ldCode := 1#8, origin := origin })

/-- No slot could be activated at start (R126 step 4): NO_IMAGE is set and its source raised. -/
def State.noSlot (s : State) (code : Nat) : State :=
  ((s.returnCu3).modImg (fun i =>
    { i with load := .idle, ldCode := BitVec.ofNat 8 code, starting := false, noImage := true, running := none, shadow := none
             claims := [], actPending := false })).raiseLive (hostSlot 18)

/-- ABORT ends a session (R114). During the verification of an ACTIVATE it ends the activation and the slot stays as it
was; during the start-time load it ends that load (log entry 19). -/
def State.abortSession (s : State) (origin : Origin) : State :=
  let n := s.img.target
  let session := (s.imgSlot n).st = .receiving
  let crc := s.headerCrc n
  let s1 := if session then s.setSlot n (if (s.imgSlot n).written = 0#32768 then .empty else .invalid) else s
  let s2 := if s.img.starting then s1.noSlot 0x1D else s1
  (s2.modImg (fun i => { i with ldOp := 4#4, origin := origin })).endOperation 0x1D (if session then s1.headerCrc n else crc)

/-- ACTIVATE (R120 step 1): the slot is verified first where it is UNCHECKED. -/
def State.startActivate (s : State) (origin : Origin) (n : Bool) : State :=
  (s.borrowCu3).modImg (fun i =>
    { i with load := if (s.imgSlot n).st = .unchecked then .verifying else .activating
             actPending := true, target := n, ldOp := 3#4, ldCode := 1#8, origin := origin })

/-- A WRITE of IMG_CTRL (R111, R114, R129). -/
def State.imgCtrl (s : State) (origin : Origin) (w : Word) : State × Reply :=
  let op := fld w 0 4
  let n := bit w 8
  guarded s [refuseLow [(decide (op < 1) || decide (4 < op), 0)], check (!s.opAllowed op n) (.notNow (word s.img.load.code))]
    (s.change origin 4 w (if op = 3 then s.headerCrc n else 0#32) (fun t =>
      match op with
      | 1 => t.openSession origin
      | 2 => t.closeSession origin
      | 3 => t.startActivate origin n
      | _ => t.abortSession origin))

/-- The first sector of a slot (R457). -/
def slotSector (n : Bool) : Nat := if n then 32 else 0

/-- An erase or a program fails on a sector of the session's slot, which is retired (R119, R458). -/
def State.slotSectorFails (s : State) (k : Nat) : State :=
  s.setWear (s.bg.wear.failAt (toIdx 216 (slotSector s.img.target + k % 32)))

/-- A WRITE of IMG_WDATA (R112): one word once per session; IMG_WADDR advances by 4 in every case, and wraps to 0 at the end of its
field (DESIGN CHOICE, log entry 102). `fails` says that the
cellar store failed to program the word (R119): the slot is INVALID and the session ends. -/
def State.imgWdata (s : State) (w : Word) (fails : Bool) : State × Reply :=
  let i := s.img
  let a := i.waddr.toNat
  let s1 := s.modImg (fun i => { i with waddr := i.waddr + 4#18 })
  if i.load ≠ .receiving then (s1, .notNow (word i.load.code))
  else if 131072 ≤ a || (s.imgSlot i.target).written.getLsbD (a / 4) then (s1, .refused 0)
  else if fails then (((s1.slotSectorFails (a / 4096)).setSlot i.target .invalid).endOperation 0x1C (s1.headerCrc i.target), .done)
  else
    ({ s1 with cells := Memory.writeAll s1.cells (slotBase i.target + a) (leBytes w) }.modImgSlot i.target
      (fun k => { k with written := k.written ||| (1#32768 <<< (a / 4)) }), .done)

/-! ## Progress of the loader (R114 to R120, R126) -/

/-- The slot erase completes, each of the slot's 32 sectors erased once (R457, R458), or the store fails (R118, R119) on a sector that a free
value names (log entry 6). -/
def execSlotEraseDone (fails : Bool) (s : State) : Host.Outcome State Fault Refusal :=
  ok <| whenDo (s.phase = .run && s.img.load = .erasing)
    (fun s =>
      if fails then ((s.free.2.slotSectorFails s.free.1.toNat).setSlot s.img.target .invalid).endOperation 0x1C 0#32
      else (((s.eraseSectors (slotSector s.img.target) 32).modImg (fun i => { i with load := .receiving, ldCode := 0#8, erased := [] })).event
        0x10 4 s.img.origin (word s.img.ldOp.toNat) 0#32)) s

/-- Where a failure lies (R117): a verification writes every field, 0 where its outcome names nothing (log entry 16). -/
def State.noteVerdict (s : State) (v : Verdict) : State :=
  s.modImg (fun i => { i with
    errloc := v.errloc.getD 0#32
    claimErrA := (v.claimErr.map (·.1)).getD 0#32
    claimErrB := (v.claimErr.map (·.2.1)).getD 0#32
    claimErrRec := (v.claimErr.map (·.2.2)).getD 0#32 })

/-- A slot passes at start or at ACTIVATE, and the loader expands it. -/
def State.expand (s : State) : State := s.modImg (fun i => { i with load := .activating })

/-- The start-time load goes on to the other slot, or ends with none (R126 step 3). -/
def State.tryFallback (s : State) : State :=
  let o := !s.img.target
  if (s.imgSlot o).st = .empty then s.noSlot 0x1F else s.modImg (fun i => { i with target := o })

/-- The other slot passed at start (R126 step 3): the fallback is a change with origin loader. -/
def State.takeFallback (s : State) (i : Image) : State :=
  if !i.fallbackOk then s.noSlot 0x1F
  else if s.recd.jnlFull then s.refuseFull.noSlot 0x1E
  else
    let k := hostSlot 17
    let t := (s.journal 5 .loader (word (b2n s.img.target)) i.crc).modImg (fun g => { g with fallback := true })
    (if instantSource k.1 0 then t.raiseHost 17 else t.raiseLive k).expand

/-- Verification completes (R116): the slot becomes VERIFIED or INVALID, with its code; what follows depends on the
operation (R114, R120, R126). -/
def execVerifyDone (s : State) : Host.Outcome State Fault Refusal :=
  ok <| whenDo (s.phase = .run && s.img.load = .verifying)
    (fun s =>
      let n := s.img.target
      let b := s.slotBytes n
      let v := verify b (if s.img.ldOp = 2#4 then some (s.imgSlot n).written else none)
      let s1 := (s.noteVerdict v).setSlot n (if v.code = 0 then .verified else .invalid)
      if s.img.starting then
        (if s.img.recorded = some n then (if v.code = 0 then s1.expand else s1.tryFallback)
         else if v.code = 0 then s1.takeFallback (parseImage b) else s1.noSlot 0x1F)
      else if s.img.ldOp = 3#4 && v.code = 0 then s1.expand
      else s1.endOperation v.code (s1.headerCrc n)) s

/-- The Rings that an activation waits for (R120 step 3): their link is up and their record is powered in both images. -/
def State.awaited (s : State) (i : Image) : List RingId :=
  [RingId.a, RingId.b].filter (fun x =>
    (s.ring x).link && i.powered (ringIx x) && (match s.img.running with
      | some o => o.powered (ringIx x)
      | none => true))

/-- The loader has expanded the image into the shadow bank (R120 step 2); at start it stages on no Ring (R505). -/
def execImageExpanded (s : State) : Host.Outcome State Fault Refusal :=
  ok <| whenDo (s.phase = .run && s.img.load = .activating && s.img.shadow = none)
    (fun s =>
      let i := parseImage (s.slotBytes s.img.target)
      let s1 := s.modImg (fun g => { g with shadow := some i, await := if g.starting then [] else s.awaited i })
      if s.img.starting then s1 else [RingId.a, RingId.b].foldl (fun t x => t.sendRing x .stageImage) s1) s

/-- A Ring acknowledges staging (R120 step 3), behind what it has to send (R17). An acknowledgement whose CRC fails is discarded and comes
again (R18). -/
def execStagingAck (x : RingId) (good : Bool) (s : State) : Host.Outcome State Fault Refusal :=
  ok <| whenDo ((s.ring x).upClear && (s.ring x).staged && decide (x ∈ s.img.await))
    (fun s => if good then s.modImg (fun i => { i with await := i.await.filter (· ≠ x) }) else s.linkDiscard x) s

/-- The activation is ready for its boundary (R120 step 3). -/
def State.actReady (s : State) : Bool := s.img.load = .activating && s.img.shadow ≠ none && s.img.await = []

/-! ## Stop and start (R115, R126) -/

/-- A loss of VH or a reset ends a session (R115); one that cuts an erase leaves the sectors that it has not reached as they were (R489). -/
def State.loaderStop (s : State) : State :=
  let n := s.img.target
  if (s.imgSlot n).st ≠ .receiving then s
  else if s.img.load = .erasing then ((s.cutErase (slotBase n) 32 s.img.erased).modImg (fun i => { i with erased := [] })).setSlot n .empty
  else s.setSlot n .invalid

/-- A slot at start (R95, R115, R126): INVALID where a session was interrupted, EMPTY where its erase was, else UNCHECKED where it holds an
image, else EMPTY. -/
def State.slotAtStart (s : State) (n cut : Bool) : SlotState :=
  if cut && ((s.imgSlot n).st = .invalid || (s.imgSlot n).st = .empty) then (s.imgSlot n).st else if s.slotHolds n then .unchecked else .empty

/-- The loader at step 4 of a start (R126): it reads the record and verifies the slot it names. `cut` says that a session
was under way when the device stopped. -/
def State.loaderStart (s : State) (cut : Bool) : State :=
  let t := s.img.target
  let s0 := (s.setSlot false (s.slotAtStart false (cut && !t))).setSlot true (s.slotAtStart true (cut && t))
  match s.img.recorded with
  | none => (s0.modImg (fun i => { i with starting := true })).noSlot 0x1F
  | some a =>
    (s0.borrowCu3).modImg (fun i => { i with starting := true, load := .verifying, target := a, active := a, origin := .loader })

/-- The registers of the block at a start: the values of Reset (R4, R129). -/
def ImgState.restart (i : ImgState) : ImgState :=
  { i with load := .idle, actPending := false, borrowed := false, fallback := false, noImage := false, diverged := false
           divcnt := 0#16, ldOp := 0#4, ldCode := 1#8, waddr := 0#18, errloc := 0#32, claimErrA := 0#32, claimErrB := 0#32
           claimErrRec := 0#32, actStep := 0#64, claimq := 0#16, starting := false, shadow := none, await := [], running := none
           claims := [], paired := false, pairId := false }

/-! ## Registers (R129) -/

/-- IMG_STATUS. -/
def State.imgStatus (s : State) : Word :=
  let i := s.img
  word (b2n i.actPending * 32768 + b2n i.borrowed * 16384 + b2n i.fallback * 8192 + b2n i.noImage * 4096 + b2n i.diverged * 2048
    + i.load.code * 256 + b2n i.active)

/-- The holder of the resource that IMG_CLAIMQ names (R128). -/
def State.claimHolder (s : State) : Word :=
  let q := s.img.claimq.toNat
  s.holderCode (q / 2048) (q / 1024 % 2) (q % 1024)

/-- A slot's registers (R129): STATE with FORMAT, CRC, USER_VERSION and LENGTH. -/
def State.slotState (s : State) (n : Bool) : Word := word (fld (s.headerWord n 4) 0 4 * 65536 + (s.imgSlot n).st.code)

/-- A write of an IMG register. -/
def State.imgRegWrite (s : State) (origin : Origin) (r : ImgReg) (w : Word) (obs : Option Int) : State × Reply :=
  match r with
  | .ctrl => s.imgCtrl origin w
  | .status =>
    s.statusClear origin (.img .status) (w &&& word (b2n s.img.fallback * 8192))
      (fun t => t.modImg (fun i => { i with fallback := false }))
  | .waddr =>
    guarded s [refuseLow [(bit w 17, 2)]] (s.modImg (fun i => { i with waddr := BitVec.ofNat 18 (fld w 2 16 * 4) }), .done)
  | .wdata => s.imgWdata w (obs = some 1)
  | .claimq => (s.modImg (fun i => { i with claimq := BitVec.ofNat 16 (fld w 16 16) }), .done)
  | .ldstat | .errloc | .claimerrA | .claimerrB | .claimerrRec | .divcnt | .actstepLo | .actstepHi | .claimqHolder
  | .slot0State | .slot0Crc | .slot0Ver | .slot0Len | .slot1State | .slot1Crc | .slot1Ver | .slot1Len => (s, .done)

/-- A read of an IMG register. -/
def State.imgRegRead (s : State) (r : ImgReg) : Word :=
  let i := s.img
  match r with
  | .ctrl | .wdata => 0#32
  | .status => s.imgStatus
  | .ldstat => word (i.ldOp.toNat * 65536 + i.ldCode.toNat)
  | .waddr => word i.waddr.toNat
  | .errloc => i.errloc
  | .claimerrA => i.claimErrA
  | .claimerrB => i.claimErrB
  | .claimerrRec => i.claimErrRec
  | .divcnt => i.divcnt.zeroExtend 32
  | .actstepLo => i.actStep.extractLsb' 0 32
  | .actstepHi => i.actStep.extractLsb' 32 32
  | .claimq => word (i.claimq.toNat * 65536)
  | .claimqHolder => s.claimHolder
  | .slot0State => s.slotState false
  | .slot0Crc => s.headerCrc false
  | .slot0Ver => s.headerWord false 8
  | .slot0Len => s.headerWord false 12
  | .slot1State => s.slotState true
  | .slot1Crc => s.headerCrc true
  | .slot1Ver => s.headerWord true 8
  | .slot1Len => s.headerWord true 12

end Sys2Proof.Machine
end

