-- ==== Sys2Proof/Machine/Replay.lean ====
section
/-! DEFINITION. Capture frames, the replay store, REPLAY mode, re-runs and the RPL registers (15_replay.md). What a trigger
starts stands in Hooks.lean. -/

namespace Sys2Proof.Machine

/-! ## Frames (R390 to R392) -/

/-- The state block of a KEY frame (R391). -/
def FabState.stateBlock (f : FabState) : List Byte :=
  leBytesN 64 f.latched.toNat
    ++ (List.range 64).flatMap (fun i =>
      let t := f.timer i
      leBytesN 4 t.e ++ leBytesN 1 (b2n t.q) ++ leBytesN 1 (b2n t.runPrev) ++ leBytesN 2 0)
    ++ (List.range 32).flatMap (fun i =>
      let c := f.counter i
      leBytes c.v ++ leBytesN 1 c.prev.toNat ++ leBytesN 3 0)
    ++ leBytesN 2 (bitsOf 16 (fun i => (f.comparator i).out)).toNat ++ leBytesN 2 0

/-- The filtered values and counts that the comparators in use name (R130, R140, R391). -/
def FabState.sourceKeys (f : FabState) : List (Nat × Nat) :=
  f.comparators.flatMap (fun c =>
    if !c.used || 2 ≤ c.aKind.toNat then []
    else (c.aKind.toNat, c.aIndex.toNat) :: (if c.op.toNat / 16 % 2 = 1 then [(c.aKind.toNat, c.bIndex.toNat)] else []))

/-- The comparator sources of a snapshot, each once; one without a value reads 0 (R140, R391). -/
def FabState.frameValues (f : FabState) : List SourceVal :=
  (f.sourceKeys.foldl (fun l k => if k ∈ l then l else l ++ [k]) []).map (fun k =>
    (f.snap.values.find? (fun v => v.kind = k.1 && v.index = k.2)).getD ⟨k.1, k.2, 0#32, false, false⟩)

/-- The value items of a frame (R391): every source in a KEY frame, else those that differ from the previous frame's. -/
def valueItems (key : Bool) (last vals : List SourceVal) : List SourceVal :=
  vals.filter (fun v => key || !(last.any (fun u => u.kind = v.kind && u.index = v.index && u.value = v.value)))

/-- A value item (R391). -/
def SourceVal.item (v : SourceVal) : List Byte := leBytesN 1 v.kind ++ leBytesN 1 v.index ++ leBytesN 2 0 ++ leBytes v.value

/-- A setpoint item (R391). -/
def setpointItem (p : Addr × Origin × Word) : List Byte := leBytesN 3 p.1.toNat ++ leBytesN 1 (originCode p.2.1) ++ leBytes p.2.2

/-- The raw channels (R406, R407). -/
def Replay.rawChannels (r : Replay) : List Nat := [fld r.capcfg 16 5, fld r.capcfg 24 5].filter (fun n => decide (n < 16))

/-- The raw items of a channel: its conversions in the step, at most 255 in an item, whose count is one byte (R391; DESIGN CHOICE, log entry
125). -/
def rawItem (raw : List (Fin 16 × Word)) (n : Nat) : List Byte :=
  let codes := raw.filter (fun e => e.1.1 = n)
  (List.range (max 1 ((codes.length + 254) / 255))).flatMap (fun k =>
    let part := (codes.drop (255 * k)).take 255
    leBytesN 1 n ++ leBytesN 1 part.length ++ part.flatMap (fun e => leBytesN 2 e.2.toNat))

/-- The step is KEY (R392). -/
def State.keyStep (s : State) (step : Nat) : Bool := step % 256 = 0 || s.rpl.keyDue

/-- The frame of a step (R390): `pre` is the fabric as the step read it, with its snapshot; the state holds what the step
committed. -/
def State.frameOf (s : State) (pre : FabState) (late trig : Bool) : Frame :=
  let key := s.keyStep pre.stepNo
  let vals := valueItems key s.rpl.lastValues pre.frameValues
  let sets := s.fab.setpoints
  let raws := s.rpl.rawChannels
  let items := vals.flatMap SourceVal.item ++ sets.flatMap setpointItem ++ (if key then pre.stateBlock else [])
    ++ raws.flatMap (rawItem s.rpl.raw)
  let flags := b2n key + 2 * b2n late + 4 * b2n (raws ≠ []) + 8 * b2n trig + 16 * b2n s.rpl.appliedNow
  let body := leBytesN 4 pre.stepNo ++ leBytesN 4 pre.stepStart ++ leBytesN 2 (92 + items.length) ++ leBytesN 1 flags
    ++ leBytesN 1 vals.length ++ leBytesN 2 sets.length ++ leBytesN 2 0 ++ leBytesN 32 pre.snap.chan.toNat
    ++ leBytesN 8 pre.snap.thresh.toNat ++ leBytesN 16 pre.snap.hsig.toNat ++ leBytesN 2 pre.snap.device.toNat
    ++ leBytesN 6 s.fab.outChan.toNat ++ leBytesN 1 s.fab.outDev.toNat ++ leBytesN 1 0 ++ leBytesN 8 s.fab.flags.toNat ++ items
  { step := pre.stepNo, start := pre.stepStart, stepN := pre.stepN, key := key, bytes := body ++ leBytesN 2 (crc16 body).toNat }

/-! ## The pre-trigger ring (R393) -/

/-- Bytes that frames take in the ring. -/
def ringBytes (fs : List Frame) : Nat := (fs.map (·.bytes.length)).sum

/-- A whole run goes: the oldest frame and those up to the next KEY frame. -/
def dropRun : List Frame → List Frame
  | [] => []
  | _ :: fs => fs.dropWhile (fun f => !f.key)

/-- Frames go until `need` bytes fit into 64 KiB: whole runs, or single frames while a capture runs. -/
def makeRingRoom (runs : Bool) (need : Nat) : Nat → List Frame → List Frame
  | 0, fs => fs
  | n + 1, fs => if ringBytes fs + need ≤ 65536 then fs else makeRingRoom runs need n (if runs then dropRun fs else fs.drop 1)

/-- A frame goes into the ring. -/
def Replay.push (r : Replay) (f : Frame) : Replay :=
  { r with ring := makeRingRoom r.capture.isNone f.bytes.length r.ring.length r.ring ++ [f] }

/-! ## A step's end tick (R390, R394, R395) -/

/-- The DEVICE destination REPLAY_TRIG (R144). -/
def FabState.replayTrig (f : FabState) : Bool := f.outDev.getLsbD 3

/-- The capture that runs has its last step. -/
def State.captureOver (s : State) (step : Nat) : Bool :=
  match s.rpl.capture with
  | some c => decide (c.trigStep + s.rpl.postSteps ≤ step)
  | none => false

/-- The base rate of a raw channel in S/s (R273); 0 for none. -/
def State.rawRate (s : State) (n : Nat) : Nat := if n < 16 then 500000 / 2 ^ s.rateOf (toIdx 16 n) else 0

/-- A capture runs beyond the limits within which copying keeps pace, a step below 10 or raw base rates above 250 kS/s in all: whether a
frame then finds room is a free value (R397). -/
def State.tightCapture (s : State) (pre : FabState) : Bool :=
  s.rpl.capture.isSome && (decide (pre.stepN < 10) || decide (250000 < (s.rpl.rawChannels.map s.rawRate).sum))

/-- A frame finds no room in the ring (R397): it is counted in the capture's header, with END.DROPPED. -/
def State.dropFrame (s : State) : State :=
  s.modRpl (fun r => { r with capture := r.capture.map (fun c => { c with dropped := satInc c.dropped, endFlags := c.endFlags ||| 4#8 }) })

/-- The frame of the step that ends is made while capture is armed, and the capture that runs takes it (R390, R395). -/
def State.frameStep (s : State) (pre : FabState) (late : Bool) : State :=
  if !s.rpl.armed then s
  else
    let trig := match s.rpl.capture with
      | some c => c.trigStep = pre.stepNo
      | none => false
    let f := s.frameOf pre late trig
    let (w, s0) := if s.tightCapture pre then s.free else (0#32, s)
    let s1 := if bit w 0 then s0.dropFrame else (s0.modRpl (fun r => (r.push f))).storeFrame f
    if s1.captureOver pre.stepNo then s1.endCapture 0#8 else s1

/-- Everything that capture does at an end tick: the fabric's trigger, the frame, and the start of the next step's frame. -/
def State.captureStep (s : State) (pre : FabState) (late : Bool) : State :=
  let t := s.fab.replayTrig
  let s1 := if t && !s.rpl.trigPrev && !late then s.trigger 2 0 0#32 .fabric pre.stepNo else s
  let s2 := s1.frameStep pre late
  (s2.modRpl (fun r => { r with trigPrev := t, raw := [], keyDue := false, lastValues := pre.frameValues, appliedNow := false })).modFab
    (fun f => { f with setpoints := [] })

/-- The registers of a REPLAY record (R406). -/
def Image.rplCfg (i : Image) : Word :=
  match i.replay with
  | none => 0#32
  | some r => word (u8 r 0 % 8 + u8 r 1 % 8 * 16 + u16 r 2 % 4096 * 256)

def Image.rplCapcfg (i : Image) : Word :=
  match i.replay with
  | none => 0x1F1F0001#32
  | some r =>
    let ch := fun k => if u8 r k = 255 then 31 else u8 r k % 32
    word (u16 r 4 + ch 6 * 65536 + ch 7 * 16777216)

/-- Capture at an activation boundary (R393, R395): the capture in progress ends, and the ring is emptied. REPLAY_TRIG was committed as it stands
(R394). -/
def State.replayActivate (s : State) (i : Image) : State :=
  ((if s.rpl.capture.isSome then s.endCapture 0x02#8 else s)).modRpl (fun r =>
    { r with cfg := i.rplCfg, capcfg := i.rplCapcfg, ring := [], keyDue := true, raw := [] })

/-! ## The store (R396, R404) -/

/-- A byte list whose last two bytes are the CRC of the rest (R70). -/
def crcOk (b : List Byte) : Bool := 2 ≤ b.length && (crc16 (b.take (b.length - 2))).toNat = u16 b (b.length - 2)

/-- The header of a capture at an offset of the store. -/
def captureAt (m : Memory) (o : Nat) : Option (List Byte) :=
  let h := Memory.range m (replayBase + o) 64
  if o + 64 ≤ storeSize && 64 ≤ u32 h 40 && o + u32 h 40 ≤ storeSize && crcOk h then some h else none

/-- The captures of the store, back to back from offset 0. -/
def captureList (m : Memory) : Nat → Nat → List (Nat × List Byte)
  | 0, _ => []
  | n + 1, o =>
    match captureAt m o with
    | some h => (o, h) :: captureList m n (o + u32 h 40)
    | none => []

def State.storedCaptures (s : State) : List (Nat × List Byte) := captureList s.cells 4096 0

/-- A closed capture by number, of those available for a re-run (R401, R404). -/
def State.closedCapture (s : State) (no : Nat) : Option (Nat × List Byte) :=
  s.storedCaptures.find? (fun c => decide (s.rpl.availFrom ≤ c.1) && u16 c.2 0 = no && u8 c.2 2 = 1)

/-- One frame at a place of the store, where `left` bytes of its capture remain. -/
def frameAt (m : Memory) (o left : Nat) : Option (List Byte) :=
  let len := leNat (Memory.range m (replayBase + o + 8) 2)
  let b := Memory.range m (replayBase + o) len
  if 92 ≤ len && len ≤ left && crcOk b then some b else none

/-- Every frame of a capture has its CRC (R404). -/
def framesOk (m : Memory) : Nat → Nat → Nat → Bool
  | 0, _, left => left = 0
  | n + 1, o, left =>
    if left = 0 then true
    else match frameAt m o left with
      | some b => framesOk m n (o + b.length) (left - b.length)
      | none => false

/-- An erased header: the store ends here. -/
def erasedHeader (m : Memory) (o : Nat) : Bool := storeSize < o + 64 || (Memory.range m (replayBase + o) 64).all (· = erasedByte)

/-- Every header and frame CRC is checked (R404); the answer is where the captures end. -/
def sealEnd (m : Memory) : Nat → Nat → Option Nat
  | 0, _ => none
  | n + 1, o =>
    if erasedHeader m o then some o
    else match captureAt m o with
      | some h => if framesOk m 4096 (o + 64) (u32 h 40 - 64) then sealEnd m n (o + u32 h 40) else none
      | none => none

/-- What the store holds is counted again: its end, its closed captures and the next number. -/
def State.recount (s : State) : State :=
  let cs := s.storedCaptures
  s.modRpl (fun r =>
    { r with
      used := match cs.getLast? with
        | some c => c.1 + u32 c.2 40
        | none => 0
      captures := (cs.filter (fun c => u8 c.2 2 = 1)).length
      nextNo := cs.foldl (fun n c => max n (u16 c.2 0 + 1)) 1 })

/-- Bytes of the frames from a place on, up to the first whose CRC fails (R398). -/
def goodFrames (m : Memory) : Nat → Nat → Nat → Nat
  | 0, _, _ => 0
  | n + 1, o, left =>
    match frameAt m o left with
    | some b => b.length + goodFrames m n (o + b.length) (left - b.length)
    | none => 0

/-- A header closed with TRUNCATED, and a LENGTH (R398). -/
def closedHeader (h : List Byte) (len : Nat) : List Byte :=
  let body := h.take 2 ++ leBytesN 1 1 ++ [BitVec.ofNat 8 (u8 h 3) ||| 1#8] ++ slice h 4 36 ++ leBytesN 4 len ++ slice h 44 18
  body ++ leBytesN 2 (crc16 body).toNat

/-- Every open capture of the store is closed with the frames up to the first whose CRC fails (R398). -/
def closeOpen : Nat → Memory → Nat → Memory
  | 0, m, _ => m
  | n + 1, m, o =>
    match captureAt m o with
    | none => m
    | some h =>
      if u8 h 2 = 1 then closeOpen n m (o + u32 h 40)
      else
        let len := 64 + goodFrames m 4096 (o + 64) (storeSize - (o + 64))
        closeOpen n (Memory.writeAll m (replayBase + o) (closedHeader h len)) (o + len)

/-- At a start an open capture is closed with TRUNCATED, and the ring is empty (R393, R398); the registers take their Reset
values (R4). What was loaded without SEAL is not available (R404). A start cuts an erase off (R489). -/
def State.replayStart (s : State) : State :=
  let t := if s.rpl.erasing then s.cutErase replayBase 64 s.rpl.erased else s
  let s0 := { t with cells := closeOpen 4096 t.cells 0 }.recount
  let s1 := if s.rpl.loading then s0.modRpl (fun r => { r with availFrom := r.used }) else s0
  s1.modRpl (fun r =>
    { r with on := false, leaving := false, want := none, modeReg := false, cfg := 0#32, capcfg := 0x1F1F0001#32, ring := []
             lastValues := [], keyDue := true, appliedNow := false, trigPrev := false, capture := none, missed := 0#16, extra := 0#16
             erasing := false, erased := [], loading := false, xofs := 0#18, rerun := none, runCap := 0#8, result := 0#2, divStep := 0#64
             divDest := 0#16, divCount := 0#16, raw := [] })

/-! ## Re-runs (R401, R402) -/

/-- The elements take the state of a block. END of a timer and WRAP of a counter are not in it: free values (log entry 6). -/
def FabState.loadBlock (f : FabState) (b : List Byte) (ends : BitVec 64) (wraps : BitVec 32) : FabState :=
  { f with
    latched := BitVec.ofNat 512 (leNat (b.take 64))
    timers := f.timers.zipIdx.map (fun p =>
      let o := 64 + 8 * p.2
      let q := u8 b (o + 4) = 1
      let r := u8 b (o + 5) = 1
      { p.1 with
        e := u32 b o, q := q, runPrev := r
        running := if p.1.mode = 0#2 then r && !q else if p.1.mode = 1#2 then !r && q else q
        fin := ends.getLsbD p.2 })
    counters := f.counters.zipIdx.map (fun p =>
      let o := 576 + 8 * p.2
      { p.1 with v := word (u32 b o), prev := BitVec.ofNat 4 (u8 b (o + 4)), wrap := wraps.getLsbD p.2 })
    comparators := f.comparators.zipIdx.map (fun p => { p.1 with out := (BitVec.ofNat 16 (u16 b 832)).getLsbD p.2 }) }

/-- The value items of a frame take the place of the values held before (R402). They carry no SETTLE (DESIGN CHOICE: a frame does not
hold it; log entry 105). -/
def takeValues (b : List Byte) (vals : List SourceVal) : List SourceVal :=
  (List.range (u8 b 11)).foldl
    (fun vs i =>
      let o := 90 + 8 * i
      let v : SourceVal := ⟨u8 b o, u8 b (o + 1), word (u32 b (o + 4)), true, false⟩
      vs.filter (fun u => !(u.kind = v.kind && u.index = v.index)) ++ [v]) vals

/-- The snapshot of a frame (R390). -/
def frameSnap (b : List Byte) (vals : List SourceVal) : Snapshot :=
  { chan := BitVec.ofNat 256 (leNat (slice b 16 32)), thresh := BitVec.ofNat 64 (leNat (slice b 48 8))
    hsig := BitVec.ofNat 128 (leNat (slice b 56 16)), device := BitVec.ofNat 9 (u16 b 72), values := takeValues b vals }

/-- The committed destinations: CHAN, DEVICE and FLAG. -/
abbrev Outs := BitVec 48 × BitVec 4 × BitVec 64

def frameOuts (b : List Byte) : Outs :=
  (BitVec.ofNat 48 (leNat (slice b 74 6)), BitVec.ofNat 4 (u8 b 80), BitVec.ofNat 64 (leNat (slice b 82 8)))

def FabState.outs (f : FabState) : Outs := (f.outChan, f.outDev, f.flags)

/-- The destinations in the order of their codes (R144), each with its value. -/
def Outs.list (o : Outs) : List (Nat × Bool) :=
  (List.range 48).map (fun i => (0x1000 + 16 * (i / 3) + i % 3, o.1.getLsbD i))
    ++ (List.range 4).map (fun i => (0x8000 + i, o.2.1.getLsbD i)) ++ (List.range 64).map (fun i => (0x9000 + i, o.2.2.getLsbD i))

/-- A wheel of producer class REPLAY (R318). -/
def Wheel.takesReplay (w : Wheel) : Bool := w.allocated && fld w.prod 28 4 = 2

/-- The entry of one destination where R402 asks for one: code, re-run, captured and previous re-run value. -/
def replayEntry (d : Nat) (run cap : Bool) (prev : Option Bool) : Option Word :=
  let due := match prev with
    | none => run || cap
    | some p => run ≠ p || run ≠ cap
  if due then some (word (d * 65536 + b2n (run ≠ cap) * 4 + b2n cap * 2 + b2n run)) else none

/-- The entries of a frame (R402). -/
def State.replayEntries (s : State) (run cap : Outs) (prev : Option Outs) (tick : Nat) : State :=
  let old := prev.map Outs.list
  let es := (run.list.zip cap.list).zipIdx.filterMap (fun p =>
    replayEntry p.1.1.1 p.1.1.2 p.1.2.2 (old.map (fun l => (l.getD p.2 (0, false)).2)))
  es.foldl (fun t w => State.checkLoss t (t.storeWhere Wheel.takesReplay tick (mkEntry 20 2 0 tick w))) s

/-- A re-run ends, with its event (R401, R403). -/
def State.endRerun (s : State) (result : Nat) : State :=
  match s.rpl.rerun with
  | none => s
  | some r =>
    (s.modRpl (fun p => { p with rerun := none, result := BitVec.ofNat 2 result })).event 0x13 4 .replay
      (word (r.capno + result * 65536)) (s.rpl.divStep.extractLsb' 0 32)

/-- The frame's outcome: entries, divergence, and the end after the last frame or at a divergent one. -/
def State.judgeFrame (s : State) (r : Rerun) (b : List Byte) (fab : FabState) : State :=
  let run := fab.outs
  let cap := frameOuts b
  let full := r.firstStep + (u32 b 0 + 2 ^ 32 - r.firstStep % 2 ^ 32) % 2 ^ 32
  let tick := r.firstTick + (u32 b 4 + 2 ^ 32 - r.firstTick % 2 ^ 32) % 2 ^ 32
  let dest := ((run.list.zip cap.list).find? (fun p => p.1.2 ≠ p.2.2)).map (·.1.1)
  let s1 := s.replayEntries run cap r.prev tick
  let s2 := match dest with
    | some d => s1.modRpl (fun p =>
        { p with
          divStep := if p.divCount = 0#16 then BitVec.ofNat 64 full else p.divStep
          divDest := if p.divCount = 0#16 then BitVec.ofNat 16 d else p.divDest
          divCount := satInc p.divCount })
    | none => s1
  let left := r.left - b.length
  let r' := { r with due := r.due + 20, at_ := r.at_ + b.length, left := left, fab := { fab with stepNo := full }, prev := some run }
  let s3 := s2.modRpl (fun p => { p with rerun := some r' })
  if left = 0 then s3.endRerun (if s3.rpl.divCount = 0#16 then 1 else 2)
  else if dest ≠ none && r.stopAtDiv then s3.endRerun 2
  else s3

/-- Every 20 µs one captured frame is evaluated again and compared (R401). A frame that does not follow the one before, or cannot be
read, ends the re-run (R397). -/
def execRerunFrame (s : State) : Host.Outcome State Fault Refusal :=
  ok <| match s.rpl.rerun with
    | none => s
    | some r =>
      if s.clock < r.due then s
      else match frameAt s.cells r.at_ r.left with
      | none => s.endRerun 3
      | some b =>
        if r.prev ≠ none && u32 b 0 ≠ (r.fab.stepNo + 1) % 2 ^ 32 then s.endRerun 3
        else
          let f := { r.fab with snap := frameSnap b r.fab.snap.values }
          s.judgeFrame r b (if u8 b 10 / 2 % 2 = 1 then f else f.commit)

/-- Why RERUN is refused (R401): 0 where it is not. -/
def State.rerunRefusal (s : State) (no : Nat) : Nat :=
  let r := s.rpl
  if !r.on || r.erasing || r.loading || r.rerun.isSome then 1
  else match s.closedCapture no with
    | none => 2
    | some c => if some (word (u32 c.2 4)) = s.img.running.map (·.crc) then 0 else 3

/-- A re-run starts with the state block of the capture's first frame (R401). -/
def State.startRerun (s : State) (no : Nat) (stopAtDiv : Bool) : State :=
  match s.closedCapture no with
  | none => s
  | some c =>
    let (w0, s1) := s.free
    let (w1, s2) := s1.free
    let (w2, s3) := s2.free
    let o := c.1 + 64
    let b := Memory.range s.cells (replayBase + o) (leNat (Memory.range s.cells (replayBase + o + 8) 2))
    let fab := { s.fab with valuePend := [], snap := { s.fab.snap with values := [] }, outChan := 0#48, outDev := 0#4, flags := 0#64 }
    let fab1 := if u8 b 10 % 2 = 1 then fab.loadBlock (b.drop (90 + 8 * (u8 b 11 + u16 b 12))) (w0 ++ w1) w2 else fab
    s3.modRpl (fun r =>
      { r with
        rerun := some { capno := no, due := s.clock, at_ := o, left := u32 c.2 40 - 64, stopAtDiv := stopAtDiv, firstTick := leNat (slice c.2 8 8)
                        firstStep := leNat (slice c.2 16 8), fab := fab1, prev := none }
        runCap := BitVec.ofNat 8 no, result := 0#2, divStep := 0#64, divDest := 0#16, divCount := 0#16 })

/-! ## REPLAY mode (R400) -/

/-- Entry to REPLAY mode is refused (R400). -/
def State.replayBlocked (s : State) : Bool :=
  s.rpl.capture.isSome || s.rpl.erasing || s.img.actPending || s.img.noImage || (s.img.paired && s.pair.mayDrive)

/-- RPL_MODE: a change that takes effect at the next start tick. -/
def State.writeRplMode (s : State) (origin : Origin) (w : Word) : State × Reply :=
  guarded s [check (bit w 0 && s.replayBlocked) (.notNow 0#32)]
    (s.changeWrite origin (.rpl .mode) w (fun t => t.modRpl (fun r => { r with want := some (bit w 0), modeReg := bit w 0 })))

/-- The fabric starts from the initial values of the running image's FABRIC section (R400, R437). -/
def State.reinitFabric (s : State) : State :=
  s.modFab (fun f => f.reinit ((s.img.running.bind (·.fabric)).getD FabImage.empty))

/-- REPLAY mode takes effect at a start tick (R400): capture is disarmed, and the standby gives up what it cannot do
(R431, R438). -/
def State.enterReplay (s : State) : State :=
  s.modRpl (fun r => { r with on := true, want := none, cfg := r.cfg &&& ~~~ 1#32, ring := [] })

/-- Captures that were loaded and not sealed are not available for a re-run; those made from now on are (R401, R404). -/
def State.endLoading (s : State) : State :=
  if s.rpl.loading then s.recount.modRpl (fun r => { r with loading := false, availFrom := r.used }) else s

/-- REPLAY mode ends at a start tick (R400): a re-run is stopped, and the fabric starts from its initial values. One that overruns have stopped
stays stopped (R150). -/
def State.leaveReplay (s : State) : State :=
  (((s.endRerun 3).endLoading).modRpl (fun r => { r with on := false, leaving := true, want := none })).reinitFabric

/-! ## RPL_CMD (R394, R399, R401, R404) -/

/-- An event waiting in staging belongs to a capture that no longer exists. -/
def Recorder.unmark (r : Recorder) : Recorder := { r with staged := r.staged.map (fun e => { e with mark := none }) }

/-- ERASE (R399): the store reads erased from its acceptance, every sector of it, logical sectors 128 to 191, is erased once (R457), and
its counts start again (log entry 20). -/
def State.eraseStore (s : State) : State :=
  State.eraseSectors { s with
    cells := Memory.erase s.cells replayBase calibBase
    recd := s.recd.unmark
    rpl := { s.rpl with erasing := true, erased := Memory.cellsOf s.cells replayBase calibBase, loading := false, used := 0, captures := 0, nextNo := 1, full := false, availFrom := 0 } } 128 64

/-- The erase of the store ends (R399, R404): in REPLAY mode loading follows. -/
def execReplayEraseDone (s : State) : Host.Outcome State Fault Refusal :=
  ok <| whenDo s.rpl.erasing (fun s => s.modRpl (fun r => { r with erasing := false, erased := [], loading := r.on })) s

/-- SEAL makes the loaded captures available (R404). -/
def State.sealStore (s : State) : State := (s.modRpl (fun r => { r with loading := false, availFrom := 0 })).recount

/-- RPL_CMD: each command bit is checked against the present state, then they act in the order of their bits, but for an ERASE that meets a
TRIGGER: it goes first, and the capture goes into the empty store (R405). Only ERASE makes the write a change (R407). -/
def State.rplCmd (s : State) (origin : Origin) (w : Word) : State × Reply :=
  let no := fld w 8 8
  let rr := s.rerunRefusal no
  let act := fun (t : State) =>
    let t1 := if bit w 1 then t.eraseStore else t
    let t2 := if bit w 0 then t1.trigger 3 0 0#32 origin t1.fab.stepNo else t1
    let t3 := if bit w 2 then t2.startRerun no (bit w 16) else t2
    let t4 := if bit w 3 then t3.endRerun 3 else t3
    if bit w 4 then t4.sealStore else t4
  guarded s
    [check (bit w 4 && s.rpl.loading && (sealEnd s.cells 4096 0).isNone) (.refused 4),
     check (bit w 1 && (s.rpl.capture.isSome || s.rpl.rerun.isSome)) (.notNow 0#32),
     check (bit w 2 && rr ≠ 0) (.notNow (word rr)), check (bit w 4 && !s.rpl.loading) (.notNow 0#32)]
    (if bit w 1 then s.changeWrite origin (.rpl .cmd) w act else (act s, .done))

/-! ## Registers (R407) -/

/-- RPL_STAT.STATE. -/
def Replay.stateCode (r : Replay) : Nat :=
  if r.erasing then 5 else if r.loading then 6 else if r.rerun.isSome then 4 else if r.on then 3
  else if r.capture.isSome then 2 else if r.armed then 1 else 0

/-- A raw channel without a round entry, or no channel at all (R406). -/
def State.rawBad (s : State) (n : Nat) : Bool := n ≠ 31 && (decide (15 < n) || (s.entryIx (toIdx 16 n)).isNone)

/-- The step period that the next step has. -/
def FabState.stepSoon (f : FabState) : Nat := f.stepPend.getD f.stepN

/-- RPL_CFG (R405, R407). -/
def State.writeRplCfg (s : State) (origin : Origin) (w : Word) : State × Reply :=
  s.imgWrite origin (.rpl .cfg) w
    [refuseLow [(bit w 0 && decide (s.fab.stepSoon < 10), 0)], check s.rpl.capture.isSome (.notNow 0#32)]
    (fun t => t.modRpl (fun r => { r with cfg := w &&& 0x000FFF77#32, ring := if bit w 0 then r.ring else [] }))

/-- RPL_CAPCFG (R405 to R407). -/
def State.writeRplCapcfg (s : State) (origin : Origin) (w : Word) : State × Reply :=
  let a := fld w 16 5
  let b := fld w 24 5
  s.imgWrite origin (.rpl .capcfg) w
    [refuseLow [(s.rawBad b || (b ≠ 31 && (b = a || a = 31)), 24), (s.rawBad a || decide (250000 < s.rawRate a + s.rawRate b), 16),
       (fld w 0 16 = 0, 0)], check s.rpl.capture.isSome (.notNow 0#32)]
    (fun t => t.modRpl (fun r => { r with capcfg := w &&& 0x1F1FFFFF#32 }))

/-- RPL_XDATA as a write (R404): accepted only while STATE is LOADING. RPL_XOFS wraps at the end of the store (log entry 59). -/
def State.writeXdata (s : State) (w : Word) : State × Reply :=
  guarded s [check (s.rpl.stateCode ≠ 6) (.notNow 0#32)]
    ({ s with cells := Memory.writeAll s.cells (replayBase + s.rpl.xofs.toNat) (leBytes w)
              rpl := { s.rpl with xofs := s.rpl.xofs + 4#18 } }, .done)

/-- A write of an RPL register. -/
def State.rplWrite (s : State) (origin : Origin) (r : RplReg) (w : Word) : State × Reply :=
  match r with
  | .cfg => s.writeRplCfg origin w
  | .capcfg => s.writeRplCapcfg origin w
  | .cmd => s.rplCmd origin w
  | .mode => s.writeRplMode origin w
  | .xofs =>
    guarded s [refuseLow [(decide (storeSize ≤ w.toNat) || decide (w.toNat % 4 ≠ 0), 0)]]
      (s.modRpl (fun p => { p with xofs := w.truncate 18 }), .done)
  | .xdata => s.writeXdata w
  | .stat | .missed | .ring | .runstat | .divstepLo | .divstepHi | .divdest => (s, .done)

/-- A read of an RPL register: RPL_MISSED clears, and RPL_XDATA advances RPL_XOFS. -/
def State.rplRead (s : State) (r : RplReg) : ReadResult :=
  let p := s.rpl
  match r with
  | .cfg => (p.cfg, s)
  | .capcfg => (p.capcfg, s)
  | .stat =>
    (word ((storeSize - p.used) / 256 * 65536 + p.captures % 256 * 256 + b2n p.full * 128 + p.stateCode), s)
  | .missed =>
    (word (p.extra.toNat * 65536 + p.missed.toNat), s.modRpl (fun r => { r with extra := 0#16, missed := 0#16 }))
  | .ring => (word ((p.ring.dropWhile (fun f => !f.key)).length), s)
  | .cmd => (0#32, s)
  | .mode => (word (b2n p.modeReg), s)
  | .xofs => (p.xofs.zeroExtend 32, s)
  | .xdata =>
    (word (leNat (Memory.range s.cells (replayBase + p.xofs.toNat) 4)), s.modRpl (fun r => { r with xofs := r.xofs + 4#18 }))
  | .runstat => (word (p.runCap.toNat * 256 + b2n p.rerun.isSome * 16 + p.result.toNat), s)
  | .divstepLo => (p.divStep.extractLsb' 0 32, s)
  | .divstepHi => (p.divStep.extractLsb' 32 32, s)
  | .divdest => (word (p.divCount.toNat * 65536 + p.divDest.toNat), s)

end Sys2Proof.Machine
end

