-- ==== Sys2Proof/Machine/Check.lean ====
section
/-! DEFINITION. The check units: the computation, scans, contexts and the CHK registers (16_check_units.md). -/

namespace Sys2Proof.Machine

/-! ## The computation (R408 to R410) -/

def Chk.width (c : Chk) : Nat := fld c.cfg 0 6
def Chk.refin (c : Chk) : Bool := bit c.cfg 8
def Chk.refout (c : Chk) : Bool := bit c.cfg 9
def Chk.feedCode (c : Chk) : Nat := fld c.cfg 16 2

/-- The low `n` bits of a number in reverse order. -/
def reflectN (n v : Nat) : Nat := (List.range n).foldl (fun m i => m + bitAt (v.testBit i) (n - 1 - i)) 0

/-- One bit step of R409 on a running value of `width` bits. -/
def chkStep (width poly r : Nat) (b : Bool) : Nat :=
  let top := r.testBit (width - 1) ^^ b
  let r1 := r * 2 % 2 ^ width
  if top then r1 ^^^ poly else r1

/-- One byte enters the running register (R409). -/
def Chk.feedByte (c : Chk) (b : Byte) : Chk :=
  let v := if c.refin then reflectN 8 b.toNat else b.toNat
  { c with run := word ([7, 6, 5, 4, 3, 2, 1, 0].foldl (fun r i => chkStep c.width c.poly.toNat r (v.testBit i)) c.run.toNat) }

/-- Bytes enter in order (R410). -/
def Chk.feed (c : Chk) (bs : List Byte) : Chk := bs.foldl Chk.feedByte c

/-- CHKu_RESULT (R409). -/
def Chk.result (c : Chk) : Word :=
  word (if c.refout then reflectN c.width c.run.toNat else c.run.toNat) ^^^ c.xorout

/-- The bytes that a DATA write feeds (R410). -/
def Chk.dataBytes (c : Chk) (w : Word) : List Byte := (leBytes w).take (2 ^ c.feedCode)

/-- Bits above WIDTH. -/
def Chk.above (c : Chk) (w : Word) : Bool := decide (2 ^ c.width ≤ w.toNat)

/-! ## Scans (R411 to R414) -/

/-- Size of a space in bytes (R412). -/
def spaceSize (space : Nat) : Nat :=
  match space with
  | 0 | 1 => 131072
  | 2 | 3 | 5 => 262144
  | 4 => 1048576
  | _ => 65536

/-- A byte of a space (R412). The record region and configuration SRAM have no layout in the spec: a byte is a free value that stands
until the space changes (log entry 6). -/
def State.scanByte (s : State) (space o : Nat) : Byte :=
  match space with
  | 0 => s.cellarByte o
  | 1 => s.cellarByte (0x20000 + o)
  | 2 => s.cellarByte (recordBase + o)
  | 3 => s.cellarByte (replayBase + o)
  | 4 => s.cellarByte o
  | 5 => s.wheelByte o
  | _ => s.hiddenAt (0x100000 + o)

/-- The source that an uncorrectable unit of a space raises (R414): CELLAR_UNCORRECTABLE, WHEEL_ECC or
CONFIG_UNCORRECTABLE. -/
def spaceSource (space : Nat) : Fin 31 := if space < 5 then 10 else if space = 5 then 8 else 6

/-- A host-die source is detected: an instant one each time, another where it is not live (R336). -/
def State.detect (s : State) (h : Fin 31) : State :=
  if instantSource (hostSlot h).1 0 then s.raiseHost h else s.raiseLive (hostSlot h)

/-- A scan unit is read and fed (R413). With `bad` it has an uncorrectable error: its stored bits, which are not known, are
fed uncorrected (R414). -/
def State.scanUnit (s : State) (u : Fin 4) (bad : Bool) : State :=
  let c := s.chks[u.1]
  let space := c.space.toNat
  let n := min 64 (c.len.toNat - c.pos.toNat)
  let base := c.addr.toNat + c.pos.toNat
  let bytes := (List.range n).map (fun i =>
    if bad then Config.hiddenByte (s.freeCtr * 0x400000 + 0x200000 + base + i) else s.scanByte space (base + i))
  let last := decide (c.len.toNat ≤ c.pos.toNat + n)
  let c1 := c.feed bytes
  let c2 := { c1 with
    pos := BitVec.ofNat 21 (c.pos.toNat + n)
    st := if last then .idle else if u = 3 ∧ s.img.borrowed then .suspended else c.st
    done := last
    uncorr := c.uncorr || bad, errcnt := if bad then satInc c.errcnt else c.errcnt }
  let s1 := { s.modChk u (fun _ => c2) with freeCtr := s.freeCtr + 1, chkTurn := u + 1 }
  if bad then s1.detect (spaceSource space) else s1

/-- The unit that the scan engine serves next: units with scans pending take turns (R413). -/
def State.scanTurn (s : State) : Option (Fin 4) :=
  [s.chkTurn, s.chkTurn + 1, s.chkTurn + 2, s.chkTurn + 3].find? (fun u => (s.chks[u.1]).st = .scanning)

/-- The loader reads on CU3: its work comes before any master's scan (R110, R413). -/
def State.loaderScans (s : State) : Bool := s.img.borrowed && s.img.load = .verifying

/-- The scan engine has read one scan unit for a unit (R413); a scan on CU3 that a borrow met ends its first unit all the same (R419). -/
def execScanUnitDone (u : Fin 4) (bad : Bool) (s : State) : Host.Outcome State Fault Refusal :=
  ok <| whenDo ((s.chks[u.1]).st = .scanning && (if s.loaderScans then u = 3 else s.scanTurn = some u)) (fun s => s.scanUnit u bad) s

/-! ## Writes (R411, R415 to R418) -/

/-- The claim that holds CU0 to CU2 (R416). -/
def State.chkHeld (s : State) (u : Fin 4) : Option Word :=
  if u = 3 then none else if s.holderCode 9 0 u.1 = 0#32 then none else some (s.holderCode 9 0 u.1)

/-- CU3 is borrowed by the loader (R417). -/
def State.chkBorrowed (s : State) (u : Fin 4) : Option Reply := check (u = 3 && s.img.borrowed) (.notNow 1#32)

/-- The unit is SCANNING or SUSPENDED (R418). -/
def State.chkBusy (s : State) (u : Fin 4) : Option Reply := check ((s.chks[u.1]).st ≠ .idle) (.notNow 2#32)

/-- A write of a unit's register: not a change (R418). -/
def State.chkSet (s : State) (u : Fin 4) (shared : Bool) (bad : List (Bool × Nat)) (f : Chk → Chk) : State × Reply :=
  guarded s [refuseLow bad, heldReply (s.chkHeld u), if shared then s.chkBorrowed u else none, s.chkBusy u] (s.modChk u f, .done)

/-- A write of CHKu_CFG clears what stands above the new WIDTH (R415). -/
def Chk.setCfg (c : Chk) (w : Word) : Chk :=
  let m := word (2 ^ fld w 0 6 - 1)
  { c with cfg := w &&& 0x0003033F#32, poly := c.poly &&& m, init := c.init &&& m, xorout := c.xorout &&& m, run := c.run &&& m }

/-- SCAN asks for a range outside its space, or for no byte (R412). -/
def Chk.rangeBad (c : Chk) : Bool :=
  let a := c.addr.toNat
  let n := c.len.toNat
  n = 0 || decide (1048576 < n) || decide (spaceSize c.space.toNat < a + n)

/-- CHKu_CMD (R411): START, then SCAN; ABORT ends a scan in progress. -/
def State.chkCmd (s : State) (u : Fin 4) (w : Word) : State × Reply :=
  let c := s.chks[u.1]
  let starts := bit w 0 || bit w 1
  guarded s
    [refuseLow [(bit w 1 && c.rangeBad, 1)], heldReply (s.chkHeld u), s.chkBorrowed u,
     if starts then s.chkBusy u else none]
    (s.modChk u (fun c =>
      let c1 := if bit w 2 && c.st ≠ .idle then { c with st := .idle, aborted := true } else c
      let c2 := if bit w 0 then { c1 with run := c1.init } else c1
      if bit w 1 then { c2 with st := .scanning, pos := 0#21, done := false, aborted := false, uncorr := false } else c2), .done)

/-- A write of a CHK register. -/
def State.chkWrite (s : State) (u : Fin 4) (r : ChkReg) (w : Word) : State × Reply :=
  let c := s.chks[u.1]
  match r with
  | .cfg => s.chkSet u true [(fld w 16 2 = 3, 16), (outside 3 (fld w 0 6) 32, 0)] (fun c => c.setCfg w)
  | .poly => s.chkSet u true [(c.above w, 0)] (fun c => { c with poly := w })
  | .init => s.chkSet u true [(c.above w, 0)] (fun c => { c with init := w })
  | .xorout => s.chkSet u true [(c.above w, 0)] (fun c => { c with xorout := w })
  | .run => s.chkSet u true [(c.above w, 0)] (fun c => { c with run := w })
  | .data => s.chkSet u true [] (fun c => c.feed (c.dataBytes w))
  | .scanspace => s.chkSet u false [(fld w 0 3 = 7, 0)] (fun c => { c with space := BitVec.ofNat 3 (fld w 0 3) })
  | .scanaddr => s.chkSet u false [] (fun c => { c with addr := BitVec.ofNat 21 (fld w 0 21) })
  | .scanlen => s.chkSet u false [(outside 1 (fld w 0 21) 1048576, 0)] (fun c => { c with len := BitVec.ofNat 21 (fld w 0 21) })
  | .cmd => s.chkCmd u w
  | .result | .stat | .scanpos | .errcnt => guarded s [heldReply (s.chkHeld u)] (s, .done)

/-! ## Reads (R420) -/

def ChkState.code : ChkState → Nat
  | .idle => 0
  | .scanning => 1
  | .suspended => 2

/-- A read of a CHK register; CHKu_ERRCNT clears. -/
def State.chkRead (s : State) (u : Fin 4) (r : ChkReg) : ReadResult :=
  let c := s.chks[u.1]
  match r with
  | .cfg => (c.cfg, s)
  | .poly => (c.poly, s)
  | .init => (c.init, s)
  | .xorout => (c.xorout, s)
  | .run => (c.run, s)
  | .data | .cmd => (0#32, s)
  | .result => (c.result, s)
  | .scanspace => (c.space.zeroExtend 32, s)
  | .scanaddr => (c.addr.zeroExtend 32, s)
  | .scanlen => (c.len.zeroExtend 32, s)
  | .stat =>
    (word (b2n c.carousel * 128 + b2n (s.chkHeld u).isSome * 64 + b2n c.uncorr * 32 + b2n c.aborted * 16 + b2n c.done * 8
      + c.st.code), s)
  | .scanpos => (c.pos.zeroExtend 32, s)
  | .errcnt => (c.errcnt.zeroExtend 32, s.modChk u (fun c => { c with errcnt := 0#16 }))

end Sys2Proof.Machine
end

