-- ==== Sys2Proof/Machine/Ringmaster.lean ====
section
/-! DEFINITION. The Ringmaster: Trapeze frames, qualification, roles, claims, epochs, planned swaps and the PAIR registers
(17_pairing.md). Roles as such, UQ_CAUSE and mirroring stand in Hooks.lean; the receipt of a MIRROR frame, which writes
registers, in Mirror.lean. -/

namespace Sys2Proof.Machine

/-! ## Fields and conditions (R430, R434, R454) -/

def Pair.tzLoss (p : Pair) : Nat := fld p.cfg 24 8
def Pair.delayUs (p : Pair) : Nat := fld p.cfg 7 7 * 1000
def Pair.swapReqOk (p : Pair) : Bool := bit p.cfg 3
def Pair.staleOk (p : Pair) : Bool := bit p.cfg 2

/-- The partner counts as present on Trapeze (R430). -/
def Pair.presentTz (p : Pair) : Bool :=
  p.tzUp && (p.partnerRole = 4#4 || p.partnerRole = 5#4 || p.partnerRole = 6#4 || p.partnerRole = 7#4)

/-- Partner active (R434). -/
def Pair.partnerActive (p : Pair) : Bool := p.presentTz || p.tlHb

/-- Local causes clear (R434). -/
def Pair.localClear (p : Pair) : Bool := decide (p.uq.toNat < 32)

/-- STANDBY or UNQUALIFIED, by UQ_CAUSE. -/
def Pair.restRole (p : Pair) : Role := if p.uq = 0#10 then .standby else .unqualified

/-! ## Local causes and the pair's sources (R431, R451) -/

/-- A source with settled class fatal is live: by the class that each live cause settled at its raising (R336, R431). -/
def State.fatalLive (s : State) : Bool := s.flt.slots.any (fun f => f.liveAt.any (fun c => c.cls = 2#2))

/-- The causes 6 to 9 as they stand; 6, 7 and 9 concern a paired unit only (log entry 21). -/
def State.localCauses (s : State) : BitVec 10 :=
  let on := s.pairOn
  bitsOf 10 (fun b =>
    match b with
    | 6 => on && s.rpl.on
    | 7 => on && s.fatalLive
    | 8 => s.img.noImage
    | 9 => on && s.pwr.mode ≠ .run
    | _ => false)

/-- Causes 0 to 2 as the latest frames give them (R431). -/
def State.partnerCauses (s : State) : BitVec 10 :=
  let p := s.pair
  let i := s.identity
  bitsOf 10 (fun b =>
    match b with
    | 0 => decide ((p.peerCrc, p.peerLen, p.peerVer) ≠ i) || s.img.noImage || p.peerFlags.getLsbD 1
    | 1 => p.rev = 0
    | 2 => p.partnerId = s.img.pairId
    | _ => false)

/-- The partner causes that the frames of the partner allow to judge (R424, R425, R431): IMAGE and TZ_REV once a QUAL frame has arrived, ID by
any frame that carries PAIR_ID. -/
def Pair.judged (p : Pair) : BitVec 10 := if p.peerSeen then 7#10 else if p.partnerRole ≠ 15#4 then 4#10 else 0#10

/-- The partner causes are judged again while Trapeze is up. -/
def State.judgePartner (s : State) : State :=
  if s.pair.tzUp then s.setUq ((s.pair.uq &&& ~~~ s.pair.judged) ||| (s.partnerCauses &&& s.pair.judged)) else s

/-- A live source with a second parameter follows its condition. -/
def State.followP2 (s : State) (h : Fin 31) (live : Bool) (p2 : Word) : State :=
  if live then s.raiseLive (hostSlot h) p2 else s.clearLive (hostSlot h)

/-- TIGHTROPE_LOST (R451): without TL_QUAL for 2 000 µs, or in another paired role the heartbeat lost while the partner is present on
Trapeze. -/
def State.tlLost (s : State) : Bool :=
  let p := s.pair
  s.pairOn && (match p.role with
    | .active | .claiming | .backoff => (match p.tlLostFrom with
        | some t => decide (t + 2000 ≤ s.clock)
        | none => false)
    | _ => p.hbLost && p.presentTz)

/-- PAIR_UNQUALIFIED (R451). -/
def State.pairUnqualified (s : State) : Bool :=
  s.pairOn && (s.pair.role = .unqualified || (s.pair.role = .active && s.pair.partnerRole = 3#4))

/-- SWAP_DUE on this unit: its own idle time, or its partner's flag (R449). -/
def State.swapDue (s : State) : Bool := s.pairOn && (s.swapDueOwn || (s.pair.tzUp && s.pair.partnerFlags.getLsbD 2))

/-- The pair's live sources follow (R451). The port state and the partner's PAIR_IDLE are measured elsewhere: free values. -/
def State.pairSources (s : State) : State :=
  let (w, s0) := s.free
  let p := s0.pair
  let s1 := s0.followP2 22 s0.pairUnqualified (word (if p.role = .unqualified then p.uq.toNat else p.partnerUq.toNat))
  let s2 := s1.followP2 24 (s1.pairOn && p.stale && !p.leads) ((p.held.map (·.number)).getD 0#32)
  let s3 := s2.followP2 25 s2.swapDue (if s2.swapDueOwn then word (p.idleMinutes s.clock) else w)
  s3.followP2 21 s3.tlLost (w &&& 3#32)

/-- The counts that R431 and R436 keep: the loss of both paths, and a difference of MIRROR_SEQ from the active unit's, with no change that
this unit knows to be in flight (log entry 112). -/
def State.pairCounts (s : State) : State :=
  s.modPair (fun p =>
    let lost := !p.presentTz && !p.tlHb
    let gap := !p.leads && p.tzUp && (p.partnerRole = 6#4 || p.partnerRole = 7#4) && p.flight = none && !p.mirBusy
      && decide (p.mirOwn ≠ p.mirPeer)
    { p with
      bothLostFrom := if lost then some (p.bothLostFrom.getD s.clock) else none
      gapFrom := if gap then some (p.gapFrom.getD s.clock) else none })

/-- MIRROR_GAP clears after an activation of either unit, once the counts agree (R431). -/
def State.settleGap (s : State) : State :=
  let p := s.pair
  if p.uq.getLsbD 4 && p.gapOpen && p.mirOwn = p.mirPeer && p.flight = none then
    (s.setUq (p.uq &&& ~~~ 16#10)).modPair (fun p => { p with gapOpen := false })
  else s

/-- A swap fails before GO where the partner is no longer STANDBY (R448). -/
def State.checkSwap (s : State) : State :=
  match s.pair.swap with
  | some w => if !w.go && s.pair.role = .swapping && s.pair.partnerRole ≠ 2#4 then (s.endSwap false 3).setRole .active 2 w.epoch else s
  | none => s

/-- Everything of the pair that follows other state: local causes, roles, counts and sources. -/
def State.pairSync (s : State) : State :=
  let s1 := s.setUq ((s.pair.uq &&& ~~~ 0x3C0#10) ||| s.localCauses)
  if !s1.pairOn then s1.pairSources
  else
    let s2 := if s1.pair.role = .starting && s1.pair.partnerActive then s1.setRole s1.pair.restRole 6 else s1
    s2.checkSwap.pairCounts.settleGap.pairSources.tellRole

/-! ## The drive gates (R427, R428) -/

/-- GATE as the host die sends it. -/
def State.gateValue (s : State) : Bool := !s.pairOn || (s.pair.driving && s.pair.tlQual)

/-- GATE as it goes to a Ring: not 1 while the commands of a takeover, which it follows, are on their way (R437). -/
def State.gateTo (s : State) (x : RingId) : Bool :=
  s.gateValue && !(s.ring x).cmdq.any (fun c => decide (c.1 = RingCmd.gate))

/-- The gate of a Ring is open (R428): on a unit that is not paired, or with a fresh GATE = 1, and on Ring A with TL_QUAL. -/
def State.gateOpen (s : State) (x : RingId) : Bool :=
  !s.pairOn || ((s.ring x).gateIn && (x = .b || (s.ring x).qual))

/-- The drive gate of a Ring follows its conditions, and its stages the gate. Where the gate opens, OFF_BLANK runs on the outputs that are
off (R199). -/
def State.followGate (s : State) (x : RingId) : State :=
  let open_ := s.gateOpen x
  let s1 := s.modRing x (fun r => { r with driveGate := open_ })
  (if open_ && !(s.ring x).driveGate then forEach (ringChs x) (fun n t => t.modChan n (fun c => c.startBlank s.clock)) s1 else s1).refreshRing x 0

/-- GATE reaches a Ring (R428). -/
def State.takeGate (s : State) (x : RingId) (gate : Bool) : State :=
  (s.modRing x (fun r =>
    { r with gateIn := gate, gateAt := if s.pairOn then some (if gate then s.clock else r.gateAt.getD 0) else none })).followGate x

/-- The toggle command reaches Ring A, which toggles a source that is on (R427). -/
def State.takeToggle (s : State) (x : RingId) (toggle : Bool) : State :=
  if toggle && x = .a && s.pair.sourceOn then s.modPair (fun p => { p with toggles := p.toggles + 1, toggleAt := s.clock }) else s

/-- A heartbeat with the present GATE starts to a Ring whose logic runs; a toggle that waits goes with the one to Ring A (R427, R428). -/
def State.sendBeat (s : State) (x : RingId) : State :=
  if (s.ring x).logic then
    let s1 := s.modRing x (fun r =>
      { r with beat := some ⟨s.gateTo x, (x = .a && s.pair.togglePend) || r.beat.any (·.toggle)⟩ })
    if x = .a then s1.modPair (fun p => { p with togglePend := false }) else s1
  else s

/-- A change of GATE goes to both Rings at once (R429). -/
def State.sendGates (s : State) : State := (s.sendBeat .a).sendBeat .b

/-- 100 µs without GATE = 1 close the gate of a paired unit's Ring, whatever the host die does; on Ring A, 100 µs without any host
heartbeat turn the source off too (R427 to R429). -/
def execDriveGateTimeout (x : RingId) (s : State) : Host.Outcome State Fault Refusal :=
  let r := s.ring x
  ok <| whenDo (r.gateAt.any (fun t => decide (t + 100 ≤ s.clock)))
    (fun s =>
      let s1 := (s.modRing x (fun r => { r with gateIn := false, driveGate := false })).refreshRing x 0
      if x = .a && decide ((s.ring x).lastHostBeat + 100 ≤ s.clock) then s1.modPair (fun p => { p with sourceOn := false }) else s1) s

/-! ## Channels at a change of the driving unit (R182, R243, R265) -/

/-- A channel of the unit that becomes active: sinks and supplies turn on, and its processing restarts. In a planned swap an
input keeps its accepted state where it has one and was not discarding, and a guard starts PRESENT where the epoch says so, with the channels
that it guards not held (R265). -/
def State.activeChannel (s : State) (n : Fin 16) (swap discarding : Bool) (present : BitVec 16) : State :=
  let c := s.chan n
  let f := c.rng.func
  if f = 1 || f = 3 then
    (if swap && c.inp.valid && !discarding then s else s.restartInput n)
  else if f = 13 then s.restartInput n
  else if f = 14 then
    (if swap && present.getLsbD n.1 then
      (forEach (s.guardees n) (fun m t => t.rearmGuard m) (s.modChan n (fun c => { c with plg := { c.plg with state := 1#3 } }))).tellPlug n
     else s.resetGuard n)
  else s

/-- A channel of the unit that becomes a standby: it measures no TOUCH channel, its guards read UNKNOWN, and it ends a wetting pulse (R181,
R265). -/
def State.standbyChannel (s : State) (n : Fin 16) : State :=
  let f := (s.chan n).rng.func
  if f = 13 then s.restartInput n else if f = 14 then s.resetGuard n else s.modChan n (fun c => { c with inp := c.inp.endPulse s.clock })

/-- Samples count again after a time of discarding: a run starts anew, and a hold resumes where it stood (R182; DESIGN CHOICE, log entry
131). -/
def InputPath.resumeFrom (i : InputPath) (since clock : Nat) : InputPath :=
  { i with runFrom := clock, holdStart := i.holdStart.map (fun h => h + (clock - max since h)) }

/-- A Ring takes the role that it works by (R13, R181, R182, R199, R265). OFF_BLANK runs on its outputs that are off where MAY_DRIVE becomes 1
(R199). -/
def State.takeRole (s : State) (x : RingId) (w : RoleWork) (swap : Bool) (present : BitVec 16) : State :=
  let old := (s.ring x).rrole
  let s1 := s.modRing x (fun r => { r with rrole := w, discardAt := if w.discard && !old.discard then s.clock else r.discardAt })
  let s0 := if w.may && !old.may then forEach (ringChs x) (fun n t => t.modChan n (fun c => c.startBlank s.clock)) s1 else s1
  let s2 :=
    if old.discard && !w.discard then
      forEach ((ringChs x).filter (fun n => (s.chan n).rng.func = 1 || (s.chan n).rng.func = 3))
        (fun n t => t.modChan n (fun c => { c with inp := c.inp.resumeFrom (s.ring x).discardAt s.clock })) s0
    else s0
  if w.standby && !old.standby then forEach (ringChs x) (fun n t => t.standbyChannel n) s2
  else if !w.standby && old.standby then
    (forEach (ringChs x) (fun n t => t.activeChannel n swap old.discard present) s2).applyGuards x
  else s2

/-- PRESENT mask of an epoch (R440). -/
def Epoch.present (e : Epoch) : BitVec 16 := BitVec.ofNat 16 (u16 e.payload 1124)

/-- The setpoints of a channel in an epoch (R440). -/
def Epoch.setpoint (e : Epoch) (n : Nat) (k : Nat) : Word := word (u32 e.payload (868 + 16 * n + 4 * k))

/-- The setpoint registers of every channel take an epoch's (R442). -/
def State.takeSetpoints (s : State) (e : Epoch) : State :=
  forEach allCh (fun n t => t.modChan n (fun c =>
    { c with cfg := { c.cfg with doDuty := e.setpoint n.1 1 }
             cmd := { c.cmd with doCmd := e.setpoint n.1 0 &&& 3#32, anCmd := e.setpoint n.1 2 &&& 1#32, anSet := e.setpoint n.1 3 } })) s

/-- The setpoints of the channels take their Image values, with no committed destination (R437). -/
def State.imageSetpoints (s : State) : State :=
  match s.img.running with
  | none => s
  | some i =>
    forEach allCh (fun n t => t.modChan n (fun c =>
      { c with cfg := { c.cfg with doDuty := (i.chanCfg n.1).doDuty }
               cmd := i.chanCmd n.1 })) s

/-- The commands of a channel go to its Ring (R437, R446). -/
def State.sendCommand (s : State) (n : Fin 16) : State := ((s.sendCfg n).sendSetpoint n).sendDrive n

/-- The committed destinations and setpoints go to the Rings as pending commands (R437, R446). -/
def State.sendCommands (s : State) : State :=
  forEach allCh (fun n t => (t.modChan n (fun c =>
    { c with cmd := { c.cmd with drive := t.fab.drives n.1 0, alt := t.fab.drives n.1 1 } })).sendCommand n) s

/-- The commands of every channel go to the Rings as they stand (R437). -/
def State.sendChannels (s : State) : State := forEach allCh (fun n t => t.sendCommand n) s

/-- GATE = 1 goes to a Ring behind the commands that are on their way to it (R437). -/
def State.gateAfter (s : State) (x : RingId) : State := if (s.ring x).cmdq = [] then s.sendBeat x else s.sendRing x .gate

/-- OUT_CHAN of an epoch. -/
def Epoch.outChan (e : Epoch) : BitVec 48 := BitVec.ofNat 48 (leNat (slice e.payload 852 6))

/-- The setpoints and the committed destinations take those of an epoch (R437, R446). -/
def State.takeOutputs (s : State) (e : Epoch) : State := (s.takeSetpoints e).modFab (fun f => { f with outChan := e.outChan })

/-- At TL_QUAL the unit becomes ACTIVE (R435, R437, R446), by the reason for which it claimed. -/
def State.becomeActive (s : State) : State :=
  let p := s.pair
  let reason := p.claimReason.toNat
  let copied := reason = 1 || reason = 2
  let num := if copied then (p.held.map (·.number)).getD 0#32 else 0#32
  let s1 := (s.setRole .active reason num).modPair (fun q =>
    { q with
      claimFails := 0, sending := none, lastSent := none, lastEpochStep := s.fab.stepNo
      resume := if copied then some p.held else none
      takeovers := if reason = 1 then satInc q.takeovers else q.takeovers
      swaps := if reason = 2 then satInc q.swaps else q.swaps
      evt := if reason = 2 then q.evt ||| 0x10#6 else q.evt })
  let s2 := if reason = 1 then s1.raise ⟨hostSlot 23, 0, false, num, false⟩ else s1
  let s3 := match copied, p.held with
    | true, some e => s2.takeOutputs e
    | true, none => s2.imageSetpoints
    | false, _ => s2
  let present := (p.held.map Epoch.present).getD 0#16
  let s4 := (if reason = 2 then s3 else if copied && p.held.isNone then s3.sendChannels else s3.sendCommands).tellRole (reason = 2) present
  let s5 := forEach (allCh.filter (fun n => isAi (s.chan n).func)) (fun n t => t.restartChain n) s4
  let s6 := (s5.gateAfter .a).gateAfter .b
  (if reason = 2 then s6.sendSwap .done else s6).sendState

/-! ## Claims (R434 to R436) -/

/-- A claim starts (R435): a unit that does not source checks its loop first; `idle` says that less than 1 mA flows. The source is turned
on by a command to Ring A, with toggles. `num` is the number of the epoch that a takeover or a swap goes by (R452). -/
def State.claim (s : State) (roleReason claimReason : Nat) (idle : Bool) (num : Word := 0#32) : State :=
  let s1 := (s.setRole .claiming roleReason num).modPair (fun p => { p with claimReason := BitVec.ofNat 4 claimReason, claimFrom := s.clock })
  if s1.pair.sourceOn then s1
  else if !idle then s1.setRole s1.pair.restRole 6
  else (s1.modPair (fun p => { p with tlHb := false, hbLost := false, togglePend := true, issued := s.clock,
                                      evt := if p.tlHb then p.evt ||| 8#6 else p.evt })).sendSource true

/-- The condition of STARTING under which a unit claims (R434): the partner is seen on neither path, or it is STARTING on Trapeze and
this unit is the first by PAIR_ID, with no ID cause. -/
def Pair.startClaims (p : Pair) (pairId : Bool) : Bool :=
  p.localClear && !p.partnerActive && ((!p.tzUp && !p.tlHb) || (p.tzUp && p.partnerRole = 1#4 && !pairId && !p.uq.getLsbD 2))

/-- The listen time ends (R434). -/
def execListenTimeExpiry (idle : Bool) (s : State) : Host.Outcome State Fault Refusal :=
  let p := s.pair
  ok <| whenDo (s.roleOn && p.role = .starting && (s.ring .a).hostConf && decide (p.listenFrom + p.delayUs ≤ s.clock)
      && p.startClaims s.img.pairId)
    (fun s => (s.claim 0 0 idle).pairSync) s

/-- Both paths have been lost for TAKEOVER_DELAY (R436). -/
def Pair.takeoverDue (p : Pair) (clock : Nat) : Bool :=
  match p.bothLostFrom with
  | some t => decide (t + p.delayUs ≤ clock)
  | none => false

/-- The number of the latest complete epoch, 0 without one (R452). -/
def Pair.heldNumber (p : Pair) : Word := (p.held.map (·.number)).getD 0#32

/-- TAKEOVER_DELAY expires with both paths lost (R436). -/
def execTakeoverDelayExpiry (idle : Bool) (s : State) : Host.Outcome State Fault Refusal :=
  let p := s.pair
  ok <| whenDo (s.roleOn && p.role = .standby && p.takeoverDue s.clock && (!p.stale || p.staleOk))
    (fun s => (s.claim 1 1 idle s.pair.heldNumber).pairSync) s

/-- 1 000 µs without TL_QUAL (R434, R435, R452); `port` is the port state. -/
def execClaimTimeout (port : BitVec 2) (s : State) : Host.Outcome State Fault Refusal :=
  let p := s.pair
  ok <| whenDo (s.roleOn && p.role = .claiming && !p.tlQual && decide (p.claimFrom + 1000 ≤ s.clock))
    (fun s =>
      let s1 := (s.modPair (fun p =>
        { p with togglePend := false, backoffFrom := s.clock, claimFails := p.claimFails + 1, claimFail := satInc p.claimFail })).sendSource false
      ((s1.event 0x14 3 .internal (port.zeroExtend 32) (word s1.pair.claimFails)).setRole .backoff 8).pairSync) s

/-- The entry condition of a claim still holds (R434): that of STARTING, the takeover rule of R436 with its whole delay or GO on a STANDBY, or an
active unit that lost TL_QUAL and sees no active partner. -/
def Pair.claimHolds (p : Pair) (pairId : Bool) (clock : Nat) : Bool :=
  if p.claimReason = 0#4 then p.startClaims pairId
  else !p.partnerActive && p.localClear && (p.claimReason = 5#4
    || (p.uq = 0#10 && (p.claimReason ≠ 1#4 || (p.takeoverDue clock && (!p.stale || p.staleOk)))))

/-- The backoff time ends (R434). -/
def execBackoffExpiry (idle : Bool) (s : State) : Host.Outcome State Fault Refusal :=
  let p := s.pair
  ok <| whenDo (s.roleOn && p.role = .backoff && decide (p.backoffFrom + (if s.img.pairId then 3000 else 1000) ≤ s.clock))
    (fun s => (if p.claimHolds s.img.pairId s.clock then s.claim 9 p.claimReason.toNat idle
      else s.setRole p.restRole (if p.partnerActive then 6 else 9)).pairSync) s

/-! ## Tightrope (R426, R427, R430) -/

/-- Every 500 µs the Ringmaster issues a toggle, which goes to Ring A in the next heartbeat (R427). -/
def execTightropeToggle (s : State) : Host.Outcome State Fault Refusal :=
  let p := s.pair
  ok <| whenDo (s.roleOn && (p.role = .claiming || p.leads) && decide (p.issued + 500 ≤ s.clock))
    (fun s => s.modPair (fun p => { p with togglePend := true, issued := s.clock })) s

/-- The host die learns TL_QUAL from Ring A (R427, R428, R434): a claim succeeds, or ACTIVE falls back to CLAIMING, with a source that is
on left on and an idle check where it is off (R435). -/
def State.hearQual (s : State) (up idle : Bool) : State :=
  let p := s.pair
  if p.tlQual = up then s
  else
    let s1 := s.modPair (fun (p : Pair) => ({ p with
      tlQual := up, evt := p.evt ||| 8#6
      tlLostFrom := if up then none else if p.role = Role.active || p.role = Role.claiming || p.role = Role.backoff then some s.clock else none }).refresh)
    let s2 :=
      if up && p.role = .claiming then s1.becomeActive
      else ((if !up && p.role = .active then s1.claim 5 5 idle else s1).sendGates)
    s2.pairSync

/-- TL_QUAL rises or falls on Ring A (R427): its own gate follows at once, and the host die learns it across the link (R16, R428, R429). -/
def execTlQualChange (up idle : Bool) (s : State) : Host.Outcome State Fault Refusal :=
  ok <| whenDo (s.roleOn && (s.ring .a).qual ≠ up && (!up || s.pair.sourceOn))
    (fun s =>
      let s1 := (s.modRing .a (fun r => { r with qual := up })).followGate .a
      if (s.ring .a).fresh then s1.sendUp .a (.qual up idle s.tick) else s1) s

/-- Without toggles the source collapses (R426, R427). -/
def execSourceCollapse (s : State) : Host.Outcome State Fault Refusal :=
  ok <| whenDo (s.pair.sourceOn && decide (s.pair.toggleAt + 1000 ≤ s.clock)) (fun s => s.modPair (fun p => { p with sourceOn := false })) s

/-- The Tightrope heartbeat is lost, or has not come for 2 000 µs, on a unit that does not source (R430); `port` is the port state. -/
def execTightropeHbLost (port : BitVec 2) (s : State) : Host.Outcome State Fault Refusal :=
  ok <| whenDo (s.roleOn && !s.pair.sourceOn && (s.pair.tlHb || !s.pair.hbLost))
    (fun s =>
      let s1 := s.modPair (fun p => { p with
        tlHb := false, hbLost := true, hbStayed := false, evt := if p.tlHb then p.evt ||| 8#6 else p.evt })
      (if s1.tlLost then s1.raiseLive (hostSlot 21) (port.zeroExtend 32) else s1).pairSync) s

/-- A unit that does not source sees the partner's modulated current (R430). -/
def execTightropeHbReturn (s : State) : Host.Outcome State Fault Refusal :=
  ok <| whenDo (s.roleOn && !s.pair.sourceOn && !s.pair.tlHb)
    (fun s => (s.modPair (fun p => { p with tlHb := true, hbLost := false, evt := p.evt ||| 8#6 })).pairSync) s

/-! ## Trapeze (R423 to R425, R430, R432) -/

/-- A valid frame arrives: Trapeze is up; at link-up a QUAL frame goes out (R423, R430). -/
def State.tzFrame (s : State) : State :=
  let s1 := s.modPair (fun p => { p with lastFrame := s.clock })
  if s.pair.tzUp then s1
  else ((s1.modPair (fun p => { p with tzUp := true, tzLostAt := none, lastBeat := s.clock, evt := p.evt ||| 4#6 })).clearLive (hostSlot 20)).sendState

/-- A frame whose CRC or length fails (R423): counted, and TRAPEZE_ERRS above 64 in a second (R451). -/
def State.tzDiscard (s : State) : State :=
  let recent := (s.pair.badTimes.filter (fun t => decide (s.clock < t + 1000000))) ++ [s.clock]
  let s1 := s.modPair (fun p => { p with tzCrc := satInc p.tzCrc, badTimes := recent })
  if 64 < recent.length then s1.raiseLive (hostSlot 27) (word recent.length) else s1

/-- A frame of a paired unit, by its payload length: discarded, or taken. -/
def State.onFrame (s : State) (good : Bool) (f : State → State) : State :=
  if !s.tzOn then s else if !good then s.tzDiscard else f s.tzFrame

/-- A Trapeze frame fails (R423). -/
def execTrapezeFrameDiscard (s : State) : Host.Outcome State Fault Refusal := ok <| whenDo s.tzOn State.tzDiscard s

/-- Every 100 µs a HEARTBEAT goes out (R423, R424). -/
def execTzHeartbeatSend (s : State) : Host.Outcome State Fault Refusal :=
  ok <| whenDo (s.tzOn && decide (s.pair.beatAt + 100 ≤ s.clock))
    (fun s => (s.pairSync.sendHeartbeat).modPair (fun p => { p with beatAt := s.clock })) s

/-- Every second a QUAL frame goes out (R423, R425). -/
def execQualSend (s : State) : Host.Outcome State Fault Refusal :=
  ok <| whenDo (s.tzOn && decide (s.pair.qualAt + 1000000 ≤ s.clock)) (fun s => s.sendQual.modPair (fun p => { p with qualAt := s.clock })) s

/-- Heartbeats of every 100 µs that did not arrive since the latest one (R454). -/
def Pair.missedBeats (p : Pair) (clock : Nat) : Nat := (clock - p.lastBeat + 50) / 100 - 1

/-- A HEARTBEAT of the partner is taken (R424). -/
def State.takeHeartbeat (s : State) (b : List Byte) : State :=
  let seq := BitVec.ofNat 16 (u16 b 8)
  let s1 := s.modPair (fun p =>
    { p with
      missed := satAdd p.missed (p.missedBeats s.clock), lastBeat := s.clock
      partnerRole := BitVec.ofNat 4 (u8 b 0), partnerId := u8 b 1 = 1, partnerFlags := BitVec.ofNat 8 (u8 b 2)
      gapOpen := p.gapOpen || (seq = 0#16 && p.mirPeer ≠ 0#16), mirPeer := seq, mirLast := if seq = 0#16 then 0#16 else p.mirLast
      partnerUq := BitVec.ofNat 10 (u16 b 10) })
  (s1.judgePartner.nextFlight).pairSync

/-- A partner's HEARTBEAT is received. -/
def execHeartbeat (b : List Byte) (s : State) : Host.Outcome State Fault Refusal :=
  ok (s.onFrame (b.length = 16) (fun t => t.takeHeartbeat b))

/-- A partner's QUAL frame is received (R425, R431). -/
def execQual (b : List Byte) (s : State) : Host.Outcome State Fault Refusal :=
  ok (s.onFrame (b.length = 32) (fun t =>
    (t.modPair (fun p =>
      { p with
        peerCrc := word (u32 b 0), peerLen := word (u32 b 4), peerVer := word (u32 b 8), peerMin := BitVec.ofNat 4 (u8 b 12)
        peerMax := BitVec.ofNat 4 (u8 b 13), partnerId := u8 b 14 = 1, peerFlags := BitVec.ofNat 8 (u8 b 15)
        peerSeen := true })).judgePartner.pairSync))

/-- The number of an arriving epoch: from its header in segment 0, or the low 16 bits that every segment carries where segment 0 never
came (log entry 99). -/
def segEpoch (g : Nat × Nat × List Byte) : Word := word (if g.2.1 = 0 && decide (4 ≤ g.2.2.length) then u32 g.2.2 0 else g.1)

/-- A partial epoch is discarded (R442, R451). -/
def State.dropEpoch (s : State) : State :=
  match s.pair.segs with
  | [] => s
  | g :: _ =>
    if s.pair.discarding then s
    else
      (s.modPair (fun p => { p with discarding := true, discarded := satInc p.discarded })).raise
        ⟨hostSlot 26, 0, false, segEpoch g, false⟩

/-- No valid frame for TZ_LOSS × 100 µs (R430): the partial epoch is discarded (R442). -/
def execTrapezeLost (s : State) : Host.Outcome State Fault Refusal :=
  let p := s.pair
  ok <| whenDo (s.tzOn && decide (p.lastFrame + p.tzLoss * 100 ≤ s.clock) && (p.tzUp || !(s.slot (hostSlot 20)).real.getLsbD 0))
    (fun s =>
      let s1 := s.dropEpoch.modPair (fun p =>
        { p with
          missed := if p.tzUp then satAdd p.missed ((s.clock - p.lastBeat) / 100) else p.missed
          tzUp := false, tzLostAt := some s.clock, hbStayed := p.tlHb, partnerRole := 15#4, evt := if p.tzUp then p.evt ||| 4#6 else p.evt
          segs := [], discarding := false })
      (s1.raiseLive (hostSlot 20)).pairSync) s

/-- The Tightrope heartbeat has stayed present for 5 000 µs after the loss of Trapeze (R432). -/
def execStaleLinkFail (s : State) : Host.Outcome State Fault Refusal :=
  let p := s.pair
  let due := match p.tzLostAt with
    | some t => decide (t + 5000 ≤ s.clock)
    | none => false
  ok <| whenDo (s.roleOn && !p.tzUp && p.tlHb && p.hbStayed && due && !p.leads && !p.stale)
    (fun s => (s.modPair (fun p => { p with stale := true, needFull := true, evt := p.evt ||| 2#6 })).pairSync) s

/-- MIRROR_SEQ has differed for 1 ms (R431). -/
def execMirrorGap (s : State) : Host.Outcome State Fault Refusal :=
  let p := s.pair
  let due := match p.gapFrom with
    | some t => decide (t + 1000 ≤ s.clock)
    | none => false
  ok <| whenDo (s.roleOn && !p.leads && due) (fun s => ((s.modPair (fun p => { p with gapOpen := false })).setUq (s.pair.uq ||| 16#10)).pairSync) s

/-- An unacknowledged MIRROR frame is sent again, up to 8 transmissions (R423). -/
def execMirrorResend (s : State) : Host.Outcome State Fault Refusal :=
  ok <| match s.pair.flight with
    | none => s
    | some f =>
      if !s.tzOn || !s.pair.mirrorOpen || s.clock < f.at_ + 200 then s
      else if 8 ≤ f.sends then (s.modPair (fun p => { p with flight := none })).nextFlight
      else (s.modPair (fun p => { p with flight := some { f with sends := f.sends + 1, at_ := s.clock }, sentMirror := s.mirrorBytes f.m })).post
        (.bytes 3#8 (s.mirrorBytes f.m))

/-! ## Epochs (R439 to R442) -/

/-- The payload of an epoch (R440): the committed state, the host signals of the step that ended, the destinations, the
setpoints and the PRESENT mask. -/
def State.epochPayload (s : State) (pre : FabState) : List Byte :=
  s.fab.stateBlock ++ leBytesN 16 pre.snap.hsig.toNat ++ leBytesN 6 s.fab.outChan.toNat ++ leBytesN 1 s.fab.outDev.toNat ++ leBytesN 1 0
    ++ leBytesN 8 s.fab.flags.toNat
    ++ allCh.flatMap (fun n =>
      let c := s.chan n
      leBytes c.cmd.doCmd ++ leBytes c.cfg.doDuty ++ leBytes c.cmd.anCmd ++ leBytes c.cmd.anSet)
    ++ leBytesN 2 (bitsOf 16 (fun i => let c := s.chan (toIdx 16 i); c.func = 14 && c.hostPlug = 1#3)).toNat ++ leBytesN 10 0

/-- The 16-byte units of a payload. -/
def payloadUnits (b : List Byte) : List (List Byte) := (List.range 71).map (fun u => slice b (16 * u) 16)

/-- The body of a compressed epoch (R440, R441). -/
def compressedBody (b base : List Byte) : List Byte :=
  let us := (payloadUnits b).zip (payloadUnits base)
  leBytesN 12 (us.zipIdx.foldl (fun m p => m + bitAt (p.1.1 ≠ p.1.2) p.2) 0) ++ us.flatMap (fun p => if p.1 = p.2 then [] else p.1)

/-- An epoch as it is sent (R440). -/
def State.epochBytes (s : State) (e : Epoch) (base : Option Epoch) : List Byte :=
  let body := match base with
    | some b => compressedBody e.payload b.payload
    | none => e.payload
  let all := leBytes e.number ++ leBytes e.step ++ leBytesN 2 (28 + body.length) ++ leBytesN 1 (b2n base.isSome) ++ leBytesN 1 0
    ++ leBytes s.identity.1 ++ leBytesN 2 e.mirror.toNat ++ leBytes ((base.map (·.number)).getD 0#32) ++ leBytesN 2 0 ++ body
  all ++ leBytes (crc32 all)

/-- The EPOCH frames of an epoch (R440): its number [15:0], the segment index, the segment count, and up to 252 of its bytes. -/
def epochFrames (number : Word) (b : List Byte) : List TzFrame :=
  let k := (b.length + 251) / 252
  (List.range k).map (fun i => .bytes 4#8 (leBytesN 2 number.toNat ++ leBytesN 1 i ++ leBytesN 1 k ++ slice b (252 * i) (min 252 (b.length - 252 * i))))

/-- An epoch is taken at a step end tick and its transmission starts (R439, R441). -/
def State.takeEpoch (s : State) (pre : FabState) (full : Bool) : State :=
  let p := s.pair
  let num := p.epochNum + 1#32
  let e : Epoch := ⟨num, word pre.stepNo, p.mirOwn, s.epochPayload pre⟩
  let plain := full || p.rev < 2 || num.toNat % 64 = 0 || num = 1#32 || p.needFullPeer
  let b := s.epochBytes e (if plain then none else p.lastSent)
  (epochFrames num b).foldl State.post (s.modPair (fun q =>
    { q with
      epochNum := num, sending := some e, sentEpoch := b
      stepsPer := BitVec.ofNat 8 (min 255 (pre.stepNo + 1 - p.lastEpochStep)), lastEpochStep := pre.stepNo + 1 }))

/-- The last segment has gone (R440). -/
def execEpochSendDone (s : State) : Host.Outcome State Fault Refusal :=
  ok <| whenDo (s.pair.sending.isSome && s.pair.segmentsGone s.clock) (fun s => s.modPair (fun p => { p with lastSent := p.sending, sending := none })) s

/-- The payload of a received epoch (R440): that of a compressed one is rebuilt from the held epoch. -/
def epochBody (b base : List Byte) : List Byte :=
  let map_ := leNat (slice b 24 12)
  ((payloadUnits base).zipIdx.foldl
    (fun (acc : List Byte × Nat) p =>
      if map_.testBit p.2 then (acc.1 ++ slice b acc.2 16, acc.2 + 16) else (acc.1 ++ p.1, acc.2)) ([], 36)).1

/-- The checks of a whole epoch (R442), and its payload. -/
def State.readEpoch (s : State) (b : List Byte) : Option (Epoch × Bool) :=
  let len := u16 b 8
  let full := u8 b 10 = 0
  let ok_ := 28 ≤ len && len = b.length && (crc32 (b.take (len - 4))).toNat = u32 b (len - 4) && word (u32 b 12) = s.identity.1
  if !ok_ then none
  else if full then some (⟨word (u32 b 0), word (u32 b 4), BitVec.ofNat 16 (u16 b 16), slice b 24 1136⟩, true)
  else match s.pair.held with
    | some h =>
      if h.number = word (u32 b 18) then
        some (⟨word (u32 b 0), word (u32 b 4), BitVec.ofNat 16 (u16 b 16), epochBody b h.payload⟩, false)
      else none
    | none => none

/-- A compressed epoch whose BASE is not the held one asks for a full one (R442). -/
def State.baseMismatch (s : State) (b : List Byte) : Bool :=
  u8 b 10 = 1 && (match s.pair.held with
    | some h => decide (h.number ≠ word (u32 b 18))
    | none => true)

/-- An ACK goes to the port, with NEED_FULL while STALE is 1 or a full epoch is wanted (R423, R432, R442). -/
def State.sendAckOf (s : State) (a : AckOf) : State :=
  let full := s.pair.stale || s.pair.needFull
  (s.modPair (fun p => { p with sentAck := some (a, full) })).post (.ack a full)

/-- Every segment has arrived: the epoch is complete, or discarded (R432, R442). -/
def State.finishEpoch (s : State) (b : List Byte) : State :=
  match s.readEpoch b with
  | some (e, full) =>
    s.modPair (fun p =>
      let stale := p.stale && !full
      { p with
        held := some e, heldAt := s.clock, segs := [], discarding := false, stale := stale
        needFull := if full then false else p.needFull
        evt := if p.stale && full then p.evt ||| 2#6 else p.evt }) |>.sendAckOf (.epoch e.number)
  | none =>
    let s1 := if s.baseMismatch b then s.modPair (fun p => { p with needFull := true }) else s
    (s1.dropEpoch).modPair (fun p => { p with segs := [], discarding := false })

/-- A segment joins the arriving epoch (R440, R442); one out of order gives the epoch up. -/
def State.takeSegment (s : State) (b : List Byte) : State :=
  let num := u16 b 0
  let ix := u8 b 2
  let cnt := u8 b 3
  let other := s.pair.segs.any (fun g => g.1 ≠ num)
  let s0 := if other then s.dropEpoch.modPair (fun p => { p with segs := [], discarding := false }) else s
  let p := s0.pair
  let s1 := s0.modPair (fun p => { p with segs := p.segs ++ [(num, ix, b.drop 4)] })
  if p.discarding then s0
  else if ix ≠ p.segs.length then s1.dropEpoch
  else if ix + 1 = cnt then s1.finishEpoch (s1.pair.segs.flatMap (·.2.2))
  else s1

/-- An EPOCH segment is received (R442); the driving unit takes none. -/
def execEpoch (b : List Byte) (s : State) : Host.Outcome State Fault Refusal :=
  ok (s.onFrame (4 ≤ b.length && b.length ≤ 256) (fun t => if t.pair.driving then t else (t.takeSegment b).pairSync))

/-- The fabric takes an epoch's state block and host signals (R437, R442). END of a timer and WRAP of a counter are not in it:
free values (log entry 6). -/
def State.applyEpoch (s : State) (e : Epoch) : State :=
  let (w0, s1) := s.free
  let (w1, s2) := s1.free
  let (w2, s3) := s2.free
  s3.modFab (fun f => { f.loadBlock (e.payload.take 836) (w0 ++ w1) w2 with
    hsig := BitVec.ofNat 128 (leNat (slice e.payload 836 16)), valuePend := [] })

/-! ## Planned swaps (R446 to R448) -/

/-- A swap starts on the active unit; its epoch will be the next one (R446, R452; log entry 133). -/
def State.startSwap (s : State) : State :=
  (s.modPair (fun p => { p with swap := some ⟨0#32, 0, false, 0⟩ })).setRole .swapping 2 (s.pair.epochNum + 1#32)

/-- Why PAIR_CMD.SWAP is refused (R448), 0 where it is not. The order of the codes, and 5 while the partner is SWAPPING, are the model's
(DESIGN CHOICE, log entry 145). -/
def State.swapRefusal (s : State) : Nat :=
  let p := s.pair
  if p.role = .swapping || p.partnerRole = 7#4 || s.img.actPending then 5
  else if !(p.role = .active || (p.role = .standby && p.swapReqOk)) then 1
  else if !p.tzUp || p.rev = 0 then 2
  else if p.role = .active && (p.partnerRole ≠ 2#4 || p.partnerFlags.getLsbD 1) then 3
  else if s.fab.stepSoon < 20 then 4
  else 0

/-- The swap's epoch at a step end tick (R446): a new one while the ACK is missing; after 8 the swap fails with code 1. -/
def State.swapStep (s : State) (pre : FabState) : State :=
  match s.pair.swap with
  | some w =>
    if w.go then s
    else if 8 ≤ w.attempts then (s.endSwap false 1).setRole .active 2 w.epoch
    else
      let s1 := s.takeEpoch pre true
      s1.modPair (fun p => { p with swap := some { w with epoch := p.epochNum, attempts := w.attempts + 1 } })
  | none => s

/-- The swap epoch is acknowledged: GO, with gates and source off in the same handshake (R446). -/
def State.swapGo (s : State) (w : Swap) : State :=
  let s1 := s.modPair (fun p => ({ p with swap := some { w with go := true, goAt := s.clock }, togglePend := false, sending := none }).refresh)
  ((((s1.sendSwap (.go w.epoch)).sendGates).sendSource false).tellRole).sendState

/-- An ACK is received (R423, R444, R446): BUSY, by the code of R69, sends the change again 100 µs later. -/
def execAck (a : AckOf) (needFull : Bool) (s : State) : Host.Outcome State Fault Refusal :=
  ok (s.onFrame true (fun t0 =>
    let t := t0.modPair (fun p => { p with needFullPeer := needFull })
    match a with
    | .mirror seq status =>
      (match t.pair.flight with
        | some f =>
          if f.m.seq ≠ seq then t
          else if status = 0xFE#8 then
            t.modPair (fun p => { p with flight := some { f with sends := f.sends - 1, at_ := t.clock - 100 } })
          else (t.modPair (fun p => { p with flight := none })).nextFlight.pairSync
        | none => t)
    | .epoch number =>
      (match t.pair.swap with
        | some w => if !w.go && 0 < w.attempts && w.epoch = number && t.pair.role = .swapping then (t.swapGo w).pairSync else t
        | none => t)))

/-- SWAP REQ on the active unit: handled as its own command, without a journal entry (R446); ignored where it would be refused. -/
def execSwapReq (s : State) : Host.Outcome State Fault Refusal :=
  ok (s.onFrame true (fun t => if t.pair.role = .active && t.swapRefusal = 0 then t.startSwap.pairSync else t))

/-- SWAP GO on the standby (R446): it holds that epoch complete, sends its Rings the epoch's destinations and setpoints, and claims. -/
def execSwapGo (epoch : Word) (idle : Bool) (s : State) : Host.Outcome State Fault Refusal :=
  ok (s.onFrame true (fun t =>
    match t.pair.held with
    | some e => if t.pair.role = .standby && e.number = epoch then ((t.takeOutputs e).sendCommands.claim 2 2 idle epoch).pairSync else t
    | none => t))

/-- SWAP DONE on the old active unit (R446), also on one that has given up its role since GO (R453). -/
def execSwapDone (s : State) : Host.Outcome State Fault Refusal :=
  ok (s.onFrame true (fun t =>
    match t.pair.swap with
    | some w =>
      if !w.go then t
      else if t.pair.role = .swapping then ((t.endSwap true 0).setRole t.pair.restRole 2 w.epoch).pairSync
      else (t.endSwap true 0).pairSync
    | none => t))

/-- No DONE within 1 000 µs of GO (R434, R446, R448): the old active unit claims, unless it has given up its role since. -/
def execSwapDoneTimeout (idle : Bool) (s : State) : Host.Outcome State Fault Refusal :=
  ok <| match s.pair.swap with
    | some w =>
      if s.roleOn && w.go && decide (w.goAt + 1000 ≤ s.clock) then
        (if s.pair.role = .swapping then (s.endSwap false 2).claim 2 5 idle w.epoch else s.endSwap false 2).pairSync
      else s
    | none => s

/-! ## PAIR_CMD (R438, R446) -/

/-- PAIR_CMD.RELEASE (R438). -/
def State.releaseRole (s : State) : State :=
  if s.pair.holdsRole then s.giveUp 4 5 else s.setUq (s.pair.uq ||| 32#10) 4

/-- PAIR_CMD: a role command is a change with its own record (R452); more than one bit is refused. -/
def State.pairCmd (s : State) (origin : Origin) (w : Word) : State × Reply :=
  let b := fld w 0 3
  let rf := s.swapRefusal
  guarded s
    [check (b = 3 || 5 ≤ b) (.refused (if b = 6 then 1 else 0)), check (b = 1 && rf ≠ 0) (.notNow (word rf)),
     check (b = 4 && s.pair.uq.getLsbD 7) (.notNow 6#32)]
    (s.change origin 9 w (word (roleCode s.pair.role)) (fun (t : State) =>
      (match b with
        | 1 => if t.pair.role = Role.active then t.startSwap else t.sendSwap .req
        | 2 => t.releaseRole
        | 4 => t.setUq (t.pair.uq &&& ~~~ 32#10) 12
        | _ => t).pairSync))

/-- SWAP_DUE becomes live (R449). -/
def execSwapDue (s : State) : Host.Outcome State Fault Refusal := ok <| whenDo s.swapDueOwn State.pairSync s

/-! ## Activation and start (R421, R434) -/

/-- The PAIR record of an image with PAIRED = 1. -/
def Image.pairRec (i : Image) : Option (List Byte) := i.pair.filter (fun r => u8 r 1 % 2 = 1)

/-- PAIR_CFG from a record (R100, R421). -/
def pairCfgOf (r : List Byte) : Word :=
  word (u8 r 7 * 16777216 + u16 r 4 % 1024 * 16384 + u16 r 2 % 128 * 128 + u8 r 6 % 2 * 8 + u8 r 1 / 2 % 2 * 4)

/-- The swap before GO fails with code 5 at an activation (R434, R448). -/
def State.swapAtA (s : State) : State :=
  if s.pair.role = .swapping && s.pair.driving then (s.endSwap false 5).setRole .active 10 else s

/-- The identity of the unit in its pair at A, before the records of the activation carry it (R368, R421). -/
def State.takePairing (s : State) (i : Image) : State :=
  { s with img := { s.img with paired := i.pairRec.isSome, pairId := i.pairRec.any (fun r => u8 r 0 % 2 = 1) } }

/-- The Ringmaster at boundary A (R434, R444): `reason` is 0 at start, else 10. -/
def State.pairActivate (s0 : State) (i : Image) (reason : Nat) : State :=
  let clear := fun (p : Pair) =>
    { p with mirOwn := 0#16, mirLast := 0#16, mirQueue := [], flight := none, gapFrom := none, gapOpen := true, epochNum := 0#32
             sending := none, cfg := (i.pairRec.map pairCfgOf).getD pairCfgReset, claimReason := 0#4 }
  match i.pairRec with
  | none =>
    ((((s0.setRole .unpaired reason).modPair (fun p =>
      { clear p with uq := p.uq &&& 32#10, tlQual := false, tlHb := false, hbLost := false, hbStayed := false, togglePend := false, tzUp := false
                     swap := none, segs := [], discarding := false, mirBusy := false, tx := [], resume := none, lastSent := none, partnerRole := 15#4, peerSeen := false, bothLostFrom := none, tzLostAt := none
                     evt := p.evt ||| (if p.tzUp then 4#6 else 0#6) ||| (if p.tlQual || p.tlHb then 8#6 else 0#6)
                       ||| (if p.uq ≠ p.uq &&& 32#10 then 2#6 else 0#6) })).sendSource false).sendGates.pairSync).clearLive
        (hostSlot 20)
  | some _ =>
    let s1 := s0.swapAtA
    if s1.pair.role = .active then
      (((s1.modPair clear).setUq (s1.pair.uq &&& ~~~ 0x108#10)).judgePartner.sendState).pairSync
    else
      let fresh := s1.pair.role = .unpaired
      let s2 := (s1.setRole .starting reason).modPair (fun p =>
        { clear (p.takeRole .starting s0.clock) with
          togglePend := false, swap := none, listenFrom := s0.clock, resume := none, mirBusy := false
          lastFrame := if fresh then s0.clock else p.lastFrame })
      ((((s2.setUq (s2.pair.uq &&& ~~~ 0x108#10)).judgePartner.sendSource false).sendGates).sendState).pairSync

/-- The listen time runs from the configuration of Ring A where that comes later (R434). -/
def State.listenFromConfig (s : State) (x : RingId) : State :=
  if x = .a && s.pair.role = .starting then s.modPair (fun p => { p with listenFrom := s.clock }) else s

/-- The Ringmaster at a start: roles and counts of Reset; PAIR_IDLE is kept (R434, R449, R454). -/
def Pair.start (p : Pair) (clock : Nat) : Pair :=
  { p with
    cfg := pairCfgReset, role := .unpaired, mayDrive := true, standby := false, uq := 0#10, stale := false, tlHb := false, tlQual := false
    tzUp := false, lastFrame := clock, lastBeat := clock, beatAt := clock, qualAt := clock, tzLostAt := none, partnerRole := 15#4, partnerId := false, partnerFlags := 0#8
    partnerUq := 0#10, peerCrc := 0#32, peerVer := 0#32, peerLen := 0#32, peerMax := 0#4, peerMin := 0#4, peerFlags := 0#8
    peerSeen := false, mirOwn := 0#16, mirPeer := 0#16, mirLast := 0#16, mirCode := 0#8, mirQueue := [], flight := none, gapFrom := none, gapOpen := false
    hbLost := false, hbStayed := false, toldRole := ⟨false, true, true, false⟩, togglePend := false, issued := 0, mirBusy := false, tx := [], txAt := 0
    fseq := 0#8, line := none, epochNum := 0#32, sending := none, lastSent := none, stepsPer := 0#8, lastEpochStep := 0, needFullPeer := false, needFull := false
    held := none, heldAt := 0, segs := [], discarding := false, discarded := 0#16, sourceOn := false, toggles := 0, toggleAt := 0
    listenFrom := 0, claimFrom := 0, backoffFrom := 0, bothLostFrom := none, tlLostFrom := none, claimReason := 0#4, claimFails := 0
    swap := none, resume := none, idleFrom := clock, takeovers := 0#8, swaps := 0#8, releases := 0#8, claimFail := 0#8, tzCrc := 0#16
    missed := 0#16, badTimes := [], evt := 0#6, evten := 1#6 }

/-! ## Registers (R454) -/

/-- PAIR_CFG (R454). -/
def State.writePairCfg (s : State) (origin : Origin) (w : Word) : State × Reply :=
  s.imgWrite origin (.pair .cfg) w
    [refuseLow [(outside 5 (fld w 24 8) 50, 24), (outside 1 (fld w 14 10) 1000, 14), (outside 2 (fld w 7 7) 100, 7)]]
    (fun t => (t.modPair (fun p => { p with cfg := w &&& 0xFFFFFF8C#32 })).pairSync)

/-- A write of a PAIR register. -/
def State.pairWrite (s : State) (origin : Origin) (r : PairReg) (w : Word) : State × Reply :=
  match r with
  | .cfg => s.writePairCfg origin w
  | .cmd => s.pairCmd origin w
  | .evt =>
    let m := w &&& s.pair.evt.zeroExtend 32
    s.statusClear origin (.pair .evt) m (fun t => t.modPair (fun p => { p with evt := p.evt &&& ~~~ (w.truncate 6) }))
  | .evten => (s.modPair (fun p => { p with evten := w.truncate 6 }), .done)
  | .status | .peerCrc | .peerVer | .peerLen | .link | .mirseq | .epoch | .epochstat | .idle | .cnt | .tzerr | .tl => (s, .done)

/-- PAIR_STATUS. -/
def State.pairStatus (s : State) : Word :=
  let p := s.pair
  word (p.partnerRole.toNat * 268435456 + b2n s.swapDue * 134217728 + b2n (p.stale && !p.leads) * 67108864 + p.uq.toNat * 65536
    + b2n p.held.isSome * 4096 + b2n p.tlHb * 2048 + b2n p.tlQual * 1024 + b2n p.tzUp * 512 + b2n p.mayDrive * 256 + roleCode p.role)

/-- PAIR_EPOCHSTAT. -/
def State.epochStat (s : State) : Word :=
  let p := s.pair
  let age := if p.held.isSome then min 255 ((s.clock - p.heldAt) / 1000) else 0
  word (p.discarded.toNat * 65536 + age * 256 + (if p.role = .active then p.stepsPer.toNat else 0))

/-- A read of a PAIR register; PAIR_EPOCHSTAT.DISCARDED, PAIR_CNT and PAIR_TZERR clear. PAIR_TL is measured: a free value. -/
def State.pairRead (s : State) (r : PairReg) : ReadResult :=
  let p := s.pair
  match r with
  | .cfg => (p.cfg ||| word (b2n s.img.pairId * 2 + b2n s.img.paired), s)
  | .status => (s.pairStatus, s)
  | .cmd => (0#32, s)
  | .evt => (p.evt.zeroExtend 32, s)
  | .evten => (p.evten.zeroExtend 32, s)
  | .peerCrc => (p.peerCrc, s)
  | .peerVer => (p.peerVer, s)
  | .peerLen => (p.peerLen, s)
  | .link => (word (p.peerMax.toNat * 4096 + p.peerMin.toNat * 256 + p.rev), s)
  | .mirseq => (word (p.mirPeer.toNat * 65536 + p.mirOwn.toNat), s)
  | .epoch => (if p.leads then (p.lastSent.map (·.number)).getD 0#32 else (p.held.map (·.number)).getD 0#32, s)
  | .epochstat => (s.epochStat, s.modPair (fun p => { p with discarded := 0#16 }))
  | .idle => (satTo 32 (p.idleMinutes s.clock), s)
  | .cnt =>
    (word (p.takeovers.toNat * 16777216 + p.swaps.toNat * 65536 + p.releases.toNat * 256 + p.claimFail.toNat),
      s.modPair (fun p => { p with takeovers := 0#8, swaps := 0#8, releases := 0#8, claimFail := 0#8 }))
  | .tzerr => (word (p.tzCrc.toNat * 65536 + p.missed.toNat), s.modPair (fun p => { p with tzCrc := 0#16, missed := 0#16 }))
  | .tl => s.free

/-- PORTn_IRQ_CAUSE.PAIR (R454). -/
def State.pairIrq (s : State) : Bool := s.pair.evt &&& s.pair.evten ≠ 0#6

end Sys2Proof.Machine
end

