-- ==== Sys2Proof/Machine/Links.lean ====
section
/-! DEFINITION. The isolation links and the Ring domains: start, undervoltage and restart of a Ring, heartbeats, command, safe-path
and report frames (R13 to R19, R23 to R29, R52 to R58, R352). -/

namespace Sys2Proof.Machine

/-! ## Supply of a Ring (R52 to R55) -/

/-- VF is back above VF_UVLO on a Ring that stayed above Ring POR (R54): rails and reference start again, inputs and chains restart,
and the outputs hold their safe states. -/
def State.recoverRing (s : State) (x : RingId) : State :=
  let s1 := (s.modRing x (fun r => r.keepRails 0#3)).adcPower x
  let s2 := forEach (ringChs x) (fun n t => t.restartInput n) s1
  ((((s2.resetGuards x).restartChains x).ringReport x (ringSlot x 5) 0 false 0#32).refreshRing x 0).tellTaps x

/-- The Tightrope source of Ring A goes off with the Ring's logic, its VF or its configuration, and TL_QUAL with it (R57, R427); the host die
learns it where the link is up (R16). Whether the line is idle then is measured: a free value (log entry 6). -/
def State.sourceOff (s : State) (x : RingId) : State :=
  if x = .b then s
  else
    let s1 := if (s.ring .a).qual && (s.ring .a).fresh then s.free.2.sendUp .a (.qual false (bit s.free.1 0) s.tick) else s
    (s1.modRing .a (fun r => { r with qual := false })).modPair (fun p => { p with sourceOn := false })

/-- A Ring starts (R53): it is not configured, and uses a LINK_TIMEOUT of 1 ms (R103); its reference settles, failed slices return to service, and a Ring whose logic ran on through the dip reports
the end of what the start ends (R54, R277, R282). -/
def State.startRing (s : State) (x : RingId) (was : Bool) : State :=
  let a := s.adc x
  let failed := a.slices.any (·.failed)
  let lost := (List.finRange 4).any (fun p => !a.inService p)
  let s1 := whenDo was (fun t => t.ringReport x (ringSlot x 5) 0 false 0#32) s
  let s2 := whenDo (was && failed) (fun t => t.ringReport x (ringSlot x 12) 0 false 0#32) s1
  (((whenDo (was && lost) (fun t => t.ringReport x (ringSlot x 13) 0 false 0#32) s2).modRing x (fun r =>
    { r with configured := false, linkTimeout := 1000 })).sourceOff x).adcStart x

/-- VF rises above VF_UVLO rising (R53, R54): the start window runs, or a Ring that has offered its link recovers. -/
def execVfUvloRise (x : RingId) (s : State) : Host.Outcome State Fault Refusal :=
  let r := s.ring x
  ok <| whenDo (!r.vfOk)
    (fun s =>
      let s1 := s.modRing x (fun r => { r with logic := true, vfOk := true })
      if r.offered then s1.recoverRing x else s1.startRing x r.logic) s

/-- The start window ends, and the Ring offers its link (R52, R53). -/
def execRingStartDone (x : RingId) (s : State) : Host.Outcome State Fault Refusal :=
  let r := s.ring x
  ok <| whenDo (r.logic && r.vfOk && !r.offered) (fun s => s.modRing x (fun r => { r with offered := true })) s

/-- VF falls below VF_UVLO (R54): the outputs go off, inputs to high impedance, conversions and the tap supply stop, every latch
sets with cause UVLO, and VF_UVLO is reported, also where a start before the link was offered is abandoned (R53). The Tightrope source goes off
(R57). A Ring whose link is down passes the start window again (R55). -/
def execVfUvloFall (x : RingId) (s : State) : Host.Outcome State Fault Refusal :=
  let r := s.ring x
  ok <| whenDo (r.logic && r.vfOk)
    (fun s =>
      let s1 := (s.modRing x (fun r =>
        { r.keepRails 0#3 with vfOk := false, offered := r.offered && r.link && !r.ringLost })).setCauseRing x 32#16
      let s2 := forEach (ringChs x) (fun n t => t.restartInput n) s1
      (((s2.ringReport x (ringSlot x 5) 0 true 0#32).sourceOff x).refreshRing x 3).tellTaps x) s

/-- The runtime part of a modem is lost with the Ring's logic. -/
def Fsk.lose (k : Fsk) : Fsk :=
  { Fsk.reset with rt := k.rt, txQuiet := k.txQuiet, en := k.en, ch := k.ch, evt := k.evt, errors := k.errors, chars := k.chars }

/-- A channel whose Ring passes Ring POR judges nothing and holds no latch (R55). -/
def Chan.passPor (c : Chan) (clock : Nat) : Chan :=
  { (c.restartInput clock) with
    inp := { c.inp.restart clock with count := 0#32, countDirty := false, countSent := none, lastWet := none }
    live := 0#32, causes := 0#16, latch := false, releaseDue := none
    stage := { c.stage with shed := false, trips := [], keepLatch := false, inrushStart := none, blankStart := none, downCount := 0 }
    plg := { c.plg.restart clock with awayAt := none } }

/-- The link is lost at one end: the host die goes on showing the status words that it received last (R7). -/
def State.loseStatus (s : State) (x : RingId) : State := if (s.ring x).link && !(s.ring x).ringLost then s.freezeStatus x else s

/-- VF falls below Ring POR (R52, R55): the Ring's logic stops, with every report, latch and judgement it held. -/
def execRingPor (x : RingId) (s : State) : Host.Outcome State Fault Refusal :=
  ok <| whenDo (s.ring x).logic
    (fun s0 =>
      let s := (s0.loseStatus x).sourceOff x
      let s1 := s.modRing x (fun r =>
        { r with
          logic := false, linkTimeout := 1000, vfOk := false, offered := false, configured := false, taken := false, passedPor := true, ringLost := true
          restarted := true, reports := [], dropped := 0, upq := [], cmdq := r.cmdq.filter (fun c => match c.1 with
            | .count _ _ | .swcnt _ _ => true
            | _ => false)
          shedStack := [], cleanTicks := 0, rails := 0#3, railHold := [], t3 := false, vfLow := false, overload := false
          tapOverload := false, tempWarn := false, thermal := false, staged := false, beat := none, ringBeat := false
          realigned := false, fsk := r.fsk.lose })
      let s2 := forEach (ringChs x) (fun n t => t.modChan n (fun c => c.passPor s.clock)) s1
      let s3 : State := { s2 with pwr := { s2.pwr with wakeB := s2.pwr.wakeB && decide (x = .a) } }
      (s3.modAdc x (fun a => { a with
        settled := false, settleAt := none, refFault := false, intRefFault := false, refOffAt := none, refInAt := none })).refreshRing x 0) s

/-! ## Restart and configuration (R47 step 5, R53, R55, R472) -/

/-- A Ring restarts (R55): every channel OFF until its configuration is confirmed, processing from the beginning, and LINK_TIMEOUT
at 1 ms until then (R103). Its conditions, its held reports and its shed channels stay; SAFE_PATH_CHECK ends here (R341), and the
Tightrope source (R57). -/
def State.ringRestart (s : State) (x : RingId) : State :=
  let s1 := s.modRing x (fun r =>
    { r.keepRails 0#3 with configured := false, taken := false, restarted := r.restarted || !(x = .b && s.pwr.wakeB)
                           linkTimeout := 1000, staged := false, fsk := r.fsk.abort s.clock })
  let s2 := forEach (ringChs x) (fun n t => t.restartInput n) s1
  (((s2.clearLive (ringSlot x 19)).sourceOff x).refreshRing x 0).tellTaps x

/-- A Ring takes its configuration from the host die's registers (R47 step 5, R53), with the power mode and the role of its unit; a channel
that takes DI_COUNT with it counts from 0 (R176), and a pair that gangs shares its causes (R345). -/
def State.ringTake (s : State) (x : RingId) : State :=
  let s1 := s.modRing x (fun r =>
    { r.keepRails (BitVec.ofNat 3 (fld r.pwrcfg 0 3)) with
      rPwrcfg := r.pwrcfg, rLoadcfg := r.loadcfg, stepN := s.fab.stepN, taken := true, redo := false
      rmode := s.modeToRings, rhold := s.ringHold x, rstop := s.inputHold, rrole := s.pair.work, discardAt := s.clock
      fsk := r.fsk.take r.fskcfg r.fskch })
  let s2 := forEach (ringChs x)
    (fun n t => t.modChan n (fun c =>
      let c' := { c with rng := c.cfg, rcmd := c.cmd, rsafe := s.flt.safe[n.1], holdPad := none, tripKept := false, an := { c.an with rcal := c.an.copy } }
      if c.rng.func = c.cfg.func then c' else c'.startCount)) s1
  (forEach (ringChs x) (fun n t => t.joinGang n) s2).tellTaps x

/-- The causes held in FLT_CHSAFEn go back to Ring B with its configuration at a wake (R472). -/
def State.restoreCauses (s : State) : State :=
  forEach (ringChs .b)
    (fun n t => if s.flt.mirror[n.1] = 0#16 then t else t.latchSet n s.flt.mirror[n.1]) s

/-- The Ring confirms its configuration, behind the reports and messages that it held (R17, R53, R55, R352): CONFIGURED, its outputs at their safe states where
it restarted, its round and chains anew, and LINK_TIMEOUT and RING_RESTART end. A confirmation that fails its CRC is discarded, and comes
again (R18). -/
def execRingConfigConfirm (x : RingId) (good : Bool) (s : State) : Host.Outcome State Fault Refusal :=
  let r := s.ring x
  ok <| whenDo (r.logic && r.vfOk && r.upClear && r.taken)
    (fun s => if !good then s.linkDiscard x else
      let s1 := s.modRing x (fun r =>
        { r with configured := true, hostConf := true, taken := false, restarted := false
                 linkTimeout := (s.img.running.map (fun i => i.linkTimeout (rix x).1)).getD r.linkTimeout })
      let s2 := if r.restarted then s1.setCauseRing x 128#16 else s1
      let s3 : State :=
        if x = .b && s.pwr.wakeB then { s2.restoreCauses with pwr := { s.pwr with wakeB := false, holdB := true } } else s2
      let s4 := forEach (ringChs x)
        (fun n t => (t.restartInput n).modChan n (fun c => if r.restarted then c.startBlank s.clock else c)) (s3.adcConfigure x)
      ((((s4.resetGuards x).clearLive (ringSlot x 1)).clearLive (ringSlot x 4)).listenFromConfig x).refreshRing x 0) s

/-! ## The link comes up and goes down (R19, R47, R55, R352) -/

/-- The slots whose members a report of the Ring raises (R339, R341): its channels' slots, and its own sources. -/
def ringReported (x : RingId) : List (Fin 256) :=
  (List.finRange 256).filter (fun k =>
    match slotChannel k with
    | some n => ringOf n = x
    | none => slotRing k = some x && [1, 5, 6, 7, 8, 9, 10, 12, 13, 14, 15, 19].contains ((k.1 - 128) % 20))

/-- The collector clears what a Ring that passed Ring POR had raised (R55), and its inputs have no accepted state; SAFE_REQ is the fabric's. -/
def State.clearReported (s : State) (x : RingId) : State :=
  forEach (ringChs x) (fun n t => t.modChan n (fun c => { c with hostState := c.hostState && isAi c.func, hostPlug := 0#3 }))
    (forEach (ringReported x)
      (fun k t => forEach ((List.range 32).filter (fun m => m ≠ 31)) (fun m t => t.clearCause k m false) t) s)

/-- Reports that the Ring dropped raise LINK_ERRS with their number (R352). -/
def State.reportDropped (s : State) (x : RingId) : State :=
  let n := (s.ring x).dropped
  if n = 0 then s else (s.modRing x (fun r => { r with dropped := 0 })).lostReports x n

/-- Frames of a Ring whose link returns: the count writes that waited, behind reset and configuration. -/
def bringUpFrames (configure : Bool) (q : List (RingCmd × Nat)) : List (RingCmd × Nat) :=
  (RingCmd.reset, 0) :: (if configure then [(RingCmd.configure, 0)] else []) ++ q.filter (fun c => match c.1 with
    | .count _ _ | .swcnt _ _ => true
    | _ => false)

/-- Link bring-up completes (R47 step 5, R52, R55): the reset command and the configuration go out, whichever end had lost the link;
RING_POR and RING_RESTART are set, and the sources of a Ring that passed Ring POR clear. A write of CHn_MODE that waited goes with the
configuration (log entry 44). -/
def execLinkUp (x : RingId) (s : State) : Host.Outcome State Fault Refusal :=
  let r := s.ring x
  ok <| whenDo (s.phase = .run && r.logic && r.vfOk && r.offered && !r.link
      && (s.pwr.mode ≠ .cellar || s.pwr.waking))
    (fun s =>
      let wake : Bool := decide (x = .b) && s.pwr.wakeB
      let s1 := s.modRing x (fun r =>
        { r with link := true, everUp := true, ringLost := false, hostVf := true, hostConf := false, lastHostBeat := s.clock, lastRingBeat := s.clock, passedPor := false
                 porSticky := r.porSticky || !wake, cmdq := bringUpFrames s.img.running.isSome r.cmdq })
      let s2 := if r.passedPor then s1.clearReported x else s1
      let s3 := (if wake then s2 else s2.raiseLive (ringSlot x 4)).clearLive (ringSlot x 0)
      let s4 := s3.reportDropped x
      let s5 := if s.img.running.isSome then forEach (ringChs x) (fun n t => t.modChan n Chan.configHost) s4 else s4
      ((if wake then s5 else s5.tellLatches x).tellPlugs x).tellTaps x) s

/-- The Ring's held reports are LATE from now on (R352). -/
def Ring.lateReports (r : Ring) : Ring := { r with reports := r.reports.map (fun e => { e with late := true }) }

/-- 100 µs without a valid Ring heartbeat: the host die declares the link lost (R19). A release no longer waits for that Ring (R348),
nor does an activation (R124); with Ring A's link, TL_QUAL is no longer reported, and reads 0 (R428; DESIGN CHOICE, log entry 126). Whether the
line of a source that is off is idle then is measured: a free value (R435; log entry 6). -/
def execLinkLost (x : RingId) (s : State) : Host.Outcome State Fault Refusal :=
  let r := s.ring x
  ok <| whenDo (s.phase = .run && r.link && s.pwr.mode ≠ .cellar && decide (r.lastRingBeat + 100 ≤ s.clock))
    (fun s =>
      let s1 := (s.loseStatus x).modRing x (fun r =>
        { r.lateReports with link := false, hostConf := false, realigned := false, linkDrops := satInc r.linkDrops, downAt := s.clock, staged := false
                             offered := r.offered && r.vfOk })
      let s2 := (s1.raiseLive (ringSlot x 0)).abandonReleases x
      let s3 := s2.modImg (fun i => { i with await := i.await.filter (· ≠ x) })
      if x = .a && s3.roleOn then (if s3.pair.sourceOn then s3 else s3.free.2).hearQual false (s3.pair.sourceOn || bit s3.free.1 0) else s3) s

/-- No valid host heartbeat for LINK_TIMEOUT: every latch of the Ring sets with cause LINK, and the Ring holds its report (R19, R28,
R352). -/
def execLinkTimeout (x : RingId) (s : State) : Host.Outcome State Fault Refusal :=
  let r := s.ring x
  ok <| whenDo (r.logic && !r.ringLost && r.rmode ≠ .cellar && decide (r.lastHostBeat + r.linkTimeout ≤ s.clock))
    (fun s =>
      let s1 := ((s.loseStatus x).setCauseRing x 64#16).modRing x (fun r =>
        { r.lateReports with ringLost := true, beat := none, offered := r.offered && r.vfOk })
      s1.ringReport x (ringSlot x 1) 0 true 0#32) s

/-- 100 ms after its loss the link is still down: the Ring's follower is in holdover, and its time stamps are estimated (R25, R58). -/
def execHoldover (x : RingId) (s : State) : Host.Outcome State Fault Refusal :=
  let r := s.ring x
  ok <| whenDo (s.phase = .run && r.everUp && !r.link && !r.holdover && s.pwr.mode ≠ .cellar && decide (r.downAt + 100000 ≤ s.clock))
    (fun s => (s.modRing x (fun r => { r with holdover := true, estTurns := r.estTurns ++ (if r.estAt s.tick then [] else [s.tick]) })).raiseLive (ringSlot x 17)) s

/-! ## Heartbeats (R16, R19, R23 to R25, R429) -/

/-- The period of the heartbeats in each direction, in µs (R26). -/
def beatUs : Nat := 25

/-- 25 µs after the last one the host die sends each Ring its heartbeat, with the tick mark, the drive gate and Ring A's toggle (R16, R23, R26,
R427, R429). -/
def execHostHeartbeatSend (s : State) : Host.Outcome State Fault Refusal :=
  ok <| whenDo (s.phase = .run && s.pwr.mode ≠ .cellar && decide (s.time.beatAt ≤ s.clock))
    (fun s => forEach [RingId.a, RingId.b] (fun x t => t.sendBeat x)
      { s with time := { s.time with beatAt := s.clock + beatUs } }) s

/-- A Ring receives a host heartbeat, behind the safe-path frames (R17): LINK_TIMEOUT starts again, the follower aligns, and the
drive gate and the Tightrope source follow (R23 to R25, R427, R428); its time stamps are no longer estimated. One that fails its CRC is discarded and counted (R18), and a Ring that has declared its link
lost heeds none (R19). -/
def execHostHeartbeatReceive (x : RingId) (good : Bool) (s : State) : Host.Outcome State Fault Refusal :=
  let r := s.ring x
  match r.beat with
  | none => ok s
  | some b =>
    ok <| whenDo (r.logic && r.safeq = [])
      (fun s =>
        let s1 := s.modRing x (fun r => { r with beat := none })
        if r.ringLost then s1
        else if good then
          ((s1.modRing x (fun r =>
            { r with lastHostBeat := s.clock, realigned := true
                     estTurns := if r.estAt s.tick then r.estTurns ++ [s.tick] else r.estTurns })).takeGate x b.gate).takeToggle x b.toggle
        else s1.ringDiscard x) s

/-- 25 µs after the last one a Ring with a link sends its heartbeat (R16, R26). -/
def execRingHeartbeatSend (x : RingId) (s : State) : Host.Outcome State Fault Refusal :=
  let r := s.ring x
  ok <| whenDo (r.logic && r.offered && !r.ringLost && decide (r.beatAt ≤ s.clock))
    (fun s => s.modRing x (fun r => { r with ringBeat := true, beatAt := s.clock + beatUs })) s

/-- The host die receives a Ring heartbeat (R19): its count of 100 µs starts again, and a follower that is realigned, with its link
restored, ends HOLDOVER (R58). One that fails its CRC is discarded and counted (R18). -/
def execRingHeartbeatReceive (x : RingId) (good : Bool) (s : State) : Host.Outcome State Fault Refusal :=
  let r := s.ring x
  ok <| whenDo (s.phase = .run && r.ringBeat)
    (fun s =>
      if !good then (s.modRing x (fun r => { r with ringBeat := false })).linkDiscard x
      else
        let s1 := s.modRing x (fun r => { r with ringBeat := false, lastRingBeat := s.clock })
        let s2 :=
          if r.link && r.realigned && r.holdover then (s1.modRing x (fun r => { r with holdover := false })).clearLive (ringSlot x 17)
          else s1
        if r.link then s2.reportDropped x else s2) s

/-! ## Frames to a Ring (R17, R18) -/

/-- A Ring takes the power mode and the hold of its safe states (R400, R468, R469, R472): a transmitting modem aborts, the tap supply
stops in CELLAR mode, the inputs stop where the frame says so, and the channels restart where they were OFF or the frame says so. Rotation
goes on with its next event (R279). -/
def State.takePower (s : State) (x : RingId) (m : PowerMode) (hold stop restart : Bool) : State :=
  let back : Bool := decide ((s.ring x).rmode = .cellar) && decide (m ≠ .cellar)
  let s1 := s.modRing x (fun r => { (if m = .cellar then r.keepRails 0#3 else r) with rmode := m, rhold := hold, rstop := stop })
  let s2 := if m = .run then s1.modAdc x (fun a => a.nextEvent s.tick) else s1.abortFsk x
  let begins : Bool := stop && !(s.ring x).rstop
  let s3 := forEach ((ringChs x).filter (fun n => restart || begins || (back && !s.wakeChan n))) (fun n t => t.restartInput n) s2
  ((if restart || back then s3.resetGuards x else s3).refreshRing x 0).tellTaps x

/-- A `.drive` frame for the channel is on its way. -/
def Ring.driveComes (r : Ring) (n : Fin 16) : Bool :=
  r.cmdq.any (fun c => match c.1 with
    | .drive k _ _ => k = n
    | _ => false)

/-- The committed destinations reach a channel's Ring: the channel follows them, and a latch whose release waited for them releases (R147,
R349). -/
def State.takeDrive (s : State) (n : Fin 16) (drive alt : Option Bool) : State :=
  let t := s.applyCommand n (fun ch => { ch with rcmd := { ch.rcmd with drive := drive, alt := alt } })
  let due : Bool := match (t.chan n).releaseDue with
    | some k => decide (k < t.fab.stepNo)
    | none => false
  if due && !(t.ring (ringOf n)).driveComes n then t.unlatch n 4 else t

/-- What a command or configuration frame does on its Ring (R18). A count that is written is dated by its arrival and delivered like one that was
counted (R176; DESIGN CHOICE, log entry 122); the commands of a takeover are followed by a heartbeat with GATE (R437). -/
def State.ringAct (s : State) (x : RingId) (f : RingCmd) : State :=
  match f with
  | .reset => s.ringRestart x
  | .configure => s.ringTake x
  | .chanCfg n c => ((s.applyCfg n c).freeNamed n (s.chan n).rng.guard).applyGuards x
  | .setpoint n c => s.applyCommand n (fun ch => { ch with rcmd := { c with drive := ch.rcmd.drive, alt := ch.rcmd.alt } })
  | .drive n d a => s.takeDrive n d a
  | .count n v => s.modChan n (fun c => { c with inp := { c.inp with count := v, countTick := s.tick, countDirty := true } })
  | .swcnt n v => s.modChan n (fun c => { c with stage := { c.stage with swcnt := v } })
  | .safeCode n code => (s.modChan n (fun c => { c with rsafe := code })).refreshStage n 3
  | .release causes port => s.actRelease x causes port
  | .ringCfg pwr load =>
    (s.modRing x (fun r => { r.keepRails (BitVec.ofNat 3 (fld pwr 0 3)) with rPwrcfg := pwr, rLoadcfg := load })).tellTaps x
  | .stepGrid n => s.modRing x (fun r => { r with stepN := n })
  | .stageImage => s.modRing x (fun r => { r with staged := true })
  | .mode n w change => s.ringMode n w change
  | .cal n c => (s.modChan n (fun ch => { ch with an := { ch.an with rcal := c } })).refreshTarget n
  | .power m hold stop restart => s.takePower x m hold stop restart
  | .adcEntry i w => s.modAdc x (fun a => { a with entCome := a.entCome ++ [(i, w)] })
  | .adcRef w => s.modAdc x (fun a => { a with refCome := some w })
  | .adcRot p t => s.takeRotation x p t
  | .reseed n => s.takeReseed n
  | .fskCfg w ch => s.takeFskCfg x w ch
  | .fskTx last d => s.fskQueue x last d
  | .role w swap present => s.takeRole x w swap present
  | .source on =>
    s.modPair (fun p => { p with sourceOn := on && (s.ring .a).configured && (s.ring .a).vfOk, toggleAt := if on && !p.sourceOn then s.clock else p.toggleAt })
  | .gate => s.sendBeat x

/-- The frame at the head of the queue reaches its Ring, which acts on it and acknowledges it. -/
def State.ringReceive (s : State) (x : RingId) : State :=
  match (s.ring x).cmdq with
  | [] => s
  | (f, _) :: rest => (s.modRing x (fun r => { r with cmdq := rest })).ringAct x f

/-- The reset command reaches its Ring, which restarts (R47 step 5, R55). -/
def execRingResetCommand (x : RingId) (s : State) : Host.Outcome State Fault Refusal :=
  let r := s.ring x
  ok <| whenDo (r.downOpen && (match r.cmdq with
    | (.reset, _) :: _ => true
    | _ => false)) (fun s => s.ringReceive x) s

/-- A command or configuration frame reaches its Ring, behind the safe-path frames and a heartbeat (R17, R18). -/
def execLinkCommandFrame (x : RingId) (good : Bool) (s : State) : Host.Outcome State Fault Refusal :=
  let r := s.ring x
  ok <| whenDo (r.downOpen && r.cmdq ≠ []) (fun s => if good then s.ringReceive x else s.ringDiscard x) s

/-- A command without acknowledgement goes out again; the failure of the eighth attempt is LINK_CMD_FAIL (R18). -/
def execLinkCmdRetry (x : RingId) (s : State) : Host.Outcome State Fault Refusal :=
  let r := s.ring x
  ok <| match r.cmdq with
    | [] => s
    | (f, k) :: rest =>
      whenDo r.link
        (fun s =>
          if 7 ≤ k then (s.modRing x (fun r => { r with cmdq := rest })).raise ⟨ringSlot x 2, 0, false, 0#32, false⟩
          else s.modRing x (fun r => { r with cmdq := (f, k + 1) :: rest })) s

/-- The host die does not work: it sends nothing, and what it sent before it stopped is under way (R50, R51). -/
def State.hostSilent (s : State) : Bool := s.phase = .off || s.phase = .tmode || s.phase = .starting || s.phase = .resetHeld

/-- A safe-path frame reaches its Ring and sets REACTION on the channels it names; a corrupted one is sent again at once, unless the
host die can no longer send (R17, R28, R51, R337). -/
def execSafePathFrame (x : RingId) (good : Bool) (s : State) : Host.Outcome State Fault Refusal :=
  let r := s.ring x
  ok <| match r.safeq with
    | [] => s
    | mask :: rest =>
      whenDo (r.logic && (r.link || s.hostSilent))
        (fun s =>
          if good then
            forEach ((ringChs x).filter (fun n => mask.getLsbD n.1)) (fun n t => t.setCause n 1#16)
              (s.modRing x (fun r => { r with safeq := rest }))
          else if s.hostSilent then s.modRing x (fun r => { r with safeq := rest, ringRx := satInc r.ringRx })
          else s.ringDiscard x) s

/-! ## Frames from a Ring (R18, R29, R352) -/

/-- The collector takes a report (R337, R352, R357), with the Ring-side tick of its detection (R24, R321); a raising that is LATE
shows that tick in place of a detail (R358), and a source that is live is not raised again (R336, R341). VF_UVLO also sets RINGx_DOMAIN.UVLO, and VF_OK follows it (R58). -/
def State.takeReport (s : State) (x : RingId) (e : Report) : State :=
  let t :=
    if e.raise then
      let s1 := if e.slot = ringSlot x 5 then s.modRing x (fun r => { r with uvloSticky := true, hostVf := false }) else s
      if !instantSource e.slot.1 e.member.toNat && (s.slot e.slot).real.getLsbD (e.member.toNat % 32) then s1
      else s1.raiseAt ⟨e.slot, e.member.toNat, false, if e.late then word e.tick else e.detail, e.late⟩ e.tick
    else
      let s1 := if e.slot = ringSlot x 5 then s.modRing x (fun r => { r with hostVf := true }) else s
      s1.clearCauseAt e.slot e.member.toNat false e.tick e.late
  match slotChannel e.slot with
  | some n => t.noteAi n
  | none => t

/-- The clock at which the oldest message under way arose; the reports are older where there is none. -/
def State.upBefore (s : State) (x : RingId) (clock : Nat) : Bool :=
  match (s.ring x).upq with
  | [] => false
  | m :: _ => decide (m.tick + s.time.startClock < clock)

/-- A report of a channel follows a COUNT entry that it is no older than (R319). -/
def State.reportWaits (s : State) (e : Report) : Bool :=
  match slotChannel e.slot with
  | some n => (s.chan n).countFirst e.tick
  | none => false

/-- A report of a Ring reaches the host die, which acknowledges it (R18, R352), in the order in which reports and messages arose
(R17). -/
def execRingFaultReport (x : RingId) (good : Bool) (s : State) : Host.Outcome State Fault Refusal :=
  let r := s.ring x
  ok <| match r.reports with
    | [] => s
    | e :: rest =>
      whenDo (s.phase = .run && r.upOpen && !s.upBefore x e.clock && !s.reportWaits e)
        (fun s => if good then (s.modRing x (fun r => { r with reports := rest })).takeReport x e else s.linkDiscard x) s

/-- An accepted change reaches the host die (R29, R133, R166, R210): STATE, RISE or FALL unless it is the first acceptance, and its
EDGE entries with the Ring's time stamp. TOUCHED of a standby reads 0 (R265). -/
def State.takeChange (s : State) (n : Fin 16) (state initial : Bool) (tick : Nat) (value : Word) : State :=
  (s.modChan n (fun c =>
    { c with hostState := state && !(s.pair.standby && c.func = 13)
             hostRise := c.hostRise || (state && !initial), hostFall := c.hostFall || (!state && !initial) })).toWheels
    n 2 0 tick value

/-- The state of a presence loop reaches the host die (R29, R258), with RISE and FALL of its STATE (R134); a standby's guards read UNKNOWN
(R265). -/
def State.takePlug (s : State) (n : Fin 16) (state : BitVec 3) : State :=
  let seen : BitVec 3 := if s.pair.standby then 0#3 else state
  s.modChan n (fun c =>
    { c with hostPlug := seen, hostRise := c.hostRise || (seen = 1#3 && c.hostPlug ≠ 1#3)
             hostFall := c.hostFall || (seen ≠ 1#3 && c.hostPlug = 1#3) })

/-- The latches of a Ring arrive (R29, R347, R364); REACTION that an AUTO source waits to release is released once the mirror shows it (R350). -/
def State.takeLatches (s : State) (x : RingId) (causes : List (BitVec 16)) (set : List Bool) : State :=
  let s1 := s.setMirror x causes set
  forEach ((ringChs x).filter (fun n => s1.flt.autos.getLsbD n.1 && (s1.flt.mirror[n.1]).getLsbD 0))
    (fun n t => (t.modFlt (fun f => { f with autos := f.autos &&& ~~~ (1#16 <<< n.1) })).autoReleaseOn n) s1

/-- A message that is a result of the Ring, which is not sent again (R18). -/
def UpMsg.once : UpMsg → Bool
  | .scan _ _ _ => true
  | _ => false

/-- A message of a Ring is taken (R29). -/
def State.takeMessage (s : State) (x : RingId) (m : UpMsg) : State :=
  match m with
  | .change n st i t w => s.takeChange n st i t w
  | .latches cs set _ => s.takeLatches x cs set
  | .plug n st _ => s.takePlug n st
  | .fsk w t => s.takeFsk x w t
  | .restarted n _ => (s.modChan n (fun c => { c with hostState := c.hostState && isAi c.func })).noteAi n
  | .taps b _ => s.modRing x (fun r => { r with hostTaps := b })
  | .scan n v t => s.toWheels n 1 0 t v
  | .qual up idle _ => if s.roleOn then s.hearQual up idle else s

/-- A message that makes an entry of a DI_COUNT channel follows a COUNT entry that it is no older than (R319). -/
def State.messageWaits (s : State) (m : UpMsg) : Bool :=
  match m with
  | .change n _ _ t _ => (s.chan n).countFirst t
  | _ => false

/-- The oldest message under way arrives, in the order in which messages and reports arose (R17, R29); one that fails its CRC comes again, but for a
result (R18). -/
def execAcceptedChangeArrival (x : RingId) (good : Bool) (s : State) : Host.Outcome State Fault Refusal :=
  let r := s.ring x
  ok <| match r.upq with
    | [] => s
    | m :: rest =>
      whenDo (s.phase = .run && r.upOpen && (s.pwr.mode ≠ .cellar || s.pwr.waking)
          && !r.reports.head?.any (fun e => decide (e.clock < m.tick + s.time.startClock)) && !s.messageWaits m)
        (fun s =>
          if good then (s.modRing x (fun r => { r with upq := rest })).takeMessage x m
          else (if m.once then s.modRing x (fun r => { r with upq := rest }) else s).linkDiscard x) s

end Sys2Proof.Machine
end

