-- ==== Sys2Proof/Machine/Background.lean ====
section
/-! DEFINITION. The Carousel: scrub, refresh, wear, timebase trim, channel trims and telemetry, the SYNC pin, and the BG and TLM
registers (18_background_power.md, R455 to R465, R474, R475). -/

namespace Sys2Proof.Machine

def State.modBg (s : State) (f : Bg → Bg) : State := { s with bg := f s.bg }

/-- Fields of BG_CFG and BG_SYNCCFG (R475). -/
def Bg.scrubMin (b : Bg) : Nat := fld b.cfg 0 6
def Bg.refreshH (b : Bg) : Nat := fld b.cfg 6 5
def Bg.hotRefreshH (b : Bg) : Nat := fld b.cfg 11 5
def Bg.chTrimEn (b : Bg) : Bool := bit b.cfg 16
def Bg.syncMode (b : Bg) : Nat := fld b.synccfg 24 2
def Bg.syncPeriod (b : Bg) : Nat := fld b.synccfg 0 24

/-- The host die works: it runs, and CELLAR mode does not retain it (R469, R470). -/
def State.hostRuns (s : State) : Bool := s.phase = .run && (!s.pwr.retention || s.pwr.internal || s.pwr.waking)

/-! ## Scrub (R460) -/

/-- Units of 64 bytes: configuration SRAM first, then wheel memory (R460). -/
def scrubConfigUnits : Nat := 1024
def scrubUnits : Nat := 5120

/-- The scrub goes on to the next unit; after the last one the pass ends (R455, R460). -/
def State.scrubNext (s : State) : State :=
  if s.bg.scrubPos + 1 < scrubUnits then s.modBg (fun b => { b with scrubPos := b.scrubPos + 1 })
  else (s.modBg (fun b => { b with scrubPos := 0, scrubFrom := s.clock, scrubPasses := b.scrubPasses + 1#16, scrubDue := false })).caughtUp 0

/-- What a unit's errors do (R460). -/
def State.scrubFind (s : State) (o : ScrubObs) : State :=
  match o with
  | .clean => s
  | .corrected => (s.modBg (fun b => { b with corrected := satInc b.corrected })).detect 5
  | .uncorrectable =>
    let s1 := s.modBg (fun b => { b with uncorr := satInc b.uncorr })
    if s.bg.scrubPos < scrubConfigUnits then s1.detect 6 else s1

/-- One unit is read, corrected and written back (R460). -/
def execScrubUnit (o : ScrubObs) (s : State) : Host.Outcome State Fault Refusal :=
  ok <| whenDo s.hostRuns (fun s => (s.scrubFind o).scrubNext) s

/-! ## Refresh (R461) -/

/-- CU3 holds the Carousel's context (R417). -/
def State.carousel (s : State) (on : Bool) : State := s.modChk 3 (fun c => { c with carousel := on })

/-- A slot whose bytes no longer match its header's CRC (R461): its BG_REFRESH bit, CELLAR_UNCORRECTABLE, and INVALID unless it is
the active slot. -/
def State.refreshFails (s : State) (n : Bool) : State :=
  let s1 := (s.modBg (fun b => { b with slotFail := b.slotFail ||| (if n then 2#2 else 1#2) })).detect 10
  if (s.imgSlot n).st = .active then s1 else s1.setSlot n .invalid

/-- A slot's CRC matches its header (R97, R461). -/
def State.slotCrcGood (s : State) (n : Bool) : Bool :=
  let b := s.slotBytes n
  decide (64 ≤ u32 b 12) && decide (u32 b 12 ≤ 131072) && imageCrc b (u32 b 12) = s.headerCrc n

/-- Neither the loader nor a master uses CU3 (R417). -/
def State.cu3Free (s : State) : Bool := !s.img.borrowed && (s.chks[3]).st = .idle

/-! ## Wear (R458, R459) -/

/-- A physical sector is erased once more and joins the pool, unless that was its 100 000th erase (R458). -/
def Wear.free (w : Wear) (erases : Nat) : Wear :=
  if erases + 1 < 100000 then { w with pool := w.pool ++ [erases + 1] } else { w with retired := satInc w.retired }

/-- A logical sector is relocated to a pool sector (R458): its bytes stay, the map changes, and the old sector joins the pool. A
sector on which a program or an erase fails is retired. The spec names no order among the pool's sectors; the model takes the one that
has waited longest (log entry 23). -/
def Wear.relocate (w : Wear) (l : Fin 216) (o : RelocObs) : Wear :=
  match w.pool with
  | [] => w
  | p :: rest =>
    let moved := { w with pool := rest, mapped := w.mapped.set l.1 p }
    match o with
    | .done => moved.free w.mapped[l.1]
    | .programFails => { w with pool := rest, retired := satInc w.retired }
    | .eraseFails => { moved with retired := satInc w.retired }

/-- A relocation changes the map, in the calibration region, and no byte of the sector (R458). -/
def State.relocateSector (s : State) (l : Fin 216) (o : RelocObs) : State :=
  ((s.setWear (s.bg.wear.relocate l o)).calibChanged).caughtUp 6

def execSectorRelocation (l : Fin 216) (o : RelocObs) (s : State) : Host.Outcome State Fault Refusal :=
  ok <| whenDo s.hostRuns (fun s => s.relocateSector l o) s

/-- The least-erased mapped sector. -/
def Wear.least (w : Wear) : Fin 216 :=
  (List.finRange 216).foldl (fun m l => if w.mapped[l.1] < w.mapped[m.1] then l else m) 0

/-- A mapped sector of the calibration region or the replay store with 5 000 erases more than the least-erased one changes place with it by
relocation (R457 to R459): the bytes of the least-erased one go to a pool sector, those of the worn one to the place that this frees, and the
first to the worn one, whose pool sector returns. Where the worn one has its last erase with it, it is retired, and the pool sector stays
mapped. -/
def Wear.exchange (w : Wear) (l : Fin 216) : Wear :=
  let m := w.least
  let worn := w.mapped[l.1] + 1
  let moved := w.mapped.set l.1 (w.mapped[m.1] + 1)
  match w.pool with
  | [] => w
  | p :: rest =>
    if ¬ (128 ≤ l.1 ∧ w.mapped[m.1] + 5000 ≤ w.mapped[l.1]) then w
    else if worn < 100000 then ({ w with pool := rest, mapped := moved.set m.1 worn } : Wear).free p
    else { w with pool := rest, mapped := moved.set m.1 p, retired := satInc w.retired }

def execWearExchange (l : Fin 216) (s : State) : Host.Outcome State Fault Refusal :=
  ok <| whenDo s.hostRuns (fun s => ((s.setWear (s.bg.wear.exchange l)).calibChanged).caughtUp 6) s

/-! ## The refresh pass (R461) -/

/-- Pages of the first five regions: 16 in each sector (R457, R458). -/
def refreshPages : Nat := 3456

/-- The pass reads its next page; the sector of a weak one is relocated (R458, R461). -/
def State.refreshPage (s : State) (weak : Bool) : State :=
  let p := s.bg.refreshPos
  if refreshPages ≤ p then s
  else
    let s1 := s.modBg (fun b => { b with refreshPos := p + 1, relocated := if weak then satInc b.relocated else b.relocated })
    if weak then s1.relocateSector (toIdx 216 (p / 16)) .done else s1

/-- The pass has nothing to compare in a slot: it is empty, or a session still writes it (R461; DEDUCED: its header is not complete then, log
entry 142). -/
def State.noSlotCrc (s : State) (n : Bool) : Bool := (s.imgSlot n).st = .empty || (s.imgSlot n).st = .receiving

/-- The CRC of a slot has been compared in this pass (R461). -/
def State.slotCompared (s : State) (n : Bool) : State :=
  let s1 := s.modBg (fun b => { b with refreshCrc := b.refreshCrc ||| (if n then 2#2 else 1#2) })
  if s.noSlotCrc n || s.slotCrcGood n then s1 else s1.refreshFails n

/-- Every page is read, and the CRC of every slot that holds an image compared (R461). -/
def State.refreshDone (s : State) : Bool :=
  decide (refreshPages ≤ s.bg.refreshPos) && [false, true].all (fun n => s.noSlotCrc n || s.bg.refreshCrc.getLsbD (b2n n))

/-- The pass ends, and the next one begins (R455, R461). -/
def State.endRefresh (s : State) : State :=
  (s.modBg (fun b =>
    { b with refreshFrom := s.opt, refreshPasses := b.refreshPasses + 1#16, refreshPos := 0, refreshCrc := 0#2 })).caughtUp 1

/-- A unit of the refresh pass (R461): a page is read, a slot's CRC is computed on CU3 and compared, and the pass
ends. While the loader borrows CU3, or a master's job runs on it, the Carousel's task on it yields (R110, R417). -/
def execRefreshUnit (o : RefreshObs) (s : State) : Host.Outcome State Fault Refusal :=
  ok <| whenDo s.hostRuns
    (fun s => match o with
      | .page weak => s.refreshPage weak
      | .crcStart n => if s.noSlotCrc n || !s.cu3Free then s else s.carousel true
      | .crcEnd n => if !s.cu3Free || !(s.chks[3]).carousel then s else (s.carousel false).slotCompared n
      | .passEnd => whenDo s.refreshDone State.endRefresh s) s

/-! ## Timebase trim and SYNC (R462, R463) -/

/-- A valid SYNC edge has arrived within the last three periods (R463). -/
def State.syncSource (s : State) : Bool :=
  s.bg.syncMode = 1 && (match s.bg.edgeAt with
    | some t => decide (s.clock < t + 3 * s.bg.syncPeriod)
    | none => false)

/-- An accepted mark has arrived within the last 600 s (R463). -/
def State.markSource (s : State) : Bool :=
  match s.time.refMark with
  | some m => decide (s.clock < m.2.2 + 600000000)
  | none => false

/-- LOCKED falls, which raises TIMEBASE_UNLOCKED while SOURCE is not 0 (R463, slot 183). -/
def State.unlock (s : State) : State :=
  let s1 := ({ s with time := { s.time with locked := false } }).modBg (fun b => { b with goodRefs := 0 })
  if s.time.locked && s.time.source ≠ 0#2 then s1.raiseLive (hostSlot 15) else s1

/-- LOCKED becomes 1. -/
def State.lock (s : State) : State := ({ s with time := { s.time with locked := true } }).clearLive (hostSlot 15)

/-- The timebase trim in ppb: it slews towards its aim at no more than 10 ppm per second, 1 ppb in 100 µs (R23, R463). -/
def Bg.trimNow (b : Bg) (clock : Nat) : Int :=
  let most : Int := ((clock - b.trimAt) / 100 : Nat)
  b.trimFrom + max (-most) (min most (b.trimTo - b.trimFrom))

/-- A measurement corrects the trim by its frequency error (R463). -/
def Bg.slew (b : Bg) (clock ticks us : Nat) : Bg :=
  let now := b.trimNow clock
  { b with trimFrom := now, trimTo := now + ((ticks : Int) - us) * 1000000000 / us, trimAt := clock }

/-- A reference is processed (R463): `sync` names its kind, `ticks` were measured over `us` of it. Eight SYNC measurements in a row
within 10 ppm, or four of marks within 50 ppm, lock; one outside twice the limit unlocks. The correction is slewed. -/
def State.measureRef (s : State) (sync : Bool) (ticks us : Nat) : State :=
  let limit := if sync then 10 else 50
  let err := (max ticks us - min ticks us) * 1000000
  let src : BitVec 2 := if sync then 2#2 else 1#2
  let run := if err ≤ limit * us then (if s.time.source = src then s.bg.goodRefs + 1 else 1) else 0
  let s1 := ({ s with time := { s.time with source := src } }).modBg (fun b => { b.slew s.clock ticks us with goodRefs := run })
  if s.time.locked && decide (2 * limit * us < err) then s1.unlock
  else if (if sync then 8 else 4) ≤ run then s1.lock
  else s1

/-- The TB_TRIM task processes the reference that has waited longest (R455, R463). -/
def execTrimReference (s : State) : Host.Outcome State Fault Refusal :=
  ok <| match s.bg.refDue with
    | [] => s
    | (sync, ticks, us, _) :: rest =>
      whenDo s.hostRuns
        (fun s =>
          let s1 := (s.modBg (fun b => { b with refDue := rest })).measureRef sync ticks us
          if rest = [] then s1.caughtUp 4 else s1) s

/-- An edge in mode 1 (R462): valid within 0.1 % of PERIOD after the previous valid edge; the first one begins the series, and one that
meets the three-period limit before SYNC_LOST is raised is valid, as a measurement over three periods (R473; log entry 24). -/
def State.syncReference (s : State) : State :=
  let p := s.bg.syncPeriod
  let take := fun (t : State) => (t.modBg (fun b => { b with edgeAt := some s.clock, refOk := true })).clearLive (hostSlot 29)
  match s.bg.edgeAt with
  | none => take s
  | some t =>
    let d := s.clock - t
    let valid := fun (q : Nat) => (take s).modBg (fun b => { b with refDue := b.refDue ++ [(true, d, q, s.clock)] })
    if (max d p - min d p) * 1000 ≤ p then valid p
    else if 3 * p ≤ d ∧ (d - 3 * p) * 1000 ≤ p then valid (3 * p)
    else s.modBg (fun b => { b with bad := satInc b.bad })

/-- LOCKED falls when no source remains (R463). -/
def State.judgeSource (s : State) : State := if s.markSource || s.syncSource then s else s.unlock

/-- Three periods without a valid edge in mode 1 (R463), counted from the latest valid edge, or from the configuration of the mode where
none has come (log entry 24). -/
def execSyncLost (s : State) : Host.Outcome State Fault Refusal :=
  ok <| whenDo (s.phase = .run && s.bg.syncMode = 1 && (s.bg.edgeAt.isSome || !(s.slot (hostSlot 29)).real.getLsbD 0)
      && decide (s.bg.edgeAt.getD s.bg.syncFrom + 3 * s.bg.syncPeriod ≤ s.clock))
    (fun s => ((s.modBg (fun b => { b with edgeAt := none, refOk := false })).raiseLive (hostSlot 29)).judgeSource) s

/-- 600 s without an accepted mark (R463): LOCKED falls where no source remains, whichever was the latest used. -/
def execHostMarkExpiry (s : State) : Host.Outcome State Fault Refusal :=
  ok <| whenDo (s.phase = .run && s.time.source ≠ 0#2 && !s.markSource && !s.syncSource) (fun s => s.unlock) s

/-- The level that the device drives on the SYNC pin in mode 2: high for 10 µs from the start of a pulse (R462). -/
def State.syncHigh (s : State) : Bool := s.bg.syncMode = 2 && s.bg.syncOut.any (fun t => decide (s.clock < t + 10))

/-- In mode 2 a pulse of 10 µs starts on every tick that is a multiple of PERIOD (R462). -/
def execSyncOutputPulse (s : State) : Host.Outcome State Fault Refusal :=
  ok <| whenDo (s.phase = .run && s.vio && s.bg.syncMode = 2 && s.bg.syncPeriod ≠ 0 && decide (s.tick % s.bg.syncPeriod = 0))
    (fun s => s.modBg (fun b => { b with syncOut := some s.clock })) s

/-! ## Channel trims (R464) -/

/-- The channel has a source that CH_TRIM refines: AO_I and AO_V stages, AI_RATIO excitation, or a sink (R464). -/
def trimmedSource (func : Nat) : Bool := isAo func || func = 12 || isDi func

/-- A source has waited more than 20 s (R455). -/
def State.trimWaits (s : State) : Bool :=
  s.bg.chTrimEn && allCh.any (fun n => trimmedSource (s.chan n).cfg.func
    && decide ((s.bg.chTrimAt[n.1]).getD s.time.startClock + 20000000 < s.clock))

/-- A trim moves by a measured difference, by at most 0.005 % of the range, in ppm (R464). -/
def trimStep (t : Int) (w : Word) : Int := t + max (-50) (min 50 w.toInt)

/-- A channel's sources after a comparison with the Ring reference: its own, and on AO_I and AO_V its dedicated safe source (R464). -/
def trimmed (func : Nat) (t : Int × Int) (own safe : Word) : Int × Int := (trimStep t.1 own, if isAo func then trimStep t.2 safe else t.2)

/-- A channel's sources are refined, each at most once per second (R464): the difference from the Ring reference is measured, a free value
(log entry 6). No register shows a trim; with CH_TRIM_EN = 0 the last ones hold. -/
def execChTrim (n : Fin 16) (s : State) : Host.Outcome State Fault Refusal :=
  ok <| whenDo (s.hostRuns && s.bg.chTrimEn && trimmedSource (s.chan n).cfg.func && (match s.bg.chTrimAt[n.1] with
      | some t => decide (t + 1000000 ≤ s.clock)
      | none => true))
    (fun s =>
      let (own, t) := s.free
      let (safe, u) := t.free
      let s1 := u.modBg (fun b => { b with
        chTrimAt := b.chTrimAt.set n.1 (some s.clock), chTrims := b.chTrims.set n.1 (trimmed (s.chan n).cfg.func b.chTrims[n.1] own safe) })
      if s1.trimWaits then s1 else s1.caughtUp 5) s

/-! ## Telemetry (R465) -/

/-- The higher of two signed temperatures. -/
def peakOf (a b : Byte) : Byte := if a.toInt < b.toInt then b else a

/-- Host die temperature in whole °C, rounded down (log entry 25). -/
def wholeDeg (t : BitVec 16) : Byte := BitVec.ofInt 8 (t.toInt / 16)

/-- Tap use of an update: each tapped channel credits 1 s to its present tap, and 60 s make a minute (R465). -/
def Lifetime.creditTap (b : Lifetime) (i : Fin 8) : Lifetime :=
  if b.tapSeconds[i.1] + 1 < 60 then { b with tapSeconds := b.tapSeconds.set i.1 (b.tapSeconds[i.1] + 1) }
  else { b with tapSeconds := b.tapSeconds.set i.1 0, taps := b.taps.set i.1 (satInc b.taps[i.1]) }

/-- The place of a tap in the table: T1 to T4 of Ring A, then of Ring B. -/
def tapPlace (n : Fin 16) (tap : BitVec 2) : Fin 8 := toIdx 8 (4 * (n.1 / 8) + tap.toNat)

/-- The host die is above 125 °C. -/
def tlmHot (o : TlmObs) : Bool := decide (2000 < o.host.toInt)

/-- The lifetime values after an update of 1 s (R465). -/
def Lifetime.update (b : Lifetime) (o : TlmObs) : Lifetime :=
  let secs := b.hotSeconds + b2n (tlmHot o)
  { b with
    peak := #v[peakOf b.peak[0] (wholeDeg o.host), peakOf b.peak[1] o.ringA, peakOf b.peak[2] o.ringB]
    hotSeconds := if secs < 60 then secs else 0
    hotMinutes := if secs < 60 then b.hotMinutes else satInc b.hotMinutes
    tempSum := b.tempSum + o.host.toInt
    tempCount := b.tempCount + 1
    energy := Vector.ofFn (fun (n : Fin 16) => satAdd b.energy[n.1] (o.energy.getD n.1 0)) }

/-- The registers after an update. -/
def Bg.measure (b : Bg) (o : TlmObs) (clock : Nat) (tick : Word) : Bg :=
  { b with
    hostTemp := o.host.zeroExtend 32
    hotAt := if tlmHot o then some clock else b.hotAt
    supply := o.vh ++ o.vio
    vhMin := if o.vh.toNat < b.vhMin.toNat then o.vh else b.vhMin
    update := tick
    life := b.life.update o }

/-! ## Tasks that fall behind (R455, R456) -/

/-- The refresh period in hours (R461). -/
def State.refreshHours (s : State) : Nat :=
  match s.bg.hotAt with
  | some t => if s.clock < t + 3600000000 then s.bg.hotRefreshH else s.bg.refreshH
  | none => s.bg.refreshH

/-- The condition of a task's BEHIND bit (R455). -/
def State.isBehind (s : State) (t : Fin 8) : Bool :=
  match t with
  | 0 => decide (s.bg.scrubFrom + 66000000 * s.bg.scrubMin < s.clock)
  | 1 => decide (11534336 * s.refreshHours < 10 * (s.opt.toNat - s.bg.refreshFrom.toNat))
  | 2 => (s.adc .a).postponed && decide ((s.adc .a).postponedAt + 2000000 < s.tick)
  | 3 => (s.adc .b).postponed && decide ((s.adc .b).postponedAt + 2000000 < s.tick)
  | 4 => s.bg.refDue.any (fun e => decide (e.2.2.2 + 10000 < s.clock))
  | 5 => s.trimWaits
  | 6 => true
  | 7 => decide (1100000 < (s.tickLo - s.bg.update).toNat)

/-- A task is no longer behind once its condition has ended (R455). -/
def State.settleTask (s : State) (t : Fin 8) : State := if s.isBehind t then s else s.caughtUp t

/-- The telemetry is updated every 1 s (R465). A refresh period that ends with the hot hour is seen here (R455, R461; DESIGN CHOICE, log entry
143). -/
def execTlmUpdate (o : TlmObs) (s : State) : Host.Outcome State Fault Refusal :=
  ok <| whenDo (s.hostRuns && decide (1000000 ≤ (s.tickLo - s.bg.update).toNat))
    (fun s =>
      let s1 := s.modBg (fun b => b.measure o s.clock s.tickLo)
      let s2 := forEach (allCh.filter (fun n => tapped (s.chan n).rng.func))
        (fun n t => t.modBg (fun b => { b with life := b.life.creditTap (tapPlace n (s.chan n).stage.tap) })) s1
      (s2.caughtUp 7).settleTask 1) s

/-- The refresh work that is due, as an internal wake makes it: the pages of the share of its period that the pass has run, with the slots'
CRCs and its end once that is over (R461, R470; DESIGN CHOICE: pages that no REFRESH_UNIT has read by then were not weak, log entry 128). -/
def State.wakeRefresh (s : State) : State :=
  let due := refreshPages * (s.opt.toNat - s.bg.refreshFrom.toNat) / (max 1 s.refreshHours * 1048576)
  if due < refreshPages then s.modBg (fun b => { b with refreshPos := max b.refreshPos due })
  else ([false, true].foldl (fun t n => if t.bg.refreshCrc.getLsbD (b2n n) then t else t.slotCompared n) s).endRefresh

/-- A task exceeds its minimum progress time (R455, R456). That a program waits for an erase is observed. -/
def execBgBehind (t : Fin 8) (s : State) : Host.Outcome State Fault Refusal :=
  ok <| whenDo (s.hostRuns && s.isBehind t) (fun s => s.fallBehind t) s

/-! ## Registers (R475) -/

/-- A new configuration can end the condition of a task's BEHIND bit (R455). -/
def State.settleBehind (s : State) : State := ((s.settleTask 0).settleTask 1).settleTask 5

/-- BG_CFG takes its new value, and a task it no longer finds behind is behind no longer (R455, R475). -/
def State.takeBgCfg (w : Word) (s : State) : State := (s.modBg (fun b => { b with cfg := w })).settleBehind

/-- BG_CFG: a change of "img" fields (R474, R475). -/
def State.writeBgCfg (s : State) (origin : Origin) (w : Word) : State × Reply :=
  s.imgWrite origin (.bg .cfg) w
    [refuseLow [(outside 2 (fld w 0 6) 60, 0), (outside 4 (fld w 6 5) 24, 6), (outside 1 (fld w 11 5) (fld w 6 5), 11)]]
    (State.takeBgCfg (w &&& 0x1FFFF#32))

/-- PERIOD fits MODE (R474). -/
def syncPeriodBad (mode period : Nat) : Bool := if mode = 0 then period ≠ 0 else decide (period < 1000)

/-- SYNC works by a new configuration: no edge has been seen under it, and the source that it ends is gone (R462, R463). -/
def State.takeSync (s : State) (w : Word) : State :=
  let s1 := (s.modBg (fun b =>
    { b with synccfg := w, edgeAt := none, syncFrom := s.clock, refOk := false, goodRefs := 0, syncOut := none })).clearLive (hostSlot 29)
  if s.time.source = 2#2 then s1.judgeSource else s1

/-- BG_SYNCCFG (R462, R474, R475). -/
def State.writeSyncCfg (s : State) (origin : Origin) (w : Word) : State × Reply :=
  s.imgWrite origin (.bg .synccfg) w
    [refuseLow [(syncPeriodBad (fld w 24 2) (fld w 0 24), 0), (fld w 24 2 = 3, 24)]]
    (fun t => t.takeSync (w &&& 0x3FFFFFF#32))

/-- A write of a BG or TLM register. -/
def State.bgWrite (s : State) (origin : Origin) (r : BgReg) (w : Word) : State × Reply :=
  match r with
  | .cfg => s.writeBgCfg origin w
  | .synccfg => s.writeSyncCfg origin w
  | .diag =>
    s.statusClear origin (.bg .diag) (w &&& s.bg.diag.zeroExtend 32) (fun t => t.modBg (fun b => { b with diag := b.diag &&& ~~~ (w.truncate 8) }))
  | .refresh =>
    s.statusClear origin (.bg .refresh) (w &&& s.bg.slotFail.zeroExtend 32)
      (fun t => t.modBg (fun b => { b with slotFail := b.slotFail &&& ~~~ (w.truncate 2) }))
  | _ => (s, .done)

/-- Minutes on a tap (R475). -/
def State.tapMinutes (s : State) (i : Fin 8) : ReadResult := (s.bg.life.taps[i.1], s)

/-- The lifetime mean of the host die's temperature; before the first update a free value (R465, log entry 25). -/
def State.meanTemp (s : State) : ReadResult :=
  if s.bg.life.tempCount = 0 then s.measured 16
  else (word ((BitVec.ofInt 16 (s.bg.life.tempSum / s.bg.life.tempCount)).toNat), s)

/-- A read of a BG or TLM register. -/
def State.bgRead (s : State) (r : BgReg) : ReadResult :=
  let b := s.bg
  match r with
  | .cfg => (b.cfg, s)
  | .synccfg => (b.synccfg, s)
  | .syncstat => (word (b.bad.toNat * 65536 + b2n b.refOk), s.modBg (fun b => { b with bad := 0#16 }))
  | .stat => (b.behind.zeroExtend 32, s)
  | .diag => (b.diag.zeroExtend 32, s)
  | .scrub =>
    (word (b.scrubPasses.toNat * 65536 + b.uncorr.toNat * 256 + b.corrected.toNat),
      s.modBg (fun b => { b with uncorr := 0#8, corrected := 0#8 }))
  | .refresh =>
    (word (b.refreshPasses.toNat * 65536 + b.relocated.toNat * 16 + b.slotFail.toNat), s.modBg (fun b => { b with relocated := 0#12 }))
  | .wear =>
    (word (min b.wear.pool.length 63 * 67108864 + b.wear.retired.toNat * 262144
      + min (b.wear.mapped.toList.foldl max 0) 262143), s)
  | .tlmTemp => (b.hostTemp, s)
  | .tlmPeak => (word (b.life.peak[2].toNat * 65536 + b.life.peak[1].toNat * 256 + b.life.peak[0].toNat), s)
  | .tlmHot => (b.life.hotMinutes, s)
  | .tlmTavg => s.meanTemp
  | .tlmSupply => (b.supply, s)
  | .tlmVhmin => (b.vhMin.zeroExtend 32, s.modBg (fun b => { b with vhMin := 0xFFFF#16 }))
  | .tlmUpdate => (b.update, s)
  | .tlmTapA1 => s.tapMinutes 0
  | .tlmTapA2 => s.tapMinutes 1
  | .tlmTapA3 => s.tapMinutes 2
  | .tlmTapA4 => s.tapMinutes 3
  | .tlmTapB1 => s.tapMinutes 4
  | .tlmTapB2 => s.tapMinutes 5
  | .tlmTapB3 => s.tapMinutes 6
  | .tlmTapB4 => s.tapMinutes 7
  | .pwrCtrl | .pwrStat | .pwrWakecfg | .pwrCnt | .pwrCellar => (0#32, s)

end Sys2Proof.Machine
end

