-- ==== Sys2Proof/Machine/Modes.lean ====
section
/-! DEFINITION. RUN, QUIET and CELLAR: requests, entry, retention, internal wakes, wakes and the return, with the PWR registers, and
the capture of a SYNC edge (R466 to R473, R475, R301, R462). -/

namespace Sys2Proof.Machine

def State.modPwr (s : State) (f : Power → Power) : State := { s with pwr := f s.pwr }

/-- Fields of PWR_WAKECFG (R475). -/
def Power.wakeMask (p : Power) : Nat := fld p.wakecfg 0 8
def Power.wakeFall (p : Power) (n : Fin 16) : Bool := n.1 < 8 && bit p.wakecfg (8 + n.1)
def Power.syncWake (p : Power) : Bool := bit p.wakecfg 16

/-! ## Entry and return of QUIET (R467, R468) -/

/-- Entry to QUIET or CELLAR gives up the active role of a pair (R438, R467). -/
def State.leaveRun (s : State) : State := if s.pair.holdsRole then s.giveUp 11 9 else s

/-- QUIET from B (R468): every channel holds its safe state without a latch. -/
def State.enterQuiet (s : State) : State :=
  let s1 := (s.leaveRun).modPwr (fun p => { p with mode := .quiet, want := none, leaving := false })
  (s1.sendPower false).stopChains.pairSync

/-- RUN is in force at B'; the channels hold their safe states, and the inputs are sampled as in QUIET, to B' + 1 (R468). -/
def State.leaveQuiet (s : State) : State := ((s.modPwr (fun p => { p with mode := .run, want := none, leaving := true })).sendPower false).pairSync

/-- B' + 1: the channels follow committed destinations and pending commands again, and the chains restart (R468). -/
def State.endLeaving (s : State) : State :=
  let s1 := (s.modPwr (fun p => { p with leaving := false })).sendPower false
  ((forEach allCh (fun n t => t.sendDrive n) s1).restartChains .a).restartChains .b

/-! ## CELLAR (R469 to R472) -/

/-- Ring B halts without a link loss (R469, R470). -/
def State.haltRingB (s : State) : State :=
  (s.loseStatus .b).modRing .b (fun r =>
    { r.keepRails 0#3 with link := false, configured := false, hostConf := false, taken := false, ringLost := true, beat := none
                           ringBeat := false, realigned := false, rmode := .cellar })

/-- A paired unit that does not lead keeps no epoch through CELLAR mode: after its wake STALE is set, and it does not claim by the takeover
rule alone (20_door_controller_example.md, before R501; log entry 144). -/
def State.loseEpoch (s : State) : State :=
  if s.pairOn && !s.pair.leads then
    s.modPair (fun p => { p with held := none, stale := true, evt := if p.stale then p.evt else p.evt ||| 2#6 })
  else s

/-- CELLAR from B (R469): outputs off, tap supplies, Ring B, Trapeze and the Tightrope source stop, and a periodic commit. -/
def State.enterCellar (s : State) : State :=
  let s1 := s.leaveRun.loseEpoch.modPwr (fun p =>
    { p with mode := .cellar, want := none, leaving := false, retention := false, internal := false, waking := false, wakePend := none
             holdB := false, cellars := satInc p.cellars, cellarFrom := s.clock })
  let s2 := ((s1.sendPower false).haltRingB).refreshRing .b 0
  ((s2.stopChains.modPair (fun p => { p with togglePend := false, tx := [] })).sendSource false).pairSync.periodicCommit

/-- A wake (R471, R472): the host die runs again, Ring B will be restarted and configured, and the return waits for its tick. -/
def State.wakeNow (s : State) (cause ch : Nat) : State :=
  let b := s.ring .b
  s.modPwr (fun p =>
    { p with retention := false, internal := false, waking := true, wakePend := none, req := .run, cause := BitVec.ofNat 4 cause
             wakeCh := if cause = 3 then BitVec.ofNat 5 ch else p.wakeCh, wakes := satInc p.wakes, internalFrom := s.clock
             wakeB := b.logic && !b.passedPor })

/-- A wake source acts (R471, R473): during entry it is kept until retention begins; a second one is counted. -/
def State.wake (s : State) (cause ch : Nat) : State :=
  if s.pwr.waking || s.pwr.wakePend.isSome then s.modPwr (fun p => { p with wakes := satInc p.wakes })
  else if s.pwr.retention || s.pwr.internal then s.wakeNow cause ch
  else s.modPwr (fun p => { p with wakePend := some (cause, ch) })

/-- Retention begins between 1 ms and 5 ms after B (R469); a wake kept from the entry acts now (R471). -/
def execRetentionBegin (s : State) : Host.Outcome State Fault Refusal :=
  ok <| whenDo (s.pwr.mode = .cellar && !s.pwr.retention && !s.pwr.waking && decide (s.pwr.cellarFrom + 1000 ≤ s.clock))
    (fun s =>
      let s1 := s.modPwr (fun p => { p with retention := true, internalFrom := s.clock })
      match s.pwr.wakePend with
      | some w => s1.wakeNow w.1 w.2
      | none => s1) s

/-- Every 10 ms in CELLAR mode Ring A gets a tick mark, so that its follower never enters holdover (R470). -/
def execCellarTickMark (s : State) : Host.Outcome State Fault Refusal :=
  ok <| whenDo (s.pwr.mode = .cellar && (s.ring .a).link && decide ((s.ring .a).lastHostBeat + 10000 ≤ s.clock))
    (fun s => s.modRing .a (fun r => { r with lastHostBeat := s.clock, lastRingBeat := s.clock, realigned := true })) s

/-- Every 600 s from the start of retention the host die wakes internally, and a scrub pass begins (R470). -/
def execInternalWake (s : State) : Host.Outcome State Fault Refusal :=
  ok <| whenDo (s.pwr.mode = .cellar && s.pwr.retention && !s.pwr.internal && decide (s.pwr.internalFrom + 600000000 ≤ s.clock))
    (fun s => (s.modPwr (fun p => { p with internal := true, internalFrom := p.internalFrom + 600000000 })).modBg
      (fun b => { b with scrubPos := 0, scrubDue := true })) s

/-- The full scrub pass of an internal wake is made: the units that no SCRUB_UNIT has read by its end are clean (R470; DESIGN CHOICE, log
entry 128). -/
def State.endWakePass (s : State) : State :=
  if s.bg.scrubDue then ({ s with bg := { s.bg with scrubPos := scrubUnits - 1 } }).scrubNext else s

/-- The internal wake ends: its scrub pass and the refresh work due are made, a periodic commit follows, and retention goes on (R470). -/
def execInternalWakeEnd (s : State) : Host.Outcome State Fault Refusal :=
  ok <| whenDo (s.pwr.mode = .cellar && s.pwr.internal)
    (fun s => ((s.endWakePass.wakeRefresh).modPwr (fun p => { p with internal := false })).periodicCommit) s

/-- An accepted change of a wake channel is under way: RISE, TOUCHED, or FALL where its bit is set (R471); the first acceptance of a restart
is neither RISE nor FALL (R167). -/
def State.wakeChange (s : State) (n : Fin 16) : Bool :=
  s.wakeChan n && (s.ring .a).upq.any (fun m => match m with
    | .change k st initial _ _ => k = n && !initial && (st || s.pwr.wakeFall n)
    | _ => false)

/-- The start tick of the step grid at or before the present tick. -/
def State.gridTick (s : State) : Nat :=
  s.fab.stepStart + (s.tick - s.fab.stepStart) / (max 1 s.fab.stepUs) * s.fab.stepUs

/-- R (R472): RUN is in force, the watchdog window restarts in full, the channels of Ring A that were OFF and every chain restart, and
the fabric goes on from its retained state with the step that begins now. -/
def State.returnRun (s : State) (g : Nat) : State :=
  let c := g + s.time.startClock
  let s1 := s.modPwr (fun p =>
    { p with mode := .run, waking := false, retention := false, internal := false, seconds := satTo 32 ((c - p.cellarFrom) / 1000000) })
  let s2 := (s1.modFlt (fun f => { f with wdStart := c })).modRing .a (fun r => { r with lastHostBeat := s.clock, lastRingBeat := s.clock })
  let s4 := ((((s2.sendPower false).restartChains .a).restartChains .b).modPair (fun p => { p with lastFrame := s.clock, lastBeat := s.clock })).modFab
    (fun f => { f with stepStart := g, evalDone := false })
  let s5 := s4.pairSync
  if s.fab.running then s5.takeSnapshot else s5

/-- The return at the first step start tick after the host die runs (R472). -/
def execRunReturn (s : State) : Host.Outcome State Fault Refusal :=
  let g := s.gridTick
  ok <| whenDo (s.pwr.mode = .cellar && s.pwr.waking && decide (s.pwr.internalFrom ≤ g + s.time.startClock)) (fun s => s.returnRun g) s

/-! ## A mode change takes effect (R467) -/

/-- A requested power mode takes effect (R467). -/
def State.takeWanted (s : State) : State :=
  match s.pwr.want with
  | none => s
  | some .run => if s.pwr.mode = .quiet then s.leaveQuiet else s.modPwr (fun p => { p with want := none })
  | some .quiet => s.enterQuiet
  | some .cellar => s.enterCellar

/-! ## The SYNC pin (R301, R462, R471) -/

/-- A rising edge on SYNC: in CELLAR mode a wake (R471); otherwise a filter sync (R301), and in mode 1 a reference (R462). -/
def execSyncEdge (s : State) : Host.Outcome State Fault Refusal :=
  ok <| whenDo (s.phase = .run && s.vio && s.bg.syncMode ≠ 2)
    (fun s =>
      if s.pwr.mode = .cellar then (if s.pwr.syncWake then s.wake 4 0 else s)
      else
        let s1 := s.filtEdge
        if s.bg.syncMode = 1 then s1.syncReference else s1) s

/-! ## Registers (R467, R471, R475) -/

/-- Modes by their codes. -/
def PowerMode.code : PowerMode → Nat
  | .run => 0
  | .quiet => 1
  | .cellar => 2

def powerModeOf (n : Nat) : PowerMode := if n = 1 then .quiet else if n = 2 then .cellar else .run

/-- Tickets in EXEC, without the one of the request itself (R467). -/
def State.othersExec (s : State) (origin : Origin) : Bool :=
  let n := (s.tickets.toList.filter (fun t => match t.st with
    | .exec _ _ => true
    | _ => false)).length
  let own : Nat := if origin = .hp0 ∨ origin = .hp1 ∨ origin = .trapeze then 1 else 0
  decide (own < n)

/-- Why a request for QUIET or CELLAR is refused: the lowest cause of R467 that holds (DESIGN CHOICE, log entry 146), 0 for none. -/
def State.modeRefusal (s : State) (origin : Origin) (cellar : Bool) : Nat :=
  if s.img.load ≠ .idle || s.img.actPending then 1
  else if s.rpl.capture.isSome || s.rpl.on || s.rpl.erasing || s.rpl.loading then 2
  else if cellar && (s.chks.any (fun c => c.st ≠ .idle) || s.othersExec origin) then 3
  else if cellar && ((ringChs .a).any (fun n => s.wakeChan n && (s.chan n).latch)
      || (s.pwr.wakeMask ≠ 0 && !((s.ring .a).link && (s.ring .a).hostConf))) then 4
  else 0

/-- PWR_CTRL (R467): a request for the mode in force has no effect. -/
def State.writePwrCtrl (s : State) (origin : Origin) (w : Word) : State × Reply :=
  let m := powerModeOf (fld w 0 2)
  let why := if m = .run then 0 else s.modeRefusal origin (m = .cellar)
  guarded s [check (fld w 0 2 = 3) (.refused 0)]
    (if s.pwr.mode = m then (s, .done)
     else guarded s [check (why ≠ 0) (.notNow (word why))]
      (s.changeWrite origin (.bg .pwrCtrl) w (fun t => t.modPwr (fun p => { p with want := some m, req := m, wantFrom := t.tick }))))

/-- A channel may be a wake channel (R471). -/
def wakeAllowed (c : ChanCfg) : Bool := (c.func = 1 || c.func = 2 || c.func = 13) && !c.pluggable

/-- PWR_WAKECFG (R471, R474). -/
def State.writeWakecfg (s : State) (origin : Origin) (w : Word) : State × Reply :=
  let bad := (ringChs .a).any (fun n => bit w n.1 && !wakeAllowed (s.chan n).cfg)
  let badFall := (ringChs .a).any (fun n => bit w (8 + n.1) && (!bit w n.1 || (s.chan n).cfg.func = 13))
  s.imgWrite origin (.bg .pwrWakecfg) w
    [refuseLow [(bad, 0), (badFall, 8), (bit w 16 && s.bg.syncMode = 2, 16)], check (s.pwr.mode = .cellar) (.notNow 0#32)]
    (fun t => t.modPwr (fun p => { p with wakecfg := w &&& 0x1FFFF#32 }))

/-- A write in the BG, TLM and PWR block. -/
def State.bgBlockWrite (s : State) (origin : Origin) (r : BgReg) (w : Word) : State × Reply :=
  match r with
  | .pwrCtrl => s.writePwrCtrl origin w
  | .pwrWakecfg => s.writeWakecfg origin w
  | r => s.bgWrite origin r w

/-- A read in the BG, TLM and PWR block. -/
def State.bgBlockRead (s : State) (r : BgReg) : ReadResult :=
  let p := s.pwr
  match r with
  | .pwrCtrl => (word p.req.code, s)
  | .pwrStat => (word (p.wakeCh.toNat * 65536 + p.cause.toNat * 4096 + b2n p.want.isSome * 4 + p.mode.code), s)
  | .pwrWakecfg => (p.wakecfg, s)
  | .pwrCnt => (word (p.wakes.toNat * 65536 + p.cellars.toNat), s.modPwr (fun p => { p with wakes := 0#16, cellars := 0#16 }))
  | .pwrCellar => (p.seconds, s)
  | r => s.bgRead r

end Sys2Proof.Machine
end

