-- ==== Sys2Proof/Machine/Regs.lean ====
section
/-! DEFINITION. Every read and write by address: the IDENT, PORT and TIME registers, wide values, the two memory windows, and the
mirrored set (R76, R77, R86, R87, R92, R93, R443). -/

namespace Sys2Proof.Machine

/-! ## Tickets and port status (R69, R79, R80, R82) -/

/-- Ready responses of a port (R69). -/
def State.readyOf (s : State) (p : PortId) : Nat := (s.tickets.toList.filter (fun t => t.readyFor (portMaster p))).length

/-- PORTn_IRQ_CAUSE: the sticky causes, and PAIR, WHEEL, FAULT and RSP_READY as they are (R79, R330, R355, R452). -/
def State.irqCause (s : State) (p : PortId) : Byte :=
  let wheel := s.wheels.any (fun w => w.consumer = decide (p = .hp1) && w.pendingIrq s.clock)
  ((s.port p).sticky &&& 0xF0#8)
    ||| BitVec.ofNat 8 (b2n s.pairIrq * 8 + b2n wheel * 4 + b2n (s.faultIrq p) * 2 + b2n (decide (0 < s.readyOf p)))

/-- The port drives its IRQ_N low (R79): never with VIO lost, and never before its port answers (R43, R45, R50, R57). -/
def State.irqLow (s : State) (p : PortId) : Bool := s.vioOk && s.irqCause p &&& (s.port p).irqEn ≠ 0#8

/-! ## IDENT, PORT and TIME (R92, R93) -/

/-- A read of an IDENT register; ORIGIN and REV are the reading master's. -/
def State.identRead (s : State) (origin : Origin) (r : IdentReg) : Word :=
  match r with
  | .device => 0x00431624#32
  | .revs => 0x00212121#32
  | .uidLo => Config.uid.extractLsb' 0 32
  | .uidHi => Config.uid.extractLsb' 32 32
  | .whoami =>
    let rev := match origin with
      | .hp0 => (s.port .hp0).rev
      | .hp1 => (s.port .hp1).rev
      | _ => 0
    word (rev * 16 + originCode origin)

/-- A read of a PORT register. -/
def State.portRead (s : State) (p : PortId) (r : PortReg) : ReadResult :=
  let q := s.port p
  match r with
  | .cfg => (q.cfg, s)
  | .irqEn => (q.irqEn.zeroExtend 32, s)
  | .irqCause => ((s.irqCause p).zeroExtend 32, s)
  | .stat =>
    (word (s.readyOf p * 65536 + s.held (portMaster p) * 256 + b2n q.spiMode * 32 + b2n q.quad * 16 + q.rev), s)
  | .cnt =>
    (word (q.cntBusy.toNat * 65536 + q.cntDisc.toNat), s.modPort p (fun q => { q with cntBusy := 0#16, cntDisc := 0#16 }))
  | .dupcnt =>
    (word (q.dupConf.toNat * 65536 + q.dupAns.toNat), s.modPort p (fun q => { q with dupConf := 0#16, dupAns := 0#16 }))
  | .retcnt => (q.retired.zeroExtend 32, s.modPort p (fun q => { q with retired := 0#16 }))
  | .seq => (word (b2n q.seqValid * 65536 + q.seqLast.toNat), s)

/-- A write of a PORT register; the sticky causes clear by W1C. -/
def State.portWrite (s : State) (origin : Origin) (p : PortId) (r : PortReg) (w : Word) : State × Reply :=
  match r with
  | .cfg =>
    guarded s [refuseLow [(outside 1 (fld w 0 10) 1000, 0)]]
      (s.changeWrite origin (.port p .cfg) w (fun t => t.modPort p (fun q => { q with cfg := w &&& 0x3FF#32 })))
  | .irqEn => s.changeWrite origin (.port p .irqEn) w (fun t => t.modPort p (fun q => { q with irqEn := w.truncate 8 }))
  | .irqCause =>
    s.statusClear origin (.port p .irqCause) (w &&& (((s.port p).sticky &&& 0xF0#8).zeroExtend 32))
      (fun t => t.modPort p (fun q => { q with sticky := q.sticky &&& ~~~ (w.truncate 8) }))
  | .stat | .cnt | .dupcnt | .retcnt | .seq => (s, .done)

/-- TIME_TRIM. -/
def TimeState.trim (t : TimeState) : Word := word (b2n t.markEarly * 8 + b2n t.locked * 4 + t.source.toNat)

/-- A half of a 48-bit value. -/
def half48 (v : BitVec 48) (hi : Bool) : Word := if hi then (v.extractLsb' 32 16).zeroExtend 32 else v.extractLsb' 0 32

/-- A read of a TIME register; TIME_MARK is write-only and reads 0 (R4). -/
def State.timeRead (s : State) (r : TimeReg) : Word :=
  let t := s.time
  match r with
  | .tickLo => s.tickLo
  | .tickHi => word (s.tick / 2 ^ 32)
  | .optLo => half48 s.opt false
  | .optHi => half48 s.opt true
  | .pwrcyc => s.recd.pwrcyc.zeroExtend 32
  | .caltagLo => t.caltag.extractLsb' 0 32
  | .caltagHi => t.caltag.extractLsb' 32 32
  | .calatLo => half48 t.calat false
  | .calatHi => half48 t.calat true
  | .mark => 0#32
  | .markTick => t.markTick
  | .trim => t.trim

/-- A host time mark (R93, R463): the tick of the frame's CS_N fall and the host's count; one that comes less than 1 s after the
previous mark is not used for trimming, nor is a pair more than 1 000 s apart. The second runs between the executions of the two
writes (DESIGN CHOICE: R93 does not name the instants; log entry 100). -/
def State.takeMark (s : State) (fall w : Word) : State :=
  let t := s.time
  let early := match t.markAt with
    | some c => decide (s.clock < c + 1000000)
    | none => false
  let s1 : State := { s with time := { t with
    markTick := fall, markHost := w, markAt := some s.clock, markEarly := t.markEarly || early
    refMark := if early then t.refMark else some (fall, w, s.clock) } }
  match t.refMark with
  | some (f0, h0, c0) =>
    if early || s.syncSource || decide (s.clock < c0 + 1000000) || decide (c0 + 1000000000 < s.clock) then s1
    else s1.modBg (fun b => { b with refDue := b.refDue ++ [(false, (fall - f0).toNat, (w - h0).toNat, s.clock)] })
  | none => s1

/-! ## Wide values (R86, R87) -/

/-- The LO or HI word of a wide value (R86): true for HI. -/
def Reg.wide : Reg → Option Bool
  | .time .tickLo | .time .optLo | .time .caltagLo | .time .calatLo | .img .actstepLo | .fab .stepLo | .fab .flagLo
  | .whl _ .pendLo | .rpl .divstepLo | .energyLo _ => some false
  | .time .tickHi | .time .optHi | .time .caltagHi | .time .calatHi | .img .actstepHi | .fab .stepHi | .fab .flagHi
  | .whl _ .pendHi | .rpl .divstepHi | .energyHi _ => some true
  | _ => none

/-- A master's shadow of the wide value whose HI word is at an address; `staged` is the half that a write left (R87). -/
def State.shadow (s : State) (m : Master) (hi : Addr) (staged : Bool) : Option Word :=
  (s.shadows.find? (fun h => h.m = m && h.hi = hi && h.staged = staged)).map (·.value)

/-- A shadow takes a value. DESIGN CHOICE, log entry 114: WHL_PEND, which reads alike in every wheel's block (R334), has one shadow for
each block, as every other wide value has one for its address. -/
def State.setShadow (s : State) (m : Master) (hi : Addr) (staged : Bool) (v : Word) : State :=
  { s with shadows := ⟨m, hi, v, staged⟩ :: s.shadows.filter (fun h => !(h.m = m && h.hi = hi && h.staged = staged)) }

/-- A commit of TIME_CALTAG (R87, R93, R385): one change, at which TIME_CALAT takes the operating time. -/
def State.commitCaltag (s : State) (origin : Origin) (hi : Word) : State × Reply :=
  let lo := (s.shadow (originMaster origin) (Reg.time .caltagHi).addr true).getD 0#32
  s.change origin 2 lo hi (fun t => { t with time := { t.time with caltag := hi ++ lo, calat := t.opt } })

/-- A write of a TIME register; `fall` is the tick at the frame's CS_N fall. -/
def State.timeWrite (s : State) (origin : Origin) (r : TimeReg) (fall w : Word) : State × Reply :=
  match r with
  | .caltagLo => (s.setShadow (originMaster origin) (Reg.time .caltagHi).addr true w, .done)
  | .caltagHi => s.commitCaltag origin w
  | .mark => (s.takeMark fall w, .done)
  | .trim =>
    if bit w 3 then s.statusClear origin (.time .trim) (s.time.trim &&& 8#32) (fun t => { t with time := { t.time with markEarly := false } })
    else (s, .done)
  | .tickLo | .tickHi | .optLo | .optHi | .pwrcyc | .calatLo | .calatHi | .markTick => (s, .done)

/-! ## Reads and writes of registers -/

/-- The live word of a register, with what the read itself does (R4). -/
def State.liveRead (s : State) (origin : Origin) (r : Reg) : ReadResult :=
  match r with
  | .ident r => (s.identRead origin r, s)
  | .port p r => s.portRead p r
  | .tktStat => (word s.freeTickets, s)
  | .tktHeld =>
    (word (s.held .service * 16777216 + s.held .trapeze * 65536 + s.held .hp1 * 256 + s.held .hp0), s)
  | .time r => (s.timeRead r, s)
  | .img r => (s.imgRegRead r, s)
  | .fab r => s.fabRead r
  | .ch n r => s.chRead n r
  | .ring x r => s.ringRead x r
  | .adc x r => s.adcRead x r
  | .adcEntry x i => (s.entryRead x i, s)
  | .adcEntryOfs x i => (s.entryOfs x i, s)
  | .filt r => s.filtRead r
  | .filtCh n r => (s.filtChRead n r, s)
  | .whl w r => s.whlRead w r
  | .flt r => s.fltRead r
  | .fltChsafe n => (s.chsafeRead n, s)
  | .fltSrc k => s.srcRead k
  | .fltReact k => (s.reactRead k, s)
  | .recd r => s.recRead origin r
  | .rpl r => s.rplRead r
  | .chk u r => s.chkRead u r
  | .pair r => s.pairRead r
  | .bg r => s.bgBlockRead r
  | .energyLo n => (half48 s.bg.life.energy[n.1] false, s)
  | .energyHi n => (half48 s.bg.life.energy[n.1] true, s)
  | .svc r => s.svcRead r

/-- The address 4 bytes on: the HI word of a wide value. -/
def Reg.next (r : Reg) : Addr := r.addr + 4#24

/-- A read of a register by a master (R86): a LO word copies the high half into the master's shadow, a HI word returns it. -/
def State.regRead (s : State) (origin : Origin) (r : Reg) : ReadResult :=
  let m := originMaster origin
  match r.wide with
  | none => s.liveRead origin r
  | some false =>
    let (lo, s1) := s.liveRead origin r
    match decodeReg r.next.toNat with
    | some hi => (lo, s1.setShadow m r.next false (s.liveRead origin hi).1)
    | none => (lo, s1)
  | some true =>
    match s.shadow m r.addr false with
    | some v => (v, s)
    | none => s.liveRead origin r

/-- A write of a register by a master; `obs` is what a capture measures, whether stored image data holds, or 1 where the record of a
cursor write fails its CRC (R380). -/
def State.regWrite (s : State) (origin : Origin) (r : Reg) (fall w : Word) (obs : Option Int) : State × Reply :=
  match r with
  | .ident _ | .tktStat | .tktHeld | .adcEntryOfs _ _ | .energyLo _ | .energyHi _ => (s, .done)
  | .port p r => s.portWrite origin p r w
  | .time r => s.timeWrite origin r fall w
  | .img r => s.imgRegWrite origin r w obs
  | .fab r => s.fabWrite origin r w
  | .ch n r => s.chWrite origin n r w
  | .ring x r => s.ringWrite origin x r w
  | .adc x r => s.adcWrite origin x r w
  | .adcEntry x i => s.writeEntry origin x i w
  | .filt r => s.filtWrite origin r w
  | .filtCh n r => s.filtChWrite origin n r w
  | .whl v r => s.whlWrite origin v r w
  | .flt r => s.fltWrite (if origin = .hp1 then .hp1 else .hp0) origin r w
  | .fltChsafe n => s.writeChsafe origin n w
  | .fltSrc _ => (s, .done)
  | .fltReact k => s.writeReact origin k w
  | .recd r => s.recWrite origin r w obs
  | .rpl r => s.rplWrite origin r w
  | .chk u r => s.chkWrite u r w
  | .pair r => s.pairWrite origin r w
  | .bg r => s.bgBlockWrite origin r w
  | .svc r => s.svcWrite origin r w

/-! ## The mirrored set (R443) -/

/-- The register belongs to the mirrored set. -/
def Reg.mirrored : Reg → Bool
  | .ch _ .anTrimOfs | .ch _ .anTrimGain | .ch _ .doSwcnt | .ch _ .diCount => false
  | .ch _ _ | .ring _ _ | .adc _ _ | .adcEntry _ _ | .filt _ | .filtCh _ _ | .fab _ | .whl _ _ | .fltReact _ | .fltChsafe _ => true
  | _ => false

/-- A write that was a change has its journal record. -/
def journaled (before after : State) : Bool := decide (before.recd.journal.length < after.recd.journal.length)

/-- An accepted change of the mirrored set is counted and sent (R443, R444). A capture by AN_ZSCMD sends its value by itself. -/
def State.mirrorWrite (before after : State) (origin : Origin) (r : Reg) (w : Word) : State :=
  let capture := match r with
    | .ch _ .anZscmd => bit w 0 || bit w 1
    | _ => false
  if r.mirrored && !capture && journaled before after then
    if r = .fab .apply then
      after.mirrorOut origin r.addr (before.fabRead .sel).1 false (some before.fab.toApply)
    else after.mirrorOut origin r.addr w false none
  else after

/-! ## READ and WRITE (R74, R76, R77) -/

/-- A word of the cellar-store read window (R457), read through the store's error correction (R414): whether it needs correction is a free
value (log entry 6). A corrected word is the stored one, and CELLAR_CORRECTED is raised; of one that cannot be corrected the stored bits are
read, which are free, and CELLAR_UNCORRECTABLE is raised. -/
def State.cellarRead (s : State) (o : Nat) : ReadResult :=
  let v := word (leNat ((List.range 4).map (fun i => s.cellarByte (o + i))))
  let (e, t) := s.free
  if spareBase ≤ o || !bit e 0 then (v, t)
  else if bit e 1 then (t.free.1, t.free.2.detect 10)
  else (v, t.detect 9)

/-- READ (R74, R76). -/
def State.readAt (s : State) (origin : Origin) (a : Addr) : State × Reply :=
  match decodeAddr a with
  | .reg r => let (w, t) := s.regRead origin r; (t, .value w)
  | .cellar o => let (w, t) := s.cellarRead o; (t, .value w)
  | .wheelMem o => (s, .value (s.wheelMemRead o))
  | .popWindow _ => (s, .badAddr a)
  | .none => (s, .badAddr a)

/-- WRITE (R74, R76, R77). -/
def State.writeAt (s : State) (origin : Origin) (a : Addr) (fall w : Word) (obs : Option Int) : State × Reply :=
  match decodeAddr a with
  | .reg r =>
    let (t, rep) := s.regWrite origin r fall w obs
    (if rep.status = .ok then State.mirrorWrite s t origin r w else t, rep)
  | .cellar _ | .wheelMem _ | .popWindow _ | .none => (s, .badAddr a)

end Sys2Proof.Machine
end

