-- ==== Sys2Proof/Machine/Port.lean ====
section
/-! DEFINITION. The host ports: frames, discards, tickets, the sequence window, execution, FETCH and the protocol revisions
(03_host_ports.md, R63 to R91). -/

namespace Sys2Proof.Machine

/-! ## Frames (R66, R69 to R72) -/

/-- The bytes of a request that its CRC covers (R70). -/
def requestBytes (op ticket : Byte) (a : Addr) (len : Byte) (seq : BitVec 16) (w : Word) : List Byte :=
  [op, ticket] ++ beBytesN 3 a.toNat ++ [len] ++ beBytesN 2 seq.toNat ++ (if len = 0#8 then [] else beBytesN 4 w.toNat)

/-- The bytes of a response that its CRC covers (R72). -/
def Response.body (r : Response) : List Byte :=
  [r.rstat, r.ticket] ++ beBytesN 2 r.seq.toNat ++ [r.op, BitVec.ofNat 8 r.data.length] ++ beBytesN 4 r.info.toNat
    ++ r.data.flatMap (fun w => beBytesN 4 w.toNat)

/-- A response frame with its CRC (R72). -/
def Response.bytes (r : Response) : List Byte := r.body ++ beBytesN 2 (crc16 r.body).toNat

/-- The response to a request (R72). -/
def mkResponse (q : Request) (rep : Reply) : Response :=
  { rstat := rep.status.code, ticket := BitVec.ofNat 8 q.ticket.1, seq := q.seq, op := q.op, info := rep.info, data := rep.data }

/-- The port status (R69). -/
def State.statusBytes (s : State) (p : PortId) : List Byte :=
  let q := s.port p
  let n := s.readyOf p
  let exec := s.tickets.any (fun t => match t.st with
    | .exec m _ => m = portMaster p
    | _ => false)
  [BitVec.ofNat 8 (b2n (decide (0 < n)) * 128 + b2n exec * 64 + b2n (s.irqLow p) * 32 + b2n q.quad * 16 + q.rev * 4 + 2),
   BitVec.ofNat 8 n, q.lastTicket, q.lastSeq]

/-- A CS_N fall (R66, R69, R90): a delivered HELLO takes effect, the SPI mode is taken, and the status is latched. -/
def State.csFall (s : State) (p : PortId) (mode3 : Bool) : State :=
  let s1 := s.modPort p (fun q =>
    { q with
      rev := (q.helloDone.map (·.1)).getD q.rev
      quad := (q.helloDone.map (·.2)).getD q.quad
      helloDone := none
      spiMode := mode3 })
  s1.modPort p (fun q => { q with out := { status := s1.statusBytes p, fetched := none } })

/-- The outcome of a frame for the next status (R69). -/
def State.note (s : State) (p : PortId) (last : Byte) (seq : BitVec 16) : State :=
  s.modPort p (fun q => { q with lastTicket := last, lastSeq := seq.truncate 8 })

/-- A frame is discarded (R71). -/
def State.discardFrame (s : State) (p : PortId) : State :=
  s.modPort p (fun q => { q with sticky := q.sticky ||| 0x20#8, cntDisc := satInc q.cntDisc, lastTicket := 0xFD#8, lastSeq := 0#8 })

/-- R71 discards the frame. -/
def discards (e : Env) (op : Byte) : Bool :=
  !e.crcGood || !e.whole || decide (1 < e.len.toNat) || (e.ticket ≠ 0xFF#8 && op ≠ 0x06#8)

/-- A request is refused BUSY (R81). -/
def State.busy (s : State) (p : PortId) (seq : BitVec 16) : State :=
  s.modPort p (fun q => { q with sticky := q.sticky ||| 0x10#8, cntBusy := satInc q.cntBusy, lastTicket := 0xFE#8, lastSeq := seq.truncate 8 })

/-! ## Performing a request (R74 to R77, R89) -/

/-- The LEN that an operation takes (R74). -/
def requestLen (op : Byte) : Nat := if op = 0x01#8 ∨ op = 0x03#8 ∨ op = 0x05#8 then 1 else 0

/-- The operation is listed and belongs to a revision (R74, R88). -/
def opListed (op : Byte) (rev : Nat) : Bool := decide (op.toNat ≤ 7) && (op ≠ 0x05#8 || decide (2 ≤ rev))

/-- HELLO (R89). -/
def State.hello (s : State) (p : PortId) (seq : BitVec 16) (w : Word) : State × Reply :=
  let chosen := min (fld w 4 4) 2
  if chosen < fld w 0 4 ∨ chosen < 1 then (s, ⟨.refused, 0#32, [0x2100#32, 0x00431624#32]⟩)
  else
    let quad := bit w 8 && decide (chosen = 2)
    (s.modPort p (fun q => { q with helloPend := q.helloPend.filter (fun h => h.1 ≠ seq) ++ [(seq, chosen, quad)] }),
      ⟨.ok, 0#32, [word (0x2100 + b2n quad * 16 + chosen), 0x00431624#32]⟩)

/-- POP and POP_BATCH (R74, R76). -/
def State.popAt (s : State) (a : Addr) (n : Nat) (bad : Option Int) : State × Reply :=
  match decodeAddr a with
  | .popWindow v => s.popWheel v n ((bad.map Int.toNat).getD 0)
  | _ => (s, .badAddr a)

/-- What a request does (R74). DESIGN CHOICE, log entry 113: a POP_BATCH whose count is outside 1 to 64, at an address that is no pop
window, is answered BAD_LEN. -/
def State.perform (s : State) (p : PortId) (q : Request) : State × Reply :=
  match q.op.toNat with
  | 1 => s.hello p q.seq q.payload
  | 2 => s.readAt (portOrigin p) q.addr
  | 3 => s.writeAt (portOrigin p) q.addr q.fallTick q.payload q.obs
  | 4 => s.popAt q.addr 1 q.obs
  | 5 =>
    if 1 ≤ fld q.payload 0 7 ∧ fld q.payload 0 7 ≤ 64 then s.popAt q.addr (fld q.payload 0 7) q.obs
    else (s, ⟨.badLen, q.len.zeroExtend 32, []⟩)
  | _ => (s, ⟨.badOp, q.op.zeroExtend 32, []⟩)

/-- The request is a release whose response waits for its Rings (R348). -/
def State.waitsRelease (s : State) (p : PortId) (q : Request) : Bool :=
  q.op = 0x03#8 && decide (decodeAddr q.addr = .reg (.flt .release)) && (s.releaseOf p).isSome

/-- A request starts: its effect takes place, and its response is being made (R77, R78; log entry 11). -/
def State.execRequest (s : State) (p : PortId) (q : Request) : State :=
  match q.canned with
  | some r => s.modPort p (fun o => { o with executing := some (q, r) })
  | none =>
    let (t, rep) := (s.modPort p (fun o => { o with executing := some (q, mkResponse q .done) })).perform p q
    t.modPort p (fun o => { o with executing := o.executing.map (fun e => (e.1,
      if t.waitsRelease p q then e.2 else mkResponse q rep)) })

/-- The next request of a port starts when none executes (R78). -/
def State.startNext (s : State) (p : PortId) : State :=
  match (s.port p).executing, (s.port p).waiting with
  | none, q :: rest => (s.modPort p (fun o => { o with waiting := rest })).execRequest p q
  | _, _ => s

/-! ## The sequence window (R84, R85) -/

/-- The entry of a SEQ. -/
def Port.entry (q : Port) (seq : BitVec 16) : Option WinEntry := q.window.find? (fun e => e.seq = seq)

/-- A request enters the window, which keeps the last 64 (R84). -/
def Port.enter (q : Port) (e : WinEntry) : Port :=
  { q with window := (q.window ++ [e]).drop (q.window.length + 1 - 64), seqValid := true, seqLast := e.seq }

/-- A frame as the port reads it. -/
structure HostFrame where
  op : Byte
  addr : Addr
  w : Word
  obs : Option Int
  env : Env
  deriving DecidableEq, Repr

def HostFrame.crc (f : HostFrame) : BitVec 16 := crc16 (requestBytes f.op f.env.ticket f.addr f.env.len f.env.seq f.w)

/-- The entry was made by an equal request (R84). -/
def WinEntry.same (e : WinEntry) (f : HostFrame) : Bool :=
  e.op = f.op && e.addr = f.addr && e.len = f.env.len && e.crc = f.crc

/-- A refusal that the frame meets by itself: BAD_OP before BAD_LEN (R74). -/
def HostFrame.refusal (f : HostFrame) (rev : Nat) : Option Reply :=
  if !opListed f.op rev then some ⟨.badOp, f.op.zeroExtend 32, []⟩
  else if f.env.len.toNat ≠ requestLen f.op then some ⟨.badLen, f.env.len.zeroExtend 32, []⟩
  else none

/-- A request takes its ticket and waits for its turn (R78, R80). -/
def State.queue (s : State) (f : HostFrame) (rep : Option Reply) (enter : Bool) : State :=
  let p := f.env.port
  let t := s.pickTicket f.env.grant
  let q : Request :=
    { ticket := t, op := f.op, addr := f.addr, len := f.env.len, seq := f.env.seq, payload := f.w, fallTick := s.tickLo, obs := f.obs
      canned := none }
  let q' := { q with canned := rep.map (mkResponse q) }
  let s1 := (s.takeTicket (portMaster p) t).modPort p (fun o =>
    let o1 := { o with waiting := o.waiting ++ [q'] }
    if enter then o1.enter ⟨f.env.seq, f.op, f.addr, f.env.len, f.crc, t, true, none⟩ else o1)
  (s1.note p (BitVec.ofNat 8 t.1) f.env.seq).startNext p

/-- A response comes from the cache on a new ticket, ready at once, and its TICKET byte is the new ticket's number; the request is not
entered anew in the window, whose latest SEQ stays (R84; log entry 95). -/
def State.recall (s : State) (f : HostFrame) (e : WinEntry) (r : Response) : State :=
  let p := f.env.port
  let t := s.pickTicket f.env.grant
  let s1 := s.readyTicket (portMaster p) t { r with ticket := BitVec.ofNat 8 t.1 }
  (s1.modPort p (fun o =>
    { o with
      window := o.window.map (fun x => if x.seq = e.seq then { x with ticket := t, held := true } else x)
      dupAns := satInc o.dupAns })).note p (BitVec.ofNat 8 t.1) f.env.seq

/-- A request that needs a ticket (R81, R84). A NOP or RELEASE with a payload is answered BAD_LEN and not entered in the window (log
entry 95). -/
def State.request (s : State) (f : HostFrame) : State :=
  let p := f.env.port
  let free := s.mayTake (portMaster p)
  if f.op = 0x00#8 || f.op = 0x07#8 then
    (if free then s.queue f (f.refusal (s.port p).rev) false else s.busy p f.env.seq)
  else match (s.port p).entry f.env.seq with
  | none => if free then s.queue f (f.refusal (s.port p).rev) true else s.busy p f.env.seq
  | some e =>
    if e.same f then
      match e.held, e.resp with
      | true, _ =>
        (s.modPort p (fun o => { o with dupAns := satInc o.dupAns })).note p (BitVec.ofNat 8 e.ticket.1) f.env.seq
      | false, some r => if free then s.recall f e r else s.busy p f.env.seq
      | false, none => s.note p (BitVec.ofNat 8 e.ticket.1) f.env.seq
    else if free then
      (s.modPort p (fun o => { o with dupConf := satInc o.dupConf })).queue f
        (some ⟨.dupConflict, f.env.seq.zeroExtend 32, []⟩) false
    else s.busy p f.env.seq

/-- RELEASE (R74): the port's ready tickets become free, and those that execute are retired as they become ready. -/
def State.releaseTickets (s : State) (p : PortId) : State :=
  let m := portMaster p
  let s1 := forEach (List.finRange 64) (fun i t => if (t.tickets[i.1]).readyFor m then t.freeTicket i else t) s
  { s1 with tickets := s1.tickets.map (fun t => match t.st with
      | .exec n _ => if n = m then { t with st := .exec n true } else t
      | _ => t) }

/-! ## Frames on the wire -/

/-- The ports answer (R45, R49, R50). -/
def State.portsAnswer (s : State) : Bool := s.vioOk

/-- A frame that finds the device in CELLAR mode wakes it, and is discarded (R71, R471). -/
def State.cellarFrame (s : State) (p : PortId) (mode3 : Bool) : State :=
  ((s.csFall p mode3).wake (1 + (pix p).1) 0).discardFrame p

/-- A frame that is not a FETCH (R71, R74, R84). -/
def State.submit (s : State) (f : HostFrame) : State :=
  let p := f.env.port
  if !s.portsAnswer then s
  else if s.pwr.mode = .cellar && !s.pwr.waking then s.cellarFrame p f.env.mode3
  else
    let s1 := s.csFall p f.env.mode3
    if discards f.env f.op then s1.discardFrame p
    else if f.op = 0x00#8 && f.env.len = 0#8 then s1.note p 0xFC#8 f.env.seq
    else if f.op = 0x07#8 && f.env.len = 0#8 then (s1.releaseTickets p).note p 0xFC#8 f.env.seq
    else s1.request f

/-- The three sources of a wake (R471, R473). CS_N activity is a frame that finds the device in CELLAR mode (R71). -/
def execWake (o : WakeObs) (s : State) : Host.Outcome State Fault Refusal :=
  ok <| whenDo (s.pwr.mode = .cellar)
    (fun s => match o with
      | .csn p mode3 => whenDo s.portsAnswer (fun s => s.cellarFrame p mode3) s
      | .channel n => whenDo (s.wakeChange n) (fun s => s.wake 3 n.1) s
      | .sync => whenDo (s.vioOk && s.pwr.syncWake && s.bg.syncMode ≠ 2) (fun s => s.wake 4 0) s) s

/-! ## FETCH (R73, R82, R90) -/

/-- The order in which ready responses became ready. -/
def Ticket.order (t : Ticket) : Nat :=
  match t.st with
  | .ready _ _ k => k
  | _ => 0

/-- The ticket that a FETCH finds (R73): the one it names, or the oldest ready one of its port. -/
def State.fetchTicket (s : State) (p : PortId) (want : Byte) : Option (Fin 64) :=
  let m := portMaster p
  let ready := (List.finRange 64).filter (fun t => (s.tickets[t.1]).readyFor m)
  if want = 0xFF#8 then
    ready.foldl (fun (best : Option (Fin 64)) t => match best with
      | none => some t
      | some b => if (s.tickets[t.1]).order < (s.tickets[b.1]).order then some t else some b) none
  else ready.find? (fun t => t.1 = want.toNat)

/-- A response that belongs to no ticket, sent in the FETCH frame itself. Its TICKET and SEQ are those of the FETCH frame, and its OP
0x06 (log entry 94). -/
def fetchAnswer (e : Env) (st : Status) (info : Word) : Response :=
  { rstat := st.code, ticket := e.ticket, seq := e.seq, op := 0x06#8, info := info, data := [] }

/-- The response is delivered: its ticket is free, and a HELLO takes effect at the next CS_N fall (R73, R90). -/
def State.deliver (s : State) (p : PortId) (t : Fin 64) : State :=
  let hello := ((s.tickets[t.1]).resp).bind (fun r =>
    if r.op = 0x01#8 && r.rstat = 0x00#8 then (s.port p).helloPend.find? (fun h => h.1 = r.seq) else none)
  (s.freeTicket t).modPort p (fun o => match hello with
    | some h => { o with helloPend := o.helloPend.filter (fun k => k.1 ≠ h.1), helloDone := some (h.2.1, h.2.2) }
    | none => o)

def State.sendFetched (s : State) (p : PortId) (r : Response) : State := s.modPort p (fun o => { o with out := { o.out with fetched := some r } })

/-- A FETCH frame; `clocked` says that the host clocked out the whole response (R73). A failed CRC comes before every other check, and a
LEN of 1 is answered BAD_LEN in the frame itself, without a ticket (R71, R74; log entry 94). -/
def State.fetch (s : State) (e : Env) (clocked : Bool) : State :=
  let p := e.port
  if !s.portsAnswer then s
  else if s.pwr.mode = .cellar && !s.pwr.waking then s.cellarFrame p e.mode3
  else
    let s1 := s.csFall p e.mode3
    if !e.crcGood then (s1.sendFetched p (fetchAnswer e .badFrame 0#32)).discardFrame p
    else if !e.whole || decide (1 < e.len.toNat) then s1.discardFrame p
    else if e.len ≠ 0#8 then (s1.sendFetched p (fetchAnswer e .badLen (e.len.zeroExtend 32))).note p 0xFC#8 e.seq
    else
      match s1.fetchTicket p e.ticket with
      | none => (s1.sendFetched p (fetchAnswer e .none 0#32)).note p 0xFC#8 e.seq
      | some t =>
        let r := ((s1.tickets[t.1]).resp).getD (fetchAnswer e .none 0#32)
        let s2 := (s1.sendFetched p r).note p 0xFC#8 e.seq
        if clocked then s2.deliver p t else s2

/-! ## Responses -/

/-- A ticket in EXEC that a RELEASE asked to retire (R74). -/
def Ticket.dropped (t : Ticket) : Bool :=
  match t.st with
  | .exec _ d => d
  | _ => false

/-- The response of a port's request becomes ready, and the next request starts (R78, R80). A FLT_RELEASE waits for its Rings
(R348). -/
def State.complete (s : State) (p : PortId) : State :=
  match (s.port p).executing with
  | none => s
  | some (q, r) =>
    let m := portMaster p
    let s1 := s.modPort p (fun o =>
      { o with
        executing := none
        window := o.window.map (fun e => if e.held && e.ticket = q.ticket then { e with resp := some r } else e) })
    let s2 :=
      if (s.tickets[q.ticket.1]).dropped then (s1.freeTicket q.ticket).modPort p (fun o => { o with sticky := o.sticky ||| 0x40#8, retired := satInc o.retired })
      else s1.readyTicket m q.ticket r
    s2.startNext p

/-- A response becomes ready (R78, R80). -/
def execResponseReady (p : PortId) (s : State) : Host.Outcome State Fault Refusal :=
  ok <| whenDo (s.phase = .run && (s.releaseOf p).isNone) (fun s => s.complete p) s

/-- A response that has been ready for RSP_AGE ms is retired (R82). -/
def execResponseRetire (t : Fin 64) (s : State) : Host.Outcome State Fault Refusal :=
  ok <| match (s.tickets[t.1]).st with
    | .ready m since _ =>
      let p : PortId := if m = .hp1 then .hp1 else .hp0
      whenDo (s.phase = .run && decide (since + fld (s.port p).cfg 0 10 * 1000 ≤ s.clock))
        (fun s => (s.freeTicket t).modPort p (fun o => { o with sticky := o.sticky ||| 0x40#8, retired := satInc o.retired })) s
    | _ => s

/-- The port after a low of CS_N for 1 ms without an SCK edge: revision 1, single-line mode, and no frame since (R69, R91). Its LAST_SEQ
is 0 (log entry 95). -/
def Port.reverted (q : Port) : Port :=
  { q with rev := 1, quad := false, sticky := q.sticky ||| 0x80#8, lastTicket := 0xFF#8, lastSeq := 0#8 }

/-- CS_N falls, which takes the SPI mode (R66), and stays low for 1 ms without an SCK edge: the port reverts (R91). In CELLAR mode the
fall is a wake (R471). -/
def execPortRevert (p : PortId) (mode3 : Bool) (s : State) : Host.Outcome State Fault Refusal :=
  ok <| whenDo s.portsAnswer
    (fun s =>
      let s1 := s.csFall p mode3
      let s2 := if s.pwr.mode = .cellar && !s.pwr.waking then s1.wake (1 + (pix p).1) 0 else s1
      s2.modPort p Port.reverted) s

end Sys2Proof.Machine
end

