-- ==== Sys2Proof/Machine/HostRows.lean ====
section
/-! DEFINITION. The rows of the host: each is a frame on its port, with the operation and the register that the row names
(03_host_ports.md, R63 to R91, and the chapter of each register). A command bit of a register stands alone in the row that
names it. -/

namespace Sys2Proof.Machine

/-- The operation codes (R74). -/
def opNop : Byte := 0x00#8
def opHello : Byte := 0x01#8
def opRead : Byte := 0x02#8
def opWrite : Byte := 0x03#8
def opPop : Byte := 0x04#8
def opPopBatch : Byte := 0x05#8
def opRelease : Byte := 0x07#8

/-- The four registers of a fabric group (R156). -/
def hsigReg (i : Fin 4) : FabReg :=
  match i with
  | 0 => .hsig0
  | 1 => .hsig1
  | 2 => .hsig2
  | 3 => .hsig3

def hsigsetReg (i : Fin 4) : FabReg :=
  match i with
  | 0 => .hsigset0
  | 1 => .hsigset1
  | 2 => .hsigset2
  | 3 => .hsigset3

def hsigclrReg (i : Fin 4) : FabReg :=
  match i with
  | 0 => .hsigclr0
  | 1 => .hsigclr1
  | 2 => .hsigclr2
  | 3 => .hsigclr3

def hsigplsReg (i : Fin 4) : FabReg :=
  match i with
  | 0 => .hsigpls0
  | 1 => .hsigpls1
  | 2 => .hsigpls2
  | 3 => .hsigpls3

def winReg (i : Fin 4) : FabReg :=
  match i with
  | 0 => .win0
  | 1 => .win1
  | 2 => .win2
  | 3 => .win3

/-- The register of an input parameter (R169). -/
def inputReg (r : InputReg) : ChReg :=
  match r with
  | .cfg => .diCfg
  | .time => .diTime
  | .vth => .diVth
  | .chat => .diChat
  | .cntcfg => .diCntcfg

/-- The register of a threshold parameter (R306). -/
def threshReg (r : ThreshReg) : FiltChReg :=
  match r with
  | .hi => .thhi
  | .lo => .thlo
  | .cfg => .thcfg

/-- A MODE word with FUNC, PARTNER and GANGED of another (R508). -/
def keepFunction (old w : Word) : Word := setFld (setFld (setFld w 0 4 (fld old 0 4)) 8 5 (fld old 8 5)) 17 1 (fld old 17 1)

/-- NOP (R74). -/
def execNop (e : Env) (a : Addr) (w : Word) (s : State) : Host.Outcome State Fault Refusal :=
  ok (s.submit ⟨opNop, a, w, none, e⟩)

/-- HELLO (R89). -/
def execHello (e : Env) (a : Addr) (w : Word) (s : State) : Host.Outcome State Fault Refusal :=
  ok (s.submit ⟨opHello, a, w, none, e⟩)

/-- READ (R74, R75). -/
def execRead (e : Env) (a : Addr) (w : Word) (s : State) : Host.Outcome State Fault Refusal :=
  ok (s.submit ⟨opRead, a, w, none, e⟩)

/-- WRITE (R74, R77). -/
def execWrite (e : Env) (a : Addr) (w : Word) (obs : Option Int) (s : State) : Host.Outcome State Fault Refusal :=
  ok (s.submit ⟨opWrite, a, w, obs, e⟩)

/-- A write of W1C bits (R5). -/
def execStatusClear (e : Env) (a : Addr) (w : Word) (s : State) : Host.Outcome State Fault Refusal :=
  ok (s.submit ⟨opWrite, a, w, none, e⟩)

/-- POP (R328); `bad` is an entry whose stored bits fail. -/
def execPop (e : Env) (a : Addr) (w : Word) (bad : Bool) (s : State) : Host.Outcome State Fault Refusal :=
  ok (s.submit ⟨opPop, a, w, if bad then some 1 else none, e⟩)

/-- POP_BATCH (R76, R328); `bad` has a bit for each of its pops that meets an entry whose stored bits fail. -/
def execPopBatch (e : Env) (a : Addr) (w : Word) (bad : BitVec 64) (s : State) : Host.Outcome State Fault Refusal :=
  ok (s.submit ⟨opPopBatch, a, w, if bad = 0#64 then none else some (bad.toNat : Int), e⟩)

/-- FETCH (R73); `whole` says that the host clocks out the response to its end. -/
def execFetch (e : Env) (_a : Addr) (_w : Word) (whole : Bool) (s : State) : Host.Outcome State Fault Refusal := ok (s.fetch e whole)

/-- RELEASE (R74). -/
def execRelease (e : Env) (a : Addr) (w : Word) (s : State) : Host.Outcome State Fault Refusal :=
  ok (s.submit ⟨opRelease, a, w, none, e⟩)

/-- A frame whose operation is not listed, or belongs to another revision (R74, R88). -/
def execUnknownOp (e : Env) (op : Byte) (a : Addr) (w : Word) (s : State) : Host.Outcome State Fault Refusal :=
  ok (s.submit ⟨op, a, w, none, e⟩)

/-- TIME_MARK (R93). -/
def execTimeMark (e : Env) (w : Word) (s : State) : Host.Outcome State Fault Refusal :=
  ok (s.submit ⟨opWrite, Reg.addr (.time .mark), w, none, e⟩)

/-- TIME_CALTAG_LO (R87). -/
def execCaltagStage (e : Env) (w : Word) (s : State) : Host.Outcome State Fault Refusal :=
  ok (s.submit ⟨opWrite, Reg.addr (.time .caltagLo), w, none, e⟩)

/-- TIME_CALTAG_HI (R87, R92). -/
def execCaltagCommit (e : Env) (w : Word) (s : State) : Host.Outcome State Fault Refusal :=
  ok (s.submit ⟨opWrite, Reg.addr (.time .caltagHi), w, none, e⟩)

/-- OPEN (R114) of IMG_CTRL. -/
def execImgOpen (e : Env) (w : Word) (s : State) : Host.Outcome State Fault Refusal :=
  ok (s.submit ⟨opWrite, Reg.addr (.img .ctrl), (setFld w 0 4 1), none, e⟩)

/-- CLOSE (R114) of IMG_CTRL. -/
def execImgClose (e : Env) (w : Word) (s : State) : Host.Outcome State Fault Refusal :=
  ok (s.submit ⟨opWrite, Reg.addr (.img .ctrl), (setFld w 0 4 2), none, e⟩)

/-- ACTIVATE (R120) of IMG_CTRL. -/
def execActivate (e : Env) (w : Word) (s : State) : Host.Outcome State Fault Refusal :=
  ok (s.submit ⟨opWrite, Reg.addr (.img .ctrl), (setFld w 0 4 3), none, e⟩)

/-- ABORT (R114) of IMG_CTRL. -/
def execImgAbort (e : Env) (w : Word) (s : State) : Host.Outcome State Fault Refusal :=
  ok (s.submit ⟨opWrite, Reg.addr (.img .ctrl), (setFld w 0 4 4), none, e⟩)

/-- IMG_WDATA (R112); `fails` is a word that the cellar store does not take. -/
def execImgWdata (e : Env) (w : Word) (fails : Bool) (s : State) : Host.Outcome State Fault Refusal :=
  ok (s.submit ⟨opWrite, Reg.addr (.img .wdata), w, if fails then some 1 else none, e⟩)

/-- IMG_CLAIMQ (R128). -/
def execClaimQuery (e : Env) (w : Word) (s : State) : Host.Outcome State Fault Refusal :=
  ok (s.submit ⟨opWrite, Reg.addr (.img .claimq), w, none, e⟩)

/-- FAB_HSIGi (R141). -/
def execFabHsigWrite (e : Env) (i : Fin 4) (w : Word) (s : State) : Host.Outcome State Fault Refusal :=
  ok (s.submit ⟨opWrite, Reg.addr (.fab (hsigReg i)), w, none, e⟩)

/-- FAB_HSIGSETi (R141). -/
def execFabHsigset (e : Env) (i : Fin 4) (w : Word) (s : State) : Host.Outcome State Fault Refusal :=
  ok (s.submit ⟨opWrite, Reg.addr (.fab (hsigsetReg i)), w, none, e⟩)

/-- FAB_HSIGCLRi (R141). -/
def execFabHsigclr (e : Env) (i : Fin 4) (w : Word) (s : State) : Host.Outcome State Fault Refusal :=
  ok (s.submit ⟨opWrite, Reg.addr (.fab (hsigclrReg i)), w, none, e⟩)

/-- FAB_HSIGPLSi (R141). -/
def execFabHsigpls (e : Env) (i : Fin 4) (w : Word) (s : State) : Host.Outcome State Fault Refusal :=
  ok (s.submit ⟨opWrite, Reg.addr (.fab (hsigplsReg i)), w, none, e⟩)

/-- FAB_WINi (R154). -/
def execFabWin (e : Env) (i : Fin 4) (w : Word) (s : State) : Host.Outcome State Fault Refusal :=
  ok (s.submit ⟨opWrite, Reg.addr (.fab (winReg i)), w, none, e⟩)

/-- FAB_SEL (R154). -/
def execFabSel (e : Env) (w : Word) (s : State) : Host.Outcome State Fault Refusal :=
  ok (s.submit ⟨opWrite, Reg.addr (.fab .sel), w, none, e⟩)

/-- FAB_APPLY (R154). -/
def execFabApply (e : Env) (w : Word) (s : State) : Host.Outcome State Fault Refusal :=
  ok (s.submit ⟨opWrite, Reg.addr (.fab .apply), w, none, e⟩)

/-- STEP_N (R155). -/
def execFabStepcfg (e : Env) (w : Word) (s : State) : Host.Outcome State Fault Refusal :=
  ok (s.submit ⟨opWrite, Reg.addr (.fab .stepcfg), w, none, e⟩)

/-- CHn_MODE (R183). -/
def execFunctionChange (e : Env) (n : Ch) (w : Word) (s : State) : Host.Outcome State Fault Refusal :=
  ok (s.submit ⟨opWrite, Reg.addr (.ch n .mode), w, none, e⟩)

/-- CHn_MODE with the function, the partner and the gang bit that it has (R508). -/
def execModeParamWrite (e : Env) (n : Ch) (w : Word) (s : State) : Host.Outcome State Fault Refusal :=
  ok (s.submit ⟨opWrite, Reg.addr (.ch n .mode), (keepFunction (s.chan n).cfg.mode w), none, e⟩)

/-- An input parameter of a channel (R169). -/
def execInputParamWrite (e : Env) (n : Ch) (r : InputReg) (w : Word) (s : State) : Host.Outcome State Fault Refusal :=
  ok (s.submit ⟨opWrite, Reg.addr (.ch n (inputReg r)), w, none, e⟩)

/-- CHn_DI_COUNT (R176). -/
def execDiCountWrite (e : Env) (n : Ch) (w : Word) (s : State) : Host.Outcome State Fault Refusal :=
  ok (s.submit ⟨opWrite, Reg.addr (.ch n .diCount), w, none, e⟩)

/-- CHn_DO_CMD (R188). -/
def execDoCmdWrite (e : Env) (n : Ch) (w : Word) (s : State) : Host.Outcome State Fault Refusal :=
  ok (s.submit ⟨opWrite, Reg.addr (.ch n .doCmd), w, none, e⟩)

/-- CHn_DO_DUTY (R190). -/
def execDoDutyWrite (e : Env) (n : Ch) (w : Word) (s : State) : Host.Outcome State Fault Refusal :=
  ok (s.submit ⟨opWrite, Reg.addr (.ch n .doDuty), w, none, e⟩)

/-- RINGx_LOADCFG with SHED_EN = 0 (R510). -/
def execShedEnOff (e : Env) (x : RingId) (w : Word) (s : State) : Host.Outcome State Fault Refusal :=
  ok (s.submit ⟨opWrite, Reg.addr (.ring x .loadcfg), (setFld w 15 1 0), none, e⟩)

/-- CHn_AN_SET (R219). -/
def execAnSetWrite (e : Env) (n : Ch) (w : Word) (s : State) : Host.Outcome State Fault Refusal :=
  ok (s.submit ⟨opWrite, Reg.addr (.ch n .anSet), w, none, e⟩)

/-- CHn_AN_CMD (R219). -/
def execAnCmdWrite (e : Env) (n : Ch) (w : Word) (s : State) : Host.Outcome State Fault Refusal :=
  ok (s.submit ⟨opWrite, Reg.addr (.ch n .anCmd), w, none, e⟩)

/-- CAP_ZERO of CHn_AN_ZSCMD (R230). -/
def execCapZero (e : Env) (n : Ch) (w : Word) (s : State) : Host.Outcome State Fault Refusal :=
  ok (s.submit ⟨opWrite, Reg.addr (.ch n .anZscmd), (setFld w 0 3 1), none, e⟩)

/-- CAP_SPAN of CHn_AN_ZSCMD (R230). -/
def execCapSpan (e : Env) (n : Ch) (w : Word) (s : State) : Host.Outcome State Fault Refusal :=
  ok (s.submit ⟨opWrite, Reg.addr (.ch n .anZscmd), (setFld w 0 3 2), none, e⟩)

/-- CLEAR of CHn_AN_ZSCMD (R230). -/
def execZsClear (e : Env) (n : Ch) (w : Word) (s : State) : Host.Outcome State Fault Refusal :=
  ok (s.submit ⟨opWrite, Reg.addr (.ch n .anZscmd), (setFld w 0 3 4), none, e⟩)

/-- CHn_AN_TRIM_GAIN or CHn_AN_TRIM_OFS (R233). -/
def execTrimWrite (e : Env) (n : Ch) (gain : Bool) (w : Word) (s : State) : Host.Outcome State Fault Refusal :=
  ok (s.submit ⟨opWrite, Reg.addr (.ch n (if gain then .anTrimGain else .anTrimOfs)), w, none, e⟩)

/-- SVC_ARM (R232). -/
def execSvcArm (e : Env) (w : Word) (s : State) : Host.Outcome State Fault Refusal :=
  ok (s.submit ⟨opWrite, Reg.addr (.svc .arm), w, none, e⟩)

/-- RINGx_FSK_TX (R237). -/
def execFskTx (e : Env) (x : RingId) (w : Word) (s : State) : Host.Outcome State Fault Refusal :=
  ok (s.submit ⟨opWrite, Reg.addr (.ring x .fskTx), w, none, e⟩)

/-- A read of RINGx_FSK_RX (R238). -/
def execFskRxRead (e : Env) (x : RingId) (w : Word) (s : State) : Host.Outcome State Fault Refusal :=
  ok (s.submit ⟨opRead, Reg.addr (.ring x .fskRx), w, none, e⟩)

/-- RESEED of CHn_TCH_CMD (R254). -/
def execReseed (e : Env) (n : Ch) (w : Word) (s : State) : Host.Outcome State Fault Refusal :=
  ok (s.submit ⟨opWrite, Reg.addr (.ch n .tchCmd), (setFld w 0 1 1), none, e⟩)

/-- ADCx_ENTRYi (R284). -/
def execAdcEntryWrite (e : Env) (x : RingId) (i : Fin 64) (w : Word) (s : State) : Host.Outcome State Fault Refusal :=
  ok (s.submit ⟨opWrite, Reg.addr (.adcEntry x i), w, none, e⟩)

/-- ADCx_REFCFG (R284). -/
def execAdcRefcfgWrite (e : Env) (x : RingId) (w : Word) (s : State) : Host.Outcome State Fault Refusal :=
  ok (s.submit ⟨opWrite, Reg.addr (.adc x .refcfg), w, none, e⟩)

/-- ADCx_ROTCFG (R284). -/
def execAdcRotcfgWrite (e : Env) (x : RingId) (w : Word) (s : State) : Host.Outcome State Fault Refusal :=
  ok (s.submit ⟨opWrite, Reg.addr (.adc x .rotcfg), w, none, e⟩)

/-- FILT_CHn_CFG (R309). -/
def execFiltChnCfgWrite (e : Env) (n : Ch) (w : Word) (s : State) : Host.Outcome State Fault Refusal :=
  ok (s.submit ⟨opWrite, Reg.addr (.filtCh n .cfg), w, none, e⟩)

/-- FILT_CFG (R309). -/
def execFiltCfgWrite (e : Env) (w : Word) (s : State) : Host.Outcome State Fault Refusal :=
  ok (s.submit ⟨opWrite, Reg.addr (.filt .cfg), w, none, e⟩)

/-- A threshold register of a chain (R306). -/
def execThresholdWrite (e : Env) (n : Ch) (r : ThreshReg) (w : Word) (s : State) : Host.Outcome State Fault Refusal :=
  ok (s.submit ⟨opWrite, Reg.addr (.filtCh n (threshReg r)), w, none, e⟩)

/-- GO of FILT_SYNC (R301). -/
def execFiltSyncGo (e : Env) (w : Word) (s : State) : Host.Outcome State Fault Refusal :=
  ok (s.submit ⟨opWrite, Reg.addr (.filt .sync), (setFld w 0 2 1), none, e⟩)

/-- ARM of FILT_SYNC (R301). -/
def execFiltSyncArm (e : Env) (w : Word) (s : State) : Host.Outcome State Fault Refusal :=
  ok (s.submit ⟨opWrite, Reg.addr (.filt .sync), (setFld w 0 2 2), none, e⟩)

/-- FLUSH of WHLw_CMD (R326). -/
def execWheelFlush (e : Env) (k : WheelId) (w : Word) (s : State) : Host.Outcome State Fault Refusal :=
  ok (s.submit ⟨opWrite, Reg.addr (.whl k .cmd), (setFld w 0 1 1), none, e⟩)

/-- WHLw_PROD (R333). -/
def execWheelProdWrite (e : Env) (k : WheelId) (w : Word) (s : State) : Host.Outcome State Fault Refusal :=
  ok (s.submit ⟨opWrite, Reg.addr (.whl k .prod), w, none, e⟩)

/-- FLT_RELEASE (R347). -/
def execFltRelease (e : Env) (w : Word) (s : State) : Host.Outcome State Fault Refusal :=
  ok (s.submit ⟨opWrite, Reg.addr (.flt .release), w, none, e⟩)

/-- FLT_WD_KICK (R353). -/
def execWdKick (e : Env) (w : Word) (s : State) : Host.Outcome State Fault Refusal :=
  ok (s.submit ⟨opWrite, Reg.addr (.flt .wdKick), w, none, e⟩)

/-- REARM of FLT_WD_CMD (R354). -/
def execRearm (e : Env) (w : Word) (s : State) : Host.Outcome State Fault Refusal :=
  ok (s.submit ⟨opWrite, Reg.addr (.flt .wdCmd), (setFld w 0 1 1), none, e⟩)

/-- FLT_WD_CFG (R353). -/
def execFltWdCfgWrite (e : Env) (w : Word) (s : State) : Host.Outcome State Fault Refusal :=
  ok (s.submit ⟨opWrite, Reg.addr (.flt .wdCfg), w, none, e⟩)

/-- RAISE of FLT_INJ (R360). -/
def execInjRaise (e : Env) (w : Word) (s : State) : Host.Outcome State Fault Refusal :=
  ok (s.submit ⟨opWrite, Reg.addr (.flt .inj), (setFld w 16 2 1), none, e⟩)

/-- CLEAR of FLT_INJ (R360). -/
def execInjClear (e : Env) (w : Word) (s : State) : Host.Outcome State Fault Refusal :=
  ok (s.submit ⟨opWrite, Reg.addr (.flt .inj), (setFld w 16 2 2), none, e⟩)

/-- PULSE of FLT_INJ (R360). -/
def execInjPulse (e : Env) (w : Word) (s : State) : Host.Outcome State Fault Refusal :=
  ok (s.submit ⟨opWrite, Reg.addr (.flt .inj), (setFld w 16 2 3), none, e⟩)

/-- FLT_INJCFG (R362). -/
def execFltInjcfgWrite (e : Env) (w : Word) (s : State) : Host.Outcome State Fault Refusal :=
  ok (s.submit ⟨opWrite, Reg.addr (.flt .injcfg), w, none, e⟩)

/-- FLT_REACTk (R344). -/
def execFltReactWrite (e : Env) (k : Fin 256) (w : Word) (s : State) : Host.Outcome State Fault Refusal :=
  ok (s.submit ⟨opWrite, Reg.addr (.fltReact k), w, none, e⟩)

/-- FLT_CHSAFEn (R346). -/
def execFltChsafeWrite (e : Env) (n : Ch) (w : Word) (s : State) : Host.Outcome State Fault Refusal :=
  ok (s.submit ⟨opWrite, Reg.addr (.fltChsafe n), w, none, e⟩)

/-- REC_CLEAR (R382). -/
def execRecClear (e : Env) (w : Word) (s : State) : Host.Outcome State Fault Refusal :=
  ok (s.submit ⟨opWrite, Reg.addr (.recd .clear), w, none, e⟩)

/-- JNL_CLEAR (R382). -/
def execJnlClear (e : Env) (w : Word) (s : State) : Host.Outcome State Fault Refusal :=
  ok (s.submit ⟨opWrite, Reg.addr (.recd .jclear), w, none, e⟩)

/-- JNL_CURSOR or REC_CURSOR (R380); `bad` says that the record's stored CRC does not match. -/
def execCursorWrite (e : Env) (journal : Bool) (w : Word) (bad : Bool) (s : State) : Host.Outcome State Fault Refusal :=
  ok (s.submit ⟨opWrite, Reg.addr (.recd (if journal then .jcursor else .cursor)), w, if bad then some 1 else none, e⟩)

/-- TRIGGER (R394) of RPL_CMD. -/
def execReplayTrigger (e : Env) (w : Word) (s : State) : Host.Outcome State Fault Refusal :=
  ok (s.submit ⟨opWrite, Reg.addr (.rpl .cmd), (setFld w 0 5 1), none, e⟩)

/-- ERASE (R399) of RPL_CMD. -/
def execReplayErase (e : Env) (w : Word) (s : State) : Host.Outcome State Fault Refusal :=
  ok (s.submit ⟨opWrite, Reg.addr (.rpl .cmd), (setFld w 0 5 2), none, e⟩)

/-- RERUN (R401) of RPL_CMD. -/
def execRerun (e : Env) (w : Word) (s : State) : Host.Outcome State Fault Refusal :=
  ok (s.submit ⟨opWrite, Reg.addr (.rpl .cmd), (setFld w 0 5 4), none, e⟩)

/-- ABORT_RERUN (R401) of RPL_CMD. -/
def execAbortRerun (e : Env) (w : Word) (s : State) : Host.Outcome State Fault Refusal :=
  ok (s.submit ⟨opWrite, Reg.addr (.rpl .cmd), (setFld w 0 5 8), none, e⟩)

/-- SEAL (R404) of RPL_CMD. -/
def execSeal (e : Env) (w : Word) (s : State) : Host.Outcome State Fault Refusal :=
  ok (s.submit ⟨opWrite, Reg.addr (.rpl .cmd), (setFld w 0 5 16), none, e⟩)

/-- RPL_MODE (R400). -/
def execReplayModeWrite (e : Env) (w : Word) (s : State) : Host.Outcome State Fault Refusal :=
  ok (s.submit ⟨opWrite, Reg.addr (.rpl .mode), w, none, e⟩)

/-- An access of RPL_XDATA: a load of a word, or a read of one (R404). -/
def execRplXdata (e : Env) (store : Bool) (w : Word) (s : State) : Host.Outcome State Fault Refusal :=
  ok (s.submit ⟨if store then opWrite else opRead, Reg.addr (.rpl .xdata), w, none, e⟩)

/-- START of CHKu_CMD (R411). -/
def execChkStart (e : Env) (u : Fin 4) (w : Word) (s : State) : Host.Outcome State Fault Refusal :=
  ok (s.submit ⟨opWrite, Reg.addr (.chk u .cmd), (setFld w 0 3 1), none, e⟩)

/-- SCAN of CHKu_CMD (R411). -/
def execChkScan (e : Env) (u : Fin 4) (w : Word) (s : State) : Host.Outcome State Fault Refusal :=
  ok (s.submit ⟨opWrite, Reg.addr (.chk u .cmd), (setFld w 0 3 2), none, e⟩)

/-- ABORT of CHKu_CMD (R411). -/
def execChkAbort (e : Env) (u : Fin 4) (w : Word) (s : State) : Host.Outcome State Fault Refusal :=
  ok (s.submit ⟨opWrite, Reg.addr (.chk u .cmd), (setFld w 0 3 4), none, e⟩)

/-- CHKu_DATA (R410). -/
def execChkData (e : Env) (u : Fin 4) (w : Word) (s : State) : Host.Outcome State Fault Refusal :=
  ok (s.submit ⟨opWrite, Reg.addr (.chk u .data), w, none, e⟩)

/-- CHKu_RUN (R415). -/
def execChkRunWrite (e : Env) (u : Fin 4) (w : Word) (s : State) : Host.Outcome State Fault Refusal :=
  ok (s.submit ⟨opWrite, Reg.addr (.chk u .run), w, none, e⟩)

/-- SWAP (R446) of PAIR_CMD. -/
def execPairSwap (e : Env) (w : Word) (s : State) : Host.Outcome State Fault Refusal :=
  ok (s.submit ⟨opWrite, Reg.addr (.pair .cmd), (setFld w 0 3 1), none, e⟩)

/-- RELEASE (R438) of PAIR_CMD. -/
def execPairRelease (e : Env) (w : Word) (s : State) : Host.Outcome State Fault Refusal :=
  ok (s.submit ⟨opWrite, Reg.addr (.pair .cmd), (setFld w 0 3 2), none, e⟩)

/-- REQUALIFY (R438) of PAIR_CMD. -/
def execRequalify (e : Env) (w : Word) (s : State) : Host.Outcome State Fault Refusal :=
  ok (s.submit ⟨opWrite, Reg.addr (.pair .cmd), (setFld w 0 3 4), none, e⟩)

/-- PWR_CTRL.MODE = RUN (R467). -/
def execRunRequest (e : Env) (w : Word) (s : State) : Host.Outcome State Fault Refusal :=
  ok (s.submit ⟨opWrite, Reg.addr (.bg .pwrCtrl), (setFld w 0 2 0), none, e⟩)

/-- PWR_CTRL.MODE = QUIET (R467). -/
def execQuietRequest (e : Env) (w : Word) (s : State) : Host.Outcome State Fault Refusal :=
  ok (s.submit ⟨opWrite, Reg.addr (.bg .pwrCtrl), (setFld w 0 2 1), none, e⟩)

/-- PWR_CTRL.MODE = CELLAR (R467). -/
def execCellarRequest (e : Env) (w : Word) (s : State) : Host.Outcome State Fault Refusal :=
  ok (s.submit ⟨opWrite, Reg.addr (.bg .pwrCtrl), (setFld w 0 2 2), none, e⟩)

end Sys2Proof.Machine
end

