-- ==== Sys2Proof/Machine/Mirror.lean ====
section
/-! DEFINITION. The receipt of a MIRROR frame: the partner's change is applied as by a master of origin 3 (17_pairing.md, R443,
R444). -/

namespace Sys2Proof.Machine

/-- A CAPTURE stores the value (R444): journal space is checked and nothing else of R230. -/
def State.mirrorCapture (s : State) (a : Addr) (v : Word) : State × Reply :=
  let cap := fun (n : Fin 16) (span : Bool) =>
    s.change .trapeze 6 (word (n.1 + b2n span * 256)) v (fun t => t.captureValue n span v.toInt)
  match decodeAddr a with
  | .reg (.ch n .anZcap) => cap n false
  | .reg (.ch n .anScap) => cap n true
  | _ => (s, .badAddr a)

/-- An APPLY stages the record of the element that WORD names and applies it; the selection and the staged words of the
register map stay (R444). A counter's live value comes with the epochs (R442). -/
def State.mirrorApply (s : State) (sel : Word) (win : List Word) : State × Reply :=
  let old := s.fab
  let (s1, r1) := s.fabSel sel
  if r1.status ≠ .ok then (s, r1)
  else
    let k := recordWords s1.fab.selType.toNat
    let s2 := s1.modFab (fun f => { f with staged := Vector.ofFn (fun (i : Fin 4) => if i.1 < k then some (win.getD i.1 0#32) else none) })
    let (s3, r3) := s2.fabApply .trapeze 1#32
    (s3.modFab (fun f => { f with selType := old.selType, selIndex := old.selIndex, staged := old.staged }), r3)

/-- The change of a MIRROR frame, by its FLAGS (R444). -/
def State.mirrorChange (s : State) (b : List Byte) : State × Reply :=
  let a : Addr := BitVec.ofNat 24 (leNat (slice b 0 3))
  let w := word (u32 b 4)
  if (u8 b 3).testBit 0 then s.mirrorCapture a w
  else if (u8 b 3).testBit 1 then s.mirrorApply w ((List.range 4).map (fun i => word (u32 b (16 + 4 * i))))
  else s.writeAt .trapeze a s.tickLo w none

/-- The ACK of a MIRROR frame goes out (R423); after BUSY the change comes again, and is still in flight (R431, R444). -/
def State.sendAck (s : State) (seq : BitVec 16) (code : Byte) : State :=
  (s.modPair (fun p => { p with mirBusy := code = 0xFE#8 })).sendAckOf (.mirror seq code)

/-- A change is performed and answered with its status; a refusal sets MIRROR_GAP on a unit that is
not ACTIVE or SWAPPING (R431, R444). -/
def State.performMirror (s : State) (b : List Byte) : State :=
  let seq := BitVec.ofNat 16 (u16 b 8)
  let (t, rep) := s.mirrorChange b
  let done : Bool := decide (rep.status = .ok)
  let t1 := (t.modPair (fun p => { p with mirLast := seq, mirCode := rep.status.code, mirOwn := if done then p.mirOwn + 1#16 else p.mirOwn })).sendAck seq
    rep.status.code
  (if done || t1.pair.leads then t1 else (t1.modPair (fun p => { p with gapOpen := false })).setUq (t1.pair.uq ||| 16#10)).pairSync

/-- A mirrored change takes a ticket while it is applied (R63, R444). -/
def State.takeMirror (s : State) (b : List Byte) : State :=
  let seq := BitVec.ofNat 16 (u16 b 8)
  if word (u32 b 10) ≠ s.identity.1 || s.pair.driving then s
  else if s.pair.mirLast = seq && seq ≠ 0#16 then s.sendAck seq s.pair.mirCode
  else if !s.mayTake .trapeze then s.sendAck seq 0xFE#8
  else s.onTicket .trapeze (fun t => t.performMirror b)

/-- A MIRROR frame is received (R423, R444): 16 payload bytes, or 32 with APPLY; another length fails. -/
def execMirror (b : List Byte) (s : State) : Host.Outcome State Fault Refusal :=
  ok (s.onFrame (b.length = if (u8 b 3).testBit 1 then 32 else 16) (fun t => t.takeMirror b))

end Sys2Proof.Machine
end

