-- ==== Sys2Proof/Machine/Change.lean ====
section
/-! DEFINITION. What a step start tick does to the channels: function changes and their safe-state step (R121, R183, R508), releases
(R349), and the commands that a commit sends (R144 to R147). -/

namespace Sys2Proof.Machine

/-! ## Function changes (R121, R183, R212, R508) -/

/-- B + 1: the channel runs its new function as after configuration (R121, R167, R183), an output with OFF_BLANK (R194), and
an analog input without a round entry with no value (R272). -/
def State.endHold (s : State) (n : Fin 16) : State :=
  let s1 := (s.restartInput n).modChan n (fun c => ({ c with holdPad := none }).startBlank s.clock)
  let s2 := if (s1.chan n).rng.func = 14 then s1.resetGuard n else s1
  (((s2.applyGuard n).restartChain n).dropUnplaced (ringOf n)).refreshStage n 6

/-- The channels in their safe-state step end it. -/
def State.endHolds (s : State) : State :=
  forEach (allCh.filter (fun n => (s.chan n).holdPad.isSome)) (fun n t => t.endHold n) s

/-- A pending write of CHn_MODE takes effect at its start tick, from which the host die works by the new function, and goes to the Ring (R13,
R183, R508). A Ring without its link takes it
with its configuration (log entry 44). -/
def State.takeMode (s : State) (n : Fin 16) : State :=
  let c := s.chan n
  if !(s.ring (ringOf n)).link || (c.change.isNone && c.modeParams.isNone) then s
  else (s.modChan n Chan.configHost).sendRing (ringOf n) (.mode n c.cfg.mode c.change.isSome)

/-- Function changes at a start tick. -/
def State.changeTick (s : State) : State := forEach allCh (fun n t => t.takeMode n) s.endHolds

/-! ## The commands of a commit (R144, R147) -/

/-- The committed channel destinations reach the Rings (R437, R468): not from a unit that is not active, nor in QUIET mode. -/
def State.drivesReach (s : State) : Bool := !s.pair.standby && s.pwr.mode = .run && !s.pwr.leaving

/-- The committed DRIVE and ALT of a channel leave the host die, where one is bound or was (R144, R147). -/
def State.driveChannel (s : State) (n : Fin 16) : State :=
  let d := s.fab.drives n.1 0
  let a := s.fab.drives n.1 1
  let old := (s.chan n).cmd
  if d.isNone && a.isNone && old.drive.isNone && old.alt.isNone then s
  else
    let t := s.modChan n (fun c => { c with cmd := { c.cmd with drive := d, alt := a } })
    if s.drivesReach then t.sendDrive n else t

def State.driveTick (s : State) : State := forEach allCh (fun n t => t.driveChannel n) s

/-- A DRIVE or ALT whose binding has gone leaves its channel to the host in the step in which the record takes effect (R154). -/
def State.undriveTick (s : State) : State :=
  forEach (allCh.filter (fun n => ((s.chan n).cmd.drive.isSome && (s.fab.drives n.1 0).isNone)
      || ((s.chan n).cmd.alt.isSome && (s.fab.drives n.1 1).isNone)))
    (fun n t =>
      let t1 := t.modChan n (fun c => { c with cmd := { c.cmd with
        drive := if (t.fab.drives n.1 0).isNone then none else c.cmd.drive
        alt := if (t.fab.drives n.1 1).isNone then none else c.cmd.alt } })
      if t.drivesReach then t1.sendDrive n else t1) s

/-- A cause of a member follows its condition: raised when it becomes live, cleared when it ends. -/
def State.followMember (s : State) (k : Fin 256) (m : Nat) (live : Bool) : State :=
  if !live then s.clearCause k m false else if (s.slot k).real.getLsbD m then s else s.raise ⟨k, m, false, 0#32, false⟩

/-- The fabric's requests follow the committed destinations (R144, R146). -/
def State.requests (s : State) : State :=
  let f := s.fab
  let s1 := forEach allCh (fun n t => t.followMember (chSlot n 7) 31 (f.outChan.getLsbD (3 * n.1 + 2))) s
  let s2 := (s1.followMember (ringSlot .a 18) 0 (f.outDev.getLsbD 0)).followMember (ringSlot .b 18) 0 (f.outDev.getLsbD 1)
  s2.followMember (hostSlot 4) 0 (f.outDev.getLsbD 2)

/-! ## Releases (R349) -/

/-- A latch whose release is due ends at the end tick of its step: SAFE reads 0 from that tick's snapshot on, and the channel follows the
command committed there, with the frame that carries it (R13, R349; log entry 123). -/
def State.releaseTick (s : State) (ended : Nat) : State :=
  let due := allCh.filter (fun n => match (s.chan n).releaseDue with
    | some k => decide (k ≤ ended)
    | none => false)
  forEach due
    (fun n t =>
      let t1 := if (t.ring (ringOf n)).driveComes n then t else t.unlatch n 4
      { t1 with flt := t1.flt.mirrorAs n (t1.chan n).causes false }) s

end Sys2Proof.Machine
end

