-- ==== Sys2Proof/Machine/StepTick.lean ====
section
/-! DEFINITION. The fabric's step tick: the end of a step, the start of the next one, and the mode changes that wait for it
(05_ulcel_fabric.md, R131, R148 to R150, R155, R505). -/

namespace Sys2Proof.Machine

/-! ## The grid (R155, R505) -/

/-- Steps are evaluated: an image is active, the fabric has not stopped, and REPLAY mode does not hold it (R150, R400). -/
def State.stepping (s : State) : Bool := s.fab.running && !s.rpl.on

/-- The step start tick that comes next: STEP_N from the last one with an active image, else the next multiple of 1 000 µs. -/
def State.nextTick (s : State) : Nat :=
  if s.img.running.isSome then s.fab.stepStart + s.fab.stepUs else (s.fab.stepStart / 1000 + 1) * 1000

/-- A requested power mode takes effect at this tick (R467): with a running fabric at any step start tick, without one from the next multiple
of 1 000 µs after the request. -/
def State.modeDue (s : State) : Bool := s.stepping || decide ((s.pwr.wantFrom / 1000 + 1) * 1000 ≤ s.tick)

/-- A step start tick is due: the host die has started, and CELLAR mode has not stopped the steps (R469, R505). -/
def State.stepDue (s : State) : Bool :=
  (s.phase = .starting || s.phase = .checked || s.phase = .run) && s.pwr.mode ≠ .cellar && decide (s.nextTick ≤ s.tick)

/-! ## The end of a step -/

/-- A step overruns (R149): it is counted, and its events are carried into the next snapshot; the third in a row stops the fabric (R150). CONSEC
stays at 3 then, over an activation too (R156; log entry 124). -/
def FabState.overrun (f : FabState) : FabState :=
  let stop : Bool := decide (2 ≤ f.consec.toNat)
  { f with consec := if stop then 3#2 else f.consec + 1#2, ovr := satInc f.ovr, overrunLast := true, carryDue := true
           running := f.running && !stop, stopped := f.stopped || stop }

/-- The step commits (R131). -/
def State.commitStep (s : State) : State := s.modFab (fun f => { f.commit with consec := 0#2, overrunLast := false })

/-- An epoch at the end tick (R439, R446): the swap's own, or the next one once the earlier has gone. -/
def State.epochStep (s : State) (pre : FabState) : State :=
  if !s.tzOn then s
  else if s.pair.role = .swapping then s.swapStep pre
  else if s.pair.role = .active && s.pair.sending.isNone && s.pair.rev ≠ 0 then s.takeEpoch pre false
  else s

/-- The step in progress overruns at this end tick. -/
def State.late (s : State) : Bool := s.stepping && !s.fab.evalDone

/-- A step that is counted and not evaluated ends: the setpoints that were written belong to no frame, and a capture has its last step as any
other (R150, R395). -/
def State.idleEnd (s : State) : State :=
  (if s.captureOver s.fab.stepNo then s.endCapture 0#8 else s).modFab (fun f => { f with setpoints := [] })

/-- The first step end tick after Ring B's CONFIGURED at a wake: its channels follow committed destinations from now on (R472). -/
def State.freeRingB (s : State) : State :=
  if s.pwr.holdB && (s.ring .b).hostConf && s.pwr.mode ≠ .cellar then
    ({ s with pwr := { s.pwr with holdB := false } }).sendPowerTo false .b
  else s

/-- The end tick of the step in progress: its commit or overrun, its frame and its commands. A counter's written value takes effect with the
next step (R139, R390). -/
def State.endTick (s : State) : State :=
  State.freeRingB <|
    if !s.stepping then s.idleEnd
    else if s.late then (s.modFab FabState.overrun).captureStep s.fab true
    else
      let s1 := s.commitStep.captureStep s.fab false
      (if s.fab.valuePend = [] then s1 else s1.modRpl (fun r => { r with appliedNow := true })).driveTick

/-- What the end tick reports to the collector, in the step that begins with it (R146, R149, R150, R394): `before` is the state in which the step
ended. -/
def State.stepReports (s before : State) : State :=
  if !before.stepping then s
  else if before.late then
    let s1 := s.raiseHost 1
    if before.fab.overrun.stopped then s1.raiseLive (hostSlot 2) else s1
  else s.requests

/-! ## The start of a step -/

/-- The next step begins at its tick: its number, a new period, and the pending records (R154, R155). -/
def FabState.advance (f : FabState) (tick : Nat) : FabState :=
  { f.applyAll with
    stepNo := f.stepNo + 1, stepStart := tick, stepN := f.stepPend.getD f.stepN, stepPend := none, first := false, evalDone := false }

/-- The step that begins, with the new grid on its way to the Rings and the frame's APPLIED mark (R390). What a pending record unbinds is
freed in the step in which the record takes effect (R154). -/
def State.beginStep (s : State) (tick : Nat) : State :=
  let applied := s.fab.pend ≠ [] || s.fab.stepPend.isSome
  let s0 := (s.modFab (fun f => f.advance tick)).modRpl (fun r => { r with appliedNow := r.appliedNow || applied })
  let s1 := (s.fab.rebound.foldl State.freeUnused s0).undriveTick
  if s.fab.stepPend.isSome then
    [RingId.a, RingId.b].foldl (fun t x => t.sendRing x (.stepGrid t.fab.stepN)) s1
  else s1

/-- A standby's fabric and setpoints take the latest complete epoch (R442); a unit that took over goes on from it, or from the
initial values without one (R437). -/
def State.epochTick (s : State) : State :=
  match s.pair.resume with
  | some (some e) => (s.applyEpoch e).modPair (fun p => { p with resume := none })
  | some none => s.reinitFabric.modPair (fun p => { p with resume := none })
  | none =>
    match s.pair.held with
    | some e => if s.pair.standby then (s.applyEpoch e).takeSetpoints e else s
    | none => s

/-- B + 1 of the end of REPLAY mode: every channel restarts as after configuration (R400). -/
def State.endReplayLeave (s : State) : State :=
  (((s.modRpl (fun r => { r with leaving := false })).sendPower true).restartChains .a).restartChains .b

/-- REPLAY mode at a start tick (R400). -/
def State.replayTick (s0 : State) : State :=
  let s := if s0.rpl.leaving then s0.endReplayLeave else s0
  match s.rpl.want with
  | none => s
  | some true => (if s.rpl.on then s.modRpl (fun r => { r with want := none }) else s.enterReplay).sendPower false
  | some false => (if s.rpl.on then s.leaveReplay else s.modRpl (fun r => { r with want := none })).sendPower false

/-- What a step start tick does to the power mode (R467, R468). -/
def State.modeTick (s0 : State) : State :=
  let s := if s0.pwr.leaving then s0.endLeaving else s0
  if s.modeDue then s.takeWanted else s

/-- The tick at which a requested power mode takes effect without a running fabric, where no step begins (R467). -/
def State.modeAlone (s : State) : Bool := s.pwr.want.isSome && s.phase = .run && s.pwr.mode ≠ .cellar && !s.stepping && s.modeDue

/-- The snapshot of the step that begins, where one is taken. -/
def State.startSnapshot (s : State) : State := if s.stepping && s.pwr.mode ≠ .cellar then s.takeSnapshot else s

/-- A step start tick without an activation. -/
def State.stepTick (s : State) : State :=
  let s1 := ((s.endTick.epochStep s.fab).beginStep s.nextTick).stepReports s
  let s2 := s1.changeTick.releaseTick s.fab.stepNo
  let s3 := if s2.stepping then s2.epochTick else s2
  ((s3.modeTick.replayTick).startSnapshot).pairSync

end Sys2Proof.Machine
end

