-- ==== Sys2Proof/Machine/Activation.lean ====
section
/-! DEFINITION. The activation boundary A (04_configuration_image.md, R120 to R126, R505) and the step ticks. -/

namespace Sys2Proof.Machine

/-! ## Slots and the running copy (R96, R120 step 5, R126) -/

/-- The bookkeeping of the slots at A: the target becomes ACTIVE and the old active slot VERIFIED; the record is written unless the
start-time load activates the slot that it names (R126). -/
def State.activateSlots (s : State) (i : Image) : State :=
  let g := s.img
  let t := g.target
  let atStart : Bool := g.starting && decide (g.recorded = some t)
  let s1 := if g.active ≠ t && (s.imgSlot g.active).st = .active then s.setSlot g.active .verified else s
  let s2 := s1.setSlot t .active
  let s3 :=
    if !g.starting then s2.endOperation 0 i.crc
    else
      let r := s2.returnCu3.modImg (fun m => { m with load := .idle, ldCode := 0#8, actPending := false, shadow := none, await := [], starting := false })
      if atStart then r.event 0x10 3 .loader (word (b2n t)) i.crc else r
  (s3.modImg (fun m =>
    { (if atStart then m else m.writeRecord t) with
      active := t, noImage := false, diverged := false, divcnt := 0#16, actStep := BitVec.ofNat 64 s.fab.stepNo
      claims := claimTable i (s.slotBytes t), running := some i })).configChanged.calibChanged.clearLive (hostSlot 18)

/-! ## Blocks of the register map -/

/-- The network of the image (R120). -/
def State.loadNetwork (s : State) (i : Image) : State := s.modFab (fun f => f.load (i.fabric.getD FabImage.empty))

/-- The ADCSEQ entries of a channel, with their places. -/
def Image.adcKey (i : Image) (n : Nat) : List ((Nat × Nat × Nat) × Nat) :=
  match i.adcBlock (n / 8) with
  | some b => b.entries.zipIdx.filter (fun e => e.1.1 = n)
  | none => []

/-- FILT_CHn_CFG of an image. -/
def Image.chainCfg (i : Image) (n : Nat) : Word :=
  match i.filtRec n with
  | some r => filtCfgOf r
  | none => 0#32

/-- A filter chain at A (R123): its history stays where its ADCSEQ entries, its place and its FILT record are what they were; a threshold that is
not enabled reads 0 (R304). -/
def State.activateChain (before s : State) (i : Image) (n : Fin 16) : State :=
  let r := (i.filtRec n.1).getD []
  let same := match s.img.running with
    | some o => decide (o.filtRec n.1 = i.filtRec n.1)
    | none => false
  let entries := match s.img.running with
    | some o => decide (o.adcKey n.1 = i.adcKey n.1)
    | none => false
  let h := before.chain n
  let kept : Bool := same && entries && decide (before.placeOf n = s.placeOf n) && decide (before.rateOf n = s.rateOf n)
    && decide (h.cfgPend = none) && decide (h.cfg = i.chainCfg n.1)
  s.modChain n (fun h =>
    let h1 : Chain := { h with
      cfg := i.chainCfg n.1, thhi := word (u32 r 4), thlo := word (u32 r 8), thcfg := word (u32 r 12), cfgPend := none
      restart := h.restart || !kept }
    let h2 : Chain := { h1 with delivered := h1.delivered && kept }
    if same then { h2 with hi := h2.hi && h2.hiEn, lo := h2.lo && h2.loEn }
    else { h2 with hi := false, lo := false, hiRun := 0, loRun := 0, judged := 0, hiEvt := false, loEvt := false
                   value := 0#32, valueSettle := false })

/-- FILT_CFG at A: ALIGN of the image; a Ring whose ALIGN changes restarts its chains (R309, R314). -/
def State.activateAlign (s : State) (i : Image) : State :=
  let old := s.filt.cfg
  let w := (old &&& 0x30#32) ||| word (b2n (i.align 0) + 2 * b2n (i.align 1))
  let s1 : State := { s with filt := { s.filt with cfg := w, cfgPend := none } }
  [RingId.a, RingId.b].foldl (fun t x => if alignOf old x ≠ alignOf w x then t.restartChains x else t) s1

/-- ADC rounds and filter chains at A. -/
def State.activateFilters (s : State) (i : Image) : State :=
  let s1 := [RingId.a, RingId.b].foldl
    (fun t x => t.adcActivate x (i.round (ringIx x)) (i.refcfg (ringIx x)) (i.rotPeriod (ringIx x))) s
  (forEach allCh (fun n t => State.activateChain s t i n) s1).activateAlign i

/-- BG_CFG, BG_SYNCCFG and PWR_WAKECFG of an image (R474, R475). -/
def Image.bgCfg (i : Image) : Word :=
  match i.bg with
  | some r => word (u8 r 0 % 64 + u8 r 1 % 32 * 64 + u8 r 2 % 32 * 2048 + u8 r 3 % 2 * 65536)
  | none => 0x0001360A#32

def Image.syncCfg (i : Image) : Word :=
  match i.bg with
  | some r => word (u32 r 8 % 16777216 + u8 r 4 % 4 * 16777216)
  | none => 0#32

def Image.wakeCfg (i : Image) : Word :=
  match i.wake with
  | some r => word (u8 r 1 + u8 r 2 * 256 + u8 r 0 % 2 * 65536)
  | none => 0#32

/-- Background work and wake sources at A. A SYNC configuration that stays keeps its series of edges. -/
def State.activateBg (s : State) (i : Image) : State :=
  let s1 := (State.takeBgCfg i.bgCfg s).modPwr (fun p => { p with wakecfg := i.wakeCfg })
  if s.bg.synccfg = i.syncCfg then s1 else s1.takeSync i.syncCfg

/-- The modem of a Ring at A: the channel that claims it, on where a channel wants it (R236, R248). -/
def State.activateModem (s : State) (i : Image) (x : RingId) : State :=
  let en := (ringChs x).any (fun n => (i.chanCfg n.1).wantsModem)
  (s.modRing x (fun r =>
    { r with fskch := s.modemChannel x, fskcfg := if en then r.fskcfg ||| 0x20#32 else r.fskcfg &&& 0xFFFFFFDF#32 })).sendFsk x

/-! ## Channels (R121, R122, R124, R125) -/

/-- The function in force on a channel stays (R121); at start nothing is in force (R126). -/
def State.keepsFunction (s : State) (i : Image) (n : Fin 16) : Bool := !s.img.starting && (s.chan n).rng.func = i.func n.1

/-- The registers of a channel on the host die at A: those of the image, but the setpoints of a channel that keeps its function. -/
def State.activateChan (s : State) (i : Image) (keeps : Bool) (n : Fin 16) : State :=
  s.modChan n (fun c =>
    ({ c with
      cfg := if keeps then { i.chanCfg n.1 with doDuty := c.cfg.doDuty } else i.chanCfg n.1
      cmd := if keeps then c.cmd else i.chanCmd n.1
      change := none, modeParams := none } : Chan).onHost keeps)

/-- Arming ends at an activation that changes the function of the armed channel (R232). -/
def State.activateArming (s : State) (keeps : Fin 16 → Bool) : State := if s.svc.en && !keeps s.svc.ch then s.disarm else s

/-- A channel of a Ring that applies its staged configuration (R120 step 4, R121, R122). -/
def State.stagedChan (s : State) (i : Image) (keeps : Bool) (n : Fin 16) : State :=
  let c := s.chan n
  if keeps then
    (((s.applyCfg n c.cfg).modChan n (fun c => { c with rng := { c.rng with mode := c.cfg.mode }, rsafe := i.safeCode n.1 })).joinGang n).refreshStage n 0
  else s.beginHold n c.cfg c.cmd (i.safeCode n.1)

/-- A frame that still waits at A acts after it: what its Ring applies at A takes the place of the configuration of the old network, and the
setpoints and destinations of a channel whose function changes take their Image values (R120, R121, R124). -/
def RingCmd.outlives (f : RingCmd) (keeps : Fin 16 → Bool) : Bool :=
  match f with
  | .chanCfg _ _ | .mode _ _ _ | .ringCfg _ _ | .stepGrid _ | .safeCode _ _ | .adcEntry _ _ | .adcRef _ | .adcRot _ _ => false
  | .setpoint n _ | .drive n _ _ | .count n _ => keeps n
  | _ => true

/-- A Ring at A (R120, R124, R505): it applies what it staged, the open gate of a unit that is not paired with it (R428); one that did not stage is configured again, by a restart where it is
configured, and one without its link at its next link-up. -/
def State.activateRing (s : State) (i : Image) (keeps : Fin 16 → Bool) (x : RingId) : State :=
  let s1 := s.modRing x (fun r => { r with pwrcfg := i.pwrcfg (ringIx x), loadcfg := i.loadcfg (ringIx x), staged := false })
  let r := s.ring x
  if !r.link then s1.modRing x (fun r => { r with redo := r.redo || r.everUp })
  else if r.stagedUp then
    let s2 := s1.modRing x (fun r =>
      { r.keepRails (BitVec.ofNat 3 (fld r.pwrcfg 0 3)) with
        cmdq := r.cmdq.filter (fun c => c.1.outlives keeps), rPwrcfg := r.pwrcfg, rLoadcfg := r.loadcfg, linkTimeout := i.linkTimeout (ringIx x), stepN := s.fab.stepN })
    let s3 := ((forEach (ringChs x) (fun n t => t.stagedChan i (keeps n) n) s2).applyGuards x).tellTaps x
    if s3.pairOn then s3 else s3.takeGate x true
  else if r.configured then (s1.sendRing x .reset).sendRing x .configure
  else s1.sendRing x .configure

/-- Boundary A: the old network's last step ends with its epoch, and the shadow bank becomes the running copy (R120, R126, R439, R505). What that
end tick reports settles by the new reaction table (R122), and STEP_OVERRUN_REPEAT ends as the fabric runs again (R150). -/
def State.activate (s : State) (i : Image) : State :=
  let s1 := (((s.endTick.epochStep s.fab).endHolds).replayActivate i).beginStep s.nextTick
  let keeps := fun n => s1.keepsFunction i n
  let s2 := (s1.loadNetwork i).activateFilters i
  let s3 := ((((s2.activateWheels ((s.img.running.map (·.wheel)).getD []) i.wheel).activateFaults i).takePairing i).stepReports s).clearLive (hostSlot 2)
  let s4 := (forEach allCh (fun n t => t.activateChan i (keeps n) n) (s3.activateBg i)).activateArming keeps
  let s5 := (s4.activateRing i keeps .a).activateRing i keeps .b
  let s6 := ((s5.activateSlots i).activateModem i .a).activateModem i .b
  let s7 := (s6.pairActivate i (if s.img.starting then 0 else 10)).releaseTick s.fab.stepNo
  ((s7.modeTick.replayTick).startSnapshot).pairSync

/-! ## The commands -/

/-- A step start tick: an activation that waits for it takes place, else the step ends and the next one begins. -/
def State.tickNow (s : State) : State :=
  match s.img.shadow with
  | some i => if s.actReady then s.activate i else s.stepTick
  | none => s.stepTick

/-- The step end tick, which is the start tick of the next step (R131), or the tick of a power mode without a running fabric (R467). -/
def execFabricStepTick (s : State) : Host.Outcome State Fault Refusal :=
  ok <| if s.stepDue then s.tickNow else whenDo s.modeAlone (fun s => s.takeWanted.pairSync) s

/-- Boundary A of an ACTIVATE (R120). -/
def execActivationBoundary (s : State) : Host.Outcome State Fault Refusal :=
  ok <| match s.img.shadow with
    | some i => whenDo (s.stepDue && s.actReady && !s.img.starting) (fun s => s.activate i) s
    | none => s

/-- The start-time activation, at the first tick of the 1 ms grid after expansion (R126, R505). -/
def execStartActivation (s : State) : Host.Outcome State Fault Refusal :=
  ok <| match s.img.shadow with
    | some i => whenDo (s.stepDue && s.actReady && s.img.starting) (fun s => s.activate i) s
    | none => s

end Sys2Proof.Machine
end

