-- ==== Sys2Proof/Machine/Supply.lean ====
section
/-! DEFINITION. The host die's supplies and resets: start, RESET_N, power fail, VH_BOR and VIO (R41, R45 to R51, R57, R115, R126,
R379 to R387). A stop leaves every host register at its Reset value; what the cellar store holds and what the Rings hold stays. -/

namespace Sys2Proof.Machine

/-! ## What a stop leaves (R47, R50, R51) -/

/-- A Ring as a stop of the host die leaves it: its own state goes on, with the safe-path frames that are under way (R51), and the
host die's end of the link is at Reset. -/
def Ring.hostStop (r : Ring) : Ring :=
  { r with
    link := false, hostConf := false, hostVf := false, hostTaps := false, shown := [], everUp := false, porSticky := true, uvloSticky := false, linkDrops := 0#8, holdover := false, estTurns := [], taken := false, redo := false
    beat := none, ringBeat := false, realigned := false, upq := [], cmdq := [], downAt := 0
    safeq := if r.link then r.safeq else [], discards := [], hostRx := 0#16, ringRx := 0#16
    pwrcfg := Ring.reset.pwrcfg, loadcfg := Ring.reset.loadcfg, sticky := 0#6, staged := false
    fskcfg := Ring.reset.fskcfg, fskch := 31#5, fsk := Fsk.reset, vf := none, vfMin := none, temp := none, tapv := Vector.replicate 3 none }

/-- The calibration of a channel as the cellar store holds it (R230, R233). -/
def Analog.fromStore (a : Analog) : Analog :=
  { a with
    zcap := a.stored.zcap, scap := a.stored.scap, zsFunc := a.stored.zsFunc, trimOfs := a.stored.trimOfs
    trimGain := a.stored.trimGain, trimFunc := a.stored.trimFunc, persist := [], meas := 0#32, measFlags := 0#4 }

/-- A channel as a stop of the host die leaves it: the registers are at Reset, the calibration and the switching count are those of
the cellar store, and the Ring's own state goes on. -/
def Chan.hostStop (c : Chan) (swcnt : Word) : Chan :=
  { Chan.reset with
    rng := c.rng, rcmd := c.rcmd, live := c.live, tripKept := c.tripKept, causes := c.causes, latch := c.latch, rsafe := c.rsafe, releaseDue := c.releaseDue
    inp := { c.inp with lastAcc := 0#32 }, stage := { c.stage with swcnt := swcnt, ran := false }, an := c.an.fromStore, tch := c.tch
    plg := { c.plg with bounce := 0#16, unplugs := 0#16 } }

/-- The ADC of a Ring as a stop of the host die leaves it: registers at Reset; slices and reference go on. -/
def Adc.hostStop (a : Adc) : Adc :=
  ({ Adc.reset with
    settled := a.settled, refFault := a.refFault, intRefFault := a.intRefFault, events := a.events, settleAt := a.settleAt
    refOffAt := a.refOffAt, refInAt := a.refInAt, monItem := a.monItem, calStore := a.calStore, rotNext := a.rotNext, pos := a.pos, slices := a.slices })

/-- The loader's work ends: a session ends (R115), and the slots take the states of the next start. -/
def State.loaderCut (s : State) : State :=
  let t := s.img.target
  let cut : Bool := decide ((s.imgSlot t).st = .receiving)
  let s1 := s.loaderStop
  (s1.setSlot false (s1.slotAtStart false (cut && !t))).setSlot true (s1.slotAtStart true (cut && t))

/-- A session that RESET_N ends has its record, as one that ABORT ends (R115, R119). DESIGN CHOICE, log entry 127: its OP is ABORT and its
origin INTERNAL. -/
def State.sessionAborted (s : State) : State :=
  if (s.imgSlot s.img.target).st = .receiving then
    s.event 0x10 4 .internal (word (4 + 0x1D * 256)) (s.headerCrc s.img.target)
  else s

/-- The loader at a stop: its work ends, where RESET_N has not ended it, and its registers are at Reset. -/
def State.loaderHalt (s : State) : State := (if s.phase = .run then s.loaderCut else s).modImg (fun i => i.restart)

/-- The host die stops: registers, FIFOs, wheels, tickets and elements are lost; the cellar store and the Rings keep theirs. -/
def State.hostStop (s : State) : State :=
  let k := if s.phase = .run || s.phase = .resetCommit then s.loaderHalt.replayStart else s
  { State.reset with
    vio := k.vio, clock := k.clock
    time := { TimeState.reset with
      vhLow := k.time.vhLow, dipAt := k.time.dipAt, resetLow := k.time.resetLow, resetStart := k.time.resetStart }
    recd := { k.recd with staged := [], tailDirty := false, pfCommit := none }
    chans := Vector.ofFn (fun (n : Fin 16) => (k.chan n).hostStop k.recd.swCommitted[n.1])
    rings := k.rings.map Ring.hostStop
    img := k.img, cells := k.cells, storeGen := k.storeGen, adcs := k.adcs.map Adc.hostStop, rpl := k.rpl
    pair := { k.pair.start k.clock with minutes := k.pair.minutesKept }
    bg := { Bg.reset with wear := k.bg.wear, calibGen := k.bg.calibGen, life := k.bg.lifeKept, lifeKept := k.bg.lifeKept }
    freeCtr := k.freeCtr, pending := k.pending }

/-- Into a phase in which the host die does not run. -/
def State.halt (s : State) (p : HostPhase) : State := { s.hostStop with phase := p }

/-! ## Start (R41, R47, R48) -/

/-- The start condition of R47: the tick count starts from 0. `reset` says that RESET_N gave it. -/
def State.beginStart (s : State) (reset : Bool) : State :=
  { s with phase := .starting, time := { s.time with startClock := s.clock, resetStart := reset } }

/-- VH rises above VH_POR. With RESET_N low the host die stays in reset; with RESET_N high it leaves reset, and does not start where
TMODE is high (R41). VH is not above VH_PF plus hysteresis until HOST_START_VH_OK (R47, R48). -/
def execPowerUpStart (tmode : Bool) (s : State) : Host.Outcome State Fault Refusal :=
  ok <| whenDo (s.phase = .off)
    (fun s =>
      if s.time.resetLow then { s with phase := .resetHeld }
      else if tmode then { s with phase := .tmode }
      else s.beginStart false) s

/-- Sources whose condition is stored and holds at a start: full stores, wear, and VIO (R342, R373, R378, R458). RECORDS_FULL takes
the last place (R378). -/
def State.startSources (s : State) : State :=
  let s1 := if 6143 ≤ s.recd.events.length then
      let t := s.raiseLive (hostSlot 13)
      if s.recd.events.length = 6143 then { t with recd := stageFirst s.recd.staged.length t.recd } else t
    else s
  let s2 := if s1.recd.jnlFull then s1.raiseLive (hostSlot 12) else s1
  let s3 := s2.judgeWear
  if s3.vio then s3 else s3.raiseLive (hostSlot 28)

/-- Step 2 of a start (R47, R48): trims and counters are read, the power cycle is counted and START recorded (R369, R383, R384). -/
def execHostStartVhOk (s : State) : Host.Outcome State Fault Refusal :=
  ok <| whenDo (s.phase = .starting)
    (fun s =>
      let done := s.recd.completion
      let s1 : State := { s with
        phase := .checked, recd := s.recd.start s.clock
        time := { s.time with vhLow := false } }
      let s2 := s1.modBg (fun b => { b with scrubFrom := s1.clock, refreshFrom := s1.opt })
      (s2.report (recCode 3 0x10 1) .internal (if done then 0 else 8)
        (word (b2n s.time.resetStart + 2 * b2n done)) 0#32).startSources) s

/-- Steps 3 and 4 of a start (R47, R126): the ports answer in revision 1, the heartbeats begin, and the loader handles the active
slot. -/
def execHostPortsAnswer (s : State) : Host.Outcome State Fault Refusal :=
  ok <| whenDo (s.phase = .checked)
    (fun s => (({ s with phase := .run, time := { s.time with beatAt := s.clock } } : State).modPair (fun p => p.start s.clock)).loaderStart true) s

/-! ## RESET_N (R45, R50) -/

/-- Safe-path priority frames to both Rings (R50, R51); without a link none crosses. -/
def State.sendAllSafe (s : State) : State :=
  let mask (x : RingId) : BitVec 16 := if (s.ring x).link then ringMask x else 0#16
  s.sendSafe (mask .a ||| mask .b)

/-- The power-fail commit starts, or goes on where it runs (R50, R51, R387). -/
def State.startCommit (s : State) : State :=
  s.modRec (fun r => { r with pfCommit := some (r.pfCommit.getD r.staged.length) })

/-- Trapeze transmission and the Tightrope modulation stop, and the source collapses (R50, R57). -/
def State.stopPair (s : State) : State := s.modPair (fun p => { p with sourceOn := false, togglePend := false, tx := [], line := none })

/-- RESET_N is accepted (R50): safe-path frames, the session (R115), ports, Trapeze and Tightrope stop, and the power-fail commit runs. Before step 2 of
a start nothing is to be committed (R48). -/
def execResetN (s : State) : Host.Outcome State Fault Refusal :=
  ok <| whenDo s.vio
    (fun s =>
      let s1 : State := { s with time := { s.time with resetLow := true } }
      match s.phase with
      | .run =>
        let s2 := (s1.sendAllSafe.sessionAborted.loaderCut.startCommit).stopPair
        { s2 with phase := .resetCommit }
      | .checked => { s1.sendAllSafe.startCommit with phase := .resetCommit }
      | .starting | .tmode => s1.halt .resetHeld
      | .off | .resetCommit | .resetHeld => s1) s

/-- The host die leaves reset after RESET_N, with the level of TMODE and whether VH is above VH_POR. Without that VH it waits for
POWER_UP_START; with TMODE high it does not start (R41, R47). -/
def State.leaveReset (s : State) (tmode vhPor : Bool) : State :=
  if !vhPor then { s with phase := .off } else if tmode then { s with phase := .tmode } else s.beginStart true

/-- RESET_N rises. Where the commit has ended the host die leaves reset; before that, the commit goes on (R50). -/
def execResetNRelease (tmode vhPor : Bool) (s : State) : Host.Outcome State Fault Refusal :=
  ok <| whenDo (s.vio && s.time.resetLow)
    (fun s =>
      let s1 : State := { s with time := { s.time with resetLow := false } }
      if s.phase = .resetHeld then s1.leaveReset tmode vhPor else s1) s

/-! ## Power fail (R48, R51, R387) -/

/-- VH falls below VH_PF (R51): the power-fail commit starts, and every other function runs on. None before step 2 (R48). -/
def execVhPfFall (s : State) : Host.Outcome State Fault Refusal :=
  ok <| whenDo ((s.phase = .run || s.phase = .checked || s.phase = .resetCommit) && !s.time.vhLow)
    (fun s => ({ s with time := { s.time with vhLow := true, dipAt := s.clock } }).startCommit) s

/-- The power-fail commit ends (R387). A completion mark stands only while VH stays low or the reset goes on (R51, R387); after
RESET_N the host die waits in reset, or leaves it where RESET_N is high (R50), with the levels that it then finds (R41, R47). -/
def execPowerFailCommitDone (tmode vhPor : Bool) (s : State) : Host.Outcome State Fault Refusal :=
  ok <| whenDo s.recd.pfCommit.isSome
    (fun s =>
      let s1 := s.powerCommit
      if s.phase = .resetCommit then
        let s2 := s1.halt .resetHeld
        if s2.time.resetLow then s2 else s2.leaveReset tmode vhPor
      else s1.modRec (fun r => { r with completion := s.time.vhLow })) s

/-- VH rises above VH_PF plus hysteresis (R51): the device runs on, VH_DIP is recorded with its duration in microseconds, and the
completion mark is withdrawn (R387). -/
def execVhDipRecovery (s : State) : Host.Outcome State Fault Refusal :=
  ok <| whenDo s.time.vhLow
    (fun s =>
      let s1 : State := { s with time := { s.time with vhLow := false } }
      if s.phase = .run || s.phase = .checked then
        (s1.modRec (fun r => { r with completion := false })).event 0x10 2 .internal 0#32 (word (min (s.clock - s.time.dipAt) 0xFFFFFFFF))
      else s1) s

/-- VH reaches VH_BOR (R48, R51): safe-path frames go to the Rings, and the host die stops. -/
def execVhBor (s : State) : Host.Outcome State Fault Refusal :=
  ok <| whenDo (s.phase ≠ .off)
    (fun s =>
      let s1 := if s.phase = .run || s.phase = .checked || s.phase = .resetCommit then s.sendAllSafe else s
      ({ s1 with time := { s1.time with vhLow := false } } : State).halt .off) s

/-! ## VIO (R45) -/

/-- The host die works: it has passed step 2 and does not stop. -/
def State.hostWorks (s : State) : Bool := s.phase = .run || s.phase = .checked || s.phase = .resetCommit

/-- VIO falls below its threshold (R45): the host signal pads are high impedance, buttons are not pressed, and the loss is
recorded. SVC_LED follows `vio` (`State.led`); the Trapeze pads are no host signal pads (19_electrical.md). -/
def execVioLost (s : State) : Host.Outcome State Fault Refusal :=
  ok <| whenDo s.vio
    (fun s =>
      let s1 : State := { s with vio := false }
      if s.hostWorks then
        ({ s1 with svc := { s1.svc with zeroHeld := false, spanHeld := false, zeroAt := none, spanAt := none, blocked := false } }).raiseLive
          (hostSlot 28)
      else s1) s

/-- VIO is back (R45): the pads work again, and the return is recorded. -/
def execVioReturn (s : State) : Host.Outcome State Fault Refusal :=
  ok <| whenDo (!s.vio)
    (fun s =>
      let s1 : State := { s with vio := true }
      if s.hostWorks then s1.clearLive (hostSlot 28) else s1) s

end Sys2Proof.Machine
end

