-- ==== Sys2Proof/Machine/Dispatch.lean ====
section
/-! DEFINITION. One arm for each command: a direct call of its meaning (spec/opcode_table.json). -/

namespace Sys2Proof.Machine

/-- The command's effect on everything but the queue. -/
def exec (i : Instr) (s : State) : Host.Outcome State Fault Refusal :=
  match i with
  | .powerUpStart tmode => Sys2Proof.Machine.execPowerUpStart tmode s
  | .hostStartVhOk => Sys2Proof.Machine.execHostStartVhOk s
  | .hostPortsAnswer => Sys2Proof.Machine.execHostPortsAnswer s
  | .startActivation => Sys2Proof.Machine.execStartActivation s
  | .resetN => Sys2Proof.Machine.execResetN s
  | .vhPfFall => Sys2Proof.Machine.execVhPfFall s
  | .powerFailCommitDone tmode vhPor => Sys2Proof.Machine.execPowerFailCommitDone tmode vhPor s
  | .vhDipRecovery => Sys2Proof.Machine.execVhDipRecovery s
  | .vhBor => Sys2Proof.Machine.execVhBor s
  | .vioLost => Sys2Proof.Machine.execVioLost s
  | .vioReturn => Sys2Proof.Machine.execVioReturn s
  | .vfUvloRise x => Sys2Proof.Machine.execVfUvloRise x s
  | .ringStartDone x => Sys2Proof.Machine.execRingStartDone x s
  | .linkUp x => Sys2Proof.Machine.execLinkUp x s
  | .ringResetCommand x => Sys2Proof.Machine.execRingResetCommand x s
  | .ringConfigConfirm x good => Sys2Proof.Machine.execRingConfigConfirm x good s
  | .vfUvloFall x => Sys2Proof.Machine.execVfUvloFall x s
  | .ringPor x => Sys2Proof.Machine.execRingPor x s
  | .hostHeartbeatSend => Sys2Proof.Machine.execHostHeartbeatSend s
  | .hostHeartbeatReceive x good => Sys2Proof.Machine.execHostHeartbeatReceive x good s
  | .ringHeartbeatSend x => Sys2Proof.Machine.execRingHeartbeatSend x s
  | .ringHeartbeatReceive x good => Sys2Proof.Machine.execRingHeartbeatReceive x good s
  | .linkLost x => Sys2Proof.Machine.execLinkLost x s
  | .linkTimeout x => Sys2Proof.Machine.execLinkTimeout x s
  | .linkCommandFrame x good => Sys2Proof.Machine.execLinkCommandFrame x good s
  | .linkCmdRetry x => Sys2Proof.Machine.execLinkCmdRetry x s
  | .safePathFrame x good => Sys2Proof.Machine.execSafePathFrame x good s
  | .holdover x => Sys2Proof.Machine.execHoldover x s
  | .ringFaultReport x good => Sys2Proof.Machine.execRingFaultReport x good s
  | .acceptedChangeArrival x good => Sys2Proof.Machine.execAcceptedChangeArrival x good s
  | .nop e a w => Sys2Proof.Machine.execNop e a w s
  | .hello e a w => Sys2Proof.Machine.execHello e a w s
  | .read e a w => Sys2Proof.Machine.execRead e a w s
  | .write e a w obs => Sys2Proof.Machine.execWrite e a w obs s
  | .statusClear e a w => Sys2Proof.Machine.execStatusClear e a w s
  | .pop e a w bad => Sys2Proof.Machine.execPop e a w bad s
  | .popBatch e a w bad => Sys2Proof.Machine.execPopBatch e a w bad s
  | .fetch e a w whole => Sys2Proof.Machine.execFetch e a w whole s
  | .release e a w => Sys2Proof.Machine.execRelease e a w s
  | .unknownOp e op a w => Sys2Proof.Machine.execUnknownOp e op a w s
  | .responseReady p => Sys2Proof.Machine.execResponseReady p s
  | .responseRetire t => Sys2Proof.Machine.execResponseRetire t s
  | .portRevert p mode3 => Sys2Proof.Machine.execPortRevert p mode3 s
  | .timeMark e w => Sys2Proof.Machine.execTimeMark e w s
  | .caltagStage e w => Sys2Proof.Machine.execCaltagStage e w s
  | .caltagCommit e w => Sys2Proof.Machine.execCaltagCommit e w s
  | .imgOpen e w => Sys2Proof.Machine.execImgOpen e w s
  | .slotEraseDone fails => Sys2Proof.Machine.execSlotEraseDone fails s
  | .imgWdata e w fails => Sys2Proof.Machine.execImgWdata e w fails s
  | .imgClose e w => Sys2Proof.Machine.execImgClose e w s
  | .verifyDone => Sys2Proof.Machine.execVerifyDone s
  | .imgAbort e w => Sys2Proof.Machine.execImgAbort e w s
  | .activate e w => Sys2Proof.Machine.execActivate e w s
  | .stagingAck x good => Sys2Proof.Machine.execStagingAck x good s
  | .activationBoundary => Sys2Proof.Machine.execActivationBoundary s
  | .claimQuery e w => Sys2Proof.Machine.execClaimQuery e w s
  | .fabricStepTick => Sys2Proof.Machine.execFabricStepTick s
  | .evaluationComplete tenNs => Sys2Proof.Machine.execEvaluationComplete tenNs s
  | .fabHsigWrite e ix w => Sys2Proof.Machine.execFabHsigWrite e ix w s
  | .fabHsigset e ix w => Sys2Proof.Machine.execFabHsigset e ix w s
  | .fabHsigclr e ix w => Sys2Proof.Machine.execFabHsigclr e ix w s
  | .fabHsigpls e ix w => Sys2Proof.Machine.execFabHsigpls e ix w s
  | .fabSel e w => Sys2Proof.Machine.execFabSel e w s
  | .fabWin e ix w => Sys2Proof.Machine.execFabWin e ix w s
  | .fabApply e w => Sys2Proof.Machine.execFabApply e w s
  | .fabStepcfg e w => Sys2Proof.Machine.execFabStepcfg e w s
  | .functionChange e n w => Sys2Proof.Machine.execFunctionChange e n w s
  | .modeParamWrite e n w => Sys2Proof.Machine.execModeParamWrite e n w s
  | .inputParamWrite e n r w => Sys2Proof.Machine.execInputParamWrite e n r w s
  | .debounceExpiry n partner seen pad lead => Sys2Proof.Machine.execDebounceExpiry n partner seen pad lead s
  | .couplingHoldExpiry n => Sys2Proof.Machine.execCouplingHoldExpiry n s
  | .chatterBlockEnd n => Sys2Proof.Machine.execChatterBlockEnd n s
  | .wettingPulseStart n => Sys2Proof.Machine.execWettingPulseStart n s
  | .wettingPulseEnd n pad => Sys2Proof.Machine.execWettingPulseEnd n pad s
  | .wetRepeat n => Sys2Proof.Machine.execWetRepeat n s
  | .countEdge n o => Sys2Proof.Machine.execCountEdge n o s
  | .countDelivery n good => Sys2Proof.Machine.execCountDelivery n good s
  | .diCountWrite e n w => Sys2Proof.Machine.execDiCountWrite e n w s
  | .openWire n => Sys2Proof.Machine.execOpenWire n s
  | .reversed n => Sys2Proof.Machine.execReversed n s
  | .overrange n => Sys2Proof.Machine.execOverrange n s
  | .diagnosticClear d => Sys2Proof.Machine.execDiagnosticClear d s
  | .doCmdWrite e n w => Sys2Proof.Machine.execDoCmdWrite e n w s
  | .doDutyWrite e n w => Sys2Proof.Machine.execDoDutyWrite e n w s
  | .pwmPeriodStart n => Sys2Proof.Machine.execPwmPeriodStart n s
  | .inrushEnd n limiting => Sys2Proof.Machine.execInrushEnd n limiting s
  | .overcurrent n => Sys2Proof.Machine.execOvercurrent n s
  | .shortGnd n => Sys2Proof.Machine.execShortGnd n s
  | .offBlankEnd n => Sys2Proof.Machine.execOffBlankEnd n s
  | .shortVf n reverse => Sys2Proof.Machine.execShortVf n reverse s
  | .openLoadOn n => Sys2Proof.Machine.execOpenLoadOn n s
  | .openLoadOff n => Sys2Proof.Machine.execOpenLoadOff n s
  | .chThermal n => Sys2Proof.Machine.execChThermal n s
  | .thermalRetry n => Sys2Proof.Machine.execThermalRetry n s
  | .tempWarn x hot => Sys2Proof.Machine.execTempWarn x hot s
  | .ringThermal x => Sys2Proof.Machine.execRingThermal x s
  | .gangImbalance n => Sys2Proof.Machine.execGangImbalance n s
  | .vfLow x => Sys2Proof.Machine.execVfLow x s
  | .vfLowClear x => Sys2Proof.Machine.execVfLowClear x s
  | .ringOverload x high => Sys2Proof.Machine.execRingOverload x high s
  | .ringOverloadLatch x => Sys2Proof.Machine.execRingOverloadLatch x s
  | .ringStepTick x o => Sys2Proof.Machine.execRingStepTick x o s
  | .shedEnOff e x w => Sys2Proof.Machine.execShedEnOff e x w s
  | .tapMoveUp n o => Sys2Proof.Machine.execTapMoveUp n o s
  | .tapOverload x rail o => Sys2Proof.Machine.execTapOverload x rail o s
  | .tapsRegulated x rails => Sys2Proof.Machine.execTapsRegulated x rails s
  | .t3Availability x up o => Sys2Proof.Machine.execT3Availability x up o s
  | .anSetWrite e n w => Sys2Proof.Machine.execAnSetWrite e n w s
  | .anCmdWrite e n w => Sys2Proof.Machine.execAnCmdWrite e n w s
  | .openLoop n => Sys2Proof.Machine.execOpenLoop n s
  | .loadShort n => Sys2Proof.Machine.execLoadShort n s
  | .supplyLimit n => Sys2Proof.Machine.execSupplyLimit n s
  | .aoOverload n => Sys2Proof.Machine.execAoOverload n s
  | .aoOpen n => Sys2Proof.Machine.execAoOpen n s
  | .ne43Diag n => Sys2Proof.Machine.execNe43Diag n s
  | .capZero e n w => Sys2Proof.Machine.execCapZero e n w s
  | .capSpan e n w => Sys2Proof.Machine.execCapSpan e n w s
  | .zsClear e n w => Sys2Proof.Machine.execZsClear e n w s
  | .trimWrite e n gain w => Sys2Proof.Machine.execTrimWrite e n gain w s
  | .calibrationPersist n => Sys2Proof.Machine.execCalibrationPersist n s
  | .svcArm e w => Sys2Proof.Machine.execSvcArm e w s
  | .armTimeout => Sys2Proof.Machine.execArmTimeout s
  | .buttonPress span => Sys2Proof.Machine.execButtonPress span s
  | .buttonRelease span => Sys2Proof.Machine.execButtonRelease span s
  | .buttonCapture span => Sys2Proof.Machine.execButtonCapture span s
  | .ledBlink => Sys2Proof.Machine.execLedBlink s
  | .fskTx e x w => Sys2Proof.Machine.execFskTx e x w s
  | .fskQuietEnd x => Sys2Proof.Machine.execFskQuietEnd x s
  | .fskTxEnd x => Sys2Proof.Machine.execFskTxEnd x s
  | .carrierDetect x => Sys2Proof.Machine.execCarrierDetect x s
  | .carrierRelease x => Sys2Proof.Machine.execCarrierRelease x s
  | .fskCharReceived x d parity framing => Sys2Proof.Machine.execFskCharReceived x d parity framing s
  | .fskRxRead e x w => Sys2Proof.Machine.execFskRxRead e x w s
  | .respTimeout x => Sys2Proof.Machine.execRespTimeout x s
  | .touchScan n c failed => Sys2Proof.Machine.execTouchScan n c failed s
  | .reseed e n w => Sys2Proof.Machine.execReseed e n w s
  | .plugTest n o => Sys2Proof.Machine.execPlugTest n o s
  | .conversionResult x ix code lost full => Sys2Proof.Machine.execConversionResult x ix code lost full s
  | .rotationEvent x => Sys2Proof.Machine.execRotationEvent x s
  | .sliceHandover x => Sys2Proof.Machine.execSliceHandover x s
  | .sliceCalibrationDone x k pass cal => Sys2Proof.Machine.execSliceCalibrationDone x k pass cal s
  | .adcLate x ix => Sys2Proof.Machine.execAdcLate x ix s
  | .adcFrameBoundary => Sys2Proof.Machine.execAdcFrameBoundary s
  | .refSettled x => Sys2Proof.Machine.execRefSettled x s
  | .refFault x off => Sys2Proof.Machine.execRefFault x off s
  | .adcEntryWrite e x ix w => Sys2Proof.Machine.execAdcEntryWrite e x ix w s
  | .adcRefcfgWrite e x w => Sys2Proof.Machine.execAdcRefcfgWrite e x w s
  | .adcRotcfgWrite e x w => Sys2Proof.Machine.execAdcRotcfgWrite e x w s
  | .filtChnCfgWrite e n w => Sys2Proof.Machine.execFiltChnCfgWrite e n w s
  | .filtCfgWrite e w => Sys2Proof.Machine.execFiltCfgWrite e w s
  | .thresholdWrite e n r w => Sys2Proof.Machine.execThresholdWrite e n r w s
  | .filtSyncGo e w => Sys2Proof.Machine.execFiltSyncGo e w s
  | .filtSyncArm e w => Sys2Proof.Machine.execFiltSyncArm e w s
  | .syncEdge => Sys2Proof.Machine.execSyncEdge s
  | .wheelFlush e k w => Sys2Proof.Machine.execWheelFlush e k w s
  | .wheelProdWrite e k w => Sys2Proof.Machine.execWheelProdWrite e k w s
  | .wheelAge k => Sys2Proof.Machine.execWheelAge k s
  | .faultRaise h => Sys2Proof.Machine.execFaultRaise h s
  | .faultClear h => Sys2Proof.Machine.execFaultClear h s
  | .fltRelease e w => Sys2Proof.Machine.execFltRelease e w s
  | .releaseAck p x good => Sys2Proof.Machine.execReleaseAck p x good s
  | .wdKick e w => Sys2Proof.Machine.execWdKick e w s
  | .wdExpiry => Sys2Proof.Machine.execWdExpiry s
  | .rearm e w => Sys2Proof.Machine.execRearm e w s
  | .fltWdCfgWrite e w => Sys2Proof.Machine.execFltWdCfgWrite e w s
  | .collectorMismatch index => Sys2Proof.Machine.execCollectorMismatch index s
  | .safePathCheck x => Sys2Proof.Machine.execSafePathCheck x s
  | .injRaise e w => Sys2Proof.Machine.execInjRaise e w s
  | .injClear e w => Sys2Proof.Machine.execInjClear e w s
  | .injPulse e w => Sys2Proof.Machine.execInjPulse e w s
  | .injPulseEnd k m => Sys2Proof.Machine.execInjPulseEnd k m s
  | .fltInjcfgWrite e w => Sys2Proof.Machine.execFltInjcfgWrite e w s
  | .fltReactWrite e k w => Sys2Proof.Machine.execFltReactWrite e k w s
  | .fltChsafeWrite e n w => Sys2Proof.Machine.execFltChsafeWrite e n w s
  | .eventReport code o p1 p2 => Sys2Proof.Machine.execEventReport code o p1 p2 s
  | .recordWritten => Sys2Proof.Machine.execRecordWritten s
  | .tailCacheCommit => Sys2Proof.Machine.execTailCacheCommit s
  | .periodicCommit => Sys2Proof.Machine.execPeriodicCommit s
  | .recClear e w => Sys2Proof.Machine.execRecClear e w s
  | .jnlClear e w => Sys2Proof.Machine.execJnlClear e w s
  | .cursorWrite e journal w bad => Sys2Proof.Machine.execCursorWrite e journal w bad s
  | .replayTrigger e w => Sys2Proof.Machine.execReplayTrigger e w s
  | .replayErase e w => Sys2Proof.Machine.execReplayErase e w s
  | .replayEraseDone => Sys2Proof.Machine.execReplayEraseDone s
  | .replayModeWrite e w => Sys2Proof.Machine.execReplayModeWrite e w s
  | .rerun e w => Sys2Proof.Machine.execRerun e w s
  | .rerunFrame => Sys2Proof.Machine.execRerunFrame s
  | .abortRerun e w => Sys2Proof.Machine.execAbortRerun e w s
  | .seal e w => Sys2Proof.Machine.execSeal e w s
  | .rplXdata e store w => Sys2Proof.Machine.execRplXdata e store w s
  | .chkStart e u w => Sys2Proof.Machine.execChkStart e u w s
  | .chkScan e u w => Sys2Proof.Machine.execChkScan e u w s
  | .chkAbort e u w => Sys2Proof.Machine.execChkAbort e u w s
  | .chkData e u w => Sys2Proof.Machine.execChkData e u w s
  | .chkRunWrite e u w => Sys2Proof.Machine.execChkRunWrite e u w s
  | .scanUnitDone u bad => Sys2Proof.Machine.execScanUnitDone u bad s
  | .tzHeartbeatSend => Sys2Proof.Machine.execTzHeartbeatSend s
  | .heartbeat b => Sys2Proof.Machine.execHeartbeat b s
  | .qualSend => Sys2Proof.Machine.execQualSend s
  | .qual b => Sys2Proof.Machine.execQual b s
  | .mirror b => Sys2Proof.Machine.execMirror b s
  | .mirrorResend => Sys2Proof.Machine.execMirrorResend s
  | .ack a needFull => Sys2Proof.Machine.execAck a needFull s
  | .epoch b => Sys2Proof.Machine.execEpoch b s
  | .swapReq => Sys2Proof.Machine.execSwapReq s
  | .swapGo number idle => Sys2Proof.Machine.execSwapGo number idle s
  | .swapDone => Sys2Proof.Machine.execSwapDone s
  | .swapDoneTimeout idle => Sys2Proof.Machine.execSwapDoneTimeout idle s
  | .pairSwap e w => Sys2Proof.Machine.execPairSwap e w s
  | .pairRelease e w => Sys2Proof.Machine.execPairRelease e w s
  | .requalify e w => Sys2Proof.Machine.execRequalify e w s
  | .tightropeToggle => Sys2Proof.Machine.execTightropeToggle s
  | .tlQualChange up idle => Sys2Proof.Machine.execTlQualChange up idle s
  | .sourceCollapse => Sys2Proof.Machine.execSourceCollapse s
  | .tightropeHbLost port => Sys2Proof.Machine.execTightropeHbLost port s
  | .trapezeLost => Sys2Proof.Machine.execTrapezeLost s
  | .staleLinkFail => Sys2Proof.Machine.execStaleLinkFail s
  | .mirrorGap => Sys2Proof.Machine.execMirrorGap s
  | .listenTimeExpiry idle => Sys2Proof.Machine.execListenTimeExpiry idle s
  | .takeoverDelayExpiry idle => Sys2Proof.Machine.execTakeoverDelayExpiry idle s
  | .claimTimeout port => Sys2Proof.Machine.execClaimTimeout port s
  | .backoffExpiry idle => Sys2Proof.Machine.execBackoffExpiry idle s
  | .driveGateTimeout x => Sys2Proof.Machine.execDriveGateTimeout x s
  | .scrubUnit o => Sys2Proof.Machine.execScrubUnit o s
  | .refreshUnit o => Sys2Proof.Machine.execRefreshUnit o s
  | .sectorRelocation l o => Sys2Proof.Machine.execSectorRelocation l o s
  | .wearExchange l => Sys2Proof.Machine.execWearExchange l s
  | .trimReference => Sys2Proof.Machine.execTrimReference s
  | .chTrim n => Sys2Proof.Machine.execChTrim n s
  | .tlmUpdate o => Sys2Proof.Machine.execTlmUpdate o s
  | .syncOutputPulse => Sys2Proof.Machine.execSyncOutputPulse s
  | .syncLost => Sys2Proof.Machine.execSyncLost s
  | .runRequest e w => Sys2Proof.Machine.execRunRequest e w s
  | .quietRequest e w => Sys2Proof.Machine.execQuietRequest e w s
  | .cellarRequest e w => Sys2Proof.Machine.execCellarRequest e w s
  | .retentionBegin => Sys2Proof.Machine.execRetentionBegin s
  | .cellarTickMark => Sys2Proof.Machine.execCellarTickMark s
  | .internalWake => Sys2Proof.Machine.execInternalWake s
  | .internalWakeEnd => Sys2Proof.Machine.execInternalWakeEnd s
  | .wake o => Sys2Proof.Machine.execWake o s
  | .runReturn => Sys2Proof.Machine.execRunReturn s
  | .resetNRelease tmode vhPor => Sys2Proof.Machine.execResetNRelease tmode vhPor s
  | .imageExpanded => Sys2Proof.Machine.execImageExpanded s
  | .tightropeHbReturn => Sys2Proof.Machine.execTightropeHbReturn s
  | .trapezeFrameDiscard => Sys2Proof.Machine.execTrapezeFrameDiscard s
  | .epochSendDone => Sys2Proof.Machine.execEpochSendDone s
  | .swapDue => Sys2Proof.Machine.execSwapDue s
  | .bgBehind t => Sys2Proof.Machine.execBgBehind t s
  | .hostMarkExpiry => Sys2Proof.Machine.execHostMarkExpiry s

end Sys2Proof.Machine
end

