-- ==== Sys2Proof/Safety.lean ====
section
/-! DEFINITION. The terms that the claims use: what a command leaves alone, and when a host frame is performed at once. -/

namespace Sys2Proof.Machine

/-! ## Parts of the state -/

/-- The host side of `t` is that of `s`: the queue, the clock, the supplies, time, tickets, ports and shadows. -/
abbrev KeepsHost (t s : State) : Prop :=
  t.pending = s.pending ∧ t.clock = s.clock ∧ t.vio = s.vio ∧ t.phase = s.phase ∧ t.time = s.time ∧ t.tickets = s.tickets
    ∧ t.readyCount = s.readyCount ∧ t.ports = s.ports ∧ t.shadows = s.shadows

/-- The units of `t` that no fault report touches are those of `s`: service port, loader, fabric, ADCs, filters, check units,
Carousel, power modes and the count of free values. -/
abbrev KeepsUnits (t s : State) : Prop :=
  t.svc = s.svc ∧ t.img = s.img ∧ t.fab = s.fab ∧ t.adcs = s.adcs ∧ t.filt = s.filt ∧ t.chks = s.chks ∧ t.chkTurn = s.chkTurn
    ∧ t.bg = s.bg ∧ t.pwr = s.pwr ∧ t.freeCtr = s.freeCtr

/-- A Ring without the frames that wait for it. -/
def Ring.core (r : Ring) : Ring := { r with safeq := [], cmdq := [] }

/-- A recorder without what an arriving event can change: the staged events, the tail and the counts of lost ones. -/
def Recorder.core (r : Recorder) : Recorder :=
  { r with events := [], staged := [], tailDirty := false, tailDue := 0, dirtyMark := false, tailGen := 0#16, lostFull := 0#16
           lostStaging := 0#16, overflow := 0 }

/-- The Ringmaster without what giving up the active role changes. -/
def Pair.core (p : Pair) : Pair :=
  { p with role := .unpaired, mayDrive := false, standby := false, uq := 0#10, stale := false, sending := none, togglePend := false
           held := none, swap := none, releases := 0#8, minutes := 0#32, idleFrom := 0, tlLostFrom := none, evt := 0#6, epochNum := 0#32
           toldRole := Pair.reset.toldRole, tx := [], txAt := 0, sentHeartbeat := [], sentQual := [] }

/-- The collector without its slots, and without the AUTO releases that wait (R350). -/
def Collector.core (f : Collector) : Collector := { f with slots := Collector.reset.slots, autos := 0#16 }

/-- `t` differs from `s` only in what fault reports may change (R337, R350, R358): the slots, the wheels, the recorder's staged and tail
events, a capture, the frames to the Rings, and the role and its standby where the active role is given up. -/
abbrev ReportFrame (t s : State) : Prop :=
  KeepsHost t s ∧ KeepsUnits t s ∧ t.recd.core = s.recd.core ∧ t.chans = s.chans
    ∧ (∀ x ∈ [RingId.a, RingId.b], (t.ring x).core = (s.ring x).core) ∧ t.pair.core = s.pair.core ∧ t.flt.core = s.flt.core

/-! ## Two Rings (R12) -/

/-- A Ring with its channels. -/
def State.side (s : State) (y : RingId) : Ring × (Fin 16 → Option Chan) := (s.ring y, fun n => if ringOf n = y then some (s.chan n) else none)

/-! ## Rows of one channel -/

/-- What a row of one channel on its Ring leaves alone: the host die, every other channel, and the other Ring. -/
abbrev ChanFrame (t s : State) (n : Fin 16) : Prop :=
  KeepsHost t s ∧ KeepsUnits t s ∧ t.recd = s.recd ∧ t.wheels = s.wheels ∧ t.flt = s.flt ∧ t.rpl = s.rpl ∧ t.pair = s.pair ∧ t.cells = s.cells
    ∧ (∀ m, m ≠ n → t.chan m = s.chan m) ∧ ∀ y ∈ [RingId.a, RingId.b], y ≠ ringOf n → t.ring y = s.ring y

/-- The raise report of a diagnostic that is detected now (R352). -/
def State.diagReport (s : State) (n : Fin 16) (m : Nat) (detail : Word) : Report :=
  ⟨chSlot n (memberSlot (s.chan n).rng.func m), BitVec.ofNat 8 m, true, detail, s.tick, s.clock,
    !(s.ring (ringOf n)).link || (s.ring (ringOf n)).ringLost⟩

/-- A diagnostic is live, and one that was not is reported where the Ring can hold the report (R178, R352). -/
abbrev DiagRaised (t s : State) (n : Fin 16) (m : Nat) (detail : Word := 0#32) : Prop :=
  (t.chan n).live.getLsbD m = true
    ∧ ((s.chan n).live.getLsbD m = false → (s.ring (ringOf n)).reports.length < 32 →
        (t.ring (ringOf n)).reports = (s.ring (ringOf n)).reports ++ [s.diagReport n m detail])

/-- A diagnostic that waits on a guarded channel is detected: it waits for UNPLUG_N + 1 tests of a guard that is PRESENT, and is heeded
not at all while the guard is not (R261). -/
abbrev GuardedWait (t s : State) (n : Fin 16) (m : Nat) : Prop :=
  ∀ g, s.guardOf n = some g →
    ((s.chan g).plg.state = 1#3 → (s.chan n).live.getLsbD m = false → (∀ w ∈ (s.chan n).guardWait, w.1 ≠ m) →
        t = s.modChan n (fun c => { c with guardWait := c.guardWait ++ [(m, (s.chan g).rng.unplugN + 1)] }))
    ∧ ((s.chan g).plg.state ≠ 1#3 → t = s)

/-- A sample of a pad ends a run of a level: the channel samples outside a wetting pulse, and the level has stood for DEBOUNCE, in whole
samples and without the time of a pulse, since the path last restarted (R163, R164, R172, R509). -/
abbrev State.runEnds (s : State) (n : Fin 16) (level seen : Bool) (pad : Int) (lead : Nat) : Prop :=
  s.samples n = true ∧ (s.chan n).inp.wetStart = none ∧ level = (s.chan n).rng.inverted ((s.chan n).electrical pad seen)
    ∧ (s.chan n).inp.runFrom + lead ≤ s.clock
    ∧ s.sampleSpan n ((s.chan n).rng.debounce * 10) + (s.chan n).inp.pulsedSince (s.clock - lead) ≤ lead

/-- What a touch scan of C in fF sends up its link: its value, where the link is up (R16, R329). -/
abbrev State.scanUp (s : State) (n : Fin 16) (c : Nat) : List UpMsg :=
  if (s.ring (ringOf n)).link && !(s.ring (ringOf n)).ringLost && (s.ring (ringOf n)).rmode ≠ .cellar then [.scan n (word c) s.tick] else []

/-- A counting path counts an edge that has been held (R173, R177, R180, R509). -/
abbrev State.counts (s : State) (n : Fin 16) (held : Nat) : Prop :=
  s.pathRuns n = true ∧ (s.chan n).rng.func = 3 ∧ (s.ring (ringOf n)).rmode = .run ∧ (s.chan n).live.getLsbD 12 = false
    ∧ (s.chan n).rng.minPulse ≤ held

/-- The electrical edge that a channel sees as the given one after INVERT (R163). -/
def State.edgeSeen (s : State) (n : Fin 16) (onB rising other both : Bool) (held : Nat) : CountObs :=
  ⟨onB, rising != (s.chan n).rng.invert, other != (s.chan n).rng.invert, both, held⟩

/-- The partner of a gang has a stage that does what its channel's does; what it counts and ran stays its own, and it is never shed by
itself (R198, R209). -/
abbrev GangFollows (t s : State) (n : Fin 16) : Prop :=
  gangMate n (s.chan n).rng = some (mate n) → (s.chan (mate n)).rng.func = 0 →
    (t.chan (mate n)).stage = { (t.chan n).stage with
      swcnt := (s.chan (mate n)).stage.swcnt, shed := false, ran := (s.chan (mate n)).stage.ran || (t.chan n).stage.on }

/-- What a row of one output stage leaves alone: all that a row of one channel does, but for the stage of a gang partner (R198). -/
abbrev StageFrame (t s : State) (n : Fin 16) : Prop :=
  KeepsHost t s ∧ KeepsUnits t s ∧ t.recd = s.recd ∧ t.wheels = s.wheels ∧ t.flt = s.flt ∧ t.rpl = s.rpl ∧ t.pair = s.pair ∧ t.cells = s.cells
    ∧ (∀ m, m ≠ n → m ≠ mate n → t.chan m = s.chan m) ∧ ((s.chan (mate n)).rng.func ≠ 0 → t.chan (mate n) = s.chan (mate n))
    ∧ { t.chan (mate n) with stage := (s.chan (mate n)).stage } = s.chan (mate n)
    ∧ ∀ y ∈ [RingId.a, RingId.b], y ≠ ringOf n → t.ring y = s.ring y

/-- A trip of a stage (R191, R194, R196): both latches of a gang set with the cause, the stage is off, the diagnostic is live and reported,
the host die is told, and nothing else changes but a gang partner (R28, R198, R211, R345). -/
abbrev Tripped (t s : State) (n : Fin 16) (cause : BitVec 16) (m : Nat) : Prop :=
  (t.chan n).latch = true ∧ (t.chan n).causes = (s.chan n).causes ||| cause
    ∧ (isDo (s.chan n).rng.func = true → (t.chan n).stage.on = false ∧ (t.chan n).stage.drive = .off)
    ∧ (t.chan n).live.getLsbD m = true ∧ (s.gangPair n = none → DiagRaised t s n m)
    ∧ (∀ k, s.gangPair n = some k → (t.chan k).latch = true ∧ (t.chan k).causes = (s.chan k).causes ||| cause)
    ∧ ((s.ring (ringOf n)).link = true → t.toldLatches (ringOf n) = t.latchesOf (ringOf n))
    ∧ KeepsHost t s ∧ KeepsUnits t s ∧ t.recd = s.recd ∧ t.wheels = s.wheels ∧ t.flt = s.flt ∧ t.rpl = s.rpl ∧ t.pair = s.pair
    ∧ t.cells = s.cells ∧ (∀ k, k ≠ n → k ≠ mate n → t.chan k = s.chan k)
    ∧ (s.gangPair n = none → { t.chan (mate n) with stage := (s.chan (mate n)).stage } = s.chan (mate n))
    ∧ ∀ y ∈ [RingId.a, RingId.b], y ≠ ringOf n → t.ring y = s.ring y

/-! ## Host frames -/

/-- The protocol revision that a port's next frame meets (R89, R90). -/
def Port.nextRev (q : Port) : Nat := (q.helloDone.map (·.1)).getD q.rev

/-- The ports answer a whole frame (R49, R66, R71): the host die runs with VIO, awake, and the frame names no ticket. -/
def State.portHears (s : State) (e : Env) : Bool :=
  s.portsAnswer && (s.pwr.mode ≠ .cellar || s.pwr.waking) && e.crcGood && e.whole && e.ticket = 0xFF#8

/-- A new request of this frame starts at once (R78, R81, R84): its SEQ is new, a ticket may be taken, and the port has no other
request. -/
def State.hostTakes (s : State) (e : Env) : Bool :=
  s.portHears e && ((s.port e.port).entry e.seq).isNone && s.mayTake (portMaster e.port) && (s.port e.port).executing.isNone
    && (s.port e.port).waiting.isEmpty

/-- A request of this operation is performed at once: the frame starts at once, its LEN fits the operation, and the revision has the
operation (R74, R88). -/
def State.hostReady (s : State) (e : Env) (op : Byte) : Bool :=
  s.hostTakes e && decide (e.len.toNat = requestLen op) && opListed op (s.port e.port).nextRev

/-- What a host frame leaves alone whatever it asks: the queue, the clock, the supplies, the order of ready responses, and the other
port. -/
abbrev RowFrame (t s : State) (e : Env) : Prop :=
  t.pending = s.pending ∧ t.clock = s.clock ∧ t.vio = s.vio ∧ t.phase = s.phase ∧ t.readyCount = s.readyCount
    ∧ ∀ p ∈ [PortId.hp0, PortId.hp1], p ≠ e.port → t.port p = s.port p

/-- The request that a frame makes (R74). -/
def State.requestOf (s : State) (f : HostFrame) : Request :=
  { ticket := s.pickTicket f.env.grant, op := f.op, addr := f.addr, len := f.env.len, seq := f.env.seq, payload := f.w
    fallTick := s.tickLo, obs := f.obs, canned := none }

/-- The port when the request of a frame begins to execute. -/
def State.intakePort (s : State) (f : HostFrame) : Port :=
  let p := f.env.port
  let t := s.pickTicket f.env.grant
  let o := ((s.csFall p f.env.mode3).port p).enter ⟨f.env.seq, f.op, f.addr, f.env.len, f.crc, t, true, none⟩
  { o with
    lastTicket := BitVec.ofNat 8 t.1, lastSeq := f.env.seq.truncate 8
    executing := some (s.requestOf f, mkResponse (s.requestOf f) .done) }

/-- The state in which the request of a frame executes: its ticket is taken and its port holds it; all else is as before. -/
def State.intake (s : State) (f : HostFrame) : State :=
  (s.takeTicket (portMaster f.env.port) (s.pickTicket f.env.grant)).modPort f.env.port (fun _ => s.intakePort f)

/-- The reply of the request in execution becomes its response. -/
def State.answer (s : State) (p : PortId) (q : Request) (rep : Reply) : State :=
  s.modPort p (fun o => { o with executing := o.executing.map (fun e => (e.1,
    if s.waitsRelease p q then e.2 else mkResponse q rep)) })

/-- The response that the port's request is about to make (R72). -/
def State.answers (t : State) (e : Env) (st : Status) (info : Word) (data : List Word) : Bool :=
  (t.port e.port).executing.any (fun x =>
    x.1.seq = e.seq && x.2.seq = e.seq && x.2.rstat = st.code && x.2.info = info && x.2.data = data)

/-! ## What a host row does beside its answer -/

/-- `t` is `u` but for the tickets and the ports. -/
abbrev ButForPorts (t u : State) : Prop := t = { u with tickets := t.tickets, ports := t.ports }

/-- A row acts by `f`. -/
abbrev RowActs (t s : State) (e : Env) (f : State → State) : Prop :=
  (∃ u, ButForPorts u s ∧ ButForPorts t (f u)) ∧ ∀ p ∈ [PortId.hp0, PortId.hp1], p ≠ e.port → t.port p = s.port p

/-- WHLw_POP: the first word of a pop window (R328, R334). -/
abbrev popAddr (k : WheelId) : Addr := BitVec.ofNat 24 (0x38000 + 16 * k.1)

/-! ## Tickets -/

/-- The tickets of a port's requests, in execution and waiting (R78). -/
def Port.requestTickets (q : Port) : List (Fin 64) := (q.executing.map (·.1.ticket)).toList ++ q.waiting.map (·.ticket)

/-- A ticket is in EXEC under a master (R80). -/
def Ticket.execFor (t : Ticket) (m : Master) : Bool :=
  match t.st with
  | .exec n _ => n = m
  | _ => false

/-- What the tickets keep: a port's requests hold each its own ticket in EXEC, and the free tickets cover what every master is
owed (R80, R81). -/
abbrev State.TicketsSound (s : State) : Prop :=
  (∀ p ∈ [PortId.hp0, PortId.hp1], (s.port p).requestTickets.Nodup
    ∧ ∀ t ∈ (s.port p).requestTickets, (s.tickets[t.1]).execFor (portMaster p) = true)
  ∧ ([Master.hp0, Master.hp1, Master.trapeze, Master.service].map (fun m => 2 - s.held m)).sum ≤ s.freeTickets

/-! ## The Ringmaster -/

/-- The Ringmaster without what its own judgement may change: causes, role, sources, and the times and counts that follow them. -/
def Pair.lines (p : Pair) : Pair := { p.core with bothLostFrom := none, gapFrom := none, gapOpen := false }

/-- `t` differs from `s`, besides the Ringmaster, only in what its judgement may change (R431, R434, R451): fault reports, and the one
free value that it uses. -/
abbrev PairFrame (t s : State) : Prop :=
  KeepsHost t s ∧ KeepsUnits { t with freeCtr := s.freeCtr } s ∧ t.recd.core = s.recd.core ∧ t.chans = s.chans
    ∧ (∀ x ∈ [RingId.a, RingId.b], (t.ring x).core = (s.ring x).core) ∧ t.flt.core = s.flt.core

/-- Neither WHEEL_LOSS nor a source of the pair settles on ROLE_RELEASE (R336, R337, R451), so that nothing that the Ringmaster raises gives up
the role. -/
abbrev State.keepsRole (s : State) : Prop :=
  ∀ h ∈ ([7, 20, 21, 22, 23, 24, 25, 26, 27] : List (Fin 31)), (s.settle (hostSlot h) 0 s.tick).2 ≠ 4

/-- The role of a unit that neither claims nor leads is STANDBY or UNQUALIFIED by its causes (R434). -/
abbrev Pair.rests (p : Pair) : Prop := p.role = (if p.uq = 0#10 then Role.standby else Role.unqualified)

/-- A valid frame of a unit with Trapeze up has been taken (R430). -/
abbrev State.framed (s : State) : State := { s with pair := { s.pair with lastFrame := s.clock } }

/-- A frame whose CRC or length fails has been counted (R423). -/
abbrev State.frameDiscarded (s : State) : State :=
  { s with pair := { s.pair with tzCrc := satInc s.pair.tzCrc, badTimes := (s.pair.badTimes.filter (fun t => decide (s.clock < t + 1000000))) ++ [s.clock] } }

end Sys2Proof.Machine
end

