-- ==== Sys2Proof/Certificates/Slice0/Obligations.lean ====
section
/-! DEFINITION. The statements for the provers, family by family of spec/opcode_table.json. A statement about a command says
the next state that exec answers, for every state and operands that meet its hypotheses. -/

open Sys2Proof Sys2Proof.Machine

/-- A step takes the command at the front of the queue and runs it with the queue's rest (opcode_table.json, 00_scope.md). -/
def Obligations.StepRunsTheFrontCommand : Prop :=
  ∀ (c : Instr) (rest : List Instr) (s : State), step { s with pending := c :: rest } = exec c { s with pending := rest }

/-- A step on an empty queue lets one microsecond pass, in which only the Trapeze port sends (the model's choice, log entry 1)
(01_architecture.md, 17_pairing.md). -/
def Obligations.EmptyQueueLetsOneMicrosecondPass : Prop :=
  ∀ s : State, s.pending = [] → step s = .next
    { s with clock := s.clock + 1, pair := if s.tzOn then s.pair.transmit s.clock else s.pair }

/-- No command is refused and none faults, in any state and with any operands (opcode_table.json, 03_host_ports.md). -/
def Obligations.EveryCommandAnswersANextState : Prop :=
  ∀ (c : Instr) (s : State), ∃ t, exec c s = .next t

/-- No command touches the queue of waiting commands or the count of microseconds (01_architecture.md, opcode_table.json). -/
def Obligations.EveryCommandKeepsTheQueueAndTheClock : Prop :=
  ∀ (c : Instr) (s t : State), exec c s = .next t → t.pending = s.pending ∧ t.clock = s.clock

/-- Every step keeps the cellar store in its canonical form (18_background_power.md, 15_replay.md, 04_configuration_image.md). -/
def Obligations.CellarStoreStaysCanonical : Prop :=
  ∀ s t : State, Memory.wf s.cells = true → step s = .next t → Memory.wf t.cells = true

/-- Every step keeps the two tickets that each master is owed within the free ones (03_host_ports.md). -/
def Obligations.TicketGuaranteeIsKept : Prop :=
  ∀ s t : State, s.TicketsSound → step s = .next t → t.TicketsSound

/-- The state at reset has a canonical cellar store and sound tickets (03_host_ports.md, 18_background_power.md). -/
def Obligations.ResetMeetsTheInvariants : Prop :=
  Memory.wf State.reset.cells = true ∧ State.reset.TicketsSound

/-- An address that reads as a register is that register's own address (03_host_ports.md, 04_configuration_image.md,
05_ulcel_fabric.md, 06_digital_inputs.md, 07_digital_outputs.md, 08_analog_loops.md, 10_adc.md, 11_filter_chain.md,
12_wheels.md, 13_faults.md, 16_check_units.md, 18_background_power.md). -/
def Obligations.EachRegisterAnswersAtOneAddress : Prop :=
  ∀ (a : Addr) (r : Reg), decodeAddr a = .reg r → r.addr = a

/-- At reset the registers read the Reset values of their maps (03_host_ports.md, 06_digital_inputs.md, 07_digital_outputs.md,
10_adc.md, 13_faults.md, 16_check_units.md, 17_pairing.md, 18_background_power.md). -/
def Obligations.ResetGivesTheMapsTheirResetValues : Prop :=
  let v := fun r : Reg => (State.reset.regRead .hp0 r).1
  v (.port .hp0 .cfg) = 100#32 ∧ v (.port .hp1 .irqEn) = 1#32 ∧ v .tktStat = 64#32 ∧ v .tktHeld = 0#32
    ∧ v (.ident .device) = 0x00431624#32 ∧ v (.ident .revs) = 0x00212121#32
    ∧ (∀ n : Fin 16, v (.ch n .mode) = 0x1F00#32 ∧ v (.ch n .diTime) = 0x00640064#32 ∧ v (.ch n .doPwm) = 5000#32
        ∧ v (.ch n .doCmd) = 0#32 ∧ v (.ch n .anSet) = 0#32)
    ∧ v (.ring .a .loadcfg) = 0xF00A0AB4#32 ∧ v (.ring .b .pwrcfg) = 0x008C0418#32
    ∧ v (.adc .a .rotcfg) = 10#32 ∧ v (.adc .b .refcfg) = 0x09C40A00#32
    ∧ v (.chk 0 .poly) = 0x04C11DB7#32 ∧ v (.chk 3 .run) = 0xFFFFFFFF#32
    ∧ v (.pair .cfg) = 0x0A060500#32 ∧ v (.flt .wdCfg) = 1000#32 ∧ v (.bg .pwrStat) = 0x1F0000#32

/-- POWER_UP_START and RESET_N_RELEASE: the host die starts with the tick count at 0, or TMODE, RESET_N or VH below VH_POR holds it (R41,
R47, R50). -/
def Obligations.SupplyStartsTheHostDie : Prop :=
  ∀ (s : State),
    (s.phase = .off → s.time.resetLow = false → exec (.powerUpStart false) s = .next
        { s with phase := .starting, time := { s.time with startClock := s.clock, resetStart := false } })
    ∧ (s.phase = .off → s.time.resetLow = false → exec (.powerUpStart true) s = .next { s with phase := .tmode })
    ∧ (∀ (tmode : Bool), s.phase = .off → s.time.resetLow = true → exec (.powerUpStart tmode) s = .next { s with phase := .resetHeld })
    ∧ (∀ (tmode : Bool), s.phase ≠ .off → exec (.powerUpStart tmode) s = .next s)
    ∧ (s.vio = true → s.time.resetLow = true → s.phase = .resetHeld → exec (.resetNRelease false true) s = .next
        { s with phase := .starting, time := { s.time with resetLow := false, startClock := s.clock, resetStart := true } })
    ∧ (s.vio = true → s.time.resetLow = true → s.phase = .resetHeld → exec (.resetNRelease true true) s = .next
        { s with phase := .tmode, time := { s.time with resetLow := false } })
    ∧ (∀ (tmode : Bool), s.vio = true → s.time.resetLow = true → s.phase = .resetHeld → exec (.resetNRelease tmode false) s = .next
        { s with phase := .off, time := { s.time with resetLow := false } })
    ∧ (∀ (tmode vhPor : Bool), s.vio = true → s.time.resetLow = true → s.phase ≠ .resetHeld → exec (.resetNRelease tmode vhPor) s = .next
        { s with time := { s.time with resetLow := false } })

/-- HOST_START_VH_OK and HOST_PORTS_ANSWER: the start counts a power cycle, then the ports answer and the loader begins (R47, R48,
R126, R383, R384). -/
def Obligations.StartReadsTheStoreAndAnswersThePorts : Prop :=
  ∀ (s : State),
    (s.phase = .starting → ∃ t, exec .hostStartVhOk s = .next t ∧ t.phase = .checked ∧ t.time.vhLow = false ∧ t.recd.pwrcyc = satInc
        s.recd.pwrcyc ∧ t.recd.pfComplete = s.recd.completion ∧ t.recd.estimated = !s.recd.completion ∧ t.vio = s.vio ∧ t.tickets =
        s.tickets ∧ t.ports = s.ports ∧ t.svc = s.svc ∧ t.img = s.img ∧ t.fab = s.fab ∧ t.adcs = s.adcs ∧ t.filt = s.filt ∧ t.chks =
        s.chks ∧ t.pwr = s.pwr)
    ∧ (∀ (a : Bool), s.phase = .checked → s.img.recorded = some a → ∃ t, exec .hostPortsAnswer s = .next t ∧ t.phase = .run ∧ t.img.load
        = .verifying ∧ t.img.target = a ∧ t.img.starting = true ∧ t.vio = s.vio ∧ t.time = { s.time with beatAt := s.clock } ∧ t.tickets = s.tickets ∧ t.ports =
        s.ports ∧ t.shadows = s.shadows ∧ t.svc = s.svc ∧ t.fab = s.fab ∧ t.adcs = s.adcs ∧ t.filt = s.filt ∧ t.bg = s.bg ∧ t.pwr =
        s.pwr ∧ t.recd = s.recd ∧ t.flt = s.flt ∧ t.rings = s.rings ∧ t.chans = s.chans)
    ∧ (s.phase = .checked → s.img.recorded = none → ∃ t, exec .hostPortsAnswer s = .next t ∧ t.phase = .run ∧ t.img.noImage = true ∧
        t.img.load = .idle ∧ t.img.running = none ∧ (t.slot (hostSlot 18)).real.getLsbD 0 = true ∧ t.vio = s.vio ∧ t.time =
        { s.time with beatAt := s.clock } ∧ t.tickets = s.tickets ∧ t.ports = s.ports ∧ t.shadows = s.shadows ∧ t.svc = s.svc ∧ t.fab = s.fab ∧ t.adcs = s.adcs ∧ t.filt =
        s.filt ∧ t.bg = s.bg ∧ t.pwr = s.pwr ∧ t.recd.core = s.recd.core)

/-- RESET_N, VH_PF_FALL, POWER_FAIL_COMMIT_DONE, VH_DIP_RECOVERY, VH_BOR: commits, stops and the dip (R48, R50, R51, R387). -/
def Obligations.PowerFailAndReset : Prop :=
  ∀ (s : State),
    (s.phase = .run → s.time.vhLow = false → exec .vhPfFall s = .next
        { s with time := { s.time with vhLow := true, dipAt := s.clock }, recd := { s.recd with pfCommit := some (s.recd.pfCommit.getD s.recd.staged.length) } })
    ∧ (s.vio = true → s.phase = .run → ∃ t, exec .resetN s = .next t ∧ t.phase = .resetCommit ∧ t.time.resetLow = true ∧ t.recd.pfCommit
        = some (s.recd.pfCommit.getD s.recd.staged.length) ∧ t.pair.sourceOn = false ∧ (∀ x ∈ [RingId.a, RingId.b], (s.ring x).link =
        true → (t.ring x).safeq = (s.ring x).safeq ++ [ringMask x]) ∧ t.tickets = s.tickets ∧ t.ports = s.ports ∧ t.chans = s.chans ∧
        t.cells = s.cells ∧ KeepsUnits t s)
    ∧ (∀ (tmode vhPor : Bool), s.phase = .run → s.recd.pfCommit.isSome = true → ∃ t, exec (.powerFailCommitDone tmode vhPor) s = .next t ∧ t.phase = .run ∧ t.recd.pfCommit =
        none ∧ t.recd.completion = s.time.vhLow ∧ t.recd.tailDirty = false ∧ t.recd.dirtyMark = false ∧ (∀ n : Fin 16,
        t.recd.swCommitted[n.1] = (t.chan n).stage.swcnt) ∧ t.ports = s.ports ∧ t.tickets = s.tickets)
    ∧ (∀ (tmode vhPor : Bool), s.phase = .resetCommit → s.recd.pfCommit.isSome = true → ∃ t, exec (.powerFailCommitDone tmode vhPor) s =
        .next t ∧ t.phase = (if s.time.resetLow then .resetHeld else if vhPor = false then .off else if tmode then .tmode else .starting) ∧
        t.recd.completion = true ∧ t.recd.staged = [] ∧ t.ports = State.reset.ports ∧ t.tickets = State.reset.tickets ∧ t.fab =
        FabState.reset)
    ∧ (∀ (tmode vhPor : Bool), s.recd.pfCommit = none → exec (.powerFailCommitDone tmode vhPor) s = .next s)
    ∧ (s.time.vhLow = true → s.phase = .run → exec .vhDipRecovery s = .next
        (({ s with time := { s.time with vhLow := false }, recd := { s.recd with completion := false } } : State).event 0x10 2 .internal
        0#32 (word (min (s.clock - s.time.dipAt) 0xFFFFFFFF))))
    ∧ (s.phase = .run → ∃ t, exec .vhBor s = .next t ∧ t.phase = .off ∧ t.time.vhLow = false ∧ t.vio = s.vio ∧ t.ports =
        State.reset.ports ∧ t.tickets = State.reset.tickets ∧ t.fab = FabState.reset ∧ t.wheels = State.reset.wheels ∧ t.recd.journal =
        s.recd.journal ∧ t.recd.staged = [] ∧ (∀ x ∈ [RingId.a, RingId.b], (s.ring x).link = true → (t.ring x).safeq = (s.ring x).safeq
        ++ [ringMask x] ∧ (t.ring x).link = false) ∧ (∀ n, (t.chan n).latch = (s.chan n).latch ∧ (t.chan n).causes = (s.chan n).causes ∧
        (t.chan n).an.stored = (s.chan n).an.stored))

/-- VIO_LOST and VIO_RETURN: the pads are released and the loss and return recorded, while the host die runs on (R45, R342). -/
def Obligations.VioLossAndReturn : Prop :=
  ∀ (s : State),
    (s.phase = .run → s.vio = true → ∃ t, exec .vioLost s = .next t ∧ t.vio = false ∧ (t.slot (hostSlot 28)).real.getLsbD 0 = true ∧
        t.svc = { s.svc with zeroHeld := false, spanHeld := false, zeroAt := none, spanAt := none, blocked := false } ∧ ReportFrame
        { t with vio := s.vio, svc := s.svc } s)
    ∧ (s.phase = .run → s.vio = false → ∃ t, exec .vioReturn s = .next t ∧ t.vio = true ∧ (t.slot (hostSlot 28)).real.getLsbD 0 = false
        ∧ ReportFrame { t with vio := s.vio } s)

/-- VF_UVLO_RISE, RING_START_DONE, VF_UVLO_FALL, RING_POR: a Ring starts, loses VF, recovers, and passes Ring POR (R52, R53, R54,
R55), and Ring A's Tightrope source goes off (R57). -/
def Obligations.RingSupplyStartsAndStops : Prop :=
  ∀ (x : RingId) (s : State),
    ((s.ring x).vfOk = false → (s.ring x).offered = false → ∃ t, exec (.vfUvloRise x) s = .next t
        ∧ t = { s with rings := t.rings, adcs := t.adcs, freeCtr := t.freeCtr
                       pair := { s.pair with sourceOn := s.pair.sourceOn && x = .b } }
        ∧ t.ring x = { s.ring x with logic := true, vfOk := true, configured := false, linkTimeout := 1000
                                     qual := (s.ring x).qual && x = .b, upq := (t.ring x).upq
                                     reports := (t.ring x).reports, dropped := (t.ring x).dropped }
        ∧ (x = .b ∨ (s.ring x).qual = false → (t.ring x).upq = (s.ring x).upq ∧ t.freeCtr = s.freeCtr)
        ∧ ((s.ring x).logic = false → (t.ring x).reports = (s.ring x).reports ∧ (t.ring x).dropped = (s.ring x).dropped)
        ∧ (∀ y ∈ [RingId.a, RingId.b], y ≠ x → t.ring y = s.ring y ∧ t.adc y = s.adc y) ∧ (t.adc x).settled = false
        ∧ (refSel (s.adc x).refcfg ≠ 1 → (t.adc x).settleAt = some (s.clock + 2000))
        ∧ (∀ p : Fin 4, ((t.adc x).slices[p.1]).failed = false) ∧ (t.adc x).events = 0#16)
    ∧ ((s.ring x).vfOk = false → (s.ring x).offered = true → ∃ t, exec (.vfUvloRise x) s = .next t ∧ (t.ring x).vfOk = true ∧ (t.ring
        x).logic = true ∧ (t.ring x).rails = 0#3 ∧ (t.adc x).settled = false ∧ KeepsHost t s ∧ t.recd = s.recd ∧ t.wheels = s.wheels ∧ t.pair = s.pair ∧ t.cells =
        s.cells ∧ (∀ n, ringOf n ≠ x → t.chan n = s.chan n))
    ∧ ((s.ring x).logic = true → (s.ring x).vfOk = true → (s.ring x).offered = false → exec (.ringStartDone x) s = .next (s.modRing x
        (fun r => { r with offered := true })))
    ∧ ((s.ring x).logic = true → (s.ring x).vfOk = true → ∃ t, exec (.vfUvloFall x) s = .next t ∧ (t.ring
        x).vfOk = false ∧ (t.ring x).rails = 0#3 ∧ (t.ring x).offered = ((s.ring x).offered && (s.ring x).link && !(s.ring x).ringLost) ∧ (∀ n, ringOf n = x → (t.chan
        n).latch = true ∧ (t.chan n).causes.getLsbD 5 = true) ∧ (∀ n, ringOf n ≠ x → t.chan n = s.chan n) ∧ KeepsHost t s ∧ KeepsUnits
        { t with freeCtr := s.freeCtr } s ∧ (x = .b ∨ (s.ring x).qual = false → t.freeCtr = s.freeCtr) ∧ t.recd = s.recd ∧ t.wheels = s.wheels ∧ t.pair =
        { s.pair with sourceOn := s.pair.sourceOn && x = .b } ∧ t.cells = s.cells)
    ∧ ((s.ring x).logic = true → ∃ t, exec (.ringPor x) s = .next t ∧ (t.ring x).logic = false ∧ (t.ring x).vfOk = false ∧ (t.ring
        x).offered = false ∧ (t.ring x).configured = false ∧ (t.ring x).restarted = true ∧ (t.ring x).ringLost = true ∧ (t.ring
        x).reports = [] ∧ (∀ n, ringOf n = x → (t.chan n).latch = false ∧ (t.chan n).causes = 0#16 ∧ (t.chan n).live = 0#32 ∧ (t.chan
        n).plg.state = 0#3) ∧ (∀ n, ringOf n ≠ x → t.chan n = s.chan n) ∧ KeepsHost t s ∧ t.recd = s.recd ∧ t.wheels = s.wheels ∧ t.flt
        = s.flt ∧ (x = .b → t.pair = s.pair) ∧ (x = .a → t.pair = { s.pair with sourceOn := false }) ∧ t.cells = s.cells)

/-- LINK_UP, RING_RESET_COMMAND, RING_CONFIG_CONFIRM: bring-up sends reset and configuration, and the Ring confirms (R47, R53, R55,
R341). -/
def Obligations.LinkComesUpAndIsConfigured : Prop :=
  ∀ (x : RingId) (s : State),
    (s.phase = .run → s.pwr.mode ≠ .cellar → (s.ring x).logic = true → (s.ring x).vfOk = true → (s.ring x).offered = true → (s.ring
        x).link = false → (s.ring x).ringLost = true → ∃ t, exec (.linkUp x) s = .next t ∧ (t.ring x).link = true ∧ (t.ring x).everUp =
        true ∧ (t.ring x).hostConf = false ∧ (t.ring x).ringLost = false ∧ (t.ring x).passedPor = false ∧ (t.ring x).cmdq.head? = some (.reset, 0) ∧
        ((s.img.running.isSome = true → (t.ring x).cmdq[1]? = some (.configure, 0))) ∧ (t.ring x).lastHostBeat = s.clock ∧ (t.ring
        x).lastRingBeat = s.clock ∧ (t.slot (ringSlot x 0)).real.getLsbD 0 = false ∧ KeepsHost t s ∧ KeepsUnits t s)
    ∧ (∀ (k : Nat), (s.ring x).downOpen = true → (s.ring x).cmdq.head? = some (.reset, k) → ∃ t, exec (.ringResetCommand x) s = .next t ∧
        (t.ring x).configured = false ∧ (t.ring x).taken = false ∧ (t.ring x).linkTimeout = 1000 ∧ (t.ring x).cmdq = (s.ring x).cmdq.tail ∧ (t.slot (ringSlot x 19)).real.getLsbD 0 = false ∧ KeepsHost t s)
    ∧ ((s.ring x).logic = true → (s.ring x).vfOk = true → (s.ring x).upClear = true → (s.ring x).taken = true → s.pwr.wakeB = false → ∃ t,
        exec (.ringConfigConfirm x true) s = .next t ∧ (t.ring x).configured = true ∧ (t.ring x).hostConf = true ∧ (t.ring x).restarted = false ∧ (((s.ring x).restarted =
        true → ∀ n, ringOf n = x → (t.chan n).latch = true ∧ (t.chan n).causes.getLsbD 7 = true)) ∧ (t.slot (ringSlot x 1)).real.getLsbD
        0 = false ∧ (t.slot (ringSlot x 4)).real.getLsbD 0 = false ∧ KeepsHost t s)
    ∧ ((s.ring x).logic = true → (s.ring x).vfOk = true → (s.ring x).upClear = true → (s.ring x).taken = true →
        exec (.ringConfigConfirm x false) s = .next (s.linkDiscard x))

/-- The heartbeat rows, LINK_LOST, LINK_TIMEOUT, HOLDOVER: one heartbeat each way every 25 us, what keeps a link up, and what its loss does
(R16, R18, R19, R25, R26, R28, R58, R429). -/
def Obligations.HeartbeatsKeepTheLink : Prop :=
  ∀ (x : RingId) (s : State),
    (s.phase = .run → s.pwr.mode ≠ .cellar → s.time.beatAt ≤ s.clock → ∃ t, exec .hostHeartbeatSend s = .next t ∧ (∀ y ∈ [RingId.a,
        RingId.b], t.ring y = (if (s.ring y).logic then { s.ring y with beat := some ⟨s.gateTo y, (y = .a && s.pair.togglePend) || (s.ring
        y).beat.any (·.toggle)⟩ } else s.ring y)) ∧ t = { s with rings := t.rings, time := { s.time with beatAt := s.clock + 25 }, pair :=
        if (s.ring .a).logic then { s.pair with togglePend := false } else s.pair })
    ∧ (s.clock < s.time.beatAt → exec .hostHeartbeatSend s = .next s)
    ∧ (∀ (g : Beat), (s.ring x).beat = some g → (s.ring x).logic = true → (s.ring x).safeq = [] → (s.ring x).ringLost = false → ∃ t, exec
        (.hostHeartbeatReceive x true) s = .next t ∧ (t.ring x).beat = none ∧ (t.ring x).lastHostBeat = s.clock ∧ (t.ring x).realigned =
        true ∧ (t.ring x).gateIn = g.gate ∧ (t.ring x).driveGate = (!s.pairOn || (g.gate && (x = .b || (s.ring x).qual))) ∧ KeepsHost t s ∧
        KeepsUnits t s ∧ t.recd = s.recd ∧ t.flt = s.flt ∧ t.pair = (if g.toggle && x = .a && s.pair.sourceOn then
        { s.pair with toggles := s.pair.toggles + 1, toggleAt := s.clock } else s.pair))
    ∧ (∀ (g : Beat), (s.ring x).beat = some g → (s.ring x).logic = true → (s.ring x).safeq = [] → (s.ring x).ringLost = false → ∃ t, exec
        (.hostHeartbeatReceive x false) s = .next t ∧ (t.ring x).beat = none ∧ (t.ring x).lastHostBeat = (s.ring x).lastHostBeat ∧ (t.ring
        x).ringRx = satInc (s.ring x).ringRx ∧ (t.ring x).driveGate = (s.ring x).driveGate ∧ KeepsHost t s ∧ KeepsUnits t s)
    ∧ (∀ (g : Beat) (good : Bool), (s.ring x).beat = some g → (s.ring x).logic = true → (s.ring x).safeq = [] → (s.ring x).ringLost = true → exec
        (.hostHeartbeatReceive x good) s = .next (s.modRing x (fun r => { r with beat := none })))
    ∧ ((s.ring x).logic = true → (s.ring x).offered = true → (s.ring x).ringLost = false → (s.ring x).beatAt ≤ s.clock → exec
        (.ringHeartbeatSend x) s = .next (s.modRing x (fun r => { r with ringBeat := true, beatAt := s.clock + 25 })))
    ∧ (s.clock < (s.ring x).beatAt → exec (.ringHeartbeatSend x) s = .next s)
    ∧ (s.phase = .run → (s.ring x).ringBeat = true → ∃ t, exec (.ringHeartbeatReceive x true) s = .next t ∧ (t.ring x).ringBeat = false ∧
        (t.ring x).lastRingBeat = s.clock ∧ (t.ring x).link = (s.ring x).link ∧ (t.ring x).holdover = ((s.ring x).holdover && !((s.ring
        x).link && (s.ring x).realigned)) ∧ KeepsHost t s ∧ KeepsUnits t s ∧ t.recd.core = s.recd.core ∧ t.chans = s.chans)
    ∧ (s.phase = .run → (s.ring x).ringBeat = true → ∃ t, exec (.ringHeartbeatReceive x false) s = .next t ∧ (t.ring x).ringBeat = false ∧
        (t.ring x).lastRingBeat = (s.ring x).lastRingBeat ∧ (t.ring x).hostRx = satInc (s.ring x).hostRx ∧ (t.ring x).holdover = (s.ring
        x).holdover ∧ KeepsHost t s ∧ KeepsUnits t s ∧ t.chans = s.chans)
    ∧ (s.phase = .run → (s.ring x).link = true → s.pwr.mode ≠ .cellar → (s.ring x).lastRingBeat + 100 ≤ s.clock → ∃ t, exec (.linkLost
        x) s = .next t ∧ (t.ring x).link = false ∧ (t.ring x).downAt = s.clock ∧ (t.ring x).staged = false ∧ (t.ring x).linkDrops = satInc
        (s.ring x).linkDrops ∧ (t.slot (ringSlot x 0)).real.getLsbD 0 = true ∧ x ∉ t.img.await ∧ t.clock = s.clock ∧ t.time = s.time ∧
        t.tickets = s.tickets ∧ t.fab = s.fab ∧ t.adcs = s.adcs ∧ t.filt = s.filt ∧ t.chks = s.chks)
    ∧ ((s.ring x).logic = true → (s.ring x).ringLost = false → (s.ring x).rmode ≠ .cellar → (s.ring x).lastHostBeat + (s.ring
        x).linkTimeout ≤ s.clock → ∃ t, exec (.linkTimeout x) s = .next t ∧ (t.ring x).ringLost = true ∧ (∀ n, ringOf n = x → (t.chan
        n).latch = true ∧ (t.chan n).causes.getLsbD 6 = true) ∧ (∀ n, ringOf n ≠ x → t.chan n = s.chan n) ∧ KeepsHost t s ∧ KeepsUnits
        { t with freeCtr := s.freeCtr } s ∧ t.recd = s.recd ∧ t.wheels = s.wheels ∧ t.pair = s.pair)
    ∧ (s.phase = .run → (s.ring x).everUp = true → (s.ring x).link = false → (s.ring x).holdover = false → s.pwr.mode ≠ .cellar →
        (s.ring x).downAt + 100000 ≤ s.clock → ∃ t, exec (.holdover x) s = .next t ∧ (t.ring x).holdover = true ∧ (t.slot
        (ringSlot x 17)).real.getLsbD 0 = true ∧ KeepsHost t s ∧ KeepsUnits t s ∧ t.recd.core = s.recd.core ∧ t.chans = s.chans)

/-- LINK_COMMAND_FRAME, LINK_CMD_RETRY, SAFE_PATH_FRAME, RING_FAULT_REPORT, ACCEPTED_CHANGE_ARRIVAL: what each frame does (R17, R18, R29,
R133, R352). That a report waits behind an older frame is log entry 104, and that a restart message clears STATE without a FALL is log
entry 48: both are DEDUCED, the model's reading. -/
def Obligations.FramesOnTheLinks : Prop :=
  ∀ (x : RingId) (s : State),
    (∀ (n : Fin 16) (v : Word) (k : Nat) (q : List (RingCmd × Nat)), (s.ring x).downOpen = true → (s.ring x).cmdq
        = (.swcnt n v, k) :: q → exec (.linkCommandFrame x true) s = .next ((s.modRing x (fun r => { r with cmdq := q })).modChan n (fun
        c => { c with stage := { c.stage with swcnt := v } })))
    ∧ ((s.ring x).downOpen = true → (s.ring x).cmdq ≠ [] → ∃ t, exec (.linkCommandFrame x false) s = .next t ∧
        (t.ring x).ringRx = satInc (s.ring x).ringRx ∧ ((∃ f, (t.ring x).cmdq = (s.ring x).cmdq ++ f)) ∧ KeepsHost t s ∧ KeepsUnits t s
        ∧ t.chans = s.chans ∧ t.recd.core = s.recd.core)
    ∧ (∀ (f : RingCmd) (k : Nat) (q : List (RingCmd × Nat)), (s.ring x).link = true → (s.ring x).cmdq = (f, k) :: q → k < 7 → exec
        (.linkCmdRetry x) s = .next (s.modRing x (fun r => { r with cmdq := (f, k + 1) :: q })))
    ∧ (∀ (f : RingCmd) (k : Nat) (q : List (RingCmd × Nat)), (s.ring x).link = true → (s.ring x).cmdq = (f, k) :: q → 7 ≤ k → exec
        (.linkCmdRetry x) s = .next ((s.modRing x (fun r => { r with cmdq := q })).raise ⟨ringSlot x 2, 0, false, 0#32, false⟩))
    ∧ (∀ (m : BitVec 16) (q : List (BitVec 16)), (s.ring x).logic = true → (s.ring x).link = true → (s.ring x).safeq = m :: q → ∃ t,
        exec (.safePathFrame x true) s = .next t ∧ (∀ n, ringOf n = x → m.getLsbD n.1 = true → (t.chan n).latch = true ∧ (t.chan
        n).causes.getLsbD 0 = true) ∧ (∀ n, ringOf n ≠ x → t.chan n = s.chan n) ∧ (t.ring x).safeq = q ∧ KeepsHost t s ∧ KeepsUnits t s
        ∧ t.recd = s.recd ∧ t.wheels = s.wheels ∧ t.pair = s.pair)
    ∧ ((s.ring x).logic = true → (s.ring x).link = true → (s.ring x).safeq ≠ [] → s.hostSilent = false → ∃ t, exec (.safePathFrame x
        false) s = .next t ∧ (t.ring x).ringRx = satInc (s.ring x).ringRx ∧ ((∃ f, (t.ring x).safeq = (s.ring x).safeq ++ f)) ∧
        KeepsHost t s ∧ KeepsUnits t s ∧ t.chans = s.chans)
    ∧ ((s.ring x).safeq ≠ [] ∨ (s.ring x).beat.isSome = true → ∀ good : Bool, exec (.linkCommandFrame x good) s = .next s)
    ∧ (∀ (e : Report) (q : List Report), s.phase = .run → (s.ring x).upOpen = true → (s.ring x).reports = e :: q → s.upBefore x e.clock =
        false → e.raise = true → e.slot ≠ hostSlot 7 → s.reportWaits e = false → instantSource e.slot.1 e.member.toNat = false → (s.slot e.slot).cause e.member.toNat false = none → (s.slot
        e.slot).real.getLsbD (e.member.toNat % 32) = false → ∃ t, exec (.ringFaultReport x true)
        s = .next t ∧ (t.ring x).reports = q ∧ (t.slot e.slot).real.getLsbD (e.member.toNat % 32) = true ∧ (t.slot e.slot).raises = satInc
        (s.slot e.slot).raises ∧ (t.slot e.slot).liveAt = (s.slot e.slot).liveAt ++ [⟨e.member, false, e.tick, BitVec.ofNat 2 (s.settle
        e.slot e.member.toNat e.tick).1, BitVec.ofNat 3 (s.settle e.slot e.member.toNat e.tick).2, false⟩] ∧ KeepsHost t s ∧ KeepsUnits
        t s ∧ t.recd.core = s.recd.core ∧ (slotChannel e.slot = none → t.chans = s.chans))
    ∧ (∀ (e : Report) (q : List Report), s.phase = .run → (s.ring x).upOpen = true → (s.ring x).reports = e :: q → s.upBefore x e.clock =
        false → e.raise = false → slotChannel e.slot = none → exec (.ringFaultReport x true) s = .next ((s.modRing x (fun r =>
        { r with reports := q })).clearCauseAt e.slot e.member.toNat false e.tick e.late))
    ∧ (∀ (e : Report) (q : List Report), s.phase = .run → (s.ring x).upOpen = true → (s.ring x).reports = e :: q → s.upBefore x e.clock =
        false → e.raise = true → slotChannel e.slot = none → e.slot ≠ ringSlot x 5 → instantSource e.slot.1 e.member.toNat = false → (s.slot
        e.slot).real.getLsbD (e.member.toNat % 32) = true → exec (.ringFaultReport x true) s = .next (s.modRing x (fun r =>
        { r with reports := q })))
    ∧ (∀ (e : Report) (q : List Report), (s.ring x).reports = e :: q → s.upBefore x e.clock = true ∨ s.reportWaits e = true → ∀ good : Bool, exec (.ringFaultReport
        x good) s = .next s)
    ∧ (∀ (n : Fin 16) (st i : Bool) (u : Nat) (w : Word) (q : List UpMsg), s.phase = .run → (s.ring x).upOpen = true → s.pwr.mode ≠
        .cellar → (s.ring x).upq = .change n st i u w :: q → (s.ring x).reports = [] → (s.chan n).countFirst u = false → ∃ t, exec (.acceptedChangeArrival x true) s = .next
        t ∧ (t.ring x).upq = q ∧ (t.chan n).hostState = (st && !(s.pair.standby && (s.chan n).func = 13)) ∧ (t.chan n).hostRise = ((s.chan n).hostRise
        || (st && !i)) ∧ (t.chan n).hostFall = ((s.chan n).hostFall || (!st && !i)) ∧ KeepsHost t s ∧ KeepsUnits t s ∧ t.recd.core =
        s.recd.core ∧ (∀ m, m ≠ n → t.chan m = s.chan m))
    ∧ (∀ (cs : List (BitVec 16)) (set : List Bool) (u : Nat) (q : List UpMsg), s.phase = .run → (s.ring x).upOpen = true → s.pwr.mode ≠
        .cellar → (s.ring x).upq = .latches cs set u :: q → (s.ring x).reports = [] → exec (.acceptedChangeArrival x true) s = .next
        ((s.modRing x (fun r => { r with upq := q })).takeLatches x cs set))
    ∧ (∀ (n : Fin 16) (st : BitVec 3) (u : Nat) (q : List UpMsg), s.phase = .run → (s.ring x).upOpen = true → s.pwr.mode ≠ .cellar →
        s.pair.standby = false → (s.ring x).upq = .plug n st u :: q → (s.ring x).reports = [] → exec (.acceptedChangeArrival x true) s =
        .next ((s.modRing x (fun r => { r with upq := q })).modChan n (fun c =>
        { c with hostPlug := st, hostRise := c.hostRise || (st = 1#3 && c.hostPlug ≠ 1#3), hostFall := c.hostFall || (st ≠ 1#3 && c.hostPlug = 1#3) })))
    ∧ (∀ (n : Fin 16) (u : Nat) (q : List UpMsg), s.phase = .run → (s.ring x).upOpen = true → s.pwr.mode ≠ .cellar → (s.ring x).upq =
        .restarted n u :: q → (s.ring x).reports = [] → isAi (s.chan n).func = false → ∃ t, exec (.acceptedChangeArrival x true) s =
        .next t ∧ (t.chan n).hostState = false ∧ (∀ m, m ≠ n → t.chan m = s.chan m) ∧ KeepsHost t s ∧ KeepsUnits t s)
    ∧ (∀ (b : Bool) (u : Nat) (q : List UpMsg), s.phase = .run → (s.ring x).upOpen = true → s.pwr.mode ≠ .cellar → (s.ring x).upq =
        .taps b u :: q → (s.ring x).reports = [] → exec (.acceptedChangeArrival x true) s = .next (s.modRing x (fun r =>
        { r with upq := q, hostTaps := b })))
    ∧ (∀ (n : Fin 16) (v : Word) (u : Nat) (q : List UpMsg), s.phase = .run → (s.ring x).upOpen = true → s.pwr.mode ≠ .cellar → (s.ring
        x).upq = .scan n v u :: q → (s.ring x).reports = [] → exec (.acceptedChangeArrival x true) s = .next ((s.modRing x (fun r =>
        { r with upq := q })).toWheels n 1 0 u v))
    ∧ (s.phase = .run → (s.ring x).upOpen = true → s.pwr.mode ≠ .cellar → (s.ring x).upq ≠ [] → (s.ring x).reports = [] → (∀ m, (s.ring x).upq.head? = some m → s.messageWaits m = false) → ∃ t, exec
        (.acceptedChangeArrival x false) s = .next t ∧ (t.ring x).hostRx = satInc (s.ring x).hostRx ∧ (t.ring x).upq = (if (s.ring
        x).upq.head?.any (·.once) then (s.ring x).upq.tail else (s.ring x).upq) ∧
        KeepsHost t s ∧ KeepsUnits t s ∧ t.chans = s.chans)

/-- NOP, RELEASE, FETCH, PORT_REVERT: frames without a ticket, and what they do to tickets and port (R69, R71, R73, R74, R82, R91). -/
def Obligations.FramesThatTakeNoTicket : Prop :=
  ∀ (e : Env) (s : State),
    (∀ (a : Addr) (w : Word), s.portHears e = true → e.len = 0#8 → ∃ t, exec (.nop e a w) s = .next t ∧ t.tickets = s.tickets ∧ (t.port
        e.port).lastTicket = 0xFC#8 ∧ (t.port e.port).lastSeq = e.seq.truncate 8 ∧ (t.port e.port).window = (s.port e.port).window ∧
        (t.port e.port).executing = (s.port e.port).executing ∧ (t.port e.port).waiting = (s.port e.port).waiting ∧ (t.port e.port).rev
        = (s.port e.port).nextRev ∧ t.time = s.time ∧ t.shadows = s.shadows ∧ KeepsUnits t s ∧ t.recd = s.recd ∧ t.wheels = s.wheels ∧
        t.flt = s.flt ∧ t.chans = s.chans ∧ t.rings = s.rings ∧ t.rpl = s.rpl ∧ t.pair = s.pair ∧ t.cells = s.cells ∧ RowFrame t s e)
    ∧ (∀ (a : Addr) (w : Word), s.portHears e = true → e.len = 0#8 → ∃ t, exec (.release e a w) s = .next t ∧ (∀ i : Fin 64,
        (s.tickets[i.1]).readyFor (portMaster e.port) = true → (t.tickets[i.1]).st = .free) ∧ (∀ i : Fin 64, (s.tickets[i.1]).execFor
        (portMaster e.port) = true → (t.tickets[i.1]).dropped = true) ∧ (∀ i : Fin 64, (s.tickets[i.1]).holder ≠ some (portMaster
        e.port) → t.tickets[i.1] = s.tickets[i.1]) ∧ (t.port e.port).lastTicket = 0xFC#8 ∧ t.time = s.time ∧ t.shadows = s.shadows ∧
        KeepsUnits t s ∧ t.recd = s.recd ∧ t.wheels = s.wheels ∧ t.flt = s.flt ∧ t.chans = s.chans ∧ t.rings = s.rings ∧ t.rpl = s.rpl ∧
        t.pair = s.pair ∧ t.cells = s.cells)
    ∧ (∀ (k : Fin 64) (r : Response) (a : Addr) (w : Word), s.portHears { e with ticket := 0xFF#8 } = true → e.len = 0#8 → s.fetchTicket
        e.port e.ticket = some k → (s.tickets[k.1]).resp = some r → ∃ t, exec (.fetch e a w true) s = .next t ∧ (t.port
        e.port).out.fetched = some r ∧ (t.tickets[k.1]).st = .free ∧ (∀ i : Fin 64, i ≠ k → t.tickets[i.1] = s.tickets[i.1]) ∧ (t.port
        e.port).lastTicket = 0xFC#8 ∧ t.time = s.time ∧ t.shadows = s.shadows ∧ KeepsUnits t s ∧ t.recd = s.recd ∧ t.wheels = s.wheels ∧
        t.flt = s.flt ∧ t.chans = s.chans ∧ t.rings = s.rings ∧ t.rpl = s.rpl ∧ t.pair = s.pair ∧ t.cells = s.cells)
    ∧ (∀ (k : Fin 64) (r : Response) (a : Addr) (w : Word), s.portHears { e with ticket := 0xFF#8 } = true → e.len = 0#8 → s.fetchTicket
        e.port e.ticket = some k → (s.tickets[k.1]).resp = some r → ∃ t, exec (.fetch e a w false) s = .next t ∧ (t.port
        e.port).out.fetched = some r ∧ t.tickets = s.tickets ∧ t.time = s.time ∧ t.shadows = s.shadows ∧ KeepsUnits t s ∧ t.recd =
        s.recd ∧ t.wheels = s.wheels ∧ t.flt = s.flt ∧ t.chans = s.chans ∧ t.rings = s.rings ∧ t.rpl = s.rpl ∧ t.pair = s.pair ∧ t.cells
        = s.cells ∧ RowFrame t s e)
    ∧ (∀ (a : Addr) (w : Word) (clocked : Bool), s.portsAnswer = true → s.pwr.mode ≠ .cellar → e.crcGood = false → ∃ t, exec (.fetch e a w
        clocked) s = .next t ∧ (t.port e.port).out.fetched.map (·.rstat) = some (Status.badFrame).code ∧ (t.port e.port).lastTicket = 0xFD#8
        ∧ (t.port e.port).cntDisc = satInc (s.port e.port).cntDisc ∧ t = { s with ports := t.ports } ∧ RowFrame t s e)
    ∧ (∀ (p : PortId) (mode3 : Bool), s.portsAnswer = true → s.pwr.mode ≠ .cellar → ∃ t, exec (.portRevert p mode3) s = .next t ∧ t = { s with ports := t.ports }
        ∧ t.port p = { s.port p with rev := 1, quad := false, helloDone := none, spiMode := mode3, out := (t.port p).out, sticky := (s.port p).sticky ||| 0x80#8, lastTicket := 0xFF#8, lastSeq := 0#8 }
        ∧ (t.port p).out.fetched = none ∧ (∀ q ∈ [PortId.hp0, PortId.hp1], q ≠ p → t.port q = s.port q))

/-- HELLO, READ, WRITE, STATUS_CLEAR and an unknown operation: what each request answers (R72, R74, R75, R76, R88, R89, R456). -/
def Obligations.RequestsAreAnswered : Prop :=
  ∀ (e : Env) (s : State),
    (∀ (a : Addr) (w : Word), s.hostReady e opHello = true → 1 ≤ min (fld w 4 4) 2 → fld w 0 4 ≤ min (fld w 4 4) 2 → ∃ t, exec (.hello e
        a w) s = .next t ∧ t.answers e .ok 0#32 [word (0x2100 + b2n (bit w 8 && decide (min (fld w 4 4) 2 = 2)) * 16 + min (fld w 4 4)
        2), 0x00431624#32] = true ∧ (t.port e.port).helloPend = (s.port e.port).helloPend.filter (fun h => h.1 ≠ e.seq) ++ [(e.seq, min
        (fld w 4 4) 2, bit w 8 && decide (min (fld w 4 4) 2 = 2))] ∧ (t.port e.port).rev = (s.port e.port).nextRev ∧ t.time = s.time ∧ t.shadows = s.shadows ∧ KeepsUnits t s
        ∧ t.recd = s.recd ∧ t.wheels = s.wheels ∧ t.flt = s.flt ∧ t.chans = s.chans ∧ t.rings = s.rings ∧ t.rpl = s.rpl ∧ t.pair =
        s.pair ∧ t.cells = s.cells ∧ RowFrame t s e)
    ∧ (∀ (a : Addr) (w : Word), s.hostReady e opHello = true → (min (fld w 4 4) 2 < fld w 0 4 ∨ min (fld w 4 4) 2 < 1) → ∃ t, exec
        (.hello e a w) s = .next t ∧ t.answers e .refused 0#32 [0x2100#32, 0x00431624#32] = true ∧ (t.port e.port).helloPend = (s.port
        e.port).helloPend ∧ t.time = s.time ∧ t.shadows = s.shadows ∧ KeepsUnits t s ∧ t.recd = s.recd ∧ t.wheels = s.wheels ∧ t.flt =
        s.flt ∧ t.chans = s.chans ∧ t.rings = s.rings ∧ t.rpl = s.rpl ∧ t.pair = s.pair ∧ t.cells = s.cells ∧ RowFrame t s e)
    ∧ (∀ (r : Reg) (w : Word), s.hostReady e opRead = true → ∃ t, exec (.read e r.addr w) s = .next t ∧ t.answers e .ok 0#32 [((s.intake
        ⟨opRead, r.addr, w, none, e⟩).regRead (portOrigin e.port) r).1] = true ∧ t = ((s.intake ⟨opRead, r.addr, w, none, e⟩).regRead (portOrigin
        e.port) r).2.answer e.port (s.requestOf ⟨opRead, r.addr, w, none, e⟩) (.value ((s.intake ⟨opRead, r.addr, w, none, e⟩).regRead (portOrigin e.port) r).1) ∧ t.pending = s.pending ∧ t.clock = s.clock ∧ t.vio =
        s.vio ∧ t.phase = s.phase ∧ t.time = s.time ∧ t.recd.journal = s.recd.journal)
    ∧ (∀ (a : Addr) (w : Word), s.hostReady e opRead = true → decodeAddr a = .none → ∃ t, exec (.read e a w) s = .next t ∧ t.answers e
        .badAddr (a.zeroExtend 32) [] = true ∧ t.time = s.time ∧ t.shadows = s.shadows ∧ KeepsUnits t s ∧ t.recd = s.recd ∧ t.wheels =
        s.wheels ∧ t.flt = s.flt ∧ t.chans = s.chans ∧ t.rings = s.rings ∧ t.rpl = s.rpl ∧ t.pair = s.pair ∧ t.cells = s.cells ∧
        RowFrame t s e)
    ∧ (∀ (r : Reg) (w : Word), s.hostReady e opWrite = true → r ≠ .flt .release → ∃ t, exec (.write e r.addr w none) s = .next t ∧
        t.answers e (((s.intake ⟨opWrite, r.addr, w, none, e⟩).regWrite (portOrigin e.port) r s.tickLo w none).2).status (((s.intake
        ⟨opWrite, r.addr, w, none, e⟩).regWrite (portOrigin e.port) r s.tickLo w none).2).info (((s.intake ⟨opWrite, r.addr, w, none,
        e⟩).regWrite (portOrigin e.port) r s.tickLo w none).2).data = true ∧ (∀ (u : State) (o : Reply), (s.intake ⟨opWrite, r.addr, w, none, e⟩).regWrite
        (portOrigin e.port) r s.tickLo w none = (u, o) → t = (if o.status = .ok then State.mirrorWrite (s.intake ⟨opWrite, r.addr, w, none, e⟩) u (portOrigin
        e.port) r w else u).answer e.port (s.requestOf ⟨opWrite, r.addr, w, none, e⟩) o) ∧ t.pending = s.pending ∧ t.clock = s.clock)
    ∧ (∀ (a : Addr) (w : Word), s.hostReady e opWrite = true → decodeAddr a = .none → ∃ t, exec (.write e a w none) s = .next t ∧
        t.answers e .badAddr (a.zeroExtend 32) [] = true ∧ t.time = s.time ∧ t.shadows = s.shadows ∧ KeepsUnits t s ∧ t.recd = s.recd ∧
        t.wheels = s.wheels ∧ t.flt = s.flt ∧ t.chans = s.chans ∧ t.rings = s.rings ∧ t.rpl = s.rpl ∧ t.pair = s.pair ∧ t.cells =
        s.cells ∧ RowFrame t s e)
    ∧ (∀ (w : Word), s.hostReady e opWrite = true → ∃ t, exec (.statusClear e (Reg.addr (.bg .diag)) w) s = .next t ∧ t.answers e .ok
        0#32 [] = true ∧ t.bg = { s.bg with diag := s.bg.diag &&& ~~~ (w.truncate 8) } ∧ t.recd.journal = s.recd.journal ∧ t.svc = s.svc
        ∧ t.img = s.img ∧ t.fab = s.fab ∧ t.adcs = s.adcs ∧ t.filt = s.filt ∧ t.chks = s.chks ∧ t.pwr = s.pwr ∧ t.flt = s.flt ∧ t.chans
        = s.chans ∧ t.rings = s.rings ∧ RowFrame t s e)
    ∧ (∀ (op : Byte) (a : Addr) (w : Word), s.hostTakes e = true → e.len.toNat ≤ 1 → 8 ≤ op.toNat → ∃ t, exec (.unknownOp e op a w) s =
        .next t ∧ t.answers e .badOp (op.zeroExtend 32) [] = true ∧ t.time = s.time ∧ t.shadows = s.shadows ∧ KeepsUnits t s ∧ t.recd =
        s.recd ∧ t.wheels = s.wheels ∧ t.flt = s.flt ∧ t.chans = s.chans ∧ t.rings = s.rings ∧ t.rpl = s.rpl ∧ t.pair = s.pair ∧ t.cells
        = s.cells ∧ RowFrame t s e)

/-- RESPONSE_READY and RESPONSE_RETIRE: a request's ticket becomes ready with its response, and is retired when it is too old (R78,
R80, R82, R348). -/
def Obligations.ResponsesComeAndGo : Prop :=
  ∀ (s : State),
    (∀ (p : PortId) (q : Request) (r : Response), s.phase = .run → s.releaseOf p = none → (s.port p).executing = some (q, r) → (s.port
        p).waiting = [] → (s.tickets[q.ticket.1]).dropped = false → ∃ t, exec (.responseReady p) s = .next t ∧
        (t.tickets[q.ticket.1]).st = .ready (portMaster p) s.clock s.readyCount ∧ (t.tickets[q.ticket.1]).resp = some r ∧ (t.port
        p).executing = none ∧ t.readyCount = s.readyCount + 1 ∧ (∀ i : Fin 64, i ≠ q.ticket → t.tickets[i.1] = s.tickets[i.1]) ∧ t.time
        = s.time ∧ t.shadows = s.shadows ∧ KeepsUnits t s ∧ t.recd = s.recd ∧ t.wheels = s.wheels ∧ t.flt = s.flt ∧ t.chans = s.chans ∧
        t.rings = s.rings ∧ t.rpl = s.rpl ∧ t.pair = s.pair ∧ t.cells = s.cells)
    ∧ (∀ (p : PortId) (q : Request) (r : Response), s.phase = .run → s.releaseOf p = none → (s.port p).executing = some (q, r) → (s.port
        p).waiting = [] → (s.tickets[q.ticket.1]).dropped = true → ∃ t, exec (.responseReady p) s = .next t ∧ (t.tickets[q.ticket.1]).st
        = .free ∧ (t.port p).executing = none ∧ (t.port p).retired = satInc (s.port p).retired ∧ t.readyCount = s.readyCount ∧ (∀ i :
        Fin 64, i ≠ q.ticket → t.tickets[i.1] = s.tickets[i.1]) ∧ t.time = s.time ∧ KeepsUnits t s ∧ t.recd = s.recd ∧ t.chans = s.chans
        ∧ t.rings = s.rings)
    ∧ (∀ (p : PortId) (k : Fin 64) (since c : Nat), s.phase = .run → (s.tickets[k.1]).st = .ready (portMaster p) since c → since + fld
        (s.port p).cfg 0 10 * 1000 ≤ s.clock → ∃ t, exec (.responseRetire k) s = .next t ∧ (t.tickets[k.1]).st = .free ∧ (t.port
        p).sticky = (s.port p).sticky ||| 0x40#8 ∧ (t.port p).retired = satInc (s.port p).retired ∧ (∀ i : Fin 64, i ≠ k →
        t.tickets[i.1] = s.tickets[i.1]) ∧ t.time = s.time ∧ t.readyCount = s.readyCount ∧ t.shadows = s.shadows ∧ KeepsUnits t s ∧
        t.recd = s.recd ∧ t.wheels = s.wheels ∧ t.flt = s.flt ∧ t.chans = s.chans ∧ t.rings = s.rings ∧ t.rpl = s.rpl ∧ t.pair = s.pair
        ∧ t.cells = s.cells)

/-- TIME_MARK, CALTAG_STAGE, CALTAG_COMMIT: the mark takes the tick of the frame, and the tag is staged, then committed as one
change (R87, R93, R370, R371, R463). -/
def Obligations.TimeRegistersAreWritten : Prop :=
  ∀ (e : Env) (s : State),
    (∀ (w : Word), s.hostReady e opWrite = true → ∃ t, exec (.timeMark e w) s = .next t ∧ t.answers e .ok 0#32 [] = true ∧
        t.time.markTick = s.tickLo ∧ t.time.markHost = w ∧ t.time.markAt = some s.clock ∧ t.time.caltag = s.time.caltag ∧
        t.time.startClock = s.time.startClock ∧ t.shadows = s.shadows ∧ t.recd = s.recd ∧ RowFrame t s e ∧ t.svc = s.svc ∧ t.img = s.img
        ∧ t.fab = s.fab ∧ t.adcs = s.adcs ∧ t.filt = s.filt ∧ t.chks = s.chks ∧ t.pwr = s.pwr ∧ t.wheels = s.wheels ∧ t.flt = s.flt ∧
        t.chans = s.chans ∧ t.rings = s.rings ∧ t.rpl = s.rpl ∧ t.pair = s.pair ∧ t.cells = s.cells)
    ∧ (∀ (w : Word) (c : Nat), s.hostReady e opWrite = true → s.time.markAt = some c → s.clock < c + 1000000 → ∃ t, exec (.timeMark e w)
        s = .next t ∧ t.time.markEarly = true ∧ t.time.refMark = s.time.refMark ∧ t.bg = s.bg)
    ∧ (∀ (w : Word), s.hostReady e opWrite = true → ∃ t, exec (.caltagStage e w) s = .next t ∧ t.answers e .ok 0#32 [] = true ∧ t.shadow
        (originMaster (portOrigin e.port)) (Reg.time .caltagHi).addr true = some w ∧ KeepsUnits t s ∧ t.time = s.time ∧ t.recd = s.recd
        ∧ t.wheels = s.wheels ∧ t.flt = s.flt ∧ t.chans = s.chans ∧ t.rings = s.rings ∧ t.rpl = s.rpl ∧ t.pair = s.pair ∧ t.cells =
        s.cells)
    ∧ (∀ (w : Word), s.hostReady e opWrite = true → s.recd.journal.length < 2047 → ∃ t, exec (.caltagCommit e w) s = .next t ∧ t.answers
        e .ok s.recd.seqNext [] = true ∧ t.time =
        { s.time with caltag := w ++ (s.shadow (originMaster (portOrigin e.port)) (Reg.time .caltagHi).addr true).getD 0#32, calat := s.opt }
        ∧ t.recd = (s.appendJournal 2 (portOrigin e.port) ((s.shadow (originMaster (portOrigin e.port)) (Reg.time .caltagHi).addr
        true).getD 0#32) (w)).recd ∧ KeepsUnits t s ∧ RowFrame t s e ∧ t.shadows = s.shadows ∧ t.wheels = s.wheels ∧ t.flt = s.flt ∧
        t.chans = s.chans ∧ t.rings = s.rings ∧ t.rpl = s.rpl ∧ t.pair = s.pair ∧ t.cells = s.cells)

/-- A change with the journal full is refused JOURNAL_FULL and counted; the record that fills the journal makes its source live
(R77, R370, R372, R373). -/
def Obligations.FullJournalRefusesChanges : Prop :=
  ∀ (e : Env) (s : State),
    (∀ (w : Word), s.hostReady e opWrite = true → 2048 ≤ s.recd.journal.length → ∃ t, exec (.caltagCommit e w) s = .next t ∧ t.answers e
        .journalFull 0#32 [] = true ∧ t.recd = { s.recd with jnlRefused := satInc s.recd.jnlRefused } ∧ KeepsUnits t s ∧ RowFrame t s e
        ∧ t.time = s.time ∧ t.shadows = s.shadows ∧ t.wheels = s.wheels ∧ t.flt = s.flt ∧ t.chans = s.chans ∧ t.rings = s.rings ∧ t.rpl
        = s.rpl ∧ t.pair = s.pair ∧ t.cells = s.cells)
    ∧ (∀ (w : Word), s.hostReady e opWrite = true → 2048 ≤ s.recd.journal.length → 1 ≤ fld w 0 14 → fld w 0 14 ≤ 10000 → ∃ t, exec
        (.fltWdCfgWrite e w) s = .next t ∧ t.answers e .journalFull 0#32 [] = true ∧ t.recd =
        { s.recd with jnlRefused := satInc s.recd.jnlRefused } ∧ KeepsUnits t s ∧ RowFrame t s e ∧ t.time = s.time ∧ t.shadows =
        s.shadows ∧ t.wheels = s.wheels ∧ t.flt = s.flt ∧ t.chans = s.chans ∧ t.rings = s.rings ∧ t.rpl = s.rpl ∧ t.pair = s.pair ∧
        t.cells = s.cells)
    ∧ (∀ (w : Word), s.hostReady e opWrite = true → s.recd.journal.length = 2047 → ∃ t, exec (.caltagCommit e w) s = .next t ∧ t.answers
        e .ok s.recd.seqNext [] = true ∧ t.time.calat = s.opt ∧ t.recd.journal.length = 2048 ∧ (t.slot (hostSlot 12)).real.getLsbD 0 =
        true ∧ KeepsUnits t s)

/-- IMG_OPEN, SLOT_ERASE_DONE, IMG_WDATA, IMG_CLOSE, IMG_ABORT, CLAIM_QUERY: a session erases the inactive slot, takes words, and ends
(R110, R111, R112, R114, R128, R129, R370). That the slot reads erased from the acceptance of OPEN is log entry 20 (DEDUCED), that
IMG_WADDR wraps is log entry 102 (DESIGN CHOICE), and which sector fails in an erase is a free value (log entry 6). -/
def Obligations.ImageSessionIsWritten : Prop :=
  ∀ (e : Env) (s : State),
    (∀ (w : Word), s.hostReady e opWrite = true → s.recd.journal.length < 2047 → s.img.load = .idle → ∃ t, exec (.imgOpen e w) s = .next
        t ∧ t.answers e .ok s.recd.seqNext [] = true ∧ t.img.load = .erasing ∧ t.img.target = s.img.inactive ∧ (t.imgSlot
        s.img.inactive).st = .receiving ∧ t.img.waddr = 0#18 ∧ t.img.running = s.img.running ∧ ((Memory.wf s.cells = true → ∀ a,
        Memory.read t.cells a = if slotBase s.img.inactive ≤ a ∧ a < slotBase s.img.inactive + 0x20000 then erasedByte else Memory.read
        s.cells a)) ∧ t.recd = (s.appendJournal 4 (portOrigin e.port) (setFld w 0 4 1) (0#32)).recd ∧ RowFrame t s e ∧ t.chks = s.chks ∧
        t.svc = s.svc ∧ t.fab = s.fab ∧ t.adcs = s.adcs ∧ t.filt = s.filt ∧ t.bg = s.bg ∧ t.pwr = s.pwr ∧ t.freeCtr = s.freeCtr ∧
        t.wheels = s.wheels ∧ t.flt = s.flt ∧ t.chans = s.chans ∧ t.rings = s.rings ∧ t.rpl = s.rpl ∧ t.pair = s.pair ∧ t.time = s.time
        ∧ t.shadows = s.shadows)
    ∧ (s.phase = .run → s.img.load = .erasing → (∀ l : Fin 216, (if s.img.target then 32 else 0) ≤ l.1 → l.1 < (if s.img.target then 64 else 32) →
        s.bg.wear.mapped[l.1] + 1 < 100000) → ∃ t, exec (.slotEraseDone false) s = .next t ∧ t.img.load = .receiving ∧ t.img.ldCode = 0#8 ∧ t.recd.core
        = s.recd.core ∧ (∀ l : Fin 216, t.bg.wear.mapped[l.1] = s.bg.wear.mapped[l.1] + (if (if s.img.target then 32 else 0) ≤ l.1 ∧ l.1 <
        (if s.img.target then 64 else 32) then 1 else 0)) ∧ t.bg = { s.bg with wear := { s.bg.wear with mapped := t.bg.wear.mapped } } ∧
        KeepsHost t s ∧ t.svc = s.svc ∧ t.fab = s.fab ∧ t.adcs = s.adcs ∧ t.filt = s.filt ∧ t.pwr = s.pwr
        ∧ t.wheels = s.wheels ∧ t.flt = s.flt ∧ t.chans = s.chans ∧ t.rings = s.rings ∧ t.rpl = s.rpl ∧ t.pair = s.pair ∧ t.cells =
        s.cells ∧ t.chks = s.chks)
    ∧ (s.phase = .run → s.img.load = .erasing → ∃ (t : State) (l : Fin 216), exec (.slotEraseDone true) s = .next t ∧ (if s.img.target then 32 else 0) ≤ l.1 ∧ l.1 < (if s.img.target then 64 else 32) ∧
        t.bg = { s.bg with wear := s.bg.wear.failAt l } ∧ (s.bg.wear.pool ≠ [] → (t.slot (hostSlot 11)).real.getLsbD 0 = decide (s.bg.wear.pool.length ≤ 8)) ∧
        t.img.load = .idle ∧ t.img.ldCode = 0x1C#8 ∧ t.img.borrowed =
        false ∧ (t.imgSlot s.img.target).st = .invalid ∧ t.imgSlot (!s.img.target) = s.imgSlot (!s.img.target) ∧ t.img.running = s.img.running ∧
        t.cells = s.cells ∧ ReportFrame { t with img := s.img, bg := s.bg, chks := s.chks, freeCtr := s.freeCtr } s)
    ∧ (∀ (f : Bool), (s.phase ≠ .run ∨ s.img.load ≠ .erasing) → exec (.slotEraseDone f) s = .next s)
    ∧ (∀ (w : Word) (l : Fin 216), s.hostReady e opWrite = true → s.img.load = .receiving → s.img.waddr.toNat < 131072 → (s.imgSlot s.img.target).written.getLsbD
        (s.img.waddr.toNat / 4) = false → l.1 = (if s.img.target then 32 else 0) + s.img.waddr.toNat / 4096 → ∃ t, exec (.imgWdata e w true) s = .next t ∧
        t.bg = { s.bg with wear := s.bg.wear.failAt l } ∧ (s.bg.wear.pool ≠ [] → (t.slot (hostSlot 11)).real.getLsbD 0 = decide (s.bg.wear.pool.length ≤ 8)) ∧ t.answers e .ok 0#32 [] = true ∧ t.img.waddr =
        s.img.waddr + 4#18 ∧ t.img.load = .idle ∧ t.img.ldCode = 0x1C#8 ∧ t.img.borrowed = false ∧ (t.imgSlot s.img.target).st = .invalid ∧
        t.imgSlot (!s.img.target) = s.imgSlot (!s.img.target) ∧ t.img.running = s.img.running ∧ t.cells = s.cells ∧ RowFrame t s e ∧
        ReportFrame { t with img := s.img, bg := s.bg, chks := s.chks, tickets := s.tickets, ports := s.ports } s)
    ∧ (∀ (w : Word), s.hostReady e opWrite = true → s.img.load = .receiving → s.img.waddr.toNat % 4 = 0 → s.img.waddr.toNat < 131072 →
        (s.imgSlot s.img.target).written.getLsbD (s.img.waddr.toNat / 4) = false → ∃ t, exec (.imgWdata e w false) s = .next t ∧
        t.answers e .ok 0#32 [] = true ∧ t.img.waddr = s.img.waddr + 4#18 ∧ (t.imgSlot s.img.target).written.getLsbD (s.img.waddr.toNat
        / 4) = true ∧ ((Memory.wf s.cells = true → ∀ a, Memory.read t.cells a = if slotBase s.img.target + s.img.waddr.toNat ≤ a ∧ a <
        slotBase s.img.target + s.img.waddr.toNat + 4 then (leBytes w).getD (a - (slotBase s.img.target + s.img.waddr.toNat)) 0#8 else
        Memory.read s.cells a)) ∧ RowFrame t s e ∧ t.recd = s.recd ∧ t.chks = s.chks ∧ t.svc = s.svc ∧ t.fab = s.fab ∧ t.adcs = s.adcs ∧
        t.filt = s.filt ∧ t.bg = s.bg ∧ t.pwr = s.pwr ∧ t.freeCtr = s.freeCtr ∧ t.wheels = s.wheels ∧ t.flt = s.flt ∧ t.chans = s.chans
        ∧ t.rings = s.rings ∧ t.rpl = s.rpl ∧ t.pair = s.pair ∧ t.time = s.time ∧ t.shadows = s.shadows)
    ∧ (∀ (w : Word), s.hostReady e opWrite = true → s.img.load = .receiving → (s.imgSlot s.img.target).written.getLsbD
        (s.img.waddr.toNat / 4) = true → ∃ t, exec (.imgWdata e w false) s = .next t ∧ t.answers e .refused 0#32 [] = true ∧ t.img =
        { s.img with waddr := s.img.waddr + 4#18 } ∧ t.cells = s.cells ∧ t.recd = s.recd ∧ RowFrame t s e ∧ t.svc = s.svc ∧ t.fab =
        s.fab ∧ t.adcs = s.adcs ∧ t.filt = s.filt ∧ t.bg = s.bg ∧ t.pwr = s.pwr ∧ t.freeCtr = s.freeCtr ∧ t.wheels = s.wheels ∧ t.flt =
        s.flt ∧ t.chans = s.chans ∧ t.rings = s.rings ∧ t.rpl = s.rpl ∧ t.pair = s.pair ∧ t.time = s.time ∧ t.shadows = s.shadows)
    ∧ (∀ (w : Word), s.hostReady e opWrite = true → s.recd.journal.length < 2047 → s.img.load = .receiving → ∃ t, exec (.imgClose e w) s
        = .next t ∧ t.answers e .ok s.recd.seqNext [] = true ∧ t.img.load = .verifying ∧ t.img.borrowed = true ∧ t.img.target =
        s.img.target ∧ t.recd = (s.appendJournal 4 (portOrigin e.port) (setFld w 0 4 2) (0#32)).recd ∧ t.cells = s.cells ∧ RowFrame t s
        e ∧ t.svc = s.svc ∧ t.fab = s.fab ∧ t.adcs = s.adcs ∧ t.filt = s.filt ∧ t.bg = s.bg ∧ t.pwr = s.pwr ∧ t.freeCtr = s.freeCtr ∧
        t.wheels = s.wheels ∧ t.flt = s.flt ∧ t.chans = s.chans ∧ t.rings = s.rings ∧ t.rpl = s.rpl ∧ t.pair = s.pair ∧ t.time = s.time
        ∧ t.shadows = s.shadows)
    ∧ (∀ (w : Word), s.hostReady e opWrite = true → s.recd.journal.length < 2047 → s.img.load = .receiving → (s.imgSlot s.img.target).st
        = .receiving → s.img.starting = false → ∃ t, exec (.imgAbort e w) s = .next t ∧ t.answers e .ok s.recd.seqNext [] = true ∧
        t.img.load = .idle ∧ t.img.borrowed = false ∧ (t.imgSlot s.img.target).st = (if (s.imgSlot s.img.target).written = 0#32768 then
        .empty else .invalid) ∧ t.img.ldCode = 0x1D#8 ∧ t.cells = s.cells ∧ RowFrame t s e ∧ t.svc = s.svc ∧ t.fab = s.fab ∧ t.adcs =
        s.adcs ∧ t.filt = s.filt ∧ t.bg = s.bg ∧ t.pwr = s.pwr ∧ t.freeCtr = s.freeCtr ∧ t.wheels = s.wheels ∧ t.flt = s.flt ∧ t.chans =
        s.chans ∧ t.rings = s.rings ∧ t.rpl = s.rpl ∧ t.pair = s.pair ∧ t.time = s.time ∧ t.shadows = s.shadows)
    ∧ (∀ (w : Word), s.hostReady e opWrite = true → ∃ t, exec (.claimQuery e w) s = .next t ∧ t.answers e .ok 0#32 [] = true ∧ t.img =
        { s.img with claimq := BitVec.ofNat 16 (fld w 16 16) } ∧ t.recd = s.recd ∧ t.cells = s.cells ∧ t.chks = s.chks ∧ RowFrame t s e
        ∧ t.svc = s.svc ∧ t.fab = s.fab ∧ t.adcs = s.adcs ∧ t.filt = s.filt ∧ t.bg = s.bg ∧ t.pwr = s.pwr ∧ t.freeCtr = s.freeCtr ∧
        t.wheels = s.wheels ∧ t.flt = s.flt ∧ t.chans = s.chans ∧ t.rings = s.rings ∧ t.rpl = s.rpl ∧ t.pair = s.pair ∧ t.time = s.time
        ∧ t.shadows = s.shadows)

/-- VERIFY_DONE, ACTIVATE, IMAGE_EXPANDED, STAGING_ACK, ACTIVATION_BOUNDARY, START_ACTIVATION: from a verified slot to the running copy
(R95, R96, R114, R116, R117, R120, R126, R505). That IMG_ERRLOC is 0 for an outcome that names no place, success included, is log entry
16 (DESIGN CHOICE). -/
def Obligations.ImageIsVerifiedAndActivated : Prop :=
  ∀ (e : Env) (s : State),
    (s.phase = .run → s.img.load = .verifying → s.img.starting = false → s.img.ldOp = 2#4 → ∃ t, exec .verifyDone s = .next t ∧ (t.imgSlot
        s.img.target).st = (if (verify (s.slotBytes s.img.target) (some (s.imgSlot s.img.target).written)).code = 0 then .verified else
        .invalid) ∧ t.img.load = .idle ∧ t.img.ldCode = BitVec.ofNat 8 (verify (s.slotBytes s.img.target) (some (s.imgSlot
        s.img.target).written)).code ∧ t.img.borrowed = false ∧ t.img.running = s.img.running ∧ t.img.errloc = ((verify (s.slotBytes
        s.img.target) (some (s.imgSlot s.img.target).written)).errloc).getD 0#32 ∧ KeepsHost t s ∧ t.recd.core = s.recd.core ∧ t.svc =
        s.svc ∧ t.fab = s.fab ∧ t.adcs = s.adcs ∧ t.filt = s.filt ∧ t.bg = s.bg ∧ t.pwr = s.pwr ∧ t.wheels = s.wheels ∧ t.flt = s.flt ∧
        t.chans = s.chans ∧ t.rings = s.rings ∧ t.rpl = s.rpl ∧ t.pair = s.pair ∧ t.cells = s.cells)
    ∧ (∀ (w : Word) (n : Bool), s.hostReady e opWrite = true → s.recd.journal.length < 2047 → s.img.load = .idle → (s.imgSlot n).st =
        .verified → n = s.img.inactive → ∃ t, exec (.activate e (setFld w 8 1 (b2n n))) s = .next t ∧ t.answers e .ok s.recd.seqNext []
        = true ∧ t.img.load = .activating ∧ t.img.actPending = true ∧ t.img.target = n ∧ t.img.borrowed = true ∧ t.recd =
        (s.appendJournal 4 (portOrigin e.port) (setFld (setFld w 8 1 (b2n n)) 0 4 3) (s.headerCrc n)).recd ∧ t.cells = s.cells ∧
        RowFrame t s e ∧ t.svc = s.svc ∧ t.fab = s.fab ∧ t.adcs = s.adcs ∧ t.filt = s.filt ∧ t.bg = s.bg ∧ t.pwr = s.pwr ∧ t.freeCtr =
        s.freeCtr ∧ t.wheels = s.wheels ∧ t.flt = s.flt ∧ t.chans = s.chans ∧ t.rings = s.rings ∧ t.rpl = s.rpl ∧ t.pair = s.pair ∧
        t.time = s.time ∧ t.shadows = s.shadows)
    ∧ (s.phase = .run → s.img.load = .activating → s.img.shadow = none → ∃ t, exec .imageExpanded s = .next t ∧ t.img.shadow = some (parseImage
        (s.slotBytes s.img.target)) ∧ t.img.load = .activating ∧ ((s.img.starting = true → t.img.await = [] ∧ t.rings = s.rings)) ∧
        KeepsHost t s ∧ t.recd = s.recd ∧ t.svc = s.svc ∧ t.fab = s.fab ∧ t.adcs = s.adcs ∧ t.filt = s.filt ∧ t.chks = s.chks ∧ t.bg =
        s.bg ∧ t.pwr = s.pwr ∧ t.wheels = s.wheels ∧ t.flt = s.flt ∧ t.chans = s.chans ∧ t.rpl = s.rpl ∧ t.pair = s.pair ∧ t.cells =
        s.cells)
    ∧ (∀ (x : RingId), (s.ring x).upClear = true → (s.ring x).staged = true → x ∈ s.img.await → exec (.stagingAck x true) s = .next
        { s with img := { s.img with await := s.img.await.filter (· ≠ x) } } ∧ exec (.stagingAck x false) s = .next (s.linkDiscard x))
    ∧ (∀ (i : Image), s.img.shadow = some i → s.stepDue = true → s.actReady = true → s.img.starting = false → ∃ t, exec
        .activationBoundary s = .next t ∧ t.img.running = some i ∧ t.img.active = s.img.target ∧ t.img.recorded = some s.img.target ∧
        (t.imgSlot s.img.target).st = .active ∧ t.img.load = .idle ∧ t.img.noImage = false ∧ t.img.shadow = none ∧ KeepsHost t s ∧ t.svc
        = s.svc)
    ∧ (∀ (i : Image), s.img.shadow = some i → s.stepDue = true → s.actReady = true → s.img.starting = true → ∃ t, exec .startActivation
        s = .next t ∧ t.img.running = some i ∧ t.img.active = s.img.target ∧ t.img.recorded = some s.img.target ∧ (t.imgSlot
        s.img.target).st = .active ∧ t.img.load = .idle ∧ t.img.noImage = false ∧ t.img.starting = false ∧ KeepsHost t s ∧ t.svc =
        s.svc)

/-- FAB_HSIG_WRITE, FAB_HSIGSET, FAB_HSIGCLR, FAB_HSIGPLS: host signals are replaced, set, cleared and pulsed without a change
record (R75, R133, R141). -/
def Obligations.HostSignalsAreWritten : Prop :=
  ∀ (e : Env) (s : State),
    (∀ (i : Fin 4) (w : Word), s.hostReady e opWrite = true → ∃ t, exec (.fabHsigWrite e i w) s = .next t ∧ t.fab =
        { s.fab with hsig := (s.fab.hsig &&& ~~~ (0xFFFFFFFF#128 <<< (32 * i.1))) ||| (w.zeroExtend 128 <<< (32 * i.1)) } ∧ t.answers e
        .ok (word (s.fab.stepNo + 1)) [] = true ∧ RowFrame t s e ∧ t.time = s.time ∧ t.shadows = s.shadows ∧ t.recd = s.recd ∧ t.wheels
        = s.wheels ∧ t.flt = s.flt ∧ t.chans = s.chans ∧ t.rings = s.rings ∧ t.svc = s.svc ∧ t.img = s.img ∧ t.cells = s.cells ∧ t.adcs
        = s.adcs ∧ t.filt = s.filt ∧ t.rpl = s.rpl ∧ t.chks = s.chks ∧ t.pair = s.pair ∧ t.bg = s.bg ∧ t.pwr = s.pwr ∧ t.freeCtr =
        s.freeCtr)
    ∧ (∀ (i : Fin 4) (w : Word), s.hostReady e opWrite = true → ∃ t, exec (.fabHsigset e i w) s = .next t ∧ t.fab =
        { s.fab with hsig := s.fab.hsig ||| (w.zeroExtend 128 <<< (32 * i.1)) } ∧ t.answers e .ok (word (s.fab.stepNo + 1)) [] = true ∧
        RowFrame t s e ∧ t.time = s.time ∧ t.shadows = s.shadows ∧ t.recd = s.recd ∧ t.wheels = s.wheels ∧ t.flt = s.flt ∧ t.chans =
        s.chans ∧ t.rings = s.rings ∧ t.svc = s.svc ∧ t.img = s.img ∧ t.cells = s.cells ∧ t.adcs = s.adcs ∧ t.filt = s.filt ∧ t.rpl =
        s.rpl ∧ t.chks = s.chks ∧ t.pair = s.pair ∧ t.bg = s.bg ∧ t.pwr = s.pwr ∧ t.freeCtr = s.freeCtr)
    ∧ (∀ (i : Fin 4) (w : Word), s.hostReady e opWrite = true → ∃ t, exec (.fabHsigclr e i w) s = .next t ∧ t.fab =
        { s.fab with hsig := s.fab.hsig &&& ~~~ (w.zeroExtend 128 <<< (32 * i.1)) } ∧ t.answers e .ok (word (s.fab.stepNo + 1)) [] =
        true ∧ RowFrame t s e ∧ t.time = s.time ∧ t.shadows = s.shadows ∧ t.recd = s.recd ∧ t.wheels = s.wheels ∧ t.flt = s.flt ∧
        t.chans = s.chans ∧ t.rings = s.rings ∧ t.svc = s.svc ∧ t.img = s.img ∧ t.cells = s.cells ∧ t.adcs = s.adcs ∧ t.filt = s.filt ∧
        t.rpl = s.rpl ∧ t.chks = s.chks ∧ t.pair = s.pair ∧ t.bg = s.bg ∧ t.pwr = s.pwr ∧ t.freeCtr = s.freeCtr)
    ∧ (∀ (i : Fin 4) (w : Word), s.hostReady e opWrite = true → ∃ t, exec (.fabHsigpls e i w) s = .next t ∧ t.fab =
        { s.fab with pulses := s.fab.pulses ||| (w.zeroExtend 128 <<< (32 * i.1)) } ∧ t.answers e .ok (word (s.fab.stepNo + 1)) [] =
        true ∧ RowFrame t s e ∧ t.time = s.time ∧ t.shadows = s.shadows ∧ t.recd = s.recd ∧ t.wheels = s.wheels ∧ t.flt = s.flt ∧
        t.chans = s.chans ∧ t.rings = s.rings ∧ t.svc = s.svc ∧ t.img = s.img ∧ t.cells = s.cells ∧ t.adcs = s.adcs ∧ t.filt = s.filt ∧
        t.rpl = s.rpl ∧ t.chks = s.chks ∧ t.pair = s.pair ∧ t.bg = s.bg ∧ t.pwr = s.pwr ∧ t.freeCtr = s.freeCtr)

/-- FAB_SEL, FAB_WIN, FAB_APPLY, FAB_STEPCFG: a record is selected, staged, and applied at the next step as a journaled change
(R127, R154, R155, R370, R372). -/
def Obligations.RecordsAreStagedAndApplied : Prop :=
  ∀ (e : Env) (s : State),
    (∀ (w : Word), s.hostReady e opWrite = true → fld w 12 3 ≤ 4 → fld w 0 9 < elementCount (fld w 12 3) → ∃ t, exec (.fabSel e w) s =
        .next t ∧ t.answers e .ok 0#32 [] = true ∧ t.fab =
        { s.fab with selType := BitVec.ofNat 3 (fld w 12 3), selIndex := BitVec.ofNat 9 (fld w 0 9), staged := Vector.replicate 4 none }
        ∧ RowFrame t s e ∧ t.time = s.time ∧ t.shadows = s.shadows ∧ t.recd = s.recd ∧ t.wheels = s.wheels ∧ t.flt = s.flt ∧ t.chans =
        s.chans ∧ t.rings = s.rings ∧ t.svc = s.svc ∧ t.img = s.img ∧ t.cells = s.cells ∧ t.adcs = s.adcs ∧ t.filt = s.filt ∧ t.rpl =
        s.rpl ∧ t.chks = s.chks ∧ t.pair = s.pair ∧ t.bg = s.bg ∧ t.pwr = s.pwr ∧ t.freeCtr = s.freeCtr)
    ∧ (∀ (w : Word), s.hostReady e opWrite = true → 4 < fld w 12 3 → fld w 0 9 < elementCount (fld w 12 3) → ∃ t, exec (.fabSel e w) s =
        .next t ∧ t.answers e .refused 12#32 [] = true ∧ t.fab = s.fab ∧ RowFrame t s e ∧ t.time = s.time ∧ t.shadows = s.shadows ∧
        t.recd = s.recd ∧ t.wheels = s.wheels ∧ t.flt = s.flt ∧ t.chans = s.chans ∧ t.rings = s.rings ∧ t.svc = s.svc ∧ t.img = s.img ∧
        t.cells = s.cells ∧ t.adcs = s.adcs ∧ t.filt = s.filt ∧ t.rpl = s.rpl ∧ t.chks = s.chks ∧ t.pair = s.pair ∧ t.bg = s.bg ∧ t.pwr
        = s.pwr ∧ t.freeCtr = s.freeCtr)
    ∧ (∀ (i : Fin 4) (w : Word), s.hostReady e opWrite = true → ∃ t, exec (.fabWin e i w) s = .next t ∧ t.answers e .ok 0#32 [] = true ∧
        t.fab = { s.fab with staged := s.fab.staged.set i.1 (some w) } ∧ RowFrame t s e ∧ t.time = s.time ∧ t.shadows = s.shadows ∧
        t.recd = s.recd ∧ t.wheels = s.wheels ∧ t.flt = s.flt ∧ t.chans = s.chans ∧ t.rings = s.rings ∧ t.svc = s.svc ∧ t.img = s.img ∧
        t.cells = s.cells ∧ t.adcs = s.adcs ∧ t.filt = s.filt ∧ t.rpl = s.rpl ∧ t.chks = s.chks ∧ t.pair = s.pair ∧ t.bg = s.bg ∧ t.pwr
        = s.pwr ∧ t.freeCtr = s.freeCtr)
    ∧ (∀ (w : Word), s.hostReady e opWrite = true → s.recd.journal.length < 2047 → bit w 0 = true → s.recordOk s.fab.selType.toNat
        s.fab.selIndex.toNat s.fab.toApply = true → s.fab.liveValue = none → (recordUses s.fab.selType.toNat s.fab.selIndex.toNat
        s.fab.toApply).filterMap (fun u => s.heldByOther u.1 0 u.2 2 0) = [] → ∃ t, exec (.fabApply e w) s = .next t ∧ t.answers e .ok
        s.recd.seqNext [] = true ∧ t.fab.pend = s.fab.pend ++ [.record s.fab.selType.toNat s.fab.selIndex.toNat s.fab.toApply] ∧
        t.fab.applied = word (s.fab.stepNo + 1) ∧ t.img.diverged = true ∧ t.recd.journal = s.recd.journal ++ [s.journalRecord 3
        (portOrigin e.port) (word (s.fab.selType.toNat * 4096 + s.fab.selIndex.toNat)) (crc32 (wordsBytes s.fab.toApply))] ∧ RowFrame t
        s e ∧ t.time = s.time ∧ t.shadows = s.shadows ∧ t.wheels = s.wheels ∧ t.flt = s.flt ∧ t.chans = s.chans ∧ t.rings = s.rings ∧
        t.svc = s.svc ∧ t.cells = s.cells ∧ t.adcs = s.adcs ∧ t.filt = s.filt ∧ t.rpl = s.rpl ∧ t.chks = s.chks ∧ t.bg = s.bg ∧ t.pwr =
        s.pwr ∧ t.freeCtr = s.freeCtr)
    ∧ (∀ (w : Word), s.hostReady e opWrite = true → bit w 0 = true → s.recordOk s.fab.selType.toNat s.fab.selIndex.toNat s.fab.toApply =
        false → ∃ t, exec (.fabApply e w) s = .next t ∧ t.answers e .refused 0#32 [] = true ∧ t.fab = s.fab ∧ RowFrame t s e ∧ t.time =
        s.time ∧ t.shadows = s.shadows ∧ t.recd = s.recd ∧ t.wheels = s.wheels ∧ t.flt = s.flt ∧ t.chans = s.chans ∧ t.rings = s.rings ∧
        t.svc = s.svc ∧ t.img = s.img ∧ t.cells = s.cells ∧ t.adcs = s.adcs ∧ t.filt = s.filt ∧ t.rpl = s.rpl ∧ t.chks = s.chks ∧ t.pair
        = s.pair ∧ t.bg = s.bg ∧ t.pwr = s.pwr ∧ t.freeCtr = s.freeCtr)
    ∧ (∀ (w : Word), s.hostReady e opWrite = true → s.recd.journal.length < 2047 → 2 ≤ fld w 0 10 → fld w 0 10 ≤ 1000 → s.img.actPending
        = false → ∃ t, exec (.fabStepcfg e w) s = .next t ∧ t.answers e .ok s.recd.seqNext [] = true ∧ t.fab =
        { s.fab with stepPend := some (fld w 0 10) } ∧ t.img = { s.img with diverged := true, divcnt := satInc s.img.divcnt, configGen := s.img.configGen + 1 } ∧
        t.recd.journal = s.recd.journal ++ [s.journalRecord 1 (portOrigin e.port) (word (Reg.addrNat (.fab .stepcfg))) w] ∧ RowFrame t s
        e ∧ t.time = s.time ∧ t.shadows = s.shadows ∧ t.wheels = s.wheels ∧ t.flt = s.flt ∧ t.chans = s.chans ∧ t.rings = s.rings ∧
        t.svc = s.svc ∧ t.cells = s.cells ∧ t.adcs = s.adcs ∧ t.filt = s.filt ∧ t.rpl = s.rpl ∧ t.chks = s.chks ∧ t.bg = s.bg ∧ t.pwr =
        s.pwr ∧ t.freeCtr = s.freeCtr)

/-- EVALUATION_COMPLETE and FABRIC_STEP_TICK: a completed step commits at its end tick, a late one is an overrun, and the third
stops the fabric (R131, R148, R149, R150, R154, R155). -/
def Obligations.StepsCommitOrOverrun : Prop :=
  ∀ (s : State),
    (∀ (ns : BitVec 16), s.fab.running = true → s.fab.evalDone = false → exec (.evaluationComplete ns) s = .next
        { s with fab := { s.fab with evalDone := true, evalNow := ns, evalMax := (if s.fab.evalMax.toNat < ns.toNat then ns else s.fab.evalMax) } })
    ∧ (s.stepDue = true → s.img.shadow = none → ∃ t, exec .fabricStepTick s = .next t ∧ t.fab.stepNo = s.fab.stepNo + 1 ∧
        t.fab.stepStart = s.nextTick ∧ t.fab.pend = [] ∧ t.fab.stepN = s.fab.stepPend.getD s.fab.stepN ∧ KeepsHost t s ∧ t.svc = s.svc)
    ∧ (s.stepDue = true → s.img.shadow = none → s.stepping = true → s.fab.evalDone = true → ∃ t, exec .fabricStepTick s = .next t ∧
        t.fab.flags = s.fab.commit.flags ∧ t.fab.flagChg = s.fab.commit.flagChg ∧ t.fab.actOut = s.fab.commit.actOut ∧ t.fab.outChan =
        s.fab.commit.outChan ∧ t.fab.outDev = s.fab.commit.outDev ∧ t.fab.consec = 0#2 ∧ t.fab.overrunLast = false ∧ t.fab.evalLast = s.fab.evalNow)
    ∧ (s.stepDue = true → s.img.shadow = none → s.stepping = true → s.fab.evalDone = false → ∃ t, exec .fabricStepTick s = .next t ∧
        t.fab.flags = s.fab.flags ∧ t.fab.actOut = s.fab.actOut ∧ t.fab.outChan = s.fab.outChan ∧ t.fab.outDev = s.fab.outDev ∧
        t.fab.ovr = satInc s.fab.ovr ∧ t.fab.consec = s.fab.consec + 1#2 ∧ t.fab.overrunLast = true ∧ ((s.fab.consec = 2#2 →
        t.fab.running = false ∧ t.fab.stopped = true)))

/-- FUNCTION_CHANGE, MODE_PARAM_WRITE, INPUT_PARAM_WRITE, DI_COUNT_WRITE: journaled changes of one channel that its Ring takes later (R127,
R169, R176, R183, R184, R185, R373, R508). Which answer comes where several refusals apply (REFUSED, HELD, NOT_NOW of an activation or
of REPLAY mode, JOURNAL_FULL) is log entry 10, the model's choice. -/
def Obligations.ChannelFunctionsAndInputParametersAreWritten : Prop :=
  ∀ (e : Env) (n : Fin 16) (s : State),
    (∀ (w : Word), s.hostReady e opWrite = true → s.recd.journal.length < 2047 → s.img.actPending = false → lowest (s.modeBad n w) =
        none → s.modeHeld n w = none → ((((s.chan n).cfg.withMode w).func ≠ (s.chan n).cfg.func ∨ ((s.chan n).cfg.withMode w).partner ≠
        (s.chan n).cfg.partner ∨ ((s.chan n).cfg.withMode w).ganged ≠ (s.chan n).cfg.ganged)) → ∃ t, exec (.functionChange e n w) s =
        .next t ∧ t.answers e .ok s.recd.seqNext [] = true ∧ (t.chan n).cfg = (s.chan n).cfg.withMode w ∧ (t.chan n).change = some
        ((s.chan n).cfg.withMode w).mode ∧ (∀ m, m ≠ n → (t.chan m).cfg = (s.chan m).cfg ∧ (t.chan m).change = (s.chan m).change) ∧
        t.img.diverged = true ∧ t.img.divcnt = satInc s.img.divcnt ∧ t.recd.journal = s.recd.journal ++ [s.journalRecord 1 (portOrigin
        e.port) (word (Reg.addrNat (.ch n .mode))) (w)] ∧ RowFrame t s e ∧ t.time = s.time ∧ t.shadows = s.shadows ∧ t.wheels = s.wheels
        ∧ t.flt = s.flt ∧ t.cells = s.cells ∧ t.adcs = s.adcs ∧ t.rpl = s.rpl ∧ t.chks = s.chks ∧ t.bg = s.bg ∧ t.pwr = s.pwr ∧
        t.freeCtr = s.freeCtr)
    ∧ (∀ (w : Word) (b : Nat), s.hostReady e opWrite = true → (s.modeBad n w).any (fun p => p.1 && p.2 = b) = true → (∀ p ∈ s.modeBad n
        w, p.1 = true → b ≤ p.2) → ∃ t, exec (.functionChange e n w) s = .next t ∧ t.answers e .refused (word b) [] = true ∧ t.chans =
        s.chans ∧ t.rings = s.rings ∧ t.recd = s.recd ∧ t.img = s.img ∧ RowFrame t s e ∧ t.time = s.time ∧ t.shadows = s.shadows ∧
        t.wheels = s.wheels ∧ t.flt = s.flt ∧ t.cells = s.cells ∧ t.adcs = s.adcs ∧ t.rpl = s.rpl ∧ t.chks = s.chks ∧ t.bg = s.bg ∧
        t.pwr = s.pwr ∧ t.freeCtr = s.freeCtr)
    ∧ (∀ (w : Word), s.hostReady e opWrite = true → s.recd.journal.length < 2047 → s.img.actPending = false → lowest (s.modeBad n
        (keepFunction (s.chan n).cfg.mode w)) = none → s.modeHeld n (keepFunction (s.chan n).cfg.mode w) = none → ∃ t, exec
        (.modeParamWrite e n w) s = .next t ∧ t.answers e .ok s.recd.seqNext [] = true ∧ (t.chan n).cfg = (s.chan n).cfg.withMode
        (keepFunction (s.chan n).cfg.mode w) ∧ (t.chan n).modeParams = some ((s.chan n).cfg.withMode (keepFunction (s.chan n).cfg.mode
        w)).mode ∧ (t.chan n).change = (s.chan n).change ∧ (∀ m, m ≠ n → (t.chan m).cfg = (s.chan m).cfg) ∧ t.img.diverged = true ∧
        t.img.divcnt = satInc s.img.divcnt ∧ t.recd.journal = s.recd.journal ++ [s.journalRecord 1 (portOrigin e.port) (word
        (Reg.addrNat (.ch n .mode))) (keepFunction (s.chan n).cfg.mode w)] ∧ RowFrame t s e ∧ t.fab = s.fab ∧ t.filt = s.filt ∧ t.time =
        s.time ∧ t.shadows = s.shadows ∧ t.wheels = s.wheels ∧ t.flt = s.flt ∧ t.cells = s.cells ∧ t.adcs = s.adcs ∧ t.rpl = s.rpl ∧
        t.chks = s.chks ∧ t.bg = s.bg ∧ t.pwr = s.pwr ∧ t.freeCtr = s.freeCtr)
    ∧ (∀ (r : InputReg) (w : Word), s.hostReady e opWrite = true → s.recd.journal.length < 2047 → s.img.actPending = false → (s.chan
        n).cfg.func ≤ 3 → lowest (s.paramBad n (inputReg r) ((s.chan n).cfg.setReg (inputReg r) w)) = none → ∃ t, exec (.inputParamWrite
        e n r w) s = .next t ∧ t.answers e .ok s.recd.seqNext [] = true ∧ (t.chan n).cfg = (s.chan n).cfg.setReg (inputReg r) w ∧
        ((s.ring (ringOf n)).link = true → (t.ring (ringOf n)).cmdq = (s.ring (ringOf n)).cmdq ++ [(.chanCfg n (t.chan n).cfg, 0)]) ∧ (∀
        m, m ≠ n → (t.chan m).cfg = (s.chan m).cfg) ∧ t.img.diverged = true ∧ t.img.divcnt = satInc s.img.divcnt ∧ t.recd.journal =
        s.recd.journal ++ [s.journalRecord 1 (portOrigin e.port) (word (Reg.addrNat (.ch n (inputReg r)))) (w)] ∧ RowFrame t s e ∧ t.fab
        = s.fab ∧ t.filt = s.filt ∧ t.time = s.time ∧ t.shadows = s.shadows ∧ t.wheels = s.wheels ∧ t.flt = s.flt ∧ t.cells = s.cells ∧
        t.adcs = s.adcs ∧ t.rpl = s.rpl ∧ t.chks = s.chks ∧ t.bg = s.bg ∧ t.pwr = s.pwr ∧ t.freeCtr = s.freeCtr)
    ∧ (∀ (r : InputReg) (w : Word), s.hostReady e opWrite = true → 3 < (s.chan n).cfg.func → ∃ t, exec (.inputParamWrite e n r w) s =
        .next t ∧ t.answers e .notNow 0#32 [] = true ∧ t.chans = s.chans ∧ t.rings = s.rings ∧ t.recd = s.recd ∧ t.img = s.img ∧
        RowFrame t s e ∧ t.time = s.time ∧ t.shadows = s.shadows ∧ t.wheels = s.wheels ∧ t.flt = s.flt ∧ t.cells = s.cells ∧ t.adcs =
        s.adcs ∧ t.rpl = s.rpl ∧ t.chks = s.chks ∧ t.bg = s.bg ∧ t.pwr = s.pwr ∧ t.freeCtr = s.freeCtr)
    ∧ (∀ (w : Word), s.hostReady e opWrite = true → s.recd.journal.length < 2047 → (s.chan n).cfg.func ≤ 3 → ∃ t, exec (.diCountWrite e
        n w) s = .next t ∧ t.answers e .ok s.recd.seqNext [] = true ∧ t.chans = s.chans ∧ (t.ring (ringOf n)).cmdq = (s.ring (ringOf
        n)).cmdq ++ [(.count n w, 0)] ∧ t.recd.journal = s.recd.journal ++ [s.journalRecord 1 (portOrigin e.port) (word (Reg.addrNat
        (.ch n .diCount))) (w)] ∧ RowFrame t s e ∧ t.fab = s.fab ∧ t.filt = s.filt ∧ t.img = s.img ∧ t.pair = s.pair ∧ t.time = s.time ∧
        t.shadows = s.shadows ∧ t.wheels = s.wheels ∧ t.flt = s.flt ∧ t.cells = s.cells ∧ t.adcs = s.adcs ∧ t.rpl = s.rpl ∧ t.chks =
        s.chks ∧ t.bg = s.bg ∧ t.pwr = s.pwr ∧ t.freeCtr = s.freeCtr)

/-- DEBOUNCE_EXPIRY, COUPLING_HOLD_EXPIRY, CHATTER_BLOCK_END: a sample's level, a run that is taken after DEBOUNCE, accepted at once or
after HOLD, and chatter judged by blocks (R160, R163, R164, R165, R166, R167, R168, R172, R173, R177, R509). That the partner's path
reaches B_STATE without a coupling hold is log entry 121 (DESIGN CHOICE). -/
def Obligations.InputChangesAreAccepted : Prop :=
  ∀ (n : Fin 16) (s : State),
    (∀ (level seen : Bool) (pad : Int) (lead : Nat), s.runEnds n level seen pad lead → (s.chan n).inp.deb ≠ some level → (s.chan n).inp.valid
        = true → level = !(s.chan n).inp.state → (s.chan n).rng.couplingHold = false → ∃ t, exec (.debounceExpiry n false seen pad lead) s =
        .next t ∧ (t.chan n).inp.state = level ∧ (t.chan n).inp.valid = true ∧ (t.chan n).inp.deb = some level ∧ (t.chan n).inp.lastAcc =
        s.tickLo ∧ (t.ring (ringOf n)).upq = (s.ring (ringOf n)).upq ++ [.change n level false s.tick (word (min lead 0xFFFFF * 256 + b2n level))] ∧ (t.chan n).inp.chatCount = (s.chan n).inp.chatCount + 1 ∧ (t.chan n).errChatter = satInc (s.chan n).errChatter ∧
        ((s.chan n).inp.chatCount + 1 = (s.chan n).rng.chatLimit → DiagRaised t s n 25) ∧ ChanFrame t s n)
    ∧ (∀ (level seen : Bool) (pad : Int) (lead : Nat), s.runEnds n level seen pad lead → (s.chan n).inp.deb ≠ some level → (s.chan
        n).inp.valid = false → (s.chan n).rng.couplingHold = false → ∃ t, exec (.debounceExpiry n false seen pad lead) s = .next t ∧ (t.chan
        n).inp.state = level ∧ (t.chan n).inp.valid = true ∧ (t.ring (ringOf n)).upq = (s.ring (ringOf n)).upq ++ [.change n level true s.tick (word (min lead 0xFFFFF * 256 + 2 + b2n level))] ∧ (t.chan n).inp.chatCount = (s.chan n).inp.chatCount ∧ (t.chan n).errChatter
        = (s.chan n).errChatter ∧ (t.chan n).live = (s.chan n).live ∧ ChanFrame t s n)
    ∧ (∀ (level seen : Bool) (pad : Int) (lead : Nat), s.runEnds n level seen pad lead → (s.chan n).inp.deb ≠ some level → ((s.chan
        n).inp.valid && level = (s.chan n).inp.state) = false → (s.chan n).rng.couplingHold = true → exec (.debounceExpiry n false seen pad
        lead) s = .next (s.modChan n (fun c => { c with inp := { c.inp with raw := level, pad := pad, deb := some level, runFirst := s.clock - lead, holdStart := some s.clock } })))
    ∧ (∀ (level seen : Bool) (pad : Int) (lead h : Nat), s.runEnds n level seen pad lead → (s.chan n).inp.deb ≠ some level → (s.chan
        n).inp.valid = true → level = (s.chan n).inp.state → (s.chan n).inp.holdStart = some h → ∃ t, exec (.debounceExpiry n false seen pad
        lead) s = .next t ∧ (t.chan n).inp.holdStart = none ∧ (t.chan n).inp.deb = some level ∧ (t.chan n).inp.state = (s.chan n).inp.state ∧
        (t.chan n).inp.chatCount = (s.chan n).inp.chatCount + 1 ∧ (t.chan n).errChatter = satInc (s.chan n).errChatter ∧ (t.ring (ringOf
        n)).upq = (s.ring (ringOf n)).upq ∧ ChanFrame t s n)
    ∧ (∀ (level seen : Bool) (pad : Int) (lead : Nat), s.samples n = true → (s.chan n).inp.wetStart = none → level = (s.chan n).rng.inverted
        ((s.chan n).electrical pad seen) → (lead < (s.chan n).rng.debounce * 10 ∨ (s.chan n).inp.deb = some level) → exec (.debounceExpiry n
        false seen pad lead) s = .next (s.modChan n (fun c => { c with inp := { c.inp with raw := level, pad := pad } })))
    ∧ (∀ (seen : Bool) (pad : Int) (lead : Nat), s.samples n = true → (s.chan n).inp.wetStart = none → (s.chan n).rng.func = 1 → (s.chan
        n).rng.diType = 0 → ∃ t, exec (.debounceExpiry n false seen pad lead) s = .next t ∧ ((s.chan n).live.getLsbD 12 = true → (t.chan
        n).inp.raw = (s.chan n).rng.invert) ∧ ((s.chan n).live.getLsbD 12 = false → (14000 ≤ pad → (t.chan n).inp.raw = !(s.chan
        n).rng.invert) ∧ (pad ≤ 9000 → (t.chan n).inp.raw = (s.chan n).rng.invert)))
    ∧ (∀ (partner seen : Bool) (pad : Int) (lead : Nat), (s.samples n = false ∨ (s.chan n).inp.wetStart.isSome = true) → exec
        (.debounceExpiry n partner seen pad lead) s = .next s)
    ∧ (∀ (level seen : Bool) (pad : Int) (lead : Nat), s.runEnds n level seen pad lead → (s.chan n).rng.func = 3 → (pairMate n (s.chan
        n).rng).isSome = true → exec (.debounceExpiry n true seen pad lead) s = .next (s.modChan n (fun c => { c with inp := { c.inp with bState := level } })))
    ∧ (∀ (level : Bool) (h : Nat), s.samples n = true → (s.chan n).inp.wetStart = none → (s.chan n).inp.deb = some level → (s.chan
        n).inp.holdStart = some h → (s.chan n).rng.couplingHold = true → h + s.sampleSpan n ((s.chan n).rng.hold * 1000) ≤ s.clock → ∃ t,
        exec (.couplingHoldExpiry n) s = .next t ∧ (t.chan n).inp.state = level ∧ (t.chan n).inp.valid = true ∧ (t.chan n).inp.holdStart =
        none ∧ (t.chan n).inp.lastAcc = s.tickLo ∧ (t.ring (ringOf n)).upq = (s.ring (ringOf n)).upq ++ [.change n level (!(s.chan n).inp.valid) s.tick (edgeValue (s.clock - (s.chan n).inp.runFirst) true (!(s.chan n).inp.valid) level)] ∧ (t.chan n).errChatter =
        (s.chan n).errChatter ∧ ChanFrame t s n)
    ∧ (∀ (h : Nat), (s.chan n).inp.holdStart = some h → (s.chan n).rng.couplingHold = true → s.clock < h + (s.chan n).rng.hold * 1000 → exec
        (.couplingHoldExpiry n) s = .next s)
    ∧ (s.pathRuns n = true → (s.chan n).inp.chatStart + (s.chan n).rng.chatWin * 100000 ≤ s.clock → (s.chan n).inp.chatCount < (s.chan n).rng.chatLimit → ∃ t, exec (.chatterBlockEnd n) s = .next t ∧ (t.chan n).live.getLsbD 25 = false ∧ (t.chan n).inp =
        { (s.chan n).inp with chatStart := (s.chan n).inp.chatStart + (s.chan n).rng.chatWin * 100000, chatCount := 0 } ∧ ((s.chan
        n).live.getLsbD 25 = false → t.rings = s.rings) ∧ ChanFrame t s n)
    ∧ (s.pathRuns n = true → (s.chan n).inp.chatStart + (s.chan n).rng.chatWin * 100000 ≤ s.clock → (s.chan n).rng.chatLimit ≤ (s.chan n).inp.chatCount → ∃ t, exec (.chatterBlockEnd n) s = .next t ∧ (t.chan n).live = (s.chan n).live ∧ (t.chan n).inp =
        { (s.chan n).inp with chatStart := (s.chan n).inp.chatStart + (s.chan n).rng.chatWin * 100000, chatCount := 0 } ∧ t.rings =
        s.rings ∧ ChanFrame t s n)

/-- WETTING_PULSE_START, WET_REPEAT, WETTING_PULSE_END: pulses at closing and every 10 s, and what a 2 ms pulse leaves (R171, R172,
R177). -/
def Obligations.ContactsAreWetted : Prop :=
  ∀ (n : Fin 16) (s : State),
    (s.wets n = true → (s.chan n).inp.lastWet = none → exec (.wettingPulseStart n) s = .next (s.modChan n (fun c => { c with inp := { c.inp with wetStart := some s.clock, lastWet := some s.clock } })))
    ∧ (∀ (l : Nat), s.wets n = true → (s.chan n).inp.lastWet = some l → l + 20000 ≤ s.clock → exec (.wettingPulseStart n) s = .next
        (s.modChan n (fun c => { c with inp := { c.inp with wetStart := some s.clock, lastWet := some s.clock } })))
    ∧ (∀ (l : Nat), (s.chan n).inp.lastWet = some l → s.clock < l + 20000 → exec (.wettingPulseStart n) s = .next s)
    ∧ (∀ (l : Nat), s.wets n = true → (s.chan n).rng.wetRepeat = true → (s.chan n).inp.lastWet = some l → l + 10000000 ≤ s.clock → exec
        (.wetRepeat n) s = .next (s.modChan n (fun c => { c with inp := { c.inp with wetStart := some s.clock, lastWet := some s.clock } })))
    ∧ (∀ (l : Nat), (s.chan n).inp.lastWet = some l → s.clock < l + 10000000 → exec (.wetRepeat n) s = .next s)
    ∧ (∀ (p : Nat) (pad : Int), (s.chan n).inp.wetStart = some p → p + 2000 ≤ s.clock → (s.chan n).rng.vOnRange.1 ≤ pad → exec
        (.wettingPulseEnd n pad) s = .next (s.modChan n (fun c => { c with inp := { c.inp with wetStart := none, wetEnd := s.clock, holdStart := (s.chan n).inp.holdStart.map (· + (s.clock - p)) } })))
    ∧ (∀ (p : Nat) (pad : Int), (s.chan n).inp.wetStart = some p → p + 2000 ≤ s.clock → pad < (s.chan n).rng.vOnRange.1 → (s.chan
        n).live.getLsbD 26 = false → (s.ring (ringOf n)).reports.length < 32 → ∃ t, exec (.wettingPulseEnd n pad) s = .next t ∧ (t.chan n).inp
        = { (s.chan n).inp with wetStart := none, wetEnd := s.clock, holdStart := (s.chan n).inp.holdStart.map (· + (s.clock - p)) } ∧ (t.ring
        (ringOf n)).reports = (s.ring (ringOf n)).reports ++ [s.diagReport n 26 0#32] ∧ (t.chan n).live = (s.chan n).live ∧ ChanFrame t s n)
    ∧ (∀ (p : Nat) (pad : Int), (s.chan n).inp.wetStart = some p → s.clock < p + 2000 → exec (.wettingPulseEnd n pad) s = .next s)
    ∧ ((s.chan n).rng.func = 1 → (s.chan n).rng.diType = 0 → (s.chan n).rng.vOnRange.1 = 12000)

/-- COUNT_EDGE, COUNT_DELIVERY: what an edge held for MIN_PULSE adds in each counting mode, QUAD_ERR, and delivery at most every 100 us
(R18, R163, R173, R174, R176, R177). -/
def Obligations.EdgesAreCounted : Prop :=
  ∀ (n : Fin 16) (s : State),
    (∀ (rising other both : Bool) (held : Nat), s.counts n held → (s.chan n).rng.cntMode = 0 → ((s.chan n).rng.edge = 3 ∨ ((s.chan n).rng.edge
        = 1 ∧ rising = true) ∨ ((s.chan n).rng.edge = 2 ∧ rising = false)) → ∃ t, exec (.countEdge n (s.edgeSeen n false rising other both held)) s = .next t ∧ (t.chan n).inp = { (s.chan n).inp with count := (s.chan n).inp.count + 1#32, countTick := s.tick, countDirty := true } ∧ (t.chan n).live = (s.chan n).live ∧ t.rings = s.rings ∧ ChanFrame t s n)
    ∧ (∀ (onB rising other both : Bool) (held : Nat), s.counts n held → (s.chan n).rng.cntMode ≤ 1 → (onB = true ∨ (s.chan n).rng.edge = 0 ∨
        ((s.chan n).rng.edge = 1 ∧ rising = false) ∨ ((s.chan n).rng.edge = 2 ∧ rising = true)) → exec (.countEdge n (s.edgeSeen n onB rising
        other both held)) s = .next s)
    ∧ (∀ (rising other both : Bool) (held : Nat), s.counts n held → (s.chan n).rng.cntMode = 1 → ((s.chan n).rng.edge = 3 ∨ ((s.chan
        n).rng.edge = 1 ∧ rising = true) ∨ ((s.chan n).rng.edge = 2 ∧ rising = false)) → ∃ t, exec (.countEdge n (s.edgeSeen n false rising other both held)) s = .next t ∧ (t.chan n).inp = { (s.chan n).inp with count := (s.chan n).inp.count + (if other then 0xFFFFFFFF#32 else 1#32), countTick := s.tick, countDirty := true } ∧ (t.chan n).live = (s.chan n).live ∧ t.rings = s.rings ∧ ChanFrame t s n)
    ∧ (∀ (other : Bool) (held : Nat), s.counts n held → (s.chan n).rng.cntMode = 2 → ∃ t, exec (.countEdge n (s.edgeSeen n false true other false held)) s = .next t ∧ (t.chan n).inp = { (s.chan n).inp with count := (s.chan n).inp.count + (if other then 0xFFFFFFFF#32 else 1#32), countTick := s.tick, countDirty := true } ∧ (t.chan n).live = (s.chan n).live ∧ t.rings = s.rings ∧ ChanFrame t s n)
    ∧ (∀ (rising other : Bool) (held : Nat), s.counts n held → ((s.chan n).rng.cntMode = 3 ∨ (s.chan n).rng.cntMode = 4) → ∃ t, exec (.countEdge n (s.edgeSeen n false rising other false held)) s = .next t ∧ (t.chan n).inp = { (s.chan n).inp with count := (s.chan n).inp.count + (if other = rising then 0xFFFFFFFF#32 else 1#32), countTick := s.tick, countDirty := true } ∧ (t.chan n).live = (s.chan n).live ∧ t.rings = s.rings ∧ ChanFrame t s n)
    ∧ (∀ (rising other : Bool) (held : Nat), s.counts n held → (s.chan n).rng.cntMode = 4 → ∃ t, exec (.countEdge n (s.edgeSeen n true rising other false held)) s = .next t ∧ (t.chan n).inp = { (s.chan n).inp with count := (s.chan n).inp.count + (if other = rising then 1#32 else 0xFFFFFFFF#32), countTick := s.tick, countDirty := true } ∧ (t.chan n).live = (s.chan n).live ∧ t.rings = s.rings ∧ ChanFrame t s n)
    ∧ (∀ (onB rising other : Bool) (held : Nat), s.counts n held → 2 ≤ (s.chan n).rng.cntMode → (s.chan n).live.getLsbD 14 = false → (s.ring
        (ringOf n)).reports.length < 32 → ∃ t, exec (.countEdge n (s.edgeSeen n onB rising other true held)) s = .next t ∧ (t.chan n).inp =
        (s.chan n).inp ∧ (t.chan n).errQuad = satInc (s.chan n).errQuad ∧ (t.ring (ringOf n)).reports = (s.ring (ringOf n)).reports ++
        [s.diagReport n 14 0#32] ∧ ChanFrame t s n)
    ∧ (∀ (o : CountObs), (o.held < (s.chan n).rng.minPulse ∨ (s.chan n).live.getLsbD 12 = true ∨ (s.ring (ringOf n)).rmode ≠ .run) → exec
        (.countEdge n o) s = .next s)
    ∧ (s.phase = .run → (s.chan n).rng.func = 3 → (s.chan n).inp.countDirty = true → (∀ c ∈ (s.chan n).inp.countSent, c + 100 ≤ s.clock) → (s.ring (ringOf n)).upOpen = true → (s.ring (ringOf n)).noneBefore (s.chan n).inp.countTick = true → ∃ t, exec (.countDelivery n true) s = .next t ∧ (t.chan n).hostCount = (s.chan n).inp.count ∧
        (t.chan n).hostValid = true ∧ (t.chan n).inp.countDirty = false ∧ (t.chan n).inp.countSent = some s.clock ∧ (t.chan n).inp.count =
        (s.chan n).inp.count ∧ (∀ m, m ≠ n → t.chan m = s.chan m) ∧ KeepsHost t s ∧ KeepsUnits t s)
    ∧ (s.phase = .run → (s.chan n).inp.countDirty = true → (∀ c ∈ (s.chan n).inp.countSent, c + 100 ≤ s.clock) → (s.ring (ringOf n)).upOpen = true → (s.ring (ringOf n)).noneBefore (s.chan n).inp.countTick = true → ∃ t, exec (.countDelivery n false) s = .next t ∧ (t.ring (ringOf n)).hostRx = satInc (s.ring (ringOf n)).hostRx ∧ t.chans = s.chans ∧ KeepsHost t s ∧ KeepsUnits t s)
    ∧ (∀ (c : Nat) (good : Bool), (s.chan n).inp.countSent = some c → s.clock < c + 100 → exec (.countDelivery n good) s = .next s)

/-- OPEN_WIRE, REVERSED, OVERRANGE: each is judged under its functions, becomes live and is reported by the Ring (R177, R179, R242,
R352, R506, R509). -/
def Obligations.InputDiagnosticsAreRaised : Prop :=
  ∀ (n : Fin 16) (s : State),
    (s.judgesOpenWire n = true → ∃ t, exec (.openWire n) s = .next t ∧ (s.guardOf n = none → DiagRaised t s n 5) ∧ GuardedWait t s n 5 ∧
        (t.chan n).inp = (s.chan n).inp ∧ ChanFrame t s n)
    ∧ (((s.chan n).rng.func = 2 ∨ (3 < (s.chan n).rng.func ∧ (s.chan n).rng.func < 9) ∨ 12 < (s.chan n).rng.func) → exec (.openWire n) s
        = .next s)
    ∧ (s.ringRuns n = true → 1 ≤ (s.chan n).rng.func → (s.chan n).rng.func ≤ 3 → ∃ t, exec (.reversed n) s = .next t ∧ DiagRaised t s n
        12 ∧ (t.chan n).inp = (s.chan n).inp ∧ ChanFrame t s n)
    ∧ (((3 < (s.chan n).rng.func ∨ (s.chan n).rng.func = 0)) → exec (.reversed n) s = .next s)
    ∧ ((s.chan n).rng.func = 2 → s.samples n = true → ∃ t, exec (.overrange n) s = .next t ∧ DiagRaised t s n 13 ∧ (t.chan n).inp =
        (s.chan n).inp ∧ ChanFrame t s n)
    ∧ (9 ≤ (s.chan n).rng.func → (s.chan n).rng.func ≤ 12 → s.ringRuns n = true → (s.chan n).latch = false → ∃ t, exec (.overrange n) s
        = .next t ∧ DiagRaised t s n 13 ∧ (t.chan n).an = (s.chan n).an ∧ ChanFrame t s n)
    ∧ (((s.chan n).rng.func = 1 ∨ (3 ≤ (s.chan n).rng.func ∧ (s.chan n).rng.func < 9)) → exec (.overrange n) s = .next s)

/-- DO_CMD_WRITE, DO_DUTY_WRITE, SHED_EN_OFF: setpoints reach the Ring as they are, a bound field is HELD, and SHED_EN is a journaled change
(R188, R145, R146, R215, R216, R390, R400, R510). Which answer comes where several refusals apply (REFUSED, HELD, NOT_NOW of an
activation or of REPLAY mode, JOURNAL_FULL) is log entry 10, the model's choice. -/
def Obligations.OutputCommandsAreWritten : Prop :=
  ∀ (e : Env) (n : Fin 16) (s : State),
    (∀ (w : Word), s.hostReady e opWrite = true → ((s.chan n).cfg.func = 0 ∨ (4 ≤ (s.chan n).cfg.func ∧ (s.chan n).cfg.func ≤ 6)) → (bit
        w 1 && (s.chan n).cfg.func ≠ 6 && (s.chan n).cfg.func ≠ 0) = false → (s.driveBound n && bit w 0 ≠ (s.chan n).cmd.hostOn) = false
        → (s.altBound n && bit w 1 ≠ (s.chan n).cmd.hostAlt) = false → s.rpl.on = false → ∃ t, exec (.doCmdWrite e n w) s = .next t ∧
        t.answers e .ok 0#32 [] = true ∧ t.chan n = { s.chan n with cmd := { (s.chan n).cmd with doCmd := w &&& 3#32 } } ∧ ((s.ring
        (ringOf n)).link = true → (t.ring (ringOf n)).cmdq = (s.ring (ringOf n)).cmdq ++ [(.setpoint n (t.chan n).cmd, 0)]) ∧ t.fab =
        { s.fab with setpoints := s.fab.setpoints ++ [(Reg.addr (.ch n .doCmd), portOrigin e.port, w)] } ∧ (∀ m, m ≠ n → t.chan m =
        s.chan m) ∧ RowFrame t s e ∧ t.time = s.time ∧ t.shadows = s.shadows ∧ t.recd = s.recd ∧ t.wheels = s.wheels ∧ t.flt = s.flt ∧
        t.svc = s.svc ∧ t.img = s.img ∧ t.cells = s.cells ∧ t.adcs = s.adcs ∧ t.filt = s.filt ∧ t.rpl = s.rpl ∧ t.chks = s.chks ∧ t.pair
        = s.pair ∧ t.bg = s.bg ∧ t.pwr = s.pwr ∧ t.freeCtr = s.freeCtr)
    ∧ (∀ (w : Word), s.hostReady e opWrite = true → ((s.chan n).cfg.func = 4 ∨ (s.chan n).cfg.func = 5) → bit w 1 = true → ∃ t, exec
        (.doCmdWrite e n w) s = .next t ∧ t.answers e .refused 1#32 [] = true ∧ t.chans = s.chans ∧ t.rings = s.rings ∧ t.fab = s.fab ∧
        RowFrame t s e ∧ t.time = s.time ∧ t.shadows = s.shadows ∧ t.recd = s.recd ∧ t.wheels = s.wheels ∧ t.flt = s.flt ∧ t.svc = s.svc
        ∧ t.img = s.img ∧ t.cells = s.cells ∧ t.adcs = s.adcs ∧ t.filt = s.filt ∧ t.rpl = s.rpl ∧ t.chks = s.chks ∧ t.pair = s.pair ∧
        t.bg = s.bg ∧ t.pwr = s.pwr ∧ t.freeCtr = s.freeCtr)
    ∧ (∀ (w : Word), s.hostReady e opWrite = true → ((s.chan n).cfg.func = 0 ∨ (4 ≤ (s.chan n).cfg.func ∧ (s.chan n).cfg.func ≤ 6)) →
        (bit w 1 && (s.chan n).cfg.func ≠ 6 && (s.chan n).cfg.func ≠ 0) = false → s.driveBound n = true → bit w 0 ≠ (s.chan
        n).cmd.hostOn → ∃ t, exec (.doCmdWrite e n w) s = .next t ∧ t.answers e .held 0x200#32 [] = true ∧ t.chans = s.chans ∧ t.rings =
        s.rings ∧ t.fab = s.fab ∧ RowFrame t s e ∧ t.time = s.time ∧ t.shadows = s.shadows ∧ t.recd = s.recd ∧ t.wheels = s.wheels ∧
        t.flt = s.flt ∧ t.svc = s.svc ∧ t.img = s.img ∧ t.cells = s.cells ∧ t.adcs = s.adcs ∧ t.filt = s.filt ∧ t.rpl = s.rpl ∧ t.chks =
        s.chks ∧ t.pair = s.pair ∧ t.bg = s.bg ∧ t.pwr = s.pwr ∧ t.freeCtr = s.freeCtr)
    ∧ (∀ (w : Word), s.hostReady e opWrite = true → ((s.chan n).cfg.func = 0 ∨ (4 ≤ (s.chan n).cfg.func ∧ (s.chan n).cfg.func ≤ 6)) →
        s.rpl.on = false → ∃ t, exec (.doDutyWrite e n w) s = .next t ∧ t.answers e .ok 0#32 [] = true ∧ t.chan n =
        { s.chan n with cfg := { (s.chan n).cfg with doDuty := w } } ∧ ((s.ring (ringOf n)).link = true → (t.ring (ringOf n)).cmdq =
        (s.ring (ringOf n)).cmdq ++ [(.setpoint n (t.chan n).cmd, 0), (.chanCfg n (t.chan n).cfg, 0)]) ∧ t.fab =
        { s.fab with setpoints := s.fab.setpoints ++ [(Reg.addr (.ch n .doDuty), portOrigin e.port, w)] } ∧ (∀ m, m ≠ n → t.chan m =
        s.chan m) ∧ RowFrame t s e ∧ t.time = s.time ∧ t.shadows = s.shadows ∧ t.recd = s.recd ∧ t.wheels = s.wheels ∧ t.flt = s.flt ∧
        t.svc = s.svc ∧ t.img = s.img ∧ t.cells = s.cells ∧ t.adcs = s.adcs ∧ t.filt = s.filt ∧ t.rpl = s.rpl ∧ t.chks = s.chks ∧ t.pair
        = s.pair ∧ t.bg = s.bg ∧ t.pwr = s.pwr ∧ t.freeCtr = s.freeCtr)
    ∧ (∀ (w : Word), s.hostReady e opWrite = true → ((s.chan n).cfg.func = 0 ∨ (4 ≤ (s.chan n).cfg.func ∧ (s.chan n).cfg.func ≤ 6)) →
        s.rpl.on = true → ∃ t, exec (.doDutyWrite e n w) s = .next t ∧ t.answers e .notNow 0#32 [] = true ∧ t.chans = s.chans ∧ t.rings
        = s.rings ∧ t.fab = s.fab ∧ RowFrame t s e ∧ t.time = s.time ∧ t.shadows = s.shadows ∧ t.recd = s.recd ∧ t.wheels = s.wheels ∧
        t.flt = s.flt ∧ t.svc = s.svc ∧ t.img = s.img ∧ t.cells = s.cells ∧ t.adcs = s.adcs ∧ t.filt = s.filt ∧ t.rpl = s.rpl ∧ t.chks =
        s.chks ∧ t.pair = s.pair ∧ t.bg = s.bg ∧ t.pwr = s.pwr ∧ t.freeCtr = s.freeCtr)
    ∧ (∀ (x : RingId) (w : Word), s.hostReady e opWrite = true → s.recd.journal.length < 2047 → s.img.actPending = false → (40 ≤ fld w
        24 8 ∧ fld w 24 8 ≤ 240) → 1 ≤ fld w 16 8 → (2 ≤ fld w 9 6 ∧ fld w 9 6 ≤ 50) → (80 ≤ fld w 0 9 ∧ fld w 0 9 ≤ 360) → ∃ t, exec
        (.shedEnOff e x w) s = .next t ∧ t.answers e .ok s.recd.seqNext [] = true ∧ (t.ring x).loadcfg = setFld w 15 1 0 ∧ bit (t.ring
        x).loadcfg 15 = false ∧ ((s.ring x).link = true → (t.ring x).cmdq = (s.ring x).cmdq ++ [(.ringCfg (s.ring x).pwrcfg (t.ring x).loadcfg, 0)]) ∧ t.img = { s.img with diverged := true, divcnt := satInc s.img.divcnt, configGen := s.img.configGen + 1 } ∧
        t.recd.journal = s.recd.journal ++ [s.journalRecord 1 (portOrigin e.port) (word (Reg.addrNat (.ring x .loadcfg))) (setFld w 15 1
        0)] ∧ RowFrame t s e ∧ t.time = s.time ∧ t.shadows = s.shadows ∧ t.wheels = s.wheels ∧ t.flt = s.flt ∧ t.svc = s.svc ∧ t.cells =
        s.cells ∧ t.adcs = s.adcs ∧ t.filt = s.filt ∧ t.rpl = s.rpl ∧ t.chks = s.chks ∧ t.bg = s.bg ∧ t.pwr = s.pwr ∧ t.freeCtr =
        s.freeCtr)

/-- INRUSH_END, OVERCURRENT, SHORT_GND, OFF_BLANK_END, SHORT_VF: a trip turns the stage off, sets both latches of a gang and is
reported; what is detected on a gang partner acts on the channel that gangs with it (R28, R191, R194, R198, R199, R211, R242). -/
def Obligations.OutputsTrip : Prop :=
  ∀ (n : Fin 16) (s : State),
    (∀ (u : Nat), isDo (s.chan n).rng.func = true → (s.chan n).stage.inrushStart = some u → u + (s.chan n).rng.inrush * 1000 ≤ s.clock →
        (s.chan n).stage.on = true → ∃ t, exec (.inrushEnd n true) s = .next t ∧ Tripped t s n 2#16 3 ∧ (t.chan n).stage.inrushStart = none ∧
        (t.chan n).errTrips = satInc (s.chan n).errTrips)
    ∧ (∀ (u : Nat), isDo (s.chan n).rng.func = true → (s.chan n).stage.inrushStart = some u → u + (s.chan n).rng.inrush * 1000 ≤ s.clock → ∃
        t, exec (.inrushEnd n false) s = .next t ∧ t.chan n = { s.chan n with stage := { (s.chan n).stage with inrushStart := none } } ∧
        t.rings = s.rings ∧ StageFrame t s n ∧ GangFollows t s n)
    ∧ (∀ (limiting : Bool) (u : Nat), isDo (s.chan n).rng.func = true → (s.chan n).stage.inrushStart = some u → s.clock < u + (s.chan
        n).rng.inrush * 1000 → exec (.inrushEnd n limiting) s = .next s)
    ∧ (isDo (s.chan n).rng.func = true → (s.chan n).stage.inrushStart = none → ((s.chan n).stage.on = true ∨ (s.chan n).stage.drive =
        .pulldown) → ∃ t, exec (.overcurrent n) s = .next t ∧ Tripped t s n 2#16 3 ∧ (t.chan n).errTrips = satInc (s.chan n).errTrips)
    ∧ (isDo (s.chan n).rng.func = true → (s.chan n).stage.inrushStart ≠ none → exec (.overcurrent n) s = .next s)
    ∧ (isDo (s.chan n).rng.func = true → (s.chan n).stage.on = true → ∃ t, exec (.shortGnd n) s = .next t ∧ Tripped t s n 2#16 2 ∧ (t.chan
        n).errTrips = satInc (s.chan n).errTrips)
    ∧ ((s.chan n).rng.func = 12 → s.ringRuns n = true → (s.chan n).latch = false → ∃ t, exec (.shortGnd n) s = .next t ∧ DiagRaised t s
        n 2 ∧ (t.chan n).latch = false ∧ (t.chan n).errTrips = (s.chan n).errTrips ∧ ChanFrame t s n)
    ∧ (∀ (u : Nat), isDo (s.chan n).rng.func = true → (s.chan n).stage.blankStart = some u → u + (s.chan n).rng.offBlank * 1000 ≤ s.clock → ∃
        t, exec (.offBlankEnd n) s = .next t ∧ t.chan n = { s.chan n with stage := { (s.chan n).stage with blankStart := none } } ∧ t.rings =
        s.rings ∧ StageFrame t s n ∧ GangFollows t s n)
    ∧ (∀ (u : Nat), isDo (s.chan n).rng.func = true → (s.chan n).stage.blankStart = some u → s.clock < u + (s.chan n).rng.offBlank * 1000 →
        exec (.offBlankEnd n) s = .next s)
    ∧ (isDo (s.chan n).rng.func = true → (s.ring (ringOf n)).logic = true → (s.chan n).stage.drive ≠ .pulldown → ∃ t, exec (.shortVf n true) s
        = .next t ∧ Tripped t s n 2#16 1 ∧ (t.chan n).errTrips = satInc (s.chan n).errTrips)
    ∧ (isDo (s.chan n).rng.func = true → (s.ring (ringOf n)).logic = true → (s.chan n).stage.drive ≠ .pulldown → (s.chan n).stage.on = false →
        (s.chan n).stage.blankStart = none → (s.ring (ringOf n)).rrole.may = true → ∃ t, exec (.shortVf n false) s = .next t ∧ Tripped t s n 2#16 1 ∧
        (t.chan n).errTrips = satInc (s.chan n).errTrips)
    ∧ (isDo (s.chan n).rng.func = true → (s.ring (ringOf n)).logic = true → (s.chan n).stage.drive ≠ .pulldown → (s.chan n).stage.on = false →
        (s.chan n).stage.blankStart = none → (s.ring (ringOf n)).rrole.may = false → ∃ t, exec (.shortVf n false) s = .next t ∧ t.chan n =
        { s.chan n with stage := { (s.chan n).stage with extDriven := true } } ∧ t.rings = s.rings ∧ StageFrame t s n ∧ GangFollows t s n)
    ∧ (isDo (s.chan n).rng.func = true → ((s.chan n).stage.on = true ∨ (s.chan n).stage.blankStart ≠ none) → exec (.shortVf n false) s = .next
        s)
    ∧ (∀ (b : Bool), exec (.inrushEnd n b) s = exec (.inrushEnd (s.lead n) b) s ∧ exec (.overcurrent n) s = exec (.overcurrent (s.lead n)) s ∧
        exec (.shortGnd n) s = exec (.shortGnd (s.lead n)) s ∧ exec (.offBlankEnd n) s = exec (.offBlankEnd (s.lead n)) s ∧ exec (.shortVf n
        b) s = exec (.shortVf (s.lead n) b) s)

/-- OPEN_LOAD_ON, OPEN_LOAD_OFF, GANG_IMBALANCE, CH_THERMAL, THERMAL_RETRY, PWM_PERIOD_START: checks of a stage, thermal trips and
their retry, for a gang as one output (R172, R177, R190, R195, R196, R198, R199, R211, R261, R349). -/
def Obligations.OutputDiagnosticsAndTheThermalLimit : Prop :=
  ∀ (n : Fin 16) (s : State),
    (((s.chan n).rng.func = 4 ∨ (s.chan n).rng.func = 5) → (s.chan n).rng.olOn = true → (s.chan n).stage.on = true → ∃ t, exec (.openLoadOn n)
        s = .next t ∧ (s.guardOf n = none → DiagRaised t s n 6) ∧ GuardedWait t s n 6 ∧ (t.chan n).stage = (s.chan n).stage ∧ (t.chan n).latch
        = (s.chan n).latch ∧ ChanFrame t s n)
    ∧ (((s.chan n).rng.func = 4 ∨ (s.chan n).rng.func = 6) → (s.chan n).rng.olOff = true → (s.chan n).stage.on = false → (s.chan n).stage.blankStart = none → (s.ring (ringOf n)).rrole.may = true → ∃ t, exec (.openLoadOff n) s = .next t ∧ (s.guardOf n = none → DiagRaised t s n
        7) ∧ GuardedWait t s n 7 ∧ (t.chan n).stage = (s.chan n).stage ∧ (t.chan n).latch = (s.chan n).latch ∧ ChanFrame t s n)
    ∧ ((s.ring (ringOf n)).rrole.may = false → exec (.openLoadOff n) s = .next s)
    ∧ ((gangMate n (s.chan n).rng).isSome = true → (s.chan n).stage.on = true → ∃ t, exec (.gangImbalance n) s = .next t ∧ (s.guardOf n = none
        → DiagRaised t s n 24) ∧ GuardedWait t s n 24 ∧ (t.chan n).stage = (s.chan n).stage ∧ (t.chan n).latch = (s.chan n).latch ∧ ChanFrame
        t s n)
    ∧ (gangMate (s.lead n) (s.chan (s.lead n)).rng = none → exec (.gangImbalance n) s = .next s)
    ∧ (∀ (recent : List Nat), (s.ring (ringOf n)).logic = true → hasStage (s.chan n).rng.func = true → recent = (s.chan
        n).stage.trips.filter (fun u => decide (s.clock < u + 60000000)) → ∃ t, exec (.chThermal n) s = .next t ∧ Tripped t s n 4#16 4 ∧
        (t.chan n).stage.trips = recent ++ [s.clock] ∧ (t.chan n).stage.keepLatch = (!(s.chan n).rng.thRetry || decide (8 ≤ recent.length)) ∧
        (t.chan n).errTrips = (s.chan n).errTrips)
    ∧ ((s.ring (ringOf n)).logic = true → (1 ≤ (s.chan n).rng.func ∧ (s.chan n).rng.func ≤ 3) → ∃ t, exec (.chThermal n) s = .next t ∧
        DiagRaised t s n 4 ∧ (t.chan n).latch = (s.chan n).latch ∧ (t.chan n).inp = (s.chan n).inp.endPulse s.clock ∧ t.sinking n = false ∧
        ChanFrame t s n)
    ∧ (isDo (s.chan n).rng.func = true → (s.chan n).rng.thRetry = true → (s.chan n).causes = 4#16 → (s.chan n).latch = true → s.gangPair n =
        none → (s.chan n).stage.keepLatch = false → ∃ t, exec (.thermalRetry n) s = .next t ∧ (t.chan n).latch = false ∧ (t.chan n).causes =
        0#16 ∧ (t.chan n).live.getLsbD 4 = false ∧ (t.chan n).errRetries = satInc (s.chan n).errRetries ∧ (t.chan n).stage.on = (t.pad n).isOn
        ∧ t.recd = (s.event 0x12 8 .internal (word n.1) 4#32).recd ∧ (∀ m, m ≠ n → m ≠ mate n → t.chan m = s.chan m) ∧ KeepsHost t s ∧
        KeepsUnits t s)
    ∧ ((s.chan (s.lead n)).stage.keepLatch = true → exec (.thermalRetry n) s = .next s)
    ∧ ((s.chan n).rng.func ≠ 0 → (s.chan n).stage.on = true → (s.chan n).stage.drive = .pwm → (s.chan n).stage.pwmStart + (s.chan
        n).stage.period.toNat ≤ s.clock → ∃ t, exec (.pwmPeriodStart n) s = .next t ∧ t.chan n =
        { s.chan n with stage := { (s.chan n).stage with duty := (s.chan n).rng.doDuty, period := word (s.chan n).rng.period, pwmAlt := (s.chan n).rcmd.altOn, pwmStart := (s.chan n).stage.pwmStart + (s.chan n).stage.period.toNat } }
        ∧ t.rings = s.rings ∧ StageFrame t s n ∧ GangFollows t s n)
    ∧ (s.clock < (s.chan (s.lead n)).stage.pwmStart + (s.chan (s.lead n)).stage.period.toNat → exec (.pwmPeriodStart n) s = .next s)
    ∧ (exec (.openLoadOn n) s = exec (.openLoadOn (s.lead n)) s ∧ exec (.openLoadOff n) s = exec (.openLoadOff (s.lead n)) s ∧ exec
        (.gangImbalance n) s = exec (.gangImbalance (s.lead n)) s ∧ exec (.chThermal n) s = exec (.chThermal (s.lead n)) s ∧ exec
        (.thermalRetry n) s = exec (.thermalRetry (s.lead n)) s ∧ exec (.pwmPeriodStart n) s = exec (.pwmPeriodStart (s.lead n)) s)

/-- TEMP_WARN, RING_THERMAL, VF_LOW, VF_LOW_CLEAR, RING_OVERLOAD, RING_OVERLOAD_LATCH: live bits, sticky copies, reports and latches
of one Ring (R197, R200, R201, R211, R216, R345). -/
def Obligations.RingLimitsAreJudged : Prop :=
  ∀ (x : RingId) (s : State),
    (∀ (hot : Bool), (s.ring x).logic = true → ∃ t, exec (.tempWarn x hot) s = .next t ∧ (t.ring x).tempWarn = hot ∧ ((s.ring
        x).tempWarn = hot → t.rings = s.rings) ∧ ((s.ring x).tempWarn = (!hot) → (s.ring x).reports.length < 32 → (t.ring x).reports =
        (s.ring x).reports ++ [⟨ringSlot x 9, 0#8, hot, 0#32, s.tick, s.clock, !(s.ring x).link || (s.ring x).ringLost⟩]) ∧ (hot =
        true → (s.ring x).tempWarn = false → (t.ring x).sticky = (s.ring x).sticky ||| 16#6) ∧ (∀ y ∈ [RingId.a, RingId.b], y ≠ x →
        t.ring y = s.ring y) ∧ KeepsHost t s ∧ KeepsUnits t s ∧ t.recd = s.recd ∧ t.wheels = s.wheels ∧ t.flt = s.flt ∧ t.chans =
        s.chans ∧ t.rpl = s.rpl ∧ t.pair = s.pair ∧ t.cells = s.cells)
    ∧ ((s.ring x).logic = true → ∃ t, exec (.ringThermal x) s = .next t ∧ (t.ring x).thermal = true ∧ ((s.ring x).thermal = false →
        (t.ring x).sticky = (s.ring x).sticky ||| 32#6) ∧ (∀ n ∈ ringChs x, (t.chan n).latch = true ∧ (t.chan n).causes = (s.chan
        n).causes ||| 8#16) ∧ (∀ n ∈ ringChs x, isDo (s.chan n).rng.func = true → (t.chan n).stage.on = false) ∧ (∀ y ∈ [RingId.a,
        RingId.b], y ≠ x → (t.ring y = s.ring y ∧ ∀ n, ringOf n = y → t.chan n = s.chan n)) ∧ KeepsHost t s ∧ KeepsUnits t s ∧ t.recd =
        s.recd ∧ t.wheels = s.wheels ∧ t.rpl = s.rpl ∧ t.pair = s.pair ∧ t.cells = s.cells)
    ∧ ((s.ring x).logic = true → ∃ t, exec (.vfLow x) s = .next t ∧ (t.ring x).vfLow = true ∧ ((s.ring x).vfLow = true → t.rings =
        s.rings) ∧ ((s.ring x).vfLow = (!true) → (s.ring x).reports.length < 32 → (t.ring x).reports = (s.ring x).reports ++ [⟨ringSlot
        x 6, 0#8, true, 0#32, s.tick, s.clock, !(s.ring x).link || (s.ring x).ringLost⟩]) ∧ ((s.ring x).vfLow = (!true) → (t.ring
        x).sticky = (s.ring x).sticky ||| (1#6 <<< 0)) ∧ (∀ y ∈ [RingId.a, RingId.b], y ≠ x → t.ring y = s.ring y) ∧ KeepsHost t s ∧
        KeepsUnits t s ∧ t.recd = s.recd ∧ t.wheels = s.wheels ∧ t.flt = s.flt ∧ t.chans = s.chans ∧ t.rpl = s.rpl ∧ t.pair = s.pair ∧
        t.cells = s.cells)
    ∧ (∃ t, exec (.vfLowClear x) s = .next t ∧ (t.ring x).vfLow = false ∧ ((s.ring x).vfLow = false → t.rings = s.rings) ∧ ((s.ring
        x).vfLow = (!false) → (s.ring x).reports.length < 32 → (t.ring x).reports = (s.ring x).reports ++ [⟨ringSlot x 6, 0#8, false,
        0#32, s.tick, s.clock, !(s.ring x).link || (s.ring x).ringLost⟩]) ∧ ((s.ring x).vfLow = (!false) → (t.ring x).sticky = (s.ring
        x).sticky) ∧ (∀ y ∈ [RingId.a, RingId.b], y ≠ x → t.ring y = s.ring y) ∧ KeepsHost t s ∧ KeepsUnits t s ∧ t.recd = s.recd ∧
        t.wheels = s.wheels ∧ t.flt = s.flt ∧ t.chans = s.chans ∧ t.rpl = s.rpl ∧ t.pair = s.pair ∧ t.cells = s.cells)
    ∧ (∀ (high : Bool), (s.ring x).logic = true → ∃ t, exec (.ringOverload x high) s = .next t ∧ (t.ring x).overload = high ∧ ((s.ring
        x).overload = high → t.rings = s.rings) ∧ ((s.ring x).overload = (!high) → (t.ring x).overloadAt = s.clock) ∧ ((s.ring
        x).overload = (!high) → (s.ring x).reports.length < 32 → (t.ring x).reports = (s.ring x).reports ++ [⟨ringSlot x 7, 0#8, high,
        0#32, s.tick, s.clock, !(s.ring x).link || (s.ring x).ringLost⟩]) ∧ (∀ y ∈ [RingId.a, RingId.b], y ≠ x → t.ring y = s.ring y)
        ∧ KeepsHost t s ∧ KeepsUnits t s ∧ t.recd = s.recd ∧ t.wheels = s.wheels ∧ t.flt = s.flt ∧ t.chans = s.chans ∧ t.rpl = s.rpl ∧
        t.pair = s.pair ∧ t.cells = s.cells)
    ∧ ((s.ring x).overload = true → (s.ring x).overloadAt + 1000000 ≤ s.clock → ∃ t, exec (.ringOverloadLatch x) s = .next t ∧ (∀ n ∈
        ringChs x, (t.chan n).latch = true ∧ (t.chan n).causes = (s.chan n).causes ||| 16#16) ∧ (∀ n ∈ ringChs x, isDo (s.chan
        n).rng.func = true → (t.chan n).stage.on = false) ∧ (∀ y ∈ [RingId.a, RingId.b], y ≠ x → (t.ring y = s.ring y ∧ ∀ n, ringOf n =
        y → t.chan n = s.chan n)) ∧ KeepsHost t s ∧ KeepsUnits t s ∧ t.recd = s.recd ∧ t.wheels = s.wheels ∧ t.rpl = s.rpl ∧ t.pair =
        s.pair ∧ t.cells = s.cells)
    ∧ (((s.ring x).overload = false ∨ s.clock < (s.ring x).overloadAt + 1000000) → exec (.ringOverloadLatch x) s = .next s)

/-- RING_STEP_TICK, TAP_MOVE_UP, TAP_OVERLOAD, TAPS_REGULATED, T3_AVAILABILITY: shedding, restoring and tap selection at the step tick and
between ticks (R202, R203, R204, R206, R207, R209, R510). That NEED is rounded up to whole mV is log entry 109 (DESIGN CHOICE). -/
def Obligations.LoadsAreShedAndTapsAreChosen : Prop :=
  ∀ (x : RingId) (s : State),
    (∀ (n : Fin 16) (o : TickObs), (s.ring x).logic = true → (s.ring x).vfOk = true → (s.ring x).configured = true → (s.ring x).shedEn =
        true → ((s.ring x).vfLow || (s.ring x).overload) = true → s.shedChoice x = some n → ∃ t, exec (.ringStepTick x o) s = .next t ∧
        (t.chan n).stage.shed = true ∧ (t.chan n).stage.on = false ∧ (t.ring x).shedStack = n :: (s.ring x).shedStack ∧ (t.ring
        x).cleanTicks = 0 ∧ (t.chan n).live.getLsbD 30 = true ∧ t.recd = (s.event 0x12 7 .internal (word n.1) 0#32).recd ∧ (∀ m, m ≠ n → m ≠ mate n →
        (t.chan m).stage.shed = (s.chan m).stage.shed ∧ (t.chan m).stage.on = (s.chan m).stage.on) ∧ KeepsHost t s ∧ KeepsUnits t s)
    ∧ (∀ (o : TickObs), (s.ring x).logic = true → (s.ring x).vfOk = true → (s.ring x).configured = true → (s.ring x).shedEn = true →
        ((s.ring x).vfLow || (s.ring x).overload) = false → (s.ring x).cleanTicks + 1 < (s.ring x).restoreSteps → ∃ t, exec
        (.ringStepTick x o) s = .next t ∧ (t.ring x).cleanTicks = (s.ring x).cleanTicks + 1 ∧ (t.ring x).shedStack = (s.ring
        x).shedStack ∧ (∀ m, (t.chan m).stage.shed = (s.chan m).stage.shed ∧ (t.chan m).stage.on = (s.chan m).stage.on) ∧ t.recd =
        s.recd ∧ KeepsHost t s ∧ KeepsUnits t s)
    ∧ (∀ (n : Fin 16) (rest : List (Fin 16)) (o : TickObs), (s.ring x).logic = true → (s.ring x).vfOk = true → (s.ring x).configured =
        true → (s.ring x).shedEn = true → ((s.ring x).vfLow || (s.ring x).overload) = false → (s.ring x).restoreSteps ≤ (s.ring
        x).cleanTicks + 1 → (s.ring x).shedStack = n :: rest → ∃ t, exec (.ringStepTick x o) s = .next t ∧ (t.chan n).stage.shed = false
        ∧ (t.ring x).shedStack = rest ∧ (t.chan n).live.getLsbD 30 = false ∧ t.recd = (s.event 0x12 7 .internal (word n.1) 1#32).recd ∧
        (∀ m, m ≠ n → m ≠ mate n → (t.chan m).stage.shed = (s.chan m).stage.shed ∧ (t.chan m).stage.on = (s.chan m).stage.on) ∧ KeepsHost t s ∧
        KeepsUnits t s)
    ∧ (∀ (n : Fin 16) (rest : List (Fin 16)) (o : TickObs), (s.ring x).logic = true → (s.ring x).vfOk = true → (s.ring x).configured =
        true → (s.ring x).shedEn = false → (s.ring x).shedStack = n :: rest → ∃ t, exec (.ringStepTick x o) s = .next t ∧ (t.chan
        n).stage.shed = false ∧ (t.ring x).shedStack = rest ∧ (t.chan n).live.getLsbD 30 = false ∧ t.recd = (s.event 0x12 7 .internal
        (word n.1) 1#32).recd ∧ KeepsHost t s ∧ KeepsUnits t s)
    ∧ (∀ (n : Fin 16) (o : TickObs) (need : Option Nat), (s.ring x).logic = true → (s.ring x).vfOk = true → (s.ring x).configured = true → n ∈
        ringChs x → tapped (s.chan n).rng.func = true → (∀ m ∈ (s.ring x).shedStack, isDo (s.chan m).rng.func = true) → need = (s.chan n).need
        (o.pads.getD (n.1 % 8) 0) → (meets need (o.rails.getD (s.chan n).stage.tap.toNat 0) = false ∨ (s.ring x).usable s.clock (s.chan
        n).stage.tap.toNat = false) → ∃ t, exec (.ringStepTick x o) s = .next t ∧ (t.chan n).stage.tap = BitVec.ofNat 2 ((s.ring
        x).lowestRail s.clock o.rails need) ∧ (t.chan n).stage.downCount = 0)
    ∧ (∀ (n : Fin 16) (o : TickObs) (need : Option Nat) (low : Nat), (s.ring x).logic = true → (s.ring x).vfOk = true → (s.ring x).configured
        = true → n ∈ ringChs x → tapped (s.chan n).rng.func = true → (∀ m ∈ (s.ring x).shedStack, isDo (s.chan m).rng.func = true) → need =
        (s.chan n).need (o.pads.getD (n.1 % 8) 0) → meets need (o.rails.getD (s.chan n).stage.tap.toNat 0) = true → (s.ring x).usable s.clock
        (s.chan n).stage.tap.toNat = true → low = (s.ring x).lowestRail s.clock o.rails (need.map (· + (s.ring x).tapHyst * 100)) → low <
        (s.chan n).stage.tap.toNat → ∃ t, exec (.ringStepTick x o) s = .next t ∧ ((s.ring x).downSteps ≤ (s.chan n).stage.downCount + 1 →
        (t.chan n).stage.tap = BitVec.ofNat 2 low ∧ (t.chan n).stage.downCount = 0) ∧ ((s.chan n).stage.downCount + 1 < (s.ring x).downSteps →
        (t.chan n).stage.tap = (s.chan n).stage.tap ∧ (t.chan n).stage.downCount = (s.chan n).stage.downCount + 1))
    ∧ (∀ (c : Chan) (padMv : Nat), (c.rng.func = 7 → c.an.rb < 500000 → c.need padMv = none) ∧ (c.rng.func = 7 → 500000 ≤ c.an.rb → c.need padMv
        = some ((padMv * c.an.target.toInt.toNat + c.an.rb.toNat - 1) / c.an.rb.toNat + 1500)) ∧ (c.rng.func = 8 → c.need padMv = some
        ((c.an.target.toInt.toNat + 999) / 1000 + 2000)))
    ∧ (∀ (n : Fin 16) (o : TickObs) (low : Nat), n ∈ ringChs x → tapped (s.chan n).rng.func = true → s.ringRuns n = true → low = (s.ring
        x).lowestRail s.clock o.rails ((s.chan n).need (o.pads.getD (n.1 % 8) 0)) → ∃ t, exec (.tapMoveUp n o) s = .next t ∧ (t.chan
        n).stage.tap = BitVec.ofNat 2 (if (s.ring x).usable s.clock (s.chan n).stage.tap.toNat then max (s.chan n).stage.tap.toNat low else
        low) ∧ (t.chan n).stage.downCount = 0 ∧ t.rings = s.rings ∧ ChanFrame t s n)
    ∧ (∀ (rail : Fin 3) (o : TickObs), (s.ring x).railOn rail.1 = true → ∃ t, exec (.tapOverload x rail o) s = .next t ∧ (t.ring
        x).tapOverload = true ∧ (t.ring x).rails = (s.ring x).rails &&& ~~~ (1#3 <<< rail.1) ∧ (t.ring x).railHold = (rail, none) ::
        (s.ring x).railHold.filter (fun h => h.1 ≠ rail) ∧ (∀ clock, (t.ring x).usable clock rail.1 = false) ∧ (∀ n ∈ ringChs x, tapped
        (s.chan n).rng.func = true → (t.chan n).stage.tap.toNat ≠ rail.1) ∧ (∀ n, (s.chan n).stage.tap.toNat ≠ rail.1 → t.chan n = s.chan n) ∧
        (∀ n, (t.chan n).stage.on = (s.chan n).stage.on) ∧ (∀ y ∈ [RingId.a, RingId.b], y ≠ x → (t.ring y = s.ring y ∧ ∀ n, ringOf n = y →
        t.chan n = s.chan n)) ∧ KeepsHost t s ∧ KeepsUnits t s ∧ t.recd = s.recd ∧ t.wheels = s.wheels ∧ t.flt = s.flt ∧ t.rpl = s.rpl ∧
        t.pair = s.pair ∧ t.cells = s.cells)
    ∧ (∀ (rails now : BitVec 3), ((s.ring x).railOn 0 || (s.ring x).railOn 1 || (s.ring x).railOn 2) = true → now = rails &&& BitVec.ofNat 3
        (s.ring x).tapEn &&& (if (s.ring x).t3 then 7#3 else 3#3) → exec (.tapsRegulated x rails) s = .next ((s.modRing x (fun r =>
        { r with rails := r.rails ||| now, railHold := r.railHold.map (fun h => if now.getLsbD h.1.1 && h.2.isNone then (h.1, some s.clock) else h) })).tellTaps x))
    ∧ (∀ (rail : Fin 3) (since : Nat), (s.ring x).tapEn.testBit rail.1 = true → (s.ring x).rails.getLsbD rail.1 = true → (rail = 2 → (s.ring
        x).t3 = true) → (s.ring x).railHold = [(rail, some since)] → (s.ring x).usable s.clock rail.1 = decide (since + 100000 ≤ s.clock))
    ∧ (∀ (up : Bool) (o : TickObs), (s.ring x).logic = true → ∃ t, exec (.t3Availability x up o) s = .next t ∧ (t.ring x).t3 = up ∧ (t.ring
        x).rails = (if up then (s.ring x).rails else (s.ring x).rails &&& 3#3) ∧ (up = true → t.chans = s.chans) ∧ (up = false → (∀ n ∈
        ringChs x, tapped (s.chan n).rng.func = true → (t.chan n).stage.tap.toNat ≠ 2) ∧ ∀ clock, (t.ring x).usable clock 2 = false) ∧ (∀ y ∈
        [RingId.a, RingId.b], y ≠ x → (t.ring y = s.ring y ∧ ∀ n, ringOf n = y → t.chan n = s.chan n)) ∧ KeepsHost t s ∧ KeepsUnits t s ∧
        t.recd = s.recd ∧ t.wheels = s.wheels ∧ t.flt = s.flt ∧ t.rpl = s.rpl ∧ t.pair = s.pair ∧ t.cells = s.cells)

/-- AN_SET_WRITE, AN_CMD_WRITE, CAP_ZERO, CAP_SPAN, ZS_CLEAR, TRIM_WRITE: setpoints act without a journal record, captures and trims with
one (R145, R219, R229, R230, R233, R370, R443). Which answer comes where several refusals apply (REFUSED, HELD, NOT_NOW of an activation
or of REPLAY mode, JOURNAL_FULL) is log entry 10, the model's choice. -/
def Obligations.AnalogSetpointsAndCalibrationAreWritten : Prop :=
  ∀ (e : Env) (n : Fin 16) (s : State),
    (∀ (w : Word), s.hostReady e opWrite = true → setOutside (s.chan n).cfg.func (s.chan n).cfg.range w = false → s.rpl.on = false → ∃
        t, exec (.anSetWrite e n w) s = .next t ∧ t.answers e .ok 0#32 [] = true ∧ t.chan n =
        { s.chan n with cmd := { (s.chan n).cmd with anSet := w } } ∧ ((s.ring (ringOf n)).link = true → (t.ring (ringOf n)).cmdq =
        (s.ring (ringOf n)).cmdq ++ [(.setpoint n (t.chan n).cmd, 0)]) ∧ t.fab =
        { s.fab with setpoints := s.fab.setpoints ++ [(Reg.addr (.ch n .anSet), portOrigin e.port, w)] } ∧ (∀ m, m ≠ n → t.chan m =
        s.chan m) ∧ RowFrame t s e ∧ t.time = s.time ∧ t.shadows = s.shadows ∧ t.recd = s.recd ∧ t.wheels = s.wheels ∧ t.flt = s.flt ∧
        t.svc = s.svc ∧ t.img = s.img ∧ t.cells = s.cells ∧ t.adcs = s.adcs ∧ t.filt = s.filt ∧ t.rpl = s.rpl ∧ t.chks = s.chks ∧ t.pair
        = s.pair ∧ t.bg = s.bg ∧ t.pwr = s.pwr ∧ t.freeCtr = s.freeCtr)
    ∧ (∀ (w : Word), s.hostReady e opWrite = true → (s.chan n).cfg.func = 7 → (w.toInt < 0 ∨ 24000000 < w.toInt) → ∃ t, exec
        (.anSetWrite e n w) s = .next t ∧ t.answers e .refused 0#32 [] = true ∧ t.chans = s.chans ∧ t.rings = s.rings ∧ t.fab = s.fab ∧
        RowFrame t s e ∧ t.time = s.time ∧ t.shadows = s.shadows ∧ t.recd = s.recd ∧ t.wheels = s.wheels ∧ t.flt = s.flt ∧ t.svc = s.svc
        ∧ t.img = s.img ∧ t.cells = s.cells ∧ t.adcs = s.adcs ∧ t.filt = s.filt ∧ t.rpl = s.rpl ∧ t.chks = s.chks ∧ t.pair = s.pair ∧
        t.bg = s.bg ∧ t.pwr = s.pwr ∧ t.freeCtr = s.freeCtr)
    ∧ (∀ (w : Word), s.hostReady e opWrite = true → (s.driveBound n && bit w 0 ≠ (s.chan n).cmd.anOn) = false → s.rpl.on = false → ∃ t,
        exec (.anCmdWrite e n w) s = .next t ∧ t.answers e .ok 0#32 [] = true ∧ t.chan n =
        { s.chan n with cmd := { (s.chan n).cmd with anCmd := w &&& 1#32 } } ∧ ((s.ring (ringOf n)).link = true → (t.ring (ringOf
        n)).cmdq = (s.ring (ringOf n)).cmdq ++ [(.setpoint n (t.chan n).cmd, 0)]) ∧ t.fab =
        { s.fab with setpoints := s.fab.setpoints ++ [(Reg.addr (.ch n .anCmd), portOrigin e.port, w)] } ∧ (∀ m, m ≠ n → t.chan m =
        s.chan m) ∧ RowFrame t s e ∧ t.time = s.time ∧ t.shadows = s.shadows ∧ t.recd = s.recd ∧ t.wheels = s.wheels ∧ t.flt = s.flt ∧
        t.svc = s.svc ∧ t.img = s.img ∧ t.cells = s.cells ∧ t.adcs = s.adcs ∧ t.filt = s.filt ∧ t.rpl = s.rpl ∧ t.chks = s.chks ∧ t.pair
        = s.pair ∧ t.bg = s.bg ∧ t.pwr = s.pwr ∧ t.freeCtr = s.freeCtr)
    ∧ (∀ (w : Word), s.hostReady e opWrite = true → s.driveBound n = true → bit w 0 ≠ (s.chan n).cmd.anOn → ∃ t, exec (.anCmdWrite e n
        w) s = .next t ∧ t.answers e .held 0x200#32 [] = true ∧ t.chans = s.chans ∧ t.rings = s.rings ∧ t.fab = s.fab ∧ RowFrame t s e ∧
        t.time = s.time ∧ t.shadows = s.shadows ∧ t.recd = s.recd ∧ t.wheels = s.wheels ∧ t.flt = s.flt ∧ t.svc = s.svc ∧ t.img = s.img
        ∧ t.cells = s.cells ∧ t.adcs = s.adcs ∧ t.filt = s.filt ∧ t.rpl = s.rpl ∧ t.chks = s.chks ∧ t.pair = s.pair ∧ t.bg = s.bg ∧
        t.pwr = s.pwr ∧ t.freeCtr = s.freeCtr)
    ∧ (∀ (w : Word) (v : Int) (u : State), s.hostReady e opWrite = true → s.recd.journal.length < 2047 → s.loopValue n = (v, u) →
        s.captureCode n false v = 0 → ∃ t, exec (.capZero e n w) s = .next t ∧ t.answers e .ok s.recd.seqNext [] = true ∧ (t.chan n).an.zcap = BitVec.ofInt 32 v ∧ ((t.chan
        n).an.scap = if (s.chan n).an.zsFunc.toNat = (s.chan n).cfg.func then (s.chan n).an.scap else (s.chan n).cfg.sref) ∧ (t.chan
        n).an.zsFunc.toNat = (s.chan n).cfg.func ∧ (t.chan n).an.persist = (s.chan n).an.persist ++ [(s.clock, (t.chan n).an.copy)] ∧ (t.chan n).an.trimFunc = (s.chan
        n).an.trimFunc ∧ t.recd.journal = s.recd.journal ++ [s.journalRecord 6 (portOrigin e.port) (word (n.1 + 0)) (BitVec.ofInt 32 v)]
        ∧ (∀ m, m ≠ n → (t.chan m).an = (s.chan m).an) ∧ RowFrame t s e ∧ t.time = s.time ∧ t.shadows = s.shadows ∧ t.wheels = s.wheels
        ∧ t.flt = s.flt ∧ t.svc = s.svc ∧ t.img = s.img ∧ t.fab = s.fab ∧ t.cells = s.cells ∧ t.adcs = s.adcs ∧ t.filt = s.filt ∧ t.rpl
        = s.rpl ∧ t.chks = s.chks ∧ t.bg = s.bg ∧ t.pwr = s.pwr ∧ t.freeCtr = u.freeCtr)
    ∧ (∀ (w : Word) (v : Int) (u : State), s.hostReady e opWrite = true → s.recd.journal.length < 2047 → s.loopValue n = (v, u) →
        s.captureCode n true v = 0 → ∃ t, exec (.capSpan e n w) s = .next t ∧ t.answers e .ok s.recd.seqNext [] = true ∧ (t.chan n).an.scap = BitVec.ofInt 32 v ∧ ((t.chan
        n).an.zcap = if (s.chan n).an.zsFunc.toNat = (s.chan n).cfg.func then (s.chan n).an.zcap else (s.chan n).cfg.zref) ∧ (t.chan
        n).an.zsFunc.toNat = (s.chan n).cfg.func ∧ (t.chan n).an.persist = (s.chan n).an.persist ++ [(s.clock, (t.chan n).an.copy)] ∧ (t.chan n).an.trimFunc = (s.chan
        n).an.trimFunc ∧ t.recd.journal = s.recd.journal ++ [s.journalRecord 6 (portOrigin e.port) (word (n.1 + 256)) (BitVec.ofInt 32
        v)] ∧ (∀ m, m ≠ n → (t.chan m).an = (s.chan m).an) ∧ RowFrame t s e ∧ t.time = s.time ∧ t.shadows = s.shadows ∧ t.wheels =
        s.wheels ∧ t.flt = s.flt ∧ t.svc = s.svc ∧ t.img = s.img ∧ t.fab = s.fab ∧ t.cells = s.cells ∧ t.adcs = s.adcs ∧ t.filt = s.filt
        ∧ t.rpl = s.rpl ∧ t.chks = s.chks ∧ t.bg = s.bg ∧ t.pwr = s.pwr ∧ t.freeCtr = u.freeCtr)
    ∧ (∀ (w : Word) (v : Int) (u : State) (k : Nat), s.hostReady e opWrite = true → s.loopValue n = (v, u) → s.captureCode n true v = k → k ≠ 0 → k ≠ 9 → ∃ t, exec (.capSpan
        e n w) s = .next t ∧ t.answers e .refused 1#32 [] = true ∧ t.svc =
        { s.svc with lastRefusal := s.svc.lastRefusal.set n.1 (BitVec.ofNat 4 k) } ∧ t.chans = s.chans ∧ t.recd = s.recd ∧ RowFrame t s
        e)
    ∧ (∀ (w : Word), s.hostReady e opWrite = true → s.recd.journal.length < 2047 → (s.chan n).cfg.zsAllowed = true → ∃ t, exec (.zsClear
        e n w) s = .next t ∧ t.answers e .ok s.recd.seqNext [] = true ∧ (t.chan n).an.zcap = (s.chan n).cfg.zref ∧ (t.chan n).an.scap =
        (s.chan n).cfg.sref ∧ (t.chan n).an.zsFunc = 0#4 ∧ (t.chan n).an.persist = (s.chan n).an.persist ++ [(s.clock, (t.chan n).an.copy)] ∧ t.recd.journal = s.recd.journal ++
        [s.journalRecord 1 (portOrigin e.port) (word (Reg.addrNat (.ch n .anZscmd))) (setFld w 0 3 4)] ∧ (∀ m, m ≠ n → (t.chan m).an =
        (s.chan m).an) ∧ RowFrame t s e ∧ t.time = s.time ∧ t.shadows = s.shadows ∧ t.wheels = s.wheels ∧ t.flt = s.flt ∧ t.svc = s.svc
        ∧ t.img = s.img ∧ t.fab = s.fab ∧ t.cells = s.cells ∧ t.adcs = s.adcs ∧ t.filt = s.filt ∧ t.rpl = s.rpl ∧ t.chks = s.chks ∧ t.bg
        = s.bg ∧ t.pwr = s.pwr ∧ t.freeCtr = s.freeCtr)
    ∧ (∀ (gain : Bool) (w : Word), s.hostReady e opWrite = true → s.recd.journal.length < 2047 → ((s.chan n).cfg.func = 7 ∨ (s.chan
        n).cfg.func = 8) → w.toInt.natAbs ≤ (if gain then 50000 else if (s.chan n).cfg.func = 7 then 500000 else 100000) → ∃ t, exec
        (.trimWrite e n gain w) s = .next t ∧ t.answers e .ok s.recd.seqNext [] = true ∧ (gain = true → (t.chan n).an.trimGain = w ∧
        (t.chan n).an.trimOfs = if (s.chan n).an.trimFunc.toNat = (s.chan n).cfg.func then (s.chan n).an.trimOfs else 0#32) ∧ (gain =
        false → (t.chan n).an.trimOfs = w ∧ (t.chan n).an.trimGain = if (s.chan n).an.trimFunc.toNat = (s.chan n).cfg.func then (s.chan
        n).an.trimGain else 0#32) ∧ (t.chan n).an.trimFunc.toNat = (s.chan n).cfg.func ∧ (t.chan n).an.zcap = (s.chan n).an.zcap ∧
        (t.chan n).an.persist = (s.chan n).an.persist ++ [(s.clock, (t.chan n).an.copy)] ∧ t.recd.journal = s.recd.journal ++ [s.journalRecord 1 (portOrigin e.port) (word
        (Reg.addrNat (.ch n (if gain then .anTrimGain else .anTrimOfs)))) (w)] ∧ (∀ m, m ≠ n → (t.chan m).an = (s.chan m).an) ∧ RowFrame
        t s e ∧ t.pair = s.pair ∧ t.time = s.time ∧ t.shadows = s.shadows ∧ t.wheels = s.wheels ∧ t.flt = s.flt ∧ t.svc = s.svc ∧ t.img
        = s.img ∧ t.fab = s.fab ∧ t.cells = s.cells ∧ t.adcs = s.adcs ∧ t.filt = s.filt ∧ t.rpl = s.rpl ∧ t.chks = s.chks ∧ t.bg = s.bg
        ∧ t.pwr = s.pwr ∧ t.freeCtr = s.freeCtr)
    ∧ (∀ (gain : Bool) (w : Word), s.hostReady e opWrite = true → (¬ ((s.chan n).cfg.func = 7 ∨ (s.chan n).cfg.func = 8) ∨ (if gain then
        50000 else if (s.chan n).cfg.func = 7 then 500000 else 100000) < w.toInt.natAbs) → ∃ t, exec (.trimWrite e n gain w) s = .next t
        ∧ t.answers e .refused 0#32 [] = true ∧ t.chans = s.chans ∧ t.recd = s.recd ∧ RowFrame t s e)

/-- OPEN_LOOP, LOAD_SHORT, SUPPLY_LIMIT, AO_OVERLOAD, AO_OPEN, NE43_DIAG, DIAGNOSTIC_CLEAR, RING_STEP_TICK: analog diagnostics of a
running channel (R224, R227, R242, R511, R512). -/
def Obligations.AnalogDiagnosticsAreRaised : Prop :=
  ∀ (n : Fin 16) (s : State),
    (s.judgesCompliance n = true → 1000000 ≤ (s.chan n).an.target.toInt → (s.chan n).an.rb < 200000 → ∃ t, exec (.openLoop n) s = .next t ∧ (t.chan n).live.getLsbD
        8 = true ∧ (t.chan n).live.getLsbD 15 = true ∧ (t.chan n).an = (s.chan n).an ∧ ChanFrame t s n)
    ∧ ((s.chan n).rng.func = 7 → s.ringRuns n = true → (s.chan n).latch = false → 3500000 ≤ (s.chan n).an.rb → ∃ t, exec (.loadShort n) s = .next t ∧ DiagRaised t s
        n 27 ∧ (t.chan n).an = (s.chan n).an ∧ (t.chan n).stage = (s.chan n).stage ∧ ChanFrame t s n)
    ∧ ((s.chan n).rng.func = 11 → s.ringRuns n = true → (s.chan n).latch = false → ∃ t, exec (.supplyLimit n) s = .next t ∧ DiagRaised t
        s n 16 ∧ (t.chan n).an = (s.chan n).an ∧ (t.chan n).stage = (s.chan n).stage ∧ ChanFrame t s n)
    ∧ ((s.chan n).rng.func = 8 → s.ringRuns n = true → (s.chan n).latch = false → ∃ t, exec (.aoOverload n) s = .next t ∧ DiagRaised t s
        n 17 ∧ (t.chan n).an = (s.chan n).an ∧ (t.chan n).stage = (s.chan n).stage ∧ ChanFrame t s n)
    ∧ ((s.chan n).rng.func = 8 → s.ringRuns n = true → (s.chan n).latch = false → (s.chan n).rng.anLineMon = true → 1000000 ≤ (s.chan
        n).an.target.toInt.natAbs → ∃ t, exec (.aoOpen n) s = .next t ∧ DiagRaised t s n 9 ∧ (t.chan n).an = (s.chan n).an ∧ (t.chan
        n).stage = (s.chan n).stage ∧ ChanFrame t s n)
    ∧ ((s.chan n).an.target.toInt.natAbs < 1000000 → exec (.aoOpen n) s = .next s)
    ∧ (((s.chan n).rng.func = 10 ∨ (s.chan n).rng.func = 11) → (s.chan n).rng.ne43 = true → s.ringRuns n = true → (s.chan n).latch =
        false → (s.chan n).an.regionAt + (s.chan n).rng.ne43Time * 100000 ≤ s.clock → (s.chan n).an.region = 3#3 → ∃ t, exec (.ne43Diag
        n) s = .next t ∧ DiagRaised t s n 18 ∧ (t.chan n).live.getLsbD 19 = (s.chan n).live.getLsbD 19 ∧ (t.chan n).an = (s.chan n).an ∧
        ChanFrame t s n)
    ∧ (((s.chan n).rng.func = 10 ∨ (s.chan n).rng.func = 11) → (s.chan n).rng.ne43 = true → s.ringRuns n = true → (s.chan n).latch =
        false → (s.chan n).an.regionAt + (s.chan n).rng.ne43Time * 100000 ≤ s.clock → (s.chan n).an.region = 4#3 → ∃ t, exec (.ne43Diag
        n) s = .next t ∧ DiagRaised t s n 19 ∧ (t.chan n).live.getLsbD 18 = (s.chan n).live.getLsbD 18 ∧ (t.chan n).an = (s.chan n).an ∧
        ChanFrame t s n)
    ∧ (s.clock < (s.chan n).an.regionAt + (s.chan n).rng.ne43Time * 100000 → exec (.ne43Diag n) s = .next s)
    ∧ (∀ (o : TickObs), (s.ring (ringOf n)).logic = true → (s.ring (ringOf n)).vfOk = true → (s.ring (ringOf n)).configured = true →
        s.judgesCompliance n = true → (s.chan n).an.offTarget = true → 1 ≤ (s.chan n).an.compLow → (∀ m ∈ (s.ring (ringOf n)).shedStack, isDo
        (s.chan m).rng.func = true) → ∃ t, exec (.ringStepTick (ringOf n) o) s = .next t ∧ ((t.chan n).stage.tap = 3#2 → (t.chan
        n).live.getLsbD 15 = true ∧ (t.chan n).an.compLow = (s.chan n).an.compLow + 1 ∧ (t.chan n).an.compOk = 0))
    ∧ (∀ (o : TickObs), (s.ring (ringOf n)).logic = true → (s.ring (ringOf n)).vfOk = true → (s.ring (ringOf n)).configured = true →
        s.judgesCompliance n = true → (s.chan n).an.offTarget = false → 1 ≤ (s.chan n).an.compOk → (s.chan n).live.getLsbD 8 = false → (∀ m ∈
        (s.ring (ringOf n)).shedStack, isDo (s.chan m).rng.func = true) → ∃ t, exec (.ringStepTick (ringOf n) o) s = .next t ∧ ((t.chan
        n).stage.tap = 3#2 → (t.chan n).live.getLsbD 15 = false ∧ (t.chan n).an.compLow = 0))
    ∧ ((s.chan n).an.offTarget = decide (24000 < ((s.chan n).an.meas.toInt - (s.chan n).an.target.toInt).natAbs))
    ∧ (∀ (m : Fin 32) (out : Nat), (m.1 = 18 ∧ (s.chan n).an.region ≠ 3#3 ∧ out = (s.chan n).an.lowOutAt ∨ m.1 = 19 ∧ (s.chan n).an.region ≠ 4#3
        ∧ out = (s.chan n).an.highOutAt) → (s.chan n).live.getLsbD m.1 = true → (s.ring (ringOf n)).reports.length < 32 → (out + (s.chan
        n).rng.ne43Time * 100000 ≤ s.clock → ∃ t, exec (.diagnosticClear (.member n m)) s = .next t ∧ (t.chan n).live = (s.chan n).live &&& ~~~
        (1#32 <<< m.1) ∧ (t.chan n).anSticky = (s.chan n).anSticky ∧ (t.ring (ringOf n)).reports = (s.ring (ringOf n)).reports ++
        [{ s.diagReport n m.1 0#32 with raise := false }] ∧ (t.chan n).an = (s.chan n).an ∧ ChanFrame t s n) ∧ (s.clock < out + (s.chan
        n).rng.ne43Time * 100000 → exec (.diagnosticClear (.member n m)) s = .next s))
    ∧ (∀ (m : Fin 32), (m.1 = 8 → s.judgesCompliance n = true) → (m.1 = 5 ∨ m.1 = 8 ∨ m.1 = 9 ∨ m.1 = 13 ∨ m.1 = 16 ∨ m.1 = 17 ∨ m.1 = 27) → (s.chan n).live.getLsbD m.1 = true →
        (s.ring (ringOf n)).reports.length < 32 → ∃ t, exec (.diagnosticClear (.member n m)) s = .next t ∧ (t.chan n).live = (s.chan
        n).live &&& ~~~ (1#32 <<< m.1) ∧ (t.chan n).anSticky = (s.chan n).anSticky ∧ (t.ring (ringOf n)).reports = (s.ring (ringOf
        n)).reports ++ [{ s.diagReport n m.1 0#32 with raise := false }] ∧ (t.chan n).an = (s.chan n).an ∧ ChanFrame t s n)
    ∧ (∀ (x : RingId), (s.ring x).tapOverload = true → (s.ring x).reports.length < 32 → ∃ t, exec (.diagnosticClear (.ring x 8)) s =
        .next t ∧ (t.ring x).tapOverload = false ∧ (t.ring x).sticky = (s.ring x).sticky ∧ t.chans = s.chans ∧ KeepsHost t s ∧
        KeepsUnits t s)

/-- SVC_ARM, ARM_TIMEOUT, BUTTON_PRESS, BUTTON_RELEASE, BUTTON_CAPTURE, LED_BLINK, CALIBRATION_PERSIST: arming, timing, results and
the LED, for either button (R230, R231, R232, R234, R247). -/
def Obligations.ServiceButtonsCapture : Prop :=
  ∀ (s : State),
    (∀ (e : Env) (n : Fin 16) (w : Word), s.hostReady e opWrite = true → bit w 8 = true → 1 ≤ fld w 16 8 → (s.chan n).cfg.zsAllowed =
        true → fld w 0 4 = n.1 → ∃ t, exec (.svcArm e w) s = .next t ∧ t.answers e .ok 0#32 [] = true ∧ t.svc =
        { s.svc with timeout := BitVec.ofNat 8 (fld w 16 8), en := true, ch := n, armEnd := s.clock + fld w 16 8 * 60000000 } ∧ t.recd =
        (s.event 0x12 4 (portOrigin e.port) (word (n.1 + 256)) 0#32).recd ∧ t.recd.journal = s.recd.journal ∧ RowFrame t s e ∧ t.chans =
        s.chans ∧ t.rings = s.rings ∧ t.flt = s.flt ∧ t.wheels = s.wheels ∧ t.img = s.img ∧ t.fab = s.fab ∧ t.cells = s.cells ∧ t.pair =
        s.pair)
    ∧ (∀ (e : Env) (n : Fin 16) (w : Word), s.hostReady e opWrite = true → bit w 8 = false → 1 ≤ fld w 16 8 → fld w 0 4 = n.1 → ∃ t, exec
        (.svcArm e w) s = .next t ∧ t.answers e .ok 0#32 [] = true ∧ t.svc.en = false ∧ t.svc.timeout = BitVec.ofNat 8 (fld w 16 8) ∧
        t.svc.ch = n ∧ t.recd = (if s.svc.en then (s.event 0x12 4 (portOrigin e.port) (word s.svc.ch.1) 0#32).recd else s.recd) ∧
        RowFrame t s e ∧ t.chans = s.chans ∧ t.rings = s.rings ∧ t.flt = s.flt ∧ t.wheels = s.wheels ∧ t.img = s.img ∧ t.fab = s.fab)
    ∧ (∀ (e : Env) (w : Word), s.hostReady e opWrite = true → fld w 16 8 = 0 → ∃ t, exec (.svcArm e w) s = .next t ∧ t.answers e
        .refused 16#32 [] = true ∧ t.svc = s.svc ∧ t.recd = s.recd ∧ RowFrame t s e)
    ∧ (∀ (e : Env) (n : Fin 16) (w : Word), s.hostReady e opWrite = true → bit w 8 = true → 1 ≤ fld w 16 8 → (s.chan n).cfg.zsAllowed =
        false → fld w 0 4 = n.1 → ∃ t, exec (.svcArm e w) s = .next t ∧ t.answers e .refused 0#32 [] = true ∧ t.svc = s.svc ∧ t.recd =
        s.recd ∧ RowFrame t s e)
    ∧ (s.svc.en = true → s.svc.armEnd ≤ s.clock → ∃ t, exec .armTimeout s = .next t ∧ t.svc.en = false ∧ t.svc.ch = s.svc.ch ∧ t.recd =
        (s.event 0x12 4 .internal (word s.svc.ch.1) 0#32).recd ∧ KeepsHost t s ∧ t.img = s.img ∧ t.fab = s.fab ∧ t.adcs = s.adcs ∧
        t.filt = s.filt ∧ t.chks = s.chks ∧ t.bg = s.bg ∧ t.pwr = s.pwr ∧ t.freeCtr = s.freeCtr ∧ t.chans = s.chans ∧ t.rings = s.rings
        ∧ t.wheels = s.wheels ∧ t.flt = s.flt ∧ t.rpl = s.rpl ∧ t.pair = s.pair ∧ t.cells = s.cells)
    ∧ ((s.svc.en = false ∨ s.clock < s.svc.armEnd) → exec .armTimeout s = .next s)
    ∧ (∀ (span : Bool), s.vioOk = true → (if span then s.svc.spanHeld else s.svc.zeroHeld) = false → s.svc.zeroAt = none → s.svc.spanAt =
        none → s.svc.blocked = false → exec (.buttonPress span) s = .next { s with svc := (if span then
        { s.svc with spanHeld := true, spanAt := some s.clock, spoiled := false } else
        { s.svc with zeroHeld := true, zeroAt := some s.clock, spoiled := false }) })
    ∧ (∀ (span : Bool), s.vioOk = true → (if span then s.svc.spanHeld else s.svc.zeroHeld) = false → (s.svc.zeroAt.isSome = true ∨
        s.svc.spanAt.isSome = true) → exec (.buttonPress span) s = .next
        { s with svc := { s.svc with zeroHeld := s.svc.zeroHeld || !span, spanHeld := s.svc.spanHeld || span, zeroAt := none, spanAt := none, blocked := true, spoiled := false, last := 4#4, blinks := 3, blinkOn := true, blinkAt := s.clock, refused := satInc s.svc.refused } })
    ∧ (∀ (span : Bool), s.vioOk = true → (if span then s.svc.spanHeld else s.svc.zeroHeld) = false → s.svc.zeroAt = none → s.svc.spanAt =
        none → s.svc.blocked = true → exec (.buttonPress span) s = .next
        { s with svc := { s.svc with zeroHeld := s.svc.zeroHeld || !span, spanHeld := s.svc.spanHeld || span } })
    ∧ (∀ (span : Bool), s.vioOk = true → exec (.buttonRelease span) s = .next { s with svc := (if span then
        { s.svc with spanHeld := false, spanAt := none, blocked := s.svc.blocked && s.svc.zeroHeld } else
        { s.svc with zeroHeld := false, zeroAt := none, blocked := s.svc.blocked && s.svc.spanHeld }) })
    ∧ (∀ (span : Bool), s.vioOk = false → exec (.buttonPress span) s = .next s ∧ exec (.buttonRelease span) s = .next s ∧ exec (.buttonCapture
        span) s = .next s)
    ∧ (∀ (span : Bool) (z : Nat) (v : Int) (u : State), (if span then s.svc.spanAt else s.svc.zeroAt) = some z → z + 3000000 ≤ s.clock →
        s.vioOk = true → s.svc.en = true → s.mayTake .service = true → s.loopValue s.svc.ch = (v, u) → s.captureCode s.svc.ch span v = 0
        → s.svc.spoiled = false → s.recd.journal.length < 2047 → ∃ t, exec (.buttonCapture span) s = .next t ∧ t.svc.zeroAt = none ∧
        t.svc.spanAt = none ∧ t.svc.last = (if span then 2#4 else 1#4) ∧ t.svc.blinks = 1 ∧ t.svc.captured = satInc s.svc.captured ∧
        t.svc.refused = s.svc.refused ∧ t.svc.en = true ∧ (t.chan s.svc.ch).an.zcap = (if span then ((s.chan s.svc.ch).an.capBase (s.chan
        s.svc.ch).cfg).zcap else BitVec.ofInt 32 v) ∧ (t.chan s.svc.ch).an.scap = (if span then BitVec.ofInt 32 v else ((s.chan
        s.svc.ch).an.capBase (s.chan s.svc.ch).cfg).scap) ∧ (t.chan s.svc.ch).an.zsFunc = BitVec.ofNat 4 (s.chan s.svc.ch).cfg.func ∧
        t.recd.journal = s.recd.journal ++ [s.journalRecord 6 .service (word (s.svc.ch.1 + b2n span * 256)) (BitVec.ofInt 32 v)] ∧
        (∀ n, n ≠ s.svc.ch → t.chan n = s.chan n) ∧ t.pwr = s.pwr ∧ t.shadows = s.shadows ∧ t.time = s.time ∧ ∀ m, t.held m = s.held m)
    ∧ (∀ (n : Fin 16) (a : Int), (s.chan n).an.average s.clock 100000 = some a → s.loopValue n = (a, s))
    ∧ (∀ (span : Bool) (z k : Nat) (v : Int) (u : State), (if span then s.svc.spanAt else s.svc.zeroAt) = some z → z + 3000000 ≤ s.clock →
        s.vioOk = true → s.loopValue s.svc.ch = (v, u) → k = (if s.svc.spoiled then 10 else if !s.svc.en then 3 else s.captureCode s.svc.ch
        span v) → k ≠ 0 → ∃ t, exec (.buttonCapture span) s = .next t ∧ t.svc.zeroAt = none ∧ t.svc.spanAt = none ∧ t.svc.last =
        BitVec.ofNat 4 k ∧ t.svc.blinks = 3 ∧ t.svc.refused = satInc s.svc.refused ∧ t.svc.captured = s.svc.captured ∧ t.chans = s.chans ∧
        t.recd.journal = s.recd.journal ∧ t.recd.staged = s.recd.staged ∧ t.recd.jnlRefused = (if k = 9 then satInc s.recd.jnlRefused else
        s.recd.jnlRefused))
    ∧ (∀ (span : Bool) (z : Nat), (if span then s.svc.spanAt else s.svc.zeroAt) = some z → s.clock < z + 3000000 → exec (.buttonCapture span)
        s = .next s)
    ∧ (∀ (span : Bool), (if span then s.svc.spanAt else s.svc.zeroAt) = none → exec (.buttonCapture span) s = .next s)
    ∧ s.led = (s.vioOk && (if s.svc.blinks ≠ 0 && s.svc.blinkOn then !(s.svc.en || s.svc.ledHost) else s.svc.en || s.svc.ledHost))
    ∧ (s.svc.blinks ≠ 0 → s.svc.blinkAt + 200000 ≤ s.clock → exec .ledBlink s = .next
        { s with svc := { s.svc with blinkOn := !s.svc.blinkOn, blinkAt := s.clock, blinks := if s.svc.blinkOn then s.svc.blinks - 1 else s.svc.blinks } })
    ∧ ((s.svc.blinks = 0 ∨ s.clock < s.svc.blinkAt + 200000) → exec .ledBlink s = .next s)
    ∧ (∀ (n : Fin 16) (p : Nat × CalCopy), ((s.chan n).an.persist.filter (fun q => decide (q.1 + 20000 ≤ s.clock))).getLast? = some p → ∃ t,
        exec (.calibrationPersist n) s = .next t ∧ (t.chan n).an =
        { (s.chan n).an with persist := (s.chan n).an.persist.filter (fun q => decide (s.clock < q.1 + 20000)), stored := p.2 }
        ∧ t.bg = { s.bg with calibGen := s.bg.calibGen + 1 } ∧ ChanFrame { t with bg := s.bg } s n ∧ t.rings = s.rings)
    ∧ (∀ (n : Fin 16), (s.chan n).an.persist.all (fun q => decide (s.clock < q.1 + 20000)) = true → exec (.calibrationPersist n) s = .next
        s)

/-- FSK_TX, FSK_QUIET_END, FSK_TX_END, CARRIER_DETECT, CARRIER_RELEASE, FSK_CHAR_RECEIVED, FSK_RX_READ, RESP_TIMEOUT: the modem of a Ring
(R236, R237, R238, R239, R240, R248). That characters on their way count towards the 64 is log entry 111 (DESIGN CHOICE). -/
def Obligations.FskModemSendsAndReceives : Prop :=
  ∀ (x : RingId) (s : State),
    (∀ (e : Env) (w : Word), s.hostReady e opWrite = true → (s.ring x).link = true → s.fskLevel x < 64 → ∃ t, exec (.fskTx e x w) s =
        .next t ∧ t.answers e .ok 0#32 [] = true ∧ t.ring x =
        { s.ring x with cmdq := (s.ring x).cmdq ++ [(.fskTx (bit w 8) (w.extractLsb' 0 8), 0)] } ∧ (∀ y ∈ [RingId.a, RingId.b], y ≠ x →
        t.ring y = s.ring y) ∧
        RowFrame t s e ∧ t.time = s.time ∧ t.shadows = s.shadows ∧ t.recd = s.recd ∧ t.wheels = s.wheels ∧ t.flt = s.flt ∧ t.chans =
        s.chans ∧ t.svc = s.svc ∧ t.img = s.img ∧ t.fab = s.fab ∧ t.cells = s.cells ∧ t.adcs = s.adcs ∧ t.filt = s.filt ∧ t.rpl = s.rpl
        ∧ t.chks = s.chks ∧ t.pair = s.pair ∧ t.bg = s.bg ∧ t.pwr = s.pwr ∧ t.freeCtr = s.freeCtr)
    ∧ (∀ (last : Bool) (d : Byte) (k : Nat) (q : List (RingCmd × Nat)), (s.ring x).downOpen = true → (s.ring x).cmdq = (.fskTx last d, k) ::
        q → (s.ring x).fsk.state = .idle → (s.ring x).fsk.en = true → s.fskLatched x = false → ∃ t, exec (.linkCommandFrame x true) s =
        .next t ∧ t.ring x =
        { s.ring x with cmdq := q, fsk := { (s.ring x).fsk with tx := (s.ring x).fsk.tx ++ [(last, d)], state := .waiting } }
        ∧ KeepsHost t s ∧ KeepsUnits t s ∧ t.recd = s.recd ∧ t.wheels = s.wheels ∧ t.flt = s.flt ∧ t.chans = s.chans ∧ t.rpl = s.rpl ∧
        t.pair = s.pair ∧ t.cells = s.cells ∧ (∀ y ∈ [RingId.a, RingId.b], y ≠ x → t.ring y = s.ring y))
    ∧ (∀ (e : Env) (w : Word), s.hostReady e opWrite = true → 64 ≤ s.fskLevel x → ∃ t, exec
        (.fskTx e x w) s = .next t ∧ t.answers e .notNow 0#32 [] = true ∧ t.rings = s.rings ∧ RowFrame t s e ∧ t.time = s.time ∧
        t.shadows = s.shadows ∧ t.recd = s.recd ∧ t.wheels = s.wheels ∧ t.flt = s.flt ∧ t.chans = s.chans ∧ t.svc = s.svc ∧ t.img =
        s.img ∧ t.fab = s.fab ∧ t.cells = s.cells ∧ t.adcs = s.adcs ∧ t.filt = s.filt ∧ t.rpl = s.rpl ∧ t.chks = s.chks ∧ t.pair =
        s.pair ∧ t.bg = s.bg ∧ t.pwr = s.pwr ∧ t.freeCtr = s.freeCtr)
    ∧ ((s.ring x).fsk.state = .waiting → (s.ring x).fsk.tx ≠ [] → (s.ring x).fsk.quietOver s.clock = true → (s.ring x).logic = true →
        s.fskLatched x = false → ∃ t, exec (.fskQuietEnd x) s = .next t ∧ t.ring x =
        { s.ring x with fsk := { (s.ring x).fsk with state := .sending, sentAt := s.clock, sent := 0, ended := false, ranDry := false, respFrom := none } }
        ∧ KeepsHost t s ∧ KeepsUnits t s ∧ t.recd = s.recd ∧ t.wheels = s.wheels ∧ t.flt = s.flt ∧ t.chans = s.chans ∧ t.rpl = s.rpl ∧
        t.pair = s.pair ∧ t.cells = s.cells ∧ (∀ y ∈ [RingId.a, RingId.b], y ≠ x → t.ring y = s.ring y))
    ∧ ((s.ring x).fsk.cd = true → exec (.fskQuietEnd x) s = .next s)
    ∧ ((s.ring x).fsk.state = .sending → (s.ring x).fsk.ended = true → 0 < (s.ring x).fsk.sent → 3000000 + (s.ring x).fsk.sent *
        11000000 ≤ (s.clock - (s.ring x).fsk.sentAt) * 1200 → ∃ t, exec (.fskTxEnd x) s = .next t ∧ (t.ring x =
        { s.ring x with fsk := { (s.ring x).fsk with state := if (s.ring x).fsk.tx = [] then .idle else .waiting, ranDry := false, quietFrom := s.clock, respFrom := some s.clock, evt := (s.ring x).fsk.evt ||| 1#7 } })
        ∧ KeepsHost t s ∧ KeepsUnits t s ∧ t.recd = s.recd ∧ t.wheels = s.wheels ∧ t.flt = s.flt ∧ t.chans = s.chans ∧ t.rpl = s.rpl ∧
        t.pair = s.pair ∧ t.cells = s.cells ∧ (∀ y ∈ [RingId.a, RingId.b], y ≠ x → t.ring y = s.ring y))
    ∧ ((s.ring x).fsk.state = .sending → (s.ring x).fsk.ended = false → (s.ring x).fsk.tx = [] → 0 < (s.ring x).fsk.sent → 3000000 +
        (s.ring x).fsk.sent * 11000000 ≤ (s.clock - (s.ring x).fsk.sentAt) * 1200 → ∃ t, exec (.fskTxEnd x) s = .next t ∧ (t.ring x =
        { s.ring x with fsk := { (s.ring x).fsk with state := .idle, ranDry := false, quietFrom := s.clock, respFrom := none, evt := (s.ring x).fsk.evt ||| 32#7 } })
        ∧ KeepsHost t s ∧ KeepsUnits t s ∧ t.recd = s.recd ∧ t.wheels = s.wheels ∧ t.flt = s.flt ∧ t.chans = s.chans ∧ t.rpl = s.rpl ∧
        t.pair = s.pair ∧ t.cells = s.cells ∧ (∀ y ∈ [RingId.a, RingId.b], y ≠ x → t.ring y = s.ring y))
    ∧ (s.fskReceives x = true → (s.ring x).fsk.cd = false → ∃ t, exec (.carrierDetect x) s = .next t ∧ t.ring x =
        { s.ring x with fsk := { (s.ring x).fsk with cd := true, som := true, respFrom := none, evt := (s.ring x).fsk.evt ||| 2#7 } } ∧
        KeepsHost t s ∧ KeepsUnits t s ∧ t.recd = s.recd ∧ t.wheels = s.wheels ∧ t.flt = s.flt ∧ t.chans = s.chans ∧ t.rpl = s.rpl ∧
        t.pair = s.pair ∧ t.cells = s.cells ∧ (∀ y ∈ [RingId.a, RingId.b], y ≠ x → t.ring y = s.ring y))
    ∧ ((s.ring x).fsk.cd = true → ∃ t, exec (.carrierRelease x) s = .next t ∧ t.ring x =
        { s.ring x with fsk := { (s.ring x).fsk with cd := false, quietFrom := s.clock } } ∧ KeepsHost t s ∧ KeepsUnits t s ∧ t.recd =
        s.recd ∧ t.wheels = s.wheels ∧ t.flt = s.flt ∧ t.chans = s.chans ∧ t.rpl = s.rpl ∧ t.pair = s.pair ∧ t.cells = s.cells ∧ (∀ y ∈
        [RingId.a, RingId.b], y ≠ x → t.ring y = s.ring y))
    ∧ (∀ (d : Byte) (parity framing : Bool) (w : Word), s.fskReceives x = true → (s.ring x).fsk.cd = true → w = fskWord (decide ((s.ring
        x).fsk.lastStop + charTimes 2 < s.clock)) (s.ring x).fsk.som framing parity d → ∃ t, exec (.fskCharReceived x d parity framing) s =
        .next t ∧ t.ring x =
        { s.ring x with upq := (s.ring x).upq ++ [.fsk w s.tick], fsk := { (s.ring x).fsk with som := false, lastStop := s.clock } }
        ∧ KeepsHost t s ∧ KeepsUnits t s ∧ t.recd = s.recd ∧ t.wheels = s.wheels ∧ t.flt = s.flt ∧ t.chans = s.chans ∧ t.rpl = s.rpl ∧
        t.pair = s.pair ∧ t.cells = s.cells ∧ (∀ y ∈ [RingId.a, RingId.b], y ≠ x → t.ring y = s.ring y))
    ∧ (∀ (w : Word) (u : Nat) (q : List UpMsg), s.phase = .run → (s.ring x).upOpen = true → s.pwr.mode ≠ .cellar → (s.ring x).upq = .fsk w
        u :: q → (s.ring x).reports = [] → ∃ t, exec (.acceptedChangeArrival x true) s = .next t ∧ (t.ring x).upq = q ∧ (t.ring x).fsk.rx =
        (if (s.ring x).fsk.rx.length < 64 then (s.ring x).fsk.rx ++ [w] else (s.ring x).fsk.rx) ∧ (t.ring x).fsk.chars = satInc (s.ring
        x).fsk.chars ∧ (t.ring x).fsk.errors = (if bit w 8 || bit w 9 then satInc (s.ring x).fsk.errors else (s.ring x).fsk.errors) ∧
        (t.ring x).fsk.evt = (s.ring x).fsk.evt ||| (if (s.ring x).fsk.rx.length < 64 then 0#7 else 16#7) ||| (if bit w 8 || bit w 9 then
        8#7 else 0#7) ∧ (t.ring x).fsk.tx = (s.ring x).fsk.tx ∧ KeepsHost t s ∧ KeepsUnits t s ∧ t.chans = s.chans)
    ∧ (∀ (e : Env) (w a : Word) (rest : List Word), s.hostReady e opRead = true → (s.ring x).fsk.rx = a :: rest → ∃ t, exec (.fskRxRead
        e x w) s = .next t ∧ t.answers e .ok 0#32 [a] = true ∧ t.ring x = { s.ring x with fsk := { (s.ring x).fsk with rx := rest } } ∧
        RowFrame t s e ∧ t.time = s.time ∧ t.shadows = s.shadows ∧ t.recd = s.recd ∧ t.wheels = s.wheels ∧ t.flt = s.flt ∧ t.chans =
        s.chans ∧ t.svc = s.svc ∧ t.img = s.img ∧ t.fab = s.fab ∧ t.cells = s.cells ∧ t.adcs = s.adcs ∧ t.filt = s.filt ∧ t.rpl = s.rpl
        ∧ t.chks = s.chks ∧ t.pair = s.pair ∧ t.bg = s.bg ∧ t.pwr = s.pwr ∧ t.freeCtr = s.freeCtr)
    ∧ (∀ (e : Env) (w : Word), s.hostReady e opRead = true → (s.ring x).fsk.rx = [] → ∃ t, exec (.fskRxRead e x w) s = .next t ∧
        t.answers e .ok 0#32 [0#32] = true ∧ t.rings = s.rings ∧ RowFrame t s e ∧ t.time = s.time ∧ t.shadows = s.shadows ∧ t.recd =
        s.recd ∧ t.wheels = s.wheels ∧ t.flt = s.flt ∧ t.chans = s.chans ∧ t.svc = s.svc ∧ t.img = s.img ∧ t.fab = s.fab ∧ t.cells =
        s.cells ∧ t.adcs = s.adcs ∧ t.filt = s.filt ∧ t.rpl = s.rpl ∧ t.chks = s.chks ∧ t.pair = s.pair ∧ t.bg = s.bg ∧ t.pwr = s.pwr ∧
        t.freeCtr = s.freeCtr)
    ∧ (∀ (u : Nat), (s.ring x).fsk.respFrom = some u → u + (s.ring x).fsk.rt.toNat * 11000000 / 1200 ≤ s.clock → ∃ t, exec (.respTimeout
        x) s = .next t ∧ t.ring x = { s.ring x with fsk := { (s.ring x).fsk with respFrom := none, evt := (s.ring x).fsk.evt ||| 4#7 } }
        ∧ KeepsHost t s ∧ KeepsUnits t s ∧ t.recd = s.recd ∧ t.wheels = s.wheels ∧ t.flt = s.flt ∧ t.chans = s.chans ∧ t.rpl = s.rpl ∧
        t.pair = s.pair ∧ t.cells = s.cells ∧ (∀ y ∈ [RingId.a, RingId.b], y ≠ x → t.ring y = s.ring y))

/-- TOUCH_SCAN: touch and release after their runs, baseline drift, the negative re-seed, TOUCH_STUCK, seeding and electrode
diagnostics (R252, R253, R254, R263, R265). -/
def Obligations.TouchScansAreJudged : Prop :=
  ∀ (n : Fin 16) (s : State),
    (∀ (c from_ : Nat), s.senses n 13 = true → (s.chan n).live.getLsbD 10 = false → (s.chan
        n).live.getLsbD 20 = false → 3000 ≤ c → c ≤ 200000 → (s.chan n).tch.seeded = true → (s.chan n).tch.touched = false → 0 < (s.chan n).rng.thOn → ((s.chan
        n).rng.thOn * 2560 : Int) ≤ ((c : Int) * 256 - (s.chan n).tch.base8) → (s.chan n).rng.touchN ≤ (s.chan n).tch.onRun + 1 →
        from_ = (if (s.chan n).tch.onRun = 0 then s.clock else (s.chan n).tch.onAt) → ∃ t, exec (.touchScan n c false) s = .next t ∧ (t.chan n).tch =
        { (s.chan n).tch with c := word c, scan := (s.chan n).tch.scan + 1, openRun := 0, shortRun := 0, onRun := (s.chan n).tch.onRun + 1, negRun := 0, touched := true, held := 0, onAt := from_ }
        ∧ (t.ring (ringOf n)).upq = (s.ring (ringOf n)).upq ++ s.scanUp n c ++ [.change n true false s.tick (edgeValue (s.clock - from_) false false
        true)] ∧ t.recd = s.recd ∧ KeepsHost t s ∧ t.svc = s.svc ∧ t.img = s.img ∧ t.fab = s.fab ∧ t.adcs = s.adcs ∧ t.filt
        = s.filt ∧ t.chks = s.chks ∧ t.bg = s.bg ∧ t.pwr = s.pwr ∧ t.wheels = s.wheels ∧ t.flt = s.flt ∧ t.rpl = s.rpl ∧ t.pair = s.pair
        ∧ t.cells = s.cells ∧ (∀ m, m ≠ n → t.chan m = s.chan m))
    ∧ (∀ (c : Nat), s.senses n 13 = true → (s.chan n).live.getLsbD 10 = false → (s.chan
        n).live.getLsbD 20 = false → 3000 ≤ c → c ≤ 200000 → (s.chan n).tch.seeded = true → (s.chan n).tch.touched = false → ((c : Int)
        * 256 - (s.chan n).tch.base8) < ((s.chan n).rng.thOn * 2560 : Int) → ((c : Int) * 256 - (s.chan n).tch.base8) < ((s.chan
        n).rng.thOff * 2560 : Int) → -((s.chan n).rng.thOn * 2560 : Int) < ((c : Int) * 256 - (s.chan n).tch.base8) → 0 < (s.chan
        n).rng.touchN → ∃ t, exec (.touchScan n c false) s = .next t ∧ (∃ k : Fin 2, ((t.chan n).tch.base8 : Int) = (s.chan n).tch.base8
        + ((c : Int) * 256 - (s.chan n).tch.base8) / 2 ^ (s.chan n).rng.drift + k.1) ∧ (t.chan n).tch.touched = false ∧ (t.chan
        n).tch.onRun = 0 ∧ (t.chan n).tch.negRun = 0 ∧ t.ring (ringOf n) = { s.ring (ringOf n) with upq := (s.ring (ringOf n)).upq ++ s.scanUp n c } ∧ (∀ y ∈ [RingId.a, RingId.b], y ≠ ringOf n → t.ring y = s.ring y) ∧ t.recd = s.recd ∧ KeepsHost t s ∧ t.svc = s.svc ∧ t.img =
        s.img ∧ t.fab = s.fab ∧ t.adcs = s.adcs ∧ t.filt = s.filt ∧ t.chks = s.chks ∧ t.bg = s.bg ∧ t.pwr = s.pwr ∧ t.wheels = s.wheels
        ∧ t.flt = s.flt ∧ t.rpl = s.rpl ∧ t.pair = s.pair ∧ t.cells = s.cells ∧ (∀ m, m ≠ n → t.chan m = s.chan m))
    ∧ (∀ (c : Nat), s.senses n 13 = true → (s.chan n).live.getLsbD 10 = false → (s.chan
        n).live.getLsbD 20 = false → 3000 ≤ c → c ≤ 200000 → (s.chan n).tch.seeded = true → (s.chan n).tch.touched = false → ((c : Int)
        * 256 - (s.chan n).tch.base8) < ((s.chan n).rng.thOn * 2560 : Int) → ((c : Int) * 256 - (s.chan n).tch.base8) ≤ -((s.chan
        n).rng.thOn * 2560 : Int) → 0 < (s.chan n).rng.touchN → (s.chan n).tch.negRun = 99 → ∃ t, exec (.touchScan n c false) s = .next
        t ∧ (t.chan n).tch =
        { (s.chan n).tch with c := word c, scan := (s.chan n).tch.scan + 1, openRun := 0, shortRun := 0, base8 := c * 256, onRun := 0, negRun := 0, onAt := (t.chan n).tch.onAt }
        ∧ t.recd = (s.event 0x12 10 .internal (word n.1) 0#32).recd ∧ t.ring (ringOf n) = { s.ring (ringOf n) with upq := (s.ring (ringOf n)).upq ++ s.scanUp n c } ∧ (∀ y ∈ [RingId.a, RingId.b], y ≠ ringOf n → t.ring y = s.ring y) ∧ KeepsHost t s ∧ t.svc = s.svc ∧ t.img = s.img
        ∧ t.fab = s.fab ∧ t.adcs = s.adcs ∧ t.filt = s.filt ∧ t.chks = s.chks ∧ t.bg = s.bg ∧ t.pwr = s.pwr ∧ t.wheels = s.wheels ∧
        t.flt = s.flt ∧ t.rpl = s.rpl ∧ t.pair = s.pair ∧ t.cells = s.cells ∧ (∀ m, m ≠ n → t.chan m = s.chan m))
    ∧ (∀ (c from_ : Nat), s.senses n 13 = true → (s.chan n).live.getLsbD 10 = false → (s.chan
        n).live.getLsbD 20 = false → 3000 ≤ c → c ≤ 200000 → (s.chan n).tch.seeded = true → (s.chan n).tch.touched = true → ((c : Int) *
        256 - (s.chan n).tch.base8) < ((s.chan n).rng.thOff * 2560 : Int) → (s.chan n).rng.releaseN ≤ (s.chan n).tch.offRun + 1 →
        from_ = (if (s.chan n).tch.offRun = 0 then s.clock else (s.chan n).tch.offAt) → ∃ t, exec (.touchScan n c false) s = .next t ∧ (t.chan n).tch =
        { (s.chan n).tch with c := word c, scan := (s.chan n).tch.scan + 1, openRun := 0, shortRun := 0, touched := false, offRun := 0, held := (s.chan n).tch.held + 1, offAt := from_ }
        ∧ (t.ring (ringOf n)).upq = (s.ring (ringOf n)).upq ++ s.scanUp n c ++ [.change n false false s.tick (edgeValue (s.clock - from_) false
        false false)] ∧ t.recd = s.recd ∧ KeepsHost t s ∧ t.svc = s.svc ∧ t.img = s.img ∧ t.fab = s.fab ∧ t.adcs = s.adcs ∧ t.filt
        = s.filt ∧ t.chks = s.chks ∧ t.bg = s.bg ∧ t.pwr = s.pwr ∧ t.wheels = s.wheels ∧ t.flt = s.flt ∧ t.rpl = s.rpl ∧ t.pair = s.pair
        ∧ t.cells = s.cells ∧ (∀ m, m ≠ n → t.chan m = s.chan m))
    ∧ (∀ (c : Nat), s.senses n 13 = true → (s.chan n).live.getLsbD 10 = false → (s.chan
        n).live.getLsbD 20 = false → 3000 ≤ c → c ≤ 200000 → (s.chan n).tch.seeded = true → (s.chan n).tch.touched = true → ((s.chan
        n).rng.thOff * 2560 : Int) ≤ ((c : Int) * 256 - (s.chan n).tch.base8) → 0 < (s.chan n).rng.releaseN → (s.chan n).rng.maxHold ≠ 0
        → 1000 * (s.chan n).rng.maxHold ≤ (s.chan n).tch.held + 1 → (s.chan n).live.getLsbD 28 = false → (s.ring (ringOf
        n)).reports.length < 32 → ∃ t, exec (.touchScan n c false) s = .next t ∧ (t.chan n).tch =
        { (s.chan n).tch with c := word c, scan := (s.chan n).tch.scan + 1, openRun := 0, shortRun := 0, base8 := c * 256, touched := false, offRun := 0, held := (s.chan n).tch.held + 1, offAt := (t.chan n).tch.offAt }
        ∧ (t.ring (ringOf n)).reports = (s.ring (ringOf n)).reports ++ [s.diagReport n 28 0#32] ∧ (t.chan n).live = (s.chan n).live ∧
        (t.ring (ringOf n)).upq = (s.ring (ringOf n)).upq ++ s.scanUp n c ++ [.change n false false s.tick 0#32] ∧ t.recd = s.recd ∧ KeepsHost t s ∧
        t.svc = s.svc ∧ t.img = s.img ∧ t.fab = s.fab ∧ t.adcs = s.adcs ∧ t.filt = s.filt ∧ t.chks = s.chks ∧ t.bg = s.bg ∧ t.pwr =
        s.pwr ∧ t.wheels = s.wheels ∧ t.flt = s.flt ∧ t.rpl = s.rpl ∧ t.pair = s.pair ∧ t.cells = s.cells ∧ (∀ m, m ≠ n → t.chan m =
        s.chan m))
    ∧ (∀ (c : Nat), s.senses n 13 = true → (s.chan n).live.getLsbD 10 = false → (s.chan
        n).live.getLsbD 20 = false → 3000 ≤ c → c ≤ 200000 → (s.chan n).tch.seeded = false → (s.chan n).tch.seedCount = 15 → ∃ t, exec
        (.touchScan n c false) s = .next t ∧ (t.chan n).tch =
        { (s.chan n).tch with c := word c, scan := (s.chan n).tch.scan + 1, openRun := 0, shortRun := 0, base8 := ((s.chan n).tch.seedSum + c) * 16, seeded := true, seedCount := 0, seedSum := 0 }
        ∧ t.ring (ringOf n) = { s.ring (ringOf n) with upq := (s.ring (ringOf n)).upq ++ s.scanUp n c } ∧ (∀ y ∈ [RingId.a, RingId.b], y ≠ ringOf n → t.ring y = s.ring y) ∧ t.freeCtr = s.freeCtr ∧ t.recd = s.recd ∧ KeepsHost t s ∧ t.svc = s.svc ∧ t.img = s.img ∧ t.fab = s.fab ∧
        t.adcs = s.adcs ∧ t.filt = s.filt ∧ t.chks = s.chks ∧ t.bg = s.bg ∧ t.pwr = s.pwr ∧ t.wheels = s.wheels ∧ t.flt = s.flt ∧ t.rpl
        = s.rpl ∧ t.pair = s.pair ∧ t.cells = s.cells ∧ (∀ m, m ≠ n → t.chan m = s.chan m))
    ∧ (∀ (c : Nat), s.senses n 13 = true → (s.chan n).live.getLsbD 10 = false → (s.chan
        n).live.getLsbD 20 = false → c < 3000 → s.guardOf n = none → 99 ≤ (s.chan n).tch.openRun → (s.chan n).tch.seeded = true → (s.chan n).tch.touched = false → ∃ t,
        exec (.touchScan n c false) s = .next t ∧ DiagRaised t s n 10 ∧ (t.chan n).tch.touched = false ∧ (t.chan n).tch.openRun = 0 ∧
        (t.chan n).tch.c = word c ∧ (t.chan n).tch.base8 = (s.chan n).tch.base8 ∧ t.recd = s.recd ∧ KeepsHost t s ∧ t.svc = s.svc ∧
        t.img = s.img ∧ t.fab = s.fab ∧ t.adcs = s.adcs ∧ t.filt = s.filt ∧ t.chks = s.chks ∧ t.bg = s.bg ∧ t.pwr = s.pwr ∧ t.wheels =
        s.wheels ∧ t.flt = s.flt ∧ t.rpl = s.rpl ∧ t.pair = s.pair ∧ t.cells = s.cells ∧ (∀ m, m ≠ n → t.chan m = s.chan m))
    ∧ (∀ (c : Nat), s.senses n 13 = true → (s.chan n).live.getLsbD 10 = false → (s.chan
        n).live.getLsbD 20 = false → 9 ≤ (s.chan n).tch.shortRun → (s.chan n).tch.seeded = true → (s.chan n).tch.touched = true → ∃ t, exec (.touchScan n c true) s =
        .next t ∧ DiagRaised t s n 20 ∧ (t.chan n).tch.touched = false ∧ (t.ring (ringOf n)).upq = (s.ring (ringOf n)).upq ++ s.scanUp n c ++ [.change n false false s.tick 0#32] ∧ t.recd = s.recd ∧ KeepsHost t s ∧ t.svc = s.svc ∧ t.img = s.img ∧ t.fab = s.fab ∧ t.adcs =
        s.adcs ∧ t.filt = s.filt ∧ t.chks = s.chks ∧ t.bg = s.bg ∧ t.pwr = s.pwr ∧ t.wheels = s.wheels ∧ t.flt = s.flt ∧ t.rpl = s.rpl ∧
        t.pair = s.pair ∧ t.cells = s.cells ∧ (∀ m, m ≠ n → t.chan m = s.chan m))
    ∧ (∀ (c : Nat) (failed : Bool), s.senses n 13 = true → (s.chan n).tch.seeded = false → ((s.chan n).live.getLsbD 10 = true → (s.chan
        n).tch.openRun < 99) → ((s.chan n).live.getLsbD 20 = true → (s.chan n).tch.shortRun < 9) → ∃ t, exec (.touchScan n c failed) s = .next
        t ∧ (t.chan n).tch.seeded = decide ((s.chan n).tch.seedCount = 15) ∧ (t.chan n).tch.seedCount = (if (s.chan n).tch.seedCount = 15
        then 0 else (s.chan n).tch.seedCount + 1) ∧ (t.chan n).tch.base8 = (if (s.chan n).tch.seedCount = 15 then ((s.chan n).tch.seedSum +
        c) * 16 else (s.chan n).tch.base8) ∧ (t.chan n).tch.c = word c ∧ (t.ring (ringOf n)).upq = (s.ring (ringOf n)).upq ++ s.scanUp n c ∧ KeepsHost t s ∧ KeepsUnits t s ∧ t.pair.core = s.pair.core)
    ∧ (∀ (c : Nat), s.senses n 13 = true → (s.chan n).live.getLsbD 10 = true → 3000 ≤ c → 99 ≤ (s.chan n).tch.openRun → ∃ t, exec (.touchScan
        n c false) s = .next t ∧ (t.chan n).live.getLsbD 10 = false ∧ (t.chan n).tch.seeded = false ∧ (t.chan n).tch.seedCount = 0 ∧ (t.chan
        n).tch.seedSum = 0 ∧ (t.chan n).tch.touched = false ∧ (t.chan n).tch.base8 = (s.chan n).tch.base8 ∧ KeepsHost t s ∧ KeepsUnits t s)
    ∧ (∀ (c : Nat) (g : Fin 16), s.senses n 13 = true → (s.chan n).live.getLsbD 10 = false →
        (s.chan n).live.getLsbD 20 = false → c < 3000 → s.guardOf n = some g → 99 ≤ (s.chan n).tch.openRun → (s.chan g).plg.state = 1#3 →
        (s.chan n).guardWait = [] → ∃ t, exec (.touchScan n c false) s = .next t ∧ (t.chan n).live.getLsbD 10 = false ∧ (t.chan n).guardWait
        = [(10, (s.chan g).rng.unplugN + 1)] ∧ KeepsHost t s)
    ∧ (∀ (c : Nat) (failed : Bool), s.senses n 13 = false → exec (.touchScan n c failed) s = .next s)

/-- PLUG_TEST and RESEED: guard states, their diagnostics, the GUARD cause of guarded channels, and the command that seeds a touch
channel (R254, R257, R258, R259, R260). -/
def Obligations.PresenceLoopsAreJudged : Prop :=
  ∀ (n : Fin 16) (s : State),
    (s.senses n 14 = true → (s.chan n).rng.guard = 0 → (s.chan n).plg.state = 1#3 → (s.chan n).rng.unplugN ≤ (s.chan n).plg.runLength 0 1
        → ((s.chan n).live &&& 0xE00000#32) = 0#32 → ∃ t, exec (.plugTest n .opened) s = .next t ∧ (t.chan n).plg =
        { (s.chan n).plg with state := 2#3, r := 0xFFFF#16, runs := [(1#3, (s.chan n).plg.runLength 0 1), (1#3, (s.chan n).plg.runLength 1 1)], since := s.clock, sinkOff := false, awayAt := some s.clock, unplugs := satInc (s.chan n).plg.unplugs }
        ∧ DiagRaised t s n (if (s.chan n).rng.pluggable then 29 else 11) ∧ ((s.ring (ringOf n)).link = true → (s.ring (ringOf n)).upq = [] →
        (s.chan n).hostPlug = 1#3 → (t.ring (ringOf n)).upq = [.plug n 2#3 s.tick]) ∧ t.recd = s.recd ∧ KeepsHost t s ∧ KeepsUnits t s ∧ t.wheels
        = s.wheels ∧ t.flt = s.flt ∧ t.rpl = s.rpl ∧ t.pair = s.pair ∧ t.cells = s.cells ∧ (∀ m, m ≠ n → t.chan m = s.chan m))
    ∧ (∀ (g : Fin 16), s.senses n 14 = true → (s.chan n).plg.state = 1#3 → (s.chan n).rng.unplugN ≤ (s.chan n).plg.runLength 0 1 →
        s.guardOf g = some n → (s.chan g).rng.pluggable = true → ∃ t, exec (.plugTest n .opened) s = .next t ∧ (t.chan n).plg.state = 2#3 ∧
        (t.chan g).guardWait = [] ∧ (t.chan g).causes.getLsbD 8 = true ∧ ((s.chan g).causes.getLsbD 8 = false → (t.chan g).latch = true))
    ∧ (s.senses n 14 = true → (s.chan n).rng.guard = 0 → (s.chan n).plg.state.toNat ≤ 4 → (s.chan n).rng.unplugN ≤ (s.chan n).plg.runLength
        0 3 → ∃ t, exec (.plugTest n .shortVf) s = .next t ∧ (t.chan n).plg.state = 5#3 ∧ (t.chan n).plg.r = 0xFFFF#16 ∧ (t.chan
        n).plg.sinkOff = true ∧ (t.chan n).plg.unplugs = (s.chan n).plg.unplugs ∧ (t.chan n).live.getLsbD 23 = true ∧ (t.chan
        n).live.getLsbD 21 = false ∧ (t.chan n).live.getLsbD 22 = false ∧ t.recd = s.recd ∧ KeepsHost t s ∧ KeepsUnits t s ∧ t.wheels
        = s.wheels ∧ t.flt = s.flt ∧ t.rpl = s.rpl ∧ t.pair = s.pair ∧ t.cells = s.cells ∧ (∀ m, m ≠ n → t.chan m = s.chan m))
    ∧ (∀ (o : PlugObs), s.senses n 14 = true → o ≠ .shortVf → ∃ t, exec (.plugTest n o) s = .next t ∧ (t.chan n).plg.sinkOff = false ∧ (t.chan
        n).plg.since = (if (t.chan n).plg.state = (s.chan n).plg.state then (s.chan n).plg.since else s.clock) ∧ ((t.chan n).plg.state ≠ 4#3 →
        (t.chan n).live.getLsbD 21 = false) ∧ ((t.chan n).plg.state = 4#3 → (t.chan n).live.getLsbD 21 = true))
    ∧ (s.senses n 14 = true → (s.chan n).plg.state = 5#3 → (s.chan n).rng.unplugN ≤ (s.chan n).plg.runLength 0 3 → (s.chan n).rng.unplugN ≤
        (s.chan n).plg.runLength 1 3 → ∃ t, exec (.plugTest n .shortGnd) s = .next t ∧ (t.chan n).plg.state = 5#3 ∧ (t.chan n).live.getLsbD
        22 = true ∧ (t.chan n).live.getLsbD 23 = false ∧ KeepsHost t s ∧ KeepsUnits t s)
    ∧ (∀ (r : Nat), s.senses n 14 = true → (s.chan n).rng.guard = 0 → (s.chan n).plg.state = 2#3 → (s.chan n).rng.loopMin * 10 ≤ r → r ≤
        (s.chan n).rng.loopMax * 10 → ∃ t, exec (.plugTest n (.closed r)) s = .next t ∧ (t.chan n).plg.state = 3#3 ∧ (t.chan n).plg.r =
        satTo 16 r ∧ (t.chan n).plg.stableAt = s.clock ∧ (t.chan n).plg.fromState = 2#3 ∧ (∀ m, m ≠ 21 → m ≠ 22 → m ≠ 23 → (t.chan n).live.getLsbD m = (s.chan n).live.getLsbD m) ∧ t.recd = s.recd ∧ KeepsHost t s ∧ KeepsUnits t s ∧ t.wheels = s.wheels ∧ t.flt = s.flt ∧ t.rpl = s.rpl ∧ t.pair =
        s.pair ∧ t.cells = s.cells ∧ (∀ m, m ≠ n → t.chan m = s.chan m))
    ∧ (∀ (r away : Nat), s.senses n 14 = true → (s.chan n).rng.guard = 0 → (s.chan n).plg.awayAt = some away → (s.chan n).plg.state = 3#3 → (s.chan n).rng.loopMin * 10 ≤ r → r ≤
        (s.chan n).rng.loopMax * 10 → (s.chan n).plg.stableAt + (s.chan n).rng.replugStable * 100000 ≤ s.clock → ∃ t, exec (.plugTest n
        (.closed r)) s = .next t ∧ (t.chan n).plg.state = 1#3 ∧ (t.chan n).live.getLsbD 29 = false ∧ (t.chan n).live.getLsbD 11 = false
        ∧ (t.chan n).plg.awayAt = none ∧ t.recd = (s.event 0x12 9 .internal (word n.1) (satTo 32 ((s.clock - away) / 1000))).recd ∧ KeepsHost t s ∧
        KeepsUnits t s ∧ t.wheels = s.wheels ∧ t.flt = s.flt ∧ t.rpl = s.rpl ∧ t.pair = s.pair ∧ t.cells = s.cells ∧ (∀ m, m ≠ n →
        t.chan m = s.chan m))
    ∧ (∀ (r : Nat) (g : Fin 16), s.senses n 14 = true → (s.chan n).plg.state = 3#3 → (s.chan n).plg.fromState = 2#3 → (s.chan
        n).rng.plgRearm = true → (s.chan n).rng.loopMin * 10 ≤ r → r ≤ (s.chan n).rng.loopMax * 10 → (s.chan n).plg.stableAt + (s.chan
        n).rng.replugStable * 100000 ≤ s.clock → (s.chan n).rng.guard.testBit (g.1 % 8) = true → ringOf g = ringOf n → g ≠ n → (s.chan
        g).causes = 0x100#16 → (s.chan g).latch = true → ∃ t, exec (.plugTest n (.closed r)) s = .next t ∧ (t.chan n).plg.state = 1#3 ∧
        (t.chan g).causes.getLsbD 8 = false)
    ∧ (∀ (o : PlugObs), s.senses n 14 = false → exec (.plugTest n o) s = .next s)
    ∧ (∀ (m : Fin 16) (r k : Nat), s.senses n 14 = true → (s.chan n).plg.state = 1#3 → (s.chan n).rng.loopMin * 10 ≤ r → r ≤ (s.chan
        n).rng.loopMax * 10 → s.guardees n = [m] → m ≠ n → (s.chan m).guardWait = [(5, k)] → (s.chan m).live.getLsbD 5 = false → ∃ t, exec
        (.plugTest n (.closed r)) s = .next t ∧ (k ≤ 1 → (t.chan m).guardWait = [] ∧ (t.chan m).live.getLsbD 5 = true) ∧ (1 < k → (t.chan
        m).guardWait = [(5, k - 1)] ∧ (t.chan m).live.getLsbD 5 = false))
    ∧ (∀ (e : Env) (w : Word), s.hostReady e opWrite = true → (s.chan n).cfg.func = 13 → (s.ring (ringOf n)).link = true → ∃ t, exec
        (.reseed e n w) s = .next t ∧ t.answers e .ok 0#32 [] = true ∧ t.ring (ringOf n) =
        { s.ring (ringOf n) with cmdq := (s.ring (ringOf n)).cmdq ++ [(.reseed n, 0)] } ∧ t.recd = (s.event 0x12 5 (portOrigin e.port) (word
        n.1) 0#32).recd ∧ (∀ y ∈ [RingId.a, RingId.b], y ≠ ringOf n → t.ring y = s.ring y) ∧ t.chans = s.chans ∧ RowFrame t s e ∧ t.time =
        s.time ∧ t.shadows = s.shadows ∧ t.wheels = s.wheels ∧ t.flt = s.flt ∧ t.svc = s.svc ∧ t.img = s.img ∧ t.fab = s.fab ∧ t.cells =
        s.cells ∧ t.adcs = s.adcs ∧ t.filt = s.filt ∧ t.rpl = s.rpl ∧ t.chks = s.chks ∧ t.pair = s.pair ∧ t.bg = s.bg ∧ t.pwr = s.pwr ∧
        t.freeCtr = s.freeCtr)
    ∧ (∀ (k : Nat) (q : List (RingCmd × Nat)), (s.ring (ringOf n)).downOpen = true → (s.ring (ringOf n)).cmdq = (.reseed n, k) :: q → (s.chan
        n).rng.func = 13 → ∃ t, exec (.linkCommandFrame (ringOf n) true) s = .next t ∧ (t.ring (ringOf n)).cmdq = q ∧ (t.chan n).tch =
        { (s.chan n).tch with base8 := (s.chan n).tch.c.toNat * 256, seeded := false, seedCount := 0, seedSum := 0, touched := false, onRun := 0, offRun := 0, negRun := 0, held := 0 }
        ∧ (t.ring (ringOf n)).upq = (s.ring (ringOf n)).upq ++ (if (s.chan n).tch.touched then [.change n false false s.tick 0#32] else
        []) ∧ (∀ m, m ≠ n → t.chan m = s.chan m) ∧ KeepsHost t s ∧ KeepsUnits t s ∧ t.recd = s.recd ∧ t.flt = s.flt)
    ∧ (∀ (e : Env) (w : Word), s.hostReady e opWrite = true → (s.chan n).cfg.func ≠ 13 → (s.chan n).cfg.func ≠ 14 → (s.chan n).cfg.func ≠ 0 → ∃ t, exec (.reseed e
        n w) s = .next t ∧ t.answers e .notNow 0#32 [] = true ∧ t.chans = s.chans ∧ t.rings = s.rings ∧ t.recd = s.recd ∧ RowFrame t s
        e)

/-- ROTATION_EVENT, SLICE_HANDOVER, SLICE_CALIBRATION_DONE, ADC_LATE, REF_SETTLED, REF_FAULT: the spare, its calibration, late results and
the reference (R277, R278, R279, R281, R282, R286). That failed checks of the spare and of a working slice come as
SLICE_CALIBRATION_DONE is log entry 110 (DEDUCED). -/
def Obligations.AdcSlicesRotateAndFail : Prop :=
  ∀ (x : RingId) (s : State),
    ((s.ring x).converts = true → (s.adc x).rotcfg ≠ 0#8 → (s.ring x).rmode = .run → (s.adc x).rotNext ≤ s.tick → (s.adc x).slices.any
        (·.failed) = false → ∃ t, exec (.rotationEvent x) s = .next t ∧ (t.adc x) =
        { (s.adc x) with rotNext := (t.adc x).rotNext, handDue := true, postponed := !(s.adc x).handoverReady, postponedAt := if (s.adc x).postponed then (s.adc x).postponedAt else s.tick }
        ∧ s.tick < (t.adc x).rotNext ∧ (t.adc x).rotNext ≤ s.tick + (s.adc x).rotcfg.toNat * 1000000 ∧ ((t.adc x).rotNext - (s.adc
        x).rotNext) % ((s.adc x).rotcfg.toNat * 1000000) = 0 ∧ (∀ y ∈ [RingId.a, RingId.b], y ≠ x → t.adc y = s.adc y) ∧ KeepsHost t s ∧ t.svc = s.svc ∧ t.img = s.img ∧ t.fab = s.fab ∧
        t.filt = s.filt ∧ t.chks = s.chks ∧ t.bg = s.bg ∧ t.pwr = s.pwr ∧ t.freeCtr = s.freeCtr ∧ t.pair = s.pair ∧ t.cells = s.cells ∧
        t.flt = s.flt ∧ t.chans = s.chans ∧ t.rings = s.rings ∧ t.recd = s.recd ∧ t.wheels = s.wheels ∧ t.rpl = s.rpl)
    ∧ (s.tick < (s.adc x).rotNext → exec (.rotationEvent x) s = .next s)
    ∧ (∀ (k old : Fin 5), s.tick % 64 = 0 → (s.ring x).converts = true → (s.ring x).rmode = .run → (s.adc x).handDue = true → (s.adc
        x).settled = true → (s.adc x).spare = some k → ((s.adc x).slices[k.1]).calValid = true → (s.adc x).pos[(s.adc x).nextPos.1] =
        some old → s.bg.behind = 0#8 → (s.slot (hostSlot 19)).real = 0#32 → ∃ t, exec (.sliceHandover x) s = .next t ∧ (t.adc x).pos =
        (s.adc x).pos.set (s.adc x).nextPos.1 (some k) ∧ (((t.adc x).slices[k.1]).role = if k = old then .calibrating else .working) ∧
        ((t.adc x).slices[old.1]).role = .calibrating ∧ ((t.adc x).slices[old.1]).calAt = s.clock ∧ (t.adc x).nextPos = (s.adc
        x).nextPos + 1 ∧ (t.adc x).events = (s.adc x).events + 1#16 ∧ (t.adc x).handDue = false ∧ (∀ i ∈ (s.adc x).entriesAt (s.adc
        x).nextPos, i ∈ (t.adc x).calNext) ∧ (t.adc x).entries = (s.adc x).entries ∧ (t.adc x).place = (s.adc x).place ∧ (∀ y ∈
        [RingId.a, RingId.b], y ≠ x → t.adc y = s.adc y) ∧ t.chans = s.chans ∧ t.rings = s.rings ∧ t.recd = s.recd ∧ t.filt = s.filt ∧
        t.flt = s.flt)
    ∧ (s.tick % 64 = 0 → (s.ring x).converts = true → (s.ring x).rmode = .run → (s.adc x).handDue = true → (s.adc x).settled = false → ∃ t,
        exec (.sliceHandover x) s = .next t ∧ (t.adc x) = { (s.adc x) with postponed := true, postponedAt := if (s.adc x).postponed then (s.adc x).postponedAt else s.tick } ∧ (∀ y ∈ [RingId.a, RingId.b], y ≠ x →
        t.adc y = s.adc y) ∧ KeepsHost t s ∧ t.svc = s.svc ∧ t.img = s.img ∧ t.fab = s.fab ∧ t.filt = s.filt ∧ t.chks = s.chks ∧ t.bg =
        s.bg ∧ t.pwr = s.pwr ∧ t.freeCtr = s.freeCtr ∧ t.pair = s.pair ∧ t.cells = s.cells ∧ t.flt = s.flt ∧ t.chans = s.chans ∧ t.rings
        = s.rings ∧ t.recd = s.recd ∧ t.wheels = s.wheels ∧ t.rpl = s.rpl)
    ∧ (∀ (k : Fin 5) (cal : Word), (s.ring x).converts = true → ((s.adc x).slices[k.1]).role = .calibrating → ((s.adc x).slices[k.1]).waiting = false → ((s.adc
        x).slices[k.1]).calAt + 12010 ≤ s.clock → ∃ t, exec (.sliceCalibrationDone x k true cal) s = .next t ∧ (t.adc x) =
        { (s.adc x) with slices := (s.adc x).slices.set k.1 { (s.adc x).slices[k.1] with role := .spare, calValid := true, cal := cal }, calStore := (s.adc x).calStore.set k.1 cal }
        ∧ (∀ y ∈ [RingId.a, RingId.b], y ≠ x → t.adc y = s.adc y) ∧ KeepsHost t s ∧ t.svc = s.svc ∧ t.img = s.img ∧ t.fab = s.fab ∧
        t.filt = s.filt ∧ t.chks = s.chks ∧ t.bg = { s.bg with calibGen := s.bg.calibGen + 1 } ∧ t.pwr = s.pwr ∧ t.freeCtr = s.freeCtr ∧ t.pair = s.pair ∧ t.cells = s.cells ∧
        t.flt = s.flt ∧ t.chans = s.chans ∧ t.rings = s.rings ∧ t.recd = s.recd ∧ t.wheels = s.wheels ∧ t.rpl = s.rpl)
    ∧ (∀ (k : Fin 5) (cal : Word), (s.ring x).converts = true → ((s.adc x).slices[k.1]).role = .calibrating → ((s.adc x).slices[k.1]).waiting = false → ((s.adc
        x).slices[k.1]).calAt + 12010 ≤ s.clock → ((s.adc x).slices[k.1]).retried = false → ∃ t, exec (.sliceCalibrationDone x k false
        cal) s = .next t ∧ (t.adc x) =
        { (s.adc x) with slices := (s.adc x).slices.set k.1 { (s.adc x).slices[k.1] with role := .calibrating, calValid := false, retried := true, waiting := !(s.adc x).settled, calAt := s.clock }, errRetry := satInc (s.adc x).errRetry }
        ∧ (∀ y ∈ [RingId.a, RingId.b], y ≠ x → t.adc y = s.adc y) ∧ KeepsHost t s ∧ t.svc = s.svc ∧ t.img = s.img ∧ t.fab = s.fab ∧
        t.filt = s.filt ∧ t.chks = s.chks ∧ t.bg = s.bg ∧ t.pwr = s.pwr ∧ t.freeCtr = s.freeCtr ∧ t.pair = s.pair ∧ t.cells = s.cells ∧
        t.flt = s.flt ∧ t.chans = s.chans ∧ t.rings = s.rings ∧ t.recd = s.recd ∧ t.wheels = s.wheels ∧ t.rpl = s.rpl)
    ∧ (∀ (k : Fin 5) (cal : Word), (s.ring x).converts = true → ((s.adc x).slices[k.1]).role = .calibrating → ((s.adc x).slices[k.1]).waiting = false → ((s.adc
        x).slices[k.1]).calAt + 12010 ≤ s.clock → ((s.adc x).slices[k.1]).retried = true → ∃ t, exec (.sliceCalibrationDone x k false
        cal) s = .next t ∧ ((t.adc x).slices[k.1]).role = .out ∧ ((t.adc x).slices[k.1]).failed = true ∧ (t.adc x).sticky = (s.adc
        x).sticky ||| 2#5 ∧ (t.adc x).pos = (s.adc x).pos ∧ ((s.ring x).reports.length < 32 → (t.ring x).reports = (s.ring x).reports ++
        [⟨ringSlot x 12, 0#8, true, 0#32, s.tick, s.clock, !(s.ring x).link || (s.ring x).ringLost⟩]) ∧ (∀ y ∈ [RingId.a, RingId.b], y
        ≠ x → t.adc y = s.adc y) ∧ KeepsHost t s ∧ t.svc = s.svc ∧ t.img = s.img ∧ t.fab = s.fab ∧ t.chks = s.chks ∧ t.pwr = s.pwr ∧ t.freeCtr = s.freeCtr ∧ t.cells = s.cells ∧
        t.bg = { s.bg with behind := s.bg.behind &&& ~~~ (1#8 <<< (rotTask x).1) } ∧ ((s.bg.behind &&& ~~~ (1#8 <<< (rotTask x).1) ≠ 0#8 ∨ (s.slot (hostSlot
        19)).real = 0#32) → t.pair = s.pair ∧ t.flt = s.flt ∧ t.chans = s.chans ∧ t.recd = s.recd ∧ t.wheels = s.wheels ∧ t.filt = s.filt ∧ t.rpl = s.rpl))
    ∧ (∀ (k : Fin 5) (cal : Word), (s.ring x).converts = true → ((s.adc x).slices[k.1]).role = .spare → ∃ t, exec (.sliceCalibrationDone x k
        false cal) s = .next t ∧ ((t.adc x).slices[k.1]).role = .calibrating ∧ ((t.adc x).slices[k.1]).calValid = false ∧ ((t.adc
        x).slices[k.1]).calAt = s.clock ∧ (t.adc x).errRetry = satInc (s.adc x).errRetry ∧ (t.adc x).pos = (s.adc x).pos ∧ t.rings = s.rings)
    ∧ (∀ (k : Fin 5) (cal : Word), (s.ring x).converts = true → ((s.adc x).slices[k.1]).role = .working → ∃ t, exec (.sliceCalibrationDone x
        k false cal) s = .next t ∧ ((t.adc x).slices[k.1]).role = .out ∧ ((t.adc x).slices[k.1]).failed = true ∧ (t.adc x).sticky = (s.adc
        x).sticky ||| 2#5 ∧ (t.adc x).pos = (s.adc x).pos ∧ t.chans = s.chans)
    ∧ (∀ (k : Fin 5) (cal : Word) (pass : Bool), ((s.adc x).slices[k.1]).role = .calibrating → s.clock < ((s.adc x).slices[k.1]).calAt + 12010
        → exec (.sliceCalibrationDone x k pass cal) s = .next s)
    ∧ (∀ (i : Fin 64) (p : Fin 4) (o : Fin 64) (k : Fin 5), (s.adc x).place[i.1] = some (p, o) → (s.adc x).pos[p.1] = some k → (s.ring
        x).converts = true → isConv (s.adc x).entries[i.1] = false → ((s.adc x).slices[k.1]).late = [] → ∃ t, exec (.adcLate x i) s =
        .next t ∧ ((t.adc x) =
        { (s.adc x) with slices := (s.adc x).slices.set k.1 { (s.adc x).slices[k.1] with late := [s.clock] }, errLate := satInc (s.adc x).errLate, ovrNext := if p ∈ (s.adc x).ovrNext then (s.adc x).ovrNext else (s.adc x).ovrNext ++ [p], sticky := (s.adc x).sticky ||| 1#5 })
        ∧ ((s.ring x).reports.length < 32 → (t.ring x).reports = (s.ring x).reports ++ [⟨ringSlot x 11, 0#8, true, 0#32, s.tick,
        s.clock, !(s.ring x).link || (s.ring x).ringLost⟩]) ∧ (∀ y ∈ [RingId.a, RingId.b], y ≠ x → t.adc y = s.adc y) ∧ KeepsHost t s ∧
        t.svc = s.svc ∧ t.img = s.img ∧ t.fab = s.fab ∧ t.chks = s.chks ∧ t.bg = s.bg ∧ t.pwr = s.pwr ∧ t.freeCtr = s.freeCtr ∧ t.pair =
        s.pair ∧ t.cells = s.cells ∧ t.flt = s.flt ∧ t.chans = s.chans ∧ t.recd = s.recd ∧ t.wheels = s.wheels ∧ t.filt = s.filt ∧ t.rpl
        = s.rpl)
    ∧ (∀ (i : Fin 64), (s.adc x).place[i.1] = none → exec (.adcLate x i) s = .next s)
    ∧ (∀ (u : Nat), (s.adc x).settleAt = some u → u ≤ s.clock → ∃ t, exec (.refSettled x) s = .next t ∧ ((t.adc x) =
        { (s.adc x) with settled := true, settleAt := none, slices := (s.adc x).slices.map (fun c => if c.role = .calibrating && c.waiting then { c with waiting := false, retried := false, calAt := s.clock } else c) })
        ∧ (∀ y ∈ [RingId.a, RingId.b], y ≠ x → t.adc y = s.adc y) ∧ KeepsHost t s ∧ t.svc = s.svc ∧ t.img = s.img ∧ t.fab = s.fab ∧
        t.filt = s.filt ∧ t.chks = s.chks ∧ t.bg = s.bg ∧ t.pwr = s.pwr ∧ t.freeCtr = s.freeCtr ∧ t.pair = s.pair ∧ t.cells = s.cells ∧
        t.flt = s.flt ∧ t.chans = s.chans ∧ t.rings = s.rings ∧ t.recd = s.recd ∧ t.wheels = s.wheels ∧ t.rpl = s.rpl)
    ∧ (∀ (u : Nat), (s.adc x).settleAt = some u → s.clock < u → exec (.refSettled x) s = .next s)
    ∧ (∀ (v clock : Nat) (told : Bool) (a : Adc), refSel a.refcfg = 1 → (a.refCheck v clock told).extMeas = (if told then BitVec.ofNat
        16 v else a.extMeas) ∧ ((a.refCheck v clock told).refOffAt.isSome = decide (extMv a.refcfg < 10 * gap v (extMv a.refcfg * 10))) ∧
        ((a.refCheck v clock told).refInAt.isSome = decide (20 * gap v (extMv a.refcfg * 10) ≤ extMv a.refcfg)))
    ∧ (∀ (off : Bool), (if off then (s.adc x).refOffAt else (s.adc x).refInAt) = none → exec (.refFault x off) s = .next s)
    ∧ (∀ (u : Nat), (s.adc x).refOffAt = some u → u + 1000 ≤ s.clock → (s.ring x).converts = true → refSel (s.adc x).refcfg = 1 → (s.adc
        x).refFault = false → ∃ t, exec (.refFault x true) s = .next t
        ∧ (t.adc x) = { (s.adc x) with refFault := true, sticky := (s.adc x).sticky ||| 8#5 } ∧ ((s.ring x).reports.length < 32 →
        (t.ring x).reports = (s.ring x).reports ++ [⟨ringSlot x 14, 0#8, true, 0#32, s.tick, s.clock, !(s.ring x).link || (s.ring
        x).ringLost⟩]) ∧ (∀ y ∈ [RingId.a, RingId.b], y ≠ x → t.adc y = s.adc y) ∧ KeepsHost t s ∧ t.svc = s.svc ∧ t.img = s.img ∧ t.fab
        = s.fab ∧ t.chks = s.chks ∧ t.bg = s.bg ∧ t.pwr = s.pwr ∧ t.freeCtr = s.freeCtr ∧ t.pair = s.pair ∧ t.cells = s.cells ∧ t.flt =
        s.flt ∧ t.chans = s.chans ∧ t.recd = s.recd ∧ t.wheels = s.wheels ∧ t.filt = s.filt ∧ t.rpl = s.rpl)
    ∧ (∀ (u : Nat), (s.adc x).refInAt = some u → u + 1000 ≤ s.clock → (s.ring x).converts = true → refSel (s.adc x).refcfg = 1 → (s.adc
        x).refFault = true → (s.ring x).reports.length < 32 → ∃ t, exec
        (.refFault x false) s = .next t ∧ (t.adc x) = { (s.adc x) with refFault := false } ∧ (t.ring x).reports = (s.ring x).reports ++
        [⟨ringSlot x 14, 0#8, false, 0#32, s.tick, s.clock, !(s.ring x).link || (s.ring x).ringLost⟩] ∧ (∀ y ∈ [RingId.a, RingId.b], y
        ≠ x → t.adc y = s.adc y) ∧ KeepsHost t s ∧ t.svc = s.svc ∧ t.img = s.img ∧ t.fab = s.fab ∧ t.chks = s.chks ∧ t.bg = s.bg ∧ t.pwr
        = s.pwr ∧ t.freeCtr = s.freeCtr ∧ t.pair = s.pair ∧ t.cells = s.cells ∧ t.flt = s.flt ∧ t.chans = s.chans ∧ t.recd = s.recd ∧
        t.wheels = s.wheels ∧ t.filt = s.filt ∧ t.rpl = s.rpl)

/-- ADC_ENTRY_WRITE, ADC_REFCFG_WRITE, ADC_ROTCFG_WRITE: changes of the round and reference wait for a frame boundary, the period acts at
once (R127, R271, R272, R277, R279, R284, R288). Which answer comes where several refusals apply (REFUSED, HELD, NOT_NOW of an
activation or of REPLAY mode, JOURNAL_FULL) is log entry 10, the model's choice. -/
def Obligations.AdcRegistersAreWritten : Prop :=
  ∀ (e : Env) (x : RingId) (s : State),
    (∀ (i : Fin 64) (w : Word), s.hostReady e opWrite = true → s.recd.journal.length < 2047 → s.img.actPending = false → lowest
        (s.entryBad x i w) = none → isConv w = false → ∃ t, exec (.adcEntryWrite e x i w) s = .next t ∧ t.answers e .ok s.recd.seqNext
        [] = true ∧ (t.adc x) = { (s.adc x) with entPend := (s.adc x).entPend ++ [(i, w &&& 0x000703FF#32)] } ∧
        ((s.ring x).link = true → (t.ring x).cmdq = (s.ring x).cmdq ++ [(.adcEntry i (w &&& 0x000703FF#32), 0)]) ∧ (∀ y ∈ [RingId.a,
        RingId.b], y ≠ x → t.adc y = s.adc y) ∧ t.img.diverged = true ∧ t.img.divcnt = satInc s.img.divcnt ∧ t.recd.journal =
        s.recd.journal ++ [s.journalRecord 1 (portOrigin e.port) (word (Reg.addrNat (.adcEntry x i))) (w)] ∧ RowFrame t s e ∧ t.chans =
        s.chans ∧ t.filt = s.filt ∧ t.time = s.time ∧ t.shadows = s.shadows ∧ t.wheels = s.wheels ∧ t.flt = s.flt ∧ t.svc = s.svc ∧
        t.fab = s.fab ∧ t.cells = s.cells ∧ t.rpl = s.rpl ∧ t.chks = s.chks ∧ t.bg = s.bg ∧ t.pwr = s.pwr ∧ t.freeCtr = s.freeCtr)
    ∧ (∀ (i : Fin 64) (w : Word), s.hostReady e opWrite = true → s.recd.journal.length < 2047 → s.img.actPending = false → lowest
        (s.entryBad x i w) = none → isConv w = true → s.heldByOther 3 (ringIx x) i.1 1 (entCh w) = none → ∃ t, exec (.adcEntryWrite e x
        i w) s = .next t ∧ t.answers e .ok s.recd.seqNext [] = true ∧ (t.adc x) =
        { (s.adc x) with entPend := (s.adc x).entPend ++ [(i, w &&& 0x000703FF#32)] } ∧ ((s.ring x).link = true → (t.ring x).cmdq = (s.ring
        x).cmdq ++ [(.adcEntry i (w &&& 0x000703FF#32), 0)]) ∧ (∃ c ∈ t.img.claims, c.kind = 3 ∧ c.ring =
        ringIx x ∧ c.index = i.1) ∧ (∀ y ∈ [RingId.a, RingId.b], y ≠ x → t.adc y = s.adc y) ∧ t.img.diverged = true ∧ t.img.divcnt =
        satInc s.img.divcnt ∧ t.recd.journal = s.recd.journal ++ [s.journalRecord 1 (portOrigin e.port) (word (Reg.addrNat (.adcEntry x
        i))) (w)] ∧ RowFrame t s e ∧ t.chans = s.chans ∧ t.filt = s.filt ∧ t.time = s.time ∧ t.shadows = s.shadows ∧ t.wheels = s.wheels
        ∧ t.flt = s.flt ∧ t.svc = s.svc ∧ t.fab = s.fab ∧ t.cells = s.cells ∧ t.rpl = s.rpl ∧ t.chks = s.chks ∧ t.bg = s.bg ∧ t.pwr =
        s.pwr ∧ t.freeCtr = s.freeCtr)
    ∧ (∀ (i : Fin 64) (w : Word) (b : Nat), s.hostReady e opWrite = true → (s.entryBad x i w).any (fun p => p.1 && p.2 = b) = true → (∀
        p ∈ s.entryBad x i w, p.1 = true → b ≤ p.2) → ∃ t, exec (.adcEntryWrite e x i w) s = .next t ∧ t.answers e .refused (word b) []
        = true ∧ t.chans = s.chans ∧ t.rings = s.rings ∧ t.recd = s.recd ∧ t.img = s.img ∧ t.adcs = s.adcs ∧ t.filt = s.filt ∧ RowFrame
        t s e ∧ t.time = s.time ∧ t.shadows = s.shadows ∧ t.wheels = s.wheels ∧ t.flt = s.flt ∧ t.svc = s.svc ∧ t.fab = s.fab ∧ t.cells
        = s.cells ∧ t.rpl = s.rpl ∧ t.chks = s.chks ∧ t.bg = s.bg ∧ t.pwr = s.pwr ∧ t.freeCtr = s.freeCtr)
    ∧ (∀ (w : Word), s.hostReady e opWrite = true → s.recd.journal.length < 2047 → s.img.actPending = false → refSel w ≤ 1 → 1 ≤ extWait
        w → 2000 ≤ extMv w → extMv w ≤ 3000 → ∃ t, exec (.adcRefcfgWrite e x w) s = .next t ∧ t.answers e .ok s.recd.seqNext [] = true ∧
        (t.adc x) = { (s.adc x) with refPend := some (w &&& 0x0FFFFF03#32) } ∧ ((s.ring x).link = true → (t.ring x).cmdq = (s.ring x).cmdq ++
        [(.adcRef (w &&& 0x0FFFFF03#32), 0)]) ∧ (∀ y ∈ [RingId.a, RingId.b], y ≠ x → t.adc y = s.adc y) ∧
        t.img.diverged = true ∧ t.img.divcnt = satInc s.img.divcnt ∧ t.recd.journal = s.recd.journal ++ [s.journalRecord 1 (portOrigin
        e.port) (word (Reg.addrNat (.adc x .refcfg))) (w)] ∧ RowFrame t s e ∧ t.chans = s.chans ∧ t.filt = s.filt ∧ t.time = s.time ∧
        t.shadows = s.shadows ∧ t.wheels = s.wheels ∧ t.flt = s.flt ∧ t.svc = s.svc ∧ t.fab = s.fab ∧ t.cells = s.cells ∧ t.rpl = s.rpl
        ∧ t.chks = s.chks ∧ t.bg = s.bg ∧ t.pwr = s.pwr ∧ t.freeCtr = s.freeCtr)
    ∧ (∀ (w : Word), s.hostReady e opWrite = true → refSel w ≤ 1 → extWait w = 0 → ∃ t, exec (.adcRefcfgWrite e x w) s = .next t ∧
        t.answers e .refused (8#32) [] = true ∧ t.chans = s.chans ∧ t.rings = s.rings ∧ t.recd = s.recd ∧ t.img = s.img ∧ t.adcs =
        s.adcs ∧ t.filt = s.filt ∧ RowFrame t s e ∧ t.time = s.time ∧ t.shadows = s.shadows ∧ t.wheels = s.wheels ∧ t.flt = s.flt ∧
        t.svc = s.svc ∧ t.fab = s.fab ∧ t.cells = s.cells ∧ t.rpl = s.rpl ∧ t.chks = s.chks ∧ t.bg = s.bg ∧ t.pwr = s.pwr ∧ t.freeCtr =
        s.freeCtr)
    ∧ (∀ (w : Word), s.hostReady e opWrite = true → s.recd.journal.length < 2047 → s.img.actPending = false → ∃ t, exec (.adcRotcfgWrite
        e x w) s = .next t ∧ t.answers e .ok s.recd.seqNext [] = true ∧ (t.adc x) =
        { (s.adc x) with rotPend := some (BitVec.ofNat 8 (fld w 0 8)) } ∧ ((s.ring x).link = true → (t.ring x).cmdq = (s.ring x).cmdq ++
        [(.adcRot (BitVec.ofNat 8 (fld w 0 8)) s.tick, 0)]) ∧ (∀ y ∈ [RingId.a, RingId.b],
        y ≠ x → t.adc y = s.adc y) ∧ t.img.diverged = true ∧ t.img.divcnt = satInc s.img.divcnt ∧ t.recd.journal = s.recd.journal ++
        [s.journalRecord 1 (portOrigin e.port) (word (Reg.addrNat (.adc x .rotcfg))) (w)] ∧ RowFrame t s e ∧ t.chans = s.chans ∧ t.filt
        = s.filt ∧ t.time = s.time ∧ t.shadows = s.shadows ∧ t.wheels = s.wheels ∧ t.flt = s.flt ∧ t.svc = s.svc ∧ t.fab = s.fab ∧
        t.cells = s.cells ∧ t.rpl = s.rpl ∧ t.chks = s.chks ∧ t.bg = s.bg ∧ t.pwr = s.pwr ∧ t.freeCtr = s.freeCtr)
    ∧ (∀ (i : Fin 64) (w : Word) (k : Nat) (q : List (RingCmd × Nat)), (s.ring x).downOpen = true → (s.ring x).cmdq = (.adcEntry i w, k) :: q
        → exec (.linkCommandFrame x true) s = .next ((s.modRing x (fun r => { r with cmdq := q })).modAdc x (fun a =>
        { a with entCome := a.entCome ++ [(i, w)] })))
    ∧ (∀ (w : Word) (k : Nat) (q : List (RingCmd × Nat)), (s.ring x).downOpen = true → (s.ring x).cmdq = (.adcRef w, k) :: q → exec
        (.linkCommandFrame x true) s = .next ((s.modRing x (fun r => { r with cmdq := q })).modAdc x (fun a =>
        { a with refCome := some w })))
    ∧ (∀ (v : Byte) (at_ k : Nat) (q : List (RingCmd × Nat)), (s.ring x).downOpen = true → (s.ring x).cmdq = (.adcRot v at_, k) :: q →
        (s.adc x).rotPend = some v → s.tick < at_ + v.toNat * 1000000 → exec (.linkCommandFrame x true) s = .next ((s.modRing x (fun r =>
        { r with cmdq := q })).modAdc x (fun a => { a with rotcfg := v, rotPend := none, rotNext := at_ + v.toNat * 1000000 })))
    ∧ (∀ (v : Byte) (at_ k : Nat) (q : List (RingCmd × Nat)), (s.ring x).downOpen = true → (s.ring x).cmdq = (.adcRot v at_, k) :: q → v ≠
        0#8 → ∃ t, exec (.linkCommandFrame x true) s = .next t ∧ (t.adc x).rotcfg = v ∧ s.tick < (t.adc x).rotNext ∧ at_ < (t.adc
        x).rotNext ∧ ((t.adc x).rotNext - at_) % (v.toNat * 1000000) = 0 ∧ (t.adc x).entries = (s.adc x).entries ∧ t.chans = s.chans)

/-- CONVERSION_RESULT and ADC_FRAME_BOUNDARY: a result is scaled and becomes the value or feeds the chain; boundaries apply what waits (R18,
R226, R271, R272, R276, R284, R289, R296, R299, R300, R301, R309). That a result on a down link is lost and the next is OVR is log entry
108 (DESIGN CHOICE), the rounding of a scaled value log entry 76, and that a result waits behind an older entry of its channel log entry
129 (DEDUCED). -/
def Obligations.ConversionsReachTheValues : Prop :=
  ∀ (s : State),
    (∀ (x : RingId) (i : Fin 64) (n : Fin 16) (code : BitVec 12), (s.ring x).converts = true → ((s.adc x).place[i.1]).isSome = true →
        s.sequences x = true → (s.ring x).link = true → (s.ring x).ringLost = false → (s.ring x).ringBeat = false → entKind (s.adc x).entries[i.1] = 0 → entCh (s.adc x).entries[i.1] = n.1 → (s.chan n).latch = false →
        (s.chan n).func = 9 → (s.chan n).rng.func = 9 → (s.ring x).rstop = false → s.entryWaits n = false → bit s.rpl.cfg 0 = false → (s.chain n).en = false → s.convFlags x i false = 0
        → ∃ t, exec (.conversionResult x i code false false) s = .next t ∧ (t.chan n).an.meas = BitVec.ofInt 32 (divNearest
        (((code.toNat : Int) - 2048) * (24000000 / 2 ^ (s.chan n).cfg.range)) 4096) ∧ (t.chan n).an.measFlags = 1#4 ∧ (∀ m, m ≠ n →
        t.chan m = s.chan m) ∧ t.chain n = s.chain n ∧ t.adc x = (s.adc x).used i ∧ (∀ y ∈ [RingId.a, RingId.b], y ≠ x → t.adc y = s.adc
        y) ∧ KeepsHost t s ∧ t.svc = s.svc ∧ t.img = s.img ∧ t.fab = s.fab ∧ t.chks = s.chks ∧ t.bg = s.bg ∧ t.pwr = s.pwr ∧ t.rings =
        s.rings ∧ t.recd = s.recd ∧ t.wheels = s.wheels ∧ t.flt = s.flt ∧ t.filt = s.filt ∧ t.rpl = s.rpl ∧ t.pair = s.pair ∧ t.cells =
        s.cells ∧ t.freeCtr = s.freeCtr)
    ∧ (∀ (x : RingId) (i : Fin 64) (n : Fin 16) (code : BitVec 12) (full : Bool), (s.ring x).converts = true → ((s.adc
        x).place[i.1]).isSome = true → s.sequences x = true → (s.ring x).link = true → (s.ring x).ringLost = false → (s.ring x).ringBeat = false → entKind (s.adc x).entries[i.1] = 0 → entCh (s.adc x).entries[i.1] = n.1 →
        (s.chan n).latch = false → (s.chan n).func = 9 → (s.chan n).rng.func = 9 → (s.ring x).rstop = false → s.entryWaits n = false → bit s.rpl.cfg 0 = false → (s.chain n).en = false
        → (s.ring x).discards.length < 64 → ∃ t, exec (.conversionResult x i code true full) s = .next t ∧
        t.chan n = s.chan n ∧ (t.ring x).hostRx = satInc (s.ring x).hostRx ∧ (t.ring x).discards = (s.ring x).discards ++ [s.clock] ∧ (∀
        m, m ≠ n → t.chan m = s.chan m) ∧ t.adc x = ((s.adc x).used i).markOvr ((s.adc x).posOf i) ∧ (∀ y ∈ [RingId.a, RingId.b], y ≠ x → t.adc y = s.adc y) ∧
        KeepsHost t s ∧ t.svc = s.svc ∧ t.img = s.img ∧ t.fab = s.fab ∧ t.chks = s.chks ∧ t.bg = s.bg ∧ t.pwr = s.pwr ∧ t.recd = s.recd
        ∧ t.wheels = s.wheels ∧ t.flt = s.flt ∧ t.filt = s.filt ∧ t.rpl = s.rpl ∧ t.pair = s.pair ∧ t.cells = s.cells ∧ t.freeCtr =
        s.freeCtr)
    ∧ (∀ (x : RingId) (i : Fin 64) (n : Fin 16) (code : BitVec 12), (s.ring x).converts = true → ((s.adc x).place[i.1]).isSome = true →
        s.sequences x = true → (s.ring x).link = true → (s.ring x).ringLost = false → (s.ring x).ringBeat = false → entKind (s.adc x).entries[i.1] = 0 → entCh (s.adc x).entries[i.1] = n.1 → (s.chan n).latch = false →
        (s.chan n).func = 9 → (s.chan n).rng.func = 9 → (s.ring x).rstop = false → s.entryWaits n = false → bit s.rpl.cfg 0 = false → (s.chain n).en = true → (s.chain n).running = true
        → s.pwr.mode = .run → (s.chain n).k = 0 → (s.chain n).profile ≤ 5 → (s.chain n).hiEn = false → (s.chain n).loEn = false → ringOf
        n = x → s.entryIx n = some i → (∀ v : WheelId, (s.wheel v).names 1 n = false) → s.convFlags x i false = 0 → (s.chain n).inFlags
        = 0#3 → ∃ t, exec (.conversionResult x i code false false) s = .next t ∧ (t.chain n).value = BitVec.ofInt 32 (divNearest
        (((code.toNat : Int) - 2048) * (24000000 / 2 ^ (s.chan n).cfg.range)) 4096) ∧ (t.chan n).an.meas = BitVec.ofInt 32 (divNearest
        (((code.toNat : Int) - 2048) * (24000000 / 2 ^ (s.chan n).cfg.range)) 4096) ∧ (t.chain n).count = (s.chain n).count + 1 ∧
        (t.chain n).settleLeft = (s.chain n).settleLeft - 1 ∧ (t.chain n).delivered = true ∧ (t.chain n).valueSettle = decide ((s.chain
        n).settleLeft ≠ 0) ∧ ((t.chan n).an.measFlags = if (s.chain n).settleLeft = 0 then 1#4 else 9#4) ∧ (∀ m, m ≠ n → t.chain m =
        s.chain m) ∧ (∀ m, m ≠ n → t.chan m = s.chan m) ∧ t.adc x = (s.adc x).used i ∧ (∀ y ∈ [RingId.a, RingId.b], y ≠ x → t.adc y =
        s.adc y) ∧ KeepsHost t s ∧ t.svc = s.svc ∧ t.img = s.img ∧ t.fab = s.fab ∧ t.chks = s.chks ∧ t.bg = s.bg ∧ t.pwr = s.pwr ∧
        t.rings = s.rings ∧ t.recd = s.recd ∧ t.wheels = s.wheels ∧ t.flt = s.flt ∧ t.rpl = s.rpl ∧ t.pair = s.pair ∧ t.cells = s.cells
        ∧ t.freeCtr = s.freeCtr)
    ∧ (∀ (x : RingId) (i : Fin 64) (n : Fin 16) (code : BitVec 12) (lost full : Bool), (s.ring x).converts = true → ((s.adc
        x).place[i.1]).isSome = true → s.sequences x = true → (s.ring x).link = false → entKind (s.adc x).entries[i.1] = 0 → entCh (s.adc
        x).entries[i.1] = n.1 → (s.chan n).latch = false → isAi (s.chan n).func = true → (s.ring x).rstop = false → (s.chain n).en = false → exec (.conversionResult x i code lost full) s = .next ((s.modAdc x (fun _ => ((s.adc x).used i).markOvr ((s.adc x).posOf i))).classify n
        (scaleCode (s.chan n).rng code.toNat)))
    ∧ (∀ (x : RingId) (i : Fin 64) (code : BitVec 12) (lost full : Bool), (s.ring x).converts = true → ((s.adc x).place[i.1]).isSome = true →
        s.sequences x = true → entKind (s.adc x).entries[i.1] = 2 → ((s.ring x).link = true → (s.ring x).ringLost = false → (s.ring
        x).ringBeat = false ∧ (lost = true → (s.ring x).discards.length < 64)) → ∃ t, exec (.conversionResult x i code lost full) s = .next t ∧
        (t.adc x).calNext = ((s.adc x).used i).calNext ∧ ((s.ring x).link = true → (s.ring x).ringLost = false → lost = false → (t.adc
        x).ovrNext = ((s.adc x).used i).ovrNext ∧ (monSlot s.tick = 0 → (t.ring x).vf.isSome = true)) ∧ (((s.ring x).link = false ∨ (s.ring
        x).ringLost = true ∨ lost = true) → (t.adc x).ovrNext = (((s.adc x).used i).markOvr ((s.adc x).posOf i)).ovrNext ∧ (t.ring x).vf =
        (s.ring x).vf ∧ (t.ring x).temp = (s.ring x).temp ∧ (t.adc x).extMeas = (s.adc x).extMeas) ∧ (t.adc x).entries = (s.adc x).entries ∧
        (monSlot s.tick = 0 → t.chans = s.chans) ∧ (∀ m : Fin 16, 8 * ringIx x + monSlot s.tick ≠ m.1 + 1 →
        t.chan m = s.chan m) ∧ KeepsHost t s ∧ t.recd = s.recd ∧ t.wheels = s.wheels ∧ t.flt = s.flt ∧ t.filt = s.filt)
    ∧ (∀ (x : RingId), s.sequences x = (match (s.ring x).rmode with
        | .run => true
        | .quiet => decide (s.tick % 10000 < 64)
        | .cellar => false))
    ∧ (∀ (x : RingId) (i : Fin 64) (code : BitVec 12) (lost full : Bool), (s.adc x).place[i.1] = none → exec (.conversionResult x i code
        lost full) s = .next s)
    ∧ (s.tick % 64 = 0 → ∃ t, exec .adcFrameBoundary s = .next t ∧ (∀ x ∈ [RingId.a, RingId.b], (t.adc x).entries = ((s.adc
        x).entCome.foldl (fun a c => a.takeEntry c.1 c.2) (s.adc x)).entries ∧ (t.adc x).entCome = [] ∧ (t.adc x).entPend = (s.adc
        x).entPend.drop (s.adc x).entCome.length ∧ (t.adc x).refCome = none ∧ (t.adc x).refcfg = (s.adc x).refCome.getD (s.adc x).refcfg) ∧ (∀ n : Fin 16, (t.chain n).cfgPend = none ∧ (t.chain n).cfg = ((s.chain n).cfgPend.map (fun w => (w &&& ~~~
        enableMask) ||| ((s.chain n).cfg &&& enableMask))).getD (s.chain n).cfg) ∧ t.filt.cfg = s.filt.cfgPend.getD s.filt.cfg ∧
        t.filt.syncDue = [] ∧ (s.filt.syncDue.any (fun d => !d.1) = true → t.filt.origin = s.tick) ∧ (∀ n : Fin 16, (s.chain n).restart
        = true → (t.chain n).running = true → alignOf t.filt.cfg (ringOf n) = false → (t.chain n).origin = s.tick ∧ (t.chain n).count =
        0 ∧ (t.chain n).settleLeft = nSettle (t.chain n).profile (t.chain n).k (t.rateOf n)) ∧ KeepsHost t s ∧ t.svc = s.svc ∧ t.img =
        s.img ∧ t.fab = s.fab ∧ t.chks = s.chks ∧ t.bg = s.bg ∧ t.pwr = s.pwr ∧ t.freeCtr = s.freeCtr)
    ∧ (s.tick % 64 ≠ 0 → exec .adcFrameBoundary s = .next s)

/-- FILT_CHN_CFG_WRITE, FILT_CFG_WRITE, THRESHOLD_WRITE, FILT_SYNC_GO, FILT_SYNC_ARM, SYNC_EDGE: chain words, thresholds and syncs (R301,
R302, R304, R306, R308, R309, R314). Which answer comes where several refusals apply (REFUSED, HELD, NOT_NOW of an activation or of
REPLAY mode, JOURNAL_FULL) is log entry 10, the model's choice. -/
def Obligations.FilterRegistersAreWrittenAndSynced : Prop :=
  ∀ (s : State),
    (∀ (e : Env) (n : Fin 16) (w : Word), s.hostReady e opWrite = true → s.recd.journal.length < 2047 → s.img.actPending = false →
        lowest (s.chainBad n w) = none → bit w 31 = true → ∃ t, exec (.filtChnCfgWrite e n w) s = .next t ∧ t.answers e .ok
        s.recd.seqNext [] = true ∧ t.chain n =
        { (s.chain n) with cfg := ((s.chain n).cfg &&& 0xFFFCFFFF#32) ||| (w &&& 0x00030000#32), hi := (s.chain n).hi && bit w 16, lo := (s.chain n).lo && bit w 17, hiRun := 0, loRun := 0, cfgPend := some (w &&& 0x80030F07#32) }
        ∧ (∀ m, m ≠ n → t.chain m = s.chain m) ∧ t.img.diverged = true ∧ t.img.divcnt = satInc s.img.divcnt ∧ t.recd.journal =
        s.recd.journal ++ [s.journalRecord 1 (portOrigin e.port) (word (Reg.addrNat (.filtCh n .cfg))) (w)] ∧ RowFrame t s e ∧ t.chans =
        s.chans ∧ t.adcs = s.adcs ∧ t.time = s.time ∧ t.shadows = s.shadows ∧ t.wheels = s.wheels ∧ t.flt = s.flt ∧ t.svc = s.svc ∧
        t.fab = s.fab ∧ t.cells = s.cells ∧ t.rpl = s.rpl ∧ t.chks = s.chks ∧ t.bg = s.bg ∧ t.pwr = s.pwr ∧ t.freeCtr = s.freeCtr)
    ∧ (∀ (e : Env) (n : Fin 16) (w : Word) (b : Nat), s.hostReady e opWrite = true → (s.chainBad n w).any (fun p => p.1 && p.2 = b) =
        true → (∀ p ∈ s.chainBad n w, p.1 = true → b ≤ p.2) → ∃ t, exec (.filtChnCfgWrite e n w) s = .next t ∧ t.answers e .refused
        (word b) [] = true ∧ t.chans = s.chans ∧ t.rings = s.rings ∧ t.recd = s.recd ∧ t.img = s.img ∧ t.adcs = s.adcs ∧ t.filt = s.filt
        ∧ RowFrame t s e ∧ t.time = s.time ∧ t.shadows = s.shadows ∧ t.wheels = s.wheels ∧ t.flt = s.flt ∧ t.svc = s.svc ∧ t.fab = s.fab
        ∧ t.cells = s.cells ∧ t.rpl = s.rpl ∧ t.chks = s.chks ∧ t.bg = s.bg ∧ t.pwr = s.pwr ∧ t.freeCtr = s.freeCtr)
    ∧ (∀ (e : Env) (w : Word), s.hostReady e opWrite = true → s.recd.journal.length < 2047 → s.img.actPending = false → fld w 4 2 ≠ 3 →
        fld w 0 2 = fld s.filtSoon 0 2 → ∃ t, exec (.filtCfgWrite e w) s = .next t ∧ t.answers e .ok s.recd.seqNext [] = true ∧ t.filt =
        { s.filt with cfgPend := some (w &&& 0x33#32) } ∧ t.img.diverged = true ∧ t.img.divcnt = satInc s.img.divcnt ∧ t.recd.journal =
        s.recd.journal ++ [s.journalRecord 1 (portOrigin e.port) (word (Reg.addrNat (.filt .cfg))) (w)] ∧ RowFrame t s e ∧ t.chans =
        s.chans ∧ t.adcs = s.adcs ∧ t.time = s.time ∧ t.shadows = s.shadows ∧ t.wheels = s.wheels ∧ t.flt = s.flt ∧ t.svc = s.svc ∧
        t.fab = s.fab ∧ t.cells = s.cells ∧ t.rpl = s.rpl ∧ t.chks = s.chks ∧ t.bg = s.bg ∧ t.pwr = s.pwr ∧ t.freeCtr = s.freeCtr)
    ∧ (∀ (e : Env) (w : Word), s.hostReady e opWrite = true → fld w 4 2 = 3 → fld w 0 2 = fld s.filtSoon 0 2 → ∃ t, exec (.filtCfgWrite
        e w) s = .next t ∧ t.answers e .refused (4#32) [] = true ∧ t.chans = s.chans ∧ t.rings = s.rings ∧ t.recd = s.recd ∧ t.img =
        s.img ∧ t.adcs = s.adcs ∧ t.filt = s.filt ∧ RowFrame t s e ∧ t.time = s.time ∧ t.shadows = s.shadows ∧ t.wheels = s.wheels ∧
        t.flt = s.flt ∧ t.svc = s.svc ∧ t.fab = s.fab ∧ t.cells = s.cells ∧ t.rpl = s.rpl ∧ t.chks = s.chks ∧ t.bg = s.bg ∧ t.pwr =
        s.pwr ∧ t.freeCtr = s.freeCtr)
    ∧ (∀ (e : Env) (n : Fin 16) (r : ThreshReg) (w : Word), s.hostReady e opWrite = true → s.recd.journal.length < 2047 →
        s.img.actPending = false → ∃ t, exec (.thresholdWrite e n r w) s = .next t ∧ t.answers e .ok s.recd.seqNext [] = true ∧ (r = .hi
        → t.chain n = { s.chain n with thhi := w, hiRun := 0, loRun := 0 }) ∧ (r = .lo → t.chain n =
        { s.chain n with thlo := w, hiRun := 0, loRun := 0 }) ∧ (r = .cfg → t.chain n =
        { s.chain n with thcfg := w, hiRun := 0, loRun := 0 }) ∧ (∀ m, m ≠ n → t.chain m = s.chain m) ∧ t.img.diverged = true ∧
        t.img.divcnt = satInc s.img.divcnt ∧ t.recd.journal = s.recd.journal ++ [s.journalRecord 1 (portOrigin e.port) (word
        (Reg.addrNat (.filtCh n (threshReg r)))) (w)] ∧ RowFrame t s e ∧ t.chans = s.chans ∧ t.adcs = s.adcs ∧ t.time = s.time ∧
        t.shadows = s.shadows ∧ t.wheels = s.wheels ∧ t.flt = s.flt ∧ t.svc = s.svc ∧ t.fab = s.fab ∧ t.cells = s.cells ∧ t.rpl = s.rpl
        ∧ t.chks = s.chks ∧ t.bg = s.bg ∧ t.pwr = s.pwr ∧ t.freeCtr = s.freeCtr)
    ∧ (∀ (e : Env) (w : Word), s.hostReady e opWrite = true → bit w 1 = false → ∃ t, exec (.filtSyncGo e w) s = .next t ∧ t.answers e
        .ok 0#32 [] = true ∧ t.filt = { s.filt with syncDue := s.filt.syncDue ++ [(false, portOrigin e.port)] } ∧ RowFrame t s e ∧
        t.chans = s.chans ∧ t.rings = s.rings ∧ t.recd = s.recd ∧ t.img = s.img ∧ t.adcs = s.adcs ∧ t.pair = s.pair ∧ t.time = s.time ∧
        t.shadows = s.shadows ∧ t.wheels = s.wheels ∧ t.flt = s.flt ∧ t.svc = s.svc ∧ t.fab = s.fab ∧ t.cells = s.cells ∧ t.rpl = s.rpl
        ∧ t.chks = s.chks ∧ t.bg = s.bg ∧ t.pwr = s.pwr ∧ t.freeCtr = s.freeCtr)
    ∧ (∀ (e : Env) (w : Word), s.hostReady e opWrite = true → bit w 0 = false → ∃ t, exec (.filtSyncArm e w) s = .next t ∧ t.answers e
        .ok 0#32 [] = true ∧ t.filt = { s.filt with armed := true } ∧ RowFrame t s e ∧ t.chans = s.chans ∧ t.rings = s.rings ∧ t.recd =
        s.recd ∧ t.img = s.img ∧ t.adcs = s.adcs ∧ t.pair = s.pair ∧ t.time = s.time ∧ t.shadows = s.shadows ∧ t.wheels = s.wheels ∧
        t.flt = s.flt ∧ t.svc = s.svc ∧ t.fab = s.fab ∧ t.cells = s.cells ∧ t.rpl = s.rpl ∧ t.chks = s.chks ∧ t.bg = s.bg ∧ t.pwr =
        s.pwr ∧ t.freeCtr = s.freeCtr)
    ∧ (s.phase = .run → s.vio = true → s.bg.syncMode = 0 → s.pwr.mode ≠ .cellar → fld s.filt.cfg 4 2 = 1 → s.filt.armed = true → exec
        .syncEdge s = .next { s with filt := { s.filt with armed := false, syncDue := s.filt.syncDue ++ [(false, .internal)] } })
    ∧ (s.phase = .run → s.vio = true → s.bg.syncMode = 0 → s.pwr.mode ≠ .cellar → fld s.filt.cfg 4 2 = 2 → exec .syncEdge s = .next
        { s with filt := { s.filt with syncDue := s.filt.syncDue ++ [(true, .internal)] } })
    ∧ (s.bg.syncMode = 2 → exec .syncEdge s = .next s)

/-- POP, POP_BATCH, WHEEL_PROD_WRITE, WHEEL_AGE, WHEEL_FLUSH: entries leave oldest first, a gap is dated by a MARK, an entry that fails is
discarded, a producer word is a change, and AGE makes the wheel pending (R76, R315, R318, R320, R325, R326, R327, R328, R330, R332, R333).
Which answer comes where several refusals apply (REFUSED, HELD, NOT_NOW of an activation or of REPLAY mode, JOURNAL_FULL) is log entry
10, the model's choice. FLUSH moves HEAD on by what it removed: log entry 34 (DEDUCED). -/
def Obligations.WheelsArePoppedAndRouted : Prop :=
  ∀ (e : Env) (k : WheelId) (w : Word) (s : State),
    (∀ (x : Entry) (c : Nat) (rest : List (Entry × Nat)), s.hostReady e opPop = true → (s.wheel k).allocated = true → (s.wheel k).q =
        (x, c) :: rest → (s.wheel k).gapPending = false → ∃ t, exec (.pop e (popAddr k) w false) s = .next t ∧ t.answers e .ok 0#32
        [x.extractLsb' 0 32, x.extractLsb' 32 32] = true ∧ RowActs t s e (fun u => u.modWheel k (fun q =>
        { q with q := rest, head := (q.head + 1) % 2 ^ q.sizeLog2, headCtx := if entryKind x = 7 then ⟨x.extractLsb' 0 32, x.getLsbD 55, x.getLsbD 54⟩ else q.headCtx })))
    ∧ (∀ (x : Entry) (c : Nat) (rest : List (Entry × Nat)), s.hostReady e opPop = true → (s.wheel k).allocated = true → (s.wheel k).q =
        (x, c) :: rest → (s.wheel k).gapPending = true → entryKind x = 7 → ∃ t, exec (.pop e (popAddr k) w false) s = .next t ∧ t.answers
        e .ok 0#32 [x.extractLsb' 0 32, x.extractLsb' 32 32 ||| 0x00100000#32] = true ∧ RowActs t s e (fun u => u.modWheel k (fun q =>
        { q with q := rest, head := (q.head + 1) % 2 ^ q.sizeLog2, headCtx := ⟨x.extractLsb' 0 32, x.getLsbD 55, x.getLsbD 54⟩, gapPending := false })))
    ∧ (∀ (x : Entry) (c : Nat) (rest : List (Entry × Nat)) (bad : Bool), s.hostReady e opPop = true → (s.wheel k).allocated = true → (s.wheel
        k).q = (x, c) :: rest → (s.wheel k).gapPending = true → entryKind x ≠ 7 → ∃ t, exec (.pop e (popAddr k) w bad) s = .next t ∧ t.answers
        e .ok 0#32 [(s.wheel k).headCtx.epoch, word (0x87100000 + b2n (s.wheel k).headCtx.estA * 0x800000 + b2n (s.wheel k).headCtx.estB *
        0x400000)] = true ∧ RowActs t s e (fun u => u.modWheel k (fun q => { q with gapPending := false })))
    ∧ (∀ (x : Entry) (c : Nat) (rest : List (Entry × Nat)), s.hostReady e opPop = true → (s.wheel k).allocated = true → (s.wheel k).q =
        (x, c) :: rest → ((s.wheel k).gapPending = false ∨ entryKind x = 7) → ∃ t, exec (.pop e (popAddr k) w true) s = .next t ∧ t.answers e .ok 0#32 [(s.wheel
        k).headCtx.epoch, word (0x87100000 + b2n (s.wheel k).headCtx.estA * 0x800000 + b2n (s.wheel k).headCtx.estB * 0x400000)] = true ∧
        (t.slot (hostSlot 8)).sticky = true ∧ (t.slot (hostSlot 8)).seen = false ∧ RowActs t s e (fun u => (u.modWheel k (fun q =>
        { q with q := rest, head := (q.head + 1) % 2 ^ q.sizeLog2, lost := satInc q.lost, evtEcc := true, gapPending := false })).raiseHost 8))
    ∧ (s.hostReady e opPop = true → (s.wheel k).allocated = true → (s.wheel k).q = [] → ∃ t, exec (.pop e (popAddr k) w false) s = .next t
        ∧ t.answers e .empty 0#32 [] = true ∧ RowActs t s e id)
    ∧ (s.hostReady e opPop = true → (s.wheel k).sizeLog2 = 0 → ∃ t, exec (.pop e (popAddr k) w false) s = .next t ∧ t.answers e .notNow
        0#32 [] = true ∧ RowActs t s e id)
    ∧ (∀ (i : Fin 4), s.hostReady e opPop = true → i ≠ 0 → ∃ t, exec (.pop e (popAddr k + BitVec.ofNat 24 (4 * i.1)) w false) s = .next t
        ∧ t.answers e .badAddr ((popAddr k + BitVec.ofNat 24 (4 * i.1)).zeroExtend 32) [] = true ∧ RowActs t s e id)
    ∧ (s.hostReady e opPopBatch = true → (s.wheel k).allocated = true → (s.wheel k).q ≠ [] → (s.wheel k).gapPending = false → 1 ≤ fld w 0 7
        → fld w 0 7 ≤ 64 → ∃ t q', exec (.popBatch e (popAddr k) w 0#64) s = .next t ∧ t.answers e .ok 0#32 (((s.wheel k).q.take (fld w 0
        7)).flatMap (fun x => [x.1.extractLsb' 0 32, x.1.extractLsb' 32 32])) = true ∧ RowActs t s e (fun u => u.modWheel k (fun _ => q'))
        ∧ q'.q = (s.wheel k).q.drop (fld w 0 7) ∧ q' = { (s.wheel k) with q := q'.q, head := q'.head, headCtx := q'.headCtx })
    ∧ (∀ (x y : Entry) (c d : Nat) (bad : BitVec 64), s.hostReady e opPopBatch = true → (s.wheel k).allocated = true → (s.wheel k).q = [(x,
        c), (y, d)] → (s.wheel k).gapPending = false → fld w 0 7 = 2 → bad.getLsbD 0 = true → bad.getLsbD 1 = true → (∀ v : WheelId, (s.wheel
        v).namesFault (hostSlot 8) = false) → ∃ t, exec (.popBatch e (popAddr k) w bad) s = .next t ∧ t.answers e .ok 0#32 (entryWords
        (markEntry (s.wheel k).headCtx true) ++ entryWords (markEntry (s.wheel k).headCtx true)) = true ∧ (t.wheel k).q = [] ∧ (t.wheel
        k).lost = satInc (satInc (s.wheel k).lost) ∧ (t.wheel k).evtEcc = true ∧ (t.slot (hostSlot 8)).raises = satInc (satInc (s.slot
        (hostSlot 8)).raises))
    ∧ (∀ (bad : BitVec 64), s.hostReady e opPopBatch = true → (fld w 0 7 = 0 ∨ 64 < fld w 0 7) → ∃ t, exec (.popBatch e (popAddr k) w bad) s = .next t ∧
        t.answers e .badLen (e.len.zeroExtend 32) [] = true ∧ RowActs t s e id)
    ∧ (s.hostReady e opWrite = true → (s.wheel k).allocated = true → prodOk w.toNat = true → s.prodHeld k w = none → s.img.actPending =
        false → s.recd.journal.length < 2047 → ∃ t, exec (.wheelProdWrite e k w) s = .next t ∧ t.answers e .ok s.recd.seqNext [] = true ∧
        RowActs t s e (fun u => (((u.appendJournal 1 (portOrigin e.port) (word (Reg.addrNat (.whl k .prod))) w).modWheel k (fun q => { q with
        prod := w })).diverge).mirrorOut (portOrigin e.port) (Reg.addr (.whl k .prod)) w false none))
    ∧ (∀ (c : Claim), s.hostReady e opWrite = true → (s.wheel k).allocated = true → prodOk w.toNat = true → s.wheelClaim k = some c →
        c.hclass = 1 → c.hindex < 16 → bit w c.hindex = false → ∃ t, exec (.wheelProdWrite e k w) s = .next t ∧ t.answers e .held c.code []
        = true ∧ RowActs t s e id)
    ∧ (s.hostReady e opWrite = true → (s.wheel k).allocated = true → prodOk w.toNat = false → ∃ t, exec (.wheelProdWrite e k w) s = .next t
        ∧ t.answers e .refused 0#32 [] = true ∧ RowActs t s e id)
    ∧ (∀ (x : Entry) (c : Nat) (rest : List (Entry × Nat)) (p : PortId), (s.wheel k).q = (x, c) :: rest → (s.wheel k).age ≠ 0#8 → c +
        (s.wheel k).age.toNat * 1000 ≤ s.clock → (s.wheel k).consumer = decide (p = .hp1) → ∃ t, exec (.wheelAge k) s = .next t ∧ bit ((t.wheel
        k).stat t.clock) 17 = true ∧ t.wheelPend.getLsbD k.1 = true ∧ (t.irqCause p).getLsbD 2 = true ∧ t = s)
    ∧ (∀ (x : Entry) (c : Nat) (rest : List (Entry × Nat)), (s.wheel k).q = (x, c) :: rest → ((s.wheel k).age = 0#8 ∨ s.clock < c + (s.wheel
        k).age.toNat * 1000) → ∃ t, exec (.wheelAge k) s = .next t ∧ bit ((t.wheel k).stat t.clock) 17 = false ∧ t = s)
    ∧ (s.hostReady e opWrite = true → (s.wheel k).allocated = true → ∃ t, exec (.wheelFlush e k w) s = .next t ∧ t.answers e .ok 0#32 [] = true ∧
        (t.wheel k).q = [] ∧ (t.wheel k).head = ((s.wheel k).head + (s.wheel k).q.length) % 2 ^ (s.wheel k).sizeLog2 ∧ (t.wheel k).lost = (s.wheel k).lost)

/-- R326, whole: FLUSH and the emptying at an activation leave a wheel with no entry and count none of them lost, the next entry stored
follows a MARK with GAP = 1, and FLUSH is no change but an event. HEAD is left as FLUSH leaves it. -/
def Obligations.FlushEmptiesAWheel : Prop :=
  (∀ (e : Env) (k : WheelId) (w : Word) (s : State), s.hostReady e opWrite = true → (s.wheel k).allocated = true → ∃ t, exec (.wheelFlush e k
      w) s = .next t ∧ t.answers e .ok 0#32 [] = true ∧ (t.wheel k).q = [] ∧ (t.wheel k).lost = (s.wheel k).lost ∧ t.recd.journal =
      s.recd.journal ∧ t.recd = (s.event 0x12 3 (portOrigin e.port) (word k.1) 0#32).recd ∧ (∀ (c : MarkCtx) (x : Entry) (clock : Nat),
      ((t.wheel k).store c x clock).q = [(markEntry c true, clock), (x, clock)]) ∧ RowActs t s e (fun u => { (u.modWheel k (fun q =>
      { q with q := [], head := (t.wheel k).head, lastMark := none, gapNext := true, gapPending := false })) with
      recd := (u.event 0x12 3 (portOrigin e.port) (word k.1) 0#32).recd }))
    ∧ (∀ (s : State) (k : WheelId) (old new : List (List Byte)) (r : List Byte), (s.wheel k).allocated = true → new.find? (fun r => u8 r 0 =
      k.1) = some r → 1 ≤ u8 r 1 → old.find? (fun r => u8 r 0 = k.1) ≠ some r → ((s.activateWheels old new).wheel k).q = [] ∧
      ((s.activateWheels old new).wheel k).lost = (s.wheel k).lost ∧ (∀ (c : MarkCtx) (x : Entry) (clock : Nat), (((s.activateWheels old
      new).wheel k).store c x clock).q = [(markEntry c true, clock), (x, clock)]))
    ∧ (∀ (c : MarkCtx), entryKind (markEntry c true) = 7 ∧ (markEntry c true).getLsbD 52 = true)

/-- R324, whole: under policy STOP an entry that does not fit is dropped with its MARK and counted, LOSS is set, what is stored stays, and the next
entry stored follows a MARK with GAP = 1, however many entries are dropped or popped before. -/
def Obligations.StopWheelDropsWhatDoesNotFit : Prop :=
  ∀ (q : Wheel) (c : MarkCtx) (x : Entry) (clock : Nat), q.overwrite = false →
    (q.q.length + (if q.needMark c then 2 else 1) ≤ 2 ^ q.sizeLog2 → (q.store c x clock).q = q.q ++ (if q.needMark c then [(markEntry c
        q.gapNext, clock)] else []) ++ [(x, clock)] ∧ (q.store c x clock).lost = q.lost ∧ (q.store c x clock).evtLoss = q.evtLoss)
    ∧ (2 ^ q.sizeLog2 < q.q.length + (if q.needMark c then 2 else 1) → (q.store c x clock).q = q.q ∧ (q.store c x clock).lost = satInc q.lost
        ∧ (q.store c x clock).evtLoss = true ∧ (q.store c x clock).gapNext = true)
    ∧ (q.gapNext = true → q.needMark c = true ∧ ((q.store c x clock).q = q.q ∧ (q.store c x clock).gapNext = true ∨ (q.store c x clock).q =
        q.q ++ [(markEntry c true, clock), (x, clock)]) ∧ (∀ (y : Entry) (p : Wheel), q.pop = some (y, p) → p.gapNext = true)
        ∧ (∀ (y : Entry) (p : Wheel), q.popEcc = some (y, p) → p.gapNext = true))

/-- FAULT_RAISE, FAULT_CLEAR, COLLECTOR_MISMATCH, SAFE_PATH_CHECK, FLT_RELEASE, RELEASE_ACK, FLT_WD_CFG_WRITE, WD_KICK, WD_EXPIRY, REARM
(R336, R337, R341, R342, R345, R347, R348, R349, R353, R354, R355, R358). A write of FLT_WD_CFG is a change that arms the watchdog with
a window of WINDOW ms from its tick. The order of the answers to a kick is log entry 79, and that FAULT_RAISE names no source 3 is log
entry 78: both are DEDUCED, the model's reading. -/
def Obligations.SourcesReleasesAndTheWatchdog : Prop :=
  ∀ (s : State),
    (∀ (h : Fin 31), h ≠ 3 → s.hostCondition h.1 ≠ some false → instantSource (hostSlot h).1 0 = false → (s.slot (hostSlot h)).real.getLsbD
        0 = false → (∀ v : WheelId, (s.wheel v).namesFault (hostSlot h) = false) → ∃ t, exec (.faultRaise h) s = .next t ∧ (t.slot (hostSlot
        h)).real = (s.slot (hostSlot h)).real
        ||| 1#32 ∧ (t.slot (hostSlot h)).sticky = true ∧ (t.slot (hostSlot h)).seen = false ∧ (t.slot (hostSlot h)).raises = satInc (s.slot
        (hostSlot h)).raises ∧ (t.slot (hostSlot h)).cls = BitVec.ofNat 2 (s.settle (hostSlot h) 0 s.tick).1 ∧ (t.slot (hostSlot h)).react =
        BitVec.ofNat 3 (s.settle (hostSlot h) 0 s.tick).2 ∧ (∀ k, k ≠ hostSlot h → t.slot k = s.slot k) ∧ t.wheels = s.wheels ∧ ReportFrame t s)
    ∧ (∀ (h : Fin 31), h ≠ 3 → s.hostCondition h.1 ≠ some false → instantSource (hostSlot h).1 0 = false → (s.slot (hostSlot h)).real.getLsbD
        0 = false → (s.slot (hostSlot h)).cause 0 true = none → (∀ v : WheelId, (s.wheel v).namesFault (hostSlot h) = false) → bit s.rpl.cfg (4 + (s.settle (hostSlot h) 0 s.tick).1) =
        false → (s.settle (hostSlot h) 0 s.tick).2 = 3 → ∃ t, exec (.faultRaise h) s = .next t ∧ (∀ x ∈ [RingId.a, RingId.b], t.ring x = { s.ring x with safeq := (s.ring x).safeq ++ [ringMask x] }) ∧ (t.slot (hostSlot h)).setOn = (s.slot (hostSlot h)).setOn ||| 0xFFFF#16 ∧
        t.recd = (s.report (recCode (s.settle (hostSlot h) 0 s.tick).1 4 (hostSlot h).1) .internal 0 0x10300#32 0#32).recd ∧ t.pair = s.pair ∧
        t.rpl = s.rpl ∧ t.cells = s.cells ∧ t.chans = s.chans)
    ∧ (∀ (h : Fin 31), h ≠ 3 → s.hostCondition h.1 ≠ some false → instantSource (hostSlot h).1 0 = true → (s.slot (hostSlot h)).real = 0#32 → (∀ v : WheelId, (s.wheel v).namesFault
        (hostSlot h) = false) → ∃ t, exec (.faultRaise h) s = .next t ∧ (t.slot (hostSlot h)).real = 0#32 ∧ (t.slot (hostSlot h)).sticky =
        true ∧ (t.slot (hostSlot h)).seen = false ∧ (t.slot (hostSlot h)).raises = satInc (s.slot (hostSlot h)).raises ∧ (∀ k, k ≠ hostSlot h
        → t.slot k = s.slot k) ∧ t.wheels = s.wheels ∧ ReportFrame t s)
    ∧ (∀ (h : Fin 31), instantSource (hostSlot h).1 0 = false → (s.slot (hostSlot h)).real.getLsbD 0 = true → exec (.faultRaise h) s = .next
        s)
    ∧ (∀ (h : Fin 31), s.hostCondition h.1 = some false → exec (.faultRaise h) s = .next s)
    ∧ (∀ (h : Fin 31) (c : LiveCause), h ∉ [2, 3, 6, 16] → s.hostCondition h.1 ≠ some true → (s.slot (hostSlot h)).real = 1#32 → (s.slot
        (hostSlot h)).inj = 0#32 → (s.slot (hostSlot h)).liveAt = [c] → c.member = 0#8 → c.inj = false → c.since = s.tick → (s.slot (hostSlot
        h)).seen = false → (∀ v : WheelId, (s.wheel v).namesFault (hostSlot h) = false) →
        (s.flt.tbl[(hostSlot h).1]).getLsbD 2 = false → ∃ t, exec (.faultClear h) s = .next t ∧ t = { s with flt := t.flt, recd := t.recd } ∧
        t.slot (hostSlot h) = { s.slot (hostSlot h) with real := 0#32, liveAt := [], setOn := 0#16 } ∧ (∀ k, k ≠ hostSlot h
        → t.slot k = s.slot k) ∧ t.flt.core = s.flt.core ∧ t.recd = (s.report (recCode c.cls.toNat 4 (hostSlot h).1)
        .internal 1 (word (c.react.toNat * 256)) 0#32).recd)
    ∧ (∀ (h : Fin 31), (h ∈ [2, 3, 6, 16] ∨ s.hostCondition h.1 = some true) → exec (.faultClear h) s = .next s)
    ∧ (∀ (i : BitVec 16), (s.slot (hostSlot 3)).real.getLsbD 0 = false → (∀ v : WheelId, (s.wheel v).namesFault (hostSlot 3) = false) → bit
        s.rpl.cfg 6 = false → s.pair.holdsRole = false → ∃ t, exec (.collectorMismatch i) s = .next t ∧ t = { s with rings := t.rings, flt := t.flt, recd := t.recd } ∧ (∀ x ∈ [RingId.a, RingId.b], t.ring x = { s.ring x with safeq := (s.ring x).safeq ++ [ringMask x], cmdq := (s.ring x).cmdq ++ (if x = .a && (s.ring x).link then [(.source false, 0)] else []) }) ∧ t.flt.railFault = true ∧ t.flt.railWord = i ∧ (t.slot (hostSlot
        3)).real = 1#32 ∧ (t.slot (hostSlot 3)).cls = 2#2 ∧ (∀ k, k ≠ hostSlot 3 → t.slot k = s.slot k) ∧ t.recd = (s.report (recCode 2 4
        171) .internal 0 (i.zeroExtend 32) 0#32).recd)
    ∧ (∀ (i : BitVec 16), (s.slot (hostSlot 3)).real.getLsbD 0 = false → s.pair.holdsRole = true → ∃ t, exec (.collectorMismatch i) s = .next
        t ∧ t.pair.role = .unqualified ∧ ((s.ring .a).link = true → (.source false, 0) ∈ (t.ring .a).cmdq) ∧ t.flt.railFault = true ∧ t.flt.railWord = i)
    ∧ (∀ (x : RingId), (s.ring x).logic = true → ∃ t, exec (.safePathCheck x) s = .next t ∧ (∀ n, ringOf n = x → (t.chan n).latch = true ∧
        (t.chan n).causes.getLsbD 0 = true) ∧ ((t.ring x).reports.getLast?.map (fun r => (r.slot, r.member, r.raise)) = some (ringSlot x 19,
        0#8, true) ∨ 32 ≤ (t.ring x).reports.length) ∧ (∀ y, y ≠ x → t.side y = s.side y) ∧ t.recd = s.recd ∧ t.wheels = s.wheels ∧ KeepsHost
        t s)
    ∧ (∀ (x : RingId), (s.ring x).logic = false → exec (.safePathCheck x) s = .next s)
    ∧ (∀ (e : Env) (w : Word), s.hostReady e opWrite = true → fld w 30 2 = 0 → fld w 16 5 < 16 → w &&& 0xFE00#32 = 0#32 → (s.ring (ringOf
        (toIdx 16 (fld w 16 5)))).link = false → (s.flt.mirror[(toIdx 16 (fld w 16 5) : Fin 16).1] &&& w.truncate 16) = 0#16 → ∃ t, exec
        (.fltRelease e w) s = .next t ∧ t.answers e .ok 0#32 [] = true ∧ t.flt.relCleared = 0#16 ∧ t.flt.relRefused = 0#16 ∧ t.recd =
        (s.event 0x12 1 (portOrigin e.port) w 0#32).recd ∧ t.chans = s.chans ∧ t.rings = s.rings ∧ t.flt.slots = s.flt.slots)
    ∧ (∀ (e : Env) (w : Word), s.hostReady e opWrite = true → fld w 30 2 = 0 → fld w 16 5 < 16 → w &&& 0xFE00#32 = 0#32 → (s.ring (ringOf
        (toIdx 16 (fld w 16 5)))).link = false → (s.flt.mirror[(toIdx 16 (fld w 16 5) : Fin 16).1] &&& w.truncate 16) ≠ 0#16 → ∃ t, exec
        (.fltRelease e w) s = .next t ∧ t.answers e .notNow (word (0x10000 + (s.flt.mirror[(toIdx 16 (fld w 16 5) : Fin 16).1] &&&
        w.truncate 16).toNat)) [] = true ∧ t.flt.relRefused = (s.flt.mirror[(toIdx 16 (fld w 16 5) : Fin 16).1] &&& w.truncate 16) ∧ t.chans
        = s.chans ∧ t.rings = s.rings)
    ∧ (∀ (e : Env) (w : Word) (n : Fin 16), s.hostReady e opWrite = true → fld w 30 2 = 0 → fld w 16 5 = n.1 → w &&& 0xFE00#32 = 0#32 →
        (s.ring (ringOf n)).link = true → ∃ t, exec (.fltRelease e w) s = .next t ∧ t.ring (ringOf n) = { s.ring (ringOf n) with cmdq := (s.ring (ringOf n)).cmdq ++ [(.release [(n, s.flt.mirror[n.1] &&& w.truncate 16)] (some e.port), 0)] } ∧ (∀ y, y ≠ ringOf n →
        t.ring y = s.ring y) ∧ t.releaseOf e.port = some ⟨e.port, portOrigin e.port, w, 0#16, 0#16, false, [ringOf n], []⟩ ∧ t.recd = s.recd
        ∧ t.chans = s.chans ∧ t.flt.slots = s.flt.slots ∧ RowFrame t s e)
    ∧ (∀ (e : Env) (w : Word), s.hostReady e opWrite = true → fld w 30 2 = 3 → w &&& 0xFE00#32 = 0#32 → ∃ t, exec (.fltRelease e w) s = .next
        t ∧ t.answers e .refused 30#32 [] = true ∧ RowActs t s e id)
    ∧ (∀ (e : Env) (w : Word), s.hostReady e opWrite = true → ((fld w 30 2 = 0 ∧ 16 ≤ fld w 16 5) ∨ (fld w 30 2 = 1 ∧ 2 ≤ fld w 16 5)) → w
        &&& 0xFE00#32 = 0#32 → ∃ t, exec (.fltRelease e w) s = .next t ∧ t.answers e .refused 16#32 [] = true ∧ RowActs t s e id)
    ∧ (∀ (p : PortId) (x : RingId) (r : Release), s.flt.releases = [r] → r.port = p → r.await = [x] → r.acted = [x] → (s.ring x).upClear = true → ∃ t, exec (.releaseAck p
        x true) s = .next t ∧ t.flt.releases = [] ∧ t.flt.relCleared = r.cleared ∧ t.flt.relRefused = r.refused ∧ t.recd = (s.event 0x12 1
        r.origin r.word (word (r.refused.toNat * 65536 + r.cleared.toNat))).recd ∧ (∀ n, t.chan n = if ringOf n = x ∧ (s.chan n).latch = true
        ∧ (s.chan n).causes = 0#16 ∧ (s.chan n).releaseDue = none then { s.chan n with releaseDue := some (s.fab.stepNo + 1) } else s.chan n)
        ∧ (∀ q v, (s.port p).executing = some (q, v) → (t.port p).executing = some (q, { v with rstat := if r.refused = 0#16 then 0x00#8 else 0x0B#8, info := if r.refused = 0#16 then 0#32 else word (b2n r.noLink * 65536 + r.refused.toNat) })) ∧ t.rings = s.rings ∧ t.flt.slots
        = s.flt.slots ∧ t.tickets = s.tickets ∧ t.wheels = s.wheels ∧ t.pair = s.pair)
    ∧ (∀ (p : PortId) (x : RingId) (r : Release), s.releaseOf p = some r → x ∈ r.await → x ∈ r.acted → (s.ring x).upClear = true → exec (.releaseAck p x false) s = .next
        (s.linkDiscard x))
    ∧ (∀ (p : PortId) (x : RingId) (good : Bool), (s.releaseOf p = none ∨ (s.ring x).upClear = false) → exec (.releaseAck p x good) s = .next s)
    ∧ (∀ (e : Env) (w : Word), s.hostReady e opWrite = true → 1 ≤ fld w 0 14 → fld w 0 14 ≤ 10000 → s.recd.journal.length < 2047 → ∃ t, exec
        (.fltWdCfgWrite e w) s = .next t ∧ t.answers e .ok s.recd.seqNext [] = true ∧ t.flt.wdEn = bit w 31 ∧ t.flt.wdWindow.toNat = fld w 0 14 ∧
        t.flt.wdStart = s.clock ∧ (bit w 31 = true → s.flt.wdExpired = false → s.pwr.mode ≠ .cellar → t.wdRemain = fld w 0 14) ∧ RowActs t s e
        (fun u => { (u.appendJournal 1 (portOrigin e.port) (word (Reg.addrNat (.flt .wdCfg))) w) with flt := { u.flt with wdEn := bit w 31, wdWindow := BitVec.ofNat 14 (fld w 0 14), wdStart := s.clock } }))
    ∧ (∀ (e : Env) (w : Word), s.hostReady e opWrite = true → (fld w 0 14 = 0 ∨ 10000 < fld w 0 14) → ∃ t, exec (.fltWdCfgWrite e w) s = .next t ∧
        t.answers e .refused 0#32 [] = true ∧ RowActs t s e id)
    ∧ (∀ (e : Env) (w : Word), s.hostReady e opWrite = true → s.flt.wdEn = true → s.flt.wdExpired = false → w.truncate 8 = s.flt.wdToken → ∃
        t, exec (.wdKick e w) s = .next t ∧ t.answers e .ok 0#32 [] = true ∧ RowActs t s e (fun u => { u with flt := { u.flt with wdStart := s.clock, wdToken := s.flt.wdToken + 1#8 } }))
    ∧ (∀ (e : Env) (w : Word), s.hostReady e opWrite = true → s.flt.wdEn = true → s.flt.wdExpired = false → w.truncate 8 ≠ s.flt.wdToken → ∃
        t, exec (.wdKick e w) s = .next t ∧ t.answers e .refused 0#32 [] = true ∧ RowActs t s e (fun u => { u with flt := { u.flt with wdBad := satInc s.flt.wdBad } }))
    ∧ (∀ (e : Env) (w : Word), s.hostReady e opWrite = true → s.flt.wdEn = false → ∃ t, exec (.wdKick e w) s = .next t ∧ t.answers e .notNow
        0#32 [] = true ∧ RowActs t s e id)
    ∧ (∀ (e : Env) (w : Word), s.hostReady e opWrite = true → s.flt.wdEn = true → s.flt.wdExpired = true → ∃ t, exec (.wdKick e w) s = .next t
        ∧ t.answers e .expired 0#32 [] = true ∧ RowActs t s e id)
    ∧ (s.flt.wdEn = true → s.flt.wdExpired = false → s.pwr.mode ≠ .cellar → s.flt.wdStart + s.flt.wdWindow.toNat * 1000 ≤ s.clock → exec
        .wdExpiry s = .next (({ s with flt := { s.flt with wdExpired := true } }).raiseLive (hostSlot 0)) ∧ ∃ t, exec .wdExpiry s = .next t ∧
        t.flt.wdExpired = true ∧ (t.slot (hostSlot 0)).real.getLsbD 0 = true ∧ t.flt.wdToken = s.flt.wdToken)
    ∧ (s.clock < s.flt.wdStart + s.flt.wdWindow.toNat * 1000 → exec .wdExpiry s = .next s)
    ∧ (∀ (e : Env) (w : Word), s.hostReady e opWrite = true → s.flt.wdExpired = true → ∃ t, exec (.rearm e w) s = .next t ∧ t.answers e .ok
        0#32 [] = true ∧ t.flt.wdExpired = false ∧ t.flt.wdStart = s.clock ∧ (t.slot (hostSlot 0)).real.getLsbD 0 = false ∧ t.recd.journal =
        s.recd.journal ∧ RowActs t s e (fun u => (({ u with flt := { u.flt with wdExpired := false, wdStart := u.clock } }).clearLive (hostSlot
        0)).event 0x12 2 (portOrigin e.port) 0#32 0#32))
    ∧ (∀ (e : Env) (w : Word), s.hostReady e opWrite = true → s.flt.wdExpired = false → ∃ t, exec (.rearm e w) s = .next t ∧ t.answers e .ok
        0#32 [] = true ∧ RowActs t s e id)

/-- INJ_RAISE, INJ_CLEAR, INJ_PULSE, INJ_PULSE_END, FLT_INJCFG_WRITE, FLT_REACT_WRITE, FLT_CHSAFE_WRITE: an injection is a change that sets
or clears the injected latch alone, dry run suppresses its reaction, EN = 0 clears every injected latch, and the table and the safe
codes are written as changes (R338, R343, R344, R346, R360, R361, R362, R370). Which answer comes where several refusals apply (REFUSED,
HELD, NOT_NOW of an activation or of REPLAY mode, JOURNAL_FULL) is log entry 10, the model's choice. -/
def Obligations.InjectionAndTheReactionTable : Prop :=
  ∀ (e : Env) (w : Word) (s : State),
    (∀ (k : Fin 256) (m : Nat), s.hostReady e opWrite = true → fld w 0 8 = k.1 → fld w 8 8 = m → slotHasMember (s.slotFunc k) k.1 m = true → slotUsed k.1 =
        true → k ≠ 171 → instantSource k.1 m = false → s.flt.injEn = true → s.recd.journal.length < 2047 → (s.slot k).inj.getLsbD m = false
        → (∀ v : WheelId, (s.wheel v).namesFault k = false) → ∃ t, exec (.injRaise e w) s = .next t ∧ t.answers e .ok s.recd.seqNext [] = true
        ∧ (t.slot k).inj = (s.slot k).inj ||| (1#32 <<< m) ∧ (t.slot k).real = (s.slot k).real ∧ (t.slot k).sticky = (s.slot k).sticky ∧
        (t.slot k).injSticky = true ∧ (t.slot k).seen = false ∧ (∀ j, j ≠ k → t.slot j = s.slot j) ∧ t.recd.journal = s.recd.journal ++
        [s.journalRecord 10 (portOrigin e.port) (setFld w 16 2 1) 0#32] ∧ (s.flt.dryrun = true → t.rings = s.rings ∧ t.pair = s.pair) ∧
        RowActs t s e (fun u => (u.appendJournal 10 (portOrigin e.port) (setFld w 16 2 1) 0#32).raise ⟨k, m, true, 0#32, false⟩))
    ∧ (∀ (k : Fin 256) (m : Nat), s.hostReady e opWrite = true → fld w 0 8 = k.1 → fld w 8 8 = m → slotHasMember (s.slotFunc k) k.1 m = true → slotUsed k.1 =
        true → k ≠ 171 → s.flt.injEn = true → s.recd.journal.length < 2047 → (s.slot k).inj.getLsbD m = true → (∀ v : WheelId, (s.wheel
        v).namesFault k = false) → ∃ t, exec (.injClear e w) s = .next t ∧ t.answers e .ok s.recd.seqNext [] = true ∧ (t.slot k).inj =
        (s.slot k).inj &&& ~~~ (1#32 <<< m) ∧ (t.slot k).real = (s.slot k).real ∧ (t.slot k).sticky = (s.slot k).sticky ∧ (∀ j, j ≠ k →
        t.slot j = s.slot j) ∧ t.flt.pulses = s.flt.pulses.filter (fun p => !(p.1 = k && p.2.1 = BitVec.ofNat 8 m)) ∧ t.recd.journal =
        s.recd.journal ++ [s.journalRecord 10 (portOrigin e.port) (setFld w 16 2 2) 0#32] ∧ t.wheels = s.wheels ∧ RowFrame t s e)
    ∧ (∀ (k : Fin 256) (m : Nat), s.hostReady e opWrite = true → fld w 0 8 = k.1 → fld w 8 8 = m → slotHasMember (s.slotFunc k) k.1 m = true → slotUsed k.1 =
        true → k ≠ 171 → instantSource k.1 m = false → s.flt.injEn = true → s.recd.journal.length < 2047 → (s.slot k).inj.getLsbD m = false
        → (∀ v : WheelId, (s.wheel v).namesFault k = false) → ∃ t, exec (.injPulse e w) s = .next t ∧ t.answers e .ok s.recd.seqNext [] = true
        ∧ (t.slot k).inj = (s.slot k).inj ||| (1#32 <<< m) ∧ (t.slot k).real = (s.slot k).real ∧ (k, BitVec.ofNat 8 m, s.clock +
        s.flt.injDur.toNat) ∈ t.flt.pulses ∧ (∀ j, j ≠ k → t.slot j = s.slot j) ∧ t.recd.journal = s.recd.journal ++ [s.journalRecord 10
        (portOrigin e.port) (setFld w 16 2 3) 0#32] ∧ RowFrame t s e)
    ∧ (s.hostReady e opWrite = true → slotHasMember (s.slotFunc (toIdx 256 (fld w 0 8))) (fld w 0 8) (fld w 8 8) = true → slotUsed (fld w 0 8) = true → fld w 0 8 ≠ 171 →
        s.flt.injEn = false → (∃ t, exec (.injRaise e w) s = .next t ∧ t.answers e .notNow 0#32 [] = true ∧ RowActs t s e id) ∧ (∃ t, exec
        (.injClear e w) s = .next t ∧ t.answers e .notNow 0#32 [] = true ∧ RowActs t s e id) ∧ (∃ t, exec (.injPulse e w) s = .next t ∧
        t.answers e .notNow 0#32 [] = true ∧ RowActs t s e id))
    ∧ (s.hostReady e opWrite = true → slotHasMember (s.slotFunc (toIdx 256 (fld w 0 8))) (fld w 0 8) (fld w 8 8) = true → (slotUsed (fld w 0 8) = false ∨ fld w 0 8 = 171) → (∃ t,
        exec (.injRaise e w) s = .next t ∧ t.answers e .refused 0#32 [] = true ∧ RowActs t s e id) ∧ (∃ t, exec (.injClear e w) s = .next t ∧
        t.answers e .refused 0#32 [] = true ∧ RowActs t s e id) ∧ (∃ t, exec (.injPulse e w) s = .next t ∧ t.answers e .refused 0#32 [] = true
        ∧ RowActs t s e id))
    ∧ (∀ (k : Fin 256) (m : Byte) (due : Nat), s.flt.pulses = [(k, m, due)] → due ≤ s.clock → m.toNat < 32 → (s.slot k).inj = 1#32 <<< m.toNat
        → (∀ v : WheelId, (s.wheel v).namesFault k = false) → ∃ t, exec (.injPulseEnd k m) s = .next t ∧ t.flt.pulses = [] ∧ (t.slot k).inj =
        0#32 ∧ (t.slot k).real = (s.slot k).real ∧ (t.slot k).sticky = (s.slot k).sticky ∧ (∀ j, j ≠ k → t.slot j = s.slot j) ∧ t.wheels =
        s.wheels ∧ KeepsHost t s ∧ KeepsUnits t s)
    ∧ (∀ (k : Fin 256) (m : Byte) (due : Nat), s.flt.pulses = [(k, m, due)] → s.clock < due → exec (.injPulseEnd k m) s = .next s)
    ∧ (s.hostReady e opWrite = true → s.recd.journal.length < 2047 → bit w 0 = true → (bit w 1 = s.flt.dryrun ∨ s.injLive = false) → ∃ t, exec
        (.fltInjcfgWrite e w) s = .next t ∧ t.answers e .ok s.recd.seqNext [] = true ∧ RowActs t s e (fun u => (u.appendJournal 1 (portOrigin
        e.port) (word (Reg.addrNat (.flt .injcfg))) w).modFlt (fun c => { c with injEn := true, dryrun := bit w 1 })))
    ∧ (s.hostReady e opWrite = true → s.recd.journal.length < 2047 → bit w 0 = false → bit w 1 = s.flt.dryrun → ∃ t, exec (.fltInjcfgWrite e w)
        s = .next t ∧ t.answers e .ok s.recd.seqNext [] = true ∧ t.flt.injEn = false ∧ t.flt.pulses = [] ∧ (∀ k, (t.slot k).inj = 0#32) ∧ (∀ k
        : Fin 256, k ≠ hostSlot 7 → (t.slot k).real = (s.slot k).real) ∧ t.recd.journal = s.recd.journal ++ [s.journalRecord 1 (portOrigin
        e.port) (word (Reg.addrNat (.flt .injcfg))) w] ∧ RowFrame t s e)
    ∧ (s.hostReady e opWrite = true → s.injLive = true → bit w 1 ≠ s.flt.dryrun → ∃ t, exec (.fltInjcfgWrite e w) s = .next t ∧ t.answers e
        .notNow 0#32 [] = true ∧ RowActs t s e id)
    ∧ (∀ (k : Fin 256), s.hostReady e opWrite = true → s.recd.journal.length < 2047 → s.img.actPending = false → lowest (reactBad k.1 w) =
        none → ∃ t, exec (.fltReactWrite e k w) s = .next t ∧ t.answers e .ok s.recd.seqNext [] = true ∧ RowActs t s e (fun u =>
        ((u.appendJournal 1 (portOrigin e.port) (word (Reg.addrNat (.fltReact k))) w).modFlt (fun c => { c with tbl := c.tbl.set k.1 (w.truncate 8 &&& 0x77#8), explicit := c.explicit.set k.1 true })).diverge.mirrorOut (portOrigin e.port) (Reg.addr (.fltReact k)) w false
        none))
    ∧ (∀ (k : Fin 256), s.hostReady e opWrite = true → (199 ≤ k.1 ∨ fld w 0 2 = 3 ∨ fld w 0 2 < (slotRow k.1).minCls) → ∃ t, exec
        (.fltReactWrite e k w) s = .next t ∧ t.answers e .refused 0#32 [] = true ∧ RowActs t s e id)
    ∧ (∀ (k : Fin 256), s.hostReady e opWrite = true → lowest (reactBad k.1 w) = none → s.img.actPending = true → ∃ t, exec (.fltReactWrite e
        k w) s = .next t ∧ t.answers e .notNow 0#32 [] = true ∧ RowActs t s e id)
    ∧ (∀ (n : Fin 16), s.hostReady e opWrite = true → s.recd.journal.length < 2047 → s.img.actPending = false → safeAllowed (s.chan
        n).cfg.func (fld w 0 3) = true → (s.ring (ringOf n)).link = true → ∃ t, exec (.fltChsafeWrite e n w) s = .next t ∧ t.answers e .ok
        s.recd.seqNext [] = true ∧ RowActs t s e (fun u => (({ (u.appendJournal 1 (portOrigin e.port) (word (Reg.addrNat (.fltChsafe n))) w) with flt := { u.flt with safe := u.flt.safe.set n.1 (w.truncate 3) } } : State).modRing (ringOf n) (fun r => { r with cmdq := r.cmdq ++ [(.safeCode n (w.truncate 3), 0)] })).diverge.mirrorOut
        (portOrigin e.port) (Reg.addr (.fltChsafe n)) w false none))
    ∧ (∀ (n : Fin 16), s.hostReady e opWrite = true → safeAllowed (s.chan n).cfg.func (fld w 0 3) = false → ∃ t, exec (.fltChsafeWrite e n w)
        s = .next t ∧ t.answers e .refused 0#32 [] = true ∧ RowActs t s e id)

/-- EVENT_REPORT, RECORD_WRITTEN, TAIL_CACHE_COMMIT, PERIODIC_COMMIT, REC_CLEAR, JNL_CLEAR, CURSOR_WRITE: what an occurrence merges with,
stages or loses, what becomes a record, what is committed, and what a clear and a cursor do (R365, R366, R375, R376, R377, R378, R379,
R380, R382, R386, R449). Which log sector a commit ends in is log entry 147 (DEDUCED), and the words of a record whose CRC fails are
free values (log entry 6). -/
def Obligations.RecordsAreKeptCommittedAndCleared : Prop :=
  ∀ (s : State),
    (∀ (code : BitVec 16) (o : Origin) (p1 p2 : Word) (x : Staged), s.recd.staged.getLast? = some x → x.same (s.occurrence code o 0 p1 p2) =
        true → x.rep ≠ 0xFFFF#16 → exec (.eventReport code o p1 p2) s = .next { s with recd := { s.recd with staged := s.recd.staged.dropLast ++ [{ x with rep := x.rep + 1#16, last := s.opt }] } })
    ∧ (∀ (code : BitVec 16) (o : Origin) (p1 p2 : Word) (x : Staged), s.recd.staged.getLast? = some x → (x.same (s.occurrence code o 0 p1 p2)
        = false ∨ x.rep = 0xFFFF#16) → s.recd.staged.length < 16 → exec (.eventReport code o p1 p2) s = .next { s with recd := { s.recd with staged := s.recd.staged ++ [⟨code, BitVec.ofNat 8 (originCode o), BitVec.ofNat 8 s.pairFlag, p1, p2, s.opt, 0#16, s.opt, none⟩] } })
    ∧ (∀ (code : BitVec 16) (o : Origin) (p1 p2 : Word) (x : Staged), s.recd.staged.getLast? = some x → (x.same (s.occurrence code o 0 p1 p2)
        = false ∨ x.rep = 0xFFFF#16) → s.recd.staged.length = 16 → exec (.eventReport code o p1 p2) s = .next { s with recd := { s.recd with lostStaging := satInc s.recd.lostStaging, overflow := s.recd.overflow + 1 } })
    ∧ (∀ (code : BitVec 16) (o : Origin) (p1 p2 : Word) (x : Record), s.recd.staged = [] → s.recd.events.getLast? = some x → x.same
        (s.occurrence code o 0 p1 p2) = true → x.rep.toNat < 0xFFFF → s.recd.tailDirty = false → exec (.eventReport code o p1 p2) s = .next { s with recd := { s.recd with events := s.recd.events.dropLast ++ [{ x with rep := x.rep + 1#16, span := satTo 16 (s.opt.toNat - x.opt.toNat) }], tailDirty := true, dirtyMark := true, tailDue := s.clock + 1000000, tailGen := s.recd.tailGen + 1#16 } })
    ∧ (∀ (code : BitVec 16) (o : Origin) (p1 p2 : Word), s.recd.staged = [] → (∀ x, s.recd.events.getLast? = some x → x.same (s.occurrence
        code o 0 p1 p2) = false ∨ x.rep = 0xFFFF#16) → s.recd.events.length < 6144 → exec (.eventReport code o p1 p2) s = .next { s with recd := { s.recd with staged := [⟨code, BitVec.ofNat 8 (originCode o), BitVec.ofNat 8 s.pairFlag, p1, p2, s.opt, 0#16, s.opt, none⟩] } })
    ∧ (∀ (code : BitVec 16) (o : Origin) (p1 p2 : Word) (x : Record), s.recd.staged = [] → s.recd.events.getLast? = some x → (x.same
        (s.occurrence code o 0 p1 p2) = false ∨ x.rep = 0xFFFF#16) → 6144 ≤ s.recd.events.length → exec (.eventReport code o p1 p2) s = .next { s with recd := { s.recd with lostFull := satInc s.recd.lostFull } })
    ∧ (∀ (x : Staged) (rest : List Staged), s.recd.pfCommit ≠ some 0 → s.recd.staged = x :: rest → s.recd.events.length < 6142 → s.recd.overflow = 0 → x.mark = none →
        s.recd.tailDirty = false → exec .recordWritten s = .next { s with storeGen := s.storeGen + 1, recd := { s.recd with staged := rest, pfCommit := s.recd.pfCommit.map (· - 1), events := s.recd.events ++ [⟨x.code, x.origin, x.flags, s.recd.seqNext, x.opt, s.recd.pwrcyc, x.rep, x.p1, x.p2, if x.rep = 0#16 then 0#16 else satTo 16 (x.last.toNat - x.opt.toNat)⟩], seqNext := s.recd.seqNext + 1#32, tailDirty := false, dirtyMark := false, tailRep := x.rep, tailSpan := if x.rep = 0#16 then 0#16 else satTo 16 (x.last.toNat - x.opt.toNat), tailGen := s.recd.tailGen + 1#16 } })
    ∧ (∀ (x : Staged) (rest : List Staged), s.recd.pfCommit ≠ some 0 → s.recd.staged = x :: rest → s.recd.events.length < 6142 → s.recd.overflow = 0 → s.recd.tailDirty =
        true → ∃ t, exec .recordWritten s = .next t ∧ t.recd.events = s.recd.events ++ [x.record s.recd.seqNext s.recd.pwrcyc] ∧
        t.recd.tailDirty = false ∧ t.recd.optCommitted = s.opt ∧ t.recd.seqCommitted = s.recd.seqNext + 1#32 ∧ t.pair.minutesKept = satTo 32
        (s.pair.idleMinutes s.clock) ∧ t.bg.wear.logAt = s.bg.wear.logAt + 64 ∧ (x.mark = none → s.bg.wear.logAt / 4096 = (s.bg.wear.logAt + 64) / 4096 → t.cells = s.cells))
    ∧ (∀ (x : Staged) (rest : List Staged), s.recd.pfCommit ≠ some 0 → s.recd.staged = x :: rest → s.recd.events.length = 6142 → s.recd.overflow = 0 → ∃ t, exec
        .recordWritten s = .next t ∧ t.recd.events = s.recd.events ++ [x.record s.recd.seqNext s.recd.pwrcyc] ∧ (t.slot (hostSlot
        13)).real.getLsbD 0 = true)
    ∧ (∀ (x : Staged) (rest : List Staged), s.recd.pfCommit ≠ some 0 → s.recd.staged = x :: rest → s.recd.events.length < 6142 → s.recd.overflow ≠ 0 → rest.length < 16 →
        ∃ t, exec .recordWritten s = .next t ∧ t.recd.events = s.recd.events ++ [x.record s.recd.seqNext s.recd.pwrcyc] ∧ t.recd.overflow = 0
        ∧ (t.slot (hostSlot 14)).sticky = true ∧ (t.slot (hostSlot 14)).seen = false)
    ∧ ((s.recd.staged = [] ∨ s.recd.pfCommit = some 0) → exec .recordWritten s = .next s)
    ∧ (s.recd.tailDirty = true → s.recd.tailDue ≤ s.clock → ∃ t, exec .tailCacheCommit s = .next t ∧ t.recd = { s.recd with tailDirty := false, dirtyMark := false, tailRep := (s.recd.events.getLast?.map (·.rep)).getD 0#16, tailSpan := (s.recd.events.getLast?.map (·.span)).getD 0#16, optCommitted := s.opt, seqCommitted := s.recd.seqNext }
        ∧ t.pair.minutesKept = satTo 32 (s.pair.idleMinutes s.clock) ∧ (s.bg.wear.logAt / 4096 = (s.bg.wear.logAt + 64) / 4096 → t = { s with recd := t.recd, pair := { s.pair with minutesKept := t.pair.minutesKept }, bg := { s.bg with wear := { s.bg.wear with logAt := s.bg.wear.logAt + 64 }, calibGen := s.bg.calibGen + 1 } })
        ∧ (s.bg.wear.logAt / 4096 ≠ (s.bg.wear.logAt + 64) / 4096 → t.bg.wear = ({ s.bg.wear with logAt := s.bg.wear.logAt + 64 } : Wear).eraseFrom (logSector (s.bg.wear.logAt + 64)) 1))
    ∧ ((s.recd.tailDirty = false ∨ s.clock < s.recd.tailDue) → exec .tailCacheCommit s = .next s)
    ∧ (s.phase = .run → s.pwr.mode ≠ .cellar → s.recd.commitAt + 60000000 ≤ s.clock → ∃ t, exec .periodicCommit s = .next t ∧
        t.recd.optCommitted = s.opt ∧ t.recd.seqCommitted = s.recd.seqNext ∧ t.recd.commitAt = s.recd.commitAt + (s.clock - s.recd.commitAt) / 60000000 * 60000000 ∧ (∀ n : Fin 16,
        t.recd.swCommitted[n.1] = (s.chan n).stage.swcnt) ∧ t.pair.minutesKept = satTo 32 (s.pair.idleMinutes s.clock) ∧ t.bg.lifeKept = s.bg.life ∧ (s.bg.wear.logAt / 4096 = (s.bg.wear.logAt + 1024) / 4096 → t = { s with recd := { s.recd with optCommitted := t.recd.optCommitted, seqCommitted := t.recd.seqCommitted, commitAt := t.recd.commitAt, swCommitted := t.recd.swCommitted }, pair := { s.pair with minutesKept := t.pair.minutesKept }, bg := { s.bg with lifeKept := t.bg.lifeKept, wear := { s.bg.wear with logAt := s.bg.wear.logAt + 1024 }, calibGen := s.bg.calibGen + 1 } })
        ∧ (s.bg.wear.logAt / 4096 ≠ (s.bg.wear.logAt + 1024) / 4096 → t.bg.wear = ({ s.bg.wear with logAt := s.bg.wear.logAt + 1024 } : Wear).eraseFrom (logSector (s.bg.wear.logAt + 1024)) 1))
    ∧ ((s.pwr.mode = .cellar ∨ s.clock < s.recd.commitAt + 60000000) → exec .periodicCommit s = .next s)
    ∧ (∀ (e : Env) (w : Word), s.hostReady e opWrite = true → s.recd.events ≠ [] → w = lastSeq s.recd.events → s.recd.journal.length < 2047 → ∃
        t, exec (.recClear e w) s = .next t ∧ t.answers e .ok s.recd.seqNext [] = true ∧ t.recd.events = [] ∧ t.recd.tailDirty = false ∧
        t.recd.journal = s.recd.journal ++ [s.journalRecord 7 (portOrigin e.port) (firstSeq s.recd.events) (lastSeq s.recd.events)] ∧ (t.slot
        (hostSlot 13)).real.getLsbD 0 = false ∧ t.bg.wear = s.bg.wear.eraseFrom 64 ((s.recd.events.length + 127) / 128) ∧ t.chans = s.chans ∧ t.img = s.img ∧ t.fab = s.fab ∧ RowFrame t s e)
    ∧ (∀ (e : Env) (w : Word), s.hostReady e opWrite = true → s.recd.events ≠ [] → w = lastSeq s.recd.events → 2048 ≤ s.recd.journal.length → ∃
        t, exec (.recClear e w) s = .next t ∧ t.answers e .journalFull 0#32 [] = true ∧ RowActs t s e (fun u => { u with recd := { u.recd with jnlRefused := satInc u.recd.jnlRefused } }))
    ∧ (∀ (e : Env) (w : Word), s.hostReady e opWrite = true → s.recd.events ≠ [] → w ≠ lastSeq s.recd.events → ∃ t, exec (.recClear e w) s =
        .next t ∧ t.answers e .refused 0#32 [] = true ∧ RowActs t s e id)
    ∧ (∀ (e : Env) (w : Word), s.hostReady e opWrite = true → s.recd.events = [] → ∃ t, exec (.recClear e w) s = .next t ∧ t.answers e .notNow
        0#32 [] = true ∧ RowActs t s e id)
    ∧ (∀ (e : Env) (w : Word), s.hostReady e opWrite = true → s.recd.journal ≠ [] → w = lastSeq s.recd.journal → ∃ t, exec (.jnlClear e w) s =
        .next t ∧ t.answers e .ok s.recd.seqNext [] = true ∧ t.recd.journal = [s.journalRecord 8 (portOrigin e.port) (firstSeq s.recd.journal)
        (lastSeq s.recd.journal)] ∧ t.recd.seqNext = s.recd.seqNext + 1#32 ∧ (t.slot (hostSlot 12)).real.getLsbD 0 = false ∧ t.bg.wear = s.bg.wear.eraseFrom 112 ((s.recd.journal.length + 127) / 128) ∧ t.recd.events =
        s.recd.events ∧ t.chans = s.chans ∧ t.img = s.img ∧ t.fab = s.fab ∧ RowFrame t s e)
    ∧ (∀ (e : Env) (w : Word), s.hostReady e opWrite = true → s.recd.journal ≠ [] → w ≠ lastSeq s.recd.journal → ∃ t, exec (.jnlClear e w) s =
        .next t ∧ t.answers e .refused 0#32 [] = true ∧ RowActs t s e id)
    ∧ (∀ (e : Env) (w : Word), s.hostReady e opWrite = true → s.recd.journal = [] → ∃ t, exec (.jnlClear e w) s = .next t ∧ t.answers e
        .notNow 0#32 [] = true ∧ RowActs t s e id)
    ∧ (∀ (e : Env) (w : Word) (x : Record) (bad : Bool), s.hostReady e opWrite = true → s.recd.events[fld w 0 13]? = some x → ∃ t, exec
        (.cursorWrite e false w bad) s = .next t ∧ t.answers e .ok 0#32 [] = true ∧ RowActs t s e (fun u => { (if bad then u.free.2 else u) with recd := { u.recd with recCur := u.recd.recCur.set (mix (portMaster e.port)).1 ⟨w.truncate 13, true, !bad, decide (fld w 0 13 + 1 = u.recd.events.length), u.recd.tailGen, if bad then u.unmatched else windowWords x.bytes⟩ } }))
    ∧ (∀ (e : Env) (w : Word) (x : Record) (bad : Bool), s.hostReady e opWrite = true → s.recd.journal[fld w 0 13]? = some x → ∃ t, exec
        (.cursorWrite e true w bad) s = .next t ∧ t.answers e .ok 0#32 [] = true ∧ RowActs t s e (fun u => { (if bad then u.free.2 else u) with recd := { u.recd with jnlCur := u.recd.jnlCur.set (mix (portMaster e.port)).1 ⟨w.truncate 13, true, !bad, false, 0#16, if bad then u.unmatched else windowWords x.bytes⟩ } }))
    ∧ (∀ (e : Env) (w : Word) (bad : Bool), s.hostReady e opWrite = true → s.recd.events.length ≤ fld w 0 13 → ∃ t, exec
        (.cursorWrite e false w bad) s = .next t ∧ t.answers e .ok 0#32 [] = true ∧ RowActs t s e (fun u => { (if bad then u.free.2 else u) with recd := { u.recd with recCur := u.recd.recCur.set (mix (portMaster e.port)).1 ⟨w.truncate 13, false, false, false, u.recd.tailGen, []⟩ } }))
    ∧ (∀ (e : Env) (w : Word) (bad : Bool), s.hostReady e opWrite = true → s.recd.journal.length ≤ fld w 0 13 → ∃ t, exec
        (.cursorWrite e true w bad) s = .next t ∧ t.answers e .ok 0#32 [] = true ∧ RowActs t s e (fun u => { (if bad then u.free.2 else u) with recd := { u.recd with jnlCur := u.recd.jnlCur.set (mix (portMaster e.port)).1 ⟨w.truncate 13, false, false, false, 0#16, []⟩ } }))

/-- REPLAY_TRIGGER, REPLAY_ERASE, REPLAY_ERASE_DONE, REPLAY_MODE_WRITE, RERUN, RERUN_FRAME, ABORT_RERUN, SEAL, RPL_XDATA: captures, the
store, the mode, and a re-run with its comparison (R394, R396, R399, R400, R401, R402, R403, R404, R407). That the store reads empty
from the acceptance of ERASE is log entry 20, that SEAL outside loading is NOT_NOW log entry 58, and that RPL_XOFS wraps log entry 59:
all are DEDUCED, the model's reading. -/
def Obligations.CapturesAreTakenErasedAndRerun : Prop :=
  ∀ (e : Env) (w : Word) (s : State),
    (∀ (c : Capture), s.hostReady e opWrite = true → s.rpl.capture = some c → ∃ t, exec (.replayTrigger e w) s = .next t ∧ t.answers e .ok 0#32
        [] = true ∧ RowActs t s e (fun u => { u with rpl := { u.rpl with extra := satInc u.rpl.extra, capture := some { c with extra := satInc c.extra } } }))
    ∧ (s.hostReady e opWrite = true → s.rpl.capture = none → (s.rpl.on = true ∨ s.rpl.want = some true) → ∃ t, exec (.replayTrigger e w) s = .next t ∧ t.answers e .ok
        0#32 [] = true ∧ RowActs t s e (fun u => ({ u with rpl := { u.rpl with missed := satInc u.rpl.missed } } : State).event 0x13 3
        (portOrigin e.port) 3#32 (word s.fab.stepNo)))
    ∧ (s.hostReady e opWrite = true → s.rpl.capture = none → s.rpl.on = false → s.rpl.want ≠ some true → bit s.rpl.cfg 0 = true → s.rpl.ring = [] → s.rpl.used + 64 ≤
        262144 → ∃ t c, exec (.replayTrigger e w) s = .next t ∧ t.answers e .ok 0#32 [] = true ∧ t.rpl.capture = some c ∧ c.capno =
        s.rpl.nextNo ∧ c.at_ = s.rpl.used ∧ c.trigStep = s.fab.stepNo ∧ c.trigSrc = 3 ∧ c.frames = 0 ∧ RowActs t s e (fun u =>
        { (u.event 0x13 1 (portOrigin e.port) (word (u.rpl.nextNo % 65536 + 0x30000)) (word s.fab.stepNo)) with cells := Memory.writeAll u.cells (0x80000 + u.rpl.used) (c.header false), rpl := { u.rpl with capture := some c, nextNo := u.rpl.nextNo + 1, used := u.rpl.used + 64 } }))
    ∧ (s.hostReady e opWrite = true → s.rpl.capture = none → s.rpl.on = false → s.rpl.want ≠ some true → bit s.rpl.cfg 0 = false → ∃ t, exec (.replayTrigger e w) s =
        .next t ∧ t.answers e .ok 0#32 [] = true ∧ RowActs t s e id)
    ∧ (s.hostReady e opWrite = true → s.rpl.capture = none → s.rpl.rerun = none → s.recd.journal.length < 2047 → ∃ t, exec (.replayErase e w) s = .next t ∧ t.answers e .ok s.recd.seqNext [] = true ∧
        t.bg = { s.bg with wear := s.bg.wear.eraseFrom 128 64 } ∧ t.rpl.erasing = true ∧ t.rpl.loading = false ∧ (s.rpl.cfg = 0#32 → t.rpl = { s.rpl with erasing := true, erased := Memory.cellsOf s.cells 0x80000 0xC0000, loading := false, used := 0, captures := 0, nextNo := 1, full := false, availFrom := 0 }))
    ∧ (s.hostReady e opWrite = true → s.rpl.capture = none → s.rpl.rerun = none → s.recd.journal.length < 2047 → (∀ l : Fin 216, 128 ≤ l.1 → l.1 < 192 →
        s.bg.wear.mapped[l.1] + 1 < 100000) → ∃ t, exec (.replayErase e w) s = .next t ∧ t.answers e .ok s.recd.seqNext [] = true ∧ RowActs t s e (fun u => let v := u.appendJournal 1 (portOrigin e.port) (word (Reg.addrNat (.rpl .cmd))) (setFld w 0 5 2); { v with cells := u.cells.filter (fun c => c.1 < 0x80000 || 0xC0000 ≤ c.1), recd := { v.recd with staged := v.recd.staged.map (fun x => { x with mark := none }) }, bg := { v.bg with wear := { v.bg.wear with mapped := Vector.ofFn (fun (i : Fin 216) => v.bg.wear.mapped[i.1] + (if 128 ≤ i.1 ∧ i.1 < 192 then 1 else 0)) } }, rpl := { u.rpl with erasing := true, erased := Memory.cellsOf s.cells 0x80000 0xC0000, loading := false, used := 0, captures := 0, nextNo := 1, full := false, availFrom := 0 } }))
    ∧ (s.hostReady e opWrite = true → (s.rpl.capture.isSome = true ∨ s.rpl.rerun.isSome = true) → ∃ t, exec (.replayErase e w) s = .next t ∧
        t.answers e .notNow 0#32 [] = true ∧ RowActs t s e id)
    ∧ (s.rpl.erasing = true → exec .replayEraseDone s = .next { s with rpl := { s.rpl with erasing := false, erased := [], loading := s.rpl.on } })
    ∧ (s.rpl.erasing = false → exec .replayEraseDone s = .next s)
    ∧ (s.hostReady e opWrite = true → (bit w 0 = false ∨ s.replayBlocked = false) → s.recd.journal.length < 2047 → ∃ t, exec (.replayModeWrite e w)
        s = .next t ∧ t.answers e .ok s.recd.seqNext [] = true ∧ RowActs t s e (fun u => { (u.appendJournal 1 (portOrigin e.port) (word (Reg.addrNat (.rpl .mode))) w) with rpl := { u.rpl with want := some (bit w 0), modeReg := bit w 0 } }))
    ∧ (s.hostReady e opWrite = true → bit w 0 = true → (s.rpl.capture.isSome = true ∨ s.rpl.erasing = true ∨ s.img.actPending = true ∨
        s.img.noImage = true ∨ (s.img.paired = true ∧ s.pair.mayDrive = true)) → ∃ t, exec (.replayModeWrite e w) s = .next t ∧ t.answers e
        .notNow 0#32 [] = true ∧ RowActs t s e id)
    ∧ (s.hostReady e opWrite = true → (s.rpl.on = false ∨ s.rpl.erasing = true ∨ s.rpl.loading = true ∨ s.rpl.rerun.isSome = true) → ∃ t, exec
        (.rerun e w) s = .next t ∧ t.answers e .notNow 1#32 [] = true ∧ RowActs t s e id)
    ∧ (s.hostReady e opWrite = true → s.rpl.on = true → s.rpl.erasing = false → s.rpl.loading = false → s.rpl.rerun = none →
        s.closedCapture (fld w 8 8) = none → ∃ t, exec (.rerun e w) s = .next t ∧ t.answers e .notNow 2#32 [] =
        true ∧ RowActs t s e id)
    ∧ (∀ (c : Nat × List Byte), s.hostReady e opWrite = true → s.rpl.on = true → s.rpl.erasing = false → s.rpl.loading = false → s.rpl.rerun =
        none → s.closedCapture (fld w 8 8) = some c → some (word (u32 c.2 4)) ≠ s.img.running.map (·.crc) → ∃ t, exec
        (.rerun e w) s = .next t ∧ t.answers e .notNow 3#32 [] = true ∧ RowActs t s e id)
    ∧ (∀ (c : Nat × List Byte), s.hostReady e opWrite = true → s.rpl.on = true → s.rpl.erasing = false → s.rpl.loading = false → s.rpl.rerun =
        none → s.closedCapture (fld w 8 8) = some c → some (word (u32 c.2 4)) = s.img.running.map (·.crc) → ∃ t r,
        exec (.rerun e w) s = .next t ∧ t.answers e .ok 0#32 [] = true ∧ t.rpl.rerun = some r ∧ r.capno = fld w 8 8 ∧ r.at_ = c.1 + 64 ∧
        r.left = u32 c.2 40 - 64 ∧ r.stopAtDiv = bit w 16 ∧ r.prev = none ∧ t.rpl = { s.rpl with rerun := some r, runCap := BitVec.ofNat 8 (fld w 8 8), result := 0#2, divStep := 0#64, divDest := 0#16, divCount := 0#16 }
        ∧ t.cells = s.cells ∧ t.recd = s.recd ∧ t.fab = s.fab ∧ t.wheels = s.wheels ∧ t.rings = s.rings ∧ RowFrame t s e)
    ∧ (∀ (no : Nat) (c : Nat × List Byte), s.closedCapture no = some c → s.rpl.availFrom ≤ c.1 ∧ u16 c.2 0 = no ∧ u8 c.2 2 = 1)
    ∧ ((∀ r, s.rpl.rerun = some r → s.clock < r.due) → exec .rerunFrame s = .next s)
    ∧ (∀ (r : Rerun), s.rpl.rerun = some r → r.due ≤ s.clock → frameAt s.cells r.at_ r.left = none → exec .rerunFrame s = .next (({ s with rpl := { s.rpl with rerun := none, result := 3#2 } } : State).event
        0x13 4 .replay (word (r.capno + 3 * 65536)) (s.rpl.divStep.extractLsb' 0 32)))
    ∧ (∀ (r : Rerun) (b : List Byte), s.rpl.rerun = some r → r.due ≤ s.clock → frameAt s.cells r.at_ r.left = some b → r.prev = none → u8 b 10 / 2 % 2 = 1 →
        r.fab.outs = frameOuts b → b.length < r.left → (∀ v : WheelId, (s.wheel v).takesReplay = false) → ∃ t q, exec .rerunFrame s = .next t ∧
        t.rpl.rerun = some q ∧ q.at_ = r.at_ + b.length ∧ q.left = r.left - b.length ∧ q.prev = some r.fab.outs ∧ q.due = r.due + 20 ∧ t = { s with rpl := { s.rpl with rerun := some q } })
    ∧ (∀ (r : Rerun) (b : List Byte), s.rpl.rerun = some r → r.due ≤ s.clock → frameAt s.cells r.at_ r.left = some b → r.prev = none → u8 b 10 / 2 % 2 = 1 →
        r.fab.outs = frameOuts b → b.length = r.left → s.rpl.divCount = 0#16 → (∀ v : WheelId, (s.wheel v).takesReplay = false) → exec
        .rerunFrame s = .next (({ s with rpl := { s.rpl with rerun := none, result := 1#2 } } : State).event 0x13 4 .replay (word (r.capno +
        65536)) (s.rpl.divStep.extractLsb' 0 32)))
    ∧ (∀ (r : Rerun) (b : List Byte), s.rpl.rerun = some r → r.due ≤ s.clock → frameAt s.cells r.at_ r.left = some b → r.prev = none → u8 b 10 / 2 % 2 = 1 →
        r.fab.outs ≠ frameOuts b → s.rpl.divCount = 0#16 → r.stopAtDiv = true → r.firstStep < 2 ^ 32 → u32 b 0 = r.firstStep → (∀ v : WheelId, (s.wheel v).takesReplay = false) → ∃ t, exec .rerunFrame s = .next t ∧ t.rpl.rerun = none ∧
        t.rpl.result = 2#2 ∧ t.rpl.divCount = 1#16 ∧ t.rpl.divStep = BitVec.ofNat 64 r.firstStep ∧ t.cells = s.cells ∧ t.fab = s.fab ∧ t.rpl = { s.rpl with rerun := none, result := 2#2, divCount := 1#16, divStep := t.rpl.divStep, divDest := t.rpl.divDest })
    ∧ (∀ (r : Rerun), s.hostReady e opWrite = true → s.rpl.rerun = some r → ∃ t, exec (.abortRerun e w) s = .next t ∧ t.answers e .ok 0#32 [] =
        true ∧ RowActs t s e (fun u => ({ u with rpl := { u.rpl with rerun := none, result := 3#2 } } : State).event 0x13 4 .replay (word
        (r.capno + 3 * 65536)) (s.rpl.divStep.extractLsb' 0 32)))
    ∧ (s.hostReady e opWrite = true → s.rpl.rerun = none → ∃ t, exec (.abortRerun e w) s = .next t ∧ t.answers e .ok 0#32 [] = true ∧ RowActs t
        s e id)
    ∧ (s.hostReady e opWrite = true → s.rpl.loading = false → ∃ t, exec (.seal e w) s = .next t ∧ t.answers e .notNow 0#32 [] = true ∧ RowActs t
        s e id)
    ∧ (s.hostReady e opWrite = true → s.rpl.loading = true → sealEnd s.cells 4096 0 = none → ∃ t, exec (.seal e w) s = .next t ∧ t.answers e
        .refused 4#32 [] = true ∧ RowActs t s e id)
    ∧ (s.hostReady e opWrite = true → s.rpl.loading = true → (sealEnd s.cells 4096 0).isSome = true → ∃ t, exec (.seal e w) s = .next t ∧
        t.answers e .ok 0#32 [] = true ∧ t.rpl.loading = false ∧ t.rpl.availFrom = 0 ∧ t.cells = s.cells ∧ t.recd = s.recd ∧ RowFrame t s e)
    ∧ (s.hostReady e opWrite = true → s.rpl.loading = true → s.rpl.erasing = false → ∃ t, exec (.rplXdata e true w) s = .next t ∧ t.answers e .ok
        0#32 [] = true ∧ RowActs t s e (fun u => { u with cells := Memory.writeAll u.cells (0x80000 + s.rpl.xofs.toNat) (leBytes w), rpl := { u.rpl with xofs := s.rpl.xofs + 4#18 } }))
    ∧ (s.hostReady e opWrite = true → s.rpl.stateCode ≠ 6 → ∃ t, exec (.rplXdata e true w) s = .next t ∧ t.answers e .notNow 0#32 [] = true ∧
        RowActs t s e id)
    ∧ (s.hostReady e opRead = true → Memory.wf s.cells = true → ∃ t, exec (.rplXdata e false w) s = .next t ∧ t.answers e .ok 0#32 [word (leNat ((List.range 4).map (fun i
        => Memory.read s.cells (0x80000 + s.rpl.xofs.toNat + i))))] = true ∧ RowActs t s e (fun u => { u with rpl := { u.rpl with xofs := s.rpl.xofs + 4#18 } }))

/-- CHK_START, CHK_SCAN, CHK_ABORT, CHK_DATA, CHK_RUN_WRITE, SCAN_UNIT_DONE: a unit's commands, what they refuse, the bytes that enter the
running register, and a scan unit by unit (R409, R410, R411, R412, R413, R414, R415, R416, R417, R418). Which answer comes where several
refusals apply is log entry 10, for SCAN and RUN log entry 61: both are the model's choice. -/
def Obligations.CheckUnitsComputeAndScan : Prop :=
  ∀ (e : Env) (u : Fin 4) (w : Word) (s : State),
    (s.hostReady e opWrite = true → s.chkHeld u = none → s.chkBorrowed u = none → (s.chks[u.1]).st = .idle → (∃ t, exec (.chkStart e u w) s =
        .next t ∧ t.answers e .ok 0#32 [] = true ∧ RowActs t s e (fun v => v.modChk u (fun c => { c with run := c.init })))
        ∧ (∃ t, exec (.chkData e u w) s = .next t ∧ t.answers e .ok 0#32 [] = true ∧ RowActs t s e (fun v => v.modChk u (fun c => ((leBytes
        w).take (2 ^ fld c.cfg 16 2)).foldl Chk.feedByte c)))
        ∧ (w.toNat < 2 ^ fld (s.chks[u.1]).cfg 0 6 → ∃ t, exec (.chkRunWrite e u w) s = .next t ∧ t.answers e .ok 0#32 [] = true ∧ RowActs t s
        e (fun v => v.modChk u (fun c => { c with run := w })))
        ∧ (1 ≤ (s.chks[u.1]).len.toNat → (s.chks[u.1]).len.toNat ≤ 1048576 → (s.chks[u.1]).addr.toNat + (s.chks[u.1]).len.toNat ≤ spaceSize
        (s.chks[u.1]).space.toNat → ∃ t, exec (.chkScan e u w) s = .next t ∧ t.answers e .ok 0#32 [] = true ∧ RowActs t s e (fun v => v.modChk
        u (fun c => { c with st := .scanning, pos := 0#21, done := false, aborted := false, uncorr := false }))))
    ∧ (s.hostReady e opWrite = true → s.chkHeld u = none → s.chkBorrowed u = none → (s.chks[u.1]).st ≠ .idle → (∃ t, exec (.chkAbort e u w) s
        = .next t ∧ t.answers e .ok 0#32 [] = true ∧ RowActs t s e (fun v => v.modChk u (fun c => { c with st := .idle, aborted := true })))
        ∧ (∃ t, exec (.chkStart e u w) s = .next t ∧ t.answers e .notNow 2#32 [] = true ∧ RowActs t s e id)
        ∧ (∃ t, exec (.chkData e u w) s = .next t ∧ t.answers e .notNow 2#32 [] = true ∧ RowActs t s e id)
        ∧ (w.toNat < 2 ^ fld (s.chks[u.1]).cfg 0 6 → ∃ t, exec (.chkRunWrite e u w) s = .next t ∧ t.answers e .notNow 2#32 [] = true ∧ RowActs
        t s e id))
    ∧ (s.hostReady e opWrite = true → s.chkHeld u = none → s.chkBorrowed u = none → (s.chks[u.1]).st = .idle → ∃ t, exec (.chkAbort e u w) s =
        .next t ∧ t.answers e .ok 0#32 [] = true ∧ RowActs t s e id)
    ∧ (s.hostReady e opWrite = true → u = 3 → s.img.borrowed = true → (∃ t, exec (.chkStart e u w) s = .next t ∧ t.answers e .notNow 1#32 [] =
        true ∧ RowActs t s e id) ∧ (∃ t, exec (.chkData e u w) s = .next t ∧ t.answers e .notNow 1#32 [] = true ∧ RowActs t s e id) ∧ (∃ t,
        exec (.chkAbort e u w) s = .next t ∧ t.answers e .notNow 1#32 [] = true ∧ RowActs t s e id))
    ∧ (∀ (h : Word), s.hostReady e opWrite = true → s.chkHeld u = some h → (∃ t, exec (.chkStart e u w) s = .next t ∧ t.answers e .held h [] =
        true ∧ RowActs t s e id) ∧ (∃ t, exec (.chkData e u w) s = .next t ∧ t.answers e .held h [] = true ∧ RowActs t s e id))
    ∧ (s.hostReady e opWrite = true → ((s.chks[u.1]).len = 0#21 ∨ 1048576 < (s.chks[u.1]).len.toNat ∨ spaceSize (s.chks[u.1]).space.toNat <
        (s.chks[u.1]).addr.toNat + (s.chks[u.1]).len.toNat) → ∃ t, exec (.chkScan e u w) s = .next t ∧ t.answers e .refused 1#32 [] = true ∧
        RowActs t s e id)
    ∧ (s.hostReady e opWrite = true → 2 ^ fld (s.chks[u.1]).cfg 0 6 ≤ w.toNat → ∃ t, exec (.chkRunWrite e u w) s = .next t ∧ t.answers e
        .refused 0#32 [] = true ∧ RowActs t s e id)
    ∧ ((s.chks[u.1]).st = .scanning → (if s.loaderScans then u = 3 else s.scanTurn = some u) → (u = 3 → s.img.borrowed = false) →
        (s.chks[u.1]).pos.toNat + 64 < (s.chks[u.1]).len.toNat → exec (.scanUnitDone u false) s = .next { (s.modChk u (fun c => { (((List.range 64).map (fun i => s.scanByte c.space.toNat (c.addr.toNat + c.pos.toNat + i))).foldl Chk.feedByte c) with pos := c.pos + 64#21, done := false })) with freeCtr := s.freeCtr + 1, chkTurn := u + 1 })
    ∧ ((s.chks[u.1]).st = .scanning → (if s.loaderScans then u = 3 else s.scanTurn = some u) → u = 3 → s.img.borrowed = true →
        (s.chks[u.1]).pos.toNat + 64 < (s.chks[u.1]).len.toNat → exec (.scanUnitDone u false) s = .next { (s.modChk u (fun c => { (((List.range 64).map (fun i => s.scanByte c.space.toNat (c.addr.toNat + c.pos.toNat + i))).foldl Chk.feedByte c) with pos := c.pos + 64#21, done := false, st := .suspended })) with freeCtr := s.freeCtr + 1, chkTurn := u + 1 })
    ∧ ((s.chks[u.1]).st = .scanning → (if s.loaderScans then u = 3 else s.scanTurn = some u) → (s.chks[u.1]).pos.toNat < (s.chks[u.1]).len.toNat → (s.chks[u.1]).len.toNat ≤ (s.chks[u.1]).pos.toNat +
        64 → exec (.scanUnitDone u false) s = .next { (s.modChk u (fun c => { (((List.range (c.len.toNat - c.pos.toNat)).map (fun i => s.scanByte c.space.toNat (c.addr.toNat + c.pos.toNat + i))).foldl Chk.feedByte c) with pos := c.len, st := .idle, done := true })) with freeCtr := s.freeCtr + 1, chkTurn := u + 1 })
    ∧ ((s.chks[u.1]).st = .scanning → (if s.loaderScans then u = 3 else s.scanTurn = some u) → (s.chks[u.1]).space.toNat < 5 → ∃ t, exec (.scanUnitDone u true) s = .next t ∧
        (t.chks[u.1]).uncorr = true ∧ (t.chks[u.1]).errcnt = satInc (s.chks[u.1]).errcnt ∧ (t.slot (hostSlot 10)).sticky = true ∧ (∀ v : Fin 4, v ≠ u →
        t.chks[v.1] = s.chks[v.1]) ∧ KeepsHost t s ∧ t.img = s.img ∧ t.fab = s.fab ∧ t.adcs = s.adcs ∧ t.filt = s.filt)
    ∧ ((s.chks[u.1]).st = .scanning → (if s.loaderScans then u = 3 else s.scanTurn = some u) → (s.chks[u.1]).space = 5#3 → ∃ t, exec (.scanUnitDone u true) s = .next t ∧ (t.chks[u.1]).uncorr = true ∧
        (t.chks[u.1]).errcnt = satInc (s.chks[u.1]).errcnt ∧ (t.slot (hostSlot 8)).sticky = true)
    ∧ ((s.chks[u.1]).st = .scanning → (if s.loaderScans then u = 3 else s.scanTurn = some u) → (s.chks[u.1]).space = 6#3 → ∃ t, exec (.scanUnitDone u true) s = .next t ∧ (t.chks[u.1]).uncorr = true ∧
        (t.chks[u.1]).errcnt = satInc (s.chks[u.1]).errcnt ∧ (t.slot (hostSlot 6)).real.getLsbD 0 = true)
    ∧ (∀ (bad : Bool), ((s.chks[u.1]).st ≠ .scanning ∨ (s.loaderScans = true ∧ u ≠ 3) ∨ (s.loaderScans = false ∧ s.scanTurn ≠ some u)) → exec (.scanUnitDone u bad) s = .next s)

/-- TZ_HEARTBEAT_SEND, HEARTBEAT, QUAL_SEND, QUAL, MIRROR, MIRROR_RESEND, ACK, EPOCH, MIRROR_GAP, TRAPEZE_FRAME_DISCARD, EPOCH_SEND_DONE:
what a unit sends, what each received frame writes, and what is discarded (R423, R424, R425, R430, R431, R432, R440, R442, R443, R444).
BUSY as 0xFE is log entry 37, a driving unit that ignores MIRROR log entry 38, repetition and sequence 0 log entry 40, and the rounding
of missed heartbeats log entry 71: the model's choices. -/
def Obligations.TrapezeFramesAreSentAndTaken : Prop :=
  ∀ (b : List Byte) (s : State),
    (s.tzOn = true → s.pair.beatAt + 100 ≤ s.clock → ∃ t, exec .tzHeartbeatSend s = .next t ∧ t.pair.sentHeartbeat = t.heartbeatBytes ∧ t.pair.sentHeartbeat.length = 16 ∧ .bytes 1#8 t.pair.sentHeartbeat ∈ t.pair.tx ∧
        u8 t.pair.sentHeartbeat 0 = roleCode t.pair.role ∧ u8 t.pair.sentHeartbeat 1 = b2n s.img.pairId ∧ u16 t.pair.sentHeartbeat 8 =
        s.pair.mirOwn.toNat ∧ u16 t.pair.sentHeartbeat 10 = t.pair.uq.toNat ∧ t.pair.lines = { s.pair with beatAt := s.clock }.lines ∧ PairFrame t s)
    ∧ (s.tzOn = true → s.pair.qualAt + 1000000 ≤ s.clock → exec .qualSend s = .next { s with pair := { s.pair with sentQual := s.qualBytes, qualAt := s.clock, tx := (s.pair.enqueue (.bytes 2#8 s.qualBytes)).tx } } ∧ s.qualBytes.length = 32 ∧ u32
        s.qualBytes 0 = s.identity.1.toNat ∧ u32 s.qualBytes 4 = s.identity.2.1.toNat ∧ u32 s.qualBytes 8 = s.identity.2.2.toNat ∧ u8
        s.qualBytes 12 = 1 ∧ u8 s.qualBytes 13 = 2 ∧ u8 s.qualBytes 14 = b2n s.img.pairId)
    ∧ (s.clock < s.pair.beatAt + 100 → exec .tzHeartbeatSend s = .next s)
    ∧ (s.clock < s.pair.qualAt + 1000000 → exec .qualSend s = .next s)
    ∧ (s.tzOn = true → b.length = 16 → ∃ t, exec (.heartbeat b) s = .next t ∧ t.pair.tzUp = true ∧ t.pair.lastFrame = s.clock ∧ t.pair.lastBeat =
        s.clock ∧ t.pair.partnerRole = BitVec.ofNat 4 (u8 b 0) ∧ t.pair.partnerId = decide (u8 b 1 = 1) ∧ t.pair.partnerFlags = BitVec.ofNat 8
        (u8 b 2) ∧ t.pair.mirPeer = BitVec.ofNat 16 (u16 b 8) ∧ t.pair.partnerUq = BitVec.ofNat 10 (u16 b 10) ∧ t.pair.missed = (if
        s.pair.tzUp then satAdd s.pair.missed ((s.clock - s.pair.lastBeat + 50) / 100 - 1) else s.pair.missed) ∧ t.pair.peerCrc = s.pair.peerCrc
        ∧ t.pair.mirOwn = s.pair.mirOwn ∧ (s.pair.tzUp = false → (t.slot (hostSlot 20)).real.getLsbD 0 = false) ∧ (s.pair.peerSeen = true →
        t.pair.uq.getLsbD 2 = decide (decide (u8 b 1 = 1) = s.img.pairId)) ∧ PairFrame t s)
    ∧ (s.tzOn = true → b.length = 32 → ∃ t, exec (.qual b) s = .next t ∧ t.pair.tzUp = true ∧ t.pair.lastFrame = s.clock ∧ t.pair.peerSeen =
        true ∧ t.pair.peerCrc = word (u32 b 0) ∧ t.pair.peerLen = word (u32 b 4) ∧ t.pair.peerVer = word (u32 b 8) ∧ t.pair.peerMin =
        BitVec.ofNat 4 (u8 b 12) ∧ t.pair.peerMax = BitVec.ofNat 4 (u8 b 13) ∧ t.pair.partnerId = decide (u8 b 14 = 1) ∧ t.pair.peerFlags =
        BitVec.ofNat 8 (u8 b 15) ∧ t.pair.uq.getLsbD 0 = (decide ((word (u32 b 0), word (u32 b 4), word (u32 b 8)) ≠ s.identity) ||
        s.img.noImage || (BitVec.ofNat 8 (u8 b 15)).getLsbD 1) ∧ t.pair.uq.getLsbD 1 = decide (t.pair.rev = 0) ∧ t.pair.uq.getLsbD 2 = decide
        (decide (u8 b 14 = 1) = s.img.pairId) ∧ t.pair.mirPeer = s.pair.mirPeer ∧ PairFrame t s)
    ∧ (s.tzOn = true → (s.pair.badTimes.filter (fun t => decide (s.clock < t + 1000000))).length < 64 → exec .trapezeFrameDiscard s = .next
        s.frameDiscarded ∧ (b.length ≠ 16 → exec (.heartbeat b) s = .next s.frameDiscarded) ∧ (b.length ≠ 32 → exec (.qual b) s = .next s.frameDiscarded) ∧
        (b.length ≠ (if (u8 b 3).testBit 1 then 32 else 16) → exec (.mirror b) s = .next s.frameDiscarded) ∧ ((b.length < 4 ∨ 256 < b.length) → exec (.epoch b) s = .next
        s.frameDiscarded))
    ∧ (s.tzOn = true → 64 ≤ (s.pair.badTimes.filter (fun t => decide (s.clock < t + 1000000))).length → ∃ t, exec .trapezeFrameDiscard s = .next
        t ∧ (t.slot (hostSlot 27)).real.getLsbD 0 = true ∧ t.pair.tzCrc = satInc s.pair.tzCrc ∧ ReportFrame t s.frameDiscarded)
    ∧ (∀ (a : AckOf) (nf : Bool), s.tzOn = false → exec .tzHeartbeatSend s = .next s ∧ exec .qualSend s = .next s ∧ exec (.heartbeat b) s = .next
        s ∧ exec (.qual b) s = .next s ∧ exec (.mirror b) s = .next s ∧ exec (.ack a nf) s = .next s ∧ exec (.epoch b) s = .next s ∧ exec
        .trapezeFrameDiscard s = .next s)
    ∧ (s.tzOn = true → s.pair.tzUp = true → (b.length = 16 ∨ b.length = 32) → (u8 b 3).testBit 1 = decide (b.length = 32) → (word (u32 b 10) ≠
        s.identity.1 ∨ s.pair.driving = true) → exec (.mirror b) s = .next s.framed)
    
    ∧ (s.tzOn = true → s.pair.tzUp = true → (b.length = 16 ∨ b.length = 32) → (u8 b 3).testBit 1 = decide (b.length = 32) → word (u32 b 10) =
        s.identity.1 → s.pair.driving = false → s.pair.mirLast = BitVec.ofNat 16 (u16 b 8) → BitVec.ofNat 16 (u16 b 8) ≠ 0#16 → exec (.mirror
        b) s = .next { s with pair := { s.pair with lastFrame := s.clock, mirBusy := decide (s.pair.mirCode = 0xFE#8), sentAck := some (.mirror (BitVec.ofNat 16 (u16 b 8)) s.pair.mirCode, s.pair.stale || s.pair.needFull), tx := (s.pair.enqueue (.ack (.mirror (BitVec.ofNat 16 (u16 b 8)) s.pair.mirCode) (s.pair.stale || s.pair.needFull))).tx } })
    ∧ (s.tzOn = true → s.pair.tzUp = true → (b.length = 16 ∨ b.length = 32) → (u8 b 3).testBit 1 = decide (b.length = 32) → word (u32 b 10) =
        s.identity.1 → s.pair.driving = false → (s.pair.mirLast ≠ BitVec.ofNat 16 (u16 b 8) ∨ BitVec.ofNat 16 (u16 b 8) = 0#16) → s.mayTake
        .trapeze = false → exec (.mirror b) s = .next { s with pair := { s.pair with lastFrame := s.clock, mirBusy := true, sentAck := some (.mirror (BitVec.ofNat 16 (u16 b 8)) 0xFE#8, s.pair.stale || s.pair.needFull), tx := (s.pair.enqueue (.ack (.mirror (BitVec.ofNat 16 (u16 b 8)) 0xFE#8) (s.pair.stale || s.pair.needFull))).tx } })
    ∧ (∀ (k : Fin 256), s.tzOn = true → s.pair.tzUp = true → b.length = 16 → u8 b 3 = 0 → word (u32 b 10) = s.identity.1 → s.pair.driving = false →
        (s.pair.mirLast ≠ BitVec.ofNat 16 (u16 b 8) ∨ BitVec.ofNat 16 (u16 b 8) = 0#16) → s.mayTake .trapeze = true → BitVec.ofNat 24 (leNat
        (slice b 0 3)) = Reg.addr (.fltReact k) → lowest (reactBad k.1 (word (u32 b 4))) = none → s.img.actPending = false →
        s.recd.journal.length < 2047 → ∃ t, exec (.mirror b) s = .next t ∧ t.flt.tbl = s.flt.tbl.set k.1 ((word (u32 b 4)).truncate 8 &&&
        0x77#8) ∧ t.recd.journal = s.recd.journal ++ [s.journalRecord 1 .trapeze (word (Reg.addrNat (.fltReact k))) (word (u32 b 4))] ∧
        t.pair.mirLast = BitVec.ofNat 16 (u16 b 8) ∧ t.pair.mirOwn = s.pair.mirOwn + 1#16 ∧ t.pair.sentAck = some (.mirror (BitVec.ofNat 16
        (u16 b 8)) 0x00#8, s.pair.stale || s.pair.needFull) ∧ t.pair.mirCode = 0x00#8 ∧ (∀ m, t.held m = s.held m) ∧ KeepsHost { t with tickets := s.tickets, ports := s.ports } s)
    ∧ (∀ (k : Fin 256), s.tzOn = true → s.pair.tzUp = true → b.length = 16 → u8 b 3 = 0 → word (u32 b 10) = s.identity.1 → s.pair.driving = false →
        (s.pair.mirLast ≠ BitVec.ofNat 16 (u16 b 8) ∨ BitVec.ofNat 16 (u16 b 8) = 0#16) → s.mayTake .trapeze = true → BitVec.ofNat 24 (leNat
        (slice b 0 3)) = Reg.addr (.fltReact k) → lowest (reactBad k.1 (word (u32 b 4))) ≠ none → ∃ t, exec (.mirror b) s = .next t ∧
        t.pair.uq.getLsbD 4 = true ∧ (s.pair.uq.getLsbD 4 = false → t.pair.role ≠ .standby) ∧ t.pair.mirLast = BitVec.ofNat 16 (u16 b 8) ∧ t.pair.mirOwn = s.pair.mirOwn ∧
        t.pair.sentAck = some (.mirror (BitVec.ofNat 16 (u16 b 8)) (Status.refused).code, s.pair.stale || s.pair.needFull) ∧ t.pair.mirCode = (Status.refused).code ∧ t.recd.journal = s.recd.journal ∧ (∀ m, t.held m = s.held m) ∧ PairFrame { t with tickets := s.tickets, ports := s.ports } s)
    ∧ (∀ (f : Flight), s.tzOn = true → s.pair.flight = some f → s.pair.mirrorOpen = true → f.at_ + 200 ≤ s.clock → f.sends < 8 → exec
        .mirrorResend s = .next { s with pair := { s.pair with flight := some { f with sends := f.sends + 1, at_ := s.clock }, sentMirror := s.mirrorBytes f.m, tx := (s.pair.enqueue (.bytes 3#8 (s.mirrorBytes f.m))).tx } })
    ∧ (∀ (f : Flight), s.tzOn = true → s.pair.flight = some f → s.pair.mirrorOpen = true → f.at_ + 200 ≤ s.clock → 8 ≤ f.sends → s.pair.mirQueue = [] → exec
        .mirrorResend s = .next { s with pair := { s.pair with flight := none } })
    ∧ (∀ (f : Flight) (m : Mirror) (rest : List Mirror), s.tzOn = true → s.pair.flight = some f → s.pair.mirrorOpen = true → f.at_ + 200 ≤ s.clock → 8 ≤ f.sends →
        s.pair.mirQueue = m :: rest → exec .mirrorResend s = .next { s with pair := { s.pair with flight := some ⟨m, 1, s.clock⟩, mirQueue := rest, sentMirror := s.mirrorBytes m, tx := (s.pair.enqueue (.bytes 3#8 (s.mirrorBytes m))).tx } })
    ∧ (s.pair.flight = none ∨ s.pair.mirrorOpen = false ∨ s.tzOn = false → exec .mirrorResend s = .next s)
    ∧ (∀ (f : Flight) (status : Byte) (nf : Bool), s.tzOn = true → s.pair.tzUp = true → s.pair.flight = some f → s.pair.mirQueue = [] → status ≠
        0xFE#8 → ∃ t, exec (.ack (.mirror f.m.seq status) nf) s = .next t ∧ t.pair.lines = { s.pair with lastFrame := s.clock, flight := none, needFullPeer := nf }.lines
        ∧ PairFrame t s)
    ∧ (∀ (f : Flight) (nf : Bool), s.tzOn = true → s.pair.tzUp = true → s.pair.flight = some f → exec (.ack (.mirror f.m.seq 0xFE#8) nf) s = .next
        { s with pair := { s.pair with lastFrame := s.clock, needFullPeer := nf, flight := some { f with sends := f.sends - 1, at_ := s.clock - 100 } } })
    ∧ (∀ (f : Flight) (seq : BitVec 16) (status : Byte) (nf : Bool), s.tzOn = true → s.pair.tzUp = true → s.pair.flight = some f → f.m.seq ≠ seq →
        exec (.ack (.mirror seq status) nf) s = .next { s with pair := { s.pair with lastFrame := s.clock, needFullPeer := nf } })
    ∧ (∀ (number : Word) (nf : Bool), s.tzOn = true → s.pair.tzUp = true → s.pair.swap = none → exec (.ack (.epoch number) nf) s = .next
        { s with pair := { s.pair with lastFrame := s.clock, needFullPeer := nf } })
    ∧ (s.tzOn = true → s.pair.tzUp = true → 4 ≤ b.length → b.length ≤ 256 → s.pair.driving = true → exec (.epoch b) s = .next s.framed)
    ∧ (s.tzOn = true → s.pair.tzUp = true → 4 ≤ b.length → b.length ≤ 256 → s.pair.driving = false → s.pair.discarding = false → (∀ g ∈
        s.pair.segs, g.1 = u16 b 0) → u8 b 2 = s.pair.segs.length → u8 b 2 + 1 ≠ u8 b 3 → ∃ t, exec (.epoch b) s = .next t ∧ t.pair.lines =
        { s.pair with lastFrame := s.clock, segs := s.pair.segs ++ [(u16 b 0, u8 b 2, b.drop 4)] }.lines ∧ PairFrame t s)
    ∧ (∀ (x : Epoch) (full : Bool), s.tzOn = true → s.pair.tzUp = true → 4 ≤ b.length → b.length ≤ 256 → s.pair.role ∈ [Role.standby,
        Role.unqualified] → s.pair.discarding = false → (∀ g ∈ s.pair.segs, g.1 = u16 b 0) → u8 b 2 = s.pair.segs.length → u8 b 2 + 1 = u8 b 3 →
        s.readEpoch (s.pair.segs.flatMap (·.2.2) ++ b.drop 4) = some (x, full) → ∃ t, exec (.epoch b) s = .next t ∧ t.pair.held = some x ∧
        t.pair.heldAt = s.clock ∧ t.pair.segs = [] ∧ t.pair.stale = (s.pair.stale && !full) ∧ t.pair.needFull = (s.pair.needFull && !full) ∧
        (∃ nf, t.pair.sentAck = some (.epoch x.number, nf)) ∧ t.pair.discarded = s.pair.discarded ∧ PairFrame t s)
    ∧ (s.tzOn = true → s.pair.tzUp = true → 4 ≤ b.length → b.length ≤ 256 → s.pair.driving = false → s.pair.discarding = false → (∀ g ∈
        s.pair.segs, g.1 = u16 b 0) → u8 b 2 = s.pair.segs.length → u8 b 2 + 1 = u8 b 3 → s.readEpoch (s.pair.segs.flatMap (·.2.2) ++ b.drop 4)
        = none → ∃ t, exec (.epoch b) s = .next t ∧ t.pair.segs = [] ∧ t.pair.discarded = satInc s.pair.discarded ∧ (t.slot (hostSlot
        26)).sticky = true ∧ t.pair.sentAck = s.pair.sentAck ∧ (s.baseMismatch (s.pair.segs.flatMap (·.2.2) ++ b.drop 4) = true →
        t.pair.needFull = true) ∧ PairFrame t s)
    ∧ (s.pair.sending.isSome = true → s.pair.segmentsGone s.clock = true → exec .epochSendDone s = .next { s with pair := { s.pair with lastSent := s.pair.sending, sending := none } })
    ∧ ((s.pair.sending = none ∨ s.pair.segmentsGone s.clock = false) → exec .epochSendDone s = .next s)
    ∧ (∀ (f : TzFrame) (rest : List TzFrame), s.pair.tx = f :: rest → s.pair.txAt < 25 * (s.clock + 1) → s.pair.transmit s.clock = { s.pair with
        tx := rest, line := some (s.pair.fseq, f), fseq := s.pair.fseq + 1#8, txAt := max s.pair.txAt (25 * s.clock) + 2 * (f.len + 7) })
    ∧ (∀ (f : TzFrame), s.pair.tx.Pairwise (fun g h => g.precedence ≤ h.precedence) → (s.pair.enqueue f).tx.Pairwise (fun g h => g.precedence ≤
        h.precedence) ∧ f ∈ (s.pair.enqueue f).tx ∧ (s.pair.enqueue f).tx.length = s.pair.tx.length + 1)
    ∧ (∀ (g : Nat), s.roleOn = true → s.pair.leads = false → s.pair.gapFrom = some g → g + 1000 ≤ s.clock → ∃ t, exec .mirrorGap s = .next t ∧
        t.pair.uq.getLsbD 4 = true ∧ (s.pair.uq.getLsbD 4 = false → t.pair.role ≠ .standby) ∧ t.pair.lines = s.pair.lines ∧ PairFrame t s)
    ∧ ((s.roleOn = false ∨ s.pair.leads = true ∨ s.pair.gapFrom = none) → exec .mirrorGap s = .next s)

/-- SWAP_REQ, SWAP_GO, SWAP_DONE, SWAP_DONE_TIMEOUT, ACK of a swap epoch, PAIR_SWAP, PAIR_RELEASE, REQUALIFY, SWAP_DUE: a planned swap from
its command to its end, and the role commands with what refuses them (R434, R438, R446, R448, R449, R452). The reason of the claim after
a SWAP_DONE time-out is log entry 66, and the order of the INFO codes, with code 5 while the partner is SWAPPING, log entry 145: the
model's choices. -/
def Obligations.PlannedSwapsAndRoleCommands : Prop :=
  ∀ (e : Env) (w : Word) (s : State),
    (s.tzOn = true → s.pair.tzUp = true → s.pair.role = .active → s.img.actPending = false → s.pair.rev ≠ 0 → s.pair.partnerRole = 2#4 →
        s.pair.partnerFlags.getLsbD 1 = false → 20 ≤ s.fab.stepSoon → s.keepsRole → ∃ t, exec .swapReq s = .next t ∧ t.pair.role = .swapping ∧
        t.pair.swap = some ⟨0#32, 0, false, 0⟩ ∧ t.pair.lines = s.framed.pair.lines ∧ t.recd.journal = s.recd.journal ∧ PairFrame t s)
    ∧ (s.tzOn = true → s.pair.tzUp = true → (s.pair.role ≠ .active ∨ s.img.actPending = true ∨ s.pair.rev = 0 ∨ s.pair.partnerRole ≠ 2#4 ∨
        s.pair.partnerFlags.getLsbD 1 = true ∨ s.fab.stepSoon < 20) → exec .swapReq s = .next s.framed)
    ∧ (∀ (x : Epoch), s.tzOn = true → s.pair.tzUp = true → s.pair.role = .standby → s.pair.held = some x → s.pair.sourceOn = false →
        s.keepsRole → ∃ t, exec (.swapGo x.number true) s = .next t ∧ t.pair.role = .claiming ∧ t.pair.claimReason = 2#4 ∧ t.pair.claimFrom = s.clock ∧
        t.pair.sourceOn = false ∧ t.pair.togglePend = true ∧ t.pair.issued = s.clock ∧ ((s.ring .a).link = true → (.source true, 0) ∈ (t.ring .a).cmdq) ∧ (∀ n, (s.ring (ringOf n)).link = true → (.drive n (t.chan n).cmd.drive (t.chan n).cmd.alt, 0) ∈ (t.ring (ringOf n)).cmdq) ∧ t.pair.held = s.pair.held ∧ t.fab = { s.fab with outChan := x.outChan } ∧ (∀ n, (t.chan n).cmd.doCmd = x.setpoint n.1 0 &&& 3#32 ∧ (t.chan n).cfg.doDuty =
        x.setpoint n.1 1 ∧ (t.chan n).cmd.anCmd = x.setpoint n.1 2 &&& 1#32 ∧ (t.chan n).cmd.anSet = x.setpoint n.1 3) ∧ KeepsHost t s ∧ t.img = s.img ∧ t.recd.core =
        s.recd.core ∧ t.flt.core = s.flt.core)
    ∧ (∀ (x : Epoch), s.tzOn = true → s.pair.tzUp = true → s.pair.role = .standby → s.pair.held = some x → s.pair.sourceOn = false →
        s.keepsRole → ∃ t, exec (.swapGo x.number false) s = .next t ∧ t.pair.rests ∧ t.pair.sourceOn = false ∧ t.pair.toggles = s.pair.toggles ∧ t.fab = { s.fab with outChan := x.outChan } ∧ (∀ n, (t.chan n).cmd.doCmd = x.setpoint n.1 0 &&& 3#32 ∧ (t.chan n).cfg.doDuty =
        x.setpoint n.1 1 ∧ (t.chan n).cmd.anCmd = x.setpoint n.1 2 &&& 1#32 ∧ (t.chan n).cmd.anSet = x.setpoint n.1 3) ∧ KeepsHost t s ∧ t.img = s.img ∧ t.recd.core =
        s.recd.core ∧ t.flt.core = s.flt.core)
    ∧ (∀ (n : Word) (idle : Bool), s.tzOn = true → s.pair.tzUp = true → (s.pair.role ≠ .standby ∨ s.pair.held.map (·.number) ≠ some n) → exec
        (.swapGo n idle) s = .next s.framed)
    ∧ (∀ (v : Swap), s.tzOn = true → s.pair.tzUp = true → s.pair.role = .swapping → s.pair.swap = some v → v.go = true → ∃ t, exec .swapDone s =
        .next t ∧ t.pair.rests ∧ t.pair.swap = none ∧ t.pair.evt.getLsbD 4 = true ∧ t.pair.held = none ∧ t.pair.stale = true ∧ t.pair.lines =
        s.framed.pair.lines ∧ PairFrame t s)
    ∧ (∀ (v : Swap), s.tzOn = true → s.pair.tzUp = true → s.pair.role ≠ .swapping → s.pair.swap = some v → v.go = true → ∃ t, exec .swapDone s =
        .next t ∧ t.pair.swap = none ∧ t.pair.evt.getLsbD 4 = true ∧ t.pair.lines = s.framed.pair.lines ∧ PairFrame t s)
    ∧ (s.tzOn = true → s.pair.tzUp = true → (∀ v, s.pair.swap = some v → v.go = false) → exec .swapDone s = .next s.framed)
    ∧ (∀ (v : Swap), s.roleOn = true → s.pair.role = .swapping → s.pair.swap = some v → v.go = true → v.goAt + 1000 ≤ s.clock → s.pair.sourceOn = false → s.keepsRole
        → (∃ t, exec (.swapDoneTimeout true) s = .next t ∧ t.pair.role = .claiming ∧ t.pair.claimReason = 5#4 ∧ t.pair.claimFrom = s.clock ∧
        t.pair.swap = none ∧ t.pair.evt.getLsbD 5 = true ∧ t.pair.sourceOn = false ∧ t.pair.togglePend = true ∧ t.pair.issued = s.clock ∧ ((s.ring .a).link = true → (.source true, 0) ∈ (t.ring .a).cmdq) ∧ PairFrame t s) ∧ (∃ t, exec
        (.swapDoneTimeout false) s = .next t ∧ t.pair.swap = none ∧ t.pair.evt.getLsbD 5 = true ∧ t.pair.sourceOn = false ∧ (s.img.paired = true
        → t.pair.rests) ∧ PairFrame t s))
    ∧ (∀ (idle : Bool), (s.roleOn = false ∨ s.pair.swap = none ∨ s.pair.role ≠ .swapping ∨ ∀ v, s.pair.swap = some v → v.go = false ∨ s.clock < v.goAt + 1000) →
        exec (.swapDoneTimeout idle) s = .next s)
    ∧ (∀ (v : Swap) (nf : Bool), s.tzOn = true → s.pair.tzUp = true → s.pair.role = .swapping → s.pair.swap = some v → v.go = false → 0 <
        v.attempts → s.keepsRole → ∃ t, exec (.ack (.epoch v.epoch) nf) s = .next t ∧ t.pair.role = .swapping ∧ t.pair.swap = some { v with go := true, goAt := s.clock } ∧ ((s.ring .a).link = true → (.source false, 0) ∈ (t.ring .a).cmdq) ∧ t.pair.togglePend = false ∧ t.pair.sending = none ∧ t.pair.sentSwap = some (.go v.epoch) ∧ t.pair.needFullPeer = nf ∧
        t.pair.mayDrive = false ∧ (∀ x ∈ [RingId.a, RingId.b], (s.ring x).logic = true → (t.ring x).beat.map (·.gate) = some false) ∧ t.pair.toldRole = t.pair.work ∧ (s.pair.toldRole ≠ t.pair.work → ∀ x ∈ [RingId.a, RingId.b], (s.ring x).link = true → (.role t.pair.work false 0#16, 0) ∈ (t.ring x).cmdq) ∧ t.pair.work.standby = true ∧ t.chans = s.chans ∧ KeepsHost t s ∧ t.img =
        s.img ∧ t.fab = s.fab ∧ t.recd.core = s.recd.core ∧ t.flt.core = s.flt.core)
    ∧ (s.hostReady e opWrite = true → s.pairOn = true → s.pair.role = .active → s.img.actPending = false → s.pair.tzUp = true → s.pair.rev ≠ 0 →
        s.pair.partnerRole = 2#4 → s.pair.partnerFlags.getLsbD 1 = false → 20 ≤ s.fab.stepSoon → s.recd.journal.length < 2047 → s.keepsRole → ∃
        t, exec (.pairSwap e w) s = .next t ∧ t.answers e .ok s.recd.seqNext [] = true ∧ t.pair.role = .swapping ∧ t.pair.swap = some ⟨0#32,
        0, false, 0⟩ ∧ t.pair.lines = s.pair.lines ∧ t.recd.journal = s.recd.journal ++ [s.journalRecord 9 (portOrigin e.port) (setFld w 0 3 1)
        6#32] ∧ RowFrame t s e)
    ∧ (s.hostReady e opWrite = true → s.pairOn = true → s.pair.role = .standby → s.pair.partnerRole ≠ 7#4 → s.pair.uq = 0#10 → s.pair.swapReqOk = true → s.img.actPending = false → s.pair.tzUp =
        true → s.pair.rev ≠ 0 → 20 ≤ s.fab.stepSoon → s.recd.journal.length < 2047 → ∃ t, exec (.pairSwap e w) s = .next t ∧ t.answers e .ok
        s.recd.seqNext [] = true ∧ t.pair.sentSwap = some .req ∧ t.pair.swap = s.pair.swap ∧ t.pair.rests ∧ t.recd.journal = s.recd.journal ++
        [s.journalRecord 9 (portOrigin e.port) (setFld w 0 3 1) 2#32] ∧ RowFrame t s e)
    ∧ (s.hostReady e opWrite = true → (s.pair.role = .swapping ∨ s.pair.partnerRole = 7#4 ∨ s.img.actPending = true) → ∃ t, exec (.pairSwap e w) s = .next t ∧ t.answers e
        .notNow 5#32 [] = true ∧ RowActs t s e id)
    ∧ (s.hostReady e opWrite = true → s.pair.role ≠ .swapping → s.pair.partnerRole ≠ 7#4 → s.img.actPending = false → s.pair.role ≠ .active → (s.pair.role ≠ .standby ∨
        s.pair.swapReqOk = false) → ∃ t, exec (.pairSwap e w) s = .next t ∧ t.answers e .notNow 1#32 [] = true ∧ RowActs t s e id)
    ∧ (s.hostReady e opWrite = true → s.pair.partnerRole ≠ 7#4 → s.img.actPending = false → (s.pair.role = .active ∨ (s.pair.role = .standby ∧ s.pair.swapReqOk = true)) →
        (s.pair.tzUp = false ∨ s.pair.rev = 0) → ∃ t, exec (.pairSwap e w) s = .next t ∧ t.answers e .notNow 2#32 [] = true ∧ RowActs t s e id)
    ∧ (s.hostReady e opWrite = true → s.img.actPending = false → s.pair.role = .active → s.pair.tzUp = true → s.pair.rev ≠ 0 → s.pair.partnerRole ≠ 7#4 → (s.pair.partnerRole ≠ 2#4 ∨ s.pair.partnerFlags.getLsbD 1 = true) → ∃ t, exec (.pairSwap e w) s = .next t ∧ t.answers e .notNow 3#32 [] = true ∧ RowActs t s e
        id)
    ∧ (s.hostReady e opWrite = true → s.img.actPending = false → s.pair.role = .active → s.pair.tzUp = true → s.pair.rev ≠ 0 → s.pair.partnerRole
        = 2#4 → s.pair.partnerFlags.getLsbD 1 = false → s.fab.stepSoon < 20 → ∃ t, exec (.pairSwap e w) s = .next t ∧ t.answers e .notNow 4#32 []
        = true ∧ RowActs t s e id)
    ∧ (s.hostReady e opWrite = true → s.img.paired = true → s.pair.holdsRole = true → s.recd.journal.length < 2047 → ∃ t, exec (.pairRelease e w) s
        = .next t ∧ t.answers e .ok s.recd.seqNext [] = true ∧ t.pair.role = .unqualified ∧ ((s.ring .a).link = true → (.source false, 0) ∈ (t.ring .a).cmdq) ∧ t.pair.togglePend = false ∧ t.pair.uq.getLsbD 5 = true
        ∧ (s.pair.role = .swapping → s.pair.driving = true → t.pair.swap = none) ∧ ((s.pair.role ≠ .swapping ∨ s.pair.driving = false) → t.pair.swap = s.pair.swap) ∧ t.pair.releases = satInc s.pair.releases ∧ t.rings.map Ring.core = s.rings.map Ring.core ∧ t.recd.journal =
        s.recd.journal ++ [s.journalRecord 9 (portOrigin e.port) (setFld w 0 3 2) (word (roleCode s.pair.role))] ∧ RowFrame t s e)
    ∧ (s.hostReady e opWrite = true → s.pair.holdsRole = false → s.recd.journal.length < 2047 → ∃ t, exec (.pairRelease e w) s = .next t ∧
        t.answers e .ok s.recd.seqNext [] = true ∧ t.pair.uq.getLsbD 5 = true ∧ (s.pair.uq = 0#10 → t.pair.role ≠ .standby) ∧ t.pair.releases = s.pair.releases ∧
        t.recd.journal = s.recd.journal ++ [s.journalRecord 9 (portOrigin e.port) (setFld w 0 3 2) (word (roleCode s.pair.role))] ∧ RowFrame t s
        e)
    ∧ (s.hostReady e opWrite = true → s.pair.holdsRole = false → s.pair.uq.getLsbD 7 = false → s.recd.journal.length < 2047 → ∃ t, exec
        (.requalify e w) s = .next t ∧ t.answers e .ok s.recd.seqNext [] = true ∧ t.pair.uq.getLsbD 5 = false ∧ t.pair.sourceOn =
        s.pair.sourceOn ∧ t.recd.journal = s.recd.journal ++ [s.journalRecord 9 (portOrigin e.port) (setFld w 0 3 4) (word (roleCode
        s.pair.role))] ∧ RowFrame t s e)
    ∧ (s.hostReady e opWrite = true → s.pair.uq.getLsbD 7 = true → ∃ t, exec (.requalify e w) s = .next t ∧ t.answers e .notNow 6#32 [] = true ∧
        RowActs t s e id)
    ∧ (∀ (x : RingId) (v : RoleWork) (k : Nat) (q : List (RingCmd × Nat)), (s.ring x).downOpen = true → (s.ring x).cmdq = (.role v false 0#16,
        k) :: q → (s.ring x).rrole.standby = false → v.standby = true → ∃ t, exec (.linkCommandFrame x true) s = .next t ∧ (t.ring x).rrole = v ∧
        (∀ n, ringOf n = x → (s.chan n).rng.func = 13 → (t.chan n).tch.touched = false) ∧ (∀ n, ringOf n = x → (s.chan n).rng.func = 14 →
        (t.chan n).plg.state = 0#3) ∧ (∀ n, ringOf n ≠ x → t.chan n = s.chan n) ∧ KeepsHost t s ∧ KeepsUnits t s ∧ t.recd = s.recd)
    ∧ (∀ (on : Bool) (k : Nat) (q : List (RingCmd × Nat)), (s.ring .a).downOpen = true → (s.ring .a).cmdq = (.source on, k) :: q → ∃ t, exec
        (.linkCommandFrame .a true) s = .next t ∧ t.pair.sourceOn = (on && (s.ring .a).configured) ∧ (t.ring .a).cmdq = q ∧ t.chans = s.chans ∧ KeepsHost t s ∧ KeepsUnits t s)
    ∧ (s.pairOn = true → s.swapDueOwn = true → s.pair.role ≠ .swapping → ∃ t, exec .swapDue s = .next t ∧ (t.slot (hostSlot 25)).real.getLsbD 0 =
        true ∧ t.pair.lines = s.pair.lines ∧ PairFrame t s)
    ∧ (s.swapDueOwn = false → exec .swapDue s = .next s)

/-- TIGHTROPE_TOGGLE, TL_QUAL_CHANGE, SOURCE_COLLAPSE, TIGHTROPE_HB_LOST, TIGHTROPE_HB_RETURN, TRAPEZE_LOST, STALE_LINK_FAIL,
LISTEN_TIME_EXPIRY, TAKEOVER_DELAY_EXPIRY, CLAIM_TIMEOUT, BACKOFF_EXPIRY, DRIVE_GATE_TIMEOUT: the source, the two paths, claims,
takeover and the drive gates (R426, R427, R428, R429, R430, R432, R434, R435, R436, R437, R451). -/
def Obligations.PathsClaimsAndDriveGates : Prop :=
  ∀ (s : State),
    (s.roleOn = true → s.pair.issued + 500 ≤ s.clock → s.pair.role ∈ [Role.claiming, Role.active, Role.swapping] → exec .tightropeToggle s = .next { s with pair := { s.pair with togglePend := true, issued := s.clock } })
    ∧ ((s.roleOn = false ∨ s.clock < s.pair.issued + 500 ∨ s.pair.role ∉ [Role.claiming, Role.active, Role.swapping]) → exec .tightropeToggle s =
        .next s)
    ∧ (s.pair.sourceOn = true → s.pair.toggleAt + 1000 ≤ s.clock → exec .sourceCollapse s = .next { s with pair := { s.pair with sourceOn := false } })
    ∧ ((s.pair.sourceOn = false ∨ s.clock < s.pair.toggleAt + 1000) → exec .sourceCollapse s = .next s)
    ∧ (∀ (up idle : Bool), s.roleOn = true → (s.ring .a).qual ≠ up → (up = true → s.pair.sourceOn = true) → (s.ring .a).link = true → (s.ring .a).ringLost = false → ∃ t, exec (.tlQualChange up idle) s = .next t ∧
        (t.ring .a).qual = up ∧ (up = false → (t.ring .a).driveGate = false) ∧ (t.ring .a).upq.getLast? = some (.qual up idle s.tick) ∧ t.pair = s.pair ∧ t.side .b = s.side .b ∧ KeepsHost t s ∧ KeepsUnits t s ∧ t.flt = s.flt ∧ t.recd = s.recd)
    ∧ (∀ (idle : Bool) (u : Nat) (q : List UpMsg), s.roleOn = true → (s.ring .a).upOpen = true → s.pwr.mode ≠ .cellar → (s.ring .a).reports = [] → (s.ring .a).upq = .qual true idle u :: q → s.pair.tlQual = false → s.pair.sourceOn = true → s.pair.role = .claiming → s.keepsRole → ∃ t, exec (.acceptedChangeArrival .a true) s
        = .next t ∧ t.pair.role = .active ∧ t.pair.tlQual = true ∧ t.pair.mayDrive = true ∧ t.pair.sourceOn = true ∧ t.pair.claimFails = 0 ∧
        t.pair.epochNum = 0#32 ∧ t.pair.minutes = 0#32 ∧ t.pair.resume = (if s.pair.claimReason = 1#4 ∨ s.pair.claimReason = 2#4 then some
        s.pair.held else none) ∧ t.pair.takeovers = (if s.pair.claimReason = 1#4 then satInc s.pair.takeovers else s.pair.takeovers) ∧ t.pair.swaps
        = (if s.pair.claimReason = 2#4 then satInc s.pair.swaps else s.pair.swaps) ∧ (s.pair.claimReason = 1#4 → (t.slot (hostSlot 23)).sticky =
        true) ∧ (s.pair.claimReason = 2#4 → t.pair.sentSwap = some .done) ∧ (∀ x, s.pair.claimReason = 1#4 → s.pair.held = some x → t.fab.outChan = x.outChan) ∧ (∀ x ∈ [RingId.a, RingId.b], (s.ring x).link = true → s.pair.claimReason ≠ 2#4 → (.gate, 0) ∈ (t.ring x).cmdq) ∧ t.img = s.img ∧ t.recd.core = s.recd.core ∧ KeepsHost t s)
    ∧ (∀ (idle : Bool) (u : Nat) (q : List UpMsg), s.roleOn = true → (s.ring .a).upOpen = true → s.pwr.mode ≠ .cellar → (s.ring .a).reports = [] → (s.ring .a).upq = .qual false idle u :: q → s.pair.tlQual = true → s.pair.role = .active → s.pair.sourceOn = true → s.keepsRole → ∃ t, exec (.acceptedChangeArrival .a true) s =
        .next t ∧ t.pair.role = .claiming ∧ t.pair.tlQual = false ∧ t.pair.mayDrive = false ∧ t.pair.sourceOn = true ∧ t.pair.claimReason = 5#4 ∧
        t.pair.claimFrom = s.clock ∧ t.pair.tlLostFrom = some s.clock ∧ t.pair.stale = true ∧ t.pair.held = none ∧ (∀ x ∈ [RingId.a, RingId.b], (s.ring x).logic = true → (t.ring x).beat.map (·.gate) = some false) ∧ t.img = s.img ∧ t.fab = s.fab ∧ t.recd.core = s.recd.core ∧ t.flt.core =
        s.flt.core ∧ KeepsHost t s)
    ∧ (∀ (idle : Bool) (u : Nat) (q : List UpMsg), s.roleOn = true → (s.ring .a).upOpen = true → s.pwr.mode ≠ .cellar → (s.ring .a).reports = [] → (s.ring .a).upq = .qual false idle u :: q → s.pair.tlQual = true → s.pair.role = .active → s.pair.sourceOn = false → s.keepsRole → ∃ t, exec (.acceptedChangeArrival .a true) s = .next t ∧
        (idle = true → t.pair.role = .claiming ∧ t.pair.claimReason = 5#4 ∧ (.source true, 0) ∈ (t.ring .a).cmdq) ∧ (idle = false → t.pair.rests ∧ t.pair.sourceOn = false) ∧
        (∀ x ∈ [RingId.a, RingId.b], (s.ring x).logic = true → (t.ring x).beat.map (·.gate) = some false))
    ∧ (∀ (idle : Bool) (u : Nat) (q : List UpMsg), s.roleOn = true → (s.ring .a).upOpen = true → s.pwr.mode ≠ .cellar → (s.ring .a).reports = [] → (s.ring .a).upq = .qual false idle u :: q → s.pair.tlQual = true → s.pair.role ≠ .active → ∃ t, exec (.acceptedChangeArrival .a true) s = .next t ∧ t.pair.tlQual = false ∧
        t.pair.evt.getLsbD 3 = true ∧ (∀ x ∈ [RingId.a, RingId.b], (s.ring x).logic = true → (t.ring x).beat.map (·.gate) = some false) ∧ t.img = s.img ∧ t.fab
        = s.fab ∧ t.recd.core = s.recd.core ∧ t.flt.core = s.flt.core ∧ KeepsHost t s)
    ∧ (∀ (idle : Bool) (u : Nat) (q : List UpMsg), s.roleOn = true → (s.ring .a).upOpen = true → s.pwr.mode ≠ .cellar → (s.ring .a).reports = [] → (s.ring .a).upq = .qual true idle u :: q → s.pair.tlQual = false → s.pair.role ≠ .claiming → ∃ t, exec (.acceptedChangeArrival .a true) s = .next t ∧
        t.pair.tlQual = true ∧ t.pair.evt.getLsbD 3 = true ∧ t.img = s.img ∧ t.fab = s.fab ∧ t.recd.core = s.recd.core ∧ t.flt.core = s.flt.core
        ∧ KeepsHost t s)
    ∧ (∀ (idle : Bool), s.roleOn = true → (s.ring .a).qual = true → ((s.ring .a).link = false ∨ (s.ring .a).ringLost = true) → ∃ t, exec
        (.tlQualChange false idle) s = .next t ∧ (t.ring .a).qual = false ∧ (t.ring .a).driveGate = false ∧ t.pair = s.pair ∧ t.side .b = s.side .b
        ∧ KeepsHost t s ∧ KeepsUnits t s ∧ t.flt = s.flt ∧ t.recd = s.recd)
    ∧ (∀ (up idle : Bool), (s.roleOn = false ∨ (s.ring .a).qual = up) → exec (.tlQualChange up idle) s = .next s)
    ∧ (∀ (idle : Bool), s.pair.sourceOn = false → exec (.tlQualChange true idle) s = .next s)
    ∧ (∀ (port : BitVec 2), s.roleOn = true → s.pair.sourceOn = false → s.pair.tlHb = true → ∃ t, exec (.tightropeHbLost port) s = .next t ∧ t.pair.tlHb = false ∧
        t.pair.evt.getLsbD 3 = true ∧ (s.pair.role ∈ [Role.standby, Role.unqualified] → s.pair.presentTz = true → (t.slot (hostSlot
        21)).real.getLsbD 0 = true) ∧ (s.pair.role ∈ [Role.standby, Role.unqualified] → s.pair.presentTz = false → (t.slot (hostSlot
        21)).real.getLsbD 0 = false ∧ t.pair.bothLostFrom = some (s.pair.bothLostFrom.getD s.clock)) ∧ t.pair.lines = { s.pair with tlHb := false, hbLost := true, hbStayed := false }.lines ∧ PairFrame t s)
    ∧ (∀ (port : BitVec 2), (s.roleOn = false ∨ s.pair.sourceOn = true ∨ (s.pair.tlHb = false ∧ s.pair.hbLost = true)) → exec (.tightropeHbLost port) s = .next s)
    ∧ (s.roleOn = true → s.pair.sourceOn = false → s.pair.tlHb = false → ∃ t, exec .tightropeHbReturn s = .next t ∧ t.pair.tlHb = true ∧
        t.pair.evt.getLsbD 3 = true ∧ t.pair.bothLostFrom = none ∧ t.pair.role ≠ .starting ∧ (s.pair.role ∈ [Role.standby, Role.unqualified] →
        (t.slot (hostSlot 21)).real.getLsbD 0 = false) ∧ t.pair.lines = { s.pair with tlHb := true, hbLost := false }.lines ∧ PairFrame t s)
    ∧ ((s.roleOn = false ∨ s.pair.sourceOn = true ∨ s.pair.tlHb = true) → exec .tightropeHbReturn s = .next s)
    ∧ (s.tzOn = true → s.pair.tzUp = true → s.pair.lastFrame + s.pair.tzLoss * 100 ≤ s.clock → ∃ t, exec .trapezeLost s = .next t ∧ t.pair.tzUp =
        false ∧ t.pair.tzLostAt = some s.clock ∧ t.pair.partnerRole = 15#4 ∧ t.pair.segs = [] ∧ t.pair.discarding = false ∧ t.pair.evt.getLsbD 2 =
        true ∧ t.pair.missed = satAdd s.pair.missed ((s.clock - s.pair.lastBeat) / 100) ∧ (t.slot (hostSlot 20)).real.getLsbD 0 = true ∧
        (s.pair.segs ≠ [] → s.pair.discarding = false → t.pair.discarded = satInc s.pair.discarded ∧ (t.slot (hostSlot 26)).sticky = true) ∧
        PairFrame t s)
    ∧ ((s.tzOn = false ∨ s.clock < s.pair.lastFrame + s.pair.tzLoss * 100) → exec .trapezeLost s = .next s)
    ∧ (∀ (l : Nat), s.roleOn = true → s.pair.tzUp = false → s.pair.tlHb = true → s.pair.hbStayed = true → s.pair.tzLostAt = some l → l + 5000 ≤ s.clock → s.pair.leads = false
        → s.pair.stale = false → ∃ t, exec .staleLinkFail s = .next t ∧ t.pair.stale = true ∧ t.pair.needFull = true ∧ t.pair.evt.getLsbD 1 = true
        ∧ PairFrame t s)
    ∧ ((s.roleOn = false ∨ s.pair.tzUp = true ∨ s.pair.tlHb = false ∨ s.pair.hbStayed = false ∨ s.pair.tzLostAt = none) → exec .staleLinkFail s = .next s)
    ∧ (s.roleOn = true → s.pair.role = .starting → (s.ring .a).hostConf = true → s.pair.listenFrom + s.pair.delayUs ≤ s.clock → s.pair.uq.toNat <
        32 → s.pair.partnerActive = false → ((s.pair.tzUp = false ∧ s.pair.tlHb = false) ∨ (s.pair.tzUp = true ∧ s.pair.partnerRole = 1#4 ∧
        s.img.pairId = false ∧ s.pair.uq.getLsbD 2 = false)) → s.pair.sourceOn = false → s.keepsRole → (∃ t, exec (.listenTimeExpiry true) s =
        .next t ∧ t.pair.role = .claiming ∧ t.pair.claimReason = 0#4 ∧ t.pair.claimFrom = s.clock ∧ t.pair.sourceOn = false ∧ t.pair.togglePend = true ∧ t.pair.issued = s.clock ∧ ((s.ring .a).link = true → (.source true, 0) ∈ (t.ring .a).cmdq) ∧ PairFrame t s) ∧ (∃ t, exec (.listenTimeExpiry false) s = .next t ∧ t.pair.rests ∧ t.pair.sourceOn = false ∧ PairFrame t s))
    ∧ (∀ (idle : Bool), (s.roleOn = false ∨ s.pair.role ≠ .starting ∨ s.clock < s.pair.listenFrom + s.pair.delayUs ∨ 32 ≤ s.pair.uq.toNat ∨
        s.pair.partnerActive = true ∨ (s.pair.tzUp = true ∧ s.img.pairId = true)) → exec (.listenTimeExpiry idle) s = .next s)
    ∧ (∀ (l : Nat), s.roleOn = true → s.pair.role = .standby → s.pair.bothLostFrom = some l → l + s.pair.delayUs ≤ s.clock → (s.pair.stale = false ∨
        s.pair.staleOk = true) → s.pair.sourceOn = false → s.keepsRole → (∃ t, exec (.takeoverDelayExpiry true) s = .next t ∧ t.pair.role =
        .claiming ∧ t.pair.claimReason = 1#4 ∧ t.pair.claimFrom = s.clock ∧ t.pair.sourceOn = false ∧ t.pair.togglePend = true ∧ t.pair.issued = s.clock ∧ ((s.ring .a).link = true → (.source true, 0) ∈ (t.ring .a).cmdq) ∧ t.pair.held = s.pair.held ∧ PairFrame t s) ∧
        (∃ t, exec (.takeoverDelayExpiry false) s = .next t ∧ t.pair.rests ∧ t.pair.sourceOn = false ∧ PairFrame t s))
    ∧ (∀ (idle : Bool), (s.roleOn = false ∨ s.pair.role ≠ .standby ∨ s.pair.bothLostFrom = none ∨ (s.pair.stale = true ∧ s.pair.staleOk = false)) → exec
        (.takeoverDelayExpiry idle) s = .next s)
    ∧ (∀ (port : BitVec 2), s.roleOn = true → s.pair.role = .claiming → s.pair.tlQual = false → s.pair.claimFrom + 1000 ≤ s.clock → s.keepsRole → ∃ t, exec
        (.claimTimeout port) s = .next t ∧ t.pair.role = .backoff ∧ ((s.ring .a).link = true → (.source false, 0) ∈ (t.ring .a).cmdq) ∧ t.pair.togglePend = false ∧ t.pair.backoffFrom = s.clock ∧ t.pair.claimFails =
        s.pair.claimFails + 1 ∧ t.pair.claimFail = satInc s.pair.claimFail ∧ PairFrame t s)
    ∧ (∀ (port : BitVec 2), (s.roleOn = false ∨ s.pair.role ≠ .claiming ∨ s.pair.tlQual = true ∨ s.clock < s.pair.claimFrom + 1000) → exec (.claimTimeout port) s =
        .next s)
    ∧ (s.roleOn = true → s.pair.role = .backoff → s.pair.backoffFrom + (if s.img.pairId then 3000 else 1000) ≤ s.clock → s.pair.sourceOn = false →
        s.pair.partnerActive = false → s.pair.uq.toNat < 32 → (s.pair.claimReason = 0#4 → s.pair.tzUp = false ∨ (s.pair.partnerRole = 1#4 ∧ s.img.pairId = false ∧ s.pair.uq.getLsbD 2 = false)) → (s.pair.claimReason = 1#4 → s.pair.uq = 0#10 ∧ s.pair.takeoverDue s.clock = true ∧ (s.pair.stale = false ∨ s.pair.staleOk = true)) → (s.pair.claimReason ≠ 0#4 → s.pair.claimReason ≠ 1#4 → s.pair.claimReason ≠ 5#4 → s.pair.uq = 0#10) → s.keepsRole → (∃ t, exec (.backoffExpiry true) s = .next t ∧ t.pair.role = .claiming ∧ t.pair.claimReason = s.pair.claimReason ∧
        t.pair.claimFrom = s.clock ∧ t.pair.sourceOn = false ∧ t.pair.togglePend = true ∧ t.pair.issued = s.clock ∧ ((s.ring .a).link = true → (.source true, 0) ∈ (t.ring .a).cmdq) ∧ PairFrame t s) ∧ (∃ t, exec (.backoffExpiry false) s = .next t ∧ t.pair.rests ∧
        t.pair.sourceOn = false ∧ PairFrame t s))
    ∧ (∀ (idle : Bool), s.roleOn = true → s.pair.role = .backoff → s.pair.backoffFrom + (if s.img.pairId then 3000 else 1000) ≤ s.clock → (s.pair.partnerActive = true ∨
        32 ≤ s.pair.uq.toNat ∨ (s.pair.claimReason = 1#4 ∧ (s.pair.uq ≠ 0#10 ∨ s.pair.takeoverDue s.clock = false ∨ (s.pair.stale = true ∧ s.pair.staleOk = false))) ∨ (s.pair.claimReason = 0#4 ∧ s.pair.tzUp = true ∧ (s.pair.partnerRole ≠ 1#4 ∨ s.img.pairId = true))) → ∃ t, exec
        (.backoffExpiry idle) s = .next t ∧ t.pair.rests ∧ t.pair.sourceOn = s.pair.sourceOn ∧ PairFrame t s)
    ∧ (∀ (idle : Bool), (s.roleOn = false ∨ s.pair.role ≠ .backoff ∨ s.clock < s.pair.backoffFrom + (if s.img.pairId then 3000 else 1000)) → exec (.backoffExpiry idle) s
        = .next s)
    ∧ (∀ (x : RingId) (g : Nat), (s.ring x).gateAt = some g → g + 100 ≤ s.clock → ∃ t, exec (.driveGateTimeout x) s = .next t ∧ (t.ring x).driveGate = false ∧ (t.ring x).gateIn = false ∧ t.pair = { s.pair with sourceOn := s.pair.sourceOn && !(decide (x = .a) && decide ((s.ring .a).lastHostBeat + 100 ≤ s.clock)) } ∧
        (∀ y, y ≠ x → t.side y = s.side y) ∧ t.recd = s.recd ∧ t.wheels = s.wheels ∧ t.flt = s.flt ∧ t.rpl = s.rpl ∧ t.cells = s.cells ∧ KeepsHost t
        s ∧ KeepsUnits t s)
    ∧ (∀ (x : RingId), ((s.ring x).gateAt = none ∨ ∃ g, (s.ring x).gateAt = some g ∧ s.clock < g + 100) → exec (.driveGateTimeout x) s = .next s)

/-- SCRUB_UNIT, REFRESH_UNIT, SECTOR_RELOCATION, WEAR_EXCHANGE, TRIM_REFERENCE, CH_TRIM, TLM_UPDATE, SYNC_OUTPUT_PULSE, SYNC_LOST,
HOST_MARK_EXPIRY, BG_BEHIND: what each unit of the Carousel's work changes, and that a finished task is no longer behind (R455, R456,
R458, R459, R460, R461, R462, R463, R464, R465). The pool sector that a relocation takes is the model's choice (log entry 23), and so is
the start of the three periods where no edge has come (log entry 24). A refresh reads page by page and relocates a weak one. The end of
the hot period is seen at a telemetry update (log entry 143). A slot that is RECEIVING has no CRC (log entry 142). -/
def Obligations.CarouselWorksInUnits : Prop :=
  ∀ (s : State),
    (∀ (o : ScrubObs), s.hostRuns = true → s.bg.scrubPos + 1 < 5120 → ∃ t, exec (.scrubUnit o) s = .next t ∧ t.bg = { s.bg with scrubPos := s.bg.scrubPos + 1, corrected := if o = .corrected then satInc s.bg.corrected else s.bg.corrected, uncorr := if o = .uncorrectable then satInc s.bg.uncorr else s.bg.uncorr } ∧ (o = .clean → t.flt = s.flt ∧ t.recd = s.recd) ∧ (o =
        .corrected → (t.slot (hostSlot 5)).sticky = true) ∧ (o = .uncorrectable → s.bg.scrubPos < 1024 → (t.slot (hostSlot 6)).real.getLsbD 0 =
        true) ∧ (o = .uncorrectable → 1024 ≤ s.bg.scrubPos → t.flt = s.flt) ∧ ReportFrame { t with bg := s.bg } s)
    ∧ (s.hostRuns = true → s.bg.scrubPos = 5119 → ∃ t, exec (.scrubUnit .clean) s = .next t ∧ t.bg = { s.bg with scrubPos := 0, scrubFrom := s.clock, scrubPasses := s.bg.scrubPasses + 1#16, behind := s.bg.behind &&& 0xFE#8 } ∧ (s.bg.behind &&& 0xFE#8 = 0#8 → (t.slot (hostSlot
        19)).real.getLsbD 0 = false) ∧ ReportFrame { t with bg := s.bg } s)
    ∧ (s.hostRuns = true → s.bg.refreshPos < 3456 → exec (.refreshUnit (.page false)) s = .next { s with bg := { s.bg with refreshPos := s.bg.refreshPos + 1 } })
    ∧ (∀ (l : Fin 216) (p : Nat) (rest : List Nat), s.hostRuns = true → s.bg.refreshPos < 3456 → l.1 = s.bg.refreshPos / 16 → s.bg.wear.pool = p :: rest → s.bg.wear.mapped[l.1] + 1 < 100000 →
        ∃ t, exec (.refreshUnit (.page true)) s = .next t ∧ t.bg = { s.bg with refreshPos := s.bg.refreshPos + 1, relocated := satInc s.bg.relocated, wear := { s.bg.wear with mapped := s.bg.wear.mapped.set l.1 p, pool := rest ++ [s.bg.wear.mapped[l.1] + 1] }, calibGen := s.bg.calibGen + 1, behind := s.bg.behind &&& 0xBF#8 }
        ∧ ReportFrame { t with bg := s.bg } s)
    ∧ (∀ (weak : Bool), 3456 ≤ s.bg.refreshPos → exec (.refreshUnit (.page weak)) s = .next s)
    ∧ (∀ (n : Bool), s.hostRuns = true → s.img.borrowed = false → (s.chks[3]).st = .idle → (s.imgSlot n).st ≠ .empty → (s.imgSlot n).st ≠ .receiving → exec (.refreshUnit (.crcStart n)) s = .next (s.modChk 3 (fun c => { c with carousel := true })))
    ∧ (∀ (n : Bool), ((s.imgSlot n).st = .empty ∨ (s.imgSlot n).st = .receiving) → exec (.refreshUnit (.crcStart n)) s = .next s)
    ∧ (∀ (n : Bool), (s.img.borrowed = true ∨ (s.chks[3]).st ≠ .idle) → exec (.refreshUnit (.crcStart n)) s = .next s ∧ exec (.refreshUnit (.crcEnd n)) s = .next s)
    ∧ (∀ (n : Bool), (s.chks[3]).carousel = false → exec (.refreshUnit (.crcEnd n)) s = .next s)
    ∧ (∀ (n : Bool), s.hostRuns = true → s.img.borrowed = false → (s.chks[3]).st = .idle → (s.chks[3]).carousel = true → ((s.imgSlot n).st = .empty ∨ (s.imgSlot n).st = .receiving ∨ s.slotCrcGood n = true) → exec (.refreshUnit (.crcEnd n)) s = .next
        ({ s with bg := { s.bg with refreshCrc := s.bg.refreshCrc ||| (if n then 2#2 else 1#2) } }.modChk 3 (fun c => { c with carousel := false })))
    ∧ (∀ (n : Bool), s.hostRuns = true → s.img.borrowed = false → (s.chks[3]).st = .idle → (s.chks[3]).carousel = true → (s.imgSlot n).st ≠ .empty → (s.imgSlot n).st ≠ .receiving → s.slotCrcGood n = false → ∃ t, exec (.refreshUnit (.crcEnd n)) s = .next t ∧
        t.bg = { s.bg with refreshCrc := s.bg.refreshCrc ||| (if n then 2#2 else 1#2), slotFail := s.bg.slotFail ||| (if n then 2#2 else 1#2) } ∧ (t.slot (hostSlot 10)).sticky = true ∧ (t.imgSlot n).st =
        (if (s.imgSlot n).st = .active then .active else .invalid) ∧ t.imgSlot (!n) = s.imgSlot (!n) ∧ (t.chks[3]).carousel = false ∧ (∀ u : Fin
        4, u ≠ 3 → t.chks[u.1] = s.chks[u.1]) ∧ t.fab = s.fab ∧ t.adcs = s.adcs ∧ t.filt = s.filt ∧ KeepsHost t s)
    ∧ (s.hostRuns = true → 3456 ≤ s.bg.refreshPos → (∀ n : Bool, (s.imgSlot n).st = .empty ∨ (s.imgSlot n).st = .receiving ∨ s.bg.refreshCrc.getLsbD n.toNat = true) → ∃ t, exec (.refreshUnit .passEnd) s = .next t ∧ t.bg = { s.bg with refreshFrom := s.opt, refreshPasses := s.bg.refreshPasses + 1#16, refreshPos := 0, refreshCrc := 0#2, behind := s.bg.behind &&& 0xFD#8 } ∧ (s.bg.behind &&& 0xFD#8 = 0#8 → (t.slot (hostSlot 19)).real.getLsbD 0 =
        false) ∧ ReportFrame { t with bg := s.bg } s)
    ∧ (∀ (n : Bool), (s.bg.refreshPos < 3456 ∨ ((s.imgSlot n).st ≠ .empty ∧ (s.imgSlot n).st ≠ .receiving ∧ s.bg.refreshCrc.getLsbD n.toNat = false)) → exec (.refreshUnit .passEnd) s = .next s)
    ∧ (∀ (l : Fin 216) (p : Nat) (rest : List Nat), s.hostRuns = true → s.bg.wear.pool = p :: rest → s.bg.wear.mapped[l.1] + 1 < 100000 → ∃ t,
        exec (.sectorRelocation l .done) s = .next t ∧ t.bg = { s.bg with wear := { s.bg.wear with mapped := s.bg.wear.mapped.set l.1 p, pool := rest ++ [s.bg.wear.mapped[l.1] + 1] }, calibGen := s.bg.calibGen + 1, behind := s.bg.behind &&& 0xBF#8 } ∧ t.cells = s.cells ∧ ReportFrame { t with bg := s.bg } s)
    ∧ (∀ (l : Fin 216) (p : Nat) (rest : List Nat), s.hostRuns = true → s.bg.wear.pool = p :: rest → 100000 ≤ s.bg.wear.mapped[l.1] + 1 → ∃ t,
        exec (.sectorRelocation l .done) s = .next t ∧ t.bg = { s.bg with wear := { s.bg.wear with mapped := s.bg.wear.mapped.set l.1 p, pool := rest, retired := satInc s.bg.wear.retired }, calibGen := s.bg.calibGen + 1, behind := s.bg.behind &&& 0xBF#8 } ∧ (t.slot (hostSlot 11)).real.getLsbD 0 = decide (rest.length < 8))
    ∧ (∀ (l : Fin 216) (p : Nat) (rest : List Nat), s.hostRuns = true → s.bg.wear.pool = p :: rest → ∃ t, exec (.sectorRelocation l .programFails) s =
        .next t ∧ t.bg = { s.bg with wear := { s.bg.wear with pool := rest, retired := satInc s.bg.wear.retired }, calibGen := s.bg.calibGen + 1, behind := s.bg.behind &&& 0xBF#8 } ∧ (t.slot (hostSlot 11)).real.getLsbD 0 = decide (rest.length < 8))
    ∧ (∀ (l : Fin 216) (p : Nat) (rest : List Nat), s.hostRuns = true → s.bg.wear.pool = p :: rest → ∃ t, exec (.sectorRelocation l .eraseFails) s =
        .next t ∧ t.bg = { s.bg with wear := { s.bg.wear with mapped := s.bg.wear.mapped.set l.1 p, pool := rest, retired := satInc s.bg.wear.retired }, calibGen := s.bg.calibGen + 1, behind := s.bg.behind &&& 0xBF#8 } ∧ (t.slot (hostSlot 11)).real.getLsbD 0 = decide (rest.length < 8))
    ∧ (∀ (l : Fin 216) (p : Nat) (rest : List Nat), s.hostRuns = true → 128 ≤ l.1 → s.bg.wear.mapped[s.bg.wear.least.1] + 5000 ≤ s.bg.wear.mapped[l.1] →
        s.bg.wear.mapped[s.bg.wear.least.1] + 1 < 100000 → 100000 ≤ s.bg.wear.mapped[l.1] + 1 → s.bg.wear.pool = p :: rest → ∃ t, exec
        (.wearExchange l) s = .next t ∧ t.bg = { s.bg with wear := { s.bg.wear with mapped := (s.bg.wear.mapped.set l.1 (s.bg.wear.mapped[s.bg.wear.least.1] + 1)).set s.bg.wear.least.1 p, pool := rest, retired := satInc s.bg.wear.retired }, calibGen := s.bg.calibGen + 1, behind := s.bg.behind &&& 0xBF#8 } ∧ (t.slot (hostSlot 11)).real.getLsbD 0 = decide (rest.length < 8))
    ∧ (∀ (l : Fin 216) (p : Nat) (rest : List Nat), s.hostRuns = true → 128 ≤ l.1 → s.bg.wear.mapped[s.bg.wear.least.1] + 5000 ≤ s.bg.wear.mapped[l.1] →
        s.bg.wear.mapped[l.1] + 1 < 100000 → s.bg.wear.pool = p :: rest → p + 1 < 100000 → ∃ t, exec (.wearExchange l) s = .next t ∧ t.bg = { s.bg with wear := { s.bg.wear with mapped := (s.bg.wear.mapped.set l.1 (s.bg.wear.mapped[s.bg.wear.least.1] + 1)).set s.bg.wear.least.1 (s.bg.wear.mapped[l.1] + 1), pool := rest ++ [p + 1] }, calibGen := s.bg.calibGen + 1, behind := s.bg.behind &&& 0xBF#8 } ∧
        (∀ m : Fin 216, s.bg.wear.mapped[s.bg.wear.least.1] ≤ s.bg.wear.mapped[m.1]) ∧ ReportFrame { t with bg := s.bg } s)
    ∧ (∀ (l : Fin 216), s.hostRuns = true → (l.1 < 128 ∨ s.bg.wear.mapped[l.1] < s.bg.wear.mapped[s.bg.wear.least.1] + 5000 ∨ s.bg.wear.pool = []) → ∃ t, exec
        (.wearExchange l) s = .next t ∧ t.bg = { s.bg with calibGen := s.bg.calibGen + 1, behind := s.bg.behind &&& 0xBF#8 } ∧ ReportFrame { t with bg := s.bg } s)
    ∧ (∀ (ticks us at_ : Nat), s.hostRuns = true → s.bg.refDue = [(true, ticks, us, at_)] → (max ticks us - min ticks us) * 1000000 ≤ 10 * us →
        s.time.source = 2#2 → s.bg.goodRefs = 7 → ∃ t, exec .trimReference s = .next t ∧ t.time = { s.time with locked := true } ∧ t.bg =
        { s.bg with refDue := [], trimFrom := s.bg.trimNow s.clock, trimTo := s.bg.trimNow s.clock + ((ticks : Int) - us) * 1000000000 / us, trimAt := s.clock, goodRefs := 8, behind := s.bg.behind &&& 0xEF#8 } ∧ (t.slot (hostSlot 15)).real.getLsbD 0 = false)
    ∧ (∀ (ticks us at_ : Nat), s.hostRuns = true → s.bg.refDue = [(false, ticks, us, at_)] → (max ticks us - min ticks us) * 1000000 ≤ 50 * us →
        s.time.source = 1#2 → s.bg.goodRefs = 3 → ∃ t, exec .trimReference s = .next t ∧ t.time = { s.time with locked := true } ∧ t.bg =
        { s.bg with refDue := [], trimFrom := s.bg.trimNow s.clock, trimTo := s.bg.trimNow s.clock + ((ticks : Int) - us) * 1000000000 / us, trimAt := s.clock, goodRefs := 4, behind := s.bg.behind &&& 0xEF#8 } ∧ (t.slot (hostSlot 15)).real.getLsbD 0 = false)
    ∧ (∀ (sync : Bool) (ticks us at_ : Nat), s.hostRuns = true → s.bg.refDue = [(sync, ticks, us, at_)] → 2 * (if sync then 10 else 50) * us < (max ticks us
        - min ticks us) * 1000000 → s.time.locked = true → ∃ t, exec .trimReference s = .next t ∧ t.time = { s.time with locked := false, source := if sync then 2#2 else 1#2 } ∧ t.bg = { s.bg with refDue := [], trimFrom := s.bg.trimNow s.clock, trimTo := s.bg.trimNow s.clock + ((ticks : Int) - us) * 1000000000 / us, trimAt := s.clock, goodRefs := 0, behind := s.bg.behind &&& 0xEF#8 } ∧ (t.slot (hostSlot
        15)).real.getLsbD 0 = true)
    ∧ (s.bg.refDue = [] → exec .trimReference s = .next s)
    ∧ (∀ (n : Fin 16), s.hostRuns = true → bit s.bg.cfg 16 = true → (isAo (s.chan n).cfg.func = true ∨ (s.chan n).cfg.func = 12 ∨ isDi (s.chan
        n).cfg.func = true) → (s.bg.chTrimAt[n.1] = none ∨ ∃ l, s.bg.chTrimAt[n.1] = some l ∧ l + 1000000 ≤ s.clock) → ∃ t, exec (.chTrim n) s =
        .next t ∧ t.bg.chTrimAt = s.bg.chTrimAt.set n.1 (some s.clock) ∧ t.bg = { s.bg with chTrimAt := t.bg.chTrimAt, chTrims := t.bg.chTrims, behind := t.bg.behind } ∧
        -50 ≤ (t.bg.chTrims[n.1]).1 - (s.bg.chTrims[n.1]).1 ∧ (t.bg.chTrims[n.1]).1 - (s.bg.chTrims[n.1]).1 ≤ 50 ∧ -50 ≤ (t.bg.chTrims[n.1]).2 - (s.bg.chTrims[n.1]).2 ∧ (t.bg.chTrims[n.1]).2 - (s.bg.chTrims[n.1]).2 ≤ 50 ∧
        (isAo (s.chan n).cfg.func = false → (t.bg.chTrims[n.1]).2 = (s.bg.chTrims[n.1]).2) ∧ (∀ m : Fin 16, m ≠ n → t.bg.chTrims[m.1] = s.bg.chTrims[m.1]) ∧
        t.freeCtr = s.freeCtr + 2 ∧ ReportFrame { t with bg := s.bg, freeCtr := s.freeCtr } s)
    ∧ (∀ (n : Fin 16), (bit s.bg.cfg 16 = false ∨ ∃ l, s.bg.chTrimAt[n.1] = some l ∧ s.clock < l + 1000000) → exec (.chTrim n) s = .next s)
    ∧ (∀ (o : TlmObs), s.hostRuns = true → 1000000 ≤ (s.tickLo - s.bg.update).toNat → ∃ t, exec (.tlmUpdate o) s = .next t ∧ t.bg.update = s.tickLo
        ∧ t.bg.hostTemp = o.host.zeroExtend 32 ∧ t.bg.supply = o.vh ++ o.vio ∧ t.bg.vhMin = (if o.vh.toNat < s.bg.vhMin.toNat then o.vh else
        s.bg.vhMin) ∧ t.bg.hotAt = (if 2000 < o.host.toInt then some s.clock else s.bg.hotAt) ∧ (t.bg.life.peak[1]).toInt = max
        (s.bg.life.peak[1]).toInt o.ringA.toInt ∧ (t.bg.life.peak[2]).toInt = max (s.bg.life.peak[2]).toInt o.ringB.toInt ∧ t.bg.life.tempCount =
        s.bg.life.tempCount + 1 ∧ t.bg.life.tempSum = s.bg.life.tempSum + o.host.toInt ∧ (∀ n : Fin 16, t.bg.life.energy[n.1] = satAdd
        (s.bg.life.energy[n.1]) (o.energy.getD n.1 0)) ∧ t.bg.behind ||| 2#8 = (s.bg.behind &&& 0x7F#8) ||| 2#8 ∧ (t.isBehind 1 = true → t.bg.behind.getLsbD 1 = s.bg.behind.getLsbD 1) ∧
        (t.isBehind 1 = false → t.bg.behind.getLsbD 1 = false) ∧ t.bg.wear = s.bg.wear ∧ ReportFrame { t with bg := s.bg } s)
    ∧ (∀ (o : TlmObs), (s.tickLo - s.bg.update).toNat < 1000000 → exec (.tlmUpdate o) s = .next s)
    ∧ (s.phase = .run → s.vio = true → fld s.bg.synccfg 24 2 = 2 → fld s.bg.synccfg 0 24 ≠ 0 → s.tick % fld s.bg.synccfg 0 24 = 0 → exec
        .syncOutputPulse s = .next { s with bg := { s.bg with syncOut := some s.clock } }
        ∧ (∀ c, s.clock ≤ c → ({ s with clock := c, bg := { s.bg with syncOut := some s.clock } } : State).syncHigh = decide (c < s.clock + 10)))
    ∧ ((fld s.bg.synccfg 24 2 ≠ 2 ∨ s.tick % fld s.bg.synccfg 0 24 ≠ 0) → exec .syncOutputPulse s = .next s)
    ∧ (∀ (l : Nat), s.phase = .run → fld s.bg.synccfg 24 2 = 1 → (s.bg.edgeAt = some l ∨ (s.bg.edgeAt = none ∧ l = s.bg.syncFrom ∧ (s.slot (hostSlot 29)).real.getLsbD 0 = false)) → l + 3 * fld s.bg.synccfg 0 24 ≤ s.clock → ∃ t, exec .syncLost
        s = .next t ∧ t.bg.edgeAt = none ∧ t.bg.refOk = false ∧ (t.slot (hostSlot 29)).real.getLsbD 0 = true ∧ t.time.locked = (s.time.locked &&
        s.markSource) ∧ (s.markSource = false → s.time.locked = true → s.time.source ≠ 0#2 → (t.slot (hostSlot 15)).real.getLsbD 0 = true) ∧
        ReportFrame { t with bg := s.bg, time := s.time } s)
    ∧ ((fld s.bg.synccfg 24 2 ≠ 1 ∨ (s.bg.edgeAt = none ∧ (s.slot (hostSlot 29)).real.getLsbD 0 = true) ∨ s.clock < s.bg.edgeAt.getD s.bg.syncFrom + 3 * fld s.bg.synccfg 0 24) → exec .syncLost s = .next s)
    ∧ (s.phase = .run → s.time.source ≠ 0#2 → s.markSource = false → s.syncSource = false → ∃ t, exec .hostMarkExpiry s = .next t ∧ t.time = { s.time with locked := false } ∧ t.bg = { s.bg with goodRefs := 0 } ∧ (s.time.locked = true → (t.slot (hostSlot 15)).real.getLsbD 0 = true) ∧
        (s.time.locked = false → t.flt = s.flt ∧ t.recd = s.recd) ∧ ReportFrame { t with bg := s.bg, time := s.time } s)
    ∧ ((s.time.source = 0#2 ∨ s.markSource = true ∨ s.syncSource = true) → exec .hostMarkExpiry s = .next s)
    ∧ (∀ (k : Fin 8), s.hostRuns = true → s.isBehind k = true → ∃ t, exec (.bgBehind k) s = .next t ∧ t.bg = { s.bg with behind := s.bg.behind ||| (1#8 <<< k.1), diag := s.bg.diag ||| (1#8 <<< k.1) } ∧ (t.slot (hostSlot 19)).real.getLsbD 0 = true ∧ ReportFrame { t with bg := s.bg } s)
    ∧ (∀ (k : Fin 8), s.isBehind k = false → exec (.bgBehind k) s = .next s)
    ∧ (∀ (o : ScrubObs) (r : RefreshObs) (l : Fin 216) (q : RelocObs) (n : Fin 16) (m : TlmObs) (k : Fin 8), s.hostRuns = false → exec (.scrubUnit o)
        s = .next s ∧ exec (.refreshUnit r) s = .next s ∧ exec (.sectorRelocation l q) s = .next s ∧ exec (.wearExchange l) s = .next s ∧ exec
        (.chTrim n) s = .next s ∧ exec (.tlmUpdate m) s = .next s ∧ exec (.bgBehind k) s = .next s ∧ exec .trimReference s = .next s)

/-- RUN_REQUEST, QUIET_REQUEST, CELLAR_REQUEST, RETENTION_BEGIN, CELLAR_TICK_MARK, INTERNAL_WAKE, INTERNAL_WAKE_END, WAKE, RUN_RETURN: a
request is a change or is refused by its lowest cause, retention keeps a wake of the entry, and a wake brings the device back to RUN at
a step start tick (R466, R467, R469, R470, R471, R472, R473). That the lowest cause is answered where several apply is log entry 146,
the model's choice. -/
def Obligations.PowerModesAreRequestedAndLeft : Prop :=
  ∀ (e : Env) (w : Word) (s : State),
    (s.hostReady e opWrite = true → s.pwr.mode ≠ .run → s.recd.journal.length < 2047 → ∃ t, exec (.runRequest e w) s = .next t ∧ t.answers e .ok
        s.recd.seqNext [] = true ∧ RowActs t s e (fun u => { (u.appendJournal 1 (portOrigin e.port) (word (Reg.addrNat (.bg .pwrCtrl))) (setFld w 0 2 0)) with pwr := { u.pwr with want := some .run, req := .run, wantFrom := u.tick } }))
    ∧ (s.hostReady e opWrite = true → s.pwr.mode ≠ .quiet → s.modeRefusal (portOrigin e.port) false = 0 → s.recd.journal.length < 2047 → ∃ t, exec
        (.quietRequest e w) s = .next t ∧ t.answers e .ok s.recd.seqNext [] = true ∧ RowActs t s e (fun u => { (u.appendJournal 1 (portOrigin e.port) (word (Reg.addrNat (.bg .pwrCtrl))) (setFld w 0 2 1)) with pwr := { u.pwr with want := some .quiet, req := .quiet, wantFrom := u.tick } }))
    ∧ (s.hostReady e opWrite = true → s.pwr.mode ≠ .cellar → s.img.load = .idle → s.img.actPending = false → s.rpl.capture = none → s.rpl.on = false
        → s.rpl.erasing = false → s.rpl.loading = false → (∀ u : Fin 4, (s.chks[u.1]).st = .idle) → (∀ i : Fin 64, (s.tickets[i.1]).st = .free) →
        fld s.pwr.wakecfg 0 8 = 0 → s.recd.journal.length < 2047 → ∃ t, exec (.cellarRequest e w) s = .next t ∧ t.answers e .ok s.recd.seqNext
        [] = true ∧ RowActs t s e (fun u => { (u.appendJournal 1 (portOrigin e.port) (word (Reg.addrNat (.bg .pwrCtrl))) (setFld w 0 2 2)) with pwr := { u.pwr with want := some .cellar, req := .cellar, wantFrom := u.tick } }))
    ∧ (s.hostReady e opWrite = true → s.pwr.mode = .run → ∃ t, exec (.runRequest e w) s = .next t ∧ t.answers e .ok 0#32 [] = true ∧ RowActs t s e
        id)
    ∧ (s.hostReady e opWrite = true → s.pwr.mode = .quiet → ∃ t, exec (.quietRequest e w) s = .next t ∧ t.answers e .ok 0#32 [] = true ∧ RowActs t
        s e id)
    ∧ (s.hostReady e opWrite = true → s.pwr.mode = .cellar → ∃ t, exec (.cellarRequest e w) s = .next t ∧ t.answers e .ok 0#32 [] = true ∧ RowActs
        t s e id)
    ∧ (s.hostReady e opWrite = true → s.pwr.mode = .run → (s.img.load ≠ .idle ∨ s.img.actPending = true) → (∃ t, exec (.quietRequest e w) s = .next
        t ∧ t.answers e .notNow 1#32 [] = true ∧ RowActs t s e id) ∧ (∃ t, exec (.cellarRequest e w) s = .next t ∧ t.answers e .notNow 1#32 [] =
        true ∧ RowActs t s e id))
    ∧ (s.hostReady e opWrite = true → s.pwr.mode = .run → s.img.load = .idle → s.img.actPending = false → (s.rpl.capture.isSome = true ∨ s.rpl.on =
        true ∨ s.rpl.erasing = true ∨ s.rpl.loading = true) → (∃ t, exec (.quietRequest e w) s = .next t ∧ t.answers e .notNow 2#32 [] = true ∧
        RowActs t s e id) ∧ (∃ t, exec (.cellarRequest e w) s = .next t ∧ t.answers e .notNow 2#32 [] = true ∧ RowActs t s e id))
    ∧ (∀ (u : Fin 4), s.hostReady e opWrite = true → s.pwr.mode ≠ .cellar → s.img.load = .idle → s.img.actPending = false → s.rpl.capture = none →
        s.rpl.on = false → s.rpl.erasing = false → s.rpl.loading = false → (s.chks[u.1]).st ≠ .idle → ∃ t, exec (.cellarRequest e w) s = .next t ∧
        t.answers e .notNow 3#32 [] = true ∧ RowActs t s e id)
    ∧ (s.hostReady e opWrite = true → s.pwr.mode ≠ .cellar → s.img.load = .idle → s.img.actPending = false → s.rpl.capture = none → s.rpl.on = false
        → s.rpl.erasing = false → s.rpl.loading = false → (∀ u : Fin 4, (s.chks[u.1]).st = .idle) → (∀ i : Fin 64, (s.tickets[i.1]).st = .free) →
        fld s.pwr.wakecfg 0 8 ≠ 0 → (s.ring .a).link = false → ∃ t, exec (.cellarRequest e w) s = .next t ∧ t.answers e .notNow 4#32 [] = true ∧
        RowActs t s e id)
    ∧ (s.pwr.mode = .cellar → s.pwr.retention = false → s.pwr.waking = false → s.pwr.wakePend = none → s.pwr.cellarFrom + 1000 ≤ s.clock → exec
        .retentionBegin s = .next { s with pwr := { s.pwr with retention := true, internalFrom := s.clock } })
    ∧ (∀ (cause ch : Nat), s.pwr.mode = .cellar → s.pwr.retention = false → s.pwr.waking = false → s.pwr.wakePend = some (cause, ch) →
        s.pwr.cellarFrom + 1000 ≤ s.clock → ∃ t, exec .retentionBegin s = .next t ∧ t = { s with pwr := t.pwr } ∧ t.pwr = { s.pwr with retention := false, internal := false, waking := true, wakePend := none, req := .run, cause := BitVec.ofNat 4 cause, wakeCh := t.pwr.wakeCh, wakes := satInc s.pwr.wakes, internalFrom := s.clock, wakeB := t.pwr.wakeB })
    ∧ ((s.pwr.mode ≠ .cellar ∨ s.pwr.retention = true ∨ s.pwr.waking = true ∨ s.clock < s.pwr.cellarFrom + 1000) → exec .retentionBegin s = .next s)
    ∧ (s.pwr.mode = .cellar → (s.ring .a).link = true → (s.ring .a).lastHostBeat + 10000 ≤ s.clock → ∃ t, exec .cellarTickMark s = .next t ∧ t.ring .a = { s.ring .a with lastHostBeat := s.clock, lastRingBeat := s.clock, realigned := true } ∧ t.ring .b = s.ring .b ∧ t = { s with rings := t.rings })
    ∧ ((s.pwr.mode ≠ .cellar ∨ (s.ring .a).link = false ∨ s.clock < (s.ring .a).lastHostBeat + 10000) → exec .cellarTickMark s = .next s)
    ∧ (s.pwr.mode = .cellar → s.pwr.retention = true → s.pwr.internal = false → s.pwr.internalFrom + 600000000 ≤ s.clock → exec .internalWake s = .next { s with pwr := { s.pwr with internal := true, internalFrom := s.pwr.internalFrom + 600000000 }, bg := { s.bg with scrubPos := 0, scrubDue := true } })
    ∧ ((s.pwr.mode ≠ .cellar ∨ s.pwr.retention = false ∨ s.pwr.internal = true ∨ s.clock < s.pwr.internalFrom + 600000000) → exec .internalWake s =
        .next s)
    ∧ (∀ (due : Nat), due = 3456 * (s.opt.toNat - s.bg.refreshFrom.toNat) / (max 1 s.refreshHours * 1048576) → due < 3456 → s.pwr.mode = .cellar → s.pwr.internal = true → s.bg.scrubDue = true → ∃ t, exec .internalWakeEnd s = .next t ∧ t.pwr = { s.pwr with internal := false } ∧
        t.bg = { s.bg with scrubPos := 0, scrubFrom := s.clock, scrubPasses := s.bg.scrubPasses + 1#16, scrubDue := false, behind := s.bg.behind &&& 0xFE#8, lifeKept := s.bg.life, refreshPos := max s.bg.refreshPos due, wear := t.bg.wear, calibGen := s.bg.calibGen + 1 } ∧ t.bg.wear.logAt = s.bg.wear.logAt + 1024 ∧
        (s.bg.behind &&& 0xFE#8 = 0#8 → (t.slot (hostSlot 19)).real.getLsbD 0 = false) ∧ t.recd.seqCommitted = s.recd.seqNext ∧ t.recd.optCommitted = s.opt ∧
        (∀ n : Fin 16, t.recd.swCommitted[n.1] = (s.chan n).stage.swcnt) ∧ ReportFrame { t with bg := s.bg, pwr := s.pwr, recd := s.recd, pair := s.pair } s)
    ∧ (3456 ≤ 3456 * (s.opt.toNat - s.bg.refreshFrom.toNat) / (max 1 s.refreshHours * 1048576) → s.pwr.mode = .cellar → s.pwr.internal = true → (∀ n : Bool, s.bg.refreshCrc.getLsbD n.toNat = true ∨ (s.imgSlot n).st = .empty ∨ s.slotCrcGood n = true) → ∃ t, exec .internalWakeEnd s = .next t ∧ t.pwr = { s.pwr with internal := false } ∧
        t.bg.refreshPos = 0 ∧ t.bg.refreshCrc = 0#2 ∧ t.bg.refreshFrom = s.opt ∧ t.bg.refreshPasses = s.bg.refreshPasses + 1#16 ∧ t.bg.slotFail = s.bg.slotFail ∧ t.img = s.img)
    ∧ (∀ (due : Nat), due = 3456 * (s.opt.toNat - s.bg.refreshFrom.toNat) / (max 1 s.refreshHours * 1048576) → due < 3456 → s.bg.wear.logAt / 4096 = (s.bg.wear.logAt + 1024) / 4096 → s.pwr.mode = .cellar → s.pwr.internal = true → s.bg.scrubDue = false → ∃ t, exec .internalWakeEnd s = .next t ∧ t = { s with pwr := { s.pwr with internal := false }, recd := { s.recd with optCommitted := t.recd.optCommitted, seqCommitted := s.recd.seqNext, swCommitted := t.recd.swCommitted }, bg := { s.bg with lifeKept := s.bg.life, refreshPos := max s.bg.refreshPos due, wear := { s.bg.wear with logAt := s.bg.wear.logAt + 1024 }, calibGen := s.bg.calibGen + 1 }, pair := { s.pair with minutesKept := t.pair.minutesKept } } ∧ (∀ n :
        Fin 16, t.recd.swCommitted[n.1] = (s.chan n).stage.swcnt))
    ∧ ((s.pwr.mode ≠ .cellar ∨ s.pwr.internal = false) → exec .internalWakeEnd s = .next s)
    ∧ (∀ (p : PortId) (mode3 : Bool), s.pwr.mode = .cellar → s.portsAnswer = true → s.pwr.waking = false → s.pwr.wakePend = none →
        (s.pwr.retention = true ∨ s.pwr.internal = true) → ∃ t, exec (.wake (.csn p mode3)) s = .next t ∧ t = { s with pwr := t.pwr, ports := t.ports } ∧
        (t.port p).sticky = (s.port p).sticky ||| 0x20#8 ∧ (t.port p).cntDisc = satInc (s.port p).cntDisc ∧ (t.port p).lastTicket = 0xFD#8 ∧
        (t.port p).spiMode = mode3 ∧ (∀ q ∈ [PortId.hp0, PortId.hp1], q ≠ p → t.port q = s.port q) ∧ t.pwr = { s.pwr with retention := false, internal := false, waking := true, req := .run, cause := if p = .hp0 then 1#4 else 2#4, wakes := satInc s.pwr.wakes, internalFrom := s.clock, wakeB := t.pwr.wakeB })
    ∧ (∀ (n : Fin 16), s.pwr.mode = .cellar → s.wakeChange n = true → s.pwr.waking = false → s.pwr.wakePend = none → s.pwr.retention = true → ∃ t,
        exec (.wake (.channel n)) s = .next t ∧ t = { s with pwr := t.pwr } ∧ t.pwr = { s.pwr with retention := false, internal := false, waking := true, req := .run, cause := 3#4, wakeCh := BitVec.ofNat 5 n.1, wakes := satInc s.pwr.wakes, internalFrom := s.clock, wakeB := t.pwr.wakeB })
    ∧ (s.pwr.mode = .cellar → s.vioOk = true → bit s.pwr.wakecfg 16 = true → fld s.bg.synccfg 24 2 ≠ 2 → s.pwr.waking = false → s.pwr.wakePend = none →
        s.pwr.retention = true → ∃ t, exec (.wake .sync) s = .next t ∧ t = { s with pwr := t.pwr } ∧ t.pwr = { s.pwr with retention := false, internal := false, waking := true, req := .run, cause := 4#4, wakes := satInc s.pwr.wakes, internalFrom := s.clock, wakeB := t.pwr.wakeB })
    ∧ (∀ (p : PortId) (mode3 : Bool), s.pwr.mode = .cellar → s.portsAnswer = true → s.pwr.waking = false → s.pwr.wakePend = none →
        s.pwr.retention = false → s.pwr.internal = false → ∃ t, exec (.wake (.csn p mode3)) s = .next t ∧ t = { s with ports := t.ports, pwr := { s.pwr with wakePend := some (if p = .hp0 then 1 else 2, 0) } } ∧ (t.port p).cntDisc = satInc (s.port p).cntDisc ∧ (t.port p).lastTicket = 0xFD#8)
    ∧ (∀ (p : PortId) (mode3 : Bool), s.pwr.mode = .cellar → s.portsAnswer = true → (s.pwr.waking = true ∨ s.pwr.wakePend.isSome = true) → ∃
        t, exec (.wake (.csn p mode3)) s = .next t ∧ t = { s with ports := t.ports, pwr := { s.pwr with wakes := satInc s.pwr.wakes } } ∧ (t.port
        p).cntDisc = satInc (s.port p).cntDisc)
    ∧ (∀ (o : WakeObs), s.pwr.mode ≠ .cellar → exec (.wake o) s = .next s)
    ∧ ((s.vio = false ∨ s.phase ≠ .run) → (∀ (p : PortId) (mode3 : Bool), exec (.wake (.csn p mode3)) s = .next s) ∧ exec (.wake .sync) s = .next s)
    ∧ (∀ (n : Fin 16), s.wakeChange n = false → exec (.wake (.channel n)) s = .next s)
    ∧ (s.pwr.mode = .cellar → s.pwr.waking = true → s.pwr.internalFrom ≤ s.gridTick + s.time.startClock → ∃ t, exec .runReturn s = .next t ∧
        t.pwr = { s.pwr with mode := .run, waking := false, retention := false, internal := false, seconds := satTo 32 ((s.gridTick + s.time.startClock - s.pwr.cellarFrom) / 1000000) } ∧ t.flt.wdStart = s.gridTick + s.time.startClock ∧ t.flt.wdToken = s.flt.wdToken ∧
        t.fab.stepStart = s.gridTick ∧ t.fab.evalDone = false ∧ t.fab.flags = s.fab.flags ∧ t.fab.outChan = s.fab.outChan ∧ t.pair.lastFrame =
        s.clock ∧ t.pair.lastBeat = s.clock ∧ t.recd.core = s.recd.core ∧ t.bg = s.bg ∧ KeepsHost t s)
    ∧ ((s.pwr.mode ≠ .cellar ∨ s.pwr.waking = false ∨ s.gridTick + s.time.startClock < s.pwr.internalFrom) → exec .runReturn s = .next s)
end

