-- ==== Sys2Proof/Laws/AddressMap.lean ====
section
/-! SUPPORT. The decoder of addresses reads the address of every register as that register (R76, R92). -/

namespace Sys2Proof.Machine

section
set_option Elab.async false

theorem decodeAddr_ident (r : IdentReg) : decodeAddr (Reg.addr (.ident r)) = .reg (.ident r) := by cases r <;> decide +kernel

theorem decodeAddr_port (p : PortId) (r : PortReg) : decodeAddr (Reg.addr (.port p r)) = .reg (.port p r) := by
  cases p <;> cases r <;> decide +kernel

theorem decodeAddr_time (r : TimeReg) : decodeAddr (Reg.addr (.time r)) = .reg (.time r) := by cases r <;> decide +kernel

theorem decodeAddr_img (r : ImgReg) : decodeAddr (Reg.addr (.img r)) = .reg (.img r) := by cases r <;> decide +kernel

theorem decodeAddr_fab (r : FabReg) : decodeAddr (Reg.addr (.fab r)) = .reg (.fab r) := by cases r <;> decide +kernel

theorem decodeAddr_ch (n : Fin 16) (r : ChReg) : decodeAddr (Reg.addr (.ch n r)) = .reg (.ch n r) := by
  cases r <;> (revert n; decide +kernel)

theorem decodeAddr_ring (x : RingId) (r : RingReg) : decodeAddr (Reg.addr (.ring x r)) = .reg (.ring x r) := by
  cases x <;> cases r <;> decide +kernel

theorem decodeAddr_adc (x : RingId) (r : AdcReg) : decodeAddr (Reg.addr (.adc x r)) = .reg (.adc x r) := by
  cases x <;> cases r <;> decide +kernel

theorem decodeAddr_adcEntry (x : RingId) (i : Fin 64) : decodeAddr (Reg.addr (.adcEntry x i)) = .reg (.adcEntry x i) := by
  cases x <;> (revert i; decide +kernel)

theorem decodeAddr_adcEntryOfs (x : RingId) (i : Fin 64) :
    decodeAddr (Reg.addr (.adcEntryOfs x i)) = .reg (.adcEntryOfs x i) := by
  cases x <;> (revert i; decide +kernel)

theorem decodeAddr_filt (r : FiltReg) : decodeAddr (Reg.addr (.filt r)) = .reg (.filt r) := by cases r <;> decide +kernel

theorem decodeAddr_filtCh (n : Fin 16) (r : FiltChReg) : decodeAddr (Reg.addr (.filtCh n r)) = .reg (.filtCh n r) := by
  cases r <;> (revert n; decide +kernel)

theorem decodeAddr_whl (w : Fin 64) (r : WhlReg) : decodeAddr (Reg.addr (.whl w r)) = .reg (.whl w r) := by
  cases r <;> (revert w; decide +kernel)

theorem decodeAddr_flt (r : FltReg) : decodeAddr (Reg.addr (.flt r)) = .reg (.flt r) := by cases r <;> decide +kernel

theorem decodeAddr_fltChsafe (n : Fin 16) : decodeAddr (Reg.addr (.fltChsafe n)) = .reg (.fltChsafe n) := by
  revert n; decide +kernel

theorem decodeAddr_fltSrc (k : Fin 256) : decodeAddr (Reg.addr (.fltSrc k)) = .reg (.fltSrc k) := by revert k; decide +kernel

theorem decodeAddr_fltReact (k : Fin 256) : decodeAddr (Reg.addr (.fltReact k)) = .reg (.fltReact k) := by
  revert k; decide +kernel

theorem decodeAddr_recd (r : RecReg) : decodeAddr (Reg.addr (.recd r)) = .reg (.recd r) := by cases r <;> decide +kernel

theorem decodeAddr_rpl (r : RplReg) : decodeAddr (Reg.addr (.rpl r)) = .reg (.rpl r) := by cases r <;> decide +kernel

theorem decodeAddr_chk (u : Fin 4) (r : ChkReg) : decodeAddr (Reg.addr (.chk u r)) = .reg (.chk u r) := by
  cases r <;> (revert u; decide +kernel)

theorem decodeAddr_pair (r : PairReg) : decodeAddr (Reg.addr (.pair r)) = .reg (.pair r) := by cases r <;> decide +kernel

theorem decodeAddr_bg (r : BgReg) : decodeAddr (Reg.addr (.bg r)) = .reg (.bg r) := by cases r <;> decide +kernel

theorem decodeAddr_energy (n : Fin 16) :
    decodeAddr (Reg.addr (.energyLo n)) = .reg (.energyLo n) ∧ decodeAddr (Reg.addr (.energyHi n)) = .reg (.energyHi n) := by
  revert n; decide +kernel

theorem decodeAddr_svc (r : SvcReg) : decodeAddr (Reg.addr (.svc r)) = .reg (.svc r) := by cases r <;> decide +kernel

/-- Every register of the maps is found at its address. -/
@[simp] theorem decodeAddr_addr (r : Reg) : decodeAddr r.addr = .reg r := by
  cases r with
  | ident r => exact decodeAddr_ident r
  | port p r => exact decodeAddr_port p r
  | tktStat => decide +kernel
  | tktHeld => decide +kernel
  | time r => exact decodeAddr_time r
  | img r => exact decodeAddr_img r
  | fab r => exact decodeAddr_fab r
  | ch n r => exact decodeAddr_ch n r
  | ring x r => exact decodeAddr_ring x r
  | adc x r => exact decodeAddr_adc x r
  | adcEntry x i => exact decodeAddr_adcEntry x i
  | adcEntryOfs x i => exact decodeAddr_adcEntryOfs x i
  | filt r => exact decodeAddr_filt r
  | filtCh n r => exact decodeAddr_filtCh n r
  | whl w r => exact decodeAddr_whl w r
  | flt r => exact decodeAddr_flt r
  | fltChsafe n => exact decodeAddr_fltChsafe n
  | fltSrc k => exact decodeAddr_fltSrc k
  | fltReact k => exact decodeAddr_fltReact k
  | recd r => exact decodeAddr_recd r
  | rpl r => exact decodeAddr_rpl r
  | chk u r => exact decodeAddr_chk u r
  | pair r => exact decodeAddr_pair r
  | bg r => exact decodeAddr_bg r
  | energyLo n => exact (decodeAddr_energy n).1
  | energyHi n => exact (decodeAddr_energy n).2
  | svc r => exact decodeAddr_svc r

end

end Sys2Proof.Machine
end

