-- ==== Sys2Proof/Laws/State.lean ====
section
/-! SUPPORT. Every field of State after each update of one part of it, and what a table holds after a change of one
entry. -/

namespace Sys2Proof.Machine

/-! ## Tables -/

@[simp] theorem tmod_same {α : Type} {k : Nat} (v : Vector α k) (i : Fin k) (f : α → α) : (tmod v i f)[i.1] = f v[i.1] := by
  simp [tmod]

theorem tmod_other {α : Type} {k : Nat} (v : Vector α k) (i j : Fin k) (f : α → α) (h : i ≠ j) :
    (tmod v i f)[j.1] = v[j.1] := by
  simp [tmod, Vector.getElem_set, Fin.val_ne_of_ne h]

/-! ## Updates of one part -/

@[simp] theorem State.modRing_vio (s : State) (x : RingId) (f : Ring → Ring) : (s.modRing x f).vio = s.vio := by rfl
@[simp] theorem State.modRing_clock (s : State) (x : RingId) (f : Ring → Ring) : (s.modRing x f).clock = s.clock := by rfl
@[simp] theorem State.modRing_phase (s : State) (x : RingId) (f : Ring → Ring) : (s.modRing x f).phase = s.phase := by rfl
@[simp] theorem State.modRing_time (s : State) (x : RingId) (f : Ring → Ring) : (s.modRing x f).time = s.time := by rfl
@[simp] theorem State.modRing_tickets (s : State) (x : RingId) (f : Ring → Ring) : (s.modRing x f).tickets = s.tickets := by rfl
@[simp] theorem State.modRing_readyCount (s : State) (x : RingId) (f : Ring → Ring) : (s.modRing x f).readyCount = s.readyCount := by rfl
@[simp] theorem State.modRing_ports (s : State) (x : RingId) (f : Ring → Ring) : (s.modRing x f).ports = s.ports := by rfl
@[simp] theorem State.modRing_shadows (s : State) (x : RingId) (f : Ring → Ring) : (s.modRing x f).shadows = s.shadows := by rfl
@[simp] theorem State.modRing_recd (s : State) (x : RingId) (f : Ring → Ring) : (s.modRing x f).recd = s.recd := by rfl
@[simp] theorem State.modRing_wheels (s : State) (x : RingId) (f : Ring → Ring) : (s.modRing x f).wheels = s.wheels := by rfl
@[simp] theorem State.modRing_flt (s : State) (x : RingId) (f : Ring → Ring) : (s.modRing x f).flt = s.flt := by rfl
@[simp] theorem State.modRing_chans (s : State) (x : RingId) (f : Ring → Ring) : (s.modRing x f).chans = s.chans := by rfl
@[simp] theorem State.modRing_svc (s : State) (x : RingId) (f : Ring → Ring) : (s.modRing x f).svc = s.svc := by rfl
@[simp] theorem State.modRing_img (s : State) (x : RingId) (f : Ring → Ring) : (s.modRing x f).img = s.img := by rfl
@[simp] theorem State.modRing_cells (s : State) (x : RingId) (f : Ring → Ring) : (s.modRing x f).cells = s.cells := by rfl
@[simp] theorem State.modRing_storeGen (s : State) (x : RingId) (f : Ring → Ring) : (s.modRing x f).storeGen = s.storeGen := by rfl
@[simp] theorem State.modRing_fab (s : State) (x : RingId) (f : Ring → Ring) : (s.modRing x f).fab = s.fab := by rfl
@[simp] theorem State.modRing_adcs (s : State) (x : RingId) (f : Ring → Ring) : (s.modRing x f).adcs = s.adcs := by rfl
@[simp] theorem State.modRing_filt (s : State) (x : RingId) (f : Ring → Ring) : (s.modRing x f).filt = s.filt := by rfl
@[simp] theorem State.modRing_rpl (s : State) (x : RingId) (f : Ring → Ring) : (s.modRing x f).rpl = s.rpl := by rfl
@[simp] theorem State.modRing_chks (s : State) (x : RingId) (f : Ring → Ring) : (s.modRing x f).chks = s.chks := by rfl
@[simp] theorem State.modRing_chkTurn (s : State) (x : RingId) (f : Ring → Ring) : (s.modRing x f).chkTurn = s.chkTurn := by rfl
@[simp] theorem State.modRing_pair (s : State) (x : RingId) (f : Ring → Ring) : (s.modRing x f).pair = s.pair := by rfl
@[simp] theorem State.modRing_bg (s : State) (x : RingId) (f : Ring → Ring) : (s.modRing x f).bg = s.bg := by rfl
@[simp] theorem State.modRing_pwr (s : State) (x : RingId) (f : Ring → Ring) : (s.modRing x f).pwr = s.pwr := by rfl
@[simp] theorem State.modRing_freeCtr (s : State) (x : RingId) (f : Ring → Ring) : (s.modRing x f).freeCtr = s.freeCtr := by rfl
@[simp] theorem State.modRing_pending (s : State) (x : RingId) (f : Ring → Ring) : (s.modRing x f).pending = s.pending := by rfl

@[simp] theorem State.modChan_vio (s : State) (n : Fin 16) (f : Chan → Chan) : (s.modChan n f).vio = s.vio := by rfl
@[simp] theorem State.modChan_clock (s : State) (n : Fin 16) (f : Chan → Chan) : (s.modChan n f).clock = s.clock := by rfl
@[simp] theorem State.modChan_phase (s : State) (n : Fin 16) (f : Chan → Chan) : (s.modChan n f).phase = s.phase := by rfl
@[simp] theorem State.modChan_time (s : State) (n : Fin 16) (f : Chan → Chan) : (s.modChan n f).time = s.time := by rfl
@[simp] theorem State.modChan_tickets (s : State) (n : Fin 16) (f : Chan → Chan) : (s.modChan n f).tickets = s.tickets := by rfl
@[simp] theorem State.modChan_readyCount (s : State) (n : Fin 16) (f : Chan → Chan) : (s.modChan n f).readyCount = s.readyCount := by rfl
@[simp] theorem State.modChan_ports (s : State) (n : Fin 16) (f : Chan → Chan) : (s.modChan n f).ports = s.ports := by rfl
@[simp] theorem State.modChan_shadows (s : State) (n : Fin 16) (f : Chan → Chan) : (s.modChan n f).shadows = s.shadows := by rfl
@[simp] theorem State.modChan_recd (s : State) (n : Fin 16) (f : Chan → Chan) : (s.modChan n f).recd = s.recd := by rfl
@[simp] theorem State.modChan_wheels (s : State) (n : Fin 16) (f : Chan → Chan) : (s.modChan n f).wheels = s.wheels := by rfl
@[simp] theorem State.modChan_flt (s : State) (n : Fin 16) (f : Chan → Chan) : (s.modChan n f).flt = s.flt := by rfl
@[simp] theorem State.modChan_rings (s : State) (n : Fin 16) (f : Chan → Chan) : (s.modChan n f).rings = s.rings := by rfl
@[simp] theorem State.modChan_svc (s : State) (n : Fin 16) (f : Chan → Chan) : (s.modChan n f).svc = s.svc := by rfl
@[simp] theorem State.modChan_img (s : State) (n : Fin 16) (f : Chan → Chan) : (s.modChan n f).img = s.img := by rfl
@[simp] theorem State.modChan_cells (s : State) (n : Fin 16) (f : Chan → Chan) : (s.modChan n f).cells = s.cells := by rfl
@[simp] theorem State.modChan_storeGen (s : State) (n : Fin 16) (f : Chan → Chan) : (s.modChan n f).storeGen = s.storeGen := by rfl
@[simp] theorem State.modChan_fab (s : State) (n : Fin 16) (f : Chan → Chan) : (s.modChan n f).fab = s.fab := by rfl
@[simp] theorem State.modChan_adcs (s : State) (n : Fin 16) (f : Chan → Chan) : (s.modChan n f).adcs = s.adcs := by rfl
@[simp] theorem State.modChan_filt (s : State) (n : Fin 16) (f : Chan → Chan) : (s.modChan n f).filt = s.filt := by rfl
@[simp] theorem State.modChan_rpl (s : State) (n : Fin 16) (f : Chan → Chan) : (s.modChan n f).rpl = s.rpl := by rfl
@[simp] theorem State.modChan_chks (s : State) (n : Fin 16) (f : Chan → Chan) : (s.modChan n f).chks = s.chks := by rfl
@[simp] theorem State.modChan_chkTurn (s : State) (n : Fin 16) (f : Chan → Chan) : (s.modChan n f).chkTurn = s.chkTurn := by rfl
@[simp] theorem State.modChan_pair (s : State) (n : Fin 16) (f : Chan → Chan) : (s.modChan n f).pair = s.pair := by rfl
@[simp] theorem State.modChan_bg (s : State) (n : Fin 16) (f : Chan → Chan) : (s.modChan n f).bg = s.bg := by rfl
@[simp] theorem State.modChan_pwr (s : State) (n : Fin 16) (f : Chan → Chan) : (s.modChan n f).pwr = s.pwr := by rfl
@[simp] theorem State.modChan_freeCtr (s : State) (n : Fin 16) (f : Chan → Chan) : (s.modChan n f).freeCtr = s.freeCtr := by rfl
@[simp] theorem State.modChan_pending (s : State) (n : Fin 16) (f : Chan → Chan) : (s.modChan n f).pending = s.pending := by rfl

@[simp] theorem State.modPort_vio (s : State) (p : PortId) (f : Port → Port) : (s.modPort p f).vio = s.vio := by rfl
@[simp] theorem State.modPort_clock (s : State) (p : PortId) (f : Port → Port) : (s.modPort p f).clock = s.clock := by rfl
@[simp] theorem State.modPort_phase (s : State) (p : PortId) (f : Port → Port) : (s.modPort p f).phase = s.phase := by rfl
@[simp] theorem State.modPort_time (s : State) (p : PortId) (f : Port → Port) : (s.modPort p f).time = s.time := by rfl
@[simp] theorem State.modPort_tickets (s : State) (p : PortId) (f : Port → Port) : (s.modPort p f).tickets = s.tickets := by rfl
@[simp] theorem State.modPort_readyCount (s : State) (p : PortId) (f : Port → Port) : (s.modPort p f).readyCount = s.readyCount := by rfl
@[simp] theorem State.modPort_shadows (s : State) (p : PortId) (f : Port → Port) : (s.modPort p f).shadows = s.shadows := by rfl
@[simp] theorem State.modPort_recd (s : State) (p : PortId) (f : Port → Port) : (s.modPort p f).recd = s.recd := by rfl
@[simp] theorem State.modPort_wheels (s : State) (p : PortId) (f : Port → Port) : (s.modPort p f).wheels = s.wheels := by rfl
@[simp] theorem State.modPort_flt (s : State) (p : PortId) (f : Port → Port) : (s.modPort p f).flt = s.flt := by rfl
@[simp] theorem State.modPort_chans (s : State) (p : PortId) (f : Port → Port) : (s.modPort p f).chans = s.chans := by rfl
@[simp] theorem State.modPort_rings (s : State) (p : PortId) (f : Port → Port) : (s.modPort p f).rings = s.rings := by rfl
@[simp] theorem State.modPort_svc (s : State) (p : PortId) (f : Port → Port) : (s.modPort p f).svc = s.svc := by rfl
@[simp] theorem State.modPort_img (s : State) (p : PortId) (f : Port → Port) : (s.modPort p f).img = s.img := by rfl
@[simp] theorem State.modPort_cells (s : State) (p : PortId) (f : Port → Port) : (s.modPort p f).cells = s.cells := by rfl
@[simp] theorem State.modPort_storeGen (s : State) (p : PortId) (f : Port → Port) : (s.modPort p f).storeGen = s.storeGen := by rfl
@[simp] theorem State.modPort_fab (s : State) (p : PortId) (f : Port → Port) : (s.modPort p f).fab = s.fab := by rfl
@[simp] theorem State.modPort_adcs (s : State) (p : PortId) (f : Port → Port) : (s.modPort p f).adcs = s.adcs := by rfl
@[simp] theorem State.modPort_filt (s : State) (p : PortId) (f : Port → Port) : (s.modPort p f).filt = s.filt := by rfl
@[simp] theorem State.modPort_rpl (s : State) (p : PortId) (f : Port → Port) : (s.modPort p f).rpl = s.rpl := by rfl
@[simp] theorem State.modPort_chks (s : State) (p : PortId) (f : Port → Port) : (s.modPort p f).chks = s.chks := by rfl
@[simp] theorem State.modPort_chkTurn (s : State) (p : PortId) (f : Port → Port) : (s.modPort p f).chkTurn = s.chkTurn := by rfl
@[simp] theorem State.modPort_pair (s : State) (p : PortId) (f : Port → Port) : (s.modPort p f).pair = s.pair := by rfl
@[simp] theorem State.modPort_bg (s : State) (p : PortId) (f : Port → Port) : (s.modPort p f).bg = s.bg := by rfl
@[simp] theorem State.modPort_pwr (s : State) (p : PortId) (f : Port → Port) : (s.modPort p f).pwr = s.pwr := by rfl
@[simp] theorem State.modPort_freeCtr (s : State) (p : PortId) (f : Port → Port) : (s.modPort p f).freeCtr = s.freeCtr := by rfl
@[simp] theorem State.modPort_pending (s : State) (p : PortId) (f : Port → Port) : (s.modPort p f).pending = s.pending := by rfl

@[simp] theorem State.modWheel_vio (s : State) (w : Fin 64) (f : Wheel → Wheel) : (s.modWheel w f).vio = s.vio := by rfl
@[simp] theorem State.modWheel_clock (s : State) (w : Fin 64) (f : Wheel → Wheel) : (s.modWheel w f).clock = s.clock := by rfl
@[simp] theorem State.modWheel_phase (s : State) (w : Fin 64) (f : Wheel → Wheel) : (s.modWheel w f).phase = s.phase := by rfl
@[simp] theorem State.modWheel_time (s : State) (w : Fin 64) (f : Wheel → Wheel) : (s.modWheel w f).time = s.time := by rfl
@[simp] theorem State.modWheel_tickets (s : State) (w : Fin 64) (f : Wheel → Wheel) : (s.modWheel w f).tickets = s.tickets := by rfl
@[simp] theorem State.modWheel_readyCount (s : State) (w : Fin 64) (f : Wheel → Wheel) : (s.modWheel w f).readyCount = s.readyCount := by rfl
@[simp] theorem State.modWheel_ports (s : State) (w : Fin 64) (f : Wheel → Wheel) : (s.modWheel w f).ports = s.ports := by rfl
@[simp] theorem State.modWheel_shadows (s : State) (w : Fin 64) (f : Wheel → Wheel) : (s.modWheel w f).shadows = s.shadows := by rfl
@[simp] theorem State.modWheel_recd (s : State) (w : Fin 64) (f : Wheel → Wheel) : (s.modWheel w f).recd = s.recd := by rfl
@[simp] theorem State.modWheel_flt (s : State) (w : Fin 64) (f : Wheel → Wheel) : (s.modWheel w f).flt = s.flt := by rfl
@[simp] theorem State.modWheel_chans (s : State) (w : Fin 64) (f : Wheel → Wheel) : (s.modWheel w f).chans = s.chans := by rfl
@[simp] theorem State.modWheel_rings (s : State) (w : Fin 64) (f : Wheel → Wheel) : (s.modWheel w f).rings = s.rings := by rfl
@[simp] theorem State.modWheel_svc (s : State) (w : Fin 64) (f : Wheel → Wheel) : (s.modWheel w f).svc = s.svc := by rfl
@[simp] theorem State.modWheel_img (s : State) (w : Fin 64) (f : Wheel → Wheel) : (s.modWheel w f).img = s.img := by rfl
@[simp] theorem State.modWheel_cells (s : State) (w : Fin 64) (f : Wheel → Wheel) : (s.modWheel w f).cells = s.cells := by rfl
@[simp] theorem State.modWheel_storeGen (s : State) (w : Fin 64) (f : Wheel → Wheel) : (s.modWheel w f).storeGen = s.storeGen := by rfl
@[simp] theorem State.modWheel_fab (s : State) (w : Fin 64) (f : Wheel → Wheel) : (s.modWheel w f).fab = s.fab := by rfl
@[simp] theorem State.modWheel_adcs (s : State) (w : Fin 64) (f : Wheel → Wheel) : (s.modWheel w f).adcs = s.adcs := by rfl
@[simp] theorem State.modWheel_filt (s : State) (w : Fin 64) (f : Wheel → Wheel) : (s.modWheel w f).filt = s.filt := by rfl
@[simp] theorem State.modWheel_rpl (s : State) (w : Fin 64) (f : Wheel → Wheel) : (s.modWheel w f).rpl = s.rpl := by rfl
@[simp] theorem State.modWheel_chks (s : State) (w : Fin 64) (f : Wheel → Wheel) : (s.modWheel w f).chks = s.chks := by rfl
@[simp] theorem State.modWheel_chkTurn (s : State) (w : Fin 64) (f : Wheel → Wheel) : (s.modWheel w f).chkTurn = s.chkTurn := by rfl
@[simp] theorem State.modWheel_pair (s : State) (w : Fin 64) (f : Wheel → Wheel) : (s.modWheel w f).pair = s.pair := by rfl
@[simp] theorem State.modWheel_bg (s : State) (w : Fin 64) (f : Wheel → Wheel) : (s.modWheel w f).bg = s.bg := by rfl
@[simp] theorem State.modWheel_pwr (s : State) (w : Fin 64) (f : Wheel → Wheel) : (s.modWheel w f).pwr = s.pwr := by rfl
@[simp] theorem State.modWheel_freeCtr (s : State) (w : Fin 64) (f : Wheel → Wheel) : (s.modWheel w f).freeCtr = s.freeCtr := by rfl
@[simp] theorem State.modWheel_pending (s : State) (w : Fin 64) (f : Wheel → Wheel) : (s.modWheel w f).pending = s.pending := by rfl

@[simp] theorem State.modSlot_vio (s : State) (k : Fin 256) (f : FaultSlot → FaultSlot) : (s.modSlot k f).vio = s.vio := by rfl
@[simp] theorem State.modSlot_clock (s : State) (k : Fin 256) (f : FaultSlot → FaultSlot) : (s.modSlot k f).clock = s.clock := by rfl
@[simp] theorem State.modSlot_phase (s : State) (k : Fin 256) (f : FaultSlot → FaultSlot) : (s.modSlot k f).phase = s.phase := by rfl
@[simp] theorem State.modSlot_time (s : State) (k : Fin 256) (f : FaultSlot → FaultSlot) : (s.modSlot k f).time = s.time := by rfl
@[simp] theorem State.modSlot_tickets (s : State) (k : Fin 256) (f : FaultSlot → FaultSlot) : (s.modSlot k f).tickets = s.tickets := by rfl
@[simp] theorem State.modSlot_readyCount (s : State) (k : Fin 256) (f : FaultSlot → FaultSlot) : (s.modSlot k f).readyCount = s.readyCount := by rfl
@[simp] theorem State.modSlot_ports (s : State) (k : Fin 256) (f : FaultSlot → FaultSlot) : (s.modSlot k f).ports = s.ports := by rfl
@[simp] theorem State.modSlot_shadows (s : State) (k : Fin 256) (f : FaultSlot → FaultSlot) : (s.modSlot k f).shadows = s.shadows := by rfl
@[simp] theorem State.modSlot_recd (s : State) (k : Fin 256) (f : FaultSlot → FaultSlot) : (s.modSlot k f).recd = s.recd := by rfl
@[simp] theorem State.modSlot_wheels (s : State) (k : Fin 256) (f : FaultSlot → FaultSlot) : (s.modSlot k f).wheels = s.wheels := by rfl
@[simp] theorem State.modSlot_chans (s : State) (k : Fin 256) (f : FaultSlot → FaultSlot) : (s.modSlot k f).chans = s.chans := by rfl
@[simp] theorem State.modSlot_rings (s : State) (k : Fin 256) (f : FaultSlot → FaultSlot) : (s.modSlot k f).rings = s.rings := by rfl
@[simp] theorem State.modSlot_svc (s : State) (k : Fin 256) (f : FaultSlot → FaultSlot) : (s.modSlot k f).svc = s.svc := by rfl
@[simp] theorem State.modSlot_img (s : State) (k : Fin 256) (f : FaultSlot → FaultSlot) : (s.modSlot k f).img = s.img := by rfl
@[simp] theorem State.modSlot_cells (s : State) (k : Fin 256) (f : FaultSlot → FaultSlot) : (s.modSlot k f).cells = s.cells := by rfl
@[simp] theorem State.modSlot_storeGen (s : State) (k : Fin 256) (f : FaultSlot → FaultSlot) : (s.modSlot k f).storeGen = s.storeGen := by rfl
@[simp] theorem State.modSlot_fab (s : State) (k : Fin 256) (f : FaultSlot → FaultSlot) : (s.modSlot k f).fab = s.fab := by rfl
@[simp] theorem State.modSlot_adcs (s : State) (k : Fin 256) (f : FaultSlot → FaultSlot) : (s.modSlot k f).adcs = s.adcs := by rfl
@[simp] theorem State.modSlot_filt (s : State) (k : Fin 256) (f : FaultSlot → FaultSlot) : (s.modSlot k f).filt = s.filt := by rfl
@[simp] theorem State.modSlot_rpl (s : State) (k : Fin 256) (f : FaultSlot → FaultSlot) : (s.modSlot k f).rpl = s.rpl := by rfl
@[simp] theorem State.modSlot_chks (s : State) (k : Fin 256) (f : FaultSlot → FaultSlot) : (s.modSlot k f).chks = s.chks := by rfl
@[simp] theorem State.modSlot_chkTurn (s : State) (k : Fin 256) (f : FaultSlot → FaultSlot) : (s.modSlot k f).chkTurn = s.chkTurn := by rfl
@[simp] theorem State.modSlot_pair (s : State) (k : Fin 256) (f : FaultSlot → FaultSlot) : (s.modSlot k f).pair = s.pair := by rfl
@[simp] theorem State.modSlot_bg (s : State) (k : Fin 256) (f : FaultSlot → FaultSlot) : (s.modSlot k f).bg = s.bg := by rfl
@[simp] theorem State.modSlot_pwr (s : State) (k : Fin 256) (f : FaultSlot → FaultSlot) : (s.modSlot k f).pwr = s.pwr := by rfl
@[simp] theorem State.modSlot_freeCtr (s : State) (k : Fin 256) (f : FaultSlot → FaultSlot) : (s.modSlot k f).freeCtr = s.freeCtr := by rfl
@[simp] theorem State.modSlot_pending (s : State) (k : Fin 256) (f : FaultSlot → FaultSlot) : (s.modSlot k f).pending = s.pending := by rfl

@[simp] theorem State.modChain_vio (s : State) (n : Fin 16) (f : Chain → Chain) : (s.modChain n f).vio = s.vio := by rfl
@[simp] theorem State.modChain_clock (s : State) (n : Fin 16) (f : Chain → Chain) : (s.modChain n f).clock = s.clock := by rfl
@[simp] theorem State.modChain_phase (s : State) (n : Fin 16) (f : Chain → Chain) : (s.modChain n f).phase = s.phase := by rfl
@[simp] theorem State.modChain_time (s : State) (n : Fin 16) (f : Chain → Chain) : (s.modChain n f).time = s.time := by rfl
@[simp] theorem State.modChain_tickets (s : State) (n : Fin 16) (f : Chain → Chain) : (s.modChain n f).tickets = s.tickets := by rfl
@[simp] theorem State.modChain_readyCount (s : State) (n : Fin 16) (f : Chain → Chain) : (s.modChain n f).readyCount = s.readyCount := by rfl
@[simp] theorem State.modChain_ports (s : State) (n : Fin 16) (f : Chain → Chain) : (s.modChain n f).ports = s.ports := by rfl
@[simp] theorem State.modChain_shadows (s : State) (n : Fin 16) (f : Chain → Chain) : (s.modChain n f).shadows = s.shadows := by rfl
@[simp] theorem State.modChain_recd (s : State) (n : Fin 16) (f : Chain → Chain) : (s.modChain n f).recd = s.recd := by rfl
@[simp] theorem State.modChain_wheels (s : State) (n : Fin 16) (f : Chain → Chain) : (s.modChain n f).wheels = s.wheels := by rfl
@[simp] theorem State.modChain_flt (s : State) (n : Fin 16) (f : Chain → Chain) : (s.modChain n f).flt = s.flt := by rfl
@[simp] theorem State.modChain_chans (s : State) (n : Fin 16) (f : Chain → Chain) : (s.modChain n f).chans = s.chans := by rfl
@[simp] theorem State.modChain_rings (s : State) (n : Fin 16) (f : Chain → Chain) : (s.modChain n f).rings = s.rings := by rfl
@[simp] theorem State.modChain_svc (s : State) (n : Fin 16) (f : Chain → Chain) : (s.modChain n f).svc = s.svc := by rfl
@[simp] theorem State.modChain_img (s : State) (n : Fin 16) (f : Chain → Chain) : (s.modChain n f).img = s.img := by rfl
@[simp] theorem State.modChain_cells (s : State) (n : Fin 16) (f : Chain → Chain) : (s.modChain n f).cells = s.cells := by rfl
@[simp] theorem State.modChain_storeGen (s : State) (n : Fin 16) (f : Chain → Chain) : (s.modChain n f).storeGen = s.storeGen := by rfl
@[simp] theorem State.modChain_fab (s : State) (n : Fin 16) (f : Chain → Chain) : (s.modChain n f).fab = s.fab := by rfl
@[simp] theorem State.modChain_adcs (s : State) (n : Fin 16) (f : Chain → Chain) : (s.modChain n f).adcs = s.adcs := by rfl
@[simp] theorem State.modChain_rpl (s : State) (n : Fin 16) (f : Chain → Chain) : (s.modChain n f).rpl = s.rpl := by rfl
@[simp] theorem State.modChain_chks (s : State) (n : Fin 16) (f : Chain → Chain) : (s.modChain n f).chks = s.chks := by rfl
@[simp] theorem State.modChain_chkTurn (s : State) (n : Fin 16) (f : Chain → Chain) : (s.modChain n f).chkTurn = s.chkTurn := by rfl
@[simp] theorem State.modChain_pair (s : State) (n : Fin 16) (f : Chain → Chain) : (s.modChain n f).pair = s.pair := by rfl
@[simp] theorem State.modChain_bg (s : State) (n : Fin 16) (f : Chain → Chain) : (s.modChain n f).bg = s.bg := by rfl
@[simp] theorem State.modChain_pwr (s : State) (n : Fin 16) (f : Chain → Chain) : (s.modChain n f).pwr = s.pwr := by rfl
@[simp] theorem State.modChain_freeCtr (s : State) (n : Fin 16) (f : Chain → Chain) : (s.modChain n f).freeCtr = s.freeCtr := by rfl
@[simp] theorem State.modChain_pending (s : State) (n : Fin 16) (f : Chain → Chain) : (s.modChain n f).pending = s.pending := by rfl

@[simp] theorem State.modAdc_vio (s : State) (x : RingId) (f : Adc → Adc) : (s.modAdc x f).vio = s.vio := by rfl
@[simp] theorem State.modAdc_clock (s : State) (x : RingId) (f : Adc → Adc) : (s.modAdc x f).clock = s.clock := by rfl
@[simp] theorem State.modAdc_phase (s : State) (x : RingId) (f : Adc → Adc) : (s.modAdc x f).phase = s.phase := by rfl
@[simp] theorem State.modAdc_time (s : State) (x : RingId) (f : Adc → Adc) : (s.modAdc x f).time = s.time := by rfl
@[simp] theorem State.modAdc_tickets (s : State) (x : RingId) (f : Adc → Adc) : (s.modAdc x f).tickets = s.tickets := by rfl
@[simp] theorem State.modAdc_readyCount (s : State) (x : RingId) (f : Adc → Adc) : (s.modAdc x f).readyCount = s.readyCount := by rfl
@[simp] theorem State.modAdc_ports (s : State) (x : RingId) (f : Adc → Adc) : (s.modAdc x f).ports = s.ports := by rfl
@[simp] theorem State.modAdc_shadows (s : State) (x : RingId) (f : Adc → Adc) : (s.modAdc x f).shadows = s.shadows := by rfl
@[simp] theorem State.modAdc_recd (s : State) (x : RingId) (f : Adc → Adc) : (s.modAdc x f).recd = s.recd := by rfl
@[simp] theorem State.modAdc_wheels (s : State) (x : RingId) (f : Adc → Adc) : (s.modAdc x f).wheels = s.wheels := by rfl
@[simp] theorem State.modAdc_flt (s : State) (x : RingId) (f : Adc → Adc) : (s.modAdc x f).flt = s.flt := by rfl
@[simp] theorem State.modAdc_chans (s : State) (x : RingId) (f : Adc → Adc) : (s.modAdc x f).chans = s.chans := by rfl
@[simp] theorem State.modAdc_rings (s : State) (x : RingId) (f : Adc → Adc) : (s.modAdc x f).rings = s.rings := by rfl
@[simp] theorem State.modAdc_svc (s : State) (x : RingId) (f : Adc → Adc) : (s.modAdc x f).svc = s.svc := by rfl
@[simp] theorem State.modAdc_img (s : State) (x : RingId) (f : Adc → Adc) : (s.modAdc x f).img = s.img := by rfl
@[simp] theorem State.modAdc_cells (s : State) (x : RingId) (f : Adc → Adc) : (s.modAdc x f).cells = s.cells := by rfl
@[simp] theorem State.modAdc_storeGen (s : State) (x : RingId) (f : Adc → Adc) : (s.modAdc x f).storeGen = s.storeGen := by rfl
@[simp] theorem State.modAdc_fab (s : State) (x : RingId) (f : Adc → Adc) : (s.modAdc x f).fab = s.fab := by rfl
@[simp] theorem State.modAdc_filt (s : State) (x : RingId) (f : Adc → Adc) : (s.modAdc x f).filt = s.filt := by rfl
@[simp] theorem State.modAdc_rpl (s : State) (x : RingId) (f : Adc → Adc) : (s.modAdc x f).rpl = s.rpl := by rfl
@[simp] theorem State.modAdc_chks (s : State) (x : RingId) (f : Adc → Adc) : (s.modAdc x f).chks = s.chks := by rfl
@[simp] theorem State.modAdc_chkTurn (s : State) (x : RingId) (f : Adc → Adc) : (s.modAdc x f).chkTurn = s.chkTurn := by rfl
@[simp] theorem State.modAdc_pair (s : State) (x : RingId) (f : Adc → Adc) : (s.modAdc x f).pair = s.pair := by rfl
@[simp] theorem State.modAdc_bg (s : State) (x : RingId) (f : Adc → Adc) : (s.modAdc x f).bg = s.bg := by rfl
@[simp] theorem State.modAdc_pwr (s : State) (x : RingId) (f : Adc → Adc) : (s.modAdc x f).pwr = s.pwr := by rfl
@[simp] theorem State.modAdc_freeCtr (s : State) (x : RingId) (f : Adc → Adc) : (s.modAdc x f).freeCtr = s.freeCtr := by rfl
@[simp] theorem State.modAdc_pending (s : State) (x : RingId) (f : Adc → Adc) : (s.modAdc x f).pending = s.pending := by rfl

@[simp] theorem State.modTicket_vio (s : State) (t : Fin 64) (f : Ticket → Ticket) : (s.modTicket t f).vio = s.vio := by rfl
@[simp] theorem State.modTicket_clock (s : State) (t : Fin 64) (f : Ticket → Ticket) : (s.modTicket t f).clock = s.clock := by rfl
@[simp] theorem State.modTicket_phase (s : State) (t : Fin 64) (f : Ticket → Ticket) : (s.modTicket t f).phase = s.phase := by rfl
@[simp] theorem State.modTicket_time (s : State) (t : Fin 64) (f : Ticket → Ticket) : (s.modTicket t f).time = s.time := by rfl
@[simp] theorem State.modTicket_readyCount (s : State) (t : Fin 64) (f : Ticket → Ticket) : (s.modTicket t f).readyCount = s.readyCount := by rfl
@[simp] theorem State.modTicket_ports (s : State) (t : Fin 64) (f : Ticket → Ticket) : (s.modTicket t f).ports = s.ports := by rfl
@[simp] theorem State.modTicket_shadows (s : State) (t : Fin 64) (f : Ticket → Ticket) : (s.modTicket t f).shadows = s.shadows := by rfl
@[simp] theorem State.modTicket_recd (s : State) (t : Fin 64) (f : Ticket → Ticket) : (s.modTicket t f).recd = s.recd := by rfl
@[simp] theorem State.modTicket_wheels (s : State) (t : Fin 64) (f : Ticket → Ticket) : (s.modTicket t f).wheels = s.wheels := by rfl
@[simp] theorem State.modTicket_flt (s : State) (t : Fin 64) (f : Ticket → Ticket) : (s.modTicket t f).flt = s.flt := by rfl
@[simp] theorem State.modTicket_chans (s : State) (t : Fin 64) (f : Ticket → Ticket) : (s.modTicket t f).chans = s.chans := by rfl
@[simp] theorem State.modTicket_rings (s : State) (t : Fin 64) (f : Ticket → Ticket) : (s.modTicket t f).rings = s.rings := by rfl
@[simp] theorem State.modTicket_svc (s : State) (t : Fin 64) (f : Ticket → Ticket) : (s.modTicket t f).svc = s.svc := by rfl
@[simp] theorem State.modTicket_img (s : State) (t : Fin 64) (f : Ticket → Ticket) : (s.modTicket t f).img = s.img := by rfl
@[simp] theorem State.modTicket_cells (s : State) (t : Fin 64) (f : Ticket → Ticket) : (s.modTicket t f).cells = s.cells := by rfl
@[simp] theorem State.modTicket_storeGen (s : State) (t : Fin 64) (f : Ticket → Ticket) : (s.modTicket t f).storeGen = s.storeGen := by rfl
@[simp] theorem State.modTicket_fab (s : State) (t : Fin 64) (f : Ticket → Ticket) : (s.modTicket t f).fab = s.fab := by rfl
@[simp] theorem State.modTicket_adcs (s : State) (t : Fin 64) (f : Ticket → Ticket) : (s.modTicket t f).adcs = s.adcs := by rfl
@[simp] theorem State.modTicket_filt (s : State) (t : Fin 64) (f : Ticket → Ticket) : (s.modTicket t f).filt = s.filt := by rfl
@[simp] theorem State.modTicket_rpl (s : State) (t : Fin 64) (f : Ticket → Ticket) : (s.modTicket t f).rpl = s.rpl := by rfl
@[simp] theorem State.modTicket_chks (s : State) (t : Fin 64) (f : Ticket → Ticket) : (s.modTicket t f).chks = s.chks := by rfl
@[simp] theorem State.modTicket_chkTurn (s : State) (t : Fin 64) (f : Ticket → Ticket) : (s.modTicket t f).chkTurn = s.chkTurn := by rfl
@[simp] theorem State.modTicket_pair (s : State) (t : Fin 64) (f : Ticket → Ticket) : (s.modTicket t f).pair = s.pair := by rfl
@[simp] theorem State.modTicket_bg (s : State) (t : Fin 64) (f : Ticket → Ticket) : (s.modTicket t f).bg = s.bg := by rfl
@[simp] theorem State.modTicket_pwr (s : State) (t : Fin 64) (f : Ticket → Ticket) : (s.modTicket t f).pwr = s.pwr := by rfl
@[simp] theorem State.modTicket_freeCtr (s : State) (t : Fin 64) (f : Ticket → Ticket) : (s.modTicket t f).freeCtr = s.freeCtr := by rfl
@[simp] theorem State.modTicket_pending (s : State) (t : Fin 64) (f : Ticket → Ticket) : (s.modTicket t f).pending = s.pending := by rfl

@[simp] theorem State.modChk_vio (s : State) (u : Fin 4) (f : Chk → Chk) : (s.modChk u f).vio = s.vio := by rfl
@[simp] theorem State.modChk_clock (s : State) (u : Fin 4) (f : Chk → Chk) : (s.modChk u f).clock = s.clock := by rfl
@[simp] theorem State.modChk_phase (s : State) (u : Fin 4) (f : Chk → Chk) : (s.modChk u f).phase = s.phase := by rfl
@[simp] theorem State.modChk_time (s : State) (u : Fin 4) (f : Chk → Chk) : (s.modChk u f).time = s.time := by rfl
@[simp] theorem State.modChk_tickets (s : State) (u : Fin 4) (f : Chk → Chk) : (s.modChk u f).tickets = s.tickets := by rfl
@[simp] theorem State.modChk_readyCount (s : State) (u : Fin 4) (f : Chk → Chk) : (s.modChk u f).readyCount = s.readyCount := by rfl
@[simp] theorem State.modChk_ports (s : State) (u : Fin 4) (f : Chk → Chk) : (s.modChk u f).ports = s.ports := by rfl
@[simp] theorem State.modChk_shadows (s : State) (u : Fin 4) (f : Chk → Chk) : (s.modChk u f).shadows = s.shadows := by rfl
@[simp] theorem State.modChk_recd (s : State) (u : Fin 4) (f : Chk → Chk) : (s.modChk u f).recd = s.recd := by rfl
@[simp] theorem State.modChk_wheels (s : State) (u : Fin 4) (f : Chk → Chk) : (s.modChk u f).wheels = s.wheels := by rfl
@[simp] theorem State.modChk_flt (s : State) (u : Fin 4) (f : Chk → Chk) : (s.modChk u f).flt = s.flt := by rfl
@[simp] theorem State.modChk_chans (s : State) (u : Fin 4) (f : Chk → Chk) : (s.modChk u f).chans = s.chans := by rfl
@[simp] theorem State.modChk_rings (s : State) (u : Fin 4) (f : Chk → Chk) : (s.modChk u f).rings = s.rings := by rfl
@[simp] theorem State.modChk_svc (s : State) (u : Fin 4) (f : Chk → Chk) : (s.modChk u f).svc = s.svc := by rfl
@[simp] theorem State.modChk_img (s : State) (u : Fin 4) (f : Chk → Chk) : (s.modChk u f).img = s.img := by rfl
@[simp] theorem State.modChk_cells (s : State) (u : Fin 4) (f : Chk → Chk) : (s.modChk u f).cells = s.cells := by rfl
@[simp] theorem State.modChk_storeGen (s : State) (u : Fin 4) (f : Chk → Chk) : (s.modChk u f).storeGen = s.storeGen := by rfl
@[simp] theorem State.modChk_fab (s : State) (u : Fin 4) (f : Chk → Chk) : (s.modChk u f).fab = s.fab := by rfl
@[simp] theorem State.modChk_adcs (s : State) (u : Fin 4) (f : Chk → Chk) : (s.modChk u f).adcs = s.adcs := by rfl
@[simp] theorem State.modChk_filt (s : State) (u : Fin 4) (f : Chk → Chk) : (s.modChk u f).filt = s.filt := by rfl
@[simp] theorem State.modChk_rpl (s : State) (u : Fin 4) (f : Chk → Chk) : (s.modChk u f).rpl = s.rpl := by rfl
@[simp] theorem State.modChk_pair (s : State) (u : Fin 4) (f : Chk → Chk) : (s.modChk u f).pair = s.pair := by rfl
@[simp] theorem State.modChk_bg (s : State) (u : Fin 4) (f : Chk → Chk) : (s.modChk u f).bg = s.bg := by rfl
@[simp] theorem State.modChk_chkTurn (s : State) (u : Fin 4) (f : Chk → Chk) : (s.modChk u f).chkTurn = s.chkTurn := by rfl
@[simp] theorem State.modChk_pwr (s : State) (u : Fin 4) (f : Chk → Chk) : (s.modChk u f).pwr = s.pwr := by rfl
@[simp] theorem State.modChk_freeCtr (s : State) (u : Fin 4) (f : Chk → Chk) : (s.modChk u f).freeCtr = s.freeCtr := by rfl
@[simp] theorem State.modChk_pending (s : State) (u : Fin 4) (f : Chk → Chk) : (s.modChk u f).pending = s.pending := by rfl

@[simp] theorem State.modBg_vio (s : State) (f : Bg → Bg) : (s.modBg f).vio = s.vio := by rfl
@[simp] theorem State.modBg_clock (s : State) (f : Bg → Bg) : (s.modBg f).clock = s.clock := by rfl
@[simp] theorem State.modBg_phase (s : State) (f : Bg → Bg) : (s.modBg f).phase = s.phase := by rfl
@[simp] theorem State.modBg_time (s : State) (f : Bg → Bg) : (s.modBg f).time = s.time := by rfl
@[simp] theorem State.modBg_tickets (s : State) (f : Bg → Bg) : (s.modBg f).tickets = s.tickets := by rfl
@[simp] theorem State.modBg_readyCount (s : State) (f : Bg → Bg) : (s.modBg f).readyCount = s.readyCount := by rfl
@[simp] theorem State.modBg_ports (s : State) (f : Bg → Bg) : (s.modBg f).ports = s.ports := by rfl
@[simp] theorem State.modBg_shadows (s : State) (f : Bg → Bg) : (s.modBg f).shadows = s.shadows := by rfl
@[simp] theorem State.modBg_recd (s : State) (f : Bg → Bg) : (s.modBg f).recd = s.recd := by rfl
@[simp] theorem State.modBg_wheels (s : State) (f : Bg → Bg) : (s.modBg f).wheels = s.wheels := by rfl
@[simp] theorem State.modBg_flt (s : State) (f : Bg → Bg) : (s.modBg f).flt = s.flt := by rfl
@[simp] theorem State.modBg_chans (s : State) (f : Bg → Bg) : (s.modBg f).chans = s.chans := by rfl
@[simp] theorem State.modBg_rings (s : State) (f : Bg → Bg) : (s.modBg f).rings = s.rings := by rfl
@[simp] theorem State.modBg_svc (s : State) (f : Bg → Bg) : (s.modBg f).svc = s.svc := by rfl
@[simp] theorem State.modBg_img (s : State) (f : Bg → Bg) : (s.modBg f).img = s.img := by rfl
@[simp] theorem State.modBg_cells (s : State) (f : Bg → Bg) : (s.modBg f).cells = s.cells := by rfl
@[simp] theorem State.modBg_storeGen (s : State) (f : Bg → Bg) : (s.modBg f).storeGen = s.storeGen := by rfl
@[simp] theorem State.modBg_fab (s : State) (f : Bg → Bg) : (s.modBg f).fab = s.fab := by rfl
@[simp] theorem State.modBg_adcs (s : State) (f : Bg → Bg) : (s.modBg f).adcs = s.adcs := by rfl
@[simp] theorem State.modBg_filt (s : State) (f : Bg → Bg) : (s.modBg f).filt = s.filt := by rfl
@[simp] theorem State.modBg_rpl (s : State) (f : Bg → Bg) : (s.modBg f).rpl = s.rpl := by rfl
@[simp] theorem State.modBg_chks (s : State) (f : Bg → Bg) : (s.modBg f).chks = s.chks := by rfl
@[simp] theorem State.modBg_chkTurn (s : State) (f : Bg → Bg) : (s.modBg f).chkTurn = s.chkTurn := by rfl
@[simp] theorem State.modBg_pair (s : State) (f : Bg → Bg) : (s.modBg f).pair = s.pair := by rfl
@[simp] theorem State.modBg_pwr (s : State) (f : Bg → Bg) : (s.modBg f).pwr = s.pwr := by rfl
@[simp] theorem State.modBg_freeCtr (s : State) (f : Bg → Bg) : (s.modBg f).freeCtr = s.freeCtr := by rfl
@[simp] theorem State.modBg_pending (s : State) (f : Bg → Bg) : (s.modBg f).pending = s.pending := by rfl
@[simp] theorem State.modBg_bg (s : State) (f : Bg → Bg) : (s.modBg f).bg = f s.bg := by rfl

@[simp] theorem State.modFlt_vio (s : State) (f : Collector → Collector) : (s.modFlt f).vio = s.vio := by rfl
@[simp] theorem State.modFlt_clock (s : State) (f : Collector → Collector) : (s.modFlt f).clock = s.clock := by rfl
@[simp] theorem State.modFlt_phase (s : State) (f : Collector → Collector) : (s.modFlt f).phase = s.phase := by rfl
@[simp] theorem State.modFlt_time (s : State) (f : Collector → Collector) : (s.modFlt f).time = s.time := by rfl
@[simp] theorem State.modFlt_tickets (s : State) (f : Collector → Collector) : (s.modFlt f).tickets = s.tickets := by rfl
@[simp] theorem State.modFlt_readyCount (s : State) (f : Collector → Collector) : (s.modFlt f).readyCount = s.readyCount := by rfl
@[simp] theorem State.modFlt_ports (s : State) (f : Collector → Collector) : (s.modFlt f).ports = s.ports := by rfl
@[simp] theorem State.modFlt_shadows (s : State) (f : Collector → Collector) : (s.modFlt f).shadows = s.shadows := by rfl
@[simp] theorem State.modFlt_recd (s : State) (f : Collector → Collector) : (s.modFlt f).recd = s.recd := by rfl
@[simp] theorem State.modFlt_wheels (s : State) (f : Collector → Collector) : (s.modFlt f).wheels = s.wheels := by rfl
@[simp] theorem State.modFlt_chans (s : State) (f : Collector → Collector) : (s.modFlt f).chans = s.chans := by rfl
@[simp] theorem State.modFlt_rings (s : State) (f : Collector → Collector) : (s.modFlt f).rings = s.rings := by rfl
@[simp] theorem State.modFlt_svc (s : State) (f : Collector → Collector) : (s.modFlt f).svc = s.svc := by rfl
@[simp] theorem State.modFlt_img (s : State) (f : Collector → Collector) : (s.modFlt f).img = s.img := by rfl
@[simp] theorem State.modFlt_cells (s : State) (f : Collector → Collector) : (s.modFlt f).cells = s.cells := by rfl
@[simp] theorem State.modFlt_storeGen (s : State) (f : Collector → Collector) : (s.modFlt f).storeGen = s.storeGen := by rfl
@[simp] theorem State.modFlt_fab (s : State) (f : Collector → Collector) : (s.modFlt f).fab = s.fab := by rfl
@[simp] theorem State.modFlt_adcs (s : State) (f : Collector → Collector) : (s.modFlt f).adcs = s.adcs := by rfl
@[simp] theorem State.modFlt_filt (s : State) (f : Collector → Collector) : (s.modFlt f).filt = s.filt := by rfl
@[simp] theorem State.modFlt_rpl (s : State) (f : Collector → Collector) : (s.modFlt f).rpl = s.rpl := by rfl
@[simp] theorem State.modFlt_chks (s : State) (f : Collector → Collector) : (s.modFlt f).chks = s.chks := by rfl
@[simp] theorem State.modFlt_chkTurn (s : State) (f : Collector → Collector) : (s.modFlt f).chkTurn = s.chkTurn := by rfl
@[simp] theorem State.modFlt_pair (s : State) (f : Collector → Collector) : (s.modFlt f).pair = s.pair := by rfl
@[simp] theorem State.modFlt_bg (s : State) (f : Collector → Collector) : (s.modFlt f).bg = s.bg := by rfl
@[simp] theorem State.modFlt_pwr (s : State) (f : Collector → Collector) : (s.modFlt f).pwr = s.pwr := by rfl
@[simp] theorem State.modFlt_freeCtr (s : State) (f : Collector → Collector) : (s.modFlt f).freeCtr = s.freeCtr := by rfl
@[simp] theorem State.modFlt_pending (s : State) (f : Collector → Collector) : (s.modFlt f).pending = s.pending := by rfl
@[simp] theorem State.modFlt_flt (s : State) (f : Collector → Collector) : (s.modFlt f).flt = f s.flt := by rfl

@[simp] theorem State.modFab_vio (s : State) (f : FabState → FabState) : (s.modFab f).vio = s.vio := by rfl
@[simp] theorem State.modFab_clock (s : State) (f : FabState → FabState) : (s.modFab f).clock = s.clock := by rfl
@[simp] theorem State.modFab_phase (s : State) (f : FabState → FabState) : (s.modFab f).phase = s.phase := by rfl
@[simp] theorem State.modFab_time (s : State) (f : FabState → FabState) : (s.modFab f).time = s.time := by rfl
@[simp] theorem State.modFab_tickets (s : State) (f : FabState → FabState) : (s.modFab f).tickets = s.tickets := by rfl
@[simp] theorem State.modFab_readyCount (s : State) (f : FabState → FabState) : (s.modFab f).readyCount = s.readyCount := by rfl
@[simp] theorem State.modFab_ports (s : State) (f : FabState → FabState) : (s.modFab f).ports = s.ports := by rfl
@[simp] theorem State.modFab_shadows (s : State) (f : FabState → FabState) : (s.modFab f).shadows = s.shadows := by rfl
@[simp] theorem State.modFab_recd (s : State) (f : FabState → FabState) : (s.modFab f).recd = s.recd := by rfl
@[simp] theorem State.modFab_wheels (s : State) (f : FabState → FabState) : (s.modFab f).wheels = s.wheels := by rfl
@[simp] theorem State.modFab_flt (s : State) (f : FabState → FabState) : (s.modFab f).flt = s.flt := by rfl
@[simp] theorem State.modFab_chans (s : State) (f : FabState → FabState) : (s.modFab f).chans = s.chans := by rfl
@[simp] theorem State.modFab_rings (s : State) (f : FabState → FabState) : (s.modFab f).rings = s.rings := by rfl
@[simp] theorem State.modFab_svc (s : State) (f : FabState → FabState) : (s.modFab f).svc = s.svc := by rfl
@[simp] theorem State.modFab_img (s : State) (f : FabState → FabState) : (s.modFab f).img = s.img := by rfl
@[simp] theorem State.modFab_cells (s : State) (f : FabState → FabState) : (s.modFab f).cells = s.cells := by rfl
@[simp] theorem State.modFab_storeGen (s : State) (f : FabState → FabState) : (s.modFab f).storeGen = s.storeGen := by rfl
@[simp] theorem State.modFab_adcs (s : State) (f : FabState → FabState) : (s.modFab f).adcs = s.adcs := by rfl
@[simp] theorem State.modFab_filt (s : State) (f : FabState → FabState) : (s.modFab f).filt = s.filt := by rfl
@[simp] theorem State.modFab_rpl (s : State) (f : FabState → FabState) : (s.modFab f).rpl = s.rpl := by rfl
@[simp] theorem State.modFab_chks (s : State) (f : FabState → FabState) : (s.modFab f).chks = s.chks := by rfl
@[simp] theorem State.modFab_chkTurn (s : State) (f : FabState → FabState) : (s.modFab f).chkTurn = s.chkTurn := by rfl
@[simp] theorem State.modFab_pair (s : State) (f : FabState → FabState) : (s.modFab f).pair = s.pair := by rfl
@[simp] theorem State.modFab_bg (s : State) (f : FabState → FabState) : (s.modFab f).bg = s.bg := by rfl
@[simp] theorem State.modFab_pwr (s : State) (f : FabState → FabState) : (s.modFab f).pwr = s.pwr := by rfl
@[simp] theorem State.modFab_freeCtr (s : State) (f : FabState → FabState) : (s.modFab f).freeCtr = s.freeCtr := by rfl
@[simp] theorem State.modFab_pending (s : State) (f : FabState → FabState) : (s.modFab f).pending = s.pending := by rfl
@[simp] theorem State.modFab_fab (s : State) (f : FabState → FabState) : (s.modFab f).fab = f s.fab := by rfl

@[simp] theorem State.modPair_vio (s : State) (f : Pair → Pair) : (s.modPair f).vio = s.vio := by rfl
@[simp] theorem State.modPair_clock (s : State) (f : Pair → Pair) : (s.modPair f).clock = s.clock := by rfl
@[simp] theorem State.modPair_phase (s : State) (f : Pair → Pair) : (s.modPair f).phase = s.phase := by rfl
@[simp] theorem State.modPair_time (s : State) (f : Pair → Pair) : (s.modPair f).time = s.time := by rfl
@[simp] theorem State.modPair_tickets (s : State) (f : Pair → Pair) : (s.modPair f).tickets = s.tickets := by rfl
@[simp] theorem State.modPair_readyCount (s : State) (f : Pair → Pair) : (s.modPair f).readyCount = s.readyCount := by rfl
@[simp] theorem State.modPair_ports (s : State) (f : Pair → Pair) : (s.modPair f).ports = s.ports := by rfl
@[simp] theorem State.modPair_shadows (s : State) (f : Pair → Pair) : (s.modPair f).shadows = s.shadows := by rfl
@[simp] theorem State.modPair_recd (s : State) (f : Pair → Pair) : (s.modPair f).recd = s.recd := by rfl
@[simp] theorem State.modPair_wheels (s : State) (f : Pair → Pair) : (s.modPair f).wheels = s.wheels := by rfl
@[simp] theorem State.modPair_flt (s : State) (f : Pair → Pair) : (s.modPair f).flt = s.flt := by rfl
@[simp] theorem State.modPair_chans (s : State) (f : Pair → Pair) : (s.modPair f).chans = s.chans := by rfl
@[simp] theorem State.modPair_rings (s : State) (f : Pair → Pair) : (s.modPair f).rings = s.rings := by rfl
@[simp] theorem State.modPair_svc (s : State) (f : Pair → Pair) : (s.modPair f).svc = s.svc := by rfl
@[simp] theorem State.modPair_img (s : State) (f : Pair → Pair) : (s.modPair f).img = s.img := by rfl
@[simp] theorem State.modPair_cells (s : State) (f : Pair → Pair) : (s.modPair f).cells = s.cells := by rfl
@[simp] theorem State.modPair_storeGen (s : State) (f : Pair → Pair) : (s.modPair f).storeGen = s.storeGen := by rfl
@[simp] theorem State.modPair_fab (s : State) (f : Pair → Pair) : (s.modPair f).fab = s.fab := by rfl
@[simp] theorem State.modPair_adcs (s : State) (f : Pair → Pair) : (s.modPair f).adcs = s.adcs := by rfl
@[simp] theorem State.modPair_filt (s : State) (f : Pair → Pair) : (s.modPair f).filt = s.filt := by rfl
@[simp] theorem State.modPair_rpl (s : State) (f : Pair → Pair) : (s.modPair f).rpl = s.rpl := by rfl
@[simp] theorem State.modPair_chks (s : State) (f : Pair → Pair) : (s.modPair f).chks = s.chks := by rfl
@[simp] theorem State.modPair_chkTurn (s : State) (f : Pair → Pair) : (s.modPair f).chkTurn = s.chkTurn := by rfl
@[simp] theorem State.modPair_bg (s : State) (f : Pair → Pair) : (s.modPair f).bg = s.bg := by rfl
@[simp] theorem State.modPair_pwr (s : State) (f : Pair → Pair) : (s.modPair f).pwr = s.pwr := by rfl
@[simp] theorem State.modPair_freeCtr (s : State) (f : Pair → Pair) : (s.modPair f).freeCtr = s.freeCtr := by rfl
@[simp] theorem State.modPair_pending (s : State) (f : Pair → Pair) : (s.modPair f).pending = s.pending := by rfl
@[simp] theorem State.modPair_pair (s : State) (f : Pair → Pair) : (s.modPair f).pair = f s.pair := by rfl

@[simp] theorem State.modRpl_vio (s : State) (f : Replay → Replay) : (s.modRpl f).vio = s.vio := by rfl
@[simp] theorem State.modRpl_clock (s : State) (f : Replay → Replay) : (s.modRpl f).clock = s.clock := by rfl
@[simp] theorem State.modRpl_phase (s : State) (f : Replay → Replay) : (s.modRpl f).phase = s.phase := by rfl
@[simp] theorem State.modRpl_time (s : State) (f : Replay → Replay) : (s.modRpl f).time = s.time := by rfl
@[simp] theorem State.modRpl_tickets (s : State) (f : Replay → Replay) : (s.modRpl f).tickets = s.tickets := by rfl
@[simp] theorem State.modRpl_readyCount (s : State) (f : Replay → Replay) : (s.modRpl f).readyCount = s.readyCount := by rfl
@[simp] theorem State.modRpl_ports (s : State) (f : Replay → Replay) : (s.modRpl f).ports = s.ports := by rfl
@[simp] theorem State.modRpl_shadows (s : State) (f : Replay → Replay) : (s.modRpl f).shadows = s.shadows := by rfl
@[simp] theorem State.modRpl_recd (s : State) (f : Replay → Replay) : (s.modRpl f).recd = s.recd := by rfl
@[simp] theorem State.modRpl_wheels (s : State) (f : Replay → Replay) : (s.modRpl f).wheels = s.wheels := by rfl
@[simp] theorem State.modRpl_flt (s : State) (f : Replay → Replay) : (s.modRpl f).flt = s.flt := by rfl
@[simp] theorem State.modRpl_chans (s : State) (f : Replay → Replay) : (s.modRpl f).chans = s.chans := by rfl
@[simp] theorem State.modRpl_rings (s : State) (f : Replay → Replay) : (s.modRpl f).rings = s.rings := by rfl
@[simp] theorem State.modRpl_svc (s : State) (f : Replay → Replay) : (s.modRpl f).svc = s.svc := by rfl
@[simp] theorem State.modRpl_img (s : State) (f : Replay → Replay) : (s.modRpl f).img = s.img := by rfl
@[simp] theorem State.modRpl_cells (s : State) (f : Replay → Replay) : (s.modRpl f).cells = s.cells := by rfl
@[simp] theorem State.modRpl_storeGen (s : State) (f : Replay → Replay) : (s.modRpl f).storeGen = s.storeGen := by rfl
@[simp] theorem State.modRpl_fab (s : State) (f : Replay → Replay) : (s.modRpl f).fab = s.fab := by rfl
@[simp] theorem State.modRpl_adcs (s : State) (f : Replay → Replay) : (s.modRpl f).adcs = s.adcs := by rfl
@[simp] theorem State.modRpl_filt (s : State) (f : Replay → Replay) : (s.modRpl f).filt = s.filt := by rfl
@[simp] theorem State.modRpl_chks (s : State) (f : Replay → Replay) : (s.modRpl f).chks = s.chks := by rfl
@[simp] theorem State.modRpl_chkTurn (s : State) (f : Replay → Replay) : (s.modRpl f).chkTurn = s.chkTurn := by rfl
@[simp] theorem State.modRpl_pair (s : State) (f : Replay → Replay) : (s.modRpl f).pair = s.pair := by rfl
@[simp] theorem State.modRpl_bg (s : State) (f : Replay → Replay) : (s.modRpl f).bg = s.bg := by rfl
@[simp] theorem State.modRpl_pwr (s : State) (f : Replay → Replay) : (s.modRpl f).pwr = s.pwr := by rfl
@[simp] theorem State.modRpl_freeCtr (s : State) (f : Replay → Replay) : (s.modRpl f).freeCtr = s.freeCtr := by rfl
@[simp] theorem State.modRpl_pending (s : State) (f : Replay → Replay) : (s.modRpl f).pending = s.pending := by rfl
@[simp] theorem State.modRpl_rpl (s : State) (f : Replay → Replay) : (s.modRpl f).rpl = f s.rpl := by rfl

@[simp] theorem State.modImg_vio (s : State) (f : ImgState → ImgState) : (s.modImg f).vio = s.vio := by rfl
@[simp] theorem State.modImg_clock (s : State) (f : ImgState → ImgState) : (s.modImg f).clock = s.clock := by rfl
@[simp] theorem State.modImg_phase (s : State) (f : ImgState → ImgState) : (s.modImg f).phase = s.phase := by rfl
@[simp] theorem State.modImg_time (s : State) (f : ImgState → ImgState) : (s.modImg f).time = s.time := by rfl
@[simp] theorem State.modImg_tickets (s : State) (f : ImgState → ImgState) : (s.modImg f).tickets = s.tickets := by rfl
@[simp] theorem State.modImg_readyCount (s : State) (f : ImgState → ImgState) : (s.modImg f).readyCount = s.readyCount := by rfl
@[simp] theorem State.modImg_ports (s : State) (f : ImgState → ImgState) : (s.modImg f).ports = s.ports := by rfl
@[simp] theorem State.modImg_shadows (s : State) (f : ImgState → ImgState) : (s.modImg f).shadows = s.shadows := by rfl
@[simp] theorem State.modImg_recd (s : State) (f : ImgState → ImgState) : (s.modImg f).recd = s.recd := by rfl
@[simp] theorem State.modImg_wheels (s : State) (f : ImgState → ImgState) : (s.modImg f).wheels = s.wheels := by rfl
@[simp] theorem State.modImg_flt (s : State) (f : ImgState → ImgState) : (s.modImg f).flt = s.flt := by rfl
@[simp] theorem State.modImg_chans (s : State) (f : ImgState → ImgState) : (s.modImg f).chans = s.chans := by rfl
@[simp] theorem State.modImg_rings (s : State) (f : ImgState → ImgState) : (s.modImg f).rings = s.rings := by rfl
@[simp] theorem State.modImg_svc (s : State) (f : ImgState → ImgState) : (s.modImg f).svc = s.svc := by rfl
@[simp] theorem State.modImg_cells (s : State) (f : ImgState → ImgState) : (s.modImg f).cells = s.cells := by rfl
@[simp] theorem State.modImg_storeGen (s : State) (f : ImgState → ImgState) : (s.modImg f).storeGen = s.storeGen := by rfl
@[simp] theorem State.modImg_fab (s : State) (f : ImgState → ImgState) : (s.modImg f).fab = s.fab := by rfl
@[simp] theorem State.modImg_adcs (s : State) (f : ImgState → ImgState) : (s.modImg f).adcs = s.adcs := by rfl
@[simp] theorem State.modImg_filt (s : State) (f : ImgState → ImgState) : (s.modImg f).filt = s.filt := by rfl
@[simp] theorem State.modImg_rpl (s : State) (f : ImgState → ImgState) : (s.modImg f).rpl = s.rpl := by rfl
@[simp] theorem State.modImg_chks (s : State) (f : ImgState → ImgState) : (s.modImg f).chks = s.chks := by rfl
@[simp] theorem State.modImg_chkTurn (s : State) (f : ImgState → ImgState) : (s.modImg f).chkTurn = s.chkTurn := by rfl
@[simp] theorem State.modImg_pair (s : State) (f : ImgState → ImgState) : (s.modImg f).pair = s.pair := by rfl
@[simp] theorem State.modImg_bg (s : State) (f : ImgState → ImgState) : (s.modImg f).bg = s.bg := by rfl
@[simp] theorem State.modImg_pwr (s : State) (f : ImgState → ImgState) : (s.modImg f).pwr = s.pwr := by rfl
@[simp] theorem State.modImg_freeCtr (s : State) (f : ImgState → ImgState) : (s.modImg f).freeCtr = s.freeCtr := by rfl
@[simp] theorem State.modImg_pending (s : State) (f : ImgState → ImgState) : (s.modImg f).pending = s.pending := by rfl
@[simp] theorem State.modImg_img (s : State) (f : ImgState → ImgState) : (s.modImg f).img = f s.img := by rfl

@[simp] theorem State.modPwr_vio (s : State) (f : Power → Power) : (s.modPwr f).vio = s.vio := by rfl
@[simp] theorem State.modPwr_clock (s : State) (f : Power → Power) : (s.modPwr f).clock = s.clock := by rfl
@[simp] theorem State.modPwr_phase (s : State) (f : Power → Power) : (s.modPwr f).phase = s.phase := by rfl
@[simp] theorem State.modPwr_time (s : State) (f : Power → Power) : (s.modPwr f).time = s.time := by rfl
@[simp] theorem State.modPwr_tickets (s : State) (f : Power → Power) : (s.modPwr f).tickets = s.tickets := by rfl
@[simp] theorem State.modPwr_readyCount (s : State) (f : Power → Power) : (s.modPwr f).readyCount = s.readyCount := by rfl
@[simp] theorem State.modPwr_ports (s : State) (f : Power → Power) : (s.modPwr f).ports = s.ports := by rfl
@[simp] theorem State.modPwr_shadows (s : State) (f : Power → Power) : (s.modPwr f).shadows = s.shadows := by rfl
@[simp] theorem State.modPwr_recd (s : State) (f : Power → Power) : (s.modPwr f).recd = s.recd := by rfl
@[simp] theorem State.modPwr_wheels (s : State) (f : Power → Power) : (s.modPwr f).wheels = s.wheels := by rfl
@[simp] theorem State.modPwr_flt (s : State) (f : Power → Power) : (s.modPwr f).flt = s.flt := by rfl
@[simp] theorem State.modPwr_chans (s : State) (f : Power → Power) : (s.modPwr f).chans = s.chans := by rfl
@[simp] theorem State.modPwr_rings (s : State) (f : Power → Power) : (s.modPwr f).rings = s.rings := by rfl
@[simp] theorem State.modPwr_svc (s : State) (f : Power → Power) : (s.modPwr f).svc = s.svc := by rfl
@[simp] theorem State.modPwr_img (s : State) (f : Power → Power) : (s.modPwr f).img = s.img := by rfl
@[simp] theorem State.modPwr_cells (s : State) (f : Power → Power) : (s.modPwr f).cells = s.cells := by rfl
@[simp] theorem State.modPwr_storeGen (s : State) (f : Power → Power) : (s.modPwr f).storeGen = s.storeGen := by rfl
@[simp] theorem State.modPwr_fab (s : State) (f : Power → Power) : (s.modPwr f).fab = s.fab := by rfl
@[simp] theorem State.modPwr_adcs (s : State) (f : Power → Power) : (s.modPwr f).adcs = s.adcs := by rfl
@[simp] theorem State.modPwr_filt (s : State) (f : Power → Power) : (s.modPwr f).filt = s.filt := by rfl
@[simp] theorem State.modPwr_rpl (s : State) (f : Power → Power) : (s.modPwr f).rpl = s.rpl := by rfl
@[simp] theorem State.modPwr_chks (s : State) (f : Power → Power) : (s.modPwr f).chks = s.chks := by rfl
@[simp] theorem State.modPwr_chkTurn (s : State) (f : Power → Power) : (s.modPwr f).chkTurn = s.chkTurn := by rfl
@[simp] theorem State.modPwr_pair (s : State) (f : Power → Power) : (s.modPwr f).pair = s.pair := by rfl
@[simp] theorem State.modPwr_bg (s : State) (f : Power → Power) : (s.modPwr f).bg = s.bg := by rfl
@[simp] theorem State.modPwr_freeCtr (s : State) (f : Power → Power) : (s.modPwr f).freeCtr = s.freeCtr := by rfl
@[simp] theorem State.modPwr_pending (s : State) (f : Power → Power) : (s.modPwr f).pending = s.pending := by rfl
@[simp] theorem State.modPwr_pwr (s : State) (f : Power → Power) : (s.modPwr f).pwr = f s.pwr := by rfl

@[simp] theorem State.modRec_vio (s : State) (f : Recorder → Recorder) : (s.modRec f).vio = s.vio := by rfl
@[simp] theorem State.modRec_clock (s : State) (f : Recorder → Recorder) : (s.modRec f).clock = s.clock := by rfl
@[simp] theorem State.modRec_phase (s : State) (f : Recorder → Recorder) : (s.modRec f).phase = s.phase := by rfl
@[simp] theorem State.modRec_time (s : State) (f : Recorder → Recorder) : (s.modRec f).time = s.time := by rfl
@[simp] theorem State.modRec_tickets (s : State) (f : Recorder → Recorder) : (s.modRec f).tickets = s.tickets := by rfl
@[simp] theorem State.modRec_readyCount (s : State) (f : Recorder → Recorder) : (s.modRec f).readyCount = s.readyCount := by rfl
@[simp] theorem State.modRec_ports (s : State) (f : Recorder → Recorder) : (s.modRec f).ports = s.ports := by rfl
@[simp] theorem State.modRec_shadows (s : State) (f : Recorder → Recorder) : (s.modRec f).shadows = s.shadows := by rfl
@[simp] theorem State.modRec_wheels (s : State) (f : Recorder → Recorder) : (s.modRec f).wheels = s.wheels := by rfl
@[simp] theorem State.modRec_flt (s : State) (f : Recorder → Recorder) : (s.modRec f).flt = s.flt := by rfl
@[simp] theorem State.modRec_chans (s : State) (f : Recorder → Recorder) : (s.modRec f).chans = s.chans := by rfl
@[simp] theorem State.modRec_rings (s : State) (f : Recorder → Recorder) : (s.modRec f).rings = s.rings := by rfl
@[simp] theorem State.modRec_svc (s : State) (f : Recorder → Recorder) : (s.modRec f).svc = s.svc := by rfl
@[simp] theorem State.modRec_img (s : State) (f : Recorder → Recorder) : (s.modRec f).img = s.img := by rfl
@[simp] theorem State.modRec_cells (s : State) (f : Recorder → Recorder) : (s.modRec f).cells = s.cells := by rfl
@[simp] theorem State.modRec_storeGen (s : State) (f : Recorder → Recorder) : (s.modRec f).storeGen = s.storeGen := by rfl
@[simp] theorem State.modRec_fab (s : State) (f : Recorder → Recorder) : (s.modRec f).fab = s.fab := by rfl
@[simp] theorem State.modRec_adcs (s : State) (f : Recorder → Recorder) : (s.modRec f).adcs = s.adcs := by rfl
@[simp] theorem State.modRec_filt (s : State) (f : Recorder → Recorder) : (s.modRec f).filt = s.filt := by rfl
@[simp] theorem State.modRec_rpl (s : State) (f : Recorder → Recorder) : (s.modRec f).rpl = s.rpl := by rfl
@[simp] theorem State.modRec_chks (s : State) (f : Recorder → Recorder) : (s.modRec f).chks = s.chks := by rfl
@[simp] theorem State.modRec_chkTurn (s : State) (f : Recorder → Recorder) : (s.modRec f).chkTurn = s.chkTurn := by rfl
@[simp] theorem State.modRec_pair (s : State) (f : Recorder → Recorder) : (s.modRec f).pair = s.pair := by rfl
@[simp] theorem State.modRec_bg (s : State) (f : Recorder → Recorder) : (s.modRec f).bg = s.bg := by rfl
@[simp] theorem State.modRec_pwr (s : State) (f : Recorder → Recorder) : (s.modRec f).pwr = s.pwr := by rfl
@[simp] theorem State.modRec_freeCtr (s : State) (f : Recorder → Recorder) : (s.modRec f).freeCtr = s.freeCtr := by rfl
@[simp] theorem State.modRec_pending (s : State) (f : Recorder → Recorder) : (s.modRec f).pending = s.pending := by rfl
@[simp] theorem State.modRec_recd (s : State) (f : Recorder → Recorder) : (s.modRec f).recd = f s.recd := by rfl

/-! ## What a part holds after its change -/

@[simp] theorem State.modRing_ring (s : State) (x : RingId) (f : Ring → Ring) : (s.modRing x f).ring x = f (s.ring x) := by
  simp [State.modRing, State.ring]
@[simp] theorem State.modChan_chan (s : State) (n : Fin 16) (f : Chan → Chan) : (s.modChan n f).chan n = f (s.chan n) := by
  simp [State.modChan, State.chan]
@[simp] theorem State.modPort_port (s : State) (p : PortId) (f : Port → Port) : (s.modPort p f).port p = f (s.port p) := by
  simp [State.modPort, State.port]
@[simp] theorem State.modWheel_wheel (s : State) (w : Fin 64) (f : Wheel → Wheel) : (s.modWheel w f).wheel w = f (s.wheel w) := by
  simp [State.modWheel, State.wheel]
@[simp] theorem State.modSlot_slot (s : State) (k : Fin 256) (f : FaultSlot → FaultSlot) : (s.modSlot k f).slot k = f (s.slot k) := by
  simp [State.modSlot, State.slot]
@[simp] theorem State.modChain_chain (s : State) (n : Fin 16) (f : Chain → Chain) : (s.modChain n f).chain n = f (s.chain n) := by
  simp [State.modChain, State.chain]
@[simp] theorem State.modAdc_adc (s : State) (x : RingId) (f : Adc → Adc) : (s.modAdc x f).adc x = f (s.adc x) := by
  simp [State.modAdc, State.adc]
theorem State.modRing_ring_ne (s : State) (x y : RingId) (f : Ring → Ring) (h : x ≠ y) : (s.modRing x f).ring y = s.ring y := by
  cases x <;> cases y <;> first | exact absurd rfl h | simp [State.modRing, State.ring, tmod, rix]
theorem State.modPort_port_ne (s : State) (x y : PortId) (f : Port → Port) (h : x ≠ y) : (s.modPort x f).port y = s.port y := by
  cases x <;> cases y <;> first | exact absurd rfl h | simp [State.modPort, State.port, tmod, pix]
theorem State.modAdc_adc_ne (s : State) (x y : RingId) (f : Adc → Adc) (h : x ≠ y) : (s.modAdc x f).adc y = s.adc y := by
  cases x <;> cases y <;> first | exact absurd rfl h | simp [State.modAdc, State.adc, tmod, rix]
theorem State.modChan_chan_ne (s : State) (i j : Fin 16) (f : Chan → Chan) (h : i ≠ j) : (s.modChan i f).chan j = s.chan j := by
  simp [State.modChan, State.chan, tmod_other _ _ _ _ h]
theorem State.modWheel_wheel_ne (s : State) (i j : Fin 64) (f : Wheel → Wheel) (h : i ≠ j) : (s.modWheel i f).wheel j = s.wheel j := by
  simp [State.modWheel, State.wheel, tmod_other _ _ _ _ h]
theorem State.modSlot_slot_ne (s : State) (i j : Fin 256) (f : FaultSlot → FaultSlot) (h : i ≠ j) : (s.modSlot i f).slot j = s.slot j := by
  simp [State.modSlot, State.slot, tmod_other _ _ _ _ h]
theorem State.modChain_chain_ne (s : State) (i j : Fin 16) (f : Chain → Chain) (h : i ≠ j) : (s.modChain i f).chain j = s.chain j := by
  simp [State.modChain, State.chain, tmod_other _ _ _ _ h]

@[simp] theorem State.modRing_chan (s : State) (x : RingId) (f : Ring → Ring) : (s.modRing x f).chan = s.chan := by rfl
@[simp] theorem State.modRing_port (s : State) (x : RingId) (f : Ring → Ring) : (s.modRing x f).port = s.port := by rfl
@[simp] theorem State.modRing_wheel (s : State) (x : RingId) (f : Ring → Ring) : (s.modRing x f).wheel = s.wheel := by rfl
@[simp] theorem State.modRing_slot (s : State) (x : RingId) (f : Ring → Ring) : (s.modRing x f).slot = s.slot := by rfl
@[simp] theorem State.modRing_chain (s : State) (x : RingId) (f : Ring → Ring) : (s.modRing x f).chain = s.chain := by rfl
@[simp] theorem State.modRing_adc (s : State) (x : RingId) (f : Ring → Ring) : (s.modRing x f).adc = s.adc := by rfl
@[simp] theorem State.modChan_ring (s : State) (n : Fin 16) (f : Chan → Chan) : (s.modChan n f).ring = s.ring := by rfl
@[simp] theorem State.modChan_port (s : State) (n : Fin 16) (f : Chan → Chan) : (s.modChan n f).port = s.port := by rfl
@[simp] theorem State.modChan_wheel (s : State) (n : Fin 16) (f : Chan → Chan) : (s.modChan n f).wheel = s.wheel := by rfl
@[simp] theorem State.modChan_slot (s : State) (n : Fin 16) (f : Chan → Chan) : (s.modChan n f).slot = s.slot := by rfl
@[simp] theorem State.modChan_chain (s : State) (n : Fin 16) (f : Chan → Chan) : (s.modChan n f).chain = s.chain := by rfl
@[simp] theorem State.modChan_adc (s : State) (n : Fin 16) (f : Chan → Chan) : (s.modChan n f).adc = s.adc := by rfl
@[simp] theorem State.modPort_ring (s : State) (p : PortId) (f : Port → Port) : (s.modPort p f).ring = s.ring := by rfl
@[simp] theorem State.modPort_chan (s : State) (p : PortId) (f : Port → Port) : (s.modPort p f).chan = s.chan := by rfl
@[simp] theorem State.modPort_wheel (s : State) (p : PortId) (f : Port → Port) : (s.modPort p f).wheel = s.wheel := by rfl
@[simp] theorem State.modPort_slot (s : State) (p : PortId) (f : Port → Port) : (s.modPort p f).slot = s.slot := by rfl
@[simp] theorem State.modPort_chain (s : State) (p : PortId) (f : Port → Port) : (s.modPort p f).chain = s.chain := by rfl
@[simp] theorem State.modPort_adc (s : State) (p : PortId) (f : Port → Port) : (s.modPort p f).adc = s.adc := by rfl
@[simp] theorem State.modWheel_ring (s : State) (w : Fin 64) (f : Wheel → Wheel) : (s.modWheel w f).ring = s.ring := by rfl
@[simp] theorem State.modWheel_chan (s : State) (w : Fin 64) (f : Wheel → Wheel) : (s.modWheel w f).chan = s.chan := by rfl
@[simp] theorem State.modWheel_port (s : State) (w : Fin 64) (f : Wheel → Wheel) : (s.modWheel w f).port = s.port := by rfl
@[simp] theorem State.modWheel_slot (s : State) (w : Fin 64) (f : Wheel → Wheel) : (s.modWheel w f).slot = s.slot := by rfl
@[simp] theorem State.modWheel_chain (s : State) (w : Fin 64) (f : Wheel → Wheel) : (s.modWheel w f).chain = s.chain := by rfl
@[simp] theorem State.modWheel_adc (s : State) (w : Fin 64) (f : Wheel → Wheel) : (s.modWheel w f).adc = s.adc := by rfl
@[simp] theorem State.modSlot_ring (s : State) (k : Fin 256) (f : FaultSlot → FaultSlot) : (s.modSlot k f).ring = s.ring := by rfl
@[simp] theorem State.modSlot_chan (s : State) (k : Fin 256) (f : FaultSlot → FaultSlot) : (s.modSlot k f).chan = s.chan := by rfl
@[simp] theorem State.modSlot_port (s : State) (k : Fin 256) (f : FaultSlot → FaultSlot) : (s.modSlot k f).port = s.port := by rfl
@[simp] theorem State.modSlot_wheel (s : State) (k : Fin 256) (f : FaultSlot → FaultSlot) : (s.modSlot k f).wheel = s.wheel := by rfl
@[simp] theorem State.modSlot_chain (s : State) (k : Fin 256) (f : FaultSlot → FaultSlot) : (s.modSlot k f).chain = s.chain := by rfl
@[simp] theorem State.modSlot_adc (s : State) (k : Fin 256) (f : FaultSlot → FaultSlot) : (s.modSlot k f).adc = s.adc := by rfl
@[simp] theorem State.modChain_ring (s : State) (n : Fin 16) (f : Chain → Chain) : (s.modChain n f).ring = s.ring := by rfl
@[simp] theorem State.modChain_chan (s : State) (n : Fin 16) (f : Chain → Chain) : (s.modChain n f).chan = s.chan := by rfl
@[simp] theorem State.modChain_port (s : State) (n : Fin 16) (f : Chain → Chain) : (s.modChain n f).port = s.port := by rfl
@[simp] theorem State.modChain_wheel (s : State) (n : Fin 16) (f : Chain → Chain) : (s.modChain n f).wheel = s.wheel := by rfl
@[simp] theorem State.modChain_slot (s : State) (n : Fin 16) (f : Chain → Chain) : (s.modChain n f).slot = s.slot := by rfl
@[simp] theorem State.modChain_adc (s : State) (n : Fin 16) (f : Chain → Chain) : (s.modChain n f).adc = s.adc := by rfl
@[simp] theorem State.modAdc_ring (s : State) (x : RingId) (f : Adc → Adc) : (s.modAdc x f).ring = s.ring := by rfl
@[simp] theorem State.modAdc_chan (s : State) (x : RingId) (f : Adc → Adc) : (s.modAdc x f).chan = s.chan := by rfl
@[simp] theorem State.modAdc_port (s : State) (x : RingId) (f : Adc → Adc) : (s.modAdc x f).port = s.port := by rfl
@[simp] theorem State.modAdc_wheel (s : State) (x : RingId) (f : Adc → Adc) : (s.modAdc x f).wheel = s.wheel := by rfl
@[simp] theorem State.modAdc_slot (s : State) (x : RingId) (f : Adc → Adc) : (s.modAdc x f).slot = s.slot := by rfl
@[simp] theorem State.modAdc_chain (s : State) (x : RingId) (f : Adc → Adc) : (s.modAdc x f).chain = s.chain := by rfl
@[simp] theorem State.modTicket_ring (s : State) (t : Fin 64) (f : Ticket → Ticket) : (s.modTicket t f).ring = s.ring := by rfl
@[simp] theorem State.modTicket_chan (s : State) (t : Fin 64) (f : Ticket → Ticket) : (s.modTicket t f).chan = s.chan := by rfl
@[simp] theorem State.modTicket_port (s : State) (t : Fin 64) (f : Ticket → Ticket) : (s.modTicket t f).port = s.port := by rfl
@[simp] theorem State.modTicket_wheel (s : State) (t : Fin 64) (f : Ticket → Ticket) : (s.modTicket t f).wheel = s.wheel := by rfl
@[simp] theorem State.modTicket_slot (s : State) (t : Fin 64) (f : Ticket → Ticket) : (s.modTicket t f).slot = s.slot := by rfl
@[simp] theorem State.modTicket_chain (s : State) (t : Fin 64) (f : Ticket → Ticket) : (s.modTicket t f).chain = s.chain := by rfl
@[simp] theorem State.modTicket_adc (s : State) (t : Fin 64) (f : Ticket → Ticket) : (s.modTicket t f).adc = s.adc := by rfl
@[simp] theorem State.modChk_ring (s : State) (u : Fin 4) (f : Chk → Chk) : (s.modChk u f).ring = s.ring := by rfl
@[simp] theorem State.modChk_chan (s : State) (u : Fin 4) (f : Chk → Chk) : (s.modChk u f).chan = s.chan := by rfl
@[simp] theorem State.modChk_port (s : State) (u : Fin 4) (f : Chk → Chk) : (s.modChk u f).port = s.port := by rfl
@[simp] theorem State.modChk_wheel (s : State) (u : Fin 4) (f : Chk → Chk) : (s.modChk u f).wheel = s.wheel := by rfl
@[simp] theorem State.modChk_slot (s : State) (u : Fin 4) (f : Chk → Chk) : (s.modChk u f).slot = s.slot := by rfl
@[simp] theorem State.modChk_chain (s : State) (u : Fin 4) (f : Chk → Chk) : (s.modChk u f).chain = s.chain := by rfl
@[simp] theorem State.modChk_adc (s : State) (u : Fin 4) (f : Chk → Chk) : (s.modChk u f).adc = s.adc := by rfl
@[simp] theorem State.modBg_ring (s : State) (f : Bg → Bg) : (s.modBg f).ring = s.ring := by rfl
@[simp] theorem State.modBg_chan (s : State) (f : Bg → Bg) : (s.modBg f).chan = s.chan := by rfl
@[simp] theorem State.modBg_port (s : State) (f : Bg → Bg) : (s.modBg f).port = s.port := by rfl
@[simp] theorem State.modBg_wheel (s : State) (f : Bg → Bg) : (s.modBg f).wheel = s.wheel := by rfl
@[simp] theorem State.modBg_slot (s : State) (f : Bg → Bg) : (s.modBg f).slot = s.slot := by rfl
@[simp] theorem State.modBg_chain (s : State) (f : Bg → Bg) : (s.modBg f).chain = s.chain := by rfl
@[simp] theorem State.modBg_adc (s : State) (f : Bg → Bg) : (s.modBg f).adc = s.adc := by rfl
@[simp] theorem State.modFab_ring (s : State) (f : FabState → FabState) : (s.modFab f).ring = s.ring := by rfl
@[simp] theorem State.modFab_chan (s : State) (f : FabState → FabState) : (s.modFab f).chan = s.chan := by rfl
@[simp] theorem State.modFab_port (s : State) (f : FabState → FabState) : (s.modFab f).port = s.port := by rfl
@[simp] theorem State.modFab_wheel (s : State) (f : FabState → FabState) : (s.modFab f).wheel = s.wheel := by rfl
@[simp] theorem State.modFab_slot (s : State) (f : FabState → FabState) : (s.modFab f).slot = s.slot := by rfl
@[simp] theorem State.modFab_chain (s : State) (f : FabState → FabState) : (s.modFab f).chain = s.chain := by rfl
@[simp] theorem State.modFab_adc (s : State) (f : FabState → FabState) : (s.modFab f).adc = s.adc := by rfl
@[simp] theorem State.modPair_ring (s : State) (f : Pair → Pair) : (s.modPair f).ring = s.ring := by rfl
@[simp] theorem State.modPair_chan (s : State) (f : Pair → Pair) : (s.modPair f).chan = s.chan := by rfl
@[simp] theorem State.modPair_port (s : State) (f : Pair → Pair) : (s.modPair f).port = s.port := by rfl
@[simp] theorem State.modPair_wheel (s : State) (f : Pair → Pair) : (s.modPair f).wheel = s.wheel := by rfl
@[simp] theorem State.modPair_slot (s : State) (f : Pair → Pair) : (s.modPair f).slot = s.slot := by rfl
@[simp] theorem State.modPair_chain (s : State) (f : Pair → Pair) : (s.modPair f).chain = s.chain := by rfl
@[simp] theorem State.modPair_adc (s : State) (f : Pair → Pair) : (s.modPair f).adc = s.adc := by rfl
@[simp] theorem State.modRpl_ring (s : State) (f : Replay → Replay) : (s.modRpl f).ring = s.ring := by rfl
@[simp] theorem State.modRpl_chan (s : State) (f : Replay → Replay) : (s.modRpl f).chan = s.chan := by rfl
@[simp] theorem State.modRpl_port (s : State) (f : Replay → Replay) : (s.modRpl f).port = s.port := by rfl
@[simp] theorem State.modRpl_wheel (s : State) (f : Replay → Replay) : (s.modRpl f).wheel = s.wheel := by rfl
@[simp] theorem State.modRpl_slot (s : State) (f : Replay → Replay) : (s.modRpl f).slot = s.slot := by rfl
@[simp] theorem State.modRpl_chain (s : State) (f : Replay → Replay) : (s.modRpl f).chain = s.chain := by rfl
@[simp] theorem State.modRpl_adc (s : State) (f : Replay → Replay) : (s.modRpl f).adc = s.adc := by rfl
@[simp] theorem State.modImg_ring (s : State) (f : ImgState → ImgState) : (s.modImg f).ring = s.ring := by rfl
@[simp] theorem State.modImg_chan (s : State) (f : ImgState → ImgState) : (s.modImg f).chan = s.chan := by rfl
@[simp] theorem State.modImg_port (s : State) (f : ImgState → ImgState) : (s.modImg f).port = s.port := by rfl
@[simp] theorem State.modImg_wheel (s : State) (f : ImgState → ImgState) : (s.modImg f).wheel = s.wheel := by rfl
@[simp] theorem State.modImg_slot (s : State) (f : ImgState → ImgState) : (s.modImg f).slot = s.slot := by rfl
@[simp] theorem State.modImg_chain (s : State) (f : ImgState → ImgState) : (s.modImg f).chain = s.chain := by rfl
@[simp] theorem State.modImg_adc (s : State) (f : ImgState → ImgState) : (s.modImg f).adc = s.adc := by rfl
@[simp] theorem State.modPwr_ring (s : State) (f : Power → Power) : (s.modPwr f).ring = s.ring := by rfl
@[simp] theorem State.modPwr_chan (s : State) (f : Power → Power) : (s.modPwr f).chan = s.chan := by rfl
@[simp] theorem State.modPwr_port (s : State) (f : Power → Power) : (s.modPwr f).port = s.port := by rfl
@[simp] theorem State.modPwr_wheel (s : State) (f : Power → Power) : (s.modPwr f).wheel = s.wheel := by rfl
@[simp] theorem State.modPwr_slot (s : State) (f : Power → Power) : (s.modPwr f).slot = s.slot := by rfl
@[simp] theorem State.modPwr_chain (s : State) (f : Power → Power) : (s.modPwr f).chain = s.chain := by rfl
@[simp] theorem State.modPwr_adc (s : State) (f : Power → Power) : (s.modPwr f).adc = s.adc := by rfl
@[simp] theorem State.modRec_ring (s : State) (f : Recorder → Recorder) : (s.modRec f).ring = s.ring := by rfl
@[simp] theorem State.modRec_chan (s : State) (f : Recorder → Recorder) : (s.modRec f).chan = s.chan := by rfl
@[simp] theorem State.modRec_port (s : State) (f : Recorder → Recorder) : (s.modRec f).port = s.port := by rfl
@[simp] theorem State.modRec_wheel (s : State) (f : Recorder → Recorder) : (s.modRec f).wheel = s.wheel := by rfl
@[simp] theorem State.modRec_slot (s : State) (f : Recorder → Recorder) : (s.modRec f).slot = s.slot := by rfl
@[simp] theorem State.modRec_chain (s : State) (f : Recorder → Recorder) : (s.modRec f).chain = s.chain := by rfl
@[simp] theorem State.modRec_adc (s : State) (f : Recorder → Recorder) : (s.modRec f).adc = s.adc := by rfl
@[simp] theorem State.modFlt_ring (s : State) (f : Collector → Collector) : (s.modFlt f).ring = s.ring := by rfl
@[simp] theorem State.modFlt_chan (s : State) (f : Collector → Collector) : (s.modFlt f).chan = s.chan := by rfl
@[simp] theorem State.modFlt_port (s : State) (f : Collector → Collector) : (s.modFlt f).port = s.port := by rfl
@[simp] theorem State.modFlt_wheel (s : State) (f : Collector → Collector) : (s.modFlt f).wheel = s.wheel := by rfl
@[simp] theorem State.modFlt_chain (s : State) (f : Collector → Collector) : (s.modFlt f).chain = s.chain := by rfl
@[simp] theorem State.modFlt_adc (s : State) (f : Collector → Collector) : (s.modFlt f).adc = s.adc := by rfl

/-! ## The loops -/

@[simp] theorem forEach_nil {α : Type} (f : α → State → State) (s : State) : forEach [] f s = s := rfl
@[simp] theorem forEach_cons {α : Type} (x : α) (xs : List α) (f : α → State → State) (s : State) :
    forEach (x :: xs) f s = forEach xs f (f x s) := rfl

/-- What every turn of a loop keeps, the loop keeps. -/
theorem forEach_keeps {α β : Type} (p : State → β) (xs : List α) (f : α → State → State)
    (h : ∀ x t, p (f x t) = p t) (s : State) : p (forEach xs f s) = p s := by
  induction xs generalizing s with
  | nil => rfl
  | cons x xs ih => exact (ih (f x s)).trans (h x s)

/-- What a fold keeps in every turn, it keeps. -/
theorem foldl_keeps {α β : Type} (p : State → β) (xs : List α) (f : State → α → State)
    (h : ∀ t x, p (f t x) = p t) (s : State) : p (xs.foldl f s) = p s := by
  induction xs generalizing s with
  | nil => rfl
  | cons x xs ih => exact (ih (f s x)).trans (h s x)

/-- The value a capture takes is the average of the channel's readings of the last 100 ms, and nothing of the state goes into it. -/
theorem State.loopValue_of_average {s : State} {n : Fin 16} {a : Int} (h : (s.chan n).an.average s.clock 100000 = some a) :
    s.loopValue n = (a, s) := by
  simp only [State.loopValue, h]

/-- An event whose condition fails changes nothing; one whose condition holds has its effect. -/
theorem whenDo_keeps {β : Type} (p : State → β) (c : Bool) (f : State → State) (s : State) (h : p (f s) = p s) :
    p (whenDo c f s) = p s := by
  cases c with
  | false => rfl
  | true => exact h

@[simp] theorem whenDo_true (f : State → State) (s : State) : whenDo true f s = f s := rfl
@[simp] theorem whenDo_false (f : State → State) (s : State) : whenDo false f s = s := rfl

end Sys2Proof.Machine
end

