-- ==== Sys2Proof/Laws/Cells.lean ====
section
/-! SUPPORT. The cellar store: what a read gives after each operation, and that every operation keeps the canonical form. -/

namespace Sys2Proof.Machine

/-! ## The canonical form -/

theorem Memory.wfFrom_le {lo hi : Nat} {m : Memory} (h : Memory.wfFrom hi m = true) (hl : lo ≤ hi) : Memory.wfFrom lo m = true := by
  cases m with
  | nil => rfl
  | cons c r =>
    simp only [Memory.wfFrom, Bool.and_eq_true, decide_eq_true_eq] at h ⊢
    exact ⟨⟨by omega, h.1.2⟩, h.2⟩

theorem Memory.insert_wfFrom {lo a : Nat} {v : Byte} {m : Memory} (h : Memory.wfFrom lo m = true) (hl : lo ≤ a) (hv : v ≠ erasedByte) :
    Memory.wfFrom lo (m.insert a v) = true := by
  induction m generalizing lo with
  | nil => simp [Memory.insert, Memory.wfFrom, hl, hv]
  | cons c r ih =>
    obtain ⟨b, w⟩ := c
    simp only [Memory.wfFrom, Bool.and_eq_true, decide_eq_true_eq] at h
    simp only [Memory.insert]
    split
    · simp only [Memory.wfFrom, Bool.and_eq_true, decide_eq_true_eq]
      exact ⟨⟨hl, by simpa using hv⟩, ⟨by omega, h.1.2⟩, h.2⟩
    · split
      · subst_vars
        simp only [Memory.wfFrom, Bool.and_eq_true, decide_eq_true_eq]
        exact ⟨⟨hl, by simpa using hv⟩, h.2⟩
      · simp only [Memory.wfFrom, Bool.and_eq_true, decide_eq_true_eq]
        exact ⟨h.1, ih h.2 (by omega)⟩

theorem Memory.remove_wfFrom {lo a : Nat} {m : Memory} (h : Memory.wfFrom lo m = true) : Memory.wfFrom lo (m.remove a) = true := by
  induction m generalizing lo with
  | nil => rfl
  | cons c r ih =>
    obtain ⟨b, w⟩ := c
    have h' := h
    simp only [Memory.wfFrom, Bool.and_eq_true, decide_eq_true_eq] at h
    simp only [Memory.remove]
    split
    · exact Memory.wfFrom_le h.2 (by omega)
    · split
      · exact h'
      · simp only [Memory.wfFrom, Bool.and_eq_true, decide_eq_true_eq]
        exact ⟨h.1, ih h.2⟩

@[simp] theorem Memory.write_wf {m : Memory} (a : Nat) (v : Byte) (h : Memory.wf m = true) : Memory.wf (m.write a v) = true := by
  unfold Memory.write
  split
  · exact Memory.remove_wfFrom h
  · exact Memory.insert_wfFrom h (Nat.zero_le _) ‹_›

@[simp] theorem Memory.writeAll_wf {m : Memory} (a : Nat) (vs : List Byte) (h : Memory.wf m = true) : Memory.wf (m.writeAll a vs) = true := by
  induction vs generalizing m a with
  | nil => exact h
  | cons v vs ih => exact ih (a + 1) (Memory.write_wf a v h)

theorem Memory.filter_wfFrom {lo : Nat} {m : Memory} (p : Host.Cell → Bool) (h : Memory.wfFrom lo m = true) :
    Memory.wfFrom lo (m.filter p) = true := by
  induction m generalizing lo with
  | nil => rfl
  | cons c r ih =>
    obtain ⟨b, w⟩ := c
    simp only [Memory.wfFrom, Bool.and_eq_true, decide_eq_true_eq] at h
    simp only [List.filter_cons]
    split
    · simp only [Memory.wfFrom, Bool.and_eq_true, decide_eq_true_eq]
      exact ⟨h.1, ih h.2⟩
    · exact Memory.wfFrom_le (ih h.2) (by omega)

@[simp] theorem Memory.erase_wf {m : Memory} (lo hi : Nat) (h : Memory.wf m = true) : Memory.wf (m.erase lo hi) = true :=
  Memory.filter_wfFrom _ h

@[simp] theorem Memory.restore_wf {m : Memory} (old : Memory) (h : Memory.wf m = true) : Memory.wf (m.restore old) = true := by
  unfold Memory.restore
  induction old generalizing m with
  | nil => exact h
  | cons c cs ih => exact ih (Memory.write_wf c.1 c.2 h)

@[simp] theorem Memory.cutErase_wf {m : Memory} (old : Memory) (base k : Nat) (bad : Option (List Byte)) (h : Memory.wf m = true) :
    Memory.wf (m.cutErase old base k bad) = true := by
  unfold Memory.cutErase; split <;> simp [h]

/-! ## Reads -/

theorem Memory.read_below {lo a : Nat} {m : Memory} (h : Memory.wfFrom lo m = true) (hl : a < lo) : m.read a = erasedByte := by
  cases m with
  | nil => rfl
  | cons c r =>
    obtain ⟨b, w⟩ := c
    simp only [Memory.wfFrom, Bool.and_eq_true, decide_eq_true_eq] at h
    simp only [Memory.read]
    rw [if_neg (by omega), if_pos (by omega)]

theorem Memory.insert_read {lo a : Nat} {v : Byte} {m : Memory} (h : Memory.wfFrom lo m = true) (x : Nat) :
    (m.insert a v).read x = if x = a then v else m.read x := by
  induction m generalizing lo with
  | nil => simp only [Memory.insert, Memory.read]; split <;> simp
  | cons c r ih =>
    obtain ⟨b, w⟩ := c
    simp only [Memory.wfFrom, Bool.and_eq_true, decide_eq_true_eq] at h
    simp only [Memory.insert]
    split
    · simp only [Memory.read]
      split
      · rfl
      · split
        · rw [if_neg (by omega), if_pos (by omega)]
        · rfl
    · split
      · subst_vars
        simp only [Memory.read]
        split <;> rfl
      · simp only [Memory.read, ih h.2]
        split
        · rw [if_neg (by omega)]
        · split
          · rw [if_neg (by omega)]
          · rfl

theorem Memory.remove_read {lo a : Nat} {m : Memory} (h : Memory.wfFrom lo m = true) (x : Nat) :
    (m.remove a).read x = if x = a then erasedByte else m.read x := by
  induction m generalizing lo with
  | nil => simp [Memory.remove, Memory.read]
  | cons c r ih =>
    obtain ⟨b, w⟩ := c
    simp only [Memory.wfFrom, Bool.and_eq_true, decide_eq_true_eq] at h
    simp only [Memory.remove]
    split
    · subst_vars
      split
      · subst_vars; exact Memory.read_below h.2 (by omega)
      · simp only [Memory.read]
        rw [if_neg (by omega)]
        split
        · exact Memory.read_below h.2 (by omega)
        · rfl
    · split
      · simp only [Memory.read]
        split
        · rw [if_neg (by omega)]
        · split
          · split <;> rfl
          · rw [if_neg (by omega)]
      · simp only [Memory.read, ih h.2]
        split
        · rw [if_neg (by omega)]
        · split
          · rw [if_neg (by omega)]
          · rfl

/-- A programmed byte reads as it was written, and every other byte as before. -/
theorem Memory.write_read {m : Memory} (h : Memory.wf m = true) (a : Nat) (v : Byte) (x : Nat) :
    (m.write a v).read x = if x = a then v else m.read x := by
  unfold Memory.write
  split
  · subst_vars; exact Memory.remove_read h x
  · exact Memory.insert_read h x

/-- A run of programmed bytes reads as it was written, and every other byte as before. -/
theorem Memory.writeAll_read {m : Memory} (h : Memory.wf m = true) (a : Nat) (vs : List Byte) (x : Nat) :
    (m.writeAll a vs).read x = if a ≤ x ∧ x < a + vs.length then vs.getD (x - a) erasedByte else m.read x := by
  induction vs generalizing m a with
  | nil => simp only [Memory.writeAll, List.length_nil]; rw [if_neg (by omega)]
  | cons v vs ih =>
    simp only [Memory.writeAll]
    rw [ih (Memory.write_wf a v h), Memory.write_read h, List.length_cons]
    by_cases hx : x = a
    · subst hx
      rw [if_neg (by omega), if_pos rfl, if_pos (by omega)]
      simp
    · rw [if_neg hx]
      by_cases hr : a + 1 ≤ x ∧ x < a + 1 + vs.length
      · rw [if_pos hr, if_pos (by omega)]
        obtain ⟨k, hk⟩ : ∃ k, x - a = k + 1 := ⟨x - a - 1, by omega⟩
        rw [hk, show x - (a + 1) = k by omega]
        simp
      · rw [if_neg hr, if_neg (by omega)]

theorem Memory.filter_read {lo : Nat} {m : Memory} (p : Nat → Bool) (h : Memory.wfFrom lo m = true) (x : Nat) :
    Memory.read (m.filter (fun c => p c.1)) x = if p x then m.read x else erasedByte := by
  induction m generalizing lo with
  | nil => simp [Memory.read]
  | cons c r ih =>
    obtain ⟨b, w⟩ := c
    simp only [Memory.wfFrom, Bool.and_eq_true, decide_eq_true_eq] at h
    simp only [List.filter_cons]
    by_cases hb : p b = true
    · rw [if_pos hb]
      simp only [Memory.read, ih h.2]
      by_cases hx : x = b
      · subst hx; simp [hb]
      · rw [if_neg hx, if_neg hx]
        by_cases hl : x < b
        · simp [hl]
        · simp [hl]
    · rw [if_neg hb, ih h.2]
      simp only [Memory.read]
      by_cases hx : x = b
      · subst hx; simp [hb]
      · rw [if_neg hx]
        by_cases hl : x < b
        · rw [if_pos hl, Memory.read_below h.2 (by omega)]
        · rw [if_neg hl]

/-- An erased range reads as erased, and every other byte as before. -/
theorem Memory.erase_read {m : Memory} (h : Memory.wf m = true) (lo hi x : Nat) :
    (m.erase lo hi).read x = if lo ≤ x ∧ x < hi then erasedByte else m.read x := by
  have := Memory.filter_read (fun c => !(decide (lo ≤ c) && decide (c < hi))) h x
  rw [Memory.erase, this]
  by_cases hc : lo ≤ x ∧ x < hi
  · simp [hc.1, hc.2]
  · rw [if_neg hc, if_pos (by simp; omega)]

end Sys2Proof.Machine
end

