-- ==== Sys2Proof/Laws/Frame.lean ====
section
/-! SUPPORT. What each operation leaves alone: for each part of the state that an operation cannot change, an equation.
The lemma `State.f_frame` joins the equations of one operation; it carries no attribute, and a proof cites it applied to `_`s,
as in `simp [State.f_frame _ _]`, so that no helper theorem is made for each of its parts. -/

namespace Sys2Proof.Machine

@[simp] theorem ite_pending (c : Prop) [Decidable c] (a b : State) : (if c then a else b).pending = if c then a.pending else b.pending := by
  split <;> rfl
@[simp] theorem forEach_pending {α : Type} (xs : List α) (f : α → State → State) (h : ∀ x t, (f x t).pending = t.pending) (s : State) :
    (forEach xs f s).pending = s.pending := forEach_keeps _ xs f h s
@[simp] theorem foldl_pending {α : Type} (xs : List α) (f : State → α → State) (h : ∀ t x, (f t x).pending = t.pending) (s : State) :
    (xs.foldl f s).pending = s.pending := foldl_keeps _ xs f h s
@[simp] theorem ite_fst_pending {β : Type} (c : Prop) [Decidable c] (a b : State × β) : (if c then a else b).1.pending = if c then a.1.pending else b.1.pending := by
  split <;> rfl
@[simp] theorem ite_snd_pending {β : Type} (c : Prop) [Decidable c] (a b : β × State) : (if c then a else b).2.pending = if c then a.2.pending else b.2.pending := by
  split <;> rfl
theorem fst_pending {β : Type} {a : State × β} {t : State} {r : β} (h : a = (t, r)) : t.pending = a.1.pending := by rw [h]
theorem snd_pending {β : Type} {a : β × State} {t : State} {r : β} (h : a = (r, t)) : t.pending = a.2.pending := by rw [h]
@[simp] theorem whenDo_pending (c : Bool) (f : State → State) (s : State) (h : (f s).pending = s.pending) :
    (whenDo c f s).pending = s.pending := whenDo_keeps _ c f s h

@[simp] theorem ite_clock (c : Prop) [Decidable c] (a b : State) : (if c then a else b).clock = if c then a.clock else b.clock := by
  split <;> rfl
@[simp] theorem forEach_clock {α : Type} (xs : List α) (f : α → State → State) (h : ∀ x t, (f x t).clock = t.clock) (s : State) :
    (forEach xs f s).clock = s.clock := forEach_keeps _ xs f h s
@[simp] theorem foldl_clock {α : Type} (xs : List α) (f : State → α → State) (h : ∀ t x, (f t x).clock = t.clock) (s : State) :
    (xs.foldl f s).clock = s.clock := foldl_keeps _ xs f h s
@[simp] theorem ite_fst_clock {β : Type} (c : Prop) [Decidable c] (a b : State × β) : (if c then a else b).1.clock = if c then a.1.clock else b.1.clock := by
  split <;> rfl
@[simp] theorem ite_snd_clock {β : Type} (c : Prop) [Decidable c] (a b : β × State) : (if c then a else b).2.clock = if c then a.2.clock else b.2.clock := by
  split <;> rfl
theorem fst_clock {β : Type} {a : State × β} {t : State} {r : β} (h : a = (t, r)) : t.clock = a.1.clock := by rw [h]
theorem snd_clock {β : Type} {a : β × State} {t : State} {r : β} (h : a = (r, t)) : t.clock = a.2.clock := by rw [h]
@[simp] theorem whenDo_clock (c : Bool) (f : State → State) (s : State) (h : (f s).clock = s.clock) :
    (whenDo c f s).clock = s.clock := whenDo_keeps _ c f s h

@[simp] theorem ite_vio (c : Prop) [Decidable c] (a b : State) : (if c then a else b).vio = if c then a.vio else b.vio := by
  split <;> rfl
@[simp] theorem forEach_vio {α : Type} (xs : List α) (f : α → State → State) (h : ∀ x t, (f x t).vio = t.vio) (s : State) :
    (forEach xs f s).vio = s.vio := forEach_keeps _ xs f h s
@[simp] theorem foldl_vio {α : Type} (xs : List α) (f : State → α → State) (h : ∀ t x, (f t x).vio = t.vio) (s : State) :
    (xs.foldl f s).vio = s.vio := foldl_keeps _ xs f h s
@[simp] theorem ite_fst_vio {β : Type} (c : Prop) [Decidable c] (a b : State × β) : (if c then a else b).1.vio = if c then a.1.vio else b.1.vio := by
  split <;> rfl
@[simp] theorem ite_snd_vio {β : Type} (c : Prop) [Decidable c] (a b : β × State) : (if c then a else b).2.vio = if c then a.2.vio else b.2.vio := by
  split <;> rfl
theorem fst_vio {β : Type} {a : State × β} {t : State} {r : β} (h : a = (t, r)) : t.vio = a.1.vio := by rw [h]
theorem snd_vio {β : Type} {a : β × State} {t : State} {r : β} (h : a = (r, t)) : t.vio = a.2.vio := by rw [h]
@[simp] theorem whenDo_vio (c : Bool) (f : State → State) (s : State) (h : (f s).vio = s.vio) :
    (whenDo c f s).vio = s.vio := whenDo_keeps _ c f s h

@[simp] theorem ite_phase (c : Prop) [Decidable c] (a b : State) : (if c then a else b).phase = if c then a.phase else b.phase := by
  split <;> rfl
@[simp] theorem forEach_phase {α : Type} (xs : List α) (f : α → State → State) (h : ∀ x t, (f x t).phase = t.phase) (s : State) :
    (forEach xs f s).phase = s.phase := forEach_keeps _ xs f h s
@[simp] theorem foldl_phase {α : Type} (xs : List α) (f : State → α → State) (h : ∀ t x, (f t x).phase = t.phase) (s : State) :
    (xs.foldl f s).phase = s.phase := foldl_keeps _ xs f h s
@[simp] theorem ite_fst_phase {β : Type} (c : Prop) [Decidable c] (a b : State × β) : (if c then a else b).1.phase = if c then a.1.phase else b.1.phase := by
  split <;> rfl
@[simp] theorem ite_snd_phase {β : Type} (c : Prop) [Decidable c] (a b : β × State) : (if c then a else b).2.phase = if c then a.2.phase else b.2.phase := by
  split <;> rfl
theorem fst_phase {β : Type} {a : State × β} {t : State} {r : β} (h : a = (t, r)) : t.phase = a.1.phase := by rw [h]
theorem snd_phase {β : Type} {a : β × State} {t : State} {r : β} (h : a = (r, t)) : t.phase = a.2.phase := by rw [h]
@[simp] theorem whenDo_phase (c : Bool) (f : State → State) (s : State) (h : (f s).phase = s.phase) :
    (whenDo c f s).phase = s.phase := whenDo_keeps _ c f s h

@[simp] theorem ite_time (c : Prop) [Decidable c] (a b : State) : (if c then a else b).time = if c then a.time else b.time := by
  split <;> rfl
@[simp] theorem forEach_time {α : Type} (xs : List α) (f : α → State → State) (h : ∀ x t, (f x t).time = t.time) (s : State) :
    (forEach xs f s).time = s.time := forEach_keeps _ xs f h s
@[simp] theorem foldl_time {α : Type} (xs : List α) (f : State → α → State) (h : ∀ t x, (f t x).time = t.time) (s : State) :
    (xs.foldl f s).time = s.time := foldl_keeps _ xs f h s
@[simp] theorem ite_fst_time {β : Type} (c : Prop) [Decidable c] (a b : State × β) : (if c then a else b).1.time = if c then a.1.time else b.1.time := by
  split <;> rfl
@[simp] theorem ite_snd_time {β : Type} (c : Prop) [Decidable c] (a b : β × State) : (if c then a else b).2.time = if c then a.2.time else b.2.time := by
  split <;> rfl
theorem fst_time {β : Type} {a : State × β} {t : State} {r : β} (h : a = (t, r)) : t.time = a.1.time := by rw [h]
theorem snd_time {β : Type} {a : β × State} {t : State} {r : β} (h : a = (r, t)) : t.time = a.2.time := by rw [h]
@[simp] theorem whenDo_time (c : Bool) (f : State → State) (s : State) (h : (f s).time = s.time) :
    (whenDo c f s).time = s.time := whenDo_keeps _ c f s h

@[simp] theorem ite_tickets (c : Prop) [Decidable c] (a b : State) : (if c then a else b).tickets = if c then a.tickets else b.tickets := by
  split <;> rfl
@[simp] theorem forEach_tickets {α : Type} (xs : List α) (f : α → State → State) (h : ∀ x t, (f x t).tickets = t.tickets) (s : State) :
    (forEach xs f s).tickets = s.tickets := forEach_keeps _ xs f h s
@[simp] theorem foldl_tickets {α : Type} (xs : List α) (f : State → α → State) (h : ∀ t x, (f t x).tickets = t.tickets) (s : State) :
    (xs.foldl f s).tickets = s.tickets := foldl_keeps _ xs f h s
@[simp] theorem ite_fst_tickets {β : Type} (c : Prop) [Decidable c] (a b : State × β) : (if c then a else b).1.tickets = if c then a.1.tickets else b.1.tickets := by
  split <;> rfl
@[simp] theorem ite_snd_tickets {β : Type} (c : Prop) [Decidable c] (a b : β × State) : (if c then a else b).2.tickets = if c then a.2.tickets else b.2.tickets := by
  split <;> rfl
theorem fst_tickets {β : Type} {a : State × β} {t : State} {r : β} (h : a = (t, r)) : t.tickets = a.1.tickets := by rw [h]
theorem snd_tickets {β : Type} {a : β × State} {t : State} {r : β} (h : a = (r, t)) : t.tickets = a.2.tickets := by rw [h]
@[simp] theorem whenDo_tickets (c : Bool) (f : State → State) (s : State) (h : (f s).tickets = s.tickets) :
    (whenDo c f s).tickets = s.tickets := whenDo_keeps _ c f s h

@[simp] theorem ite_readyCount (c : Prop) [Decidable c] (a b : State) : (if c then a else b).readyCount = if c then a.readyCount else b.readyCount := by
  split <;> rfl
@[simp] theorem forEach_readyCount {α : Type} (xs : List α) (f : α → State → State) (h : ∀ x t, (f x t).readyCount = t.readyCount) (s : State) :
    (forEach xs f s).readyCount = s.readyCount := forEach_keeps _ xs f h s
@[simp] theorem foldl_readyCount {α : Type} (xs : List α) (f : State → α → State) (h : ∀ t x, (f t x).readyCount = t.readyCount) (s : State) :
    (xs.foldl f s).readyCount = s.readyCount := foldl_keeps _ xs f h s
@[simp] theorem ite_fst_readyCount {β : Type} (c : Prop) [Decidable c] (a b : State × β) : (if c then a else b).1.readyCount = if c then a.1.readyCount else b.1.readyCount := by
  split <;> rfl
@[simp] theorem ite_snd_readyCount {β : Type} (c : Prop) [Decidable c] (a b : β × State) : (if c then a else b).2.readyCount = if c then a.2.readyCount else b.2.readyCount := by
  split <;> rfl
theorem fst_readyCount {β : Type} {a : State × β} {t : State} {r : β} (h : a = (t, r)) : t.readyCount = a.1.readyCount := by rw [h]
theorem snd_readyCount {β : Type} {a : β × State} {t : State} {r : β} (h : a = (r, t)) : t.readyCount = a.2.readyCount := by rw [h]
@[simp] theorem whenDo_readyCount (c : Bool) (f : State → State) (s : State) (h : (f s).readyCount = s.readyCount) :
    (whenDo c f s).readyCount = s.readyCount := whenDo_keeps _ c f s h

@[simp] theorem ite_ports (c : Prop) [Decidable c] (a b : State) : (if c then a else b).ports = if c then a.ports else b.ports := by
  split <;> rfl
@[simp] theorem forEach_ports {α : Type} (xs : List α) (f : α → State → State) (h : ∀ x t, (f x t).ports = t.ports) (s : State) :
    (forEach xs f s).ports = s.ports := forEach_keeps _ xs f h s
@[simp] theorem foldl_ports {α : Type} (xs : List α) (f : State → α → State) (h : ∀ t x, (f t x).ports = t.ports) (s : State) :
    (xs.foldl f s).ports = s.ports := foldl_keeps _ xs f h s
@[simp] theorem ite_fst_ports {β : Type} (c : Prop) [Decidable c] (a b : State × β) : (if c then a else b).1.ports = if c then a.1.ports else b.1.ports := by
  split <;> rfl
@[simp] theorem ite_snd_ports {β : Type} (c : Prop) [Decidable c] (a b : β × State) : (if c then a else b).2.ports = if c then a.2.ports else b.2.ports := by
  split <;> rfl
theorem fst_ports {β : Type} {a : State × β} {t : State} {r : β} (h : a = (t, r)) : t.ports = a.1.ports := by rw [h]
theorem snd_ports {β : Type} {a : β × State} {t : State} {r : β} (h : a = (r, t)) : t.ports = a.2.ports := by rw [h]
@[simp] theorem whenDo_ports (c : Bool) (f : State → State) (s : State) (h : (f s).ports = s.ports) :
    (whenDo c f s).ports = s.ports := whenDo_keeps _ c f s h

@[simp] theorem ite_shadows (c : Prop) [Decidable c] (a b : State) : (if c then a else b).shadows = if c then a.shadows else b.shadows := by
  split <;> rfl
@[simp] theorem forEach_shadows {α : Type} (xs : List α) (f : α → State → State) (h : ∀ x t, (f x t).shadows = t.shadows) (s : State) :
    (forEach xs f s).shadows = s.shadows := forEach_keeps _ xs f h s
@[simp] theorem foldl_shadows {α : Type} (xs : List α) (f : State → α → State) (h : ∀ t x, (f t x).shadows = t.shadows) (s : State) :
    (xs.foldl f s).shadows = s.shadows := foldl_keeps _ xs f h s
@[simp] theorem ite_fst_shadows {β : Type} (c : Prop) [Decidable c] (a b : State × β) : (if c then a else b).1.shadows = if c then a.1.shadows else b.1.shadows := by
  split <;> rfl
@[simp] theorem ite_snd_shadows {β : Type} (c : Prop) [Decidable c] (a b : β × State) : (if c then a else b).2.shadows = if c then a.2.shadows else b.2.shadows := by
  split <;> rfl
theorem fst_shadows {β : Type} {a : State × β} {t : State} {r : β} (h : a = (t, r)) : t.shadows = a.1.shadows := by rw [h]
theorem snd_shadows {β : Type} {a : β × State} {t : State} {r : β} (h : a = (r, t)) : t.shadows = a.2.shadows := by rw [h]
@[simp] theorem whenDo_shadows (c : Bool) (f : State → State) (s : State) (h : (f s).shadows = s.shadows) :
    (whenDo c f s).shadows = s.shadows := whenDo_keeps _ c f s h

@[simp] theorem ite_svc (c : Prop) [Decidable c] (a b : State) : (if c then a else b).svc = if c then a.svc else b.svc := by
  split <;> rfl
@[simp] theorem forEach_svc {α : Type} (xs : List α) (f : α → State → State) (h : ∀ x t, (f x t).svc = t.svc) (s : State) :
    (forEach xs f s).svc = s.svc := forEach_keeps _ xs f h s
@[simp] theorem foldl_svc {α : Type} (xs : List α) (f : State → α → State) (h : ∀ t x, (f t x).svc = t.svc) (s : State) :
    (xs.foldl f s).svc = s.svc := foldl_keeps _ xs f h s
@[simp] theorem ite_fst_svc {β : Type} (c : Prop) [Decidable c] (a b : State × β) : (if c then a else b).1.svc = if c then a.1.svc else b.1.svc := by
  split <;> rfl
@[simp] theorem ite_snd_svc {β : Type} (c : Prop) [Decidable c] (a b : β × State) : (if c then a else b).2.svc = if c then a.2.svc else b.2.svc := by
  split <;> rfl
theorem fst_svc {β : Type} {a : State × β} {t : State} {r : β} (h : a = (t, r)) : t.svc = a.1.svc := by rw [h]
theorem snd_svc {β : Type} {a : β × State} {t : State} {r : β} (h : a = (r, t)) : t.svc = a.2.svc := by rw [h]
@[simp] theorem whenDo_svc (c : Bool) (f : State → State) (s : State) (h : (f s).svc = s.svc) :
    (whenDo c f s).svc = s.svc := whenDo_keeps _ c f s h

@[simp] theorem ite_img (c : Prop) [Decidable c] (a b : State) : (if c then a else b).img = if c then a.img else b.img := by
  split <;> rfl
@[simp] theorem forEach_img {α : Type} (xs : List α) (f : α → State → State) (h : ∀ x t, (f x t).img = t.img) (s : State) :
    (forEach xs f s).img = s.img := forEach_keeps _ xs f h s
@[simp] theorem foldl_img {α : Type} (xs : List α) (f : State → α → State) (h : ∀ t x, (f t x).img = t.img) (s : State) :
    (xs.foldl f s).img = s.img := foldl_keeps _ xs f h s
@[simp] theorem ite_fst_img {β : Type} (c : Prop) [Decidable c] (a b : State × β) : (if c then a else b).1.img = if c then a.1.img else b.1.img := by
  split <;> rfl
@[simp] theorem ite_snd_img {β : Type} (c : Prop) [Decidable c] (a b : β × State) : (if c then a else b).2.img = if c then a.2.img else b.2.img := by
  split <;> rfl
theorem fst_img {β : Type} {a : State × β} {t : State} {r : β} (h : a = (t, r)) : t.img = a.1.img := by rw [h]
theorem snd_img {β : Type} {a : β × State} {t : State} {r : β} (h : a = (r, t)) : t.img = a.2.img := by rw [h]
@[simp] theorem whenDo_img (c : Bool) (f : State → State) (s : State) (h : (f s).img = s.img) :
    (whenDo c f s).img = s.img := whenDo_keeps _ c f s h

@[simp] theorem ite_fab (c : Prop) [Decidable c] (a b : State) : (if c then a else b).fab = if c then a.fab else b.fab := by
  split <;> rfl
@[simp] theorem forEach_fab {α : Type} (xs : List α) (f : α → State → State) (h : ∀ x t, (f x t).fab = t.fab) (s : State) :
    (forEach xs f s).fab = s.fab := forEach_keeps _ xs f h s
@[simp] theorem foldl_fab {α : Type} (xs : List α) (f : State → α → State) (h : ∀ t x, (f t x).fab = t.fab) (s : State) :
    (xs.foldl f s).fab = s.fab := foldl_keeps _ xs f h s
@[simp] theorem ite_fst_fab {β : Type} (c : Prop) [Decidable c] (a b : State × β) : (if c then a else b).1.fab = if c then a.1.fab else b.1.fab := by
  split <;> rfl
@[simp] theorem ite_snd_fab {β : Type} (c : Prop) [Decidable c] (a b : β × State) : (if c then a else b).2.fab = if c then a.2.fab else b.2.fab := by
  split <;> rfl
theorem fst_fab {β : Type} {a : State × β} {t : State} {r : β} (h : a = (t, r)) : t.fab = a.1.fab := by rw [h]
theorem snd_fab {β : Type} {a : β × State} {t : State} {r : β} (h : a = (r, t)) : t.fab = a.2.fab := by rw [h]
@[simp] theorem whenDo_fab (c : Bool) (f : State → State) (s : State) (h : (f s).fab = s.fab) :
    (whenDo c f s).fab = s.fab := whenDo_keeps _ c f s h

@[simp] theorem ite_adcs (c : Prop) [Decidable c] (a b : State) : (if c then a else b).adcs = if c then a.adcs else b.adcs := by
  split <;> rfl
@[simp] theorem forEach_adcs {α : Type} (xs : List α) (f : α → State → State) (h : ∀ x t, (f x t).adcs = t.adcs) (s : State) :
    (forEach xs f s).adcs = s.adcs := forEach_keeps _ xs f h s
@[simp] theorem foldl_adcs {α : Type} (xs : List α) (f : State → α → State) (h : ∀ t x, (f t x).adcs = t.adcs) (s : State) :
    (xs.foldl f s).adcs = s.adcs := foldl_keeps _ xs f h s
@[simp] theorem ite_fst_adcs {β : Type} (c : Prop) [Decidable c] (a b : State × β) : (if c then a else b).1.adcs = if c then a.1.adcs else b.1.adcs := by
  split <;> rfl
@[simp] theorem ite_snd_adcs {β : Type} (c : Prop) [Decidable c] (a b : β × State) : (if c then a else b).2.adcs = if c then a.2.adcs else b.2.adcs := by
  split <;> rfl
theorem fst_adcs {β : Type} {a : State × β} {t : State} {r : β} (h : a = (t, r)) : t.adcs = a.1.adcs := by rw [h]
theorem snd_adcs {β : Type} {a : β × State} {t : State} {r : β} (h : a = (r, t)) : t.adcs = a.2.adcs := by rw [h]
@[simp] theorem whenDo_adcs (c : Bool) (f : State → State) (s : State) (h : (f s).adcs = s.adcs) :
    (whenDo c f s).adcs = s.adcs := whenDo_keeps _ c f s h

@[simp] theorem ite_filt (c : Prop) [Decidable c] (a b : State) : (if c then a else b).filt = if c then a.filt else b.filt := by
  split <;> rfl
@[simp] theorem forEach_filt {α : Type} (xs : List α) (f : α → State → State) (h : ∀ x t, (f x t).filt = t.filt) (s : State) :
    (forEach xs f s).filt = s.filt := forEach_keeps _ xs f h s
@[simp] theorem foldl_filt {α : Type} (xs : List α) (f : State → α → State) (h : ∀ t x, (f t x).filt = t.filt) (s : State) :
    (xs.foldl f s).filt = s.filt := foldl_keeps _ xs f h s
@[simp] theorem ite_fst_filt {β : Type} (c : Prop) [Decidable c] (a b : State × β) : (if c then a else b).1.filt = if c then a.1.filt else b.1.filt := by
  split <;> rfl
@[simp] theorem ite_snd_filt {β : Type} (c : Prop) [Decidable c] (a b : β × State) : (if c then a else b).2.filt = if c then a.2.filt else b.2.filt := by
  split <;> rfl
theorem fst_filt {β : Type} {a : State × β} {t : State} {r : β} (h : a = (t, r)) : t.filt = a.1.filt := by rw [h]
theorem snd_filt {β : Type} {a : β × State} {t : State} {r : β} (h : a = (r, t)) : t.filt = a.2.filt := by rw [h]
@[simp] theorem whenDo_filt (c : Bool) (f : State → State) (s : State) (h : (f s).filt = s.filt) :
    (whenDo c f s).filt = s.filt := whenDo_keeps _ c f s h

@[simp] theorem ite_chks (c : Prop) [Decidable c] (a b : State) : (if c then a else b).chks = if c then a.chks else b.chks := by
  split <;> rfl
@[simp] theorem forEach_chks {α : Type} (xs : List α) (f : α → State → State) (h : ∀ x t, (f x t).chks = t.chks) (s : State) :
    (forEach xs f s).chks = s.chks := forEach_keeps _ xs f h s
@[simp] theorem foldl_chks {α : Type} (xs : List α) (f : State → α → State) (h : ∀ t x, (f t x).chks = t.chks) (s : State) :
    (xs.foldl f s).chks = s.chks := foldl_keeps _ xs f h s
@[simp] theorem ite_fst_chks {β : Type} (c : Prop) [Decidable c] (a b : State × β) : (if c then a else b).1.chks = if c then a.1.chks else b.1.chks := by
  split <;> rfl
@[simp] theorem ite_snd_chks {β : Type} (c : Prop) [Decidable c] (a b : β × State) : (if c then a else b).2.chks = if c then a.2.chks else b.2.chks := by
  split <;> rfl
theorem fst_chks {β : Type} {a : State × β} {t : State} {r : β} (h : a = (t, r)) : t.chks = a.1.chks := by rw [h]
theorem snd_chks {β : Type} {a : β × State} {t : State} {r : β} (h : a = (r, t)) : t.chks = a.2.chks := by rw [h]
@[simp] theorem whenDo_chks (c : Bool) (f : State → State) (s : State) (h : (f s).chks = s.chks) :
    (whenDo c f s).chks = s.chks := whenDo_keeps _ c f s h

@[simp] theorem ite_chkTurn (c : Prop) [Decidable c] (a b : State) : (if c then a else b).chkTurn = if c then a.chkTurn else b.chkTurn := by
  split <;> rfl
@[simp] theorem forEach_chkTurn {α : Type} (xs : List α) (f : α → State → State) (h : ∀ x t, (f x t).chkTurn = t.chkTurn) (s : State) :
    (forEach xs f s).chkTurn = s.chkTurn := forEach_keeps _ xs f h s
@[simp] theorem foldl_chkTurn {α : Type} (xs : List α) (f : State → α → State) (h : ∀ t x, (f t x).chkTurn = t.chkTurn) (s : State) :
    (xs.foldl f s).chkTurn = s.chkTurn := foldl_keeps _ xs f h s
@[simp] theorem ite_fst_chkTurn {β : Type} (c : Prop) [Decidable c] (a b : State × β) : (if c then a else b).1.chkTurn = if c then a.1.chkTurn else b.1.chkTurn := by
  split <;> rfl
@[simp] theorem ite_snd_chkTurn {β : Type} (c : Prop) [Decidable c] (a b : β × State) : (if c then a else b).2.chkTurn = if c then a.2.chkTurn else b.2.chkTurn := by
  split <;> rfl
theorem fst_chkTurn {β : Type} {a : State × β} {t : State} {r : β} (h : a = (t, r)) : t.chkTurn = a.1.chkTurn := by rw [h]
theorem snd_chkTurn {β : Type} {a : β × State} {t : State} {r : β} (h : a = (r, t)) : t.chkTurn = a.2.chkTurn := by rw [h]
@[simp] theorem whenDo_chkTurn (c : Bool) (f : State → State) (s : State) (h : (f s).chkTurn = s.chkTurn) :
    (whenDo c f s).chkTurn = s.chkTurn := whenDo_keeps _ c f s h

@[simp] theorem ite_storeGen (c : Prop) [Decidable c] (a b : State) : (if c then a else b).storeGen = if c then a.storeGen else b.storeGen := by
  split <;> rfl
@[simp] theorem forEach_storeGen {α : Type} (xs : List α) (f : α → State → State) (h : ∀ x t, (f x t).storeGen = t.storeGen) (s : State) :
    (forEach xs f s).storeGen = s.storeGen := forEach_keeps _ xs f h s
@[simp] theorem foldl_storeGen {α : Type} (xs : List α) (f : State → α → State) (h : ∀ t x, (f t x).storeGen = t.storeGen) (s : State) :
    (xs.foldl f s).storeGen = s.storeGen := foldl_keeps _ xs f h s
@[simp] theorem ite_fst_storeGen {β : Type} (c : Prop) [Decidable c] (a b : State × β) : (if c then a else b).1.storeGen = if c then a.1.storeGen else b.1.storeGen := by
  split <;> rfl
@[simp] theorem ite_snd_storeGen {β : Type} (c : Prop) [Decidable c] (a b : β × State) : (if c then a else b).2.storeGen = if c then a.2.storeGen else b.2.storeGen := by
  split <;> rfl
theorem fst_storeGen {β : Type} {a : State × β} {t : State} {r : β} (h : a = (t, r)) : t.storeGen = a.1.storeGen := by rw [h]
theorem snd_storeGen {β : Type} {a : β × State} {t : State} {r : β} (h : a = (r, t)) : t.storeGen = a.2.storeGen := by rw [h]
@[simp] theorem whenDo_storeGen (c : Bool) (f : State → State) (s : State) (h : (f s).storeGen = s.storeGen) :
    (whenDo c f s).storeGen = s.storeGen := whenDo_keeps _ c f s h

@[simp] theorem ite_bg (c : Prop) [Decidable c] (a b : State) : (if c then a else b).bg = if c then a.bg else b.bg := by
  split <;> rfl
@[simp] theorem forEach_bg {α : Type} (xs : List α) (f : α → State → State) (h : ∀ x t, (f x t).bg = t.bg) (s : State) :
    (forEach xs f s).bg = s.bg := forEach_keeps _ xs f h s
@[simp] theorem foldl_bg {α : Type} (xs : List α) (f : State → α → State) (h : ∀ t x, (f t x).bg = t.bg) (s : State) :
    (xs.foldl f s).bg = s.bg := foldl_keeps _ xs f h s
@[simp] theorem ite_fst_bg {β : Type} (c : Prop) [Decidable c] (a b : State × β) : (if c then a else b).1.bg = if c then a.1.bg else b.1.bg := by
  split <;> rfl
@[simp] theorem ite_snd_bg {β : Type} (c : Prop) [Decidable c] (a b : β × State) : (if c then a else b).2.bg = if c then a.2.bg else b.2.bg := by
  split <;> rfl
theorem fst_bg {β : Type} {a : State × β} {t : State} {r : β} (h : a = (t, r)) : t.bg = a.1.bg := by rw [h]
theorem snd_bg {β : Type} {a : β × State} {t : State} {r : β} (h : a = (r, t)) : t.bg = a.2.bg := by rw [h]
@[simp] theorem whenDo_bg (c : Bool) (f : State → State) (s : State) (h : (f s).bg = s.bg) :
    (whenDo c f s).bg = s.bg := whenDo_keeps _ c f s h

@[simp] theorem ite_pwr (c : Prop) [Decidable c] (a b : State) : (if c then a else b).pwr = if c then a.pwr else b.pwr := by
  split <;> rfl
@[simp] theorem forEach_pwr {α : Type} (xs : List α) (f : α → State → State) (h : ∀ x t, (f x t).pwr = t.pwr) (s : State) :
    (forEach xs f s).pwr = s.pwr := forEach_keeps _ xs f h s
@[simp] theorem foldl_pwr {α : Type} (xs : List α) (f : State → α → State) (h : ∀ t x, (f t x).pwr = t.pwr) (s : State) :
    (xs.foldl f s).pwr = s.pwr := foldl_keeps _ xs f h s
@[simp] theorem ite_fst_pwr {β : Type} (c : Prop) [Decidable c] (a b : State × β) : (if c then a else b).1.pwr = if c then a.1.pwr else b.1.pwr := by
  split <;> rfl
@[simp] theorem ite_snd_pwr {β : Type} (c : Prop) [Decidable c] (a b : β × State) : (if c then a else b).2.pwr = if c then a.2.pwr else b.2.pwr := by
  split <;> rfl
theorem fst_pwr {β : Type} {a : State × β} {t : State} {r : β} (h : a = (t, r)) : t.pwr = a.1.pwr := by rw [h]
theorem snd_pwr {β : Type} {a : β × State} {t : State} {r : β} (h : a = (r, t)) : t.pwr = a.2.pwr := by rw [h]
@[simp] theorem whenDo_pwr (c : Bool) (f : State → State) (s : State) (h : (f s).pwr = s.pwr) :
    (whenDo c f s).pwr = s.pwr := whenDo_keeps _ c f s h

@[simp] theorem ite_freeCtr (c : Prop) [Decidable c] (a b : State) : (if c then a else b).freeCtr = if c then a.freeCtr else b.freeCtr := by
  split <;> rfl
@[simp] theorem forEach_freeCtr {α : Type} (xs : List α) (f : α → State → State) (h : ∀ x t, (f x t).freeCtr = t.freeCtr) (s : State) :
    (forEach xs f s).freeCtr = s.freeCtr := forEach_keeps _ xs f h s
@[simp] theorem foldl_freeCtr {α : Type} (xs : List α) (f : State → α → State) (h : ∀ t x, (f t x).freeCtr = t.freeCtr) (s : State) :
    (xs.foldl f s).freeCtr = s.freeCtr := foldl_keeps _ xs f h s
@[simp] theorem ite_fst_freeCtr {β : Type} (c : Prop) [Decidable c] (a b : State × β) : (if c then a else b).1.freeCtr = if c then a.1.freeCtr else b.1.freeCtr := by
  split <;> rfl
@[simp] theorem ite_snd_freeCtr {β : Type} (c : Prop) [Decidable c] (a b : β × State) : (if c then a else b).2.freeCtr = if c then a.2.freeCtr else b.2.freeCtr := by
  split <;> rfl
theorem fst_freeCtr {β : Type} {a : State × β} {t : State} {r : β} (h : a = (t, r)) : t.freeCtr = a.1.freeCtr := by rw [h]
theorem snd_freeCtr {β : Type} {a : β × State} {t : State} {r : β} (h : a = (r, t)) : t.freeCtr = a.2.freeCtr := by rw [h]
@[simp] theorem whenDo_freeCtr (c : Bool) (f : State → State) (s : State) (h : (f s).freeCtr = s.freeCtr) :
    (whenDo c f s).freeCtr = s.freeCtr := whenDo_keeps _ c f s h

@[simp] theorem ite_recd (c : Prop) [Decidable c] (a b : State) : (if c then a else b).recd = if c then a.recd else b.recd := by
  split <;> rfl
@[simp] theorem forEach_recd {α : Type} (xs : List α) (f : α → State → State) (h : ∀ x t, (f x t).recd = t.recd) (s : State) :
    (forEach xs f s).recd = s.recd := forEach_keeps _ xs f h s
@[simp] theorem foldl_recd {α : Type} (xs : List α) (f : State → α → State) (h : ∀ t x, (f t x).recd = t.recd) (s : State) :
    (xs.foldl f s).recd = s.recd := foldl_keeps _ xs f h s
@[simp] theorem ite_fst_recd {β : Type} (c : Prop) [Decidable c] (a b : State × β) : (if c then a else b).1.recd = if c then a.1.recd else b.1.recd := by
  split <;> rfl
@[simp] theorem ite_snd_recd {β : Type} (c : Prop) [Decidable c] (a b : β × State) : (if c then a else b).2.recd = if c then a.2.recd else b.2.recd := by
  split <;> rfl
theorem fst_recd {β : Type} {a : State × β} {t : State} {r : β} (h : a = (t, r)) : t.recd = a.1.recd := by rw [h]
theorem snd_recd {β : Type} {a : β × State} {t : State} {r : β} (h : a = (r, t)) : t.recd = a.2.recd := by rw [h]
@[simp] theorem whenDo_recd (c : Bool) (f : State → State) (s : State) (h : (f s).recd = s.recd) :
    (whenDo c f s).recd = s.recd := whenDo_keeps _ c f s h

@[simp] theorem ite_wheels (c : Prop) [Decidable c] (a b : State) : (if c then a else b).wheels = if c then a.wheels else b.wheels := by
  split <;> rfl
@[simp] theorem forEach_wheels {α : Type} (xs : List α) (f : α → State → State) (h : ∀ x t, (f x t).wheels = t.wheels) (s : State) :
    (forEach xs f s).wheels = s.wheels := forEach_keeps _ xs f h s
@[simp] theorem foldl_wheels {α : Type} (xs : List α) (f : State → α → State) (h : ∀ t x, (f t x).wheels = t.wheels) (s : State) :
    (xs.foldl f s).wheels = s.wheels := foldl_keeps _ xs f h s
@[simp] theorem ite_fst_wheels {β : Type} (c : Prop) [Decidable c] (a b : State × β) : (if c then a else b).1.wheels = if c then a.1.wheels else b.1.wheels := by
  split <;> rfl
@[simp] theorem ite_snd_wheels {β : Type} (c : Prop) [Decidable c] (a b : β × State) : (if c then a else b).2.wheels = if c then a.2.wheels else b.2.wheels := by
  split <;> rfl
theorem fst_wheels {β : Type} {a : State × β} {t : State} {r : β} (h : a = (t, r)) : t.wheels = a.1.wheels := by rw [h]
theorem snd_wheels {β : Type} {a : β × State} {t : State} {r : β} (h : a = (r, t)) : t.wheels = a.2.wheels := by rw [h]
@[simp] theorem whenDo_wheels (c : Bool) (f : State → State) (s : State) (h : (f s).wheels = s.wheels) :
    (whenDo c f s).wheels = s.wheels := whenDo_keeps _ c f s h

@[simp] theorem ite_flt (c : Prop) [Decidable c] (a b : State) : (if c then a else b).flt = if c then a.flt else b.flt := by
  split <;> rfl
@[simp] theorem forEach_flt {α : Type} (xs : List α) (f : α → State → State) (h : ∀ x t, (f x t).flt = t.flt) (s : State) :
    (forEach xs f s).flt = s.flt := forEach_keeps _ xs f h s
@[simp] theorem foldl_flt {α : Type} (xs : List α) (f : State → α → State) (h : ∀ t x, (f t x).flt = t.flt) (s : State) :
    (xs.foldl f s).flt = s.flt := foldl_keeps _ xs f h s
@[simp] theorem ite_fst_flt {β : Type} (c : Prop) [Decidable c] (a b : State × β) : (if c then a else b).1.flt = if c then a.1.flt else b.1.flt := by
  split <;> rfl
@[simp] theorem ite_snd_flt {β : Type} (c : Prop) [Decidable c] (a b : β × State) : (if c then a else b).2.flt = if c then a.2.flt else b.2.flt := by
  split <;> rfl
theorem fst_flt {β : Type} {a : State × β} {t : State} {r : β} (h : a = (t, r)) : t.flt = a.1.flt := by rw [h]
theorem snd_flt {β : Type} {a : β × State} {t : State} {r : β} (h : a = (r, t)) : t.flt = a.2.flt := by rw [h]
@[simp] theorem whenDo_flt (c : Bool) (f : State → State) (s : State) (h : (f s).flt = s.flt) :
    (whenDo c f s).flt = s.flt := whenDo_keeps _ c f s h

@[simp] theorem ite_chans (c : Prop) [Decidable c] (a b : State) : (if c then a else b).chans = if c then a.chans else b.chans := by
  split <;> rfl
@[simp] theorem forEach_chans {α : Type} (xs : List α) (f : α → State → State) (h : ∀ x t, (f x t).chans = t.chans) (s : State) :
    (forEach xs f s).chans = s.chans := forEach_keeps _ xs f h s
@[simp] theorem foldl_chans {α : Type} (xs : List α) (f : State → α → State) (h : ∀ t x, (f t x).chans = t.chans) (s : State) :
    (xs.foldl f s).chans = s.chans := foldl_keeps _ xs f h s
@[simp] theorem ite_fst_chans {β : Type} (c : Prop) [Decidable c] (a b : State × β) : (if c then a else b).1.chans = if c then a.1.chans else b.1.chans := by
  split <;> rfl
@[simp] theorem ite_snd_chans {β : Type} (c : Prop) [Decidable c] (a b : β × State) : (if c then a else b).2.chans = if c then a.2.chans else b.2.chans := by
  split <;> rfl
theorem fst_chans {β : Type} {a : State × β} {t : State} {r : β} (h : a = (t, r)) : t.chans = a.1.chans := by rw [h]
theorem snd_chans {β : Type} {a : β × State} {t : State} {r : β} (h : a = (r, t)) : t.chans = a.2.chans := by rw [h]
@[simp] theorem whenDo_chans (c : Bool) (f : State → State) (s : State) (h : (f s).chans = s.chans) :
    (whenDo c f s).chans = s.chans := whenDo_keeps _ c f s h

@[simp] theorem ite_rings (c : Prop) [Decidable c] (a b : State) : (if c then a else b).rings = if c then a.rings else b.rings := by
  split <;> rfl
@[simp] theorem forEach_rings {α : Type} (xs : List α) (f : α → State → State) (h : ∀ x t, (f x t).rings = t.rings) (s : State) :
    (forEach xs f s).rings = s.rings := forEach_keeps _ xs f h s
@[simp] theorem foldl_rings {α : Type} (xs : List α) (f : State → α → State) (h : ∀ t x, (f t x).rings = t.rings) (s : State) :
    (xs.foldl f s).rings = s.rings := foldl_keeps _ xs f h s
@[simp] theorem ite_fst_rings {β : Type} (c : Prop) [Decidable c] (a b : State × β) : (if c then a else b).1.rings = if c then a.1.rings else b.1.rings := by
  split <;> rfl
@[simp] theorem ite_snd_rings {β : Type} (c : Prop) [Decidable c] (a b : β × State) : (if c then a else b).2.rings = if c then a.2.rings else b.2.rings := by
  split <;> rfl
theorem fst_rings {β : Type} {a : State × β} {t : State} {r : β} (h : a = (t, r)) : t.rings = a.1.rings := by rw [h]
theorem snd_rings {β : Type} {a : β × State} {t : State} {r : β} (h : a = (r, t)) : t.rings = a.2.rings := by rw [h]
@[simp] theorem whenDo_rings (c : Bool) (f : State → State) (s : State) (h : (f s).rings = s.rings) :
    (whenDo c f s).rings = s.rings := whenDo_keeps _ c f s h

@[simp] theorem ite_rpl (c : Prop) [Decidable c] (a b : State) : (if c then a else b).rpl = if c then a.rpl else b.rpl := by
  split <;> rfl
@[simp] theorem forEach_rpl {α : Type} (xs : List α) (f : α → State → State) (h : ∀ x t, (f x t).rpl = t.rpl) (s : State) :
    (forEach xs f s).rpl = s.rpl := forEach_keeps _ xs f h s
@[simp] theorem foldl_rpl {α : Type} (xs : List α) (f : State → α → State) (h : ∀ t x, (f t x).rpl = t.rpl) (s : State) :
    (xs.foldl f s).rpl = s.rpl := foldl_keeps _ xs f h s
@[simp] theorem ite_fst_rpl {β : Type} (c : Prop) [Decidable c] (a b : State × β) : (if c then a else b).1.rpl = if c then a.1.rpl else b.1.rpl := by
  split <;> rfl
@[simp] theorem ite_snd_rpl {β : Type} (c : Prop) [Decidable c] (a b : β × State) : (if c then a else b).2.rpl = if c then a.2.rpl else b.2.rpl := by
  split <;> rfl
theorem fst_rpl {β : Type} {a : State × β} {t : State} {r : β} (h : a = (t, r)) : t.rpl = a.1.rpl := by rw [h]
theorem snd_rpl {β : Type} {a : β × State} {t : State} {r : β} (h : a = (r, t)) : t.rpl = a.2.rpl := by rw [h]
@[simp] theorem whenDo_rpl (c : Bool) (f : State → State) (s : State) (h : (f s).rpl = s.rpl) :
    (whenDo c f s).rpl = s.rpl := whenDo_keeps _ c f s h

@[simp] theorem ite_pair (c : Prop) [Decidable c] (a b : State) : (if c then a else b).pair = if c then a.pair else b.pair := by
  split <;> rfl
@[simp] theorem forEach_pair {α : Type} (xs : List α) (f : α → State → State) (h : ∀ x t, (f x t).pair = t.pair) (s : State) :
    (forEach xs f s).pair = s.pair := forEach_keeps _ xs f h s
@[simp] theorem foldl_pair {α : Type} (xs : List α) (f : State → α → State) (h : ∀ t x, (f t x).pair = t.pair) (s : State) :
    (xs.foldl f s).pair = s.pair := foldl_keeps _ xs f h s
@[simp] theorem ite_fst_pair {β : Type} (c : Prop) [Decidable c] (a b : State × β) : (if c then a else b).1.pair = if c then a.1.pair else b.1.pair := by
  split <;> rfl
@[simp] theorem ite_snd_pair {β : Type} (c : Prop) [Decidable c] (a b : β × State) : (if c then a else b).2.pair = if c then a.2.pair else b.2.pair := by
  split <;> rfl
theorem fst_pair {β : Type} {a : State × β} {t : State} {r : β} (h : a = (t, r)) : t.pair = a.1.pair := by rw [h]
theorem snd_pair {β : Type} {a : β × State} {t : State} {r : β} (h : a = (r, t)) : t.pair = a.2.pair := by rw [h]
@[simp] theorem whenDo_pair (c : Bool) (f : State → State) (s : State) (h : (f s).pair = s.pair) :
    (whenDo c f s).pair = s.pair := whenDo_keeps _ c f s h

@[simp] theorem ite_cells (c : Prop) [Decidable c] (a b : State) : (if c then a else b).cells = if c then a.cells else b.cells := by
  split <;> rfl
@[simp] theorem forEach_cells {α : Type} (xs : List α) (f : α → State → State) (h : ∀ x t, (f x t).cells = t.cells) (s : State) :
    (forEach xs f s).cells = s.cells := forEach_keeps _ xs f h s
@[simp] theorem foldl_cells {α : Type} (xs : List α) (f : State → α → State) (h : ∀ t x, (f t x).cells = t.cells) (s : State) :
    (xs.foldl f s).cells = s.cells := foldl_keeps _ xs f h s
@[simp] theorem ite_fst_cells {β : Type} (c : Prop) [Decidable c] (a b : State × β) : (if c then a else b).1.cells = if c then a.1.cells else b.1.cells := by
  split <;> rfl
@[simp] theorem ite_snd_cells {β : Type} (c : Prop) [Decidable c] (a b : β × State) : (if c then a else b).2.cells = if c then a.2.cells else b.2.cells := by
  split <;> rfl
theorem fst_cells {β : Type} {a : State × β} {t : State} {r : β} (h : a = (t, r)) : t.cells = a.1.cells := by rw [h]
theorem snd_cells {β : Type} {a : β × State} {t : State} {r : β} (h : a = (r, t)) : t.cells = a.2.cells := by rw [h]
@[simp] theorem whenDo_cells (c : Bool) (f : State → State) (s : State) (h : (f s).cells = s.cells) :
    (whenDo c f s).cells = s.cells := whenDo_keeps _ c f s h

/-! ## Ops -/
theorem State.restartChain_frame (s : State) (n : Fin 16) : KeepsHost (State.restartChain s n) s ∧ (State.restartChain s n).svc = s.svc ∧ (State.restartChain s n).img = s.img ∧ (State.restartChain s n).fab = s.fab ∧ (State.restartChain s n).adcs = s.adcs ∧ (State.restartChain s n).chks = s.chks ∧ (State.restartChain s n).chkTurn = s.chkTurn ∧ (State.restartChain s n).bg = s.bg ∧ (State.restartChain s n).pwr = s.pwr ∧ (State.restartChain s n).freeCtr = s.freeCtr ∧ (State.restartChain s n).recd = s.recd ∧ (State.restartChain s n).wheels = s.wheels ∧ (State.restartChain s n).flt = s.flt ∧ (State.restartChain s n).chans = s.chans ∧ (State.restartChain s n).rings = s.rings ∧ (State.restartChain s n).rpl = s.rpl ∧ (State.restartChain s n).pair = s.pair ∧ (State.restartChain s n).cells = s.cells ∧ (State.restartChain s n).storeGen = s.storeGen := by simp [KeepsHost, KeepsUnits, State.restartChain]
@[simp] theorem State.restartChain_cells (s : State) (n : Fin 16) : (State.restartChain s n).cells = s.cells := by simp [State.restartChain_frame _ _]
theorem State.restartChains_frame (s : State) (x : RingId) : KeepsHost (State.restartChains s x) s ∧ (State.restartChains s x).svc = s.svc ∧ (State.restartChains s x).img = s.img ∧ (State.restartChains s x).fab = s.fab ∧ (State.restartChains s x).adcs = s.adcs ∧ (State.restartChains s x).chks = s.chks ∧ (State.restartChains s x).chkTurn = s.chkTurn ∧ (State.restartChains s x).bg = s.bg ∧ (State.restartChains s x).pwr = s.pwr ∧ (State.restartChains s x).freeCtr = s.freeCtr ∧ (State.restartChains s x).recd = s.recd ∧ (State.restartChains s x).wheels = s.wheels ∧ (State.restartChains s x).flt = s.flt ∧ (State.restartChains s x).chans = s.chans ∧ (State.restartChains s x).rings = s.rings ∧ (State.restartChains s x).rpl = s.rpl ∧ (State.restartChains s x).pair = s.pair ∧ (State.restartChains s x).cells = s.cells ∧ (State.restartChains s x).storeGen = s.storeGen := by simp [State.restartChain_frame _ _, KeepsHost, KeepsUnits, State.restartChains]
@[simp] theorem State.restartChains_cells (s : State) (x : RingId) : (State.restartChains s x).cells = s.cells := by simp [State.restartChains_frame _ _]
theorem State.free_frame (s : State) : KeepsHost (State.free s).2 s ∧ (State.free s).2.svc = s.svc ∧ (State.free s).2.img = s.img ∧ (State.free s).2.fab = s.fab ∧ (State.free s).2.adcs = s.adcs ∧ (State.free s).2.filt = s.filt ∧ (State.free s).2.chks = s.chks ∧ (State.free s).2.chkTurn = s.chkTurn ∧ (State.free s).2.bg = s.bg ∧ (State.free s).2.pwr = s.pwr ∧ (State.free s).2.recd = s.recd ∧ (State.free s).2.wheels = s.wheels ∧ (State.free s).2.flt = s.flt ∧ (State.free s).2.chans = s.chans ∧ (State.free s).2.rings = s.rings ∧ (State.free s).2.rpl = s.rpl ∧ (State.free s).2.pair = s.pair ∧ (State.free s).2.cells = s.cells ∧ (State.free s).2.storeGen = s.storeGen := by simp [KeepsHost, KeepsUnits, State.free]
@[simp] theorem State.free_cells (s : State) : (State.free s).2.cells = s.cells := by simp [State.free_frame _]
/-! ## Records -/
theorem State.report_frame (s : State) (code : BitVec 16) (origin : Origin) (flags : Nat) (p1 : Word) (p2 : Word) : KeepsHost (State.report s code origin flags p1 p2) s ∧ KeepsUnits (State.report s code origin flags p1 p2) s ∧ (State.report s code origin flags p1 p2).wheels = s.wheels ∧ (State.report s code origin flags p1 p2).flt = s.flt ∧ (State.report s code origin flags p1 p2).chans = s.chans ∧ (State.report s code origin flags p1 p2).rings = s.rings ∧ (State.report s code origin flags p1 p2).rpl = s.rpl ∧ (State.report s code origin flags p1 p2).pair = s.pair ∧ (State.report s code origin flags p1 p2).cells = s.cells ∧ (State.report s code origin flags p1 p2).storeGen = s.storeGen := by simp [KeepsHost, KeepsUnits, State.report]
@[simp] theorem State.report_cells (s : State) (code : BitVec 16) (origin : Origin) (flags : Nat) (p1 : Word) (p2 : Word) : (State.report s code origin flags p1 p2).cells = s.cells := by simp [State.report_frame _ _ _ _ _ _]
theorem State.event_frame (s : State) (group : Nat) (code : Nat) (origin : Origin) (p1 : Word) (p2 : Word) : KeepsHost (State.event s group code origin p1 p2) s ∧ KeepsUnits (State.event s group code origin p1 p2) s ∧ (State.event s group code origin p1 p2).wheels = s.wheels ∧ (State.event s group code origin p1 p2).flt = s.flt ∧ (State.event s group code origin p1 p2).chans = s.chans ∧ (State.event s group code origin p1 p2).rings = s.rings ∧ (State.event s group code origin p1 p2).rpl = s.rpl ∧ (State.event s group code origin p1 p2).pair = s.pair ∧ (State.event s group code origin p1 p2).cells = s.cells ∧ (State.event s group code origin p1 p2).storeGen = s.storeGen := by simp [State.report_frame _ _ _ _ _ _, KeepsHost, KeepsUnits, State.event]
@[simp] theorem State.event_cells (s : State) (group : Nat) (code : Nat) (origin : Origin) (p1 : Word) (p2 : Word) : (State.event s group code origin p1 p2).cells = s.cells := by simp [State.event_frame _ _ _ _ _ _]
theorem State.appendJournal_frame (s : State) (code : Nat) (origin : Origin) (p1 : Word) (p2 : Word) : KeepsHost (State.appendJournal s code origin p1 p2) s ∧ KeepsUnits (State.appendJournal s code origin p1 p2) s ∧ (State.appendJournal s code origin p1 p2).wheels = s.wheels ∧ (State.appendJournal s code origin p1 p2).flt = s.flt ∧ (State.appendJournal s code origin p1 p2).chans = s.chans ∧ (State.appendJournal s code origin p1 p2).rings = s.rings ∧ (State.appendJournal s code origin p1 p2).rpl = s.rpl ∧ (State.appendJournal s code origin p1 p2).pair = s.pair ∧ (State.appendJournal s code origin p1 p2).cells = s.cells := by simp [KeepsHost, KeepsUnits, State.appendJournal]
@[simp] theorem State.appendJournal_cells (s : State) (code : Nat) (origin : Origin) (p1 : Word) (p2 : Word) : (State.appendJournal s code origin p1 p2).cells = s.cells := by simp [State.appendJournal_frame _ _ _ _ _]
theorem State.commitTail_frame (s : State) : KeepsHost (State.commitTail s) s ∧ KeepsUnits (State.commitTail s) s ∧ (State.commitTail s).wheels = s.wheels ∧ (State.commitTail s).flt = s.flt ∧ (State.commitTail s).chans = s.chans ∧ (State.commitTail s).rings = s.rings ∧ (State.commitTail s).rpl = s.rpl ∧ (State.commitTail s).pair = s.pair ∧ (State.commitTail s).cells = s.cells := by simp [KeepsHost, KeepsUnits, State.commitTail]
@[simp] theorem State.commitTail_cells (s : State) : (State.commitTail s).cells = s.cells := by simp [State.commitTail_frame _]
/-! ## Wheels -/
theorem State.storeWhere_frame (s : State) (sel : Wheel → Bool) (tick : Nat) (e : Entry) : KeepsHost (State.storeWhere s sel tick e) s ∧ KeepsUnits (State.storeWhere s sel tick e) s ∧ (State.storeWhere s sel tick e).recd = s.recd ∧ (State.storeWhere s sel tick e).flt = s.flt ∧ (State.storeWhere s sel tick e).chans = s.chans ∧ (State.storeWhere s sel tick e).rings = s.rings ∧ (State.storeWhere s sel tick e).rpl = s.rpl ∧ (State.storeWhere s sel tick e).pair = s.pair ∧ (State.storeWhere s sel tick e).cells = s.cells ∧ (State.storeWhere s sel tick e).storeGen = s.storeGen := by simp [KeepsHost, KeepsUnits, State.storeWhere]
@[simp] theorem State.storeWhere_cells (s : State) (sel : Wheel → Bool) (tick : Nat) (e : Entry) : (State.storeWhere s sel tick e).cells = s.cells := by simp [State.storeWhere_frame _ _ _ _]
/-! ## Cells -/
theorem State.storeChanged_frame (s : State) : KeepsHost (State.storeChanged s) s ∧ KeepsUnits (State.storeChanged s) s ∧ (State.storeChanged s).recd = s.recd ∧ (State.storeChanged s).wheels = s.wheels ∧ (State.storeChanged s).flt = s.flt ∧ (State.storeChanged s).chans = s.chans ∧ (State.storeChanged s).rings = s.rings ∧ (State.storeChanged s).rpl = s.rpl ∧ (State.storeChanged s).pair = s.pair ∧ (State.storeChanged s).cells = s.cells := by simp [KeepsHost, KeepsUnits, State.storeChanged]
@[simp] theorem State.storeChanged_cells (s : State) : (State.storeChanged s).cells = s.cells := by simp [State.storeChanged_frame _]
theorem State.calibChanged_frame (s : State) : KeepsHost (State.calibChanged s) s ∧ (State.calibChanged s).svc = s.svc ∧ (State.calibChanged s).img = s.img ∧ (State.calibChanged s).fab = s.fab ∧ (State.calibChanged s).adcs = s.adcs ∧ (State.calibChanged s).filt = s.filt ∧ (State.calibChanged s).chks = s.chks ∧ (State.calibChanged s).chkTurn = s.chkTurn ∧ (State.calibChanged s).pwr = s.pwr ∧ (State.calibChanged s).freeCtr = s.freeCtr ∧ (State.calibChanged s).recd = s.recd ∧ (State.calibChanged s).wheels = s.wheels ∧ (State.calibChanged s).flt = s.flt ∧ (State.calibChanged s).chans = s.chans ∧ (State.calibChanged s).rings = s.rings ∧ (State.calibChanged s).rpl = s.rpl ∧ (State.calibChanged s).pair = s.pair ∧ (State.calibChanged s).cells = s.cells ∧ (State.calibChanged s).storeGen = s.storeGen := by simp [State.calibChanged, KeepsHost, KeepsUnits]
@[simp] theorem State.calibChanged_cells (s : State) : (State.calibChanged s).cells = s.cells := by simp [State.calibChanged_frame _]
theorem State.configChanged_frame (s : State) : KeepsHost (State.configChanged s) s ∧ (State.configChanged s).svc = s.svc ∧ (State.configChanged s).fab = s.fab ∧ (State.configChanged s).adcs = s.adcs ∧ (State.configChanged s).filt = s.filt ∧ (State.configChanged s).chks = s.chks ∧ (State.configChanged s).chkTurn = s.chkTurn ∧ (State.configChanged s).bg = s.bg ∧ (State.configChanged s).pwr = s.pwr ∧ (State.configChanged s).freeCtr = s.freeCtr ∧ (State.configChanged s).recd = s.recd ∧ (State.configChanged s).wheels = s.wheels ∧ (State.configChanged s).flt = s.flt ∧ (State.configChanged s).chans = s.chans ∧ (State.configChanged s).rings = s.rings ∧ (State.configChanged s).rpl = s.rpl ∧ (State.configChanged s).pair = s.pair ∧ (State.configChanged s).cells = s.cells ∧ (State.configChanged s).storeGen = s.storeGen := by simp [State.configChanged, KeepsHost, KeepsUnits]
@[simp] theorem State.configChanged_cells (s : State) : (State.configChanged s).cells = s.cells := by simp [State.configChanged_frame _]
theorem State.cutErase_frame (s : State) (base : Nat) (n : Nat) (old : Memory) : KeepsHost (State.cutErase s base n old) s ∧ (State.cutErase s base n old).svc = s.svc ∧ (State.cutErase s base n old).img = s.img ∧ (State.cutErase s base n old).fab = s.fab ∧ (State.cutErase s base n old).adcs = s.adcs ∧ (State.cutErase s base n old).filt = s.filt ∧ (State.cutErase s base n old).chks = s.chks ∧ (State.cutErase s base n old).chkTurn = s.chkTurn ∧ (State.cutErase s base n old).bg = s.bg ∧ (State.cutErase s base n old).pwr = s.pwr ∧ (State.cutErase s base n old).recd = s.recd ∧ (State.cutErase s base n old).wheels = s.wheels ∧ (State.cutErase s base n old).flt = s.flt ∧ (State.cutErase s base n old).chans = s.chans ∧ (State.cutErase s base n old).rings = s.rings ∧ (State.cutErase s base n old).rpl = s.rpl ∧ (State.cutErase s base n old).pair = s.pair ∧ (State.cutErase s base n old).storeGen = s.storeGen := by simp [State.cutErase, State.free_frame _, KeepsHost, KeepsUnits]
/-! ## Tickets -/
theorem State.takeTicket_frame (s : State) (m : Master) (t : Fin 64) : KeepsUnits (State.takeTicket s m t) s ∧ (State.takeTicket s m t).pending = s.pending ∧ (State.takeTicket s m t).clock = s.clock ∧ (State.takeTicket s m t).vio = s.vio ∧ (State.takeTicket s m t).phase = s.phase ∧ (State.takeTicket s m t).time = s.time ∧ (State.takeTicket s m t).readyCount = s.readyCount ∧ (State.takeTicket s m t).ports = s.ports ∧ (State.takeTicket s m t).shadows = s.shadows ∧ (State.takeTicket s m t).recd = s.recd ∧ (State.takeTicket s m t).wheels = s.wheels ∧ (State.takeTicket s m t).flt = s.flt ∧ (State.takeTicket s m t).chans = s.chans ∧ (State.takeTicket s m t).rings = s.rings ∧ (State.takeTicket s m t).rpl = s.rpl ∧ (State.takeTicket s m t).pair = s.pair ∧ (State.takeTicket s m t).cells = s.cells ∧ (State.takeTicket s m t).storeGen = s.storeGen := by simp [KeepsHost, KeepsUnits, State.takeTicket]
@[simp] theorem State.takeTicket_cells (s : State) (m : Master) (t : Fin 64) : (State.takeTicket s m t).cells = s.cells := by simp [State.takeTicket_frame _ _ _]
theorem State.freeTicket_frame (s : State) (t : Fin 64) : KeepsUnits (State.freeTicket s t) s ∧ (State.freeTicket s t).pending = s.pending ∧ (State.freeTicket s t).clock = s.clock ∧ (State.freeTicket s t).vio = s.vio ∧ (State.freeTicket s t).phase = s.phase ∧ (State.freeTicket s t).time = s.time ∧ (State.freeTicket s t).readyCount = s.readyCount ∧ (State.freeTicket s t).shadows = s.shadows ∧ (State.freeTicket s t).recd = s.recd ∧ (State.freeTicket s t).wheels = s.wheels ∧ (State.freeTicket s t).flt = s.flt ∧ (State.freeTicket s t).chans = s.chans ∧ (State.freeTicket s t).rings = s.rings ∧ (State.freeTicket s t).rpl = s.rpl ∧ (State.freeTicket s t).pair = s.pair ∧ (State.freeTicket s t).cells = s.cells ∧ (State.freeTicket s t).storeGen = s.storeGen := by simp [KeepsHost, KeepsUnits, State.freeTicket]
@[simp] theorem State.freeTicket_cells (s : State) (t : Fin 64) : (State.freeTicket s t).cells = s.cells := by simp [State.freeTicket_frame _ _]
theorem State.readyTicket_frame (s : State) (m : Master) (t : Fin 64) (r : Response) : KeepsUnits (State.readyTicket s m t r) s ∧ (State.readyTicket s m t r).pending = s.pending ∧ (State.readyTicket s m t r).clock = s.clock ∧ (State.readyTicket s m t r).vio = s.vio ∧ (State.readyTicket s m t r).phase = s.phase ∧ (State.readyTicket s m t r).time = s.time ∧ (State.readyTicket s m t r).ports = s.ports ∧ (State.readyTicket s m t r).shadows = s.shadows ∧ (State.readyTicket s m t r).recd = s.recd ∧ (State.readyTicket s m t r).wheels = s.wheels ∧ (State.readyTicket s m t r).flt = s.flt ∧ (State.readyTicket s m t r).chans = s.chans ∧ (State.readyTicket s m t r).rings = s.rings ∧ (State.readyTicket s m t r).rpl = s.rpl ∧ (State.readyTicket s m t r).pair = s.pair ∧ (State.readyTicket s m t r).cells = s.cells ∧ (State.readyTicket s m t r).storeGen = s.storeGen := by simp [KeepsHost, KeepsUnits, State.readyTicket]
@[simp] theorem State.readyTicket_cells (s : State) (m : Master) (t : Fin 64) (r : Response) : (State.readyTicket s m t r).cells = s.cells := by simp [State.readyTicket_frame _ _ _ _]
@[simp] theorem State.onTicket_pending (s : State) (m : Master) (g : State → State) (h : ∀ t, (g t).pending = t.pending) : (State.onTicket s m g).pending = s.pending := by
  simp [State.freeTicket_frame _ _, State.takeTicket_frame _ _ _, State.onTicket, h]
@[simp] theorem State.onTicket_clock (s : State) (m : Master) (g : State → State) (h : ∀ t, (g t).clock = t.clock) : (State.onTicket s m g).clock = s.clock := by
  simp [State.freeTicket_frame _ _, State.takeTicket_frame _ _ _, State.onTicket, h]
@[simp] theorem State.onTicket_vio (s : State) (m : Master) (g : State → State) (h : ∀ t, (g t).vio = t.vio) : (State.onTicket s m g).vio = s.vio := by
  simp [State.freeTicket_frame _ _, State.takeTicket_frame _ _ _, State.onTicket, h]
@[simp] theorem State.onTicket_phase (s : State) (m : Master) (g : State → State) (h : ∀ t, (g t).phase = t.phase) : (State.onTicket s m g).phase = s.phase := by
  simp [State.freeTicket_frame _ _, State.takeTicket_frame _ _ _, State.onTicket, h]
@[simp] theorem State.onTicket_readyCount (s : State) (m : Master) (g : State → State) (h : ∀ t, (g t).readyCount = t.readyCount) : (State.onTicket s m g).readyCount = s.readyCount := by
  simp [State.freeTicket_frame _ _, State.takeTicket_frame _ _ _, State.onTicket, h]
/-! ## Hooks -/
theorem State.keepIdle_frame (s : State) : KeepsHost (State.keepIdle s) s ∧ KeepsUnits (State.keepIdle s) s ∧ (State.keepIdle s).recd = s.recd ∧ (State.keepIdle s).wheels = s.wheels ∧ (State.keepIdle s).flt = s.flt ∧ (State.keepIdle s).chans = s.chans ∧ (State.keepIdle s).rings = s.rings ∧ (State.keepIdle s).rpl = s.rpl ∧ (State.keepIdle s).cells = s.cells ∧ (State.keepIdle s).storeGen = s.storeGen := by simp [KeepsHost, KeepsUnits, State.keepIdle]
@[simp] theorem State.keepIdle_cells (s : State) : (State.keepIdle s).cells = s.cells := by simp [State.keepIdle_frame _]
theorem State.sendRing_frame (s : State) (x : RingId) (c : RingCmd) : KeepsHost (State.sendRing s x c) s ∧ KeepsUnits (State.sendRing s x c) s ∧ (State.sendRing s x c).recd = s.recd ∧ (State.sendRing s x c).wheels = s.wheels ∧ (State.sendRing s x c).flt = s.flt ∧ (State.sendRing s x c).chans = s.chans ∧ (State.sendRing s x c).rpl = s.rpl ∧ (State.sendRing s x c).pair = s.pair ∧ (State.sendRing s x c).cells = s.cells ∧ (State.sendRing s x c).storeGen = s.storeGen := by simp [KeepsHost, KeepsUnits, State.sendRing]
@[simp] theorem State.sendRing_cells (s : State) (x : RingId) (c : RingCmd) : (State.sendRing s x c).cells = s.cells := by simp [State.sendRing_frame _ _ _]
theorem State.tellRole_frame (s : State) (swap : Bool) (present : optParam (BitVec 16) 0#16) : KeepsHost (State.tellRole s swap present) s ∧ KeepsUnits (State.tellRole s swap present) s ∧ (State.tellRole s swap present).recd = s.recd ∧ (State.tellRole s swap present).wheels = s.wheels ∧ (State.tellRole s swap present).flt = s.flt ∧ (State.tellRole s swap present).chans = s.chans ∧ (State.tellRole s swap present).rpl = s.rpl ∧ (State.tellRole s swap present).cells = s.cells ∧ (State.tellRole s swap present).storeGen = s.storeGen := by simp [State.sendRing_frame _ _ _, KeepsHost, KeepsUnits, State.tellRole]
@[simp] theorem State.tellRole_cells (s : State) (swap : Bool) (present : optParam (BitVec 16) 0#16) : (State.tellRole s swap present).cells = s.cells := by simp [State.tellRole_frame _ _ _]
theorem State.setRole_frame (s : State) (role : Role) (reason : Nat) (p2 : optParam Word 0#32) : KeepsHost (State.setRole s role reason p2) s ∧ KeepsUnits (State.setRole s role reason p2) s ∧ (State.setRole s role reason p2).wheels = s.wheels ∧ (State.setRole s role reason p2).flt = s.flt ∧ (State.setRole s role reason p2).chans = s.chans ∧ (State.setRole s role reason p2).rpl = s.rpl ∧ (State.setRole s role reason p2).cells = s.cells ∧ (State.setRole s role reason p2).storeGen = s.storeGen := by simp [State.event_frame _ _ _ _ _ _, State.tellRole_frame _ _ _, KeepsHost, KeepsUnits, State.setRole]
@[simp] theorem State.setRole_cells (s : State) (role : Role) (reason : Nat) (p2 : optParam Word 0#32) : (State.setRole s role reason p2).cells = s.cells := by simp [State.setRole_frame _ _ _ _]
theorem State.post_frame (s : State) (f : TzFrame) : KeepsHost (State.post s f) s ∧ KeepsUnits (State.post s f) s ∧ (State.post s f).recd = s.recd ∧ (State.post s f).wheels = s.wheels ∧ (State.post s f).flt = s.flt ∧ (State.post s f).chans = s.chans ∧ (State.post s f).rings = s.rings ∧ (State.post s f).rpl = s.rpl ∧ (State.post s f).cells = s.cells ∧ (State.post s f).storeGen = s.storeGen := by simp [KeepsHost, KeepsUnits, State.post]
theorem State.microsecond_frame (s : State) : KeepsUnits (State.microsecond s) s ∧ (State.microsecond s).pending = s.pending ∧ (State.microsecond s).vio = s.vio ∧ (State.microsecond s).phase = s.phase ∧ (State.microsecond s).time = s.time ∧ (State.microsecond s).tickets = s.tickets ∧ (State.microsecond s).readyCount = s.readyCount ∧ (State.microsecond s).ports = s.ports ∧ (State.microsecond s).shadows = s.shadows ∧ (State.microsecond s).recd = s.recd ∧ (State.microsecond s).wheels = s.wheels ∧ (State.microsecond s).flt = s.flt ∧ (State.microsecond s).chans = s.chans ∧ (State.microsecond s).rings = s.rings ∧ (State.microsecond s).rpl = s.rpl ∧ (State.microsecond s).cells = s.cells ∧ (State.microsecond s).storeGen = s.storeGen := by simp [KeepsHost, KeepsUnits, State.microsecond]
theorem State.sendHeartbeat_frame (s : State) : KeepsHost (State.sendHeartbeat s) s ∧ KeepsUnits (State.sendHeartbeat s) s ∧ (State.sendHeartbeat s).recd = s.recd ∧ (State.sendHeartbeat s).wheels = s.wheels ∧ (State.sendHeartbeat s).flt = s.flt ∧ (State.sendHeartbeat s).chans = s.chans ∧ (State.sendHeartbeat s).rings = s.rings ∧ (State.sendHeartbeat s).rpl = s.rpl ∧ (State.sendHeartbeat s).cells = s.cells ∧ (State.sendHeartbeat s).storeGen = s.storeGen := by simp [State.post_frame _ _, KeepsHost, KeepsUnits, State.sendHeartbeat]
theorem State.sendQual_frame (s : State) : KeepsHost (State.sendQual s) s ∧ KeepsUnits (State.sendQual s) s ∧ (State.sendQual s).recd = s.recd ∧ (State.sendQual s).wheels = s.wheels ∧ (State.sendQual s).flt = s.flt ∧ (State.sendQual s).chans = s.chans ∧ (State.sendQual s).rings = s.rings ∧ (State.sendQual s).rpl = s.rpl ∧ (State.sendQual s).cells = s.cells ∧ (State.sendQual s).storeGen = s.storeGen := by simp [State.post_frame _ _, KeepsHost, KeepsUnits, State.sendQual]
theorem State.sendState_frame (s : State) : KeepsHost (State.sendState s) s ∧ KeepsUnits (State.sendState s) s ∧ (State.sendState s).recd = s.recd ∧ (State.sendState s).wheels = s.wheels ∧ (State.sendState s).flt = s.flt ∧ (State.sendState s).chans = s.chans ∧ (State.sendState s).rings = s.rings ∧ (State.sendState s).rpl = s.rpl ∧ (State.sendState s).cells = s.cells ∧ (State.sendState s).storeGen = s.storeGen := by simp [State.sendHeartbeat_frame _, State.sendQual_frame _, KeepsHost, KeepsUnits, State.sendState]
@[simp] theorem State.sendState_cells (s : State) : (State.sendState s).cells = s.cells := by simp [State.sendState_frame _]
theorem State.sendSwap_frame (s : State) (m : SwapMsg) : KeepsHost (State.sendSwap s m) s ∧ KeepsUnits (State.sendSwap s m) s ∧ (State.sendSwap s m).recd = s.recd ∧ (State.sendSwap s m).wheels = s.wheels ∧ (State.sendSwap s m).flt = s.flt ∧ (State.sendSwap s m).chans = s.chans ∧ (State.sendSwap s m).rings = s.rings ∧ (State.sendSwap s m).rpl = s.rpl ∧ (State.sendSwap s m).cells = s.cells ∧ (State.sendSwap s m).storeGen = s.storeGen := by simp [State.post_frame _ _, KeepsHost, KeepsUnits, State.sendSwap]
@[simp] theorem State.sendSwap_cells (s : State) (m : SwapMsg) : (State.sendSwap s m).cells = s.cells := by simp [State.sendSwap_frame _ _]
theorem State.setUq_frame (s : State) (uq : BitVec 10) (reason : optParam Nat 7) : KeepsHost (State.setUq s uq reason) s ∧ KeepsUnits (State.setUq s uq reason) s ∧ (State.setUq s uq reason).wheels = s.wheels ∧ (State.setUq s uq reason).flt = s.flt ∧ (State.setUq s uq reason).chans = s.chans ∧ (State.setUq s uq reason).rpl = s.rpl ∧ (State.setUq s uq reason).cells = s.cells ∧ (State.setUq s uq reason).storeGen = s.storeGen := by simp [State.event_frame _ _ _ _ _ _, State.sendState_frame _, State.setRole_frame _ _ _ _, KeepsHost, KeepsUnits, State.setUq]
@[simp] theorem State.setUq_cells (s : State) (uq : BitVec 10) (reason : optParam Nat 7) : (State.setUq s uq reason).cells = s.cells := by simp [State.setUq_frame _ _ _]
theorem State.endSwap_frame (s : State) (done : Bool) (code : Nat) : KeepsHost (State.endSwap s done code) s ∧ KeepsUnits (State.endSwap s done code) s ∧ (State.endSwap s done code).wheels = s.wheels ∧ (State.endSwap s done code).flt = s.flt ∧ (State.endSwap s done code).chans = s.chans ∧ (State.endSwap s done code).rings = s.rings ∧ (State.endSwap s done code).rpl = s.rpl ∧ (State.endSwap s done code).cells = s.cells ∧ (State.endSwap s done code).storeGen = s.storeGen := by
  unfold State.endSwap; (repeat' split) <;> simp [State.event_frame _ _ _ _ _ _, KeepsHost, KeepsUnits]
theorem State.sendSource_frame (s : State) (on : Bool) : KeepsHost (State.sendSource s on) s ∧ KeepsUnits (State.sendSource s on) s ∧ (State.sendSource s on).recd = s.recd ∧ (State.sendSource s on).wheels = s.wheels ∧ (State.sendSource s on).flt = s.flt ∧ (State.sendSource s on).chans = s.chans ∧ (State.sendSource s on).rpl = s.rpl ∧ (State.sendSource s on).pair = s.pair ∧ (State.sendSource s on).cells = s.cells ∧ (State.sendSource s on).storeGen = s.storeGen := by simp [State.sendRing_frame _ _ _, KeepsHost, KeepsUnits, State.sendSource]
@[simp] theorem State.sendSource_cells (s : State) (on : Bool) : (State.sendSource s on).cells = s.cells := by simp [State.sendSource_frame _ _]
theorem State.giveUp_frame (s : State) (reason : Nat) (cause : Nat) : KeepsHost (State.giveUp s reason cause) s ∧ KeepsUnits (State.giveUp s reason cause) s ∧ (State.giveUp s reason cause).wheels = s.wheels ∧ (State.giveUp s reason cause).flt = s.flt ∧ (State.giveUp s reason cause).chans = s.chans ∧ (State.giveUp s reason cause).rpl = s.rpl ∧ (State.giveUp s reason cause).cells = s.cells ∧ (State.giveUp s reason cause).storeGen = s.storeGen := by simp [State.endSwap_frame _ _ _, State.sendSource_frame _ _, State.sendState_frame _, State.setRole_frame _ _ _ _, State.setUq_frame _ _ _, KeepsHost, KeepsUnits, State.giveUp]
theorem State.roleRelease_frame (s : State) : KeepsHost (State.roleRelease s) s ∧ KeepsUnits (State.roleRelease s) s ∧ (State.roleRelease s).wheels = s.wheels ∧ (State.roleRelease s).flt = s.flt ∧ (State.roleRelease s).chans = s.chans ∧ (State.roleRelease s).rpl = s.rpl ∧ (State.roleRelease s).cells = s.cells ∧ (State.roleRelease s).storeGen = s.storeGen := by simp [State.giveUp_frame _ _ _, KeepsHost, KeepsUnits, State.roleRelease]
theorem State.nextFlight_frame (s : State) : KeepsHost (State.nextFlight s) s ∧ KeepsUnits (State.nextFlight s) s ∧ (State.nextFlight s).recd = s.recd ∧ (State.nextFlight s).wheels = s.wheels ∧ (State.nextFlight s).flt = s.flt ∧ (State.nextFlight s).chans = s.chans ∧ (State.nextFlight s).rings = s.rings ∧ (State.nextFlight s).rpl = s.rpl ∧ (State.nextFlight s).cells = s.cells ∧ (State.nextFlight s).storeGen = s.storeGen := by
  unfold State.nextFlight; (repeat' split) <;> simp [State.post_frame _ _, KeepsHost, KeepsUnits]
@[simp] theorem State.nextFlight_cells (s : State) : (State.nextFlight s).cells = s.cells := by simp [State.nextFlight_frame _]
theorem State.mirrorOut_frame (s : State) (origin : Origin) (addr : Addr) (w : Word) (capture : Bool) (win : Option (List Word)) : KeepsHost (State.mirrorOut s origin addr w capture win) s ∧ KeepsUnits (State.mirrorOut s origin addr w capture win) s ∧ (State.mirrorOut s origin addr w capture win).wheels = s.wheels ∧ (State.mirrorOut s origin addr w capture win).flt = s.flt ∧ (State.mirrorOut s origin addr w capture win).chans = s.chans ∧ (State.mirrorOut s origin addr w capture win).rpl = s.rpl ∧ (State.mirrorOut s origin addr w capture win).cells = s.cells ∧ (State.mirrorOut s origin addr w capture win).storeGen = s.storeGen := by simp [State.nextFlight_frame _, State.setUq_frame _ _ _, KeepsHost, KeepsUnits, State.mirrorOut]
theorem State.writeHeader_frame (s : State) (c : Capture) (closed : Bool) : KeepsHost (State.writeHeader s c closed) s ∧ KeepsUnits (State.writeHeader s c closed) s ∧ (State.writeHeader s c closed).recd = s.recd ∧ (State.writeHeader s c closed).wheels = s.wheels ∧ (State.writeHeader s c closed).flt = s.flt ∧ (State.writeHeader s c closed).chans = s.chans ∧ (State.writeHeader s c closed).rings = s.rings ∧ (State.writeHeader s c closed).rpl = s.rpl ∧ (State.writeHeader s c closed).pair = s.pair ∧ (State.writeHeader s c closed).storeGen = s.storeGen := by simp [KeepsHost, KeepsUnits, State.writeHeader]
theorem State.endCapture_frame (s : State) (flags : Byte) : KeepsHost (State.endCapture s flags) s ∧ KeepsUnits (State.endCapture s flags) s ∧ (State.endCapture s flags).wheels = s.wheels ∧ (State.endCapture s flags).flt = s.flt ∧ (State.endCapture s flags).chans = s.chans ∧ (State.endCapture s flags).rings = s.rings ∧ (State.endCapture s flags).pair = s.pair ∧ (State.endCapture s flags).storeGen = s.storeGen := by
  unfold State.endCapture; (repeat' split) <;> simp [State.event_frame _ _ _ _ _ _, State.writeHeader_frame _ _ _, KeepsHost, KeepsUnits]
theorem State.storeFrame_frame (s : State) (f : Frame) : KeepsHost (State.storeFrame s f) s ∧ KeepsUnits (State.storeFrame s f) s ∧ (State.storeFrame s f).wheels = s.wheels ∧ (State.storeFrame s f).flt = s.flt ∧ (State.storeFrame s f).chans = s.chans ∧ (State.storeFrame s f).rings = s.rings ∧ (State.storeFrame s f).pair = s.pair ∧ (State.storeFrame s f).storeGen = s.storeGen := by
  unfold State.storeFrame; (repeat' split) <;> simp [State.endCapture_frame _ _, KeepsHost, KeepsUnits]
theorem State.startCapture_frame (s : State) (src : Nat) (k : Nat) (seq : Word) (origin : Origin) (step : Nat) : KeepsHost (State.startCapture s src k seq origin step) s ∧ KeepsUnits (State.startCapture s src k seq origin step) s ∧ (State.startCapture s src k seq origin step).wheels = s.wheels ∧ (State.startCapture s src k seq origin step).flt = s.flt ∧ (State.startCapture s src k seq origin step).chans = s.chans ∧ (State.startCapture s src k seq origin step).rings = s.rings ∧ (State.startCapture s src k seq origin step).pair = s.pair ∧ (State.startCapture s src k seq origin step).storeGen = s.storeGen := by simp [State.event_frame _ _ _ _ _ _, State.storeFrame_frame _ _, State.writeHeader_frame _ _ _, KeepsHost, KeepsUnits, State.startCapture]
theorem State.trigger_frame (s : State) (src : Nat) (k : Nat) (seq : Word) (origin : Origin) (step : Nat) : KeepsHost (State.trigger s src k seq origin step) s ∧ KeepsUnits (State.trigger s src k seq origin step) s ∧ (State.trigger s src k seq origin step).wheels = s.wheels ∧ (State.trigger s src k seq origin step).flt = s.flt ∧ (State.trigger s src k seq origin step).chans = s.chans ∧ (State.trigger s src k seq origin step).rings = s.rings ∧ (State.trigger s src k seq origin step).pair = s.pair ∧ (State.trigger s src k seq origin step).storeGen = s.storeGen := by
  unfold State.trigger; (repeat' split) <;> simp [State.event_frame _ _ _ _ _ _, State.startCapture_frame _ _ _ _ _ _, KeepsHost, KeepsUnits]
theorem State.markRecord_frame (s : State) (e : Staged) (at_ : Nat) : KeepsHost (State.markRecord s e at_) s ∧ KeepsUnits (State.markRecord s e at_) s ∧ (State.markRecord s e at_).wheels = s.wheels ∧ (State.markRecord s e at_).flt = s.flt ∧ (State.markRecord s e at_).chans = s.chans ∧ (State.markRecord s e at_).rings = s.rings ∧ (State.markRecord s e at_).rpl = s.rpl ∧ (State.markRecord s e at_).pair = s.pair ∧ (State.markRecord s e at_).cells = s.cells ∧ (State.markRecord s e at_).storeGen = s.storeGen := by
  unfold State.markRecord; (repeat' split) <;> simp [KeepsHost, KeepsUnits]
@[simp] theorem State.markRecord_cells (s : State) (e : Staged) (at_ : Nat) : (State.markRecord s e at_).cells = s.cells := by simp [State.markRecord_frame _ _ _]
theorem State.faultTrigger_frame (s : State) (k : Nat) (cls : Nat) (inj : Bool) (e : Staged) : KeepsHost (State.faultTrigger s k cls inj e) s ∧ KeepsUnits (State.faultTrigger s k cls inj e) s ∧ (State.faultTrigger s k cls inj e).wheels = s.wheels ∧ (State.faultTrigger s k cls inj e).flt = s.flt ∧ (State.faultTrigger s k cls inj e).chans = s.chans ∧ (State.faultTrigger s k cls inj e).rings = s.rings ∧ (State.faultTrigger s k cls inj e).pair = s.pair ∧ (State.faultTrigger s k cls inj e).storeGen = s.storeGen := by simp [State.markRecord_frame _ _ _, State.trigger_frame _ _ _ _ _ _, KeepsHost, KeepsUnits, State.faultTrigger]
theorem State.numberCapture_frame (s : State) (at_ : Nat) (seq : Word) : KeepsHost (State.numberCapture s at_ seq) s ∧ KeepsUnits (State.numberCapture s at_ seq) s ∧ (State.numberCapture s at_ seq).recd = s.recd ∧ (State.numberCapture s at_ seq).wheels = s.wheels ∧ (State.numberCapture s at_ seq).flt = s.flt ∧ (State.numberCapture s at_ seq).chans = s.chans ∧ (State.numberCapture s at_ seq).rings = s.rings ∧ (State.numberCapture s at_ seq).pair = s.pair ∧ (State.numberCapture s at_ seq).storeGen = s.storeGen := by
  unfold State.numberCapture; (repeat' split) <;> simp [State.writeHeader_frame _ _ _, KeepsHost, KeepsUnits]
/-! ## Faults -/
theorem State.sendSafe_frame (s : State) (mask : BitVec 16) : KeepsHost (State.sendSafe s mask) s ∧ KeepsUnits (State.sendSafe s mask) s ∧ (State.sendSafe s mask).recd = s.recd ∧ (State.sendSafe s mask).wheels = s.wheels ∧ (State.sendSafe s mask).flt = s.flt ∧ (State.sendSafe s mask).chans = s.chans ∧ (State.sendSafe s mask).rpl = s.rpl ∧ (State.sendSafe s mask).pair = s.pair ∧ (State.sendSafe s mask).cells = s.cells ∧ (State.sendSafe s mask).storeGen = s.storeGen := by simp [KeepsHost, KeepsUnits, State.sendSafe]
theorem State.react_frame (s : State) (k : Fin 256) (react : Nat) : KeepsHost (State.react s k react) s ∧ KeepsUnits (State.react s k react) s ∧ (State.react s k react).wheels = s.wheels ∧ (State.react s k react).flt = s.flt ∧ (State.react s k react).chans = s.chans ∧ (State.react s k react).rpl = s.rpl ∧ (State.react s k react).cells = s.cells ∧ (State.react s k react).storeGen = s.storeGen := by simp [State.roleRelease_frame _, State.sendSafe_frame _ _, KeepsHost, KeepsUnits, State.react]
@[simp] theorem State.react_cells (s : State) (k : Fin 256) (react : Nat) : (State.react s k react).cells = s.cells := by simp [State.react_frame _ _ _]
theorem State.faultEntry_frame (s : State) (k : Fin 256) (cls : Nat) (raised : Bool) (inj : Bool) (tick : Nat) : KeepsHost (State.faultEntry s k cls raised inj tick) s ∧ KeepsUnits (State.faultEntry s k cls raised inj tick) s ∧ (State.faultEntry s k cls raised inj tick).recd = s.recd ∧ (State.faultEntry s k cls raised inj tick).flt = s.flt ∧ (State.faultEntry s k cls raised inj tick).chans = s.chans ∧ (State.faultEntry s k cls raised inj tick).rings = s.rings ∧ (State.faultEntry s k cls raised inj tick).rpl = s.rpl ∧ (State.faultEntry s k cls raised inj tick).pair = s.pair ∧ (State.faultEntry s k cls raised inj tick).cells = s.cells ∧ (State.faultEntry s k cls raised inj tick).storeGen = s.storeGen := by simp [State.storeWhere_frame _ _ _ _, KeepsHost, KeepsUnits, State.faultEntry]
@[simp] theorem State.faultEntry_cells (s : State) (k : Fin 256) (cls : Nat) (raised : Bool) (inj : Bool) (tick : Nat) : (State.faultEntry s k cls raised inj tick).cells = s.cells := by simp [State.faultEntry_frame _ _ _ _ _ _]
theorem State.faultRecord_frame (s : State) (k : Fin 256) (cls : Nat) (transient : Bool) (inj : Bool) (p1 : Word) (p2 : Word) : KeepsHost (State.faultRecord s k cls transient inj p1 p2) s ∧ KeepsUnits (State.faultRecord s k cls transient inj p1 p2) s ∧ (State.faultRecord s k cls transient inj p1 p2).wheels = s.wheels ∧ (State.faultRecord s k cls transient inj p1 p2).flt = s.flt ∧ (State.faultRecord s k cls transient inj p1 p2).chans = s.chans ∧ (State.faultRecord s k cls transient inj p1 p2).rings = s.rings ∧ (State.faultRecord s k cls transient inj p1 p2).rpl = s.rpl ∧ (State.faultRecord s k cls transient inj p1 p2).pair = s.pair ∧ (State.faultRecord s k cls transient inj p1 p2).cells = s.cells ∧ (State.faultRecord s k cls transient inj p1 p2).storeGen = s.storeGen := by simp [State.report_frame _ _ _ _ _ _, KeepsHost, KeepsUnits, State.faultRecord]
@[simp] theorem State.faultRecord_cells (s : State) (k : Fin 256) (cls : Nat) (transient : Bool) (inj : Bool) (p1 : Word) (p2 : Word) : (State.faultRecord s k cls transient inj p1 p2).cells = s.cells := by simp [State.faultRecord_frame _ _ _ _ _ _ _]
theorem State.noteRaise_frame (s : State) (r : Raising) (cls : Nat) (react : Nat) (tick : Nat) : KeepsHost (State.noteRaise s r cls react tick) s ∧ KeepsUnits (State.noteRaise s r cls react tick) s ∧ (State.noteRaise s r cls react tick).recd = s.recd ∧ (State.noteRaise s r cls react tick).wheels = s.wheels ∧ (State.noteRaise s r cls react tick).chans = s.chans ∧ (State.noteRaise s r cls react tick).rings = s.rings ∧ (State.noteRaise s r cls react tick).rpl = s.rpl ∧ (State.noteRaise s r cls react tick).pair = s.pair ∧ (State.noteRaise s r cls react tick).cells = s.cells ∧ (State.noteRaise s r cls react tick).storeGen = s.storeGen := by simp [KeepsHost, KeepsUnits, State.noteRaise]
@[simp] theorem State.noteRaise_cells (s : State) (r : Raising) (cls : Nat) (react : Nat) (tick : Nat) : (State.noteRaise s r cls react tick).cells = s.cells := by simp [State.noteRaise_frame _ _ _ _ _]
theorem State.raiseCore_frame (s : State) (r : Raising) (tick : Nat) : KeepsHost (State.raiseCore s r tick) s ∧ KeepsUnits (State.raiseCore s r tick) s ∧ (State.raiseCore s r tick).chans = s.chans ∧ (State.raiseCore s r tick).storeGen = s.storeGen := by simp [State.faultEntry_frame _ _ _ _ _ _, State.faultRecord_frame _ _ _ _ _ _ _, State.faultTrigger_frame _ _ _ _ _, State.noteRaise_frame _ _ _ _ _, State.react_frame _ _ _, KeepsHost, KeepsUnits, State.raiseCore]
theorem State.checkLoss_frame (before : State) (s : State) : KeepsHost (State.checkLoss before s) s ∧ KeepsUnits (State.checkLoss before s) s ∧ (State.checkLoss before s).chans = s.chans ∧ (State.checkLoss before s).storeGen = s.storeGen := by simp [State.raiseCore_frame _ _ _, KeepsHost, KeepsUnits, State.checkLoss]
theorem State.autoReleaseOn_frame (s : State) (n : Fin 16) : KeepsHost (State.autoReleaseOn s n) s ∧ KeepsUnits (State.autoReleaseOn s n) s ∧ (State.autoReleaseOn s n).recd = s.recd ∧ (State.autoReleaseOn s n).wheels = s.wheels ∧ (State.autoReleaseOn s n).chans = s.chans ∧ (State.autoReleaseOn s n).rpl = s.rpl ∧ (State.autoReleaseOn s n).pair = s.pair ∧ (State.autoReleaseOn s n).cells = s.cells ∧ (State.autoReleaseOn s n).storeGen = s.storeGen := by simp [State.sendRing_frame _ _ _, KeepsHost, KeepsUnits, State.autoReleaseOn]
theorem State.autoRelease_frame (s : State) (k : Fin 256) (mask : BitVec 16) : KeepsHost (State.autoRelease s k mask) s ∧ KeepsUnits (State.autoRelease s k mask) s ∧ (State.autoRelease s k mask).recd = s.recd ∧ (State.autoRelease s k mask).wheels = s.wheels ∧ (State.autoRelease s k mask).chans = s.chans ∧ (State.autoRelease s k mask).rpl = s.rpl ∧ (State.autoRelease s k mask).pair = s.pair ∧ (State.autoRelease s k mask).cells = s.cells ∧ (State.autoRelease s k mask).storeGen = s.storeGen := by simp [State.autoReleaseOn_frame _ _, KeepsHost, KeepsUnits, State.autoRelease]
@[simp] theorem State.autoRelease_cells (s : State) (k : Fin 256) (mask : BitVec 16) : (State.autoRelease s k mask).cells = s.cells := by simp [State.autoRelease_frame _ _ _]
theorem State.raiseAt_frame (s : State) (r : Raising) (tick : Nat) : KeepsHost (State.raiseAt s r tick) s ∧ KeepsUnits (State.raiseAt s r tick) s ∧ (State.raiseAt s r tick).chans = s.chans ∧ (State.raiseAt s r tick).storeGen = s.storeGen := by simp [State.autoRelease_frame _ _ _, State.checkLoss_frame _ _, State.raiseCore_frame _ _ _, KeepsHost, KeepsUnits, State.raiseAt]
theorem State.raise_frame (s : State) (r : Raising) : KeepsHost (State.raise s r) s ∧ KeepsUnits (State.raise s r) s ∧ (State.raise s r).chans = s.chans ∧ (State.raise s r).storeGen = s.storeGen := by simp [State.raiseAt_frame _ _ _, KeepsHost, KeepsUnits, State.raise]
theorem State.raiseHost_frame (s : State) (h : Fin 31) : KeepsHost (State.raiseHost s h) s ∧ KeepsUnits (State.raiseHost s h) s ∧ (State.raiseHost s h).chans = s.chans ∧ (State.raiseHost s h).storeGen = s.storeGen := by simp [State.raise_frame _ _, KeepsHost, KeepsUnits, State.raiseHost]
theorem State.raiseLive_frame (s : State) (k : Fin 256) (p2 : optParam Word 0#32) : KeepsHost (State.raiseLive s k p2) s ∧ KeepsUnits (State.raiseLive s k p2) s ∧ (State.raiseLive s k p2).chans = s.chans ∧ (State.raiseLive s k p2).storeGen = s.storeGen := by simp [State.raise_frame _ _, KeepsHost, KeepsUnits, State.raiseLive]
theorem State.clearCauseAt_frame (s : State) (k : Fin 256) (m : Nat) (inj : Bool) (tick : Nat) (late : Bool) : KeepsHost (State.clearCauseAt s k m inj tick late) s ∧ KeepsUnits (State.clearCauseAt s k m inj tick late) s ∧ (State.clearCauseAt s k m inj tick late).chans = s.chans ∧ (State.clearCauseAt s k m inj tick late).storeGen = s.storeGen := by simp [State.autoRelease_frame _ _ _, State.checkLoss_frame _ _, State.faultEntry_frame _ _ _ _ _ _, State.faultRecord_frame _ _ _ _ _ _ _, KeepsHost, KeepsUnits, State.clearCauseAt]
theorem State.clearCause_frame (s : State) (k : Fin 256) (m : Nat) (inj : Bool) : KeepsHost (State.clearCause s k m inj) s ∧ KeepsUnits (State.clearCause s k m inj) s ∧ (State.clearCause s k m inj).chans = s.chans ∧ (State.clearCause s k m inj).storeGen = s.storeGen := by simp [State.clearCauseAt_frame _ _ _ _ _ _, KeepsHost, KeepsUnits, State.clearCause]
theorem State.clearLive_frame (s : State) (k : Fin 256) : KeepsHost (State.clearLive s k) s ∧ KeepsUnits (State.clearLive s k) s ∧ (State.clearLive s k).chans = s.chans ∧ (State.clearLive s k).storeGen = s.storeGen := by simp [State.clearCause_frame _ _ _ _, KeepsHost, KeepsUnits, State.clearLive]
theorem State.follow_frame (s : State) (k : Fin 256) (live : Bool) : KeepsHost (State.follow s k live) s ∧ KeepsUnits (State.follow s k live) s ∧ (State.follow s k live).chans = s.chans ∧ (State.follow s k live).storeGen = s.storeGen := by simp [State.clearLive_frame _ _, State.raiseLive_frame _ _ _, KeepsHost, KeepsUnits, State.follow]
theorem State.settleLoss_frame (s : State) : KeepsHost (State.settleLoss s) s ∧ KeepsUnits (State.settleLoss s) s ∧ (State.settleLoss s).chans = s.chans ∧ (State.settleLoss s).storeGen = s.storeGen := by simp [State.clearLive_frame _ _, KeepsHost, KeepsUnits, State.settleLoss]
theorem State.fallBehind_frame (s : State) (t : Fin 8) : KeepsHost (State.fallBehind s t) s ∧ (State.fallBehind s t).svc = s.svc ∧ (State.fallBehind s t).img = s.img ∧ (State.fallBehind s t).fab = s.fab ∧ (State.fallBehind s t).adcs = s.adcs ∧ (State.fallBehind s t).filt = s.filt ∧ (State.fallBehind s t).chks = s.chks ∧ (State.fallBehind s t).chkTurn = s.chkTurn ∧ (State.fallBehind s t).pwr = s.pwr ∧ (State.fallBehind s t).freeCtr = s.freeCtr ∧ (State.fallBehind s t).chans = s.chans ∧ (State.fallBehind s t).storeGen = s.storeGen := by simp [State.raiseLive_frame _ _ _, KeepsHost, KeepsUnits, State.fallBehind]
theorem State.caughtUp_frame (s : State) (t : Fin 8) : KeepsHost (State.caughtUp s t) s ∧ (State.caughtUp s t).svc = s.svc ∧ (State.caughtUp s t).img = s.img ∧ (State.caughtUp s t).fab = s.fab ∧ (State.caughtUp s t).adcs = s.adcs ∧ (State.caughtUp s t).filt = s.filt ∧ (State.caughtUp s t).chks = s.chks ∧ (State.caughtUp s t).chkTurn = s.chkTurn ∧ (State.caughtUp s t).pwr = s.pwr ∧ (State.caughtUp s t).freeCtr = s.freeCtr ∧ (State.caughtUp s t).chans = s.chans ∧ (State.caughtUp s t).storeGen = s.storeGen := by simp [State.clearLive_frame _ _, KeepsHost, KeepsUnits, State.caughtUp]
theorem State.judgeWear_frame (s : State) : KeepsHost (State.judgeWear s) s ∧ KeepsUnits (State.judgeWear s) s ∧ (State.judgeWear s).chans = s.chans ∧ (State.judgeWear s).storeGen = s.storeGen := by simp [State.follow_frame _ _ _, KeepsHost, KeepsUnits, State.judgeWear]
theorem State.setWear_frame (s : State) (w : Wear) : KeepsHost (State.setWear s w) s ∧ (State.setWear s w).svc = s.svc ∧ (State.setWear s w).img = s.img ∧ (State.setWear s w).fab = s.fab ∧ (State.setWear s w).adcs = s.adcs ∧ (State.setWear s w).filt = s.filt ∧ (State.setWear s w).chks = s.chks ∧ (State.setWear s w).chkTurn = s.chkTurn ∧ (State.setWear s w).pwr = s.pwr ∧ (State.setWear s w).freeCtr = s.freeCtr ∧ (State.setWear s w).chans = s.chans ∧ (State.setWear s w).storeGen = s.storeGen := by
  unfold State.setWear; dsimp only; (repeat' split) <;> simp [State.judgeWear_frame _, KeepsHost, KeepsUnits]
theorem State.eraseSectors_frame (s : State) (lo : Nat) (n : Nat) : KeepsHost (State.eraseSectors s lo n) s ∧ (State.eraseSectors s lo n).svc = s.svc ∧ (State.eraseSectors s lo n).img = s.img ∧ (State.eraseSectors s lo n).fab = s.fab ∧ (State.eraseSectors s lo n).adcs = s.adcs ∧ (State.eraseSectors s lo n).filt = s.filt ∧ (State.eraseSectors s lo n).chks = s.chks ∧ (State.eraseSectors s lo n).chkTurn = s.chkTurn ∧ (State.eraseSectors s lo n).pwr = s.pwr ∧ (State.eraseSectors s lo n).freeCtr = s.freeCtr ∧ (State.eraseSectors s lo n).chans = s.chans ∧ (State.eraseSectors s lo n).storeGen = s.storeGen := by simp [State.setWear_frame _ _, KeepsHost, KeepsUnits, State.eraseSectors]
theorem State.appendLog_frame (s : State) (n : Nat) : KeepsHost (State.appendLog s n) s ∧ (State.appendLog s n).svc = s.svc ∧ (State.appendLog s n).img = s.img ∧ (State.appendLog s n).fab = s.fab ∧ (State.appendLog s n).adcs = s.adcs ∧ (State.appendLog s n).filt = s.filt ∧ (State.appendLog s n).chks = s.chks ∧ (State.appendLog s n).chkTurn = s.chkTurn ∧ (State.appendLog s n).pwr = s.pwr ∧ (State.appendLog s n).freeCtr = s.freeCtr ∧ (State.appendLog s n).chans = s.chans ∧ (State.appendLog s n).storeGen = s.storeGen := by simp [State.appendLog, State.setWear_frame _ _, State.calibChanged_frame _, State.eraseSectors_frame _ _ _, KeepsHost, KeepsUnits]
theorem State.eraseRecords_frame (s : State) (lo : Nat) (n : Nat) : KeepsHost (State.eraseRecords s lo n) s ∧ (State.eraseRecords s lo n).svc = s.svc ∧ (State.eraseRecords s lo n).img = s.img ∧ (State.eraseRecords s lo n).fab = s.fab ∧ (State.eraseRecords s lo n).adcs = s.adcs ∧ (State.eraseRecords s lo n).filt = s.filt ∧ (State.eraseRecords s lo n).chks = s.chks ∧ (State.eraseRecords s lo n).chkTurn = s.chkTurn ∧ (State.eraseRecords s lo n).pwr = s.pwr ∧ (State.eraseRecords s lo n).freeCtr = s.freeCtr ∧ (State.eraseRecords s lo n).chans = s.chans := by simp [State.eraseRecords, State.eraseSectors_frame _ _ _, State.storeChanged_frame _, KeepsHost, KeepsUnits]
theorem State.toWheels_frame (s : State) (n : Fin 16) (kind : Nat) (flags : Nat) (tick : Nat) (value : Word) : KeepsHost (State.toWheels s n kind flags tick value) s ∧ KeepsUnits (State.toWheels s n kind flags tick value) s ∧ (State.toWheels s n kind flags tick value).chans = s.chans ∧ (State.toWheels s n kind flags tick value).storeGen = s.storeGen := by simp [State.checkLoss_frame _ _, State.storeWhere_frame _ _ _ _, KeepsHost, KeepsUnits, State.toWheels]
theorem State.refuseFull_frame (s : State) : KeepsHost (State.refuseFull s) s ∧ KeepsUnits (State.refuseFull s) s ∧ (State.refuseFull s).wheels = s.wheels ∧ (State.refuseFull s).flt = s.flt ∧ (State.refuseFull s).chans = s.chans ∧ (State.refuseFull s).rings = s.rings ∧ (State.refuseFull s).rpl = s.rpl ∧ (State.refuseFull s).pair = s.pair ∧ (State.refuseFull s).cells = s.cells ∧ (State.refuseFull s).storeGen = s.storeGen := by simp [KeepsHost, KeepsUnits, State.refuseFull]
@[simp] theorem State.refuseFull_cells (s : State) : (State.refuseFull s).cells = s.cells := by simp [State.refuseFull_frame _]
theorem State.journal_frame (s : State) (code : Nat) (origin : Origin) (p1 : Word) (p2 : Word) : KeepsHost (State.journal s code origin p1 p2) s ∧ KeepsUnits (State.journal s code origin p1 p2) s ∧ (State.journal s code origin p1 p2).chans = s.chans := by simp [State.appendJournal_frame _ _ _ _ _, State.raiseLive_frame _ _ _, KeepsHost, KeepsUnits, State.journal]
theorem State.programOldest_frame (s : State) : KeepsHost (State.programOldest s) s ∧ (State.programOldest s).svc = s.svc ∧ (State.programOldest s).img = s.img ∧ (State.programOldest s).fab = s.fab ∧ (State.programOldest s).adcs = s.adcs ∧ (State.programOldest s).filt = s.filt ∧ (State.programOldest s).chks = s.chks ∧ (State.programOldest s).chkTurn = s.chkTurn ∧ (State.programOldest s).pwr = s.pwr ∧ (State.programOldest s).freeCtr = s.freeCtr ∧ (State.programOldest s).chans = s.chans := by
  unfold State.programOldest; dsimp only; (repeat' split) <;> simp [State.keepIdle_frame _, State.appendLog_frame _ _, State.numberCapture_frame _ _ _, KeepsHost, KeepsUnits]
theorem State.recordWritten_frame (s : State) : KeepsHost (State.recordWritten s) s ∧ (State.recordWritten s).svc = s.svc ∧ (State.recordWritten s).img = s.img ∧ (State.recordWritten s).fab = s.fab ∧ (State.recordWritten s).adcs = s.adcs ∧ (State.recordWritten s).filt = s.filt ∧ (State.recordWritten s).chks = s.chks ∧ (State.recordWritten s).chkTurn = s.chkTurn ∧ (State.recordWritten s).pwr = s.pwr ∧ (State.recordWritten s).freeCtr = s.freeCtr ∧ (State.recordWritten s).chans = s.chans := by simp [State.recordWritten, State.programOldest_frame _, State.raiseLive_frame _ _ _, State.raise_frame _ _, KeepsHost, KeepsUnits]
theorem State.linkDiscard_frame (s : State) (x : RingId) : KeepsHost (State.linkDiscard s x) s ∧ KeepsUnits (State.linkDiscard s x) s ∧ (State.linkDiscard s x).chans = s.chans ∧ (State.linkDiscard s x).storeGen = s.storeGen := by simp [State.raiseLive_frame _ _ _, KeepsHost, KeepsUnits, State.linkDiscard]
theorem State.ringDiscard_frame (s : State) (x : RingId) : KeepsHost (State.ringDiscard s x) s ∧ KeepsUnits (State.ringDiscard s x) s ∧ (State.ringDiscard s x).chans = s.chans ∧ (State.ringDiscard s x).storeGen = s.storeGen := by simp [State.raiseLive_frame _ _ _, KeepsHost, KeepsUnits, State.ringDiscard]
theorem State.lostReports_frame (s : State) (x : RingId) (n : Nat) : KeepsHost (State.lostReports s x n) s ∧ KeepsUnits (State.lostReports s x n) s ∧ (State.lostReports s x n).chans = s.chans ∧ (State.lostReports s x n).storeGen = s.storeGen := by simp [State.raise_frame _ _, KeepsHost, KeepsUnits, State.lostReports]
theorem State.ringReport_frame (s : State) (x : RingId) (k : Fin 256) (m : Nat) (raise : Bool) (detail : Word) : KeepsHost (State.ringReport s x k m raise detail) s ∧ KeepsUnits (State.ringReport s x k m raise detail) s ∧ (State.ringReport s x k m raise detail).recd = s.recd ∧ (State.ringReport s x k m raise detail).wheels = s.wheels ∧ (State.ringReport s x k m raise detail).flt = s.flt ∧ (State.ringReport s x k m raise detail).chans = s.chans ∧ (State.ringReport s x k m raise detail).rpl = s.rpl ∧ (State.ringReport s x k m raise detail).pair = s.pair ∧ (State.ringReport s x k m raise detail).cells = s.cells ∧ (State.ringReport s x k m raise detail).storeGen = s.storeGen := by simp [KeepsHost, KeepsUnits, State.ringReport]
@[simp] theorem State.ringReport_cells (s : State) (x : RingId) (k : Fin 256) (m : Nat) (raise : Bool) (detail : Word) : (State.ringReport s x k m raise detail).cells = s.cells := by simp [State.ringReport_frame _ _ _ _ _ _]
theorem State.diagRaise_frame (s : State) (n : Fin 16) (m : Nat) (detail : optParam Word 0#32) : KeepsHost (State.diagRaise s n m detail) s ∧ KeepsUnits (State.diagRaise s n m detail) s ∧ (State.diagRaise s n m detail).recd = s.recd ∧ (State.diagRaise s n m detail).wheels = s.wheels ∧ (State.diagRaise s n m detail).flt = s.flt ∧ (State.diagRaise s n m detail).rpl = s.rpl ∧ (State.diagRaise s n m detail).pair = s.pair ∧ (State.diagRaise s n m detail).cells = s.cells ∧ (State.diagRaise s n m detail).storeGen = s.storeGen := by simp [State.ringReport_frame _ _ _ _ _ _, KeepsHost, KeepsUnits, State.diagRaise]
@[simp] theorem State.diagRaise_cells (s : State) (n : Fin 16) (m : Nat) (detail : optParam Word 0#32) : (State.diagRaise s n m detail).cells = s.cells := by simp [State.diagRaise_frame _ _ _ _]
theorem State.diagClear_frame (s : State) (n : Fin 16) (m : Nat) : KeepsHost (State.diagClear s n m) s ∧ KeepsUnits (State.diagClear s n m) s ∧ (State.diagClear s n m).recd = s.recd ∧ (State.diagClear s n m).wheels = s.wheels ∧ (State.diagClear s n m).flt = s.flt ∧ (State.diagClear s n m).rpl = s.rpl ∧ (State.diagClear s n m).pair = s.pair ∧ (State.diagClear s n m).cells = s.cells ∧ (State.diagClear s n m).storeGen = s.storeGen := by simp [State.ringReport_frame _ _ _ _ _ _, KeepsHost, KeepsUnits, State.diagClear]
@[simp] theorem State.diagClear_cells (s : State) (n : Fin 16) (m : Nat) : (State.diagClear s n m).cells = s.cells := by simp [State.diagClear_frame _ _ _]
theorem State.diagFollow_frame (s : State) (n : Fin 16) (m : Nat) (live : Bool) : KeepsHost (State.diagFollow s n m live) s ∧ KeepsUnits (State.diagFollow s n m live) s ∧ (State.diagFollow s n m live).recd = s.recd ∧ (State.diagFollow s n m live).wheels = s.wheels ∧ (State.diagFollow s n m live).flt = s.flt ∧ (State.diagFollow s n m live).rpl = s.rpl ∧ (State.diagFollow s n m live).pair = s.pair ∧ (State.diagFollow s n m live).cells = s.cells ∧ (State.diagFollow s n m live).storeGen = s.storeGen := by simp [State.diagClear_frame _ _ _, State.diagRaise_frame _ _ _ _, KeepsHost, KeepsUnits, State.diagFollow]
@[simp] theorem State.diagFollow_cells (s : State) (n : Fin 16) (m : Nat) (live : Bool) : (State.diagFollow s n m live).cells = s.cells := by simp [State.diagFollow_frame _ _ _ _]
theorem State.diagClearAll_frame (s : State) (n : Fin 16) (ms : List Nat) : KeepsHost (State.diagClearAll s n ms) s ∧ KeepsUnits (State.diagClearAll s n ms) s ∧ (State.diagClearAll s n ms).recd = s.recd ∧ (State.diagClearAll s n ms).wheels = s.wheels ∧ (State.diagClearAll s n ms).flt = s.flt ∧ (State.diagClearAll s n ms).rpl = s.rpl ∧ (State.diagClearAll s n ms).pair = s.pair ∧ (State.diagClearAll s n ms).cells = s.cells ∧ (State.diagClearAll s n ms).storeGen = s.storeGen := by simp [State.diagClear_frame _ _ _, KeepsHost, KeepsUnits, State.diagClearAll]
@[simp] theorem State.diagClearAll_cells (s : State) (n : Fin 16) (ms : List Nat) : (State.diagClearAll s n ms).cells = s.cells := by simp [State.diagClearAll_frame _ _ _]
/-! ## Latch -/
theorem State.sendUp_frame (s : State) (x : RingId) (m : UpMsg) : KeepsHost (State.sendUp s x m) s ∧ KeepsUnits (State.sendUp s x m) s ∧ (State.sendUp s x m).recd = s.recd ∧ (State.sendUp s x m).wheels = s.wheels ∧ (State.sendUp s x m).flt = s.flt ∧ (State.sendUp s x m).chans = s.chans ∧ (State.sendUp s x m).rpl = s.rpl ∧ (State.sendUp s x m).pair = s.pair ∧ (State.sendUp s x m).cells = s.cells ∧ (State.sendUp s x m).storeGen = s.storeGen := by simp [KeepsHost, KeepsUnits, State.sendUp]
theorem State.sendChange_frame (s : State) (n : Fin 16) (state : Bool) (initial : Bool) (value : Word) : KeepsHost (State.sendChange s n state initial value) s ∧ KeepsUnits (State.sendChange s n state initial value) s ∧ (State.sendChange s n state initial value).recd = s.recd ∧ (State.sendChange s n state initial value).wheels = s.wheels ∧ (State.sendChange s n state initial value).flt = s.flt ∧ (State.sendChange s n state initial value).chans = s.chans ∧ (State.sendChange s n state initial value).rpl = s.rpl ∧ (State.sendChange s n state initial value).pair = s.pair ∧ (State.sendChange s n state initial value).cells = s.cells ∧ (State.sendChange s n state initial value).storeGen = s.storeGen := by simp [State.sendUp_frame _ _ _, KeepsHost, KeepsUnits, State.sendChange]
@[simp] theorem State.sendChange_cells (s : State) (n : Fin 16) (state : Bool) (initial : Bool) (value : Word) : (State.sendChange s n state initial value).cells = s.cells := by simp [State.sendChange_frame _ _ _ _ _]
theorem State.setMirror_frame (s : State) (x : RingId) (causes : List (BitVec 16)) (set : List Bool) : KeepsHost (State.setMirror s x causes set) s ∧ KeepsUnits (State.setMirror s x causes set) s ∧ (State.setMirror s x causes set).recd = s.recd ∧ (State.setMirror s x causes set).wheels = s.wheels ∧ (State.setMirror s x causes set).chans = s.chans ∧ (State.setMirror s x causes set).rings = s.rings ∧ (State.setMirror s x causes set).rpl = s.rpl ∧ (State.setMirror s x causes set).pair = s.pair ∧ (State.setMirror s x causes set).cells = s.cells ∧ (State.setMirror s x causes set).storeGen = s.storeGen := by simp [KeepsHost, KeepsUnits, State.setMirror]
theorem State.mirrorNow_frame (s : State) (n : Fin 16) : KeepsHost (State.mirrorNow s n) s ∧ KeepsUnits (State.mirrorNow s n) s ∧ (State.mirrorNow s n).recd = s.recd ∧ (State.mirrorNow s n).wheels = s.wheels ∧ (State.mirrorNow s n).chans = s.chans ∧ (State.mirrorNow s n).rings = s.rings ∧ (State.mirrorNow s n).rpl = s.rpl ∧ (State.mirrorNow s n).pair = s.pair ∧ (State.mirrorNow s n).cells = s.cells ∧ (State.mirrorNow s n).storeGen = s.storeGen := by simp [KeepsHost, KeepsUnits, State.mirrorNow]
theorem State.tellLatches_frame (s : State) (x : RingId) : KeepsHost (State.tellLatches s x) s ∧ KeepsUnits (State.tellLatches s x) s ∧ (State.tellLatches s x).recd = s.recd ∧ (State.tellLatches s x).wheels = s.wheels ∧ (State.tellLatches s x).flt = s.flt ∧ (State.tellLatches s x).chans = s.chans ∧ (State.tellLatches s x).rpl = s.rpl ∧ (State.tellLatches s x).pair = s.pair ∧ (State.tellLatches s x).cells = s.cells ∧ (State.tellLatches s x).storeGen = s.storeGen := by simp [State.sendUp_frame _ _ _, KeepsHost, KeepsUnits, State.tellLatches]
@[simp] theorem State.tellLatches_cells (s : State) (x : RingId) : (State.tellLatches s x).cells = s.cells := by simp [State.tellLatches_frame _ _]
theorem State.refreshTarget_frame (s : State) (n : Fin 16) : KeepsHost (State.refreshTarget s n) s ∧ KeepsUnits (State.refreshTarget s n) s ∧ (State.refreshTarget s n).recd = s.recd ∧ (State.refreshTarget s n).wheels = s.wheels ∧ (State.refreshTarget s n).flt = s.flt ∧ (State.refreshTarget s n).rings = s.rings ∧ (State.refreshTarget s n).rpl = s.rpl ∧ (State.refreshTarget s n).pair = s.pair ∧ (State.refreshTarget s n).cells = s.cells ∧ (State.refreshTarget s n).storeGen = s.storeGen := by simp [KeepsHost, KeepsUnits, State.refreshTarget]
@[simp] theorem State.refreshTarget_cells (s : State) (n : Fin 16) : (State.refreshTarget s n).cells = s.cells := by simp [State.refreshTarget_frame _ _]
theorem State.followGang_frame (s : State) (n : Fin 16) : KeepsHost (State.followGang s n) s ∧ KeepsUnits (State.followGang s n) s ∧ (State.followGang s n).recd = s.recd ∧ (State.followGang s n).wheels = s.wheels ∧ (State.followGang s n).flt = s.flt ∧ (State.followGang s n).rings = s.rings ∧ (State.followGang s n).rpl = s.rpl ∧ (State.followGang s n).pair = s.pair ∧ (State.followGang s n).cells = s.cells ∧ (State.followGang s n).storeGen = s.storeGen := by simp [KeepsHost, KeepsUnits, State.followGang]
theorem State.stageFollows_frame (s : State) (n : Fin 16) (cause : Nat) : KeepsHost (State.stageFollows s n cause) s ∧ KeepsUnits (State.stageFollows s n cause) s ∧ (State.stageFollows s n cause).recd = s.recd ∧ (State.stageFollows s n cause).wheels = s.wheels ∧ (State.stageFollows s n cause).flt = s.flt ∧ (State.stageFollows s n cause).rpl = s.rpl ∧ (State.stageFollows s n cause).pair = s.pair ∧ (State.stageFollows s n cause).cells = s.cells ∧ (State.stageFollows s n cause).storeGen = s.storeGen := by simp [State.sendChange_frame _ _ _ _ _, KeepsHost, KeepsUnits, State.stageFollows]
theorem State.refreshStage_frame (s : State) (k : Fin 16) (cause : Nat) : KeepsHost (State.refreshStage s k cause) s ∧ KeepsUnits (State.refreshStage s k cause) s ∧ (State.refreshStage s k cause).recd = s.recd ∧ (State.refreshStage s k cause).wheels = s.wheels ∧ (State.refreshStage s k cause).flt = s.flt ∧ (State.refreshStage s k cause).rpl = s.rpl ∧ (State.refreshStage s k cause).pair = s.pair ∧ (State.refreshStage s k cause).cells = s.cells ∧ (State.refreshStage s k cause).storeGen = s.storeGen := by simp [State.followGang_frame _ _, State.refreshTarget_frame _ _, State.stageFollows_frame _ _ _, KeepsHost, KeepsUnits, State.refreshStage]
@[simp] theorem State.refreshStage_cells (s : State) (k : Fin 16) (cause : Nat) : (State.refreshStage s k cause).cells = s.cells := by simp [State.refreshStage_frame _ _ _]
theorem State.refreshRing_frame (s : State) (x : RingId) (cause : Nat) : KeepsHost (State.refreshRing s x cause) s ∧ KeepsUnits (State.refreshRing s x cause) s ∧ (State.refreshRing s x cause).recd = s.recd ∧ (State.refreshRing s x cause).wheels = s.wheels ∧ (State.refreshRing s x cause).flt = s.flt ∧ (State.refreshRing s x cause).rpl = s.rpl ∧ (State.refreshRing s x cause).pair = s.pair ∧ (State.refreshRing s x cause).cells = s.cells ∧ (State.refreshRing s x cause).storeGen = s.storeGen := by simp [State.refreshStage_frame _ _ _, KeepsHost, KeepsUnits, State.refreshRing]
@[simp] theorem State.refreshRing_cells (s : State) (x : RingId) (cause : Nat) : (State.refreshRing s x cause).cells = s.cells := by simp [State.refreshRing_frame _ _ _]
theorem State.refreshAll_frame (s : State) (cause : Nat) : KeepsHost (State.refreshAll s cause) s ∧ KeepsUnits (State.refreshAll s cause) s ∧ (State.refreshAll s cause).recd = s.recd ∧ (State.refreshAll s cause).wheels = s.wheels ∧ (State.refreshAll s cause).flt = s.flt ∧ (State.refreshAll s cause).rpl = s.rpl ∧ (State.refreshAll s cause).pair = s.pair ∧ (State.refreshAll s cause).cells = s.cells ∧ (State.refreshAll s cause).storeGen = s.storeGen := by simp [State.refreshStage_frame _ _ _, KeepsHost, KeepsUnits, State.refreshAll]
theorem State.tellRestart_frame (s : State) (n : Fin 16) : KeepsHost (State.tellRestart s n) s ∧ KeepsUnits (State.tellRestart s n) s ∧ (State.tellRestart s n).recd = s.recd ∧ (State.tellRestart s n).wheels = s.wheels ∧ (State.tellRestart s n).flt = s.flt ∧ (State.tellRestart s n).chans = s.chans ∧ (State.tellRestart s n).rpl = s.rpl ∧ (State.tellRestart s n).pair = s.pair ∧ (State.tellRestart s n).cells = s.cells ∧ (State.tellRestart s n).storeGen = s.storeGen := by simp [State.sendUp_frame _ _ _, KeepsHost, KeepsUnits, State.tellRestart]
theorem State.restartInput_frame (s : State) (n : Fin 16) : KeepsHost (State.restartInput s n) s ∧ KeepsUnits (State.restartInput s n) s ∧ (State.restartInput s n).recd = s.recd ∧ (State.restartInput s n).wheels = s.wheels ∧ (State.restartInput s n).flt = s.flt ∧ (State.restartInput s n).rpl = s.rpl ∧ (State.restartInput s n).pair = s.pair ∧ (State.restartInput s n).cells = s.cells ∧ (State.restartInput s n).storeGen = s.storeGen := by simp [State.tellRestart_frame _ _, KeepsHost, KeepsUnits, State.restartInput]
@[simp] theorem State.restartInput_cells (s : State) (n : Fin 16) : (State.restartInput s n).cells = s.cells := by simp [State.restartInput_frame _ _]
theorem State.tellTaps_frame (s : State) (x : RingId) : KeepsHost (State.tellTaps s x) s ∧ KeepsUnits (State.tellTaps s x) s ∧ (State.tellTaps s x).recd = s.recd ∧ (State.tellTaps s x).wheels = s.wheels ∧ (State.tellTaps s x).flt = s.flt ∧ (State.tellTaps s x).chans = s.chans ∧ (State.tellTaps s x).rpl = s.rpl ∧ (State.tellTaps s x).pair = s.pair ∧ (State.tellTaps s x).cells = s.cells ∧ (State.tellTaps s x).storeGen = s.storeGen := by simp [State.sendUp_frame _ _ _, KeepsHost, KeepsUnits, State.tellTaps]
@[simp] theorem State.tellTaps_cells (s : State) (x : RingId) : (State.tellTaps s x).cells = s.cells := by simp [State.tellTaps_frame _ _]
theorem State.fskStart_frame (s : State) (x : RingId) : KeepsHost (State.fskStart s x) s ∧ KeepsUnits (State.fskStart s x) s ∧ (State.fskStart s x).recd = s.recd ∧ (State.fskStart s x).wheels = s.wheels ∧ (State.fskStart s x).flt = s.flt ∧ (State.fskStart s x).chans = s.chans ∧ (State.fskStart s x).rpl = s.rpl ∧ (State.fskStart s x).pair = s.pair ∧ (State.fskStart s x).cells = s.cells ∧ (State.fskStart s x).storeGen = s.storeGen := by simp [KeepsHost, KeepsUnits, State.fskStart]
@[simp] theorem State.fskStart_cells (s : State) (x : RingId) : (State.fskStart s x).cells = s.cells := by simp [State.fskStart_frame _ _]
theorem State.latchSet_frame (s : State) (n : Fin 16) (causes : BitVec 16) : KeepsHost (State.latchSet s n causes) s ∧ KeepsUnits (State.latchSet s n causes) s ∧ (State.latchSet s n causes).recd = s.recd ∧ (State.latchSet s n causes).wheels = s.wheels ∧ (State.latchSet s n causes).flt = s.flt ∧ (State.latchSet s n causes).rpl = s.rpl ∧ (State.latchSet s n causes).pair = s.pair ∧ (State.latchSet s n causes).cells = s.cells ∧ (State.latchSet s n causes).storeGen = s.storeGen := by simp [State.diagClearAll_frame _ _ _, State.refreshStage_frame _ _ _, State.restartInput_frame _ _, KeepsHost, KeepsUnits, State.latchSet]
@[simp] theorem State.latchSet_cells (s : State) (n : Fin 16) (causes : BitVec 16) : (State.latchSet s n causes).cells = s.cells := by simp [State.latchSet_frame _ _ _]
theorem State.setCause_frame (s : State) (n : Fin 16) (causes : BitVec 16) : KeepsHost (State.setCause s n causes) s ∧ KeepsUnits (State.setCause s n causes) s ∧ (State.setCause s n causes).recd = s.recd ∧ (State.setCause s n causes).wheels = s.wheels ∧ (State.setCause s n causes).flt = s.flt ∧ (State.setCause s n causes).rpl = s.rpl ∧ (State.setCause s n causes).pair = s.pair ∧ (State.setCause s n causes).cells = s.cells ∧ (State.setCause s n causes).storeGen = s.storeGen := by
  unfold State.setCause; (repeat' split) <;> simp [State.latchSet_frame _ _ _, State.tellLatches_frame _ _, KeepsHost, KeepsUnits]
@[simp] theorem State.setCause_cells (s : State) (n : Fin 16) (causes : BitVec 16) : (State.setCause s n causes).cells = s.cells := by simp [State.setCause_frame _ _ _]
theorem State.setCauseRing_frame (s : State) (x : RingId) (causes : BitVec 16) : KeepsHost (State.setCauseRing s x causes) s ∧ KeepsUnits (State.setCauseRing s x causes) s ∧ (State.setCauseRing s x causes).recd = s.recd ∧ (State.setCauseRing s x causes).wheels = s.wheels ∧ (State.setCauseRing s x causes).flt = s.flt ∧ (State.setCauseRing s x causes).rpl = s.rpl ∧ (State.setCauseRing s x causes).pair = s.pair ∧ (State.setCauseRing s x causes).cells = s.cells ∧ (State.setCauseRing s x causes).storeGen = s.storeGen := by simp [State.latchSet_frame _ _ _, State.tellLatches_frame _ _, KeepsHost, KeepsUnits, State.setCauseRing]
theorem State.joinGang_frame (s : State) (n : Fin 16) : KeepsHost (State.joinGang s n) s ∧ KeepsUnits (State.joinGang s n) s ∧ (State.joinGang s n).recd = s.recd ∧ (State.joinGang s n).wheels = s.wheels ∧ (State.joinGang s n).flt = s.flt ∧ (State.joinGang s n).rpl = s.rpl ∧ (State.joinGang s n).pair = s.pair ∧ (State.joinGang s n).cells = s.cells ∧ (State.joinGang s n).storeGen = s.storeGen := by
  unfold State.joinGang; (repeat' split) <;> simp [State.setCause_frame _ _ _, KeepsHost, KeepsUnits]
@[simp] theorem State.joinGang_cells (s : State) (n : Fin 16) : (State.joinGang s n).cells = s.cells := by simp [State.joinGang_frame _ _]
theorem State.dropCauses_frame (s : State) (n : Fin 16) (causes : BitVec 16) : KeepsHost (State.dropCauses s n causes) s ∧ KeepsUnits (State.dropCauses s n causes) s ∧ (State.dropCauses s n causes).recd = s.recd ∧ (State.dropCauses s n causes).wheels = s.wheels ∧ (State.dropCauses s n causes).flt = s.flt ∧ (State.dropCauses s n causes).rpl = s.rpl ∧ (State.dropCauses s n causes).pair = s.pair ∧ (State.dropCauses s n causes).cells = s.cells ∧ (State.dropCauses s n causes).storeGen = s.storeGen := by
  unfold State.dropCauses; (repeat' split) <;> simp [State.tellLatches_frame _ _, KeepsHost, KeepsUnits]
@[simp] theorem State.dropCauses_cells (s : State) (n : Fin 16) (causes : BitVec 16) : (State.dropCauses s n causes).cells = s.cells := by simp [State.dropCauses_frame _ _ _]
theorem State.applyGuard_frame (s : State) (n : Fin 16) : KeepsHost (State.applyGuard s n) s ∧ KeepsUnits (State.applyGuard s n) s ∧ (State.applyGuard s n).recd = s.recd ∧ (State.applyGuard s n).wheels = s.wheels ∧ (State.applyGuard s n).flt = s.flt ∧ (State.applyGuard s n).rpl = s.rpl ∧ (State.applyGuard s n).pair = s.pair ∧ (State.applyGuard s n).cells = s.cells ∧ (State.applyGuard s n).storeGen = s.storeGen := by simp [State.setCause_frame _ _ _, KeepsHost, KeepsUnits, State.applyGuard]
@[simp] theorem State.applyGuard_cells (s : State) (n : Fin 16) : (State.applyGuard s n).cells = s.cells := by simp [State.applyGuard_frame _ _]
theorem State.applyGuards_frame (s : State) (x : RingId) : KeepsHost (State.applyGuards s x) s ∧ KeepsUnits (State.applyGuards s x) s ∧ (State.applyGuards s x).recd = s.recd ∧ (State.applyGuards s x).wheels = s.wheels ∧ (State.applyGuards s x).flt = s.flt ∧ (State.applyGuards s x).rpl = s.rpl ∧ (State.applyGuards s x).pair = s.pair ∧ (State.applyGuards s x).cells = s.cells ∧ (State.applyGuards s x).storeGen = s.storeGen := by simp [State.applyGuard_frame _ _, KeepsHost, KeepsUnits, State.applyGuards]
@[simp] theorem State.applyGuards_cells (s : State) (x : RingId) : (State.applyGuards s x).cells = s.cells := by simp [State.applyGuards_frame _ _]
theorem State.tellPlug_frame (s : State) (n : Fin 16) : KeepsHost (State.tellPlug s n) s ∧ KeepsUnits (State.tellPlug s n) s ∧ (State.tellPlug s n).recd = s.recd ∧ (State.tellPlug s n).wheels = s.wheels ∧ (State.tellPlug s n).flt = s.flt ∧ (State.tellPlug s n).chans = s.chans ∧ (State.tellPlug s n).rpl = s.rpl ∧ (State.tellPlug s n).pair = s.pair ∧ (State.tellPlug s n).cells = s.cells ∧ (State.tellPlug s n).storeGen = s.storeGen := by simp [State.sendUp_frame _ _ _, KeepsHost, KeepsUnits, State.tellPlug]
@[simp] theorem State.tellPlug_cells (s : State) (n : Fin 16) : (State.tellPlug s n).cells = s.cells := by simp [State.tellPlug_frame _ _]
theorem State.tellPlugs_frame (s : State) (x : RingId) : KeepsHost (State.tellPlugs s x) s ∧ KeepsUnits (State.tellPlugs s x) s ∧ (State.tellPlugs s x).recd = s.recd ∧ (State.tellPlugs s x).wheels = s.wheels ∧ (State.tellPlugs s x).flt = s.flt ∧ (State.tellPlugs s x).chans = s.chans ∧ (State.tellPlugs s x).rpl = s.rpl ∧ (State.tellPlugs s x).pair = s.pair ∧ (State.tellPlugs s x).cells = s.cells ∧ (State.tellPlugs s x).storeGen = s.storeGen := by simp [State.tellPlug_frame _ _, KeepsHost, KeepsUnits, State.tellPlugs]
theorem State.dropWaits_frame (s : State) (g : Fin 16) : KeepsHost (State.dropWaits s g) s ∧ KeepsUnits (State.dropWaits s g) s ∧ (State.dropWaits s g).recd = s.recd ∧ (State.dropWaits s g).wheels = s.wheels ∧ (State.dropWaits s g).flt = s.flt ∧ (State.dropWaits s g).rings = s.rings ∧ (State.dropWaits s g).rpl = s.rpl ∧ (State.dropWaits s g).pair = s.pair ∧ (State.dropWaits s g).cells = s.cells ∧ (State.dropWaits s g).storeGen = s.storeGen := by simp [KeepsHost, KeepsUnits, State.dropWaits]
@[simp] theorem State.dropWaits_cells (s : State) (g : Fin 16) : (State.dropWaits s g).cells = s.cells := by simp [State.dropWaits_frame _ _]
theorem State.countWaits_frame (s : State) (n : Fin 16) : KeepsHost (State.countWaits s n) s ∧ KeepsUnits (State.countWaits s n) s ∧ (State.countWaits s n).recd = s.recd ∧ (State.countWaits s n).wheels = s.wheels ∧ (State.countWaits s n).flt = s.flt ∧ (State.countWaits s n).rpl = s.rpl ∧ (State.countWaits s n).pair = s.pair ∧ (State.countWaits s n).cells = s.cells ∧ (State.countWaits s n).storeGen = s.storeGen := by simp [State.diagRaise_frame _ _ _ _, KeepsHost, KeepsUnits, State.countWaits]
theorem State.guardedDetect_frame (s : State) (n : Fin 16) (m : Nat) : KeepsHost (State.guardedDetect s n m) s ∧ KeepsUnits (State.guardedDetect s n m) s ∧ (State.guardedDetect s n m).recd = s.recd ∧ (State.guardedDetect s n m).wheels = s.wheels ∧ (State.guardedDetect s n m).flt = s.flt ∧ (State.guardedDetect s n m).rpl = s.rpl ∧ (State.guardedDetect s n m).pair = s.pair ∧ (State.guardedDetect s n m).cells = s.cells ∧ (State.guardedDetect s n m).storeGen = s.storeGen := by
  unfold State.guardedDetect; (repeat' split) <;> simp [State.diagRaise_frame _ _ _ _, KeepsHost, KeepsUnits]
@[simp] theorem State.guardedDetect_cells (s : State) (n : Fin 16) (m : Nat) : (State.guardedDetect s n m).cells = s.cells := by simp [State.guardedDetect_frame _ _ _]
theorem State.resetGuard_frame (s : State) (n : Fin 16) : KeepsHost (State.resetGuard s n) s ∧ KeepsUnits (State.resetGuard s n) s ∧ (State.resetGuard s n).recd = s.recd ∧ (State.resetGuard s n).wheels = s.wheels ∧ (State.resetGuard s n).flt = s.flt ∧ (State.resetGuard s n).rpl = s.rpl ∧ (State.resetGuard s n).pair = s.pair ∧ (State.resetGuard s n).cells = s.cells ∧ (State.resetGuard s n).storeGen = s.storeGen := by simp [State.applyGuard_frame _ _, State.diagClearAll_frame _ _ _, State.dropWaits_frame _ _, State.tellPlug_frame _ _, KeepsHost, KeepsUnits, State.resetGuard]
@[simp] theorem State.resetGuard_cells (s : State) (n : Fin 16) : (State.resetGuard s n).cells = s.cells := by simp [State.resetGuard_frame _ _]
theorem State.resetGuards_frame (s : State) (x : RingId) : KeepsHost (State.resetGuards s x) s ∧ KeepsUnits (State.resetGuards s x) s ∧ (State.resetGuards s x).recd = s.recd ∧ (State.resetGuards s x).wheels = s.wheels ∧ (State.resetGuards s x).flt = s.flt ∧ (State.resetGuards s x).rpl = s.rpl ∧ (State.resetGuards s x).pair = s.pair ∧ (State.resetGuards s x).cells = s.cells ∧ (State.resetGuards s x).storeGen = s.storeGen := by simp [State.applyGuards_frame _ _, State.resetGuard_frame _ _, KeepsHost, KeepsUnits, State.resetGuards]
@[simp] theorem State.resetGuards_cells (s : State) (x : RingId) : (State.resetGuards s x).cells = s.cells := by simp [State.resetGuards_frame _ _]
theorem State.unlatch_frame (s : State) (n : Fin 16) (cause : Nat) : KeepsHost (State.unlatch s n cause) s ∧ (State.unlatch s n cause).svc = s.svc ∧ (State.unlatch s n cause).img = s.img ∧ (State.unlatch s n cause).fab = s.fab ∧ (State.unlatch s n cause).adcs = s.adcs ∧ (State.unlatch s n cause).chks = s.chks ∧ (State.unlatch s n cause).chkTurn = s.chkTurn ∧ (State.unlatch s n cause).bg = s.bg ∧ (State.unlatch s n cause).pwr = s.pwr ∧ (State.unlatch s n cause).freeCtr = s.freeCtr ∧ (State.unlatch s n cause).recd = s.recd ∧ (State.unlatch s n cause).wheels = s.wheels ∧ (State.unlatch s n cause).flt = s.flt ∧ (State.unlatch s n cause).rpl = s.rpl ∧ (State.unlatch s n cause).pair = s.pair ∧ (State.unlatch s n cause).cells = s.cells ∧ (State.unlatch s n cause).storeGen = s.storeGen := by simp [State.diagClearAll_frame _ _ _, State.fskStart_frame _ _, State.refreshStage_frame _ _ _, State.resetGuard_frame _ _, State.restartChain_frame _ _, State.restartInput_frame _ _, State.tellLatches_frame _ _, KeepsHost, KeepsUnits, State.unlatch]
@[simp] theorem State.unlatch_cells (s : State) (n : Fin 16) (cause : Nat) : (State.unlatch s n cause).cells = s.cells := by simp [State.unlatch_frame _ _ _]
theorem State.clearAtOnce_frame (s : State) (n : Fin 16) (causes : BitVec 16) (cause : Nat) : KeepsHost (State.clearAtOnce s n causes cause) s ∧ (State.clearAtOnce s n causes cause).svc = s.svc ∧ (State.clearAtOnce s n causes cause).img = s.img ∧ (State.clearAtOnce s n causes cause).fab = s.fab ∧ (State.clearAtOnce s n causes cause).adcs = s.adcs ∧ (State.clearAtOnce s n causes cause).chks = s.chks ∧ (State.clearAtOnce s n causes cause).chkTurn = s.chkTurn ∧ (State.clearAtOnce s n causes cause).bg = s.bg ∧ (State.clearAtOnce s n causes cause).pwr = s.pwr ∧ (State.clearAtOnce s n causes cause).freeCtr = s.freeCtr ∧ (State.clearAtOnce s n causes cause).recd = s.recd ∧ (State.clearAtOnce s n causes cause).wheels = s.wheels ∧ (State.clearAtOnce s n causes cause).flt = s.flt ∧ (State.clearAtOnce s n causes cause).rpl = s.rpl ∧ (State.clearAtOnce s n causes cause).pair = s.pair ∧ (State.clearAtOnce s n causes cause).cells = s.cells ∧ (State.clearAtOnce s n causes cause).storeGen = s.storeGen := by
  unfold State.clearAtOnce; (repeat' split) <;> simp [State.dropCauses_frame _ _ _, State.unlatch_frame _ _ _, KeepsHost, KeepsUnits]
@[simp] theorem State.clearAtOnce_cells (s : State) (n : Fin 16) (causes : BitVec 16) (cause : Nat) : (State.clearAtOnce s n causes cause).cells = s.cells := by simp [State.clearAtOnce_frame _ _ _ _]
theorem State.rearmGuard_frame (s : State) (n : Fin 16) : KeepsHost (State.rearmGuard s n) s ∧ (State.rearmGuard s n).svc = s.svc ∧ (State.rearmGuard s n).img = s.img ∧ (State.rearmGuard s n).fab = s.fab ∧ (State.rearmGuard s n).adcs = s.adcs ∧ (State.rearmGuard s n).chks = s.chks ∧ (State.rearmGuard s n).chkTurn = s.chkTurn ∧ (State.rearmGuard s n).bg = s.bg ∧ (State.rearmGuard s n).pwr = s.pwr ∧ (State.rearmGuard s n).freeCtr = s.freeCtr ∧ (State.rearmGuard s n).wheels = s.wheels ∧ (State.rearmGuard s n).flt = s.flt ∧ (State.rearmGuard s n).rpl = s.rpl ∧ (State.rearmGuard s n).pair = s.pair ∧ (State.rearmGuard s n).cells = s.cells ∧ (State.rearmGuard s n).storeGen = s.storeGen := by simp [State.clearAtOnce_frame _ _ _ _, State.event_frame _ _ _ _ _ _, KeepsHost, KeepsUnits, State.rearmGuard]
theorem State.freeNamed_frame (s : State) (g : Fin 16) (before : Nat) : KeepsHost (State.freeNamed s g before) s ∧ (State.freeNamed s g before).svc = s.svc ∧ (State.freeNamed s g before).img = s.img ∧ (State.freeNamed s g before).fab = s.fab ∧ (State.freeNamed s g before).adcs = s.adcs ∧ (State.freeNamed s g before).chks = s.chks ∧ (State.freeNamed s g before).chkTurn = s.chkTurn ∧ (State.freeNamed s g before).bg = s.bg ∧ (State.freeNamed s g before).pwr = s.pwr ∧ (State.freeNamed s g before).freeCtr = s.freeCtr ∧ (State.freeNamed s g before).wheels = s.wheels ∧ (State.freeNamed s g before).flt = s.flt ∧ (State.freeNamed s g before).rpl = s.rpl ∧ (State.freeNamed s g before).pair = s.pair ∧ (State.freeNamed s g before).cells = s.cells ∧ (State.freeNamed s g before).storeGen = s.storeGen := by simp [State.rearmGuard_frame _ _, KeepsHost, KeepsUnits, State.freeNamed]
@[simp] theorem State.freeNamed_cells (s : State) (g : Fin 16) (before : Nat) : (State.freeNamed s g before).cells = s.cells := by simp [State.freeNamed_frame _ _ _]
/-! ## Reply -/
@[simp] theorem State.change_pending (s : State) (origin : Origin) (code : Nat) (p1 p2 : Word) (eff : State → State) (h : ∀ t, (eff t).pending = t.pending) : (State.change s origin code p1 p2 eff).1.pending = s.pending := by
  unfold State.change; first | (simp [State.journal_frame _ _ _ _ _, State.refuseFull_frame _, h]; done) | (simp (maxDischargeDepth := 8) [State.journal_frame _ _ _ _ _, State.refuseFull_frame _, h]; done) | (split <;> simp [State.journal_frame _ _ _ _ _, State.refuseFull_frame _, h])
@[simp] theorem State.change_clock (s : State) (origin : Origin) (code : Nat) (p1 p2 : Word) (eff : State → State) (h : ∀ t, (eff t).clock = t.clock) : (State.change s origin code p1 p2 eff).1.clock = s.clock := by
  unfold State.change; first | (simp [State.journal_frame _ _ _ _ _, State.refuseFull_frame _, h]; done) | (simp (maxDischargeDepth := 8) [State.journal_frame _ _ _ _ _, State.refuseFull_frame _, h]; done) | (split <;> simp [State.journal_frame _ _ _ _ _, State.refuseFull_frame _, h])
@[simp] theorem State.change_vio (s : State) (origin : Origin) (code : Nat) (p1 p2 : Word) (eff : State → State) (h : ∀ t, (eff t).vio = t.vio) : (State.change s origin code p1 p2 eff).1.vio = s.vio := by
  unfold State.change; first | (simp [State.journal_frame _ _ _ _ _, State.refuseFull_frame _, h]; done) | (simp (maxDischargeDepth := 8) [State.journal_frame _ _ _ _ _, State.refuseFull_frame _, h]; done) | (split <;> simp [State.journal_frame _ _ _ _ _, State.refuseFull_frame _, h])
@[simp] theorem State.change_phase (s : State) (origin : Origin) (code : Nat) (p1 p2 : Word) (eff : State → State) (h : ∀ t, (eff t).phase = t.phase) : (State.change s origin code p1 p2 eff).1.phase = s.phase := by
  unfold State.change; first | (simp [State.journal_frame _ _ _ _ _, State.refuseFull_frame _, h]; done) | (simp (maxDischargeDepth := 8) [State.journal_frame _ _ _ _ _, State.refuseFull_frame _, h]; done) | (split <;> simp [State.journal_frame _ _ _ _ _, State.refuseFull_frame _, h])
@[simp] theorem State.change_time (s : State) (origin : Origin) (code : Nat) (p1 p2 : Word) (eff : State → State) (h : ∀ t, (eff t).time = t.time) : (State.change s origin code p1 p2 eff).1.time = s.time := by
  unfold State.change; first | (simp [State.journal_frame _ _ _ _ _, State.refuseFull_frame _, h]; done) | (simp (maxDischargeDepth := 8) [State.journal_frame _ _ _ _ _, State.refuseFull_frame _, h]; done) | (split <;> simp [State.journal_frame _ _ _ _ _, State.refuseFull_frame _, h])
@[simp] theorem State.change_tickets (s : State) (origin : Origin) (code : Nat) (p1 p2 : Word) (eff : State → State) (h : ∀ t, (eff t).tickets = t.tickets) : (State.change s origin code p1 p2 eff).1.tickets = s.tickets := by
  unfold State.change; first | (simp [State.journal_frame _ _ _ _ _, State.refuseFull_frame _, h]; done) | (simp (maxDischargeDepth := 8) [State.journal_frame _ _ _ _ _, State.refuseFull_frame _, h]; done) | (split <;> simp [State.journal_frame _ _ _ _ _, State.refuseFull_frame _, h])
@[simp] theorem State.change_readyCount (s : State) (origin : Origin) (code : Nat) (p1 p2 : Word) (eff : State → State) (h : ∀ t, (eff t).readyCount = t.readyCount) : (State.change s origin code p1 p2 eff).1.readyCount = s.readyCount := by
  unfold State.change; first | (simp [State.journal_frame _ _ _ _ _, State.refuseFull_frame _, h]; done) | (simp (maxDischargeDepth := 8) [State.journal_frame _ _ _ _ _, State.refuseFull_frame _, h]; done) | (split <;> simp [State.journal_frame _ _ _ _ _, State.refuseFull_frame _, h])
@[simp] theorem State.change_ports (s : State) (origin : Origin) (code : Nat) (p1 p2 : Word) (eff : State → State) (h : ∀ t, (eff t).ports = t.ports) : (State.change s origin code p1 p2 eff).1.ports = s.ports := by
  unfold State.change; first | (simp [State.journal_frame _ _ _ _ _, State.refuseFull_frame _, h]; done) | (simp (maxDischargeDepth := 8) [State.journal_frame _ _ _ _ _, State.refuseFull_frame _, h]; done) | (split <;> simp [State.journal_frame _ _ _ _ _, State.refuseFull_frame _, h])
@[simp] theorem State.change_shadows (s : State) (origin : Origin) (code : Nat) (p1 p2 : Word) (eff : State → State) (h : ∀ t, (eff t).shadows = t.shadows) : (State.change s origin code p1 p2 eff).1.shadows = s.shadows := by
  unfold State.change; first | (simp [State.journal_frame _ _ _ _ _, State.refuseFull_frame _, h]; done) | (simp (maxDischargeDepth := 8) [State.journal_frame _ _ _ _ _, State.refuseFull_frame _, h]; done) | (split <;> simp [State.journal_frame _ _ _ _ _, State.refuseFull_frame _, h])
@[simp] theorem State.change_svc (s : State) (origin : Origin) (code : Nat) (p1 p2 : Word) (eff : State → State) (h : ∀ t, (eff t).svc = t.svc) : (State.change s origin code p1 p2 eff).1.svc = s.svc := by
  unfold State.change; first | (simp [State.journal_frame _ _ _ _ _, State.refuseFull_frame _, h]; done) | (simp (maxDischargeDepth := 8) [State.journal_frame _ _ _ _ _, State.refuseFull_frame _, h]; done) | (split <;> simp [State.journal_frame _ _ _ _ _, State.refuseFull_frame _, h])
@[simp] theorem State.change_img (s : State) (origin : Origin) (code : Nat) (p1 p2 : Word) (eff : State → State) (h : ∀ t, (eff t).img = t.img) : (State.change s origin code p1 p2 eff).1.img = s.img := by
  unfold State.change; first | (simp [State.journal_frame _ _ _ _ _, State.refuseFull_frame _, h]; done) | (simp (maxDischargeDepth := 8) [State.journal_frame _ _ _ _ _, State.refuseFull_frame _, h]; done) | (split <;> simp [State.journal_frame _ _ _ _ _, State.refuseFull_frame _, h])
@[simp] theorem State.change_fab (s : State) (origin : Origin) (code : Nat) (p1 p2 : Word) (eff : State → State) (h : ∀ t, (eff t).fab = t.fab) : (State.change s origin code p1 p2 eff).1.fab = s.fab := by
  unfold State.change; first | (simp [State.journal_frame _ _ _ _ _, State.refuseFull_frame _, h]; done) | (simp (maxDischargeDepth := 8) [State.journal_frame _ _ _ _ _, State.refuseFull_frame _, h]; done) | (split <;> simp [State.journal_frame _ _ _ _ _, State.refuseFull_frame _, h])
@[simp] theorem State.change_adcs (s : State) (origin : Origin) (code : Nat) (p1 p2 : Word) (eff : State → State) (h : ∀ t, (eff t).adcs = t.adcs) : (State.change s origin code p1 p2 eff).1.adcs = s.adcs := by
  unfold State.change; first | (simp [State.journal_frame _ _ _ _ _, State.refuseFull_frame _, h]; done) | (simp (maxDischargeDepth := 8) [State.journal_frame _ _ _ _ _, State.refuseFull_frame _, h]; done) | (split <;> simp [State.journal_frame _ _ _ _ _, State.refuseFull_frame _, h])
@[simp] theorem State.change_filt (s : State) (origin : Origin) (code : Nat) (p1 p2 : Word) (eff : State → State) (h : ∀ t, (eff t).filt = t.filt) : (State.change s origin code p1 p2 eff).1.filt = s.filt := by
  unfold State.change; first | (simp [State.journal_frame _ _ _ _ _, State.refuseFull_frame _, h]; done) | (simp (maxDischargeDepth := 8) [State.journal_frame _ _ _ _ _, State.refuseFull_frame _, h]; done) | (split <;> simp [State.journal_frame _ _ _ _ _, State.refuseFull_frame _, h])
@[simp] theorem State.change_chks (s : State) (origin : Origin) (code : Nat) (p1 p2 : Word) (eff : State → State) (h : ∀ t, (eff t).chks = t.chks) : (State.change s origin code p1 p2 eff).1.chks = s.chks := by
  unfold State.change; first | (simp [State.journal_frame _ _ _ _ _, State.refuseFull_frame _, h]; done) | (simp (maxDischargeDepth := 8) [State.journal_frame _ _ _ _ _, State.refuseFull_frame _, h]; done) | (split <;> simp [State.journal_frame _ _ _ _ _, State.refuseFull_frame _, h])
@[simp] theorem State.change_chkTurn (s : State) (origin : Origin) (code : Nat) (p1 p2 : Word) (eff : State → State) (h : ∀ t, (eff t).chkTurn = t.chkTurn) : (State.change s origin code p1 p2 eff).1.chkTurn = s.chkTurn := by
  unfold State.change; first | (simp [State.journal_frame _ _ _ _ _, State.refuseFull_frame _, h]; done) | (simp (maxDischargeDepth := 8) [State.journal_frame _ _ _ _ _, State.refuseFull_frame _, h]; done) | (split <;> simp [State.journal_frame _ _ _ _ _, State.refuseFull_frame _, h])
@[simp] theorem State.change_bg (s : State) (origin : Origin) (code : Nat) (p1 p2 : Word) (eff : State → State) (h : ∀ t, (eff t).bg = t.bg) : (State.change s origin code p1 p2 eff).1.bg = s.bg := by
  unfold State.change; first | (simp [State.journal_frame _ _ _ _ _, State.refuseFull_frame _, h]; done) | (simp (maxDischargeDepth := 8) [State.journal_frame _ _ _ _ _, State.refuseFull_frame _, h]; done) | (split <;> simp [State.journal_frame _ _ _ _ _, State.refuseFull_frame _, h])
@[simp] theorem State.change_pwr (s : State) (origin : Origin) (code : Nat) (p1 p2 : Word) (eff : State → State) (h : ∀ t, (eff t).pwr = t.pwr) : (State.change s origin code p1 p2 eff).1.pwr = s.pwr := by
  unfold State.change; first | (simp [State.journal_frame _ _ _ _ _, State.refuseFull_frame _, h]; done) | (simp (maxDischargeDepth := 8) [State.journal_frame _ _ _ _ _, State.refuseFull_frame _, h]; done) | (split <;> simp [State.journal_frame _ _ _ _ _, State.refuseFull_frame _, h])
@[simp] theorem State.change_freeCtr (s : State) (origin : Origin) (code : Nat) (p1 p2 : Word) (eff : State → State) (h : ∀ t, (eff t).freeCtr = t.freeCtr) : (State.change s origin code p1 p2 eff).1.freeCtr = s.freeCtr := by
  unfold State.change; first | (simp [State.journal_frame _ _ _ _ _, State.refuseFull_frame _, h]; done) | (simp (maxDischargeDepth := 8) [State.journal_frame _ _ _ _ _, State.refuseFull_frame _, h]; done) | (split <;> simp [State.journal_frame _ _ _ _ _, State.refuseFull_frame _, h])
@[simp] theorem State.changeWrite_pending (s : State) (origin : Origin) (r : Reg) (w : Word) (eff : State → State) (h : ∀ t, (eff t).pending = t.pending) : (State.changeWrite s origin r w eff).1.pending = s.pending := by
  unfold State.changeWrite; first | (simp [h]; done) | (simp (maxDischargeDepth := 8) [h]; done) | (split <;> simp [h])
@[simp] theorem State.changeWrite_clock (s : State) (origin : Origin) (r : Reg) (w : Word) (eff : State → State) (h : ∀ t, (eff t).clock = t.clock) : (State.changeWrite s origin r w eff).1.clock = s.clock := by
  unfold State.changeWrite; first | (simp [h]; done) | (simp (maxDischargeDepth := 8) [h]; done) | (split <;> simp [h])
@[simp] theorem State.changeWrite_vio (s : State) (origin : Origin) (r : Reg) (w : Word) (eff : State → State) (h : ∀ t, (eff t).vio = t.vio) : (State.changeWrite s origin r w eff).1.vio = s.vio := by
  unfold State.changeWrite; first | (simp [h]; done) | (simp (maxDischargeDepth := 8) [h]; done) | (split <;> simp [h])
@[simp] theorem State.changeWrite_phase (s : State) (origin : Origin) (r : Reg) (w : Word) (eff : State → State) (h : ∀ t, (eff t).phase = t.phase) : (State.changeWrite s origin r w eff).1.phase = s.phase := by
  unfold State.changeWrite; first | (simp [h]; done) | (simp (maxDischargeDepth := 8) [h]; done) | (split <;> simp [h])
@[simp] theorem State.changeWrite_time (s : State) (origin : Origin) (r : Reg) (w : Word) (eff : State → State) (h : ∀ t, (eff t).time = t.time) : (State.changeWrite s origin r w eff).1.time = s.time := by
  unfold State.changeWrite; first | (simp [h]; done) | (simp (maxDischargeDepth := 8) [h]; done) | (split <;> simp [h])
@[simp] theorem State.changeWrite_tickets (s : State) (origin : Origin) (r : Reg) (w : Word) (eff : State → State) (h : ∀ t, (eff t).tickets = t.tickets) : (State.changeWrite s origin r w eff).1.tickets = s.tickets := by
  unfold State.changeWrite; first | (simp [h]; done) | (simp (maxDischargeDepth := 8) [h]; done) | (split <;> simp [h])
@[simp] theorem State.changeWrite_readyCount (s : State) (origin : Origin) (r : Reg) (w : Word) (eff : State → State) (h : ∀ t, (eff t).readyCount = t.readyCount) : (State.changeWrite s origin r w eff).1.readyCount = s.readyCount := by
  unfold State.changeWrite; first | (simp [h]; done) | (simp (maxDischargeDepth := 8) [h]; done) | (split <;> simp [h])
@[simp] theorem State.changeWrite_ports (s : State) (origin : Origin) (r : Reg) (w : Word) (eff : State → State) (h : ∀ t, (eff t).ports = t.ports) : (State.changeWrite s origin r w eff).1.ports = s.ports := by
  unfold State.changeWrite; first | (simp [h]; done) | (simp (maxDischargeDepth := 8) [h]; done) | (split <;> simp [h])
@[simp] theorem State.changeWrite_shadows (s : State) (origin : Origin) (r : Reg) (w : Word) (eff : State → State) (h : ∀ t, (eff t).shadows = t.shadows) : (State.changeWrite s origin r w eff).1.shadows = s.shadows := by
  unfold State.changeWrite; first | (simp [h]; done) | (simp (maxDischargeDepth := 8) [h]; done) | (split <;> simp [h])
@[simp] theorem State.changeWrite_svc (s : State) (origin : Origin) (r : Reg) (w : Word) (eff : State → State) (h : ∀ t, (eff t).svc = t.svc) : (State.changeWrite s origin r w eff).1.svc = s.svc := by
  unfold State.changeWrite; first | (simp [h]; done) | (simp (maxDischargeDepth := 8) [h]; done) | (split <;> simp [h])
@[simp] theorem State.changeWrite_img (s : State) (origin : Origin) (r : Reg) (w : Word) (eff : State → State) (h : ∀ t, (eff t).img = t.img) : (State.changeWrite s origin r w eff).1.img = s.img := by
  unfold State.changeWrite; first | (simp [h]; done) | (simp (maxDischargeDepth := 8) [h]; done) | (split <;> simp [h])
@[simp] theorem State.changeWrite_fab (s : State) (origin : Origin) (r : Reg) (w : Word) (eff : State → State) (h : ∀ t, (eff t).fab = t.fab) : (State.changeWrite s origin r w eff).1.fab = s.fab := by
  unfold State.changeWrite; first | (simp [h]; done) | (simp (maxDischargeDepth := 8) [h]; done) | (split <;> simp [h])
@[simp] theorem State.changeWrite_adcs (s : State) (origin : Origin) (r : Reg) (w : Word) (eff : State → State) (h : ∀ t, (eff t).adcs = t.adcs) : (State.changeWrite s origin r w eff).1.adcs = s.adcs := by
  unfold State.changeWrite; first | (simp [h]; done) | (simp (maxDischargeDepth := 8) [h]; done) | (split <;> simp [h])
@[simp] theorem State.changeWrite_filt (s : State) (origin : Origin) (r : Reg) (w : Word) (eff : State → State) (h : ∀ t, (eff t).filt = t.filt) : (State.changeWrite s origin r w eff).1.filt = s.filt := by
  unfold State.changeWrite; first | (simp [h]; done) | (simp (maxDischargeDepth := 8) [h]; done) | (split <;> simp [h])
@[simp] theorem State.changeWrite_chks (s : State) (origin : Origin) (r : Reg) (w : Word) (eff : State → State) (h : ∀ t, (eff t).chks = t.chks) : (State.changeWrite s origin r w eff).1.chks = s.chks := by
  unfold State.changeWrite; first | (simp [h]; done) | (simp (maxDischargeDepth := 8) [h]; done) | (split <;> simp [h])
@[simp] theorem State.changeWrite_chkTurn (s : State) (origin : Origin) (r : Reg) (w : Word) (eff : State → State) (h : ∀ t, (eff t).chkTurn = t.chkTurn) : (State.changeWrite s origin r w eff).1.chkTurn = s.chkTurn := by
  unfold State.changeWrite; first | (simp [h]; done) | (simp (maxDischargeDepth := 8) [h]; done) | (split <;> simp [h])
@[simp] theorem State.changeWrite_bg (s : State) (origin : Origin) (r : Reg) (w : Word) (eff : State → State) (h : ∀ t, (eff t).bg = t.bg) : (State.changeWrite s origin r w eff).1.bg = s.bg := by
  unfold State.changeWrite; first | (simp [h]; done) | (simp (maxDischargeDepth := 8) [h]; done) | (split <;> simp [h])
@[simp] theorem State.changeWrite_pwr (s : State) (origin : Origin) (r : Reg) (w : Word) (eff : State → State) (h : ∀ t, (eff t).pwr = t.pwr) : (State.changeWrite s origin r w eff).1.pwr = s.pwr := by
  unfold State.changeWrite; first | (simp [h]; done) | (simp (maxDischargeDepth := 8) [h]; done) | (split <;> simp [h])
@[simp] theorem State.changeWrite_freeCtr (s : State) (origin : Origin) (r : Reg) (w : Word) (eff : State → State) (h : ∀ t, (eff t).freeCtr = t.freeCtr) : (State.changeWrite s origin r w eff).1.freeCtr = s.freeCtr := by
  unfold State.changeWrite; first | (simp [h]; done) | (simp (maxDischargeDepth := 8) [h]; done) | (split <;> simp [h])
@[simp] theorem guarded_pending (s : State) (checks : List (Option Reply)) (act : State × Reply) (h : (act.1).pending = s.pending) : (guarded s checks act).1.pending = s.pending := by
  unfold guarded; split <;> simp [h]
@[simp] theorem guarded_clock (s : State) (checks : List (Option Reply)) (act : State × Reply) (h : (act.1).clock = s.clock) : (guarded s checks act).1.clock = s.clock := by
  unfold guarded; split <;> simp [h]
@[simp] theorem guarded_vio (s : State) (checks : List (Option Reply)) (act : State × Reply) (h : (act.1).vio = s.vio) : (guarded s checks act).1.vio = s.vio := by
  unfold guarded; split <;> simp [h]
@[simp] theorem guarded_phase (s : State) (checks : List (Option Reply)) (act : State × Reply) (h : (act.1).phase = s.phase) : (guarded s checks act).1.phase = s.phase := by
  unfold guarded; split <;> simp [h]
@[simp] theorem guarded_time (s : State) (checks : List (Option Reply)) (act : State × Reply) (h : (act.1).time = s.time) : (guarded s checks act).1.time = s.time := by
  unfold guarded; split <;> simp [h]
@[simp] theorem guarded_tickets (s : State) (checks : List (Option Reply)) (act : State × Reply) (h : (act.1).tickets = s.tickets) : (guarded s checks act).1.tickets = s.tickets := by
  unfold guarded; split <;> simp [h]
@[simp] theorem guarded_readyCount (s : State) (checks : List (Option Reply)) (act : State × Reply) (h : (act.1).readyCount = s.readyCount) : (guarded s checks act).1.readyCount = s.readyCount := by
  unfold guarded; split <;> simp [h]
@[simp] theorem guarded_ports (s : State) (checks : List (Option Reply)) (act : State × Reply) (h : (act.1).ports = s.ports) : (guarded s checks act).1.ports = s.ports := by
  unfold guarded; split <;> simp [h]
@[simp] theorem guarded_shadows (s : State) (checks : List (Option Reply)) (act : State × Reply) (h : (act.1).shadows = s.shadows) : (guarded s checks act).1.shadows = s.shadows := by
  unfold guarded; split <;> simp [h]
@[simp] theorem guarded_svc (s : State) (checks : List (Option Reply)) (act : State × Reply) (h : (act.1).svc = s.svc) : (guarded s checks act).1.svc = s.svc := by
  unfold guarded; split <;> simp [h]
@[simp] theorem guarded_img (s : State) (checks : List (Option Reply)) (act : State × Reply) (h : (act.1).img = s.img) : (guarded s checks act).1.img = s.img := by
  unfold guarded; split <;> simp [h]
@[simp] theorem guarded_fab (s : State) (checks : List (Option Reply)) (act : State × Reply) (h : (act.1).fab = s.fab) : (guarded s checks act).1.fab = s.fab := by
  unfold guarded; split <;> simp [h]
@[simp] theorem guarded_adcs (s : State) (checks : List (Option Reply)) (act : State × Reply) (h : (act.1).adcs = s.adcs) : (guarded s checks act).1.adcs = s.adcs := by
  unfold guarded; split <;> simp [h]
@[simp] theorem guarded_filt (s : State) (checks : List (Option Reply)) (act : State × Reply) (h : (act.1).filt = s.filt) : (guarded s checks act).1.filt = s.filt := by
  unfold guarded; split <;> simp [h]
@[simp] theorem guarded_chks (s : State) (checks : List (Option Reply)) (act : State × Reply) (h : (act.1).chks = s.chks) : (guarded s checks act).1.chks = s.chks := by
  unfold guarded; split <;> simp [h]
@[simp] theorem guarded_chkTurn (s : State) (checks : List (Option Reply)) (act : State × Reply) (h : (act.1).chkTurn = s.chkTurn) : (guarded s checks act).1.chkTurn = s.chkTurn := by
  unfold guarded; split <;> simp [h]
@[simp] theorem guarded_storeGen (s : State) (checks : List (Option Reply)) (act : State × Reply) (h : (act.1).storeGen = s.storeGen) : (guarded s checks act).1.storeGen = s.storeGen := by
  unfold guarded; split <;> simp [h]
@[simp] theorem guarded_bg (s : State) (checks : List (Option Reply)) (act : State × Reply) (h : (act.1).bg = s.bg) : (guarded s checks act).1.bg = s.bg := by
  unfold guarded; split <;> simp [h]
@[simp] theorem guarded_pwr (s : State) (checks : List (Option Reply)) (act : State × Reply) (h : (act.1).pwr = s.pwr) : (guarded s checks act).1.pwr = s.pwr := by
  unfold guarded; split <;> simp [h]
@[simp] theorem guarded_freeCtr (s : State) (checks : List (Option Reply)) (act : State × Reply) (h : (act.1).freeCtr = s.freeCtr) : (guarded s checks act).1.freeCtr = s.freeCtr := by
  unfold guarded; split <;> simp [h]
@[simp] theorem guarded_recd (s : State) (checks : List (Option Reply)) (act : State × Reply) (h : (act.1).recd = s.recd) : (guarded s checks act).1.recd = s.recd := by
  unfold guarded; split <;> simp [h]
@[simp] theorem guarded_wheels (s : State) (checks : List (Option Reply)) (act : State × Reply) (h : (act.1).wheels = s.wheels) : (guarded s checks act).1.wheels = s.wheels := by
  unfold guarded; split <;> simp [h]
@[simp] theorem guarded_flt (s : State) (checks : List (Option Reply)) (act : State × Reply) (h : (act.1).flt = s.flt) : (guarded s checks act).1.flt = s.flt := by
  unfold guarded; split <;> simp [h]
@[simp] theorem guarded_chans (s : State) (checks : List (Option Reply)) (act : State × Reply) (h : (act.1).chans = s.chans) : (guarded s checks act).1.chans = s.chans := by
  unfold guarded; split <;> simp [h]
@[simp] theorem guarded_rings (s : State) (checks : List (Option Reply)) (act : State × Reply) (h : (act.1).rings = s.rings) : (guarded s checks act).1.rings = s.rings := by
  unfold guarded; split <;> simp [h]
@[simp] theorem guarded_rpl (s : State) (checks : List (Option Reply)) (act : State × Reply) (h : (act.1).rpl = s.rpl) : (guarded s checks act).1.rpl = s.rpl := by
  unfold guarded; split <;> simp [h]
@[simp] theorem guarded_pair (s : State) (checks : List (Option Reply)) (act : State × Reply) (h : (act.1).pair = s.pair) : (guarded s checks act).1.pair = s.pair := by
  unfold guarded; split <;> simp [h]
@[simp] theorem guarded_cells (s : State) (checks : List (Option Reply)) (act : State × Reply) (h : (act.1).cells = s.cells) : (guarded s checks act).1.cells = s.cells := by
  unfold guarded; split <;> simp [h]
@[simp] theorem State.statusClear_pending (s : State) (origin : Origin) (r : Reg) (cleared : Word) (eff : State → State) (h : ∀ t, (eff t).pending = t.pending) : (State.statusClear s origin r cleared eff).1.pending = s.pending := by
  unfold State.statusClear; first | (simp [State.event_frame _ _ _ _ _ _, h]; done) | (simp (maxDischargeDepth := 8) [State.event_frame _ _ _ _ _ _, h]; done) | (split <;> simp [State.event_frame _ _ _ _ _ _, h])
@[simp] theorem State.statusClear_clock (s : State) (origin : Origin) (r : Reg) (cleared : Word) (eff : State → State) (h : ∀ t, (eff t).clock = t.clock) : (State.statusClear s origin r cleared eff).1.clock = s.clock := by
  unfold State.statusClear; first | (simp [State.event_frame _ _ _ _ _ _, h]; done) | (simp (maxDischargeDepth := 8) [State.event_frame _ _ _ _ _ _, h]; done) | (split <;> simp [State.event_frame _ _ _ _ _ _, h])
@[simp] theorem State.statusClear_vio (s : State) (origin : Origin) (r : Reg) (cleared : Word) (eff : State → State) (h : ∀ t, (eff t).vio = t.vio) : (State.statusClear s origin r cleared eff).1.vio = s.vio := by
  unfold State.statusClear; first | (simp [State.event_frame _ _ _ _ _ _, h]; done) | (simp (maxDischargeDepth := 8) [State.event_frame _ _ _ _ _ _, h]; done) | (split <;> simp [State.event_frame _ _ _ _ _ _, h])
@[simp] theorem State.statusClear_phase (s : State) (origin : Origin) (r : Reg) (cleared : Word) (eff : State → State) (h : ∀ t, (eff t).phase = t.phase) : (State.statusClear s origin r cleared eff).1.phase = s.phase := by
  unfold State.statusClear; first | (simp [State.event_frame _ _ _ _ _ _, h]; done) | (simp (maxDischargeDepth := 8) [State.event_frame _ _ _ _ _ _, h]; done) | (split <;> simp [State.event_frame _ _ _ _ _ _, h])
@[simp] theorem State.statusClear_time (s : State) (origin : Origin) (r : Reg) (cleared : Word) (eff : State → State) (h : ∀ t, (eff t).time = t.time) : (State.statusClear s origin r cleared eff).1.time = s.time := by
  unfold State.statusClear; first | (simp [State.event_frame _ _ _ _ _ _, h]; done) | (simp (maxDischargeDepth := 8) [State.event_frame _ _ _ _ _ _, h]; done) | (split <;> simp [State.event_frame _ _ _ _ _ _, h])
@[simp] theorem State.statusClear_tickets (s : State) (origin : Origin) (r : Reg) (cleared : Word) (eff : State → State) (h : ∀ t, (eff t).tickets = t.tickets) : (State.statusClear s origin r cleared eff).1.tickets = s.tickets := by
  unfold State.statusClear; first | (simp [State.event_frame _ _ _ _ _ _, h]; done) | (simp (maxDischargeDepth := 8) [State.event_frame _ _ _ _ _ _, h]; done) | (split <;> simp [State.event_frame _ _ _ _ _ _, h])
@[simp] theorem State.statusClear_readyCount (s : State) (origin : Origin) (r : Reg) (cleared : Word) (eff : State → State) (h : ∀ t, (eff t).readyCount = t.readyCount) : (State.statusClear s origin r cleared eff).1.readyCount = s.readyCount := by
  unfold State.statusClear; first | (simp [State.event_frame _ _ _ _ _ _, h]; done) | (simp (maxDischargeDepth := 8) [State.event_frame _ _ _ _ _ _, h]; done) | (split <;> simp [State.event_frame _ _ _ _ _ _, h])
@[simp] theorem State.statusClear_ports (s : State) (origin : Origin) (r : Reg) (cleared : Word) (eff : State → State) (h : ∀ t, (eff t).ports = t.ports) : (State.statusClear s origin r cleared eff).1.ports = s.ports := by
  unfold State.statusClear; first | (simp [State.event_frame _ _ _ _ _ _, h]; done) | (simp (maxDischargeDepth := 8) [State.event_frame _ _ _ _ _ _, h]; done) | (split <;> simp [State.event_frame _ _ _ _ _ _, h])
@[simp] theorem State.statusClear_shadows (s : State) (origin : Origin) (r : Reg) (cleared : Word) (eff : State → State) (h : ∀ t, (eff t).shadows = t.shadows) : (State.statusClear s origin r cleared eff).1.shadows = s.shadows := by
  unfold State.statusClear; first | (simp [State.event_frame _ _ _ _ _ _, h]; done) | (simp (maxDischargeDepth := 8) [State.event_frame _ _ _ _ _ _, h]; done) | (split <;> simp [State.event_frame _ _ _ _ _ _, h])
@[simp] theorem State.statusClear_svc (s : State) (origin : Origin) (r : Reg) (cleared : Word) (eff : State → State) (h : ∀ t, (eff t).svc = t.svc) : (State.statusClear s origin r cleared eff).1.svc = s.svc := by
  unfold State.statusClear; first | (simp [State.event_frame _ _ _ _ _ _, h]; done) | (simp (maxDischargeDepth := 8) [State.event_frame _ _ _ _ _ _, h]; done) | (split <;> simp [State.event_frame _ _ _ _ _ _, h])
@[simp] theorem State.statusClear_img (s : State) (origin : Origin) (r : Reg) (cleared : Word) (eff : State → State) (h : ∀ t, (eff t).img = t.img) : (State.statusClear s origin r cleared eff).1.img = s.img := by
  unfold State.statusClear; first | (simp [State.event_frame _ _ _ _ _ _, h]; done) | (simp (maxDischargeDepth := 8) [State.event_frame _ _ _ _ _ _, h]; done) | (split <;> simp [State.event_frame _ _ _ _ _ _, h])
@[simp] theorem State.statusClear_fab (s : State) (origin : Origin) (r : Reg) (cleared : Word) (eff : State → State) (h : ∀ t, (eff t).fab = t.fab) : (State.statusClear s origin r cleared eff).1.fab = s.fab := by
  unfold State.statusClear; first | (simp [State.event_frame _ _ _ _ _ _, h]; done) | (simp (maxDischargeDepth := 8) [State.event_frame _ _ _ _ _ _, h]; done) | (split <;> simp [State.event_frame _ _ _ _ _ _, h])
@[simp] theorem State.statusClear_adcs (s : State) (origin : Origin) (r : Reg) (cleared : Word) (eff : State → State) (h : ∀ t, (eff t).adcs = t.adcs) : (State.statusClear s origin r cleared eff).1.adcs = s.adcs := by
  unfold State.statusClear; first | (simp [State.event_frame _ _ _ _ _ _, h]; done) | (simp (maxDischargeDepth := 8) [State.event_frame _ _ _ _ _ _, h]; done) | (split <;> simp [State.event_frame _ _ _ _ _ _, h])
@[simp] theorem State.statusClear_filt (s : State) (origin : Origin) (r : Reg) (cleared : Word) (eff : State → State) (h : ∀ t, (eff t).filt = t.filt) : (State.statusClear s origin r cleared eff).1.filt = s.filt := by
  unfold State.statusClear; first | (simp [State.event_frame _ _ _ _ _ _, h]; done) | (simp (maxDischargeDepth := 8) [State.event_frame _ _ _ _ _ _, h]; done) | (split <;> simp [State.event_frame _ _ _ _ _ _, h])
@[simp] theorem State.statusClear_chks (s : State) (origin : Origin) (r : Reg) (cleared : Word) (eff : State → State) (h : ∀ t, (eff t).chks = t.chks) : (State.statusClear s origin r cleared eff).1.chks = s.chks := by
  unfold State.statusClear; first | (simp [State.event_frame _ _ _ _ _ _, h]; done) | (simp (maxDischargeDepth := 8) [State.event_frame _ _ _ _ _ _, h]; done) | (split <;> simp [State.event_frame _ _ _ _ _ _, h])
@[simp] theorem State.statusClear_chkTurn (s : State) (origin : Origin) (r : Reg) (cleared : Word) (eff : State → State) (h : ∀ t, (eff t).chkTurn = t.chkTurn) : (State.statusClear s origin r cleared eff).1.chkTurn = s.chkTurn := by
  unfold State.statusClear; first | (simp [State.event_frame _ _ _ _ _ _, h]; done) | (simp (maxDischargeDepth := 8) [State.event_frame _ _ _ _ _ _, h]; done) | (split <;> simp [State.event_frame _ _ _ _ _ _, h])
@[simp] theorem State.statusClear_bg (s : State) (origin : Origin) (r : Reg) (cleared : Word) (eff : State → State) (h : ∀ t, (eff t).bg = t.bg) : (State.statusClear s origin r cleared eff).1.bg = s.bg := by
  unfold State.statusClear; first | (simp [State.event_frame _ _ _ _ _ _, h]; done) | (simp (maxDischargeDepth := 8) [State.event_frame _ _ _ _ _ _, h]; done) | (split <;> simp [State.event_frame _ _ _ _ _ _, h])
@[simp] theorem State.statusClear_pwr (s : State) (origin : Origin) (r : Reg) (cleared : Word) (eff : State → State) (h : ∀ t, (eff t).pwr = t.pwr) : (State.statusClear s origin r cleared eff).1.pwr = s.pwr := by
  unfold State.statusClear; first | (simp [State.event_frame _ _ _ _ _ _, h]; done) | (simp (maxDischargeDepth := 8) [State.event_frame _ _ _ _ _ _, h]; done) | (split <;> simp [State.event_frame _ _ _ _ _ _, h])
@[simp] theorem State.statusClear_freeCtr (s : State) (origin : Origin) (r : Reg) (cleared : Word) (eff : State → State) (h : ∀ t, (eff t).freeCtr = t.freeCtr) : (State.statusClear s origin r cleared eff).1.freeCtr = s.freeCtr := by
  unfold State.statusClear; first | (simp [State.event_frame _ _ _ _ _ _, h]; done) | (simp (maxDischargeDepth := 8) [State.event_frame _ _ _ _ _ _, h]; done) | (split <;> simp [State.event_frame _ _ _ _ _ _, h])
@[simp] theorem State.statusClear_wheels (s : State) (origin : Origin) (r : Reg) (cleared : Word) (eff : State → State) (h : ∀ t, (eff t).wheels = t.wheels) : (State.statusClear s origin r cleared eff).1.wheels = s.wheels := by
  unfold State.statusClear; first | (simp [State.event_frame _ _ _ _ _ _, h]; done) | (simp (maxDischargeDepth := 8) [State.event_frame _ _ _ _ _ _, h]; done) | (split <;> simp [State.event_frame _ _ _ _ _ _, h])
@[simp] theorem State.statusClear_flt (s : State) (origin : Origin) (r : Reg) (cleared : Word) (eff : State → State) (h : ∀ t, (eff t).flt = t.flt) : (State.statusClear s origin r cleared eff).1.flt = s.flt := by
  unfold State.statusClear; first | (simp [State.event_frame _ _ _ _ _ _, h]; done) | (simp (maxDischargeDepth := 8) [State.event_frame _ _ _ _ _ _, h]; done) | (split <;> simp [State.event_frame _ _ _ _ _ _, h])
@[simp] theorem State.statusClear_chans (s : State) (origin : Origin) (r : Reg) (cleared : Word) (eff : State → State) (h : ∀ t, (eff t).chans = t.chans) : (State.statusClear s origin r cleared eff).1.chans = s.chans := by
  unfold State.statusClear; first | (simp [State.event_frame _ _ _ _ _ _, h]; done) | (simp (maxDischargeDepth := 8) [State.event_frame _ _ _ _ _ _, h]; done) | (split <;> simp [State.event_frame _ _ _ _ _ _, h])
@[simp] theorem State.statusClear_rings (s : State) (origin : Origin) (r : Reg) (cleared : Word) (eff : State → State) (h : ∀ t, (eff t).rings = t.rings) : (State.statusClear s origin r cleared eff).1.rings = s.rings := by
  unfold State.statusClear; first | (simp [State.event_frame _ _ _ _ _ _, h]; done) | (simp (maxDischargeDepth := 8) [State.event_frame _ _ _ _ _ _, h]; done) | (split <;> simp [State.event_frame _ _ _ _ _ _, h])
@[simp] theorem State.statusClear_rpl (s : State) (origin : Origin) (r : Reg) (cleared : Word) (eff : State → State) (h : ∀ t, (eff t).rpl = t.rpl) : (State.statusClear s origin r cleared eff).1.rpl = s.rpl := by
  unfold State.statusClear; first | (simp [State.event_frame _ _ _ _ _ _, h]; done) | (simp (maxDischargeDepth := 8) [State.event_frame _ _ _ _ _ _, h]; done) | (split <;> simp [State.event_frame _ _ _ _ _ _, h])
@[simp] theorem State.statusClear_pair (s : State) (origin : Origin) (r : Reg) (cleared : Word) (eff : State → State) (h : ∀ t, (eff t).pair = t.pair) : (State.statusClear s origin r cleared eff).1.pair = s.pair := by
  unfold State.statusClear; first | (simp [State.event_frame _ _ _ _ _ _, h]; done) | (simp (maxDischargeDepth := 8) [State.event_frame _ _ _ _ _ _, h]; done) | (split <;> simp [State.event_frame _ _ _ _ _ _, h])
@[simp] theorem State.statusClear_cells (s : State) (origin : Origin) (r : Reg) (cleared : Word) (eff : State → State) (h : ∀ t, (eff t).cells = t.cells) : (State.statusClear s origin r cleared eff).1.cells = s.cells := by
  unfold State.statusClear; first | (simp [State.event_frame _ _ _ _ _ _, h]; done) | (simp (maxDischargeDepth := 8) [State.event_frame _ _ _ _ _ _, h]; done) | (split <;> simp [State.event_frame _ _ _ _ _ _, h])
theorem State.sendPowerTo_frame (s : State) (restart : Bool) (x : RingId) : KeepsHost (State.sendPowerTo s restart x) s ∧ KeepsUnits (State.sendPowerTo s restart x) s ∧ (State.sendPowerTo s restart x).recd = s.recd ∧ (State.sendPowerTo s restart x).wheels = s.wheels ∧ (State.sendPowerTo s restart x).flt = s.flt ∧ (State.sendPowerTo s restart x).chans = s.chans ∧ (State.sendPowerTo s restart x).rpl = s.rpl ∧ (State.sendPowerTo s restart x).pair = s.pair ∧ (State.sendPowerTo s restart x).cells = s.cells ∧ (State.sendPowerTo s restart x).storeGen = s.storeGen := by simp [State.sendPowerTo, State.sendRing_frame _ _ _, KeepsHost, KeepsUnits]
@[simp] theorem State.sendPowerTo_cells (s : State) (restart : Bool) (x : RingId) : (State.sendPowerTo s restart x).cells = s.cells := by simp [State.sendPowerTo_frame _ _ _]
theorem State.sendPower_frame (s : State) (restart : Bool) : KeepsHost (State.sendPower s restart) s ∧ KeepsUnits (State.sendPower s restart) s ∧ (State.sendPower s restart).recd = s.recd ∧ (State.sendPower s restart).wheels = s.wheels ∧ (State.sendPower s restart).flt = s.flt ∧ (State.sendPower s restart).chans = s.chans ∧ (State.sendPower s restart).rpl = s.rpl ∧ (State.sendPower s restart).pair = s.pair ∧ (State.sendPower s restart).cells = s.cells ∧ (State.sendPower s restart).storeGen = s.storeGen := by simp [State.sendPower, State.sendPowerTo_frame _ _ _, KeepsHost, KeepsUnits]
@[simp] theorem State.sendPower_cells (s : State) (restart : Bool) : (State.sendPower s restart).cells = s.cells := by simp [State.sendPower_frame _ _]
theorem State.dropShown_frame (s : State) (x : RingId) (i : Nat) (bits : Word) : KeepsHost (State.dropShown s x i bits) s ∧ KeepsUnits (State.dropShown s x i bits) s ∧ (State.dropShown s x i bits).recd = s.recd ∧ (State.dropShown s x i bits).wheels = s.wheels ∧ (State.dropShown s x i bits).flt = s.flt ∧ (State.dropShown s x i bits).chans = s.chans ∧ (State.dropShown s x i bits).rpl = s.rpl ∧ (State.dropShown s x i bits).pair = s.pair ∧ (State.dropShown s x i bits).cells = s.cells ∧ (State.dropShown s x i bits).storeGen = s.storeGen := by simp [State.dropShown, KeepsHost, KeepsUnits]
@[simp] theorem State.dropShown_cells (s : State) (x : RingId) (i : Nat) (bits : Word) : (State.dropShown s x i bits).cells = s.cells := by simp [State.dropShown_frame _ _ _ _]
theorem State.sendCfg_frame (s : State) (n : Fin 16) : KeepsHost (State.sendCfg s n) s ∧ KeepsUnits (State.sendCfg s n) s ∧ (State.sendCfg s n).recd = s.recd ∧ (State.sendCfg s n).wheels = s.wheels ∧ (State.sendCfg s n).flt = s.flt ∧ (State.sendCfg s n).chans = s.chans ∧ (State.sendCfg s n).rpl = s.rpl ∧ (State.sendCfg s n).pair = s.pair ∧ (State.sendCfg s n).cells = s.cells ∧ (State.sendCfg s n).storeGen = s.storeGen := by simp [State.sendRing_frame _ _ _, KeepsHost, KeepsUnits, State.sendCfg]
@[simp] theorem State.sendCfg_cells (s : State) (n : Fin 16) : (State.sendCfg s n).cells = s.cells := by simp [State.sendCfg_frame _ _]
theorem State.sendSetpoint_frame (s : State) (n : Fin 16) : KeepsHost (State.sendSetpoint s n) s ∧ KeepsUnits (State.sendSetpoint s n) s ∧ (State.sendSetpoint s n).recd = s.recd ∧ (State.sendSetpoint s n).wheels = s.wheels ∧ (State.sendSetpoint s n).flt = s.flt ∧ (State.sendSetpoint s n).chans = s.chans ∧ (State.sendSetpoint s n).rpl = s.rpl ∧ (State.sendSetpoint s n).pair = s.pair ∧ (State.sendSetpoint s n).cells = s.cells ∧ (State.sendSetpoint s n).storeGen = s.storeGen := by simp [State.sendRing_frame _ _ _, KeepsHost, KeepsUnits, State.sendSetpoint]
theorem State.sendDrive_frame (s : State) (n : Fin 16) : KeepsHost (State.sendDrive s n) s ∧ KeepsUnits (State.sendDrive s n) s ∧ (State.sendDrive s n).recd = s.recd ∧ (State.sendDrive s n).wheels = s.wheels ∧ (State.sendDrive s n).flt = s.flt ∧ (State.sendDrive s n).chans = s.chans ∧ (State.sendDrive s n).rpl = s.rpl ∧ (State.sendDrive s n).pair = s.pair ∧ (State.sendDrive s n).cells = s.cells ∧ (State.sendDrive s n).storeGen = s.storeGen := by simp [State.sendRing_frame _ _ _, KeepsHost, KeepsUnits, State.sendDrive]
/-! ## Inputs -/
theorem State.chatterEvent_frame (s : State) (n : Fin 16) : KeepsHost (State.chatterEvent s n) s ∧ KeepsUnits (State.chatterEvent s n) s ∧ (State.chatterEvent s n).recd = s.recd ∧ (State.chatterEvent s n).wheels = s.wheels ∧ (State.chatterEvent s n).flt = s.flt ∧ (State.chatterEvent s n).rpl = s.rpl ∧ (State.chatterEvent s n).pair = s.pair ∧ (State.chatterEvent s n).cells = s.cells ∧ (State.chatterEvent s n).storeGen = s.storeGen := by simp [State.diagRaise_frame _ _ _ _, KeepsHost, KeepsUnits, State.chatterEvent]
@[simp] theorem State.chatterEvent_cells (s : State) (n : Fin 16) : (State.chatterEvent s n).cells = s.cells := by simp [State.chatterEvent_frame _ _]
theorem State.acceptInput_frame (s : State) (n : Fin 16) (level : Bool) (held : Bool) : KeepsHost (State.acceptInput s n level held) s ∧ KeepsUnits (State.acceptInput s n level held) s ∧ (State.acceptInput s n level held).recd = s.recd ∧ (State.acceptInput s n level held).wheels = s.wheels ∧ (State.acceptInput s n level held).flt = s.flt ∧ (State.acceptInput s n level held).rpl = s.rpl ∧ (State.acceptInput s n level held).pair = s.pair ∧ (State.acceptInput s n level held).cells = s.cells ∧ (State.acceptInput s n level held).storeGen = s.storeGen := by simp [State.chatterEvent_frame _ _, State.sendChange_frame _ _ _ _ _, KeepsHost, KeepsUnits, State.acceptInput]
@[simp] theorem State.acceptInput_cells (s : State) (n : Fin 16) (level : Bool) (held : Bool) : (State.acceptInput s n level held).cells = s.cells := by simp [State.acceptInput_frame _ _ _ _]
theorem State.debounced_frame (s : State) (n : Fin 16) (level : Bool) : KeepsHost (State.debounced s n level) s ∧ KeepsUnits (State.debounced s n level) s ∧ (State.debounced s n level).recd = s.recd ∧ (State.debounced s n level).wheels = s.wheels ∧ (State.debounced s n level).flt = s.flt ∧ (State.debounced s n level).rpl = s.rpl ∧ (State.debounced s n level).pair = s.pair ∧ (State.debounced s n level).cells = s.cells ∧ (State.debounced s n level).storeGen = s.storeGen := by simp [State.acceptInput_frame _ _ _ _, State.chatterEvent_frame _ _, KeepsHost, KeepsUnits, State.debounced]
theorem State.startPulse_frame (s : State) (n : Fin 16) : KeepsHost (State.startPulse s n) s ∧ KeepsUnits (State.startPulse s n) s ∧ (State.startPulse s n).recd = s.recd ∧ (State.startPulse s n).wheels = s.wheels ∧ (State.startPulse s n).flt = s.flt ∧ (State.startPulse s n).rings = s.rings ∧ (State.startPulse s n).rpl = s.rpl ∧ (State.startPulse s n).pair = s.pair ∧ (State.startPulse s n).cells = s.cells ∧ (State.startPulse s n).storeGen = s.storeGen := by simp [KeepsHost, KeepsUnits, State.startPulse]
theorem State.applyCfg_frame (s : State) (n : Fin 16) (cfg : ChanCfg) : KeepsHost (State.applyCfg s n cfg) s ∧ KeepsUnits (State.applyCfg s n cfg) s ∧ (State.applyCfg s n cfg).recd = s.recd ∧ (State.applyCfg s n cfg).wheels = s.wheels ∧ (State.applyCfg s n cfg).flt = s.flt ∧ (State.applyCfg s n cfg).rpl = s.rpl ∧ (State.applyCfg s n cfg).pair = s.pair ∧ (State.applyCfg s n cfg).cells = s.cells ∧ (State.applyCfg s n cfg).storeGen = s.storeGen := by simp [State.refreshStage_frame _ _ _, KeepsHost, KeepsUnits, State.applyCfg]
@[simp] theorem State.applyCfg_cells (s : State) (n : Fin 16) (cfg : ChanCfg) : (State.applyCfg s n cfg).cells = s.cells := by simp [State.applyCfg_frame _ _ _]
theorem State.beginHold_frame (s : State) (n : Fin 16) (cfg : ChanCfg) (cmd : ChanCmd) (safe : BitVec 3) : KeepsHost (State.beginHold s n cfg cmd safe) s ∧ KeepsUnits (State.beginHold s n cfg cmd safe) s ∧ (State.beginHold s n cfg cmd safe).recd = s.recd ∧ (State.beginHold s n cfg cmd safe).wheels = s.wheels ∧ (State.beginHold s n cfg cmd safe).flt = s.flt ∧ (State.beginHold s n cfg cmd safe).rpl = s.rpl ∧ (State.beginHold s n cfg cmd safe).pair = s.pair ∧ (State.beginHold s n cfg cmd safe).cells = s.cells ∧ (State.beginHold s n cfg cmd safe).storeGen = s.storeGen := by simp [State.diagClearAll_frame _ _ _, State.joinGang_frame _ _, State.refreshStage_frame _ _ _, State.restartInput_frame _ _, KeepsHost, KeepsUnits, State.beginHold]
@[simp] theorem State.beginHold_cells (s : State) (n : Fin 16) (cfg : ChanCfg) (cmd : ChanCmd) (safe : BitVec 3) : (State.beginHold s n cfg cmd safe).cells = s.cells := by simp [State.beginHold_frame _ _ _ _ _]
theorem State.endClearedHold_frame (s : State) (n : Fin 16) : KeepsHost (State.endClearedHold s n) s ∧ KeepsUnits (State.endClearedHold s n) s ∧ (State.endClearedHold s n).recd = s.recd ∧ (State.endClearedHold s n).wheels = s.wheels ∧ (State.endClearedHold s n).flt = s.flt ∧ (State.endClearedHold s n).rpl = s.rpl ∧ (State.endClearedHold s n).pair = s.pair ∧ (State.endClearedHold s n).cells = s.cells ∧ (State.endClearedHold s n).storeGen = s.storeGen := by
  unfold State.endClearedHold; dsimp only; (repeat' split) <;> simp [State.acceptInput_frame _ _ _ _, KeepsHost, KeepsUnits]
theorem State.ringMode_frame (s : State) (n : Fin 16) (w : Word) (change : Bool) : KeepsHost (State.ringMode s n w change) s ∧ KeepsUnits (State.ringMode s n w change) s ∧ (State.ringMode s n w change).recd = s.recd ∧ (State.ringMode s n w change).wheels = s.wheels ∧ (State.ringMode s n w change).flt = s.flt ∧ (State.ringMode s n w change).rpl = s.rpl ∧ (State.ringMode s n w change).pair = s.pair ∧ (State.ringMode s n w change).cells = s.cells ∧ (State.ringMode s n w change).storeGen = s.storeGen := by simp [State.applyGuard_frame _ _, State.beginHold_frame _ _ _ _ _, State.endClearedHold_frame _ _, State.refreshStage_frame _ _ _, KeepsHost, KeepsUnits, State.ringMode]
@[simp] theorem State.ringMode_cells (s : State) (n : Fin 16) (w : Word) (change : Bool) : (State.ringMode s n w change).cells = s.cells := by simp [State.ringMode_frame _ _ _ _]
/-! ## Outputs -/
theorem State.trip_frame (s : State) (n : Fin 16) (m : Nat) : KeepsHost (State.trip s n m) s ∧ KeepsUnits (State.trip s n m) s ∧ (State.trip s n m).recd = s.recd ∧ (State.trip s n m).wheels = s.wheels ∧ (State.trip s n m).flt = s.flt ∧ (State.trip s n m).rpl = s.rpl ∧ (State.trip s n m).pair = s.pair ∧ (State.trip s n m).cells = s.cells ∧ (State.trip s n m).storeGen = s.storeGen := by simp [State.diagRaise_frame _ _ _ _, State.setCause_frame _ _ _, KeepsHost, KeepsUnits, State.trip]
theorem State.ringDiag_frame (s : State) (x : RingId) (b : Nat) (r : Fin 20) (was : Bool) (live : Bool) (f : Ring → Ring) : KeepsHost (State.ringDiag s x b r was live f) s ∧ KeepsUnits (State.ringDiag s x b r was live f) s ∧ (State.ringDiag s x b r was live f).recd = s.recd ∧ (State.ringDiag s x b r was live f).wheels = s.wheels ∧ (State.ringDiag s x b r was live f).flt = s.flt ∧ (State.ringDiag s x b r was live f).chans = s.chans ∧ (State.ringDiag s x b r was live f).rpl = s.rpl ∧ (State.ringDiag s x b r was live f).pair = s.pair ∧ (State.ringDiag s x b r was live f).cells = s.cells ∧ (State.ringDiag s x b r was live f).storeGen = s.storeGen := by simp [State.ringReport_frame _ _ _ _ _ _, KeepsHost, KeepsUnits, State.ringDiag]
theorem State.shed_frame (s : State) (n : Fin 16) : KeepsHost (State.shed s n) s ∧ KeepsUnits (State.shed s n) s ∧ (State.shed s n).wheels = s.wheels ∧ (State.shed s n).flt = s.flt ∧ (State.shed s n).rpl = s.rpl ∧ (State.shed s n).pair = s.pair ∧ (State.shed s n).cells = s.cells ∧ (State.shed s n).storeGen = s.storeGen := by simp [State.diagRaise_frame _ _ _ _, State.event_frame _ _ _ _ _ _, State.refreshStage_frame _ _ _, KeepsHost, KeepsUnits, State.shed]
@[simp] theorem State.shed_cells (s : State) (n : Fin 16) : (State.shed s n).cells = s.cells := by simp [State.shed_frame _ _]
theorem State.restore_frame (s : State) (x : RingId) : KeepsHost (State.restore s x) s ∧ KeepsUnits (State.restore s x) s ∧ (State.restore s x).wheels = s.wheels ∧ (State.restore s x).flt = s.flt ∧ (State.restore s x).rpl = s.rpl ∧ (State.restore s x).pair = s.pair ∧ (State.restore s x).cells = s.cells ∧ (State.restore s x).storeGen = s.storeGen := by
  unfold State.restore; (repeat' split) <;> simp [State.diagClear_frame _ _ _, State.event_frame _ _ _ _ _ _, State.refreshStage_frame _ _ _, KeepsHost, KeepsUnits]
@[simp] theorem State.restore_cells (s : State) (x : RingId) : (State.restore s x).cells = s.cells := by simp [State.restore_frame _ _]
theorem State.shedTick_frame (s : State) (x : RingId) : KeepsHost (State.shedTick s x) s ∧ KeepsUnits (State.shedTick s x) s ∧ (State.shedTick s x).wheels = s.wheels ∧ (State.shedTick s x).flt = s.flt ∧ (State.shedTick s x).rpl = s.rpl ∧ (State.shedTick s x).pair = s.pair ∧ (State.shedTick s x).cells = s.cells ∧ (State.shedTick s x).storeGen = s.storeGen := by
  unfold State.shedTick; dsimp only; (repeat' split) <;> simp [State.restore_frame _ _, State.shed_frame _ _, KeepsHost, KeepsUnits]
theorem State.applyCommand_frame (s : State) (n : Fin 16) (f : Chan → Chan) : KeepsHost (State.applyCommand s n f) s ∧ KeepsUnits (State.applyCommand s n f) s ∧ (State.applyCommand s n f).wheels = s.wheels ∧ (State.applyCommand s n f).flt = s.flt ∧ (State.applyCommand s n f).rpl = s.rpl ∧ (State.applyCommand s n f).pair = s.pair ∧ (State.applyCommand s n f).cells = s.cells ∧ (State.applyCommand s n f).storeGen = s.storeGen := by simp [State.refreshStage_frame _ _ _, State.shed_frame _ _, KeepsHost, KeepsUnits, State.applyCommand]
@[simp] theorem State.applyCommand_cells (s : State) (n : Fin 16) (f : Chan → Chan) : (State.applyCommand s n f).cells = s.cells := by simp [State.applyCommand_frame _ _ _]
theorem State.setTap_frame (s : State) (n : Fin 16) (t : Nat) : KeepsHost (State.setTap s n t) s ∧ KeepsUnits (State.setTap s n t) s ∧ (State.setTap s n t).recd = s.recd ∧ (State.setTap s n t).wheels = s.wheels ∧ (State.setTap s n t).flt = s.flt ∧ (State.setTap s n t).rings = s.rings ∧ (State.setTap s n t).rpl = s.rpl ∧ (State.setTap s n t).pair = s.pair ∧ (State.setTap s n t).cells = s.cells ∧ (State.setTap s n t).storeGen = s.storeGen := by simp [KeepsHost, KeepsUnits, State.setTap]
theorem State.chooseTap_frame (s : State) (n : Fin 16) (o : TickObs) : KeepsHost (State.chooseTap s n o) s ∧ KeepsUnits (State.chooseTap s n o) s ∧ (State.chooseTap s n o).recd = s.recd ∧ (State.chooseTap s n o).wheels = s.wheels ∧ (State.chooseTap s n o).flt = s.flt ∧ (State.chooseTap s n o).rings = s.rings ∧ (State.chooseTap s n o).rpl = s.rpl ∧ (State.chooseTap s n o).pair = s.pair ∧ (State.chooseTap s n o).cells = s.cells ∧ (State.chooseTap s n o).storeGen = s.storeGen := by simp [State.setTap_frame _ _ _, KeepsHost, KeepsUnits, State.chooseTap]
theorem State.tapTick_frame (s : State) (x : RingId) (o : TickObs) : KeepsHost (State.tapTick s x o) s ∧ KeepsUnits (State.tapTick s x o) s ∧ (State.tapTick s x o).recd = s.recd ∧ (State.tapTick s x o).wheels = s.wheels ∧ (State.tapTick s x o).flt = s.flt ∧ (State.tapTick s x o).rings = s.rings ∧ (State.tapTick s x o).rpl = s.rpl ∧ (State.tapTick s x o).pair = s.pair ∧ (State.tapTick s x o).cells = s.cells ∧ (State.tapTick s x o).storeGen = s.storeGen := by simp [State.chooseTap_frame _ _ _, KeepsHost, KeepsUnits, State.tapTick]
theorem State.moveUp_frame (s : State) (n : Fin 16) (o : TickObs) : KeepsHost (State.moveUp s n o) s ∧ KeepsUnits (State.moveUp s n o) s ∧ (State.moveUp s n o).recd = s.recd ∧ (State.moveUp s n o).wheels = s.wheels ∧ (State.moveUp s n o).flt = s.flt ∧ (State.moveUp s n o).rings = s.rings ∧ (State.moveUp s n o).rpl = s.rpl ∧ (State.moveUp s n o).pair = s.pair ∧ (State.moveUp s n o).cells = s.cells ∧ (State.moveUp s n o).storeGen = s.storeGen := by simp [State.setTap_frame _ _ _, KeepsHost, KeepsUnits, State.moveUp]
theorem State.leaveRail_frame (s : State) (x : RingId) (rail : Nat) (o : TickObs) : KeepsHost (State.leaveRail s x rail o) s ∧ KeepsUnits (State.leaveRail s x rail o) s ∧ (State.leaveRail s x rail o).recd = s.recd ∧ (State.leaveRail s x rail o).wheels = s.wheels ∧ (State.leaveRail s x rail o).flt = s.flt ∧ (State.leaveRail s x rail o).rings = s.rings ∧ (State.leaveRail s x rail o).rpl = s.rpl ∧ (State.leaveRail s x rail o).pair = s.pair ∧ (State.leaveRail s x rail o).cells = s.cells ∧ (State.leaveRail s x rail o).storeGen = s.storeGen := by simp [State.moveUp_frame _ _ _, KeepsHost, KeepsUnits, State.leaveRail]
/-! ## Analog -/
theorem State.judgeCompliance_frame (s : State) (n : Fin 16) : KeepsHost (State.judgeCompliance s n) s ∧ KeepsUnits (State.judgeCompliance s n) s ∧ (State.judgeCompliance s n).recd = s.recd ∧ (State.judgeCompliance s n).wheels = s.wheels ∧ (State.judgeCompliance s n).flt = s.flt ∧ (State.judgeCompliance s n).rpl = s.rpl ∧ (State.judgeCompliance s n).pair = s.pair ∧ (State.judgeCompliance s n).cells = s.cells ∧ (State.judgeCompliance s n).storeGen = s.storeGen := by simp [State.diagClear_frame _ _ _, State.diagRaise_frame _ _ _ _, KeepsHost, KeepsUnits, State.judgeCompliance]
theorem State.classify_frame (s : State) (n : Fin 16) (l : Int) : KeepsHost (State.classify s n l) s ∧ KeepsUnits (State.classify s n l) s ∧ (State.classify s n l).recd = s.recd ∧ (State.classify s n l).wheels = s.wheels ∧ (State.classify s n l).flt = s.flt ∧ (State.classify s n l).rings = s.rings ∧ (State.classify s n l).rpl = s.rpl ∧ (State.classify s n l).pair = s.pair ∧ (State.classify s n l).cells = s.cells ∧ (State.classify s n l).storeGen = s.storeGen := by simp [KeepsHost, KeepsUnits, State.classify]
theorem State.loopValue_frame (s : State) (n : Fin 16) : KeepsHost (State.loopValue s n).2 s ∧ (State.loopValue s n).2.svc = s.svc ∧ (State.loopValue s n).2.img = s.img ∧ (State.loopValue s n).2.fab = s.fab ∧ (State.loopValue s n).2.adcs = s.adcs ∧ (State.loopValue s n).2.filt = s.filt ∧ (State.loopValue s n).2.chks = s.chks ∧ (State.loopValue s n).2.chkTurn = s.chkTurn ∧ (State.loopValue s n).2.bg = s.bg ∧ (State.loopValue s n).2.pwr = s.pwr ∧ (State.loopValue s n).2.recd = s.recd ∧ (State.loopValue s n).2.wheels = s.wheels ∧ (State.loopValue s n).2.flt = s.flt ∧ (State.loopValue s n).2.chans = s.chans ∧ (State.loopValue s n).2.rings = s.rings ∧ (State.loopValue s n).2.rpl = s.rpl ∧ (State.loopValue s n).2.pair = s.pair ∧ (State.loopValue s n).2.cells = s.cells ∧ (State.loopValue s n).2.storeGen = s.storeGen := by
  unfold State.loopValue; (repeat' split) <;> simp [State.free_frame _, KeepsHost, KeepsUnits]
@[simp] theorem State.loopValue_cells (s : State) (n : Fin 16) : (State.loopValue s n).2.cells = s.cells := by simp [State.loopValue_frame _ _]
theorem State.calChanged_frame (s : State) (n : Fin 16) (f : Analog → Analog) : KeepsHost (State.calChanged s n f) s ∧ KeepsUnits (State.calChanged s n f) s ∧ (State.calChanged s n f).recd = s.recd ∧ (State.calChanged s n f).wheels = s.wheels ∧ (State.calChanged s n f).flt = s.flt ∧ (State.calChanged s n f).rpl = s.rpl ∧ (State.calChanged s n f).pair = s.pair ∧ (State.calChanged s n f).cells = s.cells ∧ (State.calChanged s n f).storeGen = s.storeGen := by simp [State.calChanged, State.sendRing_frame _ _ _, KeepsHost, KeepsUnits]
@[simp] theorem State.calChanged_cells (s : State) (n : Fin 16) (f : Analog → Analog) : (State.calChanged s n f).cells = s.cells := by simp [State.calChanged_frame _ _ _]
theorem State.noteAi_frame (s : State) (n : Fin 16) : KeepsHost (State.noteAi s n) s ∧ KeepsUnits (State.noteAi s n) s ∧ (State.noteAi s n).recd = s.recd ∧ (State.noteAi s n).wheels = s.wheels ∧ (State.noteAi s n).flt = s.flt ∧ (State.noteAi s n).rings = s.rings ∧ (State.noteAi s n).rpl = s.rpl ∧ (State.noteAi s n).pair = s.pair ∧ (State.noteAi s n).cells = s.cells ∧ (State.noteAi s n).storeGen = s.storeGen := by simp [KeepsHost, KeepsUnits, State.noteAi]
@[simp] theorem State.noteAi_cells (s : State) (n : Fin 16) : (State.noteAi s n).cells = s.cells := by simp [State.noteAi_frame _ _]
theorem State.captureValue_frame (s : State) (n : Fin 16) (span : Bool) (v : Int) : KeepsHost (State.captureValue s n span v) s ∧ KeepsUnits (State.captureValue s n span v) s ∧ (State.captureValue s n span v).recd = s.recd ∧ (State.captureValue s n span v).wheels = s.wheels ∧ (State.captureValue s n span v).flt = s.flt ∧ (State.captureValue s n span v).rpl = s.rpl ∧ (State.captureValue s n span v).pair = s.pair ∧ (State.captureValue s n span v).cells = s.cells ∧ (State.captureValue s n span v).storeGen = s.storeGen := by simp [State.captureValue, State.calChanged_frame _ _ _, KeepsHost, KeepsUnits]
@[simp] theorem State.captureValue_cells (s : State) (n : Fin 16) (span : Bool) (v : Int) : (State.captureValue s n span v).cells = s.cells := by simp [State.captureValue_frame _ _ _ _]
theorem State.capture_frame (s : State) (origin : Origin) (n : Fin 16) (span : Bool) (v : Int) : KeepsHost (State.capture s origin n span v) s ∧ KeepsUnits (State.capture s origin n span v) s ∧ (State.capture s origin n span v).wheels = s.wheels ∧ (State.capture s origin n span v).flt = s.flt ∧ (State.capture s origin n span v).rpl = s.rpl ∧ (State.capture s origin n span v).cells = s.cells ∧ (State.capture s origin n span v).storeGen = s.storeGen := by simp [State.captureValue_frame _ _ _ _, State.mirrorOut_frame _ _ _ _ _ _, KeepsHost, KeepsUnits, State.capture]
@[simp] theorem State.capture_cells (s : State) (origin : Origin) (n : Fin 16) (span : Bool) (v : Int) : (State.capture s origin n span v).cells = s.cells := by simp [State.capture_frame _ _ _ _ _]
theorem State.commandCapture_frame (s : State) (origin : Origin) (n : Fin 16) (span : Bool) (v : Int) : KeepsHost (State.commandCapture s origin n span v).1 s ∧ (State.commandCapture s origin n span v).1.img = s.img ∧ (State.commandCapture s origin n span v).1.fab = s.fab ∧ (State.commandCapture s origin n span v).1.adcs = s.adcs ∧ (State.commandCapture s origin n span v).1.filt = s.filt ∧ (State.commandCapture s origin n span v).1.chks = s.chks ∧ (State.commandCapture s origin n span v).1.chkTurn = s.chkTurn ∧ (State.commandCapture s origin n span v).1.bg = s.bg ∧ (State.commandCapture s origin n span v).1.pwr = s.pwr ∧ (State.commandCapture s origin n span v).1.freeCtr = s.freeCtr := by simp [State.capture_frame _ _ _ _ _, State.refuseFull_frame _, KeepsHost, KeepsUnits, State.commandCapture]
theorem State.zsClear_frame (s : State) (n : Fin 16) : KeepsHost (State.zsClear s n) s ∧ KeepsUnits (State.zsClear s n) s ∧ (State.zsClear s n).recd = s.recd ∧ (State.zsClear s n).wheels = s.wheels ∧ (State.zsClear s n).flt = s.flt ∧ (State.zsClear s n).rpl = s.rpl ∧ (State.zsClear s n).pair = s.pair ∧ (State.zsClear s n).cells = s.cells ∧ (State.zsClear s n).storeGen = s.storeGen := by simp [State.zsClear, State.calChanged_frame _ _ _, KeepsHost, KeepsUnits]
@[simp] theorem State.zsClear_cells (s : State) (n : Fin 16) : (State.zsClear s n).cells = s.cells := by simp [State.zsClear_frame _ _]
theorem State.trimWrite_frame (s : State) (n : Fin 16) (gain : Bool) (v : Word) : KeepsHost (State.trimWrite s n gain v) s ∧ KeepsUnits (State.trimWrite s n gain v) s ∧ (State.trimWrite s n gain v).recd = s.recd ∧ (State.trimWrite s n gain v).wheels = s.wheels ∧ (State.trimWrite s n gain v).flt = s.flt ∧ (State.trimWrite s n gain v).rpl = s.rpl ∧ (State.trimWrite s n gain v).pair = s.pair ∧ (State.trimWrite s n gain v).cells = s.cells ∧ (State.trimWrite s n gain v).storeGen = s.storeGen := by simp [State.trimWrite, State.calChanged_frame _ _ _, KeepsHost, KeepsUnits]
@[simp] theorem State.trimWrite_cells (s : State) (n : Fin 16) (gain : Bool) (v : Word) : (State.trimWrite s n gain v).cells = s.cells := by simp [State.trimWrite_frame _ _ _ _]
theorem State.disarm_frame (s : State) (origin : optParam Origin Origin.internal) : KeepsHost (State.disarm s origin) s ∧ (State.disarm s origin).img = s.img ∧ (State.disarm s origin).fab = s.fab ∧ (State.disarm s origin).adcs = s.adcs ∧ (State.disarm s origin).filt = s.filt ∧ (State.disarm s origin).chks = s.chks ∧ (State.disarm s origin).chkTurn = s.chkTurn ∧ (State.disarm s origin).bg = s.bg ∧ (State.disarm s origin).pwr = s.pwr ∧ (State.disarm s origin).freeCtr = s.freeCtr ∧ (State.disarm s origin).wheels = s.wheels ∧ (State.disarm s origin).flt = s.flt ∧ (State.disarm s origin).chans = s.chans ∧ (State.disarm s origin).rings = s.rings ∧ (State.disarm s origin).rpl = s.rpl ∧ (State.disarm s origin).pair = s.pair ∧ (State.disarm s origin).cells = s.cells ∧ (State.disarm s origin).storeGen = s.storeGen := by simp [State.event_frame _ _ _ _ _ _, KeepsHost, KeepsUnits, State.disarm]
@[simp] theorem State.disarm_cells (s : State) (origin : optParam Origin Origin.internal) : (State.disarm s origin).cells = s.cells := by simp [State.disarm_frame _ _]
/-! ## FskModem -/
theorem State.abortFsk_frame (s : State) (x : RingId) : KeepsHost (State.abortFsk s x) s ∧ KeepsUnits (State.abortFsk s x) s ∧ (State.abortFsk s x).recd = s.recd ∧ (State.abortFsk s x).wheels = s.wheels ∧ (State.abortFsk s x).flt = s.flt ∧ (State.abortFsk s x).chans = s.chans ∧ (State.abortFsk s x).rpl = s.rpl ∧ (State.abortFsk s x).pair = s.pair ∧ (State.abortFsk s x).cells = s.cells ∧ (State.abortFsk s x).storeGen = s.storeGen := by simp [KeepsHost, KeepsUnits, State.abortFsk]
theorem State.fskQueue_frame (s : State) (x : RingId) (e : Bool) (d : Byte) : KeepsHost (State.fskQueue s x e d) s ∧ KeepsUnits (State.fskQueue s x e d) s ∧ (State.fskQueue s x e d).recd = s.recd ∧ (State.fskQueue s x e d).wheels = s.wheels ∧ (State.fskQueue s x e d).flt = s.flt ∧ (State.fskQueue s x e d).chans = s.chans ∧ (State.fskQueue s x e d).rpl = s.rpl ∧ (State.fskQueue s x e d).pair = s.pair ∧ (State.fskQueue s x e d).cells = s.cells ∧ (State.fskQueue s x e d).storeGen = s.storeGen := by simp [State.fskStart_frame _ _, KeepsHost, KeepsUnits, State.fskQueue]
@[simp] theorem State.fskQueue_cells (s : State) (x : RingId) (e : Bool) (d : Byte) : (State.fskQueue s x e d).cells = s.cells := by simp [State.fskQueue_frame _ _ _ _]
theorem State.takeFskCfg_frame (s : State) (x : RingId) (w : Word) (ch : BitVec 5) : KeepsHost (State.takeFskCfg s x w ch) s ∧ KeepsUnits (State.takeFskCfg s x w ch) s ∧ (State.takeFskCfg s x w ch).recd = s.recd ∧ (State.takeFskCfg s x w ch).wheels = s.wheels ∧ (State.takeFskCfg s x w ch).flt = s.flt ∧ (State.takeFskCfg s x w ch).chans = s.chans ∧ (State.takeFskCfg s x w ch).rpl = s.rpl ∧ (State.takeFskCfg s x w ch).pair = s.pair ∧ (State.takeFskCfg s x w ch).cells = s.cells ∧ (State.takeFskCfg s x w ch).storeGen = s.storeGen := by simp [State.abortFsk_frame _ _, State.fskStart_frame _ _, KeepsHost, KeepsUnits, State.takeFskCfg]
@[simp] theorem State.takeFskCfg_cells (s : State) (x : RingId) (w : Word) (ch : BitVec 5) : (State.takeFskCfg s x w ch).cells = s.cells := by simp [State.takeFskCfg_frame _ _ _ _]
theorem State.takeFsk_frame (s : State) (x : RingId) (w : Word) (tick : Nat) : KeepsHost (State.takeFsk s x w tick) s ∧ KeepsUnits (State.takeFsk s x w tick) s ∧ (State.takeFsk s x w tick).chans = s.chans ∧ (State.takeFsk s x w tick).storeGen = s.storeGen := by simp [State.toWheels_frame _ _ _ _ _ _, KeepsHost, KeepsUnits, State.takeFsk]
/-! ## Claims -/
theorem State.takeClaim_frame (s : State) (kind : Nat) (ring : Nat) (index : Nat) (hclass : Nat) (hindex : Nat) (amount : Nat) : KeepsHost (State.takeClaim s kind ring index hclass hindex amount) s ∧ (State.takeClaim s kind ring index hclass hindex amount).svc = s.svc ∧ (State.takeClaim s kind ring index hclass hindex amount).fab = s.fab ∧ (State.takeClaim s kind ring index hclass hindex amount).adcs = s.adcs ∧ (State.takeClaim s kind ring index hclass hindex amount).filt = s.filt ∧ (State.takeClaim s kind ring index hclass hindex amount).chks = s.chks ∧ (State.takeClaim s kind ring index hclass hindex amount).chkTurn = s.chkTurn ∧ (State.takeClaim s kind ring index hclass hindex amount).bg = s.bg ∧ (State.takeClaim s kind ring index hclass hindex amount).pwr = s.pwr ∧ (State.takeClaim s kind ring index hclass hindex amount).freeCtr = s.freeCtr ∧ (State.takeClaim s kind ring index hclass hindex amount).recd = s.recd ∧ (State.takeClaim s kind ring index hclass hindex amount).wheels = s.wheels ∧ (State.takeClaim s kind ring index hclass hindex amount).flt = s.flt ∧ (State.takeClaim s kind ring index hclass hindex amount).chans = s.chans ∧ (State.takeClaim s kind ring index hclass hindex amount).rings = s.rings ∧ (State.takeClaim s kind ring index hclass hindex amount).rpl = s.rpl ∧ (State.takeClaim s kind ring index hclass hindex amount).pair = s.pair ∧ (State.takeClaim s kind ring index hclass hindex amount).cells = s.cells ∧ (State.takeClaim s kind ring index hclass hindex amount).storeGen = s.storeGen := by
  unfold State.takeClaim; (repeat' split) <;> simp [KeepsHost, KeepsUnits]
@[simp] theorem State.takeClaim_cells (s : State) (kind : Nat) (ring : Nat) (index : Nat) (hclass : Nat) (hindex : Nat) (amount : Nat) : (State.takeClaim s kind ring index hclass hindex amount).cells = s.cells := by simp [State.takeClaim_frame _ _ _ _ _ _ _]
theorem State.freeClaim_frame (s : State) (kind : Nat) (ring : Nat) (index : Nat) (hclass : Nat) (hindex : Nat) : KeepsHost (State.freeClaim s kind ring index hclass hindex) s ∧ (State.freeClaim s kind ring index hclass hindex).svc = s.svc ∧ (State.freeClaim s kind ring index hclass hindex).fab = s.fab ∧ (State.freeClaim s kind ring index hclass hindex).adcs = s.adcs ∧ (State.freeClaim s kind ring index hclass hindex).filt = s.filt ∧ (State.freeClaim s kind ring index hclass hindex).chks = s.chks ∧ (State.freeClaim s kind ring index hclass hindex).chkTurn = s.chkTurn ∧ (State.freeClaim s kind ring index hclass hindex).bg = s.bg ∧ (State.freeClaim s kind ring index hclass hindex).pwr = s.pwr ∧ (State.freeClaim s kind ring index hclass hindex).freeCtr = s.freeCtr ∧ (State.freeClaim s kind ring index hclass hindex).recd = s.recd ∧ (State.freeClaim s kind ring index hclass hindex).wheels = s.wheels ∧ (State.freeClaim s kind ring index hclass hindex).flt = s.flt ∧ (State.freeClaim s kind ring index hclass hindex).chans = s.chans ∧ (State.freeClaim s kind ring index hclass hindex).rings = s.rings ∧ (State.freeClaim s kind ring index hclass hindex).rpl = s.rpl ∧ (State.freeClaim s kind ring index hclass hindex).pair = s.pair ∧ (State.freeClaim s kind ring index hclass hindex).cells = s.cells ∧ (State.freeClaim s kind ring index hclass hindex).storeGen = s.storeGen := by simp [KeepsHost, KeepsUnits, State.freeClaim]
@[simp] theorem State.freeClaim_cells (s : State) (kind : Nat) (ring : Nat) (index : Nat) (hclass : Nat) (hindex : Nat) : (State.freeClaim s kind ring index hclass hindex).cells = s.cells := by simp [State.freeClaim_frame _ _ _ _ _ _]
theorem State.diverge_frame (s : State) : KeepsHost (State.diverge s) s ∧ (State.diverge s).svc = s.svc ∧ (State.diverge s).fab = s.fab ∧ (State.diverge s).adcs = s.adcs ∧ (State.diverge s).filt = s.filt ∧ (State.diverge s).chks = s.chks ∧ (State.diverge s).chkTurn = s.chkTurn ∧ (State.diverge s).bg = s.bg ∧ (State.diverge s).pwr = s.pwr ∧ (State.diverge s).freeCtr = s.freeCtr ∧ (State.diverge s).recd = s.recd ∧ (State.diverge s).wheels = s.wheels ∧ (State.diverge s).flt = s.flt ∧ (State.diverge s).chans = s.chans ∧ (State.diverge s).rings = s.rings ∧ (State.diverge s).rpl = s.rpl ∧ (State.diverge s).pair = s.pair ∧ (State.diverge s).cells = s.cells ∧ (State.diverge s).storeGen = s.storeGen := by simp [KeepsHost, KeepsUnits, State.diverge]
@[simp] theorem State.diverge_cells (s : State) : (State.diverge s).cells = s.cells := by simp [State.diverge_frame _]
@[simp] theorem State.imgWrite_pending (s : State) (origin : Origin) (r : Reg) (w : Word) (checks : List (Option Reply)) (eff : State → State) (h : ∀ t, (eff t).pending = t.pending) : (State.imgWrite s origin r w checks eff).1.pending = s.pending := guarded_pending _ _ _ (State.changeWrite_pending _ _ _ _ _ (fun t => by simp [State.diverge_frame _, h]))
@[simp] theorem State.imgWrite_clock (s : State) (origin : Origin) (r : Reg) (w : Word) (checks : List (Option Reply)) (eff : State → State) (h : ∀ t, (eff t).clock = t.clock) : (State.imgWrite s origin r w checks eff).1.clock = s.clock := guarded_clock _ _ _ (State.changeWrite_clock _ _ _ _ _ (fun t => by simp [State.diverge_frame _, h]))
@[simp] theorem State.imgWrite_vio (s : State) (origin : Origin) (r : Reg) (w : Word) (checks : List (Option Reply)) (eff : State → State) (h : ∀ t, (eff t).vio = t.vio) : (State.imgWrite s origin r w checks eff).1.vio = s.vio := guarded_vio _ _ _ (State.changeWrite_vio _ _ _ _ _ (fun t => by simp [State.diverge_frame _, h]))
@[simp] theorem State.imgWrite_phase (s : State) (origin : Origin) (r : Reg) (w : Word) (checks : List (Option Reply)) (eff : State → State) (h : ∀ t, (eff t).phase = t.phase) : (State.imgWrite s origin r w checks eff).1.phase = s.phase := guarded_phase _ _ _ (State.changeWrite_phase _ _ _ _ _ (fun t => by simp [State.diverge_frame _, h]))
@[simp] theorem State.imgWrite_time (s : State) (origin : Origin) (r : Reg) (w : Word) (checks : List (Option Reply)) (eff : State → State) (h : ∀ t, (eff t).time = t.time) : (State.imgWrite s origin r w checks eff).1.time = s.time := guarded_time _ _ _ (State.changeWrite_time _ _ _ _ _ (fun t => by simp [State.diverge_frame _, h]))
@[simp] theorem State.imgWrite_tickets (s : State) (origin : Origin) (r : Reg) (w : Word) (checks : List (Option Reply)) (eff : State → State) (h : ∀ t, (eff t).tickets = t.tickets) : (State.imgWrite s origin r w checks eff).1.tickets = s.tickets := guarded_tickets _ _ _ (State.changeWrite_tickets _ _ _ _ _ (fun t => by simp [State.diverge_frame _, h]))
@[simp] theorem State.imgWrite_readyCount (s : State) (origin : Origin) (r : Reg) (w : Word) (checks : List (Option Reply)) (eff : State → State) (h : ∀ t, (eff t).readyCount = t.readyCount) : (State.imgWrite s origin r w checks eff).1.readyCount = s.readyCount := guarded_readyCount _ _ _ (State.changeWrite_readyCount _ _ _ _ _ (fun t => by simp [State.diverge_frame _, h]))
@[simp] theorem State.imgWrite_ports (s : State) (origin : Origin) (r : Reg) (w : Word) (checks : List (Option Reply)) (eff : State → State) (h : ∀ t, (eff t).ports = t.ports) : (State.imgWrite s origin r w checks eff).1.ports = s.ports := guarded_ports _ _ _ (State.changeWrite_ports _ _ _ _ _ (fun t => by simp [State.diverge_frame _, h]))
@[simp] theorem State.imgWrite_shadows (s : State) (origin : Origin) (r : Reg) (w : Word) (checks : List (Option Reply)) (eff : State → State) (h : ∀ t, (eff t).shadows = t.shadows) : (State.imgWrite s origin r w checks eff).1.shadows = s.shadows := guarded_shadows _ _ _ (State.changeWrite_shadows _ _ _ _ _ (fun t => by simp [State.diverge_frame _, h]))
@[simp] theorem State.imgWrite_svc (s : State) (origin : Origin) (r : Reg) (w : Word) (checks : List (Option Reply)) (eff : State → State) (h : ∀ t, (eff t).svc = t.svc) : (State.imgWrite s origin r w checks eff).1.svc = s.svc := guarded_svc _ _ _ (State.changeWrite_svc _ _ _ _ _ (fun t => by simp [State.diverge_frame _, h]))
@[simp] theorem State.imgWrite_fab (s : State) (origin : Origin) (r : Reg) (w : Word) (checks : List (Option Reply)) (eff : State → State) (h : ∀ t, (eff t).fab = t.fab) : (State.imgWrite s origin r w checks eff).1.fab = s.fab := guarded_fab _ _ _ (State.changeWrite_fab _ _ _ _ _ (fun t => by simp [State.diverge_frame _, h]))
@[simp] theorem State.imgWrite_adcs (s : State) (origin : Origin) (r : Reg) (w : Word) (checks : List (Option Reply)) (eff : State → State) (h : ∀ t, (eff t).adcs = t.adcs) : (State.imgWrite s origin r w checks eff).1.adcs = s.adcs := guarded_adcs _ _ _ (State.changeWrite_adcs _ _ _ _ _ (fun t => by simp [State.diverge_frame _, h]))
@[simp] theorem State.imgWrite_filt (s : State) (origin : Origin) (r : Reg) (w : Word) (checks : List (Option Reply)) (eff : State → State) (h : ∀ t, (eff t).filt = t.filt) : (State.imgWrite s origin r w checks eff).1.filt = s.filt := guarded_filt _ _ _ (State.changeWrite_filt _ _ _ _ _ (fun t => by simp [State.diverge_frame _, h]))
@[simp] theorem State.imgWrite_chks (s : State) (origin : Origin) (r : Reg) (w : Word) (checks : List (Option Reply)) (eff : State → State) (h : ∀ t, (eff t).chks = t.chks) : (State.imgWrite s origin r w checks eff).1.chks = s.chks := guarded_chks _ _ _ (State.changeWrite_chks _ _ _ _ _ (fun t => by simp [State.diverge_frame _, h]))
@[simp] theorem State.imgWrite_chkTurn (s : State) (origin : Origin) (r : Reg) (w : Word) (checks : List (Option Reply)) (eff : State → State) (h : ∀ t, (eff t).chkTurn = t.chkTurn) : (State.imgWrite s origin r w checks eff).1.chkTurn = s.chkTurn := guarded_chkTurn _ _ _ (State.changeWrite_chkTurn _ _ _ _ _ (fun t => by simp [State.diverge_frame _, h]))
@[simp] theorem State.imgWrite_bg (s : State) (origin : Origin) (r : Reg) (w : Word) (checks : List (Option Reply)) (eff : State → State) (h : ∀ t, (eff t).bg = t.bg) : (State.imgWrite s origin r w checks eff).1.bg = s.bg := guarded_bg _ _ _ (State.changeWrite_bg _ _ _ _ _ (fun t => by simp [State.diverge_frame _, h]))
@[simp] theorem State.imgWrite_pwr (s : State) (origin : Origin) (r : Reg) (w : Word) (checks : List (Option Reply)) (eff : State → State) (h : ∀ t, (eff t).pwr = t.pwr) : (State.imgWrite s origin r w checks eff).1.pwr = s.pwr := guarded_pwr _ _ _ (State.changeWrite_pwr _ _ _ _ _ (fun t => by simp [State.diverge_frame _, h]))
@[simp] theorem State.imgWrite_freeCtr (s : State) (origin : Origin) (r : Reg) (w : Word) (checks : List (Option Reply)) (eff : State → State) (h : ∀ t, (eff t).freeCtr = t.freeCtr) : (State.imgWrite s origin r w checks eff).1.freeCtr = s.freeCtr := guarded_freeCtr _ _ _ (State.changeWrite_freeCtr _ _ _ _ _ (fun t => by simp [State.diverge_frame _, h]))
/-! ## Fabric -/
theorem State.clearEvents_frame (s : State) : KeepsHost (State.clearEvents s) s ∧ (State.clearEvents s).svc = s.svc ∧ (State.clearEvents s).img = s.img ∧ (State.clearEvents s).adcs = s.adcs ∧ (State.clearEvents s).chks = s.chks ∧ (State.clearEvents s).chkTurn = s.chkTurn ∧ (State.clearEvents s).bg = s.bg ∧ (State.clearEvents s).pwr = s.pwr ∧ (State.clearEvents s).freeCtr = s.freeCtr ∧ (State.clearEvents s).recd = s.recd ∧ (State.clearEvents s).wheels = s.wheels ∧ (State.clearEvents s).flt = s.flt ∧ (State.clearEvents s).rings = s.rings ∧ (State.clearEvents s).rpl = s.rpl ∧ (State.clearEvents s).pair = s.pair ∧ (State.clearEvents s).cells = s.cells ∧ (State.clearEvents s).storeGen = s.storeGen := by simp [KeepsHost, KeepsUnits, State.clearEvents]
theorem State.takeSnapshot_frame (s0 : State) : KeepsHost (State.takeSnapshot s0) s0 ∧ (State.takeSnapshot s0).svc = s0.svc ∧ (State.takeSnapshot s0).img = s0.img ∧ (State.takeSnapshot s0).adcs = s0.adcs ∧ (State.takeSnapshot s0).chks = s0.chks ∧ (State.takeSnapshot s0).chkTurn = s0.chkTurn ∧ (State.takeSnapshot s0).bg = s0.bg ∧ (State.takeSnapshot s0).pwr = s0.pwr ∧ (State.takeSnapshot s0).freeCtr = s0.freeCtr ∧ (State.takeSnapshot s0).recd = s0.recd ∧ (State.takeSnapshot s0).wheels = s0.wheels ∧ (State.takeSnapshot s0).flt = s0.flt ∧ (State.takeSnapshot s0).rings = s0.rings ∧ (State.takeSnapshot s0).rpl = s0.rpl ∧ (State.takeSnapshot s0).pair = s0.pair ∧ (State.takeSnapshot s0).cells = s0.cells ∧ (State.takeSnapshot s0).storeGen = s0.storeGen := by simp [State.clearEvents_frame _, State.noteAi_frame _ _, KeepsHost, KeepsUnits, State.takeSnapshot]
theorem State.hsigWrite_frame (s : State) (f : FabState → FabState) : KeepsHost (State.hsigWrite s f).1 s ∧ (State.hsigWrite s f).1.svc = s.svc ∧ (State.hsigWrite s f).1.img = s.img ∧ (State.hsigWrite s f).1.adcs = s.adcs ∧ (State.hsigWrite s f).1.filt = s.filt ∧ (State.hsigWrite s f).1.chks = s.chks ∧ (State.hsigWrite s f).1.chkTurn = s.chkTurn ∧ (State.hsigWrite s f).1.bg = s.bg ∧ (State.hsigWrite s f).1.pwr = s.pwr ∧ (State.hsigWrite s f).1.freeCtr = s.freeCtr ∧ (State.hsigWrite s f).1.recd = s.recd ∧ (State.hsigWrite s f).1.wheels = s.wheels ∧ (State.hsigWrite s f).1.flt = s.flt ∧ (State.hsigWrite s f).1.chans = s.chans ∧ (State.hsigWrite s f).1.rings = s.rings ∧ (State.hsigWrite s f).1.rpl = s.rpl ∧ (State.hsigWrite s f).1.pair = s.pair ∧ (State.hsigWrite s f).1.cells = s.cells ∧ (State.hsigWrite s f).1.storeGen = s.storeGen := by simp [KeepsHost, KeepsUnits, State.hsigWrite]
@[simp] theorem State.hsigWrite_cells (s : State) (f : FabState → FabState) : (State.hsigWrite s f).1.cells = s.cells := by simp [State.hsigWrite_frame _ _]
theorem State.freeUnused_frame (s : State) (e : Nat × Nat) : KeepsHost (State.freeUnused s e) s ∧ (State.freeUnused s e).svc = s.svc ∧ (State.freeUnused s e).fab = s.fab ∧ (State.freeUnused s e).adcs = s.adcs ∧ (State.freeUnused s e).filt = s.filt ∧ (State.freeUnused s e).chks = s.chks ∧ (State.freeUnused s e).chkTurn = s.chkTurn ∧ (State.freeUnused s e).bg = s.bg ∧ (State.freeUnused s e).pwr = s.pwr ∧ (State.freeUnused s e).freeCtr = s.freeCtr ∧ (State.freeUnused s e).recd = s.recd ∧ (State.freeUnused s e).wheels = s.wheels ∧ (State.freeUnused s e).flt = s.flt ∧ (State.freeUnused s e).chans = s.chans ∧ (State.freeUnused s e).rings = s.rings ∧ (State.freeUnused s e).rpl = s.rpl ∧ (State.freeUnused s e).pair = s.pair ∧ (State.freeUnused s e).cells = s.cells ∧ (State.freeUnused s e).storeGen = s.storeGen := by simp [State.freeClaim_frame _ _ _ _ _ _, KeepsHost, KeepsUnits, State.freeUnused]
theorem State.applyRecord_frame (s : State) (type : Nat) (i : Nat) (ws : List Word) (live : Option Word) (changed : Bool) : KeepsHost (State.applyRecord s type i ws live changed) s ∧ (State.applyRecord s type i ws live changed).svc = s.svc ∧ (State.applyRecord s type i ws live changed).adcs = s.adcs ∧ (State.applyRecord s type i ws live changed).filt = s.filt ∧ (State.applyRecord s type i ws live changed).chks = s.chks ∧ (State.applyRecord s type i ws live changed).chkTurn = s.chkTurn ∧ (State.applyRecord s type i ws live changed).bg = s.bg ∧ (State.applyRecord s type i ws live changed).pwr = s.pwr ∧ (State.applyRecord s type i ws live changed).freeCtr = s.freeCtr ∧ (State.applyRecord s type i ws live changed).recd = s.recd ∧ (State.applyRecord s type i ws live changed).wheels = s.wheels ∧ (State.applyRecord s type i ws live changed).flt = s.flt ∧ (State.applyRecord s type i ws live changed).chans = s.chans ∧ (State.applyRecord s type i ws live changed).rings = s.rings ∧ (State.applyRecord s type i ws live changed).rpl = s.rpl ∧ (State.applyRecord s type i ws live changed).pair = s.pair ∧ (State.applyRecord s type i ws live changed).cells = s.cells ∧ (State.applyRecord s type i ws live changed).storeGen = s.storeGen := by simp [State.diverge_frame _, State.takeClaim_frame _ _ _ _ _ _ _, KeepsHost, KeepsUnits, State.applyRecord]
@[simp] theorem State.applyRecord_cells (s : State) (type : Nat) (i : Nat) (ws : List Word) (live : Option Word) (changed : Bool) : (State.applyRecord s type i ws live changed).cells = s.cells := by simp [State.applyRecord_frame _ _ _ _ _ _]
theorem State.fabApply_frame (s : State) (origin : Origin) (w : Word) : KeepsHost (State.fabApply s origin w).1 s ∧ (State.fabApply s origin w).1.svc = s.svc ∧ (State.fabApply s origin w).1.adcs = s.adcs ∧ (State.fabApply s origin w).1.filt = s.filt ∧ (State.fabApply s origin w).1.chks = s.chks ∧ (State.fabApply s origin w).1.chkTurn = s.chkTurn ∧ (State.fabApply s origin w).1.bg = s.bg ∧ (State.fabApply s origin w).1.pwr = s.pwr ∧ (State.fabApply s origin w).1.freeCtr = s.freeCtr := by simp [State.applyRecord_frame _ _ _ _ _ _, KeepsHost, KeepsUnits, State.fabApply]
theorem State.fabStepcfg_frame (s : State) (origin : Origin) (w : Word) : KeepsHost (State.fabStepcfg s origin w).1 s ∧ (State.fabStepcfg s origin w).1.svc = s.svc ∧ (State.fabStepcfg s origin w).1.adcs = s.adcs ∧ (State.fabStepcfg s origin w).1.filt = s.filt ∧ (State.fabStepcfg s origin w).1.chks = s.chks ∧ (State.fabStepcfg s origin w).1.chkTurn = s.chkTurn ∧ (State.fabStepcfg s origin w).1.bg = s.bg ∧ (State.fabStepcfg s origin w).1.pwr = s.pwr ∧ (State.fabStepcfg s origin w).1.freeCtr = s.freeCtr := by simp [KeepsHost, KeepsUnits, State.fabStepcfg]
theorem State.fabSel_frame (s : State) (w : Word) : KeepsHost (State.fabSel s w).1 s ∧ (State.fabSel s w).1.svc = s.svc ∧ (State.fabSel s w).1.img = s.img ∧ (State.fabSel s w).1.adcs = s.adcs ∧ (State.fabSel s w).1.filt = s.filt ∧ (State.fabSel s w).1.chks = s.chks ∧ (State.fabSel s w).1.chkTurn = s.chkTurn ∧ (State.fabSel s w).1.bg = s.bg ∧ (State.fabSel s w).1.pwr = s.pwr ∧ (State.fabSel s w).1.freeCtr = s.freeCtr ∧ (State.fabSel s w).1.recd = s.recd ∧ (State.fabSel s w).1.wheels = s.wheels ∧ (State.fabSel s w).1.flt = s.flt ∧ (State.fabSel s w).1.chans = s.chans ∧ (State.fabSel s w).1.rings = s.rings ∧ (State.fabSel s w).1.rpl = s.rpl ∧ (State.fabSel s w).1.pair = s.pair ∧ (State.fabSel s w).1.cells = s.cells ∧ (State.fabSel s w).1.storeGen = s.storeGen := by simp [KeepsHost, KeepsUnits, State.fabSel]
@[simp] theorem State.fabSel_cells (s : State) (w : Word) : (State.fabSel s w).1.cells = s.cells := by simp [State.fabSel_frame _ _]
theorem State.fabWin_frame (s : State) (k : Fin 4) (w : Word) : KeepsHost (State.fabWin s k w).1 s ∧ (State.fabWin s k w).1.svc = s.svc ∧ (State.fabWin s k w).1.img = s.img ∧ (State.fabWin s k w).1.adcs = s.adcs ∧ (State.fabWin s k w).1.filt = s.filt ∧ (State.fabWin s k w).1.chks = s.chks ∧ (State.fabWin s k w).1.chkTurn = s.chkTurn ∧ (State.fabWin s k w).1.bg = s.bg ∧ (State.fabWin s k w).1.pwr = s.pwr ∧ (State.fabWin s k w).1.freeCtr = s.freeCtr ∧ (State.fabWin s k w).1.recd = s.recd ∧ (State.fabWin s k w).1.wheels = s.wheels ∧ (State.fabWin s k w).1.flt = s.flt ∧ (State.fabWin s k w).1.chans = s.chans ∧ (State.fabWin s k w).1.rings = s.rings ∧ (State.fabWin s k w).1.rpl = s.rpl ∧ (State.fabWin s k w).1.pair = s.pair ∧ (State.fabWin s k w).1.cells = s.cells ∧ (State.fabWin s k w).1.storeGen = s.storeGen := by simp [KeepsHost, KeepsUnits, State.fabWin]
@[simp] theorem State.fabWin_cells (s : State) (k : Fin 4) (w : Word) : (State.fabWin s k w).1.cells = s.cells := by simp [State.fabWin_frame _ _ _]
theorem State.fabWrite_frame (s : State) (origin : Origin) (r : FabReg) (w : Word) : KeepsHost (State.fabWrite s origin r w).1 s ∧ (State.fabWrite s origin r w).1.svc = s.svc ∧ (State.fabWrite s origin r w).1.adcs = s.adcs ∧ (State.fabWrite s origin r w).1.filt = s.filt ∧ (State.fabWrite s origin r w).1.chks = s.chks ∧ (State.fabWrite s origin r w).1.chkTurn = s.chkTurn ∧ (State.fabWrite s origin r w).1.bg = s.bg ∧ (State.fabWrite s origin r w).1.pwr = s.pwr ∧ (State.fabWrite s origin r w).1.freeCtr = s.freeCtr := by simp [State.fabApply_frame _ _ _, State.fabSel_frame _ _, State.fabStepcfg_frame _ _ _, State.fabWin_frame _ _ _, State.hsigWrite_frame _ _, KeepsHost, KeepsUnits, State.fabWrite]
theorem State.fabRead_frame (s : State) (r : FabReg) : KeepsHost (State.fabRead s r).2 s ∧ (State.fabRead s r).2.svc = s.svc ∧ (State.fabRead s r).2.img = s.img ∧ (State.fabRead s r).2.adcs = s.adcs ∧ (State.fabRead s r).2.filt = s.filt ∧ (State.fabRead s r).2.chks = s.chks ∧ (State.fabRead s r).2.chkTurn = s.chkTurn ∧ (State.fabRead s r).2.bg = s.bg ∧ (State.fabRead s r).2.pwr = s.pwr ∧ (State.fabRead s r).2.freeCtr = s.freeCtr ∧ (State.fabRead s r).2.recd = s.recd ∧ (State.fabRead s r).2.wheels = s.wheels ∧ (State.fabRead s r).2.flt = s.flt ∧ (State.fabRead s r).2.chans = s.chans ∧ (State.fabRead s r).2.rings = s.rings ∧ (State.fabRead s r).2.rpl = s.rpl ∧ (State.fabRead s r).2.pair = s.pair ∧ (State.fabRead s r).2.cells = s.cells ∧ (State.fabRead s r).2.storeGen = s.storeGen := by simp [KeepsHost, KeepsUnits, State.fabRead]
@[simp] theorem State.fabRead_cells (s : State) (r : FabReg) : (State.fabRead s r).2.cells = s.cells := by simp [State.fabRead_frame _ _]
/-! ## ChanWrites -/
theorem State.sendFsk_frame (s : State) (x : RingId) : KeepsHost (State.sendFsk s x) s ∧ KeepsUnits (State.sendFsk s x) s ∧ (State.sendFsk s x).recd = s.recd ∧ (State.sendFsk s x).wheels = s.wheels ∧ (State.sendFsk s x).flt = s.flt ∧ (State.sendFsk s x).chans = s.chans ∧ (State.sendFsk s x).rpl = s.rpl ∧ (State.sendFsk s x).pair = s.pair ∧ (State.sendFsk s x).cells = s.cells ∧ (State.sendFsk s x).storeGen = s.storeGen := by simp [State.sendRing_frame _ _ _, KeepsHost, KeepsUnits, State.sendFsk]
@[simp] theorem State.sendFsk_cells (s : State) (x : RingId) : (State.sendFsk s x).cells = s.cells := by simp [State.sendFsk_frame _ _]
theorem State.syncModem_frame (s : State) (x : RingId) : KeepsHost (State.syncModem s x) s ∧ KeepsUnits (State.syncModem s x) s ∧ (State.syncModem s x).recd = s.recd ∧ (State.syncModem s x).wheels = s.wheels ∧ (State.syncModem s x).flt = s.flt ∧ (State.syncModem s x).chans = s.chans ∧ (State.syncModem s x).rpl = s.rpl ∧ (State.syncModem s x).pair = s.pair ∧ (State.syncModem s x).cells = s.cells ∧ (State.syncModem s x).storeGen = s.storeGen := by simp [State.sendFsk_frame _ _, KeepsHost, KeepsUnits, State.syncModem]
theorem State.syncClaims_frame (s : State) (n : Fin 16) (c : ChanCfg) : KeepsHost (State.syncClaims s n c) s ∧ (State.syncClaims s n c).svc = s.svc ∧ (State.syncClaims s n c).fab = s.fab ∧ (State.syncClaims s n c).adcs = s.adcs ∧ (State.syncClaims s n c).filt = s.filt ∧ (State.syncClaims s n c).chks = s.chks ∧ (State.syncClaims s n c).chkTurn = s.chkTurn ∧ (State.syncClaims s n c).bg = s.bg ∧ (State.syncClaims s n c).pwr = s.pwr ∧ (State.syncClaims s n c).freeCtr = s.freeCtr ∧ (State.syncClaims s n c).recd = s.recd ∧ (State.syncClaims s n c).wheels = s.wheels ∧ (State.syncClaims s n c).flt = s.flt ∧ (State.syncClaims s n c).chans = s.chans ∧ (State.syncClaims s n c).rpl = s.rpl ∧ (State.syncClaims s n c).pair = s.pair ∧ (State.syncClaims s n c).cells = s.cells ∧ (State.syncClaims s n c).storeGen = s.storeGen := by simp [State.freeClaim_frame _ _ _ _ _ _, State.syncModem_frame _ _, State.takeClaim_frame _ _ _ _ _ _ _, KeepsHost, KeepsUnits, State.syncClaims]
@[simp] theorem State.syncClaims_cells (s : State) (n : Fin 16) (c : ChanCfg) : (State.syncClaims s n c).cells = s.cells := by simp [State.syncClaims_frame _ _ _]
theorem State.modeEffect_frame (s : State) (n : Fin 16) (w : Word) : KeepsHost (State.modeEffect s n w) s ∧ (State.modeEffect s n w).fab = s.fab ∧ (State.modeEffect s n w).adcs = s.adcs ∧ (State.modeEffect s n w).filt = s.filt ∧ (State.modeEffect s n w).chks = s.chks ∧ (State.modeEffect s n w).chkTurn = s.chkTurn ∧ (State.modeEffect s n w).bg = s.bg ∧ (State.modeEffect s n w).pwr = s.pwr ∧ (State.modeEffect s n w).freeCtr = s.freeCtr ∧ (State.modeEffect s n w).wheels = s.wheels ∧ (State.modeEffect s n w).flt = s.flt ∧ (State.modeEffect s n w).rpl = s.rpl ∧ (State.modeEffect s n w).pair = s.pair ∧ (State.modeEffect s n w).cells = s.cells ∧ (State.modeEffect s n w).storeGen = s.storeGen := by simp [State.disarm_frame _ _, State.syncClaims_frame _ _ _, KeepsHost, KeepsUnits, State.modeEffect]
@[simp] theorem State.modeEffect_cells (s : State) (n : Fin 16) (w : Word) : (State.modeEffect s n w).cells = s.cells := by simp [State.modeEffect_frame _ _ _]
theorem State.writeMode_frame (s : State) (origin : Origin) (n : Fin 16) (w : Word) : KeepsHost (State.writeMode s origin n w).1 s ∧ (State.writeMode s origin n w).1.fab = s.fab ∧ (State.writeMode s origin n w).1.adcs = s.adcs ∧ (State.writeMode s origin n w).1.filt = s.filt ∧ (State.writeMode s origin n w).1.chks = s.chks ∧ (State.writeMode s origin n w).1.chkTurn = s.chkTurn ∧ (State.writeMode s origin n w).1.bg = s.bg ∧ (State.writeMode s origin n w).1.pwr = s.pwr ∧ (State.writeMode s origin n w).1.freeCtr = s.freeCtr := by simp [State.modeEffect_frame _ _ _, KeepsHost, KeepsUnits, State.writeMode]
theorem State.writeParam_frame (s : State) (origin : Origin) (n : Fin 16) (r : ChReg) (w : Word) : KeepsHost (State.writeParam s origin n r w).1 s ∧ (State.writeParam s origin n r w).1.svc = s.svc ∧ (State.writeParam s origin n r w).1.fab = s.fab ∧ (State.writeParam s origin n r w).1.adcs = s.adcs ∧ (State.writeParam s origin n r w).1.chks = s.chks ∧ (State.writeParam s origin n r w).1.chkTurn = s.chkTurn ∧ (State.writeParam s origin n r w).1.bg = s.bg ∧ (State.writeParam s origin n r w).1.pwr = s.pwr ∧ (State.writeParam s origin n r w).1.freeCtr = s.freeCtr := by simp [State.restartChain_frame _ _, State.sendCfg_frame _ _, State.syncClaims_frame _ _ _, KeepsHost, KeepsUnits, State.writeParam]
theorem State.setpoint_frame (s : State) (origin : Origin) (n : Fin 16) (r : ChReg) (w : Word) (f : Chan → Chan) : KeepsHost (State.setpoint s origin n r w f) s ∧ (State.setpoint s origin n r w f).svc = s.svc ∧ (State.setpoint s origin n r w f).img = s.img ∧ (State.setpoint s origin n r w f).adcs = s.adcs ∧ (State.setpoint s origin n r w f).filt = s.filt ∧ (State.setpoint s origin n r w f).chks = s.chks ∧ (State.setpoint s origin n r w f).chkTurn = s.chkTurn ∧ (State.setpoint s origin n r w f).bg = s.bg ∧ (State.setpoint s origin n r w f).pwr = s.pwr ∧ (State.setpoint s origin n r w f).freeCtr = s.freeCtr ∧ (State.setpoint s origin n r w f).recd = s.recd ∧ (State.setpoint s origin n r w f).wheels = s.wheels ∧ (State.setpoint s origin n r w f).flt = s.flt ∧ (State.setpoint s origin n r w f).rpl = s.rpl ∧ (State.setpoint s origin n r w f).pair = s.pair ∧ (State.setpoint s origin n r w f).cells = s.cells ∧ (State.setpoint s origin n r w f).storeGen = s.storeGen := by simp [State.sendSetpoint_frame _ _, KeepsHost, KeepsUnits, State.setpoint]
theorem State.writeDoCmd_frame (s : State) (origin : Origin) (n : Fin 16) (w : Word) : KeepsHost (State.writeDoCmd s origin n w).1 s ∧ (State.writeDoCmd s origin n w).1.svc = s.svc ∧ (State.writeDoCmd s origin n w).1.img = s.img ∧ (State.writeDoCmd s origin n w).1.adcs = s.adcs ∧ (State.writeDoCmd s origin n w).1.filt = s.filt ∧ (State.writeDoCmd s origin n w).1.chks = s.chks ∧ (State.writeDoCmd s origin n w).1.chkTurn = s.chkTurn ∧ (State.writeDoCmd s origin n w).1.bg = s.bg ∧ (State.writeDoCmd s origin n w).1.pwr = s.pwr ∧ (State.writeDoCmd s origin n w).1.freeCtr = s.freeCtr ∧ (State.writeDoCmd s origin n w).1.recd = s.recd ∧ (State.writeDoCmd s origin n w).1.wheels = s.wheels ∧ (State.writeDoCmd s origin n w).1.flt = s.flt ∧ (State.writeDoCmd s origin n w).1.rpl = s.rpl ∧ (State.writeDoCmd s origin n w).1.pair = s.pair ∧ (State.writeDoCmd s origin n w).1.cells = s.cells ∧ (State.writeDoCmd s origin n w).1.storeGen = s.storeGen := by simp [State.setpoint_frame _ _ _ _ _ _, KeepsHost, KeepsUnits, State.writeDoCmd]
@[simp] theorem State.writeDoCmd_cells (s : State) (origin : Origin) (n : Fin 16) (w : Word) : (State.writeDoCmd s origin n w).1.cells = s.cells := by simp [State.writeDoCmd_frame _ _ _ _]
theorem State.writeDoDuty_frame (s : State) (origin : Origin) (n : Fin 16) (w : Word) : KeepsHost (State.writeDoDuty s origin n w).1 s ∧ (State.writeDoDuty s origin n w).1.svc = s.svc ∧ (State.writeDoDuty s origin n w).1.img = s.img ∧ (State.writeDoDuty s origin n w).1.adcs = s.adcs ∧ (State.writeDoDuty s origin n w).1.filt = s.filt ∧ (State.writeDoDuty s origin n w).1.chks = s.chks ∧ (State.writeDoDuty s origin n w).1.chkTurn = s.chkTurn ∧ (State.writeDoDuty s origin n w).1.bg = s.bg ∧ (State.writeDoDuty s origin n w).1.pwr = s.pwr ∧ (State.writeDoDuty s origin n w).1.freeCtr = s.freeCtr ∧ (State.writeDoDuty s origin n w).1.recd = s.recd ∧ (State.writeDoDuty s origin n w).1.wheels = s.wheels ∧ (State.writeDoDuty s origin n w).1.flt = s.flt ∧ (State.writeDoDuty s origin n w).1.rpl = s.rpl ∧ (State.writeDoDuty s origin n w).1.pair = s.pair ∧ (State.writeDoDuty s origin n w).1.cells = s.cells ∧ (State.writeDoDuty s origin n w).1.storeGen = s.storeGen := by simp [State.sendCfg_frame _ _, State.setpoint_frame _ _ _ _ _ _, KeepsHost, KeepsUnits, State.writeDoDuty]
@[simp] theorem State.writeDoDuty_cells (s : State) (origin : Origin) (n : Fin 16) (w : Word) : (State.writeDoDuty s origin n w).1.cells = s.cells := by simp [State.writeDoDuty_frame _ _ _ _]
theorem State.writeAnCmd_frame (s : State) (origin : Origin) (n : Fin 16) (w : Word) : KeepsHost (State.writeAnCmd s origin n w).1 s ∧ (State.writeAnCmd s origin n w).1.svc = s.svc ∧ (State.writeAnCmd s origin n w).1.img = s.img ∧ (State.writeAnCmd s origin n w).1.adcs = s.adcs ∧ (State.writeAnCmd s origin n w).1.filt = s.filt ∧ (State.writeAnCmd s origin n w).1.chks = s.chks ∧ (State.writeAnCmd s origin n w).1.chkTurn = s.chkTurn ∧ (State.writeAnCmd s origin n w).1.bg = s.bg ∧ (State.writeAnCmd s origin n w).1.pwr = s.pwr ∧ (State.writeAnCmd s origin n w).1.freeCtr = s.freeCtr ∧ (State.writeAnCmd s origin n w).1.recd = s.recd ∧ (State.writeAnCmd s origin n w).1.wheels = s.wheels ∧ (State.writeAnCmd s origin n w).1.flt = s.flt ∧ (State.writeAnCmd s origin n w).1.rpl = s.rpl ∧ (State.writeAnCmd s origin n w).1.pair = s.pair ∧ (State.writeAnCmd s origin n w).1.cells = s.cells ∧ (State.writeAnCmd s origin n w).1.storeGen = s.storeGen := by simp [State.setpoint_frame _ _ _ _ _ _, KeepsHost, KeepsUnits, State.writeAnCmd]
@[simp] theorem State.writeAnCmd_cells (s : State) (origin : Origin) (n : Fin 16) (w : Word) : (State.writeAnCmd s origin n w).1.cells = s.cells := by simp [State.writeAnCmd_frame _ _ _ _]
theorem State.writeAnSet_frame (s : State) (origin : Origin) (n : Fin 16) (w : Word) : KeepsHost (State.writeAnSet s origin n w).1 s ∧ (State.writeAnSet s origin n w).1.svc = s.svc ∧ (State.writeAnSet s origin n w).1.img = s.img ∧ (State.writeAnSet s origin n w).1.adcs = s.adcs ∧ (State.writeAnSet s origin n w).1.filt = s.filt ∧ (State.writeAnSet s origin n w).1.chks = s.chks ∧ (State.writeAnSet s origin n w).1.chkTurn = s.chkTurn ∧ (State.writeAnSet s origin n w).1.bg = s.bg ∧ (State.writeAnSet s origin n w).1.pwr = s.pwr ∧ (State.writeAnSet s origin n w).1.freeCtr = s.freeCtr ∧ (State.writeAnSet s origin n w).1.recd = s.recd ∧ (State.writeAnSet s origin n w).1.wheels = s.wheels ∧ (State.writeAnSet s origin n w).1.flt = s.flt ∧ (State.writeAnSet s origin n w).1.rpl = s.rpl ∧ (State.writeAnSet s origin n w).1.pair = s.pair ∧ (State.writeAnSet s origin n w).1.cells = s.cells ∧ (State.writeAnSet s origin n w).1.storeGen = s.storeGen := by simp [State.setpoint_frame _ _ _ _ _ _, KeepsHost, KeepsUnits, State.writeAnSet]
@[simp] theorem State.writeAnSet_cells (s : State) (origin : Origin) (n : Fin 16) (w : Word) : (State.writeAnSet s origin n w).1.cells = s.cells := by simp [State.writeAnSet_frame _ _ _ _]
theorem State.writeCount_frame (s : State) (origin : Origin) (n : Fin 16) (r : ChReg) (w : Word) : KeepsHost (State.writeCount s origin n r w).1 s ∧ KeepsUnits (State.writeCount s origin n r w).1 s := by simp [KeepsHost, KeepsUnits, State.writeCount]
theorem State.writeCap_frame (s : State) (origin : Origin) (n : Fin 16) (r : ChReg) (w : Word) : KeepsHost (State.writeCap s origin n r w).1 s ∧ KeepsUnits (State.writeCap s origin n r w).1 s := by simp [State.calChanged_frame _ _ _, KeepsHost, KeepsUnits, State.writeCap]
theorem State.writeZscmd_frame (s : State) (origin : Origin) (n : Fin 16) (w : Word) : KeepsHost (State.writeZscmd s origin n w).1 s ∧ (State.writeZscmd s origin n w).1.img = s.img ∧ (State.writeZscmd s origin n w).1.fab = s.fab ∧ (State.writeZscmd s origin n w).1.adcs = s.adcs ∧ (State.writeZscmd s origin n w).1.filt = s.filt ∧ (State.writeZscmd s origin n w).1.chks = s.chks ∧ (State.writeZscmd s origin n w).1.chkTurn = s.chkTurn ∧ (State.writeZscmd s origin n w).1.bg = s.bg ∧ (State.writeZscmd s origin n w).1.pwr = s.pwr := by simp [State.commandCapture_frame _ _ _ _ _, State.loopValue_frame _ _, State.zsClear_frame _ _, KeepsHost, KeepsUnits, State.writeZscmd]
theorem State.writeTrim_frame (s : State) (origin : Origin) (n : Fin 16) (gain : Bool) (w : Word) : KeepsHost (State.writeTrim s origin n gain w).1 s ∧ KeepsUnits (State.writeTrim s origin n gain w).1 s := by simp [State.trimWrite_frame _ _ _ _, KeepsHost, KeepsUnits, State.writeTrim]
theorem State.clearDiag_frame (s : State) (origin : Origin) (n : Fin 16) (r : ChReg) (w : Word) : KeepsHost (State.clearDiag s origin n r w).1 s ∧ KeepsUnits (State.clearDiag s origin n r w).1 s ∧ (State.clearDiag s origin n r w).1.wheels = s.wheels ∧ (State.clearDiag s origin n r w).1.flt = s.flt ∧ (State.clearDiag s origin n r w).1.rpl = s.rpl ∧ (State.clearDiag s origin n r w).1.pair = s.pair ∧ (State.clearDiag s origin n r w).1.cells = s.cells := by simp [State.clearDiag, State.dropShown_frame _ _ _ _, KeepsHost, KeepsUnits]
@[simp] theorem State.clearDiag_cells (s : State) (origin : Origin) (n : Fin 16) (r : ChReg) (w : Word) : (State.clearDiag s origin n r w).1.cells = s.cells := by simp [State.clearDiag_frame _ _ _ _ _]
theorem State.takeReseed_frame (s : State) (n : Fin 16) : KeepsHost (State.takeReseed s n) s ∧ KeepsUnits (State.takeReseed s n) s ∧ (State.takeReseed s n).recd = s.recd ∧ (State.takeReseed s n).wheels = s.wheels ∧ (State.takeReseed s n).flt = s.flt ∧ (State.takeReseed s n).rpl = s.rpl ∧ (State.takeReseed s n).pair = s.pair ∧ (State.takeReseed s n).cells = s.cells ∧ (State.takeReseed s n).storeGen = s.storeGen := by simp [State.sendChange_frame _ _ _ _ _, KeepsHost, KeepsUnits, State.takeReseed]
@[simp] theorem State.takeReseed_cells (s : State) (n : Fin 16) : (State.takeReseed s n).cells = s.cells := by simp [State.takeReseed_frame _ _]
theorem State.writeTchCmd_frame (s : State) (origin : Origin) (n : Fin 16) (w : Word) : KeepsHost (State.writeTchCmd s origin n w).1 s ∧ KeepsUnits (State.writeTchCmd s origin n w).1 s ∧ (State.writeTchCmd s origin n w).1.wheels = s.wheels ∧ (State.writeTchCmd s origin n w).1.flt = s.flt ∧ (State.writeTchCmd s origin n w).1.chans = s.chans ∧ (State.writeTchCmd s origin n w).1.rpl = s.rpl ∧ (State.writeTchCmd s origin n w).1.pair = s.pair ∧ (State.writeTchCmd s origin n w).1.cells = s.cells ∧ (State.writeTchCmd s origin n w).1.storeGen = s.storeGen := by simp [State.event_frame _ _ _ _ _ _, State.sendRing_frame _ _ _, KeepsHost, KeepsUnits, State.writeTchCmd]
@[simp] theorem State.writeTchCmd_cells (s : State) (origin : Origin) (n : Fin 16) (w : Word) : (State.writeTchCmd s origin n w).1.cells = s.cells := by simp [State.writeTchCmd_frame _ _ _ _]
theorem State.chWrite_frame (s : State) (origin : Origin) (n : Fin 16) (r : ChReg) (w : Word) : KeepsHost (State.chWrite s origin n r w).1 s ∧ (State.chWrite s origin n r w).1.adcs = s.adcs ∧ (State.chWrite s origin n r w).1.chks = s.chks ∧ (State.chWrite s origin n r w).1.chkTurn = s.chkTurn ∧ (State.chWrite s origin n r w).1.bg = s.bg ∧ (State.chWrite s origin n r w).1.pwr = s.pwr := by
  unfold State.chWrite; (repeat' split) <;> simp [State.clearDiag_frame _ _ _ _ _, State.writeAnCmd_frame _ _ _ _, State.writeAnSet_frame _ _ _ _, State.writeCap_frame _ _ _ _ _, State.writeCount_frame _ _ _ _ _, State.writeDoCmd_frame _ _ _ _, State.writeDoDuty_frame _ _ _ _, State.writeMode_frame _ _ _ _, State.writeParam_frame _ _ _ _ _, State.writeTchCmd_frame _ _ _ _, State.writeTrim_frame _ _ _ _ _, State.writeZscmd_frame _ _ _ _, KeepsHost, KeepsUnits]
/-! ## ChanReads -/
theorem State.measured_frame (s : State) (bits : Nat) : KeepsHost (State.measured s bits).2 s ∧ (State.measured s bits).2.svc = s.svc ∧ (State.measured s bits).2.img = s.img ∧ (State.measured s bits).2.fab = s.fab ∧ (State.measured s bits).2.adcs = s.adcs ∧ (State.measured s bits).2.filt = s.filt ∧ (State.measured s bits).2.chks = s.chks ∧ (State.measured s bits).2.chkTurn = s.chkTurn ∧ (State.measured s bits).2.bg = s.bg ∧ (State.measured s bits).2.pwr = s.pwr ∧ (State.measured s bits).2.recd = s.recd ∧ (State.measured s bits).2.wheels = s.wheels ∧ (State.measured s bits).2.flt = s.flt ∧ (State.measured s bits).2.chans = s.chans ∧ (State.measured s bits).2.rings = s.rings ∧ (State.measured s bits).2.rpl = s.rpl ∧ (State.measured s bits).2.pair = s.pair ∧ (State.measured s bits).2.cells = s.cells ∧ (State.measured s bits).2.storeGen = s.storeGen := by simp [State.free_frame _, KeepsHost, KeepsUnits, State.measured]
theorem State.doMeas_frame (s : State) (n : Fin 16) : KeepsHost (State.doMeas s n).2 s ∧ (State.doMeas s n).2.svc = s.svc ∧ (State.doMeas s n).2.img = s.img ∧ (State.doMeas s n).2.fab = s.fab ∧ (State.doMeas s n).2.adcs = s.adcs ∧ (State.doMeas s n).2.filt = s.filt ∧ (State.doMeas s n).2.chks = s.chks ∧ (State.doMeas s n).2.chkTurn = s.chkTurn ∧ (State.doMeas s n).2.bg = s.bg ∧ (State.doMeas s n).2.pwr = s.pwr ∧ (State.doMeas s n).2.recd = s.recd ∧ (State.doMeas s n).2.wheels = s.wheels ∧ (State.doMeas s n).2.flt = s.flt ∧ (State.doMeas s n).2.rings = s.rings ∧ (State.doMeas s n).2.rpl = s.rpl ∧ (State.doMeas s n).2.pair = s.pair ∧ (State.doMeas s n).2.cells = s.cells ∧ (State.doMeas s n).2.storeGen = s.storeGen := by simp [State.free_frame _, KeepsHost, KeepsUnits, State.doMeas]
@[simp] theorem State.doMeas_cells (s : State) (n : Fin 16) : (State.doMeas s n).2.cells = s.cells := by simp [State.doMeas_frame _ _]
theorem State.clearRead_frame (s : State) (n : Fin 16) (j : Nat) (f : Word → Chan → Chan) : KeepsHost (State.clearRead s n j f).2 s ∧ KeepsUnits (State.clearRead s n j f).2 s ∧ (State.clearRead s n j f).2.recd = s.recd ∧ (State.clearRead s n j f).2.wheels = s.wheels ∧ (State.clearRead s n j f).2.flt = s.flt ∧ (State.clearRead s n j f).2.rpl = s.rpl ∧ (State.clearRead s n j f).2.pair = s.pair ∧ (State.clearRead s n j f).2.cells = s.cells ∧ (State.clearRead s n j f).2.storeGen = s.storeGen := by simp [State.clearRead, State.dropShown_frame _ _ _ _, KeepsHost, KeepsUnits]
@[simp] theorem State.clearRead_cells (s : State) (n : Fin 16) (j : Nat) (f : Word → Chan → Chan) : (State.clearRead s n j f).2.cells = s.cells := by simp [State.clearRead_frame _ _ _ _]
theorem State.chRead_frame (s : State) (n : Fin 16) (r : ChReg) : KeepsHost (State.chRead s n r).2 s ∧ (State.chRead s n r).2.svc = s.svc ∧ (State.chRead s n r).2.img = s.img ∧ (State.chRead s n r).2.fab = s.fab ∧ (State.chRead s n r).2.adcs = s.adcs ∧ (State.chRead s n r).2.filt = s.filt ∧ (State.chRead s n r).2.chks = s.chks ∧ (State.chRead s n r).2.chkTurn = s.chkTurn ∧ (State.chRead s n r).2.bg = s.bg ∧ (State.chRead s n r).2.pwr = s.pwr ∧ (State.chRead s n r).2.recd = s.recd ∧ (State.chRead s n r).2.wheels = s.wheels ∧ (State.chRead s n r).2.flt = s.flt ∧ (State.chRead s n r).2.rpl = s.rpl ∧ (State.chRead s n r).2.pair = s.pair ∧ (State.chRead s n r).2.cells = s.cells ∧ (State.chRead s n r).2.storeGen = s.storeGen := by
  unfold State.chRead; (repeat' split) <;> simp [State.clearRead_frame _ _ _ _, State.free_frame _, State.doMeas_frame _ _, KeepsHost, KeepsUnits]
@[simp] theorem State.chRead_cells (s : State) (n : Fin 16) (r : ChReg) : (State.chRead s n r).2.cells = s.cells := by simp [State.chRead_frame _ _ _]
theorem State.sendRingCfg_frame (s : State) (x : RingId) : KeepsHost (State.sendRingCfg s x) s ∧ KeepsUnits (State.sendRingCfg s x) s ∧ (State.sendRingCfg s x).recd = s.recd ∧ (State.sendRingCfg s x).wheels = s.wheels ∧ (State.sendRingCfg s x).flt = s.flt ∧ (State.sendRingCfg s x).chans = s.chans ∧ (State.sendRingCfg s x).rpl = s.rpl ∧ (State.sendRingCfg s x).pair = s.pair ∧ (State.sendRingCfg s x).cells = s.cells ∧ (State.sendRingCfg s x).storeGen = s.storeGen := by simp [State.sendRing_frame _ _ _, KeepsHost, KeepsUnits, State.sendRingCfg]
@[simp] theorem State.sendRingCfg_cells (s : State) (x : RingId) : (State.sendRingCfg s x).cells = s.cells := by simp [State.sendRingCfg_frame _ _]
theorem State.syncTaps_frame (s : State) (x : RingId) (w : Word) : KeepsHost (State.syncTaps s x w) s ∧ (State.syncTaps s x w).svc = s.svc ∧ (State.syncTaps s x w).fab = s.fab ∧ (State.syncTaps s x w).adcs = s.adcs ∧ (State.syncTaps s x w).filt = s.filt ∧ (State.syncTaps s x w).chks = s.chks ∧ (State.syncTaps s x w).chkTurn = s.chkTurn ∧ (State.syncTaps s x w).bg = s.bg ∧ (State.syncTaps s x w).pwr = s.pwr ∧ (State.syncTaps s x w).freeCtr = s.freeCtr ∧ (State.syncTaps s x w).recd = s.recd ∧ (State.syncTaps s x w).wheels = s.wheels ∧ (State.syncTaps s x w).flt = s.flt ∧ (State.syncTaps s x w).chans = s.chans ∧ (State.syncTaps s x w).rings = s.rings ∧ (State.syncTaps s x w).rpl = s.rpl ∧ (State.syncTaps s x w).pair = s.pair ∧ (State.syncTaps s x w).cells = s.cells ∧ (State.syncTaps s x w).storeGen = s.storeGen := by simp [State.freeClaim_frame _ _ _ _ _ _, State.takeClaim_frame _ _ _ _ _ _ _, KeepsHost, KeepsUnits, State.syncTaps]
@[simp] theorem State.syncTaps_cells (s : State) (x : RingId) (w : Word) : (State.syncTaps s x w).cells = s.cells := by simp [State.syncTaps_frame _ _ _]
theorem State.writePwrcfg_frame (s : State) (origin : Origin) (x : RingId) (w : Word) : KeepsHost (State.writePwrcfg s origin x w).1 s ∧ (State.writePwrcfg s origin x w).1.svc = s.svc ∧ (State.writePwrcfg s origin x w).1.fab = s.fab ∧ (State.writePwrcfg s origin x w).1.adcs = s.adcs ∧ (State.writePwrcfg s origin x w).1.filt = s.filt ∧ (State.writePwrcfg s origin x w).1.chks = s.chks ∧ (State.writePwrcfg s origin x w).1.chkTurn = s.chkTurn ∧ (State.writePwrcfg s origin x w).1.bg = s.bg ∧ (State.writePwrcfg s origin x w).1.pwr = s.pwr ∧ (State.writePwrcfg s origin x w).1.freeCtr = s.freeCtr := by simp [State.sendRingCfg_frame _ _, State.syncTaps_frame _ _ _, KeepsHost, KeepsUnits, State.writePwrcfg]
theorem State.writeLoadcfg_frame (s : State) (origin : Origin) (x : RingId) (w : Word) : KeepsHost (State.writeLoadcfg s origin x w).1 s ∧ (State.writeLoadcfg s origin x w).1.svc = s.svc ∧ (State.writeLoadcfg s origin x w).1.fab = s.fab ∧ (State.writeLoadcfg s origin x w).1.adcs = s.adcs ∧ (State.writeLoadcfg s origin x w).1.filt = s.filt ∧ (State.writeLoadcfg s origin x w).1.chks = s.chks ∧ (State.writeLoadcfg s origin x w).1.chkTurn = s.chkTurn ∧ (State.writeLoadcfg s origin x w).1.bg = s.bg ∧ (State.writeLoadcfg s origin x w).1.pwr = s.pwr ∧ (State.writeLoadcfg s origin x w).1.freeCtr = s.freeCtr := by simp [State.sendRingCfg_frame _ _, KeepsHost, KeepsUnits, State.writeLoadcfg]
theorem State.writeFskCfg_frame (s : State) (origin : Origin) (x : RingId) (w : Word) : KeepsHost (State.writeFskCfg s origin x w).1 s ∧ (State.writeFskCfg s origin x w).1.svc = s.svc ∧ (State.writeFskCfg s origin x w).1.fab = s.fab ∧ (State.writeFskCfg s origin x w).1.adcs = s.adcs ∧ (State.writeFskCfg s origin x w).1.filt = s.filt ∧ (State.writeFskCfg s origin x w).1.chks = s.chks ∧ (State.writeFskCfg s origin x w).1.chkTurn = s.chkTurn ∧ (State.writeFskCfg s origin x w).1.bg = s.bg ∧ (State.writeFskCfg s origin x w).1.pwr = s.pwr ∧ (State.writeFskCfg s origin x w).1.freeCtr = s.freeCtr := by simp [State.sendFsk_frame _ _, KeepsHost, KeepsUnits, State.writeFskCfg]
theorem State.writeFskTx_frame (s : State) (x : RingId) (w : Word) : KeepsHost (State.writeFskTx s x w).1 s ∧ KeepsUnits (State.writeFskTx s x w).1 s ∧ (State.writeFskTx s x w).1.recd = s.recd ∧ (State.writeFskTx s x w).1.wheels = s.wheels ∧ (State.writeFskTx s x w).1.flt = s.flt ∧ (State.writeFskTx s x w).1.chans = s.chans ∧ (State.writeFskTx s x w).1.rpl = s.rpl ∧ (State.writeFskTx s x w).1.pair = s.pair ∧ (State.writeFskTx s x w).1.cells = s.cells ∧ (State.writeFskTx s x w).1.storeGen = s.storeGen := by simp [State.sendRing_frame _ _ _, KeepsHost, KeepsUnits, State.writeFskTx]
@[simp] theorem State.writeFskTx_cells (s : State) (x : RingId) (w : Word) : (State.writeFskTx s x w).1.cells = s.cells := by simp [State.writeFskTx_frame _ _ _]
theorem State.ringWrite_frame (s : State) (origin : Origin) (x : RingId) (r : RingReg) (w : Word) : KeepsHost (State.ringWrite s origin x r w).1 s ∧ (State.ringWrite s origin x r w).1.svc = s.svc ∧ (State.ringWrite s origin x r w).1.fab = s.fab ∧ (State.ringWrite s origin x r w).1.adcs = s.adcs ∧ (State.ringWrite s origin x r w).1.filt = s.filt ∧ (State.ringWrite s origin x r w).1.chks = s.chks ∧ (State.ringWrite s origin x r w).1.chkTurn = s.chkTurn ∧ (State.ringWrite s origin x r w).1.bg = s.bg ∧ (State.ringWrite s origin x r w).1.pwr = s.pwr ∧ (State.ringWrite s origin x r w).1.freeCtr = s.freeCtr := by
  unfold State.ringWrite; (repeat' split) <;> simp [State.writePwrcfg_frame _ _ _ _, State.writeLoadcfg_frame _ _ _ _, State.dropShown_frame _ _ _ _, State.writeFskCfg_frame _ _ _ _, State.writeFskTx_frame _ _ _, KeepsHost, KeepsUnits]
theorem State.fskRead_frame (s : State) (x : RingId) : KeepsHost (State.fskRead s x).2 s ∧ KeepsUnits (State.fskRead s x).2 s ∧ (State.fskRead s x).2.recd = s.recd ∧ (State.fskRead s x).2.wheels = s.wheels ∧ (State.fskRead s x).2.flt = s.flt ∧ (State.fskRead s x).2.chans = s.chans ∧ (State.fskRead s x).2.rpl = s.rpl ∧ (State.fskRead s x).2.pair = s.pair ∧ (State.fskRead s x).2.cells = s.cells ∧ (State.fskRead s x).2.storeGen = s.storeGen := by
  unfold State.fskRead; (repeat' split) <;> simp [KeepsHost, KeepsUnits]
theorem State.orMeasured_frame {k : Nat} (s : State) (v : Option (BitVec k)) : KeepsHost (State.orMeasured s v).2 s ∧ (State.orMeasured s v).2.svc = s.svc ∧ (State.orMeasured s v).2.img = s.img ∧ (State.orMeasured s v).2.fab = s.fab ∧ (State.orMeasured s v).2.adcs = s.adcs ∧ (State.orMeasured s v).2.filt = s.filt ∧ (State.orMeasured s v).2.chks = s.chks ∧ (State.orMeasured s v).2.chkTurn = s.chkTurn ∧ (State.orMeasured s v).2.bg = s.bg ∧ (State.orMeasured s v).2.pwr = s.pwr ∧ (State.orMeasured s v).2.recd = s.recd ∧ (State.orMeasured s v).2.wheels = s.wheels ∧ (State.orMeasured s v).2.flt = s.flt ∧ (State.orMeasured s v).2.chans = s.chans ∧ (State.orMeasured s v).2.rings = s.rings ∧ (State.orMeasured s v).2.rpl = s.rpl ∧ (State.orMeasured s v).2.pair = s.pair ∧ (State.orMeasured s v).2.cells = s.cells ∧ (State.orMeasured s v).2.storeGen = s.storeGen := by
  unfold State.orMeasured; (repeat' split) <;> simp [State.free_frame _, KeepsHost, KeepsUnits]
theorem State.tapvRead_frame (s : State) (x : RingId) : KeepsHost (State.tapvRead s x).2 s ∧ (State.tapvRead s x).2.svc = s.svc ∧ (State.tapvRead s x).2.img = s.img ∧ (State.tapvRead s x).2.fab = s.fab ∧ (State.tapvRead s x).2.adcs = s.adcs ∧ (State.tapvRead s x).2.filt = s.filt ∧ (State.tapvRead s x).2.chks = s.chks ∧ (State.tapvRead s x).2.chkTurn = s.chkTurn ∧ (State.tapvRead s x).2.bg = s.bg ∧ (State.tapvRead s x).2.pwr = s.pwr ∧ (State.tapvRead s x).2.recd = s.recd ∧ (State.tapvRead s x).2.wheels = s.wheels ∧ (State.tapvRead s x).2.flt = s.flt ∧ (State.tapvRead s x).2.chans = s.chans ∧ (State.tapvRead s x).2.rings = s.rings ∧ (State.tapvRead s x).2.rpl = s.rpl ∧ (State.tapvRead s x).2.pair = s.pair ∧ (State.tapvRead s x).2.cells = s.cells ∧ (State.tapvRead s x).2.storeGen = s.storeGen := by simp [State.orMeasured_frame _ _, KeepsHost, KeepsUnits, State.tapvRead]
theorem State.ringRead_frame (s : State) (x : RingId) (r : RingReg) : KeepsHost (State.ringRead s x r).2 s ∧ (State.ringRead s x r).2.svc = s.svc ∧ (State.ringRead s x r).2.img = s.img ∧ (State.ringRead s x r).2.fab = s.fab ∧ (State.ringRead s x r).2.adcs = s.adcs ∧ (State.ringRead s x r).2.filt = s.filt ∧ (State.ringRead s x r).2.chks = s.chks ∧ (State.ringRead s x r).2.chkTurn = s.chkTurn ∧ (State.ringRead s x r).2.bg = s.bg ∧ (State.ringRead s x r).2.pwr = s.pwr ∧ (State.ringRead s x r).2.recd = s.recd ∧ (State.ringRead s x r).2.wheels = s.wheels ∧ (State.ringRead s x r).2.flt = s.flt ∧ (State.ringRead s x r).2.chans = s.chans ∧ (State.ringRead s x r).2.rpl = s.rpl ∧ (State.ringRead s x r).2.pair = s.pair ∧ (State.ringRead s x r).2.cells = s.cells ∧ (State.ringRead s x r).2.storeGen = s.storeGen := by
  unfold State.ringRead; (repeat' split) <;> simp [State.tapvRead_frame _ _, State.orMeasured_frame _ _, State.free_frame _, State.dropShown_frame _ _ _ _, State.fskRead_frame _ _, KeepsHost, KeepsUnits]
@[simp] theorem State.ringRead_cells (s : State) (x : RingId) (r : RingReg) : (State.ringRead s x r).2.cells = s.cells := by simp [State.ringRead_frame _ _ _]
theorem State.writeArm_frame (s : State) (origin : Origin) (w : Word) : KeepsHost (State.writeArm s origin w).1 s ∧ (State.writeArm s origin w).1.img = s.img ∧ (State.writeArm s origin w).1.fab = s.fab ∧ (State.writeArm s origin w).1.adcs = s.adcs ∧ (State.writeArm s origin w).1.filt = s.filt ∧ (State.writeArm s origin w).1.chks = s.chks ∧ (State.writeArm s origin w).1.chkTurn = s.chkTurn ∧ (State.writeArm s origin w).1.bg = s.bg ∧ (State.writeArm s origin w).1.pwr = s.pwr ∧ (State.writeArm s origin w).1.freeCtr = s.freeCtr ∧ (State.writeArm s origin w).1.wheels = s.wheels ∧ (State.writeArm s origin w).1.flt = s.flt ∧ (State.writeArm s origin w).1.chans = s.chans ∧ (State.writeArm s origin w).1.rings = s.rings ∧ (State.writeArm s origin w).1.rpl = s.rpl ∧ (State.writeArm s origin w).1.pair = s.pair ∧ (State.writeArm s origin w).1.cells = s.cells ∧ (State.writeArm s origin w).1.storeGen = s.storeGen := by simp [State.disarm_frame _ _, State.event_frame _ _ _ _ _ _, KeepsHost, KeepsUnits, State.writeArm]
theorem State.svcWrite_frame (s : State) (origin : Origin) (r : SvcReg) (w : Word) : KeepsHost (State.svcWrite s origin r w).1 s ∧ (State.svcWrite s origin r w).1.img = s.img ∧ (State.svcWrite s origin r w).1.fab = s.fab ∧ (State.svcWrite s origin r w).1.adcs = s.adcs ∧ (State.svcWrite s origin r w).1.filt = s.filt ∧ (State.svcWrite s origin r w).1.chks = s.chks ∧ (State.svcWrite s origin r w).1.chkTurn = s.chkTurn ∧ (State.svcWrite s origin r w).1.bg = s.bg ∧ (State.svcWrite s origin r w).1.pwr = s.pwr ∧ (State.svcWrite s origin r w).1.freeCtr = s.freeCtr ∧ (State.svcWrite s origin r w).1.wheels = s.wheels ∧ (State.svcWrite s origin r w).1.flt = s.flt ∧ (State.svcWrite s origin r w).1.chans = s.chans ∧ (State.svcWrite s origin r w).1.rings = s.rings ∧ (State.svcWrite s origin r w).1.rpl = s.rpl ∧ (State.svcWrite s origin r w).1.pair = s.pair ∧ (State.svcWrite s origin r w).1.cells = s.cells ∧ (State.svcWrite s origin r w).1.storeGen = s.storeGen := by
  unfold State.svcWrite; (repeat' split) <;> simp [State.writeArm_frame _ _ _, KeepsHost, KeepsUnits]
@[simp] theorem State.svcWrite_cells (s : State) (origin : Origin) (r : SvcReg) (w : Word) : (State.svcWrite s origin r w).1.cells = s.cells := by simp [State.svcWrite_frame _ _ _ _]
theorem State.svcRead_frame (s : State) (r : SvcReg) : KeepsHost (State.svcRead s r).2 s ∧ (State.svcRead s r).2.img = s.img ∧ (State.svcRead s r).2.fab = s.fab ∧ (State.svcRead s r).2.adcs = s.adcs ∧ (State.svcRead s r).2.filt = s.filt ∧ (State.svcRead s r).2.chks = s.chks ∧ (State.svcRead s r).2.chkTurn = s.chkTurn ∧ (State.svcRead s r).2.bg = s.bg ∧ (State.svcRead s r).2.pwr = s.pwr ∧ (State.svcRead s r).2.freeCtr = s.freeCtr ∧ (State.svcRead s r).2.recd = s.recd ∧ (State.svcRead s r).2.wheels = s.wheels ∧ (State.svcRead s r).2.flt = s.flt ∧ (State.svcRead s r).2.chans = s.chans ∧ (State.svcRead s r).2.rings = s.rings ∧ (State.svcRead s r).2.rpl = s.rpl ∧ (State.svcRead s r).2.pair = s.pair ∧ (State.svcRead s r).2.cells = s.cells ∧ (State.svcRead s r).2.storeGen = s.storeGen := by
  unfold State.svcRead; (repeat' split) <;> simp [KeepsHost, KeepsUnits]
@[simp] theorem State.svcRead_cells (s : State) (r : SvcReg) : (State.svcRead s r).2.cells = s.cells := by simp [State.svcRead_frame _ _]
/-! ## TouchPlug -/
theorem State.judgeElectrode_frame (s : State) (n : Fin 16) (c : Nat) (failed : Bool) : KeepsHost (State.judgeElectrode s n c failed).1 s ∧ KeepsUnits (State.judgeElectrode s n c failed).1 s ∧ (State.judgeElectrode s n c failed).1.recd = s.recd ∧ (State.judgeElectrode s n c failed).1.wheels = s.wheels ∧ (State.judgeElectrode s n c failed).1.flt = s.flt ∧ (State.judgeElectrode s n c failed).1.rpl = s.rpl ∧ (State.judgeElectrode s n c failed).1.pair = s.pair ∧ (State.judgeElectrode s n c failed).1.cells = s.cells ∧ (State.judgeElectrode s n c failed).1.storeGen = s.storeGen := by simp [State.diagClear_frame _ _ _, State.diagFollow_frame _ _ _ _, State.guardedDetect_frame _ _ _, KeepsHost, KeepsUnits, State.judgeElectrode]
theorem State.reseed_frame (s : State) (n : Fin 16) : KeepsHost (State.reseed s n) s ∧ KeepsUnits (State.reseed s n) s ∧ (State.reseed s n).recd = s.recd ∧ (State.reseed s n).wheels = s.wheels ∧ (State.reseed s n).flt = s.flt ∧ (State.reseed s n).rings = s.rings ∧ (State.reseed s n).rpl = s.rpl ∧ (State.reseed s n).pair = s.pair ∧ (State.reseed s n).cells = s.cells ∧ (State.reseed s n).storeGen = s.storeGen := by simp [KeepsHost, KeepsUnits, State.reseed]
theorem State.plugDiag_frame (s : State) (n : Fin 16) (old : Nat) (new : Nat) (kind : Nat) (cnt : Nat) : KeepsHost (State.plugDiag s n old new kind cnt) s ∧ KeepsUnits (State.plugDiag s n old new kind cnt) s ∧ (State.plugDiag s n old new kind cnt).recd = s.recd ∧ (State.plugDiag s n old new kind cnt).wheels = s.wheels ∧ (State.plugDiag s n old new kind cnt).flt = s.flt ∧ (State.plugDiag s n old new kind cnt).rpl = s.rpl ∧ (State.plugDiag s n old new kind cnt).pair = s.pair ∧ (State.plugDiag s n old new kind cnt).cells = s.cells ∧ (State.plugDiag s n old new kind cnt).storeGen = s.storeGen := by simp [State.diagClearAll_frame _ _ _, State.diagFollow_frame _ _ _ _, State.diagRaise_frame _ _ _ _, KeepsHost, KeepsUnits, State.plugDiag]
theorem State.replugged_frame (s : State) (n : Fin 16) (away : Option Nat) : KeepsHost (State.replugged s n away) s ∧ KeepsUnits (State.replugged s n away) s ∧ (State.replugged s n away).wheels = s.wheels ∧ (State.replugged s n away).flt = s.flt ∧ (State.replugged s n away).chans = s.chans ∧ (State.replugged s n away).rings = s.rings ∧ (State.replugged s n away).rpl = s.rpl ∧ (State.replugged s n away).pair = s.pair ∧ (State.replugged s n away).cells = s.cells ∧ (State.replugged s n away).storeGen = s.storeGen := by
  unfold State.replugged; (repeat' split) <;> simp [State.event_frame _ _ _ _ _ _, KeepsHost, KeepsUnits]
/-! ## Filter -/
theorem State.roundsSoon_frame (s : State) : KeepsHost (State.roundsSoon s) s ∧ (State.roundsSoon s).svc = s.svc ∧ (State.roundsSoon s).img = s.img ∧ (State.roundsSoon s).fab = s.fab ∧ (State.roundsSoon s).filt = s.filt ∧ (State.roundsSoon s).chks = s.chks ∧ (State.roundsSoon s).chkTurn = s.chkTurn ∧ (State.roundsSoon s).bg = s.bg ∧ (State.roundsSoon s).pwr = s.pwr ∧ (State.roundsSoon s).freeCtr = s.freeCtr ∧ (State.roundsSoon s).recd = s.recd ∧ (State.roundsSoon s).wheels = s.wheels ∧ (State.roundsSoon s).flt = s.flt ∧ (State.roundsSoon s).chans = s.chans ∧ (State.roundsSoon s).rings = s.rings ∧ (State.roundsSoon s).rpl = s.rpl ∧ (State.roundsSoon s).pair = s.pair ∧ (State.roundsSoon s).cells = s.cells ∧ (State.roundsSoon s).storeGen = s.storeGen := by simp [KeepsHost, KeepsUnits, State.roundsSoon]
theorem State.setMeas_frame (s : State) (n : Fin 16) (v : Word) (flags : Nat) : KeepsHost (State.setMeas s n v flags) s ∧ KeepsUnits (State.setMeas s n v flags) s ∧ (State.setMeas s n v flags).recd = s.recd ∧ (State.setMeas s n v flags).wheels = s.wheels ∧ (State.setMeas s n v flags).flt = s.flt ∧ (State.setMeas s n v flags).rings = s.rings ∧ (State.setMeas s n v flags).rpl = s.rpl ∧ (State.setMeas s n v flags).pair = s.pair ∧ (State.setMeas s n v flags).cells = s.cells ∧ (State.setMeas s n v flags).storeGen = s.storeGen := by simp [State.noteAi_frame _ _, KeepsHost, KeepsUnits, State.setMeas]
@[simp] theorem State.setMeas_cells (s : State) (n : Fin 16) (v : Word) (flags : Nat) : (State.setMeas s n v flags).cells = s.cells := by simp [State.setMeas_frame _ _ _ _]
theorem State.outputValue_frame (s : State) (h : Chain) (rate : Nat) : KeepsHost (State.outputValue s h rate).2 s ∧ (State.outputValue s h rate).2.svc = s.svc ∧ (State.outputValue s h rate).2.img = s.img ∧ (State.outputValue s h rate).2.fab = s.fab ∧ (State.outputValue s h rate).2.adcs = s.adcs ∧ (State.outputValue s h rate).2.filt = s.filt ∧ (State.outputValue s h rate).2.chks = s.chks ∧ (State.outputValue s h rate).2.chkTurn = s.chkTurn ∧ (State.outputValue s h rate).2.bg = s.bg ∧ (State.outputValue s h rate).2.pwr = s.pwr ∧ (State.outputValue s h rate).2.recd = s.recd ∧ (State.outputValue s h rate).2.wheels = s.wheels ∧ (State.outputValue s h rate).2.flt = s.flt ∧ (State.outputValue s h rate).2.chans = s.chans ∧ (State.outputValue s h rate).2.rings = s.rings ∧ (State.outputValue s h rate).2.rpl = s.rpl ∧ (State.outputValue s h rate).2.pair = s.pair ∧ (State.outputValue s h rate).2.cells = s.cells ∧ (State.outputValue s h rate).2.storeGen = s.storeGen := by simp [KeepsHost, KeepsUnits, State.outputValue]
@[simp] theorem State.outputValue_cells (s : State) (h : Chain) (rate : Nat) : (State.outputValue s h rate).2.cells = s.cells := by simp [State.outputValue_frame _ _ _]
theorem State.chainOutput_frame (s : State) (n : Fin 16) (rate : Nat) : KeepsHost (State.chainOutput s n rate) s ∧ (State.chainOutput s n rate).svc = s.svc ∧ (State.chainOutput s n rate).img = s.img ∧ (State.chainOutput s n rate).fab = s.fab ∧ (State.chainOutput s n rate).adcs = s.adcs ∧ (State.chainOutput s n rate).chks = s.chks ∧ (State.chainOutput s n rate).chkTurn = s.chkTurn ∧ (State.chainOutput s n rate).bg = s.bg ∧ (State.chainOutput s n rate).pwr = s.pwr ∧ (State.chainOutput s n rate).storeGen = s.storeGen := by simp [State.outputValue_frame _ _ _, State.setMeas_frame _ _ _ _, State.toWheels_frame _ _ _ _ _ _, KeepsHost, KeepsUnits, State.chainOutput]
theorem State.feedChain_frame (s : State) (n : Fin 16) (rate : Nat) (v : Option Int) (fl : Nat) : KeepsHost (State.feedChain s n rate v fl) s ∧ (State.feedChain s n rate v fl).svc = s.svc ∧ (State.feedChain s n rate v fl).img = s.img ∧ (State.feedChain s n rate v fl).fab = s.fab ∧ (State.feedChain s n rate v fl).adcs = s.adcs ∧ (State.feedChain s n rate v fl).chks = s.chks ∧ (State.feedChain s n rate v fl).chkTurn = s.chkTurn ∧ (State.feedChain s n rate v fl).bg = s.bg ∧ (State.feedChain s n rate v fl).pwr = s.pwr ∧ (State.feedChain s n rate v fl).storeGen = s.storeGen := by simp [State.chainOutput_frame _ _ _, KeepsHost, KeepsUnits, State.feedChain]
theorem State.syncNow_frame (s : State) (f : Nat) : KeepsHost (State.syncNow s f) s ∧ (State.syncNow s f).svc = s.svc ∧ (State.syncNow s f).img = s.img ∧ (State.syncNow s f).fab = s.fab ∧ (State.syncNow s f).adcs = s.adcs ∧ (State.syncNow s f).chks = s.chks ∧ (State.syncNow s f).chkTurn = s.chkTurn ∧ (State.syncNow s f).bg = s.bg ∧ (State.syncNow s f).pwr = s.pwr ∧ (State.syncNow s f).freeCtr = s.freeCtr ∧ (State.syncNow s f).wheels = s.wheels ∧ (State.syncNow s f).flt = s.flt ∧ (State.syncNow s f).chans = s.chans ∧ (State.syncNow s f).rings = s.rings ∧ (State.syncNow s f).rpl = s.rpl ∧ (State.syncNow s f).pair = s.pair ∧ (State.syncNow s f).cells = s.cells ∧ (State.syncNow s f).storeGen = s.storeGen := by
  unfold State.syncNow; dsimp only; (repeat' split) <;> simp [State.event_frame _ _ _ _ _ _, State.restartChain_frame _ _, KeepsHost, KeepsUnits]
theorem State.takeFiltCfg_frame (s : State) : KeepsHost (State.takeFiltCfg s) s ∧ (State.takeFiltCfg s).svc = s.svc ∧ (State.takeFiltCfg s).img = s.img ∧ (State.takeFiltCfg s).fab = s.fab ∧ (State.takeFiltCfg s).adcs = s.adcs ∧ (State.takeFiltCfg s).chks = s.chks ∧ (State.takeFiltCfg s).chkTurn = s.chkTurn ∧ (State.takeFiltCfg s).bg = s.bg ∧ (State.takeFiltCfg s).pwr = s.pwr ∧ (State.takeFiltCfg s).freeCtr = s.freeCtr ∧ (State.takeFiltCfg s).recd = s.recd ∧ (State.takeFiltCfg s).wheels = s.wheels ∧ (State.takeFiltCfg s).flt = s.flt ∧ (State.takeFiltCfg s).chans = s.chans ∧ (State.takeFiltCfg s).rings = s.rings ∧ (State.takeFiltCfg s).rpl = s.rpl ∧ (State.takeFiltCfg s).pair = s.pair ∧ (State.takeFiltCfg s).cells = s.cells ∧ (State.takeFiltCfg s).storeGen = s.storeGen := by
  unfold State.takeFiltCfg; (repeat' split) <;> simp [State.restartChains_frame _ _, KeepsHost, KeepsUnits]
theorem State.chainBoundary_frame (s : State) (f : Nat) : KeepsHost (State.chainBoundary s f) s ∧ (State.chainBoundary s f).svc = s.svc ∧ (State.chainBoundary s f).img = s.img ∧ (State.chainBoundary s f).fab = s.fab ∧ (State.chainBoundary s f).adcs = s.adcs ∧ (State.chainBoundary s f).chks = s.chks ∧ (State.chainBoundary s f).chkTurn = s.chkTurn ∧ (State.chainBoundary s f).bg = s.bg ∧ (State.chainBoundary s f).pwr = s.pwr ∧ (State.chainBoundary s f).freeCtr = s.freeCtr ∧ (State.chainBoundary s f).recd = s.recd ∧ (State.chainBoundary s f).wheels = s.wheels ∧ (State.chainBoundary s f).flt = s.flt ∧ (State.chainBoundary s f).chans = s.chans ∧ (State.chainBoundary s f).rings = s.rings ∧ (State.chainBoundary s f).rpl = s.rpl ∧ (State.chainBoundary s f).pair = s.pair ∧ (State.chainBoundary s f).cells = s.cells ∧ (State.chainBoundary s f).storeGen = s.storeGen := by simp [KeepsHost, KeepsUnits, State.chainBoundary]
theorem State.settleResid_frame (s : State) : KeepsHost (State.settleResid s) s ∧ KeepsUnits (State.settleResid s) s ∧ (State.settleResid s).chans = s.chans ∧ (State.settleResid s).storeGen = s.storeGen := by simp [State.clearLive_frame _ _, KeepsHost, KeepsUnits, State.settleResid]
theorem State.stopChains_frame (s : State) : KeepsHost (State.stopChains s) s ∧ (State.stopChains s).svc = s.svc ∧ (State.stopChains s).img = s.img ∧ (State.stopChains s).fab = s.fab ∧ (State.stopChains s).adcs = s.adcs ∧ (State.stopChains s).chks = s.chks ∧ (State.stopChains s).chkTurn = s.chkTurn ∧ (State.stopChains s).bg = s.bg ∧ (State.stopChains s).pwr = s.pwr ∧ (State.stopChains s).freeCtr = s.freeCtr ∧ (State.stopChains s).recd = s.recd ∧ (State.stopChains s).wheels = s.wheels ∧ (State.stopChains s).flt = s.flt ∧ (State.stopChains s).chans = s.chans ∧ (State.stopChains s).rings = s.rings ∧ (State.stopChains s).rpl = s.rpl ∧ (State.stopChains s).pair = s.pair ∧ (State.stopChains s).cells = s.cells ∧ (State.stopChains s).storeGen = s.storeGen := by simp [KeepsHost, KeepsUnits, State.stopChains]
@[simp] theorem State.stopChains_cells (s : State) : (State.stopChains s).cells = s.cells := by simp [State.stopChains_frame _]
theorem State.filtBoundary_frame (s : State) (f : Nat) : KeepsHost (State.filtBoundary s f) s ∧ (State.filtBoundary s f).svc = s.svc ∧ (State.filtBoundary s f).img = s.img ∧ (State.filtBoundary s f).fab = s.fab ∧ (State.filtBoundary s f).adcs = s.adcs ∧ (State.filtBoundary s f).chks = s.chks ∧ (State.filtBoundary s f).chkTurn = s.chkTurn ∧ (State.filtBoundary s f).bg = s.bg ∧ (State.filtBoundary s f).pwr = s.pwr ∧ (State.filtBoundary s f).freeCtr = s.freeCtr ∧ (State.filtBoundary s f).wheels = s.wheels ∧ (State.filtBoundary s f).flt = s.flt ∧ (State.filtBoundary s f).chans = s.chans ∧ (State.filtBoundary s f).rings = s.rings ∧ (State.filtBoundary s f).rpl = s.rpl ∧ (State.filtBoundary s f).pair = s.pair ∧ (State.filtBoundary s f).cells = s.cells ∧ (State.filtBoundary s f).storeGen = s.storeGen := by simp [State.chainBoundary_frame _ _, State.syncNow_frame _ _, State.takeFiltCfg_frame _, KeepsHost, KeepsUnits, State.filtBoundary]
theorem State.filtEdge_frame (s : State) : KeepsHost (State.filtEdge s) s ∧ (State.filtEdge s).svc = s.svc ∧ (State.filtEdge s).img = s.img ∧ (State.filtEdge s).fab = s.fab ∧ (State.filtEdge s).adcs = s.adcs ∧ (State.filtEdge s).chks = s.chks ∧ (State.filtEdge s).chkTurn = s.chkTurn ∧ (State.filtEdge s).bg = s.bg ∧ (State.filtEdge s).pwr = s.pwr ∧ (State.filtEdge s).freeCtr = s.freeCtr ∧ (State.filtEdge s).recd = s.recd ∧ (State.filtEdge s).wheels = s.wheels ∧ (State.filtEdge s).flt = s.flt ∧ (State.filtEdge s).chans = s.chans ∧ (State.filtEdge s).rings = s.rings ∧ (State.filtEdge s).rpl = s.rpl ∧ (State.filtEdge s).pair = s.pair ∧ (State.filtEdge s).cells = s.cells ∧ (State.filtEdge s).storeGen = s.storeGen := by simp [KeepsHost, KeepsUnits, State.filtEdge]
theorem State.writeChainCfg_frame (s : State) (origin : Origin) (n : Fin 16) (w : Word) : KeepsHost (State.writeChainCfg s origin n w).1 s ∧ (State.writeChainCfg s origin n w).1.svc = s.svc ∧ (State.writeChainCfg s origin n w).1.fab = s.fab ∧ (State.writeChainCfg s origin n w).1.adcs = s.adcs ∧ (State.writeChainCfg s origin n w).1.chks = s.chks ∧ (State.writeChainCfg s origin n w).1.chkTurn = s.chkTurn ∧ (State.writeChainCfg s origin n w).1.bg = s.bg ∧ (State.writeChainCfg s origin n w).1.pwr = s.pwr ∧ (State.writeChainCfg s origin n w).1.freeCtr = s.freeCtr := by simp [State.freeClaim_frame _ _ _ _ _ _, KeepsHost, KeepsUnits, State.writeChainCfg]
theorem State.writeThreshold_frame (s : State) (origin : Origin) (n : Fin 16) (r : FiltChReg) (w : Word) : KeepsHost (State.writeThreshold s origin n r w).1 s ∧ (State.writeThreshold s origin n r w).1.svc = s.svc ∧ (State.writeThreshold s origin n r w).1.fab = s.fab ∧ (State.writeThreshold s origin n r w).1.adcs = s.adcs ∧ (State.writeThreshold s origin n r w).1.chks = s.chks ∧ (State.writeThreshold s origin n r w).1.chkTurn = s.chkTurn ∧ (State.writeThreshold s origin n r w).1.bg = s.bg ∧ (State.writeThreshold s origin n r w).1.pwr = s.pwr ∧ (State.writeThreshold s origin n r w).1.freeCtr = s.freeCtr := by simp [KeepsHost, KeepsUnits, State.writeThreshold]
theorem State.filtChWrite_frame (s : State) (origin : Origin) (n : Fin 16) (r : FiltChReg) (w : Word) : KeepsHost (State.filtChWrite s origin n r w).1 s ∧ (State.filtChWrite s origin n r w).1.svc = s.svc ∧ (State.filtChWrite s origin n r w).1.fab = s.fab ∧ (State.filtChWrite s origin n r w).1.adcs = s.adcs ∧ (State.filtChWrite s origin n r w).1.chks = s.chks ∧ (State.filtChWrite s origin n r w).1.chkTurn = s.chkTurn ∧ (State.filtChWrite s origin n r w).1.bg = s.bg ∧ (State.filtChWrite s origin n r w).1.pwr = s.pwr ∧ (State.filtChWrite s origin n r w).1.freeCtr = s.freeCtr := by
  unfold State.filtChWrite; (repeat' split) <;> simp [State.writeChainCfg_frame _ _ _ _, State.writeThreshold_frame _ _ _ _ _, KeepsHost, KeepsUnits]
theorem State.writeFiltCfg_frame (s : State) (origin : Origin) (w : Word) : KeepsHost (State.writeFiltCfg s origin w).1 s ∧ (State.writeFiltCfg s origin w).1.svc = s.svc ∧ (State.writeFiltCfg s origin w).1.fab = s.fab ∧ (State.writeFiltCfg s origin w).1.adcs = s.adcs ∧ (State.writeFiltCfg s origin w).1.chks = s.chks ∧ (State.writeFiltCfg s origin w).1.chkTurn = s.chkTurn ∧ (State.writeFiltCfg s origin w).1.bg = s.bg ∧ (State.writeFiltCfg s origin w).1.pwr = s.pwr ∧ (State.writeFiltCfg s origin w).1.freeCtr = s.freeCtr := by simp [KeepsHost, KeepsUnits, State.writeFiltCfg]
theorem State.writeSync_frame (s : State) (origin : Origin) (w : Word) : KeepsHost (State.writeSync s origin w).1 s ∧ (State.writeSync s origin w).1.svc = s.svc ∧ (State.writeSync s origin w).1.img = s.img ∧ (State.writeSync s origin w).1.fab = s.fab ∧ (State.writeSync s origin w).1.adcs = s.adcs ∧ (State.writeSync s origin w).1.chks = s.chks ∧ (State.writeSync s origin w).1.chkTurn = s.chkTurn ∧ (State.writeSync s origin w).1.bg = s.bg ∧ (State.writeSync s origin w).1.pwr = s.pwr ∧ (State.writeSync s origin w).1.freeCtr = s.freeCtr ∧ (State.writeSync s origin w).1.recd = s.recd ∧ (State.writeSync s origin w).1.wheels = s.wheels ∧ (State.writeSync s origin w).1.flt = s.flt ∧ (State.writeSync s origin w).1.chans = s.chans ∧ (State.writeSync s origin w).1.rings = s.rings ∧ (State.writeSync s origin w).1.rpl = s.rpl ∧ (State.writeSync s origin w).1.pair = s.pair ∧ (State.writeSync s origin w).1.cells = s.cells ∧ (State.writeSync s origin w).1.storeGen = s.storeGen := by simp [KeepsHost, KeepsUnits, State.writeSync]
@[simp] theorem State.writeSync_cells (s : State) (origin : Origin) (w : Word) : (State.writeSync s origin w).1.cells = s.cells := by simp [State.writeSync_frame _ _ _]
theorem State.filtWrite_frame (s : State) (origin : Origin) (r : FiltReg) (w : Word) : KeepsHost (State.filtWrite s origin r w).1 s ∧ (State.filtWrite s origin r w).1.svc = s.svc ∧ (State.filtWrite s origin r w).1.fab = s.fab ∧ (State.filtWrite s origin r w).1.adcs = s.adcs ∧ (State.filtWrite s origin r w).1.chks = s.chks ∧ (State.filtWrite s origin r w).1.chkTurn = s.chkTurn ∧ (State.filtWrite s origin r w).1.bg = s.bg ∧ (State.filtWrite s origin r w).1.pwr = s.pwr ∧ (State.filtWrite s origin r w).1.freeCtr = s.freeCtr := by
  unfold State.filtWrite; (repeat' split) <;> simp [State.writeFiltCfg_frame _ _ _, State.writeSync_frame _ _ _, KeepsHost, KeepsUnits]
theorem State.filtRead_frame (s : State) (r : FiltReg) : KeepsHost (State.filtRead s r).2 s ∧ (State.filtRead s r).2.svc = s.svc ∧ (State.filtRead s r).2.img = s.img ∧ (State.filtRead s r).2.fab = s.fab ∧ (State.filtRead s r).2.adcs = s.adcs ∧ (State.filtRead s r).2.chks = s.chks ∧ (State.filtRead s r).2.chkTurn = s.chkTurn ∧ (State.filtRead s r).2.bg = s.bg ∧ (State.filtRead s r).2.pwr = s.pwr ∧ (State.filtRead s r).2.freeCtr = s.freeCtr ∧ (State.filtRead s r).2.recd = s.recd ∧ (State.filtRead s r).2.wheels = s.wheels ∧ (State.filtRead s r).2.flt = s.flt ∧ (State.filtRead s r).2.chans = s.chans ∧ (State.filtRead s r).2.rings = s.rings ∧ (State.filtRead s r).2.rpl = s.rpl ∧ (State.filtRead s r).2.pair = s.pair ∧ (State.filtRead s r).2.cells = s.cells ∧ (State.filtRead s r).2.storeGen = s.storeGen := by
  unfold State.filtRead; (repeat' split) <;> simp [KeepsHost, KeepsUnits]
@[simp] theorem State.filtRead_cells (s : State) (r : FiltReg) : (State.filtRead s r).2.cells = s.cells := by simp [State.filtRead_frame _ _]
/-! ## Adc -/
theorem State.dropUnplaced_frame (s : State) (x : RingId) : KeepsHost (State.dropUnplaced s x) s ∧ KeepsUnits (State.dropUnplaced s x) s ∧ (State.dropUnplaced s x).recd = s.recd ∧ (State.dropUnplaced s x).wheels = s.wheels ∧ (State.dropUnplaced s x).flt = s.flt ∧ (State.dropUnplaced s x).rings = s.rings ∧ (State.dropUnplaced s x).rpl = s.rpl ∧ (State.dropUnplaced s x).pair = s.pair ∧ (State.dropUnplaced s x).cells = s.cells ∧ (State.dropUnplaced s x).storeGen = s.storeGen := by simp [State.noteAi_frame _ _, KeepsHost, KeepsUnits, State.dropUnplaced]
@[simp] theorem State.dropUnplaced_cells (s : State) (x : RingId) : (State.dropUnplaced s x).cells = s.cells := by simp [State.dropUnplaced_frame _ _]
theorem State.takeEntries_frame (s : State) (x : RingId) : KeepsHost (State.takeEntries s x) s ∧ (State.takeEntries s x).svc = s.svc ∧ (State.takeEntries s x).img = s.img ∧ (State.takeEntries s x).fab = s.fab ∧ (State.takeEntries s x).chks = s.chks ∧ (State.takeEntries s x).chkTurn = s.chkTurn ∧ (State.takeEntries s x).bg = s.bg ∧ (State.takeEntries s x).pwr = s.pwr ∧ (State.takeEntries s x).freeCtr = s.freeCtr ∧ (State.takeEntries s x).recd = s.recd ∧ (State.takeEntries s x).wheels = s.wheels ∧ (State.takeEntries s x).flt = s.flt ∧ (State.takeEntries s x).rings = s.rings ∧ (State.takeEntries s x).rpl = s.rpl ∧ (State.takeEntries s x).pair = s.pair ∧ (State.takeEntries s x).cells = s.cells ∧ (State.takeEntries s x).storeGen = s.storeGen := by simp [State.dropUnplaced_frame _ _, State.restartChain_frame _ _, KeepsHost, KeepsUnits, State.takeEntries]
theorem State.takeReference_frame (s : State) (x : RingId) (w : Word) : KeepsHost (State.takeReference s x w) s ∧ (State.takeReference s x w).svc = s.svc ∧ (State.takeReference s x w).img = s.img ∧ (State.takeReference s x w).fab = s.fab ∧ (State.takeReference s x w).chks = s.chks ∧ (State.takeReference s x w).chkTurn = s.chkTurn ∧ (State.takeReference s x w).bg = s.bg ∧ (State.takeReference s x w).pwr = s.pwr ∧ (State.takeReference s x w).freeCtr = s.freeCtr ∧ (State.takeReference s x w).recd = s.recd ∧ (State.takeReference s x w).wheels = s.wheels ∧ (State.takeReference s x w).flt = s.flt ∧ (State.takeReference s x w).chans = s.chans ∧ (State.takeReference s x w).rings = s.rings ∧ (State.takeReference s x w).rpl = s.rpl ∧ (State.takeReference s x w).pair = s.pair ∧ (State.takeReference s x w).cells = s.cells ∧ (State.takeReference s x w).storeGen = s.storeGen := by simp [State.restartChains_frame _ _, KeepsHost, KeepsUnits, State.takeReference]
theorem State.adcRaise_frame (s : State) (x : RingId) (b : Nat) (r : Fin 20) : KeepsHost (State.adcRaise s x b r) s ∧ (State.adcRaise s x b r).svc = s.svc ∧ (State.adcRaise s x b r).img = s.img ∧ (State.adcRaise s x b r).fab = s.fab ∧ (State.adcRaise s x b r).filt = s.filt ∧ (State.adcRaise s x b r).chks = s.chks ∧ (State.adcRaise s x b r).chkTurn = s.chkTurn ∧ (State.adcRaise s x b r).bg = s.bg ∧ (State.adcRaise s x b r).pwr = s.pwr ∧ (State.adcRaise s x b r).freeCtr = s.freeCtr ∧ (State.adcRaise s x b r).recd = s.recd ∧ (State.adcRaise s x b r).wheels = s.wheels ∧ (State.adcRaise s x b r).flt = s.flt ∧ (State.adcRaise s x b r).chans = s.chans ∧ (State.adcRaise s x b r).rpl = s.rpl ∧ (State.adcRaise s x b r).pair = s.pair ∧ (State.adcRaise s x b r).cells = s.cells ∧ (State.adcRaise s x b r).storeGen = s.storeGen := by simp [State.ringReport_frame _ _ _ _ _ _, KeepsHost, KeepsUnits, State.adcRaise]
@[simp] theorem State.adcRaise_cells (s : State) (x : RingId) (b : Nat) (r : Fin 20) : (State.adcRaise s x b r).cells = s.cells := by simp [State.adcRaise_frame _ _ _ _]
theorem State.monList_frame (s : State) (x : RingId) (w : Word) (told : Bool) : KeepsHost (State.monList s x w told) s ∧ (State.monList s x w told).svc = s.svc ∧ (State.monList s x w told).img = s.img ∧ (State.monList s x w told).fab = s.fab ∧ (State.monList s x w told).filt = s.filt ∧ (State.monList s x w told).chks = s.chks ∧ (State.monList s x w told).chkTurn = s.chkTurn ∧ (State.monList s x w told).bg = s.bg ∧ (State.monList s x w told).pwr = s.pwr ∧ (State.monList s x w told).freeCtr = s.freeCtr ∧ (State.monList s x w told).recd = s.recd ∧ (State.monList s x w told).wheels = s.wheels ∧ (State.monList s x w told).flt = s.flt ∧ (State.monList s x w told).chans = s.chans ∧ (State.monList s x w told).rpl = s.rpl ∧ (State.monList s x w told).pair = s.pair ∧ (State.monList s x w told).cells = s.cells ∧ (State.monList s x w told).storeGen = s.storeGen := by simp [KeepsHost, KeepsUnits, State.monList]
theorem State.monitor_frame (s : State) (x : RingId) (told : Bool) : KeepsHost (State.monitor s x told) s ∧ (State.monitor s x told).svc = s.svc ∧ (State.monitor s x told).img = s.img ∧ (State.monitor s x told).fab = s.fab ∧ (State.monitor s x told).filt = s.filt ∧ (State.monitor s x told).chks = s.chks ∧ (State.monitor s x told).chkTurn = s.chkTurn ∧ (State.monitor s x told).bg = s.bg ∧ (State.monitor s x told).pwr = s.pwr ∧ (State.monitor s x told).recd = s.recd ∧ (State.monitor s x told).wheels = s.wheels ∧ (State.monitor s x told).flt = s.flt ∧ (State.monitor s x told).rpl = s.rpl ∧ (State.monitor s x told).pair = s.pair ∧ (State.monitor s x told).cells = s.cells ∧ (State.monitor s x told).storeGen = s.storeGen := by simp [State.free_frame _, State.monList_frame _ _ _ _, KeepsHost, KeepsUnits, State.monitor]
theorem State.keepRaw_frame (s : State) (n : Fin 16) (code : Nat) (fl : Nat) : KeepsHost (State.keepRaw s n code fl) s ∧ KeepsUnits (State.keepRaw s n code fl) s ∧ (State.keepRaw s n code fl).recd = s.recd ∧ (State.keepRaw s n code fl).wheels = s.wheels ∧ (State.keepRaw s n code fl).flt = s.flt ∧ (State.keepRaw s n code fl).chans = s.chans ∧ (State.keepRaw s n code fl).rings = s.rings ∧ (State.keepRaw s n code fl).pair = s.pair ∧ (State.keepRaw s n code fl).cells = s.cells ∧ (State.keepRaw s n code fl).storeGen = s.storeGen := by simp [KeepsHost, KeepsUnits, State.keepRaw]
@[simp] theorem State.keepRaw_cells (s : State) (n : Fin 16) (code : Nat) (fl : Nat) : (State.keepRaw s n code fl).cells = s.cells := by simp [State.keepRaw_frame _ _ _ _]
theorem State.arrive_frame (s0 : State) (x : RingId) (i : Fin 64) (n : Fin 16) (code : Option (BitVec 12)) (fl : Nat) : KeepsHost (State.arrive s0 x i n code fl) s0 ∧ (State.arrive s0 x i n code fl).svc = s0.svc ∧ (State.arrive s0 x i n code fl).img = s0.img ∧ (State.arrive s0 x i n code fl).fab = s0.fab ∧ (State.arrive s0 x i n code fl).adcs = s0.adcs ∧ (State.arrive s0 x i n code fl).chks = s0.chks ∧ (State.arrive s0 x i n code fl).chkTurn = s0.chkTurn ∧ (State.arrive s0 x i n code fl).bg = s0.bg ∧ (State.arrive s0 x i n code fl).pwr = s0.pwr ∧ (State.arrive s0 x i n code fl).storeGen = s0.storeGen := by
  unfold State.arrive; (repeat' split) <;> simp [State.feedChain_frame _ _ _ _ _, State.keepRaw_frame _ _ _ _, State.setMeas_frame _ _ _ _, State.toWheels_frame _ _ _ _ _ _, KeepsHost, KeepsUnits]
theorem State.filtOverrun_frame (s : State) (x : RingId) : KeepsHost (State.filtOverrun s x) s ∧ (State.filtOverrun s x).svc = s.svc ∧ (State.filtOverrun s x).img = s.img ∧ (State.filtOverrun s x).fab = s.fab ∧ (State.filtOverrun s x).adcs = s.adcs ∧ (State.filtOverrun s x).chks = s.chks ∧ (State.filtOverrun s x).chkTurn = s.chkTurn ∧ (State.filtOverrun s x).bg = s.bg ∧ (State.filtOverrun s x).pwr = s.pwr ∧ (State.filtOverrun s x).freeCtr = s.freeCtr ∧ (State.filtOverrun s x).chans = s.chans ∧ (State.filtOverrun s x).storeGen = s.storeGen := by simp [State.raise_frame _ _, KeepsHost, KeepsUnits, State.filtOverrun]
theorem State.failSlice_frame (s : State) (x : RingId) (k : Fin 5) : KeepsHost (State.failSlice s x k) s ∧ (State.failSlice s x k).svc = s.svc ∧ (State.failSlice s x k).img = s.img ∧ (State.failSlice s x k).fab = s.fab ∧ (State.failSlice s x k).filt = s.filt ∧ (State.failSlice s x k).chks = s.chks ∧ (State.failSlice s x k).chkTurn = s.chkTurn ∧ (State.failSlice s x k).pwr = s.pwr ∧ (State.failSlice s x k).freeCtr = s.freeCtr ∧ (State.failSlice s x k).chans = s.chans ∧ (State.failSlice s x k).storeGen = s.storeGen := by simp [State.failSlice, State.adcRaise_frame _ _ _ _, State.caughtUp_frame _ _, KeepsHost, KeepsUnits]
theorem State.judgeResid_frame (s : State) : KeepsHost (State.judgeResid s) s ∧ (State.judgeResid s).svc = s.svc ∧ (State.judgeResid s).img = s.img ∧ (State.judgeResid s).fab = s.fab ∧ (State.judgeResid s).adcs = s.adcs ∧ (State.judgeResid s).chks = s.chks ∧ (State.judgeResid s).chkTurn = s.chkTurn ∧ (State.judgeResid s).bg = s.bg ∧ (State.judgeResid s).pwr = s.pwr ∧ (State.judgeResid s).freeCtr = s.freeCtr ∧ (State.judgeResid s).chans = s.chans ∧ (State.judgeResid s).storeGen = s.storeGen := by simp [State.clearLive_frame _ _, State.raiseLive_frame _ _ _, KeepsHost, KeepsUnits, State.judgeResid]
theorem State.settlePositions_frame (s : State) (x : RingId) : KeepsHost (State.settlePositions s x) s ∧ (State.settlePositions s x).svc = s.svc ∧ (State.settlePositions s x).img = s.img ∧ (State.settlePositions s x).fab = s.fab ∧ (State.settlePositions s x).chks = s.chks ∧ (State.settlePositions s x).chkTurn = s.chkTurn ∧ (State.settlePositions s x).bg = s.bg ∧ (State.settlePositions s x).pwr = s.pwr ∧ (State.settlePositions s x).freeCtr = s.freeCtr ∧ (State.settlePositions s x).storeGen = s.storeGen := by simp [State.adcRaise_frame _ _ _ _, State.dropUnplaced_frame _ _, State.judgeResid_frame _, State.restartChain_frame _ _, KeepsHost, KeepsUnits, State.settlePositions]
theorem State.adcPower_frame (s : State) (x : RingId) : KeepsHost (State.adcPower s x) s ∧ (State.adcPower s x).svc = s.svc ∧ (State.adcPower s x).img = s.img ∧ (State.adcPower s x).fab = s.fab ∧ (State.adcPower s x).filt = s.filt ∧ (State.adcPower s x).chks = s.chks ∧ (State.adcPower s x).chkTurn = s.chkTurn ∧ (State.adcPower s x).bg = s.bg ∧ (State.adcPower s x).pwr = s.pwr ∧ (State.adcPower s x).freeCtr = s.freeCtr ∧ (State.adcPower s x).recd = s.recd ∧ (State.adcPower s x).wheels = s.wheels ∧ (State.adcPower s x).flt = s.flt ∧ (State.adcPower s x).chans = s.chans ∧ (State.adcPower s x).rings = s.rings ∧ (State.adcPower s x).rpl = s.rpl ∧ (State.adcPower s x).pair = s.pair ∧ (State.adcPower s x).cells = s.cells ∧ (State.adcPower s x).storeGen = s.storeGen := by simp [KeepsHost, KeepsUnits, State.adcPower]
@[simp] theorem State.adcPower_cells (s : State) (x : RingId) : (State.adcPower s x).cells = s.cells := by simp [State.adcPower_frame _ _]
theorem State.adcStart_frame (s : State) (x : RingId) : KeepsHost (State.adcStart s x) s ∧ (State.adcStart s x).svc = s.svc ∧ (State.adcStart s x).img = s.img ∧ (State.adcStart s x).fab = s.fab ∧ (State.adcStart s x).filt = s.filt ∧ (State.adcStart s x).chks = s.chks ∧ (State.adcStart s x).chkTurn = s.chkTurn ∧ (State.adcStart s x).bg = s.bg ∧ (State.adcStart s x).pwr = s.pwr ∧ (State.adcStart s x).freeCtr = s.freeCtr ∧ (State.adcStart s x).recd = s.recd ∧ (State.adcStart s x).wheels = s.wheels ∧ (State.adcStart s x).flt = s.flt ∧ (State.adcStart s x).chans = s.chans ∧ (State.adcStart s x).rings = s.rings ∧ (State.adcStart s x).rpl = s.rpl ∧ (State.adcStart s x).pair = s.pair ∧ (State.adcStart s x).cells = s.cells ∧ (State.adcStart s x).storeGen = s.storeGen := by simp [KeepsHost, KeepsUnits, State.adcStart]
theorem State.adcConfigure_frame (s : State) (x : RingId) : KeepsHost (State.adcConfigure s x) s ∧ (State.adcConfigure s x).svc = s.svc ∧ (State.adcConfigure s x).img = s.img ∧ (State.adcConfigure s x).fab = s.fab ∧ (State.adcConfigure s x).chks = s.chks ∧ (State.adcConfigure s x).chkTurn = s.chkTurn ∧ (State.adcConfigure s x).pwr = s.pwr ∧ (State.adcConfigure s x).freeCtr = s.freeCtr ∧ (State.adcConfigure s x).storeGen = s.storeGen := by simp [State.adcConfigure, State.restartChains_frame _ _, State.dropUnplaced_frame _ _, State.caughtUp_frame _ _, KeepsHost, KeepsUnits]
theorem State.adcActivate_frame (s : State) (x : RingId) (es : Vector Word 64) (ref : Word) (rot : Byte) : KeepsHost (State.adcActivate s x es ref rot) s ∧ (State.adcActivate s x es ref rot).svc = s.svc ∧ (State.adcActivate s x es ref rot).img = s.img ∧ (State.adcActivate s x es ref rot).fab = s.fab ∧ (State.adcActivate s x es ref rot).chks = s.chks ∧ (State.adcActivate s x es ref rot).chkTurn = s.chkTurn ∧ (State.adcActivate s x es ref rot).bg = s.bg ∧ (State.adcActivate s x es ref rot).pwr = s.pwr ∧ (State.adcActivate s x es ref rot).freeCtr = s.freeCtr ∧ (State.adcActivate s x es ref rot).recd = s.recd ∧ (State.adcActivate s x es ref rot).wheels = s.wheels ∧ (State.adcActivate s x es ref rot).flt = s.flt ∧ (State.adcActivate s x es ref rot).rings = s.rings ∧ (State.adcActivate s x es ref rot).rpl = s.rpl ∧ (State.adcActivate s x es ref rot).pair = s.pair ∧ (State.adcActivate s x es ref rot).cells = s.cells ∧ (State.adcActivate s x es ref rot).storeGen = s.storeGen := by simp [State.dropUnplaced_frame _ _, State.takeReference_frame _ _ _, KeepsHost, KeepsUnits, State.adcActivate]
theorem State.writeEntry_frame (s : State) (origin : Origin) (x : RingId) (i : Fin 64) (w : Word) : KeepsHost (State.writeEntry s origin x i w).1 s ∧ (State.writeEntry s origin x i w).1.svc = s.svc ∧ (State.writeEntry s origin x i w).1.fab = s.fab ∧ (State.writeEntry s origin x i w).1.filt = s.filt ∧ (State.writeEntry s origin x i w).1.chks = s.chks ∧ (State.writeEntry s origin x i w).1.chkTurn = s.chkTurn ∧ (State.writeEntry s origin x i w).1.bg = s.bg ∧ (State.writeEntry s origin x i w).1.pwr = s.pwr ∧ (State.writeEntry s origin x i w).1.freeCtr = s.freeCtr := by simp [State.freeClaim_frame _ _ _ _ _ _, State.sendRing_frame _ _ _, State.takeClaim_frame _ _ _ _ _ _ _, KeepsHost, KeepsUnits, State.writeEntry]
theorem State.adcWrite_frame (s : State) (origin : Origin) (x : RingId) (r : AdcReg) (w : Word) : KeepsHost (State.adcWrite s origin x r w).1 s ∧ (State.adcWrite s origin x r w).1.svc = s.svc ∧ (State.adcWrite s origin x r w).1.fab = s.fab ∧ (State.adcWrite s origin x r w).1.filt = s.filt ∧ (State.adcWrite s origin x r w).1.chks = s.chks ∧ (State.adcWrite s origin x r w).1.chkTurn = s.chkTurn ∧ (State.adcWrite s origin x r w).1.bg = s.bg ∧ (State.adcWrite s origin x r w).1.pwr = s.pwr ∧ (State.adcWrite s origin x r w).1.freeCtr = s.freeCtr := by
  unfold State.adcWrite; (repeat' split) <;> simp [State.sendRing_frame _ _ _, State.dropShown_frame _ _ _ _, KeepsHost, KeepsUnits]
theorem State.takeRotation_frame (s : State) (x : RingId) (p : Byte) (at_ : Nat) : KeepsHost (State.takeRotation s x p at_) s ∧ (State.takeRotation s x p at_).svc = s.svc ∧ (State.takeRotation s x p at_).img = s.img ∧ (State.takeRotation s x p at_).fab = s.fab ∧ (State.takeRotation s x p at_).filt = s.filt ∧ (State.takeRotation s x p at_).chks = s.chks ∧ (State.takeRotation s x p at_).chkTurn = s.chkTurn ∧ (State.takeRotation s x p at_).bg = s.bg ∧ (State.takeRotation s x p at_).pwr = s.pwr ∧ (State.takeRotation s x p at_).freeCtr = s.freeCtr ∧ (State.takeRotation s x p at_).recd = s.recd ∧ (State.takeRotation s x p at_).wheels = s.wheels ∧ (State.takeRotation s x p at_).flt = s.flt ∧ (State.takeRotation s x p at_).chans = s.chans ∧ (State.takeRotation s x p at_).rings = s.rings ∧ (State.takeRotation s x p at_).rpl = s.rpl ∧ (State.takeRotation s x p at_).pair = s.pair ∧ (State.takeRotation s x p at_).cells = s.cells ∧ (State.takeRotation s x p at_).storeGen = s.storeGen := by simp [KeepsHost, KeepsUnits, State.takeRotation]
@[simp] theorem State.takeRotation_cells (s : State) (x : RingId) (p : Byte) (at_ : Nat) : (State.takeRotation s x p at_).cells = s.cells := by simp [State.takeRotation_frame _ _ _ _]
theorem State.freezeStatus_frame (s : State) (x : RingId) : KeepsHost (State.freezeStatus s x) s ∧ (State.freezeStatus s x).svc = s.svc ∧ (State.freezeStatus s x).img = s.img ∧ (State.freezeStatus s x).fab = s.fab ∧ (State.freezeStatus s x).adcs = s.adcs ∧ (State.freezeStatus s x).filt = s.filt ∧ (State.freezeStatus s x).chks = s.chks ∧ (State.freezeStatus s x).chkTurn = s.chkTurn ∧ (State.freezeStatus s x).bg = s.bg ∧ (State.freezeStatus s x).pwr = s.pwr ∧ (State.freezeStatus s x).recd = s.recd ∧ (State.freezeStatus s x).wheels = s.wheels ∧ (State.freezeStatus s x).flt = s.flt ∧ (State.freezeStatus s x).chans = s.chans ∧ (State.freezeStatus s x).rpl = s.rpl ∧ (State.freezeStatus s x).pair = s.pair ∧ (State.freezeStatus s x).cells = s.cells ∧ (State.freezeStatus s x).storeGen = s.storeGen := by simp [State.free_frame _, KeepsHost, KeepsUnits, State.freezeStatus]
theorem State.adcRead_frame (s : State) (x : RingId) (r : AdcReg) : KeepsHost (State.adcRead s x r).2 s ∧ (State.adcRead s x r).2.svc = s.svc ∧ (State.adcRead s x r).2.img = s.img ∧ (State.adcRead s x r).2.fab = s.fab ∧ (State.adcRead s x r).2.filt = s.filt ∧ (State.adcRead s x r).2.chks = s.chks ∧ (State.adcRead s x r).2.chkTurn = s.chkTurn ∧ (State.adcRead s x r).2.bg = s.bg ∧ (State.adcRead s x r).2.pwr = s.pwr ∧ (State.adcRead s x r).2.freeCtr = s.freeCtr ∧ (State.adcRead s x r).2.recd = s.recd ∧ (State.adcRead s x r).2.wheels = s.wheels ∧ (State.adcRead s x r).2.flt = s.flt ∧ (State.adcRead s x r).2.chans = s.chans ∧ (State.adcRead s x r).2.rpl = s.rpl ∧ (State.adcRead s x r).2.pair = s.pair ∧ (State.adcRead s x r).2.cells = s.cells ∧ (State.adcRead s x r).2.storeGen = s.storeGen := by
  unfold State.adcRead; (repeat' split) <;> simp [State.dropShown_frame _ _ _ _, KeepsHost, KeepsUnits]
@[simp] theorem State.adcRead_cells (s : State) (x : RingId) (r : AdcReg) : (State.adcRead s x r).2.cells = s.cells := by simp [State.adcRead_frame _ _ _]
/-! ## WheelRegs -/
theorem State.popWheel_frame (s : State) (w : Fin 64) (n : Nat) (bad : Nat) : KeepsHost (State.popWheel s w n bad).1 s ∧ KeepsUnits (State.popWheel s w n bad).1 s ∧ (State.popWheel s w n bad).1.chans = s.chans ∧ (State.popWheel s w n bad).1.storeGen = s.storeGen := by simp [State.raiseHost_frame _ _, KeepsHost, KeepsUnits, State.popWheel]
theorem State.writeIrqcfg_frame (s : State) (origin : Origin) (w : Fin 64) (v : Word) : KeepsHost (State.writeIrqcfg s origin w v).1 s ∧ KeepsUnits (State.writeIrqcfg s origin w v).1 s := by simp [KeepsHost, KeepsUnits, State.writeIrqcfg]
theorem State.flushWheel_frame (s : State) (origin : Origin) (w : Fin 64) : KeepsHost (State.flushWheel s origin w) s ∧ KeepsUnits (State.flushWheel s origin w) s ∧ (State.flushWheel s origin w).flt = s.flt ∧ (State.flushWheel s origin w).chans = s.chans ∧ (State.flushWheel s origin w).rings = s.rings ∧ (State.flushWheel s origin w).rpl = s.rpl ∧ (State.flushWheel s origin w).pair = s.pair ∧ (State.flushWheel s origin w).cells = s.cells ∧ (State.flushWheel s origin w).storeGen = s.storeGen := by simp [State.event_frame _ _ _ _ _ _, KeepsHost, KeepsUnits, State.flushWheel]
@[simp] theorem State.flushWheel_cells (s : State) (origin : Origin) (w : Fin 64) : (State.flushWheel s origin w).cells = s.cells := by simp [State.flushWheel_frame _ _ _]
theorem State.writeProd_frame (s : State) (origin : Origin) (w : Fin 64) (v : Word) : KeepsHost (State.writeProd s origin w v).1 s ∧ (State.writeProd s origin w v).1.svc = s.svc ∧ (State.writeProd s origin w v).1.fab = s.fab ∧ (State.writeProd s origin w v).1.adcs = s.adcs ∧ (State.writeProd s origin w v).1.filt = s.filt ∧ (State.writeProd s origin w v).1.chks = s.chks ∧ (State.writeProd s origin w v).1.chkTurn = s.chkTurn ∧ (State.writeProd s origin w v).1.bg = s.bg ∧ (State.writeProd s origin w v).1.pwr = s.pwr ∧ (State.writeProd s origin w v).1.freeCtr = s.freeCtr := by simp [KeepsHost, KeepsUnits, State.writeProd]
theorem State.whlWrite_frame (s : State) (origin : Origin) (w : Fin 64) (r : WhlReg) (v : Word) : KeepsHost (State.whlWrite s origin w r v).1 s ∧ (State.whlWrite s origin w r v).1.svc = s.svc ∧ (State.whlWrite s origin w r v).1.fab = s.fab ∧ (State.whlWrite s origin w r v).1.adcs = s.adcs ∧ (State.whlWrite s origin w r v).1.filt = s.filt ∧ (State.whlWrite s origin w r v).1.chks = s.chks ∧ (State.whlWrite s origin w r v).1.chkTurn = s.chkTurn ∧ (State.whlWrite s origin w r v).1.bg = s.bg ∧ (State.whlWrite s origin w r v).1.pwr = s.pwr ∧ (State.whlWrite s origin w r v).1.freeCtr = s.freeCtr := by
  unfold State.whlWrite; (repeat' split) <;> simp [State.flushWheel_frame _ _ _, State.settleLoss_frame _, State.writeIrqcfg_frame _ _ _ _, State.writeProd_frame _ _ _ _, KeepsHost, KeepsUnits]
theorem State.whlRead_frame (s : State) (w : Fin 64) (r : WhlReg) : KeepsHost (State.whlRead s w r).2 s ∧ KeepsUnits (State.whlRead s w r).2 s ∧ (State.whlRead s w r).2.recd = s.recd ∧ (State.whlRead s w r).2.flt = s.flt ∧ (State.whlRead s w r).2.chans = s.chans ∧ (State.whlRead s w r).2.rings = s.rings ∧ (State.whlRead s w r).2.rpl = s.rpl ∧ (State.whlRead s w r).2.pair = s.pair ∧ (State.whlRead s w r).2.cells = s.cells ∧ (State.whlRead s w r).2.storeGen = s.storeGen := by
  unfold State.whlRead; (repeat' split) <;> simp [KeepsHost, KeepsUnits]
@[simp] theorem State.whlRead_cells (s : State) (w : Fin 64) (r : WhlReg) : (State.whlRead s w r).2.cells = s.cells := by simp [State.whlRead_frame _ _ _]
theorem State.activateWheels_frame (s : State) (old : List (List Byte)) (new : List (List Byte)) : KeepsHost (State.activateWheels s old new) s ∧ KeepsUnits (State.activateWheels s old new) s ∧ (State.activateWheels s old new).recd = s.recd ∧ (State.activateWheels s old new).flt = s.flt ∧ (State.activateWheels s old new).chans = s.chans ∧ (State.activateWheels s old new).rings = s.rings ∧ (State.activateWheels s old new).rpl = s.rpl ∧ (State.activateWheels s old new).pair = s.pair ∧ (State.activateWheels s old new).cells = s.cells ∧ (State.activateWheels s old new).storeGen = s.storeGen := by simp [KeepsHost, KeepsUnits, State.activateWheels]
@[simp] theorem State.activateWheels_cells (s : State) (old : List (List Byte)) (new : List (List Byte)) : (State.activateWheels s old new).cells = s.cells := by simp [State.activateWheels_frame _ _ _]
/-! ## Collector -/
theorem State.modRelease_frame (s : State) (p : PortId) (f : Release → Release) : KeepsHost (State.modRelease s p f) s ∧ KeepsUnits (State.modRelease s p f) s ∧ (State.modRelease s p f).recd = s.recd ∧ (State.modRelease s p f).wheels = s.wheels ∧ (State.modRelease s p f).chans = s.chans ∧ (State.modRelease s p f).rings = s.rings ∧ (State.modRelease s p f).rpl = s.rpl ∧ (State.modRelease s p f).pair = s.pair ∧ (State.modRelease s p f).cells = s.cells ∧ (State.modRelease s p f).storeGen = s.storeGen := by simp [KeepsHost, KeepsUnits, State.modRelease]
theorem State.endRelease_frame (s : State) (r : Release) : KeepsHost (State.endRelease s r).1 s ∧ KeepsUnits (State.endRelease s r).1 s ∧ (State.endRelease s r).1.wheels = s.wheels ∧ (State.endRelease s r).1.chans = s.chans ∧ (State.endRelease s r).1.rings = s.rings ∧ (State.endRelease s r).1.rpl = s.rpl ∧ (State.endRelease s r).1.pair = s.pair ∧ (State.endRelease s r).1.cells = s.cells ∧ (State.endRelease s r).1.storeGen = s.storeGen := by simp [State.event_frame _ _ _ _ _ _, KeepsHost, KeepsUnits, State.endRelease]
theorem State.patchResponse_frame (s : State) (p : PortId) (rep : Reply) : KeepsUnits (State.patchResponse s p rep) s ∧ (State.patchResponse s p rep).pending = s.pending ∧ (State.patchResponse s p rep).clock = s.clock ∧ (State.patchResponse s p rep).vio = s.vio ∧ (State.patchResponse s p rep).phase = s.phase ∧ (State.patchResponse s p rep).time = s.time ∧ (State.patchResponse s p rep).tickets = s.tickets ∧ (State.patchResponse s p rep).readyCount = s.readyCount ∧ (State.patchResponse s p rep).shadows = s.shadows ∧ (State.patchResponse s p rep).recd = s.recd ∧ (State.patchResponse s p rep).wheels = s.wheels ∧ (State.patchResponse s p rep).flt = s.flt ∧ (State.patchResponse s p rep).chans = s.chans ∧ (State.patchResponse s p rep).rings = s.rings ∧ (State.patchResponse s p rep).rpl = s.rpl ∧ (State.patchResponse s p rep).pair = s.pair ∧ (State.patchResponse s p rep).cells = s.cells ∧ (State.patchResponse s p rep).storeGen = s.storeGen := by simp [KeepsHost, KeepsUnits, State.patchResponse]
theorem State.settleRelease_frame (s : State) (p : PortId) : KeepsUnits (State.settleRelease s p) s ∧ (State.settleRelease s p).pending = s.pending ∧ (State.settleRelease s p).clock = s.clock ∧ (State.settleRelease s p).vio = s.vio ∧ (State.settleRelease s p).phase = s.phase ∧ (State.settleRelease s p).time = s.time ∧ (State.settleRelease s p).tickets = s.tickets ∧ (State.settleRelease s p).readyCount = s.readyCount ∧ (State.settleRelease s p).shadows = s.shadows ∧ (State.settleRelease s p).wheels = s.wheels ∧ (State.settleRelease s p).chans = s.chans ∧ (State.settleRelease s p).rings = s.rings ∧ (State.settleRelease s p).rpl = s.rpl ∧ (State.settleRelease s p).pair = s.pair ∧ (State.settleRelease s p).cells = s.cells ∧ (State.settleRelease s p).storeGen = s.storeGen := by
  unfold State.settleRelease; dsimp only; (repeat' split) <;> simp [State.endRelease_frame _ _, State.patchResponse_frame _ _ _, KeepsHost, KeepsUnits]
theorem State.startRelease_frame (s : State) (port : PortId) (origin : Origin) (w : Word) : KeepsHost (State.startRelease s port origin w).1 s ∧ KeepsUnits (State.startRelease s port origin w).1 s ∧ (State.startRelease s port origin w).1.wheels = s.wheels ∧ (State.startRelease s port origin w).1.chans = s.chans ∧ (State.startRelease s port origin w).1.rpl = s.rpl ∧ (State.startRelease s port origin w).1.pair = s.pair ∧ (State.startRelease s port origin w).1.cells = s.cells ∧ (State.startRelease s port origin w).1.storeGen = s.storeGen := by simp [State.endRelease_frame _ _, State.sendRing_frame _ _ _, KeepsHost, KeepsUnits, State.startRelease]
theorem State.writeRelease_frame (s : State) (port : PortId) (origin : Origin) (w : Word) : KeepsHost (State.writeRelease s port origin w).1 s ∧ KeepsUnits (State.writeRelease s port origin w).1 s ∧ (State.writeRelease s port origin w).1.wheels = s.wheels ∧ (State.writeRelease s port origin w).1.chans = s.chans ∧ (State.writeRelease s port origin w).1.rpl = s.rpl ∧ (State.writeRelease s port origin w).1.pair = s.pair ∧ (State.writeRelease s port origin w).1.cells = s.cells ∧ (State.writeRelease s port origin w).1.storeGen = s.storeGen := by simp [State.startRelease_frame _ _ _ _, KeepsHost, KeepsUnits, State.writeRelease]
@[simp] theorem State.writeRelease_cells (s : State) (port : PortId) (origin : Origin) (w : Word) : (State.writeRelease s port origin w).1.cells = s.cells := by simp [State.writeRelease_frame _ _ _ _]
theorem State.actRelease_frame (s : State) (x : RingId) (causes : List (Fin 16 × BitVec 16)) (port : Option PortId) : KeepsHost (State.actRelease s x causes port) s ∧ KeepsUnits (State.actRelease s x causes port) s ∧ (State.actRelease s x causes port).wheels = s.wheels ∧ (State.actRelease s x causes port).rpl = s.rpl ∧ (State.actRelease s x causes port).pair = s.pair ∧ (State.actRelease s x causes port).cells = s.cells ∧ (State.actRelease s x causes port).storeGen = s.storeGen := by
  unfold State.actRelease; (repeat' split) <;> simp [State.dropCauses_frame _ _ _, State.event_frame _ _ _ _ _ _, State.modRelease_frame _ _ _, KeepsHost, KeepsUnits]
@[simp] theorem State.actRelease_cells (s : State) (x : RingId) (causes : List (Fin 16 × BitVec 16)) (port : Option PortId) : (State.actRelease s x causes port).cells = s.cells := by simp [State.actRelease_frame _ _ _ _]
theorem State.abandonReleases_frame (s : State) (x : RingId) : KeepsUnits (State.abandonReleases s x) s ∧ (State.abandonReleases s x).pending = s.pending ∧ (State.abandonReleases s x).clock = s.clock ∧ (State.abandonReleases s x).vio = s.vio ∧ (State.abandonReleases s x).phase = s.phase ∧ (State.abandonReleases s x).time = s.time ∧ (State.abandonReleases s x).tickets = s.tickets ∧ (State.abandonReleases s x).readyCount = s.readyCount ∧ (State.abandonReleases s x).shadows = s.shadows ∧ (State.abandonReleases s x).wheels = s.wheels ∧ (State.abandonReleases s x).chans = s.chans ∧ (State.abandonReleases s x).rings = s.rings ∧ (State.abandonReleases s x).rpl = s.rpl ∧ (State.abandonReleases s x).pair = s.pair ∧ (State.abandonReleases s x).cells = s.cells := by
  unfold State.abandonReleases
  refine ⟨⟨?_, ?_, ?_, ?_, ?_, ?_, ?_, ?_, ?_, ?_⟩, ?_, ?_, ?_, ?_, ?_, ?_, ?_, ?_, ?_, ?_, ?_, ?_, ?_, ?_⟩
  · (first | (simp (maxDischargeDepth := 8); done) | ((repeat' split) <;> first | (simp (maxDischargeDepth := 8); done) | (simp_all; done) | (first | rw [fst_svc (by assumption)] | rw [snd_svc (by assumption)] | (simp (maxDischargeDepth := 8); rw [fst_svc (by assumption)])); simp (maxDischargeDepth := 8) [State.modRelease_frame _ _ _, State.settleRelease_frame _ _]; done) | (simp (maxDischargeDepth := 8); (repeat' split) <;> first | rfl | (simp (maxDischargeDepth := 8) [State.modRelease_frame _ _ _, State.settleRelease_frame _ _]; done) | (simp_all [State.modRelease_frame _ _ _, State.settleRelease_frame _ _]; done)))
  · (first | (simp (maxDischargeDepth := 8); done) | ((repeat' split) <;> first | (simp (maxDischargeDepth := 8); done) | (simp_all; done) | (first | rw [fst_img (by assumption)] | rw [snd_img (by assumption)] | (simp (maxDischargeDepth := 8); rw [fst_img (by assumption)])); simp (maxDischargeDepth := 8) [State.modRelease_frame _ _ _, State.settleRelease_frame _ _]; done) | (simp (maxDischargeDepth := 8); (repeat' split) <;> first | rfl | (simp (maxDischargeDepth := 8) [State.modRelease_frame _ _ _, State.settleRelease_frame _ _]; done) | (simp_all [State.modRelease_frame _ _ _, State.settleRelease_frame _ _]; done)))
  · (first | (simp (maxDischargeDepth := 8); done) | ((repeat' split) <;> first | (simp (maxDischargeDepth := 8); done) | (simp_all; done) | (first | rw [fst_fab (by assumption)] | rw [snd_fab (by assumption)] | (simp (maxDischargeDepth := 8); rw [fst_fab (by assumption)])); simp (maxDischargeDepth := 8) [State.modRelease_frame _ _ _, State.settleRelease_frame _ _]; done) | (simp (maxDischargeDepth := 8); (repeat' split) <;> first | rfl | (simp (maxDischargeDepth := 8) [State.modRelease_frame _ _ _, State.settleRelease_frame _ _]; done) | (simp_all [State.modRelease_frame _ _ _, State.settleRelease_frame _ _]; done)))
  · (first | (simp (maxDischargeDepth := 8); done) | ((repeat' split) <;> first | (simp (maxDischargeDepth := 8); done) | (simp_all; done) | (first | rw [fst_adcs (by assumption)] | rw [snd_adcs (by assumption)] | (simp (maxDischargeDepth := 8); rw [fst_adcs (by assumption)])); simp (maxDischargeDepth := 8) [State.modRelease_frame _ _ _, State.settleRelease_frame _ _]; done) | (simp (maxDischargeDepth := 8); (repeat' split) <;> first | rfl | (simp (maxDischargeDepth := 8) [State.modRelease_frame _ _ _, State.settleRelease_frame _ _]; done) | (simp_all [State.modRelease_frame _ _ _, State.settleRelease_frame _ _]; done)))
  · (first | (simp (maxDischargeDepth := 8); done) | ((repeat' split) <;> first | (simp (maxDischargeDepth := 8); done) | (simp_all; done) | (first | rw [fst_filt (by assumption)] | rw [snd_filt (by assumption)] | (simp (maxDischargeDepth := 8); rw [fst_filt (by assumption)])); simp (maxDischargeDepth := 8) [State.modRelease_frame _ _ _, State.settleRelease_frame _ _]; done) | (simp (maxDischargeDepth := 8); (repeat' split) <;> first | rfl | (simp (maxDischargeDepth := 8) [State.modRelease_frame _ _ _, State.settleRelease_frame _ _]; done) | (simp_all [State.modRelease_frame _ _ _, State.settleRelease_frame _ _]; done)))
  · (first | (simp (maxDischargeDepth := 8); done) | ((repeat' split) <;> first | (simp (maxDischargeDepth := 8); done) | (simp_all; done) | (first | rw [fst_chks (by assumption)] | rw [snd_chks (by assumption)] | (simp (maxDischargeDepth := 8); rw [fst_chks (by assumption)])); simp (maxDischargeDepth := 8) [State.modRelease_frame _ _ _, State.settleRelease_frame _ _]; done) | (simp (maxDischargeDepth := 8); (repeat' split) <;> first | rfl | (simp (maxDischargeDepth := 8) [State.modRelease_frame _ _ _, State.settleRelease_frame _ _]; done) | (simp_all [State.modRelease_frame _ _ _, State.settleRelease_frame _ _]; done)))
  · (first | (simp (maxDischargeDepth := 8); done) | ((repeat' split) <;> first | (simp (maxDischargeDepth := 8); done) | (simp_all; done) | (first | rw [fst_chkTurn (by assumption)] | rw [snd_chkTurn (by assumption)] | (simp (maxDischargeDepth := 8); rw [fst_chkTurn (by assumption)])); simp (maxDischargeDepth := 8) [State.modRelease_frame _ _ _, State.settleRelease_frame _ _]; done) | (simp (maxDischargeDepth := 8); (repeat' split) <;> first | rfl | (simp (maxDischargeDepth := 8) [State.modRelease_frame _ _ _, State.settleRelease_frame _ _]; done) | (simp_all [State.modRelease_frame _ _ _, State.settleRelease_frame _ _]; done)))
  · (first | (simp (maxDischargeDepth := 8); done) | ((repeat' split) <;> first | (simp (maxDischargeDepth := 8); done) | (simp_all; done) | (first | rw [fst_bg (by assumption)] | rw [snd_bg (by assumption)] | (simp (maxDischargeDepth := 8); rw [fst_bg (by assumption)])); simp (maxDischargeDepth := 8) [State.modRelease_frame _ _ _, State.settleRelease_frame _ _]; done) | (simp (maxDischargeDepth := 8); (repeat' split) <;> first | rfl | (simp (maxDischargeDepth := 8) [State.modRelease_frame _ _ _, State.settleRelease_frame _ _]; done) | (simp_all [State.modRelease_frame _ _ _, State.settleRelease_frame _ _]; done)))
  · (first | (simp (maxDischargeDepth := 8); done) | ((repeat' split) <;> first | (simp (maxDischargeDepth := 8); done) | (simp_all; done) | (first | rw [fst_pwr (by assumption)] | rw [snd_pwr (by assumption)] | (simp (maxDischargeDepth := 8); rw [fst_pwr (by assumption)])); simp (maxDischargeDepth := 8) [State.modRelease_frame _ _ _, State.settleRelease_frame _ _]; done) | (simp (maxDischargeDepth := 8); (repeat' split) <;> first | rfl | (simp (maxDischargeDepth := 8) [State.modRelease_frame _ _ _, State.settleRelease_frame _ _]; done) | (simp_all [State.modRelease_frame _ _ _, State.settleRelease_frame _ _]; done)))
  · (first | (simp (maxDischargeDepth := 8); done) | ((repeat' split) <;> first | (simp (maxDischargeDepth := 8); done) | (simp_all; done) | (first | rw [fst_freeCtr (by assumption)] | rw [snd_freeCtr (by assumption)] | (simp (maxDischargeDepth := 8); rw [fst_freeCtr (by assumption)])); simp (maxDischargeDepth := 8) [State.modRelease_frame _ _ _, State.settleRelease_frame _ _]; done) | (simp (maxDischargeDepth := 8); (repeat' split) <;> first | rfl | (simp (maxDischargeDepth := 8) [State.modRelease_frame _ _ _, State.settleRelease_frame _ _]; done) | (simp_all [State.modRelease_frame _ _ _, State.settleRelease_frame _ _]; done)))
  · (first | (simp (maxDischargeDepth := 8); done) | ((repeat' split) <;> first | (simp (maxDischargeDepth := 8); done) | (simp_all; done) | (first | rw [fst_pending (by assumption)] | rw [snd_pending (by assumption)] | (simp (maxDischargeDepth := 8); rw [fst_pending (by assumption)])); simp (maxDischargeDepth := 8) [State.modRelease_frame _ _ _, State.settleRelease_frame _ _]; done) | (simp (maxDischargeDepth := 8); (repeat' split) <;> first | rfl | (simp (maxDischargeDepth := 8) [State.modRelease_frame _ _ _, State.settleRelease_frame _ _]; done) | (simp_all [State.modRelease_frame _ _ _, State.settleRelease_frame _ _]; done)))
  · (first | (simp (maxDischargeDepth := 8); done) | ((repeat' split) <;> first | (simp (maxDischargeDepth := 8); done) | (simp_all; done) | (first | rw [fst_clock (by assumption)] | rw [snd_clock (by assumption)] | (simp (maxDischargeDepth := 8); rw [fst_clock (by assumption)])); simp (maxDischargeDepth := 8) [State.modRelease_frame _ _ _, State.settleRelease_frame _ _]; done) | (simp (maxDischargeDepth := 8); (repeat' split) <;> first | rfl | (simp (maxDischargeDepth := 8) [State.modRelease_frame _ _ _, State.settleRelease_frame _ _]; done) | (simp_all [State.modRelease_frame _ _ _, State.settleRelease_frame _ _]; done)))
  · (first | (simp (maxDischargeDepth := 8); done) | ((repeat' split) <;> first | (simp (maxDischargeDepth := 8); done) | (simp_all; done) | (first | rw [fst_vio (by assumption)] | rw [snd_vio (by assumption)] | (simp (maxDischargeDepth := 8); rw [fst_vio (by assumption)])); simp (maxDischargeDepth := 8) [State.modRelease_frame _ _ _, State.settleRelease_frame _ _]; done) | (simp (maxDischargeDepth := 8); (repeat' split) <;> first | rfl | (simp (maxDischargeDepth := 8) [State.modRelease_frame _ _ _, State.settleRelease_frame _ _]; done) | (simp_all [State.modRelease_frame _ _ _, State.settleRelease_frame _ _]; done)))
  · (first | (simp (maxDischargeDepth := 8); done) | ((repeat' split) <;> first | (simp (maxDischargeDepth := 8); done) | (simp_all; done) | (first | rw [fst_phase (by assumption)] | rw [snd_phase (by assumption)] | (simp (maxDischargeDepth := 8); rw [fst_phase (by assumption)])); simp (maxDischargeDepth := 8) [State.modRelease_frame _ _ _, State.settleRelease_frame _ _]; done) | (simp (maxDischargeDepth := 8); (repeat' split) <;> first | rfl | (simp (maxDischargeDepth := 8) [State.modRelease_frame _ _ _, State.settleRelease_frame _ _]; done) | (simp_all [State.modRelease_frame _ _ _, State.settleRelease_frame _ _]; done)))
  · (first | (simp (maxDischargeDepth := 8); done) | ((repeat' split) <;> first | (simp (maxDischargeDepth := 8); done) | (simp_all; done) | (first | rw [fst_time (by assumption)] | rw [snd_time (by assumption)] | (simp (maxDischargeDepth := 8); rw [fst_time (by assumption)])); simp (maxDischargeDepth := 8) [State.modRelease_frame _ _ _, State.settleRelease_frame _ _]; done) | (simp (maxDischargeDepth := 8); (repeat' split) <;> first | rfl | (simp (maxDischargeDepth := 8) [State.modRelease_frame _ _ _, State.settleRelease_frame _ _]; done) | (simp_all [State.modRelease_frame _ _ _, State.settleRelease_frame _ _]; done)))
  · (first | (simp (maxDischargeDepth := 8); done) | ((repeat' split) <;> first | (simp (maxDischargeDepth := 8); done) | (simp_all; done) | (first | rw [fst_tickets (by assumption)] | rw [snd_tickets (by assumption)] | (simp (maxDischargeDepth := 8); rw [fst_tickets (by assumption)])); simp (maxDischargeDepth := 8) [State.modRelease_frame _ _ _, State.settleRelease_frame _ _]; done) | (simp (maxDischargeDepth := 8); (repeat' split) <;> first | rfl | (simp (maxDischargeDepth := 8) [State.modRelease_frame _ _ _, State.settleRelease_frame _ _]; done) | (simp_all [State.modRelease_frame _ _ _, State.settleRelease_frame _ _]; done)))
  · (first | (simp (maxDischargeDepth := 8); done) | ((repeat' split) <;> first | (simp (maxDischargeDepth := 8); done) | (simp_all; done) | (first | rw [fst_readyCount (by assumption)] | rw [snd_readyCount (by assumption)] | (simp (maxDischargeDepth := 8); rw [fst_readyCount (by assumption)])); simp (maxDischargeDepth := 8) [State.modRelease_frame _ _ _, State.settleRelease_frame _ _]; done) | (simp (maxDischargeDepth := 8); (repeat' split) <;> first | rfl | (simp (maxDischargeDepth := 8) [State.modRelease_frame _ _ _, State.settleRelease_frame _ _]; done) | (simp_all [State.modRelease_frame _ _ _, State.settleRelease_frame _ _]; done)))
  · (first | (simp (maxDischargeDepth := 8); done) | ((repeat' split) <;> first | (simp (maxDischargeDepth := 8); done) | (simp_all; done) | (first | rw [fst_shadows (by assumption)] | rw [snd_shadows (by assumption)] | (simp (maxDischargeDepth := 8); rw [fst_shadows (by assumption)])); simp (maxDischargeDepth := 8) [State.modRelease_frame _ _ _, State.settleRelease_frame _ _]; done) | (simp (maxDischargeDepth := 8); (repeat' split) <;> first | rfl | (simp (maxDischargeDepth := 8) [State.modRelease_frame _ _ _, State.settleRelease_frame _ _]; done) | (simp_all [State.modRelease_frame _ _ _, State.settleRelease_frame _ _]; done)))
  · (first | (simp (maxDischargeDepth := 8); done) | ((repeat' split) <;> first | (simp (maxDischargeDepth := 8); done) | (simp_all; done) | (first | rw [fst_wheels (by assumption)] | rw [snd_wheels (by assumption)] | (simp (maxDischargeDepth := 8); rw [fst_wheels (by assumption)])); simp (maxDischargeDepth := 8) [State.modRelease_frame _ _ _, State.settleRelease_frame _ _]; done) | (simp (maxDischargeDepth := 8); (repeat' split) <;> first | rfl | (simp (maxDischargeDepth := 8) [State.modRelease_frame _ _ _, State.settleRelease_frame _ _]; done) | (simp_all [State.modRelease_frame _ _ _, State.settleRelease_frame _ _]; done)))
  · (first | (simp (maxDischargeDepth := 8); done) | ((repeat' split) <;> first | (simp (maxDischargeDepth := 8); done) | (simp_all; done) | (first | rw [fst_chans (by assumption)] | rw [snd_chans (by assumption)] | (simp (maxDischargeDepth := 8); rw [fst_chans (by assumption)])); simp (maxDischargeDepth := 8) [State.modRelease_frame _ _ _, State.settleRelease_frame _ _]; done) | (simp (maxDischargeDepth := 8); (repeat' split) <;> first | rfl | (simp (maxDischargeDepth := 8) [State.modRelease_frame _ _ _, State.settleRelease_frame _ _]; done) | (simp_all [State.modRelease_frame _ _ _, State.settleRelease_frame _ _]; done)))
  · (first | (simp (maxDischargeDepth := 8); done) | ((repeat' split) <;> first | (simp (maxDischargeDepth := 8); done) | (simp_all; done) | (first | rw [fst_rings (by assumption)] | rw [snd_rings (by assumption)] | (simp (maxDischargeDepth := 8); rw [fst_rings (by assumption)])); simp (maxDischargeDepth := 8) [State.modRelease_frame _ _ _, State.settleRelease_frame _ _]; done) | (simp (maxDischargeDepth := 8); (repeat' split) <;> first | rfl | (simp (maxDischargeDepth := 8) [State.modRelease_frame _ _ _, State.settleRelease_frame _ _]; done) | (simp_all [State.modRelease_frame _ _ _, State.settleRelease_frame _ _]; done)))
  · (first | (simp (maxDischargeDepth := 8); done) | ((repeat' split) <;> first | (simp (maxDischargeDepth := 8); done) | (simp_all; done) | (first | rw [fst_rpl (by assumption)] | rw [snd_rpl (by assumption)] | (simp (maxDischargeDepth := 8); rw [fst_rpl (by assumption)])); simp (maxDischargeDepth := 8) [State.modRelease_frame _ _ _, State.settleRelease_frame _ _]; done) | (simp (maxDischargeDepth := 8); (repeat' split) <;> first | rfl | (simp (maxDischargeDepth := 8) [State.modRelease_frame _ _ _, State.settleRelease_frame _ _]; done) | (simp_all [State.modRelease_frame _ _ _, State.settleRelease_frame _ _]; done)))
  · (first | (simp (maxDischargeDepth := 8); done) | ((repeat' split) <;> first | (simp (maxDischargeDepth := 8); done) | (simp_all; done) | (first | rw [fst_pair (by assumption)] | rw [snd_pair (by assumption)] | (simp (maxDischargeDepth := 8); rw [fst_pair (by assumption)])); simp (maxDischargeDepth := 8) [State.modRelease_frame _ _ _, State.settleRelease_frame _ _]; done) | (simp (maxDischargeDepth := 8); (repeat' split) <;> first | rfl | (simp (maxDischargeDepth := 8) [State.modRelease_frame _ _ _, State.settleRelease_frame _ _]; done) | (simp_all [State.modRelease_frame _ _ _, State.settleRelease_frame _ _]; done)))
  · (first | (simp (maxDischargeDepth := 8); done) | ((repeat' split) <;> first | (simp (maxDischargeDepth := 8); done) | (simp_all; done) | (first | rw [fst_cells (by assumption)] | rw [snd_cells (by assumption)] | (simp (maxDischargeDepth := 8); rw [fst_cells (by assumption)])); simp (maxDischargeDepth := 8) [State.modRelease_frame _ _ _, State.settleRelease_frame _ _]; done) | (simp (maxDischargeDepth := 8); (repeat' split) <;> first | rfl | (simp (maxDischargeDepth := 8) [State.modRelease_frame _ _ _, State.settleRelease_frame _ _]; done) | (simp_all [State.modRelease_frame _ _ _, State.settleRelease_frame _ _]; done)))
theorem State.writeWdCfg_frame (s : State) (origin : Origin) (w : Word) : KeepsHost (State.writeWdCfg s origin w).1 s ∧ KeepsUnits (State.writeWdCfg s origin w).1 s := by simp [KeepsHost, KeepsUnits, State.writeWdCfg]
theorem State.wdKick_frame (s : State) (w : Word) : KeepsHost (State.wdKick s w).1 s ∧ KeepsUnits (State.wdKick s w).1 s ∧ (State.wdKick s w).1.recd = s.recd ∧ (State.wdKick s w).1.wheels = s.wheels ∧ (State.wdKick s w).1.chans = s.chans ∧ (State.wdKick s w).1.rings = s.rings ∧ (State.wdKick s w).1.rpl = s.rpl ∧ (State.wdKick s w).1.pair = s.pair ∧ (State.wdKick s w).1.cells = s.cells ∧ (State.wdKick s w).1.storeGen = s.storeGen := by simp [KeepsHost, KeepsUnits, State.wdKick]
@[simp] theorem State.wdKick_cells (s : State) (w : Word) : (State.wdKick s w).1.cells = s.cells := by simp [State.wdKick_frame _ _]
theorem State.wdRearm_frame (s : State) (origin : Origin) (w : Word) : KeepsHost (State.wdRearm s origin w).1 s ∧ KeepsUnits (State.wdRearm s origin w).1 s ∧ (State.wdRearm s origin w).1.chans = s.chans ∧ (State.wdRearm s origin w).1.storeGen = s.storeGen := by simp [State.clearLive_frame _ _, State.event_frame _ _ _ _ _ _, KeepsHost, KeepsUnits, State.wdRearm]
theorem State.inject_frame (s : State) (k : Fin 256) (m : Nat) (op : Nat) : KeepsHost (State.inject s k m op) s ∧ KeepsUnits (State.inject s k m op) s ∧ (State.inject s k m op).chans = s.chans ∧ (State.inject s k m op).storeGen = s.storeGen := by
  unfold State.inject; (repeat' split) <;> simp [State.clearCause_frame _ _ _ _, State.raise_frame _ _, KeepsHost, KeepsUnits]
theorem State.writeInj_frame (s : State) (origin : Origin) (w : Word) : KeepsHost (State.writeInj s origin w).1 s ∧ KeepsUnits (State.writeInj s origin w).1 s := by simp [State.inject_frame _ _ _ _, KeepsHost, KeepsUnits, State.writeInj]
theorem State.clearInjected_frame (s : State) (origin : Origin) : KeepsHost (State.clearInjected s origin) s ∧ KeepsUnits (State.clearInjected s origin) s ∧ (State.clearInjected s origin).chans = s.chans ∧ (State.clearInjected s origin).storeGen = s.storeGen := by simp [State.clearCause_frame _ _ _ _, State.report_frame _ _ _ _ _ _, KeepsHost, KeepsUnits, State.clearInjected]
theorem State.writeInjcfg_frame (s : State) (origin : Origin) (w : Word) : KeepsHost (State.writeInjcfg s origin w).1 s ∧ KeepsUnits (State.writeInjcfg s origin w).1 s := by simp [State.clearInjected_frame _ _, KeepsHost, KeepsUnits, State.writeInjcfg]
theorem State.writeReact_frame (s : State) (origin : Origin) (k : Fin 256) (w : Word) : KeepsHost (State.writeReact s origin k w).1 s ∧ (State.writeReact s origin k w).1.svc = s.svc ∧ (State.writeReact s origin k w).1.fab = s.fab ∧ (State.writeReact s origin k w).1.adcs = s.adcs ∧ (State.writeReact s origin k w).1.filt = s.filt ∧ (State.writeReact s origin k w).1.chks = s.chks ∧ (State.writeReact s origin k w).1.chkTurn = s.chkTurn ∧ (State.writeReact s origin k w).1.bg = s.bg ∧ (State.writeReact s origin k w).1.pwr = s.pwr ∧ (State.writeReact s origin k w).1.freeCtr = s.freeCtr := by simp [KeepsHost, KeepsUnits, State.writeReact]
theorem State.writeChsafe_frame (s : State) (origin : Origin) (n : Fin 16) (w : Word) : KeepsHost (State.writeChsafe s origin n w).1 s ∧ (State.writeChsafe s origin n w).1.svc = s.svc ∧ (State.writeChsafe s origin n w).1.fab = s.fab ∧ (State.writeChsafe s origin n w).1.adcs = s.adcs ∧ (State.writeChsafe s origin n w).1.filt = s.filt ∧ (State.writeChsafe s origin n w).1.chks = s.chks ∧ (State.writeChsafe s origin n w).1.chkTurn = s.chkTurn ∧ (State.writeChsafe s origin n w).1.bg = s.bg ∧ (State.writeChsafe s origin n w).1.pwr = s.pwr ∧ (State.writeChsafe s origin n w).1.freeCtr = s.freeCtr := by simp [State.sendRing_frame _ _ _, KeepsHost, KeepsUnits, State.writeChsafe]
theorem State.modSlots_frame (s : State) (i : Nat) (w : Word) (f : FaultSlot → FaultSlot) : KeepsHost (State.modSlots s i w f) s ∧ KeepsUnits (State.modSlots s i w f) s ∧ (State.modSlots s i w f).recd = s.recd ∧ (State.modSlots s i w f).wheels = s.wheels ∧ (State.modSlots s i w f).chans = s.chans ∧ (State.modSlots s i w f).rings = s.rings ∧ (State.modSlots s i w f).rpl = s.rpl ∧ (State.modSlots s i w f).pair = s.pair ∧ (State.modSlots s i w f).cells = s.cells ∧ (State.modSlots s i w f).storeGen = s.storeGen := by simp [KeepsHost, KeepsUnits, State.modSlots]
@[simp] theorem State.modSlots_cells (s : State) (i : Nat) (w : Word) (f : FaultSlot → FaultSlot) : (State.modSlots s i w f).cells = s.cells := by simp [State.modSlots_frame _ _ _ _]
theorem State.fltWrite_frame (s : State) (port : PortId) (origin : Origin) (r : FltReg) (w : Word) : KeepsHost (State.fltWrite s port origin r w).1 s ∧ KeepsUnits (State.fltWrite s port origin r w).1 s := by simp [State.modSlots_frame _ _ _ _, State.wdKick_frame _ _, State.wdRearm_frame _ _ _, State.writeInj_frame _ _ _, State.writeInjcfg_frame _ _ _, State.writeRelease_frame _ _ _ _, State.writeWdCfg_frame _ _ _, KeepsHost, KeepsUnits, State.fltWrite]
theorem State.fltRead_frame (s : State) (r : FltReg) : KeepsHost (State.fltRead s r).2 s ∧ KeepsUnits (State.fltRead s r).2 s ∧ (State.fltRead s r).2.recd = s.recd ∧ (State.fltRead s r).2.wheels = s.wheels ∧ (State.fltRead s r).2.chans = s.chans ∧ (State.fltRead s r).2.rings = s.rings ∧ (State.fltRead s r).2.rpl = s.rpl ∧ (State.fltRead s r).2.pair = s.pair ∧ (State.fltRead s r).2.cells = s.cells ∧ (State.fltRead s r).2.storeGen = s.storeGen := by simp [State.modSlots_frame _ _ _ _, KeepsHost, KeepsUnits, State.fltRead]
@[simp] theorem State.fltRead_cells (s : State) (r : FltReg) : (State.fltRead s r).2.cells = s.cells := by simp [State.fltRead_frame _ _]
theorem State.srcRead_frame (s : State) (k : Fin 256) : KeepsHost (State.srcRead s k).2 s ∧ KeepsUnits (State.srcRead s k).2 s ∧ (State.srcRead s k).2.recd = s.recd ∧ (State.srcRead s k).2.wheels = s.wheels ∧ (State.srcRead s k).2.chans = s.chans ∧ (State.srcRead s k).2.rings = s.rings ∧ (State.srcRead s k).2.rpl = s.rpl ∧ (State.srcRead s k).2.pair = s.pair ∧ (State.srcRead s k).2.cells = s.cells ∧ (State.srcRead s k).2.storeGen = s.storeGen := by simp [KeepsHost, KeepsUnits, State.srcRead]
@[simp] theorem State.srcRead_cells (s : State) (k : Fin 256) : (State.srcRead s k).2.cells = s.cells := by simp [State.srcRead_frame _ _]
theorem State.activateFaults_frame (s : State) (i : Image) : KeepsHost (State.activateFaults s i) s ∧ KeepsUnits (State.activateFaults s i) s ∧ (State.activateFaults s i).recd = s.recd ∧ (State.activateFaults s i).wheels = s.wheels ∧ (State.activateFaults s i).chans = s.chans ∧ (State.activateFaults s i).rings = s.rings ∧ (State.activateFaults s i).rpl = s.rpl ∧ (State.activateFaults s i).pair = s.pair ∧ (State.activateFaults s i).cells = s.cells ∧ (State.activateFaults s i).storeGen = s.storeGen := by simp [KeepsHost, KeepsUnits, State.activateFaults]
@[simp] theorem State.activateFaults_cells (s : State) (i : Image) : (State.activateFaults s i).cells = s.cells := by simp [State.activateFaults_frame _ _]
/-! ## RecRegs -/
theorem State.commitCounts_frame (s : State) : KeepsHost (State.commitCounts s) s ∧ (State.commitCounts s).svc = s.svc ∧ (State.commitCounts s).img = s.img ∧ (State.commitCounts s).fab = s.fab ∧ (State.commitCounts s).adcs = s.adcs ∧ (State.commitCounts s).filt = s.filt ∧ (State.commitCounts s).chks = s.chks ∧ (State.commitCounts s).chkTurn = s.chkTurn ∧ (State.commitCounts s).pwr = s.pwr ∧ (State.commitCounts s).freeCtr = s.freeCtr ∧ (State.commitCounts s).chans = s.chans ∧ (State.commitCounts s).storeGen = s.storeGen := by simp [State.commitCounts, State.keepIdle_frame _, State.appendLog_frame _ _, KeepsHost, KeepsUnits]
theorem State.periodicCommit_frame (s : State) : KeepsHost (State.periodicCommit s) s ∧ (State.periodicCommit s).svc = s.svc ∧ (State.periodicCommit s).img = s.img ∧ (State.periodicCommit s).fab = s.fab ∧ (State.periodicCommit s).adcs = s.adcs ∧ (State.periodicCommit s).filt = s.filt ∧ (State.periodicCommit s).chks = s.chks ∧ (State.periodicCommit s).chkTurn = s.chkTurn ∧ (State.periodicCommit s).pwr = s.pwr ∧ (State.periodicCommit s).freeCtr = s.freeCtr ∧ (State.periodicCommit s).chans = s.chans := by simp [State.periodicCommit, State.commitCounts_frame _, KeepsHost, KeepsUnits]
theorem State.flushStaged_frame (n : Nat) (s : State) : KeepsHost (State.flushStaged n s) s ∧ (State.flushStaged n s).svc = s.svc ∧ (State.flushStaged n s).img = s.img ∧ (State.flushStaged n s).fab = s.fab ∧ (State.flushStaged n s).adcs = s.adcs ∧ (State.flushStaged n s).filt = s.filt ∧ (State.flushStaged n s).chks = s.chks ∧ (State.flushStaged n s).chkTurn = s.chkTurn ∧ (State.flushStaged n s).pwr = s.pwr ∧ (State.flushStaged n s).freeCtr = s.freeCtr := by
  induction n generalizing s with
  | zero => exact ⟨⟨rfl, rfl, rfl, rfl, rfl, rfl, rfl, rfl, rfl⟩, rfl, rfl, rfl, rfl, rfl, rfl, rfl, rfl, rfl⟩
  | succ n ih => simp only [State.flushStaged]; split <;> simp [State.recordWritten_frame _, KeepsHost, KeepsUnits, ih]
theorem State.powerCommit_frame (s : State) : KeepsHost (State.powerCommit s) s ∧ (State.powerCommit s).svc = s.svc ∧ (State.powerCommit s).img = s.img ∧ (State.powerCommit s).fab = s.fab ∧ (State.powerCommit s).adcs = s.adcs ∧ (State.powerCommit s).filt = s.filt ∧ (State.powerCommit s).chks = s.chks ∧ (State.powerCommit s).chkTurn = s.chkTurn ∧ (State.powerCommit s).pwr = s.pwr ∧ (State.powerCommit s).freeCtr = s.freeCtr := by simp [State.powerCommit, State.flushStaged_frame _ _, State.commitTail_frame _, State.commitCounts_frame _, KeepsHost, KeepsUnits]
theorem State.recClear_frame (s : State) (origin : Origin) (upto : Word) : KeepsHost (State.recClear s origin upto).1 s ∧ (State.recClear s origin upto).1.svc = s.svc ∧ (State.recClear s origin upto).1.img = s.img ∧ (State.recClear s origin upto).1.fab = s.fab ∧ (State.recClear s origin upto).1.adcs = s.adcs ∧ (State.recClear s origin upto).1.filt = s.filt ∧ (State.recClear s origin upto).1.chks = s.chks ∧ (State.recClear s origin upto).1.chkTurn = s.chkTurn ∧ (State.recClear s origin upto).1.pwr = s.pwr ∧ (State.recClear s origin upto).1.freeCtr = s.freeCtr := by simp [State.recClear, State.eraseRecords_frame _ _ _, State.clearLive_frame _ _, KeepsHost, KeepsUnits]
theorem State.jnlClear_frame (s : State) (origin : Origin) (upto : Word) : KeepsHost (State.jnlClear s origin upto).1 s ∧ (State.jnlClear s origin upto).1.svc = s.svc ∧ (State.jnlClear s origin upto).1.img = s.img ∧ (State.jnlClear s origin upto).1.fab = s.fab ∧ (State.jnlClear s origin upto).1.adcs = s.adcs ∧ (State.jnlClear s origin upto).1.filt = s.filt ∧ (State.jnlClear s origin upto).1.chks = s.chks ∧ (State.jnlClear s origin upto).1.chkTurn = s.chkTurn ∧ (State.jnlClear s origin upto).1.pwr = s.pwr ∧ (State.jnlClear s origin upto).1.freeCtr = s.freeCtr ∧ (State.jnlClear s origin upto).1.chans = s.chans := by simp [State.jnlClear, State.journal_frame _ _ _ _ _, State.eraseRecords_frame _ _ _, State.appendJournal_frame _ _ _ _ _, State.clearLive_frame _ _, KeepsHost, KeepsUnits]
theorem State.writeCursor_frame (s : State) (origin : Origin) (journal : Bool) (w : Word) (obs : Option Int) : KeepsHost (State.writeCursor s origin journal w obs) s ∧ (State.writeCursor s origin journal w obs).svc = s.svc ∧ (State.writeCursor s origin journal w obs).img = s.img ∧ (State.writeCursor s origin journal w obs).fab = s.fab ∧ (State.writeCursor s origin journal w obs).adcs = s.adcs ∧ (State.writeCursor s origin journal w obs).filt = s.filt ∧ (State.writeCursor s origin journal w obs).chks = s.chks ∧ (State.writeCursor s origin journal w obs).chkTurn = s.chkTurn ∧ (State.writeCursor s origin journal w obs).bg = s.bg ∧ (State.writeCursor s origin journal w obs).pwr = s.pwr ∧ (State.writeCursor s origin journal w obs).wheels = s.wheels ∧ (State.writeCursor s origin journal w obs).flt = s.flt ∧ (State.writeCursor s origin journal w obs).chans = s.chans ∧ (State.writeCursor s origin journal w obs).rings = s.rings ∧ (State.writeCursor s origin journal w obs).rpl = s.rpl ∧ (State.writeCursor s origin journal w obs).pair = s.pair ∧ (State.writeCursor s origin journal w obs).cells = s.cells ∧ (State.writeCursor s origin journal w obs).storeGen = s.storeGen := by simp [State.writeCursor, State.free_frame _, State.journal_frame _ _ _ _ _, KeepsHost, KeepsUnits]
@[simp] theorem State.writeCursor_cells (s : State) (origin : Origin) (journal : Bool) (w : Word) (obs : Option Int) : (State.writeCursor s origin journal w obs).cells = s.cells := by simp [State.writeCursor_frame _ _ _ _ _]
theorem State.recWrite_frame (s : State) (origin : Origin) (r : RecReg) (w : Word) (obs : Option Int) : KeepsHost (State.recWrite s origin r w obs).1 s ∧ (State.recWrite s origin r w obs).1.svc = s.svc ∧ (State.recWrite s origin r w obs).1.img = s.img ∧ (State.recWrite s origin r w obs).1.fab = s.fab ∧ (State.recWrite s origin r w obs).1.adcs = s.adcs ∧ (State.recWrite s origin r w obs).1.filt = s.filt ∧ (State.recWrite s origin r w obs).1.chks = s.chks ∧ (State.recWrite s origin r w obs).1.chkTurn = s.chkTurn ∧ (State.recWrite s origin r w obs).1.pwr = s.pwr := by simp [State.recWrite, State.writeCursor_frame _ _ _ _ _, State.recClear_frame _ _ _, State.jnlClear_frame _ _ _, KeepsHost, KeepsUnits]
theorem State.recRead_frame (s : State) (origin : Origin) (r : RecReg) : KeepsHost (State.recRead s origin r).2 s ∧ KeepsUnits (State.recRead s origin r).2 s ∧ (State.recRead s origin r).2.wheels = s.wheels ∧ (State.recRead s origin r).2.flt = s.flt ∧ (State.recRead s origin r).2.chans = s.chans ∧ (State.recRead s origin r).2.rings = s.rings ∧ (State.recRead s origin r).2.rpl = s.rpl ∧ (State.recRead s origin r).2.pair = s.pair ∧ (State.recRead s origin r).2.cells = s.cells ∧ (State.recRead s origin r).2.storeGen = s.storeGen := by simp [KeepsHost, KeepsUnits, State.recRead]
@[simp] theorem State.recRead_cells (s : State) (origin : Origin) (r : RecReg) : (State.recRead s origin r).2.cells = s.cells := by simp [State.recRead_frame _ _ _]
/-! ## Loader -/
theorem State.modImgSlot_frame (s : State) (n : Bool) (f : Slot → Slot) : KeepsHost (State.modImgSlot s n f) s ∧ (State.modImgSlot s n f).svc = s.svc ∧ (State.modImgSlot s n f).fab = s.fab ∧ (State.modImgSlot s n f).adcs = s.adcs ∧ (State.modImgSlot s n f).filt = s.filt ∧ (State.modImgSlot s n f).chks = s.chks ∧ (State.modImgSlot s n f).chkTurn = s.chkTurn ∧ (State.modImgSlot s n f).bg = s.bg ∧ (State.modImgSlot s n f).pwr = s.pwr ∧ (State.modImgSlot s n f).freeCtr = s.freeCtr ∧ (State.modImgSlot s n f).recd = s.recd ∧ (State.modImgSlot s n f).wheels = s.wheels ∧ (State.modImgSlot s n f).flt = s.flt ∧ (State.modImgSlot s n f).chans = s.chans ∧ (State.modImgSlot s n f).rings = s.rings ∧ (State.modImgSlot s n f).rpl = s.rpl ∧ (State.modImgSlot s n f).pair = s.pair ∧ (State.modImgSlot s n f).cells = s.cells ∧ (State.modImgSlot s n f).storeGen = s.storeGen := by simp [KeepsHost, KeepsUnits, State.modImgSlot]
@[simp] theorem State.modImgSlot_cells (s : State) (n : Bool) (f : Slot → Slot) : (State.modImgSlot s n f).cells = s.cells := by simp [State.modImgSlot_frame _ _ _]
theorem State.setSlot_frame (s : State) (n : Bool) (st : SlotState) : KeepsHost (State.setSlot s n st) s ∧ (State.setSlot s n st).svc = s.svc ∧ (State.setSlot s n st).fab = s.fab ∧ (State.setSlot s n st).adcs = s.adcs ∧ (State.setSlot s n st).filt = s.filt ∧ (State.setSlot s n st).chks = s.chks ∧ (State.setSlot s n st).chkTurn = s.chkTurn ∧ (State.setSlot s n st).bg = s.bg ∧ (State.setSlot s n st).pwr = s.pwr ∧ (State.setSlot s n st).freeCtr = s.freeCtr ∧ (State.setSlot s n st).recd = s.recd ∧ (State.setSlot s n st).wheels = s.wheels ∧ (State.setSlot s n st).flt = s.flt ∧ (State.setSlot s n st).chans = s.chans ∧ (State.setSlot s n st).rings = s.rings ∧ (State.setSlot s n st).rpl = s.rpl ∧ (State.setSlot s n st).pair = s.pair ∧ (State.setSlot s n st).cells = s.cells ∧ (State.setSlot s n st).storeGen = s.storeGen := by simp [State.modImgSlot_frame _ _ _, KeepsHost, KeepsUnits, State.setSlot]
@[simp] theorem State.setSlot_cells (s : State) (n : Bool) (st : SlotState) : (State.setSlot s n st).cells = s.cells := by simp [State.setSlot_frame _ _ _]
theorem State.borrowCu3_frame (s : State) : KeepsHost (State.borrowCu3 s) s ∧ (State.borrowCu3 s).svc = s.svc ∧ (State.borrowCu3 s).fab = s.fab ∧ (State.borrowCu3 s).adcs = s.adcs ∧ (State.borrowCu3 s).filt = s.filt ∧ (State.borrowCu3 s).chkTurn = s.chkTurn ∧ (State.borrowCu3 s).bg = s.bg ∧ (State.borrowCu3 s).pwr = s.pwr ∧ (State.borrowCu3 s).freeCtr = s.freeCtr ∧ (State.borrowCu3 s).recd = s.recd ∧ (State.borrowCu3 s).wheels = s.wheels ∧ (State.borrowCu3 s).flt = s.flt ∧ (State.borrowCu3 s).chans = s.chans ∧ (State.borrowCu3 s).rings = s.rings ∧ (State.borrowCu3 s).rpl = s.rpl ∧ (State.borrowCu3 s).pair = s.pair ∧ (State.borrowCu3 s).cells = s.cells ∧ (State.borrowCu3 s).storeGen = s.storeGen := by simp [KeepsHost, KeepsUnits, State.borrowCu3]
@[simp] theorem State.borrowCu3_cells (s : State) : (State.borrowCu3 s).cells = s.cells := by simp [State.borrowCu3_frame _]
theorem State.returnCu3_frame (s : State) : KeepsHost (State.returnCu3 s) s ∧ (State.returnCu3 s).svc = s.svc ∧ (State.returnCu3 s).fab = s.fab ∧ (State.returnCu3 s).adcs = s.adcs ∧ (State.returnCu3 s).filt = s.filt ∧ (State.returnCu3 s).chkTurn = s.chkTurn ∧ (State.returnCu3 s).bg = s.bg ∧ (State.returnCu3 s).pwr = s.pwr ∧ (State.returnCu3 s).freeCtr = s.freeCtr ∧ (State.returnCu3 s).recd = s.recd ∧ (State.returnCu3 s).wheels = s.wheels ∧ (State.returnCu3 s).flt = s.flt ∧ (State.returnCu3 s).chans = s.chans ∧ (State.returnCu3 s).rings = s.rings ∧ (State.returnCu3 s).rpl = s.rpl ∧ (State.returnCu3 s).pair = s.pair ∧ (State.returnCu3 s).cells = s.cells ∧ (State.returnCu3 s).storeGen = s.storeGen := by simp [KeepsHost, KeepsUnits, State.returnCu3]
@[simp] theorem State.returnCu3_cells (s : State) : (State.returnCu3 s).cells = s.cells := by simp [State.returnCu3_frame _]
theorem State.endOperation_frame (s : State) (code : Nat) (crc : Word) : KeepsHost (State.endOperation s code crc) s ∧ (State.endOperation s code crc).svc = s.svc ∧ (State.endOperation s code crc).fab = s.fab ∧ (State.endOperation s code crc).adcs = s.adcs ∧ (State.endOperation s code crc).filt = s.filt ∧ (State.endOperation s code crc).chkTurn = s.chkTurn ∧ (State.endOperation s code crc).bg = s.bg ∧ (State.endOperation s code crc).pwr = s.pwr ∧ (State.endOperation s code crc).freeCtr = s.freeCtr ∧ (State.endOperation s code crc).wheels = s.wheels ∧ (State.endOperation s code crc).flt = s.flt ∧ (State.endOperation s code crc).chans = s.chans ∧ (State.endOperation s code crc).rings = s.rings ∧ (State.endOperation s code crc).rpl = s.rpl ∧ (State.endOperation s code crc).pair = s.pair ∧ (State.endOperation s code crc).cells = s.cells ∧ (State.endOperation s code crc).storeGen = s.storeGen := by simp [State.event_frame _ _ _ _ _ _, State.returnCu3_frame _, KeepsHost, KeepsUnits, State.endOperation]
@[simp] theorem State.endOperation_cells (s : State) (code : Nat) (crc : Word) : (State.endOperation s code crc).cells = s.cells := by simp [State.endOperation_frame _ _ _]
theorem State.openSession_frame (s : State) (origin : Origin) : KeepsHost (State.openSession s origin) s ∧ (State.openSession s origin).svc = s.svc ∧ (State.openSession s origin).fab = s.fab ∧ (State.openSession s origin).adcs = s.adcs ∧ (State.openSession s origin).filt = s.filt ∧ (State.openSession s origin).chks = s.chks ∧ (State.openSession s origin).chkTurn = s.chkTurn ∧ (State.openSession s origin).bg = s.bg ∧ (State.openSession s origin).pwr = s.pwr ∧ (State.openSession s origin).freeCtr = s.freeCtr ∧ (State.openSession s origin).recd = s.recd ∧ (State.openSession s origin).wheels = s.wheels ∧ (State.openSession s origin).flt = s.flt ∧ (State.openSession s origin).chans = s.chans ∧ (State.openSession s origin).rings = s.rings ∧ (State.openSession s origin).rpl = s.rpl ∧ (State.openSession s origin).pair = s.pair ∧ (State.openSession s origin).storeGen = s.storeGen := by simp [State.modImgSlot_frame _ _ _, KeepsHost, KeepsUnits, State.openSession]
theorem State.closeSession_frame (s : State) (origin : Origin) : KeepsHost (State.closeSession s origin) s ∧ (State.closeSession s origin).svc = s.svc ∧ (State.closeSession s origin).fab = s.fab ∧ (State.closeSession s origin).adcs = s.adcs ∧ (State.closeSession s origin).filt = s.filt ∧ (State.closeSession s origin).chkTurn = s.chkTurn ∧ (State.closeSession s origin).bg = s.bg ∧ (State.closeSession s origin).pwr = s.pwr ∧ (State.closeSession s origin).freeCtr = s.freeCtr ∧ (State.closeSession s origin).recd = s.recd ∧ (State.closeSession s origin).wheels = s.wheels ∧ (State.closeSession s origin).flt = s.flt ∧ (State.closeSession s origin).chans = s.chans ∧ (State.closeSession s origin).rings = s.rings ∧ (State.closeSession s origin).rpl = s.rpl ∧ (State.closeSession s origin).pair = s.pair ∧ (State.closeSession s origin).cells = s.cells ∧ (State.closeSession s origin).storeGen = s.storeGen := by simp [State.borrowCu3_frame _, KeepsHost, KeepsUnits, State.closeSession]
@[simp] theorem State.closeSession_cells (s : State) (origin : Origin) : (State.closeSession s origin).cells = s.cells := by simp [State.closeSession_frame _ _]
theorem State.noSlot_frame (s : State) (code : Nat) : KeepsHost (State.noSlot s code) s ∧ (State.noSlot s code).svc = s.svc ∧ (State.noSlot s code).fab = s.fab ∧ (State.noSlot s code).adcs = s.adcs ∧ (State.noSlot s code).filt = s.filt ∧ (State.noSlot s code).chkTurn = s.chkTurn ∧ (State.noSlot s code).bg = s.bg ∧ (State.noSlot s code).pwr = s.pwr ∧ (State.noSlot s code).freeCtr = s.freeCtr ∧ (State.noSlot s code).chans = s.chans ∧ (State.noSlot s code).storeGen = s.storeGen := by simp [State.raiseLive_frame _ _ _, State.returnCu3_frame _, KeepsHost, KeepsUnits, State.noSlot]
theorem State.abortSession_frame (s : State) (origin : Origin) : KeepsHost (State.abortSession s origin) s ∧ (State.abortSession s origin).svc = s.svc ∧ (State.abortSession s origin).fab = s.fab ∧ (State.abortSession s origin).adcs = s.adcs ∧ (State.abortSession s origin).filt = s.filt ∧ (State.abortSession s origin).chkTurn = s.chkTurn ∧ (State.abortSession s origin).bg = s.bg ∧ (State.abortSession s origin).pwr = s.pwr ∧ (State.abortSession s origin).freeCtr = s.freeCtr ∧ (State.abortSession s origin).chans = s.chans ∧ (State.abortSession s origin).storeGen = s.storeGen := by simp [State.endOperation_frame _ _ _, State.noSlot_frame _ _, State.setSlot_frame _ _ _, KeepsHost, KeepsUnits, State.abortSession]
theorem State.startActivate_frame (s : State) (origin : Origin) (n : Bool) : KeepsHost (State.startActivate s origin n) s ∧ (State.startActivate s origin n).svc = s.svc ∧ (State.startActivate s origin n).fab = s.fab ∧ (State.startActivate s origin n).adcs = s.adcs ∧ (State.startActivate s origin n).filt = s.filt ∧ (State.startActivate s origin n).chkTurn = s.chkTurn ∧ (State.startActivate s origin n).bg = s.bg ∧ (State.startActivate s origin n).pwr = s.pwr ∧ (State.startActivate s origin n).freeCtr = s.freeCtr ∧ (State.startActivate s origin n).recd = s.recd ∧ (State.startActivate s origin n).wheels = s.wheels ∧ (State.startActivate s origin n).flt = s.flt ∧ (State.startActivate s origin n).chans = s.chans ∧ (State.startActivate s origin n).rings = s.rings ∧ (State.startActivate s origin n).rpl = s.rpl ∧ (State.startActivate s origin n).pair = s.pair ∧ (State.startActivate s origin n).cells = s.cells ∧ (State.startActivate s origin n).storeGen = s.storeGen := by simp [State.borrowCu3_frame _, KeepsHost, KeepsUnits, State.startActivate]
@[simp] theorem State.startActivate_cells (s : State) (origin : Origin) (n : Bool) : (State.startActivate s origin n).cells = s.cells := by simp [State.startActivate_frame _ _ _]
theorem State.imgCtrl_frame (s : State) (origin : Origin) (w : Word) : KeepsHost (State.imgCtrl s origin w).1 s ∧ (State.imgCtrl s origin w).1.svc = s.svc ∧ (State.imgCtrl s origin w).1.fab = s.fab ∧ (State.imgCtrl s origin w).1.adcs = s.adcs ∧ (State.imgCtrl s origin w).1.filt = s.filt ∧ (State.imgCtrl s origin w).1.chkTurn = s.chkTurn ∧ (State.imgCtrl s origin w).1.bg = s.bg ∧ (State.imgCtrl s origin w).1.pwr = s.pwr ∧ (State.imgCtrl s origin w).1.freeCtr = s.freeCtr := by
  unfold State.imgCtrl; dsimp only; (repeat' split) <;> simp [State.abortSession_frame _ _, State.closeSession_frame _ _, State.openSession_frame _ _, State.startActivate_frame _ _ _, KeepsHost, KeepsUnits]
theorem State.slotSectorFails_frame (s : State) (k : Nat) : KeepsHost (State.slotSectorFails s k) s ∧ (State.slotSectorFails s k).svc = s.svc ∧ (State.slotSectorFails s k).img = s.img ∧ (State.slotSectorFails s k).fab = s.fab ∧ (State.slotSectorFails s k).adcs = s.adcs ∧ (State.slotSectorFails s k).filt = s.filt ∧ (State.slotSectorFails s k).chks = s.chks ∧ (State.slotSectorFails s k).chkTurn = s.chkTurn ∧ (State.slotSectorFails s k).pwr = s.pwr ∧ (State.slotSectorFails s k).freeCtr = s.freeCtr ∧ (State.slotSectorFails s k).chans = s.chans ∧ (State.slotSectorFails s k).storeGen = s.storeGen := by simp [State.slotSectorFails, State.setWear_frame _ _, KeepsHost, KeepsUnits]
theorem State.imgWdata_frame (s : State) (w : Word) (fails : Bool) : KeepsHost (State.imgWdata s w fails).1 s ∧ (State.imgWdata s w fails).1.svc = s.svc ∧ (State.imgWdata s w fails).1.fab = s.fab ∧ (State.imgWdata s w fails).1.adcs = s.adcs ∧ (State.imgWdata s w fails).1.filt = s.filt ∧ (State.imgWdata s w fails).1.chkTurn = s.chkTurn ∧ (State.imgWdata s w fails).1.pwr = s.pwr ∧ (State.imgWdata s w fails).1.freeCtr = s.freeCtr ∧ (State.imgWdata s w fails).1.chans = s.chans ∧ (State.imgWdata s w fails).1.storeGen = s.storeGen := by simp [State.imgWdata, State.slotSectorFails_frame _ _, State.setSlot_frame _ _ _, State.endOperation_frame _ _ _, State.modImgSlot_frame _ _ _, KeepsHost, KeepsUnits]
theorem State.noteVerdict_frame (s : State) (v : Verdict) : KeepsHost (State.noteVerdict s v) s ∧ (State.noteVerdict s v).svc = s.svc ∧ (State.noteVerdict s v).fab = s.fab ∧ (State.noteVerdict s v).adcs = s.adcs ∧ (State.noteVerdict s v).filt = s.filt ∧ (State.noteVerdict s v).chks = s.chks ∧ (State.noteVerdict s v).chkTurn = s.chkTurn ∧ (State.noteVerdict s v).bg = s.bg ∧ (State.noteVerdict s v).pwr = s.pwr ∧ (State.noteVerdict s v).freeCtr = s.freeCtr ∧ (State.noteVerdict s v).recd = s.recd ∧ (State.noteVerdict s v).wheels = s.wheels ∧ (State.noteVerdict s v).flt = s.flt ∧ (State.noteVerdict s v).chans = s.chans ∧ (State.noteVerdict s v).rings = s.rings ∧ (State.noteVerdict s v).rpl = s.rpl ∧ (State.noteVerdict s v).pair = s.pair ∧ (State.noteVerdict s v).cells = s.cells ∧ (State.noteVerdict s v).storeGen = s.storeGen := by simp [KeepsHost, KeepsUnits, State.noteVerdict]
theorem State.expand_frame (s : State) : KeepsHost (State.expand s) s ∧ (State.expand s).svc = s.svc ∧ (State.expand s).fab = s.fab ∧ (State.expand s).adcs = s.adcs ∧ (State.expand s).filt = s.filt ∧ (State.expand s).chks = s.chks ∧ (State.expand s).chkTurn = s.chkTurn ∧ (State.expand s).bg = s.bg ∧ (State.expand s).pwr = s.pwr ∧ (State.expand s).freeCtr = s.freeCtr ∧ (State.expand s).recd = s.recd ∧ (State.expand s).wheels = s.wheels ∧ (State.expand s).flt = s.flt ∧ (State.expand s).chans = s.chans ∧ (State.expand s).rings = s.rings ∧ (State.expand s).rpl = s.rpl ∧ (State.expand s).pair = s.pair ∧ (State.expand s).cells = s.cells ∧ (State.expand s).storeGen = s.storeGen := by simp [KeepsHost, KeepsUnits, State.expand]
@[simp] theorem State.expand_cells (s : State) : (State.expand s).cells = s.cells := by simp [State.expand_frame _]
theorem State.tryFallback_frame (s : State) : KeepsHost (State.tryFallback s) s ∧ (State.tryFallback s).svc = s.svc ∧ (State.tryFallback s).fab = s.fab ∧ (State.tryFallback s).adcs = s.adcs ∧ (State.tryFallback s).filt = s.filt ∧ (State.tryFallback s).chkTurn = s.chkTurn ∧ (State.tryFallback s).bg = s.bg ∧ (State.tryFallback s).pwr = s.pwr ∧ (State.tryFallback s).freeCtr = s.freeCtr ∧ (State.tryFallback s).chans = s.chans ∧ (State.tryFallback s).storeGen = s.storeGen := by simp [State.noSlot_frame _ _, KeepsHost, KeepsUnits, State.tryFallback]
theorem State.takeFallback_frame (s : State) (i : Image) : KeepsHost (State.takeFallback s i) s ∧ (State.takeFallback s i).svc = s.svc ∧ (State.takeFallback s i).fab = s.fab ∧ (State.takeFallback s i).adcs = s.adcs ∧ (State.takeFallback s i).filt = s.filt ∧ (State.takeFallback s i).chkTurn = s.chkTurn ∧ (State.takeFallback s i).bg = s.bg ∧ (State.takeFallback s i).pwr = s.pwr ∧ (State.takeFallback s i).freeCtr = s.freeCtr ∧ (State.takeFallback s i).chans = s.chans := by simp [State.expand_frame _, State.journal_frame _ _ _ _ _, State.noSlot_frame _ _, State.raiseHost_frame _ _, State.raiseLive_frame _ _ _, State.refuseFull_frame _, KeepsHost, KeepsUnits, State.takeFallback]
theorem State.loaderStop_frame (s : State) : KeepsHost (State.loaderStop s) s ∧ (State.loaderStop s).svc = s.svc ∧ (State.loaderStop s).fab = s.fab ∧ (State.loaderStop s).adcs = s.adcs ∧ (State.loaderStop s).filt = s.filt ∧ (State.loaderStop s).chks = s.chks ∧ (State.loaderStop s).chkTurn = s.chkTurn ∧ (State.loaderStop s).bg = s.bg ∧ (State.loaderStop s).pwr = s.pwr ∧ (State.loaderStop s).recd = s.recd ∧ (State.loaderStop s).wheels = s.wheels ∧ (State.loaderStop s).flt = s.flt ∧ (State.loaderStop s).chans = s.chans ∧ (State.loaderStop s).rings = s.rings ∧ (State.loaderStop s).rpl = s.rpl ∧ (State.loaderStop s).pair = s.pair ∧ (State.loaderStop s).storeGen = s.storeGen := by simp [State.loaderStop, State.cutErase_frame _ _ _ _, State.setSlot_frame _ _ _, KeepsHost, KeepsUnits]
theorem State.loaderStart_frame (s : State) (cut : Bool) : KeepsHost (State.loaderStart s cut) s ∧ (State.loaderStart s cut).svc = s.svc ∧ (State.loaderStart s cut).fab = s.fab ∧ (State.loaderStart s cut).adcs = s.adcs ∧ (State.loaderStart s cut).filt = s.filt ∧ (State.loaderStart s cut).chkTurn = s.chkTurn ∧ (State.loaderStart s cut).bg = s.bg ∧ (State.loaderStart s cut).pwr = s.pwr ∧ (State.loaderStart s cut).freeCtr = s.freeCtr ∧ (State.loaderStart s cut).chans = s.chans ∧ (State.loaderStart s cut).storeGen = s.storeGen := by
  unfold State.loaderStart; (repeat' split) <;> simp [State.borrowCu3_frame _, State.noSlot_frame _ _, State.setSlot_frame _ _ _, KeepsHost, KeepsUnits]
theorem State.imgRegWrite_frame (s : State) (origin : Origin) (r : ImgReg) (w : Word) (obs : Option Int) : KeepsHost (State.imgRegWrite s origin r w obs).1 s ∧ (State.imgRegWrite s origin r w obs).1.svc = s.svc ∧ (State.imgRegWrite s origin r w obs).1.fab = s.fab ∧ (State.imgRegWrite s origin r w obs).1.adcs = s.adcs ∧ (State.imgRegWrite s origin r w obs).1.filt = s.filt ∧ (State.imgRegWrite s origin r w obs).1.chkTurn = s.chkTurn ∧ (State.imgRegWrite s origin r w obs).1.pwr = s.pwr ∧ (State.imgRegWrite s origin r w obs).1.freeCtr = s.freeCtr := by
  unfold State.imgRegWrite; (repeat' split) <;> simp [State.imgCtrl_frame _ _ _, State.imgWdata_frame _ _ _, KeepsHost, KeepsUnits]
/-! ## Replay -/
theorem State.dropFrame_frame (s : State) : KeepsHost (State.dropFrame s) s ∧ KeepsUnits (State.dropFrame s) s ∧ (State.dropFrame s).recd = s.recd ∧ (State.dropFrame s).wheels = s.wheels ∧ (State.dropFrame s).flt = s.flt ∧ (State.dropFrame s).chans = s.chans ∧ (State.dropFrame s).rings = s.rings ∧ (State.dropFrame s).pair = s.pair ∧ (State.dropFrame s).cells = s.cells ∧ (State.dropFrame s).storeGen = s.storeGen := by simp [KeepsHost, KeepsUnits, State.dropFrame]
@[simp] theorem State.dropFrame_cells (s : State) : (State.dropFrame s).cells = s.cells := by simp [State.dropFrame_frame _]
theorem State.frameStep_frame (s : State) (pre : FabState) (late : Bool) : KeepsHost (State.frameStep s pre late) s ∧ (State.frameStep s pre late).svc = s.svc ∧ (State.frameStep s pre late).img = s.img ∧ (State.frameStep s pre late).fab = s.fab ∧ (State.frameStep s pre late).adcs = s.adcs ∧ (State.frameStep s pre late).filt = s.filt ∧ (State.frameStep s pre late).chks = s.chks ∧ (State.frameStep s pre late).chkTurn = s.chkTurn ∧ (State.frameStep s pre late).bg = s.bg ∧ (State.frameStep s pre late).pwr = s.pwr ∧ (State.frameStep s pre late).wheels = s.wheels ∧ (State.frameStep s pre late).flt = s.flt ∧ (State.frameStep s pre late).chans = s.chans ∧ (State.frameStep s pre late).rings = s.rings ∧ (State.frameStep s pre late).pair = s.pair ∧ (State.frameStep s pre late).storeGen = s.storeGen := by simp [State.dropFrame_frame _, State.endCapture_frame _ _, State.free_frame _, State.storeFrame_frame _ _, KeepsHost, KeepsUnits, State.frameStep]
theorem State.captureStep_frame (s : State) (pre : FabState) (late : Bool) : KeepsHost (State.captureStep s pre late) s ∧ (State.captureStep s pre late).svc = s.svc ∧ (State.captureStep s pre late).img = s.img ∧ (State.captureStep s pre late).adcs = s.adcs ∧ (State.captureStep s pre late).filt = s.filt ∧ (State.captureStep s pre late).chks = s.chks ∧ (State.captureStep s pre late).chkTurn = s.chkTurn ∧ (State.captureStep s pre late).bg = s.bg ∧ (State.captureStep s pre late).pwr = s.pwr ∧ (State.captureStep s pre late).wheels = s.wheels ∧ (State.captureStep s pre late).flt = s.flt ∧ (State.captureStep s pre late).chans = s.chans ∧ (State.captureStep s pre late).rings = s.rings ∧ (State.captureStep s pre late).pair = s.pair ∧ (State.captureStep s pre late).storeGen = s.storeGen := by simp [State.frameStep_frame _ _ _, State.trigger_frame _ _ _ _ _ _, KeepsHost, KeepsUnits, State.captureStep]
theorem State.replayActivate_frame (s : State) (i : Image) : KeepsHost (State.replayActivate s i) s ∧ KeepsUnits (State.replayActivate s i) s ∧ (State.replayActivate s i).wheels = s.wheels ∧ (State.replayActivate s i).flt = s.flt ∧ (State.replayActivate s i).chans = s.chans ∧ (State.replayActivate s i).rings = s.rings ∧ (State.replayActivate s i).pair = s.pair ∧ (State.replayActivate s i).storeGen = s.storeGen := by simp [State.endCapture_frame _ _, KeepsHost, KeepsUnits, State.replayActivate]
theorem State.recount_frame (s : State) : KeepsHost (State.recount s) s ∧ KeepsUnits (State.recount s) s ∧ (State.recount s).recd = s.recd ∧ (State.recount s).wheels = s.wheels ∧ (State.recount s).flt = s.flt ∧ (State.recount s).chans = s.chans ∧ (State.recount s).rings = s.rings ∧ (State.recount s).pair = s.pair ∧ (State.recount s).cells = s.cells ∧ (State.recount s).storeGen = s.storeGen := by simp [KeepsHost, KeepsUnits, State.recount]
@[simp] theorem State.recount_cells (s : State) : (State.recount s).cells = s.cells := by simp [State.recount_frame _]
theorem State.replayStart_frame (s : State) : KeepsHost (State.replayStart s) s ∧ (State.replayStart s).svc = s.svc ∧ (State.replayStart s).img = s.img ∧ (State.replayStart s).fab = s.fab ∧ (State.replayStart s).adcs = s.adcs ∧ (State.replayStart s).filt = s.filt ∧ (State.replayStart s).chks = s.chks ∧ (State.replayStart s).chkTurn = s.chkTurn ∧ (State.replayStart s).bg = s.bg ∧ (State.replayStart s).pwr = s.pwr ∧ (State.replayStart s).recd = s.recd ∧ (State.replayStart s).wheels = s.wheels ∧ (State.replayStart s).flt = s.flt ∧ (State.replayStart s).chans = s.chans ∧ (State.replayStart s).rings = s.rings ∧ (State.replayStart s).pair = s.pair ∧ (State.replayStart s).storeGen = s.storeGen := by simp [State.replayStart, State.cutErase_frame _ _ _ _, State.recount_frame _, KeepsHost, KeepsUnits]
theorem State.replayEntries_frame (s : State) (run : Outs) (cap : Outs) (prev : Option Outs) (tick : Nat) : KeepsHost (State.replayEntries s run cap prev tick) s ∧ KeepsUnits (State.replayEntries s run cap prev tick) s ∧ (State.replayEntries s run cap prev tick).chans = s.chans ∧ (State.replayEntries s run cap prev tick).storeGen = s.storeGen := by simp [State.checkLoss_frame _ _, State.storeWhere_frame _ _ _ _, KeepsHost, KeepsUnits, State.replayEntries]
theorem State.endRerun_frame (s : State) (result : Nat) : KeepsHost (State.endRerun s result) s ∧ KeepsUnits (State.endRerun s result) s ∧ (State.endRerun s result).wheels = s.wheels ∧ (State.endRerun s result).flt = s.flt ∧ (State.endRerun s result).chans = s.chans ∧ (State.endRerun s result).rings = s.rings ∧ (State.endRerun s result).pair = s.pair ∧ (State.endRerun s result).cells = s.cells ∧ (State.endRerun s result).storeGen = s.storeGen := by
  unfold State.endRerun; (repeat' split) <;> simp [State.event_frame _ _ _ _ _ _, KeepsHost, KeepsUnits]
@[simp] theorem State.endRerun_cells (s : State) (result : Nat) : (State.endRerun s result).cells = s.cells := by simp [State.endRerun_frame _ _]
theorem State.judgeFrame_frame (s : State) (r : Rerun) (b : List Byte) (fab : FabState) : KeepsHost (State.judgeFrame s r b fab) s ∧ KeepsUnits (State.judgeFrame s r b fab) s ∧ (State.judgeFrame s r b fab).chans = s.chans ∧ (State.judgeFrame s r b fab).storeGen = s.storeGen := by
  unfold State.judgeFrame; dsimp only; (repeat' split) <;> simp [State.endRerun_frame _ _, State.replayEntries_frame _ _ _ _ _, KeepsHost, KeepsUnits]
theorem State.startRerun_frame (s : State) (no : Nat) (stopAtDiv : Bool) : KeepsHost (State.startRerun s no stopAtDiv) s ∧ (State.startRerun s no stopAtDiv).svc = s.svc ∧ (State.startRerun s no stopAtDiv).img = s.img ∧ (State.startRerun s no stopAtDiv).fab = s.fab ∧ (State.startRerun s no stopAtDiv).adcs = s.adcs ∧ (State.startRerun s no stopAtDiv).filt = s.filt ∧ (State.startRerun s no stopAtDiv).chks = s.chks ∧ (State.startRerun s no stopAtDiv).chkTurn = s.chkTurn ∧ (State.startRerun s no stopAtDiv).bg = s.bg ∧ (State.startRerun s no stopAtDiv).pwr = s.pwr ∧ (State.startRerun s no stopAtDiv).recd = s.recd ∧ (State.startRerun s no stopAtDiv).wheels = s.wheels ∧ (State.startRerun s no stopAtDiv).flt = s.flt ∧ (State.startRerun s no stopAtDiv).chans = s.chans ∧ (State.startRerun s no stopAtDiv).rings = s.rings ∧ (State.startRerun s no stopAtDiv).pair = s.pair ∧ (State.startRerun s no stopAtDiv).cells = s.cells ∧ (State.startRerun s no stopAtDiv).storeGen = s.storeGen := by
  unfold State.startRerun; dsimp only; (repeat' split) <;> simp [State.free_frame _, KeepsHost, KeepsUnits]
@[simp] theorem State.startRerun_cells (s : State) (no : Nat) (stopAtDiv : Bool) : (State.startRerun s no stopAtDiv).cells = s.cells := by simp [State.startRerun_frame _ _ _]
theorem State.writeRplMode_frame (s : State) (origin : Origin) (w : Word) : KeepsHost (State.writeRplMode s origin w).1 s ∧ KeepsUnits (State.writeRplMode s origin w).1 s := by simp [KeepsHost, KeepsUnits, State.writeRplMode]
theorem State.reinitFabric_frame (s : State) : KeepsHost (State.reinitFabric s) s ∧ (State.reinitFabric s).svc = s.svc ∧ (State.reinitFabric s).img = s.img ∧ (State.reinitFabric s).adcs = s.adcs ∧ (State.reinitFabric s).filt = s.filt ∧ (State.reinitFabric s).chks = s.chks ∧ (State.reinitFabric s).chkTurn = s.chkTurn ∧ (State.reinitFabric s).bg = s.bg ∧ (State.reinitFabric s).pwr = s.pwr ∧ (State.reinitFabric s).freeCtr = s.freeCtr ∧ (State.reinitFabric s).recd = s.recd ∧ (State.reinitFabric s).wheels = s.wheels ∧ (State.reinitFabric s).flt = s.flt ∧ (State.reinitFabric s).chans = s.chans ∧ (State.reinitFabric s).rings = s.rings ∧ (State.reinitFabric s).rpl = s.rpl ∧ (State.reinitFabric s).pair = s.pair ∧ (State.reinitFabric s).cells = s.cells ∧ (State.reinitFabric s).storeGen = s.storeGen := by simp [KeepsHost, KeepsUnits, State.reinitFabric]
@[simp] theorem State.reinitFabric_cells (s : State) : (State.reinitFabric s).cells = s.cells := by simp [State.reinitFabric_frame _]
theorem State.enterReplay_frame (s : State) : KeepsHost (State.enterReplay s) s ∧ KeepsUnits (State.enterReplay s) s ∧ (State.enterReplay s).recd = s.recd ∧ (State.enterReplay s).wheels = s.wheels ∧ (State.enterReplay s).flt = s.flt ∧ (State.enterReplay s).chans = s.chans ∧ (State.enterReplay s).rings = s.rings ∧ (State.enterReplay s).pair = s.pair ∧ (State.enterReplay s).cells = s.cells ∧ (State.enterReplay s).storeGen = s.storeGen := by simp [KeepsHost, KeepsUnits, State.enterReplay]
@[simp] theorem State.enterReplay_cells (s : State) : (State.enterReplay s).cells = s.cells := by simp [State.enterReplay_frame _]
theorem State.endLoading_frame (s : State) : KeepsHost (State.endLoading s) s ∧ KeepsUnits (State.endLoading s) s ∧ (State.endLoading s).recd = s.recd ∧ (State.endLoading s).wheels = s.wheels ∧ (State.endLoading s).flt = s.flt ∧ (State.endLoading s).chans = s.chans ∧ (State.endLoading s).rings = s.rings ∧ (State.endLoading s).pair = s.pair ∧ (State.endLoading s).cells = s.cells ∧ (State.endLoading s).storeGen = s.storeGen := by simp [State.recount_frame _, KeepsHost, KeepsUnits, State.endLoading]
@[simp] theorem State.endLoading_cells (s : State) : (State.endLoading s).cells = s.cells := by simp [State.endLoading_frame _]
theorem State.leaveReplay_frame (s : State) : KeepsHost (State.leaveReplay s) s ∧ (State.leaveReplay s).svc = s.svc ∧ (State.leaveReplay s).img = s.img ∧ (State.leaveReplay s).adcs = s.adcs ∧ (State.leaveReplay s).filt = s.filt ∧ (State.leaveReplay s).chks = s.chks ∧ (State.leaveReplay s).chkTurn = s.chkTurn ∧ (State.leaveReplay s).bg = s.bg ∧ (State.leaveReplay s).pwr = s.pwr ∧ (State.leaveReplay s).freeCtr = s.freeCtr ∧ (State.leaveReplay s).wheels = s.wheels ∧ (State.leaveReplay s).flt = s.flt ∧ (State.leaveReplay s).chans = s.chans ∧ (State.leaveReplay s).rings = s.rings ∧ (State.leaveReplay s).pair = s.pair ∧ (State.leaveReplay s).cells = s.cells ∧ (State.leaveReplay s).storeGen = s.storeGen := by simp [State.endLoading_frame _, State.endRerun_frame _ _, State.reinitFabric_frame _, KeepsHost, KeepsUnits, State.leaveReplay]
@[simp] theorem State.leaveReplay_cells (s : State) : (State.leaveReplay s).cells = s.cells := by simp [State.leaveReplay_frame _]
theorem State.eraseStore_frame (s : State) : KeepsHost (State.eraseStore s) s ∧ (State.eraseStore s).svc = s.svc ∧ (State.eraseStore s).img = s.img ∧ (State.eraseStore s).fab = s.fab ∧ (State.eraseStore s).adcs = s.adcs ∧ (State.eraseStore s).filt = s.filt ∧ (State.eraseStore s).chks = s.chks ∧ (State.eraseStore s).chkTurn = s.chkTurn ∧ (State.eraseStore s).pwr = s.pwr ∧ (State.eraseStore s).freeCtr = s.freeCtr ∧ (State.eraseStore s).chans = s.chans ∧ (State.eraseStore s).storeGen = s.storeGen := by simp [State.eraseSectors_frame _ _ _, KeepsHost, KeepsUnits, State.eraseStore]
theorem State.sealStore_frame (s : State) : KeepsHost (State.sealStore s) s ∧ KeepsUnits (State.sealStore s) s ∧ (State.sealStore s).recd = s.recd ∧ (State.sealStore s).wheels = s.wheels ∧ (State.sealStore s).flt = s.flt ∧ (State.sealStore s).chans = s.chans ∧ (State.sealStore s).rings = s.rings ∧ (State.sealStore s).pair = s.pair ∧ (State.sealStore s).cells = s.cells ∧ (State.sealStore s).storeGen = s.storeGen := by simp [State.recount_frame _, KeepsHost, KeepsUnits, State.sealStore]
@[simp] theorem State.sealStore_cells (s : State) : (State.sealStore s).cells = s.cells := by simp [State.sealStore_frame _]
theorem State.rplCmd_frame (s : State) (origin : Origin) (w : Word) : KeepsHost (State.rplCmd s origin w).1 s ∧ (State.rplCmd s origin w).1.svc = s.svc ∧ (State.rplCmd s origin w).1.img = s.img ∧ (State.rplCmd s origin w).1.fab = s.fab ∧ (State.rplCmd s origin w).1.adcs = s.adcs ∧ (State.rplCmd s origin w).1.filt = s.filt ∧ (State.rplCmd s origin w).1.chks = s.chks ∧ (State.rplCmd s origin w).1.chkTurn = s.chkTurn ∧ (State.rplCmd s origin w).1.pwr = s.pwr := by simp [State.endRerun_frame _ _, State.eraseStore_frame _, State.sealStore_frame _, State.startRerun_frame _ _ _, State.trigger_frame _ _ _ _ _ _, KeepsHost, KeepsUnits, State.rplCmd]
theorem State.writeRplCfg_frame (s : State) (origin : Origin) (w : Word) : KeepsHost (State.writeRplCfg s origin w).1 s ∧ (State.writeRplCfg s origin w).1.svc = s.svc ∧ (State.writeRplCfg s origin w).1.fab = s.fab ∧ (State.writeRplCfg s origin w).1.adcs = s.adcs ∧ (State.writeRplCfg s origin w).1.filt = s.filt ∧ (State.writeRplCfg s origin w).1.chks = s.chks ∧ (State.writeRplCfg s origin w).1.chkTurn = s.chkTurn ∧ (State.writeRplCfg s origin w).1.bg = s.bg ∧ (State.writeRplCfg s origin w).1.pwr = s.pwr ∧ (State.writeRplCfg s origin w).1.freeCtr = s.freeCtr := by simp [KeepsHost, KeepsUnits, State.writeRplCfg]
theorem State.writeRplCapcfg_frame (s : State) (origin : Origin) (w : Word) : KeepsHost (State.writeRplCapcfg s origin w).1 s ∧ (State.writeRplCapcfg s origin w).1.svc = s.svc ∧ (State.writeRplCapcfg s origin w).1.fab = s.fab ∧ (State.writeRplCapcfg s origin w).1.adcs = s.adcs ∧ (State.writeRplCapcfg s origin w).1.filt = s.filt ∧ (State.writeRplCapcfg s origin w).1.chks = s.chks ∧ (State.writeRplCapcfg s origin w).1.chkTurn = s.chkTurn ∧ (State.writeRplCapcfg s origin w).1.bg = s.bg ∧ (State.writeRplCapcfg s origin w).1.pwr = s.pwr ∧ (State.writeRplCapcfg s origin w).1.freeCtr = s.freeCtr := by simp [KeepsHost, KeepsUnits, State.writeRplCapcfg]
theorem State.writeXdata_frame (s : State) (w : Word) : KeepsHost (State.writeXdata s w).1 s ∧ KeepsUnits (State.writeXdata s w).1 s ∧ (State.writeXdata s w).1.recd = s.recd ∧ (State.writeXdata s w).1.wheels = s.wheels ∧ (State.writeXdata s w).1.flt = s.flt ∧ (State.writeXdata s w).1.chans = s.chans ∧ (State.writeXdata s w).1.rings = s.rings ∧ (State.writeXdata s w).1.pair = s.pair ∧ (State.writeXdata s w).1.storeGen = s.storeGen := by simp [KeepsHost, KeepsUnits, State.writeXdata]
theorem State.rplWrite_frame (s : State) (origin : Origin) (r : RplReg) (w : Word) : KeepsHost (State.rplWrite s origin r w).1 s ∧ (State.rplWrite s origin r w).1.svc = s.svc ∧ (State.rplWrite s origin r w).1.fab = s.fab ∧ (State.rplWrite s origin r w).1.adcs = s.adcs ∧ (State.rplWrite s origin r w).1.filt = s.filt ∧ (State.rplWrite s origin r w).1.chks = s.chks ∧ (State.rplWrite s origin r w).1.chkTurn = s.chkTurn ∧ (State.rplWrite s origin r w).1.pwr = s.pwr := by
  unfold State.rplWrite; (repeat' split) <;> simp [State.rplCmd_frame _ _ _, State.writeRplCapcfg_frame _ _ _, State.writeRplCfg_frame _ _ _, State.writeRplMode_frame _ _ _, State.writeXdata_frame _ _, KeepsHost, KeepsUnits]
theorem State.rplRead_frame (s : State) (r : RplReg) : KeepsHost (State.rplRead s r).2 s ∧ KeepsUnits (State.rplRead s r).2 s ∧ (State.rplRead s r).2.recd = s.recd ∧ (State.rplRead s r).2.wheels = s.wheels ∧ (State.rplRead s r).2.flt = s.flt ∧ (State.rplRead s r).2.chans = s.chans ∧ (State.rplRead s r).2.rings = s.rings ∧ (State.rplRead s r).2.pair = s.pair ∧ (State.rplRead s r).2.cells = s.cells ∧ (State.rplRead s r).2.storeGen = s.storeGen := by
  unfold State.rplRead; (repeat' split) <;> simp [KeepsHost, KeepsUnits]
@[simp] theorem State.rplRead_cells (s : State) (r : RplReg) : (State.rplRead s r).2.cells = s.cells := by simp [State.rplRead_frame _ _]
/-! ## Check -/
theorem State.detect_frame (s : State) (h : Fin 31) : KeepsHost (State.detect s h) s ∧ KeepsUnits (State.detect s h) s ∧ (State.detect s h).chans = s.chans ∧ (State.detect s h).storeGen = s.storeGen := by simp [State.raiseHost_frame _ _, State.raiseLive_frame _ _ _, KeepsHost, KeepsUnits, State.detect]
theorem State.scanUnit_frame (s : State) (u : Fin 4) (bad : Bool) : KeepsHost (State.scanUnit s u bad) s ∧ (State.scanUnit s u bad).svc = s.svc ∧ (State.scanUnit s u bad).img = s.img ∧ (State.scanUnit s u bad).fab = s.fab ∧ (State.scanUnit s u bad).adcs = s.adcs ∧ (State.scanUnit s u bad).filt = s.filt ∧ (State.scanUnit s u bad).bg = s.bg ∧ (State.scanUnit s u bad).pwr = s.pwr ∧ (State.scanUnit s u bad).chans = s.chans ∧ (State.scanUnit s u bad).storeGen = s.storeGen := by simp [State.detect_frame _ _, KeepsHost, KeepsUnits, State.scanUnit]
theorem State.chkSet_frame (s : State) (u : Fin 4) (shared : Bool) (bad : List (Bool × Nat)) (f : Chk → Chk) : KeepsHost (State.chkSet s u shared bad f).1 s ∧ (State.chkSet s u shared bad f).1.svc = s.svc ∧ (State.chkSet s u shared bad f).1.img = s.img ∧ (State.chkSet s u shared bad f).1.fab = s.fab ∧ (State.chkSet s u shared bad f).1.adcs = s.adcs ∧ (State.chkSet s u shared bad f).1.filt = s.filt ∧ (State.chkSet s u shared bad f).1.chkTurn = s.chkTurn ∧ (State.chkSet s u shared bad f).1.bg = s.bg ∧ (State.chkSet s u shared bad f).1.pwr = s.pwr ∧ (State.chkSet s u shared bad f).1.freeCtr = s.freeCtr ∧ (State.chkSet s u shared bad f).1.recd = s.recd ∧ (State.chkSet s u shared bad f).1.wheels = s.wheels ∧ (State.chkSet s u shared bad f).1.flt = s.flt ∧ (State.chkSet s u shared bad f).1.chans = s.chans ∧ (State.chkSet s u shared bad f).1.rings = s.rings ∧ (State.chkSet s u shared bad f).1.rpl = s.rpl ∧ (State.chkSet s u shared bad f).1.pair = s.pair ∧ (State.chkSet s u shared bad f).1.cells = s.cells ∧ (State.chkSet s u shared bad f).1.storeGen = s.storeGen := by simp [KeepsHost, KeepsUnits, State.chkSet]
theorem State.chkCmd_frame (s : State) (u : Fin 4) (w : Word) : KeepsHost (State.chkCmd s u w).1 s ∧ (State.chkCmd s u w).1.svc = s.svc ∧ (State.chkCmd s u w).1.img = s.img ∧ (State.chkCmd s u w).1.fab = s.fab ∧ (State.chkCmd s u w).1.adcs = s.adcs ∧ (State.chkCmd s u w).1.filt = s.filt ∧ (State.chkCmd s u w).1.chkTurn = s.chkTurn ∧ (State.chkCmd s u w).1.bg = s.bg ∧ (State.chkCmd s u w).1.pwr = s.pwr ∧ (State.chkCmd s u w).1.freeCtr = s.freeCtr ∧ (State.chkCmd s u w).1.recd = s.recd ∧ (State.chkCmd s u w).1.wheels = s.wheels ∧ (State.chkCmd s u w).1.flt = s.flt ∧ (State.chkCmd s u w).1.chans = s.chans ∧ (State.chkCmd s u w).1.rings = s.rings ∧ (State.chkCmd s u w).1.rpl = s.rpl ∧ (State.chkCmd s u w).1.pair = s.pair ∧ (State.chkCmd s u w).1.cells = s.cells ∧ (State.chkCmd s u w).1.storeGen = s.storeGen := by simp [KeepsHost, KeepsUnits, State.chkCmd]
theorem State.chkWrite_frame (s : State) (u : Fin 4) (r : ChkReg) (w : Word) : KeepsHost (State.chkWrite s u r w).1 s ∧ (State.chkWrite s u r w).1.svc = s.svc ∧ (State.chkWrite s u r w).1.img = s.img ∧ (State.chkWrite s u r w).1.fab = s.fab ∧ (State.chkWrite s u r w).1.adcs = s.adcs ∧ (State.chkWrite s u r w).1.filt = s.filt ∧ (State.chkWrite s u r w).1.chkTurn = s.chkTurn ∧ (State.chkWrite s u r w).1.bg = s.bg ∧ (State.chkWrite s u r w).1.pwr = s.pwr ∧ (State.chkWrite s u r w).1.freeCtr = s.freeCtr ∧ (State.chkWrite s u r w).1.recd = s.recd ∧ (State.chkWrite s u r w).1.wheels = s.wheels ∧ (State.chkWrite s u r w).1.flt = s.flt ∧ (State.chkWrite s u r w).1.chans = s.chans ∧ (State.chkWrite s u r w).1.rings = s.rings ∧ (State.chkWrite s u r w).1.rpl = s.rpl ∧ (State.chkWrite s u r w).1.pair = s.pair ∧ (State.chkWrite s u r w).1.cells = s.cells ∧ (State.chkWrite s u r w).1.storeGen = s.storeGen := by
  unfold State.chkWrite; (repeat' split) <;> simp [State.chkCmd_frame _ _ _, State.chkSet_frame _ _ _ _ _, KeepsHost, KeepsUnits]
@[simp] theorem State.chkWrite_cells (s : State) (u : Fin 4) (r : ChkReg) (w : Word) : (State.chkWrite s u r w).1.cells = s.cells := by simp [State.chkWrite_frame _ _ _ _]
theorem State.chkRead_frame (s : State) (u : Fin 4) (r : ChkReg) : KeepsHost (State.chkRead s u r).2 s ∧ (State.chkRead s u r).2.svc = s.svc ∧ (State.chkRead s u r).2.img = s.img ∧ (State.chkRead s u r).2.fab = s.fab ∧ (State.chkRead s u r).2.adcs = s.adcs ∧ (State.chkRead s u r).2.filt = s.filt ∧ (State.chkRead s u r).2.chkTurn = s.chkTurn ∧ (State.chkRead s u r).2.bg = s.bg ∧ (State.chkRead s u r).2.pwr = s.pwr ∧ (State.chkRead s u r).2.freeCtr = s.freeCtr ∧ (State.chkRead s u r).2.recd = s.recd ∧ (State.chkRead s u r).2.wheels = s.wheels ∧ (State.chkRead s u r).2.flt = s.flt ∧ (State.chkRead s u r).2.chans = s.chans ∧ (State.chkRead s u r).2.rings = s.rings ∧ (State.chkRead s u r).2.rpl = s.rpl ∧ (State.chkRead s u r).2.pair = s.pair ∧ (State.chkRead s u r).2.cells = s.cells ∧ (State.chkRead s u r).2.storeGen = s.storeGen := by
  unfold State.chkRead; (repeat' split) <;> simp [KeepsHost, KeepsUnits]
@[simp] theorem State.chkRead_cells (s : State) (u : Fin 4) (r : ChkReg) : (State.chkRead s u r).2.cells = s.cells := by simp [State.chkRead_frame _ _ _]
/-! ## Ringmaster -/
theorem State.judgePartner_frame (s : State) : KeepsHost (State.judgePartner s) s ∧ KeepsUnits (State.judgePartner s) s ∧ (State.judgePartner s).wheels = s.wheels ∧ (State.judgePartner s).flt = s.flt ∧ (State.judgePartner s).chans = s.chans ∧ (State.judgePartner s).rpl = s.rpl ∧ (State.judgePartner s).cells = s.cells ∧ (State.judgePartner s).storeGen = s.storeGen := by simp [State.setUq_frame _ _ _, KeepsHost, KeepsUnits, State.judgePartner]
@[simp] theorem State.judgePartner_cells (s : State) : (State.judgePartner s).cells = s.cells := by simp [State.judgePartner_frame _]
theorem State.followP2_frame (s : State) (h : Fin 31) (live : Bool) (p2 : Word) : KeepsHost (State.followP2 s h live p2) s ∧ KeepsUnits (State.followP2 s h live p2) s ∧ (State.followP2 s h live p2).chans = s.chans ∧ (State.followP2 s h live p2).storeGen = s.storeGen := by simp [State.clearLive_frame _ _, State.raiseLive_frame _ _ _, KeepsHost, KeepsUnits, State.followP2]
theorem State.pairSources_frame (s : State) : KeepsHost (State.pairSources s) s ∧ (State.pairSources s).svc = s.svc ∧ (State.pairSources s).img = s.img ∧ (State.pairSources s).fab = s.fab ∧ (State.pairSources s).adcs = s.adcs ∧ (State.pairSources s).filt = s.filt ∧ (State.pairSources s).chks = s.chks ∧ (State.pairSources s).chkTurn = s.chkTurn ∧ (State.pairSources s).bg = s.bg ∧ (State.pairSources s).pwr = s.pwr ∧ (State.pairSources s).chans = s.chans ∧ (State.pairSources s).storeGen = s.storeGen := by simp [State.followP2_frame _ _ _ _, State.free_frame _, KeepsHost, KeepsUnits, State.pairSources]
theorem State.pairCounts_frame (s : State) : KeepsHost (State.pairCounts s) s ∧ KeepsUnits (State.pairCounts s) s ∧ (State.pairCounts s).recd = s.recd ∧ (State.pairCounts s).wheels = s.wheels ∧ (State.pairCounts s).flt = s.flt ∧ (State.pairCounts s).chans = s.chans ∧ (State.pairCounts s).rings = s.rings ∧ (State.pairCounts s).rpl = s.rpl ∧ (State.pairCounts s).cells = s.cells ∧ (State.pairCounts s).storeGen = s.storeGen := by simp [KeepsHost, KeepsUnits, State.pairCounts]
@[simp] theorem State.pairCounts_cells (s : State) : (State.pairCounts s).cells = s.cells := by simp [State.pairCounts_frame _]
theorem State.settleGap_frame (s : State) : KeepsHost (State.settleGap s) s ∧ KeepsUnits (State.settleGap s) s ∧ (State.settleGap s).wheels = s.wheels ∧ (State.settleGap s).flt = s.flt ∧ (State.settleGap s).chans = s.chans ∧ (State.settleGap s).rpl = s.rpl ∧ (State.settleGap s).cells = s.cells ∧ (State.settleGap s).storeGen = s.storeGen := by simp [State.setUq_frame _ _ _, KeepsHost, KeepsUnits, State.settleGap]
@[simp] theorem State.settleGap_cells (s : State) : (State.settleGap s).cells = s.cells := by simp [State.settleGap_frame _]
theorem State.checkSwap_frame (s : State) : KeepsHost (State.checkSwap s) s ∧ KeepsUnits (State.checkSwap s) s ∧ (State.checkSwap s).wheels = s.wheels ∧ (State.checkSwap s).flt = s.flt ∧ (State.checkSwap s).chans = s.chans ∧ (State.checkSwap s).rpl = s.rpl ∧ (State.checkSwap s).cells = s.cells ∧ (State.checkSwap s).storeGen = s.storeGen := by
  unfold State.checkSwap; (repeat' split) <;> simp [State.endSwap_frame _ _ _, State.setRole_frame _ _ _ _, KeepsHost, KeepsUnits]
@[simp] theorem State.checkSwap_cells (s : State) : (State.checkSwap s).cells = s.cells := by simp [State.checkSwap_frame _]
theorem State.pairSync_frame (s : State) : KeepsHost (State.pairSync s) s ∧ (State.pairSync s).svc = s.svc ∧ (State.pairSync s).img = s.img ∧ (State.pairSync s).fab = s.fab ∧ (State.pairSync s).adcs = s.adcs ∧ (State.pairSync s).filt = s.filt ∧ (State.pairSync s).chks = s.chks ∧ (State.pairSync s).chkTurn = s.chkTurn ∧ (State.pairSync s).bg = s.bg ∧ (State.pairSync s).pwr = s.pwr ∧ (State.pairSync s).chans = s.chans ∧ (State.pairSync s).storeGen = s.storeGen := by simp [State.checkSwap_frame _, State.pairCounts_frame _, State.pairSources_frame _, State.setRole_frame _ _ _ _, State.setUq_frame _ _ _, State.settleGap_frame _, State.tellRole_frame _ _ _, KeepsHost, KeepsUnits, State.pairSync]
theorem State.followGate_frame (s : State) (x : RingId) : KeepsHost (State.followGate s x) s ∧ KeepsUnits (State.followGate s x) s ∧ (State.followGate s x).recd = s.recd ∧ (State.followGate s x).wheels = s.wheels ∧ (State.followGate s x).flt = s.flt ∧ (State.followGate s x).rpl = s.rpl ∧ (State.followGate s x).pair = s.pair ∧ (State.followGate s x).cells = s.cells ∧ (State.followGate s x).storeGen = s.storeGen := by simp [State.refreshRing_frame _ _ _, KeepsHost, KeepsUnits, State.followGate]
theorem State.takeGate_frame (s : State) (x : RingId) (gate : Bool) : KeepsHost (State.takeGate s x gate) s ∧ KeepsUnits (State.takeGate s x gate) s ∧ (State.takeGate s x gate).recd = s.recd ∧ (State.takeGate s x gate).wheels = s.wheels ∧ (State.takeGate s x gate).flt = s.flt ∧ (State.takeGate s x gate).rpl = s.rpl ∧ (State.takeGate s x gate).pair = s.pair ∧ (State.takeGate s x gate).cells = s.cells ∧ (State.takeGate s x gate).storeGen = s.storeGen := by simp [State.followGate_frame _ _, KeepsHost, KeepsUnits, State.takeGate]
theorem State.takeToggle_frame (s : State) (x : RingId) (toggle : Bool) : KeepsHost (State.takeToggle s x toggle) s ∧ KeepsUnits (State.takeToggle s x toggle) s ∧ (State.takeToggle s x toggle).recd = s.recd ∧ (State.takeToggle s x toggle).wheels = s.wheels ∧ (State.takeToggle s x toggle).flt = s.flt ∧ (State.takeToggle s x toggle).chans = s.chans ∧ (State.takeToggle s x toggle).rings = s.rings ∧ (State.takeToggle s x toggle).rpl = s.rpl ∧ (State.takeToggle s x toggle).cells = s.cells ∧ (State.takeToggle s x toggle).storeGen = s.storeGen := by simp [KeepsHost, KeepsUnits, State.takeToggle]
theorem State.sendBeat_frame (s : State) (x : RingId) : KeepsHost (State.sendBeat s x) s ∧ KeepsUnits (State.sendBeat s x) s ∧ (State.sendBeat s x).recd = s.recd ∧ (State.sendBeat s x).wheels = s.wheels ∧ (State.sendBeat s x).flt = s.flt ∧ (State.sendBeat s x).chans = s.chans ∧ (State.sendBeat s x).rpl = s.rpl ∧ (State.sendBeat s x).cells = s.cells ∧ (State.sendBeat s x).storeGen = s.storeGen := by simp [KeepsHost, KeepsUnits, State.sendBeat]
@[simp] theorem State.sendBeat_cells (s : State) (x : RingId) : (State.sendBeat s x).cells = s.cells := by simp [State.sendBeat_frame _ _]
theorem State.sendGates_frame (s : State) : KeepsHost (State.sendGates s) s ∧ KeepsUnits (State.sendGates s) s ∧ (State.sendGates s).recd = s.recd ∧ (State.sendGates s).wheels = s.wheels ∧ (State.sendGates s).flt = s.flt ∧ (State.sendGates s).chans = s.chans ∧ (State.sendGates s).rpl = s.rpl ∧ (State.sendGates s).cells = s.cells ∧ (State.sendGates s).storeGen = s.storeGen := by simp [State.sendBeat_frame _ _, KeepsHost, KeepsUnits, State.sendGates]
@[simp] theorem State.sendGates_cells (s : State) : (State.sendGates s).cells = s.cells := by simp [State.sendGates_frame _]
theorem State.activeChannel_frame (s : State) (n : Fin 16) (swap : Bool) (discarding : Bool) (present : BitVec 16) : KeepsHost (State.activeChannel s n swap discarding present) s ∧ (State.activeChannel s n swap discarding present).svc = s.svc ∧ (State.activeChannel s n swap discarding present).img = s.img ∧ (State.activeChannel s n swap discarding present).fab = s.fab ∧ (State.activeChannel s n swap discarding present).adcs = s.adcs ∧ (State.activeChannel s n swap discarding present).chks = s.chks ∧ (State.activeChannel s n swap discarding present).chkTurn = s.chkTurn ∧ (State.activeChannel s n swap discarding present).bg = s.bg ∧ (State.activeChannel s n swap discarding present).pwr = s.pwr ∧ (State.activeChannel s n swap discarding present).freeCtr = s.freeCtr ∧ (State.activeChannel s n swap discarding present).wheels = s.wheels ∧ (State.activeChannel s n swap discarding present).flt = s.flt ∧ (State.activeChannel s n swap discarding present).rpl = s.rpl ∧ (State.activeChannel s n swap discarding present).pair = s.pair ∧ (State.activeChannel s n swap discarding present).cells = s.cells ∧ (State.activeChannel s n swap discarding present).storeGen = s.storeGen := by simp [State.activeChannel, State.restartInput_frame _ _, State.rearmGuard_frame _ _, State.tellPlug_frame _ _, State.resetGuard_frame _ _, KeepsHost, KeepsUnits]
theorem State.standbyChannel_frame (s : State) (n : Fin 16) : KeepsHost (State.standbyChannel s n) s ∧ KeepsUnits (State.standbyChannel s n) s ∧ (State.standbyChannel s n).recd = s.recd ∧ (State.standbyChannel s n).wheels = s.wheels ∧ (State.standbyChannel s n).flt = s.flt ∧ (State.standbyChannel s n).rpl = s.rpl ∧ (State.standbyChannel s n).pair = s.pair ∧ (State.standbyChannel s n).cells = s.cells ∧ (State.standbyChannel s n).storeGen = s.storeGen := by simp [State.resetGuard_frame _ _, State.restartInput_frame _ _, KeepsHost, KeepsUnits, State.standbyChannel]
theorem State.takeRole_frame (s : State) (x : RingId) (w : RoleWork) (swap : Bool) (present : BitVec 16) : KeepsHost (State.takeRole s x w swap present) s ∧ (State.takeRole s x w swap present).svc = s.svc ∧ (State.takeRole s x w swap present).img = s.img ∧ (State.takeRole s x w swap present).fab = s.fab ∧ (State.takeRole s x w swap present).adcs = s.adcs ∧ (State.takeRole s x w swap present).chks = s.chks ∧ (State.takeRole s x w swap present).chkTurn = s.chkTurn ∧ (State.takeRole s x w swap present).bg = s.bg ∧ (State.takeRole s x w swap present).pwr = s.pwr ∧ (State.takeRole s x w swap present).freeCtr = s.freeCtr ∧ (State.takeRole s x w swap present).wheels = s.wheels ∧ (State.takeRole s x w swap present).flt = s.flt ∧ (State.takeRole s x w swap present).rpl = s.rpl ∧ (State.takeRole s x w swap present).pair = s.pair ∧ (State.takeRole s x w swap present).cells = s.cells ∧ (State.takeRole s x w swap present).storeGen = s.storeGen := by simp [State.takeRole, State.standbyChannel_frame _ _, State.activeChannel_frame _ _ _ _ _, State.applyGuards_frame _ _, KeepsHost, KeepsUnits]
@[simp] theorem State.takeRole_cells (s : State) (x : RingId) (w : RoleWork) (swap : Bool) (present : BitVec 16) : (State.takeRole s x w swap present).cells = s.cells := by simp [State.takeRole_frame _ _ _ _ _]
theorem State.takeSetpoints_frame (s : State) (e : Epoch) : KeepsHost (State.takeSetpoints s e) s ∧ KeepsUnits (State.takeSetpoints s e) s ∧ (State.takeSetpoints s e).recd = s.recd ∧ (State.takeSetpoints s e).wheels = s.wheels ∧ (State.takeSetpoints s e).flt = s.flt ∧ (State.takeSetpoints s e).rings = s.rings ∧ (State.takeSetpoints s e).rpl = s.rpl ∧ (State.takeSetpoints s e).pair = s.pair ∧ (State.takeSetpoints s e).cells = s.cells ∧ (State.takeSetpoints s e).storeGen = s.storeGen := by simp [KeepsHost, KeepsUnits, State.takeSetpoints]
theorem State.imageSetpoints_frame (s : State) : KeepsHost (State.imageSetpoints s) s ∧ KeepsUnits (State.imageSetpoints s) s ∧ (State.imageSetpoints s).recd = s.recd ∧ (State.imageSetpoints s).wheels = s.wheels ∧ (State.imageSetpoints s).flt = s.flt ∧ (State.imageSetpoints s).rings = s.rings ∧ (State.imageSetpoints s).rpl = s.rpl ∧ (State.imageSetpoints s).pair = s.pair ∧ (State.imageSetpoints s).cells = s.cells ∧ (State.imageSetpoints s).storeGen = s.storeGen := by
  unfold State.imageSetpoints; (repeat' split) <;> simp [KeepsHost, KeepsUnits]
@[simp] theorem State.imageSetpoints_cells (s : State) : (State.imageSetpoints s).cells = s.cells := by simp [State.imageSetpoints_frame _]
theorem State.sendCommand_frame (s : State) (n : Fin 16) : KeepsHost (State.sendCommand s n) s ∧ KeepsUnits (State.sendCommand s n) s ∧ (State.sendCommand s n).recd = s.recd ∧ (State.sendCommand s n).wheels = s.wheels ∧ (State.sendCommand s n).flt = s.flt ∧ (State.sendCommand s n).chans = s.chans ∧ (State.sendCommand s n).rpl = s.rpl ∧ (State.sendCommand s n).pair = s.pair ∧ (State.sendCommand s n).cells = s.cells ∧ (State.sendCommand s n).storeGen = s.storeGen := by simp [State.sendCommand, State.sendCfg_frame _ _, State.sendSetpoint_frame _ _, State.sendDrive_frame _ _, KeepsHost, KeepsUnits]
@[simp] theorem State.sendCommand_cells (s : State) (n : Fin 16) : (State.sendCommand s n).cells = s.cells := by simp [State.sendCommand_frame _ _]
theorem State.sendCommands_frame (s : State) : KeepsHost (State.sendCommands s) s ∧ KeepsUnits (State.sendCommands s) s ∧ (State.sendCommands s).recd = s.recd ∧ (State.sendCommands s).wheels = s.wheels ∧ (State.sendCommands s).flt = s.flt ∧ (State.sendCommands s).rpl = s.rpl ∧ (State.sendCommands s).pair = s.pair ∧ (State.sendCommands s).cells = s.cells ∧ (State.sendCommands s).storeGen = s.storeGen := by simp [State.sendCommands, State.sendCommand_frame _ _, KeepsHost, KeepsUnits]
@[simp] theorem State.sendCommands_cells (s : State) : (State.sendCommands s).cells = s.cells := by simp [State.sendCommands_frame _]
theorem State.sendChannels_frame (s : State) : KeepsHost (State.sendChannels s) s ∧ KeepsUnits (State.sendChannels s) s ∧ (State.sendChannels s).recd = s.recd ∧ (State.sendChannels s).wheels = s.wheels ∧ (State.sendChannels s).flt = s.flt ∧ (State.sendChannels s).chans = s.chans ∧ (State.sendChannels s).rpl = s.rpl ∧ (State.sendChannels s).pair = s.pair ∧ (State.sendChannels s).cells = s.cells ∧ (State.sendChannels s).storeGen = s.storeGen := by simp [State.sendChannels, State.sendCommand_frame _ _, KeepsHost, KeepsUnits]
@[simp] theorem State.sendChannels_cells (s : State) : (State.sendChannels s).cells = s.cells := by simp [State.sendChannels_frame _]
theorem State.gateAfter_frame (s : State) (x : RingId) : KeepsHost (State.gateAfter s x) s ∧ KeepsUnits (State.gateAfter s x) s ∧ (State.gateAfter s x).recd = s.recd ∧ (State.gateAfter s x).wheels = s.wheels ∧ (State.gateAfter s x).flt = s.flt ∧ (State.gateAfter s x).chans = s.chans ∧ (State.gateAfter s x).rpl = s.rpl ∧ (State.gateAfter s x).cells = s.cells ∧ (State.gateAfter s x).storeGen = s.storeGen := by simp [State.sendBeat_frame _ _, State.sendRing_frame _ _ _, KeepsHost, KeepsUnits, State.gateAfter]
@[simp] theorem State.gateAfter_cells (s : State) (x : RingId) : (State.gateAfter s x).cells = s.cells := by simp [State.gateAfter_frame _ _]
theorem State.takeOutputs_frame (s : State) (e : Epoch) : KeepsHost (State.takeOutputs s e) s ∧ (State.takeOutputs s e).svc = s.svc ∧ (State.takeOutputs s e).img = s.img ∧ (State.takeOutputs s e).adcs = s.adcs ∧ (State.takeOutputs s e).filt = s.filt ∧ (State.takeOutputs s e).chks = s.chks ∧ (State.takeOutputs s e).chkTurn = s.chkTurn ∧ (State.takeOutputs s e).bg = s.bg ∧ (State.takeOutputs s e).pwr = s.pwr ∧ (State.takeOutputs s e).freeCtr = s.freeCtr ∧ (State.takeOutputs s e).recd = s.recd ∧ (State.takeOutputs s e).wheels = s.wheels ∧ (State.takeOutputs s e).flt = s.flt ∧ (State.takeOutputs s e).rings = s.rings ∧ (State.takeOutputs s e).rpl = s.rpl ∧ (State.takeOutputs s e).pair = s.pair ∧ (State.takeOutputs s e).cells = s.cells ∧ (State.takeOutputs s e).storeGen = s.storeGen := by simp [State.takeSetpoints_frame _ _, KeepsHost, KeepsUnits, State.takeOutputs]
@[simp] theorem State.takeOutputs_cells (s : State) (e : Epoch) : (State.takeOutputs s e).cells = s.cells := by simp [State.takeOutputs_frame _ _]
theorem State.becomeActive_frame (s : State) : KeepsHost (State.becomeActive s) s ∧ (State.becomeActive s).svc = s.svc ∧ (State.becomeActive s).img = s.img ∧ (State.becomeActive s).adcs = s.adcs ∧ (State.becomeActive s).chks = s.chks ∧ (State.becomeActive s).chkTurn = s.chkTurn ∧ (State.becomeActive s).bg = s.bg ∧ (State.becomeActive s).pwr = s.pwr ∧ (State.becomeActive s).freeCtr = s.freeCtr ∧ (State.becomeActive s).storeGen = s.storeGen := by
  unfold State.becomeActive; dsimp only; cases s.pair.held <;> cases decide (s.pair.claimReason.toNat = 1) <;> cases decide (s.pair.claimReason.toNat = 2) <;> simp [State.gateAfter_frame _ _, State.imageSetpoints_frame _, State.raise_frame _ _, State.restartChain_frame _ _, State.sendChannels_frame _, State.sendCommands_frame _, State.sendState_frame _, State.sendSwap_frame _ _, State.setRole_frame _ _ _ _, State.takeOutputs_frame _ _, State.tellRole_frame _ _ _, KeepsHost, KeepsUnits]
theorem State.claim_frame (s : State) (roleReason : Nat) (claimReason : Nat) (idle : Bool) : KeepsHost (State.claim s roleReason claimReason idle) s ∧ KeepsUnits (State.claim s roleReason claimReason idle) s ∧ (State.claim s roleReason claimReason idle).wheels = s.wheels ∧ (State.claim s roleReason claimReason idle).flt = s.flt ∧ (State.claim s roleReason claimReason idle).chans = s.chans ∧ (State.claim s roleReason claimReason idle).rpl = s.rpl ∧ (State.claim s roleReason claimReason idle).cells = s.cells ∧ (State.claim s roleReason claimReason idle).storeGen = s.storeGen := by simp [State.sendSource_frame _ _, State.setRole_frame _ _ _ _, KeepsHost, KeepsUnits, State.claim]
@[simp] theorem State.claim_cells (s : State) (roleReason : Nat) (claimReason : Nat) (idle : Bool) : (State.claim s roleReason claimReason idle).cells = s.cells := by simp [State.claim_frame _ _ _ _]
theorem State.hearQual_frame (s : State) (up : Bool) (idle : Bool) : KeepsHost (State.hearQual s up idle) s ∧ (State.hearQual s up idle).svc = s.svc ∧ (State.hearQual s up idle).img = s.img ∧ (State.hearQual s up idle).adcs = s.adcs ∧ (State.hearQual s up idle).chks = s.chks ∧ (State.hearQual s up idle).chkTurn = s.chkTurn ∧ (State.hearQual s up idle).bg = s.bg ∧ (State.hearQual s up idle).pwr = s.pwr ∧ (State.hearQual s up idle).storeGen = s.storeGen := by simp [State.becomeActive_frame _, State.claim_frame _ _ _ _, State.pairSync_frame _, State.sendGates_frame _, KeepsHost, KeepsUnits, State.hearQual]
theorem State.tzFrame_frame (s : State) : KeepsHost (State.tzFrame s) s ∧ KeepsUnits (State.tzFrame s) s ∧ (State.tzFrame s).chans = s.chans ∧ (State.tzFrame s).storeGen = s.storeGen := by simp [State.clearLive_frame _ _, State.sendState_frame _, KeepsHost, KeepsUnits, State.tzFrame]
theorem State.tzDiscard_frame (s : State) : KeepsHost (State.tzDiscard s) s ∧ KeepsUnits (State.tzDiscard s) s ∧ (State.tzDiscard s).chans = s.chans ∧ (State.tzDiscard s).storeGen = s.storeGen := by simp [State.raiseLive_frame _ _ _, KeepsHost, KeepsUnits, State.tzDiscard]
@[simp] theorem State.onFrame_pending (s : State) (good : Bool) (f : State → State) (h : ∀ t, (f t).pending = t.pending) : (State.onFrame s good f).pending = s.pending := by
  unfold State.onFrame; first | (simp [State.tzDiscard_frame _, State.tzFrame_frame _, h]; done) | (simp (maxDischargeDepth := 8) [State.tzDiscard_frame _, State.tzFrame_frame _, h]; done) | (split <;> simp [State.tzDiscard_frame _, State.tzFrame_frame _, h])
@[simp] theorem State.onFrame_clock (s : State) (good : Bool) (f : State → State) (h : ∀ t, (f t).clock = t.clock) : (State.onFrame s good f).clock = s.clock := by
  unfold State.onFrame; first | (simp [State.tzDiscard_frame _, State.tzFrame_frame _, h]; done) | (simp (maxDischargeDepth := 8) [State.tzDiscard_frame _, State.tzFrame_frame _, h]; done) | (split <;> simp [State.tzDiscard_frame _, State.tzFrame_frame _, h])
@[simp] theorem State.onFrame_vio (s : State) (good : Bool) (f : State → State) (h : ∀ t, (f t).vio = t.vio) : (State.onFrame s good f).vio = s.vio := by
  unfold State.onFrame; first | (simp [State.tzDiscard_frame _, State.tzFrame_frame _, h]; done) | (simp (maxDischargeDepth := 8) [State.tzDiscard_frame _, State.tzFrame_frame _, h]; done) | (split <;> simp [State.tzDiscard_frame _, State.tzFrame_frame _, h])
@[simp] theorem State.onFrame_phase (s : State) (good : Bool) (f : State → State) (h : ∀ t, (f t).phase = t.phase) : (State.onFrame s good f).phase = s.phase := by
  unfold State.onFrame; first | (simp [State.tzDiscard_frame _, State.tzFrame_frame _, h]; done) | (simp (maxDischargeDepth := 8) [State.tzDiscard_frame _, State.tzFrame_frame _, h]; done) | (split <;> simp [State.tzDiscard_frame _, State.tzFrame_frame _, h])
@[simp] theorem State.onFrame_time (s : State) (good : Bool) (f : State → State) (h : ∀ t, (f t).time = t.time) : (State.onFrame s good f).time = s.time := by
  unfold State.onFrame; first | (simp [State.tzDiscard_frame _, State.tzFrame_frame _, h]; done) | (simp (maxDischargeDepth := 8) [State.tzDiscard_frame _, State.tzFrame_frame _, h]; done) | (split <;> simp [State.tzDiscard_frame _, State.tzFrame_frame _, h])
@[simp] theorem State.onFrame_tickets (s : State) (good : Bool) (f : State → State) (h : ∀ t, (f t).tickets = t.tickets) : (State.onFrame s good f).tickets = s.tickets := by
  unfold State.onFrame; first | (simp [State.tzDiscard_frame _, State.tzFrame_frame _, h]; done) | (simp (maxDischargeDepth := 8) [State.tzDiscard_frame _, State.tzFrame_frame _, h]; done) | (split <;> simp [State.tzDiscard_frame _, State.tzFrame_frame _, h])
@[simp] theorem State.onFrame_readyCount (s : State) (good : Bool) (f : State → State) (h : ∀ t, (f t).readyCount = t.readyCount) : (State.onFrame s good f).readyCount = s.readyCount := by
  unfold State.onFrame; first | (simp [State.tzDiscard_frame _, State.tzFrame_frame _, h]; done) | (simp (maxDischargeDepth := 8) [State.tzDiscard_frame _, State.tzFrame_frame _, h]; done) | (split <;> simp [State.tzDiscard_frame _, State.tzFrame_frame _, h])
@[simp] theorem State.onFrame_ports (s : State) (good : Bool) (f : State → State) (h : ∀ t, (f t).ports = t.ports) : (State.onFrame s good f).ports = s.ports := by
  unfold State.onFrame; first | (simp [State.tzDiscard_frame _, State.tzFrame_frame _, h]; done) | (simp (maxDischargeDepth := 8) [State.tzDiscard_frame _, State.tzFrame_frame _, h]; done) | (split <;> simp [State.tzDiscard_frame _, State.tzFrame_frame _, h])
@[simp] theorem State.onFrame_shadows (s : State) (good : Bool) (f : State → State) (h : ∀ t, (f t).shadows = t.shadows) : (State.onFrame s good f).shadows = s.shadows := by
  unfold State.onFrame; first | (simp [State.tzDiscard_frame _, State.tzFrame_frame _, h]; done) | (simp (maxDischargeDepth := 8) [State.tzDiscard_frame _, State.tzFrame_frame _, h]; done) | (split <;> simp [State.tzDiscard_frame _, State.tzFrame_frame _, h])
@[simp] theorem State.onFrame_svc (s : State) (good : Bool) (f : State → State) (h : ∀ t, (f t).svc = t.svc) : (State.onFrame s good f).svc = s.svc := by
  unfold State.onFrame; first | (simp [State.tzDiscard_frame _, State.tzFrame_frame _, h]; done) | (simp (maxDischargeDepth := 8) [State.tzDiscard_frame _, State.tzFrame_frame _, h]; done) | (split <;> simp [State.tzDiscard_frame _, State.tzFrame_frame _, h])
@[simp] theorem State.onFrame_img (s : State) (good : Bool) (f : State → State) (h : ∀ t, (f t).img = t.img) : (State.onFrame s good f).img = s.img := by
  unfold State.onFrame; first | (simp [State.tzDiscard_frame _, State.tzFrame_frame _, h]; done) | (simp (maxDischargeDepth := 8) [State.tzDiscard_frame _, State.tzFrame_frame _, h]; done) | (split <;> simp [State.tzDiscard_frame _, State.tzFrame_frame _, h])
@[simp] theorem State.onFrame_fab (s : State) (good : Bool) (f : State → State) (h : ∀ t, (f t).fab = t.fab) : (State.onFrame s good f).fab = s.fab := by
  unfold State.onFrame; first | (simp [State.tzDiscard_frame _, State.tzFrame_frame _, h]; done) | (simp (maxDischargeDepth := 8) [State.tzDiscard_frame _, State.tzFrame_frame _, h]; done) | (split <;> simp [State.tzDiscard_frame _, State.tzFrame_frame _, h])
@[simp] theorem State.onFrame_adcs (s : State) (good : Bool) (f : State → State) (h : ∀ t, (f t).adcs = t.adcs) : (State.onFrame s good f).adcs = s.adcs := by
  unfold State.onFrame; first | (simp [State.tzDiscard_frame _, State.tzFrame_frame _, h]; done) | (simp (maxDischargeDepth := 8) [State.tzDiscard_frame _, State.tzFrame_frame _, h]; done) | (split <;> simp [State.tzDiscard_frame _, State.tzFrame_frame _, h])
@[simp] theorem State.onFrame_filt (s : State) (good : Bool) (f : State → State) (h : ∀ t, (f t).filt = t.filt) : (State.onFrame s good f).filt = s.filt := by
  unfold State.onFrame; first | (simp [State.tzDiscard_frame _, State.tzFrame_frame _, h]; done) | (simp (maxDischargeDepth := 8) [State.tzDiscard_frame _, State.tzFrame_frame _, h]; done) | (split <;> simp [State.tzDiscard_frame _, State.tzFrame_frame _, h])
@[simp] theorem State.onFrame_chks (s : State) (good : Bool) (f : State → State) (h : ∀ t, (f t).chks = t.chks) : (State.onFrame s good f).chks = s.chks := by
  unfold State.onFrame; first | (simp [State.tzDiscard_frame _, State.tzFrame_frame _, h]; done) | (simp (maxDischargeDepth := 8) [State.tzDiscard_frame _, State.tzFrame_frame _, h]; done) | (split <;> simp [State.tzDiscard_frame _, State.tzFrame_frame _, h])
@[simp] theorem State.onFrame_chkTurn (s : State) (good : Bool) (f : State → State) (h : ∀ t, (f t).chkTurn = t.chkTurn) : (State.onFrame s good f).chkTurn = s.chkTurn := by
  unfold State.onFrame; first | (simp [State.tzDiscard_frame _, State.tzFrame_frame _, h]; done) | (simp (maxDischargeDepth := 8) [State.tzDiscard_frame _, State.tzFrame_frame _, h]; done) | (split <;> simp [State.tzDiscard_frame _, State.tzFrame_frame _, h])
@[simp] theorem State.onFrame_storeGen (s : State) (good : Bool) (f : State → State) (h : ∀ t, (f t).storeGen = t.storeGen) : (State.onFrame s good f).storeGen = s.storeGen := by
  unfold State.onFrame; first | (simp [State.tzDiscard_frame _, State.tzFrame_frame _, h]; done) | (simp (maxDischargeDepth := 8) [State.tzDiscard_frame _, State.tzFrame_frame _, h]; done) | (split <;> simp [State.tzDiscard_frame _, State.tzFrame_frame _, h])
@[simp] theorem State.onFrame_bg (s : State) (good : Bool) (f : State → State) (h : ∀ t, (f t).bg = t.bg) : (State.onFrame s good f).bg = s.bg := by
  unfold State.onFrame; first | (simp [State.tzDiscard_frame _, State.tzFrame_frame _, h]; done) | (simp (maxDischargeDepth := 8) [State.tzDiscard_frame _, State.tzFrame_frame _, h]; done) | (split <;> simp [State.tzDiscard_frame _, State.tzFrame_frame _, h])
@[simp] theorem State.onFrame_pwr (s : State) (good : Bool) (f : State → State) (h : ∀ t, (f t).pwr = t.pwr) : (State.onFrame s good f).pwr = s.pwr := by
  unfold State.onFrame; first | (simp [State.tzDiscard_frame _, State.tzFrame_frame _, h]; done) | (simp (maxDischargeDepth := 8) [State.tzDiscard_frame _, State.tzFrame_frame _, h]; done) | (split <;> simp [State.tzDiscard_frame _, State.tzFrame_frame _, h])
@[simp] theorem State.onFrame_freeCtr (s : State) (good : Bool) (f : State → State) (h : ∀ t, (f t).freeCtr = t.freeCtr) : (State.onFrame s good f).freeCtr = s.freeCtr := by
  unfold State.onFrame; first | (simp [State.tzDiscard_frame _, State.tzFrame_frame _, h]; done) | (simp (maxDischargeDepth := 8) [State.tzDiscard_frame _, State.tzFrame_frame _, h]; done) | (split <;> simp [State.tzDiscard_frame _, State.tzFrame_frame _, h])
theorem State.takeHeartbeat_frame (s : State) (b : List Byte) : KeepsHost (State.takeHeartbeat s b) s ∧ (State.takeHeartbeat s b).svc = s.svc ∧ (State.takeHeartbeat s b).img = s.img ∧ (State.takeHeartbeat s b).fab = s.fab ∧ (State.takeHeartbeat s b).adcs = s.adcs ∧ (State.takeHeartbeat s b).filt = s.filt ∧ (State.takeHeartbeat s b).chks = s.chks ∧ (State.takeHeartbeat s b).chkTurn = s.chkTurn ∧ (State.takeHeartbeat s b).bg = s.bg ∧ (State.takeHeartbeat s b).pwr = s.pwr ∧ (State.takeHeartbeat s b).chans = s.chans ∧ (State.takeHeartbeat s b).storeGen = s.storeGen := by simp [State.judgePartner_frame _, State.nextFlight_frame _, State.pairSync_frame _, KeepsHost, KeepsUnits, State.takeHeartbeat]
theorem State.dropEpoch_frame (s : State) : KeepsHost (State.dropEpoch s) s ∧ KeepsUnits (State.dropEpoch s) s := by
  unfold State.dropEpoch
  refine ⟨⟨?_, ?_, ?_, ?_, ?_, ?_, ?_, ?_, ?_⟩, ⟨?_, ?_, ?_, ?_, ?_, ?_, ?_, ?_, ?_, ?_⟩⟩
  · (first | (simp (maxDischargeDepth := 8) [State.raise_frame _ _]; done) | ((repeat' split) <;> first | (simp (maxDischargeDepth := 8) [State.raise_frame _ _]; done) | (simp_all [State.raise_frame _ _]; done) | (first | rw [fst_pending (by assumption)] | rw [snd_pending (by assumption)] | (simp (maxDischargeDepth := 8) [State.raise_frame _ _]; rw [fst_pending (by assumption)])); simp (maxDischargeDepth := 8) [State.raise_frame _ _]; done) | (simp (maxDischargeDepth := 8) [State.raise_frame _ _]; (repeat' split) <;> first | rfl | (simp (maxDischargeDepth := 8) [State.raise_frame _ _]; done) | (simp_all [State.raise_frame _ _]; done)))
  · (first | (simp (maxDischargeDepth := 8) [State.raise_frame _ _]; done) | ((repeat' split) <;> first | (simp (maxDischargeDepth := 8) [State.raise_frame _ _]; done) | (simp_all [State.raise_frame _ _]; done) | (first | rw [fst_clock (by assumption)] | rw [snd_clock (by assumption)] | (simp (maxDischargeDepth := 8) [State.raise_frame _ _]; rw [fst_clock (by assumption)])); simp (maxDischargeDepth := 8) [State.raise_frame _ _]; done) | (simp (maxDischargeDepth := 8) [State.raise_frame _ _]; (repeat' split) <;> first | rfl | (simp (maxDischargeDepth := 8) [State.raise_frame _ _]; done) | (simp_all [State.raise_frame _ _]; done)))
  · (first | (simp (maxDischargeDepth := 8) [State.raise_frame _ _]; done) | ((repeat' split) <;> first | (simp (maxDischargeDepth := 8) [State.raise_frame _ _]; done) | (simp_all [State.raise_frame _ _]; done) | (first | rw [fst_vio (by assumption)] | rw [snd_vio (by assumption)] | (simp (maxDischargeDepth := 8) [State.raise_frame _ _]; rw [fst_vio (by assumption)])); simp (maxDischargeDepth := 8) [State.raise_frame _ _]; done) | (simp (maxDischargeDepth := 8) [State.raise_frame _ _]; (repeat' split) <;> first | rfl | (simp (maxDischargeDepth := 8) [State.raise_frame _ _]; done) | (simp_all [State.raise_frame _ _]; done)))
  · (first | (simp (maxDischargeDepth := 8) [State.raise_frame _ _]; done) | ((repeat' split) <;> first | (simp (maxDischargeDepth := 8) [State.raise_frame _ _]; done) | (simp_all [State.raise_frame _ _]; done) | (first | rw [fst_phase (by assumption)] | rw [snd_phase (by assumption)] | (simp (maxDischargeDepth := 8) [State.raise_frame _ _]; rw [fst_phase (by assumption)])); simp (maxDischargeDepth := 8) [State.raise_frame _ _]; done) | (simp (maxDischargeDepth := 8) [State.raise_frame _ _]; (repeat' split) <;> first | rfl | (simp (maxDischargeDepth := 8) [State.raise_frame _ _]; done) | (simp_all [State.raise_frame _ _]; done)))
  · (first | (simp (maxDischargeDepth := 8) [State.raise_frame _ _]; done) | ((repeat' split) <;> first | (simp (maxDischargeDepth := 8) [State.raise_frame _ _]; done) | (simp_all [State.raise_frame _ _]; done) | (first | rw [fst_time (by assumption)] | rw [snd_time (by assumption)] | (simp (maxDischargeDepth := 8) [State.raise_frame _ _]; rw [fst_time (by assumption)])); simp (maxDischargeDepth := 8) [State.raise_frame _ _]; done) | (simp (maxDischargeDepth := 8) [State.raise_frame _ _]; (repeat' split) <;> first | rfl | (simp (maxDischargeDepth := 8) [State.raise_frame _ _]; done) | (simp_all [State.raise_frame _ _]; done)))
  · (first | (simp (maxDischargeDepth := 8) [State.raise_frame _ _]; done) | ((repeat' split) <;> first | (simp (maxDischargeDepth := 8) [State.raise_frame _ _]; done) | (simp_all [State.raise_frame _ _]; done) | (first | rw [fst_tickets (by assumption)] | rw [snd_tickets (by assumption)] | (simp (maxDischargeDepth := 8) [State.raise_frame _ _]; rw [fst_tickets (by assumption)])); simp (maxDischargeDepth := 8) [State.raise_frame _ _]; done) | (simp (maxDischargeDepth := 8) [State.raise_frame _ _]; (repeat' split) <;> first | rfl | (simp (maxDischargeDepth := 8) [State.raise_frame _ _]; done) | (simp_all [State.raise_frame _ _]; done)))
  · (first | (simp (maxDischargeDepth := 8) [State.raise_frame _ _]; done) | ((repeat' split) <;> first | (simp (maxDischargeDepth := 8) [State.raise_frame _ _]; done) | (simp_all [State.raise_frame _ _]; done) | (first | rw [fst_readyCount (by assumption)] | rw [snd_readyCount (by assumption)] | (simp (maxDischargeDepth := 8) [State.raise_frame _ _]; rw [fst_readyCount (by assumption)])); simp (maxDischargeDepth := 8) [State.raise_frame _ _]; done) | (simp (maxDischargeDepth := 8) [State.raise_frame _ _]; (repeat' split) <;> first | rfl | (simp (maxDischargeDepth := 8) [State.raise_frame _ _]; done) | (simp_all [State.raise_frame _ _]; done)))
  · (first | (simp (maxDischargeDepth := 8) [State.raise_frame _ _]; done) | ((repeat' split) <;> first | (simp (maxDischargeDepth := 8) [State.raise_frame _ _]; done) | (simp_all [State.raise_frame _ _]; done) | (first | rw [fst_ports (by assumption)] | rw [snd_ports (by assumption)] | (simp (maxDischargeDepth := 8) [State.raise_frame _ _]; rw [fst_ports (by assumption)])); simp (maxDischargeDepth := 8) [State.raise_frame _ _]; done) | (simp (maxDischargeDepth := 8) [State.raise_frame _ _]; (repeat' split) <;> first | rfl | (simp (maxDischargeDepth := 8) [State.raise_frame _ _]; done) | (simp_all [State.raise_frame _ _]; done)))
  · (first | (simp (maxDischargeDepth := 8) [State.raise_frame _ _]; done) | ((repeat' split) <;> first | (simp (maxDischargeDepth := 8) [State.raise_frame _ _]; done) | (simp_all [State.raise_frame _ _]; done) | (first | rw [fst_shadows (by assumption)] | rw [snd_shadows (by assumption)] | (simp (maxDischargeDepth := 8) [State.raise_frame _ _]; rw [fst_shadows (by assumption)])); simp (maxDischargeDepth := 8) [State.raise_frame _ _]; done) | (simp (maxDischargeDepth := 8) [State.raise_frame _ _]; (repeat' split) <;> first | rfl | (simp (maxDischargeDepth := 8) [State.raise_frame _ _]; done) | (simp_all [State.raise_frame _ _]; done)))
  · (first | (simp (maxDischargeDepth := 8) [State.raise_frame _ _]; done) | ((repeat' split) <;> first | (simp (maxDischargeDepth := 8) [State.raise_frame _ _]; done) | (simp_all [State.raise_frame _ _]; done) | (first | rw [fst_svc (by assumption)] | rw [snd_svc (by assumption)] | (simp (maxDischargeDepth := 8) [State.raise_frame _ _]; rw [fst_svc (by assumption)])); simp (maxDischargeDepth := 8) [State.raise_frame _ _]; done) | (simp (maxDischargeDepth := 8) [State.raise_frame _ _]; (repeat' split) <;> first | rfl | (simp (maxDischargeDepth := 8) [State.raise_frame _ _]; done) | (simp_all [State.raise_frame _ _]; done)))
  · (first | (simp (maxDischargeDepth := 8) [State.raise_frame _ _]; done) | ((repeat' split) <;> first | (simp (maxDischargeDepth := 8) [State.raise_frame _ _]; done) | (simp_all [State.raise_frame _ _]; done) | (first | rw [fst_img (by assumption)] | rw [snd_img (by assumption)] | (simp (maxDischargeDepth := 8) [State.raise_frame _ _]; rw [fst_img (by assumption)])); simp (maxDischargeDepth := 8) [State.raise_frame _ _]; done) | (simp (maxDischargeDepth := 8) [State.raise_frame _ _]; (repeat' split) <;> first | rfl | (simp (maxDischargeDepth := 8) [State.raise_frame _ _]; done) | (simp_all [State.raise_frame _ _]; done)))
  · (first | (simp (maxDischargeDepth := 8) [State.raise_frame _ _]; done) | ((repeat' split) <;> first | (simp (maxDischargeDepth := 8) [State.raise_frame _ _]; done) | (simp_all [State.raise_frame _ _]; done) | (first | rw [fst_fab (by assumption)] | rw [snd_fab (by assumption)] | (simp (maxDischargeDepth := 8) [State.raise_frame _ _]; rw [fst_fab (by assumption)])); simp (maxDischargeDepth := 8) [State.raise_frame _ _]; done) | (simp (maxDischargeDepth := 8) [State.raise_frame _ _]; (repeat' split) <;> first | rfl | (simp (maxDischargeDepth := 8) [State.raise_frame _ _]; done) | (simp_all [State.raise_frame _ _]; done)))
  · (first | (simp (maxDischargeDepth := 8) [State.raise_frame _ _]; done) | ((repeat' split) <;> first | (simp (maxDischargeDepth := 8) [State.raise_frame _ _]; done) | (simp_all [State.raise_frame _ _]; done) | (first | rw [fst_adcs (by assumption)] | rw [snd_adcs (by assumption)] | (simp (maxDischargeDepth := 8) [State.raise_frame _ _]; rw [fst_adcs (by assumption)])); simp (maxDischargeDepth := 8) [State.raise_frame _ _]; done) | (simp (maxDischargeDepth := 8) [State.raise_frame _ _]; (repeat' split) <;> first | rfl | (simp (maxDischargeDepth := 8) [State.raise_frame _ _]; done) | (simp_all [State.raise_frame _ _]; done)))
  · (first | (simp (maxDischargeDepth := 8) [State.raise_frame _ _]; done) | ((repeat' split) <;> first | (simp (maxDischargeDepth := 8) [State.raise_frame _ _]; done) | (simp_all [State.raise_frame _ _]; done) | (first | rw [fst_filt (by assumption)] | rw [snd_filt (by assumption)] | (simp (maxDischargeDepth := 8) [State.raise_frame _ _]; rw [fst_filt (by assumption)])); simp (maxDischargeDepth := 8) [State.raise_frame _ _]; done) | (simp (maxDischargeDepth := 8) [State.raise_frame _ _]; (repeat' split) <;> first | rfl | (simp (maxDischargeDepth := 8) [State.raise_frame _ _]; done) | (simp_all [State.raise_frame _ _]; done)))
  · (first | (simp (maxDischargeDepth := 8) [State.raise_frame _ _]; done) | ((repeat' split) <;> first | (simp (maxDischargeDepth := 8) [State.raise_frame _ _]; done) | (simp_all [State.raise_frame _ _]; done) | (first | rw [fst_chks (by assumption)] | rw [snd_chks (by assumption)] | (simp (maxDischargeDepth := 8) [State.raise_frame _ _]; rw [fst_chks (by assumption)])); simp (maxDischargeDepth := 8) [State.raise_frame _ _]; done) | (simp (maxDischargeDepth := 8) [State.raise_frame _ _]; (repeat' split) <;> first | rfl | (simp (maxDischargeDepth := 8) [State.raise_frame _ _]; done) | (simp_all [State.raise_frame _ _]; done)))
  · (first | (simp (maxDischargeDepth := 8) [State.raise_frame _ _]; done) | ((repeat' split) <;> first | (simp (maxDischargeDepth := 8) [State.raise_frame _ _]; done) | (simp_all [State.raise_frame _ _]; done) | (first | rw [fst_chkTurn (by assumption)] | rw [snd_chkTurn (by assumption)] | (simp (maxDischargeDepth := 8) [State.raise_frame _ _]; rw [fst_chkTurn (by assumption)])); simp (maxDischargeDepth := 8) [State.raise_frame _ _]; done) | (simp (maxDischargeDepth := 8) [State.raise_frame _ _]; (repeat' split) <;> first | rfl | (simp (maxDischargeDepth := 8) [State.raise_frame _ _]; done) | (simp_all [State.raise_frame _ _]; done)))
  · (first | (simp (maxDischargeDepth := 8) [State.raise_frame _ _]; done) | ((repeat' split) <;> first | (simp (maxDischargeDepth := 8) [State.raise_frame _ _]; done) | (simp_all [State.raise_frame _ _]; done) | (first | rw [fst_bg (by assumption)] | rw [snd_bg (by assumption)] | (simp (maxDischargeDepth := 8) [State.raise_frame _ _]; rw [fst_bg (by assumption)])); simp (maxDischargeDepth := 8) [State.raise_frame _ _]; done) | (simp (maxDischargeDepth := 8) [State.raise_frame _ _]; (repeat' split) <;> first | rfl | (simp (maxDischargeDepth := 8) [State.raise_frame _ _]; done) | (simp_all [State.raise_frame _ _]; done)))
  · (first | (simp (maxDischargeDepth := 8) [State.raise_frame _ _]; done) | ((repeat' split) <;> first | (simp (maxDischargeDepth := 8) [State.raise_frame _ _]; done) | (simp_all [State.raise_frame _ _]; done) | (first | rw [fst_pwr (by assumption)] | rw [snd_pwr (by assumption)] | (simp (maxDischargeDepth := 8) [State.raise_frame _ _]; rw [fst_pwr (by assumption)])); simp (maxDischargeDepth := 8) [State.raise_frame _ _]; done) | (simp (maxDischargeDepth := 8) [State.raise_frame _ _]; (repeat' split) <;> first | rfl | (simp (maxDischargeDepth := 8) [State.raise_frame _ _]; done) | (simp_all [State.raise_frame _ _]; done)))
  · (first | (simp (maxDischargeDepth := 8) [State.raise_frame _ _]; done) | ((repeat' split) <;> first | (simp (maxDischargeDepth := 8) [State.raise_frame _ _]; done) | (simp_all [State.raise_frame _ _]; done) | (first | rw [fst_freeCtr (by assumption)] | rw [snd_freeCtr (by assumption)] | (simp (maxDischargeDepth := 8) [State.raise_frame _ _]; rw [fst_freeCtr (by assumption)])); simp (maxDischargeDepth := 8) [State.raise_frame _ _]; done) | (simp (maxDischargeDepth := 8) [State.raise_frame _ _]; (repeat' split) <;> first | rfl | (simp (maxDischargeDepth := 8) [State.raise_frame _ _]; done) | (simp_all [State.raise_frame _ _]; done)))
theorem State.takeEpoch_frame (s : State) (pre : FabState) (full : Bool) : KeepsHost (State.takeEpoch s pre full) s ∧ KeepsUnits (State.takeEpoch s pre full) s ∧ (State.takeEpoch s pre full).recd = s.recd ∧ (State.takeEpoch s pre full).wheels = s.wheels ∧ (State.takeEpoch s pre full).flt = s.flt ∧ (State.takeEpoch s pre full).chans = s.chans ∧ (State.takeEpoch s pre full).rings = s.rings ∧ (State.takeEpoch s pre full).rpl = s.rpl ∧ (State.takeEpoch s pre full).cells = s.cells ∧ (State.takeEpoch s pre full).storeGen = s.storeGen := by simp [State.post_frame _ _, KeepsHost, KeepsUnits, State.takeEpoch]
theorem State.sendAckOf_frame (s : State) (a : AckOf) : KeepsHost (State.sendAckOf s a) s ∧ KeepsUnits (State.sendAckOf s a) s ∧ (State.sendAckOf s a).recd = s.recd ∧ (State.sendAckOf s a).wheels = s.wheels ∧ (State.sendAckOf s a).flt = s.flt ∧ (State.sendAckOf s a).chans = s.chans ∧ (State.sendAckOf s a).rings = s.rings ∧ (State.sendAckOf s a).rpl = s.rpl ∧ (State.sendAckOf s a).cells = s.cells ∧ (State.sendAckOf s a).storeGen = s.storeGen := by simp [State.post_frame _ _, KeepsHost, KeepsUnits, State.sendAckOf]
@[simp] theorem State.sendAckOf_cells (s : State) (a : AckOf) : (State.sendAckOf s a).cells = s.cells := by simp [State.sendAckOf_frame _ _]
theorem State.finishEpoch_frame (s : State) (b : List Byte) : KeepsHost (State.finishEpoch s b) s ∧ KeepsUnits (State.finishEpoch s b) s := by
  unfold State.finishEpoch; (repeat' split) <;> simp [State.dropEpoch_frame _, State.sendAckOf_frame _ _, KeepsHost, KeepsUnits]
theorem State.takeSegment_frame (s : State) (b : List Byte) : KeepsHost (State.takeSegment s b) s ∧ KeepsUnits (State.takeSegment s b) s := by simp [State.dropEpoch_frame _, State.finishEpoch_frame _ _, KeepsHost, KeepsUnits, State.takeSegment]
theorem State.applyEpoch_frame (s : State) (e : Epoch) : KeepsHost (State.applyEpoch s e) s ∧ (State.applyEpoch s e).svc = s.svc ∧ (State.applyEpoch s e).img = s.img ∧ (State.applyEpoch s e).adcs = s.adcs ∧ (State.applyEpoch s e).filt = s.filt ∧ (State.applyEpoch s e).chks = s.chks ∧ (State.applyEpoch s e).chkTurn = s.chkTurn ∧ (State.applyEpoch s e).bg = s.bg ∧ (State.applyEpoch s e).pwr = s.pwr ∧ (State.applyEpoch s e).recd = s.recd ∧ (State.applyEpoch s e).wheels = s.wheels ∧ (State.applyEpoch s e).flt = s.flt ∧ (State.applyEpoch s e).chans = s.chans ∧ (State.applyEpoch s e).rings = s.rings ∧ (State.applyEpoch s e).rpl = s.rpl ∧ (State.applyEpoch s e).pair = s.pair ∧ (State.applyEpoch s e).cells = s.cells ∧ (State.applyEpoch s e).storeGen = s.storeGen := by simp [State.free_frame _, KeepsHost, KeepsUnits, State.applyEpoch]
theorem State.startSwap_frame (s : State) : KeepsHost (State.startSwap s) s ∧ KeepsUnits (State.startSwap s) s ∧ (State.startSwap s).wheels = s.wheels ∧ (State.startSwap s).flt = s.flt ∧ (State.startSwap s).chans = s.chans ∧ (State.startSwap s).rpl = s.rpl ∧ (State.startSwap s).cells = s.cells ∧ (State.startSwap s).storeGen = s.storeGen := by simp [State.setRole_frame _ _ _ _, KeepsHost, KeepsUnits, State.startSwap]
@[simp] theorem State.startSwap_cells (s : State) : (State.startSwap s).cells = s.cells := by simp [State.startSwap_frame _]
theorem State.swapStep_frame (s : State) (pre : FabState) : KeepsHost (State.swapStep s pre) s ∧ KeepsUnits (State.swapStep s pre) s ∧ (State.swapStep s pre).wheels = s.wheels ∧ (State.swapStep s pre).flt = s.flt ∧ (State.swapStep s pre).chans = s.chans ∧ (State.swapStep s pre).rpl = s.rpl ∧ (State.swapStep s pre).cells = s.cells ∧ (State.swapStep s pre).storeGen = s.storeGen := by
  unfold State.swapStep; (repeat' split) <;> simp [State.endSwap_frame _ _ _, State.setRole_frame _ _ _ _, State.takeEpoch_frame _ _ _, KeepsHost, KeepsUnits]
theorem State.swapGo_frame (s : State) (w : Swap) : KeepsHost (State.swapGo s w) s ∧ KeepsUnits (State.swapGo s w) s ∧ (State.swapGo s w).recd = s.recd ∧ (State.swapGo s w).wheels = s.wheels ∧ (State.swapGo s w).flt = s.flt ∧ (State.swapGo s w).chans = s.chans ∧ (State.swapGo s w).rpl = s.rpl ∧ (State.swapGo s w).cells = s.cells ∧ (State.swapGo s w).storeGen = s.storeGen := by simp [State.sendGates_frame _, State.sendSource_frame _ _, State.sendState_frame _, State.sendSwap_frame _ _, State.tellRole_frame _ _ _, KeepsHost, KeepsUnits, State.swapGo]
theorem State.releaseRole_frame (s : State) : KeepsHost (State.releaseRole s) s ∧ KeepsUnits (State.releaseRole s) s ∧ (State.releaseRole s).wheels = s.wheels ∧ (State.releaseRole s).flt = s.flt ∧ (State.releaseRole s).chans = s.chans ∧ (State.releaseRole s).rpl = s.rpl ∧ (State.releaseRole s).cells = s.cells ∧ (State.releaseRole s).storeGen = s.storeGen := by simp [State.giveUp_frame _ _ _, State.setUq_frame _ _ _, KeepsHost, KeepsUnits, State.releaseRole]
@[simp] theorem State.releaseRole_cells (s : State) : (State.releaseRole s).cells = s.cells := by simp [State.releaseRole_frame _]
theorem State.pairCmd_frame (s : State) (origin : Origin) (w : Word) : KeepsHost (State.pairCmd s origin w).1 s ∧ (State.pairCmd s origin w).1.svc = s.svc ∧ (State.pairCmd s origin w).1.img = s.img ∧ (State.pairCmd s origin w).1.fab = s.fab ∧ (State.pairCmd s origin w).1.adcs = s.adcs ∧ (State.pairCmd s origin w).1.filt = s.filt ∧ (State.pairCmd s origin w).1.chks = s.chks ∧ (State.pairCmd s origin w).1.chkTurn = s.chkTurn ∧ (State.pairCmd s origin w).1.bg = s.bg ∧ (State.pairCmd s origin w).1.pwr = s.pwr := by
  unfold State.pairCmd; dsimp only; (repeat' split) <;> simp [State.pairSync_frame _, State.releaseRole_frame _, State.sendSwap_frame _ _, State.setUq_frame _ _ _, State.startSwap_frame _, KeepsHost, KeepsUnits]
theorem State.swapAtA_frame (s : State) : KeepsHost (State.swapAtA s) s ∧ KeepsUnits (State.swapAtA s) s ∧ (State.swapAtA s).wheels = s.wheels ∧ (State.swapAtA s).flt = s.flt ∧ (State.swapAtA s).chans = s.chans ∧ (State.swapAtA s).rpl = s.rpl ∧ (State.swapAtA s).cells = s.cells ∧ (State.swapAtA s).storeGen = s.storeGen := by simp [State.endSwap_frame _ _ _, State.setRole_frame _ _ _ _, KeepsHost, KeepsUnits, State.swapAtA]
@[simp] theorem State.swapAtA_cells (s : State) : (State.swapAtA s).cells = s.cells := by simp [State.swapAtA_frame _]
theorem State.takePairing_frame (s : State) (i : Image) : KeepsHost (State.takePairing s i) s ∧ (State.takePairing s i).svc = s.svc ∧ (State.takePairing s i).fab = s.fab ∧ (State.takePairing s i).adcs = s.adcs ∧ (State.takePairing s i).filt = s.filt ∧ (State.takePairing s i).chks = s.chks ∧ (State.takePairing s i).chkTurn = s.chkTurn ∧ (State.takePairing s i).bg = s.bg ∧ (State.takePairing s i).pwr = s.pwr ∧ (State.takePairing s i).freeCtr = s.freeCtr ∧ (State.takePairing s i).recd = s.recd ∧ (State.takePairing s i).wheels = s.wheels ∧ (State.takePairing s i).flt = s.flt ∧ (State.takePairing s i).chans = s.chans ∧ (State.takePairing s i).rings = s.rings ∧ (State.takePairing s i).rpl = s.rpl ∧ (State.takePairing s i).pair = s.pair ∧ (State.takePairing s i).cells = s.cells ∧ (State.takePairing s i).storeGen = s.storeGen := by simp [KeepsHost, KeepsUnits, State.takePairing]
@[simp] theorem State.takePairing_cells (s : State) (i : Image) : (State.takePairing s i).cells = s.cells := by simp [State.takePairing_frame _ _]
theorem State.pairActivate_frame (s0 : State) (i : Image) (reason : Nat) : KeepsHost (State.pairActivate s0 i reason) s0 ∧ (State.pairActivate s0 i reason).svc = s0.svc ∧ (State.pairActivate s0 i reason).img = s0.img ∧ (State.pairActivate s0 i reason).fab = s0.fab ∧ (State.pairActivate s0 i reason).adcs = s0.adcs ∧ (State.pairActivate s0 i reason).filt = s0.filt ∧ (State.pairActivate s0 i reason).chks = s0.chks ∧ (State.pairActivate s0 i reason).chkTurn = s0.chkTurn ∧ (State.pairActivate s0 i reason).bg = s0.bg ∧ (State.pairActivate s0 i reason).pwr = s0.pwr ∧ (State.pairActivate s0 i reason).storeGen = s0.storeGen := by
  unfold State.pairActivate; (repeat' split) <;> simp [State.setRole_frame _ _ _ _, State.sendSource_frame _ _, State.sendGates_frame _, State.pairSync_frame _, State.clearLive_frame _ _, State.swapAtA_frame _, State.setUq_frame _ _ _, State.judgePartner_frame _, State.sendState_frame _, State.takeRole_frame _ _ _ _ _, KeepsHost, KeepsUnits]
theorem State.listenFromConfig_frame (s : State) (x : RingId) : KeepsHost (State.listenFromConfig s x) s ∧ KeepsUnits (State.listenFromConfig s x) s ∧ (State.listenFromConfig s x).recd = s.recd ∧ (State.listenFromConfig s x).wheels = s.wheels ∧ (State.listenFromConfig s x).flt = s.flt ∧ (State.listenFromConfig s x).chans = s.chans ∧ (State.listenFromConfig s x).rings = s.rings ∧ (State.listenFromConfig s x).rpl = s.rpl ∧ (State.listenFromConfig s x).cells = s.cells ∧ (State.listenFromConfig s x).storeGen = s.storeGen := by simp [KeepsHost, KeepsUnits, State.listenFromConfig]
theorem State.writePairCfg_frame (s : State) (origin : Origin) (w : Word) : KeepsHost (State.writePairCfg s origin w).1 s ∧ (State.writePairCfg s origin w).1.svc = s.svc ∧ (State.writePairCfg s origin w).1.fab = s.fab ∧ (State.writePairCfg s origin w).1.adcs = s.adcs ∧ (State.writePairCfg s origin w).1.filt = s.filt ∧ (State.writePairCfg s origin w).1.chks = s.chks ∧ (State.writePairCfg s origin w).1.chkTurn = s.chkTurn ∧ (State.writePairCfg s origin w).1.bg = s.bg ∧ (State.writePairCfg s origin w).1.pwr = s.pwr := by simp [State.pairSync_frame _, KeepsHost, KeepsUnits, State.writePairCfg]
theorem State.pairWrite_frame (s : State) (origin : Origin) (r : PairReg) (w : Word) : KeepsHost (State.pairWrite s origin r w).1 s ∧ (State.pairWrite s origin r w).1.svc = s.svc ∧ (State.pairWrite s origin r w).1.fab = s.fab ∧ (State.pairWrite s origin r w).1.adcs = s.adcs ∧ (State.pairWrite s origin r w).1.filt = s.filt ∧ (State.pairWrite s origin r w).1.chks = s.chks ∧ (State.pairWrite s origin r w).1.chkTurn = s.chkTurn ∧ (State.pairWrite s origin r w).1.bg = s.bg ∧ (State.pairWrite s origin r w).1.pwr = s.pwr := by
  unfold State.pairWrite; (repeat' split) <;> simp [State.pairCmd_frame _ _ _, State.writePairCfg_frame _ _ _, KeepsHost, KeepsUnits]
theorem State.pairRead_frame (s : State) (r : PairReg) : KeepsHost (State.pairRead s r).2 s ∧ (State.pairRead s r).2.svc = s.svc ∧ (State.pairRead s r).2.img = s.img ∧ (State.pairRead s r).2.fab = s.fab ∧ (State.pairRead s r).2.adcs = s.adcs ∧ (State.pairRead s r).2.filt = s.filt ∧ (State.pairRead s r).2.chks = s.chks ∧ (State.pairRead s r).2.chkTurn = s.chkTurn ∧ (State.pairRead s r).2.bg = s.bg ∧ (State.pairRead s r).2.pwr = s.pwr ∧ (State.pairRead s r).2.recd = s.recd ∧ (State.pairRead s r).2.wheels = s.wheels ∧ (State.pairRead s r).2.flt = s.flt ∧ (State.pairRead s r).2.chans = s.chans ∧ (State.pairRead s r).2.rings = s.rings ∧ (State.pairRead s r).2.rpl = s.rpl ∧ (State.pairRead s r).2.cells = s.cells ∧ (State.pairRead s r).2.storeGen = s.storeGen := by
  unfold State.pairRead; (repeat' split) <;> simp [State.free_frame _, KeepsHost, KeepsUnits]
@[simp] theorem State.pairRead_cells (s : State) (r : PairReg) : (State.pairRead s r).2.cells = s.cells := by simp [State.pairRead_frame _ _]
/-! ## Links -/
theorem State.recoverRing_frame (s : State) (x : RingId) : KeepsHost (State.recoverRing s x) s ∧ (State.recoverRing s x).svc = s.svc ∧ (State.recoverRing s x).img = s.img ∧ (State.recoverRing s x).fab = s.fab ∧ (State.recoverRing s x).chks = s.chks ∧ (State.recoverRing s x).chkTurn = s.chkTurn ∧ (State.recoverRing s x).bg = s.bg ∧ (State.recoverRing s x).pwr = s.pwr ∧ (State.recoverRing s x).freeCtr = s.freeCtr ∧ (State.recoverRing s x).recd = s.recd ∧ (State.recoverRing s x).wheels = s.wheels ∧ (State.recoverRing s x).flt = s.flt ∧ (State.recoverRing s x).rpl = s.rpl ∧ (State.recoverRing s x).pair = s.pair ∧ (State.recoverRing s x).cells = s.cells ∧ (State.recoverRing s x).storeGen = s.storeGen := by simp [State.adcPower_frame _ _, State.refreshRing_frame _ _ _, State.resetGuards_frame _ _, State.restartChains_frame _ _, State.restartInput_frame _ _, State.ringReport_frame _ _ _ _ _ _, State.tellTaps_frame _ _, KeepsHost, KeepsUnits, State.recoverRing]
theorem State.sourceOff_frame (s : State) (x : RingId) : KeepsHost (State.sourceOff s x) s ∧ (State.sourceOff s x).svc = s.svc ∧ (State.sourceOff s x).img = s.img ∧ (State.sourceOff s x).fab = s.fab ∧ (State.sourceOff s x).adcs = s.adcs ∧ (State.sourceOff s x).filt = s.filt ∧ (State.sourceOff s x).chks = s.chks ∧ (State.sourceOff s x).chkTurn = s.chkTurn ∧ (State.sourceOff s x).bg = s.bg ∧ (State.sourceOff s x).pwr = s.pwr ∧ (State.sourceOff s x).recd = s.recd ∧ (State.sourceOff s x).wheels = s.wheels ∧ (State.sourceOff s x).flt = s.flt ∧ (State.sourceOff s x).chans = s.chans ∧ (State.sourceOff s x).rpl = s.rpl ∧ (State.sourceOff s x).cells = s.cells ∧ (State.sourceOff s x).storeGen = s.storeGen := by simp [State.sourceOff, State.free_frame _, State.sendUp_frame _ _ _, KeepsHost, KeepsUnits]
@[simp] theorem State.sourceOff_cells (s : State) (x : RingId) : (State.sourceOff s x).cells = s.cells := by simp [State.sourceOff_frame _ _]
theorem State.startRing_frame (s : State) (x : RingId) (was : Bool) : KeepsHost (State.startRing s x was) s ∧ (State.startRing s x was).svc = s.svc ∧ (State.startRing s x was).img = s.img ∧ (State.startRing s x was).fab = s.fab ∧ (State.startRing s x was).filt = s.filt ∧ (State.startRing s x was).chks = s.chks ∧ (State.startRing s x was).chkTurn = s.chkTurn ∧ (State.startRing s x was).bg = s.bg ∧ (State.startRing s x was).pwr = s.pwr ∧ (State.startRing s x was).recd = s.recd ∧ (State.startRing s x was).wheels = s.wheels ∧ (State.startRing s x was).flt = s.flt ∧ (State.startRing s x was).chans = s.chans ∧ (State.startRing s x was).rpl = s.rpl ∧ (State.startRing s x was).cells = s.cells ∧ (State.startRing s x was).storeGen = s.storeGen := by simp [State.startRing, State.ringReport_frame _ _ _ _ _ _, State.sourceOff_frame _ _, State.adcStart_frame _ _, KeepsHost, KeepsUnits]
theorem State.loseStatus_frame (s : State) (x : RingId) : KeepsHost (State.loseStatus s x) s ∧ (State.loseStatus s x).svc = s.svc ∧ (State.loseStatus s x).img = s.img ∧ (State.loseStatus s x).fab = s.fab ∧ (State.loseStatus s x).adcs = s.adcs ∧ (State.loseStatus s x).filt = s.filt ∧ (State.loseStatus s x).chks = s.chks ∧ (State.loseStatus s x).chkTurn = s.chkTurn ∧ (State.loseStatus s x).bg = s.bg ∧ (State.loseStatus s x).pwr = s.pwr ∧ (State.loseStatus s x).recd = s.recd ∧ (State.loseStatus s x).wheels = s.wheels ∧ (State.loseStatus s x).flt = s.flt ∧ (State.loseStatus s x).chans = s.chans ∧ (State.loseStatus s x).rpl = s.rpl ∧ (State.loseStatus s x).pair = s.pair ∧ (State.loseStatus s x).cells = s.cells ∧ (State.loseStatus s x).storeGen = s.storeGen := by simp [State.freezeStatus_frame _ _, KeepsHost, KeepsUnits, State.loseStatus]
theorem State.ringRestart_frame (s : State) (x : RingId) : KeepsHost (State.ringRestart s x) s ∧ (State.ringRestart s x).svc = s.svc ∧ (State.ringRestart s x).img = s.img ∧ (State.ringRestart s x).adcs = s.adcs ∧ (State.ringRestart s x).chks = s.chks ∧ (State.ringRestart s x).chkTurn = s.chkTurn ∧ (State.ringRestart s x).bg = s.bg ∧ (State.ringRestart s x).pwr = s.pwr ∧ (State.ringRestart s x).storeGen = s.storeGen := by simp [State.clearLive_frame _ _, State.hearQual_frame _ _ _, State.refreshRing_frame _ _ _, State.restartInput_frame _ _, State.sourceOff_frame _ _, State.tellTaps_frame _ _, KeepsHost, KeepsUnits, State.ringRestart]
theorem State.ringTake_frame (s : State) (x : RingId) : KeepsHost (State.ringTake s x) s ∧ KeepsUnits (State.ringTake s x) s ∧ (State.ringTake s x).recd = s.recd ∧ (State.ringTake s x).wheels = s.wheels ∧ (State.ringTake s x).flt = s.flt ∧ (State.ringTake s x).rpl = s.rpl ∧ (State.ringTake s x).pair = s.pair ∧ (State.ringTake s x).cells = s.cells ∧ (State.ringTake s x).storeGen = s.storeGen := by simp [State.joinGang_frame _ _, State.tellTaps_frame _ _, KeepsHost, KeepsUnits, State.ringTake]
@[simp] theorem State.ringTake_cells (s : State) (x : RingId) : (State.ringTake s x).cells = s.cells := by simp [State.ringTake_frame _ _]
theorem State.restoreCauses_frame (s : State) : KeepsHost (State.restoreCauses s) s ∧ KeepsUnits (State.restoreCauses s) s ∧ (State.restoreCauses s).recd = s.recd ∧ (State.restoreCauses s).wheels = s.wheels ∧ (State.restoreCauses s).flt = s.flt ∧ (State.restoreCauses s).rpl = s.rpl ∧ (State.restoreCauses s).pair = s.pair ∧ (State.restoreCauses s).cells = s.cells ∧ (State.restoreCauses s).storeGen = s.storeGen := by simp [State.latchSet_frame _ _ _, KeepsHost, KeepsUnits, State.restoreCauses]
theorem State.clearReported_frame (s : State) (x : RingId) : KeepsHost (State.clearReported s x) s ∧ KeepsUnits (State.clearReported s x) s ∧ (State.clearReported s x).storeGen = s.storeGen := by simp [State.clearCause_frame _ _ _ _, KeepsHost, KeepsUnits, State.clearReported]
theorem State.reportDropped_frame (s : State) (x : RingId) : KeepsHost (State.reportDropped s x) s ∧ KeepsUnits (State.reportDropped s x) s ∧ (State.reportDropped s x).chans = s.chans ∧ (State.reportDropped s x).storeGen = s.storeGen := by simp [State.lostReports_frame _ _ _, KeepsHost, KeepsUnits, State.reportDropped]
theorem State.takePower_frame (s : State) (x : RingId) (m : PowerMode) (hold : Bool) (stop : Bool) (restart : Bool) : KeepsHost (State.takePower s x m hold stop restart) s ∧ (State.takePower s x m hold stop restart).svc = s.svc ∧ (State.takePower s x m hold stop restart).img = s.img ∧ (State.takePower s x m hold stop restart).fab = s.fab ∧ (State.takePower s x m hold stop restart).filt = s.filt ∧ (State.takePower s x m hold stop restart).chks = s.chks ∧ (State.takePower s x m hold stop restart).chkTurn = s.chkTurn ∧ (State.takePower s x m hold stop restart).bg = s.bg ∧ (State.takePower s x m hold stop restart).pwr = s.pwr ∧ (State.takePower s x m hold stop restart).freeCtr = s.freeCtr ∧ (State.takePower s x m hold stop restart).recd = s.recd ∧ (State.takePower s x m hold stop restart).wheels = s.wheels ∧ (State.takePower s x m hold stop restart).flt = s.flt ∧ (State.takePower s x m hold stop restart).rpl = s.rpl ∧ (State.takePower s x m hold stop restart).pair = s.pair ∧ (State.takePower s x m hold stop restart).cells = s.cells ∧ (State.takePower s x m hold stop restart).storeGen = s.storeGen := by simp [State.abortFsk_frame _ _, State.refreshRing_frame _ _ _, State.resetGuards_frame _ _, State.restartInput_frame _ _, State.tellTaps_frame _ _, KeepsHost, KeepsUnits, State.takePower]
@[simp] theorem State.takePower_cells (s : State) (x : RingId) (m : PowerMode) (hold : Bool) (stop : Bool) (restart : Bool) : (State.takePower s x m hold stop restart).cells = s.cells := by simp [State.takePower_frame _ _ _ _ _ _]
theorem State.takeDrive_frame (s : State) (n : Fin 16) (drive : Option Bool) (alt : Option Bool) : KeepsHost (State.takeDrive s n drive alt) s ∧ (State.takeDrive s n drive alt).svc = s.svc ∧ (State.takeDrive s n drive alt).img = s.img ∧ (State.takeDrive s n drive alt).fab = s.fab ∧ (State.takeDrive s n drive alt).adcs = s.adcs ∧ (State.takeDrive s n drive alt).chks = s.chks ∧ (State.takeDrive s n drive alt).chkTurn = s.chkTurn ∧ (State.takeDrive s n drive alt).bg = s.bg ∧ (State.takeDrive s n drive alt).pwr = s.pwr ∧ (State.takeDrive s n drive alt).freeCtr = s.freeCtr ∧ (State.takeDrive s n drive alt).wheels = s.wheels ∧ (State.takeDrive s n drive alt).flt = s.flt ∧ (State.takeDrive s n drive alt).rpl = s.rpl ∧ (State.takeDrive s n drive alt).pair = s.pair ∧ (State.takeDrive s n drive alt).cells = s.cells ∧ (State.takeDrive s n drive alt).storeGen = s.storeGen := by simp [State.applyCommand_frame _ _ _, State.unlatch_frame _ _ _, KeepsHost, KeepsUnits, State.takeDrive]
@[simp] theorem State.takeDrive_cells (s : State) (n : Fin 16) (drive : Option Bool) (alt : Option Bool) : (State.takeDrive s n drive alt).cells = s.cells := by simp [State.takeDrive_frame _ _ _ _]
theorem State.ringAct_frame (s : State) (x : RingId) (f : RingCmd) : KeepsHost (State.ringAct s x f) s ∧ (State.ringAct s x f).svc = s.svc ∧ (State.ringAct s x f).img = s.img ∧ (State.ringAct s x f).chks = s.chks ∧ (State.ringAct s x f).chkTurn = s.chkTurn ∧ (State.ringAct s x f).bg = s.bg ∧ (State.ringAct s x f).pwr = s.pwr ∧ (State.ringAct s x f).storeGen = s.storeGen := by
  unfold State.ringAct; (repeat' split) <;> simp [State.ringRestart_frame _ _, State.ringTake_frame _ _, State.applyCfg_frame _ _ _, State.freeNamed_frame _ _ _, State.applyGuards_frame _ _, State.setpoint_frame _ _ _ _ _ _, State.applyCommand_frame _ _ _, State.takeDrive_frame _ _ _ _, State.refreshStage_frame _ _ _, State.actRelease_frame _ _ _ _, State.tellTaps_frame _ _, State.ringMode_frame _ _ _ _, State.refreshTarget_frame _ _, State.takePower_frame _ _ _ _ _ _, State.takeRotation_frame _ _ _ _, State.reseed_frame _ _, State.takeReseed_frame _ _, State.takeFskCfg_frame _ _ _ _, State.fskQueue_frame _ _ _ _, State.takeRole_frame _ _ _ _ _, State.sendBeat_frame _ _, KeepsHost, KeepsUnits]
theorem State.ringReceive_frame (s : State) (x : RingId) : KeepsHost (State.ringReceive s x) s ∧ (State.ringReceive s x).svc = s.svc ∧ (State.ringReceive s x).img = s.img ∧ (State.ringReceive s x).chks = s.chks ∧ (State.ringReceive s x).chkTurn = s.chkTurn ∧ (State.ringReceive s x).bg = s.bg ∧ (State.ringReceive s x).pwr = s.pwr ∧ (State.ringReceive s x).storeGen = s.storeGen := by
  unfold State.ringReceive; (repeat' split) <;> simp [State.ringAct_frame _ _ _, KeepsHost, KeepsUnits]
theorem State.takeReport_frame (s : State) (x : RingId) (e : Report) : KeepsHost (State.takeReport s x e) s ∧ KeepsUnits (State.takeReport s x e) s ∧ (State.takeReport s x e).storeGen = s.storeGen := by
  unfold State.takeReport; (repeat' split) <;> simp [State.clearCauseAt_frame _ _ _ _ _ _, State.noteAi_frame _ _, State.raiseAt_frame _ _ _, KeepsHost, KeepsUnits]
theorem State.takeChange_frame (s : State) (n : Fin 16) (state : Bool) (initial : Bool) (tick : Nat) (value : Word) : KeepsHost (State.takeChange s n state initial tick value) s ∧ KeepsUnits (State.takeChange s n state initial tick value) s ∧ (State.takeChange s n state initial tick value).storeGen = s.storeGen := by simp [State.toWheels_frame _ _ _ _ _ _, KeepsHost, KeepsUnits, State.takeChange]
theorem State.takePlug_frame (s : State) (n : Fin 16) (state : BitVec 3) : KeepsHost (State.takePlug s n state) s ∧ KeepsUnits (State.takePlug s n state) s ∧ (State.takePlug s n state).recd = s.recd ∧ (State.takePlug s n state).wheels = s.wheels ∧ (State.takePlug s n state).flt = s.flt ∧ (State.takePlug s n state).rings = s.rings ∧ (State.takePlug s n state).rpl = s.rpl ∧ (State.takePlug s n state).pair = s.pair ∧ (State.takePlug s n state).cells = s.cells ∧ (State.takePlug s n state).storeGen = s.storeGen := by simp [KeepsHost, KeepsUnits, State.takePlug]
@[simp] theorem State.takePlug_cells (s : State) (n : Fin 16) (state : BitVec 3) : (State.takePlug s n state).cells = s.cells := by simp [State.takePlug_frame _ _ _]
theorem State.takeLatches_frame (s : State) (x : RingId) (causes : List (BitVec 16)) (set : List Bool) : KeepsHost (State.takeLatches s x causes set) s ∧ KeepsUnits (State.takeLatches s x causes set) s ∧ (State.takeLatches s x causes set).recd = s.recd ∧ (State.takeLatches s x causes set).wheels = s.wheels ∧ (State.takeLatches s x causes set).chans = s.chans ∧ (State.takeLatches s x causes set).rpl = s.rpl ∧ (State.takeLatches s x causes set).pair = s.pair ∧ (State.takeLatches s x causes set).cells = s.cells ∧ (State.takeLatches s x causes set).storeGen = s.storeGen := by simp [State.autoReleaseOn_frame _ _, State.setMirror_frame _ _ _ _, KeepsHost, KeepsUnits, State.takeLatches]
@[simp] theorem State.takeLatches_cells (s : State) (x : RingId) (causes : List (BitVec 16)) (set : List Bool) : (State.takeLatches s x causes set).cells = s.cells := by simp [State.takeLatches_frame _ _ _ _]
theorem State.takeMessage_frame (s : State) (x : RingId) (m : UpMsg) : KeepsHost (State.takeMessage s x m) s ∧ (State.takeMessage s x m).svc = s.svc ∧ (State.takeMessage s x m).img = s.img ∧ (State.takeMessage s x m).adcs = s.adcs ∧ (State.takeMessage s x m).chks = s.chks ∧ (State.takeMessage s x m).chkTurn = s.chkTurn ∧ (State.takeMessage s x m).bg = s.bg ∧ (State.takeMessage s x m).pwr = s.pwr ∧ (State.takeMessage s x m).storeGen = s.storeGen := by
  unfold State.takeMessage; (repeat' split) <;> simp [State.takeChange_frame _ _ _ _ _ _, State.takeLatches_frame _ _ _ _, State.takePlug_frame _ _ _, State.takeFsk_frame _ _ _ _, State.noteAi_frame _ _, State.toWheels_frame _ _ _ _ _ _, State.hearQual_frame _ _ _, KeepsHost, KeepsUnits]
/-! ## Background -/
theorem State.scrubNext_frame (s : State) : KeepsHost (State.scrubNext s) s ∧ (State.scrubNext s).svc = s.svc ∧ (State.scrubNext s).img = s.img ∧ (State.scrubNext s).fab = s.fab ∧ (State.scrubNext s).adcs = s.adcs ∧ (State.scrubNext s).filt = s.filt ∧ (State.scrubNext s).chks = s.chks ∧ (State.scrubNext s).chkTurn = s.chkTurn ∧ (State.scrubNext s).pwr = s.pwr ∧ (State.scrubNext s).freeCtr = s.freeCtr ∧ (State.scrubNext s).chans = s.chans ∧ (State.scrubNext s).storeGen = s.storeGen := by simp [State.caughtUp_frame _ _, KeepsHost, KeepsUnits, State.scrubNext]
theorem State.scrubFind_frame (s : State) (o : ScrubObs) : KeepsHost (State.scrubFind s o) s ∧ (State.scrubFind s o).svc = s.svc ∧ (State.scrubFind s o).img = s.img ∧ (State.scrubFind s o).fab = s.fab ∧ (State.scrubFind s o).adcs = s.adcs ∧ (State.scrubFind s o).filt = s.filt ∧ (State.scrubFind s o).chks = s.chks ∧ (State.scrubFind s o).chkTurn = s.chkTurn ∧ (State.scrubFind s o).pwr = s.pwr ∧ (State.scrubFind s o).freeCtr = s.freeCtr ∧ (State.scrubFind s o).chans = s.chans ∧ (State.scrubFind s o).storeGen = s.storeGen := by
  unfold State.scrubFind; (repeat' split) <;> simp [State.detect_frame _ _, KeepsHost, KeepsUnits]
theorem State.carousel_frame (s : State) (on : Bool) : KeepsHost (State.carousel s on) s ∧ (State.carousel s on).svc = s.svc ∧ (State.carousel s on).img = s.img ∧ (State.carousel s on).fab = s.fab ∧ (State.carousel s on).adcs = s.adcs ∧ (State.carousel s on).filt = s.filt ∧ (State.carousel s on).chkTurn = s.chkTurn ∧ (State.carousel s on).bg = s.bg ∧ (State.carousel s on).pwr = s.pwr ∧ (State.carousel s on).freeCtr = s.freeCtr ∧ (State.carousel s on).recd = s.recd ∧ (State.carousel s on).wheels = s.wheels ∧ (State.carousel s on).flt = s.flt ∧ (State.carousel s on).chans = s.chans ∧ (State.carousel s on).rings = s.rings ∧ (State.carousel s on).rpl = s.rpl ∧ (State.carousel s on).pair = s.pair ∧ (State.carousel s on).cells = s.cells ∧ (State.carousel s on).storeGen = s.storeGen := by simp [KeepsHost, KeepsUnits, State.carousel]
theorem State.refreshFails_frame (s : State) (n : Bool) : KeepsHost (State.refreshFails s n) s ∧ (State.refreshFails s n).svc = s.svc ∧ (State.refreshFails s n).fab = s.fab ∧ (State.refreshFails s n).adcs = s.adcs ∧ (State.refreshFails s n).filt = s.filt ∧ (State.refreshFails s n).chks = s.chks ∧ (State.refreshFails s n).chkTurn = s.chkTurn ∧ (State.refreshFails s n).pwr = s.pwr ∧ (State.refreshFails s n).freeCtr = s.freeCtr ∧ (State.refreshFails s n).chans = s.chans ∧ (State.refreshFails s n).storeGen = s.storeGen := by simp [State.detect_frame _ _, State.setSlot_frame _ _ _, KeepsHost, KeepsUnits, State.refreshFails]
theorem State.unlock_frame (s : State) : (State.unlock s).pending = s.pending ∧ (State.unlock s).clock = s.clock ∧ (State.unlock s).vio = s.vio ∧ (State.unlock s).phase = s.phase ∧ (State.unlock s).tickets = s.tickets ∧ (State.unlock s).readyCount = s.readyCount ∧ (State.unlock s).ports = s.ports ∧ (State.unlock s).shadows = s.shadows ∧ (State.unlock s).svc = s.svc ∧ (State.unlock s).img = s.img ∧ (State.unlock s).fab = s.fab ∧ (State.unlock s).adcs = s.adcs ∧ (State.unlock s).filt = s.filt ∧ (State.unlock s).chks = s.chks ∧ (State.unlock s).chkTurn = s.chkTurn ∧ (State.unlock s).pwr = s.pwr ∧ (State.unlock s).freeCtr = s.freeCtr ∧ (State.unlock s).chans = s.chans ∧ (State.unlock s).storeGen = s.storeGen := by simp [State.raiseLive_frame _ _ _, KeepsHost, KeepsUnits, State.unlock]
theorem State.lock_frame (s : State) : KeepsUnits (State.lock s) s ∧ (State.lock s).pending = s.pending ∧ (State.lock s).clock = s.clock ∧ (State.lock s).vio = s.vio ∧ (State.lock s).phase = s.phase ∧ (State.lock s).tickets = s.tickets ∧ (State.lock s).readyCount = s.readyCount ∧ (State.lock s).ports = s.ports ∧ (State.lock s).shadows = s.shadows ∧ (State.lock s).chans = s.chans ∧ (State.lock s).storeGen = s.storeGen := by simp [State.clearLive_frame _ _, KeepsHost, KeepsUnits, State.lock]
theorem State.measureRef_frame (s : State) (sync : Bool) (ticks : Nat) (us : Nat) : (State.measureRef s sync ticks us).pending = s.pending ∧ (State.measureRef s sync ticks us).clock = s.clock ∧ (State.measureRef s sync ticks us).vio = s.vio ∧ (State.measureRef s sync ticks us).phase = s.phase ∧ (State.measureRef s sync ticks us).tickets = s.tickets ∧ (State.measureRef s sync ticks us).readyCount = s.readyCount ∧ (State.measureRef s sync ticks us).ports = s.ports ∧ (State.measureRef s sync ticks us).shadows = s.shadows ∧ (State.measureRef s sync ticks us).svc = s.svc ∧ (State.measureRef s sync ticks us).img = s.img ∧ (State.measureRef s sync ticks us).fab = s.fab ∧ (State.measureRef s sync ticks us).adcs = s.adcs ∧ (State.measureRef s sync ticks us).filt = s.filt ∧ (State.measureRef s sync ticks us).chks = s.chks ∧ (State.measureRef s sync ticks us).chkTurn = s.chkTurn ∧ (State.measureRef s sync ticks us).pwr = s.pwr ∧ (State.measureRef s sync ticks us).freeCtr = s.freeCtr ∧ (State.measureRef s sync ticks us).chans = s.chans ∧ (State.measureRef s sync ticks us).storeGen = s.storeGen := by simp [State.lock_frame _, State.unlock_frame _, KeepsHost, KeepsUnits, State.measureRef]
theorem State.syncReference_frame (s : State) : KeepsHost (State.syncReference s) s ∧ (State.syncReference s).svc = s.svc ∧ (State.syncReference s).img = s.img ∧ (State.syncReference s).fab = s.fab ∧ (State.syncReference s).adcs = s.adcs ∧ (State.syncReference s).filt = s.filt ∧ (State.syncReference s).chks = s.chks ∧ (State.syncReference s).chkTurn = s.chkTurn ∧ (State.syncReference s).pwr = s.pwr ∧ (State.syncReference s).freeCtr = s.freeCtr ∧ (State.syncReference s).chans = s.chans ∧ (State.syncReference s).storeGen = s.storeGen := by
  unfold State.syncReference; (repeat' split) <;> simp [State.clearLive_frame _ _, KeepsHost, KeepsUnits]
theorem State.judgeSource_frame (s : State) : (State.judgeSource s).pending = s.pending ∧ (State.judgeSource s).clock = s.clock ∧ (State.judgeSource s).vio = s.vio ∧ (State.judgeSource s).phase = s.phase ∧ (State.judgeSource s).tickets = s.tickets ∧ (State.judgeSource s).readyCount = s.readyCount ∧ (State.judgeSource s).ports = s.ports ∧ (State.judgeSource s).shadows = s.shadows ∧ (State.judgeSource s).svc = s.svc ∧ (State.judgeSource s).img = s.img ∧ (State.judgeSource s).fab = s.fab ∧ (State.judgeSource s).adcs = s.adcs ∧ (State.judgeSource s).filt = s.filt ∧ (State.judgeSource s).chks = s.chks ∧ (State.judgeSource s).chkTurn = s.chkTurn ∧ (State.judgeSource s).pwr = s.pwr ∧ (State.judgeSource s).freeCtr = s.freeCtr ∧ (State.judgeSource s).chans = s.chans ∧ (State.judgeSource s).storeGen = s.storeGen := by
  unfold State.judgeSource; (repeat' split) <;> simp [State.unlock_frame _, KeepsHost, KeepsUnits]
theorem State.settleTask_frame (s : State) (t : Fin 8) : KeepsHost (State.settleTask s t) s ∧ (State.settleTask s t).svc = s.svc ∧ (State.settleTask s t).img = s.img ∧ (State.settleTask s t).fab = s.fab ∧ (State.settleTask s t).adcs = s.adcs ∧ (State.settleTask s t).filt = s.filt ∧ (State.settleTask s t).chks = s.chks ∧ (State.settleTask s t).chkTurn = s.chkTurn ∧ (State.settleTask s t).pwr = s.pwr ∧ (State.settleTask s t).freeCtr = s.freeCtr ∧ (State.settleTask s t).chans = s.chans ∧ (State.settleTask s t).storeGen = s.storeGen := by
  unfold State.settleTask; (repeat' split) <;> simp [State.caughtUp_frame _ _, KeepsHost, KeepsUnits]
theorem State.settleBehind_frame (s : State) : KeepsHost (State.settleBehind s) s ∧ (State.settleBehind s).svc = s.svc ∧ (State.settleBehind s).img = s.img ∧ (State.settleBehind s).fab = s.fab ∧ (State.settleBehind s).adcs = s.adcs ∧ (State.settleBehind s).filt = s.filt ∧ (State.settleBehind s).chks = s.chks ∧ (State.settleBehind s).chkTurn = s.chkTurn ∧ (State.settleBehind s).pwr = s.pwr ∧ (State.settleBehind s).freeCtr = s.freeCtr ∧ (State.settleBehind s).chans = s.chans ∧ (State.settleBehind s).storeGen = s.storeGen := by simp [State.settleTask_frame _ _, KeepsHost, KeepsUnits, State.settleBehind]
theorem State.takeBgCfg_frame (w : Word) (s : State) : KeepsHost (State.takeBgCfg w s) s ∧ (State.takeBgCfg w s).svc = s.svc ∧ (State.takeBgCfg w s).img = s.img ∧ (State.takeBgCfg w s).fab = s.fab ∧ (State.takeBgCfg w s).adcs = s.adcs ∧ (State.takeBgCfg w s).filt = s.filt ∧ (State.takeBgCfg w s).chks = s.chks ∧ (State.takeBgCfg w s).chkTurn = s.chkTurn ∧ (State.takeBgCfg w s).pwr = s.pwr ∧ (State.takeBgCfg w s).freeCtr = s.freeCtr ∧ (State.takeBgCfg w s).chans = s.chans ∧ (State.takeBgCfg w s).storeGen = s.storeGen := by simp [State.settleBehind_frame _, KeepsHost, KeepsUnits, State.takeBgCfg]
theorem State.writeBgCfg_frame (s : State) (origin : Origin) (w : Word) : KeepsHost (State.writeBgCfg s origin w).1 s ∧ (State.writeBgCfg s origin w).1.svc = s.svc ∧ (State.writeBgCfg s origin w).1.fab = s.fab ∧ (State.writeBgCfg s origin w).1.adcs = s.adcs ∧ (State.writeBgCfg s origin w).1.filt = s.filt ∧ (State.writeBgCfg s origin w).1.chks = s.chks ∧ (State.writeBgCfg s origin w).1.chkTurn = s.chkTurn ∧ (State.writeBgCfg s origin w).1.pwr = s.pwr ∧ (State.writeBgCfg s origin w).1.freeCtr = s.freeCtr := by simp [State.takeBgCfg_frame _ _, KeepsHost, KeepsUnits, State.writeBgCfg]
theorem State.takeSync_frame (s : State) (w : Word) : (State.takeSync s w).pending = s.pending ∧ (State.takeSync s w).clock = s.clock ∧ (State.takeSync s w).vio = s.vio ∧ (State.takeSync s w).phase = s.phase ∧ (State.takeSync s w).tickets = s.tickets ∧ (State.takeSync s w).readyCount = s.readyCount ∧ (State.takeSync s w).ports = s.ports ∧ (State.takeSync s w).shadows = s.shadows ∧ (State.takeSync s w).svc = s.svc ∧ (State.takeSync s w).img = s.img ∧ (State.takeSync s w).fab = s.fab ∧ (State.takeSync s w).adcs = s.adcs ∧ (State.takeSync s w).filt = s.filt ∧ (State.takeSync s w).chks = s.chks ∧ (State.takeSync s w).chkTurn = s.chkTurn ∧ (State.takeSync s w).pwr = s.pwr ∧ (State.takeSync s w).freeCtr = s.freeCtr ∧ (State.takeSync s w).chans = s.chans ∧ (State.takeSync s w).storeGen = s.storeGen := by
  unfold State.takeSync; dsimp only; (repeat' split) <;> simp [State.clearLive_frame _ _, State.judgeSource_frame _, KeepsHost, KeepsUnits]
theorem State.writeSyncCfg_frame (s : State) (origin : Origin) (w : Word) : (State.writeSyncCfg s origin w).1.pending = s.pending ∧ (State.writeSyncCfg s origin w).1.clock = s.clock ∧ (State.writeSyncCfg s origin w).1.vio = s.vio ∧ (State.writeSyncCfg s origin w).1.phase = s.phase ∧ (State.writeSyncCfg s origin w).1.tickets = s.tickets ∧ (State.writeSyncCfg s origin w).1.readyCount = s.readyCount ∧ (State.writeSyncCfg s origin w).1.ports = s.ports ∧ (State.writeSyncCfg s origin w).1.shadows = s.shadows ∧ (State.writeSyncCfg s origin w).1.svc = s.svc ∧ (State.writeSyncCfg s origin w).1.fab = s.fab ∧ (State.writeSyncCfg s origin w).1.adcs = s.adcs ∧ (State.writeSyncCfg s origin w).1.filt = s.filt ∧ (State.writeSyncCfg s origin w).1.chks = s.chks ∧ (State.writeSyncCfg s origin w).1.chkTurn = s.chkTurn ∧ (State.writeSyncCfg s origin w).1.pwr = s.pwr ∧ (State.writeSyncCfg s origin w).1.freeCtr = s.freeCtr := by simp [State.takeSync_frame _ _, KeepsHost, KeepsUnits, State.writeSyncCfg]
theorem State.bgWrite_frame (s : State) (origin : Origin) (r : BgReg) (w : Word) : (State.bgWrite s origin r w).1.pending = s.pending ∧ (State.bgWrite s origin r w).1.clock = s.clock ∧ (State.bgWrite s origin r w).1.vio = s.vio ∧ (State.bgWrite s origin r w).1.phase = s.phase ∧ (State.bgWrite s origin r w).1.tickets = s.tickets ∧ (State.bgWrite s origin r w).1.readyCount = s.readyCount ∧ (State.bgWrite s origin r w).1.ports = s.ports ∧ (State.bgWrite s origin r w).1.shadows = s.shadows ∧ (State.bgWrite s origin r w).1.svc = s.svc ∧ (State.bgWrite s origin r w).1.fab = s.fab ∧ (State.bgWrite s origin r w).1.adcs = s.adcs ∧ (State.bgWrite s origin r w).1.filt = s.filt ∧ (State.bgWrite s origin r w).1.chks = s.chks ∧ (State.bgWrite s origin r w).1.chkTurn = s.chkTurn ∧ (State.bgWrite s origin r w).1.pwr = s.pwr ∧ (State.bgWrite s origin r w).1.freeCtr = s.freeCtr := by
  unfold State.bgWrite; (repeat' split) <;> simp [State.writeBgCfg_frame _ _ _, State.writeSyncCfg_frame _ _ _, KeepsHost, KeepsUnits]
theorem State.tapMinutes_frame (s : State) (i : Fin 8) : KeepsHost (State.tapMinutes s i).2 s ∧ KeepsUnits (State.tapMinutes s i).2 s ∧ (State.tapMinutes s i).2.recd = s.recd ∧ (State.tapMinutes s i).2.wheels = s.wheels ∧ (State.tapMinutes s i).2.flt = s.flt ∧ (State.tapMinutes s i).2.chans = s.chans ∧ (State.tapMinutes s i).2.rings = s.rings ∧ (State.tapMinutes s i).2.rpl = s.rpl ∧ (State.tapMinutes s i).2.pair = s.pair ∧ (State.tapMinutes s i).2.cells = s.cells ∧ (State.tapMinutes s i).2.storeGen = s.storeGen := by simp [KeepsHost, KeepsUnits, State.tapMinutes]
theorem State.meanTemp_frame (s : State) : KeepsHost (State.meanTemp s).2 s ∧ (State.meanTemp s).2.svc = s.svc ∧ (State.meanTemp s).2.img = s.img ∧ (State.meanTemp s).2.fab = s.fab ∧ (State.meanTemp s).2.adcs = s.adcs ∧ (State.meanTemp s).2.filt = s.filt ∧ (State.meanTemp s).2.chks = s.chks ∧ (State.meanTemp s).2.chkTurn = s.chkTurn ∧ (State.meanTemp s).2.bg = s.bg ∧ (State.meanTemp s).2.pwr = s.pwr ∧ (State.meanTemp s).2.recd = s.recd ∧ (State.meanTemp s).2.wheels = s.wheels ∧ (State.meanTemp s).2.flt = s.flt ∧ (State.meanTemp s).2.chans = s.chans ∧ (State.meanTemp s).2.rings = s.rings ∧ (State.meanTemp s).2.rpl = s.rpl ∧ (State.meanTemp s).2.pair = s.pair ∧ (State.meanTemp s).2.cells = s.cells ∧ (State.meanTemp s).2.storeGen = s.storeGen := by simp [State.measured_frame _ _, KeepsHost, KeepsUnits, State.meanTemp]
theorem State.bgRead_frame (s : State) (r : BgReg) : KeepsHost (State.bgRead s r).2 s ∧ (State.bgRead s r).2.svc = s.svc ∧ (State.bgRead s r).2.img = s.img ∧ (State.bgRead s r).2.fab = s.fab ∧ (State.bgRead s r).2.adcs = s.adcs ∧ (State.bgRead s r).2.filt = s.filt ∧ (State.bgRead s r).2.chks = s.chks ∧ (State.bgRead s r).2.chkTurn = s.chkTurn ∧ (State.bgRead s r).2.pwr = s.pwr ∧ (State.bgRead s r).2.recd = s.recd ∧ (State.bgRead s r).2.wheels = s.wheels ∧ (State.bgRead s r).2.flt = s.flt ∧ (State.bgRead s r).2.chans = s.chans ∧ (State.bgRead s r).2.rings = s.rings ∧ (State.bgRead s r).2.rpl = s.rpl ∧ (State.bgRead s r).2.pair = s.pair ∧ (State.bgRead s r).2.cells = s.cells ∧ (State.bgRead s r).2.storeGen = s.storeGen := by
  unfold State.bgRead; (repeat' split) <;> simp [State.meanTemp_frame _, State.tapMinutes_frame _ _, KeepsHost, KeepsUnits]
/-! ## Modes -/
theorem State.leaveRun_frame (s : State) : KeepsHost (State.leaveRun s) s ∧ KeepsUnits (State.leaveRun s) s ∧ (State.leaveRun s).wheels = s.wheels ∧ (State.leaveRun s).flt = s.flt ∧ (State.leaveRun s).chans = s.chans ∧ (State.leaveRun s).rpl = s.rpl ∧ (State.leaveRun s).cells = s.cells ∧ (State.leaveRun s).storeGen = s.storeGen := by simp [State.giveUp_frame _ _ _, KeepsHost, KeepsUnits, State.leaveRun]
@[simp] theorem State.leaveRun_cells (s : State) : (State.leaveRun s).cells = s.cells := by simp [State.leaveRun_frame _]
theorem State.enterQuiet_frame (s : State) : KeepsHost (State.enterQuiet s) s ∧ (State.enterQuiet s).svc = s.svc ∧ (State.enterQuiet s).img = s.img ∧ (State.enterQuiet s).fab = s.fab ∧ (State.enterQuiet s).adcs = s.adcs ∧ (State.enterQuiet s).chks = s.chks ∧ (State.enterQuiet s).chkTurn = s.chkTurn ∧ (State.enterQuiet s).bg = s.bg ∧ (State.enterQuiet s).chans = s.chans ∧ (State.enterQuiet s).storeGen = s.storeGen := by simp [State.leaveRun_frame _, State.pairSync_frame _, State.sendPower_frame _ _, State.stopChains_frame _, KeepsHost, KeepsUnits, State.enterQuiet]
theorem State.leaveQuiet_frame (s : State) : KeepsHost (State.leaveQuiet s) s ∧ (State.leaveQuiet s).svc = s.svc ∧ (State.leaveQuiet s).img = s.img ∧ (State.leaveQuiet s).fab = s.fab ∧ (State.leaveQuiet s).adcs = s.adcs ∧ (State.leaveQuiet s).filt = s.filt ∧ (State.leaveQuiet s).chks = s.chks ∧ (State.leaveQuiet s).chkTurn = s.chkTurn ∧ (State.leaveQuiet s).bg = s.bg ∧ (State.leaveQuiet s).chans = s.chans ∧ (State.leaveQuiet s).storeGen = s.storeGen := by simp [State.pairSync_frame _, State.sendPower_frame _ _, KeepsHost, KeepsUnits, State.leaveQuiet]
theorem State.endLeaving_frame (s : State) : KeepsHost (State.endLeaving s) s ∧ (State.endLeaving s).svc = s.svc ∧ (State.endLeaving s).img = s.img ∧ (State.endLeaving s).fab = s.fab ∧ (State.endLeaving s).adcs = s.adcs ∧ (State.endLeaving s).chks = s.chks ∧ (State.endLeaving s).chkTurn = s.chkTurn ∧ (State.endLeaving s).bg = s.bg ∧ (State.endLeaving s).freeCtr = s.freeCtr ∧ (State.endLeaving s).recd = s.recd ∧ (State.endLeaving s).wheels = s.wheels ∧ (State.endLeaving s).flt = s.flt ∧ (State.endLeaving s).chans = s.chans ∧ (State.endLeaving s).rpl = s.rpl ∧ (State.endLeaving s).pair = s.pair ∧ (State.endLeaving s).cells = s.cells ∧ (State.endLeaving s).storeGen = s.storeGen := by simp [State.restartChains_frame _ _, State.sendDrive_frame _ _, State.sendPower_frame _ _, KeepsHost, KeepsUnits, State.endLeaving]
@[simp] theorem State.endLeaving_cells (s : State) : (State.endLeaving s).cells = s.cells := by simp [State.endLeaving_frame _]
theorem State.haltRingB_frame (s : State) : KeepsHost (State.haltRingB s) s ∧ (State.haltRingB s).svc = s.svc ∧ (State.haltRingB s).img = s.img ∧ (State.haltRingB s).fab = s.fab ∧ (State.haltRingB s).adcs = s.adcs ∧ (State.haltRingB s).filt = s.filt ∧ (State.haltRingB s).chks = s.chks ∧ (State.haltRingB s).chkTurn = s.chkTurn ∧ (State.haltRingB s).bg = s.bg ∧ (State.haltRingB s).pwr = s.pwr ∧ (State.haltRingB s).recd = s.recd ∧ (State.haltRingB s).wheels = s.wheels ∧ (State.haltRingB s).flt = s.flt ∧ (State.haltRingB s).chans = s.chans ∧ (State.haltRingB s).rpl = s.rpl ∧ (State.haltRingB s).pair = s.pair ∧ (State.haltRingB s).cells = s.cells ∧ (State.haltRingB s).storeGen = s.storeGen := by simp [State.loseStatus_frame _ _, KeepsHost, KeepsUnits, State.haltRingB]
@[simp] theorem State.haltRingB_cells (s : State) : (State.haltRingB s).cells = s.cells := by simp [State.haltRingB_frame _]
theorem State.loseEpoch_frame (s : State) : KeepsHost (State.loseEpoch s) s ∧ KeepsUnits (State.loseEpoch s) s ∧ (State.loseEpoch s).recd = s.recd ∧ (State.loseEpoch s).wheels = s.wheels ∧ (State.loseEpoch s).flt = s.flt ∧ (State.loseEpoch s).chans = s.chans ∧ (State.loseEpoch s).rings = s.rings ∧ (State.loseEpoch s).rpl = s.rpl ∧ (State.loseEpoch s).cells = s.cells ∧ (State.loseEpoch s).storeGen = s.storeGen := by simp [State.loseEpoch, KeepsHost, KeepsUnits]
@[simp] theorem State.loseEpoch_cells (s : State) : (State.loseEpoch s).cells = s.cells := by simp [State.loseEpoch_frame _]
theorem State.enterCellar_frame (s : State) : KeepsHost (State.enterCellar s) s ∧ (State.enterCellar s).svc = s.svc ∧ (State.enterCellar s).img = s.img ∧ (State.enterCellar s).fab = s.fab ∧ (State.enterCellar s).adcs = s.adcs ∧ (State.enterCellar s).chks = s.chks ∧ (State.enterCellar s).chkTurn = s.chkTurn := by simp [State.enterCellar, State.leaveRun_frame _, State.loseEpoch_frame _, State.sendPower_frame _ _, State.haltRingB_frame _, State.refreshRing_frame _ _ _, State.stopChains_frame _, State.sendSource_frame _ _, State.pairSync_frame _, State.periodicCommit_frame _, KeepsHost, KeepsUnits]
theorem State.wakeNow_frame (s : State) (cause : Nat) (ch : Nat) : KeepsHost (State.wakeNow s cause ch) s ∧ (State.wakeNow s cause ch).svc = s.svc ∧ (State.wakeNow s cause ch).img = s.img ∧ (State.wakeNow s cause ch).fab = s.fab ∧ (State.wakeNow s cause ch).adcs = s.adcs ∧ (State.wakeNow s cause ch).filt = s.filt ∧ (State.wakeNow s cause ch).chks = s.chks ∧ (State.wakeNow s cause ch).chkTurn = s.chkTurn ∧ (State.wakeNow s cause ch).bg = s.bg ∧ (State.wakeNow s cause ch).freeCtr = s.freeCtr ∧ (State.wakeNow s cause ch).recd = s.recd ∧ (State.wakeNow s cause ch).wheels = s.wheels ∧ (State.wakeNow s cause ch).flt = s.flt ∧ (State.wakeNow s cause ch).chans = s.chans ∧ (State.wakeNow s cause ch).rings = s.rings ∧ (State.wakeNow s cause ch).rpl = s.rpl ∧ (State.wakeNow s cause ch).pair = s.pair ∧ (State.wakeNow s cause ch).cells = s.cells ∧ (State.wakeNow s cause ch).storeGen = s.storeGen := by simp [KeepsHost, KeepsUnits, State.wakeNow]
theorem State.wake_frame (s : State) (cause : Nat) (ch : Nat) : KeepsHost (State.wake s cause ch) s ∧ (State.wake s cause ch).svc = s.svc ∧ (State.wake s cause ch).img = s.img ∧ (State.wake s cause ch).fab = s.fab ∧ (State.wake s cause ch).adcs = s.adcs ∧ (State.wake s cause ch).filt = s.filt ∧ (State.wake s cause ch).chks = s.chks ∧ (State.wake s cause ch).chkTurn = s.chkTurn ∧ (State.wake s cause ch).bg = s.bg ∧ (State.wake s cause ch).freeCtr = s.freeCtr ∧ (State.wake s cause ch).recd = s.recd ∧ (State.wake s cause ch).wheels = s.wheels ∧ (State.wake s cause ch).flt = s.flt ∧ (State.wake s cause ch).chans = s.chans ∧ (State.wake s cause ch).rings = s.rings ∧ (State.wake s cause ch).rpl = s.rpl ∧ (State.wake s cause ch).pair = s.pair ∧ (State.wake s cause ch).cells = s.cells ∧ (State.wake s cause ch).storeGen = s.storeGen := by simp [State.wakeNow_frame _ _ _, KeepsHost, KeepsUnits, State.wake]
theorem State.returnRun_frame (s : State) (g : Nat) : KeepsHost (State.returnRun s g) s ∧ (State.returnRun s g).svc = s.svc ∧ (State.returnRun s g).img = s.img ∧ (State.returnRun s g).adcs = s.adcs ∧ (State.returnRun s g).chks = s.chks ∧ (State.returnRun s g).chkTurn = s.chkTurn ∧ (State.returnRun s g).bg = s.bg ∧ (State.returnRun s g).storeGen = s.storeGen := by simp [State.pairSync_frame _, State.restartChains_frame _ _, State.sendPower_frame _ _, State.takeSnapshot_frame _, KeepsHost, KeepsUnits, State.returnRun]
theorem State.takeWanted_frame (s : State) : KeepsHost (State.takeWanted s) s ∧ (State.takeWanted s).svc = s.svc ∧ (State.takeWanted s).img = s.img ∧ (State.takeWanted s).fab = s.fab ∧ (State.takeWanted s).adcs = s.adcs ∧ (State.takeWanted s).chks = s.chks ∧ (State.takeWanted s).chkTurn = s.chkTurn := by
  unfold State.takeWanted; (repeat' split) <;> simp [State.leaveQuiet_frame _, State.enterQuiet_frame _, State.enterCellar_frame _, KeepsHost, KeepsUnits]
theorem State.writePwrCtrl_frame (s : State) (origin : Origin) (w : Word) : KeepsHost (State.writePwrCtrl s origin w).1 s ∧ (State.writePwrCtrl s origin w).1.svc = s.svc ∧ (State.writePwrCtrl s origin w).1.img = s.img ∧ (State.writePwrCtrl s origin w).1.fab = s.fab ∧ (State.writePwrCtrl s origin w).1.adcs = s.adcs ∧ (State.writePwrCtrl s origin w).1.filt = s.filt ∧ (State.writePwrCtrl s origin w).1.chks = s.chks ∧ (State.writePwrCtrl s origin w).1.chkTurn = s.chkTurn ∧ (State.writePwrCtrl s origin w).1.bg = s.bg ∧ (State.writePwrCtrl s origin w).1.freeCtr = s.freeCtr := by simp (maxDischargeDepth := 8) [KeepsHost, KeepsUnits, State.writePwrCtrl]
theorem State.writeWakecfg_frame (s : State) (origin : Origin) (w : Word) : KeepsHost (State.writeWakecfg s origin w).1 s ∧ (State.writeWakecfg s origin w).1.svc = s.svc ∧ (State.writeWakecfg s origin w).1.fab = s.fab ∧ (State.writeWakecfg s origin w).1.adcs = s.adcs ∧ (State.writeWakecfg s origin w).1.filt = s.filt ∧ (State.writeWakecfg s origin w).1.chks = s.chks ∧ (State.writeWakecfg s origin w).1.chkTurn = s.chkTurn ∧ (State.writeWakecfg s origin w).1.bg = s.bg ∧ (State.writeWakecfg s origin w).1.freeCtr = s.freeCtr := by simp [KeepsHost, KeepsUnits, State.writeWakecfg]
theorem State.bgBlockWrite_frame (s : State) (origin : Origin) (r : BgReg) (w : Word) : (State.bgBlockWrite s origin r w).1.pending = s.pending ∧ (State.bgBlockWrite s origin r w).1.clock = s.clock ∧ (State.bgBlockWrite s origin r w).1.vio = s.vio ∧ (State.bgBlockWrite s origin r w).1.phase = s.phase ∧ (State.bgBlockWrite s origin r w).1.tickets = s.tickets ∧ (State.bgBlockWrite s origin r w).1.readyCount = s.readyCount ∧ (State.bgBlockWrite s origin r w).1.ports = s.ports ∧ (State.bgBlockWrite s origin r w).1.shadows = s.shadows ∧ (State.bgBlockWrite s origin r w).1.svc = s.svc ∧ (State.bgBlockWrite s origin r w).1.fab = s.fab ∧ (State.bgBlockWrite s origin r w).1.adcs = s.adcs ∧ (State.bgBlockWrite s origin r w).1.filt = s.filt ∧ (State.bgBlockWrite s origin r w).1.chks = s.chks ∧ (State.bgBlockWrite s origin r w).1.chkTurn = s.chkTurn ∧ (State.bgBlockWrite s origin r w).1.freeCtr = s.freeCtr := by
  unfold State.bgBlockWrite; (repeat' split) <;> simp [State.bgWrite_frame _ _ _ _, State.writePwrCtrl_frame _ _ _, State.writeWakecfg_frame _ _ _, KeepsHost, KeepsUnits]
theorem State.bgBlockRead_frame (s : State) (r : BgReg) : KeepsHost (State.bgBlockRead s r).2 s ∧ (State.bgBlockRead s r).2.svc = s.svc ∧ (State.bgBlockRead s r).2.img = s.img ∧ (State.bgBlockRead s r).2.fab = s.fab ∧ (State.bgBlockRead s r).2.adcs = s.adcs ∧ (State.bgBlockRead s r).2.filt = s.filt ∧ (State.bgBlockRead s r).2.chks = s.chks ∧ (State.bgBlockRead s r).2.chkTurn = s.chkTurn ∧ (State.bgBlockRead s r).2.recd = s.recd ∧ (State.bgBlockRead s r).2.wheels = s.wheels ∧ (State.bgBlockRead s r).2.flt = s.flt ∧ (State.bgBlockRead s r).2.chans = s.chans ∧ (State.bgBlockRead s r).2.rings = s.rings ∧ (State.bgBlockRead s r).2.rpl = s.rpl ∧ (State.bgBlockRead s r).2.pair = s.pair ∧ (State.bgBlockRead s r).2.cells = s.cells ∧ (State.bgBlockRead s r).2.storeGen = s.storeGen := by
  unfold State.bgBlockRead; (repeat' split) <;> simp [State.bgRead_frame _ _, KeepsHost, KeepsUnits]
@[simp] theorem State.bgBlockRead_cells (s : State) (r : BgReg) : (State.bgBlockRead s r).2.cells = s.cells := by simp [State.bgBlockRead_frame _ _]
/-! ## Regs -/
theorem State.portRead_frame (s : State) (p : PortId) (r : PortReg) : KeepsUnits (State.portRead s p r).2 s ∧ (State.portRead s p r).2.pending = s.pending ∧ (State.portRead s p r).2.clock = s.clock ∧ (State.portRead s p r).2.vio = s.vio ∧ (State.portRead s p r).2.phase = s.phase ∧ (State.portRead s p r).2.time = s.time ∧ (State.portRead s p r).2.tickets = s.tickets ∧ (State.portRead s p r).2.readyCount = s.readyCount ∧ (State.portRead s p r).2.shadows = s.shadows ∧ (State.portRead s p r).2.recd = s.recd ∧ (State.portRead s p r).2.wheels = s.wheels ∧ (State.portRead s p r).2.flt = s.flt ∧ (State.portRead s p r).2.chans = s.chans ∧ (State.portRead s p r).2.rings = s.rings ∧ (State.portRead s p r).2.rpl = s.rpl ∧ (State.portRead s p r).2.pair = s.pair ∧ (State.portRead s p r).2.cells = s.cells ∧ (State.portRead s p r).2.storeGen = s.storeGen := by
  unfold State.portRead; (repeat' split) <;> simp [KeepsHost, KeepsUnits]
@[simp] theorem State.portRead_cells (s : State) (p : PortId) (r : PortReg) : (State.portRead s p r).2.cells = s.cells := by simp [State.portRead_frame _ _ _]
theorem State.portWrite_frame (s : State) (origin : Origin) (p : PortId) (r : PortReg) (w : Word) : KeepsUnits (State.portWrite s origin p r w).1 s ∧ (State.portWrite s origin p r w).1.pending = s.pending ∧ (State.portWrite s origin p r w).1.clock = s.clock ∧ (State.portWrite s origin p r w).1.vio = s.vio ∧ (State.portWrite s origin p r w).1.phase = s.phase ∧ (State.portWrite s origin p r w).1.time = s.time ∧ (State.portWrite s origin p r w).1.tickets = s.tickets ∧ (State.portWrite s origin p r w).1.readyCount = s.readyCount ∧ (State.portWrite s origin p r w).1.shadows = s.shadows := by
  unfold State.portWrite; (repeat' split) <;> simp [KeepsHost, KeepsUnits]
theorem State.takeMark_frame (s : State) (fall : Word) (w : Word) : (State.takeMark s fall w).pending = s.pending ∧ (State.takeMark s fall w).clock = s.clock ∧ (State.takeMark s fall w).vio = s.vio ∧ (State.takeMark s fall w).phase = s.phase ∧ (State.takeMark s fall w).tickets = s.tickets ∧ (State.takeMark s fall w).readyCount = s.readyCount ∧ (State.takeMark s fall w).ports = s.ports ∧ (State.takeMark s fall w).shadows = s.shadows ∧ (State.takeMark s fall w).svc = s.svc ∧ (State.takeMark s fall w).img = s.img ∧ (State.takeMark s fall w).fab = s.fab ∧ (State.takeMark s fall w).adcs = s.adcs ∧ (State.takeMark s fall w).filt = s.filt ∧ (State.takeMark s fall w).chks = s.chks ∧ (State.takeMark s fall w).chkTurn = s.chkTurn ∧ (State.takeMark s fall w).pwr = s.pwr ∧ (State.takeMark s fall w).freeCtr = s.freeCtr ∧ (State.takeMark s fall w).recd = s.recd ∧ (State.takeMark s fall w).wheels = s.wheels ∧ (State.takeMark s fall w).flt = s.flt ∧ (State.takeMark s fall w).chans = s.chans ∧ (State.takeMark s fall w).rings = s.rings ∧ (State.takeMark s fall w).rpl = s.rpl ∧ (State.takeMark s fall w).pair = s.pair ∧ (State.takeMark s fall w).cells = s.cells ∧ (State.takeMark s fall w).storeGen = s.storeGen := by
  unfold State.takeMark; dsimp only; (repeat' split) <;> simp [KeepsHost, KeepsUnits]
@[simp] theorem State.takeMark_cells (s : State) (fall : Word) (w : Word) : (State.takeMark s fall w).cells = s.cells := by simp [State.takeMark_frame _ _ _]
theorem State.setShadow_frame (s : State) (m : Master) (hi : Addr) (staged : Bool) (v : Word) : KeepsUnits (State.setShadow s m hi staged v) s ∧ (State.setShadow s m hi staged v).pending = s.pending ∧ (State.setShadow s m hi staged v).clock = s.clock ∧ (State.setShadow s m hi staged v).vio = s.vio ∧ (State.setShadow s m hi staged v).phase = s.phase ∧ (State.setShadow s m hi staged v).time = s.time ∧ (State.setShadow s m hi staged v).tickets = s.tickets ∧ (State.setShadow s m hi staged v).readyCount = s.readyCount ∧ (State.setShadow s m hi staged v).ports = s.ports ∧ (State.setShadow s m hi staged v).recd = s.recd ∧ (State.setShadow s m hi staged v).wheels = s.wheels ∧ (State.setShadow s m hi staged v).flt = s.flt ∧ (State.setShadow s m hi staged v).chans = s.chans ∧ (State.setShadow s m hi staged v).rings = s.rings ∧ (State.setShadow s m hi staged v).rpl = s.rpl ∧ (State.setShadow s m hi staged v).pair = s.pair ∧ (State.setShadow s m hi staged v).cells = s.cells ∧ (State.setShadow s m hi staged v).storeGen = s.storeGen := by simp [KeepsHost, KeepsUnits, State.setShadow]
@[simp] theorem State.setShadow_cells (s : State) (m : Master) (hi : Addr) (staged : Bool) (v : Word) : (State.setShadow s m hi staged v).cells = s.cells := by simp [State.setShadow_frame _ _ _ _ _]
theorem State.commitCaltag_frame (s : State) (origin : Origin) (hi : Word) : KeepsUnits (State.commitCaltag s origin hi).1 s ∧ (State.commitCaltag s origin hi).1.pending = s.pending ∧ (State.commitCaltag s origin hi).1.clock = s.clock ∧ (State.commitCaltag s origin hi).1.vio = s.vio ∧ (State.commitCaltag s origin hi).1.phase = s.phase ∧ (State.commitCaltag s origin hi).1.tickets = s.tickets ∧ (State.commitCaltag s origin hi).1.readyCount = s.readyCount ∧ (State.commitCaltag s origin hi).1.ports = s.ports ∧ (State.commitCaltag s origin hi).1.shadows = s.shadows := by simp [KeepsHost, KeepsUnits, State.commitCaltag]
theorem State.timeWrite_frame (s : State) (origin : Origin) (r : TimeReg) (fall : Word) (w : Word) : (State.timeWrite s origin r fall w).1.pending = s.pending ∧ (State.timeWrite s origin r fall w).1.clock = s.clock ∧ (State.timeWrite s origin r fall w).1.vio = s.vio ∧ (State.timeWrite s origin r fall w).1.phase = s.phase ∧ (State.timeWrite s origin r fall w).1.tickets = s.tickets ∧ (State.timeWrite s origin r fall w).1.readyCount = s.readyCount ∧ (State.timeWrite s origin r fall w).1.ports = s.ports ∧ (State.timeWrite s origin r fall w).1.svc = s.svc ∧ (State.timeWrite s origin r fall w).1.img = s.img ∧ (State.timeWrite s origin r fall w).1.fab = s.fab ∧ (State.timeWrite s origin r fall w).1.adcs = s.adcs ∧ (State.timeWrite s origin r fall w).1.filt = s.filt ∧ (State.timeWrite s origin r fall w).1.chks = s.chks ∧ (State.timeWrite s origin r fall w).1.chkTurn = s.chkTurn ∧ (State.timeWrite s origin r fall w).1.pwr = s.pwr ∧ (State.timeWrite s origin r fall w).1.freeCtr = s.freeCtr := by
  unfold State.timeWrite; (repeat' split) <;> simp [State.commitCaltag_frame _ _ _, State.setShadow_frame _ _ _ _ _, State.takeMark_frame _ _ _, KeepsHost, KeepsUnits]
theorem State.liveRead_frame (s : State) (origin : Origin) (r : Reg) : (State.liveRead s origin r).2.pending = s.pending ∧ (State.liveRead s origin r).2.clock = s.clock ∧ (State.liveRead s origin r).2.vio = s.vio ∧ (State.liveRead s origin r).2.phase = s.phase ∧ (State.liveRead s origin r).2.time = s.time ∧ (State.liveRead s origin r).2.tickets = s.tickets ∧ (State.liveRead s origin r).2.readyCount = s.readyCount ∧ (State.liveRead s origin r).2.shadows = s.shadows ∧ (State.liveRead s origin r).2.img = s.img ∧ (State.liveRead s origin r).2.chkTurn = s.chkTurn ∧ (State.liveRead s origin r).2.cells = s.cells ∧ (State.liveRead s origin r).2.storeGen = s.storeGen := by
  unfold State.liveRead; (repeat' split) <;> simp [State.adcRead_frame _ _ _, State.bgBlockRead_frame _ _, State.chRead_frame _ _ _, State.chkRead_frame _ _ _, State.fabRead_frame _ _, State.filtRead_frame _ _, State.fltRead_frame _ _, State.pairRead_frame _ _, State.portRead_frame _ _ _, State.recRead_frame _ _ _, State.ringRead_frame _ _ _, State.rplRead_frame _ _, State.srcRead_frame _ _, State.svcRead_frame _ _, State.whlRead_frame _ _ _, KeepsHost, KeepsUnits]
@[simp] theorem State.liveRead_cells (s : State) (origin : Origin) (r : Reg) : (State.liveRead s origin r).2.cells = s.cells := by simp [State.liveRead_frame _ _ _]
theorem State.regRead_frame (s : State) (origin : Origin) (r : Reg) : (State.regRead s origin r).2.pending = s.pending ∧ (State.regRead s origin r).2.clock = s.clock ∧ (State.regRead s origin r).2.vio = s.vio ∧ (State.regRead s origin r).2.phase = s.phase ∧ (State.regRead s origin r).2.time = s.time ∧ (State.regRead s origin r).2.tickets = s.tickets ∧ (State.regRead s origin r).2.readyCount = s.readyCount ∧ (State.regRead s origin r).2.img = s.img ∧ (State.regRead s origin r).2.chkTurn = s.chkTurn ∧ (State.regRead s origin r).2.cells = s.cells ∧ (State.regRead s origin r).2.storeGen = s.storeGen := by
  unfold State.regRead; dsimp only; (repeat' split) <;> simp [State.liveRead_frame _ _ _, State.setShadow_frame _ _ _ _ _, KeepsHost, KeepsUnits]
@[simp] theorem State.regRead_cells (s : State) (origin : Origin) (r : Reg) : (State.regRead s origin r).2.cells = s.cells := by simp [State.regRead_frame _ _ _]
theorem State.regWrite_frame (s : State) (origin : Origin) (r : Reg) (fall w : Word) (obs : Option Int) : (State.regWrite s origin r fall w obs).1.pending = s.pending ∧ (State.regWrite s origin r fall w obs).1.clock = s.clock ∧ (State.regWrite s origin r fall w obs).1.vio = s.vio ∧ (State.regWrite s origin r fall w obs).1.phase = s.phase ∧ (State.regWrite s origin r fall w obs).1.tickets = s.tickets ∧ (State.regWrite s origin r fall w obs).1.readyCount = s.readyCount := by
  unfold State.regWrite; (repeat' split) <;> simp [State.adcWrite_frame _ _ _ _ _, State.bgBlockWrite_frame _ _ _ _, State.chWrite_frame _ _ _ _ _, State.chkWrite_frame _ _ _ _, State.fabWrite_frame _ _ _ _, State.filtChWrite_frame _ _ _ _ _, State.filtWrite_frame _ _ _ _, State.fltWrite_frame _ _ _ _ _, State.imgRegWrite_frame _ _ _ _ _, State.pairWrite_frame _ _ _ _, State.portWrite_frame _ _ _ _ _, State.recWrite_frame _ _ _ _ _, State.ringWrite_frame _ _ _ _ _, State.rplWrite_frame _ _ _ _, State.svcWrite_frame _ _ _ _, State.timeWrite_frame _ _ _ _ _, State.whlWrite_frame _ _ _ _ _, State.writeChsafe_frame _ _ _ _, State.writeEntry_frame _ _ _ _ _, State.writeReact_frame _ _ _ _, KeepsHost, KeepsUnits]
theorem State.mirrorWrite_frame (before after : State) (origin : Origin) (r : Reg) (w : Word) : KeepsHost (State.mirrorWrite before after origin r w) after ∧ (State.mirrorWrite before after origin r w).svc = after.svc ∧ (State.mirrorWrite before after origin r w).img = after.img ∧ (State.mirrorWrite before after origin r w).adcs = after.adcs ∧ (State.mirrorWrite before after origin r w).filt = after.filt ∧ (State.mirrorWrite before after origin r w).chks = after.chks ∧ (State.mirrorWrite before after origin r w).chkTurn = after.chkTurn ∧ (State.mirrorWrite before after origin r w).bg = after.bg ∧ (State.mirrorWrite before after origin r w).pwr = after.pwr ∧ (State.mirrorWrite before after origin r w).freeCtr = after.freeCtr ∧ (State.mirrorWrite before after origin r w).wheels = after.wheels ∧ (State.mirrorWrite before after origin r w).flt = after.flt ∧ (State.mirrorWrite before after origin r w).rpl = after.rpl ∧ (State.mirrorWrite before after origin r w).cells = after.cells := by simp [State.mirrorOut_frame _ _ _ _ _ _, KeepsHost, KeepsUnits, State.mirrorWrite]
theorem State.cellarRead_frame (s : State) (o : Nat) : KeepsHost (State.cellarRead s o).2 s ∧ (State.cellarRead s o).2.svc = s.svc ∧ (State.cellarRead s o).2.img = s.img ∧ (State.cellarRead s o).2.fab = s.fab ∧ (State.cellarRead s o).2.adcs = s.adcs ∧ (State.cellarRead s o).2.filt = s.filt ∧ (State.cellarRead s o).2.chks = s.chks ∧ (State.cellarRead s o).2.chkTurn = s.chkTurn ∧ (State.cellarRead s o).2.bg = s.bg ∧ (State.cellarRead s o).2.pwr = s.pwr ∧ (State.cellarRead s o).2.chans = s.chans ∧ (State.cellarRead s o).2.storeGen = s.storeGen := by simp [State.cellarRead, State.free_frame _, State.detect_frame _ _, KeepsHost, KeepsUnits]
theorem State.readAt_frame (s : State) (origin : Origin) (a : Addr) : (State.readAt s origin a).1.pending = s.pending ∧ (State.readAt s origin a).1.clock = s.clock ∧ (State.readAt s origin a).1.vio = s.vio ∧ (State.readAt s origin a).1.phase = s.phase ∧ (State.readAt s origin a).1.time = s.time ∧ (State.readAt s origin a).1.tickets = s.tickets ∧ (State.readAt s origin a).1.readyCount = s.readyCount ∧ (State.readAt s origin a).1.img = s.img ∧ (State.readAt s origin a).1.chkTurn = s.chkTurn ∧ (State.readAt s origin a).1.storeGen = s.storeGen := by
  unfold State.readAt; dsimp only; (repeat' split) <;> simp [State.regRead_frame _ _ _, State.cellarRead_frame _ _, KeepsHost, KeepsUnits]
theorem State.writeAt_frame (s : State) (origin : Origin) (a : Addr) (fall w : Word) (obs : Option Int) : (State.writeAt s origin a fall w obs).1.pending = s.pending ∧ (State.writeAt s origin a fall w obs).1.clock = s.clock ∧ (State.writeAt s origin a fall w obs).1.vio = s.vio ∧ (State.writeAt s origin a fall w obs).1.phase = s.phase ∧ (State.writeAt s origin a fall w obs).1.tickets = s.tickets ∧ (State.writeAt s origin a fall w obs).1.readyCount = s.readyCount := by
  unfold State.writeAt; dsimp only; (repeat' split) <;> simp [State.mirrorWrite_frame _ _ _ _ _, State.regWrite_frame _ _ _ _ _ _, KeepsHost, KeepsUnits]
/-! ## Port -/
theorem State.csFall_frame (s : State) (p : PortId) (mode3 : Bool) : KeepsUnits (State.csFall s p mode3) s ∧ (State.csFall s p mode3).pending = s.pending ∧ (State.csFall s p mode3).clock = s.clock ∧ (State.csFall s p mode3).vio = s.vio ∧ (State.csFall s p mode3).phase = s.phase ∧ (State.csFall s p mode3).time = s.time ∧ (State.csFall s p mode3).tickets = s.tickets ∧ (State.csFall s p mode3).readyCount = s.readyCount ∧ (State.csFall s p mode3).shadows = s.shadows ∧ (State.csFall s p mode3).recd = s.recd ∧ (State.csFall s p mode3).wheels = s.wheels ∧ (State.csFall s p mode3).flt = s.flt ∧ (State.csFall s p mode3).chans = s.chans ∧ (State.csFall s p mode3).rings = s.rings ∧ (State.csFall s p mode3).rpl = s.rpl ∧ (State.csFall s p mode3).pair = s.pair ∧ (State.csFall s p mode3).cells = s.cells ∧ (State.csFall s p mode3).storeGen = s.storeGen := by simp [KeepsHost, KeepsUnits, State.csFall]
@[simp] theorem State.csFall_cells (s : State) (p : PortId) (mode3 : Bool) : (State.csFall s p mode3).cells = s.cells := by simp [State.csFall_frame _ _ _]
theorem State.note_frame (s : State) (p : PortId) (last : Byte) (seq : BitVec 16) : KeepsUnits (State.note s p last seq) s ∧ (State.note s p last seq).pending = s.pending ∧ (State.note s p last seq).clock = s.clock ∧ (State.note s p last seq).vio = s.vio ∧ (State.note s p last seq).phase = s.phase ∧ (State.note s p last seq).time = s.time ∧ (State.note s p last seq).tickets = s.tickets ∧ (State.note s p last seq).readyCount = s.readyCount ∧ (State.note s p last seq).shadows = s.shadows ∧ (State.note s p last seq).recd = s.recd ∧ (State.note s p last seq).wheels = s.wheels ∧ (State.note s p last seq).flt = s.flt ∧ (State.note s p last seq).chans = s.chans ∧ (State.note s p last seq).rings = s.rings ∧ (State.note s p last seq).rpl = s.rpl ∧ (State.note s p last seq).pair = s.pair ∧ (State.note s p last seq).cells = s.cells ∧ (State.note s p last seq).storeGen = s.storeGen := by simp [KeepsHost, KeepsUnits, State.note]
@[simp] theorem State.note_cells (s : State) (p : PortId) (last : Byte) (seq : BitVec 16) : (State.note s p last seq).cells = s.cells := by simp [State.note_frame _ _ _ _]
theorem State.discardFrame_frame (s : State) (p : PortId) : KeepsUnits (State.discardFrame s p) s ∧ (State.discardFrame s p).pending = s.pending ∧ (State.discardFrame s p).clock = s.clock ∧ (State.discardFrame s p).vio = s.vio ∧ (State.discardFrame s p).phase = s.phase ∧ (State.discardFrame s p).time = s.time ∧ (State.discardFrame s p).tickets = s.tickets ∧ (State.discardFrame s p).readyCount = s.readyCount ∧ (State.discardFrame s p).shadows = s.shadows ∧ (State.discardFrame s p).recd = s.recd ∧ (State.discardFrame s p).wheels = s.wheels ∧ (State.discardFrame s p).flt = s.flt ∧ (State.discardFrame s p).chans = s.chans ∧ (State.discardFrame s p).rings = s.rings ∧ (State.discardFrame s p).rpl = s.rpl ∧ (State.discardFrame s p).pair = s.pair ∧ (State.discardFrame s p).cells = s.cells ∧ (State.discardFrame s p).storeGen = s.storeGen := by simp [KeepsHost, KeepsUnits, State.discardFrame]
@[simp] theorem State.discardFrame_cells (s : State) (p : PortId) : (State.discardFrame s p).cells = s.cells := by simp [State.discardFrame_frame _ _]
theorem State.busy_frame (s : State) (p : PortId) (seq : BitVec 16) : KeepsUnits (State.busy s p seq) s ∧ (State.busy s p seq).pending = s.pending ∧ (State.busy s p seq).clock = s.clock ∧ (State.busy s p seq).vio = s.vio ∧ (State.busy s p seq).phase = s.phase ∧ (State.busy s p seq).time = s.time ∧ (State.busy s p seq).tickets = s.tickets ∧ (State.busy s p seq).readyCount = s.readyCount ∧ (State.busy s p seq).shadows = s.shadows ∧ (State.busy s p seq).recd = s.recd ∧ (State.busy s p seq).wheels = s.wheels ∧ (State.busy s p seq).flt = s.flt ∧ (State.busy s p seq).chans = s.chans ∧ (State.busy s p seq).rings = s.rings ∧ (State.busy s p seq).rpl = s.rpl ∧ (State.busy s p seq).pair = s.pair ∧ (State.busy s p seq).cells = s.cells ∧ (State.busy s p seq).storeGen = s.storeGen := by simp [KeepsHost, KeepsUnits, State.busy]
@[simp] theorem State.busy_cells (s : State) (p : PortId) (seq : BitVec 16) : (State.busy s p seq).cells = s.cells := by simp [State.busy_frame _ _ _]
theorem State.hello_frame (s : State) (p : PortId) (seq : BitVec 16) (w : Word) : KeepsUnits (State.hello s p seq w).1 s ∧ (State.hello s p seq w).1.pending = s.pending ∧ (State.hello s p seq w).1.clock = s.clock ∧ (State.hello s p seq w).1.vio = s.vio ∧ (State.hello s p seq w).1.phase = s.phase ∧ (State.hello s p seq w).1.time = s.time ∧ (State.hello s p seq w).1.tickets = s.tickets ∧ (State.hello s p seq w).1.readyCount = s.readyCount ∧ (State.hello s p seq w).1.shadows = s.shadows ∧ (State.hello s p seq w).1.recd = s.recd ∧ (State.hello s p seq w).1.wheels = s.wheels ∧ (State.hello s p seq w).1.flt = s.flt ∧ (State.hello s p seq w).1.chans = s.chans ∧ (State.hello s p seq w).1.rings = s.rings ∧ (State.hello s p seq w).1.rpl = s.rpl ∧ (State.hello s p seq w).1.pair = s.pair ∧ (State.hello s p seq w).1.cells = s.cells ∧ (State.hello s p seq w).1.storeGen = s.storeGen := by simp [KeepsHost, KeepsUnits, State.hello]
@[simp] theorem State.hello_cells (s : State) (p : PortId) (seq : BitVec 16) (w : Word) : (State.hello s p seq w).1.cells = s.cells := by simp [State.hello_frame _ _ _ _]
theorem State.popAt_frame (s : State) (a : Addr) (n : Nat) (bad : Option Int) : KeepsHost (State.popAt s a n bad).1 s ∧ KeepsUnits (State.popAt s a n bad).1 s ∧ (State.popAt s a n bad).1.chans = s.chans ∧ (State.popAt s a n bad).1.storeGen = s.storeGen := by
  unfold State.popAt; (repeat' split) <;> simp [State.popWheel_frame _ _ _ _, KeepsHost, KeepsUnits]
theorem State.perform_frame (s : State) (p : PortId) (q : Request) : (State.perform s p q).1.pending = s.pending ∧ (State.perform s p q).1.clock = s.clock ∧ (State.perform s p q).1.vio = s.vio ∧ (State.perform s p q).1.phase = s.phase ∧ (State.perform s p q).1.tickets = s.tickets ∧ (State.perform s p q).1.readyCount = s.readyCount := by
  unfold State.perform; (repeat' split) <;> simp [State.hello_frame _ _ _ _, State.popAt_frame _ _ _ _, State.readAt_frame _ _ _, State.writeAt_frame _ _ _ _ _ _, KeepsHost, KeepsUnits]
theorem State.execRequest_frame (s : State) (p : PortId) (q : Request) : (State.execRequest s p q).pending = s.pending ∧ (State.execRequest s p q).clock = s.clock ∧ (State.execRequest s p q).vio = s.vio ∧ (State.execRequest s p q).phase = s.phase ∧ (State.execRequest s p q).tickets = s.tickets ∧ (State.execRequest s p q).readyCount = s.readyCount := by
  unfold State.execRequest; dsimp only; (repeat' split) <;> simp [State.perform_frame _ _ _, KeepsHost, KeepsUnits]
theorem State.startNext_frame (s : State) (p : PortId) : (State.startNext s p).pending = s.pending ∧ (State.startNext s p).clock = s.clock ∧ (State.startNext s p).vio = s.vio ∧ (State.startNext s p).phase = s.phase ∧ (State.startNext s p).tickets = s.tickets ∧ (State.startNext s p).readyCount = s.readyCount := by
  unfold State.startNext; (repeat' split) <;> simp [State.execRequest_frame _ _ _, KeepsHost, KeepsUnits]
theorem State.queue_frame (s : State) (f : HostFrame) (rep : Option Reply) (enter : Bool) : (State.queue s f rep enter).pending = s.pending ∧ (State.queue s f rep enter).clock = s.clock ∧ (State.queue s f rep enter).vio = s.vio ∧ (State.queue s f rep enter).phase = s.phase ∧ (State.queue s f rep enter).readyCount = s.readyCount := by simp [State.note_frame _ _ _ _, State.startNext_frame _ _, State.takeTicket_frame _ _ _, KeepsHost, KeepsUnits, State.queue]
theorem State.recall_frame (s : State) (f : HostFrame) (e : WinEntry) (r : Response) : KeepsUnits (State.recall s f e r) s ∧ (State.recall s f e r).pending = s.pending ∧ (State.recall s f e r).clock = s.clock ∧ (State.recall s f e r).vio = s.vio ∧ (State.recall s f e r).phase = s.phase ∧ (State.recall s f e r).time = s.time ∧ (State.recall s f e r).shadows = s.shadows ∧ (State.recall s f e r).recd = s.recd ∧ (State.recall s f e r).wheels = s.wheels ∧ (State.recall s f e r).flt = s.flt ∧ (State.recall s f e r).chans = s.chans ∧ (State.recall s f e r).rings = s.rings ∧ (State.recall s f e r).rpl = s.rpl ∧ (State.recall s f e r).pair = s.pair ∧ (State.recall s f e r).cells = s.cells ∧ (State.recall s f e r).storeGen = s.storeGen := by simp [State.note_frame _ _ _ _, State.readyTicket_frame _ _ _ _, KeepsHost, KeepsUnits, State.recall]
@[simp] theorem State.recall_cells (s : State) (f : HostFrame) (e : WinEntry) (r : Response) : (State.recall s f e r).cells = s.cells := by simp [State.recall_frame _ _ _ _]
theorem State.request_frame (s : State) (f : HostFrame) : (State.request s f).pending = s.pending ∧ (State.request s f).clock = s.clock ∧ (State.request s f).vio = s.vio ∧ (State.request s f).phase = s.phase := by
  unfold State.request; dsimp only; (repeat' split) <;> simp [State.busy_frame _ _ _, State.note_frame _ _ _ _, State.queue_frame _ _ _ _, State.recall_frame _ _ _ _, KeepsHost, KeepsUnits]
theorem State.releaseTickets_frame (s : State) (p : PortId) : KeepsUnits (State.releaseTickets s p) s ∧ (State.releaseTickets s p).pending = s.pending ∧ (State.releaseTickets s p).clock = s.clock ∧ (State.releaseTickets s p).vio = s.vio ∧ (State.releaseTickets s p).phase = s.phase ∧ (State.releaseTickets s p).time = s.time ∧ (State.releaseTickets s p).readyCount = s.readyCount ∧ (State.releaseTickets s p).shadows = s.shadows ∧ (State.releaseTickets s p).recd = s.recd ∧ (State.releaseTickets s p).wheels = s.wheels ∧ (State.releaseTickets s p).flt = s.flt ∧ (State.releaseTickets s p).chans = s.chans ∧ (State.releaseTickets s p).rings = s.rings ∧ (State.releaseTickets s p).rpl = s.rpl ∧ (State.releaseTickets s p).pair = s.pair ∧ (State.releaseTickets s p).cells = s.cells ∧ (State.releaseTickets s p).storeGen = s.storeGen := by simp [State.freeTicket_frame _ _, KeepsHost, KeepsUnits, State.releaseTickets]
@[simp] theorem State.releaseTickets_cells (s : State) (p : PortId) : (State.releaseTickets s p).cells = s.cells := by simp [State.releaseTickets_frame _ _]
theorem State.cellarFrame_frame (s : State) (p : PortId) (mode3 : Bool) : (State.cellarFrame s p mode3).pending = s.pending ∧ (State.cellarFrame s p mode3).clock = s.clock ∧ (State.cellarFrame s p mode3).vio = s.vio ∧ (State.cellarFrame s p mode3).phase = s.phase ∧ (State.cellarFrame s p mode3).time = s.time ∧ (State.cellarFrame s p mode3).tickets = s.tickets ∧ (State.cellarFrame s p mode3).readyCount = s.readyCount ∧ (State.cellarFrame s p mode3).shadows = s.shadows ∧ (State.cellarFrame s p mode3).svc = s.svc ∧ (State.cellarFrame s p mode3).img = s.img ∧ (State.cellarFrame s p mode3).fab = s.fab ∧ (State.cellarFrame s p mode3).adcs = s.adcs ∧ (State.cellarFrame s p mode3).filt = s.filt ∧ (State.cellarFrame s p mode3).chks = s.chks ∧ (State.cellarFrame s p mode3).chkTurn = s.chkTurn ∧ (State.cellarFrame s p mode3).bg = s.bg ∧ (State.cellarFrame s p mode3).freeCtr = s.freeCtr ∧ (State.cellarFrame s p mode3).recd = s.recd ∧ (State.cellarFrame s p mode3).wheels = s.wheels ∧ (State.cellarFrame s p mode3).flt = s.flt ∧ (State.cellarFrame s p mode3).chans = s.chans ∧ (State.cellarFrame s p mode3).rings = s.rings ∧ (State.cellarFrame s p mode3).rpl = s.rpl ∧ (State.cellarFrame s p mode3).pair = s.pair ∧ (State.cellarFrame s p mode3).cells = s.cells ∧ (State.cellarFrame s p mode3).storeGen = s.storeGen := by simp [State.csFall_frame _ _ _, State.discardFrame_frame _ _, State.wake_frame _ _ _, KeepsHost, KeepsUnits, State.cellarFrame]
@[simp] theorem State.cellarFrame_cells (s : State) (p : PortId) (mode3 : Bool) : (State.cellarFrame s p mode3).cells = s.cells := by simp [State.cellarFrame_frame _ _ _]
theorem State.submit_frame (s : State) (f : HostFrame) : (State.submit s f).pending = s.pending ∧ (State.submit s f).clock = s.clock ∧ (State.submit s f).vio = s.vio ∧ (State.submit s f).phase = s.phase := by simp [State.cellarFrame_frame _ _ _, State.csFall_frame _ _ _, State.discardFrame_frame _ _, State.note_frame _ _ _ _, State.releaseTickets_frame _ _, State.request_frame _ _, KeepsHost, KeepsUnits, State.submit]
theorem State.deliver_frame (s : State) (p : PortId) (t : Fin 64) : KeepsUnits (State.deliver s p t) s ∧ (State.deliver s p t).pending = s.pending ∧ (State.deliver s p t).clock = s.clock ∧ (State.deliver s p t).vio = s.vio ∧ (State.deliver s p t).phase = s.phase ∧ (State.deliver s p t).time = s.time ∧ (State.deliver s p t).readyCount = s.readyCount ∧ (State.deliver s p t).shadows = s.shadows ∧ (State.deliver s p t).recd = s.recd ∧ (State.deliver s p t).wheels = s.wheels ∧ (State.deliver s p t).flt = s.flt ∧ (State.deliver s p t).chans = s.chans ∧ (State.deliver s p t).rings = s.rings ∧ (State.deliver s p t).rpl = s.rpl ∧ (State.deliver s p t).pair = s.pair ∧ (State.deliver s p t).cells = s.cells ∧ (State.deliver s p t).storeGen = s.storeGen := by simp [State.freeTicket_frame _ _, KeepsHost, KeepsUnits, State.deliver]
theorem State.sendFetched_frame (s : State) (p : PortId) (r : Response) : KeepsUnits (State.sendFetched s p r) s ∧ (State.sendFetched s p r).pending = s.pending ∧ (State.sendFetched s p r).clock = s.clock ∧ (State.sendFetched s p r).vio = s.vio ∧ (State.sendFetched s p r).phase = s.phase ∧ (State.sendFetched s p r).time = s.time ∧ (State.sendFetched s p r).tickets = s.tickets ∧ (State.sendFetched s p r).readyCount = s.readyCount ∧ (State.sendFetched s p r).shadows = s.shadows ∧ (State.sendFetched s p r).recd = s.recd ∧ (State.sendFetched s p r).wheels = s.wheels ∧ (State.sendFetched s p r).flt = s.flt ∧ (State.sendFetched s p r).chans = s.chans ∧ (State.sendFetched s p r).rings = s.rings ∧ (State.sendFetched s p r).rpl = s.rpl ∧ (State.sendFetched s p r).pair = s.pair ∧ (State.sendFetched s p r).cells = s.cells ∧ (State.sendFetched s p r).storeGen = s.storeGen := by simp [KeepsHost, KeepsUnits, State.sendFetched]
theorem State.fetch_frame (s : State) (e : Env) (clocked : Bool) : (State.fetch s e clocked).pending = s.pending ∧ (State.fetch s e clocked).clock = s.clock ∧ (State.fetch s e clocked).vio = s.vio ∧ (State.fetch s e clocked).phase = s.phase ∧ (State.fetch s e clocked).time = s.time ∧ (State.fetch s e clocked).readyCount = s.readyCount ∧ (State.fetch s e clocked).shadows = s.shadows ∧ (State.fetch s e clocked).svc = s.svc ∧ (State.fetch s e clocked).img = s.img ∧ (State.fetch s e clocked).fab = s.fab ∧ (State.fetch s e clocked).adcs = s.adcs ∧ (State.fetch s e clocked).filt = s.filt ∧ (State.fetch s e clocked).chks = s.chks ∧ (State.fetch s e clocked).chkTurn = s.chkTurn ∧ (State.fetch s e clocked).bg = s.bg ∧ (State.fetch s e clocked).freeCtr = s.freeCtr ∧ (State.fetch s e clocked).recd = s.recd ∧ (State.fetch s e clocked).wheels = s.wheels ∧ (State.fetch s e clocked).flt = s.flt ∧ (State.fetch s e clocked).chans = s.chans ∧ (State.fetch s e clocked).rings = s.rings ∧ (State.fetch s e clocked).rpl = s.rpl ∧ (State.fetch s e clocked).pair = s.pair ∧ (State.fetch s e clocked).cells = s.cells ∧ (State.fetch s e clocked).storeGen = s.storeGen := by
  unfold State.fetch; dsimp only; (repeat' split) <;> simp [State.cellarFrame_frame _ _ _, State.csFall_frame _ _ _, State.deliver_frame _ _ _, State.discardFrame_frame _ _, State.note_frame _ _ _ _, State.sendFetched_frame _ _ _, KeepsHost, KeepsUnits]
theorem State.complete_frame (s : State) (p : PortId) : (State.complete s p).pending = s.pending ∧ (State.complete s p).clock = s.clock ∧ (State.complete s p).vio = s.vio ∧ (State.complete s p).phase = s.phase := by
  unfold State.complete; (repeat' split) <;> simp [State.freeTicket_frame _ _, State.readyTicket_frame _ _ _ _, State.startNext_frame _ _, KeepsHost, KeepsUnits]
/-! ## Mirror -/
theorem State.mirrorCapture_frame (s : State) (a : Addr) (v : Word) : KeepsHost (State.mirrorCapture s a v).1 s ∧ KeepsUnits (State.mirrorCapture s a v).1 s := by
  unfold State.mirrorCapture
  refine ⟨⟨?_, ?_, ?_, ?_, ?_, ?_, ?_, ?_, ?_⟩, ⟨?_, ?_, ?_, ?_, ?_, ?_, ?_, ?_, ?_, ?_⟩⟩
  · (first | (simp (maxDischargeDepth := 8); done) | ((repeat' split) <;> first | (simp (maxDischargeDepth := 8) [State.captureValue_frame _ _ _ _]; done) | (simp_all [State.captureValue_frame _ _ _ _]; done) | (first | rw [fst_pending (by assumption)] | rw [snd_pending (by assumption)] | (simp (maxDischargeDepth := 8) [State.captureValue_frame _ _ _ _]; rw [fst_pending (by assumption)])); simp (maxDischargeDepth := 8) [State.captureValue_frame _ _ _ _]; done) | (simp (maxDischargeDepth := 8) [State.captureValue_frame _ _ _ _]; (repeat' split) <;> first | rfl | (simp (maxDischargeDepth := 8) [State.captureValue_frame _ _ _ _]; done) | (simp_all [State.captureValue_frame _ _ _ _]; done)))
  · (first | (simp (maxDischargeDepth := 8); done) | ((repeat' split) <;> first | (simp (maxDischargeDepth := 8) [State.captureValue_frame _ _ _ _]; done) | (simp_all [State.captureValue_frame _ _ _ _]; done) | (first | rw [fst_clock (by assumption)] | rw [snd_clock (by assumption)] | (simp (maxDischargeDepth := 8) [State.captureValue_frame _ _ _ _]; rw [fst_clock (by assumption)])); simp (maxDischargeDepth := 8) [State.captureValue_frame _ _ _ _]; done) | (simp (maxDischargeDepth := 8) [State.captureValue_frame _ _ _ _]; (repeat' split) <;> first | rfl | (simp (maxDischargeDepth := 8) [State.captureValue_frame _ _ _ _]; done) | (simp_all [State.captureValue_frame _ _ _ _]; done)))
  · (first | (simp (maxDischargeDepth := 8); done) | ((repeat' split) <;> first | (simp (maxDischargeDepth := 8) [State.captureValue_frame _ _ _ _]; done) | (simp_all [State.captureValue_frame _ _ _ _]; done) | (first | rw [fst_vio (by assumption)] | rw [snd_vio (by assumption)] | (simp (maxDischargeDepth := 8) [State.captureValue_frame _ _ _ _]; rw [fst_vio (by assumption)])); simp (maxDischargeDepth := 8) [State.captureValue_frame _ _ _ _]; done) | (simp (maxDischargeDepth := 8) [State.captureValue_frame _ _ _ _]; (repeat' split) <;> first | rfl | (simp (maxDischargeDepth := 8) [State.captureValue_frame _ _ _ _]; done) | (simp_all [State.captureValue_frame _ _ _ _]; done)))
  · (first | (simp (maxDischargeDepth := 8); done) | ((repeat' split) <;> first | (simp (maxDischargeDepth := 8) [State.captureValue_frame _ _ _ _]; done) | (simp_all [State.captureValue_frame _ _ _ _]; done) | (first | rw [fst_phase (by assumption)] | rw [snd_phase (by assumption)] | (simp (maxDischargeDepth := 8) [State.captureValue_frame _ _ _ _]; rw [fst_phase (by assumption)])); simp (maxDischargeDepth := 8) [State.captureValue_frame _ _ _ _]; done) | (simp (maxDischargeDepth := 8) [State.captureValue_frame _ _ _ _]; (repeat' split) <;> first | rfl | (simp (maxDischargeDepth := 8) [State.captureValue_frame _ _ _ _]; done) | (simp_all [State.captureValue_frame _ _ _ _]; done)))
  · (first | (simp (maxDischargeDepth := 8); done) | ((repeat' split) <;> first | (simp (maxDischargeDepth := 8) [State.captureValue_frame _ _ _ _]; done) | (simp_all [State.captureValue_frame _ _ _ _]; done) | (first | rw [fst_time (by assumption)] | rw [snd_time (by assumption)] | (simp (maxDischargeDepth := 8) [State.captureValue_frame _ _ _ _]; rw [fst_time (by assumption)])); simp (maxDischargeDepth := 8) [State.captureValue_frame _ _ _ _]; done) | (simp (maxDischargeDepth := 8) [State.captureValue_frame _ _ _ _]; (repeat' split) <;> first | rfl | (simp (maxDischargeDepth := 8) [State.captureValue_frame _ _ _ _]; done) | (simp_all [State.captureValue_frame _ _ _ _]; done)))
  · (first | (simp (maxDischargeDepth := 8); done) | ((repeat' split) <;> first | (simp (maxDischargeDepth := 8) [State.captureValue_frame _ _ _ _]; done) | (simp_all [State.captureValue_frame _ _ _ _]; done) | (first | rw [fst_tickets (by assumption)] | rw [snd_tickets (by assumption)] | (simp (maxDischargeDepth := 8) [State.captureValue_frame _ _ _ _]; rw [fst_tickets (by assumption)])); simp (maxDischargeDepth := 8) [State.captureValue_frame _ _ _ _]; done) | (simp (maxDischargeDepth := 8) [State.captureValue_frame _ _ _ _]; (repeat' split) <;> first | rfl | (simp (maxDischargeDepth := 8) [State.captureValue_frame _ _ _ _]; done) | (simp_all [State.captureValue_frame _ _ _ _]; done)))
  · (first | (simp (maxDischargeDepth := 8); done) | ((repeat' split) <;> first | (simp (maxDischargeDepth := 8) [State.captureValue_frame _ _ _ _]; done) | (simp_all [State.captureValue_frame _ _ _ _]; done) | (first | rw [fst_readyCount (by assumption)] | rw [snd_readyCount (by assumption)] | (simp (maxDischargeDepth := 8) [State.captureValue_frame _ _ _ _]; rw [fst_readyCount (by assumption)])); simp (maxDischargeDepth := 8) [State.captureValue_frame _ _ _ _]; done) | (simp (maxDischargeDepth := 8) [State.captureValue_frame _ _ _ _]; (repeat' split) <;> first | rfl | (simp (maxDischargeDepth := 8) [State.captureValue_frame _ _ _ _]; done) | (simp_all [State.captureValue_frame _ _ _ _]; done)))
  · (first | (simp (maxDischargeDepth := 8); done) | ((repeat' split) <;> first | (simp (maxDischargeDepth := 8) [State.captureValue_frame _ _ _ _]; done) | (simp_all [State.captureValue_frame _ _ _ _]; done) | (first | rw [fst_ports (by assumption)] | rw [snd_ports (by assumption)] | (simp (maxDischargeDepth := 8) [State.captureValue_frame _ _ _ _]; rw [fst_ports (by assumption)])); simp (maxDischargeDepth := 8) [State.captureValue_frame _ _ _ _]; done) | (simp (maxDischargeDepth := 8) [State.captureValue_frame _ _ _ _]; (repeat' split) <;> first | rfl | (simp (maxDischargeDepth := 8) [State.captureValue_frame _ _ _ _]; done) | (simp_all [State.captureValue_frame _ _ _ _]; done)))
  · (first | (simp (maxDischargeDepth := 8); done) | ((repeat' split) <;> first | (simp (maxDischargeDepth := 8) [State.captureValue_frame _ _ _ _]; done) | (simp_all [State.captureValue_frame _ _ _ _]; done) | (first | rw [fst_shadows (by assumption)] | rw [snd_shadows (by assumption)] | (simp (maxDischargeDepth := 8) [State.captureValue_frame _ _ _ _]; rw [fst_shadows (by assumption)])); simp (maxDischargeDepth := 8) [State.captureValue_frame _ _ _ _]; done) | (simp (maxDischargeDepth := 8) [State.captureValue_frame _ _ _ _]; (repeat' split) <;> first | rfl | (simp (maxDischargeDepth := 8) [State.captureValue_frame _ _ _ _]; done) | (simp_all [State.captureValue_frame _ _ _ _]; done)))
  · (first | (simp (maxDischargeDepth := 8); done) | ((repeat' split) <;> first | (simp (maxDischargeDepth := 8) [State.captureValue_frame _ _ _ _]; done) | (simp_all [State.captureValue_frame _ _ _ _]; done) | (first | rw [fst_svc (by assumption)] | rw [snd_svc (by assumption)] | (simp (maxDischargeDepth := 8) [State.captureValue_frame _ _ _ _]; rw [fst_svc (by assumption)])); simp (maxDischargeDepth := 8) [State.captureValue_frame _ _ _ _]; done) | (simp (maxDischargeDepth := 8) [State.captureValue_frame _ _ _ _]; (repeat' split) <;> first | rfl | (simp (maxDischargeDepth := 8) [State.captureValue_frame _ _ _ _]; done) | (simp_all [State.captureValue_frame _ _ _ _]; done)))
  · (first | (simp (maxDischargeDepth := 8); done) | ((repeat' split) <;> first | (simp (maxDischargeDepth := 8) [State.captureValue_frame _ _ _ _]; done) | (simp_all [State.captureValue_frame _ _ _ _]; done) | (first | rw [fst_img (by assumption)] | rw [snd_img (by assumption)] | (simp (maxDischargeDepth := 8) [State.captureValue_frame _ _ _ _]; rw [fst_img (by assumption)])); simp (maxDischargeDepth := 8) [State.captureValue_frame _ _ _ _]; done) | (simp (maxDischargeDepth := 8) [State.captureValue_frame _ _ _ _]; (repeat' split) <;> first | rfl | (simp (maxDischargeDepth := 8) [State.captureValue_frame _ _ _ _]; done) | (simp_all [State.captureValue_frame _ _ _ _]; done)))
  · (first | (simp (maxDischargeDepth := 8); done) | ((repeat' split) <;> first | (simp (maxDischargeDepth := 8) [State.captureValue_frame _ _ _ _]; done) | (simp_all [State.captureValue_frame _ _ _ _]; done) | (first | rw [fst_fab (by assumption)] | rw [snd_fab (by assumption)] | (simp (maxDischargeDepth := 8) [State.captureValue_frame _ _ _ _]; rw [fst_fab (by assumption)])); simp (maxDischargeDepth := 8) [State.captureValue_frame _ _ _ _]; done) | (simp (maxDischargeDepth := 8) [State.captureValue_frame _ _ _ _]; (repeat' split) <;> first | rfl | (simp (maxDischargeDepth := 8) [State.captureValue_frame _ _ _ _]; done) | (simp_all [State.captureValue_frame _ _ _ _]; done)))
  · (first | (simp (maxDischargeDepth := 8); done) | ((repeat' split) <;> first | (simp (maxDischargeDepth := 8) [State.captureValue_frame _ _ _ _]; done) | (simp_all [State.captureValue_frame _ _ _ _]; done) | (first | rw [fst_adcs (by assumption)] | rw [snd_adcs (by assumption)] | (simp (maxDischargeDepth := 8) [State.captureValue_frame _ _ _ _]; rw [fst_adcs (by assumption)])); simp (maxDischargeDepth := 8) [State.captureValue_frame _ _ _ _]; done) | (simp (maxDischargeDepth := 8) [State.captureValue_frame _ _ _ _]; (repeat' split) <;> first | rfl | (simp (maxDischargeDepth := 8) [State.captureValue_frame _ _ _ _]; done) | (simp_all [State.captureValue_frame _ _ _ _]; done)))
  · (first | (simp (maxDischargeDepth := 8); done) | ((repeat' split) <;> first | (simp (maxDischargeDepth := 8) [State.captureValue_frame _ _ _ _]; done) | (simp_all [State.captureValue_frame _ _ _ _]; done) | (first | rw [fst_filt (by assumption)] | rw [snd_filt (by assumption)] | (simp (maxDischargeDepth := 8) [State.captureValue_frame _ _ _ _]; rw [fst_filt (by assumption)])); simp (maxDischargeDepth := 8) [State.captureValue_frame _ _ _ _]; done) | (simp (maxDischargeDepth := 8) [State.captureValue_frame _ _ _ _]; (repeat' split) <;> first | rfl | (simp (maxDischargeDepth := 8) [State.captureValue_frame _ _ _ _]; done) | (simp_all [State.captureValue_frame _ _ _ _]; done)))
  · (first | (simp (maxDischargeDepth := 8); done) | ((repeat' split) <;> first | (simp (maxDischargeDepth := 8) [State.captureValue_frame _ _ _ _]; done) | (simp_all [State.captureValue_frame _ _ _ _]; done) | (first | rw [fst_chks (by assumption)] | rw [snd_chks (by assumption)] | (simp (maxDischargeDepth := 8) [State.captureValue_frame _ _ _ _]; rw [fst_chks (by assumption)])); simp (maxDischargeDepth := 8) [State.captureValue_frame _ _ _ _]; done) | (simp (maxDischargeDepth := 8) [State.captureValue_frame _ _ _ _]; (repeat' split) <;> first | rfl | (simp (maxDischargeDepth := 8) [State.captureValue_frame _ _ _ _]; done) | (simp_all [State.captureValue_frame _ _ _ _]; done)))
  · (first | (simp (maxDischargeDepth := 8); done) | ((repeat' split) <;> first | (simp (maxDischargeDepth := 8) [State.captureValue_frame _ _ _ _]; done) | (simp_all [State.captureValue_frame _ _ _ _]; done) | (first | rw [fst_chkTurn (by assumption)] | rw [snd_chkTurn (by assumption)] | (simp (maxDischargeDepth := 8) [State.captureValue_frame _ _ _ _]; rw [fst_chkTurn (by assumption)])); simp (maxDischargeDepth := 8) [State.captureValue_frame _ _ _ _]; done) | (simp (maxDischargeDepth := 8) [State.captureValue_frame _ _ _ _]; (repeat' split) <;> first | rfl | (simp (maxDischargeDepth := 8) [State.captureValue_frame _ _ _ _]; done) | (simp_all [State.captureValue_frame _ _ _ _]; done)))
  · (first | (simp (maxDischargeDepth := 8); done) | ((repeat' split) <;> first | (simp (maxDischargeDepth := 8) [State.captureValue_frame _ _ _ _]; done) | (simp_all [State.captureValue_frame _ _ _ _]; done) | (first | rw [fst_bg (by assumption)] | rw [snd_bg (by assumption)] | (simp (maxDischargeDepth := 8) [State.captureValue_frame _ _ _ _]; rw [fst_bg (by assumption)])); simp (maxDischargeDepth := 8) [State.captureValue_frame _ _ _ _]; done) | (simp (maxDischargeDepth := 8) [State.captureValue_frame _ _ _ _]; (repeat' split) <;> first | rfl | (simp (maxDischargeDepth := 8) [State.captureValue_frame _ _ _ _]; done) | (simp_all [State.captureValue_frame _ _ _ _]; done)))
  · (first | (simp (maxDischargeDepth := 8); done) | ((repeat' split) <;> first | (simp (maxDischargeDepth := 8) [State.captureValue_frame _ _ _ _]; done) | (simp_all [State.captureValue_frame _ _ _ _]; done) | (first | rw [fst_pwr (by assumption)] | rw [snd_pwr (by assumption)] | (simp (maxDischargeDepth := 8) [State.captureValue_frame _ _ _ _]; rw [fst_pwr (by assumption)])); simp (maxDischargeDepth := 8) [State.captureValue_frame _ _ _ _]; done) | (simp (maxDischargeDepth := 8) [State.captureValue_frame _ _ _ _]; (repeat' split) <;> first | rfl | (simp (maxDischargeDepth := 8) [State.captureValue_frame _ _ _ _]; done) | (simp_all [State.captureValue_frame _ _ _ _]; done)))
  · (first | (simp (maxDischargeDepth := 8); done) | ((repeat' split) <;> first | (simp (maxDischargeDepth := 8) [State.captureValue_frame _ _ _ _]; done) | (simp_all [State.captureValue_frame _ _ _ _]; done) | (first | rw [fst_freeCtr (by assumption)] | rw [snd_freeCtr (by assumption)] | (simp (maxDischargeDepth := 8) [State.captureValue_frame _ _ _ _]; rw [fst_freeCtr (by assumption)])); simp (maxDischargeDepth := 8) [State.captureValue_frame _ _ _ _]; done) | (simp (maxDischargeDepth := 8) [State.captureValue_frame _ _ _ _]; (repeat' split) <;> first | rfl | (simp (maxDischargeDepth := 8) [State.captureValue_frame _ _ _ _]; done) | (simp_all [State.captureValue_frame _ _ _ _]; done)))
theorem State.mirrorApply_frame (s : State) (sel : Word) (win : List Word) : KeepsHost (State.mirrorApply s sel win).1 s ∧ (State.mirrorApply s sel win).1.svc = s.svc ∧ (State.mirrorApply s sel win).1.adcs = s.adcs ∧ (State.mirrorApply s sel win).1.filt = s.filt ∧ (State.mirrorApply s sel win).1.chks = s.chks ∧ (State.mirrorApply s sel win).1.chkTurn = s.chkTurn ∧ (State.mirrorApply s sel win).1.bg = s.bg ∧ (State.mirrorApply s sel win).1.pwr = s.pwr ∧ (State.mirrorApply s sel win).1.freeCtr = s.freeCtr := by simp [State.fabApply_frame _ _ _, State.fabSel_frame _ _, KeepsHost, KeepsUnits, State.mirrorApply]
theorem State.mirrorChange_frame (s : State) (b : List Byte) : (State.mirrorChange s b).1.pending = s.pending ∧ (State.mirrorChange s b).1.clock = s.clock ∧ (State.mirrorChange s b).1.vio = s.vio ∧ (State.mirrorChange s b).1.phase = s.phase ∧ (State.mirrorChange s b).1.tickets = s.tickets ∧ (State.mirrorChange s b).1.readyCount = s.readyCount := by simp [State.mirrorApply_frame _ _ _, State.mirrorCapture_frame _ _ _, State.writeAt_frame _ _ _ _ _ _, KeepsHost, KeepsUnits, State.mirrorChange]
theorem State.sendAck_frame (s : State) (seq : BitVec 16) (code : Byte) : KeepsHost (State.sendAck s seq code) s ∧ KeepsUnits (State.sendAck s seq code) s ∧ (State.sendAck s seq code).recd = s.recd ∧ (State.sendAck s seq code).wheels = s.wheels ∧ (State.sendAck s seq code).flt = s.flt ∧ (State.sendAck s seq code).chans = s.chans ∧ (State.sendAck s seq code).rings = s.rings ∧ (State.sendAck s seq code).rpl = s.rpl ∧ (State.sendAck s seq code).cells = s.cells ∧ (State.sendAck s seq code).storeGen = s.storeGen := by simp [State.sendAckOf_frame _ _, KeepsHost, KeepsUnits, State.sendAck]
@[simp] theorem State.sendAck_cells (s : State) (seq : BitVec 16) (code : Byte) : (State.sendAck s seq code).cells = s.cells := by simp [State.sendAck_frame _ _ _]
theorem State.performMirror_frame (s : State) (b : List Byte) : (State.performMirror s b).pending = s.pending ∧ (State.performMirror s b).clock = s.clock ∧ (State.performMirror s b).vio = s.vio ∧ (State.performMirror s b).phase = s.phase ∧ (State.performMirror s b).tickets = s.tickets ∧ (State.performMirror s b).readyCount = s.readyCount := by simp [State.mirrorChange_frame _ _, State.pairSync_frame _, State.sendAck_frame _ _ _, State.setUq_frame _ _ _, KeepsHost, KeepsUnits, State.performMirror]
theorem State.takeMirror_frame (s : State) (b : List Byte) : (State.takeMirror s b).pending = s.pending ∧ (State.takeMirror s b).clock = s.clock ∧ (State.takeMirror s b).vio = s.vio ∧ (State.takeMirror s b).phase = s.phase ∧ (State.takeMirror s b).readyCount = s.readyCount := by
  unfold State.takeMirror; dsimp only; (repeat' split) <;> simp [State.performMirror_frame _ _, State.sendAck_frame _ _ _]
/-! ## Change -/
theorem State.endHold_frame (s : State) (n : Fin 16) : KeepsHost (State.endHold s n) s ∧ (State.endHold s n).svc = s.svc ∧ (State.endHold s n).img = s.img ∧ (State.endHold s n).fab = s.fab ∧ (State.endHold s n).adcs = s.adcs ∧ (State.endHold s n).chks = s.chks ∧ (State.endHold s n).chkTurn = s.chkTurn ∧ (State.endHold s n).bg = s.bg ∧ (State.endHold s n).pwr = s.pwr ∧ (State.endHold s n).freeCtr = s.freeCtr ∧ (State.endHold s n).recd = s.recd ∧ (State.endHold s n).wheels = s.wheels ∧ (State.endHold s n).flt = s.flt ∧ (State.endHold s n).rpl = s.rpl ∧ (State.endHold s n).pair = s.pair ∧ (State.endHold s n).cells = s.cells ∧ (State.endHold s n).storeGen = s.storeGen := by simp [State.applyGuard_frame _ _, State.dropUnplaced_frame _ _, State.refreshStage_frame _ _ _, State.resetGuard_frame _ _, State.restartChain_frame _ _, State.restartInput_frame _ _, KeepsHost, KeepsUnits, State.endHold]
@[simp] theorem State.endHold_cells (s : State) (n : Fin 16) : (State.endHold s n).cells = s.cells := by simp [State.endHold_frame _ _]
theorem State.endHolds_frame (s : State) : KeepsHost (State.endHolds s) s ∧ (State.endHolds s).svc = s.svc ∧ (State.endHolds s).img = s.img ∧ (State.endHolds s).fab = s.fab ∧ (State.endHolds s).adcs = s.adcs ∧ (State.endHolds s).chks = s.chks ∧ (State.endHolds s).chkTurn = s.chkTurn ∧ (State.endHolds s).bg = s.bg ∧ (State.endHolds s).pwr = s.pwr ∧ (State.endHolds s).freeCtr = s.freeCtr ∧ (State.endHolds s).recd = s.recd ∧ (State.endHolds s).wheels = s.wheels ∧ (State.endHolds s).flt = s.flt ∧ (State.endHolds s).rpl = s.rpl ∧ (State.endHolds s).pair = s.pair ∧ (State.endHolds s).cells = s.cells ∧ (State.endHolds s).storeGen = s.storeGen := by simp [State.endHold_frame _ _, KeepsHost, KeepsUnits, State.endHolds]
@[simp] theorem State.endHolds_cells (s : State) : (State.endHolds s).cells = s.cells := by simp [State.endHolds_frame _]
theorem State.takeMode_frame (s : State) (n : Fin 16) : KeepsHost (State.takeMode s n) s ∧ KeepsUnits (State.takeMode s n) s ∧ (State.takeMode s n).recd = s.recd ∧ (State.takeMode s n).wheels = s.wheels ∧ (State.takeMode s n).flt = s.flt ∧ (State.takeMode s n).rpl = s.rpl ∧ (State.takeMode s n).pair = s.pair ∧ (State.takeMode s n).cells = s.cells ∧ (State.takeMode s n).storeGen = s.storeGen := by simp [State.sendRing_frame _ _ _, KeepsHost, KeepsUnits, State.takeMode]
@[simp] theorem State.takeMode_cells (s : State) (n : Fin 16) : (State.takeMode s n).cells = s.cells := by simp [State.takeMode_frame _ _]
theorem State.changeTick_frame (s : State) : KeepsHost (State.changeTick s) s ∧ (State.changeTick s).svc = s.svc ∧ (State.changeTick s).img = s.img ∧ (State.changeTick s).fab = s.fab ∧ (State.changeTick s).adcs = s.adcs ∧ (State.changeTick s).chks = s.chks ∧ (State.changeTick s).chkTurn = s.chkTurn ∧ (State.changeTick s).bg = s.bg ∧ (State.changeTick s).pwr = s.pwr ∧ (State.changeTick s).freeCtr = s.freeCtr ∧ (State.changeTick s).recd = s.recd ∧ (State.changeTick s).wheels = s.wheels ∧ (State.changeTick s).flt = s.flt ∧ (State.changeTick s).rpl = s.rpl ∧ (State.changeTick s).pair = s.pair ∧ (State.changeTick s).cells = s.cells ∧ (State.changeTick s).storeGen = s.storeGen := by simp [State.endHolds_frame _, State.takeMode_frame _ _, KeepsHost, KeepsUnits, State.changeTick]
@[simp] theorem State.changeTick_cells (s : State) : (State.changeTick s).cells = s.cells := by simp [State.changeTick_frame _]
theorem State.driveChannel_frame (s : State) (n : Fin 16) : KeepsHost (State.driveChannel s n) s ∧ KeepsUnits (State.driveChannel s n) s ∧ (State.driveChannel s n).recd = s.recd ∧ (State.driveChannel s n).wheels = s.wheels ∧ (State.driveChannel s n).flt = s.flt ∧ (State.driveChannel s n).rpl = s.rpl ∧ (State.driveChannel s n).pair = s.pair ∧ (State.driveChannel s n).cells = s.cells ∧ (State.driveChannel s n).storeGen = s.storeGen := by simp [State.sendDrive_frame _ _, KeepsHost, KeepsUnits, State.driveChannel]
theorem State.driveTick_frame (s : State) : KeepsHost (State.driveTick s) s ∧ KeepsUnits (State.driveTick s) s ∧ (State.driveTick s).recd = s.recd ∧ (State.driveTick s).wheels = s.wheels ∧ (State.driveTick s).flt = s.flt ∧ (State.driveTick s).rpl = s.rpl ∧ (State.driveTick s).pair = s.pair ∧ (State.driveTick s).cells = s.cells ∧ (State.driveTick s).storeGen = s.storeGen := by simp [State.driveChannel_frame _ _, KeepsHost, KeepsUnits, State.driveTick]
@[simp] theorem State.driveTick_cells (s : State) : (State.driveTick s).cells = s.cells := by simp [State.driveTick_frame _]
theorem State.undriveTick_frame (s : State) : KeepsHost (State.undriveTick s) s ∧ KeepsUnits (State.undriveTick s) s ∧ (State.undriveTick s).recd = s.recd ∧ (State.undriveTick s).wheels = s.wheels ∧ (State.undriveTick s).flt = s.flt ∧ (State.undriveTick s).rpl = s.rpl ∧ (State.undriveTick s).pair = s.pair ∧ (State.undriveTick s).cells = s.cells ∧ (State.undriveTick s).storeGen = s.storeGen := by simp [State.sendDrive_frame _ _, KeepsHost, KeepsUnits, State.undriveTick]
theorem State.followMember_frame (s : State) (k : Fin 256) (m : Nat) (live : Bool) : KeepsHost (State.followMember s k m live) s ∧ KeepsUnits (State.followMember s k m live) s ∧ (State.followMember s k m live).chans = s.chans ∧ (State.followMember s k m live).storeGen = s.storeGen := by simp [State.clearCause_frame _ _ _ _, State.raise_frame _ _, KeepsHost, KeepsUnits, State.followMember]
theorem State.requests_frame (s : State) : KeepsHost (State.requests s) s ∧ KeepsUnits (State.requests s) s ∧ (State.requests s).chans = s.chans ∧ (State.requests s).storeGen = s.storeGen := by simp [State.followMember_frame _ _ _ _, KeepsHost, KeepsUnits, State.requests]
theorem State.releaseTick_frame (s : State) (ended : Nat) : KeepsHost (State.releaseTick s ended) s ∧ (State.releaseTick s ended).svc = s.svc ∧ (State.releaseTick s ended).img = s.img ∧ (State.releaseTick s ended).fab = s.fab ∧ (State.releaseTick s ended).adcs = s.adcs ∧ (State.releaseTick s ended).chks = s.chks ∧ (State.releaseTick s ended).chkTurn = s.chkTurn ∧ (State.releaseTick s ended).bg = s.bg ∧ (State.releaseTick s ended).pwr = s.pwr ∧ (State.releaseTick s ended).freeCtr = s.freeCtr ∧ (State.releaseTick s ended).recd = s.recd ∧ (State.releaseTick s ended).wheels = s.wheels ∧ (State.releaseTick s ended).rpl = s.rpl ∧ (State.releaseTick s ended).pair = s.pair ∧ (State.releaseTick s ended).cells = s.cells ∧ (State.releaseTick s ended).storeGen = s.storeGen := by simp [State.unlatch_frame _ _ _, KeepsHost, KeepsUnits, State.releaseTick]
@[simp] theorem State.releaseTick_cells (s : State) (ended : Nat) : (State.releaseTick s ended).cells = s.cells := by simp [State.releaseTick_frame _ _]
/-! ## StepTick -/
theorem State.commitStep_frame (s : State) : KeepsHost (State.commitStep s) s ∧ (State.commitStep s).svc = s.svc ∧ (State.commitStep s).img = s.img ∧ (State.commitStep s).adcs = s.adcs ∧ (State.commitStep s).filt = s.filt ∧ (State.commitStep s).chks = s.chks ∧ (State.commitStep s).chkTurn = s.chkTurn ∧ (State.commitStep s).bg = s.bg ∧ (State.commitStep s).pwr = s.pwr ∧ (State.commitStep s).freeCtr = s.freeCtr ∧ (State.commitStep s).recd = s.recd ∧ (State.commitStep s).wheels = s.wheels ∧ (State.commitStep s).flt = s.flt ∧ (State.commitStep s).chans = s.chans ∧ (State.commitStep s).rings = s.rings ∧ (State.commitStep s).rpl = s.rpl ∧ (State.commitStep s).pair = s.pair ∧ (State.commitStep s).cells = s.cells ∧ (State.commitStep s).storeGen = s.storeGen := by simp [KeepsHost, KeepsUnits, State.commitStep]
@[simp] theorem State.commitStep_cells (s : State) : (State.commitStep s).cells = s.cells := by simp [State.commitStep_frame _]
theorem State.epochStep_frame (s : State) (pre : FabState) : KeepsHost (State.epochStep s pre) s ∧ KeepsUnits (State.epochStep s pre) s ∧ (State.epochStep s pre).wheels = s.wheels ∧ (State.epochStep s pre).flt = s.flt ∧ (State.epochStep s pre).chans = s.chans ∧ (State.epochStep s pre).rpl = s.rpl ∧ (State.epochStep s pre).cells = s.cells ∧ (State.epochStep s pre).storeGen = s.storeGen := by simp [State.swapStep_frame _ _, State.takeEpoch_frame _ _ _, KeepsHost, KeepsUnits, State.epochStep]
@[simp] theorem State.epochStep_cells (s : State) (pre : FabState) : (State.epochStep s pre).cells = s.cells := by simp [State.epochStep_frame _ _]
theorem State.idleEnd_frame (s : State) : KeepsHost (State.idleEnd s) s ∧ (State.idleEnd s).svc = s.svc ∧ (State.idleEnd s).img = s.img ∧ (State.idleEnd s).adcs = s.adcs ∧ (State.idleEnd s).filt = s.filt ∧ (State.idleEnd s).chks = s.chks ∧ (State.idleEnd s).chkTurn = s.chkTurn ∧ (State.idleEnd s).bg = s.bg ∧ (State.idleEnd s).pwr = s.pwr ∧ (State.idleEnd s).freeCtr = s.freeCtr ∧ (State.idleEnd s).wheels = s.wheels ∧ (State.idleEnd s).flt = s.flt ∧ (State.idleEnd s).chans = s.chans ∧ (State.idleEnd s).rings = s.rings ∧ (State.idleEnd s).pair = s.pair ∧ (State.idleEnd s).storeGen = s.storeGen := by simp [State.idleEnd, State.endCapture_frame _ _, KeepsHost, KeepsUnits]
theorem State.freeRingB_frame (s : State) : KeepsHost (State.freeRingB s) s ∧ (State.freeRingB s).svc = s.svc ∧ (State.freeRingB s).img = s.img ∧ (State.freeRingB s).fab = s.fab ∧ (State.freeRingB s).adcs = s.adcs ∧ (State.freeRingB s).filt = s.filt ∧ (State.freeRingB s).chks = s.chks ∧ (State.freeRingB s).chkTurn = s.chkTurn ∧ (State.freeRingB s).bg = s.bg ∧ (State.freeRingB s).freeCtr = s.freeCtr ∧ (State.freeRingB s).recd = s.recd ∧ (State.freeRingB s).wheels = s.wheels ∧ (State.freeRingB s).flt = s.flt ∧ (State.freeRingB s).chans = s.chans ∧ (State.freeRingB s).rpl = s.rpl ∧ (State.freeRingB s).pair = s.pair ∧ (State.freeRingB s).cells = s.cells ∧ (State.freeRingB s).storeGen = s.storeGen := by simp [State.freeRingB, State.sendPowerTo_frame _ _ _, KeepsHost, KeepsUnits]
@[simp] theorem State.freeRingB_cells (s : State) : (State.freeRingB s).cells = s.cells := by simp [State.freeRingB_frame _]
theorem State.endTick_frame (s : State) : KeepsHost (State.endTick s) s ∧ (State.endTick s).svc = s.svc ∧ (State.endTick s).img = s.img ∧ (State.endTick s).adcs = s.adcs ∧ (State.endTick s).filt = s.filt ∧ (State.endTick s).chks = s.chks ∧ (State.endTick s).chkTurn = s.chkTurn ∧ (State.endTick s).bg = s.bg ∧ (State.endTick s).wheels = s.wheels ∧ (State.endTick s).flt = s.flt ∧ (State.endTick s).pair = s.pair ∧ (State.endTick s).storeGen = s.storeGen := by simp [State.endTick, State.freeRingB_frame _, State.idleEnd_frame _, State.captureStep_frame _ _ _, State.commitStep_frame _, State.driveTick_frame _, KeepsHost, KeepsUnits]
theorem State.stepReports_frame (s : State) (before : State) : KeepsHost (State.stepReports s before) s ∧ KeepsUnits (State.stepReports s before) s ∧ (State.stepReports s before).chans = s.chans ∧ (State.stepReports s before).storeGen = s.storeGen := by simp [State.raiseHost_frame _ _, State.raiseLive_frame _ _ _, State.requests_frame _, KeepsHost, KeepsUnits, State.stepReports]
theorem State.beginStep_frame (s : State) (tick : Nat) : KeepsHost (State.beginStep s tick) s ∧ (State.beginStep s tick).svc = s.svc ∧ (State.beginStep s tick).adcs = s.adcs ∧ (State.beginStep s tick).filt = s.filt ∧ (State.beginStep s tick).chks = s.chks ∧ (State.beginStep s tick).chkTurn = s.chkTurn ∧ (State.beginStep s tick).bg = s.bg ∧ (State.beginStep s tick).pwr = s.pwr ∧ (State.beginStep s tick).freeCtr = s.freeCtr ∧ (State.beginStep s tick).recd = s.recd ∧ (State.beginStep s tick).wheels = s.wheels ∧ (State.beginStep s tick).flt = s.flt ∧ (State.beginStep s tick).pair = s.pair ∧ (State.beginStep s tick).cells = s.cells ∧ (State.beginStep s tick).storeGen = s.storeGen := by simp [State.freeUnused_frame _ _, State.sendRing_frame _ _ _, State.undriveTick_frame _, KeepsHost, KeepsUnits, State.beginStep]
@[simp] theorem State.beginStep_cells (s : State) (tick : Nat) : (State.beginStep s tick).cells = s.cells := by simp [State.beginStep_frame _ _]
theorem State.epochTick_frame (s : State) : KeepsHost (State.epochTick s) s ∧ (State.epochTick s).svc = s.svc ∧ (State.epochTick s).img = s.img ∧ (State.epochTick s).adcs = s.adcs ∧ (State.epochTick s).filt = s.filt ∧ (State.epochTick s).chks = s.chks ∧ (State.epochTick s).chkTurn = s.chkTurn ∧ (State.epochTick s).bg = s.bg ∧ (State.epochTick s).pwr = s.pwr ∧ (State.epochTick s).recd = s.recd ∧ (State.epochTick s).wheels = s.wheels ∧ (State.epochTick s).flt = s.flt ∧ (State.epochTick s).rings = s.rings ∧ (State.epochTick s).rpl = s.rpl ∧ (State.epochTick s).cells = s.cells ∧ (State.epochTick s).storeGen = s.storeGen := by
  unfold State.epochTick; (repeat' split) <;> simp [State.applyEpoch_frame _ _, State.reinitFabric_frame _, State.takeSetpoints_frame _ _, KeepsHost, KeepsUnits]
@[simp] theorem State.epochTick_cells (s : State) : (State.epochTick s).cells = s.cells := by simp [State.epochTick_frame _]
theorem State.endReplayLeave_frame (s : State) : KeepsHost (State.endReplayLeave s) s ∧ (State.endReplayLeave s).svc = s.svc ∧ (State.endReplayLeave s).img = s.img ∧ (State.endReplayLeave s).fab = s.fab ∧ (State.endReplayLeave s).adcs = s.adcs ∧ (State.endReplayLeave s).chks = s.chks ∧ (State.endReplayLeave s).chkTurn = s.chkTurn ∧ (State.endReplayLeave s).bg = s.bg ∧ (State.endReplayLeave s).pwr = s.pwr ∧ (State.endReplayLeave s).freeCtr = s.freeCtr ∧ (State.endReplayLeave s).recd = s.recd ∧ (State.endReplayLeave s).wheels = s.wheels ∧ (State.endReplayLeave s).flt = s.flt ∧ (State.endReplayLeave s).chans = s.chans ∧ (State.endReplayLeave s).pair = s.pair ∧ (State.endReplayLeave s).cells = s.cells ∧ (State.endReplayLeave s).storeGen = s.storeGen := by simp [State.restartChains_frame _ _, State.sendPower_frame _ _, KeepsHost, KeepsUnits, State.endReplayLeave]
@[simp] theorem State.endReplayLeave_cells (s : State) : (State.endReplayLeave s).cells = s.cells := by simp [State.endReplayLeave_frame _]
theorem State.replayTick_frame (s0 : State) : KeepsHost (State.replayTick s0) s0 ∧ (State.replayTick s0).svc = s0.svc ∧ (State.replayTick s0).img = s0.img ∧ (State.replayTick s0).adcs = s0.adcs ∧ (State.replayTick s0).chks = s0.chks ∧ (State.replayTick s0).chkTurn = s0.chkTurn ∧ (State.replayTick s0).bg = s0.bg ∧ (State.replayTick s0).pwr = s0.pwr ∧ (State.replayTick s0).freeCtr = s0.freeCtr ∧ (State.replayTick s0).wheels = s0.wheels ∧ (State.replayTick s0).flt = s0.flt ∧ (State.replayTick s0).chans = s0.chans ∧ (State.replayTick s0).pair = s0.pair ∧ (State.replayTick s0).cells = s0.cells ∧ (State.replayTick s0).storeGen = s0.storeGen := by
  unfold State.replayTick; dsimp only; (repeat' split) <;> simp [State.endReplayLeave_frame _, State.enterReplay_frame _, State.leaveReplay_frame _, State.sendPower_frame _ _, KeepsHost, KeepsUnits]
theorem State.modeTick_frame (s0 : State) : KeepsHost (State.modeTick s0) s0 ∧ (State.modeTick s0).svc = s0.svc ∧ (State.modeTick s0).img = s0.img ∧ (State.modeTick s0).fab = s0.fab ∧ (State.modeTick s0).adcs = s0.adcs ∧ (State.modeTick s0).chks = s0.chks ∧ (State.modeTick s0).chkTurn = s0.chkTurn := by
  unfold State.modeTick; dsimp only; (repeat' split) <;> simp [State.endLeaving_frame _, State.takeWanted_frame _, KeepsHost, KeepsUnits]
theorem State.startSnapshot_frame (s : State) : KeepsHost (State.startSnapshot s) s ∧ (State.startSnapshot s).svc = s.svc ∧ (State.startSnapshot s).img = s.img ∧ (State.startSnapshot s).adcs = s.adcs ∧ (State.startSnapshot s).chks = s.chks ∧ (State.startSnapshot s).chkTurn = s.chkTurn ∧ (State.startSnapshot s).bg = s.bg ∧ (State.startSnapshot s).pwr = s.pwr ∧ (State.startSnapshot s).freeCtr = s.freeCtr ∧ (State.startSnapshot s).recd = s.recd ∧ (State.startSnapshot s).wheels = s.wheels ∧ (State.startSnapshot s).flt = s.flt ∧ (State.startSnapshot s).rings = s.rings ∧ (State.startSnapshot s).rpl = s.rpl ∧ (State.startSnapshot s).pair = s.pair ∧ (State.startSnapshot s).cells = s.cells ∧ (State.startSnapshot s).storeGen = s.storeGen := by simp [State.takeSnapshot_frame _, KeepsHost, KeepsUnits, State.startSnapshot]
@[simp] theorem State.startSnapshot_cells (s : State) : (State.startSnapshot s).cells = s.cells := by simp [State.startSnapshot_frame _]
theorem State.stepTick_frame (s : State) : KeepsHost (State.stepTick s) s ∧ (State.stepTick s).svc = s.svc ∧ (State.stepTick s).adcs = s.adcs ∧ (State.stepTick s).chks = s.chks ∧ (State.stepTick s).chkTurn = s.chkTurn := by simp [State.beginStep_frame _ _, State.changeTick_frame _, State.endTick_frame _, State.epochStep_frame _ _, State.epochTick_frame _, State.modeTick_frame _, State.pairSync_frame _, State.releaseTick_frame _ _, State.replayTick_frame _, State.startSnapshot_frame _, State.stepReports_frame _ _, KeepsHost, KeepsUnits, State.stepTick]
/-! ## Activation -/
theorem State.activateSlots_frame (s : State) (i : Image) : KeepsHost (State.activateSlots s i) s ∧ (State.activateSlots s i).svc = s.svc ∧ (State.activateSlots s i).fab = s.fab ∧ (State.activateSlots s i).adcs = s.adcs ∧ (State.activateSlots s i).filt = s.filt ∧ (State.activateSlots s i).chkTurn = s.chkTurn ∧ (State.activateSlots s i).pwr = s.pwr ∧ (State.activateSlots s i).freeCtr = s.freeCtr ∧ (State.activateSlots s i).chans = s.chans := by simp [State.activateSlots, State.setSlot_frame _ _ _, State.endOperation_frame _ _ _, State.returnCu3_frame _, State.event_frame _ _ _ _ _ _, State.configChanged_frame _, State.calibChanged_frame _, State.clearLive_frame _ _, KeepsHost, KeepsUnits]
theorem State.loadNetwork_frame (s : State) (i : Image) : KeepsHost (State.loadNetwork s i) s ∧ (State.loadNetwork s i).svc = s.svc ∧ (State.loadNetwork s i).img = s.img ∧ (State.loadNetwork s i).adcs = s.adcs ∧ (State.loadNetwork s i).filt = s.filt ∧ (State.loadNetwork s i).chks = s.chks ∧ (State.loadNetwork s i).chkTurn = s.chkTurn ∧ (State.loadNetwork s i).bg = s.bg ∧ (State.loadNetwork s i).pwr = s.pwr ∧ (State.loadNetwork s i).freeCtr = s.freeCtr ∧ (State.loadNetwork s i).recd = s.recd ∧ (State.loadNetwork s i).wheels = s.wheels ∧ (State.loadNetwork s i).flt = s.flt ∧ (State.loadNetwork s i).chans = s.chans ∧ (State.loadNetwork s i).rings = s.rings ∧ (State.loadNetwork s i).rpl = s.rpl ∧ (State.loadNetwork s i).pair = s.pair ∧ (State.loadNetwork s i).cells = s.cells ∧ (State.loadNetwork s i).storeGen = s.storeGen := by simp [KeepsHost, KeepsUnits, State.loadNetwork]
@[simp] theorem State.loadNetwork_cells (s : State) (i : Image) : (State.loadNetwork s i).cells = s.cells := by simp [State.loadNetwork_frame _ _]
theorem State.activateChain_frame (before : State) (s : State) (i : Image) (n : Fin 16) : KeepsHost (State.activateChain before s i n) s ∧ (State.activateChain before s i n).svc = s.svc ∧ (State.activateChain before s i n).img = s.img ∧ (State.activateChain before s i n).fab = s.fab ∧ (State.activateChain before s i n).adcs = s.adcs ∧ (State.activateChain before s i n).chks = s.chks ∧ (State.activateChain before s i n).chkTurn = s.chkTurn ∧ (State.activateChain before s i n).bg = s.bg ∧ (State.activateChain before s i n).pwr = s.pwr ∧ (State.activateChain before s i n).freeCtr = s.freeCtr ∧ (State.activateChain before s i n).recd = s.recd ∧ (State.activateChain before s i n).wheels = s.wheels ∧ (State.activateChain before s i n).flt = s.flt ∧ (State.activateChain before s i n).chans = s.chans ∧ (State.activateChain before s i n).rings = s.rings ∧ (State.activateChain before s i n).rpl = s.rpl ∧ (State.activateChain before s i n).pair = s.pair ∧ (State.activateChain before s i n).cells = s.cells ∧ (State.activateChain before s i n).storeGen = s.storeGen := by simp [KeepsHost, KeepsUnits, State.activateChain]
theorem State.activateAlign_frame (s : State) (i : Image) : KeepsHost (State.activateAlign s i) s ∧ (State.activateAlign s i).svc = s.svc ∧ (State.activateAlign s i).img = s.img ∧ (State.activateAlign s i).fab = s.fab ∧ (State.activateAlign s i).adcs = s.adcs ∧ (State.activateAlign s i).chks = s.chks ∧ (State.activateAlign s i).chkTurn = s.chkTurn ∧ (State.activateAlign s i).bg = s.bg ∧ (State.activateAlign s i).pwr = s.pwr ∧ (State.activateAlign s i).freeCtr = s.freeCtr ∧ (State.activateAlign s i).recd = s.recd ∧ (State.activateAlign s i).wheels = s.wheels ∧ (State.activateAlign s i).flt = s.flt ∧ (State.activateAlign s i).chans = s.chans ∧ (State.activateAlign s i).rings = s.rings ∧ (State.activateAlign s i).rpl = s.rpl ∧ (State.activateAlign s i).pair = s.pair ∧ (State.activateAlign s i).cells = s.cells ∧ (State.activateAlign s i).storeGen = s.storeGen := by simp [State.restartChains_frame _ _, KeepsHost, KeepsUnits, State.activateAlign]
theorem State.activateFilters_frame (s : State) (i : Image) : KeepsHost (State.activateFilters s i) s ∧ (State.activateFilters s i).svc = s.svc ∧ (State.activateFilters s i).img = s.img ∧ (State.activateFilters s i).fab = s.fab ∧ (State.activateFilters s i).chks = s.chks ∧ (State.activateFilters s i).chkTurn = s.chkTurn ∧ (State.activateFilters s i).bg = s.bg ∧ (State.activateFilters s i).pwr = s.pwr ∧ (State.activateFilters s i).freeCtr = s.freeCtr ∧ (State.activateFilters s i).recd = s.recd ∧ (State.activateFilters s i).wheels = s.wheels ∧ (State.activateFilters s i).flt = s.flt ∧ (State.activateFilters s i).rings = s.rings ∧ (State.activateFilters s i).rpl = s.rpl ∧ (State.activateFilters s i).pair = s.pair ∧ (State.activateFilters s i).cells = s.cells ∧ (State.activateFilters s i).storeGen = s.storeGen := by simp [State.activateAlign_frame _ _, State.activateChain_frame _ _ _ _, State.adcActivate_frame _ _ _ _ _, KeepsHost, KeepsUnits, State.activateFilters]
@[simp] theorem State.activateFilters_cells (s : State) (i : Image) : (State.activateFilters s i).cells = s.cells := by simp [State.activateFilters_frame _ _]
theorem State.activateBg_frame (s : State) (i : Image) : (State.activateBg s i).pending = s.pending ∧ (State.activateBg s i).clock = s.clock ∧ (State.activateBg s i).vio = s.vio ∧ (State.activateBg s i).phase = s.phase ∧ (State.activateBg s i).tickets = s.tickets ∧ (State.activateBg s i).readyCount = s.readyCount ∧ (State.activateBg s i).ports = s.ports ∧ (State.activateBg s i).shadows = s.shadows ∧ (State.activateBg s i).svc = s.svc ∧ (State.activateBg s i).img = s.img ∧ (State.activateBg s i).fab = s.fab ∧ (State.activateBg s i).adcs = s.adcs ∧ (State.activateBg s i).filt = s.filt ∧ (State.activateBg s i).chks = s.chks ∧ (State.activateBg s i).chkTurn = s.chkTurn ∧ (State.activateBg s i).freeCtr = s.freeCtr ∧ (State.activateBg s i).chans = s.chans ∧ (State.activateBg s i).storeGen = s.storeGen := by simp [State.takeBgCfg_frame _ _, State.takeSync_frame _ _, KeepsHost, KeepsUnits, State.activateBg]
theorem State.activateModem_frame (s : State) (i : Image) (x : RingId) : KeepsHost (State.activateModem s i x) s ∧ KeepsUnits (State.activateModem s i x) s ∧ (State.activateModem s i x).recd = s.recd ∧ (State.activateModem s i x).wheels = s.wheels ∧ (State.activateModem s i x).flt = s.flt ∧ (State.activateModem s i x).chans = s.chans ∧ (State.activateModem s i x).rpl = s.rpl ∧ (State.activateModem s i x).pair = s.pair ∧ (State.activateModem s i x).cells = s.cells ∧ (State.activateModem s i x).storeGen = s.storeGen := by simp [State.sendFsk_frame _ _, KeepsHost, KeepsUnits, State.activateModem]
@[simp] theorem State.activateModem_cells (s : State) (i : Image) (x : RingId) : (State.activateModem s i x).cells = s.cells := by simp [State.activateModem_frame _ _ _]
theorem State.activateChan_frame (s : State) (i : Image) (keeps : Bool) (n : Fin 16) : KeepsHost (State.activateChan s i keeps n) s ∧ KeepsUnits (State.activateChan s i keeps n) s ∧ (State.activateChan s i keeps n).recd = s.recd ∧ (State.activateChan s i keeps n).wheels = s.wheels ∧ (State.activateChan s i keeps n).flt = s.flt ∧ (State.activateChan s i keeps n).rings = s.rings ∧ (State.activateChan s i keeps n).rpl = s.rpl ∧ (State.activateChan s i keeps n).pair = s.pair ∧ (State.activateChan s i keeps n).cells = s.cells ∧ (State.activateChan s i keeps n).storeGen = s.storeGen := by simp [KeepsHost, KeepsUnits, State.activateChan]
@[simp] theorem State.activateChan_cells (s : State) (i : Image) (keeps : Bool) (n : Fin 16) : (State.activateChan s i keeps n).cells = s.cells := by simp [State.activateChan_frame _ _ _ _]
theorem State.activateArming_frame (s : State) (keeps : Fin 16 → Bool) : KeepsHost (State.activateArming s keeps) s ∧ (State.activateArming s keeps).img = s.img ∧ (State.activateArming s keeps).fab = s.fab ∧ (State.activateArming s keeps).adcs = s.adcs ∧ (State.activateArming s keeps).filt = s.filt ∧ (State.activateArming s keeps).chks = s.chks ∧ (State.activateArming s keeps).chkTurn = s.chkTurn ∧ (State.activateArming s keeps).bg = s.bg ∧ (State.activateArming s keeps).pwr = s.pwr ∧ (State.activateArming s keeps).freeCtr = s.freeCtr ∧ (State.activateArming s keeps).wheels = s.wheels ∧ (State.activateArming s keeps).flt = s.flt ∧ (State.activateArming s keeps).chans = s.chans ∧ (State.activateArming s keeps).rings = s.rings ∧ (State.activateArming s keeps).rpl = s.rpl ∧ (State.activateArming s keeps).pair = s.pair ∧ (State.activateArming s keeps).cells = s.cells ∧ (State.activateArming s keeps).storeGen = s.storeGen := by simp [State.disarm_frame _ _, KeepsHost, KeepsUnits, State.activateArming]
@[simp] theorem State.activateArming_cells (s : State) (keeps : Fin 16 → Bool) : (State.activateArming s keeps).cells = s.cells := by simp [State.activateArming_frame _ _]
theorem State.stagedChan_frame (s : State) (i : Image) (keeps : Bool) (n : Fin 16) : KeepsHost (State.stagedChan s i keeps n) s ∧ KeepsUnits (State.stagedChan s i keeps n) s ∧ (State.stagedChan s i keeps n).recd = s.recd ∧ (State.stagedChan s i keeps n).wheels = s.wheels ∧ (State.stagedChan s i keeps n).flt = s.flt ∧ (State.stagedChan s i keeps n).rpl = s.rpl ∧ (State.stagedChan s i keeps n).pair = s.pair ∧ (State.stagedChan s i keeps n).cells = s.cells ∧ (State.stagedChan s i keeps n).storeGen = s.storeGen := by simp [State.applyCfg_frame _ _ _, State.beginHold_frame _ _ _ _ _, State.joinGang_frame _ _, State.refreshStage_frame _ _ _, KeepsHost, KeepsUnits, State.stagedChan]
@[simp] theorem State.stagedChan_cells (s : State) (i : Image) (keeps : Bool) (n : Fin 16) : (State.stagedChan s i keeps n).cells = s.cells := by simp [State.stagedChan_frame _ _ _ _]
theorem State.activateRing_frame (s : State) (i : Image) (keeps : Fin 16 → Bool) (x : RingId) : KeepsHost (State.activateRing s i keeps x) s ∧ KeepsUnits (State.activateRing s i keeps x) s ∧ (State.activateRing s i keeps x).recd = s.recd ∧ (State.activateRing s i keeps x).wheels = s.wheels ∧ (State.activateRing s i keeps x).flt = s.flt ∧ (State.activateRing s i keeps x).rpl = s.rpl ∧ (State.activateRing s i keeps x).pair = s.pair ∧ (State.activateRing s i keeps x).cells = s.cells ∧ (State.activateRing s i keeps x).storeGen = s.storeGen := by simp [State.activateRing, State.stagedChan_frame _ _ _ _, State.applyGuards_frame _ _, State.tellTaps_frame _ _, State.takeGate_frame _ _ _, State.sendRing_frame _ _ _, KeepsHost, KeepsUnits]
@[simp] theorem State.activateRing_cells (s : State) (i : Image) (keeps : Fin 16 → Bool) (x : RingId) : (State.activateRing s i keeps x).cells = s.cells := by simp [State.activateRing_frame _ _ _ _]
theorem State.activate_frame (s : State) (i : Image) : (State.activate s i).pending = s.pending ∧ (State.activate s i).clock = s.clock ∧ (State.activate s i).vio = s.vio ∧ (State.activate s i).phase = s.phase ∧ (State.activate s i).tickets = s.tickets ∧ (State.activate s i).readyCount = s.readyCount ∧ (State.activate s i).ports = s.ports ∧ (State.activate s i).shadows = s.shadows ∧ (State.activate s i).chkTurn = s.chkTurn := by simp [State.activateArming_frame _ _, State.activateBg_frame _ _, State.activateChan_frame _ _ _ _, State.activateFaults_frame _ _, State.activateFilters_frame _ _, State.activateModem_frame _ _ _, State.activateRing_frame _ _ _ _, State.activateSlots_frame _ _, State.activateWheels_frame _ _ _, State.beginStep_frame _ _, State.clearLive_frame _ _, State.endHolds_frame _, State.endTick_frame _, State.epochStep_frame _ _, State.loadNetwork_frame _ _, State.modeTick_frame _, State.pairActivate_frame _ _ _, State.pairSync_frame _, State.releaseTick_frame _ _, State.replayActivate_frame _ _, State.replayTick_frame _, State.startSnapshot_frame _, State.stepReports_frame _ _, State.takePairing_frame _ _, KeepsHost, KeepsUnits, State.activate]
theorem State.tickNow_frame (s : State) : (State.tickNow s).pending = s.pending ∧ (State.tickNow s).clock = s.clock ∧ (State.tickNow s).vio = s.vio ∧ (State.tickNow s).phase = s.phase ∧ (State.tickNow s).tickets = s.tickets ∧ (State.tickNow s).readyCount = s.readyCount ∧ (State.tickNow s).ports = s.ports ∧ (State.tickNow s).shadows = s.shadows ∧ (State.tickNow s).chkTurn = s.chkTurn := by
  unfold State.tickNow; (repeat' split) <;> simp [State.activate_frame _ _, State.stepTick_frame _, KeepsHost, KeepsUnits]
/-! ## Supply -/
theorem State.loaderCut_frame (s : State) : KeepsHost (State.loaderCut s) s ∧ (State.loaderCut s).svc = s.svc ∧ (State.loaderCut s).fab = s.fab ∧ (State.loaderCut s).adcs = s.adcs ∧ (State.loaderCut s).filt = s.filt ∧ (State.loaderCut s).chks = s.chks ∧ (State.loaderCut s).chkTurn = s.chkTurn ∧ (State.loaderCut s).bg = s.bg ∧ (State.loaderCut s).pwr = s.pwr ∧ (State.loaderCut s).recd = s.recd ∧ (State.loaderCut s).wheels = s.wheels ∧ (State.loaderCut s).flt = s.flt ∧ (State.loaderCut s).chans = s.chans ∧ (State.loaderCut s).rings = s.rings ∧ (State.loaderCut s).rpl = s.rpl ∧ (State.loaderCut s).pair = s.pair ∧ (State.loaderCut s).storeGen = s.storeGen := by simp [State.loaderCut, State.loaderStop_frame _, State.setSlot_frame _ _ _, KeepsHost, KeepsUnits]
theorem State.sessionAborted_frame (s : State) : KeepsHost (State.sessionAborted s) s ∧ KeepsUnits (State.sessionAborted s) s ∧ (State.sessionAborted s).wheels = s.wheels ∧ (State.sessionAborted s).flt = s.flt ∧ (State.sessionAborted s).chans = s.chans ∧ (State.sessionAborted s).rings = s.rings ∧ (State.sessionAborted s).rpl = s.rpl ∧ (State.sessionAborted s).pair = s.pair ∧ (State.sessionAborted s).cells = s.cells ∧ (State.sessionAborted s).storeGen = s.storeGen := by simp [State.event_frame _ _ _ _ _ _, KeepsHost, KeepsUnits, State.sessionAborted]
theorem State.loaderHalt_frame (s : State) : KeepsHost (State.loaderHalt s) s ∧ (State.loaderHalt s).svc = s.svc ∧ (State.loaderHalt s).fab = s.fab ∧ (State.loaderHalt s).adcs = s.adcs ∧ (State.loaderHalt s).filt = s.filt ∧ (State.loaderHalt s).chks = s.chks ∧ (State.loaderHalt s).chkTurn = s.chkTurn ∧ (State.loaderHalt s).bg = s.bg ∧ (State.loaderHalt s).pwr = s.pwr ∧ (State.loaderHalt s).recd = s.recd ∧ (State.loaderHalt s).wheels = s.wheels ∧ (State.loaderHalt s).flt = s.flt ∧ (State.loaderHalt s).chans = s.chans ∧ (State.loaderHalt s).rings = s.rings ∧ (State.loaderHalt s).rpl = s.rpl ∧ (State.loaderHalt s).pair = s.pair ∧ (State.loaderHalt s).storeGen = s.storeGen := by simp [State.loaderHalt, State.loaderCut_frame _, KeepsHost, KeepsUnits]
theorem State.hostStop_frame (s : State) : (State.hostStop s).pending = s.pending ∧ (State.hostStop s).clock = s.clock ∧ (State.hostStop s).vio = s.vio ∧ (State.hostStop s).storeGen = s.storeGen := by simp [State.hostStop, State.loaderHalt_frame _, State.replayStart_frame _, KeepsHost, KeepsUnits]
theorem State.halt_frame (s : State) (p : HostPhase) : (State.halt s p).pending = s.pending ∧ (State.halt s p).clock = s.clock ∧ (State.halt s p).vio = s.vio ∧ (State.halt s p).storeGen = s.storeGen := by simp [State.halt, State.hostStop_frame _, KeepsHost, KeepsUnits]
theorem State.beginStart_frame (s : State) (reset : Bool) : KeepsUnits (State.beginStart s reset) s ∧ (State.beginStart s reset).pending = s.pending ∧ (State.beginStart s reset).clock = s.clock ∧ (State.beginStart s reset).vio = s.vio ∧ (State.beginStart s reset).tickets = s.tickets ∧ (State.beginStart s reset).readyCount = s.readyCount ∧ (State.beginStart s reset).ports = s.ports ∧ (State.beginStart s reset).shadows = s.shadows ∧ (State.beginStart s reset).recd = s.recd ∧ (State.beginStart s reset).wheels = s.wheels ∧ (State.beginStart s reset).flt = s.flt ∧ (State.beginStart s reset).chans = s.chans ∧ (State.beginStart s reset).rings = s.rings ∧ (State.beginStart s reset).rpl = s.rpl ∧ (State.beginStart s reset).pair = s.pair ∧ (State.beginStart s reset).cells = s.cells ∧ (State.beginStart s reset).storeGen = s.storeGen := by simp [KeepsHost, KeepsUnits, State.beginStart]
theorem State.startSources_frame (s : State) : KeepsHost (State.startSources s) s ∧ KeepsUnits (State.startSources s) s ∧ (State.startSources s).chans = s.chans ∧ (State.startSources s).storeGen = s.storeGen := by simp [State.judgeWear_frame _, State.raiseLive_frame _ _ _, KeepsHost, KeepsUnits, State.startSources]
theorem State.sendAllSafe_frame (s : State) : KeepsHost (State.sendAllSafe s) s ∧ KeepsUnits (State.sendAllSafe s) s ∧ (State.sendAllSafe s).recd = s.recd ∧ (State.sendAllSafe s).wheels = s.wheels ∧ (State.sendAllSafe s).flt = s.flt ∧ (State.sendAllSafe s).chans = s.chans ∧ (State.sendAllSafe s).rpl = s.rpl ∧ (State.sendAllSafe s).pair = s.pair ∧ (State.sendAllSafe s).cells = s.cells ∧ (State.sendAllSafe s).storeGen = s.storeGen := by simp [State.sendSafe_frame _ _, KeepsHost, KeepsUnits, State.sendAllSafe]
theorem State.startCommit_frame (s : State) : KeepsHost (State.startCommit s) s ∧ KeepsUnits (State.startCommit s) s ∧ (State.startCommit s).wheels = s.wheels ∧ (State.startCommit s).flt = s.flt ∧ (State.startCommit s).chans = s.chans ∧ (State.startCommit s).rings = s.rings ∧ (State.startCommit s).rpl = s.rpl ∧ (State.startCommit s).pair = s.pair ∧ (State.startCommit s).cells = s.cells ∧ (State.startCommit s).storeGen = s.storeGen := by simp [KeepsHost, KeepsUnits, State.startCommit]
theorem State.stopPair_frame (s : State) : KeepsHost (State.stopPair s) s ∧ KeepsUnits (State.stopPair s) s ∧ (State.stopPair s).recd = s.recd ∧ (State.stopPair s).wheels = s.wheels ∧ (State.stopPair s).flt = s.flt ∧ (State.stopPair s).chans = s.chans ∧ (State.stopPair s).rings = s.rings ∧ (State.stopPair s).rpl = s.rpl ∧ (State.stopPair s).cells = s.cells ∧ (State.stopPair s).storeGen = s.storeGen := by simp [KeepsHost, KeepsUnits, State.stopPair]
theorem State.leaveReset_frame (s : State) (tmode : Bool) (vhPor : Bool) : KeepsUnits (State.leaveReset s tmode vhPor) s ∧ (State.leaveReset s tmode vhPor).pending = s.pending ∧ (State.leaveReset s tmode vhPor).clock = s.clock ∧ (State.leaveReset s tmode vhPor).vio = s.vio ∧ (State.leaveReset s tmode vhPor).tickets = s.tickets ∧ (State.leaveReset s tmode vhPor).readyCount = s.readyCount ∧ (State.leaveReset s tmode vhPor).ports = s.ports ∧ (State.leaveReset s tmode vhPor).shadows = s.shadows ∧ (State.leaveReset s tmode vhPor).recd = s.recd ∧ (State.leaveReset s tmode vhPor).wheels = s.wheels ∧ (State.leaveReset s tmode vhPor).flt = s.flt ∧ (State.leaveReset s tmode vhPor).chans = s.chans ∧ (State.leaveReset s tmode vhPor).rings = s.rings ∧ (State.leaveReset s tmode vhPor).rpl = s.rpl ∧ (State.leaveReset s tmode vhPor).pair = s.pair ∧ (State.leaveReset s tmode vhPor).cells = s.cells ∧ (State.leaveReset s tmode vhPor).storeGen = s.storeGen := by simp [State.beginStart_frame _ _, KeepsHost, KeepsUnits, State.leaveReset]
/-! ## Step -/
theorem State.withFetchWord_frame (s : State) (nbits : Nat) (w : Nat) : KeepsUnits (State.withFetchWord s nbits w) s ∧ (State.withFetchWord s nbits w).clock = s.clock ∧ (State.withFetchWord s nbits w).vio = s.vio ∧ (State.withFetchWord s nbits w).phase = s.phase ∧ (State.withFetchWord s nbits w).time = s.time ∧ (State.withFetchWord s nbits w).tickets = s.tickets ∧ (State.withFetchWord s nbits w).readyCount = s.readyCount ∧ (State.withFetchWord s nbits w).ports = s.ports ∧ (State.withFetchWord s nbits w).shadows = s.shadows ∧ (State.withFetchWord s nbits w).recd = s.recd ∧ (State.withFetchWord s nbits w).wheels = s.wheels ∧ (State.withFetchWord s nbits w).flt = s.flt ∧ (State.withFetchWord s nbits w).chans = s.chans ∧ (State.withFetchWord s nbits w).rings = s.rings ∧ (State.withFetchWord s nbits w).rpl = s.rpl ∧ (State.withFetchWord s nbits w).pair = s.pair ∧ (State.withFetchWord s nbits w).cells = s.cells ∧ (State.withFetchWord s nbits w).storeGen = s.storeGen := by
  unfold State.withFetchWord; (repeat' split) <;> simp [KeepsHost, KeepsUnits]

end Sys2Proof.Machine
end

