-- ==== Sys2Proof/Laws/CellsKept.lean ====
section
/-! SUPPORT. Every operation that reaches the cellar store keeps its canonical form. -/

namespace Sys2Proof.Machine

@[simp] theorem wf_ite (c : Prop) [Decidable c] (a b : List Host.Cell) : Memory.wf (if c then a else b) = if c then Memory.wf a else Memory.wf b := by
  split <;> rfl

@[simp] theorem forEach_wf {α : Type} (xs : List α) (f : α → State → State) (he : ∀ x t, Memory.wf t.cells = true → Memory.wf (f x t).cells = true)
    (s : State) (h : Memory.wf s.cells = true) : Memory.wf (forEach xs f s).cells = true := by
  induction xs generalizing s with
  | nil => exact h
  | cons x xs ih => exact ih _ (he x s h)

@[simp] theorem foldl_wf {α : Type} (xs : List α) (f : State → α → State) (he : ∀ t x, Memory.wf t.cells = true → Memory.wf (f t x).cells = true)
    (s : State) (h : Memory.wf s.cells = true) : Memory.wf (xs.foldl f s).cells = true := by
  induction xs generalizing s with
  | nil => exact h
  | cons x xs ih => exact ih _ (he s x h)

@[simp] theorem whenDo_wf (c : Bool) (f : State → State) (s : State) (h : Memory.wf s.cells = true)
    (he : c = true → Memory.wf (f s).cells = true) : Memory.wf (whenDo c f s).cells = true := by
  cases c with
  | false => exact h
  | true => exact he rfl

@[simp] theorem closeOpen_wf (n : Nat) (m : Memory) (o : Nat) (hm : Memory.wf m = true) : Memory.wf (closeOpen n m o) = true := by
  induction n generalizing m o with
  | zero => exact hm
  | succ n ih => unfold closeOpen; (repeat' split) <;> simp [hm, ih]

@[simp] theorem guarded_wf (s : State) (cs : List (Option Reply)) (act : State × Reply) (h : Memory.wf s.cells = true)
    (he : Memory.wf act.1.cells = true) : Memory.wf (guarded s cs act).1.cells = true := by
  unfold guarded; split <;> simp [h, he]

@[simp] theorem State.appendJournal_wf (s : State) (code : Nat) (origin : Origin) (p1 p2 : Word)  (hm : Memory.wf s.cells = true) : Memory.wf (State.appendJournal s code origin p1 p2).cells = true := by simp (maxDischargeDepth := 20) (contextual := true) [State.appendJournal, hm]

@[simp] theorem State.writeHeader_wf (s : State) (c : Capture) (closed : Bool)  (hm : Memory.wf s.cells = true) : Memory.wf (State.writeHeader s c closed).cells = true := by simp (maxDischargeDepth := 20) (contextual := true) [State.writeHeader, hm]

@[simp] theorem State.endCapture_wf (s : State) (flags : Byte)  (hm : Memory.wf s.cells = true) : Memory.wf (State.endCapture s flags).cells = true := by
  unfold State.endCapture; (repeat' split) <;> simp (maxDischargeDepth := 20) (contextual := true) [hm]

@[simp] theorem State.storeFrame_wf (s : State) (f : Frame)  (hm : Memory.wf s.cells = true) : Memory.wf (State.storeFrame s f).cells = true := by
  unfold State.storeFrame; (repeat' split) <;> simp (maxDischargeDepth := 20) (contextual := true) [hm]

@[simp] theorem State.startCapture_wf (s : State) (src k : Nat) (seq : Word) (origin : Origin) (step : Nat)  (hm : Memory.wf s.cells = true) : Memory.wf (State.startCapture s src k seq origin step).cells = true := by simp (maxDischargeDepth := 20) (contextual := true) [State.startCapture, hm]

@[simp] theorem State.trigger_wf (s : State) (src k : Nat) (seq : Word) (origin : Origin) (step : Nat)  (hm : Memory.wf s.cells = true) : Memory.wf (State.trigger s src k seq origin step).cells = true := by
  unfold State.trigger; (repeat' split) <;> simp (maxDischargeDepth := 20) (contextual := true) [hm]

@[simp] theorem State.faultTrigger_wf (s : State) (k : Nat) (cls : Nat) (inj : Bool) (e : Staged) (hm : Memory.wf s.cells = true) : Memory.wf (State.faultTrigger s k cls inj e).cells = true := by simp (maxDischargeDepth := 20) (contextual := true) [State.faultTrigger, hm]

@[simp] theorem State.numberCapture_wf (s : State) (at_ : Nat) (seq : Word) (hm : Memory.wf s.cells = true) : Memory.wf (State.numberCapture s at_ seq).cells = true := by
  unfold State.numberCapture; (repeat' split) <;> simp (maxDischargeDepth := 20) (contextual := true) [hm]

@[simp] theorem State.raiseCore_wf (s : State) (r : Raising) (tick : Nat) (hm : Memory.wf s.cells = true) : Memory.wf (State.raiseCore s r tick).cells = true := by simp (maxDischargeDepth := 20) (contextual := true) [State.raiseCore, hm]

@[simp] theorem State.checkLoss_wf (before s : State)  (hm : Memory.wf s.cells = true) : Memory.wf (State.checkLoss before s).cells = true := by simp (maxDischargeDepth := 20) (contextual := true) [State.checkLoss, hm]

@[simp] theorem State.raiseAt_wf (s : State) (r : Raising) (tick : Nat) (hm : Memory.wf s.cells = true) : Memory.wf (State.raiseAt s r tick).cells = true := by simp (maxDischargeDepth := 20) (contextual := true) [State.raiseAt, hm]

@[simp] theorem State.raise_wf (s : State) (r : Raising)  (hm : Memory.wf s.cells = true) : Memory.wf (State.raise s r).cells = true := by simp (maxDischargeDepth := 20) (contextual := true) [State.raise, hm]

@[simp] theorem State.raiseHost_wf (s : State) (h : Fin 31)  (hm : Memory.wf s.cells = true) : Memory.wf (State.raiseHost s h).cells = true := by simp (maxDischargeDepth := 20) (contextual := true) [State.raiseHost, hm]

@[simp] theorem State.raiseLive_wf (s : State) (k : Fin 256) (p2 : Word)  (hm : Memory.wf s.cells = true) : Memory.wf (State.raiseLive s k p2).cells = true := by
  unfold State.raiseLive; (repeat' split) <;> simp (maxDischargeDepth := 20) (contextual := true) [hm]

@[simp] theorem State.clearCauseAt_wf (s : State) (k : Fin 256) (m : Nat) (inj : Bool) (tick : Nat) (late : Bool) (hm : Memory.wf s.cells = true) : Memory.wf (State.clearCauseAt s k m inj tick late).cells = true := by simp (maxDischargeDepth := 20) (contextual := true) [State.clearCauseAt, hm]

@[simp] theorem State.clearCause_wf (s : State) (k : Fin 256) (m : Nat) (inj : Bool)  (hm : Memory.wf s.cells = true) : Memory.wf (State.clearCause s k m inj).cells = true := by simp (maxDischargeDepth := 20) (contextual := true) [State.clearCause, hm]

@[simp] theorem State.clearLive_wf (s : State) (k : Fin 256)  (hm : Memory.wf s.cells = true) : Memory.wf (State.clearLive s k).cells = true := by simp (maxDischargeDepth := 20) (contextual := true) [State.clearLive, hm]

@[simp] theorem State.follow_wf (s : State) (k : Fin 256) (live : Bool)  (hm : Memory.wf s.cells = true) : Memory.wf (State.follow s k live).cells = true := by simp (maxDischargeDepth := 20) (contextual := true) [State.follow, hm]

@[simp] theorem State.settleLoss_wf (s : State)  (hm : Memory.wf s.cells = true) : Memory.wf (State.settleLoss s).cells = true := by simp (maxDischargeDepth := 20) (contextual := true) [State.settleLoss, hm]

@[simp] theorem State.fallBehind_wf (s : State) (t : Fin 8)  (hm : Memory.wf s.cells = true) : Memory.wf (State.fallBehind s t).cells = true := by simp (maxDischargeDepth := 20) (contextual := true) [State.fallBehind, hm]

@[simp] theorem State.caughtUp_wf (s : State) (t : Fin 8)  (hm : Memory.wf s.cells = true) : Memory.wf (State.caughtUp s t).cells = true := by simp (maxDischargeDepth := 20) (contextual := true) [State.caughtUp, hm]

@[simp] theorem State.judgeWear_wf (s : State)  (hm : Memory.wf s.cells = true) : Memory.wf (State.judgeWear s).cells = true := by simp (maxDischargeDepth := 20) (contextual := true) [State.judgeWear, hm]

@[simp] theorem State.setWear_wf (s : State) (w : Wear) (hm : Memory.wf s.cells = true) : Memory.wf (State.setWear s w).cells = true := by
  unfold State.setWear; dsimp only; (repeat' split) <;> simp (maxDischargeDepth := 20) (contextual := true) [hm]

@[simp] theorem State.eraseSectors_wf (s : State) (lo n : Nat) (hm : Memory.wf s.cells = true) : Memory.wf (State.eraseSectors s lo n).cells = true := by simp (maxDischargeDepth := 20) (contextual := true) [State.eraseSectors, hm]

@[simp] theorem State.toWheels_wf (s : State) (n : Fin 16) (kind flags tick : Nat) (value : Word)  (hm : Memory.wf s.cells = true) : Memory.wf (State.toWheels s n kind flags tick value).cells = true := by simp (maxDischargeDepth := 20) (contextual := true) [State.toWheels, hm]

@[simp] theorem State.journal_wf (s : State) (code : Nat) (origin : Origin) (p1 p2 : Word)  (hm : Memory.wf s.cells = true) : Memory.wf (State.journal s code origin p1 p2).cells = true := by simp (maxDischargeDepth := 20) (contextual := true) [State.journal, hm]

@[simp] theorem State.cutErase_wf (s : State) (base n : Nat) (old : Memory) (hm : Memory.wf s.cells = true) : Memory.wf (State.cutErase s base n old).cells = true := by
  unfold State.cutErase; dsimp only; split <;> simp (maxDischargeDepth := 20) (contextual := true) [State.free_frame _, hm]

@[simp] theorem State.appendLog_wf (s : State) (n : Nat) (hm : Memory.wf s.cells = true) : Memory.wf (State.appendLog s n).cells = true := by
  unfold State.appendLog; dsimp only; (repeat' split) <;> simp (maxDischargeDepth := 20) (contextual := true) [hm]

@[simp] theorem State.eraseRecords_wf (s : State) (lo n : Nat) (hm : Memory.wf s.cells = true) : Memory.wf (State.eraseRecords s lo n).cells = true := by simp (maxDischargeDepth := 20) (contextual := true) [State.eraseRecords, hm]

@[simp] theorem State.programOldest_wf (s : State) (hm : Memory.wf s.cells = true) : Memory.wf (State.programOldest s).cells = true := by
  unfold State.programOldest; dsimp only; (repeat' split) <;> simp (maxDischargeDepth := 20) (contextual := true) [hm]

@[simp] theorem State.recordWritten_wf (s : State)  (hm : Memory.wf s.cells = true) : Memory.wf (State.recordWritten s).cells = true := by simp (maxDischargeDepth := 20) (contextual := true) [State.programOldest_frame _, State.raiseLive_frame _ _ _, State.recordWritten, hm]

@[simp] theorem State.linkDiscard_wf (s : State) (x : RingId)  (hm : Memory.wf s.cells = true) : Memory.wf (State.linkDiscard s x).cells = true := by simp (maxDischargeDepth := 20) (contextual := true) [State.linkDiscard, hm]

@[simp] theorem State.ringDiscard_wf (s : State) (x : RingId)  (hm : Memory.wf s.cells = true) : Memory.wf (State.ringDiscard s x).cells = true := by simp (maxDischargeDepth := 20) (contextual := true) [State.ringDiscard, hm]

@[simp] theorem State.lostReports_wf (s : State) (x : RingId) (n : Nat) (hm : Memory.wf s.cells = true) : Memory.wf (State.lostReports s x n).cells = true := by simp (maxDischargeDepth := 20) (contextual := true) [State.lostReports, hm]

@[simp] theorem State.ringReport_wf (s : State) (x : RingId) (k : Fin 256) (m : Nat) (raise : Bool) (detail : Word)  (hm : Memory.wf s.cells = true) : Memory.wf (State.ringReport s x k m raise detail).cells = true := by simp (maxDischargeDepth := 20) (contextual := true) [State.ringReport, hm]

@[simp] theorem State.diagRaise_wf (s : State) (n : Fin 16) (m : Nat) (detail : Word)  (hm : Memory.wf s.cells = true) : Memory.wf (State.diagRaise s n m detail).cells = true := by simp (maxDischargeDepth := 20) (contextual := true) [State.diagRaise, hm]

@[simp] theorem State.diagClear_wf (s : State) (n : Fin 16) (m : Nat)  (hm : Memory.wf s.cells = true) : Memory.wf (State.diagClear s n m).cells = true := by simp (maxDischargeDepth := 20) (contextual := true) [State.diagClear, hm]

@[simp] theorem State.diagFollow_wf (s : State) (n : Fin 16) (m : Nat) (live : Bool)  (hm : Memory.wf s.cells = true) : Memory.wf (State.diagFollow s n m live).cells = true := by simp (maxDischargeDepth := 20) (contextual := true) [State.diagFollow, hm]

@[simp] theorem State.diagClearAll_wf (s : State) (n : Fin 16) (ms : List Nat)  (hm : Memory.wf s.cells = true) : Memory.wf (State.diagClearAll s n ms).cells = true := by simp (maxDischargeDepth := 20) (contextual := true) [State.diagClearAll, hm]

@[simp] theorem State.latchSet_wf (s : State) (n : Fin 16) (causes : BitVec 16)  (hm : Memory.wf s.cells = true) : Memory.wf (State.latchSet s n causes).cells = true := by simp (maxDischargeDepth := 20) (contextual := true) [State.latchSet, hm]

@[simp] theorem State.setCause_wf (s : State) (n : Fin 16) (causes : BitVec 16)  (hm : Memory.wf s.cells = true) : Memory.wf (State.setCause s n causes).cells = true := by
  unfold State.setCause; (repeat' split) <;> simp (maxDischargeDepth := 20) (contextual := true) [hm]

@[simp] theorem State.setCauseRing_wf (s : State) (x : RingId) (causes : BitVec 16)  (hm : Memory.wf s.cells = true) : Memory.wf (State.setCauseRing s x causes).cells = true := by simp (maxDischargeDepth := 20) (contextual := true) [State.setCauseRing, hm]

@[simp] theorem State.applyGuard_wf (s : State) (n : Fin 16)  (hm : Memory.wf s.cells = true) : Memory.wf (State.applyGuard s n).cells = true := by simp (maxDischargeDepth := 20) (contextual := true) [State.applyGuard, hm]

@[simp] theorem State.applyGuards_wf (s : State) (x : RingId)  (hm : Memory.wf s.cells = true) : Memory.wf (State.applyGuards s x).cells = true := by simp (maxDischargeDepth := 20) (contextual := true) [State.applyGuards, hm]

@[simp] theorem State.resetGuard_wf (s : State) (n : Fin 16)  (hm : Memory.wf s.cells = true) : Memory.wf (State.resetGuard s n).cells = true := by simp (maxDischargeDepth := 20) (contextual := true) [State.resetGuard, hm]

@[simp] theorem State.resetGuards_wf (s : State) (x : RingId)  (hm : Memory.wf s.cells = true) : Memory.wf (State.resetGuards s x).cells = true := by simp (maxDischargeDepth := 20) (contextual := true) [State.resetGuards, hm]

@[simp] theorem State.unlatch_wf (s : State) (n : Fin 16) (cause : Nat)  (hm : Memory.wf s.cells = true) : Memory.wf (State.unlatch s n cause).cells = true := by simp (maxDischargeDepth := 20) (contextual := true) [State.unlatch, hm]

@[simp] theorem State.clearAtOnce_wf (s : State) (n : Fin 16) (causes : BitVec 16) (cause : Nat)  (hm : Memory.wf s.cells = true) : Memory.wf (State.clearAtOnce s n causes cause).cells = true := by
  unfold State.clearAtOnce; (repeat' split) <;> simp (maxDischargeDepth := 20) (contextual := true) [hm]

@[simp] theorem State.rearmGuard_wf (s : State) (n : Fin 16)  (hm : Memory.wf s.cells = true) : Memory.wf (State.rearmGuard s n).cells = true := by
  unfold State.rearmGuard; (repeat' split) <;> simp (maxDischargeDepth := 20) (contextual := true) [hm]

@[simp] theorem State.change_wf (s : State) (origin : Origin) (code : Nat) (p1 p2 : Word) (eff : State → State) (he : ∀ t, Memory.wf t.cells = true → Memory.wf (eff t).cells = true) (hm : Memory.wf s.cells = true) : Memory.wf (State.change s origin code p1 p2 eff).1.cells = true := by simp (maxDischargeDepth := 20) (contextual := true) [State.change, hm, he]

@[simp] theorem State.changeWrite_wf (s : State) (origin : Origin) (r : Reg) (w : Word) (eff : State → State) (he : ∀ t, Memory.wf t.cells = true → Memory.wf (eff t).cells = true) (hm : Memory.wf s.cells = true) : Memory.wf (State.changeWrite s origin r w eff).1.cells = true := by simp (maxDischargeDepth := 20) (contextual := true) [State.changeWrite, hm, he]

@[simp] theorem State.chatterEvent_wf (s : State) (n : Fin 16)  (hm : Memory.wf s.cells = true) : Memory.wf (State.chatterEvent s n).cells = true := by simp (maxDischargeDepth := 20) (contextual := true) [State.chatterEvent, hm]

@[simp] theorem State.acceptInput_wf (s : State) (n : Fin 16) (level held : Bool)  (hm : Memory.wf s.cells = true) : Memory.wf (State.acceptInput s n level held).cells = true := by simp (maxDischargeDepth := 20) (contextual := true) [State.acceptInput, hm]

@[simp] theorem State.debounced_wf (s : State) (n : Fin 16) (level : Bool)  (hm : Memory.wf s.cells = true) : Memory.wf (State.debounced s n level).cells = true := by simp (maxDischargeDepth := 20) (contextual := true) [State.debounced, hm]

@[simp] theorem State.beginHold_wf (s : State) (n : Fin 16) (cfg : ChanCfg) (cmd : ChanCmd) (safe : BitVec 3)  (hm : Memory.wf s.cells = true) : Memory.wf (State.beginHold s n cfg cmd safe).cells = true := by simp (maxDischargeDepth := 20) (contextual := true) [State.beginHold, hm]

@[simp] theorem State.trip_wf (s : State) (n : Fin 16) (m : Nat)  (hm : Memory.wf s.cells = true) : Memory.wf (State.trip s n m).cells = true := by simp (maxDischargeDepth := 20) (contextual := true) [State.trip, hm]

@[simp] theorem State.ringDiag_wf (s : State) (x : RingId) (b : Nat) (r : Fin 20) (was live : Bool) (f : Ring → Ring)  (hm : Memory.wf s.cells = true) : Memory.wf (State.ringDiag s x b r was live f).cells = true := by simp (maxDischargeDepth := 20) (contextual := true) [State.ringDiag, hm]

@[simp] theorem State.shed_wf (s : State) (n : Fin 16)  (hm : Memory.wf s.cells = true) : Memory.wf (State.shed s n).cells = true := by simp (maxDischargeDepth := 20) (contextual := true) [State.shed, hm]

@[simp] theorem State.restore_wf (s : State) (x : RingId)  (hm : Memory.wf s.cells = true) : Memory.wf (State.restore s x).cells = true := by
  unfold State.restore; (repeat' split) <;> simp (maxDischargeDepth := 20) (contextual := true) [hm]

@[simp] theorem State.shedTick_wf (s : State) (x : RingId)  (hm : Memory.wf s.cells = true) : Memory.wf (State.shedTick s x).cells = true := by
  unfold State.shedTick; dsimp only; (repeat' split) <;> simp (maxDischargeDepth := 20) (contextual := true) [hm]

@[simp] theorem State.applyCommand_wf (s : State) (n : Fin 16) (f : Chan → Chan)  (hm : Memory.wf s.cells = true) : Memory.wf (State.applyCommand s n f).cells = true := by simp (maxDischargeDepth := 20) (contextual := true) [State.applyCommand, hm]

@[simp] theorem State.judgeCompliance_wf (s : State) (n : Fin 16) (hm : Memory.wf s.cells = true) : Memory.wf (State.judgeCompliance s n).cells = true := by simp (maxDischargeDepth := 20) (contextual := true) [State.judgeCompliance, hm]

@[simp] theorem State.commandCapture_wf (s : State) (origin : Origin) (n : Fin 16) (span : Bool) (v : Int)  (hm : Memory.wf s.cells = true) : Memory.wf (State.commandCapture s origin n span v).1.cells = true := by simp (maxDischargeDepth := 20) (contextual := true) [State.commandCapture, hm]

@[simp] theorem State.takeFsk_wf (s : State) (x : RingId) (w : Word) (tick : Nat) (hm : Memory.wf s.cells = true) : Memory.wf (State.takeFsk s x w tick).cells = true := by simp (maxDischargeDepth := 20) (contextual := true) [State.takeFsk, hm]

@[simp] theorem State.imgWrite_wf (s : State) (origin : Origin) (r : Reg) (w : Word) (checks : List (Option Reply)) (eff : State → State) (he : ∀ t, Memory.wf t.cells = true → Memory.wf (eff t).cells = true) (hm : Memory.wf s.cells = true) : Memory.wf (State.imgWrite s origin r w checks eff).1.cells = true := by simp (maxDischargeDepth := 20) (contextual := true) [State.imgWrite, hm, he]

@[simp] theorem State.fabApply_wf (s : State) (origin : Origin) (w : Word)  (hm : Memory.wf s.cells = true) : Memory.wf (State.fabApply s origin w).1.cells = true := by simp (maxDischargeDepth := 20) (contextual := true) [State.fabApply, hm]

@[simp] theorem State.fabStepcfg_wf (s : State) (origin : Origin) (w : Word)  (hm : Memory.wf s.cells = true) : Memory.wf (State.fabStepcfg s origin w).1.cells = true := by simp (maxDischargeDepth := 20) (contextual := true) [State.fabStepcfg, hm]

@[simp] theorem State.fabWrite_wf (s : State) (origin : Origin) (r : FabReg) (w : Word)  (hm : Memory.wf s.cells = true) : Memory.wf (State.fabWrite s origin r w).1.cells = true := by
  simp only [State.fabWrite]; (repeat' split) <;> simp (maxDischargeDepth := 20) [hm]

@[simp] theorem State.modeEffect_wf (s : State) (n : Fin 16) (w : Word)  (hm : Memory.wf s.cells = true) : Memory.wf (State.modeEffect s n w).cells = true := by simp (maxDischargeDepth := 20) (contextual := true) [State.modeEffect, hm]

@[simp] theorem State.writeMode_wf (s : State) (origin : Origin) (n : Fin 16) (w : Word)  (hm : Memory.wf s.cells = true) : Memory.wf (State.writeMode s origin n w).1.cells = true := by simp (maxDischargeDepth := 20) (contextual := true) [State.writeMode, hm]

@[simp] theorem State.writeParam_wf (s : State) (origin : Origin) (n : Fin 16) (r : ChReg) (w : Word)  (hm : Memory.wf s.cells = true) : Memory.wf (State.writeParam s origin n r w).1.cells = true := by simp (maxDischargeDepth := 20) (contextual := true) [State.writeParam, hm]

@[simp] theorem State.writeCount_wf (s : State) (origin : Origin) (n : Fin 16) (r : ChReg) (w : Word)  (hm : Memory.wf s.cells = true) : Memory.wf (State.writeCount s origin n r w).1.cells = true := by simp (maxDischargeDepth := 20) (contextual := true) [State.writeCount, hm]

@[simp] theorem State.writeCap_wf (s : State) (origin : Origin) (n : Fin 16) (r : ChReg) (w : Word)  (hm : Memory.wf s.cells = true) : Memory.wf (State.writeCap s origin n r w).1.cells = true := by simp (maxDischargeDepth := 20) (contextual := true) [State.writeCap, hm]

@[simp] theorem State.writeZscmd_wf (s : State) (origin : Origin) (n : Fin 16) (w : Word) (hm : Memory.wf s.cells = true) : Memory.wf (State.writeZscmd s origin n w).1.cells = true := by simp (maxDischargeDepth := 20) (contextual := true) [State.writeZscmd, hm]

@[simp] theorem State.writeTrim_wf (s : State) (origin : Origin) (n : Fin 16) (gain : Bool) (w : Word)  (hm : Memory.wf s.cells = true) : Memory.wf (State.writeTrim s origin n gain w).1.cells = true := by simp (maxDischargeDepth := 20) (contextual := true) [State.writeTrim, hm]

@[simp] theorem State.chWrite_wf (s : State) (origin : Origin) (n : Fin 16) (r : ChReg) (w : Word) (hm : Memory.wf s.cells = true) : Memory.wf (State.chWrite s origin n r w).1.cells = true := by
  unfold State.chWrite; (repeat' split) <;> simp (maxDischargeDepth := 20) (contextual := true) [hm]

@[simp] theorem State.chRead_wf (s : State) (n : Fin 16) (r : ChReg)  (hm : Memory.wf s.cells = true) : Memory.wf (State.chRead s n r).2.cells = true := by
  unfold State.chRead; (repeat' split) <;> simp (maxDischargeDepth := 20) (contextual := true) [hm]

@[simp] theorem State.writePwrcfg_wf (s : State) (origin : Origin) (x : RingId) (w : Word)  (hm : Memory.wf s.cells = true) : Memory.wf (State.writePwrcfg s origin x w).1.cells = true := by simp (maxDischargeDepth := 20) (contextual := true) [State.writePwrcfg, hm]

@[simp] theorem State.writeLoadcfg_wf (s : State) (origin : Origin) (x : RingId) (w : Word)  (hm : Memory.wf s.cells = true) : Memory.wf (State.writeLoadcfg s origin x w).1.cells = true := by simp (maxDischargeDepth := 20) (contextual := true) [State.writeLoadcfg, hm]

@[simp] theorem State.writeFskCfg_wf (s : State) (origin : Origin) (x : RingId) (w : Word)  (hm : Memory.wf s.cells = true) : Memory.wf (State.writeFskCfg s origin x w).1.cells = true := by simp (maxDischargeDepth := 20) (contextual := true) [State.writeFskCfg, hm]

@[simp] theorem State.ringWrite_wf (s : State) (origin : Origin) (x : RingId) (r : RingReg) (w : Word)  (hm : Memory.wf s.cells = true) : Memory.wf (State.ringWrite s origin x r w).1.cells = true := by
  unfold State.ringWrite; (repeat' split) <;> simp (maxDischargeDepth := 20) (contextual := true) [hm]

@[simp] theorem State.judgeElectrode_wf (s : State) (n : Fin 16) (c : Nat) (failed : Bool) (hm : Memory.wf s.cells = true) : Memory.wf (State.judgeElectrode s n c failed).1.cells = true := by
  simp only [State.judgeElectrode, ite_cells, State.modChan_cells, State.diagFollow_cells, State.diagClear_cells, State.guardedDetect_cells, ite_self, hm]

@[simp] theorem State.plugDiag_wf (s : State) (n : Fin 16) (old : Nat) (new : Nat) (kind : Nat) (cnt : Nat) (hm : Memory.wf s.cells = true) : Memory.wf (State.plugDiag s n old new kind cnt).cells = true := by simp (maxDischargeDepth := 20) (contextual := true) [State.plugDiag, hm]

@[simp] theorem State.chainOutput_wf (s : State) (n : Fin 16) (rate : Nat)  (hm : Memory.wf s.cells = true) : Memory.wf (State.chainOutput s n rate).cells = true := by
  unfold State.chainOutput; dsimp only; (repeat' split) <;> simp (maxDischargeDepth := 20) (contextual := true) [hm]

@[simp] theorem State.feedChain_wf (s : State) (n : Fin 16) (rate : Nat) (v : Option Int) (fl : Nat)  (hm : Memory.wf s.cells = true) : Memory.wf (State.feedChain s n rate v fl).cells = true := by simp (maxDischargeDepth := 20) (contextual := true) [State.feedChain, hm]

@[simp] theorem State.settleResid_wf (s : State) (hm : Memory.wf s.cells = true) : Memory.wf (State.settleResid s).cells = true := by simp (maxDischargeDepth := 20) (contextual := true) [State.settleResid, hm]

@[simp] theorem State.writeChainCfg_wf (s : State) (origin : Origin) (n : Fin 16) (w : Word)  (hm : Memory.wf s.cells = true) : Memory.wf (State.writeChainCfg s origin n w).1.cells = true := by simp (maxDischargeDepth := 20) (contextual := true) [State.writeChainCfg, hm]

@[simp] theorem State.writeThreshold_wf (s : State) (origin : Origin) (n : Fin 16) (r : FiltChReg) (w : Word)  (hm : Memory.wf s.cells = true) : Memory.wf (State.writeThreshold s origin n r w).1.cells = true := by simp (maxDischargeDepth := 20) (contextual := true) [State.writeThreshold, hm]

@[simp] theorem State.filtChWrite_wf (s : State) (origin : Origin) (n : Fin 16) (r : FiltChReg) (w : Word)  (hm : Memory.wf s.cells = true) : Memory.wf (State.filtChWrite s origin n r w).1.cells = true := by
  unfold State.filtChWrite; (repeat' split) <;> simp (maxDischargeDepth := 20) (contextual := true) [hm]

@[simp] theorem State.writeFiltCfg_wf (s : State) (origin : Origin) (w : Word)  (hm : Memory.wf s.cells = true) : Memory.wf (State.writeFiltCfg s origin w).1.cells = true := by simp (maxDischargeDepth := 20) (contextual := true) [State.writeFiltCfg, hm]

@[simp] theorem State.filtWrite_wf (s : State) (origin : Origin) (r : FiltReg) (w : Word)  (hm : Memory.wf s.cells = true) : Memory.wf (State.filtWrite s origin r w).1.cells = true := by
  unfold State.filtWrite; (repeat' split) <;> simp (maxDischargeDepth := 20) (contextual := true) [hm]

@[simp] theorem State.adcRaise_wf (s : State) (x : RingId) (b : Nat) (r : Fin 20)  (hm : Memory.wf s.cells = true) : Memory.wf (State.adcRaise s x b r).cells = true := by simp (maxDischargeDepth := 20) (contextual := true) [State.adcRaise, hm]

@[simp] theorem State.arrive_wf (s : State) (x : RingId) (i : Fin 64) (n : Fin 16) (code : Option (BitVec 12)) (fl : Nat)  (hm : Memory.wf s.cells = true) : Memory.wf (State.arrive s x i n code fl).cells = true := by
  unfold State.arrive; (repeat' split) <;> simp (maxDischargeDepth := 20) (contextual := true) [hm]

@[simp] theorem State.filtOverrun_wf (s : State) (x : RingId)  (hm : Memory.wf s.cells = true) : Memory.wf (State.filtOverrun s x).cells = true := by simp (maxDischargeDepth := 20) (contextual := true) [State.filtOverrun, hm]

@[simp] theorem State.failSlice_wf (s : State) (x : RingId) (k : Fin 5)  (hm : Memory.wf s.cells = true) : Memory.wf (State.failSlice s x k).cells = true := by simp (maxDischargeDepth := 20) (contextual := true) [State.failSlice, hm]

@[simp] theorem State.judgeResid_wf (s : State)  (hm : Memory.wf s.cells = true) : Memory.wf (State.judgeResid s).cells = true := by simp (maxDischargeDepth := 20) (contextual := true) [State.judgeResid, hm]

@[simp] theorem State.settlePositions_wf (s : State) (x : RingId)  (hm : Memory.wf s.cells = true) : Memory.wf (State.settlePositions s x).cells = true := by simp (maxDischargeDepth := 20) (contextual := true) [State.settlePositions, hm]

@[simp] theorem State.writeEntry_wf (s : State) (origin : Origin) (x : RingId) (i : Fin 64) (w : Word)  (hm : Memory.wf s.cells = true) : Memory.wf (State.writeEntry s origin x i w).1.cells = true := by simp (maxDischargeDepth := 20) (contextual := true) [State.writeEntry, hm]

@[simp] theorem State.adcWrite_wf (s : State) (origin : Origin) (x : RingId) (r : AdcReg) (w : Word)  (hm : Memory.wf s.cells = true) : Memory.wf (State.adcWrite s origin x r w).1.cells = true := by
  unfold State.adcWrite; (repeat' split) <;> simp (maxDischargeDepth := 20) (contextual := true) [hm]

@[simp] theorem State.popWheel_wf (s : State) (w : Fin 64) (n : Nat) (bad : Nat) (hm : Memory.wf s.cells = true) : Memory.wf (State.popWheel s w n bad).1.cells = true := by simp (maxDischargeDepth := 20) (contextual := true) [State.popWheel, hm]

@[simp] theorem State.writeIrqcfg_wf (s : State) (origin : Origin) (w : Fin 64) (v : Word)  (hm : Memory.wf s.cells = true) : Memory.wf (State.writeIrqcfg s origin w v).1.cells = true := by simp (maxDischargeDepth := 20) (contextual := true) [State.writeIrqcfg, hm]

@[simp] theorem State.writeProd_wf (s : State) (origin : Origin) (w : Fin 64) (v : Word)  (hm : Memory.wf s.cells = true) : Memory.wf (State.writeProd s origin w v).1.cells = true := by simp (maxDischargeDepth := 20) (contextual := true) [State.writeProd, hm]

@[simp] theorem State.whlWrite_wf (s : State) (origin : Origin) (w : Fin 64) (r : WhlReg) (v : Word)  (hm : Memory.wf s.cells = true) : Memory.wf (State.whlWrite s origin w r v).1.cells = true := by
  cases r with
  | evt => exact guarded_wf _ _ _ hm (by simp only [State.statusClear]; split <;> simp [hm])
  | _ => simp (maxDischargeDepth := 20) (contextual := true) [State.whlWrite, hm]

@[simp] theorem State.activateWheels_wf (s : State) (old new : List (List Byte))  (hm : Memory.wf s.cells = true) : Memory.wf (State.activateWheels s old new).cells = true := by simp (maxDischargeDepth := 20) (contextual := true) [State.activateWheels, hm]

@[simp] theorem State.writeWdCfg_wf (s : State) (origin : Origin) (w : Word)  (hm : Memory.wf s.cells = true) : Memory.wf (State.writeWdCfg s origin w).1.cells = true := by simp (maxDischargeDepth := 20) (contextual := true) [State.writeWdCfg, hm]

@[simp] theorem State.wdRearm_wf (s : State) (origin : Origin) (w : Word)  (hm : Memory.wf s.cells = true) : Memory.wf (State.wdRearm s origin w).1.cells = true := by simp (maxDischargeDepth := 20) (contextual := true) [State.wdRearm, hm]

@[simp] theorem State.inject_wf (s : State) (k : Fin 256) (m op : Nat)  (hm : Memory.wf s.cells = true) : Memory.wf (State.inject s k m op).cells = true := by
  unfold State.inject; (repeat' split) <;> simp (maxDischargeDepth := 20) (contextual := true) [hm]

@[simp] theorem State.writeInj_wf (s : State) (origin : Origin) (w : Word)  (hm : Memory.wf s.cells = true) : Memory.wf (State.writeInj s origin w).1.cells = true := by simp (maxDischargeDepth := 20) (contextual := true) [State.writeInj, hm]

@[simp] theorem State.clearInjected_wf (s : State) (origin : Origin)  (hm : Memory.wf s.cells = true) : Memory.wf (State.clearInjected s origin).cells = true := by simp (maxDischargeDepth := 20) (contextual := true) [State.clearInjected, hm]

@[simp] theorem State.writeInjcfg_wf (s : State) (origin : Origin) (w : Word)  (hm : Memory.wf s.cells = true) : Memory.wf (State.writeInjcfg s origin w).1.cells = true := by simp (maxDischargeDepth := 20) (contextual := true) [State.writeInjcfg, hm]

@[simp] theorem State.writeReact_wf (s : State) (origin : Origin) (k : Fin 256) (w : Word)  (hm : Memory.wf s.cells = true) : Memory.wf (State.writeReact s origin k w).1.cells = true := by simp (maxDischargeDepth := 20) (contextual := true) [State.writeReact, hm]

@[simp] theorem State.writeChsafe_wf (s : State) (origin : Origin) (n : Fin 16) (w : Word)  (hm : Memory.wf s.cells = true) : Memory.wf (State.writeChsafe s origin n w).1.cells = true := by simp (maxDischargeDepth := 20) (contextual := true) [State.writeChsafe, hm]

@[simp] theorem State.fltWrite_wf (s : State) (port : PortId) (origin : Origin) (r : FltReg) (w : Word)  (hm : Memory.wf s.cells = true) : Memory.wf (State.fltWrite s port origin r w).1.cells = true := by
  unfold State.fltWrite; dsimp only; (repeat' split) <;> simp (maxDischargeDepth := 20) (contextual := true) [hm]

@[simp] theorem State.flushStaged_wf (n : Nat) (s : State) (h : Memory.wf s.cells = true) : Memory.wf (State.flushStaged n s).cells = true := by
  induction n generalizing s with
  | zero => exact h
  | succ n ih =>
    simp only [State.flushStaged]
    split
    · exact h
    · exact ih _ (State.recordWritten_wf s h)

@[simp] theorem State.commitCounts_wf (s : State)  (hm : Memory.wf s.cells = true) : Memory.wf (State.commitCounts s).cells = true := by simp (maxDischargeDepth := 20) (contextual := true) [State.commitCounts, hm]

@[simp] theorem State.periodicCommit_wf (s : State)  (hm : Memory.wf s.cells = true) : Memory.wf (State.periodicCommit s).cells = true := by simp (maxDischargeDepth := 20) (contextual := true) [State.periodicCommit, hm]

@[simp] theorem State.powerCommit_wf (s : State)  (hm : Memory.wf s.cells = true) : Memory.wf (State.powerCommit s).cells = true := by simp (maxDischargeDepth := 20) (contextual := true) [State.powerCommit, hm]

@[simp] theorem State.recClear_wf (s : State) (origin : Origin) (upto : Word)  (hm : Memory.wf s.cells = true) : Memory.wf (State.recClear s origin upto).1.cells = true := by simp (maxDischargeDepth := 20) (contextual := true) [State.recClear, hm]

@[simp] theorem State.jnlClear_wf (s : State) (origin : Origin) (upto : Word)  (hm : Memory.wf s.cells = true) : Memory.wf (State.jnlClear s origin upto).1.cells = true := by simp (maxDischargeDepth := 20) (contextual := true) [State.jnlClear, hm]

@[simp] theorem State.writeCursor_wf (s : State) (origin : Origin) (journal : Bool) (w : Word) (obs : Option Int) (hm : Memory.wf s.cells = true) : Memory.wf (State.writeCursor s origin journal w obs).cells = true := by simp (maxDischargeDepth := 20) (contextual := true) [State.writeCursor, hm]

@[simp] theorem State.recWrite_wf (s : State) (origin : Origin) (r : RecReg) (w : Word) (obs : Option Int) (hm : Memory.wf s.cells = true) : Memory.wf (State.recWrite s origin r w obs).1.cells = true := by simp (maxDischargeDepth := 20) (contextual := true) [State.recWrite, hm]

@[simp] theorem State.recRead_wf (s : State) (origin : Origin) (r : RecReg)  (hm : Memory.wf s.cells = true) : Memory.wf (State.recRead s origin r).2.cells = true := by
  unfold State.recRead; dsimp only; (repeat' split) <;> first | exact hm | simp [hm]

@[simp] theorem State.openSession_wf (s : State) (origin : Origin)  (hm : Memory.wf s.cells = true) : Memory.wf (State.openSession s origin).cells = true := by simp (maxDischargeDepth := 20) (contextual := true) [State.openSession, hm]

@[simp] theorem State.noSlot_wf (s : State) (code : Nat)  (hm : Memory.wf s.cells = true) : Memory.wf (State.noSlot s code).cells = true := by simp (maxDischargeDepth := 20) (contextual := true) [State.noSlot, hm]

@[simp] theorem State.abortSession_wf (s : State) (origin : Origin)  (hm : Memory.wf s.cells = true) : Memory.wf (State.abortSession s origin).cells = true := by simp (maxDischargeDepth := 20) (contextual := true) [State.abortSession, hm]

@[simp] theorem State.imgCtrl_wf (s : State) (origin : Origin) (w : Word)  (hm : Memory.wf s.cells = true) : Memory.wf (State.imgCtrl s origin w).1.cells = true := by
  unfold State.imgCtrl; dsimp only; (repeat' split) <;> simp (maxDischargeDepth := 20) (contextual := true) [hm]

@[simp] theorem State.slotSectorFails_wf (s : State) (k : Nat) (hm : Memory.wf s.cells = true) : Memory.wf (State.slotSectorFails s k).cells = true := by simp (maxDischargeDepth := 20) (contextual := true) [State.slotSectorFails, hm]

@[simp] theorem State.imgWdata_wf (s : State) (w : Word) (fails : Bool)  (hm : Memory.wf s.cells = true) : Memory.wf (State.imgWdata s w fails).1.cells = true := by simp (maxDischargeDepth := 20) (contextual := true) [State.imgWdata, hm]

@[simp] theorem State.tryFallback_wf (s : State)  (hm : Memory.wf s.cells = true) : Memory.wf (State.tryFallback s).cells = true := by simp (maxDischargeDepth := 20) (contextual := true) [State.tryFallback, hm]

@[simp] theorem State.takeFallback_wf (s : State) (i : Image)  (hm : Memory.wf s.cells = true) : Memory.wf (State.takeFallback s i).cells = true := by simp (maxDischargeDepth := 20) (contextual := true) [State.takeFallback, hm]

@[simp] theorem State.loaderStart_wf (s : State) (cut : Bool)  (hm : Memory.wf s.cells = true) : Memory.wf (State.loaderStart s cut).cells = true := by
  unfold State.loaderStart; (repeat' split) <;> simp (maxDischargeDepth := 20) (contextual := true) [hm]

@[simp] theorem State.imgRegWrite_wf (s : State) (origin : Origin) (r : ImgReg) (w : Word) (obs : Option Int)  (hm : Memory.wf s.cells = true) : Memory.wf (State.imgRegWrite s origin r w obs).1.cells = true := by
  unfold State.imgRegWrite; (repeat' split) <;> simp (maxDischargeDepth := 20) (contextual := true) [hm]

@[simp] theorem State.frameStep_wf (s : State) (pre : FabState) (late : Bool)  (hm : Memory.wf s.cells = true) : Memory.wf (State.frameStep s pre late).cells = true := by simp (maxDischargeDepth := 20) (contextual := true) [State.frameStep, hm]

@[simp] theorem State.captureStep_wf (s : State) (pre : FabState) (late : Bool)  (hm : Memory.wf s.cells = true) : Memory.wf (State.captureStep s pre late).cells = true := by simp (maxDischargeDepth := 20) (contextual := true) [State.captureStep, hm]

@[simp] theorem State.replayActivate_wf (s : State) (i : Image)  (hm : Memory.wf s.cells = true) : Memory.wf (State.replayActivate s i).cells = true := by simp (maxDischargeDepth := 20) (contextual := true) [State.replayActivate, hm]

@[simp] theorem State.replayStart_wf (s : State)  (hm : Memory.wf s.cells = true) : Memory.wf (State.replayStart s).cells = true := by
  unfold State.replayStart; (repeat' split) <;> simp (maxDischargeDepth := 20) (contextual := true) [hm]

@[simp] theorem State.replayEntries_wf (s : State) (run cap : Outs) (prev : Option Outs) (tick : Nat)  (hm : Memory.wf s.cells = true) : Memory.wf (State.replayEntries s run cap prev tick).cells = true := by simp (maxDischargeDepth := 20) (contextual := true) [State.replayEntries, hm]

@[simp] theorem State.judgeFrame_wf (s : State) (r : Rerun) (b : List Byte) (fab : FabState)  (hm : Memory.wf s.cells = true) : Memory.wf (State.judgeFrame s r b fab).cells = true := by
  unfold State.judgeFrame; dsimp only; (repeat' split) <;> simp (maxDischargeDepth := 20) (contextual := true) [hm]

@[simp] theorem State.writeRplMode_wf (s : State) (origin : Origin) (w : Word)  (hm : Memory.wf s.cells = true) : Memory.wf (State.writeRplMode s origin w).1.cells = true := by simp (maxDischargeDepth := 20) (contextual := true) [State.writeRplMode, hm]

@[simp] theorem State.leaveReplay_wf (s : State) (hm : Memory.wf s.cells = true) : Memory.wf (State.leaveReplay s).cells = true := by simp (maxDischargeDepth := 20) (contextual := true) [State.leaveReplay, hm]

@[simp] theorem State.eraseStore_wf (s : State)  (hm : Memory.wf s.cells = true) : Memory.wf (State.eraseStore s).cells = true := by simp (maxDischargeDepth := 20) (contextual := true) [State.eraseStore, hm]

@[simp] theorem State.rplCmd_wf (s : State) (origin : Origin) (w : Word)  (hm : Memory.wf s.cells = true) : Memory.wf (State.rplCmd s origin w).1.cells = true := by simp (maxDischargeDepth := 20) (contextual := true) [State.rplCmd, hm]

@[simp] theorem State.writeRplCfg_wf (s : State) (origin : Origin) (w : Word)  (hm : Memory.wf s.cells = true) : Memory.wf (State.writeRplCfg s origin w).1.cells = true := by simp (maxDischargeDepth := 20) (contextual := true) [State.writeRplCfg, hm]

@[simp] theorem State.writeRplCapcfg_wf (s : State) (origin : Origin) (w : Word)  (hm : Memory.wf s.cells = true) : Memory.wf (State.writeRplCapcfg s origin w).1.cells = true := by simp (maxDischargeDepth := 20) (contextual := true) [State.writeRplCapcfg, hm]

@[simp] theorem State.writeXdata_wf (s : State) (w : Word)  (hm : Memory.wf s.cells = true) : Memory.wf (State.writeXdata s w).1.cells = true := by simp (maxDischargeDepth := 20) (contextual := true) [State.writeXdata, hm]

@[simp] theorem State.rplWrite_wf (s : State) (origin : Origin) (r : RplReg) (w : Word)  (hm : Memory.wf s.cells = true) : Memory.wf (State.rplWrite s origin r w).1.cells = true := by
  unfold State.rplWrite; (repeat' split) <;> simp (maxDischargeDepth := 20) (contextual := true) [hm]

@[simp] theorem State.detect_wf (s : State) (h : Fin 31)  (hm : Memory.wf s.cells = true) : Memory.wf (State.detect s h).cells = true := by simp (maxDischargeDepth := 20) (contextual := true) [State.detect, hm]

@[simp] theorem State.scanUnit_wf (s : State) (u : Fin 4) (bad : Bool)  (hm : Memory.wf s.cells = true) : Memory.wf (State.scanUnit s u bad).cells = true := by simp (maxDischargeDepth := 20) (contextual := true) [State.scanUnit, hm]

@[simp] theorem State.followP2_wf (s : State) (h : Fin 31) (live : Bool) (p2 : Word)  (hm : Memory.wf s.cells = true) : Memory.wf (State.followP2 s h live p2).cells = true := by simp (maxDischargeDepth := 20) (contextual := true) [State.followP2, hm]

@[simp] theorem State.pairSources_wf (s : State)  (hm : Memory.wf s.cells = true) : Memory.wf (State.pairSources s).cells = true := by simp (maxDischargeDepth := 20) (contextual := true) [State.pairSources, hm]

@[simp] theorem State.pairSync_wf (s : State)  (hm : Memory.wf s.cells = true) : Memory.wf (State.pairSync s).cells = true := by simp (maxDischargeDepth := 20) (contextual := true) [State.pairSync, hm]

@[simp] theorem State.activeChannel_wf (s : State) (n : Fin 16) (swap : Bool) (discarding : Bool) (present : BitVec 16) (hm : Memory.wf s.cells = true) : Memory.wf (State.activeChannel s n swap discarding present).cells = true := by
  unfold State.activeChannel; (repeat' split) <;> simp (maxDischargeDepth := 20) (contextual := true) [hm]

@[simp] theorem State.becomeActive_wf (s : State)  (hm : Memory.wf s.cells = true) : Memory.wf (State.becomeActive s).cells = true := by
  unfold State.becomeActive; dsimp only; cases s.pair.held <;> cases decide (s.pair.claimReason.toNat = 1) <;> cases decide (s.pair.claimReason.toNat = 2) <;> simp (maxDischargeDepth := 20) (contextual := true) [hm]

@[simp] theorem State.hearQual_wf (s : State) (up : Bool) (idle : Bool) (hm : Memory.wf s.cells = true) : Memory.wf (State.hearQual s up idle).cells = true := by simp (maxDischargeDepth := 20) (contextual := true) [State.hearQual, hm]

@[simp] theorem State.tzFrame_wf (s : State)  (hm : Memory.wf s.cells = true) : Memory.wf (State.tzFrame s).cells = true := by simp (maxDischargeDepth := 20) (contextual := true) [State.tzFrame, hm]

@[simp] theorem State.tzDiscard_wf (s : State)  (hm : Memory.wf s.cells = true) : Memory.wf (State.tzDiscard s).cells = true := by simp (maxDischargeDepth := 20) (contextual := true) [State.tzDiscard, hm]

@[simp] theorem State.onFrame_wf (s : State) (good : Bool) (f : State → State) (he : ∀ t, Memory.wf t.cells = true → Memory.wf (f t).cells = true) (hm : Memory.wf s.cells = true) : Memory.wf (State.onFrame s good f).cells = true := by simp (maxDischargeDepth := 20) (contextual := true) [State.onFrame, hm, he]

@[simp] theorem State.takeHeartbeat_wf (s : State) (b : List Byte)  (hm : Memory.wf s.cells = true) : Memory.wf (State.takeHeartbeat s b).cells = true := by simp (maxDischargeDepth := 20) (contextual := true) [State.takeHeartbeat, hm]

@[simp] theorem State.dropEpoch_wf (s : State)  (hm : Memory.wf s.cells = true) : Memory.wf (State.dropEpoch s).cells = true := by
  unfold State.dropEpoch; (repeat' split) <;> simp (maxDischargeDepth := 20) (contextual := true) [hm]

@[simp] theorem State.finishEpoch_wf (s : State) (b : List Byte)  (hm : Memory.wf s.cells = true) : Memory.wf (State.finishEpoch s b).cells = true := by
  unfold State.finishEpoch; (repeat' split) <;> simp (maxDischargeDepth := 20) (contextual := true) [hm]

@[simp] theorem State.takeSegment_wf (s : State) (b : List Byte)  (hm : Memory.wf s.cells = true) : Memory.wf (State.takeSegment s b).cells = true := by
  unfold State.takeSegment; dsimp only; (repeat' split) <;> simp (maxDischargeDepth := 20) (contextual := true) [hm]

@[simp] theorem State.pairCmd_wf (s : State) (origin : Origin) (w : Word)  (hm : Memory.wf s.cells = true) : Memory.wf (State.pairCmd s origin w).1.cells = true := by
  unfold State.pairCmd; dsimp only; (repeat' split) <;> simp (maxDischargeDepth := 20) (contextual := true) [hm]

@[simp] theorem State.pairActivate_wf (s : State) (i : Image) (reason : Nat)  (hm : Memory.wf s.cells = true) : Memory.wf (State.pairActivate s i reason).cells = true := by
  unfold State.pairActivate; dsimp only; (repeat' split) <;> simp (maxDischargeDepth := 20) (contextual := true) [hm]

@[simp] theorem State.writePairCfg_wf (s : State) (origin : Origin) (w : Word)  (hm : Memory.wf s.cells = true) : Memory.wf (State.writePairCfg s origin w).1.cells = true := by simp (maxDischargeDepth := 20) (contextual := true) [State.writePairCfg, hm]

@[simp] theorem State.pairWrite_wf (s : State) (origin : Origin) (r : PairReg) (w : Word)  (hm : Memory.wf s.cells = true) : Memory.wf (State.pairWrite s origin r w).1.cells = true := by
  unfold State.pairWrite; (repeat' split) <;> simp (maxDischargeDepth := 20) (contextual := true) [hm]

@[simp] theorem State.recoverRing_wf (s : State) (x : RingId)  (hm : Memory.wf s.cells = true) : Memory.wf (State.recoverRing s x).cells = true := by simp (maxDischargeDepth := 20) (contextual := true) [State.recoverRing, hm]

@[simp] theorem State.ringRestart_wf (s : State) (x : RingId)  (hm : Memory.wf s.cells = true) : Memory.wf (State.ringRestart s x).cells = true := by simp (maxDischargeDepth := 20) (contextual := true) [State.ringRestart, hm]

@[simp] theorem State.ringTake_wf (s : State) (x : RingId)  (hm : Memory.wf s.cells = true) : Memory.wf (State.ringTake s x).cells = true := by simp (maxDischargeDepth := 20) (contextual := true) [State.ringTake, hm]

@[simp] theorem State.restoreCauses_wf (s : State)  (hm : Memory.wf s.cells = true) : Memory.wf (State.restoreCauses s).cells = true := by simp (maxDischargeDepth := 20) (contextual := true) [State.restoreCauses, hm]

@[simp] theorem State.clearReported_wf (s : State) (x : RingId)  (hm : Memory.wf s.cells = true) : Memory.wf (State.clearReported s x).cells = true := by simp (maxDischargeDepth := 20) (contextual := true) [State.clearReported, hm]

@[simp] theorem State.reportDropped_wf (s : State) (x : RingId)  (hm : Memory.wf s.cells = true) : Memory.wf (State.reportDropped s x).cells = true := by simp (maxDischargeDepth := 20) (contextual := true) [State.reportDropped, hm]

@[simp] theorem State.ringAct_wf (s : State) (x : RingId) (f : RingCmd)  (hm : Memory.wf s.cells = true) : Memory.wf (State.ringAct s x f).cells = true := by
  unfold State.ringAct; (repeat' split) <;> simp (maxDischargeDepth := 20) (contextual := true) [hm]

@[simp] theorem State.ringReceive_wf (s : State) (x : RingId)  (hm : Memory.wf s.cells = true) : Memory.wf (State.ringReceive s x).cells = true := by
  unfold State.ringReceive; (repeat' split) <;> simp (maxDischargeDepth := 20) (contextual := true) [hm]

@[simp] theorem State.takeReport_wf (s : State) (x : RingId) (e : Report) (hm : Memory.wf s.cells = true) : Memory.wf (State.takeReport s x e).cells = true := by
  unfold State.takeReport; (repeat' split) <;> simp (maxDischargeDepth := 20) (contextual := true) [hm]

@[simp] theorem State.takeChange_wf (s : State) (n : Fin 16) (state : Bool) (initial : Bool) (tick : Nat) (value : Word) (hm : Memory.wf s.cells = true) : Memory.wf (State.takeChange s n state initial tick value).cells = true := by simp (maxDischargeDepth := 20) (contextual := true) [State.takeChange, hm]

@[simp] theorem State.takeMessage_wf (s : State) (x : RingId) (m : UpMsg) (hm : Memory.wf s.cells = true) : Memory.wf (State.takeMessage s x m).cells = true := by
  unfold State.takeMessage; (repeat' split) <;> simp (maxDischargeDepth := 20) (contextual := true) [hm]

@[simp] theorem State.scrubNext_wf (s : State)  (hm : Memory.wf s.cells = true) : Memory.wf (State.scrubNext s).cells = true := by simp (maxDischargeDepth := 20) (contextual := true) [State.scrubNext, hm]

@[simp] theorem State.scrubFind_wf (s : State) (o : ScrubObs)  (hm : Memory.wf s.cells = true) : Memory.wf (State.scrubFind s o).cells = true := by
  unfold State.scrubFind; (repeat' split) <;> simp (maxDischargeDepth := 20) (contextual := true) [hm]

@[simp] theorem State.refreshFails_wf (s : State) (n : Bool)  (hm : Memory.wf s.cells = true) : Memory.wf (State.refreshFails s n).cells = true := by simp (maxDischargeDepth := 20) (contextual := true) [State.refreshFails, hm]

@[simp] theorem State.unlock_wf (s : State)  (hm : Memory.wf s.cells = true) : Memory.wf (State.unlock s).cells = true := by simp (maxDischargeDepth := 20) (contextual := true) [State.unlock, hm]

@[simp] theorem State.judgeSource_wf (s : State) (hm : Memory.wf s.cells = true) : Memory.wf (State.judgeSource s).cells = true := by
  unfold State.judgeSource; (repeat' split) <;> simp (maxDischargeDepth := 20) (contextual := true) [hm]

@[simp] theorem State.lock_wf (s : State)  (hm : Memory.wf s.cells = true) : Memory.wf (State.lock s).cells = true := by simp (maxDischargeDepth := 20) (contextual := true) [State.lock, hm]

@[simp] theorem State.measureRef_wf (s : State) (sync : Bool) (ticks us : Nat)  (hm : Memory.wf s.cells = true) : Memory.wf (State.measureRef s sync ticks us).cells = true := by simp (maxDischargeDepth := 20) (contextual := true) [State.measureRef, hm]

@[simp] theorem State.syncReference_wf (s : State)  (hm : Memory.wf s.cells = true) : Memory.wf (State.syncReference s).cells = true := by
  unfold State.syncReference; (repeat' split) <;> simp (maxDischargeDepth := 20) (contextual := true) [hm]

@[simp] theorem State.settleTask_wf (s : State) (t : Fin 8) (hm : Memory.wf s.cells = true) : Memory.wf (State.settleTask s t).cells = true := by
  unfold State.settleTask; (repeat' split) <;> simp (maxDischargeDepth := 20) (contextual := true) [hm]

@[simp] theorem State.settleBehind_wf (s : State) (hm : Memory.wf s.cells = true) : Memory.wf (State.settleBehind s).cells = true := by simp (maxDischargeDepth := 20) (contextual := true) [State.settleBehind, hm]

@[simp] theorem State.takeBgCfg_wf (w : Word) (s : State) (hm : Memory.wf s.cells = true) : Memory.wf (State.takeBgCfg w s).cells = true := by simp (maxDischargeDepth := 20) (contextual := true) [State.takeBgCfg, hm]

@[simp] theorem State.takeSync_wf (s : State) (w : Word) (hm : Memory.wf s.cells = true) : Memory.wf (State.takeSync s w).cells = true := by
  unfold State.takeSync; dsimp only; (repeat' split) <;> simp (maxDischargeDepth := 20) (contextual := true) [hm]

@[simp] theorem State.writeBgCfg_wf (s : State) (origin : Origin) (w : Word)  (hm : Memory.wf s.cells = true) : Memory.wf (State.writeBgCfg s origin w).1.cells = true := by simp (maxDischargeDepth := 20) (contextual := true) [State.writeBgCfg, hm]

@[simp] theorem State.writeSyncCfg_wf (s : State) (origin : Origin) (w : Word)  (hm : Memory.wf s.cells = true) : Memory.wf (State.writeSyncCfg s origin w).1.cells = true := by simp (maxDischargeDepth := 20) (contextual := true) [State.writeSyncCfg, hm]

@[simp] theorem State.bgWrite_wf (s : State) (origin : Origin) (r : BgReg) (w : Word)  (hm : Memory.wf s.cells = true) : Memory.wf (State.bgWrite s origin r w).1.cells = true := by
  unfold State.bgWrite; (repeat' split) <;> simp (maxDischargeDepth := 20) (contextual := true) [hm]

@[simp] theorem State.enterQuiet_wf (s : State)  (hm : Memory.wf s.cells = true) : Memory.wf (State.enterQuiet s).cells = true := by simp (maxDischargeDepth := 20) (contextual := true) [State.enterQuiet, hm]

@[simp] theorem State.leaveQuiet_wf (s : State)  (hm : Memory.wf s.cells = true) : Memory.wf (State.leaveQuiet s).cells = true := by simp (maxDischargeDepth := 20) (contextual := true) [State.leaveQuiet, hm]

@[simp] theorem State.enterCellar_wf (s : State)  (hm : Memory.wf s.cells = true) : Memory.wf (State.enterCellar s).cells = true := by simp (maxDischargeDepth := 20) (contextual := true) [State.enterCellar, hm]

@[simp] theorem State.returnRun_wf (s : State) (g : Nat)  (hm : Memory.wf s.cells = true) : Memory.wf (State.returnRun s g).cells = true := by simp (maxDischargeDepth := 20) (contextual := true) [State.takeSnapshot_frame _, State.returnRun, hm]

@[simp] theorem State.takeWanted_wf (s : State)  (hm : Memory.wf s.cells = true) : Memory.wf (State.takeWanted s).cells = true := by
  unfold State.takeWanted; (repeat' split) <;> simp (maxDischargeDepth := 20) (contextual := true) [hm]

@[simp] theorem State.modeTick_wf (s0 : State)  (hm : Memory.wf s0.cells = true) : Memory.wf (State.modeTick s0).cells = true := by
  unfold State.modeTick; dsimp only; (repeat' split) <;> simp (maxDischargeDepth := 20) (contextual := true) [hm]

@[simp] theorem State.writePwrCtrl_wf (s : State) (origin : Origin) (w : Word)  (hm : Memory.wf s.cells = true) : Memory.wf (State.writePwrCtrl s origin w).1.cells = true := by simp (maxDischargeDepth := 20) (contextual := true) [State.writePwrCtrl, hm]

@[simp] theorem State.writeWakecfg_wf (s : State) (origin : Origin) (w : Word)  (hm : Memory.wf s.cells = true) : Memory.wf (State.writeWakecfg s origin w).1.cells = true := by simp (maxDischargeDepth := 20) (contextual := true) [State.writeWakecfg, hm]

@[simp] theorem State.bgBlockWrite_wf (s : State) (origin : Origin) (r : BgReg) (w : Word)  (hm : Memory.wf s.cells = true) : Memory.wf (State.bgBlockWrite s origin r w).1.cells = true := by
  unfold State.bgBlockWrite; (repeat' split) <;> simp (maxDischargeDepth := 20) (contextual := true) [hm]

@[simp] theorem State.portWrite_wf (s : State) (origin : Origin) (p : PortId) (r : PortReg) (w : Word)  (hm : Memory.wf s.cells = true) : Memory.wf (State.portWrite s origin p r w).1.cells = true := by
  unfold State.portWrite; (repeat' split) <;> simp (maxDischargeDepth := 20) (contextual := true) [hm]

@[simp] theorem State.commitCaltag_wf (s : State) (origin : Origin) (hi : Word)  (hm : Memory.wf s.cells = true) : Memory.wf (State.commitCaltag s origin hi).1.cells = true := by simp (maxDischargeDepth := 20) (contextual := true) [State.commitCaltag, hm]

@[simp] theorem State.timeWrite_wf (s : State) (origin : Origin) (r : TimeReg) (fall w : Word)  (hm : Memory.wf s.cells = true) : Memory.wf (State.timeWrite s origin r fall w).1.cells = true := by
  unfold State.timeWrite; (repeat' split) <;> simp (maxDischargeDepth := 20) (contextual := true) [hm]

@[simp] theorem State.liveRead_wf (s : State) (origin : Origin) (r : Reg)  (hm : Memory.wf s.cells = true) : Memory.wf (State.liveRead s origin r).2.cells = true := by
  unfold State.liveRead; (repeat' split) <;> simp (maxDischargeDepth := 20) (contextual := true) [hm]

@[simp] theorem State.regRead_wf (s : State) (origin : Origin) (r : Reg)  (hm : Memory.wf s.cells = true) : Memory.wf (State.regRead s origin r).2.cells = true := by
  unfold State.regRead; dsimp only; (repeat' split) <;> simp (maxDischargeDepth := 20) (contextual := true) [hm]

@[simp] theorem State.regWrite_wf (s : State) (origin : Origin) (r : Reg) (fall w : Word) (obs : Option Int)  (hm : Memory.wf s.cells = true) : Memory.wf (State.regWrite s origin r fall w obs).1.cells = true := by
  unfold State.regWrite; (repeat' split) <;> simp (maxDischargeDepth := 20) (contextual := true) [hm]

@[simp] theorem State.cellarRead_wf (s : State) (o : Nat) (hm : Memory.wf s.cells = true) : Memory.wf (State.cellarRead s o).2.cells = true := by
  unfold State.cellarRead; dsimp only; (repeat' split) <;> simp (maxDischargeDepth := 20) (contextual := true) [hm]

@[simp] theorem State.readAt_wf (s : State) (origin : Origin) (a : Addr)  (hm : Memory.wf s.cells = true) : Memory.wf (State.readAt s origin a).1.cells = true := by
  unfold State.readAt; dsimp only; (repeat' split) <;> simp (maxDischargeDepth := 20) (contextual := true) [hm]

@[simp] theorem State.writeAt_wf (s : State) (origin : Origin) (a : Addr) (fall w : Word) (obs : Option Int)  (hm : Memory.wf s.cells = true) : Memory.wf (State.writeAt s origin a fall w obs).1.cells = true := by
  unfold State.writeAt; dsimp only; (repeat' split) <;> simp (maxDischargeDepth := 20) (contextual := true) [State.mirrorWrite_frame _ _ _ _ _, hm]

@[simp] theorem State.popAt_wf (s : State) (a : Addr) (n : Nat) (bad : Option Int)  (hm : Memory.wf s.cells = true) : Memory.wf (State.popAt s a n bad).1.cells = true := by
  unfold State.popAt; (repeat' split) <;> simp (maxDischargeDepth := 20) (contextual := true) [hm]

@[simp] theorem State.perform_wf (s : State) (p : PortId) (q : Request)  (hm : Memory.wf s.cells = true) : Memory.wf (State.perform s p q).1.cells = true := by
  unfold State.perform; (repeat' split) <;> simp (maxDischargeDepth := 20) (contextual := true) [hm]

@[simp] theorem State.execRequest_wf (s : State) (p : PortId) (q : Request)  (hm : Memory.wf s.cells = true) : Memory.wf (State.execRequest s p q).cells = true := by
  unfold State.execRequest; dsimp only; (repeat' split) <;> simp (maxDischargeDepth := 20) (contextual := true) [hm]

@[simp] theorem State.startNext_wf (s : State) (p : PortId)  (hm : Memory.wf s.cells = true) : Memory.wf (State.startNext s p).cells = true := by
  unfold State.startNext; (repeat' split) <;> simp (maxDischargeDepth := 20) (contextual := true) [hm]

@[simp] theorem State.queue_wf (s : State) (f : HostFrame) (rep : Option Reply) (enter : Bool)  (hm : Memory.wf s.cells = true) : Memory.wf (State.queue s f rep enter).cells = true := by simp (maxDischargeDepth := 20) (contextual := true) [State.queue, hm]

@[simp] theorem State.request_wf (s : State) (f : HostFrame)  (hm : Memory.wf s.cells = true) : Memory.wf (State.request s f).cells = true := by
  unfold State.request; dsimp only; (repeat' split) <;> simp (maxDischargeDepth := 20) (contextual := true) [hm]

@[simp] theorem State.submit_wf (s : State) (f : HostFrame)  (hm : Memory.wf s.cells = true) : Memory.wf (State.submit s f).cells = true := by simp (maxDischargeDepth := 20) (contextual := true) [State.submit, hm]

@[simp] theorem State.complete_wf (s : State) (p : PortId)  (hm : Memory.wf s.cells = true) : Memory.wf (State.complete s p).cells = true := by
  unfold State.complete; (repeat' split) <;> simp (maxDischargeDepth := 20) (contextual := true) [hm]

@[simp] theorem State.mirrorCapture_wf (s : State) (a : Addr) (v : Word)  (hm : Memory.wf s.cells = true) : Memory.wf (State.mirrorCapture s a v).1.cells = true := by
  unfold State.mirrorCapture; (repeat' split) <;> simp (maxDischargeDepth := 20) (contextual := true) [hm]

@[simp] theorem State.mirrorApply_wf (s : State) (sel : Word) (win : List Word)  (hm : Memory.wf s.cells = true) : Memory.wf (State.mirrorApply s sel win).1.cells = true := by simp (maxDischargeDepth := 20) (contextual := true) [State.mirrorApply, hm]

@[simp] theorem State.mirrorChange_wf (s : State) (b : List Byte)  (hm : Memory.wf s.cells = true) : Memory.wf (State.mirrorChange s b).1.cells = true := by simp (maxDischargeDepth := 20) (contextual := true) [State.mirrorChange, hm]

@[simp] theorem State.performMirror_wf (s : State) (b : List Byte) (hm : Memory.wf s.cells = true) : Memory.wf (State.performMirror s b).cells = true := by simp (maxDischargeDepth := 20) (contextual := true) [State.performMirror, hm]

@[simp] theorem State.takeMirror_wf (s : State) (b : List Byte) (hm : Memory.wf s.cells = true) : Memory.wf (State.takeMirror s b).cells = true := by
  unfold State.takeMirror State.onTicket; dsimp only; (repeat' split) <;> simp (maxDischargeDepth := 20) (contextual := true) [hm]

@[simp] theorem State.endHold_wf (s : State) (n : Fin 16)  (hm : Memory.wf s.cells = true) : Memory.wf (State.endHold s n).cells = true := by simp (maxDischargeDepth := 20) (contextual := true) [State.endHold, hm]

@[simp] theorem State.endHolds_wf (s : State)  (hm : Memory.wf s.cells = true) : Memory.wf (State.endHolds s).cells = true := by simp (maxDischargeDepth := 20) (contextual := true) [State.endHolds, hm]

@[simp] theorem State.takeMode_wf (s : State) (n : Fin 16)  (hm : Memory.wf s.cells = true) : Memory.wf (State.takeMode s n).cells = true := by simp (maxDischargeDepth := 20) (contextual := true) [State.takeMode, hm]

@[simp] theorem State.changeTick_wf (s : State)  (hm : Memory.wf s.cells = true) : Memory.wf (State.changeTick s).cells = true := by simp (maxDischargeDepth := 20) (contextual := true) [State.changeTick, hm]

@[simp] theorem State.followMember_wf (s : State) (k : Fin 256) (m : Nat) (live : Bool)  (hm : Memory.wf s.cells = true) : Memory.wf (State.followMember s k m live).cells = true := by simp (maxDischargeDepth := 20) (contextual := true) [State.followMember, hm]

@[simp] theorem State.requests_wf (s : State)  (hm : Memory.wf s.cells = true) : Memory.wf (State.requests s).cells = true := by simp (maxDischargeDepth := 20) (contextual := true) [State.requests, hm]

@[simp] theorem State.releaseTick_wf (s : State) (ended : Nat)  (hm : Memory.wf s.cells = true) : Memory.wf (State.releaseTick s ended).cells = true := by simp (maxDischargeDepth := 20) (contextual := true) [State.releaseTick, hm]

@[simp] theorem State.idleEnd_wf (s : State)  (hm : Memory.wf s.cells = true) : Memory.wf (State.idleEnd s).cells = true := by
  unfold State.idleEnd; (repeat' split) <;> simp (maxDischargeDepth := 20) (contextual := true) [hm]

@[simp] theorem State.endTick_wf (s : State)  (hm : Memory.wf s.cells = true) : Memory.wf (State.endTick s).cells = true := by simp (maxDischargeDepth := 20) (contextual := true) [State.endTick, hm]

@[simp] theorem State.stepReports_wf (s : State) (before : State) (hm : Memory.wf s.cells = true) : Memory.wf (State.stepReports s before).cells = true := by simp (maxDischargeDepth := 20) (contextual := true) [State.stepReports, hm]

@[simp] theorem State.endReplayLeave_wf (s : State)  (hm : Memory.wf s.cells = true) : Memory.wf (State.endReplayLeave s).cells = true := by simp (maxDischargeDepth := 20) (contextual := true) [State.endReplayLeave, hm]

@[simp] theorem State.replayTick_wf (s0 : State)  (hm : Memory.wf s0.cells = true) : Memory.wf (State.replayTick s0).cells = true := by
  unfold State.replayTick; dsimp only; (repeat' split) <;> simp (maxDischargeDepth := 20) (contextual := true) [hm]

@[simp] theorem State.stepTick_wf (s : State)  (hm : Memory.wf s.cells = true) : Memory.wf (State.stepTick s).cells = true := by simp (maxDischargeDepth := 20) (contextual := true) [State.replayTick_frame _, State.stepTick, hm]

@[simp] theorem State.activateSlots_wf (s : State) (i : Image)  (hm : Memory.wf s.cells = true) : Memory.wf (State.activateSlots s i).cells = true := by simp (maxDischargeDepth := 20) (contextual := true) [State.activateSlots, hm]

@[simp] theorem State.loadNetwork_wf (s : State) (i : Image)  (hm : Memory.wf s.cells = true) : Memory.wf (State.loadNetwork s i).cells = true := by simp (maxDischargeDepth := 20) (contextual := true) [State.loadNetwork, hm]

@[simp] theorem State.activateBg_wf (s : State) (i : Image)  (hm : Memory.wf s.cells = true) : Memory.wf (State.activateBg s i).cells = true := by simp (maxDischargeDepth := 20) (contextual := true) [State.activateBg, hm]

@[simp] theorem State.activateChan_wf (s : State) (i : Image) (keeps : Bool) (n : Fin 16)  (hm : Memory.wf s.cells = true) : Memory.wf (State.activateChan s i keeps n).cells = true := by simp (maxDischargeDepth := 20) (contextual := true) [State.activateChan, hm]

@[simp] theorem State.stagedChan_wf (s : State) (i : Image) (keeps : Bool) (n : Fin 16)  (hm : Memory.wf s.cells = true) : Memory.wf (State.stagedChan s i keeps n).cells = true := by simp (maxDischargeDepth := 20) (contextual := true) [State.stagedChan, hm]

@[simp] theorem State.activateRing_wf (s : State) (i : Image) (keeps : Fin 16 → Bool) (x : RingId)  (hm : Memory.wf s.cells = true) : Memory.wf (State.activateRing s i keeps x).cells = true := by rw [State.activateRing_cells]; exact hm

@[simp] theorem State.activate_wf (s : State) (i : Image)  (hm : Memory.wf s.cells = true) : Memory.wf (State.activate s i).cells = true := by simp (maxDischargeDepth := 20) (contextual := true) [State.replayTick_frame _, State.activate, hm]

@[simp] theorem State.tickNow_wf (s : State)  (hm : Memory.wf s.cells = true) : Memory.wf (State.tickNow s).cells = true := by
  unfold State.tickNow; (repeat' split) <;> simp (maxDischargeDepth := 20) (contextual := true) [hm]

@[simp] theorem State.loaderStop_wf (s : State)  (hm : Memory.wf s.cells = true) : Memory.wf (State.loaderStop s).cells = true := by
  unfold State.loaderStop; dsimp only; (repeat' split) <;> simp (maxDischargeDepth := 20) (contextual := true) [hm]

@[simp] theorem State.loaderCut_wf (s : State)  (hm : Memory.wf s.cells = true) : Memory.wf (State.loaderCut s).cells = true := by simp (maxDischargeDepth := 20) (contextual := true) [State.loaderCut, hm]

@[simp] theorem State.loaderHalt_wf (s : State)  (hm : Memory.wf s.cells = true) : Memory.wf (State.loaderHalt s).cells = true := by simp (maxDischargeDepth := 20) (contextual := true) [State.loaderHalt, hm]

@[simp] theorem State.hostStop_wf (s : State)  (hm : Memory.wf s.cells = true) : Memory.wf (State.hostStop s).cells = true := by simp (maxDischargeDepth := 20) (contextual := true) [State.replayStart_frame _, State.hostStop, hm]

@[simp] theorem State.halt_wf (s : State) (p : HostPhase)  (hm : Memory.wf s.cells = true) : Memory.wf (State.halt s p).cells = true := by simp (maxDischargeDepth := 20) (contextual := true) [State.hostStop_frame _, State.halt, hm]

@[simp] theorem State.startSources_wf (s : State)  (hm : Memory.wf s.cells = true) : Memory.wf (State.startSources s).cells = true := by simp (maxDischargeDepth := 20) (contextual := true) [State.judgeWear_frame _, State.raiseLive_frame _ _ _, State.startSources, hm]

end Sys2Proof.Machine
end

