-- ==== Sys2Proof/Laws/Faults.lean ====
section
/-! SUPPORT. What raising and clearing a source do to its slot, and what they leave of a Ring: all but the frames to it. -/

namespace Sys2Proof.Machine

/-! ## The Rings through the collector -/

/-- Both Rings without the frames that wait for them. -/
def State.ringCores (s : State) : Ring × Ring := ((s.ring .a).core, (s.ring .b).core)

theorem State.ringCores_of_rings {t s : State} (h : t.rings = s.rings) : t.ringCores = s.ringCores := by
  simp [State.ringCores, State.ring, h]

theorem State.core_of_ringCores {t s : State} (h : t.ringCores = s.ringCores) (x : RingId) : (t.ring x).core = (s.ring x).core := by
  cases x
  · exact congrArg Prod.fst h
  · exact congrArg Prod.snd h

theorem State.modRing_ringCores (s : State) (x : RingId) (f : Ring → Ring) (h : ∀ r, (f r).core = r.core) :
    (s.modRing x f).ringCores = s.ringCores := by
  cases x <;> simp [State.ringCores, State.modRing, State.ring, rix, tmod, h]

@[simp] theorem ite_ringCores (c : Prop) [Decidable c] (a b : State) : (if c then a else b).ringCores = if c then a.ringCores else b.ringCores := by
  split <;> rfl

@[simp] theorem State.sendSafe_ringCores (s : State) (m : BitVec 16) : (s.sendSafe m).ringCores = s.ringCores := by
  refine forEach_keeps State.ringCores _ _ (fun x t => ?_) s
  split
  · rfl
  · exact State.modRing_ringCores _ _ _ (fun r => rfl)

@[simp] theorem State.sendRing_ringCores (s : State) (x : RingId) (c : RingCmd) : (s.sendRing x c).ringCores = s.ringCores := by
  unfold State.sendRing; split
  · exact State.modRing_ringCores _ _ _ (fun r => rfl)
  · rfl

@[simp] theorem State.modPair_ringCores (s : State) (f : Pair → Pair) : (s.modPair f).ringCores = s.ringCores := rfl
@[simp] theorem State.sendSource_ringCores (s : State) (b : Bool) : (s.sendSource b).ringCores = s.ringCores := by simp [State.sendSource]
@[simp] theorem State.tellRole_ringCores (s : State) (b : Bool) (p : BitVec 16) : (s.tellRole b p).ringCores = s.ringCores := by
  unfold State.tellRole; split
  · rfl
  · simp
@[simp] theorem State.sendState_ringCores (s : State) : s.sendState.ringCores = s.ringCores := State.ringCores_of_rings (by simp [State.sendState_frame _])
@[simp] theorem State.noteRaise_ringCores (s : State) (r : Raising) (c d t : Nat) : (s.noteRaise r c d t).ringCores = s.ringCores :=
  State.ringCores_of_rings (by simp [State.noteRaise_frame _ _ _ _ _])
@[simp] theorem State.modSlot_ringCores (s : State) (k : Fin 256) (f : FaultSlot → FaultSlot) : (s.modSlot k f).ringCores = s.ringCores := rfl
@[simp] theorem State.faultEntry_ringCores (s : State) (k : Fin 256) (c : Nat) (a b : Bool) (t : Nat) : (s.faultEntry k c a b t).ringCores = s.ringCores :=
  State.ringCores_of_rings (by simp [State.faultEntry_frame _ _ _ _ _ _])
@[simp] theorem State.faultRecord_ringCores (s : State) (k : Fin 256) (c : Nat) (a b : Bool) (p q : Word) :
    (s.faultRecord k c a b p q).ringCores = s.ringCores := State.ringCores_of_rings (by simp [State.faultRecord_frame _ _ _ _ _ _ _])
@[simp] theorem State.faultTrigger_ringCores (s : State) (k c : Nat) (a : Bool) (e : Staged) : (s.faultTrigger k c a e).ringCores = s.ringCores :=
  State.ringCores_of_rings (by simp [State.faultTrigger_frame _ _ _ _ _])
@[simp] theorem State.event_ringCores (s : State) (g c : Nat) (o : Origin) (p q : Word) : (s.event g c o p q).ringCores = s.ringCores :=
  State.ringCores_of_rings (by simp [State.event_frame _ _ _ _ _ _])
@[simp] theorem State.appendJournal_ringCores (s : State) (c : Nat) (o : Origin) (p q : Word) :
    (s.appendJournal c o p q).ringCores = s.ringCores := State.ringCores_of_rings (by simp [State.appendJournal_frame _ _ _ _ _])

@[simp] theorem State.setRole_ringCores (s : State) (r : Role) (k : Nat) (p : Word) : (s.setRole r k p).ringCores = s.ringCores := by
  unfold State.setRole; (repeat' split) <;> simp
@[simp] theorem State.endSwap_ringCores (s : State) (b : Bool) (k : Nat) : (s.endSwap b k).ringCores = s.ringCores := by
  unfold State.endSwap; split <;> simp
@[simp] theorem State.setUq_ringCores (s : State) (u : BitVec 10) (r : Nat) : (s.setUq u r).ringCores = s.ringCores := by
  unfold State.setUq; dsimp only; (repeat' split) <;> simp
@[simp] theorem State.giveUp_ringCores (s : State) (r c : Nat) : (s.giveUp r c).ringCores = s.ringCores := by
  unfold State.giveUp; dsimp only; (repeat' split) <;> simp
@[simp] theorem State.roleRelease_ringCores (s : State) : s.roleRelease.ringCores = s.ringCores := by
  unfold State.roleRelease; split <;> simp

@[simp] theorem State.react_ringCores (s : State) (k : Fin 256) (r : Nat) : (s.react k r).ringCores = s.ringCores := by simp [State.react]

@[simp] theorem State.raiseCore_ringCores (s : State) (r : Raising) (t : Nat) : (s.raiseCore r t).ringCores = s.ringCores := by simp [State.raiseCore]

@[simp] theorem State.checkLoss_ringCores (b s : State) : (State.checkLoss b s).ringCores = s.ringCores := by simp [State.checkLoss]

@[simp] theorem State.autoReleaseOn_ringCores (s : State) (n : Fin 16) : (s.autoReleaseOn n).ringCores = s.ringCores := by
  unfold State.autoReleaseOn; (repeat' split) <;> first | rfl | simp

@[simp] theorem State.autoRelease_ringCores (s : State) (k : Fin 256) (m : BitVec 16) : (s.autoRelease k m).ringCores = s.ringCores := by
  unfold State.autoRelease; split
  · exact forEach_keeps State.ringCores _ _ (fun n t => by simp) s
  · rfl

@[simp] theorem State.raiseAt_ringCores (s : State) (r : Raising) (t : Nat) : (s.raiseAt r t).ringCores = s.ringCores := by
  simp [State.raiseAt]

@[simp] theorem State.raise_ringCores (s : State) (r : Raising) : (s.raise r).ringCores = s.ringCores := by simp [State.raise]

@[simp] theorem State.raiseHost_ringCores (s : State) (h : Fin 31) : (s.raiseHost h).ringCores = s.ringCores := by simp [State.raiseHost]

@[simp] theorem State.raiseLive_ringCores (s : State) (k : Fin 256) (p : Word) : (s.raiseLive k p).ringCores = s.ringCores := by
  simp [State.raiseLive]

@[simp] theorem State.clearCauseAt_ringCores (s : State) (k : Fin 256) (m : Nat) (i : Bool) (t : Nat) (l : Bool) :
    (s.clearCauseAt k m i t l).ringCores = s.ringCores := by
  simp [State.clearCauseAt]

@[simp] theorem State.clearCause_ringCores (s : State) (k : Fin 256) (m : Nat) (i : Bool) : (s.clearCause k m i).ringCores = s.ringCores := by
  simp [State.clearCause]

@[simp] theorem State.clearLive_ringCores (s : State) (k : Fin 256) : (s.clearLive k).ringCores = s.ringCores := by simp [State.clearLive]

@[simp] theorem State.follow_ringCores (s : State) (k : Fin 256) (l : Bool) : (s.follow k l).ringCores = s.ringCores := by simp [State.follow]

@[simp] theorem State.journal_ringCores (s : State) (c : Nat) (o : Origin) (p q : Word) : (s.journal c o p q).ringCores = s.ringCores := by
  simp [State.journal]

/-! ## A slot through a raising -/

theorem State.slot_of_flt {t s : State} (h : t.flt = s.flt) (k : Fin 256) : t.slot k = s.slot k := by simp [State.slot, h]

@[simp] theorem ite_slot (c : Prop) [Decidable c] (a b : State) (k : Fin 256) : (if c then a else b).slot k = if c then a.slot k else b.slot k := by
  split <;> rfl

@[simp] theorem State.react_slot (s : State) (k : Fin 256) (r : Nat) (j : Fin 256) : (s.react k r).slot j = s.slot j := State.slot_of_flt (by simp [State.react_frame _ _ _]) j
@[simp] theorem State.faultEntry_slot (s : State) (k : Fin 256) (c : Nat) (a b : Bool) (t : Nat) (j : Fin 256) : (s.faultEntry k c a b t).slot j = s.slot j :=
  State.slot_of_flt (by simp [State.faultEntry_frame _ _ _ _ _ _]) j
@[simp] theorem State.faultRecord_slot (s : State) (k : Fin 256) (c : Nat) (a b : Bool) (p q : Word) (j : Fin 256) :
    (s.faultRecord k c a b p q).slot j = s.slot j := State.slot_of_flt (by simp [State.faultRecord_frame _ _ _ _ _ _ _]) j
@[simp] theorem State.faultTrigger_slot (s : State) (k c : Nat) (a : Bool) (e : Staged) (j : Fin 256) : (s.faultTrigger k c a e).slot j = s.slot j :=
  State.slot_of_flt (by simp [State.faultTrigger_frame _ _ _ _ _]) j

theorem State.modSlot_slot_same (s : State) (k : Fin 256) (f : FaultSlot → FaultSlot) : (s.modSlot k f).slot k = f (s.slot k) := by
  simp [State.modSlot, State.slot]

theorem State.modSlot_slot_other (s : State) (k j : Fin 256) (f : FaultSlot → FaultSlot) (h : k ≠ j) : (s.modSlot k f).slot j = s.slot j := by
  simp only [State.modSlot, State.slot]; exact tmod_other _ _ _ _ h

/-- A raising writes its own slot and no other. -/
theorem State.raiseCore_slot (s : State) (r : Raising) (t : Nat) (k : Fin 256) :
    (s.raiseCore r t).slot k = (s.noteRaise r (s.settle r.k r.m t).1 (s.settle r.k r.m t).2 t).slot k := by
  simp [State.raiseCore]

theorem State.raiseCore_slot_other (s : State) (r : Raising) (t : Nat) (k : Fin 256) (h : r.k ≠ k) : (s.raiseCore r t).slot k = s.slot k := by
  rw [State.raiseCore_slot, State.noteRaise, State.modSlot_slot_other _ _ _ _ h]

theorem State.raiseCore_real (s : State) (r : Raising) (t : Nat) (hi : instantSource r.k.1 r.m = false) (hr : r.inj = false) :
    ((s.raiseCore r t).slot r.k).real = (s.slot r.k).real ||| (1#32 <<< (r.m % 32)) := by
  rw [State.raiseCore_slot, State.noteRaise, State.modSlot_slot_same]; simp [hi, hr]

/-- A live bit that is set stays set through a raising. -/
theorem State.raiseCore_real_mono (s : State) (r : Raising) (t : Nat) (k : Fin 256) (i : Nat) (h : (s.slot k).real.getLsbD i = true) :
    ((s.raiseCore r t).slot k).real.getLsbD i = true := by
  by_cases hk : r.k = k
  · subst hk
    rw [State.raiseCore_slot, State.noteRaise, State.modSlot_slot_same]
    dsimp only
    split
    · exact h
    · rw [BitVec.getLsbD_or, h, Bool.true_or]
  · rw [State.raiseCore_slot_other _ _ _ _ hk, h]

theorem State.checkLoss_real_mono (b s : State) (k : Fin 256) (i : Nat) (h : (s.slot k).real.getLsbD i = true) :
    ((State.checkLoss b s).slot k).real.getLsbD i = true := by
  unfold State.checkLoss; split
  · exact State.raiseCore_real_mono _ _ _ _ _ h
  · exact h

theorem State.checkLoss_slot_other (b s : State) (k : Fin 256) (h : hostSlot 7 ≠ k) : (State.checkLoss b s).slot k = s.slot k := by
  unfold State.checkLoss; split
  · exact State.raiseCore_slot_other _ _ _ _ h
  · rfl

theorem State.modSlot_real_keep (s : State) (k j : Fin 256) (f : FaultSlot → FaultSlot) (h : ∀ g, (f g).real = g.real) :
    ((s.modSlot k f).slot j).real = (s.slot j).real := by
  by_cases hk : k = j
  · subst hk; rw [State.modSlot_slot_same, h]
  · rw [State.modSlot_slot_other _ _ _ _ hk]

theorem State.slot_of_slots {t s : State} (h : t.flt.slots = s.flt.slots) (k : Fin 256) : t.slot k = s.slot k := by simp [State.slot, h]

@[simp] theorem State.autoReleaseOn_slot (s : State) (n : Fin 16) (j : Fin 256) : (s.autoReleaseOn n).slot j = s.slot j := by
  unfold State.autoReleaseOn; (repeat' split) <;> first | rfl | exact State.slot_of_flt (by simp [State.sendRing_frame _ _ _]) j

@[simp] theorem State.autoRelease_slot (s : State) (k : Fin 256) (m : BitVec 16) (j : Fin 256) : (s.autoRelease k m).slot j = s.slot j := by
  unfold State.autoRelease; split
  · exact forEach_keeps (fun u => u.slot j) _ _ (fun n t => by simp) s
  · rfl

theorem State.raiseAt_real_mono (s : State) (r : Raising) (t : Nat) (k : Fin 256) (i : Nat) (h : (s.slot k).real.getLsbD i = true) :
    ((s.raiseAt r t).slot k).real.getLsbD i = true := by
  have h1 := State.checkLoss_real_mono s _ k i (State.raiseCore_real_mono s r t k i h)
  unfold State.raiseAt; dsimp only; split
  · rw [State.autoRelease_slot, State.modSlot_real_keep]
    · exact h1
    · intro g; rfl
  · exact h1

theorem State.raise_real_mono (s : State) (r : Raising) (k : Fin 256) (i : Nat) (h : (s.slot k).real.getLsbD i = true) :
    ((s.raise r).slot k).real.getLsbD i = true := State.raiseAt_real_mono s r _ k i h

/-- A real raising of a source that is not instant makes it live. -/
theorem State.raiseAt_real (s : State) (r : Raising) (t : Nat) (hi : instantSource r.k.1 r.m = false) (hr : r.inj = false) :
    ((s.raiseAt r t).slot r.k).real.getLsbD (r.m % 32) = true := by
  have h0 : ((s.raiseCore r t).slot r.k).real.getLsbD (r.m % 32) = true := by
    rw [State.raiseCore_real s r t hi hr, BitVec.getLsbD_or, BitVec.getLsbD_shiftLeft]
    have : r.m % 32 < 32 := Nat.mod_lt _ (by decide)
    simp [this]
  have h1 := State.checkLoss_real_mono s _ r.k _ h0
  unfold State.raiseAt; dsimp only; rw [hi]; exact h1

theorem State.raise_real (s : State) (r : Raising) (hi : instantSource r.k.1 r.m = false) (hr : r.inj = false) :
    ((s.raise r).slot r.k).real.getLsbD (r.m % 32) = true := State.raiseAt_real s r _ hi hr

/-- A source of one member is live after `raiseLive`. -/
@[simp] theorem State.raiseLive_live (s : State) (k : Fin 256) (p : Word) (hi : instantSource k.1 0 = false) :
    ((s.raiseLive k p).slot k).real.getLsbD 0 = true := by
  unfold State.raiseLive; split
  · assumption
  · exact State.raise_real s ⟨k, 0, false, p, false⟩ hi rfl

theorem State.raiseLive_real_mono (s : State) (j k : Fin 256) (p : Word) (i : Nat) (h : (s.slot k).real.getLsbD i = true) :
    ((s.raiseLive j p).slot k).real.getLsbD i = true := by
  unfold State.raiseLive; split
  · exact h
  · exact State.raise_real_mono _ _ _ _ h

/-- A source of one member, other than WHEEL_LOSS, is not live after `clearLive`. -/
@[simp] theorem State.clearLive_dead (s : State) (k : Fin 256) (h : hostSlot 7 ≠ k) :
    ((s.clearLive k).slot k).real.getLsbD 0 = false := by
  by_cases h0 : (s.slot k).real.getLsbD 0 = true
  · unfold State.clearLive State.clearCause State.clearCauseAt
    simp [h0, State.checkLoss_slot_other _ _ _ h, State.modSlot_slot_same]
    split
    · assumption
    · split <;> simp
  · unfold State.clearLive State.clearCause State.clearCauseAt
    simp at h0
    simp [h0]

end Sys2Proof.Machine
end

