-- ==== Sys2Proof/Laws/Latches.lean ====
section
/-! SUPPORT. The output stages and the latches: what they write of a channel, and that the operations of one Ring leave the other
Ring's channels alone. -/

namespace Sys2Proof.Machine

/-! ## Channels through loops -/

theorem mem_ringChs (x : RingId) (n : Fin 16) : n ∈ ringChs x ↔ ringOf n = x := by
  simp [ringChs, allCh]

/-- A loop establishes a property of each element that its body establishes and keeps. -/
theorem forEach_holds {α : Type} (p : α → State → Prop) (f : α → State → State) (hset : ∀ a s, p a (f a s)) (hkeep : ∀ a b s, p a s → p a (f b s))
    (xs : List α) (a : α) (s : State) (h : a ∈ xs ∨ p a s) : p a (forEach xs f s) := by
  induction xs generalizing s with
  | nil => simpa using h
  | cons b xs ih =>
    refine ih (f b s) ?_
    rcases h with h | h
    · rcases List.mem_cons.1 h with rfl | h
      · exact .inr (hset _ _)
      · exact .inl h
    · exact .inr (hkeep _ _ _ h)

theorem forEach_keeps_on {α β : Type} (p : State → β) (xs : List α) (f : α → State → State) (h : ∀ x ∈ xs, ∀ t, p (f x t) = p t) (s : State) :
    p (forEach xs f s) = p s := by
  induction xs generalizing s with
  | nil => rfl
  | cons x xs ih =>
    exact (ih (fun y hy => h y (List.mem_cons_of_mem _ hy)) (f x s)).trans (h x List.mem_cons_self s)

theorem State.modChan_chan_ite (s : State) (i j : Fin 16) (f : Chan → Chan) :
    (s.modChan i f).chan j = if i = j then f (s.chan j) else s.chan j := by
  split
  · subst_vars; simp
  · exact State.modChan_chan_ne _ _ _ _ (by assumption)

/-! ## Latch and causes -/

/-- The latch of a channel and its causes. -/
def Chan.held (c : Chan) : Bool × BitVec 16 := (c.latch, c.causes)

theorem State.modChan_held (s : State) (i j : Fin 16) (f : Chan → Chan) (h : ∀ c, (f c).held = c.held) :
    ((s.modChan i f).chan j).held = (s.chan j).held := by
  rw [State.modChan_chan_ite]; split
  · exact h _
  · rfl

@[simp] theorem State.modRing_chan' (s : State) (x : RingId) (f : Ring → Ring) (n : Fin 16) : (s.modRing x f).chan n = s.chan n := rfl

@[simp] theorem State.ringReport_chan (s : State) (x : RingId) (k : Fin 256) (m : Nat) (r : Bool) (d : Word) (n : Fin 16) :
    (s.ringReport x k m r d).chan n = s.chan n := rfl

@[simp] theorem State.sendUp_chan (s : State) (x : RingId) (m : UpMsg) (n : Fin 16) : (s.sendUp x m).chan n = s.chan n := rfl

@[simp] theorem State.sendChange_chan (s : State) (i : Fin 16) (a b : Bool) (w : Word) (n : Fin 16) : (s.sendChange i a b w).chan n = s.chan n := rfl

@[simp] theorem State.tellLatches_chan (s : State) (x : RingId) (n : Fin 16) : (s.tellLatches x).chan n = s.chan n := by
  unfold State.tellLatches; split <;> rfl

@[simp] theorem State.fskStart_chan (s : State) (x : RingId) (n : Fin 16) : (s.fskStart x).chan n = s.chan n := by
  unfold State.fskStart; dsimp only; split <;> rfl

theorem State.diagClear_held (s : State) (i : Fin 16) (m : Nat) (n : Fin 16) : ((s.diagClear i m).chan n).held = (s.chan n).held := by
  unfold State.diagClear; split
  · exact State.modChan_held _ _ _ _ (fun c => rfl)
  · rfl

theorem State.diagClearAll_held (s : State) (i : Fin 16) (ms : List Nat) (n : Fin 16) :
    ((s.diagClearAll i ms).chan n).held = (s.chan n).held :=
  forEach_keeps (fun t : State => (t.chan n).held) _ _ (fun m t => State.diagClear_held t i m n) s

theorem State.refreshTarget_held (s : State) (i n : Fin 16) : ((s.refreshTarget i).chan n).held = (s.chan n).held :=
  State.modChan_held _ _ _ _ (fun c => by unfold Chan.retarget; split <;> rfl)

theorem State.stageFollows_held (s : State) (i : Fin 16) (k : Nat) (n : Fin 16) : ((s.stageFollows i k).chan n).held = (s.chan n).held := by
  unfold State.stageFollows; dsimp only; split
  · exact State.modChan_held _ _ _ _ (fun c => rfl)
  · exact State.modChan_held _ _ _ _ (fun c => rfl)

theorem State.followGang_held (s : State) (i n : Fin 16) : ((s.followGang i).chan n).held = (s.chan n).held := by
  unfold State.followGang; dsimp only; split
  · exact State.modChan_held _ _ _ _ (fun c => rfl)
  · split
    · exact State.modChan_held _ _ _ _ (fun c => rfl)
    · rfl

theorem State.refreshStage_held (s : State) (i : Fin 16) (k : Nat) (n : Fin 16) : ((s.refreshStage i k).chan n).held = (s.chan n).held :=
  (State.followGang_held _ _ _).trans ((State.stageFollows_held _ _ _ _).trans (State.refreshTarget_held _ _ _))

theorem State.refreshRing_held (s : State) (x : RingId) (k : Nat) (n : Fin 16) : ((s.refreshRing x k).chan n).held = (s.chan n).held :=
  forEach_keeps (fun t : State => (t.chan n).held) _ _ (fun i t => State.refreshStage_held t i k n) s

@[simp] theorem State.tellRestart_chan (s : State) (i n : Fin 16) : (s.tellRestart i).chan n = s.chan n := by
  unfold State.tellRestart; split <;> rfl

theorem State.restartInput_held (s : State) (i n : Fin 16) : ((s.restartInput i).chan n).held = (s.chan n).held := by
  unfold State.restartInput
  rw [State.tellRestart_chan]
  exact State.modChan_held s i n _ (fun _ => rfl)

/-- A latch that sets adds its causes on its channel, and leaves every other channel's latch. -/
theorem State.latchSet_held (s : State) (i : Fin 16) (k : BitVec 16) (n : Fin 16) :
    ((s.latchSet i k).chan n).held = if i = n then (true, (s.chan n).causes ||| k) else (s.chan n).held := by
  have h1 : ((s.modChan i (fun c => { c with causes := c.causes ||| k, latch := true, releaseDue := none })).chan n).held
      = if i = n then (true, (s.chan n).causes ||| k) else (s.chan n).held := by
    rw [State.modChan_chan_ite]; split <;> rfl
  have h2 : ∀ t : State, ∀ b : Prop, ∀ _ : Decidable b, ∀ d : Prop, ∀ _ : Decidable d,
      ((if b then (t.diagClearAll i sampleDiags).restartInput i else if d then t.restartInput i else t).chan n).held = (t.chan n).held := by
    intro t b _ d _; split
    · exact (State.restartInput_held _ _ _).trans (State.diagClearAll_held _ _ _ _)
    · split
      · exact State.restartInput_held _ _ _
      · rfl
  rw [← h1]
  unfold State.latchSet
  refine (State.refreshStage_held _ _ _ _).trans ?_
  generalize s.modChan i (fun c => { c with causes := c.causes ||| k, latch := true, releaseDue := none }) = s1 at h2 ⊢
  have h3 : ∀ t : State, ∀ b : Prop, ∀ _ : Decidable b, ∀ f, ((if b then t.modRing (ringOf i) f else t).chan n).held = (t.chan n).held := by
    intro t b _ f; split <;> rfl
  split
  · rfl
  · exact (h3 _ _ _ _).trans (h2 _ _ _ _ _)

/-- Latched with these causes. -/
def Chan.heldBy (c : Chan) (k : BitVec 16) : Prop := c.latch = true ∧ k &&& ~~~ c.causes = 0#16

theorem Chan.heldBy_of_held {c d : Chan} (h : c.held = d.held) (k : BitVec 16) : c.heldBy k ↔ d.heldBy k := by
  have h1 : c.latch = d.latch := congrArg Prod.fst h
  have h2 : c.causes = d.causes := congrArg Prod.snd h
  simp [Chan.heldBy, h1, h2]

theorem State.latchSet_sets (s : State) (n : Fin 16) (k : BitVec 16) : ((s.latchSet n k).chan n).heldBy k := by
  have h := State.latchSet_held s n k n
  rw [if_pos rfl] at h
  have h1 := congrArg Prod.fst h
  have h2 := congrArg Prod.snd h
  simp only [Chan.held] at h1 h2
  refine ⟨h1, ?_⟩
  rw [h2]; ext i; simp; grind

theorem State.latchSet_heldBy (s : State) (i n : Fin 16) (j k : BitVec 16) (hn : (s.chan n).heldBy k) : ((s.latchSet i j).chan n).heldBy k := by
  have h := State.latchSet_held s i j n
  split at h
  · have h1 := congrArg Prod.fst h
    have h2 := congrArg Prod.snd h
    simp only [Chan.held] at h1 h2
    refine ⟨h1, ?_⟩
    rw [h2]
    have := hn.2
    ext b hb
    have hb' := congrArg (fun v => v.getLsbD b) this
    simp at hb' ⊢
    grind
  · exact (Chan.heldBy_of_held h k).2 hn

/-- Every latch of a Ring sets with the causes given. -/
theorem State.setCauseRing_sets (s : State) (x : RingId) (k : BitVec 16) (n : Fin 16) (h : ringOf n = x) :
    ((s.setCauseRing x k).chan n).heldBy k := by
  unfold State.setCauseRing
  rw [State.tellLatches_chan]
  exact forEach_holds (fun (a : Fin 16) (t : State) => (t.chan a).heldBy k) (fun i t => t.latchSet i k)
    (fun a s => State.latchSet_sets s a k) (fun a b s hs => State.latchSet_heldBy s b a k k hs) _ n s (.inl ((mem_ringChs x n).2 h))

theorem State.setCause_sets (s : State) (n : Fin 16) (k : BitVec 16) : ((s.setCause n k).chan n).heldBy k := by
  unfold State.setCause
  rw [State.tellLatches_chan]
  split
  · exact State.latchSet_heldBy _ _ _ _ _ (State.latchSet_sets s n k)
  · exact State.latchSet_sets s n k

/-! ## Two Rings (R12): what one Ring's operations leave of the other -/

theorem State.side_of_frame {t s : State} (hc : t.chans = s.chans) (hr : t.rings = s.rings) (y : RingId) : t.side y = s.side y := by
  simp [State.side, State.ring, State.chan, hc, hr]

theorem State.modChan_side (s : State) (n : Fin 16) (f : Chan → Chan) (y : RingId) (h : ringOf n ≠ y) : (s.modChan n f).side y = s.side y := by
  simp only [State.side, State.modChan_ring, Prod.mk.injEq, true_and]
  funext m
  by_cases hm : n = m
  · subst hm; simp [h]
  · rw [State.modChan_chan_ne _ _ _ _ hm]

theorem State.modRing_side (s : State) (x : RingId) (f : Ring → Ring) (y : RingId) (h : x ≠ y) : (s.modRing x f).side y = s.side y := by
  have hr : (s.modRing x f).ring y = s.ring y := by
    cases x <;> cases y <;> simp_all [State.modRing, State.ring, rix, tmod]
  simp [State.side, hr]

theorem State.sendUp_side (s : State) (x : RingId) (m : UpMsg) (y : RingId) (h : x ≠ y) : (s.sendUp x m).side y = s.side y :=
  State.modRing_side _ _ _ _ h

theorem State.tellLatches_side (s : State) (x y : RingId) (h : x ≠ y) : (s.tellLatches x).side y = s.side y := by
  unfold State.tellLatches; split
  · exact State.sendUp_side _ _ _ _ h
  · rfl

theorem State.tellRestart_side (s : State) (n : Fin 16) (y : RingId) (h : ringOf n ≠ y) : (s.tellRestart n).side y = s.side y := by
  unfold State.tellRestart; split
  · exact State.sendUp_side _ _ _ _ h
  · rfl

theorem State.restartInput_side (s : State) (n : Fin 16) (y : RingId) (h : ringOf n ≠ y) : (s.restartInput n).side y = s.side y :=
  (State.tellRestart_side _ _ _ h).trans (State.modChan_side _ _ _ _ h)

theorem State.fskStart_side (s : State) (x y : RingId) (h : x ≠ y) : (s.fskStart x).side y = s.side y := by
  unfold State.fskStart; dsimp only; split
  · exact State.modRing_side _ _ _ _ h
  · rfl

theorem ringOf_mate (n : Fin 16) : ringOf (mate n) = ringOf n := by
  have : ∀ n, ringOf (mate n) = ringOf n := by decide
  exact this n

theorem ringOf_gangMate {n m : Fin 16} {c : ChanCfg} (h : gangMate n c = some m) : ringOf m = ringOf n := by
  have hm : m = mate n := by
    unfold gangMate pairMate at h
    split at h
    · split at h
      · exact (Option.some.inj h).symm
      · cases h
    · cases h
  subst hm
  exact ringOf_mate n

theorem State.ringOf_lead (s : State) (n : Fin 16) : ringOf (s.lead n) = ringOf n := by
  unfold State.lead; split
  · exact ringOf_mate n
  · rfl

theorem State.ringOf_gangPair {s : State} {n m : Fin 16} (h : s.gangPair n = some m) : ringOf m = ringOf n := by
  unfold State.gangPair gangOther at h
  split at h
  · rename_i k hk
    cases h; exact ringOf_gangMate hk
  · cases hk : gangMate (mate n) (s.chan (mate n)).rng with
    | none => simp [hk] at h
    | some k =>
      simp only [hk, Option.bind_some] at h
      split at h
      · cases h; exact ringOf_mate n
      · cases h

theorem State.ringReport_side (s : State) (x : RingId) (k : Fin 256) (m : Nat) (r : Bool) (d : Word) (y : RingId) (h : x ≠ y) :
    (s.ringReport x k m r d).side y = s.side y := State.modRing_side _ _ _ _ h

theorem State.diagRaise_side (s : State) (n : Fin 16) (m : Nat) (d : Word) (y : RingId) (h : ringOf n ≠ y) : (s.diagRaise n m d).side y = s.side y := by
  unfold State.diagRaise; split
  · rfl
  · exact (State.ringReport_side _ _ _ _ _ _ _ h).trans (State.modChan_side _ _ _ _ h)

theorem State.diagClear_side (s : State) (n : Fin 16) (m : Nat) (y : RingId) (h : ringOf n ≠ y) : (s.diagClear n m).side y = s.side y := by
  unfold State.diagClear; split
  · exact (State.ringReport_side _ _ _ _ _ _ _ h).trans (State.modChan_side _ _ _ _ h)
  · rfl

theorem State.diagFollow_side (s : State) (n : Fin 16) (m : Nat) (l : Bool) (y : RingId) (h : ringOf n ≠ y) : (s.diagFollow n m l).side y = s.side y := by
  unfold State.diagFollow; split
  · exact State.diagRaise_side _ _ _ _ _ h
  · exact State.diagClear_side _ _ _ _ h

theorem State.diagClearAll_side (s : State) (n : Fin 16) (ms : List Nat) (y : RingId) (h : ringOf n ≠ y) :
    (s.diagClearAll n ms).side y = s.side y :=
  forEach_keeps (fun t : State => t.side y) _ _ (fun m t => State.diagClear_side t n m y h) s

theorem State.stageFollows_side (s : State) (n : Fin 16) (k : Nat) (y : RingId) (h : ringOf n ≠ y) : (s.stageFollows n k).side y = s.side y := by
  unfold State.stageFollows; dsimp only; split
  · exact State.modChan_side _ _ _ _ h
  · exact (State.modRing_side _ _ _ _ h).trans (State.modChan_side _ _ _ _ h)

theorem State.followGang_side (s : State) (n : Fin 16) (y : RingId) (h : ringOf n ≠ y) : (s.followGang n).side y = s.side y := by
  have hm : ringOf (mate n) ≠ y := by rw [ringOf_mate]; exact h
  unfold State.followGang; dsimp only; split
  · exact State.modChan_side _ _ _ _ hm
  · split
    · exact State.modChan_side _ _ _ _ hm
    · rfl

theorem State.refreshStage_side (s : State) (n : Fin 16) (k : Nat) (y : RingId) (h : ringOf n ≠ y) : (s.refreshStage n k).side y = s.side y := by
  have hl : ringOf (s.lead n) ≠ y := by rw [State.ringOf_lead]; exact h
  exact (State.followGang_side _ _ _ hl).trans ((State.stageFollows_side _ _ _ _ hl).trans (State.modChan_side _ _ _ _ hl))

/-- A loop over the channels of one Ring leaves the other's side. -/
theorem forEach_ringChs_side (x y : RingId) (h : x ≠ y) (f : Fin 16 → State → State) (hf : ∀ n t, ringOf n ≠ y → (f n t).side y = t.side y)
    (ns : List (Fin 16)) (hn : ∀ n ∈ ns, ringOf n = x) (s : State) : (forEach ns f s).side y = s.side y :=
  forEach_keeps_on (fun t : State => t.side y) _ _ (fun n m t => hf n t (by rw [hn n m]; exact h)) s

theorem State.refreshRing_side (s : State) (x : RingId) (k : Nat) (y : RingId) (h : x ≠ y) : (s.refreshRing x k).side y = s.side y :=
  forEach_ringChs_side x y h _ (fun n t hn => State.refreshStage_side t n k y hn) _ (fun n m => (mem_ringChs x n).1 m) s

theorem State.latchSet_side (s : State) (n : Fin 16) (k : BitVec 16) (y : RingId) (h : ringOf n ≠ y) : (s.latchSet n k).side y = s.side y := by
  unfold State.latchSet
  refine (State.refreshStage_side _ _ _ _ h).trans ?_
  have h1 := State.modChan_side s n (fun c => { c with causes := c.causes ||| k, latch := true, releaseDue := none }) y h
  generalize s.modChan n (fun c => { c with causes := c.causes ||| k, latch := true, releaseDue := none }) = s1 at h1 ⊢
  have h2 : ∀ b : Prop, ∀ _ : Decidable b, ∀ d : Prop, ∀ _ : Decidable d,
      (if b then (s1.diagClearAll n sampleDiags).restartInput n else if d then s1.restartInput n else s1).side y = s.side y := by
    intro b _ d _; split
    · exact (State.restartInput_side _ _ _ h).trans ((State.diagClearAll_side _ _ _ _ h).trans h1)
    · split
      · exact (State.restartInput_side _ _ _ h).trans h1
      · exact h1
  have h3 : ∀ t : State, ∀ b : Prop, ∀ _ : Decidable b, ∀ f, (if b then t.modRing (ringOf n) f else t).side y = t.side y := by
    intro t b _ f; split
    · exact State.modRing_side _ _ _ _ h
    · rfl
  split
  · exact h1
  · exact (h3 _ _ _ _).trans (h2 _ _ _ _)

theorem State.setCause_side (s : State) (n : Fin 16) (k : BitVec 16) (y : RingId) (h : ringOf n ≠ y) : (s.setCause n k).side y = s.side y := by
  unfold State.setCause
  refine (State.tellLatches_side _ _ _ h).trans ?_
  split
  · rename_i m hm
    exact (State.latchSet_side _ _ _ _ (by rw [State.ringOf_gangPair hm]; exact h)).trans (State.latchSet_side _ _ _ _ h)
  · exact State.latchSet_side _ _ _ _ h

theorem State.setCauseRing_side (s : State) (x : RingId) (k : BitVec 16) (y : RingId) (h : x ≠ y) : (s.setCauseRing x k).side y = s.side y := by
  unfold State.setCauseRing
  refine (State.tellLatches_side _ _ _ h).trans ?_
  exact forEach_ringChs_side x y h _ (fun n t hn => State.latchSet_side t n k y hn) _ (fun n m => (mem_ringChs x n).1 m) s

theorem State.dropCauses_side (s : State) (n : Fin 16) (k : BitVec 16) (y : RingId) (h : ringOf n ≠ y) : (s.dropCauses n k).side y = s.side y := by
  unfold State.dropCauses
  refine (State.tellLatches_side _ _ _ h).trans ?_
  split
  · rename_i m hm
    exact (State.modChan_side _ _ _ _ (by rw [State.ringOf_gangPair hm]; exact h)).trans (State.modChan_side _ _ _ _ h)
  · exact State.modChan_side _ _ _ _ h

theorem State.applyGuard_side (s : State) (n : Fin 16) (y : RingId) (h : ringOf n ≠ y) : (s.applyGuard n).side y = s.side y := by
  unfold State.applyGuard; split
  · exact State.setCause_side _ _ _ _ h
  · rfl

theorem State.applyGuards_side (s : State) (x y : RingId) (h : x ≠ y) : (s.applyGuards x).side y = s.side y :=
  forEach_ringChs_side x y h _ (fun n t hn => State.applyGuard_side t n y hn) _ (fun n m => (mem_ringChs x n).1 m) s

theorem State.ringOf_guardees (s : State) (n m : Fin 16) (h : m ∈ s.guardees n) : ringOf m = ringOf n :=
  (mem_ringChs _ _).1 (List.mem_filter.1 h).1

theorem State.dropWaits_side (s : State) (n : Fin 16) (y : RingId) (h : ringOf n ≠ y) : (s.dropWaits n).side y = s.side y :=
  forEach_ringChs_side (ringOf n) y h _ (fun m t hm => State.modChan_side t m _ y hm) _ (fun m hm => s.ringOf_guardees n m hm) s

theorem State.tellPlug_side (s : State) (n : Fin 16) (y : RingId) (h : ringOf n ≠ y) : (s.tellPlug n).side y = s.side y := by
  unfold State.tellPlug; split
  · exact State.sendUp_side _ _ _ _ h
  · rfl

theorem State.resetGuard_side (s : State) (n : Fin 16) (y : RingId) (h : ringOf n ≠ y) : (s.resetGuard n).side y = s.side y := by
  unfold State.resetGuard
  refine (State.tellPlug_side _ _ _ h).trans ?_
  refine (forEach_ringChs_side (ringOf n) y h _ (fun m t hm => State.applyGuard_side t m y hm) _ (fun m hm => State.ringOf_guardees _ n m hm) _).trans ?_
  exact (State.dropWaits_side _ _ _ h).trans ((State.diagClearAll_side _ _ _ _ h).trans (State.modChan_side _ _ _ _ h))

theorem State.resetGuards_side (s : State) (x y : RingId) (h : x ≠ y) : (s.resetGuards x).side y = s.side y := by
  unfold State.resetGuards
  refine (State.applyGuards_side _ _ _ h).trans ?_
  exact forEach_ringChs_side x y h _ (fun n t hn => State.resetGuard_side t n y hn) _ (fun n m => (mem_ringChs x n).1 (List.mem_filter.1 m).1) s

theorem State.restartChain_side (s : State) (n : Fin 16) (y : RingId) : (s.restartChain n).side y = s.side y :=
  State.side_of_frame (by simp [State.restartChain_frame _ _]) (by simp [State.restartChain_frame _ _]) y

theorem State.unlatch_side (s : State) (n : Fin 16) (k : Nat) (y : RingId) (h : ringOf n ≠ y) : (s.unlatch n k).side y = s.side y := by
  have clear : ∀ ms, ((s.modChan n (fun c => { c with latch := false, releaseDue := none })).diagClearAll n ms).side y = s.side y :=
    fun ms => (State.diagClearAll_side _ _ _ _ h).trans (State.modChan_side _ _ _ _ h)
  have restart : ∀ (b : Bool) (t : State), (if b = true then t.restartInput n else t).side y = t.side y := by
    intro b t; split
    · exact State.restartInput_side _ _ _ h
    · rfl
  have chain : ∀ (a b : Prop) [Decidable a] [Decidable b] (f : Chan → Chan) (t : State),
      (if a then (t.modChan n f).restartChain n else if b then t.resetGuard n else t).side y = t.side y := by
    intro a b _ _ f t; split
    · exact (State.restartChain_side _ _ _).trans (State.modChan_side _ _ _ _ h)
    · split
      · exact State.resetGuard_side _ _ _ h
      · rfl
  unfold State.unlatch; dsimp only; split
  · rfl
  · refine (State.tellLatches_side _ _ _ h).trans ((State.fskStart_side _ _ _ h).trans ((State.refreshStage_side _ _ _ _ h).trans ?_))
    exact (chain _ _ _ _).trans ((restart _ _).trans ((State.modChan_side _ _ _ _ h).trans (clear _)))

theorem State.clearAtOnce_side (s : State) (n : Fin 16) (k : BitVec 16) (c : Nat) (y : RingId) (h : ringOf n ≠ y) :
    (s.clearAtOnce n k c).side y = s.side y := by
  unfold State.clearAtOnce
  split
  · rename_i m hm
    exact (State.unlatch_side _ _ _ _ (by rw [State.ringOf_gangPair hm]; exact h)).trans
      ((State.unlatch_side _ _ _ _ h).trans (State.dropCauses_side _ _ _ _ h))
  · exact (State.unlatch_side _ _ _ _ h).trans (State.dropCauses_side _ _ _ _ h)

end Sys2Proof.Machine
end

