-- ==== Sys2Proof/Laws/Port.lean ====
section
/-! SUPPORT. A host frame that is performed at once, reduced to what its request does: the laws by which claims about host rows are
proved. -/

namespace Sys2Proof.Machine

theorem Port.enter_waiting (q : Port) (e : WinEntry) : (q.enter e).waiting = q.waiting := by rfl
theorem Port.enter_executing (q : Port) (e : WinEntry) : (q.enter e).executing = q.executing := by rfl

theorem State.csFall_port_waiting (s : State) (p : PortId) (m : Bool) : ((s.csFall p m).port p).waiting = (s.port p).waiting := by
  simp [State.csFall]
theorem State.csFall_port_executing (s : State) (p : PortId) (m : Bool) : ((s.csFall p m).port p).executing = (s.port p).executing := by
  simp [State.csFall]
theorem State.csFall_port_window (s : State) (p : PortId) (m : Bool) : ((s.csFall p m).port p).window = (s.port p).window := by
  simp [State.csFall]
theorem State.csFall_port_rev (s : State) (p : PortId) (m : Bool) : ((s.csFall p m).port p).rev = (s.port p).nextRev := by
  simp [State.csFall, Port.nextRev]
theorem tmod_tmod {α : Type} {k : Nat} (v : Vector α k) (i : Fin k) (f g : α → α) : tmod (tmod v i f) i g = tmod v i (fun x => g (f x)) := by
  simp [tmod]
theorem State.modPort_modPort (s : State) (p : PortId) (f g : Port → Port) :
    (s.modPort p f).modPort p g = s.modPort p (fun o => g (f o)) := by simp [State.modPort, tmod_tmod]
theorem State.modPort_const (s : State) (p : PortId) (f : Port → Port) : s.modPort p f = s.modPort p (fun _ => f (s.port p)) := by
  simp [State.modPort, State.port, tmod]
theorem State.takeTicket_modPort (s : State) (m : Master) (t : Fin 64) (p : PortId) (f : Port → Port) :
    (s.modPort p f).takeTicket m t = (s.takeTicket m t).modPort p f := by rfl
theorem State.csFall_eq (s : State) (p : PortId) (m : Bool) : s.csFall p m = s.modPort p (fun _ => (s.csFall p m).port p) := by
  simp [State.csFall, State.modPort_modPort]
  rw [State.modPort_const]

/-- A frame whose request is performed at once: what the request does, in the state in which it arrives, and its reply. -/
theorem State.submit_ready (s : State) (f : HostFrame) (h : s.hostReady f.env f.op = true) (h0 : f.op ≠ 0#8) (h7 : f.op ≠ 7#8) :
    s.submit f = (((s.intake f).perform f.env.port (s.requestOf f)).1).answer f.env.port (s.requestOf f)
      ((s.intake f).perform f.env.port (s.requestOf f)).2 := by
  simp only [State.hostReady, State.hostTakes, State.portHears, Bool.and_eq_true, Bool.or_eq_true, decide_eq_true_eq,
    Option.isNone_iff_eq_none, List.isEmpty_iff] at h
  obtain ⟨⟨⟨⟨⟨⟨⟨⟨⟨⟨ha, hm⟩, hc⟩, hw⟩, ht⟩, hn⟩, hk⟩, he⟩, hq⟩, hl⟩, ho⟩ := h
  have hmode : (s.pwr.mode = .cellar && !s.pwr.waking) = false := by
    rcases hm with hm | hm <;> simp [hm]
  have hd : discards f.env f.op = false := by
    have : requestLen f.op ≤ 1 := by unfold requestLen; split <;> omega
    simp [discards, hc, hw, ht, hl, this]
  set u := s.csFall f.env.port f.env.mode3 with hu
  have hut : u.tickets = s.tickets := by simp [State.csFall_frame _ _ _, hu]
  have hr : f.refusal (u.port f.env.port).rev = none := by
    simp [HostFrame.refusal, hu, State.csFall_port_rev, ho, hl]
  have hen : (u.port f.env.port).entry f.env.seq = none := by
    simpa [State.csFall_frame _ _ _, Port.entry, hu, State.csFall_port_window] using hn
  have hmt : u.mayTake (portMaster f.env.port) = true := by
    simpa [State.csFall_frame _ _ _, State.mayTake, State.freeTickets, State.held, State.owed, hut] using hk
  unfold State.submit
  simp only [ha, hmode, hd, h0, h7, Bool.not_true, decide_false, Bool.false_and, if_false, Bool.false_eq_true, ← hu]
  unfold State.request
  simp only [h0, h7, decide_false, Bool.or_self, Bool.false_eq_true, if_false, hen, hmt, if_true, hr]
  unfold State.queue
  have hpick : u.pickTicket f.env.grant = s.pickTicket f.env.grant := by simp [State.pickTicket, hut]
  have hfall : u.tickLo = s.tickLo := by simp [State.csFall_frame _ _ _, State.tickLo, State.tick, hu]
  simp only [hpick, hfall, Option.map_none, if_true]
  have hv : ∀ w, w = State.note (State.modPort (u.takeTicket (portMaster f.env.port) (s.pickTicket f.env.grant)) f.env.port fun o =>
        (({ o with waiting := o.waiting ++ [s.requestOf f] } : Port).enter ⟨f.env.seq, f.op, f.addr, f.env.len, f.crc, s.pickTicket f.env.grant, true, none⟩))
        f.env.port (BitVec.ofNat 8 (s.pickTicket f.env.grant).1) f.env.seq →
      w = (s.takeTicket (portMaster f.env.port) (s.pickTicket f.env.grant)).modPort f.env.port
        (fun _ => { s.intakePort f with executing := none, waiting := [s.requestOf f] }) := by
    intro w hw
    rw [hw, hu, State.csFall_eq, State.note, State.takeTicket_modPort, State.modPort_modPort, State.modPort_modPort]
    congr 1
    funext o
    have hwt : ((s.csFall f.env.port f.env.mode3).port f.env.port).waiting = [] := by rw [State.csFall_port_waiting, hq]
    have hex : ((s.csFall f.env.port f.env.mode3).port f.env.port).executing = none := by rw [State.csFall_port_executing, he]
    simp only [State.intakePort, Port.enter, hwt, hex, List.nil_append]
  have := hv _ rfl
  change State.startNext (State.note (State.modPort (u.takeTicket (portMaster f.env.port) (s.pickTicket f.env.grant)) f.env.port fun o =>
        (({ o with waiting := o.waiting ++ [s.requestOf f] } : Port).enter ⟨f.env.seq, f.op, f.addr, f.env.len, f.crc, s.pickTicket f.env.grant, true, none⟩))
        f.env.port (BitVec.ofNat 8 (s.pickTicket f.env.grant).1) f.env.seq) f.env.port = _
  rw [this]
  have hadm : s.intake f = ((s.takeTicket (portMaster f.env.port) (s.pickTicket f.env.grant)).modPort f.env.port
        (fun _ => { s.intakePort f with executing := none, waiting := [s.requestOf f] })).modPort f.env.port
        (fun o => { o with waiting := [], executing := some (s.requestOf f, mkResponse (s.requestOf f) .done) }) := by
    rw [State.modPort_modPort, State.intake]
    congr 1
    funext o
    have hwt : ((s.csFall f.env.port f.env.mode3).port f.env.port).waiting = [] := by rw [State.csFall_port_waiting, hq]
    simp [State.intakePort, Port.enter_waiting, hwt]
  have hq0 : (s.requestOf f).canned = none := rfl
  generalize hqq : s.requestOf f = q at *
  simp only [State.startNext, State.modPort_port, State.execRequest, hq0]
  rw [State.modPort_modPort] at hadm ⊢
  rw [State.modPort_modPort]
  rw [hadm]
  rfl
/-! ## The arriving state -/

theorem State.intake_frame (s : State) (f : HostFrame) :
    (s.intake f).pending = s.pending ∧ (s.intake f).clock = s.clock ∧ (s.intake f).vio = s.vio ∧ (s.intake f).phase = s.phase
      ∧ (s.intake f).time = s.time ∧ (s.intake f).shadows = s.shadows ∧ (s.intake f).readyCount = s.readyCount
      ∧ KeepsUnits (s.intake f) s ∧ (s.intake f).recd = s.recd ∧ (s.intake f).wheels = s.wheels ∧ (s.intake f).flt = s.flt
      ∧ (s.intake f).chans = s.chans ∧ (s.intake f).rings = s.rings ∧ (s.intake f).rpl = s.rpl ∧ (s.intake f).pair = s.pair
      ∧ (s.intake f).cells = s.cells := by simp [State.intake, State.takeTicket, KeepsUnits]

@[simp] theorem State.intake_port (s : State) (f : HostFrame) : (s.intake f).port f.env.port = s.intakePort f := by
  simp [State.intake]

@[simp] theorem State.intakePort_executing (s : State) (f : HostFrame) :
    (s.intakePort f).executing = some (s.requestOf f, mkResponse (s.requestOf f) .done) := rfl

@[simp] theorem State.requestOf_seq (s : State) (f : HostFrame) : (s.requestOf f).seq = f.env.seq := rfl
@[simp] theorem State.requestOf_addr (s : State) (f : HostFrame) : (s.requestOf f).addr = f.addr := rfl
@[simp] theorem State.requestOf_op (s : State) (f : HostFrame) : (s.requestOf f).op = f.op := rfl

theorem State.answer_frame (s : State) (p : PortId) (q : Request) (rep : Reply) :
    (s.answer p q rep).pending = s.pending ∧ (s.answer p q rep).clock = s.clock ∧ (s.answer p q rep).vio = s.vio
      ∧ (s.answer p q rep).phase = s.phase ∧ (s.answer p q rep).time = s.time ∧ (s.answer p q rep).shadows = s.shadows
      ∧ (s.answer p q rep).readyCount = s.readyCount ∧ (s.answer p q rep).tickets = s.tickets ∧ KeepsUnits (s.answer p q rep) s
      ∧ (s.answer p q rep).recd = s.recd ∧ (s.answer p q rep).wheels = s.wheels ∧ (s.answer p q rep).flt = s.flt
      ∧ (s.answer p q rep).chans = s.chans ∧ (s.answer p q rep).rings = s.rings ∧ (s.answer p q rep).rpl = s.rpl
      ∧ (s.answer p q rep).pair = s.pair ∧ (s.answer p q rep).cells = s.cells := by simp [State.answer, KeepsUnits]

/-- A request that is still in execution, and no release that waits, answers with its reply. -/
theorem State.answer_answers (t : State) (e : Env) (q : Request) (rep : Reply) (r : Response)
    (hx : (t.port e.port).executing = some (q, r)) (hq : q.seq = e.seq) (hw : t.waitsRelease e.port q = false) :
    (t.answer e.port q rep).answers e rep.status rep.info rep.data = true := by
  simp [State.answer, State.answers, hx, hw, mkResponse, hq]

/-! ## Writes and reads of registers -/

/-- A write of a register by a frame that is performed at once. -/
theorem State.submit_writeReg (s : State) (e : Env) (r : Reg) (w : Word) (obs : Option Int) (h : s.hostReady e opWrite = true) :
    s.submit ⟨opWrite, r.addr, w, obs, e⟩ =
      (if (((s.intake ⟨opWrite, r.addr, w, obs, e⟩).regWrite (portOrigin e.port) r s.tickLo w obs).2).status = .ok then
          State.mirrorWrite (s.intake ⟨opWrite, r.addr, w, obs, e⟩)
            ((s.intake ⟨opWrite, r.addr, w, obs, e⟩).regWrite (portOrigin e.port) r s.tickLo w obs).1 (portOrigin e.port) r w
        else ((s.intake ⟨opWrite, r.addr, w, obs, e⟩).regWrite (portOrigin e.port) r s.tickLo w obs).1).answer e.port
        (s.requestOf ⟨opWrite, r.addr, w, obs, e⟩)
        ((s.intake ⟨opWrite, r.addr, w, obs, e⟩).regWrite (portOrigin e.port) r s.tickLo w obs).2 := by
  rw [State.submit_ready s ⟨opWrite, r.addr, w, obs, e⟩ h (by simp [opWrite]) (by simp [opWrite])]
  have hp : (s.intake ⟨opWrite, r.addr, w, obs, e⟩).perform e.port (s.requestOf ⟨opWrite, r.addr, w, obs, e⟩)
      = (s.intake ⟨opWrite, r.addr, w, obs, e⟩).writeAt (portOrigin e.port) r.addr s.tickLo w obs := rfl
  simp only [hp, State.writeAt, decodeAddr_addr]

/-- A read of a register by a frame that is performed at once. -/
theorem State.submit_readReg (s : State) (e : Env) (r : Reg) (w : Word) (h : s.hostReady e opRead = true) :
    s.submit ⟨opRead, r.addr, w, none, e⟩ =
      ((s.intake ⟨opRead, r.addr, w, none, e⟩).regRead (portOrigin e.port) r).2.answer e.port (s.requestOf ⟨opRead, r.addr, w, none, e⟩)
        (.value ((s.intake ⟨opRead, r.addr, w, none, e⟩).regRead (portOrigin e.port) r).1) := by
  rw [State.submit_ready s ⟨opRead, r.addr, w, none, e⟩ h (by simp [opRead]) (by simp [opRead])]
  have hp : (s.intake ⟨opRead, r.addr, w, none, e⟩).perform e.port (s.requestOf ⟨opRead, r.addr, w, none, e⟩)
      = (s.intake ⟨opRead, r.addr, w, none, e⟩).readAt (portOrigin e.port) r.addr := rfl
  simp only [hp, State.readAt, decodeAddr_addr]

/-! ## What a host row does beside its answer -/

theorem State.intake_butForPorts (s : State) (f : HostFrame) : ButForPorts (s.intake f) s := by rfl

theorem State.answer_butForPorts (s : State) (p : PortId) (q : Request) (rep : Reply) : ButForPorts (s.answer p q rep) s := by rfl

theorem State.intake_otherPort (s : State) (f : HostFrame) (p : PortId) (h : p ≠ f.env.port) : (s.intake f).port p = s.port p := by
  cases p <;> cases hq : f.env.port <;> simp_all [State.intake, State.modPort, State.port, State.takeTicket, State.modTicket, tmod, pix]

theorem State.answer_otherPort (s : State) (o p : PortId) (q : Request) (rep : Reply) (h : p ≠ o) : (s.answer o q rep).port p = s.port p := by
  cases p <;> cases o <;> simp_all [State.answer, State.modPort, State.port, tmod, pix]

/-- A frame that is performed at once, by what its request does to the state in which it arrives. -/
theorem State.submit_acts (s : State) (f : HostFrame) (g : State → State) (rep : Reply)
    (h : s.hostReady f.env f.op = true) (h0 : f.op ≠ 0#8) (h7 : f.op ≠ 7#8)
    (hact : ∀ u, u = s.intake f → u.perform f.env.port (s.requestOf f) = (g u, rep))
    (hports : (g (s.intake f)).ports = (s.intake f).ports)
    (hw : (g (s.intake f)).waitsRelease f.env.port (s.requestOf f) = false) :
    (s.submit f).answers f.env rep.status rep.info rep.data = true ∧ RowActs (s.submit f) s f.env g := by
  rw [State.submit_ready s f h h0 h7, hact _ rfl]
  dsimp only
  have hp : ∀ p, (g (s.intake f)).port p = (s.intake f).port p := fun p => by simp [State.port, hports]
  refine ⟨?_, ⟨_, State.intake_butForPorts s f, State.answer_butForPorts _ _ _ _⟩, ?_⟩
  · refine State.answer_answers _ f.env (s.requestOf f) rep (mkResponse (s.requestOf f) .done) ?_ rfl hw
    rw [hp]; simp
  · intro p _ hne
    rw [State.answer_otherPort _ _ _ _ _ hne, hp, State.intake_otherPort _ _ _ hne]

theorem State.perform_writeReg (u s : State) (e : Env) (r : Reg) (w : Word) (obs : Option Int) :
    u.perform e.port (s.requestOf ⟨opWrite, r.addr, w, obs, e⟩) =
      (if ((u.regWrite (portOrigin e.port) r s.tickLo w obs).2).status = .ok then
          State.mirrorWrite u (u.regWrite (portOrigin e.port) r s.tickLo w obs).1 (portOrigin e.port) r w
        else (u.regWrite (portOrigin e.port) r s.tickLo w obs).1, (u.regWrite (portOrigin e.port) r s.tickLo w obs).2) := by
  have hp : u.perform e.port (s.requestOf ⟨opWrite, r.addr, w, obs, e⟩) = u.writeAt (portOrigin e.port) r.addr s.tickLo w obs := rfl
  rw [hp, State.writeAt, decodeAddr_addr]

/-- A write of a register that is not of the mirrored set. -/
theorem State.submit_write_acts (s : State) (e : Env) (r : Reg) (w : Word) (obs : Option Int) (g : State → State) (rep : Reply)
    (h : s.hostReady e opWrite = true) (hm : r.mirrored = false) (hr : r ≠ .flt .release)
    (hact : ∀ u, u = s.intake ⟨opWrite, r.addr, w, obs, e⟩ → u.regWrite (portOrigin e.port) r s.tickLo w obs = (g u, rep))
    (hports : (g (s.intake ⟨opWrite, r.addr, w, obs, e⟩)).ports = (s.intake ⟨opWrite, r.addr, w, obs, e⟩).ports) :
    (s.submit ⟨opWrite, r.addr, w, obs, e⟩).answers e rep.status rep.info rep.data = true
      ∧ RowActs (s.submit ⟨opWrite, r.addr, w, obs, e⟩) s e g := by
  refine State.submit_acts s ⟨opWrite, r.addr, w, obs, e⟩ g rep h (by simp [opWrite]) (by simp [opWrite]) ?_ hports ?_
  · intro u hu
    rw [State.perform_writeReg, hact u hu]
    simp [State.mirrorWrite, hm]
  · simp [State.waitsRelease, decodeAddr_addr, hr]

end Sys2Proof.Machine
end

