-- ==== Sys2Proof/Laws/Reports.lean ====
section
/-! SUPPORT. What a fault report cannot reach: a part of the state that the operations a report is built from keep, every report
keeps. -/

namespace Sys2Proof.Machine

/-- A part of the state that no operation of a fault report writes. -/
structure OffReports {α : Type} (P : State → α) : Prop where
  safe : ∀ s m, P (State.sendSafe s m) = P s
  role : ∀ s, P (State.roleRelease s) = P s
  slot : ∀ s k f, P (State.modSlot s k f) = P s
  entry : ∀ s k c a b t, P (State.faultEntry s k c a b t) = P s
  record : ∀ s c o f p q, P (State.report s c o f p q) = P s
  trigger : ∀ s k c i e, P (State.faultTrigger s k c i e) = P s
  release : ∀ s x c, P (State.sendRing s x c) = P s
  autos : ∀ (s : State) m, P { s with flt := { s.flt with autos := m } } = P s

variable {α : Type} {P : State → α}

theorem OffReports.ite (_ : OffReports P) (c : Prop) [Decidable c] (a b s : State) (ha : P a = P s) (hb : P b = P s) :
    P (if c then a else b) = P s := by split <;> assumption

theorem OffReports.event (h : OffReports P) (s : State) (g c : Nat) (o : Origin) (p q : Word) : P (s.event g c o p q) = P s := h.record ..

theorem OffReports.faultRecord (h : OffReports P) (s : State) (k : Fin 256) (c : Nat) (a b : Bool) (p q : Word) :
    P (s.faultRecord k c a b p q) = P s := h.record ..

theorem OffReports.noteRaise (h : OffReports P) (s : State) (r : Raising) (c d t : Nat) : P (s.noteRaise r c d t) = P s := h.slot ..

theorem OffReports.react (h : OffReports P) (s : State) (k : Fin 256) (r : Nat) : P (s.react k r) = P s := by
  unfold State.react
  exact h.ite _ _ _ _ ((h.role _).trans (h.safe _ _)) (h.safe _ _)

theorem OffReports.raiseCore (h : OffReports P) (s : State) (r : Raising) (t : Nat) : P (s.raiseCore r t) = P s := by
  unfold State.raiseCore
  refine (h.trigger _ _ _ _ _).trans ((h.entry _ _ _ _ _ _).trans ?_)
  have h1 := (h.faultRecord (s.noteRaise r (s.settle r.k r.m t).1 (s.settle r.k r.m t).2 t) r.k (s.settle r.k r.m t).1 false r.inj
    (faultP1 r.m (s.settle r.k r.m t).2 true r.late) r.p2).trans (h.noteRaise s r _ _ _)
  exact h.ite _ _ _ _ ((h.react _ _ _).trans h1) h1

theorem OffReports.checkLoss (h : OffReports P) (b s : State) : P (State.checkLoss b s) = P s := by
  unfold State.checkLoss
  exact h.ite _ _ _ _ (h.raiseCore _ _ _) rfl

theorem OffReports.autoReleaseOn (h : OffReports P) (s : State) (n : Fin 16) : P (s.autoReleaseOn n) = P s := by
  unfold State.autoReleaseOn
  exact h.ite _ _ _ _ rfl (h.ite _ _ _ _ (h.autos _ _) (h.release _ _ _))

theorem OffReports.autoRelease (h : OffReports P) (s : State) (k : Fin 256) (m : BitVec 16) : P (s.autoRelease k m) = P s := by
  unfold State.autoRelease
  refine h.ite _ _ _ _ ?_ rfl
  exact forEach_keeps P _ _ (fun n t => h.autoReleaseOn t n) s

theorem OffReports.raiseAt (h : OffReports P) (s : State) (r : Raising) (t : Nat) : P (s.raiseAt r t) = P s := by
  have h1 : P (State.checkLoss s (s.raiseCore r t)) = P s := (h.checkLoss _ _).trans (h.raiseCore _ _ _)
  unfold State.raiseAt
  exact h.ite _ _ _ _ ((h.autoRelease _ _ _).trans ((h.slot _ _ _).trans h1)) h1

theorem OffReports.raise (h : OffReports P) (s : State) (r : Raising) : P (s.raise r) = P s := h.raiseAt _ _ _

theorem OffReports.raiseHost (h : OffReports P) (s : State) (k : Fin 31) : P (s.raiseHost k) = P s := h.raise _ _

theorem OffReports.raiseLive (h : OffReports P) (s : State) (k : Fin 256) (p : Word) : P (s.raiseLive k p) = P s := by
  unfold State.raiseLive
  exact h.ite _ _ _ _ rfl (h.raise _ _)

theorem OffReports.clearCauseAt (h : OffReports P) (s : State) (k : Fin 256) (m : Nat) (i : Bool) (t : Nat) (l : Bool) :
    P (s.clearCauseAt k m i t l) = P s := by
  unfold State.clearCauseAt
  dsimp only
  refine h.ite _ _ _ _ rfl ?_
  have h1 : ∀ s1 : State, P s1 = P s → P (State.checkLoss s s1) = P s := fun s1 e => (h.checkLoss _ _).trans e
  refine h.ite _ _ _ _ (h1 _ ?_) ((h.autoRelease _ _ _).trans ((h.slot _ _ _).trans (h1 _ ?_)))
  all_goals
    refine h.ite _ _ _ _ ?_ ?_
    · exact (h.faultRecord _ _ _ _ _ _ _).trans ((h.entry _ _ _ _ _ _).trans (h.slot _ _ _))
    · exact (h.entry _ _ _ _ _ _).trans (h.slot _ _ _)

theorem OffReports.clearCause (h : OffReports P) (s : State) (k : Fin 256) (m : Nat) (i : Bool) : P (s.clearCause k m i) = P s :=
  h.clearCauseAt _ _ _ _ _ _

theorem OffReports.clearLive (h : OffReports P) (s : State) (k : Fin 256) : P (s.clearLive k) = P s := h.clearCause _ _ _ _

theorem OffReports.follow (h : OffReports P) (s : State) (k : Fin 256) (l : Bool) : P (s.follow k l) = P s := by
  unfold State.follow
  exact h.ite _ _ _ _ (h.raiseLive _ _ _) (h.clearLive _ _)

/-! ## The recorder, the channels and the Ringmaster -/

theorem State.recCore_of_recd {t s : State} (h : t.recd = s.recd) : t.recd.core = s.recd.core := congrArg Recorder.core h

theorem mergeTail_core (e : Staged) (c : Nat) (r : Recorder) : (mergeTail e c r).core = r.core := by
  unfold mergeTail; split <;> rfl

theorem arriveEvent_core (e : Staged) (c : Nat) (r : Recorder) : (arriveEvent e c r).core = r.core := by
  unfold arriveEvent; repeat' split
  all_goals first | rfl | exact mergeTail_core _ _ _

theorem State.report_recCore (s : State) (c : BitVec 16) (o : Origin) (f : Nat) (p q : Word) : (s.report c o f p q).recd.core = s.recd.core :=
  arriveEvent_core _ _ _

theorem State.endCapture_recCore (s : State) (b : Byte) : (s.endCapture b).recd.core = s.recd.core := by
  unfold State.endCapture; split
  · rfl
  · exact (State.report_recCore _ _ _ _ _ _).trans (State.recCore_of_recd (by simp [State.writeHeader_frame _ _ _]))

theorem State.storeFrame_recCore (s : State) (f : Frame) : (s.storeFrame f).recd.core = s.recd.core := by
  unfold State.storeFrame; split
  · rfl
  · split
    · rfl
    · split
      · exact State.endCapture_recCore _ _
      · exact State.recCore_of_recd rfl

theorem State.startCapture_recCore (s : State) (a b : Nat) (c : Word) (o : Origin) (d : Nat) :
    (s.startCapture a b c o d).recd.core = s.recd.core := by
  unfold State.startCapture; dsimp only; split
  · exact (State.report_recCore _ _ _ _ _ _).trans (State.recCore_of_recd (by simp))
  · refine (foldl_keeps (fun t : State => t.recd.core) _ _ (fun t x => State.storeFrame_recCore t x) _).trans ?_
    exact (State.report_recCore _ _ _ _ _ _).trans (State.recCore_of_recd (by simp [State.writeHeader_frame _ _ _]))

theorem State.trigger_recCore (s : State) (a b : Nat) (c : Word) (o : Origin) (d : Nat) : (s.trigger a b c o d).recd.core = s.recd.core := by
  unfold State.trigger; split
  · rfl
  · split
    · exact State.report_recCore _ _ _ _ _ _
    · split
      · exact State.startCapture_recCore _ _ _ _ _ _
      · rfl

theorem State.event_recCore (s : State) (g c : Nat) (o : Origin) (p q : Word) : (s.event g c o p q).recd.core = s.recd.core :=
  State.report_recCore _ _ _ _ _ _

theorem State.setRole_recCore (s : State) (r : Role) (n : Nat) (p : Word) : (s.setRole r n p).recd.core = s.recd.core := by
  unfold State.setRole; split
  · rfl
  · refine (State.event_recCore _ _ _ _ _ _).trans ?_
    split <;> exact State.recCore_of_recd (by simp [State.tellRole_frame _ _ _])

theorem State.setUq_recCore (s : State) (u : BitVec 10) (n : Nat) : (s.setUq u n).recd.core = s.recd.core := by
  unfold State.setUq; split
  · rfl
  · split
    · rfl
    · refine (State.recCore_of_recd (State.sendState_frame _).2.2.1).trans ?_
      repeat' split
      all_goals simp only [State.setRole_recCore, State.event_recCore, State.modPair_recd]

theorem State.endSwap_recCore (s : State) (d : Bool) (c : Nat) : (s.endSwap d c).recd.core = s.recd.core := by
  unfold State.endSwap; split
  · rfl
  · exact State.event_recCore _ _ _ _ _ _

theorem State.sendSource_recd (s : State) (b : Bool) : (s.sendSource b).recd = s.recd := by simp [State.sendSource_frame _ _]

theorem State.giveUp_recCore (s : State) (a b : Nat) : (s.giveUp a b).recd.core = s.recd.core := by
  unfold State.giveUp
  refine (State.recCore_of_recd (State.sendState_frame _).2.2.1).trans ((State.setRole_recCore _ _ _ _).trans ?_)
  rw [State.sendSource_recd, State.modPair_recd, State.setUq_recCore]
  split
  · exact State.endSwap_recCore _ _ _
  · rfl

theorem State.faultTrigger_recCore (s : State) (k c : Nat) (i : Bool) (e : Staged) : (s.faultTrigger k c i e).recd.core = s.recd.core := by
  unfold State.faultTrigger; split
  · dsimp only; split
    · exact State.trigger_recCore _ _ _ _ _ _
    · refine Eq.trans ?_ (State.trigger_recCore s 1 k (s.recd.tailSeq e) .internal s.fab.stepNo)
      unfold State.markRecord; split <;> rfl
  · rfl

theorem recCore_offReports : OffReports (fun s : State => s.recd.core) where
  safe s m := by simp [State.sendSafe_frame _ _]
  role s := by
    unfold State.roleRelease; split
    · exact State.giveUp_recCore _ _ _
    · rfl
  slot s k f := rfl
  entry s k c a b t := by simp [State.faultEntry_frame _ _ _ _ _ _]
  record s c o f p q := State.report_recCore _ _ _ _ _ _
  trigger s k c i e := State.faultTrigger_recCore _ _ _ _ _
  release s x c := State.recCore_of_recd (by simp [State.sendRing_frame _ _ _])
  autos s m := rfl

/-! ## Channels and the Ringmaster through a release of the role -/

/-- A fault report reaches no channel. -/
theorem chans_offReports : OffReports (fun s : State => s.chans) where
  safe s m := by simp [State.sendSafe_frame _ _]
  role s := by simp [State.roleRelease_frame _]
  slot s k f := rfl
  entry s k c a b t := by simp [State.faultEntry_frame _ _ _ _ _ _]
  record s c o f p q := rfl
  trigger s k c i e := by simp [State.faultTrigger_frame _ _ _ _ _]
  release s x c := by simp [State.sendRing_frame _ _ _]
  autos s m := rfl

theorem Pair.takeRole_core (p : Pair) (r : Role) (c : Nat) : (p.takeRole r c).core = p.core := by
  unfold Pair.takeRole Pair.refresh; rfl

theorem State.modPair_pairCore (s : State) (f : Pair → Pair) (h : ∀ p, (f p).core = p.core) : (s.modPair f).pair.core = s.pair.core := h _
theorem State.event_pair (s : State) (g c : Nat) (o : Origin) (p q : Word) : (s.event g c o p q).pair = s.pair := rfl
theorem State.post_pairCore (s : State) (f : TzFrame) : (s.post f).pair.core = s.pair.core := by
  unfold State.post; split
  · exact State.modPair_pairCore _ _ (fun p => by unfold Pair.enqueue; rfl)
  · rfl
theorem State.sendHeartbeat_pairCore (s : State) : s.sendHeartbeat.pair.core = s.pair.core := by
  unfold State.sendHeartbeat; rw [State.post_pairCore]; rfl
theorem State.sendQual_pairCore (s : State) : s.sendQual.pair.core = s.pair.core := by
  unfold State.sendQual; rw [State.post_pairCore]; rfl
theorem State.sendState_pairCore (s : State) : s.sendState.pair.core = s.pair.core := by
  unfold State.sendState; split
  · rw [State.sendQual_pairCore, State.sendHeartbeat_pairCore]
  · rfl
theorem State.sendRing_pairCore (s : State) (x : RingId) (c : RingCmd) : (s.sendRing x c).pair.core = s.pair.core := congrArg Pair.core (by simp [State.sendRing_frame _ _ _])
theorem State.tellRole_pairCore (s : State) (b : Bool) (p : BitVec 16) : (s.tellRole b p).pair.core = s.pair.core := by
  unfold State.tellRole; split
  · rfl
  · simp only [List.foldl_cons, List.foldl_nil, State.sendRing_pairCore]; rfl

theorem State.pair_core_of_pair {t s : State} (h : t.pair = s.pair) : t.pair.core = s.pair.core := congrArg Pair.core h

theorem State.setRole_pairCore (s : State) (r : Role) (k : Nat) (p : Word) : (s.setRole r k p).pair.core = s.pair.core := by
  unfold State.setRole; split
  · rfl
  · simp only [State.event, State.report, apply_ite State.pair]
    split
    · exact Pair.takeRole_core _ _ _
    · exact (State.tellRole_pairCore _ _ _).trans (Pair.takeRole_core _ _ _)

theorem State.endSwap_pairCore (s : State) (d : Bool) (c : Nat) : (s.endSwap d c).pair.core = s.pair.core := by
  unfold State.endSwap; split <;> rfl

theorem State.setUq_pairCore (s : State) (u : BitVec 10) (k : Nat) : (s.setUq u k).pair.core = s.pair.core := by
  unfold State.setUq; split
  · rfl
  · split
    · rfl
    · simp only [State.sendState_pairCore]
      split
      · rw [State.setRole_pairCore, State.event_pair]; exact State.modPair_pairCore _ _ (fun p => rfl)
      · split
        · rw [State.setRole_pairCore, State.event_pair]; exact State.modPair_pairCore _ _ (fun p => rfl)
        · rw [State.event_pair]; exact State.modPair_pairCore _ _ (fun p => rfl)

theorem State.giveUp_pairCore (s : State) (a b : Nat) : (s.giveUp a b).pair.core = s.pair.core := by
  unfold State.giveUp State.sendSource
  rw [State.sendState_pairCore, State.setRole_pairCore, State.sendRing_pairCore]
  refine (State.modPair_pairCore _ _ (fun p => rfl)).trans ((State.setUq_pairCore _ _ _).trans ?_)
  split
  · exact State.endSwap_pairCore _ _ _
  · rfl

/-- A fault report reaches nothing of the Ringmaster but what giving up the active role changes. -/
theorem pairCore_offReports : OffReports (fun s : State => s.pair.core) where
  safe s m := State.pair_core_of_pair (by simp [State.sendSafe_frame _ _])
  role s := by
    unfold State.roleRelease; split
    · exact State.giveUp_pairCore _ _ _
    · rfl
  slot s k f := rfl
  entry s k c a b t := State.pair_core_of_pair (by simp [State.faultEntry_frame _ _ _ _ _ _])
  record s c o f p q := rfl
  trigger s k c i e := State.pair_core_of_pair (by simp [State.faultTrigger_frame _ _ _ _ _])
  release s x c := State.sendRing_pairCore _ _ _
  autos s m := rfl

/-- A fault report reaches nothing of a Ring but the frames that wait for it. -/
theorem ringCores_offReports : OffReports State.ringCores where
  safe s m := State.sendSafe_ringCores s m
  role s := State.roleRelease_ringCores s
  slot s k f := rfl
  entry s k c a b t := State.faultEntry_ringCores s k c a b t
  record s c o f p q := rfl
  trigger s k c i e := State.faultTrigger_ringCores s k c i e
  release s x c := State.sendRing_ringCores s x c
  autos s m := rfl

/-- A fault report reaches nothing of the collector but its slots. -/
theorem fltCore_offReports : OffReports (fun s : State => s.flt.core) where
  safe s m := congrArg Collector.core (by simp [State.sendSafe_frame _ _])
  role s := congrArg Collector.core (by simp [State.roleRelease_frame _])
  slot s k f := rfl
  entry s k c a b t := congrArg Collector.core (by simp [State.faultEntry_frame _ _ _ _ _ _])
  record s c o f p q := rfl
  trigger s k c i e := congrArg Collector.core (by simp [State.faultTrigger_frame _ _ _ _ _])
  release s x c := congrArg Collector.core (by simp [State.sendRing_frame _ _ _])
  autos s m := rfl

/-! ## The frame of a report -/

theorem State.raise_reports (s : State) (r : Raising) : ReportFrame (s.raise r) s :=
  ⟨by simp [State.raise_frame _ _, KeepsHost], by simp [State.raise_frame _ _, KeepsUnits], recCore_offReports.raise s r, chans_offReports.raise s r,
    fun x _ => State.core_of_ringCores (ringCores_offReports.raise s r) x, pairCore_offReports.raise s r, fltCore_offReports.raise s r⟩

theorem State.raiseLive_reports (s : State) (k : Fin 256) (p : Word) : ReportFrame (s.raiseLive k p) s :=
  ⟨by simp [State.raiseLive_frame _ _ _, KeepsHost], by simp [State.raiseLive_frame _ _ _, KeepsUnits], recCore_offReports.raiseLive s k p, chans_offReports.raiseLive s k p,
    fun x _ => State.core_of_ringCores (ringCores_offReports.raiseLive s k p) x, pairCore_offReports.raiseLive s k p, fltCore_offReports.raiseLive s k p⟩

theorem State.clearCause_reports (s : State) (k : Fin 256) (m : Nat) (i : Bool) : ReportFrame (s.clearCause k m i) s :=
  ⟨by simp [State.clearCause_frame _ _ _ _, KeepsHost], by simp [State.clearCause_frame _ _ _ _, KeepsUnits], recCore_offReports.clearCause s k m i, chans_offReports.clearCause s k m i,
    fun x _ => State.core_of_ringCores (ringCores_offReports.clearCause s k m i) x, pairCore_offReports.clearCause s k m i,
    fltCore_offReports.clearCause s k m i⟩

theorem State.clearLive_reports (s : State) (k : Fin 256) : ReportFrame (s.clearLive k) s := s.clearCause_reports k 0 false

theorem State.checkLoss_reports (b s : State) : ReportFrame (State.checkLoss b s) s :=
  ⟨by simp [State.checkLoss_frame _ _, KeepsHost], by simp [State.checkLoss_frame _ _, KeepsUnits], recCore_offReports.checkLoss b s, chans_offReports.checkLoss b s,
    fun x _ => State.core_of_ringCores (ringCores_offReports.checkLoss b s) x, pairCore_offReports.checkLoss b s, fltCore_offReports.checkLoss b s⟩

theorem State.autoRelease_reports (s : State) (k : Fin 256) (m : BitVec 16) : ReportFrame (s.autoRelease k m) s :=
  ⟨by simp [State.autoRelease_frame _ _ _, KeepsHost], by simp [State.autoRelease_frame _ _ _, KeepsUnits], recCore_offReports.autoRelease s k m, chans_offReports.autoRelease s k m,
    fun x _ => State.core_of_ringCores (ringCores_offReports.autoRelease s k m) x, pairCore_offReports.autoRelease s k m,
    fltCore_offReports.autoRelease s k m⟩

theorem ReportFrame.trans {a b c : State} (h : ReportFrame a b) (g : ReportFrame b c) : ReportFrame a c := by
  obtain ⟨h1, h2, h3, h4, h5, h6, h7⟩ := h
  obtain ⟨g1, g2, g3, g4, g5, g6, g7⟩ := g
  refine ⟨?_, ?_, h3.trans g3, h4.trans g4, fun x m => (h5 x m).trans (g5 x m), h6.trans g6, h7.trans g7⟩
  · simp only [KeepsHost] at *; simp [h1, g1]
  · simp only [KeepsUnits] at *; simp [h2, g2]

end Sys2Proof.Machine
end

