-- ==== Sys2Proof/WellFormed.lean ====
section
/-! DEFINITION. Which terms of `Instr` stand for a command: the operands whose type admits more than the row does. -/

namespace Sys2Proof

/-- The operations of R74, by their codes. -/
def knownOps : List Byte := [0x00#8, 0x01#8, 0x02#8, 0x03#8, 0x04#8, 0x05#8, 0x06#8, 0x07#8]

/-- A tick's measurements name each channel of the Ring and the four rails (R206, R224). -/
def TickObs.wellFormed (o : TickObs) : Bool := o.rails.length = 4 && o.pads.length = 8

/-- A command is well formed: an unknown operation is none of R74's, a MIRROR frame has one of its two lengths (R444), and the
measurements of a tick and of a telemetry update are complete (R206, R465). -/
def Instr.wellFormed (i : Instr) : Bool :=
  match i with
  | .unknownOp _ op _ _ => !knownOps.contains op
  | .mirror b => b.length = 16 || b.length = 32
  | .ringStepTick _ o => o.wellFormed
  | .tapMoveUp _ o => o.wellFormed
  | .tapOverload _ _ o => o.wellFormed
  | .t3Availability _ _ o => o.wellFormed
  | .tlmUpdate o => o.energy.length = 16
  | _ => true

end Sys2Proof
end

