-- ==== Sys2Proof/Tests/Slice0.lean ====
section
/-! SUPPORT. Tests: ill-formed terms that the check refuses, the check values of R410, and for every statement with hypotheses the
states and operands that meet them together, clause by clause. -/

namespace Sys2Proof.Machine

/-! ## States of the tests -/

/-- A whole frame on HP0 that names no ticket, with its LEN. -/
def wE (len : Byte) : Env := ⟨.hp0, 0xFF#8, len, 0#16, true, true, false, 0⟩

/-- A block that runs, 5 s after its start. -/
def wRun : State := { State.reset with phase := .run, clock := 5000000 }

/-- It with both Rings up and configured. -/
def wUp : State :=
  { wRun with rings := Vector.replicate 2 { Ring.reset with
      logic := true, vfOk := true, offered := true, link := true, everUp := true, ringLost := false, configured := true, hostConf := true, hostVf := true
      lastHostBeat := 5000000, lastRingBeat := 5000000 } }

/-- It as a standby of a pair with both paths up. -/
def wPair : State :=
  { wUp with
    img.paired := true
    pair := { Pair.reset with
      role := .standby, mayDrive := false, standby := true, tzUp := true, lastFrame := 5000000, lastBeat := 5000000, partnerRole := 6#4
      peerSeen := true, peerMax := 2#4, peerMin := 1#4, partnerId := true } }

/-- It as the active unit of the pair. -/
def wAct : State :=
  { wPair with
    pair.role := .active, pair.mayDrive := true, pair.standby := false, pair.tlQual := true, pair.sourceOn := true, pair.toggleAt := 5000000
    pair.partnerRole := 2#4, fab.stepN := 20 }

/-- A staged event, and a record. -/
def wStaged : Staged := ⟨0x3005#16, 0#8, 0#8, 1#32, 2#32, 0#48, 0#16, 0#48, none⟩
def wRecord : Record := ⟨0x3005#16, 0#8, 0#8, 9#32, 0#48, 1#24, 0#16, 1#32, 2#32, 0#16⟩

/-- A closed capture of one frame. -/
def wCapture : Capture :=
  { capno := 1, at_ := 0, endFlags := 0#8, crc := 0#32, firstTick := 0, firstStep := 0, trigStep := 0, trigSrc := 3, trigK := 0, pre := 0, post := 0
    extra := 0#16, dropped := 0#16, length := 156, trigSeq := 0#32, stepN := 10, rawCh := 0xFFFF#16, frames := 1 }

/-- A KEY frame of a step, with every destination at 0. -/
def wFrame (step : Nat) : List Byte :=
  let body := leBytesN 8 step ++ leBytesN 2 92 ++ [2#8] ++ List.replicate 79 0#8
  body ++ leBytesN 2 (crc16 body).toNat

/-- A re-run at the frame of that capture. -/
def wRerun (left : Nat) : Rerun :=
  { capno := 1, due := 0, at_ := 64, left := left, stopAtDiv := true, firstTick := 0, firstStep := 0, fab := FabState.reset, prev := none }

/-- The block in REPLAY mode with that capture in its store. -/
def wRpl : State :=
  { wRun with rpl.on := true, rpl.captures := 1, rpl.used := 156, rpl.nextNo := 2
              cells := Memory.writeAll (Memory.writeAll [] 0x80000 (wCapture.header true)) 0x80040 (wFrame 0) }

/-- An image without records. -/
def wImage : Image :=
  { crc := 0#32, length := 64#32, version := 0#32, fallbackOk := false, chan := [], ring := [], adcseq := [], filt := [], fabric := none, wheel := []
    fault := [], safe := [], replay := none, pair := none, bg := none, wake := none, claims := [] }

/-- The block while CU1 scans a length of an address space. -/
def wScan (n : BitVec 21) (space : BitVec 3) : State :=
  { wRun with chks := wRun.chks.set 1 { Chk.reset with st := .scanning, len := n, space := space } }

/-- A mirrored change, in flight. -/
def wMirror : Mirror := ⟨0x050000#24, 5#32, false, none, 7#16⟩
def wFlight : Flight := ⟨wMirror, 1, 4999000⟩

/-- An epoch. -/
def wEpoch : Epoch := ⟨3#32, 9#32, 0#16, List.replicate 1136 0#8⟩

/-- A MIRROR frame: address, flags, word and MIRROR_SEQ. -/
def wMirrorFrame (a : Addr) (flags : Nat) (w : Word) (seq : Nat) : List Byte :=
  leBytesN 3 a.toNat ++ leBytesN 1 flags ++ leBytes w ++ leBytesN 2 seq ++ leBytesN 6 0

/-- A segment of an epoch. -/
def wSeg (num ix cnt : Nat) (b : List Byte) : List Byte := leBytesN 2 num ++ leBytesN 1 ix ++ leBytesN 1 cnt ++ b

/-- That epoch, whole, as a full one (R440). -/
def wFullEpoch : List Byte :=
  let body := leBytes 3#32 ++ leBytes 9#32 ++ leBytesN 2 1164 ++ List.replicate 14 0#8 ++ List.replicate 1136 0#8
  body ++ leBytes (crc32 body)

/-- A request in execution, a response, a report and an accepted change. -/
def wReq : Request := ⟨3, opWrite, 0#24, 1#8, 0#16, 0x00010001#32, 0#32, none, none⟩
def wResp : Response := mkResponse wReq .done
def wReport (k : Fin 256) (raise : Bool) : Report := ⟨k, 0#8, raise, 0#32, 0, 5000000, false⟩
def wReady : Ticket := { st := .ready .hp0 1000 0, resp := some wResp }

/-- An image session that takes words. -/
def wRx (written : BitVec 32768) : State :=
  { wRun with img := { wRun.img with load := .receiving, slots := wRun.img.slots.map (fun k => { k with st := .receiving, written := written }) } }

/-- Both Rings up, and channel `n` in function `f` at both dice, changed by `h`. -/
def wCh (n : Fin 16) (f : Nat) (h : Chan → Chan) : State :=
  wUp.modChan n (fun c => h { c with
    cfg := { c.cfg with mode := word (0x1F00 + f) }
    rng := { c.rng with mode := word (0x1F00 + f) }
    hostFunc := BitVec.ofNat 4 f })

/-- Its input path, stage, analog part, electrode or presence loop changed. -/
def wIn (n : Fin 16) (f : Nat) (h : InputPath → InputPath) : State := wCh n f (fun c => { c with inp := h c.inp })
def wSt (n : Fin 16) (f : Nat) (h : Stage → Stage) : State := wCh n f (fun c => { c with stage := h c.stage })
def wAn (n : Fin 16) (f : Nat) (h : Analog → Analog) : State := wCh n f (fun c => { c with an := h c.an })
def wTc (n : Fin 16) (h : Touch → Touch) : State := wCh n 13 (fun c => { c with tch := h c.tch })
def wPl (n : Fin 16) (h : Plug → Plug) : State := wCh n 14 (fun c => { c with plg := h c.plg })

/-- The Ring's copy of the channel's registers changed. -/
def Chan.wRng (h : ChanCfg → ChanCfg) (c : Chan) : Chan := { c with rng := h c.rng }

/-- Both Rings up, one changed. -/
def wRg (x : RingId) (h : Ring → Ring) : State := wUp.modRing x h
def wFs (x : RingId) (h : Fsk → Fsk) : State := wRg x (fun r => { r with fsk := h r.fsk })
def wAd (x : RingId) (h : Adc → Adc) : State := wUp.modAdc x h
def wFl (n : Fin 16) (h : Chain → Chain) : State :=
  wUp.modChain n h

/-- The electrode's baseline at 50 pF. -/
def wSeeded (t : Touch) : Touch := { t with base8 := 12800000, seeded := true }

/-- The Ring's ADC with its reference settled, and with an entry 5 that converts channel `n` every 4 µs at P1. -/
def wSettled (a : Adc) : Adc := { a with settled := true }
def wRound (n : Nat) (a : Adc) : Adc :=
  { a with settled := true, entries := a.entries.set 5 (mkEntryWord n 0 1), place := a.place.set 5 (some (1, 2)) }

/-- Slice 4 of a Ring's ADC changed. -/
def wSlice (h : Slice → Slice) (a : Adc) : Adc := { a with slices := a.slices.set 4 (h (Slice.reset .calibrating)) }

/-- Channel 3 as AI_CURRENT, converted by entry 5, with its chain changed by `h`. -/
def wConv (h : Chain → Chain) : State := ((wCh 3 9 id).modAdc .a (wRound 3)).modChain 3 h

/-- It with a Juggler claim of the channel. -/
def wShare : State :=
  let s := (wCh 3 9 id).modAdc .a (wRound 3)
  { s with img := { s.img with claims := [⟨2, 0, 3, 1, 3, 1000, false⟩] } }

end Sys2Proof.Machine

open Sys2Proof Sys2Proof.Machine

section
set_option Elab.async false

/-! ## Well-formed terms: one ill-formed term for each check -/

theorem test_unknownOp_refuses_a_known_operation : (Instr.unknownOp (wE 1) 0x03#8 0#24 0#32).wellFormed = false := by decide
theorem test_mirror_refuses_another_length : (Instr.mirror (List.replicate 17 0#8)).wellFormed = false := by decide
theorem test_ringStepTick_refuses_three_rails : (Instr.ringStepTick .a ⟨[1, 2, 3], List.replicate 8 0⟩).wellFormed = false := by decide
theorem test_tapMoveUp_refuses_seven_pads : (Instr.tapMoveUp 3 ⟨[1, 2, 3, 4], List.replicate 7 0⟩).wellFormed = false := by decide
theorem test_tapOverload_refuses_five_rails : (Instr.tapOverload .a 1 ⟨[1, 2, 3, 4, 5], List.replicate 8 0⟩).wellFormed = false := by decide
theorem test_t3Availability_refuses_no_pads : (Instr.t3Availability .a true ⟨[1, 2, 3, 4], []⟩).wellFormed = false := by decide
theorem test_tlmUpdate_refuses_fifteen_energies :
    (Instr.tlmUpdate ⟨0#16, 0#8, 0#8, 0#16, 0#16, List.replicate 15 0⟩).wellFormed = false := by decide
theorem test_mirror_takes_both_lengths :
    (Instr.mirror (List.replicate 16 0#8)).wellFormed = true ∧ (Instr.mirror (List.replicate 32 0#8)).wellFormed = true := by decide

/-! ## Check values: the parameter sets of R410 over the ASCII string "123456789" -/

/-- The string. -/
def ascii9 : List Byte := [0x31#8, 0x32#8, 0x33#8, 0x34#8, 0x35#8, 0x36#8, 0x37#8, 0x38#8, 0x39#8]
/-- The result of a unit with these parameters over it. -/
def checkOf (cfg poly init xorout : Word) : Word :=
  ({ Chk.reset with cfg := cfg, poly := poly, run := init, xorout := xorout }.feed ascii9).result

theorem test_check_frames : checkOf 0x00020010#32 0x1021#32 0xFFFF#32 0#32 = 0x29B1#32 := by decide +kernel
theorem test_check_image : checkOf 0x00020320#32 0x04C11DB7#32 0xFFFFFFFF#32 0xFFFFFFFF#32 = 0xCBF43926#32 := by decide +kernel
theorem test_check_castagnoli : checkOf 0x00020320#32 0x1EDC6F41#32 0xFFFFFFFF#32 0xFFFFFFFF#32 = 0xE3069283#32 := by decide +kernel
theorem test_check_8005_reflected : checkOf 0x00020310#32 0x8005#32 0xFFFF#32 0#32 = 0x4B37#32 := by decide +kernel
theorem test_check_1021_reflected : checkOf 0x00020310#32 0x1021#32 0xFFFF#32 0xFFFF#32 = 0x906E#32 := by decide +kernel
theorem test_check_8_bit : checkOf 0x00020008#32 0x07#32 0x00#32 0#32 = 0xF4#32 := by decide +kernel
theorem test_check_5_bit : checkOf 0x00020305#32 0x05#32 0x1F#32 0x1F#32 = 0x19#32 := by decide +kernel
theorem test_crc16_of_frames : crc16 ascii9 = 0x29B1#16 := by decide +kernel
theorem test_crc32_of_images : crc32 ascii9 = 0xCBF43926#32 := by decide +kernel

/-! ## Witnesses: states and operands that meet the hypotheses of each clause -/

theorem witness_EveryCommandKeepsTheQueueAndTheClock : ∃ (c : Instr) (s t : State), exec c s = .next t :=
  ⟨.powerUpStart true, State.reset, { State.reset with phase := .tmode }, by rfl⟩

theorem witness_CellarStoreStaysCanonical : ∃ s t : State, Memory.wf s.cells = true ∧ step s = .next t :=
  ⟨{ State.reset with cells := [(0x80000, 1#8), (0x80005, 2#8)] },
    { State.reset with cells := [(0x80000, 1#8), (0x80005, 2#8)], clock := 1 }, by decide +kernel, by rfl⟩

theorem witness_TicketGuaranteeIsKept : ∃ s t : State, s.TicketsSound ∧ step s = .next t :=
  ⟨State.reset, { State.reset with clock := 1 }, by decide +kernel, by rfl⟩

theorem witness_EmptyQueueLetsOneMicrosecondPass :
    (∃ (s : State), s.pending = []) :=
  ⟨wUp, by decide +kernel⟩

theorem witness_EachRegisterAnswersAtOneAddress :
    (∃ (a : Addr) (r : Reg), decodeAddr a = .reg r) :=
  ⟨Reg.addr (.fltReact 255), .fltReact 255, by decide +kernel⟩

theorem witness_SupplyStartsTheHostDie :
    (∃ (s : State), s.phase = .off ∧ s.time.resetLow = false)
    ∧ (∃ (s : State), s.phase = .off ∧ s.time.resetLow = false)
    ∧ (∃ (s : State), s.phase = .off ∧ s.time.resetLow = true)
    ∧ (∃ (s : State), s.phase ≠ .off)
    ∧ (∃ (s : State), s.vio = true ∧ s.time.resetLow = true ∧ s.phase = .resetHeld)
    ∧ (∃ (s : State), s.vio = true ∧ s.time.resetLow = true ∧ s.phase = .resetHeld)
    ∧ (∃ (s : State), s.vio = true ∧ s.time.resetLow = true ∧ s.phase = .resetHeld)
    ∧ (∃ (s : State), s.vio = true ∧ s.time.resetLow = true ∧ s.phase ≠ .resetHeld) :=
  ⟨⟨State.reset, by decide +kernel⟩,
   ⟨State.reset, by decide +kernel⟩,
   ⟨{ State.reset with time.resetLow := true }, by decide +kernel⟩,
   ⟨wRun, by decide +kernel⟩,
   ⟨{ State.reset with time.resetLow := true, phase := .resetHeld }, by decide +kernel⟩,
   ⟨{ State.reset with time.resetLow := true, phase := .resetHeld }, by decide +kernel⟩,
   ⟨{ State.reset with time.resetLow := true, phase := .resetHeld }, by decide +kernel⟩,
   ⟨{ State.reset with time.resetLow := true, phase := .resetCommit }, by decide +kernel⟩⟩

theorem witness_StartReadsTheStoreAndAnswersThePorts :
    (∃ (s : State), s.phase = .starting)
    ∧ (∃ (s : State) (a : Bool), s.phase = .checked ∧ s.img.recorded = some a)
    ∧ (∃ (s : State), s.phase = .checked ∧ s.img.recorded = none) :=
  ⟨⟨{ wRun with phase := .starting }, by decide +kernel⟩,
   ⟨{ wRun with phase := .checked, img.record := #v[some (true, 1), none] }, true, by decide +kernel⟩,
   ⟨{ wRun with phase := .checked }, by decide +kernel⟩⟩

theorem witness_PowerFailAndReset :
    (∃ (s : State), s.phase = .run ∧ s.time.vhLow = false)
    ∧ (∃ (s : State), s.vio = true ∧ s.phase = .run)
    ∧ (∃ (s : State), s.phase = .run ∧ s.recd.pfCommit.isSome = true)
    ∧ (∃ (s : State), s.phase = .resetCommit ∧ s.recd.pfCommit.isSome = true)
    ∧ (∃ (s : State), s.phase = .resetCommit ∧ s.recd.pfCommit.isSome = true)
    ∧ (∃ (s : State), s.phase = .resetCommit ∧ s.recd.pfCommit.isSome = true)
    ∧ (∃ (s : State), s.phase = .resetCommit ∧ s.recd.pfCommit.isSome = true)
    ∧ (∃ (s : State), s.recd.pfCommit = none)
    ∧ (∃ (s : State), s.time.vhLow = true ∧ s.phase = .run)
    ∧ (∃ (s : State), s.phase = .run) :=
  ⟨⟨wUp, by decide +kernel⟩,
   ⟨wAct, by decide +kernel⟩,
   ⟨{ wUp with time.vhLow := true, recd.pfCommit := some 1, recd.staged := [wStaged] }, by decide +kernel⟩,
   ⟨{ wUp with phase := .resetCommit, time.resetLow := true, recd.pfCommit := some 1, recd.staged := [wStaged] }, by decide +kernel⟩,
   ⟨{ wUp with phase := .resetCommit, recd.pfCommit := some 0 }, by decide +kernel⟩,
   ⟨{ wUp with phase := .resetCommit, recd.pfCommit := some 0 }, by decide +kernel⟩,
   ⟨{ wUp with phase := .resetCommit, recd.pfCommit := some 0 }, by decide +kernel⟩,
   ⟨wUp, by decide +kernel⟩,
   ⟨{ wUp with time.vhLow := true }, by decide +kernel⟩,
   ⟨wAct, by decide +kernel⟩⟩

theorem witness_VioLossAndReturn :
    (∃ (s : State), s.phase = .run ∧ s.vio = true)
    ∧ (∃ (s : State), s.phase = .run ∧ s.vio = false) :=
  ⟨⟨wUp, by decide +kernel⟩,
   ⟨{ wUp with vio := false }, by decide +kernel⟩⟩

theorem witness_RingSupplyStartsAndStops :
    (∃ (x : RingId) (s : State), (s.ring x).vfOk = false ∧ (s.ring x).offered = false)
    ∧ (∃ (x : RingId) (s : State), (s.ring x).vfOk = false ∧ (s.ring x).offered = true)
    ∧ (∃ (x : RingId) (s : State), (s.ring x).logic = true ∧ (s.ring x).vfOk = true ∧ (s.ring x).offered = false)
    ∧ (∃ (x : RingId) (s : State), (s.ring x).logic = true ∧ (s.ring x).vfOk = true)
    ∧ (∃ (x : RingId) (s : State), (s.ring x).logic = true ∧ (s.ring x).vfOk = true)
    ∧ (∃ (x : RingId) (s : State), (s.ring x).logic = true) :=
  ⟨⟨.a, { wRun with pair.sourceOn := true }, by decide +kernel⟩,
   ⟨.b, wRun.modRing .b (fun r => { r with offered := true }), by decide +kernel⟩,
   ⟨.b, wRun.modRing .b (fun r => { r with logic := true, vfOk := true }), by decide +kernel⟩,
   ⟨.b, wUp, by decide +kernel⟩,
   ⟨.a, { wUp with pair.sourceOn := true }, by decide +kernel⟩,
   ⟨.b, wUp, by decide +kernel⟩⟩

theorem witness_LinkComesUpAndIsConfigured :
    (∃ (x : RingId) (s : State), s.phase = .run ∧ s.pwr.mode ≠ .cellar ∧ (s.ring x).logic = true ∧ (s.ring x).vfOk = true ∧ (s.ring x).offered =
        true ∧ (s.ring x).link = false ∧ (s.ring x).ringLost = true)
    ∧ (∃ (x : RingId) (s : State) (k : Nat), (s.ring x).downOpen = true ∧ (s.ring x).cmdq.head? = some (.reset, k))
    ∧ (∃ (x : RingId) (s : State), (s.ring x).logic = true ∧ (s.ring x).vfOk = true ∧ (s.ring x).upClear = true ∧ (s.ring x).taken = true ∧
        s.pwr.wakeB = false)
    ∧ (∃ (x : RingId) (s : State), (s.ring x).logic = true ∧ (s.ring x).vfOk = true ∧ (s.ring x).upClear = true ∧ (s.ring x).taken = true) :=
  ⟨⟨.b, wUp.modRing .b (fun r => { r with link := false, ringLost := true }), by decide +kernel⟩,
   ⟨.b, wUp.modRing .b (fun r => { r with cmdq := [(.reset, 0), (.configure, 0)] }), 0, by decide +kernel⟩,
   ⟨.b, wUp.modRing .b (fun r => { r with taken := true, configured := false, restarted := true }), by decide +kernel⟩,
   ⟨.b, wUp.modRing .b (fun r => { r with taken := true, configured := false, restarted := true }), by decide +kernel⟩⟩

theorem witness_HeartbeatsKeepTheLink :
    (∃ (s : State), s.phase = .run ∧ s.pwr.mode ≠ .cellar ∧ s.time.beatAt ≤ s.clock)
    ∧ (∃ (s : State), s.clock < s.time.beatAt)
    ∧ (∃ (x : RingId) (s : State) (g : Beat), (s.ring x).beat = some g ∧ (s.ring x).logic = true ∧ (s.ring x).safeq = [] ∧ (s.ring x).ringLost =
        false)
    ∧ (∃ (x : RingId) (s : State) (g : Beat), (s.ring x).beat = some g ∧ (s.ring x).logic = true ∧ (s.ring x).safeq = [] ∧ (s.ring x).ringLost =
        false)
    ∧ (∃ (x : RingId) (s : State) (g : Beat), (s.ring x).beat = some g ∧ (s.ring x).logic = true ∧ (s.ring x).safeq = [] ∧ (s.ring x).ringLost =
        true)
    ∧ (∃ (x : RingId) (s : State), (s.ring x).logic = true ∧ (s.ring x).offered = true ∧ (s.ring x).ringLost = false ∧ (s.ring x).beatAt ≤
        s.clock)
    ∧ (∃ (x : RingId) (s : State), s.clock < (s.ring x).beatAt)
    ∧ (∃ (x : RingId) (s : State), s.phase = .run ∧ (s.ring x).ringBeat = true)
    ∧ (∃ (x : RingId) (s : State), s.phase = .run ∧ (s.ring x).ringBeat = true)
    ∧ (∃ (x : RingId) (s : State), s.phase = .run ∧ (s.ring x).ringBeat = true)
    ∧ (∃ (x : RingId) (s : State), s.phase = .run ∧ (s.ring x).link = true ∧ s.pwr.mode ≠ .cellar ∧ (s.ring x).lastRingBeat + 100 ≤ s.clock)
    ∧ (∃ (x : RingId) (s : State), (s.ring x).logic = true ∧ (s.ring x).ringLost = false ∧ (s.ring x).rmode ≠ .cellar ∧ (s.ring x).lastHostBeat +
        (s.ring x).linkTimeout ≤ s.clock)
    ∧ (∃ (x : RingId) (s : State), s.phase = .run ∧ (s.ring x).everUp = true ∧ (s.ring x).link = false ∧ (s.ring x).holdover = false ∧ s.pwr.mode
        ≠ .cellar ∧ (s.ring x).downAt + 100000 ≤ s.clock) :=
  ⟨⟨wAct, by decide +kernel⟩,
   ⟨{ wAct with time.beatAt := 5000001 }, by decide +kernel⟩,
   ⟨.a, wUp.modRing .a (fun r => { r with beat := some ⟨true, true⟩ }), ⟨true, true⟩, by decide +kernel⟩,
   ⟨.b, wUp.modRing .b (fun r => { r with beat := some ⟨false, false⟩, driveGate := true }), ⟨false, false⟩, by decide +kernel⟩,
   ⟨.b, wUp.modRing .b (fun r => { r with beat := some ⟨true, true⟩, ringLost := true }), ⟨true, true⟩, by decide +kernel⟩,
   ⟨.a, wUp, by decide +kernel⟩,
   ⟨.b, wUp.modRing .b (fun r => { r with beatAt := 5000001 }), by decide +kernel⟩,
   ⟨.a, wUp.modRing .a (fun r => { r with ringBeat := true, realigned := true, holdover := true }), by decide +kernel⟩,
   ⟨.b, wUp.modRing .b (fun r => { r with ringBeat := true, link := false, holdover := true }), by decide +kernel⟩,
   ⟨.a, wUp.modRing .a (fun r => { r with ringBeat := true }), by decide +kernel⟩,
   ⟨.a, wUp.modRing .a (fun r => { r with lastRingBeat := 4999900 }), by decide +kernel⟩,
   ⟨.a, wUp.modRing .a (fun r => { r with lastHostBeat := 4000000 }), by decide +kernel⟩,
   ⟨.a, wUp.modRing .a (fun r => { r with link := false, downAt := 4900000 }), by decide +kernel⟩⟩

theorem witness_FramesOnTheLinks :
    (∃ (x : RingId) (s : State) (n : Fin 16) (v : Word) (k : Nat) (q : List (RingCmd × Nat)), (s.ring x).downOpen = true ∧ (s.ring x).cmdq =
        (.swcnt n v, k) :: q)
    ∧ (∃ (x : RingId) (s : State), (s.ring x).downOpen = true ∧ (s.ring x).cmdq ≠ [])
    ∧ (∃ (x : RingId) (s : State) (f : RingCmd) (k : Nat) (q : List (RingCmd × Nat)), (s.ring x).link = true ∧ (s.ring x).cmdq = (f, k) :: q ∧ k <
        7)
    ∧ (∃ (x : RingId) (s : State) (f : RingCmd) (k : Nat) (q : List (RingCmd × Nat)), (s.ring x).link = true ∧ (s.ring x).cmdq = (f, k) :: q ∧ 7 ≤
        k)
    ∧ (∃ (x : RingId) (s : State) (m : BitVec 16) (q : List (BitVec 16)), (s.ring x).logic = true ∧ (s.ring x).link = true ∧ (s.ring x).safeq = m
        :: q)
    ∧ (∃ (x : RingId) (s : State), (s.ring x).logic = true ∧ (s.ring x).link = true ∧ (s.ring x).safeq ≠ [] ∧ s.hostSilent = false)
    ∧ (∃ (x : RingId) (s : State), ((s.ring x).safeq ≠ [] ∨ (s.ring x).beat.isSome = true))
    ∧ (∃ (x : RingId) (s : State), ((s.ring x).safeq ≠ [] ∨ (s.ring x).beat.isSome = true))
    ∧ (∃ (x : RingId) (s : State) (e : Report) (q : List Report), s.phase = .run ∧ (s.ring x).upOpen = true ∧ (s.ring x).reports = e :: q ∧
        s.upBefore x e.clock = false ∧ e.raise = true ∧ e.slot ≠ hostSlot 7 ∧ s.reportWaits e = false ∧ instantSource e.slot.1
        e.member.toNat = false ∧ (s.slot e.slot).cause e.member.toNat false = none ∧ (s.slot e.slot).real.getLsbD (e.member.toNat % 32) =
        false)
    ∧ (∃ (x : RingId) (s : State) (e : Report) (q : List Report), s.phase = .run ∧ (s.ring x).upOpen = true ∧ (s.ring x).reports = e :: q ∧
        s.upBefore x e.clock = false ∧ e.raise = false ∧ slotChannel e.slot = none)
    ∧ (∃ (x : RingId) (s : State) (e : Report) (q : List Report), s.phase = .run ∧ (s.ring x).upOpen = true ∧ (s.ring x).reports = e :: q ∧
        s.upBefore x e.clock = false ∧ e.raise = true ∧ slotChannel e.slot = none ∧ e.slot ≠ ringSlot x 5 ∧ instantSource e.slot.1
        e.member.toNat = false ∧ (s.slot e.slot).real.getLsbD (e.member.toNat % 32) = true)
    ∧ (∃ (x : RingId) (s : State) (e : Report) (q : List Report), (s.ring x).reports = e :: q ∧ (s.upBefore x e.clock = true ∨ s.reportWaits e =
        true))
    ∧ (∃ (x : RingId) (s : State) (n : Fin 16) (st i : Bool) (u : Nat) (w : Word) (q : List UpMsg), s.phase = .run ∧ (s.ring x).upOpen = true ∧
        s.pwr.mode ≠ .cellar ∧ (s.ring x).upq = .change n st i u w :: q ∧ (s.ring x).reports = [] ∧ (s.chan n).countFirst u = false)
    ∧ (∃ (x : RingId) (s : State) (n : Fin 16) (st i : Bool) (u : Nat) (w : Word) (q : List UpMsg), s.phase = .run ∧ (s.ring x).upOpen = true ∧
        s.pwr.mode ≠ .cellar ∧ (s.ring x).upq = .change n st i u w :: q ∧ (s.ring x).reports = [] ∧ (s.chan n).countFirst u = false)
    ∧ (∃ (x : RingId) (s : State) (cs : List (BitVec 16)) (set : List Bool) (u : Nat) (q : List UpMsg), s.phase = .run ∧ (s.ring x).upOpen = true
        ∧ s.pwr.mode ≠ .cellar ∧ (s.ring x).upq = .latches cs set u :: q ∧ (s.ring x).reports = [])
    ∧ (∃ (x : RingId) (s : State) (n : Fin 16) (st : BitVec 3) (u : Nat) (q : List UpMsg), s.phase = .run ∧ (s.ring x).upOpen = true ∧ s.pwr.mode
        ≠ .cellar ∧ s.pair.standby = false ∧ (s.ring x).upq = .plug n st u :: q ∧ (s.ring x).reports = [])
    ∧ (∃ (x : RingId) (s : State) (n : Fin 16) (u : Nat) (q : List UpMsg), s.phase = .run ∧ (s.ring x).upOpen = true ∧ s.pwr.mode ≠ .cellar ∧
        (s.ring x).upq = .restarted n u :: q ∧ (s.ring x).reports = [] ∧ isAi (s.chan n).func = false)
    ∧ (∃ (x : RingId) (s : State) (b : Bool) (u : Nat) (q : List UpMsg), s.phase = .run ∧ (s.ring x).upOpen = true ∧ s.pwr.mode ≠ .cellar ∧
        (s.ring x).upq = .taps b u :: q ∧ (s.ring x).reports = [])
    ∧ (∃ (x : RingId) (s : State) (n : Fin 16) (v : Word) (u : Nat) (q : List UpMsg), s.phase = .run ∧ (s.ring x).upOpen = true ∧ s.pwr.mode ≠
        .cellar ∧ (s.ring x).upq = .scan n v u :: q ∧ (s.ring x).reports = [])
    ∧ (∃ (x : RingId) (s : State), s.phase = .run ∧ (s.ring x).upOpen = true ∧ s.pwr.mode ≠ .cellar ∧ (s.ring x).upq ≠ [] ∧ (s.ring x).reports =
        [] ∧ (∀ m, (s.ring x).upq.head? = some m → s.messageWaits m = false)) :=
  ⟨⟨.b, wUp.modRing .b (fun r => { r with cmdq := [(.swcnt 15 7#32, 0)] }), 15, 7#32, 0, [], by decide +kernel⟩,
   ⟨.b, wUp.modRing .b (fun r => { r with cmdq := [(.reset, 0)] }), by decide +kernel⟩,
   ⟨.b, wUp.modRing .b (fun r => { r with cmdq := [(.reset, 6)] }), .reset, 6, [], by decide +kernel⟩,
   ⟨.b, wUp.modRing .b (fun r => { r with cmdq := [(.reset, 7)] }), .reset, 7, [], by decide +kernel⟩,
   ⟨.b, wUp.modRing .b (fun r => { r with safeq := [0x8000#16] }), 0x8000#16, [], by decide +kernel⟩,
   ⟨.b, wUp.modRing .b (fun r => { r with safeq := [0x8000#16] }), by decide +kernel⟩,
   ⟨.b, wUp.modRing .b (fun r => { r with safeq := [0x8000#16], cmdq := [(.reset, 0)] }), by decide +kernel⟩,
   ⟨.b, wUp.modRing .b (fun r => { r with beat := some ⟨true, true⟩, cmdq := [(.reset, 0)] }), by decide +kernel⟩,
   ⟨.b, wUp.modRing .b (fun r => { r with reports := [wReport (ringSlot .b 19) true] }), wReport (ringSlot .b 19) true, [], by decide +kernel⟩,
   ⟨.b, wUp.modRing .b (fun r => { r with reports := [wReport (ringSlot .b 19) false] }), wReport (ringSlot .b 19) false, [],
    by decide +kernel⟩,
   ⟨.b, (wUp.modRing .b (fun r => { r with reports := [wReport (ringSlot .b 19) true] })).modSlot (ringSlot .b 19) (fun f =>
    { f with real := 1#32 }), wReport (ringSlot .b 19) true, [], by decide +kernel⟩,
   ⟨.b, wUp.modRing .b (fun r => { r with reports := [wReport (ringSlot .b 19) false], upq := [.latches [] [] 0] }), wReport (ringSlot .b 19)
    false, [], by decide +kernel⟩,
   ⟨.b, wUp.modRing .b (fun r => { r with upq := [.change 15 true false 7 0#32] }), 15, true, false, 7, 0#32, [], by decide +kernel⟩,
   ⟨.a, wUp.modRing .a (fun r => { r with upq := [.change 0 true true 7 0#32] }), 0, true, true, 7, 0#32, [], by decide +kernel⟩,
   ⟨.b, wUp.modRing .b (fun r => { r with upq := [.latches (List.replicate 8 1#16) (List.replicate 8 true) 7] }), List.replicate 8 1#16,
    List.replicate 8 true, 7, [], by decide +kernel⟩,
   ⟨.b, wUp.modRing .b (fun r => { r with upq := [.plug 15 1#3 7] }), 15, 1#3, 7, [], by decide +kernel⟩,
   ⟨.b, (wCh 15 1 (fun c => { c with hostState := true })).modRing .b (fun r => { r with upq := [.restarted 15 7] }), 15, 7, [],
    by decide +kernel⟩,
   ⟨.b, wUp.modRing .b (fun r => { r with upq := [.taps true 7] }), true, 7, [], by decide +kernel⟩,
   ⟨.b, (wCh 15 13 id).modRing .b (fun r => { r with upq := [.scan 15 5#32 7] }), 15, 5#32, 7, [], by decide +kernel⟩,
   ⟨.b, wUp.modRing .b (fun r => { r with upq := [.change 15 true false 7 0#32] }), by decide +kernel⟩⟩

theorem witness_FramesThatTakeNoTicket :
    (∃ (e : Env) (s : State), s.portHears e = true ∧ e.len = 0#8)
    ∧ (∃ (e : Env) (s : State), s.portHears e = true ∧ e.len = 0#8)
    ∧ (∃ (e : Env) (s : State) (k : Fin 64) (r : Response), s.portHears { e with ticket := 0xFF#8 } = true ∧ e.len = 0#8 ∧ s.fetchTicket e.port
        e.ticket = some k ∧ (s.tickets[k.1]).resp = some r)
    ∧ (∃ (e : Env) (s : State) (k : Fin 64) (r : Response), s.portHears { e with ticket := 0xFF#8 } = true ∧ e.len = 0#8 ∧ s.fetchTicket e.port
        e.ticket = some k ∧ (s.tickets[k.1]).resp = some r)
    ∧ (∃ (e : Env) (s : State), s.portsAnswer = true ∧ s.pwr.mode ≠ .cellar ∧ e.crcGood = false)
    ∧ (∃ (s : State), s.portsAnswer = true ∧ s.pwr.mode ≠ .cellar) :=
  ⟨⟨wE 0, wRun, by decide +kernel⟩,
   ⟨wE 0, { wRun with tickets := (wRun.tickets.set 3 wReady).set 4 { st := .exec .hp0 false, resp := none } }, by decide +kernel⟩,
   ⟨{ wE 0 with ticket := 3#8 }, { wRun with tickets := wRun.tickets.set 3 wReady }, 3, wResp, by decide +kernel⟩,
   ⟨wE 0, { wRun with tickets := wRun.tickets.set 3 wReady }, 3, wResp, by decide +kernel⟩,
   ⟨{ wE 7 with crcGood := false, whole := false }, wRun, by decide +kernel⟩,
   ⟨wRun, by decide +kernel⟩⟩

theorem witness_RequestsAreAnswered :
    (∃ (e : Env) (s : State) (w : Word), s.hostReady e opHello = true ∧ 1 ≤ min (fld w 4 4) 2 ∧ fld w 0 4 ≤ min (fld w 4 4) 2)
    ∧ (∃ (e : Env) (s : State) (w : Word), s.hostReady e opHello = true ∧ (min (fld w 4 4) 2 < fld w 0 4 ∨ min (fld w 4 4) 2 < 1))
    ∧ (∃ (e : Env) (s : State) (w : Word), s.hostReady e opHello = true ∧ (min (fld w 4 4) 2 < fld w 0 4 ∨ min (fld w 4 4) 2 < 1))
    ∧ (∃ (e : Env) (s : State), s.hostReady e opRead = true)
    ∧ (∃ (e : Env) (s : State) (a : Addr), s.hostReady e opRead = true ∧ decodeAddr a = .none)
    ∧ (∃ (e : Env) (s : State) (r : Reg), s.hostReady e opWrite = true ∧ r ≠ .flt .release)
    ∧ (∃ (e : Env) (s : State) (a : Addr), s.hostReady e opWrite = true ∧ decodeAddr a = .none)
    ∧ (∃ (e : Env) (s : State), s.hostReady e opWrite = true)
    ∧ (∃ (e : Env) (s : State) (op : Byte), s.hostTakes e = true ∧ e.len.toNat ≤ 1 ∧ 8 ≤ op.toNat)
    ∧ (∃ (e : Env) (s : State) (op : Byte), s.hostTakes e = true ∧ e.len.toNat ≤ 1 ∧ 8 ≤ op.toNat) :=
  ⟨⟨wE 1, wRun, 0x121#32, by decide +kernel⟩,
   ⟨wE 1, wRun, 0x33#32, by decide +kernel⟩,
   ⟨wE 1, wRun, 0x00#32, by decide +kernel⟩,
   ⟨wE 0, wRun, by decide +kernel⟩,
   ⟨wE 0, wRun, 0xFFFFFF#24, by decide +kernel⟩,
   ⟨wE 1, wRun, .bg .cfg, by decide +kernel⟩,
   ⟨wE 1, wRun, 0xFFFFFF#24, by decide +kernel⟩,
   ⟨wE 1, { wRun with bg.diag := 3#8 }, by decide +kernel⟩,
   ⟨wE 1, wRun, 8#8, by decide +kernel⟩,
   ⟨wE 0, wRun, 255#8, by decide +kernel⟩⟩

theorem witness_ResponsesComeAndGo :
    (∃ (s : State) (p : PortId) (q : Request) (r : Response), s.phase = .run ∧ s.releaseOf p = none ∧ (s.port p).executing = some (q, r) ∧
        (s.port p).waiting = [] ∧ (s.tickets[q.ticket.1]).dropped = false)
    ∧ (∃ (s : State) (p : PortId) (q : Request) (r : Response), s.phase = .run ∧ s.releaseOf p = none ∧ (s.port p).executing = some (q, r) ∧
        (s.port p).waiting = [] ∧ (s.tickets[q.ticket.1]).dropped = true)
    ∧ (∃ (s : State) (p : PortId) (k : Fin 64) (since c : Nat), s.phase = .run ∧ (s.tickets[k.1]).st = .ready (portMaster p) since c ∧ since + fld
        (s.port p).cfg 0 10 * 1000 ≤ s.clock) :=
  ⟨⟨({ wRun with tickets := wRun.tickets.set 3 { st := .exec .hp0 false, resp := none } } : State).modPort .hp0 (fun o =>
    { o with executing := some (wReq, wResp) }), .hp0, wReq, wResp, by decide +kernel⟩,
   ⟨({ wRun with tickets := wRun.tickets.set 3 { st := .exec .hp0 true, resp := none } } : State).modPort .hp0 (fun o =>
    { o with executing := some (wReq, wResp) }), .hp0, wReq, wResp, by decide +kernel⟩,
   ⟨{ wRun with tickets := wRun.tickets.set 63 wReady }, .hp0, 63, 1000, 0, by decide +kernel⟩⟩

theorem witness_TimeRegistersAreWritten :
    (∃ (e : Env) (s : State), s.hostReady e opWrite = true)
    ∧ (∃ (e : Env) (s : State) (c : Nat), s.hostReady e opWrite = true ∧ s.time.markAt = some c ∧ s.clock < c + 1000000)
    ∧ (∃ (e : Env) (s : State), s.hostReady e opWrite = true)
    ∧ (∃ (e : Env) (s : State), s.hostReady e opWrite = true ∧ s.recd.journal.length < 2047) :=
  ⟨⟨wE 1, wRun, by decide +kernel⟩,
   ⟨wE 1, { wRun with time.markAt := some 4500000 }, 4500000, by decide +kernel⟩,
   ⟨wE 1, wRun, by decide +kernel⟩,
   ⟨wE 1, wRun, by decide +kernel⟩⟩

theorem witness_FullJournalRefusesChanges :
    (∃ (e : Env) (s : State), s.hostReady e opWrite = true ∧ 2048 ≤ s.recd.journal.length)
    ∧ (∃ (e : Env) (s : State) (w : Word), s.hostReady e opWrite = true ∧ 2048 ≤ s.recd.journal.length ∧ 1 ≤ fld w 0 14 ∧ fld w 0 14 ≤ 10000)
    ∧ (∃ (e : Env) (s : State), s.hostReady e opWrite = true ∧ s.recd.journal.length = 2047) :=
  ⟨⟨wE 1, { wRun with recd.journal := List.replicate 2048 wRecord }, by decide +kernel⟩,
   ⟨wE 1, { wRun with recd.journal := List.replicate 2048 wRecord }, 10000#32, by decide +kernel⟩,
   ⟨wE 1, { wRun with recd.journal := List.replicate 2047 wRecord }, by decide +kernel⟩⟩

theorem witness_ImageSessionIsWritten :
    (∃ (e : Env) (s : State), s.hostReady e opWrite = true ∧ s.recd.journal.length < 2047 ∧ s.img.load = .idle)
    ∧ (∃ (s : State), s.phase = .run ∧ s.img.load = .erasing ∧ (∀ l : Fin 216, (if s.img.target then 32 else 0) ≤ l.1 → l.1 < (if s.img.target
        then 64 else 32) → s.bg.wear.mapped[l.1] + 1 < 100000))
    ∧ (∃ (s : State), s.phase = .run ∧ s.img.load = .erasing ∧ (∀ l : Fin 216, (if s.img.target then 32 else 0) ≤ l.1 → l.1 < (if s.img.target
        then 64 else 32) → s.bg.wear.mapped[l.1] + 1 < 100000))
    ∧ (∃ (s : State), s.phase = .run ∧ s.img.load = .erasing)
    ∧ (∃ (s : State), (s.phase ≠ .run ∨ s.img.load ≠ .erasing))
    ∧ (∃ (e : Env) (s : State) (l : Fin 216), s.hostReady e opWrite = true ∧ s.img.load = .receiving ∧ s.img.waddr.toNat < 131072 ∧ (s.imgSlot
        s.img.target).written.getLsbD (s.img.waddr.toNat / 4) = false ∧ l.1 = (if s.img.target then 32 else 0) + s.img.waddr.toNat / 4096)
    ∧ (∃ (e : Env) (s : State), s.hostReady e opWrite = true ∧ s.img.load = .receiving ∧ s.img.waddr.toNat % 4 = 0 ∧ s.img.waddr.toNat < 131072 ∧
        (s.imgSlot s.img.target).written.getLsbD (s.img.waddr.toNat / 4) = false)
    ∧ (∃ (e : Env) (s : State), s.hostReady e opWrite = true ∧ s.img.load = .receiving ∧ (s.imgSlot s.img.target).written.getLsbD
        (s.img.waddr.toNat / 4) = true)
    ∧ (∃ (e : Env) (s : State), s.hostReady e opWrite = true ∧ s.recd.journal.length < 2047 ∧ s.img.load = .receiving)
    ∧ (∃ (e : Env) (s : State), s.hostReady e opWrite = true ∧ s.recd.journal.length < 2047 ∧ s.img.load = .receiving ∧ (s.imgSlot
        s.img.target).st = .receiving ∧ s.img.starting = false)
    ∧ (∃ (e : Env) (s : State), s.hostReady e opWrite = true) :=
  ⟨⟨wE 1, wRun, by decide +kernel⟩,
   ⟨{ wRun with img.load := .erasing, img.target := true, bg.wear.mapped := wRun.bg.wear.mapped.set 64 99999 }, by decide +kernel⟩,
   ⟨{ wRun with img.load := .erasing, img.target := false, bg.wear.mapped := wRun.bg.wear.mapped.set 31 99998 }, by decide +kernel⟩,
   ⟨{ wRun with img.load := .erasing, img.borrowed := true }, by decide +kernel⟩,
   ⟨wRun, by decide +kernel⟩,
   ⟨wE 1, { wRx 0 with img.waddr := 131068#18 }, 31, by decide +kernel⟩,
   ⟨wE 1, { wRx 0 with img.waddr := 131068#18 }, by decide +kernel⟩,
   ⟨wE 1, wRx 1, by decide +kernel⟩,
   ⟨wE 1, wRx 0, by decide +kernel⟩,
   ⟨wE 1, wRx 0, by decide +kernel⟩,
   ⟨wE 1, wRun, by decide +kernel⟩⟩

theorem witness_ImageIsVerifiedAndActivated :
    (∃ (s : State), s.phase = .run ∧ s.img.load = .verifying ∧ s.img.starting = false ∧ s.img.ldOp = 2#4)
    ∧ (∃ (e : Env) (s : State) (n : Bool), s.hostReady e opWrite = true ∧ s.recd.journal.length < 2047 ∧ s.img.load = .idle ∧ (s.imgSlot n).st =
        .verified ∧ n = s.img.inactive)
    ∧ (∃ (s : State), s.phase = .run ∧ s.img.load = .activating ∧ s.img.shadow = none)
    ∧ (∃ (s : State) (x : RingId), (s.ring x).upClear = true ∧ (s.ring x).staged = true ∧ x ∈ s.img.await)
    ∧ (∃ (s : State) (i : Image), s.img.shadow = some i ∧ s.stepDue = true ∧ s.actReady = true ∧ s.img.starting = false)
    ∧ (∃ (s : State) (i : Image), s.img.shadow = some i ∧ s.stepDue = true ∧ s.actReady = true ∧ s.img.starting = true) :=
  ⟨⟨{ wRun with img.load := .verifying, img.ldOp := 2#4, img.borrowed := true }, by decide +kernel⟩,
   ⟨wE 1, { wRun with img.slots := wRun.img.slots.map (fun k => { k with st := .verified }) }, wRun.img.inactive, by decide +kernel⟩,
   ⟨{ wUp with img.load := .activating, img.actPending := true }, by decide +kernel⟩,
   ⟨{ wUp.modRing .b (fun r => { r with staged := true }) with img.await := [.b] }, .b, by decide +kernel⟩,
   ⟨{ wUp with img.load := .activating, img.actPending := true, img.shadow := some wImage, fab.running := false }, wImage, by decide +kernel⟩,
   ⟨{ { wUp with img.load := .activating, img.actPending := true, img.shadow := some wImage, fab.running := false } with img.starting := true },
    wImage, by decide +kernel⟩⟩

theorem witness_HostSignalsAreWritten :
    (∃ (e : Env) (s : State), s.hostReady e opWrite = true)
    ∧ (∃ (e : Env) (s : State), s.hostReady e opWrite = true)
    ∧ (∃ (e : Env) (s : State), s.hostReady e opWrite = true)
    ∧ (∃ (e : Env) (s : State), s.hostReady e opWrite = true) :=
  ⟨⟨wE 1, wRun, by decide +kernel⟩,
   ⟨wE 1, wRun, by decide +kernel⟩,
   ⟨wE 1, wRun, by decide +kernel⟩,
   ⟨wE 1, wRun, by decide +kernel⟩⟩

theorem witness_RecordsAreStagedAndApplied :
    (∃ (e : Env) (s : State) (w : Word), s.hostReady e opWrite = true ∧ fld w 12 3 ≤ 4 ∧ fld w 0 9 < elementCount (fld w 12 3))
    ∧ (∃ (e : Env) (s : State) (w : Word), s.hostReady e opWrite = true ∧ 4 < fld w 12 3 ∧ fld w 0 9 < elementCount (fld w 12 3))
    ∧ (∃ (e : Env) (s : State), s.hostReady e opWrite = true)
    ∧ (∃ (e : Env) (s : State) (w : Word), s.hostReady e opWrite = true ∧ s.recd.journal.length < 2047 ∧ bit w 0 = true ∧ s.recordOk
        s.fab.selType.toNat s.fab.selIndex.toNat s.fab.toApply = true ∧ s.fab.liveValue = none ∧ (recordUses s.fab.selType.toNat
        s.fab.selIndex.toNat s.fab.toApply).filterMap (fun u => s.heldByOther u.1 0 u.2 2 0) = [])
    ∧ (∃ (e : Env) (s : State) (w : Word), s.hostReady e opWrite = true ∧ bit w 0 = true ∧ s.recordOk s.fab.selType.toNat s.fab.selIndex.toNat
        s.fab.toApply = false)
    ∧ (∃ (e : Env) (s : State) (w : Word), s.hostReady e opWrite = true ∧ s.recd.journal.length < 2047 ∧ 2 ≤ fld w 0 10 ∧ fld w 0 10 ≤ 1000 ∧
        s.img.actPending = false) :=
  ⟨⟨wE 1, wRun, 0x0000#32, by decide +kernel⟩,
   ⟨wE 1, wRun, 0x5000#32, by decide +kernel⟩,
   ⟨wE 1, wRun, by decide +kernel⟩,
   ⟨wE 1, { wRun with fab.staged := #v[some 0#32, some 0#32, some 0#32, some 0#32] }, 1#32, by decide +kernel⟩,
   ⟨wE 1, { wRun with fab.staged := #v[some 0xFFFFFFFF#32, some 0xFFFFFFFF#32, some 0xFFFFFFFF#32, some 0xFFFFFFFF#32] }, 1#32,
    by decide +kernel⟩,
   ⟨wE 1, wRun, 1000#32, by decide +kernel⟩⟩

theorem witness_StepsCommitOrOverrun :
    (∃ (s : State), s.fab.running = true ∧ s.fab.evalDone = false)
    ∧ (∃ (s : State), s.stepDue = true ∧ s.img.shadow = none)
    ∧ (∃ (s : State), s.stepDue = true ∧ s.img.shadow = none ∧ s.stepping = true ∧ s.fab.evalDone = true)
    ∧ (∃ (s : State), s.stepDue = true ∧ s.img.shadow = none ∧ s.stepping = true ∧ s.fab.evalDone = false) :=
  ⟨⟨{ wRun with fab.running := true }, by decide +kernel⟩,
   ⟨{ wRun with fab.running := true }, by decide +kernel⟩,
   ⟨{ wRun with fab.running := true, fab.evalDone := true }, by decide +kernel⟩,
   ⟨{ wRun with fab.running := true, fab.consec := 2#2 }, by decide +kernel⟩⟩

theorem witness_ChannelFunctionsAndInputParametersAreWritten :
    (∃ (e : Env) (n : Fin 16) (s : State) (w : Word), s.hostReady e opWrite = true ∧ s.recd.journal.length < 2047 ∧ s.img.actPending = false ∧
        lowest (s.modeBad n w) = none ∧ s.modeHeld n w = none ∧ ((((s.chan n).cfg.withMode w).func ≠ (s.chan n).cfg.func ∨ ((s.chan
        n).cfg.withMode w).partner ≠ (s.chan n).cfg.partner ∨ ((s.chan n).cfg.withMode w).ganged ≠ (s.chan n).cfg.ganged)))
    ∧ (∃ (e : Env) (n : Fin 16) (s : State) (w : Word) (b : Nat), s.hostReady e opWrite = true ∧ (s.modeBad n w).any (fun p => p.1 && p.2 = b) =
        true ∧ (∀ p ∈ s.modeBad n w, p.1 = true → b ≤ p.2))
    ∧ (∃ (e : Env) (n : Fin 16) (s : State) (w : Word), s.hostReady e opWrite = true ∧ s.recd.journal.length < 2047 ∧ s.img.actPending = false ∧
        lowest (s.modeBad n (keepFunction (s.chan n).cfg.mode w)) = none ∧ s.modeHeld n (keepFunction (s.chan n).cfg.mode w) = none)
    ∧ (∃ (e : Env) (n : Fin 16) (s : State) (r : InputReg) (w : Word), s.hostReady e opWrite = true ∧ s.recd.journal.length < 2047 ∧
        s.img.actPending = false ∧ (s.chan n).cfg.func ≤ 3 ∧ lowest (s.paramBad n (inputReg r) ((s.chan n).cfg.setReg (inputReg r) w)) =
        none)
    ∧ (∃ (e : Env) (n : Fin 16) (s : State), s.hostReady e opWrite = true ∧ 3 < (s.chan n).cfg.func)
    ∧ (∃ (e : Env) (n : Fin 16) (s : State), s.hostReady e opWrite = true ∧ s.recd.journal.length < 2047 ∧ (s.chan n).cfg.func ≤ 3) :=
  ⟨⟨wE 1, 3, wUp, 0x1F01#32, by decide +kernel⟩,
   ⟨wE 1, 3, wUp, 0x1F0F#32, 0, by decide +kernel⟩,
   ⟨wE 1, 3, wCh 3 1 id, 0x00041F01#32, by decide +kernel⟩,
   ⟨wE 1, 3, wCh 3 1 id, .time, 0x00640032#32, by decide +kernel⟩,
   ⟨wE 1, 3, wCh 3 4 id, by decide +kernel⟩,
   ⟨wE 1, 3, wCh 3 3 id, by decide +kernel⟩⟩

theorem witness_InputChangesAreAccepted :
    (∃ (n : Fin 16) (s : State) (level seen : Bool) (pad : Int) (lead : Nat), s.runEnds n level seen pad lead ∧ (s.chan n).inp.deb ≠ some level
        ∧ (s.chan n).inp.valid = true ∧ level = !(s.chan n).inp.state ∧ (s.chan n).rng.couplingHold = false)
    ∧ (∃ (n : Fin 16) (s : State) (level seen : Bool) (pad : Int) (lead : Nat), s.runEnds n level seen pad lead ∧ (s.chan n).inp.deb ≠ some level
        ∧ (s.chan n).inp.valid = false ∧ (s.chan n).rng.couplingHold = false)
    ∧ (∃ (n : Fin 16) (s : State) (level seen : Bool) (pad : Int) (lead : Nat), s.runEnds n level seen pad lead ∧ (s.chan n).inp.deb ≠ some level
        ∧ ((s.chan n).inp.valid && level = (s.chan n).inp.state) = false ∧ (s.chan n).rng.couplingHold = true)
    ∧ (∃ (n : Fin 16) (s : State) (level seen : Bool) (pad : Int) (lead h : Nat), s.runEnds n level seen pad lead ∧ (s.chan n).inp.deb ≠ some
        level ∧ (s.chan n).inp.valid = true ∧ level = (s.chan n).inp.state ∧ (s.chan n).inp.holdStart = some h)
    ∧ (∃ (n : Fin 16) (s : State) (level seen : Bool) (pad : Int) (lead : Nat), s.samples n = true ∧ (s.chan n).inp.wetStart = none ∧ level =
        (s.chan n).rng.inverted ((s.chan n).electrical pad seen) ∧ (lead < (s.chan n).rng.debounce * 10 ∨ (s.chan n).inp.deb = some level))
    ∧ (∃ (n : Fin 16) (s : State) (level seen : Bool) (pad : Int) (lead : Nat), s.samples n = true ∧ (s.chan n).inp.wetStart = none ∧ level =
        (s.chan n).rng.inverted ((s.chan n).electrical pad seen) ∧ (lead < (s.chan n).rng.debounce * 10 ∨ (s.chan n).inp.deb = some level))
    ∧ (∃ (n : Fin 16) (s : State), s.samples n = true ∧ (s.chan n).inp.wetStart = none ∧ (s.chan n).rng.func = 1 ∧ (s.chan n).rng.diType = 0)
    ∧ (∃ (n : Fin 16) (s : State), s.samples n = true ∧ (s.chan n).inp.wetStart = none ∧ (s.chan n).rng.func = 1 ∧ (s.chan n).rng.diType = 0)
    ∧ (∃ (n : Fin 16) (s : State), s.samples n = true ∧ (s.chan n).inp.wetStart = none ∧ (s.chan n).rng.func = 1 ∧ (s.chan n).rng.diType = 0)
    ∧ (∃ (n : Fin 16) (s : State), (s.samples n = false ∨ (s.chan n).inp.wetStart.isSome = true))
    ∧ (∃ (n : Fin 16) (s : State), (s.samples n = false ∨ (s.chan n).inp.wetStart.isSome = true))
    ∧ (∃ (n : Fin 16) (s : State) (level seen : Bool) (pad : Int) (lead : Nat), s.runEnds n level seen pad lead ∧ (s.chan n).rng.func = 3 ∧
        (pairMate n (s.chan n).rng).isSome = true)
    ∧ (∃ (n : Fin 16) (s : State) (level : Bool) (h : Nat), s.samples n = true ∧ (s.chan n).inp.wetStart = none ∧ (s.chan n).inp.deb = some level
        ∧ (s.chan n).inp.holdStart = some h ∧ (s.chan n).rng.couplingHold = true ∧ h + s.sampleSpan n ((s.chan n).rng.hold * 1000) ≤
        s.clock)
    ∧ (∃ (n : Fin 16) (s : State) (h : Nat), (s.chan n).inp.holdStart = some h ∧ (s.chan n).rng.couplingHold = true ∧ s.clock < h + (s.chan
        n).rng.hold * 1000)
    ∧ (∃ (n : Fin 16) (s : State), s.pathRuns n = true ∧ (s.chan n).inp.chatStart + (s.chan n).rng.chatWin * 100000 ≤ s.clock ∧ (s.chan
        n).inp.chatCount < (s.chan n).rng.chatLimit)
    ∧ (∃ (n : Fin 16) (s : State), s.pathRuns n = true ∧ (s.chan n).inp.chatStart + (s.chan n).rng.chatWin * 100000 ≤ s.clock ∧ (s.chan
        n).rng.chatLimit ≤ (s.chan n).inp.chatCount) :=
  ⟨⟨3, wIn 3 1 (fun i => { i with deb := some false, valid := true, state := false, chatCount := 4 }), true, false, 15000, 1000,
    by decide +kernel⟩,
   ⟨3, wIn 3 1 (fun i => { i with deb := none, valid := false }), true, false, 15000, 1000, by decide +kernel⟩,
   ⟨3, wCh 3 1 (fun c => { Chan.wRng (fun r => { r with mode := 0x00081F01#32 }) c with inp := { c.inp with deb := none } }), true, false,
    15000, 1000, by decide +kernel⟩,
   ⟨3, wIn 3 1 (fun i => { i with deb := some true, valid := true, state := false, holdStart := some 4990000 }), false, true, 0, 1000, 4990000,
    by decide +kernel⟩,
   ⟨3, wIn 3 1 (fun i => { i with deb := some false }), true, false, 15000, 999, by decide +kernel⟩,
   ⟨3, wIn 3 1 (fun i => { i with deb := some true }), true, true, 11500, 2000, by decide +kernel⟩,
   ⟨3, wIn 3 1 (fun i => { i with deb := some false }), by decide +kernel⟩,
   ⟨3, wIn 3 1 (fun i => { i with deb := some true }), by decide +kernel⟩,
   ⟨3, wCh 3 1 (fun c => { c with live := 0x1000#32 }), by decide +kernel⟩,
   ⟨3, wUp, by decide +kernel⟩,
   ⟨3, wIn 3 1 (fun i => { i with wetStart := some 4999000 }), by decide +kernel⟩,
   ⟨3, wCh 3 3 (Chan.wRng (fun r => { r with mode := 0x0203#32 })), true, false, 15000, 1000, by decide +kernel⟩,
   ⟨3, wCh 3 1 (fun c =>
    { Chan.wRng (fun r => { r with mode := 0x00081F01#32 }) c with inp := { c.inp with deb := some true, holdStart := some 4900000, runFirst := 4899000 } }),
    true, 4900000, by decide +kernel⟩,
   ⟨3, wCh 3 1 (fun c =>
    { Chan.wRng (fun r => { r with mode := 0x00081F01#32 }) c with inp := { c.inp with deb := some true, holdStart := some 4999999 } }),
    4999999, by decide +kernel⟩,
   ⟨3, wIn 3 1 (fun i => { i with chatStart := 4000000, chatCount := 4 }), by decide +kernel⟩,
   ⟨3, wIn 3 1 (fun i => { i with chatStart := 4000000, chatCount := 5 }), by decide +kernel⟩⟩

theorem witness_ContactsAreWetted :
    (∃ (n : Fin 16) (s : State), s.wets n = true ∧ (s.chan n).inp.lastWet = none)
    ∧ (∃ (n : Fin 16) (s : State) (l : Nat), s.wets n = true ∧ (s.chan n).inp.lastWet = some l ∧ l + 20000 ≤ s.clock)
    ∧ (∃ (n : Fin 16) (s : State) (l : Nat), (s.chan n).inp.lastWet = some l ∧ s.clock < l + 20000)
    ∧ (∃ (n : Fin 16) (s : State) (l : Nat), s.wets n = true ∧ (s.chan n).rng.wetRepeat = true ∧ (s.chan n).inp.lastWet = some l ∧ l + 10000000 ≤
        s.clock)
    ∧ (∃ (n : Fin 16) (s : State) (l : Nat), (s.chan n).inp.lastWet = some l ∧ s.clock < l + 10000000)
    ∧ (∃ (n : Fin 16) (s : State) (p : Nat) (pad : Int), (s.chan n).inp.wetStart = some p ∧ p + 2000 ≤ s.clock ∧ (s.chan n).rng.vOnRange.1 ≤ pad)
    ∧ (∃ (n : Fin 16) (s : State) (p : Nat) (pad : Int), (s.chan n).inp.wetStart = some p ∧ p + 2000 ≤ s.clock ∧ pad < (s.chan n).rng.vOnRange.1 ∧
        (s.chan n).live.getLsbD 26 = false ∧ (s.ring (ringOf n)).reports.length < 32)
    ∧ (∃ (n : Fin 16) (s : State) (p : Nat), (s.chan n).inp.wetStart = some p ∧ s.clock < p + 2000)
    ∧ (∃ (n : Fin 16) (s : State), (s.chan n).rng.func = 1 ∧ (s.chan n).rng.diType = 0) :=
  ⟨⟨3, wCh 3 1 (Chan.wRng (fun r => { r with mode := 0x00041F01#32 })), by decide +kernel⟩,
   ⟨3, wCh 3 1 (fun c => { Chan.wRng (fun r => { r with mode := 0x00041F01#32 }) c with inp := { c.inp with lastWet := some 4980000 } }),
    4980000, by decide +kernel⟩,
   ⟨3, wIn 3 1 (fun i => { i with lastWet := some 4980001 }), 4980001, by decide +kernel⟩,
   ⟨3,
    { (wCh 3 1 (fun c => { Chan.wRng (fun r => { r with mode := 0x00041F01#32, diCfg := 0x0A040500#32 }) c with inp := { c.inp with lastWet := some 5000000 } })) with clock := 15000000 },
    5000000, by decide +kernel⟩,
   ⟨3, wIn 3 1 (fun i => { i with lastWet := some 4980001 }), 4980001, by decide +kernel⟩,
   ⟨3, wIn 3 1 (fun i => { i with wetStart := some 4998000, holdStart := some 4990000 }), 4998000, 12000, by decide +kernel⟩,
   ⟨3, wIn 3 1 (fun i => { i with wetStart := some 4998000 }), 4998000, 11999, by decide +kernel⟩,
   ⟨3, wIn 3 1 (fun i => { i with wetStart := some 4998001 }), 4998001, by decide +kernel⟩,
   ⟨3, wCh 3 1 id, by decide +kernel⟩⟩

theorem witness_EdgesAreCounted :
    (∃ (n : Fin 16) (s : State) (rising : Bool) (held : Nat), s.counts n held ∧ (s.chan n).rng.cntMode = 0 ∧ ((s.chan n).rng.edge = 3 ∨ ((s.chan
        n).rng.edge = 1 ∧ rising = true) ∨ ((s.chan n).rng.edge = 2 ∧ rising = false)))
    ∧ (∃ (n : Fin 16) (s : State) (onB rising : Bool) (held : Nat), s.counts n held ∧ (s.chan n).rng.cntMode ≤ 1 ∧ (onB = true ∨ (s.chan
        n).rng.edge = 0 ∨ ((s.chan n).rng.edge = 1 ∧ rising = false) ∨ ((s.chan n).rng.edge = 2 ∧ rising = true)))
    ∧ (∃ (n : Fin 16) (s : State) (rising : Bool) (held : Nat), s.counts n held ∧ (s.chan n).rng.cntMode = 1 ∧ ((s.chan n).rng.edge = 3 ∨ ((s.chan
        n).rng.edge = 1 ∧ rising = true) ∨ ((s.chan n).rng.edge = 2 ∧ rising = false)))
    ∧ (∃ (n : Fin 16) (s : State) (held : Nat), s.counts n held ∧ (s.chan n).rng.cntMode = 2)
    ∧ (∃ (n : Fin 16) (s : State) (held : Nat), s.counts n held ∧ ((s.chan n).rng.cntMode = 3 ∨ (s.chan n).rng.cntMode = 4))
    ∧ (∃ (n : Fin 16) (s : State) (held : Nat), s.counts n held ∧ (s.chan n).rng.cntMode = 4)
    ∧ (∃ (n : Fin 16) (s : State) (held : Nat), s.counts n held ∧ 2 ≤ (s.chan n).rng.cntMode ∧ (s.chan n).live.getLsbD 14 = false ∧ (s.ring
        (ringOf n)).reports.length < 32)
    ∧ (∃ (n : Fin 16) (s : State) (o : CountObs), (o.held < (s.chan n).rng.minPulse ∨ (s.chan n).live.getLsbD 12 = true ∨ (s.ring (ringOf
        n)).rmode ≠ .run))
    ∧ (∃ (n : Fin 16) (s : State), s.phase = .run ∧ (s.chan n).rng.func = 3 ∧ (s.chan n).inp.countDirty = true ∧ (∀ c ∈ (s.chan n).inp.countSent,
        c + 100 ≤ s.clock) ∧ (s.ring (ringOf n)).upOpen = true ∧ (s.ring (ringOf n)).noneBefore (s.chan n).inp.countTick = true)
    ∧ (∃ (n : Fin 16) (s : State), s.phase = .run ∧ (s.chan n).inp.countDirty = true ∧ (∀ c ∈ (s.chan n).inp.countSent, c + 100 ≤ s.clock) ∧
        (s.ring (ringOf n)).upOpen = true ∧ (s.ring (ringOf n)).noneBefore (s.chan n).inp.countTick = true)
    ∧ (∃ (n : Fin 16) (s : State) (c : Nat), (s.chan n).inp.countSent = some c ∧ s.clock < c + 100) :=
  ⟨⟨3, wCh 3 3 (fun c => Chan.wRng (fun r => { r with diCntcfg := 0x0130#32 }) c), false, 1, by decide +kernel⟩,
   ⟨3, wCh 3 3 (fun c => Chan.wRng (fun r => { r with diCntcfg := 0x0121#32 }) c), false, true, 1, by decide +kernel⟩,
   ⟨3, wCh 3 3 (fun c => Chan.wRng (fun r => { r with diCntcfg := 0x0121#32 }) c), false, 1, by decide +kernel⟩,
   ⟨3, wCh 3 3 (fun c => Chan.wRng (fun r => { r with diCntcfg := 0x0112#32 }) c), 1, by decide +kernel⟩,
   ⟨3, wCh 3 3 (fun c => Chan.wRng (fun r => { r with diCntcfg := 0x0113#32 }) c), 1, by decide +kernel⟩,
   ⟨3, wCh 3 3 (fun c => Chan.wRng (fun r => { r with diCntcfg := 0x0114#32 }) c), 1, by decide +kernel⟩,
   ⟨3, wCh 3 3 (fun c => Chan.wRng (fun r => { r with diCntcfg := 0x0114#32 }) c), 1, by decide +kernel⟩,
   ⟨3, wCh 3 3 (fun c => Chan.wRng (fun r => { r with diCntcfg := 0x0130#32 }) c), ⟨false, true, false, false, 0⟩, by decide +kernel⟩,
   ⟨3, wIn 3 3 (fun i => { i with countDirty := true, count := 9#32, countSent := some 4999900 }), by decide +kernel⟩,
   ⟨3, wIn 3 3 (fun i => { i with countDirty := true, count := 9#32, countSent := some 4999900 }), by decide +kernel⟩,
   ⟨3, wIn 3 3 (fun i => { i with countDirty := true, count := 9#32, countSent := some 4999901 }), 4999901, by decide +kernel⟩⟩

theorem witness_InputDiagnosticsAreRaised :
    (∃ (n : Fin 16) (s : State), s.judgesOpenWire n = true)
    ∧ (∃ (n : Fin 16) (s : State), ((s.chan n).rng.func = 2 ∨ (3 < (s.chan n).rng.func ∧ (s.chan n).rng.func < 9) ∨ 12 < (s.chan n).rng.func))
    ∧ (∃ (n : Fin 16) (s : State), s.ringRuns n = true ∧ 1 ≤ (s.chan n).rng.func ∧ (s.chan n).rng.func ≤ 3)
    ∧ (∃ (n : Fin 16) (s : State), ((3 < (s.chan n).rng.func ∨ (s.chan n).rng.func = 0)))
    ∧ (∃ (n : Fin 16) (s : State), (s.chan n).rng.func = 2 ∧ s.samples n = true)
    ∧ (∃ (n : Fin 16) (s : State), 9 ≤ (s.chan n).rng.func ∧ (s.chan n).rng.func ≤ 12 ∧ s.ringRuns n = true ∧ (s.chan n).latch = false)
    ∧ (∃ (n : Fin 16) (s : State), ((s.chan n).rng.func = 1 ∨ (3 ≤ (s.chan n).rng.func ∧ (s.chan n).rng.func < 9))) :=
  ⟨⟨3, wCh 3 1 (Chan.wRng (fun r => { r with diCfg := 0x0A020500#32 })), by decide +kernel⟩,
   ⟨3, wCh 3 13 id, by decide +kernel⟩,
   ⟨3, wCh 3 3 id, by decide +kernel⟩,
   ⟨3, wCh 3 4 id, by decide +kernel⟩,
   ⟨3, wCh 3 2 id, by decide +kernel⟩,
   ⟨3, wCh 3 12 id, by decide +kernel⟩,
   ⟨3, wCh 3 8 id, by decide +kernel⟩⟩

theorem witness_OutputCommandsAreWritten :
    (∃ (e : Env) (n : Fin 16) (s : State) (w : Word), s.hostReady e opWrite = true ∧ ((s.chan n).cfg.func = 0 ∨ (4 ≤ (s.chan n).cfg.func ∧
        (s.chan n).cfg.func ≤ 6)) ∧ (bit w 1 && (s.chan n).cfg.func ≠ 6 && (s.chan n).cfg.func ≠ 0) = false ∧ (s.driveBound n && bit w 0 ≠
        (s.chan n).cmd.hostOn) = false ∧ (s.altBound n && bit w 1 ≠ (s.chan n).cmd.hostAlt) = false ∧ s.rpl.on = false)
    ∧ (∃ (e : Env) (n : Fin 16) (s : State) (w : Word), s.hostReady e opWrite = true ∧ ((s.chan n).cfg.func = 4 ∨ (s.chan n).cfg.func = 5) ∧ bit w
        1 = true)
    ∧ (∃ (e : Env) (n : Fin 16) (s : State) (w : Word), s.hostReady e opWrite = true ∧ ((s.chan n).cfg.func = 0 ∨ (4 ≤ (s.chan n).cfg.func ∧
        (s.chan n).cfg.func ≤ 6)) ∧ (bit w 1 && (s.chan n).cfg.func ≠ 6 && (s.chan n).cfg.func ≠ 0) = false ∧ s.driveBound n = true ∧ bit w
        0 ≠ (s.chan n).cmd.hostOn)
    ∧ (∃ (e : Env) (n : Fin 16) (s : State), s.hostReady e opWrite = true ∧ ((s.chan n).cfg.func = 0 ∨ (4 ≤ (s.chan n).cfg.func ∧ (s.chan
        n).cfg.func ≤ 6)) ∧ s.rpl.on = false)
    ∧ (∃ (e : Env) (n : Fin 16) (s : State), s.hostReady e opWrite = true ∧ ((s.chan n).cfg.func = 0 ∨ (4 ≤ (s.chan n).cfg.func ∧ (s.chan
        n).cfg.func ≤ 6)) ∧ s.rpl.on = true)
    ∧ (∃ (e : Env) (s : State) (w : Word), s.hostReady e opWrite = true ∧ s.recd.journal.length < 2047 ∧ s.img.actPending = false ∧ (40 ≤ fld w 24
        8 ∧ fld w 24 8 ≤ 240) ∧ 1 ≤ fld w 16 8 ∧ (2 ≤ fld w 9 6 ∧ fld w 9 6 ≤ 50) ∧ (80 ≤ fld w 0 9 ∧ fld w 0 9 ≤ 360)) :=
  ⟨⟨wE 1, 3, wCh 3 6 id, 3#32, by decide +kernel⟩,
   ⟨wE 1, 3, wCh 3 5 id, 2#32, by decide +kernel⟩,
   ⟨wE 1, 3, { (wCh 3 4 id) with fab := { (wCh 3 4 id).fab with bindings := [(4144, 0)] } }, 1#32, by decide +kernel⟩,
   ⟨wE 1, 3, wCh 3 4 id, by decide +kernel⟩,
   ⟨wE 1, 3, { (wCh 3 4 id) with rpl := { (wCh 3 4 id).rpl with on := true } }, by decide +kernel⟩,
   ⟨wE 1, wUp, 0xF00A8AB4#32, by decide +kernel⟩⟩

theorem witness_OutputsTrip :
    (∃ (n : Fin 16) (s : State) (u : Nat), isDo (s.chan n).rng.func = true ∧ (s.chan n).stage.inrushStart = some u ∧ u + (s.chan n).rng.inrush *
        1000 ≤ s.clock ∧ (s.chan n).stage.on = true)
    ∧ (∃ (n : Fin 16) (s : State) (u : Nat), isDo (s.chan n).rng.func = true ∧ (s.chan n).stage.inrushStart = some u ∧ u + (s.chan n).rng.inrush *
        1000 ≤ s.clock)
    ∧ (∃ (n : Fin 16) (s : State) (u : Nat), isDo (s.chan n).rng.func = true ∧ (s.chan n).stage.inrushStart = some u ∧ s.clock < u + (s.chan
        n).rng.inrush * 1000)
    ∧ (∃ (n : Fin 16) (s : State), isDo (s.chan n).rng.func = true ∧ (s.chan n).stage.inrushStart = none ∧ ((s.chan n).stage.on = true ∨ (s.chan
        n).stage.drive = .pulldown))
    ∧ (∃ (n : Fin 16) (s : State), isDo (s.chan n).rng.func = true ∧ (s.chan n).stage.inrushStart ≠ none)
    ∧ (∃ (n : Fin 16) (s : State), isDo (s.chan n).rng.func = true ∧ (s.chan n).stage.on = true)
    ∧ (∃ (n : Fin 16) (s : State), (s.chan n).rng.func = 12 ∧ s.ringRuns n = true ∧ (s.chan n).latch = false)
    ∧ (∃ (n : Fin 16) (s : State) (u : Nat), isDo (s.chan n).rng.func = true ∧ (s.chan n).stage.blankStart = some u ∧ u + (s.chan n).rng.offBlank
        * 1000 ≤ s.clock)
    ∧ (∃ (n : Fin 16) (s : State) (u : Nat), isDo (s.chan n).rng.func = true ∧ (s.chan n).stage.blankStart = some u ∧ s.clock < u + (s.chan
        n).rng.offBlank * 1000)
    ∧ (∃ (n : Fin 16) (s : State), isDo (s.chan n).rng.func = true ∧ (s.ring (ringOf n)).logic = true ∧ (s.chan n).stage.drive ≠ .pulldown)
    ∧ (∃ (n : Fin 16) (s : State), isDo (s.chan n).rng.func = true ∧ (s.ring (ringOf n)).logic = true ∧ (s.chan n).stage.drive ≠ .pulldown ∧
        (s.chan n).stage.on = false ∧ (s.chan n).stage.blankStart = none ∧ (s.ring (ringOf n)).rrole.may = true)
    ∧ (∃ (n : Fin 16) (s : State), isDo (s.chan n).rng.func = true ∧ (s.ring (ringOf n)).logic = true ∧ (s.chan n).stage.drive ≠ .pulldown ∧
        (s.chan n).stage.on = false ∧ (s.chan n).stage.blankStart = none ∧ (s.ring (ringOf n)).rrole.may = false)
    ∧ (∃ (n : Fin 16) (s : State), isDo (s.chan n).rng.func = true ∧ ((s.chan n).stage.on = true ∨ (s.chan n).stage.blankStart ≠ none)) :=
  ⟨⟨3, wSt 3 4 (fun g => { g with on := true, drive := .on, inrushStart := some 4900000 }), 4900000, by decide +kernel⟩,
   ⟨3, wSt 3 4 (fun g => { g with on := true, drive := .on, inrushStart := some 4900000 }), 4900000, by decide +kernel⟩,
   ⟨3, wSt 3 4 (fun g => { g with on := true, drive := .on, inrushStart := some 4999999 }), 4999999, by decide +kernel⟩,
   ⟨3, wSt 3 6 (fun g => { g with on := false, drive := .pulldown }), by decide +kernel⟩,
   ⟨3, wSt 3 6 (fun g => { g with on := true, drive := .on, inrushStart := some 4999999 }), by decide +kernel⟩,
   ⟨3, wSt 3 5 (fun g => { g with on := true, drive := .on }), by decide +kernel⟩,
   ⟨3, wCh 3 12 id, by decide +kernel⟩,
   ⟨3, wSt 3 4 (fun g => { g with blankStart := some 4980000 }), 4980000, by decide +kernel⟩,
   ⟨3, wSt 3 4 (fun g => { g with blankStart := some 4999999 }), 4999999, by decide +kernel⟩,
   ⟨3, wCh 3 4 id, by decide +kernel⟩,
   ⟨3, wCh 3 4 id, by decide +kernel⟩,
   ⟨3, (wCh 3 4 id).modRing .a (fun r => { r with rrole := ⟨false, false, false, false⟩ }), by decide +kernel⟩,
   ⟨3, wSt 3 4 (fun g => { g with on := true, drive := .on }), by decide +kernel⟩⟩

theorem witness_OutputDiagnosticsAndTheThermalLimit :
    (∃ (n : Fin 16) (s : State), ((s.chan n).rng.func = 4 ∨ (s.chan n).rng.func = 5) ∧ (s.chan n).rng.olOn = true ∧ (s.chan n).stage.on = true)
    ∧ (∃ (n : Fin 16) (s : State), ((s.chan n).rng.func = 4 ∨ (s.chan n).rng.func = 6) ∧ (s.chan n).rng.olOff = true ∧ (s.chan n).stage.on = false
        ∧ (s.chan n).stage.blankStart = none ∧ (s.ring (ringOf n)).rrole.may = true)
    ∧ (∃ (n : Fin 16) (s : State), (s.ring (ringOf n)).rrole.may = false)
    ∧ (∃ (n : Fin 16) (s : State), (gangMate n (s.chan n).rng).isSome = true ∧ (s.chan n).stage.on = true)
    ∧ (∃ (n : Fin 16) (s : State), gangMate (s.lead n) (s.chan (s.lead n)).rng = none)
    ∧ (∃ (n : Fin 16) (s : State) (recent : List Nat), (s.ring (ringOf n)).logic = true ∧ hasStage (s.chan n).rng.func = true ∧ recent = (s.chan
        n).stage.trips.filter (fun u => decide (s.clock < u + 60000000)))
    ∧ (∃ (n : Fin 16) (s : State), (s.ring (ringOf n)).logic = true ∧ (1 ≤ (s.chan n).rng.func ∧ (s.chan n).rng.func ≤ 3))
    ∧ (∃ (n : Fin 16) (s : State), isDo (s.chan n).rng.func = true ∧ (s.chan n).rng.thRetry = true ∧ (s.chan n).causes = 4#16 ∧ (s.chan n).latch =
        true ∧ s.gangPair n = none ∧ (s.chan n).stage.keepLatch = false)
    ∧ (∃ (n : Fin 16) (s : State), (s.chan (s.lead n)).stage.keepLatch = true)
    ∧ (∃ (n : Fin 16) (s : State), (s.chan n).rng.func ≠ 0 ∧ (s.chan n).stage.on = true ∧ (s.chan n).stage.drive = .pwm ∧ (s.chan
        n).stage.pwmStart + (s.chan n).stage.period.toNat ≤ s.clock)
    ∧ (∃ (n : Fin 16) (s : State), s.clock < (s.chan (s.lead n)).stage.pwmStart + (s.chan (s.lead n)).stage.period.toNat) :=
  ⟨⟨3, wCh 3 4 (fun c => { Chan.wRng (fun r => { r with doCfg := 0x940A5596#32 }) c with stage := { c.stage with on := true, drive := .on } }),
    by decide +kernel⟩,
   ⟨3, wCh 3 4 (Chan.wRng (fun r => { r with doCfg := 0x940A9596#32 })), by decide +kernel⟩,
   ⟨3, wRg .a (fun r => { r with rrole := ⟨false, false, false, false⟩ }), by decide +kernel⟩,
   ⟨3, wCh 3 4 (fun c => { Chan.wRng (fun r => { r with mode := 0x00020204#32 }) c with stage := { c.stage with on := true, drive := .on } }),
    by decide +kernel⟩,
   ⟨3, wUp, by decide +kernel⟩,
   ⟨3, wSt 3 4 (fun g => { g with on := true, drive := .on, trips := [4000000] }), [4000000], by decide +kernel⟩,
   ⟨3, wCh 3 1 id, by decide +kernel⟩,
   ⟨3, wCh 3 4 (fun c => { c with causes := 4#16, latch := true, live := 16#32 }), by decide +kernel⟩,
   ⟨3, wSt 3 4 (fun g => { g with keepLatch := true }), by decide +kernel⟩,
   ⟨3, wSt 3 6 (fun g => { g with on := true, drive := .pwm, pwmStart := 4995000 }), by decide +kernel⟩,
   ⟨3, wSt 3 6 (fun g => { g with on := true, drive := .pwm, pwmStart := 4995001 }), by decide +kernel⟩⟩

theorem witness_RingLimitsAreJudged :
    (∃ (x : RingId) (s : State), (s.ring x).logic = true)
    ∧ (∃ (x : RingId) (s : State), (s.ring x).logic = true)
    ∧ (∃ (x : RingId) (s : State), (s.ring x).logic = true)
    ∧ (∃ (x : RingId) (s : State), (s.ring x).logic = true)
    ∧ (∃ (x : RingId) (s : State), (s.ring x).overload = true ∧ (s.ring x).overloadAt + 1000000 ≤ s.clock)
    ∧ (∃ (x : RingId) (s : State), ((s.ring x).overload = false ∨ s.clock < (s.ring x).overloadAt + 1000000)) :=
  ⟨⟨.b, wUp, by decide +kernel⟩,
   ⟨.b, wUp, by decide +kernel⟩,
   ⟨.b, wUp, by decide +kernel⟩,
   ⟨.b, wUp, by decide +kernel⟩,
   ⟨.b, wRg .b (fun r => { r with overload := true, overloadAt := 4000000 }), by decide +kernel⟩,
   ⟨.b, wRg .b (fun r => { r with overload := true, overloadAt := 4000001 }), by decide +kernel⟩⟩

theorem witness_LoadsAreShedAndTapsAreChosen :
    (∃ (x : RingId) (s : State) (n : Fin 16), (s.ring x).logic = true ∧ (s.ring x).vfOk = true ∧ (s.ring x).configured = true ∧ (s.ring
        x).shedEn = true ∧ ((s.ring x).vfLow || (s.ring x).overload) = true ∧ s.shedChoice x = some n)
    ∧ (∃ (x : RingId) (s : State), (s.ring x).logic = true ∧ (s.ring x).vfOk = true ∧ (s.ring x).configured = true ∧ (s.ring x).shedEn = true ∧
        ((s.ring x).vfLow || (s.ring x).overload) = false ∧ (s.ring x).cleanTicks + 1 < (s.ring x).restoreSteps)
    ∧ (∃ (x : RingId) (s : State) (n : Fin 16) (rest : List (Fin 16)), (s.ring x).logic = true ∧ (s.ring x).vfOk = true ∧ (s.ring x).configured =
        true ∧ (s.ring x).shedEn = true ∧ ((s.ring x).vfLow || (s.ring x).overload) = false ∧ (s.ring x).restoreSteps ≤ (s.ring
        x).cleanTicks + 1 ∧ (s.ring x).shedStack = n :: rest)
    ∧ (∃ (x : RingId) (s : State) (n : Fin 16) (rest : List (Fin 16)), (s.ring x).logic = true ∧ (s.ring x).vfOk = true ∧ (s.ring x).configured =
        true ∧ (s.ring x).shedEn = false ∧ (s.ring x).shedStack = n :: rest)
    ∧ (∃ (x : RingId) (s : State) (n : Fin 16) (o : TickObs) (need : Option Nat), (s.ring x).logic = true ∧ (s.ring x).vfOk = true ∧ (s.ring
        x).configured = true ∧ n ∈ ringChs x ∧ tapped (s.chan n).rng.func = true ∧ (∀ m ∈ (s.ring x).shedStack, isDo (s.chan m).rng.func =
        true) ∧ need = (s.chan n).need (o.pads.getD (n.1 % 8) 0) ∧ (meets need (o.rails.getD (s.chan n).stage.tap.toNat 0) = false ∨ (s.ring
        x).usable s.clock (s.chan n).stage.tap.toNat = false))
    ∧ (∃ (x : RingId) (s : State) (n : Fin 16) (o : TickObs) (need : Option Nat) (low : Nat), (s.ring x).logic = true ∧ (s.ring x).vfOk = true ∧
        (s.ring x).configured = true ∧ n ∈ ringChs x ∧ tapped (s.chan n).rng.func = true ∧ (∀ m ∈ (s.ring x).shedStack, isDo (s.chan
        m).rng.func = true) ∧ need = (s.chan n).need (o.pads.getD (n.1 % 8) 0) ∧ meets need (o.rails.getD (s.chan n).stage.tap.toNat 0) =
        true ∧ (s.ring x).usable s.clock (s.chan n).stage.tap.toNat = true ∧ low = (s.ring x).lowestRail s.clock o.rails (need.map (· +
        (s.ring x).tapHyst * 100)) ∧ low < (s.chan n).stage.tap.toNat)
    ∧ (∃ (x : RingId) (s : State) (n : Fin 16) (o : TickObs) (need : Option Nat) (low : Nat), (s.ring x).logic = true ∧ (s.ring x).vfOk = true ∧
        (s.ring x).configured = true ∧ n ∈ ringChs x ∧ tapped (s.chan n).rng.func = true ∧ (∀ m ∈ (s.ring x).shedStack, isDo (s.chan
        m).rng.func = true) ∧ need = (s.chan n).need (o.pads.getD (n.1 % 8) 0) ∧ meets need (o.rails.getD (s.chan n).stage.tap.toNat 0) =
        true ∧ (s.ring x).usable s.clock (s.chan n).stage.tap.toNat = true ∧ low = (s.ring x).lowestRail s.clock o.rails (need.map (· +
        (s.ring x).tapHyst * 100)) ∧ low < (s.chan n).stage.tap.toNat)
    ∧ (∃ (x : RingId) (s : State) (n : Fin 16) (o : TickObs) (low : Nat), n ∈ ringChs x ∧ tapped (s.chan n).rng.func = true ∧ s.ringRuns n = true
        ∧ low = (s.ring x).lowestRail s.clock o.rails ((s.chan n).need (o.pads.getD (n.1 % 8) 0)))
    ∧ (∃ (x : RingId) (s : State) (n : Fin 16) (o : TickObs) (low : Nat), n ∈ ringChs x ∧ tapped (s.chan n).rng.func = true ∧ s.ringRuns n = true
        ∧ low = (s.ring x).lowestRail s.clock o.rails ((s.chan n).need (o.pads.getD (n.1 % 8) 0)))
    ∧ (∃ (x : RingId) (s : State) (rail : Fin 3), (s.ring x).railOn rail.1 = true)
    ∧ (∃ (x : RingId) (s : State) (rails now : BitVec 3), ((s.ring x).railOn 0 || (s.ring x).railOn 1 || (s.ring x).railOn 2) = true ∧ now = rails
        &&& BitVec.ofNat 3 (s.ring x).tapEn &&& (if (s.ring x).t3 then 7#3 else 3#3))
    ∧ (∃ (x : RingId) (s : State) (rail : Fin 3) (since : Nat), (s.ring x).tapEn.testBit rail.1 = true ∧ (s.ring x).rails.getLsbD rail.1 = true ∧
        (rail = 2 → (s.ring x).t3 = true) ∧ (s.ring x).railHold = [(rail, some since)])
    ∧ (∃ (x : RingId) (s : State) (rail : Fin 3) (since : Nat), (s.ring x).tapEn.testBit rail.1 = true ∧ (s.ring x).rails.getLsbD rail.1 = true ∧
        (rail = 2 → (s.ring x).t3 = true) ∧ (s.ring x).railHold = [(rail, some since)])
    ∧ (∃ (x : RingId) (s : State), (s.ring x).logic = true)
    ∧ (∃ (x : RingId) (s : State), (s.ring x).logic = true) :=
  ⟨⟨.b, (wCh 11 4 (fun c =>
    { Chan.wRng (fun r => { r with mode := 0x00101F04#32 }) c with stage := { c.stage with on := true, drive := .on } })).modRing .b (fun r
    => { r with vfLow := true, rLoadcfg := 0xF00A8AB4#32 }), 11, by decide +kernel⟩,
   ⟨.b, wRg .b (fun r => { r with rLoadcfg := 0xF00A8AB4#32, cleanTicks := 8 }), by decide +kernel⟩,
   ⟨.b, (wSt 11 4 (fun g => { g with shed := true })).modRing .b (fun r =>
    { r with rLoadcfg := 0xF00A8AB4#32, cleanTicks := 9, shedStack := [11] }), 11, [], by decide +kernel⟩,
   ⟨.b, (wSt 11 4 (fun g => { g with shed := true })).modRing .b (fun r => { r with shedStack := [11] }), 11, [], by decide +kernel⟩,
   ⟨.b, (wCh 11 7 (fun c =>
    { c with an := (fun (a : Analog) => { a with rb := 10000000, target := 10000000#32 }) c.an, stage := { c.stage with tap := 0#2 } })).modRing
    .b (fun r => { r with rPwrcfg := 0x008C041F#32, rails := 7#3, t3 := true }), 11,
    { rails := [8000, 12000, 18000, 24000], pads := [0, 0, 0, 8000, 0, 0, 0, 0] }, some 9500, by decide +kernel⟩,
   ⟨.b, (wCh 11 7 (fun c =>
    { c with an := (fun (a : Analog) => { a with rb := 10000000, target := 10000000#32 }) c.an, stage := { c.stage with tap := 3#2, downCount := 3 } })).modRing
    .b (fun r => { r with rPwrcfg := 0x008C041F#32, rails := 7#3, t3 := true }), 11,
    { rails := [8000, 12000, 18000, 24000], pads := [0, 0, 0, 8000, 0, 0, 0, 0] }, some 9500, 1, by decide +kernel⟩,
   ⟨.b, (wCh 11 7 (fun c =>
    { c with an := (fun (a : Analog) => { a with rb := 10000000, target := 10000000#32 }) c.an, stage := { c.stage with tap := 3#2, downCount := 0 } })).modRing
    .b (fun r => { r with rPwrcfg := 0x008C041F#32, rails := 7#3, t3 := true }), 11,
    { rails := [8000, 12000, 18000, 24000], pads := [0, 0, 0, 8000, 0, 0, 0, 0] }, some 9500, 1, by decide +kernel⟩,
   ⟨.b, (wCh 11 7 (fun c =>
    { c with an := (fun (a : Analog) => { a with rb := 10000000, target := 10000000#32 }) c.an, stage := { c.stage with tap := 0#2 } })).modRing
    .b (fun r => { r with rPwrcfg := 0x008C041F#32, rails := 7#3, t3 := true }), 11,
    { rails := [8000, 12000, 18000, 24000], pads := [0, 0, 0, 8000, 0, 0, 0, 0] }, 1, by decide +kernel⟩,
   ⟨.b, (wCh 11 7 (fun c =>
    { c with an := (fun (a : Analog) => { a with rb := 10000000, target := 10000000#32 }) c.an, stage := { c.stage with tap := 2#2 } })).modRing
    .b (fun r => { r with rPwrcfg := 0x008C041F#32, rails := 7#3, t3 := false }), 11,
    { rails := [8000, 12000, 18000, 24000], pads := [0, 0, 0, 8000, 0, 0, 0, 0] }, 1, by decide +kernel⟩,
   ⟨.b, (wCh 11 7 (fun c =>
    { c with an := (fun (a : Analog) => { a with rb := 10000000, target := 10000000#32 }) c.an, stage := { c.stage with tap := 1#2 } })).modRing
    .b (fun r => { r with rPwrcfg := 0x008C041F#32, rails := 7#3, t3 := true }), 1, by decide +kernel⟩,
   ⟨.b, wRg .b (fun r => { r with rPwrcfg := 0x008C041F#32, rails := 1#3, t3 := true, railHold := [(1, none)] }), 3#3, 3#3, by decide +kernel⟩,
   ⟨.b, wRg .b (fun r => { r with rPwrcfg := 0x008C041F#32, rails := 7#3, t3 := true, railHold := [(1, some 4900000)] }), 1, 4900000,
    by decide +kernel⟩,
   ⟨.b, wRg .b (fun r => { r with rPwrcfg := 0x008C041F#32, rails := 7#3, t3 := true, railHold := [(2, some 4900001)] }), 2, 4900001,
    by decide +kernel⟩,
   ⟨.b, (wCh 11 7 (fun c =>
    { c with an := (fun (a : Analog) => { a with rb := 10000000, target := 10000000#32 }) c.an, stage := { c.stage with tap := 2#2 } })).modRing
    .b (fun r => { r with rPwrcfg := 0x008C041F#32, rails := 7#3, t3 := true }), by decide +kernel⟩,
   ⟨.b, wRg .b (fun r => { r with rPwrcfg := 0x008C041F#32, rails := 7#3, t3 := false }), by decide +kernel⟩⟩

theorem witness_AnalogSetpointsAndCalibrationAreWritten :
    (∃ (e : Env) (n : Fin 16) (s : State) (w : Word), s.hostReady e opWrite = true ∧ setOutside (s.chan n).cfg.func (s.chan n).cfg.range w =
        false ∧ s.rpl.on = false)
    ∧ (∃ (e : Env) (n : Fin 16) (s : State) (w : Word), s.hostReady e opWrite = true ∧ (s.chan n).cfg.func = 7 ∧ (w.toInt < 0 ∨ 24000000 <
        w.toInt))
    ∧ (∃ (e : Env) (n : Fin 16) (s : State) (w : Word), s.hostReady e opWrite = true ∧ (s.driveBound n && bit w 0 ≠ (s.chan n).cmd.anOn) = false ∧
        s.rpl.on = false)
    ∧ (∃ (e : Env) (n : Fin 16) (s : State) (w : Word), s.hostReady e opWrite = true ∧ s.driveBound n = true ∧ bit w 0 ≠ (s.chan n).cmd.anOn)
    ∧ (∃ (e : Env) (n : Fin 16) (s : State) (v : Int) (u : State), s.hostReady e opWrite = true ∧ s.recd.journal.length < 2047 ∧ s.loopValue n =
        (v, u) ∧ s.captureCode n false v = 0)
    ∧ (∃ (e : Env) (n : Fin 16) (s : State) (v : Int) (u : State), s.hostReady e opWrite = true ∧ s.recd.journal.length < 2047 ∧ s.loopValue n =
        (v, u) ∧ s.captureCode n true v = 0)
    ∧ (∃ (e : Env) (n : Fin 16) (s : State) (v : Int) (u : State) (k : Nat), s.hostReady e opWrite = true ∧ s.loopValue n = (v, u) ∧ s.captureCode
        n true v = k ∧ k ≠ 0 ∧ k ≠ 9)
    ∧ (∃ (e : Env) (n : Fin 16) (s : State), s.hostReady e opWrite = true ∧ s.recd.journal.length < 2047 ∧ (s.chan n).cfg.zsAllowed = true)
    ∧ (∃ (e : Env) (n : Fin 16) (s : State) (gain : Bool) (w : Word), s.hostReady e opWrite = true ∧ s.recd.journal.length < 2047 ∧ ((s.chan
        n).cfg.func = 7 ∨ (s.chan n).cfg.func = 8) ∧ w.toInt.natAbs ≤ (if gain then 50000 else if (s.chan n).cfg.func = 7 then 500000 else
        100000))
    ∧ (∃ (e : Env) (n : Fin 16) (s : State) (gain : Bool) (w : Word), s.hostReady e opWrite = true ∧ (¬ ((s.chan n).cfg.func = 7 ∨ (s.chan
        n).cfg.func = 8) ∨ (if gain then 50000 else if (s.chan n).cfg.func = 7 then 500000 else 100000) < w.toInt.natAbs)) :=
  ⟨⟨wE 1, 3, wCh 3 7 id, 12000000#32, by decide +kernel⟩,
   ⟨wE 1, 3, wCh 3 7 id, 24000001#32, by decide +kernel⟩,
   ⟨wE 1, 3, wCh 3 7 id, 1#32, by decide +kernel⟩,
   ⟨wE 1, 3, { (wCh 3 7 id) with fab := { (wCh 3 7 id).fab with bindings := [(4144, 0)] } }, 1#32, by decide +kernel⟩,
   ⟨wE 1, 3, wAn 3 10 (fun a => { a with reads := [(4990000, 4000100)] }), 4000100, wAn 3 10 (fun a =>
    { a with reads := [(4990000, 4000100)] }), by decide +kernel, by decide +kernel, State.loopValue_of_average (by decide +kernel),
    by decide +kernel⟩,
   ⟨wE 1, 3, wAn 3 10 (fun a => { a with reads := [(4990000, 20000100)] }), 20000100, wAn 3 10 (fun a =>
    { a with reads := [(4990000, 20000100)] }), by decide +kernel, by decide +kernel, State.loopValue_of_average (by decide +kernel),
    by decide +kernel⟩,
   ⟨wE 1, 3, wAn 3 10 (fun a => { a with reads := [(4990000, 5000000)] }), 5000000, wAn 3 10 (fun a =>
    { a with reads := [(4990000, 5000000)] }), 8, by decide +kernel, State.loopValue_of_average (by decide +kernel), by decide +kernel,
    by decide +kernel, by decide +kernel⟩,
   ⟨wE 1, 3, wCh 3 10 id, by decide +kernel⟩,
   ⟨wE 1, 3, wCh 3 7 id, true, 50000#32, by decide +kernel⟩,
   ⟨wE 1, 3, wCh 3 7 id, true, 50001#32, by decide +kernel⟩⟩

theorem witness_AnalogDiagnosticsAreRaised :
    (∃ (n : Fin 16) (s : State), s.judgesCompliance n = true ∧ 1000000 ≤ (s.chan n).an.target.toInt ∧ (s.chan n).an.rb < 200000)
    ∧ (∃ (n : Fin 16) (s : State), (s.chan n).rng.func = 7 ∧ s.ringRuns n = true ∧ (s.chan n).latch = false ∧ 3500000 ≤ (s.chan n).an.rb)
    ∧ (∃ (n : Fin 16) (s : State), (s.chan n).rng.func = 11 ∧ s.ringRuns n = true ∧ (s.chan n).latch = false)
    ∧ (∃ (n : Fin 16) (s : State), (s.chan n).rng.func = 8 ∧ s.ringRuns n = true ∧ (s.chan n).latch = false)
    ∧ (∃ (n : Fin 16) (s : State), (s.chan n).rng.func = 8 ∧ s.ringRuns n = true ∧ (s.chan n).latch = false ∧ (s.chan n).rng.anLineMon = true ∧
        1000000 ≤ (s.chan n).an.target.toInt.natAbs)
    ∧ (∃ (n : Fin 16) (s : State), (s.chan n).an.target.toInt.natAbs < 1000000)
    ∧ (∃ (n : Fin 16) (s : State), ((s.chan n).rng.func = 10 ∨ (s.chan n).rng.func = 11) ∧ (s.chan n).rng.ne43 = true ∧ s.ringRuns n = true ∧
        (s.chan n).latch = false ∧ (s.chan n).an.regionAt + (s.chan n).rng.ne43Time * 100000 ≤ s.clock ∧ (s.chan n).an.region = 3#3)
    ∧ (∃ (n : Fin 16) (s : State), ((s.chan n).rng.func = 10 ∨ (s.chan n).rng.func = 11) ∧ (s.chan n).rng.ne43 = true ∧ s.ringRuns n = true ∧
        (s.chan n).latch = false ∧ (s.chan n).an.regionAt + (s.chan n).rng.ne43Time * 100000 ≤ s.clock ∧ (s.chan n).an.region = 4#3)
    ∧ (∃ (n : Fin 16) (s : State), s.clock < (s.chan n).an.regionAt + (s.chan n).rng.ne43Time * 100000)
    ∧ (∃ (n : Fin 16) (s : State), (s.ring (ringOf n)).logic = true ∧ (s.ring (ringOf n)).vfOk = true ∧ (s.ring (ringOf n)).configured = true ∧
        s.judgesCompliance n = true ∧ (s.chan n).an.offTarget = true ∧ 1 ≤ (s.chan n).an.compLow ∧ (∀ m ∈ (s.ring (ringOf n)).shedStack,
        isDo (s.chan m).rng.func = true))
    ∧ (∃ (n : Fin 16) (s : State), (s.ring (ringOf n)).logic = true ∧ (s.ring (ringOf n)).vfOk = true ∧ (s.ring (ringOf n)).configured = true ∧
        s.judgesCompliance n = true ∧ (s.chan n).an.offTarget = false ∧ 1 ≤ (s.chan n).an.compOk ∧ (s.chan n).live.getLsbD 8 = false ∧ (∀ m
        ∈ (s.ring (ringOf n)).shedStack, isDo (s.chan m).rng.func = true))
    ∧ (∃ (n : Fin 16) (s : State) (m : Fin 32) (out : Nat), (m.1 = 18 ∧ (s.chan n).an.region ≠ 3#3 ∧ out = (s.chan n).an.lowOutAt ∨ m.1 = 19 ∧
        (s.chan n).an.region ≠ 4#3 ∧ out = (s.chan n).an.highOutAt) ∧ (s.chan n).live.getLsbD m.1 = true ∧ (s.ring (ringOf
        n)).reports.length < 32)
    ∧ (∃ (n : Fin 16) (s : State) (m : Fin 32) (out : Nat), (m.1 = 18 ∧ (s.chan n).an.region ≠ 3#3 ∧ out = (s.chan n).an.lowOutAt ∨ m.1 = 19 ∧
        (s.chan n).an.region ≠ 4#3 ∧ out = (s.chan n).an.highOutAt) ∧ (s.chan n).live.getLsbD m.1 = true ∧ (s.ring (ringOf
        n)).reports.length < 32)
    ∧ (∃ (n : Fin 16) (s : State) (m : Fin 32), (m.1 = 8 → s.judgesCompliance n = true) ∧ (m.1 = 5 ∨ m.1 = 8 ∨ m.1 = 9 ∨ m.1 = 13 ∨ m.1 = 16 ∨ m.1
        = 17 ∨ m.1 = 27) ∧ (s.chan n).live.getLsbD m.1 = true ∧ (s.ring (ringOf n)).reports.length < 32)
    ∧ (∃ (s : State) (x : RingId), (s.ring x).tapOverload = true ∧ (s.ring x).reports.length < 32) :=
  ⟨⟨3, wCh 3 7 (fun c => { c with rcmd := { c.rcmd with anCmd := 1#32 }, an := { c.an with target := 1000000#32, targetAt := 4999000 } }),
    by decide +kernel⟩,
   ⟨3, wAn 3 7 (fun a => { a with rb := 3500000 }), by decide +kernel⟩,
   ⟨3, wCh 3 11 id, by decide +kernel⟩,
   ⟨3, wCh 3 8 id, by decide +kernel⟩,
   ⟨3, wCh 3 8 (fun c => { Chan.wRng (fun r => { r with anCfg := 0x878A0A08#32 }) c with an := { c.an with target := 1000000#32 } }),
    by decide +kernel⟩,
   ⟨3, wAn 3 8 (fun a => { a with target := 999999#32 }), by decide +kernel⟩,
   ⟨3, wCh 3 10 (fun c =>
    { Chan.wRng (fun r => { r with anCfg := 0x878A0A04#32 }) c with an := { c.an with region := 3#3, regionAt := 4000000 } }),
    by decide +kernel⟩,
   ⟨3, wCh 3 10 (fun c =>
    { Chan.wRng (fun r => { r with anCfg := 0x878A0A04#32 }) c with an := { c.an with region := 4#3, regionAt := 4000000 } }),
    by decide +kernel⟩,
   ⟨3, wAn 3 10 (fun a => { a with regionAt := 4000001 }), by decide +kernel⟩,
   ⟨3, wCh 3 7 (fun c =>
    { c with rcmd := { c.rcmd with anCmd := 1#32 }, an := { c.an with target := 1000000#32, targetAt := 4999000, compLow := 1 } }),
    by decide +kernel⟩,
   ⟨3, wCh 3 7 (fun c =>
    { c with live := 0x8000#32, rcmd := { c.rcmd with anCmd := 1#32 }, an := { c.an with target := 1000000#32, rb := 1000000, targetAt := 4999000, compOk := 1 } }),
    by decide +kernel⟩,
   ⟨3, wCh 3 10 (fun c =>
    { Chan.wRng (fun r => { r with anCfg := 0x878A0A04#32 }) c with live := 0x40000#32, an := { c.an with region := 2#3, lowOutAt := 4000000 } }),
    18, 4000000, by decide +kernel⟩,
   ⟨3, wCh 3 10 (fun c =>
    { Chan.wRng (fun r => { r with anCfg := 0x878A0A04#32 }) c with live := 0x80000#32, an := { c.an with region := 3#3, highOutAt := 4999999 } }),
    19, 4999999, by decide +kernel⟩,
   ⟨3, wCh 3 8 (fun c => { c with live := 0x20000#32 }), 17, by decide +kernel⟩,
   ⟨wRg .b (fun r => { r with tapOverload := true }), .b, by decide +kernel⟩⟩

theorem witness_ServiceButtonsCapture :
    (∃ (s : State) (e : Env) (n : Fin 16) (w : Word), s.hostReady e opWrite = true ∧ bit w 8 = true ∧ 1 ≤ fld w 16 8 ∧ (s.chan n).cfg.zsAllowed
        = true ∧ fld w 0 4 = n.1)
    ∧ (∃ (s : State) (e : Env) (n : Fin 16) (w : Word), s.hostReady e opWrite = true ∧ bit w 8 = false ∧ 1 ≤ fld w 16 8 ∧ fld w 0 4 = n.1)
    ∧ (∃ (s : State) (e : Env) (n : Fin 16) (w : Word), s.hostReady e opWrite = true ∧ bit w 8 = false ∧ 1 ≤ fld w 16 8 ∧ fld w 0 4 = n.1)
    ∧ (∃ (s : State) (e : Env) (w : Word), s.hostReady e opWrite = true ∧ fld w 16 8 = 0)
    ∧ (∃ (s : State) (e : Env) (n : Fin 16) (w : Word), s.hostReady e opWrite = true ∧ bit w 8 = true ∧ 1 ≤ fld w 16 8 ∧ (s.chan n).cfg.zsAllowed
        = false ∧ fld w 0 4 = n.1)
    ∧ (∃ (s : State), s.svc.en = true ∧ s.svc.armEnd ≤ s.clock)
    ∧ (∃ (s : State), (s.svc.en = false ∨ s.clock < s.svc.armEnd))
    ∧ (∃ (s : State), (s.svc.en = false ∨ s.clock < s.svc.armEnd))
    ∧ (∃ (s : State) (span : Bool), s.vioOk = true ∧ (if span then s.svc.spanHeld else s.svc.zeroHeld) = false ∧ s.svc.zeroAt = none ∧
        s.svc.spanAt = none ∧ s.svc.blocked = false)
    ∧ (∃ (s : State) (span : Bool), s.vioOk = true ∧ (if span then s.svc.spanHeld else s.svc.zeroHeld) = false ∧ s.svc.zeroAt = none ∧
        s.svc.spanAt = none ∧ s.svc.blocked = false)
    ∧ (∃ (s : State) (span : Bool), s.vioOk = true ∧ (if span then s.svc.spanHeld else s.svc.zeroHeld) = false ∧ (s.svc.zeroAt.isSome = true ∨
        s.svc.spanAt.isSome = true))
    ∧ (∃ (s : State) (span : Bool), s.vioOk = true ∧ (if span then s.svc.spanHeld else s.svc.zeroHeld) = false ∧ (s.svc.zeroAt.isSome = true ∨
        s.svc.spanAt.isSome = true))
    ∧ (∃ (s : State) (span : Bool), s.vioOk = true ∧ (if span then s.svc.spanHeld else s.svc.zeroHeld) = false ∧ s.svc.zeroAt = none ∧
        s.svc.spanAt = none ∧ s.svc.blocked = true)
    ∧ (∃ (s : State) (span : Bool), s.vioOk = true ∧ (if span then s.svc.spanHeld else s.svc.zeroHeld) = false ∧ s.svc.zeroAt = none ∧
        s.svc.spanAt = none ∧ s.svc.blocked = true)
    ∧ (∃ (s : State), s.vioOk = true)
    ∧ (∃ (s : State), s.vioOk = true)
    ∧ (∃ (s : State), s.vioOk = false)
    ∧ (∃ (s : State) (span : Bool) (z : Nat) (v : Int) (u : State), (if span then s.svc.spanAt else s.svc.zeroAt) = some z ∧ z + 3000000 ≤ s.clock
        ∧ s.vioOk = true ∧ s.svc.en = true ∧ s.mayTake .service = true ∧ s.loopValue s.svc.ch = (v, u) ∧ s.captureCode s.svc.ch span v = 0 ∧
        s.svc.spoiled = false ∧ s.recd.journal.length < 2047)
    ∧ (∃ (s : State) (span : Bool) (z : Nat) (v : Int) (u : State), (if span then s.svc.spanAt else s.svc.zeroAt) = some z ∧ z + 3000000 ≤ s.clock
        ∧ s.vioOk = true ∧ s.svc.en = true ∧ s.mayTake .service = true ∧ s.loopValue s.svc.ch = (v, u) ∧ s.captureCode s.svc.ch span v = 0 ∧
        s.svc.spoiled = false ∧ s.recd.journal.length < 2047)
    ∧ (∃ (s : State) (span : Bool) (z : Nat) (v : Int) (u : State), (if span then s.svc.spanAt else s.svc.zeroAt) = some z ∧ z + 3000000 ≤ s.clock
        ∧ s.vioOk = true ∧ s.svc.en = true ∧ s.mayTake .service = true ∧ s.loopValue s.svc.ch = (v, u) ∧ s.captureCode s.svc.ch span v = 0 ∧
        s.svc.spoiled = false ∧ s.recd.journal.length < 2047)
    ∧ (∃ (s : State) (n : Fin 16) (a : Int), (s.chan n).an.average s.clock 100000 = some a)
    ∧ (∃ (s : State) (span : Bool) (z k : Nat) (v : Int) (u : State), (if span then s.svc.spanAt else s.svc.zeroAt) = some z ∧ z + 3000000 ≤
        s.clock ∧ s.vioOk = true ∧ s.loopValue s.svc.ch = (v, u) ∧ k = (if s.svc.spoiled then 10 else if !s.svc.en then 3 else s.captureCode
        s.svc.ch span v) ∧ k ≠ 0)
    ∧ (∃ (s : State) (span : Bool) (z k : Nat) (v : Int) (u : State), (if span then s.svc.spanAt else s.svc.zeroAt) = some z ∧ z + 3000000 ≤
        s.clock ∧ s.vioOk = true ∧ s.loopValue s.svc.ch = (v, u) ∧ k = (if s.svc.spoiled then 10 else if !s.svc.en then 3 else s.captureCode
        s.svc.ch span v) ∧ k ≠ 0)
    ∧ (∃ (s : State) (span : Bool) (z k : Nat) (v : Int) (u : State), (if span then s.svc.spanAt else s.svc.zeroAt) = some z ∧ z + 3000000 ≤
        s.clock ∧ s.vioOk = true ∧ s.loopValue s.svc.ch = (v, u) ∧ k = (if s.svc.spoiled then 10 else if !s.svc.en then 3 else s.captureCode
        s.svc.ch span v) ∧ k ≠ 0)
    ∧ (∃ (s : State) (span : Bool) (z k : Nat) (v : Int) (u : State), (if span then s.svc.spanAt else s.svc.zeroAt) = some z ∧ z + 3000000 ≤
        s.clock ∧ s.vioOk = true ∧ s.loopValue s.svc.ch = (v, u) ∧ k = (if s.svc.spoiled then 10 else if !s.svc.en then 3 else s.captureCode
        s.svc.ch span v) ∧ k ≠ 0)
    ∧ (∃ (s : State) (span : Bool) (z : Nat), (if span then s.svc.spanAt else s.svc.zeroAt) = some z ∧ s.clock < z + 3000000)
    ∧ (∃ (s : State) (span : Bool), (if span then s.svc.spanAt else s.svc.zeroAt) = none)
    ∧ (∃ (s : State), s.svc.blinks ≠ 0 ∧ s.svc.blinkAt + 200000 ≤ s.clock)
    ∧ (∃ (s : State), (s.svc.blinks = 0 ∨ s.clock < s.svc.blinkAt + 200000))
    ∧ (∃ (s : State) (n : Fin 16) (p : Nat × CalCopy), ((s.chan n).an.persist.filter (fun q => decide (q.1 + 20000 ≤ s.clock))).getLast? = some p)
    ∧ (∃ (s : State) (n : Fin 16), (s.chan n).an.persist.all (fun q => decide (s.clock < q.1 + 20000)) = true) :=
  ⟨⟨wCh 3 10 id, wE 1, 3, 0x000A0103#32, by decide +kernel⟩,
   ⟨{ (wCh 3 10 id) with svc := { wUp.svc with en := true, ch := 3, zeroHeld := true, zeroAt := some 2000000 } }, wE 1, 3, 0x000A0003#32,
    by decide +kernel⟩,
   ⟨wUp, wE 1, 4, 0x00010004#32, by decide +kernel⟩,
   ⟨wCh 3 10 id, wE 1, 0x00000103#32, by decide +kernel⟩,
   ⟨wUp, wE 1, 3, 0x00010103#32, by decide +kernel⟩,
   ⟨{ wUp with svc := { wUp.svc with en := true, armEnd := 5000000, ch := 3 } }, by decide +kernel⟩,
   ⟨{ wUp with svc := { wUp.svc with en := true, armEnd := 5000001, ch := 3 } }, by decide +kernel⟩,
   ⟨wUp, by decide +kernel⟩,
   ⟨wUp, false, by decide +kernel⟩,
   ⟨{ wUp with svc := { wUp.svc with zeroHeld := true } }, true, by decide +kernel⟩,
   ⟨{ wUp with svc := { wUp.svc with zeroHeld := true, zeroAt := some 4900000 } }, true, by decide +kernel⟩,
   ⟨{ wUp with svc := { wUp.svc with en := true, ch := 3, spanHeld := true, spanAt := some 2000000 } }, false, by decide +kernel⟩,
   ⟨{ wUp with svc := { wUp.svc with zeroHeld := true, blocked := true } }, true, by decide +kernel⟩,
   ⟨{ wUp with svc := { wUp.svc with spanHeld := true, blocked := true } }, false, by decide +kernel⟩,
   ⟨{ wUp with svc := { wUp.svc with zeroHeld := true, zeroAt := some 4900000 } }, by decide +kernel⟩,
   ⟨{ wUp with svc := { wUp.svc with spanHeld := true, zeroHeld := true, blocked := true } }, by decide +kernel⟩,
   ⟨{ wUp with vio := false, svc := { wUp.svc with en := true, ch := 3, zeroHeld := true, zeroAt := some 2000000 } }, by decide +kernel⟩,
   ⟨{ (wAn 3 10 (fun a => { a with reads := [(4990000, 4000100)] })) with svc := { wUp.svc with en := true, ch := 3, zeroHeld := true, zeroAt := some 2000000 } },
    false, 2000000, 4000100,
    { (wAn 3 10 (fun a => { a with reads := [(4990000, 4000100)] })) with svc := { wUp.svc with en := true, ch := 3, zeroHeld := true, zeroAt := some 2000000 } },
    by decide +kernel, by decide +kernel, by decide +kernel, by decide +kernel, by decide +kernel, State.loopValue_of_average
    (by decide +kernel), by decide +kernel, by decide +kernel, by decide +kernel⟩,
   ⟨{ (wAn 3 10 (fun a => { a with reads := [(4990000, 20000100)] })) with svc := { wUp.svc with en := true, ch := 3, spanHeld := true, spanAt := some 2000000 } },
    true, 2000000, 20000100,
    { (wAn 3 10 (fun a => { a with reads := [(4990000, 20000100)] })) with svc := { wUp.svc with en := true, ch := 3, spanHeld := true, spanAt := some 2000000 } },
    by decide +kernel, by decide +kernel, by decide +kernel, by decide +kernel, by decide +kernel, State.loopValue_of_average
    (by decide +kernel), by decide +kernel, by decide +kernel, by decide +kernel⟩,
   ⟨{ (wAn 3 10 (fun a => { a with zsFunc := 7#4, zcap := 5#32, scap := 6#32, reads := [(4990000, 20000100)] })) with svc := { wUp.svc with en := true, ch := 3, spanHeld := true, spanAt := some 2000000 } },
    true, 2000000, 20000100,
    { (wAn 3 10 (fun a => { a with zsFunc := 7#4, zcap := 5#32, scap := 6#32, reads := [(4990000, 20000100)] })) with svc := { wUp.svc with en := true, ch := 3, spanHeld := true, spanAt := some 2000000 } },
    by decide +kernel, by decide +kernel, by decide +kernel, by decide +kernel, by decide +kernel, State.loopValue_of_average
    (by decide +kernel), by decide +kernel, by decide +kernel, by decide +kernel⟩,
   ⟨wAn 3 10 (fun a => { a with reads := [(4990000, 7), (4980000, 8), (4900000, 90)] }), 3, 8, by decide +kernel⟩,
   ⟨{ (wAn 3 10 (fun a => { a with reads := [(4990000, 4000100)] })) with svc := { { wUp.svc with en := true, ch := 3, spanHeld := true, spanAt := some 2000000 } with en := false } },
    true, 2000000, 3, 4000100,
    { (wAn 3 10 (fun a => { a with reads := [(4990000, 4000100)] })) with svc := { { wUp.svc with en := true, ch := 3, spanHeld := true, spanAt := some 2000000 } with en := false } },
    by decide +kernel, by decide +kernel, by decide +kernel, State.loopValue_of_average (by decide +kernel), by decide +kernel,
    by decide +kernel⟩,
   ⟨{ (wAn 3 10 (fun a => { a with reads := [(4990000, 4000100)] })) with svc := { { wUp.svc with en := true, ch := 3, zeroHeld := true, zeroAt := some 2000000 } with spoiled := true } },
    false, 2000000, 10, 4000100,
    { (wAn 3 10 (fun a => { a with reads := [(4990000, 4000100)] })) with svc := { { wUp.svc with en := true, ch := 3, zeroHeld := true, zeroAt := some 2000000 } with spoiled := true } },
    by decide +kernel, by decide +kernel, by decide +kernel, State.loopValue_of_average (by decide +kernel), by decide +kernel,
    by decide +kernel⟩,
   ⟨{ (wAn 3 10 (fun a => { a with reads := [(4990000, 4000100)] })) with svc := { wUp.svc with en := true, ch := 3, spanHeld := true, spanAt := some 2000000 } },
    true, 2000000, 8, 4000100,
    { (wAn 3 10 (fun a => { a with reads := [(4990000, 4000100)] })) with svc := { wUp.svc with en := true, ch := 3, spanHeld := true, spanAt := some 2000000 } },
    by decide +kernel, by decide +kernel, by decide +kernel, State.loopValue_of_average (by decide +kernel), by decide +kernel,
    by decide +kernel⟩,
   ⟨{ (wAn 3 10 (fun a => { a with reads := [(4990000, 4000100)] })) with svc := { wUp.svc with en := true, ch := 3, zeroHeld := true, zeroAt := some 2000000 }, recd.journal := List.replicate 2048 wRecord },
    false, 2000000, 9, 4000100,
    { (wAn 3 10 (fun a => { a with reads := [(4990000, 4000100)] })) with svc := { wUp.svc with en := true, ch := 3, zeroHeld := true, zeroAt := some 2000000 }, recd.journal := List.replicate 2048 wRecord },
    by decide +kernel, by decide +kernel, by decide +kernel, State.loopValue_of_average (by decide +kernel), by decide +kernel,
    by decide +kernel⟩,
   ⟨{ wUp with svc := { { wUp.svc with en := true, ch := 3, zeroHeld := true, zeroAt := some 2000000 } with zeroAt := some 2000001 } }, false,
    2000001, by decide +kernel⟩,
   ⟨wUp, true, by decide +kernel⟩,
   ⟨{ wUp with svc := { wUp.svc with blinks := 1, blinkAt := 4800000 } }, by decide +kernel⟩,
   ⟨{ wUp with svc := { wUp.svc with blinks := 1, blinkAt := 4800001 } }, by decide +kernel⟩,
   ⟨wAn 3 10 (fun a => { a with persist := [(4980000, a.stored), (4990000, a.stored)] }), 3, (4980000, Analog.reset.stored), by decide +kernel⟩,
   ⟨wAn 3 10 (fun a => { a with persist := [(4980001, a.stored)] }), 3, by decide +kernel⟩⟩

theorem witness_FskModemSendsAndReceives :
    (∃ (x : RingId) (s : State) (e : Env), s.hostReady e opWrite = true ∧ (s.ring x).link = true ∧ s.fskLevel x < 64)
    ∧ (∃ (x : RingId) (s : State) (last : Bool) (d : Byte) (k : Nat) (q : List (RingCmd × Nat)), (s.ring x).downOpen = true ∧ (s.ring x).cmdq =
        (.fskTx last d, k) :: q ∧ (s.ring x).fsk.state = .idle ∧ (s.ring x).fsk.en = true ∧ s.fskLatched x = false)
    ∧ (∃ (x : RingId) (s : State) (e : Env), s.hostReady e opWrite = true ∧ 64 ≤ s.fskLevel x)
    ∧ (∃ (x : RingId) (s : State), (s.ring x).fsk.state = .waiting ∧ (s.ring x).fsk.tx ≠ [] ∧ (s.ring x).fsk.quietOver s.clock = true ∧ (s.ring
        x).logic = true ∧ s.fskLatched x = false)
    ∧ (∃ (x : RingId) (s : State), (s.ring x).fsk.cd = true)
    ∧ (∃ (x : RingId) (s : State), (s.ring x).fsk.state = .sending ∧ (s.ring x).fsk.ended = true ∧ 0 < (s.ring x).fsk.sent ∧ 3000000 + (s.ring
        x).fsk.sent * 11000000 ≤ (s.clock - (s.ring x).fsk.sentAt) * 1200)
    ∧ (∃ (x : RingId) (s : State), (s.ring x).fsk.state = .sending ∧ (s.ring x).fsk.ended = false ∧ (s.ring x).fsk.tx = [] ∧ 0 < (s.ring
        x).fsk.sent ∧ 3000000 + (s.ring x).fsk.sent * 11000000 ≤ (s.clock - (s.ring x).fsk.sentAt) * 1200)
    ∧ (∃ (x : RingId) (s : State), s.fskReceives x = true ∧ (s.ring x).fsk.cd = false)
    ∧ (∃ (x : RingId) (s : State), (s.ring x).fsk.cd = true)
    ∧ (∃ (x : RingId) (s : State) (d : Byte) (parity framing : Bool) (w : Word), s.fskReceives x = true ∧ (s.ring x).fsk.cd = true ∧ w = fskWord
        (decide ((s.ring x).fsk.lastStop + charTimes 2 < s.clock)) (s.ring x).fsk.som framing parity d)
    ∧ (∃ (x : RingId) (s : State) (d : Byte) (parity framing : Bool) (w : Word), s.fskReceives x = true ∧ (s.ring x).fsk.cd = true ∧ w = fskWord
        (decide ((s.ring x).fsk.lastStop + charTimes 2 < s.clock)) (s.ring x).fsk.som framing parity d)
    ∧ (∃ (x : RingId) (s : State) (w : Word) (u : Nat) (q : List UpMsg), s.phase = .run ∧ (s.ring x).upOpen = true ∧ s.pwr.mode ≠ .cellar ∧
        (s.ring x).upq = .fsk w u :: q ∧ (s.ring x).reports = [])
    ∧ (∃ (x : RingId) (s : State) (w : Word) (u : Nat) (q : List UpMsg), s.phase = .run ∧ (s.ring x).upOpen = true ∧ s.pwr.mode ≠ .cellar ∧
        (s.ring x).upq = .fsk w u :: q ∧ (s.ring x).reports = [])
    ∧ (∃ (x : RingId) (s : State) (e : Env) (a : Word) (rest : List Word), s.hostReady e opRead = true ∧ (s.ring x).fsk.rx = a :: rest)
    ∧ (∃ (x : RingId) (s : State) (e : Env), s.hostReady e opRead = true ∧ (s.ring x).fsk.rx = [])
    ∧ (∃ (x : RingId) (s : State) (u : Nat), (s.ring x).fsk.respFrom = some u ∧ u + (s.ring x).fsk.rt.toNat * 11000000 / 1200 ≤ s.clock) :=
  ⟨⟨.b, wFs .b (fun k => { k with en := true, ch := 11#5 }), wE 1, by decide +kernel⟩,
   ⟨.b, (wFs .b (fun k => { k with en := true, ch := 11#5 })).modRing .b (fun r => { r with cmdq := [(.fskTx true 5#8, 0)] }), true, 5#8, 0,
    [], by decide +kernel⟩,
   ⟨.b, wFs .b (fun k => { k with tx := List.replicate 64 (false, 0#8) }), wE 1, by decide +kernel⟩,
   ⟨.b, wFs .b (fun k => { k with state := .waiting, tx := [(true, 5#8)], quietFrom := 4981667 }), by decide +kernel⟩,
   ⟨.b, wFs .b (fun k => { k with cd := true }), by decide +kernel⟩,
   ⟨.b, wFs .b (fun k => { k with state := .sending, sentAt := 4988333, sent := 1, ended := true }), by decide +kernel⟩,
   ⟨.b, wFs .b (fun k => { k with state := .sending, sentAt := 4988333, sent := 1, ranDry := true }), by decide +kernel⟩,
   ⟨.b, wFs .b (fun k => { k with en := true, ch := 11#5, respFrom := some 1 }), by decide +kernel⟩,
   ⟨.b, wFs .b (fun k => { k with cd := true }), by decide +kernel⟩,
   ⟨.b, wFs .b (fun k => { k with en := true, ch := 11#5, cd := true, som := true }), 0x41#8, true, false, fskWord true true false true 0x41#8,
    by decide +kernel⟩,
   ⟨.b, wFs .b (fun k => { k with en := true, ch := 11#5, cd := true, lastStop := 4990000 }), 0x41#8, true, false, fskWord false false false
    true 0x41#8, by decide +kernel⟩,
   ⟨.b, (wFs .b (fun k => { k with rx := List.replicate 64 0#32 })).modRing .b (fun r => { r with upq := [.fsk 0x141#32 7] }), 0x141#32, 7, [],
    by decide +kernel⟩,
   ⟨.b, wRg .b (fun r => { r with upq := [.fsk 0x41#32 7] }), 0x41#32, 7, [], by decide +kernel⟩,
   ⟨.b, wFs .b (fun k => { k with rx := [0x41#32] }), wE 0, 0x41#32, [], by decide +kernel⟩,
   ⟨.b, wUp, wE 0, by decide +kernel⟩,
   ⟨.b, wFs .b (fun k => { k with respFrom := some 4725000 }), 4725000, by decide +kernel⟩⟩

theorem witness_TouchScansAreJudged :
    (∃ (n : Fin 16) (s : State) (c from_ : Nat), s.senses n 13 = true ∧ (s.chan n).live.getLsbD 10 = false ∧ (s.chan n).live.getLsbD 20 = false
        ∧ 3000 ≤ c ∧ c ≤ 200000 ∧ (s.chan n).tch.seeded = true ∧ (s.chan n).tch.touched = false ∧ 0 < (s.chan n).rng.thOn ∧ ((s.chan
        n).rng.thOn * 2560 : Int) ≤ ((c : Int) * 256 - (s.chan n).tch.base8) ∧ (s.chan n).rng.touchN ≤ (s.chan n).tch.onRun + 1 ∧ from_ =
        (if (s.chan n).tch.onRun = 0 then s.clock else (s.chan n).tch.onAt))
    ∧ (∃ (n : Fin 16) (s : State) (c : Nat), s.senses n 13 = true ∧ (s.chan n).live.getLsbD 10 = false ∧ (s.chan n).live.getLsbD 20 = false ∧ 3000
        ≤ c ∧ c ≤ 200000 ∧ (s.chan n).tch.seeded = true ∧ (s.chan n).tch.touched = false ∧ ((c : Int) * 256 - (s.chan n).tch.base8) <
        ((s.chan n).rng.thOn * 2560 : Int) ∧ ((c : Int) * 256 - (s.chan n).tch.base8) < ((s.chan n).rng.thOff * 2560 : Int) ∧ -((s.chan
        n).rng.thOn * 2560 : Int) < ((c : Int) * 256 - (s.chan n).tch.base8) ∧ 0 < (s.chan n).rng.touchN)
    ∧ (∃ (n : Fin 16) (s : State) (c : Nat), s.senses n 13 = true ∧ (s.chan n).live.getLsbD 10 = false ∧ (s.chan n).live.getLsbD 20 = false ∧ 3000
        ≤ c ∧ c ≤ 200000 ∧ (s.chan n).tch.seeded = true ∧ (s.chan n).tch.touched = false ∧ ((c : Int) * 256 - (s.chan n).tch.base8) <
        ((s.chan n).rng.thOn * 2560 : Int) ∧ ((c : Int) * 256 - (s.chan n).tch.base8) ≤ -((s.chan n).rng.thOn * 2560 : Int) ∧ 0 < (s.chan
        n).rng.touchN ∧ (s.chan n).tch.negRun = 99)
    ∧ (∃ (n : Fin 16) (s : State) (c from_ : Nat), s.senses n 13 = true ∧ (s.chan n).live.getLsbD 10 = false ∧ (s.chan n).live.getLsbD 20 = false
        ∧ 3000 ≤ c ∧ c ≤ 200000 ∧ (s.chan n).tch.seeded = true ∧ (s.chan n).tch.touched = true ∧ ((c : Int) * 256 - (s.chan n).tch.base8) <
        ((s.chan n).rng.thOff * 2560 : Int) ∧ (s.chan n).rng.releaseN ≤ (s.chan n).tch.offRun + 1 ∧ from_ = (if (s.chan n).tch.offRun = 0
        then s.clock else (s.chan n).tch.offAt))
    ∧ (∃ (n : Fin 16) (s : State) (c : Nat), s.senses n 13 = true ∧ (s.chan n).live.getLsbD 10 = false ∧ (s.chan n).live.getLsbD 20 = false ∧ 3000
        ≤ c ∧ c ≤ 200000 ∧ (s.chan n).tch.seeded = true ∧ (s.chan n).tch.touched = true ∧ ((s.chan n).rng.thOff * 2560 : Int) ≤ ((c : Int) *
        256 - (s.chan n).tch.base8) ∧ 0 < (s.chan n).rng.releaseN ∧ (s.chan n).rng.maxHold ≠ 0 ∧ 1000 * (s.chan n).rng.maxHold ≤ (s.chan
        n).tch.held + 1 ∧ (s.chan n).live.getLsbD 28 = false ∧ (s.ring (ringOf n)).reports.length < 32)
    ∧ (∃ (n : Fin 16) (s : State) (c : Nat), s.senses n 13 = true ∧ (s.chan n).live.getLsbD 10 = false ∧ (s.chan n).live.getLsbD 20 = false ∧ 3000
        ≤ c ∧ c ≤ 200000 ∧ (s.chan n).tch.seeded = false ∧ (s.chan n).tch.seedCount = 15)
    ∧ (∃ (n : Fin 16) (s : State) (c : Nat), s.senses n 13 = true ∧ (s.chan n).live.getLsbD 10 = false ∧ (s.chan n).live.getLsbD 20 = false ∧ c <
        3000 ∧ s.guardOf n = none ∧ 99 ≤ (s.chan n).tch.openRun ∧ (s.chan n).tch.seeded = true ∧ (s.chan n).tch.touched = false)
    ∧ (∃ (n : Fin 16) (s : State), s.senses n 13 = true ∧ (s.chan n).live.getLsbD 10 = false ∧ (s.chan n).live.getLsbD 20 = false ∧ 9 ≤ (s.chan
        n).tch.shortRun ∧ (s.chan n).tch.seeded = true ∧ (s.chan n).tch.touched = true)
    ∧ (∃ (n : Fin 16) (s : State), s.senses n 13 = true ∧ (s.chan n).tch.seeded = false ∧ ((s.chan n).live.getLsbD 10 = true → (s.chan
        n).tch.openRun < 99) ∧ ((s.chan n).live.getLsbD 20 = true → (s.chan n).tch.shortRun < 9))
    ∧ (∃ (n : Fin 16) (s : State) (c : Nat), s.senses n 13 = true ∧ (s.chan n).live.getLsbD 10 = true ∧ 3000 ≤ c ∧ 99 ≤ (s.chan n).tch.openRun)
    ∧ (∃ (n : Fin 16) (s : State) (c : Nat) (g : Fin 16), s.senses n 13 = true ∧ (s.chan n).live.getLsbD 10 = false ∧ (s.chan n).live.getLsbD 20 =
        false ∧ c < 3000 ∧ s.guardOf n = some g ∧ 99 ≤ (s.chan n).tch.openRun ∧ (s.chan g).plg.state = 1#3 ∧ (s.chan n).guardWait = [])
    ∧ (∃ (n : Fin 16) (s : State), s.senses n 13 = false) :=
  ⟨⟨3, wTc 3 (fun t => { wSeeded t with onRun := 2, onAt := 4990000 }), 50400, 4990000, by decide +kernel⟩,
   ⟨3, wTc 3 (fun t => wSeeded t), 50001, by decide +kernel⟩,
   ⟨3, wTc 3 (fun t => { wSeeded t with negRun := 99 }), 49600, by decide +kernel⟩,
   ⟨3, wTc 3 (fun t => { wSeeded t with touched := true, offRun := 2, offAt := 4990000 }), 50249, 4990000, by decide +kernel⟩,
   ⟨3, wTc 3 (fun t => { wSeeded t with touched := true, held := 29999 }), 50400, by decide +kernel⟩,
   ⟨3, wTc 3 (fun t => { t with seedCount := 15, seedSum := 750000 }), 50000, by decide +kernel⟩,
   ⟨3, wTc 3 (fun t => { wSeeded t with openRun := 99 }), 2999, by decide +kernel⟩,
   ⟨3, wTc 3 (fun t => { wSeeded t with touched := true, shortRun := 9 }), by decide +kernel⟩,
   ⟨3, wCh 3 13 (fun c => { c with live := 0x400#32, tch := { c.tch with seedCount := 15, seedSum := 750000 } }), by decide +kernel⟩,
   ⟨3, wCh 3 13 (fun c => { c with live := 0x400#32, tch := { wSeeded c.tch with openRun := 99 } }), 50000, by decide +kernel⟩,
   ⟨3, (wTc 3 (fun t => { wSeeded t with openRun := 99 })).modChan 2 (fun c =>
    { c with cfg := { c.cfg with mode := 0x1F0E#32 }, rng := { c.rng with mode := 0x1F0E#32, plgCfg := 0x05280800#32 }, plg := { c.plg with state := 1#3 } }),
    2999, 2, by decide +kernel⟩,
   ⟨3, wCh 3 14 id, by decide +kernel⟩⟩

theorem witness_PresenceLoopsAreJudged :
    (∃ (n : Fin 16) (s : State), s.senses n 14 = true ∧ (s.chan n).rng.guard = 0 ∧ (s.chan n).plg.state = 1#3 ∧ (s.chan n).rng.unplugN ≤ (s.chan
        n).plg.runLength 0 1 ∧ ((s.chan n).live &&& 0xE00000#32) = 0#32)
    ∧ (∃ (n : Fin 16) (s : State) (g : Fin 16), s.senses n 14 = true ∧ (s.chan n).plg.state = 1#3 ∧ (s.chan n).rng.unplugN ≤ (s.chan
        n).plg.runLength 0 1 ∧ s.guardOf g = some n ∧ (s.chan g).rng.pluggable = true)
    ∧ (∃ (n : Fin 16) (s : State), s.senses n 14 = true ∧ (s.chan n).rng.guard = 0 ∧ (s.chan n).plg.state.toNat ≤ 4 ∧ (s.chan n).rng.unplugN ≤
        (s.chan n).plg.runLength 0 3)
    ∧ (∃ (n : Fin 16) (s : State) (o : PlugObs), s.senses n 14 = true ∧ o ≠ .shortVf)
    ∧ (∃ (n : Fin 16) (s : State), s.senses n 14 = true ∧ (s.chan n).plg.state = 5#3 ∧ (s.chan n).rng.unplugN ≤ (s.chan n).plg.runLength 0 3 ∧
        (s.chan n).rng.unplugN ≤ (s.chan n).plg.runLength 1 3)
    ∧ (∃ (n : Fin 16) (s : State) (r : Nat), s.senses n 14 = true ∧ (s.chan n).rng.guard = 0 ∧ (s.chan n).plg.state = 2#3 ∧ (s.chan n).rng.loopMin
        * 10 ≤ r ∧ r ≤ (s.chan n).rng.loopMax * 10)
    ∧ (∃ (n : Fin 16) (s : State) (r away : Nat), s.senses n 14 = true ∧ (s.chan n).rng.guard = 0 ∧ (s.chan n).plg.awayAt = some away ∧ (s.chan
        n).plg.state = 3#3 ∧ (s.chan n).rng.loopMin * 10 ≤ r ∧ r ≤ (s.chan n).rng.loopMax * 10 ∧ (s.chan n).plg.stableAt + (s.chan
        n).rng.replugStable * 100000 ≤ s.clock)
    ∧ (∃ (n : Fin 16) (s : State) (r : Nat) (g : Fin 16), s.senses n 14 = true ∧ (s.chan n).plg.state = 3#3 ∧ (s.chan n).plg.fromState = 2#3 ∧
        (s.chan n).rng.plgRearm = true ∧ (s.chan n).rng.loopMin * 10 ≤ r ∧ r ≤ (s.chan n).rng.loopMax * 10 ∧ (s.chan n).plg.stableAt +
        (s.chan n).rng.replugStable * 100000 ≤ s.clock ∧ (s.chan n).rng.guard.testBit (g.1 % 8) = true ∧ ringOf g = ringOf n ∧ g ≠ n ∧
        (s.chan g).causes = 0x100#16 ∧ (s.chan g).latch = true)
    ∧ (∃ (n : Fin 16) (s : State), s.senses n 14 = false)
    ∧ (∃ (n : Fin 16) (s : State) (m : Fin 16) (r k : Nat), s.senses n 14 = true ∧ (s.chan n).plg.state = 1#3 ∧ (s.chan n).rng.loopMin * 10 ≤ r ∧
        r ≤ (s.chan n).rng.loopMax * 10 ∧ s.guardees n = [m] ∧ m ≠ n ∧ (s.chan m).guardWait = [(5, k)] ∧ (s.chan m).live.getLsbD 5 = false)
    ∧ (∃ (n : Fin 16) (s : State) (m : Fin 16) (r k : Nat), s.senses n 14 = true ∧ (s.chan n).plg.state = 1#3 ∧ (s.chan n).rng.loopMin * 10 ≤ r ∧
        r ≤ (s.chan n).rng.loopMax * 10 ∧ s.guardees n = [m] ∧ m ≠ n ∧ (s.chan m).guardWait = [(5, k)] ∧ (s.chan m).live.getLsbD 5 = false)
    ∧ (∃ (n : Fin 16) (s : State) (e : Env), s.hostReady e opWrite = true ∧ (s.chan n).cfg.func = 13 ∧ (s.ring (ringOf n)).link = true)
    ∧ (∃ (n : Fin 16) (s : State) (k : Nat) (q : List (RingCmd × Nat)), (s.ring (ringOf n)).downOpen = true ∧ (s.ring (ringOf n)).cmdq = (.reseed
        n, k) :: q ∧ (s.chan n).rng.func = 13)
    ∧ (∃ (n : Fin 16) (s : State) (e : Env), s.hostReady e opWrite = true ∧ (s.chan n).cfg.func ≠ 13 ∧ (s.chan n).cfg.func ≠ 14 ∧ (s.chan
        n).cfg.func ≠ 0) :=
  ⟨⟨3, wPl 3 (fun p => { p with state := 1#3, runs := [(1#3, 1)] }), by decide +kernel⟩,
   ⟨3, (wCh 3 14 (fun c =>
    { Chan.wRng (fun r => { r with plgCfg := 0x05280400#32 }) c with plg := { c.plg with state := 1#3, runs := [(1#3, 1)] } })).modChan 2
    (fun c => { c with rng := { c.rng with mode := 0x00011F04#32 } }), 2, by decide +kernel⟩,
   ⟨3, wPl 3 (fun p => { p with state := 1#3, runs := [(3#3, 1)] }), by decide +kernel⟩,
   ⟨3, wPl 3 (fun p => { p with state := 4#3 }), .opened, by decide +kernel⟩,
   ⟨3, wPl 3 (fun p => { p with state := 5#3, runs := [(3#3, 5), (3#3, 5)] }), by decide +kernel⟩,
   ⟨3, wPl 3 (fun p => { p with state := 2#3 }), 1000, by decide +kernel⟩,
   ⟨3, wCh 3 14 (fun c =>
    { c with live := 0x20000800#32, plg := { c.plg with state := 3#3, stableAt := 4500000, awayAt := some 4000000, fromState := 2#3 } }),
    1000, 4000000, by decide +kernel⟩,
   ⟨3, (wCh 3 14 (fun c =>
    { Chan.wRng (fun r => { r with plgCfg := 0x05280400#32 }) c with live := 0x20000800#32, plg := { c.plg with state := 3#3, stableAt := 4500000, awayAt := some 4000000, fromState := 2#3 } })).modChan
    2 (fun c => { c with rng := { c.rng with mode := 0x00011F04#32 }, causes := 0x100#16, latch := true }), 1000, 2, by decide +kernel⟩,
   ⟨3, wUp, by decide +kernel⟩,
   ⟨3, (wCh 3 14 (fun c => { Chan.wRng (fun r => { r with plgCfg := 0x05280400#32 }) c with plg := { c.plg with state := 1#3 } })).modChan 2
    (fun c => { c with rng := { c.rng with mode := 0x1F01#32 }, guardWait := [(5, 1)] }), 2, 1000, 1, by decide +kernel⟩,
   ⟨3, (wCh 3 14 (fun c => { Chan.wRng (fun r => { r with plgCfg := 0x05280400#32 }) c with plg := { c.plg with state := 1#3 } })).modChan 2
    (fun c => { c with rng := { c.rng with mode := 0x1F01#32 }, guardWait := [(5, 2)] }), 2, 1000, 2, by decide +kernel⟩,
   ⟨3, wTc 3 (fun t => { wSeeded t with touched := true }), wE 1, by decide +kernel⟩,
   ⟨3, (wTc 3 (fun t => { wSeeded t with touched := true })).modRing .a (fun r => { r with cmdq := [(.reseed 3, 0)] }), 0, [],
    by decide +kernel⟩,
   ⟨3, wCh 3 7 id, wE 1, by decide +kernel⟩⟩

theorem witness_AdcSlicesRotateAndFail :
    (∃ (x : RingId) (s : State), (s.ring x).converts = true ∧ (s.adc x).rotcfg ≠ 0#8 ∧ (s.ring x).rmode = .run ∧ (s.adc x).rotNext ≤ s.tick ∧
        (s.adc x).slices.any (·.failed) = false)
    ∧ (∃ (x : RingId) (s : State), s.tick < (s.adc x).rotNext)
    ∧ (∃ (x : RingId) (s : State) (k old : Fin 5), s.tick % 64 = 0 ∧ (s.ring x).converts = true ∧ (s.ring x).rmode = .run ∧ (s.adc x).handDue =
        true ∧ (s.adc x).settled = true ∧ (s.adc x).spare = some k ∧ ((s.adc x).slices[k.1]).calValid = true ∧ (s.adc x).pos[(s.adc
        x).nextPos.1] = some old ∧ s.bg.behind = 0#8 ∧ (s.slot (hostSlot 19)).real = 0#32)
    ∧ (∃ (x : RingId) (s : State), s.tick % 64 = 0 ∧ (s.ring x).converts = true ∧ (s.ring x).rmode = .run ∧ (s.adc x).handDue = true ∧ (s.adc
        x).settled = false)
    ∧ (∃ (x : RingId) (s : State) (k : Fin 5), (s.ring x).converts = true ∧ ((s.adc x).slices[k.1]).role = .calibrating ∧ ((s.adc
        x).slices[k.1]).waiting = false ∧ ((s.adc x).slices[k.1]).calAt + 12010 ≤ s.clock)
    ∧ (∃ (x : RingId) (s : State) (k : Fin 5), (s.ring x).converts = true ∧ ((s.adc x).slices[k.1]).role = .calibrating ∧ ((s.adc
        x).slices[k.1]).waiting = false ∧ ((s.adc x).slices[k.1]).calAt + 12010 ≤ s.clock ∧ ((s.adc x).slices[k.1]).retried = false)
    ∧ (∃ (x : RingId) (s : State) (k : Fin 5), (s.ring x).converts = true ∧ ((s.adc x).slices[k.1]).role = .calibrating ∧ ((s.adc
        x).slices[k.1]).waiting = false ∧ ((s.adc x).slices[k.1]).calAt + 12010 ≤ s.clock ∧ ((s.adc x).slices[k.1]).retried = true)
    ∧ (∃ (x : RingId) (s : State) (k : Fin 5), (s.ring x).converts = true ∧ ((s.adc x).slices[k.1]).role = .spare)
    ∧ (∃ (x : RingId) (s : State) (k : Fin 5), (s.ring x).converts = true ∧ ((s.adc x).slices[k.1]).role = .working)
    ∧ (∃ (x : RingId) (s : State) (k : Fin 5), ((s.adc x).slices[k.1]).role = .calibrating ∧ s.clock < ((s.adc x).slices[k.1]).calAt + 12010)
    ∧ (∃ (x : RingId) (s : State) (i : Fin 64) (p : Fin 4) (o : Fin 64) (k : Fin 5), (s.adc x).place[i.1] = some (p, o) ∧ (s.adc x).pos[p.1] =
        some k ∧ (s.ring x).converts = true ∧ isConv (s.adc x).entries[i.1] = false ∧ ((s.adc x).slices[k.1]).late = [])
    ∧ (∃ (x : RingId) (s : State) (i : Fin 64), (s.adc x).place[i.1] = none)
    ∧ (∃ (x : RingId) (s : State) (u : Nat), (s.adc x).settleAt = some u ∧ u ≤ s.clock)
    ∧ (∃ (x : RingId) (s : State) (u : Nat), (s.adc x).settleAt = some u ∧ s.clock < u)
    ∧ (∃ (a : Adc), refSel a.refcfg = 1)
    ∧ (∃ (a : Adc), refSel a.refcfg = 1)
    ∧ (∃ (a : Adc), refSel a.refcfg = 1)
    ∧ (∃ (x : RingId) (s : State) (off : Bool), (if off then (s.adc x).refOffAt else (s.adc x).refInAt) = none)
    ∧ (∃ (x : RingId) (s : State) (u : Nat), (s.adc x).refOffAt = some u ∧ u + 1000 ≤ s.clock ∧ (s.ring x).converts = true ∧ refSel (s.adc
        x).refcfg = 1 ∧ (s.adc x).refFault = false)
    ∧ (∃ (x : RingId) (s : State) (u : Nat), (s.adc x).refInAt = some u ∧ u + 1000 ≤ s.clock ∧ (s.ring x).converts = true ∧ refSel (s.adc
        x).refcfg = 1 ∧ (s.adc x).refFault = true ∧ (s.ring x).reports.length < 32) :=
  ⟨⟨.b, wAd .b (fun a => { a with rotNext := 5000000 }), by decide +kernel⟩,
   ⟨.b, wAd .b (fun a => { a with rotNext := 5000001 }), by decide +kernel⟩,
   ⟨.b, wAd .b (fun a => { a with settled := true, handDue := true }), 4, 0, by decide +kernel⟩,
   ⟨.b, wAd .b (fun a => { a with handDue := true }), by decide +kernel⟩,
   ⟨.b, wAd .b (wSlice (fun c => { c with calAt := 4987990 })), 4, by decide +kernel⟩,
   ⟨.b, wAd .b (wSlice (fun c => { c with calAt := 4987990 })), 4, by decide +kernel⟩,
   ⟨.b, wAd .b (wSlice (fun c => { c with calAt := 4987990, retried := true })), 4, by decide +kernel⟩,
   ⟨.b, wUp, 4, by decide +kernel⟩,
   ⟨.b, wUp, 0, by decide +kernel⟩,
   ⟨.b, wAd .b (wSlice (fun c => { c with calAt := 4987991 })), 4, by decide +kernel⟩,
   ⟨.b, wUp, 63, 0, 0, 0, by decide +kernel⟩,
   ⟨.b, wUp, 62, by decide +kernel⟩,
   ⟨.b, wAd .b (fun a => { a with settleAt := some 5000000 }), 5000000, by decide +kernel⟩,
   ⟨.b, wAd .b (fun a => { a with settleAt := some 5000001 }), 5000001, by decide +kernel⟩,
   ⟨{ Adc.reset with refcfg := 0x09C40A01#32 }, by decide +kernel⟩,
   ⟨{ Adc.reset with refcfg := 0x09C40A01#32 }, by decide +kernel⟩,
   ⟨{ Adc.reset with refcfg := 0x09C40A01#32 }, by decide +kernel⟩,
   ⟨.b, wUp, true, by decide +kernel⟩,
   ⟨.b, wAd .b (fun a => { a with refcfg := 0x09C40A01#32, refOffAt := some 4999000 }), 4999000, by decide +kernel⟩,
   ⟨.b, wAd .b (fun a => { a with refcfg := 0x09C40A01#32, refFault := true, refInAt := some 4999000 }), 4999000, by decide +kernel⟩⟩

theorem witness_AdcRegistersAreWritten :
    (∃ (e : Env) (x : RingId) (s : State) (i : Fin 64) (w : Word), s.hostReady e opWrite = true ∧ s.recd.journal.length < 2047 ∧
        s.img.actPending = false ∧ lowest (s.entryBad x i w) = none ∧ isConv w = false)
    ∧ (∃ (e : Env) (x : RingId) (s : State) (i : Fin 64) (w : Word), s.hostReady e opWrite = true ∧ s.recd.journal.length < 2047 ∧
        s.img.actPending = false ∧ lowest (s.entryBad x i w) = none ∧ isConv w = true ∧ s.heldByOther 3 (ringIx x) i.1 1 (entCh w) = none)
    ∧ (∃ (e : Env) (x : RingId) (s : State) (i : Fin 64) (w : Word) (b : Nat), s.hostReady e opWrite = true ∧ (s.entryBad x i w).any (fun p => p.1
        && p.2 = b) = true ∧ (∀ p ∈ s.entryBad x i w, p.1 = true → b ≤ p.2))
    ∧ (∃ (e : Env) (s : State) (w : Word), s.hostReady e opWrite = true ∧ s.recd.journal.length < 2047 ∧ s.img.actPending = false ∧ refSel w ≤ 1 ∧
        1 ≤ extWait w ∧ 2000 ≤ extMv w ∧ extMv w ≤ 3000)
    ∧ (∃ (e : Env) (s : State) (w : Word), s.hostReady e opWrite = true ∧ refSel w ≤ 1 ∧ extWait w = 0)
    ∧ (∃ (e : Env) (s : State), s.hostReady e opWrite = true ∧ s.recd.journal.length < 2047 ∧ s.img.actPending = false)
    ∧ (∃ (x : RingId) (s : State) (i : Fin 64) (w : Word) (k : Nat) (q : List (RingCmd × Nat)), (s.ring x).downOpen = true ∧ (s.ring x).cmdq =
        (.adcEntry i w, k) :: q)
    ∧ (∃ (x : RingId) (s : State) (w : Word) (k : Nat) (q : List (RingCmd × Nat)), (s.ring x).downOpen = true ∧ (s.ring x).cmdq = (.adcRef w, k)
        :: q)
    ∧ (∃ (x : RingId) (s : State) (v : Byte) (at_ k : Nat) (q : List (RingCmd × Nat)), (s.ring x).downOpen = true ∧ (s.ring x).cmdq = (.adcRot v
        at_, k) :: q ∧ (s.adc x).rotPend = some v ∧ s.tick < at_ + v.toNat * 1000000)
    ∧ (∃ (x : RingId) (s : State) (v : Byte) (at_ k : Nat) (q : List (RingCmd × Nat)), (s.ring x).downOpen = true ∧ (s.ring x).cmdq = (.adcRot v
        at_, k) :: q ∧ v ≠ 0#8)
    ∧ (∃ (x : RingId) (s : State) (v : Byte) (at_ k : Nat) (q : List (RingCmd × Nat)), (s.ring x).downOpen = true ∧ (s.ring x).cmdq = (.adcRot v
        at_, k) :: q ∧ v ≠ 0#8) :=
  ⟨⟨wE 1, .a, wUp, 5, 0x00010300#32, by decide +kernel⟩,
   ⟨wE 1, .a, wUp, 5, 0x00010003#32, by decide +kernel⟩,
   ⟨wE 1, .a, wUp, 5, 0x0001000B#32, 0, by decide +kernel⟩,
   ⟨wE 1, wUp, 0x07D00101#32, by decide +kernel⟩,
   ⟨wE 1, wUp, 0x07D00001#32, by decide +kernel⟩,
   ⟨wE 1, wUp, by decide +kernel⟩,
   ⟨.a, wRg .a (fun r => { r with cmdq := [(.adcEntry 5 0x00010003#32, 0)] }), 5, 0x00010003#32, 0, [], by decide +kernel⟩,
   ⟨.a, wRg .a (fun r => { r with cmdq := [(.adcRef 0x07D00101#32, 0)] }), 0x07D00101#32, 0, [], by decide +kernel⟩,
   ⟨.a, (wAd .a (fun a => { a with rotPend := some 5#8 })).modRing .a (fun r => { r with cmdq := [(.adcRot 5#8 4000000, 0)] }), 5#8, 4000000,
    0, [], by decide +kernel⟩,
   ⟨.a, (wAd .a (fun a => { a with rotPend := some 5#8 })).modRing .a (fun r => { r with cmdq := [(.adcRot 1#8 1000000, 0)] }), 1#8, 1000000,
    0, [], by decide +kernel⟩,
   ⟨.a, wRg .a (fun r => { r with cmdq := [(.adcRot 1#8 1000001, 0)] }), 1#8, 1000001, 0, [], by decide +kernel⟩⟩

theorem witness_ConversionsReachTheValues :
    (∃ (s : State) (x : RingId) (i : Fin 64) (n : Fin 16), (s.ring x).converts = true ∧ ((s.adc x).place[i.1]).isSome = true ∧ s.sequences x =
        true ∧ (s.ring x).link = true ∧ (s.ring x).ringLost = false ∧ (s.ring x).ringBeat = false ∧ entKind (s.adc x).entries[i.1] = 0 ∧
        entCh (s.adc x).entries[i.1] = n.1 ∧ (s.chan n).latch = false ∧ (s.chan n).func = 9 ∧ (s.chan n).rng.func = 9 ∧ (s.ring x).rstop =
        false ∧ s.entryWaits n = false ∧ bit s.rpl.cfg 0 = false ∧ (s.chain n).en = false ∧ s.convFlags x i false = 0)
    ∧ (∃ (s : State) (x : RingId) (i : Fin 64) (n : Fin 16), (s.ring x).converts = true ∧ ((s.adc x).place[i.1]).isSome = true ∧ s.sequences x =
        true ∧ (s.ring x).link = true ∧ (s.ring x).ringLost = false ∧ (s.ring x).ringBeat = false ∧ entKind (s.adc x).entries[i.1] = 0 ∧
        entCh (s.adc x).entries[i.1] = n.1 ∧ (s.chan n).latch = false ∧ (s.chan n).func = 9 ∧ (s.chan n).rng.func = 9 ∧ (s.ring x).rstop =
        false ∧ s.entryWaits n = false ∧ bit s.rpl.cfg 0 = false ∧ (s.chain n).en = false ∧ (s.ring x).discards.length < 64)
    ∧ (∃ (s : State) (x : RingId) (i : Fin 64) (n : Fin 16), (s.ring x).converts = true ∧ ((s.adc x).place[i.1]).isSome = true ∧ s.sequences x =
        true ∧ (s.ring x).link = true ∧ (s.ring x).ringLost = false ∧ (s.ring x).ringBeat = false ∧ entKind (s.adc x).entries[i.1] = 0 ∧
        entCh (s.adc x).entries[i.1] = n.1 ∧ (s.chan n).latch = false ∧ (s.chan n).func = 9 ∧ (s.chan n).rng.func = 9 ∧ (s.ring x).rstop =
        false ∧ s.entryWaits n = false ∧ bit s.rpl.cfg 0 = false ∧ (s.chain n).en = true ∧ (s.chain n).running = true ∧ s.pwr.mode = .run ∧
        (s.chain n).k = 0 ∧ (s.chain n).profile ≤ 5 ∧ (s.chain n).hiEn = false ∧ (s.chain n).loEn = false ∧ ringOf n = x ∧ s.entryIx n =
        some i ∧ (∀ v : WheelId, (s.wheel v).names 1 n = false) ∧ s.convFlags x i false = 0 ∧ (s.chain n).inFlags = 0#3)
    ∧ (∃ (s : State) (x : RingId) (i : Fin 64) (n : Fin 16), (s.ring x).converts = true ∧ ((s.adc x).place[i.1]).isSome = true ∧ s.sequences x =
        true ∧ (s.ring x).link = false ∧ entKind (s.adc x).entries[i.1] = 0 ∧ entCh (s.adc x).entries[i.1] = n.1 ∧ (s.chan n).latch = false
        ∧ isAi (s.chan n).func = true ∧ (s.ring x).rstop = false ∧ (s.chain n).en = false)
    ∧ (∃ (s : State) (x : RingId) (i : Fin 64) (lost : Bool), (s.ring x).converts = true ∧ ((s.adc x).place[i.1]).isSome = true ∧ s.sequences x =
        true ∧ entKind (s.adc x).entries[i.1] = 2 ∧ ((s.ring x).link = true → (s.ring x).ringLost = false → (s.ring x).ringBeat = false ∧
        (lost = true → (s.ring x).discards.length < 64)))
    ∧ (∃ (s : State) (x : RingId) (i : Fin 64) (lost : Bool), (s.ring x).converts = true ∧ ((s.adc x).place[i.1]).isSome = true ∧ s.sequences x =
        true ∧ entKind (s.adc x).entries[i.1] = 2 ∧ ((s.ring x).link = true → (s.ring x).ringLost = false → (s.ring x).ringBeat = false ∧
        (lost = true → (s.ring x).discards.length < 64)))
    ∧ (∃ (s : State) (x : RingId) (i : Fin 64) (lost : Bool), (s.ring x).converts = true ∧ ((s.adc x).place[i.1]).isSome = true ∧ s.sequences x =
        true ∧ entKind (s.adc x).entries[i.1] = 2 ∧ ((s.ring x).link = true → (s.ring x).ringLost = false → (s.ring x).ringBeat = false ∧
        (lost = true → (s.ring x).discards.length < 64)))
    ∧ (∃ (s : State) (x : RingId) (i : Fin 64) (lost : Bool), (s.ring x).converts = true ∧ ((s.adc x).place[i.1]).isSome = true ∧ s.sequences x =
        true ∧ entKind (s.adc x).entries[i.1] = 2 ∧ ((s.ring x).link = true → (s.ring x).ringLost = false → (s.ring x).ringBeat = false ∧
        (lost = true → (s.ring x).discards.length < 64)))
    ∧ (∃ (s : State) (x : RingId) (i : Fin 64), (s.adc x).place[i.1] = none)
    ∧ (∃ (s : State), s.tick % 64 = 0)
    ∧ (∃ (s : State), s.tick % 64 ≠ 0) :=
  ⟨⟨wConv id, .a, 5, 3, by decide +kernel⟩,
   ⟨wConv id, .a, 5, 3, by decide +kernel⟩,
   ⟨wConv (fun h => { h with cfg := 0x80000000#32, running := true, settleLeft := 1 }), .a, 5, 3, by decide +kernel⟩,
   ⟨(wConv id).modRing .a (fun r => { r with link := false }), .a, 5, 3, by decide +kernel⟩,
   ⟨wUp.modAdc .a (fun a => { a with calNext := [63], ovrNext := [0] }), .a, 63, false, by decide +kernel⟩,
   ⟨{ (wCh 3 7 id) with clock := 5000016 }, .a, 63, false, by decide +kernel⟩,
   ⟨{ wUp with clock := 5001536 }, .a, 63, false, by decide +kernel⟩,
   ⟨{ wUp with clock := 4999936 }, .b, 63, false, by decide +kernel⟩,
   ⟨wUp, .a, 62, by decide +kernel⟩,
   ⟨{ (wConv (fun h => { h with cfg := 0x80000000#32, running := true, restart := true })) with filt := { (wConv (fun h => { h with cfg := 0x80000000#32, running := true, restart := true })).filt with cfgPend := some 0x10#32, syncDue := [(false, .internal)] } },
    by decide +kernel⟩,
   ⟨{ wUp with clock := 5000001 }, by decide +kernel⟩⟩

theorem witness_FilterRegistersAreWrittenAndSynced :
    (∃ (s : State) (e : Env) (n : Fin 16) (w : Word), s.hostReady e opWrite = true ∧ s.recd.journal.length < 2047 ∧ s.img.actPending = false ∧
        lowest (s.chainBad n w) = none ∧ bit w 31 = true)
    ∧ (∃ (s : State) (e : Env) (n : Fin 16) (w : Word) (b : Nat), s.hostReady e opWrite = true ∧ (s.chainBad n w).any (fun p => p.1 && p.2 = b) =
        true ∧ (∀ p ∈ s.chainBad n w, p.1 = true → b ≤ p.2))
    ∧ (∃ (s : State) (e : Env) (w : Word), s.hostReady e opWrite = true ∧ s.recd.journal.length < 2047 ∧ s.img.actPending = false ∧ fld w 4 2 ≠ 3
        ∧ fld w 0 2 = fld s.filtSoon 0 2)
    ∧ (∃ (s : State) (e : Env) (w : Word), s.hostReady e opWrite = true ∧ fld w 4 2 = 3 ∧ fld w 0 2 = fld s.filtSoon 0 2)
    ∧ (∃ (s : State) (e : Env), s.hostReady e opWrite = true ∧ s.recd.journal.length < 2047 ∧ s.img.actPending = false)
    ∧ (∃ (s : State) (e : Env) (w : Word), s.hostReady e opWrite = true ∧ bit w 1 = false)
    ∧ (∃ (s : State) (e : Env) (w : Word), s.hostReady e opWrite = true ∧ bit w 0 = false)
    ∧ (∃ (s : State), s.phase = .run ∧ s.vio = true ∧ s.bg.syncMode = 0 ∧ s.pwr.mode ≠ .cellar ∧ fld s.filt.cfg 4 2 = 1 ∧ s.filt.armed = true)
    ∧ (∃ (s : State), s.phase = .run ∧ s.vio = true ∧ s.bg.syncMode = 0 ∧ s.pwr.mode ≠ .cellar ∧ fld s.filt.cfg 4 2 = 2)
    ∧ (∃ (s : State), s.bg.syncMode = 2) :=
  ⟨⟨wShare, wE 1, 3, 0x80010100#32, by decide +kernel⟩,
   ⟨wShare, wE 1, 3, 0x80000B06#32, 0, by decide +kernel⟩,
   ⟨wUp, wE 1, 0x20#32, by decide +kernel⟩,
   ⟨wUp, wE 1, 0x30#32, by decide +kernel⟩,
   ⟨wUp, wE 1, by decide +kernel⟩,
   ⟨wUp, wE 1, 1#32, by decide +kernel⟩,
   ⟨wUp, wE 1, 2#32, by decide +kernel⟩,
   ⟨{ wUp with filt := { wUp.filt with cfg := 0x10#32, armed := true } }, by decide +kernel⟩,
   ⟨{ wUp with filt := { wUp.filt with cfg := 0x20#32 } }, by decide +kernel⟩,
   ⟨{ wUp with bg := { wUp.bg with synccfg := 0x02000000#32 } }, by decide +kernel⟩⟩

theorem witness_WheelsArePoppedAndRouted :
    (∃ (e : Env) (k : WheelId) (s : State) (x : Entry) (c : Nat) (rest : List (Entry × Nat)), s.hostReady e opPop = true ∧ (s.wheel k).allocated
        = true ∧ (s.wheel k).q = (x, c) :: rest ∧ (s.wheel k).gapPending = false)
    ∧ (∃ (e : Env) (k : WheelId) (s : State) (x : Entry) (c : Nat) (rest : List (Entry × Nat)), s.hostReady e opPop = true ∧ (s.wheel k).allocated
        = true ∧ (s.wheel k).q = (x, c) :: rest ∧ (s.wheel k).gapPending = false)
    ∧ (∃ (e : Env) (k : WheelId) (s : State) (x : Entry) (c : Nat) (rest : List (Entry × Nat)), s.hostReady e opPop = true ∧ (s.wheel k).allocated
        = true ∧ (s.wheel k).q = (x, c) :: rest ∧ (s.wheel k).gapPending = true ∧ entryKind x = 7)
    ∧ (∃ (e : Env) (k : WheelId) (s : State) (x : Entry) (c : Nat) (rest : List (Entry × Nat)), s.hostReady e opPop = true ∧ (s.wheel k).allocated
        = true ∧ (s.wheel k).q = (x, c) :: rest ∧ (s.wheel k).gapPending = true ∧ entryKind x ≠ 7)
    ∧ (∃ (e : Env) (k : WheelId) (s : State) (x : Entry) (c : Nat) (rest : List (Entry × Nat)), s.hostReady e opPop = true ∧ (s.wheel k).allocated
        = true ∧ (s.wheel k).q = (x, c) :: rest ∧ ((s.wheel k).gapPending = false ∨ entryKind x = 7))
    ∧ (∃ (e : Env) (k : WheelId) (s : State) (x : Entry) (c : Nat) (rest : List (Entry × Nat)), s.hostReady e opPop = true ∧ (s.wheel k).allocated
        = true ∧ (s.wheel k).q = (x, c) :: rest ∧ ((s.wheel k).gapPending = false ∨ entryKind x = 7))
    ∧ (∃ (e : Env) (k : WheelId) (s : State), s.hostReady e opPop = true ∧ (s.wheel k).allocated = true ∧ (s.wheel k).q = [])
    ∧ (∃ (e : Env) (k : WheelId) (s : State), s.hostReady e opPop = true ∧ (s.wheel k).sizeLog2 = 0)
    ∧ (∃ (e : Env) (s : State) (i : Fin 4), s.hostReady e opPop = true ∧ i ≠ 0)
    ∧ (∃ (e : Env) (k : WheelId) (w : Word) (s : State), s.hostReady e opPopBatch = true ∧ (s.wheel k).allocated = true ∧ (s.wheel k).q ≠ [] ∧
        (s.wheel k).gapPending = false ∧ 1 ≤ fld w 0 7 ∧ fld w 0 7 ≤ 64)
    ∧ (∃ (e : Env) (k : WheelId) (w : Word) (s : State), s.hostReady e opPopBatch = true ∧ (s.wheel k).allocated = true ∧ (s.wheel k).q ≠ [] ∧
        (s.wheel k).gapPending = false ∧ 1 ≤ fld w 0 7 ∧ fld w 0 7 ≤ 64)
    ∧ (∃ (e : Env) (k : WheelId) (w : Word) (s : State) (x y : Entry) (c d : Nat) (bad : BitVec 64), s.hostReady e opPopBatch = true ∧ (s.wheel
        k).allocated = true ∧ (s.wheel k).q = [(x, c), (y, d)] ∧ (s.wheel k).gapPending = false ∧ fld w 0 7 = 2 ∧ bad.getLsbD 0 = true ∧
        bad.getLsbD 1 = true ∧ (∀ v : WheelId, (s.wheel v).namesFault (hostSlot 8) = false))
    ∧ (∃ (e : Env) (w : Word) (s : State), s.hostReady e opPopBatch = true ∧ (fld w 0 7 = 0 ∨ 64 < fld w 0 7))
    ∧ (∃ (e : Env) (w : Word) (s : State), s.hostReady e opPopBatch = true ∧ (fld w 0 7 = 0 ∨ 64 < fld w 0 7))
    ∧ (∃ (e : Env) (k : WheelId) (w : Word) (s : State), s.hostReady e opWrite = true ∧ (s.wheel k).allocated = true ∧ prodOk w.toNat = true ∧
        s.prodHeld k w = none ∧ s.img.actPending = false ∧ s.recd.journal.length < 2047)
    ∧ (∃ (e : Env) (k : WheelId) (w : Word) (s : State) (c : Claim), s.hostReady e opWrite = true ∧ (s.wheel k).allocated = true ∧ prodOk w.toNat
        = true ∧ s.wheelClaim k = some c ∧ c.hclass = 1 ∧ c.hindex < 16 ∧ bit w c.hindex = false)
    ∧ (∃ (e : Env) (k : WheelId) (w : Word) (s : State), s.hostReady e opWrite = true ∧ (s.wheel k).allocated = true ∧ prodOk w.toNat = false)
    ∧ (∃ (k : WheelId) (s : State) (x : Entry) (c : Nat) (rest : List (Entry × Nat)) (p : PortId), (s.wheel k).q = (x, c) :: rest ∧ (s.wheel
        k).age ≠ 0#8 ∧ c + (s.wheel k).age.toNat * 1000 ≤ s.clock ∧ (s.wheel k).consumer = decide (p = .hp1))
    ∧ (∃ (k : WheelId) (s : State) (x : Entry) (c : Nat) (rest : List (Entry × Nat)), (s.wheel k).q = (x, c) :: rest ∧ ((s.wheel k).age = 0#8 ∨
        s.clock < c + (s.wheel k).age.toNat * 1000))
    ∧ (∃ (e : Env) (k : WheelId) (s : State), s.hostReady e opWrite = true ∧ (s.wheel k).allocated = true) :=
  ⟨⟨wE 0, 3, wRun.modWheel 3 (fun (q : Wheel) => { q with sizeLog2 := 4, q := [(0x0300000500000007#64, 10), (0x8780000000000005#64, 11)] }),
    0x0300000500000007#64, 10, [(0x8780000000000005#64, 11)], by decide +kernel⟩,
   ⟨wE 0, 63, wRun.modWheel 63 (fun (q : Wheel) => { q with sizeLog2 := 4, q := [(0x8780000000000005#64, 11)] }), 0x8780000000000005#64, 11,
    [], by decide +kernel⟩,
   ⟨wE 0, 63, wRun.modWheel 63 (fun (q : Wheel) => { q with sizeLog2 := 4, q := [(0x8780000000000005#64, 11)], gapPending := true }),
    0x8780000000000005#64, 11, [], by decide +kernel⟩,
   ⟨wE 0, 0, wRun.modWheel 0 (fun (q : Wheel) =>
    { q with sizeLog2 := 4, q := [(0x0300000500000007#64, 10), (0x8780000000000005#64, 11)], gapPending := true }), 0x0300000500000007#64,
    10, [(0x8780000000000005#64, 11)], by decide +kernel⟩,
   ⟨wE 0, 0, wRun.modWheel 0 (fun (q : Wheel) => { q with sizeLog2 := 4, q := [(0x0300000500000007#64, 10), (0x8780000000000005#64, 11)] }),
    0x0300000500000007#64, 10, [(0x8780000000000005#64, 11)], by decide +kernel⟩,
   ⟨wE 0, 63, wRun.modWheel 63 (fun (q : Wheel) => { q with sizeLog2 := 4, q := [(0x8780000000000005#64, 11)], gapPending := true }),
    0x8780000000000005#64, 11, [], by decide +kernel⟩,
   ⟨wE 0, 5, wRun.modWheel 5 (fun q => { q with sizeLog2 := 4 }), by decide +kernel⟩,
   ⟨wE 0, 5, wRun, by decide +kernel⟩,
   ⟨wE 0, wRun, 3, by decide +kernel⟩,
   ⟨wE 1, 3, 64#32, (wRun.modWheel 3 (fun (q : Wheel) =>
    { q with sizeLog2 := 4, q := [(0x0300000500000007#64, 10), (0x8780000000000005#64, 11)] })).modPort .hp0 (fun q => { q with rev := 2 }),
    by decide +kernel⟩,
   ⟨wE 1, 3, 1#32, (wRun.modWheel 3 (fun (q : Wheel) =>
    { q with sizeLog2 := 4, q := [(0x0300000500000007#64, 10), (0x8780000000000005#64, 11)] })).modPort .hp0 (fun q => { q with rev := 2 }),
    by decide +kernel⟩,
   ⟨wE 1, 3, 2#32, (wRun.modWheel 3 (fun (q : Wheel) =>
    { q with sizeLog2 := 4, q := [(0x0300000500000007#64, 10), (0x8780000000000005#64, 11)] })).modPort .hp0 (fun q => { q with rev := 2 }),
    0x0300000500000007#64, 0x8780000000000005#64, 10, 11, 3#64, by decide +kernel⟩,
   ⟨wE 1, 65#32, wRun.modPort .hp0 (fun q => { q with rev := 2 }), by decide +kernel⟩,
   ⟨wE 1, 0#32, wRun.modPort .hp0 (fun q => { q with rev := 2 }), by decide +kernel⟩,
   ⟨wE 1, 3, 0x10010003#32, wRun.modWheel 3 (fun q => { q with sizeLog2 := 4, prod := 0x10010001#32 }), by decide +kernel⟩,
   ⟨wE 1, 3, 0x10010002#32,
    { wRun.modWheel 3 (fun q => { q with sizeLog2 := 4, prod := 0x10010001#32 }) with img.claims := [⟨6, 0, 3, 1, 0, 0, false⟩] }, ⟨6, 0, 3,
    1, 0, 0, false⟩, by decide +kernel⟩,
   ⟨wE 1, 3, 0xF0000000#32, wRun.modWheel 3 (fun (q : Wheel) =>
    { q with sizeLog2 := 4, q := [(0x0300000500000007#64, 10), (0x8780000000000005#64, 11)] }), by decide +kernel⟩,
   ⟨63, wRun.modWheel 63 (fun q => { q with sizeLog2 := 4, consumer := true, age := 1#8, q := [(0x0300000500000007#64, 10)] }),
    0x0300000500000007#64, 10, [], .hp1, by decide +kernel⟩,
   ⟨63, wRun.modWheel 63 (fun q => { q with sizeLog2 := 4, consumer := true, age := 0#8, q := [(0x0300000500000007#64, 10)] }),
    0x0300000500000007#64, 10, [], by decide +kernel⟩,
   ⟨wE 1, 3, wRun.modWheel 3 (fun (q : Wheel) => { q with sizeLog2 := 4, q := [(0x0300000500000007#64, 10), (0x8780000000000005#64, 11)] }),
    by decide +kernel⟩⟩

theorem witness_FlushEmptiesAWheel :
    (∃ (e : Env) (k : WheelId) (s : State), s.hostReady e opWrite = true ∧ (s.wheel k).allocated = true)
    ∧ (∃ (s : State) (k : WheelId) (old new : List (List Byte)) (r : List Byte), (s.wheel k).allocated = true ∧ new.find? (fun r => u8 r 0 = k.1)
        = some r ∧ 1 ≤ u8 r 1 ∧ old.find? (fun r => u8 r 0 = k.1) ≠ some r) :=
  ⟨⟨wE 1, 3, wRun.modWheel 3 (fun (q : Wheel) => { q with sizeLog2 := 4, q := [(0x0300000500000007#64, 10), (0x8780000000000005#64, 11)] }),
    by decide +kernel⟩,
   ⟨wRun.modWheel 3 (fun (q : Wheel) => { q with sizeLog2 := 4, q := [(0x0300000500000007#64, 10), (0x8780000000000005#64, 11)] }), 3, [],
    [[3#8, 4#8, 0#8]], [3#8, 4#8, 0#8], by decide +kernel⟩⟩

theorem witness_StopWheelDropsWhatDoesNotFit :
    (∃ (q : Wheel), q.overwrite = false)
    ∧ (∃ (q : Wheel) (c : MarkCtx), 2 ^ q.sizeLog2 < q.q.length + (if q.needMark c then 2 else 1))
    ∧ (∃ (q : Wheel), q.gapNext = true) :=
  ⟨⟨{ Wheel.reset with sizeLog2 := 4 }, by decide +kernel⟩,
   ⟨{ Wheel.reset with sizeLog2 := 0 }, ⟨5#32, true, false⟩, by decide +kernel⟩,
   ⟨{ Wheel.reset with sizeLog2 := 4, gapNext := true, q := [(0x0300000500000007#64, 10)] }, by decide +kernel⟩⟩

theorem witness_SourcesReleasesAndTheWatchdog :
    (∃ (s : State) (h : Fin 31), h ≠ 3 ∧ s.hostCondition h.1 ≠ some false ∧ instantSource (hostSlot h).1 0 = false ∧ (s.slot (hostSlot
        h)).real.getLsbD 0 = false ∧ (∀ v : WheelId, (s.wheel v).namesFault (hostSlot h) = false))
    ∧ (∃ (s : State) (h : Fin 31), h ≠ 3 ∧ s.hostCondition h.1 ≠ some false ∧ instantSource (hostSlot h).1 0 = false ∧ (s.slot (hostSlot
        h)).real.getLsbD 0 = false ∧ (s.slot (hostSlot h)).cause 0 true = none ∧ (∀ v : WheelId, (s.wheel v).namesFault (hostSlot h) =
        false) ∧ bit s.rpl.cfg (4 + (s.settle (hostSlot h) 0 s.tick).1) = false ∧ (s.settle (hostSlot h) 0 s.tick).2 = 3)
    ∧ (∃ (s : State) (h : Fin 31), h ≠ 3 ∧ s.hostCondition h.1 ≠ some false ∧ instantSource (hostSlot h).1 0 = true ∧ (s.slot (hostSlot h)).real =
        0#32 ∧ (∀ v : WheelId, (s.wheel v).namesFault (hostSlot h) = false))
    ∧ (∃ (s : State) (h : Fin 31), instantSource (hostSlot h).1 0 = false ∧ (s.slot (hostSlot h)).real.getLsbD 0 = true)
    ∧ (∃ (s : State) (h : Fin 31), s.hostCondition h.1 = some false)
    ∧ (∃ (s : State) (h : Fin 31), s.hostCondition h.1 = some false)
    ∧ (∃ (s : State) (h : Fin 31) (c : LiveCause), h ∉ [2, 3, 6, 16] ∧ s.hostCondition h.1 ≠ some true ∧ (s.slot (hostSlot h)).real = 1#32 ∧
        (s.slot (hostSlot h)).inj = 0#32 ∧ (s.slot (hostSlot h)).liveAt = [c] ∧ c.member = 0#8 ∧ c.inj = false ∧ c.since = s.tick ∧ (s.slot
        (hostSlot h)).seen = false ∧ (∀ v : WheelId, (s.wheel v).namesFault (hostSlot h) = false) ∧ (s.flt.tbl[(hostSlot h).1]).getLsbD 2 =
        false)
    ∧ (∃ (s : State) (h : Fin 31), (h ∈ [2, 3, 6, 16] ∨ s.hostCondition h.1 = some true))
    ∧ (∃ (s : State), (s.slot (hostSlot 3)).real.getLsbD 0 = false ∧ (∀ v : WheelId, (s.wheel v).namesFault (hostSlot 3) = false) ∧ bit s.rpl.cfg
        6 = false ∧ s.pair.holdsRole = false)
    ∧ (∃ (s : State), (s.slot (hostSlot 3)).real.getLsbD 0 = false ∧ s.pair.holdsRole = true)
    ∧ (∃ (s : State) (x : RingId), (s.ring x).logic = true)
    ∧ (∃ (s : State) (x : RingId), (s.ring x).logic = false)
    ∧ (∃ (s : State) (e : Env) (w : Word), s.hostReady e opWrite = true ∧ fld w 30 2 = 0 ∧ fld w 16 5 < 16 ∧ w &&& 0xFE00#32 = 0#32 ∧ (s.ring
        (ringOf (toIdx 16 (fld w 16 5)))).link = false ∧ (s.flt.mirror[(toIdx 16 (fld w 16 5) : Fin 16).1] &&& w.truncate 16) = 0#16)
    ∧ (∃ (s : State) (e : Env) (w : Word), s.hostReady e opWrite = true ∧ fld w 30 2 = 0 ∧ fld w 16 5 < 16 ∧ w &&& 0xFE00#32 = 0#32 ∧ (s.ring
        (ringOf (toIdx 16 (fld w 16 5)))).link = false ∧ (s.flt.mirror[(toIdx 16 (fld w 16 5) : Fin 16).1] &&& w.truncate 16) ≠ 0#16)
    ∧ (∃ (s : State) (e : Env) (w : Word) (n : Fin 16), s.hostReady e opWrite = true ∧ fld w 30 2 = 0 ∧ fld w 16 5 = n.1 ∧ w &&& 0xFE00#32 = 0#32
        ∧ (s.ring (ringOf n)).link = true)
    ∧ (∃ (s : State) (e : Env) (w : Word), s.hostReady e opWrite = true ∧ fld w 30 2 = 3 ∧ w &&& 0xFE00#32 = 0#32)
    ∧ (∃ (s : State) (e : Env) (w : Word), s.hostReady e opWrite = true ∧ ((fld w 30 2 = 0 ∧ 16 ≤ fld w 16 5) ∨ (fld w 30 2 = 1 ∧ 2 ≤ fld w 16 5))
        ∧ w &&& 0xFE00#32 = 0#32)
    ∧ (∃ (s : State) (e : Env) (w : Word), s.hostReady e opWrite = true ∧ ((fld w 30 2 = 0 ∧ 16 ≤ fld w 16 5) ∨ (fld w 30 2 = 1 ∧ 2 ≤ fld w 16 5))
        ∧ w &&& 0xFE00#32 = 0#32)
    ∧ (∃ (s : State) (p : PortId) (x : RingId) (r : Release), s.flt.releases = [r] ∧ r.port = p ∧ r.await = [x] ∧ r.acted = [x] ∧ (s.ring
        x).upClear = true)
    ∧ (∃ (s : State) (p : PortId) (x : RingId) (r : Release), s.releaseOf p = some r ∧ x ∈ r.await ∧ x ∈ r.acted ∧ (s.ring x).upClear = true)
    ∧ (∃ (s : State) (p : PortId) (x : RingId), (s.releaseOf p = none ∨ (s.ring x).upClear = false))
    ∧ (∃ (s : State) (e : Env) (w : Word), s.hostReady e opWrite = true ∧ 1 ≤ fld w 0 14 ∧ fld w 0 14 ≤ 10000 ∧ s.recd.journal.length < 2047)
    ∧ (∃ (s : State) (e : Env) (w : Word), s.hostReady e opWrite = true ∧ 1 ≤ fld w 0 14 ∧ fld w 0 14 ≤ 10000 ∧ s.recd.journal.length < 2047)
    ∧ (∃ (s : State) (e : Env) (w : Word), s.hostReady e opWrite = true ∧ (fld w 0 14 = 0 ∨ 10000 < fld w 0 14))
    ∧ (∃ (s : State) (e : Env) (w : Word), s.hostReady e opWrite = true ∧ (fld w 0 14 = 0 ∨ 10000 < fld w 0 14))
    ∧ (∃ (s : State) (e : Env) (w : Word), s.hostReady e opWrite = true ∧ s.flt.wdEn = true ∧ s.flt.wdExpired = false ∧ w.truncate 8 =
        s.flt.wdToken)
    ∧ (∃ (s : State) (e : Env) (w : Word), s.hostReady e opWrite = true ∧ s.flt.wdEn = true ∧ s.flt.wdExpired = false ∧ w.truncate 8 ≠
        s.flt.wdToken)
    ∧ (∃ (s : State) (e : Env), s.hostReady e opWrite = true ∧ s.flt.wdEn = false)
    ∧ (∃ (s : State) (e : Env), s.hostReady e opWrite = true ∧ s.flt.wdEn = true ∧ s.flt.wdExpired = true)
    ∧ (∃ (s : State), s.flt.wdEn = true ∧ s.flt.wdExpired = false ∧ s.pwr.mode ≠ .cellar ∧ s.flt.wdStart + s.flt.wdWindow.toNat * 1000 ≤ s.clock)
    ∧ (∃ (s : State), s.clock < s.flt.wdStart + s.flt.wdWindow.toNat * 1000)
    ∧ (∃ (s : State) (e : Env), s.hostReady e opWrite = true ∧ s.flt.wdExpired = true)
    ∧ (∃ (s : State) (e : Env), s.hostReady e opWrite = true ∧ s.flt.wdExpired = false) :=
  ⟨⟨wUp, 16, by decide +kernel⟩,
   ⟨{ wUp with flt.tbl := wUp.flt.tbl.set 184 0x30#8 }, 16, by decide +kernel⟩,
   ⟨wUp, 5, by decide +kernel⟩,
   ⟨wUp.modSlot (hostSlot 15) (fun f => { f with real := 1#32 }), 15, by decide +kernel⟩,
   ⟨wUp, 0, by decide +kernel⟩,
   ⟨{ wUp with fab.consec := 1#2 }, 2, by decide +kernel⟩,
   ⟨wUp.modSlot (hostSlot 27) (fun f => { f with real := 1#32, liveAt := [⟨0#8, false, wUp.tick, 1#2, 0#3, false⟩], cls := 1#2 }), 27, ⟨0#8,
    false, wUp.tick, 1#2, 0#3, false⟩, by decide +kernel⟩,
   ⟨wUp, 6, by decide +kernel⟩,
   ⟨wUp, by decide +kernel⟩,
   ⟨wAct, by decide +kernel⟩,
   ⟨wUp, .b, by decide +kernel⟩,
   ⟨wRun, .b, by decide +kernel⟩,
   ⟨wRun, wE 1, 0x00010001#32, by decide +kernel⟩,
   ⟨{ wRun with flt.mirror := wRun.flt.mirror.set 1 1#16 }, wE 1, 0x00010001#32, by decide +kernel⟩,
   ⟨{ wUp with flt.mirror := wRun.flt.mirror.set 15 3#16 }, wE 1, 0x000F0001#32, 15, by decide +kernel⟩,
   ⟨wRun, wE 1, 0xC0000001#32, by decide +kernel⟩,
   ⟨wRun, wE 1, 0x00100001#32, by decide +kernel⟩,
   ⟨wRun, wE 1, 0x40020001#32, by decide +kernel⟩,
   ⟨{ (wUp.modPort .hp0 (fun o => { o with executing := some ((⟨3, opWrite, 0#24, 1#8, 0#16, 0x00010001#32, 0#32, none, none⟩ : Request), mkResponse (⟨3, opWrite, 0#24, 1#8, 0#16, 0x00010001#32, 0#32, none, none⟩ : Request) .done) })) with flt.releases := [⟨.hp0, .hp0, 0x00010001#32, 1#16, 0#16, false, [.a], [.a]⟩] },
    .hp0, .a, ⟨.hp0, .hp0, 0x00010001#32, 1#16, 0#16, false, [.a], [.a]⟩, by decide +kernel⟩,
   ⟨{ (wUp.modPort .hp0 (fun o => { o with executing := some ((⟨3, opWrite, 0#24, 1#8, 0#16, 0x00010001#32, 0#32, none, none⟩ : Request), mkResponse (⟨3, opWrite, 0#24, 1#8, 0#16, 0x00010001#32, 0#32, none, none⟩ : Request) .done) })) with flt.releases := [⟨.hp0, .hp0, 0x00010001#32, 1#16, 0#16, false, [.a], [.a]⟩] },
    .hp0, .a, ⟨.hp0, .hp0, 0x00010001#32, 1#16, 0#16, false, [.a], [.a]⟩, by decide +kernel⟩,
   ⟨wUp, .hp1, .a, by decide +kernel⟩,
   ⟨wRun, wE 1, 0x80002710#32, by decide +kernel⟩,
   ⟨wRun, wE 1, 1#32, by decide +kernel⟩,
   ⟨wRun, wE 1, 10001#32, by decide +kernel⟩,
   ⟨wRun, wE 1, 0x80000000#32, by decide +kernel⟩,
   ⟨{ wRun with flt.wdEn := true }, wE 1, 0#32, by decide +kernel⟩,
   ⟨{ wRun with flt.wdEn := true }, wE 1, 1#32, by decide +kernel⟩,
   ⟨wRun, wE 1, by decide +kernel⟩,
   ⟨{ wRun with flt.wdEn := true, flt.wdExpired := true }, wE 1, by decide +kernel⟩,
   ⟨{ wRun with flt.wdEn := true }, by decide +kernel⟩,
   ⟨{ wRun with flt.wdEn := true, flt.wdStart := 4999999 }, by decide +kernel⟩,
   ⟨{ wRun.modSlot (hostSlot 0) (fun f => { f with real := 1#32, liveAt := [⟨0#8, false, 4000000, 2#2, 0#3, false⟩], cls := 2#2 }) with flt.wdEn := true, flt.wdExpired := true },
    wE 1, by decide +kernel⟩,
   ⟨wRun, wE 1, by decide +kernel⟩⟩

theorem witness_InjectionAndTheReactionTable :
    (∃ (e : Env) (w : Word) (s : State) (k : Fin 256) (m : Nat), s.hostReady e opWrite = true ∧ fld w 0 8 = k.1 ∧ fld w 8 8 = m ∧ slotHasMember
        (s.slotFunc k) k.1 m = true ∧ slotUsed k.1 = true ∧ k ≠ 171 ∧ instantSource k.1 m = false ∧ s.flt.injEn = true ∧
        s.recd.journal.length < 2047 ∧ (s.slot k).inj.getLsbD m = false ∧ (∀ v : WheelId, (s.wheel v).namesFault k = false))
    ∧ (∃ (e : Env) (w : Word) (s : State) (k : Fin 256) (m : Nat), s.hostReady e opWrite = true ∧ fld w 0 8 = k.1 ∧ fld w 8 8 = m ∧ slotHasMember
        (s.slotFunc k) k.1 m = true ∧ slotUsed k.1 = true ∧ k ≠ 171 ∧ instantSource k.1 m = false ∧ s.flt.injEn = true ∧
        s.recd.journal.length < 2047 ∧ (s.slot k).inj.getLsbD m = false ∧ (∀ v : WheelId, (s.wheel v).namesFault k = false))
    ∧ (∃ (e : Env) (w : Word) (s : State) (k : Fin 256) (m : Nat), s.hostReady e opWrite = true ∧ fld w 0 8 = k.1 ∧ fld w 8 8 = m ∧ slotHasMember
        (s.slotFunc k) k.1 m = true ∧ slotUsed k.1 = true ∧ k ≠ 171 ∧ s.flt.injEn = true ∧ s.recd.journal.length < 2047 ∧ (s.slot
        k).inj.getLsbD m = true ∧ (∀ v : WheelId, (s.wheel v).namesFault k = false))
    ∧ (∃ (e : Env) (w : Word) (s : State) (k : Fin 256) (m : Nat), s.hostReady e opWrite = true ∧ fld w 0 8 = k.1 ∧ fld w 8 8 = m ∧ slotHasMember
        (s.slotFunc k) k.1 m = true ∧ slotUsed k.1 = true ∧ k ≠ 171 ∧ instantSource k.1 m = false ∧ s.flt.injEn = true ∧
        s.recd.journal.length < 2047 ∧ (s.slot k).inj.getLsbD m = false ∧ (∀ v : WheelId, (s.wheel v).namesFault k = false))
    ∧ (∃ (e : Env) (w : Word) (s : State), s.hostReady e opWrite = true ∧ slotHasMember (s.slotFunc (toIdx 256 (fld w 0 8))) (fld w 0 8) (fld w 8
        8) = true ∧ slotUsed (fld w 0 8) = true ∧ fld w 0 8 ≠ 171 ∧ s.flt.injEn = false)
    ∧ (∃ (e : Env) (w : Word) (s : State), s.hostReady e opWrite = true ∧ slotHasMember (s.slotFunc (toIdx 256 (fld w 0 8))) (fld w 0 8) (fld w 8
        8) = true ∧ (slotUsed (fld w 0 8) = false ∨ fld w 0 8 = 171))
    ∧ (∃ (e : Env) (w : Word) (s : State), s.hostReady e opWrite = true ∧ slotHasMember (s.slotFunc (toIdx 256 (fld w 0 8))) (fld w 0 8) (fld w 8
        8) = true ∧ (slotUsed (fld w 0 8) = false ∨ fld w 0 8 = 171))
    ∧ (∃ (s : State) (k : Fin 256) (m : Byte) (due : Nat), s.flt.pulses = [(k, m, due)] ∧ due ≤ s.clock ∧ m.toNat < 32 ∧ (s.slot k).inj = 1#32 <<<
        m.toNat ∧ (∀ v : WheelId, (s.wheel v).namesFault k = false))
    ∧ (∃ (s : State) (k : Fin 256) (m : Byte) (due : Nat), s.flt.pulses = [(k, m, due)] ∧ s.clock < due)
    ∧ (∃ (e : Env) (w : Word) (s : State), s.hostReady e opWrite = true ∧ s.recd.journal.length < 2047 ∧ bit w 0 = true ∧ (bit w 1 = s.flt.dryrun
        ∨ s.injLive = false))
    ∧ (∃ (e : Env) (w : Word) (s : State), s.hostReady e opWrite = true ∧ s.recd.journal.length < 2047 ∧ bit w 0 = false ∧ bit w 1 = s.flt.dryrun)
    ∧ (∃ (e : Env) (w : Word) (s : State), s.hostReady e opWrite = true ∧ s.injLive = true ∧ bit w 1 ≠ s.flt.dryrun)
    ∧ (∃ (e : Env) (w : Word) (s : State) (k : Fin 256), s.hostReady e opWrite = true ∧ s.recd.journal.length < 2047 ∧ s.img.actPending = false ∧
        lowest (reactBad k.1 w) = none)
    ∧ (∃ (e : Env) (w : Word) (s : State) (k : Fin 256), s.hostReady e opWrite = true ∧ s.recd.journal.length < 2047 ∧ s.img.actPending = false ∧
        lowest (reactBad k.1 w) = none)
    ∧ (∃ (e : Env) (w : Word) (s : State) (k : Fin 256), s.hostReady e opWrite = true ∧ (199 ≤ k.1 ∨ fld w 0 2 = 3 ∨ fld w 0 2 < (slotRow
        k.1).minCls))
    ∧ (∃ (e : Env) (w : Word) (s : State) (k : Fin 256), s.hostReady e opWrite = true ∧ (199 ≤ k.1 ∨ fld w 0 2 = 3 ∨ fld w 0 2 < (slotRow
        k.1).minCls))
    ∧ (∃ (e : Env) (w : Word) (s : State) (k : Fin 256), s.hostReady e opWrite = true ∧ lowest (reactBad k.1 w) = none ∧ s.img.actPending = true)
    ∧ (∃ (e : Env) (w : Word) (s : State) (n : Fin 16), s.hostReady e opWrite = true ∧ s.recd.journal.length < 2047 ∧ s.img.actPending = false ∧
        safeAllowed (s.chan n).cfg.func (fld w 0 3) = true ∧ (s.ring (ringOf n)).link = true)
    ∧ (∃ (e : Env) (w : Word) (s : State) (n : Fin 16), s.hostReady e opWrite = true ∧ safeAllowed (s.chan n).cfg.func (fld w 0 3) = false) :=
  ⟨⟨wE 1, 0x000000B7#32, { wUp with flt.injEn := true, flt.injDur := 1000#20 }, 183, 0, by decide +kernel⟩,
   ⟨wE 1, 0x00000502#32, { wUp with flt.injEn := true, flt.dryrun := true }, 2, 5, by decide +kernel⟩,
   ⟨wE 1, 0x000000B7#32, ({ wUp with flt.injEn := true, flt.pulses := [(183, 0#8, 6000000)] } : State).modSlot 183 (fun f =>
    { f with inj := 1#32, liveAt := [⟨0#8, true, 5000000, 0#2, 0#3, false⟩] }), 183, 0, by decide +kernel⟩,
   ⟨wE 1, 0x000000B7#32, { wUp with flt.injEn := true, flt.injDur := 1000#20 }, 183, 0, by decide +kernel⟩,
   ⟨wE 1, 0x000000B7#32, wUp, by decide +kernel⟩,
   ⟨wE 1, 0x000000AB#32, wUp, by decide +kernel⟩,
   ⟨wE 1, 0x000000C7#32, wUp, by decide +kernel⟩,
   ⟨({ wUp with flt.injEn := true, flt.pulses := [(183, 0#8, 5000000)] } : State).modSlot 183 (fun f =>
    { f with inj := 1#32, liveAt := [⟨0#8, true, 4000000, 0#2, 0#3, false⟩] }), 183, 0#8, 5000000, by decide +kernel⟩,
   ⟨{ wUp with flt.pulses := [(183, 0#8, 5000001)] }, 183, 0#8, 5000001, by decide +kernel⟩,
   ⟨wE 1, 3#32, wUp, by decide +kernel⟩,
   ⟨wE 1, 0#32, ({ wUp with flt.injEn := true, flt.injDur := 1000#20 } : State).modSlot 183 (fun f =>
    { f with inj := 1#32, liveAt := [⟨0#8, true, 4000000, 0#2, 0#3, false⟩] }), by decide +kernel⟩,
   ⟨wE 1, 2#32, ({ wUp with flt.injEn := true, flt.injDur := 1000#20 } : State).modSlot 183 (fun f =>
    { f with inj := 1#32, liveAt := [⟨0#8, true, 4000000, 0#2, 0#3, false⟩] }), by decide +kernel⟩,
   ⟨wE 1, 0x31#32, wUp, 183, by decide +kernel⟩,
   ⟨wE 1, 0x11#32, wAct, 3, by decide +kernel⟩,
   ⟨wE 1, 0x31#32, wUp, 199, by decide +kernel⟩,
   ⟨wE 1, 0x33#32, wUp, 198, by decide +kernel⟩,
   ⟨wE 1, 0x31#32, { wUp with img.actPending := true }, 183, by decide +kernel⟩,
   ⟨wE 1, 0#32, wUp, 15, by decide +kernel⟩,
   ⟨wE 1, 7#32, wUp, 15, by decide +kernel⟩⟩

theorem witness_RecordsAreKeptCommittedAndCleared :
    (∃ (s : State) (code : BitVec 16) (o : Origin) (p1 p2 : Word) (x : Staged), s.recd.staged.getLast? = some x ∧ x.same (s.occurrence code o 0
        p1 p2) = true ∧ x.rep ≠ 0xFFFF#16)
    ∧ (∃ (s : State) (code : BitVec 16) (o : Origin) (p1 p2 : Word) (x : Staged), s.recd.staged.getLast? = some x ∧ (x.same (s.occurrence code o 0
        p1 p2) = false ∨ x.rep = 0xFFFF#16) ∧ s.recd.staged.length < 16)
    ∧ (∃ (s : State) (code : BitVec 16) (o : Origin) (p1 p2 : Word) (x : Staged), s.recd.staged.getLast? = some x ∧ (x.same (s.occurrence code o 0
        p1 p2) = false ∨ x.rep = 0xFFFF#16) ∧ s.recd.staged.length < 16)
    ∧ (∃ (s : State) (code : BitVec 16) (o : Origin) (p1 p2 : Word) (x : Staged), s.recd.staged.getLast? = some x ∧ (x.same (s.occurrence code o 0
        p1 p2) = false ∨ x.rep = 0xFFFF#16) ∧ s.recd.staged.length = 16)
    ∧ (∃ (s : State) (code : BitVec 16) (o : Origin) (p1 p2 : Word) (x : Record), s.recd.staged = [] ∧ s.recd.events.getLast? = some x ∧ x.same
        (s.occurrence code o 0 p1 p2) = true ∧ x.rep.toNat < 0xFFFF ∧ s.recd.tailDirty = false)
    ∧ (∃ (s : State) (code : BitVec 16) (o : Origin) (p1 p2 : Word), s.recd.staged = [] ∧ (∀ x, s.recd.events.getLast? = some x → x.same
        (s.occurrence code o 0 p1 p2) = false ∨ x.rep = 0xFFFF#16) ∧ s.recd.events.length < 6144)
    ∧ (∃ (s : State) (code : BitVec 16) (o : Origin) (p1 p2 : Word), s.recd.staged = [] ∧ (∀ x, s.recd.events.getLast? = some x → x.same
        (s.occurrence code o 0 p1 p2) = false ∨ x.rep = 0xFFFF#16) ∧ s.recd.events.length < 6144)
    ∧ (∃ (s : State) (code : BitVec 16) (o : Origin) (p1 p2 : Word) (x : Record), s.recd.staged = [] ∧ s.recd.events.getLast? = some x ∧ (x.same
        (s.occurrence code o 0 p1 p2) = false ∨ x.rep = 0xFFFF#16) ∧ 6144 ≤ s.recd.events.length)
    ∧ (∃ (s : State) (x : Staged) (rest : List Staged), s.recd.pfCommit ≠ some 0 ∧ s.recd.staged = x :: rest ∧ s.recd.events.length < 6142 ∧
        s.recd.overflow = 0 ∧ x.mark = none ∧ s.recd.tailDirty = false)
    ∧ (∃ (s : State) (x : Staged) (rest : List Staged), s.recd.pfCommit ≠ some 0 ∧ s.recd.staged = x :: rest ∧ s.recd.events.length < 6142 ∧
        s.recd.overflow = 0 ∧ s.recd.tailDirty = true)
    ∧ (∃ (s : State) (x : Staged) (rest : List Staged), s.recd.pfCommit ≠ some 0 ∧ s.recd.staged = x :: rest ∧ s.recd.events.length = 6142 ∧
        s.recd.overflow = 0)
    ∧ (∃ (s : State) (x : Staged) (rest : List Staged), s.recd.pfCommit ≠ some 0 ∧ s.recd.staged = x :: rest ∧ s.recd.events.length < 6142 ∧
        s.recd.overflow ≠ 0 ∧ rest.length < 16)
    ∧ (∃ (s : State), (s.recd.staged = [] ∨ s.recd.pfCommit = some 0))
    ∧ (∃ (s : State), s.recd.tailDirty = true ∧ s.recd.tailDue ≤ s.clock)
    ∧ (∃ (s : State), (s.recd.tailDirty = false ∨ s.clock < s.recd.tailDue))
    ∧ (∃ (s : State), s.phase = .run ∧ s.pwr.mode ≠ .cellar ∧ s.recd.commitAt + 60000000 ≤ s.clock)
    ∧ (∃ (s : State), (s.pwr.mode = .cellar ∨ s.clock < s.recd.commitAt + 60000000))
    ∧ (∃ (s : State) (e : Env) (w : Word), s.hostReady e opWrite = true ∧ s.recd.events ≠ [] ∧ w = lastSeq s.recd.events ∧ s.recd.journal.length <
        2047)
    ∧ (∃ (s : State) (e : Env) (w : Word), s.hostReady e opWrite = true ∧ s.recd.events ≠ [] ∧ w = lastSeq s.recd.events ∧ 2048 ≤
        s.recd.journal.length)
    ∧ (∃ (s : State) (e : Env) (w : Word), s.hostReady e opWrite = true ∧ s.recd.events ≠ [] ∧ w ≠ lastSeq s.recd.events)
    ∧ (∃ (s : State) (e : Env), s.hostReady e opWrite = true ∧ s.recd.events = [])
    ∧ (∃ (s : State) (e : Env) (w : Word), s.hostReady e opWrite = true ∧ s.recd.journal ≠ [] ∧ w = lastSeq s.recd.journal)
    ∧ (∃ (s : State) (e : Env) (w : Word), s.hostReady e opWrite = true ∧ s.recd.journal ≠ [] ∧ w ≠ lastSeq s.recd.journal)
    ∧ (∃ (s : State) (e : Env), s.hostReady e opWrite = true ∧ s.recd.journal = [])
    ∧ (∃ (s : State) (e : Env) (w : Word) (x : Record), s.hostReady e opWrite = true ∧ s.recd.events[fld w 0 13]? = some x)
    ∧ (∃ (s : State) (e : Env) (w : Word) (x : Record), s.hostReady e opWrite = true ∧ s.recd.journal[fld w 0 13]? = some x)
    ∧ (∃ (s : State) (e : Env) (w : Word), s.hostReady e opWrite = true ∧ s.recd.events.length ≤ fld w 0 13)
    ∧ (∃ (s : State) (e : Env) (w : Word), s.hostReady e opWrite = true ∧ s.recd.journal.length ≤ fld w 0 13) :=
  ⟨⟨{ wRun with recd.staged := [wStaged] }, 0x3005#16, .internal, 1#32, 2#32, wStaged, by decide +kernel⟩,
   ⟨{ wRun with recd.staged := [wStaged] }, 0x3006#16, .internal, 1#32, 2#32, wStaged, by decide +kernel⟩,
   ⟨{ wRun with recd.staged := [{ wStaged with rep := 0xFFFF#16 }] }, 0x3005#16, .internal, 1#32, 2#32, { wStaged with rep := 0xFFFF#16 },
    by decide +kernel⟩,
   ⟨{ wRun with recd.staged := List.replicate 16 wStaged }, 0x3006#16, .internal, 1#32, 2#32, wStaged, by decide +kernel⟩,
   ⟨{ wRun with recd.events := [wRecord] }, 0x3005#16, .internal, 1#32, 2#32, wRecord, by decide +kernel⟩,
   ⟨{ wRun with recd.events := [wRecord] }, 0x3006#16, .internal, 1#32, 2#32, by decide +kernel⟩,
   ⟨{ wRun with recd.events := [{ wRecord with rep := 0xFFFF#16 }] }, 0x3005#16, .internal, 1#32, 2#32, by decide +kernel⟩,
   ⟨{ wRun with recd.events := List.replicate 6144 wRecord }, 0x3006#16, .internal, 1#32, 2#32, wRecord, by decide +kernel⟩,
   ⟨{ wRun with recd.staged := [wStaged] }, wStaged, [], by decide +kernel⟩,
   ⟨{ wRun with recd.staged := [wStaged], recd.tailDirty := true, recd.events := [wRecord] }, wStaged, [], by decide +kernel⟩,
   ⟨{ wRun with recd.staged := [wStaged], recd.events := List.replicate 6142 wRecord }, wStaged, [], by decide +kernel⟩,
   ⟨{ wRun with recd.staged := [wStaged], recd.overflow := 3 }, wStaged, [], by decide +kernel⟩,
   ⟨wRun, by decide +kernel⟩,
   ⟨{ wRun with recd.tailDirty := true, recd.events := [{ wRecord with rep := 4#16, span := 7#16 }] }, by decide +kernel⟩,
   ⟨wRun, by decide +kernel⟩,
   ⟨{ wRun with clock := 60000000, pair.role := .standby }, by decide +kernel⟩,
   ⟨wRun, by decide +kernel⟩,
   ⟨{ wRun with recd.events := [wRecord, { wRecord with seq := 10#32 }] }, wE 1, 10#32, by decide +kernel⟩,
   ⟨{ wRun with recd.events := [wRecord], recd.journal := List.replicate 2048 wRecord }, wE 1, 9#32, by decide +kernel⟩,
   ⟨{ wRun with recd.events := [wRecord] }, wE 1, 10#32, by decide +kernel⟩,
   ⟨wRun, wE 1, by decide +kernel⟩,
   ⟨{ wRun with recd.journal := [wRecord, { wRecord with seq := 10#32 }] }, wE 1, 10#32, by decide +kernel⟩,
   ⟨{ wRun with recd.journal := [wRecord] }, wE 1, 10#32, by decide +kernel⟩,
   ⟨wRun, wE 1, by decide +kernel⟩,
   ⟨{ wRun with recd.events := [wRecord] }, wE 1, 0#32, wRecord, by decide +kernel⟩,
   ⟨{ wRun with recd.journal := [wRecord] }, wE 1, 0#32, wRecord, by decide +kernel⟩,
   ⟨{ wRun with recd.events := [wRecord] }, wE 1, 1#32, by decide +kernel⟩,
   ⟨{ wRun with recd.journal := [wRecord] }, wE 1, 1#32, by decide +kernel⟩⟩

set_option maxRecDepth 20000 in
theorem witness_CapturesAreTakenErasedAndRerun :
    (∃ (e : Env) (s : State) (c : Capture), s.hostReady e opWrite = true ∧ s.rpl.capture = some c)
    ∧ (∃ (e : Env) (s : State), s.hostReady e opWrite = true ∧ s.rpl.capture = none ∧ (s.rpl.on = true ∨ s.rpl.want = some true))
    ∧ (∃ (e : Env) (s : State), s.hostReady e opWrite = true ∧ s.rpl.capture = none ∧ s.rpl.on = false ∧ s.rpl.want ≠ some true ∧ bit s.rpl.cfg 0
        = true ∧ s.rpl.ring = [] ∧ s.rpl.used + 64 ≤ 262144)
    ∧ (∃ (e : Env) (s : State), s.hostReady e opWrite = true ∧ s.rpl.capture = none ∧ s.rpl.on = false ∧ s.rpl.want ≠ some true ∧ bit s.rpl.cfg 0
        = false)
    ∧ (∃ (e : Env) (s : State), s.hostReady e opWrite = true ∧ s.rpl.capture = none ∧ s.rpl.rerun = none ∧ s.recd.journal.length < 2047)
    ∧ (∃ (e : Env) (s : State), s.hostReady e opWrite = true ∧ s.rpl.capture = none ∧ s.rpl.rerun = none ∧ s.recd.journal.length < 2047 ∧ (∀ l :
        Fin 216, 128 ≤ l.1 → l.1 < 192 → s.bg.wear.mapped[l.1] + 1 < 100000))
    ∧ (∃ (e : Env) (s : State), s.hostReady e opWrite = true ∧ (s.rpl.capture.isSome = true ∨ s.rpl.rerun.isSome = true))
    ∧ (∃ (e : Env) (s : State), s.hostReady e opWrite = true ∧ (s.rpl.capture.isSome = true ∨ s.rpl.rerun.isSome = true))
    ∧ (∃ (s : State), s.rpl.erasing = true)
    ∧ (∃ (s : State), s.rpl.erasing = false)
    ∧ (∃ (e : Env) (w : Word) (s : State), s.hostReady e opWrite = true ∧ (bit w 0 = false ∨ s.replayBlocked = false) ∧ s.recd.journal.length <
        2047)
    ∧ (∃ (e : Env) (w : Word) (s : State), s.hostReady e opWrite = true ∧ (bit w 0 = false ∨ s.replayBlocked = false) ∧ s.recd.journal.length <
        2047)
    ∧ (∃ (e : Env) (w : Word) (s : State), s.hostReady e opWrite = true ∧ bit w 0 = true ∧ (s.rpl.capture.isSome = true ∨ s.rpl.erasing = true ∨
        s.img.actPending = true ∨ s.img.noImage = true ∨ (s.img.paired = true ∧ s.pair.mayDrive = true)))
    ∧ (∃ (e : Env) (s : State), s.hostReady e opWrite = true ∧ (s.rpl.on = false ∨ s.rpl.erasing = true ∨ s.rpl.loading = true ∨
        s.rpl.rerun.isSome = true))
    ∧ (∃ (e : Env) (w : Word) (s : State), s.hostReady e opWrite = true ∧ s.rpl.on = true ∧ s.rpl.erasing = false ∧ s.rpl.loading = false ∧
        s.rpl.rerun = none ∧ s.closedCapture (fld w 8 8) = none)
    ∧ (∃ (e : Env) (w : Word) (s : State) (c : Nat × List Byte), s.hostReady e opWrite = true ∧ s.rpl.on = true ∧ s.rpl.erasing = false ∧
        s.rpl.loading = false ∧ s.rpl.rerun = none ∧ s.closedCapture (fld w 8 8) = some c ∧ some (word (u32 c.2 4)) ≠ s.img.running.map
        (·.crc))
    ∧ (∃ (e : Env) (w : Word) (s : State) (c : Nat × List Byte), s.hostReady e opWrite = true ∧ s.rpl.on = true ∧ s.rpl.erasing = false ∧
        s.rpl.loading = false ∧ s.rpl.rerun = none ∧ s.closedCapture (fld w 8 8) = some c ∧ some (word (u32 c.2 4)) = s.img.running.map
        (·.crc))
    ∧ (∃ (s : State) (no : Nat) (c : Nat × List Byte), s.closedCapture no = some c)
    ∧ (∃ (s : State), (∀ r, s.rpl.rerun = some r → s.clock < r.due))
    ∧ (∃ (s : State) (r : Rerun), s.rpl.rerun = some r ∧ r.due ≤ s.clock ∧ frameAt s.cells r.at_ r.left = none)
    ∧ (∃ (s : State) (r : Rerun) (b : List Byte), s.rpl.rerun = some r ∧ r.due ≤ s.clock ∧ frameAt s.cells r.at_ r.left = some b ∧ r.prev = none ∧
        u8 b 10 / 2 % 2 = 1 ∧ r.fab.outs = frameOuts b ∧ b.length < r.left ∧ (∀ v : WheelId, (s.wheel v).takesReplay = false))
    ∧ (∃ (s : State) (r : Rerun) (b : List Byte), s.rpl.rerun = some r ∧ r.due ≤ s.clock ∧ frameAt s.cells r.at_ r.left = some b ∧ r.prev = none ∧
        u8 b 10 / 2 % 2 = 1 ∧ r.fab.outs = frameOuts b ∧ b.length = r.left ∧ s.rpl.divCount = 0#16 ∧ (∀ v : WheelId, (s.wheel v).takesReplay
        = false))
    ∧ (∃ (s : State) (r : Rerun) (b : List Byte), s.rpl.rerun = some r ∧ r.due ≤ s.clock ∧ frameAt s.cells r.at_ r.left = some b ∧ r.prev = none ∧
        u8 b 10 / 2 % 2 = 1 ∧ r.fab.outs ≠ frameOuts b ∧ s.rpl.divCount = 0#16 ∧ r.stopAtDiv = true ∧ r.firstStep < 2 ^ 32 ∧ u32 b 0 =
        r.firstStep ∧ (∀ v : WheelId, (s.wheel v).takesReplay = false))
    ∧ (∃ (e : Env) (s : State) (r : Rerun), s.hostReady e opWrite = true ∧ s.rpl.rerun = some r)
    ∧ (∃ (e : Env) (s : State), s.hostReady e opWrite = true ∧ s.rpl.rerun = none)
    ∧ (∃ (e : Env) (s : State), s.hostReady e opWrite = true ∧ s.rpl.loading = false)
    ∧ (∃ (e : Env) (s : State), s.hostReady e opWrite = true ∧ s.rpl.loading = true ∧ sealEnd s.cells 4096 0 = none)
    ∧ (∃ (e : Env) (s : State), s.hostReady e opWrite = true ∧ s.rpl.loading = true ∧ (sealEnd s.cells 4096 0).isSome = true)
    ∧ (∃ (e : Env) (s : State), s.hostReady e opWrite = true ∧ s.rpl.loading = true ∧ s.rpl.erasing = false)
    ∧ (∃ (e : Env) (s : State), s.hostReady e opWrite = true ∧ s.rpl.stateCode ≠ 6)
    ∧ (∃ (e : Env) (s : State), s.hostReady e opRead = true ∧ Memory.wf s.cells = true) :=
  ⟨⟨wE 1, { wRun with rpl.capture := some wCapture }, wCapture, by decide +kernel⟩,
   ⟨wE 1, { wRun with rpl.on := true }, by decide +kernel⟩,
   ⟨wE 1, { wRun with rpl.cfg := 1#32 }, by decide +kernel⟩,
   ⟨wE 1, wRun, by decide +kernel⟩,
   ⟨wE 1, { wRpl with rpl.on := false, bg.wear.mapped := wRpl.bg.wear.mapped.set 191 99999, bg.wear.pool := [3] }, by decide +kernel⟩,
   ⟨wE 1, { wRpl with rpl.on := false, bg.wear.mapped := (wRpl.bg.wear.mapped.set 192 99999).set 191 99998 }, by decide +kernel⟩,
   ⟨wE 1, { wRun with rpl.capture := some wCapture }, by decide +kernel⟩,
   ⟨wE 1, { wRpl with rpl.rerun := some (wRerun 92) }, by decide +kernel⟩,
   ⟨{ wRun with rpl.erasing := true, rpl.on := true }, by decide +kernel⟩,
   ⟨wRun, by decide +kernel⟩,
   ⟨wE 1, 1#32, { wRun with img.noImage := false }, by decide +kernel⟩,
   ⟨wE 1, 0#32, wRpl, by decide +kernel⟩,
   ⟨wE 1, 1#32, { wRun with rpl.erasing := true }, by decide +kernel⟩,
   ⟨wE 1, wRun, by decide +kernel⟩,
   ⟨wE 1, 0x0200#32, wRpl, by decide +kernel⟩,
   ⟨wE 1, 0x0100#32, wRpl, (0, wCapture.header true), by decide +kernel⟩,
   ⟨wE 1, 0x10100#32, { wRpl with img.running := some wImage }, (0, wCapture.header true), by decide +kernel⟩,
   ⟨wRpl, 1, (0, wCapture.header true), by decide +kernel⟩,
   ⟨wRun, by decide +kernel⟩,
   ⟨{ wRun with rpl.on := true, rpl.rerun := some (wRerun 92) }, wRerun 92, by decide +kernel⟩,
   ⟨{ wRpl with rpl.rerun := some (wRerun 93) }, wRerun 93, wFrame 0, by decide +kernel⟩,
   ⟨{ wRpl with rpl.rerun := some (wRerun 92) }, wRerun 92, wFrame 0, by decide +kernel⟩,
   ⟨{ wRpl with rpl.rerun := some { wRerun 92 with fab := { FabState.reset with outChan := 1#48 } } },
    { wRerun 92 with fab := { FabState.reset with outChan := 1#48 } }, wFrame 0, by decide +kernel⟩,
   ⟨wE 1, { wRpl with rpl.rerun := some (wRerun 92) }, wRerun 92, by decide +kernel⟩,
   ⟨wE 1, wRpl, by decide +kernel⟩,
   ⟨wE 1, wRpl, by decide +kernel⟩,
   ⟨wE 1, { wRun with rpl.on := true, rpl.loading := true, cells := Memory.writeAll [] 0x80000 [1#8] }, by decide +kernel⟩,
   ⟨wE 1, { wRpl with rpl.loading := true }, by decide +kernel⟩,
   ⟨wE 1, { wRun with rpl.on := true, rpl.loading := true }, by decide +kernel⟩,
   ⟨wE 1, wRpl, by decide +kernel⟩,
   ⟨wE 0, wRpl, by decide +kernel⟩⟩

theorem witness_CheckUnitsComputeAndScan :
    (∃ (e : Env) (u : Fin 4) (s : State), s.hostReady e opWrite = true ∧ s.chkHeld u = none ∧ s.chkBorrowed u = none ∧ (s.chks[u.1]).st = .idle)
    ∧ (∃ (e : Env) (u : Fin 4) (s : State), s.hostReady e opWrite = true ∧ s.chkHeld u = none ∧ s.chkBorrowed u = none ∧ (s.chks[u.1]).st = .idle)
    ∧ (∃ (e : Env) (u : Fin 4) (s : State), s.hostReady e opWrite = true ∧ s.chkHeld u = none ∧ s.chkBorrowed u = none ∧ (s.chks[u.1]).st ≠ .idle)
    ∧ (∃ (e : Env) (u : Fin 4) (s : State), s.hostReady e opWrite = true ∧ s.chkHeld u = none ∧ s.chkBorrowed u = none ∧ (s.chks[u.1]).st = .idle)
    ∧ (∃ (e : Env) (u : Fin 4) (s : State), s.hostReady e opWrite = true ∧ u = 3 ∧ s.img.borrowed = true)
    ∧ (∃ (e : Env) (u : Fin 4) (s : State) (h : Word), s.hostReady e opWrite = true ∧ s.chkHeld u = some h)
    ∧ (∃ (e : Env) (u : Fin 4) (s : State), s.hostReady e opWrite = true ∧ ((s.chks[u.1]).len = 0#21 ∨ 1048576 < (s.chks[u.1]).len.toNat ∨
        spaceSize (s.chks[u.1]).space.toNat < (s.chks[u.1]).addr.toNat + (s.chks[u.1]).len.toNat))
    ∧ (∃ (e : Env) (u : Fin 4) (s : State), s.hostReady e opWrite = true ∧ ((s.chks[u.1]).len = 0#21 ∨ 1048576 < (s.chks[u.1]).len.toNat ∨
        spaceSize (s.chks[u.1]).space.toNat < (s.chks[u.1]).addr.toNat + (s.chks[u.1]).len.toNat))
    ∧ (∃ (e : Env) (u : Fin 4) (w : Word) (s : State), s.hostReady e opWrite = true ∧ 2 ^ fld (s.chks[u.1]).cfg 0 6 ≤ w.toNat)
    ∧ (∃ (u : Fin 4) (s : State), (s.chks[u.1]).st = .scanning ∧ (if s.loaderScans then u = 3 else s.scanTurn = some u) ∧ (u = 3 → s.img.borrowed
        = false) ∧ (s.chks[u.1]).pos.toNat + 64 < (s.chks[u.1]).len.toNat)
    ∧ (∃ (u : Fin 4) (s : State), (s.chks[u.1]).st = .scanning ∧ (if s.loaderScans then u = 3 else s.scanTurn = some u) ∧ u = 3 ∧ s.img.borrowed =
        true ∧ (s.chks[u.1]).pos.toNat + 64 < (s.chks[u.1]).len.toNat)
    ∧ (∃ (u : Fin 4) (s : State), (s.chks[u.1]).st = .scanning ∧ (if s.loaderScans then u = 3 else s.scanTurn = some u) ∧ (s.chks[u.1]).pos.toNat
        < (s.chks[u.1]).len.toNat ∧ (s.chks[u.1]).len.toNat ≤ (s.chks[u.1]).pos.toNat + 64)
    ∧ (∃ (u : Fin 4) (s : State), (s.chks[u.1]).st = .scanning ∧ (if s.loaderScans then u = 3 else s.scanTurn = some u) ∧ (s.chks[u.1]).pos.toNat
        < (s.chks[u.1]).len.toNat ∧ (s.chks[u.1]).len.toNat ≤ (s.chks[u.1]).pos.toNat + 64)
    ∧ (∃ (u : Fin 4) (s : State), (s.chks[u.1]).st = .scanning ∧ (if s.loaderScans then u = 3 else s.scanTurn = some u) ∧
        (s.chks[u.1]).space.toNat < 5)
    ∧ (∃ (u : Fin 4) (s : State), (s.chks[u.1]).st = .scanning ∧ (if s.loaderScans then u = 3 else s.scanTurn = some u) ∧ (s.chks[u.1]).space =
        5#3)
    ∧ (∃ (u : Fin 4) (s : State), (s.chks[u.1]).st = .scanning ∧ (if s.loaderScans then u = 3 else s.scanTurn = some u) ∧ (s.chks[u.1]).space =
        6#3)
    ∧ (∃ (u : Fin 4) (s : State), ((s.chks[u.1]).st ≠ .scanning ∨ (s.loaderScans = true ∧ u ≠ 3) ∨ (s.loaderScans = false ∧ s.scanTurn ≠ some u))) :=
  ⟨⟨wE 1, 0, { wRun with chks := wRun.chks.set 0 { Chk.reset with len := 64#21, done := true, run := 5#32 } }, by decide +kernel⟩,
   ⟨wE 1, 3, { wRun with chks := wRun.chks.set 3 { Chk.reset with cfg := 0x00020308#32, poly := 7#32, len := 1048576#21, space := 3#3 } },
    by decide +kernel⟩,
   ⟨wE 1, 1, wScan 64#21 0#3, by decide +kernel⟩,
   ⟨wE 1, 1, wRun, by decide +kernel⟩,
   ⟨wE 1, 3, { wRun with img.borrowed := true }, by decide +kernel⟩,
   ⟨wE 1, 1, { wRun with img.claims := [⟨9, 0, 1, 1, 2, 0, false⟩] }, (⟨9, 0, 1, 1, 2, 0, false⟩ : Claim).code, by decide +kernel⟩,
   ⟨wE 1, 1, wRun, by decide +kernel⟩,
   ⟨wE 1, 1, { wRun with chks := wRun.chks.set 1 { Chk.reset with len := 1048577#21 } }, by decide +kernel⟩,
   ⟨wE 1, 1, 256#32, { wRun with chks := wRun.chks.set 1 { Chk.reset with cfg := 8#32 } }, by decide +kernel⟩,
   ⟨1, wScan 65#21 0#3, by decide +kernel⟩,
   ⟨3, { wRun with img.borrowed := true, chks := wRun.chks.set 3 { Chk.reset with st := .scanning, len := 65#21, space := 0#3 } },
    by decide +kernel⟩,
   ⟨1, wScan 64#21 0#3, by decide +kernel⟩,
   ⟨1, wScan 1#21 3#3, by decide +kernel⟩,
   ⟨1, wScan 65#21 4#3, by decide +kernel⟩,
   ⟨1, wScan 65#21 5#3, by decide +kernel⟩,
   ⟨1, wScan 65#21 6#3, by decide +kernel⟩,
   ⟨1, wRun, by decide +kernel⟩⟩

set_option maxRecDepth 20000 in
theorem witness_TrapezeFramesAreSentAndTaken :
    (∃ (s : State), s.tzOn = true ∧ s.pair.beatAt + 100 ≤ s.clock)
    ∧ (∃ (s : State), s.tzOn = true ∧ s.pair.beatAt + 100 ≤ s.clock)
    ∧ (∃ (s : State), s.tzOn = true ∧ s.pair.qualAt + 1000000 ≤ s.clock)
    ∧ (∃ (s : State), s.clock < s.pair.beatAt + 100)
    ∧ (∃ (s : State), s.clock < s.pair.qualAt + 1000000)
    ∧ (∃ (b : List Byte) (s : State), s.tzOn = true ∧ b.length = 16)
    ∧ (∃ (b : List Byte) (s : State), s.tzOn = true ∧ b.length = 16)
    ∧ (∃ (b : List Byte) (s : State), s.tzOn = true ∧ b.length = 16)
    ∧ (∃ (b : List Byte) (s : State), s.tzOn = true ∧ b.length = 32)
    ∧ (∃ (b : List Byte) (s : State), s.tzOn = true ∧ b.length = 32)
    ∧ (∃ (s : State), s.tzOn = true ∧ (s.pair.badTimes.filter (fun t => decide (s.clock < t + 1000000))).length < 64)
    ∧ (∃ (s : State), s.tzOn = true ∧ 64 ≤ (s.pair.badTimes.filter (fun t => decide (s.clock < t + 1000000))).length)
    ∧ (∃ (s : State), s.tzOn = false)
    ∧ (∃ (b : List Byte) (s : State), s.tzOn = true ∧ s.pair.tzUp = true ∧ (b.length = 16 ∨ b.length = 32) ∧ (u8 b 3).testBit 1 = decide (b.length
        = 32) ∧ (word (u32 b 10) ≠ s.identity.1 ∨ s.pair.driving = true))
    ∧ (∃ (b : List Byte) (s : State), s.tzOn = true ∧ s.pair.tzUp = true ∧ (b.length = 16 ∨ b.length = 32) ∧ (u8 b 3).testBit 1 = decide (b.length
        = 32) ∧ word (u32 b 10) = s.identity.1 ∧ s.pair.driving = false ∧ s.pair.mirLast = BitVec.ofNat 16 (u16 b 8) ∧ BitVec.ofNat 16 (u16
        b 8) ≠ 0#16)
    ∧ (∃ (b : List Byte) (s : State), s.tzOn = true ∧ s.pair.tzUp = true ∧ (b.length = 16 ∨ b.length = 32) ∧ (u8 b 3).testBit 1 = decide (b.length
        = 32) ∧ word (u32 b 10) = s.identity.1 ∧ s.pair.driving = false ∧ (s.pair.mirLast ≠ BitVec.ofNat 16 (u16 b 8) ∨ BitVec.ofNat 16 (u16
        b 8) = 0#16) ∧ s.mayTake .trapeze = false)
    ∧ (∃ (b : List Byte) (s : State) (k : Fin 256), s.tzOn = true ∧ s.pair.tzUp = true ∧ b.length = 16 ∧ u8 b 3 = 0 ∧ word (u32 b 10) =
        s.identity.1 ∧ s.pair.driving = false ∧ (s.pair.mirLast ≠ BitVec.ofNat 16 (u16 b 8) ∨ BitVec.ofNat 16 (u16 b 8) = 0#16) ∧ s.mayTake
        .trapeze = true ∧ BitVec.ofNat 24 (leNat (slice b 0 3)) = Reg.addr (.fltReact k) ∧ lowest (reactBad k.1 (word (u32 b 4))) = none ∧
        s.img.actPending = false ∧ s.recd.journal.length < 2047)
    ∧ (∃ (b : List Byte) (s : State) (k : Fin 256), s.tzOn = true ∧ s.pair.tzUp = true ∧ b.length = 16 ∧ u8 b 3 = 0 ∧ word (u32 b 10) =
        s.identity.1 ∧ s.pair.driving = false ∧ (s.pair.mirLast ≠ BitVec.ofNat 16 (u16 b 8) ∨ BitVec.ofNat 16 (u16 b 8) = 0#16) ∧ s.mayTake
        .trapeze = true ∧ BitVec.ofNat 24 (leNat (slice b 0 3)) = Reg.addr (.fltReact k) ∧ lowest (reactBad k.1 (word (u32 b 4))) ≠ none)
    ∧ (∃ (b : List Byte) (s : State) (k : Fin 256), s.tzOn = true ∧ s.pair.tzUp = true ∧ b.length = 16 ∧ u8 b 3 = 0 ∧ word (u32 b 10) =
        s.identity.1 ∧ s.pair.driving = false ∧ (s.pair.mirLast ≠ BitVec.ofNat 16 (u16 b 8) ∨ BitVec.ofNat 16 (u16 b 8) = 0#16) ∧ s.mayTake
        .trapeze = true ∧ BitVec.ofNat 24 (leNat (slice b 0 3)) = Reg.addr (.fltReact k) ∧ lowest (reactBad k.1 (word (u32 b 4))) ≠ none)
    ∧ (∃ (s : State) (f : Flight), s.tzOn = true ∧ s.pair.flight = some f ∧ s.pair.mirrorOpen = true ∧ f.at_ + 200 ≤ s.clock ∧ f.sends < 8)
    ∧ (∃ (s : State) (f : Flight), s.tzOn = true ∧ s.pair.flight = some f ∧ s.pair.mirrorOpen = true ∧ f.at_ + 200 ≤ s.clock ∧ 8 ≤ f.sends ∧
        s.pair.mirQueue = [])
    ∧ (∃ (s : State) (f : Flight) (m : Mirror) (rest : List Mirror), s.tzOn = true ∧ s.pair.flight = some f ∧ s.pair.mirrorOpen = true ∧ f.at_ +
        200 ≤ s.clock ∧ 8 ≤ f.sends ∧ s.pair.mirQueue = m :: rest)
    ∧ (∃ (s : State), (s.pair.flight = none ∨ s.pair.mirrorOpen = false ∨ s.tzOn = false))
    ∧ (∃ (s : State) (f : Flight) (status : Byte), s.tzOn = true ∧ s.pair.tzUp = true ∧ s.pair.flight = some f ∧ s.pair.mirQueue = [] ∧ status ≠
        0xFE#8)
    ∧ (∃ (s : State) (f : Flight), s.tzOn = true ∧ s.pair.tzUp = true ∧ s.pair.flight = some f)
    ∧ (∃ (s : State) (f : Flight) (seq : BitVec 16), s.tzOn = true ∧ s.pair.tzUp = true ∧ s.pair.flight = some f ∧ f.m.seq ≠ seq)
    ∧ (∃ (s : State), s.tzOn = true ∧ s.pair.tzUp = true ∧ s.pair.swap = none)
    ∧ (∃ (b : List Byte) (s : State), s.tzOn = true ∧ s.pair.tzUp = true ∧ 4 ≤ b.length ∧ b.length ≤ 256 ∧ s.pair.driving = true)
    ∧ (∃ (b : List Byte) (s : State), s.tzOn = true ∧ s.pair.tzUp = true ∧ 4 ≤ b.length ∧ b.length ≤ 256 ∧ s.pair.driving = false ∧
        s.pair.discarding = false ∧ (∀ g ∈ s.pair.segs, g.1 = u16 b 0) ∧ u8 b 2 = s.pair.segs.length ∧ u8 b 2 + 1 ≠ u8 b 3)
    ∧ (∃ (b : List Byte) (s : State) (x : Epoch) (full : Bool), s.tzOn = true ∧ s.pair.tzUp = true ∧ 4 ≤ b.length ∧ b.length ≤ 256 ∧ s.pair.role ∈
        [Role.standby, Role.unqualified] ∧ s.pair.discarding = false ∧ (∀ g ∈ s.pair.segs, g.1 = u16 b 0) ∧ u8 b 2 = s.pair.segs.length ∧ u8
        b 2 + 1 = u8 b 3 ∧ s.readEpoch (s.pair.segs.flatMap (·.2.2) ++ b.drop 4) = some (x, full))
    ∧ (∃ (b : List Byte) (s : State), s.tzOn = true ∧ s.pair.tzUp = true ∧ 4 ≤ b.length ∧ b.length ≤ 256 ∧ s.pair.driving = false ∧
        s.pair.discarding = false ∧ (∀ g ∈ s.pair.segs, g.1 = u16 b 0) ∧ u8 b 2 = s.pair.segs.length ∧ u8 b 2 + 1 = u8 b 3 ∧ s.readEpoch
        (s.pair.segs.flatMap (·.2.2) ++ b.drop 4) = none)
    ∧ (∃ (s : State), s.pair.sending.isSome = true ∧ s.pair.segmentsGone s.clock = true)
    ∧ (∃ (s : State), (s.pair.sending = none ∨ s.pair.segmentsGone s.clock = false))
    ∧ (∃ (s : State) (f : TzFrame) (rest : List TzFrame), s.pair.tx = f :: rest ∧ s.pair.txAt < 25 * (s.clock + 1))
    ∧ (∃ (s : State), s.pair.tx.Pairwise (fun g h => g.precedence ≤ h.precedence))
    ∧ (∃ (s : State) (g : Nat), s.roleOn = true ∧ s.pair.leads = false ∧ s.pair.gapFrom = some g ∧ g + 1000 ≤ s.clock)
    ∧ (∃ (s : State), (s.roleOn = false ∨ s.pair.leads = true ∨ s.pair.gapFrom = none)) :=
  ⟨⟨wPair, by decide +kernel⟩,
   ⟨wAct, by decide +kernel⟩,
   ⟨wPair, by decide +kernel⟩,
   ⟨{ wPair with pair.beatAt := 4999901 }, by decide +kernel⟩,
   ⟨{ wPair with pair.qualAt := 4000001 }, by decide +kernel⟩,
   ⟨[4#8, 1#8, 4#8, 2#8, 0#8, 0#8, 0#8, 0#8, 7#8, 0#8, 0#8, 0#8, 0#8, 0#8, 0#8, 0#8], { wPair with clock := 5000250 }, by decide +kernel⟩,
   ⟨[4#8, 0#8, 4#8, 2#8, 0#8, 0#8, 0#8, 0#8, 0#8, 0#8, 3#8, 0#8, 0#8, 0#8, 0#8, 0#8],
    { wPair with pair.tzUp := false, pair.role := .starting, pair.mirPeer := 5#16 }, by decide +kernel⟩,
   ⟨[3#8, 0#8, 4#8, 2#8, 0#8, 0#8, 0#8, 0#8, 0#8, 0#8, 3#8, 0#8, 0#8, 0#8, 0#8, 0#8],
    { wAct with pair.role := .swapping, pair.swap := some ⟨0#32, 0, false, 0⟩ }, by decide +kernel⟩,
   ⟨List.replicate 32 0#8, wPair, by decide +kernel⟩,
   ⟨List.replicate 12 0#8 ++ [1#8, 2#8, 1#8] ++ List.replicate 17 0#8,
    { wPair with pair.tzUp := false, pair.role := .unqualified, pair.uq := 3#10 }, by decide +kernel⟩,
   ⟨wPair, by decide +kernel⟩,
   ⟨{ wPair with pair.badTimes := List.replicate 64 5000000 }, by decide +kernel⟩,
   ⟨wUp, by decide +kernel⟩,
   ⟨wMirrorFrame 0#24 0 0#32 7, wAct, by decide +kernel⟩,
   ⟨(wMirrorFrame (Reg.addr (.fltReact 183)) 0 0x31#32 7), { wPair with pair.mirLast := 7#16 }, by decide +kernel⟩,
   ⟨(wMirrorFrame (Reg.addr (.fltReact 183)) 0 0x31#32 7),
    { wPair with tickets := Vector.replicate 64 { st := .ready .hp0 0 0, resp := none } }, by decide +kernel⟩,
   ⟨(wMirrorFrame (Reg.addr (.fltReact 183)) 0 0x31#32 7), wPair, 183, by decide +kernel⟩,
   ⟨wMirrorFrame (Reg.addr (.fltReact 255)) 0 0x31#32 7, wPair, 255, by decide +kernel⟩,
   ⟨wMirrorFrame (Reg.addr (.fltReact 255)) 0 0x31#32 7, { wPair with pair.role := .starting }, 255, by decide +kernel⟩,
   ⟨{ wAct with pair.flight := some wFlight }, wFlight, by decide +kernel⟩,
   ⟨{ wAct with pair.flight := some { wFlight with sends := 8 } }, { wFlight with sends := 8 }, by decide +kernel⟩,
   ⟨{ wAct with pair.flight := some { wFlight with sends := 8 }, pair.mirQueue := [{ wMirror with seq := 8#16 }] },
    { wFlight with sends := 8 }, { wMirror with seq := 8#16 }, [], by decide +kernel⟩,
   ⟨wAct, by decide +kernel⟩,
   ⟨{ wAct with pair.flight := some wFlight }, wFlight, 0#8, by decide +kernel⟩,
   ⟨{ wAct with pair.flight := some wFlight }, wFlight, by decide +kernel⟩,
   ⟨{ wAct with pair.flight := some wFlight }, wFlight, 6#16, by decide +kernel⟩,
   ⟨wAct, by decide +kernel⟩,
   ⟨wSeg 3 0 2 [], wAct, by decide +kernel⟩,
   ⟨wSeg 3 1 5 (List.replicate 16 1#8), { wPair with pair.segs := [(3, 5, (List.replicate 16 1#8))] }, by decide +kernel⟩,
   ⟨wSeg 3 4 5 (wFullEpoch.drop 1008), { wPair with pair.segs := (List.range 4).map (fun i => (3, 5, slice wFullEpoch (252 * i) 252)) },
    wEpoch, true, by decide +kernel⟩,
   ⟨wSeg 3 0 1 (List.replicate 16 1#8), wPair, by decide +kernel⟩,
   ⟨{ wAct with pair.sending := some wEpoch }, by decide +kernel⟩,
   ⟨wAct, by decide +kernel⟩,
   ⟨{ wAct with pair.tx := [.bytes 1#8 (List.replicate 16 0#8)], pair.txAt := 125000010 }, .bytes 1#8 (List.replicate 16 0#8), [],
    by decide +kernel⟩,
   ⟨{ wAct with pair.tx := [.swap (.go 0#32), .bytes 1#8 [], .bytes 3#8 []] }, by decide +kernel⟩,
   ⟨{ wPair with pair.gapFrom := some 4999000 }, 4999000, by decide +kernel⟩,
   ⟨wAct, by decide +kernel⟩⟩

theorem witness_PlannedSwapsAndRoleCommands :
    (∃ (s : State), s.tzOn = true ∧ s.pair.tzUp = true ∧ s.pair.role = .active ∧ s.img.actPending = false ∧ s.pair.rev ≠ 0 ∧ s.pair.partnerRole
        = 2#4 ∧ s.pair.partnerFlags.getLsbD 1 = false ∧ 20 ≤ s.fab.stepSoon ∧ s.keepsRole)
    ∧ (∃ (s : State), s.tzOn = true ∧ s.pair.tzUp = true ∧ (s.pair.role ≠ .active ∨ s.img.actPending = true ∨ s.pair.rev = 0 ∨ s.pair.partnerRole
        ≠ 2#4 ∨ s.pair.partnerFlags.getLsbD 1 = true ∨ s.fab.stepSoon < 20))
    ∧ (∃ (s : State), s.tzOn = true ∧ s.pair.tzUp = true ∧ (s.pair.role ≠ .active ∨ s.img.actPending = true ∨ s.pair.rev = 0 ∨ s.pair.partnerRole
        ≠ 2#4 ∨ s.pair.partnerFlags.getLsbD 1 = true ∨ s.fab.stepSoon < 20))
    ∧ (∃ (s : State) (x : Epoch), s.tzOn = true ∧ s.pair.tzUp = true ∧ s.pair.role = .standby ∧ s.pair.held = some x ∧ s.pair.sourceOn = false ∧
        s.keepsRole)
    ∧ (∃ (s : State) (x : Epoch), s.tzOn = true ∧ s.pair.tzUp = true ∧ s.pair.role = .standby ∧ s.pair.held = some x ∧ s.pair.sourceOn = false ∧
        s.keepsRole)
    ∧ (∃ (s : State) (n : Word), s.tzOn = true ∧ s.pair.tzUp = true ∧ (s.pair.role ≠ .standby ∨ s.pair.held.map (·.number) ≠ some n))
    ∧ (∃ (s : State) (v : Swap), s.tzOn = true ∧ s.pair.tzUp = true ∧ s.pair.role = .swapping ∧ s.pair.swap = some v ∧ v.go = true)
    ∧ (∃ (s : State) (v : Swap), s.tzOn = true ∧ s.pair.tzUp = true ∧ s.pair.role ≠ .swapping ∧ s.pair.swap = some v ∧ v.go = true)
    ∧ (∃ (s : State), s.tzOn = true ∧ s.pair.tzUp = true ∧ (∀ v, s.pair.swap = some v → v.go = false))
    ∧ (∃ (s : State), s.tzOn = true ∧ s.pair.tzUp = true ∧ (∀ v, s.pair.swap = some v → v.go = false))
    ∧ (∃ (s : State) (v : Swap), s.roleOn = true ∧ s.pair.role = .swapping ∧ s.pair.swap = some v ∧ v.go = true ∧ v.goAt + 1000 ≤ s.clock ∧
        s.pair.sourceOn = false ∧ s.keepsRole)
    ∧ (∃ (s : State), (s.roleOn = false ∨ s.pair.swap = none ∨ s.pair.role ≠ .swapping ∨ ∀ v, s.pair.swap = some v → v.go = false ∨ s.clock <
        v.goAt + 1000))
    ∧ (∃ (s : State) (v : Swap), s.tzOn = true ∧ s.pair.tzUp = true ∧ s.pair.role = .swapping ∧ s.pair.swap = some v ∧ v.go = false ∧ 0 <
        v.attempts ∧ s.keepsRole)
    ∧ (∃ (e : Env) (s : State), s.hostReady e opWrite = true ∧ s.pairOn = true ∧ s.pair.role = .active ∧ s.img.actPending = false ∧ s.pair.tzUp =
        true ∧ s.pair.rev ≠ 0 ∧ s.pair.partnerRole = 2#4 ∧ s.pair.partnerFlags.getLsbD 1 = false ∧ 20 ≤ s.fab.stepSoon ∧
        s.recd.journal.length < 2047 ∧ s.keepsRole)
    ∧ (∃ (e : Env) (s : State), s.hostReady e opWrite = true ∧ s.pairOn = true ∧ s.pair.role = .standby ∧ s.pair.partnerRole ≠ 7#4 ∧ s.pair.uq =
        0#10 ∧ s.pair.swapReqOk = true ∧ s.img.actPending = false ∧ s.pair.tzUp = true ∧ s.pair.rev ≠ 0 ∧ 20 ≤ s.fab.stepSoon ∧
        s.recd.journal.length < 2047)
    ∧ (∃ (e : Env) (s : State), s.hostReady e opWrite = true ∧ (s.pair.role = .swapping ∨ s.pair.partnerRole = 7#4 ∨ s.img.actPending = true))
    ∧ (∃ (e : Env) (s : State), s.hostReady e opWrite = true ∧ s.pair.role ≠ .swapping ∧ s.pair.partnerRole ≠ 7#4 ∧ s.img.actPending = false ∧
        s.pair.role ≠ .active ∧ (s.pair.role ≠ .standby ∨ s.pair.swapReqOk = false))
    ∧ (∃ (e : Env) (s : State), s.hostReady e opWrite = true ∧ s.pair.partnerRole ≠ 7#4 ∧ s.img.actPending = false ∧ (s.pair.role = .active ∨
        (s.pair.role = .standby ∧ s.pair.swapReqOk = true)) ∧ (s.pair.tzUp = false ∨ s.pair.rev = 0))
    ∧ (∃ (e : Env) (s : State), s.hostReady e opWrite = true ∧ s.img.actPending = false ∧ s.pair.role = .active ∧ s.pair.tzUp = true ∧ s.pair.rev
        ≠ 0 ∧ s.pair.partnerRole ≠ 7#4 ∧ (s.pair.partnerRole ≠ 2#4 ∨ s.pair.partnerFlags.getLsbD 1 = true))
    ∧ (∃ (e : Env) (s : State), s.hostReady e opWrite = true ∧ s.img.actPending = false ∧ s.pair.role = .active ∧ s.pair.tzUp = true ∧ s.pair.rev
        ≠ 0 ∧ s.pair.partnerRole = 2#4 ∧ s.pair.partnerFlags.getLsbD 1 = false ∧ s.fab.stepSoon < 20)
    ∧ (∃ (e : Env) (s : State), s.hostReady e opWrite = true ∧ s.img.paired = true ∧ s.pair.holdsRole = true ∧ s.recd.journal.length < 2047)
    ∧ (∃ (e : Env) (s : State), s.hostReady e opWrite = true ∧ s.img.paired = true ∧ s.pair.holdsRole = true ∧ s.recd.journal.length < 2047)
    ∧ (∃ (e : Env) (s : State), s.hostReady e opWrite = true ∧ s.pair.holdsRole = false ∧ s.recd.journal.length < 2047)
    ∧ (∃ (e : Env) (s : State), s.hostReady e opWrite = true ∧ s.pair.holdsRole = false ∧ s.pair.uq.getLsbD 7 = false ∧ s.recd.journal.length <
        2047)
    ∧ (∃ (e : Env) (s : State), s.hostReady e opWrite = true ∧ s.pair.uq.getLsbD 7 = true)
    ∧ (∃ (s : State) (x : RingId) (v : RoleWork) (k : Nat) (q : List (RingCmd × Nat)), (s.ring x).downOpen = true ∧ (s.ring x).cmdq = (.role v
        false 0#16, k) :: q ∧ (s.ring x).rrole.standby = false ∧ v.standby = true)
    ∧ (∃ (s : State) (x : RingId) (v : RoleWork) (k : Nat) (q : List (RingCmd × Nat)), (s.ring x).downOpen = true ∧ (s.ring x).cmdq = (.role v
        false 0#16, k) :: q ∧ (s.ring x).rrole.standby = false ∧ v.standby = true)
    ∧ (∃ (s : State) (on : Bool) (k : Nat) (q : List (RingCmd × Nat)), (s.ring .a).downOpen = true ∧ (s.ring .a).cmdq = (.source on, k) :: q)
    ∧ (∃ (s : State) (on : Bool) (k : Nat) (q : List (RingCmd × Nat)), (s.ring .a).downOpen = true ∧ (s.ring .a).cmdq = (.source on, k) :: q)
    ∧ (∃ (s : State) (on : Bool) (k : Nat) (q : List (RingCmd × Nat)), (s.ring .a).downOpen = true ∧ (s.ring .a).cmdq = (.source on, k) :: q)
    ∧ (∃ (s : State), s.pairOn = true ∧ s.swapDueOwn = true ∧ s.pair.role ≠ .swapping)
    ∧ (∃ (s : State), s.pairOn = true ∧ s.swapDueOwn = true ∧ s.pair.role ≠ .swapping)
    ∧ (∃ (s : State), s.swapDueOwn = false) :=
  ⟨⟨wAct, by decide +kernel⟩,
   ⟨wPair, by decide +kernel⟩,
   ⟨{ wAct with pair.partnerFlags := 2#8 }, by decide +kernel⟩,
   ⟨{ wPair with pair.held := some wEpoch }, wEpoch, by decide +kernel⟩,
   ⟨{ wPair with pair.held := some wEpoch }, wEpoch, by decide +kernel⟩,
   ⟨{ wPair with pair.held := some wEpoch }, 4#32, by decide +kernel⟩,
   ⟨{ wAct with pair.role := .swapping, pair.sourceOn := false, pair.swap := some ⟨3#32, 1, true, 4999000⟩ }, ⟨3#32, 1, true, 4999000⟩,
    by decide +kernel⟩,
   ⟨{ ({ wAct with pair.role := .swapping, pair.sourceOn := false, pair.swap := some ⟨3#32, 1, true, 4999000⟩ }) with pair.role := .unqualified },
    ⟨3#32, 1, true, 4999000⟩, by decide +kernel⟩,
   ⟨{ wAct with pair.role := .swapping, pair.swap := some ⟨3#32, 1, false, 0⟩ }, by decide +kernel⟩,
   ⟨wAct, by decide +kernel⟩,
   ⟨{ wAct with pair.role := .swapping, pair.sourceOn := false, pair.swap := some ⟨3#32, 1, true, 4999000⟩ }, ⟨3#32, 1, true, 4999000⟩,
    by decide +kernel⟩,
   ⟨{ wAct with pair.role := .swapping, pair.swap := some ⟨3#32, 1, false, 0⟩ }, by decide +kernel⟩,
   ⟨{ wAct with pair.role := .swapping, pair.swap := some ⟨3#32, 1, false, 0⟩ }, ⟨3#32, 1, false, 0⟩, by decide +kernel⟩,
   ⟨wE 1, wAct, by decide +kernel⟩,
   ⟨wE 1, { wPair with pair.cfg := wPair.pair.cfg ||| 8#32, fab.stepN := 20 }, by decide +kernel⟩,
   ⟨wE 1, { wAct with pair.role := .swapping, pair.swap := some ⟨3#32, 1, false, 0⟩ }, by decide +kernel⟩,
   ⟨wE 1, wPair, by decide +kernel⟩,
   ⟨wE 1, { wAct with pair.tzUp := false }, by decide +kernel⟩,
   ⟨wE 1, { wAct with pair.partnerRole := 3#4 }, by decide +kernel⟩,
   ⟨wE 1, { wAct with fab.stepN := 19 }, by decide +kernel⟩,
   ⟨wE 1, wAct, by decide +kernel⟩,
   ⟨wE 1, { wAct with pair.role := .swapping, pair.swap := some ⟨3#32, 1, false, 0⟩ }, by decide +kernel⟩,
   ⟨wE 1, wPair, by decide +kernel⟩,
   ⟨wE 1, { wPair with pair.role := .unqualified, pair.uq := 32#10 }, by decide +kernel⟩,
   ⟨wE 1, { wPair with pair.role := .unqualified, pair.uq := 0xA0#10 }, by decide +kernel⟩,
   ⟨(wCh 3 14 (fun c => { c with plg := { c.plg with state := 2#3 } })).modRing .a (fun r =>
    { r with cmdq := [(.role ⟨true, false, false, false⟩ false 0#16, 0)], rrole := ⟨false, true, true, false⟩ }), .a, ⟨true, false, false,
    false⟩, 0, [], by decide +kernel⟩,
   ⟨(wCh 3 13 (fun c => { c with tch := { c.tch with touched := true } })).modRing .a (fun r =>
    { r with cmdq := [(.role ⟨true, false, false, false⟩ false 0#16, 0)], rrole := ⟨false, true, true, false⟩ }), .a, ⟨true, false, false,
    false⟩, 0, [], by decide +kernel⟩,
   ⟨wAct.modRing .a (fun r => { r with cmdq := [(.source false, 0)] }), false, 0, [], by decide +kernel⟩,
   ⟨wAct.modRing .a (fun r => { r with cmdq := [(.source true, 0)] }), true, 0, [], by decide +kernel⟩,
   ⟨wAct.modRing .a (fun r => { r with configured := false, cmdq := [(.source true, 0)] }), true, 0, [], by decide +kernel⟩,
   ⟨{ wPair with pair.minutes := 6000#32 }, by decide +kernel⟩,
   ⟨{ wPair with pair.minutes := 0xFFFFFFFF#32, pair.role := .starting, pair.tlHb := true }, by decide +kernel⟩,
   ⟨wPair, by decide +kernel⟩⟩

theorem witness_PathsClaimsAndDriveGates :
    (∃ (s : State), s.roleOn = true ∧ s.pair.issued + 500 ≤ s.clock ∧ s.pair.role ∈ [Role.claiming, Role.active, Role.swapping])
    ∧ (∃ (s : State), (s.roleOn = false ∨ s.clock < s.pair.issued + 500 ∨ s.pair.role ∉ [Role.claiming, Role.active, Role.swapping]))
    ∧ (∃ (s : State), s.pair.sourceOn = true ∧ s.pair.toggleAt + 1000 ≤ s.clock)
    ∧ (∃ (s : State), (s.pair.sourceOn = false ∨ s.clock < s.pair.toggleAt + 1000))
    ∧ (∃ (s : State) (up : Bool), s.roleOn = true ∧ (s.ring .a).qual ≠ up ∧ (up = true → s.pair.sourceOn = true) ∧ (s.ring .a).link = true ∧
        (s.ring .a).ringLost = false)
    ∧ (∃ (s : State) (up : Bool), s.roleOn = true ∧ (s.ring .a).qual ≠ up ∧ (up = true → s.pair.sourceOn = true) ∧ (s.ring .a).link = true ∧
        (s.ring .a).ringLost = false)
    ∧ (∃ (s : State) (idle : Bool) (u : Nat) (q : List UpMsg), s.roleOn = true ∧ (s.ring .a).upOpen = true ∧ s.pwr.mode ≠ .cellar ∧ (s.ring
        .a).reports = [] ∧ (s.ring .a).upq = .qual true idle u :: q ∧ s.pair.tlQual = false ∧ s.pair.sourceOn = true ∧ s.pair.role =
        .claiming ∧ s.keepsRole)
    ∧ (∃ (s : State) (idle : Bool) (u : Nat) (q : List UpMsg), s.roleOn = true ∧ (s.ring .a).upOpen = true ∧ s.pwr.mode ≠ .cellar ∧ (s.ring
        .a).reports = [] ∧ (s.ring .a).upq = .qual true idle u :: q ∧ s.pair.tlQual = false ∧ s.pair.sourceOn = true ∧ s.pair.role =
        .claiming ∧ s.keepsRole)
    ∧ (∃ (s : State) (idle : Bool) (u : Nat) (q : List UpMsg), s.roleOn = true ∧ (s.ring .a).upOpen = true ∧ s.pwr.mode ≠ .cellar ∧ (s.ring
        .a).reports = [] ∧ (s.ring .a).upq = .qual true idle u :: q ∧ s.pair.tlQual = false ∧ s.pair.sourceOn = true ∧ s.pair.role =
        .claiming ∧ s.keepsRole)
    ∧ (∃ (s : State) (idle : Bool) (u : Nat) (q : List UpMsg), s.roleOn = true ∧ (s.ring .a).upOpen = true ∧ s.pwr.mode ≠ .cellar ∧ (s.ring
        .a).reports = [] ∧ (s.ring .a).upq = .qual false idle u :: q ∧ s.pair.tlQual = true ∧ s.pair.role = .active ∧ s.pair.sourceOn = true
        ∧ s.keepsRole)
    ∧ (∃ (s : State) (idle : Bool) (u : Nat) (q : List UpMsg), s.roleOn = true ∧ (s.ring .a).upOpen = true ∧ s.pwr.mode ≠ .cellar ∧ (s.ring
        .a).reports = [] ∧ (s.ring .a).upq = .qual false idle u :: q ∧ s.pair.tlQual = true ∧ s.pair.role = .active ∧ s.pair.sourceOn =
        false ∧ s.keepsRole)
    ∧ (∃ (s : State) (idle : Bool) (u : Nat) (q : List UpMsg), s.roleOn = true ∧ (s.ring .a).upOpen = true ∧ s.pwr.mode ≠ .cellar ∧ (s.ring
        .a).reports = [] ∧ (s.ring .a).upq = .qual false idle u :: q ∧ s.pair.tlQual = true ∧ s.pair.role = .active ∧ s.pair.sourceOn =
        false ∧ s.keepsRole)
    ∧ (∃ (s : State) (idle : Bool) (u : Nat) (q : List UpMsg), s.roleOn = true ∧ (s.ring .a).upOpen = true ∧ s.pwr.mode ≠ .cellar ∧ (s.ring
        .a).reports = [] ∧ (s.ring .a).upq = .qual false idle u :: q ∧ s.pair.tlQual = true ∧ s.pair.role ≠ .active)
    ∧ (∃ (s : State) (idle : Bool) (u : Nat) (q : List UpMsg), s.roleOn = true ∧ (s.ring .a).upOpen = true ∧ s.pwr.mode ≠ .cellar ∧ (s.ring
        .a).reports = [] ∧ (s.ring .a).upq = .qual true idle u :: q ∧ s.pair.tlQual = false ∧ s.pair.role ≠ .claiming)
    ∧ (∃ (s : State), s.roleOn = true ∧ (s.ring .a).qual = true ∧ ((s.ring .a).link = false ∨ (s.ring .a).ringLost = true))
    ∧ (∃ (s : State), s.roleOn = true ∧ (s.ring .a).qual = true ∧ ((s.ring .a).link = false ∨ (s.ring .a).ringLost = true))
    ∧ (∃ (s : State) (up : Bool), (s.roleOn = false ∨ (s.ring .a).qual = up))
    ∧ (∃ (s : State), s.pair.sourceOn = false)
    ∧ (∃ (s : State), s.roleOn = true ∧ s.pair.sourceOn = false ∧ s.pair.tlHb = true)
    ∧ (∃ (s : State), s.roleOn = true ∧ s.pair.sourceOn = false ∧ s.pair.tlHb = true)
    ∧ (∃ (s : State), (s.roleOn = false ∨ s.pair.sourceOn = true ∨ (s.pair.tlHb = false ∧ s.pair.hbLost = true)))
    ∧ (∃ (s : State), (s.roleOn = false ∨ s.pair.sourceOn = true ∨ (s.pair.tlHb = false ∧ s.pair.hbLost = true)))
    ∧ (∃ (s : State), (s.roleOn = false ∨ s.pair.sourceOn = true ∨ (s.pair.tlHb = false ∧ s.pair.hbLost = true)))
    ∧ (∃ (s : State), s.roleOn = true ∧ s.pair.sourceOn = false ∧ s.pair.tlHb = false)
    ∧ (∃ (s : State), s.roleOn = true ∧ s.pair.sourceOn = false ∧ s.pair.tlHb = false)
    ∧ (∃ (s : State), (s.roleOn = false ∨ s.pair.sourceOn = true ∨ s.pair.tlHb = true))
    ∧ (∃ (s : State), s.tzOn = true ∧ s.pair.tzUp = true ∧ s.pair.lastFrame + s.pair.tzLoss * 100 ≤ s.clock)
    ∧ (∃ (s : State), s.tzOn = true ∧ s.pair.tzUp = true ∧ s.pair.lastFrame + s.pair.tzLoss * 100 ≤ s.clock)
    ∧ (∃ (s : State), (s.tzOn = false ∨ s.clock < s.pair.lastFrame + s.pair.tzLoss * 100))
    ∧ (∃ (s : State) (l : Nat), s.roleOn = true ∧ s.pair.tzUp = false ∧ s.pair.tlHb = true ∧ s.pair.hbStayed = true ∧ s.pair.tzLostAt = some l ∧ l
        + 5000 ≤ s.clock ∧ s.pair.leads = false ∧ s.pair.stale = false)
    ∧ (∃ (s : State) (l : Nat), s.roleOn = true ∧ s.pair.tzUp = false ∧ s.pair.tlHb = true ∧ s.pair.hbStayed = true ∧ s.pair.tzLostAt = some l ∧ l
        + 5000 ≤ s.clock ∧ s.pair.leads = false ∧ s.pair.stale = false)
    ∧ (∃ (s : State), (s.roleOn = false ∨ s.pair.tzUp = true ∨ s.pair.tlHb = false ∨ s.pair.hbStayed = false ∨ s.pair.tzLostAt = none))
    ∧ (∃ (s : State), s.roleOn = true ∧ s.pair.role = .starting ∧ (s.ring .a).hostConf = true ∧ s.pair.listenFrom + s.pair.delayUs ≤ s.clock ∧
        s.pair.uq.toNat < 32 ∧ s.pair.partnerActive = false ∧ ((s.pair.tzUp = false ∧ s.pair.tlHb = false) ∨ (s.pair.tzUp = true ∧
        s.pair.partnerRole = 1#4 ∧ s.img.pairId = false ∧ s.pair.uq.getLsbD 2 = false)) ∧ s.pair.sourceOn = false ∧ s.keepsRole)
    ∧ (∃ (s : State), s.roleOn = true ∧ s.pair.role = .starting ∧ (s.ring .a).hostConf = true ∧ s.pair.listenFrom + s.pair.delayUs ≤ s.clock ∧
        s.pair.uq.toNat < 32 ∧ s.pair.partnerActive = false ∧ ((s.pair.tzUp = false ∧ s.pair.tlHb = false) ∨ (s.pair.tzUp = true ∧
        s.pair.partnerRole = 1#4 ∧ s.img.pairId = false ∧ s.pair.uq.getLsbD 2 = false)) ∧ s.pair.sourceOn = false ∧ s.keepsRole)
    ∧ (∃ (s : State), (s.roleOn = false ∨ s.pair.role ≠ .starting ∨ s.clock < s.pair.listenFrom + s.pair.delayUs ∨ 32 ≤ s.pair.uq.toNat ∨
        s.pair.partnerActive = true ∨ (s.pair.tzUp = true ∧ s.img.pairId = true)))
    ∧ (∃ (s : State) (l : Nat), s.roleOn = true ∧ s.pair.role = .standby ∧ s.pair.bothLostFrom = some l ∧ l + s.pair.delayUs ≤ s.clock ∧
        (s.pair.stale = false ∨ s.pair.staleOk = true) ∧ s.pair.sourceOn = false ∧ s.keepsRole)
    ∧ (∃ (s : State), (s.roleOn = false ∨ s.pair.role ≠ .standby ∨ s.pair.bothLostFrom = none ∨ (s.pair.stale = true ∧ s.pair.staleOk = false)))
    ∧ (∃ (s : State), s.roleOn = true ∧ s.pair.role = .claiming ∧ s.pair.tlQual = false ∧ s.pair.claimFrom + 1000 ≤ s.clock ∧ s.keepsRole)
    ∧ (∃ (s : State), (s.roleOn = false ∨ s.pair.role ≠ .claiming ∨ s.pair.tlQual = true ∨ s.clock < s.pair.claimFrom + 1000))
    ∧ (∃ (s : State), s.roleOn = true ∧ s.pair.role = .backoff ∧ s.pair.backoffFrom + (if s.img.pairId then 3000 else 1000) ≤ s.clock ∧
        s.pair.sourceOn = false ∧ s.pair.partnerActive = false ∧ s.pair.uq.toNat < 32 ∧ (s.pair.claimReason = 0#4 → s.pair.tzUp = false ∨
        (s.pair.partnerRole = 1#4 ∧ s.img.pairId = false ∧ s.pair.uq.getLsbD 2 = false)) ∧ (s.pair.claimReason = 1#4 → s.pair.uq = 0#10 ∧
        s.pair.takeoverDue s.clock = true ∧ (s.pair.stale = false ∨ s.pair.staleOk = true)) ∧ (s.pair.claimReason ≠ 0#4 → s.pair.claimReason
        ≠ 1#4 → s.pair.claimReason ≠ 5#4 → s.pair.uq = 0#10) ∧ s.keepsRole)
    ∧ (∃ (s : State), s.roleOn = true ∧ s.pair.role = .backoff ∧ s.pair.backoffFrom + (if s.img.pairId then 3000 else 1000) ≤ s.clock ∧
        (s.pair.partnerActive = true ∨ 32 ≤ s.pair.uq.toNat ∨ (s.pair.claimReason = 1#4 ∧ (s.pair.uq ≠ 0#10 ∨ s.pair.takeoverDue s.clock =
        false ∨ (s.pair.stale = true ∧ s.pair.staleOk = false))) ∨ (s.pair.claimReason = 0#4 ∧ s.pair.tzUp = true ∧ (s.pair.partnerRole ≠
        1#4 ∨ s.img.pairId = true))))
    ∧ (∃ (s : State), (s.roleOn = false ∨ s.pair.role ≠ .backoff ∨ s.clock < s.pair.backoffFrom + (if s.img.pairId then 3000 else 1000)))
    ∧ (∃ (s : State) (x : RingId) (g : Nat), (s.ring x).gateAt = some g ∧ g + 100 ≤ s.clock)
    ∧ (∃ (s : State) (x : RingId) (g : Nat), (s.ring x).gateAt = some g ∧ g + 100 ≤ s.clock)
    ∧ (∃ (s : State) (x : RingId), ((s.ring x).gateAt = none ∨ ∃ g, (s.ring x).gateAt = some g ∧ s.clock < g + 100)) :=
  ⟨⟨{ wAct with pair.toggleAt := 4999500 }, by decide +kernel⟩,
   ⟨wPair, by decide +kernel⟩,
   ⟨{ wAct with pair.toggleAt := 4999000 }, by decide +kernel⟩,
   ⟨wAct, by decide +kernel⟩,
   ⟨wAct.modRing .a (fun r => { r with qual := true, gateIn := true, driveGate := true }), false, by decide +kernel⟩,
   ⟨wAct.modRing .a (fun r => { r with qual := false }), true, by decide +kernel⟩,
   ⟨{ (wAct.modRing .a (fun r => { r with upq := [.qual true true 5000000] })) with pair.role := .claiming, pair.mayDrive := false, pair.tlQual := false, pair.claimReason := 1#4, pair.held := some wEpoch },
    true, 5000000, [], by decide +kernel⟩,
   ⟨{ (wAct.modRing .a (fun r => { r with upq := [.qual true true 5000000] })) with pair.role := .claiming, pair.mayDrive := false, pair.tlQual := false, pair.claimReason := 2#4 },
    true, 5000000, [], by decide +kernel⟩,
   ⟨{ (wAct.modRing .a (fun r => { r with upq := [.qual true true 5000000] })) with pair.role := .claiming, pair.mayDrive := false, pair.tlQual := false, pair.claimReason := 0#4 },
    true, 5000000, [], by decide +kernel⟩,
   ⟨wAct.modRing .a (fun r => { r with qual := true, gateIn := true, driveGate := true, upq := [.qual false true 5000000] }), true, 5000000,
    [], by decide +kernel⟩,
   ⟨{ (wAct.modRing .a (fun r => { r with qual := true, gateIn := true, driveGate := true, upq := [.qual false true 5000000] })) with pair.sourceOn := false },
    true, 5000000, [], by decide +kernel⟩,
   ⟨{ (wAct.modRing .a (fun r => { r with qual := true, gateIn := true, driveGate := true, upq := [.qual false false 5000000] })) with pair.sourceOn := false },
    false, 5000000, [], by decide +kernel⟩,
   ⟨{ (wAct.modRing .a (fun r => { r with qual := true, gateIn := true, driveGate := true, upq := [.qual false true 5000000] })) with pair.role := .standby },
    true, 5000000, [], by decide +kernel⟩,
   ⟨{ (wPair.modRing .a (fun r => { r with upq := [.qual true true 5000000] })) with pair.sourceOn := true, pair.tlQual := false }, true,
    5000000, [], by decide +kernel⟩,
   ⟨{ (wAct.modRing .a (fun r => { r with qual := true, gateIn := true, driveGate := true })).modRing .a (fun r => { r with link := false }) with pair.role := .standby },
    by decide +kernel⟩,
   ⟨(wAct.modRing .a (fun r => { r with qual := true, gateIn := true, driveGate := true })).modRing .a (fun r => { r with ringLost := true }),
    by decide +kernel⟩,
   ⟨wUp, true, by decide +kernel⟩,
   ⟨wPair, by decide +kernel⟩,
   ⟨{ wPair with pair.tlHb := true }, by decide +kernel⟩,
   ⟨{ wPair with pair.tlHb := true, pair.partnerRole := 3#4 }, by decide +kernel⟩,
   ⟨{ wPair with pair.tlHb := false, pair.hbLost := true }, by decide +kernel⟩,
   ⟨wAct, by decide +kernel⟩,
   ⟨wUp, by decide +kernel⟩,
   ⟨wPair, by decide +kernel⟩,
   ⟨{ wPair with pair.role := .starting, pair.tzUp := false }, by decide +kernel⟩,
   ⟨wAct, by decide +kernel⟩,
   ⟨{ wPair with pair.lastFrame := 4995000, pair.segs := [(3, 5, [])] }, by decide +kernel⟩,
   ⟨{ wAct with pair.lastFrame := 4995000 }, by decide +kernel⟩,
   ⟨wUp, by decide +kernel⟩,
   ⟨{ wPair with pair.tzUp := false, pair.tlHb := true, pair.hbStayed := true, pair.tzLostAt := some 4995000 }, 4995000, by decide +kernel⟩,
   ⟨{ wPair with pair.role := .starting, pair.tzUp := false, pair.tlHb := true, pair.hbStayed := true, pair.tzLostAt := some 4995000 },
    4995000, by decide +kernel⟩,
   ⟨wPair, by decide +kernel⟩,
   ⟨{ wPair with pair.role := .starting, pair.tzUp := false, pair.partnerRole := 15#4 }, by decide +kernel⟩,
   ⟨{ wPair with pair.role := .starting, pair.partnerRole := 1#4 }, by decide +kernel⟩,
   ⟨wPair, by decide +kernel⟩,
   ⟨{ wPair with pair.tzUp := false, pair.bothLostFrom := some 4000000 }, 4000000, by decide +kernel⟩,
   ⟨{ wPair with pair.stale := true }, by decide +kernel⟩,
   ⟨{ wAct with pair.role := .claiming, pair.mayDrive := false, pair.tlQual := false, pair.claimFrom := 4999000 }, by decide +kernel⟩,
   ⟨wPair, by decide +kernel⟩,
   ⟨{ wPair with pair.role := .backoff, pair.partnerRole := 2#4, pair.tzUp := false, pair.tlHb := false, pair.bothLostFrom := some 4000000, pair.claimReason := 1#4 },
    by decide +kernel⟩,
   ⟨{ wPair with pair.role := .backoff, pair.tlHb := true }, by decide +kernel⟩,
   ⟨wPair, by decide +kernel⟩,
   ⟨{ wAct with rings := wAct.rings.map (fun r => { r with gateAt := some 4999900, driveGate := true, lastHostBeat := 4999900 }) }, .a,
    4999900, by decide +kernel⟩,
   ⟨{ wAct with rings := wAct.rings.map (fun r => { r with gateAt := some 4999900, driveGate := true }) }, .b, 4999900, by decide +kernel⟩,
   ⟨wUp, .b, by decide +kernel⟩⟩

theorem witness_CarouselWorksInUnits :
    (∃ (s : State), s.hostRuns = true ∧ s.bg.scrubPos + 1 < 5120)
    ∧ (∃ (s : State), s.hostRuns = true ∧ s.bg.scrubPos + 1 < 5120)
    ∧ (∃ (s : State), s.hostRuns = true ∧ s.bg.scrubPos + 1 < 5120)
    ∧ (∃ (s : State), s.hostRuns = true ∧ s.bg.scrubPos + 1 < 5120)
    ∧ (∃ (s : State), s.hostRuns = true ∧ s.bg.scrubPos = 5119)
    ∧ (∃ (s : State), s.hostRuns = true ∧ s.bg.refreshPos < 3456)
    ∧ (∃ (s : State) (l : Fin 216) (p : Nat) (rest : List Nat), s.hostRuns = true ∧ s.bg.refreshPos < 3456 ∧ l.1 = s.bg.refreshPos / 16 ∧
        s.bg.wear.pool = p :: rest ∧ s.bg.wear.mapped[l.1] + 1 < 100000)
    ∧ (∃ (s : State), 3456 ≤ s.bg.refreshPos)
    ∧ (∃ (s : State) (n : Bool), s.hostRuns = true ∧ s.img.borrowed = false ∧ (s.chks[3]).st = .idle ∧ (s.imgSlot n).st ≠ .empty ∧ (s.imgSlot
        n).st ≠ .receiving)
    ∧ (∃ (s : State) (n : Bool), ((s.imgSlot n).st = .empty ∨ (s.imgSlot n).st = .receiving))
    ∧ (∃ (s : State), (s.img.borrowed = true ∨ (s.chks[3]).st ≠ .idle))
    ∧ (∃ (s : State), (s.chks[3]).carousel = false)
    ∧ (∃ (s : State) (n : Bool), s.hostRuns = true ∧ s.img.borrowed = false ∧ (s.chks[3]).st = .idle ∧ (s.chks[3]).carousel = true ∧ ((s.imgSlot
        n).st = .empty ∨ (s.imgSlot n).st = .receiving ∨ s.slotCrcGood n = true))
    ∧ (∃ (s : State) (n : Bool), s.hostRuns = true ∧ s.img.borrowed = false ∧ (s.chks[3]).st = .idle ∧ (s.chks[3]).carousel = true ∧ (s.imgSlot
        n).st ≠ .empty ∧ (s.imgSlot n).st ≠ .receiving ∧ s.slotCrcGood n = false)
    ∧ (∃ (s : State) (n : Bool), s.hostRuns = true ∧ s.img.borrowed = false ∧ (s.chks[3]).st = .idle ∧ (s.chks[3]).carousel = true ∧ (s.imgSlot
        n).st ≠ .empty ∧ (s.imgSlot n).st ≠ .receiving ∧ s.slotCrcGood n = false)
    ∧ (∃ (s : State), s.hostRuns = true ∧ 3456 ≤ s.bg.refreshPos ∧ (∀ n : Bool, (s.imgSlot n).st = .empty ∨ (s.imgSlot n).st = .receiving ∨
        s.bg.refreshCrc.getLsbD n.toNat = true))
    ∧ (∃ (s : State) (n : Bool), (s.bg.refreshPos < 3456 ∨ ((s.imgSlot n).st ≠ .empty ∧ (s.imgSlot n).st ≠ .receiving ∧ s.bg.refreshCrc.getLsbD
        n.toNat = false)))
    ∧ (∃ (s : State) (n : Bool), (s.bg.refreshPos < 3456 ∨ ((s.imgSlot n).st ≠ .empty ∧ (s.imgSlot n).st ≠ .receiving ∧ s.bg.refreshCrc.getLsbD
        n.toNat = false)))
    ∧ (∃ (s : State) (l : Fin 216) (p : Nat) (rest : List Nat), s.hostRuns = true ∧ s.bg.wear.pool = p :: rest ∧ s.bg.wear.mapped[l.1] + 1 <
        100000)
    ∧ (∃ (s : State) (l : Fin 216) (p : Nat) (rest : List Nat), s.hostRuns = true ∧ s.bg.wear.pool = p :: rest ∧ s.bg.wear.mapped[l.1] + 1 <
        100000)
    ∧ (∃ (s : State) (l : Fin 216) (p : Nat) (rest : List Nat), s.hostRuns = true ∧ s.bg.wear.pool = p :: rest ∧ 100000 ≤ s.bg.wear.mapped[l.1] +
        1)
    ∧ (∃ (s : State) (p : Nat) (rest : List Nat), s.hostRuns = true ∧ s.bg.wear.pool = p :: rest)
    ∧ (∃ (s : State) (p : Nat) (rest : List Nat), s.hostRuns = true ∧ s.bg.wear.pool = p :: rest)
    ∧ (∃ (s : State) (l : Fin 216) (p : Nat) (rest : List Nat), s.hostRuns = true ∧ 128 ≤ l.1 ∧ s.bg.wear.mapped[s.bg.wear.least.1] + 5000 ≤
        s.bg.wear.mapped[l.1] ∧ s.bg.wear.mapped[s.bg.wear.least.1] + 1 < 100000 ∧ 100000 ≤ s.bg.wear.mapped[l.1] + 1 ∧ s.bg.wear.pool = p
        :: rest)
    ∧ (∃ (s : State) (l : Fin 216) (p : Nat) (rest : List Nat), s.hostRuns = true ∧ 128 ≤ l.1 ∧ s.bg.wear.mapped[s.bg.wear.least.1] + 5000 ≤
        s.bg.wear.mapped[l.1] ∧ s.bg.wear.mapped[l.1] + 1 < 100000 ∧ s.bg.wear.pool = p :: rest ∧ p + 1 < 100000)
    ∧ (∃ (s : State) (l : Fin 216), s.hostRuns = true ∧ (l.1 < 128 ∨ s.bg.wear.mapped[l.1] < s.bg.wear.mapped[s.bg.wear.least.1] + 5000 ∨
        s.bg.wear.pool = []))
    ∧ (∃ (s : State) (ticks us at_ : Nat), s.hostRuns = true ∧ s.bg.refDue = [(true, ticks, us, at_)] ∧ (max ticks us - min ticks us) * 1000000 ≤
        10 * us ∧ s.time.source = 2#2 ∧ s.bg.goodRefs = 7)
    ∧ (∃ (s : State) (ticks us at_ : Nat), s.hostRuns = true ∧ s.bg.refDue = [(false, ticks, us, at_)] ∧ (max ticks us - min ticks us) * 1000000 ≤
        50 * us ∧ s.time.source = 1#2 ∧ s.bg.goodRefs = 3)
    ∧ (∃ (s : State) (sync : Bool) (ticks us at_ : Nat), s.hostRuns = true ∧ s.bg.refDue = [(sync, ticks, us, at_)] ∧ 2 * (if sync then 10 else
        50) * us < (max ticks us - min ticks us) * 1000000 ∧ s.time.locked = true)
    ∧ (∃ (s : State), s.bg.refDue = [])
    ∧ (∃ (s : State) (n : Fin 16), s.hostRuns = true ∧ bit s.bg.cfg 16 = true ∧ (isAo (s.chan n).cfg.func = true ∨ (s.chan n).cfg.func = 12 ∨ isDi
        (s.chan n).cfg.func = true) ∧ (s.bg.chTrimAt[n.1] = none ∨ ∃ l, s.bg.chTrimAt[n.1] = some l ∧ l + 1000000 ≤ s.clock))
    ∧ (∃ (s : State) (n : Fin 16), (bit s.bg.cfg 16 = false ∨ ∃ l, s.bg.chTrimAt[n.1] = some l ∧ s.clock < l + 1000000))
    ∧ (∃ (s : State), s.hostRuns = true ∧ 1000000 ≤ (s.tickLo - s.bg.update).toNat)
    ∧ (∃ (s : State), (s.tickLo - s.bg.update).toNat < 1000000)
    ∧ (∃ (s : State), s.phase = .run ∧ s.vio = true ∧ fld s.bg.synccfg 24 2 = 2 ∧ fld s.bg.synccfg 0 24 ≠ 0 ∧ s.tick % fld s.bg.synccfg 0 24 = 0)
    ∧ (∃ (s : State), (fld s.bg.synccfg 24 2 ≠ 2 ∨ s.tick % fld s.bg.synccfg 0 24 ≠ 0))
    ∧ (∃ (s : State) (l : Nat), s.phase = .run ∧ fld s.bg.synccfg 24 2 = 1 ∧ (s.bg.edgeAt = some l ∨ (s.bg.edgeAt = none ∧ l = s.bg.syncFrom ∧
        (s.slot (hostSlot 29)).real.getLsbD 0 = false)) ∧ l + 3 * fld s.bg.synccfg 0 24 ≤ s.clock)
    ∧ (∃ (s : State) (l : Nat), s.phase = .run ∧ fld s.bg.synccfg 24 2 = 1 ∧ (s.bg.edgeAt = some l ∨ (s.bg.edgeAt = none ∧ l = s.bg.syncFrom ∧
        (s.slot (hostSlot 29)).real.getLsbD 0 = false)) ∧ l + 3 * fld s.bg.synccfg 0 24 ≤ s.clock)
    ∧ (∃ (s : State), (fld s.bg.synccfg 24 2 ≠ 1 ∨ (s.bg.edgeAt = none ∧ (s.slot (hostSlot 29)).real.getLsbD 0 = true) ∨ s.clock <
        s.bg.edgeAt.getD s.bg.syncFrom + 3 * fld s.bg.synccfg 0 24))
    ∧ (∃ (s : State), s.phase = .run ∧ s.time.source ≠ 0#2 ∧ s.markSource = false ∧ s.syncSource = false)
    ∧ (∃ (s : State), s.phase = .run ∧ s.time.source ≠ 0#2 ∧ s.markSource = false ∧ s.syncSource = false)
    ∧ (∃ (s : State), (s.time.source = 0#2 ∨ s.markSource = true ∨ s.syncSource = true))
    ∧ (∃ (s : State) (k : Fin 8), s.hostRuns = true ∧ s.isBehind k = true)
    ∧ (∃ (s : State) (k : Fin 8), s.hostRuns = true ∧ s.isBehind k = true)
    ∧ (∃ (s : State) (k : Fin 8), s.isBehind k = false)
    ∧ (∃ (s : State), s.hostRuns = false) :=
  ⟨⟨wUp, by decide +kernel⟩,
   ⟨wUp, by decide +kernel⟩,
   ⟨{ wUp with bg.scrubPos := 5118 }, by decide +kernel⟩,
   ⟨wUp, by decide +kernel⟩,
   ⟨{ wUp with bg.scrubPos := 5119, bg.behind := 1#8 }, by decide +kernel⟩,
   ⟨{ wUp with bg.refreshPos := 3455 }, by decide +kernel⟩,
   ⟨{ wUp with bg.refreshPos := 3455, bg.wear.pool := [4] }, 215, 4, [], by decide +kernel⟩,
   ⟨{ wUp with bg.refreshPos := 3456 }, by decide +kernel⟩,
   ⟨{ wUp with img.slots := wUp.img.slots.map (fun k => { k with st := .verified }) }, true, by decide +kernel⟩,
   ⟨{ wUp with img.slots := wUp.img.slots.map (fun k => { k with st := .receiving }) }, true, by decide +kernel⟩,
   ⟨{ wUp with chks := wUp.chks.set 3 { Chk.reset with carousel := true }, img.borrowed := true }, by decide +kernel⟩,
   ⟨wUp, by decide +kernel⟩,
   ⟨{ wUp with chks := wUp.chks.set 3 { Chk.reset with carousel := true } }, true, by decide +kernel⟩,
   ⟨{ wUp with chks := wUp.chks.set 3 { Chk.reset with carousel := true }, img.slots := wUp.img.slots.map (fun k => { k with st := .verified }) },
    true, by decide +kernel⟩,
   ⟨{ wUp with chks := wUp.chks.set 3 { Chk.reset with carousel := true }, img.slots := wUp.img.slots.map (fun k => { k with st := .active }) },
    false, by decide +kernel⟩,
   ⟨{ wUp with bg.behind := 3#8, bg.refreshPos := 3456, bg.refreshCrc := 3#2 }, by decide +kernel⟩,
   ⟨{ wUp with bg.refreshPos := 3455 }, true, by decide +kernel⟩,
   ⟨{ wUp with bg.refreshPos := 3456, bg.refreshCrc := 2#2, img.slots := wUp.img.slots.map (fun k => { k with st := .verified }) }, false,
    by decide +kernel⟩,
   ⟨{ wUp with bg.wear.pool := List.replicate 8 0 }, 215, 0, List.replicate 7 0, by decide +kernel⟩,
   ⟨{ wUp with bg.wear.pool := List.replicate 7 4 }, 215, 4, List.replicate 6 4, by decide +kernel⟩,
   ⟨{ wUp with bg.wear.pool := [4], bg.wear.mapped := wUp.bg.wear.mapped.set 0 99999 }, 0, 4, [], by decide +kernel⟩,
   ⟨{ wUp with bg.wear.pool := [4] }, 4, [], by decide +kernel⟩,
   ⟨{ wUp with bg.wear.pool := List.replicate 9 4 }, 4, List.replicate 8 4, by decide +kernel⟩,
   ⟨{ wUp with bg.wear.pool := [4], bg.wear.mapped := wUp.bg.wear.mapped.set 128 99999 }, 128, 4, [], by decide +kernel⟩,
   ⟨{ wUp with bg.wear.pool := [4], bg.wear.mapped := wUp.bg.wear.mapped.set 215 5000 }, 215, 4, [], by decide +kernel⟩,
   ⟨{ wUp with bg.wear.mapped := wUp.bg.wear.mapped.set 127 5000 }, 127, by decide +kernel⟩,
   ⟨{ wUp with bg.refDue := [(true, 1000010, 1000000, 4000000)], time.source := 2#2, bg.goodRefs := 7 }, 1000010, 1000000, 4000000,
    by decide +kernel⟩,
   ⟨{ wUp with bg.refDue := [(false, 1000050, 1000000, 4000000)], time.source := 1#2, bg.goodRefs := 3 }, 1000050, 1000000, 4000000,
    by decide +kernel⟩,
   ⟨{ wUp with bg.refDue := [(true, 1000021, 1000000, 4000000)], time.source := 1#2, time.locked := true }, true, 1000021, 1000000, 4000000,
    by decide +kernel⟩,
   ⟨wUp, by decide +kernel⟩,
   ⟨({ wUp with bg.cfg := wUp.bg.cfg ||| 0x10000#32 } : State).modChan 3 (fun c => { c with cfg := { c.cfg with mode := 1#32 } }), 3,
    by decide +kernel⟩,
   ⟨{ wUp with bg.chTrimAt := wUp.bg.chTrimAt.set 3 (some 4000001) }, 3, by decide +kernel⟩,
   ⟨wUp, by decide +kernel⟩,
   ⟨{ wUp with bg.update := wUp.tickLo }, by decide +kernel⟩,
   ⟨{ wUp with bg.synccfg := 0x020003E8#32 }, by decide +kernel⟩,
   ⟨wUp, by decide +kernel⟩,
   ⟨{ wUp with bg.synccfg := 0x010003E8#32, bg.edgeAt := some 4000000, time.locked := true, time.source := 2#2 }, 4000000, by decide +kernel⟩,
   ⟨{ wUp with bg.synccfg := 0x010003E8#32, bg.edgeAt := none, bg.syncFrom := 4000000 }, 4000000, by decide +kernel⟩,
   ⟨wUp, by decide +kernel⟩,
   ⟨{ wUp with time.source := 1#2, time.locked := true }, by decide +kernel⟩,
   ⟨{ wUp with time.source := 1#2 }, by decide +kernel⟩,
   ⟨wUp, by decide +kernel⟩,
   ⟨{ wUp with bg.refDue := [(true, 1, 1, 1)] }, 4, by decide +kernel⟩,
   ⟨wUp, 6, by decide +kernel⟩,
   ⟨wUp, 4, by decide +kernel⟩,
   ⟨{ wUp with phase := .starting }, by decide +kernel⟩⟩

theorem witness_PowerModesAreRequestedAndLeft :
    (∃ (e : Env) (s : State), s.hostReady e opWrite = true ∧ s.pwr.mode ≠ .run ∧ s.recd.journal.length < 2047)
    ∧ (∃ (e : Env) (s : State), s.hostReady e opWrite = true ∧ s.pwr.mode ≠ .run ∧ s.recd.journal.length < 2047)
    ∧ (∃ (e : Env) (s : State), s.hostReady e opWrite = true ∧ s.pwr.mode ≠ .quiet ∧ s.modeRefusal (portOrigin e.port) false = 0 ∧
        s.recd.journal.length < 2047)
    ∧ (∃ (e : Env) (s : State), s.hostReady e opWrite = true ∧ s.pwr.mode ≠ .cellar ∧ s.img.load = .idle ∧ s.img.actPending = false ∧
        s.rpl.capture = none ∧ s.rpl.on = false ∧ s.rpl.erasing = false ∧ s.rpl.loading = false ∧ (∀ u : Fin 4, (s.chks[u.1]).st = .idle) ∧
        (∀ i : Fin 64, (s.tickets[i.1]).st = .free) ∧ fld s.pwr.wakecfg 0 8 = 0 ∧ s.recd.journal.length < 2047)
    ∧ (∃ (e : Env) (s : State), s.hostReady e opWrite = true ∧ s.pwr.mode = .run)
    ∧ (∃ (e : Env) (s : State), s.hostReady e opWrite = true ∧ s.pwr.mode = .quiet)
    ∧ (∃ (e : Env) (s : State), s.hostReady e opWrite = true ∧ s.pwr.mode = .cellar)
    ∧ (∃ (e : Env) (s : State), s.hostReady e opWrite = true ∧ s.pwr.mode = .run ∧ (s.img.load ≠ .idle ∨ s.img.actPending = true))
    ∧ (∃ (e : Env) (s : State), s.hostReady e opWrite = true ∧ s.pwr.mode = .run ∧ s.img.load = .idle ∧ s.img.actPending = false ∧
        (s.rpl.capture.isSome = true ∨ s.rpl.on = true ∨ s.rpl.erasing = true ∨ s.rpl.loading = true))
    ∧ (∃ (e : Env) (s : State) (u : Fin 4), s.hostReady e opWrite = true ∧ s.pwr.mode ≠ .cellar ∧ s.img.load = .idle ∧ s.img.actPending = false ∧
        s.rpl.capture = none ∧ s.rpl.on = false ∧ s.rpl.erasing = false ∧ s.rpl.loading = false ∧ (s.chks[u.1]).st ≠ .idle)
    ∧ (∃ (e : Env) (s : State), s.hostReady e opWrite = true ∧ s.pwr.mode ≠ .cellar ∧ s.img.load = .idle ∧ s.img.actPending = false ∧
        s.rpl.capture = none ∧ s.rpl.on = false ∧ s.rpl.erasing = false ∧ s.rpl.loading = false ∧ (∀ u : Fin 4, (s.chks[u.1]).st = .idle) ∧
        (∀ i : Fin 64, (s.tickets[i.1]).st = .free) ∧ fld s.pwr.wakecfg 0 8 ≠ 0 ∧ (s.ring .a).link = false)
    ∧ (∃ (s : State), s.pwr.mode = .cellar ∧ s.pwr.retention = false ∧ s.pwr.waking = false ∧ s.pwr.wakePend = none ∧ s.pwr.cellarFrom + 1000 ≤
        s.clock)
    ∧ (∃ (s : State) (cause ch : Nat), s.pwr.mode = .cellar ∧ s.pwr.retention = false ∧ s.pwr.waking = false ∧ s.pwr.wakePend = some (cause, ch) ∧
        s.pwr.cellarFrom + 1000 ≤ s.clock)
    ∧ (∃ (s : State), (s.pwr.mode ≠ .cellar ∨ s.pwr.retention = true ∨ s.pwr.waking = true ∨ s.clock < s.pwr.cellarFrom + 1000))
    ∧ (∃ (s : State), s.pwr.mode = .cellar ∧ (s.ring .a).link = true ∧ (s.ring .a).lastHostBeat + 10000 ≤ s.clock)
    ∧ (∃ (s : State), (s.pwr.mode ≠ .cellar ∨ (s.ring .a).link = false ∨ s.clock < (s.ring .a).lastHostBeat + 10000))
    ∧ (∃ (s : State), s.pwr.mode = .cellar ∧ s.pwr.retention = true ∧ s.pwr.internal = false ∧ s.pwr.internalFrom + 600000000 ≤ s.clock)
    ∧ (∃ (s : State), (s.pwr.mode ≠ .cellar ∨ s.pwr.retention = false ∨ s.pwr.internal = true ∨ s.clock < s.pwr.internalFrom + 600000000))
    ∧ (∃ (s : State) (due : Nat), due = 3456 * (s.opt.toNat - s.bg.refreshFrom.toNat) / (max 1 s.refreshHours * 1048576) ∧ due < 3456 ∧ s.pwr.mode
        = .cellar ∧ s.pwr.internal = true ∧ s.bg.scrubDue = true)
    ∧ (∃ (s : State), 3456 ≤ 3456 * (s.opt.toNat - s.bg.refreshFrom.toNat) / (max 1 s.refreshHours * 1048576) ∧ s.pwr.mode = .cellar ∧
        s.pwr.internal = true ∧ (∀ n : Bool, s.bg.refreshCrc.getLsbD n.toNat = true ∨ (s.imgSlot n).st = .empty ∨ s.slotCrcGood n = true))
    ∧ (∃ (s : State) (due : Nat), due = 3456 * (s.opt.toNat - s.bg.refreshFrom.toNat) / (max 1 s.refreshHours * 1048576) ∧ due < 3456 ∧
        s.bg.wear.logAt / 4096 = (s.bg.wear.logAt + 1024) / 4096 ∧ s.pwr.mode = .cellar ∧ s.pwr.internal = true ∧ s.bg.scrubDue = false)
    ∧ (∃ (s : State), (s.pwr.mode ≠ .cellar ∨ s.pwr.internal = false))
    ∧ (∃ (s : State), s.pwr.mode = .cellar ∧ s.portsAnswer = true ∧ s.pwr.waking = false ∧ s.pwr.wakePend = none ∧ (s.pwr.retention = true ∨
        s.pwr.internal = true))
    ∧ (∃ (s : State) (n : Fin 16), s.pwr.mode = .cellar ∧ s.wakeChange n = true ∧ s.pwr.waking = false ∧ s.pwr.wakePend = none ∧ s.pwr.retention =
        true)
    ∧ (∃ (s : State), s.pwr.mode = .cellar ∧ s.vioOk = true ∧ bit s.pwr.wakecfg 16 = true ∧ fld s.bg.synccfg 24 2 ≠ 2 ∧ s.pwr.waking = false ∧
        s.pwr.wakePend = none ∧ s.pwr.retention = true)
    ∧ (∃ (s : State), s.pwr.mode = .cellar ∧ s.portsAnswer = true ∧ s.pwr.waking = false ∧ s.pwr.wakePend = none ∧ s.pwr.retention = false ∧
        s.pwr.internal = false)
    ∧ (∃ (s : State), s.pwr.mode = .cellar ∧ s.portsAnswer = true ∧ (s.pwr.waking = true ∨ s.pwr.wakePend.isSome = true))
    ∧ (∃ (s : State), s.pwr.mode ≠ .cellar)
    ∧ (∃ (s : State), (s.vio = false ∨ s.phase ≠ .run))
    ∧ (∃ (s : State) (n : Fin 16), s.wakeChange n = false)
    ∧ (∃ (s : State), s.pwr.mode = .cellar ∧ s.pwr.waking = true ∧ s.pwr.internalFrom ≤ s.gridTick + s.time.startClock)
    ∧ (∃ (s : State), s.pwr.mode = .cellar ∧ s.pwr.waking = true ∧ s.pwr.internalFrom ≤ s.gridTick + s.time.startClock)
    ∧ (∃ (s : State), (s.pwr.mode ≠ .cellar ∨ s.pwr.waking = false ∨ s.gridTick + s.time.startClock < s.pwr.internalFrom)) :=
  ⟨⟨wE 1, { wUp with pwr.mode := .quiet }, by decide +kernel⟩,
   ⟨wE 1, { wUp with pwr.mode := .cellar, pwr.waking := true, pwr.cellarFrom := 1000000, pwr.internalFrom := 4001000 }, by decide +kernel⟩,
   ⟨wE 1, wUp, by decide +kernel⟩,
   ⟨wE 1, wUp, by decide +kernel⟩,
   ⟨wE 1, wUp, by decide +kernel⟩,
   ⟨wE 1, { wUp with pwr.mode := .quiet }, by decide +kernel⟩,
   ⟨wE 1, { wUp with pwr.mode := .cellar, pwr.waking := true, pwr.cellarFrom := 1000000, pwr.internalFrom := 4001000 }, by decide +kernel⟩,
   ⟨wE 1, { wUp with img.actPending := true }, by decide +kernel⟩,
   ⟨wE 1, { wUp with rpl.on := true }, by decide +kernel⟩,
   ⟨wE 1, wScan 64#21 0#3, 1, by decide +kernel⟩,
   ⟨wE 1, { wRun with pwr.wakecfg := 1#32 }, by decide +kernel⟩,
   ⟨{ wUp with pwr.mode := .cellar, pwr.cellarFrom := 4999000 }, by decide +kernel⟩,
   ⟨{ wUp with pwr.mode := .cellar, pwr.cellarFrom := 4999000, pwr.wakePend := some (3, 2) }, 3, 2, by decide +kernel⟩,
   ⟨wUp, by decide +kernel⟩,
   ⟨({ wUp with pwr.mode := .cellar, pwr.retention := true, pwr.cellarFrom := 4000000, pwr.internalFrom := 4001000 } : State).modRing .a (fun r
    => { r with lastHostBeat := 4990000 }), by decide +kernel⟩,
   ⟨wUp, by decide +kernel⟩,
   ⟨{ { wUp with pwr.mode := .cellar, pwr.retention := true, pwr.cellarFrom := 4000000, pwr.internalFrom := 4001000 } with clock := 604001000 },
    by decide +kernel⟩,
   ⟨{ wUp with pwr.mode := .cellar, pwr.retention := true, pwr.cellarFrom := 4000000, pwr.internalFrom := 4001000 }, by decide +kernel⟩,
   ⟨{ { wUp with pwr.mode := .cellar, pwr.retention := true, pwr.cellarFrom := 4000000, pwr.internalFrom := 4001000 } with pwr.internal := true, bg.scrubDue := true, bg.behind := 1#8, bg.scrubPos := 7 },
    0, by decide +kernel⟩,
   ⟨{ { wUp with pwr.mode := .cellar, pwr.retention := true, pwr.cellarFrom := 4000000, pwr.internalFrom := 4001000 } with pwr.internal := true, recd.optBase := 0x800000000000#48 },
    by decide +kernel⟩,
   ⟨{ { wUp with pwr.mode := .cellar, pwr.retention := true, pwr.cellarFrom := 4000000, pwr.internalFrom := 4001000 } with pwr.internal := true },
    0, by decide +kernel⟩,
   ⟨{ wUp with pwr.mode := .cellar, pwr.retention := true, pwr.cellarFrom := 4000000, pwr.internalFrom := 4001000 }, by decide +kernel⟩,
   ⟨{ wUp with pwr.mode := .cellar, pwr.retention := true, pwr.cellarFrom := 4000000, pwr.internalFrom := 4001000 }, by decide +kernel⟩,
   ⟨({ { wUp with pwr.mode := .cellar, pwr.retention := true, pwr.cellarFrom := 4000000, pwr.internalFrom := 4001000 } with pwr.wakecfg := 0x80#32 }
    : State).modRing .a (fun r => { r with upq := [UpMsg.change 7 true false 0 0#32] }), 7, by decide +kernel⟩,
   ⟨{ { wUp with pwr.mode := .cellar, pwr.retention := true, pwr.cellarFrom := 4000000, pwr.internalFrom := 4001000 } with pwr.wakecfg := 0x10000#32 },
    by decide +kernel⟩,
   ⟨{ wUp with pwr.mode := .cellar }, by decide +kernel⟩,
   ⟨{ wUp with pwr.mode := .cellar, pwr.waking := true, pwr.cellarFrom := 1000000, pwr.internalFrom := 4001000 }, by decide +kernel⟩,
   ⟨wUp, by decide +kernel⟩,
   ⟨{ { wUp with pwr.mode := .cellar, pwr.retention := true, pwr.cellarFrom := 4000000, pwr.internalFrom := 4001000 } with vio := false },
    by decide +kernel⟩,
   ⟨{ wUp with pwr.mode := .cellar, pwr.retention := true, pwr.cellarFrom := 4000000, pwr.internalFrom := 4001000 }, 3, by decide +kernel⟩,
   ⟨{ { wUp with pwr.mode := .cellar, pwr.waking := true, pwr.cellarFrom := 1000000, pwr.internalFrom := 4001000 } with fab.running := true },
    by decide +kernel⟩,
   ⟨{ wUp with pwr.mode := .cellar, pwr.waking := true, pwr.cellarFrom := 1000000, pwr.internalFrom := 4001000 }, by decide +kernel⟩,
   ⟨{ wUp with pwr.mode := .cellar, pwr.retention := true, pwr.cellarFrom := 4000000, pwr.internalFrom := 4001000 }, by decide +kernel⟩⟩

end
end

section
/-! PROOFS. What the operations of one Ring's channels and of the links leave of a Ring, of the channels and of the fault slots. -/

namespace Sys2Proof.Machine

/-! ## Steps whose condition is met or fails -/

theorem whenDo_of {c : Bool} (h : c = true) (f : State → State) (s : State) : whenDo c f s = f s := by rw [h]; rfl

theorem whenDo_of_not {c : Bool} (h : c = false) (f : State → State) (s : State) : whenDo c f s = s := by rw [h]; rfl

/-! ## A Ring without its messages, reports and modem -/

/-- A Ring without what its channels at work write of it: the messages and reports under way, and the modem. -/
def Ring.still (r : Ring) : Ring := { r with upq := [], reports := [], dropped := 0, fsk := Fsk.reset }

theorem State.modRing_ring_ite (s : State) (x y : RingId) (f : Ring → Ring) :
    (s.modRing x f).ring y = if x = y then f (s.ring y) else s.ring y := by
  split
  · subst_vars; simp
  · exact State.modRing_ring_ne _ _ _ _ (by assumption)

theorem State.ring_of_rings {t s : State} (h : t.rings = s.rings) (y : RingId) : t.ring y = s.ring y := by simp [State.ring, h]

theorem State.modRing_still (s : State) (x y : RingId) (f : Ring → Ring) (h : ∀ r, (f r).still = r.still) :
    ((s.modRing x f).ring y).still = (s.ring y).still := by
  rw [State.modRing_ring_ite]; split
  · exact h _
  · rfl

theorem State.sendUp_still (s : State) (x : RingId) (m : UpMsg) (y : RingId) : ((s.sendUp x m).ring y).still = (s.ring y).still :=
  State.modRing_still _ _ _ _ (fun _ => rfl)

theorem State.ringReport_still (s : State) (x : RingId) (k : Fin 256) (m : Nat) (r : Bool) (d : Word) (y : RingId) :
    ((s.ringReport x k m r d).ring y).still = (s.ring y).still :=
  State.modRing_still _ _ _ _ (fun _ => by split <;> rfl)

theorem State.tellLatches_still (s : State) (x y : RingId) : ((s.tellLatches x).ring y).still = (s.ring y).still := by
  unfold State.tellLatches; split
  · exact State.sendUp_still _ _ _ _
  · rfl

theorem State.tellRestart_still (s : State) (n : Fin 16) (y : RingId) : ((s.tellRestart n).ring y).still = (s.ring y).still := by
  unfold State.tellRestart; split
  · exact State.sendUp_still _ _ _ _
  · rfl

theorem State.restartInput_still (s : State) (n : Fin 16) (y : RingId) : ((s.restartInput n).ring y).still = (s.ring y).still :=
  State.tellRestart_still _ _ _

theorem State.diagRaise_still (s : State) (n : Fin 16) (m : Nat) (d : Word) (y : RingId) :
    ((s.diagRaise n m d).ring y).still = (s.ring y).still := by
  unfold State.diagRaise; dsimp only; split
  · rfl
  · exact State.ringReport_still _ _ _ _ _ _ _

theorem State.diagClear_still (s : State) (n : Fin 16) (m : Nat) (y : RingId) : ((s.diagClear n m).ring y).still = (s.ring y).still := by
  unfold State.diagClear; split
  · exact State.ringReport_still _ _ _ _ _ _ _
  · rfl

theorem State.diagClearAll_still (s : State) (n : Fin 16) (ms : List Nat) (y : RingId) :
    ((s.diagClearAll n ms).ring y).still = (s.ring y).still :=
  forEach_keeps (fun t : State => (t.ring y).still) _ _ (fun m t => State.diagClear_still t n m y) s

theorem State.stageFollows_still (s : State) (n : Fin 16) (k : Nat) (y : RingId) :
    ((s.stageFollows n k).ring y).still = (s.ring y).still := by
  unfold State.stageFollows; dsimp only; split
  · rfl
  · exact State.sendUp_still _ _ _ _

theorem State.refreshStage_still (s : State) (n : Fin 16) (k : Nat) (y : RingId) :
    ((s.refreshStage n k).ring y).still = (s.ring y).still := by
  unfold State.refreshStage
  dsimp only
  rw [State.ring_of_rings (State.followGang_frame _ _).2.2.2.2.2.1]
  exact State.stageFollows_still _ _ _ _

theorem State.refreshRing_still (s : State) (x : RingId) (k : Nat) (y : RingId) :
    ((s.refreshRing x k).ring y).still = (s.ring y).still :=
  forEach_keeps (fun t : State => (t.ring y).still) _ _ (fun n t => State.refreshStage_still t n k y) s

theorem State.latchSet_still (s : State) (n : Fin 16) (k : BitVec 16) (y : RingId) :
    ((s.latchSet n k).ring y).still = (s.ring y).still := by
  have hinput : ∀ (t : State) (a b : Prop) (_ : Decidable a) (_ : Decidable b),
      ((if a then (t.diagClearAll n sampleDiags).restartInput n else if b then t.restartInput n else t).ring y).still = (t.ring y).still := by
    intro t a b _ _; split
    · exact (State.restartInput_still _ _ _).trans (State.diagClearAll_still _ _ _ _)
    · split
      · exact State.restartInput_still _ _ _
      · rfl
  have hfsk : ∀ (t : State) (b : Prop) (_ : Decidable b),
      ((if b then t.modRing (ringOf n) (fun r => { r with fsk := r.fsk.abort s.clock }) else t).ring y).still = (t.ring y).still := by
    intro t b _; split
    · exact State.modRing_still _ _ _ _ (fun _ => rfl)
    · rfl
  have hset : ((s.modChan n (fun c => { c with causes := c.causes ||| k, latch := true, releaseDue := none })).ring y).still
      = (s.ring y).still := rfl
  rw [← hset]
  unfold State.latchSet
  refine (State.refreshStage_still _ _ _ _).trans ?_
  generalize s.modChan n (fun c => { c with causes := c.causes ||| k, latch := true, releaseDue := none }) = s1
  split
  · rfl
  · exact (hfsk _ _ _).trans (hinput _ _ _ _ _)

theorem State.setCause_still (s : State) (n : Fin 16) (k : BitVec 16) (y : RingId) :
    ((s.setCause n k).ring y).still = (s.ring y).still := by
  unfold State.setCause
  refine (State.tellLatches_still _ _ _).trans ?_
  split
  · exact (State.latchSet_still _ _ _ _).trans (State.latchSet_still _ _ _ _)
  · exact State.latchSet_still _ _ _ _

/-! ## Discarded frames (R18) -/

/-- A Ring whose host end has discarded a frame at a clock. -/
def Ring.hostDiscarded (r : Ring) (clock : Nat) : Ring :=
  { r with hostRx := satInc r.hostRx, discards := (r.discards.filter (fun t => decide (clock < t + 1000000))) ++ [clock] }

/-- A Ring whose own end has discarded a frame at a clock. -/
def Ring.ringDiscarded (r : Ring) (clock : Nat) : Ring :=
  { r with ringRx := satInc r.ringRx, discards := (r.discards.filter (fun t => decide (clock < t + 1000000))) ++ [clock] }

theorem State.linkDiscard_eq (s : State) (x : RingId) :
    s.linkDiscard x = (if 64 < ((s.ring x).hostDiscarded s.clock).discards.length then
      (s.modRing x (fun r => r.hostDiscarded s.clock)).raiseLive (ringSlot x 3) else s.modRing x (fun r => r.hostDiscarded s.clock)) := by
  unfold State.linkDiscard Ring.hostDiscarded; simp

theorem State.ringDiscard_eq (s : State) (x : RingId) :
    s.ringDiscard x = (if 64 < ((s.ring x).ringDiscarded s.clock).discards.length then
      (s.modRing x (fun r => r.ringDiscarded s.clock)).raiseLive (ringSlot x 3) else s.modRing x (fun r => r.ringDiscarded s.clock)) := by
  unfold State.ringDiscard Ring.ringDiscarded; simp

theorem State.linkDiscard_core (s : State) (x : RingId) :
    ((s.linkDiscard x).ring x).core = ((s.ring x).hostDiscarded s.clock).core := by
  rw [State.linkDiscard_eq]; split
  · exact (State.core_of_ringCores (State.raiseLive_ringCores _ _ _) x).trans (by simp)
  · simp

theorem State.ringDiscard_core (s : State) (x : RingId) :
    ((s.ringDiscard x).ring x).core = ((s.ring x).ringDiscarded s.clock).core := by
  rw [State.ringDiscard_eq]; split
  · exact (State.core_of_ringCores (State.raiseLive_ringCores _ _ _) x).trans (by simp)
  · simp

/-- A part of the state that neither the collector nor the Rings hold stays through a discarded frame. -/
theorem OffReports.linkDiscard {α : Type} {P : State → α} (h : OffReports P) (hr : ∀ (s : State) (y : RingId) (f : Ring → Ring), P (s.modRing y f) = P s)
    (s : State) (x : RingId) : P (s.linkDiscard x) = P s := by
  rw [State.linkDiscard_eq]
  exact h.ite _ _ _ _ ((h.raiseLive _ _ _).trans (hr _ _ _)) (hr _ _ _)

theorem OffReports.ringDiscard {α : Type} {P : State → α} (h : OffReports P) (hr : ∀ (s : State) (y : RingId) (f : Ring → Ring), P (s.modRing y f) = P s)
    (s : State) (x : RingId) : P (s.ringDiscard x) = P s := by
  rw [State.ringDiscard_eq]
  exact h.ite _ _ _ _ ((h.raiseLive _ _ _).trans (hr _ _ _)) (hr _ _ _)

end Sys2Proof.Machine
end

section
/-! PROOFS. Heartbeats and the loss of a link (R16, R18, R19, R25, R26, R28, R58, R427 to R429). -/

namespace Sys2Proof.Machine

/-! ## The host heartbeat goes out (R16, R26, R428, R429) -/

/-- A Ring that a heartbeat with these commands has started to, where its logic runs. -/
def Ring.beaten (r : Ring) (gate toggle : Bool) : Ring :=
  if r.logic then { r with beat := some ⟨gate, toggle || r.beat.any (·.toggle)⟩ } else r

theorem State.sendBeat_ring (s : State) (x y : RingId) :
    (s.sendBeat x).ring y = if x = y then (s.ring y).beaten (s.gateTo y) (y = .a && s.pair.togglePend) else s.ring y := by
  unfold State.sendBeat Ring.beaten
  by_cases hxy : x = y
  · subst hxy
    by_cases hl : (s.ring x).logic = true
    · cases x <;> simp [hl]
    · simp [hl]
  · split
    · cases x <;> simp [State.modRing_ring_ne _ _ _ _ hxy]
    · rfl

theorem State.sendBeat_pair (s : State) (x : RingId) :
    (s.sendBeat x).pair = if x = .a && (s.ring x).logic then { s.pair with togglePend := false } else s.pair := by
  unfold State.sendBeat
  by_cases hl : (s.ring x).logic = true
  · cases x <;> simp [hl]
  · simp [hl]

/-- A heartbeat writes nothing but the Rings and the toggle that waits. -/
theorem State.sendBeat_eq (s : State) (x : RingId) : s.sendBeat x = { s with rings := (s.sendBeat x).rings, pair := (s.sendBeat x).pair } := by
  unfold State.sendBeat; (repeat' split) <;> rfl

theorem State.gateTo_sendBeat_a (s : State) : (s.sendBeat .a).gateTo .b = s.gateTo .b := by
  have hb : (s.sendBeat .a).ring .b = s.ring .b := by rw [State.sendBeat_ring]; rfl
  have hv : (s.sendBeat .a).gateValue = s.gateValue := by
    have hi : (s.sendBeat .a).img = s.img := by simp [State.sendBeat_frame _ _]
    unfold State.gateValue State.pairOn
    rw [hi, State.sendBeat_pair]
    split <;> rfl
  unfold State.gateTo
  rw [hb, hv]

/-- The state with the next host heartbeat 25 µs away (R26). -/
abbrev State.beatDue (s : State) : State := { s with time := { s.time with beatAt := s.clock + 25 } }

theorem State.sendGates_ring (s : State) (y : RingId) :
    (s.sendGates).ring y = (s.ring y).beaten (s.gateTo y) (y = .a && s.pair.togglePend) := by
  have hb : (s.sendBeat .a).ring .b = s.ring .b := by rw [State.sendBeat_ring]; rfl
  unfold State.sendGates
  cases y
  · rw [State.sendBeat_ring, if_neg (by decide), State.sendBeat_ring, if_pos rfl]
  · rw [State.sendBeat_ring, if_pos rfl, hb, State.gateTo_sendBeat_a]
    simp

theorem State.sendGates_pair (s : State) :
    (s.sendGates).pair = if (s.ring .a).logic then { s.pair with togglePend := false } else s.pair := by
  unfold State.sendGates
  rw [State.sendBeat_pair, State.sendBeat_pair]
  simp

theorem State.sendGates_eq (s : State) : s.sendGates = { s with rings := s.sendGates.rings, pair := s.sendGates.pair } := by
  have ha := s.sendBeat_eq .a
  have hb := (s.sendBeat .a).sendBeat_eq .b
  unfold State.sendGates
  generalize (s.sendBeat .a).sendBeat .b = u at hb ⊢
  generalize s.sendBeat .a = t at ha hb
  rw [ha] at hb
  exact hb

theorem hostHeartbeatSend_sends (s : State) (hp : s.phase = .run) (hm : s.pwr.mode ≠ .cellar) (hd : s.time.beatAt ≤ s.clock) :
    exec .hostHeartbeatSend s = .next s.beatDue.sendGates := by
  have hc : (s.phase = .run && s.pwr.mode ≠ .cellar && decide (s.time.beatAt ≤ s.clock) : Bool) = true := by simp [hp, hm, hd]
  exact congrArg Host.Outcome.next (whenDo_of hc _ s)

theorem hostHeartbeatSend_early (s : State) (hd : s.clock < s.time.beatAt) : exec .hostHeartbeatSend s = .next s := by
  have hc : (s.phase = .run && s.pwr.mode ≠ .cellar && decide (s.time.beatAt ≤ s.clock) : Bool) = false := by simp; omega
  exact congrArg Host.Outcome.next (whenDo_of_not hc _ s)

/-! ## A Ring takes a host heartbeat (R17 to R19, R427, R428) -/

theorem State.followGate_still (s : State) (x : RingId) :
    ((s.followGate x).ring x).still = { s.ring x with driveGate := s.gateOpen x }.still := by
  have hblank : ∀ t : State, ((forEach (ringChs x) (fun n t => t.modChan n (fun c => c.startBlank s.clock)) t).ring x).still = (t.ring x).still :=
    fun t => forEach_keeps (fun t : State => (t.ring x).still) _ _ (fun n t => by rw [State.modChan_ring]) t
  unfold State.followGate
  refine (State.refreshRing_still _ _ _ _).trans ?_
  split
  · rw [hblank, State.modRing_ring]
  · rw [State.modRing_ring]

/-- A Ring that has taken GATE, with the gate that follows. -/
def Ring.gated (r : Ring) (gate : Bool) (since : Option Nat) (opened : Bool) : Ring :=
  { r with gateIn := gate, gateAt := since, driveGate := opened }

theorem State.takeGate_still (s : State) (x : RingId) (g : Bool) :
    ((s.takeGate x g).ring x).still = ((s.ring x).gated g (if s.pairOn then some (if g then s.clock else (s.ring x).gateAt.getD 0) else none)
      (!s.pairOn || (g && (x = .b || (s.ring x).qual)))).still := by
  unfold State.takeGate
  rw [State.followGate_still, State.modRing_ring]
  simp [State.gateOpen, State.pairOn, Ring.gated]

theorem State.takeToggle_ring (s : State) (x : RingId) (g : Bool) (y : RingId) : (s.takeToggle x g).ring y = s.ring y := by
  unfold State.takeToggle; split <;> rfl

/-- A good host heartbeat that its Ring heeds: the Ring's logic runs, no safe-path frame waits, and the Ring has not lost its link. -/
theorem hostHeartbeatReceive_heeded {x : RingId} {s : State} {g : Beat} (hb : (s.ring x).beat = some g) (hl : (s.ring x).logic = true)
    (hq : (s.ring x).safeq = []) (hr : (s.ring x).ringLost = false) :
    exec (.hostHeartbeatReceive x true) s = .next ((((s.modRing x (fun r => { r with beat := none })).modRing x (fun r =>
      { r with lastHostBeat := s.clock, realigned := true
               estTurns := if r.estAt s.tick then r.estTurns ++ [s.tick] else r.estTurns })).takeGate x g.gate).takeToggle x g.toggle) := by
  show execHostHeartbeatReceive x true s = _
  simp [execHostHeartbeatReceive, hb, hl, hq, hr]

theorem hostHeartbeatReceive_discarded {x : RingId} {s : State} {g : Beat} (hb : (s.ring x).beat = some g) (hl : (s.ring x).logic = true)
    (hq : (s.ring x).safeq = []) (hr : (s.ring x).ringLost = false) :
    exec (.hostHeartbeatReceive x false) s = .next ((s.modRing x (fun r => { r with beat := none })).ringDiscard x) := by
  show execHostHeartbeatReceive x false s = _
  simp [execHostHeartbeatReceive, hb, hl, hq, hr]

theorem hostHeartbeatReceive_lost {x : RingId} {s : State} {g : Beat} (good : Bool) (hb : (s.ring x).beat = some g) (hl : (s.ring x).logic = true)
    (hq : (s.ring x).safeq = []) (hr : (s.ring x).ringLost = true) :
    exec (.hostHeartbeatReceive x good) s = .next (s.modRing x (fun r => { r with beat := none })) := by
  show execHostHeartbeatReceive x good s = _
  simp [execHostHeartbeatReceive, hb, hl, hq, hr]

theorem hostHeartbeatReceive_good {x : RingId} {s : State} {g : Beat} (hb : (s.ring x).beat = some g) (hl : (s.ring x).logic = true)
    (hq : (s.ring x).safeq = []) (hr : (s.ring x).ringLost = false) :
    ∃ t, exec (.hostHeartbeatReceive x true) s = .next t ∧ (t.ring x).beat = none ∧ (t.ring x).lastHostBeat = s.clock
      ∧ (t.ring x).realigned = true ∧ (t.ring x).gateIn = g.gate
      ∧ (t.ring x).driveGate = (!s.pairOn || (g.gate && (x = .b || (s.ring x).qual))) ∧ KeepsHost t s ∧ KeepsUnits t s ∧ t.recd = s.recd
      ∧ t.flt = s.flt ∧ t.pair = (if g.toggle && x = .a && s.pair.sourceOn then
        { s.pair with toggles := s.pair.toggles + 1, toggleAt := s.clock } else s.pair) := by
  refine ⟨_, hostHeartbeatReceive_heeded hb hl hq hr, ?_⟩
  generalize hs2 : (s.modRing x (fun r => { r with beat := none })).modRing x _ = s2
  have hring : s2.ring x = { s.ring x with
      beat := none, lastHostBeat := s.clock, realigned := true
      estTurns := if (s.ring x).estAt s.tick then (s.ring x).estTurns ++ [s.tick] else (s.ring x).estTurns } := by
    rw [← hs2]; simp [Ring.estAt]
  have hstill := State.takeGate_still s2 x g.gate
  rw [hring, show s2.pairOn = s.pairOn by rw [← hs2]; rfl, show s2.clock = s.clock by rw [← hs2]; rfl] at hstill
  have hframe := State.takeGate_frame s2 x g.gate
  refine ⟨?_, ?_, ?_, ?_, ?_, ?_, ?_, ?_, ?_, ?_⟩
  · rw [State.takeToggle_ring]; exact congrArg Ring.beat hstill
  · rw [State.takeToggle_ring]; exact congrArg Ring.lastHostBeat hstill
  · rw [State.takeToggle_ring]; exact congrArg Ring.realigned hstill
  · rw [State.takeToggle_ring]; exact congrArg Ring.gateIn hstill
  · rw [State.takeToggle_ring]; exact congrArg Ring.driveGate hstill
  all_goals
    rw [← hs2]
    simp [State.takeToggle, State.takeGate_frame _ _ _, KeepsHost, KeepsUnits]

theorem hostHeartbeatReceive_corrupt {x : RingId} {s : State} {g : Beat} (hb : (s.ring x).beat = some g) (hl : (s.ring x).logic = true)
    (hq : (s.ring x).safeq = []) (hr : (s.ring x).ringLost = false) :
    ∃ t, exec (.hostHeartbeatReceive x false) s = .next t ∧ (t.ring x).beat = none ∧ (t.ring x).lastHostBeat = (s.ring x).lastHostBeat
      ∧ (t.ring x).ringRx = satInc (s.ring x).ringRx ∧ (t.ring x).driveGate = (s.ring x).driveGate ∧ KeepsHost t s ∧ KeepsUnits t s := by
  refine ⟨_, hostHeartbeatReceive_discarded hb hl hq hr, ?_⟩
  have hcore := State.ringDiscard_core (s.modRing x (fun r => { r with beat := none })) x
  rw [State.modRing_ring] at hcore
  refine ⟨(congrArg Ring.beat hcore :), (congrArg Ring.lastHostBeat hcore :), (congrArg Ring.ringRx hcore :), (congrArg Ring.driveGate hcore :), ?_, ?_⟩
  · simp [State.ringDiscard_frame _ _, KeepsHost]
  · simp [State.ringDiscard_frame _ _, KeepsUnits]

/-! ## A Ring heartbeat (R16, R19, R26, R58) -/

theorem ringHeartbeatSend_sends {x : RingId} {s : State} (hl : (s.ring x).logic = true) (ho : (s.ring x).offered = true)
    (hr : (s.ring x).ringLost = false) (hd : (s.ring x).beatAt ≤ s.clock) :
    exec (.ringHeartbeatSend x) s = .next (s.modRing x (fun r => { r with ringBeat := true, beatAt := s.clock + 25 })) := by
  have hc : ((s.ring x).logic && (s.ring x).offered && !(s.ring x).ringLost && decide ((s.ring x).beatAt ≤ s.clock)) = true := by
    simp [hl, ho, hr, hd]
  exact congrArg Host.Outcome.next (whenDo_of hc _ s)

theorem ringHeartbeatSend_early {x : RingId} {s : State} (hd : s.clock < (s.ring x).beatAt) : exec (.ringHeartbeatSend x) s = .next s := by
  have hc : ((s.ring x).logic && (s.ring x).offered && !(s.ring x).ringLost && decide ((s.ring x).beatAt ≤ s.clock)) = false := by
    simp; omega
  exact congrArg Host.Outcome.next (whenDo_of_not hc _ s)

/-- What the host die does with a Ring heartbeat that it receives. -/
def State.hearRing (s : State) (x : RingId) (good : Bool) : State :=
  if !good then (s.modRing x (fun r => { r with ringBeat := false })).linkDiscard x
  else
    let s1 := s.modRing x (fun r => { r with ringBeat := false, lastRingBeat := s.clock })
    let s2 :=
      if (s.ring x).link && (s.ring x).realigned && (s.ring x).holdover then
        (s1.modRing x (fun r => { r with holdover := false })).clearLive (ringSlot x 17)
      else s1
    if (s.ring x).link then s2.reportDropped x else s2

theorem ringHeartbeatReceive_hears {x : RingId} {s : State} (hp : s.phase = .run) (hb : (s.ring x).ringBeat = true) (good : Bool) :
    exec (.ringHeartbeatReceive x good) s = .next (s.hearRing x good) := by
  have hc : (s.phase = .run && (s.ring x).ringBeat : Bool) = true := by simp [hp, hb]
  exact congrArg Host.Outcome.next (whenDo_of hc _ s)

/-- A Ring without what the loss of its reports writes of it: the frames that wait for it, the count, and the clock at which it was learnt. -/
def Ring.sureCore (r : Ring) : Ring := { r.core with dropped := 0, lostAt := none }

theorem State.reportDropped_sureCore (s : State) (x : RingId) : ((s.reportDropped x).ring x).sureCore = (s.ring x).sureCore := by
  have hcut : ∀ {r q : Ring}, r.core = q.core → r.sureCore = q.sureCore := fun h => congrArg (fun r : Ring => { r with dropped := 0, lostAt := none }) h
  unfold State.reportDropped State.lostReports
  dsimp only
  split
  · rfl
  · refine (hcut (State.core_of_ringCores (State.raise_ringCores _ _) x)).trans ?_
    rw [State.modRing_ring, State.modRing_ring]
    rfl

theorem OffReports.reportDropped {α : Type} {P : State → α} (h : OffReports P) (hr : ∀ (s : State) (y : RingId) (f : Ring → Ring), P (s.modRing y f) = P s)
    (s : State) (x : RingId) : P (s.reportDropped x) = P s :=
  h.ite _ _ _ _ rfl ((h.raise _ _).trans ((hr _ _ _).trans (hr _ _ _)))

/-- A part of the state that neither the collector nor the Rings hold stays as the host die takes a Ring heartbeat. -/
theorem OffReports.hearRing {α : Type} {P : State → α} (h : OffReports P) (hr : ∀ (s : State) (y : RingId) (f : Ring → Ring), P (s.modRing y f) = P s)
    (s : State) (x : RingId) (good : Bool) : P (s.hearRing x good) = P s := by
  unfold State.hearRing
  dsimp only
  refine h.ite _ _ _ _ ((h.linkDiscard hr _ _).trans (hr _ _ _)) ?_
  have h2 := h.ite ((s.ring x).link && (s.ring x).realigned && (s.ring x).holdover) _ _ s
    ((h.clearLive ((s.modRing x (fun r => { r with ringBeat := false, lastRingBeat := s.clock })).modRing x
      (fun r => { r with holdover := false })) (ringSlot x 17)).trans ((hr _ _ _).trans (hr _ _ _)))
    (hr s x (fun r => { r with ringBeat := false, lastRingBeat := s.clock }))
  exact h.ite _ _ _ _ ((h.reportDropped hr _ _).trans h2) h2

theorem State.hearRing_frame (s : State) (x : RingId) (good : Bool) : KeepsHost (s.hearRing x good) s ∧ KeepsUnits (s.hearRing x good) s := by
  unfold State.hearRing
  constructor
  · simp [State.linkDiscard_frame _ _, State.reportDropped_frame _ _, State.clearLive_frame _ _, KeepsHost]
  · simp [State.linkDiscard_frame _ _, State.reportDropped_frame _ _, State.clearLive_frame _ _, KeepsUnits]

theorem State.hearRing_good_sureCore (s : State) (x : RingId) :
    ((s.hearRing x true).ring x).sureCore = { s.ring x with
      ringBeat := false, lastRingBeat := s.clock
      holdover := (s.ring x).holdover && !((s.ring x).link && (s.ring x).realigned) }.sureCore := by
  have hcut : ∀ {r q : Ring}, r.core = q.core → r.sureCore = q.sureCore := fun h => congrArg (fun r : Ring => { r with dropped := 0, lostAt := none }) h
  have hdrop : ∀ (b : Bool) (u : State), ((if b then u.reportDropped x else u).ring x).sureCore = (u.ring x).sureCore := by
    intro b u; split
    · exact State.reportDropped_sureCore _ _
    · rfl
  unfold State.hearRing
  rw [if_neg (by simp)]
  refine (hdrop _ _).trans ?_
  split
  next h =>
    refine (hcut (State.core_of_ringCores (State.clearLive_ringCores _ _) x)).trans ?_
    simp only [Bool.and_eq_true] at h
    simp [h]
  next h =>
    rw [State.modRing_ring]
    have hh : ((s.ring x).holdover && !((s.ring x).link && (s.ring x).realigned)) = (s.ring x).holdover := by
      cases h1 : (s.ring x).link <;> cases h2 : (s.ring x).realigned <;> cases h3 : (s.ring x).holdover <;> simp_all
    rw [hh]

theorem ringHeartbeatReceive_good {x : RingId} {s : State} (hp : s.phase = .run) (hb : (s.ring x).ringBeat = true) :
    ∃ t, exec (.ringHeartbeatReceive x true) s = .next t ∧ (t.ring x).ringBeat = false ∧ (t.ring x).lastRingBeat = s.clock
      ∧ (t.ring x).link = (s.ring x).link ∧ (t.ring x).holdover = ((s.ring x).holdover && !((s.ring x).link && (s.ring x).realigned))
      ∧ KeepsHost t s ∧ KeepsUnits t s ∧ t.recd.core = s.recd.core ∧ t.chans = s.chans := by
  refine ⟨_, ringHeartbeatReceive_hears hp hb true, ?_⟩
  have hring := s.hearRing_good_sureCore x
  exact ⟨(congrArg Ring.ringBeat hring :), (congrArg Ring.lastRingBeat hring :), (congrArg Ring.link hring :), (congrArg Ring.holdover hring :),
    (s.hearRing_frame x true).1, (s.hearRing_frame x true).2, recCore_offReports.hearRing (fun _ _ _ => rfl) s x true,
    chans_offReports.hearRing (fun _ _ _ => rfl) s x true⟩

theorem ringHeartbeatReceive_corrupt {x : RingId} {s : State} (hp : s.phase = .run) (hb : (s.ring x).ringBeat = true) :
    ∃ t, exec (.ringHeartbeatReceive x false) s = .next t ∧ (t.ring x).ringBeat = false ∧ (t.ring x).lastRingBeat = (s.ring x).lastRingBeat
      ∧ (t.ring x).hostRx = satInc (s.ring x).hostRx ∧ (t.ring x).holdover = (s.ring x).holdover ∧ KeepsHost t s ∧ KeepsUnits t s
      ∧ t.chans = s.chans := by
  refine ⟨_, ringHeartbeatReceive_hears hp hb false, ?_⟩
  have hcore := State.linkDiscard_core (s.modRing x (fun r => { r with ringBeat := false })) x
  rw [State.modRing_ring] at hcore
  exact ⟨(congrArg Ring.ringBeat hcore :), (congrArg Ring.lastRingBeat hcore :), (congrArg Ring.hostRx hcore :), (congrArg Ring.holdover hcore :),
    (s.hearRing_frame x false).1, (s.hearRing_frame x false).2, chans_offReports.hearRing (fun _ _ _ => rfl) s x false⟩

/-! ## The Ring loses the link (R19, R28) -/

theorem State.chan_of_side {t s : State} {n : Fin 16} (h : t.side (ringOf n) = s.side (ringOf n)) : t.chan n = s.chan n := by
  have hn := congrFun (congrArg Prod.snd h) n
  simpa [State.side] using hn

/-- Causes set on a whole Ring leave the channels of the other. -/
theorem State.setCauseRing_chan_other (s : State) (x : RingId) (k : BitVec 16) (n : Fin 16) (h : ringOf n ≠ x) :
    (s.setCauseRing x k).chan n = s.chan n :=
  State.chan_of_side (State.setCauseRing_side s x k _ (Ne.symm h))

theorem Chan.heldBy_bit {c : Chan} {i : Nat} (hi : i < 16) (h : c.heldBy (1#16 <<< i)) : c.latch = true ∧ c.causes.getLsbD i = true := by
  obtain ⟨hl, hk⟩ := h
  refine ⟨hl, ?_⟩
  have hb := congrArg (fun w : BitVec 16 => w.getLsbD i) hk
  simpa [hi] using hb

theorem linkTimeout_latches {x : RingId} {s : State} (hl : (s.ring x).logic = true) (hr : (s.ring x).ringLost = false)
    (hm : (s.ring x).rmode ≠ .cellar) (hd : (s.ring x).lastHostBeat + (s.ring x).linkTimeout ≤ s.clock) :
    ∃ t, exec (.linkTimeout x) s = .next t ∧ (t.ring x).ringLost = true
      ∧ (∀ n, ringOf n = x → (t.chan n).latch = true ∧ (t.chan n).causes.getLsbD 6 = true)
      ∧ (∀ n, ringOf n ≠ x → t.chan n = s.chan n) ∧ KeepsHost t s ∧ KeepsUnits { t with freeCtr := s.freeCtr } s ∧ t.recd = s.recd
      ∧ t.wheels = s.wheels ∧ t.pair = s.pair := by
  have hc : ((s.ring x).logic && !(s.ring x).ringLost && (s.ring x).rmode ≠ .cellar
      && decide ((s.ring x).lastHostBeat + (s.ring x).linkTimeout ≤ s.clock) : Bool) = true := by simp [hl, hr, hm, hd]
  refine ⟨_, congrArg Host.Outcome.next (whenDo_of hc _ s), ?_⟩
  dsimp only
  refine ⟨?_, fun n hn => ?_, fun n hn => ?_, ?_⟩
  · rw [State.ringReport, State.modRing_ring, State.modRing_ring]
    split <;> rfl
  · rw [State.ringReport_chan, State.modRing_chan']
    exact Chan.heldBy_bit (i := 6) (by decide) (State.setCauseRing_sets _ x 64#16 n hn)
  · rw [State.ringReport_chan, State.modRing_chan', State.setCauseRing_chan_other _ _ _ _ hn]
    simp [State.chan, State.loseStatus_frame _ _]
  · simp [State.ringReport_frame _ _ _ _ _ _, State.setCauseRing_frame _ _ _, State.loseStatus_frame _ _, KeepsHost, KeepsUnits]

/-! ## The host die loses the link (R19, R25, R58) -/

theorem holdover_begins {x : RingId} {s : State} (hp : s.phase = .run) (hu : (s.ring x).everUp = true) (hl : (s.ring x).link = false)
    (hh : (s.ring x).holdover = false) (hm : s.pwr.mode ≠ .cellar) (hd : (s.ring x).downAt + 100000 ≤ s.clock) :
    ∃ t, exec (.holdover x) s = .next t ∧ (t.ring x).holdover = true ∧ (t.slot (ringSlot x 17)).real.getLsbD 0 = true ∧ KeepsHost t s
      ∧ KeepsUnits t s ∧ t.recd.core = s.recd.core ∧ t.chans = s.chans := by
  have hc : (s.phase = .run && (s.ring x).everUp && !(s.ring x).link && !(s.ring x).holdover && s.pwr.mode ≠ .cellar
      && decide ((s.ring x).downAt + 100000 ≤ s.clock) : Bool) = true := by simp [hp, hu, hl, hh, hm, hd]
  refine ⟨_, congrArg Host.Outcome.next (whenDo_of hc _ s), ?_⟩
  generalize hs1 : s.modRing x _ = s1
  obtain ⟨hhost, hunits, hrec, hchans, hcores, -, -⟩ := s1.raiseLive_reports (ringSlot x 17) 0#32
  refine ⟨?_, State.raiseLive_live _ _ _ (by cases x <;> decide), ?_, ?_, ?_, ?_⟩
  · have h := congrArg Ring.holdover (hcores x (by cases x <;> decide))
    rw [← hs1, State.modRing_ring] at h
    rw [← hs1]
    exact h
  all_goals
    rw [← hs1] at hhost hunits hrec hchans
    rw [← hs1]
    assumption

/-! ### What the Ringmaster's judgement leaves -/

theorem OffReports.followP2 {α : Type} {P : State → α} (h : OffReports P) (s : State) (k : Fin 31) (l : Bool) (p : Word) :
    P (s.followP2 k l p) = P s :=
  h.ite _ _ _ _ (h.raiseLive _ _ _) (h.clearLive _ _)

theorem State.pairSources_ringCores (s : State) : s.pairSources.ringCores = s.ringCores := by
  have h := ringCores_offReports
  unfold State.pairSources
  dsimp only
  rw [h.followP2, h.followP2, h.followP2, h.followP2]
  rfl

theorem State.settleGap_ringCores (s : State) : s.settleGap.ringCores = s.ringCores := by
  unfold State.settleGap; dsimp only; split
  · rw [State.modPair_ringCores, State.setUq_ringCores]
  · rfl

theorem State.checkSwap_ringCores (s : State) : s.checkSwap.ringCores = s.ringCores := by
  unfold State.checkSwap; split
  · split <;> simp
  · rfl

theorem State.pairSync_ringCores (s : State) : s.pairSync.ringCores = s.ringCores := by
  unfold State.pairSync
  dsimp only
  split
  · rw [State.pairSources_ringCores, State.setUq_ringCores]
  · rw [State.tellRole_ringCores, State.pairSources_ringCores, State.settleGap_ringCores, State.pairCounts, State.modPair_ringCores,
      State.checkSwap_ringCores]
    split <;> simp

theorem State.claim_ringCores (s : State) (a b : Nat) (i : Bool) (w : Word) : (s.claim a b i w).ringCores = s.ringCores := by
  unfold State.claim; dsimp only; (repeat' split) <;> simp

/-- What the loss of a link writes of its Ring, which no heartbeat to it writes. -/
def Ring.downView (r : Ring) : Bool × Nat × Bool × Byte := (r.link, r.downAt, r.staged, r.linkDrops)

theorem Ring.downView_of_core {r q : Ring} (h : r.core = q.core) : r.downView = q.downView := (congrArg Ring.downView h :)

theorem State.sendGates_downView (s : State) (y : RingId) : (s.sendGates.ring y).downView = (s.ring y).downView := by
  rw [State.sendGates_ring]; unfold Ring.beaten; split <;> rfl

theorem State.hearQual_same (s : State) (up idle : Bool) (h : s.pair.tlQual = up) : s.hearQual up idle = s := by
  unfold State.hearQual; rw [if_pos h]

/-- A fall of TL_QUAL comes to the claim of an active unit, the gates, and the judgement of the pair (R427 to R429, R434): what these keep
holds after it. -/
theorem State.hearQual_down_holds (P : State → Prop) (s : State) (idle : Bool) (hs : P s) (hpair : ∀ u f, P u → P (u.modPair f))
    (hclaim : ∀ u, P u → P (u.claim 5 5 idle)) (hgates : ∀ u, P u → P u.sendGates) (hsync : ∀ u, P u → P u.pairSync) :
    P (s.hearQual false idle) := by
  by_cases h : s.pair.tlQual = true
  · unfold State.hearQual
    dsimp only
    rw [if_neg (by simp [h]), if_neg (by simp)]
    refine hsync _ (hgates _ ?_)
    split
    · exact hclaim _ (hpair _ _ hs)
    · exact hpair _ _ hs
  · rwa [State.hearQual_same _ _ _ (by simpa using h)]

theorem State.hearQual_down_downView (s : State) (idle : Bool) (y : RingId) :
    ((s.hearQual false idle).ring y).downView = (s.ring y).downView :=
  State.hearQual_down_holds (fun u => (u.ring y).downView = (s.ring y).downView) s idle rfl (fun _ _ h => h)
    (fun _ h => (Ring.downView_of_core (State.core_of_ringCores (State.claim_ringCores _ _ _ _ _) y)).trans h)
    (fun u h => (State.sendGates_downView u y).trans h)
    (fun _ h => (Ring.downView_of_core (State.core_of_ringCores (State.pairSync_ringCores _) y)).trans h)

theorem State.hearQual_down_fab (s : State) (idle : Bool) : (s.hearQual false idle).fab = s.fab :=
  State.hearQual_down_holds (fun u => u.fab = s.fab) s idle rfl (fun _ _ h => h) (fun _ h => by simp [State.claim_frame _ _ _ _, h])
    (fun _ h => by simp [State.sendGates_frame _, h]) (fun _ h => by simp [State.pairSync_frame _, h])

theorem State.hearQual_down_filt (s : State) (idle : Bool) : (s.hearQual false idle).filt = s.filt :=
  State.hearQual_down_holds (fun u => u.filt = s.filt) s idle rfl (fun _ _ h => h) (fun _ h => by simp [State.claim_frame _ _ _ _, h])
    (fun _ h => by simp [State.sendGates_frame _, h]) (fun _ h => by simp [State.pairSync_frame _, h])

/-! ### A source of a Ring stays live -/

/-- A clearing takes no live bit from another slot. -/
theorem State.clearCauseAt_real_mono (s : State) (j k : Fin 256) (m : Nat) (inj : Bool) (t : Nat) (l : Bool) (i : Nat) (hjk : j ≠ k)
    (h : (s.slot k).real.getLsbD i = true) : ((s.clearCauseAt j m inj t l).slot k).real.getLsbD i = true := by
  have hloss : ∀ u : State, u.slot k = s.slot k → ((State.checkLoss s u).slot k).real.getLsbD i = true :=
    fun u hu => State.checkLoss_real_mono s u k i (by rw [hu]; exact h)
  have hrelease : ∀ (u : State) (mask : BitVec 16), (u.slot k).real.getLsbD i = true →
      ((if (u.slot j).isLive then u else (u.modSlot j (fun f => { f with setOn := 0#16 })).autoRelease j mask).slot k).real.getLsbD i = true := by
    intro u mask hu; split
    · exact hu
    · rw [State.autoRelease_slot, State.modSlot_slot_other _ _ _ _ hjk]; exact hu
  unfold State.clearCauseAt
  by_cases hdead : (!((if inj then (s.slot j).inj else (s.slot j).real).getLsbD (m % 32))) = true
  · rw [if_pos hdead]; exact h
  · rw [if_neg hdead]
    refine hrelease _ _ (hloss _ ?_)
    rw [ite_slot, State.faultRecord_slot, State.faultEntry_slot, State.modSlot_slot_other _ _ _ _ hjk, ite_self]

theorem State.clearLive_real_mono (s : State) (j k : Fin 256) (i : Nat) (hjk : j ≠ k) (h : (s.slot k).real.getLsbD i = true) :
    ((s.clearLive j).slot k).real.getLsbD i = true :=
  State.clearCauseAt_real_mono s j k 0 false s.tick false i hjk h

theorem hostSlot_ne_ringSlot (h : Fin 31) (x : RingId) (r : Fin 20) : hostSlot h ≠ ringSlot x r := by
  intro e
  have := congrArg Fin.val e
  cases x <;> simp [hostSlot, ringSlot] at this <;> omega

/-- A source of a Ring is live. -/
def State.ringLive (s : State) (x : RingId) (r : Fin 20) : Prop := (s.slot (ringSlot x r)).real.getLsbD 0 = true

theorem State.ringLive_of_flt {t s : State} (h : t.flt = s.flt) {x : RingId} {r : Fin 20} (hs : s.ringLive x r) : t.ringLive x r := by
  unfold State.ringLive; rw [State.slot_of_flt h]; exact hs

theorem State.followP2_ringLive (s : State) (h : Fin 31) (l : Bool) (p : Word) (x : RingId) (r : Fin 20) (hs : s.ringLive x r) :
    (s.followP2 h l p).ringLive x r := by
  unfold State.followP2; split
  · exact State.raiseLive_real_mono _ _ _ _ _ hs
  · exact State.clearLive_real_mono _ _ _ _ (hostSlot_ne_ringSlot _ _ _) hs

theorem State.pairSources_ringLive (s : State) (x : RingId) (r : Fin 20) (hs : s.ringLive x r) : s.pairSources.ringLive x r := by
  unfold State.pairSources
  exact State.followP2_ringLive _ _ _ _ _ _ (State.followP2_ringLive _ _ _ _ _ _ (State.followP2_ringLive _ _ _ _ _ _
    (State.followP2_ringLive _ _ _ _ _ _ hs)))

theorem State.pairSync_ringLive (s : State) (x : RingId) (r : Fin 20) (hs : s.ringLive x r) : s.pairSync.ringLive x r := by
  have huq := State.ringLive_of_flt (s := s) (State.setUq_frame s ((s.pair.uq &&& ~~~ 0x3C0#10) ||| s.localCauses)).2.2.2.1 hs
  unfold State.pairSync
  dsimp only
  split
  · exact State.pairSources_ringLive _ _ _ huq
  · refine State.ringLive_of_flt (State.tellRole_frame _ _ _).2.2.2.2.1 (State.pairSources_ringLive _ _ _ ?_)
    refine State.ringLive_of_flt ?_ huq
    rw [(State.settleGap_frame _).2.2.2.1, (State.pairCounts_frame _).2.2.2.2.1, (State.checkSwap_frame _).2.2.2.1]
    split
    · simp [State.setRole_frame _ _ _ _]
    · rfl

theorem State.hearQual_down_ringLive (s : State) (idle : Bool) (x : RingId) (r : Fin 20) (hs : s.ringLive x r) :
    (s.hearQual false idle).ringLive x r :=
  State.hearQual_down_holds (fun u => u.ringLive x r) s idle hs (fun _ _ h => h)
    (fun _ h => State.ringLive_of_flt (by simp [State.claim_frame _ _ _ _]) h)
    (fun _ h => State.ringLive_of_flt (by simp [State.sendGates_frame _]) h) (fun _ h => State.pairSync_ringLive _ _ _ h)

/-! ### LINK_LOST -/

theorem State.settleRelease_slots (s : State) (p : PortId) : (s.settleRelease p).flt.slots = s.flt.slots := by
  unfold State.settleRelease; split
  · split <;> rfl
  · rfl

theorem State.abandonReleases_slots (s : State) (x : RingId) : (s.abandonReleases x).flt.slots = s.flt.slots := by
  refine foldl_keeps (fun u : State => u.flt.slots) _ _ (fun u p => ?_) s
  split
  · split
    · rw [State.settleRelease_slots]; rfl
    · rfl
  · rfl

/-- The link is down at the host die: drops counted, LINK_LOST live, and nothing awaited of the Ring (R19, R124, R348). -/
def State.linkDown (s : State) (x : RingId) : State :=
  (((((s.loseStatus x).modRing x (fun r =>
    { r.lateReports with link := false, hostConf := false, realigned := false, linkDrops := satInc r.linkDrops, downAt := s.clock, staged := false
                         offered := r.offered && r.vfOk })).raiseLive (ringSlot x 0)).abandonReleases x).modImg
    (fun i => { i with await := i.await.filter (· ≠ x) }))

theorem linkLost_downs {x : RingId} {s : State} (hp : s.phase = .run) (hl : (s.ring x).link = true) (hm : s.pwr.mode ≠ .cellar)
    (hd : (s.ring x).lastRingBeat + 100 ≤ s.clock) :
    exec (.linkLost x) s = .next (if x = .a && (s.linkDown x).roleOn then
      (if (s.linkDown x).pair.sourceOn then s.linkDown x else (s.linkDown x).free.2).hearQual false
        ((s.linkDown x).pair.sourceOn || bit (s.linkDown x).free.1 0) else s.linkDown x) := by
  have hc : (s.phase = .run && (s.ring x).link && s.pwr.mode ≠ .cellar && decide ((s.ring x).lastRingBeat + 100 ≤ s.clock) : Bool) = true := by
    simp [hp, hl, hm, hd]
  exact congrArg Host.Outcome.next (whenDo_of hc _ s)

theorem State.loseStatus_linkDrops (s : State) (x : RingId) : ((s.loseStatus x).ring x).linkDrops = (s.ring x).linkDrops := by
  unfold State.loseStatus State.freezeStatus; split
  · rw [State.modRing_ring]; rfl
  · rfl

theorem State.linkDown_downView (s : State) (x : RingId) :
    ((s.linkDown x).ring x).downView = (false, s.clock, false, satInc (s.ring x).linkDrops) := by
  unfold State.linkDown
  generalize hs1 : (s.loseStatus x).modRing x _ = s1
  have hraise : (((s1.raiseLive (ringSlot x 0)).abandonReleases x).ring x).downView = (s1.ring x).downView := by
    have hrings : ((s1.raiseLive (ringSlot x 0)).abandonReleases x).rings = (s1.raiseLive (ringSlot x 0)).rings := by
      simp [State.abandonReleases_frame _ _]
    rw [State.ring_of_rings hrings]
    exact Ring.downView_of_core (State.core_of_ringCores (State.raiseLive_ringCores _ _ _) x)
  refine hraise.trans ?_
  rw [← hs1, State.modRing_ring, ← State.loseStatus_linkDrops s x]
  rfl

theorem State.linkDown_ringLive (s : State) (x : RingId) : (s.linkDown x).ringLive x 0 := by
  unfold State.linkDown State.ringLive
  generalize (s.loseStatus x).modRing x _ = s1
  rw [State.modImg_slot, State.slot_of_slots (State.abandonReleases_slots _ x)]
  exact State.raiseLive_live _ _ _ (by cases x <;> decide)

theorem State.linkDown_await (s : State) (x : RingId) : x ∉ (s.linkDown x).img.await := by
  simp [State.linkDown]

theorem State.linkDown_frame (s : State) (x : RingId) :
    (s.linkDown x).clock = s.clock ∧ (s.linkDown x).time = s.time ∧ (s.linkDown x).tickets = s.tickets ∧ (s.linkDown x).fab = s.fab
      ∧ (s.linkDown x).adcs = s.adcs ∧ (s.linkDown x).filt = s.filt ∧ (s.linkDown x).chks = s.chks := by
  simp [State.linkDown, State.abandonReleases_frame _ _, State.raiseLive_frame _ _ _, State.loseStatus_frame _ _]

theorem linkLost_live {x : RingId} {s : State} (hp : s.phase = .run) (hl : (s.ring x).link = true) (hm : s.pwr.mode ≠ .cellar)
    (hd : (s.ring x).lastRingBeat + 100 ≤ s.clock) :
    ∃ t, exec (.linkLost x) s = .next t ∧ (t.ring x).link = false ∧ (t.ring x).downAt = s.clock ∧ (t.ring x).staged = false
      ∧ (t.ring x).linkDrops = satInc (s.ring x).linkDrops ∧ (t.slot (ringSlot x 0)).real.getLsbD 0 = true ∧ x ∉ t.img.await
      ∧ t.clock = s.clock ∧ t.time = s.time ∧ t.tickets = s.tickets ∧ t.fab = s.fab ∧ t.adcs = s.adcs ∧ t.filt = s.filt ∧ t.chks = s.chks := by
  refine ⟨_, linkLost_downs hp hl hm hd, ?_⟩
  have hview := s.linkDown_downView x
  have hlive := s.linkDown_ringLive x
  have hawait := s.linkDown_await x
  obtain ⟨hclock, htime, htickets, hfab, hadcs, hfilt, hchks⟩ := s.linkDown_frame x
  generalize s.linkDown x = u at *
  have hu : ∀ w : State, (w.ring x).downView = (u.ring x).downView → (w.ring x).link = false ∧ (w.ring x).downAt = s.clock
      ∧ (w.ring x).staged = false ∧ (w.ring x).linkDrops = satInc (s.ring x).linkDrops := by
    intro w hw
    have h := hw.trans hview
    simp only [Ring.downView, Prod.mk.injEq] at h
    exact h
  split
  · generalize hv : (if u.pair.sourceOn then u else u.free.2) = v
    have hvr : v.rings = u.rings ∧ v.flt = u.flt := by rw [← hv]; split <;> exact ⟨rfl, rfl⟩
    have hvf : v.img = u.img ∧ v.clock = u.clock ∧ v.time = u.time ∧ v.tickets = u.tickets ∧ v.fab = u.fab ∧ v.adcs = u.adcs
        ∧ v.filt = u.filt ∧ v.chks = u.chks := by
      rw [← hv]; split <;> exact ⟨rfl, rfl, rfl, rfl, rfl, rfl, rfl, rfl⟩
    obtain ⟨himg', hclock', htime', htickets', hfab', hadcs', hfilt', hchks'⟩ := hvf
    obtain ⟨h1, h2, h3, h4⟩ := hu (v.hearQual false (u.pair.sourceOn || bit u.free.1 0))
      ((State.hearQual_down_downView _ _ _).trans (congrArg Ring.downView (State.ring_of_rings hvr.1 x)))
    refine ⟨h1, h2, h3, h4, State.hearQual_down_ringLive _ _ _ _ (State.ringLive_of_flt hvr.2 hlive), ?_⟩
    rw [State.hearQual_down_fab, State.hearQual_down_filt]
    simp [State.hearQual_frame _ _ _, *]
  · obtain ⟨h1, h2, h3, h4⟩ := hu u rfl
    exact ⟨h1, h2, h3, h4, hlive, hawait, hclock, htime, htickets, hfab, hadcs, hfilt, hchks⟩

/-- Settles O16, clause by clause. -/
theorem heartbeatsKeepTheLink : Obligations.HeartbeatsKeepTheLink := by
  unfold Obligations.HeartbeatsKeepTheLink
  intro x s
  refine ⟨fun hp hm hd => ⟨_, hostHeartbeatSend_sends s hp hm hd, fun y _ => State.sendGates_ring _ y, ?_⟩, hostHeartbeatSend_early s,
    fun g hb hl hq hr => hostHeartbeatReceive_good hb hl hq hr, fun g hb hl hq hr => hostHeartbeatReceive_corrupt hb hl hq hr,
    fun g good hb hl hq hr => hostHeartbeatReceive_lost good hb hl hq hr, fun hl ho hr hd => ringHeartbeatSend_sends hl ho hr hd,
    fun hd => ringHeartbeatSend_early hd, fun hp hb => ringHeartbeatReceive_good hp hb, fun hp hb => ringHeartbeatReceive_corrupt hp hb,
    fun hp hl hm hd => linkLost_live hp hl hm hd, fun hl hr hm hd => linkTimeout_latches hl hr hm hd,
    fun hp hu hl hh hm hd => holdover_begins hp hu hl hh hm hd⟩
  have heq := s.beatDue.sendGates_eq
  rw [State.sendGates_pair] at heq
  exact heq

end Sys2Proof.Machine
end

section
/-! PROOFS. Reports of a Ring at the host die (R58, R352). -/

namespace Sys2Proof.Machine

/-- A clearing of a source leaves VF_OK as RINGx_DOMAIN showed it. -/
theorem State.clearCauseAt_hostVf (s : State) (k : Fin 256) (m t : Nat) (l : Bool) (x : RingId) :
    ((s.clearCauseAt k m false t l).ring x).hostVf = (s.ring x).hostVf :=
  (congrArg Ring.hostVf (State.core_of_ringCores (State.clearCauseAt_ringCores s k m false t l) x) :)

/-- A report that ends VF_UVLO brings VF_OK back, whatever RINGx_DOMAIN showed (R58). -/
theorem State.takeReport_uvlo_end (s : State) (x : RingId) (e : Report) (hr : e.raise = false) (hs : e.slot = ringSlot x 5) :
    ((s.takeReport x e).ring x).hostVf = true := by
  have hch : slotChannel e.slot = none := by rw [hs]; cases x <;> rfl
  unfold State.takeReport
  simp only [hr, hch, Bool.false_eq_true, if_false]
  rw [State.clearCauseAt_hostVf, if_pos hs, State.modRing_ring]

/-- A good report that nothing holds back leaves its queue and is taken (R17, R18, R352). -/
theorem ringFaultReport_taken {x : RingId} {s : State} {e : Report} {q : List Report} (hp : s.phase = .run) (ho : (s.ring x).upOpen = true)
    (hr : (s.ring x).reports = e :: q) (hb : s.upBefore x e.clock = false) (hw : s.reportWaits e = false) :
    exec (.ringFaultReport x true) s = .next ((s.modRing x (fun r => { r with reports := q })).takeReport x e) := by
  show execRingFaultReport x true s = _
  simp [execRingFaultReport, hp, ho, hr, hb, hw]

/-- The report of Ring A that VF_UVLO has ended. -/
def uvloEnd : Report := ⟨ringSlot .a 5, 0#8, false, 0#32, 0, 0, false⟩

/-- A block that runs with the link of Ring A up, where that report waits and RINGA_DOMAIN shows VF_OK = 0. -/
def uvloEnding : State :=
  { State.reset with phase := .run }.modRing .a (fun _ => { Ring.reset with link := true, ringLost := false, reports := [uvloEnd], hostVf := false })

theorem uvloEnding_ring : uvloEnding.ring .a = { Ring.reset with link := true, ringLost := false, reports := [uvloEnd], hostVf := false } :=
  State.modRing_ring _ _ _

/-- Refutes O17: the clause on reports that clear names every source that is no channel's, VF_UVLO too, and says that nothing but the
queue and the collector changes; but the end of VF_UVLO also sets VF_OK of RINGx_DOMAIN (R58), so the clause fails where VF_OK reads 0.
The clause on raisings excludes VF_UVLO, this one does not. -/
theorem not_framesOnTheLinks : ¬ Obligations.FramesOnTheLinks := by
  unfold Obligations.FramesOnTheLinks
  intro h
  obtain ⟨-, -, -, -, -, -, -, -, hclear, -⟩ := h .a uvloEnding
  have hup : uvloEnding.upBefore .a uvloEnd.clock = false := by unfold State.upBefore; rw [uvloEnding_ring]; rfl
  have hopen : (uvloEnding.ring .a).upOpen = true := by rw [uvloEnding_ring]; rfl
  have hreports : (uvloEnding.ring .a).reports = [uvloEnd] := by rw [uvloEnding_ring]
  have hsays := hclear uvloEnd [] rfl hopen hreports hup rfl rfl
  have hdoes := ringFaultReport_taken rfl hopen hreports hup rfl
  have hsame := Host.Outcome.next.inj (hdoes.symm.trans hsays)
  have hvf := congrArg (fun t : State => (t.ring .a).hostVf) hsame
  simp only [State.clearCauseAt_hostVf, State.modRing_ring, uvloEnding_ring] at hvf
  rw [State.takeReport_uvlo_end _ .a uvloEnd rfl rfl] at hvf
  exact Bool.noConfusion hvf

end Sys2Proof.Machine
end

section
/-! PROOFS. Trips of the output stages (R28, R191, R194, R198, R199, R211, R242). -/

namespace Sys2Proof.Machine

/-! ## Pairs and leads (R198) -/

theorem mate_ne (n : Fin 16) : mate n ≠ n := by
  intro h
  have hv := congrArg Fin.val h
  unfold mate at hv
  split at hv
  · simp at hv
  · simp at hv; omega

theorem mate_mate (n : Fin 16) : mate (mate n) = n := by
  have h : ∀ k : Fin 16, mate (mate k) = k := by decide
  exact h n

theorem gangMate_eq_some {n m : Fin 16} {c : ChanCfg} (h : gangMate n c = some m) : m = mate n ∧ isDo c.func = true := by
  unfold gangMate pairMate at h
  split at h
  next hc =>
    split at h
    · simp only [Option.some.injEq] at h
      simp only [Bool.and_eq_true] at hc
      exact ⟨h.symm, hc.2⟩
    · exact absurd h (by simp)
  next => exact absurd h (by simp)

theorem func_ne_zero_of_isDo {c : ChanCfg} (h : isDo c.func = true) : c.func ≠ 0 := by
  intro h0; rw [h0] at h; exact Bool.noConfusion h

/-- A channel with a function of its own is its own lead. -/
theorem State.lead_of_func {s : State} {n : Fin 16} (h : (s.chan n).rng.func ≠ 0) : s.lead n = n := by
  simp [State.lead, h]

theorem State.lead_of_isDo {s : State} {n : Fin 16} (h : isDo (s.chan n).rng.func = true) : s.lead n = n :=
  State.lead_of_func (func_ne_zero_of_isDo h)

theorem State.lead_cases (s : State) (n : Fin 16) : s.lead n = n ∨ s.lead n = mate n := by
  unfold State.lead; split
  · exact .inr rfl
  · exact .inl rfl

/-- A lead is its own lead. -/
theorem State.lead_lead (s : State) (n : Fin 16) : s.lead (s.lead n) = s.lead n := by
  by_cases h : ((s.chan n).rng.func = 0 && gangMate (mate n) (s.chan (mate n)).rng = some n) = true
  · have hl : s.lead n = mate n := by simp only [State.lead, h, if_true]
    simp only [Bool.and_eq_true, decide_eq_true_eq] at h
    rw [hl]
    exact State.lead_of_isDo (gangMate_eq_some h.2).2
  · have hl : s.lead n = n := by simp only [State.lead, h]; rfl
    rw [hl, hl]

theorem State.gangPair_eq_some {s : State} {n m : Fin 16} (h : s.gangPair n = some m) : m = mate n := by
  unfold State.gangPair gangOther at h
  split at h
  next k hk =>
    obtain rfl := Option.some.inj h
    exact (gangMate_eq_some hk).1
  next =>
    obtain ⟨k, -, hk⟩ := Option.bind_eq_some_iff.1 h
    split at hk
    · exact (Option.some.inj hk).symm
    · exact absurd hk (by simp)

/-! ## The stage follows its pad, channel by channel -/

/-- A channel without its output stage. -/
def Chan.unstaged (c : Chan) : Chan := { c with stage := Stage.reset }

/-- The stage of a channel whose pad is off. -/
def Stage.off (g : Stage) (clock : Nat) : Stage := { (if g.on then g.turnOff clock else g) with drive := .off }

theorem Stage.off_on (g : Stage) (clock : Nat) : (g.off clock).on = false := by
  unfold Stage.off Stage.turnOff; cases h : g.on <;> simp [h]

theorem Stage.off_drive (g : Stage) (clock : Nat) : (g.off clock).drive = .off := rfl

theorem Stage.off_off (g : Stage) (clock : Nat) : (g.off clock).off clock = g.off clock := by
  unfold Stage.off Stage.turnOff; cases h : g.on <;> simp [h]

theorem Stage.off_inrush (g : Stage) (clock : Nat) (h : g.inrushStart = none) : (g.off clock).inrushStart = none := by
  unfold Stage.off Stage.turnOff; split
  · rfl
  · exact h

theorem State.refreshTarget_chan_ne (s : State) (i n : Fin 16) (h : i ≠ n) : (s.refreshTarget i).chan n = s.chan n :=
  State.modChan_chan_ne _ _ _ _ h

theorem isAo_of_isDo {f : Nat} (h : isDo f = true) : isAo f = false := by
  simp only [isDo, Bool.and_eq_true, decide_eq_true_eq] at h
  simp only [isAo, Bool.or_eq_false_iff, decide_eq_false_iff_not]
  omega

/-- A digital output has no target. -/
theorem State.refreshTarget_chan_do (s : State) (i n : Fin 16) (h : isDo (s.chan n).rng.func = true) : (s.refreshTarget i).chan n = s.chan n := by
  unfold State.refreshTarget
  rw [State.modChan_chan_ite]; split
  · unfold Chan.retarget; rw [isAo_of_isDo h]; rfl
  · rfl

theorem State.stageFollows_chan_ne (s : State) (i : Fin 16) (k : Nat) (n : Fin 16) (h : i ≠ n) : (s.stageFollows i k).chan n = s.chan n := by
  unfold State.stageFollows; dsimp only; split
  · exact State.modChan_chan_ne _ _ _ _ h
  · exact State.modChan_chan_ne _ _ _ _ h

theorem State.stageFollows_unstaged (s : State) (i : Fin 16) (k : Nat) (n : Fin 16) :
    ((s.stageFollows i k).chan n).unstaged = (s.chan n).unstaged := by
  have h : ∀ g : Stage → Stage, ((s.modChan i (fun c => { c with stage := g c.stage })).chan n).unstaged = (s.chan n).unstaged := by
    intro g; rw [State.modChan_chan_ite]; split <;> rfl
  unfold State.stageFollows; dsimp only
  by_cases hi : i = n
  · subst hi
    split <;> simp [Chan.unstaged]
  · split
    · rw [State.modChan_chan_ne _ _ _ _ hi]
    · rw [State.sendChange_chan, State.modChan_chan_ne _ _ _ _ hi]

/-- The stage of a pad that is off goes off. -/
theorem State.stageFollows_stage_off (s : State) (i : Fin 16) (k : Nat) (h : s.pad i = .off) :
    ((s.stageFollows i k).chan i).stage = (s.chan i).stage.off s.clock := by
  unfold State.stageFollows Stage.off; dsimp only
  split <;> simp [h, Pad.isOn, Pad.drive]

theorem State.followGang_chan_ne (s : State) (i n : Fin 16) (h : mate i ≠ n) : (s.followGang i).chan n = s.chan n := by
  unfold State.followGang; dsimp only; split
  · exact State.modChan_chan_ne _ _ _ _ h
  · split
    · exact State.modChan_chan_ne _ _ _ _ h
    · rfl

theorem State.followGang_unstaged (s : State) (i n : Fin 16) : ((s.followGang i).chan n).unstaged = (s.chan n).unstaged := by
  unfold State.followGang; dsimp only; split
  · rw [State.modChan_chan_ite]; split <;> rfl
  · split
    · rw [State.modChan_chan_ite]; split <;> rfl
    · rfl

/-- A partner with a function of its own keeps its stage. -/
theorem State.followGang_chan_func (s : State) (i n : Fin 16) (h : (s.chan n).rng.func ≠ 0) : (s.followGang i).chan n = s.chan n := by
  by_cases hm : mate i = n
  · subst hm
    unfold State.followGang
    simp [h]
  · exact State.followGang_chan_ne _ _ _ hm

/-- The partner of a gang has its pair's stage. -/
theorem State.followGang_follows (s : State) (i : Fin 16) (hg : gangMate i (s.chan i).rng = some (mate i)) (hf : (s.chan (mate i)).rng.func = 0) :
    ((s.followGang i).chan (mate i)).stage = { (s.chan i).stage with
      swcnt := (s.chan (mate i)).stage.swcnt, shed := false, ran := (s.chan (mate i)).stage.ran || (s.chan i).stage.on } := by
  unfold State.followGang
  simp [hg, hf]

/-! ## The stage of a digital output under a latch -/

theorem Chan.unstaged_rng {c d : Chan} (h : c.unstaged = d.unstaged) : c.rng = d.rng := (congrArg Chan.rng h :)

/-- A latched digital output has its pad off, whatever its safe code (R104, R503). -/
theorem State.pad_latched {s : State} {n : Fin 16} (hd : isDo (s.chan n).rng.func = true) (hl : (s.chan n).latch = true) : s.pad n = .off := by
  unfold State.pad
  rw [State.lead_of_isDo hd]
  dsimp only
  split
  · rfl
  · have h78 : (s.chan n).rng.func ≠ 7 ∧ (s.chan n).rng.func ≠ 8 := by
      simp only [isDo, Bool.and_eq_true, decide_eq_true_eq] at hd; omega
    unfold safePad safeAllowed
    simp [h78.1, h78.2]

theorem State.refreshStage_unstaged_do (s : State) (i : Fin 16) (k : Nat) (n : Fin 16) (hd : isDo (s.chan n).rng.func = true) :
    ((s.refreshStage i k).chan n).unstaged = (s.chan n).unstaged := by
  unfold State.refreshStage
  dsimp only
  rw [State.followGang_unstaged, State.stageFollows_unstaged, State.refreshTarget_chan_do _ _ _ hd]

theorem State.refreshStage_chan_ne (s : State) (i : Fin 16) (k : Nat) (n : Fin 16) (hn : n ≠ i) (hm : n ≠ mate i) :
    (s.refreshStage i k).chan n = s.chan n := by
  have h : s.lead i ≠ n ∧ mate (s.lead i) ≠ n := by
    rcases s.lead_cases i with h | h
    · rw [h]; exact ⟨hn.symm, hm.symm⟩
    · rw [h, mate_mate]; exact ⟨hm.symm, hn.symm⟩
  unfold State.refreshStage
  dsimp only
  rw [State.followGang_chan_ne _ _ _ h.2, State.stageFollows_chan_ne _ _ _ _ h.1, State.refreshTarget_chan_ne _ _ _ h.1]

/-- A refresh of a latched digital output turns its stage off; one of another channel leaves it or turns it off. -/
theorem State.refreshStage_stage_latched (s : State) (i : Fin 16) (k : Nat) (n : Fin 16) (hd : isDo (s.chan n).rng.func = true)
    (hl : (s.chan n).latch = true) :
    ((s.refreshStage i k).chan n).stage = if s.lead i = n then (s.chan n).stage.off s.clock else (s.chan n).stage := by
  have htarget : (s.refreshTarget (s.lead i)).chan n = s.chan n := State.refreshTarget_chan_do _ _ _ hd
  have hrng : (((s.refreshTarget (s.lead i)).stageFollows (s.lead i) k).chan n).rng = (s.chan n).rng := by
    rw [Chan.unstaged_rng (State.stageFollows_unstaged _ _ _ _), htarget]
  unfold State.refreshStage
  dsimp only
  rw [State.followGang_chan_func _ _ _ (by rw [hrng]; exact func_ne_zero_of_isDo hd)]
  split
  next h =>
    rw [h] at htarget ⊢
    rw [State.stageFollows_stage_off, htarget]
    · rfl
    · exact State.pad_latched (by rw [htarget]; exact hd) (by rw [htarget]; exact hl)
  next h => rw [State.stageFollows_chan_ne _ _ _ _ h, htarget]

/-! ## A trip's latch -/

theorem State.diagClear_chan_ne (s : State) (i : Fin 16) (m : Nat) (n : Fin 16) (h : i ≠ n) : (s.diagClear i m).chan n = s.chan n := by
  unfold State.diagClear; split
  · rw [State.ringReport_chan, State.modChan_chan_ne _ _ _ _ h]
  · rfl

theorem State.diagClearAll_chan_ne (s : State) (i : Fin 16) (ms : List Nat) (n : Fin 16) (h : i ≠ n) : (s.diagClearAll i ms).chan n = s.chan n :=
  forEach_keeps (fun t : State => t.chan n) _ _ (fun m t => State.diagClear_chan_ne t i m n h) s

theorem State.restartInput_chan_ne (s : State) (i n : Fin 16) (h : i ≠ n) : (s.restartInput i).chan n = s.chan n := by
  unfold State.restartInput
  rw [State.tellRestart_chan, State.modChan_chan_ne _ _ _ _ h]

/-- What a latch that sets does before its stage follows. -/
def State.latchInput (s : State) (n : Fin 16) (causes : BitVec 16) : State :=
  let s1 := s.modChan n (fun c => { c with causes := c.causes ||| causes, latch := true, releaseDue := none })
  if (s.chan n).latch then s1
  else
    let func := (s.chan n).rng.func
    let t := if isDi func then (s1.diagClearAll n sampleDiags).restartInput n else if func = 13 then s1.restartInput n else s1
    if (t.ring (ringOf n)).fskHas n then t.modRing (ringOf n) (fun r => { r with fsk := r.fsk.abort s.clock }) else t

theorem State.latchSet_eq (s : State) (n : Fin 16) (causes : BitVec 16) : s.latchSet n causes = (s.latchInput n causes).refreshStage n 3 := rfl

theorem State.latchInput_chan_ne (s : State) (i : Fin 16) (k : BitVec 16) (n : Fin 16) (h : i ≠ n) : (s.latchInput i k).chan n = s.chan n := by
  have hinput : ∀ (t : State) (a b : Prop) (_ : Decidable a) (_ : Decidable b),
      (if a then (t.diagClearAll i sampleDiags).restartInput i else if b then t.restartInput i else t).chan n = t.chan n := by
    intro t a b _ _; split
    · rw [State.restartInput_chan_ne _ _ _ h, State.diagClearAll_chan_ne _ _ _ _ h]
    · split
      · exact State.restartInput_chan_ne _ _ _ h
      · rfl
  have hfsk : ∀ (t : State) (b : Prop) (_ : Decidable b) (f : Ring → Ring),
      (if b then t.modRing (ringOf i) f else t).chan n = t.chan n := by intro t b _ f; split <;> rfl
  have hset : (s.modChan i (fun c => { c with causes := c.causes ||| k, latch := true, releaseDue := none })).chan n = s.chan n :=
    State.modChan_chan_ne _ _ _ _ h
  rw [← hset]
  unfold State.latchInput
  generalize s.modChan i (fun c => { c with causes := c.causes ||| k, latch := true, releaseDue := none }) = s1
  split
  · rfl
  · rw [hfsk, hinput]

theorem State.latchInput_frame (s : State) (n : Fin 16) (k : BitVec 16) : (s.latchInput n k).clock = s.clock ∧ (s.latchInput n k).flt = s.flt := by
  unfold State.latchInput
  simp [State.diagClearAll_frame _ _ _, State.restartInput_frame _ _]

/-- The latch of a digital output sets without touching its input (R180, R260). -/
theorem State.latchInput_chan_do (s : State) (n : Fin 16) (k : BitVec 16) (hd : isDo (s.chan n).rng.func = true) :
    (s.latchInput n k).chan n = { s.chan n with causes := (s.chan n).causes ||| k, latch := true, releaseDue := none } := by
  have hf : isDi (s.chan n).rng.func = false ∧ (s.chan n).rng.func ≠ 13 := by
    simp only [isDo, Bool.and_eq_true, decide_eq_true_eq] at hd
    simp only [isDi, Bool.and_eq_false_iff, decide_eq_false_iff_not]
    omega
  unfold State.latchInput
  simp only [hf.1, hf.2, Bool.false_eq_true, if_false]
  (repeat' split) <;> simp

theorem State.latchInput_reports_do (s : State) (n : Fin 16) (k : BitVec 16) (hd : isDo (s.chan n).rng.func = true) (y : RingId) :
    ((s.latchInput n k).ring y).reports = (s.ring y).reports := by
  have hf : isDi (s.chan n).rng.func = false ∧ (s.chan n).rng.func ≠ 13 := by
    simp only [isDo, Bool.and_eq_true, decide_eq_true_eq] at hd
    simp only [isDi, Bool.and_eq_false_iff, decide_eq_false_iff_not]
    omega
  unfold State.latchInput
  simp only [hf.1, hf.2, Bool.false_eq_true, if_false]
  split
  · rfl
  · split
    · rw [State.modRing_ring_ite]; split <;> rfl
    · rfl

theorem State.stageFollows_reports (s : State) (n : Fin 16) (k : Nat) (y : RingId) :
    ((s.stageFollows n k).ring y).reports = (s.ring y).reports := by
  unfold State.stageFollows; dsimp only; split
  · rfl
  · unfold State.sendChange State.sendUp
    rw [State.modRing_ring_ite]; split <;> rfl

theorem State.refreshStage_reports (s : State) (n : Fin 16) (k : Nat) (y : RingId) :
    ((s.refreshStage n k).ring y).reports = (s.ring y).reports := by
  unfold State.refreshStage
  dsimp only
  rw [State.ring_of_rings (State.followGang_frame _ _).2.2.2.2.2.1, State.stageFollows_reports]
  rfl

theorem State.tellLatches_reports (s : State) (x y : RingId) : ((s.tellLatches x).ring y).reports = (s.ring y).reports := by
  unfold State.tellLatches; split
  · unfold State.sendUp; rw [State.modRing_ring_ite]; split <;> rfl
  · rfl

/-- What the latch of a digital output leaves and makes of its channel: latch, causes, and the stage off. -/
def Chan.latchedOff (c : Chan) (k : BitVec 16) (clock : Nat) : Chan :=
  { c with causes := c.causes ||| k, latch := true, releaseDue := none, stage := c.stage.off clock }

theorem Chan.eq_of_unstaged {c d : Chan} (h : c.unstaged = d.unstaged) (hs : c.stage = d.stage) : c = d := by
  have hc : ∀ e : Chan, e = { e.unstaged with stage := e.stage } := fun _ => rfl
  rw [hc c, hc d, h, hs]

theorem State.latchSet_chan_do (s : State) (n : Fin 16) (k : BitVec 16) (hd : isDo (s.chan n).rng.func = true) :
    (s.latchSet n k).chan n = (s.chan n).latchedOff k s.clock := by
  have hin := State.latchInput_chan_do s n k hd
  have hdo : isDo ((s.latchInput n k).chan n).rng.func = true := by rw [hin]; exact hd
  rw [State.latchSet_eq]
  apply Chan.eq_of_unstaged
  · rw [State.refreshStage_unstaged_do _ _ _ _ hdo, hin]; rfl
  · rw [State.refreshStage_stage_latched _ _ _ _ hdo (by rw [hin]), if_pos (State.lead_of_isDo hdo), hin,
      (State.latchInput_frame _ _ _).1]
    rfl

/-- The latch of another channel leaves a latched digital output whose stage is off as it is. -/
theorem State.latchSet_chan_latchedOff (s : State) (i n : Fin 16) (j : BitVec 16) (c : Chan) (k : BitVec 16) (hin : i ≠ n)
    (hc : s.chan n = c.latchedOff k s.clock) (hd : isDo c.rng.func = true) : (s.latchSet i j).chan n = s.chan n := by
  have hsame := State.latchInput_chan_ne s i j n hin
  have hdo : isDo ((s.latchInput i j).chan n).rng.func = true := by rw [hsame, hc]; exact hd
  rw [State.latchSet_eq]
  apply Chan.eq_of_unstaged
  · rw [State.refreshStage_unstaged_do _ _ _ _ hdo, hsame]
  · rw [State.refreshStage_stage_latched _ _ _ _ hdo (by rw [hsame, hc]; rfl), hsame]
    split
    · rw [(State.latchInput_frame _ _ _).1, hc]; exact Stage.off_off _ _
    · rfl

theorem State.latchSet_chan_ne (s : State) (i : Fin 16) (k : BitVec 16) (n : Fin 16) (hn : n ≠ i) (hm : n ≠ mate i) :
    (s.latchSet i k).chan n = s.chan n := by
  rw [State.latchSet_eq, State.refreshStage_chan_ne _ _ _ _ hn hm, State.latchInput_chan_ne _ _ _ _ hn.symm]

/-- The latch of a digital output writes nothing but the stage of its partner (R198). -/
theorem State.latchSet_mate_unstaged (s : State) (n : Fin 16) (k : BitVec 16) (hd : isDo (s.chan n).rng.func = true) :
    ((s.latchSet n k).chan (mate n)).unstaged = (s.chan (mate n)).unstaged := by
  have hdo : isDo ((s.latchInput n k).chan n).rng.func = true := by rw [State.latchInput_chan_do s n k hd]; exact hd
  rw [State.latchSet_eq, State.refreshStage]
  rw [State.lead_of_isDo hdo, State.followGang_unstaged, State.stageFollows_unstaged, State.refreshTarget_chan_ne _ _ _ (mate_ne n).symm,
    State.latchInput_chan_ne _ _ _ _ (mate_ne n).symm]

/-! ### The causes of a gang -/

/-- The causes of a trip on a digital output: its latch is set and its stage off. -/
theorem State.setCause_chan_do (s : State) (n : Fin 16) (k : BitVec 16) (hd : isDo (s.chan n).rng.func = true) :
    (s.setCause n k).chan n = (s.chan n).latchedOff k s.clock := by
  unfold State.setCause
  rw [State.tellLatches_chan]
  have h1 := State.latchSet_chan_do s n k hd
  split
  next m hm =>
    rw [State.latchSet_chan_latchedOff _ m n k (s.chan n) k (State.gangPair_eq_some hm ▸ mate_ne n) (by
      rw [h1, (State.latchSet_frame _ _ _).1.2.1]) hd, h1]
  next => exact h1

theorem State.setCause_chan_ne (s : State) (i : Fin 16) (k : BitVec 16) (n : Fin 16) (hn : n ≠ i) (hm : n ≠ mate i) :
    (s.setCause i k).chan n = s.chan n := by
  unfold State.setCause
  rw [State.tellLatches_chan]
  split
  next m hg =>
    obtain rfl := State.gangPair_eq_some hg
    rw [State.latchSet_chan_ne _ _ _ _ hm (by rw [mate_mate]; exact hn), State.latchSet_chan_ne _ _ _ _ hn hm]
  next => exact State.latchSet_chan_ne _ _ _ _ hn hm

theorem State.setCause_held_mate (s : State) (n : Fin 16) (k : BitVec 16) (m : Fin 16) (hg : s.gangPair n = some m) :
    ((s.setCause n k).chan m).held = (true, (s.chan m).causes ||| k) := by
  have hmn : n ≠ m := fun h => mate_ne n ((State.gangPair_eq_some hg).symm.trans h.symm)
  unfold State.setCause
  rw [State.tellLatches_chan, hg]
  rw [State.latchSet_held, if_pos rfl]
  have h := State.latchSet_held s n k m
  rw [if_neg hmn] at h
  rw [show ((s.latchSet n k).chan m).causes = (s.chan m).causes from congrArg Prod.snd h]

theorem State.setCause_mate_unstaged (s : State) (n : Fin 16) (k : BitVec 16) (hd : isDo (s.chan n).rng.func = true) (hg : s.gangPair n = none) :
    ((s.setCause n k).chan (mate n)).unstaged = (s.chan (mate n)).unstaged := by
  unfold State.setCause
  rw [State.tellLatches_chan, hg]
  exact State.latchSet_mate_unstaged s n k hd

theorem State.setCause_reports_do (s : State) (n : Fin 16) (k : BitVec 16) (hd : isDo (s.chan n).rng.func = true) (hg : s.gangPair n = none)
    (y : RingId) : ((s.setCause n k).ring y).reports = (s.ring y).reports := by
  unfold State.setCause
  rw [State.tellLatches_reports, hg]
  show ((s.latchSet n k).ring y).reports = _
  rw [State.latchSet_eq, State.refreshStage_reports, State.latchInput_reports_do _ _ _ hd]

/-- What the host die is told of a Ring's latches is what they are, while the link is up. -/
theorem State.tellLatches_told (s : State) (x : RingId) (hl : (s.ring x).link = true) :
    (s.tellLatches x).toldLatches x = (s.tellLatches x).latchesOf x := by
  unfold State.tellLatches
  split
  · unfold State.toldLatches State.sendUp
    rw [State.modRing_ring, List.reverse_append]
    rfl
  next h =>
    simp only [hl, Bool.true_and, decide_eq_true_eq, ne_eq, not_not] at h
    exact h.symm

theorem State.setCause_told (s : State) (n : Fin 16) (k : BitVec 16) (hl : (s.ring (ringOf n)).link = true) :
    (s.setCause n k).toldLatches (ringOf n) = (s.setCause n k).latchesOf (ringOf n) := by
  have hstill := State.setCause_still s n k (ringOf n)
  unfold State.setCause at hstill ⊢
  refine State.tellLatches_told _ _ ?_
  rw [State.tellLatches_still] at hstill
  exact (congrArg Ring.link hstill :).trans hl

/-! ### The diagnostic -/

theorem State.diagRaise_chan_ne (s : State) (n : Fin 16) (m : Nat) (d : Word) (k : Fin 16) (h : n ≠ k) : (s.diagRaise n m d).chan k = s.chan k := by
  unfold State.diagRaise; dsimp only; split
  · rfl
  · rw [State.ringReport_chan, State.modChan_chan_ne _ _ _ _ h]

/-- A channel without what a diagnostic that becomes live writes of it. -/
def Chan.undiagnosed (c : Chan) : Chan :=
  { c with live := 0#32, diSticky := 0#32, doSticky := 0#32, anSticky := 0#32, tchSticky := 0#32, plgSticky := 0#32 }

theorem State.diagRaise_undiagnosed (s : State) (n : Fin 16) (m : Nat) (d : Word) (k : Fin 16) :
    ((s.diagRaise n m d).chan k).undiagnosed = (s.chan k).undiagnosed := by
  by_cases h : n = k
  · subst h
    unfold State.diagRaise; dsimp only; split
    · rfl
    · rw [State.ringReport_chan, State.modChan_chan]; rfl
  · rw [State.diagRaise_chan_ne _ _ _ _ _ h]

theorem State.diagRaise_ring_ne (s : State) (n : Fin 16) (m : Nat) (d : Word) (y : RingId) (h : y ≠ ringOf n) :
    (s.diagRaise n m d).ring y = s.ring y :=
  (congrArg Prod.fst (State.diagRaise_side s n m d y h.symm) :)

theorem State.diagRaise_upq (s : State) (n : Fin 16) (m : Nat) (d : Word) (y : RingId) : ((s.diagRaise n m d).ring y).upq = (s.ring y).upq := by
  unfold State.diagRaise; dsimp only; split
  · rfl
  · unfold State.ringReport
    rw [State.modRing_ring_ite, State.modChan_ring]
    split
    · split <;> rfl
    · rfl

/-- A diagnostic that is not instant is live and reported after its raising (R178, R352). -/
theorem State.diagRaise_raised (s : State) (n : Fin 16) (m : Nat) (d : Word) (hm : m < 32) (hi : m ≠ 14 ∧ m ≠ 26 ∧ m ≠ 28) :
    DiagRaised (s.diagRaise n m d) s n m d := by
  have hmod : m % 32 = m := Nat.mod_eq_of_lt hm
  unfold State.diagRaise
  dsimp only
  rw [hmod]
  by_cases hl : (s.chan n).live.getLsbD m = true
  · rw [if_pos hl]
    exact ⟨hl, fun h => absurd hl (by simp [h])⟩
  · rw [if_neg hl]
    refine ⟨?_, fun _ hlen => ?_⟩
    · rw [State.ringReport_chan, State.modChan_chan]
      simp [hi, hm]
    · unfold State.ringReport
      rw [State.modRing_ring, State.modChan_ring, if_pos hlen]
      rfl

/-- Latches and causes, and what the host die is told of them, stay through a diagnostic. -/
theorem State.diagRaise_told (s : State) (n : Fin 16) (m : Nat) (d : Word) (x : RingId) (h : s.toldLatches x = s.latchesOf x) :
    (s.diagRaise n m d).toldLatches x = (s.diagRaise n m d).latchesOf x := by
  have hheld : (s.diagRaise n m d).latchesOf x = s.latchesOf x := by
    have hk : ∀ k, ((s.diagRaise n m d).chan k).causes = (s.chan k).causes ∧ ((s.diagRaise n m d).chan k).latch = (s.chan k).latch :=
      fun k => ⟨(congrArg Chan.causes (s.diagRaise_undiagnosed n m d k) :), (congrArg Chan.latch (s.diagRaise_undiagnosed n m d k) :)⟩
    simp only [State.latchesOf, hk]
  have htold : (s.diagRaise n m d).toldLatches x = s.toldLatches x := by
    unfold State.toldLatches
    rw [State.diagRaise_upq, (State.diagRaise_frame s n m d).2.2.2.2.1]
  rw [htold, hheld, h]

/-! ## A trip as a whole (R28, R191, R194, R198, R211, R345) -/

/-- The channel of a stage that trips, before its latch. -/
def State.countTrip (s : State) (n : Fin 16) : State := s.modChan n (fun c => { c with errTrips := satInc c.errTrips })

theorem State.trip_eq (s : State) (n : Fin 16) (m : Nat) : s.trip n m = ((s.countTrip n).setCause n 2#16).diagRaise n m := rfl

theorem State.gangPair_of_rng {t s : State} (h : ∀ k, (t.chan k).rng = (s.chan k).rng) (n : Fin 16) : t.gangPair n = s.gangPair n := by
  unfold State.gangPair; simp only [h]

theorem State.countTrip_rng (s : State) (n k : Fin 16) : ((s.countTrip n).chan k).rng = (s.chan k).rng := by
  unfold State.countTrip; rw [State.modChan_chan_ite]; split <;> rfl

/-- A trip of a digital output, in what it makes of the channel: the count, the latch and the stage. -/
theorem State.trip_undiagnosed (s : State) (n : Fin 16) (m : Nat) (hd : isDo (s.chan n).rng.func = true) :
    ((s.trip n m).chan n).undiagnosed = ({ s.chan n with errTrips := satInc (s.chan n).errTrips }.latchedOff 2#16 s.clock).undiagnosed := by
  have hdo : isDo ((s.countTrip n).chan n).rng.func = true := by rw [State.countTrip_rng]; exact hd
  rw [State.trip_eq, State.diagRaise_undiagnosed, State.setCause_chan_do _ _ _ hdo, State.countTrip, State.modChan_chan]
  rfl

theorem State.trip_tripped (s : State) (n : Fin 16) (m : Nat) (hd : isDo (s.chan n).rng.func = true) (hm : m < 32) (hi : m ≠ 14 ∧ m ≠ 26 ∧ m ≠ 28) :
    Tripped (s.trip n m) s n 2#16 m := by
  have hchan := s.trip_undiagnosed n m hd
  have hdo : isDo ((s.countTrip n).chan n).rng.func = true := by rw [State.countTrip_rng]; exact hd
  have hgang : ∀ k, (s.countTrip n).gangPair k = s.gangPair k := State.gangPair_of_rng (State.countTrip_rng s n)
  have hother : ∀ k, k ≠ n → (s.countTrip n).chan k = s.chan k := fun k hk => State.modChan_chan_ne _ _ _ _ hk.symm
  have hraised := State.diagRaise_raised ((s.countTrip n).setCause n 2#16) n m 0#32 hm hi
  have hlatched := State.setCause_chan_do (s.countTrip n) n 2#16 hdo
  have hstill := State.setCause_still (s.countTrip n) n 2#16 (ringOf n)
  obtain ⟨hhost, hunits, hrecd, hwheels, hflt, hrpl, hpair, hcells, -⟩ := s.trip_frame n m
  refine ⟨?_, ?_, fun _ => ⟨?_, ?_⟩, hraised.1, fun hg => ⟨hraised.1, fun hl hlen => ?_⟩, fun k hk => ?_, fun hl => ?_, hhost, hunits, hrecd, hwheels, hflt, hrpl,
    hpair, hcells, fun k hkn hkm => ?_, fun hg => ?_, fun y _ hy => ?_⟩
  · exact (congrArg Chan.latch hchan :)
  · exact (congrArg Chan.causes hchan :)
  · exact (congrArg (fun c : Chan => c.stage.on) hchan :).trans (Stage.off_on _ _)
  · exact (congrArg (fun c : Chan => c.stage.drive) hchan :).trans (Stage.off_drive _ _)
  · have hreports := State.setCause_reports_do (s.countTrip n) n 2#16 hdo (by rw [hgang]; exact hg) (ringOf n)
    have hlive : (((s.countTrip n).setCause n 2#16).chan n).live.getLsbD m = false := by
      rw [hlatched, State.countTrip, State.modChan_chan]; exact hl
    have h := hraised.2 hlive (by rw [hreports]; exact hlen)
    rw [hreports] at h
    refine h.trans (congrArg (fun e => (s.ring (ringOf n)).reports ++ [e]) ?_)
    have hframe := State.setCause_frame (s.countTrip n) n 2#16
    unfold State.diagReport State.tick
    rw [hlatched, hframe.1.2.1, hframe.1.2.2.2.2.1, show (((s.countTrip n).setCause n 2#16).ring (ringOf n)).link = (s.ring (ringOf n)).link from
      (congrArg Ring.link hstill :), show (((s.countTrip n).setCause n 2#16).ring (ringOf n)).ringLost = (s.ring (ringOf n)).ringLost from
      (congrArg Ring.ringLost hstill :), State.countTrip, State.modChan_chan]
    rfl
  · have hkn : k ≠ n := State.gangPair_eq_some hk ▸ mate_ne n
    have h := State.setCause_held_mate (s.countTrip n) n 2#16 k (by rw [hgang]; exact hk)
    have hk' := State.diagRaise_undiagnosed ((s.countTrip n).setCause n 2#16) n m 0#32 k
    rw [hother k hkn] at h
    exact ⟨(congrArg Chan.latch hk' :).trans (congrArg Prod.fst h), (congrArg Chan.causes hk' :).trans (congrArg Prod.snd h)⟩
  · exact State.diagRaise_told _ _ _ _ _ (State.setCause_told _ _ _ hl)
  · rw [State.trip_eq, State.diagRaise_chan_ne _ _ _ _ _ (Ne.symm hkn), State.setCause_chan_ne _ _ _ _ hkn hkm, hother k hkn]
  · have h := State.setCause_mate_unstaged (s.countTrip n) n 2#16 hdo (by rw [hgang]; exact hg)
    rw [hother _ (mate_ne n)] at h
    rw [State.trip_eq, State.diagRaise_chan_ne _ _ _ _ _ (mate_ne n).symm]
    exact (congrArg (fun c : Chan => { c with stage := (s.chan (mate n)).stage }) h :)
  · rw [State.trip_eq, State.diagRaise_ring_ne _ _ _ _ _ hy]
    exact (congrArg Prod.fst (State.setCause_side (s.countTrip n) n 2#16 y hy.symm) :)

/-! ## A stage that changes with its gang (R198) -/

/-- The stage of a channel changes, and its gang partner's follows. -/
def State.setStage (s : State) (n : Fin 16) (g : Stage → Stage) : State := (s.modChan n (fun c => { c with stage := g c.stage })).followGang n

theorem State.setStage_unstaged (s : State) (n : Fin 16) (g : Stage → Stage) (k : Fin 16) :
    ((s.setStage n g).chan k).unstaged = (s.chan k).unstaged := by
  unfold State.setStage
  rw [State.followGang_unstaged, State.modChan_chan_ite]
  split <;> rfl

theorem State.setStage_chan (s : State) (n : Fin 16) (g : Stage → Stage) :
    (s.setStage n g).chan n = { s.chan n with stage := g (s.chan n).stage } := by
  unfold State.setStage
  rw [State.followGang_chan_ne _ _ _ (mate_ne n), State.modChan_chan]

theorem State.setStage_chan_ne (s : State) (n : Fin 16) (g : Stage → Stage) (k : Fin 16) (hn : k ≠ n) (hm : k ≠ mate n) :
    (s.setStage n g).chan k = s.chan k := by
  unfold State.setStage
  rw [State.followGang_chan_ne _ _ _ hm.symm, State.modChan_chan_ne _ _ _ _ hn.symm]

theorem State.setStage_keeps (s : State) (n : Fin 16) (g : Stage → Stage) :
    KeepsHost (s.setStage n g) s ∧ KeepsUnits (s.setStage n g) s ∧ (s.setStage n g).recd = s.recd ∧ (s.setStage n g).wheels = s.wheels
      ∧ (s.setStage n g).flt = s.flt ∧ (s.setStage n g).rpl = s.rpl ∧ (s.setStage n g).pair = s.pair ∧ (s.setStage n g).cells = s.cells
      ∧ (s.setStage n g).rings = s.rings := by
  simp [State.setStage, State.followGang_frame _ _, KeepsHost, KeepsUnits]

theorem State.setStage_stageFrame (s : State) (n : Fin 16) (g : Stage → Stage) :
    (s.setStage n g).rings = s.rings ∧ StageFrame (s.setStage n g) s n ∧ GangFollows (s.setStage n g) s n := by
  obtain ⟨hhost, hunits, hrecd, hwheels, hflt, hrpl, hpair, hcells, hrings⟩ := s.setStage_keeps n g
  have hmate : (s.modChan n (fun c => { c with stage := g c.stage })).chan (mate n) = s.chan (mate n) :=
    State.modChan_chan_ne _ _ _ _ (mate_ne n).symm
  refine ⟨hrings, ⟨hhost, hunits, hrecd, hwheels, hflt, hrpl, hpair, hcells, fun k => s.setStage_chan_ne n g k, fun hf => ?_, ?_,
    fun y _ _ => State.ring_of_rings hrings y⟩, fun hg hf => ?_⟩
  · unfold State.setStage
    rw [State.followGang_chan_func _ _ _ (by rw [hmate]; exact hf), hmate]
  · exact (congrArg (fun c : Chan => { c with stage := (s.chan (mate n)).stage }) (s.setStage_unstaged n g (mate n)) :)
  · unfold State.setStage
    rw [State.followGang_follows _ _ (by rw [State.modChan_chan]; exact hg) (by rw [hmate]; exact hf), hmate,
      State.followGang_chan_ne _ _ _ (mate_ne n)]

/-- A trip after a change of the stage is a trip of the state before it. -/
theorem State.setStage_trip_tripped (s : State) (n : Fin 16) (g : Stage → Stage) (m : Nat) (hd : isDo (s.chan n).rng.func = true) (hm : m < 32)
    (hi : m ≠ 14 ∧ m ≠ 26 ∧ m ≠ 28) : Tripped ((s.setStage n g).trip n m) s n 2#16 m := by
  have hu := s.setStage_unstaged n g
  have hrng : ∀ k, ((s.setStage n g).chan k).rng = (s.chan k).rng := fun k => Chan.unstaged_rng (hu k)
  have hcauses : ∀ k, ((s.setStage n g).chan k).causes = (s.chan k).causes := fun k => (congrArg Chan.causes (hu k) :)
  have hgang : (s.setStage n g).gangPair n = s.gangPair n := State.gangPair_of_rng hrng n
  obtain ⟨hhost, hunits, hrecd, hwheels, hflt, hrpl, hpair, hcells, hrings⟩ := s.setStage_keeps n g
  have hring := State.ring_of_rings hrings
  obtain ⟨tlatch, tcauses, toff, tlive, traised, tgang, ttold, -, -, -, -, -, -, -, -, tother, tmate, tring⟩ :=
    State.trip_tripped (s.setStage n g) n m (by rw [hrng]; exact hd) hm hi
  obtain ⟨fhost, funits, frecd, fwheels, fflt, frpl, fpair, fcells, -⟩ := (s.setStage n g).trip_frame n m
  rw [hgang] at traised tgang tmate
  rw [hring] at ttold
  refine ⟨tlatch, by rw [tcauses, hcauses], fun _ => toff (by rw [hrng]; exact hd), tlive, fun hg => ⟨tlive, fun hl hlen => ?_⟩,
    fun k hk => ⟨(tgang k hk).1, by rw [(tgang k hk).2, hcauses]⟩, ttold, by simp [KeepsHost, fhost, hhost], by simp [KeepsUnits, funits, hunits],
    frecd.trans hrecd, fwheels.trans hwheels, fflt.trans hflt, frpl.trans hrpl, fpair.trans hpair, fcells.trans hcells,
    fun k hn hk => (tother k hn hk).trans (s.setStage_chan_ne n g k hn hk), fun hg => ?_, fun y hy hn => (tring y hy hn).trans (hring y)⟩
  · have h := (traised hg).2 ((congrArg (fun c : Chan => c.live.getLsbD m) (hu n) :).trans hl) (by rw [hring]; exact hlen)
    rw [h, hring]
    unfold State.diagReport State.tick
    rw [hrng, hhost.2.1, hhost.2.2.2.2.1, hring]
  · have h := (congrArg Chan.unstaged (tmate hg)).trans (hu (mate n))
    exact (congrArg (fun c : Chan => { c with stage := (s.chan (mate n)).stage }) h :)

/-! ## The commands -/

section
variable {n : Fin 16} {s : State}

/-- A command on a partner acts on its lead. -/
theorem stage_commands_of_lead (n : Fin 16) (s : State) (b : Bool) :
    exec (.inrushEnd n b) s = exec (.inrushEnd (s.lead n) b) s ∧ exec (.overcurrent n) s = exec (.overcurrent (s.lead n)) s
      ∧ exec (.shortGnd n) s = exec (.shortGnd (s.lead n)) s ∧ exec (.offBlankEnd n) s = exec (.offBlankEnd (s.lead n)) s
      ∧ exec (.shortVf n b) s = exec (.shortVf (s.lead n) b) s := by
  show execInrushEnd n b s = execInrushEnd (s.lead n) b s ∧ execOvercurrent n s = execOvercurrent (s.lead n) s
    ∧ execShortGnd n s = execShortGnd (s.lead n) s ∧ execOffBlankEnd n s = execOffBlankEnd (s.lead n) s
    ∧ execShortVf n b s = execShortVf (s.lead n) b s
  simp only [execInrushEnd, execOvercurrent, execShortGnd, execOffBlankEnd, execShortVf, State.lead_lead, and_self]

theorem inrushEnd_do {limiting : Bool} {u : Nat} (hd : isDo (s.chan n).rng.func = true) (hs : (s.chan n).stage.inrushStart = some u) :
    exec (.inrushEnd n limiting) s = .next (whenDo (decide (u + (s.chan n).rng.inrush * 1000 ≤ s.clock)) (fun s' =>
      if limiting && (s.chan n).stage.on then (s'.setStage n (fun g => { g with inrushStart := none })).trip n 3
      else s'.setStage n (fun g => { g with inrushStart := none })) s) := by
  show execInrushEnd n limiting s = _
  unfold execInrushEnd
  rw [State.lead_of_isDo hd]
  simp only [hs]
  rfl

theorem offBlankEnd_do {u : Nat} (hd : isDo (s.chan n).rng.func = true) (hs : (s.chan n).stage.blankStart = some u) :
    exec (.offBlankEnd n) s = .next (whenDo (decide (u + (s.chan n).rng.offBlank * 1000 ≤ s.clock)) (fun s' =>
      s'.setStage n (fun g => { g with blankStart := none })) s) := by
  show execOffBlankEnd n s = _
  unfold execOffBlankEnd
  rw [State.lead_of_isDo hd]
  simp only [hs]
  rfl

theorem overcurrent_do (hd : isDo (s.chan n).rng.func = true) :
    exec (.overcurrent n) s = .next (whenDo (!(s.chan n).inInrush && ((s.chan n).stage.on || (s.chan n).stage.drive = .pulldown))
      (fun s' => s'.trip n 3) s) := by
  show execOvercurrent n s = _
  unfold execOvercurrent
  simp only [State.lead_of_isDo hd, hd, Bool.true_and]

theorem shortGnd_do (hd : isDo (s.chan n).rng.func = true) :
    exec (.shortGnd n) s = .next (whenDo (s.chan n).stage.on (fun s' => s'.trip n 2) s) := by
  have h12 : (s.chan n).rng.func ≠ 12 := by
    simp only [isDo, Bool.and_eq_true, decide_eq_true_eq] at hd; omega
  show execShortGnd n s = _
  unfold execShortGnd
  simp only [State.lead_of_isDo hd, h12, if_false, hd, Bool.true_and]

theorem shortVf_do {reverse : Bool} (hd : isDo (s.chan n).rng.func = true) :
    exec (.shortVf n reverse) s = .next (whenDo ((s.ring (ringOf n)).logic && (s.chan n).stage.drive ≠ .pulldown) (fun s' =>
      if reverse then s'.trip n 1
      else if (s.chan n).stage.on || (s.chan n).stage.blankStart.isSome then s'
      else if (s.ring (ringOf n)).rrole.may then s'.trip n 1
      else s'.setStage n (fun g => { g with extDriven := true })) s) := by
  show execShortVf n reverse s = _
  unfold execShortVf
  simp only [State.lead_of_isDo hd, hd, Bool.true_and]
  rfl

end

theorem State.trip_errTrips (s : State) (n : Fin 16) (m : Nat) (hd : isDo (s.chan n).rng.func = true) :
    ((s.trip n m).chan n).errTrips = satInc (s.chan n).errTrips := (congrArg Chan.errTrips (s.trip_undiagnosed n m hd) :)

/-- An inrush window that ends in limit trips (R191). -/
theorem inrushEnd_trips {n : Fin 16} {s : State} {u : Nat} (hd : isDo (s.chan n).rng.func = true) (hs : (s.chan n).stage.inrushStart = some u)
    (ht : u + (s.chan n).rng.inrush * 1000 ≤ s.clock) (hon : (s.chan n).stage.on = true) :
    ∃ t, exec (.inrushEnd n true) s = .next t ∧ Tripped t s n 2#16 3 ∧ (t.chan n).stage.inrushStart = none
      ∧ (t.chan n).errTrips = satInc (s.chan n).errTrips := by
  have hchan := s.setStage_chan n (fun g => { g with inrushStart := none })
  have hdo : isDo ((s.setStage n (fun g => { g with inrushStart := none })).chan n).rng.func = true := by rw [hchan]; exact hd
  refine ⟨(s.setStage n (fun g => { g with inrushStart := none })).trip n 3, ?_, State.setStage_trip_tripped s n _ 3 hd (by decide) (by decide), ?_, ?_⟩
  · rw [inrushEnd_do hd hs, whenDo_of (by simpa using ht)]
    simp [hon]
  · refine (congrArg (fun c : Chan => c.stage.inrushStart) (State.trip_undiagnosed _ n 3 hdo) :).trans ?_
    exact Stage.off_inrush _ _ (by rw [hchan])
  · rw [State.trip_errTrips _ _ _ hdo, hchan]

/-- On AI_RATIO a low force pad is a diagnostic and no trip (R211, R242). -/
theorem shortGnd_ratio {n : Fin 16} {s : State} (hf : (s.chan n).rng.func = 12) (hr : s.ringRuns n = true) (hl : (s.chan n).latch = false) :
    ∃ t, exec (.shortGnd n) s = .next t ∧ DiagRaised t s n 2 ∧ (t.chan n).latch = false ∧ (t.chan n).errTrips = (s.chan n).errTrips
      ∧ ChanFrame t s n := by
  have hkeeps := s.diagRaise_undiagnosed n 2 0#32 n
  obtain ⟨hhost, hunits, hrecd, hwheels, hflt, hrpl, hpair, hcells, -⟩ := s.diagRaise_frame n 2 0#32
  refine ⟨s.diagRaise n 2, ?_, State.diagRaise_raised s n 2 0#32 (by decide) (by decide), (congrArg Chan.latch hkeeps :).trans hl,
    (congrArg Chan.errTrips hkeeps :), hhost, hunits, hrecd, hwheels, hflt, hrpl, hpair, hcells,
    fun k hk => State.diagRaise_chan_ne _ _ _ _ _ hk.symm, fun y _ hy => State.diagRaise_ring_ne _ _ _ _ _ hy⟩
  show execShortGnd n s = _
  unfold execShortGnd
  simp [State.lead_of_func (s := s) (n := n) (by rw [hf]; decide), hf, hr, hl]

/-- Settles O34: each command on a digital output is a trip, a change of the stage with its gang, or nothing. -/
theorem outputsTrip : Obligations.OutputsTrip := by
  unfold Obligations.OutputsTrip
  intro n s
  have htrip : ∀ m, isDo (s.chan n).rng.func = true → m < 4 → Tripped (s.trip n m) s n 2#16 m ∧
      ((s.trip n m).chan n).errTrips = satInc (s.chan n).errTrips :=
    fun m hd hm => ⟨State.trip_tripped s n m hd (by omega) (by omega), State.trip_errTrips s n m hd⟩
  refine ⟨fun u hd hs ht hon => inrushEnd_trips hd hs ht hon, fun u hd hs ht => ⟨_, ?_,
      s.setStage_chan n (fun g => { g with inrushStart := none }), s.setStage_stageFrame n _⟩,
    fun limiting u hd hs ht => ?_, fun hd hs hon => ⟨_, ?_, htrip 3 hd (by decide)⟩, fun hd hs => ?_, fun hd hon => ⟨_, ?_, htrip 2 hd (by decide)⟩,
    fun hf hr hl => shortGnd_ratio hf hr hl, fun u hd hs ht => ⟨_, ?_, s.setStage_chan n (fun g => { g with blankStart := none }),
      s.setStage_stageFrame n _⟩, fun u hd hs ht => ?_,
    fun hd hl hp => ⟨_, ?_, htrip 1 hd (by decide)⟩, fun hd hl hp hon hb hm => ⟨_, ?_, htrip 1 hd (by decide)⟩,
    fun hd hl hp hon hb hm => ⟨_, ?_, s.setStage_chan n (fun g => { g with extDriven := true }), s.setStage_stageFrame n _⟩, fun hd h => ?_, stage_commands_of_lead n s⟩
  · rw [inrushEnd_do hd hs, whenDo_of (by simpa using ht), Bool.false_and, if_neg (by simp)]
  · rw [inrushEnd_do hd hs, whenDo_of_not (by simpa using ht)]
  · rw [overcurrent_do hd, whenDo_of (by simpa [Chan.inInrush, hs] using hon)]
  · rw [overcurrent_do hd, whenDo_of_not (by simp [Chan.inInrush, hs])]
  · rw [shortGnd_do hd, whenDo_of hon]
  · rw [offBlankEnd_do hd hs, whenDo_of (by simpa using ht)]
  · rw [offBlankEnd_do hd hs, whenDo_of_not (by simpa using ht)]
  · rw [shortVf_do hd, whenDo_of (by simp [hl, hp]), if_pos rfl]
  · rw [shortVf_do hd, whenDo_of (by simp [hl, hp])]
    simp [hon, hb, hm]
  · rw [shortVf_do hd, whenDo_of (by simp [hl, hp])]
    simp only [hon, hb, hm, Bool.false_eq_true, if_false, Bool.or_self, Option.isSome_none]
  · have hidle : ((s.chan n).stage.on || (s.chan n).stage.blankStart.isSome) = true := by simpa [Option.isSome_iff_ne_none] using h
    rw [shortVf_do hd, hidle]
    unfold whenDo
    simp

end Sys2Proof.Machine
end

section
/-! PROOFS. Conversion results that the link loses (R18, R272). -/

namespace Sys2Proof.Machine

/-- Without a running chain a conversion that is found missing leaves the host die as it was (R272). -/
theorem State.arrive_missing_of_off (s : State) (x : RingId) (i : Fin 64) (n : Fin 16) (fl : Nat) (hoff : (s.chain n).en = false) :
    s.arrive x i n none fl = s := by
  simp [State.arrive, hoff]

/-- The state of the links and converters after a result whose frame fails on a link that is up (R18). -/
def State.resultLost (s : State) (x : RingId) (i : Fin 64) : State :=
  ((s.modAdc x (fun a => a.used i)).linkDiscard x).modAdc x (fun a => a.markOvr (a.posOf i))

theorem State.resultLost_filt (s : State) (x : RingId) (i : Fin 64) : (s.resultLost x i).filt = s.filt := by
  obtain ⟨-, ⟨-, -, -, -, hfilt, -⟩, -⟩ := State.linkDiscard_frame (s.modAdc x (fun a => a.used i)) x
  exact hfilt

/-- A lost result leaves the Ring's link with the discards of the last second and this one (R341). -/
theorem State.resultLost_discards (s : State) (x : RingId) (i : Fin 64) :
    ((s.resultLost x i).ring x).discards = (s.ring x).discards.filter (fun t => decide (s.clock < t + 1000000)) ++ [s.clock] := by
  unfold State.resultLost
  rw [State.modAdc_ring]
  exact (congrArg Ring.discards (State.linkDiscard_core (s.modAdc x (fun a => a.used i)) x) :)

/-- A result of a channel without a chain, lost on a link that is up: its Ring judges it, and nothing reaches a value (R18, R272). -/
theorem conversionResult_lost {x : RingId} {i : Fin 64} {n : Fin 16} {code : BitVec 12} {full : Bool} {s : State}
    (hconv : (s.ring x).converts = true) (hplace : ((s.adc x).place[i.1]).isSome = true) (hseq : s.sequences x = true)
    (hlink : (s.ring x).link = true) (hlost : (s.ring x).ringLost = false) (hbeat : (s.ring x).ringBeat = false)
    (hwait : s.entryWaits n = false) (hkind : entKind (s.adc x).entries[i.1] = 0) (hch : entCh (s.adc x).entries[i.1] = n.1)
    (hai : isAi (s.chan n).func = true) (hlatch : (s.chan n).latch = false) (hstop : (s.ring x).rstop = false) (hoff : (s.chain n).en = false) :
    exec (.conversionResult x i code true full) s = .next ((s.resultLost x i).classify n (scaleCode (s.chan n).rng code.toNat)) := by
  have hn : toIdx 16 (entCh (s.adc x).entries[i.1]) = n := by rw [hch]; exact Fin.ofNat_val_eq_self n
  have hchain : (((s.resultLost x i).classify n (scaleCode (s.chan n).rng code.toNat)).chain n).en = false := by
    obtain ⟨-, ⟨-, -, -, -, hfilt, -⟩, -⟩ := State.classify_frame (s.resultLost x i) n (scaleCode (s.chan n).rng code.toNat)
    rw [State.chain, hfilt, State.resultLost_filt]; exact hoff
  show execConversionResult x i code true full s = _
  simp [execConversionResult, whenDo, hn, hconv, hplace, hseq, hlink, hlost, hbeat, hwait, hkind, hai, hlatch, hstop]
  exact State.arrive_missing_of_off _ _ _ _ _ hchain

/-! ## A discard that is more than 1 s old -/

/-- Ring A with its link up, whose last discarded frame is that of clock 0. -/
def oldDiscardRing : Ring :=
  { Ring.reset with logic := true, vfOk := true, configured := true, link := true, ringLost := false, discards := [0] }

/-- Entry 63 of Ring A, placed as at reset, converts CH0. -/
def oldDiscardAdc : Adc := { Adc.reset with entries := Adc.reset.entries.set 63 0x00010000#32 }

/-- CH0 is an AI_V input, with its latch clear. -/
def oldDiscardChan : Chan := { Chan.reset with hostFunc := 9#4, rng := { ChanCfg.reset with mode := 9#32 } }

/-- A running block at 1 s whose Ring A discarded a frame at clock 0. -/
def oldDiscard : State :=
  ((({ State.reset with phase := .run, clock := 1000000 }.modRing .a (fun _ => oldDiscardRing)).modAdc .a (fun _ => oldDiscardAdc)).modChan 0
    (fun _ => oldDiscardChan))

theorem oldDiscard_ring : oldDiscard.ring .a = oldDiscardRing := by simp [oldDiscard]
theorem oldDiscard_adc : oldDiscard.adc .a = oldDiscardAdc := by simp [oldDiscard]
theorem oldDiscard_chan : oldDiscard.chan 0 = oldDiscardChan := by simp [oldDiscard]

/-- What makes the result of entry 63 cross Ring A's link at once. -/
theorem oldDiscard_link : (oldDiscard.ring .a).converts = true ∧ (oldDiscard.ring .a).link = true ∧ (oldDiscard.ring .a).ringLost = false ∧
    (oldDiscard.ring .a).ringBeat = false ∧ (oldDiscard.ring .a).rstop = false ∧ (oldDiscard.ring .a).discards = [0] ∧
    oldDiscard.sequences .a = true ∧ oldDiscard.entryWaits 0 = false := by
  rw [State.sequences, State.entryWaits, show ringOf 0 = .a from rfl, oldDiscard_ring]; decide

/-- Entry 63 is placed and converts CH0; a variable stands for 63 so that no later step computes with the literal. -/
theorem oldDiscard_entry (i : Fin 64) (hi : i = 63) : ((oldDiscard.adc .a).place[i.1]).isSome = true ∧
    entKind (oldDiscard.adc .a).entries[i.1] = 0 ∧ entCh (oldDiscard.adc .a).entries[i.1] = (0 : Fin 16).1 := by
  subst hi; rw [oldDiscard_adc]; decide

theorem oldDiscard_input : (oldDiscard.chan 0).latch = false ∧ (oldDiscard.chan 0).func = 9 ∧ (oldDiscard.chan 0).rng.func = 9 ∧
    (oldDiscard.chain 0).en = false ∧ bit oldDiscard.rpl.cfg 0 = false := by
  rw [oldDiscard_chan]; exact ⟨rfl, rfl, rfl, rfl, rfl⟩

/-- The lost result leaves one discard: that of clock 0 is 1 s old. -/
theorem oldDiscard_lost (i : Fin 64) (hi : i = 63) : ∃ t, exec (.conversionResult .a i 0#12 true false) oldDiscard = .next t ∧
    (t.ring .a).discards = [1000000] := by
  obtain ⟨hconv, hlink, hup, hbeat, hstop, hdisc, hseq, hwait⟩ := oldDiscard_link
  obtain ⟨hplace, hkind, hch⟩ := oldDiscard_entry i hi
  obtain ⟨hlatch, hfunc, -, hoff, -⟩ := oldDiscard_input
  refine ⟨_, conversionResult_lost hconv hplace hseq hlink hup hbeat hwait hkind hch (by rw [hfunc]; rfl) hlatch hstop hoff, ?_⟩
  obtain ⟨-, -, -, -, -, hrings, -⟩ := State.classify_frame (oldDiscard.resultLost .a i) 0 (scaleCode (oldDiscard.chan 0).rng (0#12).toNat)
  rw [State.ring_of_rings hrings, State.resultLost_discards, hdisc]; rfl

/-- Refutes O46: the clause on results that fail on the link puts the new discard behind all that were kept; but the host die keeps those
of the last second alone (R341), so the clause fails where the last discard is 1 s old. -/
theorem not_conversionsReachTheValues : ¬ Obligations.ConversionsReachTheValues := by
  unfold Obligations.ConversionsReachTheValues
  intro h
  obtain ⟨-, hlost, -⟩ := h oldDiscard
  obtain ⟨i, hi⟩ : ∃ i : Fin 64, i = 63 := ⟨_, rfl⟩
  obtain ⟨hconv, hlink, hup, hbeat, hstop, hdisc, hseq, hwait⟩ := oldDiscard_link
  obtain ⟨hplace, hkind, hch⟩ := oldDiscard_entry i hi
  obtain ⟨hlatch, hfunc, hrng, hoff, hcap⟩ := oldDiscard_input
  obtain ⟨t, hsays, -, -, hkept, -⟩ := hlost .a i 0 0#12 false hconv hplace hseq hlink hup hbeat hkind hch hlatch hfunc hrng hstop hwait
    hcap hoff (by rw [hdisc]; decide)
  obtain ⟨u, hdoes, hleft⟩ := oldDiscard_lost i hi
  obtain rfl := Host.Outcome.next.inj (hdoes.symm.trans hsays)
  rw [hleft, hdisc] at hkept
  exact absurd (congrArg List.length hkept) (by simp)

end Sys2Proof.Machine
end

section
/-! PROOFS. The supplies of the host die: its start, TMODE and RESET_N, and the loss and return of VIO (R41, R45, R47, R48, R50). -/

namespace Sys2Proof.Machine

/-! ## The start of the host die (R41, R47, R50) -/

theorem powerUpStart_off {s : State} (hp : s.phase = .off) (tmode : Bool) : exec (.powerUpStart tmode) s = .next
    (if s.time.resetLow then { s with phase := .resetHeld } else if tmode then { s with phase := .tmode } else s.beginStart false) :=
  congrArg Host.Outcome.next (whenDo_of (by simp [hp]) _ s)

theorem powerUpStart_on {s : State} (hp : s.phase ≠ .off) (tmode : Bool) : exec (.powerUpStart tmode) s = .next s :=
  congrArg Host.Outcome.next (whenDo_of_not (by simp [hp]) _ s)

/-- The level of RESET_N is high, and nothing else has changed. -/
def State.resetRisen (s : State) : State := { s with time := { s.time with resetLow := false } }

theorem resetNRelease_rises {s : State} (hv : s.vio = true) (hr : s.time.resetLow = true) (tmode vhPor : Bool) :
    exec (.resetNRelease tmode vhPor) s = .next (if s.phase = .resetHeld then s.resetRisen.leaveReset tmode vhPor else s.resetRisen) :=
  congrArg Host.Outcome.next (whenDo_of (by simp [hv, hr]) _ s)

/-- Settles O10, by the phase of the host die and the levels that it finds. -/
theorem supplyStartsTheHostDie : Obligations.SupplyStartsTheHostDie := by
  unfold Obligations.SupplyStartsTheHostDie
  intro s
  refine ⟨fun hp hr => ?_, fun hp hr => ?_, fun tmode hp hr => ?_, fun tmode hp => powerUpStart_on hp tmode, fun hv hr hp => ?_,
    fun hv hr hp => ?_, fun tmode hv hr hp => ?_, fun tmode vhPor hv hr hp => ?_⟩
  · rw [powerUpStart_off hp, hr]; rfl
  · rw [powerUpStart_off hp, hr]; rfl
  · rw [powerUpStart_off hp, hr]; rfl
  · rw [resetNRelease_rises hv hr, if_pos hp]; rfl
  · rw [resetNRelease_rises hv hr, if_pos hp]; rfl
  · rw [resetNRelease_rises hv hr, if_pos hp]; rfl
  · rw [resetNRelease_rises hv hr, if_neg hp]; rfl

/-! ## Steps 2 to 4 of a start (R47, R48, R126, R383, R384) -/

/-- What step 2 of a start has read and counted, before its record and the sources that hold (R47, R48). -/
def State.startRead (s : State) : State :=
  ({ s with phase := .checked, recd := s.recd.start s.clock, time := { s.time with vhLow := false } } : State).modBg
    (fun b => { b with scrubFrom := s.clock, refreshFrom := ({ s with recd := s.recd.start s.clock } : State).opt })

theorem hostStartVhOk_starts {s : State} (hp : s.phase = .starting) : exec .hostStartVhOk s = .next
    ((s.startRead.report (recCode 3 0x10 1) .internal (if s.recd.completion then 0 else 8)
      (word (b2n s.time.resetStart + 2 * b2n s.recd.completion)) 0#32).startSources) :=
  congrArg Host.Outcome.next (whenDo_of (by simp [hp]) _ s)

theorem stageFirst_core (i : Nat) (r : Recorder) : (stageFirst i r).core = r.core := by
  unfold stageFirst; split <;> rfl

/-- The sources that hold at a start change nothing of the recorder but what an arriving event can. -/
theorem State.startSources_recCore (s : State) : s.startSources.recd.core = s.recd.core := by
  have h := recCore_offReports
  have hplace : ∀ (u : State) (i : Nat), ({ u with recd := stageFirst i u.recd } : State).recd.core = u.recd.core :=
    fun u i => stageFirst_core i u.recd
  unfold State.startSources State.judgeWear
  dsimp only
  refine Eq.trans (h.ite _ _ _ _ rfl (h.raiseLive _ _ _)) ((h.follow _ _ _).trans (Eq.trans (h.ite _ _ _ _ (h.raiseLive _ _ _) rfl) ?_))
  refine h.ite _ _ _ _ ?_ rfl
  exact h.ite _ _ _ _ ((hplace _ _).trans (h.raiseLive _ _ _)) (h.raiseLive _ _ _)

theorem hostStartVhOk_counts {s : State} (hp : s.phase = .starting) : ∃ t, exec .hostStartVhOk s = .next t ∧ t.phase = .checked
    ∧ t.time.vhLow = false ∧ t.recd.pwrcyc = satInc s.recd.pwrcyc ∧ t.recd.pfComplete = s.recd.completion
    ∧ t.recd.estimated = !s.recd.completion ∧ t.vio = s.vio ∧ t.tickets = s.tickets ∧ t.ports = s.ports ∧ t.svc = s.svc ∧ t.img = s.img
    ∧ t.fab = s.fab ∧ t.adcs = s.adcs ∧ t.filt = s.filt ∧ t.chks = s.chks ∧ t.pwr = s.pwr := by
  refine ⟨_, hostStartVhOk_starts hp, ?_⟩
  generalize hu : s.startRead.report _ _ _ _ _ = u
  have hcore : u.startSources.recd.core = (s.recd.start s.clock).core := by
    rw [State.startSources_recCore, ← hu]; exact State.report_recCore _ _ _ _ _ _
  refine ⟨?_, ?_, (congrArg Recorder.pwrcyc hcore :), (congrArg Recorder.pfComplete hcore :), (congrArg Recorder.estimated hcore :), ?_⟩
  all_goals
    rw [← hu]
    simp [State.startSources_frame _, State.report_frame _ _ _ _ _ _, State.startRead]

/-- The host die runs, its heartbeats begin, and its Ringmaster starts: all of steps 3 and 4 of a start but the loader (R47). -/
def State.startRun (s : State) : State :=
  ({ s with phase := .run, time := { s.time with beatAt := s.clock } } : State).modPair (fun p => p.start s.clock)

theorem hostPortsAnswer_runs {s : State} (hp : s.phase = .checked) : exec .hostPortsAnswer s = .next (s.startRun.loaderStart true) :=
  congrArg Host.Outcome.next (whenDo_of (by simp [hp]) _ s)

/-- The slots take the states of a start (R126). -/
def State.slotsAtStart (s : State) (cut : Bool) : State :=
  (s.setSlot false (s.slotAtStart false (cut && !s.img.target))).setSlot true (s.slotAtStart true (cut && s.img.target))

theorem State.loaderStart_of_record {s : State} {a : Bool} (h : s.img.recorded = some a) (cut : Bool) : s.loaderStart cut =
    (s.slotsAtStart cut).borrowCu3.modImg (fun i => { i with starting := true, load := .verifying, target := a, active := a, origin := .loader }) := by
  unfold State.loaderStart; rw [h]; rfl

theorem State.loaderStart_of_none {s : State} (h : s.img.recorded = none) (cut : Bool) :
    s.loaderStart cut = ((s.slotsAtStart cut).modImg (fun i => { i with starting := true })).noSlot 0x1F := by
  unfold State.loaderStart; rw [h]; rfl

theorem State.slotsAtStart_eq (s : State) (cut : Bool) : s.slotsAtStart cut = { s with img := (s.slotsAtStart cut).img } := rfl

/-- No image is there: NO_IMAGE is live, and the recorder has changed only by what an arriving event can. -/
theorem State.noSlot_noImage (s : State) (code : Nat) : (s.noSlot code).img.noImage = true ∧ (s.noSlot code).img.load = .idle
    ∧ (s.noSlot code).img.running = none ∧ ((s.noSlot code).slot (hostSlot 18)).real.getLsbD 0 = true
    ∧ (s.noSlot code).recd.core = s.recd.core := by
  have himg : (s.noSlot code).img = { s.returnCu3.img with
      load := .idle, ldCode := BitVec.ofNat 8 code, starting := false, noImage := true, running := none, shadow := none
      claims := [], actPending := false } := by
    unfold State.noSlot; simp [State.raiseLive_frame _ _ _]
  refine ⟨by rw [himg], by rw [himg], by rw [himg], State.raiseLive_live _ _ _ (by decide), ?_⟩
  exact (recCore_offReports.raiseLive _ _ _).trans (State.recCore_of_recd (by simp [State.returnCu3_frame _]))

/-- Settles O11: step 2 by what a start reads, and steps 3 and 4 by the record of the active slot. -/
theorem startReadsTheStoreAndAnswersThePorts : Obligations.StartReadsTheStoreAndAnswersThePorts := by
  unfold Obligations.StartReadsTheStoreAndAnswersThePorts
  intro s
  refine ⟨hostStartVhOk_counts, fun a hp ha => ⟨_, hostPortsAnswer_runs hp, ?_⟩, fun hp hn => ⟨_, hostPortsAnswer_runs hp, ?_⟩⟩
  · rw [State.loaderStart_of_record (s := s.startRun) (a := a) ha, State.slotsAtStart_eq]
    simp [State.borrowCu3_frame _, State.startRun]
  · obtain ⟨himg, hload, hrun, hlive, hrec⟩ :=
      ((s.startRun.slotsAtStart true).modImg (fun i => { i with starting := true })).noSlot_noImage 0x1F
    rw [State.loaderStart_of_none (s := s.startRun) hn]
    refine ⟨?_, himg, hload, hrun, hlive, ?_⟩
    · rw [State.slotsAtStart_eq]; simp [State.noSlot_frame _ _, State.startRun]
    · rw [hrec, State.slotsAtStart_eq]; simp [State.noSlot_frame _ _, State.startRun]

/-! ## VIO (R45, R342) -/

/-- The pads are released: VIO is lost, and no button reads pressed (R45). -/
def State.padsReleased (s : State) : State :=
  { s with vio := false, svc := { s.svc with zeroHeld := false, spanHeld := false, zeroAt := none, spanAt := none, blocked := false } }

theorem vioLost_raises {s : State} (hp : s.phase = .run) (hv : s.vio = true) :
    exec .vioLost s = .next (s.padsReleased.raiseLive (hostSlot 28)) := by
  show execVioLost s = _
  simp [execVioLost, State.hostWorks, hp, hv, State.padsReleased]

theorem vioReturn_clears {s : State} (hp : s.phase = .run) (hv : s.vio = false) :
    exec .vioReturn s = .next (({ s with vio := true } : State).clearLive (hostSlot 28)) := by
  show execVioReturn s = _
  simp [execVioReturn, State.hostWorks, hp, hv]

/-- Settles O13: the loss raises VIO_LOST and the return clears it, and both change only what a fault report may. -/
theorem vioLossAndReturn : Obligations.VioLossAndReturn := by
  unfold Obligations.VioLossAndReturn
  intro s
  constructor
  · intro hp hv
    obtain ⟨hhost, hunits, hrest⟩ := s.padsReleased.raiseLive_reports (hostSlot 28) 0#32
    obtain ⟨hpending, hclock, hvio, hothers⟩ := hhost
    obtain ⟨hsvc, hunits⟩ := hunits
    exact ⟨_, vioLost_raises hp hv, hvio, State.raiseLive_live _ _ _ (by decide), hsvc, ⟨hpending, hclock, rfl, hothers⟩, ⟨rfl, hunits⟩, hrest⟩
  · intro hp hv
    obtain ⟨⟨hpending, hclock, hvio, hothers⟩, hrest⟩ := ({ s with vio := true } : State).clearLive_reports (hostSlot 28)
    exact ⟨_, vioReturn_clears hp hv, hvio, State.clearLive_dead _ _ (by decide), ⟨hpending, hclock, rfl, hothers⟩, hrest⟩

end Sys2Proof.Machine
end

section
/-! PROOFS. The supply of a Ring: its start, its loss of VF, its recovery and Ring POR (R52 to R57). -/

namespace Sys2Proof.Machine

/-! ## A Ring without its messages and reports -/

/-- A Ring without the messages and reports that it has under way. -/
def Ring.quiet (r : Ring) : Ring := { r with upq := [], reports := [], dropped := 0 }

theorem Ring.eq_of_quiet {r q : Ring} (h : r.quiet = q.quiet) : r = { q with upq := r.upq, reports := r.reports, dropped := r.dropped } :=
  congrArg (fun k : Ring => { k with upq := r.upq, reports := r.reports, dropped := r.dropped }) h

theorem Ring.still_of_quiet {r q : Ring} (h : r.quiet = q.quiet) : r.still = q.still := (congrArg Ring.still h :)

theorem State.ringReport_quiet (s : State) (x : RingId) (k : Fin 256) (m : Nat) (r : Bool) (d : Word) :
    ((s.ringReport x k m r d).ring x).quiet = (s.ring x).quiet := by
  unfold State.ringReport; rw [State.modRing_ring]; split <;> rfl

/-! ## What restarts and latches leave of a Ring -/

theorem State.tellTaps_still (s : State) (x y : RingId) : ((s.tellTaps x).ring y).still = (s.ring y).still := by
  unfold State.tellTaps; dsimp only; split
  · exact State.sendUp_still _ _ _ _
  · rfl

theorem State.setCauseRing_still (s : State) (x : RingId) (k : BitVec 16) (y : RingId) :
    ((s.setCauseRing x k).ring y).still = (s.ring y).still :=
  (State.tellLatches_still _ _ _).trans (forEach_keeps (fun t : State => (t.ring y).still) _ _ (fun n t => State.latchSet_still t n k y) s)

theorem State.applyGuard_still (s : State) (n : Fin 16) (y : RingId) : ((s.applyGuard n).ring y).still = (s.ring y).still := by
  unfold State.applyGuard; split
  · exact State.setCause_still _ _ _ _
  · rfl

theorem State.tellPlug_still (s : State) (n : Fin 16) (y : RingId) : ((s.tellPlug n).ring y).still = (s.ring y).still := by
  unfold State.tellPlug; split
  · exact State.sendUp_still _ _ _ _
  · rfl

theorem State.dropWaits_ring (s : State) (g : Fin 16) (y : RingId) : (s.dropWaits g).ring y = s.ring y :=
  forEach_keeps (fun t : State => t.ring y) _ _ (fun n t => by rw [State.modChan_ring]) s

theorem State.resetGuard_still (s : State) (n : Fin 16) (y : RingId) : ((s.resetGuard n).ring y).still = (s.ring y).still := by
  unfold State.resetGuard
  refine (State.tellPlug_still _ _ _).trans ?_
  refine (forEach_keeps (fun t : State => (t.ring y).still) _ _ (fun m t => State.applyGuard_still t m y) _).trans ?_
  rw [State.dropWaits_ring, State.diagClearAll_still, State.modChan_ring]

theorem State.resetGuards_still (s : State) (x y : RingId) : ((s.resetGuards x).ring y).still = (s.ring y).still :=
  (forEach_keeps (fun t : State => (t.ring y).still) _ _ (fun m t => State.applyGuard_still t m y) _).trans
    (forEach_keeps (fun t : State => (t.ring y).still) _ _ (fun n t => State.resetGuard_still t n y) s)

theorem State.restartInputs_still (s : State) (ns : List (Fin 16)) (y : RingId) :
    ((forEach ns (fun n t => t.restartInput n) s).ring y).still = (s.ring y).still :=
  forEach_keeps (fun t : State => (t.ring y).still) _ _ (fun n t => State.restartInput_still t n y) s

theorem State.restartInputs_side (s : State) (x y : RingId) (h : x ≠ y) :
    (forEach (ringChs x) (fun n t => t.restartInput n) s).side y = s.side y :=
  forEach_ringChs_side x y h _ (fun n t hn => State.restartInput_side t n y hn) _ (fun n m => (mem_ringChs x n).1 m) s

theorem State.tellTaps_side (s : State) (x y : RingId) (h : x ≠ y) : (s.tellTaps x).side y = s.side y := by
  unfold State.tellTaps; dsimp only; split
  · exact State.sendUp_side _ _ _ _ h
  · rfl

theorem State.refreshRing_reports (s : State) (x : RingId) (k : Nat) (y : RingId) :
    ((s.refreshRing x k).ring y).reports = (s.ring y).reports :=
  forEach_keeps (fun t : State => (t.ring y).reports) _ _ (fun n t => State.refreshStage_reports t n k y) s

/-! ## The Tightrope source goes off (R57, R427) -/

theorem State.sourceOff_pair (s : State) (x : RingId) :
    (s.sourceOff x).pair = { s.pair with sourceOn := s.pair.sourceOn && x = .b } := by
  unfold State.sourceOff
  cases x
  · rw [if_neg (by decide)]; dsimp only; split <;> simp [State.sendUp_frame _ _ _, State.free_frame _]
  · simp

/-- A source that goes off writes the Rings, the one free value for its line, and the source. -/
theorem State.sourceOff_eq (s : State) (x : RingId) : s.sourceOff x = { s with
    rings := (s.sourceOff x).rings, freeCtr := (s.sourceOff x).freeCtr
    pair := { s.pair with sourceOn := s.pair.sourceOn && x = .b } } := by
  rw [← State.sourceOff_pair]
  unfold State.sourceOff; dsimp only; (repeat' split) <;> rfl

/-- A Ring with no Tightrope source: that of Ring A is not qualified (R57, R428). -/
def Ring.unsourced (r : Ring) (x : RingId) : Ring := { r with qual := r.qual && x = .b }

theorem State.sourceOff_quiet (s : State) (x : RingId) : ((s.sourceOff x).ring x).quiet = ((s.ring x).unsourced x).quiet := by
  unfold State.sourceOff
  cases x
  · rw [if_neg (by decide), State.modPair_ring, State.modRing_ring]
    split
    · rw [State.sendUp, State.modRing_ring]; simp [Ring.quiet, Ring.unsourced, State.free, State.ring]
    · simp [Ring.unsourced]
  · simp [Ring.unsourced]

theorem State.sourceOff_reports (s : State) (x : RingId) :
    ((s.sourceOff x).ring x).reports = (s.ring x).reports ∧ ((s.sourceOff x).ring x).dropped = (s.ring x).dropped := by
  unfold State.sourceOff
  cases x
  · rw [if_neg (by decide), State.modPair_ring, State.modRing_ring]
    split
    · rw [State.sendUp, State.modRing_ring]; exact ⟨rfl, rfl⟩
    · exact ⟨rfl, rfl⟩
  · exact ⟨rfl, rfl⟩

/-- The host die is told only of a source that was qualified: else no message goes and no free value is used. -/
theorem State.sourceOff_unqualified (s : State) (x : RingId) (h : x = .b ∨ (s.ring x).qual = false) :
    ((s.sourceOff x).ring x).upq = (s.ring x).upq ∧ (s.sourceOff x).freeCtr = s.freeCtr := by
  unfold State.sourceOff
  cases x
  · have hq : (s.ring .a).qual = false := h.resolve_left (by decide)
    rw [if_neg (by decide), State.modPair_ring, State.modRing_ring]
    simp [hq]
  · exact ⟨rfl, rfl⟩

theorem State.sourceOff_side (s : State) (x y : RingId) (h : x ≠ y) : (s.sourceOff x).side y = s.side y := by
  unfold State.sourceOff
  cases x
  · rw [if_neg (by decide)]
    refine (State.modRing_side _ .a _ y h).trans ?_
    split
    · exact State.sendUp_side _ _ _ _ h
    · rfl
  · rfl

theorem State.ring_of_side {t s : State} {y : RingId} (h : t.side y = s.side y) : t.ring y = s.ring y := congrArg Prod.fst h

theorem State.tellTaps_chan (s : State) (x : RingId) (n : Fin 16) : (s.tellTaps x).chan n = s.chan n := by
  simp [State.chan, State.tellTaps_frame _ _]

theorem State.restartChains_rings (s : State) (x : RingId) : (s.restartChains x).rings = s.rings := by simp [State.restartChains_frame _ _]

theorem State.restartChains_side (s : State) (x y : RingId) : (s.restartChains x).side y = s.side y :=
  State.side_of_frame (by simp [State.restartChains_frame _ _]) (State.restartChains_rings s x) y

theorem State.sourceOff_chan (s : State) (x : RingId) (n : Fin 16) : (s.sourceOff x).chan n = s.chan n := by
  simp [State.chan, State.sourceOff_frame _ _]

/-! ## VF rises: a Ring starts, or recovers (R53, R54, R277, R282) -/

/-- The logic of a Ring runs, with VF above VF_UVLO. -/
def State.ringPowered (s : State) (x : RingId) : State := s.modRing x (fun r => { r with logic := true, vfOk := true })

theorem vfUvloRise_powers {x : RingId} {s : State} (hv : (s.ring x).vfOk = false) : exec (.vfUvloRise x) s = .next
    (if (s.ring x).offered then (s.ringPowered x).recoverRing x else (s.ringPowered x).startRing x (s.ring x).logic) :=
  congrArg Host.Outcome.next (whenDo_of (by simp [hv]) _ s)

/-- What a Ring whose logic ran on through the dip reports at its start (R54, R282). -/
def State.startReports (s : State) (x : RingId) (was : Bool) : State :=
  let failed := (s.adc x).slices.any (·.failed)
  let lost := (List.finRange 4).any (fun p => !(s.adc x).inService p)
  let s1 := whenDo was (fun t => t.ringReport x (ringSlot x 5) 0 false 0#32) s
  let s2 := whenDo (was && failed) (fun t => t.ringReport x (ringSlot x 12) 0 false 0#32) s1
  whenDo (was && lost) (fun t => t.ringReport x (ringSlot x 13) 0 false 0#32) s2

theorem State.startReports_eq (s : State) (x : RingId) (was : Bool) :
    s.startReports x was = { s with rings := (s.startReports x was).rings } := by
  unfold State.startReports; dsimp only
  cases was
  · rfl
  · simp only [Bool.true_and, whenDo]; (repeat' split) <;> rfl

/-- A report that may be made writes nothing of its Ring but messages and reports. -/
theorem State.whenDo_ringReport_quiet (c : Bool) (s : State) (x : RingId) (k : Fin 256) :
    ((whenDo c (fun t => t.ringReport x k 0 false 0#32) s).ring x).quiet = (s.ring x).quiet :=
  whenDo_keeps (fun t : State => (t.ring x).quiet) _ _ _ (State.ringReport_quiet _ _ _ _ _ _)

theorem State.whenDo_ringReport_upq (c : Bool) (s : State) (x : RingId) (k : Fin 256) :
    ((whenDo c (fun t => t.ringReport x k 0 false 0#32) s).ring x).upq = (s.ring x).upq :=
  whenDo_keeps (fun t : State => (t.ring x).upq) _ _ _ (by unfold State.ringReport; rw [State.modRing_ring]; split <;> rfl)

theorem State.whenDo_ringReport_side (c : Bool) (s : State) (x : RingId) (k : Fin 256) (y : RingId) (h : x ≠ y) :
    (whenDo c (fun t => t.ringReport x k 0 false 0#32) s).side y = s.side y :=
  whenDo_keeps (fun t : State => t.side y) _ _ _ (State.ringReport_side _ _ _ _ _ _ _ h)

theorem State.startReports_quiet (s : State) (x : RingId) (was : Bool) : ((s.startReports x was).ring x).quiet = (s.ring x).quiet := by
  unfold State.startReports; dsimp only
  rw [State.whenDo_ringReport_quiet, State.whenDo_ringReport_quiet, State.whenDo_ringReport_quiet]

theorem State.startReports_upq (s : State) (x : RingId) (was : Bool) : ((s.startReports x was).ring x).upq = (s.ring x).upq := by
  unfold State.startReports; dsimp only
  rw [State.whenDo_ringReport_upq, State.whenDo_ringReport_upq, State.whenDo_ringReport_upq]

theorem State.startReports_side (s : State) (x : RingId) (was : Bool) (y : RingId) (h : x ≠ y) : (s.startReports x was).side y = s.side y := by
  unfold State.startReports; dsimp only
  rw [State.whenDo_ringReport_side _ _ _ _ _ h, State.whenDo_ringReport_side _ _ _ _ _ h, State.whenDo_ringReport_side _ _ _ _ _ h]

/-- The logic of a Ring that starts, before its ADC: reports, link time-out and source (R53, R57, R103). -/
def State.startLogic (s : State) (x : RingId) (was : Bool) : State :=
  ((s.startReports x was).modRing x (fun r => { r with configured := false, linkTimeout := 1000 })).sourceOff x

theorem State.startRing_eq (s : State) (x : RingId) (was : Bool) : s.startRing x was = (s.startLogic x was).adcStart x := rfl

theorem State.startLogic_eq (s : State) (x : RingId) (was : Bool) : s.startLogic x was = { s with
    rings := (s.startLogic x was).rings, freeCtr := (s.startLogic x was).freeCtr
    pair := { s.pair with sourceOn := s.pair.sourceOn && x = .b } } := by
  obtain ⟨rs, hrs⟩ : ∃ rs, s.startReports x was = { s with rings := rs } := ⟨_, s.startReports_eq x was⟩
  unfold State.startLogic
  rw [hrs]
  exact State.sourceOff_eq _ x

/-- A Ring whose start has begun. -/
def Ring.started (r : Ring) (x : RingId) : Ring := { r.unsourced x with configured := false, linkTimeout := 1000 }

theorem State.startLogic_quiet (s : State) (x : RingId) (was : Bool) :
    ((s.startLogic x was).ring x).quiet = ((s.ring x).started x).quiet := by
  unfold State.startLogic
  rw [State.sourceOff_quiet, State.modRing_ring]
  exact (congrArg (fun r : Ring => r.started x) (s.startReports_quiet x was) :)

theorem State.startLogic_unqualified (s : State) (x : RingId) (was : Bool) (h : x = .b ∨ (s.ring x).qual = false) :
    ((s.startLogic x was).ring x).upq = (s.ring x).upq ∧ (s.startLogic x was).freeCtr = s.freeCtr := by
  have hqual : ((s.startReports x was).ring x).qual = (s.ring x).qual := (congrArg Ring.qual (s.startReports_quiet x was) :)
  obtain ⟨hupq, hfree⟩ := State.sourceOff_unqualified
    ((s.startReports x was).modRing x (fun r => { r with configured := false, linkTimeout := 1000 })) x
    (by rw [State.modRing_ring]; exact h.imp_right (hqual.trans ·))
  rw [State.modRing_ring] at hupq
  refine ⟨hupq.trans (s.startReports_upq x was), hfree.trans ?_⟩
  rw [State.modRing_freeCtr, State.startReports_eq]

theorem State.startLogic_reports (s : State) (x : RingId) :
    ((s.startLogic x false).ring x).reports = (s.ring x).reports ∧ ((s.startLogic x false).ring x).dropped = (s.ring x).dropped := by
  have h := State.sourceOff_reports ((s.startReports x false).modRing x (fun r => { r with configured := false, linkTimeout := 1000 })) x
  rw [State.modRing_ring] at h
  exact h

theorem State.startLogic_side (s : State) (x : RingId) (was : Bool) (y : RingId) (h : x ≠ y) : (s.startLogic x was).side y = s.side y := by
  unfold State.startLogic
  rw [State.sourceOff_side _ _ _ h, State.modRing_side _ _ _ _ h, State.startReports_side _ _ _ _ h]

/-- An ADC that starts has a reference that settles, no failed slice and no event (R277, R282). -/
theorem State.adcStart_starts (s : State) (x : RingId) : ((s.adcStart x).adc x).settled = false
    ∧ (refSel (s.adc x).refcfg ≠ 1 → ((s.adcStart x).adc x).settleAt = some (s.clock + 2000))
    ∧ (∀ p : Fin 4, (((s.adcStart x).adc x).slices[p.1]).failed = false) ∧ ((s.adcStart x).adc x).events = 0#16 := by
  unfold State.adcStart
  rw [State.modAdc_adc]
  exact ⟨rfl, fun h => by simp [h], fun p => by simp, rfl⟩

theorem vfUvloRise_starts {x : RingId} {s : State} (hv : (s.ring x).vfOk = false) (ho : (s.ring x).offered = false) :
    ∃ t, exec (.vfUvloRise x) s = .next t
        ∧ t = { s with rings := t.rings, adcs := t.adcs, freeCtr := t.freeCtr
                       pair := { s.pair with sourceOn := s.pair.sourceOn && x = .b } }
        ∧ t.ring x = { s.ring x with logic := true, vfOk := true, configured := false, linkTimeout := 1000
                                     qual := (s.ring x).qual && x = .b, upq := (t.ring x).upq
                                     reports := (t.ring x).reports, dropped := (t.ring x).dropped }
        ∧ (x = .b ∨ (s.ring x).qual = false → (t.ring x).upq = (s.ring x).upq ∧ t.freeCtr = s.freeCtr)
        ∧ ((s.ring x).logic = false → (t.ring x).reports = (s.ring x).reports ∧ (t.ring x).dropped = (s.ring x).dropped)
        ∧ (∀ y ∈ [RingId.a, RingId.b], y ≠ x → t.ring y = s.ring y ∧ t.adc y = s.adc y) ∧ (t.adc x).settled = false
        ∧ (refSel (s.adc x).refcfg ≠ 1 → (t.adc x).settleAt = some (s.clock + 2000))
        ∧ (∀ p : Fin 4, ((t.adc x).slices[p.1]).failed = false) ∧ (t.adc x).events = 0#16 := by
  have hexec := vfUvloRise_powers (x := x) hv
  rw [ho, if_neg (by decide), State.startRing_eq] at hexec
  generalize hwas : (s.ring x).logic = was at hexec
  have hring : (s.ringPowered x).ring x = { s.ring x with logic := true, vfOk := true } := State.modRing_ring _ _ _
  have heq := (s.ringPowered x).startLogic_eq x was
  have hquiet := (s.ringPowered x).startLogic_quiet x was
  have hupq := (s.ringPowered x).startLogic_unqualified x was
  have hreports := (s.ringPowered x).startLogic_reports x
  have hside := (s.ringPowered x).startLogic_side x was
  rw [hring] at hquiet hupq hreports
  have hstart := ((s.ringPowered x).startLogic x was).adcStart_starts x
  have hadcs : ((s.ringPowered x).startLogic x was).adcs = s.adcs := by rw [heq]; rfl
  have hclock : ((s.ringPowered x).startLogic x was).clock = s.clock := by rw [heq]; rfl
  have hadc : ∀ y, ((s.ringPowered x).startLogic x was).adc y = s.adc y := fun y => by simp only [State.adc, hadcs]
  rw [hadc, hclock] at hstart
  refine ⟨_, hexec, ?_, Ring.eq_of_quiet hquiet, hupq, fun h => ?_, fun y _ hy => ⟨?_, ?_⟩, hstart⟩
  · exact (congrArg (fun u : State => { u with adcs := (((s.ringPowered x).startLogic x was).adcStart x).adcs }) heq :)
  · subst hwas; rw [h]; exact hreports
  · exact (State.ring_of_side (hside y hy.symm)).trans (State.modRing_ring_ne _ _ _ _ hy.symm)
  · rw [← hadc]; exact State.modAdc_adc_ne _ _ _ _ hy.symm

/-- A Ring that has offered its link keeps, through a recovery, all but its rails, its messages and its modem (R54). -/
theorem State.recoverRing_still (s : State) (x : RingId) : ((s.recoverRing x).ring x).still = ((s.ring x).keepRails 0#3).still := by
  unfold State.recoverRing
  dsimp only
  rw [State.tellTaps_still, State.refreshRing_still, State.ringReport_still, State.ring_of_rings (State.restartChains_rings _ x),
    State.resetGuards_still, State.restartInputs_still]
  rw [State.adcPower, State.modAdc_ring, State.modRing_ring]

theorem State.recoverRing_side (s : State) (x y : RingId) (h : x ≠ y) : (s.recoverRing x).side y = s.side y := by
  unfold State.recoverRing
  dsimp only
  rw [State.tellTaps_side _ _ _ h, State.refreshRing_side _ _ _ _ h, State.ringReport_side _ _ _ _ _ _ _ h, State.restartChains_side,
    State.resetGuards_side _ _ _ h, State.restartInputs_side _ _ _ h]
  exact State.modRing_side _ _ _ _ h

theorem State.recoverRing_adcs (s : State) (x : RingId) : (s.recoverRing x).adcs = (s.adcPower x).adcs := by
  unfold State.recoverRing
  simp [State.tellTaps_frame _ _, State.refreshRing_frame _ _ _, State.ringReport_frame _ _ _ _ _ _, State.restartChains_frame _ _,
    State.resetGuards_frame _ _, State.restartInput_frame _ _, State.adcPower, State.modAdc]

theorem vfUvloRise_recovers {x : RingId} {s : State} (hv : (s.ring x).vfOk = false) (ho : (s.ring x).offered = true) :
    ∃ t, exec (.vfUvloRise x) s = .next t ∧ (t.ring x).vfOk = true ∧ (t.ring x).logic = true ∧ (t.ring x).rails = 0#3
      ∧ (t.adc x).settled = false ∧ KeepsHost t s ∧ t.recd = s.recd ∧ t.wheels = s.wheels ∧ t.pair = s.pair ∧ t.cells = s.cells
      ∧ (∀ n, ringOf n ≠ x → t.chan n = s.chan n) := by
  have hexec := vfUvloRise_powers (x := x) hv
  rw [ho, if_pos rfl] at hexec
  have hring := (s.ringPowered x).recoverRing_still x
  have hadcs := (s.ringPowered x).recoverRing_adcs x
  rw [State.ringPowered, State.modRing_ring] at hring
  refine ⟨_, hexec, (congrArg Ring.vfOk hring :), (congrArg Ring.logic hring :), ?_, ?_, ?_, ?_, ?_, ?_, ?_, fun n hn => ?_⟩
  · exact (congrArg Ring.rails hring :).trans BitVec.and_zero
  · rw [State.adc, hadcs]; exact congrArg Adc.settled (State.modAdc_adc (s.ringPowered x) x (fun a => a.unsettle s.clock))
  · simp [State.recoverRing_frame _ _, State.ringPowered, KeepsHost]
  · simp [State.recoverRing_frame _ _, State.ringPowered]
  · simp [State.recoverRing_frame _ _, State.ringPowered]
  · simp [State.recoverRing_frame _ _, State.ringPowered]
  · simp [State.recoverRing_frame _ _, State.ringPowered]
  · exact State.chan_of_side (((s.ringPowered x).recoverRing_side x _ hn.symm).trans (State.modRing_side _ _ _ _ hn.symm))

theorem ringStartDone_offers {x : RingId} {s : State} (hl : (s.ring x).logic = true) (hv : (s.ring x).vfOk = true)
    (ho : (s.ring x).offered = false) : exec (.ringStartDone x) s = .next (s.modRing x (fun r => { r with offered := true })) :=
  congrArg Host.Outcome.next (whenDo_of (by simp [hl, hv, ho]) _ s)

/-! ## VF falls below VF_UVLO (R53 to R55) -/

/-- A Ring without VF: its rails are off, and it offers its link only where the link is up at both ends. -/
def Ring.unsupplied (r : Ring) : Ring := { r.keepRails 0#3 with vfOk := false, offered := r.offered && r.link && !r.ringLost }

/-- The Ring is without VF, every latch of its channels has the cause UVLO, and its inputs have started anew. -/
def State.uvloLatched (s : State) (x : RingId) : State :=
  forEach (ringChs x) (fun n t => t.restartInput n) ((s.modRing x Ring.unsupplied).setCauseRing x 32#16)

/-- What follows in the Ring: the report, the source, the stages and the taps. -/
def State.uvloFallen (s : State) (x : RingId) : State :=
  ((((s.uvloLatched x).ringReport x (ringSlot x 5) 0 true 0#32).sourceOff x).refreshRing x 3).tellTaps x

theorem vfUvloFall_falls {x : RingId} {s : State} (hl : (s.ring x).logic = true) (hv : (s.ring x).vfOk = true) :
    exec (.vfUvloFall x) s = .next (s.uvloFallen x) :=
  congrArg Host.Outcome.next (whenDo_of (by simp [hl, hv]) _ s)

theorem State.uvloLatched_still (s : State) (x : RingId) : ((s.uvloLatched x).ring x).still = ((s.ring x).unsupplied).still := by
  unfold State.uvloLatched
  rw [State.restartInputs_still, State.setCauseRing_still, State.modRing_ring]

theorem State.uvloFallen_still (s : State) (x : RingId) : ((s.uvloFallen x).ring x).still = ((s.ring x).unsupplied.unsourced x).still := by
  unfold State.uvloFallen
  rw [State.tellTaps_still, State.refreshRing_still, Ring.still_of_quiet (State.sourceOff_quiet _ x)]
  exact (congrArg (fun r : Ring => r.unsourced x)
    ((State.ringReport_still _ _ _ _ _ _ _).trans (s.uvloLatched_still x)) :)

theorem State.uvloFallen_side (s : State) (x y : RingId) (h : x ≠ y) : (s.uvloFallen x).side y = s.side y := by
  unfold State.uvloFallen State.uvloLatched
  rw [State.tellTaps_side _ _ _ h, State.refreshRing_side _ _ _ _ h, State.sourceOff_side _ _ _ h, State.ringReport_side _ _ _ _ _ _ _ h,
    State.restartInputs_side _ _ _ h, State.setCauseRing_side _ _ _ _ h, State.modRing_side _ _ _ _ h]

theorem State.uvloFallen_heldBy (s : State) (x : RingId) (n : Fin 16) (hn : ringOf n = x) : ((s.uvloFallen x).chan n).heldBy 32#16 := by
  have hset := State.setCauseRing_sets (s.modRing x Ring.unsupplied) x 32#16 n hn
  have hkept : ((s.uvloFallen x).chan n).held = (((s.modRing x Ring.unsupplied).setCauseRing x 32#16).chan n).held := by
    unfold State.uvloFallen State.uvloLatched
    rw [State.tellTaps_chan, State.refreshRing_held, State.sourceOff_chan, State.ringReport_chan]
    exact forEach_keeps (fun t : State => (t.chan n).held) _ _ (fun i t => State.restartInput_held t i n) _
  exact (Chan.heldBy_of_held hkept _).2 hset

theorem State.uvloFallen_pair (s : State) (x : RingId) :
    (s.uvloFallen x).pair = { s.pair with sourceOn := s.pair.sourceOn && x = .b } := by
  unfold State.uvloFallen State.uvloLatched
  simp [State.tellTaps_frame _ _, State.refreshRing_frame _ _ _, State.sourceOff_pair, State.ringReport_frame _ _ _ _ _ _,
    State.restartInput_frame _ _, State.setCauseRing_frame _ _ _]

theorem State.uvloFallen_frame (s : State) (x : RingId) : KeepsHost (s.uvloFallen x) s
    ∧ KeepsUnits { s.uvloFallen x with freeCtr := s.freeCtr } s ∧ (s.uvloFallen x).recd = s.recd ∧ (s.uvloFallen x).wheels = s.wheels
    ∧ (s.uvloFallen x).cells = s.cells := by
  unfold State.uvloFallen State.uvloLatched
  simp [State.tellTaps_frame _ _, State.refreshRing_frame _ _ _, State.sourceOff_frame _ _, State.ringReport_frame _ _ _ _ _ _,
    State.restartInput_frame _ _, State.setCauseRing_frame _ _ _, KeepsHost, KeepsUnits]

theorem State.uvloFallen_freeCtr (s : State) (x : RingId) (h : x = .b ∨ (s.ring x).qual = false) : (s.uvloFallen x).freeCtr = s.freeCtr := by
  have hqual : (((s.uvloLatched x).ringReport x (ringSlot x 5) 0 true 0#32).ring x).qual = (s.ring x).qual :=
    (congrArg Ring.qual ((State.ringReport_still _ _ _ _ _ _ _).trans (s.uvloLatched_still x)) :)
  have hoff := (State.sourceOff_unqualified _ x (h.imp_right (hqual.trans ·))).2
  unfold State.uvloFallen State.uvloLatched at *
  simp [State.tellTaps_frame _ _, State.refreshRing_frame _ _ _, hoff, State.ringReport_frame _ _ _ _ _ _,
    State.restartInput_frame _ _, State.setCauseRing_frame _ _ _]

theorem vfUvloFall_latches {x : RingId} {s : State} (hl : (s.ring x).logic = true) (hv : (s.ring x).vfOk = true) :
    ∃ t, exec (.vfUvloFall x) s = .next t ∧ (t.ring x).vfOk = false ∧ (t.ring x).rails = 0#3
      ∧ (t.ring x).offered = ((s.ring x).offered && (s.ring x).link && !(s.ring x).ringLost)
      ∧ (∀ n, ringOf n = x → (t.chan n).latch = true ∧ (t.chan n).causes.getLsbD 5 = true) ∧ (∀ n, ringOf n ≠ x → t.chan n = s.chan n)
      ∧ KeepsHost t s ∧ KeepsUnits { t with freeCtr := s.freeCtr } s ∧ (x = .b ∨ (s.ring x).qual = false → t.freeCtr = s.freeCtr)
      ∧ t.recd = s.recd ∧ t.wheels = s.wheels ∧ t.pair = { s.pair with sourceOn := s.pair.sourceOn && x = .b } ∧ t.cells = s.cells := by
  have hring := s.uvloFallen_still x
  obtain ⟨hhost, hunits, hrecd, hwheels, hcells⟩ := s.uvloFallen_frame x
  exact ⟨_, vfUvloFall_falls hl hv, (congrArg Ring.vfOk hring :), (congrArg Ring.rails hring :).trans BitVec.and_zero,
    (congrArg Ring.offered hring :), fun n hn => Chan.heldBy_bit (i := 5) (by decide) (s.uvloFallen_heldBy x n hn),
    fun n hn => State.chan_of_side (s.uvloFallen_side x _ hn.symm), hhost, hunits, s.uvloFallen_freeCtr x, hrecd, hwheels,
    s.uvloFallen_pair x, hcells⟩

/-! ## VF falls below Ring POR (R52, R55) -/

/-- A Ring that has passed Ring POR. -/
def Ring.powerLost (r : Ring) : Ring :=
  { r with
    logic := false, linkTimeout := 1000, vfOk := false, offered := false, configured := false, taken := false, passedPor := true, ringLost := true
    restarted := true, reports := [], dropped := 0, upq := [], cmdq := r.cmdq.filter (fun c => match c.1 with
      | .count _ _ | .swcnt _ _ => true
      | _ => false)
    shedStack := [], cleanTicks := 0, rails := 0#3, railHold := [], t3 := false, vfLow := false, overload := false
    tapOverload := false, tempWarn := false, thermal := false, staged := false, beat := none, ringBeat := false
    realigned := false, fsk := r.fsk.lose }

/-- The Ring's logic has stopped, with every judgement of its channels. -/
def State.logicLost (s : State) (x : RingId) : State :=
  forEach (ringChs x) (fun n t => t.modChan n (fun c => c.passPor s.clock)) (s.modRing x Ring.powerLost)

/-- The ADC of a Ring without logic, and a wake that waited for Ring B. -/
def State.adcLost (s : State) (x : RingId) : State :=
  ({ s with pwr := { s.pwr with wakeB := s.pwr.wakeB && decide (x = .a) } } : State).modAdc x (fun a => { a with
    settled := false, settleAt := none, refFault := false, intRefFault := false, refOffAt := none, refInAt := none })

/-- The Ring has passed Ring POR: the host die keeps the status words that it received last (R7, R55). -/
def State.porPassed (s : State) (x : RingId) : State := ((((s.loseStatus x).sourceOff x).logicLost x).adcLost x).refreshRing x 0

theorem ringPor_passes {x : RingId} {s : State} (hl : (s.ring x).logic = true) : exec (.ringPor x) s = .next (s.porPassed x) :=
  congrArg Host.Outcome.next (whenDo_of hl _ s)

theorem State.logicLost_ring (s : State) (x y : RingId) : (s.logicLost x).ring y = (s.modRing x Ring.powerLost).ring y :=
  forEach_keeps (fun t : State => t.ring y) _ _ (fun n t => by rw [State.modChan_ring]) _

theorem State.porPassed_still (s : State) (x : RingId) :
    ((s.porPassed x).ring x).still = (((s.loseStatus x).sourceOff x).ring x).powerLost.still := by
  unfold State.porPassed
  rw [State.refreshRing_still, State.adcLost, State.modAdc_ring]
  exact congrArg Ring.still ((State.logicLost_ring _ x x).trans (State.modRing_ring _ _ _))

theorem State.porPassed_reports (s : State) (x : RingId) : ((s.porPassed x).ring x).reports = [] := by
  unfold State.porPassed
  rw [State.refreshRing_reports, State.adcLost, State.modAdc_ring]
  exact congrArg Ring.reports ((State.logicLost_ring _ x x).trans (State.modRing_ring _ _ _))

/-- What a Ring has judged of a channel: latch and causes, live diagnostics, and the presence loop. -/
def Chan.judged (c : Chan) : Bool × BitVec 16 × BitVec 32 × BitVec 3 := (c.latch, c.causes, c.live, c.plg.state)

theorem Chan.judged_of_unstaged {c d : Chan} (h : c.unstaged = d.unstaged) : c.judged = d.judged := (congrArg Chan.judged h :)

theorem State.refreshTarget_judged (s : State) (i n : Fin 16) : ((s.refreshTarget i).chan n).judged = (s.chan n).judged := by
  unfold State.refreshTarget
  rw [State.modChan_chan_ite]; split
  · unfold Chan.retarget; split <;> rfl
  · rfl

theorem State.refreshRing_judged (s : State) (x : RingId) (k : Nat) (n : Fin 16) : ((s.refreshRing x k).chan n).judged = (s.chan n).judged :=
  forEach_keeps (fun t : State => (t.chan n).judged) _ _ (fun _ _ =>
    (Chan.judged_of_unstaged ((State.followGang_unstaged _ _ _).trans (State.stageFollows_unstaged _ _ _ _))).trans
      (State.refreshTarget_judged _ _ _)) s

/-- A Ring that has passed Ring POR has judged nothing of its channels. -/
theorem State.logicLost_judged (s : State) (x : RingId) (n : Fin 16) (hn : ringOf n = x) :
    ((s.logicLost x).chan n).judged = (false, 0#16, 0#32, 0#3) := by
  refine forEach_holds (fun (a : Fin 16) (t : State) => (t.chan a).judged = (false, 0#16, 0#32, 0#3)) _ (fun a t => ?_) (fun a b t ht => ?_)
    _ n _ (.inl ((mem_ringChs x n).2 hn))
  · rw [State.modChan_chan]; rfl
  · rw [State.modChan_chan_ite]; split
    · rfl
    · exact ht

theorem State.porPassed_judged (s : State) (x : RingId) (n : Fin 16) (hn : ringOf n = x) :
    ((s.porPassed x).chan n).judged = (false, 0#16, 0#32, 0#3) := by
  unfold State.porPassed
  rw [State.refreshRing_judged]
  exact State.logicLost_judged _ x n hn

theorem State.loseStatus_side (s : State) (x y : RingId) (h : x ≠ y) : (s.loseStatus x).side y = s.side y := by
  unfold State.loseStatus State.freezeStatus; split
  · exact State.modRing_side _ _ _ _ h
  · rfl

theorem State.porPassed_side (s : State) (x y : RingId) (h : x ≠ y) : (s.porPassed x).side y = s.side y := by
  have hlost : ∀ u : State, (u.logicLost x).side y = u.side y := fun u =>
    (forEach_ringChs_side x y h _ (fun n t hn => State.modChan_side t n _ y hn) _ (fun n m => (mem_ringChs x n).1 m) _).trans
      (State.modRing_side _ _ _ _ h)
  have hadc : ∀ u : State, (u.adcLost x).side y = u.side y := fun _ => rfl
  unfold State.porPassed
  rw [State.refreshRing_side _ _ _ _ h, hadc, hlost, State.sourceOff_side _ _ _ h, State.loseStatus_side _ _ _ h]

theorem State.porPassed_pair (s : State) (x : RingId) :
    (s.porPassed x).pair = { s.pair with sourceOn := s.pair.sourceOn && x = .b } := by
  unfold State.porPassed State.adcLost State.logicLost
  simp [State.refreshRing_frame _ _ _, State.sourceOff_pair, State.loseStatus_frame _ _]

theorem State.porPassed_frame (s : State) (x : RingId) : KeepsHost (s.porPassed x) s ∧ (s.porPassed x).recd = s.recd
    ∧ (s.porPassed x).wheels = s.wheels ∧ (s.porPassed x).flt = s.flt ∧ (s.porPassed x).cells = s.cells := by
  unfold State.porPassed State.adcLost State.logicLost
  simp [State.refreshRing_frame _ _ _, State.sourceOff_frame _ _, State.loseStatus_frame _ _, KeepsHost]

theorem ringPor_stops {x : RingId} {s : State} (hl : (s.ring x).logic = true) :
    ∃ t, exec (.ringPor x) s = .next t ∧ (t.ring x).logic = false ∧ (t.ring x).vfOk = false ∧ (t.ring x).offered = false
      ∧ (t.ring x).configured = false ∧ (t.ring x).restarted = true ∧ (t.ring x).ringLost = true ∧ (t.ring x).reports = []
      ∧ (∀ n, ringOf n = x → (t.chan n).latch = false ∧ (t.chan n).causes = 0#16 ∧ (t.chan n).live = 0#32 ∧ (t.chan n).plg.state = 0#3)
      ∧ (∀ n, ringOf n ≠ x → t.chan n = s.chan n) ∧ KeepsHost t s ∧ t.recd = s.recd ∧ t.wheels = s.wheels ∧ t.flt = s.flt
      ∧ (x = .b → t.pair = s.pair) ∧ (x = .a → t.pair = { s.pair with sourceOn := false }) ∧ t.cells = s.cells := by
  have hring := s.porPassed_still x
  obtain ⟨hhost, hrecd, hwheels, hflt, hcells⟩ := s.porPassed_frame x
  refine ⟨_, ringPor_passes hl, (congrArg Ring.logic hring :), (congrArg Ring.vfOk hring :), (congrArg Ring.offered hring :),
    (congrArg Ring.configured hring :), (congrArg Ring.restarted hring :), (congrArg Ring.ringLost hring :), s.porPassed_reports x,
    fun n hn => ?_, fun n hn => State.chan_of_side (s.porPassed_side x _ hn.symm), hhost, hrecd, hwheels, hflt, fun hb => ?_, fun ha => ?_, hcells⟩
  · simpa only [Chan.judged, Prod.mk.injEq] using s.porPassed_judged x n hn
  · rw [State.porPassed_pair]; simp [hb]
  · rw [State.porPassed_pair]; simp [ha]

/-- Settles O14, row by row: start, recovery, the end of the start window, the loss of VF, and Ring POR. -/
theorem ringSupplyStartsAndStops : Obligations.RingSupplyStartsAndStops := by
  unfold Obligations.RingSupplyStartsAndStops
  intro x s
  exact ⟨vfUvloRise_starts, vfUvloRise_recovers, ringStartDone_offers, vfUvloFall_latches, ringPor_stops⟩

end Sys2Proof.Machine
end

section
/-! PROOFS. RESET_N ends the session of the loader (R50, R115). -/

namespace Sys2Proof.Machine

/-! ## The loader's work ends -/

/-- At a start a slot is never RECEIVING: a session is no longer open. -/
theorem State.slotAtStart_ne_receiving (s : State) (n cut : Bool) : s.slotAtStart n cut ≠ .receiving := by
  unfold State.slotAtStart
  split
  next h =>
    simp only [Bool.and_eq_true, Bool.or_eq_true, decide_eq_true_eq] at h
    rcases h.2 with h | h <;> simp [h]
  next => split <;> simp

theorem State.setSlot_imgSlot (s : State) (n m : Bool) (st : SlotState) :
    ((s.setSlot n st).imgSlot m).st = if n = m then st else (s.imgSlot m).st := by
  cases n <;> cases m <;> simp [State.setSlot, State.modImgSlot, State.modImg, State.imgSlot, slotIx, tmod]

/-- Where the loader's work has ended, no slot is RECEIVING (R115). -/
theorem State.loaderCut_ne_receiving (s : State) (n : Bool) : (s.loaderCut.imgSlot n).st ≠ .receiving := by
  unfold State.loaderCut
  dsimp only
  rw [State.setSlot_imgSlot, State.setSlot_imgSlot]
  cases n
  · rw [if_neg (by decide), if_pos rfl]; exact State.slotAtStart_ne_receiving _ _ _
  · rw [if_pos rfl]; exact State.slotAtStart_ne_receiving _ _ _

/-- What an accepted RESET_N does to a running host die: the safe-path frames, the end of the session, and the commit (R50). -/
def State.resetTaken (s : State) : State :=
  (({ s with time := { s.time with resetLow := true } } : State).sendAllSafe.sessionAborted.loaderCut.startCommit).stopPair

theorem resetN_takes {s : State} (hv : s.vio = true) (hp : s.phase = .run) :
    exec .resetN s = .next { s.resetTaken with phase := .resetCommit } := by
  show execResetN s = _
  simp [execResetN, hv, hp, State.resetTaken]

theorem State.resetTaken_ne_receiving (s : State) (n : Bool) : (s.resetTaken.imgSlot n).st ≠ .receiving := by
  have himg : ∀ u : State, u.startCommit.stopPair.imgSlot n = u.imgSlot n := fun _ => rfl
  unfold State.resetTaken
  rw [himg]
  exact State.loaderCut_ne_receiving _ n

/-! ## RESET_N during a session -/

/-- A running block whose slot 0 is receiving an image. -/
def midSession : State := ({ State.reset with phase := .run } : State).setSlot false .receiving

theorem midSession_receives : (midSession.imgSlot false).st = .receiving := State.setSlot_imgSlot _ false false _

/-- Refutes O12: the clause on RESET_N keeps every unit, the loader among them; but RESET_N ends a session, and its slot is no longer
RECEIVING (R115). -/
theorem not_powerFailAndReset : ¬ Obligations.PowerFailAndReset := by
  unfold Obligations.PowerFailAndReset
  intro h
  obtain ⟨-, hreset, -⟩ := h midSession
  obtain ⟨t, hsays, -, -, -, -, -, -, -, -, -, hkeeps⟩ := hreset rfl rfl
  obtain rfl := Host.Outcome.next.inj ((resetN_takes (s := midSession) rfl rfl).symm.trans hsays)
  obtain ⟨-, himg, -⟩ := hkeeps
  refine midSession.resetTaken_ne_receiving false (Eq.trans ?_ midSession_receives)
  exact congrArg (fun i : ImgState => i.slots[0].st) himg

end Sys2Proof.Machine
end

section
/-! PROOFS. The reset command of a bring-up, and the frames behind it (R47, R55, R332, R337, R451). -/

namespace Sys2Proof.Machine

/-- The reset command at the head of the queue reaches its Ring where the way down is open (R17, R47). -/
theorem ringResetCommand_receives {x : RingId} {s : State} {k : Nat} (ho : (s.ring x).downOpen = true)
    (hq : (s.ring x).cmdq.head? = some (.reset, k)) : exec (.ringResetCommand x) s = .next (s.ringReceive x) := by
  obtain ⟨q, hq⟩ := List.head?_eq_some_iff.1 hq
  show execRingResetCommand x s = _
  simp [execRingResetCommand, ho, hq]

/-! ## A reset command whose clearing fills a wheel -/

/-- A wheel that takes the faults of Ring A, has no room, and overwrites nothing. -/
def fullFaultWheel : Wheel := { Wheel.reset with sizeLog2 := 4, prod := 0x12400000#32, q := List.replicate 16 (0#64, 0) }

/-- A collector in which WHEEL_LOSS (slot 175) has the reaction ROLE_RELEASE. -/
def releasingCollector : Collector := { Collector.reset with tbl := Collector.reset.tbl.set 175 0x40#8 }

/-- An active unit of a pair that awaits Ring A's reset: SAFE_PATH_CHECK of Ring A is live, and the wheel of its faults is full. -/
def lossyReset : State :=
  ((({ State.reset with phase := .run, pair := { Pair.reset with role := .active }, flt := releasingCollector } : State).modRing .a (fun r =>
    { r with logic := true, vfOk := true, link := true, ringLost := false, cmdq := [(.reset, 0)] })).modSlot (ringSlot .a 19)
    (fun f => { f with real := 1#32 })).modWheel 0 (fun _ => fullFaultWheel)

theorem lossyReset_ring : (lossyReset.ring .a).downOpen = true ∧ (lossyReset.ring .a).cmdq = [(.reset, 0)] := by
  rw [lossyReset, State.modWheel_ring, State.modSlot_ring, State.modRing_ring]; exact ⟨rfl, rfl⟩

/-- The end of SAFE_PATH_CHECK makes an entry that the wheel loses, WHEEL_LOSS gives up the role, and Ring A is told to stop the
source. -/
theorem lossyReset_source : (RingCmd.source false, 0) ∈ ((lossyReset.ringReceive .a).ring .a).cmdq := by decide +kernel

/-- Refutes O15: the clause on the reset command leaves the Ring the frames that waited behind it and no more; but the command ends
SAFE_PATH_CHECK (R341), and what the collector then does may send the Ring further frames: here WHEEL_LOSS (R332) with ROLE_RELEASE. -/
theorem not_linkComesUpAndIsConfigured : ¬ Obligations.LinkComesUpAndIsConfigured := by
  unfold Obligations.LinkComesUpAndIsConfigured
  intro h
  obtain ⟨-, hreset, -⟩ := h .a lossyReset
  obtain ⟨hopen, hqueue⟩ := lossyReset_ring
  have hhead : (lossyReset.ring .a).cmdq.head? = some (.reset, 0) := by rw [hqueue]; rfl
  obtain ⟨t, hsays, -, -, -, hframes, -⟩ := hreset 0 hopen hhead
  obtain rfl := Host.Outcome.next.inj ((ringResetCommand_receives hopen hhead).symm.trans hsays)
  have hsource := lossyReset_source
  rw [hframes, hqueue] at hsource
  exact List.not_mem_nil hsource

end Sys2Proof.Machine
end

section
/-! PROOFS. Host frames that a port hears, and what a row leaves alone beside tickets and ports (R69, R71, R74). -/

namespace Sys2Proof.Machine

/-! ## What changes nothing but tickets and ports -/

theorem ButForPorts.refl (s : State) : ButForPorts s s := rfl

theorem ButForPorts.trans {t u s : State} (h : ButForPorts t u) (g : ButForPorts u s) : ButForPorts t s := by
  unfold ButForPorts at *; rw [g] at h; exact h

theorem ButForPorts.modPort {t s : State} (h : ButForPorts t s) (p : PortId) (f : Port → Port) : ButForPorts (t.modPort p f) s :=
  ButForPorts.trans (u := t) rfl h

/-- The device beside tickets and ports stays. -/
theorem ButForPorts.device {t s : State} (h : ButForPorts t s) :
    t.time = s.time ∧ t.shadows = s.shadows ∧ KeepsUnits t s ∧ t.recd = s.recd ∧ t.wheels = s.wheels ∧ t.flt = s.flt ∧ t.chans = s.chans
      ∧ t.rings = s.rings ∧ t.rpl = s.rpl ∧ t.pair = s.pair ∧ t.cells = s.cells := by
  rw [h]; exact ⟨rfl, rfl, ⟨rfl, rfl, rfl, rfl, rfl, rfl, rfl, rfl, rfl, rfl⟩, rfl, rfl, rfl, rfl, rfl, rfl, rfl, rfl⟩

/-- Every part of `t` but its tickets and ports is that of `s`. -/
abbrev SameDevice (t s : State) : Prop :=
  t.pending = s.pending ∧ t.clock = s.clock ∧ t.vio = s.vio ∧ t.phase = s.phase ∧ t.readyCount = s.readyCount ∧ t.time = s.time
    ∧ t.shadows = s.shadows ∧ KeepsUnits t s ∧ t.recd = s.recd ∧ t.wheels = s.wheels ∧ t.flt = s.flt ∧ t.chans = s.chans
    ∧ t.rings = s.rings ∧ t.rpl = s.rpl ∧ t.pair = s.pair ∧ t.cells = s.cells

theorem ButForPorts.same {t s : State} (h : ButForPorts t s) : SameDevice t s := by
  have hd : t.pending = s.pending ∧ t.clock = s.clock ∧ t.vio = s.vio ∧ t.phase = s.phase ∧ t.readyCount = s.readyCount := by
    rw [h]; exact ⟨rfl, rfl, rfl, rfl, rfl⟩
  obtain ⟨hpending, hclock, hvio, hphase, hready⟩ := hd
  exact ⟨hpending, hclock, hvio, hphase, hready, h.device⟩

theorem RowFrame.of {t s : State} {e : Env}
    (h : t.pending = s.pending ∧ t.clock = s.clock ∧ t.vio = s.vio ∧ t.phase = s.phase ∧ t.readyCount = s.readyCount)
    (ho : ∀ p ∈ [PortId.hp0, PortId.hp1], p ≠ e.port → t.port p = s.port p) : RowFrame t s e := by
  obtain ⟨hpending, hclock, hvio, hphase, hready⟩ := h
  exact ⟨hpending, hclock, hvio, hphase, hready, ho⟩

theorem ButForPorts.rowFrame {t s : State} {e : Env} (h : ButForPorts t s)
    (ho : ∀ p ∈ [PortId.hp0, PortId.hp1], p ≠ e.port → t.port p = s.port p) : RowFrame t s e := by
  obtain ⟨hpending, hclock, hvio, hphase, hready, -⟩ := h.same
  exact RowFrame.of ⟨hpending, hclock, hvio, hphase, hready⟩ ho

/-- The same for a row: with the frame of the row. -/
theorem ButForPorts.deviceFrame {t s : State} {e : Env} (h : ButForPorts t s)
    (ho : ∀ p ∈ [PortId.hp0, PortId.hp1], p ≠ e.port → t.port p = s.port p) :
    t.time = s.time ∧ t.shadows = s.shadows ∧ KeepsUnits t s ∧ t.recd = s.recd ∧ t.wheels = s.wheels ∧ t.flt = s.flt ∧ t.chans = s.chans
      ∧ t.rings = s.rings ∧ t.rpl = s.rpl ∧ t.pair = s.pair ∧ t.cells = s.cells ∧ RowFrame t s e := by
  obtain ⟨h1, h2, h3, h4, h5, h6, h7, h8, h9, h10, h11⟩ := h.device
  exact ⟨h1, h2, h3, h4, h5, h6, h7, h8, h9, h10, h11, h.rowFrame ho⟩

/-- A row acts on a state with the device of `s`, and leaves the device that it makes. -/
theorem RowActs.same {t s : State} {e : Env} {f : State → State} (h : RowActs t s e f) : ∃ u, SameDevice u s ∧ SameDevice t (f u) := by
  obtain ⟨⟨u, hu, ht⟩, -⟩ := h
  exact ⟨u, hu.same, ht.same⟩

/-- A row that acts by nothing. -/
theorem RowActs.butForPorts {t s : State} {e : Env} (h : RowActs t s e id) : ButForPorts t s := by
  obtain ⟨⟨u, hu, ht⟩, -⟩ := h
  exact ButForPorts.trans ht hu

/-! ## A frame that is heard -/

theorem State.portHears_iff {s : State} {e : Env} :
    s.portHears e = true ↔ s.portsAnswer = true ∧ (s.pwr.mode = .cellar && !s.pwr.waking : Bool) = false ∧ e.crcGood = true ∧ e.whole = true
      ∧ e.ticket = 0xFF#8 := by
  simp [State.portHears, and_assoc, or_iff_not_imp_left]

@[simp] theorem State.csFall_tickets (s : State) (p : PortId) (m : Bool) : (s.csFall p m).tickets = s.tickets := rfl

theorem State.csFall_butForPorts (s : State) (p : PortId) (m : Bool) : ButForPorts (s.csFall p m) s := rfl

theorem State.csFall_otherPort (s : State) (p q : PortId) (m : Bool) (h : q ≠ p) : (s.csFall p m).port q = s.port q := by
  rw [State.csFall_eq, State.modPort_port_ne _ _ _ _ (Ne.symm h)]

/-- A whole frame of NOP is noted, and nothing else (R69, R74). -/
theorem State.submit_nop {s : State} {e : Env} (a : Addr) (w : Word) (h : s.portHears e = true) (hl : e.len = 0#8) :
    s.submit ⟨opNop, a, w, none, e⟩ = (s.csFall e.port e.mode3).note e.port 0xFC#8 e.seq := by
  obtain ⟨ha, hm, hc, hw, ht⟩ := State.portHears_iff.1 h
  simp [State.submit, discards, opNop, ha, hm, hc, hw, ht, hl]

/-- A whole frame of RELEASE (R74). -/
theorem State.submit_release {s : State} {e : Env} (a : Addr) (w : Word) (h : s.portHears e = true) (hl : e.len = 0#8) :
    s.submit ⟨opRelease, a, w, none, e⟩ = ((s.csFall e.port e.mode3).releaseTickets e.port).note e.port 0xFC#8 e.seq := by
  obtain ⟨ha, hm, hc, hw, ht⟩ := State.portHears_iff.1 h
  simp [State.submit, discards, opRelease, ha, hm, hc, hw, ht, hl]

end Sys2Proof.Machine
end

section
/-! PROOFS. Frames without a ticket: NOP, RELEASE, FETCH, and the reversion of a port (R69, R71, R73, R74, R82, R91). -/

namespace Sys2Proof.Machine

/-! ## Tickets become free (R74, R80) -/

@[simp] theorem State.freeTicket_ticket (s : State) (k : Fin 64) : (s.freeTicket k).tickets[k.1] = { st := .free, resp := none } := by
  simp [State.freeTicket, State.modTicket]

theorem State.freeTicket_ticket_ne (s : State) (k i : Fin 64) (h : k ≠ i) : (s.freeTicket k).tickets[i.1] = s.tickets[i.1] := by
  simp [State.freeTicket, State.modTicket, tmod_other _ _ _ _ h]

theorem State.freeTicket_butForPorts (s : State) (k : Fin 64) : ButForPorts (s.freeTicket k) s := rfl

theorem Ticket.readyFor_free (m : Master) : ({ st := .free, resp := none } : Ticket).readyFor m = false := rfl

/-- Of the tickets of a list, those that are ready for a master become free. -/
theorem State.freeReady_ticket (m : Master) (is : List (Fin 64)) (i : Fin 64) : ∀ s : State,
    (forEach is (fun j t => if (t.tickets[j.1]).readyFor m then t.freeTicket j else t) s).tickets[i.1]
      = if i ∈ is ∧ (s.tickets[i.1]).readyFor m = true then { st := .free, resp := none } else s.tickets[i.1] := by
  induction is with
  | nil => intro s; simp [forEach]
  | cons j js ih =>
    intro s
    have hstep := ih (if (s.tickets[j.1]).readyFor m then s.freeTicket j else s)
    refine hstep.trans ?_
    by_cases hj : j = i
    · subst hj
      by_cases hr : (s.tickets[j.1]).readyFor m = true
      · simp [hr, Ticket.readyFor_free]
      · simp [hr]
    · have hi : i ∈ j :: js ↔ i ∈ js := by simp [Ne.symm hj]
      have hsame : (if (s.tickets[j.1]).readyFor m then s.freeTicket j else s).tickets[i.1] = s.tickets[i.1] := by
        split
        · exact s.freeTicket_ticket_ne j i hj
        · rfl
      rw [hsame]; simp only [hi]

/-- A ticket after RELEASE of a master: free if it was ready, to be retired if it executes. -/
def Ticket.released (t : Ticket) (m : Master) : Ticket :=
  match t.st with
  | .free => t
  | .exec n _ => if n = m then { t with st := .exec n true } else t
  | .ready n _ _ => if n = m then { st := .free, resp := none } else t

theorem State.releaseTickets_ticket (s : State) (p : PortId) (i : Fin 64) :
    (s.releaseTickets p).tickets[i.1] = (s.tickets[i.1]).released (portMaster p) := by
  have hfree := State.freeReady_ticket (portMaster p) (List.finRange 64) i s
  simp only [State.releaseTickets, Vector.getElem_map, hfree, List.mem_finRange, true_and]
  generalize s.tickets[i.1] = t
  obtain ⟨st, resp⟩ := t
  cases st with
  | free => rfl
  | exec n d => rfl
  | ready n c k =>
    by_cases hn : n = portMaster p
    · simp [Ticket.readyFor, Ticket.released, hn]
    · simp [Ticket.readyFor, Ticket.released, hn]

theorem Ticket.released_of_readyFor {t : Ticket} {m : Master} (h : t.readyFor m = true) : (t.released m).st = .free := by
  obtain ⟨st, resp⟩ := t
  cases st <;> simp_all [Ticket.readyFor, Ticket.released]

theorem Ticket.released_of_execFor {t : Ticket} {m : Master} (h : t.execFor m = true) : (t.released m).dropped = true := by
  obtain ⟨st, resp⟩ := t
  cases st <;> simp_all [Ticket.execFor, Ticket.released, Ticket.dropped]

theorem Ticket.released_of_other {t : Ticket} {m : Master} (h : t.holder ≠ some m) : t.released m = t := by
  obtain ⟨st, resp⟩ := t
  cases st <;> simp_all [Ticket.holder, Ticket.released]

theorem State.releaseTickets_butForPorts (s : State) (p : PortId) : ButForPorts (s.releaseTickets p) s := by
  have hfree : ButForPorts (forEach (List.finRange 64) (fun i t => if (t.tickets[i.1]).readyFor (portMaster p) then t.freeTicket i else t) s) s := by
    unfold forEach
    refine List.foldlRecOn (motive := fun t => ButForPorts t s) _ _ (ButForPorts.refl s) (fun t ht i _ => ?_)
    dsimp only
    split
    · exact ButForPorts.trans (t.freeTicket_butForPorts i) ht
    · exact ht
  unfold State.releaseTickets
  dsimp only
  generalize forEach _ _ s = u at hfree ⊢
  exact ButForPorts.trans rfl hfree


/-! ## FETCH (R73, R82, R90) -/

/-- A FETCH of a heard frame finds its ticket: the response is sent, and its ticket is free where it is clocked out whole. -/
theorem State.fetch_found {s : State} {e : Env} {k : Fin 64} {r : Response} (clocked : Bool)
    (h : s.portHears { e with ticket := 0xFF#8 } = true) (hl : e.len = 0#8) (hk : s.fetchTicket e.port e.ticket = some k)
    (hr : (s.tickets[k.1]).resp = some r) :
    s.fetch e clocked = (if clocked then ((((s.csFall e.port e.mode3).sendFetched e.port r).note e.port 0xFC#8 e.seq).deliver e.port k)
      else ((s.csFall e.port e.mode3).sendFetched e.port r).note e.port 0xFC#8 e.seq) := by
  obtain ⟨ha, hm, (hc : e.crcGood = true), (hw : e.whole = true), -⟩ := State.portHears_iff.1 h
  have hk' : (s.csFall e.port e.mode3).fetchTicket e.port e.ticket = some k := hk
  simp [State.fetch, ha, hm, hc, hw, hl, hk', hr]

/-- A FETCH whose CRC fails is counted and answered BAD_FRAME, whatever its length (R71, R74). -/
theorem State.fetch_badCrc {s : State} {e : Env} (clocked : Bool) (ha : s.portsAnswer = true) (hm : s.pwr.mode ≠ .cellar) (hc : e.crcGood = false) :
    s.fetch e clocked = ((s.csFall e.port e.mode3).sendFetched e.port (fetchAnswer e .badFrame 0#32)).discardFrame e.port := by
  simp [State.fetch, ha, hm, hc]

theorem State.deliver_butForPorts (s : State) (p : PortId) (k : Fin 64) : ButForPorts (s.deliver p k) s := rfl

theorem State.deliver_tickets (s : State) (p : PortId) (k : Fin 64) : (s.deliver p k).tickets = (s.freeTicket k).tickets := rfl

theorem State.freeTicket_port (s : State) (p : PortId) (k : Fin 64) :
    (s.freeTicket k).port p = { s.port p with window := (s.port p).window.map (fun e => if e.ticket = k then { e with held := false } else e) } := by
  simp [State.freeTicket, State.port]

/-- A delivery leaves what the port's last frame left in its status and sent. -/
theorem State.deliver_port (s : State) (p : PortId) (k : Fin 64) :
    ((s.deliver p k).port p).out = (s.port p).out ∧ ((s.deliver p k).port p).lastTicket = (s.port p).lastTicket := by
  unfold State.deliver
  simp only [State.modPort_port]
  split <;> simp [State.freeTicket_port]

/-! ## What a frame leaves of the other port -/

theorem State.note_otherPort (s : State) (p q : PortId) (l : Byte) (c : BitVec 16) (h : q ≠ p) : (s.note p l c).port q = s.port q :=
  State.modPort_port_ne _ _ _ _ (Ne.symm h)

theorem State.sendFetched_otherPort (s : State) (p q : PortId) (r : Response) (h : q ≠ p) : (s.sendFetched p r).port q = s.port q :=
  State.modPort_port_ne _ _ _ _ (Ne.symm h)

theorem State.discardFrame_otherPort (s : State) (p q : PortId) (h : q ≠ p) : (s.discardFrame p).port q = s.port q :=
  State.modPort_port_ne _ _ _ _ (Ne.symm h)

/-! ## The reversion of a port (R69, R91) -/

/-- A port that answers and is not asleep reverts at a CS_N low without a clock. -/
theorem portRevert_reverts (p : PortId) (mode3 : Bool) {s : State} (ha : s.portsAnswer = true) (hm : s.pwr.mode ≠ .cellar) :
    exec (.portRevert p mode3) s = .next ((s.csFall p mode3).modPort p Port.reverted) := by
  show execPortRevert p mode3 s = _
  simp [execPortRevert, whenDo_of ha, hm]

/-! ## The obligation -/

/-- Settles O18, row by row. -/
theorem framesThatTakeNoTicket : Obligations.FramesThatTakeNoTicket := by
  unfold Obligations.FramesThatTakeNoTicket
  intro e s
  refine ⟨?_, ?_, ?_, ?_, ?_, ?_⟩
  · intro a w hh hl
    refine ⟨_, congrArg Host.Outcome.next (State.submit_nop a w hh hl), rfl, ?_, ?_, ?_, ?_, ?_, ?_, ?_⟩
    · simp [State.note]
    · simp [State.note]
    · simp [State.note, State.csFall_port_window]
    · simp [State.note, State.csFall_port_executing]
    · simp [State.note, State.csFall_port_waiting]
    · simp [State.note, State.csFall_port_rev]
    · refine ButForPorts.deviceFrame rfl (fun p _ hp => ?_)
      rw [State.note_otherPort _ _ _ _ _ hp, State.csFall_otherPort _ _ _ _ hp]
  · intro a w hh hl
    have htickets (i : Fin 64) : (((s.csFall e.port e.mode3).releaseTickets e.port).note e.port 0xFC#8 e.seq).tickets[i.1]
        = (s.tickets[i.1]).released (portMaster e.port) := by
      simp only [State.note, State.modPort_tickets, State.releaseTickets_ticket, State.csFall_tickets]
    refine ⟨_, congrArg Host.Outcome.next (State.submit_release a w hh hl), ?_, ?_, ?_, ?_, ?_⟩
    · intro i hi; rw [htickets]; exact Ticket.released_of_readyFor hi
    · intro i hi; rw [htickets]; exact Ticket.released_of_execFor hi
    · intro i hi; rw [htickets]; exact Ticket.released_of_other hi
    · simp [State.note]
    · exact ((ButForPorts.trans (State.releaseTickets_butForPorts _ _) (s.csFall_butForPorts _ _)).modPort _ _).device
  · intro k r a w hh hl hk hr
    obtain ⟨hout, hlast⟩ := State.deliver_port (((s.csFall e.port e.mode3).sendFetched e.port r).note e.port 0xFC#8 e.seq) e.port k
    refine ⟨_, congrArg Host.Outcome.next (State.fetch_found true hh hl hk hr), ?_, ?_, ?_, ?_, ?_⟩
    · rw [if_pos rfl, hout]; simp [State.note, State.sendFetched]
    · rw [if_pos rfl, State.deliver_tickets, State.freeTicket_ticket]
    · intro i hi
      rw [if_pos rfl, State.deliver_tickets, State.freeTicket_ticket_ne _ _ _ (Ne.symm hi)]; rfl
    · rw [if_pos rfl, hlast]; simp [State.note]
    · rw [if_pos rfl]
      exact (ButForPorts.trans (State.deliver_butForPorts _ _ _) (((s.csFall_butForPorts _ _).modPort _ _).modPort _ _)).device
  · intro k r a w hh hl hk hr
    refine ⟨_, congrArg Host.Outcome.next (State.fetch_found false hh hl hk hr), ?_, rfl, ?_⟩
    · simp [State.note, State.sendFetched]
    · refine ButForPorts.deviceFrame rfl (fun p _ hp => ?_)
      rw [if_neg Bool.false_ne_true, State.note_otherPort _ _ _ _ _ hp, State.sendFetched_otherPort _ _ _ _ hp, State.csFall_otherPort _ _ _ _ hp]
  · intro a w clocked ha hm hc
    refine ⟨_, congrArg Host.Outcome.next (State.fetch_badCrc clocked ha hm hc), ?_, ?_, ?_, rfl, ?_⟩
    · simp [State.discardFrame, State.sendFetched, fetchAnswer]
    · simp [State.discardFrame]
    · simp [State.discardFrame, State.sendFetched, State.csFall]
    · refine ButForPorts.rowFrame rfl (fun p _ hp => ?_)
      rw [State.discardFrame_otherPort _ _ _ hp, State.sendFetched_otherPort _ _ _ _ hp, State.csFall_otherPort _ _ _ _ hp]
  · intro p mode3 ha hm
    refine ⟨_, portRevert_reverts p mode3 ha hm, rfl, ?_, ?_, ?_⟩
    · simp [State.csFall, Port.reverted]
    · simp [State.csFall, Port.reverted]
    · intro q _ hq
      rw [State.modPort_port_ne _ _ _ _ (Ne.symm hq), State.csFall_otherPort _ _ _ _ hq]

end Sys2Proof.Machine
end

section
/-! PROOFS. Responses become ready and are retired (R78, R80, R82). -/

namespace Sys2Proof.Machine

/-! ## A ticket becomes ready (R80) -/

theorem State.readyTicket_ticket (s : State) (m : Master) (k : Fin 64) (r : Response) :
    (s.readyTicket m k r).tickets[k.1] = { st := .ready m s.clock s.readyCount, resp := some r } := by
  simp [State.readyTicket, State.modTicket]

theorem State.readyTicket_ticket_ne (s : State) (m : Master) (k i : Fin 64) (r : Response) (h : k ≠ i) :
    (s.readyTicket m k r).tickets[i.1] = s.tickets[i.1] := by
  simp [State.readyTicket, State.modTicket, tmod_other _ _ _ _ h]

theorem State.readyTicket_port (s : State) (m : Master) (k : Fin 64) (r : Response) (p : PortId) :
    (s.readyTicket m k r).port p = s.port p := rfl

/-! ## A request ends (R78) -/

/-- A port whose request has ended with a response, which the window keeps while it holds the request's ticket (R84). -/
def Port.ended (o : Port) (k : Fin 64) (r : Response) : Port :=
  { o with executing := none, window := o.window.map (fun e => if e.held && e.ticket = k then { e with resp := some r } else e) }

/-- A port with a retired response more (R82). -/
def Port.retiring (o : Port) : Port := { o with sticky := o.sticky ||| 0x40#8, retired := satInc o.retired }

theorem State.startNext_noneWaits {s : State} {p : PortId} (h : (s.port p).waiting = []) : s.startNext p = s := by
  unfold State.startNext
  split
  next hw => rw [h] at hw; exact absurd hw (by simp)
  next => rfl

/-- The state after the end of a port's only request: its ticket is ready, or free where RELEASE met it (R74, R80). -/
def State.endRequest (s : State) (p : PortId) (k : Fin 64) (r : Response) : State :=
  if (s.tickets[k.1]).dropped then ((s.modPort p (fun o => o.ended k r)).freeTicket k).modPort p Port.retiring
  else (s.modPort p (fun o => o.ended k r)).readyTicket (portMaster p) k r

theorem State.complete_only {s : State} {p : PortId} {q : Request} {r : Response} (hx : (s.port p).executing = some (q, r))
    (hw : (s.port p).waiting = []) : s.complete p = s.endRequest p q.ticket r := by
  have hnone : ((s.endRequest p q.ticket r).port p).waiting = [] := by
    unfold State.endRequest
    split
    · simp [State.freeTicket_port, Port.retiring, Port.ended, hw]
    · simp [State.readyTicket_port, Port.ended, hw]
  unfold State.complete
  simp only [hx]
  exact State.startNext_noneWaits hnone

theorem responseReady_ends {s : State} {p : PortId} {q : Request} {r : Response} (hp : s.phase = .run) (hf : s.releaseOf p = none)
    (hx : (s.port p).executing = some (q, r)) (hw : (s.port p).waiting = []) :
    exec (.responseReady p) s = .next (s.endRequest p q.ticket r) := by
  have hc : (s.phase = .run && (s.releaseOf p).isNone : Bool) = true := by simp [hp, hf]
  exact congrArg Host.Outcome.next ((whenDo_of hc _ s).trans (State.complete_only hx hw))

theorem responseRetire_retires {s : State} {p : PortId} {k : Fin 64} {since c : Nat} (hp : s.phase = .run)
    (ht : (s.tickets[k.1]).st = .ready (portMaster p) since c) (hold : since + fld (s.port p).cfg 0 10 * 1000 ≤ s.clock) :
    exec (.responseRetire k) s = .next ((s.freeTicket k).modPort p Port.retiring) := by
  show execResponseRetire k s = _
  have hm : (if portMaster p = .hp1 then PortId.hp1 else PortId.hp0) = p := by cases p <;> rfl
  unfold execResponseRetire
  simp only [ht, hm]
  exact congrArg Host.Outcome.next (whenDo_of (by simp [hp, hold]) _ s)

/-! ## The obligation -/

/-- Settles O20: the end of a request, whose ticket is ready or was to be dropped, and the retirement of an old response. -/
theorem responsesComeAndGo : Obligations.ResponsesComeAndGo := by
  unfold Obligations.ResponsesComeAndGo
  intro s
  refine ⟨?_, ?_, ?_⟩
  · intro p q r hp hf hx hw hd
    have he : s.endRequest p q.ticket r = (s.modPort p (fun o => o.ended q.ticket r)).readyTicket (portMaster p) q.ticket r :=
      if_neg (by simp [hd])
    refine ⟨_, (responseReady_ends hp hf hx hw).trans (congrArg Host.Outcome.next he), ?_, ?_, ?_, rfl, ?_, ?_⟩
    · rw [State.readyTicket_ticket]; rfl
    · rw [State.readyTicket_ticket]
    · simp [State.readyTicket_port, Port.ended]
    · intro i hi; rw [State.readyTicket_ticket_ne _ _ _ _ _ (Ne.symm hi)]; rfl
    · simp [State.readyTicket_frame _ _ _ _, KeepsUnits]
  · intro p q r hp hf hx hw hd
    have he : s.endRequest p q.ticket r = ((s.modPort p (fun o => o.ended q.ticket r)).freeTicket q.ticket).modPort p Port.retiring :=
      if_pos hd
    refine ⟨_, (responseReady_ends hp hf hx hw).trans (congrArg Host.Outcome.next he), ?_, ?_, ?_, rfl, ?_, ?_⟩
    · rw [State.modPort_tickets, State.freeTicket_ticket]
    · simp [State.freeTicket_port, Port.retiring, Port.ended]
    · simp [State.freeTicket_port, Port.retiring, Port.ended]
    · intro i hi; rw [State.modPort_tickets, State.freeTicket_ticket_ne _ _ _ (Ne.symm hi)]; rfl
    · simp [State.freeTicket_frame _ _, KeepsUnits]
  · intro p k since c hp ht hold
    refine ⟨_, responseRetire_retires hp ht hold, ?_, ?_, ?_, ?_, ?_⟩
    · rw [State.modPort_tickets, State.freeTicket_ticket]
    · simp [State.freeTicket_port, Port.retiring]
    · simp [State.freeTicket_port, Port.retiring]
    · intro i hi; rw [State.modPort_tickets, State.freeTicket_ticket_ne _ _ _ (Ne.symm hi)]
    · simp [State.freeTicket_frame _ _, KeepsUnits]

end Sys2Proof.Machine
end

section
/-! PROOFS. Writes of registers by a frame that is performed at once, and the host signals (R75, R77, R133, R141, R443). -/

namespace Sys2Proof.Machine

/-! ## Writes that the partner hears of, or not (R443) -/

/-- A write without a journal record is not sent to the partner. -/
theorem State.mirrorWrite_unjournaled {b t : State} (o : Origin) (r : Reg) (w : Word) (h : t.recd.journal.length = b.recd.journal.length) :
    State.mirrorWrite b t o r w = t := by
  simp [State.mirrorWrite, journaled, h]

/-- A write of a register that answers by the register's own write, and of which the partner hears by `State.mirrorWrite`. -/
theorem State.submit_write_sends (s : State) (e : Env) (r : Reg) (w : Word) (obs : Option Int) (v : State) (g : State → State) (rep : Reply)
    (h : s.hostReady e opWrite = true) (hr : r ≠ .flt .release)
    (hact : (s.intake ⟨opWrite, r.addr, w, obs, e⟩).regWrite (portOrigin e.port) r s.tickLo w obs = (v, rep))
    (hsent : (if rep.status = .ok then State.mirrorWrite (s.intake ⟨opWrite, r.addr, w, obs, e⟩) v (portOrigin e.port) r w else v)
      = g (s.intake ⟨opWrite, r.addr, w, obs, e⟩))
    (hports : (g (s.intake ⟨opWrite, r.addr, w, obs, e⟩)).ports = (s.intake ⟨opWrite, r.addr, w, obs, e⟩).ports) :
    (s.submit ⟨opWrite, r.addr, w, obs, e⟩).answers e rep.status rep.info rep.data = true
      ∧ RowActs (s.submit ⟨opWrite, r.addr, w, obs, e⟩) s e g := by
  refine State.submit_acts s ⟨opWrite, r.addr, w, obs, e⟩ g rep h (by simp [opWrite]) (by simp [opWrite]) ?_ hports ?_
  · rintro u rfl
    rw [State.perform_writeReg, hact, hsent]
  · simp [State.waitsRelease, decodeAddr_addr, hr]

/-! ## Host signals (R133, R141) -/

theorem State.fabWrite_hsig (s : State) (o : Origin) (i : Fin 4) (w : Word) :
    s.fabWrite o (hsigReg i) w = s.hsigWrite (fun f =>
      { f with hsig := (f.hsig &&& ~~~ (0xFFFFFFFF#128 <<< (32 * i.1))) ||| (w.zeroExtend 128 <<< (32 * i.1)) }) := by
  fin_cases i <;> rfl

theorem State.fabWrite_hsigset (s : State) (o : Origin) (i : Fin 4) (w : Word) :
    s.fabWrite o (hsigsetReg i) w = s.hsigWrite (fun f => { f with hsig := f.hsig ||| (w.zeroExtend 128 <<< (32 * i.1)) }) := by
  fin_cases i <;> rfl

theorem State.fabWrite_hsigclr (s : State) (o : Origin) (i : Fin 4) (w : Word) :
    s.fabWrite o (hsigclrReg i) w = s.hsigWrite (fun f => { f with hsig := f.hsig &&& ~~~ (w.zeroExtend 128 <<< (32 * i.1)) }) := by
  fin_cases i <;> rfl

theorem State.fabWrite_hsigpls (s : State) (o : Origin) (i : Fin 4) (w : Word) :
    s.fabWrite o (hsigplsReg i) w = s.hsigWrite (fun f => { f with pulses := f.pulses ||| (w.zeroExtend 128 <<< (32 * i.1)) }) := by
  fin_cases i <;> rfl

/-- `t` is `s` with the fabric changed, but for the tickets and the ports. -/
theorem RowActs.fab_only {t s : State} {e : Env} {f : FabState → FabState} (h : RowActs t s e (fun u => u.modFab f)) :
    t.fab = f s.fab ∧ ButForPorts { t with fab := s.fab } s := by
  obtain ⟨⟨u, hu, ht⟩, -⟩ := h
  rw [ht, hu]; exact ⟨rfl, rfl⟩

/-- A write of a host-signal register answers with the next step, changes the fabric by `f`, and nothing else (R75, R141). -/
theorem State.submit_hsig {s : State} {e : Env} {r : FabReg} {w : Word} {f : FabState → FabState} (h : s.hostReady e opWrite = true)
    (hact : ∀ u : State, u.fabWrite (portOrigin e.port) r w = u.hsigWrite f) :
    ∃ t, Host.Outcome.next (s.submit ⟨opWrite, Reg.addr (.fab r), w, none, e⟩) = (Host.Outcome.next t : Host.Outcome State Fault Refusal)
      ∧ t.fab = f s.fab ∧ t.answers e .ok (word (s.fab.stepNo + 1)) [] = true ∧ RowFrame t s e ∧ t.time = s.time ∧ t.shadows = s.shadows
      ∧ t.recd = s.recd ∧ t.wheels = s.wheels ∧ t.flt = s.flt ∧ t.chans = s.chans ∧ t.rings = s.rings ∧ t.svc = s.svc ∧ t.img = s.img
      ∧ t.cells = s.cells ∧ t.adcs = s.adcs ∧ t.filt = s.filt ∧ t.rpl = s.rpl ∧ t.chks = s.chks ∧ t.pair = s.pair ∧ t.bg = s.bg
      ∧ t.pwr = s.pwr ∧ t.freeCtr = s.freeCtr := by
  obtain ⟨hanswer, hacts⟩ := State.submit_write_sends s e (.fab r) w none _ (fun u => u.modFab f) ⟨.ok, word (s.fab.stepNo + 1), []⟩ h (by simp)
    (hact _) (State.mirrorWrite_unjournaled _ _ _ rfl) rfl
  obtain ⟨hfab, hsame⟩ := hacts.fab_only
  obtain ⟨htime, hshadows, ⟨hsvc, himg, -, hadcs, hfilt, hchks, -, hbg, hpwr, hfree⟩, hrecd, hwheels, hflt, hchans, hrings, hrpl, hpair, hcells⟩ :=
    hsame.device
  exact ⟨_, rfl, hfab, hanswer, hsame.rowFrame hacts.2, htime, hshadows, hrecd, hwheels, hflt, hchans, hrings, hsvc, himg, hcells, hadcs, hfilt,
    hrpl, hchks, hpair, hbg, hpwr, hfree⟩

/-- Settles O25, register group by register group. -/
theorem hostSignalsAreWritten : Obligations.HostSignalsAreWritten := by
  unfold Obligations.HostSignalsAreWritten
  intro e s
  refine ⟨?_, ?_, ?_, ?_⟩
  · exact fun i w h => State.submit_hsig h (fun u => u.fabWrite_hsig _ i w)
  · exact fun i w h => State.submit_hsig h (fun u => u.fabWrite_hsigset _ i w)
  · exact fun i w h => State.submit_hsig h (fun u => u.fabWrite_hsigclr _ i w)
  · exact fun i w h => State.submit_hsig h (fun u => u.fabWrite_hsigpls _ i w)

end Sys2Proof.Machine
end

section
/-! PROOFS. Changes with and without room in the journal, and the TIME registers (R77, R87, R93, R370 to R373, R463). -/

namespace Sys2Proof.Machine

/-! ## A change, by the room in the journal (R77, R373) -/

/-- With room for a record more than its own, a change takes effect with its record. -/
theorem State.change_roomy {s : State} (o : Origin) (c : Nat) (p q : Word) (eff : State → State) (h : s.recd.journal.length < 2047) :
    s.change o c p q eff = (eff (s.appendJournal c o p q), ⟨.ok, s.recd.seqNext, []⟩) := by
  have hroom : ¬ 2048 ≤ s.recd.journal.length := by omega
  have hstill : ¬ 2048 ≤ s.recd.journal.length + 1 := by omega
  simp [State.change, State.journal, Recorder.jnlFull, State.appendJournal, hroom, hstill]

/-- The change whose record is the last that fits makes JOURNAL_FULL live before it takes effect. -/
theorem State.change_last {s : State} (o : Origin) (c : Nat) (p q : Word) (eff : State → State) (h : s.recd.journal.length = 2047) :
    s.change o c p q eff = (eff ((s.appendJournal c o p q).raiseLive (hostSlot 12)), ⟨.ok, s.recd.seqNext, []⟩) := by
  simp [State.change, State.journal, Recorder.jnlFull, State.appendJournal, h]

/-- With the journal full a change is refused, and the refusal counted. -/
theorem State.change_full {s : State} (o : Origin) (c : Nat) (p q : Word) (eff : State → State) (h : 2048 ≤ s.recd.journal.length) :
    s.change o c p q eff = (s.refuseFull, ⟨.journalFull, 0#32, []⟩) := by
  simp [State.change, Recorder.jnlFull, h]

/-! ## Time marks (R93, R463) -/

/-- A mark takes the tick, the host's count and the clock. -/
theorem State.takeMark_mark (s : State) (fall w : Word) :
    (s.takeMark fall w).time.markTick = fall ∧ (s.takeMark fall w).time.markHost = w ∧ (s.takeMark fall w).time.markAt = some s.clock
      ∧ (s.takeMark fall w).time.caltag = s.time.caltag ∧ (s.takeMark fall w).time.startClock = s.time.startClock := by
  unfold State.takeMark
  dsimp only
  (repeat' split) <;> exact ⟨rfl, rfl, rfl, rfl, rfl⟩

/-- A mark that comes less than 1 s after the previous one is noted early, and is no reference. -/
theorem State.takeMark_early {s : State} {c : Nat} (fall w : Word) (hm : s.time.markAt = some c) (hc : s.clock < c + 1000000) :
    s.takeMark fall w = { s with time := { s.time with
      markTick := fall, markHost := w, markAt := some s.clock, markEarly := true, refMark := s.time.refMark } } := by
  unfold State.takeMark
  simp only [hm, hc]
  split <;> simp

/-- TIME_MARK is performed: the answer, and the mark. -/
theorem timeMark_marks {s : State} {e : Env} (w : Word) (h : s.hostReady e opWrite = true) :
    ∃ t, exec (.timeMark e w) s = .next t ∧ t.answers e .ok 0#32 [] = true ∧ RowActs t s e (fun u => u.takeMark s.tickLo w) :=
  ⟨_, rfl, State.submit_write_acts s e (.time .mark) w none _ .done h rfl (by simp) (fun _ _ => rfl) (by simp [State.takeMark_frame _ _ _])⟩

/-! ## TIME_CALTAG (R87, R93) -/

@[simp] theorem State.setShadow_shadow (s : State) (m : Master) (a : Addr) (b : Bool) (v : Word) : (s.setShadow m a b v).shadow m a b = some v := by
  simp [State.setShadow, State.shadow]

/-- The low word of TIME_CALTAG that a port's master has staged. -/
def State.stagedCaltag (s : State) (o : Origin) : Word := (s.shadow (originMaster o) (Reg.time .caltagHi).addr true).getD 0#32

/-- TIME_CALTAG takes both words, and TIME_CALAT the operating time. -/
def State.takeCaltag (s : State) (hi lo : Word) : State := { s with time := { s.time with caltag := hi ++ lo, calat := s.opt } }

theorem State.commitCaltag_eq (s : State) (o : Origin) (w : Word) :
    s.commitCaltag o w = s.change o 2 (s.stagedCaltag o) w (fun t => t.takeCaltag w (s.stagedCaltag o)) := rfl

/-- CALTAG_HI is performed, by what its change does. -/
theorem caltagCommit_changes {s : State} {e : Env} {w : Word} {g : State → State} {rep : Reply} (h : s.hostReady e opWrite = true)
    (hact : ∀ u : State, u.recd = s.recd → u.commitCaltag (portOrigin e.port) w = (g u, rep)) :
    ∃ t, exec (.caltagCommit e w) s = .next t ∧ t.answers e rep.status rep.info rep.data = true ∧ RowActs t s e g := by
  refine ⟨_, rfl, State.submit_write_acts s e (.time .caltagHi) w none g rep h rfl (by simp) ?_ ?_⟩
  · rintro u rfl; exact hact _ rfl
  · have hg : (State.commitCaltag _ (portOrigin e.port) w).1 = g _ :=
      congrArg Prod.fst (hact (s.intake ⟨opWrite, Reg.addr (.time .caltagHi), w, none, e⟩) rfl)
    rw [← hg]
    simp [State.commitCaltag_frame _ _ _]

/-- The commit with room in the journal. -/
def State.caltagCommitted (s : State) (o : Origin) (w : Word) : State :=
  (s.appendJournal 2 o (s.stagedCaltag o) w).takeCaltag w (s.stagedCaltag o)

theorem caltagCommit_roomy {s : State} {e : Env} (w : Word) (h : s.hostReady e opWrite = true) (hroom : s.recd.journal.length < 2047) :
    ∃ t, exec (.caltagCommit e w) s = .next t ∧ t.answers e .ok s.recd.seqNext [] = true
      ∧ RowActs t s e (fun u => u.caltagCommitted (portOrigin e.port) w) := by
  refine caltagCommit_changes h (rep := ⟨.ok, s.recd.seqNext, []⟩) (fun u hu => ?_)
  rw [State.commitCaltag_eq, State.change_roomy _ _ _ _ _ (hu ▸ hroom), hu]
  rfl

/-- CALTAG_LO is performed: the answer, and the staged word. -/
theorem caltagStage_stages {s : State} {e : Env} (w : Word) (h : s.hostReady e opWrite = true) :
    ∃ t, exec (.caltagStage e w) s = .next t ∧ t.answers e .ok 0#32 [] = true
      ∧ RowActs t s e (fun u => u.setShadow (originMaster (portOrigin e.port)) (Reg.time .caltagHi).addr true w) :=
  ⟨_, rfl, State.submit_write_acts s e (.time .caltagLo) w none _ .done h rfl (by simp) (fun _ _ => rfl) rfl⟩

/-- Two states with the same shadows and the same staged values. -/
theorem State.shadow_of_shadows {t s : State} (h : t.shadows = s.shadows) (m : Master) (a : Addr) (b : Bool) : t.shadow m a b = s.shadow m a b := by
  simp [State.shadow, h]

theorem State.opt_of_same {t s : State} (h : SameDevice t s) : t.opt = s.opt := by simp [State.opt, State.tick, h]

@[simp] theorem State.appendJournal_opt (s : State) (c : Nat) (o : Origin) (p q : Word) : (s.appendJournal c o p q).opt = s.opt := rfl

theorem State.journalRecord_of_same {t s : State} (h : SameDevice t s) (c : Nat) (o : Origin) (p q : Word) :
    t.journalRecord c o p q = s.journalRecord c o p q := by
  simp [State.journalRecord, State.pairFlag, State.opt_of_same h, h]

/-- Settles O21: the mark, an early mark, the staged word, and the commit. -/
theorem timeRegistersAreWritten : Obligations.TimeRegistersAreWritten := by
  unfold Obligations.TimeRegistersAreWritten
  intro e s
  refine ⟨?_, ?_, ?_, ?_⟩
  · intro w h
    obtain ⟨t, hsays, hanswer, hacts⟩ := timeMark_marks w h
    obtain ⟨u, hu, ht⟩ := hacts.same
    have hrow : RowFrame t s e := RowFrame.of (by simp [ht, hu, State.takeMark_frame _ _ _]) hacts.2
    refine ⟨t, hsays, hanswer, ?_⟩
    simpa [ht, hu, State.takeMark_frame _ _ _, State.takeMark_mark _ _ _, KeepsUnits] using hrow
  · intro w c h hm hc
    obtain ⟨t, hsays, -, hacts⟩ := timeMark_marks w h
    obtain ⟨u, hu, ht⟩ := hacts.same
    refine ⟨t, hsays, ?_⟩
    have hearly := State.takeMark_early (s := u) (c := c) s.tickLo w (by simp [hu, hm]) (by simpa [hu] using hc)
    simp [ht, hearly, hu]
  · intro w h
    obtain ⟨t, hsays, hanswer, hacts⟩ := caltagStage_stages w h
    obtain ⟨u, hu, ht⟩ := hacts.same
    have ⟨_, _, _, _, _, _, hshadows, _⟩ := ht
    have hstaged := (State.shadow_of_shadows hshadows _ _ _).trans (State.setShadow_shadow u _ _ _ _)
    refine ⟨t, hsays, hanswer, hstaged, ?_⟩
    simp [ht, hu, State.setShadow_frame _ _ _ _ _, KeepsUnits]
  · intro w h hroom
    obtain ⟨t, hsays, hanswer, hacts⟩ := caltagCommit_roomy w h hroom
    obtain ⟨u, hu, ht⟩ := hacts.same
    have hrow : RowFrame t s e := RowFrame.of (by simp [ht, hu, State.caltagCommitted, State.takeCaltag, State.appendJournal]) hacts.2
    have hstaged : u.stagedCaltag (portOrigin e.port) = s.stagedCaltag (portOrigin e.port) :=
      congrArg (Option.getD · 0#32) (State.shadow_of_shadows (by simp [hu]) _ _ _)
    have htime : t.time = { s.time with caltag := w ++ s.stagedCaltag (portOrigin e.port), calat := s.opt } := by
      simp [ht, State.caltagCommitted, State.takeCaltag, hstaged, State.opt_of_same hu, hu, State.appendJournal_frame _ _ _ _ _]
    have hrecd : t.recd = (s.appendJournal 2 (portOrigin e.port) (s.stagedCaltag (portOrigin e.port)) w).recd := by
      simp [ht, State.caltagCommitted, State.takeCaltag, State.appendJournal, hstaged, hu, State.journalRecord_of_same hu]
    refine ⟨t, hsays, hanswer, htime, hrecd, ?_, hrow, ?_⟩
    · simp [ht, hu, State.caltagCommitted, State.takeCaltag, State.appendJournal, KeepsUnits]
    · simp [ht, hu, State.caltagCommitted, State.takeCaltag, State.appendJournal]

/-! ## A full journal (R372, R373) -/

theorem caltagCommit_full {s : State} {e : Env} (w : Word) (h : s.hostReady e opWrite = true) (hfull : 2048 ≤ s.recd.journal.length) :
    ∃ t, exec (.caltagCommit e w) s = .next t ∧ t.answers e .journalFull 0#32 [] = true ∧ RowActs t s e State.refuseFull := by
  refine caltagCommit_changes h (rep := ⟨.journalFull, 0#32, []⟩) (fun u hu => ?_)
  rw [State.commitCaltag_eq, State.change_full _ _ _ _ _ (hu ▸ hfull)]

/-- A window in its range passes the check of FLT_WD_CFG (R353). -/
theorem State.writeWdCfg_eq (s : State) (o : Origin) {w : Word} (hlo : 1 ≤ fld w 0 14) (hhi : fld w 0 14 ≤ 10000) :
    s.writeWdCfg o w = s.changeWrite o (.flt .wdCfg) w (fun t => t.modFlt (fun c =>
      { c with wdEn := bit w 31, wdWindow := BitVec.ofNat 14 (fld w 0 14), wdStart := s.clock })) := by
  have hin : outside 1 (fld w 0 14) 10000 = false := by simp [outside, within, hlo, hhi]
  simp [State.writeWdCfg, guarded, firstRefusal, refuseLow, lowest, hin]

theorem fltWdCfgWrite_full {s : State} {e : Env} {w : Word} (h : s.hostReady e opWrite = true) (hfull : 2048 ≤ s.recd.journal.length)
    (hlo : 1 ≤ fld w 0 14) (hhi : fld w 0 14 ≤ 10000) :
    ∃ t, exec (.fltWdCfgWrite e w) s = .next t ∧ t.answers e .journalFull 0#32 [] = true ∧ RowActs t s e State.refuseFull := by
  refine ⟨_, rfl, State.submit_write_acts s e (.flt .wdCfg) w none _ ⟨.journalFull, 0#32, []⟩ h rfl (by simp) ?_ rfl⟩
  rintro u rfl
  exact (State.writeWdCfg_eq _ _ hlo hhi).trans (State.change_full _ _ _ _ _ hfull)

/-- The commit whose record is the last that fits. -/
def State.caltagLast (s : State) (o : Origin) (w : Word) : State :=
  ((s.appendJournal 2 o (s.stagedCaltag o) w).raiseLive (hostSlot 12)).takeCaltag w (s.stagedCaltag o)

theorem caltagCommit_last {s : State} {e : Env} (w : Word) (h : s.hostReady e opWrite = true) (hlast : s.recd.journal.length = 2047) :
    ∃ t, exec (.caltagCommit e w) s = .next t ∧ t.answers e .ok s.recd.seqNext [] = true
      ∧ RowActs t s e (fun u => u.caltagLast (portOrigin e.port) w) := by
  refine caltagCommit_changes h (rep := ⟨.ok, s.recd.seqNext, []⟩) (fun u hu => ?_)
  rw [State.commitCaltag_eq, State.change_last _ _ _ _ _ (hu ▸ hlast), hu]
  rfl

/-- A fault report leaves the operating time. -/
theorem ReportFrame.opt {t s : State} (h : ReportFrame t s) : t.opt = s.opt := by
  obtain ⟨⟨-, hclock, -, -, htime, -⟩, -, hrecd, -⟩ := h
  have hbase : t.recd.optBase = s.recd.optBase := (congrArg Recorder.optBase hrecd :)
  simp [State.opt, State.tick, hclock, htime, hbase]

theorem State.appendJournal_journal (s : State) (c : Nat) (o : Origin) (p q : Word) :
    (s.appendJournal c o p q).recd.journal = s.recd.journal ++ [s.journalRecord c o p q] := rfl

/-- A fault report leaves the journal. -/
theorem ReportFrame.journal {t s : State} (h : ReportFrame t s) : t.recd.journal = s.recd.journal := by
  obtain ⟨-, -, hrecd, -⟩ := h
  exact (congrArg Recorder.journal hrecd :)

theorem RowActs.refusal {t s : State} {e : Env} (h : RowActs t s e State.refuseFull) :
    t.recd = { s.recd with jnlRefused := satInc s.recd.jnlRefused } ∧ KeepsUnits t s ∧ RowFrame t s e ∧ t.time = s.time
      ∧ t.shadows = s.shadows ∧ t.wheels = s.wheels ∧ t.flt = s.flt ∧ t.chans = s.chans ∧ t.rings = s.rings ∧ t.rpl = s.rpl
      ∧ t.pair = s.pair ∧ t.cells = s.cells := by
  obtain ⟨u, hu, ht⟩ := h.same
  have hrow : RowFrame t s e := RowFrame.of (by simp [ht, hu, State.refuseFull]) h.2
  simpa [ht, hu, State.refuseFull, KeepsUnits] using hrow

/-- Settles O22: both refusals by the full journal, and the record that fills it. -/
theorem fullJournalRefusesChanges : Obligations.FullJournalRefusesChanges := by
  unfold Obligations.FullJournalRefusesChanges
  intro e s
  refine ⟨?_, ?_, ?_⟩
  · intro w h hfull
    obtain ⟨t, hsays, hanswer, hacts⟩ := caltagCommit_full w h hfull
    exact ⟨t, hsays, hanswer, hacts.refusal⟩
  · intro w h hfull hlo hhi
    obtain ⟨t, hsays, hanswer, hacts⟩ := fltWdCfgWrite_full h hfull hlo hhi
    exact ⟨t, hsays, hanswer, hacts.refusal⟩
  · intro w h hlast
    obtain ⟨t, hsays, hanswer, hacts⟩ := caltagCommit_last w h hlast
    obtain ⟨u, hu, ht⟩ := hacts.same
    have hraised := State.raiseLive_reports (u.appendJournal 2 (portOrigin e.port) (u.stagedCaltag (portOrigin e.port)) w) (hostSlot 12) 0#32
    refine ⟨t, hsays, hanswer, ?_, ?_, ?_, ?_⟩
    · simp [ht, State.caltagLast, State.takeCaltag, hraised.opt, State.opt_of_same hu]
    · simp [ht, State.caltagLast, State.takeCaltag, hraised.journal, State.appendJournal_journal, hu, hlast]
    · rw [State.slot_of_flt (s := u.caltagLast (portOrigin e.port) w) (by simp [ht])]
      exact State.raiseLive_live _ (hostSlot 12) 0#32 rfl
    · simp [ht, hu, State.caltagLast, State.takeCaltag, State.raiseLive_frame _ _ _, State.appendJournal_frame _ _ _ _ _, KeepsUnits]

end Sys2Proof.Machine
end

section
/-! PROOFS. Requests that are performed at once and those that are refused as frames (R72, R74 to R76, R84, R88, R89, R456). -/

namespace Sys2Proof.Machine

/-! ## A request is performed, whatever it does to its port -/

/-- A frame whose request is performed at once answers with the request's reply, where the request leaves its port in execution. -/
theorem State.submit_performs {s v : State} {f : HostFrame} {rep : Reply} (h : s.hostReady f.env f.op = true) (h0 : f.op ≠ 0#8) (h7 : f.op ≠ 7#8)
    (hperf : (s.intake f).perform f.env.port (s.requestOf f) = (v, rep))
    (hexec : (v.port f.env.port).executing = ((s.intake f).port f.env.port).executing)
    (hw : v.waitsRelease f.env.port (s.requestOf f) = false) :
    s.submit f = v.answer f.env.port (s.requestOf f) rep ∧ (s.submit f).answers f.env rep.status rep.info rep.data = true := by
  have hsub : s.submit f = v.answer f.env.port (s.requestOf f) rep := by rw [State.submit_ready s f h h0 h7, hperf]
  refine ⟨hsub, ?_⟩
  rw [hsub]
  refine State.answer_answers _ f.env (s.requestOf f) rep (mkResponse (s.requestOf f) .done) ?_ rfl hw
  rw [hexec]; simp

theorem State.waitsRelease_otherOp (t : State) (p : PortId) {q : Request} (h : q.op ≠ 0x03#8) : t.waitsRelease p q = false := by
  simp [State.waitsRelease, h]

theorem State.waitsRelease_elsewhere (t : State) (p : PortId) {q : Request} (h : decodeAddr q.addr ≠ .reg (.flt .release)) :
    t.waitsRelease p q = false := by
  simp [State.waitsRelease, h]

/-- What an answer leaves of its port: all but the request in execution. -/
theorem State.answer_port (s : State) (p : PortId) (q : Request) (rep : Reply) :
    ((s.answer p q rep).port p).helloPend = (s.port p).helloPend ∧ ((s.answer p q rep).port p).rev = (s.port p).rev := by
  simp [State.answer]

/-! ## HELLO (R89, R90) -/

/-- What of the revision a frame finds at its port, when its request executes. -/
theorem State.intake_helloPend (s : State) (op : Byte) (a : Addr) (w : Word) (obs : Option Int) (e : Env) :
    ((s.intake ⟨op, a, w, obs, e⟩).port e.port).helloPend = (s.port e.port).helloPend := by
  rw [show (s.intake ⟨op, a, w, obs, e⟩).port e.port = s.intakePort ⟨op, a, w, obs, e⟩ from s.intake_port _]
  simp [State.intakePort, Port.enter, State.csFall]

theorem State.intake_rev (s : State) (op : Byte) (a : Addr) (w : Word) (obs : Option Int) (e : Env) :
    ((s.intake ⟨op, a, w, obs, e⟩).port e.port).rev = (s.port e.port).nextRev := by
  rw [show (s.intake ⟨op, a, w, obs, e⟩).port e.port = s.intakePort ⟨op, a, w, obs, e⟩ from s.intake_port _]
  simp [State.intakePort, Port.enter, State.csFall_port_rev]

/-- The port after a HELLO that found a revision: the revision waits for the delivery of its response (R90). -/
def Port.offer (o : Port) (seq : BitVec 16) (rev : Nat) (quad : Bool) : Port :=
  { o with helloPend := o.helloPend.filter (fun h => h.1 ≠ seq) ++ [(seq, rev, quad)] }

theorem State.hello_found (s : State) (p : PortId) (seq : BitVec 16) {w : Word} (h1 : 1 ≤ min (fld w 4 4) 2) (h2 : fld w 0 4 ≤ min (fld w 4 4) 2) :
    s.hello p seq w = (s.modPort p (fun q => q.offer seq (min (fld w 4 4) 2) (bit w 8 && decide (min (fld w 4 4) 2 = 2))),
      ⟨.ok, 0#32, [word (0x2100 + b2n (bit w 8 && decide (min (fld w 4 4) 2 = 2)) * 16 + min (fld w 4 4) 2), 0x00431624#32]⟩) := by
  have hno : ¬ (min (fld w 4 4) 2 < fld w 0 4 ∨ min (fld w 4 4) 2 < 1) := by omega
  exact if_neg hno

theorem State.hello_refused (s : State) (p : PortId) (seq : BitVec 16) {w : Word} (h : min (fld w 4 4) 2 < fld w 0 4 ∨ min (fld w 4 4) 2 < 1) :
    s.hello p seq w = (s, ⟨.refused, 0#32, [0x2100#32, 0x00431624#32]⟩) := if_pos h

/-! ## Reads leave the request in execution, and the journal (R4, R86) -/

/-- An update of a port that leaves the request in execution. -/
theorem State.modPort_executing (s : State) (x p : PortId) {f : Port → Port} (hf : ∀ o, (f o).executing = o.executing) :
    ((s.modPort x f).port p).executing = (s.port p).executing := by
  by_cases hx : x = p
  · subst hx; rw [State.modPort_port, hf]
  · rw [State.modPort_port_ne _ _ _ _ hx]

theorem State.executing_of_ports {t s : State} (h : t.ports = s.ports) (p : PortId) : (t.port p).executing = (s.port p).executing := by
  simp [State.port, h]

theorem State.portRead_executing (s : State) (x p : PortId) (r : PortReg) :
    ((s.portRead x r).2.port p).executing = (s.port p).executing := by
  cases r with
  | cnt => exact s.modPort_executing x p (fun _ => rfl)
  | dupcnt => exact s.modPort_executing x p (fun _ => rfl)
  | retcnt => exact s.modPort_executing x p (fun _ => rfl)
  | _ => rfl

theorem State.liveRead_executing (s : State) (o : Origin) (r : Reg) (p : PortId) :
    ((s.liveRead o r).2.port p).executing = (s.port p).executing := by
  cases r with
  | port x r => exact s.portRead_executing x p r
  | _ =>
    refine State.executing_of_ports ?_ p
    simp [State.liveRead, State.adcRead_frame _ _ _, State.bgBlockRead_frame _ _, State.chRead_frame _ _ _, State.chkRead_frame _ _ _,
      State.fabRead_frame _ _, State.filtRead_frame _ _, State.fltRead_frame _ _, State.pairRead_frame _ _,
      State.recRead_frame _ _ _, State.ringRead_frame _ _ _, State.rplRead_frame _ _, State.srcRead_frame _ _, State.svcRead_frame _ _,
      State.whlRead_frame _ _ _]

/-- What both branches of a read leave, the read leaves. -/
theorem ReadResult.ite_keeps {α : Type} (P : State → α) {c : Prop} [Decidable c] {a b : ReadResult} {x : α} (ha : P a.2 = x) (hb : P b.2 = x) :
    P (if c then a else b).2 = x := by
  split
  · exact ha
  · exact hb

theorem State.recRead_journal (s : State) (o : Origin) (r : RecReg) : (s.recRead o r).2.recd.journal = s.recd.journal := by
  unfold State.recRead
  (repeat' refine ReadResult.ite_keeps (fun t => t.recd.journal) ?_ ?_) <;> rfl

theorem State.liveRead_journal (s : State) (o : Origin) (r : Reg) : (s.liveRead o r).2.recd.journal = s.recd.journal := by
  cases r with
  | recd r => exact s.recRead_journal o r
  | _ =>
    simp [State.liveRead, State.adcRead_frame _ _ _, State.bgBlockRead_frame _ _, State.chRead_frame _ _ _, State.chkRead_frame _ _ _,
      State.fabRead_frame _ _, State.filtRead_frame _ _, State.fltRead_frame _ _, State.pairRead_frame _ _, State.portRead_frame _ _ _,
      State.ringRead_frame _ _ _, State.rplRead_frame _ _, State.srcRead_frame _ _, State.svcRead_frame _ _, State.whlRead_frame _ _ _]

/-- A part of the state that a live read and a shadow leave, a read leaves. -/
theorem State.regRead_keeps {α : Type} (P : State → α) (s : State) (o : Origin) (r : Reg) (hlive : ∀ q, P (s.liveRead o q).2 = P s)
    (hshadow : ∀ t m a b v, P (State.setShadow t m a b v) = P t) : P (s.regRead o r).2 = P s := by
  unfold State.regRead
  dsimp only
  split
  · exact hlive r
  · split
    · exact (hshadow _ _ _ _ _).trans (hlive r)
    · exact hlive r
  · split
    · rfl
    · exact hlive r

/-! ## Writes leave the request in execution (R4, R77) -/

theorem State.change_executing (s : State) (o : Origin) (c : Nat) (a b : Word) (p : PortId) {eff : State → State}
    (h : ∀ t : State, ((eff t).port p).executing = (t.port p).executing) :
    ((s.change o c a b eff).1.port p).executing = (s.port p).executing := by
  unfold State.change
  split
  · rfl
  · exact (h _).trans (State.executing_of_ports (by simp [State.journal_frame _ _ _ _ _]) p)

theorem State.guarded_executing {s : State} {checks : List (Option Reply)} {act : State × Reply} {p : PortId}
    (h : (act.1.port p).executing = (s.port p).executing) : ((guarded s checks act).1.port p).executing = (s.port p).executing := by
  unfold guarded
  split
  · rfl
  · exact h

/-- The state and the answer of a status clear. -/
theorem State.statusClear_eq (s : State) (o : Origin) (r : Reg) (c : Word) (eff : State → State) :
    s.statusClear o r c eff = (if c = 0#32 then s else (eff s).event 0x11 1 o (word r.addrNat) c, .done) := by
  unfold State.statusClear; split <;> rfl

theorem State.portWrite_executing (s : State) (o : Origin) (x p : PortId) (r : PortReg) (w : Word) :
    ((s.portWrite o x r w).1.port p).executing = (s.port p).executing := by
  cases r with
  | cfg => exact State.guarded_executing (s.change_executing _ _ _ _ _ (fun t => t.modPort_executing x p (fun _ => rfl)))
  | irqEn => exact s.change_executing _ _ _ _ _ (fun t => t.modPort_executing x p (fun _ => rfl))
  | irqCause =>
    unfold State.portWrite
    rw [State.statusClear_eq]
    dsimp only
    split
    · rfl
    · exact s.modPort_executing x p (fun _ => rfl)
  | _ => rfl

theorem State.regWrite_executing (s : State) (o : Origin) (r : Reg) (fall w : Word) (obs : Option Int) (p : PortId) :
    ((s.regWrite o r fall w obs).1.port p).executing = (s.port p).executing := by
  cases r with
  | port x r => exact s.portWrite_executing o x p r w
  | _ =>
    refine State.executing_of_ports ?_ p
    simp [State.regWrite, State.adcWrite_frame _ _ _ _ _, State.bgBlockWrite_frame _ _ _ _, State.chWrite_frame _ _ _ _ _,
      State.chkWrite_frame _ _ _ _, State.fabWrite_frame _ _ _ _, State.filtChWrite_frame _ _ _ _ _, State.filtWrite_frame _ _ _ _,
      State.fltWrite_frame _ _ _ _ _, State.imgRegWrite_frame _ _ _ _ _, State.pairWrite_frame _ _ _ _, State.recWrite_frame _ _ _ _ _,
      State.ringWrite_frame _ _ _ _ _, State.rplWrite_frame _ _ _ _, State.svcWrite_frame _ _ _ _, State.timeWrite_frame _ _ _ _ _,
      State.whlWrite_frame _ _ _ _ _, State.writeChsafe_frame _ _ _ _, State.writeEntry_frame _ _ _ _ _, State.writeReact_frame _ _ _ _]

end Sys2Proof.Machine
end

section
/-! PROOFS. What each request answers (R72, R74 to R76, R88, R89, R456). -/

namespace Sys2Proof.Machine

/-! ## What an answered request leaves, where it acts on its port alone -/

/-- A request that acts on its port alone. -/
theorem State.answered_deviceFrame {s v : State} (f : HostFrame) (rep : Reply) (hv : ButForPorts v (s.intake f))
    (ho : ∀ p, p ≠ f.env.port → v.port p = (s.intake f).port p) : let t := v.answer f.env.port (s.requestOf f) rep
    t.time = s.time ∧ t.shadows = s.shadows ∧ KeepsUnits t s ∧ t.recd = s.recd ∧ t.wheels = s.wheels ∧ t.flt = s.flt ∧ t.chans = s.chans
      ∧ t.rings = s.rings ∧ t.rpl = s.rpl ∧ t.pair = s.pair ∧ t.cells = s.cells ∧ RowFrame t s f.env := by
  refine ButForPorts.deviceFrame ?_ ?_
  · exact (State.answer_butForPorts _ _ _ _).trans (hv.trans (s.intake_butForPorts f))
  · intro p _ hp
    rw [State.answer_otherPort _ _ _ _ _ hp, ho p hp, State.intake_otherPort _ _ _ hp]

/-- A HELLO that finds a revision (R89, R90). -/
theorem hello_offers {s : State} {e : Env} (a : Addr) {w : Word} (h : s.hostReady e opHello = true) (h1 : 1 ≤ min (fld w 4 4) 2)
    (h2 : fld w 0 4 ≤ min (fld w 4 4) 2) :
    s.submit ⟨opHello, a, w, none, e⟩ = ((s.intake ⟨opHello, a, w, none, e⟩).modPort e.port
        (fun q => q.offer e.seq (min (fld w 4 4) 2) (bit w 8 && decide (min (fld w 4 4) 2 = 2)))).answer e.port
        (s.requestOf ⟨opHello, a, w, none, e⟩)
        ⟨.ok, 0#32, [word (0x2100 + b2n (bit w 8 && decide (min (fld w 4 4) 2 = 2)) * 16 + min (fld w 4 4) 2), 0x00431624#32]⟩
      ∧ (s.submit ⟨opHello, a, w, none, e⟩).answers e .ok 0#32
        [word (0x2100 + b2n (bit w 8 && decide (min (fld w 4 4) 2 = 2)) * 16 + min (fld w 4 4) 2), 0x00431624#32] = true :=
  State.submit_performs (f := ⟨opHello, a, w, none, e⟩) h (by decide : opHello ≠ 0#8) (by decide : opHello ≠ 7#8) (State.hello_found _ _ _ h1 h2)
    (by simp [Port.offer]) (State.waitsRelease_otherOp _ _ (by decide : opHello ≠ 3#8))

/-- A HELLO that finds none (R89). -/
theorem hello_refuses {s : State} {e : Env} (a : Addr) {w : Word} (h : s.hostReady e opHello = true)
    (hw : min (fld w 4 4) 2 < fld w 0 4 ∨ min (fld w 4 4) 2 < 1) :
    s.submit ⟨opHello, a, w, none, e⟩ = (s.intake ⟨opHello, a, w, none, e⟩).answer e.port (s.requestOf ⟨opHello, a, w, none, e⟩)
        ⟨.refused, 0#32, [0x2100#32, 0x00431624#32]⟩
      ∧ (s.submit ⟨opHello, a, w, none, e⟩).answers e .refused 0#32 [0x2100#32, 0x00431624#32] = true :=
  State.submit_performs (f := ⟨opHello, a, w, none, e⟩) h (by decide : opHello ≠ 0#8) (by decide : opHello ≠ 7#8) (State.hello_refused _ _ _ hw)
    rfl (State.waitsRelease_otherOp _ _ (by decide : opHello ≠ 3#8))

/-- A READ of a register (R76). -/
theorem read_answers {s : State} {e : Env} (r : Reg) (w : Word) (h : s.hostReady e opRead = true) :
    (s.submit ⟨opRead, r.addr, w, none, e⟩).answers e .ok 0#32 [((s.intake ⟨opRead, r.addr, w, none, e⟩).regRead (portOrigin e.port) r).1] = true := by
  rw [State.submit_readReg s e r w h]
  refine State.answer_answers _ e _ _ (mkResponse (s.requestOf ⟨opRead, r.addr, w, none, e⟩) .done) ?_ rfl
    (State.waitsRelease_otherOp _ _ (by decide : opRead ≠ 3#8))
  rw [State.regRead_keeps (fun t => (t.port e.port).executing) _ _ _ (fun q => State.liveRead_executing _ _ q _) (fun _ _ _ _ _ => rfl)]
  exact congrArg Port.executing (s.intake_port ⟨opRead, r.addr, w, none, e⟩)

/-- What a READ of a register leaves. -/
theorem read_keeps {s : State} {e : Env} (r : Reg) (w : Word) (h : s.hostReady e opRead = true) :
    let t := s.submit ⟨opRead, r.addr, w, none, e⟩
    t.pending = s.pending ∧ t.clock = s.clock ∧ t.vio = s.vio ∧ t.phase = s.phase ∧ t.time = s.time ∧ t.recd.journal = s.recd.journal := by
  dsimp only
  rw [State.submit_readReg s e r w h]
  have hj := State.regRead_keeps (fun t => t.recd.journal) (s.intake ⟨opRead, r.addr, w, none, e⟩) (portOrigin e.port) r
    (fun q => State.liveRead_journal _ _ q) (fun _ _ _ _ _ => rfl)
  simp [State.answer_frame _ _ _ _, State.regRead_frame _ _ _, hj, State.intake_frame _ _]

/-- A READ or a WRITE where nothing stands acts on nothing (R75). -/
theorem nowhere_answers {s : State} {e : Env} {op : Byte} {a : Addr} (w : Word) (h : s.hostReady e op = true) (ha : decodeAddr a = .none)
    (hop : op = opRead ∨ op = opWrite) :
    (s.submit ⟨op, a, w, none, e⟩).answers e .badAddr (a.zeroExtend 32) [] = true ∧ RowActs (s.submit ⟨op, a, w, none, e⟩) s e id := by
  refine State.submit_acts s ⟨op, a, w, none, e⟩ id (.badAddr a) h ?_ ?_ ?_ rfl (State.waitsRelease_elsewhere _ _ (by simp [ha]))
  · obtain rfl | rfl := hop <;> simp [opRead, opWrite]
  · obtain rfl | rfl := hop <;> simp [opRead, opWrite]
  · rintro u -
    obtain rfl | rfl := hop
    · show u.readAt (portOrigin e.port) a = _
      simp [State.readAt, ha]
    · show u.writeAt (portOrigin e.port) a s.tickLo w none = _
      simp [State.writeAt, ha]

/-- A change that the partner may hear of leaves what a write that it may not hear of leaves (R443). -/
theorem State.mirrorWrite_ite (c : Prop) [Decidable c] (b u : State) (o : Origin) (r : Reg) (w : Word) :
    let t := if c then State.mirrorWrite b u o r w else u
    t.pending = u.pending ∧ t.clock = u.clock ∧ t.ports = u.ports := by
  dsimp only
  split
  · simp [State.mirrorWrite_frame _ _ _ _ _]
  · exact ⟨rfl, rfl, rfl⟩

/-- A WRITE of a register but FLT_RELEASE (R77, R443). -/
theorem write_answers {s : State} {e : Env} {r : Reg} (w : Word) (h : s.hostReady e opWrite = true) (hr : r ≠ .flt .release) {u : State}
    {rep : Reply} (hact : (s.intake ⟨opWrite, r.addr, w, none, e⟩).regWrite (portOrigin e.port) r s.tickLo w none = (u, rep)) :
    let f : HostFrame := ⟨opWrite, r.addr, w, none, e⟩
    let v := if rep.status = .ok then State.mirrorWrite (s.intake f) u (portOrigin e.port) r w else u
    s.submit f = v.answer e.port (s.requestOf f) rep ∧ (s.submit f).answers e rep.status rep.info rep.data = true := by
  refine State.submit_performs (f := ⟨opWrite, r.addr, w, none, e⟩) h (by decide : opWrite ≠ 0#8) (by decide : opWrite ≠ 7#8) ?_ ?_ ?_
  · refine (State.perform_writeReg _ s e r w none).trans ?_
    rw [hact]
  · have hu := State.regWrite_executing (s.intake ⟨opWrite, r.addr, w, none, e⟩) (portOrigin e.port) r s.tickLo w none e.port
    rw [hact] at hu
    exact (State.executing_of_ports (State.mirrorWrite_ite _ _ _ _ _ _).2.2 _).trans hu
  · exact State.waitsRelease_elsewhere _ _ (by simp [hr])

/-! ## A status clear of the background unit (R5, R456) -/

/-- BG_DIAG without the bits of a word. -/
def State.clearBgDiag (s : State) (w : Word) : State := s.modBg (fun b => { b with diag := b.diag &&& ~~~ (w.truncate 8) })

theorem State.event_journal (s : State) (g c : Nat) (o : Origin) (p q : Word) : (s.event g c o p q).recd.journal = s.recd.journal :=
  (congrArg Recorder.journal (s.event_recCore g c o p q) :)

theorem diag_cleared_of_none (d : Byte) {w : Word} (h : w &&& d.zeroExtend 32 = 0#32) : d &&& ~~~ (w.truncate 8) = d := by
  refine BitVec.eq_of_getLsbD_eq (fun i hi => ?_)
  have hbit : (w.getLsbD i && d.getLsbD i) = false := by
    have := congrArg (fun v : Word => v.getLsbD i) h
    simpa [show i < 32 by omega] using this
  cases hd : d.getLsbD i <;> simp_all

/-- A write of BG_DIAG clears the bits it names, and changes nothing else but the event store. -/
theorem State.bgWrite_diag (s : State) (o : Origin) (w : Word) :
    ∃ t, s.bgWrite o .diag w = (t, .done) ∧ t.bg = { s.bg with diag := s.bg.diag &&& ~~~ (w.truncate 8) } ∧ t.recd.journal = s.recd.journal
      ∧ t = { s with bg := t.bg, recd := t.recd } := by
  refine ⟨_, s.statusClear_eq o (.bg .diag) (w &&& s.bg.diag.zeroExtend 32) (fun t => t.clearBgDiag w), ?_⟩
  split
  case isTrue hnone => exact ⟨by rw [diag_cleared_of_none _ hnone], rfl, rfl⟩
  case isFalse => exact ⟨rfl, State.event_journal _ _ _ _ _ _, rfl⟩

theorem State.regWrite_diag (s : State) (o : Origin) (fall w : Word) (obs : Option Int) :
    s.regWrite o (.bg .diag) fall w obs = ((s.bgWrite o .diag w).1, .done) := by
  obtain ⟨t, ht, -⟩ := s.bgWrite_diag o w
  show s.bgWrite o .diag w = _
  rw [ht]

/-! ## An operation that is not listed (R74) -/

/-- The next request of a port, answered already, executes. -/
theorem State.startNext_canned {t : State} {p : PortId} {q : Request} {rest : List Request} {r : Response} (hx : (t.port p).executing = none)
    (hw : (t.port p).waiting = q :: rest) (hc : q.canned = some r) :
    t.startNext p = t.modPort p (fun o => { o with waiting := rest, executing := some (q, r) }) := by
  simp only [State.startNext, hx, hw, State.execRequest, hc, State.modPort_modPort]

/-- The request of a frame that is refused by itself: it holds its response. -/
def State.refusedRequest (s : State) (f : HostFrame) (rep : Reply) : Request :=
  { s.requestOf f with canned := some (mkResponse (s.requestOf f) rep) }

/-- A frame that is refused by itself, and takes a ticket, answers its refusal and acts on nothing. -/
theorem State.queue_refused {s : State} {f : HostFrame} (rep : Reply) (enter : Bool) (hx : (s.port f.env.port).executing = none)
    (hw : (s.port f.env.port).waiting = []) :
    (s.queue f (some rep) enter).answers f.env rep.status rep.info rep.data = true ∧ ButForPorts (s.queue f (some rep) enter) s
      ∧ ∀ p, p ≠ f.env.port → (s.queue f (some rep) enter).port p = s.port p := by
  have hport : ∀ p, (s.takeTicket (portMaster f.env.port) (s.pickTicket f.env.grant)).port p = s.port p := fun _ => rfl
  unfold State.queue
  dsimp only
  rw [State.startNext_canned (q := s.refusedRequest f rep) (rest := []) (r := mkResponse (s.requestOf f) rep) ?_ ?_ rfl]
  · refine ⟨?_, rfl, ?_⟩
    · simp [State.answers, State.refusedRequest, mkResponse]
    · intro p hp
      simp [State.note, State.modPort_port_ne _ _ _ _ hp.symm, hport]
  · split <;> simp [State.note, Port.enter, hport, hx]
  · split <;> simp [State.note, Port.enter, hport, hw, State.refusedRequest, State.requestOf]

theorem State.submit_unlisted {s : State} {f : HostFrame} (h : s.hostTakes f.env = true) (hl : f.env.len.toNat ≤ 1) (hop : 8 ≤ f.op.toNat) :
    s.submit f = (s.csFall f.env.port f.env.mode3).queue f (some ⟨.badOp, f.op.zeroExtend 32, []⟩) true := by
  simp only [State.hostTakes, Bool.and_eq_true, Option.isNone_iff_eq_none, List.isEmpty_iff] at h
  obtain ⟨⟨⟨⟨hears, hnew⟩, hfree⟩, hx⟩, hw⟩ := h
  obtain ⟨ha, hm, hc, hwhole, ht⟩ := State.portHears_iff.1 hears
  have h0 : f.op ≠ 0#8 := by rintro h; simp [h] at hop
  have h7 : f.op ≠ 7#8 := by rintro h; simp [h] at hop
  have hd : discards f.env f.op = false := by simp [discards, hc, hwhole, ht, hl]
  have hentry : ((s.csFall f.env.port f.env.mode3).port f.env.port).entry f.env.seq = none := by
    simpa [Port.entry, State.csFall_port_window] using hnew
  have htakes : (s.csFall f.env.port f.env.mode3).mayTake (portMaster f.env.port) = true := hfree
  have hrefused : ∀ rev, f.refusal rev = some ⟨.badOp, f.op.zeroExtend 32, []⟩ := by
    intro rev
    have : ¬ f.op.toNat ≤ 7 := by omega
    simp [HostFrame.refusal, opListed, this]
  simp [State.submit, State.request, ha, hm, hd, h0, h7, hentry, htakes, hrefused]

/-- An operation that is not listed answers BAD_OP with its code, and acts on nothing (R74). -/
theorem unlisted_answers {s : State} {e : Env} {op : Byte} (a : Addr) (w : Word) (h : s.hostTakes e = true) (hl : e.len.toNat ≤ 1)
    (hop : 8 ≤ op.toNat) : let t := s.submit ⟨op, a, w, none, e⟩
    t.answers e .badOp (op.zeroExtend 32) [] = true ∧ ButForPorts t s ∧ ∀ p, p ≠ e.port → t.port p = s.port p := by
  have hidle := h
  simp only [State.hostTakes, Bool.and_eq_true, Option.isNone_iff_eq_none, List.isEmpty_iff] at hidle
  obtain ⟨⟨-, hx⟩, hw⟩ := hidle
  obtain ⟨hanswer, hports, hothers⟩ := State.queue_refused (s := s.csFall e.port e.mode3) (f := ⟨op, a, w, none, e⟩)
    ⟨.badOp, op.zeroExtend 32, []⟩ true (by rw [State.csFall_port_executing, hx]) (by rw [State.csFall_port_waiting, hw])
  dsimp only
  rw [State.submit_unlisted (f := ⟨op, a, w, none, e⟩) h hl hop]
  refine ⟨hanswer, hports.trans (s.csFall_butForPorts _ _), fun p hp => ?_⟩
  rw [hothers p hp, State.csFall_otherPort _ _ _ _ hp]

/-- Settles O19, request by request. -/
theorem requestsAreAnswered : Obligations.RequestsAreAnswered := by
  unfold Obligations.RequestsAreAnswered
  intro e s
  refine ⟨?_, ?_, ?_, ?_, ?_, ?_, ?_, ?_⟩
  · intro a w h h1 h2
    obtain ⟨hsub, hanswer⟩ := hello_offers a h h1 h2
    refine ⟨_, rfl, hanswer, ?_⟩
    rw [hsub]
    refine ⟨?_, ?_, State.answered_deviceFrame ⟨opHello, a, w, none, e⟩ _ (ButForPorts.refl _ |>.modPort _ _)
      (fun p hp => State.modPort_port_ne _ _ _ _ hp.symm)⟩
    · simp [State.answer_port _ _ _ _, Port.offer, State.intake_helloPend]
    · simp [State.answer_port _ _ _ _, Port.offer, State.intake_rev]
  · intro a w h hnone
    obtain ⟨hsub, hanswer⟩ := hello_refuses a h hnone
    refine ⟨_, rfl, hanswer, ?_⟩
    rw [hsub]
    refine ⟨?_, State.answered_deviceFrame ⟨opHello, a, w, none, e⟩ _ (ButForPorts.refl _) (fun _ _ => rfl)⟩
    simp [State.answer_port _ _ _ _, State.intake_helloPend]
  · intro r w h
    exact ⟨_, rfl, read_answers r w h, State.submit_readReg s e r w h, read_keeps r w h⟩
  · intro a w h ha
    obtain ⟨hanswer, hacts⟩ := nowhere_answers w h ha (.inl rfl)
    exact ⟨_, rfl, hanswer, hacts.butForPorts.deviceFrame hacts.2⟩
  · intro r w h hr
    obtain ⟨hsub, hanswer⟩ := write_answers w h hr Prod.mk.eta.symm
    refine ⟨_, rfl, hanswer, ?_, ?_⟩
    · rintro u o hact
      exact (write_answers w h hr hact).1
    · rw [hsub]
      simp [State.answer_frame _ _ _ _, State.mirrorWrite_ite _ _ _ _ _ _, State.regWrite_frame _ _ _ _ _ _, State.intake_frame _ _]
  · intro a w h ha
    obtain ⟨hanswer, hacts⟩ := nowhere_answers w h ha (.inr rfl)
    exact ⟨_, rfl, hanswer, hacts.butForPorts.deviceFrame hacts.2⟩
  · intro w h
    obtain ⟨hanswer, hacts⟩ := State.submit_write_acts s e (.bg .diag) w none (fun u => (u.bgWrite (portOrigin e.port) .diag w).1) .done h rfl
      (by simp) (fun u _ => u.regWrite_diag _ _ _ _) (by simp [State.bgWrite_frame _ _ _ _])
    obtain ⟨u, hu, ht⟩ := hacts.same
    obtain ⟨v, hv, hbg, hjournal, hrest⟩ := u.bgWrite_diag (portOrigin e.port) w
    rw [hv] at ht
    have hrow : RowFrame _ s e := RowFrame.of (by rw [hrest] at ht; simp [ht, hu]) hacts.2
    refine ⟨_, rfl, hanswer, ?_, ?_, ?_⟩
    · simp [ht, hbg, hu]
    · simp [ht, hjournal, hu]
    · rw [hrest] at ht
      simpa [ht, hu] using hrow
  · intro op a w h hl hop
    obtain ⟨hanswer, hports, hothers⟩ := unlisted_answers a w h hl hop
    exact ⟨_, rfl, hanswer, hports.deviceFrame (fun p _ hp => hothers p hp)⟩

end Sys2Proof.Machine
end

section
/-! PROOFS. The pending by AGE of a wheel whose count of entries is not bounded (R330). -/

namespace Sys2Proof.Machine

/-- A wheel that holds 2¹⁷ entries and has no AGE. -/
def overfullWheel : Wheel := { Wheel.reset with sizeLog2 := 17, q := (0#64, 0) :: List.replicate 131071 (0#64, 0) }

/-- The state after RESET_N, with that wheel. -/
def overfull : State := State.reset.modWheel 0 (fun _ => overfullWheel)

theorem overfull_wheel : overfull.wheel 0 = overfullWheel := State.modWheel_wheel _ _ _

theorem overfullWheel_length : overfullWheel.q.length = 131072 :=
  (List.length_cons ..).trans (congrArg (· + 1) List.length_replicate)

/-- The count of an overfull wheel reaches into the bit of AGE. -/
theorem overfullWheel_stat (clock : Nat) : overfullWheel.stat clock = 131072#32 := by
  have hage : overfullWheel.ageLive clock = false := rfl
  have hlevel : overfullWheel.levelLive = false := rfl
  have hgap : overfullWheel.gapPending = false := rfl
  simp only [Wheel.stat, hage, hlevel, hgap, overfullWheel_length, b2n]
  decide

/-- Refutes O48: where AGE is not live the statement says that bit 17 of the wheel's status is 0, of a wheel that holds any number of
entries. A wheel has at most 2¹³ places, but the statement has no premise that says so: with 2¹⁷ entries the sum that `Wheel.stat`
makes of the count and the bits above it carries into bit 17. -/
theorem not_wheelsArePoppedAndRouted : ¬ Obligations.WheelsArePoppedAndRouted := by
  unfold Obligations.WheelsArePoppedAndRouted
  intro h
  obtain ⟨-, -, -, -, -, -, -, -, -, -, -, -, -, -, hnotLive, -⟩ := h ⟨.hp0, 0xFF#8, 0#8, 0#16, true, true, false, 0⟩ 0 0#32 overfull
  obtain ⟨t, -, hbit, rfl⟩ := hnotLive (0#64) 0 (List.replicate 131071 (0#64, 0)) (by rw [overfull_wheel]; rfl)
    (.inl (by rw [overfull_wheel]; rfl))
  rw [overfull_wheel, overfullWheel_stat] at hbit
  exact absurd hbit (by decide)

end Sys2Proof.Machine
end

section
/-! PROOFS. A direct write on a standby whose Rings were last told another role, and what follows for the frames that wait for them (R13,
R182, R434, R445). -/

namespace Sys2Proof.Machine

/-! ## Frames to a Ring -/

theorem State.sendRing_ring (s : State) (x y : RingId) (c : RingCmd) :
    (s.sendRing x c).ring y
      = if x = y ∧ (s.ring x).link = true then { s.ring y with cmdq := (s.ring y).cmdq ++ [(c, 0)] } else s.ring y := by
  unfold State.sendRing
  by_cases hl : (s.ring x).link = true
  · simp [hl, State.modRing_ring_ite]
  · simp [hl]

theorem State.sendRing_link (s : State) (x y : RingId) (c : RingCmd) : ((s.sendRing x c).ring y).link = (s.ring y).link := by
  rw [State.sendRing_ring]; split <;> rfl

theorem State.sendRing_keeps_frame {s : State} {x y : RingId} {c : RingCmd} {f : RingCmd × Nat} (h : f ∈ (s.ring y).cmdq) :
    f ∈ ((s.sendRing x c).ring y).cmdq := by
  rw [State.sendRing_ring]; split
  · exact List.mem_append_left _ h
  · exact h

theorem State.sendRing_sends {s : State} {x : RingId} {c : RingCmd} (h : (s.ring x).link = true) : (c, 0) ∈ ((s.sendRing x c).ring x).cmdq := by
  simp [State.sendRing_ring, h]

/-- A frame for both Rings waits for each whose link is up. -/
theorem State.sendBoth_sends {s : State} {x : RingId} {c : RingCmd} (h : (s.ring x).link = true) :
    (c, 0) ∈ (([RingId.a, RingId.b].foldl (fun t y => t.sendRing y c) s).ring x).cmdq := by
  cases x with
  | a => exact State.sendRing_keeps_frame (State.sendRing_sends h)
  | b => exact State.sendRing_sends ((State.sendRing_link _ _ _ _).trans h)

/-! ## The role goes to the Rings (R13) -/

theorem State.tellRole_tells {s : State} {x : RingId} (hl : (s.ring x).link = true) (hold : s.pair.toldRole ≠ s.pair.work) :
    (RingCmd.role s.pair.work false 0#16, 0) ∈ (s.tellRole.ring x).cmdq := by
  unfold State.tellRole
  rw [if_neg hold]
  exact State.sendBoth_sends hl

/-- A qualified standby whose Rings were last told otherwise whether it discards its samples (R182, R432). -/
def Pair.untold (p : Pair) : Prop := p.role = .standby ∧ p.uq = 0#10 ∧ p.toldRole.discard ≠ p.tzLostAt.isSome

/-- A cause makes such a unit UNQUALIFIED, and the Rings hear of its role. -/
theorem State.setUq_tells {s : State} {x : RingId} {u : BitVec 10} (hl : (s.ring x).link = true) (hp : s.pair.untold) (hu : u ≠ 0#10) :
    ∃ k, (RingCmd.role k false 0#16, 0) ∈ ((s.setUq u).ring x).cmdq := by
  obtain ⟨hrole, huq, htold⟩ := hp
  have hold : ∀ t : State, t.pair = { s.pair with uq := u, evt := s.pair.evt ||| 2#6 } →
      (t.pair.takeRole .unqualified t.clock).toldRole ≠ (t.pair.takeRole .unqualified t.clock).work := by
    rintro t ht h
    refine htold ?_
    simpa [ht, Pair.takeRole, Pair.refresh, Pair.work, Pair.driving] using congrArg RoleWork.discard h
  unfold State.setUq
  rw [if_neg (by rw [huq]; exact Ne.symm hu), if_neg (by simp [hrole])]
  dsimp only
  rw [if_pos (by simp [State.event, State.report, hrole, hu])]
  generalize hs1 : State.event _ _ _ _ _ _ = s1
  have hpair : s1.pair = { s.pair with uq := u, evt := s.pair.evt ||| 2#6 } := by rw [← hs1]; rfl
  have hring : s1.ring x = s.ring x := by rw [← hs1]; rfl
  rw [State.ring_of_rings (s := s1.setRole .unqualified 7) (by simp [State.sendState_frame _])]
  unfold State.setRole
  rw [if_neg (by simp [hpair, hrole])]
  exact ⟨_, State.tellRole_tells (s := s1.modPair _) (by rw [← hring] at hl; exact hl) (hold s1 hpair)⟩

/-- A direct write on such a unit sets DIRECT_WRITE, and the Rings hear of its role (R445). -/
theorem State.mirrorOut_tells {s : State} {x : RingId} {o : Origin} (a : Addr) (w : Word) (c : Bool) (win : Option (List Word))
    (hl : (s.ring x).link = true) (hp : s.pair.untold) (ho : o ≠ .trapeze) :
    ∃ k, (RingCmd.role k false 0#16, 0) ∈ ((s.mirrorOut o a w c win).ring x).cmdq := by
  obtain ⟨hrole, huq, -⟩ := id hp
  have hout : s.mirrorOut o a w c win = s.setUq (s.pair.uq ||| 8#10) := by simp [State.mirrorOut, Pair.driving, hrole, ho]
  rw [hout]
  exact State.setUq_tells hl hp (by rw [huq]; decide)

/-- The same for a write of a register of the mirrored set that is a change. -/
theorem State.mirrorWrite_tells {b s : State} {x : RingId} {o : Origin} {r : Reg} (w : Word) (hm : r.mirrored = true)
    (hz : ∀ n, r ≠ .ch n .anZscmd) (hj : b.recd.journal.length < s.recd.journal.length) (hl : (s.ring x).link = true) (hp : s.pair.untold)
    (ho : o ≠ .trapeze) : ∃ k, (RingCmd.role k false 0#16, 0) ∈ ((State.mirrorWrite b s o r w).ring x).cmdq := by
  unfold State.mirrorWrite
  dsimp only
  split
  next =>
    rename_i hz
    exact absurd rfl (hz _)
  next =>
    rw [if_pos (by simp [hm, journaled, hj])]
    split
    · exact State.mirrorOut_tells _ _ _ _ hl hp ho
    · exact State.mirrorOut_tells _ _ _ _ hl hp ho

/-! ## Changes of "img" fields (R77, R127) -/

theorem firstRefusal_append_none (cs : List (Option Reply)) : firstRefusal (cs ++ [none]) = firstRefusal cs := by
  induction cs with
  | nil => rfl
  | cons c cs ih => cases c <;> simp [firstRefusal, ih]

/-- With room in the journal and no activation pending, a write that passes its checks takes effect with its record, and diverges. -/
theorem State.imgWrite_roomy {s : State} {o : Origin} {r : Reg} {w : Word} {checks : List (Option Reply)} (eff : State → State)
    (hroom : s.recd.journal.length < 2047) (hpass : firstRefusal checks = none) (hact : s.img.actPending = false) :
    s.imgWrite o r w checks eff = ((eff (s.appendJournal 1 o (word r.addrNat) w)).diverge, ⟨.ok, s.recd.seqNext, []⟩) := by
  have hnone : firstRefusal (checks ++ [check s.img.actPending (.notNow 0#32)]) = none := by
    simp [check, hact, firstRefusal_append_none, hpass]
  unfold State.imgWrite guarded
  rw [hnone]
  exact State.change_roomy _ _ _ _ _ hroom

/-- A direct write of a port that is a change of the mirrored set, and leaves a standby whose Rings have yet to hear of its role: each Ring
whose link is up gets a frame with the role. -/
theorem State.submit_tells {s u : State} {e : Env} {r : Reg} {w : Word} {x : RingId} {rep : Reply} (h : s.hostReady e opWrite = true)
    (hr : r ≠ .flt .release) (hm : r.mirrored = true) (hz : ∀ n, r ≠ .ch n .anZscmd)
    (hact : (s.intake ⟨opWrite, r.addr, w, none, e⟩).regWrite (portOrigin e.port) r s.tickLo w none = (u, rep)) (hok : rep.status = .ok)
    (hj : s.recd.journal.length < u.recd.journal.length) (hl : (u.ring x).link = true) (hp : u.pair.untold) :
    ∃ k, (RingCmd.role k false 0#16, 0) ∈ ((s.submit ⟨opWrite, r.addr, w, none, e⟩).ring x).cmdq := by
  have hport : portOrigin e.port ≠ .trapeze := by cases e.port <;> simp [portOrigin]
  obtain ⟨hsub, -⟩ := write_answers w h hr hact
  obtain ⟨k, hk⟩ := State.mirrorWrite_tells (b := s.intake ⟨opWrite, r.addr, w, none, e⟩) w hm hz hj hl hp hport
  have hanswer : ∀ v : State, ((v.answer e.port (s.requestOf ⟨opWrite, r.addr, w, none, e⟩) rep).ring x) = v.ring x :=
    fun v => State.ring_of_rings (by simp [State.answer_frame _ _ _ _]) x
  exact ⟨k, by rw [hsub, if_pos hok, hanswer]; exact hk⟩

/-- An effect that leaves the Ringmaster, the recorder and a link. -/
def LeavesLink (x : RingId) (eff : State → State) : Prop :=
  ∀ t, (eff t).pair = t.pair ∧ (eff t).recd = t.recd ∧ ((eff t).ring x).link = (t.ring x).link

/-- The same for a change of "img" fields that leaves the Ringmaster alone. -/
theorem State.submit_img_tells {s : State} {e : Env} {r : Reg} {w : Word} {x : RingId} {checks : List (Option Reply)} {eff : State → State}
    (h : s.hostReady e opWrite = true) (hroom : s.recd.journal.length < 2047) (hact : s.img.actPending = false) (hl : (s.ring x).link = true)
    (hp : s.pair.untold) (hr : r ≠ .flt .release) (hm : r.mirrored = true) (hz : ∀ n, r ≠ .ch n .anZscmd)
    (hreg : (s.intake ⟨opWrite, r.addr, w, none, e⟩).regWrite (portOrigin e.port) r s.tickLo w none
      = (s.intake ⟨opWrite, r.addr, w, none, e⟩).imgWrite (portOrigin e.port) r w checks eff)
    (hpass : firstRefusal checks = none) (heff : LeavesLink x eff) :
    ∃ k, (RingCmd.role k false 0#16, 0) ∈ ((s.submit ⟨opWrite, r.addr, w, none, e⟩).ring x).cmdq := by
  obtain ⟨hpair, hrecd, hup⟩ := heff ((s.intake ⟨opWrite, r.addr, w, none, e⟩).appendJournal 1 (portOrigin e.port) (word r.addrNat) w)
  refine State.submit_tells h hr hm hz (hreg.trans (State.imgWrite_roomy eff hroom hpass hact)) rfl ?_ (hup.trans hl) ?_
  · simp [State.diverge, hrecd, State.appendJournal_journal, State.intake_frame _ _]
  · rw [State.diverge, hpair]; exact hp

/-! ## A standby to which Trapeze has come back -/

/-- A Ring at work, whose link is up. -/
def linkedRing : Ring := { Ring.reset with logic := true, vfOk := true, link := true, ringLost := false, configured := true, hostConf := true }

/-- A standby that had lost Trapeze, and so had told its Rings to discard their samples; the first frame since was no HEARTBEAT, and the Rings
have not been told otherwise (R182, R430, R432). -/
def returnedStandby : State :=
  { State.reset with
    phase := .run, rings := Vector.replicate 2 linkedRing, img := { ImgState.reset with paired := true }
    pair := { Pair.reset with
      role := .standby, mayDrive := false, standby := true, tzUp := true, partnerRole := 6#4, toldRole := ⟨true, false, false, true⟩ } }

/-- A whole frame of a WRITE on HP0. -/
def directWrite : Env := ⟨.hp0, 0xFF#8, 1#8, 0#16, true, true, false, 0⟩

theorem returnedStandby_ready : returnedStandby.hostReady directWrite opWrite = true := by decide +kernel

theorem returnedStandby_untold : returnedStandby.pair.untold := ⟨rfl, rfl, by decide⟩

theorem returnedStandby_link (x : RingId) : (returnedStandby.ring x).link = true := by cases x <;> rfl

theorem returnedStandby_cmdq (x : RingId) : (returnedStandby.ring x).cmdq = [] := by cases x <;> rfl

/-- A write of an "img" register that passes its checks there sends the role to the Rings. -/
theorem returnedStandby_tells {r : Reg} {w : Word} (x : RingId) {checks : List (Option Reply)} {eff : State → State} (hr : r ≠ .flt .release)
    (hm : r.mirrored = true) (hz : ∀ n, r ≠ .ch n .anZscmd)
    (hreg : (returnedStandby.intake ⟨opWrite, r.addr, w, none, directWrite⟩).regWrite .hp0 r returnedStandby.tickLo w none
      = (returnedStandby.intake ⟨opWrite, r.addr, w, none, directWrite⟩).imgWrite .hp0 r w checks eff)
    (hpass : firstRefusal checks = none) (heff : LeavesLink x eff) :
    ∃ k, (RingCmd.role k false 0#16, 0) ∈ ((returnedStandby.submit ⟨opWrite, r.addr, w, none, directWrite⟩).ring x).cmdq :=
  State.submit_img_tells returnedStandby_ready (by decide) rfl (returnedStandby_link x) returnedStandby_untold hr hm hz hreg hpass heff

end Sys2Proof.Machine
end

section
/-! PROOFS. What the writes of FAB_STEPCFG, ADCx_ROTCFG and the input parameters leave of the Rings, on a standby (R155, R169, R284, R445). -/

namespace Sys2Proof.Machine

/-! ## FAB_STEPCFG (R155) -/

theorem State.regWrite_stepcfg (s : State) (o : Origin) (fall w : Word) (obs : Option Int) :
    s.regWrite o (.fab .stepcfg) fall w obs = s.imgWrite o (.fab .stepcfg) w [refuseLow [(outside 2 (fld w 0 10) 1000, 0)]]
      (fun t => t.modFab (fun f => { f with stepPend := some (fld w 0 10) })) := rfl

/-- Refutes O26: the clause on FAB_STEPCFG leaves the Rings alone; but a direct write on a standby makes the unit UNQUALIFIED (R434, R445),
and with the change of role the Rings get the role, where they were last told another. -/
theorem not_recordsAreStagedAndApplied : ¬ Obligations.RecordsAreStagedAndApplied := by
  unfold Obligations.RecordsAreStagedAndApplied
  intro h
  obtain ⟨-, -, -, -, -, hstepcfg⟩ := h directWrite returnedStandby
  obtain ⟨t, hsays, -, -, -, -, -, -, -, -, -, -, hrings, -⟩ :=
    hstepcfg 2#32 returnedStandby_ready (by decide) (by decide) (by decide) rfl
  obtain rfl := Host.Outcome.next.inj hsays
  obtain ⟨k, hk⟩ := returnedStandby_tells .a (by simp) rfl (by simp) (State.regWrite_stepcfg _ .hp0 _ 2#32 none) (by decide)
    (fun _ => ⟨rfl, rfl, rfl⟩)
  rw [State.ring_of_rings hrings, returnedStandby_cmdq] at hk
  exact List.not_mem_nil hk

/-! ## ADCx_ROTCFG (R284) -/

theorem State.regWrite_rotcfg (s : State) (o : Origin) (x : RingId) (fall w : Word) (obs : Option Int) :
    s.regWrite o (.adc x .rotcfg) fall w obs = s.imgWrite o (.adc x .rotcfg) w []
      (fun t => (t.modAdc x (fun a => { a with rotPend := some (w.truncate 8) })).sendRing x (.adcRot (w.truncate 8) t.tick)) := rfl

/-- Refutes O45: the clause on ADCx_ROTCFG (and each other clause on a write that is accepted) adds the frame of the change to those that
wait for the Ring, and no other; but a direct write on a standby makes the unit UNQUALIFIED (R434, R445), and where the Ring was last told
another role, a frame with the role follows. -/
theorem not_adcRegistersAreWritten : ¬ Obligations.AdcRegistersAreWritten := by
  unfold Obligations.AdcRegistersAreWritten
  intro h
  obtain ⟨-, -, -, -, -, hrotcfg, -⟩ := h directWrite .a returnedStandby
  obtain ⟨t, hsays, -, -, hframes, -⟩ := hrotcfg 5#32 returnedStandby_ready (by decide) rfl
  obtain rfl := Host.Outcome.next.inj hsays
  obtain ⟨k, hk⟩ := returnedStandby_tells .a (by simp) rfl (by simp) (State.regWrite_rotcfg _ .hp0 .a _ 5#32 none) rfl
    (fun t => ⟨by simp [State.sendRing_frame _ _ _], by simp [State.sendRing_frame _ _ _], State.sendRing_link _ _ _ _⟩)
  rw [hframes (returnedStandby_link .a), returnedStandby_cmdq] at hk
  simp at hk

/-! ## Input parameters (R169) -/

theorem State.syncModem_link (s : State) (x y : RingId) : ((s.syncModem x).ring y).link = (s.ring y).link := by
  unfold State.syncModem; split
  · rfl
  · refine (State.sendRing_link _ _ _ _).trans ?_
    rw [State.modRing_ring_ite]; split <;> rfl

theorem State.syncClaims_link (s : State) (n : Fin 16) (c : ChanCfg) (x : RingId) : ((s.syncClaims n c).ring x).link = (s.ring x).link := by
  unfold State.syncClaims
  refine (State.syncModem_link _ _ _).trans (congrArg Ring.link (State.ring_of_rings ?_ x))
  simp [State.takeClaim_frame _ _ _ _ _ _ _, State.freeClaim_frame _ _ _ _ _ _]

/-- What an accepted write of a parameter register does beside its record, with the bits of CHn_AN_CFG that it changes (R169, R226). -/
def State.takeParam (n : Fin 16) (c : ChanCfg) (changed : Word) (t : State) : State :=
  let t1 := ((t.modChan n (fun ch => { ch with cfg := c })).syncClaims n c).sendCfg n
  if changed &&& gainMask ≠ 0#32 then t1.restartChain n else t1

theorem State.takeParam_leavesLink (n : Fin 16) (c : ChanCfg) (changed : Word) (x : RingId) : LeavesLink x (State.takeParam n c changed) := by
  intro t
  have hring : (State.takeParam n c changed t).rings = (((t.modChan n (fun ch => { ch with cfg := c })).syncClaims n c).sendCfg n).rings := by
    unfold State.takeParam; dsimp only; split
    · simp [State.restartChain_frame _ _]
    · rfl
  refine ⟨?_, ?_, ?_⟩
  · simp [State.takeParam, State.sendCfg_frame _ _, State.syncClaims_frame _ _ _, State.restartChain_frame _ _]
  · simp [State.takeParam, State.sendCfg_frame _ _, State.syncClaims_frame _ _ _, State.restartChain_frame _ _]
  · rw [State.ring_of_rings hring]
    exact (State.sendRing_link _ _ _ _).trans (State.syncClaims_link _ _ _ _)

theorem State.regWrite_inputReg (s : State) (o : Origin) (n : Fin 16) (r : InputReg) (fall w : Word) (obs : Option Int) :
    s.regWrite o (.ch n (inputReg r)) fall w obs = s.imgWrite o (.ch n (inputReg r)) w
      [check (!regOpen (inputReg r) ((s.chan n).cfg.setReg (inputReg r) w).func) (.notNow 0#32),
        refuseLow (s.paramBad n (inputReg r) ((s.chan n).cfg.setReg (inputReg r) w)), none]
      (State.takeParam n ((s.chan n).cfg.setReg (inputReg r) w) (((s.chan n).cfg.setReg (inputReg r) w).anCfg ^^^ (s.chan n).cfg.anCfg)) := by
  cases r <;> rfl

/-- Refutes O28: the clause on the input parameters adds the channel's configuration to the frames that wait for the Ring, and no other
frame; but a direct write on a standby makes the unit UNQUALIFIED (R434, R445), and where the Ring was last told another role, a frame with
the role follows. -/
theorem not_channelFunctionsAndInputParametersAreWritten : ¬ Obligations.ChannelFunctionsAndInputParametersAreWritten := by
  unfold Obligations.ChannelFunctionsAndInputParametersAreWritten
  intro h
  obtain ⟨-, -, -, hparam, -⟩ := h directWrite 0 returnedStandby
  obtain ⟨t, hsays, -, -, hframes, -⟩ := hparam .chat 0x0A05#32 returnedStandby_ready (by decide) rfl (by decide) (by decide)
  obtain rfl := Host.Outcome.next.inj hsays
  obtain ⟨k, hk⟩ := returnedStandby_tells .a (by simp) rfl (by simp [inputReg]) (State.regWrite_inputReg _ .hp0 0 .chat _ 0x0A05#32 none)
    (by decide) (State.takeParam_leavesLink _ _ _ _)
  replace hframes := hframes (returnedStandby_link .a)
  rw [show ringOf 0 = .a from rfl, returnedStandby_cmdq] at hframes
  rw [hframes] at hk
  simp at hk

end Sys2Proof.Machine
end

section
/-! PROOFS. An erase of a slot that fails while a capture is armed (R118, R119, R394, R396, R458). -/

namespace Sys2Proof.Machine

/-- A running block that erases slot 0, with 8 good sectors in the pool, and capture armed for contained faults. -/
def wornErase : State :=
  { State.reset with
    phase := .run, img := { ImgState.reset with load := .erasing }, rpl := { Replay.reset with cfg := 0x21#32 }
    bg := { Bg.reset with wear := { Bg.reset.wear with pool := List.replicate 8 0 } } }

/-- A block whose slot erase has failed (R118, R119). -/
def State.eraseFailed (s : State) : State :=
  ((s.free.2.slotSectorFails s.free.1.toNat).setSlot s.img.target .invalid).endOperation 0x1C 0#32

theorem slotEraseDone_fails {s : State} (hp : s.phase = .run) (hl : s.img.load = .erasing) :
    exec (.slotEraseDone true) s = .next s.eraseFailed :=
  congrArg Host.Outcome.next (whenDo_of (by simp [hp, hl]) _ s)

/-- The failure leaves 7 good sectors; CELLAR_WEAR becomes live, and the capture that it triggers writes its header to the replay store. -/
theorem wornErase_captures : wornErase.eraseFailed.cells ≠ wornErase.cells := by decide +kernel

/-- Refutes O23: the clause on an erase that fails (and that on a word that fails) leaves every byte of the cellar store; but where the
failure raises CELLAR_WEAR (R458) and capture is armed for its class, the raising triggers a capture (R394), whose header is written to the
replay store at once (R396). -/
theorem not_imageSessionIsWritten : ¬ Obligations.ImageSessionIsWritten := by
  unfold Obligations.ImageSessionIsWritten
  intro h
  obtain ⟨-, -, hfails, -⟩ := h directWrite wornErase
  obtain ⟨t, l, hsays, -, -, -, -, -, -, -, -, -, -, hcells, -⟩ := hfails rfl rfl
  obtain rfl := Host.Outcome.next.inj ((slotEraseDone_fails (s := wornErase) rfl rfl).symm.trans hsays)
  exact wornErase_captures hcells

end Sys2Proof.Machine
end

section
/-! PROOFS. An activation that changes the function of the armed channel (R121, R232). -/

namespace Sys2Proof.Machine

/-- The last step of the old network at boundary A, and the begin of the next one (R439, R505). -/
def State.boundaryStep (s : State) (i : Image) : State :=
  (((s.endTick.epochStep s.fab).endHolds).replayActivate i).beginStep s.nextTick

theorem State.activateArming_disarms {u : State} {keeps : Fin 16 → Bool} (hc : keeps u.svc.ch = false) :
    (u.activateArming keeps).svc.en = false := by
  unfold State.activateArming
  by_cases hen : u.svc.en = true
  · simp [hen, hc, State.disarm, State.event, State.report]
  · simp [hen]

/-- An activation that changes the function of the channel that the service port names ends its arming (R232): no other part of an
activation touches the service port. -/
theorem State.activate_disarms {s : State} {i : Image} (hc : (s.boundaryStep i).keepsFunction i s.svc.ch = false) :
    (s.activate i).svc.en = false := by
  have harm : ∀ u : State, u.svc = s.svc → (u.activateArming (fun n => (s.boundaryStep i).keepsFunction i n)).svc.en = false :=
    fun u hu => State.activateArming_disarms (by rw [hu]; exact hc)
  unfold State.boundaryStep at harm
  simp [State.activate, harm, State.endTick_frame _, State.epochStep_frame _ _, State.endHolds_frame _, State.replayActivate_frame _ _,
    State.beginStep_frame _ _, State.loadNetwork_frame _ _, State.activateFilters_frame _ _, State.activateWheels_frame _ _ _,
    State.activateFaults_frame _ _, State.takePairing_frame _ _, State.stepReports_frame _ _, State.clearLive_frame _ _,
    State.activateBg_frame _ _, State.activateChan_frame _ _ _ _, State.activateRing_frame _ _ _ _, State.activateSlots_frame _ _,
    State.activateModem_frame _ _ _, State.pairActivate_frame _ _ _, State.releaseTick_frame _ _, State.modeTick_frame _,
    State.replayTick_frame _, State.startSnapshot_frame _, State.pairSync_frame _]

/-- An image without records. -/
def bareImage : Image :=
  { crc := 0#32, length := 64#32, version := 0#32, fallbackOk := false, chan := [], ring := [], adcseq := [], filt := [], fabric := none
    wheel := [], fault := [], safe := [], replay := none, pair := none, bg := none, wake := none, claims := [] }

/-- A block whose service port is armed on channel 0, an AO_I output, at the boundary of an activation of an image without channels. -/
def armedBoundary : State :=
  ({ State.reset with
    phase := .run, clock := 1000, svc := { Svc.reset with en := true }
    img := { ImgState.reset with load := .activating, shadow := some bareImage } } : State).modChan 0 (fun c =>
      { c with cfg := { c.cfg with mode := 0x1F07#32 }, rng := { c.rng with mode := 0x1F07#32 } })

theorem armedBoundary_ready : armedBoundary.stepDue = true ∧ armedBoundary.actReady = true := by decide +kernel

/-- The channel's function does not stay: it is AO_I in force, and OFF in the image. -/
theorem armedBoundary_changes : (armedBoundary.boundaryStep bareImage).keepsFunction bareImage 0 = false := by decide +kernel

theorem activationBoundary_activates {s : State} {i : Image} (hi : s.img.shadow = some i) (hdue : s.stepDue = true) (hready : s.actReady = true)
    (hs : s.img.starting = false) : exec .activationBoundary s = .next (s.activate i) := by
  show execActivationBoundary s = _
  simp [execActivationBoundary, hi, hdue, hready, hs, whenDo]

/-- Refutes O24: the clause on boundary A (and that on the activation at start) leaves the service port as it was; but arming ends at an
activation that changes the function of the armed channel (R232). -/
theorem not_imageIsVerifiedAndActivated : ¬ Obligations.ImageIsVerifiedAndActivated := by
  unfold Obligations.ImageIsVerifiedAndActivated
  intro h
  obtain ⟨-, -, -, -, hboundary, -⟩ := h directWrite armedBoundary
  obtain ⟨hdue, hready⟩ := armedBoundary_ready
  obtain ⟨t, hsays, -, -, -, -, -, -, -, -, hsvc⟩ := hboundary bareImage rfl hdue hready rfl
  obtain rfl := Host.Outcome.next.inj ((activationBoundary_activates rfl hdue hready rfl).symm.trans hsays)
  have hoff := State.activate_disarms armedBoundary_changes
  rw [hsvc] at hoff
  exact absurd hoff (by decide)

end Sys2Proof.Machine
end

section
/-! PROOFS. A step that overruns while CONSEC stands at 3 already (R149, R150, R156). -/

namespace Sys2Proof.Machine

theorem fabricStepTick_steps {s : State} (hdue : s.stepDue = true) (hi : s.img.shadow = none) : exec .fabricStepTick s = .next s.stepTick := by
  show execFabricStepTick s = _
  simp [execFabricStepTick, State.tickNow, hdue, hi]

/-- A running block at a step tick, whose fabric an activation has started again after a third overrun in a row: CONSEC still stands at 3
(log entry 124), and the step in progress has not completed. -/
def overrunAgain : State :=
  { State.reset with
    phase := .run, clock := 1000, img := { ImgState.reset with running := some bareImage }
    fab := { FabState.reset with running := true, consec := 3#2 } }

theorem overrunAgain_late : overrunAgain.stepDue = true ∧ overrunAgain.stepping = true ∧ overrunAgain.fab.evalDone = false := by
  decide +kernel

theorem overrunAgain_consec : overrunAgain.stepTick.fab.consec = 3#2 := by decide +kernel

/-- Refutes O27: the clause on a late step counts CONSEC up by one in its 2 bits; but CONSEC counts no further than 3 (R149, R156), and keeps
it over the stop of R150 and an activation (log entry 124), so that a late step of the fabric that runs again leaves 3, and not 0. -/
theorem not_stepsCommitOrOverrun : ¬ Obligations.StepsCommitOrOverrun := by
  unfold Obligations.StepsCommitOrOverrun
  intro h
  obtain ⟨-, -, -, hoverrun⟩ := h overrunAgain
  obtain ⟨hdue, hstepping, hlate⟩ := overrunAgain_late
  obtain ⟨t, hsays, -, -, -, -, -, hconsec, -⟩ := hoverrun hdue rfl hstepping hlate
  obtain rfl := Host.Outcome.next.inj ((fabricStepTick_steps hdue rfl).symm.trans hsays)
  rw [overrunAgain_consec] at hconsec
  exact absurd hconsec (by decide)

end Sys2Proof.Machine
end

section
/-! PROOFS. Writes of registers by the state that they leave, and the setpoints of an analog channel (R145, R219, R390). -/

namespace Sys2Proof.Machine

/-! ## Writes of a register, by the state that they leave -/

theorem State.chan_of_chans {t s : State} (h : t.chans = s.chans) (n : Fin 16) : t.chan n = s.chan n := by simp [State.chan, h]

/-- A write of a register that leaves `x`, once the partner has heard of it: its answer, the device of `x`, and the other port. -/
theorem State.submit_write_leaves {s : State} {e : Env} {r : Reg} {w : Word} {v x : State} {rep : Reply} (h : s.hostReady e opWrite = true)
    (hr : r ≠ .flt .release)
    (hact : (s.intake ⟨opWrite, r.addr, w, none, e⟩).regWrite (portOrigin e.port) r s.tickLo w none = (v, rep))
    (hsent : (if rep.status = .ok then State.mirrorWrite (s.intake ⟨opWrite, r.addr, w, none, e⟩) v (portOrigin e.port) r w else v) = x)
    (hports : x.ports = (s.intake ⟨opWrite, r.addr, w, none, e⟩).ports) :
    (s.submit ⟨opWrite, r.addr, w, none, e⟩).answers e rep.status rep.info rep.data = true
      ∧ ButForPorts (s.submit ⟨opWrite, r.addr, w, none, e⟩) x
      ∧ ∀ p ∈ [PortId.hp0, PortId.hp1], p ≠ e.port → (s.submit ⟨opWrite, r.addr, w, none, e⟩).port p = s.port p := by
  obtain ⟨hanswer, ⟨_, -, ht⟩, hother⟩ := State.submit_write_sends s e r w none v (fun _ => x) rep h hr hact hsent hports
  exact ⟨hanswer, ht, hother⟩

/-- A write that is refused leaves the device, with the frame of the row. -/
theorem State.submit_write_refused {s : State} {e : Env} {w : Word} (r : Reg) (rep : Reply) (h : s.hostReady e opWrite = true)
    (hr : r ≠ .flt .release)
    (hact : (s.intake ⟨opWrite, r.addr, w, none, e⟩).regWrite (portOrigin e.port) r s.tickLo w none
      = (s.intake ⟨opWrite, r.addr, w, none, e⟩, rep)) (hrep : rep.status ≠ .ok) :
    (s.submit ⟨opWrite, r.addr, w, none, e⟩).answers e rep.status rep.info rep.data = true
      ∧ ButForPorts (s.submit ⟨opWrite, r.addr, w, none, e⟩) s ∧ RowFrame (s.submit ⟨opWrite, r.addr, w, none, e⟩) s e := by
  obtain ⟨hanswer, ht, hother⟩ := State.submit_write_leaves h hr hact (if_neg hrep) rfl
  have hs := ButForPorts.trans ht (s.intake_butForPorts ⟨opWrite, r.addr, w, none, e⟩)
  exact ⟨hanswer, hs, hs.rowFrame hother⟩

/-! ## Setpoints (R219) -/

theorem State.setpoint_chans (s : State) (o : Origin) (n : Fin 16) (r : ChReg) (w : Word) (f : Chan → Chan) :
    (s.setpoint o n r w f).chans = (s.modChan n f).chans := by
  simp [State.setpoint, State.sendSetpoint_frame _ _, State.modFab]

theorem State.setpoint_fab (s : State) (o : Origin) (n : Fin 16) (r : ChReg) (w : Word) (f : Chan → Chan) :
    (s.setpoint o n r w f).fab = { s.fab with setpoints := s.fab.setpoints ++ [((Reg.ch n r).addr, o, w)] } := by
  simp [State.setpoint, State.sendSetpoint_frame _ _, State.modFab]

theorem State.setpoint_cmdq {s : State} (o : Origin) {n : Fin 16} (r : ChReg) (w : Word) (f : Chan → Chan) (h : (s.ring (ringOf n)).link = true) :
    ((s.setpoint o n r w f).ring (ringOf n)).cmdq = (s.ring (ringOf n)).cmdq ++ [(.setpoint n (f (s.chan n)).cmd, 0)] := by
  have hset : s.setpoint o n r w f = ((s.modChan n f).modFab (fun b =>
      { b with setpoints := b.setpoints ++ [((Reg.ch n r).addr, o, w)] })).sendRing (ringOf n) (.setpoint n ((s.modChan n f).chan n).cmd) := rfl
  have hring : ∀ g : FabState → FabState, (((s.modChan n f).modFab g).ring (ringOf n)) = s.ring (ringOf n) := fun _ => rfl
  rw [hset, State.sendRing_ring, State.modChan_chan, hring, if_pos ⟨rfl, h⟩]

/-- A write of a setpoint that passes its checks replaces it on its way to the Ring, is held for the next capture frame, and changes nothing
else. -/
theorem State.submit_setpoint {s : State} {e : Env} {n : Fin 16} {r : ChReg} {w : Word} {f : Chan → Chan} (h : s.hostReady e opWrite = true)
    (hact : (s.intake ⟨opWrite, Reg.addr (.ch n r), w, none, e⟩).chWrite (portOrigin e.port) n r w
      = ((s.intake ⟨opWrite, Reg.addr (.ch n r), w, none, e⟩).setpoint (portOrigin e.port) n r w f, .done)) :
    ∃ t, Host.Outcome.next (s.submit ⟨opWrite, Reg.addr (.ch n r), w, none, e⟩) = (Host.Outcome.next t : Host.Outcome State Fault Refusal)
      ∧ t.answers e .ok 0#32 [] = true ∧ t.chan n = f (s.chan n)
      ∧ ((s.ring (ringOf n)).link = true →
        (t.ring (ringOf n)).cmdq = (s.ring (ringOf n)).cmdq ++ [(.setpoint n (t.chan n).cmd, 0)])
      ∧ t.fab = { s.fab with setpoints := s.fab.setpoints ++ [(Reg.addr (.ch n r), portOrigin e.port, w)] }
      ∧ (∀ m, m ≠ n → t.chan m = s.chan m) ∧ RowFrame t s e ∧ t.time = s.time ∧ t.shadows = s.shadows ∧ t.recd = s.recd
      ∧ t.wheels = s.wheels ∧ t.flt = s.flt ∧ t.svc = s.svc ∧ t.img = s.img ∧ t.cells = s.cells ∧ t.adcs = s.adcs ∧ t.filt = s.filt
      ∧ t.rpl = s.rpl ∧ t.chks = s.chks ∧ t.pair = s.pair ∧ t.bg = s.bg ∧ t.pwr = s.pwr ∧ t.freeCtr = s.freeCtr := by
  obtain ⟨hanswer, hacts⟩ := State.submit_write_sends s e (.ch n r) w none _ (fun u => u.setpoint (portOrigin e.port) n r w f) .done h (by simp)
    hact (State.mirrorWrite_unjournaled _ _ _ (by simp [State.setpoint_frame _ _ _ _ _ _])) (by simp [State.setpoint_frame _ _ _ _ _ _])
  obtain ⟨u, hu, ht⟩ := hacts.same
  generalize s.submit ⟨opWrite, Reg.addr (.ch n r), w, none, e⟩ = t at hanswer hacts ht
  have ⟨_, _, _, _, _, _, _, ⟨_, _, hfab, _⟩, _, _, _, huChans, huRings, _⟩ := hu
  have ⟨_, _, _, _, _, _, _, ⟨_, _, htFab, _⟩, _, _, _, htChans, htRings, _⟩ := ht
  have hring := State.ring_of_rings huRings (ringOf n)
  have hchan (m : Fin 16) : t.chan m = if n = m then f (s.chan m) else s.chan m := by
    rw [State.chan_of_chans (htChans.trans (State.setpoint_chans _ _ _ _ _ _)), State.modChan_chan_ite, State.chan_of_chans huChans]
  have hrow : RowFrame t s e := RowFrame.of (by simp [ht, hu, State.setpoint_frame _ _ _ _ _ _]) hacts.2
  refine ⟨t, rfl, hanswer, by rw [hchan, if_pos rfl], ?_, ?_, ?_, hrow, ?_⟩
  · intro hl
    rw [State.ring_of_rings htRings, State.setpoint_cmdq _ _ _ _ (by rw [hring]; exact hl), hring, State.chan_of_chans huChans, hchan, if_pos rfl]
  · rw [htFab, State.setpoint_fab, hfab]
  · intro m hm
    rw [hchan, if_neg hm.symm]
  · simp [ht, hu, State.setpoint_frame _ _ _ _ _ _]

/-! ## The checks of a setpoint (R145, R219) -/

theorem State.writeAnSet_passes {s : State} {o : Origin} {n : Fin 16} {w : Word}
    (hin : setOutside (s.chan n).cfg.func (s.chan n).cfg.range w = false) (hrpl : s.rpl.on = false) :
    s.writeAnSet o n w = (s.setpoint o n .anSet w (fun c => { c with cmd := { c.cmd with anSet := w } }), .done) := by
  simp [State.writeAnSet, guarded, firstRefusal, refuseLow, lowest, hin, State.replayCheck, check, hrpl]

theorem State.writeAnSet_refuses {s : State} {o : Origin} {n : Fin 16} {w : Word}
    (hout : setOutside (s.chan n).cfg.func (s.chan n).cfg.range w = true) : s.writeAnSet o n w = (s, .refused 0) := by
  simp [State.writeAnSet, guarded, firstRefusal, refuseLow, lowest, hout]

theorem State.writeAnCmd_passes {s : State} {o : Origin} {n : Fin 16} {w : Word}
    (hfree : (s.driveBound n && bit w 0 ≠ (s.chan n).cmd.anOn) = false) (hrpl : s.rpl.on = false) :
    s.writeAnCmd o n w = (s.setpoint o n .anCmd w (fun c => { c with cmd := { c.cmd with anCmd := w &&& 1#32 } }), .done) := by
  simp only [State.writeAnCmd, guarded, check, hfree, State.replayCheck, hrpl, Bool.false_eq_true, if_false, firstRefusal]

theorem State.writeAnCmd_held {s : State} {o : Origin} {n : Fin 16} {w : Word} (hbound : s.driveBound n = true)
    (hdiff : bit w 0 ≠ (s.chan n).cmd.anOn) : s.writeAnCmd o n w = (s, .held boundCode) := by
  simp [State.writeAnCmd, guarded, firstRefusal, check, hbound, hdiff]

/-- Outside 0 mA to 24 mA an AO_I channel takes no setpoint (R219). -/
theorem setOutside_current {w : Word} (range : Nat) (h : w.toInt < 0 ∨ 24000000 < w.toInt) : setOutside 7 range w = true := by
  simp [setOutside, setRange]
  omega

end Sys2Proof.Machine
end

section
/-! PROOFS. Captures, CLEAR and trims of an analog channel, and the rows of its setpoints and calibration (R145, R219, R229, R230, R233, R234,
R370, R443). -/

namespace Sys2Proof.Machine

/-! ## What telling the partner leaves (R443, R445) -/

/-- `t` is `u` but for what telling the partner of a change may alter: the Ringmaster, the frames to the Rings, and the events. -/
abbrev PartnerTold (t u : State) : Prop :=
  KeepsHost t u ∧ KeepsUnits t u ∧ t.wheels = u.wheels ∧ t.flt = u.flt ∧ t.chans = u.chans ∧ t.rpl = u.rpl ∧ t.cells = u.cells
    ∧ t.recd.journal = u.recd.journal

theorem PartnerTold.refl (s : State) : PartnerTold s s := by simp [PartnerTold, KeepsHost, KeepsUnits]

theorem PartnerTold.trans {t u s : State} (h : PartnerTold t u) (g : PartnerTold u s) : PartnerTold t s := by
  simp [PartnerTold, KeepsHost, KeepsUnits, h, g]

theorem State.mirrorOut_journal (s : State) (o : Origin) (a : Addr) (w : Word) (c : Bool) (win : Option (List Word)) :
    (s.mirrorOut o a w c win).recd.journal = s.recd.journal := by
  unfold State.mirrorOut
  dsimp only
  split
  · rfl
  · split
    · simp [State.nextFlight_frame _, State.modPair]
    · split
      · rfl
      · exact (congrArg Recorder.journal (s.setUq_recCore _ _) :)

theorem State.mirrorOut_told (s : State) (o : Origin) (a : Addr) (w : Word) (c : Bool) (win : Option (List Word)) :
    PartnerTold (s.mirrorOut o a w c win) s := by
  simp [PartnerTold, State.mirrorOut_frame _ _ _ _ _ _, State.mirrorOut_journal _ _ _ _ _ _, KeepsHost, KeepsUnits]

theorem State.mirrorWrite_told (b s : State) (o : Origin) (r : Reg) (w : Word) : PartnerTold (State.mirrorWrite b s o r w) s := by
  unfold State.mirrorWrite
  dsimp only
  split_ifs
  · exact State.mirrorOut_told _ _ _ _ _ _
  · exact State.mirrorOut_told _ _ _ _ _ _
  · exact PartnerTold.refl _

theorem State.mirrorWrite_unmirrored (b s : State) (o : Origin) {r : Reg} (w : Word) (h : r.mirrored = false) :
    State.mirrorWrite b s o r w = s := by
  simp [State.mirrorWrite, h]

/-! ## A change of a channel's calibration (R234, R370) -/

/-- An analog channel whose calibration a change at a clock has made what `f` makes of it: the copy waits for the calibration store. -/
def Analog.calibrated (a : Analog) (clock : Nat) (f : Analog → Analog) : Analog :=
  { f a with persist := a.persist ++ [(clock, (f a).copy)] }

/-- A change of a channel's calibration, with its record. -/
def State.calibrate (s : State) (code : Nat) (o : Origin) (p q : Word) (n : Fin 16) (f : Analog → Analog) : State :=
  (s.appendJournal code o p q).calChanged n f

theorem State.calibrate_frame (s : State) (code : Nat) (o : Origin) (p q : Word) (n : Fin 16) (f : Analog → Analog) :
    KeepsHost (s.calibrate code o p q n f) s ∧ KeepsUnits (s.calibrate code o p q n f) s ∧ (s.calibrate code o p q n f).wheels = s.wheels
      ∧ (s.calibrate code o p q n f).flt = s.flt ∧ (s.calibrate code o p q n f).rpl = s.rpl ∧ (s.calibrate code o p q n f).pair = s.pair
      ∧ (s.calibrate code o p q n f).cells = s.cells := by
  simp [State.calibrate, State.calChanged_frame _ _ _, State.appendJournal_frame _ _ _ _ _, KeepsHost, KeepsUnits]

theorem State.calibrate_journal (s : State) (code : Nat) (o : Origin) (p q : Word) (n : Fin 16) (f : Analog → Analog) :
    (s.calibrate code o p q n f).recd.journal = s.recd.journal ++ [s.journalRecord code o p q] := by
  simp [State.calibrate, State.calChanged_frame _ _ _, State.appendJournal_journal]

theorem State.calibrate_an (s : State) (code : Nat) (o : Origin) (p q : Word) (n m : Fin 16) (f : Analog → Analog) :
    ((s.calibrate code o p q n f).chan m).an = if n = m then (s.chan m).an.calibrated s.clock f else (s.chan m).an := by
  have hchans : (s.calibrate code o p q n f).chans = (s.modChan n (fun c => { c with an := c.an.calibrated s.clock f })).chans := by
    simp [State.calibrate, State.calChanged, State.sendRing_frame _ _ _, State.appendJournal, State.modChan, Analog.calibrated]
  rw [State.chan_of_chans hchans, State.modChan_chan_ite]
  split <;> rfl

/-- The state after its free words up to a count. -/
def State.withFree (s : State) (c : Nat) : State := { s with freeCtr := c }

theorem State.withFree_frame (s : State) (c : Nat) : KeepsHost (s.withFree c) s ∧ (s.withFree c).svc = s.svc ∧ (s.withFree c).img = s.img
    ∧ (s.withFree c).fab = s.fab ∧ (s.withFree c).adcs = s.adcs ∧ (s.withFree c).filt = s.filt ∧ (s.withFree c).chks = s.chks
    ∧ (s.withFree c).bg = s.bg ∧ (s.withFree c).pwr = s.pwr ∧ (s.withFree c).recd = s.recd ∧ (s.withFree c).wheels = s.wheels
    ∧ (s.withFree c).flt = s.flt ∧ (s.withFree c).chans = s.chans ∧ (s.withFree c).rpl = s.rpl ∧ (s.withFree c).pair = s.pair
    ∧ (s.withFree c).cells = s.cells ∧ (s.withFree c).freeCtr = c := by simp [State.withFree, KeepsHost]

/-- `t` is `s` with the calibration of a channel changed by `f`, the change's record, and `c` free words used; the Ringmaster, the frames to
the Rings and the events are left open. -/
abbrev Calibrates (t s : State) (e : Env) (n : Fin 16) (f : Analog → Analog) (record : Record) (c : Nat) : Prop :=
  (t.chan n).an = (s.chan n).an.calibrated s.clock f ∧ t.recd.journal = s.recd.journal ++ [record]
    ∧ (∀ m, m ≠ n → (t.chan m).an = (s.chan m).an) ∧ RowFrame t s e ∧ t.time = s.time ∧ t.shadows = s.shadows ∧ t.wheels = s.wheels
    ∧ t.flt = s.flt ∧ t.svc = s.svc ∧ t.img = s.img ∧ t.fab = s.fab ∧ t.cells = s.cells ∧ t.adcs = s.adcs ∧ t.filt = s.filt
    ∧ t.rpl = s.rpl ∧ t.chks = s.chks ∧ t.bg = s.bg ∧ t.pwr = s.pwr ∧ t.freeCtr = c

/-- A write that changes the calibration of a channel, of which the partner hears or not. -/
theorem State.submit_calibrates {s : State} {e : Env} {n : Fin 16} {r : ChReg} {w : Word} {v x : State} {code : Nat} {p q : Word}
    {f : Analog → Analog} {c : Nat} (h : s.hostReady e opWrite = true)
    (hact : (s.intake ⟨opWrite, Reg.addr (.ch n r), w, none, e⟩).chWrite (portOrigin e.port) n r w = (v, ⟨.ok, s.recd.seqNext, []⟩))
    (hsent : State.mirrorWrite (s.intake ⟨opWrite, Reg.addr (.ch n r), w, none, e⟩) v (portOrigin e.port) (.ch n r) w = x)
    (htold : PartnerTold x
      (((s.intake ⟨opWrite, Reg.addr (.ch n r), w, none, e⟩).withFree c).calibrate code (portOrigin e.port) p q n f)) :
    (s.submit ⟨opWrite, Reg.addr (.ch n r), w, none, e⟩).answers e .ok s.recd.seqNext [] = true
      ∧ ButForPorts (s.submit ⟨opWrite, Reg.addr (.ch n r), w, none, e⟩) x
      ∧ Calibrates (s.submit ⟨opWrite, Reg.addr (.ch n r), w, none, e⟩) s e n f (s.journalRecord code (portOrigin e.port) p q) c := by
  have hi : SameDevice (s.intake ⟨opWrite, Reg.addr (.ch n r), w, none, e⟩) s := (s.intake_butForPorts _).same
  obtain ⟨hanswer, ht, hother⟩ := State.submit_write_leaves (r := .ch n r) (w := w) (rep := ⟨.ok, s.recd.seqNext, []⟩) h (by simp) hact
    hsent (by simp [htold, State.calibrate_frame _ _ _ _ _ _ _, State.withFree_frame _ _])
  have hsame := ht.same
  generalize s.submit ⟨opWrite, Reg.addr (.ch n r), w, none, e⟩ = t at hanswer ht hother hsame
  generalize s.intake ⟨opWrite, Reg.addr (.ch n r), w, none, e⟩ = i at hi htold
  have hfree := i.withFree_frame c
  have hcal := (i.withFree c).calibrate_frame code (portOrigin e.port) p q n f
  have ⟨_, _, _, _, xChans, _, _, xJournal⟩ := htold
  have ⟨_, hclock, _, _, _, _, _, _, hrecd, _, _, hchans, _⟩ := hi
  have ⟨_, _, _, _, _, _, _, _, tRecd, _, _, tChans, _⟩ := hsame
  have han (m : Fin 16) : (t.chan m).an = if n = m then (s.chan m).an.calibrated s.clock f else (s.chan m).an := by
    rw [State.chan_of_chans (tChans.trans xChans), State.calibrate_an, State.chan_of_chans ((by simp [hfree] : _ = i.chans).trans hchans)]
    simp [hfree, hclock]
  have hjournal : t.recd.journal = s.recd.journal ++ [s.journalRecord code (portOrigin e.port) p q] := by
    rw [tRecd, xJournal, State.calibrate_journal, ← State.journalRecord_of_same hi, ← hrecd]
    rfl
  have hrow : RowFrame t s e := RowFrame.of (by simp [hsame, htold, hcal, hfree, hi]) hother
  refine ⟨hanswer, ht, by rw [han, if_pos rfl], hjournal, fun m hm => by rw [han, if_neg hm.symm], hrow, ?_⟩
  simp [hsame, htold, hcal, hfree, hi]

/-! ## What the changes make of a calibration (R230, R233) -/

/-- A captured point; the other one starts at its reference where ZS_FUNC differed (R230). -/
def Analog.captured (a : Analog) (cfg : ChanCfg) (span : Bool) (v : Int) : Analog :=
  if span then { a.capBase cfg with scap := BitVec.ofInt 32 v } else { a.capBase cfg with zcap := BitVec.ofInt 32 v }

/-- CLEAR (R230). -/
def Analog.zsCleared (a : Analog) (cfg : ChanCfg) : Analog := { a with zcap := cfg.zref, scap := cfg.sref, zsFunc := 0#4 }

/-- The trims under a function: both 0 where TRIM_FUNC differed (R233). -/
def Analog.trimBase (a : Analog) (func : Nat) : Analog :=
  if a.trimFunc.toNat = func then a else { a with trimOfs := 0#32, trimGain := 0#32, trimFunc := BitVec.ofNat 4 func }

/-- A written trim (R233). -/
def Analog.trimmed (a : Analog) (func : Nat) (gain : Bool) (w : Word) : Analog :=
  if gain then { a.trimBase func with trimGain := w } else { a.trimBase func with trimOfs := w }

theorem Analog.calibrated_persist (a : Analog) (k : Nat) (f : Analog → Analog) :
    (a.calibrated k f).persist = a.persist ++ [(k, (a.calibrated k f).copy)] := rfl

theorem ChanCfg.func_lt (c : ChanCfg) : c.func < 16 := Nat.mod_lt _ (by decide)

theorem Analog.capBase_fields (a : Analog) (cfg : ChanCfg) :
    (a.capBase cfg).zcap = (if a.zsFunc.toNat = cfg.func then a.zcap else cfg.zref)
      ∧ (a.capBase cfg).scap = (if a.zsFunc.toNat = cfg.func then a.scap else cfg.sref)
      ∧ (a.capBase cfg).zsFunc.toNat = cfg.func ∧ (a.capBase cfg).trimFunc = a.trimFunc := by
  unfold Analog.capBase
  split
  next h => exact ⟨rfl, rfl, h, rfl⟩
  next => exact ⟨rfl, rfl, by simpa using Nat.mod_eq_of_lt cfg.func_lt, rfl⟩

theorem Analog.trimBase_fields (a : Analog) {func : Nat} (h : func < 16) :
    (a.trimBase func).trimOfs = (if a.trimFunc.toNat = func then a.trimOfs else 0#32)
      ∧ (a.trimBase func).trimGain = (if a.trimFunc.toNat = func then a.trimGain else 0#32)
      ∧ (a.trimBase func).trimFunc.toNat = func ∧ (a.trimBase func).zcap = a.zcap := by
  unfold Analog.trimBase
  split
  next h => exact ⟨rfl, rfl, h, rfl⟩
  next => exact ⟨rfl, rfl, by simpa using Nat.mod_eq_of_lt h, rfl⟩

theorem Analog.trimmed_fields (a : Analog) {func : Nat} (gain : Bool) (w : Word) (h : func < 16) :
    (gain = true → (a.trimmed func gain w).trimGain = w
        ∧ (a.trimmed func gain w).trimOfs = if a.trimFunc.toNat = func then a.trimOfs else 0#32)
      ∧ (gain = false → (a.trimmed func gain w).trimOfs = w
        ∧ (a.trimmed func gain w).trimGain = if a.trimFunc.toNat = func then a.trimGain else 0#32)
      ∧ (a.trimmed func gain w).trimFunc.toNat = func ∧ (a.trimmed func gain w).zcap = a.zcap := by
  obtain ⟨hofs, hgain, htrim, hzcap⟩ := a.trimBase_fields h
  cases gain with
  | false => exact ⟨nofun, fun _ => ⟨rfl, hgain⟩, htrim, hzcap⟩
  | true => exact ⟨fun _ => ⟨rfl, hofs⟩, nofun, htrim, hzcap⟩

theorem State.captureValue_appended (s : State) (code : Nat) (o : Origin) (p q : Word) (n : Fin 16) (span : Bool) (v : Int) :
    (s.appendJournal code o p q).captureValue n span v = s.calibrate code o p q n (fun a => a.captured (s.chan n).cfg span v) := rfl

theorem State.zsClear_appended (s : State) (code : Nat) (o : Origin) (p q : Word) (n : Fin 16) :
    (s.appendJournal code o p q).zsClear n = s.calibrate code o p q n (fun a => a.zsCleared (s.chan n).cfg) := rfl

theorem State.trimWrite_appended (s : State) (code : Nat) (o : Origin) (p q : Word) (n : Fin 16) (gain : Bool) (w : Word) :
    (s.appendJournal code o p q).trimWrite n gain w = s.calibrate code o p q n (fun a => a.trimmed (s.chan n).cfg.func gain w) := rfl

/-! ## Trims (R233) -/

theorem trimBad_eq (func : Nat) (gain : Bool) (v : Int) :
    trimBad func gain v = true ↔ ¬ (func = 7 ∨ func = 8) ∨ (if gain then 50000 else if func = 7 then 500000 else 100000) < v.natAbs := by
  by_cases h7 : func = 7 <;> cases gain <;> simp [trimBad, isAo, h7, -Nat.cast_natAbs]

theorem State.writeTrim_roomy {s : State} (o : Origin) {n : Fin 16} {gain : Bool} {w : Word} (hroom : s.recd.journal.length < 2047)
    (hin : trimBad (s.chan n).cfg.func gain w.toInt = false) :
    s.writeTrim o n gain w = (s.calibrate 1 o (word (Reg.addrNat (.ch n (if gain then .anTrimGain else .anTrimOfs)))) w n
      (fun a => a.trimmed (s.chan n).cfg.func gain w), ⟨.ok, s.recd.seqNext, []⟩) := by
  simp [State.writeTrim, guarded, firstRefusal, refuseLow, lowest, hin, State.changeWrite, State.change_roomy _ _ _ _ _ hroom,
    State.trimWrite_appended]

theorem State.writeTrim_refuses {s : State} (o : Origin) {n : Fin 16} {gain : Bool} {w : Word}
    (hout : trimBad (s.chan n).cfg.func gain w.toInt = true) : s.writeTrim o n gain w = (s, .refused 0) := by
  simp [State.writeTrim, guarded, firstRefusal, refuseLow, lowest, hout]

theorem State.chWrite_trim (s : State) (o : Origin) (n : Fin 16) (gain : Bool) (w : Word) :
    s.chWrite o n (if gain then .anTrimGain else .anTrimOfs) w = s.writeTrim o n gain w := by cases gain <;> rfl

/-! ## CLEAR and captures (R230) -/

theorem fld_setFld_low (w : Word) {v : Nat} (h : v < 8) : fld (setFld w 0 3 v) 0 3 = v := by
  simp [fld, setFld]
  omega

theorem State.writeZscmd_clears {s : State} (o : Origin) {n : Fin 16} {w : Word} (hw : fld w 0 3 = 4) (hroom : s.recd.journal.length < 2047)
    (hzs : (s.chan n).cfg.zsAllowed = true) :
    s.writeZscmd o n w = (s.calibrate 1 o (word (Reg.addrNat (.ch n .anZscmd))) w n (fun a => a.zsCleared (s.chan n).cfg),
      ⟨.ok, s.recd.seqNext, []⟩) := by
  simp [State.writeZscmd, hw, guarded, firstRefusal, check, hzs, State.changeWrite, State.change_roomy _ _ _ _ _ hroom,
    State.zsClear_appended]

theorem State.loopValue_of_same {i s u : State} {n : Fin 16} {v : Int} (hi : SameDevice i s) (h : s.loopValue n = (v, u)) :
    i.loopValue n = (v, i.withFree u.freeCtr) := by
  have ⟨_, hclock, _, _, _, _, _, ⟨_, _, _, _, _, _, _, _, _, hfree⟩, _, _, _, hchans, _⟩ := hi
  unfold State.loopValue at h ⊢
  rw [State.chan_of_chans hchans, hclock]
  split at h
  next => obtain ⟨rfl, rfl⟩ := Prod.mk.inj h; rw [← hfree]; rfl
  next => obtain ⟨rfl, rfl⟩ := Prod.mk.inj h; simp [State.free, State.withFree, hfree]

theorem State.captureCode_withFree {i s : State} (hi : ButForPorts i s) (c : Nat) (n : Fin 16) (span : Bool) (v : Int) :
    (i.withFree c).captureCode n span v = s.captureCode n span v := by
  rw [hi]; rfl

/-- The command of a capture, with the loop value in hand. -/
theorem State.writeZscmd_captures {i s u : State} (o : Origin) {n : Fin 16} {span : Bool} {w : Word} {v : Int}
    (hw : fld w 0 3 = if span then 2 else 1) (hi : ButForPorts i s) (hv : s.loopValue n = (v, u)) :
    i.writeZscmd o n w = (i.withFree u.freeCtr).commandCapture o n span v := by
  cases span <;> simp [State.writeZscmd, hw, State.loopValue_of_same hi.same hv]

/-- A capture that R230 allows, with its record, of which the partner hears. -/
theorem State.commandCapture_roomy {s : State} (o : Origin) {n : Fin 16} {span : Bool} {v : Int} (hroom : s.recd.journal.length < 2047)
    (hcode : s.captureCode n span v = 0) :
    s.commandCapture o n span v = ((s.calibrate 6 o (word (n.1 + b2n span * 256)) (BitVec.ofInt 32 v) n
      (fun a => a.captured (s.chan n).cfg span v)).mirrorOut o (Reg.ch n (if span then .anScap else .anZcap)).addr (BitVec.ofInt 32 v) true none,
      ⟨.ok, s.recd.seqNext, []⟩) := by
  simp [State.commandCapture, hcode, State.change_roomy _ _ _ _ _ hroom, State.capture, State.captureValue_appended]

theorem State.commandCapture_refuses {s : State} (o : Origin) {n : Fin 16} {span : Bool} {v : Int} {k : Nat}
    (hcode : s.captureCode n span v = k) (h0 : k ≠ 0) (h9 : k ≠ 9) :
    s.commandCapture o n span v
      = ({ s with svc := { s.svc with lastRefusal := s.svc.lastRefusal.set n.1 (BitVec.ofNat 4 k) } }, .refused (b2n span)) := by
  simp [State.commandCapture, hcode, h0, h9]

/-! ## The rows -/

/-- A trim in range, of which the partner does not hear (R233, R443). -/
theorem trimWrite_calibrates {s : State} {e : Env} {n : Fin 16} {gain : Bool} {w : Word} (h : s.hostReady e opWrite = true)
    (hroom : s.recd.journal.length < 2047) (hin : trimBad (s.chan n).cfg.func gain w.toInt = false) :
    ∃ t, exec (.trimWrite e n gain w) s = .next t ∧ t.answers e .ok s.recd.seqNext [] = true ∧ t.pair = s.pair
      ∧ Calibrates t s e n (fun a => a.trimmed (s.chan n).cfg.func gain w) (s.journalRecord 1 (portOrigin e.port)
        (word (Reg.addrNat (.ch n (if gain then .anTrimGain else .anTrimOfs)))) w) s.freeCtr := by
  have hact := (State.chWrite_trim (s.intake ⟨opWrite, Reg.addr (.ch n (if gain then .anTrimGain else .anTrimOfs)), w, none, e⟩) (portOrigin e.port)
    n gain w).trans (State.writeTrim_roomy _ hroom hin)
  have hm : (Reg.ch n (if gain then .anTrimGain else .anTrimOfs)).mirrored = false := by cases gain <;> rfl
  obtain ⟨hanswer, ht, hcal⟩ := State.submit_calibrates (c := s.freeCtr) h hact (State.mirrorWrite_unmirrored _ _ _ _ hm) (PartnerTold.refl _)
  have ⟨_, _, _, _, _, _, _, _, _, _, _, _, _, _, hpair, _⟩ := ht.same
  exact ⟨_, rfl, hanswer, by simp [hpair, State.calibrate_frame _ _ _ _ _ _ _, State.intake_frame _ _], hcal⟩

/-- CLEAR (R230). -/
theorem zsClear_calibrates {s : State} {e : Env} {n : Fin 16} (w : Word) (h : s.hostReady e opWrite = true)
    (hroom : s.recd.journal.length < 2047) (hzs : (s.chan n).cfg.zsAllowed = true) :
    ∃ t, exec (.zsClear e n w) s = .next t ∧ t.answers e .ok s.recd.seqNext [] = true
      ∧ Calibrates t s e n (fun a => a.zsCleared (s.chan n).cfg) (s.journalRecord 1 (portOrigin e.port) (word (Reg.addrNat (.ch n .anZscmd)))
        (setFld w 0 3 4)) s.freeCtr := by
  obtain ⟨hanswer, -, hcal⟩ := State.submit_calibrates (r := .anZscmd) (c := s.freeCtr) h
    (State.writeZscmd_clears _ (fld_setFld_low w (by decide)) hroom hzs) rfl (State.mirrorWrite_told _ _ _ _ _)
  exact ⟨_, rfl, hanswer, hcal⟩

/-- A capture that R230 allows, by the word that commands it. -/
theorem State.submit_captures {s u : State} {e : Env} {n : Fin 16} {span : Bool} {w : Word} {v : Int} (h : s.hostReady e opWrite = true)
    (hroom : s.recd.journal.length < 2047) (hw : fld w 0 3 = if span then 2 else 1) (hv : s.loopValue n = (v, u))
    (hcode : s.captureCode n span v = 0) :
    (s.submit ⟨opWrite, Reg.addr (.ch n .anZscmd), w, none, e⟩).answers e .ok s.recd.seqNext [] = true
      ∧ Calibrates (s.submit ⟨opWrite, Reg.addr (.ch n .anZscmd), w, none, e⟩) s e n (fun a => a.captured (s.chan n).cfg span v)
        (s.journalRecord 6 (portOrigin e.port) (word (n.1 + b2n span * 256)) (BitVec.ofInt 32 v)) u.freeCtr := by
  have hi := s.intake_butForPorts ⟨opWrite, Reg.addr (.ch n .anZscmd), w, none, e⟩
  have hact := (State.writeZscmd_captures (portOrigin e.port) hw hi hv).trans
    (State.commandCapture_roomy _ hroom ((State.captureCode_withFree hi _ _ _ _).trans hcode))
  obtain ⟨hanswer, -, hcal⟩ := State.submit_calibrates (r := .anZscmd) h hact rfl
    ((State.mirrorWrite_told _ _ _ _ _).trans (State.mirrorOut_told _ _ _ _ _ _))
  exact ⟨hanswer, hcal⟩

theorem capZero_calibrates {s u : State} {e : Env} {n : Fin 16} {v : Int} (w : Word) (h : s.hostReady e opWrite = true)
    (hroom : s.recd.journal.length < 2047) (hv : s.loopValue n = (v, u)) (hcode : s.captureCode n false v = 0) :
    ∃ t, exec (.capZero e n w) s = .next t ∧ t.answers e .ok s.recd.seqNext [] = true
      ∧ Calibrates t s e n (fun a => a.captured (s.chan n).cfg false v)
        (s.journalRecord 6 (portOrigin e.port) (word (n.1 + 0)) (BitVec.ofInt 32 v)) u.freeCtr :=
  ⟨_, rfl, State.submit_captures h hroom (fld_setFld_low w (by decide)) hv hcode⟩

theorem capSpan_calibrates {s u : State} {e : Env} {n : Fin 16} {v : Int} (w : Word) (h : s.hostReady e opWrite = true)
    (hroom : s.recd.journal.length < 2047) (hv : s.loopValue n = (v, u)) (hcode : s.captureCode n true v = 0) :
    ∃ t, exec (.capSpan e n w) s = .next t ∧ t.answers e .ok s.recd.seqNext [] = true
      ∧ Calibrates t s e n (fun a => a.captured (s.chan n).cfg true v)
        (s.journalRecord 6 (portOrigin e.port) (word (n.1 + 256)) (BitVec.ofInt 32 v)) u.freeCtr :=
  ⟨_, rfl, State.submit_captures h hroom (fld_setFld_low w (by decide)) hv hcode⟩

/-- A capture that R230 refuses keeps its code (R246). -/
theorem capSpan_refuses {s u : State} {e : Env} {n : Fin 16} {v : Int} {k : Nat} (w : Word) (h : s.hostReady e opWrite = true)
    (hv : s.loopValue n = (v, u)) (hcode : s.captureCode n true v = k) (h0 : k ≠ 0) (h9 : k ≠ 9) :
    ∃ t, exec (.capSpan e n w) s = .next t ∧ t.answers e .refused 1#32 [] = true
      ∧ t.svc = { s.svc with lastRefusal := s.svc.lastRefusal.set n.1 (BitVec.ofNat 4 k) } ∧ t.chans = s.chans ∧ t.recd = s.recd
      ∧ RowFrame t s e := by
  have hi := s.intake_butForPorts ⟨opWrite, Reg.addr (.ch n .anZscmd), setFld w 0 3 2, none, e⟩
  have hw : fld (setFld w 0 3 2) 0 3 = if true then 2 else 1 := fld_setFld_low w (by decide)
  have hact := (State.writeZscmd_captures (portOrigin e.port) hw hi hv).trans
    (State.commandCapture_refuses _ ((State.captureCode_withFree hi _ _ _ _).trans hcode) h0 h9)
  obtain ⟨hanswer, ht, hother⟩ := State.submit_write_leaves (r := .ch n .anZscmd) h (by simp) hact (if_neg nofun) rfl
  have hsame := ht.same
  refine ⟨_, rfl, hanswer, ?_, ?_, ?_, RowFrame.of ?_ hother⟩ <;> simp [hsame, State.withFree_frame _ _, State.intake_frame _ _]

theorem anSetWrite_refuses {s : State} {e : Env} {n : Fin 16} {w : Word} (h : s.hostReady e opWrite = true)
    (hbad : setOutside (s.chan n).cfg.func (s.chan n).cfg.range w = true) :
    ∃ t, exec (.anSetWrite e n w) s = .next t ∧ t.answers e .refused 0#32 [] = true ∧ ButForPorts t s ∧ RowFrame t s e :=
  ⟨_, rfl, State.submit_write_refused (.ch n .anSet) (.refused 0) h (by simp) (State.writeAnSet_refuses hbad) nofun⟩

theorem anCmdWrite_held {s : State} {e : Env} {n : Fin 16} {w : Word} (h : s.hostReady e opWrite = true) (hbound : s.driveBound n = true)
    (hdiff : bit w 0 ≠ (s.chan n).cmd.anOn) :
    ∃ t, exec (.anCmdWrite e n w) s = .next t ∧ t.answers e .held 0x200#32 [] = true ∧ ButForPorts t s ∧ RowFrame t s e :=
  ⟨_, rfl, State.submit_write_refused (.ch n .anCmd) (.held boundCode) h (by simp) (State.writeAnCmd_held hbound hdiff) nofun⟩

theorem trimWrite_refuses {s : State} {e : Env} {n : Fin 16} {gain : Bool} {w : Word} (h : s.hostReady e opWrite = true)
    (hout : trimBad (s.chan n).cfg.func gain w.toInt = true) :
    ∃ t, exec (.trimWrite e n gain w) s = .next t ∧ t.answers e .refused 0#32 [] = true ∧ ButForPorts t s ∧ RowFrame t s e :=
  ⟨_, rfl, State.submit_write_refused (.ch n (if gain then .anTrimGain else .anTrimOfs)) (.refused 0) h (by simp)
    ((State.chWrite_trim _ _ n gain w).trans (State.writeTrim_refuses _ hout)) nofun⟩

/-- Settles O38, row by row: setpoints and their refusals, captures and their refusals, CLEAR, and trims. -/
theorem analogSetpointsAndCalibrationAreWritten : Obligations.AnalogSetpointsAndCalibrationAreWritten := by
  unfold Obligations.AnalogSetpointsAndCalibrationAreWritten
  intro e n s
  refine ⟨?_, ?_, ?_, ?_, ?_, ?_, ?_, ?_, ?_, ?_⟩
  · exact fun w h hin hrpl => State.submit_setpoint (r := .anSet) h (State.writeAnSet_passes hin hrpl)
  · intro w h hfunc hout
    obtain ⟨t, hsays, hanswer, hs, hrow⟩ := anSetWrite_refuses h (by rw [hfunc]; exact setOutside_current _ hout)
    exact ⟨t, hsays, hanswer, by simpa [hs.same] using hrow⟩
  · exact fun w h hfree hrpl => State.submit_setpoint (r := .anCmd) h (State.writeAnCmd_passes hfree hrpl)
  · intro w h hbound hdiff
    obtain ⟨t, hsays, hanswer, hs, hrow⟩ := anCmdWrite_held h hbound hdiff
    exact ⟨t, hsays, hanswer, by simpa [hs.same] using hrow⟩
  · intro w v u h hroom hv hcode
    obtain ⟨t, hsays, hanswer, han, hjournal, hrest⟩ := capZero_calibrates w h hroom hv hcode
    obtain ⟨-, hscap, hfunc, htrim⟩ := (s.chan n).an.capBase_fields (s.chan n).cfg
    refine ⟨t, hsays, hanswer, ?_, ?_, ?_, ?_, ?_, hjournal, hrest⟩
    · rw [han]; rfl
    · rw [han]; exact hscap
    · rw [han]; exact hfunc
    · rw [han, Analog.calibrated_persist]
    · rw [han]; exact htrim
  · intro w v u h hroom hv hcode
    obtain ⟨t, hsays, hanswer, han, hjournal, hrest⟩ := capSpan_calibrates w h hroom hv hcode
    obtain ⟨hzcap, -, hfunc, htrim⟩ := (s.chan n).an.capBase_fields (s.chan n).cfg
    refine ⟨t, hsays, hanswer, ?_, ?_, ?_, ?_, ?_, hjournal, hrest⟩
    · rw [han]; rfl
    · rw [han]; exact hzcap
    · rw [han]; exact hfunc
    · rw [han, Analog.calibrated_persist]
    · rw [han]; exact htrim
  · exact fun w v u k h hv hcode h0 h9 => capSpan_refuses w h hv hcode h0 h9
  · intro w h hroom hzs
    obtain ⟨t, hsays, hanswer, han, hjournal, hrest⟩ := zsClear_calibrates w h hroom hzs
    refine ⟨t, hsays, hanswer, ?_, ?_, ?_, ?_, hjournal, hrest⟩
    · rw [han]; rfl
    · rw [han]; rfl
    · rw [han]; rfl
    · rw [han, Analog.calibrated_persist]
  · intro gain w h hroom hfunc hin
    have hgood : trimBad (s.chan n).cfg.func gain w.toInt = false := by
      rw [← Bool.not_eq_true, trimBad_eq]; simp [hfunc, hin]
    obtain ⟨t, hsays, hanswer, hpair, han, hjournal, hothers, hrow, hrest⟩ := trimWrite_calibrates h hroom hgood
    obtain ⟨hgain, hofs, htrim, hzcap⟩ := (s.chan n).an.trimmed_fields gain w (s.chan n).cfg.func_lt
    refine ⟨t, hsays, hanswer, ?_, ?_, ?_, ?_, ?_, hjournal, hothers, hrow, hpair, hrest⟩
    · rw [han]; exact hgain
    · rw [han]; exact hofs
    · rw [han]; exact htrim
    · rw [han]; exact hzcap
    · rw [han, Analog.calibrated_persist]
  · intro gain w h hout
    obtain ⟨t, hsays, hanswer, hs, hrow⟩ := trimWrite_refuses h ((trimBad_eq _ _ _).2 hout)
    exact ⟨t, hsays, hanswer, by simpa [hs.same] using hrow⟩

end Sys2Proof.Machine
end

section
/-! PROOFS. What the row of one channel leaves alone, and the diagnostics that it raises on its Ring (R178, R261, R352). -/

namespace Sys2Proof.Machine

/-! ## Changes of one channel -/

theorem State.modChan_modChan (s : State) (n : Fin 16) (f g : Chan → Chan) : (s.modChan n f).modChan n g = s.modChan n (fun c => g (f c)) := by
  simp [State.modChan, tmod]

theorem State.modChan_congr {s : State} {n : Fin 16} {f g : Chan → Chan} (h : f (s.chan n) = g (s.chan n)) : s.modChan n f = s.modChan n g := by
  show { s with chans := s.chans.set n.1 (f (s.chan n)) n.2 } = { s with chans := s.chans.set n.1 (g (s.chan n)) n.2 }
  rw [h]

/-! ## Rows of one channel -/

theorem ChanFrame.trans {t u s : State} {n : Fin 16} (h : ChanFrame t u n) (g : ChanFrame u s n) : ChanFrame t s n := by
  obtain ⟨h1, h2, h3, h4, h5, h6, h7, h8, hchan, hring⟩ := h
  obtain ⟨g1, g2, g3, g4, g5, g6, g7, g8, gchan, gring⟩ := g
  refine ⟨?_, ?_, h3.trans g3, h4.trans g4, h5.trans g5, h6.trans g6, h7.trans g7, h8.trans g8,
    fun m hm => (hchan m hm).trans (gchan m hm), fun y hy hn => (hring y hy hn).trans (gring y hy hn)⟩
  · simp [KeepsHost, h1, g1]
  · simp [KeepsUnits, h2, g2]

theorem State.modChan_chanFrame (s : State) (n : Fin 16) (f : Chan → Chan) : ChanFrame (s.modChan n f) s n :=
  ⟨by simp [KeepsHost], by simp [KeepsUnits], rfl, rfl, rfl, rfl, rfl, rfl, fun _ hm => State.modChan_chan_ne _ _ _ _ hm.symm,
    fun _ _ _ => rfl⟩

theorem State.modRing_chanFrame (s : State) (n : Fin 16) (f : Ring → Ring) : ChanFrame (s.modRing (ringOf n) f) s n :=
  ⟨by simp [KeepsHost], by simp [KeepsUnits], rfl, rfl, rfl, rfl, rfl, rfl, fun _ _ => rfl,
    fun _ _ hy => State.modRing_ring_ne _ _ _ _ hy.symm⟩

theorem State.diagRaise_chanFrame (s : State) (n : Fin 16) (m : Nat) (d : Word) : ChanFrame (s.diagRaise n m d) s n := by
  obtain ⟨hhost, hunits, hrecd, hwheels, hflt, hrpl, hpair, hcells, -⟩ := s.diagRaise_frame n m d
  exact ⟨hhost, hunits, hrecd, hwheels, hflt, hrpl, hpair, hcells, fun k hk => State.diagRaise_chan_ne _ _ _ _ _ hk.symm,
    fun y _ hy => State.diagRaise_ring_ne _ _ _ _ _ hy⟩

theorem State.diagClear_chanFrame (s : State) (n : Fin 16) (m : Nat) : ChanFrame (s.diagClear n m) s n := by
  obtain ⟨hhost, hunits, hrecd, hwheels, hflt, hrpl, hpair, hcells, -⟩ := s.diagClear_frame n m
  exact ⟨hhost, hunits, hrecd, hwheels, hflt, hrpl, hpair, hcells, fun k hk => State.diagClear_chan_ne _ _ _ _ hk.symm,
    fun y _ hy => (congrArg Prod.fst (State.diagClear_side s n m y hy.symm) :)⟩

/-! ## Reports -/

/-- What a channel's next report says, and the reports that it follows, are the same in both states (R352). -/
structure ReportsAlike (u s : State) (n : Fin 16) : Prop where
  live : (u.chan n).live = (s.chan n).live
  func : (u.chan n).rng.func = (s.chan n).rng.func
  reports : (u.ring (ringOf n)).reports = (s.ring (ringOf n)).reports
  link : (u.ring (ringOf n)).link = (s.ring (ringOf n)).link
  ringLost : (u.ring (ringOf n)).ringLost = (s.ring (ringOf n)).ringLost
  tick : u.tick = s.tick
  clock : u.clock = s.clock

theorem ReportsAlike.diagReport {u s : State} {n : Fin 16} (h : ReportsAlike u s n) (m : Nat) (d : Word) : u.diagReport n m d = s.diagReport n m d := by
  simp only [State.diagReport, h.func, h.tick, h.clock, h.link, h.ringLost]

theorem ReportsAlike.raised {t u s : State} {n : Fin 16} {m : Nat} {d : Word} (h : ReportsAlike u s n) (hr : DiagRaised t u n m d) : DiagRaised t s n m d := by
  simpa only [DiagRaised, h.live, h.reports, h.diagReport] using hr

theorem ReportsAlike.trans {t u s : State} {n : Fin 16} (h : ReportsAlike t u n) (g : ReportsAlike u s n) : ReportsAlike t s n :=
  ⟨h.live.trans g.live, h.func.trans g.func, h.reports.trans g.reports, h.link.trans g.link, h.ringLost.trans g.ringLost, h.tick.trans g.tick,
    h.clock.trans g.clock⟩

/-- A change of a channel that leaves its live diagnostics and its function. -/
theorem State.modChan_reportsAlike (s : State) (n : Fin 16) (f : Chan → Chan) (hl : (f (s.chan n)).live = (s.chan n).live)
    (hf : (f (s.chan n)).rng.func = (s.chan n).rng.func) : ReportsAlike (s.modChan n f) s n :=
  ⟨by rw [State.modChan_chan, hl], by rw [State.modChan_chan, hf], rfl, rfl, rfl, rfl, rfl⟩

/-- A diagnostic that is instant is reported, and never live (R178, R352). -/
theorem State.diagRaise_instant (s : State) (n : Fin 16) (m : Nat) (d : Word) (hi : m = 14 ∨ m = 26 ∨ m = 28)
    (hl : (s.chan n).live.getLsbD m = false) :
    ((s.diagRaise n m d).chan n).live = (s.chan n).live
      ∧ ((s.ring (ringOf n)).reports.length < 32 →
          ((s.diagRaise n m d).ring (ringOf n)).reports = (s.ring (ringOf n)).reports ++ [s.diagReport n m d]) := by
  have hmod : m % 32 = m := Nat.mod_eq_of_lt (by omega)
  unfold State.diagRaise
  dsimp only
  rw [hmod, if_neg (by simp [hl])]
  refine ⟨?_, fun hlen => ?_⟩
  · rw [State.ringReport_chan, State.modChan_chan]; simp [hi]
  · unfold State.ringReport
    rw [State.modRing_ring, State.modChan_ring, if_pos hlen]
    rfl

/-! ## Diagnostics that end (R512) -/

/-- A channel without its live diagnostics. -/
def Chan.unlive (c : Chan) : Chan := { c with live := 0#32 }

theorem State.diagClear_unlive (s : State) (i : Fin 16) (m : Nat) (n : Fin 16) : ((s.diagClear i m).chan n).unlive = (s.chan n).unlive := by
  unfold State.diagClear
  split
  · rw [State.ringReport_chan, State.modChan_chan_ite]; split <;> rfl
  · rfl

theorem State.diagClear_dead (s : State) (n : Fin 16) (m : Nat) (hm : m < 32) : ((s.diagClear n m).chan n).live.getLsbD m = false := by
  unfold State.diagClear
  rw [Nat.mod_eq_of_lt hm]
  split
  · rw [State.ringReport_chan, State.modChan_chan]; simp [hm]
  next h => exact Bool.eq_false_iff.2 h

theorem State.diagClear_of_dead {s : State} {n : Fin 16} {m : Nat} (hm : m < 32) (h : (s.chan n).live.getLsbD m = false) : s.diagClear n m = s := by
  unfold State.diagClear
  rw [Nat.mod_eq_of_lt hm, if_neg (by simp [h])]

/-- A diagnostic that is not live stays so while others end. -/
theorem State.diagClear_live_of_dead {s : State} {n : Fin 16} (m b : Nat) (h : (s.chan n).live.getLsbD b = false) :
    ((s.diagClear n m).chan n).live.getLsbD b = false := by
  unfold State.diagClear
  split
  · rw [State.ringReport_chan, State.modChan_chan, BitVec.getLsbD_and, h, Bool.false_and]
  · exact h

/-! ## Detections under a guard (R261) -/

theorem State.guardedDetect_unguarded {s : State} {n : Fin 16} (m : Nat) (hg : s.guardOf n = none) : s.guardedDetect n m = s.diagRaise n m := by
  unfold State.guardedDetect; rw [hg]

/-- What detects under a guard does nothing, waits, or is unguarded and raised. -/
theorem State.guardedDetect_cases (s : State) (n : Fin 16) (m : Nat) :
    s.guardedDetect n m = s ∨ (∃ w, s.guardedDetect n m = s.modChan n (fun c => { c with guardWait := w }))
      ∨ s.guardedDetect n m = s.diagRaise n m := by
  unfold State.guardedDetect
  split
  · exact .inr (.inr rfl)
  · split
    · exact .inl rfl
    · exact .inr (.inl ⟨_, State.modChan_congr rfl⟩)

/-- A channel without what a detection writes of it: the diagnostics, and those that wait for the tests of a guard. -/
def Chan.undetected (c : Chan) : Chan := { c.undiagnosed with guardWait := [] }

theorem State.guardedDetect_undetected (s : State) (n : Fin 16) (m : Nat) : ((s.guardedDetect n m).chan n).undetected = (s.chan n).undetected := by
  obtain h | ⟨w, h⟩ | h := s.guardedDetect_cases n m <;> rw [h]
  · rw [State.modChan_chan]; rfl
  · exact (congrArg (fun c : Chan => { c with guardWait := [] }) (s.diagRaise_undiagnosed n m 0#32 n) :)

theorem State.guardedDetect_chanFrame (s : State) (n : Fin 16) (m : Nat) : ChanFrame (s.guardedDetect n m) s n := by
  obtain h | ⟨w, h⟩ | h := s.guardedDetect_cases n m <;> rw [h]
  · simp [ChanFrame, KeepsHost, KeepsUnits]
  · exact s.modChan_chanFrame n _
  · exact s.diagRaise_chanFrame n m _

theorem State.guardedDetect_waits (s : State) (n : Fin 16) (m : Nat) (hm : m < 32) : GuardedWait (s.guardedDetect n m) s n m := by
  intro g hg
  unfold State.guardedDetect
  rw [hg]
  dsimp only
  rw [Nat.mod_eq_of_lt hm]
  refine ⟨fun hp hl hw => if_neg ?_, fun hp => if_pos (by simp [hp])⟩
  simpa [hp, hl] using fun b h => hw (m, b) h rfl

/-- A detection: raised without a guard, and waiting with one (R178, R261). -/
theorem State.guardedDetect_detects (s : State) (n : Fin 16) (m : Nat) (hm : m < 32) (hi : m ≠ 14 ∧ m ≠ 26 ∧ m ≠ 28) :
    (s.guardOf n = none → DiagRaised (s.guardedDetect n m) s n m) ∧ GuardedWait (s.guardedDetect n m) s n m
      ∧ ((s.guardedDetect n m).chan n).undetected = (s.chan n).undetected ∧ ChanFrame (s.guardedDetect n m) s n :=
  ⟨fun hg => by rw [State.guardedDetect_unguarded m hg]; exact s.diagRaise_raised n m 0#32 hm hi, s.guardedDetect_waits n m hm,
    s.guardedDetect_undetected n m, s.guardedDetect_chanFrame n m⟩

end Sys2Proof.Machine
end

section
/-! PROOFS. The diagnostics of the inputs: open wires, reversed inputs and ranges that are exceeded (R177, R179, R242, R506, R509). -/

namespace Sys2Proof.Machine

/-- A diagnostic that is not instant is all that a row does (R178, R352). -/
theorem State.diagRaise_row (s : State) (n : Fin 16) (m : Nat) (hm : m < 32) (hi : m ≠ 14 ∧ m ≠ 26 ∧ m ≠ 28) :
    DiagRaised (s.diagRaise n m) s n m ∧ ((s.diagRaise n m).chan n).inp = (s.chan n).inp ∧ ((s.diagRaise n m).chan n).an = (s.chan n).an
      ∧ ChanFrame (s.diagRaise n m) s n :=
  have hkeeps := s.diagRaise_undiagnosed n m 0#32 n
  ⟨s.diagRaise_raised n m 0#32 hm hi, (congrArg Chan.inp hkeeps :), (congrArg Chan.an hkeeps :), s.diagRaise_chanFrame n m _⟩

theorem openWire_eq (n : Fin 16) (s : State) : exec (.openWire n) s = .next (whenDo (s.judgesOpenWire n) (fun s => s.guardedDetect n 5) s) := rfl

theorem reversed_eq (n : Fin 16) (s : State) :
    exec (.reversed n) s = .next (whenDo (s.ringRuns n && isDi (s.chan n).rng.func) (fun s => s.diagRaise n 12) s) := rfl

theorem overrange_eq (n : Fin 16) (s : State) :
    exec (.overrange n) s = .next (whenDo (((s.chan n).rng.func = 2 && s.samples n) || (isAi (s.chan n).rng.func && s.ringRuns n && !(s.chan n).latch))
      (fun s => s.diagRaise n 13) s) := rfl

/-- No output, no train line, and neither touch nor plug judges OPEN_WIRE (R177, R242). -/
theorem State.judgesOpenWire_of_func {s : State} {n : Fin 16}
    (h : (s.chan n).rng.func = 2 ∨ (3 < (s.chan n).rng.func ∧ (s.chan n).rng.func < 9) ∨ 12 < (s.chan n).rng.func) : s.judgesOpenWire n = false := by
  have hdi : ¬((s.chan n).rng.func = 1 ∨ (s.chan n).rng.func = 3) := by omega
  have hai : ¬(((s.chan n).rng.func = 9 ∨ (s.chan n).rng.func = 10) ∨ (s.chan n).rng.func = 11) := by omega
  have hratio : (s.chan n).rng.func ≠ 12 := by omega
  unfold State.judgesOpenWire
  simp only [← Bool.decide_or, hdi, hai, hratio, decide_false, Bool.false_and, Bool.or_self, Bool.and_false]

/-- Settles O32, row by row: each diagnostic is raised where its function judges it, and nothing happens elsewhere. -/
theorem inputDiagnosticsAreRaised : Obligations.InputDiagnosticsAreRaised := by
  unfold Obligations.InputDiagnosticsAreRaised
  intro n s
  refine ⟨fun hj => ?_, fun hf => ?_, fun hr hlo hhi => ?_, fun hf => ?_, fun hf hs => ?_, fun hlo hhi hr hl => ?_, fun hf => ?_⟩
  · obtain ⟨hraised, hwaits, hkeeps, hframe⟩ := s.guardedDetect_detects n 5 (by decide) (by decide)
    exact ⟨_, by rw [openWire_eq, whenDo_of hj], hraised, hwaits, (congrArg Chan.inp hkeeps :), hframe⟩
  · rw [openWire_eq, whenDo_of_not (State.judgesOpenWire_of_func hf)]
  · obtain ⟨hraised, hinp, -, hframe⟩ := s.diagRaise_row n 12 (by decide) (by decide)
    exact ⟨_, by rw [reversed_eq, whenDo_of (by simp [hr, isDi, hlo, hhi])], hraised, hinp, hframe⟩
  · rw [reversed_eq, whenDo_of_not]
    simp only [isDi, Bool.and_eq_false_iff, decide_eq_false_iff_not]
    omega
  · obtain ⟨hraised, hinp, -, hframe⟩ := s.diagRaise_row n 13 (by decide) (by decide)
    exact ⟨_, by rw [overrange_eq, whenDo_of (by simp [hf, hs])], hraised, hinp, hframe⟩
  · obtain ⟨hraised, -, han, hframe⟩ := s.diagRaise_row n 13 (by decide) (by decide)
    exact ⟨_, by rw [overrange_eq, whenDo_of (by simp [hr, hl, isAi, hlo, hhi])], hraised, han, hframe⟩
  · rw [overrange_eq, whenDo_of_not]
    simp only [isAi, Bool.or_eq_false_iff, Bool.and_eq_false_iff, decide_eq_false_iff_not]
    omega

end Sys2Proof.Machine
end

section
/-! PROOFS. Wetting pulses (R171, R172, R177). -/

namespace Sys2Proof.Machine

section
variable {n : Fin 16} {s : State}

/-! ## The start of a pulse (R171) -/

theorem wettingPulseStart_first (hl : (s.chan n).inp.lastWet = none) :
    exec (.wettingPulseStart n) s = .next (whenDo (s.wets n) (fun s => s.startPulse n) s) := by
  show execWettingPulseStart n s = _
  unfold execWettingPulseStart
  simp only [hl, Bool.not_false, Bool.and_true]

theorem wettingPulseStart_again {l : Nat} (hl : (s.chan n).inp.lastWet = some l) :
    exec (.wettingPulseStart n) s = .next (whenDo (s.wets n && !decide (s.clock < l + 20000)) (fun s => s.startPulse n) s) := by
  show execWettingPulseStart n s = _
  unfold execWettingPulseStart
  rw [hl]

theorem wetRepeat_again {l : Nat} (hl : (s.chan n).inp.lastWet = some l) :
    exec (.wetRepeat n) s = .next (whenDo (s.wets n && (s.chan n).rng.wetRepeat && decide (l + 10000000 ≤ s.clock)) (fun s => s.startPulse n) s) := by
  show execWetRepeat n s = _
  unfold execWetRepeat
  rw [hl]

/-! ## The end of a pulse (R172) -/

/-- The input of a channel whose pulse, which started at a clock, ends at another. -/
def InputPath.pulsed (i : InputPath) (start clock : Nat) : InputPath :=
  { i with wetStart := none, wetEnd := clock, holdStart := i.holdStart.map (· + (clock - start)) }

theorem InputPath.endPulse_of_start {i : InputPath} {p : Nat} (h : i.wetStart = some p) (clock : Nat) : i.endPulse clock = i.pulsed p clock := by
  unfold InputPath.endPulse InputPath.pulsed; rw [h]

/-- A pulse that started at a clock has ended on a channel. -/
def State.pulseEnded (s : State) (n : Fin 16) (p : Nat) : State := s.modChan n (fun c => { c with inp := (s.chan n).inp.pulsed p s.clock })

/-- The end of a pulse: nothing before its 2 ms have passed, and CONTACT_HIGH_R for a pad below V_ON. -/
theorem wettingPulseEnd_started {p : Nat} (pad : Int) (hp : (s.chan n).inp.wetStart = some p) :
    exec (.wettingPulseEnd n pad) s = .next (if p + 2000 ≤ s.clock then
      (if pad < (s.chan n).rng.vOnRange.1 then (s.pulseEnded n p).diagRaise n 26 else s.pulseEnded n p) else s) := by
  have hend : s.modChan n (fun c => { c with inp := c.inp.endPulse s.clock }) = s.pulseEnded n p :=
    State.modChan_congr (by simp only [InputPath.endPulse_of_start hp])
  show execWettingPulseEnd n pad s = _
  unfold execWettingPulseEnd whenDo
  rw [hp]
  simp only [hend, decide_eq_true_eq]

/-- The pulse that ends on a pad below V_ON reports CONTACT_HIGH_R, which is instant (R172, R178). -/
theorem State.pulseEnded_contact (s : State) (n : Fin 16) (p : Nat) (hl : (s.chan n).live.getLsbD 26 = false)
    (hlen : (s.ring (ringOf n)).reports.length < 32) :
    (((s.pulseEnded n p).diagRaise n 26).chan n).inp = (s.chan n).inp.pulsed p s.clock
      ∧ (((s.pulseEnded n p).diagRaise n 26).ring (ringOf n)).reports = (s.ring (ringOf n)).reports ++ [s.diagReport n 26 0#32]
      ∧ (((s.pulseEnded n p).diagRaise n 26).chan n).live = (s.chan n).live ∧ ChanFrame ((s.pulseEnded n p).diagRaise n 26) s n := by
  have hchan : (s.pulseEnded n p).chan n = { s.chan n with inp := (s.chan n).inp.pulsed p s.clock } := State.modChan_chan _ _ _
  have halike : ReportsAlike (s.pulseEnded n p) s n := State.modChan_reportsAlike _ _ _ rfl rfl
  obtain ⟨hlive, hreports⟩ := (s.pulseEnded n p).diagRaise_instant n 26 0#32 (by decide) (by rw [halike.live]; exact hl)
  refine ⟨(congrArg Chan.inp ((s.pulseEnded n p).diagRaise_undiagnosed n 26 0#32 n) :).trans (congrArg Chan.inp hchan), ?_,
    hlive.trans halike.live, (State.diagRaise_chanFrame _ _ _ _).trans (s.modChan_chanFrame n _)⟩
  rw [hreports (by rw [halike.reports]; exact hlen), halike.reports, halike.diagReport]

end

/-- Settles O30: a pulse starts where the channel wets and the last one is long enough ago, and ends after 2 ms. -/
theorem contactsAreWetted : Obligations.ContactsAreWetted := by
  unfold Obligations.ContactsAreWetted
  intro n s
  refine ⟨fun hw hl => ?_, fun l hw hl ht => ?_, fun l hl ht => ?_, fun l hw hr hl ht => ?_, fun l hl ht => ?_, fun p pad hp ht hpad => ?_,
    fun p pad hp ht hpad hl hlen => ⟨_, ?_, s.pulseEnded_contact n p hl hlen⟩, fun p pad hp ht => ?_, fun hf ht => ?_⟩
  · rw [wettingPulseStart_first hl, whenDo_of hw]; rfl
  · rw [wettingPulseStart_again hl, whenDo_of (by simp [hw, ht])]; rfl
  · rw [wettingPulseStart_again hl, whenDo_of_not (by simp [ht])]
  · rw [wetRepeat_again hl, whenDo_of (by simp [hw, hr, ht])]; rfl
  · rw [wetRepeat_again hl, whenDo_of_not (by simp [ht])]
  · rw [wettingPulseEnd_started pad hp, if_pos ht, if_neg (by omega)]
    exact congrArg _ (State.modChan_congr rfl)
  · rw [wettingPulseEnd_started pad hp, if_pos ht, if_pos hpad]
  · rw [wettingPulseEnd_started pad hp, if_neg (by omega)]
  · simp [ChanCfg.vOnRange, hf, ht]

end Sys2Proof.Machine
end

section
/-! PROOFS. Counted edges and the delivery of counts (R18, R163, R173, R174, R176, R177, R319). -/

namespace Sys2Proof.Machine

/-! ## What an edge adds (R174) -/

/-- EDGE selects a falling or a rising edge (R174). -/
def edgeSelects (edge : Nat) (rising : Bool) : Prop := edge = 3 ∨ (edge = 1 ∧ rising = true) ∨ (edge = 2 ∧ rising = false)

theorem countStep_up {edge held : Nat} {rising other both : Bool} (h : edgeSelects edge rising) :
    countStep 0 edge ⟨false, rising, other, both, held⟩ = 1 := by
  obtain rfl | ⟨rfl, rfl⟩ | ⟨rfl, rfl⟩ := h <;> simp [countStep]

theorem countStep_updown {edge held : Nat} {rising other both : Bool} (h : edgeSelects edge rising) :
    countStep 1 edge ⟨false, rising, other, both, held⟩ = if other then -1 else 1 := by
  obtain rfl | ⟨rfl, rfl⟩ | ⟨rfl, rfl⟩ := h <;> simp [countStep]

/-- An edge of B, and one that EDGE does not select, add nothing without quadrature (R174). -/
theorem countStep_unselected {mode edge held : Nat} {onB rising other both : Bool} (hmode : mode ≤ 1)
    (h : onB = true ∨ edge = 0 ∨ (edge = 1 ∧ rising = false) ∨ (edge = 2 ∧ rising = true)) :
    countStep mode edge ⟨onB, rising, other, both, held⟩ = 0 := by
  obtain rfl | rfl : mode = 0 ∨ mode = 1 := by omega
  all_goals obtain rfl | rfl | ⟨rfl, rfl⟩ | ⟨rfl, rfl⟩ := h <;> simp [countStep]

theorem countStep_quad1 (edge held : Nat) (other : Bool) : countStep 2 edge ⟨false, true, other, false, held⟩ = if other then -1 else 1 := by
  simp [countStep]

/-- Both edges of A count in QUAD2 and QUAD4: down where B has the level that A has taken (R174). -/
theorem countStep_onA {mode : Nat} (edge held : Nat) (rising other : Bool) (hmode : mode = 3 ∨ mode = 4) :
    countStep mode edge ⟨false, rising, other, false, held⟩ = if other = rising then -1 else 1 := by
  obtain rfl | rfl := hmode <;> simp [countStep]

theorem countStep_onB (edge held : Nat) (rising other : Bool) :
    countStep 4 edge ⟨true, rising, other, false, held⟩ = if other = rising then 1 else -1 := by
  simp [countStep]

/-! ## A row of COUNT_EDGE (R173, R174, R177) -/

/-- The edge that the counting paths see is the electrical one with INVERT taken back twice (R163). -/
theorem State.edgeSeen_inverted (s : State) (n : Fin 16) (onB rising other both : Bool) (held : Nat) :
    invertedEdge (s.edgeSeen n onB rising other both held) (s.chan n).rng.invert = ⟨onB, rising, other, both, held⟩ := by
  simp [invertedEdge, State.edgeSeen]

/-- A change has been added to the count of a channel. -/
def State.counted (s : State) (n : Fin 16) (d : Word) : State :=
  s.modChan n (fun c => { c with inp := { c.inp with count := c.inp.count + d, countTick := s.tick, countDirty := true } })

/-- Both paths of a channel have changed in a quadrature mode. -/
def State.quadError (s : State) (n : Fin 16) : State := (s.modChan n (fun c => { c with errQuad := satInc c.errQuad })).diagRaise n 14

theorem countEdge_counts {n : Fin 16} {s : State} {held : Nat} (onB rising other both : Bool) (h : s.counts n held) :
    exec (.countEdge n (s.edgeSeen n onB rising other both held)) s = .next (if both = true ∧ 2 ≤ (s.chan n).rng.cntMode then s.quadError n
      else if countStep (s.chan n).rng.cntMode (s.chan n).rng.edge ⟨onB, rising, other, both, held⟩ = 0 then s
      else s.counted n (BitVec.ofInt 32 (countStep (s.chan n).rng.cntMode (s.chan n).rng.edge ⟨onB, rising, other, both, held⟩))) := by
  obtain ⟨hruns, hfunc, hmode, hlive, hheld⟩ := h
  show execCountEdge n _ s = _
  unfold execCountEdge
  dsimp only
  rw [State.edgeSeen_inverted, whenDo_of (by rw [hruns, hfunc, hmode, hlive]; simpa using hheld)]
  simp only [Bool.and_eq_true, decide_eq_true_eq]
  rfl

/-- An edge that adds something to the count, and is no error of quadrature. -/
theorem countEdge_adds {n : Fin 16} {s : State} {held : Nat} {onB rising other both : Bool} {d : Int} {w : Word} (h : s.counts n held)
    (hquad : both = true → (s.chan n).rng.cntMode < 2)
    (hstep : countStep (s.chan n).rng.cntMode (s.chan n).rng.edge ⟨onB, rising, other, both, held⟩ = d) (hd : d ≠ 0) (hw : BitVec.ofInt 32 d = w) :
    ∃ t, exec (.countEdge n (s.edgeSeen n onB rising other both held)) s = .next t
      ∧ (t.chan n).inp = { (s.chan n).inp with count := (s.chan n).inp.count + w, countTick := s.tick, countDirty := true }
      ∧ (t.chan n).live = (s.chan n).live ∧ t.rings = s.rings ∧ ChanFrame t s n := by
  have hchan : (s.counted n w).chan n = _ := State.modChan_chan _ _ _
  refine ⟨s.counted n w, ?_, congrArg Chan.inp hchan, (congrArg Chan.live hchan :), rfl, s.modChan_chanFrame n _⟩
  rw [countEdge_counts _ _ _ _ h, if_neg (fun hb => absurd (hquad hb.1) (by omega)), hstep, if_neg hd, hw]

/-- One up or one down, as a change of a count of 32 bits. -/
theorem ofInt_sign (down : Prop) [Decidable down] :
    (if down then -1 else 1 : Int) ≠ 0 ∧ BitVec.ofInt 32 (if down then -1 else 1) = if down then 0xFFFFFFFF#32 else 1#32 := by
  split <;> decide

/-- What does not run, or is too short or reversed, does not count (R173, R177, R509). -/
theorem countEdge_ignored {n : Fin 16} {s : State} {o : CountObs}
    (h : o.held < (s.chan n).rng.minPulse ∨ (s.chan n).live.getLsbD 12 = true ∨ (s.ring (ringOf n)).rmode ≠ .run) :
    exec (.countEdge n o) s = .next s := by
  show execCountEdge n o s = _
  unfold execCountEdge
  refine congrArg _ (whenDo_of_not ?_ _ _)
  obtain h | h | h := h
  · have hshort : decide ((s.chan n).rng.minPulse ≤ (invertedEdge o (s.chan n).rng.invert).held) = false :=
      decide_eq_false (Nat.not_le.2 h)
    rw [hshort, Bool.and_false]
  · rw [h, Bool.not_true, Bool.and_false, Bool.false_and]
  · simp only [h, decide_false, Bool.and_false, Bool.false_and]

/-- An error of quadrature is counted and reported, and never live (R174, R177, R178). -/
theorem State.quadError_reported (s : State) (n : Fin 16) (hl : (s.chan n).live.getLsbD 14 = false)
    (hlen : (s.ring (ringOf n)).reports.length < 32) :
    ((s.quadError n).chan n).inp = (s.chan n).inp ∧ ((s.quadError n).chan n).errQuad = satInc (s.chan n).errQuad
      ∧ ((s.quadError n).ring (ringOf n)).reports = (s.ring (ringOf n)).reports ++ [s.diagReport n 14 0#32] ∧ ChanFrame (s.quadError n) s n := by
  have hchan := s.modChan_chan n (fun c => { c with errQuad := satInc c.errQuad })
  have halike : ReportsAlike (s.modChan n (fun c => { c with errQuad := satInc c.errQuad })) s n := State.modChan_reportsAlike _ _ _ rfl rfl
  have hkeeps := State.diagRaise_undiagnosed (s.modChan n (fun c => { c with errQuad := satInc c.errQuad })) n 14 0#32 n
  have hreports := (State.diagRaise_instant _ n 14 0#32 (by decide) ((congrArg (·.getLsbD 14) halike.live).trans hl)).2
    (by rw [halike.reports]; exact hlen)
  rw [halike.reports, halike.diagReport] at hreports
  exact ⟨(congrArg Chan.inp hkeeps :).trans (congrArg Chan.inp hchan :), (congrArg Chan.errQuad hkeeps :).trans (congrArg Chan.errQuad hchan :), hreports,
    (State.diagRaise_chanFrame _ _ _ _).trans (s.modChan_chanFrame n _)⟩

/-! ## Delivery (R18, R176, R319) -/

/-- A changed count is due, and reaches the host die or is lost. -/
theorem countDelivery_due {n : Fin 16} {s : State} (good : Bool) (hp : s.phase = .run) (hdirty : (s.chan n).inp.countDirty = true)
    (hsent : ∀ c ∈ (s.chan n).inp.countSent, c + 100 ≤ s.clock) (hopen : (s.ring (ringOf n)).upOpen = true)
    (hfirst : (s.ring (ringOf n)).noneBefore (s.chan n).inp.countTick = true) :
    exec (.countDelivery n good) s = .next (if !good then s.linkDiscard (ringOf n) else
      (s.modChan n (fun c => { c with hostCount := (s.chan n).inp.count, hostValid := true
                                      inp := { c.inp with countDirty := false, countSent := some s.clock } })).toWheels
        n 5 0 (s.chan n).inp.countTick (s.chan n).inp.count) := by
  show execCountDelivery n good s = _
  unfold execCountDelivery
  refine congrArg _ (whenDo_of ?_ _ _)
  cases hc : (s.chan n).inp.countSent with
  | none => simp only [hp, hdirty, hopen, hfirst, decide_true, Bool.and_self]
  | some c => simp only [hp, hdirty, hopen, hfirst, hsent c hc, decide_true, Bool.and_self]

theorem countDelivery_early {n : Fin 16} {s : State} (good : Bool) {c : Nat} (hc : (s.chan n).inp.countSent = some c) (ht : s.clock < c + 100) :
    exec (.countDelivery n good) s = .next s := by
  show execCountDelivery n good s = _
  unfold execCountDelivery
  refine congrArg _ (whenDo_of_not ?_ _ _)
  simp only [hc, show decide (c + 100 ≤ s.clock) = false by simpa using ht, Bool.and_false, Bool.false_and]

/-- Settles O31, row by row: what an edge adds in each mode, errors of quadrature, and when and how a count is delivered. -/
theorem edgesAreCounted : Obligations.EdgesAreCounted := by
  unfold Obligations.EdgesAreCounted
  intro n s
  refine ⟨fun rising other both held h hmode hsel => ?_, fun onB rising other both held h hmode hsel => ?_,
    fun rising other both held h hmode hsel => ?_, fun other held h hmode => ?_, fun rising other held h hmode => ?_,
    fun rising other held h hmode => ?_, fun onB rising other held h hmode hl hlen => ⟨_, ?_, s.quadError_reported n hl hlen⟩,
    fun o h => countEdge_ignored h, fun hp _ hdirty hsent hopen hfirst => ?_, fun hp hdirty hsent hopen hfirst => ?_,
    fun c good hc ht => countDelivery_early good hc ht⟩
  · exact countEdge_adds (d := 1) h (fun _ => by omega) (by rw [hmode]; exact countStep_up hsel) (by decide) rfl
  · rw [countEdge_counts _ _ _ _ h, countStep_unselected hmode hsel, if_neg (fun hb => absurd hb.2 (by omega)), if_pos rfl]
  · exact countEdge_adds h (fun _ => by omega) (by rw [hmode]; exact countStep_updown hsel) (ofInt_sign _).1 (ofInt_sign _).2
  · exact countEdge_adds h nofun (by rw [hmode]; exact countStep_quad1 _ _ _) (ofInt_sign _).1 (ofInt_sign _).2
  · exact countEdge_adds h nofun (countStep_onA _ _ _ _ hmode) (ofInt_sign _).1 (ofInt_sign _).2
  · refine countEdge_adds (d := if other = rising then 1 else -1) h nofun (by rw [hmode]; exact countStep_onB _ _ _ _) ?_ ?_ <;> split <;> decide
  · rw [countEdge_counts _ _ _ _ h, if_pos ⟨rfl, hmode⟩]
  · obtain ⟨hhost, hunits, hchans, -⟩ := State.toWheels_frame (s.modChan n (fun c => { c with
      hostCount := (s.chan n).inp.count, hostValid := true, inp := { c.inp with countDirty := false, countSent := some s.clock } }))
      n 5 0 (s.chan n).inp.countTick (s.chan n).inp.count
    refine ⟨_, by rw [countDelivery_due true hp hdirty hsent hopen hfirst, Bool.not_true, if_neg Bool.false_ne_true], ?_⟩
    simp only [State.chan_of_chans hchans, State.modChan_chan, true_and]
    exact ⟨fun m hm => State.modChan_chan_ne _ _ _ _ hm.symm, hhost, hunits⟩
  · obtain ⟨hhost, hunits, hchans, -⟩ := s.linkDiscard_frame (ringOf n)
    refine ⟨_, by rw [countDelivery_due false hp hdirty hsent hopen hfirst, Bool.not_false, if_pos rfl], ?_, hchans, hhost, hunits⟩
    exact (congrArg Ring.hostRx (s.linkDiscard_core (ringOf n)) :)

end Sys2Proof.Machine
end

section
/-! PROOFS. Samples of the inputs, accepted changes, coupling holds and chatter (R160, R163 to R168, R172, R173, R177, R509). -/

namespace Sys2Proof.Machine

section
variable {n : Fin 16} {s : State}

/-! ## A sample (R163, R164, R172, R509) -/

/-- A channel has taken a sample of its pad. -/
def State.sampled (s : State) (n : Fin 16) (level : Bool) (pad : Int) : State :=
  s.modChan n (fun c => { c with inp := { c.inp with raw := level, pad := pad } })

/-- A channel has taken the sample that ends a run of a level. -/
def State.runTaken (s : State) (n : Fin 16) (level : Bool) (pad : Int) (lead : Nat) : State :=
  s.modChan n (fun c => { c with inp := { c.inp with raw := level, pad := pad, deb := some level, runFirst := s.clock - lead } })

/-- The length of the run that ends with a sample, which begins no earlier than the path last restarted (R164). -/
def State.runLength (s : State) (n : Fin 16) (lead : Nat) : Nat := min lead (s.clock - (s.chan n).inp.runFrom)

/-- The run that ends with a sample has lasted DEBOUNCE (R164, R172). -/
def State.runLong (s : State) (n : Fin 16) (lead : Nat) : Bool :=
  decide (s.sampleSpan n ((s.chan n).rng.debounce * 10) + (s.chan n).inp.pulsedSince (s.clock - s.runLength n lead) ≤ s.runLength n lead)

/-- A span is whole samples, and no shorter than its time (R466, R509). -/
theorem State.le_sampleSpan (s : State) (n : Fin 16) (us : Nat) : us ≤ s.sampleSpan n us := by
  unfold State.sampleSpan; split <;> omega

theorem State.runLong_of_runEnds {level seen : Bool} {pad : Int} {lead : Nat} (h : s.runEnds n level seen pad lead) :
    s.runLong n lead = true ∧ s.runLength n lead = lead := by
  obtain ⟨-, -, -, hfrom, hspan⟩ := h
  have hrun : s.runLength n lead = lead := by unfold State.runLength; omega
  exact ⟨by unfold State.runLong; rw [hrun]; exact decide_eq_true hspan, hrun⟩

theorem State.runLong_of_short {lead : Nat} (h : lead < (s.chan n).rng.debounce * 10) : s.runLong n lead = false := by
  have hspan := s.le_sampleSpan n ((s.chan n).rng.debounce * 10)
  have hrun : s.runLength n lead ≤ lead := Nat.min_le_left _ _
  exact decide_eq_false (by omega)

/-- A sample that counts, on the channel's own path. -/
theorem debounceExpiry_own {level seen : Bool} {pad : Int} (lead : Nat) (hs : s.samples n = true) (hw : (s.chan n).inp.wetStart = none)
    (hl : level = (s.chan n).rng.inverted ((s.chan n).electrical pad seen)) :
    exec (.debounceExpiry n false seen pad lead) s = .next (if !s.runLong n lead || (s.chan n).inp.deb = some level then s.sampled n level pad
      else (s.runTaken n level pad (s.runLength n lead)).debounced n level) := by
  have htaken : (s.sampled n level pad).modChan n (fun c => { c with inp := { c.inp with
      deb := some level, runFirst := s.clock - s.runLength n lead } }) = s.runTaken n level pad (s.runLength n lead) := State.modChan_modChan _ _ _ _
  rw [← htaken]
  subst hl
  show execDebounceExpiry n false seen pad lead s = _
  unfold execDebounceExpiry
  dsimp only
  rw [whenDo_of (by simp [hs, InputPath.inPulse, hw]), if_neg Bool.false_ne_true]
  rfl

theorem debounceExpiry_taken {level seen : Bool} {pad : Int} {lead : Nat} (h : s.runEnds n level seen pad lead) (hd : (s.chan n).inp.deb ≠ some level) :
    exec (.debounceExpiry n false seen pad lead) s = .next ((s.runTaken n level pad lead).debounced n level) := by
  obtain ⟨hlong, hrun⟩ := State.runLong_of_runEnds h
  obtain ⟨hs, hw, hl, -⟩ := h
  rw [debounceExpiry_own lead hs hw hl, hlong, hrun]
  simp [hd]

/-- A sample that counts, on the path of a counting pair's partner (R173). -/
theorem debounceExpiry_partner {level seen : Bool} {pad : Int} {lead : Nat} (h : s.runEnds n level seen pad lead) (hf : (s.chan n).rng.func = 3)
    (hp : (pairMate n (s.chan n).rng).isSome = true) :
    exec (.debounceExpiry n true seen pad lead) s = .next (s.modChan n (fun c => { c with inp := { c.inp with bState := level } })) := by
  have hlong := (State.runLong_of_runEnds h).1
  obtain ⟨hs, hw, hl, -⟩ := h
  subst hl
  show execDebounceExpiry n true seen pad lead s = _
  unfold execDebounceExpiry
  dsimp only
  rw [whenDo_of (by simp [hs, InputPath.inPulse, hw]), if_pos rfl]
  refine congrArg _ (if_pos ?_)
  rw [Bool.and_eq_true, Bool.and_eq_true]
  exact ⟨⟨hlong, decide_eq_true hf⟩, hp⟩

theorem debounceExpiry_ignored (partner seen : Bool) (pad : Int) (lead : Nat) (h : s.samples n = false ∨ (s.chan n).inp.wetStart.isSome = true) :
    exec (.debounceExpiry n partner seen pad lead) s = .next s := by
  show execDebounceExpiry n partner seen pad lead s = _
  unfold execDebounceExpiry
  refine congrArg _ (whenDo_of_not ?_ _ _)
  obtain h | h := h <;> simp [InputPath.inPulse, h]

/-! ## Chatter (R168) -/

/-- A chatter event has been counted. -/
def Chan.chattered (c : Chan) : Chan := { c with errChatter := satInc c.errChatter, inp := { c.inp with chatCount := c.inp.chatCount + 1 } }

theorem State.chatterEvent_eq (s : State) (n : Fin 16) :
    s.chatterEvent n = (if (s.chan n).inp.chatCount + 1 = (s.chan n).rng.chatLimit then (s.modChan n Chan.chattered).diagRaise n 25
      else s.modChan n Chan.chattered) := by
  have h : s.modChan n (fun c => { c with errChatter := satInc c.errChatter, inp := { c.inp with chatCount := (s.chan n).inp.chatCount + 1 } })
      = s.modChan n Chan.chattered := State.modChan_congr rfl
  unfold State.chatterEvent
  dsimp only
  rw [h]

theorem State.chatterEvent_undiagnosed (s : State) (n : Fin 16) : ((s.chatterEvent n).chan n).undiagnosed = (s.chan n).chattered.undiagnosed := by
  rw [State.chatterEvent_eq]
  split
  · rw [State.diagRaise_undiagnosed, State.modChan_chan]
  · rw [State.modChan_chan]

theorem State.chatterEvent_upq (s : State) (n : Fin 16) (y : RingId) : ((s.chatterEvent n).ring y).upq = (s.ring y).upq := by
  rw [State.chatterEvent_eq]
  split
  · exact State.diagRaise_upq _ _ _ _ _
  · rfl

theorem State.chatterEvent_chanFrame (s : State) (n : Fin 16) : ChanFrame (s.chatterEvent n) s n := by
  rw [State.chatterEvent_eq]
  split
  · exact (State.diagRaise_chanFrame _ _ _ _).trans (s.modChan_chanFrame n _)
  · exact s.modChan_chanFrame n _

/-- The event that reaches CHAT_LIMIT makes CHATTER live (R168). -/
theorem State.chatterEvent_raises (h : (s.chan n).inp.chatCount + 1 = (s.chan n).rng.chatLimit) : DiagRaised (s.chatterEvent n) s n 25 := by
  rw [State.chatterEvent_eq, if_pos h]
  exact (State.modChan_reportsAlike s n Chan.chattered rfl rfl).raised (State.diagRaise_raised _ n 25 0#32 (by decide) (by decide))

/-! ## Acceptance (R165 to R167) -/

/-- The input whose change is accepted (R166, R185). -/
def InputPath.accept (i : InputPath) (level : Bool) (tickLo : Word) : InputPath :=
  { i with state := level, valid := true, lastAcc := tickLo, holdStart := none }

/-- A change is accepted and sent to the host die. -/
def State.accepted (s : State) (n : Fin 16) (level held : Bool) : State :=
  (s.modChan n (fun c => { c with inp := c.inp.accept level s.tickLo })).sendChange n level (!(s.chan n).inp.valid)
    (edgeValue (s.clock - (s.chan n).inp.runFirst) held (!(s.chan n).inp.valid) level)

theorem State.acceptInput_eq (s : State) (n : Fin 16) (level held : Bool) :
    s.acceptInput n level held = if !(s.chan n).inp.valid || held then s.accepted n level held else (s.accepted n level held).chatterEvent n := rfl

theorem State.accepted_chan (s : State) (n : Fin 16) (level held : Bool) :
    (s.accepted n level held).chan n = { s.chan n with inp := (s.chan n).inp.accept level s.tickLo } :=
  (State.sendChange_chan _ _ _ _ _ _).trans (State.modChan_chan _ _ _)

theorem State.accepted_upq (s : State) (n : Fin 16) (level held : Bool) :
    ((s.accepted n level held).ring (ringOf n)).upq = (s.ring (ringOf n)).upq ++ [.change n level (!(s.chan n).inp.valid) s.tick
      (edgeValue (s.clock - (s.chan n).inp.runFirst) held (!(s.chan n).inp.valid) level)] :=
  (congrArg Ring.upq (State.modRing_ring _ _ _) :)

theorem State.accepted_chanFrame (s : State) (n : Fin 16) (level held : Bool) : ChanFrame (s.accepted n level held) s n :=
  (State.modRing_chanFrame _ n _).trans (s.modChan_chanFrame n _)

theorem State.accepted_reportsAlike (s : State) (n : Fin 16) (level held : Bool) : ReportsAlike (s.accepted n level held) s n :=
  ⟨by rw [State.accepted_chan], by rw [State.accepted_chan], (congrArg Ring.reports (State.modRing_ring _ _ _) :),
    (congrArg Ring.link (State.modRing_ring _ _ _) :), (congrArg Ring.ringLost (State.modRing_ring _ _ _) :), rfl, rfl⟩

/-! ## The end of a run (R164, R165, R167) -/

theorem State.runTaken_chan (s : State) (n : Fin 16) (level : Bool) (pad : Int) (lead : Nat) : (s.runTaken n level pad lead).chan n = { s.chan n with
    inp := { (s.chan n).inp with raw := level, pad := pad, deb := some level, runFirst := s.clock - lead } } := State.modChan_chan _ _ _

theorem State.runTaken_reportsAlike (s : State) (n : Fin 16) (level : Bool) (pad : Int) (lead : Nat) : ReportsAlike (s.runTaken n level pad lead) s n :=
  State.modChan_reportsAlike _ _ _ rfl rfl

theorem State.runTaken_chanFrame (s : State) (n : Fin 16) (level : Bool) (pad : Int) (lead : Nat) : ChanFrame (s.runTaken n level pad lead) s n :=
  s.modChan_chanFrame n _

theorem edgeValue_unheld (lead : Nat) (initial state : Bool) :
    edgeValue lead false initial state = word (min lead 0xFFFFF * 256 + b2n initial * 2 + b2n state) := by
  unfold edgeValue
  rw [show b2n false * 4 = 0 from rfl, Nat.add_zero]

/-- The entry of a change that its run alone accepts has the length of the run as its LEAD (R166). -/
theorem State.runTaken_accepted_upq (s : State) (n : Fin 16) (level : Bool) (pad : Int) {lead : Nat} (h : lead ≤ s.clock) :
    (((s.runTaken n level pad lead).accepted n level false).ring (ringOf n)).upq = (s.ring (ringOf n)).upq ++
      [.change n level (!(s.chan n).inp.valid) s.tick (word (min lead 0xFFFFF * 256 + b2n (!(s.chan n).inp.valid) * 2 + b2n level))] := by
  have hlead : s.clock - (s.clock - lead) = lead := by omega
  refine (State.accepted_upq _ n level false).trans ?_
  rw [State.runTaken_chan]
  show (s.ring (ringOf n)).upq ++ [.change n level _ s.tick (edgeValue (s.clock - (s.clock - lead)) false _ level)] = _
  rw [hlead, edgeValue_unheld]

/-- What a run that is accepted leaves of the channel. -/
theorem State.runTaken_accepted_chan (s : State) (n : Fin 16) (level : Bool) (pad : Int) (lead : Nat) :
    ((s.runTaken n level pad lead).accepted n level false).chan n = { s.chan n with inp := { (s.chan n).inp with
      raw := level, pad := pad, deb := some level, runFirst := s.clock - lead, state := level, valid := true, lastAcc := s.tickLo, holdStart := none } } := by
  rw [State.accepted_chan, State.runTaken_chan]
  rfl

theorem State.runTaken_accepted_chanFrame (s : State) (n : Fin 16) (level : Bool) (pad : Int) (lead : Nat) :
    ChanFrame ((s.runTaken n level pad lead).accepted n level false) s n :=
  (State.accepted_chanFrame _ n _ _).trans (s.runTaken_chanFrame n _ _ _)

theorem State.debounced_accepts {level : Bool} (hv : ((s.chan n).inp.valid && level = (s.chan n).inp.state) = false)
    (hc : (s.chan n).rng.couplingHold = false) : s.debounced n level = s.acceptInput n level false := by
  unfold State.debounced
  simp only [hv, hc, Bool.false_eq_true, if_false]

theorem State.debounced_holds {level : Bool} (hv : ((s.chan n).inp.valid && level = (s.chan n).inp.state) = false)
    (hc : (s.chan n).rng.couplingHold = true) :
    s.debounced n level = s.modChan n (fun c => { c with inp := { c.inp with holdStart := some s.clock } }) := by
  unfold State.debounced
  simp only [hv, hc, Bool.false_eq_true, if_false, if_true]

/-- A level that is back at the accepted state ends a hold as a chatter event (R165). -/
theorem State.debounced_returns {level : Bool} {h : Nat} (hv : (s.chan n).inp.valid = true) (hl : level = (s.chan n).inp.state)
    (hh : (s.chan n).inp.holdStart = some h) :
    s.debounced n level = (s.modChan n (fun c => { c with inp := { c.inp with holdStart := none } })).chatterEvent n := by
  unfold State.debounced
  simp only [hv, hl, hh, decide_true, Bool.and_self, if_true, Option.isSome_some]

/-- A run of the other level is accepted at once, as a chatter event. -/
theorem debounceExpiry_changes {level seen : Bool} {pad : Int} {lead : Nat} (h : s.runEnds n level seen pad lead)
    (hd : (s.chan n).inp.deb ≠ some level) (hv : (s.chan n).inp.valid = true) (hl : level = !(s.chan n).inp.state)
    (hc : (s.chan n).rng.couplingHold = false) :
    exec (.debounceExpiry n false seen pad lead) s = .next (((s.runTaken n level pad lead).accepted n level false).chatterEvent n) := by
  have hchan := s.runTaken_chan n level pad lead
  rw [debounceExpiry_taken h hd, State.debounced_accepts, State.acceptInput_eq, if_neg]
  · rw [hchan]; simp [hv]
  · rw [hchan]; simp [hl]
  · rw [hchan]; exact hc

/-- The first run after a restart is accepted at once (R167). -/
theorem debounceExpiry_first {level seen : Bool} {pad : Int} {lead : Nat} (h : s.runEnds n level seen pad lead)
    (hd : (s.chan n).inp.deb ≠ some level) (hv : (s.chan n).inp.valid = false) (hc : (s.chan n).rng.couplingHold = false) :
    exec (.debounceExpiry n false seen pad lead) s = .next ((s.runTaken n level pad lead).accepted n level false) := by
  have hchan := s.runTaken_chan n level pad lead
  rw [debounceExpiry_taken h hd, State.debounced_accepts, State.acceptInput_eq, if_pos]
  · rw [hchan]; simp [hv]
  · rw [hchan]; simp [hv]
  · rw [hchan]; exact hc

/-- A run of another level starts a hold (R165). -/
theorem debounceExpiry_holds {level seen : Bool} {pad : Int} {lead : Nat} (h : s.runEnds n level seen pad lead)
    (hd : (s.chan n).inp.deb ≠ some level) (hv : ((s.chan n).inp.valid && level = (s.chan n).inp.state) = false)
    (hc : (s.chan n).rng.couplingHold = true) :
    exec (.debounceExpiry n false seen pad lead) s = .next (s.modChan n (fun c => { c with inp := { c.inp with
      raw := level, pad := pad, deb := some level, runFirst := s.clock - lead, holdStart := some s.clock } })) := by
  have hchan := s.runTaken_chan n level pad lead
  rw [debounceExpiry_taken h hd, State.debounced_holds (by rw [hchan]; exact hv) (by rw [hchan]; exact hc)]
  exact congrArg _ (State.modChan_modChan _ _ _ _)

/-- A run that is back at the accepted state ends a hold (R165). -/
theorem debounceExpiry_returns {level seen : Bool} {pad : Int} {lead hold : Nat} (h : s.runEnds n level seen pad lead)
    (hd : (s.chan n).inp.deb ≠ some level) (hv : (s.chan n).inp.valid = true) (hl : level = (s.chan n).inp.state)
    (hh : (s.chan n).inp.holdStart = some hold) :
    exec (.debounceExpiry n false seen pad lead) s = .next ((s.modChan n (fun c => { c with inp := { c.inp with
      raw := level, pad := pad, deb := some level, runFirst := s.clock - lead, holdStart := none } })).chatterEvent n) := by
  have hchan := s.runTaken_chan n level pad lead
  rw [debounceExpiry_taken h hd, State.debounced_returns (by rw [hchan]; exact hv) (by rw [hchan]; exact hl) (by rw [hchan]; exact hh)]
  exact congrArg (fun u : State => Host.Outcome.next (u.chatterEvent n)) (State.modChan_modChan _ _ _ _)

/-! ## The end of a hold (R165) -/

theorem couplingHoldExpiry_of_hold {h : Nat} {level : Bool} (hh : (s.chan n).inp.holdStart = some h) (hd : (s.chan n).inp.deb = some level)
    (hc : (s.chan n).rng.couplingHold = true) :
    exec (.couplingHoldExpiry n) s = .next (whenDo (s.samples n && !(s.chan n).inp.inPulse
      && decide (h + s.sampleSpan n ((s.chan n).rng.hold * 1000) ≤ s.clock)) (fun s => s.accepted n level true) s) := by
  show execCouplingHoldExpiry n s = _
  unfold execCouplingHoldExpiry
  simp only [hh, hd, hc, State.acceptInput_eq, Bool.or_true, if_true, Bool.not_true, Bool.false_or]

/-- A hold that has no level to accept ends with nothing. -/
theorem couplingHoldExpiry_undebounced {h : Nat} (hh : (s.chan n).inp.holdStart = some h) (hd : (s.chan n).inp.deb = none) :
    exec (.couplingHoldExpiry n) s = .next s := by
  show execCouplingHoldExpiry n s = _
  unfold execCouplingHoldExpiry
  simp only [hh, hd]

/-- A hold is not over before its time. -/
theorem couplingHoldExpiry_early {h : Nat} (hh : (s.chan n).inp.holdStart = some h) (hc : (s.chan n).rng.couplingHold = true)
    (ht : s.clock < h + (s.chan n).rng.hold * 1000) : exec (.couplingHoldExpiry n) s = .next s := by
  have hspan := s.le_sampleSpan n ((s.chan n).rng.hold * 1000)
  cases hd : (s.chan n).inp.deb with
  | none => exact couplingHoldExpiry_undebounced hh hd
  | some level =>
    rw [couplingHoldExpiry_of_hold hh hd hc, whenDo_of_not]
    rw [decide_eq_false (by omega), Bool.and_false]

/-! ## Blocks of chatter (R168) -/

/-- The block of a channel that was due has ended. -/
def State.blockEnded (t s : State) (n : Fin 16) : State :=
  t.modChan n (fun c => { c with inp := { c.inp with
    chatStart := (s.chan n).inp.chatStart + (s.chan n).rng.chatWin * 100000, chatCount := 0 } })

theorem chatterBlockEnd_due (hr : s.pathRuns n = true) (ht : (s.chan n).inp.chatStart + (s.chan n).rng.chatWin * 100000 ≤ s.clock) :
    exec (.chatterBlockEnd n) s = .next
      (State.blockEnded (if (s.chan n).inp.chatCount < (s.chan n).rng.chatLimit then s.diagClear n 25 else s) s n) := by
  show execChatterBlockEnd n s = _
  unfold execChatterBlockEnd
  exact congrArg _ (whenDo_of (by rw [hr, decide_eq_true ht]; rfl) _ _)

end

/-! ## The rows -/

section
variable {n : Fin 16} {s : State} {level seen : Bool} {pad : Int} {lead : Nat}

/-- What a change that is accepted at once leaves: the input, its entry and the chatter event (R165, R166, R168). -/
theorem State.changeTaken (hv : (s.chan n).inp.valid = true) (hle : lead ≤ s.clock) (t : State)
    (ht : t = ((s.runTaken n level pad lead).accepted n level false).chatterEvent n) :
    (t.chan n).inp.state = level ∧ (t.chan n).inp.valid = true ∧ (t.chan n).inp.deb = some level ∧ (t.chan n).inp.lastAcc = s.tickLo
      ∧ (t.ring (ringOf n)).upq = (s.ring (ringOf n)).upq ++ [.change n level false s.tick (word (min lead 0xFFFFF * 256 + b2n level))]
      ∧ (t.chan n).inp.chatCount = (s.chan n).inp.chatCount + 1 ∧ (t.chan n).errChatter = satInc (s.chan n).errChatter
      ∧ ((s.chan n).inp.chatCount + 1 = (s.chan n).rng.chatLimit → DiagRaised t s n 25) ∧ ChanFrame t s n := by
  subst ht
  have hchan := s.runTaken_accepted_chan n level pad lead
  have hkeeps := State.chatterEvent_undiagnosed ((s.runTaken n level pad lead).accepted n level false) n
  have hupq := s.runTaken_accepted_upq n level pad hle
  rw [hchan] at hkeeps
  rw [hv, show b2n (!true) * 2 = 0 from rfl, Nat.add_zero] at hupq
  refine ⟨(congrArg (fun c : Chan => c.inp.state) hkeeps :), (congrArg (fun c : Chan => c.inp.valid) hkeeps :),
    (congrArg (fun c : Chan => c.inp.deb) hkeeps :), (congrArg (fun c : Chan => c.inp.lastAcc) hkeeps :),
    (State.chatterEvent_upq _ _ _).trans hupq, (congrArg (fun c : Chan => c.inp.chatCount) hkeeps :), (congrArg Chan.errChatter hkeeps :),
    fun hlimit => ?_, (State.chatterEvent_chanFrame _ _).trans (s.runTaken_accepted_chanFrame n _ _ _)⟩
  exact ((State.accepted_reportsAlike _ _ _ _).trans (s.runTaken_reportsAlike n _ _ _)).raised (State.chatterEvent_raises (by rw [hchan]; exact hlimit))

/-- What the first accepted level leaves: the input and its entry, with INITIAL (R166, R167). -/
theorem State.firstTaken (hv : (s.chan n).inp.valid = false) (hle : lead ≤ s.clock) (t : State)
    (ht : t = (s.runTaken n level pad lead).accepted n level false) :
    (t.chan n).inp.state = level ∧ (t.chan n).inp.valid = true
      ∧ (t.ring (ringOf n)).upq = (s.ring (ringOf n)).upq ++ [.change n level true s.tick (word (min lead 0xFFFFF * 256 + 2 + b2n level))]
      ∧ (t.chan n).inp.chatCount = (s.chan n).inp.chatCount ∧ (t.chan n).errChatter = (s.chan n).errChatter ∧ (t.chan n).live = (s.chan n).live
      ∧ ChanFrame t s n := by
  subst ht
  have hupq := s.runTaken_accepted_upq n level pad hle
  rw [hv] at hupq
  have hframe := s.runTaken_accepted_chanFrame n level pad lead
  rw [s.runTaken_accepted_chan n level pad lead]
  exact ⟨rfl, rfl, hupq, rfl, rfl, rfl, hframe⟩

/-- What the return to the accepted state leaves: the hold is discarded as a chatter event (R165, R168). -/
theorem State.holdDiscarded (t : State) (ht : t = (s.modChan n (fun c => { c with inp := { c.inp with
      raw := level, pad := pad, deb := some level, runFirst := s.clock - lead, holdStart := none } })).chatterEvent n) :
    (t.chan n).inp.holdStart = none ∧ (t.chan n).inp.deb = some level ∧ (t.chan n).inp.state = (s.chan n).inp.state
      ∧ (t.chan n).inp.chatCount = (s.chan n).inp.chatCount + 1 ∧ (t.chan n).errChatter = satInc (s.chan n).errChatter
      ∧ (t.ring (ringOf n)).upq = (s.ring (ringOf n)).upq ∧ ChanFrame t s n := by
  subst ht
  have hkeeps := State.chatterEvent_undiagnosed (s.modChan n (fun c => { c with inp := { c.inp with
      raw := level, pad := pad, deb := some level, runFirst := s.clock - lead, holdStart := none } })) n
  rw [State.modChan_chan] at hkeeps
  exact ⟨(congrArg (fun c : Chan => c.inp.holdStart) hkeeps :), (congrArg (fun c : Chan => c.inp.deb) hkeeps :),
    (congrArg (fun c : Chan => c.inp.state) hkeeps :), (congrArg (fun c : Chan => c.inp.chatCount) hkeeps :), (congrArg Chan.errChatter hkeeps :),
    State.chatterEvent_upq _ _ _, (State.chatterEvent_chanFrame _ _).trans (s.modChan_chanFrame n _)⟩

/-- What the end of a hold leaves: the input and its entry, with HELD, and no chatter event (R165, R166). -/
theorem State.holdTaken (t : State) (ht : t = s.accepted n level true) :
    (t.chan n).inp.state = level ∧ (t.chan n).inp.valid = true ∧ (t.chan n).inp.holdStart = none ∧ (t.chan n).inp.lastAcc = s.tickLo
      ∧ (t.ring (ringOf n)).upq = (s.ring (ringOf n)).upq ++ [.change n level (!(s.chan n).inp.valid) s.tick
          (edgeValue (s.clock - (s.chan n).inp.runFirst) true (!(s.chan n).inp.valid) level)]
      ∧ (t.chan n).errChatter = (s.chan n).errChatter ∧ ChanFrame t s n := by
  subst ht
  have hupq := s.accepted_upq n level true
  have hframe := s.accepted_chanFrame n level true
  rw [s.accepted_chan n level true]
  exact ⟨rfl, rfl, rfl, rfl, hupq, rfl, hframe⟩

/-- RAW is the level of the latest sample, whatever its run does (R163, R185). -/
theorem State.debounced_raw (s : State) (n : Fin 16) (level : Bool) : ((s.debounced n level).chan n).inp.raw = (s.chan n).inp.raw := by
  have hchatter : ∀ u : State, ((u.chatterEvent n).chan n).inp.raw = (u.chan n).inp.raw :=
    fun u => (congrArg (fun c : Chan => c.inp.raw) (u.chatterEvent_undiagnosed n) :)
  have hset : ∀ h, ((s.modChan n (fun c => { c with inp := { c.inp with holdStart := h } })).chan n).inp.raw = (s.chan n).inp.raw :=
    fun h => by rw [State.modChan_chan]
  have haccepted : ((s.accepted n level false).chan n).inp.raw = (s.chan n).inp.raw := by rw [State.accepted_chan]; rfl
  unfold State.debounced
  dsimp only
  split
  · split
    · exact (hchatter _).trans (hset none)
    · exact hset none
  · split
    · exact hset _
    · rw [State.acceptInput_eq]
      split
      · exact haccepted
      · exact (hchatter _).trans haccepted

theorem debounceExpiry_raw (lead : Nat) (hs : s.samples n = true) (hw : (s.chan n).inp.wetStart = none)
    (hl : level = (s.chan n).rng.inverted ((s.chan n).electrical pad seen)) :
    ∃ t, exec (.debounceExpiry n false seen pad lead) s = .next t ∧ (t.chan n).inp.raw = level := by
  refine ⟨_, debounceExpiry_own lead hs hw hl, ?_⟩
  split
  · exact (congrArg (fun c : Chan => c.inp.raw) (State.modChan_chan _ _ _) :)
  · rw [State.debounced_raw, State.runTaken_chan]

/-- The electrical level of a sinking input of type 0 outside its thresholds (R160, R177; log entry 92). -/
theorem Chan.electrical_type0 {c : Chan} (hf : c.rng.func = 1) (ht : c.rng.diType = 0) (pad : Int) (seen : Bool) :
    (c.live.getLsbD 12 = true → c.electrical pad seen = false)
      ∧ (c.live.getLsbD 12 = false → (14000 ≤ pad → c.electrical pad seen = true) ∧ (pad ≤ 9000 → c.electrical pad seen = false)) := by
  have hon : c.rng.vOnRange.2 = 14000 := by simp [ChanCfg.vOnRange, hf, ht]
  have hoff : c.rng.vOffMin = 9000 := by simp [ChanCfg.vOffMin, hf, ht]
  unfold Chan.electrical
  rw [hon, hoff, hf]
  refine ⟨fun hl => if_pos hl, fun hl => ⟨fun hp => ?_, fun hp => ?_⟩⟩
  · rw [hl, if_neg (by simp), if_neg (by simp), if_pos hp]
  · rw [hl, if_neg (by simp), if_neg (by simp), if_neg (by omega), if_pos hp]

/-- The end of a block ends CHATTER where the block had fewer events than CHAT_LIMIT (R168). -/
theorem State.blockEnded_cleared (s : State) (n : Fin 16) (t : State) (ht : t = State.blockEnded (s.diagClear n 25) s n) :
    (t.chan n).live.getLsbD 25 = false
      ∧ (t.chan n).inp = { (s.chan n).inp with chatStart := (s.chan n).inp.chatStart + (s.chan n).rng.chatWin * 100000, chatCount := 0 }
      ∧ ((s.chan n).live.getLsbD 25 = false → t.rings = s.rings) ∧ ChanFrame t s n := by
  subst ht
  have hchan : (State.blockEnded (s.diagClear n 25) s n).chan n = _ := State.modChan_chan _ _ _
  have hinp : ((s.diagClear n 25).chan n).inp = (s.chan n).inp := (congrArg Chan.inp (s.diagClear_unlive n 25 n) :)
  refine ⟨?_, ?_, fun hl => ?_, (State.modChan_chanFrame _ n _).trans (s.diagClear_chanFrame n 25)⟩
  · exact (congrArg (fun c : Chan => c.live.getLsbD 25) hchan :).trans (s.diagClear_dead n 25 (by decide))
  · refine (congrArg Chan.inp hchan :).trans ?_
    rw [hinp]
  · show (s.diagClear n 25).rings = s.rings
    rw [State.diagClear_of_dead (by decide) hl]

/-- The end of a block leaves CHATTER where the block reached CHAT_LIMIT (R168). -/
theorem State.blockEnded_kept (s : State) (n : Fin 16) (t : State) (ht : t = State.blockEnded s s n) :
    (t.chan n).live = (s.chan n).live
      ∧ (t.chan n).inp = { (s.chan n).inp with chatStart := (s.chan n).inp.chatStart + (s.chan n).rng.chatWin * 100000, chatCount := 0 }
      ∧ t.rings = s.rings ∧ ChanFrame t s n := by
  subst ht
  have hchan : (State.blockEnded s s n).chan n = _ := State.modChan_chan _ _ _
  exact ⟨(congrArg Chan.live hchan :), congrArg Chan.inp hchan, rfl, s.modChan_chanFrame n _⟩

end

/-- Settles O29, row by row: what a sample, the end of a run, the end of a hold and the end of a block of chatter leave. -/
theorem inputChangesAreAccepted : Obligations.InputChangesAreAccepted := by
  unfold Obligations.InputChangesAreAccepted
  intro n s
  have hle : ∀ {level seen pad lead}, s.runEnds n level seen pad lead → lead ≤ s.clock := fun h => (Nat.le_add_left _ _).trans h.2.2.2.1
  refine ⟨fun level seen pad lead h hd hv hl hc => ⟨_, debounceExpiry_changes h hd hv hl hc, State.changeTaken hv (hle h) _ rfl⟩,
    fun level seen pad lead h hd hv hc => ⟨_, debounceExpiry_first h hd hv hc, State.firstTaken hv (hle h) _ rfl⟩,
    fun level seen pad lead h hd hv hc => debounceExpiry_holds h hd hv hc,
    fun level seen pad lead hold h hd hv hl hh => ⟨_, debounceExpiry_returns h hd hv hl hh, State.holdDiscarded _ rfl⟩,
    fun level seen pad lead hs hw hl h => ?_, fun seen pad lead hs hw hf ht => ?_, fun partner seen pad lead h => debounceExpiry_ignored _ _ _ _ h,
    fun level seen pad lead h hf hp => debounceExpiry_partner h hf hp, fun level hold hs hw hd hh hc ht => ⟨_, ?_, State.holdTaken _ rfl⟩,
    fun hold hh hc ht => couplingHoldExpiry_early hh hc ht, fun hr ht hlimit => ⟨_, ?_, s.blockEnded_cleared n _ rfl⟩,
    fun hr ht hlimit => ⟨_, ?_, s.blockEnded_kept n _ rfl⟩⟩
  · rw [debounceExpiry_own lead hs hw hl, if_pos]
    · rfl
    · obtain h | h := h
      · simp [State.runLong_of_short h]
      · simp [h]
  · obtain ⟨hreversed, hpad⟩ := Chan.electrical_type0 hf ht pad seen
    obtain ⟨t, hsays, hraw⟩ := debounceExpiry_raw (pad := pad) (seen := seen) lead hs hw rfl
    refine ⟨t, hsays, fun hl => ?_, fun hl => ⟨fun hp => ?_, fun hp => ?_⟩⟩ <;> rw [hraw, ChanCfg.inverted]
    · simp [hreversed hl]
    · simp [(hpad hl).1 hp]
    · simp [(hpad hl).2 hp]
  · rw [couplingHoldExpiry_of_hold hh hd hc, whenDo_of (by simp [hs, InputPath.inPulse, hw, ht])]
  · rw [chatterBlockEnd_due hr ht, if_pos hlimit]
  · rw [chatterBlockEnd_due hr ht, if_neg (by omega)]

end Sys2Proof.Machine
end

section
/-! PROOFS. What a stage that follows its pad leaves of its channel, and a latch on a channel with an output stage (R188, R196, R220, R345,
R503). -/

namespace Sys2Proof.Machine

/-! ## A channel that follows its pad -/

/-- A channel without what following its pad writes of it: of the stage, the trips, what keeps its latch and its shedding stay. -/
def Chan.unfollowed (c : Chan) : Chan :=
  { c with stage := { Stage.reset with trips := c.stage.trips, keepLatch := c.stage.keepLatch, shed := c.stage.shed }
           an := { c.an with target := 0#32, targetAt := 0 } }

theorem Chan.retarget_unfollowed (c : Chan) (clock : Nat) : (c.retarget clock).unfollowed = c.unfollowed := by
  unfold Chan.retarget; split <;> rfl

theorem State.refreshTarget_unfollowed (s : State) (i n : Fin 16) : ((s.refreshTarget i).chan n).unfollowed = (s.chan n).unfollowed := by
  unfold State.refreshTarget
  rw [State.modChan_chan_ite]; split
  · exact Chan.retarget_unfollowed _ _
  · rfl

/-- The stage of a channel whose pad is given. -/
def Chan.followed (c : Chan) (p : Pad) (clock : Nat) : Stage :=
  { (if p.isOn && !c.stage.on then c.stage.turnOn c.rng c.rcmd clock else if !p.isOn && c.stage.on then c.stage.turnOff clock else c.stage) with
    drive := p.drive }

theorem Chan.followed_unfollowed (c : Chan) (p : Pad) (clock : Nat) : { c with stage := c.followed p clock }.unfollowed = c.unfollowed := by
  unfold Chan.followed
  split
  · rfl
  · split <;> rfl

/-- A stage is on where its pad is (R503). -/
theorem Chan.followed_on (c : Chan) (p : Pad) (clock : Nat) : (c.followed p clock).on = p.isOn := by
  unfold Chan.followed Stage.turnOn Stage.turnOff
  cases hp : p.isOn <;> cases hc : c.stage.on <;> simp [hc]

theorem State.stageFollows_chan (s : State) (n : Fin 16) (k : Nat) :
    (s.stageFollows n k).chan n = { s.chan n with stage := (s.chan n).followed (s.pad n) s.clock } := by
  unfold State.stageFollows
  dsimp only
  split
  · rw [State.modChan_chan]; rfl
  · rw [State.sendChange_chan, State.modChan_chan]; rfl

theorem State.stageFollows_unfollowed (s : State) (i : Fin 16) (k : Nat) (n : Fin 16) :
    ((s.stageFollows i k).chan n).unfollowed = (s.chan n).unfollowed := by
  by_cases h : i = n
  · subst h
    rw [State.stageFollows_chan, Chan.followed_unfollowed]
  · rw [State.stageFollows_chan_ne _ _ _ _ h]

theorem Chan.unfollowed_rng {c d : Chan} (h : c.unfollowed = d.unfollowed) : c.rng = d.rng := (congrArg Chan.rng h :)

theorem State.refreshStage_unfollowed (s : State) (i : Fin 16) (k : Nat) (n : Fin 16) (hf : (s.chan n).rng.func ≠ 0) :
    ((s.refreshStage i k).chan n).unfollowed = (s.chan n).unfollowed := by
  have h := (State.stageFollows_unfollowed (s.refreshTarget (s.lead i)) (s.lead i) k n).trans (s.refreshTarget_unfollowed (s.lead i) n)
  unfold State.refreshStage
  dsimp only
  rw [State.followGang_chan_func _ _ _ (by rw [Chan.unfollowed_rng h]; exact hf)]
  exact h

theorem State.fskStart_still (s : State) (x y : RingId) : ((s.fskStart x).ring y).still = (s.ring y).still := by
  unfold State.fskStart
  dsimp only
  split
  · exact State.modRing_still _ _ _ _ (fun _ => rfl)
  · rfl

/-- The pad of a digital output is what its channel and its Ring make it (R503). -/
theorem State.pad_congr {t s : State} {n : Fin 16} (hd : isDo (s.chan n).rng.func = true) (hc : (t.chan n).unfollowed = (s.chan n).unfollowed)
    (hr : (t.ring (ringOf n)).still = (s.ring (ringOf n)).still) : t.pad n = s.pad n := by
  have hrng := Chan.unfollowed_rng hc
  have hlatch : (t.chan n).latch = (s.chan n).latch := (congrArg Chan.latch hc :)
  have hsafe : (t.chan n).rsafe = (s.chan n).rsafe := (congrArg Chan.rsafe hc :)
  have hhold : (t.chan n).holdPad = (s.chan n).holdPad := (congrArg Chan.holdPad hc :)
  have hcmd : (t.chan n).rcmd = (s.chan n).rcmd := (congrArg Chan.rcmd hc :)
  have hrhold : (t.ring (ringOf n)).rhold = (s.ring (ringOf n)).rhold := (congrArg Ring.rhold hr :)
  have hoff : t.offHeld n = s.offHeld n := by
    have hshed : (t.chan n).stage.shed = (s.chan n).stage.shed := (congrArg (fun c : Chan => c.stage.shed) hc :)
    have hlogic : (t.ring (ringOf n)).logic = (s.ring (ringOf n)).logic := (congrArg Ring.logic hr :)
    have hvf : (t.ring (ringOf n)).vfOk = (s.ring (ringOf n)).vfOk := (congrArg Ring.vfOk hr :)
    have hconf : (t.ring (ringOf n)).configured = (s.ring (ringOf n)).configured := (congrArg Ring.configured hr :)
    have hgate : (t.ring (ringOf n)).driveGate = (s.ring (ringOf n)).driveGate := (congrArg Ring.driveGate hr :)
    have hmode : (t.ring (ringOf n)).rmode = (s.ring (ringOf n)).rmode := (congrArg Ring.rmode hr :)
    simp only [State.offHeld, hshed, hlogic, hvf, hconf, hgate, hmode]
  unfold State.pad
  rw [State.lead_of_isDo hd, State.lead_of_isDo (by rw [hrng]; exact hd)]
  simp only [hoff, hrng, hlatch, hsafe, hhold, hcmd, hrhold]

/-- A digital output whose stage has followed its pad is on where the pad is (R188, R503). -/
theorem State.refreshStage_on (s : State) (n : Fin 16) (k : Nat) (hd : isDo (s.chan n).rng.func = true) :
    ((s.refreshStage n k).chan n).stage.on = ((s.refreshStage n k).pad n).isOn := by
  have hpad : (s.refreshStage n k).pad n = (s.refreshTarget n).pad n :=
    State.pad_congr (by rw [State.refreshTarget_chan_do _ _ _ hd]; exact hd)
      ((s.refreshStage_unfollowed n k n (func_ne_zero_of_isDo hd)).trans (s.refreshTarget_unfollowed n n).symm) (s.refreshStage_still n k _)
  rw [hpad]
  unfold State.refreshStage
  dsimp only
  rw [State.lead_of_isDo hd, State.followGang_chan_ne _ _ _ (mate_ne n), State.stageFollows_chan]
  exact Chan.followed_on _ _ _

/-! ## The latch of a channel with an output stage (R196, R345) -/

/-- The functions with an output stage are none that a latch stops as an input (R180, R196, R260). -/
theorem hasStage_cases {f : Nat} (h : hasStage f = true) : f ≠ 0 ∧ isDi f = false ∧ f ≠ 13 := by
  simp only [hasStage, isOut, Bool.or_eq_true, Bool.and_eq_true, decide_eq_true_eq] at h
  simp only [isDi, Bool.and_eq_false_iff, decide_eq_false_iff_not]
  omega

/-- A channel whose latch has set. -/
def Chan.latched (c : Chan) (k : BitVec 16) : Chan := { c with causes := c.causes ||| k, latch := true, releaseDue := none }

section
variable {s : State} {n : Fin 16}

theorem State.latchInput_stage (k : BitVec 16) (h : hasStage (s.chan n).rng.func = true) :
    (s.latchInput n k).chan n = (s.chan n).latched k ∧ ∀ y, ((s.latchInput n k).ring y).reports = (s.ring y).reports := by
  obtain ⟨-, hdi, h13⟩ := hasStage_cases h
  unfold State.latchInput
  simp only [hdi, h13, Bool.false_eq_true, if_false]
  split
  · exact ⟨State.modChan_chan _ _ _, fun y => rfl⟩
  · split
    · refine ⟨State.modChan_chan _ _ _, fun y => ?_⟩
      rw [State.modRing_ring_ite]; split <;> rfl
    · exact ⟨State.modChan_chan _ _ _, fun y => rfl⟩

theorem State.latchSet_stage (k : BitVec 16) (h : hasStage (s.chan n).rng.func = true) :
    ((s.latchSet n k).chan n).unfollowed = ((s.chan n).latched k).unfollowed := by
  have hin := (State.latchInput_stage k h).1
  rw [State.latchSet_eq, State.refreshStage_unfollowed, hin]
  rw [hin]; exact (hasStage_cases h).1

theorem State.latchSet_unfollowed_ne (i : Fin 16) (k : BitVec 16) (hi : i ≠ n) (hf : (s.chan n).rng.func ≠ 0) :
    ((s.latchSet i k).chan n).unfollowed = (s.chan n).unfollowed := by
  have hin := s.latchInput_chan_ne i k n hi
  rw [State.latchSet_eq, State.refreshStage_unfollowed, hin]
  rw [hin]; exact hf

/-- Causes on a channel with an output stage set its latch, and leave what its stage has counted. -/
theorem State.setCause_stage (k : BitVec 16) (h : hasStage (s.chan n).rng.func = true) :
    ((s.setCause n k).chan n).unfollowed = ((s.chan n).latched k).unfollowed := by
  have h1 := State.latchSet_stage k h
  unfold State.setCause
  rw [State.tellLatches_chan]
  split
  next m hm =>
    rw [State.latchSet_unfollowed_ne m k (State.gangPair_eq_some hm ▸ mate_ne n), h1]
    rw [Chan.unfollowed_rng h1]; exact (hasStage_cases h).1
  next => exact h1

theorem State.setCause_stage_reports (k : BitVec 16) (h : hasStage (s.chan n).rng.func = true) (hg : s.gangPair n = none) (y : RingId) :
    ((s.setCause n k).ring y).reports = (s.ring y).reports := by
  unfold State.setCause
  rw [State.tellLatches_reports, hg]
  show ((s.latchSet n k).ring y).reports = _
  rw [State.latchSet_eq, State.refreshStage_reports, (State.latchInput_stage k h).2]

/-- Without a gang, the latch of a channel with an output stage writes nothing of its neighbour but the stage (R198). -/
theorem State.setCause_stage_mate (k : BitVec 16) (h : hasStage (s.chan n).rng.func = true) (hg : s.gangPair n = none) :
    ((s.setCause n k).chan (mate n)).unstaged = (s.chan (mate n)).unstaged := by
  have hlead : (s.latchInput n k).lead n = n := State.lead_of_func (by rw [(State.latchInput_stage k h).1]; exact (hasStage_cases h).1)
  unfold State.setCause
  rw [State.tellLatches_chan, hg]
  show ((s.latchSet n k).chan (mate n)).unstaged = _
  rw [State.latchSet_eq, State.refreshStage]
  rw [hlead, State.followGang_unstaged, State.stageFollows_unstaged, State.refreshTarget_chan_ne _ _ _ (mate_ne n).symm,
    State.latchInput_chan_ne _ _ _ _ (mate_ne n).symm]

/-- A report of a channel after its latch has set says what it would have said before. -/
theorem State.setCause_stage_reportsAlike (k : BitVec 16) (h : hasStage (s.chan n).rng.func = true) (hg : s.gangPair n = none) :
    ReportsAlike (s.setCause n k) s n := by
  have hchan := State.setCause_stage k h
  have hstill := s.setCause_still n k (ringOf n)
  obtain ⟨⟨-, hclock, -, -, htime, -⟩, -⟩ := s.setCause_frame n k
  exact ⟨(congrArg Chan.live hchan :), (congrArg (fun c : Chan => c.rng.func) hchan :), State.setCause_stage_reports k h hg _, (congrArg Ring.link hstill :),
    (congrArg Ring.ringLost hstill :), by unfold State.tick; rw [hclock, htime], hclock⟩

/-! ## Trips (R28, R196, R211, R345) -/

/-- A latch with its diagnostic, on a channel with an output stage, is a trip. -/
theorem State.setCause_diagRaise_tripped (k : BitVec 16) (m : Nat) (h : hasStage (s.chan n).rng.func = true) (hm : m < 32)
    (hi : m ≠ 14 ∧ m ≠ 26 ∧ m ≠ 28) : Tripped ((s.setCause n k).diagRaise n m) s n k m := by
  have hkeeps := (s.setCause n k).diagRaise_undiagnosed n m 0#32
  have hraised := (s.setCause n k).diagRaise_raised n m 0#32 hm hi
  have hchan := State.setCause_stage k h
  obtain ⟨hhost, hunits, hrecd, hwheels, hflt, hrpl, hpair, hcells, -⟩ := s.setCause_frame n k
  obtain ⟨rhost, runits, rrecd, rwheels, rflt, rrpl, rpair, rcells, -⟩ := (s.setCause n k).diagRaise_frame n m 0#32
  refine ⟨(congrArg Chan.latch (hkeeps n) :).trans (congrArg Chan.latch hchan :), (congrArg Chan.causes (hkeeps n) :).trans (congrArg Chan.causes hchan :),
    fun hd => ?_, hraised.1, fun hg => (State.setCause_stage_reportsAlike k h hg).raised hraised, fun i hg => ?_,
    fun hl => State.diagRaise_told _ _ _ _ _ (State.setCause_told _ _ _ hl), by simp [KeepsHost, rhost, hhost], by simp [KeepsUnits, runits, hunits],
    rrecd.trans hrecd, rwheels.trans hwheels, rflt.trans hflt, rrpl.trans hrpl, rpair.trans hpair, rcells.trans hcells, fun i hn hmate => ?_, fun hg => ?_,
    fun y _ hy => ?_⟩
  · have hoff := State.setCause_chan_do s n k hd
    have hstage : (((s.setCause n k).diagRaise n m).chan n).stage = (s.chan n).stage.off s.clock :=
      (congrArg Chan.stage (hkeeps n) :).trans (congrArg Chan.stage hoff)
    rw [hstage]
    exact ⟨Stage.off_on _ _, Stage.off_drive _ _⟩
  · have hheld := s.setCause_held_mate n k i hg
    exact ⟨(congrArg Chan.latch (hkeeps i) :).trans (congrArg Prod.fst hheld), (congrArg Chan.causes (hkeeps i) :).trans (congrArg Prod.snd hheld)⟩
  · rw [State.diagRaise_chan_ne _ _ _ _ _ hn.symm, State.setCause_chan_ne _ _ _ _ hn hmate]
  · rw [State.diagRaise_chan_ne _ _ _ _ _ (mate_ne n).symm]
    exact (congrArg (fun c : Chan => { c with stage := (s.chan (mate n)).stage }) (State.setCause_stage_mate k h hg) :)
  · rw [State.diagRaise_ring_ne _ _ _ _ _ hy]
    exact (congrArg Prod.fst (s.setCause_side n k y hy.symm) :)

/-- A trip after a change of the channel's own stage is a trip of the state before it. -/
theorem Tripped.of_stage {t : State} {g : Stage → Stage} {k : BitVec 16} {m : Nat}
    (h : Tripped t (s.modChan n (fun c => { c with stage := g c.stage })) n k m) : Tripped t s n k m := by
  have hchan := s.modChan_chan n (fun c => { c with stage := g c.stage })
  have hother : ∀ i, i ≠ n → (s.modChan n (fun c => { c with stage := g c.stage })).chan i = s.chan i :=
    fun i hi => State.modChan_chan_ne _ _ _ _ hi.symm
  have hrng : ∀ i, ((s.modChan n (fun c => { c with stage := g c.stage })).chan i).rng = (s.chan i).rng := by
    intro i; rw [State.modChan_chan_ite]; split <;> rfl
  have hgang := State.gangPair_of_rng hrng n
  have halike : ReportsAlike (s.modChan n (fun c => { c with stage := g c.stage })) s n := State.modChan_reportsAlike _ _ _ rfl rfl
  obtain ⟨hlatch, hcauses, hoff, hlive, hraised, hpair, htold, hhost, hunits, hrecd, hwheels, hflt, hrpl, hpr, hcells, hothers, hmate, hring⟩ := h
  rw [hgang] at hraised hpair hmate
  rw [hrng] at hoff
  rw [hother _ (mate_ne n)] at hmate
  refine ⟨hlatch, hcauses.trans (by rw [hchan]), hoff, hlive, fun hg => halike.raised (hraised hg), fun i hi => ?_, htold, hhost, hunits, hrecd, hwheels,
    hflt, hrpl, hpr, hcells, fun i hn hm => (hothers i hn hm).trans (hother i hn), hmate, hring⟩
  have hin : i ≠ n := State.gangPair_eq_some hi ▸ mate_ne n
  rw [← hother i hin]
  exact hpair i hi

end

end Sys2Proof.Machine
end

section
/-! PROOFS. Open loads, gangs out of balance, thermal trips and their retry, and PWM periods (R172, R177, R190, R195, R196, R198, R199, R211,
R261, R349). -/

namespace Sys2Proof.Machine

/-- A command on a partner acts on its lead. -/
theorem stage_checks_of_lead (n : Fin 16) (s : State) :
    exec (.openLoadOn n) s = exec (.openLoadOn (s.lead n)) s ∧ exec (.openLoadOff n) s = exec (.openLoadOff (s.lead n)) s
      ∧ exec (.gangImbalance n) s = exec (.gangImbalance (s.lead n)) s ∧ exec (.chThermal n) s = exec (.chThermal (s.lead n)) s
      ∧ exec (.thermalRetry n) s = exec (.thermalRetry (s.lead n)) s ∧ exec (.pwmPeriodStart n) s = exec (.pwmPeriodStart (s.lead n)) s := by
  show execOpenLoadOn n s = execOpenLoadOn (s.lead n) s ∧ execOpenLoadOff n s = execOpenLoadOff (s.lead n) s
    ∧ execGangImbalance n s = execGangImbalance (s.lead n) s ∧ execChThermal n s = execChThermal (s.lead n) s
    ∧ execThermalRetry n s = execThermalRetry (s.lead n) s ∧ execPwmPeriodStart n s = execPwmPeriodStart (s.lead n) s
  simp only [execOpenLoadOn, execOpenLoadOff, execGangImbalance, execChThermal, execThermalRetry, execPwmPeriodStart, State.lead_lead, and_self]

section
variable {n : Fin 16} {s : State}

/-! ## Checks of a stage (R195, R198, R199, R261) -/

/-- A check of a stage is a detection, and leaves stage and latch. -/
theorem State.guardedDetect_checks (s : State) (n : Fin 16) (m : Nat) (hm : m < 32) (hi : m ≠ 14 ∧ m ≠ 26 ∧ m ≠ 28) :
    (s.guardOf n = none → DiagRaised (s.guardedDetect n m) s n m) ∧ GuardedWait (s.guardedDetect n m) s n m
      ∧ ((s.guardedDetect n m).chan n).stage = (s.chan n).stage ∧ ((s.guardedDetect n m).chan n).latch = (s.chan n).latch
      ∧ ChanFrame (s.guardedDetect n m) s n := by
  obtain ⟨hraised, hwaits, hkeeps, hframe⟩ := s.guardedDetect_detects n m hm hi
  exact ⟨hraised, hwaits, (congrArg Chan.stage hkeeps :), (congrArg Chan.latch hkeeps :), hframe⟩

theorem openLoadOn_detects (hf : (s.chan n).rng.func = 4 ∨ (s.chan n).rng.func = 5) (ho : (s.chan n).rng.olOn = true)
    (hon : (s.chan n).stage.on = true) : exec (.openLoadOn n) s = .next (s.guardedDetect n 6) := by
  show execOpenLoadOn n s = _
  unfold execOpenLoadOn
  rw [State.lead_of_func (by omega)]
  exact congrArg _ (whenDo_of (by simpa [ho, hon] using hf) _ _)

theorem openLoadOff_detects (hf : (s.chan n).rng.func = 4 ∨ (s.chan n).rng.func = 6) (ho : (s.chan n).rng.olOff = true)
    (hon : (s.chan n).stage.on = false) (hb : (s.chan n).stage.blankStart = none) (hm : (s.ring (ringOf n)).rrole.may = true) :
    exec (.openLoadOff n) s = .next (s.guardedDetect n 7) := by
  show execOpenLoadOff n s = _
  unfold execOpenLoadOff
  rw [State.lead_of_func (by omega)]
  exact congrArg _ (whenDo_of (by simpa [ho, hon, hb, hm] using hf) _ _)

/-- The source of the check is off while MAY_DRIVE is 0 (R199). -/
theorem openLoadOff_ignored (hm : (s.ring (ringOf n)).rrole.may = false) : exec (.openLoadOff n) s = .next s := by
  show execOpenLoadOff n s = _
  unfold execOpenLoadOff
  refine congrArg _ (whenDo_of_not ?_ _ _)
  rw [State.ringOf_lead, hm, Bool.and_false]

theorem gangImbalance_detects (hg : (gangMate n (s.chan n).rng).isSome = true) (hon : (s.chan n).stage.on = true) :
    exec (.gangImbalance n) s = .next (s.guardedDetect n 24) := by
  obtain ⟨m, hm⟩ := Option.isSome_iff_exists.1 hg
  show execGangImbalance n s = _
  unfold execGangImbalance
  rw [State.lead_of_isDo (gangMate_eq_some hm).2]
  exact congrArg _ (whenDo_of (by simp [hg, hon]) _ _)

theorem gangImbalance_ignored (hg : gangMate (s.lead n) (s.chan (s.lead n)).rng = none) : exec (.gangImbalance n) s = .next s := by
  show execGangImbalance n s = _
  unfold execGangImbalance
  exact congrArg _ (whenDo_of_not (by simp [hg]) _ _)

/-! ## CH_THERMAL (R177, R196) -/

/-- A stage that has tripped by its temperature: the trip is noted, with what keeps its latch. -/
def Stage.thermal (g : Stage) (recent : List Nat) (thRetry : Bool) (clock : Nat) : Stage :=
  { g with trips := recent ++ [clock], keepLatch := !thRetry || decide (8 ≤ recent.length) }

/-- A channel whose stage has tripped by its temperature, before its latch. -/
def State.noteThermal (s : State) (n : Fin 16) (recent : List Nat) : State :=
  s.modChan n (fun c => { c with stage := c.stage.thermal recent (s.chan n).rng.thRetry s.clock })

theorem chThermal_stage {recent : List Nat} (hl : (s.ring (ringOf n)).logic = true) (h : hasStage (s.chan n).rng.func = true)
    (hr : recent = (s.chan n).stage.trips.filter (fun u => decide (s.clock < u + 60000000))) :
    exec (.chThermal n) s = .next (((s.noteThermal n recent).setCause n 4#16).diagRaise n 4) := by
  subst hr
  show execChThermal n s = _
  unfold execChThermal
  rw [State.lead_of_func (hasStage_cases h).1]
  dsimp only
  rw [whenDo_of (by simp [hl, h]), if_pos h]
  rfl

/-- A thermal trip: its latch, the trip that it notes, and no trip by its current (R196). -/
theorem State.thermal_tripped (s : State) (n : Fin 16) (recent : List Nat) (h : hasStage (s.chan n).rng.func = true) (t : State)
    (ht : t = ((s.noteThermal n recent).setCause n 4#16).diagRaise n 4) :
    Tripped t s n 4#16 4 ∧ (t.chan n).stage.trips = recent ++ [s.clock]
      ∧ (t.chan n).stage.keepLatch = (!(s.chan n).rng.thRetry || decide (8 ≤ recent.length)) ∧ (t.chan n).errTrips = (s.chan n).errTrips := by
  subst ht
  have hnote : (s.noteThermal n recent).chan n = { s.chan n with stage := (s.chan n).stage.thermal recent (s.chan n).rng.thRetry s.clock } :=
    State.modChan_chan _ _ _
  have hs : hasStage ((s.noteThermal n recent).chan n).rng.func = true := by rw [hnote]; exact h
  have hkeeps := ((s.noteThermal n recent).setCause n 4#16).diagRaise_undiagnosed n 4 0#32 n
  have hcause := State.setCause_stage 4#16 hs
  rw [hnote] at hcause
  exact ⟨Tripped.of_stage (g := fun g => g.thermal recent (s.chan n).rng.thRetry s.clock)
      (State.setCause_diagRaise_tripped 4#16 4 hs (by decide) (by decide)),
    (congrArg (fun c : Chan => c.stage.trips) hkeeps :).trans (congrArg (fun c : Chan => c.stage.trips) hcause :),
    (congrArg (fun c : Chan => c.stage.keepLatch) hkeeps :).trans (congrArg (fun c : Chan => c.stage.keepLatch) hcause :),
    (congrArg Chan.errTrips hkeeps :).trans (congrArg Chan.errTrips hcause :)⟩

theorem chThermal_input (hl : (s.ring (ringOf n)).logic = true) (h : isDi (s.chan n).rng.func = true) :
    exec (.chThermal n) s = .next ((s.modChan n (fun c => { c with inp := c.inp.endPulse s.clock })).diagRaise n 4) := by
  have hdi : 1 ≤ (s.chan n).rng.func ∧ (s.chan n).rng.func ≤ 3 := by
    simpa only [isDi, Bool.and_eq_true, decide_eq_true_eq] using h
  have hs : hasStage (s.chan n).rng.func = false := by
    simp only [hasStage, isOut, Bool.or_eq_false_iff, Bool.and_eq_false_iff, decide_eq_false_iff_not]; omega
  show execChThermal n s = _
  unfold execChThermal
  rw [State.lead_of_func (by omega)]
  dsimp only
  rw [whenDo_of (by simp [hl, h]), hs]
  rfl

/-- A hot input loses its pulse and its sink, and stays unlatched (R172, R177). -/
theorem State.hotInput (s : State) (n : Fin 16) (t : State) (ht : t = (s.modChan n (fun c => { c with inp := c.inp.endPulse s.clock })).diagRaise n 4) :
    DiagRaised t s n 4 ∧ (t.chan n).latch = (s.chan n).latch ∧ (t.chan n).inp = (s.chan n).inp.endPulse s.clock ∧ t.sinking n = false
      ∧ ChanFrame t s n := by
  subst ht
  have hchan := s.modChan_chan n (fun c => { c with inp := c.inp.endPulse s.clock })
  have hkeeps := (s.modChan n (fun c => { c with inp := c.inp.endPulse s.clock })).diagRaise_undiagnosed n 4 0#32 n
  have halike : ReportsAlike (s.modChan n (fun c => { c with inp := c.inp.endPulse s.clock })) s n := State.modChan_reportsAlike _ _ _ rfl rfl
  have hraised := halike.raised (State.diagRaise_raised _ n 4 0#32 (by decide) (by decide))
  refine ⟨hraised, (congrArg Chan.latch hkeeps :).trans (congrArg Chan.latch hchan :), (congrArg Chan.inp hkeeps :).trans (congrArg Chan.inp hchan :), ?_,
    (State.diagRaise_chanFrame _ n _ _).trans (s.modChan_chanFrame n _)⟩
  unfold State.sinking State.sinkOn
  dsimp only
  rw [hraised.1, Bool.not_true, Bool.and_false, Bool.false_and, Bool.false_and, Bool.false_and]

/-! ## THERMAL_RETRY (R196, R349) -/

/-- What the release of a latch without causes does before the stage follows, on a digital output. -/
def State.unlatched (s : State) (n : Fin 16) : State :=
  ((s.modChan n (fun c => { c with latch := false, releaseDue := none })).diagClearAll n tripDiags).modChan n (fun c => { c with tripKept := false })

theorem State.unlatch_do (k : Nat) (hd : isDo (s.chan n).rng.func = true) (hl : (s.chan n).latch = true) (hc : (s.chan n).causes = 0#16) :
    s.unlatch n k = (((s.unlatched n).refreshStage n k).fskStart (ringOf n)).tellLatches (ringOf n) := by
  have hf : isDi (s.chan n).rng.func = false ∧ isAi (s.chan n).rng.func = false ∧ (s.chan n).rng.func ≠ 12 ∧ (s.chan n).rng.func ≠ 13
      ∧ (s.chan n).rng.func ≠ 14 := by
    simp only [isDo, Bool.and_eq_true, decide_eq_true_eq] at hd
    simp only [isDi, isAi, Bool.and_eq_false_iff, decide_eq_false_iff_not]
    omega
  obtain ⟨hdi, hai, h12, h13, h14⟩ := hf
  unfold State.unlatch State.unlatched
  simp only [hl, hc, hdi, hai, h12, h13, h14, Bool.not_true, ne_eq, not_true, decide_false, Bool.or_self, Bool.false_eq_true, if_false,
    Bool.false_and]

/-- A digital output whose latch without causes has released, before its stage follows, in all but its live diagnostics. -/
theorem State.unlatched_unlive (s : State) (n : Fin 16) :
    ((s.unlatched n).chan n).unlive = { s.chan n with latch := false, releaseDue := none, tripKept := false }.unlive := by
  have hclear : ∀ (u : State), ((u.diagClearAll n tripDiags).chan n).unlive = (u.chan n).unlive := fun u =>
    forEach_keeps (fun t : State => (t.chan n).unlive) _ _ (fun m t => t.diagClear_unlive n m n) u
  have h := hclear (s.modChan n (fun c => { c with latch := false, releaseDue := none }))
  rw [State.modChan_chan] at h
  unfold State.unlatched
  rw [State.modChan_chan]
  exact (congrArg (fun c : Chan => { c with tripKept := false }) h :)

theorem State.unlatched_live_of_dead (b : Nat) (h : (s.chan n).live.getLsbD b = false) : ((s.unlatched n).chan n).live.getLsbD b = false := by
  unfold State.unlatched
  rw [State.modChan_chan]
  exact State.diagClear_live_of_dead 3 b (State.diagClear_live_of_dead 2 b (by rw [State.modChan_chan]; exact h))

theorem State.unlatched_chan_ne (s : State) (n m : Fin 16) (h : m ≠ n) : (s.unlatched n).chan m = s.chan m := by
  unfold State.unlatched
  rw [State.modChan_chan_ne _ _ _ _ h.symm, State.diagClearAll_chan_ne _ _ _ _ h.symm, State.modChan_chan_ne _ _ _ _ h.symm]

/-- What a thermal retry does on a digital output without a gang, up to its event: the diagnostic ends, the retry is counted, and the cause
goes. -/
def State.retried (s : State) (n : Fin 16) : State :=
  (((s.diagClear n 4).modChan n (fun c => { c with errRetries := satInc c.errRetries })).modChan n (fun c =>
    { c with causes := c.causes &&& ~~~4#16 })).tellLatches (ringOf n)

theorem State.retried_chan (s : State) (n : Fin 16) : (s.retried n).chan n =
    { (s.diagClear n 4).chan n with errRetries := satInc ((s.diagClear n 4).chan n).errRetries
                                    causes := ((s.diagClear n 4).chan n).causes &&& ~~~4#16 } := by
  unfold State.retried
  rw [State.tellLatches_chan, State.modChan_chan, State.modChan_chan]

theorem State.retried_unlive (s : State) (n : Fin 16) :
    ((s.retried n).chan n).unlive = { s.chan n with errRetries := satInc (s.chan n).errRetries, causes := (s.chan n).causes &&& ~~~4#16 }.unlive := by
  have h := s.diagClear_unlive n 4 n
  rw [State.retried_chan]
  exact (congrArg (fun c : Chan => { c with errRetries := satInc c.errRetries, causes := c.causes &&& ~~~4#16 }) h :)

theorem State.retried_live (s : State) (n : Fin 16) : ((s.retried n).chan n).live.getLsbD 4 = false := by
  rw [State.retried_chan]
  exact s.diagClear_dead n 4 (by decide)

theorem State.retried_chan_ne (s : State) (n m : Fin 16) (h : m ≠ n) : (s.retried n).chan m = s.chan m := by
  unfold State.retried
  rw [State.tellLatches_chan, State.modChan_chan_ne _ _ _ _ h.symm, State.modChan_chan_ne _ _ _ _ h.symm, State.diagClear_chan_ne _ _ _ _ h.symm]

/-- A digital output after its thermal retry, before the event that records it. -/
def State.cooled (s : State) (n : Fin 16) : State :=
  ((((s.retried n).unlatched n).refreshStage n 5).fskStart (ringOf n)).tellLatches (ringOf n)

theorem thermalRetry_do (hd : isDo (s.chan n).rng.func = true) (hr : (s.chan n).rng.thRetry = true) (hc : (s.chan n).causes = 4#16)
    (hl : (s.chan n).latch = true) (hg : s.gangPair n = none) (hk : (s.chan n).stage.keepLatch = false) :
    exec (.thermalRetry n) s = .next ((s.cooled n).event 0x12 8 .internal (word n.1) 4#32) := by
  have hs : hasStage (s.chan n).rng.func = true := by
    simp only [isDo, Bool.and_eq_true, decide_eq_true_eq] at hd
    simp only [hasStage, isOut, Bool.or_eq_true, Bool.and_eq_true, decide_eq_true_eq]; omega
  have hu := s.retried_unlive n
  have hgang : ((s.diagClear n 4).modChan n (fun c => { c with errRetries := satInc c.errRetries })).gangPair n = none := by
    rw [← hg]
    refine State.gangPair_of_rng (fun i => ?_) n
    have hi : ((s.diagClear n 4).chan i).rng = (s.chan i).rng := (congrArg Chan.rng (s.diagClear_unlive n 4 i) :)
    rw [State.modChan_chan_ite]; split <;> exact hi
  have hclear : ((s.diagClear n 4).modChan n (fun c => { c with errRetries := satInc c.errRetries })).clearAtOnce n 4#16 5 = s.cooled n := by
    unfold State.clearAtOnce State.dropCauses
    simp only [hgang]
    refine State.unlatch_do 5 ?_ ?_ ?_
    · exact (congrArg (fun c : Chan => isDo c.rng.func) hu :).trans hd
    · exact (congrArg Chan.latch hu :).trans hl
    · refine (congrArg Chan.causes hu :).trans ?_
      show (s.chan n).causes &&& ~~~4#16 = 0#16
      rw [hc]; decide
  show execThermalRetry n s = _
  unfold execThermalRetry
  rw [State.lead_of_isDo hd]
  dsimp only
  rw [whenDo_of (by rw [hs, hr, hc, hk]; rfl), hclear]

/-- What a thermal retry leaves alone. -/
theorem State.cooled_frame (s : State) (n : Fin 16) : KeepsHost (s.cooled n) s ∧ KeepsUnits (s.cooled n) s ∧ (s.cooled n).recd = s.recd := by
  simp [State.cooled, State.unlatched, State.retried, State.tellLatches_frame _ _, State.fskStart_frame _ _, State.refreshStage_frame _ _ _,
    State.diagClearAll_frame _ _ _, State.diagClear_frame _ _ _, KeepsHost, KeepsUnits]

/-- A record says the same of two states with one clock, one image and one recorder (R365, R375). -/
theorem State.event_recd_congr {t : State} (hhost : KeepsHost t s) (hunits : KeepsUnits t s) (hrecd : t.recd = s.recd) (g c : Nat) (o : Origin)
    (p q : Word) : (t.event g c o p q).recd = (s.event g c o p q).recd := by
  obtain ⟨-, hclock, -, -, htime, -⟩ := hhost
  obtain ⟨-, himg, -⟩ := hunits
  simp only [State.event, State.report, State.occurrence, State.opt, State.tick, State.pairFlag, hclock, htime, hrecd, himg]

/-- The pad of a digital output is the same through an event. -/
theorem State.event_pad (hd : isDo (s.chan n).rng.func = true) (g c : Nat) (o : Origin) (p q : Word) : (s.event g c o p q).pad n = s.pad n := by
  obtain ⟨-, -, -, -, hchans, hrings, -⟩ := s.event_frame g c o p q
  exact State.pad_congr hd (congrArg Chan.unfollowed (State.chan_of_chans hchans n)) (congrArg Ring.still (State.ring_of_rings hrings _))

theorem State.cooled_chan (s : State) (n m : Fin 16) : (s.cooled n).chan m = (((s.retried n).unlatched n).refreshStage n 5).chan m :=
  (State.tellLatches_chan _ _ _).trans (State.fskStart_chan _ _ _)

theorem State.cooled_pad (s : State) (n : Fin 16) (hd : isDo ((((s.retried n).unlatched n).refreshStage n 5).chan n).rng.func = true) :
    (s.cooled n).pad n = (((s.retried n).unlatched n).refreshStage n 5).pad n :=
  State.pad_congr hd (congrArg Chan.unfollowed (s.cooled_chan n n)) ((State.tellLatches_still _ _ _).trans (State.fskStart_still _ _ _))

/-- What a thermal retry leaves of the channel, its neighbours and the rest (R196, R349). -/
theorem State.cooled_released (hd : isDo (s.chan n).rng.func = true) (hc : (s.chan n).causes = 4#16) (t : State)
    (ht : t = (s.cooled n).event 0x12 8 .internal (word n.1) 4#32) :
    (t.chan n).latch = false ∧ (t.chan n).causes = 0#16 ∧ (t.chan n).live.getLsbD 4 = false ∧ (t.chan n).errRetries = satInc (s.chan n).errRetries
      ∧ (t.chan n).stage.on = (t.pad n).isOn ∧ t.recd = (s.event 0x12 8 .internal (word n.1) 4#32).recd
      ∧ (∀ m, m ≠ n → m ≠ mate n → t.chan m = s.chan m) ∧ KeepsHost t s ∧ KeepsUnits t s := by
  subst ht
  have hunlive := (s.retried n).unlatched_unlive n
  have hretried := s.retried_unlive n
  have hdo : isDo (((s.retried n).unlatched n).chan n).rng.func = true :=
    (congrArg (fun c : Chan => isDo c.rng.func) hunlive :).trans ((congrArg (fun c : Chan => isDo c.rng.func) hretried :).trans hd)
  have hkeeps := State.refreshStage_unstaged_do ((s.retried n).unlatched n) n 5 n hdo
  have hdone : isDo ((((s.retried n).unlatched n).refreshStage n 5).chan n).rng.func = true := by rw [Chan.unstaged_rng hkeeps]; exact hdo
  obtain ⟨hhost, hunits, hrecd⟩ := s.cooled_frame n
  obtain ⟨ehost, eunits, -, -, echans, -⟩ := (s.cooled n).event_frame 0x12 8 .internal (word n.1) 4#32
  have hchan := fun m => (State.chan_of_chans echans m).trans (s.cooled_chan n m)
  refine ⟨?_, ?_, ?_, ?_, ?_, State.event_recd_congr hhost hunits hrecd _ _ _ _ _, fun m hn hm => ?_,
    by simp [KeepsHost, ehost, hhost], by simp [KeepsUnits, eunits, hunits]⟩
  · rw [hchan]
    exact (congrArg Chan.latch hkeeps :).trans (congrArg Chan.latch hunlive :)
  · rw [hchan]
    refine (congrArg Chan.causes hkeeps :).trans ((congrArg Chan.causes hunlive :).trans ((congrArg Chan.causes hretried :).trans ?_))
    show (s.chan n).causes &&& ~~~4#16 = 0#16
    rw [hc]; decide
  · rw [hchan]
    exact (congrArg (fun c : Chan => c.live.getLsbD 4) hkeeps :).trans (State.unlatched_live_of_dead 4 (s.retried_live n))
  · rw [hchan]
    exact (congrArg Chan.errRetries hkeeps :).trans ((congrArg Chan.errRetries hunlive :).trans (congrArg Chan.errRetries hretried :))
  · rw [hchan, State.event_pad (by rw [s.cooled_chan]; exact hdone), s.cooled_pad n hdone]
    exact State.refreshStage_on _ n 5 hdo
  · rw [hchan, State.refreshStage_chan_ne _ _ _ _ hn hm, State.unlatched_chan_ne _ _ _ hn, State.retried_chan_ne _ _ _ hn]

theorem thermalRetry_kept (hk : (s.chan (s.lead n)).stage.keepLatch = true) : exec (.thermalRetry n) s = .next s := by
  show execThermalRetry n s = _
  unfold execThermalRetry
  refine congrArg _ (whenDo_of_not ?_ _ _)
  rw [hk, Bool.not_true, Bool.and_false]

/-! ## PWM (R190) -/

/-- A stage whose next PWM period has begun, with the settings that have reached it. -/
def Stage.nextPeriod (g : Stage) (duty period : Word) (alt : Bool) : Stage :=
  { g with duty := duty, period := period, pwmAlt := alt, pwmStart := g.pwmStart + g.period.toNat }

theorem pwmPeriodStart_due (hf : (s.chan n).rng.func ≠ 0) (hon : (s.chan n).stage.on = true) (hd : (s.chan n).stage.drive = .pwm)
    (ht : (s.chan n).stage.pwmStart + (s.chan n).stage.period.toNat ≤ s.clock) :
    exec (.pwmPeriodStart n) s = .next (s.setStage n (fun g => g.nextPeriod (s.chan n).rng.doDuty (word (s.chan n).rng.period) (s.chan n).rcmd.altOn)) := by
  have hset : s.modChan n (fun c => { c with stage := { c.stage with
      duty := c.rng.doDuty, period := word c.rng.period, pwmAlt := c.rcmd.altOn, pwmStart := (s.chan n).stage.pwmStart + (s.chan n).stage.period.toNat } })
      = s.modChan n (fun c => { c with stage := c.stage.nextPeriod (s.chan n).rng.doDuty (word (s.chan n).rng.period) (s.chan n).rcmd.altOn }) :=
    State.modChan_congr rfl
  show execPwmPeriodStart n s = _
  unfold execPwmPeriodStart
  rw [State.lead_of_func hf]
  dsimp only
  rw [whenDo_of (by simp [hon, hd, ht]), hset]
  rfl

theorem pwmPeriodStart_early (ht : s.clock < (s.chan (s.lead n)).stage.pwmStart + (s.chan (s.lead n)).stage.period.toNat) :
    exec (.pwmPeriodStart n) s = .next s := by
  show execPwmPeriodStart n s = _
  unfold execPwmPeriodStart
  exact congrArg _ (whenDo_of_not (by rw [decide_eq_false (Nat.not_le.2 ht), Bool.and_false]) _ _)

end

/-- Settles O35, row by row: the checks of a stage, thermal trips, hot inputs, retries and PWM periods, of a gang as of its lead. -/
theorem outputDiagnosticsAndTheThermalLimit : Obligations.OutputDiagnosticsAndTheThermalLimit := by
  unfold Obligations.OutputDiagnosticsAndTheThermalLimit
  intro n s
  exact ⟨fun hf ho hon => ⟨_, openLoadOn_detects hf ho hon, s.guardedDetect_checks n 6 (by decide) (by decide)⟩,
    fun hf ho hon hb hm => ⟨_, openLoadOff_detects hf ho hon hb hm, s.guardedDetect_checks n 7 (by decide) (by decide)⟩, openLoadOff_ignored,
    fun hg hon => ⟨_, gangImbalance_detects hg hon, s.guardedDetect_checks n 24 (by decide) (by decide)⟩, gangImbalance_ignored,
    fun recent hl h hr => ⟨_, chThermal_stage hl h hr, s.thermal_tripped n recent h _ rfl⟩,
    fun hl h => ⟨_, chThermal_input hl (by simp [isDi, h]), s.hotInput n _ rfl⟩,
    fun hd hr hc hl hg hk => ⟨_, thermalRetry_do hd hr hc hl hg hk, State.cooled_released hd hc _ rfl⟩, thermalRetry_kept,
    fun hf hon hd ht => ⟨_, pwmPeriodStart_due hf hon hd ht, s.setStage_chan n _, s.setStage_stageFrame n _⟩, pwmPeriodStart_early,
    stage_checks_of_lead n s⟩

end Sys2Proof.Machine
end

section
/-! PROOFS. What a write of RINGx_LOADCFG leaves of the frames that wait for the Ring, on a standby (R215, R445). -/

namespace Sys2Proof.Machine

theorem State.regWrite_loadcfg (s : State) (o : Origin) (x : RingId) (fall w : Word) (obs : Option Int) :
    s.regWrite o (.ring x .loadcfg) fall w obs = s.imgWrite o (.ring x .loadcfg) w
      [refuseLow [(outside 40 (fld w 24 8) 240, 24), (fld w 16 8 = 0, 16), (outside 2 (fld w 9 6) 50, 9), (outside 80 (fld w 0 9) 360, 0)]]
      (fun t => (t.modRing x (fun r => { r with loadcfg := w })).sendRingCfg x) := rfl

theorem State.takeLoadcfg_leavesLink (x y : RingId) (w : Word) :
    LeavesLink y (fun t => (t.modRing x (fun r => { r with loadcfg := w })).sendRingCfg x) := by
  intro t
  refine ⟨by simp [State.sendRingCfg, State.sendRing_frame _ _ _], by simp [State.sendRingCfg, State.sendRing_frame _ _ _],
    (State.sendRing_link _ _ _ _).trans ?_⟩
  rw [State.modRing_ring_ite]; split <;> rfl

/-- Refutes O33: the clause on RINGx_LOADCFG adds the Ring's configuration to the frames that wait for the Ring, and no other frame; but a
direct write on a standby makes the unit UNQUALIFIED (R434, R445), and where the Ring was last told another role, a frame with the role
follows. -/
theorem not_outputCommandsAreWritten : ¬ Obligations.OutputCommandsAreWritten := by
  unfold Obligations.OutputCommandsAreWritten
  intro h
  obtain ⟨-, -, -, -, -, hloadcfg⟩ := h directWrite 0 returnedStandby
  obtain ⟨t, hsays, -, -, -, hframes, -⟩ := hloadcfg .a 0x700A14B4#32 returnedStandby_ready (by decide) rfl (by decide) (by decide)
    (by decide) (by decide)
  obtain rfl := Host.Outcome.next.inj hsays
  obtain ⟨k, hk⟩ := returnedStandby_tells .a (by simp) rfl (by simp)
    (State.regWrite_loadcfg _ .hp0 .a _ (setFld 0x700A14B4#32 15 1 0) none) (by decide) (State.takeLoadcfg_leavesLink _ _ _)
  rw [hframes (returnedStandby_link .a), returnedStandby_cmdq] at hk
  simp at hk

end Sys2Proof.Machine
end

section
/-! PROOFS. The live bits of a Ring, and the causes that set every latch of it (R197, R200, R201, R211, R216, R345). -/

namespace Sys2Proof.Machine

/-! ## Loops that come to one element once -/

theorem ringChs_nodup (x : RingId) : (ringChs x).Nodup := by cases x <;> decide

/-- What each step of a loop keeps, the loop keeps. -/
theorem forEach_stays {α : Type} {f : α → State → State} {Q : State → Prop} {xs : List α} (h : ∀ i ∈ xs, ∀ t, Q t → Q (f i t)) (s : State)
    (hs : Q s) : Q (forEach xs f s) := by
  induction xs generalizing s with
  | nil => exact hs
  | cons i xs ih => exact ih (fun j hj => h j (List.mem_cons_of_mem _ hj)) _ (h i List.mem_cons_self s hs)

/-- A loop leads from `P` to `Q` by its step at `n`, where its other steps keep both. -/
theorem forEach_reaches {α : Type} {f : α → State → State} {n : α} {P Q : State → Prop} {xs : List α} (hd : xs.Nodup) (hn : n ∈ xs)
    (hP : ∀ i, i ≠ n → ∀ t, P t → P (f i t)) (hset : ∀ t, P t → Q (f n t)) (hQ : ∀ i, i ≠ n → ∀ t, Q t → Q (f i t)) (s : State) (h : P s) :
    Q (forEach xs f s) := by
  induction xs generalizing s with
  | nil => exact absurd hn List.not_mem_nil
  | cons i xs ih =>
    obtain ⟨hi, hd⟩ := List.nodup_cons.1 hd
    rw [forEach_cons]
    by_cases hin : i = n
    · subst hin
      exact forEach_stays (fun j hj => hQ j (fun hji => hi (hji ▸ hj))) _ (hset s h)
    · exact ih hd ((List.mem_cons.1 hn).resolve_left (Ne.symm hin)) _ (hP i hin s h)

/-! ## A live bit with its sticky copy and its report (R197, R200, R201, R211, R216) -/

/-- A Ring one of whose live bits has changed, with the sticky copy of one that has become live. -/
def Ring.diagnosed (g : Ring) (b : Nat) (live : Bool) : Ring := { g with sticky := if live then g.sticky ||| (1#6 <<< b) else g.sticky }

section
variable (s : State) (x : RingId) (b : Nat) (r : Fin 20) (live : Bool) (f : Ring → Ring)

theorem State.ringDiag_same {was : Bool} (h : was = live) : s.ringDiag x b r was live f = s := if_pos h

theorem State.ringDiag_changes {was : Bool} (h : was = !live) : s.ringDiag x b r was live f
    = (s.modRing x (fun g => (f g).diagnosed b live)).ringReport x (ringSlot x r) 0 live 0#32 := by
  subst h; cases live <;> rfl

theorem State.ringDiag_quiet {was : Bool} (h : was = !live) :
    ((s.ringDiag x b r was live f).ring x).quiet = ((f (s.ring x)).diagnosed b live).quiet := by
  rw [State.ringDiag_changes s x b r live f h, State.ringReport_quiet, State.modRing_ring]

/-- After its judgement a live bit is what was judged. -/
theorem State.ringDiag_bit (P : Ring → Bool) (hP : ∀ g : Ring, P g = P g.quiet) (hf : ∀ g, P ((f g).diagnosed b live) = live) :
    P ((s.ringDiag x b r (P (s.ring x)) live f).ring x) = live := by
  by_cases h : P (s.ring x) = live
  · rw [State.ringDiag_same s x b r live f h]; exact h
  · rw [hP, State.ringDiag_quiet s x b r live f (Bool.eq_not_of_ne h), ← hP, hf]

theorem State.ringDiag_sticky {was : Bool} (h : was = !live) (hf : ∀ g, (f g).sticky = g.sticky) :
    ((s.ringDiag x b r was live f).ring x).sticky = if live then (s.ring x).sticky ||| (1#6 <<< b) else (s.ring x).sticky := by
  have hquiet := s.ringDiag_quiet x b r live f h
  refine (congrArg Ring.sticky hquiet :).trans ?_
  rw [← hf (s.ring x)]
  rfl

/-- A change of a live bit that the Ring can hold is reported (R345). -/
theorem State.ringDiag_reports {was : Bool} (h : was = !live)
    (hf : ∀ g, (f g).reports = g.reports ∧ (f g).link = g.link ∧ (f g).ringLost = g.ringLost) (hlen : (s.ring x).reports.length < 32) :
    ((s.ringDiag x b r was live f).ring x).reports = (s.ring x).reports
      ++ [⟨ringSlot x r, 0#8, live, 0#32, s.tick, s.clock, !(s.ring x).link || (s.ring x).ringLost⟩] := by
  obtain ⟨hreports, hlink, hlost⟩ := hf (s.ring x)
  rw [State.ringDiag_changes s x b r live f h]
  unfold State.ringReport
  rw [State.modRing_ring, State.modRing_ring]
  simp only [Ring.diagnosed, hreports, hlink, hlost, if_pos hlen]
  rfl

theorem State.ringDiag_ring_ne {was : Bool} (y : RingId) (h : y ≠ x) : (s.ringDiag x b r was live f).ring y = s.ring y := by
  by_cases hw : was = live
  · rw [State.ringDiag_same s x b r live f hw]
  · rw [State.ringDiag_changes s x b r live f (Bool.eq_not_of_ne hw)]
    exact (State.modRing_ring_ne _ _ _ _ h.symm).trans (State.modRing_ring_ne _ _ _ _ h.symm)

/-- A live bit of a Ring leaves all but the Ring. -/
theorem State.ringDiag_row (was : Bool) (t : State) (ht : t = s.ringDiag x b r was live f) :
    (∀ y ∈ [RingId.a, RingId.b], y ≠ x → t.ring y = s.ring y) ∧ KeepsHost t s ∧ KeepsUnits t s ∧ t.recd = s.recd ∧ t.wheels = s.wheels
      ∧ t.flt = s.flt ∧ t.chans = s.chans ∧ t.rpl = s.rpl ∧ t.pair = s.pair ∧ t.cells = s.cells := by
  subst ht
  obtain ⟨hhost, hunits, hrecd, hwheels, hflt, hchans, hrpl, hpair, hcells, -⟩ := s.ringDiag_frame x b r was live f
  exact ⟨fun y _ hy => s.ringDiag_ring_ne x b r live f y hy, hhost, hunits, hrecd, hwheels, hflt, hchans, hrpl, hpair, hcells⟩

end

/-! ## Causes on every channel of a Ring (R197, R201) -/

/-- Every latch of the Ring sets, and adds the cause. -/
theorem State.setCauseRing_held (s : State) {x : RingId} (k : BitVec 16) {n : Fin 16} (hn : n ∈ ringChs x) :
    ((s.setCauseRing x k).chan n).held = (true, (s.chan n).causes ||| k) := by
  unfold State.setCauseRing
  rw [State.tellLatches_chan]
  refine forEach_reaches (P := fun t => (t.chan n).held = (s.chan n).held) (Q := fun t => (t.chan n).held = (true, (s.chan n).causes ||| k))
    (ringChs_nodup x) hn (fun i hi t ht => ?_) (fun t ht => ?_) (fun i hi t ht => ?_) s rfl
  · rw [State.latchSet_held, if_neg hi, ht]
  · rw [State.latchSet_held, if_pos rfl]
    exact congrArg (fun p : Bool × BitVec 16 => (true, p.2 ||| k)) ht
  · rw [State.latchSet_held, if_neg hi, ht]

/-- Every digital output of the Ring goes off. -/
theorem State.setCauseRing_off (s : State) {x : RingId} (k : BitVec 16) {n : Fin 16} (hn : n ∈ ringChs x) (hd : isDo (s.chan n).rng.func = true) :
    ((s.setCauseRing x k).chan n).stage.on = false := by
  unfold State.setCauseRing
  rw [State.tellLatches_chan]
  have hoff : ∃ c : Chan, isDo c.rng.func = true ∧ (forEach (ringChs x) (fun n t => t.latchSet n k) s).chan n
      = c.latchedOff k (forEach (ringChs x) (fun n t => t.latchSet n k) s).clock := by
    refine forEach_reaches (P := fun t => isDo (t.chan n).rng.func = true)
      (Q := fun t => ∃ c : Chan, isDo c.rng.func = true ∧ t.chan n = c.latchedOff k t.clock)
      (ringChs_nodup x) hn (fun i hi t ht => ?_) (fun t ht => ⟨t.chan n, ht, ?_⟩) (fun i hi t ht => ?_) s hd
    · rw [Chan.unfollowed_rng (State.latchSet_unfollowed_ne i k hi (func_ne_zero_of_isDo ht))]; exact ht
    · rw [State.latchSet_chan_do t n k ht, (t.latchSet_frame n k).1.2.1]
    · obtain ⟨c, hc, ht⟩ := ht
      exact ⟨c, hc, by rw [State.latchSet_chan_latchedOff t i n k c k hi ht hc, ht, (t.latchSet_frame i k).1.2.1]⟩
  obtain ⟨c, -, hc⟩ := hoff
  rw [hc]
  exact Stage.off_on _ _

/-- What a cause on a whole Ring makes of its channels, and what it leaves: the other Ring and the host die. -/
theorem State.setCauseRing_latches (s : State) (x : RingId) (k : BitVec 16) (t : State) (ht : t = s.setCauseRing x k) :
    (∀ n ∈ ringChs x, (t.chan n).latch = true ∧ (t.chan n).causes = (s.chan n).causes ||| k)
      ∧ (∀ n ∈ ringChs x, isDo (s.chan n).rng.func = true → (t.chan n).stage.on = false)
      ∧ (∀ y ∈ [RingId.a, RingId.b], y ≠ x → (t.ring y = s.ring y ∧ ∀ n, ringOf n = y → t.chan n = s.chan n)) ∧ KeepsHost t s ∧ KeepsUnits t s
      ∧ t.recd = s.recd ∧ t.wheels = s.wheels ∧ t.rpl = s.rpl ∧ t.pair = s.pair ∧ t.cells = s.cells := by
  subst ht
  obtain ⟨hhost, hunits, hrecd, hwheels, -, hrpl, hpair, hcells, -⟩ := s.setCauseRing_frame x k
  refine ⟨fun n hn => ?_, fun n hn => s.setCauseRing_off k hn, fun y _ hy => ?_, hhost, hunits, hrecd, hwheels, hrpl, hpair, hcells⟩
  · have h := s.setCauseRing_held k hn
    exact ⟨congrArg Prod.fst h, congrArg Prod.snd h⟩
  · exact ⟨(congrArg Prod.fst (s.setCauseRing_side x k y hy.symm) :), fun n hn => s.setCauseRing_chan_other x k n (hn ▸ hy)⟩

/-! ## The commands -/

section
variable {x : RingId} {s : State}

theorem tempWarn_judges (hot : Bool) (hl : (s.ring x).logic = true) :
    exec (.tempWarn x hot) s = .next (s.ringDiag x 4 9 (s.ring x).tempWarn hot (fun g => { g with tempWarn := hot })) :=
  congrArg Host.Outcome.next (whenDo_of hl _ _)

theorem vfLow_judges (hl : (s.ring x).logic = true) :
    exec (.vfLow x) s = .next (s.ringDiag x 0 6 (s.ring x).vfLow true (fun g => { g with vfLow := true })) :=
  congrArg Host.Outcome.next (whenDo_of hl _ _)

theorem ringOverload_judges (high : Bool) (hl : (s.ring x).logic = true) : exec (.ringOverload x high) s
    = .next (s.ringDiag x 2 7 (s.ring x).overload high (fun g => { g with overload := high, overloadAt := s.clock })) :=
  congrArg Host.Outcome.next (whenDo_of hl _ _)

theorem ringThermal_latches (hl : (s.ring x).logic = true) : exec (.ringThermal x) s
    = .next ((s.setCauseRing x 8#16).ringDiag x 5 10 (s.ring x).thermal true (fun g => { g with thermal := true })) :=
  congrArg Host.Outcome.next (whenDo_of hl _ _)

theorem ringOverloadLatch_due (ho : (s.ring x).overload = true) (ht : (s.ring x).overloadAt + 1000000 ≤ s.clock) :
    exec (.ringOverloadLatch x) s = .next (s.setCauseRing x 16#16) :=
  congrArg Host.Outcome.next (whenDo_of (by simp [ho, ht]) _ _)

theorem ringOverloadLatch_early (h : (s.ring x).overload = false ∨ s.clock < (s.ring x).overloadAt + 1000000) :
    exec (.ringOverloadLatch x) s = .next s := by
  refine congrArg Host.Outcome.next (whenDo_of_not ?_ _ _)
  rcases h with h | h
  · rw [h, Bool.false_and]
  · rw [decide_eq_false (Nat.not_le.2 h), Bool.and_false]

end

/-- What RING_THERMAL leaves: the latches that it sets, then its live bit (R197). -/
theorem State.ringThermal_sets (s : State) (x : RingId) (t : State)
    (ht : t = (s.setCauseRing x 8#16).ringDiag x 5 10 (s.ring x).thermal true (fun g => { g with thermal := true })) :
    (t.ring x).thermal = true ∧ ((s.ring x).thermal = false → (t.ring x).sticky = (s.ring x).sticky ||| 32#6)
      ∧ (∀ n ∈ ringChs x, (t.chan n).latch = true ∧ (t.chan n).causes = (s.chan n).causes ||| 8#16)
      ∧ (∀ n ∈ ringChs x, isDo (s.chan n).rng.func = true → (t.chan n).stage.on = false)
      ∧ (∀ y ∈ [RingId.a, RingId.b], y ≠ x → (t.ring y = s.ring y ∧ ∀ n, ringOf n = y → t.chan n = s.chan n)) ∧ KeepsHost t s ∧ KeepsUnits t s
      ∧ t.recd = s.recd ∧ t.wheels = s.wheels ∧ t.rpl = s.rpl ∧ t.pair = s.pair ∧ t.cells = s.cells := by
  have hstill := s.setCauseRing_still x 8#16 x
  have hthermal : ((s.setCauseRing x 8#16).ring x).thermal = (s.ring x).thermal := (congrArg Ring.thermal hstill :)
  have hsticky : ((s.setCauseRing x 8#16).ring x).sticky = (s.ring x).sticky := (congrArg Ring.sticky hstill :)
  obtain ⟨hlatches, hoff, hother, hhost, hunits, hrecd, hwheels, hrpl, hpair, hcells⟩ := s.setCauseRing_latches x 8#16 _ rfl
  rw [← hthermal] at ht ⊢
  generalize s.setCauseRing x 8#16 = u at hsticky hlatches hoff hother hhost hunits hrecd hwheels hrpl hpair hcells ht ⊢
  obtain ⟨dring, dhost, dunits, drecd, dwheels, -, dchans, drpl, dpair, dcells⟩ := u.ringDiag_row x 5 10 true _ _ t ht
  have hchan := State.chan_of_chans dchans
  subst ht
  refine ⟨u.ringDiag_bit x 5 10 true _ Ring.thermal (fun _ => rfl) (fun _ => rfl), fun h => ?_, fun n hn => ?_, fun n hn hd => ?_,
    fun y hy hne => ⟨(dring y hy hne).trans (hother y hy hne).1, fun n hn => (hchan n).trans ((hother y hy hne).2 n hn)⟩,
    by simp [KeepsHost, dhost, hhost], by simp [KeepsUnits, dunits, hunits], drecd.trans hrecd, dwheels.trans hwheels, drpl.trans hrpl,
    dpair.trans hpair, dcells.trans hcells⟩
  · rw [u.ringDiag_sticky x 5 10 true (fun g => { g with thermal := true }) h (fun _ => rfl), hsticky]; rfl
  · rw [hchan]; exact hlatches n hn
  · rw [hchan]; exact hoff n hn hd

/-- Settles O36, row by row: each live bit by its judgement, and the causes that latch a whole Ring. -/
theorem ringLimitsAreJudged : Obligations.RingLimitsAreJudged := by
  unfold Obligations.RingLimitsAreJudged
  intro x s
  refine ⟨fun hot hl => ⟨_, tempWarn_judges hot hl, ?_⟩, fun hl => ⟨_, ringThermal_latches hl, s.ringThermal_sets x _ rfl⟩,
    fun hl => ⟨_, vfLow_judges hl, ?_⟩, ⟨_, rfl, ?_⟩, fun high hl => ⟨_, ringOverload_judges high hl, ?_⟩,
    fun ho ht => ⟨_, ringOverloadLatch_due ho ht, s.setCauseRing_latches x 16#16 _ rfl⟩, ringOverloadLatch_early⟩
  · refine ⟨s.ringDiag_bit x 4 9 hot _ Ring.tempWarn (fun _ => rfl) (fun _ => rfl), fun h => by rw [s.ringDiag_same x 4 9 hot _ h],
      fun h => s.ringDiag_reports x 4 9 hot _ h (fun _ => ⟨rfl, rfl, rfl⟩), fun hhot h => ?_, s.ringDiag_row x 4 9 hot _ _ _ rfl⟩
    subst hhot
    exact s.ringDiag_sticky x 4 9 true _ h (fun _ => rfl)
  · exact ⟨s.ringDiag_bit x 0 6 true _ Ring.vfLow (fun _ => rfl) (fun _ => rfl), fun h => by rw [s.ringDiag_same x 0 6 true _ h],
      fun h => s.ringDiag_reports x 0 6 true _ h (fun _ => ⟨rfl, rfl, rfl⟩), fun h => s.ringDiag_sticky x 0 6 true _ h (fun _ => rfl),
      s.ringDiag_row x 0 6 true _ _ _ rfl⟩
  · exact ⟨s.ringDiag_bit x 0 6 false _ Ring.vfLow (fun _ => rfl) (fun _ => rfl), fun h => by rw [s.ringDiag_same x 0 6 false _ h],
      fun h => s.ringDiag_reports x 0 6 false _ h (fun _ => ⟨rfl, rfl, rfl⟩), fun h => s.ringDiag_sticky x 0 6 false _ h (fun _ => rfl),
      s.ringDiag_row x 0 6 false _ _ _ rfl⟩
  · exact ⟨s.ringDiag_bit x 2 7 high _ Ring.overload (fun _ => rfl) (fun _ => rfl), fun h => by rw [s.ringDiag_same x 2 7 high _ h],
      fun h => (congrArg Ring.overloadAt (s.ringDiag_quiet x 2 7 high _ h) :),
      fun h => s.ringDiag_reports x 2 7 high _ h (fun _ => ⟨rfl, rfl, rfl⟩), s.ringDiag_row x 2 7 high _ _ _ rfl⟩

end Sys2Proof.Machine
end

section
/-! PROOFS. What shedding and restoring leave of the channels, of the Ring and of the records (R202, R203, R510). -/

namespace Sys2Proof.Machine

/-! ## Diagnostics one at a time (R178) -/

theorem State.diagRaise_live_ne (s : State) (i n : Fin 16) {m b : Nat} (hm : m < 32) (hb : b ≠ m) :
    ((s.diagRaise i m).chan n).live.getLsbD b = (s.chan n).live.getLsbD b := by
  unfold State.diagRaise
  dsimp only
  rw [Nat.mod_eq_of_lt hm]
  split
  · rfl
  · rw [State.ringReport_chan, State.modChan_chan_ite]
    split
    · have hbit : (1#32 <<< m).getLsbD b = false := by simp; omega
      dsimp only
      split
      · rfl
      · rw [BitVec.getLsbD_or, hbit, Bool.or_false]
    · rfl

theorem State.diagClear_live_ne (s : State) (i n : Fin 16) {m b : Nat} (hm : m < 32) (hb : b ≠ m) (hlt : b < 32) :
    ((s.diagClear i m).chan n).live.getLsbD b = (s.chan n).live.getLsbD b := by
  unfold State.diagClear
  rw [Nat.mod_eq_of_lt hm]
  split
  · rw [State.ringReport_chan, State.modChan_chan_ite]
    split
    · have hbit : (1#32 <<< m).getLsbD b = false := by simp; omega
      rw [BitVec.getLsbD_and, BitVec.getLsbD_not, hbit]
      simp [hlt]
    · rfl
  · rfl

/-! ## The Ring through shedding -/

/-- A Ring without what shedding, messages and reports write of it. -/
def Ring.supply (r : Ring) : Ring := { r.still with shedStack := [], cleanTicks := 0 }

theorem Ring.supply_of_still {r q : Ring} (h : r.still = q.still) : r.supply = q.supply :=
  congrArg (fun k : Ring => { k with shedStack := [], cleanTicks := 0 }) h

theorem State.modRing_supply (s : State) (x y : RingId) (f : Ring → Ring) (h : ∀ r, (f r).supply = r.supply) :
    ((s.modRing x f).ring y).supply = (s.ring y).supply := by
  rw [State.modRing_ring_ite]; split
  · exact h _
  · rfl

/-! ## A stage that follows its pad, as to its shedding -/

/-- A channel that is not shed stays so through its gang: a partner is never shed on its own (R198, R202). -/
theorem State.followGang_unshed {s : State} (i : Fin 16) {n : Fin 16} (h : (s.chan n).stage.shed = false) :
    ((s.followGang i).chan n).stage.shed = false := by
  unfold State.followGang
  dsimp only
  split
  · rw [State.modChan_chan_ite]; split
    · rfl
    · exact h
  · split
    · rw [State.modChan_chan_ite]; split <;> exact h
    · exact h

theorem State.refreshStage_unshed {s : State} (i : Fin 16) (k : Nat) {n : Fin 16} (h : (s.chan n).stage.shed = false) :
    ((s.refreshStage i k).chan n).stage.shed = false := by
  have hfollowed := (State.stageFollows_unfollowed (s.refreshTarget (s.lead i)) (s.lead i) k n).trans (s.refreshTarget_unfollowed (s.lead i) n)
  exact State.followGang_unshed _ ((congrArg (fun c : Chan => c.stage.shed) hfollowed :).trans h)

/-- A digital output that follows its pad leaves every other channel that has a function of its own. -/
theorem State.refreshStage_chan_func {s : State} {i n : Fin 16} (k : Nat) (hd : isDo (s.chan i).rng.func = true) (hn : n ≠ i)
    (hf : (s.chan n).rng.func ≠ 0) : (s.refreshStage i k).chan n = s.chan n := by
  have hsame : ((s.refreshTarget i).stageFollows i k).chan n = s.chan n := by
    rw [State.stageFollows_chan_ne _ _ _ _ hn.symm, State.refreshTarget_chan_ne _ _ _ hn.symm]
  unfold State.refreshStage
  dsimp only
  rw [State.lead_of_isDo hd, State.followGang_chan_func _ _ _ (by rw [hsame]; exact hf), hsame]

/-- The pad of a digital output that is shed is off (R202). -/
theorem State.pad_shed {s : State} {n : Fin 16} (hd : isDo (s.chan n).rng.func = true) (h : (s.chan n).stage.shed = true) : s.pad n = .off := by
  unfold State.pad
  rw [State.lead_of_isDo hd]
  exact if_pos (by simp [State.offHeld, h])

/-! ## A channel is shed (R202) -/

/-- The channel is marked as shed. -/
def State.marked (s : State) (n : Fin 16) : State := s.modChan n (fun c => { c with stage := { c.stage with shed := true } })

theorem State.marked_chan (s : State) (n : Fin 16) :
    (s.marked n).chan n = { s.chan n with stage := { (s.chan n).stage with shed := true } } := State.modChan_chan _ _ _

theorem State.marked_chan_ne (s : State) {n m : Fin 16} (h : m ≠ n) : (s.marked n).chan m = s.chan m := State.modChan_chan_ne _ _ _ _ h.symm

/-- Its stage follows, before its diagnostic and its record. -/
def State.shedding (s : State) (n : Fin 16) : State := (s.marked n).refreshStage n 1

/-- The same, once it stands on the stack of its Ring. -/
def State.stacked (s : State) (n : Fin 16) : State :=
  (s.shedding n).modRing (ringOf n) (fun r => { r with shedStack := n :: r.shedStack })

theorem State.shed_eq (s : State) (n : Fin 16) : s.shed n = ((s.stacked n).diagRaise n 30).event 0x12 7 .internal (word n.1) 0#32 := rfl

section
variable {s : State} {n : Fin 16}

theorem State.shed_chan (m : Fin 16) : (s.shed n).chan m = ((s.stacked n).diagRaise n 30).chan m := by
  obtain ⟨-, -, -, -, hchans, -⟩ := ((s.stacked n).diagRaise n 30).event_frame 0x12 7 .internal (word n.1) 0#32
  exact State.chan_of_chans hchans m

theorem State.shed_stage (m : Fin 16) : ((s.shed n).chan m).stage = ((s.shedding n).chan m).stage := by
  have h := (s.stacked n).diagRaise_undiagnosed n 30 0#32 m
  rw [State.shed_chan]
  exact (congrArg Chan.stage h :)

/-- A digital output that is shed is off, with its diagnostic live. -/
theorem State.shed_sheds (hd : isDo (s.chan n).rng.func = true) :
    ((s.shed n).chan n).stage.shed = true ∧ ((s.shed n).chan n).stage.on = false ∧ ((s.shed n).chan n).live.getLsbD 30 = true := by
  have hdo : isDo ((s.marked n).chan n).rng.func = true := by rw [State.marked_chan]; exact hd
  have hkeeps : ((s.shedding n).chan n).unfollowed = ((s.marked n).chan n).unfollowed :=
    State.refreshStage_unfollowed _ n 1 n (func_ne_zero_of_isDo hdo)
  have hshed : ((s.shedding n).chan n).stage.shed = true := 
    (congrArg (fun c : Chan => c.stage.shed) hkeeps :).trans (congrArg (fun c : Chan => c.stage.shed) (s.marked_chan n) :)
  have hon : ((s.shedding n).chan n).stage.on = ((s.shedding n).pad n).isOn := State.refreshStage_on _ n 1 hdo
  rw [State.shed_stage]
  refine ⟨hshed, ?_, ?_⟩
  · rw [hon, State.pad_shed (by rw [Chan.unfollowed_rng hkeeps]; exact hdo) hshed]; rfl
  · rw [State.shed_chan]
    exact ((s.stacked n).diagRaise_raised n 30 0#32 (by decide) (by decide)).1

/-- What is shed leaves every channel but its own and its neighbour. -/
theorem State.shed_chan_ne (m : Fin 16) (hn : m ≠ n) (hm : m ≠ mate n) : (s.shed n).chan m = s.chan m := by
  rw [State.shed_chan, State.diagRaise_chan_ne _ _ _ _ _ hn.symm]
  exact (State.refreshStage_chan_ne _ _ _ _ hn hm).trans (s.marked_chan_ne hn)

/-- What is shed leaves every other channel that has a function of its own. -/
theorem State.shed_chan_func (hd : isDo (s.chan n).rng.func = true) (m : Fin 16) (hn : m ≠ n) (hf : (s.chan m).rng.func ≠ 0) :
    (s.shed n).chan m = s.chan m := by
  have hother := s.marked_chan_ne hn
  rw [State.shed_chan, State.diagRaise_chan_ne _ _ _ _ _ hn.symm]
  exact (State.refreshStage_chan_func 1 (by rw [State.marked_chan]; exact hd) hn (by rw [hother]; exact hf)).trans hother

theorem State.shed_still (y : RingId) : ((s.shed n).ring y).still = ((s.stacked n).ring y).still := by
  obtain ⟨-, -, -, -, -, hrings, -⟩ := ((s.stacked n).diagRaise n 30).event_frame 0x12 7 .internal (word n.1) 0#32
  rw [State.shed_eq, State.ring_of_rings hrings, State.diagRaise_still]

theorem State.shedding_still (y : RingId) : ((s.shedding n).ring y).still = (s.ring y).still := State.refreshStage_still _ n 1 y

theorem State.shed_stack : ((s.shed n).ring (ringOf n)).shedStack = n :: (s.ring (ringOf n)).shedStack := by
  have hstacked : (s.stacked n).ring (ringOf n)
      = { (s.shedding n).ring (ringOf n) with shedStack := n :: ((s.shedding n).ring (ringOf n)).shedStack } := State.modRing_ring _ _ _
  refine (congrArg Ring.shedStack (State.shed_still (ringOf n)) :).trans ?_
  rw [hstacked]
  exact congrArg (n :: ·) (congrArg Ring.shedStack (State.shedding_still (s := s) (ringOf n)) :)

theorem State.shed_cleanTicks (y : RingId) : ((s.shed n).ring y).cleanTicks = (s.ring y).cleanTicks := by
  have hstacked : ((s.stacked n).ring y).cleanTicks = ((s.shedding n).ring y).cleanTicks := by
    unfold State.stacked
    rw [State.modRing_ring_ite]; split <;> rfl
  exact (congrArg Ring.cleanTicks (State.shed_still y) :).trans (hstacked.trans (congrArg Ring.cleanTicks (State.shedding_still (s := s) y) :))

theorem State.shed_supply (y : RingId) : ((s.shed n).ring y).supply = (s.ring y).supply := by
  have hstacked : ((s.stacked n).ring y).supply = ((s.shedding n).ring y).supply := State.modRing_supply _ _ _ _ (fun _ => rfl)
  exact (Ring.supply_of_still (State.shed_still y)).trans (hstacked.trans (Ring.supply_of_still (State.shedding_still y)))

/-- Shedding is recorded (R202). -/
theorem State.shed_recd : (s.shed n).recd = (s.event 0x12 7 .internal (word n.1) 0#32).recd :=
  State.event_recd_congr (t := (s.stacked n).diagRaise n 30)
    (by simp [State.stacked, State.shedding, State.marked, State.diagRaise_frame _ _ _ _, State.refreshStage_frame _ _ _, KeepsHost])
    (by simp [State.stacked, State.shedding, State.marked, State.diagRaise_frame _ _ _ _, State.refreshStage_frame _ _ _, KeepsUnits])
    (by simp [State.stacked, State.shedding, State.marked, State.diagRaise_frame _ _ _ _, State.refreshStage_frame _ _ _]) _ _ _ _ _

end

/-! ## The channel shed last is restored (R203) -/

/-- The stack of a Ring is what is left, and the channel is no longer shed. -/
def State.unstacked (s : State) (x : RingId) (n : Fin 16) (rest : List (Fin 16)) : State :=
  (s.modRing x (fun r => { r with shedStack := rest })).modChan n (fun c => { c with stage := { c.stage with shed := false } })

section
variable {s : State} {x : RingId} {n : Fin 16} {rest : List (Fin 16)}

theorem State.restore_eq (h : (s.ring x).shedStack = n :: rest) : s.restore x
    = (((s.unstacked x n rest).refreshStage n 2).diagClear n 30).event 0x12 7 .internal (word n.1) 1#32 := by
  unfold State.restore
  rw [h]
  rfl

theorem State.restore_chan (h : (s.ring x).shedStack = n :: rest) (m : Fin 16) :
    (s.restore x).chan m = (((s.unstacked x n rest).refreshStage n 2).diagClear n 30).chan m := by
  obtain ⟨-, -, -, -, hchans, -⟩ := (((s.unstacked x n rest).refreshStage n 2).diagClear n 30).event_frame 0x12 7 .internal (word n.1) 1#32
  rw [State.restore_eq h, State.chan_of_chans hchans]

theorem State.restore_still (h : (s.ring x).shedStack = n :: rest) (y : RingId) :
    ((s.restore x).ring y).still = ((s.modRing x (fun r => { r with shedStack := rest })).ring y).still := by
  obtain ⟨-, -, -, -, -, hrings, -⟩ := (((s.unstacked x n rest).refreshStage n 2).diagClear n 30).event_frame 0x12 7 .internal (word n.1) 1#32
  rw [State.restore_eq h, State.ring_of_rings hrings, State.diagClear_still, State.refreshStage_still]
  rfl

/-- A channel that is restored is no longer shed, and its diagnostic ends. -/
theorem State.restore_restores (h : (s.ring x).shedStack = n :: rest) :
    ((s.restore x).chan n).stage.shed = false ∧ ((s.restore x).chan n).live.getLsbD 30 = false := by
  have hkeeps := ((s.unstacked x n rest).refreshStage n 2).diagClear_unlive n 30 n
  rw [State.restore_chan h]
  refine ⟨(congrArg (fun c : Chan => c.stage.shed) hkeeps :).trans (State.refreshStage_unshed n 2 ?_), State.diagClear_dead _ _ _ (by decide)⟩
  unfold State.unstacked
  rw [State.modChan_chan]

theorem State.restore_chan_ne (h : (s.ring x).shedStack = n :: rest) (m : Fin 16) (hn : m ≠ n) (hm : m ≠ mate n) :
    (s.restore x).chan m = s.chan m := by
  rw [State.restore_chan h, State.diagClear_chan_ne _ _ _ _ hn.symm, State.refreshStage_chan_ne _ _ _ _ hn hm]
  exact State.modChan_chan_ne _ _ _ _ hn.symm

theorem State.restore_chan_func (h : (s.ring x).shedStack = n :: rest) (hd : isDo (s.chan n).rng.func = true) (m : Fin 16) (hn : m ≠ n)
    (hf : (s.chan m).rng.func ≠ 0) : (s.restore x).chan m = s.chan m := by
  have hother : (s.unstacked x n rest).chan m = s.chan m := State.modChan_chan_ne _ _ _ _ hn.symm
  have hself : (s.unstacked x n rest).chan n = { s.chan n with stage := { (s.chan n).stage with shed := false } } := State.modChan_chan _ _ _
  rw [State.restore_chan h, State.diagClear_chan_ne _ _ _ _ hn.symm]
  exact (State.refreshStage_chan_func 2 (by rw [hself]; exact hd) hn (by rw [hother]; exact hf)).trans hother

theorem State.restore_stack (h : (s.ring x).shedStack = n :: rest) : ((s.restore x).ring x).shedStack = rest := by
  refine (congrArg Ring.shedStack (State.restore_still h x) :).trans ?_
  rw [State.modRing_ring]; rfl

theorem State.restore_supply (y : RingId) : ((s.restore x).ring y).supply = (s.ring y).supply := by
  cases h : (s.ring x).shedStack with
  | nil => unfold State.restore; rw [h]
  | cons n rest => exact (Ring.supply_of_still (State.restore_still h y)).trans (State.modRing_supply _ _ _ _ (fun _ => rfl))

/-- Restoring is recorded (R203). -/
theorem State.restore_recd (h : (s.ring x).shedStack = n :: rest) :
    (s.restore x).recd = (s.event 0x12 7 .internal (word n.1) 1#32).recd := by
  rw [State.restore_eq h]
  exact State.event_recd_congr (by simp [State.unstacked, State.diagClear_frame _ _ _, State.refreshStage_frame _ _ _, KeepsHost])
    (by simp [State.unstacked, State.diagClear_frame _ _ _, State.refreshStage_frame _ _ _, KeepsUnits])
    (by simp [State.unstacked, State.diagClear_frame _ _ _, State.refreshStage_frame _ _ _]) _ _ _ _ _

end

/-! ## Shedding at a tick (R202, R203, R510) -/

theorem State.shedChoice_sheddable {s : State} {x : RingId} {n : Fin 16} (h : s.shedChoice x = some n) :
    n ∈ ringChs x ∧ isDo (s.chan n).rng.func = true := by
  unfold State.shedChoice at h
  refine List.foldlRecOn (motive := fun best : Option (Fin 16) => ∀ k, best = some k → k ∈ ringChs x ∧ isDo (s.chan k).rng.func = true) _ _
    (fun k hk => absurd hk (by simp)) (fun best hbest i hi k hk => ?_) n h
  dsimp only at hk
  split at hk
  next hsheds =>
    simp only [Bool.and_eq_true] at hsheds
    obtain ⟨-, hd⟩ := hsheds
    split at hk
    · exact Option.some.inj hk ▸ ⟨hi, hd⟩
    · split at hk
      · exact Option.some.inj hk ▸ ⟨hi, hd⟩
      · exact hbest k hk
  next => exact hbest k hk

/-- A Ring's clean ticks are counted anew, or one further. -/
def State.countTicks (s : State) (x : RingId) (k : Nat) : State := s.modRing x (fun r => { r with cleanTicks := k })

section
variable {s : State} {x : RingId}

theorem State.countTicks_supply (k : Nat) (y : RingId) : ((s.countTicks x k).ring y).supply = (s.ring y).supply :=
  State.modRing_supply _ _ _ _ (fun _ => rfl)

theorem State.countTicks_stack (k : Nat) : ((s.countTicks x k).ring x).shedStack = (s.ring x).shedStack := by
  unfold State.countTicks; rw [State.modRing_ring]

theorem State.shedTick_disabled (he : (s.ring x).shedEn = false) : s.shedTick x = (s.countTicks x 0).restore x := by
  unfold State.shedTick; simp [he, State.countTicks]

theorem State.shedTick_low (he : (s.ring x).shedEn = true) (hl : ((s.ring x).vfLow || (s.ring x).overload) = true) :
    s.shedTick x = match s.shedChoice x with
      | some n => (s.countTicks x 0).shed n
      | none => s.countTicks x 0 := by
  unfold State.shedTick
  dsimp only
  rw [he, hl]
  rfl

theorem State.shedTick_clean (he : (s.ring x).shedEn = true) (hl : ((s.ring x).vfLow || (s.ring x).overload) = false) :
    s.shedTick x = if (s.ring x).restoreSteps ≤ (s.ring x).cleanTicks + 1 then (s.countTicks x ((s.ring x).cleanTicks + 1)).restore x
      else s.countTicks x ((s.ring x).cleanTicks + 1) := by
  have hcount : s.modRing x (fun r => { r with cleanTicks := r.cleanTicks + 1 }) = s.countTicks x ((s.ring x).cleanTicks + 1) := by
    cases x <;> rfl
  unfold State.shedTick
  dsimp only
  rw [he, hl, hcount]
  rfl

/-- A tick sheds a digital output of the Ring, restores the channel shed last, or only counts. -/
theorem State.shedTick_cases (s : State) (x : RingId) : ∃ k, (s.shedTick x = s.countTicks x k) ∨ (s.shedTick x = (s.countTicks x k).restore x)
    ∨ ∃ n, isDo (s.chan n).rng.func = true ∧ s.shedTick x = (s.countTicks x k).shed n := by
  cases he : (s.ring x).shedEn with
  | false => exact ⟨0, .inr (.inl (State.shedTick_disabled he))⟩
  | true =>
    cases hl : ((s.ring x).vfLow || (s.ring x).overload) with
    | false =>
      have h := State.shedTick_clean he hl
      refine ⟨(s.ring x).cleanTicks + 1, ?_⟩
      split at h
      · exact .inr (.inl h)
      · exact .inl h
    | true =>
      have h := State.shedTick_low he hl
      refine ⟨0, ?_⟩
      cases hc : s.shedChoice x with
      | none => rw [hc] at h; exact .inl h
      | some n => rw [hc] at h; exact .inr (.inr ⟨n, (State.shedChoice_sheddable hc).2, h⟩)

theorem State.shedTick_supply (y : RingId) : ((s.shedTick x).ring y).supply = (s.ring y).supply := by
  obtain ⟨k, h | h | ⟨n, -, h⟩⟩ := s.shedTick_cases x <;> rw [h]
  · exact State.countTicks_supply k y
  · exact (State.restore_supply y).trans (State.countTicks_supply k y)
  · exact (State.shed_supply y).trans (State.countTicks_supply k y)

/-- A channel with a function other than a digital output's is neither shed nor restored, where only digital outputs are shed. -/
theorem State.shedTick_chan_func {n : Fin 16} (hf : (s.chan n).rng.func ≠ 0) (hd : isDo (s.chan n).rng.func = false)
    (hstack : ∀ m ∈ (s.ring x).shedStack, isDo (s.chan m).rng.func = true) : (s.shedTick x).chan n = s.chan n := by
  have hne : ∀ m, isDo (s.chan m).rng.func = true → n ≠ m := fun m hm hnm => by rw [hnm, hm] at hd; exact Bool.noConfusion hd
  obtain ⟨k, h | h | ⟨m, hm, h⟩⟩ := s.shedTick_cases x <;> rw [h]
  · rfl
  · cases hs : (s.ring x).shedStack with
    | nil =>
      unfold State.restore
      rw [State.countTicks_stack, hs]
      rfl
    | cons m rest =>
      have hm := hstack m (by rw [hs]; exact List.mem_cons_self)
      exact State.restore_chan_func (s := s.countTicks x k) ((State.countTicks_stack k).trans hs) hm n (hne m hm) hf
  · exact State.shed_chan_func (s := s.countTicks x k) hm n (hne m hm) hf

end

end Sys2Proof.Machine
end

section
/-! PROOFS. What choosing a tap, moving up and leaving a rail make of a channel (R204, R206, R207). -/

namespace Sys2Proof.Machine

/-! ## Taps -/

/-- A stage that has taken a rail. -/
def Stage.onTap (g : Stage) (t : Nat) : Stage := { g with tap := BitVec.ofNat 2 t, downCount := 0 }

/-- A stage without its tap. -/
def Stage.untapped (g : Stage) : Stage := { g with tap := 0#2, downCount := 0 }

theorem Stage.untapped_of_eq {g k : Stage} (h : g.untapped = k.untapped) : g.on = k.on ∧ g.shed = k.shed :=
  ⟨(congrArg Stage.on h :), (congrArg Stage.shed h :)⟩

theorem State.setTap_chan (s : State) (n : Fin 16) (t : Nat) : (s.setTap n t).chan n = { s.chan n with stage := (s.chan n).stage.onTap t } :=
  State.modChan_chan _ _ _

theorem State.setTap_chan_ne (s : State) (i n : Fin 16) (t : Nat) (h : i ≠ n) : (s.setTap i t).chan n = s.chan n := State.modChan_chan_ne _ _ _ _ h

/-! ## The choice at a tick (R206) -/

/-- The stage of a tapped channel that has chosen its tap. -/
def Chan.chosen (c : Chan) (r : Ring) (clock padMv : Nat) (rails : List Nat) : Stage :=
  if !meets (c.need padMv) (rails.getD c.stage.tap.toNat 0) || !r.usable clock c.stage.tap.toNat then
    c.stage.onTap (r.lowestRail clock rails (c.need padMv))
  else if r.lowestRail clock rails ((c.need padMv).map (· + r.tapHyst * 100)) < c.stage.tap.toNat then
    (if r.downSteps ≤ c.stage.downCount + 1 then c.stage.onTap (r.lowestRail clock rails ((c.need padMv).map (· + r.tapHyst * 100)))
      else { c.stage with downCount := c.stage.downCount + 1 })
  else { c.stage with downCount := 0 }

theorem Chan.chosen_untapped (c : Chan) (r : Ring) (clock padMv : Nat) (rails : List Nat) :
    (c.chosen r clock padMv rails).untapped = c.stage.untapped := by
  unfold Chan.chosen
  (repeat' split) <;> rfl

/-- The choice depends on the supply of the Ring alone. -/
theorem Chan.chosen_congr (c : Chan) {r q : Ring} (h : r.supply = q.supply) (clock padMv : Nat) (rails : List Nat) :
    c.chosen r clock padMv rails = c.chosen q clock padMv rails := (congrArg (fun k : Ring => c.chosen k clock padMv rails) h :)

theorem State.chooseTap_chan (s : State) (n : Fin 16) (o : TickObs) : (s.chooseTap n o).chan n
    = { s.chan n with stage := (s.chan n).chosen (s.ring (ringOf n)) s.clock (o.pads.getD (n.1 % 8) 0) o.rails } := by
  unfold State.chooseTap Chan.chosen
  dsimp only
  split
  · exact State.setTap_chan _ _ _
  · split
    · split
      · exact State.setTap_chan _ _ _
      · exact State.modChan_chan _ _ _
    · exact State.modChan_chan _ _ _

theorem State.chooseTap_chan_ne (s : State) (i n : Fin 16) (o : TickObs) (h : i ≠ n) : (s.chooseTap i o).chan n = s.chan n := by
  unfold State.chooseTap
  dsimp only
  (repeat' split) <;> exact State.modChan_chan_ne _ _ _ _ h

theorem State.chooseTap_untapped (s : State) (i n : Fin 16) (o : TickObs) :
    { (s.chooseTap i o).chan n with stage := ((s.chooseTap i o).chan n).stage.untapped } = { s.chan n with stage := (s.chan n).stage.untapped } := by
  by_cases h : i = n
  · subst h
    rw [State.chooseTap_chan]
    exact congrArg (fun g : Stage => { s.chan i with stage := g }) (Chan.chosen_untapped _ _ _ _ _)
  · rw [State.chooseTap_chan_ne _ _ _ _ h]

/-- Choosing taps leaves all of a channel but its tap. -/
theorem State.tapTick_untapped (s : State) (x : RingId) (o : TickObs) (n : Fin 16) :
    { (s.tapTick x o).chan n with stage := ((s.tapTick x o).chan n).stage.untapped } = { s.chan n with stage := (s.chan n).stage.untapped } :=
  forEach_keeps (fun t : State => { t.chan n with stage := (t.chan n).stage.untapped }) _ _ (fun i t => t.chooseTap_untapped i n o) s

/-- Every tapped channel of the Ring chooses once, by the Ring and the observations of the tick. -/
theorem State.tapTick_chan {s : State} {x : RingId} {n : Fin 16} (o : TickObs) (hn : n ∈ ringChs x) (ht : tapped (s.chan n).rng.func = true) :
    (s.tapTick x o).chan n = { s.chan n with stage := (s.chan n).chosen (s.ring x) s.clock (o.pads.getD (n.1 % 8) 0) o.rails } := by
  have hx := (mem_ringChs x n).1 hn
  refine forEach_reaches (P := fun t => t.chan n = s.chan n ∧ t.rings = s.rings ∧ t.clock = s.clock)
    (Q := fun t => t.chan n = { s.chan n with stage := (s.chan n).chosen (s.ring x) s.clock (o.pads.getD (n.1 % 8) 0) o.rails })
    ((ringChs_nodup x).filter _) (List.mem_filter.2 ⟨hn, ht⟩) (fun i hi t h => ?_) (fun t h => ?_) (fun i hi t h => ?_) s ⟨rfl, rfl, rfl⟩
  · obtain ⟨hchan, hrings, hclock⟩ := h
    obtain ⟨⟨-, fclock, -⟩, -, -, -, -, frings, -⟩ := t.chooseTap_frame i o
    exact ⟨(t.chooseTap_chan_ne i n o hi).trans hchan, frings.trans hrings, fclock.trans hclock⟩
  · obtain ⟨hchan, hrings, hclock⟩ := h
    rw [State.chooseTap_chan, hchan, State.ring_of_rings hrings, hclock, hx]
  · exact (t.chooseTap_chan_ne i n o hi).trans h

/-! ## The lowest rail (R206) -/

/-- T4, or a usable rail below it. -/
theorem Ring.lowestRail_cases (r : Ring) (clock : Nat) (rails : List Nat) (need : Option Nat) :
    r.lowestRail clock rails need = 3 ∨ (r.lowestRail clock rails need < 3 ∧ r.usable clock (r.lowestRail clock rails need) = true) := by
  unfold Ring.lowestRail
  cases h : ([0, 1, 2].filter (fun t => r.usable clock t && meets need (rails.getD t 0))).head? with
  | none => exact .inl rfl
  | some t =>
    obtain ⟨hmem, hu⟩ := List.mem_filter.1 (List.mem_of_mem_head? h)
    rw [Bool.and_eq_true] at hu
    refine .inr ⟨?_, hu.1⟩
    simp only [List.mem_cons, List.not_mem_nil, or_false] at hmem
    show t < 3
    omega

theorem Ring.lowestRail_ne {r : Ring} {clock k : Nat} (rails : List Nat) (need : Option Nat) (hk : k ≠ 3) (hu : r.usable clock k = false) :
    (BitVec.ofNat 2 (r.lowestRail clock rails need)).toNat ≠ k := by
  intro h
  rcases r.lowestRail_cases clock rails need with hl | ⟨hl, hlu⟩
  · rw [hl] at h; exact hk h.symm
  · rw [BitVec.toNat_ofNat, Nat.mod_eq_of_lt (by omega)] at h
    rw [h, hu] at hlu
    exact Bool.noConfusion hlu

/-- T1 to T3 are usable only while they regulate (R206). -/
theorem Ring.usable_of_unregulated {r : Ring} {k : Nat} (hk : k ≠ 3) (h : r.rails.getLsbD k = false) (clock : Nat) : r.usable clock k = false := by
  simp [Ring.usable, hk, h]

/-! ## Moving up at once (R206, R207) -/

theorem State.moveUp_chan_ne (s : State) (i n : Fin 16) (o : TickObs) (h : i ≠ n) : (s.moveUp i o).chan n = s.chan n :=
  State.setTap_chan_ne _ _ _ _ h

theorem State.moveUp_on (s : State) (i n : Fin 16) (o : TickObs) : ((s.moveUp i o).chan n).stage.on = (s.chan n).stage.on := by
  by_cases h : i = n
  · subst h
    unfold State.moveUp
    rw [State.setTap_chan]; rfl
  · rw [State.moveUp_chan_ne _ _ _ _ h]

/-- From a rail that is not usable a channel goes to one that is. -/
theorem State.moveUp_leaves {s : State} {n : Fin 16} (o : TickObs) (h3 : (s.chan n).stage.tap.toNat ≠ 3)
    (hu : (s.ring (ringOf n)).usable s.clock (s.chan n).stage.tap.toNat = false) :
    ((s.moveUp n o).chan n).stage.tap.toNat ≠ (s.chan n).stage.tap.toNat := by
  unfold State.moveUp
  rw [State.setTap_chan]
  dsimp only
  rw [hu]
  exact Ring.lowestRail_ne _ _ h3 hu

section
variable {s : State} {x : RingId} {k : Nat} {n : Fin 16}

theorem State.leaveRail_chan_of (o : TickObs) (h : ringOf n ≠ x ∨ (s.chan n).stage.tap.toNat ≠ k) : (s.leaveRail x k o).chan n = s.chan n := by
  refine forEach_keeps_on (fun t : State => t.chan n) _ _ (fun i hi t => t.moveUp_chan_ne i n o ?_) s
  rintro rfl
  obtain ⟨hx, hk⟩ := List.mem_filter.1 hi
  simp only [Bool.and_eq_true, decide_eq_true_eq] at hk
  exact h.elim (fun hne => hne ((mem_ringChs x i).1 hx)) (fun hne => hne hk.2)

theorem State.leaveRail_on (s : State) (x : RingId) (k : Nat) (o : TickObs) (n : Fin 16) :
    ((s.leaveRail x k o).chan n).stage.on = (s.chan n).stage.on :=
  forEach_keeps (fun t : State => (t.chan n).stage.on) _ _ (fun i t => t.moveUp_on i n o) s

/-- No tapped channel of the Ring stays on a rail that is not usable. -/
theorem State.leaveRail_leaves (o : TickObs) (hk : k ≠ 3) (hu : (s.ring x).usable s.clock k = false) (hn : n ∈ ringChs x)
    (ht : tapped (s.chan n).rng.func = true) : ((s.leaveRail x k o).chan n).stage.tap.toNat ≠ k := by
  have hx := (mem_ringChs x n).1 hn
  by_cases h : (s.chan n).stage.tap.toNat = k
  · refine forEach_reaches (P := fun t => t.chan n = s.chan n ∧ t.rings = s.rings ∧ t.clock = s.clock) (Q := fun t => (t.chan n).stage.tap.toNat ≠ k)
      ((ringChs_nodup x).filter _) (List.mem_filter.2 ⟨hn, by simp [ht, h]⟩) (fun i hi t h => ?_) (fun t ht => ?_) (fun i hi t h => ?_) s ⟨rfl, rfl, rfl⟩
    · obtain ⟨hchan, hrings, hclock⟩ := h
      obtain ⟨⟨-, fclock, -⟩, -, -, -, -, frings, -⟩ := t.moveUp_frame i o
      exact ⟨(t.moveUp_chan_ne i n o hi).trans hchan, frings.trans hrings, fclock.trans hclock⟩
    · obtain ⟨hchan, hrings, hclock⟩ := ht
      have hleaves := State.moveUp_leaves (s := t) (n := n) o (by rw [hchan, h]; exact hk)
        (by rw [hchan, h, State.ring_of_rings hrings, hclock, hx]; exact hu)
      rwa [hchan, h] at hleaves
    · rw [t.moveUp_chan_ne i n o hi]; exact h
  · rw [State.leaveRail_chan_of o (.inr h)]; exact h

end

/-! ## A rail that sags, or is lost (R204, R207) -/

/-- What a Ring keeps that its live bits, messages and reports do not write. -/
theorem State.ringDiag_part {α : Type} (P : Ring → α) (hP : ∀ g : Ring, P g = P g.quiet) (s : State) (x : RingId) (b : Nat) (r : Fin 20) (live : Bool)
    (f : Ring → Ring) (was : Bool) (hf : ∀ g, P ((f g).diagnosed b live) = P g) : P ((s.ringDiag x b r was live f).ring x) = P (s.ring x) := by
  by_cases h : was = live
  · rw [State.ringDiag_same s x b r live f h]
  · rw [hP, State.ringDiag_quiet s x b r live f (Bool.eq_not_of_ne h), ← hP, hf]

/-- `t` is `u` but for the Rings and their channels. -/
abbrev KeepsRest (t u : State) : Prop :=
  KeepsHost t u ∧ KeepsUnits t u ∧ t.recd = u.recd ∧ t.wheels = u.wheels ∧ t.flt = u.flt ∧ t.rpl = u.rpl ∧ t.pair = u.pair ∧ t.cells = u.cells

theorem KeepsRest.trans {t u s : State} (h : KeepsRest t u) (g : KeepsRest u s) : KeepsRest t s := by
  obtain ⟨hhost, hunits, hrecd, hwheels, hflt, hrpl, hpair, hcells⟩ := h
  obtain ⟨ghost, gunits, grecd, gwheels, gflt, grpl, gpair, gcells⟩ := g
  exact ⟨by simp [KeepsHost, hhost, ghost], by simp [KeepsUnits, hunits, gunits], hrecd.trans grecd, hwheels.trans gwheels, hflt.trans gflt,
    hrpl.trans grpl, hpair.trans gpair, hcells.trans gcells⟩

theorem State.modRing_keepsRest (s : State) (x : RingId) (f : Ring → Ring) : KeepsRest (s.modRing x f) s := by
  simp [KeepsRest, KeepsHost, KeepsUnits]

/-- A Ring with a rail that TAP_OVERLOAD holds back. -/
def Ring.sagged (r : Ring) (rail : Fin 3) : Ring :=
  { r.keepRails (~~~ (1#3 <<< rail.1)) with railHold := (rail, none) :: r.railHold.filter (fun h => h.1 ≠ rail) }

/-- A Ring whose T3 comes or goes. -/
def Ring.withT3 (r : Ring) (up : Bool) : Ring := { (if up then r else r.keepRails 3#3) with t3 := up }

/-- TAP_OVERLOAD and the rail held back, before the channels move. -/
def State.railSags (s : State) (x : RingId) (rail : Fin 3) : State :=
  (s.ringDiag x 3 8 (s.ring x).tapOverload true (fun g => { g with tapOverload := true })).modRing x (fun r => r.sagged rail)

theorem tapOverload_sags {s : State} {x : RingId} {rail : Fin 3} (o : TickObs) (h : (s.ring x).railOn rail.1 = true) :
    exec (.tapOverload x rail o) s = .next (((s.railSags x rail).leaveRail x rail.1 o).tellTaps x) :=
  congrArg Host.Outcome.next (whenDo_of h _ _)

theorem t3Availability_takes {s : State} {x : RingId} (up : Bool) (o : TickObs) (h : (s.ring x).logic = true) :
    exec (.t3Availability x up o) s = .next (if up then s.modRing x (fun r => r.withT3 up)
      else ((s.modRing x (fun r => r.withT3 up)).leaveRail x 2 o).tellTaps x) :=
  congrArg Host.Outcome.next (whenDo_of h _ _)

section
variable {s : State} {x : RingId}

/-- The Ring as its channels have left a rail and the host die is told. -/
theorem State.leaveRail_tellTaps_still (s : State) (x : RingId) (k : Nat) (o : TickObs) (y : RingId) :
    ((((s.leaveRail x k o).tellTaps x)).ring y).still = (s.ring y).still := by
  obtain ⟨-, -, -, -, -, hrings, -⟩ := s.leaveRail_frame x k o
  rw [State.tellTaps_still, State.ring_of_rings hrings]

theorem State.leaveRail_tellTaps_chan (s : State) (x : RingId) (k : Nat) (o : TickObs) (n : Fin 16) :
    (((s.leaveRail x k o).tellTaps x)).chan n = (s.leaveRail x k o).chan n := by
  obtain ⟨-, -, -, -, -, hchans, -⟩ := (s.leaveRail x k o).tellTaps_frame x
  exact State.chan_of_chans hchans n

theorem State.tellTaps_ring_ne (s : State) (x y : RingId) (h : y ≠ x) : (s.tellTaps x).ring y = s.ring y := by
  unfold State.tellTaps
  dsimp only
  split
  · exact State.modRing_ring_ne _ _ _ _ h.symm
  · rfl

/-- Leaving a rail and telling the host die leave all but the Ring and the taps of its channels. -/
theorem State.leaveRail_tellTaps_row (s : State) (x : RingId) (k : Nat) (o : TickObs) (t : State) (ht : t = (s.leaveRail x k o).tellTaps x) :
    (∀ y ∈ [RingId.a, RingId.b], y ≠ x → (t.ring y = s.ring y ∧ ∀ n, ringOf n = y → t.chan n = s.chan n)) ∧ KeepsRest t s := by
  subst ht
  obtain ⟨-, -, -, -, -, hrings, -⟩ := s.leaveRail_frame x k o
  refine ⟨fun y _ hy => ⟨?_, fun n hn => ?_⟩, ?_⟩
  · rw [State.tellTaps_ring_ne _ _ _ hy, State.ring_of_rings hrings]
  · rw [State.leaveRail_tellTaps_chan, State.leaveRail_chan_of o (.inl (hn ▸ hy))]
  · simp [State.tellTaps_frame _ _, State.leaveRail_frame _ _ _ _, KeepsRest, KeepsHost, KeepsUnits]

theorem State.railSags_ring (s : State) (x : RingId) (rail : Fin 3) : ((s.railSags x rail).ring x).tapOverload = true
    ∧ ((s.railSags x rail).ring x).rails = (s.ring x).rails &&& ~~~ (1#3 <<< rail.1)
    ∧ ((s.railSags x rail).ring x).railHold = (rail, none) :: (s.ring x).railHold.filter (fun h => h.1 ≠ rail) := by
  have hbit := s.ringDiag_bit x 3 8 true (fun g => { g with tapOverload := true }) Ring.tapOverload (fun _ => rfl) (fun _ => rfl)
  have hrails := State.ringDiag_part Ring.rails (fun _ => rfl) s x 3 8 true (fun g => { g with tapOverload := true }) (s.ring x).tapOverload
    (fun _ => rfl)
  have hhold := State.ringDiag_part Ring.railHold (fun _ => rfl) s x 3 8 true (fun g => { g with tapOverload := true }) (s.ring x).tapOverload
    (fun _ => rfl)
  unfold State.railSags
  rw [State.modRing_ring, ← hrails, ← hhold]
  generalize (s.ringDiag x 3 8 (s.ring x).tapOverload true (fun g => { g with tapOverload := true })).ring x = r at hbit ⊢
  exact ⟨hbit, rfl, rfl⟩

theorem getLsbD_and_not_shift (w : BitVec 3) (k : Nat) : (w &&& ~~~ (1#3 <<< k)).getLsbD k = false := by
  rw [BitVec.getLsbD_and, BitVec.getLsbD_not]
  simp

/-- What a rail that sags leaves: the rail held back, and no channel on it (R207). -/
theorem State.railSags_leaves (s : State) (x : RingId) (rail : Fin 3) (o : TickObs) (t : State)
    (ht : t = ((s.railSags x rail).leaveRail x rail.1 o).tellTaps x) :
    (t.ring x).tapOverload = true ∧ (t.ring x).rails = (s.ring x).rails &&& ~~~ (1#3 <<< rail.1)
      ∧ (t.ring x).railHold = (rail, none) :: (s.ring x).railHold.filter (fun h => h.1 ≠ rail) ∧ (∀ clock, (t.ring x).usable clock rail.1 = false)
      ∧ (∀ n ∈ ringChs x, tapped (s.chan n).rng.func = true → (t.chan n).stage.tap.toNat ≠ rail.1)
      ∧ (∀ n, (s.chan n).stage.tap.toNat ≠ rail.1 → t.chan n = s.chan n) ∧ (∀ n, (t.chan n).stage.on = (s.chan n).stage.on)
      ∧ (∀ y ∈ [RingId.a, RingId.b], y ≠ x → (t.ring y = s.ring y ∧ ∀ n, ringOf n = y → t.chan n = s.chan n)) ∧ KeepsRest t s := by
  have hrail : rail.1 ≠ 3 := by omega
  obtain ⟨hbit, hrails, hhold⟩ := s.railSags_ring x rail
  have hunregulated : ((s.railSags x rail).ring x).rails.getLsbD rail.1 = false := by rw [hrails]; exact getLsbD_and_not_shift _ _
  obtain ⟨dring, dhost, dunits, drecd, dwheels, dflt, dchans, drpl, dpair, dcells⟩ :=
    s.ringDiag_row x 3 8 true (fun g => { g with tapOverload := true }) (s.ring x).tapOverload _ rfl
  have hchan : ∀ n, (s.railSags x rail).chan n = s.chan n := State.chan_of_chans dchans
  obtain ⟨lother, lrest⟩ := (s.railSags x rail).leaveRail_tellTaps_row x rail.1 o t ht
  have hkeeps : KeepsRest (s.railSags x rail) s :=
    (State.modRing_keepsRest _ _ _).trans ⟨dhost, dunits, drecd, dwheels, dflt, drpl, dpair, dcells⟩
  have hring : ∀ y, y ≠ x → (s.railSags x rail).ring y = s.ring y := fun y hy =>
    (State.modRing_ring_ne _ _ _ _ hy.symm).trans (s.ringDiag_ring_ne x 3 8 true _ y hy)
  have hstill : (t.ring x).still = ((s.railSags x rail).ring x).still := by rw [ht]; exact State.leaveRail_tellTaps_still _ x rail.1 o x
  have htap : ∀ n, t.chan n = ((s.railSags x rail).leaveRail x rail.1 o).chan n := by rw [ht]; exact State.leaveRail_tellTaps_chan _ x rail.1 o
  refine ⟨(congrArg Ring.tapOverload hstill :).trans hbit, (congrArg Ring.rails hstill :).trans hrails, (congrArg Ring.railHold hstill :).trans hhold,
    Ring.usable_of_unregulated hrail ((congrArg (fun r : Ring => r.rails.getLsbD rail.1) hstill :).trans hunregulated), fun n hn ht => ?_,
    fun n hn => ?_, fun n => ?_, fun y hy hne => ⟨(lother y hy hne).1.trans (hring y hne), fun n hn => ((lother y hy hne).2 n hn).trans (hchan n)⟩,
    lrest.trans hkeeps⟩
  · rw [htap]
    exact State.leaveRail_leaves o hrail (Ring.usable_of_unregulated hrail hunregulated _) hn (by rw [hchan]; exact ht)
  · rw [htap, State.leaveRail_chan_of o (.inr (by rw [hchan]; exact hn)), hchan]
  · rw [htap, State.leaveRail_on, hchan]

/-- What T3 leaves as it comes or goes (R204, R206). -/
theorem State.withT3_takes (s : State) (x : RingId) (up : Bool) (o : TickObs) (t : State)
    (ht : t = if up then s.modRing x (fun r => r.withT3 up) else ((s.modRing x (fun r => r.withT3 up)).leaveRail x 2 o).tellTaps x) :
    (t.ring x).t3 = up ∧ (t.ring x).rails = (if up then (s.ring x).rails else (s.ring x).rails &&& 3#3) ∧ (up = true → t.chans = s.chans)
      ∧ (up = false → (∀ n ∈ ringChs x, tapped (s.chan n).rng.func = true → (t.chan n).stage.tap.toNat ≠ 2)
        ∧ ∀ clock, (t.ring x).usable clock 2 = false)
      ∧ (∀ y ∈ [RingId.a, RingId.b], y ≠ x → (t.ring y = s.ring y ∧ ∀ n, ringOf n = y → t.chan n = s.chan n)) ∧ KeepsRest t s := by
  have hring : (s.modRing x (fun r => r.withT3 up)).ring x = (s.ring x).withT3 up := State.modRing_ring _ _ _
  have hother : ∀ y, y ≠ x → (s.modRing x (fun r => r.withT3 up)).ring y = s.ring y := fun y hy => State.modRing_ring_ne _ _ _ _ hy.symm
  cases up with
  | true =>
    rw [if_pos rfl] at ht
    subst ht
    refine ⟨by rw [hring]; rfl, by rw [hring]; rfl, fun _ => rfl, nofun, fun y _ hy => ⟨hother y hy, fun n _ => rfl⟩, State.modRing_keepsRest _ _ _⟩
  | false =>
    rw [if_neg (by simp)] at ht
    have hunregulated : ((s.ring x).withT3 false).rails.getLsbD 2 = false := (BitVec.getLsbD_and ..).trans (Bool.and_false _)
    obtain ⟨lother, lrest⟩ := (s.modRing x (fun r => r.withT3 false)).leaveRail_tellTaps_row x 2 o t ht
    have hstill : (t.ring x).still = ((s.ring x).withT3 false).still := by rw [ht, State.leaveRail_tellTaps_still, hring]
    refine ⟨(congrArg Ring.t3 hstill :), (congrArg Ring.rails hstill :), nofun,
      fun _ => ⟨fun n hn htapped => ?_, Ring.usable_of_unregulated (by decide)
        ((congrArg (fun r : Ring => r.rails.getLsbD 2) hstill :).trans hunregulated)⟩,
      fun y hy hne => ⟨(lother y hy hne).1.trans (hother y hne), (lother y hy hne).2⟩,
      lrest.trans (State.modRing_keepsRest _ _ _)⟩
    rw [ht, State.leaveRail_tellTaps_chan]
    exact State.leaveRail_leaves o (by decide) (by rw [hring]; exact Ring.usable_of_unregulated (by decide) hunregulated _) hn htapped

end

end Sys2Proof.Machine
end

section
/-! PROOFS. The step tick of a Ring: what its taps and its judgement of COMPLIANCE leave of shedding (R202, R203, R206, R224, R510). -/

namespace Sys2Proof.Machine

/-! ## The judgement of COMPLIANCE (R224) -/

/-- An analog channel with one more judged tick on its side of the limit. -/
def Analog.judged (a : Analog) : Analog :=
  { a with compLow := if a.offTarget then a.compLow + 1 else 0, compOk := if a.offTarget then 0 else a.compOk + 1 }

/-- A judged tick of one channel is counted. -/
def State.countJudged (s : State) (i : Fin 16) : State := s.modChan i (fun c => { c with an := c.an.judged })

theorem State.countJudged_chan (s : State) (i n : Fin 16) :
    ((s.countJudged i).chan n).stage = (s.chan n).stage ∧ ((s.countJudged i).chan n).live = (s.chan n).live := by
  unfold State.countJudged
  rw [State.modChan_chan_ite]; split <;> exact ⟨rfl, rfl⟩

/-- The judgement of one channel does nothing, or counts a tick, after which COMPLIANCE is raised, ends or stays. -/
theorem State.judgeCompliance_cases (s : State) (i : Fin 16) : s.judgeCompliance i = s ∨ s.judgeCompliance i = (s.countJudged i).diagRaise i 15
    ∨ s.judgeCompliance i = (s.countJudged i).diagClear i 15 ∨ s.judgeCompliance i = s.countJudged i := by
  unfold State.judgeCompliance
  dsimp only
  split
  · exact .inl rfl
  · refine .inr ?_
    split
    · exact .inl (congrArg (fun u : State => u.diagRaise i 15) (State.modChan_congr rfl))
    · split
      · exact .inr (.inl (congrArg (fun u : State => u.diagClear i 15) (State.modChan_congr rfl)))
      · exact .inr (.inr (State.modChan_congr rfl))

/-- The judgement leaves the stages, and each diagnostic but COMPLIANCE. -/
theorem State.judgeCompliance_leaves (s : State) (i n : Fin 16) {b : Nat} (hb : b ≠ 15) (hlt : b < 32) :
    ((s.judgeCompliance i).chan n).stage = (s.chan n).stage
      ∧ ((s.judgeCompliance i).chan n).live.getLsbD b = (s.chan n).live.getLsbD b := by
  obtain ⟨hstage, hlive⟩ := s.countJudged_chan i n
  obtain h | h | h | h := s.judgeCompliance_cases i <;> rw [h]
  · exact ⟨rfl, rfl⟩
  · rw [← hstage, ← hlive]
    exact ⟨(congrArg Chan.stage (State.diagRaise_undiagnosed _ i 15 0#32 n) :), State.diagRaise_live_ne _ i n (by decide) hb⟩
  · rw [← hstage, ← hlive]
    exact ⟨(congrArg Chan.stage (State.diagClear_unlive _ i 15 n) :), State.diagClear_live_ne _ i n (by decide) hb hlt⟩
  · exact ⟨hstage, by rw [hlive]⟩

theorem State.judgeCompliance_still (s : State) (i : Fin 16) (y : RingId) : ((s.judgeCompliance i).ring y).still = (s.ring y).still := by
  have hring : (s.countJudged i).ring y = s.ring y := rfl
  obtain h | h | h | h := s.judgeCompliance_cases i <;> rw [h]
  · rw [State.diagRaise_still, hring]
  · rw [State.diagClear_still, hring]
  · rw [hring]

/-! ## The tick after its shedding -/

/-- What a step tick does once it has shed or restored: the taps, then COMPLIANCE. -/
def State.tapsAndLoops (s : State) (x : RingId) (o : TickObs) : State := forEach (ringChs x) (fun n t => t.judgeCompliance n) (s.tapTick x o)

theorem ringStepTick_runs {s : State} {x : RingId} (o : TickObs) (hl : (s.ring x).logic = true) (hv : (s.ring x).vfOk = true)
    (hc : (s.ring x).configured = true) : exec (.ringStepTick x o) s = .next ((s.shedTick x).tapsAndLoops x o) := by
  refine congrArg Host.Outcome.next ((whenDo_of (by rw [hl, hc]; rfl) _ _).trans ?_)
  exact if_pos hv

section
variable (s : State) (x : RingId) (o : TickObs)

theorem State.tapsAndLoops_frame : KeepsHost (s.tapsAndLoops x o) s ∧ KeepsUnits (s.tapsAndLoops x o) s ∧ (s.tapsAndLoops x o).recd = s.recd := by
  simp [State.tapsAndLoops, State.judgeCompliance_frame _ _, State.tapTick_frame _ _ _, KeepsHost, KeepsUnits]

theorem State.tapsAndLoops_stage (n : Fin 16) : ((s.tapsAndLoops x o).chan n).stage = ((s.tapTick x o).chan n).stage :=
  forEach_keeps (fun t : State => (t.chan n).stage) _ _ (fun i t => (t.judgeCompliance_leaves i n (b := 30) (by decide) (by decide)).1) _

/-- Taps and loops leave which channels are shed and which stages are on. -/
theorem State.tapsAndLoops_shed (n : Fin 16) : ((s.tapsAndLoops x o).chan n).stage.shed = (s.chan n).stage.shed
    ∧ ((s.tapsAndLoops x o).chan n).stage.on = (s.chan n).stage.on := by
  have h := s.tapTick_untapped x o n
  rw [State.tapsAndLoops_stage]
  exact ⟨(congrArg (fun c : Chan => c.stage.shed) h :), (congrArg (fun c : Chan => c.stage.on) h :)⟩

/-- They leave the diagnostic SHED. -/
theorem State.tapsAndLoops_live (n : Fin 16) : ((s.tapsAndLoops x o).chan n).live.getLsbD 30 = (s.chan n).live.getLsbD 30 :=
  (forEach_keeps (fun t : State => (t.chan n).live.getLsbD 30) _ _
    (fun i t => (t.judgeCompliance_leaves i n (by decide) (by decide)).2) (s.tapTick x o)).trans
    (congrArg (fun c : Chan => c.live.getLsbD 30) (s.tapTick_untapped x o n) :)

theorem State.tapsAndLoops_still (y : RingId) : ((s.tapsAndLoops x o).ring y).still = (s.ring y).still := by
  obtain ⟨-, -, -, -, -, hrings, -⟩ := s.tapTick_frame x o
  have h : ((s.tapsAndLoops x o).ring y).still = ((s.tapTick x o).ring y).still :=
    forEach_keeps (fun t : State => (t.ring y).still) _ _ (fun i t => t.judgeCompliance_still i y) (s.tapTick x o)
  rw [h, State.ring_of_rings hrings]

theorem State.tapsAndLoops_shedding (y : RingId) : ((s.tapsAndLoops x o).ring y).shedStack = (s.ring y).shedStack
    ∧ ((s.tapsAndLoops x o).ring y).cleanTicks = (s.ring y).cleanTicks := by
  have h := s.tapsAndLoops_still x o y
  exact ⟨(congrArg Ring.shedStack h :), (congrArg Ring.cleanTicks h :)⟩

/-- The host die and the units stay through a tick. -/
theorem State.shedTick_tapsAndLoops_keeps : KeepsHost ((s.shedTick x).tapsAndLoops x o) s ∧ KeepsUnits ((s.shedTick x).tapsAndLoops x o) s := by
  obtain ⟨hhost, hunits, -⟩ := (s.shedTick x).tapsAndLoops_frame x o
  obtain ⟨ghost, gunits, -⟩ := s.shedTick_frame x
  exact ⟨by simp [KeepsHost, hhost, ghost], by simp [KeepsUnits, hunits, gunits]⟩

end

/-! ## Shedding and restoring, at the end of the tick (R202, R203, R510) -/

section
variable {s : State} {x : RingId}

/-- VF_LOW or RING_OVERLOAD sheds the channel that R202 names. -/
theorem State.tick_sheds {n : Fin 16} (o : TickObs) (he : (s.ring x).shedEn = true) (hlow : ((s.ring x).vfLow || (s.ring x).overload) = true)
    (hn : s.shedChoice x = some n) (t : State) (ht : t = (s.shedTick x).tapsAndLoops x o) :
    (t.chan n).stage.shed = true ∧ (t.chan n).stage.on = false ∧ (t.ring x).shedStack = n :: (s.ring x).shedStack ∧ (t.ring x).cleanTicks = 0
      ∧ (t.chan n).live.getLsbD 30 = true ∧ t.recd = (s.event 0x12 7 .internal (word n.1) 0#32).recd
      ∧ (∀ m, m ≠ n → m ≠ mate n → (t.chan m).stage.shed = (s.chan m).stage.shed ∧ (t.chan m).stage.on = (s.chan m).stage.on)
      ∧ KeepsHost t s ∧ KeepsUnits t s := by
  obtain ⟨hmem, hd⟩ := State.shedChoice_sheddable hn
  have hx : ringOf n = x := (mem_ringChs x n).1 hmem
  have hkeeps := s.shedTick_tapsAndLoops_keeps x o
  rw [← ht] at hkeeps
  have hshed : s.shedTick x = (s.countTicks x 0).shed n := by rw [State.shedTick_low he hlow, hn]
  rw [hshed] at ht
  obtain ⟨hsheds, hoff, hlive⟩ := State.shed_sheds (s := s.countTicks x 0) hd
  have hstack := State.shed_stack (s := s.countTicks x 0) (n := n)
  rw [hx, State.countTicks_stack] at hstack
  have hticks := State.shed_cleanTicks (s := s.countTicks x 0) (n := n) x
  obtain ⟨-, -, hrecd⟩ := ((s.countTicks x 0).shed n).tapsAndLoops_frame x o
  obtain ⟨tstack, tticks⟩ := ((s.countTicks x 0).shed n).tapsAndLoops_shedding x o x
  have tstage := ((s.countTicks x 0).shed n).tapsAndLoops_shed x o
  subst ht
  refine ⟨(tstage n).1.trans hsheds, (tstage n).2.trans hoff, tstack.trans hstack, tticks.trans (hticks.trans ?_),
    (State.tapsAndLoops_live _ x o n).trans hlive, hrecd.trans State.shed_recd, fun m hm hmate => ?_, hkeeps⟩
  · unfold State.countTicks; rw [State.modRing_ring]
  · have hother := State.shed_chan_ne (s := s.countTicks x 0) m hm hmate
    obtain ⟨hs, ho⟩ := tstage m
    rw [hother] at hs ho
    exact ⟨hs, ho⟩

/-- A clean tick before the last of RESTORE_STEPS only counts. -/
theorem State.tick_counts (o : TickObs) (he : (s.ring x).shedEn = true) (hclean : ((s.ring x).vfLow || (s.ring x).overload) = false)
    (hsteps : (s.ring x).cleanTicks + 1 < (s.ring x).restoreSteps) (t : State) (ht : t = (s.shedTick x).tapsAndLoops x o) :
    (t.ring x).cleanTicks = (s.ring x).cleanTicks + 1 ∧ (t.ring x).shedStack = (s.ring x).shedStack
      ∧ (∀ m, (t.chan m).stage.shed = (s.chan m).stage.shed ∧ (t.chan m).stage.on = (s.chan m).stage.on) ∧ t.recd = s.recd
      ∧ KeepsHost t s ∧ KeepsUnits t s := by
  have hkeeps := s.shedTick_tapsAndLoops_keeps x o
  rw [← ht] at hkeeps
  have hcount : s.shedTick x = s.countTicks x ((s.ring x).cleanTicks + 1) := by
    rw [State.shedTick_clean he hclean, if_neg (Nat.not_le.2 hsteps)]
  rw [hcount] at ht
  obtain ⟨-, -, hrecd⟩ := (s.countTicks x ((s.ring x).cleanTicks + 1)).tapsAndLoops_frame x o
  obtain ⟨tstack, tticks⟩ := (s.countTicks x ((s.ring x).cleanTicks + 1)).tapsAndLoops_shedding x o x
  have tstage := (s.countTicks x ((s.ring x).cleanTicks + 1)).tapsAndLoops_shed x o
  subst ht
  refine ⟨tticks.trans ?_, tstack.trans (State.countTicks_stack _), fun m => tstage m, hrecd, hkeeps⟩
  unfold State.countTicks; rw [State.modRing_ring]

/-- A tick that restores ends the shedding of the channel shed last. -/
theorem State.tick_restores {n : Fin 16} {rest : List (Fin 16)} {k : Nat} (o : TickObs) (hs : (s.ring x).shedStack = n :: rest)
    (hrestore : s.shedTick x = (s.countTicks x k).restore x) (t : State) (ht : t = (s.shedTick x).tapsAndLoops x o) :
    (t.chan n).stage.shed = false ∧ (t.ring x).shedStack = rest ∧ (t.chan n).live.getLsbD 30 = false
      ∧ t.recd = (s.event 0x12 7 .internal (word n.1) 1#32).recd
      ∧ (∀ m, m ≠ n → m ≠ mate n → (t.chan m).stage.shed = (s.chan m).stage.shed ∧ (t.chan m).stage.on = (s.chan m).stage.on)
      ∧ KeepsHost t s ∧ KeepsUnits t s := by
  have hkeeps := s.shedTick_tapsAndLoops_keeps x o
  rw [← ht] at hkeeps
  rw [hrestore] at ht
  have hstack : ((s.countTicks x k).ring x).shedStack = n :: rest := (State.countTicks_stack k).trans hs
  obtain ⟨hshed, hlive⟩ := State.restore_restores hstack
  obtain ⟨-, -, hrecd⟩ := ((s.countTicks x k).restore x).tapsAndLoops_frame x o
  obtain ⟨tstack, -⟩ := ((s.countTicks x k).restore x).tapsAndLoops_shedding x o x
  have tstage := ((s.countTicks x k).restore x).tapsAndLoops_shed x o
  subst ht
  refine ⟨(tstage n).1.trans hshed, tstack.trans (State.restore_stack hstack), (State.tapsAndLoops_live _ x o n).trans hlive,
    hrecd.trans (State.restore_recd hstack), fun m hm hmate => ?_, hkeeps⟩
  have hother := State.restore_chan_ne hstack m hm hmate
  obtain ⟨hs, ho⟩ := tstage m
  rw [hother] at hs ho
  exact ⟨hs, ho⟩

/-! ## Taps, at the end of the tick (R206) -/

/-- The functions fed from the taps are none of a digital output. -/
theorem tapped_cases {f : Nat} (h : tapped f = true) : f ≠ 0 ∧ isDo f = false := by
  simp only [tapped, isAo, Bool.or_eq_true, decide_eq_true_eq] at h
  simp only [isDo, Bool.and_eq_false_iff, decide_eq_false_iff_not]
  omega

/-- A tapped channel chooses by what the Ring and the channel were before the tick. -/
theorem State.tick_chooses {n : Fin 16} (o : TickObs) (hn : n ∈ ringChs x) (ht : tapped (s.chan n).rng.func = true)
    (hstack : ∀ m ∈ (s.ring x).shedStack, isDo (s.chan m).rng.func = true) :
    (((s.shedTick x).tapsAndLoops x o).chan n).stage = (s.chan n).chosen (s.ring x) s.clock (o.pads.getD (n.1 % 8) 0) o.rails := by
  obtain ⟨hf, hd⟩ := tapped_cases ht
  have hchan := State.shedTick_chan_func hf hd hstack
  obtain ⟨⟨-, hclock, -⟩, -⟩ := s.shedTick_frame x
  rw [State.tapsAndLoops_stage, State.tapTick_chan o hn (by rw [hchan]; exact ht), hchan, hclock]
  exact Chan.chosen_congr _ (State.shedTick_supply x) _ _ _

/-- A channel whose rail no longer suffices takes the lowest that does. -/
theorem Chan.chosen_up {c : Chan} {r : Ring} {clock padMv : Nat} {rails : List Nat}
    (h : meets (c.need padMv) (rails.getD c.stage.tap.toNat 0) = false ∨ r.usable clock c.stage.tap.toNat = false) :
    c.chosen r clock padMv rails = c.stage.onTap (r.lowestRail clock rails (c.need padMv)) :=
  if_pos (by rcases h with h | h <;> rw [h]; exacts [rfl, Bool.or_true _])

/-- A channel that could go lower does so at the last of DOWN_STEPS ticks, and counts before. -/
theorem Chan.chosen_down {c : Chan} {r : Ring} {clock padMv : Nat} {rails : List Nat}
    (hmeets : meets (c.need padMv) (rails.getD c.stage.tap.toNat 0) = true) (husable : r.usable clock c.stage.tap.toNat = true)
    (hlow : r.lowestRail clock rails ((c.need padMv).map (· + r.tapHyst * 100)) < c.stage.tap.toNat) :
    c.chosen r clock padMv rails = if r.downSteps ≤ c.stage.downCount + 1
      then c.stage.onTap (r.lowestRail clock rails ((c.need padMv).map (· + r.tapHyst * 100)))
      else { c.stage with downCount := c.stage.downCount + 1 } := by
  unfold Chan.chosen
  rw [if_neg (by simp only [hmeets, husable]; decide), if_pos hlow]

/-! ## NEED and the rails held back (R206, R207, R222) -/

theorem Chan.need_of_func (c : Chan) (padMv : Nat) : (c.rng.func = 7 → c.an.rb < 500000 → c.need padMv = none)
    ∧ (c.rng.func = 7 → 500000 ≤ c.an.rb → c.need padMv = some ((padMv * c.an.target.toInt.toNat + c.an.rb.toNat - 1) / c.an.rb.toNat + 1500))
    ∧ (c.rng.func = 8 → c.need padMv = some ((c.an.target.toInt.toNat + 999) / 1000 + 2000)) := by
  unfold Chan.need divUp
  refine ⟨fun hf hlow => ?_, fun hf hhigh => ?_, fun hf => ?_⟩
  · rw [if_pos hf, if_pos hlow]
  · rw [if_pos hf, if_neg (not_lt.2 hhigh)]
  · rw [if_neg (by rw [hf]; decide), if_pos hf]; rfl

/-- A rail that has been held back is usable again 100 ms after it regulates. -/
theorem Ring.usable_of_held {r : Ring} {rail : Fin 3} {since clock : Nat} (hen : r.tapEn.testBit rail.1 = true) (hr : r.rails.getLsbD rail.1 = true)
    (h3 : rail = 2 → r.t3 = true) (hh : r.railHold = [(rail, some since)]) : r.usable clock rail.1 = decide (since + 100000 ≤ clock) := by
  have hne : rail.1 ≠ 3 := by omega
  have ht3 : (decide (rail.1 ≠ 2) || r.t3) = true := by
    by_cases h : rail = 2
    · rw [h3 h, Bool.or_true]
    · have hv : rail.1 ≠ 2 := fun hv => h (Fin.ext hv)
      rw [decide_eq_true hv, Bool.true_or]
  have hback : r.heldBack rail.1 clock = decide (clock < since + 100000) := by simp [Ring.heldBack, hh]
  unfold Ring.usable
  rw [hen, hr, ht3, hback, decide_eq_false hne, Bool.eq_iff_iff]
  simp

end

/-! ## Between ticks (R206, R207) -/

section
variable {s : State} {x : RingId} {n : Fin 16}

theorem tapMoveUp_moves (o : TickObs) (ht : tapped (s.chan n).rng.func = true) (hr : s.ringRuns n = true) :
    exec (.tapMoveUp n o) s = .next (s.moveUp n o) :=
  congrArg Host.Outcome.next (whenDo_of (by rw [ht, hr]; rfl) _ _)

/-- Between ticks a tap moves only up, unless its rail is not usable. -/
theorem State.moveUp_takes {low : Nat} (o : TickObs) (hn : n ∈ ringChs x)
    (hlow : low = (s.ring x).lowestRail s.clock o.rails ((s.chan n).need (o.pads.getD (n.1 % 8) 0))) (t : State) (ht : t = s.moveUp n o) :
    (t.chan n).stage.tap = BitVec.ofNat 2 (if (s.ring x).usable s.clock (s.chan n).stage.tap.toNat then max (s.chan n).stage.tap.toNat low else low)
      ∧ (t.chan n).stage.downCount = 0 ∧ t.rings = s.rings ∧ ChanFrame t s n := by
  have hx := (mem_ringChs x n).1 hn
  subst hx hlow ht
  have hchan : ∀ k, (s.setTap n k).chan n = { s.chan n with stage := (s.chan n).stage.onTap k } := s.setTap_chan n
  exact ⟨(congrArg (fun c : Chan => c.stage.tap) (hchan _) :), (congrArg (fun c : Chan => c.stage.downCount) (hchan _) :), rfl,
    s.modChan_chanFrame n _⟩

end

/-- Settles O37, row by row: the tick that sheds, counts or restores, the taps that it chooses, and the rails between ticks. -/
theorem loadsAreShedAndTapsAreChosen : Obligations.LoadsAreShedAndTapsAreChosen := by
  unfold Obligations.LoadsAreShedAndTapsAreChosen
  intro x s
  refine ⟨fun n o hl hv hc he hlow hn => ⟨_, ringStepTick_runs o hl hv hc, State.tick_sheds o he hlow hn _ rfl⟩,
    fun o hl hv hc he hclean hsteps => ⟨_, ringStepTick_runs o hl hv hc, State.tick_counts o he hclean hsteps _ rfl⟩,
    fun n rest o hl hv hc he hclean hsteps hs => ⟨_, ringStepTick_runs o hl hv hc, State.tick_restores o hs
      ((State.shedTick_clean he hclean).trans (if_pos hsteps)) _ rfl⟩,
    fun n rest o hl hv hc he hs => ⟨_, ringStepTick_runs o hl hv hc, ?_⟩,
    fun n o need hl hv hc hn ht hstack hneed h => ⟨_, ringStepTick_runs o hl hv hc, ?_⟩,
    fun n o need low hl hv hc hn ht hstack hneed hmeets husable hlow hlt => ⟨_, ringStepTick_runs o hl hv hc, ?_⟩, Chan.need_of_func,
    fun n o low hn ht hr hlow => ⟨_, tapMoveUp_moves o ht hr, State.moveUp_takes o hn hlow _ rfl⟩,
    fun rail o h => ⟨_, tapOverload_sags o h, s.railSags_leaves x rail o _ rfl⟩, fun rails now h hnow => ?_,
    fun rail since hen hr h3 hh => Ring.usable_of_held hen hr h3 hh, fun up o hl => ⟨_, t3Availability_takes up o hl, s.withT3_takes x up o _ rfl⟩⟩
  · obtain ⟨hshed, hstack, hlive, hrecd, -, hkeeps⟩ := State.tick_restores o hs (State.shedTick_disabled he) _ rfl
    exact ⟨hshed, hstack, hlive, hrecd, hkeeps⟩
  · subst hneed
    rw [State.tick_chooses o hn ht hstack, Chan.chosen_up h]
    exact ⟨rfl, rfl⟩
  · subst hneed hlow
    rw [State.tick_chooses o hn ht hstack, Chan.chosen_down hmeets husable hlt]
    exact ⟨fun hsteps => by rw [if_pos hsteps]; exact ⟨rfl, rfl⟩, fun hsteps => by rw [if_neg (Nat.not_le.2 hsteps)]; exact ⟨rfl, rfl⟩⟩
  · subst hnow
    exact congrArg Host.Outcome.next (whenDo_of h _ _)

end Sys2Proof.Machine
end

section
/-! PROOFS. COMPLIANCE is judged by the Ring's own readback, which need not have reached MEAS of the host die (R16, R223, R224). -/

namespace Sys2Proof.Machine

/-- A readback on the Ring does not change what the host die holds as MEAS: that follows when the average arrives (R16, R223). -/
theorem Chan.readBack_meas (c : Chan) (clock : Nat) (v : Int) : (c.readBack clock v).an.meas = c.an.meas := rfl

/-- Channel 3 as AO_I of a Ring without a link, with its loop target at 0. -/
def currentOutput (c : Chan) : Chan := { c with cfg := { c.cfg with mode := 0x1F07#32 }, rng := { c.rng with mode := 0x1F07#32 } }

/-- The block after the Ring has read back 1 mA on that channel, as `State.monitor` does where the host die is not told. -/
def untoldReadback : State := State.reset.modChan 3 (fun c => (currentOutput c).readBack 0 1000000)

theorem untoldReadback_chan : untoldReadback.chan 3 = (currentOutput (State.reset.chan 3)).readBack 0 1000000 := State.modChan_chan _ _ _

/-- The host die still holds 0 nA there, which is the target. -/
theorem untoldReadback_meas : (untoldReadback.chan 3).an.meas = 0#32 ∧ (untoldReadback.chan 3).an.target = 0#32 := by
  rw [untoldReadback_chan, Chan.readBack_meas]
  decide +kernel

/-- The Ring finds the current off the target. -/
theorem untoldReadback_offTarget : (untoldReadback.chan 3).an.offTarget = true := by
  rw [untoldReadback_chan]
  decide +kernel

/-- Refutes O39: the clause on the limit of COMPLIANCE reads MEAS of the host die; but the Ring judges by its own 1 ms average (R223, R224),
which MEAS follows only where the link carries it (R16), so that the two differ by more than 24 000 nA while a readback has not arrived. -/
theorem not_analogDiagnosticsAreRaised : ¬ Obligations.AnalogDiagnosticsAreRaised := by
  unfold Obligations.AnalogDiagnosticsAreRaised
  intro h
  obtain ⟨-, -, -, -, -, -, -, -, -, -, -, hlimit, -⟩ := h 3 untoldReadback
  obtain ⟨hmeas, htarget⟩ := untoldReadback_meas
  rw [untoldReadback_offTarget, hmeas, htarget] at hlimit
  exact absurd hlimit (by decide)

end Sys2Proof.Machine
end

section
/-! PROOFS. The response timer of a modem through the start of its next message (R237, R239). -/

namespace Sys2Proof.Machine

/-- The modem of a Ring turns its carrier on at the end of the quiet time (R237). -/
def Fsk.sendFrom (k : Fsk) (clock : Nat) : Fsk :=
  { k with state := .sending, sentAt := clock, sent := 0, ended := false, ranDry := false }

/-- The start of a message leaves the response timer of the message before it. -/
theorem Fsk.sendFrom_respFrom (k : Fsk) (clock : Nat) : (k.sendFrom clock).respFrom = k.respFrom := rfl

theorem fskQuietEnd_sends {x : RingId} {s : State} (hw : (s.ring x).fsk.state = .waiting) (ht : (s.ring x).fsk.tx ≠ [])
    (hq : (s.ring x).fsk.quietOver s.clock = true) (hl : (s.ring x).logic = true) (hf : s.fskLatched x = false) :
    exec (.fskQuietEnd x) s = .next (s.modRing x (fun r => { r with fsk := (s.ring x).fsk.sendFrom s.clock })) :=
  congrArg Host.Outcome.next (whenDo_of (by simp [hw, ht, hq, hl, hf]) _ s)

/-- A modem whose last message ended 2 character times ago without an answer yet, and whose next message has waited for that quiet
time. -/
def secondMessage (k : Fsk) : Fsk :=
  { k with en := true, state := .waiting, tx := [(true, 5#8)], quietFrom := 4981667, respFrom := some 4981667 }

/-- A block with that modem on Ring B. -/
def awaitingAnswer : State :=
  ({ State.reset with phase := .run, clock := 5000000 } : State).modRing .b (fun r =>
    { r with logic := true, vfOk := true, configured := true, fsk := secondMessage r.fsk })

theorem awaitingAnswer_fsk : (awaitingAnswer.ring .b).fsk = secondMessage (State.reset.ring .b).fsk := by
  rw [awaitingAnswer, State.modRing_ring]; rfl

/-- Its second message starts now. -/
theorem awaitingAnswer_starts : (awaitingAnswer.ring .b).fsk.state = .waiting ∧ (awaitingAnswer.ring .b).fsk.tx ≠ []
    ∧ (awaitingAnswer.ring .b).fsk.quietOver awaitingAnswer.clock = true ∧ (awaitingAnswer.ring .b).logic = true
    ∧ awaitingAnswer.fskLatched .b = false := by
  decide +kernel

/-- Refutes O41: the clause on the end of the quiet time stops the response timer (and so does that on an underrun); but R239 names no
stop of the timer by a new message, and one that starts while the timer of the message before it runs leaves it running. -/
theorem not_fskModemSendsAndReceives : ¬ Obligations.FskModemSendsAndReceives := by
  unfold Obligations.FskModemSendsAndReceives
  intro h
  obtain ⟨-, -, -, hquiet, -⟩ := h .b awaitingAnswer
  obtain ⟨hwaiting, htx, hover, hlogic, hclear⟩ := awaitingAnswer_starts
  obtain ⟨t, hsays, hring, -⟩ := hquiet hwaiting htx hover hlogic hclear
  obtain rfl := Host.Outcome.next.inj ((fskQuietEnd_sends hwaiting htx hover hlogic hclear).symm.trans hsays)
  have hstopped : ((awaitingAnswer.ring .b).fsk.sendFrom awaitingAnswer.clock).respFrom = none := by
    rw [State.modRing_ring] at hring
    exact congrArg (fun r : Ring => r.fsk.respFrom) hring
  rw [Fsk.sendFrom_respFrom, awaitingAnswer_fsk] at hstopped
  exact absurd hstopped (by decide)

end Sys2Proof.Machine
end

section
/-! PROOFS. Touch scans: the electrode, seeding, and the judgement of TOUCHED (R252 to R254, R261, R263, R265). -/

namespace Sys2Proof.Machine

/-! ## Messages of a channel (R16) -/

/-- Messages of a channel start across the link of its Ring. -/
def State.sends (s : State) (n : Fin 16) (ms : List UpMsg) : State := s.modRing (ringOf n) (fun r => { r with upq := r.upq ++ ms })

theorem State.sends_ring (s : State) (n : Fin 16) (ms : List UpMsg) :
    (s.sends n ms).ring (ringOf n) = { s.ring (ringOf n) with upq := (s.ring (ringOf n)).upq ++ ms } := State.modRing_ring _ _ _

theorem State.sends_nil (s : State) (n : Fin 16) : s.sends n [] = s := by
  simp only [State.sends, State.modRing, tmod, List.append_nil]
  exact congrArg (fun v => { s with rings := v }) (Vector.set_getElem_self _)

theorem State.sends_chan (s : State) (n : Fin 16) (ms : List UpMsg) (k : Fin 16) : (s.sends n ms).chan k = s.chan k := rfl

theorem State.sends_chanFrame (s : State) (n : Fin 16) (ms : List UpMsg) : ChanFrame (s.sends n ms) s n := s.modRing_chanFrame n _

theorem State.sends_reportsAlike (s : State) (n : Fin 16) (ms : List UpMsg) : ReportsAlike (s.sends n ms) s n :=
  ⟨rfl, rfl, (congrArg Ring.reports (s.sends_ring n ms) :), (congrArg Ring.link (s.sends_ring n ms) :),
    (congrArg Ring.ringLost (s.sends_ring n ms) :), rfl, rfl⟩

/-- A diagnostic is as raised as it was where live bits and reports are the same. -/
theorem DiagRaised.of_eq {t u s : State} {n : Fin 16} {m : Nat} {d : Word} (h : DiagRaised u s n m d) (hlive : (t.chan n).live = (u.chan n).live)
    (hreports : (t.ring (ringOf n)).reports = (u.ring (ringOf n)).reports) : DiagRaised t s n m d := by
  simpa only [DiagRaised, hlive, hreports] using h

/-! ## What diagnostics leave of a channel's measurement -/

/-- `t` is `s` but for the diagnostics of a channel, those that wait for its guard, and the reports of its Ring. -/
structure Diagnoses (t s : State) (n : Fin 16) : Prop where
  tch : (t.chan n).tch = (s.chan n).tch
  upq : (t.ring (ringOf n)).upq = (s.ring (ringOf n)).upq
  frame : ChanFrame t s n

theorem Diagnoses.refl (s : State) (n : Fin 16) : Diagnoses s s n := ⟨rfl, rfl, by simp [ChanFrame, KeepsHost, KeepsUnits]⟩

theorem Diagnoses.trans {t u s : State} {n : Fin 16} (h : Diagnoses t u n) (g : Diagnoses u s n) : Diagnoses t s n :=
  ⟨h.tch.trans g.tch, h.upq.trans g.upq, h.frame.trans g.frame⟩

theorem State.diagRaise_diagnoses (s : State) (n : Fin 16) (m : Nat) : Diagnoses (s.diagRaise n m) s n :=
  ⟨(congrArg Chan.tch (s.diagRaise_undiagnosed n m 0#32 n) :), s.diagRaise_upq n m _ _, s.diagRaise_chanFrame n m _⟩

theorem State.diagClear_upq (s : State) (n : Fin 16) (m : Nat) (y : RingId) : ((s.diagClear n m).ring y).upq = (s.ring y).upq := by
  unfold State.diagClear State.ringReport
  split
  · rw [State.modRing_ring_ite, State.modChan_ring]
    split
    · split <;> rfl
    · rfl
  · rfl

theorem State.diagClear_diagnoses (s : State) (n : Fin 16) (m : Nat) : Diagnoses (s.diagClear n m) s n :=
  ⟨(congrArg Chan.tch (s.diagClear_unlive n m n) :), s.diagClear_upq n m _, s.diagClear_chanFrame n m⟩

theorem State.diagFollow_diagnoses (s : State) (n : Fin 16) (m : Nat) (live : Bool) : Diagnoses (s.diagFollow n m live) s n := by
  unfold State.diagFollow
  split
  · exact s.diagRaise_diagnoses n m
  · exact s.diagClear_diagnoses n m

theorem State.guardedDetect_diagnoses (s : State) (n : Fin 16) (m : Nat) : Diagnoses (s.guardedDetect n m) s n := by
  refine ⟨(congrArg Chan.tch (s.guardedDetect_undetected n m) :), ?_, s.guardedDetect_chanFrame n m⟩
  obtain h | ⟨w, h⟩ | h := s.guardedDetect_cases n m <;> rw [h]
  · rfl
  · exact s.diagRaise_upq n m _ _

/-! ## The electrode (R263) -/

/-- A scan has measured C, and the runs of the electrode's two conditions stand at `o` and `h`. -/
def Touch.scanned (t : Touch) (c o h : Nat) : Touch := { t with c := word c, scan := t.scan + 1, openRun := o, shortRun := h }

/-- A channel has been scanned, and its electrode's diagnostics are not judged yet. -/
def State.scanned (s : State) (n : Fin 16) (c o h : Nat) : State := s.modChan n (fun ch => { ch with tch := ch.tch.scanned c o h })

theorem State.scanned_chan (s : State) (n : Fin 16) (c o h : Nat) :
    (s.scanned n c o h).chan n = { s.chan n with tch := (s.chan n).tch.scanned c o h } := State.modChan_chan _ _ _

theorem State.scanned_chanFrame (s : State) (n : Fin 16) (c o h : Nat) : ChanFrame (s.scanned n c o h) s n := s.modChan_chanFrame n _

theorem State.scanned_reportsAlike (s : State) (n : Fin 16) (c o h : Nat) : ReportsAlike (s.scanned n c o h) s n :=
  State.modChan_reportsAlike _ _ _ rfl rfl

/-- A scan whose electrode is judged, and whether a diagnostic of it ended. -/
def State.electrode (s : State) (n : Fin 16) (c : Nat) (failed : Bool) : State × Bool :=
  (s.modChan n (fun ch => { ch with tch := { ch.tch with c := word c, scan := ch.tch.scan + 1 } })).judgeElectrode n c failed

/-- The run of a condition that is to change a diagnostic, after a scan (R263). -/
def nextRun (run : Nat) (is live : Bool) : Nat := if is ≠ live then run + 1 else 0

/-- The electrode's diagnostics that change, given what was live of them. -/
def State.electrodeFlips (u : State) (n : Fin 16) (flipOpen liveOpen flipShort liveShort : Bool) : State :=
  let v := if !flipOpen then u else if liveOpen then u.diagClear n 10 else u.guardedDetect n 10
  if flipShort then v.diagFollow n 20 (!liveShort) else v

theorem State.electrodeFlips_diagnoses (u : State) (n : Fin 16) (a b c d : Bool) : Diagnoses (u.electrodeFlips n a b c d) u n := by
  have hopen : Diagnoses (if !a then u else if b then u.diagClear n 10 else u.guardedDetect n 10) u n := by
    split
    · exact .refl _ _
    · split
      · exact u.diagClear_diagnoses n 10
      · exact u.guardedDetect_diagnoses n 10
  unfold State.electrodeFlips
  dsimp only
  split
  · exact (State.diagFollow_diagnoses _ n 20 _).trans hopen
  · exact hopen

/-- The electrode's judgement, by the runs after the scan. -/
theorem State.electrode_eq {s : State} {n : Fin 16} {c o h : Nat} {failed lo ls : Bool} (hlo : (s.chan n).live.getLsbD 10 = lo)
    (hls : (s.chan n).live.getLsbD 20 = ls) (ho : o = nextRun (s.chan n).tch.openRun (decide (c < 3000) && !failed) lo)
    (hh : h = nextRun (s.chan n).tch.shortRun (failed || decide (200000 < c)) ls) :
    s.electrode n c failed =
      (let v := (s.scanned n c (if decide (100 ≤ o) then 0 else o) (if decide (10 ≤ h) then 0 else h)).electrodeFlips n (decide (100 ≤ o)) lo (decide (10 ≤ h)) ls
       (if (decide (100 ≤ o) && lo) || (decide (10 ≤ h) && ls) then v.modChan n (fun ch => { ch with tch := ch.tch.startSeed }) else v,
        (decide (100 ≤ o) && lo) || (decide (10 ≤ h) && ls))) := by
  subst hlo hls ho hh
  unfold State.electrode State.judgeElectrode
  simp only [State.modChan_chan, State.modChan_modChan]
  rfl

section
variable {n : Fin 16} {s : State} {c : Nat}

/-- An electrode that charges to a C in range, with neither diagnostic live, ends both runs. -/
theorem State.electrode_charges (hlo : (s.chan n).live.getLsbD 10 = false) (hls : (s.chan n).live.getLsbD 20 = false) (hlow : 3000 ≤ c)
    (hhigh : c ≤ 200000) : s.electrode n c false = (s.scanned n c 0 0, false) := by
  have ho : 0 = nextRun (s.chan n).tch.openRun (decide (c < 3000) && !false) false := by simp [nextRun, hlow]
  have hh : 0 = nextRun (s.chan n).tch.shortRun (false || decide (200000 < c)) false := by simp [nextRun, hhigh]
  rw [State.electrode_eq hlo hls ho hh]
  rfl

/-- The 100th scan below 3.0 pF. -/
theorem State.electrode_opens (hlo : (s.chan n).live.getLsbD 10 = false) (hls : (s.chan n).live.getLsbD 20 = false) (hlow : c < 3000)
    (hrun : 99 ≤ (s.chan n).tch.openRun) : s.electrode n c false = ((s.scanned n c 0 0).guardedDetect n 10, false) := by
  have ho : (s.chan n).tch.openRun + 1 = nextRun (s.chan n).tch.openRun (decide (c < 3000) && !false) false := by simp [nextRun, hlow]
  have hh : 0 = nextRun (s.chan n).tch.shortRun (false || decide (200000 < c)) false := by
    simp [nextRun, show ¬ 200000 < c by omega]
  have hflip : 100 ≤ (s.chan n).tch.openRun + 1 := by omega
  rw [State.electrode_eq hlo hls ho hh]
  simp only [hflip, decide_true, if_true]
  rfl

/-- The 10th scan of an electrode that does not charge. -/
theorem State.electrode_fails (hlo : (s.chan n).live.getLsbD 10 = false) (hls : (s.chan n).live.getLsbD 20 = false)
    (hrun : 9 ≤ (s.chan n).tch.shortRun) : s.electrode n c true = ((s.scanned n c 0 0).diagRaise n 20, false) := by
  have ho : 0 = nextRun (s.chan n).tch.openRun (decide (c < 3000) && !true) false := by simp [nextRun]
  have hh : (s.chan n).tch.shortRun + 1 = nextRun (s.chan n).tch.shortRun (true || decide (200000 < c)) false := by simp [nextRun]
  have hflip : 10 ≤ (s.chan n).tch.shortRun + 1 := by omega
  rw [State.electrode_eq hlo hls ho hh]
  simp only [hflip, decide_true, if_true]
  rfl

/-- The 100th scan of at least 3.0 pF ends ELECTRODE_OPEN, and seeding begins. -/
theorem State.electrode_closes (hlo : (s.chan n).live.getLsbD 10 = true) (hlow : 3000 ≤ c) (hrun : 99 ≤ (s.chan n).tch.openRun) :
    (s.electrode n c false).2 = true ∧ ∃ u h, (s.electrode n c false).1 = u.reseed n
      ∧ Diagnoses u (s.scanned n c 0 h) n ∧ (u.chan n).live.getLsbD 10 = false := by
  have ho : (s.chan n).tch.openRun + 1 = nextRun (s.chan n).tch.openRun (decide (c < 3000) && !false) true := by
    simp [nextRun, show ¬ c < 3000 by omega]
  have hflip : 100 ≤ (s.chan n).tch.openRun + 1 := by omega
  rw [State.electrode_eq hlo rfl ho rfl]
  simp only [hflip, decide_true, if_true, Bool.and_self, Bool.true_or]
  refine ⟨trivial, _, _, rfl, State.electrodeFlips_diagnoses _ _ _ _ _ _, ?_⟩
  have hclear (u : State) : ((u.diagClear n 10).chan n).live.getLsbD 10 = false := u.diagClear_dead n 10 (by decide)
  unfold State.electrodeFlips State.diagFollow
  simp only [Bool.not_true, if_true]
  split
  · split
    · rw [State.diagRaise_live_ne _ _ _ (by decide) (by decide)]; exact hclear _
    · exact State.diagClear_live_of_dead _ _ (hclear _)
  · exact hclear _

/-- No diagnostic of the electrode ends with a scan that is not the last of its run. -/
theorem State.electrode_stays {failed : Bool} (hopen : (s.chan n).live.getLsbD 10 = true → (s.chan n).tch.openRun < 99)
    (hshort : (s.chan n).live.getLsbD 20 = true → (s.chan n).tch.shortRun < 9) :
    (s.electrode n c failed).2 = false ∧ ∃ o h, Diagnoses (s.electrode n c failed).1 (s.scanned n c o h) n := by
  have hrun (run : Nat) (is live : Bool) : nextRun run is live ≤ run + 1 := by unfold nextRun; split <;> omega
  rw [State.electrode_eq rfl rfl rfl rfl]
  dsimp only
  have hends (k bound run : Nat) (is live : Bool) (h : live = true → run < bound) (hk : k = bound + 1) :
      (decide (k ≤ nextRun run is live) && live) = false := by
    have := hrun run is live
    cases live
    · exact Bool.and_false _
    · have := h rfl
      rw [decide_eq_false (by omega), Bool.false_and]
  rw [hends 100 99 _ _ _ hopen rfl, hends 10 9 _ _ _ hshort rfl]
  exact ⟨rfl, _, _, State.electrodeFlips_diagnoses _ _ _ _ _ _⟩

end


/-! ## The judgement of TOUCHED (R253, R254) -/

/-- A scan's change of TOUCHED as the message that it sends (R254). -/
def TouchStep.sent (st : TouchStep) (n : Fin 16) (tick : Nat) : List UpMsg :=
  match st.change with
  | some (on, lead) => [.change n on false tick (edgeValue lead false false on)]
  | none => []

section
variable {t : Touch} {cfg : ChanCfg} {c clock : Nat} {up : Bool}

/-- The run of TOUCH_N scans at or above TH_ON ends in TOUCHED. -/
theorem Touch.judge_touches (ht : t.touched = false) (hth : 0 < cfg.thOn) (hd : (cfg.thOn * 2560 : Int) ≤ (c : Int) * 256 - t.base8)
    (hrun : cfg.touchN ≤ t.onRun + 1) : t.judge cfg c up clock =
      ⟨{ t with onAt := if t.onRun = 0 then clock else t.onAt, onRun := t.onRun + 1, negRun := 0, touched := true, held := 0 },
        some (true, clock - if t.onRun = 0 then clock else t.onAt), false, false⟩ := by
  have hneg : ¬ ((c : Int) * 256 - t.base8 ≤ -(cfg.thOn * 2560 : Int)) := by omega
  simp [Touch.judge, ht, hd, hneg, hrun]

/-- A scan of an untouched channel that is below both thresholds moves the baseline. -/
theorem Touch.judge_drifts (ht : t.touched = false) (hon : (c : Int) * 256 - t.base8 < (cfg.thOn * 2560 : Int))
    (hoff : (c : Int) * 256 - t.base8 < (cfg.thOff * 2560 : Int)) (hneg : -(cfg.thOn * 2560 : Int) < (c : Int) * 256 - t.base8)
    (hN : 0 < cfg.touchN) : t.judge cfg c up clock =
      ⟨{ t with onAt := if t.onRun = 0 then clock else t.onAt, onRun := 0, base8 := drifted t.base8 c cfg.drift up, negRun := 0 }, none, false, false⟩ := by
  simp [Touch.judge, ht, Int.not_le.2 hon, hoff, Int.not_le.2 hneg, Nat.not_le.2 hN]

/-- The 100th scan at or below the negative of TH_ON takes C as the baseline. -/
theorem Touch.judge_reseeds (ht : t.touched = false) (hon : (c : Int) * 256 - t.base8 < (cfg.thOn * 2560 : Int))
    (hneg : (c : Int) * 256 - t.base8 ≤ -(cfg.thOn * 2560 : Int)) (hN : 0 < cfg.touchN) (hrun : t.negRun = 99) : t.judge cfg c up clock =
      ⟨{ t with onAt := if t.onRun = 0 then clock else t.onAt, onRun := 0, base8 := c * 256, negRun := 0 }, none, false, true⟩ := by
  simp [Touch.judge, ht, Int.not_le.2 hon, hneg, Nat.not_le.2 hN, hrun]

/-- The run of RELEASE_N scans below TH_OFF clears TOUCHED. -/
theorem Touch.judge_releases (ht : t.touched = true) (hd : (c : Int) * 256 - t.base8 < (cfg.thOff * 2560 : Int))
    (hrun : cfg.releaseN ≤ t.offRun + 1) : t.judge cfg c up clock =
      ⟨{ t with offAt := if t.offRun = 0 then clock else t.offAt, touched := false, offRun := 0, held := t.held + 1 },
        some (false, clock - if t.offRun = 0 then clock else t.offAt), false, false⟩ := by
  simp [Touch.judge, ht, hd, hrun]

/-- TOUCHED that has been held for MAX_HOLD clears, and C is the baseline. -/
theorem Touch.judge_sticks (ht : t.touched = true) (hd : (cfg.thOff * 2560 : Int) ≤ (c : Int) * 256 - t.base8) (hN : 0 < cfg.releaseN)
    (hmax : cfg.maxHold ≠ 0) (hheld : 1000 * cfg.maxHold ≤ t.held + 1) : t.judge cfg c up clock =
      ⟨{ t with offAt := if t.offRun = 0 then clock else t.offAt, touched := false, base8 := c * 256, offRun := 0, held := t.held + 1 },
        some (false, 0), true, false⟩ := by
  simp [Touch.judge, ht, Int.not_lt.2 hd, Nat.not_le.2 hN, hmax, hheld]

end

/-- The baseline moves by the quotient of the difference and 2^DRIFT, rounded either way (log entry 17). -/
theorem drifted_eq (b c drift : Nat) (up : Bool) :
    ∃ k : Fin 2, (drifted b c drift up : Int) = b + ((c : Int) * 256 - b) / 2 ^ drift + k.1 := by
  have hquot : -(b : Int) ≤ ((c : Int) * 256 - b) / 2 ^ drift := by
    have hpow : (1 : Int) ≤ 2 ^ drift := one_le_pow₀ (by decide)
    rw [Int.le_ediv_iff_mul_le (by omega)]
    nlinarith
  unfold drifted
  dsimp only
  split
  · exact ⟨0, by rw [Int.toNat_of_nonneg (by omega)]; simp⟩
  · exact ⟨1, by rw [Int.toNat_of_nonneg (by omega)]; simp [add_assoc]⟩

/-! ## A judged scan acts (R253, R254) -/

/-- What a scan leaves alone beside its own channel, the links, the recorder and the free words. -/
abbrev ScanFrame (t s : State) (n : Fin 16) : Prop :=
  KeepsHost t s ∧ t.svc = s.svc ∧ t.img = s.img ∧ t.fab = s.fab ∧ t.adcs = s.adcs ∧ t.filt = s.filt ∧ t.chks = s.chks ∧ t.bg = s.bg
    ∧ t.pwr = s.pwr ∧ t.wheels = s.wheels ∧ t.flt = s.flt ∧ t.rpl = s.rpl ∧ t.pair = s.pair ∧ t.cells = s.cells
    ∧ ∀ m, m ≠ n → t.chan m = s.chan m

theorem ChanFrame.scan {t s : State} {n : Fin 16} (h : ChanFrame t s n) : ScanFrame t s n := by
  obtain ⟨hhost, ⟨hsvc, himg, hfab, hadcs, hfilt, hchks, -, hbg, hpwr, -⟩, -, hwheels, hflt, hrpl, hpair, hcells, hchan, -⟩ := h
  exact ⟨hhost, hsvc, himg, hfab, hadcs, hfilt, hchks, hbg, hpwr, hwheels, hflt, hrpl, hpair, hcells, hchan⟩

theorem ChanFrame.recd {t s : State} {n : Fin 16} (h : ChanFrame t s n) : t.recd = s.recd := by
  obtain ⟨-, -, hrecd, -⟩ := h
  exact hrecd

/-- What raising an instant diagnostic leaves of the live ones (R178). -/
theorem State.diagRaise_instant_live (s : State) (n : Fin 16) {m : Nat} (hi : m = 14 ∨ m = 26 ∨ m = 28) :
    ((s.diagRaise n m).chan n).live = (s.chan n).live := by
  by_cases hl : (s.chan n).live.getLsbD m = true
  · have hmod : m % 32 = m := Nat.mod_eq_of_lt (by omega)
    unfold State.diagRaise
    dsimp only
    rw [hmod, if_pos hl]
  · exact (s.diagRaise_instant n m 0#32 hi (Bool.eq_false_iff.2 hl)).1

section
variable (u : State) (n : Fin 16) (st : TouchStep)

/-- The measurement takes a judgement, for whose rounding a free word is used. -/
def State.judgedTouch : State := u.free.2.modChan n (fun ch => { ch with tch := st.t })

/-- The measurement takes a judgement, which may be TOUCH_STUCK. -/
def State.judgedStuck : State := if st.stuck then (u.judgedTouch n st).diagRaise n 28 else u.judgedTouch n st

/-- The measurement takes a judgement, which may be TOUCH_STUCK or the event of a re-seed. -/
def State.judgedEvent : State :=
  if st.neg then (u.judgedStuck n st).event 0x12 10 .internal (word n.1) 0#32 else u.judgedStuck n st

/-- A scan's judgement acts, and a change of TOUCHED is sent. -/
def State.judgedAs : State := (u.judgedEvent n st).sends n (st.sent n (u.judgedEvent n st).tick)

theorem State.judgedTouch_chan : (u.judgedTouch n st).chan n = { u.chan n with tch := st.t } := State.modChan_chan _ _ _

theorem State.judgedTouch_reportsAlike : ReportsAlike (u.judgedTouch n st) u n :=
  ⟨by rw [State.judgedTouch_chan], by rw [State.judgedTouch_chan], rfl, rfl, rfl, rfl, rfl⟩

theorem State.judgedTouch_chanFrame : ChanFrame (u.judgedTouch n st) u.free.2 n := State.modChan_chanFrame _ n _

theorem State.judgedStuck_diagnoses : Diagnoses (u.judgedStuck n st) (u.judgedTouch n st) n := by
  unfold State.judgedStuck
  split
  · exact State.diagRaise_diagnoses _ n 28
  · exact .refl _ _

theorem State.judgedStuck_live : ((u.judgedStuck n st).chan n).live = (u.chan n).live := by
  have htouch : ((u.judgedTouch n st).chan n).live = (u.chan n).live := (congrArg Chan.live (u.judgedTouch_chan n st) :)
  unfold State.judgedStuck
  split
  · exact (State.diagRaise_instant_live _ n (by decide)).trans htouch
  · exact htouch

theorem State.judgedStuck_guardWait : ((u.judgedStuck n st).chan n).guardWait = (u.chan n).guardWait := by
  have htouch : ((u.judgedTouch n st).chan n).guardWait = (u.chan n).guardWait := (congrArg Chan.guardWait (u.judgedTouch_chan n st) :)
  unfold State.judgedStuck
  split
  · exact (congrArg Chan.guardWait (State.diagRaise_undiagnosed _ n 28 0#32 n) :).trans htouch
  · exact htouch

theorem State.judgedEvent_chan (k : Fin 16) : (u.judgedEvent n st).chan k = (u.judgedStuck n st).chan k := by
  unfold State.judgedEvent; split <;> rfl

theorem State.judgedEvent_ring (y : RingId) : (u.judgedEvent n st).ring y = (u.judgedStuck n st).ring y := by
  unfold State.judgedEvent; split <;> rfl

theorem State.judgedStuck_scanFrame : ScanFrame (u.judgedStuck n st) u n :=
  ((u.judgedStuck_diagnoses n st).frame.trans (u.judgedTouch_chanFrame n st)).scan

theorem State.judgedEvent_scanFrame : ScanFrame (u.judgedEvent n st) u n := by
  unfold State.judgedEvent
  split
  · exact u.judgedStuck_scanFrame n st
  · exact u.judgedStuck_scanFrame n st

theorem State.judgedAs_scanFrame : ScanFrame (u.judgedAs n st) u n := u.judgedEvent_scanFrame n st

theorem State.judgedAs_tch : ((u.judgedAs n st).chan n).tch = st.t := by
  refine (congrArg Chan.tch (u.judgedEvent_chan n st n)).trans ((u.judgedStuck_diagnoses n st).tch.trans ?_)
  rw [State.judgedTouch_chan]

theorem State.judgedAs_live : ((u.judgedAs n st).chan n).live = (u.chan n).live :=
  (congrArg Chan.live (u.judgedEvent_chan n st n)).trans (u.judgedStuck_live n st)

theorem State.judgedAs_guardWait : ((u.judgedAs n st).chan n).guardWait = (u.chan n).guardWait :=
  (congrArg Chan.guardWait (u.judgedEvent_chan n st n)).trans (u.judgedStuck_guardWait n st)

theorem State.judgedEvent_tick : (u.judgedEvent n st).tick = u.tick := by
  obtain ⟨⟨-, hclock, -, -, htime, -⟩, -⟩ := u.judgedEvent_scanFrame n st
  unfold State.tick
  rw [hclock, htime]

theorem State.judgedAs_ring : (u.judgedAs n st).ring (ringOf n) = { (u.judgedStuck n st).ring (ringOf n) with
    upq := (u.ring (ringOf n)).upq ++ st.sent n u.tick } := by
  unfold State.judgedAs
  rw [State.sends_ring, State.judgedEvent_ring, State.judgedEvent_tick, (u.judgedStuck_diagnoses n st).upq]
  rfl

theorem State.judgedAs_ring_ne (y : RingId) (hy : y ≠ ringOf n) : (u.judgedAs n st).ring y = u.ring y := by
  obtain ⟨-, -, -, -, -, -, -, -, -, hring⟩ := (u.judgedStuck_diagnoses n st).frame
  exact (State.modRing_ring_ne _ _ _ _ hy.symm).trans ((u.judgedEvent_ring n st y).trans (hring y (by cases y <;> simp) hy))

/-- The free word of a judgement is in no record. -/
theorem State.judgedStuck_recd : (u.judgedStuck n st).recd = u.recd := by
  obtain ⟨-, -, hrecd, -⟩ := (u.judgedStuck_diagnoses n st).frame
  exact hrecd

variable {u n st}

theorem State.judgedAs_recd (hneg : st.neg = false) : (u.judgedAs n st).recd = u.recd := by
  show (u.judgedEvent n st).recd = u.recd
  unfold State.judgedEvent
  rw [hneg]
  exact u.judgedStuck_recd n st

/-- A re-seed by scans below the baseline is recorded (R253). -/
theorem State.judgedAs_recd_of_neg (hneg : st.neg = true) : (u.judgedAs n st).recd = (u.event 0x12 10 .internal (word n.1) 0#32).recd := by
  obtain ⟨hhost, hunits, hrecd, -⟩ := (u.judgedStuck_diagnoses n st).frame.trans (u.judgedTouch_chanFrame n st)
  show (u.judgedEvent n st).recd = _
  unfold State.judgedEvent
  rw [if_pos hneg]
  exact State.event_recd_congr hhost hunits hrecd _ _ _ _ _

theorem State.judgedStuck_of_not (hst : st.stuck = false) : u.judgedStuck n st = u.judgedTouch n st := by
  unfold State.judgedStuck; rw [hst]; rfl

/-- TOUCH_STUCK is reported (R263). -/
theorem State.judgedStuck_reports (hst : st.stuck = true) (hl : (u.chan n).live.getLsbD 28 = false) (hlen : (u.ring (ringOf n)).reports.length < 32) :
    ((u.judgedStuck n st).ring (ringOf n)).reports = (u.ring (ringOf n)).reports ++ [u.diagReport n 28 0#32] := by
  have halike := u.judgedTouch_reportsAlike n st
  unfold State.judgedStuck
  rw [if_pos hst, (State.diagRaise_instant _ n 28 0#32 (by decide) (by rw [halike.live]; exact hl)).2 (by rw [halike.reports]; exact hlen),
    halike.reports, halike.diagReport]

end

/-! ## A scan (R252 to R254) -/

/-- What a scan does once its value has gone to the host die. -/
def State.scanEnded (u : State) (n : Fin 16) (c clock : Nat) (ends : Bool) : State :=
  let ch := u.chan n
  if ends then u
  else if !ch.tch.seeded then u.modChan n (fun ch => { ch with tch := ch.tch.seedScan c })
  else if ch.live.getLsbD 10 || ch.live.getLsbD 20 then
    (u.modChan n (fun ch => { ch with tch := { ch.tch with touched := false } })).sends n
      (if ch.tch.touched then [.change n false false u.tick 0#32] else [])
  else u.judgedAs n (ch.tch.judge ch.rng c (bit u.free.1 0) clock)

section
variable {n : Fin 16} {s : State} {c : Nat}

theorem State.judgedAs_eq (u : State) (st : TouchStep) : u.judgedAs n st = (match st.change with
    | some (on, lead) => (u.judgedEvent n st).sendChange n on false (edgeValue lead false false on)
    | none => u.judgedEvent n st) := by
  unfold State.judgedAs TouchStep.sent
  cases st.change with
  | none => exact State.sends_nil _ _
  | some p => rfl

theorem touchScan_eq {failed : Bool} (hs : s.senses n 13 = true) : exec (.touchScan n c failed) s =
    .next (((s.electrode n c failed).1.sends n (s.scanUp n c)).scanEnded n c s.clock (s.electrode n c failed).2) := by
  have hup (t : State) : (if (s.ring (ringOf n)).link && !(s.ring (ringOf n)).ringLost && (s.ring (ringOf n)).rmode ≠ .cellar then
      t.sendUp (ringOf n) (.scan n (word c) s.tick) else t) = t.sends n (s.scanUp n c) := by
    unfold State.scanUp
    split
    · rfl
    · exact (State.sends_nil _ _).symm
  have hsent (u : State) (b : Bool) (m : UpMsg) : (if b then u.sendUp (ringOf n) m else u) = u.sends n (if b then [m] else []) := by
    cases b
    · exact (State.sends_nil _ _).symm
    · rfl
  show execTouchScan n c failed s = _
  unfold execTouchScan
  refine congrArg Host.Outcome.next ((whenDo_of hs _ s).trans ?_)
  unfold State.scanEnded
  simp only [State.judgedAs_eq, ← hup, ← hsent]
  rfl

theorem touchScan_rests {failed : Bool} (hs : s.senses n 13 = false) : exec (.touchScan n c failed) s = .next s :=
  congrArg Host.Outcome.next (whenDo_of_not hs _ s)

end

/-! ## Scans of an electrode that charges (R253, R254) -/

/-- A scan of an electrode that charges has gone to the host die. -/
def State.scanBegun (s : State) (n : Fin 16) (c : Nat) : State := (s.scanned n c 0 0).sends n (s.scanUp n c)

section
variable {n : Fin 16} {s : State} {c : Nat}

theorem State.scanBegun_chan (s : State) (n : Fin 16) (c : Nat) :
    (s.scanBegun n c).chan n = { s.chan n with tch := (s.chan n).tch.scanned c 0 0 } := s.scanned_chan n c 0 0

theorem State.scanBegun_ring (s : State) (n : Fin 16) (c : Nat) : (s.scanBegun n c).ring (ringOf n) =
    { s.ring (ringOf n) with upq := (s.ring (ringOf n)).upq ++ s.scanUp n c } := State.sends_ring _ _ _

theorem State.scanBegun_chanFrame (s : State) (n : Fin 16) (c : Nat) : ChanFrame (s.scanBegun n c) s n :=
  (State.sends_chanFrame _ n _).trans (s.scanned_chanFrame n c 0 0)

theorem State.scanBegun_reportsAlike (s : State) (n : Fin 16) (c : Nat) : ReportsAlike (s.scanBegun n c) s n :=
  (State.sends_reportsAlike _ n _).trans (s.scanned_reportsAlike n c 0 0)

/-- A scan of a seeded channel has been judged. -/
def State.scanJudged (s : State) (n : Fin 16) (c : Nat) (st : TouchStep) : State := (s.scanBegun n c).judgedAs n st

/-- A scan of a seeded channel acts as it is judged. -/
theorem touchScan_judges {st : TouchStep} (hs : s.senses n 13 = true) (hlo : (s.chan n).live.getLsbD 10 = false)
    (hls : (s.chan n).live.getLsbD 20 = false) (hlow : 3000 ≤ c) (hhigh : c ≤ 200000) (hseed : (s.chan n).tch.seeded = true)
    (hst : ((s.chan n).tch.scanned c 0 0).judge (s.chan n).rng c (bit s.free.1 0) s.clock = st) :
    exec (.touchScan n c false) s = .next (s.scanJudged n c st) := by
  have hchan := s.scanBegun_chan n c
  have hseeded : ((s.scanBegun n c).chan n).tch.seeded = true := by rw [hchan]; exact hseed
  have hlive : ((s.scanBegun n c).chan n).live = (s.chan n).live := by rw [hchan]
  rw [touchScan_eq hs, State.electrode_charges hlo hls hlow hhigh, ← hst]
  refine congrArg Host.Outcome.next ?_
  show (s.scanBegun n c).scanEnded n c s.clock false = _
  unfold State.scanEnded
  simp only [hseeded, hlive, hlo, hls, Bool.false_eq_true, if_false, Bool.not_true, Bool.or_self]
  rw [hchan]
  rfl

variable {st : TouchStep}

theorem State.scanJudged_tch : ((s.scanJudged n c st).chan n).tch = st.t := State.judgedAs_tch _ n st

theorem State.scanJudged_upq : ((s.scanJudged n c st).ring (ringOf n)).upq = (s.ring (ringOf n)).upq ++ s.scanUp n c ++ st.sent n s.tick := by
  unfold State.scanJudged
  rw [State.judgedAs_ring, State.scanBegun_ring]
  rfl

theorem State.scanJudged_scanFrame : ScanFrame (s.scanJudged n c st) s n := by
  obtain ⟨hhost, hsvc, himg, hfab, hadcs, hfilt, hchks, hbg, hpwr, hwheels, hflt, hrpl, hpair, hcells, hchan⟩ := (s.scanBegun_chanFrame n c).scan
  obtain ⟨jhost, jsvc, jimg, jfab, jadcs, jfilt, jchks, jbg, jpwr, jwheels, jflt, jrpl, jpair, jcells, jchan⟩ :=
    (s.scanBegun n c).judgedAs_scanFrame n st
  exact ⟨by simp [State.scanJudged, KeepsHost, jhost, hhost], jsvc.trans hsvc, jimg.trans himg, jfab.trans hfab, jadcs.trans hadcs,
    jfilt.trans hfilt, jchks.trans hchks, jbg.trans hbg, jpwr.trans hpwr, jwheels.trans hwheels, jflt.trans hflt, jrpl.trans hrpl,
    jpair.trans hpair, jcells.trans hcells, fun m hm => (jchan m hm).trans (hchan m hm)⟩

theorem State.scanJudged_recd (hneg : st.neg = false) : (s.scanJudged n c st).recd = s.recd := State.judgedAs_recd hneg

/-- A re-seed by scans below the baseline is recorded (R253). -/
theorem State.scanJudged_recd_of_neg (hneg : st.neg = true) :
    (s.scanJudged n c st).recd = (s.event 0x12 10 .internal (word n.1) 0#32).recd := by
  obtain ⟨hhost, hunits, hrecd, -⟩ := s.scanBegun_chanFrame n c
  exact (State.judgedAs_recd_of_neg hneg).trans (State.event_recd_congr hhost hunits hrecd _ _ _ _ _)

/-- The links take what a scan sends and no more, where it is not stuck and changes nothing. -/
theorem State.scanJudged_rings (hst : st.stuck = false) (hsent : st.change = none) :
    (s.scanJudged n c st).ring (ringOf n) = { s.ring (ringOf n) with upq := (s.ring (ringOf n)).upq ++ s.scanUp n c }
      ∧ ∀ y ∈ [RingId.a, RingId.b], y ≠ ringOf n → (s.scanJudged n c st).ring y = s.ring y := by
  obtain ⟨-, -, -, -, -, -, -, -, -, hring⟩ := s.scanBegun_chanFrame n c
  refine ⟨?_, fun y hy hn => (State.judgedAs_ring_ne _ n st y hn).trans (hring y hy hn)⟩
  have hnone (k : Nat) : st.sent n k = [] := by unfold TouchStep.sent; rw [hsent]
  unfold State.scanJudged
  rw [State.judgedAs_ring, State.judgedStuck_of_not hst, hnone, List.append_nil]
  exact s.scanBegun_ring n c

/-- TOUCH_STUCK is reported and never live (R178, R263). -/
theorem State.scanJudged_stuck (hst : st.stuck = true) (hl : (s.chan n).live.getLsbD 28 = false)
    (hlen : (s.ring (ringOf n)).reports.length < 32) :
    ((s.scanJudged n c st).ring (ringOf n)).reports = (s.ring (ringOf n)).reports ++ [s.diagReport n 28 0#32]
      ∧ ((s.scanJudged n c st).chan n).live = (s.chan n).live := by
  have halike := s.scanBegun_reportsAlike n c
  refine ⟨?_, (State.judgedAs_live _ n st).trans halike.live⟩
  unfold State.scanJudged
  rw [State.judgedAs_ring]
  show (((s.scanBegun n c).judgedStuck n st).ring (ringOf n)).reports = _
  rw [State.judgedStuck_reports hst (by rw [halike.live]; exact hl) (by rw [halike.reports]; exact hlen), halike.reports, halike.diagReport]

end

/-! ## Scans that seed (R254) -/

section
variable {t : Touch} {c : Nat}

/-- The 16th scan of a seeding makes the mean the baseline. -/
theorem Touch.seedScan_last (h : t.seedCount = 15) :
    t.seedScan c = { t with base8 := (t.seedSum + c) * 16, seeded := true, seedCount := 0, seedSum := 0 } := by
  unfold Touch.seedScan; rw [if_pos (by omega)]

theorem Touch.seedScan_other (h : t.seedCount ≠ 15) : t.seedScan c = { t with seedCount := t.seedCount + 1, seedSum := t.seedSum + c } := by
  unfold Touch.seedScan; rw [if_neg (by omega)]

/-- What a seeding scan makes of the measurement. -/
theorem Touch.seedScan_fields (hseed : t.seeded = false) : (t.seedScan c).seeded = decide (t.seedCount = 15)
    ∧ (t.seedScan c).seedCount = (if t.seedCount = 15 then 0 else t.seedCount + 1)
    ∧ (t.seedScan c).base8 = (if t.seedCount = 15 then (t.seedSum + c) * 16 else t.base8) ∧ (t.seedScan c).c = t.c := by
  by_cases h : t.seedCount = 15
  · rw [Touch.seedScan_last h]; simp [h]
  · rw [Touch.seedScan_other h]; simp [h, hseed]

end

section
variable {n : Fin 16} {s u : State} {c o h : Nat} {failed : Bool}

/-- A scan sends its value and seeds, once its electrode is judged. -/
def State.seedsOn (u s : State) (n : Fin 16) (c : Nat) : State :=
  (u.sends n (s.scanUp n c)).modChan n (fun ch => { ch with tch := ch.tch.seedScan c })

theorem touchScan_seeds (hs : s.senses n 13 = true) (he : s.electrode n c failed = (u, false)) (hu : Diagnoses u (s.scanned n c o h) n)
    (hseed : (s.chan n).tch.seeded = false) : exec (.touchScan n c failed) s = .next (u.seedsOn s n c) := by
  have hseeded : ((u.sends n (s.scanUp n c)).chan n).tch.seeded = false := by
    rw [State.sends_chan, hu.tch, State.scanned_chan]; exact hseed
  rw [touchScan_eq hs, he]
  refine congrArg Host.Outcome.next ?_
  unfold State.scanEnded
  simp only [hseeded, Bool.false_eq_true, if_false, Bool.not_false, if_true]
  rfl

theorem State.seedsOn_chanFrame (hu : Diagnoses u (s.scanned n c o h) n) : ChanFrame (u.seedsOn s n c) s n :=
  (State.modChan_chanFrame _ n _).trans ((State.sends_chanFrame _ n _).trans (hu.frame.trans (s.scanned_chanFrame n c o h)))

theorem State.seedsOn_tch (hu : Diagnoses u (s.scanned n c o h) n) :
    ((u.seedsOn s n c).chan n).tch = ((s.chan n).tch.scanned c o h).seedScan c := by
  unfold State.seedsOn
  rw [State.modChan_chan, State.sends_chan, hu.tch, State.scanned_chan]

theorem State.seedsOn_upq (hu : Diagnoses u (s.scanned n c o h) n) :
    ((u.seedsOn s n c).ring (ringOf n)).upq = (s.ring (ringOf n)).upq ++ s.scanUp n c :=
  (congrArg Ring.upq (u.sends_ring n _) :).trans (congrArg (· ++ s.scanUp n c) hu.upq)

end

/-! ## Scans under an electrode diagnostic (R253, R263) -/

section
variable {n : Fin 16} {s u : State} {c : Nat} {failed : Bool}

/-- A scan sends its value under a live electrode diagnostic, and TOUCHED clears with LEAD 0 (log entry 93). -/
def State.untouched (u s : State) (n : Fin 16) (c : Nat) : State :=
  ((u.sends n (s.scanUp n c)).modChan n (fun ch => { ch with tch := { ch.tch with touched := false } })).sends n
    (if (s.chan n).tch.touched then [.change n false false s.tick 0#32] else [])

theorem touchScan_untouches (hs : s.senses n 13 = true) (he : s.electrode n c failed = (u, false)) (hu : Diagnoses u (s.scanned n c 0 0) n)
    (hseed : (s.chan n).tch.seeded = true) (hlive : ((u.chan n).live.getLsbD 10 || (u.chan n).live.getLsbD 20) = true) :
    exec (.touchScan n c failed) s = .next (u.untouched s n c) := by
  have htch : (u.chan n).tch = (s.chan n).tch.scanned c 0 0 := by rw [hu.tch, State.scanned_chan]
  have htick : (u.sends n (s.scanUp n c)).tick = s.tick := by
    obtain ⟨⟨-, hclock, -, -, htime, -⟩, -⟩ := hu.frame.trans (s.scanned_chanFrame n c 0 0)
    show u.tick = s.tick
    unfold State.tick
    rw [hclock, htime]
  rw [touchScan_eq hs, he]
  refine congrArg Host.Outcome.next ?_
  unfold State.scanEnded
  simp only [State.sends_chan, htch, hlive, htick, Bool.false_eq_true, if_false, if_true,
    show ((s.chan n).tch.scanned c 0 0).seeded = true from hseed, Bool.not_true]
  rfl

theorem State.untouched_chanFrame (hu : Diagnoses u (s.scanned n c 0 0) n) : ChanFrame (u.untouched s n c) s n :=
  (State.sends_chanFrame _ n _).trans ((State.modChan_chanFrame _ n _).trans ((State.sends_chanFrame _ n _).trans
    (hu.frame.trans (s.scanned_chanFrame n c 0 0))))

theorem State.untouched_tch (hu : Diagnoses u (s.scanned n c 0 0) n) :
    ((u.untouched s n c).chan n).tch = { (s.chan n).tch.scanned c 0 0 with touched := false } := by
  unfold State.untouched
  rw [State.sends_chan, State.modChan_chan, State.sends_chan, hu.tch, State.scanned_chan]

theorem State.untouched_ring (u s : State) (n : Fin 16) (c : Nat) : (u.untouched s n c).ring (ringOf n) = { u.ring (ringOf n) with
    upq := (u.ring (ringOf n)).upq ++ s.scanUp n c ++ (if (s.chan n).tch.touched then [.change n false false s.tick 0#32] else []) } := by
  unfold State.untouched
  rw [State.sends_ring, State.modChan_ring, State.sends_ring]

theorem State.untouched_upq (hu : Diagnoses u (s.scanned n c 0 0) n) : ((u.untouched s n c).ring (ringOf n)).upq =
    (s.ring (ringOf n)).upq ++ s.scanUp n c ++ (if (s.chan n).tch.touched then [.change n false false s.tick 0#32] else []) := by
  rw [State.untouched_ring, ← show (u.ring (ringOf n)).upq = (s.ring (ringOf n)).upq from hu.upq]

/-- The diagnostic of a scan is raised as seen from before the scan. -/
theorem State.untouched_raised {m : Nat} (hr : DiagRaised u (s.scanned n c 0 0) n m) : DiagRaised (u.untouched s n c) s n m := by
  refine ((s.scanned_reportsAlike n c 0 0).raised hr).of_eq ?_ (by rw [State.untouched_ring])
  unfold State.untouched
  rw [State.sends_chan, State.modChan_chan, State.sends_chan]

end

/-! ## Diagnostics of an electrode that end (R254) -/

section
variable {n : Fin 16} {s u : State} {c h : Nat} {failed : Bool}

theorem touchScan_reseeds (hs : s.senses n 13 = true) (hends : (s.electrode n c failed).2 = true) (he : (s.electrode n c failed).1 = u.reseed n) :
    exec (.touchScan n c failed) s = .next ((u.reseed n).sends n (s.scanUp n c)) := by
  rw [touchScan_eq hs, hends, he]
  rfl

theorem State.reseed_sends_chan (hu : Diagnoses u (s.scanned n c 0 h) n) (ms : List UpMsg) :
    ((u.reseed n).sends n ms).chan n = { u.chan n with tch := ((s.chan n).tch.scanned c 0 h).startSeed } := by
  unfold State.reseed
  rw [State.sends_chan, State.modChan_chan, hu.tch, State.scanned_chan]

theorem State.reseed_sends_chanFrame (hu : Diagnoses u (s.scanned n c 0 h) n) (ms : List UpMsg) : ChanFrame ((u.reseed n).sends n ms) s n :=
  (State.sends_chanFrame _ n _).trans ((State.modChan_chanFrame _ n _).trans (hu.frame.trans (s.scanned_chanFrame n c 0 h)))

end

/-! ## Electrodes under a guard (R261) -/

section
variable {n : Fin 16} {s : State} {c : Nat}

theorem State.scanned_rng (s : State) (n : Fin 16) (c o h : Nat) (k : Fin 16) : ((s.scanned n c o h).chan k).rng = (s.chan k).rng := by
  unfold State.scanned; rw [State.modChan_chan_ite]; split <;> rfl

theorem State.scanned_plg (s : State) (n : Fin 16) (c o h : Nat) (k : Fin 16) : ((s.scanned n c o h).chan k).plg = (s.chan k).plg := by
  unfold State.scanned; rw [State.modChan_chan_ite]; split <;> rfl

theorem State.scanned_guardOf (s : State) (n : Fin 16) (c o h : Nat) : (s.scanned n c o h).guardOf n = s.guardOf n := by
  simp only [State.guardOf, State.scanned_rng]

/-- A scan that ends no diagnostic leaves a channel without a live one so, and what waits for its guard. -/
theorem State.scanEnded_keeps {u : State} {clock : Nat} (hlo : (u.chan n).live.getLsbD 10 = false) (hls : (u.chan n).live.getLsbD 20 = false) :
    ((u.scanEnded n c clock false).chan n).live = (u.chan n).live
      ∧ ((u.scanEnded n c clock false).chan n).guardWait = (u.chan n).guardWait ∧ KeepsHost (u.scanEnded n c clock false) u := by
  unfold State.scanEnded
  simp only [hlo, hls, Bool.false_eq_true, if_false, Bool.or_self]
  split
  · rw [State.modChan_chan]; exact ⟨rfl, rfl, (u.modChan_chanFrame n _).1⟩
  · exact ⟨State.judgedAs_live u n _, State.judgedAs_guardWait u n _, (u.judgedAs_scanFrame n _).1⟩

/-- ELECTRODE_OPEN waits for UNPLUG_N + 1 tests of a guard that is PRESENT. -/
theorem State.scanned_waits {g : Fin 16} (hlo : (s.chan n).live.getLsbD 10 = false) (hg : s.guardOf n = some g)
    (hp : (s.chan g).plg.state = 1#3) (hw : (s.chan n).guardWait = []) : (s.scanned n c 0 0).guardedDetect n 10 =
      (s.scanned n c 0 0).modChan n (fun ch => { ch with guardWait := [(10, (s.chan g).rng.unplugN + 1)] }) := by
  have hchan := s.scanned_chan n c 0 0
  obtain ⟨hwait, -⟩ := (s.scanned n c 0 0).guardedDetect_waits n 10 (by decide) g (by rw [State.scanned_guardOf]; exact hg)
  rw [hwait (by rw [State.scanned_plg]; exact hp) (by rw [hchan]; exact hlo) (by rw [hchan]; simp [hw]), State.scanned_rng]
  exact State.modChan_congr (by rw [hchan]; simp [hw])

/-- The 100th scan below 3.0 pF of a channel whose guard is PRESENT. -/
theorem touchScan_waits {g : Fin 16} (hs : s.senses n 13 = true) (hlo : (s.chan n).live.getLsbD 10 = false)
    (hls : (s.chan n).live.getLsbD 20 = false) (hlow : c < 3000) (hg : s.guardOf n = some g) (hrun : 99 ≤ (s.chan n).tch.openRun)
    (hp : (s.chan g).plg.state = 1#3) (hw : (s.chan n).guardWait = []) : ∃ t, exec (.touchScan n c false) s = .next t
      ∧ (t.chan n).live.getLsbD 10 = false ∧ (t.chan n).guardWait = [(10, (s.chan g).rng.unplugN + 1)] ∧ KeepsHost t s := by
  have hdetects := (s.scanned n c 0 0).guardedDetect_diagnoses n 10
  have hwaits := State.scanned_waits (c := c) hlo hg hp hw
  have hchan : ((((s.scanned n c 0 0).guardedDetect n 10).sends n (s.scanUp n c)).chan n) = { s.chan n with
      tch := (s.chan n).tch.scanned c 0 0, guardWait := [(10, (s.chan g).rng.unplugN + 1)] } := by
    rw [State.sends_chan, hwaits, State.modChan_chan, State.scanned_chan]
  obtain ⟨hhost, -⟩ := (State.sends_chanFrame _ n (s.scanUp n c)).trans (hdetects.frame.trans (s.scanned_chanFrame n c 0 0))
  obtain ⟨hlive, hwait, hkeeps⟩ := State.scanEnded_keeps (n := n) (c := c) (clock := s.clock)
    (u := ((s.scanned n c 0 0).guardedDetect n 10).sends n (s.scanUp n c)) (by rw [hchan]; exact hlo) (by rw [hchan]; exact hls)
  refine ⟨_, (touchScan_eq hs).trans (by rw [State.electrode_opens hlo hls hlow hrun]), ?_, ?_, by simp [KeepsHost, hkeeps, hhost]⟩
  · rw [hlive, hchan]; exact hlo
  · rw [hwait, hchan]

end

/-- Settles O42, clause by clause: a scan of an electrode that charges acts as `Touch.judge` says or seeds, and one that changes an electrode
diagnostic clears TOUCHED, begins a seeding or waits for the guard. -/
theorem touchScansAreJudged : Obligations.TouchScansAreJudged := by
  unfold Obligations.TouchScansAreJudged
  intro n s
  refine ⟨fun c from_ hs hlo hls hlow hhigh hseed ht hth hd hrun hfrom => ?_, fun c hs hlo hls hlow hhigh hseed ht hon hoff hneg hN => ?_,
    fun c hs hlo hls hlow hhigh hseed ht hon hneg hN hrun => ?_, fun c from_ hs hlo hls hlow hhigh hseed ht hd hrun hfrom => ?_,
    fun c hs hlo hls hlow hhigh hseed ht hd hN hmax hheld hl hlen => ?_, fun c hs hlo hls hlow hhigh hseed hcount => ?_,
    fun c hs hlo hls hlow hg hrun hseed ht => ?_, fun c hs hlo hls hrun hseed ht => ?_, fun c failed hs hseed hopen hshort => ?_,
    fun c hs hlo hlow hrun => ?_, fun c g hs hlo hls hlow hg hrun hp hw => ?_, fun c failed hs => touchScan_rests hs⟩
  · subst hfrom
    exact ⟨_, touchScan_judges hs hlo hls hlow hhigh hseed (Touch.judge_touches ht hth hd hrun), State.scanJudged_tch, State.scanJudged_upq,
      State.scanJudged_recd rfl, State.scanJudged_scanFrame⟩
  · obtain ⟨hring, hother⟩ := State.scanJudged_rings (n := n) (s := s) (c := c) (st := ⟨_, none, false, false⟩) rfl rfl
    exact ⟨_, touchScan_judges hs hlo hls hlow hhigh hseed (Touch.judge_drifts ht hon hoff hneg hN),
      by rw [State.scanJudged_tch]; exact drifted_eq _ _ _ _, by rw [State.scanJudged_tch]; exact ht, by rw [State.scanJudged_tch],
      by rw [State.scanJudged_tch], hring, hother, State.scanJudged_recd rfl, State.scanJudged_scanFrame⟩
  · obtain ⟨hring, hother⟩ := State.scanJudged_rings (n := n) (s := s) (c := c) (st := ⟨_, none, false, true⟩) rfl rfl
    exact ⟨_, touchScan_judges hs hlo hls hlow hhigh hseed (Touch.judge_reseeds ht hon hneg hN hrun), by rw [State.scanJudged_tch]; rfl,
      State.scanJudged_recd_of_neg rfl, hring, hother, State.scanJudged_scanFrame⟩
  · subst hfrom
    exact ⟨_, touchScan_judges hs hlo hls hlow hhigh hseed (Touch.judge_releases ht hd hrun), State.scanJudged_tch, State.scanJudged_upq,
      State.scanJudged_recd rfl, State.scanJudged_scanFrame⟩
  · obtain ⟨hreports, hlive⟩ := State.scanJudged_stuck (c := c) (st := ⟨_, some (false, 0), true, false⟩) rfl hl hlen
    exact ⟨_, touchScan_judges hs hlo hls hlow hhigh hseed (Touch.judge_sticks ht hd hN hmax hheld), by rw [State.scanJudged_tch]; rfl,
      hreports, hlive, State.scanJudged_upq, State.scanJudged_recd rfl, State.scanJudged_scanFrame⟩
  · have hu := Diagnoses.refl (s.scanned n c 0 0) n
    obtain ⟨-, ⟨-, -, -, -, -, -, -, -, -, hfree⟩, hrecd, -, -, -, -, -, -, hother⟩ := State.seedsOn_chanFrame hu
    exact ⟨_, touchScan_seeds hs (State.electrode_charges hlo hls hlow hhigh) hu hseed,
      (State.seedsOn_tch hu).trans (Touch.seedScan_last hcount), State.sends_ring _ n _, hother, hfree, hrecd, (State.seedsOn_chanFrame hu).scan⟩
  · have hu := (s.scanned n c 0 0).guardedDetect_diagnoses n 10
    have hraised := ((s.scanned n c 0 0).guardedDetect_detects n 10 (by decide) (by decide)).1 (by rw [State.scanned_guardOf]; exact hg)
    have hframe := State.untouched_chanFrame hu
    have htch := State.untouched_tch hu
    exact ⟨_, touchScan_untouches hs (State.electrode_opens hlo hls hlow hrun) hu hseed (by rw [hraised.1, Bool.true_or]),
      State.untouched_raised hraised, by rw [htch], by rw [htch]; rfl, by rw [htch]; rfl, by rw [htch]; rfl, hframe.recd, hframe.scan⟩
  · have hu := (s.scanned n c 0 0).diagRaise_diagnoses n 20
    have hraised := (s.scanned n c 0 0).diagRaise_raised n 20 0#32 (by decide) (by decide)
    have hframe := State.untouched_chanFrame hu
    have hupq := State.untouched_upq hu
    rw [ht, if_pos rfl] at hupq
    exact ⟨_, touchScan_untouches hs (State.electrode_fails hlo hls hrun) hu hseed (by rw [hraised.1, Bool.or_true]),
      State.untouched_raised hraised, by rw [State.untouched_tch hu], hupq, hframe.recd, hframe.scan⟩
  · obtain ⟨hends, o, h, hu⟩ := State.electrode_stays (c := c) (failed := failed) hopen hshort
    have hfields := Touch.seedScan_fields (t := (s.chan n).tch.scanned c o h) (c := c) hseed
    rw [← State.seedsOn_tch hu] at hfields
    obtain ⟨hseeded, hcount, hbase, hc⟩ := hfields
    obtain ⟨hhost, hunits, -, -, -, -, hpair, -⟩ := State.seedsOn_chanFrame hu
    exact ⟨_, touchScan_seeds hs (Prod.ext rfl hends) hu hseed, hseeded, hcount, hbase, hc, State.seedsOn_upq hu, hhost, hunits,
      congrArg Pair.core hpair⟩
  · obtain ⟨hends, u, h, he, hu, hlive⟩ := State.electrode_closes hlo hlow hrun
    have hchan := State.reseed_sends_chan hu (s.scanUp n c)
    obtain ⟨hhost, hunits, -⟩ := State.reseed_sends_chanFrame hu (s.scanUp n c)
    exact ⟨_, touchScan_reseeds hs hends he, by rw [hchan]; exact hlive, by rw [hchan]; rfl, by rw [hchan]; rfl, by rw [hchan]; rfl,
      by rw [hchan]; rfl, by rw [hchan]; rfl, hhost, hunits⟩
  · exact touchScan_waits hs hlo hls hlow hg hrun hp hw

end Sys2Proof.Machine
end

section
/-! PROOFS. A guard that returns to PRESENT while another guard holds the gang partner of a channel that it guards (R198, R258, R260, R345). -/

namespace Sys2Proof.Machine

/-- Registers of a channel, at the host die and on its Ring. -/
def Chan.configuredAs (c : Chan) (mode plgCfg : Word) : Chan :=
  { c with cfg := { c.cfg with mode := mode, plgCfg := plgCfg }, rng := { c.rng with mode := mode, plgCfg := plgCfg } }

/-- A channel whose latch GUARD holds (R260). -/
def Chan.guardHeld (c : Chan) : Chan := { c with causes := 0x100#16, latch := true }

/-- A loop that has been replugged for REPLUG_STABLE, and came from UNPLUGGED. -/
def Plug.replugging (p : Plug) : Plug := { p with state := 3#3, fromState := 2#3, stableAt := 4500000, runs := [(0#3, 5), (0#3, 5)] }

/-- Channel 0 is a PLUG channel in REPLUGGING that guards the gang of channels 2 and 3 by channel 2, and the PLUG channel 4, which guards
channel 3. All three are held. -/
def chainedGuards : State :=
  (((((({ State.reset with phase := .run, clock := 5000000 } : State).modRing .a (fun r => { r with logic := true, vfOk := true, configured := true })).modChan
    0 (fun c => { c.configuredAs 0x11F0E#32 0x05281400#32 with plg := c.plg.replugging })).modChan
    2 (fun c => (c.configuredAs 0x30304#32 c.cfg.plgCfg).guardHeld)).modChan
    3 (fun c => (c.configuredAs 0x11F00#32 c.cfg.plgCfg).guardHeld)).modChan
    4 (fun c => (c.configuredAs 0x11F0E#32 0x05280800#32).guardHeld))

/-- A closed test in range takes channel 0 to PRESENT, and channel 2 is held by GUARD alone. -/
theorem chainedGuards_replugs : chainedGuards.senses 0 14 = true ∧ (chainedGuards.chan 0).plg.state = 3#3
    ∧ (chainedGuards.chan 0).plg.fromState = 2#3 ∧ (chainedGuards.chan 0).rng.plgRearm = true
    ∧ (chainedGuards.chan 0).rng.loopMin * 10 ≤ 1000 ∧ 1000 ≤ (chainedGuards.chan 0).rng.loopMax * 10
    ∧ (chainedGuards.chan 0).plg.stableAt + (chainedGuards.chan 0).rng.replugStable * 100000 ≤ chainedGuards.clock
    ∧ (chainedGuards.chan 0).rng.guard.testBit ((2 : Fin 16).1 % 8) = true ∧ (chainedGuards.chan 2).causes = 0x100#16
    ∧ (chainedGuards.chan 2).latch = true := by
  decide +kernel

/-- R262 admits both guards: each names PLUGGABLE channels other than itself that no other guard names. -/
theorem chainedGuards_admitted : chainedGuards.guardBad 0 (chainedGuards.chan 0).cfg.guard = false
    ∧ chainedGuards.guardBad 4 (chainedGuards.chan 4).cfg.guard = false := by
  decide +kernel

/-- The state after that test. -/
def afterReplug : State :=
  match exec (.plugTest 0 (.closed 1000)) chainedGuards with
  | .next t => t
  | _ => chainedGuards

theorem plugTest_afterReplug : exec (.plugTest 0 (.closed 1000)) chainedGuards = .next afterReplug := rfl

/-- Channel 4 is released and its guard restarts from UNKNOWN, which holds channel 3, and with it its gang partner. -/
theorem afterReplug_held : (afterReplug.chan 0).plg.state = 1#3 ∧ (afterReplug.chan 4).latch = false ∧ (afterReplug.chan 4).plg.state = 0#3
    ∧ afterReplug.guardOf 3 = some 4 ∧ afterReplug.gangPair 2 = some 3 ∧ (afterReplug.chan 2).causes.getLsbD 8 = true := by
  decide +kernel

/-- Refutes O43: the clause on a replug with REARM says that every guarded channel that GUARD alone holds loses it; but where the guard also
guards a PLUG channel, that one restarts from UNKNOWN as it is released (R258), and holds what it guards (R260), here the gang partner of the
channel, which has the same causes (R198, R345). -/
theorem not_presenceLoopsAreJudged : ¬ Obligations.PresenceLoopsAreJudged := by
  unfold Obligations.PresenceLoopsAreJudged
  intro h
  obtain ⟨-, -, -, -, -, -, -, hreplug, -⟩ := h 0 chainedGuards
  obtain ⟨hsenses, hstate, hfrom, hrearm, hmin, hmax, hstable, hguards, hcauses, hlatch⟩ := chainedGuards_replugs
  obtain ⟨t, hsays, -, hfree⟩ := hreplug 1000 2 hsenses hstate hfrom hrearm hmin hmax hstable hguards rfl (by decide) hcauses hlatch
  obtain rfl := Host.Outcome.next.inj (plugTest_afterReplug.symm.trans hsays)
  obtain ⟨-, -, -, -, -, hheld⟩ := afterReplug_held
  exact absurd (hheld.symm.trans hfree) (by decide)

end Sys2Proof.Machine
end

section
/-! PROOFS. A slice that fails while its Ring's rotation is behind: the end of BG_BEHIND can start a capture (R282, R324, R332, R394, R455,
R456). -/

namespace Sys2Proof.Machine

/-- A STOP wheel of 16 entries that takes the faults of channel 8 and of the host die, with two places free (R315, R318). -/
def hostFaultWheel : Wheel :=
  { Wheel.reset with sizeLog2 := 4, prod := 0x18400100#32, q := List.replicate 14 (mkEntry 19 6 0 0 0#32, 0) }

/-- Slice 4 calibrates for the second time, and a handover has been postponed since tick 0 (R279). -/
def Adc.secondCalibration (a : Adc) : Adc :=
  { a with
    slices := a.slices.set 4 { Slice.reset .calibrating with calValid := false, retried := true, calAt := 4987990 }
    handDue := true
    postponed := true }

/-- A block with Ring B up, 5 s after its start, whose wheel 0 takes the faults of the host die. -/
def secondCalibrationUnit : State :=
  (({ State.reset with phase := .run, clock := 5000000, wheels := State.reset.wheels.set 0 hostFaultWheel } : State).modRing .b
    (fun r => { r with logic := true, vfOk := true, configured := true })).modAdc .b Adc.secondCalibration

/-- It once its rotation has been found behind, with a capture armed for the corrected class (R394). -/
def armedUnit : State :=
  (secondCalibrationUnit.fallBehind (rotTask .b)).modRpl (fun r => { r with cfg := 0x11#32 })

/-- The rotation of Ring B is behind, its BEHIND bit is the only one and BG_BEHIND is live; its raising has filled the wheel, which has lost
nothing. -/
theorem armedUnit_behind : secondCalibrationUnit.isBehind (rotTask .b) = true ∧ armedUnit.bg.behind = 8#8
    ∧ (armedUnit.slot (hostSlot 19)).real = 1#32 ∧ (armedUnit.wheel 0).q.length = (armedUnit.wheel 0).size ∧ armedUnit.anyLoss = false
    ∧ armedUnit.cells = [] := by
  decide +kernel

/-- The second calibration of slice 4 has run its time. -/
theorem armedUnit_calibrates : (armedUnit.ring .b).converts = true ∧ ((armedUnit.adc .b).slices[(4 : Fin 5).1]).role = .calibrating
    ∧ ((armedUnit.adc .b).slices[(4 : Fin 5).1]).waiting = false
    ∧ ((armedUnit.adc .b).slices[(4 : Fin 5).1]).calAt + 12010 ≤ armedUnit.clock
    ∧ ((armedUnit.adc .b).slices[(4 : Fin 5).1]).retried = true := by
  decide +kernel

/-- The state after its checks fail again. -/
def afterSecondFailure : State :=
  match exec (.sliceCalibrationDone .b 4 false 0#32) armedUnit with
  | .next t => t
  | _ => armedUnit

theorem sliceCalibrationDone_afterSecondFailure : exec (.sliceCalibrationDone .b 4 false 0#32) armedUnit = .next afterSecondFailure := rfl

/-- BG_BEHIND has ended and its entry is lost, WHEEL_LOSS is live, and the capture that its raising started has its header in the store. -/
theorem afterSecondFailure_captures : (afterSecondFailure.slot (hostSlot 19)).real = 0#32 ∧ (afterSecondFailure.wheel 0).evtLoss = true
    ∧ (afterSecondFailure.slot (hostSlot 7)).real = 1#32 ∧ afterSecondFailure.rpl.capture.isSome = true
    ∧ afterSecondFailure.cells.isEmpty = false := by
  decide +kernel

/-- Refutes O44: the clause on a second failed calibration says that the cellar store stays as it is. But the failed slice ends the wait of
its Ring's rotation, and BG_BEHIND with it (R455, R456); a full STOP wheel that takes the faults of the host die loses the entry of that
clearing, which raises WHEEL_LOSS (R324, R332), and a capture armed for its class starts and writes its header into the store (R394, R396). -/
theorem not_adcSlicesRotateAndFail : ¬ Obligations.AdcSlicesRotateAndFail := by
  unfold Obligations.AdcSlicesRotateAndFail
  intro h
  obtain ⟨-, -, -, -, -, -, hfails, -⟩ := h .b armedUnit
  obtain ⟨hconverts, hrole, hwaiting, hdue, hretried⟩ := armedUnit_calibrates
  obtain ⟨t, hsays, -, -, -, -, -, -, -, -, -, -, -, -, -, hkept, -⟩ := hfails 4 0#32 hconverts hrole hwaiting hdue hretried
  obtain rfl := Host.Outcome.next.inj (sliceCalibrationDone_afterSecondFailure.symm.trans hsays)
  obtain ⟨-, -, -, -, -, hbefore⟩ := armedUnit_behind
  obtain ⟨-, -, -, -, hafter⟩ := afterSecondFailure_captures
  rw [hkept, hbefore] at hafter
  exact absurd hafter (by decide)

end Sys2Proof.Machine
end

section
/-! PROOFS. Writes of the filter's registers, and edges at the SYNC pin (R301, R302, R304, R306, R308, R309, R314). -/

namespace Sys2Proof.Machine

/-! ## Refusals by the lowest field (R75) -/

theorem lowest_eq_min? (fields : List (Bool × Nat)) : lowest fields = ((fields.filter (·.1)).map (·.2)).min? := by
  induction fields with
  | nil => rfl
  | cons field rest ih =>
    obtain ⟨bad, b⟩ := field
    cases bad <;> cases hrest : lowest rest <;> simp [lowest, hrest, List.min?_cons, ← ih]

theorem lowest_of_least {fields : List (Bool × Nat)} {b : Nat} (hbad : fields.any (fun p => p.1 && p.2 = b) = true)
    (hleast : ∀ p ∈ fields, p.1 = true → b ≤ p.2) : lowest fields = some b := by
  rw [lowest_eq_min?, List.min?_eq_some_iff]
  constructor
  · simpa using hbad
  · simpa using hleast

theorem firstRefusal_append_some {cs ds : List (Option Reply)} {rep : Reply} (h : firstRefusal cs = some rep) :
    firstRefusal (cs ++ ds) = some rep := by
  induction cs with
  | nil => exact absurd h nofun
  | cons c cs ih =>
    cases c with
    | none => exact ih h
    | some r => exact h

theorem State.imgWrite_refuses {s : State} {o : Origin} {r : Reg} {w : Word} {checks : List (Option Reply)} {rep : Reply} (eff : State → State)
    (h : firstRefusal checks = some rep) : s.imgWrite o r w checks eff = (s, rep) := by
  simp [State.imgWrite, guarded, firstRefusal_append_some h]

/-! ## Effects on the filter alone -/

/-- The state with its filter changed by `f`. -/
def State.modFilt (s : State) (f : Filt → Filt) : State := { s with filt := f s.filt }

/-- The filter with one of its chains changed by `g`. -/
def Filt.modChain (f : Filt) (n : Fin 16) (g : Chain → Chain) : Filt := { f with chains := tmod f.chains n g }

/-- A state whose filter is that of another with one chain changed has that chain changed, and the others as they were. -/
theorem State.chain_of_filt {t s : State} {n : Fin 16} {g : Chain → Chain} (h : t.filt = s.filt.modChain n g) :
    t.chain n = g (s.chain n) ∧ ∀ m, m ≠ n → t.chain m = s.chain m := by
  have hchain (m : Fin 16) : t.chain m = (s.modChain n g).chain m := by rw [State.chain, h]; rfl
  exact ⟨by rw [hchain, State.modChain_chain], fun m hm => by rw [hchain, State.modChain_chain_ne _ _ _ _ hm.symm]⟩

theorem RowActs.filt_only {t s : State} {e : Env} {f : Filt → Filt} (h : RowActs t s e (fun u => u.modFilt f)) :
    t.filt = f s.filt ∧ ButForPorts { t with filt := s.filt } s := by
  obtain ⟨⟨u, hu, ht⟩, -⟩ := h
  rw [ht, hu]; exact ⟨rfl, rfl⟩

/-! ## Changes of the filter (R77, R127, R309) -/

/-- `t` is `s` with the filter changed by `f` and the record of the write that did it; the Ringmaster, the frames to the Rings and the events
are left open (R443, R445). -/
abbrev FilterChanges (t s : State) (e : Env) (r : Reg) (w : Word) (f : Filt → Filt) : Prop :=
  t.answers e .ok s.recd.seqNext [] = true ∧ t.filt = f s.filt ∧ t.img.diverged = true ∧ t.img.divcnt = satInc s.img.divcnt
    ∧ t.recd.journal = s.recd.journal ++ [s.journalRecord 1 (portOrigin e.port) (word r.addrNat) w] ∧ RowFrame t s e ∧ t.chans = s.chans
    ∧ t.adcs = s.adcs ∧ t.time = s.time ∧ t.shadows = s.shadows ∧ t.wheels = s.wheels ∧ t.flt = s.flt ∧ t.svc = s.svc ∧ t.fab = s.fab
    ∧ t.cells = s.cells ∧ t.rpl = s.rpl ∧ t.chks = s.chks ∧ t.bg = s.bg ∧ t.pwr = s.pwr ∧ t.freeCtr = s.freeCtr

/-- A change of the filter with its record (R77, R127). -/
def State.filterChange (s : State) (o : Origin) (r : Reg) (w : Word) (f : Filt → Filt) : State :=
  ((s.appendJournal 1 o (word r.addrNat) w).modFilt f).diverge

theorem State.filterChange_parts (s : State) (o : Origin) (r : Reg) (w : Word) (f : Filt → Filt) :
    (s.filterChange o r w f).filt = f s.filt ∧ (s.filterChange o r w f).img.diverged = true
      ∧ (s.filterChange o r w f).img.divcnt = satInc s.img.divcnt
      ∧ (s.filterChange o r w f).recd.journal = s.recd.journal ++ [s.journalRecord 1 o (word r.addrNat) w] :=
  ⟨rfl, rfl, rfl, State.appendJournal_journal _ _ _ _ _⟩

theorem State.filterChange_frame (s : State) (o : Origin) (r : Reg) (w : Word) (f : Filt → Filt) :
    KeepsHost (s.filterChange o r w f) s ∧ (s.filterChange o r w f).chans = s.chans ∧ (s.filterChange o r w f).adcs = s.adcs
      ∧ (s.filterChange o r w f).wheels = s.wheels ∧ (s.filterChange o r w f).flt = s.flt ∧ (s.filterChange o r w f).svc = s.svc
      ∧ (s.filterChange o r w f).fab = s.fab ∧ (s.filterChange o r w f).cells = s.cells ∧ (s.filterChange o r w f).rpl = s.rpl
      ∧ (s.filterChange o r w f).chks = s.chks ∧ (s.filterChange o r w f).bg = s.bg ∧ (s.filterChange o r w f).pwr = s.pwr
      ∧ (s.filterChange o r w f).freeCtr = s.freeCtr := by
  simp [State.filterChange, State.diverge, State.modFilt, State.appendJournal_frame _ _ _ _ _, KeepsHost]

theorem State.imgWrite_changesFilter {s : State} {o : Origin} {r : Reg} {w : Word} {checks : List (Option Reply)} (f : Filt → Filt)
    (hroom : s.recd.journal.length < 2047) (hpass : firstRefusal checks = none) (hact : s.img.actPending = false) :
    s.imgWrite o r w checks (fun t => t.modFilt f) = (s.filterChange o r w f, ⟨.ok, s.recd.seqNext, []⟩) :=
  State.imgWrite_roomy _ hroom hpass hact

/-- A write of an "img" register that passes its checks and acts on the filter alone. -/
theorem State.submit_changesFilter {s : State} {e : Env} {r : Reg} {w : Word} {checks : List (Option Reply)} {f : Filt → Filt}
    (h : s.hostReady e opWrite = true) (hroom : s.recd.journal.length < 2047) (hact : s.img.actPending = false) (hr : r ≠ .flt .release)
    (hreg : (s.intake ⟨opWrite, r.addr, w, none, e⟩).regWrite (portOrigin e.port) r s.tickLo w none
      = (s.intake ⟨opWrite, r.addr, w, none, e⟩).imgWrite (portOrigin e.port) r w checks (fun t => t.modFilt f))
    (hpass : firstRefusal checks = none) :
    FilterChanges (s.submit ⟨opWrite, r.addr, w, none, e⟩) s e r w f := by
  have hi : SameDevice (s.intake ⟨opWrite, r.addr, w, none, e⟩) s := (s.intake_butForPorts _).same
  have hrecord := State.journalRecord_of_same hi 1 (portOrigin e.port) (word r.addrNat) w
  have hparts := (s.intake ⟨opWrite, r.addr, w, none, e⟩).filterChange_parts (portOrigin e.port) r w f
  have hframe := (s.intake ⟨opWrite, r.addr, w, none, e⟩).filterChange_frame (portOrigin e.port) r w f
  have htold := State.mirrorWrite_told (s.intake ⟨opWrite, r.addr, w, none, e⟩)
    ((s.intake ⟨opWrite, r.addr, w, none, e⟩).filterChange (portOrigin e.port) r w f) (portOrigin e.port) r w
  have ⟨⟨_, _, _, _, _, _, _, htoldPorts, _⟩, _⟩ := htold
  have ⟨⟨_, _, _, _, _, _, _, hports, _⟩, _⟩ := hframe
  obtain ⟨hanswer, ht, hother⟩ := State.submit_write_leaves h hr (hreg.trans (State.imgWrite_changesFilter f hroom hpass hact)) (if_pos rfl)
    (htoldPorts.trans hports)
  have hsame := ht.same
  have hrow : RowFrame (s.submit ⟨opWrite, r.addr, w, none, e⟩) s e := RowFrame.of (by simp [hsame, htold, hframe, hi]) hother
  refine ⟨hanswer, ?_, ?_, ?_, ?_, hrow, ?_⟩
  all_goals simp [hsame, htold, hparts, hframe, hrecord, hi]

/-- A refused write of a register: its answer, and the device as it was. -/
abbrev FilterRefuses (t s : State) (e : Env) (b : Nat) : Prop :=
  t.answers e .refused (word b) [] = true ∧ t.chans = s.chans ∧ t.rings = s.rings ∧ t.recd = s.recd ∧ t.img = s.img ∧ t.adcs = s.adcs
    ∧ t.filt = s.filt ∧ RowFrame t s e ∧ t.time = s.time ∧ t.shadows = s.shadows ∧ t.wheels = s.wheels ∧ t.flt = s.flt ∧ t.svc = s.svc
    ∧ t.fab = s.fab ∧ t.cells = s.cells ∧ t.rpl = s.rpl ∧ t.chks = s.chks ∧ t.bg = s.bg ∧ t.pwr = s.pwr ∧ t.freeCtr = s.freeCtr

/-- A write of an "img" register whose lowest refused field is at bit `b`. -/
theorem State.submit_refusesFilter {s : State} {e : Env} {r : Reg} {w : Word} {fields : List (Bool × Nat)} {eff : State → State} {b : Nat}
    (h : s.hostReady e opWrite = true) (hr : r ≠ .flt .release)
    (hreg : (s.intake ⟨opWrite, r.addr, w, none, e⟩).regWrite (portOrigin e.port) r s.tickLo w none
      = (s.intake ⟨opWrite, r.addr, w, none, e⟩).imgWrite (portOrigin e.port) r w [refuseLow fields] eff)
    (hlow : lowest fields = some b) : FilterRefuses (s.submit ⟨opWrite, r.addr, w, none, e⟩) s e b := by
  have hbad : firstRefusal [refuseLow fields] = some (.refused b) := by simp [firstRefusal, refuseLow, hlow]
  obtain ⟨hanswer, ht, hrow⟩ := State.submit_write_refused r (.refused b) h hr (hreg.trans (State.imgWrite_refuses eff hbad)) nofun
  obtain ⟨htime, hshadows, ⟨hsvc, himg, hfab, hadcs, hfilt, hchks, -, hbg, hpwr, hfree⟩, hrecd, hwheels, hflt, hchans, hrings, hrpl, -, hcells⟩ :=
    ht.device
  exact ⟨hanswer, hchans, hrings, hrecd, himg, hadcs, hfilt, hrow, htime, hshadows, hwheels, hflt, hsvc, hfab, hcells, hrpl, hchks, hbg, hpwr,
    hfree⟩

/-! ## FILT_CHn_CFG (R306, R308, R309) -/

/-- A chain under an accepted word: the enables act at once, the rest waits for the frame boundary. -/
def Chain.configured (w : Word) (h : Chain) : Chain := { h.setEnables w with cfgPend := some (w &&& chainMask) }

theorem Chain.configured_eq (w : Word) (h : Chain) : h.configured w =
    { h with
      cfg := (h.cfg &&& 0xFFFCFFFF#32) ||| (w &&& 0x00030000#32), hi := h.hi && bit w 16, lo := h.lo && bit w 17, hiRun := 0, loRun := 0
      cfgPend := some (w &&& 0x80030F07#32) } := rfl

theorem State.chainBad_of_butForPorts {i s : State} (hi : ButForPorts i s) (n : Fin 16) (w : Word) : i.chainBad n w = s.chainBad n w := by
  rw [hi]; rfl

/-- A word with EN = 1 frees no share, so that it acts on the filter alone. -/
theorem State.writeChainCfg_enabled (s : State) (o : Origin) (n : Fin 16) {w : Word} (hen : bit w 31 = true) :
    s.writeChainCfg o n w = s.imgWrite o (.filtCh n .cfg) w [refuseLow (s.chainBad n w)]
      (fun t => t.modFilt (fun f => f.modChain n (Chain.configured w))) := by
  simp only [State.writeChainCfg, hen]; rfl

theorem filtChnCfgWrite_changes {s : State} {e : Env} {n : Fin 16} {w : Word} (h : s.hostReady e opWrite = true)
    (hroom : s.recd.journal.length < 2047) (hact : s.img.actPending = false) (hpass : lowest (s.chainBad n w) = none) (hen : bit w 31 = true) :
    ∃ t, exec (.filtChnCfgWrite e n w) s = .next t
      ∧ FilterChanges t s e (.filtCh n .cfg) w (fun f => f.modChain n (Chain.configured w)) :=
  ⟨_, rfl, State.submit_changesFilter h hroom hact (by simp) (State.writeChainCfg_enabled _ _ n hen)
    (by simp [firstRefusal, refuseLow, State.chainBad_of_butForPorts (s.intake_butForPorts _), hpass])⟩

theorem filtChnCfgWrite_refuses {s : State} {e : Env} {n : Fin 16} {w : Word} {b : Nat} (h : s.hostReady e opWrite = true)
    (hlow : lowest (s.chainBad n w) = some b) : ∃ t, exec (.filtChnCfgWrite e n w) s = .next t ∧ FilterRefuses t s e b :=
  ⟨_, rfl, State.submit_refusesFilter h (by simp) rfl ((congrArg lowest (State.chainBad_of_butForPorts (s.intake_butForPorts _) n w)).trans hlow)⟩

/-! ## FILT_CFG (R302, R309, R314) -/

/-- The refused fields of FILT_CFG. -/
def State.filtCfgBad (s : State) (w : Word) : List (Bool × Nat) :=
  [(fld w 4 2 = 3, 4), (fld w 0 2 ≠ fld s.filtSoon 0 2 && decide (3000 < residOf (s.roundsSoon.syncChains w s.chainSoon)), 0)]

theorem State.regWrite_filtCfg (s : State) (o : Origin) (fall w : Word) (obs : Option Int) :
    s.regWrite o (.filt .cfg) fall w obs = s.imgWrite o (.filt .cfg) w [refuseLow (s.filtCfgBad w)]
      (fun t => t.modFilt (fun f => { f with cfgPend := some (w &&& 0x33#32) })) := rfl

/-- A word that leaves ALIGN is refused for its SYNC_SRC alone. -/
theorem State.lowest_filtCfgBad {s : State} {w : Word} (halign : fld w 0 2 = fld s.filtSoon 0 2) :
    lowest (s.filtCfgBad w) = if fld w 4 2 = 3 then some 4 else none := by
  simp [State.filtCfgBad, halign, lowest]

theorem State.filtCfgBad_of_butForPorts {i s : State} (hi : ButForPorts i s) (w : Word) : i.filtCfgBad w = s.filtCfgBad w := by
  rw [hi]; rfl

theorem filtCfgWrite_changes {s : State} {e : Env} {w : Word} (h : s.hostReady e opWrite = true) (hroom : s.recd.journal.length < 2047)
    (hact : s.img.actPending = false) (hsrc : fld w 4 2 ≠ 3) (halign : fld w 0 2 = fld s.filtSoon 0 2) :
    ∃ t, exec (.filtCfgWrite e w) s = .next t ∧ FilterChanges t s e (.filt .cfg) w (fun f => { f with cfgPend := some (w &&& 0x33#32) }) :=
  ⟨_, rfl, State.submit_changesFilter h hroom hact (by simp) (State.regWrite_filtCfg _ _ _ w _)
    (by simp [firstRefusal, refuseLow, State.filtCfgBad_of_butForPorts (s.intake_butForPorts _), State.lowest_filtCfgBad halign, hsrc])⟩

theorem filtCfgWrite_refuses {s : State} {e : Env} {w : Word} (h : s.hostReady e opWrite = true) (hsrc : fld w 4 2 = 3)
    (halign : fld w 0 2 = fld s.filtSoon 0 2) : ∃ t, exec (.filtCfgWrite e w) s = .next t ∧ FilterRefuses t s e 4 :=
  ⟨_, rfl, State.submit_refusesFilter h (by simp) (State.regWrite_filtCfg _ _ _ w _) ((State.lowest_filtCfgBad halign).trans (if_pos hsrc))⟩

/-! ## Thresholds (R304, R306) -/

/-- A chain whose threshold register is written: the runs clear, the states stay. -/
def Chain.withThreshold (r : ThreshReg) (w : Word) (h : Chain) : Chain :=
  match r with
  | .hi => { h with thhi := w, hiRun := 0, loRun := 0 }
  | .lo => { h with thlo := w, hiRun := 0, loRun := 0 }
  | .cfg => { h with thcfg := w, hiRun := 0, loRun := 0 }

theorem State.regWrite_threshold (s : State) (o : Origin) (n : Fin 16) (r : ThreshReg) (fall w : Word) (obs : Option Int) :
    s.regWrite o (.filtCh n (threshReg r)) fall w obs = s.imgWrite o (.filtCh n (threshReg r)) w []
      (fun t => t.modFilt (fun f => f.modChain n (Chain.withThreshold r w))) := by
  cases r <;> rfl

theorem thresholdWrite_changes {s : State} {e : Env} {n : Fin 16} {r : ThreshReg} {w : Word} (h : s.hostReady e opWrite = true)
    (hroom : s.recd.journal.length < 2047) (hact : s.img.actPending = false) :
    ∃ t, exec (.thresholdWrite e n r w) s = .next t
      ∧ FilterChanges t s e (.filtCh n (threshReg r)) w (fun f => f.modChain n (Chain.withThreshold r w)) :=
  ⟨_, rfl, State.submit_changesFilter h hroom hact (by simp) (State.regWrite_threshold _ _ n r _ w _) rfl⟩

/-! ## FILT_SYNC (R301, R314) -/

/-- The filter after a write of FILT_SYNC: ARM arms the pin, and GO makes a sync that waits for the boundary. -/
def Filt.synced (o : Origin) (w : Word) (f : Filt) : Filt :=
  { f with armed := f.armed || bit w 1, syncDue := if bit w 0 then f.syncDue ++ [(false, o)] else f.syncDue }

theorem State.regWrite_filtSync (s : State) (o : Origin) (fall w : Word) (obs : Option Int) :
    s.regWrite o (.filt .sync) fall w obs = (s.modFilt (Filt.synced o w), .done) := rfl

theorem bit_setFld_low {w : Word} {v i : Nat} (hv : v < 4) (hi : i < 2) : bit (setFld w 0 2 v) i = v.testBit i := by
  have hsum : w.toNat / 2 ^ (0 + 2) * 2 ^ (0 + 2) + v % 2 ^ 2 * 2 ^ 0 + w.toNat % 2 ^ 0 = 2 ^ 2 * (w.toNat / 4) + v := by omega
  rw [bit, setFld, BitVec.getLsbD_ofNat, hsum, Nat.testBit_two_pow_mul_add _ (by omega)]
  simp [hi, show i < 32 by omega]

/-- A write of FILT_SYNC is no change: it has no record, and the partner does not hear of it. -/
theorem State.submit_syncsFilter {s : State} {e : Env} (w : Word) (h : s.hostReady e opWrite = true) :
    ∃ t, Host.Outcome.next (s.submit ⟨opWrite, Reg.addr (.filt .sync), w, none, e⟩) = (Host.Outcome.next t : Host.Outcome State Fault Refusal)
      ∧ t.answers e .ok 0#32 [] = true ∧ t.filt = s.filt.synced (portOrigin e.port) w ∧ RowFrame t s e ∧ t.chans = s.chans
      ∧ t.rings = s.rings ∧ t.recd = s.recd ∧ t.img = s.img ∧ t.adcs = s.adcs ∧ t.pair = s.pair ∧ t.time = s.time ∧ t.shadows = s.shadows
      ∧ t.wheels = s.wheels ∧ t.flt = s.flt ∧ t.svc = s.svc ∧ t.fab = s.fab ∧ t.cells = s.cells ∧ t.rpl = s.rpl ∧ t.chks = s.chks
      ∧ t.bg = s.bg ∧ t.pwr = s.pwr ∧ t.freeCtr = s.freeCtr := by
  obtain ⟨hanswer, hacts⟩ := State.submit_write_sends s e (.filt .sync) w none _ (fun u => u.modFilt (Filt.synced (portOrigin e.port) w)) .done h
    (by simp) (State.regWrite_filtSync _ _ _ w _) (State.mirrorWrite_unjournaled _ _ _ rfl) rfl
  obtain ⟨hfilt, hsame⟩ := hacts.filt_only
  obtain ⟨htime, hshadows, ⟨hsvc, himg, hfab, hadcs, -, hchks, -, hbg, hpwr, hfree⟩, hrecd, hwheels, hflt, hchans, hrings, hrpl, hpair, hcells⟩ :=
    hsame.device
  exact ⟨_, rfl, hanswer, hfilt, hsame.rowFrame hacts.2, hchans, hrings, hrecd, himg, hadcs, hpair, htime, hshadows, hwheels, hflt, hsvc, hfab,
    hcells, hrpl, hchks, hbg, hpwr, hfree⟩

theorem Filt.synced_go (f : Filt) (o : Origin) (w : Word) :
    f.synced o (setFld w 0 2 1) = { f with syncDue := f.syncDue ++ [(false, o)] } := by
  simp [Filt.synced, bit_setFld_low, Nat.testBit]

theorem Filt.synced_arm (f : Filt) (o : Origin) (w : Word) : f.synced o (setFld w 0 2 2) = { f with armed := true } := by
  simp [Filt.synced, bit_setFld_low, Nat.testBit]

/-! ## Edges at the SYNC pin (R301, R464) -/

/-- While the host die runs awake and the pin is the filter's input, an edge is the filter's. -/
theorem syncEdge_filter {s : State} (hphase : s.phase = .run) (hvio : s.vio = true) (hmode : s.bg.syncMode = 0) (hawake : s.pwr.mode ≠ .cellar) :
    exec .syncEdge s = .next s.filtEdge := by
  show execSyncEdge s = _
  simp [execSyncEdge, hphase, hvio, hmode, hawake]

theorem State.filtEdge_armed {s : State} (hsrc : fld s.filt.cfg 4 2 = 1) (harmed : s.filt.armed = true) :
    s.filtEdge = { s with filt := { s.filt with armed := false, syncDue := s.filt.syncDue ++ [(false, .internal)] } } := by
  simp [State.filtEdge, hsrc, harmed]

theorem State.filtEdge_grid {s : State} (hsrc : fld s.filt.cfg 4 2 = 2) :
    s.filtEdge = { s with filt := { s.filt with syncDue := s.filt.syncDue ++ [(true, .internal)] } } := by
  simp [State.filtEdge, hsrc]

theorem syncEdge_output {s : State} (hmode : s.bg.syncMode = 2) : exec .syncEdge s = .next s :=
  congrArg Host.Outcome.next (whenDo_of_not (by simp [hmode]) _ s)

/-- Settles O47, row by row: chain words and FILT_CFG with their refusals, thresholds, GO, ARM, and the edges at the pin. -/
theorem filterRegistersAreWrittenAndSynced : Obligations.FilterRegistersAreWrittenAndSynced := by
  unfold Obligations.FilterRegistersAreWrittenAndSynced
  intro s
  refine ⟨?_, ?_, ?_, ?_, ?_, ?_, ?_, ?_, ?_, ?_⟩
  · intro e n w h hroom hact hpass hen
    obtain ⟨t, hsays, hanswer, hfilt, hrest⟩ := filtChnCfgWrite_changes h hroom hact hpass hen
    obtain ⟨hchain, hothers⟩ := State.chain_of_filt hfilt
    exact ⟨t, hsays, hanswer, hchain.trans (Chain.configured_eq w _), hothers, hrest⟩
  · exact fun e n w b h hbad hleast => filtChnCfgWrite_refuses h (lowest_of_least hbad hleast)
  · exact fun e w h hroom hact hsrc halign => filtCfgWrite_changes h hroom hact hsrc halign
  · exact fun e w h hsrc halign => filtCfgWrite_refuses h hsrc halign
  · intro e n r w h hroom hact
    obtain ⟨t, hsays, hanswer, hfilt, hrest⟩ := thresholdWrite_changes (r := r) h hroom hact
    obtain ⟨hchain, hothers⟩ := State.chain_of_filt hfilt
    refine ⟨t, hsays, hanswer, ?_, ?_, ?_, hothers, hrest⟩ <;> (rintro rfl; exact hchain)
  · intro e w h _
    rw [← Filt.synced_go s.filt _ w]
    exact State.submit_syncsFilter _ h
  · intro e w h _
    rw [← Filt.synced_arm s.filt (portOrigin e.port) w]
    exact State.submit_syncsFilter _ h
  · exact fun hphase hvio hmode hawake hsrc harmed =>
      (syncEdge_filter hphase hvio hmode hawake).trans (congrArg _ (State.filtEdge_armed hsrc harmed))
  · exact fun hphase hvio hmode hawake hsrc => (syncEdge_filter hphase hvio hmode hawake).trans (congrArg _ (State.filtEdge_grid hsrc))
  · exact syncEdge_output

end Sys2Proof.Machine
end

section
/-! PROOFS. Each command answers a next state, with the queue and the clock as they were and the cellar store in its canonical form: a lemma
for each row of spec/opcode_table.json that is no host frame, and one for every host frame. -/

namespace Sys2Proof.Machine

/-- What every command keeps of the state before it: the queue, the clock, and the canonical form of the cellar store. -/
structure State.Follows (t s : State) : Prop where
  pending : t.pending = s.pending
  clock : t.clock = s.clock
  cells : Memory.wf s.cells = true → Memory.wf t.cells = true

/-- A meaning answers a next state, which keeps what every command keeps. -/
def State.Answers (s : State) (o : Host.Outcome State Fault Refusal) : Prop := ∃ t, o = .next t ∧ t.Follows s

theorem State.Follows.refl (s : State) : s.Follows s := ⟨rfl, rfl, id⟩

theorem State.Follows.trans {u t s : State} (h : u.Follows t) (k : t.Follows s) : u.Follows s :=
  ⟨h.pending.trans k.pending, h.clock.trans k.clock, fun hm => h.cells (k.cells hm)⟩

theorem State.Follows.ite {c : Prop} [Decidable c] {t u s : State} (h : t.Follows s) (k : u.Follows s) :
    (if c then t else u).Follows s := by
  split
  · exact h
  · exact k

theorem State.Follows.whenDo {s : State} {c : Bool} {f : State → State} (h : (f s).Follows s) : (whenDo c f s).Follows s := by
  cases c
  · exact .refl s
  · exact h

theorem State.Follows.of_parts {t s : State} (hp : t.pending = s.pending) (hc : t.clock = s.clock) (hm : t.cells = s.cells) : t.Follows s :=
  ⟨hp, hc, fun h => hm ▸ h⟩

theorem State.Follows.forEach {α : Type} {xs : List α} {f : α → State → State} {s : State} (h : ∀ a t, (f a t).Follows t) :
    (forEach xs f s).Follows s := by
  induction xs generalizing s with
  | nil => exact .refl s
  | cons a xs ih => exact (ih (s := f a s)).trans (h a s)

theorem State.Follows.of_fst {β : Type} {p : State × β} {t s : State} {b : β} (h : p = (t, b)) (hp : p.1.Follows s) : t.Follows s := by
  subst h; exact hp

theorem State.Follows.of_snd {β : Type} {p : β × State} {t s : State} {b : β} (h : p = (b, t)) (hp : p.2.Follows s) : t.Follows s := by
  subst h; exact hp

theorem State.modChan_follows (s : State) (n : Fin 16) (f : Chan → Chan) : (s.modChan n f).Follows s := .of_parts rfl rfl rfl

theorem State.modRing_follows (s : State) (x : RingId) (f : Ring → Ring) : (s.modRing x f).Follows s := .of_parts rfl rfl rfl

theorem State.Answers.ok {s t : State} (h : t.Follows s) : s.Answers (ok t) := ⟨t, rfl, h⟩

theorem State.Follows.onTicket {s : State} {m : Master} {f : State → State} (h : ∀ t, (f t).Follows t) : (s.onTicket m f).Follows s :=
  State.Follows.trans (t := f (s.takeTicket m (s.pickTicket 0))) (.of_parts rfl rfl rfl) ((h _).trans (.of_parts rfl rfl rfl))

theorem State.tzFrame_follows (s : State) : s.tzFrame.Follows s := by
  constructor <;> simp +contextual [State.tzFrame_frame _]

theorem State.Follows.onFrame {s : State} {good : Bool} {f : State → State} (h : ∀ t, (f t).Follows t) : (s.onFrame good f).Follows s := by
  unfold State.onFrame
  refine .ite (.refl s) (.ite ?_ ((h _).trans s.tzFrame_follows))
  constructor <;> simp +contextual [State.tzDiscard_frame _]

theorem execChatterBlockEnd_answers (n : Fin 16) (s : State) : s.Answers (execChatterBlockEnd n s) :=
  .ok <| .whenDo <| by constructor <;> simp +contextual [State.diagClear_frame _ _ _]

theorem execDebounceExpiry_answers (n : Fin 16) (partner seen : Bool) (pad : Int) (lead : Nat) (s : State) :
    s.Answers (execDebounceExpiry n partner seen pad lead s) :=
  .ok <| .whenDo <| by constructor <;> simp +contextual [State.debounced_frame _ _ _]

theorem execCouplingHoldExpiry_answers (n : Fin 16) (s : State) : s.Answers (execCouplingHoldExpiry n s) := by
  unfold execCouplingHoldExpiry
  dsimp only
  split
  · exact .ok <| .whenDo <| by constructor <;> simp +contextual [State.acceptInput_frame _ _ _ _]
  · exact .ok (.refl s)

theorem execWettingPulseStart_answers (n : Fin 16) (s : State) : s.Answers (execWettingPulseStart n s) :=
  .ok <| .whenDo <| by constructor <;> simp +contextual [State.startPulse_frame _ _]

theorem execWetRepeat_answers (n : Fin 16) (s : State) : s.Answers (execWetRepeat n s) :=
  .ok <| .whenDo <| by constructor <;> simp +contextual [State.startPulse_frame _ _]

theorem execWettingPulseEnd_answers (n : Fin 16) (pad : Int) (s : State) : s.Answers (execWettingPulseEnd n pad s) := by
  unfold execWettingPulseEnd
  split
  · exact .ok (.refl s)
  · exact .ok <| .whenDo <| by constructor <;> simp +contextual [State.diagRaise_frame _ _ _ _]

theorem execCountEdge_answers (n : Fin 16) (seen : CountObs) (s : State) : s.Answers (execCountEdge n seen s) :=
  .ok <| .whenDo <| by constructor <;> simp +contextual [State.diagRaise_frame _ _ _ _]

theorem execCountDelivery_answers (n : Fin 16) (good : Bool) (s : State) : s.Answers (execCountDelivery n good s) :=
  .ok <| .whenDo <| by constructor <;> simp +contextual [State.linkDiscard_frame _ _, State.toWheels_frame _ _ _ _ _ _]

theorem execOpenWire_answers (n : Fin 16) (s : State) : s.Answers (execOpenWire n s) :=
  .ok <| .whenDo <| by constructor <;> simp +contextual [State.guardedDetect_frame _ _ _]

theorem execReversed_answers (n : Fin 16) (s : State) : s.Answers (execReversed n s) :=
  .ok <| .whenDo <| by constructor <;> simp +contextual [State.diagRaise_frame _ _ _ _]

theorem execOverrange_answers (n : Fin 16) (s : State) : s.Answers (execOverrange n s) :=
  .ok <| .whenDo <| by constructor <;> simp +contextual [State.diagRaise_frame _ _ _ _]

theorem execPwmPeriodStart_answers (n : Fin 16) (s : State) : s.Answers (execPwmPeriodStart n s) :=
  .ok <| .whenDo <| by constructor <;> simp +contextual [State.followGang_frame _ _]

theorem execInrushEnd_answers (n : Fin 16) (limiting : Bool) (s : State) : s.Answers (execInrushEnd n limiting s) := by
  unfold execInrushEnd
  dsimp only
  split
  · exact .ok (.refl s)
  · exact .ok <| .whenDo <| by constructor <;> simp +contextual [State.followGang_frame _ _, State.trip_frame _ _ _]

theorem execOvercurrent_answers (n : Fin 16) (s : State) : s.Answers (execOvercurrent n s) :=
  .ok <| .whenDo <| by constructor <;> simp +contextual [State.trip_frame _ _ _]

theorem execShortGnd_answers (n : Fin 16) (s : State) : s.Answers (execShortGnd n s) :=
  .ok <| by constructor <;> simp +contextual [State.diagRaise_frame _ _ _ _, State.trip_frame _ _ _]

theorem execOffBlankEnd_answers (n : Fin 16) (s : State) : s.Answers (execOffBlankEnd n s) := by
  unfold execOffBlankEnd
  dsimp only
  split
  · exact .ok (.refl s)
  · exact .ok <| .whenDo <| by constructor <;> simp +contextual [State.followGang_frame _ _]

theorem execShortVf_answers (n : Fin 16) (reverse : Bool) (s : State) : s.Answers (execShortVf n reverse s) :=
  .ok <| .whenDo <| by constructor <;> simp +contextual [State.trip_frame _ _ _, State.followGang_frame _ _]

theorem execOpenLoadOn_answers (n : Fin 16) (s : State) : s.Answers (execOpenLoadOn n s) :=
  .ok <| .whenDo <| by constructor <;> simp +contextual [State.guardedDetect_frame _ _ _]

theorem execOpenLoadOff_answers (n : Fin 16) (s : State) : s.Answers (execOpenLoadOff n s) :=
  .ok <| .whenDo <| by constructor <;> simp +contextual [State.guardedDetect_frame _ _ _]

theorem execChThermal_answers (n : Fin 16) (s : State) : s.Answers (execChThermal n s) :=
  .ok <| .whenDo <| by constructor <;> simp +contextual [State.setCause_frame _ _ _, State.diagRaise_frame _ _ _ _]

theorem execThermalRetry_answers (n : Fin 16) (s : State) : s.Answers (execThermalRetry n s) :=
  .ok <| .whenDo <| by constructor <;> simp +contextual [State.diagClear_frame _ _ _, State.clearAtOnce_frame _ _ _ _,
      State.event_frame _ _ _ _ _ _]

theorem execTempWarn_answers (x : RingId) (hot : Bool) (s : State) : s.Answers (execTempWarn x hot s) :=
  .ok <| .whenDo <| by constructor <;> simp +contextual [State.ringDiag_frame _ _ _ _ _ _ _]

theorem execRingThermal_answers (x : RingId) (s : State) : s.Answers (execRingThermal x s) :=
  .ok <| .whenDo <| by constructor <;> simp +contextual [State.setCauseRing_frame _ _ _, State.ringDiag_frame _ _ _ _ _ _ _]

theorem execGangImbalance_answers (n : Fin 16) (s : State) : s.Answers (execGangImbalance n s) :=
  .ok <| .whenDo <| by constructor <;> simp +contextual [State.guardedDetect_frame _ _ _]

theorem execVfLow_answers (x : RingId) (s : State) : s.Answers (execVfLow x s) :=
  .ok <| .whenDo <| by constructor <;> simp +contextual [State.ringDiag_frame _ _ _ _ _ _ _]

theorem execVfLowClear_answers (x : RingId) (s : State) : s.Answers (execVfLowClear x s) :=
  .ok <| by constructor <;> simp +contextual [State.ringDiag_frame _ _ _ _ _ _ _]

theorem execRingOverload_answers (x : RingId) (high : Bool) (s : State) : s.Answers (execRingOverload x high s) :=
  .ok <| .whenDo <| by constructor <;> simp +contextual [State.ringDiag_frame _ _ _ _ _ _ _]

theorem execRingOverloadLatch_answers (x : RingId) (s : State) : s.Answers (execRingOverloadLatch x s) :=
  .ok <| .whenDo <| by constructor <;> simp +contextual [State.setCauseRing_frame _ _ _]

theorem execTapMoveUp_answers (n : Fin 16) (o : TickObs) (s : State) : s.Answers (execTapMoveUp n o s) :=
  .ok <| .whenDo <| by constructor <;> simp +contextual [State.moveUp_frame _ _ _]

theorem execTapOverload_answers (x : RingId) (rail : Fin 3) (o : TickObs) (s : State) : s.Answers (execTapOverload x rail o s) :=
  .ok <| .whenDo <| by constructor <;> simp +contextual [State.ringDiag_frame _ _ _ _ _ _ _, State.leaveRail_frame _ _ _ _,
      State.tellTaps_frame _ _]

theorem execTapsRegulated_answers (x : RingId) (rails : BitVec 3) (s : State) : s.Answers (execTapsRegulated x rails s) := by
  have htell (t : State) : (t.tellTaps x).Follows t := by constructor <;> simp +contextual [State.tellTaps_frame _ _]
  exact .ok <| .whenDo <| (htell _).trans (.of_parts rfl rfl rfl)

theorem execT3Availability_answers (x : RingId) (up : Bool) (o : TickObs) (s : State) : s.Answers (execT3Availability x up o s) :=
  .ok <| .whenDo <| by constructor <;> simp +contextual [State.leaveRail_frame _ _ _ _, State.tellTaps_frame _ _]

theorem execRingStepTick_answers (x : RingId) (o : TickObs) (s : State) : s.Answers (execRingStepTick x o s) :=
  .ok <| .whenDo <| by constructor <;> simp +contextual [State.shedTick_frame _ _, State.judgeCompliance_frame _ _,
      State.tapTick_frame _ _ _]

theorem execOpenLoop_answers (n : Fin 16) (s : State) : s.Answers (execOpenLoop n s) :=
  .ok <| .whenDo <| by constructor <;> simp +contextual [State.diagRaise_frame _ _ _ _]

theorem execLoadShort_answers (n : Fin 16) (s : State) : s.Answers (execLoadShort n s) :=
  .ok <| .whenDo <| by constructor <;> simp +contextual [State.diagRaise_frame _ _ _ _]

theorem execSupplyLimit_answers (n : Fin 16) (s : State) : s.Answers (execSupplyLimit n s) :=
  .ok <| .whenDo <| by constructor <;> simp +contextual [State.diagRaise_frame _ _ _ _]

theorem execAoOverload_answers (n : Fin 16) (s : State) : s.Answers (execAoOverload n s) :=
  .ok <| .whenDo <| by constructor <;> simp +contextual [State.diagRaise_frame _ _ _ _]

theorem execAoOpen_answers (n : Fin 16) (s : State) : s.Answers (execAoOpen n s) :=
  .ok <| .whenDo <| by constructor <;> simp +contextual [State.diagRaise_frame _ _ _ _]

theorem execNe43Diag_answers (n : Fin 16) (s : State) : s.Answers (execNe43Diag n s) :=
  .ok <| .whenDo <| by constructor <;> simp +contextual [State.diagRaise_frame _ _ _ _]

theorem execDiagnosticClear_answers (d : DiagRef) (s : State) : s.Answers (execDiagnosticClear d s) := by
  have hclear (t : State) (n : Fin 16) (m : Nat) : (t.diagClear n m).Follows t :=
      by constructor <;> simp +contextual [State.diagClear_frame _ _ _]
  have hring (x : RingId) (b : Nat) (r : Fin 20) (was : Bool) (f : Ring → Ring) : (s.ringDiag x b r was false f).Follows s :=
      by constructor <;> simp +contextual [State.ringDiag_frame _ _ _ _ _ _ _]
  have hlive (t : State) (k : Fin 256) : (t.clearLive k).Follows t :=
      by constructor <;> simp +contextual [State.clearLive_frame _ _]
  unfold execDiagnosticClear
  cases d with
  | member n m =>
    exact .ok <| .whenDo <| .ite (.whenDo (hclear _ _ _)) (.ite (.whenDo (hclear _ _ _))
      (.ite ((hclear _ _ _).trans (s.modChan_follows n _)) (hclear _ _ _)))
  | ring x r =>
    dsimp only
    split
    · exact .ok (hring _ _ _ _ _)
    · split
      · exact .ok (hring _ _ _ _ _)
      · split
        · exact .ok <| .whenDo <| (hlive _ _).trans (s.modRing_follows x _)
        · exact .ok (.refl s)

theorem execCalibrationPersist_answers (n : Fin 16) (s : State) : s.Answers (execCalibrationPersist n s) := by
  unfold execCalibrationPersist
  split
  · exact .ok (.refl s)
  · exact .ok <| by constructor <;> simp +contextual [State.calibChanged_frame _]

theorem execArmTimeout_answers (s : State) : s.Answers (execArmTimeout s) :=
  .ok <| .whenDo <| by constructor <;> simp +contextual [State.disarm_frame _ _]

theorem execButtonPress_answers (span : Bool) (s : State) : s.Answers (execButtonPress span s) :=
  .ok <| .whenDo <| by constructor <;> simp +contextual

theorem execButtonRelease_answers (span : Bool) (s : State) : s.Answers (execButtonRelease span s) :=
  .ok <| .whenDo <| by constructor <;> simp +contextual

theorem execLedBlink_answers (s : State) : s.Answers (execLedBlink s) :=
  .ok <| .whenDo <| by constructor <;> simp +contextual

theorem execFskQuietEnd_answers (x : RingId) (s : State) : s.Answers (execFskQuietEnd x s) :=
  .ok <| .whenDo <| by constructor <;> simp +contextual

theorem execFskTxEnd_answers (x : RingId) (s : State) : s.Answers (execFskTxEnd x s) :=
  .ok <| .whenDo <| by constructor <;> simp +contextual

theorem execCarrierDetect_answers (x : RingId) (s : State) : s.Answers (execCarrierDetect x s) :=
  .ok <| .whenDo <| by constructor <;> simp +contextual

theorem execCarrierRelease_answers (x : RingId) (s : State) : s.Answers (execCarrierRelease x s) :=
  .ok <| .whenDo <| by constructor <;> simp +contextual

theorem execFskCharReceived_answers (x : RingId) (d : Byte) (parity framing : Bool) (s : State) :
    s.Answers (execFskCharReceived x d parity framing s) :=
  .ok <| .whenDo <| by constructor <;> simp +contextual [State.sendUp_frame _ _ _]

theorem execRespTimeout_answers (x : RingId) (s : State) : s.Answers (execRespTimeout x s) := by
  unfold execRespTimeout
  split
  · exact .ok (.refl s)
  · exact .ok <| .whenDo <| s.modRing_follows x _

theorem execEvaluationComplete_answers (tenNs : BitVec 16) (s : State) : s.Answers (execEvaluationComplete tenNs s) :=
  .ok <| .whenDo <| by constructor <;> simp +contextual

theorem execButtonCapture_answers (span : Bool) (s : State) : s.Answers (execButtonCapture span s) := by
  have hloop (t : State) (n : Fin 16) : (t.loopValue n).2.Follows t :=
      by constructor <;> simp +contextual [State.loopValue_frame _ _]
  have hfull (t : State) : t.refuseFull.Follows t := by constructor <;> simp +contextual [State.refuseFull_frame _]
  have hchg (t : State) (n : Fin 16) (v : Int) (p1 p2 : Word) :
      (t.change .service 6 p1 p2 (fun u => u.capture .service n span v)).1.Follows t := by
    constructor <;> simp +contextual [State.capture_frame _ _ _ _ _]
  have hsvc (t : State) (v : Svc) : ({ t with svc := v } : State).Follows t := .of_parts rfl rfl rfl
  unfold execButtonCapture
  extract_lets b at_
  clear_value at_
  cases at_ with
  | none => exact .ok (.refl s)
  | some _ =>
    refine .ok <| .whenDo <| .onTicket fun t => ?_
    split
    rename_i v u hl
    extract_lets src s0 code s1 s1'
    have hu : u.Follows t := .of_snd hl (hloop t b.ch)
    have h0 : s0.Follows t := (hsvc _ _).trans hu
    exact .ite ((hsvc _ _).trans ((hchg _ _ _ _ _).trans h0)) ((hsvc _ _).trans (.ite ((hfull _).trans h0) h0))

theorem execTouchScan_answers (n : Fin 16) (c : Nat) (failed : Bool) (s : State) : s.Answers (execTouchScan n c failed s) := by
  have hel (t : State) : (t.judgeElectrode n c failed).1.Follows t := by
    constructor <;> simp +contextual [State.judgeElectrode_frame _ _ _ _]
  have hup (t : State) (m : UpMsg) : (t.sendUp (ringOf n) m).Follows t :=
      by constructor <;> simp +contextual [State.sendUp_frame _ _ _]
  have hchg (t : State) (on : Bool) (v : Word) : (t.sendChange n on false v).Follows t := by
    constructor <;> simp +contextual [State.sendChange_frame _ _ _ _ _]
  have hraise (t : State) : (t.diagRaise n 28).Follows t :=
      by constructor <;> simp +contextual [State.diagRaise_frame _ _ _ _]
  have hev (t : State) : (t.event 0x12 10 .internal (word n.1) 0#32).Follows t := by
    constructor <;> simp +contextual [State.event_frame _ _ _ _ _ _]
  have hfree (t : State) : t.free.2.Follows t := by constructor <;> simp +contextual [State.free_frame _]
  unfold execTouchScan
  refine .ok <| .whenDo ?_
  split
  rename_i s1 ends hj
  have h1 : s1.Follows s := .of_fst hj <| (hel _).trans (s.modChan_follows n _)
  extract_lets r s2 ch s3 st s3' s4 s5
  have h2 : s2.Follows s := .ite ((hup _ _).trans h1) h1
  have h3 : s3.Follows s := (s2.modChan_follows n _).trans h2
  have h3' : s3'.Follows s := (State.modChan_follows _ n _).trans ((hfree s2).trans h2)
  have h4 : s4.Follows s := .ite ((hraise _).trans h3') h3'
  have h5 : s5.Follows s := .ite ((hev _).trans h4) h4
  refine .ite h2 (.ite ((s2.modChan_follows n _).trans h2) (.ite (.ite ((hchg _ _ _).trans h3) h3) ?_))
  split
  · exact (hchg _ _ _).trans h5
  · exact h5

theorem execPlugTest_answers (n : Fin 16) (o : PlugObs) (s : State) : s.Answers (execPlugTest n o s) :=
  .ok <| .whenDo <| by constructor <;> simp +contextual [State.plugDiag_frame _ _ _ _ _ _, State.countWaits_frame _ _,
      State.replugged_frame _ _ _, State.rearmGuard_frame _ _, State.dropWaits_frame _ _, State.applyGuard_frame _ _, State.tellPlug_frame _ _]

theorem execRefSettled_answers (x : RingId) (s : State) : s.Answers (execRefSettled x s) :=
  .ok <| .whenDo <| by constructor <;> simp +contextual

theorem execRefFault_answers (x : RingId) (off : Bool) (s : State) : s.Answers (execRefFault x off s) :=
  .ok <| .whenDo <| by constructor <;> simp +contextual [State.adcRaise_frame _ _ _ _, State.ringReport_frame _ _ _ _ _ _]

theorem execConversionResult_answers (x : RingId) (i : Fin 64) (code : BitVec 12) (lost full : Bool) (s : State) :
    s.Answers (execConversionResult x i code lost full s) := by
  have hbad (t : State) : (t.linkDiscard x).Follows t := by constructor <;> simp +contextual [State.linkDiscard_frame _ _]
  have hmon (t : State) (b : Bool) : (t.monitor x b).Follows t := by constructor <;> simp +contextual [State.monitor_frame _ _ _]
  have hclass (t : State) (n : Fin 16) (v : Int) : (t.classify n v).Follows t := by constructor <;> simp +contextual [State.classify_frame _ _ _]
  have hover (t : State) : (t.filtOverrun x).Follows t := by constructor <;> simp +contextual [State.filtOverrun_frame _ _]
  have harrive (t : State) (e : Fin 64) (n : Fin 16) (c : Option (BitVec 12)) (f : Nat) : (t.arrive x e n c f).Follows t := by
    constructor <;> simp +contextual [State.arrive_frame _ _ _ _ _ _]
  unfold execConversionResult
  extract_lets w placed up waits n
  refine .ok <| .whenDo ?_
  extract_lets s1 s2 s3 c fl s4 r
  have h1 : s1.Follows s := .of_parts rfl rfl rfl
  have h2 : s2.Follows s := .ite ((hbad _).trans h1) h1
  have h3 : s3.Follows s := .ite h2 (.trans (t := s2) (.of_parts rfl rfl rfl) h2)
  have h4 : s4.Follows s := (hclass _ _ _).trans h3
  exact .ite ((hmon _ _).trans h3) (.ite h3 (.ite ((harrive _ _ _ _ _).trans h4)
    (.ite ((harrive _ _ _ _ _).trans ((hover _).trans h4)) ((harrive _ _ _ _ _).trans h4))))

theorem execAdcLate_answers (x : RingId) (i : Fin 64) (s : State) : s.Answers (execAdcLate x i s) := by
  have hraise (t : State) : (t.adcRaise x 0 11).Follows t :=
      by constructor <;> simp +contextual [State.adcRaise_frame _ _ _ _]
  have harrive (t : State) (n : Fin 16) : (t.arrive x i n none 0).Follows t :=
      by constructor <;> simp +contextual [State.arrive_frame _ _ _ _ _ _]
  have hfail (t : State) (k : Fin 5) : (t.failSlice x k).Follows t :=
      by constructor <;> simp +contextual [State.failSlice_frame _ _ _]
  unfold execAdcLate
  extract_lets a p k w n
  clear_value k p
  split
  · refine .ok <| .whenDo ?_
    extract_lets recent s1 s2
    have h1 : s1.Follows s := (hraise _).trans (.of_parts rfl rfl rfl)
    have h2 : s2.Follows s := .ite ((harrive _ _).trans h1) h1
    exact .ite ((hfail _ _).trans h2) h2
  · exact .ok (.refl s)

theorem execRotationEvent_answers (x : RingId) (s : State) : s.Answers (execRotationEvent x s) :=
  .ok <| .whenDo <| by constructor <;> simp +contextual

theorem execSliceHandover_answers (x : RingId) (s : State) : s.Answers (execSliceHandover x s) :=
  .ok <| .whenDo <| by constructor <;> simp +contextual [State.caughtUp_frame _ _]

theorem execSliceCalibrationDone_answers (x : RingId) (k : Fin 5) (pass : Bool) (cal : Word) (s : State) :
    s.Answers (execSliceCalibrationDone x k pass cal s) :=
  .ok <| .whenDo <| by constructor <;> simp +contextual [State.calibChanged_frame _, State.failSlice_frame _ _ _]

theorem State.takeReference_due_follows (s : State) (x : RingId) :
    (match (s.adc x).refCome with
      | some w => s.takeReference x w
      | none => s).Follows s := by
  split
  · constructor <;> simp +contextual [State.takeReference_frame _ _ _]
  · exact .refl s

theorem State.takeEntries_follows (s : State) (x : RingId) : (s.takeEntries x).Follows s := by
  constructor <;> simp +contextual [State.takeEntries_frame _ _]

theorem State.settlePositions_follows (s : State) (x : RingId) : (s.settlePositions x).Follows s := by
  constructor <;> simp +contextual [State.settlePositions_frame _ _]

theorem execAdcFrameBoundary_answers (s : State) : s.Answers (execAdcFrameBoundary s) := by
  have hb (t : State) (k : Nat) : ((t.filtBoundary k).settleResid).Follows t := by
    constructor <;> simp +contextual [State.filtBoundary_frame _ _, State.settleResid_frame _]
  unfold execAdcFrameBoundary
  refine .ok <| .whenDo ?_
  dsimp only [List.foldl]
  refine (hb _ _).trans ?_
  refine (State.settlePositions_follows _ _).trans ((State.takeReference_due_follows _ _).trans ((State.takeEntries_follows _ _).trans ?_))
  exact (State.settlePositions_follows _ _).trans ((State.takeReference_due_follows _ _).trans (State.takeEntries_follows _ _))

theorem execWheelAge_answers (w : Fin 64) (s : State) : s.Answers (execWheelAge w s) :=
  .ok <| .whenDo <| by constructor <;> simp +contextual

theorem execFaultRaise_answers (h : Fin 31) (s : State) : s.Answers (execFaultRaise h s) :=
  .ok <| .whenDo <| by constructor <;> simp +contextual [State.raiseHost_frame _ _, State.raiseLive_frame _ _ _]

theorem execFaultClear_answers (h : Fin 31) (s : State) : s.Answers (execFaultClear h s) :=
  .ok <| .whenDo <| by constructor <;> simp +contextual [State.clearLive_frame _ _]

theorem execCollectorMismatch_answers (index : BitVec 16) (s : State) : s.Answers (execCollectorMismatch index s) :=
  .ok <| .whenDo <| by constructor <;> simp +contextual [State.faultRecord_frame _ _ _ _ _ _ _, State.sendSafe_frame _ _,
      State.sendSource_frame _ _, State.roleRelease_frame _, State.checkLoss_frame _ _, State.faultEntry_frame _ _ _ _ _ _,
          State.faultTrigger_frame _ _ _ _ _]

theorem execSafePathCheck_answers (x : RingId) (s : State) : s.Answers (execSafePathCheck x s) :=
  .ok <| .whenDo <| by constructor <;> simp +contextual [State.setCauseRing_frame _ _ _, State.ringReport_frame _ _ _ _ _ _]

theorem execReleaseAck_answers (p : PortId) (x : RingId) (good : Bool) (s : State) : s.Answers (execReleaseAck p x good s) :=
  .ok <| .whenDo <| by constructor <;> simp +contextual [State.linkDiscard_frame _ _, State.modRelease_frame _ _ _,
      State.settleRelease_frame _ _]

theorem execWdExpiry_answers (s : State) : s.Answers (execWdExpiry s) :=
  .ok <| .whenDo <| by constructor <;> simp +contextual [State.raiseLive_frame _ _ _]

theorem execInjPulseEnd_answers (k : Fin 256) (m : Byte) (s : State) : s.Answers (execInjPulseEnd k m s) :=
  .ok <| .whenDo <| by constructor <;> simp +contextual [State.clearCause_frame _ _ _ _]

theorem execEventReport_answers (code : BitVec 16) (origin : Origin) (p1 p2 : Word) (s : State) : s.Answers (execEventReport code origin p1 p2 s) :=
  .ok <| by constructor <;> simp +contextual [State.report_frame _ _ _ _ _ _]

theorem execRecordWritten_answers (s : State) : s.Answers (execRecordWritten s) :=
  .ok <| .whenDo <| by constructor <;> simp +contextual [State.recordWritten_frame _]

theorem execTailCacheCommit_answers (s : State) : s.Answers (execTailCacheCommit s) :=
  .ok <| .whenDo <| by constructor <;> simp +contextual [State.commitTail_frame _, State.keepIdle_frame _,
      State.appendLog_frame _ _]

theorem execPeriodicCommit_answers (s : State) : s.Answers (execPeriodicCommit s) :=
  .ok <| .whenDo <| by constructor <;> simp +contextual [State.periodicCommit_frame _]

theorem execSlotEraseDone_answers (fails : Bool) (s : State) : s.Answers (execSlotEraseDone fails s) :=
  .ok <| .whenDo <| by constructor <;> simp +contextual [State.free_frame _, State.slotSectorFails_frame _ _,
      State.setSlot_frame _ _ _, State.endOperation_frame _ _ _, State.eraseSectors_frame _ _ _, State.event_frame _ _ _ _ _ _]

theorem execVerifyDone_answers (s : State) : s.Answers (execVerifyDone s) :=
  .ok <| .whenDo <| by constructor <;> simp +contextual [State.noteVerdict_frame _ _, State.setSlot_frame _ _ _,
      State.expand_frame _, State.tryFallback_frame _, State.takeFallback_frame _ _, State.noSlot_frame _ _, State.endOperation_frame _ _ _]

theorem execImageExpanded_answers (s : State) : s.Answers (execImageExpanded s) :=
  .ok <| .whenDo <| by constructor <;> simp +contextual [State.sendRing_frame _ _ _]

theorem execStagingAck_answers (x : RingId) (good : Bool) (s : State) : s.Answers (execStagingAck x good s) :=
  .ok <| .whenDo <| by constructor <;> simp +contextual [State.linkDiscard_frame _ _]

theorem execRerunFrame_answers (s : State) : s.Answers (execRerunFrame s) := by
  unfold execRerunFrame
  refine .ok ?_
  split
  · exact .refl s
  · refine .ite (.refl s) ?_
    split
    · constructor <;> simp +contextual [State.endRerun_frame _ _]
    · exact .ite (by constructor <;> simp +contextual [State.endRerun_frame _ _]) (by constructor <;> simp +contextual [State.judgeFrame_frame _ _ _ _])

theorem execReplayEraseDone_answers (s : State) : s.Answers (execReplayEraseDone s) :=
  .ok <| .whenDo <| by constructor <;> simp +contextual

theorem execScanUnitDone_answers (u : Fin 4) (bad : Bool) (s : State) : s.Answers (execScanUnitDone u bad s) :=
  .ok <| .whenDo <| by constructor <;> simp +contextual [State.scanUnit_frame _ _ _]

theorem execDriveGateTimeout_answers (x : RingId) (s : State) : s.Answers (execDriveGateTimeout x s) :=
  .ok <| .whenDo <| by constructor <;> simp +contextual [State.refreshRing_frame _ _ _]

theorem execListenTimeExpiry_answers (idle : Bool) (s : State) : s.Answers (execListenTimeExpiry idle s) :=
  .ok <| .whenDo <| by constructor <;> simp +contextual [State.claim_frame _ _ _ _, State.pairSync_frame _]

theorem State.claim_follows (s : State) (roleReason claimReason : Nat) (idle : Bool) (num : Word) :
    (s.claim roleReason claimReason idle num).Follows s := by
  constructor <;> simp +contextual [State.claim, State.setRole_frame _ _ _ _, State.sendSource_frame _ _]

theorem State.pairSync_follows (s : State) : s.pairSync.Follows s := by
  constructor <;> simp +contextual [State.pairSync_frame _]

theorem execTakeoverDelayExpiry_answers (idle : Bool) (s : State) : s.Answers (execTakeoverDelayExpiry idle s) :=
  .ok <| .whenDo <| (State.pairSync_follows _).trans (s.claim_follows _ _ _ _)

theorem execClaimTimeout_answers (port : BitVec 2) (s : State) : s.Answers (execClaimTimeout port s) :=
  .ok <| .whenDo <| by constructor <;> simp +contextual [State.sendSource_frame _ _, State.event_frame _ _ _ _ _ _,
      State.setRole_frame _ _ _ _, State.pairSync_frame _]

theorem execBackoffExpiry_answers (idle : Bool) (s : State) : s.Answers (execBackoffExpiry idle s) :=
  .ok <| .whenDo <| by constructor <;> simp +contextual [State.claim_frame _ _ _ _, State.setRole_frame _ _ _ _,
      State.pairSync_frame _]

theorem execTightropeToggle_answers (s : State) : s.Answers (execTightropeToggle s) :=
  .ok <| .whenDo <| by constructor <;> simp +contextual

theorem execTlQualChange_answers (up idle : Bool) (s : State) : s.Answers (execTlQualChange up idle s) :=
  .ok <| .whenDo <| by constructor <;> simp +contextual [State.followGate_frame _ _, State.sendUp_frame _ _ _]

theorem execSourceCollapse_answers (s : State) : s.Answers (execSourceCollapse s) :=
  .ok <| .whenDo <| by constructor <;> simp +contextual

theorem execTightropeHbLost_answers (port : BitVec 2) (s : State) : s.Answers (execTightropeHbLost port s) :=
  .ok <| .whenDo <| by constructor <;> simp +contextual [State.raiseLive_frame _ _ _, State.pairSync_frame _]

theorem execTightropeHbReturn_answers (s : State) : s.Answers (execTightropeHbReturn s) :=
  .ok <| .whenDo <| by constructor <;> simp +contextual [State.pairSync_frame _]

theorem execTrapezeFrameDiscard_answers (s : State) : s.Answers (execTrapezeFrameDiscard s) :=
  .ok <| .whenDo <| by constructor <;> simp +contextual [State.tzDiscard_frame _]

theorem execTzHeartbeatSend_answers (s : State) : s.Answers (execTzHeartbeatSend s) :=
  .ok <| .whenDo <| by constructor <;> simp +contextual [State.pairSync_frame _, State.sendHeartbeat_frame _]

theorem execQualSend_answers (s : State) : s.Answers (execQualSend s) :=
  .ok <| .whenDo <| by constructor <;> simp +contextual [State.sendQual_frame _]

theorem execHeartbeat_answers (b : List Byte) (s : State) : s.Answers (execHeartbeat b s) :=
  .ok <| .onFrame fun t => by constructor <;> simp +contextual [State.takeHeartbeat_frame _ _]

theorem execQual_answers (b : List Byte) (s : State) : s.Answers (execQual b s) :=
  .ok <| .onFrame fun t => by constructor <;> simp +contextual [State.judgePartner_frame _, State.pairSync_frame _]

theorem execTrapezeLost_answers (s : State) : s.Answers (execTrapezeLost s) := by
  have hraise (t : State) : (t.raiseLive (hostSlot 20)).Follows t := by constructor <;> simp +contextual [State.raiseLive_frame _ _ _]
  have hdrop : s.dropEpoch.Follows s := by constructor <;> simp +contextual [State.dropEpoch_frame _]
  exact .ok <| .whenDo <| (State.pairSync_follows _).trans ((hraise _).trans
    (.trans (t := s.dropEpoch) (.of_parts rfl rfl rfl) hdrop))

theorem execStaleLinkFail_answers (s : State) : s.Answers (execStaleLinkFail s) :=
  .ok <| .whenDo <| by constructor <;> simp +contextual [State.pairSync_frame _]

theorem execMirrorGap_answers (s : State) : s.Answers (execMirrorGap s) :=
  .ok <| .whenDo <| by constructor <;> simp +contextual [State.setUq_frame _ _ _, State.pairSync_frame _]

theorem execMirrorResend_answers (s : State) : s.Answers (execMirrorResend s) := by
  unfold execMirrorResend
  refine .ok ?_
  split
  · exact .refl s
  · refine .ite (.refl s) (.ite ?_ ?_) <;> constructor <;>
      simp +contextual [State.nextFlight_frame _, State.post_frame _ _]

theorem execEpochSendDone_answers (s : State) : s.Answers (execEpochSendDone s) :=
  .ok <| .whenDo <| by constructor <;> simp +contextual

theorem execEpoch_answers (b : List Byte) (s : State) : s.Answers (execEpoch b s) :=
  .ok <| .onFrame fun t => .ite (.refl t) (by constructor <;> simp +contextual [State.takeSegment_frame _ _,
      State.pairSync_frame _])

theorem execAck_answers (a : AckOf) (needFull : Bool) (s : State) : s.Answers (execAck a needFull s) :=
  .ok <| .onFrame fun t => by
    dsimp only
    repeat' split
    all_goals constructor <;> simp +contextual [State.nextFlight_frame _, State.pairSync_frame _, State.swapGo_frame _ _]

theorem execSwapReq_answers (s : State) : s.Answers (execSwapReq s) :=
  .ok <| .onFrame fun t => .ite (by constructor <;> simp +contextual [State.startSwap_frame _,
      State.pairSync_frame _]) (.refl t)

theorem execSwapGo_answers (epoch : Word) (idle : Bool) (s : State) : s.Answers (execSwapGo epoch idle s) :=
  .ok <| .onFrame fun t => by
    split
    · refine .ite ((State.pairSync_follows _).trans ((State.claim_follows _ _ _ _ _).trans ?_)) (.refl t)
      constructor <;> simp +contextual [State.takeOutputs_frame _ _, State.sendCommands_frame _]
    · exact .refl t

theorem execSwapDone_answers (s : State) : s.Answers (execSwapDone s) :=
  .ok <| .onFrame fun t => by
    split
    · refine .ite (.refl t) (.ite ?_ ?_) <;> constructor <;>
        simp +contextual [State.endSwap_frame _ _ _, State.setRole_frame _ _ _ _, State.pairSync_frame _]
    · exact .refl t

theorem execSwapDoneTimeout_answers (idle : Bool) (s : State) : s.Answers (execSwapDoneTimeout idle s) := by
  have hend (t : State) : (t.endSwap false 2).Follows t := by
    constructor <;> simp +contextual [State.endSwap_frame _ _ _]
  unfold execSwapDoneTimeout
  refine .ok ?_
  split
  · exact .ite ((State.pairSync_follows _).trans (.ite ((State.claim_follows _ _ _ _ _).trans (hend s)) (hend s))) (.refl s)
  · exact .refl s

theorem execSwapDue_answers (s : State) : s.Answers (execSwapDue s) :=
  .ok <| .whenDo <| by constructor <;> simp +contextual [State.pairSync_frame _]

theorem execVfUvloRise_answers (x : RingId) (s : State) : s.Answers (execVfUvloRise x s) :=
  .ok <| .whenDo <| by constructor <;> simp +contextual [State.recoverRing_frame _ _, State.startRing_frame _ _ _]

theorem execRingStartDone_answers (x : RingId) (s : State) : s.Answers (execRingStartDone x s) :=
  .ok <| .whenDo <| by constructor <;> simp +contextual

theorem execVfUvloFall_answers (x : RingId) (s : State) : s.Answers (execVfUvloFall x s) :=
  .ok <| .whenDo <| by constructor <;> simp +contextual [State.setCauseRing_frame _ _ _, State.restartInput_frame _ _,
      State.ringReport_frame _ _ _ _ _ _, State.sourceOff_frame _ _, State.refreshRing_frame _ _ _, State.tellTaps_frame _ _]

theorem execRingPor_answers (x : RingId) (s : State) : s.Answers (execRingPor x s) :=
  .ok <| .whenDo <| by constructor <;> simp +contextual [State.loseStatus_frame _ _, State.sourceOff_frame _ _,
      State.refreshRing_frame _ _ _]

theorem execRingConfigConfirm_answers (x : RingId) (good : Bool) (s : State) : s.Answers (execRingConfigConfirm x good s) := by
  have hbad (t : State) : (t.linkDiscard x).Follows t := by constructor <;> simp +contextual [State.linkDiscard_frame _ _]
  have hcause (t : State) : (t.setCauseRing x 128#16).Follows t :=
      by constructor <;> simp +contextual [State.setCauseRing_frame _ _ _]
  have hback (t : State) : t.restoreCauses.Follows t := ⟨by simp [State.restoreCauses_frame _],
      by simp [State.restoreCauses_frame _], fun hm => by simp [hm]⟩
  have hadc (t : State) : (t.adcConfigure x).Follows t :=
    ⟨by simp [State.adcConfigure_frame _ _], by simp [State.adcConfigure_frame _ _], fun hm => by simp [State.adcConfigure,
        hm]⟩
  have hin (t : State) (n : Fin 16) : (t.restartInput n).Follows t :=
      by constructor <;> simp +contextual [State.restartInput_frame _ _]
  have hend (t : State) : (((((t.resetGuards x).clearLive (ringSlot x 1)).clearLive (ringSlot x 4)).listenFromConfig x).refreshRing x 0).Follows t :=
      by
    constructor <;> simp +contextual [State.resetGuards_frame _ _, State.clearLive_frame _ _,
        State.listenFromConfig_frame _ _,
      State.refreshRing_frame _ _ _]
  unfold execRingConfigConfirm
  refine .ok <| .whenDo ?_
  extract_lets s1 s2 s3' src s3 s4
  refine .ite (hbad s) ((hend _).trans ?_)
  have h2 : s2.Follows s := .ite ((hcause _).trans (s.modRing_follows x _)) (s.modRing_follows x _)
  have h3 : s3.Follows s := .ite (.trans (t := s3') (.of_parts rfl rfl rfl) ((hback s2).trans h2)) h2
  refine .trans (t := s3.adcConfigure x) ?_ ((hadc s3).trans h3)
  exact .forEach fun n t => (State.modChan_follows _ n _).trans (hin t n)

theorem execLinkUp_answers (x : RingId) (s : State) : s.Answers (execLinkUp x s) := by
  have hclears (t : State) : (t.clearReported x).Follows t := by constructor <;> simp +contextual [State.clearReported_frame _ _]
  have hraise (t : State) (k : Fin 256) : (t.raiseLive k).Follows t := by constructor <;> simp +contextual [State.raiseLive_frame _ _ _]
  have hclear (t : State) (k : Fin 256) : (t.clearLive k).Follows t := by constructor <;> simp +contextual [State.clearLive_frame _ _]
  have hdrop (t : State) : (t.reportDropped x).Follows t := by constructor <;> simp +contextual [State.reportDropped_frame _ _]
  have hlatch (t : State) : (t.tellLatches x).Follows t := by constructor <;> simp +contextual [State.tellLatches_frame _ _]
  have htell (t : State) : ((t.tellPlugs x).tellTaps x).Follows t := by
    constructor <;> simp +contextual [State.tellPlugs_frame _ _, State.tellTaps_frame _ _]
  unfold execLinkUp
  refine .ok <| .whenDo ?_
  extract_lets wake s1 s2 s3 s4 s5
  have h1 : s1.Follows s := s.modRing_follows x _
  have h2 : s2.Follows s := .ite ((hclears _).trans h1) h1
  have h3 : s3.Follows s := (hclear _ _).trans (.ite h2 ((hraise _ _).trans h2))
  have h4 : s4.Follows s := (hdrop _).trans h3
  have h5 : s5.Follows s := .ite (.trans (.forEach fun n t => t.modChan_follows n _) h4) h4
  exact (htell _).trans (.ite h5 ((hlatch _).trans h5))

theorem execLinkLost_answers (x : RingId) (s : State) : s.Answers (execLinkLost x s) :=
  .ok <| .whenDo <| by constructor <;> simp +contextual [State.loseStatus_frame _ _, State.raiseLive_frame _ _ _,
      State.abandonReleases_frame _ _, State.free_frame _, State.hearQual_frame _ _ _]

theorem execLinkTimeout_answers (x : RingId) (s : State) : s.Answers (execLinkTimeout x s) :=
  .ok <| .whenDo <| by constructor <;> simp +contextual [State.loseStatus_frame _ _, State.setCauseRing_frame _ _ _,
      State.ringReport_frame _ _ _ _ _ _]

theorem execHoldover_answers (x : RingId) (s : State) : s.Answers (execHoldover x s) :=
  .ok <| .whenDo <| by constructor <;> simp +contextual [State.raiseLive_frame _ _ _]

theorem execHostHeartbeatSend_answers (s : State) : s.Answers (execHostHeartbeatSend s) :=
  .ok <| .whenDo <| by constructor <;> simp +contextual [State.sendBeat_frame _ _]

theorem execHostHeartbeatReceive_answers (x : RingId) (good : Bool) (s : State) : s.Answers (execHostHeartbeatReceive x good s) := by
  unfold execHostHeartbeatReceive
  dsimp only
  split
  · exact .ok (.refl s)
  · exact .ok <| .whenDo <| by constructor <;> simp +contextual [State.takeGate_frame _ _ _, State.takeToggle_frame _ _ _,
      State.ringDiscard_frame _ _]

theorem execRingHeartbeatSend_answers (x : RingId) (s : State) : s.Answers (execRingHeartbeatSend x s) :=
  .ok <| .whenDo <| by constructor <;> simp +contextual

theorem execRingHeartbeatReceive_answers (x : RingId) (good : Bool) (s : State) : s.Answers (execRingHeartbeatReceive x good s) :=
  .ok <| .whenDo <| by constructor <;> simp +contextual [State.linkDiscard_frame _ _, State.clearLive_frame _ _,
      State.reportDropped_frame _ _]

theorem execRingResetCommand_answers (x : RingId) (s : State) : s.Answers (execRingResetCommand x s) :=
  .ok <| .whenDo <| by constructor <;> simp +contextual [State.ringReceive_frame _ _]

theorem execLinkCommandFrame_answers (x : RingId) (good : Bool) (s : State) : s.Answers (execLinkCommandFrame x good s) :=
  .ok <| .whenDo <| by constructor <;> simp +contextual [State.ringReceive_frame _ _, State.ringDiscard_frame _ _]

theorem execLinkCmdRetry_answers (x : RingId) (s : State) : s.Answers (execLinkCmdRetry x s) := by
  unfold execLinkCmdRetry
  refine .ok ?_
  split
  · exact .refl s
  · exact .whenDo <| .ite (by constructor <;> simp +contextual [State.raise_frame _ _]) (s.modRing_follows x _)

theorem execSafePathFrame_answers (x : RingId) (good : Bool) (s : State) : s.Answers (execSafePathFrame x good s) := by
  unfold execSafePathFrame
  refine .ok ?_
  split
  · exact .refl s
  · exact .whenDo <| by constructor <;> simp +contextual [State.setCause_frame _ _ _, State.ringDiscard_frame _ _]

theorem execRingFaultReport_answers (x : RingId) (good : Bool) (s : State) : s.Answers (execRingFaultReport x good s) := by
  unfold execRingFaultReport
  refine .ok ?_
  split
  · exact .refl s
  · exact .whenDo <| by constructor <;> simp +contextual [State.takeReport_frame _ _ _, State.linkDiscard_frame _ _]

theorem execAcceptedChangeArrival_answers (x : RingId) (good : Bool) (s : State) : s.Answers (execAcceptedChangeArrival x good s) := by
  unfold execAcceptedChangeArrival
  refine .ok ?_
  split
  · exact .refl s
  · exact .whenDo <| by constructor <;> simp +contextual [State.takeMessage_frame _ _ _, State.linkDiscard_frame _ _]

theorem execScrubUnit_answers (o : ScrubObs) (s : State) : s.Answers (execScrubUnit o s) :=
  .ok <| .whenDo <| by constructor <;> simp +contextual [State.scrubFind_frame _ _, State.scrubNext_frame _]

theorem State.relocateSector_follows (s : State) (l : Fin 216) (o : RelocObs) : (s.relocateSector l o).Follows s := by
  constructor <;> simp +contextual [State.relocateSector, State.setWear_frame _ _, State.calibChanged_frame _,
    State.caughtUp_frame _ _]

theorem execSectorRelocation_answers (l : Fin 216) (o : RelocObs) (s : State) : s.Answers (execSectorRelocation l o s) :=
  .ok <| .whenDo <| s.relocateSector_follows l o

theorem execWearExchange_answers (l : Fin 216) (s : State) : s.Answers (execWearExchange l s) :=
  .ok <| .whenDo <| by constructor <;> simp +contextual [State.setWear_frame _ _, State.calibChanged_frame _,
      State.caughtUp_frame _ _]

theorem State.slotCompared_follows (s : State) (n : Bool) : (s.slotCompared n).Follows s := by
  constructor <;> simp +contextual [State.slotCompared, State.refreshFails_frame _ _]

theorem State.endRefresh_follows (s : State) : s.endRefresh.Follows s := by
  constructor <;> simp +contextual [State.endRefresh, State.caughtUp_frame _ _]

theorem State.refreshPage_follows (s : State) (weak : Bool) : (s.refreshPage weak).Follows s := by
  unfold State.refreshPage
  exact .ite (.refl s) (.ite ((State.relocateSector_follows _ _ _).trans (.of_parts rfl rfl rfl)) (.of_parts rfl rfl rfl))

theorem execRefreshUnit_answers (o : RefreshObs) (s : State) : s.Answers (execRefreshUnit o s) :=
  .ok <| .whenDo <| by
    cases o with
    | page weak => exact s.refreshPage_follows weak
    | crcStart n => exact .ite (.refl s) (.of_parts rfl rfl rfl)
    | crcEnd n => exact .ite (.refl s) ((State.slotCompared_follows _ n).trans (.of_parts rfl rfl rfl))
    | passEnd => exact .whenDo s.endRefresh_follows

theorem execTrimReference_answers (s : State) : s.Answers (execTrimReference s) := by
  unfold execTrimReference
  refine .ok ?_
  split
  · exact .refl s
  · exact .whenDo <| by constructor <;> simp +contextual [State.measureRef_frame _ _ _ _, State.caughtUp_frame _ _]

theorem execSyncLost_answers (s : State) : s.Answers (execSyncLost s) :=
  .ok <| .whenDo <| by constructor <;> simp +contextual [State.raiseLive_frame _ _ _, State.judgeSource_frame _]

theorem execHostMarkExpiry_answers (s : State) : s.Answers (execHostMarkExpiry s) :=
  .ok <| .whenDo <| by constructor <;> simp +contextual [State.unlock_frame _]

theorem execSyncOutputPulse_answers (s : State) : s.Answers (execSyncOutputPulse s) :=
  .ok <| .whenDo <| by constructor <;> simp +contextual

theorem execChTrim_answers (n : Fin 16) (s : State) : s.Answers (execChTrim n s) :=
  .ok <| .whenDo <| by constructor <;> simp +contextual [State.free_frame _, State.caughtUp_frame _ _]

theorem execTlmUpdate_answers (o : TlmObs) (s : State) : s.Answers (execTlmUpdate o s) := by
  have hmod (t : State) (f : Bg → Bg) : (t.modBg f).Follows t := .of_parts rfl rfl rfl
  have hend (t : State) : ((t.caughtUp 7).settleTask 1).Follows t :=
      by constructor <;> simp +contextual [State.caughtUp_frame _ _, State.settleTask_frame _ _]
  exact .ok <| .whenDo <| (hend _).trans ((State.Follows.forEach fun _ t => hmod t _).trans (hmod s _))

theorem execBgBehind_answers (t : Fin 8) (s : State) : s.Answers (execBgBehind t s) :=
  .ok <| .whenDo <| by constructor <;> simp +contextual [State.fallBehind_frame _ _]

theorem execRetentionBegin_answers (s : State) : s.Answers (execRetentionBegin s) := by
  refine .ok <| .whenDo ?_
  dsimp only
  split
  · constructor <;> simp +contextual [State.wakeNow_frame _ _ _]
  · exact .of_parts rfl rfl rfl

theorem execCellarTickMark_answers (s : State) : s.Answers (execCellarTickMark s) :=
  .ok <| .whenDo <| by constructor <;> simp +contextual

theorem execInternalWake_answers (s : State) : s.Answers (execInternalWake s) :=
  .ok <| .whenDo <| by constructor <;> simp +contextual

theorem State.wakeRefresh_follows (s : State) : s.wakeRefresh.Follows s := by
  have hslot (t : State) (n : Bool) : (if t.bg.refreshCrc.getLsbD (b2n n) then t else t.slotCompared n).Follows t :=
    .ite (.refl t) (t.slotCompared_follows n)
  unfold State.wakeRefresh
  exact .ite (.of_parts rfl rfl rfl) ((State.endRefresh_follows _).trans ((hslot _ _).trans (hslot _ _)))

theorem State.endWakePass_follows (s : State) : s.endWakePass.Follows s := by
  constructor <;> simp +contextual [State.endWakePass, State.scrubNext_frame _]

theorem execInternalWakeEnd_answers (s : State) : s.Answers (execInternalWakeEnd s) := by
  refine .ok <| .whenDo <| .trans ?_ ((State.wakeRefresh_follows _).trans s.endWakePass_follows)
  constructor <;> simp +contextual [State.periodicCommit_frame _]

theorem execRunReturn_answers (s : State) : s.Answers (execRunReturn s) :=
  .ok <| .whenDo <| by constructor <;> simp +contextual [State.returnRun_frame _ _]

theorem execSyncEdge_answers (s : State) : s.Answers (execSyncEdge s) :=
  .ok <| .whenDo <| by constructor <;> simp +contextual [State.wake_frame _ _ _, State.filtEdge_frame _,
      State.syncReference_frame _]

theorem execWake_answers (o : WakeObs) (s : State) : s.Answers (execWake o s) :=
  .ok <| .whenDo <| by
    cases o with
    | csn p mode3 => exact .whenDo <| by constructor <;> simp +contextual [State.cellarFrame_frame _ _ _]
    | channel n => exact .whenDo <| by constructor <;> simp +contextual [State.wake_frame _ _ _]
    | sync => exact .whenDo <| by constructor <;> simp +contextual [State.wake_frame _ _ _]

theorem execResponseReady_answers (p : PortId) (s : State) : s.Answers (execResponseReady p s) :=
  .ok <| .whenDo <| by constructor <;> simp +contextual [State.complete_frame _ _]

theorem execResponseRetire_answers (t : Fin 64) (s : State) : s.Answers (execResponseRetire t s) := by
  unfold execResponseRetire
  refine .ok ?_
  split
  · exact .whenDo <| .of_parts rfl rfl rfl
  · exact .refl s

theorem execPortRevert_answers (p : PortId) (mode3 : Bool) (s : State) : s.Answers (execPortRevert p mode3 s) :=
  .ok <| .whenDo <| by constructor <;> simp +contextual [State.csFall_frame _ _ _, State.wake_frame _ _ _]

theorem execFetch_answers (e : Env) (_a : Addr) (_w : Word) (whole : Bool) (s : State) : s.Answers (execFetch e _a _w whole s) :=
  .ok <| by constructor <;> simp +contextual [State.fetch_frame _ _ _]

theorem execMirror_answers (b : List Byte) (s : State) : s.Answers (execMirror b s) :=
  .ok <| .onFrame fun t => by constructor <;> simp +contextual [State.takeMirror_frame _ _]

theorem execFabricStepTick_answers (s : State) : s.Answers (execFabricStepTick s) :=
  .ok <| .ite (by constructor <;> simp +contextual [State.tickNow_frame _]) (.whenDo ((State.pairSync_follows _).trans
    (by constructor <;> simp +contextual [State.takeWanted_frame _])))

theorem execActivationBoundary_answers (s : State) : s.Answers (execActivationBoundary s) := by
  unfold execActivationBoundary
  refine .ok ?_
  split
  · exact .whenDo <| by constructor <;> simp +contextual [State.activate_frame _ _]
  · exact .refl s

theorem execStartActivation_answers (s : State) : s.Answers (execStartActivation s) := by
  unfold execStartActivation
  refine .ok ?_
  split
  · exact .whenDo <| by constructor <;> simp +contextual [State.activate_frame _ _]
  · exact .refl s

theorem execPowerUpStart_answers (tmode : Bool) (s : State) : s.Answers (execPowerUpStart tmode s) :=
  .ok <| .whenDo <| by constructor <;> simp +contextual [State.beginStart_frame _ _]

theorem execHostStartVhOk_answers (s : State) : s.Answers (execHostStartVhOk s) :=
  .ok <| .whenDo <| by constructor <;> simp +contextual [State.report_frame _ _ _ _ _ _, State.startSources_frame _]

theorem execHostPortsAnswer_answers (s : State) : s.Answers (execHostPortsAnswer s) :=
  .ok <| .whenDo <| by constructor <;> simp +contextual [State.loaderStart_frame _ _]

theorem execResetN_answers (s : State) : s.Answers (execResetN s) := by
  refine .ok <| .whenDo ?_
  dsimp only
  split
  · constructor <;> simp +contextual [State.sendAllSafe_frame _, State.sessionAborted_frame _, State.loaderCut_frame _,
      State.startCommit_frame _, State.stopPair_frame _]
  · constructor <;> simp +contextual [State.sendAllSafe_frame _, State.startCommit_frame _]
  · constructor <;> simp +contextual [State.halt_frame _ _]
  · constructor <;> simp +contextual [State.halt_frame _ _]
  · exact .of_parts rfl rfl rfl
  · exact .of_parts rfl rfl rfl
  · exact .of_parts rfl rfl rfl

theorem execResetNRelease_answers (tmode vhPor : Bool) (s : State) : s.Answers (execResetNRelease tmode vhPor s) :=
  .ok <| .whenDo <| by constructor <;> simp +contextual [State.leaveReset_frame _ _ _]

theorem execVhPfFall_answers (s : State) : s.Answers (execVhPfFall s) :=
  .ok <| .whenDo <| by constructor <;> simp +contextual [State.startCommit_frame _]

theorem execPowerFailCommitDone_answers (tmode vhPor : Bool) (s : State) : s.Answers (execPowerFailCommitDone tmode vhPor s) :=
  .ok <| .whenDo <| by constructor <;> simp +contextual [State.powerCommit_frame _, State.halt_frame _ _,
      State.leaveReset_frame _ _ _]

theorem execVhDipRecovery_answers (s : State) : s.Answers (execVhDipRecovery s) :=
  .ok <| .whenDo <| by constructor <;> simp +contextual [State.event_frame _ _ _ _ _ _]

theorem execVhBor_answers (s : State) : s.Answers (execVhBor s) :=
  .ok <| .whenDo <| by constructor <;> simp +contextual [State.sendAllSafe_frame _, State.halt_frame _ _]

theorem execVioLost_answers (s : State) : s.Answers (execVioLost s) :=
  .ok <| .whenDo <| by constructor <;> simp +contextual [State.raiseLive_frame _ _ _]

theorem execVioReturn_answers (s : State) : s.Answers (execVioReturn s) :=
  .ok <| .whenDo <| by constructor <;> simp +contextual [State.clearLive_frame _ _]

/-- A host frame, whatever it asks. -/
theorem State.submit_follows (s : State) (f : HostFrame) : (s.submit f).Follows s := by
  constructor <;> simp +contextual [State.submit_frame _ _]




/-- Every command answers a next state, with the queue and the clock as they were and the cellar store in its canonical form. -/
theorem exec_answers (c : Instr) (s : State) : s.Answers (exec c s) :=
  match c with
  | .nop .. | .hello .. | .read .. | .write .. | .statusClear .. | .pop .. | .popBatch .. | .release .. | .unknownOp ..
  | .timeMark .. | .caltagStage .. | .caltagCommit .. | .imgOpen .. | .imgWdata .. | .imgClose .. | .imgAbort .. | .activate ..
  | .claimQuery .. | .fabHsigWrite .. | .fabHsigset .. | .fabHsigclr .. | .fabHsigpls .. | .fabSel .. | .fabWin .. | .fabApply ..
  | .fabStepcfg .. | .functionChange .. | .modeParamWrite .. | .inputParamWrite .. | .diCountWrite .. | .doCmdWrite ..
  | .doDutyWrite .. | .shedEnOff .. | .anSetWrite .. | .anCmdWrite .. | .capZero .. | .capSpan .. | .zsClear .. | .trimWrite ..
  | .svcArm .. | .fskTx .. | .fskRxRead .. | .reseed .. | .adcEntryWrite .. | .adcRefcfgWrite .. | .adcRotcfgWrite ..
  | .filtChnCfgWrite .. | .filtCfgWrite .. | .thresholdWrite .. | .filtSyncGo .. | .filtSyncArm .. | .wheelFlush ..
  | .wheelProdWrite .. | .fltRelease .. | .wdKick .. | .rearm .. | .fltWdCfgWrite .. | .injRaise .. | .injClear .. | .injPulse ..
  | .fltInjcfgWrite .. | .fltReactWrite .. | .fltChsafeWrite .. | .recClear .. | .jnlClear .. | .cursorWrite ..
  | .replayTrigger .. | .replayErase .. | .replayModeWrite .. | .rerun .. | .abortRerun .. | .seal .. | .rplXdata ..
  | .chkStart .. | .chkScan .. | .chkAbort .. | .chkData .. | .chkRunWrite .. | .pairSwap .. | .pairRelease .. | .requalify ..
  | .runRequest .. | .quietRequest .. | .cellarRequest .. => .ok (s.submit_follows _)
  | .powerUpStart tmode => execPowerUpStart_answers tmode s
  | .hostStartVhOk => execHostStartVhOk_answers s
  | .hostPortsAnswer => execHostPortsAnswer_answers s
  | .startActivation => execStartActivation_answers s
  | .resetN => execResetN_answers s
  | .vhPfFall => execVhPfFall_answers s
  | .powerFailCommitDone tmode vhPor => execPowerFailCommitDone_answers tmode vhPor s
  | .vhDipRecovery => execVhDipRecovery_answers s
  | .vhBor => execVhBor_answers s
  | .vioLost => execVioLost_answers s
  | .vioReturn => execVioReturn_answers s
  | .vfUvloRise x => execVfUvloRise_answers x s
  | .ringStartDone x => execRingStartDone_answers x s
  | .linkUp x => execLinkUp_answers x s
  | .ringResetCommand x => execRingResetCommand_answers x s
  | .ringConfigConfirm x good => execRingConfigConfirm_answers x good s
  | .vfUvloFall x => execVfUvloFall_answers x s
  | .ringPor x => execRingPor_answers x s
  | .hostHeartbeatSend => execHostHeartbeatSend_answers s
  | .hostHeartbeatReceive x good => execHostHeartbeatReceive_answers x good s
  | .ringHeartbeatSend x => execRingHeartbeatSend_answers x s
  | .ringHeartbeatReceive x good => execRingHeartbeatReceive_answers x good s
  | .linkLost x => execLinkLost_answers x s
  | .linkTimeout x => execLinkTimeout_answers x s
  | .linkCommandFrame x good => execLinkCommandFrame_answers x good s
  | .linkCmdRetry x => execLinkCmdRetry_answers x s
  | .safePathFrame x good => execSafePathFrame_answers x good s
  | .holdover x => execHoldover_answers x s
  | .ringFaultReport x good => execRingFaultReport_answers x good s
  | .acceptedChangeArrival x good => execAcceptedChangeArrival_answers x good s
  | .fetch e a w whole => execFetch_answers e a w whole s
  | .responseReady p => execResponseReady_answers p s
  | .responseRetire t => execResponseRetire_answers t s
  | .portRevert p mode3 => execPortRevert_answers p mode3 s
  | .slotEraseDone fails => execSlotEraseDone_answers fails s
  | .verifyDone => execVerifyDone_answers s
  | .stagingAck x good => execStagingAck_answers x good s
  | .activationBoundary => execActivationBoundary_answers s
  | .fabricStepTick => execFabricStepTick_answers s
  | .evaluationComplete tenNs => execEvaluationComplete_answers tenNs s
  | .debounceExpiry n partner seen pad lead => execDebounceExpiry_answers n partner seen pad lead s
  | .couplingHoldExpiry n => execCouplingHoldExpiry_answers n s
  | .chatterBlockEnd n => execChatterBlockEnd_answers n s
  | .wettingPulseStart n => execWettingPulseStart_answers n s
  | .wettingPulseEnd n pad => execWettingPulseEnd_answers n pad s
  | .wetRepeat n => execWetRepeat_answers n s
  | .countEdge n o => execCountEdge_answers n o s
  | .countDelivery n good => execCountDelivery_answers n good s
  | .openWire n => execOpenWire_answers n s
  | .reversed n => execReversed_answers n s
  | .overrange n => execOverrange_answers n s
  | .diagnosticClear d => execDiagnosticClear_answers d s
  | .pwmPeriodStart n => execPwmPeriodStart_answers n s
  | .inrushEnd n limiting => execInrushEnd_answers n limiting s
  | .overcurrent n => execOvercurrent_answers n s
  | .shortGnd n => execShortGnd_answers n s
  | .offBlankEnd n => execOffBlankEnd_answers n s
  | .shortVf n reverse => execShortVf_answers n reverse s
  | .openLoadOn n => execOpenLoadOn_answers n s
  | .openLoadOff n => execOpenLoadOff_answers n s
  | .chThermal n => execChThermal_answers n s
  | .thermalRetry n => execThermalRetry_answers n s
  | .tempWarn x hot => execTempWarn_answers x hot s
  | .ringThermal x => execRingThermal_answers x s
  | .gangImbalance n => execGangImbalance_answers n s
  | .vfLow x => execVfLow_answers x s
  | .vfLowClear x => execVfLowClear_answers x s
  | .ringOverload x high => execRingOverload_answers x high s
  | .ringOverloadLatch x => execRingOverloadLatch_answers x s
  | .ringStepTick x o => execRingStepTick_answers x o s
  | .tapMoveUp n o => execTapMoveUp_answers n o s
  | .tapOverload x rail o => execTapOverload_answers x rail o s
  | .tapsRegulated x rails => execTapsRegulated_answers x rails s
  | .t3Availability x up o => execT3Availability_answers x up o s
  | .openLoop n => execOpenLoop_answers n s
  | .loadShort n => execLoadShort_answers n s
  | .supplyLimit n => execSupplyLimit_answers n s
  | .aoOverload n => execAoOverload_answers n s
  | .aoOpen n => execAoOpen_answers n s
  | .ne43Diag n => execNe43Diag_answers n s
  | .calibrationPersist n => execCalibrationPersist_answers n s
  | .armTimeout => execArmTimeout_answers s
  | .buttonPress span => execButtonPress_answers span s
  | .buttonRelease span => execButtonRelease_answers span s
  | .buttonCapture span => execButtonCapture_answers span s
  | .ledBlink => execLedBlink_answers s
  | .fskQuietEnd x => execFskQuietEnd_answers x s
  | .fskTxEnd x => execFskTxEnd_answers x s
  | .carrierDetect x => execCarrierDetect_answers x s
  | .carrierRelease x => execCarrierRelease_answers x s
  | .fskCharReceived x d parity framing => execFskCharReceived_answers x d parity framing s
  | .respTimeout x => execRespTimeout_answers x s
  | .touchScan n c failed => execTouchScan_answers n c failed s
  | .plugTest n o => execPlugTest_answers n o s
  | .conversionResult x ix code lost full => execConversionResult_answers x ix code lost full s
  | .rotationEvent x => execRotationEvent_answers x s
  | .sliceHandover x => execSliceHandover_answers x s
  | .sliceCalibrationDone x k pass cal => execSliceCalibrationDone_answers x k pass cal s
  | .adcLate x ix => execAdcLate_answers x ix s
  | .adcFrameBoundary => execAdcFrameBoundary_answers s
  | .refSettled x => execRefSettled_answers x s
  | .refFault x off => execRefFault_answers x off s
  | .syncEdge => execSyncEdge_answers s
  | .wheelAge k => execWheelAge_answers k s
  | .faultRaise h => execFaultRaise_answers h s
  | .faultClear h => execFaultClear_answers h s
  | .releaseAck p x good => execReleaseAck_answers p x good s
  | .wdExpiry => execWdExpiry_answers s
  | .collectorMismatch index => execCollectorMismatch_answers index s
  | .safePathCheck x => execSafePathCheck_answers x s
  | .injPulseEnd k m => execInjPulseEnd_answers k m s
  | .eventReport code o p1 p2 => execEventReport_answers code o p1 p2 s
  | .recordWritten => execRecordWritten_answers s
  | .tailCacheCommit => execTailCacheCommit_answers s
  | .periodicCommit => execPeriodicCommit_answers s
  | .replayEraseDone => execReplayEraseDone_answers s
  | .rerunFrame => execRerunFrame_answers s
  | .scanUnitDone u bad => execScanUnitDone_answers u bad s
  | .tzHeartbeatSend => execTzHeartbeatSend_answers s
  | .heartbeat b => execHeartbeat_answers b s
  | .qualSend => execQualSend_answers s
  | .qual b => execQual_answers b s
  | .mirror b => execMirror_answers b s
  | .mirrorResend => execMirrorResend_answers s
  | .ack a needFull => execAck_answers a needFull s
  | .epoch b => execEpoch_answers b s
  | .swapReq => execSwapReq_answers s
  | .swapGo number idle => execSwapGo_answers number idle s
  | .swapDone => execSwapDone_answers s
  | .swapDoneTimeout idle => execSwapDoneTimeout_answers idle s
  | .tightropeToggle => execTightropeToggle_answers s
  | .tlQualChange up idle => execTlQualChange_answers up idle s
  | .sourceCollapse => execSourceCollapse_answers s
  | .tightropeHbLost port => execTightropeHbLost_answers port s
  | .trapezeLost => execTrapezeLost_answers s
  | .staleLinkFail => execStaleLinkFail_answers s
  | .mirrorGap => execMirrorGap_answers s
  | .listenTimeExpiry idle => execListenTimeExpiry_answers idle s
  | .takeoverDelayExpiry idle => execTakeoverDelayExpiry_answers idle s
  | .claimTimeout port => execClaimTimeout_answers port s
  | .backoffExpiry idle => execBackoffExpiry_answers idle s
  | .driveGateTimeout x => execDriveGateTimeout_answers x s
  | .scrubUnit o => execScrubUnit_answers o s
  | .refreshUnit o => execRefreshUnit_answers o s
  | .sectorRelocation l o => execSectorRelocation_answers l o s
  | .wearExchange l => execWearExchange_answers l s
  | .trimReference => execTrimReference_answers s
  | .chTrim n => execChTrim_answers n s
  | .tlmUpdate o => execTlmUpdate_answers o s
  | .syncOutputPulse => execSyncOutputPulse_answers s
  | .syncLost => execSyncLost_answers s
  | .retentionBegin => execRetentionBegin_answers s
  | .cellarTickMark => execCellarTickMark_answers s
  | .internalWake => execInternalWake_answers s
  | .internalWakeEnd => execInternalWakeEnd_answers s
  | .wake o => execWake_answers o s
  | .runReturn => execRunReturn_answers s
  | .resetNRelease tmode vhPor => execResetNRelease_answers tmode vhPor s
  | .imageExpanded => execImageExpanded_answers s
  | .tightropeHbReturn => execTightropeHbReturn_answers s
  | .trapezeFrameDiscard => execTrapezeFrameDiscard_answers s
  | .epochSendDone => execEpochSendDone_answers s
  | .swapDue => execSwapDue_answers s
  | .bgBehind t => execBgBehind_answers t s
  | .hostMarkExpiry => execHostMarkExpiry_answers s

end Sys2Proof.Machine
end

section
/-! PROOFS. The step: what it runs, what it keeps, and the queue that is empty (O1 to O5). -/

namespace Sys2Proof.Machine

theorem State.microsecond_follows_cells (s : State) : s.microsecond.cells = s.cells := by
  simp [State.microsecond]

/-- Settles O1. -/
theorem stepRunsTheFrontCommand : Obligations.StepRunsTheFrontCommand := fun _ _ _ => rfl

/-- Settles O2: the Trapeze port alone sends. -/
theorem emptyQueueLetsOneMicrosecondPass : Obligations.EmptyQueueLetsOneMicrosecondPass := by
  intro s hq
  simp only [step, hq, State.microsecond]
  by_cases h : s.tzOn = true
  · simp [h]; rfl
  · simp [h]

/-- Settles O3. -/
theorem everyCommandAnswersANextState : Obligations.EveryCommandAnswersANextState := fun c s =>
  (exec_answers c s).imp fun _ h => h.1

/-- Settles O4. -/
theorem everyCommandKeepsTheQueueAndTheClock : Obligations.EveryCommandKeepsTheQueueAndTheClock := by
  intro c s t h
  obtain ⟨u, hu, hf⟩ := exec_answers c s
  obtain rfl : u = t := by rw [hu] at h; exact Host.Outcome.next.inj h
  exact ⟨hf.pending, hf.clock⟩

/-- Settles O5: a command keeps the canonical form, and so does a microsecond without one. -/
theorem cellarStoreStaysCanonical : Obligations.CellarStoreStaysCanonical := by
  intro s t hm h
  unfold step at h
  split at h
  · obtain rfl := Host.Outcome.next.inj h
    rwa [State.microsecond_follows_cells]
  · obtain ⟨u, hu, hf⟩ := exec_answers _ _
    rw [hu] at h
    obtain rfl := Host.Outcome.next.inj h
    exact hf.cells hm

end Sys2Proof.Machine
end

section
/-! PROOFS. The state at reset (O7, O9), and the tickets that a service capture does not find (O6). -/

namespace Sys2Proof.Machine

/-- Settles O7. -/
theorem resetMeetsTheInvariants : Obligations.ResetMeetsTheInvariants := by
  refine ⟨rfl, ?_, ?_⟩
  · intro p _
    cases p <;> exact ⟨List.nodup_nil, fun t ht => absurd ht (by simp [State.reset, Port.requestTickets, State.port, Port.reset])⟩
  · decide

/-- Settles O9: every value is read off the reset state. -/
theorem resetGivesTheMapsTheirResetValues : Obligations.ResetGivesTheMapsTheirResetValues := by
  unfold Obligations.ResetGivesTheMapsTheirResetValues
  refine ⟨rfl, rfl, ?_, ?_, rfl, rfl, ?_, rfl, rfl, rfl, rfl, rfl, rfl, rfl, rfl, ?_⟩
  · decide
  · decide
  · decide
  · decide

/-- Every ticket is in EXEC: two each of HP1, Trapeze and the service port, and the rest of HP0. -/
def ticketsTaken : Vector Ticket 64 :=
  Vector.ofFn fun i : Fin 64 => ⟨.exec (if i.1 < 58 then .hp0 else if i.1 < 60 then .hp1 else if i.1 < 62 then .trapeze else .service) false, none⟩

/-- A request of HP0 on ticket 0. -/
def ticketRequest : Request := ⟨0, opRead, 0#24, 0#8, 0#16, 0#32, 0#32, none, none⟩

/-- A channel whose latest reading is 0. -/
def chanRead : Chan := { Chan.reset with an := { Analog.reset with reads := [(5000000, 0)] } }

/-- A block that runs with no free ticket, ticket 0 in execution for HP0, and the ZERO button held for 3 s. -/
def ticketsOut : State :=
  { wRun with
    tickets := ticketsTaken
    ports := tmod wRun.ports (pix .hp0) fun q => { q with executing := some (ticketRequest, mkResponse ticketRequest .done) }
    chans := Vector.replicate 16 chanRead
    svc := { wRun.svc with zeroHeld := true, zeroAt := some 0 }
    pending := [.buttonCapture false] }

theorem ticketsOut_sound : ticketsOut.TicketsSound := by
  refine ⟨?_, by decide⟩
  intro p _
  cases p
  · decide
  · decide

theorem ticketsOut_step : ∃ t, step ticketsOut = .next t ∧ (0 : Fin 64) ∈ (t.port .hp0).requestTickets ∧ (t.tickets[0]).execFor .hp0 = false :=
  ⟨_, rfl, by decide +kernel, by decide +kernel⟩

/-- Refutes O6: where no ticket is free, a capture of the service port takes ticket 0 from the request that holds it, and frees it. -/
theorem not_ticketGuaranteeIsKept : ¬ Obligations.TicketGuaranteeIsKept := by
  intro h
  obtain ⟨t, ht, hmem, hfree⟩ := ticketsOut_step
  have := ((h _ _ ticketsOut_sound ht).1 .hp0 (by simp)).2 0 hmem
  exact absurd this (by simp [portMaster, hfree])

end Sys2Proof.Machine
end

section
/-! PROOFS. An address that reads as a register is that register's own (O8). -/

namespace Sys2Proof.Machine

/-- A register found by its offset has that offset. -/
theorem off_of_find {α : Type} {l : List α} {off : α → Nat} {o : Nat} {q : α} (h : l.find? (fun r => off r == o) = some q) : off q = o := by
  simpa using List.find?_some h

theorem toIdx_val {k v : Nat} [NeZero k] (h : v < k) : (toIdx k v).1 = v := Nat.mod_eq_of_lt h

theorem ringIx_ringAt {v : Nat} (h : v < 2) : ringIx (ringAt v) = v := by
  obtain rfl | rfl : v = 0 ∨ v = 1 := by omega
  all_goals rfl

theorem portIx_portAt {v : Nat} (h : v < 2) : portIx (portAt v) = v := by
  obtain rfl | rfl : v = 0 ∨ v = 1 := by omega
  all_goals rfl

/-- What a block's lookup by offset gives is the register whose address is the block's base and that offset. -/
theorem addr_of_block {α : Type} {l : List α} {off : α → Nat} {mk : α → Reg} {o base : Nat} {r : Reg}
    (h : (l.find? (fun q => off q == o)).map mk = some r) (hmk : ∀ q, (mk q).addrNat = base + off q) : r.addrNat = base + o := by
  obtain ⟨q, hq, rfl⟩ := Option.map_eq_some_iff.mp h
  rw [hmk, off_of_find hq]

theorem decodeLow_addr {a : Nat} {r : Reg} (h : decodeLow a = some r) : r.addrNat = a := by
  unfold decodeLow at h
  split_ifs at h with h1 h2 h3 h4 h5 h6 h7 h8
  · have := addr_of_block (base := 0) h (fun q => by simp [Reg.addrNat]); omega
  · have hp := portIx_portAt (v := (a - 0x1000) / 0x100) (by omega)
    have := addr_of_block h (fun q => rfl)
    omega
  · obtain rfl := Option.some.inj h; exact h3.symm
  · obtain rfl := Option.some.inj h; exact h4.symm
  · have := addr_of_block h (fun q => rfl); omega
  · have := addr_of_block h (fun q => rfl); omega
  · have := addr_of_block h (fun q => rfl); omega

theorem decodeAdc_addr {x : RingId} {o : Nat} {r : Reg} (h : decodeAdc x o = some r) : r.addrNat = 0x20000 + 0x1000 * ringIx x + o := by
  unfold decodeAdc at h
  split_ifs at h with h1 h2 h3 h4
  · obtain rfl := Option.some.inj h
    have := toIdx_val (k := 64) (v := (o - 0x100) / 4) (by omega)
    simp only [Reg.addrNat]; omega
  · obtain rfl := Option.some.inj h
    have := toIdx_val (k := 64) (v := (o - 0x200) / 4) (by omega)
    simp only [Reg.addrNat]; omega
  · exact addr_of_block h (fun q => rfl)

theorem decodeFilt_addr {o : Nat} {r : Reg} (h : decodeFilt o = some r) : r.addrNat = 0x24000 + o := by
  unfold decodeFilt at h
  split_ifs at h with h1 h2
  · exact addr_of_block h (fun q => rfl)
  · have hi := toIdx_val (k := 16) (v := (o - 0x100) / 0x40) (by omega)
    have := addr_of_block h (fun q => rfl)
    omega

theorem decodeFlt_addr {o : Nat} {r : Reg} (h : decodeFlt o = some r) : r.addrNat = 0x40000 + o := by
  unfold decodeFlt at h
  split_ifs at h with h1 h2 h3 h4 h5 h6
  · obtain rfl := Option.some.inj h
    have := toIdx_val (k := 16) (v := (o - 0x0C0) / 4) (by omega)
    simp only [Reg.addrNat]; omega
  · obtain rfl := Option.some.inj h
    have := toIdx_val (k := 256) (v := (o - 0x400) / 4) (by omega)
    simp only [Reg.addrNat]; omega
  · obtain rfl := Option.some.inj h
    have := toIdx_val (k := 256) (v := (o - 0x800) / 4) (by omega)
    simp only [Reg.addrNat]; omega
  · exact addr_of_block h (fun q => rfl)

theorem decodeBg_addr {o : Nat} {r : Reg} (h : decodeBg o = some r) : r.addrNat = 0x80000 + o := by
  unfold decodeBg at h
  split_ifs at h with h1 h2 h3
  · obtain rfl := Option.some.inj h
    have := toIdx_val (k := 16) (v := (o - 0x1100) / 8) (by omega)
    simp only [Reg.addrNat]; omega
  · obtain rfl := Option.some.inj h
    have := toIdx_val (k := 16) (v := (o - 0x1100) / 8) (by omega)
    simp only [Reg.addrNat]; omega
  · exact addr_of_block h (fun q => rfl)

/-- The two cases of a branch, one after the other. -/
theorem elim_ite {α : Type} {c P : Prop} [Decidable c] {x y z : α} (h : (if c then x else y) = z) (hx : c → x = z → P) (hy : ¬c → y = z → P) : P := by
  by_cases hc : c
  · exact hx hc ((if_pos hc).symm.trans h)
  · exact hy hc ((if_neg hc).symm.trans h)

theorem decodeHigh_addr {a : Nat} {r : Reg} (h0 : ¬ a < 0x10000) (h : decodeHigh a = some r) : r.addrNat = a := by
  unfold decodeHigh at h
  refine elim_ite h (fun _ h => ?_) fun _ h => ?_
  · have hi := toIdx_val (k := 16) (v := (a - 0x10000) / 0x400) (by omega)
    have := addr_of_block h (fun q => rfl)
    omega
  refine elim_ite h (fun _ h => absurd h (by simp)) fun _ h => ?_
  refine elim_ite h (fun _ h => ?_) fun _ h => ?_
  · have hi := ringIx_ringAt (v := (a - 0x18000) / 0x1000) (by omega)
    have := addr_of_block h (fun q => rfl)
    omega
  refine elim_ite h (fun _ h => absurd h (by simp)) fun _ h => ?_
  refine elim_ite h (fun _ h => ?_) fun _ h => ?_
  · have hi := ringIx_ringAt (v := (a - 0x20000) / 0x1000) (by omega)
    have := decodeAdc_addr h
    omega
  refine elim_ite h (fun _ h => absurd h (by simp)) fun _ h => ?_
  refine elim_ite h (fun _ h => ?_) fun _ h => ?_
  · have := decodeFilt_addr h
    omega
  refine elim_ite h (fun _ h => absurd h (by simp)) fun _ h => ?_
  refine elim_ite h (fun _ h => ?_) fun _ h => ?_
  · have hi := toIdx_val (k := 64) (v := (a - 0x30000) / 0x40) (by omega)
    have := addr_of_block h (fun q => rfl)
    omega
  refine elim_ite h (fun _ h => absurd h (by simp)) fun _ h => ?_
  refine elim_ite h (fun _ h => ?_) fun _ h => ?_
  · have := decodeFlt_addr h
    omega
  refine elim_ite h (fun _ h => ?_) fun _ h => ?_
  · have := addr_of_block h (fun q => rfl)
    omega
  refine elim_ite h (fun _ h => ?_) fun _ h => ?_
  · have := addr_of_block h (fun q => rfl)
    omega
  refine elim_ite h (fun _ h => ?_) fun _ h => ?_
  · have hi := toIdx_val (k := 4) (v := (a - 0x60000) / 0x40) (by omega)
    have := addr_of_block h (fun q => rfl)
    omega
  refine elim_ite h (fun _ h => absurd h (by simp)) fun _ h => ?_
  refine elim_ite h (fun _ h => ?_) fun _ h => ?_
  · have := addr_of_block h (fun q => rfl)
    omega
  refine elim_ite h (fun _ h => absurd h (by simp)) fun _ h => ?_
  refine elim_ite h (fun _ h => ?_) fun _ h => ?_
  · have := decodeBg_addr h
    omega
  refine elim_ite h (fun _ h => absurd h (by simp)) fun _ h => ?_
  refine elim_ite h (fun _ h => ?_) fun _ h => ?_
  · have := addr_of_block h (fun q => rfl)
    omega
  exact absurd h (by simp)

/-- Settles O8: each block's lookup gives the register at its own offset. -/
theorem eachRegisterAnswersAtOneAddress : Obligations.EachRegisterAnswersAtOneAddress := by
  intro a r h
  have hr : r.addrNat = a.toNat := by
    simp only [decodeAddr] at h
    split_ifs at h
    split at h
    · rename_i q hq
      obtain rfl := Target.reg.inj h
      unfold decodeReg at hq
      split_ifs at hq with hlow
      · exact decodeLow_addr hq
      · exact decodeHigh_addr hlow hq
    · exact absurd h (by simp)
  simp [Reg.addr, hr]

end Sys2Proof.Machine
end

section
/-! PROOFS. What a wheel stores and drops under policy STOP, and what FLUSH and an activation leave of it (R324, R326). -/

namespace Sys2Proof.Machine

theorem Wheel.makeRoom_fits {w : Wheel} {need : Nat} (fuel : Nat) (h : w.q.length + need ≤ w.size) : Wheel.makeRoom need fuel w = w := by
  cases fuel with
  | zero => rfl
  | succ n => simp [Wheel.makeRoom, h]

theorem Wheel.incoming_length (q : Wheel) (c : MarkCtx) (x : Entry) : (q.incoming c x).length = if q.needMark c then 2 else 1 := by
  unfold Wheel.incoming
  split <;> rfl

theorem Wheel.store_fits {q : Wheel} {c : MarkCtx} {x : Entry} (clock : Nat) (h : q.q.length + (q.incoming c x).length ≤ q.size) :
    q.store c x clock = { q with q := q.q ++ (q.incoming c x).map (fun y => (y, clock)), lastMark := some c, gapNext := false } := by
  simp [Wheel.store, h, Wheel.makeRoom_fits _ h]

theorem Wheel.store_stopped {q : Wheel} {c : MarkCtx} {x : Entry} (clock : Nat) (hstop : q.overwrite = false)
    (h : q.size < q.q.length + (q.incoming c x).length) :
    q.store c x clock = { q with lost := satInc q.lost, evtLoss := true, lastMark := Option.none, gapNext := true } := by
  simp [Wheel.store, hstop, Nat.not_le.mpr h]

theorem Wheel.needMark_gap {q : Wheel} (c : MarkCtx) (h : q.gapNext = true) : q.needMark c = true := by simp [Wheel.needMark, h]

theorem Wheel.dropOldest_gapNext (q : Wheel) : q.dropOldest.gapNext = q.gapNext := by
  unfold Wheel.dropOldest
  split <;> rfl

theorem Wheel.pop_gapNext {q p : Wheel} {y : Entry} (h : q.pop = some (y, p)) : p.gapNext = q.gapNext := by
  unfold Wheel.pop at h
  split at h
  · cases h
  · split_ifs at h <;> cases h <;> simp [Wheel.dropOldest_gapNext]

theorem Wheel.popEcc_gapNext {q p : Wheel} {y : Entry} (h : q.popEcc = some (y, p)) : p.gapNext = q.gapNext := by
  unfold Wheel.popEcc at h
  split at h
  · exact Wheel.pop_gapNext h
  · cases h
    exact q.dropOldest_gapNext

/-- Settles O50: the places that an entry needs are the length of what it brings, and what the wheel does when they are free or not is one
equation each. -/
theorem stopWheelDropsWhatDoesNotFit : Obligations.StopWheelDropsWhatDoesNotFit := by
  unfold Obligations.StopWheelDropsWhatDoesNotFit
  intro q c x clock hstop
  rw [← q.incoming_length c x]
  refine ⟨fun h => ?_, fun h => ?_, fun hgap => ⟨q.needMark_gap c hgap, ?_, fun y p hp => ?_, fun y p hp => ?_⟩⟩
  · rw [Wheel.store_fits clock h]
    simp only [Wheel.incoming]
    split <;> simp
  · rw [Wheel.store_stopped clock hstop h]
    simp
  · have hmark := q.needMark_gap c hgap
    by_cases h : q.q.length + (q.incoming c x).length ≤ q.size
    · exact .inr (by simp [Wheel.store_fits clock h, Wheel.incoming, hmark, hgap])
    · exact .inl (by simp [Wheel.store_stopped clock hstop (Nat.not_le.mp h)])
  · rw [Wheel.pop_gapNext hp, hgap]
  · rw [Wheel.popEcc_gapNext hp, hgap]

/-- A wheel that holds nothing and owes a MARK with GAP stores that MARK and the entry. -/
theorem Wheel.store_afterGap {q : Wheel} (c : MarkCtx) (x : Entry) (clock : Nat) (hq : q.q = []) (hgap : q.gapNext = true) (ha : q.sizeLog2 ≠ 0) :
    (q.store c x clock).q = [(markEntry c true, clock), (x, clock)] := by
  have hin : q.incoming c x = [markEntry c true, x] := by simp [Wheel.incoming, Wheel.needMark_gap c hgap, hgap]
  have hsize : 2 ≤ q.size := by simpa [Wheel.size] using Nat.pow_le_pow_right (Nat.succ_pos 1) (Nat.one_le_iff_ne_zero.mpr ha)
  rw [Wheel.store_fits clock (by simpa [hin, hq] using hsize), hin, hq]
  rfl

/-- At an activation a wheel whose record has changed is emptied, and owes a MARK with GAP (R326). -/
theorem Wheel.activate_changed {w : Wheel} {old : Option (List Byte)} {r : List Byte} (base : Nat) (ha : w.allocated = true) (hne : old ≠ some r) :
    w.activate old (some r) base = { w.ofRecord r base with gapNext := true } := by
  simp [Wheel.activate, ha, hne]

theorem State.activateWheels_changed {s : State} {old new : List (List Byte)} {k : WheelId} {r : List Byte} (ha : (s.wheel k).allocated = true)
    (hr : new.find? (fun r => u8 r 0 = k.1) = some r) (hne : old.find? (fun r => u8 r 0 = k.1) ≠ some r) :
    (s.activateWheels old new).wheel k = { (s.wheel k).ofRecord r ((((wheelBases new).find? (fun b => b.1 = k.1)).map (·.2)).getD 0) with
      gapNext := true } := by
  simp only [State.activateWheels, State.wheel, Vector.getElem_ofFn]
  rw [hr]
  exact Wheel.activate_changed _ ha hne

/-- The word of a MARK with GAP, as a number: SOURCE 16, KIND 7, the estimated states with GAP, and the epoch. -/
theorem markEntry_toNat (c : MarkCtx) :
    (markEntry c true).toNat = 16 * 2 ^ 59 + 7 * 2 ^ 56 + (b2n c.estA * 8 + b2n c.estB * 4 + 1) * 2 ^ 52 + c.epoch.toNat := by
  have hepoch := c.epoch.isLt
  have hA : b2n c.estA ≤ 1 := by cases c.estA <;> decide
  have hB : b2n c.estB ≤ 1 := by cases c.estB <;> decide
  have hg : b2n true = 1 := rfl
  simp only [markEntry, mkEntry, hg, BitVec.toNat_ofNat]
  omega

theorem markEntry_kind (c : MarkCtx) : entryKind (markEntry c true) = 7 := by
  have hepoch := c.epoch.isLt
  have hA : b2n c.estA ≤ 1 := by cases c.estA <;> decide
  have hB : b2n c.estB ≤ 1 := by cases c.estB <;> decide
  rw [entryKind, markEntry_toNat]
  omega

theorem markEntry_gap (c : MarkCtx) : (markEntry c true).getLsbD 52 = true := by
  have hepoch := c.epoch.isLt
  rw [BitVec.getLsbD, markEntry_toNat, Nat.testBit_eq_decide_div_mod_eq, decide_eq_true_eq]
  omega

theorem bit_setFld_one (w : Word) : bit (setFld w 0 1 1) 0 = true := by
  have hsum : w.toNat / 2 ^ (0 + 1) * 2 ^ (0 + 1) + 1 % 2 ^ 1 * 2 ^ 0 + w.toNat % 2 ^ 0 = 2 ^ 1 * (w.toNat / 2) + 1 := by omega
  rw [bit, setFld, BitVec.getLsbD_ofNat, hsum, Nat.testBit_two_pow_mul_add _ (by omega)]
  simp

/-- The FLUSH of WHLw_CMD, as the write of the register performs it. -/
theorem State.regWrite_flush {u : State} (o : Origin) {k : WheelId} (fall w : Word) (ha : (u.wheel k).allocated = true) :
    u.regWrite o (.whl k .cmd) fall (setFld w 0 1 1) none = (u.flushWheel o k, .done) := by
  simp [State.regWrite, State.whlWrite, guarded, State.wheelOpen, check, ha, bit_setFld_one, firstRefusal]

theorem State.modWheel_congr {s : State} {k : WheelId} {f g : Wheel → Wheel} (h : f (s.wheel k) = g (s.wheel k)) : s.modWheel k f = s.modWheel k g := by
  simp only [State.wheel] at h
  simp only [State.modWheel, tmod, h]

theorem State.wheel_of_wheels {t s : State} (h : t.wheels = s.wheels) (k : WheelId) : t.wheel k = s.wheel k := by simp [State.wheel, h]

/-- Settles O49: FLUSH and the emptying at an activation both leave a wheel that holds nothing and owes a MARK with GAP. -/
theorem flushEmptiesAWheel : Obligations.FlushEmptiesAWheel := by
  unfold Obligations.FlushEmptiesAWheel
  refine ⟨fun e k w s h ha => ?_, fun s k old new r ha hr hsize hne => ?_, fun c => ⟨markEntry_kind c, markEntry_gap c⟩⟩
  · obtain ⟨hanswer, ⟨u, hu, ht⟩, hother⟩ := State.submit_write_sends s e (.whl k .cmd) (setFld w 0 1 1) none _
      (fun u => u.flushWheel (portOrigin e.port) k) .done h (by simp) (State.regWrite_flush _ _ _ ha)
      (State.mirrorWrite_unjournaled _ _ _ (congrArg _ (State.event_journal _ _ _ _ _ _))) rfl
    have hus : u.wheel k = s.wheel k := State.wheel_of_wheels (congrArg State.wheels hu) k
    have hrecd : u.recd = s.recd := by rw [hu]
    have hwheel : (s.submit ⟨opWrite, Reg.addr (.whl k .cmd), setFld w 0 1 1, none, e⟩).wheel k = (s.wheel k).flush := by
      rw [State.wheel_of_wheels (congrArg State.wheels ht) k, ← hus]
      exact State.modWheel_wheel u k Wheel.flush
    refine ⟨_, rfl, hanswer, ?_, ?_, ?_, ?_, ?_, ⟨u, hu, ?_⟩, hother⟩
    · rw [hwheel]; rfl
    · rw [hwheel]; rfl
    · rw [ht, ← hrecd]
      exact State.event_journal _ _ _ _ _ _
    · rw [ht, hu]; rfl
    · intro c x clock
      exact Wheel.store_afterGap c x clock (by rw [hwheel]; rfl) (by rw [hwheel]; rfl) (by rw [hwheel]; simpa [Wheel.allocated, Wheel.flush] using ha)
    · have hmod : u.modWheel k Wheel.flush = u.modWheel k (fun q => { q with
          q := [], head := (s.wheel k).flush.head, lastMark := none, gapNext := true, gapPending := false }) :=
        State.modWheel_congr (by rw [hus]; rfl)
      dsimp only
      rw [hwheel, ← hmod]
      exact ht
  · rw [State.activateWheels_changed ha hr hne]
    exact ⟨rfl, rfl, fun c x clock => Wheel.store_afterGap c x clock rfl rfl (Nat.one_le_iff_ne_zero.mp hsize)⟩

end Sys2Proof.Machine
end

section
/-! PROOFS. An internal wake whose fault record opens a capture over a cellar store that is not in canonical form (R461, R470). -/

namespace Sys2Proof.Machine

/-- The cells of an image of 65 bytes, whose last byte is listed behind a byte of the replay store: a list that is not in canonical form. -/
def outOfOrderCells : Memory :=
  ((List.replicate 12 0#8 ++ [65#8] ++ List.replicate 47 0#8 ++ leBytes 1911279263#32).zipIdx.map (fun c => (c.2, c.1)))
    ++ [(0x80000, 5#8), (64, 0#8)]

/-- A wheel that takes the faults of the host die, has no room, and overwrites nothing. -/
def fullHostWheel : Wheel := { Wheel.reset with sizeLog2 := 1, prod := 0x18400000#32, q := List.replicate 2 (0#64, 0) }

/-- A device whose internal wake ends a scrub pass and a refresh pass: the scrub was behind, its source is live, and a fault opens capture
255, whose number's low byte is that of an erased cell. -/
def wakeEnding : State :=
  ({ wRun with
    pwr.mode := .cellar, pwr.internal := true, bg.scrubDue := true, bg.behind := 1#8, bg.refreshCrc := 2#2
    recd.optBase := 0x400000000000#48, cells := outOfOrderCells, rpl.cfg := 0xF1#32, rpl.nextNo := 255
    img.slots := wRun.img.slots.map (fun k => { k with st := .unchecked }) } : State).modWheel 0 (fun _ => fullHostWheel)
    |>.modSlot (hostSlot 19) (fun f => { f with real := 1#32 })

theorem wakeEnding_due :
    3456 ≤ 3456 * (wakeEnding.opt.toNat - wakeEnding.bg.refreshFrom.toNat) / (max 1 wakeEnding.refreshHours * 1048576) := by decide +kernel

/-- Before the wake ends, image A is compared as good and image B has been compared. -/
theorem wakeEnding_good (n : Bool) :
    wakeEnding.bg.refreshCrc.getLsbD n.toNat = true ∨ (wakeEnding.imgSlot n).st = .empty ∨ wakeEnding.slotCrcGood n = true := by
  cases n
  · exact .inr (.inr (by decide +kernel))
  · exact .inl (by decide +kernel)

/-- The end of the source's fault is lost by the wheel, WHEEL_LOSS opens the capture, the capture's header erases the cell before the image's
last byte, and the image that is now read fails. -/
theorem wakeEnding_fails : ∃ t, exec .internalWakeEnd wakeEnding = .next t ∧ t.bg.slotFail = 1#2 := ⟨_, rfl, by decide +kernel⟩

/-- Refutes O60: the clause on the refresh that an internal wake ends takes the images to be good before the wake ends, and says that none
fails. The comparison comes after the end of the scrub pass, which may open a capture in the replay store: where the list of cells is not in
canonical form (the statement has no premise that it is), the capture's header changes what is read of an image. -/
theorem not_powerModesAreRequestedAndLeft : ¬ Obligations.PowerModesAreRequestedAndLeft := by
  unfold Obligations.PowerModesAreRequestedAndLeft
  intro h
  obtain ⟨-, -, -, -, -, -, -, -, -, -, -, -, -, -, -, -, -, -, hrefresh, -⟩ := h ⟨.hp0, 0xFF#8, 1#8, 0#16, true, true, false, 0⟩ 0#32 wakeEnding
  obtain ⟨t, ht, -, -, -, -, -, hfail, -⟩ := hrefresh wakeEnding_due rfl rfl wakeEnding_good
  obtain ⟨u, hu, hbad⟩ := wakeEnding_fails
  obtain rfl : t = u := Host.Outcome.next.inj (ht.symm.trans hu)
  rw [hbad] at hfail
  exact absurd hfail (by decide +kernel)

end Sys2Proof.Machine
end

section
/-! PROOFS. The scrub pass that an internal wake makes due, and its last unit (R460, R470). -/

namespace Sys2Proof.Machine

/-- A device in an internal wake of CELLAR mode whose scrub pass has its last unit to read. -/
def lastScrub : State :=
  { wRun with
    pwr.mode := .cellar, pwr.retention := true, pwr.internal := true, pwr.internalFrom := 4000000
    bg.scrubDue := true, bg.scrubPos := 5119 }

/-- The last unit of a pass ends what was due of it. -/
theorem lastScrub_ends : ∃ t, exec (.scrubUnit .clean) lastScrub = .next t ∧ t.bg.scrubDue = false := ⟨_, rfl, rfl⟩

/-- Refutes O59: the clause on the last scrub unit lists what it changes of the Carousel and leaves out that the pass which an internal
wake has made due is no longer due, so it says that the pass stays due. -/
theorem not_carouselWorksInUnits : ¬ Obligations.CarouselWorksInUnits := by
  unfold Obligations.CarouselWorksInUnits
  intro h
  obtain ⟨-, hlast, -⟩ := h lastScrub
  obtain ⟨t, ht, hbg, -⟩ := hlast rfl rfl
  obtain ⟨u, hu, hdone⟩ := lastScrub_ends
  obtain rfl : t = u := Host.Outcome.next.inj (ht.symm.trans hu)
  have hdue : t.bg.scrubDue = true := by rw [hbg]; rfl
  exact absurd (hdue.symm.trans hdone) (by decide)

end Sys2Proof.Machine
end

section
/-! PROOFS. The time-out of a swap whose unit has given up its role since GO (R446, R448, R453). -/

namespace Sys2Proof.Machine

/-- A unit that sent GO 1 ms ago and has given up its role since, still without DONE. -/
def releasedAfterGo : State :=
  { wPair with pair.role := .unqualified, pair.uq := 32#10, pair.swap := some ⟨1#32, 1, true, 4999000⟩ }

/-- The time-out ends that swap. -/
theorem releasedAfterGo_ends : ∃ t, exec (.swapDoneTimeout true) releasedAfterGo = .next t ∧ t.pair.swap = none :=
  ⟨_, rfl, by decide +kernel⟩

/-- Refutes O57: the clause on the time-outs that do nothing names every unit that is not SWAPPING. A unit that has given up its role
since GO still has its swap, and the time-out ends it. -/
theorem not_plannedSwapsAndRoleCommands : ¬ Obligations.PlannedSwapsAndRoleCommands := by
  unfold Obligations.PlannedSwapsAndRoleCommands
  intro h
  obtain ⟨-, -, -, -, -, -, -, -, -, hidle, -⟩ := h ⟨.hp0, 0xFF#8, 1#8, 0#16, true, true, false, 0⟩ 0#32 releasedAfterGo
  have hsame := hidle true (.inr (.inr (.inl (by decide))))
  obtain ⟨t, ht, hends⟩ := releasedAfterGo_ends
  obtain rfl : releasedAfterGo = t := Host.Outcome.next.inj (hsame.symm.trans ht)
  exact absurd hends (by decide)

end Sys2Proof.Machine
end

section
/-! PROOFS. A mirrored change that is refused on a unit that has sent GO and is still SWAPPING (R431, R444, R446). -/

namespace Sys2Proof.Machine

/-- A unit that has sent GO and waits for DONE: it leads, and no longer drives. -/
def afterGo : State :=
  { wPair with pair.role := .swapping, pair.standby := true, pair.swap := some ⟨1#32, 1, true, 5000000⟩ }

/-- A mirrored write of a reaction row with a class that no row has. -/
def badRowFrame : List Byte := wMirrorFrame (Reg.addr (.fltReact 0)) 0 3#32 7

/-- The refusal leaves UQ_CAUSE without MIRROR_GAP. -/
theorem afterGo_noGap : ∃ t, exec (.mirror badRowFrame) afterGo = .next t ∧ t.pair.uq.getLsbD 4 = false := ⟨_, rfl, by decide +kernel⟩

/-- Refutes O56: the clause on a refused MIRROR frame says that MIRROR_GAP is set on every unit that does not drive. A unit that is
SWAPPING after GO does not drive, and the refusal sets no cause on a unit that is ACTIVE or SWAPPING. -/
theorem not_trapezeFramesAreSentAndTaken : ¬ Obligations.TrapezeFramesAreSentAndTaken := by
  unfold Obligations.TrapezeFramesAreSentAndTaken
  intro h
  obtain ⟨-, -, -, -, -, -, -, -, -, -, -, -, -, hrefused, -⟩ := h badRowFrame afterGo
  obtain ⟨t, ht, hgap, -⟩ := hrefused 0 (by decide +kernel) rfl (by decide +kernel) (by decide +kernel) (by decide +kernel) (by decide +kernel)
    (.inl (by decide +kernel)) (by decide +kernel) (by decide +kernel) (by decide +kernel)
  obtain ⟨u, hu, hnone⟩ := afterGo_noGap
  obtain rfl : t = u := Host.Outcome.next.inj (ht.symm.trans hu)
  exact absurd (hgap.symm.trans hnone) (by decide)

end Sys2Proof.Machine
end

section
/-! PROOFS. A record of RECORD_OVERFLOW that meets the next one (R376, R377). -/

namespace Sys2Proof.Machine

/-- The oldest staged event is a RECORD_OVERFLOW of one lost event, and one more has been lost since. -/
def overflowAgain : State :=
  { wRun with
    recd.overflow := 1
    recd.staged := [wRun.raisedRecord ⟨hostSlot 14, 0, false, 1#32, false⟩ (wRun.settle (hostSlot 14) 0 wRun.tick).1
      (wRun.settle (hostSlot 14) 0 wRun.tick).2] }

/-- The new RECORD_OVERFLOW finds nothing staged and merges into the record that has just been written. -/
theorem overflowAgain_merges : ∃ t, exec .recordWritten overflowAgain = .next t ∧ t.recd.events.map (·.rep) = [1#16] :=
  ⟨_, rfl, by decide +kernel⟩

/-- Refutes O53: the clause on a record that is written while lost events wait to be reported says that the record is stored as it was
staged. The RECORD_OVERFLOW that it lets through merges into that very record where the two are equal. -/
theorem not_recordsAreKeptCommittedAndCleared : ¬ Obligations.RecordsAreKeptCommittedAndCleared := by
  unfold Obligations.RecordsAreKeptCommittedAndCleared
  intro h
  obtain ⟨-, -, -, -, -, -, -, -, -, hoverflow, -⟩ := h overflowAgain
  obtain ⟨t, ht, hevents, -⟩ := hoverflow _ [] (by decide) rfl (by decide) (by decide) (by decide)
  obtain ⟨u, hu, hmerged⟩ := overflowAgain_merges
  obtain rfl : t = u := Host.Outcome.next.inj (ht.symm.trans hu)
  rw [hevents] at hmerged
  exact absurd hmerged (by decide +kernel)

end Sys2Proof.Machine
end

section
/-! PROOFS. What a release of causes that the mirror does not show sends to a Ring (R347). -/

namespace Sys2Proof.Machine

/-- A release of the safe-path cause of channel 0, on a device with both Rings up, whose mirror shows no cause. -/
theorem release_sendsNamed :
    ∃ t, exec (.fltRelease (wE 1#8) 1#32) wUp = .next t ∧ (t.ring .a).cmdq = [(.release [(0, 1#16)] (some .hp0), 0)] :=
  ⟨_, rfl, by decide +kernel⟩

/-- Refutes O51: the clause on a release to a Ring with its link says that the frame names the causes which the mirror shows among those
of the word. The frame names the causes of the word, whatever the mirror shows. -/
theorem not_sourcesReleasesAndTheWatchdog : ¬ Obligations.SourcesReleasesAndTheWatchdog := by
  unfold Obligations.SourcesReleasesAndTheWatchdog
  intro h
  obtain ⟨-, -, -, -, -, -, -, -, -, -, -, -, -, hlinked, -⟩ := h wUp
  obtain ⟨t, ht, hring, -⟩ := hlinked (wE 1#8) 1#32 0 (by decide +kernel) (by decide) (by decide) (by decide) (by decide)
  obtain ⟨u, hu, hsent⟩ := release_sendsNamed
  obtain rfl : t = u := Host.Outcome.next.inj (ht.symm.trans hu)
  have hcmdq := (congrArg Ring.cmdq hring).symm.trans hsent
  exact absurd hcmdq (by decide +kernel)

end Sys2Proof.Machine
end

section
/-! PROOFS. A word of which one field has been set: its bits and its fields. -/

namespace Sys2Proof.Machine

theorem setFld_low_lt (w : Word) {i n : Nat} (v : Nat) : 2 ^ i * (v % 2 ^ n) + w.toNat % 2 ^ i < 2 ^ (i + n) := by
  have hv : v % 2 ^ n + 1 ≤ 2 ^ n := Nat.mod_lt _ (by positivity)
  have hw : w.toNat % 2 ^ i < 2 ^ i := Nat.mod_lt _ (by positivity)
  calc 2 ^ i * (v % 2 ^ n) + w.toNat % 2 ^ i < 2 ^ i * (v % 2 ^ n + 1) := by rw [Nat.mul_add]; omega
    _ ≤ 2 ^ i * 2 ^ n := Nat.mul_le_mul_left _ hv
    _ = 2 ^ (i + n) := (pow_add ..).symm

/-- The number that a word holds after one of its fields is set: what stands above, the field, what stands below. -/
theorem setFld_toNat (w : Word) {i n : Nat} (v : Nat) (h : i + n ≤ 32) :
    (setFld w i n v).toNat = 2 ^ (i + n) * (w.toNat / 2 ^ (i + n)) + (2 ^ i * (v % 2 ^ n) + w.toNat % 2 ^ i) := by
  have hlow : 2 ^ i * (v % 2 ^ n) + w.toNat % 2 ^ i < 2 ^ (i + n) := setFld_low_lt w v
  have hhigh : w.toNat / 2 ^ (i + n) + 1 ≤ 2 ^ (32 - (i + n)) := by
    refine Nat.div_lt_of_lt_mul ?_
    rw [← pow_add, Nat.add_sub_cancel' h]
    exact w.isLt
  have hsum : 2 ^ (i + n) * (w.toNat / 2 ^ (i + n)) + (2 ^ i * (v % 2 ^ n) + w.toNat % 2 ^ i) < 2 ^ 32 := by
    calc _ < 2 ^ (i + n) * (w.toNat / 2 ^ (i + n) + 1) := by rw [Nat.mul_add]; omega
      _ ≤ 2 ^ (i + n) * 2 ^ (32 - (i + n)) := Nat.mul_le_mul_left _ hhigh
      _ = 2 ^ 32 := by rw [← pow_add, Nat.add_sub_cancel' h]
  have hcomm : w.toNat / 2 ^ (i + n) * 2 ^ (i + n) + v % 2 ^ n * 2 ^ i + w.toNat % 2 ^ i
      = 2 ^ (i + n) * (w.toNat / 2 ^ (i + n)) + (2 ^ i * (v % 2 ^ n) + w.toNat % 2 ^ i) := by ring
  rw [setFld, BitVec.toNat_ofNat, hcomm, Nat.mod_eq_of_lt hsum]

theorem bit_eq_testBit (w : Word) (j : Nat) : bit w j = w.toNat.testBit j := rfl

/-- A bit of a word of which a field has been set. -/
theorem bit_setFld (w : Word) {i n : Nat} (v : Nat) (j : Nat) (h : i + n ≤ 32) :
    bit (setFld w i n v) j = if i ≤ j ∧ j < i + n then v.testBit (j - i) else bit w j := by
  have hw : w.toNat % 2 ^ i < 2 ^ i := Nat.mod_lt _ (by positivity)
  have hlow : 2 ^ i * (v % 2 ^ n) + w.toNat % 2 ^ i < 2 ^ (i + n) := setFld_low_lt w v
  rw [bit_eq_testBit, setFld_toNat w v h, Nat.testBit_two_pow_mul_add _ hlow]
  by_cases hhigh : j < i + n
  · rw [if_pos hhigh, Nat.testBit_two_pow_mul_add _ hw]
    by_cases hbelow : j < i
    · rw [if_pos hbelow, if_neg (by omega), Nat.testBit_mod_two_pow, bit_eq_testBit]
      simp [hbelow]
    · rw [if_neg hbelow, if_pos (by omega), Nat.testBit_mod_two_pow]
      simp [show j - i < n by omega]
  · rw [if_neg hhigh, if_neg (by omega), Nat.testBit_div_two_pow, bit_eq_testBit]
    congr 1
    omega

theorem fld_testBit (w : Word) (i n k : Nat) : (fld w i n).testBit k = (decide (k < n) && bit w (i + k)) := by
  rw [fld, Nat.testBit_mod_two_pow, Nat.testBit_div_two_pow, bit_eq_testBit]
  simp [Nat.add_comm]

/-- The field that has been set. -/
theorem fld_setFld (w : Word) {i n : Nat} (v : Nat) (h : i + n ≤ 32) : fld (setFld w i n v) i n = v % 2 ^ n := by
  refine Nat.eq_of_testBit_eq fun k => ?_
  rw [fld_testBit, bit_setFld w v _ h, Nat.testBit_mod_two_pow]
  by_cases hk : k < n
  · simp [hk]
  · simp [hk]

/-- A field apart from the one that has been set. -/
theorem fld_setFld_apart (w : Word) {i n a m : Nat} (v : Nat) (h : i + n ≤ 32) (hapart : a + m ≤ i ∨ i + n ≤ a) :
    fld (setFld w i n v) a m = fld w a m := by
  refine Nat.eq_of_testBit_eq fun k => ?_
  rw [fld_testBit, fld_testBit, bit_setFld w v _ h]
  by_cases hk : k < m
  · rw [if_neg (by omega)]
  · simp [hk]

end Sys2Proof.Machine
end

section
/-! PROOFS. A write of a register that the partner does not hear of, performed at once. -/

namespace Sys2Proof.Machine

/-- A command that writes a register outside the mirrored set answers and acts as the register's own write does. -/
theorem State.submit_unmirrored {c : Instr} {s : State} {e : Env} {g : State → State} {st : Status} {info : Word} {data : List Word}
    (r : Reg) (w : Word) (h : s.hostReady e opWrite = true) (hexec : exec c s = .next (s.submit ⟨opWrite, r.addr, w, none, e⟩))
    (hact : ∀ T P, State.regWrite { s with tickets := T, ports := P } (portOrigin e.port) r s.tickLo w none
      = (g { s with tickets := T, ports := P }, ⟨st, info, data⟩))
    (hports : ∀ v : State, (g v).ports = v.ports := by exact fun _ => rfl) (hm : r.mirrored = false := by rfl)
    (hr : r ≠ .flt .release := by simp) :
    ∃ t, exec c s = .next t ∧ t.answers e st info data = true ∧ RowActs t s e g :=
  ⟨_, hexec, State.submit_write_acts s e r w none g ⟨st, info, data⟩ h hm hr (by rintro _ rfl; exact hact _ _) (hports _)⟩

end Sys2Proof.Machine
end

section
/-! PROOFS. Check units: the commands of a unit, what they refuse, and a scan unit by unit (R409 to R418). -/

namespace Sys2Proof.Machine

/-! ## Check units of the state -/

@[simp] theorem State.modChk_chks_same (s : State) (u : Fin 4) (f : Chk → Chk) : (s.modChk u f).chks[u.1] = f s.chks[u.1] := tmod_same _ _ _

theorem State.modChk_chks_other (s : State) {u v : Fin 4} (f : Chk → Chk) (h : v ≠ u) : (s.modChk u f).chks[v.1] = s.chks[v.1] :=
  tmod_other _ _ _ _ h.symm

theorem State.modChk_congr {s : State} {u : Fin 4} {f g : Chk → Chk} (h : f s.chks[u.1] = g s.chks[u.1]) : s.modChk u f = s.modChk u g := by
  simp [State.modChk, tmod, h]

theorem State.modChk_self {s : State} {u : Fin 4} {f : Chk → Chk} (h : f s.chks[u.1] = s.chks[u.1]) : s.modChk u f = s := by
  simp [State.modChk, tmod, h]

/-! ## The answers of a unit's register (R416 to R418) -/

section
variable {s : State} {u : Fin 4} {shared : Bool} {bad : List (Bool × Nat)} {f : Chk → Chk}

theorem State.chkSet_sets (hbad : refuseLow bad = none) (hheld : s.chkHeld u = none) (hfree : s.chkBorrowed u = none)
    (hidle : s.chks[u.1].st = .idle) : s.chkSet u shared bad f = (s.modChk u f, .done) := by
  simp [State.chkSet, guarded, firstRefusal, hbad, hheld, hfree, heldReply, State.chkBusy, check, hidle]

theorem State.chkSet_busy (hbad : refuseLow bad = none) (hheld : s.chkHeld u = none) (hfree : s.chkBorrowed u = none)
    (hbusy : s.chks[u.1].st ≠ .idle) : s.chkSet u shared bad f = (s, .notNow 2#32) := by
  simp [State.chkSet, guarded, firstRefusal, hbad, hheld, hfree, heldReply, State.chkBusy, check, hbusy]

theorem State.chkSet_borrowed (hbad : refuseLow bad = none) (hu : u = 3) (hborrow : s.img.borrowed = true) :
    s.chkSet u true bad f = (s, .notNow 1#32) := by
  simp [State.chkSet, guarded, firstRefusal, hbad, State.chkHeld, hu, heldReply, State.chkBorrowed, check, hborrow]

theorem State.chkSet_held {h : Word} (hbad : refuseLow bad = none) (hheld : s.chkHeld u = some h) : s.chkSet u shared bad f = (s, .held h) := by
  simp [State.chkSet, guarded, firstRefusal, hbad, hheld, heldReply]

theorem State.chkSet_refuses {b : Nat} (hbad : refuseLow bad = some (.refused b)) : s.chkSet u shared bad f = (s, .refused b) := by
  simp [State.chkSet, guarded, firstRefusal, hbad]

end

theorem refuseLow_above {c : Chk} {w : Word} (h : w.toNat < 2 ^ fld c.cfg 0 6) : refuseLow [(c.above w, 0)] = none := by
  have habove : c.above w = false := decide_eq_false (not_le.mpr h)
  simp [refuseLow, lowest, habove]

theorem refuseLow_above_bad {c : Chk} {w : Word} (h : 2 ^ fld c.cfg 0 6 ≤ w.toNat) : refuseLow [(c.above w, 0)] = some (.refused 0) := by
  have habove : c.above w = true := decide_eq_true h
  simp [refuseLow, lowest, habove]

/-! ## START, SCAN and ABORT (R411) -/

theorem chkCmd_bits (w : Word) (v i : Nat) (hi : i < 3) : bit (setFld w 0 3 v) i = v.testBit i := by
  rw [bit_setFld w v i (by decide), if_pos (by omega), Nat.sub_zero]

section
variable {s : State} {u : Fin 4} (w : Word)

theorem State.chkCmd_starts (hheld : s.chkHeld u = none) (hfree : s.chkBorrowed u = none) (hidle : s.chks[u.1].st = .idle) :
    s.chkCmd u (setFld w 0 3 1) = (s.modChk u (fun c => { c with run := c.init }), .done) := by
  simp [State.chkCmd, chkCmd_bits, Nat.testBit, guarded, firstRefusal, refuseLow, lowest, hheld, hfree, heldReply, State.chkBusy, check, hidle]

theorem State.chkCmd_scans (hheld : s.chkHeld u = none) (hfree : s.chkBorrowed u = none) (hidle : s.chks[u.1].st = .idle)
    (hrange : s.chks[u.1].rangeBad = false) :
    s.chkCmd u (setFld w 0 3 2)
      = (s.modChk u (fun c => { c with st := .scanning, pos := 0#21, done := false, aborted := false, uncorr := false }), .done) := by
  simp [State.chkCmd, chkCmd_bits, Nat.testBit, guarded, firstRefusal, refuseLow, lowest, hheld, hfree, heldReply, State.chkBusy, check, hidle,
    hrange]

theorem State.chkCmd_scanRefused (hrange : s.chks[u.1].rangeBad = true) : s.chkCmd u (setFld w 0 3 2) = (s, .refused 1) := by
  simp [State.chkCmd, chkCmd_bits, Nat.testBit, guarded, firstRefusal, refuseLow, lowest, hrange]

theorem State.chkCmd_startBusy (hheld : s.chkHeld u = none) (hfree : s.chkBorrowed u = none) (hbusy : s.chks[u.1].st ≠ .idle) :
    s.chkCmd u (setFld w 0 3 1) = (s, .notNow 2#32) := by
  simp [State.chkCmd, chkCmd_bits, Nat.testBit, guarded, firstRefusal, refuseLow, lowest, hheld, hfree, heldReply, State.chkBusy, check, hbusy]

/-- ABORT ends the scan of a unit that is not idle. -/
theorem State.chkCmd_abort (hheld : s.chkHeld u = none) (hfree : s.chkBorrowed u = none) :
    s.chkCmd u (setFld w 0 3 4) = (s.modChk u (fun c => if c.st ≠ .idle then { c with st := .idle, aborted := true } else c), .done) := by
  simp [State.chkCmd, chkCmd_bits, Nat.testBit, guarded, firstRefusal, refuseLow, lowest, hheld, hfree, heldReply]

theorem State.chkCmd_aborts (hheld : s.chkHeld u = none) (hfree : s.chkBorrowed u = none) (hbusy : s.chks[u.1].st ≠ .idle) :
    s.chkCmd u (setFld w 0 3 4) = (s.modChk u (fun c => { c with st := .idle, aborted := true }), .done) :=
  (State.chkCmd_abort w hheld hfree).trans (congrArg (·, Reply.done) (State.modChk_congr (if_pos hbusy)))

theorem State.chkCmd_abortIdle (hheld : s.chkHeld u = none) (hfree : s.chkBorrowed u = none) (hidle : s.chks[u.1].st = .idle) :
    s.chkCmd u (setFld w 0 3 4) = (s, .done) :=
  (State.chkCmd_abort w hheld hfree).trans (congrArg (·, Reply.done) (State.modChk_self (if_neg (not_not.mpr hidle))))

theorem State.chkCmd_borrowed {v : Nat} (hv : v = 1 ∨ v = 4) (hu : u = 3) (hborrow : s.img.borrowed = true) :
    s.chkCmd u (setFld w 0 3 v) = (s, .notNow 1#32) := by
  obtain rfl | rfl := hv <;>
    simp [State.chkCmd, chkCmd_bits, Nat.testBit, guarded, firstRefusal, refuseLow, lowest, State.chkHeld, hu, heldReply, State.chkBorrowed,
      check, hborrow]

theorem State.chkCmd_startHeld {h : Word} (hheld : s.chkHeld u = some h) : s.chkCmd u (setFld w 0 3 1) = (s, .held h) := by
  simp [State.chkCmd, chkCmd_bits, Nat.testBit, guarded, firstRefusal, refuseLow, lowest, hheld, heldReply]

end

theorem Chk.rangeBad_iff (c : Chk) :
    c.rangeBad = true ↔ c.len = 0#21 ∨ 1048576 < c.len.toNat ∨ spaceSize c.space.toNat < c.addr.toNat + c.len.toNat := by
  have hzero : c.len = 0#21 ↔ c.len.toNat = 0 := by rw [← BitVec.toNat_inj]; rfl
  simp [Chk.rangeBad, hzero, or_assoc]

/-! ## One scan unit (R413, R414) -/

theorem Chk.feed_rest (c : Chk) (bs : List Byte) : c.feed bs = { c with run := (c.feed bs).run } := by
  induction bs generalizing c with
  | nil => rfl
  | cons b bs ih =>
    have hstep := ih (c.feedByte b)
    rw [Chk.feed, List.foldl_cons, ← Chk.feed, hstep]
    simp [Chk.feedByte]

theorem Chk.feed_uncorr (c : Chk) (bs : List Byte) : (c.feed bs).uncorr = c.uncorr := by rw [Chk.feed_rest]

theorem Chk.feed_st (c : Chk) (bs : List Byte) : (c.feed bs).st = c.st := by rw [Chk.feed_rest]

theorem Chk.feed_errcnt (c : Chk) (bs : List Byte) : (c.feed bs).errcnt = c.errcnt := by rw [Chk.feed_rest]

section
variable {s : State} {u : Fin 4}

theorem execScanUnitDone_taken (bad : Bool) (hst : s.chks[u.1].st = .scanning) (hturn : if s.loaderScans then u = 3 else s.scanTurn = some u) :
    exec (.scanUnitDone u bad) s = .next (s.scanUnit u bad) := by
  have hcond : (s.chks[u.1].st = .scanning && (if s.loaderScans then u = 3 else s.scanTurn = some u)) = true := by
    split at hturn <;> simp_all
  show execScanUnitDone u bad s = _
  rw [execScanUnitDone, whenDo, if_pos hcond]

theorem execScanUnitDone_waits (bad : Bool)
    (h : s.chks[u.1].st ≠ .scanning ∨ (s.loaderScans = true ∧ u ≠ 3) ∨ (s.loaderScans = false ∧ s.scanTurn ≠ some u)) :
    exec (.scanUnitDone u bad) s = .next s := by
  have hcond : (s.chks[u.1].st = .scanning && (if s.loaderScans then u = 3 else s.scanTurn = some u)) = false := by
    obtain h | ⟨h, hu⟩ | ⟨h, hu⟩ := h <;> simp_all
  show execScanUnitDone u bad s = _
  rw [execScanUnitDone, whenDo, hcond]
  rfl

/-- A scan unit without an error, by what it makes of its check unit. -/
theorem State.scanUnit_clean {f : Chk → Chk}
    (hf : f s.chks[u.1] = { (s.chks[u.1].feed ((List.range (min 64 (s.chks[u.1].len.toNat - s.chks[u.1].pos.toNat))).map (fun i =>
        s.scanByte s.chks[u.1].space.toNat (s.chks[u.1].addr.toNat + s.chks[u.1].pos.toNat + i)))) with
      pos := BitVec.ofNat 21 (s.chks[u.1].pos.toNat + min 64 (s.chks[u.1].len.toNat - s.chks[u.1].pos.toNat))
      st := if decide (s.chks[u.1].len.toNat ≤ s.chks[u.1].pos.toNat + min 64 (s.chks[u.1].len.toNat - s.chks[u.1].pos.toNat)) then .idle
        else if u = 3 ∧ s.img.borrowed then .suspended else s.chks[u.1].st
      done := decide (s.chks[u.1].len.toNat ≤ s.chks[u.1].pos.toNat + min 64 (s.chks[u.1].len.toNat - s.chks[u.1].pos.toNat)) }) :
    s.scanUnit u false = { (s.modChk u f) with freeCtr := s.freeCtr + 1, chkTurn := u + 1 } := by
  refine congrArg (fun t : State => { t with freeCtr := s.freeCtr + 1, chkTurn := u + 1 }) (State.modChk_congr ?_)
  rw [hf]
  simp [Chk.feed_uncorr, Chk.feed_errcnt]

/-- A scan unit without an error that is not the last. -/
theorem State.scanUnit_inner (hpos : s.chks[u.1].pos.toNat + 64 < s.chks[u.1].len.toNat) {st : Chk → ChkState}
    (hst : st s.chks[u.1] = if u = 3 ∧ s.img.borrowed then .suspended else s.chks[u.1].st) :
    s.scanUnit u false = { (s.modChk u (fun c =>
      { (((List.range 64).map (fun i => s.scanByte c.space.toNat (c.addr.toNat + c.pos.toNat + i))).foldl Chk.feedByte c) with
        pos := c.pos + 64#21, done := false, st := st c })) with freeCtr := s.freeCtr + 1, chkTurn := u + 1 } := by
  have hn : min 64 (s.chks[u.1].len.toNat - s.chks[u.1].pos.toNat) = 64 := by omega
  have hlast : decide (s.chks[u.1].len.toNat ≤ s.chks[u.1].pos.toNat + 64) = false := decide_eq_false (by omega)
  have hadd : BitVec.ofNat 21 (s.chks[u.1].pos.toNat + 64) = s.chks[u.1].pos + 64#21 := by simp [BitVec.ofNat_add]
  refine State.scanUnit_clean ?_
  simp only [hn, hlast, hadd, hst, Chk.feed, Bool.false_eq_true, if_false]

/-- The last scan unit of a scan, without an error. -/
theorem State.scanUnit_last (hpos : s.chks[u.1].pos.toNat < s.chks[u.1].len.toNat)
    (hlen : s.chks[u.1].len.toNat ≤ s.chks[u.1].pos.toNat + 64) :
    s.scanUnit u false = { (s.modChk u (fun c =>
      { (((List.range (c.len.toNat - c.pos.toNat)).map (fun i =>
          s.scanByte c.space.toNat (c.addr.toNat + c.pos.toNat + i))).foldl Chk.feedByte c) with
        pos := c.len, st := .idle, done := true })) with freeCtr := s.freeCtr + 1, chkTurn := u + 1 } := by
  have hn : min 64 (s.chks[u.1].len.toNat - s.chks[u.1].pos.toNat) = s.chks[u.1].len.toNat - s.chks[u.1].pos.toNat := by omega
  have hend : s.chks[u.1].pos.toNat + (s.chks[u.1].len.toNat - s.chks[u.1].pos.toNat) = s.chks[u.1].len.toNat := by omega
  refine State.scanUnit_clean ?_
  simp only [hn, hend, Chk.feed, le_refl, decide_true, if_true, BitVec.ofNat_toNat, BitVec.setWidth_eq]

/-! ## An uncorrectable unit (R414) -/

theorem State.scanUnit_bad (s : State) (u : Fin 4) :
    ∃ v : State, s.scanUnit u true = v.detect (spaceSource s.chks[u.1].space.toNat) ∧ v.chks[u.1].uncorr = true
      ∧ v.chks[u.1].errcnt = satInc s.chks[u.1].errcnt ∧ ∀ w : Fin 4, w ≠ u → v.chks[w.1] = s.chks[w.1] := by
  unfold State.scanUnit
  simp only [if_true]
  refine ⟨_, rfl, ?_, ?_, fun w hw => State.modChk_chks_other s _ hw⟩
  · simp
  · simp

end

/-- An instant source that is raised has its sticky bit set. -/
theorem State.raiseHost_sticky (s : State) (h : Fin 31) (hloss : h ≠ 7) :
    ((s.raiseHost h).slot (hostSlot h)).sticky = true := by
  have hslot : hostSlot 7 ≠ hostSlot h := fun heq => hloss (Fin.ext (by have := congrArg Fin.val heq; simp only [hostSlot] at this; omega))
  have hcore : ((State.checkLoss s (s.raiseCore ⟨hostSlot h, 0, false, 0#32, false⟩ s.tick)).slot (hostSlot h)).sticky = true := by
    rw [State.checkLoss_slot_other _ _ _ hslot, State.raiseCore_slot, State.noteRaise, State.modSlot_slot_same]
    simp
  unfold State.raiseHost State.raise State.raiseAt
  dsimp only
  split
  · rw [State.autoRelease_slot, State.modSlot_slot_same]
    exact hcore
  · exact hcore

/-! ## What an uncorrectable unit leaves -/

section
variable {s : State} {u : Fin 4}

theorem State.scanUnit_bad_chks (s : State) (u : Fin 4) :
    ((s.scanUnit u true).chks[u.1]).uncorr = true ∧ ((s.scanUnit u true).chks[u.1]).errcnt = satInc s.chks[u.1].errcnt
      ∧ ∀ w : Fin 4, w ≠ u → (s.scanUnit u true).chks[w.1] = s.chks[w.1] := by
  obtain ⟨v, hv, huncorr, herrcnt, hother⟩ := State.scanUnit_bad s u
  obtain ⟨-, ⟨-, -, -, -, -, hchks, -⟩, -⟩ := State.detect_frame v (spaceSource s.chks[u.1].space.toNat)
  rw [hv, hchks]
  exact ⟨huncorr, herrcnt, hother⟩

/-- An uncorrectable unit of a space whose source is an instant one. -/
theorem State.scanUnit_bad_sticky {h : Fin 31} (hspace : spaceSource s.chks[u.1].space.toNat = h) (hi : instantSource (hostSlot h).1 0 = true)
    (hloss : h ≠ 7) : ((s.scanUnit u true).slot (hostSlot h)).sticky = true := by
  obtain ⟨v, hv, -⟩ := State.scanUnit_bad s u
  rw [hv, hspace, State.detect, if_pos hi]
  exact State.raiseHost_sticky v h hloss

/-- An uncorrectable unit of a space whose source stays live. -/
theorem State.scanUnit_bad_live {h : Fin 31} (hspace : spaceSource s.chks[u.1].space.toNat = h) (hi : instantSource (hostSlot h).1 0 = false) :
    ((s.scanUnit u true).slot (hostSlot h)).real.getLsbD 0 = true := by
  obtain ⟨v, hv, -⟩ := State.scanUnit_bad s u
  rw [hv, hspace, State.detect, hi]
  exact State.raiseLive_live v _ _ hi

end

/-- Settles O55: each command of a unit by the refusals that stand before it, and a scan unit by what it feeds and what it raises. -/
theorem checkUnitsComputeAndScan : Obligations.CheckUnitsComputeAndScan := by
  intro e u w s
  refine ⟨?_, ?_, ?_, ?_, ?_, ?_, ?_, ?_, ?_, ?_, ?_, ?_, ?_, fun bad => execScanUnitDone_waits bad⟩
  · intro h hheld hfree hidle
    refine ⟨State.submit_unmirrored (.chk u .cmd) (setFld w 0 3 1) h rfl fun _ _ => State.chkCmd_starts w hheld hfree hidle,
      State.submit_unmirrored (.chk u .data) w h rfl fun _ _ => State.chkSet_sets rfl hheld hfree hidle, fun hw => ?_, fun hlen hmax hend => ?_⟩
    · exact State.submit_unmirrored (.chk u .run) w h rfl fun _ _ => State.chkSet_sets (refuseLow_above hw) hheld hfree hidle
    · refine State.submit_unmirrored (.chk u .cmd) (setFld w 0 3 2) h rfl fun _ _ => State.chkCmd_scans w hheld hfree hidle ?_
      refine Bool.eq_false_iff.mpr fun hbad => ?_
      obtain hzero | hlong | hout := (Chk.rangeBad_iff _).mp hbad
      · exact absurd (congrArg BitVec.toNat hzero) (by simpa using Nat.one_le_iff_ne_zero.mp hlen)
      · exact absurd hmax (by simpa using hlong)
      · exact absurd hend (by simpa using hout)
  · intro h hheld hfree hbusy
    refine ⟨?_, State.submit_unmirrored (.chk u .cmd) (setFld w 0 3 1) h rfl fun _ _ => State.chkCmd_startBusy w hheld hfree hbusy,
      State.submit_unmirrored (.chk u .data) w h rfl fun _ _ => State.chkSet_busy rfl hheld hfree hbusy, fun hw =>
      State.submit_unmirrored (.chk u .run) w h rfl fun _ _ => State.chkSet_busy (refuseLow_above hw) hheld hfree hbusy⟩
    exact State.submit_unmirrored (.chk u .cmd) (setFld w 0 3 4) h rfl fun _ _ => State.chkCmd_aborts w hheld hfree hbusy
  · intro h hheld hfree hidle
    exact State.submit_unmirrored (.chk u .cmd) (setFld w 0 3 4) h rfl fun _ _ => State.chkCmd_abortIdle w hheld hfree hidle
  · intro h hu hborrow
    exact ⟨State.submit_unmirrored (.chk u .cmd) (setFld w 0 3 1) h rfl fun _ _ => State.chkCmd_borrowed w (.inl rfl) hu hborrow,
      State.submit_unmirrored (.chk u .data) w h rfl fun _ _ => State.chkSet_borrowed rfl hu hborrow,
      State.submit_unmirrored (.chk u .cmd) (setFld w 0 3 4) h rfl fun _ _ => State.chkCmd_borrowed w (.inr rfl) hu hborrow⟩
  · intro c h hheld
    exact ⟨State.submit_unmirrored (.chk u .cmd) (setFld w 0 3 1) h rfl fun _ _ => State.chkCmd_startHeld w hheld,
      State.submit_unmirrored (.chk u .data) w h rfl fun _ _ => State.chkSet_held rfl hheld⟩
  · intro h hbad
    exact State.submit_unmirrored (.chk u .cmd) (setFld w 0 3 2) h rfl fun _ _ => State.chkCmd_scanRefused w ((Chk.rangeBad_iff _).mpr hbad)
  · intro h hw
    exact State.submit_unmirrored (.chk u .run) w h rfl fun _ _ => State.chkSet_refuses (refuseLow_above_bad hw)
  · intro hst hturn hloader hpos
    have hgoes : ¬ (u = 3 ∧ s.img.borrowed = true) := fun ⟨hu, hborrow⟩ => by simp [hloader hu] at hborrow
    exact (execScanUnitDone_taken false hst hturn).trans (congrArg _ (State.scanUnit_inner hpos
      (st := fun c => (c.feed ((List.range 64).map (fun i => s.scanByte c.space.toNat (c.addr.toNat + c.pos.toNat + i)))).st)
      ((Chk.feed_st _ _).trans (if_neg hgoes).symm)))
  · intro hst hturn hu hborrow hpos
    rw [execScanUnitDone_taken false hst hturn, State.scanUnit_inner hpos (st := fun _ => .suspended) (if_pos ⟨hu, hborrow⟩).symm]
  · intro hst hturn hpos hlen
    rw [execScanUnitDone_taken false hst hturn, State.scanUnit_last hpos hlen]
  · intro hst hturn hspace
    obtain ⟨huncorr, herrcnt, hother⟩ := State.scanUnit_bad_chks s u
    obtain ⟨hhost, -, himg, hfab, hadcs, hfilt, -⟩ := State.scanUnit_frame s u true
    exact ⟨_, execScanUnitDone_taken true hst hturn, huncorr, herrcnt, State.scanUnit_bad_sticky (if_pos hspace) rfl (by decide), hother,
      hhost, himg, hfab, hadcs, hfilt⟩
  · intro hst hturn hspace
    obtain ⟨huncorr, herrcnt, -⟩ := State.scanUnit_bad_chks s u
    exact ⟨_, execScanUnitDone_taken true hst hturn, huncorr, herrcnt, State.scanUnit_bad_sticky (by rw [hspace]; rfl) rfl (by decide)⟩
  · intro hst hturn hspace
    obtain ⟨huncorr, herrcnt, -⟩ := State.scanUnit_bad_chks s u
    exact ⟨_, execScanUnitDone_taken true hst hturn, huncorr, herrcnt, State.scanUnit_bad_live (by rw [hspace]; rfl) rfl⟩

end Sys2Proof.Machine
end

section
/-! PROOFS. The replay store: one command of RPL_CMD, triggers and the erase (R394, R396, R399, R457). -/

namespace Sys2Proof.Machine

/-! ## One command of RPL_CMD -/

theorem rplCmd_bits (w : Word) (v i : Nat) (hi : i < 5) : bit (setFld w 0 5 v) i = v.testBit i := by
  rw [bit_setFld w v i (by decide), if_pos (by omega), Nat.sub_zero]

theorem rplCmd_stopBit (w : Word) (v : Nat) : bit (setFld w 0 5 v) 16 = bit w 16 := by
  rw [bit_setFld w v 16 (by decide), if_neg (by omega)]

theorem rplCmd_number (w : Word) (v : Nat) : fld (setFld w 0 5 v) 8 8 = fld w 8 8 := fld_setFld_apart w v (by decide) (by decide)

section
variable (s : State) (o : Origin) (w : Word)

theorem State.rplCmd_trigger : s.rplCmd o (setFld w 0 5 1) = (s.trigger 3 0 0#32 o s.fab.stepNo, .done) := by
  simp [State.rplCmd, rplCmd_bits, Nat.testBit, guarded, firstRefusal, check]

theorem State.rplCmd_erases (hcap : s.rpl.capture = none) (hrun : s.rpl.rerun = none) (hroom : s.recd.journal.length < 2047) :
    s.rplCmd o (setFld w 0 5 2)
      = ((s.appendJournal 1 o (word (Reg.addrNat (.rpl .cmd))) (setFld w 0 5 2)).eraseStore, ⟨.ok, s.recd.seqNext, []⟩) := by
  simp [State.rplCmd, rplCmd_bits, Nat.testBit, guarded, firstRefusal, check, hcap, hrun, State.changeWrite, State.change_roomy _ _ _ _ _ hroom]

theorem State.rplCmd_eraseNotNow (h : s.rpl.capture.isSome = true ∨ s.rpl.rerun.isSome = true) :
    s.rplCmd o (setFld w 0 5 2) = (s, .notNow 0#32) := by
  simp [State.rplCmd, rplCmd_bits, Nat.testBit, guarded, firstRefusal, check, h]

theorem State.rplCmd_rerunNotNow {k : Nat} (hk : s.rerunRefusal (fld w 8 8) = k) (hne : k ≠ 0) :
    s.rplCmd o (setFld w 0 5 4) = (s, .notNow (word k)) := by
  simp [State.rplCmd, rplCmd_bits, rplCmd_number, Nat.testBit, guarded, firstRefusal, check, hk, hne]

theorem State.rplCmd_reruns (hk : s.rerunRefusal (fld w 8 8) = 0) :
    s.rplCmd o (setFld w 0 5 4) = (s.startRerun (fld w 8 8) (bit w 16), .done) := by
  simp [State.rplCmd, rplCmd_bits, rplCmd_number, rplCmd_stopBit, Nat.testBit, guarded, firstRefusal, check, hk]

theorem State.rplCmd_aborts : s.rplCmd o (setFld w 0 5 8) = (s.endRerun 3, .done) := by
  simp [State.rplCmd, rplCmd_bits, Nat.testBit, guarded, firstRefusal, check]

theorem State.rplCmd_sealNotNow (hload : s.rpl.loading = false) : s.rplCmd o (setFld w 0 5 16) = (s, .notNow 0#32) := by
  simp [State.rplCmd, rplCmd_bits, Nat.testBit, guarded, firstRefusal, check, hload]

theorem State.rplCmd_sealRefused (hload : s.rpl.loading = true) (hend : sealEnd s.cells 4096 0 = none) :
    s.rplCmd o (setFld w 0 5 16) = (s, .refused 4) := by
  simp [State.rplCmd, rplCmd_bits, Nat.testBit, guarded, firstRefusal, check, hload, hend]

theorem State.rplCmd_seals (hload : s.rpl.loading = true) (hend : (sealEnd s.cells 4096 0).isSome = true) :
    s.rplCmd o (setFld w 0 5 16) = (s.sealStore, .done) := by
  have hnone : (sealEnd s.cells 4096 0).isNone = false := by rw [← Option.not_isSome, hend]; rfl
  simp [State.rplCmd, rplCmd_bits, Nat.testBit, guarded, firstRefusal, check, hload, hnone]

end

/-! ## Triggers (R394, R396) -/

section
variable {s : State} (o : Origin) (step : Nat)

theorem State.trigger_extra {c : Capture} (hcap : s.rpl.capture = some c) :
    s.trigger 3 0 0#32 o step = { s with rpl := { s.rpl with extra := satInc s.rpl.extra, capture := some { c with extra := satInc c.extra } } } := by
  simp [State.trigger, hcap, State.modRpl]

theorem State.trigger_idle (hcap : s.rpl.capture = none) :
    s.trigger 3 0 0#32 o step
      = if (s.rpl.on || s.rpl.want = some true) = true then
          (s.modRpl (fun r => { r with missed := satInc r.missed })).event 0x13 3 o (word 3) (word step)
        else if s.rpl.armed = true then s.startCapture 3 0 0#32 o step else s := by
  unfold State.trigger
  split
  · simp_all
  · rfl

theorem State.trigger_missed (hcap : s.rpl.capture = none) (hon : s.rpl.on = true ∨ s.rpl.want = some true) :
    s.trigger 3 0 0#32 o step
      = ({ s with rpl := { s.rpl with missed := satInc s.rpl.missed } } : State).event 0x13 3 o 3#32 (word step) :=
  (State.trigger_idle o step hcap).trans (if_pos (by simpa using hon))

theorem State.trigger_unarmed (hcap : s.rpl.capture = none) (hon : s.rpl.on = false) (hwant : s.rpl.want ≠ some true)
    (harm : bit s.rpl.cfg 0 = false) : s.trigger 3 0 0#32 o step = s := by
  simp [State.trigger, hcap, hon, hwant, Replay.armed, harm]

/-- The capture that a trigger of a master opens where the pre-trigger ring is empty. -/
def State.freshCapture (s : State) : Capture :=
  { capno := s.rpl.nextNo, at_ := s.rpl.used
    endFlags := BitVec.ofNat 8 (8 * b2n (decide (fld s.rpl.capcfg 16 5 < 16)) + 16 * b2n s.img.diverged)
    crc := (s.img.running.map (·.crc)).getD 0#32, firstTick := 0, firstStep := 0, trigStep := s.fab.stepNo, trigSrc := 3
    trigK := 0, pre := 0, post := 0, extra := 0#16, dropped := 0#16, length := 64, trigSeq := 0#32
    stepN := s.fab.stepN
    rawCh := BitVec.ofNat 16 ((if fld s.rpl.capcfg 16 5 < 16 then fld s.rpl.capcfg 16 5 else 255)
      + 256 * (if fld s.rpl.capcfg 24 5 < 16 then fld s.rpl.capcfg 24 5 else 255))
    frames := 0 }

theorem State.startCapture_noFrames (hring : s.rpl.ring = []) (hroom : s.rpl.used + 64 ≤ 262144) :
    s.startCapture 3 0 0#32 o s.fab.stepNo
      = ((s.writeHeader s.freshCapture false).modRpl (fun r =>
          { r with capture := some s.freshCapture, nextNo := r.nextNo + 1, used := r.used + 64 })).event
            0x13 1 o (word (s.rpl.nextNo % 65536 + 0x30000)) (word s.fab.stepNo) := by
  have hframes : captureFrames s.rpl.ring (s.fab.stepNo - s.rpl.preSteps) = [] := by rw [hring]; rfl
  have hfits : ¬ storeSize < s.rpl.used + 64 + (([] : List Frame).map (·.bytes.length)).sum := not_lt.mpr hroom
  unfold State.startCapture
  simp only [hframes]
  rw [if_neg hfits]
  rfl

theorem State.trigger_opens (hcap : s.rpl.capture = none) (hon : s.rpl.on = false) (hwant : s.rpl.want ≠ some true)
    (harm : bit s.rpl.cfg 0 = true) (hring : s.rpl.ring = []) (hroom : s.rpl.used + 64 ≤ 262144) :
    s.trigger 3 0 0#32 o s.fab.stepNo
      = { (s.event 0x13 1 o (word (s.rpl.nextNo % 65536 + 0x30000)) (word s.fab.stepNo)) with
          cells := Memory.writeAll s.cells (0x80000 + s.rpl.used) (s.freshCapture.header false)
          rpl := { s.rpl with capture := some s.freshCapture, nextNo := s.rpl.nextNo + 1, used := s.rpl.used + 64 } } := by
  rw [State.trigger_idle o _ hcap, if_neg (by simp [hon, hwant]), if_pos (show s.rpl.armed = true from harm),
    State.startCapture_noFrames o hring hroom]
  simp only [State.event, State.report, State.occurrence, State.pairFlag, State.opt, State.tick, State.modRpl, State.writeHeader, replayBase]
  rfl

end

/-! ## ERASE (R399) -/

theorem Wear.eraseAt_lasts {w : Wear} {l : Fin 216} (h : w.mapped[l.1] + 1 < 100000) :
    w.eraseAt l = { w with mapped := w.mapped.set l.1 (w.mapped[l.1] + 1) } := if_pos h

/-- Sectors that are erased once each, none of them for the 100 000th time. -/
theorem Wear.eraseAt_foldl (ls : List (Fin 216)) (w : Wear) (hnodup : ls.Nodup) (h : ∀ l ∈ ls, w.mapped[l.1] + 1 < 100000) :
    ls.foldl Wear.eraseAt w = { w with mapped := Vector.ofFn (fun i : Fin 216 => w.mapped[i.1] + (if i ∈ ls then 1 else 0)) } := by
  induction ls generalizing w with
  | nil => simp
  | cons l ls ih =>
    obtain ⟨hl, hls⟩ := List.nodup_cons.mp hnodup
    have hapart : ∀ i ∈ ls, l.1 ≠ i.1 := fun i hi heq => hl (Fin.ext heq ▸ hi)
    rw [List.foldl_cons, Wear.eraseAt_lasts (h l (List.mem_cons_self ..)), ih _ hls]
    · refine congrArg (fun m => ({ w with mapped := m } : Wear)) (Vector.ext fun i hi => ?_)
      by_cases hil : l.1 = i
      · subst hil
        simp [hl]
      · have hne : (⟨i, hi⟩ : Fin 216) ≠ l := fun heq => hil (congrArg Fin.val heq).symm
        simp [hil, hne]
    · intro i hi
      simpa [Vector.getElem_set, hapart i hi] using h i (List.mem_cons_of_mem _ hi)

theorem Wear.eraseFrom_lasts {w : Wear} (h : ∀ l : Fin 216, 128 ≤ l.1 → l.1 < 192 → w.mapped[l.1] + 1 < 100000) :
    w.eraseFrom 128 64
      = { w with mapped := Vector.ofFn (fun i : Fin 216 => w.mapped[i.1] + (if 128 ≤ i.1 ∧ i.1 < 192 then 1 else 0)) } := by
  rw [Wear.eraseFrom, Wear.eraseAt_foldl _ _ ((List.nodup_finRange 216).filter _)]
  · simp
  · intro l hl
    obtain ⟨hlo, hhi⟩ : 128 ≤ l.1 ∧ l.1 < 192 := by simpa using hl
    exact h l hlo hhi

/-- The store after an ERASE that wears no sector out. -/
theorem State.eraseStore_lasts {s : State} (h : ∀ l : Fin 216, 128 ≤ l.1 → l.1 < 192 → s.bg.wear.mapped[l.1] + 1 < 100000) :
    s.eraseStore = { s with
      cells := s.cells.filter (fun c => c.1 < 0x80000 || 0xC0000 ≤ c.1)
      recd := { s.recd with staged := s.recd.staged.map (fun x => { x with mark := none }) }
      bg := { s.bg with wear := { s.bg.wear with mapped := Vector.ofFn (fun (i : Fin 216) =>
        s.bg.wear.mapped[i.1] + (if 128 ≤ i.1 ∧ i.1 < 192 then 1 else 0)) } }
      rpl := { s.rpl with erasing := true, erased := Memory.cellsOf s.cells 0x80000 0xC0000, loading := false, used := 0, captures := 0
                          nextNo := 1, full := false, availFrom := 0 } } := by
  have hcells : Memory.erase s.cells replayBase calibBase = s.cells.filter (fun c => c.1 < 0x80000 || 0xC0000 ≤ c.1) := by
    refine List.filter_congr fun c _ => ?_
    rcases Nat.lt_or_ge c.1 0x80000 with hlo | hlo
    · simp [replayBase, hlo, Nat.not_le.mpr hlo]
    · rcases Nat.lt_or_ge c.1 0xC0000 with hhi | hhi
      · simp [replayBase, calibBase, hlo, hhi, Nat.not_le.mpr hhi, Nat.not_lt.mpr hlo]
      · simp [replayBase, calibBase, hlo, hhi, Nat.not_lt.mpr hhi]
  rw [State.eraseStore, State.eraseSectors, Wear.eraseFrom_lasts h, State.setWear, if_pos rfl, hcells]
  rfl

/-- A fault report leaves what a replay store holds of an erase and of loading. -/
def State.storeMode (s : State) : Word × Bool × Bool := (s.rpl.cfg &&& 0xFFFFFFFE#32, s.rpl.erasing, s.rpl.loading)

theorem State.storeMode_of_rpl {s t : State} (h : t.rpl = s.rpl) : t.storeMode = s.storeMode := by rw [State.storeMode, h, State.storeMode]

theorem disarmed_cfg (c : Word) : c &&& ~~~1#32 &&& 0xFFFFFFFE#32 = c &&& 0xFFFFFFFE#32 := by
  rw [BitVec.and_assoc]
  rfl

theorem State.storeMode_eq {s t : State} (h : t.storeMode = s.storeMode) : t.rpl.erasing = s.rpl.erasing ∧ t.rpl.loading = s.rpl.loading :=
  ⟨congrArg (fun x => x.2.1) h, congrArg (fun x => x.2.2) h⟩

theorem State.event_storeMode (s : State) (g c : Nat) (o : Origin) (p q : Word) : (s.event g c o p q).storeMode = s.storeMode := rfl

theorem State.modRpl_storeMode {s : State} {f : Replay → Replay} (hcfg : (f s.rpl).cfg &&& 0xFFFFFFFE#32 = s.rpl.cfg &&& 0xFFFFFFFE#32)
    (herase : (f s.rpl).erasing = s.rpl.erasing) (hload : (f s.rpl).loading = s.rpl.loading) : (s.modRpl f).storeMode = s.storeMode := by
  simp only [State.storeMode, State.modRpl, hcfg, herase, hload]

theorem State.writeHeader_storeMode (s : State) (c : Capture) (b : Bool) : (s.writeHeader c b).storeMode = s.storeMode :=
  State.storeMode_of_rpl (by rw [State.writeHeader])

theorem State.endCapture_storeMode (s : State) (b : Byte) : (s.endCapture b).storeMode = s.storeMode := by
  unfold State.endCapture
  split
  · rfl
  · rw [State.event_storeMode, State.modRpl_storeMode ?_ rfl rfl, State.writeHeader_storeMode]
    split
    · rfl
    · exact disarmed_cfg _

theorem State.storeFrame_storeMode (s : State) (f : Frame) : (s.storeFrame f).storeMode = s.storeMode := by
  unfold State.storeFrame
  split
  · rfl
  · split
    · rfl
    · split
      · exact State.endCapture_storeMode _ _
      · rfl

theorem State.startCapture_storeMode (s : State) (a k : Nat) (q : Word) (o : Origin) (d : Nat) :
    (s.startCapture a k q o d).storeMode = s.storeMode := by
  unfold State.startCapture
  dsimp only
  split
  · exact (State.event_storeMode _ _ _ _ _ _).trans rfl
  · refine (foldl_keeps State.storeMode _ _ (fun t x => State.storeFrame_storeMode t x) _).trans ((State.event_storeMode _ _ _ _ _ _).trans ?_)
    simp [State.storeMode, State.modRpl, State.writeHeader]

theorem State.trigger_storeMode (s : State) (a k : Nat) (q : Word) (o : Origin) (d : Nat) : (s.trigger a k q o d).storeMode = s.storeMode := by
  unfold State.trigger
  split
  · rfl
  · split
    · exact (State.event_storeMode _ _ _ _ _ _).trans rfl
    · split
      · exact State.startCapture_storeMode _ _ _ _ _ _
      · rfl

theorem State.markRecord_rpl (s : State) (e : Staged) (i : Nat) : (s.markRecord e i).rpl = s.rpl := by simp [State.markRecord_frame _ _ _]

theorem State.faultTrigger_storeMode (s : State) (k c : Nat) (i : Bool) (e : Staged) : (s.faultTrigger k c i e).storeMode = s.storeMode := by
  unfold State.faultTrigger
  split
  · dsimp only
    split
    · exact State.trigger_storeMode _ _ _ _ _ _
    · exact (State.storeMode_of_rpl (State.markRecord_rpl _ _ _)).trans (State.trigger_storeMode _ _ _ _ _ _)
  · rfl

theorem storeMode_offReports : OffReports State.storeMode where
  safe s m := State.storeMode_of_rpl (by simp [State.sendSafe_frame _ _])
  role s := State.storeMode_of_rpl (by simp [State.roleRelease_frame _])
  slot _ _ _ := rfl
  entry s k c a b t := State.storeMode_of_rpl (by simp [State.faultEntry_frame _ _ _ _ _ _])
  record s c o f p q := State.storeMode_of_rpl (by simp [State.report_frame _ _ _ _ _ _])
  trigger := State.faultTrigger_storeMode
  release s x c := State.storeMode_of_rpl (by simp [State.sendRing_frame _ _ _])
  autos _ _ := rfl

/-- The replay registers of a device that triggers at no fault. -/
def State.untriggered (s : State) : Option Replay := if s.rpl.cfg &&& 0xFFFFFFFE#32 = 0#32 then some s.rpl else none

theorem State.untriggered_of_rpl {s t : State} (h : t.rpl = s.rpl) : t.untriggered = s.untriggered := by
  rw [State.untriggered, h, State.untriggered]

theorem State.rpl_of_untriggered {t : State} {r : Replay} (h : t.untriggered = some r) : t.rpl = r := by
  rw [State.untriggered] at h
  exact Option.some.inj (Option.ite_none_right_eq_some.mp h).2

theorem State.faultTrigger_untriggered (s : State) (k c : Nat) (i : Bool) (e : Staged) :
    (s.faultTrigger k c i e).untriggered = s.untriggered := by
  have hcfg : (s.faultTrigger k c i e).rpl.cfg &&& 0xFFFFFFFE#32 = s.rpl.cfg &&& 0xFFFFFFFE#32 :=
    congrArg Prod.fst (State.faultTrigger_storeMode s k c i e)
  by_cases hzero : s.rpl.cfg &&& 0xFFFFFFFE#32 = 0#32
  · have hbit : bit s.rpl.cfg (4 + c) = false := by
      have hmask : (s.rpl.cfg &&& 0xFFFFFFFE#32).getLsbD (4 + c) = false := by rw [hzero]; simp
      by_cases hc : 4 + c < 32
      · have hone : (0xFFFFFFFE#32).getLsbD (4 + c) = true := by
          have hall : ∀ i : Fin 32, 1 ≤ i.1 → (0xFFFFFFFE#32).getLsbD i.1 = true := by decide
          exact hall ⟨4 + c, hc⟩ (by simp; omega)
        rwa [BitVec.getLsbD_and, hone, Bool.and_true] at hmask
      · exact BitVec.getLsbD_of_ge _ _ (by omega)
    have hsame : s.faultTrigger k c i e = s := by simp [State.faultTrigger, hbit]
    rw [hsame]
  · rw [State.untriggered, State.untriggered, hcfg, if_neg hzero, if_neg hzero]

theorem untriggered_offReports : OffReports State.untriggered where
  safe s m := State.untriggered_of_rpl (by simp [State.sendSafe_frame _ _])
  role s := State.untriggered_of_rpl (by simp [State.roleRelease_frame _])
  slot _ _ _ := rfl
  entry s k c a b t := State.untriggered_of_rpl (by simp [State.faultEntry_frame _ _ _ _ _ _])
  record s c o f p q := State.untriggered_of_rpl (by simp [State.report_frame _ _ _ _ _ _])
  trigger := State.faultTrigger_untriggered
  release s x c := State.untriggered_of_rpl (by simp [State.sendRing_frame _ _ _])
  autos _ _ := rfl

theorem OffReports.setWear {α : Type} {P : State → α} (h : OffReports P) (s : State) (w : Wear) :
    P (s.setWear w) = P { s with bg := { s.bg with wear := w } } := by
  unfold State.setWear
  exact h.ite _ _ _ _ rfl (h.follow _ _ _)

theorem State.setWear_bg (s : State) (w : Wear) : (s.setWear w).bg = { s.bg with wear := w } := by
  unfold State.setWear
  dsimp only
  split
  · rfl
  · simp [State.judgeWear, State.follow_frame _ _ _]

/-- A store whose ERASE has been accepted, but for the wear of its sectors. -/
def State.emptiedStore (s : State) : State :=
  { s with
    cells := Memory.erase s.cells replayBase calibBase
    recd := s.recd.unmark
    rpl := { s.rpl with erasing := true, erased := Memory.cellsOf s.cells replayBase calibBase, loading := false, used := 0, captures := 0
                        nextNo := 1, full := false, availFrom := 0 } }

theorem State.eraseStore_eq (s : State) : s.eraseStore = s.emptiedStore.setWear (s.bg.wear.eraseFrom 128 64) := rfl

/-- The store is erased from the acceptance of ERASE on, and what its sectors wear is counted. -/
theorem State.eraseStore_device (s : State) :
    s.eraseStore.bg = { s.bg with wear := s.bg.wear.eraseFrom 128 64 } ∧ s.eraseStore.rpl.erasing = true ∧ s.eraseStore.rpl.loading = false
      ∧ (s.rpl.cfg = 0#32 → s.eraseStore.rpl = s.emptiedStore.rpl) := by
  have hmode : s.eraseStore.storeMode = s.emptiedStore.storeMode := by
    rw [State.eraseStore_eq, storeMode_offReports.setWear]
    exact State.storeMode_of_rpl rfl
  have hquiet : s.eraseStore.untriggered = s.emptiedStore.untriggered := by
    rw [State.eraseStore_eq, untriggered_offReports.setWear]
    exact State.untriggered_of_rpl rfl
  obtain ⟨herase, hload⟩ := State.storeMode_eq hmode
  refine ⟨?_, herase.trans rfl, hload.trans rfl, fun hcfg => ?_⟩
  · rw [State.eraseStore_eq, State.setWear_bg]
    rfl
  have hkeep : s.emptiedStore.rpl.cfg = 0#32 := by rw [State.emptiedStore, hcfg]
  have hempty : s.emptiedStore.untriggered = some s.emptiedStore.rpl := by
    rw [State.untriggered, if_pos (by rw [hkeep, BitVec.zero_and])]
  exact State.rpl_of_untriggered (hquiet.trans hempty)

end Sys2Proof.Machine
end

section
/-! PROOFS. Replay: the mode, the store's bytes, a re-run frame by frame, and the commands of RPL_CMD (R400 to R404, R407). -/

namespace Sys2Proof.Machine

/-! ## Bytes of a canonical memory -/

theorem Memory.walk_eq_read {m : Memory} {a : Nat} (n : Nat) (h : Memory.wfFrom a m = true) :
    Memory.walk n a m = (List.range n).map (fun i => Memory.read m (a + i)) := by
  induction n generalizing a m with
  | zero => rfl
  | succ n ih =>
    rw [List.range_succ_eq_map, List.map_cons, List.map_map]
    cases m with
    | nil => simp [Memory.walk, Memory.read, List.map_const', Function.comp_def, List.replicate_succ]
    | cons c r =>
      obtain ⟨b, v⟩ := c
      have hparts := h
      simp only [Memory.wfFrom, Bool.and_eq_true, decide_eq_true_eq] at hparts
      obtain ⟨⟨hab, -⟩, hr⟩ := hparts
      by_cases heq : a = b
      · subst heq
        rw [Memory.walk, if_pos rfl, ih hr]
        refine congrArg₂ List.cons (by simp [Memory.read]) (List.map_congr_left fun i _ => ?_)
        rw [Function.comp_apply, Memory.read, if_neg (by omega), if_neg (by omega)]
        congr 1
        omega
      · have habove : Memory.wfFrom (a + 1) ((b, v) :: r) = true := by
          simp only [Memory.wfFrom, Bool.and_eq_true, decide_eq_true_eq] at h ⊢
          exact ⟨⟨by omega, h.1.2⟩, h.2⟩
        rw [Memory.walk, if_neg heq, ih habove]
        refine congrArg₂ List.cons ?_ (List.map_congr_left fun i _ => ?_)
        · rw [Nat.add_zero, Memory.read, if_neg heq, if_pos (by omega)]
        · rw [Function.comp_apply]
          congr 1
          omega

/-- The cells below an offset are skipped. -/
theorem Memory.dropWhile_below {m : Memory} {b lo : Nat} (h : Memory.wfFrom b m = true) :
    Memory.wfFrom lo (m.dropWhile (fun c => decide (c.1 < lo))) = true
      ∧ ∀ x, lo ≤ x → Memory.read (m.dropWhile (fun c => decide (c.1 < lo))) x = Memory.read m x := by
  induction m generalizing b with
  | nil => exact ⟨rfl, fun _ _ => rfl⟩
  | cons c r ih =>
    obtain ⟨d, v⟩ := c
    simp only [Memory.wfFrom, Bool.and_eq_true, decide_eq_true_eq] at h
    obtain ⟨⟨-, hv⟩, hr⟩ := h
    by_cases hd : d < lo
    · rw [List.dropWhile_cons_of_pos (by simpa using hd)]
      obtain ⟨hwf, hread⟩ := ih hr
      refine ⟨hwf, fun x hx => (hread x hx).trans ?_⟩
      rw [Memory.read, if_neg (by omega), if_neg (by omega)]
    · rw [List.dropWhile_cons_of_neg (by simpa using hd)]
      refine ⟨?_, fun _ _ => rfl⟩
      simp only [Memory.wfFrom, Bool.and_eq_true, decide_eq_true_eq]
      exact ⟨⟨by omega, hv⟩, hr⟩

/-- Consecutive bytes of a memory in canonical form. -/
theorem Memory.range_eq_read {m : Memory} (h : Memory.wf m = true) (lo n : Nat) :
    Memory.range m lo n = (List.range n).map (fun i => Memory.read m (lo + i)) := by
  obtain ⟨hwf, hread⟩ := Memory.dropWhile_below (lo := lo) h
  rw [Memory.range, Memory.walk_eq_read n hwf]
  exact List.map_congr_left fun i _ => hread _ (by omega)

/-! ## RPL_MODE and RPL_XDATA (R400, R404) -/

section
variable {s : State} {o : Origin} {w : Word}

theorem State.writeRplMode_changes (h : bit w 0 = false ∨ s.replayBlocked = false) (hroom : s.recd.journal.length < 2047) :
    s.writeRplMode o w = ({ (s.appendJournal 1 o (word (Reg.addrNat (.rpl .mode))) w) with
      rpl := { s.rpl with want := some (bit w 0), modeReg := bit w 0 } }, ⟨.ok, s.recd.seqNext, []⟩) := by
  have hopen : (bit w 0 && s.replayBlocked) = false := by obtain h | h := h <;> simp [h]
  simp only [State.writeRplMode, guarded, check, hopen, State.changeWrite, State.change_roomy _ _ _ _ _ hroom]
  rfl

theorem State.writeRplMode_blocked (hw : bit w 0 = true) (h : s.replayBlocked = true) : s.writeRplMode o w = (s, .notNow 0#32) := by
  simp [State.writeRplMode, guarded, check, hw, h, firstRefusal]

theorem State.writeXdata_stores (herase : s.rpl.erasing = false) (hload : s.rpl.loading = true) :
    s.writeXdata w = ({ s with
      cells := Memory.writeAll s.cells (0x80000 + s.rpl.xofs.toNat) (leBytes w)
      rpl := { s.rpl with xofs := s.rpl.xofs + 4#18 } }, .done) := by
  have hstate : s.rpl.stateCode = 6 := by simp [Replay.stateCode, herase, hload]
  simp [State.writeXdata, guarded, check, hstate, firstRefusal, replayBase]

theorem State.writeXdata_notNow (h : s.rpl.stateCode ≠ 6) : s.writeXdata w = (s, .notNow 0#32) := by
  simp [State.writeXdata, guarded, check, h, firstRefusal]

end

theorem State.regRead_xdata {s : State} (o : Origin) (hwf : Memory.wf s.cells = true) :
    s.regRead o (.rpl .xdata) = (word (leNat ((List.range 4).map (fun i => Memory.read s.cells (0x80000 + s.rpl.xofs.toNat + i)))),
      { s with rpl := { s.rpl with xofs := s.rpl.xofs + 4#18 } }) := by
  have hrange := Memory.range_eq_read hwf (0x80000 + s.rpl.xofs.toNat) 4
  rw [← hrange]
  rfl

/-! ## RERUN, ABORT and SEAL (R401, R403, R404) -/

section
variable {s : State} {no : Nat}

theorem State.rerunRefusal_notReady (h : s.rpl.on = false ∨ s.rpl.erasing = true ∨ s.rpl.loading = true ∨ s.rpl.rerun.isSome = true) :
    s.rerunRefusal no = 1 := by
  have hcond : (!s.rpl.on || s.rpl.erasing || s.rpl.loading || s.rpl.rerun.isSome) = true := by
    obtain h | h | h | h := h <;> simp [h]
  simp only [State.rerunRefusal, hcond, if_true]

/-- A re-run that the mode does not forbid, by the capture that it names. -/
theorem State.rerunRefusal_ready (hon : s.rpl.on = true) (herase : s.rpl.erasing = false) (hload : s.rpl.loading = false)
    (hrun : s.rpl.rerun = none) :
    s.rerunRefusal no = match s.closedCapture no with
      | none => 2
      | some c => if some (word (u32 c.2 4)) = s.img.running.map (·.crc) then 0 else 3 := by
  simp only [State.rerunRefusal, hon, herase, hload, hrun]
  rfl

theorem State.startRerun_starts {c : Nat × List Byte} (h : s.closedCapture no = some c) (stop : Bool) :
    ∃ r : Rerun, r.capno = no ∧ r.at_ = c.1 + 64 ∧ r.left = u32 c.2 40 - 64 ∧ r.stopAtDiv = stop ∧ r.prev = none
      ∧ s.startRerun no stop = { s with
        freeCtr := s.freeCtr + 1 + 1 + 1
        rpl := { s.rpl with rerun := some r, runCap := BitVec.ofNat 8 no, result := 0#2, divStep := 0#64, divDest := 0#16, divCount := 0#16 } } := by
  unfold State.startRerun
  rw [h]
  exact ⟨_, rfl, rfl, rfl, rfl, rfl, rfl⟩

theorem State.endRerun_ends {r : Rerun} (h : s.rpl.rerun = some r) (k : Nat) :
    s.endRerun k = ({ s with rpl := { s.rpl with rerun := none, result := BitVec.ofNat 2 k } } : State).event
      0x13 4 .replay (word (r.capno + k * 65536)) (s.rpl.divStep.extractLsb' 0 32) := by
  unfold State.endRerun
  split
  · simp_all
  · next q hq =>
    obtain rfl : q = r := Option.some.inj (hq.symm.trans h)
    rfl

theorem State.endRerun_idle (h : s.rpl.rerun = none) (k : Nat) : s.endRerun k = s := by
  simp [State.endRerun, h]

/-- A capture that a re-run may take is closed, available, and has the number asked for. -/
theorem State.closedCapture_some {c : Nat × List Byte} (h : s.closedCapture no = some c) :
    s.rpl.availFrom ≤ c.1 ∧ u16 c.2 0 = no ∧ u8 c.2 2 = 1 := by
  have hp := List.find?_some h
  simp only [Bool.and_eq_true, decide_eq_true_eq] at hp
  exact ⟨hp.1.1, hp.1.2, hp.2⟩

end

/-! ## A frame of a re-run (R401, R402) -/

theorem State.storeWhere_none {s : State} {sel : Wheel → Bool} (h : ∀ v : WheelId, sel (s.wheel v) = false) (tick : Nat) (x : Entry) :
    s.storeWhere sel tick x = s := by
  have hsame : s.wheels.map (fun w => if sel w then w.store (s.markFor tick x) x s.clock else w) = s.wheels := by
    refine Vector.ext fun i hi => ?_
    have hsel : sel s.wheels[i] = false := h ⟨i, hi⟩
    simp [hsel]
  rw [State.storeWhere, hsame]

theorem State.checkLoss_self (s : State) : State.checkLoss s s = s := by simp [State.checkLoss]

theorem State.replayEntries_none {s : State} (h : ∀ v : WheelId, (s.wheel v).takesReplay = false) (run cap : Outs) (prev : Option Outs)
    (tick : Nat) : s.replayEntries run cap prev tick = s := by
  rw [State.replayEntries]
  refine List.foldl_fixed' ?_ _
  intro x
  rw [State.storeWhere_none h, State.checkLoss_self]

/-- The destination at which a frame first differs from its re-run. -/
def firstDifference (run cap : Outs) : Option Nat := ((run.list.zip cap.list).find? (fun p => p.1.2 ≠ p.2.2)).map (·.1.1)

theorem firstDifference_self (x : Outs) : firstDifference x x = none := by
  rw [firstDifference, Option.map_eq_none_iff, List.find?_eq_none]
  intro p hp
  have heq : p.1 = p.2 := by
    obtain ⟨i, hi, hpi⟩ := List.getElem_of_mem hp
    rw [List.getElem_zip] at hpi
    rw [← hpi]
  simp [heq]

theorem Outs.list_length (x : Outs) : x.list.length = 116 := by simp [Outs.list]

theorem Outs.list_chan (x : Outs) {i : Nat} (hi : i < 48) : (x.list[i]'(by rw [x.list_length]; omega)).2 = x.1.getLsbD i := by
  simp [Outs.list, hi]

theorem Outs.list_device (x : Outs) {i : Nat} (hi : i < 4) :
    (x.list[48 + i]'(by rw [x.list_length]; omega)).2 = x.2.1.getLsbD i := by
  simp [Outs.list, hi]

theorem Outs.list_flag (x : Outs) {i : Nat} (hi : i < 64) :
    (x.list[52 + i]'(by rw [x.list_length]; omega)).2 = x.2.2.getLsbD i := by
  simp [Outs.list, List.getElem_append, show ¬ 52 + i < 48 by omega, show 52 + i - 48 = 4 + i by omega]

theorem Outs.ext_list {x y : Outs}
    (h : ∀ (i : Nat) (hi : i < 116), (x.list[i]'(by rw [x.list_length]; omega)).2 = (y.list[i]'(by rw [y.list_length]; omega)).2) :
    x = y := by
  refine Prod.ext ?_ (Prod.ext ?_ ?_)
  · refine BitVec.eq_of_getLsbD_eq fun i hi => ?_
    rw [← x.list_chan hi, ← y.list_chan hi, h i (by omega)]
  · refine BitVec.eq_of_getLsbD_eq fun i hi => ?_
    rw [← x.list_device hi, ← y.list_device hi, h (48 + i) (by omega)]
  · refine BitVec.eq_of_getLsbD_eq fun i hi => ?_
    rw [← x.list_flag hi, ← y.list_flag hi, h (52 + i) (by omega)]

theorem firstDifference_differs {x y : Outs} (h : x ≠ y) : ∃ d, firstDifference x y = some d := by
  by_contra hnone
  refine h (Outs.ext_list fun i hi => ?_)
  have hfind : (x.list.zip y.list).find? (fun p => p.1.2 ≠ p.2.2) = none := by
    rw [← Option.map_eq_none_iff (f := fun p => p.1.1)]
    exact Option.eq_none_iff_forall_ne_some.mpr fun d hd => hnone ⟨d, hd⟩
  have hzip : i < (x.list.zip y.list).length := by rw [List.length_zip, x.list_length, y.list_length]; omega
  simpa using List.find?_eq_none.mp hfind _ (List.getElem_mem hzip)

theorem execRerunFrame_waits {s : State} (h : ∀ r, s.rpl.rerun = some r → s.clock < r.due) : exec .rerunFrame s = .next s := by
  show execRerunFrame s = _
  unfold execRerunFrame
  split
  · rfl
  · next r hr => rw [if_pos (h r hr)]

section
variable {s : State} {r : Rerun} {b : List Byte}

theorem execRerunFrame_unread (hr : s.rpl.rerun = some r) (hdue : r.due ≤ s.clock) (hb : frameAt s.cells r.at_ r.left = none) :
    exec .rerunFrame s = .next (s.endRerun 3) := by
  show execRerunFrame s = _
  unfold execRerunFrame
  simp only [hr, hb, if_neg (not_lt.mpr hdue)]

/-- The first frame of a re-run, whose step overran: its outputs are compared as they stand. -/
theorem execRerunFrame_overran (hr : s.rpl.rerun = some r) (hdue : r.due ≤ s.clock) (hb : frameAt s.cells r.at_ r.left = some b)
    (hprev : r.prev = none) (hlate : u8 b 10 / 2 % 2 = 1) :
    exec .rerunFrame s = .next (s.judgeFrame r b { r.fab with snap := frameSnap b r.fab.snap.values }) := by
  show execRerunFrame s = _
  unfold execRerunFrame
  simp only [hr, hb, if_neg (not_lt.mpr hdue), hprev, hlate]
  rfl

/-- The step of a frame, in the re-run's full count (R402). -/
def Rerun.fullStep (r : Rerun) (b : List Byte) : Nat := r.firstStep + (u32 b 0 + 2 ^ 32 - r.firstStep % 2 ^ 32) % 2 ^ 32

theorem Rerun.fullStep_first (hstep : r.firstStep < 2 ^ 32) (hb : u32 b 0 = r.firstStep) : r.fullStep b = r.firstStep := by
  have hzero : (u32 b 0 + 2 ^ 32 - r.firstStep % 2 ^ 32) % 2 ^ 32 = 0 := by
    rw [hb, Nat.mod_eq_of_lt hstep, Nat.add_sub_cancel_left, Nat.mod_self]
  rw [Rerun.fullStep, hzero, Nat.add_zero]

/-- The re-run past a frame. -/
def Rerun.past (r : Rerun) (b : List Byte) (fab : FabState) : Rerun :=
  { r with due := r.due + 20, at_ := r.at_ + b.length, left := r.left - b.length, fab := { fab with stepNo := r.fullStep b }, prev := some fab.outs }

/-- A frame on a device without a wheel of class REPLAY, by where it first differs. -/
theorem State.judgeFrame_eq (fab : FabState) (hwheels : ∀ v : WheelId, (s.wheel v).takesReplay = false) :
    s.judgeFrame r b fab =
      let s2 := match firstDifference fab.outs (frameOuts b) with
        | some d => s.modRpl (fun p =>
            { p with
              divStep := if p.divCount = 0#16 then BitVec.ofNat 64 (r.fullStep b) else p.divStep
              divDest := if p.divCount = 0#16 then BitVec.ofNat 16 d else p.divDest
              divCount := satInc p.divCount })
        | none => s
      let s3 := s2.modRpl (fun p => { p with rerun := some (r.past b fab) })
      if r.left - b.length = 0 then s3.endRerun (if s3.rpl.divCount = 0#16 then 1 else 2)
      else if firstDifference fab.outs (frameOuts b) ≠ none && r.stopAtDiv then s3.endRerun 2
      else s3 := by
  unfold State.judgeFrame
  simp only [State.replayEntries_none hwheels]
  rfl

section
variable (fab : FabState) (hwheels : ∀ v : WheelId, (s.wheel v).takesReplay = false)
include hwheels

theorem State.judgeFrame_goesOn (heq : fab.outs = frameOuts b) (hleft : b.length < r.left) :
    s.judgeFrame r b fab = { s with rpl := { s.rpl with rerun := some (r.past b fab) } } := by
  have hmore : ¬ r.left - b.length = 0 := by omega
  rw [State.judgeFrame_eq fab hwheels, ← heq, firstDifference_self]
  simp only [hmore, if_false]
  rfl

theorem State.judgeFrame_last (heq : fab.outs = frameOuts b) (hleft : b.length = r.left) (hdiv : s.rpl.divCount = 0#16) :
    s.judgeFrame r b fab = ({ s with rpl := { s.rpl with rerun := none, result := 1#2 } } : State).event
      0x13 4 .replay (word (r.capno + 65536)) (s.rpl.divStep.extractLsb' 0 32) := by
  have hend : r.left - b.length = 0 := by omega
  rw [State.judgeFrame_eq fab hwheels, ← heq, firstDifference_self]
  simp only [hend, if_true]
  have hcount : (s.modRpl (fun p => { p with rerun := some (r.past b fab) })).rpl.divCount = 0#16 := hdiv
  rw [hcount, if_pos rfl, State.endRerun_ends rfl]
  rfl

/-- The first divergence of a re-run that stops there. -/
theorem State.judgeFrame_diverges (hne : fab.outs ≠ frameOuts b) (hdiv : s.rpl.divCount = 0#16) (hstop : r.stopAtDiv = true) :
    ∃ d, s.judgeFrame r b fab = ({ s with rpl := { s.rpl with
      rerun := none, result := 2#2, divStep := BitVec.ofNat 64 (r.fullStep b), divDest := BitVec.ofNat 16 d, divCount := 1#16 } } : State).event
        0x13 4 .replay (word (r.capno + 2 * 65536)) ((BitVec.ofNat 64 (r.fullStep b)).extractLsb' 0 32) := by
  obtain ⟨d, hd⟩ := firstDifference_differs hne
  refine ⟨d, ?_⟩
  have hends : ∀ k : Nat, k = 2 → ∀ t : State, t = { s with rpl := { s.rpl with
      divStep := BitVec.ofNat 64 (r.fullStep b), divDest := BitVec.ofNat 16 d, divCount := 1#16, rerun := some (r.past b fab) } } →
      t.endRerun k = ({ s with rpl := { s.rpl with
        rerun := none, result := 2#2, divStep := BitVec.ofNat 64 (r.fullStep b), divDest := BitVec.ofNat 16 d, divCount := 1#16 } } : State).event
          0x13 4 .replay (word (r.capno + 2 * 65536)) ((BitVec.ofNat 64 (r.fullStep b)).extractLsb' 0 32) := by
    rintro _ rfl _ rfl
    rw [State.endRerun_ends rfl]
    rfl
  have hcount : satInc (0#16) = 1#16 := by decide
  rw [State.judgeFrame_eq fab hwheels, hd]
  dsimp only
  split
  · refine hends _ ?_ _ ?_
    · simp [State.modRpl, hdiv, hcount]
    · simp [State.modRpl, hdiv, hcount]
  · rw [if_pos (by simp [hstop])]
    refine hends _ rfl _ ?_
    simp [State.modRpl, hdiv, hcount]

end

end

/-- A read of RPL_XDATA. -/
theorem State.submit_readXdata {s : State} {e : Env} (w : Word) (h : s.hostReady e opRead = true) (hwf : Memory.wf s.cells = true) :
    ∃ t, exec (.rplXdata e false w) s = .next t
      ∧ t.answers e .ok 0#32 [word (leNat ((List.range 4).map (fun i => Memory.read s.cells (0x80000 + s.rpl.xofs.toNat + i))))] = true
      ∧ RowActs t s e (fun u => { u with rpl := { u.rpl with xofs := s.rpl.xofs + 4#18 } }) := by
  refine ⟨_, rfl, State.submit_acts s ⟨opRead, Reg.addr (.rpl .xdata), w, none, e⟩ _ (.value _) h (by simp [opRead]) (by simp [opRead]) ?_ rfl
    (State.waitsRelease_otherOp _ _ (by decide : opRead ≠ 3#8))⟩
  rintro _ rfl
  have hread := State.regRead_xdata (s := s.intake ⟨opRead, Reg.addr (.rpl .xdata), w, none, e⟩) (portOrigin e.port) hwf
  have hp : (s.intake ⟨opRead, Reg.addr (.rpl .xdata), w, none, e⟩).perform e.port (s.requestOf ⟨opRead, Reg.addr (.rpl .xdata), w, none, e⟩)
      = (s.intake ⟨opRead, Reg.addr (.rpl .xdata), w, none, e⟩).readAt (portOrigin e.port) (Reg.addr (.rpl .xdata)) := rfl
  rw [hp, State.readAt, decodeAddr_addr]
  dsimp only
  rw [hread]
  rfl

/-- ERASE of a store whose sectors last. -/
theorem State.rplCmd_erasesLasting (s : State) (o : Origin) (w : Word) (hcap : s.rpl.capture = none) (hrun : s.rpl.rerun = none)
    (hroom : s.recd.journal.length < 2047) (h : ∀ l : Fin 216, 128 ≤ l.1 → l.1 < 192 → s.bg.wear.mapped[l.1] + 1 < 100000) :
    s.rplCmd o (setFld w 0 5 2) =
      (let v := s.appendJournal 1 o (word (Reg.addrNat (.rpl .cmd))) (setFld w 0 5 2)
      { v with
        cells := s.cells.filter (fun c => c.1 < 0x80000 || 0xC0000 ≤ c.1)
        recd := { v.recd with staged := v.recd.staged.map (fun x => { x with mark := none }) }
        bg := { v.bg with wear := { v.bg.wear with mapped := Vector.ofFn (fun (i : Fin 216) =>
          v.bg.wear.mapped[i.1] + (if 128 ≤ i.1 ∧ i.1 < 192 then 1 else 0)) } }
        rpl := { s.rpl with erasing := true, erased := Memory.cellsOf s.cells 0x80000 0xC0000, loading := false, used := 0, captures := 0
                            nextNo := 1, full := false, availFrom := 0 } }, ⟨.ok, s.recd.seqNext, []⟩) := by
  rw [State.rplCmd_erases s o w hcap hrun hroom,
    State.eraseStore_lasts (s := s.appendJournal 1 o (word (Reg.addrNat (.rpl .cmd))) (setFld w 0 5 2)) h]
  rfl

/-- What a row that acts leaves of a part of the state that neither the tickets nor the ports hold. -/
theorem RowActs.left {t s : State} {e : Env} {f : State → State} (h : RowActs t s e f) :
    ∃ T P, ButForPorts t (f { s with tickets := T, ports := P }) := by
  obtain ⟨⟨u, hu, ht⟩, -⟩ := h
  exact ⟨u.tickets, u.ports, hu ▸ ht⟩

/-- Settles O54: each command of RPL_CMD by its own bit, RPL_MODE and RPL_XDATA by what they refuse, and a frame of a re-run by where it first
differs. -/
theorem capturesAreTakenErasedAndRerun : Obligations.CapturesAreTakenErasedAndRerun := by
  intro e w s
  refine ⟨?_, ?_, ?_, ?_, ?_, ?_, ?_, ?_, ?_, ?_, ?_, ?_, ?_, ?_, ?_, fun _ _ => State.closedCapture_some, execRerunFrame_waits, ?_, ?_, ?_, ?_,
    ?_, ?_, ?_, ?_, ?_, ?_, ?_, fun h hwf => State.submit_readXdata w h hwf⟩
  · intro c h hcap
    exact State.submit_unmirrored (.rpl .cmd) (setFld w 0 5 1) h rfl (fun _ _ => (State.rplCmd_trigger _ _ w).trans
      (congrArg (·, Reply.done) (State.trigger_extra _ _ hcap))) fun _ => rfl
  · intro h hcap hon
    exact State.submit_unmirrored (.rpl .cmd) (setFld w 0 5 1) h rfl (fun _ _ => (State.rplCmd_trigger _ _ w).trans
      (congrArg (·, Reply.done) (State.trigger_missed _ _ hcap hon))) fun _ => rfl
  · intro h hcap hon hwant harm hring hroom
    obtain ⟨t, hexec, hanswer, hacts⟩ := State.submit_unmirrored (c := .replayTrigger e w) (.rpl .cmd) (setFld w 0 5 1) (g := fun u =>
      { (u.event 0x13 1 (portOrigin e.port) (word (u.rpl.nextNo % 65536 + 0x30000)) (word s.fab.stepNo)) with
        cells := Memory.writeAll u.cells (0x80000 + u.rpl.used) (s.freshCapture.header false)
        rpl := { u.rpl with capture := some s.freshCapture, nextNo := u.rpl.nextNo + 1, used := u.rpl.used + 64 } }) h rfl
      (fun _ _ => (State.rplCmd_trigger _ _ w).trans
        (congrArg (·, Reply.done) (State.trigger_opens _ hcap hon hwant harm hring hroom))) fun _ => rfl
    obtain ⟨T, P, ht⟩ := hacts.left
    exact ⟨t, s.freshCapture, hexec, hanswer, congrArg (fun v : State => v.rpl.capture) ht, rfl, rfl, rfl, rfl, rfl, hacts⟩
  · intro h hcap hon hwant harm
    exact State.submit_unmirrored (.rpl .cmd) (setFld w 0 5 1) h rfl (fun _ _ => (State.rplCmd_trigger _ _ w).trans
      (congrArg (·, Reply.done) (State.trigger_unarmed _ _ hcap hon hwant harm))) fun _ => rfl
  · intro h hcap hrun hroom
    obtain ⟨t, hexec, hanswer, hacts⟩ := State.submit_unmirrored (c := .replayErase e w) (st := .ok) (info := s.recd.seqNext) (data := [])
      (.rpl .cmd) (setFld w 0 5 2) (g := fun u =>
      (u.appendJournal 1 (portOrigin e.port) (word (Reg.addrNat (.rpl .cmd))) (setFld w 0 5 2)).eraseStore) h rfl
      (fun T P => State.rplCmd_erases { s with tickets := T, ports := P } (portOrigin e.port) w hcap hrun hroom) fun v => by
        rw [(State.eraseStore_frame _).1.2.2.2.2.2.2.2.1]
        rfl
    obtain ⟨T, P, ht⟩ := hacts.left
    obtain ⟨hbg, herase, hload, hrpl⟩ := State.eraseStore_device (State.appendJournal { s with tickets := T, ports := P } 1 (portOrigin e.port)
      (word (Reg.addrNat (.rpl .cmd))) (setFld w 0 5 2))
    obtain ⟨-, -, -, -, -, -, -, ⟨-, -, -, -, -, -, -, htbg, -⟩, -, -, -, -, -, htrpl, -⟩ := ht.same
    exact ⟨t, hexec, hanswer, htbg.trans hbg, (congrArg Replay.erasing htrpl).trans herase, (congrArg Replay.loading htrpl).trans hload,
      fun hcfg => htrpl.trans (hrpl hcfg)⟩
  · intro h hcap hrun hroom hwear
    exact State.submit_unmirrored (.rpl .cmd) (setFld w 0 5 2) h rfl
      (fun T P => State.rplCmd_erasesLasting { s with tickets := T, ports := P } _ w hcap hrun hroom hwear) fun _ => rfl
  · intro h hbusy
    exact State.submit_unmirrored (.rpl .cmd) (setFld w 0 5 2) h rfl (fun _ _ => State.rplCmd_eraseNotNow _ _ w hbusy) fun _ => rfl
  · intro herase
    exact congrArg Host.Outcome.next (if_pos herase)
  · intro herase
    exact congrArg Host.Outcome.next (if_neg (by simp [herase]))
  · intro h hopen hroom
    exact State.submit_unmirrored (.rpl .mode) w h rfl (fun _ _ => State.writeRplMode_changes hopen hroom) fun _ => rfl
  · intro h hw hcause
    have hblocked : s.replayBlocked = true := by
      obtain hc | hc | hc | hc | ⟨hc, hd⟩ := hcause <;> simp [State.replayBlocked, *]
    exact State.submit_unmirrored (.rpl .mode) w h rfl (fun _ _ => State.writeRplMode_blocked hw hblocked) fun _ => rfl
  · intro h hnot
    exact State.submit_unmirrored (.rpl .cmd) (setFld w 0 5 4) h rfl
      (fun _ _ => State.rplCmd_rerunNotNow _ _ w (State.rerunRefusal_notReady hnot) (by decide)) fun _ => rfl
  · intro h hon herase hload hrun hnone
    have hcode : s.rerunRefusal (fld w 8 8) = 2 := by rw [State.rerunRefusal_ready hon herase hload hrun, hnone]
    exact State.submit_unmirrored (.rpl .cmd) (setFld w 0 5 4) h rfl (fun _ _ => State.rplCmd_rerunNotNow _ _ w hcode (by decide)) fun _ => rfl
  · intro c h hon herase hload hrun hsome hcrc
    have hcode : s.rerunRefusal (fld w 8 8) = 3 := by rw [State.rerunRefusal_ready hon herase hload hrun, hsome]; exact if_neg hcrc
    exact State.submit_unmirrored (.rpl .cmd) (setFld w 0 5 4) h rfl (fun _ _ => State.rplCmd_rerunNotNow _ _ w hcode (by decide)) fun _ => rfl
  · intro c h hon herase hload hrun hsome hcrc
    have hcode : s.rerunRefusal (fld w 8 8) = 0 := by rw [State.rerunRefusal_ready hon herase hload hrun, hsome]; exact if_pos hcrc
    obtain ⟨t, hexec, hanswer, hacts⟩ := State.submit_unmirrored (c := .rerun e w) (.rpl .cmd) (setFld w 0 5 4)
      (g := fun u => u.startRerun (fld w 8 8) (bit w 16)) h rfl
      (fun _ _ => State.rplCmd_reruns _ _ w hcode) fun v => by simp [State.startRerun_frame _ _ _]
    obtain ⟨T, P, ht⟩ := hacts.left
    obtain ⟨r, hno, hat, hleft, hstop, hprev, hstart⟩ := State.startRerun_starts (s := { s with tickets := T, ports := P }) hsome (bit w 16)
    rw [hstart] at ht
    obtain ⟨hpending, hclock, hvio, hphase, hready, -, -, ⟨-, -, hfab, -⟩, hrecd, hwheels, -, -, hrings, hrpl, -, hcells⟩ := ht.same
    exact ⟨t, r, hexec, hanswer, congrArg Replay.rerun hrpl, hno, hat, hleft, hstop, hprev, hrpl, hcells, hrecd, hfab, hwheels, hrings,
      RowFrame.of ⟨hpending, hclock, hvio, hphase, hready⟩ hacts.2⟩
  · intro r hr hdue hb
    rw [execRerunFrame_unread hr hdue hb, State.endRerun_ends hr]
  · intro r b hr hdue hb hprev hlate heq hleft hwheels
    rw [execRerunFrame_overran hr hdue hb hprev hlate,
      State.judgeFrame_goesOn { r.fab with snap := frameSnap b r.fab.snap.values } hwheels heq hleft]
    exact ⟨_, _, rfl, rfl, rfl, rfl, congrArg some rfl, rfl, rfl⟩
  · intro r b hr hdue hb hprev hlate heq hleft hdiv hwheels
    rw [execRerunFrame_overran hr hdue hb hprev hlate,
      State.judgeFrame_last { r.fab with snap := frameSnap b r.fab.snap.values } hwheels heq hleft hdiv]
  · intro r b hr hdue hb hprev hlate hne hdiv hstop hstep hfirst hwheels
    obtain ⟨d, hd⟩ := State.judgeFrame_diverges { r.fab with snap := frameSnap b r.fab.snap.values } hwheels hne hdiv hstop
    rw [Rerun.fullStep_first hstep hfirst] at hd
    rw [execRerunFrame_overran hr hdue hb hprev hlate, hd]
    exact ⟨_, rfl, rfl, rfl, rfl, rfl, rfl, rfl, rfl⟩
  · intro r h hr
    exact State.submit_unmirrored (.rpl .cmd) (setFld w 0 5 8) h rfl (fun T P => (State.rplCmd_aborts _ _ w).trans
      (congrArg (·, Reply.done) (State.endRerun_ends (s := { s with tickets := T, ports := P }) hr 3))) fun _ => rfl
  · intro h hr
    exact State.submit_unmirrored (.rpl .cmd) (setFld w 0 5 8) h rfl (fun T P => (State.rplCmd_aborts _ _ w).trans
      (congrArg (·, Reply.done) (State.endRerun_idle (s := { s with tickets := T, ports := P }) hr 3))) fun _ => rfl
  · intro h hload
    exact State.submit_unmirrored (.rpl .cmd) (setFld w 0 5 16) h rfl (fun _ _ => State.rplCmd_sealNotNow _ _ w hload) fun _ => rfl
  · intro h hload hend
    exact State.submit_unmirrored (.rpl .cmd) (setFld w 0 5 16) h rfl (fun _ _ => State.rplCmd_sealRefused _ _ w hload hend) fun _ => rfl
  · intro h hload hend
    obtain ⟨t, hexec, hanswer, hacts⟩ := State.submit_unmirrored (c := .seal e w) (.rpl .cmd) (setFld w 0 5 16) (g := State.sealStore) h rfl
      (fun _ _ => State.rplCmd_seals _ _ w hload hend) fun v => by simp [State.sealStore_frame _]
    obtain ⟨T, P, ht⟩ := hacts.left
    obtain ⟨hpending, hclock, hvio, hphase, hready, -, -, -, hrecd, -, -, -, -, hrpl, -, hcells⟩ := ht.same
    exact ⟨t, hexec, hanswer, congrArg Replay.loading hrpl, congrArg Replay.availFrom hrpl, hcells, hrecd,
      RowFrame.of ⟨hpending, hclock, hvio, hphase, hready⟩ hacts.2⟩
  · intro h hload herase
    exact State.submit_unmirrored (.rpl .xdata) w h rfl (fun _ _ => State.writeXdata_stores herase hload) fun _ => rfl
  · intro h hstate
    exact State.submit_unmirrored (.rpl .xdata) w h rfl (fun _ _ => State.writeXdata_notNow hstate) fun _ => rfl

end Sys2Proof.Machine
end

section
/-! PROOFS. Injected causes: their raising, their clearing, FLT_INJ and FLT_INJCFG (R357, R360 to R362). -/

namespace Sys2Proof.Machine

/-! ## Reports of a source that no wheel names -/

theorem State.checkLoss_same {b t : State} (h : t.wheels = b.wheels) : State.checkLoss b t = t := by
  have hloss : t.anyLoss = b.anyLoss := by simp [State.anyLoss, h]
  simp [State.checkLoss, hloss]

section
variable {s : State} {k : Fin 256} (hwheels : ∀ v : WheelId, (s.wheel v).namesFault k = false)
include hwheels

theorem State.faultEntry_unnamed {t : State} (ht : t.wheels = s.wheels) (c : Nat) (a b : Bool) (tick : Nat) : t.faultEntry k c a b tick = t :=
  State.storeWhere_none (fun v => by rw [State.wheel, ht]; exact hwheels v) _ _

theorem State.raiseCore_wheels (r : Raising) (hr : r.k = k) (tick : Nat) : (s.raiseCore r tick).wheels = s.wheels := by
  unfold State.raiseCore
  dsimp only
  rw [(State.faultTrigger_frame _ _ _ _ _).2.2.1, hr, State.faultEntry_unnamed hwheels]
  · split <;> simp [State.react_frame _ _ _, State.faultRecord_frame _ _ _ _ _ _ _, State.noteRaise]
  · split <;> simp [State.react_frame _ _ _, State.faultRecord_frame _ _ _ _ _ _ _, State.noteRaise]

/-- A source that is not instant is raised by its raising alone. -/
theorem State.raise_core {r : Raising} (hr : r.k = k) (hi : instantSource r.k.1 r.m = false) : s.raise r = s.raiseCore r s.tick := by
  rw [State.raise, State.raiseAt, State.checkLoss_same (State.raiseCore_wheels hwheels r hr s.tick), hi]
  rfl

end

/-- In dry run an injected raising reaches no Ring and leaves the Ringmaster. -/
theorem State.raiseCore_dry {s : State} {r : Raising} (hinj : r.inj = true) (hdry : s.flt.dryrun = true) (tick : Nat) :
    (s.raiseCore r tick).rings = s.rings ∧ (s.raiseCore r tick).pair = s.pair := by
  have hquiet : ∀ t : State, t.flt.dryrun = true → t.reacts r = false := fun t ht => by simp [State.reacts, hinj, ht]
  unfold State.raiseCore
  dsimp only
  rw [hquiet _ hdry]
  simp [State.faultTrigger_frame _ _ _ _ _, State.faultEntry_frame _ _ _ _ _ _, State.faultRecord_frame _ _ _ _ _ _ _, State.noteRaise]

/-! ## What the clearing of an injected cause writes (R357, R361) -/

/-- The slot of which an injected cause has been cleared, but for the channels on which it has set REACTION. -/
def FaultSlot.injCleared (m : Nat) (f : FaultSlot) : FaultSlot :=
  { f with inj := f.inj &&& ~~~ (1#32 <<< (m % 32)), liveAt := f.liveAt.filter (fun e => !(e.member = BitVec.ofNat 8 m && e.inj = true)) }

/-- The state in which an injected cause has been cleared and reported. -/
def State.injReported (s : State) (k : Fin 256) (m : Nat) : State :=
  let f := s.slot k
  let c : LiveCause := (f.cause m true).getD ⟨BitVec.ofNat 8 m, true, s.tick, f.cls, f.react, false⟩
  let t := (s.modSlot k (FaultSlot.injCleared m)).faultEntry k c.cls.toNat false true s.tick
  if !f.seen || c.cls ≠ 0#2 then
    t.faultRecord k c.cls.toNat (!f.seen) true (faultP1 m c.react.toNat false false) (satTo 32 (s.tick - c.since))
  else t

theorem State.injReported_slot (s : State) (k j : Fin 256) (m : Nat) :
    (s.injReported k m).slot j = (s.modSlot k (FaultSlot.injCleared m)).slot j := by
  unfold State.injReported
  dsimp only
  split <;> simp

theorem State.injReported_wheels {s : State} {k : Fin 256} (hwheels : ∀ v : WheelId, (s.wheel v).namesFault k = false) (m : Nat) :
    (s.injReported k m).wheels = s.wheels := by
  have hentry := fun c => State.faultEntry_unnamed hwheels (t := s.modSlot k (FaultSlot.injCleared m)) rfl c false true s.tick
  unfold State.injReported
  dsimp only
  split
  · rw [(State.faultRecord_frame _ _ _ _ _ _ _).2.2.1, hentry]
    rfl
  · rw [hentry]
    rfl

/-- The clearing of a live injected cause. -/
theorem State.clearCause_injected {s : State} {k : Fin 256} {m : Nat} (hlive : (s.slot k).inj.getLsbD (m % 32) = true) :
    s.clearCause k m true =
      let t := State.checkLoss s (s.injReported k m)
      if (t.slot k).isLive then t else (t.modSlot k (fun f => { f with setOn := 0#16 })).autoRelease k (s.slot k).setOn := by
  unfold State.clearCause State.clearCauseAt
  simp only [if_true, hlive, Bool.not_true, Bool.false_eq_true, if_false]
  rfl

theorem State.clearCause_notInjected {s : State} {k : Fin 256} {m : Nat} (h : (s.slot k).inj.getLsbD (m % 32) = false) :
    s.clearCause k m true = s := by
  unfold State.clearCause State.clearCauseAt
  simp [h]

/-- A part of a slot that no end of an AUTO source's REACTION writes. -/
theorem State.clearInj_slot {β : Type} {s : State} {k j : Fin 256} {m : Nat} (φ : FaultSlot → β)
    (hlive : (s.slot k).inj.getLsbD (m % 32) = true) (hset : k = j → ∀ (f : FaultSlot) x, φ { f with setOn := x } = φ f) :
    φ ((s.clearCause k m true).slot j) = φ ((State.checkLoss s (s.injReported k m)).slot j) := by
  rw [State.clearCause_injected hlive]
  dsimp only
  split
  · rfl
  · rw [State.autoRelease_slot]
    by_cases hkj : k = j
    · subst hkj
      rw [State.modSlot_slot_same, hset rfl]
    · rw [State.modSlot_slot_other _ _ _ _ hkj]

theorem State.checkLoss_inj (b t : State) (j : Fin 256) : ((State.checkLoss b t).slot j).inj = (t.slot j).inj := by
  unfold State.checkLoss
  split
  · by_cases hj : hostSlot 7 = j
    · subst hj
      rw [State.raiseCore_slot, State.noteRaise, State.modSlot_slot_same]
      simp
    · rw [State.raiseCore_slot_other _ _ _ _ hj]
  · rfl

theorem getLsbD_clearBit (x : Word) (p i : Nat) : (x &&& ~~~ (1#32 <<< p)).getLsbD i = (x.getLsbD i && !decide (i = p)) := by
  by_cases hi : i < 32
  · simp only [BitVec.getLsbD_and, BitVec.getLsbD_not, BitVec.getLsbD_shiftLeft, BitVec.getLsbD_one, hi, decide_true, Bool.true_and]
    congr 2
    rw [Bool.eq_iff_iff]
    simp
    omega
  · simp [BitVec.getLsbD_of_ge _ _ (not_lt.mp hi)]

theorem clearBit_of_clear {x : Word} {p : Nat} (h : x.getLsbD p = false) : x &&& ~~~ (1#32 <<< p) = x := by
  refine BitVec.eq_of_getLsbD_eq fun i _ => ?_
  rw [getLsbD_clearBit]
  by_cases hip : i = p
  · rw [hip, h, Bool.false_and]
  · simp [hip]

/-- Clearing an injected cause ends its own latch, and no other. -/
theorem State.clearInj_inj (s : State) (k j : Fin 256) (m : Nat) :
    ((s.clearCause k m true).slot j).inj = if k = j then (s.slot j).inj &&& ~~~ (1#32 <<< (m % 32)) else (s.slot j).inj := by
  by_cases hlive : (s.slot k).inj.getLsbD (m % 32) = true
  · rw [State.clearInj_slot (fun f => f.inj) hlive (fun _ _ _ => rfl), State.checkLoss_inj, State.injReported_slot]
    split
    · next hkj => subst hkj; rw [State.modSlot_slot_same]; rfl
    · next hkj => rw [State.modSlot_slot_other _ _ _ _ hkj]
  · rw [State.clearCause_notInjected (by simpa using hlive)]
    split
    · next hkj =>
      subst hkj
      exact (clearBit_of_clear (by simpa using hlive)).symm
    · rfl

/-- It leaves every real latch but that of WHEEL_LOSS. -/
theorem State.clearInj_real (s : State) {k j : Fin 256} (m : Nat) (hj : j ≠ hostSlot 7) :
    ((s.clearCause k m true).slot j).real = (s.slot j).real := by
  by_cases hlive : (s.slot k).inj.getLsbD (m % 32) = true
  · rw [State.clearInj_slot (fun f => f.real) hlive (fun _ _ _ => rfl), State.checkLoss_slot_other _ _ _ hj.symm, State.injReported_slot]
    exact State.modSlot_real_keep _ _ _ _ fun _ => rfl
  · rw [State.clearCause_notInjected (by simpa using hlive)]

section
variable {s : State} {k : Fin 256} {m : Nat} (hlive : (s.slot k).inj.getLsbD (m % 32) = true)
  (hwheels : ∀ v : WheelId, (s.wheel v).namesFault k = false)
include hlive hwheels

/-- Where no wheel names the source, no other slot is written. -/
theorem State.clearInj_other {j : Fin 256} (hj : j ≠ k) : (s.clearCause k m true).slot j = s.slot j := by
  refine (State.clearInj_slot id hlive fun hkj => absurd hkj.symm hj).trans ?_
  rw [id, State.checkLoss_same (State.injReported_wheels hwheels m), State.injReported_slot, State.modSlot_slot_other _ _ _ _ hj.symm]

/-- Of the source itself, the real latch and the sticky bit stay. -/
theorem State.clearInj_self {β : Type} (φ : FaultSlot → β) (hset : ∀ (f : FaultSlot) x, φ { f with setOn := x } = φ f)
    (hclear : ∀ f : FaultSlot, φ (f.injCleared m) = φ f) : φ ((s.clearCause k m true).slot k) = φ (s.slot k) := by
  rw [State.clearInj_slot φ hlive fun _ => hset, State.checkLoss_same (State.injReported_wheels hwheels m), State.injReported_slot,
    State.modSlot_slot_same, hclear]

theorem State.clearInj_wheels : (s.clearCause k m true).wheels = s.wheels := by
  rw [State.clearCause_injected hlive, State.checkLoss_same (State.injReported_wheels hwheels m)]
  dsimp only
  split
  · exact State.injReported_wheels hwheels m
  · simp [State.autoRelease_frame _ _ _, State.injReported_wheels hwheels]

end

/-! ## EN = 0 clears every injected latch (R361) -/

/-- What every turn of a loop reaches for its own item and keeps for the others, the loop reaches for all. -/
theorem forEach_each {α : Type} {f : α → State → State} (Q : α → State → Prop) (hreach : ∀ x t, Q x (f x t))
    (hkeep : ∀ x y t, Q x t → Q x (f y t)) (xs : List α) (s : State) : ∀ x ∈ xs, Q x (forEach xs f s) := by
  have hloop : ∀ (ys : List α) (x : α) (t : State), Q x t → Q x (forEach ys f t) := by
    intro ys x
    induction ys with
    | nil => exact fun _ h => h
    | cons y ys ih => exact fun t h => ih _ (hkeep x y t h)
  induction xs generalizing s with
  | nil => simp
  | cons y ys ih =>
    intro x hx
    obtain rfl | hx := List.mem_cons.mp hx
    · exact hloop ys x _ (hreach x s)
    · exact ih _ x hx

/-- From `s` to `t` injected latches only clear, and no real latch but that of WHEEL_LOSS changes. -/
def InjFalls (t s : State) : Prop :=
  (∀ j i, (s.slot j).inj.getLsbD i = false → (t.slot j).inj.getLsbD i = false) ∧ ∀ j, j ≠ hostSlot 7 → (t.slot j).real = (s.slot j).real

theorem InjFalls.of_slots {t s : State} (h : ∀ j, t.slot j = s.slot j) : InjFalls t s := by
  refine ⟨fun j i hi => ?_, fun j _ => ?_⟩
  · rw [h j, hi]
  · rw [h j]

theorem InjFalls.trans {a b c : State} (h : InjFalls a b) (g : InjFalls b c) : InjFalls a c :=
  ⟨fun j i hi => h.1 j i (g.1 j i hi), fun j hj => (h.2 j hj).trans (g.2 j hj)⟩

theorem InjFalls.forEach {α : Type} {f : α → State → State} (hf : ∀ x t, InjFalls (f x t) t) (xs : List α) (s : State) :
    InjFalls (forEach xs f s) s := by
  induction xs generalizing s with
  | nil => exact InjFalls.of_slots fun _ => rfl
  | cons x xs ih => exact (ih (f x s)).trans (hf x s)

theorem State.clearInj_falls (s : State) (k : Fin 256) (m : Nat) : InjFalls (s.clearCause k m true) s := by
  refine ⟨fun j i hi => ?_, fun j hj => State.clearInj_real s m hj⟩
  rw [State.clearInj_inj]
  split
  · rw [getLsbD_clearBit, hi, Bool.false_and]
  · exact hi

/-- One injected latch clears with its INJ_CLEARED event (R361). -/
def State.injCleared (o : Origin) (k : Fin 256) (m : Nat) (u : State) : State :=
  (u.report (recCode 3 0x12 0xB) o 2 (word k.1) (word m)).clearCause k m true

/-- Every injected latch of one slot clears. -/
def State.slotCleared (o : Origin) (k : Fin 256) (t : State) : State := forEach (t.slot k).injected (State.injCleared o k) t

theorem State.clearInjected_eq (s : State) (o : Origin) :
    s.clearInjected o = forEach (List.finRange 256) (State.slotCleared o) (s.modFlt (fun c => { c with pulses := [] })) := rfl

theorem State.injCleared_falls (o : Origin) (k : Fin 256) (m : Nat) (u : State) : InjFalls (State.injCleared o k m u) u :=
  (State.clearInj_falls _ k m).trans (InjFalls.of_slots fun _ => rfl)

theorem State.slotCleared_falls (o : Origin) (k : Fin 256) (t : State) : InjFalls (State.slotCleared o k t) t :=
  InjFalls.forEach (State.injCleared_falls o k) _ t

theorem State.slotCleared_clears (o : Origin) (k : Fin 256) (t : State) : ((State.slotCleared o k t).slot k).inj = 0#32 := by
  refine BitVec.eq_of_getLsbD_eq fun i hi => ?_
  rw [BitVec.getLsbD_zero]
  by_cases hlive : (t.slot k).inj.getLsbD i = true
  · have hmem : i ∈ (t.slot k).injected := by simp [FaultSlot.injected, hi, hlive]
    have hall := forEach_each (f := State.injCleared o k) (fun m u => (u.slot k).inj.getLsbD (m % 32) = false) (fun m u => by
      rw [State.injCleared, State.clearInj_inj, if_pos rfl, getLsbD_clearBit]
      simp) (fun m n u => (State.injCleared_falls o k n u).1 k (m % 32)) _ t i hmem
    rwa [Nat.mod_eq_of_lt hi] at hall
  · exact (State.slotCleared_falls o k t).1 k i (by simpa using hlive)

theorem State.clearInjected_clears (s : State) (o : Origin) (k : Fin 256) : ((s.clearInjected o).slot k).inj = 0#32 := by
  rw [State.clearInjected_eq]
  refine forEach_each (fun k t => (t.slot k).inj = 0#32) (State.slotCleared_clears o) (fun k j t hk => ?_) _ _ k (List.mem_finRange k)
  refine BitVec.eq_of_getLsbD_eq fun i _ => ?_
  rw [BitVec.getLsbD_zero]
  exact (State.slotCleared_falls o j t).1 k i (by rw [hk, BitVec.getLsbD_zero])

theorem State.clearInjected_real (s : State) (o : Origin) {k : Fin 256} (hk : k ≠ hostSlot 7) :
    ((s.clearInjected o).slot k).real = (s.slot k).real := by
  rw [State.clearInjected_eq]
  exact (InjFalls.forEach (State.slotCleared_falls o) _ _).2 k hk

/-- What no fault report writes, the clearing leaves as it is without pulses. -/
theorem OffReports.clearInjected {α : Type} {P : State → α} (h : OffReports P) (s : State) (o : Origin) :
    P (s.clearInjected o) = P (s.modFlt (fun c => { c with pulses := [] })) := by
  rw [State.clearInjected_eq]
  refine forEach_keeps P _ _ (fun k t => ?_) _
  exact forEach_keeps P _ _ (fun m u => (h.clearCause _ _ _ _).trans (h.record _ _ _ _ _ _)) t

/-! ## FLT_INJ and FLT_INJCFG (R360 to R362) -/

section
variable {s : State} {o : Origin} {w : Word} {k : Fin 256} {m v : Nat}

theorem State.slot_of_word (hk : fld w 0 8 = k.1) : toIdx 256 (fld w 0 8) = k := by
  rw [hk]
  exact Fin.ext (Nat.mod_eq_of_lt k.2)

/-- An injection that is accepted. -/
theorem State.writeInj_injects (hk : fld w 0 8 = k.1) (hm : fld w 8 8 = m) (hmem : slotHasMember (s.slotFunc k) k.1 m = true)
    (hused : slotUsed k.1 = true) (hlock : k ≠ 171) (hen : s.flt.injEn = true) (hroom : s.recd.journal.length < 2047) (hv : 0 < v) (hv4 : v < 4) :
    s.writeInj o (setFld w 16 2 v) = ((s.appendJournal 10 o (setFld w 16 2 v) 0#32).inject k m v, ⟨.ok, s.recd.seqNext, []⟩) := by
  have hslot : fld (setFld w 16 2 v) 0 8 = fld w 0 8 := fld_setFld_apart w v (by decide) (by decide)
  have hmember : fld (setFld w 16 2 v) 8 8 = m := (fld_setFld_apart w v (by decide) (by decide)).trans hm
  have hop : fld (setFld w 16 2 v) 16 2 = v := (fld_setFld w v (by decide)).trans (Nat.mod_eq_of_lt hv4)
  have hne : k.1 ≠ 171 := fun h => hlock (Fin.ext h)
  have hzero : v ≠ 0 := by omega
  simp [State.writeInj, hslot, hmember, hop, State.slot_of_word hk, hmem, hused, hne, hen, hzero, guarded, firstRefusal, refuseLow, lowest, check,
    State.change_roomy _ _ _ _ _ hroom]

theorem State.writeInj_disabled (hmem : slotHasMember (s.slotFunc (toIdx 256 (fld w 0 8))) (fld w 0 8) (fld w 8 8) = true)
    (hused : slotUsed (fld w 0 8) = true) (hne : fld w 0 8 ≠ 171) (hen : s.flt.injEn = false) (hv : 0 < v) (hv4 : v < 4) :
    s.writeInj o (setFld w 16 2 v) = (s, .notNow 0#32) := by
  have hslot : fld (setFld w 16 2 v) 0 8 = fld w 0 8 := fld_setFld_apart w v (by decide) (by decide)
  have hmember : fld (setFld w 16 2 v) 8 8 = fld w 8 8 := fld_setFld_apart w v (by decide) (by decide)
  have hop : fld (setFld w 16 2 v) 16 2 = v := (fld_setFld w v (by decide)).trans (Nat.mod_eq_of_lt hv4)
  have hix : (toIdx 256 (fld w 0 8)).1 = fld w 0 8 := Nat.mod_eq_of_lt (Nat.mod_lt _ (by decide))
  have hzero : v ≠ 0 := by omega
  simp [State.writeInj, hslot, hmember, hop, hix, hmem, hused, hne, hen, hzero, guarded, firstRefusal, refuseLow, lowest, check]

theorem State.writeInj_refused (hmem : slotHasMember (s.slotFunc (toIdx 256 (fld w 0 8))) (fld w 0 8) (fld w 8 8) = true)
    (hbad : slotUsed (fld w 0 8) = false ∨ fld w 0 8 = 171) (hv : 0 < v) (hv4 : v < 4) :
    s.writeInj o (setFld w 16 2 v) = (s, .refused 0) := by
  have hslot : fld (setFld w 16 2 v) 0 8 = fld w 0 8 := fld_setFld_apart w v (by decide) (by decide)
  have hmember : fld (setFld w 16 2 v) 8 8 = fld w 8 8 := fld_setFld_apart w v (by decide) (by decide)
  have hop : fld (setFld w 16 2 v) 16 2 = v := (fld_setFld w v (by decide)).trans (Nat.mod_eq_of_lt hv4)
  have hix : (toIdx 256 (fld w 0 8)).1 = fld w 0 8 := Nat.mod_eq_of_lt (Nat.mod_lt _ (by decide))
  have hzero : v ≠ 0 := by omega
  simp [State.writeInj, hslot, hmember, hop, hix, hmem, hbad, hzero, guarded, firstRefusal, refuseLow, lowest]

theorem State.writeInjcfg_enables (hroom : s.recd.journal.length < 2047) (hen : bit w 0 = true)
    (hdry : bit w 1 = s.flt.dryrun ∨ s.injLive = false) :
    s.writeInjcfg o w = ((s.appendJournal 1 o (word (Reg.addrNat (.flt .injcfg))) w).modFlt (fun c =>
      { c with injEn := true, dryrun := bit w 1 }), ⟨.ok, s.recd.seqNext, []⟩) := by
  have hpass : (decide (bit w 1 ≠ s.flt.dryrun) && s.injLive) = false := by obtain h | h := hdry <;> simp [h]
  simp only [State.writeInjcfg, guarded, check, hpass, State.changeWrite, State.change_roomy _ _ _ _ _ hroom, hen]
  rfl

theorem State.writeInjcfg_disables (hroom : s.recd.journal.length < 2047) (hen : bit w 0 = false) (hdry : bit w 1 = s.flt.dryrun) :
    s.writeInjcfg o w = (((s.appendJournal 1 o (word (Reg.addrNat (.flt .injcfg))) w).modFlt (fun c =>
      { c with injEn := false, dryrun := bit w 1 })).clearInjected o, ⟨.ok, s.recd.seqNext, []⟩) := by
  have hpass : (decide (bit w 1 ≠ s.flt.dryrun) && s.injLive) = false := by simp [hdry]
  simp only [State.writeInjcfg, guarded, check, hpass, State.changeWrite, State.change_roomy _ _ _ _ _ hroom, hen]
  rfl

theorem State.writeInjcfg_notNow (hlive : s.injLive = true) (hdry : bit w 1 ≠ s.flt.dryrun) : s.writeInjcfg o w = (s, .notNow 0#32) := by
  simp [State.writeInjcfg, guarded, check, hlive, hdry, firstRefusal]

end

end Sys2Proof.Machine
end

section
/-! PROOFS. FLT_INJ, FLT_INJCFG, the reaction table and the safe codes, command by command (R343, R346, R360 to R362). -/

namespace Sys2Proof.Machine

/-! ## The effect of an injection (R360) -/

theorem memberOf_lt {func s m : Nat} (h : memberOf func s m = true) : m < 32 := by
  unfold memberOf at h
  split at h <;> simp at h <;> omega

theorem slotHasMember_lt {func k m : Nat} (h : slotHasMember func k m = true) : m < 32 := by
  unfold slotHasMember at h
  split at h
  · exact memberOf_lt h
  · have hzero : m = 0 := by simpa using h
    omega

/-- The raising of an injected cause that is not instant, of a source that no wheel names: its slot alone changes, and in dry run nothing
reaches a Ring. -/
theorem State.raise_injected (s : State) {k : Fin 256} {m : Nat} (hm : m < 32) (hi : instantSource k.1 m = false)
    (hwheels : ∀ v : WheelId, (s.wheel v).namesFault k = false) :
    let t := s.raise ⟨k, m, true, 0#32, false⟩
    (t.slot k).inj = (s.slot k).inj ||| (1#32 <<< m) ∧ (t.slot k).real = (s.slot k).real ∧ (t.slot k).sticky = (s.slot k).sticky
      ∧ (t.slot k).injSticky = true ∧ (t.slot k).seen = false ∧ (∀ j, j ≠ k → t.slot j = s.slot j)
      ∧ (s.flt.dryrun = true → t.rings = s.rings ∧ t.pair = s.pair) := by
  have hcore : s.raise ⟨k, m, true, 0#32, false⟩ = s.raiseCore ⟨k, m, true, 0#32, false⟩ s.tick := State.raise_core hwheels rfl hi
  dsimp only
  rw [hcore, State.raiseCore_slot, State.noteRaise, State.modSlot_slot_same]
  refine ⟨?_, ?_, ?_, ?_, rfl, fun j hj => State.raiseCore_slot_other _ _ _ _ hj.symm, fun hdry => State.raiseCore_dry rfl hdry _⟩
  all_goals simp [hi, Nat.mod_eq_of_lt hm]

section
variable {s : State} {k : Fin 256} {m : Nat} (hoff : (s.slot k).inj.getLsbD m = false) (hm : m < 32)
include hoff hm

theorem State.inject_raises : s.inject k m 1 = s.raise ⟨k, m, true, 0#32, false⟩ := by
  simp [State.inject, Nat.mod_eq_of_lt hm, hoff]

theorem State.inject_pulses : s.inject k m 3 = (s.raise ⟨k, m, true, 0#32, false⟩).modFlt (fun c =>
    { c with pulses := c.pulses.filter (fun p => !(p.1 = k && p.2.1 = BitVec.ofNat 8 m))
      ++ [(k, BitVec.ofNat 8 m, s.clock + c.injDur.toNat)] }) := by
  simp [State.inject, Nat.mod_eq_of_lt hm, hoff]

end

/-- The state without the pulses of a member (R360). -/
def State.unpulsed (s : State) (k : Fin 256) (m : Byte) : State :=
  s.modFlt (fun c => { c with pulses := c.pulses.filter (fun p => !(p.1 = k && p.2.1 = m)) })

/-- CLEAR of a live injected cause, of a source that no wheel names. -/
theorem State.injects_clear {s : State} {k : Fin 256} {m : Nat} (hlive : (s.slot k).inj.getLsbD (m % 32) = true)
    (hwheels : ∀ v : WheelId, (s.wheel v).namesFault k = false) :
    let t := s.inject k m 2
    (t.slot k).inj = (s.slot k).inj &&& ~~~ (1#32 <<< (m % 32)) ∧ (t.slot k).real = (s.slot k).real ∧ (t.slot k).sticky = (s.slot k).sticky
      ∧ (∀ j, j ≠ k → t.slot j = s.slot j) ∧ t.flt.pulses = s.flt.pulses.filter (fun p => !(p.1 = k && p.2.1 = BitVec.ofNat 8 m))
      ∧ t.wheels = s.wheels ∧ t.recd.core = s.recd.core ∧ KeepsHost t s := by
  have hcore := fltCore_offReports.clearCause (s.unpulsed k (BitVec.ofNat 8 m)) k m true
  have hframe := (s.unpulsed k (BitVec.ofNat 8 m)).clearCause_frame k m true
  have hlive' : ((s.unpulsed k (BitVec.ofNat 8 m)).slot k).inj.getLsbD (m % 32) = true := hlive
  refine ⟨?_, ?_, ?_, fun j hj => ?_, ?_, ?_, ?_, ?_⟩
  · exact (State.clearInj_inj (s.unpulsed k (BitVec.ofNat 8 m)) k k m).trans (if_pos rfl)
  · exact State.clearInj_self hlive' hwheels (fun f => f.real) (fun _ _ => rfl) fun _ => rfl
  · exact State.clearInj_self hlive' hwheels (fun f => f.sticky) (fun _ _ => rfl) fun _ => rfl
  · exact State.clearInj_other hlive' hwheels hj
  · exact (congrArg Collector.pulses hcore :)
  · exact State.clearInj_wheels hlive' hwheels
  · exact recCore_offReports.clearCause (s.unpulsed k (BitVec.ofNat 8 m)) k m true
  · exact hframe.1

/-! ## Writes of an "img" register of the mirrored set (R127, R443) -/

theorem State.mirrorWrite_plain {b t : State} (o : Origin) {r : Reg} (w : Word) (hm : r.mirrored = true) (hz : ∀ n, r ≠ .ch n .anZscmd)
    (ha : r ≠ .fab .apply) (hj : b.recd.journal.length < t.recd.journal.length) :
    State.mirrorWrite b t o r w = t.mirrorOut o r.addr w false none := by
  unfold State.mirrorWrite
  dsimp only
  split
  next n => exact absurd rfl (hz n)
  next => rw [if_pos (by simp [hm, journaled, hj]), if_neg ha]

theorem RowActs.congr {t s : State} {e : Env} {f g : State → State} (h : RowActs t s e f)
    (hfg : ∀ T P, f { s with tickets := T, ports := P } = g { s with tickets := T, ports := P }) : RowActs t s e g := by
  obtain ⟨⟨u, hu, ht⟩, hother⟩ := h
  have heq : f u = g u := by
    rw [hu]
    exact hfg _ _
  exact ⟨⟨u, hu, heq ▸ ht⟩, hother⟩

/-- A write of an "img" register of the mirrored set that nothing refuses: a journaled change that diverges and of which the partner hears. -/
theorem State.submit_img {c : Instr} {s : State} {e : Env} {eff : State → State} {checks : List (Option Reply)} (r : Reg) (w : Word)
    (h : s.hostReady e opWrite = true) (hexec : exec c s = .next (s.submit ⟨opWrite, r.addr, w, none, e⟩)) (hm : r.mirrored = true)
    (hz : ∀ n, r ≠ .ch n .anZscmd) (ha : r ≠ .fab .apply) (hr : r ≠ .flt .release) (hroom : s.recd.journal.length < 2047)
    (hact : s.img.actPending = false) (hpass : firstRefusal checks = none)
    (hreg : ∀ T P, State.regWrite { s with tickets := T, ports := P } (portOrigin e.port) r s.tickLo w none
      = State.imgWrite { s with tickets := T, ports := P } (portOrigin e.port) r w checks eff)
    (hrecd : ∀ v, (eff v).recd = v.recd) (hports : ∀ v, (eff v).ports = v.ports) :
    ∃ t, exec c s = .next t ∧ t.answers e .ok s.recd.seqNext [] = true ∧ RowActs t s e (fun u =>
      ((eff (u.appendJournal 1 (portOrigin e.port) (word r.addrNat) w)).diverge).mirrorOut (portOrigin e.port) r.addr w false none) := by
  have himg := (hreg (s.intake ⟨opWrite, r.addr, w, none, e⟩).tickets (s.intake ⟨opWrite, r.addr, w, none, e⟩).ports).trans
    (State.imgWrite_roomy eff hroom hpass hact)
  obtain ⟨hanswer, hacts⟩ := State.submit_write_sends s e r w none _ (fun u =>
    ((eff (u.appendJournal 1 (portOrigin e.port) (word r.addrNat) w)).diverge).mirrorOut (portOrigin e.port) r.addr w false none)
    ⟨.ok, s.recd.seqNext, []⟩ h hr himg
    ((if_pos rfl).trans (State.mirrorWrite_plain _ w hm hz ha (by simp [State.diverge, hrecd, State.appendJournal_journal, State.intake_frame _ _])))
    (by simp [State.mirrorOut_frame _ _ _ _ _ _, State.diverge, hports, State.appendJournal_frame _ _ _ _ _])
  exact ⟨_, hexec, hanswer, hacts⟩

/-- A write of an "img" register that a field refuses, or that comes while an activation is pending. -/
theorem State.submit_imgRefused {c : Instr} {s : State} {e : Env} {eff : State → State} {checks : List (Option Reply)} {st : Status} {info : Word}
    {data : List Word} (r : Reg) (w : Word) (h : s.hostReady e opWrite = true)
    (hexec : exec c s = .next (s.submit ⟨opWrite, r.addr, w, none, e⟩)) (hr : r ≠ .flt .release) (hst : st ≠ .ok)
    (hreg : ∀ T P, State.regWrite { s with tickets := T, ports := P } (portOrigin e.port) r s.tickLo w none
      = State.imgWrite { s with tickets := T, ports := P } (portOrigin e.port) r w checks eff)
    (hbad : firstRefusal (checks ++ [check s.img.actPending (.notNow 0#32)]) = some ⟨st, info, data⟩) :
    ∃ t, exec c s = .next t ∧ t.answers e st info data = true ∧ RowActs t s e id := by
  have himg : ∀ T P, State.imgWrite { s with tickets := T, ports := P } (portOrigin e.port) r w checks eff
      = ({ s with tickets := T, ports := P }, ⟨st, info, data⟩) := fun T P => by
    unfold State.imgWrite guarded
    rw [hbad]
  obtain ⟨hanswer, hacts⟩ := State.submit_write_sends s e r w none _ id ⟨st, info, data⟩ h hr
    ((hreg (s.intake ⟨opWrite, r.addr, w, none, e⟩).tickets (s.intake ⟨opWrite, r.addr, w, none, e⟩).ports).trans (himg _ _)) (if_neg hst) rfl
  exact ⟨_, hexec, hanswer, hacts⟩

theorem State.regWrite_inj (s : State) (o : Origin) (fall w : Word) (obs : Option Int) : s.regWrite o (.flt .inj) fall w obs = s.writeInj o w := rfl

theorem State.regWrite_injcfg (s : State) (o : Origin) (fall w : Word) (obs : Option Int) :
    s.regWrite o (.flt .injcfg) fall w obs = s.writeInjcfg o w := rfl

theorem State.event_core_journal {s t : State} (h : t.recd.core = s.recd.core) : t.recd.journal = s.recd.journal :=
  (congrArg Recorder.journal h :)

/-- What the collector holds of injections beside its slots. -/
theorem State.injection_of_core {t s : State} (h : t.flt.core = s.flt.core) :
    t.flt.injEn = s.flt.injEn ∧ t.flt.pulses = s.flt.pulses ∧ t.flt.injDur = s.flt.injDur :=
  ⟨(congrArg Collector.injEn h :), (congrArg Collector.pulses h :), (congrArg Collector.injDur h :)⟩

theorem State.sendRing_up {s : State} {x : RingId} {c : RingCmd} (h : (s.ring x).link = true) :
    s.sendRing x c = s.modRing x (fun r => { r with cmdq := r.cmdq ++ [(c, 0)] }) := if_pos h

theorem State.clearInjected_core (s : State) (o : Origin) :
    (s.clearInjected o).flt.injEn = s.flt.injEn ∧ (s.clearInjected o).flt.pulses = [] ∧ (s.clearInjected o).recd.core = s.recd.core := by
  obtain ⟨hen, hpulses, -⟩ := State.injection_of_core (fltCore_offReports.clearInjected s o)
  exact ⟨hen, hpulses, recCore_offReports.clearInjected s o⟩

/-- What an accepted FLT_INJ does. -/
theorem State.submit_injects {c : Instr} {s : State} {e : Env} {w : Word} {k : Fin 256} {m v : Nat} (h : s.hostReady e opWrite = true)
    (hexec : exec c s = .next (s.submit ⟨opWrite, Reg.addr (.flt .inj), setFld w 16 2 v, none, e⟩)) (hk : fld w 0 8 = k.1) (hm : fld w 8 8 = m)
    (hmem : slotHasMember (s.slotFunc k) k.1 m = true) (hused : slotUsed k.1 = true) (hlock : k ≠ 171) (hen : s.flt.injEn = true)
    (hroom : s.recd.journal.length < 2047) (hv : 0 < v) (hv4 : v < 4) :
    ∃ t, exec c s = .next t ∧ t.answers e .ok s.recd.seqNext [] = true ∧ RowActs t s e (fun u =>
      (u.appendJournal 10 (portOrigin e.port) (setFld w 16 2 v) 0#32).inject k m v) :=
  State.submit_unmirrored (.flt .inj) (setFld w 16 2 v) h hexec
    (fun _ _ => (State.regWrite_inj _ _ _ _ _).trans (State.writeInj_injects hk hm hmem hused hlock hen hroom hv hv4))
    (fun u => by simp [State.inject_frame _ _ _ _, State.appendJournal_frame _ _ _ _ _])

/-- The answer of an injection that is not accepted, whatever it asks. -/
theorem State.submit_injRefused {c : Instr} {s : State} {e : Env} {w : Word} {st : Status} {v : Nat} (h : s.hostReady e opWrite = true)
    (hexec : exec c s = .next (s.submit ⟨opWrite, Reg.addr (.flt .inj), setFld w 16 2 v, none, e⟩))
    (hwrite : ∀ T P, State.writeInj { s with tickets := T, ports := P } (portOrigin e.port) (setFld w 16 2 v)
      = ({ s with tickets := T, ports := P }, ⟨st, 0#32, []⟩)) :
    ∃ t, exec c s = .next t ∧ t.answers e st 0#32 [] = true ∧ RowActs t s e id :=
  State.submit_unmirrored (.flt .inj) (setFld w 16 2 v) h hexec (fun _ _ => (State.regWrite_inj _ _ _ _ _).trans (hwrite _ _))

/-- Field 0 is the lowest (R75). -/
theorem lowest_concat_zero (fs : List (Bool × Nat)) : lowest (fs ++ [(true, 0)]) = some 0 := by
  induction fs with
  | nil => rfl
  | cons f fs ih => cases hf : f.1 <;> simp [lowest, ih, hf]

theorem reactBad_refused {k : Fin 256} {w : Word} (h : 199 ≤ k.1 ∨ fld w 0 2 = 3 ∨ fld w 0 2 < (slotRow k.1).minCls) :
    refuseLow (reactBad k.1 w) = some (.refused 0) := by
  have hbad : (!slotUsed k.1 || fld w 0 2 = 3 || decide (fld w 0 2 < (slotRow k.1).minCls) || ((slotRow k.1).fixed && fld w 0 2 ≠ 2)) = true := by
    obtain h | h | h := h
    · simp [slotUsed, h]
    · simp [h]
    · simp [h]
  have hlow : lowest (reactBad k.1 w) = some 0 := by
    unfold reactBad
    dsimp only
    rw [hbad]
    exact lowest_concat_zero [_, _]
  rw [refuseLow, hlow]
  rfl

/-- What FLT_INJCFG with EN = 0 writes (R361). -/
def State.injcfgOff (o : Origin) (w : Word) (u : State) : State :=
  ((u.appendJournal 1 o (word (Reg.addrNat (.flt .injcfg))) w).modFlt (fun c => { c with injEn := false, dryrun := bit w 1 })).clearInjected o

section
variable (o : Origin) (w : Word) (u : State)

theorem State.writeInjcfg_off (hroom : u.recd.journal.length < 2047) (hen : bit w 0 = false) (hdry : bit w 1 = u.flt.dryrun) :
    u.writeInjcfg o w = (State.injcfgOff o w u, ⟨.ok, u.recd.seqNext, []⟩) := State.writeInjcfg_disables hroom hen hdry

theorem State.injcfgOff_keeps : KeepsHost (State.injcfgOff o w u) u := (State.clearInjected_frame _ o).1

theorem State.injcfgOff_ports : (State.injcfgOff o w u).ports = u.ports := by
  simp [State.injcfgOff, State.clearInjected_frame _ _, State.modFlt, State.appendJournal_frame _ _ _ _ _]

theorem State.injcfgOff_collector : (State.injcfgOff o w u).flt.injEn = false ∧ (State.injcfgOff o w u).flt.pulses = [] := by
  obtain ⟨hen, hpulses, -⟩ := State.clearInjected_core
    ((u.appendJournal 1 o (word (Reg.addrNat (.flt .injcfg))) w).modFlt (fun c => { c with injEn := false, dryrun := bit w 1 })) o
  exact ⟨hen, hpulses⟩

theorem State.injcfgOff_journal : (State.injcfgOff o w u).recd.journal
    = u.recd.journal ++ [u.journalRecord 1 o (word (Reg.addrNat (.flt .injcfg))) w] := by
  obtain ⟨-, -, hrecd⟩ := State.clearInjected_core
    ((u.appendJournal 1 o (word (Reg.addrNat (.flt .injcfg))) w).modFlt (fun c => { c with injEn := false, dryrun := bit w 1 })) o
  exact State.event_core_journal hrecd

theorem State.injcfgOff_inj (k : Fin 256) : ((State.injcfgOff o w u).slot k).inj = 0#32 := State.clearInjected_clears _ o k

theorem State.injcfgOff_real {k : Fin 256} (hk : k ≠ hostSlot 7) : ((State.injcfgOff o w u).slot k).real = (u.slot k).real :=
  State.clearInjected_real _ o hk

end

/-- FLT_INJCFG with EN = 0 and the DRYRUN that stands. -/
theorem State.submit_injcfgOff {e : Env} {w : Word} {s : State} (h : s.hostReady e opWrite = true) (hroom : s.recd.journal.length < 2047)
    (hen : bit w 0 = false) (hdry : bit w 1 = s.flt.dryrun) :
    ∃ t, exec (.fltInjcfgWrite e w) s = .next t ∧ t.answers e .ok s.recd.seqNext [] = true ∧ t.flt.injEn = false ∧ t.flt.pulses = []
      ∧ (∀ k, (t.slot k).inj = 0#32) ∧ (∀ k : Fin 256, k ≠ hostSlot 7 → (t.slot k).real = (s.slot k).real)
      ∧ t.recd.journal = s.recd.journal ++ [s.journalRecord 1 (portOrigin e.port) (word (Reg.addrNat (.flt .injcfg))) w] ∧ RowFrame t s e := by
  obtain ⟨t, hexec, hanswer, hacts⟩ := State.submit_unmirrored (c := .fltInjcfgWrite e w) (.flt .injcfg) w h rfl
    (g := State.injcfgOff (portOrigin e.port) w) (st := .ok) (info := s.recd.seqNext) (data := [])
    (fun T P => (State.regWrite_injcfg _ _ _ _ _).trans
      (State.writeInjcfg_off (portOrigin e.port) w { s with tickets := T, ports := P } hroom hen hdry))
    (State.injcfgOff_ports _ _)
  obtain ⟨T, P, ht⟩ := hacts.left
  have hkeeps := State.injcfgOff_keeps (portOrigin e.port) w { s with tickets := T, ports := P }
  obtain ⟨hen', hpulses⟩ := State.injcfgOff_collector (portOrigin e.port) w { s with tickets := T, ports := P }
  have hjournal := State.injcfgOff_journal (portOrigin e.port) w { s with tickets := T, ports := P }
  have hinj := State.injcfgOff_inj (portOrigin e.port) w { s with tickets := T, ports := P }
  have hreal := fun k hk => State.injcfgOff_real (k := k) (portOrigin e.port) w { s with tickets := T, ports := P } hk
  generalize State.injcfgOff (portOrigin e.port) w { s with tickets := T, ports := P } = v at *
  obtain ⟨hpending, hclock, hvio, hphase, hready, -, -, -, htrecd, -, htflt, -⟩ := ht.same
  obtain ⟨gpending, gclock, gvio, gphase, -, -, gready, -⟩ := hkeeps
  have hslot := fun j => State.slot_of_flt htflt j
  exact ⟨t, hexec, hanswer, (congrArg Collector.injEn htflt).trans hen', (congrArg Collector.pulses htflt).trans hpulses,
    fun k => (congrArg FaultSlot.inj (hslot k)).trans (hinj k), fun k hk => (congrArg FaultSlot.real (hslot k)).trans (hreal k hk),
    (congrArg Recorder.journal htrecd).trans hjournal,
    RowFrame.of ⟨hpending.trans gpending, hclock.trans gclock, hvio.trans gvio, hphase.trans gphase, hready.trans gready⟩ hacts.2⟩

/-- Settles O52: each command writes its register once, and what that write reaches is told by the lemmas above. -/
theorem injectionAndTheReactionTable : Obligations.InjectionAndTheReactionTable := by
  intro e w s
  refine ⟨?_, ?_, ?_, ?_, ?_, ?_, ?_, ?_, ?_, ?_, ?_, ?_, ?_, ?_, ?_⟩
  · intro k m h hk hm hmem hused hlock hi hen hroom hoff hwheels
    have hlt : m < 32 := slotHasMember_lt hmem
    obtain ⟨t, hexec, hanswer, hacts⟩ := State.submit_injects (c := .injRaise e w) (v := 1) h rfl hk hm hmem hused hlock hen hroom (by decide)
      (by decide)
    have hraise := hacts.congr (g := fun u => (u.appendJournal 10 (portOrigin e.port) (setFld w 16 2 1) 0#32).raise ⟨k, m, true, 0#32, false⟩)
      (fun _ _ => State.inject_raises hoff hlt)
    obtain ⟨T, P, ht⟩ := hraise.left
    have hrecd := State.event_core_journal (recCore_offReports.raise (State.appendJournal { s with tickets := T, ports := P } 10
      (portOrigin e.port) (setFld w 16 2 1) 0#32) ⟨k, m, true, 0#32, false⟩)
    obtain ⟨hinj, hreal, hsticky, hinjSticky, hseen, hother, hdry⟩ := State.raise_injected (State.appendJournal
      { s with tickets := T, ports := P } 10 (portOrigin e.port) (setFld w 16 2 1) 0#32) hlt hi hwheels
    obtain ⟨-, -, -, htrecd, -, htflt, -, htrings, -, htpair, -⟩ := ht.device
    have hslot := fun j => State.slot_of_flt htflt j
    rw [← hslot k] at hinj hreal hsticky hinjSticky hseen
    exact ⟨t, hexec, hanswer, hinj, hreal, hsticky, hinjSticky, hseen, fun j hj => (hslot j).trans (hother j hj),
      (congrArg Recorder.journal htrecd).trans hrecd,
      fun hd => ⟨htrings.trans (hdry hd).1, htpair.trans (hdry hd).2⟩, hraise⟩
  · intro k m h hk hm hmem hused hlock hen hroom hon hwheels
    have hmod : m % 32 = m := Nat.mod_eq_of_lt (slotHasMember_lt hmem)
    obtain ⟨t, hexec, hanswer, hacts⟩ := State.submit_injects (c := .injClear e w) (v := 2) h rfl hk hm hmem hused hlock hen hroom (by decide)
      (by decide)
    obtain ⟨T, P, ht⟩ := hacts.left
    have hclear := State.injects_clear (s := State.appendJournal { s with tickets := T, ports := P } 10 (portOrigin e.port) (setFld w 16 2 2) 0#32)
      (k := k) (m := m) (by rw [hmod]; exact hon) hwheels
    rw [hmod] at hclear
    obtain ⟨hinj, hreal, hsticky, hother, hpulses, hwheel, hrecd, hframe⟩ := hclear
    obtain ⟨hpending, hclock, hvio, hphase, hready, -, -, -, htrecd, htwheels, htflt, -⟩ := ht.same
    obtain ⟨gpending, gclock, gvio, gphase, -, -, gready, -⟩ := hframe
    have hslot := fun j => State.slot_of_flt htflt j
    rw [← hslot k] at hinj hreal hsticky
    exact ⟨t, hexec, hanswer, hinj, hreal, hsticky, fun j hj => (hslot j).trans (hother j hj),
      (congrArg Collector.pulses htflt).trans hpulses, (congrArg Recorder.journal htrecd).trans (State.event_core_journal hrecd),
      htwheels.trans hwheel, RowFrame.of ⟨hpending.trans gpending, hclock.trans gclock, hvio.trans gvio, hphase.trans gphase,
        hready.trans gready⟩ hacts.2⟩
  · intro k m h hk hm hmem hused hlock hi hen hroom hoff hwheels
    have hlt : m < 32 := slotHasMember_lt hmem
    obtain ⟨t, hexec, hanswer, hacts⟩ := State.submit_injects (c := .injPulse e w) (v := 3) h rfl hk hm hmem hused hlock hen hroom (by decide)
      (by decide)
    obtain ⟨T, P, ht⟩ := hacts.left
    have hpulse := State.inject_pulses (s := State.appendJournal { s with tickets := T, ports := P } 10 (portOrigin e.port) (setFld w 16 2 3) 0#32)
      hoff hlt
    rw [hpulse] at ht
    have hreports := State.raise_reports (State.appendJournal { s with tickets := T, ports := P } 10 (portOrigin e.port) (setFld w 16 2 3) 0#32)
      ⟨k, m, true, 0#32, false⟩
    obtain ⟨hinj, hreal, -, -, -, hother, -⟩ := State.raise_injected (State.appendJournal
      { s with tickets := T, ports := P } 10 (portOrigin e.port) (setFld w 16 2 3) 0#32) hlt hi hwheels
    obtain ⟨⟨gpending, gclock, gvio, gphase, -, -, gready, -⟩, -, hrecd, -, -, -, hflt⟩ := hreports
    obtain ⟨hpending, hclock, hvio, hphase, hready, -, -, -, htrecd, -, htflt, -⟩ := ht.same
    have hslot := fun j => State.slot_of_flt htflt j
    refine ⟨t, hexec, hanswer, (congrArg FaultSlot.inj (hslot k)).trans hinj, (congrArg FaultSlot.real (hslot k)).trans hreal, ?_,
      fun j hj => (hslot j).trans (hother j hj), (congrArg Recorder.journal htrecd).trans (State.event_core_journal hrecd),
      RowFrame.of ⟨hpending.trans gpending, hclock.trans gclock, hvio.trans gvio, hphase.trans gphase, hready.trans gready⟩ hacts.2⟩
    have hdur : (State.raise _ _).flt.injDur = s.flt.injDur := (congrArg Collector.injDur hflt :)
    rw [congrArg Collector.pulses htflt, ← hdur]
    exact List.mem_append_right _ (List.mem_singleton.mpr rfl)
  · intro h hmem hused hne hen
    refine ⟨?_, ?_, ?_⟩
    · exact State.submit_injRefused (v := 1) h rfl fun _ _ => State.writeInj_disabled hmem hused hne hen (by decide) (by decide)
    · exact State.submit_injRefused (v := 2) h rfl fun _ _ => State.writeInj_disabled hmem hused hne hen (by decide) (by decide)
    · exact State.submit_injRefused (v := 3) h rfl fun _ _ => State.writeInj_disabled hmem hused hne hen (by decide) (by decide)
  · intro h hmem hbad
    refine ⟨?_, ?_, ?_⟩
    · exact State.submit_injRefused (v := 1) h rfl fun _ _ => State.writeInj_refused hmem hbad (by decide) (by decide)
    · exact State.submit_injRefused (v := 2) h rfl fun _ _ => State.writeInj_refused hmem hbad (by decide) (by decide)
    · exact State.submit_injRefused (v := 3) h rfl fun _ _ => State.writeInj_refused hmem hbad (by decide) (by decide)
  · intro k m due hp hdue hm hon hwheels
    have hlive : ((s.unpulsed k m).slot k).inj.getLsbD (m.toNat % 32) = true := by
      show (s.slot k).inj.getLsbD (m.toNat % 32) = true
      rw [hon, Nat.mod_eq_of_lt hm]
      simp [hm]
    have hexec : exec (.injPulseEnd k m) s = .next ((s.unpulsed k m).clearCause k m.toNat true) := by
      show execInjPulseEnd k m s = _
      rw [execInjPulseEnd, whenDo, if_pos (by simp [hp, hdue])]
      rfl
    have hframe := (s.unpulsed k m).clearCause_frame k m.toNat true
    refine ⟨_, hexec, ?_, ?_, State.clearInj_self hlive hwheels (fun f => f.real) (fun _ _ => rfl) fun _ => rfl,
      State.clearInj_self hlive hwheels (fun f => f.sticky) (fun _ _ => rfl) fun _ => rfl,
      fun j hj => State.clearInj_other hlive hwheels hj, State.clearInj_wheels hlive hwheels, hframe.1, hframe.2.1⟩
    · have hpulses : ((s.unpulsed k m).clearCause k m.toNat true).flt.pulses = (s.unpulsed k m).flt.pulses :=
        (congrArg Collector.pulses (fltCore_offReports.clearCause (s.unpulsed k m) k m.toNat true) :)
      rw [hpulses]
      simp [State.unpulsed, State.modFlt, hp]
    · have hinj : (((s.unpulsed k m).clearCause k m.toNat true).slot k).inj = (s.slot k).inj &&& ~~~ (1#32 <<< (m.toNat % 32)) :=
        (State.clearInj_inj (s.unpulsed k m) k k m.toNat).trans (if_pos rfl)
      rw [hinj, hon, Nat.mod_eq_of_lt hm, BitVec.and_not_self]
      rfl
  · intro k m due hp hdue
    show execInjPulseEnd k m s = _
    rw [execInjPulseEnd, whenDo, if_neg (by simp [hp, hdue])]
  · intro h hroom hen hdry
    exact State.submit_unmirrored (.flt .injcfg) w h rfl
      (fun _ _ => (State.regWrite_injcfg _ _ _ _ _).trans (State.writeInjcfg_enables hroom hen hdry))
  · intro h hroom hen hdry
    exact State.submit_injcfgOff h hroom hen hdry
  · intro h hlive hdry
    exact State.submit_unmirrored (.flt .injcfg) w h rfl
      (fun _ _ => (State.regWrite_injcfg _ _ _ _ _).trans (State.writeInjcfg_notNow hlive hdry))
  · intro k h hroom hact hlow
    exact State.submit_img (.fltReact k) w h rfl rfl (by simp) (by simp) (by simp) hroom hact
      (checks := [refuseLow (reactBad k.1 w)]) (by simp [refuseLow, hlow, firstRefusal]) (fun _ _ => rfl) (fun _ => rfl) (fun _ => rfl)
  · intro k h hbad
    exact State.submit_imgRefused (.fltReact k) w h rfl (by simp) nofun (checks := [refuseLow (reactBad k.1 w)]) (fun _ _ => rfl)
      (by rw [reactBad_refused hbad]; rfl)
  · intro k h hlow hact
    exact State.submit_imgRefused (.fltReact k) w h rfl (by simp) nofun (checks := [refuseLow (reactBad k.1 w)]) (fun _ _ => rfl)
      (by simp [refuseLow, hlow, firstRefusal, check, hact, Reply.notNow])
  · intro n h hroom hact hsafe hlink
    obtain ⟨t, hexec, hanswer, hacts⟩ := State.submit_img (c := .fltChsafeWrite e n w) (.fltChsafe n) w h rfl rfl (by simp) (by simp) (by simp)
      hroom hact (checks := [refuseLow [(!safeAllowed (s.chan n).cfg.func (fld w 0 3), 0)]])
      (by simp [refuseLow, lowest, hsafe, firstRefusal]) (fun _ _ => rfl) (fun v => by simp [State.sendRing_frame _ _ _, State.modFlt])
      (fun v => by simp [State.sendRing_frame _ _ _, State.modFlt])
    refine ⟨t, hexec, hanswer, hacts.congr fun T P => ?_⟩
    exact congrArg (fun v : State => v.diverge.mirrorOut (portOrigin e.port) (Reg.addr (.fltChsafe n)) w false none) (State.sendRing_up hlink)
  · intro n h hsafe
    exact State.submit_imgRefused (.fltChsafe n) w h rfl (by simp) nofun
      (checks := [refuseLow [(!safeAllowed (s.chan n).cfg.func (fld w 0 3), 0)]]) (fun _ _ => rfl)
      (by simp [refuseLow, lowest, hsafe, firstRefusal, Reply.refused, word])

end Sys2Proof.Machine
end

section
/-! PROOFS. The Ringmaster's judgement of its pair: what it keeps of the role, the frames, the sources and the rest (R431, R434, R451). -/

namespace Sys2Proof.Machine

/-! ## What a unit says aside: the Ringmaster without its frames and without the role that it told the Rings last -/

/-- The Ringmaster without what it sends. -/
def Pair.hush (p : Pair) : Pair :=
  { p with toldRole := Pair.reset.toldRole, tx := [], sentHeartbeat := [], sentQual := [] }

theorem State.post_hush (s : State) (f : TzFrame) : (s.post f).pair.hush = s.pair.hush := by
  unfold State.post
  split <;> rfl

theorem State.sendState_hush (s : State) : s.sendState.pair.hush = s.pair.hush := by
  have hbeat : ∀ t : State, t.sendHeartbeat.pair.hush = t.pair.hush := fun _ => State.post_hush _ _
  have hqual : ∀ t : State, t.sendQual.pair.hush = t.pair.hush := fun _ => State.post_hush _ _
  unfold State.sendState
  split
  · rw [hqual, hbeat]
  · rfl

theorem State.sendRing_pair (s : State) (x : RingId) (c : RingCmd) : (s.sendRing x c).pair = s.pair := by simp [State.sendRing_frame _ _ _]

theorem State.tellRole_hush (s : State) (b : Bool) (p : BitVec 16) : (s.tellRole b p).pair.hush = s.pair.hush := by
  unfold State.tellRole
  split
  · rfl
  · simp only [List.foldl_cons, List.foldl_nil, State.sendRing_pair]
    rfl

theorem State.setRole_hush {s : State} {r : Role} (h : s.pair.role ≠ r) (k : Nat) (p : Word) :
    (s.setRole r k p).pair.hush = (s.pair.takeRole r s.clock).hush := by
  unfold State.setRole
  rw [if_neg h, State.event_pair]
  split
  · rfl
  · rw [State.tellRole_hush]
    rfl

/-- UQ_CAUSE takes new values, and STANDBY and UNQUALIFIED follow them (R431, R434). -/
def Pair.takeUq (p : Pair) (uq : BitVec 10) (clock : Nat) : Pair :=
  if p.uq = uq then p
  else
    let q := { p with uq := uq, evt := p.evt ||| 2#6 }
    if p.role = .standby ∧ uq ≠ 0#10 then q.takeRole .unqualified clock
    else if p.role = .unqualified ∧ uq = 0#10 then q.takeRole .standby clock
    else q

theorem State.setUq_hush (s : State) (uq : BitVec 10) (k : Nat) : (s.setUq uq k).pair.hush = (s.pair.takeUq uq s.clock).hush := by
  unfold State.setUq Pair.takeUq
  by_cases hsame : s.pair.uq = uq
  · rw [if_pos hsame, if_pos hsame]
  rw [if_neg hsame, if_neg hsame]
  by_cases hun : s.pair.role = .unpaired
  · rw [if_pos hun, if_neg (by simp [hun]), if_neg (by simp [hun])]
    rfl
  rw [if_neg hun]
  dsimp only
  rw [State.sendState_hush]
  by_cases hdown : s.pair.role = .standby ∧ uq ≠ 0#10
  · rw [if_pos hdown, if_pos (by simpa [State.event_pair] using hdown), State.setRole_hush (by simp [State.event_pair, hdown])]
    rfl
  · rw [if_neg hdown, if_neg (by simpa [State.event_pair] using hdown)]
    by_cases hup : s.pair.role = .unqualified ∧ uq = 0#10
    · rw [if_pos hup, if_pos (by simpa [State.event_pair] using hup), State.setRole_hush (by simp [State.event_pair, hup])]
      rfl
    · rw [if_neg hup, if_neg (by simpa [State.event_pair] using hup)]
      rfl


/-! ## What every judgement of the Ringmaster keeps of a role (R431, R434) -/

/-- The unit follows, with a copy that is stale. -/
def Pair.stays (p : Pair) : Prop := p.stale = true ∧ p.role ≠ .unpaired ∧ p.leads = false

/-- The role is that of a unit that neither claims nor leads. -/
def Pair.resting (p : Pair) : Prop := p.role = .standby ∨ p.role = .unqualified

/-- From `p` to `q` events of the pair only arise, a copy stays stale, the time of STARTING does not come back, and a unit that rests goes on
resting, by its causes. -/
structure Pair.Moved (q p : Pair) : Prop where
  evt : ∀ i, p.evt.getLsbD i = true → q.evt.getLsbD i = true
  stays : p.stays → q.stays
  begun : p.role ≠ .starting → q.role ≠ .starting
  paired : p.role ≠ .unpaired → q.role ≠ .unpaired
  resting : p.resting → q.resting
  rests : p.rests → q.rests

theorem Pair.resting_of_rests {p : Pair} (h : p.rests) : p.resting := by
  unfold Pair.rests at h
  split at h
  · exact Or.inl h
  · exact Or.inr h

theorem Pair.resting_not_holds {p : Pair} (h : p.resting) : p.holdsRole = false := by
  obtain h | h := h <;> simp [Pair.holdsRole, h]

theorem Pair.Moved.trans {a b c : Pair} (h : a.Moved b) (g : b.Moved c) : a.Moved c :=
  ⟨fun i hi => h.evt i (g.evt i hi), fun hs => h.stays (g.stays hs), fun hb => h.begun (g.begun hb), fun hp => h.paired (g.paired hp),
    fun hr => h.resting (g.resting hr), fun hr => h.rests (g.rests hr)⟩

/-- Where role, causes and staleness stay, events may arise. -/
theorem Pair.Moved.of_fields {q p : Pair} (hrole : q.role = p.role) (huq : q.uq = p.uq) (hstale : q.stale = p.stale)
    (hevt : ∀ i, p.evt.getLsbD i = true → q.evt.getLsbD i = true) : q.Moved p where
  evt := hevt
  stays h := by rwa [Pair.stays, Pair.leads, hrole, hstale]
  begun h := by rwa [hrole]
  paired h := by rwa [hrole]
  resting h := by rwa [Pair.resting, hrole]
  rests h := by rwa [Pair.rests, hrole, huq]

theorem Pair.Moved.of_hush {q p : Pair} (h : q.hush = p.hush) : q.Moved p :=
  .of_fields (congrArg Pair.role h :) (congrArg Pair.uq h :) (congrArg Pair.stale h :)
    fun i hi => (congrArg (fun r : Pair => r.evt.getLsbD i) h :).trans hi

theorem Pair.Moved.refl (p : Pair) : p.Moved p := .of_hush rfl

theorem Pair.takeRole_evt (p : Pair) (r : Role) (c i : Nat) (h : p.evt.getLsbD i = true) : (p.takeRole r c).evt.getLsbD i = true := by
  simp [Pair.takeRole, Pair.refresh, h]

theorem Pair.takeRole_stays {p : Pair} {r : Role} (c : Nat) (hr : r = .standby ∨ r = .unqualified) (h : p.stays) : (p.takeRole r c).stays := by
  obtain ⟨hstale, -, -⟩ := h
  obtain rfl | rfl := hr <;> simp [Pair.stays, Pair.leads, Pair.takeRole, Pair.refresh, hstale]

/-- A unit that does not rest comes to rest; one that rests takes the role that its causes give. -/
theorem Pair.takeRole_moved {p : Pair} {r : Role} (c : Nat) (hr : r = .standby ∨ r = .unqualified) (hp : p.resting → r = p.restRole) :
    (p.takeRole r c).Moved p where
  evt i h := p.takeRole_evt r c i h
  stays h := Pair.takeRole_stays c hr h
  begun _ := by
    show r ≠ .starting
    obtain rfl | rfl := hr <;> simp
  paired _ := by
    show r ≠ .unpaired
    obtain rfl | rfl := hr <;> simp
  resting _ := hr
  rests h := hp (Pair.resting_of_rests h)

theorem Pair.takeUq_role {p : Pair} {uq : BitVec 10} {c : Nat} (h : ¬ p.resting) : (p.takeUq uq c).role = p.role := by
  unfold Pair.takeUq
  split
  · rfl
  · dsimp only
    rw [if_neg fun hd => h (Or.inl hd.1), if_neg fun hu => h (Or.inr hu.1)]

theorem Pair.takeUq_moved (p : Pair) (uq : BitVec 10) (c : Nat) : (p.takeUq uq c).Moved p := by
  unfold Pair.takeUq
  split
  · exact .refl p
  next hne =>
    dsimp only
    have hquiet : ∀ i, p.evt.getLsbD i = true → (p.evt ||| 2#6).getLsbD i = true := fun i hi => by simp [hi]
    split
    · next hdown =>
      exact ⟨fun i hi => Pair.takeRole_evt _ _ _ i (hquiet i hi), fun hs => Pair.takeRole_stays c (Or.inr rfl) hs, fun _ => by
        show Role.unqualified ≠ _
        simp, fun _ => by
        show Role.unqualified ≠ _
        simp, fun _ => Or.inr rfl, fun _ => by
        show Role.unqualified = if uq = 0#10 then Role.standby else _
        rw [if_neg hdown.2]⟩
    · next hdown =>
      split
      · next hup =>
        exact ⟨fun i hi => Pair.takeRole_evt _ _ _ i (hquiet i hi), fun hs => Pair.takeRole_stays c (Or.inl rfl) hs, fun _ => by
          show Role.standby ≠ _
          simp, fun _ => by
          show Role.standby ≠ _
          simp, fun _ => Or.inl rfl, fun _ => by
          show Role.standby = if uq = 0#10 then Role.standby else _
          rw [if_pos hup.2]⟩
      · next hup =>
        refine ⟨hquiet, fun hs => hs, fun hb => hb, fun hp => hp, fun hr => hr, fun hr => ?_⟩
        show p.role = if uq = 0#10 then Role.standby else .unqualified
        have hr : p.role = if p.uq = 0#10 then Role.standby else .unqualified := hr
        by_cases hz : p.uq = 0#10
        · rw [if_pos hz] at hr
          exact absurd (hz.trans (by simpa [hr] using hdown : uq = 0#10).symm) hne
        · rw [if_neg hz] at hr
          rw [hr, if_neg fun hu => hup ⟨hr, hu⟩]

theorem State.setUq_pairMoved (s : State) (uq : BitVec 10) (k : Nat) : (s.setUq uq k).pair.Moved s.pair :=
  (Pair.Moved.of_hush (s.setUq_hush uq k)).trans (s.pair.takeUq_moved uq s.clock)

theorem State.setUq_role {s : State} (h : ¬ s.pair.resting) (uq : BitVec 10) (k : Nat) : (s.setUq uq k).pair.role = s.pair.role :=
  (congrArg Pair.role (s.setUq_hush uq k) :).trans (Pair.takeUq_role h)

theorem State.endSwap_pairMoved (s : State) (d : Bool) (c : Nat) : (s.endSwap d c).pair.Moved s.pair := by
  unfold State.endSwap
  split
  · exact .refl _
  · exact .of_fields rfl rfl rfl fun i hi => by simp [State.event_pair, hi]

theorem State.endSwap_role (s : State) (d : Bool) (c : Nat) : (s.endSwap d c).pair.role = s.pair.role := by
  unfold State.endSwap
  split <;> rfl

/-- The UNQUALIFIED role that follows a role given up (R434, R438). -/
theorem State.giveUp_pairMoved {s : State} (h : ¬ s.pair.resting) (reason cause : Nat) : (s.giveUp reason cause).pair.Moved s.pair := by
  unfold State.giveUp
  dsimp only
  have hfirst : ∀ u : State, u = s ∨ u = s.endSwap false 4 → u.pair.Moved s.pair ∧ u.pair.role = s.pair.role := by
    rintro u (rfl | rfl)
    · exact ⟨.refl _, rfl⟩
    · exact ⟨s.endSwap_pairMoved _ _, s.endSwap_role _ _⟩
  obtain ⟨hmoved, hrole⟩ := hfirst (if s.pair.role = .swapping && s.pair.driving then s.endSwap false 4 else s)
    (by split; exacts [Or.inr rfl, Or.inl rfl])
  generalize (if s.pair.role = .swapping && s.pair.driving then s.endSwap false 4 else s) = u at hmoved hrole
  have hrest : ¬ u.pair.resting := by rwa [Pair.resting, hrole]
  have hthen := State.setUq_role hrest (u.pair.uq ||| (1#10 <<< cause)) 7
  have hstill : ¬ (u.setUq (u.pair.uq ||| (1#10 <<< cause))).pair.resting := by rwa [Pair.resting, hthen]
  refine Pair.Moved.trans (b := (u.setUq (u.pair.uq ||| (1#10 <<< cause))).pair) ?_ ((State.setUq_pairMoved _ _ _).trans hmoved)
  refine (Pair.Moved.of_hush (State.sendState_hush _)).trans ((Pair.Moved.of_hush (State.setRole_hush ?_ _ _)).trans ?_)
  · rw [State.sendSource, State.sendRing_pair]
    exact fun hr => hstill (Or.inr hr)
  · rw [State.sendSource, State.sendRing_pair]
    refine (Pair.takeRole_moved _ (Or.inr rfl) ?_).trans ?_
    · exact fun hr => absurd hr hstill
    · exact .of_fields rfl rfl rfl fun _ h => h

theorem State.roleRelease_pairMoved (s : State) : s.roleRelease.pair.Moved s.pair := by
  unfold State.roleRelease
  split
  · next hholds => exact State.giveUp_pairMoved (fun hr => by simp [Pair.resting_not_holds hr] at hholds) 3 5
  · exact .refl _

/-! ## What a fault report and a judgement keep: the role's moves, the frames to the Rings, the sticky bits -/

/-- From `s` to `t` the role makes the moves of a judgement, no frame to a Ring is lost, and no sticky bit clears. -/
structure State.Moved (t s : State) : Prop where
  pair : t.pair.Moved s.pair
  sent : ∀ x f, f ∈ (s.ring x).cmdq → f ∈ (t.ring x).cmdq
  sticky : ∀ k, (s.slot k).sticky = true → (t.slot k).sticky = true

theorem State.Moved.trans {a b c : State} (h : a.Moved b) (g : b.Moved c) : a.Moved c :=
  ⟨h.pair.trans g.pair, fun x f hf => h.sent x f (g.sent x f hf), fun k hk => h.sticky k (g.sticky k hk)⟩

theorem State.Moved.of_pair {t s : State} (h : t.pair.Moved s.pair) (hr : t.rings = s.rings) (hf : t.flt = s.flt) : t.Moved s :=
  ⟨h, fun x f hx => by rwa [State.ring_of_rings hr], fun k hk => by rwa [State.slot_of_flt hf]⟩

theorem State.Moved.refl (s : State) : s.Moved s := .of_pair (.refl _) rfl rfl

theorem State.Moved.of_same {t s : State} (h : t.pair = s.pair) (hr : t.rings = s.rings) (hf : t.flt = s.flt) : t.Moved s :=
  .of_pair (h ▸ .refl _) hr hf

theorem State.Moved.ite {c : Prop} [Decidable c] {a b s : State} (ha : a.Moved s) (hb : b.Moved s) : State.Moved (if c then a else b) s := by
  split <;> assumption

theorem State.sendRing_moved (s : State) (x : RingId) (c : RingCmd) : (s.sendRing x c).Moved s where
  pair := by
    rw [State.sendRing_pair]
    exact .refl _
  sent _ _ h := State.sendRing_keeps_frame h
  sticky k h := by rwa [State.slot_of_flt (s := s) (by simp [State.sendRing_frame _ _ _])]

theorem State.event_moved (s : State) (g c : Nat) (o : Origin) (p q : Word) : (s.event g c o p q).Moved s := .of_same rfl rfl rfl

theorem State.tellRole_moved (s : State) (b : Bool) (p : BitVec 16) : (s.tellRole b p).Moved s := by
  unfold State.tellRole
  refine .ite (.refl _) ?_
  simp only [List.foldl_cons, List.foldl_nil]
  exact (State.sendRing_moved _ _ _).trans ((State.sendRing_moved _ _ _).trans (.of_pair (.of_fields rfl rfl rfl fun _ h => h) rfl rfl))

theorem State.sendState_moved (s : State) : s.sendState.Moved s :=
  .of_pair (.of_hush s.sendState_hush) (by simp [State.sendState_frame _]) (by simp [State.sendState_frame _])

theorem State.setRole_sent (s : State) (r : Role) (k : Nat) (p : Word) {x : RingId} {f : RingCmd × Nat} (h : f ∈ (s.ring x).cmdq) :
    f ∈ ((s.setRole r k p).ring x).cmdq := by
  unfold State.setRole
  split
  · exact h
  · refine (State.event_moved _ _ _ _ _ _).sent x f ?_
    split
    · exact h
    · exact (State.tellRole_moved _ _ _).sent x f h

theorem State.setUq_sent (s : State) (uq : BitVec 10) (k : Nat) {x : RingId} {f : RingCmd × Nat} (h : f ∈ (s.ring x).cmdq) :
    f ∈ ((s.setUq uq k).ring x).cmdq := by
  unfold State.setUq
  split
  · exact h
  split
  · exact h
  refine (State.sendState_moved _).sent x f ?_
  split
  · exact State.setRole_sent _ _ _ _ h
  · split
    · exact State.setRole_sent _ _ _ _ h
    · exact h

/-- A change of role moves the unit where the role itself does. -/
theorem State.setRole_moved {s : State} {r : Role} (h : (s.pair.takeRole r s.clock).Moved s.pair) (k : Nat) (p : Word) :
    (s.setRole r k p).Moved s where
  pair := by
    by_cases hsame : s.pair.role = r
    · rw [State.setRole, if_pos hsame]
      exact .refl _
    · exact (Pair.Moved.of_hush (State.setRole_hush hsame k p)).trans h
  sent _ _ := State.setRole_sent s r k p
  sticky j hj := by rwa [State.slot_of_flt (s := s) (by simp [State.setRole_frame _ _ _ _])]

theorem State.setUq_moved (s : State) (uq : BitVec 10) (k : Nat) : (s.setUq uq k).Moved s where
  pair := s.setUq_pairMoved uq k
  sent _ _ := State.setUq_sent s uq k
  sticky j hj := by rwa [State.slot_of_flt (s := s) (by simp [State.setUq_frame _ _ _])]

theorem State.giveUp_sent (s : State) (reason cause : Nat) {x : RingId} {f : RingCmd × Nat} (h : f ∈ (s.ring x).cmdq) :
    f ∈ ((s.giveUp reason cause).ring x).cmdq := by
  unfold State.giveUp
  refine (State.sendState_moved _).sent x f (State.setRole_sent _ _ _ _ (State.sendRing_keeps_frame (State.setUq_sent _ _ _ ?_)))
  split
  · rwa [State.ring_of_rings (s := s) (by simp [State.endSwap_frame _ _ _])]
  · exact h

theorem State.roleRelease_moved (s : State) : s.roleRelease.Moved s where
  pair := s.roleRelease_pairMoved
  sent x f h := by
    unfold State.roleRelease
    split
    · exact State.giveUp_sent s 3 5 h
    · exact h
  sticky j hj := by rwa [State.slot_of_flt (s := s) (by simp [State.roleRelease_frame _])]

theorem State.sendSafe_moved (s : State) (m : BitVec 16) : (s.sendSafe m).Moved s := by
  refine ⟨?_, fun x f hf => ?_, fun k hk => by rwa [State.slot_of_flt (s := s) (by simp [State.sendSafe_frame _ _])]⟩
  · rw [show (s.sendSafe m).pair = s.pair by simp [State.sendSafe_frame _ _]]
    exact .refl _
  · refine forEach_stays (Q := fun t => f ∈ (t.ring x).cmdq) (fun y _ t ht => ?_) s hf
    split
    · exact ht
    · rw [State.modRing_ring_ite]
      split
      · next hy => subst hy; exact ht
      · exact ht

/-! ## A raising and a clearing -/

theorem State.react_moved (s : State) (k : Fin 256) (r : Nat) : (s.react k r).Moved s := by
  unfold State.react
  exact .ite ((State.roleRelease_moved _).trans (State.sendSafe_moved _ _)) (State.sendSafe_moved _ _)

/-- A write of a slot that keeps its sticky bit. -/
theorem State.modSlot_moved (s : State) (k : Fin 256) {f : FaultSlot → FaultSlot} (h : ∀ g, g.sticky = true → (f g).sticky = true) :
    (s.modSlot k f).Moved s := by
  refine ⟨.refl _, fun _ _ hf => hf, fun j hj => ?_⟩
  by_cases hkj : k = j
  · subst hkj
    rw [State.modSlot_slot_same]
    exact h _ hj
  · rwa [State.modSlot_slot_other _ _ _ _ hkj]

theorem State.faultRecord_moved (s : State) (k : Fin 256) (c : Nat) (a b : Bool) (p q : Word) : (s.faultRecord k c a b p q).Moved s :=
  .of_same rfl rfl rfl

theorem State.faultEntry_moved (s : State) (k : Fin 256) (c : Nat) (a b : Bool) (t : Nat) : (s.faultEntry k c a b t).Moved s :=
  .of_same (by simp [State.faultEntry_frame _ _ _ _ _ _]) (by simp [State.faultEntry_frame _ _ _ _ _ _])
    (by simp [State.faultEntry_frame _ _ _ _ _ _])

theorem State.raiseCore_moved (s : State) (r : Raising) (t : Nat) : (s.raiseCore r t).Moved s := by
  have htrigger : ∀ (u : State) k c i e, (u.faultTrigger k c i e).Moved u := fun u k c i e =>
    .of_same (by simp [State.faultTrigger_frame _ _ _ _ _]) (by simp [State.faultTrigger_frame _ _ _ _ _])
      (by simp [State.faultTrigger_frame _ _ _ _ _])
  unfold State.raiseCore
  refine (htrigger _ _ _ _ _).trans ((State.faultEntry_moved _ _ _ _ _ _).trans ?_)
  refine .trans (.ite (State.react_moved _ _ _) (.refl _)) ((State.faultRecord_moved _ _ _ _ _ _ _).trans ?_)
  exact State.modSlot_moved _ _ fun g hg => by simp [hg]

theorem State.checkLoss_moved (b s : State) : (State.checkLoss b s).Moved s := by
  unfold State.checkLoss
  exact .ite (State.raiseCore_moved _ _ _) (.refl _)

theorem State.autoRelease_moved (s : State) (k : Fin 256) (m : BitVec 16) : (s.autoRelease k m).Moved s := by
  have hone : ∀ (u : State) n, (u.autoReleaseOn n).Moved u := by
    intro u n
    unfold State.autoReleaseOn
    exact .ite (.refl _) (.ite ⟨.refl _, fun _ _ h => h, fun _ h => h⟩ (State.sendRing_moved _ _ _))
  unfold State.autoRelease
  refine .ite ?_ (.refl _)
  exact forEach_stays (Q := fun t => t.Moved s) (fun n _ t ht => (hone t n).trans ht) s (.refl s)

/-- The end of what a source set on channels. -/
theorem State.endSet_moved (s : State) (k : Fin 256) (m : BitVec 16) : ((s.modSlot k (fun f => { f with setOn := 0#16 })).autoRelease k m).Moved s :=
  (State.autoRelease_moved _ _ _).trans (State.modSlot_moved _ _ fun _ h => h)

theorem State.raise_moved (s : State) (r : Raising) : (s.raise r).Moved s := by
  have hcore : (State.checkLoss s (s.raiseCore r s.tick)).Moved s := (State.checkLoss_moved _ _).trans (State.raiseCore_moved _ _ _)
  unfold State.raise State.raiseAt
  exact .ite ((State.endSet_moved _ _ _).trans hcore) hcore

theorem State.raiseLive_moved (s : State) (k : Fin 256) (p : Word) : (s.raiseLive k p).Moved s := by
  unfold State.raiseLive
  exact .ite (.refl _) (State.raise_moved _ _)

theorem State.clearLive_moved (s : State) (k : Fin 256) : (s.clearLive k).Moved s := by
  unfold State.clearLive State.clearCause State.clearCauseAt
  dsimp only
  refine .ite (.refl _) ?_
  have hloss : ∀ t : State, t.Moved s → (State.checkLoss s t).Moved s := fun t ht => (State.checkLoss_moved _ _).trans ht
  refine .ite (hloss _ ?_) ((State.endSet_moved _ _ _).trans (hloss _ ?_))
  all_goals
    refine .ite ((State.faultRecord_moved _ _ _ _ _ _ _).trans ?_) ?_
    all_goals
      refine (State.faultEntry_moved _ _ _ _ _ _).trans (State.modSlot_moved _ _ ?_)
      exact fun _ h => h

theorem State.followP2_moved (s : State) (h : Fin 31) (l : Bool) (p : Word) : (s.followP2 h l p).Moved s := by
  unfold State.followP2
  exact .ite (State.raiseLive_moved _ _ _) (State.clearLive_moved _ _)

/-! ## What no source that keeps the role changes of the Ringmaster (R336, R337) -/

theorem slotChannel_hostSlot (h : Fin 31) : slotChannel (hostSlot h) = none :=
  dif_neg (by
    simp only [hostSlot, not_lt]
    omega)

/-- A source of the host die settles by the table and the pairing alone. -/
theorem State.settle_hostSlot {t s : State} (hcore : t.flt.core = s.flt.core) (hpaired : t.img.paired = s.img.paired) (h : Fin 31) (m tick : Nat) :
    t.settle (hostSlot h) m tick = s.settle (hostSlot h) m tick := by
  have hpast : t.flt.past = s.flt.past := (congrArg Collector.past hcore :)
  have htbl : t.flt.tbl = s.flt.tbl := (congrArg Collector.tbl hcore :)
  have hexp : t.flt.explicit = s.flt.explicit := (congrArg Collector.explicit hcore :)
  unfold State.settle State.tableAt
  rw [hpast]
  cases s.flt.past.find? (fun p => decide (tick < p.before)) with
  | some p => rfl
  | none => simp [PastTable.settle, State.tableNow, htbl, hexp, hpaired, slotChannel_hostSlot]

theorem State.keepsRole_of {t s : State} (hcore : t.flt.core = s.flt.core) (hpaired : t.img.paired = s.img.paired) (htick : t.tick = s.tick)
    (h : s.keepsRole) : t.keepsRole := fun k hk => by
  rw [htick, State.settle_hostSlot hcore hpaired]
  exact h k hk

theorem State.raiseCore_pair {s : State} {r : Raising} {tick : Nat} (h : (s.settle r.k r.m tick).2 ≠ 4) : (s.raiseCore r tick).pair = s.pair := by
  have hreact : ∀ u : State, (u.react r.k (s.settle r.k r.m tick).2).pair = u.pair := fun u => by
    unfold State.react
    dsimp only
    rw [if_neg h]
    simp [State.sendSafe_frame _ _]
  unfold State.raiseCore
  simp only [State.faultTrigger_frame _ _ _ _ _, State.faultEntry_frame _ _ _ _ _ _, apply_ite State.pair, hreact,
    State.faultRecord_frame _ _ _ _ _ _ _, ite_self]
  rfl

/-- What the keeping of the role rests on: the collector's table, the pairing and the tick. -/
def State.roleView (s : State) : Collector × Bool × Nat := (s.flt.core, s.img.paired, s.tick)

theorem State.keepsRole_of_view {t s : State} (h : t.roleView = s.roleView) (hs : s.keepsRole) : t.keepsRole :=
  State.keepsRole_of (congrArg Prod.fst h :) (congrArg (fun v : Collector × Bool × Nat => v.2.1) h :)
    (congrArg (fun v : Collector × Bool × Nat => v.2.2) h :) hs

theorem State.roleView_of {t s : State} (hcore : t.flt.core = s.flt.core) (himg : t.img = s.img) (hclock : t.clock = s.clock)
    (htime : t.time = s.time) : t.roleView = s.roleView := by
  simp [State.roleView, State.tick, hcore, himg, hclock, htime]

/-- No fault report touches what the keeping of the role rests on. -/
theorem roleView_offReports : OffReports State.roleView where
  safe s m := State.roleView_of (fltCore_offReports.safe s m) (by simp [State.sendSafe_frame _ _]) (by simp [State.sendSafe_frame _ _])
    (by simp [State.sendSafe_frame _ _])
  role s := State.roleView_of (fltCore_offReports.role s) (by simp [State.roleRelease_frame _]) (by simp [State.roleRelease_frame _])
    (by simp [State.roleRelease_frame _])
  slot s k f := rfl
  entry s k c a b t := State.roleView_of (fltCore_offReports.entry s k c a b t) (by simp [State.faultEntry_frame _ _ _ _ _ _])
    (by simp [State.faultEntry_frame _ _ _ _ _ _]) (by simp [State.faultEntry_frame _ _ _ _ _ _])
  record s c o f p q := rfl
  trigger s k c i e := State.roleView_of (fltCore_offReports.trigger s k c i e) (by simp [State.faultTrigger_frame _ _ _ _ _])
    (by simp [State.faultTrigger_frame _ _ _ _ _]) (by simp [State.faultTrigger_frame _ _ _ _ _])
  release s x c := State.roleView_of (fltCore_offReports.release s x c) (by simp [State.sendRing_frame _ _ _])
    (by simp [State.sendRing_frame _ _ _]) (by simp [State.sendRing_frame _ _ _])
  autos s m := rfl

theorem State.endSet_pair (s : State) (k : Fin 256) (m : BitVec 16) :
    ((s.modSlot k (fun f => { f with setOn := 0#16 })).autoRelease k m).pair = s.pair := by simp [State.autoRelease_frame _ _ _]

theorem State.pair_of_ite {c : Prop} [Decidable c] {a b : State} {p : Pair} (ha : a.pair = p) (hb : b.pair = p) : (if c then a else b).pair = p := by
  split <;> assumption

section
variable {s : State} (hkeep : s.keepsRole)
include hkeep

theorem State.checkLoss_pair (b : State) : (State.checkLoss b s).pair = s.pair := by
  unfold State.checkLoss
  split
  · exact State.raiseCore_pair (hkeep 7 (by simp))
  · rfl

/-- A raising of WHEEL_LOSS or of a source of the pair leaves the Ringmaster as it is. -/
theorem State.raise_pair {h : Fin 31} (hmem : h ∈ ([7, 20, 21, 22, 23, 24, 25, 26, 27] : List (Fin 31))) (p2 : Word) :
    (s.raise ⟨hostSlot h, 0, false, p2, false⟩).pair = s.pair := by
  have hcore : (s.raiseCore ⟨hostSlot h, 0, false, p2, false⟩ s.tick).pair = s.pair := State.raiseCore_pair (hkeep h hmem)
  have hloss := (State.checkLoss_pair (State.keepsRole_of_view
    (roleView_offReports.raiseCore s ⟨hostSlot h, 0, false, p2, false⟩ s.tick) hkeep) s).trans hcore
  unfold State.raise State.raiseAt
  dsimp only
  exact State.pair_of_ite ((State.endSet_pair _ _ _).trans hloss) hloss

theorem State.raiseLive_pair {h : Fin 31} (hmem : h ∈ ([7, 20, 21, 22, 23, 24, 25, 26, 27] : List (Fin 31))) (p2 : Word) :
    (s.raiseLive (hostSlot h) p2).pair = s.pair := by
  unfold State.raiseLive
  split
  · rfl
  · exact State.raise_pair hkeep hmem p2

theorem State.clearLive_pair (k : Fin 256) : (s.clearLive k).pair = s.pair := by
  have hloss : ∀ u : State, u.roleView = s.roleView ∧ u.pair = s.pair → (State.checkLoss s u).pair = s.pair := fun u hu =>
    (State.checkLoss_pair (State.keepsRole_of_view hu.1 hkeep) s).trans hu.2
  have hentry : ∀ (f : FaultSlot → FaultSlot) c a b t, ((s.modSlot k f).faultEntry k c a b t).roleView = s.roleView
      ∧ ((s.modSlot k f).faultEntry k c a b t).pair = s.pair := fun f c a b t =>
    ⟨roleView_offReports.entry _ _ _ _ _ _, by simp [State.faultEntry_frame _ _ _ _ _ _]⟩
  have hrecord : ∀ u : State, u.roleView = s.roleView ∧ u.pair = s.pair → ∀ c a b p q, (u.faultRecord k c a b p q).roleView = s.roleView
      ∧ (u.faultRecord k c a b p q).pair = s.pair := fun u hu c a b p q => ⟨(roleView_offReports.faultRecord _ _ _ _ _ _ _).trans hu.1, hu.2⟩
  unfold State.clearLive State.clearCause State.clearCauseAt
  dsimp only
  refine State.pair_of_ite rfl (State.pair_of_ite (hloss _ ?_) ((State.endSet_pair _ _ _).trans (hloss _ ?_)))
  all_goals
    split
    · exact hrecord _ (hentry _ _ _ _ _) _ _ _ _ _
    · exact hentry _ _ _ _ _

theorem State.followP2_pair {h : Fin 31} (hmem : h ∈ ([7, 20, 21, 22, 23, 24, 25, 26, 27] : List (Fin 31))) (l : Bool) (p2 : Word) :
    (s.followP2 h l p2).pair = s.pair := by
  unfold State.followP2
  split
  · exact State.raiseLive_pair hkeep hmem p2
  · exact State.clearLive_pair hkeep _

end

/-! ## The judgement of the pair, stage by stage -/

/-- The local causes are judged (R431). -/
def State.causesJudged (s : State) : State := s.setUq ((s.pair.uq &&& ~~~ 0x3C0#10) ||| s.localCauses)

/-- A unit that is STARTING rests where the partner is active (R434). -/
def State.startJudged (s : State) : State :=
  if s.pair.role = .starting && s.pair.partnerActive then s.setRole s.pair.restRole 6 else s

theorem State.pairOn_iff (s : State) : s.pairOn = true ↔ s.img.paired = true ∧ s.pair.role ≠ .unpaired := by
  simp [State.pairOn]

theorem State.causesJudged_pairOn {s : State} (h : s.pairOn = true) : s.causesJudged.pairOn = true := by
  obtain ⟨hpaired, hrole⟩ := s.pairOn_iff.mp h
  refine s.causesJudged.pairOn_iff.mpr ⟨?_, (State.setUq_pairMoved _ _ _).paired hrole⟩
  rw [State.causesJudged, show (s.setUq ((s.pair.uq &&& ~~~ 0x3C0#10) ||| s.localCauses)).img = s.img by simp [State.setUq_frame _ _ _]]
  exact hpaired

/-- The judgement of a paired unit. -/
theorem State.pairSync_judged {s : State} (h : s.causesJudged.pairOn = true) :
    s.pairSync = s.causesJudged.startJudged.checkSwap.pairCounts.settleGap.pairSources.tellRole := by
  unfold State.pairSync
  dsimp only
  rw [State.causesJudged] at h
  rw [h]
  rfl

theorem State.pairSync_off {s : State} (h : s.causesJudged.pairOn = false) : s.pairSync = s.causesJudged.pairSources := by
  unfold State.pairSync
  dsimp only
  rw [State.causesJudged] at h
  rw [h]
  rfl

/-! ## What a judgement keeps -/

theorem State.startJudged_moved (s : State) : s.startJudged.Moved s := by
  unfold State.startJudged
  split
  · next h =>
    have hrole : s.pair.role = .starting := by simp only [Bool.and_eq_true, decide_eq_true_eq] at h; exact h.1
    refine State.setRole_moved (Pair.takeRole_moved _ ?_ fun _ => rfl) _ _
    unfold Pair.restRole
    split <;> simp
  · exact .refl s

theorem State.checkSwap_moved (s : State) : s.checkSwap.Moved s := by
  unfold State.checkSwap
  split
  next w hw =>
    split
    · next h =>
      have hrole : s.pair.role = .swapping := by simp only [Bool.and_eq_true, decide_eq_true_eq] at h; exact h.1.2
      have hend := s.endSwap_role false 3
      have hfirst : (s.endSwap false 3).Moved s := .of_pair (s.endSwap_pairMoved _ _) (by simp [State.endSwap_frame _ _ _])
        (by simp [State.endSwap_frame _ _ _])
      refine .trans (State.setRole_moved ⟨fun i hi => Pair.takeRole_evt _ _ _ i hi, fun hs => ?_, fun _ => ?_, fun _ => ?_, fun hr => ?_,
        fun hr => ?_⟩ _ _)
        hfirst
      · obtain ⟨-, -, hleads⟩ := hs
        simp [Pair.leads, hend, hrole] at hleads
      · show Role.active ≠ _
        simp
      · show Role.active ≠ _
        simp
      · simp [Pair.resting, hend, hrole] at hr
      · have := Pair.resting_of_rests hr
        simp [Pair.resting, hend, hrole] at this
    · exact .refl s
  next => exact .refl s

theorem State.pairCounts_moved (s : State) : s.pairCounts.Moved s := .of_pair (.of_fields rfl rfl rfl fun _ h => h) rfl rfl

theorem State.settleGap_moved (s : State) : s.settleGap.Moved s := by
  unfold State.settleGap
  refine .ite (.trans ?_ (State.setUq_moved s (s.pair.uq &&& ~~~ 16#10) 7)) (.refl s)
  exact .of_pair (.of_fields rfl rfl rfl fun _ h => h) rfl rfl

theorem State.pairSources_moved (s : State) : s.pairSources.Moved s := by
  unfold State.pairSources
  refine (State.followP2_moved _ _ _ _).trans ((State.followP2_moved _ _ _ _).trans ((State.followP2_moved _ _ _ _).trans
    ((State.followP2_moved _ _ _ _).trans ?_)))
  exact .of_same rfl rfl rfl

theorem State.pairSync_moved (s : State) : s.pairSync.Moved s := by
  have hcauses : s.causesJudged.Moved s := State.setUq_moved _ _ _
  by_cases hon : s.causesJudged.pairOn = true
  · rw [State.pairSync_judged hon]
    exact (State.tellRole_moved _ _ _).trans ((State.pairSources_moved _).trans ((State.settleGap_moved _).trans ((State.pairCounts_moved _).trans
      ((State.checkSwap_moved _).trans ((State.startJudged_moved _).trans hcauses)))))
  · rw [State.pairSync_off (by simpa using hon)]
    exact (State.pairSources_moved _).trans hcauses

theorem OffReports.pairSources {α : Type} {P : State → α} (h : OffReports P) (s : State) : P s.pairSources = P s.free.2 := by
  unfold State.pairSources
  dsimp only
  rw [h.followP2, h.followP2, h.followP2, h.followP2]

theorem State.startJudged_flt (s : State) : s.startJudged.flt = s.flt := by
  unfold State.startJudged
  split
  · simp [State.setRole_frame _ _ _ _]
  · rfl

theorem State.pairSync_fltCore (s : State) : s.pairSync.flt.core = s.flt.core := by
  have hcauses : s.causesJudged.flt.core = s.flt.core := congrArg Collector.core (by simp [State.causesJudged, State.setUq_frame _ _ _])
  by_cases hon : s.causesJudged.pairOn = true
  · rw [State.pairSync_judged hon]
    rw [(State.tellRole_frame _ _ _).2.2.2.2.1]
    refine (fltCore_offReports.pairSources _).trans (Eq.trans ?_ hcauses)
    exact congrArg Collector.core (((State.settleGap_frame _).2.2.2.1).trans (((State.pairCounts_frame _).2.2.2.2.1).trans
      (((State.checkSwap_frame _).2.2.2.1).trans (State.startJudged_flt _))))
  · rw [State.pairSync_off (by simpa using hon)]
    exact (fltCore_offReports.pairSources _).trans hcauses

theorem State.startJudged_recCore (s : State) : s.startJudged.recd.core = s.recd.core := by
  unfold State.startJudged
  split
  · exact State.setRole_recCore _ _ _ _
  · rfl

theorem State.checkSwap_recCore (s : State) : s.checkSwap.recd.core = s.recd.core := by
  unfold State.checkSwap
  split
  · split
    · exact (State.setRole_recCore _ _ _ _).trans (State.endSwap_recCore _ _ _)
    · rfl
  · rfl

theorem State.settleGap_recCore (s : State) : s.settleGap.recd.core = s.recd.core := by
  unfold State.settleGap
  dsimp only
  split
  · exact State.setUq_recCore _ _ _
  · rfl

theorem State.pairSync_recCore (s : State) : s.pairSync.recd.core = s.recd.core := by
  have hcauses : s.causesJudged.recd.core = s.recd.core := State.setUq_recCore _ _ _
  by_cases hon : s.causesJudged.pairOn = true
  · rw [State.pairSync_judged hon]
    rw [(State.tellRole_frame _ _ _).2.2.1]
    refine (recCore_offReports.pairSources _).trans (Eq.trans ?_ hcauses)
    exact (State.settleGap_recCore _).trans ((State.checkSwap_recCore _).trans (State.startJudged_recCore _))
  · rw [State.pairSync_off (by simpa using hon)]
    exact (recCore_offReports.pairSources _).trans hcauses

/-- A judgement reaches what the Ringmaster may change, and nothing else. -/
theorem State.pairSync_pairFrame (s : State) : PairFrame s.pairSync s :=
  ⟨by simp [State.pairSync_frame _, KeepsHost], by simp [State.pairSync_frame _, KeepsUnits], s.pairSync_recCore,
    by simp [State.pairSync_frame _], fun x _ => State.core_of_ringCores s.pairSync_ringCores x, s.pairSync_fltCore⟩

theorem PairFrame.trans {t u s : State} (h : PairFrame t u) (g : PairFrame u s) : PairFrame t s := by
  obtain ⟨⟨h1, h2, h3, h4, h5, h6, h7, h8, h9⟩, ⟨k1, k2, k3, k4, k5, k6, k7, k8, k9, -⟩, hrec, hchan, hring, hflt⟩ := h
  obtain ⟨⟨g1, g2, g3, g4, g5, g6, g7, g8, g9⟩, ⟨l1, l2, l3, l4, l5, l6, l7, l8, l9, -⟩, grec, gchan, gring, gflt⟩ := g
  exact ⟨⟨h1.trans g1, h2.trans g2, h3.trans g3, h4.trans g4, h5.trans g5, h6.trans g6, h7.trans g7, h8.trans g8, h9.trans g9⟩,
    ⟨k1.trans l1, k2.trans l2, k3.trans l3, k4.trans l4, k5.trans l5, k6.trans l6, k7.trans l7, k8.trans l8, k9.trans l9, rfl⟩,
    hrec.trans grec, hchan.trans gchan, fun x hx => (hring x hx).trans (gring x hx), hflt.trans gflt⟩

/-! ## The Ringmaster's own lines through a judgement -/

theorem Pair.lines_of_core {q p : Pair} (h : q.core = p.core) : q.lines = p.lines :=
  congrArg (fun c : Pair => { c with bothLostFrom := none, gapFrom := none, gapOpen := false }) h

theorem State.startJudged_pairCore (s : State) : s.startJudged.pair.core = s.pair.core := by
  unfold State.startJudged
  split
  · exact State.setRole_pairCore _ _ _ _
  · rfl

theorem State.checkSwap_pairCore (s : State) : s.checkSwap.pair.core = s.pair.core := by
  unfold State.checkSwap
  split
  · split
    · exact (State.setRole_pairCore _ _ _ _).trans (State.endSwap_pairCore _ _ _)
    · rfl
  · rfl

theorem State.settleGap_lines (s : State) : s.settleGap.pair.lines = s.pair.lines := by
  unfold State.settleGap
  dsimp only
  split
  · exact Eq.trans (b := (s.setUq (s.pair.uq &&& ~~~ 16#10)).pair.lines) rfl (Pair.lines_of_core (State.setUq_pairCore _ _ _))
  · rfl

theorem State.settleGap_bothLost (s : State) : s.settleGap.pair.bothLostFrom = s.pair.bothLostFrom := by
  unfold State.settleGap
  dsimp only
  split
  · exact (congrArg Pair.bothLostFrom (State.setUq_pairCore s (s.pair.uq &&& ~~~ 16#10) 7) :)
  · rfl

/-- The loss of both paths is timed from where it began (R436). -/
def Pair.bothLost (p : Pair) (clock : Nat) : Option Nat := if !p.presentTz && !p.tlHb then some (p.bothLostFrom.getD clock) else none

/-- The stages of a judgement before its counts leave the core. -/
theorem State.swapJudged_pairCore (s : State) : s.causesJudged.startJudged.checkSwap.pair.core = s.pair.core :=
  (State.checkSwap_pairCore _).trans ((State.startJudged_pairCore _).trans (State.setUq_pairCore _ _ _))

theorem State.sourcesJudged_pairCore (s : State) : s.pairSources.tellRole.pair.core = s.pair.core :=
  (State.tellRole_pairCore _ _ _).trans (pairCore_offReports.pairSources s)

theorem State.pairSync_lines (s : State) : s.pairSync.pair.lines = s.pair.lines := by
  by_cases hon : s.causesJudged.pairOn = true
  · rw [State.pairSync_judged hon]
    refine (Pair.lines_of_core (State.sourcesJudged_pairCore _)).trans ((State.settleGap_lines _).trans ?_)
    exact Eq.trans (b := s.causesJudged.startJudged.checkSwap.pair.lines) rfl (Pair.lines_of_core s.swapJudged_pairCore)
  · rw [State.pairSync_off (by simpa using hon)]
    exact Pair.lines_of_core ((pairCore_offReports.pairSources _).trans (State.setUq_pairCore _ _ _))

theorem State.pairSync_bothLost {s : State} (h : s.pairOn = true) : s.pairSync.pair.bothLostFrom = s.pair.bothLost s.clock := by
  have hcore := s.swapJudged_pairCore
  have hclock : s.causesJudged.startJudged.checkSwap.clock = s.clock := by
    rw [(State.checkSwap_frame _).1.2.1, State.startJudged]
    split <;> simp [State.setRole_frame _ _ _ _, State.causesJudged, State.setUq_frame _ _ _]
  rw [State.pairSync_judged (State.causesJudged_pairOn h)]
  refine (congrArg Pair.bothLostFrom (State.sourcesJudged_pairCore _) :).trans ((State.settleGap_bothLost _).trans ?_)
  generalize s.causesJudged.startJudged.checkSwap = u at hcore hclock
  show u.pair.bothLost u.clock = _
  rw [hclock]
  exact (congrArg (fun p : Pair => p.bothLost s.clock) hcore :)

/-! ## What a judgement leaves of a unit that claims, backs off or is active -/

/-- The Ringmaster without what it says, its causes, its events and the counts of R431 and R436. -/
def Pair.still (p : Pair) : Pair := { p.hush with uq := 0#10, evt := 0#6, bothLostFrom := none, gapFrom := none, gapOpen := false }

theorem Pair.still_of_hush {q p : Pair} (h : q.hush = p.hush) : q.still = p.still :=
  congrArg (fun r : Pair => { r with uq := 0#10, evt := 0#6, bothLostFrom := none, gapFrom := none, gapOpen := false }) h

/-- The role is one that no judgement of causes or of the partner changes. -/
def Pair.steady (p : Pair) : Prop := ¬ p.resting ∧ p.role ≠ .starting ∧ p.role ≠ .swapping

theorem Pair.steady_of_role {q p : Pair} (h : q.role = p.role) (hp : p.steady) : q.steady := by
  rwa [Pair.steady, Pair.resting, h]

theorem Pair.steady_of_still {q p : Pair} (h : q.still = p.still) (hp : p.steady) : q.steady := Pair.steady_of_role (congrArg Pair.role h :) hp

theorem Pair.takeUq_still {p : Pair} (h : ¬ p.resting) (uq : BitVec 10) (c : Nat) : (p.takeUq uq c).still = p.still := by
  unfold Pair.takeUq
  split
  · rfl
  · dsimp only
    rw [if_neg fun hd => h (Or.inl hd.1), if_neg fun hu => h (Or.inr hu.1)]
    rfl

theorem State.setUq_still {s : State} (h : ¬ s.pair.resting) (uq : BitVec 10) (k : Nat) : (s.setUq uq k).pair.still = s.pair.still :=
  (Pair.still_of_hush (s.setUq_hush uq k)).trans (Pair.takeUq_still h uq s.clock)

theorem State.settleGap_still {s : State} (h : ¬ s.pair.resting) : s.settleGap.pair.still = s.pair.still := by
  unfold State.settleGap
  dsimp only
  split
  · exact Eq.trans (b := (s.setUq (s.pair.uq &&& ~~~ 16#10)).pair.still) rfl (State.setUq_still h _ _)
  · rfl

theorem State.setUq_roleView (s : State) (uq : BitVec 10) (k : Nat) : (s.setUq uq k).roleView = s.roleView :=
  State.roleView_of (congrArg Collector.core (by simp [State.setUq_frame _ _ _])) (by simp [State.setUq_frame _ _ _])
    (by simp [State.setUq_frame _ _ _]) (by simp [State.setUq_frame _ _ _])

theorem State.settleGap_roleView (s : State) : s.settleGap.roleView = s.roleView :=
  State.roleView_of (congrArg Collector.core (by simp [State.settleGap_frame _])) (by simp [State.settleGap_frame _])
    (by simp [State.settleGap_frame _]) (by simp [State.settleGap_frame _])

theorem State.pairSources_pair {s : State} (hkeep : s.keepsRole) : s.pairSources.pair = s.pair := by
  have hstep : ∀ (u : State) (h : Fin 31) l p, h ∈ ([7, 20, 21, 22, 23, 24, 25, 26, 27] : List (Fin 31)) → u.keepsRole →
      (u.followP2 h l p).pair = u.pair ∧ (u.followP2 h l p).keepsRole := fun u h l p hmem hu =>
    ⟨State.followP2_pair hu hmem l p, State.keepsRole_of_view (roleView_offReports.followP2 u h l p) hu⟩
  unfold State.pairSources
  dsimp only
  obtain ⟨hp1, hk1⟩ := hstep s.free.2 22 s.free.2.pairUnqualified
    (word (if s.free.2.pair.role = .unqualified then s.free.2.pair.uq.toNat else s.free.2.pair.partnerUq.toNat)) (by simp) hkeep
  generalize s.free.2.followP2 22 _ _ = u1 at hp1 hk1 ⊢
  obtain ⟨hp2, hk2⟩ := hstep u1 24 (u1.pairOn && s.free.2.pair.stale && !s.free.2.pair.leads) ((s.free.2.pair.held.map (·.number)).getD 0#32)
    (by simp) hk1
  generalize u1.followP2 24 _ _ = u2 at hp2 hk2 ⊢
  obtain ⟨hp3, hk3⟩ := hstep u2 25 u2.swapDue (if u2.swapDueOwn then word (s.free.2.pair.idleMinutes s.clock) else s.free.1) (by simp) hk2
  generalize u2.followP2 25 _ _ = u3 at hp3 hk3 ⊢
  exact (hstep u3 21 _ _ (by simp) hk3).1.trans (hp3.trans (hp2.trans hp1))

/-- A unit that claims, backs off or is active goes on doing so through a judgement. -/
theorem State.pairSync_still {s : State} (hkeep : s.keepsRole) (hon : s.pairOn = true) (hsteady : s.pair.steady) :
    s.pairSync.pair.still = s.pair.still := by
  have hcauses : s.causesJudged.pair.still = s.pair.still := State.setUq_still hsteady.1 _ _
  have hthen := Pair.steady_of_still hcauses hsteady
  have hview : s.causesJudged.roleView = s.roleView := s.setUq_roleView _ _
  rw [State.pairSync_judged (State.causesJudged_pairOn hon)]
  generalize s.causesJudged = u at hcauses hthen hview
  have hstart : u.startJudged = u := by simp [State.startJudged, hthen.2.1]
  have hswap : u.checkSwap = u := by
    unfold State.checkSwap
    split
    · simp [hthen.2.2]
    · rfl
  have hcounts : u.pairCounts.pair.still = u.pair.still := rfl
  have hkeep' : u.pairCounts.settleGap.keepsRole :=
    State.keepsRole_of_view ((State.settleGap_roleView _).trans (Eq.trans (b := u.roleView) rfl hview)) hkeep
  rw [hstart, hswap]
  calc u.pairCounts.settleGap.pairSources.tellRole.pair.still
      = u.pairCounts.settleGap.pairSources.pair.still := Pair.still_of_hush (State.tellRole_hush _ _ _)
    _ = u.pairCounts.settleGap.pair.still := congrArg Pair.still (State.pairSources_pair hkeep')
    _ = u.pairCounts.pair.still := State.settleGap_still hthen.1
    _ = s.pair.still := hcauses

end Sys2Proof.Machine
end

section
/-! PROOFS. Claims, backoffs and the two paths of a pair (R430, R432, R434 to R436, R442). -/

namespace Sys2Proof.Machine

/-! ## The live sources of the pair after a judgement (R451) -/

/-- The sources of the pair but TIGHTROPE_LOST follow, which is judged last. -/
def State.sourcesBefore (s : State) : State :=
  let (w, s0) := s.free
  let p := s0.pair
  let s1 := s0.followP2 22 s0.pairUnqualified (word (if p.role = .unqualified then p.uq.toNat else p.partnerUq.toNat))
  let s2 := s1.followP2 24 (s1.pairOn && p.stale && !p.leads) ((p.held.map (·.number)).getD 0#32)
  s2.followP2 25 s2.swapDue (if s2.swapDueOwn then word (p.idleMinutes s.clock) else w)

theorem State.pairSources_eq (s : State) : s.pairSources = s.sourcesBefore.followP2 21 s.sourcesBefore.tlLost (s.free.1 &&& 3#32) := rfl

theorem State.sourcesBefore_moved (s : State) : s.sourcesBefore.Moved s :=
  (State.followP2_moved _ _ _ _).trans ((State.followP2_moved _ _ _ _).trans ((State.followP2_moved _ _ _ _).trans (.of_same rfl rfl rfl)))

theorem OffReports.sourcesBefore {α : Type} {P : State → α} (h : OffReports P) (s : State) : P s.sourcesBefore = P s.free.2 :=
  (h.followP2 _ _ _ _).trans ((h.followP2 _ _ _ _).trans (h.followP2 _ _ _ _))

theorem hostSlot_inj {h k : Fin 31} (e : hostSlot h = hostSlot k) : h = k := by
  have := congrArg Fin.val e
  simp only [hostSlot] at this
  exact Fin.ext (by omega)

theorem State.followP2_real_mono (s : State) (h : Fin 31) (l : Bool) (p : Word) {k : Fin 256} {i : Nat} (hk : hostSlot h ≠ k)
    (hs : (s.slot k).real.getLsbD i = true) : ((s.followP2 h l p).slot k).real.getLsbD i = true := by
  unfold State.followP2
  split
  · exact State.raiseLive_real_mono _ _ _ _ _ hs
  · exact State.clearLive_real_mono _ _ _ _ hk hs

theorem State.followP2_live (s : State) {h : Fin 31} (l : Bool) (p : Word) (hi : instantSource (hostSlot h).1 0 = false) (h7 : h ≠ 7) :
    ((s.followP2 h l p).slot (hostSlot h)).real.getLsbD 0 = l := by
  unfold State.followP2
  cases l
  · exact State.clearLive_dead _ _ fun e => h7 (hostSlot_inj e).symm
  · exact State.raiseLive_live _ _ _ hi

/-- The stages of a judgement before its sources leave the collector. -/
theorem State.stagesJudged_flt (s : State) : s.causesJudged.startJudged.checkSwap.pairCounts.settleGap.flt = s.flt :=
  ((State.settleGap_frame _).2.2.2.1).trans (((State.pairCounts_frame _).2.2.2.2.1).trans (((State.checkSwap_frame _).2.2.2.1).trans
    ((State.startJudged_flt _).trans (by simp [State.causesJudged, State.setUq_frame _ _ _]))))

theorem State.stagesJudged_moved (s : State) : s.causesJudged.startJudged.checkSwap.pairCounts.settleGap.Moved s :=
  (State.settleGap_moved _).trans ((State.pairCounts_moved _).trans ((State.checkSwap_moved _).trans ((State.startJudged_moved _).trans
    (State.setUq_moved _ _ _))))

theorem State.stagesJudged_lines (s : State) : s.causesJudged.startJudged.checkSwap.pairCounts.settleGap.pair.lines = s.pair.lines :=
  (State.settleGap_lines _).trans (Eq.trans (b := s.causesJudged.startJudged.checkSwap.pair.lines) rfl (Pair.lines_of_core s.swapJudged_pairCore))

theorem State.stagesJudged_img (s : State) : s.causesJudged.startJudged.checkSwap.pairCounts.settleGap.img = s.img := by
  have hcauses : s.causesJudged.img = s.img := by simp [State.causesJudged, State.setUq_frame _ _ _]
  have hstart : s.causesJudged.startJudged.img = s.causesJudged.img := by
    unfold State.startJudged
    split
    · simp [State.setRole_frame _ _ _ _]
    · rfl
  simp [State.settleGap_frame _, State.pairCounts_frame _, State.checkSwap_frame _, hstart, hcauses]

theorem State.tellRole_slot (s : State) (b : Bool) (p : BitVec 16) (k : Fin 256) : (s.tellRole b p).slot k = s.slot k :=
  State.slot_of_flt (by simp [State.tellRole_frame _ _ _]) k

/-- A source that is none of the four that a judgement follows stays live. -/
theorem State.pairSync_real {s : State} (hon : s.pairOn = true) {h : Fin 31} {i : Nat} (hh : h ∉ ([21, 22, 24, 25] : List (Fin 31)))
    (hs : (s.slot (hostSlot h)).real.getLsbD i = true) : ((s.pairSync).slot (hostSlot h)).real.getLsbD i = true := by
  have hne : ∀ k ∈ ([21, 22, 24, 25] : List (Fin 31)), hostSlot k ≠ hostSlot h := fun k hk e => hh (hostSlot_inj e ▸ hk)
  rw [State.pairSync_judged (State.causesJudged_pairOn hon), State.tellRole_slot]
  refine State.followP2_real_mono _ _ _ _ (hne 21 (by simp)) (State.followP2_real_mono _ _ _ _ (hne 25 (by simp))
    (State.followP2_real_mono _ _ _ _ (hne 24 (by simp)) (State.followP2_real_mono _ _ _ _ (hne 22 (by simp)) ?_)))
  show ((State.settleGap _).slot (hostSlot h)).real.getLsbD i = true
  rw [State.slot_of_flt s.stagesJudged_flt]
  exact hs

/-- On a unit that rests, TIGHTROPE_LOST is live where its heartbeat is lost while the partner is on Trapeze (R451). -/
theorem State.pairSync_tlLost {s : State} (hon : s.pairOn = true) (hrest : s.pair.resting) :
    ((s.pairSync).slot (hostSlot 21)).real.getLsbD 0 = (s.pair.hbLost && s.pair.presentTz) := by
  rw [State.pairSync_judged (State.causesJudged_pairOn hon), State.tellRole_slot, State.pairSources_eq,
    State.followP2_live _ _ _ (by decide) (by decide)]
  have hmoved := (State.sourcesBefore_moved _).trans s.stagesJudged_moved
  have hlines : (State.sourcesBefore _).pair.lines = s.pair.lines :=
    (Pair.lines_of_core (pairCore_offReports.sourcesBefore _)).trans s.stagesJudged_lines
  have himg : (State.sourcesBefore s.causesJudged.startJudged.checkSwap.pairCounts.settleGap).img = s.img := by
    have hsources : ∀ v : State, v.sourcesBefore.img = v.img := fun v => by
      simp [State.sourcesBefore, State.followP2_frame _ _ _ _, State.free_frame _]
    rw [hsources, State.stagesJudged_img]
  generalize State.sourcesBefore _ = u at hmoved hlines himg ⊢
  obtain ⟨hpaired, -⟩ := s.pairOn_iff.mp hon
  have hthen := hmoved.pair.resting hrest
  have hlost : u.pair.hbLost = s.pair.hbLost := (congrArg Pair.hbLost hlines :)
  have htz : u.pair.presentTz = s.pair.presentTz := (congrArg Pair.presentTz hlines :)
  unfold State.tlLost
  obtain h | h := hthen <;> simp [State.pairOn, himg, hpaired, h, hlost, htz]

/-! ## Claims (R434 to R436) -/

/-- The Ringmaster of a unit that begins to claim. -/
def Pair.claimed (p : Pair) (reason clock : Nat) : Pair :=
  { p.takeRole .claiming clock with claimReason := BitVec.ofNat 4 reason, claimFrom := clock }

/-- A unit that begins to claim, before its source is looked at. -/
def State.claimBegun (s : State) (roleReason reason : Nat) (num : Word) : State :=
  (s.setRole .claiming roleReason num).modPair (fun p => { p with claimReason := BitVec.ofNat 4 reason, claimFrom := s.clock })

theorem State.claimBegun_hush {s : State} (h : s.pair.role ≠ .claiming) (a b : Nat) (num : Word) :
    (s.claimBegun a b num).pair.hush = (s.pair.claimed b s.clock).hush :=
  congrArg (fun p : Pair => { p with claimReason := BitVec.ofNat 4 b, claimFrom := s.clock }) (State.setRole_hush h a num)

/-- The Ringmaster of a unit that turns its source on to claim (R427, R435). -/
def Pair.claimSourced (p : Pair) (clock : Nat) : Pair :=
  { p with tlHb := false, hbLost := false, togglePend := true, issued := clock, evt := if p.tlHb then p.evt ||| 8#6 else p.evt }

theorem State.claim_eq (s : State) (a b : Nat) (idle : Bool) (num : Word) :
    s.claim a b idle num = if (s.claimBegun a b num).pair.sourceOn then s.claimBegun a b num
      else if !idle then (s.claimBegun a b num).setRole (s.claimBegun a b num).pair.restRole 6
      else ((s.claimBegun a b num).modPair (fun p => p.claimSourced s.clock)).sendSource true := rfl

section
variable {s : State} {a b : Nat} {num : Word}

theorem State.claim_sourced {idle : Bool} (h : (s.claimBegun a b num).pair.sourceOn = true) : s.claim a b idle num = s.claimBegun a b num := by
  rw [State.claim_eq, if_pos h]

theorem State.claim_busy (h : (s.claimBegun a b num).pair.sourceOn = false) :
    s.claim a b false num = (s.claimBegun a b num).setRole (s.claimBegun a b num).pair.restRole 6 := by
  rw [State.claim_eq, if_neg (by simp [h]), if_pos (by simp)]

theorem State.claim_idle (h : (s.claimBegun a b num).pair.sourceOn = false) :
    s.claim a b true num = ((s.claimBegun a b num).modPair (fun p => p.claimSourced s.clock)).sendSource true := by
  rw [State.claim_eq, if_neg (by simp [h]), if_neg (by simp)]

end

theorem State.claim_pairFrame (s : State) (a b : Nat) (idle : Bool) (num : Word) : PairFrame (s.claim a b idle num) s := by
  have hrec : (s.claim a b idle num).recd.core = s.recd.core := by
    have hbegun : (s.claimBegun a b num).recd.core = s.recd.core := State.setRole_recCore _ _ _ _
    by_cases hsrc : (s.claimBegun a b num).pair.sourceOn = true
    · rw [State.claim_sourced hsrc]
      exact hbegun
    · cases idle with
      | false =>
        rw [State.claim_busy (by simpa using hsrc)]
        exact (State.setRole_recCore _ _ _ _).trans hbegun
      | true =>
        rw [State.claim_idle (by simpa using hsrc)]
        exact (State.recCore_of_recd (State.sendSource_recd _ _)).trans hbegun
  have hframe : KeepsHost (s.claim a b idle num) s ∧ KeepsUnits (s.claim a b idle num) s ∧ (s.claim a b idle num).chans = s.chans
      ∧ (s.claim a b idle num).flt = s.flt := by
    unfold State.claim
    dsimp only
    split
    · simp [State.setRole_frame _ _ _ _, KeepsHost, KeepsUnits]
    · split <;> simp [State.setRole_frame _ _ _ _, State.sendSource_frame _ _, KeepsHost, KeepsUnits]
  obtain ⟨hhost, hunits, hchans, hflt⟩ := hframe
  obtain ⟨h1, h2, h3, h4, h5, h6, h7, h8, h9, -⟩ := hunits
  exact ⟨hhost, ⟨h1, h2, h3, h4, h5, h6, h7, h8, h9, rfl⟩, hrec, hchans, fun x _ => State.core_of_ringCores (State.claim_ringCores _ _ _ _ _) x,
    congrArg Collector.core hflt⟩

theorem PairFrame.roleView {t s : State} (h : PairFrame t s) : t.roleView = s.roleView := by
  obtain ⟨⟨-, hclock, -, -, htime, -⟩, ⟨-, himg, -⟩, -, -, -, hflt⟩ := h
  exact State.roleView_of hflt himg hclock htime

theorem PairFrame.pairOn {t s : State} (h : PairFrame t s) (hs : s.pairOn = true) (hrole : t.pair.role ≠ .unpaired) : t.pairOn = true := by
  obtain ⟨-, ⟨-, himg, -⟩, -⟩ := h
  obtain ⟨hpaired, -⟩ := s.pairOn_iff.mp hs
  have himg : t.img = s.img := himg
  exact t.pairOn_iff.mpr ⟨by rw [himg]; exact hpaired, hrole⟩

/-- What a unit that claims on an idle line shows of itself. -/
theorem Pair.claims_of_still {q p : Pair} {b clock : Nat} (h : q.still = ((p.claimed b clock).claimSourced clock).still) :
    q.role = .claiming ∧ q.claimReason = BitVec.ofNat 4 b ∧ q.claimFrom = clock ∧ q.sourceOn = p.sourceOn ∧ q.togglePend = true
      ∧ q.issued = clock ∧ q.held = (p.takeRole .claiming clock).held :=
  ⟨(congrArg Pair.role h :), (congrArg Pair.claimReason h :), (congrArg Pair.claimFrom h :), (congrArg Pair.sourceOn h :),
    (congrArg Pair.togglePend h :), (congrArg Pair.issued h :), (congrArg Pair.held h :)⟩

section
variable {s : State} (hrole : s.pair.role ≠ .claiming) (hsrc : s.pair.sourceOn = false) (a b : Nat) (num : Word)
include hrole hsrc

theorem State.claimBegun_off : (s.claimBegun a b num).pair.sourceOn = false :=
  (congrArg Pair.sourceOn (State.claimBegun_hush hrole a b num) :).trans hsrc

/-- On an idle line the unit claims, with its source commanded on (R435). -/
theorem State.claim_idle_hush : (s.claim a b true num).pair.hush = ((s.pair.claimed b s.clock).claimSourced s.clock).hush := by
  rw [State.claim_idle (State.claimBegun_off hrole hsrc a b num), State.sendSource, State.sendRing_pair]
  exact (congrArg (fun p : Pair => p.claimSourced s.clock) (State.claimBegun_hush hrole a b num) :)

theorem State.claim_idle_sends (hlink : (s.ring .a).link = true) : (RingCmd.source true, 0) ∈ ((s.claim a b true num).ring .a).cmdq := by
  rw [State.claim_idle (State.claimBegun_off hrole hsrc a b num)]
  refine State.sendRing_sends ?_
  have hbegunLink : ((s.claimBegun a b num).ring .a).link = (s.ring .a).link :=
    (congrArg Ring.link (State.core_of_ringCores (s.setRole_ringCores .claiming a num) .a) :)
  exact hbegunLink.trans hlink

/-- On a line that is not idle the unit rests, and its source stays off (R435). -/
theorem State.claim_busy_rests : (s.claim a b false num).pair.rests ∧ (s.claim a b false num).pair.sourceOn = false := by
  have hoff := State.claimBegun_off hrole hsrc a b num
  have hclaims : (s.claimBegun a b num).pair.role = .claiming := (congrArg Pair.role (State.claimBegun_hush hrole a b num) :)
  have hhush : (s.claim a b false num).pair.hush
      = ((s.claimBegun a b num).pair.takeRole (s.claimBegun a b num).pair.restRole (s.claimBegun a b num).clock).hush := by
    rw [State.claim_busy hoff]
    refine State.setRole_hush ?_ _ _
    rw [hclaims, Pair.restRole]
    split <;> simp
  have hr : (s.claim a b false num).pair.role = (s.claimBegun a b num).pair.restRole := (congrArg Pair.role hhush :)
  have hu : (s.claim a b false num).pair.uq = (s.claimBegun a b num).pair.uq := (congrArg Pair.uq hhush :)
  refine ⟨?_, (congrArg Pair.sourceOn hhush :).trans hoff⟩
  rw [Pair.rests, hr, hu]
  rfl

/-- A claim on an idle line, after the judgement that follows it. -/
theorem State.claim_claims (hon : s.pairOn = true) (hkeep : s.keepsRole) :
    let t := (s.claim a b true num).pairSync
    t.pair.role = .claiming ∧ t.pair.claimReason = BitVec.ofNat 4 b ∧ t.pair.claimFrom = s.clock ∧ t.pair.sourceOn = false
      ∧ t.pair.togglePend = true ∧ t.pair.issued = s.clock ∧ ((s.ring .a).link = true → (RingCmd.source true, 0) ∈ (t.ring .a).cmdq)
      ∧ t.pair.held = (s.pair.takeRole .claiming s.clock).held ∧ PairFrame t s := by
  have hframe := s.claim_pairFrame a b true num
  have hhush := State.claim_idle_hush hrole hsrc a b num
  have hclaims : (s.claim a b true num).pair.role = .claiming := (congrArg Pair.role hhush :)
  have hstill := State.pairSync_still (State.keepsRole_of_view hframe.roleView hkeep) (hframe.pairOn hon (by simp [hclaims]))
    (by simp [Pair.steady, Pair.resting, hclaims])
  obtain ⟨hrole', hreason, hfrom, hsource, htoggle, hissued, hheld⟩ := Pair.claims_of_still (hstill.trans (Pair.still_of_hush hhush))
  exact ⟨hrole', hreason, hfrom, hsource.trans hsrc, htoggle, hissued,
    fun hlink => (State.pairSync_moved _).sent .a _ (State.claim_idle_sends hrole hsrc a b num hlink), hheld,
    (State.pairSync_pairFrame _).trans hframe⟩

/-- A claim on a line that is not idle, after the judgement that follows it. -/
theorem State.claim_rests :
    let t := (s.claim a b false num).pairSync
    t.pair.rests ∧ t.pair.sourceOn = false ∧ PairFrame t s := by
  obtain ⟨hrests, hoff⟩ := State.claim_busy_rests hrole hsrc a b num
  exact ⟨(State.pairSync_moved _).pair.rests hrests, (congrArg Pair.sourceOn (State.pairSync_lines (s.claim a b false num)) :).trans hoff,
    (State.pairSync_pairFrame _).trans (s.claim_pairFrame a b false num)⟩

end

/-! ## The rows that claim, time out and back off -/

theorem State.pairOn_of_roleOn {s : State} (h : s.roleOn = true) : s.pairOn = true := by
  simp only [State.roleOn, Bool.and_eq_true] at h
  exact h.1

/-- The claim of a row, on an idle line and on another. -/
abbrev State.ClaimEnds (s : State) (reason : BitVec 4) (row : Bool → Instr) : Prop :=
  (∃ t, exec (row true) s = .next t ∧ t.pair.role = .claiming ∧ t.pair.claimReason = reason ∧ t.pair.claimFrom = s.clock
      ∧ t.pair.sourceOn = false ∧ t.pair.togglePend = true ∧ t.pair.issued = s.clock
      ∧ ((s.ring .a).link = true → (RingCmd.source true, 0) ∈ (t.ring .a).cmdq) ∧ t.pair.held = (s.pair.takeRole .claiming s.clock).held
      ∧ PairFrame t s)
    ∧ ∃ t, exec (row false) s = .next t ∧ t.pair.rests ∧ t.pair.sourceOn = false ∧ PairFrame t s

/-- A row that comes to a claim ends as a claim does. -/
theorem State.claimEnds {s : State} {row : Bool → Instr} {a b : Nat} {num : Word}
    (hexec : ∀ idle, exec (row idle) s = .next (s.claim a b idle num).pairSync) (hon : s.roleOn = true) (hrole : s.pair.role ≠ .claiming)
    (hsrc : s.pair.sourceOn = false) (hkeep : s.keepsRole) : s.ClaimEnds (BitVec.ofNat 4 b) row :=
  ⟨⟨_, hexec true, State.claim_claims hrole hsrc a b num (State.pairOn_of_roleOn hon) hkeep⟩,
    ⟨_, hexec false, State.claim_rests hrole hsrc a b num⟩⟩

/-- A unit that is STARTING sees no partner that is active, and is alone or first by PAIR_ID (R434). -/
theorem Pair.startClaims_of {p : Pair} {id : Bool} (huq : p.uq.toNat < 32) (hactive : p.partnerActive = false)
    (hfirst : p.tzUp = false ∨ (p.partnerRole = 1#4 ∧ id = false ∧ p.uq.getLsbD 2 = false)) : p.startClaims id = true := by
  have hhb : p.tlHb = false := by simp only [Pair.partnerActive, Bool.or_eq_false_iff] at hactive; exact hactive.2
  unfold Pair.startClaims
  rw [hactive, hhb]
  cases htz : p.tzUp
  · simp [Pair.localClear, huq]
  · obtain ⟨hr, hid, hu⟩ : p.partnerRole = 1#4 ∧ id = false ∧ p.uq.getLsbD 2 = false := by simpa [htz] using hfirst
    simpa [Pair.localClear, huq, hr, hid] using hu

theorem listenTimeExpiry_claims {s : State} (hon : s.roleOn = true) (hrole : s.pair.role = .starting) (hconf : (s.ring .a).hostConf = true)
    (htime : s.pair.listenFrom + s.pair.delayUs ≤ s.clock) (hclaims : s.pair.startClaims s.img.pairId = true)
    (hsrc : s.pair.sourceOn = false) (hkeep : s.keepsRole) : s.ClaimEnds 0#4 .listenTimeExpiry :=
  State.claimEnds (fun _ => congrArg Host.Outcome.next (whenDo_of (by simp [hon, hrole, hconf, htime, hclaims]) _ s)) hon (by simp [hrole]) hsrc
    hkeep

theorem takeoverDelayExpiry_claims {s : State} (hon : s.roleOn = true) (hrole : s.pair.role = .standby) (hdue : s.pair.takeoverDue s.clock = true)
    (hstale : s.pair.stale = false ∨ s.pair.staleOk = true) (hsrc : s.pair.sourceOn = false) (hkeep : s.keepsRole) :
    s.ClaimEnds 1#4 .takeoverDelayExpiry := by
  have hok : (!s.pair.stale || s.pair.staleOk) = true := by obtain h | h := hstale <;> simp [h]
  exact State.claimEnds (fun _ => congrArg Host.Outcome.next (whenDo_of (by simp [hon, hrole, hdue, hok]) _ s)) hon (by simp [hrole]) hsrc hkeep

/-- A backoff ends (R434). -/
theorem backoffExpiry_due {s : State} (idle : Bool) (hon : s.roleOn = true) (hrole : s.pair.role = .backoff)
    (htime : s.pair.backoffFrom + (if s.img.pairId then 3000 else 1000) ≤ s.clock) :
    exec (.backoffExpiry idle) s = .next (if s.pair.claimHolds s.img.pairId s.clock then s.claim 9 s.pair.claimReason.toNat idle
      else s.setRole s.pair.restRole (if s.pair.partnerActive then 6 else 9)).pairSync :=
  congrArg Host.Outcome.next (whenDo_of (by simp [hon, hrole, htime]) _ s)

theorem backoffExpiry_claims {s : State} (hon : s.roleOn = true) (hrole : s.pair.role = .backoff)
    (htime : s.pair.backoffFrom + (if s.img.pairId then 3000 else 1000) ≤ s.clock) (hholds : s.pair.claimHolds s.img.pairId s.clock = true)
    (hsrc : s.pair.sourceOn = false) (hkeep : s.keepsRole) : s.ClaimEnds s.pair.claimReason .backoffExpiry := by
  have hends := State.claimEnds (row := .backoffExpiry) (a := 9) (b := s.pair.claimReason.toNat) (num := 0#32)
    (fun idle => (backoffExpiry_due idle hon hrole htime).trans (by rw [if_pos hholds])) hon (by simp [hrole]) hsrc hkeep
  rwa [BitVec.ofNat_toNat, BitVec.setWidth_eq] at hends

/-! ## Frames of the parts of a row -/

theorem State.setRole_pairFrame (s : State) (r : Role) (k : Nat) (p : Word) : PairFrame (s.setRole r k p) s :=
  ⟨by simp [State.setRole_frame _ _ _ _, KeepsHost], by simp [State.setRole_frame _ _ _ _, KeepsUnits], State.setRole_recCore _ _ _ _,
    by simp [State.setRole_frame _ _ _ _], fun x _ => State.core_of_ringCores (State.setRole_ringCores s r k p) x,
    congrArg Collector.core (by simp [State.setRole_frame _ _ _ _])⟩

theorem State.event_pairFrame (s : State) (g c : Nat) (o : Origin) (p q : Word) : PairFrame (s.event g c o p q) s :=
  ⟨by simp [State.event_frame _ _ _ _ _ _, KeepsHost], by simp [State.event_frame _ _ _ _ _ _, KeepsUnits], State.event_recCore _ _ _ _ _ _,
    rfl, fun _ _ => rfl, rfl⟩

theorem State.modPair_pairFrame (s : State) (f : Pair → Pair) : PairFrame (s.modPair f) s :=
  ⟨by simp [KeepsHost], by simp [KeepsUnits], rfl, rfl, fun _ _ => rfl, rfl⟩

theorem State.sendSource_pairFrame (s : State) (on : Bool) : PairFrame (s.sendSource on) s :=
  ⟨by simp [State.sendSource_frame _ _, KeepsHost], by simp [State.sendSource_frame _ _, KeepsUnits],
    State.recCore_of_recd (State.sendSource_recd _ _), by simp [State.sendSource_frame _ _],
    fun x _ => State.core_of_ringCores (State.sendRing_ringCores s .a _) x, congrArg Collector.core (by simp [State.sendSource_frame _ _])⟩

theorem PairFrame.of_reports {t s : State} (h : ReportFrame t s) : PairFrame t s := by
  obtain ⟨hhost, ⟨h1, h2, h3, h4, h5, h6, h7, h8, h9, -⟩, hrec, hchans, hrings, -, hflt⟩ := h
  exact ⟨hhost, ⟨h1, h2, h3, h4, h5, h6, h7, h8, h9, rfl⟩, hrec, hchans, hrings, hflt⟩

/-- A claim that no longer holds: the unit rests (R434). -/
theorem backoffExpiry_rests {s : State} (idle : Bool) (hon : s.roleOn = true) (hrole : s.pair.role = .backoff)
    (htime : s.pair.backoffFrom + (if s.img.pairId then 3000 else 1000) ≤ s.clock) (hends : s.pair.claimHolds s.img.pairId s.clock = false) :
    ∃ t, exec (.backoffExpiry idle) s = .next t ∧ t.pair.rests ∧ t.pair.sourceOn = s.pair.sourceOn ∧ PairFrame t s := by
  refine ⟨_, (backoffExpiry_due idle hon hrole htime).trans (by rw [hends]), ?_⟩
  have hhush := State.setRole_hush (s := s) (r := s.pair.restRole) (by
    rw [hrole, Pair.restRole]
    split <;> simp) (if s.pair.partnerActive then 6 else 9) 0#32
  have hframe := s.setRole_pairFrame s.pair.restRole (if s.pair.partnerActive then 6 else 9) 0#32
  generalize s.setRole s.pair.restRole _ _ = u at hhush hframe
  have hrests : u.pair.rests := by
    have hr : u.pair.role = s.pair.restRole := (congrArg Pair.role hhush :)
    have hq : u.pair.uq = s.pair.uq := (congrArg Pair.uq hhush :)
    rw [Pair.rests, hr, hq]
    rfl
  exact ⟨u.pairSync_moved.pair.rests hrests, (congrArg Pair.sourceOn u.pairSync_lines :).trans (congrArg Pair.sourceOn hhush :),
    u.pairSync_pairFrame.trans hframe⟩

/-- A claim that does not qualify in 1 000 µs backs off (R434, R435). -/
theorem claimTimeout_backsOff {s : State} (port : BitVec 2) (hon : s.roleOn = true) (hrole : s.pair.role = .claiming)
    (hqual : s.pair.tlQual = false) (htime : s.pair.claimFrom + 1000 ≤ s.clock) (hkeep : s.keepsRole) :
    ∃ t, exec (.claimTimeout port) s = .next t ∧ t.pair.role = .backoff
      ∧ ((s.ring .a).link = true → (RingCmd.source false, 0) ∈ (t.ring .a).cmdq) ∧ t.pair.togglePend = false ∧ t.pair.backoffFrom = s.clock
      ∧ t.pair.claimFails = s.pair.claimFails + 1 ∧ t.pair.claimFail = satInc s.pair.claimFail ∧ PairFrame t s := by
  refine ⟨_, congrArg Host.Outcome.next (whenDo_of (by simp [hon, hrole, hqual, htime]) _ s), ?_⟩
  dsimp only
  generalize hu : s.modPair _ = u
  have hpair : u.pair = { s.pair with
      togglePend := false, backoffFrom := s.clock, claimFails := s.pair.claimFails + 1, claimFail := satInc s.pair.claimFail } := by
    rw [← hu]
    rfl
  have hlink : (s.ring .a).link = true → (RingCmd.source false, 0) ∈ ((u.sendSource false).ring .a).cmdq := fun h => by
    rw [← hu]
    exact State.sendRing_sends h
  have hframe : PairFrame u s := hu ▸ s.modPair_pairFrame _
  generalize hv : State.event _ _ _ _ _ _ = v
  have hvpair : v.pair = u.pair := by
    rw [← hv, State.event_pair, State.sendSource, State.sendRing_pair]
  have hvring : v.ring = (u.sendSource false).ring := by
    rw [← hv]
    rfl
  have hvframe : PairFrame v s := by
    rw [← hv]
    exact (State.event_pairFrame _ _ _ _ _ _).trans ((State.sendSource_pairFrame _ _).trans hframe)
  have hhush := State.setRole_hush (s := v) (r := .backoff) (by simp [hvpair, hpair, hrole]) 8 0#32
  have hbacks := (State.setRole_pairFrame v .backoff 8 0#32).trans hvframe
  have hrole' : (v.setRole .backoff 8).pair.role = .backoff := (congrArg Pair.role hhush :)
  have hstill := (State.pairSync_still (State.keepsRole_of_view hbacks.roleView hkeep) (hbacks.pairOn (State.pairOn_of_roleOn hon) (by simp [hrole']))
    (by simp [Pair.steady, Pair.resting, hrole'])).trans (Pair.still_of_hush hhush)
  rw [hvpair, hpair] at hstill
  refine ⟨(congrArg Pair.role hstill :), fun h => (State.pairSync_moved _).sent .a _ (State.setRole_sent _ _ _ _ ?_),
    (congrArg Pair.togglePend hstill :), (congrArg Pair.backoffFrom hstill :), (congrArg Pair.claimFails hstill :),
    (congrArg Pair.claimFail hstill :), (State.pairSync_pairFrame _).trans hbacks⟩
  rw [hvring]
  exact hlink h

/-! ## The rows of the two paths (R430, R432, R442) -/

theorem State.Moved.pairOn {t s : State} (h : t.Moved s) (hframe : PairFrame t s) (hs : s.pairOn = true) : t.pairOn = true :=
  hframe.pairOn hs (h.pair.paired (s.pairOn_iff.mp hs).2)

/-- The Ringmaster of a unit that no longer sees the Tightrope heartbeat (R430). -/
def Pair.hbGone (p : Pair) : Pair :=
  { p with tlHb := false, hbLost := true, hbStayed := false, evt := if p.tlHb then p.evt ||| 8#6 else p.evt }

theorem tightropeHbLost_eq {s : State} (port : BitVec 2) (hon : s.roleOn = true) (hsrc : s.pair.sourceOn = false) (hhb : s.pair.tlHb = true) :
    exec (.tightropeHbLost port) s = .next (if (s.modPair Pair.hbGone).tlLost
      then (s.modPair Pair.hbGone).raiseLive (hostSlot 21) (port.zeroExtend 32) else s.modPair Pair.hbGone).pairSync :=
  congrArg Host.Outcome.next (whenDo_of (by simp [hon, hsrc, hhb]) _ s)

theorem tightropeHbLost_falls {s : State} (port : BitVec 2) (hon : s.roleOn = true) (hsrc : s.pair.sourceOn = false) (hhb : s.pair.tlHb = true) :
    ∃ t, exec (.tightropeHbLost port) s = .next t ∧ t.pair.tlHb = false ∧ t.pair.evt.getLsbD 3 = true
      ∧ (s.pair.resting → (t.slot (hostSlot 21)).real.getLsbD 0 = s.pair.presentTz)
      ∧ (s.pair.presentTz = false → t.pair.bothLostFrom = some (s.pair.bothLostFrom.getD s.clock))
      ∧ t.pair.lines = ({ s.pair with tlHb := false, hbLost := true, hbStayed := false } : Pair).lines ∧ PairFrame t s := by
  refine ⟨_, tightropeHbLost_eq port hon hsrc hhb, ?_⟩
  have hmoved : State.Moved (if (s.modPair Pair.hbGone).tlLost then (s.modPair Pair.hbGone).raiseLive (hostSlot 21) (port.zeroExtend 32)
      else s.modPair Pair.hbGone) (s.modPair Pair.hbGone) := .ite (State.raiseLive_moved _ _ _) (.refl _)
  have hcore := pairCore_offReports.ite ((s.modPair Pair.hbGone).tlLost = true) _ _ (s.modPair Pair.hbGone)
    (pairCore_offReports.raiseLive _ (hostSlot 21) (port.zeroExtend 32)) rfl
  have hframe : PairFrame (if (s.modPair Pair.hbGone).tlLost then (s.modPair Pair.hbGone).raiseLive (hostSlot 21) (port.zeroExtend 32)
      else s.modPair Pair.hbGone) s := by
    split
    · exact (PairFrame.of_reports (State.raiseLive_reports _ _ _)).trans (s.modPair_pairFrame _)
    · exact s.modPair_pairFrame _
  generalize (if (s.modPair Pair.hbGone).tlLost then _ else s.modPair Pair.hbGone) = u at hmoved hcore hframe ⊢
  have hpaired : u.pairOn = true := hframe.pairOn (State.pairOn_of_roleOn hon)
    (hmoved.pair.paired (s.pairOn_iff.mp (State.pairOn_of_roleOn hon)).2)
  have hlines : u.pair.lines = ({ s.pair with tlHb := false, hbLost := true, hbStayed := false } : Pair).lines := Pair.lines_of_core hcore
  have hall := u.pairSync_lines.trans hlines
  have hclock : u.clock = s.clock := hframe.1.2.1
  refine ⟨(congrArg Pair.tlHb hall :), u.pairSync_moved.pair.evt 3 (hmoved.pair.evt 3 ?_), fun hrest => ?_, fun htz => ?_, hall,
    u.pairSync_pairFrame.trans hframe⟩
  · simp [Pair.hbGone, hhb]
  · have hlost : u.pair.hbLost = true := (congrArg Pair.hbLost hlines :)
    have htz : u.pair.presentTz = s.pair.presentTz := (congrArg Pair.presentTz hlines :)
    rw [State.pairSync_tlLost hpaired (hmoved.pair.resting hrest), hlost, htz, Bool.true_and]
  · have hnone : u.pair.presentTz = false := (congrArg Pair.presentTz hlines :).trans htz
    have hhb' : u.pair.tlHb = false := (congrArg Pair.tlHb hlines :)
    have hfrom : u.pair.bothLostFrom = s.pair.bothLostFrom := (congrArg Pair.bothLostFrom hcore :)
    rw [State.pairSync_bothLost hpaired, Pair.bothLost, hnone, hhb', hfrom, hclock]
    rfl

/-- A judgement ends STARTING where the partner is active (R434). -/
theorem State.pairSync_begun {s : State} (hon : s.pairOn = true) (hactive : s.pair.partnerActive = true) : s.pairSync.pair.role ≠ .starting := by
  have hcore : s.causesJudged.pair.core = s.pair.core := State.setUq_pairCore _ _ _
  have hthen : s.causesJudged.pair.partnerActive = true := (congrArg Pair.partnerActive hcore :).trans hactive
  have hbegun : s.causesJudged.startJudged.pair.role ≠ .starting := by
    unfold State.startJudged
    by_cases hstart : s.causesJudged.pair.role = .starting
    · rw [if_pos (by simp [hstart, hthen])]
      have hne : s.causesJudged.pair.role ≠ s.causesJudged.pair.restRole := by
        rw [hstart, Pair.restRole]
        split <;> simp
      have hrole : (s.causesJudged.setRole s.causesJudged.pair.restRole 6).pair.role = s.causesJudged.pair.restRole :=
        (congrArg Pair.role (State.setRole_hush hne 6 0#32) :)
      rw [hrole, ← hstart]
      exact hne.symm
    · rw [if_neg (by simp [hstart])]
      exact hstart
  rw [State.pairSync_judged (State.causesJudged_pairOn hon)]
  exact ((State.tellRole_moved _ _ _).trans ((State.pairSources_moved _).trans ((State.settleGap_moved _).trans
    ((State.pairCounts_moved _).trans (State.checkSwap_moved _))))).pair.begun hbegun

/-- The Ringmaster of a unit that sees the Tightrope heartbeat again (R430). -/
def Pair.hbSeen (p : Pair) : Pair := { p with tlHb := true, hbLost := false, evt := p.evt ||| 8#6 }

theorem tightropeHbReturn_rises {s : State} (hon : s.roleOn = true) (hsrc : s.pair.sourceOn = false) (hhb : s.pair.tlHb = false) :
    ∃ t, exec .tightropeHbReturn s = .next t ∧ t.pair.tlHb = true ∧ t.pair.evt.getLsbD 3 = true ∧ t.pair.bothLostFrom = none
      ∧ t.pair.role ≠ .starting ∧ (s.pair.resting → (t.slot (hostSlot 21)).real.getLsbD 0 = false)
      ∧ t.pair.lines = ({ s.pair with tlHb := true, hbLost := false } : Pair).lines ∧ PairFrame t s := by
  have hpaired : (s.modPair Pair.hbSeen).pairOn = true := State.pairOn_of_roleOn hon
  have hlines := (s.modPair Pair.hbSeen).pairSync_lines
  refine ⟨(s.modPair Pair.hbSeen).pairSync, congrArg Host.Outcome.next (whenDo_of (by simp [hon, hsrc, hhb]) _ s), (congrArg Pair.tlHb hlines :),
    (State.pairSync_moved _).pair.evt 3 (by simp [Pair.hbSeen]), ?_, State.pairSync_begun hpaired (by simp [Pair.partnerActive, Pair.hbSeen]),
    fun hrest => ?_, hlines, (State.pairSync_pairFrame _).trans (s.modPair_pairFrame _)⟩
  · rw [State.pairSync_bothLost hpaired]
    simp [Pair.bothLost, Pair.hbSeen]
  · rw [State.pairSync_tlLost hpaired hrest]
    rfl

/-- A copy that is stale, on a unit that has a partner on the Tightrope alone (R432). -/
theorem staleLinkFail_stales {s : State} {l : Nat} (hon : s.roleOn = true) (htz : s.pair.tzUp = false) (hhb : s.pair.tlHb = true)
    (hstayed : s.pair.hbStayed = true) (hlost : s.pair.tzLostAt = some l) (htime : l + 5000 ≤ s.clock) (hleads : s.pair.leads = false)
    (hstale : s.pair.stale = false) :
    ∃ t, exec .staleLinkFail s = .next t ∧ t.pair.stale = true ∧ t.pair.needFull = true ∧ t.pair.evt.getLsbD 1 = true ∧ PairFrame t s := by
  refine ⟨_, congrArg Host.Outcome.next (whenDo_of (by simp [hon, htz, hhb, hstayed, hlost, htime, hleads, hstale]) _ s), ?_⟩
  generalize hu : s.modPair _ = u
  have hpair : u.pair = { s.pair with stale := true, needFull := true, evt := s.pair.evt ||| 2#6 } := by
    rw [← hu]
    rfl
  have hstays : u.pair.stays := by
    rw [hpair]
    exact ⟨rfl, (s.pairOn_iff.mp (State.pairOn_of_roleOn hon)).2, hleads⟩
  have hfull : u.pair.needFull = true := by rw [hpair]
  refine ⟨(u.pairSync_moved.pair.stays hstays).1, (congrArg Pair.needFull u.pairSync_lines :).trans hfull,
    u.pairSync_moved.pair.evt 1 (by simp [hpair]), u.pairSync_pairFrame.trans (hu ▸ s.modPair_pairFrame _)⟩

/-! ### The loss of Trapeze -/

/-- The Ringmaster that has lost Trapeze (R430, R442). -/
def Pair.tzGone (p : Pair) (clock : Nat) : Pair :=
  { p with
    missed := if p.tzUp then satAdd p.missed ((clock - p.lastBeat) / 100) else p.missed
    tzUp := false, tzLostAt := some clock, hbStayed := p.tlHb, partnerRole := 15#4, evt := if p.tzUp then p.evt ||| 4#6 else p.evt
    segs := [], discarding := false }

/-- The Ringmaster that has given up the epoch that arrives (R442). -/
def Pair.epochDropped (p : Pair) : Pair := { p with discarding := true, discarded := satInc p.discarded }

theorem State.dropEpoch_drops {s : State} (hsegs : s.pair.segs ≠ []) (hdisc : s.pair.discarding = false) :
    ∃ num, s.dropEpoch = (s.modPair Pair.epochDropped).raise ⟨hostSlot 26, 0, false, num, false⟩ := by
  unfold State.dropEpoch
  match hs : s.pair.segs with
  | [] => exact absurd hs hsegs
  | g :: rest =>
    dsimp only
    rw [if_neg (by simp [hdisc])]
    exact ⟨_, rfl⟩

theorem State.dropEpoch_none {s : State} (h : s.pair.segs = [] ∨ s.pair.discarding = true) : s.dropEpoch = s := by
  unfold State.dropEpoch
  split
  · rfl
  next g rest hs =>
    obtain h | h := h
    · simp [hs] at h
    · rw [if_pos h]

theorem State.dropEpoch_pairFrame (s : State) : PairFrame s.dropEpoch s := by
  by_cases h : s.pair.segs ≠ [] ∧ s.pair.discarding = false
  · obtain ⟨num, hdrop⟩ := State.dropEpoch_drops h.1 h.2
    rw [hdrop]
    exact (PairFrame.of_reports (State.raise_reports _ _)).trans (s.modPair_pairFrame _)
  · rw [State.dropEpoch_none (by simpa [Classical.or_iff_not_imp_left] using h)]
    exact s.modPair_pairFrame id

/-- The Ringmaster that gives up the epoch that arrives, where one does (R442). -/
def Pair.dropsEpoch (p : Pair) : Pair := if p.segs = [] ∨ p.discarding = true then p else p.epochDropped

theorem State.dropEpoch_moved (s : State) : s.dropEpoch.Moved s ∧ s.dropEpoch.pair.core = s.pair.dropsEpoch.core := by
  by_cases h : s.pair.segs = [] ∨ s.pair.discarding = true
  · rw [State.dropEpoch_none h, Pair.dropsEpoch, if_pos h]
    exact ⟨.refl s, rfl⟩
  · have hdrops := not_or.mp h
    obtain ⟨num, hdrop⟩ := State.dropEpoch_drops hdrops.1 (by simpa using hdrops.2)
    rw [hdrop, Pair.dropsEpoch, if_neg h]
    exact ⟨(State.raise_moved _ _).trans (.of_pair (.of_fields rfl rfl rfl fun _ h => h) rfl rfl), pairCore_offReports.raise _ _⟩

/-- A real raising sets the sticky bit of its source. -/
theorem State.raise_sticky (s : State) (k : Fin 256) (m : Nat) (p2 : Word) (late : Bool) :
    ((s.raise ⟨k, m, false, p2, late⟩).slot k).sticky = true := by
  have hcore : ((s.raiseCore ⟨k, m, false, p2, late⟩ s.tick).slot k).sticky = true := by
    rw [State.raiseCore_slot, State.noteRaise, State.modSlot_slot_same]
    simp
  have hloss := (State.checkLoss_moved s _).sticky k hcore
  unfold State.raise State.raiseAt
  dsimp only
  split
  · exact (State.endSet_moved _ _ _).sticky k hloss
  · exact hloss

theorem trapezeLost_eq {s : State} (hon : s.tzOn = true) (htz : s.pair.tzUp = true) (htime : s.pair.lastFrame + s.pair.tzLoss * 100 ≤ s.clock) :
    exec .trapezeLost s = .next ((s.dropEpoch.modPair (fun p => p.tzGone s.clock)).raiseLive (hostSlot 20)).pairSync :=
  congrArg Host.Outcome.next (whenDo_of (by simp [hon, htz, htime]) _ s)

theorem trapezeLost_falls {s : State} (hon : s.tzOn = true) (htz : s.pair.tzUp = true)
    (htime : s.pair.lastFrame + s.pair.tzLoss * 100 ≤ s.clock) :
    ∃ t, exec .trapezeLost s = .next t ∧ t.pair.tzUp = false ∧ t.pair.tzLostAt = some s.clock ∧ t.pair.partnerRole = 15#4 ∧ t.pair.segs = []
      ∧ t.pair.discarding = false ∧ t.pair.evt.getLsbD 2 = true
      ∧ t.pair.missed = satAdd s.pair.missed ((s.clock - s.pair.lastBeat) / 100) ∧ (t.slot (hostSlot 20)).real.getLsbD 0 = true
      ∧ (s.pair.segs ≠ [] → s.pair.discarding = false → t.pair.discarded = satInc s.pair.discarded ∧ (t.slot (hostSlot 26)).sticky = true)
      ∧ PairFrame t s := by
  refine ⟨_, trapezeLost_eq hon htz htime, ?_⟩
  obtain ⟨hmoved, hcore⟩ := s.dropEpoch_moved
  have hup : s.dropEpoch.pair.tzUp = true := by
    refine (congrArg Pair.tzUp hcore :).trans ?_
    unfold Pair.dropsEpoch
    split <;> exact htz
  have hgone : (s.dropEpoch.modPair (fun p => p.tzGone s.clock)).Moved s :=
    State.Moved.trans (b := s.dropEpoch) (.of_pair (.of_fields rfl rfl rfl fun i hi => by simp [Pair.tzGone, hup, hi]) rfl rfl) hmoved
  have hevt : (s.dropEpoch.modPair (fun p => p.tzGone s.clock)).pair.evt.getLsbD 2 = true := by simp [Pair.tzGone, hup]
  have hframe : PairFrame ((s.dropEpoch.modPair (fun p => p.tzGone s.clock)).raiseLive (hostSlot 20)) s :=
    (PairFrame.of_reports (State.raiseLive_reports _ _ _)).trans ((State.modPair_pairFrame _ _).trans s.dropEpoch_pairFrame)
  have hlive := (s.dropEpoch.modPair (fun p => p.tzGone s.clock)).raiseLive_live (hostSlot 20) 0#32 (by decide)
  have hraised := State.raiseLive_moved (s.dropEpoch.modPair (fun p => p.tzGone s.clock)) (hostSlot 20) 0#32
  have hlines : ((s.dropEpoch.modPair (fun p => p.tzGone s.clock)).raiseLive (hostSlot 20)).pairSync.pair.lines
      = (s.pair.dropsEpoch.tzGone s.clock).lines :=
    (State.pairSync_lines _).trans (Pair.lines_of_core ((pairCore_offReports.raiseLive _ _ _).trans
      (congrArg (fun p : Pair => (p.tzGone s.clock).core) hcore :)))
  have hpaired : ((s.dropEpoch.modPair (fun p => p.tzGone s.clock)).raiseLive (hostSlot 20)).pairOn = true :=
    (hraised.trans hgone).pairOn hframe (State.pairOn_of_roleOn (by simp only [State.tzOn, Bool.and_eq_true] at hon; exact hon.1))
  generalize (s.dropEpoch.modPair (fun p => p.tzGone s.clock)).raiseLive (hostSlot 20) = u at *
  have hmissed : (s.pair.dropsEpoch.tzGone s.clock).missed = satAdd s.pair.missed ((s.clock - s.pair.lastBeat) / 100) := by
    unfold Pair.dropsEpoch
    split <;> simp [Pair.tzGone, Pair.epochDropped, htz]
  refine ⟨(congrArg Pair.tzUp hlines :), (congrArg Pair.tzLostAt hlines :), (congrArg Pair.partnerRole hlines :), (congrArg Pair.segs hlines :),
    (congrArg Pair.discarding hlines :), u.pairSync_moved.pair.evt 2 (hraised.pair.evt 2 hevt), (congrArg Pair.missed hlines :).trans hmissed,
    State.pairSync_real hpaired (by decide) hlive, fun hsegs hdisc => ⟨?_, ?_⟩, u.pairSync_pairFrame.trans hframe⟩
  · refine (congrArg Pair.discarded hlines :).trans ?_
    rw [Pair.dropsEpoch, if_neg (by simp [hsegs, hdisc])]
    rfl
  · obtain ⟨num, hdrop⟩ := State.dropEpoch_drops hsegs hdisc
    refine u.pairSync_moved.sticky _ (hraised.sticky _ ?_)
    rw [State.modPair_slot, hdrop]
    exact State.raise_sticky _ _ _ _ _

end Sys2Proof.Machine
end

section
/-! PROOFS. TL_QUAL on Ring A and at the host die, and the gates that follow it (R427 to R429, R434, R435). -/

namespace Sys2Proof.Machine

/-! ## The drive gate of a Ring (R427, R428) -/

theorem State.followGate_side (s : State) {x y : RingId} (h : x ≠ y) : (s.followGate x).side y = s.side y := by
  have hgate : (s.modRing x (fun r => { r with driveGate := s.gateOpen x })).side y = s.side y := State.modRing_side _ _ _ _ h
  unfold State.followGate
  refine (State.refreshRing_side _ _ _ _ h).trans ?_
  split
  · refine (forEach_ringChs_side x y h _ (fun n t hn => State.modChan_side t n _ y hn) _ (fun n m => (mem_ringChs x n).1 m) _).trans hgate
  · exact hgate

/-- TL_QUAL as Ring A sees it, with its own gate. -/
def State.qualFollowed (s : State) (up : Bool) : State := (s.modRing .a (fun r => { r with qual := up })).followGate .a

theorem State.qualFollowed_ring (s : State) (up : Bool) :
    ((s.qualFollowed up).ring .a).still
      = ({ s.ring .a with qual := up, driveGate := !s.pairOn || ((s.ring .a).gateIn && up) } : Ring).still := by
  refine (State.followGate_still _ _).trans ?_
  rw [State.modRing_ring]
  simp [State.gateOpen, State.pairOn]

/-- What a change of TL_QUAL on Ring A leaves. -/
theorem State.qualFollowed_frame (s : State) (up : Bool) :
    (s.qualFollowed up).pair = s.pair ∧ (s.qualFollowed up).side .b = s.side .b ∧ KeepsHost (s.qualFollowed up) s ∧ KeepsUnits (s.qualFollowed up) s
      ∧ (s.qualFollowed up).flt = s.flt ∧ (s.qualFollowed up).recd = s.recd := by
  refine ⟨?_, (State.followGate_side _ (by decide)).trans (State.modRing_side _ _ _ _ (by decide)), ?_, ?_, ?_, ?_⟩
  all_goals simp [State.qualFollowed, State.followGate_frame _ _, KeepsHost, KeepsUnits]

/-- On a paired unit the gate of Ring A is shut without TL_QUAL. -/
theorem State.gate_shut {s : State} (hon : s.roleOn = true) : (!s.pairOn || ((s.ring .a).gateIn && false)) = false := by
  simp [State.pairOn_of_roleOn hon]

theorem tlQualChange_eq {s : State} {up : Bool} (idle : Bool) (hon : s.roleOn = true) (hqual : (s.ring .a).qual ≠ up)
    (hup : up = true → s.pair.sourceOn = true) :
    exec (.tlQualChange up idle) s = .next (if (s.ring .a).fresh then (s.qualFollowed up).sendUp .a (.qual up idle s.tick) else s.qualFollowed up) := by
  have hsrc : (!up || s.pair.sourceOn) = true := by
    cases up
    · rfl
    · simp [hup rfl]
  exact congrArg Host.Outcome.next (whenDo_of (by simp [hon, hqual, hsrc]) _ s)

/-- TL_QUAL crosses to the host die in a frame of Ring A (R16, R428). -/
theorem tlQualChange_crosses {s : State} {up : Bool} (idle : Bool) (hon : s.roleOn = true) (hqual : (s.ring .a).qual ≠ up)
    (hup : up = true → s.pair.sourceOn = true) (hlink : (s.ring .a).link = true) (hlost : (s.ring .a).ringLost = false) :
    ∃ t, exec (.tlQualChange up idle) s = .next t ∧ (t.ring .a).qual = up ∧ (up = false → (t.ring .a).driveGate = false)
      ∧ (t.ring .a).upq.getLast? = some (.qual up idle s.tick) ∧ t.pair = s.pair ∧ t.side .b = s.side .b ∧ KeepsHost t s ∧ KeepsUnits t s
      ∧ t.flt = s.flt ∧ t.recd = s.recd := by
  have hring := s.qualFollowed_ring up
  obtain ⟨hpair, hside, hhost, hunits, hflt, hrecd⟩ := s.qualFollowed_frame up
  refine ⟨(s.qualFollowed up).sendUp .a (.qual up idle s.tick), (tlQualChange_eq idle hon hqual hup).trans (by simp [Ring.fresh, hlink, hlost]),
    ?_, fun h => ?_, ?_, hpair, (State.sendUp_side _ _ _ _ (by decide)).trans hside, hhost, hunits, hflt, hrecd⟩
  · exact (congrArg Ring.qual ((State.sendUp_still _ _ _ _).trans hring) :)
  · subst h
    exact (congrArg Ring.driveGate ((State.sendUp_still _ _ _ _).trans hring) :).trans (State.gate_shut hon)
  · rw [State.sendUp, State.modRing_ring]
    exact List.getLast?_concat

/-- While the link to Ring A is down, the gate alone follows. -/
theorem tlQualChange_down {s : State} (idle : Bool) (hon : s.roleOn = true) (hqual : (s.ring .a).qual = true)
    (hdown : (s.ring .a).link = false ∨ (s.ring .a).ringLost = true) :
    ∃ t, exec (.tlQualChange false idle) s = .next t ∧ (t.ring .a).qual = false ∧ (t.ring .a).driveGate = false ∧ t.pair = s.pair
      ∧ t.side .b = s.side .b ∧ KeepsHost t s ∧ KeepsUnits t s ∧ t.flt = s.flt ∧ t.recd = s.recd := by
  have hring := s.qualFollowed_ring false
  have hfresh : (s.ring .a).fresh = false := by obtain h | h := hdown <;> simp [Ring.fresh, h]
  refine ⟨s.qualFollowed false, (tlQualChange_eq idle hon (by simp [hqual]) (by simp)).trans (by rw [hfresh]; rfl), (congrArg Ring.qual hring :),
    (congrArg Ring.driveGate hring :).trans (State.gate_shut hon), s.qualFollowed_frame false⟩

/-! ## A gate that is not renewed (R427 to R429) -/

/-- A Ring whose gate closes of itself. -/
def State.gateClosed (s : State) (x : RingId) : State := (s.modRing x (fun r => { r with gateIn := false, driveGate := false })).refreshRing x 0

theorem driveGateTimeout_closes {s : State} {x : RingId} {g : Nat} (hat : (s.ring x).gateAt = some g) (htime : g + 100 ≤ s.clock) :
    ∃ t, exec (.driveGateTimeout x) s = .next t ∧ (t.ring x).driveGate = false ∧ (t.ring x).gateIn = false
      ∧ t.pair = { s.pair with
          sourceOn := s.pair.sourceOn && !(decide (x = .a) && decide ((s.ring .a).lastHostBeat + 100 ≤ s.clock)) }
      ∧ (∀ y, y ≠ x → t.side y = s.side y) ∧ t.recd = s.recd ∧ t.wheels = s.wheels ∧ t.flt = s.flt ∧ t.rpl = s.rpl ∧ t.cells = s.cells
      ∧ KeepsHost t s ∧ KeepsUnits t s := by
  have hexec : exec (.driveGateTimeout x) s = .next (if x = .a && decide ((s.ring x).lastHostBeat + 100 ≤ s.clock)
      then (s.gateClosed x).modPair (fun p => { p with sourceOn := false }) else s.gateClosed x) :=
    congrArg Host.Outcome.next (whenDo_of (by simp [hat, htime]) _ s)
  have hring : ((s.gateClosed x).ring x).still = ({ s.ring x with gateIn := false, driveGate := false } : Ring).still := by
    refine (State.refreshRing_still _ _ _ _).trans ?_
    rw [State.modRing_ring]
  have hside : ∀ y, y ≠ x → (s.gateClosed x).side y = s.side y := fun y hy =>
    (State.refreshRing_side _ _ _ _ hy.symm).trans (State.modRing_side _ _ _ _ hy.symm)
  have hpair : (s.gateClosed x).pair = s.pair := by simp [State.gateClosed, State.refreshRing_frame _ _ _]
  refine ⟨_, hexec, ?_, ?_, ?_, fun y hy => ?_, ?_, ?_, ?_, ?_, ?_, ?_, ?_⟩
  · split <;> exact (congrArg Ring.driveGate hring :)
  · split <;> exact (congrArg Ring.gateIn hring :)
  · by_cases hoff : x = .a ∧ (s.ring x).lastHostBeat + 100 ≤ s.clock
    · obtain ⟨rfl, hbeat⟩ := hoff
      rw [if_pos (by simp [hbeat]), State.modPair_pair, hpair]
      simp [hbeat]
    · rw [if_neg (by simpa using hoff), hpair]
      have hkeep : (decide (x = .a) && decide ((s.ring .a).lastHostBeat + 100 ≤ s.clock)) = false := by
        cases x with
        | a => simpa using hoff
        | b => rfl
      simp [hkeep]
  · split <;> exact hside y hy
  all_goals split <;> simp [State.gateClosed, State.refreshRing_frame _ _ _, KeepsHost, KeepsUnits]

/-! ## TL_QUAL reaches the host die (R428, R429, R434) -/

/-- The Ringmaster that has heard of TL_QUAL (R427, R428). -/
def Pair.heard (p : Pair) (up : Bool) (clock : Nat) : Pair :=
  ({ p with
    tlQual := up, evt := p.evt ||| 8#6
    tlLostFrom := if up then none else if p.role = Role.active || p.role = Role.claiming || p.role = Role.backoff then some clock else none }).refresh

theorem State.hearQual_eq {s : State} {up : Bool} (idle : Bool) (h : s.pair.tlQual ≠ up) :
    s.hearQual up idle = (if up && s.pair.role = .claiming then (s.modPair (fun p => p.heard up s.clock)).becomeActive
      else (if !up && s.pair.role = .active then (s.modPair (fun p => p.heard up s.clock)).claim 5 5 idle
        else s.modPair (fun p => p.heard up s.clock)).sendGates).pairSync := by
  unfold State.hearQual
  rw [if_neg h]
  rfl

/-- The state without the frame of TL_QUAL that arrives, and with what it says. -/
def State.heard (s : State) (q : List UpMsg) (up : Bool) : State :=
  (s.modRing .a (fun r => { r with upq := q })).modPair (fun p => p.heard up s.clock)

section
variable {s : State} {up : Bool} {u : Nat} {q : List UpMsg} (hon : s.roleOn = true) (hopen : (s.ring .a).upOpen = true)
  (hmode : s.pwr.mode ≠ .cellar) (hreports : (s.ring .a).reports = []) (idle : Bool) (hq : (s.ring .a).upq = .qual up idle u :: q)
  (hqual : s.pair.tlQual ≠ up)
include hon hopen hmode hreports hq hqual

theorem qualArrival_eq :
    exec (.acceptedChangeArrival .a true) s = .next (if up && s.pair.role = .claiming then (s.heard q up).becomeActive
      else (if !up && s.pair.role = .active then (s.heard q up).claim 5 5 idle else s.heard q up).sendGates).pairSync := by
  have hrun : s.phase = .run := by simp only [State.roleOn, Bool.and_eq_true, decide_eq_true_eq] at hon; exact hon.2
  have hheard : (s.modRing .a (fun r => { r with upq := q })).hearQual up idle = _ := State.hearQual_eq idle hqual
  have hrole : (s.modRing .a (fun r => { r with upq := q })).roleOn = true := hon
  show execAcceptedChangeArrival .a true s = _
  rw [execAcceptedChangeArrival, hq]
  dsimp only
  rw [whenDo_of (by simp [hrun, hopen, hmode, hreports, State.messageWaits]), if_pos rfl, State.takeMessage, if_pos hrole, hheard]
  rfl

/-- TL_QUAL on a unit that neither claims by it nor loses the active role: the gates follow, and the pair is judged. -/
theorem qualArrival_quiet (hrises : up = true → s.pair.role ≠ .claiming) (hfalls : up = false → s.pair.role ≠ .active) :
    exec (.acceptedChangeArrival .a true) s = .next (s.heard q up).sendGates.pairSync := by
  rw [qualArrival_eq hon hopen hmode hreports idle hq hqual, if_neg (by cases up <;> simp_all), if_neg (by cases up <;> simp_all)]

end

theorem State.heard_logic (s : State) (q : List UpMsg) (up : Bool) (x : RingId) : ((s.heard q up).ring x).logic = (s.ring x).logic := by
  rw [State.heard, State.modPair_ring, State.modRing_ring_ite]
  split <;> rfl

theorem State.sendGates_moved (s : State) : s.sendGates.Moved s where
  pair := by
    rw [State.sendGates_pair]
    split
    · exact .of_fields rfl rfl rfl fun _ h => h
    · exact .refl _
  sent x f h := by
    rw [State.sendGates_ring, Ring.beaten]
    split <;> exact h
  sticky k h := by rwa [State.slot_of_flt (s := s) (by simp [State.sendGates_frame _])]

/-- Where GATE is 0, the gates that go out close. -/
theorem State.sendGates_shut {s : State} (h : s.gateValue = false) (x : RingId) (hl : (s.ring x).logic = true) :
    (s.sendGates.ring x).beat.map (·.gate) = some false := by
  rw [State.sendGates_ring, Ring.beaten, if_pos hl]
  simp [State.gateTo, h]

theorem State.pairSync_beat (s : State) (x : RingId) : (s.pairSync.ring x).beat = (s.ring x).beat :=
  (congrArg Ring.beat (State.core_of_ringCores s.pairSync_ringCores x) :)

/-- What the gates and a judgement leave. -/
theorem State.gatesJudged_frame (s : State) :
    s.sendGates.pairSync.img = s.img ∧ s.sendGates.pairSync.fab = s.fab ∧ s.sendGates.pairSync.recd.core = s.recd.core
      ∧ s.sendGates.pairSync.flt.core = s.flt.core ∧ KeepsHost s.sendGates.pairSync s := by
  refine ⟨?_, ?_, ?_, ?_, ?_⟩
  · simp [State.pairSync_frame _, State.sendGates_frame _]
  · simp [State.pairSync_frame _, State.sendGates_frame _]
  · rw [State.pairSync_recCore, (State.sendGates_frame s).2.2.1]
  · rw [State.pairSync_fltCore, (State.sendGates_frame s).2.2.2.2.1]
  · simp [State.pairSync_frame _, State.sendGates_frame _, KeepsHost]

theorem State.sendGates_tlQual (s : State) : s.sendGates.pair.tlQual = s.pair.tlQual := by
  rw [State.sendGates_pair]
  split <;> rfl

theorem State.gatesJudged_tlQual (s : State) : s.sendGates.pairSync.pair.tlQual = s.pair.tlQual :=
  (congrArg Pair.tlQual s.sendGates.pairSync_lines :).trans s.sendGates_tlQual

theorem State.gateValue_of {s : State} (hon : s.pairOn = true) (h : s.pair.driving = false ∨ s.pair.tlQual = false) : s.gateValue = false := by
  obtain h | h := h <;> simp [State.gateValue, hon, h]

section
variable {s : State} {u : Nat} {q : List UpMsg} (hon : s.roleOn = true) (hopen : (s.ring .a).upOpen = true)
  (hmode : s.pwr.mode ≠ .cellar) (hreports : (s.ring .a).reports = []) (idle : Bool)
include hon hopen hmode hreports

/-- TL_QUAL rises on a unit that does not claim. -/
theorem qualArrival_rises (hq : (s.ring .a).upq = .qual true idle u :: q) (hqual : s.pair.tlQual = false) (hrole : s.pair.role ≠ .claiming) :
    ∃ t, exec (.acceptedChangeArrival .a true) s = .next t ∧ t.pair.tlQual = true ∧ t.pair.evt.getLsbD 3 = true ∧ t.img = s.img
      ∧ t.fab = s.fab ∧ t.recd.core = s.recd.core ∧ t.flt.core = s.flt.core ∧ KeepsHost t s :=
  ⟨_, qualArrival_quiet hon hopen hmode hreports idle hq (by simp [hqual]) (fun _ => hrole) nofun, State.gatesJudged_tlQual _,
    ((State.pairSync_moved _).trans (State.sendGates_moved _)).pair.evt 3 (by simp [State.heard, Pair.heard, Pair.refresh]),
    State.gatesJudged_frame (s.heard q true)⟩

/-- TL_QUAL falls on a unit that is not active. -/
theorem qualArrival_falls (hq : (s.ring .a).upq = .qual false idle u :: q) (hqual : s.pair.tlQual = true) (hrole : s.pair.role ≠ .active) :
    ∃ t, exec (.acceptedChangeArrival .a true) s = .next t ∧ t.pair.tlQual = false ∧ t.pair.evt.getLsbD 3 = true
      ∧ (∀ x ∈ [RingId.a, RingId.b], (s.ring x).logic = true → (t.ring x).beat.map (·.gate) = some false) ∧ t.img = s.img
      ∧ t.fab = s.fab ∧ t.recd.core = s.recd.core ∧ t.flt.core = s.flt.core ∧ KeepsHost t s := by
  refine ⟨_, qualArrival_quiet hon hopen hmode hreports idle hq (by simp [hqual]) nofun (fun _ => hrole), State.gatesJudged_tlQual _,
    ((State.pairSync_moved _).trans (State.sendGates_moved _)).pair.evt 3 (by simp [State.heard, Pair.heard, Pair.refresh]), fun x _ hl => ?_,
    State.gatesJudged_frame (s.heard q false)⟩
  rw [State.pairSync_beat]
  refine State.sendGates_shut (State.gateValue_of (s := s.heard q false) (State.pairOn_of_roleOn hon) (Or.inr rfl)) x ?_
  rw [State.heard_logic]
  exact hl

/-! ### An active unit that loses TL_QUAL (R434, R435) -/

/-- Its claim is under way when the gates close. -/
theorem qualArrival_claims (hq : (s.ring .a).upq = .qual false idle u :: q) (hqual : s.pair.tlQual = true) (hrole : s.pair.role = .active) :
    exec (.acceptedChangeArrival .a true) s = .next ((s.heard q false).claim 5 5 idle).sendGates.pairSync := by
  rw [qualArrival_eq hon hopen hmode hreports idle hq (by simp [hqual]), if_neg (by simp), if_pos (by simp [hrole])]

end

/-- The Ringmaster without its toggle. -/
def Pair.untoggled (p : Pair) : Pair := { p with togglePend := false }

theorem State.sendGates_untoggled (s : State) : s.sendGates.pair.untoggled = s.pair.untoggled := by
  rw [State.sendGates_pair]
  split <;> rfl

theorem State.sendGates_roleView (s : State) : s.sendGates.roleView = s.roleView :=
  State.roleView_of (congrArg Collector.core (by simp [State.sendGates_frame _])) (by simp [State.sendGates_frame _])
    (by simp [State.sendGates_frame _]) (by simp [State.sendGates_frame _])

theorem State.sendGates_pairOn {s : State} (h : s.pairOn = true) : s.sendGates.pairOn = true := by
  obtain ⟨hpaired, hrole⟩ := s.pairOn_iff.mp h
  exact s.sendGates.pairOn_iff.mpr ⟨by simpa [State.sendGates_frame _] using hpaired, s.sendGates_moved.pair.paired hrole⟩

/-- A unit that claims, backs off or is active goes on doing so when its gates go out and it is judged. -/
theorem State.gatesJudged_still {s : State} (hkeep : s.keepsRole) (hon : s.pairOn = true) (hsteady : s.pair.steady) :
    s.sendGates.pairSync.pair.still.untoggled = s.pair.still.untoggled := by
  have hrole : s.sendGates.pair.role = s.pair.role := (congrArg Pair.role s.sendGates_untoggled :)
  have hstill := State.pairSync_still (State.keepsRole_of_view s.sendGates_roleView hkeep) (State.sendGates_pairOn hon)
    (Pair.steady_of_role hrole hsteady)
  exact (congrArg Pair.untoggled hstill).trans (congrArg Pair.still s.sendGates_untoggled :)

/-- What a unit shows of itself that has lost TL_QUAL with its source on. -/
theorem Pair.reclaims_of_still {q p : Pair} {clock : Nat}
    (h : q.still.untoggled = ((p.heard false clock).claimed 5 clock).still.untoggled) (hrole : p.role = .active) :
    q.role = .claiming ∧ q.tlQual = false ∧ q.mayDrive = false ∧ q.sourceOn = p.sourceOn ∧ q.claimReason = 5#4 ∧ q.claimFrom = clock
      ∧ q.tlLostFrom = some clock ∧ q.stale = true ∧ q.held = none := by
  refine ⟨(congrArg Pair.role h :), (congrArg Pair.tlQual h :), (congrArg Pair.mayDrive h :).trans ?_, (congrArg Pair.sourceOn h :),
    (congrArg Pair.claimReason h :), (congrArg Pair.claimFrom h :), (congrArg Pair.tlLostFrom h :).trans ?_, (congrArg Pair.stale h :).trans ?_,
    (congrArg Pair.held h :).trans ?_⟩
  all_goals simp [Pair.untoggled, Pair.still, Pair.hush, Pair.claimed, Pair.takeRole, Pair.heard, Pair.refresh, Pair.leads, hrole]

/-- A claim on an idle line, when the gates have gone out and the pair is judged. -/
theorem State.gatesJudged_claims {s : State} {p : Pair} {b clock : Nat} (hkeep : s.keepsRole) (hon : s.pairOn = true)
    (h : s.pair.hush = ((p.claimed b clock).claimSourced clock).hush) :
    s.sendGates.pairSync.pair.role = .claiming ∧ s.sendGates.pairSync.pair.claimReason = BitVec.ofNat 4 b := by
  have hclaims : s.pair.role = .claiming := (congrArg Pair.role h :)
  have hstill := (State.gatesJudged_still hkeep hon (by simp [Pair.steady, Pair.resting, hclaims])).trans
    (congrArg Pair.untoggled (Pair.still_of_hush h))
  generalize s.sendGates.pairSync = t at hstill ⊢
  exact ⟨(congrArg Pair.role hstill :), (congrArg Pair.claimReason hstill :)⟩

theorem State.gatesJudged_rests {s : State} (h : s.pair.rests) :
    s.sendGates.pairSync.pair.rests ∧ s.sendGates.pairSync.pair.sourceOn = s.pair.sourceOn := by
  have hgates : s.sendGates.pair.sourceOn = s.pair.sourceOn := (congrArg Pair.sourceOn s.sendGates_untoggled :)
  exact ⟨((State.pairSync_moved _).trans s.sendGates_moved).pair.rests h, (congrArg Pair.sourceOn s.sendGates.pairSync_lines :).trans hgates⟩

section
variable {s : State} {u : Nat} {q : List UpMsg} (hon : s.roleOn = true) (hopen : (s.ring .a).upOpen = true)
  (hmode : s.pwr.mode ≠ .cellar) (hreports : (s.ring .a).reports = []) (idle : Bool) (hq : (s.ring .a).upq = .qual false idle u :: q)
  (hqual : s.pair.tlQual = true) (hrole : s.pair.role = .active)
include hon hopen hmode hreports hq hqual hrole

/-- With its source on, the unit claims at once. -/
theorem qualArrival_reclaims (hsrc : s.pair.sourceOn = true) (hkeep : s.keepsRole) :
    ∃ t, exec (.acceptedChangeArrival .a true) s = .next t ∧ t.pair.role = .claiming ∧ t.pair.tlQual = false ∧ t.pair.mayDrive = false
      ∧ t.pair.sourceOn = true ∧ t.pair.claimReason = 5#4 ∧ t.pair.claimFrom = s.clock ∧ t.pair.tlLostFrom = some s.clock
      ∧ t.pair.stale = true ∧ t.pair.held = none
      ∧ (∀ x ∈ [RingId.a, RingId.b], (s.ring x).logic = true → (t.ring x).beat.map (·.gate) = some false) ∧ t.img = s.img ∧ t.fab = s.fab
      ∧ t.recd.core = s.recd.core ∧ t.flt.core = s.flt.core ∧ KeepsHost t s := by
  have hhush := State.claimBegun_hush (s := s.heard q false) (by
    show s.pair.role ≠ .claiming
    simp [hrole]) 5 5 0#32
  have hsourced : ((s.heard q false).claimBegun 5 5 0#32).pair.sourceOn = true := (congrArg Pair.sourceOn hhush :).trans hsrc
  have hframe := (s.heard q false).claim_pairFrame 5 5 idle 0#32
  have hpaired : (s.heard q false).pairOn = true := State.pairOn_of_roleOn hon
  refine ⟨_, qualArrival_claims hon hopen hmode hreports idle hq hqual hrole, ?_⟩
  rw [State.claim_sourced hsourced] at hframe ⊢
  have hlogic : ∀ x ∈ [RingId.a, RingId.b], (((s.heard q false).claimBegun 5 5 0#32).ring x).logic = (s.ring x).logic := fun x hx =>
    (congrArg Ring.logic (hframe.2.2.2.2.1 x hx) :).trans (s.heard_logic q false x)
  generalize (s.heard q false).claimBegun 5 5 0#32 = v at *
  have hclaims : v.pair.role = .claiming := (congrArg Pair.role hhush :)
  have hvon : v.pairOn = true := hframe.pairOn hpaired (by simp [hclaims])
  have hstill := State.gatesJudged_still (State.keepsRole_of_view hframe.roleView hkeep) hvon (by simp [Pair.steady, Pair.resting, hclaims])
  obtain ⟨h1, h2, h3, h4, h5, h6, h7, h8, h9⟩ := Pair.reclaims_of_still (clock := s.clock)
    (hstill.trans (congrArg Pair.untoggled (Pair.still_of_hush hhush))) hrole
  obtain ⟨himg, hfab, hrec, hflt, hhost⟩ := v.gatesJudged_frame
  obtain ⟨vhost, ⟨-, vimg, vfab, -⟩, vrec, -, -, vflt⟩ := hframe
  refine ⟨h1, h2, h3, h4.trans hsrc, h5, h6, h7, h8, h9, fun x hx hl => ?_, himg.trans vimg, hfab.trans vfab, hrec.trans vrec, hflt.trans vflt,
    ?_⟩
  · rw [State.pairSync_beat]
    exact State.sendGates_shut (State.gateValue_of hvon (Or.inl (by simp [Pair.driving, hclaims]))) x ((hlogic x hx).trans hl)
  · obtain ⟨g1, g2, g3, g4, g5, g6, g7, g8, g9⟩ := hhost
    obtain ⟨k1, k2, k3, k4, k5, k6, k7, k8, k9⟩ := vhost
    exact ⟨g1.trans k1, g2.trans k2, g3.trans k3, g4.trans k4, g5.trans k5, g6.trans k6, g7.trans k7, g8.trans k8, g9.trans k9⟩

/-- With its source off, the unit claims on an idle line, and rests otherwise. -/
theorem qualArrival_falls_off (hsrc : s.pair.sourceOn = false) (hkeep : s.keepsRole) :
    ∃ t, exec (.acceptedChangeArrival .a true) s = .next t
      ∧ (idle = true → t.pair.role = .claiming ∧ t.pair.claimReason = 5#4 ∧ (RingCmd.source true, 0) ∈ (t.ring .a).cmdq)
      ∧ (idle = false → t.pair.rests ∧ t.pair.sourceOn = false)
      ∧ ∀ x ∈ [RingId.a, RingId.b], (s.ring x).logic = true → (t.ring x).beat.map (·.gate) = some false := by
  have hnot : (s.heard q false).pair.role ≠ .claiming := by
    show s.pair.role ≠ .claiming
    simp [hrole]
  have hoff : (s.heard q false).pair.sourceOn = false := hsrc
  have hframe := (s.heard q false).claim_pairFrame 5 5 idle 0#32
  have hlink : ((s.heard q false).ring .a).link = true := by
    rw [State.heard, State.modPair_ring, State.modRing_ring]
    simp only [Ring.upOpen, Bool.and_eq_true] at hopen
    exact hopen.1.1
  have hlogic : ∀ x ∈ [RingId.a, RingId.b], (((s.heard q false).claim 5 5 idle).ring x).logic = (s.ring x).logic := fun x hx =>
    (congrArg Ring.logic (hframe.2.2.2.2.1 x hx) :).trans (s.heard_logic q false x)
  have hturn : ((s.heard q false).claim 5 5 idle).pair.role = .claiming ∨ ((s.heard q false).claim 5 5 idle).pair.resting := by
    cases idle with
    | true => exact Or.inl (congrArg Pair.role (State.claim_idle_hush hnot hoff 5 5 0#32) :)
    | false => exact Or.inr (Pair.resting_of_rests (State.claim_busy_rests hnot hoff 5 5 0#32).1)
  have hon' : ((s.heard q false).claim 5 5 idle).pairOn = true := hframe.pairOn (State.pairOn_of_roleOn hon) (by
    obtain h | h | h := hturn <;> simp [h])
  refine ⟨_, qualArrival_claims hon hopen hmode hreports idle hq hqual hrole, fun h => ?_, fun h => ?_, fun x hx hl => ?_⟩
  · subst h
    obtain ⟨hclaims, hreason⟩ := State.gatesJudged_claims (State.keepsRole_of_view hframe.roleView hkeep) hon'
      (State.claim_idle_hush hnot hoff 5 5 0#32)
    exact ⟨hclaims, hreason, ((State.pairSync_moved _).trans (State.sendGates_moved _)).sent .a _ (State.claim_idle_sends hnot hoff 5 5 0#32 hlink)⟩
  · subst h
    obtain ⟨hrests, hstays⟩ := State.claim_busy_rests hnot hoff 5 5 0#32
    exact ⟨(State.gatesJudged_rests hrests).1, (State.gatesJudged_rests hrests).2.trans hstays⟩
  · rw [State.pairSync_beat]
    refine State.sendGates_shut (State.gateValue_of hon' (Or.inl ?_)) x ((hlogic x hx).trans hl)
    obtain h | h | h := hturn <;> simp [Pair.driving, h]

end

end Sys2Proof.Machine
end

section
/-! PROOFS. A unit becomes active, and the rows of the paths, claims and gates (R426 to R437, R451). -/

namespace Sys2Proof.Machine

/-! ## A unit becomes active, stage by stage (R435, R437, R446) -/

/-- The unit takes over or completes a swap: it goes by the epoch that it holds (R437, R446). -/
def Pair.copies (p : Pair) : Bool := p.claimReason.toNat = 1 || p.claimReason.toNat = 2

/-- The number of the epoch that the unit goes by (R452). -/
def Pair.takenNumber (p : Pair) : Word := if p.copies then (p.held.map (·.number)).getD 0#32 else 0#32

/-- The Ringmaster of a unit that has become active from `p`. -/
def Pair.turned (q p : Pair) (step : Nat) : Pair :=
  { q with
    claimFails := 0, sending := none, lastSent := none, lastEpochStep := step
    resume := if p.copies then some p.held else none
    takeovers := if p.claimReason.toNat = 1 then satInc q.takeovers else q.takeovers
    swaps := if p.claimReason.toNat = 2 then satInc q.swaps else q.swaps
    evt := if p.claimReason.toNat = 2 then q.evt ||| 0x10#6 else q.evt }

/-- The role is taken. -/
def State.turnsActive (s : State) : State :=
  (s.setRole .active s.pair.claimReason.toNat s.pair.takenNumber).modPair (fun q => q.turned s.pair s.fab.stepNo)

/-- A takeover is reported. -/
def State.takeoverTold (t : State) (p : Pair) : State :=
  if p.claimReason.toNat = 1 then t.raise ⟨hostSlot 23, 0, false, p.takenNumber, false⟩ else t

/-- Setpoints and destinations are those of the epoch, or those of the image. -/
def State.outputsTaken (t : State) (p : Pair) : State :=
  match p.copies, p.held with
  | true, some e => t.takeOutputs e
  | true, none => t.imageSetpoints
  | false, _ => t

/-- The commands of the channels and the role go to the Rings. -/
def State.commandsSent (t : State) (p : Pair) : State :=
  (if p.claimReason.toNat = 2 then t else if p.copies && p.held.isNone then t.sendChannels else t.sendCommands).tellRole
    (p.claimReason.toNat = 2) ((p.held.map Epoch.present).getD 0#16)

/-- The chains of the analog inputs restart, and GATE follows the commands. -/
def State.gatesOpened (t : State) (ns : List (Fin 16)) : State := ((forEach ns (fun n u => u.restartChain n) t).gateAfter .a).gateAfter .b

/-- The partner hears of the swap, and of the unit's state. -/
def State.partnerTold (t : State) (p : Pair) : State := (if p.claimReason.toNat = 2 then t.sendSwap .done else t).sendState

theorem State.becomeActive_eq (s : State) :
    s.becomeActive = ((((s.turnsActive.takeoverTold s.pair).outputsTaken s.pair).commandsSent s.pair).gatesOpened
      (allCh.filter (fun n => isAi (s.chan n).func))).partnerTold s.pair := rfl

/-! ### What the stages after the role send, and what they keep -/

/-- The Ringmaster without what it says, its toggle, and the swap message that it sent last. -/
def Pair.mute (p : Pair) : Pair := { p.hush.untoggled with sentSwap := none }

/-- From `s` to `t` the unit only sends. -/
structure State.Sends (t s : State) : Prop where
  moved : t.Moved s
  mute : t.pair.mute = s.pair.mute
  recd : t.recd = s.recd
  flt : t.flt = s.flt
  fab : t.fab = s.fab
  link : ∀ x, (t.ring x).link = (s.ring x).link

theorem State.Sends.refl (s : State) : s.Sends s := ⟨.refl s, rfl, rfl, rfl, rfl, fun _ => rfl⟩

theorem State.Sends.trans {a b c : State} (h : a.Sends b) (g : b.Sends c) : a.Sends c :=
  ⟨h.moved.trans g.moved, h.mute.trans g.mute, h.recd.trans g.recd, h.flt.trans g.flt, h.fab.trans g.fab, fun x => (h.link x).trans (g.link x)⟩

theorem State.Sends.ite {c : Prop} [Decidable c] {a b s : State} (ha : a.Sends s) (hb : b.Sends s) : State.Sends (if c then a else b) s := by
  split <;> assumption

theorem State.Sends.forEach {α : Type} {f : α → State → State} (h : ∀ i t, (f i t).Sends t) (xs : List α) (s : State) :
    State.Sends (Machine.forEach xs f s) s :=
  forEach_stays (Q := fun t => t.Sends s) (fun i _ t ht => (h i t).trans ht) s (.refl s)

theorem Pair.mute_of_hush {q p : Pair} (h : q.hush = p.hush) : q.mute = p.mute :=
  congrArg (fun r : Pair => ({ r.untoggled with sentSwap := none } : Pair)) h

theorem State.sendRing_sends_only (s : State) (x : RingId) (c : RingCmd) : (s.sendRing x c).Sends s :=
  ⟨s.sendRing_moved x c, congrArg Pair.mute (s.sendRing_pair x c), by simp [State.sendRing_frame _ _ _], by simp [State.sendRing_frame _ _ _],
    by simp [State.sendRing_frame _ _ _], fun y => s.sendRing_link x y c⟩

theorem State.sendCommand_sends (s : State) (n : Fin 16) : (s.sendCommand n).Sends s :=
  (State.sendRing_sends_only _ _ _).trans ((State.sendRing_sends_only _ _ _).trans (State.sendRing_sends_only _ _ _))

theorem State.sendChannels_sends (s : State) : s.sendChannels.Sends s := .forEach (fun n t => t.sendCommand_sends n) allCh s

theorem State.modChan_sends (s : State) (n : Fin 16) (f : Chan → Chan) : (s.modChan n f).Sends s :=
  ⟨.of_same rfl rfl rfl, rfl, rfl, rfl, rfl, fun _ => rfl⟩

/-- The committed destinations of a channel are those that the evaluation drives. -/
def State.destined (t : State) (n : Fin 16) : State :=
  t.modChan n (fun c => { c with cmd := { c.cmd with drive := t.fab.drives n.1 0, alt := t.fab.drives n.1 1 } })

theorem State.sendCommands_eq (s : State) : s.sendCommands = forEach allCh (fun n t => (t.destined n).sendCommand n) s := rfl

theorem State.destined_sends (s : State) (n : Fin 16) : (s.destined n).Sends s := s.modChan_sends n _

theorem State.sendCommands_sends (s : State) : s.sendCommands.Sends s := by
  rw [State.sendCommands_eq]
  exact .forEach (fun n t => (State.sendCommand_sends _ n).trans (t.destined_sends n)) allCh s

theorem State.tellRole_sends (s : State) (b : Bool) (p : BitVec 16) : (s.tellRole b p).Sends s :=
  ⟨s.tellRole_moved b p, Pair.mute_of_hush (s.tellRole_hush b p), by simp [State.tellRole_frame _ _ _], by simp [State.tellRole_frame _ _ _],
    by simp [State.tellRole_frame _ _ _], fun x => (congrArg Ring.link (State.core_of_ringCores (s.tellRole_ringCores b p) x) :)⟩

theorem State.restartChain_sends (s : State) (n : Fin 16) : (s.restartChain n).Sends s :=
  ⟨.of_same rfl rfl rfl, rfl, rfl, rfl, rfl, fun _ => rfl⟩

theorem State.sendBeat_sends (s : State) (x : RingId) : (s.sendBeat x).Sends s where
  moved := by
    refine ⟨?_, fun y f h => ?_, fun k h => by rwa [State.slot_of_flt (s := s) (by simp [State.sendBeat_frame _ _])]⟩
    · rw [State.sendBeat_pair]
      split
      · exact .of_fields rfl rfl rfl fun _ h => h
      · exact .refl _
    · rw [State.sendBeat_ring, Ring.beaten]
      (repeat' split) <;> exact h
  mute := by
    rw [State.sendBeat_pair]
    split <;> rfl
  recd := by simp [State.sendBeat_frame _ _]
  flt := by simp [State.sendBeat_frame _ _]
  fab := by simp [State.sendBeat_frame _ _]
  link y := by
    rw [State.sendBeat_ring, Ring.beaten]
    (repeat' split) <;> rfl

theorem State.gateAfter_sends (s : State) (x : RingId) : (s.gateAfter x).Sends s := .ite (s.sendBeat_sends x) (s.sendRing_sends_only x _)

theorem State.sendState_sends (s : State) : s.sendState.Sends s :=
  ⟨s.sendState_moved, Pair.mute_of_hush s.sendState_hush, by simp [State.sendState_frame _], by simp [State.sendState_frame _],
    by simp [State.sendState_frame _], fun x => congrArg Ring.link (State.ring_of_rings (by simp [State.sendState_frame _]) x)⟩

theorem State.sendSwap_hush (s : State) (m : SwapMsg) : (s.sendSwap m).pair.hush = ({ s.pair with sentSwap := some m } : Pair).hush :=
  State.post_hush _ _

theorem State.sendSwap_sends (s : State) (m : SwapMsg) : (s.sendSwap m).Sends s where
  moved := .of_pair ((Pair.Moved.of_hush (s.sendSwap_hush m)).trans (.of_fields rfl rfl rfl fun _ h => h)) (by simp [State.sendSwap_frame _ _])
    (by simp [State.sendSwap_frame _ _])
  mute := Eq.trans (Pair.mute_of_hush (s.sendSwap_hush m)) rfl
  recd := by simp [State.sendSwap_frame _ _]
  flt := by simp [State.sendSwap_frame _ _]
  fab := by simp [State.sendSwap_frame _ _]
  link x := congrArg Ring.link (State.ring_of_rings (by simp [State.sendSwap_frame _ _]) x)

theorem State.commandsSent_sends (t : State) (p : Pair) : (t.commandsSent p).Sends t :=
  (State.tellRole_sends _ _ _).trans (.ite (.refl t) (.ite t.sendChannels_sends t.sendCommands_sends))

theorem State.gatesOpened_sends (t : State) (ns : List (Fin 16)) : (t.gatesOpened ns).Sends t :=
  (State.gateAfter_sends _ _).trans ((State.gateAfter_sends _ _).trans (.forEach (fun n u => u.restartChain_sends n) ns t))

theorem State.partnerTold_sends (t : State) (p : Pair) : (t.partnerTold p).Sends t :=
  (State.sendState_sends _).trans (.ite (t.sendSwap_sends _) (.refl t))

/-! ### GATE = 1 goes out behind the commands (R437) -/

theorem State.sendCommand_queues {s : State} {n : Fin 16} (h : (s.ring (ringOf n)).link = true) :
    ∃ f, f ∈ ((s.sendCommand n).ring (ringOf n)).cmdq :=
  ⟨_, ((State.sendRing_sends_only _ _ _).trans (State.sendRing_sends_only _ _ _)).moved.sent _ _ (State.sendRing_sends h)⟩

/-- A loop over the channels that sends each its commands leaves frames for every Ring whose link is up. -/
theorem State.eachCommand_queues {g : Fin 16 → State → State} (hg : ∀ n t, (g n t).Sends t) {s : State} {x : RingId}
    (h : (s.ring x).link = true) : ∃ f, f ∈ ((forEach allCh (fun n t => (g n t).sendCommand n) s).ring x).cmdq := by
  have hall : ∀ n t, ((g n t).sendCommand n).Sends t := fun n t => (State.sendCommand_sends _ n).trans (hg n t)
  obtain ⟨n, rfl⟩ : ∃ n, ringOf n = x := by
    cases x
    · exact ⟨0, rfl⟩
    · exact ⟨8, rfl⟩
  exact forEach_reaches (n := n) (P := fun t => (t.ring (ringOf n)).link = true) (Q := fun t => ∃ f, f ∈ (t.ring (ringOf n)).cmdq)
    (List.nodup_finRange 16) (List.mem_finRange n) (fun i _ t ht => ((hall i t).link _).trans ht)
    (fun t ht => State.sendCommand_queues (((hg n t).link _).trans ht)) (fun i _ t ⟨f, hf⟩ => ⟨f, (hall i t).moved.sent _ _ hf⟩) s h

theorem State.commandsSent_queues {t : State} {p : Pair} {x : RingId} (hl : (t.ring x).link = true) (h : p.claimReason.toNat ≠ 2) :
    ∃ f, f ∈ ((t.commandsSent p).ring x).cmdq := by
  unfold State.commandsSent
  rw [if_neg h]
  have hsent : ∃ f, f ∈ ((if p.copies && p.held.isNone then t.sendChannels else t.sendCommands).ring x).cmdq := by
    split
    · exact State.eachCommand_queues (g := fun _ t => t) (fun _ t => .refl t) hl
    · rw [State.sendCommands_eq]
      exact State.eachCommand_queues (g := fun n t => t.destined n) (fun n t => t.destined_sends n) hl
  obtain ⟨f, hf⟩ := hsent
  exact ⟨f, (State.tellRole_moved _ _ _).sent x f hf⟩

theorem State.gateAfter_gates {s : State} {x : RingId} {f : RingCmd × Nat} (hl : (s.ring x).link = true) (hf : f ∈ (s.ring x).cmdq) :
    (RingCmd.gate, 0) ∈ ((s.gateAfter x).ring x).cmdq := by
  unfold State.gateAfter
  rw [if_neg (List.ne_nil_of_mem hf)]
  exact State.sendRing_sends hl

theorem State.gatesOpened_gates {t : State} (ns : List (Fin 16)) {x : RingId} {f : RingCmd × Nat} (hl : (t.ring x).link = true)
    (hf : f ∈ (t.ring x).cmdq) : (RingCmd.gate, 0) ∈ ((t.gatesOpened ns).ring x).cmdq := by
  have hchains : (forEach ns (fun n u => u.restartChain n) t).Sends t := .forEach (fun n u => u.restartChain_sends n) ns t
  have ha := State.gateAfter_sends (forEach ns (fun n u => u.restartChain n) t) .a
  cases x with
  | a => exact (State.gateAfter_sends _ .b).moved.sent _ _ (State.gateAfter_gates ((hchains.link _).trans hl) (hchains.moved.sent _ _ hf))
  | b => exact State.gateAfter_gates (((ha.trans hchains).link _).trans hl) ((ha.trans hchains).moved.sent _ _ hf)

/-! ### The stages that take the role and the outputs -/

theorem State.turnsActive_hush {s : State} (h : s.pair.role ≠ .active) :
    s.turnsActive.pair.hush = ((s.pair.takeRole .active s.clock).turned s.pair s.fab.stepNo).hush := by
  have hset := State.setRole_hush h s.pair.claimReason.toNat s.pair.takenNumber
  unfold State.turnsActive
  rw [State.modPair_pair]
  generalize (s.setRole .active s.pair.claimReason.toNat s.pair.takenNumber).pair = q at hset ⊢
  exact (congrArg (fun r : Pair => r.turned s.pair s.fab.stepNo) hset :)

theorem State.turnsActive_pairFrame (s : State) : PairFrame s.turnsActive s :=
  (State.modPair_pairFrame _ _).trans (s.setRole_pairFrame _ _ _)

theorem State.takeoverTold_pairFrame (t : State) (p : Pair) : PairFrame (t.takeoverTold p) t := by
  unfold State.takeoverTold
  split
  · exact PairFrame.of_reports (State.raise_reports _ _)
  · exact t.modPair_pairFrame id

theorem State.takeoverTold_pair {t : State} (h : t.keepsRole) (p : Pair) : (t.takeoverTold p).pair = t.pair := by
  unfold State.takeoverTold
  split
  · exact State.raise_pair h (by simp) _
  · rfl

theorem State.takeoverTold_sticky (t : State) {p : Pair} (h : p.claimReason.toNat = 1) : ((t.takeoverTold p).slot (hostSlot 23)).sticky = true := by
  unfold State.takeoverTold
  rw [if_pos h]
  exact State.raise_sticky _ _ _ _ _

/-- Setpoints and destinations are no part of the pair, the Rings, the collector or the recorder. -/
theorem State.outputsTaken_frame (t : State) (p : Pair) :
    (t.outputsTaken p).pair = t.pair ∧ (t.outputsTaken p).rings = t.rings ∧ (t.outputsTaken p).flt = t.flt ∧ (t.outputsTaken p).recd = t.recd := by
  unfold State.outputsTaken
  split
  · simp [State.takeOutputs_frame _ _]
  · simp [State.imageSetpoints_frame _]
  · simp

theorem State.outputsTaken_outChan (t : State) {p : Pair} {e : Epoch} (hc : p.copies = true) (he : p.held = some e) :
    (t.outputsTaken p).fab.outChan = e.outChan := by
  rw [State.outputsTaken, hc, he]
  rfl

/-- The state that a unit becomes active from, once its role and its outputs are taken. -/
def State.outputsTurned (s : State) : State := (s.turnsActive.takeoverTold s.pair).outputsTaken s.pair

theorem State.becomeActive_sends (s : State) : s.becomeActive.Sends s.outputsTurned := by
  rw [State.becomeActive_eq]
  exact (State.partnerTold_sends _ _).trans ((State.gatesOpened_sends _ _).trans (State.commandsSent_sends _ _))

theorem State.outputsTurned_hush {s : State} (hrole : s.pair.role ≠ .active) (hkeep : s.keepsRole) :
    s.outputsTurned.pair.hush = ((s.pair.takeRole .active s.clock).turned s.pair s.fab.stepNo).hush := by
  have hthen : s.turnsActive.keepsRole := State.keepsRole_of_view s.turnsActive_pairFrame.roleView hkeep
  have hpair : s.outputsTurned.pair = s.turnsActive.pair := (State.outputsTaken_frame _ _).1.trans (State.takeoverTold_pair hthen _)
  rw [hpair]
  exact State.turnsActive_hush hrole

theorem State.outputsTurned_cores (s : State) :
    s.outputsTurned.recd.core = s.recd.core ∧ s.outputsTurned.flt.core = s.flt.core
      ∧ ∀ x ∈ [RingId.a, RingId.b], (s.outputsTurned.ring x).link = (s.ring x).link := by
  obtain ⟨-, -, hrec, -, hring, hflt⟩ := (State.takeoverTold_pairFrame s.turnsActive s.pair).trans s.turnsActive_pairFrame
  obtain ⟨-, hrings, hfltSame, hrecSame⟩ := (s.turnsActive.takeoverTold s.pair).outputsTaken_frame s.pair
  refine ⟨?_, ?_, fun x hx => ?_⟩
  · rw [State.outputsTurned, hrecSame]
    exact hrec
  · rw [State.outputsTurned, hfltSame]
    exact hflt
  · rw [State.outputsTurned, State.ring_of_rings hrings]
    exact (congrArg Ring.link (hring x hx) :)

/-! ### The unit that has become active -/

theorem State.becomeActive_roleView (s : State) : s.becomeActive.roleView = s.roleView := by
  refine State.roleView_of ?_ ?_ ?_ ?_
  · rw [s.becomeActive_sends.flt]
    exact s.outputsTurned_cores.2.1
  all_goals simp [State.becomeActive_frame _]

theorem State.becomeActive_recCore (s : State) : s.becomeActive.recd.core = s.recd.core := by
  rw [s.becomeActive_sends.recd]
  exact s.outputsTurned_cores.1

theorem State.becomeActive_sticky {s : State} (h : s.pair.claimReason.toNat = 1) : (s.becomeActive.slot (hostSlot 23)).sticky = true := by
  refine s.becomeActive_sends.moved.sticky _ ?_
  rw [State.outputsTurned, State.slot_of_flt (State.outputsTaken_frame _ _).2.2.1]
  exact State.takeoverTold_sticky _ h

theorem State.becomeActive_outChan {s : State} {e : Epoch} (h : s.pair.claimReason.toNat = 1) (he : s.pair.held = some e) :
    s.becomeActive.fab.outChan = e.outChan := by
  rw [s.becomeActive_sends.fab]
  exact State.outputsTaken_outChan _ (by simp [Pair.copies, h]) he

theorem State.becomeActive_gates {s : State} {x : RingId} (hl : (s.ring x).link = true) (h : s.pair.claimReason.toNat ≠ 2) :
    (RingCmd.gate, 0) ∈ (s.becomeActive.ring x).cmdq := by
  have hlink : (s.outputsTurned.ring x).link = true := (s.outputsTurned_cores.2.2 x (by cases x <;> simp)).trans hl
  obtain ⟨f, hf⟩ := State.commandsSent_queues hlink h
  rw [State.becomeActive_eq]
  exact (State.partnerTold_sends _ _).moved.sent _ _ (State.gatesOpened_gates _ (((State.commandsSent_sends _ _).link x).trans hlink) hf)

theorem State.partnerTold_done (t : State) {p : Pair} (h : p.claimReason.toNat = 2) : (t.partnerTold p).pair.sentSwap = some .done := by
  rw [State.partnerTold, if_pos h]
  exact (congrArg Pair.sentSwap ((State.sendState_hush _).trans (t.sendSwap_hush .done)) :)

theorem State.becomeActive_done {s : State} (h : s.pair.claimReason.toNat = 2) : s.becomeActive.pair.sentSwap = some .done := by
  rw [State.becomeActive_eq]
  exact State.partnerTold_done _ h

theorem State.becomeActive_mute {s : State} (hrole : s.pair.role ≠ .active) (hkeep : s.keepsRole) :
    s.becomeActive.pair.mute = ((s.pair.takeRole .active s.clock).turned s.pair s.fab.stepNo).mute :=
  s.becomeActive_sends.mute.trans (Pair.mute_of_hush (State.outputsTurned_hush hrole hkeep))

theorem Pair.still_mute_of_mute {q p : Pair} (h : q.mute = p.mute) : q.still.mute = p.still.mute :=
  (congrArg (fun r : Pair => r.still.mute) h :)

theorem Pair.turned_role {q p : Pair} {clock k : Nat} (h : q.mute = ((p.takeRole .active clock).turned p k).mute) : q.role = .active :=
  (congrArg Pair.role h :)

/-- What a unit shows of itself that has become active on TL_QUAL. -/
theorem Pair.turned_shows {q p : Pair} {clock k : Nat} (h : q.still.mute = ((p.takeRole .active clock).turned p k).still.mute)
    (hqual : p.tlQual = true) :
    q.role = .active ∧ q.tlQual = true ∧ q.mayDrive = true ∧ q.sourceOn = p.sourceOn ∧ q.claimFails = 0 ∧ q.epochNum = 0#32
      ∧ q.minutes = 0#32 ∧ q.resume = (if p.copies then some p.held else none)
      ∧ q.takeovers = (if p.claimReason.toNat = 1 then satInc p.takeovers else p.takeovers)
      ∧ q.swaps = (if p.claimReason.toNat = 2 then satInc p.swaps else p.swaps) := by
  refine ⟨(congrArg Pair.role h :), (congrArg Pair.tlQual h :).trans hqual, (congrArg Pair.mayDrive h :).trans ?_, (congrArg Pair.sourceOn h :),
    (congrArg Pair.claimFails h :), (congrArg Pair.epochNum h :), (congrArg Pair.minutes h :), (congrArg Pair.resume h :),
    (congrArg Pair.takeovers h :), (congrArg Pair.swaps h :)⟩
  simp [Pair.mute, Pair.untoggled, Pair.still, Pair.hush, Pair.turned, Pair.takeRole, Pair.refresh, Pair.driving, hqual]

theorem State.becomeActive_pairOn {s : State} (hrole : s.pair.role ≠ .active) (hkeep : s.keepsRole) (hon : s.pairOn = true) :
    s.becomeActive.pairOn = true ∧ s.becomeActive.pair.steady := by
  have hactive : s.becomeActive.pair.role = .active := Pair.turned_role (State.becomeActive_mute hrole hkeep)
  refine ⟨s.becomeActive.pairOn_iff.mpr ⟨?_, by simp [hactive]⟩, by simp [Pair.steady, Pair.resting, hactive]⟩
  rw [s.becomeActive_frame.2.2.1]
  exact (s.pairOn_iff.mp hon).1

/-- The judgement that follows leaves it active. -/
theorem State.becomeActive_judged {s : State} (hrole : s.pair.role ≠ .active) (hkeep : s.keepsRole) (hon : s.pairOn = true) :
    s.becomeActive.pairSync.pair.still = s.becomeActive.pair.still := by
  obtain ⟨hactive, hsteady⟩ := State.becomeActive_pairOn hrole hkeep hon
  exact State.pairSync_still (State.keepsRole_of_view s.becomeActive_roleView hkeep) hactive hsteady

theorem Pair.copies_iff (p : Pair) : p.copies = true ↔ p.claimReason = 1#4 ∨ p.claimReason = 2#4 := by
  simp [Pair.copies, ← BitVec.toNat_inj]

/-- A claim whose source qualifies makes the unit active (R435, R437). -/
theorem qualArrival_activates {s : State} {u : Nat} {q : List UpMsg} (hon : s.roleOn = true) (hopen : (s.ring .a).upOpen = true)
    (hmode : s.pwr.mode ≠ .cellar) (hreports : (s.ring .a).reports = []) (idle : Bool) (hq : (s.ring .a).upq = .qual true idle u :: q)
    (hqual : s.pair.tlQual = false) (hrole : s.pair.role = .claiming) (hkeep : s.keepsRole) :
    ∃ t, exec (.acceptedChangeArrival .a true) s = .next t ∧ t.pair.role = .active ∧ t.pair.tlQual = true ∧ t.pair.mayDrive = true
      ∧ t.pair.sourceOn = s.pair.sourceOn ∧ t.pair.claimFails = 0 ∧ t.pair.epochNum = 0#32 ∧ t.pair.minutes = 0#32
      ∧ t.pair.resume = (if s.pair.claimReason = 1#4 ∨ s.pair.claimReason = 2#4 then some s.pair.held else none)
      ∧ t.pair.takeovers = (if s.pair.claimReason = 1#4 then satInc s.pair.takeovers else s.pair.takeovers)
      ∧ t.pair.swaps = (if s.pair.claimReason = 2#4 then satInc s.pair.swaps else s.pair.swaps)
      ∧ (s.pair.claimReason = 1#4 → (t.slot (hostSlot 23)).sticky = true) ∧ (s.pair.claimReason = 2#4 → t.pair.sentSwap = some .done)
      ∧ (∀ x, s.pair.claimReason = 1#4 → s.pair.held = some x → t.fab.outChan = x.outChan)
      ∧ (∀ x ∈ [RingId.a, RingId.b], (s.ring x).link = true → s.pair.claimReason ≠ 2#4 → (RingCmd.gate, 0) ∈ (t.ring x).cmdq)
      ∧ t.img = s.img ∧ t.recd.core = s.recd.core ∧ KeepsHost t s := by
  refine ⟨(s.heard q true).becomeActive.pairSync,
    (qualArrival_eq hon hopen hmode hreports idle hq (by simp [hqual])).trans (by rw [if_pos (by simp [hrole])]), ?_⟩
  have hnot : (s.heard q true).pair.role ≠ .active := by
    show s.pair.role ≠ .active
    simp [hrole]
  have hpaired : (s.heard q true).pairOn = true := State.pairOn_of_roleOn hon
  have hheard : (s.heard q true).keepsRole := hkeep
  have hstill := State.becomeActive_judged hnot hheard hpaired
  have hmute := Pair.still_mute_of_mute (State.becomeActive_mute hnot hheard)
  have hlink : ∀ x, ((s.heard q true).ring x).link = (s.ring x).link := fun x => by
    rw [State.heard, State.modPair_ring, State.modRing_ring_ite]
    split <;> rfl
  have hreason : (s.heard q true).pair.claimReason = s.pair.claimReason := rfl
  have hheld : (s.heard q true).pair.held = s.pair.held := rfl
  have hframe : KeepsHost (s.heard q true) s ∧ (s.heard q true).img = s.img ∧ (s.heard q true).recd = s.recd :=
    ⟨⟨rfl, rfl, rfl, rfl, rfl, rfl, rfl, rfl, rfl⟩, rfl, rfl⟩
  have hcounts : (s.heard q true).pair.takeovers = s.pair.takeovers ∧ (s.heard q true).pair.swaps = s.pair.swaps
    ∧ (s.heard q true).pair.sourceOn = s.pair.sourceOn := ⟨rfl, rfl, rfl⟩
  have hup : (s.heard q true).pair.tlQual = true := rfl
  generalize s.heard q true = v at *
  have hsync := v.becomeActive.pairSync_moved
  obtain ⟨h1, h2, h3, h4, h5, h6, h7, h8, h9, h10⟩ := Pair.turned_shows ((congrArg Pair.mute hstill).trans hmute) hup
  have hnat : ∀ k, k < 16 → (v.pair.claimReason.toNat = k ↔ s.pair.claimReason = BitVec.ofNat 4 k) := fun k hk => by
    rw [hreason, ← BitVec.toNat_inj, BitVec.toNat_ofNat, Nat.mod_eq_of_lt hk]
  obtain ⟨hhost, himg, hrecd⟩ := hframe
  refine ⟨h1, h2, h3, h4.trans hcounts.2.2, h5, h6, h7, ?_, ?_, ?_, fun h => ?_, fun h => ?_, fun e h he => ?_, fun x _ hl h => ?_, ?_, ?_, ?_⟩
  · simp only [h8, Pair.copies_iff, hreason, hheld]
  · simp only [h9, hnat 1 (by decide), hcounts.1]
  · simp only [h10, hnat 2 (by decide), hcounts.2.1]
  · exact hsync.sticky _ (State.becomeActive_sticky ((hnat 1 (by decide)).mpr h))
  · exact (congrArg Pair.sentSwap hstill :).trans (State.becomeActive_done ((hnat 2 (by decide)).mpr h))
  · rw [show v.becomeActive.pairSync.fab = v.becomeActive.fab by simp [State.pairSync_frame _]]
    exact State.becomeActive_outChan ((hnat 1 (by decide)).mpr h) (hheld.trans he)
  · exact hsync.sent x _ (State.becomeActive_gates ((hlink x).trans hl) fun h2 => h ((hnat 2 (by decide)).mp h2))
  · rw [show v.becomeActive.pairSync.img = v.becomeActive.img by simp [State.pairSync_frame _], v.becomeActive_frame.2.2.1, himg]
  · rw [State.pairSync_recCore, State.becomeActive_recCore, hrecd]
  · have hactive : KeepsHost v.becomeActive.pairSync v := by simp [State.pairSync_frame _, State.becomeActive_frame _, KeepsHost]
    obtain ⟨g1, g2, g3, g4, g5, g6, g7, g8, g9⟩ := hactive
    obtain ⟨k1, k2, k3, k4, k5, k6, k7, k8, k9⟩ := hhost
    exact ⟨g1.trans k1, g2.trans k2, g3.trans k3, g4.trans k4, g5.trans k5, g6.trans k6, g7.trans k7, g8.trans k8, g9.trans k9⟩

/-! ## Where the rows of the pair do nothing -/

section
variable {s : State}

/-- A row that is not due leaves the state as it is. -/
theorem row_idle {c : Bool} {f : State → State} (h : c = false) :
    (Host.Outcome.next (whenDo c f s) : Host.Outcome State Fault Refusal) = .next s :=
  congrArg Host.Outcome.next (whenDo_of_not h f s)

theorem Pair.toggles_iff (p : Pair) :
    (p.role = .claiming || p.leads) = true ↔ p.role ∈ [Role.claiming, Role.active, Role.swapping] := by
  simp [Pair.leads]

theorem tightropeToggle_issues (hon : s.roleOn = true) (htime : s.pair.issued + 500 ≤ s.clock)
    (hrole : s.pair.role ∈ [Role.claiming, Role.active, Role.swapping]) :
    exec .tightropeToggle s = .next { s with pair := { s.pair with togglePend := true, issued := s.clock } } :=
  congrArg Host.Outcome.next (whenDo_of (by rw [hon, s.pair.toggles_iff.mpr hrole, decide_eq_true htime]; rfl) _ s)

theorem tightropeToggle_idle (h : s.roleOn = false ∨ s.clock < s.pair.issued + 500 ∨ s.pair.role ∉ [Role.claiming, Role.active, Role.swapping]) :
    exec .tightropeToggle s = .next s := by
  refine row_idle ?_
  obtain h | h | h := h
  · simp [h]
  · simp [h]
  · rw [Bool.eq_false_iff.mpr fun hr => h (s.pair.toggles_iff.mp hr)]
    simp

theorem sourceCollapse_collapses (hsrc : s.pair.sourceOn = true) (htime : s.pair.toggleAt + 1000 ≤ s.clock) :
    exec .sourceCollapse s = .next { s with pair := { s.pair with sourceOn := false } } :=
  congrArg Host.Outcome.next (whenDo_of (by simp [hsrc, htime]) _ s)

theorem sourceCollapse_idle (h : s.pair.sourceOn = false ∨ s.clock < s.pair.toggleAt + 1000) : exec .sourceCollapse s = .next s :=
  row_idle (by obtain h | h := h <;> simp [h])

theorem tlQualChange_idle (up idle : Bool) (h : s.roleOn = false ∨ (s.ring .a).qual = up) : exec (.tlQualChange up idle) s = .next s :=
  row_idle (by obtain h | h := h <;> simp [h])

theorem tlQualChange_unsourced (idle : Bool) (h : s.pair.sourceOn = false) : exec (.tlQualChange true idle) s = .next s := row_idle (by simp [h])

theorem tightropeHbLost_idle (port : BitVec 2)
    (h : s.roleOn = false ∨ s.pair.sourceOn = true ∨ (s.pair.tlHb = false ∧ s.pair.hbLost = true)) :
    exec (.tightropeHbLost port) s = .next s :=
  row_idle (by obtain h | h | h := h <;> simp [h])

theorem tightropeHbReturn_idle (h : s.roleOn = false ∨ s.pair.sourceOn = true ∨ s.pair.tlHb = true) : exec .tightropeHbReturn s = .next s :=
  row_idle (by obtain h | h | h := h <;> simp [h])

theorem trapezeLost_idle (h : s.tzOn = false ∨ s.clock < s.pair.lastFrame + s.pair.tzLoss * 100) : exec .trapezeLost s = .next s :=
  row_idle (by
    obtain h | h := h
    · simp [h]
    · simp [Nat.not_le.mpr h])

theorem staleLinkFail_idle
    (h : s.roleOn = false ∨ s.pair.tzUp = true ∨ s.pair.tlHb = false ∨ s.pair.hbStayed = false ∨ s.pair.tzLostAt = none) :
    exec .staleLinkFail s = .next s :=
  row_idle (by obtain h | h | h | h | h := h <;> simp [h])

theorem Pair.startClaims_not {p : Pair} {id : Bool}
    (h : 32 ≤ p.uq.toNat ∨ p.partnerActive = true ∨ (p.tzUp = true ∧ (p.partnerRole ≠ 1#4 ∨ id = true))) : p.startClaims id = false := by
  unfold Pair.startClaims Pair.localClear
  obtain h | h | ⟨htz, h | h⟩ := h <;> simp [*]

theorem listenTimeExpiry_idle (idle : Bool) (h : s.roleOn = false ∨ s.pair.role ≠ .starting ∨ s.clock < s.pair.listenFrom + s.pair.delayUs
      ∨ 32 ≤ s.pair.uq.toNat ∨ s.pair.partnerActive = true ∨ (s.pair.tzUp = true ∧ s.img.pairId = true)) :
    exec (.listenTimeExpiry idle) s = .next s := by
  refine row_idle ?_
  obtain h | h | h | h := h
  · simp [h]
  · simp [h]
  · simp [Nat.not_le.mpr h]
  · rw [Pair.startClaims_not (h.imp_right (Or.imp_right (And.imp_right Or.inr)))]
    simp

theorem Pair.takeoverDue_none {p : Pair} (h : p.bothLostFrom = none) (c : Nat) : p.takeoverDue c = false := by
  rw [Pair.takeoverDue, h]

theorem Pair.takeoverDue_of {p : Pair} {l c : Nat} (h : p.bothLostFrom = some l) (hc : l + p.delayUs ≤ c) : p.takeoverDue c = true := by
  rw [Pair.takeoverDue, h]
  exact decide_eq_true hc

theorem takeoverDelayExpiry_idle (idle : Bool) (h : s.roleOn = false ∨ s.pair.role ≠ .standby ∨ s.pair.bothLostFrom = none
      ∨ (s.pair.stale = true ∧ s.pair.staleOk = false)) :
    exec (.takeoverDelayExpiry idle) s = .next s := by
  refine row_idle ?_
  obtain h | h | h | h := h
  · simp [h]
  · simp [h]
  · simp [Pair.takeoverDue_none h]
  · simp [h]

theorem claimTimeout_idle (port : BitVec 2)
    (h : s.roleOn = false ∨ s.pair.role ≠ .claiming ∨ s.pair.tlQual = true ∨ s.clock < s.pair.claimFrom + 1000) :
    exec (.claimTimeout port) s = .next s :=
  row_idle (by obtain h | h | h | h := h <;> simp [h])

theorem backoffExpiry_idle (idle : Bool)
    (h : s.roleOn = false ∨ s.pair.role ≠ .backoff ∨ s.clock < s.pair.backoffFrom + (if s.img.pairId then 3000 else 1000)) :
    exec (.backoffExpiry idle) s = .next s := by
  refine row_idle ?_
  obtain h | h | h := h
  · simp [h]
  · simp [h]
  · rw [decide_eq_false (Nat.not_le.mpr h)]
    simp

theorem driveGateTimeout_idle (x : RingId) (h : (s.ring x).gateAt = none ∨ ∃ g, (s.ring x).gateAt = some g ∧ s.clock < g + 100) :
    exec (.driveGateTimeout x) s = .next s := by
  refine row_idle ?_
  obtain h | ⟨g, hg, h⟩ := h
  · simp [h]
  · simp [hg, h]

end

/-! ## Whether the entry condition of a claim still holds (R434) -/

theorem Pair.claimHolds_of {p : Pair} {id : Bool} {c : Nat} (hactive : p.partnerActive = false) (huq : p.uq.toNat < 32)
    (hstart : p.claimReason = 0#4 → p.tzUp = false ∨ (p.partnerRole = 1#4 ∧ id = false ∧ p.uq.getLsbD 2 = false))
    (htake : p.claimReason = 1#4 → p.uq = 0#10 ∧ p.takeoverDue c = true ∧ (p.stale = false ∨ p.staleOk = true))
    (helse : p.claimReason ≠ 0#4 → p.claimReason ≠ 1#4 → p.claimReason ≠ 5#4 → p.uq = 0#10) : p.claimHolds id c = true := by
  unfold Pair.claimHolds
  by_cases h0 : p.claimReason = 0#4
  · rw [if_pos h0]
    exact Pair.startClaims_of huq hactive (hstart h0)
  rw [if_neg h0]
  by_cases h5 : p.claimReason = 5#4
  · simp [hactive, Pair.localClear, huq, h5]
  by_cases h1 : p.claimReason = 1#4
  · obtain ⟨hz, hdue, hok | hok⟩ := htake h1 <;> simp [hactive, Pair.localClear, h1, hz, hdue, hok]
  · simp [hactive, Pair.localClear, h5, h1, helse h0 h1 h5]

theorem Pair.claimHolds_not {p : Pair} {id : Bool} {c : Nat} (h : p.partnerActive = true ∨ 32 ≤ p.uq.toNat
      ∨ (p.claimReason = 1#4 ∧ (p.uq ≠ 0#10 ∨ p.takeoverDue c = false ∨ (p.stale = true ∧ p.staleOk = false)))
      ∨ (p.claimReason = 0#4 ∧ p.tzUp = true ∧ (p.partnerRole ≠ 1#4 ∨ id = true))) : p.claimHolds id c = false := by
  unfold Pair.claimHolds
  obtain h | h | ⟨h1, h⟩ | ⟨h0, h⟩ := h
  · simp [Pair.startClaims_not (Or.inr (Or.inl h)), h]
  · simp [Pair.startClaims_not (Or.inl h), Pair.localClear, h]
  · obtain h | h | h := h <;> simp [h1, h]
  · simp [h0, Pair.startClaims_not (Or.inr (Or.inr h))]

theorem Pair.resting_of_mem {p : Pair} (h : p.role ∈ [Role.standby, Role.unqualified]) : p.resting := by
  simpa [Pair.resting] using h

/-- A unit that rests keeps the epoch that it holds when it begins to claim (R439). -/
theorem Pair.takeRole_claiming_held {p : Pair} (h : p.role = .standby) (c : Nat) : (p.takeRole .claiming c).held = p.held := by
  simp [Pair.takeRole, Pair.refresh, Pair.leads, h]

/-! ## The obligation -/

/-- A claim of a row, without what it says of the epoch held. -/
theorem State.ClaimEnds.shows {s : State} {reason : BitVec 4} {row : Bool → Instr} (h : s.ClaimEnds reason row) :
    (∃ t, exec (row true) s = .next t ∧ t.pair.role = .claiming ∧ t.pair.claimReason = reason ∧ t.pair.claimFrom = s.clock
      ∧ t.pair.sourceOn = false ∧ t.pair.togglePend = true ∧ t.pair.issued = s.clock
      ∧ ((s.ring .a).link = true → (RingCmd.source true, 0) ∈ (t.ring .a).cmdq) ∧ PairFrame t s)
    ∧ ∃ t, exec (row false) s = .next t ∧ t.pair.rests ∧ t.pair.sourceOn = false ∧ PairFrame t s := by
  obtain ⟨⟨t, hexec, hrole, hreason, hfrom, hsrc, htoggle, hissued, hsends, -, hframe⟩, hrests⟩ := h
  exact ⟨⟨t, hexec, hrole, hreason, hfrom, hsrc, htoggle, hissued, hsends, hframe⟩, hrests⟩

theorem takeoverDelayExpiry_takes {s : State} {l : Nat} (hon : s.roleOn = true) (hrole : s.pair.role = .standby)
    (hlost : s.pair.bothLostFrom = some l) (htime : l + s.pair.delayUs ≤ s.clock) (hstale : s.pair.stale = false ∨ s.pair.staleOk = true)
    (hsrc : s.pair.sourceOn = false) (hkeep : s.keepsRole) :
    (∃ t, exec (.takeoverDelayExpiry true) s = .next t ∧ t.pair.role = .claiming ∧ t.pair.claimReason = 1#4 ∧ t.pair.claimFrom = s.clock
      ∧ t.pair.sourceOn = false ∧ t.pair.togglePend = true ∧ t.pair.issued = s.clock
      ∧ ((s.ring .a).link = true → (RingCmd.source true, 0) ∈ (t.ring .a).cmdq) ∧ t.pair.held = s.pair.held ∧ PairFrame t s)
    ∧ ∃ t, exec (.takeoverDelayExpiry false) s = .next t ∧ t.pair.rests ∧ t.pair.sourceOn = false ∧ PairFrame t s := by
  have hends := takeoverDelayExpiry_claims hon hrole (Pair.takeoverDue_of hlost htime) hstale hsrc hkeep
  rwa [State.ClaimEnds, Pair.takeRole_claiming_held hrole] at hends

theorem tightropeHbLost_loses {s : State} (port : BitVec 2) (hon : s.roleOn = true) (hsrc : s.pair.sourceOn = false) (hhb : s.pair.tlHb = true) :
    ∃ t, exec (.tightropeHbLost port) s = .next t ∧ t.pair.tlHb = false ∧ t.pair.evt.getLsbD 3 = true
      ∧ (s.pair.role ∈ [Role.standby, Role.unqualified] → s.pair.presentTz = true → (t.slot (hostSlot 21)).real.getLsbD 0 = true)
      ∧ (s.pair.role ∈ [Role.standby, Role.unqualified] → s.pair.presentTz = false →
        (t.slot (hostSlot 21)).real.getLsbD 0 = false ∧ t.pair.bothLostFrom = some (s.pair.bothLostFrom.getD s.clock))
      ∧ t.pair.lines = ({ s.pair with tlHb := false, hbLost := true, hbStayed := false } : Pair).lines ∧ PairFrame t s := by
  obtain ⟨t, hexec, hlost, hevt, hlive, hboth, hlines, hframe⟩ := tightropeHbLost_falls port hon hsrc hhb
  exact ⟨t, hexec, hlost, hevt, fun hr htz => (hlive (Pair.resting_of_mem hr)).trans htz,
    fun hr htz => ⟨(hlive (Pair.resting_of_mem hr)).trans htz, hboth htz⟩, hlines, hframe⟩

/-- Settles O58: each row by what its own change is, and by what the judgement of the pair that follows leaves of a unit that claims, is active,
backs off or rests. A claim that qualifies passes through the stages of `State.becomeActive_eq`, after the first three of which the unit only
sends. -/
theorem pathsClaimsAndDriveGates : Obligations.PathsClaimsAndDriveGates := by
  unfold Obligations.PathsClaimsAndDriveGates
  intro s
  refine ⟨tightropeToggle_issues, tightropeToggle_idle, sourceCollapse_collapses, sourceCollapse_idle,
    fun up idle hon hq hup hl hlost => tlQualChange_crosses idle hon hq hup hl hlost,
    fun idle u q hon hopen hmode hrep hq hqual hsrc hrole hkeep => ?_,
    fun idle u q hon hopen hmode hrep hq hqual hrole hsrc hkeep => qualArrival_reclaims hon hopen hmode hrep idle hq hqual hrole hsrc hkeep,
    fun idle u q hon hopen hmode hrep hq hqual hrole hsrc hkeep => qualArrival_falls_off hon hopen hmode hrep idle hq hqual hrole hsrc hkeep,
    fun idle u q hon hopen hmode hrep hq hqual hrole => qualArrival_falls hon hopen hmode hrep idle hq hqual hrole,
    fun idle u q hon hopen hmode hrep hq hqual hrole => qualArrival_rises hon hopen hmode hrep idle hq hqual hrole,
    fun idle hon hq hdown => tlQualChange_down idle hon hq hdown, tlQualChange_idle, tlQualChange_unsourced, tightropeHbLost_loses,
    tightropeHbLost_idle, fun hon hsrc hhb => ?_, tightropeHbReturn_idle, trapezeLost_falls, trapezeLost_idle,
    fun l hon htz hhb hstayed hlost htime hleads hstale => staleLinkFail_stales hon htz hhb hstayed hlost htime hleads hstale, staleLinkFail_idle,
    fun hon hrole hconf htime huq hactive hfirst hsrc hkeep => ?_, listenTimeExpiry_idle,
    fun l hon hrole hlost htime hstale hsrc hkeep => takeoverDelayExpiry_takes hon hrole hlost htime hstale hsrc hkeep, takeoverDelayExpiry_idle,
    fun port hon hrole hqual htime hkeep => claimTimeout_backsOff port hon hrole hqual htime hkeep, claimTimeout_idle,
    fun hon hrole htime hsrc hactive huq hstart htake helse hkeep =>
      (backoffExpiry_claims hon hrole htime (Pair.claimHolds_of hactive huq hstart htake helse) hsrc hkeep).shows,
    fun idle hon hrole htime hnot => backoffExpiry_rests idle hon hrole htime (Pair.claimHolds_not hnot), backoffExpiry_idle,
    fun x g hat htime => driveGateTimeout_closes hat htime, driveGateTimeout_idle⟩
  case refine_1 =>
    obtain ⟨t, hexec, h1, h2, h3, h4, hrest⟩ := qualArrival_activates hon hopen hmode hrep idle hq hqual hrole hkeep
    exact ⟨t, hexec, h1, h2, h3, h4.trans hsrc, hrest⟩
  case refine_2 =>
    obtain ⟨t, hexec, h1, h2, h3, h4, hlive, hrest⟩ := tightropeHbReturn_rises hon hsrc hhb
    exact ⟨t, hexec, h1, h2, h3, h4, fun hr => hlive (Pair.resting_of_mem hr), hrest⟩
  case refine_3 =>
    exact (listenTimeExpiry_claims hon hrole hconf htime (Pair.startClaims_of huq hactive (hfirst.imp And.left And.right)) hsrc hkeep).shows

end Sys2Proof.Machine
end
